-- ==== Sys2Proof/Word.lean ====
section
/-! DEFINITION. The word types of the part and their plainest arithmetic: 40-bit registers (R4), bytes, bit fields
of a register (spec/00_scope.md), access classes (R7), and signed readings of bit fields (R11, R13). -/

namespace Sys2Proof.Machine

/-- A register or control quantity: 40 bits (R4, R11). -/
abbrev Reg := BitVec 40

/-- One byte. -/
abbrev Byte := BitVec 8

/-- A bit field, bits hi down to lo of a 40-bit word. -/
structure Fld where
  hi : Nat
  lo : Nat
deriving DecidableEq, Repr

/-- The access classes of R7. -/
inductive Cls where
  | ro | rw | rwp | rp | w1c | w1cp | wo | wop
deriving DecidableEq, Repr

/-- The number of bits of a field. -/
def Fld.width (f : Fld) : Nat := f.hi + 1 - f.lo

/-- A field's value in a register value. -/
def Fld.get (f : Fld) (v : Reg) : Nat := v.toNat / 2 ^ f.lo % 2 ^ f.width

/-- A register value with one field replaced; the value is cut to the field's width. -/
def Fld.set (f : Fld) (v : Reg) (x : Nat) : Reg :=
  BitVec.ofNat 40 (v.toNat % 2 ^ f.lo + x % 2 ^ f.width * 2 ^ f.lo + v.toNat / 2 ^ (f.hi + 1) * 2 ^ (f.hi + 1))

/-- The ones of a field's bits. -/
def Fld.mask (f : Fld) : Reg := f.set 0 (2 ^ f.width - 1)

/-- A Boolean as a one-bit value. -/
abbrev b2n (b : Bool) : Nat := if b then 1 else 0

/-- Two's-complement reading of the low w bits of x (R11, R13). -/
def sx (w x : Nat) : Int := if x % 2 ^ w < 2 ^ (w - 1) then (x % 2 ^ w : Nat) else (x % 2 ^ w : Nat) - (2 ^ w : Nat)

/-- The w-bit two's-complement pattern of an integer. -/
def unsx (w : Nat) (i : Int) : Nat := (i % (2 ^ w : Nat)).toNat

/-- An integer limited to lo..hi. -/
def clampI (lo hi i : Int) : Int := if i < lo then lo else if hi < i then hi else i

/-- A count that saturates at the greatest value of w bits. -/
def satInc (w n k : Nat) : Nat := min (n + k) (2 ^ w - 1)

/-- floor(a / b) for a positive divisor (toward minus infinity). -/
def fdiv (a b : Int) : Int := a / b

/-- Rounding of a / 2^n to nearest, halves upward: floor(a / 2^n + 1/2). -/
def rshr (a : Int) (n : Nat) : Int := if n = 0 then a else (a + 2 ^ (n - 1)) / 2 ^ n

/-- Bit b of a natural number used as a bitmap. -/
abbrev bitN (n b : Nat) : Bool := n.testBit b

/-- A bitmap with bit b set. -/
abbrev setBitN (n b : Nat) : Nat := n ||| 2 ^ b

/-- A bitmap with bit b cleared. -/
def clrBitN (n b : Nat) : Nat := if n.testBit b then n - 2 ^ b else n

/-- The n low bytes of x, least significant first (R4, R546). -/
def leBytes : Nat → Nat → List Byte
  | 0, _ => []
  | n + 1, x => BitVec.ofNat 8 x :: leBytes n (x / 256)

/-- A number from its bytes, least significant first. -/
def ofLe : List Byte → Nat
  | [] => 0
  | b :: t => b.toNat + 256 * ofLe t

end Sys2Proof.Machine
end

