-- ==== Sys2Proof/Machine/AMap.lean ====
section
/-! DEFINITION. A sparse map from numbers to values, as a list of pairs: the one form in which the model holds its
register file, its table windows and every other indexed store. The keys stand strictly rising and no entry equals
what an unlisted key reads as, so that equal stores are equal data (`AMap.wf`). -/

namespace Sys2Proof.Machine

/-- A sparse map: pairs of a key and a value. -/
abbrev AMap (α : Type) := List (Nat × α)

/-- The first value listed for a key. -/
def AMap.get? {α : Type} : AMap α → Nat → Option α
  | [], _ => none
  | (k, v) :: t, i => if k = i then some v else AMap.get? t i

/-- The value listed for a key, or the value an unlisted key reads as. -/
def AMap.getD {α : Type} (m : AMap α) (i : Nat) (d : α) : α := (AMap.get? m i).getD d

/-- A map with a key's entry replaced, or put in its place in rising order. -/
def AMap.ins {α : Type} : AMap α → Nat → α → AMap α
  | [], i, x => [(i, x)]
  | (k, v) :: t, i, x =>
    if i < k then (i, x) :: (k, v) :: t
    else if k = i then (i, x) :: t
    else (k, v) :: AMap.ins t i x

/-- A map without a key's entries. -/
def AMap.del {α : Type} : AMap α → Nat → AMap α
  | [], _ => []
  | (k, v) :: t, i => if k = i then AMap.del t i else (k, v) :: AMap.del t i

/-- Writing a value: writing what an unlisted key reads as removes the entry. -/
def AMap.put {α : Type} [DecidableEq α] (m : AMap α) (i : Nat) (d x : α) : AMap α :=
  if x = d then AMap.del m i else AMap.ins m i x

/-- The keys stand strictly rising from a bound. -/
def AMap.rising {α : Type} : Nat → AMap α → Bool
  | _, [] => true
  | n, (k, _) :: t => (n ≤ k) && AMap.rising (k + 1) t

/-- Canonical form over the values unlisted keys read as. -/
def AMap.wf {α : Type} [DecidableEq α] (d : Nat → α) (m : AMap α) : Bool :=
  AMap.rising 0 m && m.all (fun p => decide (p.2 ≠ d p.1))

end Sys2Proof.Machine
end

