-- ==== Sys2Proof/Machine/Types.lean ====
section
/-! DEFINITION. The plain data the state is built from, chapter by chapter: log entries, ports and sessions, boot and
mode, glove pair. Each structure names the rules of the spec that give it. -/

namespace Sys2Proof.Machine

/-! ### Events, audit, ports (chapters 16 and 18) -/

/-- An event entry (R632) without its CRC, which R632 computes from the rest when the entry is read. -/
structure EvEntry where
  num : Nat
  stamp : Nat
  code : Nat
  flags : Nat := 0
  subject : Nat := 0xFF
  detail : List Byte := []
deriving DecidableEq, Repr

/-- The event log: the SRAM buffer, oldest first, the ring in storage by slot, and the count since a run of losses
began (R633). -/
structure EvLog where
  buf : List EvEntry := []
  ring : AMap EvEntry := []
  lostRun : Nat := 0
deriving DecidableEq, Repr

/-- An audit entry (R583). -/
structure AuditEntry where
  num : Nat
  dt : Nat
  kind : Nat
  origin : Nat := 0
  node : Nat := 0
  session : Nat := 0
  index : Nat := 0
  tbl : Nat := 0
  old : Nat := 0
  new : Nat := 0
  status : Nat := 0
  seq : Nat := 0
  chain : Nat := 0
deriving DecidableEq, Repr

/-- The audit log: buffer, oldest first; mirrored ring by slot; the chain value of the last entry written; the entries
lost since the last gap entry (R580 to R583); whether a run of refusals on a full buffer is unbroken. -/
structure AuditLog where
  buf : List AuditEntry := []
  ring : AMap AuditEntry := []
  chain : Nat := 0
  lostRun : Nat := 0
  fullRun : Bool := false
deriving DecidableEq, Repr

/-- Who sent a packet: the origin coded as `CMD_SESSION.ORIGIN`, the sending node on CAN, the session, the sequence and
the QUIET flag (R546, R561). -/
structure Req where
  origin : Nat
  node : Nat := 0
  session : Nat := 0
  seq : Nat := 0
  quiet : Bool := false
deriving DecidableEq, Repr

/-- What a request asks, past its form check (R553, R641, R643): one constructor for each opcode. A `regModify` item is
an index, a mask and a value. -/
inductive Op where
  | echo (b : List Byte)
  | regRead (l : List Nat)
  | regWrite (l : List (Nat × Reg))
  | readRep (i c : Nat)
  | writeRep (i : Nat) (l : List Reg)
  | regModify (l : List (Nat × Reg × Reg))
  | modeReq (m : Nat)
  | safeReq
  | reset (guard : Nat)
  | sessOpen
  | sessAuth (resp : List Byte)
  | sessClose
  | keyProg (key : List Byte) (crc : Nat)
  | queueRead (q skip c : Nat)
  | auditRead (first c : Nat)
  | eventRead (first c : Nat)
  | updBegin (len : Nat)
  | updBlock (kind num : Nat) (b : List Byte)
  | updCheck
  | updActivate
  | updConfirm
  | updAbort
  | recTrigger
  | recList (first c : Nat)
  | recRead (num off len : Nat)
deriving DecidableEq, Repr

/-- A request at a port: who sent it, its opcode, what it asks (none when its opcode or its form fails), whether its frame
or CRC failed, its CRC when it came as bytes, FDF and BRS of a tunnelled request (R612), and whether it has lost an
arbitration (R575). -/
structure Ask where
  req : Req
  code : Nat
  op : Option Op := none
  crcBad : Bool := false
  crc : Option Nat := none
  fdf : Bool := false
  brs : Bool := false
  sup : Bool := false
deriving DecidableEq, Repr

/-- A reply: status and payload (R547). -/
structure Reply where
  status : Nat
  payload : List Byte := []
deriving DecidableEq, Repr

/-- One command port, or the port of one tunnelling node (R541 to R545, R611): requests arrived and not answered, oldest
first; whether the oldest waits for the glove pair; replies waiting to be fetched; DROPPED since the last fetch; the
unbroken runs of drops and of bad CRCs; and the status word shifted out in front of the last frame (R541). -/
structure Port where
  waiting : List Ask := []
  held : Bool := false
  replies : List (List Byte) := []
  dropped : Bool := false
  dropRun : Bool := false
  crcRun : Bool := false
  word : Nat := 0
deriving DecidableEq, Repr

/-- The last request an origin executed and its reply (R552). -/
structure LastReq where
  session : Nat
  seq : Nat
  code : Nat
  crc : Option Nat
  op : Option Op
  at_ : Nat
  reply : Reply
deriving DecidableEq, Repr

/-- A session open or awaiting authentication (R562 to R568). -/
structure Session where
  origin : Nat
  node : Nat := 0
  auth : Bool := false
  nonce : Nat := 0
  opened : Nat := 0
  last : Nat := 0
deriving DecidableEq, Repr

/-- An origin's failed responses (their ticks) and the tick at which its lock-out ends, 0 when none (R566). -/
structure Lockout where
  fails : List Nat := []
  until_ : Nat := 0
deriving DecidableEq, Repr

/-! ### Boot and modes (chapter 2) -/

/-- Where the boot sequence of the cold start stands. `off`: a supply is below its threshold; `wait`: both supplies good,
the 2 ms wait of R50 runs; `clock`: reset released, the crystal under supervision (step 3); `image` (4), `selftest` (5),
`plant` (6), `links` (7, 8): the step being worked on; `held`: a warm reset is asserted (R698); `run`: boot has ended;
`standby`: STANDBY, with D0 stopped. -/
inductive Phase where
  | off | wait | clock | image | selftest | plant | links | held | run | standby
deriving DecidableEq, Repr

/-- How a boot began: cold reset, warm reset, or wake (R58, R64). -/
inductive BootKind where
  | cold | warm | wake
deriving DecidableEq, Repr

/-- A held request: the order's origin and session, its sequence and stamp, and what it asks (R73, R74). For a mode
request `what` is the mode; for an enable it is the value to write. -/
structure Held where
  req : Req
  what : Nat
  stamp : Nat
deriving DecidableEq, Repr

/-- Boot, reset, mode transition, STO and wake state that no register holds (chapter 2). -/
structure Boot where
  phase : Phase := .off
  kind : BootKind := .cold
  /-- Elapsed time at which the present phase began. -/
  since : Nat := 0
  vcoreFell : Bool := false
  vioFell : Bool := false
  powerOn : Bool := true
  /-- A warm reset's cause bit, and whether `nRESET` still holds it. -/
  pinLow : Bool := false
  imageBad : Bool := false
  wakes : List (Nat × Nat) := []
  /-- The real-time clock: `SEC` at its last write or reset, and the elapsed time then (R66). -/
  rtcSec : Nat := 0
  rtcAt : Nat := 0
  /-- Events raised during boot, logged as it ends (R41, R336): code, subject, values. -/
  later : List (Nat × Nat × List (Nat × Nat)) := []
  /-- The tick at which a software reset is asserted (R559, R651). -/
  resetDue : Option Nat := none
  /-- Elapsed time at which STANDBY stopped D0 (R25). -/
  stopAt : Option Nat := none
  /-- Device time since which the filtered STO levels differ (R82). -/
  stoDiff : Option Nat := none
  /-- The last measurement of interior speed was below 256 (R18). -/
  paceRun : Bool := false
deriving DecidableEq, Repr

/-- A mode transition in progress: what it still waits for (an orderly stop, a discharge of the link, the STANDBY
mirror), whether the stop's RAMP has run out (R74), the tick it began, and who asked for it. -/
structure Trans where
  /-- The STANDBY mirror: 0 none is due, 1 it waits for one being written, 2 it has been taken (R497). -/
  mir : Nat := 0
  stop : Bool := false
  disch : Bool := false
  forced : Bool := false
  began : Nat := 0
  req : Option Req := none
deriving DecidableEq, Repr

/-! ### The plant description (R330, R331) -/

/-- A TIMING record. -/
structure TimingRec where
  group : Nat
  mode : Nat
  src : Nat
  srcGroup : Nat
  div : Nat
  p : Nat
  ofs : Nat
deriving DecidableEq, Repr

/-- A CONVERTER record. KIND: 0 traction machine, 1 DC-DC, 2 chopper, 3 front end, 4 dual active bridge, 5 actuator,
6 other. -/
structure ConvRec where
  index : Nat
  kind : Nat
  prio : Nat
  hold : Bool
  group : Nat
  sel : Nat
deriving DecidableEq, Repr

/-- A UNIT record; 63 stands for no island, 31 for no phase-sense input. -/
structure UnitRec where
  hb : Nat
  conv : Nat
  mode : Nat
  islH : Nat
  islL : Nat
  phs : Nat
  ofs : Nat
deriving DecidableEq, Repr

/-- A SENSOR record. -/
structure SensorRec where
  chan : Nat
  conv : Nat
  mode : Nat
  avg : Nat
  every : Nat
  dec : Nat
  at_ : Nat
deriving DecidableEq, Repr

/-- A GRAPH record: its index, the converters it serves, and where its image (R267) stands among the description's words
and how long it is. -/
structure GraphRec where
  g : Nat
  convs : Nat
  pos : Nat
  len : Nat
deriving DecidableEq, Repr

/-- One channel of the RECORDER record. -/
structure RecChan where
  src : Nat
  chan : Nat
  rate : Nat
deriving DecidableEq, Repr

/-- A plant description, read from its words. -/
structure Plant where
  ident : Nat
  timings : List TimingRec := []
  convs : List ConvRec := []
  units : List UnitRec := []
  sensors : List SensorRec := []
  graphs : List GraphRec := []
  recs : List RecChan := []
  words : List Reg := []
deriving DecidableEq, Repr

/-! ### Recorder (R635 to R640) -/

/-- One value a recorded channel took: its stamp, the tick it arrived, the 16-bit sample. -/
structure RecVal where
  stamp : Nat
  arr : Nat
  val : Nat
deriving DecidableEq, Repr

/-- A capture: number, header state (0 RECORDING, 1 COMPLETE, 2 PARTIAL, 3 DAMAGED), trigger kind, `TAPSHIFT`, trigger
tick, event code, PRE and POST in ticks, plant identifier, slot, the tick at which it ended, and per channel its record,
NO_SOURCE, and the values its samples are taken from. -/
structure Capture where
  num : Nat
  st : Nat := 0
  kind : Nat := 1
  shift : Nat := 0
  t : Nat := 0
  code : Nat := 0
  pre : Nat := 0
  post : Nat := 0
  ident : Nat := 0
  slot : Nat := 0
  chans : List (RecChan × Bool × List RecVal) := []
  endT : Nat := 0
deriving DecidableEq, Repr

/-- The recorder: the tick of arming, the channels' values still in the history, the capture being written, the captures
in the slots, the slot last used, and an unbroken run of missed triggers. -/
structure Recorder where
  armedAt : Nat := 0
  hist : AMap (List RecVal) := []
  cur : Option Capture := none
  /-- The highest capture number given (R640). -/
  lastNum : Nat := 0
  slots : AMap Capture := []
  lastSlot : Option Nat := none
  missRun : Bool := false
deriving DecidableEq, Repr

/-! ### Gate islands, protection and the selector (chapters 3 and 4) -/

/-- What an island and its lane hold beside their registers. -/
structure Isl where
  /-- The module's last command: on or off, and the steps (625 ps) of the last commanded on- and off-edge. -/
  cmdOn : Bool := false
  onStep : Nat := 0
  offStep : Nat := 0
  /-- The step at which the gate's output last changed: by a command, a lock-out, a soft turn-off or the fallback; later than
  the command where bad frames delayed the edge (R111). -/
  gateStep : Nat := 0
  /-- The step of the gate's last turn-on edge (R131). -/
  rise : Nat := 0
  /-- After a lock-out the gate stays off until a commanded off and a later on-edge (R95, R125). -/
  needOff : Bool := false
  /-- Elapsed tick at which the 100 µs of R95 end, when they run. -/
  okDue : Option Nat := none
  /-- Lock-outs of VDD and VEE that the link has not carried yet (R93). -/
  uvVdd : Bool := false
  uvVee : Bool := false
  /-- Lock-out entries of the last second (R96), bad frames of the last 100 µs (R112) and whether that run is reported. -/
  locks : List Nat := []
  bads : List Nat := []
  badRun : Bool := false
  /-- An unbroken run of on-state voltage reports at the end of the range (`VDS_RANGE`). -/
  vdsRun : Bool := false
  /-- The Kelvin path's integral since the turn-on edge, in nV·s (R132). -/
  kelvin : Nat := 0
  /-- A detection on its way to the interior: stamp, desaturation, Kelvin path (R135). -/
  det : Option (Nat × Bool × Bool) := none
  /-- Soft turn-off runs until this elapsed tick (R134). -/
  softEnd : Option Nat := none
  /-- The profile the last edge runs: its number, its segments as (strength code, ticks) with the values they had when it
  began, and the step it began (R102 to R106). -/
  prof : Nat := 0
  segs : List (Nat × Nat) := []
  segAt : Nat := 0
  /-- The calibration of the island's delay on its present link is due (R109). -/
  calDue : Bool := false
  /-- Sample midpoint sent with the last on-edge, steps (R188). -/
  mid : Nat := 0
deriving DecidableEq, Repr

/-- Why the selector applies a machine's safe state: the bits of `Sel.why`. -/
abbrev Why.detect : Nat := 0
abbrev Why.trip : Nat := 1
abbrev Why.pairEsc : Nat := 2
abbrev Why.degraded : Nat := 3
abbrev Why.shed : Nat := 4
abbrev Why.lostLink : Nat := 5
abbrev Why.ov1 : Nat := 6
abbrev Why.safe : Nat := 7
abbrev Why.gate : Nat := 8
abbrev Why.stop : Nat := 9
abbrev Why.charge : Nat := 10

/-- A selector channel beside its registers (R148 to R158). -/
structure Sel where
  /-- Bitmap of the causes that apply the safe state (`Why`). -/
  why : Nat := 0
  /-- The first detection of the open two-leg window: stamp and unit (R142). -/
  first : Option (Nat × Nat) := none
  twoLeg : Bool := false
  /-- Row 1 has given active short and holds (R152); since when the speed has stayed below 0.9 N_AS. -/
  held : Bool := true
  below : Option Nat := none
  /-- A speed refresh has been seen and was not stale since (R148); its tick. -/
  known : Bool := false
  fresh : Option Nat := none
  /-- Tick at which the shorting side is commanded on (R154). -/
  swapDue : Option Nat := none
  /-- The hand-back takes effect at the machine's next boundary (R187). -/
  back : Bool := false
  /-- Whether the islands stand in the commanded short, and whether it was built with impaired islands on both sides. -/
  shorted : Bool := false
  degr : Bool := false
  /-- Bitmaps of the machine's islands: impaired when last evaluated (R154); in lock-out since the machine was put into its
  safe state (R155); without a link under an on fallback, until calibrated again (R697). -/
  imp : Nat := 0
  off : Nat := 0
  lost : Nat := 0
deriving DecidableEq, Repr

/-- A converter's standing beside its registers: what holds it and what it has passed since. -/
structure Conv where
  /-- Enabled by its host order or its supervisor. -/
  en : Bool := false
  /-- A pre-start verdict: none valid, PASS, or a failure; whether the last verdict ever given was a failure (R57). -/
  verdict : Option Bool := none
  failed : Bool := false
  /-- Its verdict ended since the run in progress began, so that run leaves it none (R57). -/
  spoiled : Bool := false
  /-- Since CONV_SAFE was set: the module has passed through READY, and a covering run has passed (R137). -/
  ready : Bool := false
  passed : Bool := false
  cleared : Bool := false
  /-- Consecutive disagreeing complete checkpoints (R320), and consecutive missed deadlines (R37). -/
  mism : Nat := 0
  missed : Nat := 0
  /-- Escalated: off until its ENG_PAIR_CONV bit clears and the host enables it (R321, R346). -/
  esc : Bool := false
  /-- 0 no unit failure holds it; 1 from the failure to the first boundary, 2 to the second, 3 in degraded hold (R342). -/
  hold : Nat := 0
  /-- Turned off by the orderly stop (R68). -/
  off : Bool := false
deriving DecidableEq, Repr

/-- What the gate tests of R159 measure at one used island: ticks of 100 ns until a 1.0 V rise (none in 200 µs), whether
the gate fell again in 20 µs, and the first test (by its order in R159) during which it passed VEEn + 1.5 V. -/
structure GateTest where
  isl : Nat
  rise : Option Nat
  sank : Bool := true
  high : Option Nat := none
deriving DecidableEq, Repr

/-- A DESAT node's reading (R130, R131): the island, the node's voltage in mV, and for how many ticks it has stood there. -/
structure DesatReading where
  isl : Fin 48
  mv : Nat
  above : Nat
deriving DecidableEq, Repr

/-- What the node tests read at one machine unit (R159 to R161): its own node in mV under its own injection, under the
injections of the other two phases of its star, in the rail test, and the raw codes its sense input gave (R222). -/
structure PhsTest where
  unit : Nat
  own : Nat := 0
  other1 : Nat := 0
  other2 : Nat := 0
  rail : Nat := 0
  codes : List Int := []
deriving DecidableEq, Repr

/-- What the rail test reads (R162, R163): the gates it watches and the machine units' nodes. -/
structure RailReading where
  gates : List GateTest
  phs : List PhsTest
deriving DecidableEq, Repr

/-- A change at a comparator of the link (R396, R397): ticks passed since the command before, and the voltage in µV at which
the pin has stood for the comparator's time. -/
structure PinEdge where
  e : Nat
  uv : BitVec 24
deriving DecidableEq, Repr

/-- An encoder input at an edge (R249): for how many conversion clocks its level has been stable. -/
structure EdgePace where
  held : Nat
deriving DecidableEq, Repr

/-- Bytes that come in through a crossing FIFO, and how many entries of it they met it full with (R21, R23). -/
structure Arrival where
  bytes : List Byte
  lost : Nat
deriving DecidableEq, Repr

/-- A difference the pair comparator finds at a complete checkpoint, in the order found (R317, R320): the graph, the kind code,
and for a set value the converter that owns it. -/
structure PairDiff where
  g : Nat
  kind : Nat
  conv : Nat
deriving DecidableEq, Repr

/-! ### PWM (chapter 5) -/

/-- A shadow value on its way: unit (33 stands for the period), register offset (1 DUTY_H, 2 DUTY_L, 3 PHASE, 4 CTRL),
value. -/
structure Shadow where
  unit : Nat
  off : Nat
  val : Nat
deriving DecidableEq, Repr

/-- One gate edge of a unit: absolute step of 625 ps, high side or low, on or off, profile index or none, and for a
high-side on-edge the pulse midpoint (R173, R188, R189). -/
structure Edge where
  step : Nat
  high : Bool
  on : Bool
  prof : Option Nat := none
  mid : Nat := 0
deriving DecidableEq, Repr

/-- A half-bridge unit beside its registers: the committed values; the on-times in steps of the period in force and of
the period to come; the edges scheduled and not yet fallen, and those of the period to come; carries; the pulse of each
side (on-step, width) in the period in force and in the one to come (R176, R194); the trip window and count's window end;
the stamp of the first trip of this period; a latch release waiting for the boundary; the last EV_SHOOT_BLOCK. -/
structure Unit where
  dutyH : Nat := 0
  dutyL : Nat := 0
  phase : Nat := 0
  ctrl : Nat := 0
  tH : Nat := 0
  tL : Nat := 0
  edges : List Edge := []
  next : List Edge := []
  nextTH : Nat := 0
  nextTL : Nat := 0
  carryH : Int := 0
  carryL : Int := 0
  lastH : Nat := 0
  lastL : Nat := 0
  pulseH : Option (Nat × Nat) := none
  pulseL : Option (Nat × Nat) := none
  nextH : Option (Nat × Nat) := none
  nextL : Option (Nat × Nat) := none
  win : Option Nat := none
  tripAt : Option Nat := none
  relPend : Bool := false
  lastShoot : Option Nat := none
deriving DecidableEq, Repr

/-- A timebase beside its registers. -/
structure Tb where
  run : Bool := false
  /-- Present boundary, period in force, count of periods since start; the start still to come. -/
  b : Nat := 0
  p : Nat := 4000
  len : Nat := 4000
  no : Nat := 0
  first : Bool := false
  /-- The open set; the closed sets waiting for a deadline, each value with the tick of its token (R34); whether a token closed
  one; and whether a value or a token has met the commit FIFO full (R24). -/
  openSet : List Shadow := []
  closed : List (Nat × Shadow) := []
  token : Bool := false
  full : Bool := false
  /-- Made at the deadline for the coming boundary: done, held, refused, and the period to come. -/
  ready : Bool := false
  hold : Bool := false
  refuse : Bool := false
  nextP : Nat := 4000
  /-- Made at the deadline with `nextP`: the length of the coming period. -/
  nextLen : Nat := 4000
  /-- A chain follower: the source boundary its present period hangs on, and its place after that boundary (R203). -/
  srcB : Nat := 0
  idx : Nat := 0
  /-- SYNC_IN tracking (R206, R207): the last edge accepted or seen; the error still to be slewed; an error found by an edge,
  and the tick from which it acts (R27); tracking; error 0 reached. -/
  lastEdge : Option Nat := none
  err : Int := 0
  found : Option (Nat × Int) := none
  syncOn : Bool := false
  locked : Bool := false
deriving DecidableEq, Repr

/-! ### Measurement (chapter 6) -/

/-- A result on its way to a queue, or an entry of one (R236), with its full stamp. -/
structure QEnt where
  stamp : Nat
  chan : Nat
  sample : Nat
  seq : Nat := 0
  qual : Bool := false
  rep : Bool := false
  range : Bool := false
  lost : Bool := false
  unset : Bool := false
deriving DecidableEq, Repr

/-- A crossing FIFO into the interior (R21): what stands in it, oldest first, each element the entries it becomes with
their queues; and an unbroken run of discards (R23). -/
structure Xf where
  ents : List (List (Nat × QEnt)) := []
  run : Bool := false
deriving DecidableEq, Repr

/-- A sequencer slot whose conversion is scheduled (R231): its channel, queue, averaging, stamp, the tick its result is
due in the FIFO, its trigger number, the calibration in force, and whether it will carry REPEAT. -/
structure SlotDue where
  chan : Nat
  queue : Nat
  avg : Nat
  stamp : Nat
  due : Nat
  seq : Nat
  cal : Reg
  rep : Bool := false
deriving DecidableEq, Repr

/-- A closed integration window whose result is due (R233). -/
structure IntWin where
  b : Nat
  len : Nat
  no : Nat
  cal : Reg
  rep : Bool := false
deriving DecidableEq, Repr

/-- An ADC beside its registers. -/
structure Adc where
  /-- The configuration is in effect since a boundary of its timebase (R229). -/
  act : Bool := false
  lastChan : Option Nat := none
  /-- The sequence runs until this tick (R232); the slots whose results are still to come. -/
  busyTill : Nat := 0
  slots : List SlotDue := []
  ovRun : Bool := false
  /-- Windows closed and not yet reported; the present window was opened at a boundary. -/
  open_ : Bool := false
  wins : List IntWin := []
  cont : Nat := 0
  /-- Consecutive samples whose lanes differ by more than 32 (R223). -/
  lanes : Nat := 0
  /-- The present period is re-measured (R224). -/
  rep : Bool := false
  /-- Calibrations still in force for a channel after a write, until the next boundary (R220). -/
  pin : AMap Reg := []
deriving DecidableEq, Repr

/-- A result queue (R236 to R242): entries oldest first, a discard since the last entry, an unbroken run of discards. -/
structure Que where
  ents : List QEnt := []
  lost : Bool := false
  run : Bool := false
deriving DecidableEq, Repr

/-- A SENT receiver (R252 to R254). -/
structure Sent where
  prevCal : Nat := 0
  fails : Nat := 0
  oks : Nat := 0
  valid : Nat := 0
  lastOk : Nat := 0
  /-- Signal 0 of the newest accepted message and whether it carried QUAL (R466). -/
  sig0 : Option (Nat × Bool) := none
deriving DecidableEq, Repr

/-- The measurement block's hidden state. -/
structure Meas where
  adc : AMap Adc := []
  xf : AMap Xf := []
  que : AMap Que := []
  sent : AMap Sent := []
  /-- Ticks of the queue writes of the last 1 ms (`QUE_RATE.PEAK`). -/
  wrote : List Nat := []
  /-- The voltage at each comparator's pin, in microvolts, and the comparators whose pin stands outside its window (R225). -/
  wpin : AMap Int := []
  wraw : Nat := 0
  /-- Tick at which each comparator was last released. -/
  wend : AMap Nat := []
  /-- Reference buffer: the tick at which it settles (R54), and the ticks at which `SETTLED` last fell and last rose (R217). -/
  refDue : Option Nat := none
  refFell : Nat := 0
  refRose : Nat := 0
  /-- Resolver faults and encoder faults standing in an unbroken run; encoders carrying QUAL (R247, R250, R251). -/
  resRun : Nat := 0
  encRun : Nat := 0
  encQual : Nat := 0
  /-- Each encoder's edges of the last 100 µs, and the one before the newest however old, newest first, each with its tick and
  whether it counted up (R249). -/
  encEdge : AMap (List (Nat × Bool)) := []
  /-- The queue of each non-ADC channel, and of each island's reports (R253, R256), by the placement. -/
  chanQ : AMap Nat := []
  islQ : AMap Nat := []
deriving DecidableEq, Repr

/-! ### Control engines (chapters 7, 8 and 10) -/

/-- An activation that has begun (R273): its period number, its boundary, the tick it began, the instance to execute next,
the outgoing set, what SETOUTs offer with their dividers, what TAPs copy, how many of the oldest entries of each queue it
has read (R284), its duration beside waits, the tick at which its waiting QIN gives up (R283), whether its graph has been
suspended or its timebase has gone meanwhile: it still runs to its end, but its set stands for no checkpoint (R275, R341);
and whether its pair has failed, so that it marks nothing as read (R324). -/
structure Act where
  n : Nat
  b : Nat
  start : Nat
  idx : Nat := 0
  set : List Shadow := []
  offers : List (Nat × Int × Nat) := []
  taps : List (Nat × Int) := []
  stood : AMap Nat := []
  dur : Nat := 0
  lag : Nat := 0
  wait : Option Nat := none
  spent : Bool := false
  lost : Bool := false
deriving DecidableEq, Repr

/-- What an activation left for its checkpoint (R318): its period number, the tick both tokens stood in the FIFO, its set
and its offers. -/
structure DoneSet where
  n : Nat
  tick : Nat
  set : List Shadow
  offers : List (Nat × Int × Nat)
deriving DecidableEq, Repr

/-- What a MEAN QIN has gathered since its instance's previous activation: sum, count, the entries' flags joined. -/
structure MeanAcc where
  sum : Int := 0
  cnt : Nat := 0
  fl : Nat := 0
deriving DecidableEq, Repr

/-- An observer beside its eight state words (R379 to R386): phase as `TRX_Mm_OBS.PHASE`, the number of the start's
activation, the runs of R381, ok, the polarity readings, the accumulated motion in 2^-32 turn, the boundary of ACCEL's
first activation, the abort cause, the direction the start began with, the d axis found, and the last outputs. -/
structure Obs where
  phase : Nat := 0
  k : Nat := 0
  okRun : Nat := 0
  badRun : Nat := 0
  ok : Bool := false
  p1 : Int := 0
  motion : Int := 0
  accAt : Nat := 0
  why : Nat := 0
  dir : Bool := false
  thd : Nat := 0
  w : Int := 0
  psi : Int := 0
deriving DecidableEq, Repr

/-- A loaded graph's run state (R267, R273 to R276, R280, R291). -/
structure Graph where
  /-- Boundary notices not yet taken: period number, boundary, and the status it carries: 1 held, 2 refused (R184). -/
  notices : List (Nat × Nat × Nat) := []
  /-- The state is loaded at the next activation (R276). -/
  fresh : Bool := true
  st : List Int := []
  out : AMap Int := []
  flg : AMap Nat := []
  act : Option Act := none
  done : List DoneSet := []
  prevEnd : Nat := 0
  mean : AMap MeanAcc := []
  /-- Instances whose QIN is in an unbroken run of stale results. -/
  staleRun : List Nat := []
  /-- The observers, by instance. -/
  obs : AMap Obs := []
  /-- The graph mirror (R291): state, flags, signals, and the millisecond of DT it was last refreshed in. -/
  mSt : List Int := []
  mFlg : AMap Nat := []
  mOut : AMap Int := []
  mAt : Nat := 0
  /-- The control state was carried from the set values and parameters alone (STATE_INIT), and a handover is due. -/
  init : Bool := false
deriving DecidableEq, Repr

/-- A hand-off slot (R300 to R304): what its readers see from a period on, what those of earlier periods still see, and what is
due for a later period. Status as in R303. -/
structure Hand where
  val : Reg := 0
  st : Nat := 2
  since : Nat := 0
  old : Reg × Nat := (0, 2)
  next : Option (Nat × Reg × Nat) := none
deriving DecidableEq, Repr

/-- The pedal evaluator (R310 to R312): state code, request, the positions, the track SINGLE trusts, and the boundary of
the last activation at which each condition did not hold: A invalid, B invalid, disagreement, released. -/
structure Pedal where
  state : Nat := 3
  y : Int := 0
  pa : Int := 0
  pb : Int := 0
  useB : Bool := false
  notA : Option Nat := none
  notB : Option Nat := none
  notD : Option Nat := none
  notR : Option Nat := none
deriving DecidableEq, Repr

/-- The engines' hidden state: graphs, set-point slots written (R285), hand-off slots, the stage of the graph window and
the words whose APPLY waits (R292, R293), and the pedal. A staged word is the graph window address, the parameter offset
and the value. -/
structure Eng where
  graph : AMap Graph := []
  sp : AMap Reg := []
  hand : AMap Hand := []
  stage : List (Nat × Nat × Reg) := []
  stageG : Nat := 0
  /-- The words each graph's acknowledged APPLY has still to put in force (R293). -/
  apply_ : AMap (List (Nat × Reg)) := []
  pedal : Pedal := {}
deriving DecidableEq, Repr

/-- A start attempt and the torque path of a machine beside its registers (R358 to R391). -/
structure Trx where
  /-- T*, in units of 2^-31, and its value when the module's stop began (R68, R364). -/
  t : Int := 0
  t0 : Int := 0
  stopping : Bool := false
  /-- Tick of the last `TREQ` write or enable; an automatic limp runs (R365, R366). -/
  lastTreq : Nat := 0
  limpAuto : Bool := false
  /-- Since when a regenerative target has exceeded its limit, and since when no short-brake condition holds (R368). -/
  sbSince : Option Nat := none
  sbIdle : Option Nat := none
  /-- START_WAIT began at this tick (R385). -/
  waitAt : Nat := 0
  /-- A start's phase other than ABORT has been seen since it began. -/
  fresh : Bool := false
  /-- The machine runs on the observer's angle after losing its sensor (R376); since when the sensor is usable again; the
  ramp toward the return runs (R377). -/
  fell : Bool := false
  retSince : Option Nat := none
  retRamp : Bool := false
  /-- The torque ramps to 0 because the machine is demagnetised (R390). -/
  demag : Bool := false
  /-- Back-EMF window: start, sum and count of the reports, all valid; runs of windows beyond a limit, within, below 0.75
  (R387 to R390). -/
  keAt : Nat := 0
  keSum : Int := 0
  keCnt : Nat := 0
  keOk : Bool := true
  keAbn : Nat := 0
  keNorm : Nat := 0
  keLow : Nat := 0
deriving DecidableEq, Repr

/-- The control pilot (R305 to R308, R430 to R432): the presented duty, the accepted duties of the consecutive cycles that
end with the newest, newest first, the tick of the last accepted cycle and of the last edge, the pin read as steady; both
plateaus in microvolts; the state last decoded and how often in a row, in cycles or in steady windows. -/
structure Pilot where
  duty : Nat := 0
  hist : List Nat := []
  lastOk : Nat := 0
  lastEdge : Nat := 0
  steady : Bool := false
  vhi : Int := 0
  vlo : Int := 0
  dec : Nat := 7
  runs : Nat := 0
deriving DecidableEq, Repr

/-- The AC monitor (R435): the sign of v12's last entry, the last rising zero crossing, sums of squares and counts of the
three voltages in the present cycle, their newest entries, in codes. -/
structure AcMon where
  neg : Bool := false
  cross : Option Nat := none
  sums : List Nat := [0, 0, 0]
  cnts : List Nat := [0, 0, 0]
  newest : List Int := [0, 0, 0]
deriving DecidableEq, Repr

/-- What one activation of the AC monitor gives the sequencer: its boundary, whether the amplitude is below `VLOSS`, the
tick of the last rising zero crossing, and the cycles that ended: length, lowest RMS in 2^-16 V, all three in range. -/
structure AcRes where
  b : Nat
  low : Bool
  cross : Option Nat
  cycles : List (Nat × Nat × Bool) := []
deriving DecidableEq, Repr

/-- The charge sequencer beside its registers (chapter 12). -/
structure Chg where
  ac : AcMon := {}
  acRes : List AcRes := []
  /-- Good and bad cycles in a row, since when the amplitude is low (R436); the lowest RMS, 2^-16 V. -/
  good : Nat := 0
  bad : Nat := 0
  lowAt : Option Nat := none
  vmin : Nat := 0
  /-- Entries of the charger's channels that arrived since the last activation: channel, stamp, value. -/
  inbox : List (Nat × Nat × Int) := []
  /-- Charge meter (R448): IBAT and VBAT in 2^-16, the last boundary, AH in 2^-16 A times ticks. -/
  ibat : Int := 0
  vbat : Int := 0
  meterAt : Option Nat := none
  ah : Nat := 0
  /-- ILIM_V in 2^-16 of 0.1 A (R437), whether it has governed in this session, and avail in 2^-31 of IBASE. -/
  ilimV : Nat := 0
  vregSeen : Bool := false
  ilim : Nat := 0
  avail : Int := 0
  /-- The module was in CHARGE at the last evaluation (R444). -/
  inCharge : Bool := false
  /-- Last evaluation; the wall clock and whether it has started; the time spent in the phase; since when the phase's
  leaving condition, and the low input limit, hold (R441, R447, R450). -/
  evalAt : Nat := 0
  clock : Nat := 0
  began : Bool := false
  spent : Nat := 0
  cond : Option Nat := none
  lowI : Option Nat := none
  /-- SP27 in 2^-40 A (R447). -/
  cur : Int := 0
  /-- Battery temperature in 1/16 °C and its last write; a session's first temperature is still to come (R445, R446). -/
  tbat : Option Int := none
  tbatAt : Nat := 0
  first : Bool := true
  /-- The tick the presented state last became C; an A presented since (R440, R443). -/
  cAt : Nat := 0
  sawA : Bool := false
  /-- The handover's stamp, its causes in order (END_WHY codes, 15 for a suspension), HO_DEV, its completion; a replug in
  time (R441, R442, R454). -/
  s : Nat := 0
  causes : List Nat := []
  dev : Bool := false
  doneAt : Nat := 0
  replug : Bool := false
  /-- The follow regulator's accumulator, 2^-62 (R453). -/
  acc : Int := 0
deriving DecidableEq, Repr

/-- Traction: the machines, the maps' entries (map × 16,384 + index), a validation running and when it began, what
storage holds of each map (its entries, and its axis and CRC registers), and the machines recorded as demagnetised in
the lifetime store (R391). -/
structure Traction where
  mach : AMap Trx := []
  map : AMap Reg := []
  valid : Option (Nat × Nat) := none
  stored : AMap (AMap Reg × List Reg) := []
  demag : Nat := 0
deriving DecidableEq, Repr

/-- What the electrical-mechanical pair decides for other chapters (R681, R682, R684): the link is held for the partner,
the partner's chopper counts as available, the AC input is shared by half (R683), and each machine's share D of a lost torque. -/
structure PairUse where
  hold : Bool := false
  chop : Bool := false
  half : Bool := false
  d : AMap Int := []
deriving DecidableEq, Repr

/-! ### The DC link (chapter 11) -/

/-- The link supervisor beside its registers: whether the DC-DC follows (R452) and the value of SP23 then; the ends of the
waits of R418 and R420; good monitor checks in a row; the reports of the present checked pulse (mV, whether it may be
checked, RANGE) and the verdict given to the last pulses in a row; the resistor's heat in pJ; the chopper's on-time gathered
in steps and the step its switches were commanded on; the test interval's start and whether it is spoilt. -/
structure Dcl where
  follow : Bool := false
  sp23 : Int := 0
  regenDue : Option Nat := none
  ov1Due : Option Nat := none
  good : Nat := 0
  repH : Option (Int × Bool × Bool) := none
  repL : Option (Int × Bool × Bool) := none
  /-- Whether current was present in the pulse that has ended (R409). -/
  cur : Option Bool := none
  last : Nat := 0
  runs : Nat := 0
  heat : Nat := 0
  onAcc : Nat := 0
  onAt : Option Nat := none
  testAt : Nat := 0
  testBad : Bool := false
  /-- The chopper's duty of the coming period, once its deadline is met, and of the period in force, in 2^-31 (R407, R424). -/
  duty : Nat := 0
  dutyNow : Nat := 0
  /-- The tick since which LINK has been in force, and since which the link has stood within ±5 % of VREF (R454). -/
  linkAt : Nat := 0
  nearAt : Option Nat := none
deriving DecidableEq, Repr

/-! ### Gearbox actuators (chapter 13) -/

/-- An actuator beside its registers (R464 to R475). Angles are in units of 2^-32 turn, positions in 2^-31 of travel. -/
structure ActSt where
  /-- Hall count, its sector in force (none before a first valid code), whether the count is known (a mirror was restored or
  `REF` written), the ticks of the errors of the last second, an unbroken run of errors, too many of them. -/
  cnt : Int := 0
  sector : Option Nat := none
  known : Bool := false
  errs : List Nat := []
  errRun : Bool := false
  hallBad : Bool := false
  /-- `POS_OK` as the supervisor last saw it (R480). -/
  okSeen : Bool := false
  /-- The count as mirrored to the lifetime store (R467). -/
  mirror : Option Int := none
  /-- Entry to MOVING (R470), since when the position is in the window, and whether it stands there as R469 left it. -/
  moveAt : Nat := 0
  posSince : Option Nat := none
  held : Bool := false
  /-- The end of a 100 ms brake and whether FAULT follows it (R471, R474, R480). -/
  brakeEnd : Option Nat := none
  toFault : Bool := false
  /-- The start in progress: its phase's beginning, pos0, reverse direction, the ALIGN angle; START_WAIT's beginning; the
  learned offset EANG (R472 to R474). -/
  phAt : Nat := 0
  pos0 : Int := 0
  rev : Bool := false
  base : Nat := 0
  waitAt : Nat := 0
  eang : Nat := 0
deriving DecidableEq, Repr

/-! ### Junction temperature and lifetime (chapter 14) -/

/-- An island's lifetime data (R490 to R494) and its estimator beside its registers. Temperatures are in 1/16 °C. -/
structure LifeIsl where
  /-- The running extreme, the direction, the residue (newest first), the half-cycle counts by cell, the damage accumulator
  in 2^-40 of a life, the highest TJ, and whether the damage warning has been raised. -/
  cand : Option Int := none
  dir : Int := 0
  stack : List Int := []
  mat : AMap Nat := []
  acc : Nat := 0
  peak : Int := 0
  warned : Bool := false
deriving DecidableEq, Repr

/-- What the estimator of an island remembers: the last on-state report (millivolts, sample instant, UNCAL or RANGE), the
tick of the last raw estimate, the tick of its unit's last edge, and the NTC temperature that has stood within ±0.5 °C with
the tick since which it has (R486 to R489). -/
structure LifeEst where
  rep : Option (Int × Nat × Bool) := none
  lastRaw : Nat := 0
  edgeAt : Nat := 0
  ref : Int := 0
  since : Nat := 0
deriving DecidableEq, Repr

/-- A lifetime record (R496, R630): its generation, its kind (1 periodic, 2 STANDBY, 3 request, 4 clear), the snapshot
tick, the RTC time, and the body. Curves are keyed 65 × island + word, weights 64 × set + word. -/
structure LifeRec where
  gen : Nat := 0
  kind : Nat := 1
  tick : Nat := 0
  rtc : Nat := 0
  isl : AMap LifeIsl := []
  curve : AMap Reg := []
  weight : AMap Reg := []
deriving DecidableEq, Repr

/-- The lifetime region of SRAM and its tables, the mirror being written, the record slots of the store by slot, the next
10-minute point of DT, and the elapsed time of the last completed mirror (R496 to R499). -/
structure Life where
  isl : AMap LifeIsl := []
  est : AMap LifeEst := []
  curve : AMap Reg := []
  weight : AMap Reg := []
  gen : Nat := 0
  pend : Option LifeRec := none
  slots : AMap LifeRec := []
  next : Nat := 120000000000
  doneAt : Option Nat := none
deriving DecidableEq, Repr

/-! ### The placer (chapter 9) -/

/-- A unit failure on its way to the placer (R341): the kind and index of `PLC_LAST_FAIL`, the graph concerned where it is a
pair's, its stamp, and whether the control state is taken from the initial state area. -/
structure PFail where
  kind : Nat
  index : Nat
  graph : Nat := 8
  stamp : Nat := 0
  init : Bool := false
deriving DecidableEq, Repr

/-- A re-placement under way (R343 to R346): the failure, the graphs suspended, the reserve unit taken (none for a region),
the tick at which the load completes, and whether each suspended graph's first set has been committed. -/
structure Repl where
  fail : PFail
  graphs : Nat
  reserve : Option Nat := none
  loadAt : Nat := 0
  done : Nat := 0
deriving DecidableEq, Repr

/-- The placer beside its registers: the plant window, the proof running (its words, when it began, whether it is a
re-proof at boot), the failures waiting, the re-placement under way, the reserve pair and ADC, the descriptions in the two
plant slots of storage with the latest generation, a write of an accepted description to storage in progress; the 4 KiB blocks
of the reserve pool that are not free, each with what it serves (`Use`), and the failed pairs (bits 0 to 7) and ADCs (bits 8 to
19) since acceptance. -/
structure Plc where
  win : AMap Reg := []
  proof : Option (List Reg × Nat) := none
  fails : List PFail := []
  cur : Option Repl := none
  rsvPair : Option Nat := none
  rsvAdc : Option Nat := none
  slots : AMap (List Reg) := []
  gen : Nat := 0
  storing : Bool := false
  blocks : AMap Nat := []
  down : Nat := 0
deriving DecidableEq, Repr

/-! ### Storage and update (chapter 18) -/

/-- What a boot finds of an eMMC device that completes its initialisation (R623 to R627): its capacity in 16 MiB, its life
estimates and PRE_EOL_INFO, and whether it holds no valid layout descriptor. -/
structure EmmcInfo where
  cap : Nat
  lifeA : Nat := 0
  lifeB : Nat := 0
  eol : Nat := 0
  blank : Bool := false
deriving DecidableEq, Repr

/-- A release (R642): version, rollback value, and for each part the export format and the import range. -/
structure Release where
  ver : Nat := 0
  roll : Nat := 0
  fmts : List (Nat × Nat × Nat) := []
deriving DecidableEq, Repr

/-- The storage manager: whether a layout is in force, N, the releases of the image sets, the active set, the store
descriptor's generation, the OTP rollback counter, the running release, and whether wear was reported since boot. -/
structure Sto where
  laid : Bool := false
  n : Nat := 0
  sets : AMap Release := []
  active : Nat := 0
  gen : Nat := 0
  otp : Nat := 0
  run : Release := {}
  wear : Bool := false
deriving DecidableEq, Repr

/-- A field update (R643 to R650): L, the manifest and data blocks stored, the tick at which the present activation or
fallback window began, the release in the old banks, and a commit without a leapfrog (R651). -/
structure Upd where
  len : Nat := 0
  man : AMap (List Byte) := []
  data : AMap (List Byte) := []
  at_ : Nat := 0
  old : Release := {}
  direct : Bool := false
deriving DecidableEq, Repr

/-! ### The glove pair (chapter 15) -/

/-- A pair-link message (R676) beside its counter: mode, nFAULT, ROLE, HOLDER, the machines' safe states, chopper
available, DC-DC mode, front end running, charge session, T* of both machines in request terms, the link's voltage and
the DT of the snapshot. -/
structure PairMsg where
  ctr : Nat := 0
  mode : Nat := 7
  nfault : Bool := false
  role : Bool := false
  holder : Bool := false
  app : Nat := 0
  chop : Bool := false
  dcdc : Nat := 0
  fe : Bool := false
  sess : Nat := 0
  t0 : Int := 0
  t1 : Int := 0
  vlink : Nat := 0
  dt : Nat := 0
deriving DecidableEq, Repr

/-- What a journal entry carries that the gloves act on: a request of a port (by its key), a pair-link message, or
something they only count. -/
inductive JBody where
  | none
  | ask (key : Nat)
  | msg (m : PairMsg)
deriving DecidableEq, Repr

/-- A journal entry (R509), with the interval it is assigned to (R510, R512). -/
structure JEnt where
  seq : Nat
  stamp : Nat
  iv : Nat
  src : Nat
  defer : Bool := false
  body : JBody := .none
deriving DecidableEq, Repr

/-- The snapshot of a SAMPLE entry (R511): the registers, the set-point slots, and the islands whose gate echo disagrees
with the selector (R528). -/
structure Snap where
  regs : AMap Reg := []
  sp : AMap Reg := []
  echo : List Nat := []
deriving DecidableEq, Repr

/-- An order of R572 as arbitration sees it: the port's key, the request, its stamp, and what it sets: index, field, value;
`live` while it has not lost. -/
structure Order where
  key : Nat
  req : Req
  stamp : Nat
  sets : List (Nat × Fld × Nat) := []
  live : Bool := true
deriving DecidableEq, Repr

/-- A conflict resolved (R575): winner, loser, the register, the values each ordered, and the port and sequence of the
request whose release reports it. -/
structure Conflict where
  win : Req
  lose : Req
  idx : Nat
  old : Nat
  wval : Nat
  lval : Nat
  key : Nat
  seq : Nat
deriving DecidableEq, Repr

/-- The glove pair beside its registers. -/
structure Glove where
  /-- The cores run (from step 5 of the cold start), and their self-test failed. -/
  on : Bool := false
  testBad : Bool := false
  /-- The number of the next checkpoint, and the first interval whose outputs are not released. -/
  next : Nat := 0
  rel : Nat := 0
  ents : List JEnt := []
  /-- Sources that wait for room, or for the halt to end: their code and entry (R513, R534). -/
  wait : List (Nat × JBody) := []
  /-- Entries assigned to each interval; the last interval that deferred, plus one. -/
  cnt : AMap Nat := []
  deferIv : Nat := 0
  snaps : AMap Snap := []
  orders : List Order := []
  confs : List Conflict := []
  /-- Runs of disagreeing echoes, by island. -/
  echo : AMap Nat := []
  /-- Cores that reported an uncorrectable cache error for the present interval: bit 0 GL, bit 1 GR. -/
  fatal : Nat := 0
  /-- Elapsed tick of the last agreed checkpoint, and the tick at which the watchdog's reset is due. -/
  agreeAt : Nat := 0
  wdDue : Option Nat := none
  /-- A halt requested or reached: its position and cause; the tick it was reached; after a resume, the checkpoint at
  which journal writing restarts and the tick from which records are compared. -/
  haltPos : Option (Nat × Nat) := none
  haltAt : Nat := 0
  restart : Option Nat := none
  cmpFrom : Nat := 0
deriving DecidableEq, Repr

/-! ### CAN (chapter 17) -/

/-- A frame (R588, R589, R596). -/
structure CanFrame where
  fdf : Bool := false
  brs : Bool := false
  esi : Bool := false
  rtr : Bool := false
  ide : Bool := false
  dlc : Nat := 0
  id : Nat := 0
  data : List Byte := []
deriving DecidableEq, Repr

/-- A frame to send, with RETRY, FAILS, STATUS and the last start of frame (R596, R600). -/
structure CanBox where
  frame : CanFrame
  retry : Nat := 31
  fails : Nat := 0
  status : Nat := 0
  sof : Nat := 0
deriving DecidableEq, Repr

/-- A receive entry (R596). -/
structure CanRx where
  frame : CanFrame
  filt : Nat
  lost : Bool := false
  sof : Nat := 0
deriving DecidableEq, Repr

/-- A packet being reassembled (R610): its node, the bytes so far, the next counter, the tick of its last segment, and FDF
and BRS of its first. -/
structure TunIn where
  node : Nat
  bytes : List Byte := []
  ctr : Nat := 1
  last : Nat := 0
  fdf : Bool := false
  brs : Bool := false
deriving DecidableEq, Repr

/-- A reply on its way through the tunnel-reply source (R612): the node, and its frames still to send. -/
structure TunOut where
  node : Nat
  frames : List CanBox := []
deriving DecidableEq, Repr

/-- A controller beside its registers. The frame in flight is named by its source: mailbox 0 to 31, 32 the queue's entry
`flyQ`, 33 the heartbeat, 34 the tunnel reply. -/
structure CanCtl where
  mb : AMap CanBox := []
  q : List CanBox := []
  hb : Option CanBox := none
  /-- The heartbeat that replaces the one in flight. -/
  hbNext : Option CanBox := none
  tout : List TunOut := []
  fly : Option Nat := none
  flyQ : Nat := 0
  cancel : Bool := false
  rx : List CanRx := []
  lost : Bool := false
  rxRun : Bool := false
  fifoRun : Bool := false
  tin : List TunIn := []
  /-- Frames that wait while the glove pair is halted, each with the tick at which it became valid (R534). -/
  wait : List (Nat × CanFrame) := []
  filt : AMap Reg := []
  /-- Filter words replaced in the last second, newest first: the tick of the write, the word, what it held (R605). -/
  filtWas : List (Nat × Nat × Reg) := []
  /-- The controller waits for 11 recessive bits (R588, R592). -/
  integ : Bool := false
deriving DecidableEq, Repr

/-- A partner entry (R615, R621), with FULL state of the interval in 10 ms. -/
structure Partner where
  ctl : Nat
  node : Nat
  up : Bool := true
  kind : Nat := 0
  iv : Nat := 1
  status : Nat := 0
  ctr : Nat := 0
  serial : Nat := 0
  stamp : Nat := 0
deriving DecidableEq, Repr

/-- The CAN block: controllers, partner table by entry, an unbroken run of full-table refusals, the heartbeat's counter and
when it was last sent. -/
structure Can where
  ctl : AMap CanCtl := []
  parts : AMap Partner := []
  fullRun : Bool := false
  hbCtr : Nat := 0
  hbAt : Nat := 0
deriving DecidableEq, Repr

/-! ### The redundant pair (chapter 19) -/

/-- The pair functions beside their registers: good messages in a row, the tick of the last good one, the message the
supervisor last took and the one before it, the own counter and the last message sent, whether a mismatch of R678 lasts,
and since when each timed condition has held: the partner's DC-DC out of LINK, RUNNING in LINK, its front end stopped,
RUNNING with no machine in its safe state; Tloss while redistribution is active. -/
structure Pair where
  run : Nat := 0
  last : Option Nat := none
  cur : Option PairMsg := none
  old : Option PairMsg := none
  ctr : Nat := 0
  sent : List Byte := []
  bad : Bool := false
  outAt : Option Nat := none
  inAt : Option Nat := none
  feAt : Option Nat := none
  okAt : Option Nat := none
  loss : Option Int := none
  seen : Nat := 0
deriving DecidableEq, Repr

end Sys2Proof.Machine
end

