-- ==== Sys2Proof/Syntax.lean ====
section
/-! DEFINITION. The commands of the block: one constructor for each row of spec/opcode_table.json, in its order. The first
operand e of every command is the time that has passed since the command before it, in ticks of 5 ns (R10); the other
operands are what the row's rule takes from outside the part: an index, a register value, a packet, a measured code. -/

namespace Sys2Proof

/-- The commands and events of spec/opcode_table.json. -/
inductive Instr where
  /-- SUPPLY_GOOD (R50): VCORE and VIO both stand above their rising thresholds, which starts the 2 ms wait before reset is released. -/
  | supplyGood (e : Nat) (fromBelow : Bool)
  /-- RESET_RELEASE (R50): 2 ms after both supplies are good, reset is released, D7 starts and the cold start begins. -/
  | resetRelease (e : Nat)
  /-- SUPPLY_FALL (R60): VCORE or VIO falls below its falling threshold; a cold reset is asserted and DEV_RST_CAUSE records the supplies that fell. -/
  | supplyFall (e : Nat) (vcore : Bool) (vio : Bool)
  /-- VANA_LOW (R48): VANA falls below its falling threshold: SAFE cause VANA_LOW, REF set again and EV_SUPPLY_LOW raised. -/
  | vanaLow (e : Nat)
  /-- VANA_GOOD (R54): VANA rises above its rising threshold, which starts the 5 ms reference settling count. -/
  | vanaGood (e : Nat)
  /-- REF_SETTLED (R54): 5 ms after the later of buffer enable and VANA good, DEV_ENTRY_BLOCK.REF clears, SETTLED sets and EV_REF_SETTLED is raised. -/
  | refSettled (e : Nat)
  /-- NRESET_LOW (R59): A low level at nRESET of sufficient length asserts a complete warm reset. -/
  | nresetLow (e : Nat) (ns : Nat)
  /-- WARM_RESET_RELEASE (R698): The warm-reset source ends (pin high, or 10 µs after a software or watchdog cause) and boot runs from step 3 with DT continuing. -/
  | warmResetRelease (e : Nat)
  /-- CRYSTAL_SUPERVISION (R30): Boot step 3 ends with the reference locked to a good crystal, or boot continues on the fallback reference and will end in SAFE with cause CLOCK. -/
  | crystalSupervision (e : Nat) (good : Bool)
  /-- BOOT_IMAGE_LOAD (R52): Boot step 4 completes: the boot image is read and its signature checked, or BOOT_FAIL is set and the recovery program is used. -/
  | bootImageLoad (e : Nat) (d0 : Option Machine.EmmcInfo) (d1 : Option Machine.EmmcInfo) (img : Bool) (life : Bool)
  /-- GLOVE_SELFTEST (R530): The boot self-test of both glove cores, caches and comparator completes; a failure raises EV_GLOVE_SELFTEST and boot ends in SAFE with cause GLOVE. -/
  | gloveSelftest (e : Nat) (pass : Bool)
  /-- PLANT_REPROOF (R336): At boot step 6 the stored plant description is re-proved, leaving it in force or leaving none. -/
  | plantReproof (e : Nat)
  /-- BOOT_END (R41): Boot step 8 ends the boot and enters READY or SAFE, raising EV_RESET and the boot-time events. -/
  | bootEnd (e : Nat) (a : Bool) (b : Bool)
  /-- CRYSTAL_LOSS (R30): The crystal is declared lost: the module switches to the internal oscillator, sets FALLBACK and XTAL_LOST, raises EV_CLOCK_FALLBACK and enters SAFE. -/
  | crystalLoss (e : Nat)
  /-- PACE_MEASUREMENT (R18): Every millisecond the interior speed is measured into FAB_PACE, with PACE_LOW and EV_PACE_LOW below 256. -/
  | paceMeasurement (e : Nat) (pace : BitVec 16)
  /-- HANDSHAKE_WAIT_END (R22): An interior producer waiting at a full crossing FIFO gets room and delivers its entry. -/
  | handshakeWaitEnd (e : Nat) (level : Fin 5) (ticks : Nat)
  /-- SRAM_SCRUB (R32): A background scrub read at L5 checks SRAM words for ECC errors. -/
  | sramScrub (e : Nat) (word : BitVec 22) (out : Fin 3)
  /-- MODE_REQUEST (R41): Opcode MODE_REQUEST asks for a mode transition; it is refused, answered OK or QUEUED, or begins the transition at an agreed checkpoint. -/
  | modeRequest (e : Nat) (r : Machine.Req) (mode : Fin 8)
  /-- SAFE_REQUEST (R44): Opcode SAFE_REQUEST, decoded in the port domain, drives the L0 SAFE line so every gate reaches its SAFE state within 1 µs. -/
  | safeRequest (e : Nat) (r : Machine.Req)
  /-- MODE_TRANSITION_COMPLETE (R46): A transition completes: DEV_MODE changes, TRANSIT clears and EV_MODE is raised. -/
  | modeTransitionComplete (e : Nat)
  /-- STOP_RAMP_TIMEOUT (R69): A stage that has not reached zero current within 2 × RAMP is turned off anyway with FORCED_OFF, or passed to the selector and SAFE with cause PROT. -/
  | stopRampTimeout (e : Nat)
  /-- DISCHARGE_COMPLETE (R70): The link has stayed below 60 V for 10 ms and STANDBY is entered. -/
  | dischargeComplete (e : Nat) (vl : BitVec 13)
  /-- DISCHARGE_LIMIT_EXPIRY (R72): The link is not below 60 V within DISCH_LIMIT; discharge stops, EV_DISCHARGE_SLOW is raised and the module stays in READY. -/
  | dischargeLimitExpiry (e : Nat)
  /-- WAKE_CAUSE (R64): An enabled wake source in STANDBY restarts boot from step 3, with DT resumed and the cause queued for EV_WAKE. -/
  | wakeCause (e : Nat) (cause : Fin 7)
  /-- RTC_WRITE (R66): A write of DEV_RTC sets SEC, zeroes FRAC and sets SET. -/
  | rtcWrite (e : Nat) (r : Machine.Req) (v : BitVec 40)
  /-- RTC_ALARM_WRITE (R67): A write of DEV_RTC_ALARM arms the alarm, or is answered BAD_PARAM for a time already past. -/
  | rtcAlarmWrite (e : Nat) (r : Machine.Req) (v : BitVec 40)
  /-- RTC_ALARM (R67): The RTC reaches the alarm second; EN clears, and in STANDBY with RTC wake enabled this is a wake cause. -/
  | rtcAlarm (e : Nat)
  /-- STO_FILTER_EXPIRY (R81): STO_A or STO_B low for longer than FILTER enters SAFE with cause STO. -/
  | stoFilterExpiry (e : Nat) (pin : Fin 2)
  /-- STO_DISCREPANCY (R82): STO_A and STO_B differ beyond DISCREP: STO_DISCREP set, EV_STO_DISCREPANCY raised and SAFE entered. -/
  | stoDiscrepancy (e : Nat)
  /-- LINK_60V (R80): In SERVICE with a halted core or forced output, the link reaches 60 V and SAFE is entered with cause LINK_60V. -/
  | link60v (e : Nat) (vl : BitVec 13)
  /-- SAFE_CAUSE_CLEAR (R78): A W1CP write to DEV_SAFE_CAUSE clears each bit whose condition has ended; clearing OV2 releases its latch. -/
  | safeCauseClear (e : Nat) (r : Machine.Req) (v : BitVec 40)
  /-- ISL_LOCKOUT_ENTRY (R92): An island supply crosses its lock-out threshold; the clamp path turns the gate off and the L0 lane reports EV_ISL_LOCKOUT. -/
  | islLockoutEntry (e : Nat) (n : Fin 48) (vdd : Bool) (vee : Bool)
  /-- ISL_LOCKOUT_RELEASE (R91): Both island supplies rise past their release thresholds, which starts the 100 µs supply-good wait. -/
  | islLockoutRelease (e : Nat) (n : Fin 48) (vdd : Bool) (vee : Bool)
  /-- ISL_SUPPLY_OK (R95): After 100 µs of good supplies the island raises EV_ISL_SUPPLY_OK and keeps its gate off, or reapplies its fallback state if its link is silent. -/
  | islSupplyOk (e : Nat) (n : Fin 48)
  /-- ISL_SEQ (R96): The supply-sequence monitor fires on a timed or counted condition, setting SEQ_ERR and raising EV_ISL_SEQ. -/
  | islSeq (e : Nat) (n : Fin 48) (why : Fin 2)
  /-- ISL_POWER_UP (R61): The island die leaves reset when VDDn − COMn rises above 7.0 V, holding the off state and no latch. -/
  | islPowerUp (e : Nat) (n : Fin 48)
  /-- ISL_PROFILE_WRITE (R106): A write of ISLnn_PROFp is sent to the island and takes effect from the next edge that selects the profile. -/
  | islProfileWrite (e : Nat) (r : Machine.Req) (n : Fin 48) (p : Fin 8) (v : BitVec 40)
  /-- ISL_BAD_FRAME (R111): A link frame fails its check; it is ignored, ERR_COUNT advances and a pending edge is applied late. -/
  | islBadFrame (e : Nat) (n : Fin 48) (down : Bool)
  /-- ISL_LINK_DOWN (R113): No good upstream frame for 1 µs; the link is declared down and EV_ISL_LINK_DOWN is raised. -/
  | islLinkDown (e : Nat) (n : Fin 48)
  /-- ISL_FALLBACK_APPLY (R61): After 2 µs without a good downstream frame the island applies its held fallback state, or off if latched. -/
  | islFallbackApply (e : Nat) (n : Fin 48)
  /-- ISL_LINK_UP (R114): A returned link finishes training, raises EV_ISL_LINK_UP and starts calibration. -/
  | islLinkUp (e : Nat) (n : Fin 48)
  /-- ISL_TRIM_REMEASURE (R110): Every 10 ms each link round trip is re-measured and the trim moves by at most one step. -/
  | islTrimRemeasure (e : Nat) (n : Fin 48) (ps : Nat)
  /-- ISLAND_CALIBRATION (R109): Island delay calibration completes, setting TRIM and CAL_DONE or CAL_FAIL with EV_ISL_CAL_FAIL. -/
  | islandCalibration (e : Nat) (n : Fin 48) (ps : Nat)
  /-- ISL_VDS_REPORT (R119): An island's on-state report arrives, corrected by R117, and enters ISLnn_TEL_VDS and the result queues. -/
  | islVdsReport (e : Nat) (n : Fin 48) (code : BitVec 12)
  /-- ISL_ENV_REPORT (R122): The island's 100 µs report of NTC temperature and supplies arrives and updates ISLnn_TEL_ENV. -/
  | islEnvReport (e : Nat) (n : Fin 48) (code : BitVec 12) (vdd : BitVec 12) (vee : BitVec 12)
  /-- LV_LOCKOUT (R124): VAUX or a bootstrap supply falls below its lock-out threshold; the affected low-voltage gates go low and the event is raised. -/
  | lvLockout (e : Nat) (which : Fin 10)
  /-- LV_LOCKOUT_RELEASE (R125): A low-voltage supply rises above its release threshold; a released high side stays off until its next turn-on edge. -/
  | lvLockoutRelease (e : Nat) (which : Fin 10)
  /-- LV_GATE_CHECK (R126): 2 µs after an edge a channel's gate voltage fails its check; the half-bridge stops and EV_LV_GATE is raised. -/
  | lvGateCheck (e : Nat) (ch : Fin 18) (mv : Nat)
  /-- DESAT_DETECTION (R131): Desaturation is detected at the later of filter completion and blanking end, and soft turn-off begins. -/
  | desatDetection (e : Nat) (n : Machine.DesatReading)
  /-- KELVIN_OC_DETECTION (R133): The Kelvin-path integral reaches ITHR and soft turn-off begins. -/
  | kelvinOcDetection (e : Nat) (n : Fin 48) (nvs : Nat)
  /-- SOFT_TURN_OFF_END (R134): After (SOFT_DUR + 1) × 50 ns the hardware clamp path engages. -/
  | softTurnOffEnd (e : Nat) (n : Fin 48)
  /-- DETECTION_RECEIVED (R136): A detection reaches the interior; the converter is commanded off or its machine passed to the selector, with EV_DESAT or EV_KELVIN_OC. -/
  | detectionReceived (e : Nat) (n : Fin 48)
  /-- SELECTOR_SPEED_REFRESH (R148): The selector speed of a machine is refreshed from its resolver, encoder or observer. -/
  | selectorSpeedRefresh (e : Nat) (m : Fin 2) (src : Fin 4) (rpm : BitVec 32)
  /-- SPEED_STALE (R148): A selector speed older than 1 ms becomes unknown, setting SPEED_STALE and raising EV_SPEED_STALE. -/
  | speedStale (e : Nat) (m : Fin 2)
  /-- ACTIVE_SHORT_HOLD_EXPIRY (R152): Speed has stayed below 0.9 × N_AS for 10 ms, so rows 2 to 4 decide the result again. -/
  | activeShortHoldExpiry (e : Nat) (m : Fin 2)
  /-- SWAP_DT_EXPIRY (R154): SWAP_DT after the last off-edge, the unimpaired islands of the shorting side are commanded on. -/
  | swapDtExpiry (e : Nat) (m : Fin 2)
  /-- PRESTART_RUN (R56): A 1 written to PROT_PRE_CTRL.RUN in READY starts pre-start diagnostics. -/
  | prestartRun (e : Nat) (r : Machine.Req)
  /-- PRESTART_DONE (R165): A pre-start run completes, recording verdicts and raising EV_PRESTART_DONE and any EV_PRESTART_FAIL. -/
  | prestartDone (e : Nat) (gates : List Machine.GateTest) (phs : List Machine.PhsTest)
  /-- RAIL_TEST (R162): The link first reaches VMIN in READY and the pending rail test runs. -/
  | railTest (e : Nat) (link : Nat) (phs : Machine.RailReading)
  /-- TIMEBASE_START (R170): A timebase begins to run; its first period starts 5 µs later or at its source's next start, with both switches held off. -/
  | timebaseStart (e : Nat) (j : Fin 6)
  /-- SHADOW_WRITE (R181): A host write to a PWM shadow register enters the open set of a host-owned timebase. -/
  | shadowWrite (e : Nat) (r : Machine.Req) (sh : Fin 138) (v : BitVec 40)
  /-- PWM_COMMIT (R183): A 1 written to PWM_COMMIT places the commit token that closes a host-owned timebase's open set. -/
  | pwmCommit (e : Nat) (r : Machine.Req) (tbs : BitVec 6)
  /-- COMMIT_DEADLINE (R184): At B − 50 the set is checked for completeness and pair agreement, then converted, overlap-checked and shaped for the boundary. -/
  | commitDeadline (e : Nat) (j : Fin 6) (diffs : List Machine.PairDiff) (vl : BitVec 13)
  /-- PERIOD_BOUNDARY (R184): At boundary B the new set takes force, latch releases and EN apply, trips re-arm and the boundary notice is issued. -/
  | periodBoundary (e : Nat) (j : Fin 6) (vl : BitVec 13)
  /-- TJ_INVALID (R489): TJ without a raw estimate for 1 s becomes invalid, or switches to the NTC source for a still unit. -/
  | tjInvalid (e : Nat) (n : Fin 48)
  /-- GATE_EDGE (R173): A committed or selector-commanded gate edge falls in D0 and is sent to the island. -/
  | gateEdge (e : Nat) (k : Fin 33)
  /-- TRIP_ASSERT (R197): A selected trip source asserts; the unit's switches are commanded off at t + 2 for the rest of the period. -/
  | tripAssert (e : Nat) (src : Fin 72) (on : Bool)
  /-- LATCH_RELEASE (R201): A 1 written to a PWM_LATCH bit releases the converter's units at the next boundary. -/
  | latchRelease (e : Nat) (r : Machine.Req) (mask : BitVec 33)
  /-- SYNC_IN_EDGE (R206): A rising SYNC_IN edge is accepted for slewing the timebase, or ignored and counted as missed. -/
  | syncInEdge (e : Nat)
  /-- SYNC_LOST (R207): Three expected windows without an accepted edge set LOST and raise EV_SYNC_LOST. -/
  | syncLost (e : Nat)
  /-- PWM_FORCE (R208): A write of PWM_FORCE in SERVICE sets a unit's sides directly, subject to the interlock. -/
  | pwmForce (e : Nat) (r : Machine.Req) (v : BitVec 40)
  /-- ADC_TRIGGER (R230): A sample-mode trigger falls and starts the ADC's sequence. -/
  | adcTrigger (e : Nat) (n : Fin 12)
  /-- ADC_SLOT_RESULT (R231): A sequence slot completes and its result enters the D1 result or position FIFO. -/
  | adcSlotResult (e : Nat) (n : Fin 12) (codes : List Int)
  /-- INTEGRATOR_RESULT (R233): A period-integrating ADC delivers its window result at B + P + 40. -/
  | integratorResult (e : Nat) (n : Fin 12) (first : Int) (codes : List Int)
  /-- CONTINUOUS_SAMPLE (R235): A continuous-mode ADC queues every 2^DEC-th sample. -/
  | continuousSample (e : Nat) (n : Fin 12) (code : Int)
  /-- ADC_LANE (R224): An ADC fails its lane comparison; it stops, EV_ADC_LANE is raised and the failure goes to the placer. -/
  | adcLane (e : Nat) (n : Fin 12) (diff : Nat)
  /-- QUEUE_WRITE (R236): A result is written as a tagged 64-bit entry into its result queue. -/
  | queueWrite (e : Nat) (k : Fin 1024)
  /-- QUEUE_ACK (R240): A write of n to QUE_Qqq_ACK frees the n oldest entries of a host queue. -/
  | queueAck (e : Nat) (r : Machine.Req) (q : Fin 32) (n : BitVec 14)
  /-- WCMP_ASSERT (R226): A window comparator stays asserted for FILT ticks and gives a trip stamp. -/
  | wcmpAssert (e : Nat) (c : Fin 64) (uv : BitVec 24)
  /-- AIN_CAL_WRITE (R220): A write of ADC_AINcc_CAL takes effect at the next boundary of the bound timebases. -/
  | ainCalWrite (e : Nat) (r : Machine.Req) (c : Fin 64) (v : BitVec 40)
  /-- REF_ENABLE_WRITE (R216): A write of ADC_REF_CTRL.EN turns the reference buffer on or off, refused off in DRIVE or CHARGE. -/
  | refEnableWrite (e : Nat) (r : Machine.Req) (on : Bool)
  /-- RES_FAULT (R247): Resolver LOS or LOT sets RES_FAULT, raises EV_RES_FAULT and stops the selector speed refresh. -/
  | resFault (e : Nat) (r : Fin 2) (mv : BitVec 16) (err : BitVec 32)
  /-- ENC_FAULT (R250): An illegal encoder transition leaves the count unchanged and raises EV_ENC_FAULT. -/
  | encFault (e : Nat) (k : Fin 2)
  /-- ENC_Z_PULSE (R249): A Z pulse with ZRST loads the count with ZVAL and ends the QUAL marking. -/
  | encZPulse (e : Nat) (k : Fin 2)
  /-- SENT_MESSAGE (R252): A SENT message is checked and either yields two entries or is discarded as an error. -/
  | sentMessage (e : Nat) (r : Fin 8) (cal : Nat) (pulses : List Nat) (slow : Option (Bool × BitVec 8 × BitVec 16))
  /-- SENT_LOST (R254): LOSTN failed messages or LOSTN ms without acceptance set LOST and raise EV_SENT_LOST. -/
  | sentLost (e : Nat) (r : Fin 8)
  /-- GRAPH_ACTIVATION (R273): A graph runs its instances once for a boundary and produces its outgoing set. -/
  | graphActivation (e : Nat) (g : Fin 8) (dur : Nat) (lag : Nat)
  /-- QIN_WAIT_END (R283): A PERIOD-mode QIN's awaited entry arrives or its WAIT expires, and the activation continues. -/
  | qinWaitEnd (e : Nat) (g : Fin 8)
  /-- ENG_STORE (R264): An uncorrectable engine-store error fails the engine, raises EV_ENG_STORE and reports a unit failure. -/
  | engStore (e : Nat) (n : Fin 16) (word : Fin 13107) (fatal : Bool)
  /-- GWIN_DATA_READ (R291): A read of ENG_GWIN_DATA returns a graph word and advances the address. -/
  | gwinDataRead (e : Nat) (r : Machine.Req)
  /-- GWIN_DATA_WRITE (R292): A write of ENG_GWIN_DATA stages a parameter word. -/
  | gwinDataWrite (e : Nat) (r : Machine.Req) (v : BitVec 40)
  /-- APPLY (R293): ENG_GWIN_CTRL.APPLY checks the stage and schedules it, or refuses it with APPLY_FAIL. -/
  | apply (e : Nat) (r : Machine.Req)
  /-- DISCARD (R294): ENG_GWIN_CTRL.DISCARD empties the parameter stage. -/
  | discard (e : Nat) (r : Machine.Req)
  /-- ENG_CLR_COUNTS (R695): ENG_CTRL.CLR_COUNTS zeroes the corrected-error and stale counts. -/
  | engClrCounts (e : Nat) (r : Machine.Req)
  /-- CLR_TIME_MAX (R695): ENG_CTRL.CLR_TIME_MAX zeroes every activation-time maximum and LAG_MAX. -/
  | clrTimeMax (e : Nat) (r : Machine.Req)
  /-- GRAPH_FLAG_CLEAR (R280): A 1 written to an ENG_Gg_FLAGS bit clears it in the register and every instance. -/
  | graphFlagClear (e : Nat) (r : Machine.Req) (g : Fin 8) (mask : BitVec 4)
  /-- FAB_CLR_COUNTS (R695): FAB_CTRL.CLR_COUNTS zeroes the FIFO overflow, ECC and deadline counts. -/
  | fabClrCounts (e : Nat) (r : Machine.Req)
  /-- CLR_BLOCK_MAX (R695): FAB_CTRL.CLR_BLOCK_MAX zeroes FAB_BLOCK_MAX1 to FAB_BLOCK_MAX5. -/
  | clrBlockMax (e : Nat) (r : Machine.Req)
  /-- PILOT_CYCLE (R305): A control-pilot cycle ends at a rising edge; it is accepted or not, and plateaus and presented duty are updated. -/
  | pilotCycle (e : Nat) (len : Nat) (high : Nat) (falls : Nat) (hs : Int) (hn : Nat) (ls : Int) (ln : Nat)
  /-- PILOT_STEADY (R307): No pilot edge for 3 ms: the pin is read as steady and the duty follows its level. -/
  | pilotSteady (e : Nat) (high : Bool)
  /-- PILOT_NO_CYCLE (R307): Edges arrive but no cycle is accepted for 10 ms, so the presented duty becomes 0. -/
  | pilotNoCycle (e : Nat)
  /-- PILOT_WINDOW (R430): While the pin is steady, each 1 ms window forms both plateaus and decodes a state. -/
  | pilotWindow (e : Nat) (sum : Int) (n : Nat)
  /-- PWIN_DATA_READ (R332): A read of PLC_PWIN_DATA returns the window word and advances the address. -/
  | pwinDataRead (e : Nat) (r : Machine.Req)
  /-- PWIN_DATA_WRITE (R332): A write of PLC_PWIN_DATA stores a plant word, BUSY while a proof runs. -/
  | pwinDataWrite (e : Nat) (r : Machine.Req) (v : BitVec 40)
  /-- PWIN_RESET (R332): PLC_CTRL.PWIN_RESET sets PLC_PWIN_ADDR to 0. -/
  | pwinReset (e : Nat) (r : Machine.Req)
  /-- SUBMIT (R333): PLC_CTRL.SUBMIT starts a proof of the window content. -/
  | submit (e : Nat) (r : Machine.Req)
  /-- PROOF_COMPLETE (R335): A proof ends; an accepted description replaces the old one, a refused one sets PLC_RESULT. -/
  | proofComplete (e : Nat)
  /-- UNIT_FAILED (R341): A unit failure reaches the placer; affected graphs are suspended and EV_UNIT_FAILED is raised. -/
  | unitFailed (e : Nat)
  /-- REPLACED (R346): The reserve's first set is committed, the suspension clears and EV_REPLACED is raised. -/
  | replaced (e : Nat)
  /-- GLOVE_CHECKPOINT (R506): At each 50 µs checkpoint the gloves compare records, release outputs and run the supervisors. -/
  | gloveCheckpoint (e : Nat) (vl : BitVec 13) (diff : Option (Fin 4 × Fin 3)) (work : BitVec 16)
  /-- JOURNAL_WRITE (R510): An input is written once as a journal entry and assigned to its interval. -/
  | journalWrite (e : Nat) (src : Fin 16)
  /-- GLOVE_WATCHDOG (R524): 2 ms without an agreed checkpoint drives the L0 glove SAFE request and asserts nFAULT. -/
  | gloveWatchdog (e : Nat)
  /-- WATCHDOG_RESET (R524): 10 µs after the watchdog fires a warm reset with cause WATCHDOG follows. -/
  | watchdogReset (e : Nat)
  /-- GLOVE_CACHE (R529): A glove cache error is corrected or marks the interval's record CACHE, raising EV_GLOVE_CACHE. -/
  | gloveCache (e : Nat) (core : Fin 2) (fatal : Bool)
  /-- HALT (R533): GLV_DBG_CTRL.HALT requests a halt of both cores at journal position p. -/
  | halt (e : Nat) (r : Machine.Req)
  /-- GLOVE_HALT_REACHED (R533): Both cores stop at p, HALTED sets and EV_GLOVE_HALT is raised. -/
  | gloveHaltReached (e : Nat)
  /-- STEP (R535): GLV_DBG_CTRL.STEP consumes one entry in both cores and compares their records. -/
  | step (e : Nat) (r : Machine.Req) (diff : Option (Fin 4 × Fin 3))
  /-- RESUME (R536): GLV_DBG_CTRL.RESUME or an exit condition resumes the cores and raises EV_GLOVE_RESUME. -/
  | resume (e : Nat) (r : Machine.Req)
  /-- BREAKPOINT_WRITE (R532): A write of GLV_DBG_BRK arms or disarms the journal breakpoint. -/
  | breakpointWrite (e : Nat) (r : Machine.Req) (v : BitVec 40)
  /-- DWIN_DATA_READ (R537): A read of GLV_DWIN_DATA returns a halted core's working-state word. -/
  | dwinDataRead (e : Nat) (r : Machine.Req)
  /-- MACHINE_ENABLE (R359): A write of TRX_Mm_CTRL.EN = 1 enables the machine or is refused WRONG_MODE. -/
  | machineEnable (e : Nat) (r : Machine.Req) (m : Fin 2)
  /-- MACHINE_DISABLE (R360): A write of EN = 0 puts the machine in RAMP_DOWN. -/
  | machineDisable (e : Nat) (r : Machine.Req) (m : Fin 2)
  /-- DIR_CHANGE (R367): A write changing TRX_Mm_CTRL.DIR is accepted below REV_W or refused. -/
  | dirChange (e : Nat) (r : Machine.Req) (m : Fin 2) (dir : Bool)
  /-- TREQ_WRITE (R365): A write of TRX_Mm_TREQ sets the torque request and ends a request loss. -/
  | treqWrite (e : Nat) (r : Machine.Req) (m : Fin 2) (v : BitVec 40)
  /-- TREQ_LOST (R365): No TREQ write within TREQ_TMO loses the request, raising EV_TREQ_LOST and possibly limp. -/
  | treqLost (e : Nat) (m : Fin 2)
  /-- LIMP (R366): A write of TRX_Mm_CTRL.LIMP = 1 activates limp and raises EV_LIMP. -/
  | limp (e : Nat) (r : Machine.Req) (m : Fin 2)
  /-- SHORT_BRAKE (R368): A short-brake condition holds or ends for 20 ms and SHORT_BRAKE is entered or left with EV_SHORT_BRAKE. -/
  | shortBrake (e : Nat) (m : Fin 2)
  /-- START_RETRY (R385): After 200 ms in START_WAIT the gate reopens for a new attempt, or START_FAILED is entered. -/
  | startRetry (e : Nat) (m : Fin 2)
  /-- SENSOR_RETURN (R377): After 1 s of a usable, agreeing sensor the supervisor returns from the observer angle. -/
  | sensorReturn (e : Nat) (m : Fin 2)
  /-- KE_WINDOW (R387): Each 100 ms back-EMF window yields a ratio that may set ABN, clear it or set DEMAG. -/
  | keWindow (e : Nat) (m : Fin 2)
  /-- DEMAG_CLEAR (R391): A W1CP write of TRX_Mm_KE_STAT.DEMAG clears it in SERVICE only. -/
  | demagClear (e : Nat) (r : Machine.Req) (m : Fin 2)
  /-- MAP_DATA_WRITE (R372): A write of TRX_MAP_DATA writes a map entry and clears the map's VALID. -/
  | mapDataWrite (e : Nat) (r : Machine.Req) (v : BitVec 40)
  /-- MAP_DATA_READ (R372): A read of TRX_MAP_DATA returns a map entry and advances INDEX. -/
  | mapDataRead (e : Nat) (r : Machine.Req)
  /-- VALIDATE (R373): TRX_MAP_CTRL.VALIDATE starts the CRC check of a map. -/
  | validate (e : Nat) (r : Machine.Req)
  /-- MAP_VALIDATE_DONE (R373): The map CRC check completes with EV_MAP_VALID and storage, or EV_MAP_INVALID. -/
  | mapValidateDone (e : Nat)
  /-- CHOP_ASSERT (R416): CHOP asserts; with the chopper unavailable regeneration is inhibited and absorb begins. -/
  | chopAssert (x : Machine.PinEdge)
  /-- CHOP_RELEASE (R397): CHOP is released after 1 ms below its threshold less hysteresis. -/
  | chopRelease (x : Machine.PinEdge)
  /-- REGEN_PERMIT (R418): The inhibit and absorb end after 100 ms of CHOP released or when the chopper becomes available. -/
  | regenPermit (e : Nat)
  /-- OV1_ASSERT (R419): OV1 asserts; machines go to the selector, PWM_FORCE.EN clears and EV_DCL_OV1 is raised. -/
  | ov1Assert (x : Machine.PinEdge)
  /-- OV1_RELEASE (R420): OV1 is released after 1 ms and EV_DCL_OV1_CLEAR is raised. -/
  | ov1Release (x : Machine.PinEdge)
  /-- OV1_HAND_BACK (R420): OV1 released for 100 ms hands back the machines taken under OV1. -/
  | ov1HandBack (e : Nat)
  /-- OV2_ASSERT (R421): OV2 latches: DC-DC and charger islands off, SAFE with cause OV2, EV_DCL_OV2. -/
  | ov2Assert (x : Machine.PinEdge)
  /-- DCL_UV (R399): The link reads below VUV for 10 ms, setting UV and raising EV_DCL_UV. -/
  | dclUv (e : Nat) (vl : BitVec 13)
  /-- UV_CLEAR (R399): UV clears after the link stands at or above VLOW for 10 ms. -/
  | uvClear (e : Nat) (vl : BitVec 13)
  /-- DCL_SENSE (R400): Every 10 ms the link monitor checks its 2.000 V reference, setting or clearing MON_FAULT. -/
  | dclSense (e : Nat) (mv : BitVec 13) (vl : BitVec 13)
  /-- CHOP_TEST_PULSE (R414): A chopper test pulse of TPULSE is emitted once per TEST_INT when conditions allow. -/
  | chopTestPulse (e : Nat)
  /-- CHOP_CLEAR (R413): DCL_CHOP_CTRL.CLEAR clears FAULT and DEGRADED in READY. -/
  | chopClear (e : Nat) (r : Machine.Req)
  /-- DCDC_MODE_WRITE (R405): A write of DCL_DCDC_CTRL.MODE takes effect at the next activation or after absorb. -/
  | dcdcModeWrite (e : Nat) (r : Machine.Req) (mode : BitVec 2)
  /-- START (R443): CHG_CTRL.START starts a new session in WAIT. -/
  | start (e : Nat) (r : Machine.Req)
  /-- STOP (R443): CHG_CTRL.STOP ends the session at once or through a handover. -/
  | stop (e : Nat) (r : Machine.Req)
  /-- UNLOCK (R443): CHG_CTRL.UNLOCK moves a LOCKED session to ENDED. -/
  | unlock (e : Nat) (r : Machine.Req)
  /-- HANDOVER_DEADLINE (R454): At s + 20 ms an unfinished handover completes with HO_SLOW. -/
  | handoverDeadline (e : Nat)
  /-- SUSPEND_EXPIRY (R442): A suspension with no replug before s + 60 s ends with END_WHY = EXPIRED. -/
  | suspendExpiry (e : Nat)
  /-- TBAT_WRITE (R445): A write of CHG_TBAT supplies a battery temperature. -/
  | tbatWrite (e : Nat) (r : Machine.Req) (t : BitVec 16)
  /-- CHG_TBAT (R445): A missed CHG_TBAT write clears TBAT_OK and raises EV_CHG_TBAT. -/
  | chgTbat (e : Nat)
  /-- BATTERY_NTC_EVAL (R445): Every 100 ms the battery NTC channel is evaluated to a temperature or invalid. -/
  | batteryNtcEval (e : Nat) (uv : Nat)
  /-- CHG_TIMEOUT (R450): The wall clock reaches 3 × TNOM and the session ends by ordinary or thermal timeout. -/
  | chgTimeout (e : Nat)
  /-- ACT_ENABLE (R468): A write of ACT_An_CTRL.EN = 1 enables the actuator, refused without POS_OK. -/
  | actEnable (e : Nat) (r : Machine.Req) (a : Fin 3)
  /-- ACT_DISABLE (R471): A write of EN = 0 brakes the actuator for 100 ms before OFF. -/
  | actDisable (e : Nat) (r : Machine.Req) (a : Fin 3)
  /-- ACT_TARGET_WRITE (R468): A write of ACT_An_TGT starts a move, or is refused for the park lock while rolling. -/
  | actTargetWrite (e : Nat) (r : Machine.Req) (a : Fin 3) (v : BitVec 40)
  /-- BRAKE (R471): A write of ACT_An_CTRL.BRAKE = 1 holds the actuator in BRAKE. -/
  | brake (e : Nat) (r : Machine.Req) (a : Fin 3)
  /-- REF (R467): ACT_An_CTRL.REF sets the hall count to ZERO. -/
  | ref (e : Nat) (r : Machine.Req) (a : Fin 3)
  /-- HALL_CHANGE (R464): A filtered hall code changes sector and the hall count and commutation angle are updated. -/
  | hallChange (e : Nat) (a : Fin 3) (code : Fin 8)
  /-- IN_POSITION (R469): Position within PWIN for 20 ms sets INPOS and HOLD or BRAKE. -/
  | inPosition (e : Nat) (a : Fin 3)
  /-- ACT_TIMEOUT (R470): No position within TMOVE sends the actuator to BRAKE with EV_ACT_TIMEOUT. -/
  | actTimeout (e : Nat) (a : Fin 3)
  /-- ACT_BRAKE_END (R471): 100 ms of brake after EN = 0 or a failed start turns the actuator OFF. -/
  | actBrakeEnd (e : Nat) (a : Fin 3)
  /-- ALIGN_END (R473): TALIGN expires and the start enters RAMP. -/
  | alignEnd (e : Nat) (a : Fin 3)
  /-- ACT_RAMP_TIMEOUT (R474): No lock within 1 s of RAMP entry aborts the attempt with code timeout. -/
  | actRampTimeout (e : Nat) (a : Fin 3)
  /-- ACT_START_RETRY (R474): After 100 ms in START_WAIT the next attempt starts with EV_ACT_START_RETRY. -/
  | actStartRetry (e : Nat) (a : Fin 3)
  /-- LIFE_MIRROR (R496): A periodic, STANDBY or requested mirror snapshots the lifetime data to storage. -/
  | lifeMirror (e : Nat)
  /-- MIRROR (R496): LIFE_CTRL.MIRROR requests an immediate mirror, BUSY during one. -/
  | mirror (e : Nat) (r : Machine.Req)
  /-- MIRROR_COMPLETE (R498): A mirror write completes, or fails with EV_LIFE_MIRROR_FAIL. -/
  | mirrorComplete (e : Nat) (ok : Bool)
  /-- CLEAR (R501): LIFE_CTRL.CLEAR zeroes an island's lifetime data and raises EV_LIFE_CLEARED. -/
  | clear (e : Nat) (r : Machine.Req) (n : Fin 48)
  /-- CURVE_VALIDATE (R484): LIFE_CTRL.VALIDATE checks a curve, setting CURVE_OK or CURVE_FAIL. -/
  | curveValidate (e : Nat) (r : Machine.Req) (n : Fin 48)
  /-- LIFE_TWIN_DATA_READ (R500): A read of LIFE_TWIN_DATA returns a table word and advances the address. -/
  | lifeTwinDataRead (e : Nat) (r : Machine.Req)
  /-- LIFE_TWIN_DATA_WRITE (R500): A write of LIFE_TWIN_DATA writes a curve or weight word in its permitted modes. -/
  | lifeTwinDataWrite (e : Nat) (r : Machine.Req) (v : BitVec 40)
  /-- REQUEST_FRAME (R543): A request frame on a command port delivers one packet, checked under R549. -/
  | requestFrame (e : Nat) (n : Fin 2) (l : Machine.Arrival)
  /-- FETCH_FRAME (R542): A fetch frame shifts out the oldest reply, removed only if fully shifted. -/
  | fetchFrame (e : Nat) (n : Fin 2) (whole : Bool)
  /-- ECHO (R553): Opcode ECHO returns its parameters unchanged. -/
  | echo (e : Nat) (r : Machine.Req) (b : List Machine.Byte)
  /-- REG_READ (R554): Opcode REG_READ reads listed registers in order. -/
  | regRead (e : Nat) (r : Machine.Req) (l : List (BitVec 16))
  /-- REG_WRITE (R554): Opcode REG_WRITE checks then writes listed registers in order. -/
  | regWrite (e : Nat) (r : Machine.Req) (l : List (BitVec 16 × Machine.Reg))
  /-- REG_READ_REPEAT (R554): Opcode REG_READ_REPEAT reads one index repeatedly. -/
  | regReadRepeat (e : Nat) (r : Machine.Req) (a : BitVec 16) (c : BitVec 16)
  /-- REG_WRITE_REPEAT (R554): Opcode REG_WRITE_REPEAT writes values to one index in turn. -/
  | regWriteRepeat (e : Nat) (r : Machine.Req) (a : BitVec 16) (l : List Machine.Reg)
  /-- REG_MODIFY (R555): Opcode REG_MODIFY writes masked values and returns old values. -/
  | regModify (e : Nat) (r : Machine.Req) (l : List (BitVec 16 × Machine.Reg × Machine.Reg))
  /-- RESET (R559): Opcode RESET schedules a warm reset 1 ms after its reply. -/
  | reset (e : Nat) (r : Machine.Req) (guard : BitVec 8)
  /-- RESET_DELAY_EXPIRY (R559): 1 ms after the RESET reply the software warm reset is asserted. -/
  | resetDelayExpiry (e : Nat)
  /-- SESSION_OPEN (R563): Opcode SESSION_OPEN reserves a session and returns a nonce and identifier. -/
  | sessionOpen (e : Nat) (r : Machine.Req)
  /-- SESSION_AUTH (R565): Opcode SESSION_AUTH makes a session privileged or fails it. -/
  | sessionAuth (e : Nat) (r : Machine.Req) (resp : List Machine.Byte)
  /-- SESSION_CLOSE (R567): Opcode SESSION_CLOSE ends a privileged session. -/
  | sessionClose (e : Nat) (r : Machine.Req)
  /-- SESSION_TIMEOUT (R567): 600 s without an accepted packet ends a privileged session. -/
  | sessionTimeout (e : Nat) (n : Fin 255)
  /-- LOCKOUT_END (R566): An origin's 60 s authentication lock-out ends. -/
  | lockoutEnd (e : Nat) (origin : Fin 6) (node : Fin 256)
  /-- KEY_PROGRAM (R570): Opcode KEY_PROGRAM writes the integrator key into OTP once. -/
  | keyProgram (e : Nat) (r : Machine.Req) (key : List Machine.Byte) (crc : BitVec 32)
  /-- QUEUE_READ (R556): Opcode QUEUE_READ returns queue entries without freeing them. -/
  | queueRead (e : Nat) (r : Machine.Req) (q : BitVec 8) (skip : BitVec 16) (c : BitVec 16)
  /-- AUDIT_READ (R584): Opcode AUDIT_READ returns audit entries or missing-entry markers. -/
  | auditRead (e : Nat) (r : Machine.Req) (first : BitVec 40) (c : BitVec 16)
  /-- EVENT_READ (R634): Opcode EVENT_READ returns event entries or markers. -/
  | eventRead (e : Nat) (r : Machine.Req) (first : BitVec 40) (c : BitVec 16)
  /-- AUDIT_DRAIN (R582): Buffered audit entries are written to the mirrored audit ring at L5. -/
  | auditDrain (e : Nat) (n : Nat) (bad : Bool)
  /-- EVENT_LOG_DRAIN (R633): Buffered event entries are written to the event-log ring at L5. -/
  | eventLogDrain (e : Nat) (n : Nat)
  /-- CAN_ENABLE_WRITE (R592): A write of CAN_Cc_CFG.EN takes a controller on or off the bus. -/
  | canEnableWrite (e : Nat) (r : Machine.Req) (c : Fin 3) (on : Bool)
  /-- CAN_INTEGRATED (R592): After 11 recessive bits the controller becomes error active. -/
  | canIntegrated (e : Nat) (c : Fin 3)
  /-- CAN_TX_START (R599): At a start of frame the winning pending frame is sent. -/
  | canTxStart (e : Nat) (c : Fin 3)
  /-- CAN_TX_ATTEMPT_END (R600): A transmission attempt succeeds (SENT) or fails and is retried or ends FAILED. -/
  | canTxAttemptEnd (e : Nat) (c : Fin 3) (res : Fin 3) (lec : Fin 7) (exc : Bool)
  /-- RECOVER (R595): CAN_Cc_CTRL.RECOVER starts bus-off recovery. -/
  | recover (e : Nat) (r : Machine.Req) (c : Fin 3)
  /-- CAN_RECOVERED (R595): After 128 recessive sequences the controller is error active with EV_CAN_RECOVERED. -/
  | canRecovered (e : Nat) (c : Fin 3)
  /-- CAN_LOAD (R597): A write of CAN_Cc_LOAD copies the frame record into a mailbox or the queue. -/
  | canLoad (e : Nat) (r : Machine.Req) (c : Fin 3) (mb : BitVec 6) (req : Bool)
  /-- CAN_TXREQ (R598): A write of CAN_Cc_TXREQ requests mailboxes. -/
  | canTxreq (e : Nat) (r : Machine.Req) (c : Fin 3) (mbs : BitVec 32)
  /-- CAN_CANCEL (R601): A write of CAN_Cc_CANCEL cancels a pending mailbox or answers IN_FLIGHT. -/
  | canCancel (e : Nat) (r : Machine.Req) (c : Fin 3) (mb : BitVec 5)
  /-- TXQ_FLUSH (R602): CAN_Cc_CTRL.TXQ_FLUSH removes queue entries not in flight. -/
  | txqFlush (e : Nat) (r : Machine.Req) (c : Fin 3)
  /-- CAN_RXACK (R606): A write of CAN_Cc_RXACK frees receive entries. -/
  | canRxack (e : Nat) (r : Machine.Req) (c : Fin 3) (n : BitVec 9)
  /-- PURGE (R618): CAN_CTRL.PURGE frees every LOST partner entry. -/
  | purge (e : Nat) (r : Machine.Req)
  /-- FWIN_DATA_ACCESS (R621): An access to CAN_FWIN_DATA reads a window word or writes a filter. -/
  | fwinDataAccess (e : Nat) (r : Machine.Req) (write : Bool) (v : BitVec 40)
  /-- CAN_FRAME_RECEIVED (R604): A received frame is filtered into the receive queue or discarded. -/
  | canFrameReceived (e : Nat) (c : Fin 3) (f : Machine.CanFrame) (ago : Nat) (lost : Bool)
  /-- TUNNEL_SEGMENT (R610): A tunnel segment is reassembled into its node's packet. -/
  | tunnelSegment (e : Nat) (c : Fin 3) (f : Machine.CanFrame) (ago : Nat) (lost : Bool)
  /-- TUNNEL_TIMEOUT (R610): 50 ms between segments discards the packet with EV_TUNNEL_ERR. -/
  | tunnelTimeout (e : Nat) (c : Fin 3) (node : Fin 256)
  /-- HEARTBEAT_SEND (R614): Every INTERVAL the module's heartbeat is queued on enabled controllers. -/
  | heartbeatSend (e : Nat)
  /-- HEARTBEAT_RECEIVED (R615): An accepted heartbeat updates the partner table and may raise EV_PARTNER_UP. -/
  | heartbeatReceived (e : Nat) (c : Fin 3) (f : Machine.CanFrame) (ago : Nat) (lost : Bool)
  /-- PARTNER_LOST (R616): No heartbeat within 3I + I/4 makes the partner LOST. -/
  | partnerLost (e : Nat) (p : Fin 64)
  /-- STO_DEVICE (R624): An eMMC device fails and mirrored regions run on the other copy. -/
  | stoDevice (e : Nat) (d : Fin 2)
  /-- STO_WEAR (R625): Health read at boot and every 24 h; wear raises EV_STO_WEAR. -/
  | stoWear (e : Nat) (d : Fin 2) (a : BitVec 4) (b : BitVec 4) (eol : BitVec 2)
  /-- EMMC_TUNING (R623): HS200 tuning runs every 10 minutes or after two CRC errors. -/
  | emmcTuning (e : Nat) (d : Fin 2) (retries : Fin 4) (fails : Bool)
  /-- FORMAT (R628): STO_CTRL.FORMAT re-lays out the recorder slots. -/
  | format (e : Nat) (r : Machine.Req)
  /-- REC_ENABLE_WRITE (R636): A write of STO_REC_CFG.EN arms or disarms the recorder. -/
  | recEnableWrite (e : Nat) (r : Machine.Req) (on : Bool)
  /-- REC_TRIGGER (R641): Opcode REC_TRIGGER triggers a capture. -/
  | recTrigger (e : Nat) (r : Machine.Req)
  /-- REC_LIST (R641): Opcode REC_LIST returns capture headers. -/
  | recList (e : Nat) (r : Machine.Req) (first : BitVec 32) (c : BitVec 8)
  /-- REC_READ (R641): Opcode REC_READ returns capture bytes. -/
  | recRead (e : Nat) (r : Machine.Req) (num : BitVec 32) (off : BitVec 32) (len : BitVec 16)
  /-- REC_DONE (R638): A capture completes and its header is rewritten COMPLETE. -/
  | recDone (e : Nat)
  /-- UPD_BEGIN (R643): Opcode UPD_BEGIN empties staging and enters RECEIVING. -/
  | updBegin (e : Nat) (r : Machine.Req) (len : BitVec 32)
  /-- UPD_BLOCK (R644): Opcode UPD_BLOCK stores a manifest or data block. -/
  | updBlock (e : Nat) (r : Machine.Req) (kind : BitVec 8) (num : BitVec 32) (b : List Machine.Byte)
  /-- UPD_CHECK (R645): Opcode UPD_CHECK starts checks 5 to 8. -/
  | updCheck (e : Nat) (r : Machine.Req)
  /-- UPD_CHECKED (R645): The checks complete in CHECKED or FAILED. -/
  | updChecked (e : Nat) (bad : Bool)
  /-- UPD_ACTIVATE (R646): Opcode UPD_ACTIVATE loads and starts the alternate banks. -/
  | updActivate (e : Nat) (r : Machine.Req)
  /-- UPD_READY_TIMEOUT (R646): Parts not ready within 3 s end the activation. -/
  | updReadyTimeout (e : Nat) (why : Fin 3)
  /-- UPD_SWITCHED (R647): At S the parts switch banks and EV_UPD_SWITCHED is raised. -/
  | updSwitched (e : Nat)
  /-- UPD_CONFIRM (R648): Opcode UPD_CONFIRM begins the commit. -/
  | updConfirm (e : Nat) (r : Machine.Req)
  /-- UPD_ABORT (R643): Opcode UPD_ABORT aborts the update or leaps back. -/
  | updAbort (e : Nat) (r : Machine.Req)
  /-- UPD_WINDOW_EXPIRY (R648): The 10 s fallback window ends unconfirmed and the module leaps back. -/
  | updWindowExpiry (e : Nat)
  /-- UPD_FALLBACK (R649): A leap-back cause returns the parts to their old banks. -/
  | updFallback (e : Nat) (cause : Fin 3) (old : Bool)
  /-- UPD_COMMITTED (R650): The commit completes and raises EV_UPD_COMMITTED. -/
  | updCommitted (e : Nat) (ok : Bool)
  /-- PAIR_MESSAGE_RECEIVED (R676): A partner pair-link message is checked and journalled. -/
  | pairMessageReceived (e : Nat) (l : Machine.Arrival)
  /-- PAIR_LINK_DOWN (R677): 1 ms without a good message takes the link down. -/
  | pairLinkDown (e : Nat)
  /-- FLAG_CLEAR (R8): A write of 1 to a W1C or W1CP sticky bit clears it. -/
  | flagClear (e : Nat) (r : Machine.Req) (idx : BitVec 16) (v : BitVec 40)
  /-- REGISTER_WRITE (R695): A write to a register without its own behaviour row stores its writable fields. -/
  | registerWrite (e : Nat) (r : Machine.Req) (idx : BitVec 16) (v : BitVec 40)
  /-- FILTERED_LEVEL_CHANGE (R508): STO_A or STO_B returns high, or WAKE changes level outside STANDBY; the filtered level is updated and the change is journalled. -/
  | filteredLevelChange (e : Nat) (pin : Fin 3) (level : Bool)
  /-- ENCODER_EDGE (R249): A filtered A/B quadrature edge at ENC0 or ENC1 advances or retreats the position count and feeds the speed measure. -/
  | encoderEdge (e : Nat) (k : Fin 2) (up : Bool) (pace : Machine.EdgePace)
  /-- CAN_RECEIVE_ERROR (R594): An error detected while receiving on the bus raises the receive error counter, which may reach 128 and raise EV_CAN_PASSIVE. -/
  | canReceiveError (e : Nat) (c : Fin 3) (lec : Fin 7) (by8 : Bool)
  /-- HALL_CODE_ERROR (R465): A hall code of 0 or 7 that has stood for 1 ms is a hall error, counted with EV_ACT_HALL. -/
  | hallCodeError (e : Nat) (a : Fin 3)
  /-- PLANT_STORED (R335): The write of an accepted plant description to storage completes and PLC_STAT.STORED sets. -/
  | plantStored (e : Nat)
  /-- BOUNDARY_SCAN_EXTEST (R661): The JTAG TAP enters or leaves EXTEST, and the module holds LG00 to LG17 low while it is in EXTEST. -/
  | boundaryScanExtest (e : Nat) (on : Bool)
deriving DecidableEq, Repr

end Sys2Proof
end

