-- ==== Sys2Proof/Decode.lean ====
section
/-! DEFINITION. The commands that words spell. The rows of spec/opcode_table.json give no bits: a command comes as an event,
as an operation, or inside the bytes of a frame, which the ports parse (spec/16_command_ports_and_privilege.md, R543). -/

namespace Sys2Proof

/-- The command a word spells: none. -/
def decodeTableWord (_nbits _w : Nat) : Option Instr := none

end Sys2Proof
end

