-- ==== Sys2Proof/Config.lean ====
section
/-! DEFINITION. What the spec leaves to the part or leaves open: per-part values and free values. Each is opaque: it has
no body, so nothing in Lean can say which value it is. -/

namespace Sys2Proof.Machine

/-- The n-th free value drawn: a value the spec does not state (assumption 2). -/
opaque Config.freeValue : Nat → Nat

/-- Whether this part is of grade AM, `DEV_ID.GRADE` 0x2, and not AQ, 0x1 (R2, R691): per part. -/
opaque Config.gradeAM : Bool

/-- `DEV_ID.STEP` of this part (R691): per part. -/
opaque Config.step : BitVec 8

/-- The 64-bit unique identifier (R691): per part. -/
opaque Config.uid : BitVec 64

/-- Whether an ECDSA P-256 signature over a message digest verifies under the release key in the loader ROM (R642):
digest, r, s. -/
opaque Config.sigVerifies : Nat → Nat → Nat → Bool

/-- The error of a sine or cosine the engines compute, by angle (R282 bounds it by 2^-29). -/
opaque Config.sinErr : Nat → Nat
@[inherit_doc Config.sinErr] opaque Config.cosErr : Nat → Nat

/-- The error of the half-angle an observer forms at the end of LOCATE, by its two sums (R383 gives no rounding). -/
opaque Config.atanErr : Int → Int → Nat

/-- How many steps after the turn-off edge at a step an island's gate, sensed at CLAMPn, falls below VEE + 2.0 V (R98 senses
it; the spec gives no time): by island and step. -/
opaque Config.gateFall : Nat → Nat → Nat

/-- What a byte of a recorder slot holds that the capture in it has not written, by slot and offset (R640). -/
opaque Config.slotByte : Nat → Nat → BitVec 8

/-- The loader's factory release (R627): version, rollback value, and the export and import formats of part p. -/
opaque Config.factoryVer : BitVec 32
@[inherit_doc Config.factoryVer] opaque Config.factoryRoll : BitVec 8
@[inherit_doc Config.factoryVer] opaque Config.factoryFmt : Nat → BitVec 16 × BitVec 16 × BitVec 16

end Sys2Proof.Machine
end

