-- ==== Sys2Proof/Machine/Crc.lean ====
section
/-! DEFINITION. CRC-32C (R548), SHA-256 and HMAC-SHA-256 (R564), over byte lists. -/

namespace Sys2Proof.Machine

/-- One bit of the reflected CRC-32C division (polynomial 0x1EDC_6F41 reflected). -/
def crcBit (c : BitVec 32) : BitVec 32 := if c.getLsbD 0 then (c >>> 1) ^^^ 0x82F63B78#32 else c >>> 1

/-- n steps of the division. -/
def crcBits : Nat → BitVec 32 → BitVec 32
  | 0, c => c
  | n + 1, c => crcBits n (crcBit c)

/-- One byte into a running CRC. -/
def crcByte (c : BitVec 32) (b : Byte) : BitVec 32 := crcBits 8 (c ^^^ b.setWidth 32)

/-- CRC-32C of a byte list (R548). -/
def crc32c (l : List Byte) : Nat := ((l.foldl crcByte 0xFFFFFFFF#32) ^^^ 0xFFFFFFFF#32).toNat

/-- A word as five bytes, least significant first (R4). -/
def regBytes (v : Reg) : List Byte := leBytes 5 v.toNat

/-- The n low bytes of x, most significant first. -/
def beBytes (n x : Nat) : List Byte := (leBytes n x).reverse

/-- A number from bytes, most significant first. -/
def ofBe (l : List Byte) : Nat := ofLe l.reverse

/-- The first 64 primes, from which SHA-256 takes its constants. -/
def shaPrimes : List Nat :=
  [2, 3, 5, 7, 11, 13, 17, 19, 23, 29, 31, 37, 41, 43, 47, 53, 59, 61, 67, 71, 73, 79, 83, 89, 97, 101, 103, 107, 109, 113,
    127, 131] ++
  [137, 139, 149, 151, 157, 163, 167, 173, 179, 181, 191, 193, 197, 199, 211, 223, 227, 229, 233, 239, 241, 251, 257, 263,
    269, 271, 277, 281, 283, 293, 307, 311]

/-- The largest x below 2 ^ n, at or above the x given, whose power k does not exceed v: one bit of it a step. -/
def rootBits (k v : Nat) : Nat → Nat → Nat
  | 0, x => x
  | n + 1, x => rootBits k v n (if (x + 2 ^ n) ^ k ≤ v then x + 2 ^ n else x)

/-- The first 32 bits of the fraction of p's k-th root: how SHA-256 defines its start value (k = 2) and its round
constants (k = 3). -/
def rootFrac (k p : Nat) : BitVec 32 := BitVec.ofNat 32 (rootBits k (p * 2 ^ (32 * k)) 37 0)

/-- A word's right rotations by the amounts listed, added without carry. -/
def rotSum (ks : List Nat) (x : BitVec 32) : BitVec 32 := ks.foldl (fun a k => a ^^^ x.rotateRight k) 0

/-- Word t of the message schedule from the words before it, newest first. -/
def shaWord (past : List (BitVec 32)) : BitVec 32 :=
  let near := past.getD 1 0
  let far := past.getD 14 0
  past.getD 6 0 + past.getD 15 0 + (rotSum [17, 19] near ^^^ (near >>> 10)) + (rotSum [7, 18] far ^^^ (far >>> 3))

/-- The schedule of a block: n words more before those given, newest first. -/
def shaSched : Nat → List (BitVec 32) → List (BitVec 32)
  | 0, past => past
  | n + 1, past => shaSched n (shaWord past :: past)

/-- The working variables as two queues of four, a to d and e to h. A round, given its constant and schedule word added,
pushes one word on each. -/
def shaRound (q : List (BitVec 32) × List (BitVec 32)) (kw : BitVec 32) : List (BitVec 32) × List (BitVec 32) :=
  match q with
  | ([a, b, c, d], [e, f, g, h]) =>
    let t := kw + h + (g ^^^ (e &&& (f ^^^ g))) + rotSum [6, 11, 25] e
    ([t + rotSum [2, 13, 22] a + ((a &&& (b ||| c)) ||| (b &&& c)), a, b, c], [d + t, e, f, g])
  | q => q

/-- Words of four bytes, most significant first. -/
def beWords : List Byte → List (BitVec 32)
  | a :: b :: c :: d :: t => BitVec.ofNat 32 (ofBe [a, b, c, d]) :: beWords t
  | _ => []

/-- SHA-256 over whole blocks, by fuel (the number of blocks). -/
def shaBlocks : Nat → List Byte → List (BitVec 32) → List (BitVec 32)
  | 0, _, h => h
  | n + 1, m, h =>
    let ws := (shaSched 48 (beWords (m.take 64)).reverse).reverse
    let q := (List.zipWith (fun p w => rootFrac 3 p + w) shaPrimes ws).foldl shaRound (h.take 4, h.drop 4)
    shaBlocks n (m.drop 64) (List.zipWith (· + ·) h (q.1 ++ q.2))

/-- SHA-256 of a byte list. -/
def sha256 (m : List Byte) : List Byte :=
  let zeros := (119 - m.length % 64) % 64
  let p := m ++ [0x80#8] ++ List.replicate zeros 0 ++ beBytes 8 (8 * m.length)
  (shaBlocks (p.length / 64) p ((shaPrimes.take 8).map (rootFrac 2))).flatMap (fun w => beBytes 4 w.toNat)

/-- HMAC-SHA-256 under a 32-byte key (R564). -/
def hmac (key m : List Byte) : List Byte :=
  let k := key ++ List.replicate (64 - key.length) 0
  sha256 (k.map (· ^^^ 0x5c#8) ++ sha256 (k.map (· ^^^ 0x36#8) ++ m))

end Sys2Proof.Machine
end

