-- ==== Sys2Proof/Machine/EvCode.lean ====
section
/-! DEFINITION. The event codes of the chapters' event tables (class in the high byte, R632), by name. -/

namespace Sys2Proof.Machine

/- Events of spec/01_organisation_and_timing.md. -/
abbrev EV.DEADLINE : Nat := 0x0520
abbrev EV.XFIFO_OVERFLOW : Nat := 0x0521
abbrev EV.ECC_FATAL : Nat := 0x0522
abbrev EV.PACE_LOW : Nat := 0x0523
abbrev EV.CLOCK_FALLBACK : Nat := 0x0524
/- Events of spec/02_modes_and_startup.md. -/
abbrev EV.MODE : Nat := 0x0B10
abbrev EV.SAFE_ENTRY : Nat := 0x0B11
abbrev EV.STO_DISCREPANCY : Nat := 0x0B12
abbrev EV.RESET : Nat := 0x0B13
abbrev EV.QUEUED_DROPPED : Nat := 0x0B14
abbrev EV.SUPPLY_LOW : Nat := 0x0B15
abbrev EV.BOOT_FAIL : Nat := 0x0B16
abbrev EV.WAKE : Nat := 0x0B17
abbrev EV.DISCHARGE_SLOW : Nat := 0x0880
/- Events of spec/03_gate_islands.md. -/
abbrev EV.ISL_LOCKOUT : Nat := 0x0101
abbrev EV.ISL_SUPPLY_OK : Nat := 0x0102
abbrev EV.ISL_SEQ : Nat := 0x0103
abbrev EV.ISL_LINK_DOWN : Nat := 0x0104
abbrev EV.ISL_LINK_UP : Nat := 0x0105
abbrev EV.ISL_LINK_ERR : Nat := 0x0106
abbrev EV.ISL_CAL_FAIL : Nat := 0x0107
abbrev EV.ISL_NTC : Nat := 0x0108
abbrev EV.ISL_STR_CLAMP : Nat := 0x0109
abbrev EV.ISL_VDS_RANGE : Nat := 0x010A
abbrev EV.LV_VAUX : Nat := 0x0110
abbrev EV.LV_BOOT_UV : Nat := 0x0111
abbrev EV.LV_GATE : Nat := 0x0112
/- Events of spec/04_protection_and_diagnostics.md. -/
abbrev EV.DESAT : Nat := 0x0201
abbrev EV.KELVIN_OC : Nat := 0x0202
abbrev EV.TWO_LEG : Nat := 0x0203
abbrev EV.SS_SWAP : Nat := 0x0204
abbrev EV.SS_DEGRADED : Nat := 0x0205
abbrev EV.SHOOT_BLOCK : Nat := 0x0206
abbrev EV.SPEED_STALE : Nat := 0x0207
abbrev EV.PRESTART_DONE : Nat := 0x0208
abbrev EV.PRESTART_FAIL : Nat := 0x0209
/- Events of spec/05_pwm.md. -/
abbrev EV.PERIOD_DUTY_SKEW : Nat := 0x0301
abbrev EV.OVERLAP_REFUSED : Nat := 0x0302
abbrev EV.DUTY_CLAMP : Nat := 0x0303
abbrev EV.TRIP_LATCH : Nat := 0x0304
abbrev EV.SYNC_LOST : Nat := 0x0305
abbrev EV.SYNC_LOCKED : Nat := 0x0306
abbrev EV.PERIOD_CLAMP : Nat := 0x0307
/- Events of spec/06_measurement.md. -/
abbrev EV.REF_SETTLED : Nat := 0x0401
abbrev EV.ADC_LANE : Nat := 0x0402
abbrev EV.SEQ_OVERRUN : Nat := 0x0403
abbrev EV.QUEUE_OVERFLOW : Nat := 0x0404
abbrev EV.RES_FAULT : Nat := 0x0405
abbrev EV.ENC_FAULT : Nat := 0x0406
abbrev EV.SENT_LOST : Nat := 0x0407
abbrev EV.SENT_UP : Nat := 0x0408
/- Events of spec/07_control_engines.md. -/
abbrev EV.GRAPH_FLAG : Nat := 0x0501
abbrev EV.QIN_STALE : Nat := 0x0502
abbrev EV.PARAM_APPLIED : Nat := 0x0503
abbrev EV.ENG_STORE : Nat := 0x0504
/- Events of spec/08_loops_setpoints_pairing.md. -/
abbrev EV.PAIR_MISMATCH : Nat := 0x0505
abbrev EV.PAIR_ESCALATE : Nat := 0x0506
abbrev EV.HANDOFF_HELD : Nat := 0x0507
abbrev EV.PEDAL_FAULT : Nat := 0x0508
abbrev EV.PEDAL_OK : Nat := 0x0509
/- Events of spec/09_placement.md. -/
abbrev EV.UNIT_FAILED : Nat := 0x0601
abbrev EV.REPLACED : Nat := 0x0602
abbrev EV.SHED : Nat := 0x0603
abbrev EV.PLANT_ACCEPTED : Nat := 0x0604
abbrev EV.PLANT_REFUSED : Nat := 0x0605
/- Events of spec/10_traction_control.md. -/
abbrev EV.START_DONE : Nat := 0x0701
abbrev EV.START_RETRY : Nat := 0x0702
abbrev EV.START_FAILED : Nat := 0x0703
abbrev EV.KE_ABNORMAL : Nat := 0x0704
abbrev EV.KE_NORMAL : Nat := 0x0705
abbrev EV.DEMAG : Nat := 0x0706
abbrev EV.POS_FALLBACK : Nat := 0x0707
abbrev EV.POS_LOST : Nat := 0x0708
abbrev EV.TREQ_LOST : Nat := 0x0709
abbrev EV.LIMP : Nat := 0x070A
abbrev EV.SHORT_BRAKE : Nat := 0x070B
abbrev EV.MAP_VALID : Nat := 0x070C
abbrev EV.MAP_INVALID : Nat := 0x070D
/- Events of spec/11_dc_link_converter_chopper.md. -/
abbrev EV.REGEN_INHIBIT : Nat := 0x0801
abbrev EV.REGEN_PERMIT : Nat := 0x0802
abbrev EV.DCL_OV1 : Nat := 0x0803
abbrev EV.DCL_OV1_CLEAR : Nat := 0x0804
abbrev EV.DCL_OV2 : Nat := 0x0805
abbrev EV.DCL_UV : Nat := 0x0806
abbrev EV.CHOP_FAULT : Nat := 0x0807
abbrev EV.CHOP_DEGRADED : Nat := 0x0808
abbrev EV.CHOP_THERMAL : Nat := 0x0809
abbrev EV.DCL_SENSE : Nat := 0x080A
/- Events of spec/12_charging_and_power_path.md. -/
abbrev EV.CHG_SESSION : Nat := 0x0901
abbrev EV.CHG_PHASE : Nat := 0x0902
abbrev EV.CHG_ZONE : Nat := 0x0903
abbrev EV.CHG_PILOT : Nat := 0x0904
abbrev EV.CHG_HANDOVER : Nat := 0x0905
abbrev EV.CHG_HANDOVER_DONE : Nat := 0x0906
abbrev EV.CHG_TIMEOUT : Nat := 0x0907
abbrev EV.CHG_TIMEOUT_THERMAL : Nat := 0x0908
abbrev EV.CHG_BUDGET : Nat := 0x0909
abbrev EV.CHG_VIN_REG : Nat := 0x090A
abbrev EV.CHG_TBAT : Nat := 0x090B
abbrev EV.CHG_AC_LOST : Nat := 0x090C
/- Events of spec/13_gearbox_actuators.md. -/
abbrev EV.ACT_START_RETRY : Nat := 0x0A01
abbrev EV.ACT_START_FAILED : Nat := 0x0A02
abbrev EV.ACT_TIMEOUT : Nat := 0x0A03
abbrev EV.ACT_HALL : Nat := 0x0A04
abbrev EV.ACT_FAULT : Nat := 0x0A05
abbrev EV.PARK_ABORT : Nat := 0x0A06
abbrev EV.PARK_STATE : Nat := 0x0A07
/- Events of spec/14_lifetime_accounting.md. -/
abbrev EV.LIFE_WARN : Nat := 0x0120
abbrev EV.LIFE_CURVE_FAIL : Nat := 0x0121
abbrev EV.LIFE_MIRROR_FAIL : Nat := 0x0122
abbrev EV.LIFE_GAP : Nat := 0x0123
abbrev EV.LIFE_CLEARED : Nat := 0x0124
/- Events of spec/15_glove_pair.md. -/
abbrev EV.GLOVE_MISMATCH : Nat := 0x0B01
abbrev EV.GLOVE_ESCALATE : Nat := 0x0B02
abbrev EV.GLOVE_CACHE : Nat := 0x0B03
abbrev EV.JOURNAL_DEFER : Nat := 0x0B04
abbrev EV.GLOVE_ECHO : Nat := 0x0B05
abbrev EV.GLOVE_HALT : Nat := 0x0B06
abbrev EV.GLOVE_RESUME : Nat := 0x0B07
abbrev EV.GLOVE_SELFTEST : Nat := 0x0B08
/- Events of spec/16_command_ports_and_privilege.md. -/
abbrev EV.CMD_OVERFLOW : Nat := 0x0C01
abbrev EV.AUTH_FAIL : Nat := 0x0C02
abbrev EV.SESSION_OPEN : Nat := 0x0C03
abbrev EV.SESSION_END : Nat := 0x0C04
abbrev EV.SUPERSEDED : Nat := 0x0C05
abbrev EV.AUDIT_FULL : Nat := 0x0C06
abbrev EV.BAD_CRC : Nat := 0x0C07
/- Events of spec/17_can_and_partners.md. -/
abbrev EV.CAN_PASSIVE : Nat := 0x0D01
abbrev EV.CAN_BUSOFF : Nat := 0x0D02
abbrev EV.CAN_RECOVERED : Nat := 0x0D03
abbrev EV.CAN_RX_OVERFLOW : Nat := 0x0D04
abbrev EV.CAN_TX_FAILED : Nat := 0x0D05
abbrev EV.PARTNER_UP : Nat := 0x0D06
abbrev EV.PARTNER_LOST : Nat := 0x0D07
abbrev EV.PARTNER_TABLE_FULL : Nat := 0x0D08
abbrev EV.TUNNEL_ERR : Nat := 0x0D09
/- Events of spec/18_storage_recorder_update.md. -/
abbrev EV.STO_DEVICE : Nat := 0x0E01
abbrev EV.STO_REPAIR : Nat := 0x0E02
abbrev EV.STO_WEAR : Nat := 0x0E03
abbrev EV.STO_FORMAT : Nat := 0x0E04
abbrev EV.REC_TRIGGERED : Nat := 0x0E05
abbrev EV.REC_DONE : Nat := 0x0E06
abbrev EV.REC_MISSED : Nat := 0x0E07
abbrev EV.UPD_CHECKED : Nat := 0x0E08
abbrev EV.UPD_SWITCHED : Nat := 0x0E09
abbrev EV.UPD_FALLBACK : Nat := 0x0E0A
abbrev EV.UPD_COMMITTED : Nat := 0x0E0B
abbrev EV.UPD_FAILED : Nat := 0x0E0C
abbrev EV.LOG_LOST : Nat := 0x0E0D
/- Events of spec/19_electrical_mechanical_pair.md. -/
abbrev EV.PAIR_REDIST : Nat := 0x0710
abbrev EV.PAIR_LINK_UP : Nat := 0x0810
abbrev EV.PAIR_LINK_DOWN : Nat := 0x0811
abbrev EV.PAIR_HOLD_TAKEOVER : Nat := 0x0812
abbrev EV.PAIR_CHG_SHARE : Nat := 0x0910

end Sys2Proof.Machine
end

