-- ==== Sys2Proof/Machine/RegMap.lean ====
section
/-! DEFINITION. The register map: every register of spec/20_register_map.md (R688) by name, every field of every field
table by name, and one row for each register family with its access classes (R7) and reset values (R6).
The rows are the field tables of the spec's chapters, family by family; each definition cites the table it follows. -/

namespace Sys2Proof.Machine

/-- One row of a field table: bits hi down to lo, the class of R7, and the value after power-on reset (R6). -/
structure FieldRow where
  hi : Nat
  lo : Nat
  cls : Cls
  rst : Nat
deriving DecidableEq, Repr

/-- One register family: the index of its first instance, up to two strides with their counts, and its field table. -/
structure RegRow where
  base : Nat
  s1 : Nat
  n1 : Nat
  s2 : Nat
  n2 : Nat
  fields : List FieldRow
deriving DecidableEq, Repr

/-- `DEV_ID` (20_register_map.md, R691). -/
abbrev R.DEV_ID : Nat := 0x0000
/-- `DEV_UID_LO` (20_register_map.md, R691). -/
abbrev R.DEV_UID_LO : Nat := 0x0002
/-- `DEV_UID_HI` (20_register_map.md, R691). -/
abbrev R.DEV_UID_HI : Nat := 0x0003
/-- `DEV_DT_LO` (01_organisation_and_timing.md, R29). -/
abbrev R.DEV_DT_LO : Nat := 0x0010
/-- `DEV_DT_HI` (01_organisation_and_timing.md, R29). -/
abbrev R.DEV_DT_HI : Nat := 0x0011
/-- `DEV_CLK_STAT` (01_organisation_and_timing.md, R30). -/
abbrev R.DEV_CLK_STAT : Nat := 0x0012
/-- `DEV_MODE` (02_modes_and_startup.md, R83). -/
abbrev R.DEV_MODE : Nat := 0x0020
/-- `DEV_ENTRY_BLOCK` (02_modes_and_startup.md, R46). -/
abbrev R.DEV_ENTRY_BLOCK : Nat := 0x0021
/-- `DEV_SAFE_CAUSE` (02_modes_and_startup.md, R79). -/
abbrev R.DEV_SAFE_CAUSE : Nat := 0x0022
/-- `DEV_RST_CAUSE` (02_modes_and_startup.md, R83). -/
abbrev R.DEV_RST_CAUSE : Nat := 0x0023
/-- `DEV_SUPPLY` (02_modes_and_startup.md, R83). -/
abbrev R.DEV_SUPPLY : Nat := 0x0024
/-- `DEV_STO_CFG` (02_modes_and_startup.md, R83). -/
abbrev R.DEV_STO_CFG : Nat := 0x0025
/-- `DEV_STO_STAT` (02_modes_and_startup.md, R83). -/
abbrev R.DEV_STO_STAT : Nat := 0x0026
/-- `DEV_SHUT_CFG` (02_modes_and_startup.md, R72). -/
abbrev R.DEV_SHUT_CFG : Nat := 0x0027
/-- `DEV_WAKE_CFG` (02_modes_and_startup.md, R65). -/
abbrev R.DEV_WAKE_CFG : Nat := 0x0028
/-- `DEV_QUEUED` (02_modes_and_startup.md, R76). -/
abbrev R.DEV_QUEUED : Nat := 0x0029
/-- `DEV_RTC` (02_modes_and_startup.md, R67). -/
abbrev R.DEV_RTC : Nat := 0x002A
/-- `DEV_RTC_ALARM` (02_modes_and_startup.md, R67). -/
abbrev R.DEV_RTC_ALARM : Nat := 0x002B
/-- `DEV_FLAG_SUM` (20_register_map.md, R692). -/
abbrev R.DEV_FLAG_SUM : Nat := 0x0030
/-- `CMD_FLAGS` (16_command_ports_and_privilege.md, R586). -/
abbrev R.CMD_FLAGS : Nat := 0x0100
/-- `CMD_IRQ_EN` (16_command_ports_and_privilege.md, R586). -/
abbrev R.CMD_IRQ_EN : Nat := 0x0101
/-- `CMD_IRQ_STAT` (16_command_ports_and_privilege.md, R586). -/
abbrev R.CMD_IRQ_STAT : Nat := 0x0102
/-- `CMD_SESSION` (16_command_ports_and_privilege.md, R586). -/
abbrev R.CMD_SESSION : Nat := 0x0103
/-- `CMD_SESSIONS` (16_command_ports_and_privilege.md, R586). -/
abbrev R.CMD_SESSIONS : Nat := 0x0104
/-- `CMD_KEY_STAT` (16_command_ports_and_privilege.md, R586). -/
abbrev R.CMD_KEY_STAT : Nat := 0x0105
/-- `CMD_AUDIT_NEXT` (16_command_ports_and_privilege.md, R586). -/
abbrev R.CMD_AUDIT_NEXT : Nat := 0x0106
/-- `CMD_AUDIT_STAT` (16_command_ports_and_privilege.md, R586). -/
abbrev R.CMD_AUDIT_STAT : Nat := 0x0107
/-- `CMD_PORT_STAT` (16_command_ports_and_privilege.md, R586). -/
abbrev R.CMD_PORT_STAT (n : Nat) : Nat := 0x0108 + n
/-- `CMD_ARB` (16_command_ports_and_privilege.md, R586). -/
abbrev R.CMD_ARB : Nat := 0x010A
/-- `FAB_FLAGS` (01_organisation_and_timing.md, R37). -/
abbrev R.FAB_FLAGS : Nat := 0x0201
/-- `FAB_PACE` (01_organisation_and_timing.md, R37). -/
abbrev R.FAB_PACE : Nat := 0x0202
/-- `FAB_CTRL` (01_organisation_and_timing.md, R37). -/
abbrev R.FAB_CTRL : Nat := 0x0203
/-- `FAB_BLOCK_MAX` (01_organisation_and_timing.md, R37). -/
abbrev R.FAB_BLOCK_MAX (n : Nat) : Nat := 0x0211 + n
/-- `FAB_XFIFO_OVF` (01_organisation_and_timing.md, R37). -/
abbrev R.FAB_XFIFO_OVF : Nat := 0x0220
/-- `FAB_ECC` (01_organisation_and_timing.md, R37). -/
abbrev R.FAB_ECC : Nat := 0x0230
/-- `FAB_DEADLINE` (01_organisation_and_timing.md, R37). -/
abbrev R.FAB_DEADLINE : Nat := 0x0240
/-- `ISL_STAT` (03_gate_islands.md, R128). -/
abbrev R.ISL_STAT (n : Nat) : Nat := 0x0400 + 0x10 * n
/-- `ISL_FLAGS` (03_gate_islands.md, R128). -/
abbrev R.ISL_FLAGS (n : Nat) : Nat := 0x0401 + 0x10 * n
/-- `ISL_CFG` (03_gate_islands.md, R128). -/
abbrev R.ISL_CFG (n : Nat) : Nat := 0x0402 + 0x10 * n
/-- `ISL_PLEN` (03_gate_islands.md, R128). -/
abbrev R.ISL_PLEN (n : Nat) : Nat := 0x0403 + 0x10 * n
/-- `ISL_VDS_CAL` (03_gate_islands.md, R128). -/
abbrev R.ISL_VDS_CAL (n : Nat) : Nat := 0x0404 + 0x10 * n
/-- `ISL_NTC_CFG` (03_gate_islands.md, R128). -/
abbrev R.ISL_NTC_CFG (n : Nat) : Nat := 0x0405 + 0x10 * n
/-- `ISL_TEL_VDS` (03_gate_islands.md, R128). -/
abbrev R.ISL_TEL_VDS (n : Nat) : Nat := 0x0406 + 0x10 * n
/-- `ISL_TEL_ENV` (03_gate_islands.md, R128). -/
abbrev R.ISL_TEL_ENV (n : Nat) : Nat := 0x0407 + 0x10 * n
/-- `ISL_PROF` (03_gate_islands.md, R128). -/
abbrev R.ISL_PROF (n : Nat) (p : Nat) : Nat := 0x0408 + 0x10 * n + p
/-- `PROT_CFG` (04_protection_and_diagnostics.md, R158). -/
abbrev R.PROT_CFG : Nat := 0x0800
/-- `PROT_FLAGS` (04_protection_and_diagnostics.md, R158). -/
abbrev R.PROT_FLAGS : Nat := 0x0801
/-- `PROT_STAT` (04_protection_and_diagnostics.md, R158). -/
abbrev R.PROT_STAT : Nat := 0x0802
/-- `PROT_SS_CFG` (04_protection_and_diagnostics.md, R697). -/
abbrev R.PROT_SS_CFG (m : Nat) : Nat := 0x0810 + m
/-- `PROT_SS_STAT` (04_protection_and_diagnostics.md, R697). -/
abbrev R.PROT_SS_STAT (m : Nat) : Nat := 0x0812 + m
/-- `PROT_SS_SPEED` (04_protection_and_diagnostics.md, R697). -/
abbrev R.PROT_SS_SPEED (m : Nat) : Nat := 0x0814 + m
/-- `PROT_PRE_CFG` (04_protection_and_diagnostics.md, R165). -/
abbrev R.PROT_PRE_CFG : Nat := 0x0820
/-- `PROT_PRE_STAT` (04_protection_and_diagnostics.md, R165). -/
abbrev R.PROT_PRE_STAT : Nat := 0x0821
/-- `PROT_PRE_CTRL` (04_protection_and_diagnostics.md, R165). -/
abbrev R.PROT_PRE_CTRL : Nat := 0x0822
/-- `PROT_PRE_VERD` (04_protection_and_diagnostics.md, R165). -/
abbrev R.PROT_PRE_VERD (j : Nat) : Nat := 0x0824 + j
/-- `PROT_IL_FLAGS` (04_protection_and_diagnostics.md, R147). -/
abbrev R.PROT_IL_FLAGS : Nat := 0x0830
/-- `PROT_IL_COUNT` (04_protection_and_diagnostics.md, R147). -/
abbrev R.PROT_IL_COUNT : Nat := 0x0831
/-- `PROT_DSAT` (04_protection_and_diagnostics.md, R140). -/
abbrev R.PROT_DSAT (n : Nat) : Nat := 0x0840 + n
/-- `PROT_OC` (04_protection_and_diagnostics.md, R140). -/
abbrev R.PROT_OC (n : Nat) : Nat := 0x0870 + n
/-- `PROT_IST` (04_protection_and_diagnostics.md, R140). -/
abbrev R.PROT_IST (n : Nat) : Nat := 0x08A0 + n
/-- `PWM_SYNC_CFG` (05_pwm.md, R209). -/
abbrev R.PWM_SYNC_CFG : Nat := 0x0A00
/-- `PWM_FLAGS` (05_pwm.md, R209). -/
abbrev R.PWM_FLAGS : Nat := 0x0A01
/-- `PWM_COMMIT` (05_pwm.md, R209). -/
abbrev R.PWM_COMMIT : Nat := 0x0A02
/-- `PWM_LATCH` (05_pwm.md, R209). -/
abbrev R.PWM_LATCH : Nat := 0x0A03
/-- `PWM_FORCE` (05_pwm.md, R209). -/
abbrev R.PWM_FORCE : Nat := 0x0A04
/-- `PWM_SYNC_STAT` (05_pwm.md, R209). -/
abbrev R.PWM_SYNC_STAT : Nat := 0x0A05
/-- `PWM_TB_CFG` (05_pwm.md, R209). -/
abbrev R.PWM_TB_CFG (j : Nat) : Nat := 0x0A10 + 0x4 * j
/-- `PWM_TB_PERIOD` (05_pwm.md, R209). -/
abbrev R.PWM_TB_PERIOD (j : Nat) : Nat := 0x0A11 + 0x4 * j
/-- `PWM_TB_OFS` (05_pwm.md, R209). -/
abbrev R.PWM_TB_OFS (j : Nat) : Nat := 0x0A12 + 0x4 * j
/-- `PWM_TB_STAT` (05_pwm.md, R209). -/
abbrev R.PWM_TB_STAT (j : Nat) : Nat := 0x0A13 + 0x4 * j
/-- `PWM_HB_CFG` (05_pwm.md, R209). -/
abbrev R.PWM_HB_CFG (k : Nat) : Nat := 0x0B00 + 0x10 * k
/-- `PWM_HB_DUTY_H` (05_pwm.md, R209). -/
abbrev R.PWM_HB_DUTY_H (k : Nat) : Nat := 0x0B01 + 0x10 * k
/-- `PWM_HB_DUTY_L` (05_pwm.md, R209). -/
abbrev R.PWM_HB_DUTY_L (k : Nat) : Nat := 0x0B02 + 0x10 * k
/-- `PWM_HB_PHASE` (05_pwm.md, R209). -/
abbrev R.PWM_HB_PHASE (k : Nat) : Nat := 0x0B03 + 0x10 * k
/-- `PWM_HB_CTRL` (05_pwm.md, R209). -/
abbrev R.PWM_HB_CTRL (k : Nat) : Nat := 0x0B04 + 0x10 * k
/-- `PWM_HB_TIMING` (05_pwm.md, R209). -/
abbrev R.PWM_HB_TIMING (k : Nat) : Nat := 0x0B05 + 0x10 * k
/-- `PWM_HB_TRIP` (05_pwm.md, R209). -/
abbrev R.PWM_HB_TRIP (k : Nat) : Nat := 0x0B06 + 0x10 * k
/-- `PWM_HB_TRIPWIN` (05_pwm.md, R209). -/
abbrev R.PWM_HB_TRIPWIN (k : Nat) : Nat := 0x0B07 + 0x10 * k
/-- `PWM_HB_STAT` (05_pwm.md, R209). -/
abbrev R.PWM_HB_STAT (k : Nat) : Nat := 0x0B08 + 0x10 * k
/-- `PWM_HB_FLAGS` (05_pwm.md, R209). -/
abbrev R.PWM_HB_FLAGS (k : Nat) : Nat := 0x0B09 + 0x10 * k
/-- `PWM_HB_CARRY` (05_pwm.md, R209). -/
abbrev R.PWM_HB_CARRY (k : Nat) : Nat := 0x0B0A + 0x10 * k
/-- `ADC_REF_CTRL` (06_measurement.md, R259). -/
abbrev R.ADC_REF_CTRL : Nat := 0x0E00
/-- `ADC_FLAGS` (06_measurement.md, R259). -/
abbrev R.ADC_FLAGS : Nat := 0x0E01
/-- `ADC_WCMP_STAT` (06_measurement.md, R259). -/
abbrev R.ADC_WCMP_STAT (j : Nat) : Nat := 0x0E02 + j
/-- `ADC_WCMP_FLAGS` (06_measurement.md, R259). -/
abbrev R.ADC_WCMP_FLAGS (j : Nat) : Nat := 0x0E04 + j
/-- `ADC_PHS_CFG` (06_measurement.md, R259). -/
abbrev R.ADC_PHS_CFG : Nat := 0x0E06
/-- `ADC_RES_CFG` (06_measurement.md, R259). -/
abbrev R.ADC_RES_CFG (r : Nat) : Nat := 0x0E08 + 0x2 * r
/-- `ADC_RES_STAT` (06_measurement.md, R259). -/
abbrev R.ADC_RES_STAT (r : Nat) : Nat := 0x0E09 + 0x2 * r
/-- `ADC_ENC_CFG` (06_measurement.md, R259). -/
abbrev R.ADC_ENC_CFG (e : Nat) : Nat := 0x0E0C + 0x2 * e
/-- `ADC_ENC_STAT` (06_measurement.md, R259). -/
abbrev R.ADC_ENC_STAT (e : Nat) : Nat := 0x0E0D + 0x2 * e
/-- `ADC_AD_CFG` (06_measurement.md, R259). -/
abbrev R.ADC_AD_CFG (n : Nat) : Nat := 0x0E20 + 0x4 * n
/-- `ADC_AD_TRIG` (06_measurement.md, R259). -/
abbrev R.ADC_AD_TRIG (n : Nat) : Nat := 0x0E21 + 0x4 * n
/-- `ADC_AD_STAT` (06_measurement.md, R259). -/
abbrev R.ADC_AD_STAT (n : Nat) : Nat := 0x0E22 + 0x4 * n
/-- `ADC_AD_INTSUM` (06_measurement.md, R259). -/
abbrev R.ADC_AD_INTSUM (n : Nat) : Nat := 0x0E23 + 0x4 * n
/-- `ADC_SENT_CFG` (06_measurement.md, R259). -/
abbrev R.ADC_SENT_CFG (s : Nat) : Nat := 0x0E50 + 0x4 * s
/-- `ADC_SENT_STAT` (06_measurement.md, R259). -/
abbrev R.ADC_SENT_STAT (s : Nat) : Nat := 0x0E51 + 0x4 * s
/-- `ADC_SENT_SLOW` (06_measurement.md, R259). -/
abbrev R.ADC_SENT_SLOW (s : Nat) : Nat := 0x0E52 + 0x4 * s
/-- `ADC_AIN_CAL` (06_measurement.md, R259). -/
abbrev R.ADC_AIN_CAL (c : Nat) : Nat := 0x0E80 + c
/-- `ADC_WCMP` (06_measurement.md, R259). -/
abbrev R.ADC_WCMP (c : Nat) : Nat := 0x0EC0 + c
/-- `ADC_AD_SLOT` (06_measurement.md, R259). -/
abbrev R.ADC_AD_SLOT (n : Nat) (i : Nat) : Nat := 0x0F00 + 0x10 * n + i
/-- `QUE_FLAGS` (06_measurement.md, R260). -/
abbrev R.QUE_FLAGS : Nat := 0x1000
/-- `QUE_RATE` (06_measurement.md, R260). -/
abbrev R.QUE_RATE : Nat := 0x1001
/-- `QUE_Q_CFG` (06_measurement.md, R260). -/
abbrev R.QUE_Q_CFG (q : Nat) : Nat := 0x1020 + 0x4 * q
/-- `QUE_Q_PTR` (06_measurement.md, R260). -/
abbrev R.QUE_Q_PTR (q : Nat) : Nat := 0x1021 + 0x4 * q
/-- `QUE_Q_ACK` (06_measurement.md, R260). -/
abbrev R.QUE_Q_ACK (q : Nat) : Nat := 0x1022 + 0x4 * q
/-- `QUE_Q_STAT` (06_measurement.md, R260). -/
abbrev R.QUE_Q_STAT (q : Nat) : Nat := 0x1023 + 0x4 * q
/-- `ENG_FLAGS` (07_control_engines.md, R295). -/
abbrev R.ENG_FLAGS : Nat := 0x1200
/-- `ENG_STAT` (07_control_engines.md, R295). -/
abbrev R.ENG_STAT : Nat := 0x1201
/-- `ENG_ECC` (07_control_engines.md, R295). -/
abbrev R.ENG_ECC : Nat := 0x1202
/-- `ENG_CTRL` (07_control_engines.md, R295). -/
abbrev R.ENG_CTRL : Nat := 0x1203
/-- `ENG_GWIN_ADDR` (07_control_engines.md, R295). -/
abbrev R.ENG_GWIN_ADDR : Nat := 0x1204
/-- `ENG_GWIN_DATA` (07_control_engines.md, R295). -/
abbrev R.ENG_GWIN_DATA : Nat := 0x1205
/-- `ENG_GWIN_CTRL` (07_control_engines.md, R295). -/
abbrev R.ENG_GWIN_CTRL : Nat := 0x1206
/-- `ENG_GWIN_STAT` (07_control_engines.md, R295). -/
abbrev R.ENG_GWIN_STAT : Nat := 0x1207
/-- `ENG_PAIR_FLAGS` (08_loops_setpoints_pairing.md, R328). -/
abbrev R.ENG_PAIR_FLAGS : Nat := 0x1208
/-- `ENG_PAIR_CONV` (08_loops_setpoints_pairing.md, R328). -/
abbrev R.ENG_PAIR_CONV : Nat := 0x1209
/-- `ENG_HAND_HELD` (08_loops_setpoints_pairing.md, R328). -/
abbrev R.ENG_HAND_HELD (j : Nat) : Nat := 0x120A + j
/-- `ENG_G_STAT` (07_control_engines.md, R295). -/
abbrev R.ENG_G_STAT (g : Nat) : Nat := 0x1210 + 0x10 * g
/-- `ENG_G_FLAGS` (07_control_engines.md, R295). -/
abbrev R.ENG_G_FLAGS (g : Nat) : Nat := 0x1211 + 0x10 * g
/-- `ENG_G_TIME` (07_control_engines.md, R295). -/
abbrev R.ENG_G_TIME (g : Nat) : Nat := 0x1212 + 0x10 * g
/-- `ENG_G_COUNT` (07_control_engines.md, R295). -/
abbrev R.ENG_G_COUNT (g : Nat) : Nat := 0x1213 + 0x10 * g
/-- `ENG_G_TAP` (07_control_engines.md, R295). -/
abbrev R.ENG_G_TAP (g : Nat) (t : Nat) : Nat := 0x1300 + 0x10 * g + t
/-- `ENG_PAIR_STAT_K` (08_loops_setpoints_pairing.md, R328). -/
abbrev R.ENG_PAIR_STAT_K (k : Nat) : Nat := 0x1400 + 0x2 * k
/-- `ENG_PAIR_MISM_K` (08_loops_setpoints_pairing.md, R328). -/
abbrev R.ENG_PAIR_MISM_K (k : Nat) : Nat := 0x1401 + 0x2 * k
/-- `ENG_HAND` (08_loops_setpoints_pairing.md, R328). -/
abbrev R.ENG_HAND (s : Nat) : Nat := 0x1440 + s
/-- `ENG_PEDAL_CFG` (08_loops_setpoints_pairing.md, R328). -/
abbrev R.ENG_PEDAL_CFG : Nat := 0x1480
/-- `ENG_PEDAL_T` (08_loops_setpoints_pairing.md, R328). -/
abbrev R.ENG_PEDAL_T (j : Nat) : Nat := 0x1481 + j
/-- `ENG_PEDAL_STAT` (08_loops_setpoints_pairing.md, R328). -/
abbrev R.ENG_PEDAL_STAT : Nat := 0x1483
/-- `PLC_CTRL` (09_placement.md, R350). -/
abbrev R.PLC_CTRL : Nat := 0x1600
/-- `PLC_STAT` (09_placement.md, R350). -/
abbrev R.PLC_STAT : Nat := 0x1601
/-- `PLC_RESULT` (09_placement.md, R350). -/
abbrev R.PLC_RESULT : Nat := 0x1602
/-- `PLC_RESULT_VAL` (09_placement.md, R350). -/
abbrev R.PLC_RESULT_VAL : Nat := 0x1603
/-- `PLC_CAPACITY` (09_placement.md, R350). -/
abbrev R.PLC_CAPACITY : Nat := 0x1604
/-- `PLC_FLAGS` (09_placement.md, R350). -/
abbrev R.PLC_FLAGS : Nat := 0x1605
/-- `PLC_SHED` (09_placement.md, R350). -/
abbrev R.PLC_SHED : Nat := 0x1606
/-- `PLC_IDENT` (09_placement.md, R350). -/
abbrev R.PLC_IDENT : Nat := 0x1607
/-- `PLC_PWIN_ADDR` (09_placement.md, R350). -/
abbrev R.PLC_PWIN_ADDR : Nat := 0x1608
/-- `PLC_PWIN_DATA` (09_placement.md, R350). -/
abbrev R.PLC_PWIN_DATA : Nat := 0x1609
/-- `PLC_LAST_FAIL` (09_placement.md, R350). -/
abbrev R.PLC_LAST_FAIL : Nat := 0x160A
/-- `PLC_GRAPH` (09_placement.md, R350). -/
abbrev R.PLC_GRAPH (g : Nat) : Nat := 0x1610 + g
/-- `PLC_CONV` (09_placement.md, R350). -/
abbrev R.PLC_CONV (k : Nat) : Nat := 0x1620 + k
/-- `TRX_FLAGS` (10_traction_control.md, R393). -/
abbrev R.TRX_FLAGS : Nat := 0x1800
/-- `TRX_MAP_ADDR` (10_traction_control.md, R393). -/
abbrev R.TRX_MAP_ADDR : Nat := 0x1801
/-- `TRX_MAP_DATA` (10_traction_control.md, R393). -/
abbrev R.TRX_MAP_DATA : Nat := 0x1802
/-- `TRX_MAP_CTRL` (10_traction_control.md, R393). -/
abbrev R.TRX_MAP_CTRL : Nat := 0x1803
/-- `TRX_MAP_STAT` (10_traction_control.md, R393). -/
abbrev R.TRX_MAP_STAT : Nat := 0x1804
/-- `TRX_M_CFG` (10_traction_control.md, R393). -/
abbrev R.TRX_M_CFG (m : Nat) : Nat := 0x1810 + 0x20 * m
/-- `TRX_M_CTRL` (10_traction_control.md, R393). -/
abbrev R.TRX_M_CTRL (m : Nat) : Nat := 0x1811 + 0x20 * m
/-- `TRX_M_TREQ` (10_traction_control.md, R393). -/
abbrev R.TRX_M_TREQ (m : Nat) : Nat := 0x1812 + 0x20 * m
/-- `TRX_M_WREQ` (10_traction_control.md, R393). -/
abbrev R.TRX_M_WREQ (m : Nat) : Nat := 0x1813 + 0x20 * m
/-- `TRX_M_LIM` (10_traction_control.md, R393). -/
abbrev R.TRX_M_LIM (m : Nat) : Nat := 0x1814 + 0x20 * m
/-- `TRX_M_TCMD` (10_traction_control.md, R393). -/
abbrev R.TRX_M_TCMD (m : Nat) : Nat := 0x1815 + 0x20 * m
/-- `TRX_M_STAT` (10_traction_control.md, R393). -/
abbrev R.TRX_M_STAT (m : Nat) : Nat := 0x1816 + 0x20 * m
/-- `TRX_M_OBS` (10_traction_control.md, R393). -/
abbrev R.TRX_M_OBS (m : Nat) : Nat := 0x1817 + 0x20 * m
/-- `TRX_M_START` (10_traction_control.md, R393). -/
abbrev R.TRX_M_START (m : Nat) : Nat := 0x1818 + 0x20 * m
/-- `TRX_M_KE` (10_traction_control.md, R393). -/
abbrev R.TRX_M_KE (m : Nat) : Nat := 0x1819 + 0x20 * m
/-- `TRX_M_KE_STAT` (10_traction_control.md, R393). -/
abbrev R.TRX_M_KE_STAT (m : Nat) : Nat := 0x181A + 0x20 * m
/-- `TRX_M_LIMP` (10_traction_control.md, R393). -/
abbrev R.TRX_M_LIMP (m : Nat) : Nat := 0x181B + 0x20 * m
/-- `TRX_M_REV` (10_traction_control.md, R393). -/
abbrev R.TRX_M_REV (m : Nat) : Nat := 0x181C + 0x20 * m
/-- `TRX_M_AXT` (10_traction_control.md, R393). -/
abbrev R.TRX_M_AXT (m : Nat) : Nat := 0x181D + 0x20 * m
/-- `TRX_M_AXW` (10_traction_control.md, R393). -/
abbrev R.TRX_M_AXW (m : Nat) : Nat := 0x181E + 0x20 * m
/-- `TRX_M_AXV` (10_traction_control.md, R393). -/
abbrev R.TRX_M_AXV (m : Nat) : Nat := 0x181F + 0x20 * m
/-- `TRX_M_CRC` (10_traction_control.md, R393). -/
abbrev R.TRX_M_CRC (m : Nat) : Nat := 0x1820 + 0x20 * m
/-- `DCL_FLAGS` (11_dc_link_converter_chopper.md, R424). -/
abbrev R.DCL_FLAGS : Nat := 0x1C00
/-- `DCL_STAT` (11_dc_link_converter_chopper.md, R424). -/
abbrev R.DCL_STAT : Nat := 0x1C01
/-- `DCL_SENSE` (11_dc_link_converter_chopper.md, R424). -/
abbrev R.DCL_SENSE : Nat := 0x1C02
/-- `DCL_THR` (11_dc_link_converter_chopper.md, R424). -/
abbrev R.DCL_THR : Nat := 0x1C03
/-- `DCL_HYS` (11_dc_link_converter_chopper.md, R424). -/
abbrev R.DCL_HYS : Nat := 0x1C04
/-- `DCL_BASE` (11_dc_link_converter_chopper.md, R424). -/
abbrev R.DCL_BASE : Nat := 0x1C05
/-- `DCL_DCDC_CTRL` (11_dc_link_converter_chopper.md, R424). -/
abbrev R.DCL_DCDC_CTRL : Nat := 0x1C06
/-- `DCL_DCDC_VREF` (11_dc_link_converter_chopper.md, R424). -/
abbrev R.DCL_DCDC_VREF : Nat := 0x1C07
/-- `DCL_DCDC_IREF` (11_dc_link_converter_chopper.md, R424). -/
abbrev R.DCL_DCDC_IREF : Nat := 0x1C08
/-- `DCL_DCDC_LIM` (11_dc_link_converter_chopper.md, R424). -/
abbrev R.DCL_DCDC_LIM : Nat := 0x1C09
/-- `DCL_CHOP_CFG` (11_dc_link_converter_chopper.md, R424). -/
abbrev R.DCL_CHOP_CFG : Nat := 0x1C0A
/-- `DCL_CHOP_RES` (11_dc_link_converter_chopper.md, R424). -/
abbrev R.DCL_CHOP_RES : Nat := 0x1C0B
/-- `DCL_CHOP_CHK` (11_dc_link_converter_chopper.md, R424). -/
abbrev R.DCL_CHOP_CHK : Nat := 0x1C0C
/-- `DCL_CHOP_STAT` (11_dc_link_converter_chopper.md, R424). -/
abbrev R.DCL_CHOP_STAT : Nat := 0x1C0D
/-- `DCL_CHOP_CTRL` (11_dc_link_converter_chopper.md, R424). -/
abbrev R.DCL_CHOP_CTRL : Nat := 0x1C0E
/-- `CHG_FLAGS` (12_charging_and_power_path.md, R458). -/
abbrev R.CHG_FLAGS : Nat := 0x1E00
/-- `CHG_STAT` (12_charging_and_power_path.md, R458). -/
abbrev R.CHG_STAT : Nat := 0x1E01
/-- `CHG_CTRL` (12_charging_and_power_path.md, R458). -/
abbrev R.CHG_CTRL : Nat := 0x1E02
/-- `CHG_CFG` (12_charging_and_power_path.md, R458). -/
abbrev R.CHG_CFG : Nat := 0x1E03
/-- `CHG_CP_STAT` (12_charging_and_power_path.md, R458). -/
abbrev R.CHG_CP_STAT : Nat := 0x1E04
/-- `CHG_IN_CFG` (12_charging_and_power_path.md, R458). -/
abbrev R.CHG_IN_CFG : Nat := 0x1E05
/-- `CHG_IN_STAT` (12_charging_and_power_path.md, R458). -/
abbrev R.CHG_IN_STAT : Nat := 0x1E06
/-- `CHG_ILIM_HOST` (12_charging_and_power_path.md, R458). -/
abbrev R.CHG_ILIM_HOST : Nat := 0x1E07
/-- `CHG_CH` (12_charging_and_power_path.md, R458). -/
abbrev R.CHG_CH : Nat := 0x1E08
/-- `CHG_SCALE` (12_charging_and_power_path.md, R458). -/
abbrev R.CHG_SCALE : Nat := 0x1E09
/-- `CHG_PROF` (12_charging_and_power_path.md, R458). -/
abbrev R.CHG_PROF : Nat := 0x1E0A
/-- `CHG_LIMITS` (12_charging_and_power_path.md, R458). -/
abbrev R.CHG_LIMITS : Nat := 0x1E0B
/-- `CHG_NTC` (12_charging_and_power_path.md, R458). -/
abbrev R.CHG_NTC : Nat := 0x1E0C
/-- `CHG_TBAT` (12_charging_and_power_path.md, R458). -/
abbrev R.CHG_TBAT : Nat := 0x1E0D
/-- `CHG_SESSION` (12_charging_and_power_path.md, R458). -/
abbrev R.CHG_SESSION : Nat := 0x1E0E
/-- `CHG_FOLLOW` (12_charging_and_power_path.md, R458). -/
abbrev R.CHG_FOLLOW : Nat := 0x1E0F
/-- `CHG_IRQ_EN` (12_charging_and_power_path.md, R458). -/
abbrev R.CHG_IRQ_EN : Nat := 0x1E10
/-- `CHG_IRQ_STAT` (12_charging_and_power_path.md, R458). -/
abbrev R.CHG_IRQ_STAT : Nat := 0x1E11
/-- `CHG_ZONE` (12_charging_and_power_path.md, R458). -/
abbrev R.CHG_ZONE (z : Nat) : Nat := 0x1E18 + z
/-- `ACT_FLAGS` (13_gearbox_actuators.md, R481). -/
abbrev R.ACT_FLAGS : Nat := 0x2000
/-- `ACT_PARK` (13_gearbox_actuators.md, R481). -/
abbrev R.ACT_PARK : Nat := 0x2001
/-- `ACT_A_CFG` (13_gearbox_actuators.md, R481). -/
abbrev R.ACT_A_CFG (a : Nat) : Nat := 0x2010 + 0x10 * a
/-- `ACT_A_CTRL` (13_gearbox_actuators.md, R481). -/
abbrev R.ACT_A_CTRL (a : Nat) : Nat := 0x2011 + 0x10 * a
/-- `ACT_A_TGT` (13_gearbox_actuators.md, R481). -/
abbrev R.ACT_A_TGT (a : Nat) : Nat := 0x2012 + 0x10 * a
/-- `ACT_A_STAT` (13_gearbox_actuators.md, R481). -/
abbrev R.ACT_A_STAT (a : Nat) : Nat := 0x2013 + 0x10 * a
/-- `ACT_A_START` (13_gearbox_actuators.md, R481). -/
abbrev R.ACT_A_START (a : Nat) : Nat := 0x2014 + 0x10 * a
/-- `ACT_A_POS` (13_gearbox_actuators.md, R481). -/
abbrev R.ACT_A_POS (a : Nat) : Nat := 0x2015 + 0x10 * a
/-- `ACT_LV_STAT` (03_gate_islands.md, R127). -/
abbrev R.ACT_LV_STAT : Nat := 0x20F0
/-- `ACT_LV_FLAGS` (03_gate_islands.md, R127). -/
abbrev R.ACT_LV_FLAGS : Nat := 0x20F1
/-- `ACT_LV_CFG` (03_gate_islands.md, R127). -/
abbrev R.ACT_LV_CFG : Nat := 0x20F2
/-- `LIFE_FLAGS` (14_lifetime_accounting.md, R502). -/
abbrev R.LIFE_FLAGS : Nat := 0x2100
/-- `LIFE_STAT` (14_lifetime_accounting.md, R502). -/
abbrev R.LIFE_STAT : Nat := 0x2101
/-- `LIFE_CFG` (14_lifetime_accounting.md, R502). -/
abbrev R.LIFE_CFG : Nat := 0x2102
/-- `LIFE_CTRL` (14_lifetime_accounting.md, R502). -/
abbrev R.LIFE_CTRL : Nat := 0x2103
/-- `LIFE_TWIN_ADDR` (14_lifetime_accounting.md, R502). -/
abbrev R.LIFE_TWIN_ADDR : Nat := 0x2104
/-- `LIFE_TWIN_DATA` (14_lifetime_accounting.md, R502). -/
abbrev R.LIFE_TWIN_DATA : Nat := 0x2105
/-- `LIFE_CAL_CAP` (14_lifetime_accounting.md, R502). -/
abbrev R.LIFE_CAL_CAP : Nat := 0x2106
/-- `LIFE_I_CFG` (14_lifetime_accounting.md, R502). -/
abbrev R.LIFE_I_CFG (n : Nat) : Nat := 0x2110 + n
/-- `LIFE_I_TJ` (14_lifetime_accounting.md, R502). -/
abbrev R.LIFE_I_TJ (n : Nat) : Nat := 0x2140 + n
/-- `LIFE_I_DMG` (14_lifetime_accounting.md, R502). -/
abbrev R.LIFE_I_DMG (n : Nat) : Nat := 0x2170 + n
/-- `GLV_FLAGS` (15_glove_pair.md, R538). -/
abbrev R.GLV_FLAGS : Nat := 0x2200
/-- `GLV_STAT` (15_glove_pair.md, R538). -/
abbrev R.GLV_STAT : Nat := 0x2201
/-- `GLV_MISM` (15_glove_pair.md, R538). -/
abbrev R.GLV_MISM : Nat := 0x2202
/-- `GLV_MISM_CP` (15_glove_pair.md, R538). -/
abbrev R.GLV_MISM_CP : Nat := 0x2203
/-- `GLV_CP` (15_glove_pair.md, R538). -/
abbrev R.GLV_CP : Nat := 0x2204
/-- `GLV_JRNL` (15_glove_pair.md, R538). -/
abbrev R.GLV_JRNL : Nat := 0x2205
/-- `GLV_JSEQ` (15_glove_pair.md, R538). -/
abbrev R.GLV_JSEQ : Nat := 0x2206
/-- `GLV_CACHE` (15_glove_pair.md, R538). -/
abbrev R.GLV_CACHE : Nat := 0x2207
/-- `GLV_DBG_CTRL` (15_glove_pair.md, R538). -/
abbrev R.GLV_DBG_CTRL : Nat := 0x2210
/-- `GLV_DBG_BRK` (15_glove_pair.md, R538). -/
abbrev R.GLV_DBG_BRK : Nat := 0x2211
/-- `GLV_DBG_STAT` (15_glove_pair.md, R538). -/
abbrev R.GLV_DBG_STAT : Nat := 0x2212
/-- `GLV_DWIN_ADDR` (15_glove_pair.md, R538). -/
abbrev R.GLV_DWIN_ADDR : Nat := 0x2213
/-- `GLV_DWIN_DATA` (15_glove_pair.md, R538). -/
abbrev R.GLV_DWIN_DATA : Nat := 0x2214
/-- `CAN_FLAGS` (17_can_and_partners.md, R621). -/
abbrev R.CAN_FLAGS : Nat := 0x2400
/-- `CAN_CTRL` (17_can_and_partners.md, R621). -/
abbrev R.CAN_CTRL : Nat := 0x2401
/-- `CAN_FWIN_ADDR` (17_can_and_partners.md, R621). -/
abbrev R.CAN_FWIN_ADDR : Nat := 0x2402
/-- `CAN_FWIN_DATA` (17_can_and_partners.md, R621). -/
abbrev R.CAN_FWIN_DATA : Nat := 0x2403
/-- `CAN_HB_CFG` (17_can_and_partners.md, R621). -/
abbrev R.CAN_HB_CFG : Nat := 0x2404
/-- `CAN_PT_STAT` (17_can_and_partners.md, R621). -/
abbrev R.CAN_PT_STAT : Nat := 0x2405
/-- `CAN_C_CFG` (17_can_and_partners.md, R621). -/
abbrev R.CAN_C_CFG (c : Nat) : Nat := 0x2410 + 0x40 * c
/-- `CAN_C_NBT` (17_can_and_partners.md, R621). -/
abbrev R.CAN_C_NBT (c : Nat) : Nat := 0x2411 + 0x40 * c
/-- `CAN_C_DBT` (17_can_and_partners.md, R621). -/
abbrev R.CAN_C_DBT (c : Nat) : Nat := 0x2412 + 0x40 * c
/-- `CAN_C_TUN_REQ` (17_can_and_partners.md, R621). -/
abbrev R.CAN_C_TUN_REQ (c : Nat) : Nat := 0x2413 + 0x40 * c
/-- `CAN_C_TUN_RSP` (17_can_and_partners.md, R621). -/
abbrev R.CAN_C_TUN_RSP (c : Nat) : Nat := 0x2414 + 0x40 * c
/-- `CAN_C_CTRL` (17_can_and_partners.md, R621). -/
abbrev R.CAN_C_CTRL (c : Nat) : Nat := 0x2415 + 0x40 * c
/-- `CAN_C_STAT` (17_can_and_partners.md, R621). -/
abbrev R.CAN_C_STAT (c : Nat) : Nat := 0x2416 + 0x40 * c
/-- `CAN_C_RXSTAT` (17_can_and_partners.md, R621). -/
abbrev R.CAN_C_RXSTAT (c : Nat) : Nat := 0x2417 + 0x40 * c
/-- `CAN_C_TXREQ` (17_can_and_partners.md, R621). -/
abbrev R.CAN_C_TXREQ (c : Nat) : Nat := 0x2418 + 0x40 * c
/-- `CAN_C_TXDONE` (17_can_and_partners.md, R621). -/
abbrev R.CAN_C_TXDONE (c : Nat) : Nat := 0x2419 + 0x40 * c
/-- `CAN_C_CANCEL` (17_can_and_partners.md, R621). -/
abbrev R.CAN_C_CANCEL (c : Nat) : Nat := 0x241A + 0x40 * c
/-- `CAN_C_RXACK` (17_can_and_partners.md, R621). -/
abbrev R.CAN_C_RXACK (c : Nat) : Nat := 0x241B + 0x40 * c
/-- `CAN_C_LOAD` (17_can_and_partners.md, R621). -/
abbrev R.CAN_C_LOAD (c : Nat) : Nat := 0x241C + 0x40 * c
/-- `CAN_C_TXBUF` (17_can_and_partners.md, R621). -/
abbrev R.CAN_C_TXBUF (c : Nat) (w : Nat) : Nat := 0x2430 + 0x40 * c + w
/-- `STO_FLAGS` (18_storage_recorder_update.md, R654). -/
abbrev R.STO_FLAGS : Nat := 0x2800
/-- `STO_STAT` (18_storage_recorder_update.md, R654). -/
abbrev R.STO_STAT : Nat := 0x2801
/-- `STO_CFG` (18_storage_recorder_update.md, R654). -/
abbrev R.STO_CFG : Nat := 0x2802
/-- `STO_CTRL` (18_storage_recorder_update.md, R654). -/
abbrev R.STO_CTRL : Nat := 0x2803
/-- `STO_DEV` (18_storage_recorder_update.md, R654). -/
abbrev R.STO_DEV (d : Nat) : Nat := 0x2804 + d
/-- `STO_REC_CFG` (18_storage_recorder_update.md, R654). -/
abbrev R.STO_REC_CFG : Nat := 0x2810
/-- `STO_REC_TRIG` (18_storage_recorder_update.md, R654). -/
abbrev R.STO_REC_TRIG : Nat := 0x2811
/-- `STO_REC_EVT` (18_storage_recorder_update.md, R654). -/
abbrev R.STO_REC_EVT : Nat := 0x2812
/-- `STO_REC_STAT` (18_storage_recorder_update.md, R654). -/
abbrev R.STO_REC_STAT : Nat := 0x2813
/-- `UPD_STAT` (18_storage_recorder_update.md, R654). -/
abbrev R.UPD_STAT : Nat := 0x2820
/-- `UPD_VER` (18_storage_recorder_update.md, R654). -/
abbrev R.UPD_VER : Nat := 0x2821
/-- `UPD_NEW` (18_storage_recorder_update.md, R654). -/
abbrev R.UPD_NEW : Nat := 0x2822
/-- `LOG_EVENT_NEXT` (18_storage_recorder_update.md, R654). -/
abbrev R.LOG_EVENT_NEXT : Nat := 0x2C00
/-- `LOG_EVENT_STAT` (18_storage_recorder_update.md, R654). -/
abbrev R.LOG_EVENT_STAT : Nat := 0x2C01
/-- `PAIR_FLAGS` (19_electrical_mechanical_pair.md, R686). -/
abbrev R.PAIR_FLAGS : Nat := 0x3000
/-- `PAIR_STAT` (19_electrical_mechanical_pair.md, R686). -/
abbrev R.PAIR_STAT : Nat := 0x3001
/-- `PAIR_CFG` (19_electrical_mechanical_pair.md, R686). -/
abbrev R.PAIR_CFG : Nat := 0x3002
/-- `PAIR_PEER` (19_electrical_mechanical_pair.md, R686). -/
abbrev R.PAIR_PEER : Nat := 0x3003

abbrev F.DEV_ID.PRODUCT : Fld := ⟨39, 24⟩
abbrev F.DEV_ID.GRADE : Fld := ⟨23, 20⟩
abbrev F.DEV_ID.STEP : Fld := ⟨19, 12⟩
abbrev F.DEV_ID.MAPVER : Fld := ⟨11, 8⟩
abbrev F.DEV_UID_LO.UID : Fld := ⟨31, 0⟩
abbrev F.DEV_UID_HI.UID : Fld := ⟨31, 0⟩
abbrev F.DEV_DT_LO.DT_LO : Fld := ⟨39, 0⟩
abbrev F.DEV_DT_HI.DT_HI : Fld := ⟨23, 0⟩
abbrev F.DEV_CLK_STAT.XTAL_LOST : Fld := ⟨3, 3⟩
abbrev F.DEV_CLK_STAT.FALLBACK : Fld := ⟨2, 2⟩
abbrev F.DEV_CLK_STAT.PLL_LOCK : Fld := ⟨1, 1⟩
abbrev F.DEV_CLK_STAT.XTAL_OK : Fld := ⟨0, 0⟩
abbrev F.DEV_MODE.BOOT_FAIL : Fld := ⟨7, 7⟩
abbrev F.DEV_MODE.TRANSIT : Fld := ⟨6, 6⟩
abbrev F.DEV_MODE.TARGET : Fld := ⟨5, 3⟩
abbrev F.DEV_MODE.MODE : Fld := ⟨2, 0⟩
abbrev F.DEV_ENTRY_BLOCK.SPEED : Fld := ⟨9, 9⟩
abbrev F.DEV_ENTRY_BLOCK.SAFE_CAUSE : Fld := ⟨8, 8⟩
abbrev F.DEV_ENTRY_BLOCK.DCL : Fld := ⟨7, 7⟩
abbrev F.DEV_ENTRY_BLOCK.STO : Fld := ⟨6, 6⟩
abbrev F.DEV_ENTRY_BLOCK.PRESTART_FAIL : Fld := ⟨5, 5⟩
abbrev F.DEV_ENTRY_BLOCK.PRESTART_RUN : Fld := ⟨4, 4⟩
abbrev F.DEV_ENTRY_BLOCK.REF : Fld := ⟨3, 3⟩
abbrev F.DEV_ENTRY_BLOCK.CAL : Fld := ⟨2, 2⟩
abbrev F.DEV_ENTRY_BLOCK.SUPPLY : Fld := ⟨1, 1⟩
abbrev F.DEV_ENTRY_BLOCK.PLANT : Fld := ⟨0, 0⟩
abbrev F.DEV_SAFE_CAUSE.BOOT_FAIL : Fld := ⟨11, 11⟩
abbrev F.DEV_SAFE_CAUSE.LINK_60V : Fld := ⟨10, 10⟩
abbrev F.DEV_SAFE_CAUSE.ISLAND_HELD : Fld := ⟨9, 9⟩
abbrev F.DEV_SAFE_CAUSE.WARM_RESET : Fld := ⟨8, 8⟩
abbrev F.DEV_SAFE_CAUSE.VANA_LOW : Fld := ⟨7, 7⟩
abbrev F.DEV_SAFE_CAUSE.CLOCK : Fld := ⟨6, 6⟩
abbrev F.DEV_SAFE_CAUSE.OV2 : Fld := ⟨5, 5⟩
abbrev F.DEV_SAFE_CAUSE.PROT : Fld := ⟨4, 4⟩
abbrev F.DEV_SAFE_CAUSE.GLOVE : Fld := ⟨3, 3⟩
abbrev F.DEV_SAFE_CAUSE.STO_DISCREP : Fld := ⟨2, 2⟩
abbrev F.DEV_SAFE_CAUSE.STO : Fld := ⟨1, 1⟩
abbrev F.DEV_SAFE_CAUSE.CMD : Fld := ⟨0, 0⟩
abbrev F.DEV_RST_CAUSE.WATCHDOG : Fld := ⟨5, 5⟩
abbrev F.DEV_RST_CAUSE.SOFTWARE : Fld := ⟨4, 4⟩
abbrev F.DEV_RST_CAUSE.PIN : Fld := ⟨3, 3⟩
abbrev F.DEV_RST_CAUSE.VIO_LOW : Fld := ⟨2, 2⟩
abbrev F.DEV_RST_CAUSE.VCORE_LOW : Fld := ⟨1, 1⟩
abbrev F.DEV_RST_CAUSE.POWER_ON : Fld := ⟨0, 0⟩
abbrev F.DEV_SUPPLY.VAUX_OK : Fld := ⟨3, 3⟩
abbrev F.DEV_SUPPLY.VANA_OK : Fld := ⟨2, 2⟩
abbrev F.DEV_SUPPLY.VIO_OK : Fld := ⟨1, 1⟩
abbrev F.DEV_SUPPLY.VCORE_OK : Fld := ⟨0, 0⟩
abbrev F.DEV_STO_CFG.DISCREP : Fld := ⟨31, 16⟩
abbrev F.DEV_STO_CFG.FILTER : Fld := ⟨15, 0⟩
abbrev F.DEV_STO_STAT.STO_B : Fld := ⟨1, 1⟩
abbrev F.DEV_STO_STAT.STO_A : Fld := ⟨0, 0⟩
abbrev F.DEV_SHUT_CFG.DISCH_EN : Fld := ⟨32, 32⟩
abbrev F.DEV_SHUT_CFG.DISCH_LIMIT : Fld := ⟨31, 16⟩
abbrev F.DEV_SHUT_CFG.RAMP : Fld := ⟨15, 0⟩
abbrev F.DEV_WAKE_CFG.RTC : Fld := ⟨6, 6⟩
abbrev F.DEV_WAKE_CFG.CP1 : Fld := ⟨5, 5⟩
abbrev F.DEV_WAKE_CFG.CP0 : Fld := ⟨4, 4⟩
abbrev F.DEV_WAKE_CFG.CAN2 : Fld := ⟨3, 3⟩
abbrev F.DEV_WAKE_CFG.CAN1 : Fld := ⟨2, 2⟩
abbrev F.DEV_WAKE_CFG.CAN0 : Fld := ⟨1, 1⟩
abbrev F.DEV_WAKE_CFG.WAKE_PIN : Fld := ⟨0, 0⟩
abbrev F.DEV_QUEUED.MODE_REQ : Fld := ⟨35, 32⟩
abbrev F.DEV_QUEUED.FUNC : Fld := ⟨31, 0⟩
abbrev F.DEV_RTC.SEC : Fld := ⟨39, 8⟩
abbrev F.DEV_RTC.FRAC : Fld := ⟨7, 1⟩
abbrev F.DEV_RTC.SET : Fld := ⟨0, 0⟩
abbrev F.DEV_RTC_ALARM.SEC : Fld := ⟨39, 8⟩
abbrev F.DEV_RTC_ALARM.EN : Fld := ⟨0, 0⟩
abbrev F.DEV_FLAG_SUM.DEV : Fld := ⟨18, 18⟩
abbrev F.DEV_FLAG_SUM.PAIR : Fld := ⟨17, 17⟩
abbrev F.DEV_FLAG_SUM.CMD : Fld := ⟨16, 16⟩
abbrev F.DEV_FLAG_SUM.STO : Fld := ⟨15, 15⟩
abbrev F.DEV_FLAG_SUM.CAN : Fld := ⟨14, 14⟩
abbrev F.DEV_FLAG_SUM.GLV : Fld := ⟨13, 13⟩
abbrev F.DEV_FLAG_SUM.LIFE : Fld := ⟨12, 12⟩
abbrev F.DEV_FLAG_SUM.ACT : Fld := ⟨11, 11⟩
abbrev F.DEV_FLAG_SUM.CHG : Fld := ⟨10, 10⟩
abbrev F.DEV_FLAG_SUM.DCL : Fld := ⟨9, 9⟩
abbrev F.DEV_FLAG_SUM.TRX : Fld := ⟨8, 8⟩
abbrev F.DEV_FLAG_SUM.PLC : Fld := ⟨7, 7⟩
abbrev F.DEV_FLAG_SUM.ENG : Fld := ⟨6, 6⟩
abbrev F.DEV_FLAG_SUM.QUE : Fld := ⟨5, 5⟩
abbrev F.DEV_FLAG_SUM.ADC : Fld := ⟨4, 4⟩
abbrev F.DEV_FLAG_SUM.PWM : Fld := ⟨3, 3⟩
abbrev F.DEV_FLAG_SUM.PROT : Fld := ⟨2, 2⟩
abbrev F.DEV_FLAG_SUM.ISL : Fld := ⟨1, 1⟩
abbrev F.DEV_FLAG_SUM.FAB : Fld := ⟨0, 0⟩
abbrev F.CMD_FLAGS.AUDIT_LOST : Fld := ⟨5, 5⟩
abbrev F.CMD_FLAGS.AUDIT_FULL : Fld := ⟨4, 4⟩
abbrev F.CMD_FLAGS.SUPERSEDED : Fld := ⟨3, 3⟩
abbrev F.CMD_FLAGS.AUTH_FAIL : Fld := ⟨2, 2⟩
abbrev F.CMD_FLAGS.OVERFLOW : Fld := ⟨1, 1⟩
abbrev F.CMD_FLAGS.BAD_CRC : Fld := ⟨0, 0⟩
abbrev F.CMD_IRQ_EN.CLASS : Fld := ⟨29, 16⟩
abbrev F.CMD_IRQ_EN.SESSION : Fld := ⟨5, 5⟩
abbrev F.CMD_IRQ_EN.MODE : Fld := ⟨4, 4⟩
abbrev F.CMD_IRQ_EN.SAFE : Fld := ⟨3, 3⟩
abbrev F.CMD_IRQ_EN.EVENT : Fld := ⟨2, 2⟩
abbrev F.CMD_IRQ_EN.REPLY1 : Fld := ⟨1, 1⟩
abbrev F.CMD_IRQ_EN.REPLY0 : Fld := ⟨0, 0⟩
abbrev F.CMD_IRQ_STAT.SESSION : Fld := ⟨5, 5⟩
abbrev F.CMD_IRQ_STAT.MODE : Fld := ⟨4, 4⟩
abbrev F.CMD_IRQ_STAT.SAFE : Fld := ⟨3, 3⟩
abbrev F.CMD_IRQ_STAT.EVENT : Fld := ⟨2, 2⟩
abbrev F.CMD_IRQ_STAT.REPLY1 : Fld := ⟨1, 1⟩
abbrev F.CMD_IRQ_STAT.REPLY0 : Fld := ⟨0, 0⟩
abbrev F.CMD_SESSION.SESSION : Fld := ⟨31, 24⟩
abbrev F.CMD_SESSION.PRIV : Fld := ⟨23, 23⟩
abbrev F.CMD_SESSION.ORIGIN : Fld := ⟨22, 20⟩
abbrev F.CMD_SESSION.REMAIN : Fld := ⟨19, 10⟩
abbrev F.CMD_SESSIONS.OPEN : Fld := ⟨11, 9⟩
abbrev F.CMD_SESSIONS.FAILS : Fld := ⟨8, 1⟩
abbrev F.CMD_SESSIONS.LOCKED : Fld := ⟨0, 0⟩
abbrev F.CMD_KEY_STAT.PROGRAMMED : Fld := ⟨0, 0⟩
abbrev F.CMD_AUDIT_NEXT.NEXT : Fld := ⟨39, 0⟩
abbrev F.CMD_AUDIT_STAT.FILL : Fld := ⟨29, 15⟩
abbrev F.CMD_AUDIT_STAT.LOST : Fld := ⟨14, 0⟩
abbrev F.CMD_PORT_STAT.WAITING : Fld := ⟨36, 32⟩
abbrev F.CMD_PORT_STAT.REQUESTS : Fld := ⟨31, 16⟩
abbrev F.CMD_PORT_STAT.BAD_CRC : Fld := ⟨15, 8⟩
abbrev F.CMD_PORT_STAT.DROPPED : Fld := ⟨7, 0⟩
abbrev F.CMD_ARB.WIN : Fld := ⟨39, 37⟩
abbrev F.CMD_ARB.LOSE : Fld := ⟨36, 34⟩
abbrev F.CMD_ARB.INDEX : Fld := ⟨29, 16⟩
abbrev F.CMD_ARB.COUNT : Fld := ⟨15, 0⟩
abbrev F.FAB_FLAGS.PACE_LOW : Fld := ⟨4, 4⟩
abbrev F.FAB_FLAGS.ECC_FATAL : Fld := ⟨3, 3⟩
abbrev F.FAB_FLAGS.ECC_CORR : Fld := ⟨2, 2⟩
abbrev F.FAB_FLAGS.XFIFO_OVF : Fld := ⟨1, 1⟩
abbrev F.FAB_FLAGS.DEADLINE : Fld := ⟨0, 0⟩
abbrev F.FAB_PACE.PACE : Fld := ⟨15, 0⟩
abbrev F.FAB_CTRL.CLR_COUNTS : Fld := ⟨1, 1⟩
abbrev F.FAB_CTRL.CLR_BLOCK_MAX : Fld := ⟨0, 0⟩
abbrev F.FAB_BLOCK_MAX.MAX : Fld := ⟨31, 0⟩
abbrev F.FAB_XFIFO_OVF.LAST_ID : Fld := ⟨39, 32⟩
abbrev F.FAB_XFIFO_OVF.COUNT : Fld := ⟨31, 0⟩
abbrev F.FAB_ECC.LAST_FATAL : Fld := ⟨38, 38⟩
abbrev F.FAB_ECC.LAST_WORD : Fld := ⟨37, 16⟩
abbrev F.FAB_ECC.CORR_COUNT : Fld := ⟨15, 0⟩
abbrev F.FAB_DEADLINE.LAST_CONV : Fld := ⟨31, 24⟩
abbrev F.FAB_DEADLINE.MISS_COUNT : Fld := ⟨23, 0⟩
abbrev F.ISL_STAT.ERR_COUNT : Fld := ⟨31, 16⟩
abbrev F.ISL_STAT.TRIM : Fld := ⟨15, 9⟩
abbrev F.ISL_STAT.IN_FALLBACK : Fld := ⟨8, 8⟩
abbrev F.ISL_STAT.FB_ON : Fld := ⟨7, 7⟩
abbrev F.ISL_STAT.CLAMP : Fld := ⟨6, 6⟩
abbrev F.ISL_STAT.GATE : Fld := ⟨5, 5⟩
abbrev F.ISL_STAT.LOCKOUT : Fld := ⟨4, 4⟩
abbrev F.ISL_STAT.VEE_OK : Fld := ⟨3, 3⟩
abbrev F.ISL_STAT.VDD_OK : Fld := ⟨2, 2⟩
abbrev F.ISL_STAT.CAL_DONE : Fld := ⟨1, 1⟩
abbrev F.ISL_STAT.LINK_UP : Fld := ⟨0, 0⟩
abbrev F.ISL_FLAGS.VDS_RANGE : Fld := ⟨9, 9⟩
abbrev F.ISL_FLAGS.STR_CLAMP : Fld := ⟨8, 8⟩
abbrev F.ISL_FLAGS.LATE_EDGE : Fld := ⟨7, 7⟩
abbrev F.ISL_FLAGS.NTC_FAULT : Fld := ⟨6, 6⟩
abbrev F.ISL_FLAGS.CAL_FAIL : Fld := ⟨5, 5⟩
abbrev F.ISL_FLAGS.LINK_ERR : Fld := ⟨4, 4⟩
abbrev F.ISL_FLAGS.LINK_DOWN : Fld := ⟨3, 3⟩
abbrev F.ISL_FLAGS.SEQ_ERR : Fld := ⟨2, 2⟩
abbrev F.ISL_FLAGS.VEE_UV : Fld := ⟨1, 1⟩
abbrev F.ISL_FLAGS.VDD_UV : Fld := ⟨0, 0⟩
abbrev F.ISL_CFG.USED : Fld := ⟨7, 7⟩
abbrev F.ISL_CFG.MAX_STR : Fld := ⟨6, 3⟩
abbrev F.ISL_CFG.NTC_EN : Fld := ⟨2, 2⟩
abbrev F.ISL_CFG.VDS_EN : Fld := ⟨1, 1⟩
abbrev F.ISL_CFG.CLAMP_EN : Fld := ⟨0, 0⟩
abbrev F.ISL_PLEN.DEF_OFF : Fld := ⟨21, 19⟩
abbrev F.ISL_PLEN.DEF_ON : Fld := ⟨18, 16⟩
abbrev F.ISL_PLEN.LEN : Fld := ⟨15, 0⟩
abbrev F.ISL_VDS_CAL.VALID : Fld := ⟨38, 38⟩
abbrev F.ISL_VDS_CAL.TCAL : Fld := ⟨37, 24⟩
abbrev F.ISL_VDS_CAL.TC : Fld := ⟨23, 12⟩
abbrev F.ISL_VDS_CAL.OFFSET : Fld := ⟨11, 0⟩
abbrev F.ISL_NTC_CFG.BETA : Fld := ⟨31, 16⟩
abbrev F.ISL_NTC_CFG.RES25 : Fld := ⟨15, 0⟩
abbrev F.ISL_TEL_VDS.VDS : Fld := ⟨35, 20⟩
abbrev F.ISL_TEL_VDS.UNCAL : Fld := ⟨19, 19⟩
abbrev F.ISL_TEL_VDS.NTC_INV : Fld := ⟨18, 18⟩
abbrev F.ISL_TEL_VDS.NO_SAMPLE : Fld := ⟨17, 17⟩
abbrev F.ISL_TEL_VDS.RANGE : Fld := ⟨16, 16⟩
abbrev F.ISL_TEL_VDS.STAMP : Fld := ⟨15, 0⟩
abbrev F.ISL_TEL_ENV.NTC_T : Fld := ⟨39, 26⟩
abbrev F.ISL_TEL_ENV.VDD : Fld := ⟨25, 14⟩
abbrev F.ISL_TEL_ENV.VEE : Fld := ⟨13, 2⟩
abbrev F.ISL_TEL_ENV.NTC_OPEN : Fld := ⟨1, 1⟩
abbrev F.ISL_TEL_ENV.NTC_SHORT : Fld := ⟨0, 0⟩
abbrev F.ISL_PROF.STR3 : Fld := ⟨39, 36⟩
abbrev F.ISL_PROF.DUR3 : Fld := ⟨35, 30⟩
abbrev F.ISL_PROF.STR2 : Fld := ⟨29, 26⟩
abbrev F.ISL_PROF.DUR2 : Fld := ⟨25, 20⟩
abbrev F.ISL_PROF.STR1 : Fld := ⟨19, 16⟩
abbrev F.ISL_PROF.DUR1 : Fld := ⟨15, 10⟩
abbrev F.ISL_PROF.STR0 : Fld := ⟨9, 6⟩
abbrev F.ISL_PROF.DUR0 : Fld := ⟨5, 0⟩
abbrev F.PROT_CFG.ESC_TWO_LEG : Fld := ⟨3, 3⟩
abbrev F.PROT_CFG.ESC_CONV : Fld := ⟨2, 2⟩
abbrev F.PROT_CFG.ESC_MACH : Fld := ⟨1, 1⟩
abbrev F.PROT_CFG.ESC_BOTH : Fld := ⟨0, 0⟩
abbrev F.PROT_FLAGS.SPEED_STALE : Fld := ⟨6, 6⟩
abbrev F.PROT_FLAGS.SS_DEGRADED : Fld := ⟨5, 5⟩
abbrev F.PROT_FLAGS.SHOOT_BLOCK : Fld := ⟨4, 4⟩
abbrev F.PROT_FLAGS.TWO_LEG : Fld := ⟨3, 3⟩
abbrev F.PROT_FLAGS.KELVIN : Fld := ⟨2, 2⟩
abbrev F.PROT_FLAGS.DESAT : Fld := ⟨1, 1⟩
abbrev F.PROT_FLAGS.PRESTART_FAIL : Fld := ⟨0, 0⟩
abbrev F.PROT_STAT.CONV_SAFE : Fld := ⟨31, 0⟩
abbrev F.PROT_SS_CFG.N_AS : Fld := ⟨31, 16⟩
abbrev F.PROT_SS_CFG.SWAP_DT : Fld := ⟨15, 6⟩
abbrev F.PROT_SS_CFG.SIDE_PREF : Fld := ⟨5, 5⟩
abbrev F.PROT_SS_STAT.ROW : Fld := ⟨31, 28⟩
abbrev F.PROT_SS_STAT.CLASS : Fld := ⟨27, 26⟩
abbrev F.PROT_SS_STAT.SIDE_LOCK : Fld := ⟨25, 25⟩
abbrev F.PROT_SS_STAT.SIDE : Fld := ⟨24, 24⟩
abbrev F.PROT_SS_STAT.RESULT : Fld := ⟨23, 23⟩
abbrev F.PROT_SS_STAT.APPLIED : Fld := ⟨22, 22⟩
abbrev F.PROT_SS_STAT.IMP_HS : Fld := ⟨21, 19⟩
abbrev F.PROT_SS_STAT.IMP_LS : Fld := ⟨18, 16⟩
abbrev F.PROT_SS_STAT.STALE : Fld := ⟨0, 0⟩
abbrev F.PROT_SS_SPEED.SRC : Fld := ⟨33, 32⟩
abbrev F.PROT_SS_SPEED.SPEED : Fld := ⟨31, 16⟩
abbrev F.PROT_SS_SPEED.AGE : Fld := ⟨15, 0⟩
abbrev F.PROT_PRE_CFG.ITEST : Fld := ⟨25, 24⟩
abbrev F.PROT_PRE_CFG.VMIN : Fld := ⟨23, 14⟩
abbrev F.PROT_PRE_CFG.T_OPEN : Fld := ⟨13, 8⟩
abbrev F.PROT_PRE_STAT.RAIL_PENDING : Fld := ⟨3, 3⟩
abbrev F.PROT_PRE_STAT.FAIL : Fld := ⟨2, 2⟩
abbrev F.PROT_PRE_STAT.DONE : Fld := ⟨1, 1⟩
abbrev F.PROT_PRE_STAT.RUNNING : Fld := ⟨0, 0⟩
abbrev F.PROT_PRE_CTRL.RUN : Fld := ⟨0, 0⟩
abbrev F.PROT_PRE_VERD.VERD : Fld := ⟨31, 0⟩
abbrev F.PROT_IL_FLAGS.UNIT : Fld := ⟨32, 0⟩
abbrev F.PROT_IL_COUNT.LAST_UNIT : Fld := ⟨37, 32⟩
abbrev F.PROT_IL_COUNT.COUNT : Fld := ⟨31, 0⟩
abbrev F.PROT_DSAT.DESAT_EN : Fld := ⟨34, 34⟩
abbrev F.PROT_DSAT.BIAS : Fld := ⟨33, 32⟩
abbrev F.PROT_DSAT.THRESH : Fld := ⟨31, 24⟩
abbrev F.PROT_DSAT.TBLANK : Fld := ⟨23, 14⟩
abbrev F.PROT_DSAT.FILT : Fld := ⟨13, 10⟩
abbrev F.PROT_DSAT.SOFT_STR : Fld := ⟨9, 6⟩
abbrev F.PROT_DSAT.SOFT_DUR : Fld := ⟨5, 0⟩
abbrev F.PROT_OC.OC_EN : Fld := ⟨27, 27⟩
abbrev F.PROT_OC.LKS : Fld := ⟨26, 18⟩
abbrev F.PROT_OC.ITHR : Fld := ⟨17, 8⟩
abbrev F.PROT_IST.LATCHED : Fld := ⟨35, 35⟩
abbrev F.PROT_IST.KELVIN : Fld := ⟨34, 34⟩
abbrev F.PROT_IST.DESAT : Fld := ⟨33, 33⟩
abbrev F.PROT_IST.DURING_BLANK : Fld := ⟨32, 32⟩
abbrev F.PROT_IST.STAMP : Fld := ⟨31, 0⟩
abbrev F.PWM_SYNC_CFG.SLEW : Fld := ⟨28, 21⟩
abbrev F.PWM_SYNC_CFG.TOL : Fld := ⟨20, 5⟩
abbrev F.PWM_SYNC_CFG.IN_EN : Fld := ⟨4, 4⟩
abbrev F.PWM_SYNC_CFG.OUT_TB : Fld := ⟨3, 1⟩
abbrev F.PWM_SYNC_CFG.OUT_EN : Fld := ⟨0, 0⟩
abbrev F.PWM_FLAGS.PERIOD_CLAMP : Fld := ⟨7, 7⟩
abbrev F.PWM_FLAGS.CARRY_CLAMP : Fld := ⟨6, 6⟩
abbrev F.PWM_FLAGS.SYNC_LOST : Fld := ⟨5, 5⟩
abbrev F.PWM_FLAGS.TRIP_LATCH : Fld := ⟨4, 4⟩
abbrev F.PWM_FLAGS.OVERLAP : Fld := ⟨3, 3⟩
abbrev F.PWM_FLAGS.DUTY_CLAMP : Fld := ⟨2, 2⟩
abbrev F.PWM_FLAGS.SKEW : Fld := ⟨1, 1⟩
abbrev F.PWM_FLAGS.HELD : Fld := ⟨0, 0⟩
abbrev F.PWM_COMMIT.TB : Fld := ⟨5, 0⟩
abbrev F.PWM_LATCH.UNIT : Fld := ⟨32, 0⟩
abbrev F.PWM_FORCE.EN : Fld := ⟨8, 8⟩
abbrev F.PWM_FORCE.L : Fld := ⟨7, 7⟩
abbrev F.PWM_FORCE.H : Fld := ⟨6, 6⟩
abbrev F.PWM_FORCE.UNIT : Fld := ⟨5, 0⟩
abbrev F.PWM_SYNC_STAT.MISSED : Fld := ⟨33, 18⟩
abbrev F.PWM_SYNC_STAT.ERR : Fld := ⟨17, 2⟩
abbrev F.PWM_SYNC_STAT.LOST : Fld := ⟨1, 1⟩
abbrev F.PWM_SYNC_STAT.LOCKED : Fld := ⟨0, 0⟩
abbrev F.PWM_TB_CFG.RUN : Fld := ⟨8, 8⟩
abbrev F.PWM_TB_CFG.DIV : Fld := ⟨7, 5⟩
abbrev F.PWM_TB_CFG.SRC : Fld := ⟨4, 2⟩
abbrev F.PWM_TB_CFG.MODE : Fld := ⟨1, 0⟩
abbrev F.PWM_TB_PERIOD.ACTIVE : Fld := ⟨37, 20⟩
abbrev F.PWM_TB_PERIOD.SHADOW : Fld := ⟨17, 0⟩
abbrev F.PWM_TB_OFS.OFS : Fld := ⟨30, 0⟩
abbrev F.PWM_TB_STAT.REFUSED : Fld := ⟨36, 36⟩
abbrev F.PWM_TB_STAT.HELD : Fld := ⟨35, 35⟩
abbrev F.PWM_TB_STAT.OWNED : Fld := ⟨34, 34⟩
abbrev F.PWM_TB_STAT.PERIOD_NO : Fld := ⟨33, 18⟩
abbrev F.PWM_TB_STAT.COUNT : Fld := ⟨17, 0⟩
abbrev F.PWM_HB_CFG.OFS : Fld := ⟨33, 18⟩
abbrev F.PWM_HB_CFG.TB : Fld := ⟨17, 15⟩
abbrev F.PWM_HB_CFG.MODE : Fld := ⟨14, 13⟩
abbrev F.PWM_HB_CFG.DFMT : Fld := ⟨12, 12⟩
abbrev F.PWM_HB_DUTY_H.DUTY : Fld := ⟨39, 0⟩
abbrev F.PWM_HB_DUTY_L.DUTY : Fld := ⟨39, 0⟩
abbrev F.PWM_HB_PHASE.PHASE : Fld := ⟨39, 0⟩
abbrev F.PWM_HB_CTRL.POFF_L : Fld := ⟨14, 12⟩
abbrev F.PWM_HB_CTRL.PON_L : Fld := ⟨11, 9⟩
abbrev F.PWM_HB_CTRL.POFF_H : Fld := ⟨8, 6⟩
abbrev F.PWM_HB_CTRL.PON_H : Fld := ⟨5, 3⟩
abbrev F.PWM_HB_CTRL.USE_PROF : Fld := ⟨2, 2⟩
abbrev F.PWM_HB_CTRL.CARRY_CLR : Fld := ⟨1, 1⟩
abbrev F.PWM_HB_CTRL.EN : Fld := ⟨0, 0⟩
abbrev F.PWM_HB_TIMING.TMIN : Fld := ⟨37, 26⟩
abbrev F.PWM_HB_TIMING.DT_HL : Fld := ⟨25, 13⟩
abbrev F.PWM_HB_TIMING.DT_LH : Fld := ⟨12, 0⟩
abbrev F.PWM_HB_TRIP.ACT : Fld := ⟨36, 36⟩
abbrev F.PWM_HB_TRIP.N : Fld := ⟨35, 28⟩
abbrev F.PWM_HB_TRIP.SRC3 : Fld := ⟨27, 21⟩
abbrev F.PWM_HB_TRIP.SRC2 : Fld := ⟨20, 14⟩
abbrev F.PWM_HB_TRIP.SRC1 : Fld := ⟨13, 7⟩
abbrev F.PWM_HB_TRIP.SRC0 : Fld := ⟨6, 0⟩
abbrev F.PWM_HB_TRIPWIN.W : Fld := ⟨27, 0⟩
abbrev F.PWM_HB_STAT.TRIP_COUNT : Fld := ⟨15, 8⟩
abbrev F.PWM_HB_STAT.SELECTOR : Fld := ⟨5, 5⟩
abbrev F.PWM_HB_STAT.LATCHED : Fld := ⟨4, 4⟩
abbrev F.PWM_HB_STAT.TRIPPED : Fld := ⟨3, 3⟩
abbrev F.PWM_HB_STAT.ON_L : Fld := ⟨2, 2⟩
abbrev F.PWM_HB_STAT.ON_H : Fld := ⟨1, 1⟩
abbrev F.PWM_HB_STAT.EN : Fld := ⟨0, 0⟩
abbrev F.PWM_HB_FLAGS.CARRY_CLAMP : Fld := ⟨5, 5⟩
abbrev F.PWM_HB_FLAGS.LATCH : Fld := ⟨4, 4⟩
abbrev F.PWM_HB_FLAGS.TRIP : Fld := ⟨3, 3⟩
abbrev F.PWM_HB_FLAGS.OVERLAP : Fld := ⟨2, 2⟩
abbrev F.PWM_HB_FLAGS.DUTY_CLAMP : Fld := ⟨1, 1⟩
abbrev F.PWM_HB_FLAGS.SKEW : Fld := ⟨0, 0⟩
abbrev F.PWM_HB_CARRY.LAST_L : Fld := ⟨29, 28⟩
abbrev F.PWM_HB_CARRY.LAST_H : Fld := ⟨27, 26⟩
abbrev F.PWM_HB_CARRY.CARRY_L : Fld := ⟨25, 13⟩
abbrev F.PWM_HB_CARRY.CARRY_H : Fld := ⟨12, 0⟩
abbrev F.ADC_REF_CTRL.SETTLED : Fld := ⟨1, 1⟩
abbrev F.ADC_REF_CTRL.EN : Fld := ⟨0, 0⟩
abbrev F.ADC_FLAGS.SENT_ERR : Fld := ⟨6, 6⟩
abbrev F.ADC_FLAGS.ENC_ERR : Fld := ⟨5, 5⟩
abbrev F.ADC_FLAGS.RES_FAULT : Fld := ⟨4, 4⟩
abbrev F.ADC_FLAGS.SEQ_OVERRUN : Fld := ⟨3, 3⟩
abbrev F.ADC_FLAGS.LANE : Fld := ⟨2, 2⟩
abbrev F.ADC_FLAGS.RANGE : Fld := ⟨1, 1⟩
abbrev F.ADC_FLAGS.UNSETTLED : Fld := ⟨0, 0⟩
abbrev F.ADC_WCMP_STAT.ASSERTED : Fld := ⟨31, 0⟩
abbrev F.ADC_WCMP_FLAGS.SEEN : Fld := ⟨31, 0⟩
abbrev F.ADC_PHS_CFG.RATIO : Fld := ⟨15, 0⟩
abbrev F.ADC_RES_CFG.EN : Fld := ⟨37, 37⟩
abbrev F.ADC_RES_CFG.POLES : Fld := ⟨36, 32⟩
abbrev F.ADC_RES_CFG.FREQ : Fld := ⟨31, 16⟩
abbrev F.ADC_RES_CFG.PHASE : Fld := ⟨15, 8⟩
abbrev F.ADC_RES_STAT.LOS : Fld := ⟨37, 37⟩
abbrev F.ADC_RES_STAT.LOT : Fld := ⟨36, 36⟩
abbrev F.ADC_RES_STAT.ANGLE : Fld := ⟨31, 16⟩
abbrev F.ADC_RES_STAT.SPEED : Fld := ⟨15, 0⟩
abbrev F.ADC_ENC_CFG.EN : Fld := ⟨37, 37⟩
abbrev F.ADC_ENC_CFG.ZRST : Fld := ⟨36, 36⟩
abbrev F.ADC_ENC_CFG.FILT : Fld := ⟨35, 32⟩
abbrev F.ADC_ENC_CFG.LINES : Fld := ⟨31, 16⟩
abbrev F.ADC_ENC_CFG.ZVAL : Fld := ⟨15, 0⟩
abbrev F.ADC_ENC_STAT.ERRS : Fld := ⟨39, 32⟩
abbrev F.ADC_ENC_STAT.COUNT : Fld := ⟨31, 16⟩
abbrev F.ADC_ENC_STAT.SPEED : Fld := ⟨15, 0⟩
abbrev F.ADC_AD_CFG.TB : Fld := ⟨28, 26⟩
abbrev F.ADC_AD_CFG.LEN : Fld := ⟨25, 22⟩
abbrev F.ADC_AD_CFG.MODE : Fld := ⟨21, 20⟩
abbrev F.ADC_AD_CFG.DEC : Fld := ⟨19, 17⟩
abbrev F.ADC_AD_CFG.QUEUE : Fld := ⟨16, 12⟩
abbrev F.ADC_AD_CFG.CHAN : Fld := ⟨6, 0⟩
abbrev F.ADC_AD_TRIG.EVERY : Fld := ⟨33, 31⟩
abbrev F.ADC_AD_TRIG.AT : Fld := ⟨30, 0⟩
abbrev F.ADC_AD_STAT.SEQ_NO : Fld := ⟨39, 32⟩
abbrev F.ADC_AD_STAT.COUNT : Fld := ⟨31, 15⟩
abbrev F.ADC_AD_STAT.OVERRUNS : Fld := ⟨14, 3⟩
abbrev F.ADC_AD_STAT.FAILED : Fld := ⟨2, 2⟩
abbrev F.ADC_AD_STAT.BUSY : Fld := ⟨1, 1⟩
abbrev F.ADC_AD_STAT.RUN : Fld := ⟨0, 0⟩
abbrev F.ADC_AD_INTSUM.SUM : Fld := ⟨39, 0⟩
abbrev F.ADC_SENT_CFG.EN : Fld := ⟨35, 35⟩
abbrev F.ADC_SENT_CFG.PAUSE : Fld := ⟨34, 34⟩
abbrev F.ADC_SENT_CFG.CRC_LEGACY : Fld := ⟨33, 33⟩
abbrev F.ADC_SENT_CFG.NIBBLES : Fld := ⟨32, 30⟩
abbrev F.ADC_SENT_CFG.SPLIT : Fld := ⟨29, 28⟩
abbrev F.ADC_SENT_CFG.TICK : Fld := ⟨27, 18⟩
abbrev F.ADC_SENT_CFG.LOSTN : Fld := ⟨17, 10⟩
abbrev F.ADC_SENT_STAT.STATUS : Fld := ⟨35, 32⟩
abbrev F.ADC_SENT_STAT.ERRS : Fld := ⟨31, 16⟩
abbrev F.ADC_SENT_STAT.LOST : Fld := ⟨1, 1⟩
abbrev F.ADC_SENT_STAT.UP : Fld := ⟨0, 0⟩
abbrev F.ADC_SENT_SLOW.ENH : Fld := ⟨24, 24⟩
abbrev F.ADC_SENT_SLOW.ID : Fld := ⟨23, 16⟩
abbrev F.ADC_SENT_SLOW.DATA : Fld := ⟨15, 0⟩
abbrev F.ADC_AIN_CAL.GAIN : Fld := ⟨35, 20⟩
abbrev F.ADC_AIN_CAL.OFFSET : Fld := ⟨15, 0⟩
abbrev F.ADC_WCMP.EN : Fld := ⟨35, 35⟩
abbrev F.ADC_WCMP.FILT : Fld := ⟨34, 31⟩
abbrev F.ADC_WCMP.HYST : Fld := ⟨30, 27⟩
abbrev F.ADC_WCMP.HI : Fld := ⟨23, 12⟩
abbrev F.ADC_WCMP.LO : Fld := ⟨11, 0⟩
abbrev F.ADC_AD_SLOT.QUEUE : Fld := ⟨13, 9⟩
abbrev F.ADC_AD_SLOT.AVG : Fld := ⟨8, 7⟩
abbrev F.ADC_AD_SLOT.CHAN : Fld := ⟨6, 0⟩
abbrev F.QUE_FLAGS.OVF : Fld := ⟨31, 0⟩
abbrev F.QUE_RATE.PROVEN : Fld := ⟨33, 17⟩
abbrev F.QUE_RATE.PEAK : Fld := ⟨16, 0⟩
abbrev F.QUE_Q_CFG.CONS : Fld := ⟨36, 35⟩
abbrev F.QUE_Q_CFG.PAIR : Fld := ⟨34, 32⟩
abbrev F.QUE_Q_CFG.SIZE : Fld := ⟨31, 18⟩
abbrev F.QUE_Q_CFG.BASE : Fld := ⟨17, 0⟩
abbrev F.QUE_Q_PTR.FILL : Fld := ⟨27, 14⟩
abbrev F.QUE_Q_PTR.RD : Fld := ⟨13, 0⟩
abbrev F.QUE_Q_ACK.COUNT : Fld := ⟨13, 0⟩
abbrev F.QUE_Q_STAT.DROPPED : Fld := ⟨31, 0⟩
abbrev F.ENG_FLAGS.APPLY_FAIL : Fld := ⟨4, 4⟩
abbrev F.ENG_FLAGS.STALE : Fld := ⟨3, 3⟩
abbrev F.ENG_FLAGS.GRAPH : Fld := ⟨2, 2⟩
abbrev F.ENG_FLAGS.ECC_FATAL : Fld := ⟨1, 1⟩
abbrev F.ENG_FLAGS.ECC_CORR : Fld := ⟨0, 0⟩
abbrev F.ENG_STAT.FAILED : Fld := ⟨31, 16⟩
abbrev F.ENG_STAT.RUN : Fld := ⟨15, 0⟩
abbrev F.ENG_ECC.LAST_ENG : Fld := ⟨39, 36⟩
abbrev F.ENG_ECC.LAST_WORD : Fld := ⟨35, 22⟩
abbrev F.ENG_ECC.LAST_FATAL : Fld := ⟨16, 16⟩
abbrev F.ENG_ECC.CORR_COUNT : Fld := ⟨15, 0⟩
abbrev F.ENG_CTRL.CLR_COUNTS : Fld := ⟨1, 1⟩
abbrev F.ENG_CTRL.CLR_TIME_MAX : Fld := ⟨0, 0⟩
abbrev F.ENG_GWIN_ADDR.AUTOINC : Fld := ⟨20, 20⟩
abbrev F.ENG_GWIN_ADDR.GRAPH : Fld := ⟨19, 17⟩
abbrev F.ENG_GWIN_ADDR.AREA : Fld := ⟨16, 14⟩
abbrev F.ENG_GWIN_ADDR.WORD : Fld := ⟨13, 0⟩
abbrev F.ENG_GWIN_DATA.DATA : Fld := ⟨39, 0⟩
abbrev F.ENG_GWIN_CTRL.DISCARD : Fld := ⟨1, 1⟩
abbrev F.ENG_GWIN_CTRL.APPLY : Fld := ⟨0, 0⟩
abbrev F.ENG_GWIN_STAT.FAIL : Fld := ⟨24, 24⟩
abbrev F.ENG_GWIN_STAT.FAIL_WORD : Fld := ⟨23, 10⟩
abbrev F.ENG_GWIN_STAT.PENDING : Fld := ⟨9, 9⟩
abbrev F.ENG_GWIN_STAT.STAGED : Fld := ⟨8, 0⟩
abbrev F.ENG_PAIR_FLAGS.PEDAL : Fld := ⟨3, 3⟩
abbrev F.ENG_PAIR_FLAGS.HANDOFF_HELD : Fld := ⟨2, 2⟩
abbrev F.ENG_PAIR_FLAGS.ESCALATED : Fld := ⟨1, 1⟩
abbrev F.ENG_PAIR_FLAGS.MISMATCH : Fld := ⟨0, 0⟩
abbrev F.ENG_PAIR_CONV.CONV : Fld := ⟨31, 0⟩
abbrev F.ENG_HAND_HELD.HELD : Fld := ⟨31, 0⟩
abbrev F.ENG_G_STAT.LOADED : Fld := ⟨39, 39⟩
abbrev F.ENG_G_STAT.RUNNING : Fld := ⟨38, 38⟩
abbrev F.ENG_G_STAT.PAIR : Fld := ⟨37, 35⟩
abbrev F.ENG_G_STAT.TB : Fld := ⟨34, 32⟩
abbrev F.ENG_G_STAT.INST : Fld := ⟨31, 21⟩
abbrev F.ENG_G_STAT.WORDS : Fld := ⟨20, 7⟩
abbrev F.ENG_G_FLAGS.FIRST : Fld := ⟨29, 20⟩
abbrev F.ENG_G_FLAGS.RANGE : Fld := ⟨3, 3⟩
abbrev F.ENG_G_FLAGS.DIVGUARD : Fld := ⟨2, 2⟩
abbrev F.ENG_G_FLAGS.WINDUP : Fld := ⟨1, 1⟩
abbrev F.ENG_G_FLAGS.SAT : Fld := ⟨0, 0⟩
abbrev F.ENG_G_TIME.MAX : Fld := ⟨39, 20⟩
abbrev F.ENG_G_TIME.LAST : Fld := ⟨19, 0⟩
abbrev F.ENG_G_COUNT.STALE : Fld := ⟨39, 24⟩
abbrev F.ENG_G_COUNT.ACT : Fld := ⟨23, 0⟩
abbrev F.ENG_G_TAP.VALUE : Fld := ⟨39, 0⟩
abbrev F.ENG_PAIR_STAT_K.LAG_MAX : Fld := ⟨39, 24⟩
abbrev F.ENG_PAIR_STAT_K.LAST_N : Fld := ⟨23, 8⟩
abbrev F.ENG_PAIR_STAT_K.HELD_LAST : Fld := ⟨2, 2⟩
abbrev F.ENG_PAIR_STAT_K.RUN : Fld := ⟨1, 1⟩
abbrev F.ENG_PAIR_STAT_K.ACTIVE : Fld := ⟨0, 0⟩
abbrev F.ENG_PAIR_MISM_K.LAST_KIND : Fld := ⟨39, 38⟩
abbrev F.ENG_PAIR_MISM_K.LAST_CONV : Fld := ⟨37, 30⟩
abbrev F.ENG_PAIR_MISM_K.COUNT : Fld := ⟨23, 0⟩
abbrev F.ENG_HAND.VALUE : Fld := ⟨39, 0⟩
abbrev F.ENG_PEDAL_CFG.EN : Fld := ⟨39, 39⟩
abbrev F.ENG_PEDAL_CFG.CH_A : Fld := ⟨38, 32⟩
abbrev F.ENG_PEDAL_CFG.CH_B : Fld := ⟨31, 25⟩
abbrev F.ENG_PEDAL_CFG.TOL : Fld := ⟨24, 17⟩
abbrev F.ENG_PEDAL_CFG.PERSIST : Fld := ⟨16, 9⟩
abbrev F.ENG_PEDAL_CFG.CAP : Fld := ⟨8, 1⟩
abbrev F.ENG_PEDAL_T.MARGIN : Fld := ⟨39, 32⟩
abbrev F.ENG_PEDAL_T.FULL : Fld := ⟨31, 16⟩
abbrev F.ENG_PEDAL_T.ZERO : Fld := ⟨15, 0⟩
abbrev F.ENG_PEDAL_STAT.STATE : Fld := ⟨39, 38⟩
abbrev F.ENG_PEDAL_STAT.PA : Fld := ⟨37, 26⟩
abbrev F.ENG_PEDAL_STAT.PB : Fld := ⟨25, 14⟩
abbrev F.ENG_PEDAL_STAT.REQ : Fld := ⟨13, 2⟩
abbrev F.ENG_PEDAL_STAT.VALID_B : Fld := ⟨1, 1⟩
abbrev F.ENG_PEDAL_STAT.VALID_A : Fld := ⟨0, 0⟩
abbrev F.PLC_CTRL.PWIN_RESET : Fld := ⟨1, 1⟩
abbrev F.PLC_CTRL.SUBMIT : Fld := ⟨0, 0⟩
abbrev F.PLC_STAT.STATE : Fld := ⟨35, 34⟩
abbrev F.PLC_STAT.STORED : Fld := ⟨33, 33⟩
abbrev F.PLC_STAT.PROOF_TIME : Fld := ⟨15, 0⟩
abbrev F.PLC_RESULT.CODE : Fld := ⟨39, 32⟩
abbrev F.PLC_RESULT.ITEM : Fld := ⟨31, 16⟩
abbrev F.PLC_RESULT.SUBJECT : Fld := ⟨15, 8⟩
abbrev F.PLC_RESULT_VAL.NEED : Fld := ⟨39, 20⟩
abbrev F.PLC_RESULT_VAL.HAVE : Fld := ⟨19, 0⟩
abbrev F.PLC_CAPACITY.PAIRS_RSV : Fld := ⟨31, 28⟩
abbrev F.PLC_CAPACITY.PAIRS_FAILED : Fld := ⟨27, 24⟩
abbrev F.PLC_CAPACITY.ADC_RSV : Fld := ⟨23, 20⟩
abbrev F.PLC_CAPACITY.ADC_FAILED : Fld := ⟨19, 16⟩
abbrev F.PLC_CAPACITY.POOL : Fld := ⟨12, 0⟩
abbrev F.PLC_FLAGS.SHED : Fld := ⟨3, 3⟩
abbrev F.PLC_FLAGS.REPLACED : Fld := ⟨2, 2⟩
abbrev F.PLC_FLAGS.UNIT_FAILED : Fld := ⟨1, 1⟩
abbrev F.PLC_FLAGS.REFUSED : Fld := ⟨0, 0⟩
abbrev F.PLC_SHED.CONV : Fld := ⟨31, 0⟩
abbrev F.PLC_IDENT.IDENT : Fld := ⟨39, 0⟩
abbrev F.PLC_PWIN_ADDR.WORD : Fld := ⟨16, 0⟩
abbrev F.PLC_PWIN_DATA.DATA : Fld := ⟨39, 0⟩
abbrev F.PLC_LAST_FAIL.KIND : Fld := ⟨39, 37⟩
abbrev F.PLC_LAST_FAIL.INDEX : Fld := ⟨36, 32⟩
abbrev F.PLC_LAST_FAIL.STAMP : Fld := ⟨31, 0⟩
abbrev F.PLC_GRAPH.COVER : Fld := ⟨39, 39⟩
abbrev F.PLC_GRAPH.SUSPENDED : Fld := ⟨38, 38⟩
abbrev F.PLC_GRAPH.PAIR : Fld := ⟨37, 35⟩
abbrev F.PLC_GRAPH.TB : Fld := ⟨34, 32⟩
abbrev F.PLC_GRAPH.NEED : Fld := ⟨31, 14⟩
abbrev F.PLC_GRAPH.RP : Fld := ⟨13, 0⟩
abbrev F.PLC_CONV.DECLARED : Fld := ⟨39, 39⟩
abbrev F.PLC_CONV.KIND : Fld := ⟨38, 36⟩
abbrev F.PLC_CONV.PRIO : Fld := ⟨35, 28⟩
abbrev F.PLC_CONV.HOLD : Fld := ⟨27, 27⟩
abbrev F.PLC_CONV.STATE : Fld := ⟨26, 25⟩
abbrev F.PLC_CONV.GRAPH : Fld := ⟨24, 22⟩
abbrev F.PLC_CONV.TB : Fld := ⟨21, 19⟩
abbrev F.TRX_FLAGS.START_FAIL1 : Fld := ⟨13, 13⟩
abbrev F.TRX_FLAGS.KE_ABN1 : Fld := ⟨12, 12⟩
abbrev F.TRX_FLAGS.DEMAG1 : Fld := ⟨11, 11⟩
abbrev F.TRX_FLAGS.POS_LOST1 : Fld := ⟨10, 10⟩
abbrev F.TRX_FLAGS.TREQ_LOST1 : Fld := ⟨9, 9⟩
abbrev F.TRX_FLAGS.LIMP1 : Fld := ⟨8, 8⟩
abbrev F.TRX_FLAGS.START_FAIL0 : Fld := ⟨5, 5⟩
abbrev F.TRX_FLAGS.KE_ABN0 : Fld := ⟨4, 4⟩
abbrev F.TRX_FLAGS.DEMAG0 : Fld := ⟨3, 3⟩
abbrev F.TRX_FLAGS.POS_LOST0 : Fld := ⟨2, 2⟩
abbrev F.TRX_FLAGS.TREQ_LOST0 : Fld := ⟨1, 1⟩
abbrev F.TRX_FLAGS.LIMP0 : Fld := ⟨0, 0⟩
abbrev F.TRX_MAP_ADDR.AUTOINC : Fld := ⟨15, 15⟩
abbrev F.TRX_MAP_ADDR.MAP : Fld := ⟨14, 14⟩
abbrev F.TRX_MAP_ADDR.INDEX : Fld := ⟨13, 0⟩
abbrev F.TRX_MAP_DATA.ID : Fld := ⟨39, 20⟩
abbrev F.TRX_MAP_DATA.IQ : Fld := ⟨19, 0⟩
abbrev F.TRX_MAP_CTRL.VALIDATE : Fld := ⟨0, 0⟩
abbrev F.TRX_MAP_STAT.BUSY : Fld := ⟨4, 4⟩
abbrev F.TRX_MAP_STAT.STORED1 : Fld := ⟨3, 3⟩
abbrev F.TRX_MAP_STAT.STORED0 : Fld := ⟨2, 2⟩
abbrev F.TRX_MAP_STAT.VALID1 : Fld := ⟨1, 1⟩
abbrev F.TRX_MAP_STAT.VALID0 : Fld := ⟨0, 0⟩
abbrev F.TRX_M_CFG.POS : Fld := ⟨37, 36⟩
abbrev F.TRX_M_CFG.POS_CH : Fld := ⟨35, 35⟩
abbrev F.TRX_M_CFG.FALLBACK : Fld := ⟨34, 34⟩
abbrev F.TRX_M_CFG.SB_AUTO : Fld := ⟨33, 33⟩
abbrev F.TRX_M_CFG.LIMP_AUTO : Fld := ⟨32, 32⟩
abbrev F.TRX_M_CFG.TREQ_TMO : Fld := ⟨31, 24⟩
abbrev F.TRX_M_CFG.TSLEW : Fld := ⟨23, 16⟩
abbrev F.TRX_M_CFG.BASE_RPM : Fld := ⟨15, 0⟩
abbrev F.TRX_M_CTRL.SBRAKE : Fld := ⟨3, 3⟩
abbrev F.TRX_M_CTRL.LIMP : Fld := ⟨2, 2⟩
abbrev F.TRX_M_CTRL.DIR : Fld := ⟨1, 1⟩
abbrev F.TRX_M_CTRL.EN : Fld := ⟨0, 0⟩
abbrev F.TRX_M_TREQ.VALUE : Fld := ⟨39, 0⟩
abbrev F.TRX_M_WREQ.VALUE : Fld := ⟨39, 0⟩
abbrev F.TRX_M_LIM.TMAX : Fld := ⟨35, 24⟩
abbrev F.TRX_M_LIM.TREG : Fld := ⟨23, 12⟩
abbrev F.TRX_M_LIM.PMAX : Fld := ⟨11, 0⟩
abbrev F.TRX_M_TCMD.TCMD : Fld := ⟨39, 0⟩
abbrev F.TRX_M_STAT.STATE : Fld := ⟨39, 37⟩
abbrev F.TRX_M_STAT.ATTEMPT : Fld := ⟨36, 35⟩
abbrev F.TRX_M_STAT.GATE : Fld := ⟨34, 34⟩
abbrev F.TRX_M_STAT.ANGLE_SRC : Fld := ⟨33, 33⟩
abbrev F.TRX_M_STAT.LIMP_ACT : Fld := ⟨32, 32⟩
abbrev F.TRX_M_STAT.DERATE : Fld := ⟨31, 31⟩
abbrev F.TRX_M_STAT.TREQ_LOST : Fld := ⟨30, 30⟩
abbrev F.TRX_M_STAT.POS_OK : Fld := ⟨29, 29⟩
abbrev F.TRX_M_STAT.OBS_BOUND : Fld := ⟨28, 28⟩
abbrev F.TRX_M_STAT.MAP_OK : Fld := ⟨27, 27⟩
abbrev F.TRX_M_STAT.DIR_ACT : Fld := ⟨26, 26⟩
abbrev F.TRX_M_STAT.DERATE_F : Fld := ⟨25, 13⟩
abbrev F.TRX_M_OBS.PHASE : Fld := ⟨39, 37⟩
abbrev F.TRX_M_OBS.OK : Fld := ⟨36, 36⟩
abbrev F.TRX_M_OBS.ABORT_WHY : Fld := ⟨35, 32⟩
abbrev F.TRX_M_OBS.W : Fld := ⟨31, 16⟩
abbrev F.TRX_M_OBS.PSI : Fld := ⟨15, 0⟩
abbrev F.TRX_M_START.BACK : Fld := ⟨35, 32⟩
abbrev F.TRX_M_START.TSTART : Fld := ⟨31, 20⟩
abbrev F.TRX_M_START.TACC : Fld := ⟨19, 8⟩
abbrev F.TRX_M_KE.PSI : Fld := ⟨39, 24⟩
abbrev F.TRX_M_KE.LOW : Fld := ⟨23, 16⟩
abbrev F.TRX_M_KE.HIGH : Fld := ⟨15, 8⟩
abbrev F.TRX_M_KE_STAT.DEMAG : Fld := ⟨39, 39⟩
abbrev F.TRX_M_KE_STAT.ABN : Fld := ⟨38, 38⟩
abbrev F.TRX_M_KE_STAT.VALID : Fld := ⟨37, 37⟩
abbrev F.TRX_M_KE_STAT.RATIO : Fld := ⟨36, 21⟩
abbrev F.TRX_M_LIMP.LTMAX : Fld := ⟨23, 12⟩
abbrev F.TRX_M_LIMP.LWMAX : Fld := ⟨11, 0⟩
abbrev F.TRX_M_REV.REV_W : Fld := ⟨11, 0⟩
abbrev F.TRX_M_AXT.ORIGIN : Fld := ⟨39, 20⟩
abbrev F.TRX_M_AXT.RSTEP : Fld := ⟨19, 0⟩
abbrev F.TRX_M_AXW.ORIGIN : Fld := ⟨39, 20⟩
abbrev F.TRX_M_AXW.RSTEP : Fld := ⟨19, 0⟩
abbrev F.TRX_M_AXV.ORIGIN : Fld := ⟨39, 20⟩
abbrev F.TRX_M_AXV.RSTEP : Fld := ⟨19, 0⟩
abbrev F.TRX_M_CRC.CRC : Fld := ⟨31, 0⟩
abbrev F.DCL_FLAGS.SENSE : Fld := ⟨7, 7⟩
abbrev F.DCL_FLAGS.CHOP_THERMAL : Fld := ⟨6, 6⟩
abbrev F.DCL_FLAGS.CHOP_DEGRADED : Fld := ⟨5, 5⟩
abbrev F.DCL_FLAGS.CHOP_FAULT : Fld := ⟨4, 4⟩
abbrev F.DCL_FLAGS.REGEN_INH : Fld := ⟨3, 3⟩
abbrev F.DCL_FLAGS.OV2 : Fld := ⟨2, 2⟩
abbrev F.DCL_FLAGS.OV1 : Fld := ⟨1, 1⟩
abbrev F.DCL_FLAGS.UV : Fld := ⟨0, 0⟩
abbrev F.DCL_STAT.DCDC_MODE : Fld := ⟨23, 22⟩
abbrev F.DCL_STAT.ABSORB : Fld := ⟨21, 21⟩
abbrev F.DCL_STAT.REGEN_INH : Fld := ⟨20, 20⟩
abbrev F.DCL_STAT.MON_FAULT : Fld := ⟨19, 19⟩
abbrev F.DCL_STAT.UV : Fld := ⟨18, 18⟩
abbrev F.DCL_STAT.OV2 : Fld := ⟨17, 17⟩
abbrev F.DCL_STAT.OV1 : Fld := ⟨16, 16⟩
abbrev F.DCL_STAT.CHOP_CMP : Fld := ⟨15, 15⟩
abbrev F.DCL_STAT.VLINK : Fld := ⟨12, 0⟩
abbrev F.DCL_SENSE.RATIO : Fld := ⟨10, 0⟩
abbrev F.DCL_THR.OV2 : Fld := ⟨32, 22⟩
abbrev F.DCL_THR.OV1 : Fld := ⟨21, 11⟩
abbrev F.DCL_THR.VCHOP : Fld := ⟨10, 0⟩
abbrev F.DCL_HYS.HYS : Fld := ⟨37, 30⟩
abbrev F.DCL_HYS.BAND : Fld := ⟨29, 22⟩
abbrev F.DCL_HYS.VUV : Fld := ⟨21, 11⟩
abbrev F.DCL_HYS.VLOW : Fld := ⟨10, 0⟩
abbrev F.DCL_BASE.IBASE : Fld := ⟨31, 16⟩
abbrev F.DCL_BASE.VBASE : Fld := ⟨15, 0⟩
abbrev F.DCL_DCDC_CTRL.MODE : Fld := ⟨1, 0⟩
abbrev F.DCL_DCDC_VREF.VREF : Fld := ⟨10, 0⟩
abbrev F.DCL_DCDC_IREF.IREF : Fld := ⟨12, 0⟩
abbrev F.DCL_DCDC_LIM.ICH_ABS : Fld := ⟨35, 24⟩
abbrev F.DCL_DCDC_LIM.IDIS : Fld := ⟨23, 12⟩
abbrev F.DCL_DCDC_LIM.ICH : Fld := ⟨11, 0⟩
abbrev F.DCL_CHOP_CFG.TEST_EN : Fld := ⟨32, 32⟩
abbrev F.DCL_CHOP_CFG.DDUTY : Fld := ⟨31, 24⟩
abbrev F.DCL_CHOP_CFG.TPULSE : Fld := ⟨23, 16⟩
abbrev F.DCL_CHOP_CFG.TEST_INT : Fld := ⟨15, 7⟩
abbrev F.DCL_CHOP_CFG.CMP : Fld := ⟨6, 0⟩
abbrev F.DCL_CHOP_RES.PCONT : Fld := ⟨35, 24⟩
abbrev F.DCL_CHOP_RES.EMAX : Fld := ⟨23, 12⟩
abbrev F.DCL_CHOP_RES.RES : Fld := ⟨11, 0⟩
abbrev F.DCL_CHOP_CHK.VDS_HI : Fld := ⟨23, 12⟩
abbrev F.DCL_CHOP_CHK.VDS_LO : Fld := ⟨11, 0⟩
abbrev F.DCL_CHOP_STAT.ENERGY : Fld := ⟨31, 16⟩
abbrev F.DCL_CHOP_STAT.DUTY : Fld := ⟨15, 8⟩
abbrev F.DCL_CHOP_STAT.DEGRADED : Fld := ⟨7, 7⟩
abbrev F.DCL_CHOP_STAT.THERMAL : Fld := ⟨6, 6⟩
abbrev F.DCL_CHOP_STAT.AVAIL : Fld := ⟨5, 5⟩
abbrev F.DCL_CHOP_STAT.SHORT_ISL : Fld := ⟨4, 4⟩
abbrev F.DCL_CHOP_STAT.FAULT : Fld := ⟨3, 0⟩
abbrev F.DCL_CHOP_CTRL.CLEAR : Fld := ⟨0, 0⟩
abbrev F.CHG_FLAGS.VIN_REG : Fld := ⟨9, 9⟩
abbrev F.CHG_FLAGS.HO_DEV : Fld := ⟨8, 8⟩
abbrev F.CHG_FLAGS.HO_SLOW : Fld := ⟨7, 7⟩
abbrev F.CHG_FLAGS.TIMEOUT_THERMAL : Fld := ⟨6, 6⟩
abbrev F.CHG_FLAGS.TIMEOUT : Fld := ⟨5, 5⟩
abbrev F.CHG_FLAGS.BUDGET : Fld := ⟨4, 4⟩
abbrev F.CHG_FLAGS.PRE_FAIL : Fld := ⟨3, 3⟩
abbrev F.CHG_FLAGS.TBAT : Fld := ⟨2, 2⟩
abbrev F.CHG_FLAGS.PILOT_ERR : Fld := ⟨1, 1⟩
abbrev F.CHG_FLAGS.AC_LOST : Fld := ⟨0, 0⟩
abbrev F.CHG_STAT.SESSION : Fld := ⟨39, 37⟩
abbrev F.CHG_STAT.PHASE : Fld := ⟨36, 34⟩
abbrev F.CHG_STAT.ZONE : Fld := ⟨33, 31⟩
abbrev F.CHG_STAT.THERM_LIM : Fld := ⟨30, 30⟩
abbrev F.CHG_STAT.AC_OK : Fld := ⟨29, 29⟩
abbrev F.CHG_STAT.FE_RUN : Fld := ⟨28, 28⟩
abbrev F.CHG_STAT.DAB_RUN : Fld := ⟨27, 27⟩
abbrev F.CHG_STAT.FOLLOW : Fld := ⟨26, 26⟩
abbrev F.CHG_STAT.CH_OK : Fld := ⟨25, 25⟩
abbrev F.CHG_STAT.TBAT_OK : Fld := ⟨24, 24⟩
abbrev F.CHG_STAT.END_WHY : Fld := ⟨23, 20⟩
abbrev F.CHG_CTRL.UNLOCK : Fld := ⟨2, 2⟩
abbrev F.CHG_CTRL.STOP : Fld := ⟨1, 1⟩
abbrev F.CHG_CTRL.START : Fld := ⟨0, 0⟩
abbrev F.CHG_CFG.AUTO : Fld := ⟨39, 39⟩
abbrev F.CHG_CFG.TSRC : Fld := ⟨38, 37⟩
abbrev F.CHG_CFG.TCH : Fld := ⟨36, 30⟩
abbrev F.CHG_CFG.TTMO : Fld := ⟨29, 24⟩
abbrev F.CHG_CFG.CPRATIO : Fld := ⟨23, 16⟩
abbrev F.CHG_CFG.ETA : Fld := ⟨15, 8⟩
abbrev F.CHG_CFG.TJ_DER : Fld := ⟨7, 0⟩
abbrev F.CHG_CP_STAT.STATE : Fld := ⟨39, 37⟩
abbrev F.CHG_CP_STAT.PWM : Fld := ⟨36, 36⟩
abbrev F.CHG_CP_STAT.DIODE_FAIL : Fld := ⟨35, 35⟩
abbrev F.CHG_CP_STAT.DIGITAL : Fld := ⟨34, 34⟩
abbrev F.CHG_CP_STAT.ICP : Fld := ⟨33, 24⟩
abbrev F.CHG_CP_STAT.DUTY : Fld := ⟨23, 14⟩
abbrev F.CHG_CP_STAT.VHI : Fld := ⟨11, 6⟩
abbrev F.CHG_CP_STAT.VLO : Fld := ⟨5, 0⟩
abbrev F.CHG_IN_CFG.IMAX : Fld := ⟨39, 33⟩
abbrev F.CHG_IN_CFG.VIN_REG : Fld := ⟨32, 24⟩
abbrev F.CHG_IN_CFG.VR_HYS : Fld := ⟨23, 19⟩
abbrev F.CHG_IN_CFG.VRG : Fld := ⟨18, 14⟩
abbrev F.CHG_IN_CFG.VLOSS : Fld := ⟨13, 5⟩
abbrev F.CHG_IN_STAT.VMIN : Fld := ⟨39, 30⟩
abbrev F.CHG_IN_STAT.FREQ : Fld := ⟨29, 21⟩
abbrev F.CHG_IN_STAT.ILIM : Fld := ⟨20, 11⟩
abbrev F.CHG_IN_STAT.ILIM_V : Fld := ⟨10, 1⟩
abbrev F.CHG_IN_STAT.VREG : Fld := ⟨0, 0⟩
abbrev F.CHG_ILIM_HOST.HLIM : Fld := ⟨9, 0⟩
abbrev F.CHG_CH.CH_V12 : Fld := ⟨39, 33⟩
abbrev F.CHG_CH.CH_V23 : Fld := ⟨32, 26⟩
abbrev F.CHG_CH.CH_V31 : Fld := ⟨25, 19⟩
abbrev F.CHG_CH.CH_IB : Fld := ⟨18, 12⟩
abbrev F.CHG_CH.CH_VB : Fld := ⟨11, 5⟩
abbrev F.CHG_SCALE.SAC : Fld := ⟨39, 26⟩
abbrev F.CHG_SCALE.SVB : Fld := ⟨25, 13⟩
abbrev F.CHG_SCALE.SIB : Fld := ⟨12, 0⟩
abbrev F.CHG_PROF.VPRE : Fld := ⟨39, 29⟩
abbrev F.CHG_PROF.IPRE : Fld := ⟨28, 22⟩
abbrev F.CHG_PROF.ITERM : Fld := ⟨21, 15⟩
abbrev F.CHG_PROF.ITOP : Fld := ⟨14, 8⟩
abbrev F.CHG_PROF.TTOP : Fld := ⟨7, 3⟩
abbrev F.CHG_LIMITS.CC_NOM : Fld := ⟨39, 29⟩
abbrev F.CHG_LIMITS.TNOM : Fld := ⟨28, 19⟩
abbrev F.CHG_LIMITS.BUDGET : Fld := ⟨18, 7⟩
abbrev F.CHG_LIMITS.VRECH : Fld := ⟨6, 0⟩
abbrev F.CHG_NTC.RPU : Fld := ⟨39, 29⟩
abbrev F.CHG_NTC.BETA : Fld := ⟨28, 16⟩
abbrev F.CHG_NTC.RES25 : Fld := ⟨15, 0⟩
abbrev F.CHG_TBAT.T : Fld := ⟨15, 0⟩
abbrev F.CHG_SESSION.ELAPSED : Fld := ⟨39, 24⟩
abbrev F.CHG_SESSION.AH : Fld := ⟨23, 8⟩
abbrev F.CHG_SESSION.SESSION_NO : Fld := ⟨7, 0⟩
abbrev F.CHG_FOLLOW.KPF : Fld := ⟨39, 24⟩
abbrev F.CHG_FOLLOW.KIF : Fld := ⟨23, 8⟩
abbrev F.CHG_IRQ_EN.FLAG : Fld := ⟨7, 7⟩
abbrev F.CHG_IRQ_EN.END : Fld := ⟨6, 6⟩
abbrev F.CHG_IRQ_EN.HANDOVER : Fld := ⟨5, 5⟩
abbrev F.CHG_IRQ_EN.LIMIT : Fld := ⟨4, 4⟩
abbrev F.CHG_IRQ_EN.PILOT : Fld := ⟨3, 3⟩
abbrev F.CHG_IRQ_EN.ZONE : Fld := ⟨2, 2⟩
abbrev F.CHG_IRQ_EN.PHASE : Fld := ⟨1, 1⟩
abbrev F.CHG_IRQ_EN.SESSION : Fld := ⟨0, 0⟩
abbrev F.CHG_IRQ_STAT.FLAG : Fld := ⟨7, 7⟩
abbrev F.CHG_IRQ_STAT.END : Fld := ⟨6, 6⟩
abbrev F.CHG_IRQ_STAT.HANDOVER : Fld := ⟨5, 5⟩
abbrev F.CHG_IRQ_STAT.LIMIT : Fld := ⟨4, 4⟩
abbrev F.CHG_IRQ_STAT.PILOT : Fld := ⟨3, 3⟩
abbrev F.CHG_IRQ_STAT.ZONE : Fld := ⟨2, 2⟩
abbrev F.CHG_IRQ_STAT.PHASE : Fld := ⟨1, 1⟩
abbrev F.CHG_IRQ_STAT.SESSION : Fld := ⟨0, 0⟩
abbrev F.CHG_ZONE.BOUND : Fld := ⟨39, 28⟩
abbrev F.CHG_ZONE.CC : Fld := ⟨27, 16⟩
abbrev F.CHG_ZONE.CV : Fld := ⟨15, 0⟩
abbrev F.ACT_FLAGS.PARK_ILOCK : Fld := ⟨13, 13⟩
abbrev F.ACT_FLAGS.PARK_ABORT : Fld := ⟨12, 12⟩
abbrev F.ACT_FLAGS.FAULT : Fld := ⟨11, 9⟩
abbrev F.ACT_FLAGS.TIMEOUT : Fld := ⟨8, 6⟩
abbrev F.ACT_FLAGS.START_FAIL : Fld := ⟨5, 3⟩
abbrev F.ACT_FLAGS.HALL : Fld := ⟨2, 0⟩
abbrev F.ACT_PARK.PSTATE : Fld := ⟨23, 21⟩
abbrev F.ACT_PARK.ILOCK : Fld := ⟨20, 20⟩
abbrev F.ACT_PARK.PARK_W : Fld := ⟨19, 4⟩
abbrev F.ACT_A_CFG.TMOVE : Fld := ⟨39, 32⟩
abbrev F.ACT_A_CFG.HOFS : Fld := ⟨31, 24⟩
abbrev F.ACT_A_CFG.HOLDM : Fld := ⟨23, 23⟩
abbrev F.ACT_A_CFG.COMM : Fld := ⟨22, 22⟩
abbrev F.ACT_A_CFG.POSSRC : Fld := ⟨21, 21⟩
abbrev F.ACT_A_CFG.SCH : Fld := ⟨20, 14⟩
abbrev F.ACT_A_CFG.IBASE : Fld := ⟨13, 8⟩
abbrev F.ACT_A_CFG.HFILT : Fld := ⟨7, 2⟩
abbrev F.ACT_A_CTRL.REF : Fld := ⟨2, 2⟩
abbrev F.ACT_A_CTRL.BRAKE : Fld := ⟨1, 1⟩
abbrev F.ACT_A_CTRL.EN : Fld := ⟨0, 0⟩
abbrev F.ACT_A_TGT.PWIN : Fld := ⟨27, 21⟩
abbrev F.ACT_A_TGT.ILIM : Fld := ⟨20, 13⟩
abbrev F.ACT_A_TGT.TARGET : Fld := ⟨12, 0⟩
abbrev F.ACT_A_STAT.STATE : Fld := ⟨39, 37⟩
abbrev F.ACT_A_STAT.ATTEMPT : Fld := ⟨36, 35⟩
abbrev F.ACT_A_STAT.START_PH : Fld := ⟨34, 32⟩
abbrev F.ACT_A_STAT.ABORT_WHY : Fld := ⟨31, 30⟩
abbrev F.ACT_A_STAT.POS_OK : Fld := ⟨29, 29⟩
abbrev F.ACT_A_STAT.EANG_OK : Fld := ⟨28, 28⟩
abbrev F.ACT_A_STAT.INPOS : Fld := ⟨27, 27⟩
abbrev F.ACT_A_STAT.POS : Fld := ⟨26, 13⟩
abbrev F.ACT_A_STAT.HALL_ERRS : Fld := ⟨12, 5⟩
abbrev F.ACT_A_START.BACKA : Fld := ⟨39, 34⟩
abbrev F.ACT_A_START.IALIGN : Fld := ⟨33, 27⟩
abbrev F.ACT_A_START.ISTEP : Fld := ⟨26, 20⟩
abbrev F.ACT_A_START.TALIGN : Fld := ⟨19, 13⟩
abbrev F.ACT_A_START.RAMPA : Fld := ⟨12, 4⟩
abbrev F.ACT_A_POS.ZERO : Fld := ⟨39, 24⟩
abbrev F.ACT_A_POS.SPAN : Fld := ⟨23, 8⟩
abbrev F.ACT_A_POS.EPT : Fld := ⟨7, 0⟩
abbrev F.ACT_LV_STAT.VAUX_OK : Fld := ⟨27, 27⟩
abbrev F.ACT_LV_STAT.BOOT_OK : Fld := ⟨26, 18⟩
abbrev F.ACT_LV_STAT.GATE : Fld := ⟨17, 0⟩
abbrev F.ACT_LV_FLAGS.VAUX_UV : Fld := ⟨27, 27⟩
abbrev F.ACT_LV_FLAGS.GATE_FB : Fld := ⟨26, 9⟩
abbrev F.ACT_LV_FLAGS.BOOT_UV : Fld := ⟨8, 0⟩
abbrev F.ACT_LV_CFG.FB_EN : Fld := ⟨4, 4⟩
abbrev F.ACT_LV_CFG.SINK : Fld := ⟨3, 2⟩
abbrev F.ACT_LV_CFG.SRC : Fld := ⟨1, 0⟩
abbrev F.LIFE_FLAGS.RESIDUE_SPILL : Fld := ⟨6, 6⟩
abbrev F.LIFE_FLAGS.GAP : Fld := ⟨5, 5⟩
abbrev F.LIFE_FLAGS.MIRROR_FAIL : Fld := ⟨4, 4⟩
abbrev F.LIFE_FLAGS.WARN : Fld := ⟨3, 3⟩
abbrev F.LIFE_FLAGS.BIN_CLAMP : Fld := ⟨2, 2⟩
abbrev F.LIFE_FLAGS.RANGE : Fld := ⟨1, 1⟩
abbrev F.LIFE_FLAGS.CURVE_FAIL : Fld := ⟨0, 0⟩
abbrev F.LIFE_STAT.GEN : Fld := ⟨39, 24⟩
abbrev F.LIFE_STAT.AGE : Fld := ⟨23, 12⟩
abbrev F.LIFE_STAT.BUSY : Fld := ⟨11, 11⟩
abbrev F.LIFE_STAT.GAP : Fld := ⟨10, 10⟩
abbrev F.LIFE_STAT.STORE_OK : Fld := ⟨9, 9⟩
abbrev F.LIFE_CFG.DMG_WARN : Fld := ⟨39, 32⟩
abbrev F.LIFE_CFG.HYST : Fld := ⟨31, 24⟩
abbrev F.LIFE_CFG.RW : Fld := ⟨23, 20⟩
abbrev F.LIFE_CFG.MW : Fld := ⟨19, 16⟩
abbrev F.LIFE_CFG.MEAN0 : Fld := ⟨15, 8⟩
abbrev F.LIFE_CTRL.VALIDATE : Fld := ⟨8, 8⟩
abbrev F.LIFE_CTRL.CLEAR : Fld := ⟨7, 7⟩
abbrev F.LIFE_CTRL.MIRROR : Fld := ⟨6, 6⟩
abbrev F.LIFE_CTRL.ISL : Fld := ⟨5, 0⟩
abbrev F.LIFE_TWIN_ADDR.AUTOINC : Fld := ⟨20, 20⟩
abbrev F.LIFE_TWIN_ADDR.AREA : Fld := ⟨19, 17⟩
abbrev F.LIFE_TWIN_ADDR.ISL : Fld := ⟨16, 11⟩
abbrev F.LIFE_TWIN_ADDR.WORD : Fld := ⟨10, 0⟩
abbrev F.LIFE_TWIN_DATA.DATA : Fld := ⟨39, 0⟩
abbrev F.LIFE_CAL_CAP.VDS : Fld := ⟨39, 27⟩
abbrev F.LIFE_CAL_CAP.I : Fld := ⟨26, 15⟩
abbrev F.LIFE_CAL_CAP.NTC : Fld := ⟨14, 1⟩
abbrev F.LIFE_CAL_CAP.STABLE : Fld := ⟨0, 0⟩
abbrev F.LIFE_I_CFG.EN : Fld := ⟨39, 39⟩
abbrev F.LIFE_I_CFG.DIR : Fld := ⟨38, 37⟩
abbrev F.LIFE_I_CFG.WSET : Fld := ⟨36, 35⟩
abbrev F.LIFE_I_CFG.CH : Fld := ⟨34, 28⟩
abbrev F.LIFE_I_CFG.SCALE : Fld := ⟨27, 12⟩
abbrev F.LIFE_I_CFG.FK : Fld := ⟨11, 9⟩
abbrev F.LIFE_I_TJ.TJ : Fld := ⟨39, 26⟩
abbrev F.LIFE_I_TJ.PEAK : Fld := ⟨25, 12⟩
abbrev F.LIFE_I_TJ.VALID : Fld := ⟨11, 11⟩
abbrev F.LIFE_I_TJ.SRC : Fld := ⟨10, 10⟩
abbrev F.LIFE_I_TJ.RANGE : Fld := ⟨9, 9⟩
abbrev F.LIFE_I_TJ.CURVE_OK : Fld := ⟨8, 8⟩
abbrev F.LIFE_I_DMG.DMG : Fld := ⟨39, 0⟩
abbrev F.GLV_FLAGS.ECHO : Fld := ⟨6, 6⟩
abbrev F.GLV_FLAGS.DEFER : Fld := ⟨5, 5⟩
abbrev F.GLV_FLAGS.CACHE_FATAL : Fld := ⟨4, 4⟩
abbrev F.GLV_FLAGS.CACHE_CORR : Fld := ⟨3, 3⟩
abbrev F.GLV_FLAGS.LATE : Fld := ⟨2, 2⟩
abbrev F.GLV_FLAGS.ESCALATED : Fld := ⟨1, 1⟩
abbrev F.GLV_FLAGS.MISMATCH : Fld := ⟨0, 0⟩
abbrev F.GLV_STAT.SELFTEST_OK : Fld := ⟨35, 35⟩
abbrev F.GLV_STAT.HALTED : Fld := ⟨34, 34⟩
abbrev F.GLV_STAT.HALT_PEND : Fld := ⟨33, 33⟩
abbrev F.GLV_STAT.RUN : Fld := ⟨32, 32⟩
abbrev F.GLV_STAT.AGREE : Fld := ⟨31, 16⟩
abbrev F.GLV_STAT.WORK_MAX : Fld := ⟨15, 0⟩
abbrev F.GLV_MISM.LAST_KIND : Fld := ⟨39, 38⟩
abbrev F.GLV_MISM.LAST_CORE : Fld := ⟨37, 36⟩
abbrev F.GLV_MISM.COUNT : Fld := ⟨23, 0⟩
abbrev F.GLV_MISM_CP.CP : Fld := ⟨39, 0⟩
abbrev F.GLV_CP.CP : Fld := ⟨39, 0⟩
abbrev F.GLV_JRNL.FILL : Fld := ⟨39, 26⟩
abbrev F.GLV_JRNL.MAX : Fld := ⟨25, 15⟩
abbrev F.GLV_JRNL.DEFERRED : Fld := ⟨14, 0⟩
abbrev F.GLV_JSEQ.SEQ : Fld := ⟨31, 0⟩
abbrev F.GLV_CACHE.GR_FATAL : Fld := ⟨39, 32⟩
abbrev F.GLV_CACHE.GL_FATAL : Fld := ⟨31, 24⟩
abbrev F.GLV_CACHE.GR_CORR : Fld := ⟨23, 12⟩
abbrev F.GLV_CACHE.GL_CORR : Fld := ⟨11, 0⟩
abbrev F.GLV_DBG_CTRL.STEP : Fld := ⟨2, 2⟩
abbrev F.GLV_DBG_CTRL.RESUME : Fld := ⟨1, 1⟩
abbrev F.GLV_DBG_CTRL.HALT : Fld := ⟨0, 0⟩
abbrev F.GLV_DBG_BRK.EN : Fld := ⟨32, 32⟩
abbrev F.GLV_DBG_BRK.POS : Fld := ⟨31, 0⟩
abbrev F.GLV_DBG_STAT.WHY : Fld := ⟨35, 34⟩
abbrev F.GLV_DBG_STAT.POS : Fld := ⟨31, 0⟩
abbrev F.GLV_DWIN_ADDR.AUTOINC : Fld := ⟨20, 20⟩
abbrev F.GLV_DWIN_ADDR.CORE : Fld := ⟨19, 19⟩
abbrev F.GLV_DWIN_ADDR.WORD : Fld := ⟨18, 0⟩
abbrev F.GLV_DWIN_DATA.DATA : Fld := ⟨31, 0⟩
abbrev F.CAN_FLAGS.HB_BAD : Fld := ⟨16, 16⟩
abbrev F.CAN_FLAGS.PT_FULL : Fld := ⟨15, 15⟩
abbrev F.CAN_FLAGS.TUNNEL : Fld := ⟨14, 12⟩
abbrev F.CAN_FLAGS.TX_FAIL : Fld := ⟨11, 9⟩
abbrev F.CAN_FLAGS.RX_OVF : Fld := ⟨8, 6⟩
abbrev F.CAN_FLAGS.PASSIVE : Fld := ⟨5, 3⟩
abbrev F.CAN_FLAGS.BUSOFF : Fld := ⟨2, 0⟩
abbrev F.CAN_CTRL.PURGE : Fld := ⟨0, 0⟩
abbrev F.CAN_FWIN_ADDR.AUTOINC : Fld := ⟨20, 20⟩
abbrev F.CAN_FWIN_ADDR.CTRL : Fld := ⟨19, 18⟩
abbrev F.CAN_FWIN_ADDR.AREA : Fld := ⟨17, 15⟩
abbrev F.CAN_FWIN_ADDR.WORD : Fld := ⟨11, 0⟩
abbrev F.CAN_FWIN_DATA.DATA : Fld := ⟨39, 0⟩
abbrev F.CAN_HB_CFG.HB_BASE : Fld := ⟨21, 11⟩
abbrev F.CAN_HB_CFG.INTERVAL : Fld := ⟨10, 3⟩
abbrev F.CAN_HB_CFG.EN : Fld := ⟨2, 0⟩
abbrev F.CAN_PT_STAT.BAD : Fld := ⟨37, 30⟩
abbrev F.CAN_PT_STAT.UP : Fld := ⟨29, 23⟩
abbrev F.CAN_PT_STAT.LOST : Fld := ⟨22, 16⟩
abbrev F.CAN_PT_STAT.FULL : Fld := ⟨15, 0⟩
abbrev F.CAN_C_CFG.RESTRICTED : Fld := ⟨11, 11⟩
abbrev F.CAN_C_CFG.LISTEN : Fld := ⟨10, 10⟩
abbrev F.CAN_C_CFG.FD_EN : Fld := ⟨9, 9⟩
abbrev F.CAN_C_CFG.EN : Fld := ⟨8, 8⟩
abbrev F.CAN_C_CFG.OWN : Fld := ⟨7, 0⟩
abbrev F.CAN_C_NBT.NBRP : Fld := ⟨30, 25⟩
abbrev F.CAN_C_NBT.NTSEG1 : Fld := ⟨24, 16⟩
abbrev F.CAN_C_NBT.NTSEG2 : Fld := ⟨15, 8⟩
abbrev F.CAN_C_NBT.NSJW : Fld := ⟨7, 0⟩
abbrev F.CAN_C_DBT.TDC_EN : Fld := ⟨28, 28⟩
abbrev F.CAN_C_DBT.TDCO : Fld := ⟨27, 21⟩
abbrev F.CAN_C_DBT.DBRP : Fld := ⟨20, 16⟩
abbrev F.CAN_C_DBT.DTSEG1 : Fld := ⟨15, 10⟩
abbrev F.CAN_C_DBT.DTSEG2 : Fld := ⟨9, 5⟩
abbrev F.CAN_C_DBT.DSJW : Fld := ⟨4, 0⟩
abbrev F.CAN_C_TUN_REQ.EN : Fld := ⟨30, 30⟩
abbrev F.CAN_C_TUN_REQ.IDE : Fld := ⟨29, 29⟩
abbrev F.CAN_C_TUN_REQ.ID : Fld := ⟨28, 0⟩
abbrev F.CAN_C_TUN_RSP.IDE : Fld := ⟨29, 29⟩
abbrev F.CAN_C_TUN_RSP.ID : Fld := ⟨28, 0⟩
abbrev F.CAN_C_CTRL.TXQ_FLUSH : Fld := ⟨1, 1⟩
abbrev F.CAN_C_CTRL.RECOVER : Fld := ⟨0, 0⟩
abbrev F.CAN_C_STAT.STATE : Fld := ⟨35, 34⟩
abbrev F.CAN_C_STAT.RECOVERING : Fld := ⟨33, 33⟩
abbrev F.CAN_C_STAT.TEC : Fld := ⟨32, 25⟩
abbrev F.CAN_C_STAT.REC : Fld := ⟨24, 17⟩
abbrev F.CAN_C_STAT.LEC : Fld := ⟨16, 14⟩
abbrev F.CAN_C_STAT.TXQ_FILL : Fld := ⟨13, 8⟩
abbrev F.CAN_C_STAT.TUN_ERR : Fld := ⟨7, 0⟩
abbrev F.CAN_C_RXSTAT.FILL : Fld := ⟨32, 24⟩
abbrev F.CAN_C_RXSTAT.DROPPED : Fld := ⟨23, 8⟩
abbrev F.CAN_C_RXSTAT.TUN_DROP : Fld := ⟨7, 0⟩
abbrev F.CAN_C_TXREQ.MB : Fld := ⟨31, 0⟩
abbrev F.CAN_C_TXDONE.MB : Fld := ⟨31, 0⟩
abbrev F.CAN_C_CANCEL.MB : Fld := ⟨4, 0⟩
abbrev F.CAN_C_RXACK.COUNT : Fld := ⟨8, 0⟩
abbrev F.CAN_C_LOAD.REQ : Fld := ⟨6, 6⟩
abbrev F.CAN_C_LOAD.MB : Fld := ⟨5, 0⟩
abbrev F.CAN_C_TXBUF.WORD : Fld := ⟨39, 0⟩
abbrev F.STO_FLAGS.UPD_FAIL : Fld := ⟨8, 8⟩
abbrev F.STO_FLAGS.FALLBACK : Fld := ⟨7, 7⟩
abbrev F.STO_FLAGS.EVT_LOST : Fld := ⟨6, 6⟩
abbrev F.STO_FLAGS.REC_MISSED : Fld := ⟨5, 5⟩
abbrev F.STO_FLAGS.REC_PARTIAL : Fld := ⟨4, 4⟩
abbrev F.STO_FLAGS.REPAIR : Fld := ⟨3, 3⟩
abbrev F.STO_FLAGS.WEAR : Fld := ⟨2, 2⟩
abbrev F.STO_FLAGS.DEV1_FAIL : Fld := ⟨1, 1⟩
abbrev F.STO_FLAGS.DEV0_FAIL : Fld := ⟨0, 0⟩
abbrev F.STO_STAT.REC_SLOTS : Fld := ⟨31, 24⟩
abbrev F.STO_STAT.FORMATTING : Fld := ⟨23, 23⟩
abbrev F.STO_STAT.LAYOUT_OK : Fld := ⟨22, 22⟩
abbrev F.STO_STAT.ACTIVE_SET : Fld := ⟨21, 21⟩
abbrev F.STO_STAT.SINGLE : Fld := ⟨20, 20⟩
abbrev F.STO_CFG.REC_SLOTS : Fld := ⟨7, 0⟩
abbrev F.STO_CTRL.FORMAT : Fld := ⟨0, 0⟩
abbrev F.STO_DEV.FAILED : Fld := ⟨39, 39⟩
abbrev F.STO_DEV.LIFE_A : Fld := ⟨38, 35⟩
abbrev F.STO_DEV.LIFE_B : Fld := ⟨34, 31⟩
abbrev F.STO_DEV.PRE_EOL : Fld := ⟨30, 29⟩
abbrev F.STO_DEV.CAP : Fld := ⟨28, 17⟩
abbrev F.STO_DEV.RETRIES : Fld := ⟨15, 0⟩
abbrev F.STO_REC_CFG.TAPSHIFT : Fld := ⟨17, 13⟩
abbrev F.STO_REC_CFG.EN : Fld := ⟨12, 12⟩
abbrev F.STO_REC_CFG.POST : Fld := ⟨11, 0⟩
abbrev F.STO_REC_TRIG.CLASS : Fld := ⟨13, 0⟩
abbrev F.STO_REC_EVT.EVT1 : Fld := ⟨31, 16⟩
abbrev F.STO_REC_EVT.EVT0 : Fld := ⟨15, 0⟩
abbrev F.STO_REC_STAT.STATE : Fld := ⟨39, 38⟩
abbrev F.STO_REC_STAT.PRE_FILL : Fld := ⟨37, 28⟩
abbrev F.STO_REC_STAT.MISSED : Fld := ⟨27, 20⟩
abbrev F.STO_REC_STAT.LAST : Fld := ⟨19, 0⟩
abbrev F.UPD_STAT.STATE : Fld := ⟨39, 37⟩
abbrev F.UPD_STAT.FAIL : Fld := ⟨36, 33⟩
abbrev F.UPD_STAT.FALLBACK : Fld := ⟨32, 30⟩
abbrev F.UPD_STAT.STATE_OLD : Fld := ⟨29, 29⟩
abbrev F.UPD_STAT.RECEIVED : Fld := ⟨28, 15⟩
abbrev F.UPD_STAT.TOTAL : Fld := ⟨14, 1⟩
abbrev F.UPD_VER.COUNT : Fld := ⟨39, 32⟩
abbrev F.UPD_VER.VERSION : Fld := ⟨31, 0⟩
abbrev F.UPD_NEW.COUNT : Fld := ⟨39, 32⟩
abbrev F.UPD_NEW.VERSION : Fld := ⟨31, 0⟩
abbrev F.LOG_EVENT_NEXT.NEXT : Fld := ⟨39, 0⟩
abbrev F.LOG_EVENT_STAT.FILL : Fld := ⟨29, 15⟩
abbrev F.LOG_EVENT_STAT.LOST : Fld := ⟨14, 0⟩
abbrev F.PAIR_FLAGS.REDIST : Fld := ⟨3, 3⟩
abbrev F.PAIR_FLAGS.TAKEOVER : Fld := ⟨2, 2⟩
abbrev F.PAIR_FLAGS.CFG_MISMATCH : Fld := ⟨1, 1⟩
abbrev F.PAIR_FLAGS.LINK_DOWN : Fld := ⟨0, 0⟩
abbrev F.PAIR_STAT.LINK : Fld := ⟨39, 38⟩
abbrev F.PAIR_STAT.PARTNER : Fld := ⟨37, 36⟩
abbrev F.PAIR_STAT.TAKE_LINK : Fld := ⟨35, 35⟩
abbrev F.PAIR_STAT.TAKE_CHOP : Fld := ⟨34, 34⟩
abbrev F.PAIR_STAT.CHG_HALF : Fld := ⟨33, 33⟩
abbrev F.PAIR_STAT.REDIST_ACT : Fld := ⟨32, 32⟩
abbrev F.PAIR_STAT.D : Fld := ⟨31, 16⟩
abbrev F.PAIR_STAT.ERR_COUNT : Fld := ⟨15, 0⟩
abbrev F.PAIR_CFG.EN : Fld := ⟨37, 37⟩
abbrev F.PAIR_CFG.ROLE : Fld := ⟨36, 36⟩
abbrev F.PAIR_CFG.HOLDER : Fld := ⟨35, 35⟩
abbrev F.PAIR_CFG.SHARED_LINK : Fld := ⟨34, 34⟩
abbrev F.PAIR_CFG.SHARED_CHOP : Fld := ⟨33, 33⟩
abbrev F.PAIR_CFG.SHARED_AC : Fld := ⟨32, 32⟩
abbrev F.PAIR_CFG.REDIST : Fld := ⟨31, 31⟩
abbrev F.PAIR_CFG.K : Fld := ⟨30, 23⟩
abbrev F.PAIR_CFG.PCAN : Fld := ⟨22, 21⟩
abbrev F.PAIR_CFG.PNODE : Fld := ⟨20, 13⟩
abbrev F.PAIR_PEER.MODE : Fld := ⟨39, 37⟩
abbrev F.PAIR_PEER.NFAULT : Fld := ⟨36, 36⟩
abbrev F.PAIR_PEER.APPLIED : Fld := ⟨35, 34⟩
abbrev F.PAIR_PEER.CHOP_AVAIL : Fld := ⟨33, 33⟩
abbrev F.PAIR_PEER.DCDC_MODE : Fld := ⟨32, 31⟩
abbrev F.PAIR_PEER.SESSION : Fld := ⟨30, 28⟩
abbrev F.PAIR_PEER.FE_RUN : Fld := ⟨27, 27⟩
abbrev F.PAIR_PEER.AGE : Fld := ⟨15, 0⟩

/-- Register rows, part 0 (field tables of the chapters, rising first index). -/
def regRows0 : List RegRow := [
  ⟨0x0000, 0, 1, 0, 1, [⟨39, 24, .ro, 18456⟩, ⟨23, 20, .ro, 0⟩, ⟨19, 12, .ro, 0⟩, ⟨11, 8, .ro, 1⟩]⟩,
  ⟨0x0002, 0, 1, 0, 1, [⟨31, 0, .ro, 0⟩]⟩,
  ⟨0x0003, 0, 1, 0, 1, [⟨31, 0, .ro, 0⟩]⟩,
  ⟨0x0010, 0, 1, 0, 1, [⟨39, 0, .ro, 0⟩]⟩,
  ⟨0x0011, 0, 1, 0, 1, [⟨23, 0, .ro, 0⟩]⟩,
  ⟨0x0012, 0, 1, 0, 1, [⟨3, 3, .w1c, 0⟩, ⟨2, 2, .ro, 0⟩, ⟨1, 1, .ro, 0⟩, ⟨0, 0, .ro, 0⟩]⟩,
  ⟨0x0020, 0, 1, 0, 1, [⟨7, 7, .ro, 0⟩, ⟨6, 6, .ro, 0⟩, ⟨5, 3, .ro, 7⟩, ⟨2, 0, .ro, 7⟩]⟩,
  ⟨0x0021, 0, 1, 0, 1, [⟨9, 9, .ro, 0⟩, ⟨8, 8, .ro, 0⟩, ⟨7, 7, .ro, 1⟩, ⟨6, 6, .ro, 0⟩, ⟨5, 5, .ro, 0⟩, ⟨4, 4, .ro, 0⟩, ⟨3, 3, .ro, 1⟩, ⟨2, 2, .ro, 1⟩, ⟨1, 1, .ro, 1⟩, ⟨0, 0, .ro, 1⟩]⟩,
  ⟨0x0022, 0, 1, 0, 1, [⟨11, 11, .w1cp, 0⟩, ⟨10, 10, .w1cp, 0⟩, ⟨9, 9, .w1cp, 0⟩, ⟨8, 8, .w1cp, 0⟩, ⟨7, 7, .w1cp, 0⟩, ⟨6, 6, .w1cp, 0⟩, ⟨5, 5, .w1cp, 0⟩, ⟨4, 4, .w1cp, 0⟩, ⟨3, 3, .w1cp, 0⟩, ⟨2, 2, .w1cp, 0⟩, ⟨1, 1, .w1cp, 0⟩, ⟨0, 0, .w1cp, 0⟩]⟩,
  ⟨0x0023, 0, 1, 0, 1, [⟨5, 5, .w1c, 0⟩, ⟨4, 4, .w1c, 0⟩, ⟨3, 3, .w1c, 0⟩, ⟨2, 2, .w1c, 0⟩, ⟨1, 1, .w1c, 0⟩, ⟨0, 0, .w1c, 1⟩]⟩,
  ⟨0x0024, 0, 1, 0, 1, [⟨3, 3, .ro, 0⟩, ⟨2, 2, .ro, 0⟩, ⟨1, 1, .ro, 1⟩, ⟨0, 0, .ro, 1⟩]⟩,
  ⟨0x0025, 0, 1, 0, 1, [⟨31, 16, .rwp, 10⟩, ⟨15, 0, .rwp, 100⟩]⟩,
  ⟨0x0026, 0, 1, 0, 1, [⟨1, 1, .ro, 0⟩, ⟨0, 0, .ro, 0⟩]⟩,
  ⟨0x0027, 0, 1, 0, 1, [⟨32, 32, .rwp, 1⟩, ⟨31, 16, .rwp, 2000⟩, ⟨15, 0, .rwp, 100⟩]⟩,
  ⟨0x0028, 0, 1, 0, 1, [⟨6, 6, .rw, 0⟩, ⟨5, 5, .rw, 1⟩, ⟨4, 4, .rw, 1⟩, ⟨3, 3, .rw, 0⟩, ⟨2, 2, .rw, 0⟩, ⟨1, 1, .rw, 1⟩, ⟨0, 0, .rw, 1⟩]⟩,
  ⟨0x0029, 0, 1, 0, 1, [⟨35, 32, .ro, 0⟩, ⟨31, 0, .ro, 0⟩]⟩,
  ⟨0x002A, 0, 1, 0, 1, [⟨39, 8, .rwp, 0⟩, ⟨7, 1, .ro, 0⟩, ⟨0, 0, .ro, 0⟩]⟩,
  ⟨0x002B, 0, 1, 0, 1, [⟨39, 8, .rwp, 0⟩, ⟨0, 0, .rwp, 0⟩]⟩,
  ⟨0x0030, 0, 1, 0, 1, [⟨18, 18, .ro, 1⟩, ⟨17, 17, .ro, 0⟩, ⟨16, 16, .ro, 0⟩, ⟨15, 15, .ro, 0⟩, ⟨14, 14, .ro, 0⟩, ⟨13, 13, .ro, 0⟩, ⟨12, 12, .ro, 0⟩, ⟨11, 11, .ro, 0⟩, ⟨10, 10, .ro, 0⟩, ⟨9, 9, .ro, 0⟩, ⟨8, 8, .ro, 0⟩, ⟨7, 7, .ro, 0⟩, ⟨6, 6, .ro, 0⟩, ⟨5, 5, .ro, 0⟩, ⟨4, 4, .ro, 0⟩, ⟨3, 3, .ro, 0⟩, ⟨2, 2, .ro, 0⟩, ⟨1, 1, .ro, 0⟩, ⟨0, 0, .ro, 0⟩]⟩,
  ⟨0x0100, 0, 1, 0, 1, [⟨5, 5, .w1c, 0⟩, ⟨4, 4, .w1c, 0⟩, ⟨3, 3, .w1c, 0⟩, ⟨2, 2, .w1c, 0⟩, ⟨1, 1, .w1c, 0⟩, ⟨0, 0, .w1c, 0⟩]⟩,
  ⟨0x0101, 0, 1, 0, 1, [⟨29, 16, .rw, 0⟩, ⟨5, 5, .rw, 0⟩, ⟨4, 4, .rw, 0⟩, ⟨3, 3, .rw, 1⟩, ⟨2, 2, .rw, 0⟩, ⟨1, 1, .rw, 0⟩, ⟨0, 0, .rw, 0⟩]⟩,
  ⟨0x0102, 0, 1, 0, 1, [⟨5, 5, .w1c, 0⟩, ⟨4, 4, .w1c, 0⟩, ⟨3, 3, .w1c, 0⟩, ⟨2, 2, .w1c, 0⟩, ⟨1, 1, .ro, 0⟩, ⟨0, 0, .ro, 0⟩]⟩,
  ⟨0x0103, 0, 1, 0, 1, [⟨31, 24, .ro, 0⟩, ⟨23, 23, .ro, 0⟩, ⟨22, 20, .ro, 0⟩, ⟨19, 10, .ro, 0⟩]⟩,
  ⟨0x0104, 0, 1, 0, 1, [⟨11, 9, .ro, 0⟩, ⟨8, 1, .ro, 0⟩, ⟨0, 0, .ro, 0⟩]⟩,
  ⟨0x0105, 0, 1, 0, 1, [⟨0, 0, .ro, 0⟩]⟩,
  ⟨0x0106, 0, 1, 0, 1, [⟨39, 0, .ro, 0⟩]⟩,
  ⟨0x0107, 0, 1, 0, 1, [⟨29, 15, .ro, 0⟩, ⟨14, 0, .ro, 0⟩]⟩,
  ⟨0x0108, 1, 2, 0, 1, [⟨36, 32, .ro, 0⟩, ⟨31, 16, .ro, 0⟩, ⟨15, 8, .ro, 0⟩, ⟨7, 0, .ro, 0⟩]⟩,
  ⟨0x010A, 0, 1, 0, 1, [⟨39, 37, .ro, 0⟩, ⟨36, 34, .ro, 0⟩, ⟨29, 16, .ro, 0⟩, ⟨15, 0, .ro, 0⟩]⟩,
  ⟨0x0201, 0, 1, 0, 1, [⟨4, 4, .w1c, 0⟩, ⟨3, 3, .w1c, 0⟩, ⟨2, 2, .w1c, 0⟩, ⟨1, 1, .w1c, 0⟩, ⟨0, 0, .w1c, 0⟩]⟩,
  ⟨0x0202, 0, 1, 0, 1, [⟨15, 0, .ro, 0⟩]⟩,
  ⟨0x0203, 0, 1, 0, 1, [⟨1, 1, .wo, 0⟩, ⟨0, 0, .wo, 0⟩]⟩,
  ⟨0x0211, 1, 5, 0, 1, [⟨31, 0, .ro, 0⟩]⟩,
  ⟨0x0220, 0, 1, 0, 1, [⟨39, 32, .ro, 0⟩, ⟨31, 0, .ro, 0⟩]⟩,
  ⟨0x0230, 0, 1, 0, 1, [⟨38, 38, .ro, 0⟩, ⟨37, 16, .ro, 0⟩, ⟨15, 0, .ro, 0⟩]⟩,
  ⟨0x0240, 0, 1, 0, 1, [⟨31, 24, .ro, 0⟩, ⟨23, 0, .ro, 0⟩]⟩,
  ⟨0x0400, 16, 48, 0, 1, [⟨31, 16, .ro, 0⟩, ⟨15, 9, .ro, 0⟩, ⟨8, 8, .ro, 1⟩, ⟨7, 7, .ro, 0⟩, ⟨6, 6, .ro, 1⟩, ⟨5, 5, .ro, 0⟩, ⟨4, 4, .ro, 1⟩, ⟨3, 3, .ro, 0⟩, ⟨2, 2, .ro, 0⟩, ⟨1, 1, .ro, 0⟩, ⟨0, 0, .ro, 0⟩]⟩,
  ⟨0x0401, 16, 48, 0, 1, [⟨9, 9, .w1c, 0⟩, ⟨8, 8, .w1c, 0⟩, ⟨7, 7, .w1c, 0⟩, ⟨6, 6, .w1c, 0⟩, ⟨5, 5, .w1c, 0⟩, ⟨4, 4, .w1c, 0⟩, ⟨3, 3, .w1c, 0⟩, ⟨2, 2, .w1c, 0⟩, ⟨1, 1, .w1c, 0⟩, ⟨0, 0, .w1c, 0⟩]⟩,
  ⟨0x0402, 16, 48, 0, 1, [⟨7, 7, .ro, 0⟩, ⟨6, 3, .rwp, 15⟩, ⟨2, 2, .rwp, 1⟩, ⟨1, 1, .rwp, 1⟩, ⟨0, 0, .rwp, 1⟩]⟩,
  ⟨0x0403, 16, 48, 0, 1, [⟨21, 19, .rwp, 0⟩, ⟨18, 16, .rwp, 0⟩, ⟨15, 0, .rwp, 0⟩]⟩]
/-- Register rows, part 1 (field tables of the chapters, rising first index). -/
def regRows1 : List RegRow := [
  ⟨0x0404, 16, 48, 0, 1, [⟨38, 38, .rwp, 0⟩, ⟨37, 24, .rwp, 400⟩, ⟨23, 12, .rwp, 0⟩, ⟨11, 0, .rwp, 0⟩]⟩,
  ⟨0x0405, 16, 48, 0, 1, [⟨31, 16, .rwp, 3380⟩, ⟨15, 0, .rwp, 500⟩]⟩,
  ⟨0x0406, 16, 48, 0, 1, [⟨35, 20, .ro, 0⟩, ⟨19, 19, .ro, 0⟩, ⟨18, 18, .ro, 0⟩, ⟨17, 17, .ro, 0⟩, ⟨16, 16, .ro, 0⟩, ⟨15, 0, .ro, 0⟩]⟩,
  ⟨0x0407, 16, 48, 0, 1, [⟨39, 26, .ro, 0⟩, ⟨25, 14, .ro, 0⟩, ⟨13, 2, .ro, 0⟩, ⟨1, 1, .ro, 0⟩, ⟨0, 0, .ro, 0⟩]⟩,
  ⟨0x0408, 16, 48, 1, 8, [⟨39, 36, .rwp, 0⟩, ⟨35, 30, .rwp, 0⟩, ⟨29, 26, .rwp, 0⟩, ⟨25, 20, .rwp, 0⟩, ⟨19, 16, .rwp, 0⟩, ⟨15, 10, .rwp, 0⟩, ⟨9, 6, .rwp, 9⟩, ⟨5, 0, .rwp, 63⟩]⟩,
  ⟨0x0800, 0, 1, 0, 1, [⟨3, 3, .rwp, 1⟩, ⟨2, 2, .rwp, 0⟩, ⟨1, 1, .rwp, 0⟩, ⟨0, 0, .rwp, 1⟩]⟩,
  ⟨0x0801, 0, 1, 0, 1, [⟨6, 6, .w1c, 0⟩, ⟨5, 5, .w1c, 0⟩, ⟨4, 4, .w1c, 0⟩, ⟨3, 3, .w1c, 0⟩, ⟨2, 2, .w1c, 0⟩, ⟨1, 1, .w1c, 0⟩, ⟨0, 0, .w1c, 0⟩]⟩,
  ⟨0x0802, 0, 1, 0, 1, [⟨31, 0, .ro, 0⟩]⟩,
  ⟨0x0810, 1, 2, 0, 1, [⟨31, 16, .rwp, 0⟩, ⟨15, 6, .rwp, 200⟩, ⟨5, 5, .rwp, 0⟩]⟩,
  ⟨0x0812, 1, 2, 0, 1, [⟨31, 28, .ro, 1⟩, ⟨27, 26, .ro, 0⟩, ⟨25, 25, .ro, 0⟩, ⟨24, 24, .ro, 0⟩, ⟨23, 23, .ro, 1⟩, ⟨22, 22, .ro, 0⟩, ⟨21, 19, .ro, 0⟩, ⟨18, 16, .ro, 0⟩, ⟨0, 0, .ro, 1⟩]⟩,
  ⟨0x0814, 1, 2, 0, 1, [⟨33, 32, .ro, 0⟩, ⟨31, 16, .ro, 0⟩, ⟨15, 0, .ro, 65535⟩]⟩,
  ⟨0x0820, 0, 1, 0, 1, [⟨25, 24, .rwp, 1⟩, ⟨23, 14, .rwp, 100⟩, ⟨13, 8, .rwp, 5⟩]⟩,
  ⟨0x0821, 0, 1, 0, 1, [⟨3, 3, .ro, 0⟩, ⟨2, 2, .ro, 0⟩, ⟨1, 1, .ro, 0⟩, ⟨0, 0, .ro, 0⟩]⟩,
  ⟨0x0822, 0, 1, 0, 1, [⟨0, 0, .wo, 0⟩]⟩,
  ⟨0x0824, 1, 3, 0, 1, [⟨31, 0, .ro, 0⟩]⟩,
  ⟨0x0830, 0, 1, 0, 1, [⟨32, 0, .w1c, 0⟩]⟩,
  ⟨0x0831, 0, 1, 0, 1, [⟨37, 32, .ro, 0⟩, ⟨31, 0, .ro, 0⟩]⟩,
  ⟨0x0840, 1, 48, 0, 1, [⟨34, 34, .rwp, 1⟩, ⟨33, 32, .rwp, 1⟩, ⟨31, 24, .rwp, 140⟩, ⟨23, 14, .rwp, 100⟩, ⟨13, 10, .rwp, 2⟩, ⟨9, 6, .rwp, 3⟩, ⟨5, 0, .rwp, 19⟩]⟩,
  ⟨0x0870, 1, 48, 0, 1, [⟨27, 27, .rwp, 1⟩, ⟨26, 18, .rwp, 50⟩, ⟨17, 8, .rwp, 150⟩]⟩,
  ⟨0x08A0, 1, 48, 0, 1, [⟨35, 35, .ro, 0⟩, ⟨34, 34, .w1cp, 0⟩, ⟨33, 33, .w1cp, 0⟩, ⟨32, 32, .w1cp, 0⟩, ⟨31, 0, .ro, 0⟩]⟩,
  ⟨0x0A00, 0, 1, 0, 1, [⟨28, 21, .rwp, 16⟩, ⟨20, 5, .rwp, 20⟩, ⟨4, 4, .rwp, 0⟩, ⟨3, 1, .rwp, 0⟩, ⟨0, 0, .rwp, 0⟩]⟩,
  ⟨0x0A01, 0, 1, 0, 1, [⟨7, 7, .w1c, 0⟩, ⟨6, 6, .w1c, 0⟩, ⟨5, 5, .w1c, 0⟩, ⟨4, 4, .w1c, 0⟩, ⟨3, 3, .w1c, 0⟩, ⟨2, 2, .w1c, 0⟩, ⟨1, 1, .w1c, 0⟩, ⟨0, 0, .w1c, 0⟩]⟩,
  ⟨0x0A02, 0, 1, 0, 1, [⟨5, 0, .wo, 0⟩]⟩,
  ⟨0x0A03, 0, 1, 0, 1, [⟨32, 0, .w1c, 0⟩]⟩,
  ⟨0x0A04, 0, 1, 0, 1, [⟨8, 8, .rwp, 0⟩, ⟨7, 7, .rwp, 0⟩, ⟨6, 6, .rwp, 0⟩, ⟨5, 0, .rwp, 0⟩]⟩,
  ⟨0x0A05, 0, 1, 0, 1, [⟨33, 18, .ro, 0⟩, ⟨17, 2, .ro, 0⟩, ⟨1, 1, .ro, 0⟩, ⟨0, 0, .ro, 0⟩]⟩,
  ⟨0x0A10, 4, 6, 0, 1, [⟨8, 8, .ro, 0⟩, ⟨7, 5, .ro, 0⟩, ⟨4, 2, .ro, 0⟩, ⟨1, 0, .ro, 2⟩]⟩,
  ⟨0x0A11, 4, 6, 0, 1, [⟨37, 20, .ro, 4000⟩, ⟨17, 0, .rw, 4000⟩]⟩,
  ⟨0x0A12, 4, 6, 0, 1, [⟨30, 0, .ro, 0⟩]⟩,
  ⟨0x0A13, 4, 6, 0, 1, [⟨36, 36, .ro, 0⟩, ⟨35, 35, .ro, 0⟩, ⟨34, 34, .ro, 0⟩, ⟨33, 18, .ro, 0⟩, ⟨17, 0, .ro, 0⟩]⟩,
  ⟨0x0B00, 16, 33, 0, 1, [⟨33, 18, .ro, 0⟩, ⟨17, 15, .ro, 0⟩, ⟨14, 13, .ro, 0⟩, ⟨12, 12, .rwp, 0⟩]⟩,
  ⟨0x0B01, 16, 33, 0, 1, [⟨39, 0, .rw, 0⟩]⟩,
  ⟨0x0B02, 16, 33, 0, 1, [⟨39, 0, .rw, 0⟩]⟩,
  ⟨0x0B03, 16, 33, 0, 1, [⟨39, 0, .rw, 0⟩]⟩,
  ⟨0x0B04, 16, 33, 0, 1, [⟨14, 12, .rw, 0⟩, ⟨11, 9, .rw, 0⟩, ⟨8, 6, .rw, 0⟩, ⟨5, 3, .rw, 0⟩, ⟨2, 2, .rw, 0⟩, ⟨1, 1, .rw, 0⟩, ⟨0, 0, .rw, 0⟩]⟩,
  ⟨0x0B05, 16, 33, 0, 1, [⟨37, 26, .rwp, 160⟩, ⟨25, 13, .rwp, 320⟩, ⟨12, 0, .rwp, 320⟩]⟩,
  ⟨0x0B06, 16, 33, 0, 1, [⟨36, 36, .rwp, 0⟩, ⟨35, 28, .rwp, 10⟩, ⟨27, 21, .rwp, 127⟩, ⟨20, 14, .rwp, 127⟩, ⟨13, 7, .rwp, 127⟩, ⟨6, 0, .rwp, 127⟩]⟩,
  ⟨0x0B07, 16, 33, 0, 1, [⟨27, 0, .rwp, 20000⟩]⟩,
  ⟨0x0B08, 16, 33, 0, 1, [⟨15, 8, .ro, 0⟩, ⟨5, 5, .ro, 0⟩, ⟨4, 4, .ro, 0⟩, ⟨3, 3, .ro, 0⟩, ⟨2, 2, .ro, 0⟩, ⟨1, 1, .ro, 0⟩, ⟨0, 0, .ro, 0⟩]⟩,
  ⟨0x0B09, 16, 33, 0, 1, [⟨5, 5, .w1c, 0⟩, ⟨4, 4, .w1c, 0⟩, ⟨3, 3, .w1c, 0⟩, ⟨2, 2, .w1c, 0⟩, ⟨1, 1, .w1c, 0⟩, ⟨0, 0, .w1c, 0⟩]⟩]
/-- Register rows, part 2 (field tables of the chapters, rising first index). -/
def regRows2 : List RegRow := [
  ⟨0x0B0A, 16, 33, 0, 1, [⟨29, 28, .ro, 0⟩, ⟨27, 26, .ro, 0⟩, ⟨25, 13, .ro, 0⟩, ⟨12, 0, .ro, 0⟩]⟩,
  ⟨0x0E00, 0, 1, 0, 1, [⟨1, 1, .ro, 0⟩, ⟨0, 0, .rw, 0⟩]⟩,
  ⟨0x0E01, 0, 1, 0, 1, [⟨6, 6, .w1c, 0⟩, ⟨5, 5, .w1c, 0⟩, ⟨4, 4, .w1c, 0⟩, ⟨3, 3, .w1c, 0⟩, ⟨2, 2, .w1c, 0⟩, ⟨1, 1, .w1c, 0⟩, ⟨0, 0, .w1c, 0⟩]⟩,
  ⟨0x0E02, 1, 2, 0, 1, [⟨31, 0, .ro, 0⟩]⟩,
  ⟨0x0E04, 1, 2, 0, 1, [⟨31, 0, .w1c, 0⟩]⟩,
  ⟨0x0E06, 0, 1, 0, 1, [⟨15, 0, .rwp, 500⟩]⟩,
  ⟨0x0E08, 2, 2, 0, 1, [⟨37, 37, .rwp, 0⟩, ⟨36, 32, .rwp, 1⟩, ⟨31, 16, .rwp, 10000⟩, ⟨15, 8, .rwp, 0⟩]⟩,
  ⟨0x0E09, 2, 2, 0, 1, [⟨37, 37, .ro, 0⟩, ⟨36, 36, .ro, 0⟩, ⟨31, 16, .ro, 0⟩, ⟨15, 0, .ro, 0⟩]⟩,
  ⟨0x0E0C, 2, 2, 0, 1, [⟨37, 37, .rwp, 0⟩, ⟨36, 36, .rwp, 0⟩, ⟨35, 32, .rwp, 1⟩, ⟨31, 16, .rwp, 1024⟩, ⟨15, 0, .rwp, 0⟩]⟩,
  ⟨0x0E0D, 2, 2, 0, 1, [⟨39, 32, .ro, 0⟩, ⟨31, 16, .ro, 0⟩, ⟨15, 0, .ro, 0⟩]⟩,
  ⟨0x0E20, 4, 12, 0, 1, [⟨28, 26, .ro, 0⟩, ⟨25, 22, .ro, 0⟩, ⟨21, 20, .ro, 0⟩, ⟨19, 17, .ro, 0⟩, ⟨16, 12, .ro, 0⟩, ⟨6, 0, .ro, 0⟩]⟩,
  ⟨0x0E21, 4, 12, 0, 1, [⟨33, 31, .ro, 0⟩, ⟨30, 0, .ro, 0⟩]⟩,
  ⟨0x0E22, 4, 12, 0, 1, [⟨39, 32, .ro, 0⟩, ⟨31, 15, .ro, 0⟩, ⟨14, 3, .ro, 0⟩, ⟨2, 2, .ro, 0⟩, ⟨1, 1, .ro, 0⟩, ⟨0, 0, .ro, 0⟩]⟩,
  ⟨0x0E23, 4, 12, 0, 1, [⟨39, 0, .ro, 0⟩]⟩,
  ⟨0x0E50, 4, 8, 0, 1, [⟨35, 35, .rwp, 0⟩, ⟨34, 34, .rwp, 0⟩, ⟨33, 33, .rwp, 0⟩, ⟨32, 30, .rwp, 6⟩, ⟨29, 28, .rwp, 0⟩, ⟨27, 18, .rwp, 30⟩, ⟨17, 10, .rwp, 3⟩]⟩,
  ⟨0x0E51, 4, 8, 0, 1, [⟨35, 32, .ro, 0⟩, ⟨31, 16, .ro, 0⟩, ⟨1, 1, .ro, 0⟩, ⟨0, 0, .ro, 0⟩]⟩,
  ⟨0x0E52, 4, 8, 0, 1, [⟨24, 24, .ro, 0⟩, ⟨23, 16, .ro, 0⟩, ⟨15, 0, .ro, 0⟩]⟩,
  ⟨0x0E80, 1, 64, 0, 1, [⟨35, 20, .rwp, 32768⟩, ⟨15, 0, .rwp, 0⟩]⟩,
  ⟨0x0EC0, 1, 64, 0, 1, [⟨35, 35, .rwp, 0⟩, ⟨34, 31, .rwp, 2⟩, ⟨30, 27, .rwp, 2⟩, ⟨23, 12, .rwp, 2047⟩, ⟨11, 0, .rwp, 2048⟩]⟩,
  ⟨0x0F00, 16, 12, 1, 16, [⟨13, 9, .ro, 0⟩, ⟨8, 7, .ro, 0⟩, ⟨6, 0, .ro, 0⟩]⟩,
  ⟨0x1000, 0, 1, 0, 1, [⟨31, 0, .w1c, 0⟩]⟩,
  ⟨0x1001, 0, 1, 0, 1, [⟨33, 17, .ro, 0⟩, ⟨16, 0, .ro, 0⟩]⟩,
  ⟨0x1020, 4, 32, 0, 1, [⟨36, 35, .ro, 0⟩, ⟨34, 32, .ro, 0⟩, ⟨31, 18, .ro, 0⟩, ⟨17, 0, .ro, 0⟩]⟩,
  ⟨0x1021, 4, 32, 0, 1, [⟨27, 14, .ro, 0⟩, ⟨13, 0, .ro, 0⟩]⟩,
  ⟨0x1022, 4, 32, 0, 1, [⟨13, 0, .wo, 0⟩]⟩,
  ⟨0x1023, 4, 32, 0, 1, [⟨31, 0, .ro, 0⟩]⟩,
  ⟨0x1200, 0, 1, 0, 1, [⟨4, 4, .w1c, 0⟩, ⟨3, 3, .w1c, 0⟩, ⟨2, 2, .w1c, 0⟩, ⟨1, 1, .w1c, 0⟩, ⟨0, 0, .w1c, 0⟩]⟩,
  ⟨0x1201, 0, 1, 0, 1, [⟨31, 16, .ro, 0⟩, ⟨15, 0, .ro, 0⟩]⟩,
  ⟨0x1202, 0, 1, 0, 1, [⟨39, 36, .ro, 0⟩, ⟨35, 22, .ro, 0⟩, ⟨16, 16, .ro, 0⟩, ⟨15, 0, .ro, 0⟩]⟩,
  ⟨0x1203, 0, 1, 0, 1, [⟨1, 1, .wo, 0⟩, ⟨0, 0, .wo, 0⟩]⟩,
  ⟨0x1204, 0, 1, 0, 1, [⟨20, 20, .rw, 1⟩, ⟨19, 17, .rw, 0⟩, ⟨16, 14, .rw, 0⟩, ⟨13, 0, .rw, 0⟩]⟩,
  ⟨0x1205, 0, 1, 0, 1, [⟨39, 0, .rwp, 0⟩]⟩,
  ⟨0x1206, 0, 1, 0, 1, [⟨1, 1, .wop, 0⟩, ⟨0, 0, .wop, 0⟩]⟩,
  ⟨0x1207, 0, 1, 0, 1, [⟨24, 24, .ro, 0⟩, ⟨23, 10, .ro, 0⟩, ⟨9, 9, .ro, 0⟩, ⟨8, 0, .ro, 0⟩]⟩,
  ⟨0x1208, 0, 1, 0, 1, [⟨3, 3, .w1c, 0⟩, ⟨2, 2, .w1c, 0⟩, ⟨1, 1, .w1c, 0⟩, ⟨0, 0, .w1c, 0⟩]⟩,
  ⟨0x1209, 0, 1, 0, 1, [⟨31, 0, .ro, 0⟩]⟩,
  ⟨0x120A, 1, 2, 0, 1, [⟨31, 0, .ro, 0⟩]⟩,
  ⟨0x1210, 16, 8, 0, 1, [⟨39, 39, .ro, 0⟩, ⟨38, 38, .ro, 0⟩, ⟨37, 35, .ro, 0⟩, ⟨34, 32, .ro, 0⟩, ⟨31, 21, .ro, 0⟩, ⟨20, 7, .ro, 0⟩]⟩,
  ⟨0x1211, 16, 8, 0, 1, [⟨29, 20, .ro, 0⟩, ⟨3, 3, .w1c, 0⟩, ⟨2, 2, .w1c, 0⟩, ⟨1, 1, .w1c, 0⟩, ⟨0, 0, .w1c, 0⟩]⟩,
  ⟨0x1212, 16, 8, 0, 1, [⟨39, 20, .ro, 0⟩, ⟨19, 0, .ro, 0⟩]⟩]
/-- Register rows, part 3 (field tables of the chapters, rising first index). -/
def regRows3 : List RegRow := [
  ⟨0x1213, 16, 8, 0, 1, [⟨39, 24, .ro, 0⟩, ⟨23, 0, .ro, 0⟩]⟩,
  ⟨0x1300, 16, 8, 1, 16, [⟨39, 0, .ro, 0⟩]⟩,
  ⟨0x1400, 2, 8, 0, 1, [⟨39, 24, .ro, 0⟩, ⟨23, 8, .ro, 0⟩, ⟨2, 2, .ro, 0⟩, ⟨1, 1, .ro, 0⟩, ⟨0, 0, .ro, 0⟩]⟩,
  ⟨0x1401, 2, 8, 0, 1, [⟨39, 38, .ro, 0⟩, ⟨37, 30, .ro, 0⟩, ⟨23, 0, .ro, 0⟩]⟩,
  ⟨0x1440, 1, 64, 0, 1, [⟨39, 0, .ro, 0⟩]⟩,
  ⟨0x1480, 0, 1, 0, 1, [⟨39, 39, .rwp, 0⟩, ⟨38, 32, .rwp, 0⟩, ⟨31, 25, .rwp, 1⟩, ⟨24, 17, .rwp, 13⟩, ⟨16, 9, .rwp, 50⟩, ⟨8, 1, .rwp, 64⟩]⟩,
  ⟨0x1481, 1, 2, 0, 1, [⟨39, 32, .rwp, 16⟩, ⟨31, 16, .rwp, 0⟩, ⟨15, 0, .rwp, 0⟩]⟩,
  ⟨0x1483, 0, 1, 0, 1, [⟨39, 38, .ro, 3⟩, ⟨37, 26, .ro, 0⟩, ⟨25, 14, .ro, 0⟩, ⟨13, 2, .ro, 0⟩, ⟨1, 1, .ro, 0⟩, ⟨0, 0, .ro, 0⟩]⟩,
  ⟨0x1600, 0, 1, 0, 1, [⟨1, 1, .wo, 0⟩, ⟨0, 0, .wop, 0⟩]⟩,
  ⟨0x1601, 0, 1, 0, 1, [⟨35, 34, .ro, 0⟩, ⟨33, 33, .ro, 0⟩, ⟨15, 0, .ro, 0⟩]⟩,
  ⟨0x1602, 0, 1, 0, 1, [⟨39, 32, .ro, 0⟩, ⟨31, 16, .ro, 0⟩, ⟨15, 8, .ro, 0⟩]⟩,
  ⟨0x1603, 0, 1, 0, 1, [⟨39, 20, .ro, 0⟩, ⟨19, 0, .ro, 0⟩]⟩,
  ⟨0x1604, 0, 1, 0, 1, [⟨31, 28, .ro, 0⟩, ⟨27, 24, .ro, 0⟩, ⟨23, 20, .ro, 0⟩, ⟨19, 16, .ro, 0⟩, ⟨12, 0, .ro, 0⟩]⟩,
  ⟨0x1605, 0, 1, 0, 1, [⟨3, 3, .w1c, 0⟩, ⟨2, 2, .w1c, 0⟩, ⟨1, 1, .w1c, 0⟩, ⟨0, 0, .w1c, 0⟩]⟩,
  ⟨0x1606, 0, 1, 0, 1, [⟨31, 0, .ro, 0⟩]⟩,
  ⟨0x1607, 0, 1, 0, 1, [⟨39, 0, .ro, 0⟩]⟩,
  ⟨0x1608, 0, 1, 0, 1, [⟨16, 0, .rw, 0⟩]⟩,
  ⟨0x1609, 0, 1, 0, 1, [⟨39, 0, .rwp, 0⟩]⟩,
  ⟨0x160A, 0, 1, 0, 1, [⟨39, 37, .ro, 0⟩, ⟨36, 32, .ro, 0⟩, ⟨31, 0, .ro, 0⟩]⟩,
  ⟨0x1610, 1, 8, 0, 1, [⟨39, 39, .ro, 0⟩, ⟨38, 38, .ro, 0⟩, ⟨37, 35, .ro, 0⟩, ⟨34, 32, .ro, 0⟩, ⟨31, 14, .ro, 0⟩, ⟨13, 0, .ro, 0⟩]⟩,
  ⟨0x1620, 1, 32, 0, 1, [⟨39, 39, .ro, 0⟩, ⟨38, 36, .ro, 0⟩, ⟨35, 28, .ro, 0⟩, ⟨27, 27, .ro, 0⟩, ⟨26, 25, .ro, 0⟩, ⟨24, 22, .ro, 0⟩, ⟨21, 19, .ro, 0⟩]⟩,
  ⟨0x1800, 0, 1, 0, 1, [⟨13, 13, .w1c, 0⟩, ⟨12, 12, .w1c, 0⟩, ⟨11, 11, .w1c, 0⟩, ⟨10, 10, .w1c, 0⟩, ⟨9, 9, .w1c, 0⟩, ⟨8, 8, .w1c, 0⟩, ⟨5, 5, .w1c, 0⟩, ⟨4, 4, .w1c, 0⟩, ⟨3, 3, .w1c, 0⟩, ⟨2, 2, .w1c, 0⟩, ⟨1, 1, .w1c, 0⟩, ⟨0, 0, .w1c, 0⟩]⟩,
  ⟨0x1801, 0, 1, 0, 1, [⟨15, 15, .rw, 1⟩, ⟨14, 14, .rw, 0⟩, ⟨13, 0, .rw, 0⟩]⟩,
  ⟨0x1802, 0, 1, 0, 1, [⟨39, 20, .rwp, 0⟩, ⟨19, 0, .rwp, 0⟩]⟩,
  ⟨0x1803, 0, 1, 0, 1, [⟨0, 0, .wop, 0⟩]⟩,
  ⟨0x1804, 0, 1, 0, 1, [⟨4, 4, .ro, 0⟩, ⟨3, 3, .ro, 0⟩, ⟨2, 2, .ro, 0⟩, ⟨1, 1, .ro, 0⟩, ⟨0, 0, .ro, 0⟩]⟩,
  ⟨0x1810, 32, 2, 0, 1, [⟨37, 36, .rwp, 1⟩, ⟨35, 35, .rwp, 0⟩, ⟨34, 34, .rwp, 0⟩, ⟨33, 33, .rwp, 0⟩, ⟨32, 32, .rwp, 0⟩, ⟨31, 24, .rwp, 0⟩, ⟨23, 16, .rwp, 64⟩, ⟨15, 0, .rwp, 3000⟩]⟩,
  ⟨0x1811, 32, 2, 0, 1, [⟨3, 3, .rw, 0⟩, ⟨2, 2, .rw, 0⟩, ⟨1, 1, .rw, 0⟩, ⟨0, 0, .rw, 0⟩]⟩,
  ⟨0x1812, 32, 2, 0, 1, [⟨39, 0, .rw, 0⟩]⟩,
  ⟨0x1813, 32, 2, 0, 1, [⟨39, 0, .rw, 0⟩]⟩,
  ⟨0x1814, 32, 2, 0, 1, [⟨35, 24, .rwp, 256⟩, ⟨23, 12, .rwp, 256⟩, ⟨11, 0, .rwp, 256⟩]⟩,
  ⟨0x1815, 32, 2, 0, 1, [⟨39, 0, .ro, 0⟩]⟩,
  ⟨0x1816, 32, 2, 0, 1, [⟨39, 37, .ro, 0⟩, ⟨36, 35, .ro, 0⟩, ⟨34, 34, .ro, 0⟩, ⟨33, 33, .ro, 0⟩, ⟨32, 32, .ro, 0⟩, ⟨31, 31, .ro, 0⟩, ⟨30, 30, .ro, 0⟩, ⟨29, 29, .ro, 0⟩, ⟨28, 28, .ro, 0⟩, ⟨27, 27, .ro, 0⟩, ⟨26, 26, .ro, 0⟩, ⟨25, 13, .ro, 4096⟩]⟩,
  ⟨0x1817, 32, 2, 0, 1, [⟨39, 37, .ro, 0⟩, ⟨36, 36, .ro, 0⟩, ⟨35, 32, .ro, 0⟩, ⟨31, 16, .ro, 0⟩, ⟨15, 0, .ro, 0⟩]⟩,
  ⟨0x1818, 32, 2, 0, 1, [⟨35, 32, .rwp, 6⟩, ⟨31, 20, .rwp, 64⟩, ⟨19, 8, .rwp, 1000⟩]⟩,
  ⟨0x1819, 32, 2, 0, 1, [⟨39, 24, .rwp, 0⟩, ⟨23, 16, .rwp, 12⟩, ⟨15, 8, .rwp, 8⟩]⟩,
  ⟨0x181A, 32, 2, 0, 1, [⟨39, 39, .w1cp, 0⟩, ⟨38, 38, .ro, 0⟩, ⟨37, 37, .ro, 0⟩, ⟨36, 21, .ro, 0⟩]⟩,
  ⟨0x181B, 32, 2, 0, 1, [⟨23, 12, .rwp, 64⟩, ⟨11, 0, .rwp, 64⟩]⟩,
  ⟨0x181C, 32, 2, 0, 1, [⟨11, 0, .rwp, 41⟩]⟩,
  ⟨0x181D, 32, 2, 0, 1, [⟨39, 20, .rwp, 917504⟩, ⟨19, 0, .rwp, 16384⟩]⟩]
/-- Register rows, part 4 (field tables of the chapters, rising first index). -/
def regRows4 : List RegRow := [
  ⟨0x181E, 32, 2, 0, 1, [⟨39, 20, .rwp, 0⟩, ⟨19, 0, .rwp, 16384⟩]⟩,
  ⟨0x181F, 32, 2, 0, 1, [⟨39, 20, .rwp, 32768⟩, ⟨19, 0, .rwp, 8192⟩]⟩,
  ⟨0x1820, 32, 2, 0, 1, [⟨31, 0, .rwp, 0⟩]⟩,
  ⟨0x1C00, 0, 1, 0, 1, [⟨7, 7, .w1c, 0⟩, ⟨6, 6, .w1c, 0⟩, ⟨5, 5, .w1c, 0⟩, ⟨4, 4, .w1c, 0⟩, ⟨3, 3, .w1c, 0⟩, ⟨2, 2, .w1c, 0⟩, ⟨1, 1, .w1c, 0⟩, ⟨0, 0, .w1c, 0⟩]⟩,
  ⟨0x1C01, 0, 1, 0, 1, [⟨23, 22, .ro, 0⟩, ⟨21, 21, .ro, 0⟩, ⟨20, 20, .ro, 0⟩, ⟨19, 19, .ro, 0⟩, ⟨18, 18, .ro, 0⟩, ⟨17, 17, .ro, 0⟩, ⟨16, 16, .ro, 0⟩, ⟨15, 15, .ro, 0⟩, ⟨12, 0, .ro, 0⟩]⟩,
  ⟨0x1C02, 0, 1, 0, 1, [⟨10, 0, .rwp, 400⟩]⟩,
  ⟨0x1C03, 0, 1, 0, 1, [⟨32, 22, .rwp, 1450⟩, ⟨21, 11, .rwp, 1400⟩, ⟨10, 0, .rwp, 1300⟩]⟩,
  ⟨0x1C04, 0, 1, 0, 1, [⟨37, 30, .rwp, 50⟩, ⟨29, 22, .rwp, 50⟩, ⟨21, 11, .rwp, 350⟩, ⟨10, 0, .rwp, 380⟩]⟩,
  ⟨0x1C05, 0, 1, 0, 1, [⟨31, 16, .rwp, 500⟩, ⟨15, 0, .rwp, 1000⟩]⟩,
  ⟨0x1C06, 0, 1, 0, 1, [⟨1, 0, .rw, 0⟩]⟩,
  ⟨0x1C07, 0, 1, 0, 1, [⟨10, 0, .rw, 1000⟩]⟩,
  ⟨0x1C08, 0, 1, 0, 1, [⟨12, 0, .rw, 0⟩]⟩,
  ⟨0x1C09, 0, 1, 0, 1, [⟨35, 24, .rwp, 800⟩, ⟨23, 12, .rwp, 800⟩, ⟨11, 0, .rwp, 400⟩]⟩,
  ⟨0x1C0A, 0, 1, 0, 1, [⟨32, 32, .rwp, 1⟩, ⟨31, 24, .rwp, 64⟩, ⟨23, 16, .rwp, 5⟩, ⟨15, 7, .rwp, 10⟩, ⟨6, 0, .rwp, 127⟩]⟩,
  ⟨0x1C0B, 0, 1, 0, 1, [⟨35, 24, .rwp, 50⟩, ⟨23, 12, .rwp, 100⟩, ⟨11, 0, .rwp, 200⟩]⟩,
  ⟨0x1C0C, 0, 1, 0, 1, [⟨23, 12, .rwp, 3000⟩, ⟨11, 0, .rwp, 100⟩]⟩,
  ⟨0x1C0D, 0, 1, 0, 1, [⟨31, 16, .ro, 0⟩, ⟨15, 8, .ro, 0⟩, ⟨7, 7, .ro, 0⟩, ⟨6, 6, .ro, 0⟩, ⟨5, 5, .ro, 0⟩, ⟨4, 4, .ro, 0⟩, ⟨3, 0, .ro, 0⟩]⟩,
  ⟨0x1C0E, 0, 1, 0, 1, [⟨0, 0, .wo, 0⟩]⟩,
  ⟨0x1E00, 0, 1, 0, 1, [⟨9, 9, .w1c, 0⟩, ⟨8, 8, .w1c, 0⟩, ⟨7, 7, .w1c, 0⟩, ⟨6, 6, .w1c, 0⟩, ⟨5, 5, .w1c, 0⟩, ⟨4, 4, .w1c, 0⟩, ⟨3, 3, .w1c, 0⟩, ⟨2, 2, .w1c, 0⟩, ⟨1, 1, .w1c, 0⟩, ⟨0, 0, .w1c, 0⟩]⟩,
  ⟨0x1E01, 0, 1, 0, 1, [⟨39, 37, .ro, 0⟩, ⟨36, 34, .ro, 7⟩, ⟨33, 31, .ro, 7⟩, ⟨30, 30, .ro, 0⟩, ⟨29, 29, .ro, 0⟩, ⟨28, 28, .ro, 0⟩, ⟨27, 27, .ro, 0⟩, ⟨26, 26, .ro, 0⟩, ⟨25, 25, .ro, 0⟩, ⟨24, 24, .ro, 0⟩, ⟨23, 20, .ro, 0⟩]⟩,
  ⟨0x1E02, 0, 1, 0, 1, [⟨2, 2, .wop, 0⟩, ⟨1, 1, .wo, 0⟩, ⟨0, 0, .wo, 0⟩]⟩,
  ⟨0x1E03, 0, 1, 0, 1, [⟨39, 39, .rwp, 0⟩, ⟨38, 37, .rwp, 0⟩, ⟨36, 30, .rwp, 0⟩, ⟨29, 24, .rwp, 20⟩, ⟨23, 16, .rwp, 64⟩, ⟨15, 8, .rwp, 241⟩, ⟨7, 0, .rwp, 135⟩]⟩,
  ⟨0x1E04, 0, 1, 0, 1, [⟨39, 37, .ro, 7⟩, ⟨36, 36, .ro, 0⟩, ⟨35, 35, .ro, 0⟩, ⟨34, 34, .ro, 0⟩, ⟨33, 24, .ro, 0⟩, ⟨23, 14, .ro, 0⟩, ⟨11, 6, .ro, 0⟩, ⟨5, 0, .ro, 0⟩]⟩,
  ⟨0x1E05, 0, 1, 0, 1, [⟨39, 33, .rwp, 126⟩, ⟨32, 24, .rwp, 320⟩, ⟨23, 19, .rwp, 10⟩, ⟨18, 14, .rwp, 5⟩, ⟨13, 5, .rwp, 250⟩]⟩,
  ⟨0x1E06, 0, 1, 0, 1, [⟨39, 30, .ro, 0⟩, ⟨29, 21, .ro, 0⟩, ⟨20, 11, .ro, 0⟩, ⟨10, 1, .ro, 0⟩, ⟨0, 0, .ro, 0⟩]⟩,
  ⟨0x1E07, 0, 1, 0, 1, [⟨9, 0, .rw, 1023⟩]⟩,
  ⟨0x1E08, 0, 1, 0, 1, [⟨39, 33, .rwp, 127⟩, ⟨32, 26, .rwp, 127⟩, ⟨25, 19, .rwp, 127⟩, ⟨18, 12, .rwp, 127⟩, ⟨11, 5, .rwp, 127⟩]⟩,
  ⟨0x1E09, 0, 1, 0, 1, [⟨39, 26, .rwp, 0⟩, ⟨25, 13, .rwp, 0⟩, ⟨12, 0, .rwp, 0⟩]⟩,
  ⟨0x1E0A, 0, 1, 0, 1, [⟨39, 29, .rwp, 500⟩, ⟨28, 22, .rwp, 20⟩, ⟨21, 15, .rwp, 10⟩, ⟨14, 8, .rwp, 5⟩, ⟨7, 3, .rwp, 15⟩]⟩,
  ⟨0x1E0B, 0, 1, 0, 1, [⟨39, 29, .rwp, 250⟩, ⟨28, 19, .rwp, 120⟩, ⟨18, 7, .rwp, 600⟩, ⟨6, 0, .rwp, 10⟩]⟩,
  ⟨0x1E0C, 0, 1, 0, 1, [⟨39, 29, .rwp, 100⟩, ⟨28, 16, .rwp, 3380⟩, ⟨15, 0, .rwp, 1000⟩]⟩,
  ⟨0x1E0D, 0, 1, 0, 1, [⟨15, 0, .rw, 0⟩]⟩,
  ⟨0x1E0E, 0, 1, 0, 1, [⟨39, 24, .ro, 0⟩, ⟨23, 8, .ro, 0⟩, ⟨7, 0, .ro, 0⟩]⟩,
  ⟨0x1E0F, 0, 1, 0, 1, [⟨39, 24, .rwp, 1024⟩, ⟨23, 8, .rwp, 3277⟩]⟩,
  ⟨0x1E10, 0, 1, 0, 1, [⟨7, 7, .rw, 0⟩, ⟨6, 6, .rw, 1⟩, ⟨5, 5, .rw, 1⟩, ⟨4, 4, .rw, 0⟩, ⟨3, 3, .rw, 0⟩, ⟨2, 2, .rw, 0⟩, ⟨1, 1, .rw, 0⟩, ⟨0, 0, .rw, 0⟩]⟩,
  ⟨0x1E11, 0, 1, 0, 1, [⟨7, 7, .w1c, 0⟩, ⟨6, 6, .w1c, 0⟩, ⟨5, 5, .w1c, 0⟩, ⟨4, 4, .w1c, 0⟩, ⟨3, 3, .w1c, 0⟩, ⟨2, 2, .w1c, 0⟩, ⟨1, 1, .w1c, 0⟩, ⟨0, 0, .w1c, 0⟩]⟩,
  ⟨0x1E18, 0, 1, 0, 1, [⟨39, 28, .rwp, 0⟩, ⟨27, 16, .rwp, 0⟩, ⟨15, 0, .rwp, 0⟩]⟩,
  ⟨0x1E19, 0, 1, 0, 1, [⟨39, 28, .rwp, 20⟩, ⟨27, 16, .rwp, 0⟩, ⟨15, 0, .rwp, 0⟩]⟩,
  ⟨0x1E1A, 0, 1, 0, 1, [⟨39, 28, .rwp, 50⟩, ⟨27, 16, .rwp, 0⟩, ⟨15, 0, .rwp, 0⟩]⟩,
  ⟨0x1E1B, 0, 1, 0, 1, [⟨39, 28, .rwp, 80⟩, ⟨27, 16, .rwp, 0⟩, ⟨15, 0, .rwp, 0⟩]⟩]
/-- Register rows, part 5 (field tables of the chapters, rising first index). -/
def regRows5 : List RegRow := [
  ⟨0x1E1C, 0, 1, 0, 1, [⟨39, 28, .rwp, 100⟩, ⟨27, 16, .rwp, 0⟩, ⟨15, 0, .rwp, 0⟩]⟩,
  ⟨0x1E1D, 0, 1, 0, 1, [⟨39, 28, .rwp, 0⟩, ⟨27, 16, .rwp, 0⟩, ⟨15, 0, .rwp, 0⟩]⟩,
  ⟨0x2000, 0, 1, 0, 1, [⟨13, 13, .w1c, 0⟩, ⟨12, 12, .w1c, 0⟩, ⟨11, 9, .w1c, 0⟩, ⟨8, 6, .w1c, 0⟩, ⟨5, 3, .w1c, 0⟩, ⟨2, 0, .w1c, 0⟩]⟩,
  ⟨0x2001, 0, 1, 0, 1, [⟨23, 21, .ro, 3⟩, ⟨20, 20, .rwp, 1⟩, ⟨19, 4, .rwp, 50⟩]⟩,
  ⟨0x2010, 16, 3, 0, 1, [⟨39, 32, .rwp, 50⟩, ⟨31, 24, .rwp, 0⟩, ⟨23, 23, .rwp, 0⟩, ⟨22, 22, .rwp, 0⟩, ⟨21, 21, .rwp, 0⟩, ⟨20, 14, .rwp, 100⟩, ⟨13, 8, .rwp, 40⟩, ⟨7, 2, .rwp, 10⟩]⟩,
  ⟨0x2011, 16, 3, 0, 1, [⟨2, 2, .wo, 0⟩, ⟨1, 1, .rw, 0⟩, ⟨0, 0, .rw, 0⟩]⟩,
  ⟨0x2012, 16, 3, 0, 1, [⟨27, 21, .rw, 16⟩, ⟨20, 13, .rw, 80⟩, ⟨12, 0, .rw, 0⟩]⟩,
  ⟨0x2013, 16, 3, 0, 1, [⟨39, 37, .ro, 0⟩, ⟨36, 35, .ro, 0⟩, ⟨34, 32, .ro, 0⟩, ⟨31, 30, .ro, 0⟩, ⟨29, 29, .ro, 0⟩, ⟨28, 28, .ro, 0⟩, ⟨27, 27, .ro, 0⟩, ⟨26, 13, .ro, 0⟩, ⟨12, 5, .ro, 0⟩]⟩,
  ⟨0x2014, 16, 3, 0, 1, [⟨39, 34, .rwp, 45⟩, ⟨33, 27, .rwp, 20⟩, ⟨26, 20, .rwp, 10⟩, ⟨19, 13, .rwp, 10⟩, ⟨12, 4, .rwp, 50⟩]⟩,
  ⟨0x2015, 16, 3, 0, 1, [⟨39, 24, .rwp, 0⟩, ⟨23, 8, .rwp, 3600⟩, ⟨7, 0, .rwp, 40⟩]⟩,
  ⟨0x20F0, 0, 1, 0, 1, [⟨27, 27, .ro, 0⟩, ⟨26, 18, .ro, 0⟩, ⟨17, 0, .ro, 0⟩]⟩,
  ⟨0x20F1, 0, 1, 0, 1, [⟨27, 27, .w1c, 0⟩, ⟨26, 9, .w1c, 0⟩, ⟨8, 0, .w1c, 0⟩]⟩,
  ⟨0x20F2, 0, 1, 0, 1, [⟨4, 4, .rwp, 1⟩, ⟨3, 2, .rwp, 2⟩, ⟨1, 0, .rwp, 2⟩]⟩,
  ⟨0x2100, 0, 1, 0, 1, [⟨6, 6, .w1c, 0⟩, ⟨5, 5, .w1c, 0⟩, ⟨4, 4, .w1c, 0⟩, ⟨3, 3, .w1c, 0⟩, ⟨2, 2, .w1c, 0⟩, ⟨1, 1, .w1c, 0⟩, ⟨0, 0, .w1c, 0⟩]⟩,
  ⟨0x2101, 0, 1, 0, 1, [⟨39, 24, .ro, 0⟩, ⟨23, 12, .ro, 4095⟩, ⟨11, 11, .ro, 0⟩, ⟨10, 10, .ro, 0⟩, ⟨9, 9, .ro, 0⟩]⟩,
  ⟨0x2102, 0, 1, 0, 1, [⟨39, 32, .rwp, 204⟩, ⟨31, 24, .rwp, 8⟩, ⟨23, 20, .rwp, 8⟩, ⟨19, 16, .rwp, 8⟩, ⟨15, 8, .rwp, 216⟩]⟩,
  ⟨0x2103, 0, 1, 0, 1, [⟨8, 8, .wo, 0⟩, ⟨7, 7, .wop, 0⟩, ⟨6, 6, .wo, 0⟩, ⟨5, 0, .wo, 0⟩]⟩,
  ⟨0x2104, 0, 1, 0, 1, [⟨20, 20, .rw, 1⟩, ⟨19, 17, .rw, 0⟩, ⟨16, 11, .rw, 0⟩, ⟨10, 0, .rw, 0⟩]⟩,
  ⟨0x2105, 0, 1, 0, 1, [⟨39, 0, .rwp, 0⟩]⟩,
  ⟨0x2106, 0, 1, 0, 1, [⟨39, 27, .ro, 0⟩, ⟨26, 15, .ro, 0⟩, ⟨14, 1, .ro, 0⟩, ⟨0, 0, .ro, 0⟩]⟩,
  ⟨0x2110, 1, 48, 0, 1, [⟨39, 39, .rwp, 0⟩, ⟨38, 37, .rwp, 0⟩, ⟨36, 35, .rwp, 0⟩, ⟨34, 28, .rwp, 127⟩, ⟨27, 12, .rwp, 0⟩, ⟨11, 9, .rwp, 2⟩]⟩,
  ⟨0x2140, 1, 48, 0, 1, [⟨39, 26, .ro, 0⟩, ⟨25, 12, .ro, 0⟩, ⟨11, 11, .ro, 0⟩, ⟨10, 10, .ro, 0⟩, ⟨9, 9, .ro, 0⟩, ⟨8, 8, .ro, 0⟩]⟩,
  ⟨0x2170, 1, 48, 0, 1, [⟨39, 0, .ro, 0⟩]⟩,
  ⟨0x2200, 0, 1, 0, 1, [⟨6, 6, .w1c, 0⟩, ⟨5, 5, .w1c, 0⟩, ⟨4, 4, .w1c, 0⟩, ⟨3, 3, .w1c, 0⟩, ⟨2, 2, .w1c, 0⟩, ⟨1, 1, .w1c, 0⟩, ⟨0, 0, .w1c, 0⟩]⟩,
  ⟨0x2201, 0, 1, 0, 1, [⟨35, 35, .ro, 0⟩, ⟨34, 34, .ro, 0⟩, ⟨33, 33, .ro, 0⟩, ⟨32, 32, .ro, 0⟩, ⟨31, 16, .ro, 0⟩, ⟨15, 0, .ro, 0⟩]⟩,
  ⟨0x2202, 0, 1, 0, 1, [⟨39, 38, .ro, 0⟩, ⟨37, 36, .ro, 0⟩, ⟨23, 0, .ro, 0⟩]⟩,
  ⟨0x2203, 0, 1, 0, 1, [⟨39, 0, .ro, 0⟩]⟩,
  ⟨0x2204, 0, 1, 0, 1, [⟨39, 0, .ro, 0⟩]⟩,
  ⟨0x2205, 0, 1, 0, 1, [⟨39, 26, .ro, 0⟩, ⟨25, 15, .ro, 0⟩, ⟨14, 0, .ro, 0⟩]⟩,
  ⟨0x2206, 0, 1, 0, 1, [⟨31, 0, .ro, 0⟩]⟩,
  ⟨0x2207, 0, 1, 0, 1, [⟨39, 32, .ro, 0⟩, ⟨31, 24, .ro, 0⟩, ⟨23, 12, .ro, 0⟩, ⟨11, 0, .ro, 0⟩]⟩,
  ⟨0x2210, 0, 1, 0, 1, [⟨2, 2, .wop, 0⟩, ⟨1, 1, .wop, 0⟩, ⟨0, 0, .wop, 0⟩]⟩,
  ⟨0x2211, 0, 1, 0, 1, [⟨32, 32, .rwp, 0⟩, ⟨31, 0, .rwp, 0⟩]⟩,
  ⟨0x2212, 0, 1, 0, 1, [⟨35, 34, .ro, 0⟩, ⟨31, 0, .ro, 0⟩]⟩,
  ⟨0x2213, 0, 1, 0, 1, [⟨20, 20, .rw, 1⟩, ⟨19, 19, .rw, 0⟩, ⟨18, 0, .rw, 0⟩]⟩,
  ⟨0x2214, 0, 1, 0, 1, [⟨31, 0, .rp, 0⟩]⟩,
  ⟨0x2400, 0, 1, 0, 1, [⟨16, 16, .w1c, 0⟩, ⟨15, 15, .w1c, 0⟩, ⟨14, 12, .w1c, 0⟩, ⟨11, 9, .w1c, 0⟩, ⟨8, 6, .w1c, 0⟩, ⟨5, 3, .w1c, 0⟩, ⟨2, 0, .w1c, 0⟩]⟩,
  ⟨0x2401, 0, 1, 0, 1, [⟨0, 0, .wo, 0⟩]⟩,
  ⟨0x2402, 0, 1, 0, 1, [⟨20, 20, .rw, 1⟩, ⟨19, 18, .rw, 0⟩, ⟨17, 15, .rw, 0⟩, ⟨11, 0, .rw, 0⟩]⟩,
  ⟨0x2403, 0, 1, 0, 1, [⟨39, 0, .rw, 0⟩]⟩]
/-- Register rows, part 6 (field tables of the chapters, rising first index). -/
def regRows6 : List RegRow := [
  ⟨0x2404, 0, 1, 0, 1, [⟨21, 11, .rwp, 1280⟩, ⟨10, 3, .rwp, 10⟩, ⟨2, 0, .rwp, 0⟩]⟩,
  ⟨0x2405, 0, 1, 0, 1, [⟨37, 30, .ro, 0⟩, ⟨29, 23, .ro, 0⟩, ⟨22, 16, .ro, 0⟩, ⟨15, 0, .ro, 0⟩]⟩,
  ⟨0x2410, 0, 1, 0, 1, [⟨11, 11, .rwp, 0⟩, ⟨10, 10, .rwp, 0⟩, ⟨9, 9, .rwp, 1⟩, ⟨8, 8, .rwp, 1⟩, ⟨7, 0, .rwp, 1⟩]⟩,
  ⟨0x2450, 0, 1, 0, 1, [⟨11, 11, .rwp, 0⟩, ⟨10, 10, .rwp, 0⟩, ⟨9, 9, .rwp, 1⟩, ⟨8, 8, .rwp, 0⟩, ⟨7, 0, .rwp, 1⟩]⟩,
  ⟨0x2490, 0, 1, 0, 1, [⟨11, 11, .rwp, 0⟩, ⟨10, 10, .rwp, 0⟩, ⟨9, 9, .rwp, 1⟩, ⟨8, 8, .rwp, 0⟩, ⟨7, 0, .rwp, 1⟩]⟩,
  ⟨0x2411, 64, 3, 0, 1, [⟨30, 25, .rwp, 1⟩, ⟨24, 16, .rwp, 127⟩, ⟨15, 8, .rwp, 32⟩, ⟨7, 0, .rwp, 32⟩]⟩,
  ⟨0x2412, 64, 3, 0, 1, [⟨28, 28, .rwp, 0⟩, ⟨27, 21, .rwp, 30⟩, ⟨20, 16, .rwp, 1⟩, ⟨15, 10, .rwp, 29⟩, ⟨9, 5, .rwp, 10⟩, ⟨4, 0, .rwp, 10⟩]⟩,
  ⟨0x2413, 64, 3, 0, 1, [⟨30, 30, .rwp, 1⟩, ⟨29, 29, .rwp, 0⟩, ⟨28, 0, .rwp, 1776⟩]⟩,
  ⟨0x2414, 64, 3, 0, 1, [⟨29, 29, .rwp, 0⟩, ⟨28, 0, .rwp, 1777⟩]⟩,
  ⟨0x2415, 64, 3, 0, 1, [⟨1, 1, .wo, 0⟩, ⟨0, 0, .wo, 0⟩]⟩,
  ⟨0x2416, 64, 3, 0, 1, [⟨35, 34, .ro, 0⟩, ⟨33, 33, .ro, 0⟩, ⟨32, 25, .ro, 0⟩, ⟨24, 17, .ro, 0⟩, ⟨16, 14, .ro, 0⟩, ⟨13, 8, .ro, 0⟩, ⟨7, 0, .ro, 0⟩]⟩,
  ⟨0x2417, 64, 3, 0, 1, [⟨32, 24, .ro, 0⟩, ⟨23, 8, .ro, 0⟩, ⟨7, 0, .ro, 0⟩]⟩,
  ⟨0x2418, 64, 3, 0, 1, [⟨31, 0, .rw, 0⟩]⟩,
  ⟨0x2419, 64, 3, 0, 1, [⟨31, 0, .w1c, 0⟩]⟩,
  ⟨0x241A, 64, 3, 0, 1, [⟨4, 0, .wo, 0⟩]⟩,
  ⟨0x241B, 64, 3, 0, 1, [⟨8, 0, .wo, 0⟩]⟩,
  ⟨0x241C, 64, 3, 0, 1, [⟨6, 6, .wo, 0⟩, ⟨5, 0, .wo, 0⟩]⟩,
  ⟨0x2430, 64, 3, 1, 16, [⟨39, 0, .rw, 0⟩]⟩,
  ⟨0x2800, 0, 1, 0, 1, [⟨8, 8, .w1c, 0⟩, ⟨7, 7, .w1c, 0⟩, ⟨6, 6, .w1c, 0⟩, ⟨5, 5, .w1c, 0⟩, ⟨4, 4, .w1c, 0⟩, ⟨3, 3, .w1c, 0⟩, ⟨2, 2, .w1c, 0⟩, ⟨1, 1, .w1c, 0⟩, ⟨0, 0, .w1c, 0⟩]⟩,
  ⟨0x2801, 0, 1, 0, 1, [⟨31, 24, .ro, 0⟩, ⟨23, 23, .ro, 0⟩, ⟨22, 22, .ro, 0⟩, ⟨21, 21, .ro, 0⟩, ⟨20, 20, .ro, 0⟩]⟩,
  ⟨0x2802, 0, 1, 0, 1, [⟨7, 0, .rwp, 219⟩]⟩,
  ⟨0x2803, 0, 1, 0, 1, [⟨0, 0, .wop, 0⟩]⟩,
  ⟨0x2804, 1, 2, 0, 1, [⟨39, 39, .ro, 0⟩, ⟨38, 35, .ro, 0⟩, ⟨34, 31, .ro, 0⟩, ⟨30, 29, .ro, 0⟩, ⟨28, 17, .ro, 0⟩, ⟨15, 0, .ro, 0⟩]⟩,
  ⟨0x2810, 0, 1, 0, 1, [⟨17, 13, .rwp, 0⟩, ⟨12, 12, .rwp, 0⟩, ⟨11, 0, .rwp, 1000⟩]⟩,
  ⟨0x2811, 0, 1, 0, 1, [⟨13, 0, .rwp, 2⟩]⟩,
  ⟨0x2812, 0, 1, 0, 1, [⟨31, 16, .rwp, 0⟩, ⟨15, 0, .rwp, 2833⟩]⟩,
  ⟨0x2813, 0, 1, 0, 1, [⟨39, 38, .ro, 0⟩, ⟨37, 28, .ro, 0⟩, ⟨27, 20, .ro, 0⟩, ⟨19, 0, .ro, 0⟩]⟩,
  ⟨0x2820, 0, 1, 0, 1, [⟨39, 37, .ro, 0⟩, ⟨36, 33, .ro, 0⟩, ⟨32, 30, .ro, 0⟩, ⟨29, 29, .ro, 0⟩, ⟨28, 15, .ro, 0⟩, ⟨14, 1, .ro, 0⟩]⟩,
  ⟨0x2821, 0, 1, 0, 1, [⟨39, 32, .ro, 0⟩, ⟨31, 0, .ro, 0⟩]⟩,
  ⟨0x2822, 0, 1, 0, 1, [⟨39, 32, .ro, 0⟩, ⟨31, 0, .ro, 0⟩]⟩,
  ⟨0x2C00, 0, 1, 0, 1, [⟨39, 0, .ro, 0⟩]⟩,
  ⟨0x2C01, 0, 1, 0, 1, [⟨29, 15, .ro, 0⟩, ⟨14, 0, .ro, 0⟩]⟩,
  ⟨0x3000, 0, 1, 0, 1, [⟨3, 3, .w1c, 0⟩, ⟨2, 2, .w1c, 0⟩, ⟨1, 1, .w1c, 0⟩, ⟨0, 0, .w1c, 0⟩]⟩,
  ⟨0x3001, 0, 1, 0, 1, [⟨39, 38, .ro, 0⟩, ⟨37, 36, .ro, 0⟩, ⟨35, 35, .ro, 0⟩, ⟨34, 34, .ro, 0⟩, ⟨33, 33, .ro, 1⟩, ⟨32, 32, .ro, 0⟩, ⟨31, 16, .ro, 0⟩, ⟨15, 0, .ro, 0⟩]⟩,
  ⟨0x3002, 0, 1, 0, 1, [⟨37, 37, .rwp, 0⟩, ⟨36, 36, .rwp, 0⟩, ⟨35, 35, .rwp, 0⟩, ⟨34, 34, .rwp, 0⟩, ⟨33, 33, .rwp, 0⟩, ⟨32, 32, .rwp, 0⟩, ⟨31, 31, .rwp, 0⟩, ⟨30, 23, .rwp, 128⟩, ⟨22, 21, .rwp, 0⟩, ⟨20, 13, .rwp, 2⟩]⟩,
  ⟨0x3003, 0, 1, 0, 1, [⟨39, 37, .ro, 7⟩, ⟨36, 36, .ro, 0⟩, ⟨35, 34, .ro, 0⟩, ⟨33, 33, .ro, 0⟩, ⟨32, 31, .ro, 0⟩, ⟨30, 28, .ro, 0⟩, ⟨27, 27, .ro, 0⟩, ⟨15, 0, .ro, 65535⟩]⟩]

/-- All register families of the index space (R688). -/
def regRows : List RegRow := regRows0 ++ regRows1 ++ regRows2 ++ regRows3 ++ regRows4 ++ regRows5 ++ regRows6

/-- The family row owns index i. -/
def RegRow.owns (r : RegRow) (i : Nat) : Bool :=
  r.base ≤ i &&
    (if r.n1 = 1 then (i - r.base) < r.n2
     else if r.n2 = 1 then (i - r.base) % r.s1 = 0 && (i - r.base) / r.s1 < r.n1
     else (i - r.base) % r.s1 < r.n2 && (i - r.base) / r.s1 < r.n1)

/-- The row of the register at index i; none at a reserved index (R688, R689). -/
def regRow (i : Nat) : Option RegRow := regRows.find? (·.owns i)

/-- The 40-bit reset value of a field table (R6). -/
def RegRow.reset (r : RegRow) : BitVec 40 := BitVec.ofNat 40 (r.fields.foldl (fun a f => a + f.rst * 2 ^ f.lo) 0)

/-- What a register holds after power-on reset (R6); 0 at a reserved index. -/
def resetReg (i : Nat) : BitVec 40 := match regRow i with | some r => r.reset | none => 0

end Sys2Proof.Machine
end

