-- ==== Sys2Proof/Machine/State.lean ====
section
/-! DEFINITION. The state of the block: every register of the map (spec/20_register_map.md) in one sparse map whose
unlisted entries read their reset values (R6), the hidden state the chapters give each unit, and the queue of commands
that wait. `State.reset` is the part right after power-on, before its supplies are good. -/

namespace Sys2Proof.Machine

/-- No fault exists: the spec gives this block no effect that stops it. The one constructor is raised by nothing and is
safe. -/
inductive Fault where
  /-- Raised by no command; safe. -/
  | none
deriving DecidableEq, Repr

/-- Why a command has no meaning. -/
inductive Refusal where
  /-- Raised by `exec` for a command whose meaning is not written yet; safe. -/
  | notModelled (mnemonic : String)
deriving DecidableEq, Repr

/-- The state of the block. -/
structure State where
  /-- Commands that wait, first in first out. -/
  pending : List Instr := []
  /-- Device time, in ticks of 5 ns (R10); it counts only while D0 runs. -/
  dt : Nat := 0
  /-- Time since power-on in ticks of 5 ns, whatever runs (the model's own clock of the outside world). -/
  el : Nat := 0
  /-- The register file, canonical over the reset values (R6). -/
  regs : AMap Reg := []
  /-- The model's own counter of free values drawn so far; no field of the spec. -/
  free : Nat := 0
  boot : Boot := {}
  trans : Option Trans := none
  /-- Held requests: a mode request, and an enable by converter index (R73, R74). -/
  heldMode : Option Held := none
  heldFn : AMap Held := []
  /-- `nFAULT` is driven low (R63, R77). -/
  nfault : Bool := true
  ev : EvLog := {}
  audit : AuditLog := {}
  rcd : Recorder := {}
  /-- The command ports, by key: 256 × origin + node (R561). -/
  ports : AMap Port := []
  /-- `DEV_DT_HI` of each access path, by key (R29). -/
  dtHi : AMap Nat := []
  lastReq : AMap LastReq := []
  sessions : AMap Session := []
  lockouts : AMap Lockout := []
  /-- The privileged session SERVICE is bound to, 0 when none (R568). -/
  service : Nat := 0
  /-- A pre-start run follows the calibration in progress (R56). -/
  preDue : Bool := false
  /-- The integrator key in OTP, none while not programmed (R569, R570). -/
  key : Option Nat := none
  plant : Option Plant := none
  isl : AMap Isl := []
  sel : AMap Sel := []
  conv : AMap Conv := []
  unit : AMap Unit := []
  tb : AMap Tb := []
  /-- Trip sources now asserted, by index (R196). -/
  trips : Nat := 0
  /-- The chopper discharges the link in READY (R423). -/
  discharging : Bool := false
  meas : Meas := {}
  eng : Eng := {}
  trx : Traction := {}
  pilot : Pilot := {}
  dcl : Dcl := {}
  chg : Chg := {}
  pairUse : PairUse := {}
  act : AMap ActSt := []
  /-- The end of the 100 ms brake of every low-voltage bridge in SAFE (R39). -/
  lvEnd : Option Nat := none
  life : Life := {}
  plc : Plc := {}
  sto : Sto := {}
  upd : Upd := {}
  glove : Glove := {}
  can : Can := {}
  pair : Pair := {}
  /-- Since when both STO inputs have been high together, and a discrepancy already reported (R82). -/
  stoHigh : Option Nat := none
  stoTold : Bool := false
  /-- The TAP is in EXTEST (R661). -/
  extest : Bool := false
deriving DecidableEq, Repr

/-- The part right after power-on (spec/02_modes_and_startup.md): every register at its reset value, every queue and
buffer empty, `nFAULT` driven low (R63). -/
def State.reset : State := {}

end Sys2Proof.Machine
end

