-- ==== Sys2Proof/Machine/Ops.lean ====
section
/-! DEFINITION. The named operations every meaning is written over: time, the register file, the hidden records of each
unit, the event log, the audit log and free values. -/

namespace Sys2Proof.Machine

/-! ### Time -/

/-- D0 runs from step 3 of the cold start, except in STANDBY (R10, R25). -/
def State.d0 (s : State) : Bool :=
  match s.boot.phase with
  | .off | .wait | .standby => false
  | .clock => s.boot.kind == .warm
  | _ => true

/-- Events can be logged: device time counts and the part is not held in reset. -/
def State.logs (s : State) : Bool := s.d0 && !(s.boot.phase == .held)

/-- The passing of e ticks of 5 ns. -/
def State.tick (e : Nat) (s : State) : State :=
  { s with el := s.el + e, dt := if s.d0 then s.dt + e else s.dt }

/-- The passing of time until device time t, when that is still to come (the expiry of a timer whose deadline is t). -/
def State.until (t : Nat) (s : State) : State := s.tick (t - s.dt)

/-- The same for a timer of the part's own, whose deadline counts elapsed ticks: it runs whether device time does or not. -/
def State.untilEl (t : Nat) (s : State) : State := s.tick (t - s.el)

/-! ### The register file -/

/-- A register's stored value. -/
def State.reg (s : State) (i : Nat) : Reg := AMap.getD s.regs i (resetReg i)

/-- Storing a register's value. -/
def State.setReg (i : Nat) (v : Reg) (s : State) : State := { s with regs := AMap.put s.regs i (resetReg i) v }

/-- A field's stored value. -/
def State.fld (s : State) (i : Nat) (f : Fld) : Nat := f.get (s.reg i)

/-- Storing a field. -/
def State.setFld (i : Nat) (f : Fld) (x : Nat) (s : State) : State := s.setReg i (f.set (s.reg i) x)

/-- A one-bit field as a Boolean. -/
def State.bit (s : State) (i : Nat) (f : Fld) : Bool := s.fld i f != 0

/-- Storing a one-bit field. -/
def State.setBit (i : Nat) (f : Fld) (b : Bool) (s : State) : State := s.setFld i f (b2n b)

/-- A count field advanced, saturating at its width. -/
def State.incFld (i : Nat) (f : Fld) (k : Nat) (s : State) : State := s.setFld i f (satInc f.width (s.fld i f) k)

/-- A bit of a bitmap field set or cleared. -/
def State.setBitAt (i : Nat) (f : Fld) (b : Nat) (on : Bool) (s : State) : State :=
  s.setFld i f (if on then setBitN (s.fld i f) b else clrBitN (s.fld i f) b)

/-- A field read as a two's-complement number. -/
def State.sfld (s : State) (i : Nat) (f : Fld) : Int := sx f.width (s.fld i f)

/-- Storing a two's-complement number. -/
def State.setSfld (i : Nat) (f : Fld) (x : Int) (s : State) : State := s.setFld i f (unsx f.width x)

/-! ### Hidden records -/

/-- Island n's record. -/
def State.islOf (s : State) (n : Nat) : Isl := AMap.getD s.isl n {}
/-- Storing island n's record. -/
def State.setIsl (n : Nat) (x : Isl) (s : State) : State := { s with isl := AMap.put s.isl n {} x }
/-- Selector channel m's record. -/
def State.selOf (s : State) (m : Nat) : Sel := AMap.getD s.sel m {}
/-- Storing selector channel m's record. -/
def State.setSel (m : Nat) (x : Sel) (s : State) : State := { s with sel := AMap.put s.sel m {} x }
/-- Converter k's record. -/
def State.convOf (s : State) (k : Nat) : Conv := AMap.getD s.conv k {}
/-- Storing converter k's record. -/
def State.setConv (k : Nat) (x : Conv) (s : State) : State := { s with conv := AMap.put s.conv k {} x }
/-- Unit k's record. -/
def State.unitOf (s : State) (k : Nat) : Unit := AMap.getD s.unit k {}
/-- Storing unit k's record. -/
def State.setUnit (k : Nat) (x : Unit) (s : State) : State := { s with unit := AMap.put s.unit k {} x }
/-- Timebase j's record. -/
def State.tbOf (s : State) (j : Nat) : Tb := AMap.getD s.tb j {}
/-- Storing timebase j's record. -/
def State.setTb (j : Nat) (x : Tb) (s : State) : State := { s with tb := AMap.put s.tb j {} x }

/-- ADC n's record. -/
def State.adcOf (s : State) (n : Nat) : Adc := AMap.getD s.meas.adc n {}
/-- Storing ADC n's record. -/
def State.setAdc (n : Nat) (x : Adc) (s : State) : State := { s with meas := { s.meas with adc := AMap.put s.meas.adc n {} x } }
/-- Crossing FIFO k's record. -/
def State.xfOf (s : State) (k : Nat) : Xf := AMap.getD s.meas.xf k {}
/-- Storing crossing FIFO k's record. -/
def State.setXf (k : Nat) (x : Xf) (s : State) : State := { s with meas := { s.meas with xf := AMap.put s.meas.xf k {} x } }
/-- Queue q's record. -/
def State.queOf (s : State) (q : Nat) : Que := AMap.getD s.meas.que q {}
/-- Storing queue q's record. -/
def State.setQue (q : Nat) (x : Que) (s : State) : State := { s with meas := { s.meas with que := AMap.put s.meas.que q {} x } }
/-- SENT receiver r's record. -/
def State.sentOf (s : State) (r : Nat) : Sent := AMap.getD s.meas.sent r {}
/-- Storing SENT receiver r's record. -/
def State.setSent (r : Nat) (x : Sent) (s : State) : State := { s with meas := { s.meas with sent := AMap.put s.meas.sent r {} x } }

/-- Graph g's run state. -/
def State.graphOf (s : State) (g : Nat) : Graph := AMap.getD s.eng.graph g {}
/-- Storing graph g's run state. -/
def State.setGraph (g : Nat) (x : Graph) (s : State) : State := { s with eng := { s.eng with graph := AMap.put s.eng.graph g {} x } }
/-- Hand-off slot h. -/
def State.handOf (s : State) (h : Nat) : Hand := AMap.getD s.eng.hand h {}
/-- Storing hand-off slot h. -/
def State.setHand (h : Nat) (x : Hand) (s : State) : State := { s with eng := { s.eng with hand := AMap.put s.eng.hand h {} x } }
/-- Machine m's supervisor record. -/
def State.trxOf (s : State) (m : Nat) : Trx := AMap.getD s.trx.mach m {}
/-- Storing machine m's supervisor record. -/
def State.setTrx (m : Nat) (x : Trx) (s : State) : State := { s with trx := { s.trx with mach := AMap.put s.trx.mach m {} x } }
/-- Actuator a's record. -/
def State.actOf (s : State) (a : Nat) : ActSt := AMap.getD s.act a {}
/-- Storing actuator a's record. -/
def State.setAct (a : Nat) (x : ActSt) (s : State) : State := { s with act := AMap.put s.act a {} x }
/-- Writing set-point slot k (R285, R355). -/
def State.setSp (k : Nat) (v : Reg) (s : State) : State := { s with eng := { s.eng with sp := AMap.ins s.eng.sp k v } }

/-- Island n's lifetime data. -/
def State.lifeOf (s : State) (n : Nat) : LifeIsl := AMap.getD s.life.isl n {}
/-- Storing island n's lifetime data. -/
def State.setLife (n : Nat) (x : LifeIsl) (s : State) : State := { s with life := { s.life with isl := AMap.put s.life.isl n {} x } }
/-- Island n's estimator. -/
def State.estOf (s : State) (n : Nat) : LifeEst := AMap.getD s.life.est n {}
/-- Storing island n's estimator. -/
def State.setEst (n : Nat) (x : LifeEst) (s : State) : State := { s with life := { s.life with est := AMap.put s.life.est n {} x } }

/-- The 40-bit value `DEV_RTC` reads now (R66). -/
def State.rtc (s : State) : Nat :=
  let t := s.el - s.boot.rtcAt
  (s.boot.rtcSec + t / 200000000) % 2 ^ 32 * 256 + t % 200000000 * 128 / 200000000 * 2 +
    s.fld R.DEV_RTC F.DEV_RTC.SET

/-! ### Modes -/

/-- The mode encodings of R38. -/
abbrev Mode.standby : Nat := 0
abbrev Mode.ready : Nat := 1
abbrev Mode.drive : Nat := 2
abbrev Mode.charge : Nat := 3
abbrev Mode.service : Nat := 4
abbrev Mode.safe : Nat := 5
abbrev Mode.boot : Nat := 7

/-- The present mode (R38). -/
def State.mode (s : State) : Nat := s.fld R.DEV_MODE F.DEV_MODE.MODE

/-! ### Free values -/

/-- Drawing a free value of w bits: a value the spec does not state (assumption 2). -/
def State.draw (w : Nat) (s : State) : Nat × State := (Config.freeValue s.free % 2 ^ w, { s with free := s.free + 1 })

/-! ### The event log (R632, R633) -/

/-- The detail bytes of R699: each value in its number of bytes, packed upward. -/
def evDetail (vals : List (Nat × Nat)) : List Byte := vals.flatMap (fun p => leBytes p.1 p.2)

/-- Appending one entry to the buffer, under the next number. -/
def evAppend (code subj flags stamp : Nat) (det : List Byte) (s : State) : State :=
  let n := s.fld R.LOG_EVENT_NEXT F.LOG_EVENT_NEXT.NEXT
  let x : EvEntry := ⟨n, stamp, code, flags, subj, det⟩
  let s := { s with ev := { s.ev with buf := s.ev.buf ++ [x] } }
  (s.setFld R.LOG_EVENT_NEXT F.LOG_EVENT_NEXT.NEXT (n + 1)).setFld R.LOG_EVENT_STAT F.LOG_EVENT_STAT.FILL s.ev.buf.length

/-- What a logged event of a class sets in `CMD_IRQ_STAT`: EVENT for an enabled class, MODE for EV_MODE. -/
def evIrq (code : Nat) (s : State) : State :=
  let c := code / 256
  let s := if c ≥ 1 ∧ bitN (s.fld R.CMD_IRQ_EN F.CMD_IRQ_EN.CLASS) (c - 1) then
      s.setBit R.CMD_IRQ_STAT F.CMD_IRQ_STAT.EVENT true else s
  if code = EV.MODE then s.setBit R.CMD_IRQ_STAT F.CMD_IRQ_STAT.MODE true else s

/-- Logging an event: an ordinary event that finds 16,383 entries held is lost and counted, and EV_LOG_LOST takes the
kept place once for each unbroken run. The Boolean says the event was logged. -/
def evLog (code subj flags stamp : Nat) (det : List Byte) (s : State) : Bool × State :=
  if s.ev.buf.length ≥ 16383 then
    let s1 := (s.incFld R.LOG_EVENT_STAT F.LOG_EVENT_STAT.LOST 1).setBit R.STO_FLAGS F.STO_FLAGS.EVT_LOST true
    let s2 := if s.ev.lostRun = 0 ∧ s.ev.buf.length = 16383 then
      evIrq EV.LOG_LOST (evAppend EV.LOG_LOST 0xFF 0 stamp [] s1) else s1
    (false, { s2 with ev := { s2.ev with lostRun := s.ev.lostRun + 1 } })
  else (true, evIrq code (evAppend code subj flags stamp det s))

/-- The logged code triggers the recorder (R637). -/
def recSelects (s : State) (code : Nat) : Bool :=
  let c := code / 256
  (code != 0 && (code == s.fld R.STO_REC_EVT F.STO_REC_EVT.EVT0 || code == s.fld R.STO_REC_EVT F.STO_REC_EVT.EVT1)) ||
    (decide (1 ≤ c ∧ c ≤ 13) && bitN (s.fld R.STO_REC_TRIG F.STO_REC_TRIG.CLASS) (c - 1))

/-- PRE: the lesser of 0.5 s and the time since arming (R636). -/
def recPre (s : State) (t : Nat) : Nat := min 100000000 (t - s.rcd.armedAt)

/-- Starting a capture at trigger tick t (R638): the next number, the slot after the one last used, a failed device's slots
skipped (R624), header RECORDING. -/
def recStart (kind code t : Nat) (s : State) : State :=
  let num := s.rcd.lastNum + 1
  let nslots := s.fld R.STO_STAT F.STO_STAT.REC_SLOTS
  let from_ := match s.rcd.lastSlot with | none => 0 | some k => k + 1
  let ring := (List.range nslots).map fun i => (from_ + i) % max 1 nslots
  let slot := (ring.find? fun k => !s.bit (R.STO_DEV (k % 2)) F.STO_DEV.FAILED).getD 0
  let post := s.fld R.STO_REC_CFG F.STO_REC_CFG.POST * 200000
  let c : Capture :=
    { num := num, kind := kind, shift := s.fld R.STO_REC_CFG F.STO_REC_CFG.TAPSHIFT, t := t, code := code,
      pre := recPre s t, post := post, ident := s.fld R.PLC_IDENT F.PLC_IDENT.IDENT, slot := slot, endT := t + post }
  let rcd := { s.rcd with cur := some c, lastNum := num, lastSlot := some slot, missRun := false, slots := AMap.ins s.rcd.slots slot c }
  let s := { s with rcd := rcd }
  (s.setFld R.STO_REC_STAT F.STO_REC_STAT.STATE 2).setFld R.STO_REC_STAT F.STO_REC_STAT.LAST num

/-- Raising an event at a stamp: it is logged, and a logged event may trigger the recorder, whose own event may in turn;
the fuel bounds that chain. -/
def raiseF : Nat → Nat → Nat → Nat → List Byte → State → State
  | 0, code, subj, stamp, det, s => (evLog code subj 0 stamp det s).2
  | n + 1, code, subj, stamp, det, s =>
    let (ok, s) := evLog code subj 0 stamp det s
    if ok && recSelects s code then
      if s.fld R.STO_REC_STAT F.STO_REC_STAT.STATE = 1 then
        raiseF n EV.REC_TRIGGERED 0xFF stamp [] (recStart 1 code stamp s)
      else
        let first := !s.rcd.missRun
        let s := ((s.incFld R.STO_REC_STAT F.STO_REC_STAT.MISSED 1).setBit R.STO_FLAGS F.STO_FLAGS.REC_MISSED true)
        let s := { s with rcd := { s.rcd with missRun := true } }
        if first then raiseF n EV.REC_MISSED 0xFF stamp [] s else s
    else s

/-- Raising an event stamped t, naming a subject and the values of its detail with their widths in bytes (R699). -/
def State.raiseAt (t code subj : Nat) (vals : List (Nat × Nat)) (s : State) : State :=
  if s.logs then raiseF 3 code subj t (evDetail vals) s else s

/-- Raising an event now. -/
def State.raise (code subj : Nat) (vals : List (Nat × Nat)) (s : State) : State := s.raiseAt s.dt code subj vals

/-- Setting a sticky bit and raising its event when the bit rises. -/
def State.flagRaise (i : Nat) (f : Fld) (code subj : Nat) (vals : List (Nat × Nat)) (s : State) : State :=
  if s.bit i f then s else (s.setBit i f true).raise code subj vals

/-! ### The audit log (R578 to R583) -/

/-- Bytes 0 to 29 of an audit entry (R583). -/
def AuditEntry.body (a : AuditEntry) : List Byte :=
  leBytes 8 a.dt ++ leBytes 1 a.kind ++ leBytes 1 a.origin ++ leBytes 1 a.node ++ leBytes 1 a.session ++
  leBytes 2 a.index ++ leBytes 4 a.tbl ++ leBytes 5 a.old ++ leBytes 5 a.new ++ leBytes 1 a.status ++ leBytes 1 a.seq

/-- The chain value of an entry after the chain value before it. -/
def AuditEntry.link (a : AuditEntry) (prev : Nat) : Nat := crc32c (a.body ++ leBytes 2 prev) % 65536

/-- The audit buffer is full (R580). -/
def State.auditFull (s : State) : Bool := 16384 ≤ s.audit.buf.length

/-- Appending an entry under the next number, with its chain. -/
def auditPush (a : AuditEntry) (s : State) : State :=
  let n := s.fld R.CMD_AUDIT_NEXT F.CMD_AUDIT_NEXT.NEXT
  let c := a.link s.audit.chain
  let s := { s with audit := { s.audit with buf := s.audit.buf ++ [{ a with num := n, chain := c }], chain := c } }
  (s.setFld R.CMD_AUDIT_NEXT F.CMD_AUDIT_NEXT.NEXT (n + 1)).setFld R.CMD_AUDIT_STAT F.CMD_AUDIT_STAT.FILL s.audit.buf.length

/-- Recording a change: an entry that finds the buffer full is counted as lost (R581). -/
def State.auditAdd (a : AuditEntry) (s : State) : State :=
  if s.auditFull then
    let s := (s.incFld R.CMD_AUDIT_STAT F.CMD_AUDIT_STAT.LOST 1).setBit R.CMD_FLAGS F.CMD_FLAGS.AUDIT_LOST true
    { s with audit := { s.audit with lostRun := s.audit.lostRun + 1 } }
  else auditPush { a with dt := s.dt } s

/-- An entry made by a request. -/
def auditOf (r : Req) (kind index tbl old new status : Nat) : AuditEntry :=
  { num := 0, dt := 0, kind := kind, origin := r.origin, node := r.node, session := r.session, index := index,
    tbl := tbl, old := old, new := new, status := status, seq := r.seq }

/-- The module itself as the origin of an entry (R583). -/
def reqInternal : Req := { origin := 7 }

/-! ### Status codes (R550) -/

abbrev St.ok : Nat := 0
abbrev St.busy : Nat := 1
abbrev St.superseded : Nat := 2
abbrev St.denied : Nat := 3
abbrev St.badCrc : Nat := 4
abbrev St.badOpcode : Nat := 5
abbrev St.badParam : Nat := 6
abbrev St.wrongMode : Nat := 7
abbrev St.queued : Nat := 8
abbrev St.refusedByPlacer : Nat := 9
abbrev St.inFlight : Nat := 10

/-- A session is privileged: open, authenticated and bound to the origin that names it (R562, R565). -/
def privileged (s : State) (r : Req) : Bool :=
  match AMap.get? s.sessions r.session with
  | some x => x.auth && x.origin == r.origin && x.node == r.node && decide (1 ≤ r.session ∧ r.session ≤ 254)
  | none => false

/-- Applying an operation to each element in turn. -/
def forEach {α : Type} (l : List α) (f : α → State → State) (s : State) : State := l.foldl (fun s a => f a s) s

/-- The numbers below n whose bit is set. -/
def bitsOf (n m : Nat) : List Nat := (List.range n).filter (fun b => m.testBit b)

/-- A number put in its place in a rising list. -/
def insNat (x : Nat) : List Nat → List Nat
  | [] => [x]
  | y :: t => if x ≤ y then x :: y :: t else y :: insNat x t

/-- A list of numbers in rising order. -/
def sortNat (l : List Nat) : List Nat := l.foldr insNat []

end Sys2Proof.Machine
end

