-- ==== Sys2Proof/Machine/Journal.lean ====
section
/-! DEFINITION. The input journal of the glove pair (R508 to R513, R534): one write, and what waits. -/

namespace Sys2Proof.Machine

/-- Both cores are halted, or the checkpoint after a resume is still to come: no entry is written (R534, R536). -/
def jStopped (s : State) : Bool := s.bit R.GLV_STAT F.GLV_STAT.HALTED || s.glove.restart.isSome

/-- The outputs of the glove pair are kept back: it is halted or resuming (R534, R536), or an interval whose records differed
waits for its re-execution (R519, R520), `AGREE` standing at 0 from the difference to the next agreed checkpoint. -/
def outputsKept (s : State) : Bool :=
  jStopped s || (s.bit R.GLV_STAT F.GLV_STAT.RUN && s.fld R.GLV_STAT F.GLV_STAT.AGREE == 0)

/-- The first interval at or after k that takes another entry (R512); the fuel covers a full ring. -/
def jInterval (s : State) : Nat → Nat → Nat
  | 0, k => k
  | n + 1, k => if AMap.getD s.glove.cnt k 0 < 1024 then k else jInterval s n (k + 1)

/-- `GLV_JRNL.FILL` shown. -/
def jShow (s : State) : State := s.setFld R.GLV_JRNL F.GLV_JRNL.FILL s.glove.ents.length

/-- An entry deferred from interval k (R512). -/
def jDefer (k : Nat) (s : State) : State :=
  let s := (s.incFld R.GLV_JRNL F.GLV_JRNL.DEFERRED 1).setBit R.GLV_FLAGS F.GLV_FLAGS.DEFER true
  let run := s.glove.deferIv == k || s.glove.deferIv == k + 1
  let s := { s with glove := { s.glove with deferIv := k + 1 } }
  if run then s else s.raise EV.JOURNAL_DEFER 0xFF []

/-- A halt requested at a position with a cause (R533). -/
def haltAsk (p why : Nat) (s : State) : State :=
  if s.bit R.GLV_STAT F.GLV_STAT.HALTED || s.glove.haltPos.isSome || !s.glove.on then s
  else { s.setBit R.GLV_STAT F.GLV_STAT.HALT_PEND true with glove := { s.glove with haltPos := some (p, why) } }

/-- GL comes to entry seq: at an armed breakpoint it halts (R533), which is ignored during re-execution. -/
def breakMet (seq : Nat) (s : State) : State :=
  if s.bit R.GLV_DBG_BRK F.GLV_DBG_BRK.EN && !s.bit R.GLV_STAT F.GLV_STAT.RUN && s.fld R.GLV_DBG_BRK F.GLV_DBG_BRK.POS == seq then
    haltAsk seq 2 s
  else s

/-- An entry written now (R509, R510, R512), which GL consumes at once unless it is deferred (R514). -/
def jPut (src : Nat) (body : JBody) (s : State) : State :=
  let seq := s.fld R.GLV_JSEQ F.GLV_JSEQ.SEQ
  let k := s.dt / 10000
  let iv := jInterval s 9 k
  let n := AMap.getD s.glove.cnt iv 0 + 1
  let x : JEnt := { seq := seq, stamp := s.dt, iv := iv, src := src, defer := iv != k, body := body }
  let s := { s with glove := { s.glove with ents := s.glove.ents ++ [x], cnt := AMap.ins s.glove.cnt iv n } }
  let s := s.setFld R.GLV_JSEQ F.GLV_JSEQ.SEQ (seq + 1)
  let s := jShow (s.setFld R.GLV_JRNL F.GLV_JRNL.MAX (max n (s.fld R.GLV_JRNL F.GLV_JRNL.MAX)))
  if iv = k then breakMet seq s else jDefer k s

/-- A source's input reaches the journal: it is written, or waits for room or for the end of a halt, in which pin and
island changes act on their L0 paths only (R513, R534). -/
def jWrite (src : Nat) (body : JBody) (s : State) : State :=
  if !s.glove.on then s
  else if jStopped s then
    if src = 7 ∨ src = 8 then s else { s with glove := { s.glove with wait := s.glove.wait ++ [(src, body)] } }
  else if 8192 ≤ s.glove.ents.length then { s with glove := { s.glove with wait := s.glove.wait ++ [(src, body)] } }
  else jPut src body s

/-- What waits is written, as far as there is room. -/
def jDrain : Nat → State → State
  | 0, s => s
  | n + 1, s =>
    match s.glove.wait with
    | [] => s
    | (src, body) :: t =>
      if jStopped s || decide (8192 ≤ s.glove.ents.length) then s
      else jDrain n (jPut src body { s with glove := { s.glove with wait := t } })

/-- The entries of interval k are freed (R513, R517). -/
def jFree (k : Nat) (s : State) : State :=
  let g := s.glove
  jShow { s with glove := { g with
    ents := g.ents.filter (fun x => x.iv != k)
    cnt := AMap.del g.cnt k
    snaps := AMap.del g.snaps k } }

/-- The cores resume (R536): a halt not yet reached is given up; from a halt, the journal restarts at the checkpoint that
follows, the halted interval is compared at the first checkpoint at least 50 µs on, and the watchdog runs again. -/
def gloveResume (s : State) : State :=
  let g := s.glove
  if s.bit R.GLV_STAT F.GLV_STAT.HALTED then
    let s := (s.setBit R.GLV_STAT F.GLV_STAT.HALTED false).setBit R.GLV_STAT F.GLV_STAT.HALT_PEND false
    let empty := s.dt / 10000 - (g.haltAt + 9999) / 10000
    let s := { s with glove := { g with
      haltPos := none, restart := some (s.dt / 10000 + 1), cmpFrom := s.dt + 10000, agreeAt := s.dt,
      next := s.dt / 10000 + 1 } }
    s.raise EV.GLOVE_RESUME 0xFF [(4, s.fld R.GLV_DBG_STAT F.GLV_DBG_STAT.POS), (4, empty)]
  else { s.setBit R.GLV_STAT F.GLV_STAT.HALT_PEND false with glove := { g with haltPos := none } }

/-- JOURNAL_WRITE (R508, R510): a source's input is written; codes 0x00 and 0x0D to 0xFF are never written. -/
def journalWrite (src : Nat) (s : State) : State := if 1 ≤ src ∧ src ≤ 12 then jWrite src .none s else s

@[inherit_doc journalWrite]
def execJournalWrite (e : Nat) (src : Fin 16) (s : State) : Host.Outcome State Fault Refusal :=
  .next (journalWrite src (s.tick e))

end Sys2Proof.Machine
end

