-- ==== Sys2Proof/Machine/Wiring.lean ====
section
/-! DEFINITION. Which islands, channels, units, timebases and converters belong together: by the accepted plant
description (R331), or by the reference wiring while none is accepted (R86, R123, R143). -/

namespace Sys2Proof.Machine

/-- A unit's gates, high side and low side, 63 for none. Gates 0 to 47 are the islands and gate 64 + nn is low-voltage
channel Lnn (R123). -/
def gatesOf (s : State) (k : Nat) : Nat × Nat :=
  if 24 ≤ k then (64 + 2 * (k - 24), 65 + 2 * (k - 24))
  else match s.plant with
    | none => (2 * k, 2 * k + 1)
    | some p => match p.units.find? (fun u => u.hb == k) with
      | some u => (u.islH, u.islL)
      | none => (63, 63)

/-- A unit's record in the accepted description. -/
def unitRec (s : State) (k : Nat) : Option UnitRec := s.plant.bind fun p => p.units.find? (fun u => u.hb == k)

/-- A unit's mode (R172); while no description is accepted HB23 is a series pair (R143). -/
def unitMode (s : State) (k : Nat) : Nat :=
  match s.plant with
  | none => if k = 23 then 2 else 0
  | some _ => match unitRec s k with | some u => u.mode | none => 0

/-- A converter's record in the accepted description. -/
def convRec (s : State) (k : Nat) : Option ConvRec := s.plant.bind fun p => p.convs.find? (fun c => c.index == k)

/-- The declared converters, in record order. -/
def convs (s : State) : List ConvRec := match s.plant with | some p => p.convs | none => []

/-- The kind of converter k, 7 when it is not declared. -/
def kindOf (s : State) (k : Nat) : Nat := match convRec s k with | some c => c.kind | none => 7

/-- The converter a unit belongs to. -/
def convOfUnit (s : State) (k : Nat) : Option Nat := (unitRec s k).map (·.conv)

/-- The units of a converter. -/
def unitsOf (s : State) (c : Nat) : List Nat :=
  match s.plant with
  | none => []
  | some p => (p.units.filter (fun u => u.conv == c)).map (·.hb)

/-- The gates of a list of units. -/
def gatesOfUnits (s : State) (ks : List Nat) : List Nat :=
  ks.flatMap fun k => let g := gatesOf s k; (if g.1 = 63 then [] else [g.1]) ++ (if g.2 = 63 then [] else [g.2])

/-- The gates of a converter. -/
def gatesOfConv (s : State) (c : Nat) : List Nat := gatesOfUnits s (unitsOf s c)

/-- The unit a gate belongs to. -/
def unitOfGate (s : State) (g : Nat) : Option Nat :=
  (List.range 33).find? fun k => let p := gatesOf s k; p.1 == g || p.2 == g

/-- The converter an island belongs to. -/
def convOfIsl (s : State) (n : Nat) : Option Nat := (unitOfGate s n).bind (convOfUnit s)

/-- The gate stands on the high side of its unit. -/
def gateHigh (s : State) (g : Nat) : Bool :=
  match unitOfGate s g with
  | some k => (gatesOf s k).1 == g
  | none => false

/-- The other gate of the unit, when there is one. -/
def partner (s : State) (g : Nat) : Option Nat :=
  match unitOfGate s g with
  | some k =>
    let p := gatesOf s k
    let q := if p.1 == g then p.2 else p.1
    if q = 63 then none else some q
  | none => none

/-- The accepted description uses the island (R90). -/
def islUsed (s : State) (n : Nat) : Bool := s.bit (R.ISL_CFG n) F.ISL_CFG.USED

/-- The traction machine bound to selector channel m (R148). -/
def machConv (s : State) (m : Nat) : Option Nat :=
  ((convs s).find? (fun c => c.kind == 0 && c.sel == m)).map (·.index)

/-- The selector channel of a converter, when it is a traction machine. -/
def chanOf (s : State) (c : Nat) : Option Nat :=
  match convRec s c with
  | some r => if r.kind = 0 then some r.sel else none
  | none => none

/-- The islands of the machine on channel m. -/
def machIsls (s : State) (m : Nat) : List Nat :=
  match machConv s m with
  | some c => gatesOfConv s c
  | none => []

/-- The timebase of converter k. -/
def tbOfConv (s : State) (k : Nat) : Nat := s.fld (R.PLC_CONV k) F.PLC_CONV.TB

/-- The converters bound to timebase j. -/
def convsOfTb (s : State) (j : Nat) : List Nat := ((convs s).map (·.index)).filter (fun k => tbOfConv s k == j)

/-- The timebase of unit k. -/
def tbOfUnit (s : State) (k : Nat) : Nat := s.fld (R.PWM_HB_CFG k) F.PWM_HB_CFG.TB

/-- The declared units of timebase j. -/
def unitsOfTb (s : State) (j : Nat) : List Nat :=
  match s.plant with
  | none => []
  | some p => ((p.units.map (·.hb)).filter fun k => tbOfUnit s k == j)

/-- The graph serving converter k. -/
def graphOf (s : State) (k : Nat) : Option Nat :=
  s.plant.bind fun p => (p.graphs.find? (fun g => g.convs.testBit k)).map (·.g)

/-- The converters a graph serves. -/
def convsOfGraph (s : State) (g : Nat) : List Nat :=
  match s.plant.bind (fun p => p.graphs.find? (fun x => x.g == g)) with
  | some x => bitsOf 32 x.convs
  | none => []

/-- Of each kind, the mode permits the converter to switch (R38); kinds as in R331. -/
def modePermits (mode kind : Nat) : Bool :=
  match mode with
  | 2 => kind == 0 || kind == 1 || kind == 2 || kind == 5 || kind == 6
  | 3 => kind == 3 || kind == 4 || kind == 1 || kind == 5 || kind == 2 || kind == 6
  | _ => false

/-- The DC-link voltage in the unit of `DCL_STAT.VLINK`. -/
def vlink (s : State) : Nat := s.fld R.DCL_STAT F.DCL_STAT.VLINK

/-- The converter of KIND 5 whose units are actuator a's (R460). -/
def actConv (s : State) (a : Nat) : Option Nat :=
  (convOfUnit s (24 + 3 * a)).bind fun c => if kindOf s c = 5 then some c else none

/-- The slots of ADC n still due once the sequence in progress, if any, is discarded: those of a sequence that has ended. -/
def slotsLeft (s : State) (n : Nat) : List SlotDue :=
  let x := s.adcOf n
  if x.busyTill ≤ s.dt then x.slots else x.slots.filter fun d => d.seq != s.fld (R.ADC_AD_STAT n) F.ADC_AD_STAT.SEQ_NO

/-- ADC n's sequence in progress is abandoned: no placed sequence runs while pre-start diagnostics do (R257, assumption 80). -/
def seqAbandon (n : Nat) (s : State) : State :=
  if s.dt < (s.adcOf n).busyTill then
    (s.setAdc n { s.adcOf n with slots := slotsLeft s n, busyTill := s.dt }).setBit (R.ADC_AD_STAT n) F.ADC_AD_STAT.BUSY false
  else s

/-- A phase-sense raw code lies outside the input's valid range (R222). -/
def phsOut (c : Int) : Bool := decide (c < -800) || decide (32000 < c)

/-- A unit failure is reported to the placer, which takes failures one at a time in the order of their reports (R347). -/
def failReport (f : PFail) (s : State) : State :=
  { s with plc := { s.plc with fails := s.plc.fails ++ [{ f with stamp := s.dt }] } }

/-- The identifier of a crossing FIFO (R21); FIFOs are numbered 64 × identifier + instance. -/
def xfId (k : Nat) : Nat := k / 64

/-- Depth of the crossing FIFOs whose producer is a timed domain (R21); those from the interior to a timed domain are
never found full here (assumption 86). -/
def xfDepth (id : Nat) : Nat :=
  match id with
  | 2 => 256 | 3 => 128 | 4 => 16 | 5 => 32 | 7 => 8 | 9 => 32 | 11 => 64 | 12 => 512 | 13 => 4 | _ => 64

/-- A discard at a full crossing FIFO (R23): counted and flagged, its event once for each unbroken run. -/
def xfDiscard (id : Nat) (run : Bool) (s : State) : State :=
  let s := (s.incFld R.FAB_XFIFO_OVF F.FAB_XFIFO_OVF.COUNT 1).setFld R.FAB_XFIFO_OVF F.FAB_XFIFO_OVF.LAST_ID id
  let s := s.setBit R.FAB_FLAGS F.FAB_FLAGS.XFIFO_OVF true
  if run then s else s.raise EV.XFIFO_OVERFLOW id []

/-- What a timed domain sends through crossing FIFO k, consumed at once or held elsewhere, meets it full, or gets through (R21,
R23). An unbroken run of discards is kept for each FIFO by itself (DESIGN CHOICE, assumption 90). -/
def fifoMet (k : Nat) (full : Bool) (s : State) : State :=
  let x := s.xfOf k
  if full then xfDiscard (xfId k) x.run (s.setXf k { x with run := true }) else s.setXf k { x with run := false }

/-- n entries of one arrival meet crossing FIFO k full, each of them a discard; with none, the arrival gets through. -/
def fifoMetN (k n : Nat) (s : State) : State :=
  if n = 0 then fifoMet k false s else (fifoMet k true s).incFld R.FAB_XFIFO_OVF F.FAB_XFIFO_OVF.COUNT (n - 1)

/-- The notices that stand in the D0 event FIFO: the period boundaries the graphs have not taken. -/
def noticesStand (s : State) : Nat := ((List.range 8).map fun h => (s.graphOf h).notices.length).foldl (· + ·) 0

/-- A notice of a trip, a latch or SYNC_IN goes to the interior through the D0 event FIFO (R21); with 256 notices standing in
it this one is discarded, and the event it would raise with it (R23, assumption 90). Code 0 raises none. -/
def noticeSend (code subj : Nat) (s : State) : State :=
  let full := decide (xfDepth 2 ≤ noticesStand s)
  let s := fifoMet (2 * 64) full s
  if full || code == 0 then s else s.raise code subj []

end Sys2Proof.Machine
end

