-- ==== Sys2Proof/Machine/Gates.lean ====
section
/-! DEFINITION. Commanding a gate: what an island or a low-voltage channel does with a commanded edge (R92, R95, R124 to
R127, R134), and the cross-interlock of R143 to R147 in front of every command. Times of edges are in steps of 625 ps. -/

namespace Sys2Proof.Machine

/-- The island's link is up (R113). -/
def linkUp (s : State) (n : Nat) : Bool := s.bit (R.ISL_STAT n) F.ISL_STAT.LINK_UP
/-- The island is in lock-out (R91). -/
def lockedOut (s : State) (n : Nat) : Bool := s.bit (R.ISL_STAT n) F.ISL_STAT.LOCKOUT
/-- The island holds a fault latch (R134). -/
def latched (s : State) (n : Nat) : Bool := s.bit (R.PROT_IST n) F.PROT_IST.LATCHED
/-- The island holds an on fallback state (R61). -/
def fbOn (s : State) (n : Nat) : Bool := s.bit (R.ISL_STAT n) F.ISL_STAT.FB_ON

/-- An island has a detection the interior knows of: its soft turn-off runs or it holds the latch of it (R134), and the
detection is no longer on its way (R135). -/
def faulted (s : State) (n : Nat) : Bool :=
  (latched s n || (s.islOf n).softEnd.isSome) && (s.islOf n).det.isNone

/-- An island is impaired (R150): in lock-out, latched by a fault, or without a link and holding an off fallback. -/
def impaired (s : State) (n : Nat) : Bool :=
  lockedOut s n || faulted s n || (!linkUp s n && !fbOn s n)

/-- A unit's stored pre-start verdict (R164). -/
def verdict (s : State) (k : Nat) : Nat := s.fld (R.PROT_PRE_VERD (k / 8)) ⟨4 * (k % 8) + 3, 4 * (k % 8)⟩

/-- Storing a unit's verdict. -/
def setVerdict (k v : Nat) (s : State) : State := s.setFld (R.PROT_PRE_VERD (k / 8)) ⟨4 * (k % 8) + 3, 4 * (k % 8)⟩ v

/-- The verdict of a converter ends (R57): it needs a new run. Whether the last one was a failure stays, and so do the codes
its units got in the last run (R159; assumption 34). -/
def endVerdict (c : Nat) (s : State) : State := s.setConv c { s.convOf c with verdict := none, spoiled := true }

/-- A low-voltage channel's bit in the gate echo of `ACT_LV_STAT`. -/
def lvGate (s : State) (c : Nat) : Bool := bitN (s.fld R.ACT_LV_STAT F.ACT_LV_STAT.GATE) c

/-- A gate's echoed output: the island's GATE bit, or the channel's bit. -/
def gateOn (s : State) (g : Nat) : Bool :=
  if 64 ≤ g then lvGate s (g - 64) else s.bit (R.ISL_STAT g) F.ISL_STAT.GATE

/-- An island's clamp (R92, R98, R134): engaged with the gate off where the active clamp is enabled, or where the hardware
clamp path acts; during a soft turn-off in lock-out only. That the active clamp waits for the gate's voltage is seen as the
bit is read (`clampLive`; assumption 70). -/
def clampShow (n : Nat) (s : State) : State :=
  s.setBit (R.ISL_STAT n) F.ISL_STAT.CLAMP
    (!s.bit (R.ISL_STAT n) F.ISL_STAT.GATE &&
      (lockedOut s n || ((s.islOf n).softEnd.isNone && (s.bit (R.ISL_CFG n) F.ISL_CFG.CLAMP_EN || latched s n))))

/-- Writing a gate's output at a step. At an island a change restarts the Kelvin path from zero (R132). -/
def setGate (g step : Nat) (on : Bool) (s : State) : State :=
  if 64 ≤ g then s.setBitAt R.ACT_LV_STAT F.ACT_LV_STAT.GATE (g - 64) on
  else
    let x := s.islOf g
    let s := if gateOn s g == on then s
      else s.setIsl g { x with gateStep := step, rise := if on then step else x.rise, kelvin := 0 }
    clampShow g (s.setBit (R.ISL_STAT g) F.ISL_STAT.GATE on)

/-- The segments of an island's profile p as it would run them now (R99 to R102, R104): strength codes limited to `MAX_STR`,
and ticks. -/
def profSegs (s : State) (n p : Nat) : List (Nat × Nat) :=
  let v := (s.reg (R.ISL_PROF n p)).toNat
  (List.range (s.fld (R.ISL_PLEN n) F.ISL_PLEN.LEN / 4 ^ p % 4 + 1)).map fun k =>
    (min (v / 2 ^ (10 * k + 6) % 16) (s.fld (R.ISL_CFG n) F.ISL_CFG.MAX_STR), v / 2 ^ (10 * k) % 64 + 1)

/-- An edge at an island starts its profile from segment 0, and ends the one still running (R102, R103): the index the edge
carries, or the island's default (R105). -/
def startProf (n step : Nat) (on : Bool) (prof : Option Nat) (s : State) : State :=
  if 48 ≤ n then s
  else
    let p := prof.getD (if on then s.fld (R.ISL_PLEN n) F.ISL_PLEN.DEF_ON else s.fld (R.ISL_PLEN n) F.ISL_PLEN.DEF_OFF)
    s.setIsl n { s.islOf n with prof := p, segs := profSegs s n p, segAt := step }

/-- The strength of the segment that runs a number of steps after the edge; after the last one its strength holds (R102). -/
def segStrength : List (Nat × Nat) → Nat → Option Nat
  | [], _ => none
  | [x], _ => some x.1
  | x :: y :: l, k => if k < 8 * x.2 then some x.1 else segStrength (y :: l) (k - 8 * x.2)

/-- The strength code at which island n drives at a step: of its profile, or of the soft turn-off (R99, R102, R134). -/
def driveStrength (s : State) (n step : Nat) : Option Nat :=
  if (s.islOf n).softEnd.isSome then some (s.fld (R.PROT_DSAT n) F.PROT_DSAT.SOFT_STR)
  else segStrength (s.islOf n).segs (step - (s.islOf n).segAt)

/-- The gate's own hardware keeps it off whatever is commanded: a low-voltage supply lock-out, not yet followed by a turn-on
edge at a high side, or a failed gate check of its half-bridge (R124 to R126); for an island a lock-out, a fault latch, a
running soft turn-off, or a lock-out not yet followed by a commanded off state (R92, R95, R134). -/
def gateBarred (s : State) (g : Nat) : Bool :=
  if 64 ≤ g then
    let c := g - 64
    s.extest || !(s.bit R.ACT_LV_STAT F.ACT_LV_STAT.VAUX_OK) ||
    (c % 2 == 0 && !(bitN (s.fld R.ACT_LV_STAT F.ACT_LV_STAT.BOOT_OK) (c / 2))) ||
    (s.islOf g).needOff || bitN (s.fld R.ACT_LV_FLAGS F.ACT_LV_FLAGS.GATE_FB) (c / 2 * 2) ||
    bitN (s.fld R.ACT_LV_FLAGS F.ACT_LV_FLAGS.GATE_FB) (c / 2 * 2 + 1)
  else lockedOut s g || latched s g || (s.islOf g).softEnd.isSome || (s.islOf g).needOff ||
    (s.islOf g).okDue.isSome

/-- The module can command the gate: a low-voltage channel always, an island while its link is up. -/
def reachable (s : State) (g : Nat) : Bool := 64 ≤ g || linkUp s g

/-- A commanded island no longer applies its fallback state (R114). -/
def leaveFallback (g : Nat) (s : State) : State :=
  if 64 ≤ g then s else s.setBit (R.ISL_STAT g) F.ISL_STAT.IN_FALLBACK false

/-- Commanding a gate off at a step, with the profile the edge carries. It also ends the wait of R95 and R125 for a
commanded off state. -/
def gateOffP (prof : Option Nat) (g step : Nat) (s : State) : State :=
  let x := s.islOf g
  let s := s.setIsl g { x with cmdOn := false, offStep := if x.cmdOn then step else x.offStep, needOff := false }
  if reachable s g then
    let s := if gateOn s g then startProf g step false prof s else s
    leaveFallback g (setGate g step false s)
  else s

/-- Commanding a gate off at a step with the island's default profile. -/
def gateOff (g step : Nat) (s : State) : State := gateOffP none g step s

/-- A gate counts as on for the interlock at a step: from its commanded on-edge until 20 ns after its commanded off-edge
(R143), and an island without a link for as long as it holds an on fallback and no latch (R147). -/
def countsOn (s : State) (g step : Nat) : Bool :=
  let x := s.islOf g
  x.cmdOn || (decide (0 < x.offStep) && decide (step < x.offStep + 32)) ||
    (decide (g < 48) && !linkUp s g && fbOn s g && !latched s g)

/-- Recording a suppression in unit k (R145). -/
def shootBlock (k : Nat) (s : State) : State :=
  let s := (s.setFld R.PROT_IL_COUNT F.PROT_IL_COUNT.LAST_UNIT k).incFld R.PROT_IL_COUNT F.PROT_IL_COUNT.COUNT 1
  let s := (s.setBitAt R.PROT_IL_FLAGS F.PROT_IL_FLAGS.UNIT k true).setBit R.PROT_FLAGS F.PROT_FLAGS.SHOOT_BLOCK true
  let u := s.unitOf k
  if (match u.lastShoot with | none => true | some t => decide (t + 2000000 ≤ s.dt)) then
    (s.setUnit k { u with lastShoot := some s.dt }).raise EV.SHOOT_BLOCK k []
  else s

/-- The unit is exempt from the interlock: a series pair (R89), or a unit with one gate (R87). -/
def ilExempt (s : State) (k : Nat) : Bool :=
  unitMode s k == 2 || (gatesOf s k).1 == 63 || (gatesOf s k).2 == 63

/-- An island still applies its fallback state (R114). -/
def inFallback (s : State) (g : Nat) : Bool := decide (g < 48) && s.bit (R.ISL_STAT g) F.ISL_STAT.IN_FALLBACK

/-- Commanding a gate on at a step, with the profile the edge carries: the interlock first (R143, R144), then what the gate's
own hardware allows. A gate already commanded on sees no edge, unless its island still applies its fallback state; so a
channel held off by a failed gate check while its command stands on is driven again at its next turn-on edge only
(DESIGN CHOICE, assumption 92). -/
def gateOnP (prof : Option Nat) (g step : Nat) (s : State) : State :=
  match unitOfGate s g with
  | none => s
  | some k =>
    let q := partner s g
    let x := s.islOf g
    let same := match q with | some h => (s.islOf h).cmdOn && (s.islOf h).onStep == step && !ilExempt s k | none => false
    let block := match q with | some h => !ilExempt s k && countsOn s h step | none => false
    if x.cmdOn && !inFallback s g then s
    else if same then
      let s := match q with | some h => shootBlock k (gateOff h step s) | none => s
      shootBlock k (s.setIsl g { s.islOf g with cmdOn := false })
    else if block then shootBlock k (s.setIsl g { x with cmdOn := false })
    else
      let s := s.setIsl g { x with cmdOn := true, onStep := if x.cmdOn then x.onStep else step }
      if reachable s g && !gateBarred s g then
        leaveFallback g (setGate g step true (if gateOn s g then s else startProf g step true prof s))
      else s

/-- Commanding a gate on at a step with the island's default profile. -/
def gateOnCmd (g step : Nat) (s : State) : State := gateOnP none g step s

/-- Commanding a list of gates off now. -/
def gatesOff (gs : List Nat) (s : State) : State := forEach gs (fun g s => gateOff g (8 * s.dt) s) s

/-- Commanding a list of gates on now. -/
def gatesOn (gs : List Nat) (s : State) : State := forEach gs (fun g s => gateOnCmd g (8 * s.dt) s) s

/-- Converter k is held by R137 or R138. A converter without a host enable bit is held until the module has passed through
READY, a covering run has passed and, for a chopper, its fault is cleared; from then on it may count as enabled, and the
boundary at which it does ends the hold. -/
def protHolds (s : State) (k : Nat) : Bool :=
  let x := s.convOf k
  let kind := kindOf s k
  bitN (s.fld R.PROT_STAT F.PROT_STAT.CONV_SAFE) k &&
    !(kind != 0 && kind != 5 && x.ready && x.passed && (kind != 2 || x.cleared))

/-- Both sides of a unit off now, its scheduled edges dropped and its carries cleared (R186). -/
def unitDark (k : Nat) (s : State) : State :=
  let u := s.unitOf k
  let s := s.setUnit k { u with edges := [], next := [], carryH := 0, carryL := 0, pulseH := none, pulseL := none }
  let s := (s.setFld (R.PWM_HB_CARRY k) F.PWM_HB_CARRY.CARRY_H 0).setFld (R.PWM_HB_CARRY k) F.PWM_HB_CARRY.CARRY_L 0
  gatesOff (gatesOfUnits s [k]) (s.setBit (R.PWM_HB_STAT k) F.PWM_HB_STAT.EN false)

/-- Forcing ends: with it the switches of the unit forced are off (R77, R208, R419). -/
def forceEnd (s : State) : State :=
  if s.bit R.PWM_FORCE F.PWM_FORCE.EN then
    gatesOff (gatesOfUnits s [s.fld R.PWM_FORCE F.PWM_FORCE.UNIT]) (s.setBit R.PWM_FORCE F.PWM_FORCE.EN false)
  else s

/-- Every unit of a converter off now. -/
def convDark (c : Nat) (s : State) : State := forEach (unitsOf s c) unitDark s

/-- Both carries of every unit clear (R192). -/
def carriesClear (s : State) : State :=
  forEach (List.range 33) (fun k s =>
    let s := s.setUnit k { s.unitOf k with carryH := 0, carryL := 0 }
    (s.setFld (R.PWM_HB_CARRY k) F.PWM_HB_CARRY.CARRY_H 0).setFld (R.PWM_HB_CARRY k) F.PWM_HB_CARRY.CARRY_L 0) s

end Sys2Proof.Machine
end

