-- ==== Sys2Proof/Machine/Link.lean ====
section
/-! DEFINITION. The link supervisor's continuous part: the slots it fills, the DC-DC's mode in force, the chopper's
availability, and the inhibit of regeneration (R402, R405, R406, R409, R416 to R418). It runs in D0, so it is evaluated
within the step that changes one of its inputs. -/

namespace Sys2Proof.Machine

/-- floor(n / d + 1/2) for a positive divisor. -/
def ndiv (n d : Int) : Int := if d = 0 then 0 else (2 * n + d) / (2 * d)

/-- The declared converters of a kind. -/
def convsKind (s : State) (kind : Nat) : List Nat := ((convs s).filter fun c => c.kind == kind).map (·.index)

/-- The chopper, when one is declared. -/
def chopper (s : State) : Option Nat := (convsKind s 2).head?

/-- The unit of the chopper. -/
def chopUnit (s : State) : Option Nat := (chopper s).bind fun c => (unitsOf s c).head?

/-- The chopper's high and low islands. -/
def chopIsls (s : State) : Option (Nat × Nat) := (chopUnit s).map (gatesOf s)

/-- The chopper's declared fault (R411, R412). -/
def chopFault (s : State) : Nat := s.fld R.DCL_CHOP_STAT F.DCL_CHOP_STAT.FAULT

/-- R409 but for the mode and the heat. -/
def chopSound (s : State) : Bool :=
  match chopper s with
  | none => false
  | some c => chopFault s == 0 && !bitN (s.fld R.PROT_STAT F.PROT_STAT.CONV_SAFE) c &&
    ((gatesOfConv s c).filter (· < 48)).all (fun n => !impaired s n)

/-- R409: the chopper is available. -/
def chopAvail (s : State) : Bool :=
  chopSound s && !s.bit R.DCL_CHOP_STAT F.DCL_CHOP_STAT.THERMAL && (s.mode == Mode.drive || s.mode == Mode.charge)

/-- A register of the link block, a field. -/
def dclF (s : State) (i : Nat) (f : Fld) : Int := s.fld i f

/-- The DC-DC is held (R138). -/
def dcdcHeld (s : State) : Bool := (convsKind s 1).any fun c => protHolds s c

/-- The DC-DC's mode in force (R138, R405, R417, R452, R681): 0 OFF, 1 LINK, 2 BATT. -/
def dcdcMode (s : State) : Nat :=
  if dcdcHeld s then 0
  else if s.bit R.DCL_STAT F.DCL_STAT.REGEN_INH || s.pairUse.hold then 1
  else if s.mode = Mode.charge then (if s.dcl.follow then 2 else 1)
  else s.fld R.DCL_DCDC_CTRL F.DCL_DCDC_CTRL.MODE % 4

/-- A value in volts or amperes, times a factor over a divisor, per unit of a base (R402), within Q8.31 (R11). -/
def perUnit (num den base : Int) : Reg := BitVec.ofInt 40 (clampI (-(2 ^ 39)) (2 ^ 39 - 1) (ndiv (num * 2 ^ 31) (den * base)))

/-- While a stop ramps the set-points to zero (R68), the share of a set-point still in force, as a fraction of `RAMP`. -/
def stopShare (s : State) : Int × Int :=
  match s.trans with
  | some t => if t.stop then
      let ramp : Int := 200000 * s.fld R.DEV_SHUT_CFG F.DEV_SHUT_CFG.RAMP
      (max 0 (ramp - (s.dt - t.began : Nat)), max 1 ramp)
    else (1, 1)
  | none => (1, 1)

/-- A torque, current or power set-point scaled by the stop's ramp. -/
def ramped (s : State) (v : Int) : Int := let r := stopShare s; if r.1 = r.2 then v else ndiv (v * r.1) r.2

/-- R402: slots SP16 to SP23 and the mode in force read anew. -/
def dclSlots (s : State) : State :=
  let vb := dclF s R.DCL_BASE F.DCL_BASE.VBASE
  let ib := dclF s R.DCL_BASE F.DCL_BASE.IBASE
  let inh := s.bit R.DCL_STAT F.DCL_STAT.REGEN_INH
  let mode := dcdcMode s
  let vref := dclF s R.DCL_DCDC_VREF F.DCL_DCDC_VREF.VREF
  let top := dclF s R.DCL_THR F.DCL_THR.VCHOP - dclF s R.DCL_HYS F.DCL_HYS.HYS
  let ich := if inh then dclF s R.DCL_DCDC_LIM F.DCL_DCDC_LIM.ICH_ABS else dclF s R.DCL_DCDC_LIM F.DCL_DCDC_LIM.ICH
  let was := s.fld R.DCL_STAT F.DCL_STAT.DCDC_MODE
  let s := s.setFld R.DCL_STAT F.DCL_STAT.DCDC_MODE mode
  let s := if mode = 1 ∧ was ≠ 1 then { s with dcl := { s.dcl with linkAt := s.dt } } else s
  let s := forEach (convsKind s 1) (fun c s => s.setConv c { s.convOf c with en := mode != 0 && !(s.convOf c).off }) s
  let s := s.setSp 16 (perUnit (vlink s) 2 vb)
  let s := s.setSp 17 (if inh then 0 else BitVec.ofInt 40 (2 ^ 31))
  let s := s.setSp 18 (BitVec.ofInt 40 (mode * 2 ^ 31))
  let s := s.setSp 19 (perUnit (if inh then min vref top else vref) 1 vb)
  let s := s.setSp 20 (perUnit ich 1 ib)
  let s := s.setSp 21 (perUnit (dclF s R.DCL_DCDC_LIM F.DCL_DCDC_LIM.IDIS) 1 ib)
  let s := s.setSp 22 (if inh then BitVec.ofInt 40 (2 ^ 31) else 0)
  let iref := sx 13 (s.fld R.DCL_DCDC_IREF F.DCL_DCDC_IREF.IREF)
  s.setSp 23 (if s.mode = Mode.charge then BitVec.ofInt 40 (ramped s s.dcl.sp23)
    else BitVec.ofInt 40 (ramped s (perUnit iref 1 ib).toInt))

/-- R418: the inhibit and absorb end. FOLLOW resumes from 0 (R452). -/
def regenEnds (s : State) : State :=
  if !s.bit R.DCL_STAT F.DCL_STAT.REGEN_INH then s
  else
    let s := (s.setBit R.DCL_STAT F.DCL_STAT.REGEN_INH false).setBit R.DCL_STAT F.DCL_STAT.ABSORB false
    let s := { s with dcl := { s.dcl with regenDue := none, sp23 := 0 }, chg := { s.chg with acc := 0 } }
    (dclSlots s).raise EV.REGEN_PERMIT 0xFF []

/-- R416, R417: regeneration is inhibited and absorb begins. -/
def regenBegins (s : State) : State :=
  if s.bit R.DCL_STAT F.DCL_STAT.REGEN_INH then s
  else
    let s := (s.setBit R.DCL_STAT F.DCL_STAT.REGEN_INH true).setBit R.DCL_STAT F.DCL_STAT.ABSORB true
    let s := s.setBit R.DCL_FLAGS F.DCL_FLAGS.REGEN_INH true
    (dclSlots s).raise EV.REGEN_INHIBIT 0xFF []

/-- A discharge ends without reaching its goal: the module stays in READY (R72, R423). -/
def dischargeStops (s : State) : State :=
  let s := { s with discharging := false, trans := none }
  let s := (s.setBit R.DEV_MODE F.DEV_MODE.TRANSIT false).setFld R.DEV_MODE F.DEV_MODE.TARGET Mode.ready
  let s := match chopper s with | some c => convDark c (s.setConv c { s.convOf c with en := false }) | none => s
  s.raise EV.DISCHARGE_SLOW 0xFF []

/-- The link supervisor's evaluation after a change of its inputs: the chopper's enable and availability, the inhibit,
a discharge that has lost its chopper, and the slots. A partner's shared chopper counts for the inhibit (R682). -/
def linkEval (s : State) : State :=
  let inDrive := s.mode == Mode.drive || s.mode == Mode.charge
  let s := forEach (convsKind s 2) (fun c s =>
    s.setConv c { s.convOf c with en := (inDrive && !(s.convOf c).off) || (s.discharging && s.mode == Mode.ready) }) s
  let av := chopAvail s
  let s := s.setBit R.DCL_CHOP_STAT F.DCL_CHOP_STAT.AVAIL av
  let s := if s.discharging && s.mode == Mode.ready && !chopSound s then dischargeStops s else s
  if av || s.pairUse.chop then dclSlots (regenEnds s)
  else if s.bit R.DCL_STAT F.DCL_STAT.CHOP_CMP then dclSlots (regenBegins s)
  else dclSlots s

/-- R395: the monitor's reading, in units of 0.5 V. It also keeps how long the link has stood within ±5 % of `VREF`,
and a departure during a handover sets HO_DEV at its tick (R454). -/
def setVlink (v : Nat) (s : State) : State :=
  let s := s.setFld R.DCL_STAT F.DCL_STAT.VLINK v
  let vref : Nat := s.fld R.DCL_DCDC_VREF F.DCL_DCDC_VREF.VREF
  let near := decide (95 * 2 * vref ≤ 100 * v ∧ 100 * v ≤ 105 * 2 * vref)
  let s := { s with dcl := { s.dcl with nearAt := if near then s.dcl.nearAt <|> some s.dt else none } }
  let s := if !near && s.fld R.CHG_STAT F.CHG_STAT.SESSION == 3 then
      let s := { s with chg := { s.chg with dev := true } }
      (s.setBit R.CHG_FLAGS F.CHG_FLAGS.HO_DEV true).setBit R.CHG_IRQ_STAT F.CHG_IRQ_STAT.FLAG true
    else s
  s.setSp 16 (perUnit (vlink s) 2 (dclF s R.DCL_BASE F.DCL_BASE.VBASE))

end Sys2Proof.Machine
end

