-- ==== Sys2Proof/Machine/Selector.lean ====
section
/-! DEFINITION. The safe-state selector (R148 to R157, R697), entry to SAFE (R76, R77) and escalation (R158), which act
over the L0 paths and meet in one place because each may lead to the other. -/

namespace Sys2Proof.Machine

/-- An island without a link that holds an on fallback (R153). -/
def lostFb (s : State) (n : Nat) : Bool := !linkUp s n && fbOn s n

/-- The same with no fault latch (R697). -/
def lostOn (s : State) (n : Nat) : Bool := lostFb s n && !latched s n

/-- Faulted or impaired islands of the machine on the high side, and on the low side. -/
def impHs (s : State) (m : Nat) : List Nat := (machIsls s m).filter fun n => impaired s n && gateHigh s n
/-- Faulted or impaired islands of the machine on the low side. -/
def impLs (s : State) (m : Nat) : List Nat := (machIsls s m).filter fun n => impaired s n && !gateHigh s n

/-- A channel's speed is unknown: no source, or older than 1 ms (R148). -/
def speedUnknown (s : State) (m : Nat) : Bool :=
  s.fld (R.PROT_SS_SPEED m) F.PROT_SS_SPEED.SRC == 0 ||
  match (s.selOf m).fresh with
  | none => true
  | some t => decide (t + 200000 < s.dt)

/-- The speed is at or above N_AS, or unknown. -/
def atOrAboveNas (s : State) (m : Nat) : Bool :=
  speedUnknown s m ||
    decide (s.fld (R.PROT_SS_CFG m) F.PROT_SS_CFG.N_AS ≤ s.fld (R.PROT_SS_SPEED m) F.PROT_SS_SPEED.SPEED)

/-- The fault class of a machine (R150): 0 none, 1 single, 2 two-leg, 3 impairment only. -/
def faultClass (s : State) (m : Nat) : Nat :=
  if (machIsls s m).any (faulted s) then (if (s.selOf m).twoLeg then 2 else 1)
  else if (machIsls s m).any (impaired s) then 3 else 0

/-- The matching row of R151, with the hold of R152. -/
def selRow (s : State) (m : Nat) : Nat :=
  if atOrAboveNas s m || (s.selOf m).held then 1
  else if s.bit R.DCL_STAT F.DCL_STAT.OV1 && faultClass s m != 2 then 2
  else if faultClass s m = 2 then 3 else 4

/-- The result: active short for rows 1 and 2 (R151). -/
def selShort (row : Nat) : Bool := row = 1 || row = 2

/-- The side of an active short (R153), 1 for high, and whether a lost island locks it. With several lost islands the first in
the machine's order gives the side (DESIGN CHOICE, assumption 91). -/
def selSide (s : State) (m : Nat) : Nat × Bool :=
  match (machIsls s m).find? (lostFb s) with
  | some n => (b2n (gateHigh s n), true)
  | none =>
    let h := (impHs s m).length
    let l := (impLs s m).length
    if h = 0 ∧ l = 0 then (s.fld (R.PROT_SS_CFG m) F.PROT_SS_CFG.SIDE_PREF, false)
    else if h = 0 then (1, false)
    else if l = 0 then (0, false)
    else (if h < l then 1 else 0, false)

/-- The machine's islands of one side. -/
def sideIsls (s : State) (m side : Nat) : List Nat := (machIsls s m).filter fun n => b2n (gateHigh s n) == side

/-- Reloading the fallback state of every reachable island (R156). -/
def selReload (m : Nat) (s : State) : State :=
  let short := s.bit (R.PROT_SS_STAT m) F.PROT_SS_STAT.RESULT
  let side := s.fld (R.PROT_SS_STAT m) F.PROT_SS_STAT.SIDE
  forEach (machIsls s m) (fun n s =>
    if linkUp s n then s.setBit (R.ISL_STAT n) F.ISL_STAT.FB_ON (short && b2n (gateHigh s n) == side && !impaired s n)
    else s) s

/-- A machine in its short has impaired islands on both sides and no locked side, or no longer has (R153). -/
def selDegraded (m : Nat) (s : State) : State :=
  let x := s.selOf m
  let d := !(selSide s m).2 && !(impHs s m).isEmpty && !(impLs s m).isEmpty
  let s' := s.setSel m { x with degr := d }
  if d && !x.degr then (s'.setBit R.PROT_FLAGS F.PROT_FLAGS.SS_DEGRADED true).raise EV.SS_DEGRADED m [] else s'

/-- Commanding the unimpaired islands of the shorting side on (R154); one that has been in lock-out since the machine was
put into its safe state stays off (R155). -/
def selBuild (m : Nat) (s : State) : State :=
  let side := s.fld (R.PROT_SS_STAT m) F.PROT_SS_STAT.SIDE
  let s := gatesOn ((sideIsls s m side).filter (fun n => !impaired s n && linkUp s n && !bitN (s.selOf m).off n)) s
  let s := s.setSel m { s.selOf m with swapDue := none, shorted := true }
  selDegraded m s

/-- Commanding what the selector's result asks of an applied machine (R152, R154): freewheel turns every reachable
island off; a short first turns off what is on outside its side, commanded or by its fallback, and waits SWAP_DT from that
off-edge. -/
def selCommand (m : Nat) (s : State) : State :=
  if s.bit (R.PROT_SS_STAT m) F.PROT_SS_STAT.RESULT then
    let side := s.fld (R.PROT_SS_STAT m) F.PROT_SS_STAT.SIDE
    let outside := (machIsls s m).filter fun n => b2n (gateHigh s n) != side &&
      ((s.islOf n).cmdOn || (linkUp s n && gateOn s n))
    if outside.isEmpty then
      match (s.selOf m).swapDue with
      | some _ => s
      | none => selBuild m s
    else
      let s := gatesOff outside s
      s.setSel m { s.selOf m with swapDue := some (s.dt + s.fld (R.PROT_SS_CFG m) F.PROT_SS_CFG.SWAP_DT), shorted := false }
  else
    let s := gatesOff (machIsls s m) s
    s.setSel m { s.selOf m with swapDue := none, shorted := false, degr := false }

/-- The machine's islands for which p holds, as a bitmap. -/
def islMask (s : State) (m : Nat) (p : Nat → Bool) : Nat := ((machIsls s m).filter p).foldl setBitN 0

/-- What the selector remembers, brought up to date: the hold of R152, a fault class that has ended (R150), and the islands
in lock-out since the application began (R155). -/
def selRemember (m : Nat) (s : State) : State :=
  let x := s.selOf m
  let above := atOrAboveNas s m
  let nas := s.fld (R.PROT_SS_CFG m) F.PROT_SS_CFG.N_AS
  let low := !speedUnknown s m && decide (10 * s.fld (R.PROT_SS_SPEED m) F.PROT_SS_SPEED.SPEED < 9 * nas)
  let below := if low then (match x.below with | some t => some t | none => some s.dt) else none
  let held := above || (x.held && (match below with | some t => decide (s.dt < t + 2000000) | none => true))
  let some_ := (machIsls s m).any (faulted s)
  let off := if s.bit (R.PROT_SS_STAT m) F.PROT_SS_STAT.APPLIED then x.off ||| islMask s m (lockedOut s) else 0
  s.setSel m { x with held := held, below := below, off := off, twoLeg := x.twoLeg && some_,
                      first := if some_ then x.first else none }

/-- The side of the short (R153). Of a short in force it changes only where an island on the shorting side has become
impaired since the last evaluation, or a lost island locks the other side (R154). -/
def selSideNow (s : State) (m : Nat) (short : Bool) : Nat × Bool :=
  let (side, lock) := selSide s m
  let old := s.fld (R.PROT_SS_STAT m) F.PROT_SS_STAT.SIDE
  let built := s.bit (R.PROT_SS_STAT m) F.PROT_SS_STAT.APPLIED && short && s.bit (R.PROT_SS_STAT m) F.PROT_SS_STAT.RESULT
  let fresh := (sideIsls s m old).any fun n => impaired s n && !bitN (s.selOf m).imp n
  (if built && !lock && !fresh then old else side, lock)

/-- The selector's continuous evaluation of channel m (R151 to R157): its row, result, side and impairments are read
anew, the fallback states are reloaded, and a change on an applied machine commands its islands. A side that SERVICE forces
while the hand-back still waits follows the last of the two to command it (DESIGN CHOICE, assumption 91). -/
def selEval (m : Nat) (s : State) : State :=
  let s := selRemember m s
  let row := selRow s m
  let short := selShort row
  let (side, lock) := selSideNow s m short
  let oldShort := s.bit (R.PROT_SS_STAT m) F.PROT_SS_STAT.RESULT
  let oldSide := s.fld (R.PROT_SS_STAT m) F.PROT_SS_STAT.SIDE
  let i := R.PROT_SS_STAT m
  let s := ((s.setFld i F.PROT_SS_STAT.ROW row).setFld i F.PROT_SS_STAT.CLASS (faultClass s m)).setBit i F.PROT_SS_STAT.RESULT short
  let s := (s.setFld i F.PROT_SS_STAT.SIDE side).setBit i F.PROT_SS_STAT.SIDE_LOCK lock
  let s := (s.setFld i F.PROT_SS_STAT.IMP_HS (impHs s m).length).setFld i F.PROT_SS_STAT.IMP_LS (impLs s m).length
  let s := s.setBit i F.PROT_SS_STAT.STALE (speedUnknown s m)
  let s := s.setSel m { s.selOf m with imp := islMask s m (impaired s) }
  let applied := s.bit i F.PROT_SS_STAT.APPLIED
  let s :=
    if applied && short && oldShort && side != oldSide then (selCommand m s).raise EV.SS_SWAP m []
    else if applied && (short != oldShort || !short) then selCommand m s
    else s
  let s := if applied && short then (if (s.selOf m).swapDue.isNone then selDegraded m s else s)
    else s.setSel m { s.selOf m with degr := false }
  selReload m s

/-- Both channels evaluated. -/
def selEvalAll (s : State) : State := selEval 1 (selEval 0 s)

/-- Putting a machine under the selector for a cause (R187): its units' edges are discarded and the selector commands
its islands. -/
def selHold (m why : Nat) (s : State) : State :=
  let x := s.selOf m
  let s := s.setSel m { x with why := setBitN x.why why, back := false }
  let s := selEval m s
  if s.bit (R.PROT_SS_STAT m) F.PROT_SS_STAT.APPLIED then s
  else
    let s := s.setBit (R.PROT_SS_STAT m) F.PROT_SS_STAT.APPLIED true
    let us := match machConv s m with | some c => unitsOf s c | none => []
    let s := forEach us (fun k s =>
      (s.setUnit k { s.unitOf k with edges := [], next := [] }).setBit (R.PWM_HB_STAT k) F.PWM_HB_STAT.SELECTOR true) s
    selCommand m (selRemember m s)

/-- A cause of the application ends; with none left the hand-back takes effect at the machine's next boundary (R187). -/
def selDrop (m why : Nat) (s : State) : State :=
  let x := s.selOf m
  let w := clrBitN x.why why
  s.setSel m { x with why := w, back := w == 0 && s.bit (R.PROT_SS_STAT m) F.PROT_SS_STAT.APPLIED }

/-- A machine is in its safe state through protection (R158): bits 0 to 5 of the causes. -/
def protHeld (s : State) (m : Nat) : Bool := (s.selOf m).why % 64 != 0

/-! ### Held requests and SAFE entry -/

/-- What is held, shown in `DEV_QUEUED`. -/
def showHeld (s : State) : State :=
  let s := s.setFld R.DEV_QUEUED F.DEV_QUEUED.MODE_REQ (match s.heldMode with | some h => 8 + h.what % 8 | none => 0)
  s.setFld R.DEV_QUEUED F.DEV_QUEUED.FUNC (s.heldFn.foldl (fun a p => setBitN a p.1) 0)

/-- Reporting a held request that is dropped (R74 to R76): its session, sequence and the status it would have received. -/
def dropHeld (h : Held) (status : Nat) (s : State) : State :=
  s.raise EV.QUEUED_DROPPED 0xFF [(1, h.req.session), (1, h.req.seq), (1, status)]

/-- Dropping everything held. -/
def dropAll (status : Nat) (s : State) : State :=
  let hs := (match s.heldMode with | some h => [h] | none => []) ++ s.heldFn.map (·.2)
  let s := showHeld { s with heldMode := none, heldFn := [] }
  forEach hs (fun h s => dropHeld h status s) s

/-- Every verdict ends, and a run in progress with them: the module has left READY, DRIVE and CHARGE (R57). -/
def verdictsEnd (s : State) : State :=
  let s := forEach (convs s) (fun c s => endVerdict c.index s) s
  (s.setBit R.PROT_PRE_STAT F.PROT_PRE_STAT.RUNNING false).setBit R.PROT_PRE_STAT F.PROT_PRE_STAT.RAIL_PENDING false

/-- Putting a mode in force (R46): `DEV_MODE`, EV_MODE with the old and new mode and FORCED_OFF, and its audit entry
(R578, R583); the carries clear (R192). -/
def putMode (new : Nat) (forced : Bool) (r : Req) (s : State) : State :=
  let old := s.mode
  let s := ((s.setFld R.DEV_MODE F.DEV_MODE.MODE new).setFld R.DEV_MODE F.DEV_MODE.TARGET new).setBit R.DEV_MODE F.DEV_MODE.TRANSIT false
  let s := carriesClear { s with trans := none }
  let s := if new = Mode.ready ∨ new = Mode.drive ∨ new = Mode.charge then s else verdictsEnd s
  let s := s.auditAdd (auditOf r 3 0x0020 0 old new 0)
  linkEval (s.raise EV.MODE 0xFF [(1, old), (1, new), (1, b2n forced)])

/-- Every converter but the traction machines turned off (R38). -/
def stagesOff (s : State) : State :=
  forEach (convs s) (fun c s =>
    let x := s.convOf c.index
    let s := s.setConv c.index { x with en := false, off := true }
    if c.kind = 0 then s else convDark c.index s) s

/-- The actuators under the short-circuit brake (R39): every low-voltage low side on, every high side off, for 100 ms;
`EN` of every actuator is cleared (R471). -/
def lvBrakeAll (s : State) : State :=
  let us := (List.range 9).map (· + 24)
  let s := forEach us (fun k s => s.setUnit k { s.unitOf k with edges := [], next := [] }) s
  let s := gatesOff (us.map fun k => (gatesOf s k).1) s
  let s := { s with lvEnd := some (s.dt + 20000000) }
  let s := forEach [0, 1, 2] (fun a s => s.setBit (R.ACT_A_CTRL a) F.ACT_A_CTRL.EN false) s
  gatesOn (us.map fun k => (gatesOf s k).2) s

/-- SAFE entered (R77): nFAULT is driven, each machine goes to its selected safe state and every other stage is off, held
requests are discarded, and EV_SAFE_ENTRY names the causes. -/
def safeEntry (r : Req) (s : State) : State :=
  let s := gloveResume { s with nfault := true, service := 0, discharging := false }
  let s := stagesOff (forceEnd s)
  let s := selHold 1 Why.safe (selHold 0 Why.safe s)
  let s := lvBrakeAll s
  let s := s.setBit R.CMD_IRQ_STAT F.CMD_IRQ_STAT.SAFE true
  let s := s.raise EV.SAFE_ENTRY 0xFF [(2, s.fld R.DEV_SAFE_CAUSE ⟨11, 0⟩)]
  dropAll St.wrongMode (putMode Mode.safe false r s)

/-- Entry to SAFE over the L0 paths (R76, R77): the causes are recorded; from any mode but STANDBY, outside the boot
sequence, nFAULT is driven, each machine goes to its selected safe state and every other stage is off, held requests
are discarded, and EV_SAFE_ENTRY names the causes. During boot the causes only decide how boot ends (R41). -/
def enterSafe (causes : Nat) (r : Req) (s : State) : State :=
  if s.mode = Mode.standby then s
  else
    let s := s.setFld R.DEV_SAFE_CAUSE ⟨11, 0⟩ (s.fld R.DEV_SAFE_CAUSE ⟨11, 0⟩ ||| causes)
    if s.mode = Mode.safe then
      if s.bit R.DEV_MODE F.DEV_MODE.TRANSIT then
        let s := (s.setBit R.DEV_MODE F.DEV_MODE.TRANSIT false).setFld R.DEV_MODE F.DEV_MODE.TARGET Mode.safe
        dropAll St.wrongMode { s with trans := none }
      else s
    else if s.mode = Mode.boot then s
    else
      safeEntry r s

/-- The causes of `DEV_SAFE_CAUSE` as bits. -/
abbrev Cause.cmd : Nat := 1
abbrev Cause.sto : Nat := 2
abbrev Cause.stoDiscrep : Nat := 4
abbrev Cause.glove : Nat := 8
abbrev Cause.prot : Nat := 16
abbrev Cause.ov2 : Nat := 32
abbrev Cause.clock : Nat := 64
abbrev Cause.vanaLow : Nat := 128
abbrev Cause.warmReset : Nat := 256
abbrev Cause.islandHeld : Nat := 512
abbrev Cause.link60 : Nat := 1024
abbrev Cause.bootFail : Nat := 2048

/-- The escalation conditions of R158, read after a switch fault or a protective application: `mach` and `conv` say a
switch fault struck a traction machine or another converter. -/
def escalate (mach conv : Bool) (s : State) : State :=
  let two := (faultClass s 0 == 2 || faultClass s 1 == 2) && s.bit R.PROT_CFG F.PROT_CFG.ESC_TWO_LEG && mach
  let both := protHeld s 0 && protHeld s 1 && s.bit R.PROT_CFG F.PROT_CFG.ESC_BOTH
  if two || both || (mach && s.bit R.PROT_CFG F.PROT_CFG.ESC_MACH) || (conv && s.bit R.PROT_CFG F.PROT_CFG.ESC_CONV) then
    enterSafe Cause.prot reqInternal s
  else s

/-- Putting a machine under the selector through protection, and escalating where that is enabled (R158). -/
def protHold (m why : Nat) (s : State) : State := escalate false false (selHold m why s)

/-- A converter taken off through protection: a traction machine goes to the selector, any other is dark. -/
def convProtect (c why : Nat) (s : State) : State :=
  match chanOf s c with
  | some m => protHold m why s
  | none => convDark c s

end Sys2Proof.Machine
end

