-- ==== Sys2Proof/Machine/Islands.lean ====
section
/-! DEFINITION. The gate islands' own events (R91 to R96, R109 to R114, R61): supplies, link, calibration, fallback. -/

namespace Sys2Proof.Machine

/-- Raising an island's event, unless the description leaves the island unused (R90, R129). -/
def islRaise (code n : Nat) (s : State) : State := if islUsed s n then s.raise code n [] else s

/-- The verdict of the island's converter ends (R57). -/
def verdictEnds (n : Nat) (s : State) : State :=
  match convOfIsl s n with
  | some c => endVerdict c s
  | none => s

/-- The selector re-evaluates the machine an island belongs to (R150, R157), and the link supervisor its chopper (R409). -/
def selOfIsl (n : Nat) (s : State) : State :=
  let s := if (convOfIsl s n).any (fun c => kindOf s c == 2) then linkEval s else s
  match (convOfIsl s n).bind (chanOf s) with
  | some m => selEval m s
  | none => s

/-- The lock-out entries of the last second with one more now (R96). -/
def lockNow (s : State) (n : Nat) : List Nat :=
  s.dt :: ((s.islOf n).locks.filter fun t => decide (s.dt < t + 200000000))

/-- The sequence monitor's report (R96). -/
def seqReport (n : Nat) (s : State) : State := islRaise EV.ISL_SEQ n (s.setBit (R.ISL_FLAGS n) F.ISL_FLAGS.SEQ_ERR true)

/-- The interior hears an island's lock-out (R84, R93): the flags of the supplies, and the events; `was` says the island was
in lock-out before. What a silent link held back is told as it is up again, if it still lasts (assumption 84). -/
def lockHeard (n : Nat) (vdd vee was : Bool) (s : State) : State :=
  let s := if vdd then s.setBit (R.ISL_FLAGS n) F.ISL_FLAGS.VDD_UV true else s
  let s := if vee then s.setBit (R.ISL_FLAGS n) F.ISL_FLAGS.VEE_UV true else s
  let s := if islUsed s n then s.raise EV.SUPPLY_LOW 0xFF [] else s
  if was then s else islRaise EV.ISL_LOCKOUT n s

/-- R91 to R93, R96: a supply crosses its lock-out threshold; the clamp path turns the gate off, whatever drove it, and the
lane reports it once the link carries it. -/
def islLockout (n : Nat) (vdd vee : Bool) (s : State) : State :=
  let was := lockedOut s n
  let i := R.ISL_STAT n
  let s := if vdd then s.setBit i F.ISL_STAT.VDD_OK false else s
  let s := if vee then s.setBit i F.ISL_STAT.VEE_OK false else s
  if !vdd && !vee then s
  else
    let locks := if was then (s.islOf n).locks else lockNow s n
    let s := s.setIsl n { s.islOf n with okDue := none, locks := locks, segs := [] }
    let s := setGate n (8 * s.dt) false (s.setBit i F.ISL_STAT.LOCKOUT true)
    let s := verdictEnds n s
    let x := s.islOf n
    let s := if linkUp s n then lockHeard n vdd vee was s
      else s.setIsl n { x with uvVdd := x.uvVdd || vdd, uvVee := x.uvVee || vee }
    let s := if !was && decide (8 < locks.length) then seqReport n s else s
    selOfIsl n s

def execIslLockoutEntry (e : Nat) (n : Fin 48) (vdd vee : Bool) (s : State) : Host.Outcome State Fault Refusal :=
  .next (islLockout n vdd vee (s.tick e))

/-- R91, R95: a supply rises above its release threshold; with both good the 100 µs start. -/
def islRelease (n : Nat) (vdd vee : Bool) (s : State) : State :=
  let i := R.ISL_STAT n
  let s := if vdd then s.setBit i F.ISL_STAT.VDD_OK true else s
  let s := if vee then s.setBit i F.ISL_STAT.VEE_OK true else s
  if lockedOut s n && s.bit i F.ISL_STAT.VDD_OK && s.bit i F.ISL_STAT.VEE_OK then
    let s := clampShow n (s.setBit i F.ISL_STAT.LOCKOUT false)
    let x := s.islOf n
    selOfIsl n (s.setIsl n { x with okDue := some (s.el + 20000), needOff := x.cmdOn })
  else s

def execIslLockoutRelease (e : Nat) (n : Fin 48) (vdd vee : Bool) (s : State) : Host.Outcome State Fault Refusal :=
  .next (islRelease n vdd vee (s.tick e))

/-- The island applies its held fallback state (R61): off where it holds a fault latch, during a soft turn-off (R134), in
lock-out (R92) and in the 100 µs after it (R95). A gate that changes runs the island's default profile (R105). -/
def applyFallback (n : Nat) (s : State) : State :=
  let x := s.islOf n
  let on := fbOn s n && !latched s n && !lockedOut s n && x.okDue.isNone && x.softEnd.isNone
  let s := if gateOn s n == on then s else startProf n (8 * s.dt) on none s
  setGate n (8 * s.dt) on (s.setBit (R.ISL_STAT n) F.ISL_STAT.IN_FALLBACK true)

/-- R95: 100 µs with both supplies good. With the link up the gate waits for a commanded off state and a new edge; with
the link silent the fallback state is applied again. -/
def islSupplyOk (n : Nat) (s : State) : State :=
  match (s.islOf n).okDue with
  | none => s
  | some t =>
    let s := s.untilEl t
    let x := s.islOf n
    let s := s.setIsl n { x with okDue := none, needOff := x.cmdOn }
    let s := islRaise EV.ISL_SUPPLY_OK n s
    if linkUp s n then s else applyFallback n s

def execIslSupplyOk (e : Nat) (n : Fin 48) (s : State) : Host.Outcome State Fault Refusal :=
  .next (islSupplyOk n (s.tick e))

def execIslSeq (e : Nat) (n : Fin 48) (why : Fin 2) (s : State) : Host.Outcome State Fault Refusal :=
  -- why 0: VDDn good and VEEn not good for more than 10 ms; why 1: VEEn reversed for more than 10 µs (R96)
  let s := s.tick e
  let ok := s.bit (R.ISL_STAT n) F.ISL_STAT.VDD_OK && !s.bit (R.ISL_STAT n) F.ISL_STAT.VEE_OK
  .next (if why = 1 || ok then seqReport n s else s)

/-- R61: an island's own power-up: it loses its held state and its latch, and starts locked out with its gate off. What the
module commands does not change: it waits for a commanded off state (R95). -/
def islPowerUp (n : Nat) (s : State) : State :=
  let i := R.ISL_STAT n
  let s := s.setIsl n { s.islOf n with needOff := (s.islOf n).cmdOn, okDue := none, softEnd := none, det := none, segs := [] }
  let s := (s.setBit i F.ISL_STAT.FB_ON false).setBit i F.ISL_STAT.IN_FALLBACK true
  let s := (s.setBit i F.ISL_STAT.VDD_OK false).setBit i F.ISL_STAT.VEE_OK false
  let s := (s.setBit i F.ISL_STAT.LOCKOUT true).setBit (R.PROT_IST n) F.PROT_IST.LATCHED false
  selOfIsl n (setGate n (8 * s.dt) false s)

def execIslPowerUp (e : Nat) (n : Fin 48) (s : State) : Host.Outcome State Fault Refusal :=
  .next (islPowerUp n (s.tick e))

/-- The bad frames of the last 100 µs with one more now (R112). -/
def badNow (s : State) (n : Nat) : List Nat :=
  s.dt :: ((s.islOf n).bads.filter fun t => decide (s.dt < t + 20000))

/-- A step falls in the 20 ns frame that ends now. -/
def inFrame (s : State) (st : Nat) : Bool := decide (0 < st ∧ 8 * s.dt ≤ st + 32 ∧ st < 8 * s.dt)

/-- R111, R112: a frame fails its check. A downstream frame takes the 20 ns before now; an edge commanded in it, or moved
into it by the bad frame before, is made at its end instead, when the next good frame may carry it. That the frame is bad is
known at its end only, so until then `GATE` and `CLAMP` show the edge as commanded (assumption 92). -/
def islBadFrame (n : Nat) (down : Bool) (s : State) : State :=
  let s := s.incFld (R.ISL_STAT n) F.ISL_STAT.ERR_COUNT 1
  let x := s.islOf n
  let moved := down && inFrame s x.gateStep && gateOn s n == x.cmdOn
  let late := moved || (down && ((x.cmdOn && inFrame s x.onStep) || inFrame s x.offStep))
  let s := if late then s.setBit (R.ISL_FLAGS n) F.ISL_FLAGS.LATE_EDGE true else s
  let bads := badNow s n
  let many := decide (16 < bads.length)
  let end_ := 8 * s.dt
  let s := s.setIsl n { x with bads := bads, badRun := many, gateStep := if moved then end_ else x.gateStep,
                               rise := if moved && x.cmdOn then end_ else x.rise,
                               segAt := if moved && inFrame s x.segAt then end_ else x.segAt }
  if many && !(x.badRun && s.bit (R.ISL_FLAGS n) F.ISL_FLAGS.LINK_ERR) then
    islRaise EV.ISL_LINK_ERR n (s.setBit (R.ISL_FLAGS n) F.ISL_FLAGS.LINK_ERR true)
  else s

def execIslBadFrame (e : Nat) (n : Fin 48) (down : Bool) (s : State) : Host.Outcome State Fault Refusal :=
  .next (islBadFrame n down (s.tick e))

/-- A pre-start run begins (R56): every verdict gives way to the run, and a placed sequence in progress too (R257). -/
def preStart (s : State) : State :=
  let s := forEach (convs s) (fun c s => s.setConv c.index { s.convOf c.index with verdict := none, spoiled := false }) s
  let s := forEach (List.range 24) (fun k s => setVerdict k (if (unitRec s k).isSome then 0 else 2) s) s
  let s := forEach (List.range 12) seqAbandon s
  let s := (s.setBit R.PROT_PRE_STAT F.PROT_PRE_STAT.RUNNING true).setBit R.PROT_PRE_STAT F.PROT_PRE_STAT.DONE false
  (s.setBit R.PROT_PRE_STAT F.PROT_PRE_STAT.FAIL false).setBit R.PROT_PRE_STAT F.PROT_PRE_STAT.RAIL_PENDING false

/-- The run that follows calibration (R56), once no linked island is due for it any more. -/
def preAfterCal (s : State) : State :=
  if s.mode = Mode.ready ∧ s.preDue ∧ (List.range 48).all (fun n => !(linkUp s n && (s.islOf n).calDue)) then
    preStart { s with preDue := false }
  else s

/-- What an island's registers lose with its link (R115): the telemetry and the trim of the link that is gone. -/
def islForget (n : Nat) (s : State) : State :=
  let s := (s.setReg (R.ISL_TEL_VDS n) (resetReg (R.ISL_TEL_VDS n))).setReg (R.ISL_TEL_ENV n) (resetReg (R.ISL_TEL_ENV n))
  (s.setFld (R.ISL_STAT n) F.ISL_STAT.TRIM 0).setBit (R.ISL_STAT n) F.ISL_STAT.CAL_DONE false

/-- R113, R157, R697: no good upstream frame for 1 µs. A machine island that may turn on by itself puts its machine under
the selector; the selector of any machine island re-evaluates, and the link supervisor a chopper's (R409, R416). -/
def islLinkDown (n : Nat) (s : State) : State :=
  if !linkUp s n then s
  else
    let s := islForget n (s.setBit (R.ISL_STAT n) F.ISL_STAT.LINK_UP false)
    let s := islRaise EV.ISL_LINK_DOWN n (s.setBit (R.ISL_FLAGS n) F.ISL_FLAGS.LINK_DOWN true)
    preAfterCal (match (convOfIsl s n).bind (chanOf s) with
      | some m =>
        if lostOn s n then protHold m Why.lostLink (s.setSel m { s.selOf m with lost := setBitN (s.selOf m).lost n })
        else selEval m s
      | none => selOfIsl n s)

def execIslLinkDown (e : Nat) (n : Fin 48) (s : State) : Host.Outcome State Fault Refusal :=
  .next (islLinkDown n (s.tick e))

/-- R61, R113: no good downstream frame for 2 µs, whatever the link carries upstream. -/
def execIslFallbackApply (e : Nat) (n : Fin 48) (s : State) : Host.Outcome State Fault Refusal :=
  .next (applyFallback n (s.tick e))

/-- R114: the link is trained again; the fallback stays until the module commands otherwise, and calibration is due. A
lock-out that lasts is heard now, as far as the link has not carried it (R93). -/
def islLinkUp (n : Nat) (s : State) : State :=
  if linkUp s n then s
  else
    let s := s.setBit (R.ISL_STAT n) F.ISL_STAT.LINK_UP true
    let x := s.islOf n
    let s := s.setIsl n { x with calDue := true, uvVdd := false, uvVee := false }
    let s := islRaise EV.ISL_LINK_UP n s
    selOfIsl n (if lockedOut s n && (x.uvVdd || x.uvVee) then lockHeard n x.uvVdd x.uvVee false s else s)

def execIslLinkUp (e : Nat) (n : Fin 48) (s : State) : Host.Outcome State Fault Refusal :=
  .next (islLinkUp n (s.tick e))

/-- TRIM for a raw delay in picoseconds: round((60.000 ns − d) / 78.125 ps) (R109). Where the formula's range and the
interval the rule prints part, at its ends, the formula is followed (assumption 71). -/
def trimOf (ps : Nat) : Int := ((60000 - (ps : Int)) * 16 + 625) / 1250

/-- The selector commands the island on within 100 ns from a step: the swap of its machine ends (R154). -/
def swapDueAt (s : State) (n now : Nat) : Bool :=
  match (convOfIsl s n).bind (chanOf s) with
  | some m => match (s.selOf m).swapDue with
    | some t => b2n (gateHigh s n) == s.fld (R.PROT_SS_STAT m) F.PROT_SS_STAT.SIDE && !(s.islOf n).cmdOn &&
        decide (8 * t < now + 160)
    | none => false
  | none => false

/-- R110: at most one step toward the re-measured trim, and only while the gate has been steady for 100 ns and no edge of
it is due within 100 ns, in the present period or the coming one, or from the selector. A trim outside 0 to 127 counts as the nearer end
(assumption 71). -/
def islTrim (n ps : Nat) (s : State) : State :=
  let x := s.islOf n
  let now := 8 * s.dt
  let quiet := decide (x.gateStep + 160 ≤ now ∧ x.onStep + 160 ≤ now ∧ x.offStep + 160 ≤ now)
  let due := match unitOfGate s n with
    | some k => ((s.unitOf k).edges ++ (s.unitOf k).next).any fun d =>
        d.high == gateHigh s n && decide (d.step < now + 160)
    | none => false
  let t := (s.fld (R.ISL_STAT n) F.ISL_STAT.TRIM : Int)
  let want := clampI 0 127 (trimOf ps)
  let next := if want < t then t - 1 else if t < want then t + 1 else t
  if linkUp s n && quiet && !due && !swapDueAt s n now then s.setFld (R.ISL_STAT n) F.ISL_STAT.TRIM next.toNat else s

def execIslTrimRemeasure (e : Nat) (n : Fin 48) (ps : Nat) (s : State) : Host.Outcome State Fault Refusal :=
  .next (islTrim n ps (s.tick e))

/-- Every island the description uses is calibrated with its link up (`DEV_ENTRY_BLOCK.CAL`). -/
def allCal (s : State) : Bool :=
  (List.range 48).all fun n => !islUsed s n || (linkUp s n && s.bit (R.ISL_STAT n) F.ISL_STAT.CAL_DONE)

/-- R55, R109: one island's calibration; the machine of a lost island is handed back once its islands are back (R697). -/
def islCalibrate (n ps : Nat) (s : State) : State :=
  if !linkUp s n then s
  else
    let t := trimOf ps
    let ok := decide (0 ≤ t ∧ t ≤ 127)
    let s := s.setIsl n { s.islOf n with calDue := false }
    let s := s.setBit (R.ISL_STAT n) F.ISL_STAT.CAL_DONE ok
    let s := if ok then s.setFld (R.ISL_STAT n) F.ISL_STAT.TRIM t.toNat
      else islRaise EV.ISL_CAL_FAIL n (s.setBit (R.ISL_FLAGS n) F.ISL_FLAGS.CAL_FAIL true)
    let s := match (convOfIsl s n).bind (chanOf s) with
      | some m =>
        let all := (machIsls s m).all fun i => !lostOn s i && (!bitN (s.selOf m).lost i ||
          (linkUp s i && s.bit (R.ISL_STAT i) F.ISL_STAT.CAL_DONE))
        if bitN (s.selOf m).why Why.lostLink && all then
          selDrop m Why.lostLink (s.setSel m { s.selOf m with lost := 0 })
        else s
      | none => s
    preAfterCal s

def execIslandCalibration (e : Nat) (n : Fin 48) (ps : Nat) (s : State) : Host.Outcome State Fault Refusal :=
  .next (islCalibrate n ps (s.tick e))

end Sys2Proof.Machine
end

