-- ==== Sys2Proof/Machine/Protection.lean ====
section
/-! DEFINITION. Switch-fault detection, the selector's inputs and timers, and pre-start diagnostics (chapter 4). -/

namespace Sys2Proof.Machine

/-! ### Detection (R130 to R138) -/

/-- Soft turn-off begins at the detection tick, which is now (R134): OUTH is released and OUTL sinks for
(`SOFT_DUR` + 1) × 50 ns. The detection travels to the interior with its stamp and sources (R135). -/
def softOff (n : Nat) (desat kelvin : Bool) (s : State) : State :=
  let x := s.islOf n
  let (d0, k0) := match x.det with | some (_, a, b) => (a, b) | none => (false, false)
  let stamp := match x.det with | some (t, _, _) => t | none => s.dt
  let dur := (s.fld (R.PROT_DSAT n) F.PROT_DSAT.SOFT_DUR + 1) * 10
  let soft := match x.softEnd with | some t => t | none => s.el + dur
  let s := s.setIsl n { x with det := some (stamp, d0 || desat, k0 || kelvin), softEnd := some soft, segs := [],
                               gateStep := if gateOn s n then 8 * s.dt else x.gateStep }
  clampShow n (s.setBit (R.ISL_STAT n) F.ISL_STAT.GATE false)

/-- The DT tick of the island's last turn-on edge (R28, R131). -/
def onTick (s : State) (n : Nat) : Nat := (s.islOf n).rise / 8

/-- The island's gate is on, with no latch: either path may detect. -/
def detOpen (s : State) (n : Nat) : Bool := gateOn s n && !latched s n

/-- The other path has detected at this very tick, so that one detection carries both sources (R135, R136). -/
def detJoins (s : State) (n : Nat) : Bool :=
  match (s.islOf n).det with | some (t, _, _) => t == s.dt | none => false

/-- The level of `PROT_DSAT.THRESH`, in mV. -/
def desatLevel (s : State) (n : Nat) : Nat := 50 * s.fld (R.PROT_DSAT n) F.PROT_DSAT.THRESH

/-- The detection tick of desaturation (R130, R131) where the node has stood above its threshold for a number of ticks: the
filter runs from the turn-on edge at the earliest, and the detection is masked until blanking ends. -/
def desatTick (s : State) (n above : Nat) : Nat :=
  let e := onTick s n
  max (max (s.dt - above) e + s.fld (R.PROT_DSAT n) F.PROT_DSAT.FILT) (e + s.fld (R.PROT_DSAT n) F.PROT_DSAT.TBLANK)

/-- R130, R131: the node stands at mv, above the threshold for `above` ticks up to now and on until the detection tick. -/
def desatDetect (n mv above : Nat) (s : State) : State :=
  let t := desatTick s n above
  if !s.bit (R.PROT_DSAT n) F.PROT_DSAT.DESAT_EN || decide (mv ≤ desatLevel s n) then s
  else if detOpen s n then softOff n true false (s.until t)
  else if detJoins s n && decide (t ≤ s.dt) then softOff n true false s
  else s

def execDesatDetection (e : Nat) (n : DesatReading) (s : State) : Host.Outcome State Fault Refusal :=
  .next (desatDetect n.isl n.mv n.above (s.tick e))

/-- R132, R133: the Kelvin path gathers nvs more, in nV·s; the integral since the turn-on edge divided by LKS reaches ITHR;
no filter and no blanking. It stays at zero while the switch is off. -/
def kelvinDetect (n nvs : Nat) (s : State) : State :=
  if detOpen s n || detJoins s n then
    let x := s.islOf n
    let s := s.setIsl n { x with kelvin := x.kelvin + nvs }
    if s.bit (R.PROT_OC n) F.PROT_OC.OC_EN &&
        decide (s.fld (R.PROT_OC n) F.PROT_OC.LKS * s.fld (R.PROT_OC n) F.PROT_OC.ITHR ≤ x.kelvin + nvs) then
      softOff n false true s
    else s
  else s

def execKelvinOcDetection (e : Nat) (n : Fin 48) (nvs : Nat) (s : State) : Host.Outcome State Fault Refusal :=
  .next (kelvinDetect n nvs (s.tick e))

/-- R134: the soft turn-off has run its time; the clamp path engages and the island latches the fault. -/
def softEnds (n : Nat) (s : State) : State :=
  match (s.islOf n).softEnd with
  | none => s
  | some t =>
    let s := s.untilEl t
    let s := s.setIsl n { s.islOf n with softEnd := none }
    selOfIsl n (clampShow n (s.setBit (R.PROT_IST n) F.PROT_IST.LATCHED true))

def execSoftTurnOffEnd (e : Nat) (n : Fin 48) (s : State) : Host.Outcome State Fault Refusal :=
  .next (softEnds n (s.tick e))

/-- R141, R142: a detection of unit k stamped st on channel m: a second leg within 200 ticks of the first makes the class
two-leg; one 200 ticks after the first or later, of whichever leg, starts a fresh window. -/
def twoLeg (m k st : Nat) (s : State) : State :=
  let x := s.selOf m
  match x.first with
  | none => s.setSel m { x with first := some (st, k) }
  | some (t0, k0) =>
    if st < t0 + 200 ∧ t0 < st + 200 then
      if k0 = k ∨ x.twoLeg then s
      else ((s.setSel m { x with twoLeg := true }).setBit R.PROT_FLAGS F.PROT_FLAGS.TWO_LEG true).raise EV.TWO_LEG m []
    else s.setSel m { x with first := some (st, k) }

/-- A converter is held in its safe state by protection (R136, R137): its CONV_SAFE bit, and its verdict ends. A DC-DC's mode
in force becomes OFF with it (R138). -/
def convSafe (c : Nat) (s : State) : State :=
  let x := s.convOf c
  let s := endVerdict c (s.setConv c { x with ready := false, passed := false, cleared := false })
  let s := s.setBitAt R.PROT_STAT F.PROT_STAT.CONV_SAFE c true
  if kindOf s c = 1 then linkEval s else s

/-- R412: a detection on a chopper island is also a chopper fault. -/
def chopSwitch (c : Nat) (s : State) : State :=
  if kindOf s c = 2 then
    let s := s.setFld R.DCL_CHOP_STAT F.DCL_CHOP_STAT.FAULT 5
    linkEval ((s.setBit R.DCL_FLAGS F.DCL_FLAGS.CHOP_FAULT true).raise EV.CHOP_FAULT c [])
  else s

/-- R135, R136: the detection reaches the interior: the island's record, the flags, EV_DESAT before EV_KELVIN_OC, the
converter off or its machine to the selector, and the escalation of R158. -/
def detReceived (n : Nat) (s : State) : State :=
  match (s.islOf n).det with
  | none => s
  | some (st, desat, kelvin) =>
    let e := onTick s n
    let inBlank := decide (st ≤ e + s.fld (R.PROT_DSAT n) F.PROT_DSAT.TBLANK)
    let s := s.setIsl n { s.islOf n with det := none }
    let i := R.PROT_IST n
    let s := s.setFld i F.PROT_IST.STAMP st
    let s := if desat then s.setBit i F.PROT_IST.DESAT true else s
    let s := if kelvin then s.setBit i F.PROT_IST.KELVIN true else s
    let s := if inBlank then s.setBit i F.PROT_IST.DURING_BLANK true else s
    let s := if desat then (s.setBit R.PROT_FLAGS F.PROT_FLAGS.DESAT true).raise EV.DESAT n [] else s
    let s := if kelvin then (s.setBit R.PROT_FLAGS F.PROT_FLAGS.KELVIN true).raise EV.KELVIN_OC n [] else s
    match convOfIsl s n with
    | none => s
    | some c =>
      let s := convSafe c s
      match chanOf s c with
      | some m =>
        let s := match unitOfGate s n with | some k => twoLeg m k st s | none => s
        escalate true false (selHold m Why.detect s)
      | none => escalate false true (chopSwitch c (convDark c s))

def execDetectionReceived (e : Nat) (n : Fin 48) (s : State) : Host.Outcome State Fault Refusal :=
  .next (detReceived n (s.tick e))

/-- Releasing the fault latches of a converter's islands (R137, R138); a machine's fault class ends with them (R150), and a
chopper's availability is judged again (R409). -/
def releaseLatches (c : Nat) (s : State) : State :=
  let s := forEach ((gatesOfConv s c).filter (· < 48)) (fun n s =>
    clampShow n (s.setBit (R.PROT_IST n) F.PROT_IST.LATCHED false)) s
  let s := s.setBitAt R.PROT_STAT F.PROT_STAT.CONV_SAFE c false
  match chanOf s c with
  | some m => selEval m (selDrop m Why.detect (s.setSel m { s.selOf m with first := none, twoLeg := false }))
  | none => if kindOf s c == 2 || kindOf s c == 1 then linkEval s else s

/-! ### Selector inputs (R148, R152, R154) -/

/-- A channel's speed becomes unknown: on one bound to a declared machine the change from known sets SPEED_STALE and raises
its event (R148). -/
def speedLost (m : Nat) (s : State) : State :=
  let was := (s.selOf m).known
  let s := s.setSel m { s.selOf m with known := false }
  if was && (machConv s m).isSome then
    (s.setBit R.PROT_FLAGS F.PROT_FLAGS.SPEED_STALE true).raise EV.SPEED_STALE m []
  else s

/-- Channel m's speed is refreshed from source src (R148), as in `PROT_SSm_SPEED.SRC`; source 0 leaves it unknown. -/
def speedPut (src rpm m : Nat) (s : State) : State :=
  let i := R.PROT_SS_SPEED m
  let s := (s.setFld i F.PROT_SS_SPEED.SRC src).setFld i F.PROT_SS_SPEED.SPEED (min rpm 65535)
  if src = 0 then selEval m (speedLost m (s.setSel m { s.selOf m with fresh := none }))
  else selEval m (s.setSel m { s.selOf m with fresh := some s.dt, known := true })

/-- Sensor ch of kind src is the position sensor that machine m names (R246, R375). -/
def boundTo (s : State) (src ch m : Nat) : Bool :=
  s.fld (R.TRX_M_CFG m) F.TRX_M_CFG.POS == src && s.fld (R.TRX_M_CFG m) F.TRX_M_CFG.POS_CH == ch

/-- The speed of each machine bound to a sensor is refreshed from it. -/
def sensorSpeed (src ch : Nat) (rpm : Int) (s : State) : State :=
  forEach ((List.range 2).filter (boundTo s src ch)) (speedPut src rpm.natAbs) s

/-- An encoder has had no edge for 100 ms (R249). -/
def encStill (s : State) (ch : Nat) : Bool :=
  match (AMap.getD s.meas.encEdge ch []).head? with
  | some x => decide (x.1 + 20000000 ≤ s.dt)
  | none => true

/-- A speed is measured. Source 1: resolver m, its speed over its pole pairs, rounded toward 0 (assumption 72), shown in its
status; it refreshes its machine while the signal is neither lost nor untracked (R246). Source 2: encoder m, at the speed its
edges gave, and 0 after 100 ms without an edge (R249). Source 3: the observer of machine m; 0: none (R148). -/
def speedRefresh (m src : Nat) (raw : Int) (s : State) : State :=
  if src = 1 then
    let rpm := raw.tdiv (max 1 (s.fld (R.ADC_RES_CFG m) F.ADC_RES_CFG.POLES))
    let s := s.setSfld (R.ADC_RES_STAT m) F.ADC_RES_STAT.SPEED (clampI (-32768) 32767 rpm)
    if s.bit (R.ADC_RES_STAT m) F.ADC_RES_STAT.LOS || s.bit (R.ADC_RES_STAT m) F.ADC_RES_STAT.LOT then s
    else sensorSpeed 1 m rpm s
  else if src = 2 then
    let rpm := if encStill s m then 0 else s.sfld (R.ADC_ENC_STAT m) F.ADC_ENC_STAT.SPEED
    sensorSpeed 2 m rpm (s.setSfld (R.ADC_ENC_STAT m) F.ADC_ENC_STAT.SPEED rpm)
  else speedPut src raw.natAbs m s

def execSelectorSpeedRefresh (e : Nat) (m : Fin 2) (src : Fin 4) (rpm : BitVec 32) (s : State) :
    Host.Outcome State Fault Refusal :=
  .next (speedRefresh m src rpm.toInt (s.tick e))

/-- R148: the speed is older than 1 ms. On a channel bound to a declared machine the change from known to unknown sets
SPEED_STALE and raises its event. -/
def speedStale (m : Nat) (s : State) : State :=
  match (s.selOf m).fresh with
  | none => s
  | some t =>
    let s := if (s.selOf m).known then s.until (t + 200001) else s
    selEval m (speedLost m s)

def execSpeedStale (e : Nat) (m : Fin 2) (s : State) : Host.Outcome State Fault Refusal :=
  .next (speedStale m (s.tick e))

/-- R152: 10 ms below 0.9 N_AS have passed; rows 2 to 4 decide again. -/
def holdExpiry (m : Nat) (s : State) : State :=
  match (s.selOf m).below with
  | none => s
  | some t => selEval m (s.until (t + 2000000))

def execActiveShortHoldExpiry (e : Nat) (m : Fin 2) (s : State) : Host.Outcome State Fault Refusal :=
  .next (holdExpiry m (s.tick e))

/-- R154: SWAP_DT after the last off-edge, the shorting side is commanded on. -/
def swapExpiry (m : Nat) (s : State) : State :=
  match (s.selOf m).swapDue with
  | none => s
  | some t => selBuild m (s.until t)

def execSwapDtExpiry (e : Nat) (m : Fin 2) (s : State) : Host.Outcome State Fault Refusal :=
  .next (swapExpiry m (s.tick e))

/-! ### Pre-start diagnostics (R159 to R165) -/

/-- Verdict codes (R164). -/
abbrev Verd.notRun : Nat := 0
abbrev Verd.pass : Nat := 1
abbrev Verd.notUsed : Nat := 2
abbrev Verd.nodeDcn : Nat := 7
abbrev Verd.nodeDcp : Nat := 8
abbrev Verd.nodeMid : Nat := 9
abbrev Verd.openWinding : Nat := 10
abbrev Verd.unavailable : Nat := 11
abbrev Verd.senseFault : Nat := 12

/-- The stars of the declared machines: each machine's units in ascending order, three at a time (R159, R160). -/
def stars (s : State) : List (List Nat) :=
  ((convs s).filter (·.kind == 0)).flatMap fun c =>
    let us := sortNat (unitsOf s c.index)
    [us.take 3, us.drop 3].filter (fun l => !l.isEmpty)

/-- The star a unit belongs to. -/
def starOf (s : State) (k : Nat) : Option (List Nat) := (stars s).find? (·.contains k)

/-- Test 1 at one gate (R159): calibrated and out of lock-out. -/
def testAvail (s : State) (n : Nat) : Nat :=
  if n = 63 ∨ 48 ≤ n then 0
  else if s.bit (R.ISL_STAT n) F.ISL_STAT.CAL_DONE && linkUp s n && !lockedOut s n then 0 else Verd.unavailable

/-- The verdict DRIVE_OPEN of a gate's side (R164). -/
def driveOpen (high : Bool) : Nat := if high then 5 else 6

/-- The gate rose above VEEn + 1.5 V during test t, which aborts its unit's tests (R163). -/
def gateRose (gates : List GateTest) (t : Nat) (high : Bool) (n : Nat) : Nat :=
  if gates.any (fun g => g.isl == n && g.high == some t) then driveOpen high else 0

/-- Test 2 at one gate (R159): the time of its rise. -/
def testLoop (s : State) (gates : List GateTest) (high : Bool) (n : Nat) : Nat :=
  match gates.find? (·.isl == n) with
  | none => 0
  | some g => match g.rise with
    | none => driveOpen high
    | some r => if r < s.fld R.PROT_PRE_CFG F.PROT_PRE_CFG.T_OPEN then (if high then 3 else 4) else 0

/-- Test 3 at one gate (R159): its fall. -/
def testSink (gates : List GateTest) (high : Bool) (n : Nat) : Nat :=
  if gates.any (fun g => g.isl == n && !g.sank) then driveOpen high else 0

/-- A node in mV that is neither high nor low (R160). -/
def nodeMid (mv : Nat) : Bool := decide (500 ≤ mv ∧ mv < 2000)

/-- Test 4 at one machine unit (R160). Where several verdicts hold, its own sense input comes first, then the star's short,
then its own node, then its winding (assumption 73). -/
def testInject (s : State) (phs : List PhsTest) (k : Nat) : Nat :=
  match starOf s k, phs.find? (·.unit == k) with
  | some st, some p =>
    if p.codes.any phsOut then Verd.senseFault
    else if st.any (fun j => match phs.find? (·.unit == j) with | some q => !q.codes.any phsOut && decide (q.own < 500) | none => false) then
      Verd.nodeDcn
    else if nodeMid p.own || nodeMid p.other1 || nodeMid p.other2 then Verd.nodeMid
    else if p.other1 < 500 ∧ p.other2 < 500 then Verd.openWinding
    else 0
  | _, _ => 0

/-- Test 5 at one machine unit (R161), with the link in mV. A node between the two limits is at DC+ with its star where
another node of the star is (assumption 73). -/
def testRail (s : State) (link : Nat) (phs : List PhsTest) (k : Nat) : Nat :=
  match starOf s k, phs.find? (·.unit == k) with
  | some st, some p =>
    if p.codes.any phsOut then Verd.senseFault
    else if st.any (fun j => match phs.find? (·.unit == j) with
        | some q => !q.codes.any phsOut && decide (9 * link ≤ 10 * q.rail) | none => false) then
      Verd.nodeDcp
    else if link ≤ 10 * p.rail then Verd.nodeMid else 0
  | _, _ => 0

/-- The first of a list of results that is a failure. -/
def firstFail (l : List Nat) : Nat := (l.find? (· != 0)).getD 0

/-- The rail test runs now: the link stands at or above VMIN (R162). -/
def railReady (s : State) : Bool := decide (2 * s.fld R.PROT_PRE_CFG F.PROT_PRE_CFG.VMIN ≤ vlink s)

/-- The verdict of unit k from the tests of R159 in their order; a machine unit that passes but whose rail test must wait
keeps NOT_RUN (R162). -/
def unitVerdict (s : State) (gates : List GateTest) (phs : List PhsTest) (k : Nat) : Nat :=
  let (h, l) := gatesOf s k
  let both := fun f : Bool → Nat → Nat => [if h = 63 then 0 else f true h, if l = 63 then 0 else f false l]
  let mach := (starOf s k).isSome
  let r := firstFail (both (gateRose gates 1) ++ both (fun _ => testAvail s) ++ both (gateRose gates 2) ++
    both (testLoop s gates) ++ both (gateRose gates 3) ++ both (testSink gates) ++ both (gateRose gates 4) ++
    [if mach then testInject s phs k else 0] ++ both (gateRose gates 5) ++
    [if mach && railReady s then testRail s (500 * vlink s) phs k else 0])
  if r != 0 then r else if mach && !railReady s then Verd.notRun else Verd.pass

/-- The verdict of every converter from its units' verdicts: all PASS gives PASS; any failure marks the converter failed
until a new run gives it PASS (R57); a pending unit leaves none, and so does a verdict that ended during the run, whose units
keep the codes they got (R159). -/
def convVerdicts (s : State) : State :=
  forEach (convs s) (fun c s =>
    let vs := ((unitsOf s c.index).filter (· < 24)).map (verdict s)
    let x := s.convOf c.index
    if x.spoiled then endVerdict c.index s
    else if vs.any (fun v => v != Verd.notRun && v != Verd.pass && v != Verd.notUsed) then
      s.setConv c.index { x with verdict := some false, failed := true }
    else if vs.all (· == Verd.pass) then
      s.setConv c.index { x with verdict := some true, failed := false, passed := true }
    else s.setConv c.index { x with verdict := none }) s

/-- The units whose verdict is other than PASS or NOT_USED (R165). -/
def failedUnits (s : State) : List Nat :=
  (List.range 24).filter fun k => let v := verdict s k; v != Verd.pass && v != Verd.notUsed

/-- The end of a run (R165). -/
def preEnd (s : State) : State :=
  let i := R.PROT_PRE_STAT
  let s := (s.setBit i F.PROT_PRE_STAT.RUNNING false).setBit i F.PROT_PRE_STAT.RAIL_PENDING false
  let s := (convVerdicts s).setBit i F.PROT_PRE_STAT.DONE true
  let s := s.raise EV.PRESTART_DONE 0xFF []
  match failedUnits s with
  | [] => s
  | k :: t =>
    let s := (s.setBit i F.PROT_PRE_STAT.FAIL true).setBit R.PROT_FLAGS F.PROT_FLAGS.PRESTART_FAIL true
    s.raise EV.PRESTART_FAIL k [(5, (k :: t).foldl setBitN 0)]

/-- R159 to R163: the tests are read and every unit gets its verdict; machine units whose rail test must wait leave the
run pending (R162), and otherwise the run ends. A run that waits for its rail test is no longer in progress: RUNNING reads
0 and a new run may be started (assumption 73). -/
def preDone (gates : List GateTest) (phs : List PhsTest) (s : State) : State :=
  if !s.bit R.PROT_PRE_STAT F.PROT_PRE_STAT.RUNNING then s
  else
    let used : List Nat := match s.plant with | some p => p.units.map (fun u => u.hb) | none => []
    let s := forEach (List.range 24) (fun k t =>
      setVerdict k (if used.contains k then unitVerdict s gates phs k else Verd.notUsed) t) s
    if !railReady s && (stars s).any (fun st => st.any fun k => verdict s k == Verd.notRun) then
      let i := R.PROT_PRE_STAT
      convVerdicts ((s.setBit i F.PROT_PRE_STAT.RUNNING false).setBit i F.PROT_PRE_STAT.RAIL_PENDING true)
    else preEnd s

def execPrestartDone (e : Nat) (gates : List GateTest) (phs : List PhsTest) (s : State) : Host.Outcome State Fault Refusal :=
  .next (preDone gates phs (s.tick e))

/-- The verdict of a machine unit from the deferred rail test: R163 first, at either gate. -/
def railVerdict (s : State) (link : Nat) (gates : List GateTest) (phs : List PhsTest) (k : Nat) : Nat :=
  let (h, l) := gatesOf s k
  let r := firstFail [gateRose gates 5 true h, gateRose gates 5 false l, testRail s link phs k]
  if r = 0 then Verd.pass else r

/-- R162: the link, in mV, has stood at or above VMIN through the test's 2 ms in READY; the pending units get their
verdicts and the run ends. Below VMIN the test stays pending. -/
def railTest (link : Nat) (gates : List GateTest) (phs : List PhsTest) (s : State) : State :=
  if !s.bit R.PROT_PRE_STAT F.PROT_PRE_STAT.RAIL_PENDING || s.mode != Mode.ready ||
      decide (link < 1000 * s.fld R.PROT_PRE_CFG F.PROT_PRE_CFG.VMIN) then s
  else
    let s := forEach (List.range 24) (fun k t =>
      if verdict s k == Verd.notRun && (starOf s k).isSome then setVerdict k (railVerdict s link gates phs k) t else t) s
    preEnd s

def execRailTest (e : Nat) (link : Nat) (phs : RailReading) (s : State) : Host.Outcome State Fault Refusal :=
  .next (railTest link phs.gates phs.phs (s.tick e))

end Sys2Proof.Machine
end

