-- ==== Sys2Proof/Machine/PwmCalc.lean ====
section
/-! DEFINITION. The arithmetic of the PWM (R168 to R179, R190 to R194): periods, duties, phases, minimum pulse and carry,
pulse positions, and the overlap check. Positions and widths are in steps of 625 ps; a period of P ticks has S = 8 P. -/

namespace Sys2Proof.Machine

/-- A period from an engine limited to R167, and made even in up-down mode by raising it (R168). -/
def limitPeriod (mode p : Nat) : Nat :=
  let q := if p < 500 then 500 else if 200000 < p then 200000 else p
  if mode = 2 then q + q % 2 else q

/-- The on-time of a fraction duty, and whether it was limited (R177). -/
def onTimeFrac (s duty : Nat) : Nat × Bool :=
  let k := sx 40 duty
  let c := clampI 0 (2 ^ 31) k
  ((c.toNat * s + 2 ^ 30) / 2 ^ 31, c != k)

/-- The on-time of an absolute duty, and whether it was limited (R178). -/
def onTimeAbs (s duty : Nat) : Nat × Bool := (min duty s, decide (s < duty))

/-- An absolute on-time rescaled to a new period (R179). -/
def rescale (tOld sOld sNew : Nat) : Nat := if sOld = 0 then 0 else (tOld * sNew + sOld / 2) / sOld

/-- The shift of a unit's edges (R175). -/
def phi (s phase ofs : Nat) : Nat :=
  let u := (phase % 2 ^ 31 + ofs * 2 ^ 15) % 2 ^ 31
  if s = 0 then 0 else (u * s + 2 ^ 30) / 2 ^ 31 % s

/-- Where the active interval starts for an on-time (R169). -/
def activeStart (mode s t : Nat) : Nat := if mode = 0 then 0 else if mode = 1 then s - t else (s - t) / 2

/-- A shaped width: what is emitted, the carry, and the code of `PWM_HBk_CARRY.LAST` (R191). -/
structure Shaped where
  w : Nat
  carry : Int
  code : Nat
deriving DecidableEq, Repr

/-- The function shape of R191. -/
def shape (tmin limit r : Nat) : Shaped :=
  if tmin ≤ r then (if limit < r then ⟨limit, 0, 3⟩ else ⟨r, 0, 0⟩)
  else if tmin ≤ 2 * r then ⟨tmin, (r : Int) - tmin, 1⟩
  else ⟨0, r, if r = 0 then 0 else 2⟩

/-- A carry limited to ±TMIN, and whether it was (R192). -/
def limitCarry (tmin : Nat) (c : Int) : Int × Bool := let d := clampI (-(tmin : Int)) tmin c; (d, d != c)

/-- A unit's shaping in complementary mode (R191): the final T, both carries, both codes. -/
structure CompOut where
  t : Nat
  cH : Int
  cL : Int
  lH : Nat
  lL : Nat
deriving DecidableEq, Repr

/-- R191 for complementary mode. The longest width the period holds is S less the dead time on that side (assumption 74). -/
def shapeComp (s t dtLH dtHL tmin : Nat) (cH cL : Int) : CompOut :=
  let o : CompOut :=
    if t = 0 ∨ t = s then ⟨t, cH, cL, 0, 0⟩
    else
      let h := ((t : Int) - dtLH + cH).toNat
      let a := shape tmin (s - dtLH) h
      ⟨if a.w = 0 then 0 else a.w + dtLH, a.carry, cL, a.code, 0⟩
  if o.t = 0 ∨ s ≤ o.t then { o with t := min o.t s }
  else
    let l := ((s : Int) - o.t - dtHL + cL).toNat
    let a := shape tmin (s - dtHL) l
    { o with t := if a.w = 0 then s else s - dtHL - a.w, cL := a.carry, lL := a.code }

/-- Two intervals of a circle of s steps meet. -/
def meet (s a wa b wb : Nat) : Bool :=
  if wa = 0 ∨ wb = 0 then false
  else if s ≤ wa ∨ s ≤ wb then true
  else decide ((b + s - a % s) % s < wa) || decide ((a + s - b % s) % s < wb)

/-- Two half-open intervals of the line meet. -/
def meetLine (a wa b wb : Nat) : Bool := decide (0 < wa ∧ 0 < wb ∧ a < b + wb ∧ b < a + wa)

/-- The overlap check of R194 on one set of pulses (on-step, width), and against the outgoing pulses of the unit. Each
interval is extended at its end by the dead time that must follow it. -/
def overlaps (s dtHL dtLH : Nat) (h l oldH oldL : Nat × Nat) : Bool :=
  let ext := fun (p : Nat × Nat) (d : Nat) => if p.2 = 0 then 0 else p.2 + d
  (decide (h.2 ≠ 0 ∧ l.2 ≠ 0) && meet s h.1 (ext h dtHL) l.1 (ext l dtLH)) ||
  meetLine oldH.1 (ext oldH dtHL) l.1 (ext l dtLH) || meetLine oldL.1 (ext oldL dtLH) h.1 (ext h dtHL)

/-- Inserting an edge by its step, after earlier edges of the same step. -/
def insEdge (x : Edge) : List Edge → List Edge
  | [] => [x]
  | y :: t => if x.step < y.step then x :: y :: t else y :: insEdge x t

/-- Edges in order of their steps. -/
def sortEdges (l : List Edge) : List Edge := l.foldl (fun a x => insEdge x a) []

/-- A pulse of one side joined to what is scheduled of the period before: where the old off-edge lies at or after the new
on-edge the two merge, and the switch stays on until the later off-edge (R176). -/
def joinPulse (old : List Edge) (on off : Edge) : List Edge :=
  match old.find? (fun d => d.high == on.high && !d.on && decide (on.step ≤ d.step)) with
  | some d => sortEdges ((old.filter (fun x => x != d)) ++ [{ off with step := max off.step d.step }])
  | none => sortEdges (old ++ [on, off])

/-- The same in complementary mode: a high-side pulse of the period before that reaches the new one's on-edge merges with
it, and the low side between them never comes on; a low side due after its own off-edge never comes on (R176). -/
def joinComp (old next : List Edge) : List Edge :=
  let hOff := old.find? fun d => d.high && !d.on
  let lOn := old.find? fun d => !d.high && d.on
  let rest := old.filter fun d => d.high == d.on
  match next with
  | [a, h, o, l] =>
    match hOff, lOn with
    | some x, y =>
      if h.step ≤ x.step then
        let e := max o.step x.step
        sortEdges (rest ++ [{ o with step := e }, { l with step := e + (l.step - o.step) }])
      else match y with
        | some y => if a.step ≤ y.step then sortEdges (rest ++ [x, h, o, l]) else sortEdges (old ++ next)
        | none => sortEdges (old ++ next)
    | none, some y => if a.step ≤ y.step then sortEdges (rest ++ [h, o, l]) else sortEdges (old ++ next)
    | none, none => sortEdges (old ++ next)
  | _ => if next.any (fun d => d.high && d.on) then sortEdges (rest ++ next) else sortEdges (old ++ next)

/-- The midpoints of the pulses as they stand after merges (R188), for the high side and, in series-pair mode, for both:
each on-edge's up to its side's next off-edge, where one is scheduled. -/
def remid (both : Bool) : List Edge → List Edge
  | [] => []
  | d :: l =>
    (match l.find? (fun x => x.high == d.high && !x.on) with
      | some x => if d.on && (d.high || both) then { d with mid := (d.step + x.step) / 2 } else d
      | none => d) :: remid both l

end Sys2Proof.Machine
end

