-- ==== Sys2Proof/Machine/Pwm.lean ====
section
/-! DEFINITION. Timebases, shadow sets, the commit deadline's processing of a set, the boundary's application of it, gate
edges, trips, latches, SYNC_IN and forced outputs (chapter 5). -/

namespace Sys2Proof.Machine

/-! ### Enabling (R186) -/

/-- Of the holds that keep a converter off (R57, R137, R138, R321, R342, R349), none applies. -/
def convFree (s : State) (k : Nat) : Bool :=
  let x := s.convOf k
  !protHolds s k && !bitN (s.fld R.PLC_SHED F.PLC_SHED.CONV) k && !x.esc && !x.failed &&
  !(decide (3 ≤ x.hold) && s.bit (R.PLC_CONV k) F.PLC_CONV.HOLD)

/-- The module's mode permits the converter: R38, with the chopper in READY during a discharge. -/
def permits (s : State) (k : Nat) : Bool :=
  modePermits s.mode (kindOf s k) || (s.mode == Mode.ready && kindOf s k == 2 && s.discharging)

/-- The converter counts as enabled (R186). -/
def convOn (s : State) (k : Nat) : Bool := (s.convOf k).en && convFree s k && permits s k

/-- The unit is latched on trips. -/
def unitLatched (s : State) (k : Nat) : Bool := bitN (s.fld R.PWM_LATCH F.PWM_LATCH.UNIT) k

/-- The unit's selector replaces its edges (R187). -/
def bySelector (s : State) (k : Nat) : Bool :=
  match (convOfUnit s k).bind (chanOf s) with
  | some m => s.bit (R.PROT_SS_STAT m) F.PROT_SS_STAT.APPLIED
  | none => false

/-- The unit produces edges (R186). -/
def unitOn (s : State) (k : Nat) : Bool :=
  (s.unitOf k).ctrl % 2 == 1 && !unitLatched s k && (match convOfUnit s k with | some c => convOn s c | none => false)

/-- A follower of timebase j on the chain, if any. -/
def follower (s : State) (j : Nat) : Option Nat :=
  if j < 5 ∧ s.fld (R.PWM_TB_CFG (j + 1)) F.PWM_TB_CFG.SRC = 1 then some (j + 1) else none

/-- Timebase j is wanted for its own converters' sake (R170). -/
def tbOwn (s : State) (j : Nat) : Bool := (convsOfTb s j).any (convOn s)

/-- Timebase j runs: for its own sake or a follower's, directly or through further followers (R170). -/
def tbWantedF : Nat → State → Nat → Bool
  | 0, s, j => tbOwn s j
  | n + 1, s, j => tbOwn s j || (match follower s j with | some k => tbWantedF n s k | none => false)

/-- Timebase j should run (R170). -/
def tbWanted (s : State) (j : Nat) : Bool := tbWantedF 5 s j

/-! ### Shadow sets (R181 to R183) -/

/-- The commit FIFO of a timebase is full (R21): its values and a token stand in it. -/
def commitFull (t : Tb) : Bool := decide (64 ≤ t.openSet.length + t.closed.length + b2n t.token)

/-- A shadow value enters the open set of timebase j. One that finds the commit FIFO full has to wait, which makes the commit
late (R24). -/
def shadowPut (j : Nat) (x : Shadow) (s : State) : State :=
  let t := s.tbOf j
  s.setTb j (if commitFull t then { t with full := true } else { t with openSet := t.openSet ++ [x] })

/-- The commit token closes the open set at its tick (R34); sets closed before one deadline are committed together in order
(R183). -/
def tokenPut (j : Nat) (s : State) : State :=
  let t := s.tbOf j
  s.setTb j { t with closed := t.closed ++ t.openSet.map (fun x => (s.dt, x)), openSet := [], token := true
                     full := t.full || commitFull t }

/-- The last value a set holds for a unit's register. -/
def setVal (l : List Shadow) (unit off : Nat) : Option Nat :=
  ((l.filter (fun x => x.unit == unit && x.off == off)).getLast?).map (·.val)

/-! ### The deadline's processing of a set (R184 steps 4 to 7) -/

/-- A unit's committed values after a set. -/
def unitCommit (l : List Shadow) (k : Nat) (u : Unit) : Unit :=
  { u with dutyH := (setVal l k 1).getD u.dutyH, dutyL := (setVal l k 2).getD u.dutyL,
           phase := (setVal l k 3).getD u.phase, ctrl := (setVal l k 4).getD u.ctrl }

/-- What a unit's duties give for a coming period before shaping (R177 to R179): its on-times in steps, the duties it keeps,
whether one was limited, and whether one was rescaled. -/
structure OnTimes where
  h : Nat
  l : Nat
  dutyH : Nat
  dutyL : Nat
  clamp : Bool := false
  skew : Bool := false
deriving DecidableEq, Repr

/-- One absolute duty (R178 to R180) for a period of sLim steps whose nominal length goes from sOld to sNew: the on-time, the
duty kept, whether it was limited, and whether it was rescaled. -/
def onTimeHeld (got : Bool) (duty sOld sNew sLim : Nat) : Nat × Nat × Bool × Bool :=
  if got || sOld == sNew then let a := onTimeAbs sLim duty; (a.1, duty, a.2, false)
  else let r := rescale (min duty sOld) sOld sNew; (min r sLim, r, decide (sLim < r), true)

/-- The on-times of a unit for a period of sLim steps, nominally sNew after sOld. A missing side's duty, and in complementary
and series modes `DUTY_L`, is ignored: its on-time is 0 (R87, R174). -/
def onTimes (s : State) (l : List Shadow) (k sOld sNew sLim : Nat) (u : Unit) : OnTimes :=
  let useH := (gatesOf s k).1 != 63
  let useL := unitMode s k == 1 && (gatesOf s k).2 != 63
  if s.bit (R.PWM_HB_CFG k) F.PWM_HB_CFG.DFMT then
    let h := onTimeHeld (setVal l k 1).isSome u.dutyH sOld sNew sLim
    let m := onTimeHeld (setVal l k 2).isSome u.dutyL sOld sNew sLim
    { h := if useH then h.1 else 0, l := if useL then m.1 else 0, dutyH := h.2.1, dutyL := m.2.1
      clamp := (useH && h.2.2.1) || (useL && m.2.2.1)
      skew := (useH && h.2.2.2) || (useL && m.2.2.2) }
  else
    let h := onTimeFrac sLim u.dutyH
    let m := onTimeFrac sLim u.dutyL
    { h := if useH then h.1 else 0, l := if useL then m.1 else 0, dutyH := u.dutyH, dutyL := u.dutyL
      clamp := (useH && h.2) || (useL && m.2) }

/-- The pulses (on-step in the period, width) of a unit from its final on-times. -/
def pulses (s : State) (k sN tH tL : Nat) (u : Unit) : (Nat × Nat) × (Nat × Nat) :=
  let mode := s.fld (R.PWM_TB_CFG (tbOfUnit s k)) F.PWM_TB_CFG.MODE
  let sh := phi sN u.phase (s.fld (R.PWM_HB_CFG k) F.PWM_HB_CFG.OFS)
  let h := ((activeStart mode sN tH + sh) % max 1 sN, tH)
  let l := if unitMode s k = 1 then ((activeStart mode sN tL + sN / 2 + sh) % max 1 sN, tL)
    else if unitMode s k = 2 then h else (h.1, 0)
  (h, l)

/-- A unit shaped for the coming period (R184 step 7, R191, R192), and whether a carry was limited. An on-time of 0 or of the
whole period skips shape and keeps the carry in independent and series-pair modes too (DESIGN CHOICE, assumption 93). -/
def shapeUnit (s : State) (k sN tH tL : Nat) (u : Unit) : Unit × Bool :=
  let dtLH := s.fld (R.PWM_HB_TIMING k) F.PWM_HB_TIMING.DT_LH
  let dtHL := s.fld (R.PWM_HB_TIMING k) F.PWM_HB_TIMING.DT_HL
  let tmin := s.fld (R.PWM_HB_TIMING k) F.PWM_HB_TIMING.TMIN
  let clr := u.ctrl.testBit 1
  let cH := if clr then 0 else u.carryH
  let cL := if clr then 0 else u.carryL
  if unitMode s k = 0 then
    let o := shapeComp sN tH dtLH dtHL tmin cH cL
    let a := limitCarry tmin o.cH
    let b := limitCarry tmin o.cL
    ({ u with nextTH := o.t, nextTL := 0, carryH := a.1, carryL := b.1, lastH := o.lH, lastL := o.lL }, a.2 || b.2)
  else
    let one := fun (t : Nat) (c : Int) => if t = 0 ∨ t = sN then (⟨t, c, 0⟩ : Shaped) else shape tmin sN ((t : Int) + c).toNat
    let h := one tH cH
    let l := if unitMode s k = 1 then one tL cL else ⟨h.w, cL, h.code⟩
    let a := limitCarry tmin h.carry
    let b := limitCarry tmin l.carry
    ({ u with nextTH := h.w, nextTL := l.w, carryH := a.1, carryL := b.1, lastH := h.code, lastL := l.code }, a.2 || b.2)

/-- The state a side has at step b8, with the edges still scheduled. -/
def sideAt (es : List Edge) (hi now : Bool) (b8 : Nat) : Bool :=
  es.foldl (fun v d => if d.high == hi && decide (d.step ≤ b8) then d.on else v) now

/-- The profile index an edge of the unit carries (R189), from the field of its committed `CTRL` that begins at a bit. -/
def ctrlProf (ctrl lo : Nat) : Option Nat := if ctrl.testBit 2 then some (ctrl / 2 ^ lo % 8) else none

/-- The side of unit k is commanded on. -/
def sideOn (s : State) (k : Nat) (high : Bool) : Bool :=
  let g := if high then (gatesOf s k).1 else (gatesOf s k).2
  g != 63 && (s.islOf g).cmdOn

/-- The first step from boundary b8 on at which a side that the period before holds on may go off: the boundary itself, or
the off-edge of a trip stamped less than two ticks before it (R197). -/
def holdEnd (u : Unit) (b8 : Nat) : Nat :=
  match u.tripAt with
  | some t => max b8 (8 * (t + 2))
  | none => b8

/-- The edges of the coming period, from boundary b in ticks (R173, R174, R176, R188, R189), for the gates as they will stand at
b. Where the period before held the high side on throughout, it goes off at the boundary, unless the new active interval
begins there. Midpoints go with high-side on-edges; a low-side island has none but in series-pair mode (assumption 75). -/
def unitEdges (s : State) (k b sN : Nat) (u : Unit) : List Edge :=
  let b8 := 8 * b
  let e8 := holdEnd u b8
  let prof := ctrlProf u.ctrl
  let (h, l) := pulses s k sN u.nextTH u.nextTL u
  if unitMode s k = 0 then
    let dtLH := s.fld (R.PWM_HB_TIMING k) F.PWM_HB_TIMING.DT_LH
    let dtHL := s.fld (R.PWM_HB_TIMING k) F.PWM_HB_TIMING.DT_HL
    let t := u.nextTH
    let later := fun (hi on : Bool) => u.edges.any fun d => d.high == hi && d.on == on && decide (b8 < d.step)
    let on := sideAt u.edges true (sideOn s k true) b8
    if t = 0 then
      if later true false || later false true then []
      else if on then [⟨e8, true, false, prof 6, 0⟩, ⟨e8 + dtHL, false, true, prof 9, 0⟩]
      else [⟨e8, false, true, prof 9, 0⟩]
    else if t = sN then
      if sideAt u.edges false (sideOn s k false) b8 then
        [⟨b8, false, false, prof 12, 0⟩, ⟨b8 + dtLH, true, true, prof 3, b8 + dtLH + (sN - dtLH) / 2⟩]
      else [⟨b8, true, true, prof 3, b8 + sN / 2⟩]
    else
      let a := b8 + h.1
      let ends : List Edge := [⟨a + t, true, false, prof 6, 0⟩, ⟨a + t + dtHL, false, true, prof 9, 0⟩]
      let main : List Edge := [⟨a, false, false, prof 12, 0⟩, ⟨a + dtLH, true, true, prof 3, a + dtLH + (t - dtLH) / 2⟩] ++ ends
      if on && !later true false then
        if h.1 = 0 then ends
        else if e8 + dtHL < a then ⟨e8, true, false, prof 6, 0⟩ :: ⟨e8 + dtHL, false, true, prof 9, 0⟩ :: main
        else ⟨e8, true, false, prof 6, 0⟩ :: main
      else main
  else
    let both := unitMode s k == 2
    let pl := if both then 3 else 9
    let ql := if both then 6 else 12
    let side := fun (hi : Bool) (p : Nat × Nat) (on off : Nat) =>
      if p.2 = 0 then [] else
        [(⟨b8 + p.1, hi, true, prof on, if hi || both then b8 + p.1 + p.2 / 2 else 0⟩ : Edge),
         ⟨b8 + p.1 + p.2, hi, false, prof off, 0⟩]
    side true h 3 6 ++ side false l pl ql

/-- The outgoing edges and the coming ones joined: a pulse that outlasts the boundary meets the new set's pulses (R176). -/
def joinEdges (mode : Nat) (old next : List Edge) : List Edge :=
  if mode = 0 then joinComp old next
  else
    match next with
    | a :: b :: c :: d :: t => joinPulse (joinPulse old a b) c d ++ t
    | [a, b] => joinPulse old a b
    | l => sortEdges (old ++ l)

/-- A unit fails the overlap check (R194) with the given on-times. -/
def unitOverlap (s : State) (k b sN tH tL : Nat) (u : Unit) : Bool :=
  if unitMode s k ≠ 1 ∨ (gatesOf s k).1 = 63 ∨ (gatesOf s k).2 = 63 then false
  else
    let dtLH := s.fld (R.PWM_HB_TIMING k) F.PWM_HB_TIMING.DT_LH
    let dtHL := s.fld (R.PWM_HB_TIMING k) F.PWM_HB_TIMING.DT_HL
    let (h, l) := pulses s k sN tH tL u
    overlaps sN dtHL dtLH (8 * b + h.1, h.2) (8 * b + l.1, l.2) (u.pulseH.getD (0, 0)) (u.pulseL.getD (0, 0))

/-- Raising a unit's DUTY_CLAMP once until its flag is cleared (R177). -/
def dutyClamp (k : Nat) (s : State) : State :=
  let s := s.setBit R.PWM_FLAGS F.PWM_FLAGS.DUTY_CLAMP true
  s.flagRaise (R.PWM_HB_FLAGS k) F.PWM_HB_FLAGS.DUTY_CLAMP EV.DUTY_CLAMP k []

/-- R184 step 7 for unit k with the on-times given: dead time, minimum pulse and carry for the period of p ticks that begins
at boundary b. -/
def shapeNext (k b p th tl : Nat) (u : Unit) (s : State) : State :=
  let r := shapeUnit s k (8 * p) th tl u
  let v := { r.1 with tH := th, tL := tl, ctrl := clrBitN u.ctrl 1 }
  let v := { v with next := unitEdges s k b (8 * p) v }
  let q := pulses s k (8 * p) v.nextTH v.nextTL v
  let v := { v with nextH := some (8 * b + q.1.1, q.1.2), nextL := some (8 * b + q.2.1, q.2.2) }
  let s := (s.setUnit k v).setFld (R.PWM_HB_CTRL k) F.PWM_HB_CTRL.CARRY_CLR 0
  if r.2 then (s.setBit (R.PWM_HB_FLAGS k) F.PWM_HB_FLAGS.CARRY_CLAMP true).setBit R.PWM_FLAGS F.PWM_FLAGS.CARRY_CLAMP true else s

/-! ### The sync chain (R202 to R204): where a follower's boundaries lie -/

/-- Timebase j follows the one before it on the chain. -/
def chained (s : State) (j : Nat) : Bool := s.fld (R.PWM_TB_CFG j) F.PWM_TB_CFG.SRC == 1

/-- 2^DIV: a follower's periods in one of its source. -/
def chainDiv (s : State) (j : Nat) : Nat := 2 ^ s.fld (R.PWM_TB_CFG j) F.PWM_TB_CFG.DIV

/-- A timebase's offset in ticks for a source period of p ticks. -/
def tbOfs (s : State) (j p : Nat) : Nat := s.fld (R.PWM_TB_OFS j) F.PWM_TB_OFS.OFS * p / 2 ^ 31

/-- The period that follows a timebase's present one, as far as it is decided. -/
def comingP (t : Tb) : Nat := if t.ready then t.nextP else t.p

/-- A follower's coming period: its length P, the source boundary it hangs on, and its place after that boundary. P is the
quotient rounded down, neither limited nor made even (DESIGN CHOICE, assumption 93). -/
def followNext (s : State) (j : Nat) : Nat × Nat × Nat :=
  let t := s.tbOf j
  let q := s.tbOf (j - 1)
  if t.idx + 1 < chainDiv s j then (t.p, t.srcB, t.idx + 1)
  else if q.b = t.srcB then (comingP q / chainDiv s j, q.b + q.len, 0)
  else (q.p / chainDiv s j, q.b, 0)

/-- Where the follower's periods after source boundary srcB end: its first boundary after the source's next one. -/
def groupEnd (s : State) (j srcB : Nat) : Nat :=
  let q := s.tbOf (j - 1)
  if q.b = srcB then srcB + q.len + tbOfs s j (comingP q)
  else if q.b < srcB then srcB + (if q.ready then q.nextLen else q.p) + tbOfs s j (comingP q)
  else q.b + tbOfs s j q.p

/-- The length of a follower's period at boundary b: P, but for the last before the source's next boundary. -/
def followLen (s : State) (j b p srcB idx : Nat) : Nat := if idx + 1 < chainDiv s j then p else groupEnd s j srcB - b

/-- A follower placed again after its source's period is decided or begins: its start, or the end of its last period. -/
def alignTb (j : Nat) (s : State) : State :=
  let t := s.tbOf j
  let q := s.tbOf (j - 1)
  if !t.run || !chained s j then s
  else if t.first then
    let ahead := decide (q.b < t.srcB)
    let srcB := if ahead then q.b + q.len else t.srcB
    let ps := if ahead then comingP q else q.p
    let b := srcB + tbOfs s j ps
    let p := ps / chainDiv s j
    s.setTb j { t with srcB := srcB, b := b, p := p, nextP := p, len := followLen s j b p srcB 0 }
  else if t.idx + 1 < chainDiv s j then s
  else s.setTb j { t with len := groupEnd s j t.srcB - t.b }

/-- Every follower further down the chain placed again. -/
def alignChain (j : Nat) (s : State) : State := forEach ((List.range 6).filter fun k => decide (j < k)) alignTb s

/-- The length of a period of p ticks that SYNC_IN tracking corrects by at most SLEW, and the error left (R206). -/
def slewLen (s : State) (t : Tb) (p : Nat) : Nat × Int :=
  if t.syncOn then
    let sl := (s.fld R.PWM_SYNC_CFG F.PWM_SYNC_CFG.SLEW : Int)
    let d := clampI (-sl) sl t.err
    (((p : Int) + d).toNat, t.err - d)
  else (p, 0)

/-- An error found by a SYNC_IN edge that acts from now on (R27). -/
def syncFound (s : State) (t : Tb) : Tb :=
  match t.found with
  | some (a, e) => if a ≤ s.dt then { t with err := e, found := none } else t
  | none => t

/-- The length of the coming period, nominally p, that begins at boundary b, and the error of SYNC_IN left after it. -/
def comingLen (s : State) (j b p : Nat) : Nat × Int :=
  if chained s j then
    let x := followNext s j
    (followLen s j b p x.2.1 x.2.2, 0)
  else slewLen s (s.tbOf j) p

/-- R184 steps 4 to 7 for timebase j with the set l, the boundary still to come being b; `hold` says a graph's set is
held, so that HELD reads 1 for the coming period. -/
def processSet (j : Nat) (l : List Shadow) (hold : Bool) (s : State) : State :=
  let s := s.setTb j (syncFound s (s.tbOf j))
  let t := s.tbOf j
  let b := t.b + t.len
  let mode := s.fld (R.PWM_TB_CFG j) F.PWM_TB_CFG.MODE
  -- step 4: the period, a follower's with its source's (R204)
  let want := if chained s j then (followNext s j).1 else (setVal l 33 1).getD t.p
  let p := if chained s j then want else limitPeriod mode want
  let s := if p = want then s else s.flagRaise R.PWM_FLAGS F.PWM_FLAGS.PERIOD_CLAMP EV.PERIOD_CLAMP j []
  let us := unitsOfTb s j
  -- step 5: conversion, on the new values
  let conv := fun (l : List Shadow) (p len : Nat) => us.map fun k =>
    let u := unitCommit l k (s.unitOf k)
    (k, u, onTimes s l k (8 * t.p) (8 * p) (8 * len) u)
  let len := (comingLen s j b p).1
  let cand := conv l p len
  -- the events of steps 4 and 5
  let skew := (cand.filter fun (_, _, o) => o.skew).map (·.1)
  let s := if skew.isEmpty then s else
    let s := forEach skew (fun k s => s.setBit (R.PWM_HB_FLAGS k) F.PWM_HB_FLAGS.SKEW true) s
    (s.setBit R.PWM_FLAGS F.PWM_FLAGS.SKEW true).raise EV.PERIOD_DUTY_SKEW j [(5, skew.foldl setBitN 0)]
  let s := forEach ((cand.filter fun (_, _, o) => o.clamp).map (·.1)) dutyClamp s
  -- step 6: overlap, on the widths before and after shape; the last committed values alone are not checked (R185)
  let fails := if l.isEmpty then [] else (cand.filter fun (k, u, o) =>
    let v := (shapeUnit s k (8 * len) o.h o.l u).1
    unitOverlap s k b (8 * len) o.h o.l u || unitOverlap s k b (8 * len) v.nextTH v.nextTL u).map (·.1)
  let refuse := !fails.isEmpty
  let s := if refuse then
      let s := forEach fails (fun k s => s.setBit (R.PWM_HB_FLAGS k) F.PWM_HB_FLAGS.OVERLAP true) s
      (s.setBit R.PWM_FLAGS F.PWM_FLAGS.OVERLAP true).raise EV.OVERLAP_REFUSED j [(5, fails.foldl setBitN 0)]
    else s
  let p := if refuse && !chained s j then t.p else p
  let (len, err) := comingLen s j b p
  let cand := if refuse then conv [] p len else cand
  -- step 5 again on the last committed values
  let s := if refuse then forEach ((cand.filter fun (_, _, o) => o.clamp).map (·.1)) dutyClamp s else s
  -- step 7: shaping
  let s := forEach cand (fun (k, u, o) s => shapeNext k b len o.h o.l { u with dutyH := o.dutyH, dutyL := o.dutyL } s) s
  let held := hold || refuse
  alignChain j (s.setTb j { s.tbOf j with ready := true, hold := held, refuse := refuse, nextP := p, nextLen := len
                                          err := err })

/-! ### Gate edges (R100 to R105, R173) -/

/-- One scheduled edge of unit k falls: its gate is commanded through the interlock, with the edge's profile and, at a
turn-on, the pulse's midpoint (R188). -/
def edgeFalls (k : Nat) (d : Edge) (s : State) : State :=
  let g := if d.high then (gatesOf s k).1 else (gatesOf s k).2
  if g = 63 then s
  else if d.on then
    gateOnP d.prof g d.step (if (s.islOf g).cmdOn then s else s.setIsl g { s.islOf g with mid := d.mid })
  else gateOffP d.prof g d.step s

/-- R173: the next edge scheduled for unit k falls. An off-edge at the very step at which the coming period turns the same
switch on again is none: the pulses meet (R176). The junction estimates of its islands take note of it (R486). -/
def gateEdge (k : Nat) (s : State) : State :=
  match (s.unitOf k).edges with
  | [] => s
  | d :: t =>
    let s := s.until (d.step / 8)
    let u := s.unitOf k
    let s := s.setUnit k { u with edges := t }
    let (h, l) := gatesOf s k
    let s := forEach ([h, l].filter (· < 48)) (fun n s => s.setEst n { s.estOf n with edgeAt := s.dt }) s
    if !d.on && u.next.any (fun x => x.high == d.high && x.on && x.step == d.step) then s else edgeFalls k d s

/-- A unit put in order of a step. -/
def insDue (x : Nat × Nat) : List (Nat × Nat) → List (Nat × Nat)
  | [] => [x]
  | y :: t => if x.1 < y.1 then x :: y :: t else y :: insDue x t

/-- The units whose edges fall before tick t, one for each such edge, in the order of the edges. -/
def dueUnits (s : State) (ks : List Nat) (t : Nat) : List Nat :=
  ((ks.flatMap fun k => ((s.unitOf k).edges.filter fun d => decide (d.step < 8 * t)).map fun d => (d.step, k)).foldl
    (fun a x => insDue x a) []).map (·.2)

/-! ### Trips and latches (R196 to R201) -/

/-- The trip sources a unit selects. -/
def tripSrcs (s : State) (k : Nat) : List Nat :=
  [s.fld (R.PWM_HB_TRIP k) F.PWM_HB_TRIP.SRC0, s.fld (R.PWM_HB_TRIP k) F.PWM_HB_TRIP.SRC1,
   s.fld (R.PWM_HB_TRIP k) F.PWM_HB_TRIP.SRC2, s.fld (R.PWM_HB_TRIP k) F.PWM_HB_TRIP.SRC3]

/-- A selected source of the unit is asserted. -/
def tripOn (s : State) (k : Nat) : Bool := (tripSrcs s k).any fun i => decide (i < 72) && bitN s.trips i

/-- The edges of unit k when a trip stamped t ends its pulses (R197): what falls before tick t + 2 stays; then the high side
goes off, and so does the low side, or with ACT = 1 in complementary mode it comes on DT_HL after the high side's off-edge.
`both` turns both sides off (R200); `fresh` says that the stamp is a boundary, whose period starts no pulse (R198). -/
def tripEdges (s : State) (k t : Nat) (both fresh : Bool) : List Edge :=
  let u := s.unitOf k
  let off := 8 * (t + 2)
  let prof := ctrlProf u.ctrl
  let lowOn := !both && unitMode s k == 0 && s.bit (R.PWM_HB_TRIP k) F.PWM_HB_TRIP.ACT
  let keep := u.edges.filter fun d => decide (d.step < off) && !(fresh && (d.on || (lowOn && !d.high)))
  let last := match (keep.filter fun d => d.high && !d.on).getLast? with
    | some d => d.step
    | none => (s.islOf (gatesOf s k).1).offStep
  let hOff := if sideAt keep true (sideOn s k true) off then off else last
  let low : Edge :=
    if lowOn then ⟨max off (hOff + s.fld (R.PWM_HB_TIMING k) F.PWM_HB_TIMING.DT_HL), false, true, prof 9, 0⟩
    else ⟨off, false, false, prof (if unitMode s k = 2 then 6 else 12), 0⟩
  keep ++ [⟨off, true, false, prof 6, 0⟩, low]

/-- The edges a trip has scheduled at or after a boundary b8 that are still to fall. -/
def tripPending (u : Unit) (b8 : Nat) : List Edge :=
  match u.tripAt with
  | some t => if b8 < 8 * (t + 2) then u.edges.filter fun d => decide (8 * (t + 2) ≤ d.step) else []
  | none => []

/-- Both carries of unit k clear (R192). -/
def carryClear (k : Nat) (s : State) : State :=
  let s := s.setUnit k { s.unitOf k with carryH := 0, carryL := 0 }
  (s.setFld (R.PWM_HB_CARRY k) F.PWM_HB_CARRY.CARRY_H 0).setFld (R.PWM_HB_CARRY k) F.PWM_HB_CARRY.CARRY_L 0

/-- A machine's trip has latched: at tick t + 2 it goes to the selector, once the edges due before that tick have fallen (R27,
R200). -/
def tripSelect (c m stamp : Nat) (s : State) : State :=
  if s.bit (R.PROT_SS_STAT m) F.PROT_SS_STAT.APPLIED then protHold m Why.trip s
  else protHold m Why.trip ((forEach (dueUnits s (unitsOf s c) (stamp + 2)) gateEdge s).until (stamp + 2))

/-- Latching at a stamp: every unit of the converter is held off from tick t + 2, and a traction machine goes to the selector
(R200). -/
def tripLatch (k stamp : Nat) (fresh : Bool) (s : State) : State :=
  match convOfUnit s k with
  | none => s
  | some c =>
    let s := forEach (unitsOf s c) (fun j s =>
      let s := s.setBitAt R.PWM_LATCH F.PWM_LATCH.UNIT j true
      let s := (s.setBit (R.PWM_HB_FLAGS j) F.PWM_HB_FLAGS.LATCH true).setBit (R.PWM_HB_STAT j) F.PWM_HB_STAT.LATCHED true
      let es := if bySelector s j then [] else tripEdges s j stamp true fresh
      let s := carryClear j (s.setUnit j { s.unitOf j with edges := es, tripAt := some stamp })
      s.setBit (R.PWM_HB_STAT j) F.PWM_HB_STAT.EN false) s
    let s := noticeSend EV.TRIP_LATCH k (s.setBit R.PWM_FLAGS F.PWM_FLAGS.TRIP_LATCH true)
    match chanOf s c with
    | some m => tripSelect c m stamp s
    | none => s

/-- One trip of a unit at a stamp (R197, R199): its pulses end two ticks later, unless the selector has its edges; the window
counts, and the N-th trip latches. Its notice goes to the interior (R21). -/
def tripUnit (fresh : Bool) (k stamp : Nat) (s : State) : State :=
  let u := s.unitOf k
  if u.tripAt.isSome || !s.bit (R.PWM_HB_STAT k) F.PWM_HB_STAT.EN || unitLatched s k then s
  else
    let open_ := match u.win with | some w => decide (stamp < w) | none => false
    let cnt := if open_ then satInc 8 (s.fld (R.PWM_HB_STAT k) F.PWM_HB_STAT.TRIP_COUNT) 1 else 1
    let win := if open_ then u.win else some (stamp + s.fld (R.PWM_HB_TRIPWIN k) F.PWM_HB_TRIPWIN.W)
    let es := if bySelector s k then u.edges else tripEdges s k stamp false fresh
    let s := s.setUnit k { u with tripAt := some stamp, edges := es, win := win }
    let s := (s.setBit (R.PWM_HB_FLAGS k) F.PWM_HB_FLAGS.TRIP true).setBit (R.PWM_HB_STAT k) F.PWM_HB_STAT.TRIPPED true
    let s := noticeSend 0 k (s.setFld (R.PWM_HB_STAT k) F.PWM_HB_STAT.TRIP_COUNT cnt)
    if s.fld (R.PWM_HB_TRIP k) F.PWM_HB_TRIP.N ≤ cnt then tripLatch k stamp fresh s else s

/-- R197: a trip source changes; an assertion, stamped t, acts on every unit that selects it. -/
def tripAt (src : Nat) (on : Bool) (t : Nat) (s : State) : State :=
  let s := { s with trips := if on then setBitN s.trips src else clrBitN s.trips src }
  if on then forEach ((List.range 33).filter fun k => (tripSrcs s k).contains src) (fun k s => tripUnit false k t s) s else s

/-- TRIP_ASSERT: a trip source changes now. -/
def tripAssert (src : Nat) (on : Bool) (s : State) : State := tripAt src on s.dt s

def execTripAssert (e : Nat) (src : Fin 72) (on : Bool) (s : State) : Host.Outcome State Fault Refusal :=
  .next (tripAssert src on (s.tick e))

/-- A 1 written to a latch bit: every unit of that converter is released at its next boundary (R201). -/
def latchRelease (mask : Nat) (s : State) : State :=
  let cs := (bitsOf 33 mask).filterMap (convOfUnit s)
  forEach (cs.flatMap (unitsOf s)) (fun k s =>
    if unitLatched s k then s.setUnit k { s.unitOf k with relPend := true } else s) s

/-- Releasing a unit: its latch bit, its window and count, and its carries (R201). -/
def unitRelease (k : Nat) (s : State) : State :=
  let u := s.unitOf k
  let s := s.setUnit k { u with relPend := false, win := none, carryH := 0, carryL := 0 }
  let s := (s.setBitAt R.PWM_LATCH F.PWM_LATCH.UNIT k false).setBit (R.PWM_HB_STAT k) F.PWM_HB_STAT.LATCHED false
  s.setFld (R.PWM_HB_STAT k) F.PWM_HB_STAT.TRIP_COUNT 0

/-- After releases on channel m: with no unit of the machine latched, the trip no longer holds it. -/
def tripDrop (c : Nat) (s : State) : State :=
  match chanOf s c with
  | some m => if bitN (s.selOf m).why Why.trip && !(unitsOf s c).any (unitLatched s) then selDrop m Why.trip s else s
  | none => s

/-! ### The boundary (R184 steps 8 and 9, R325 step 6) -/

/-- The edges of unit k from boundary b on, where it produces any (R176, R187): its pulses of the period before and of the
coming one of sN steps joined, read anew as the gates stand now, since a trip may have moved them after the deadline (R184
step 8); none for a side without a gate (R87), beside what a trip has still to do. -/
def boundaryEdges (s : State) (k b sN : Nat) : List Edge :=
  let u := s.unitOf k
  let pend := tripPending u (8 * b)
  let old := u.edges.filter fun d => !pend.contains d
  let (h, l) := gatesOf s k
  let next := unitEdges s k b sN { u with edges := old }
  let es := (joinEdges (unitMode s k) old next).filter fun d => (if d.high then h else l) != 63
  remid (unitMode s k == 2) (sortEdges (pend ++ es))

/-- A pulse under way at gate g ends at the off-edge now scheduled for its side: the midpoint its island has (R188). -/
def pulseMid (es : List Edge) (high : Bool) (g : Nat) (s : State) : State :=
  match es.find? (fun d => d.high == high) with
  | some d => if g < 48 && !d.on && (s.islOf g).cmdOn then
      s.setIsl g { s.islOf g with mid := ((s.islOf g).onStep + d.step) / 2 } else s
  | none => s

/-- A unit at boundary b: its enable, its trip state, and its edges (R186, R187, R198). One that no longer produces edges goes
off here, but for a latched one, which a trip turns off at its own tick (R200). -/
def unitBoundary (b : Nat) (first : Bool) (k : Nat) (s : State) : State :=
  let on := unitOn s k && !first
  let u := s.unitOf k
  let pend := tripPending u (8 * b)
  let es := if bySelector s k then [] else if on then boundaryEdges s k b (8 * (s.tbOf (tbOfUnit s k)).nextLen) else pend
  let s := s.setBit (R.PWM_HB_STAT k) F.PWM_HB_STAT.EN on
  let s := s.setBit (R.PWM_HB_STAT k) F.PWM_HB_STAT.TRIPPED false
  let s := s.setUnit k { u with tripAt := none, pulseH := u.nextH, pulseL := u.nextL, next := [], edges := es }
  let i := R.PWM_HB_CARRY k
  let s := (s.setSfld i F.PWM_HB_CARRY.CARRY_H u.carryH).setSfld i F.PWM_HB_CARRY.CARRY_L u.carryL
  let s := (s.setFld i F.PWM_HB_CARRY.LAST_H u.lastH).setFld i F.PWM_HB_CARRY.LAST_L u.lastL
  let s := s.setBit (R.PWM_HB_STAT k) F.PWM_HB_STAT.SELECTOR (bySelector s k)
  if !on then (if bySelector s k || (unitLatched s k && !pend.isEmpty) then carryClear k s else unitDark k s)
  else
    let (h, l) := gatesOf s k
    pulseMid es true h (if unitMode s k == 2 then pulseMid es false l s else s)

/-- A source still asserted at boundary b trips the unit for the period that begins (R198). -/
def boundaryTrip (b k : Nat) (s : State) : State :=
  if s.bit (R.PWM_HB_STAT k) F.PWM_HB_STAT.EN && tripOn s k then tripUnit true k b s else s

/-- The releases due at a boundary, before anything else of it (R184 step 8, R201). -/
def releasesDue (ks : List Nat) (s : State) : State :=
  forEach ks (fun k s => if (s.unitOf k).relPend then unitRelease k s else s) s

/-- Selector hand-back at the machine's boundary: the units' edges take over with cleared carries (R187). -/
def handBack (m : Nat) (s : State) : State :=
  let x := s.selOf m
  if !x.back then s
  else
    let s := s.setSel m { x with back := false, swapDue := none, shorted := false }
    let s := s.setBit (R.PROT_SS_STAT m) F.PROT_SS_STAT.APPLIED false
    match machConv s m with
    | some c => forEach (unitsOf s c) (fun k s =>
        let t := s.tbOf (tbOfUnit s k)
        let u := { s.unitOf k with carryH := 0, carryL := 0, edges := [] }
        if t.first then s.setUnit k u else shapeNext k (t.b + t.len) t.nextLen u.tH u.tL u s) s
    | none => s

/-- `PWM_SYNC_STAT.LOCKED`: a running timebase tracks SYNC_IN with error 0. -/
def showLocked (s : State) : State :=
  s.setBit R.PWM_SYNC_STAT F.PWM_SYNC_STAT.LOCKED ((List.range 6).any fun j => (s.tbOf j).run && (s.tbOf j).locked)

/-- At a boundary that lies where SYNC_IN places it, with nothing left to correct, tracking is locked (R207;
assumption 85). -/
def syncPlaced (j : Nat) (s : State) : State :=
  let t := s.tbOf j
  let none_ := match t.found with | some (_, e) => e == 0 | none => true
  if t.syncOn && none_ && t.err == 0 && t.len == t.p && !t.locked then
    noticeSend EV.SYNC_LOCKED j (showLocked (s.setTb j { t with locked := true }))
  else s

/-- The timebase's own part of a boundary: the period that begins, its count, its registers. -/
def tbBoundary (j : Nat) (s : State) : State :=
  let t := s.tbOf j
  let first := t.first
  let b := if first then t.b else t.b + t.len
  let p := if first then t.p else t.nextP
  let no := if first then 0 else t.no + 1
  let x := if first then (p, t.srcB, 0) else followNext s j
  let len := if chained s j then followLen s j b p x.2.1 x.2.2 else if first then p else t.nextLen
  let t' := { t with b := b, p := p, nextP := p, nextLen := p, len := len, no := no, first := false, ready := false,
                     hold := false, refuse := false, srcB := x.2.1, idx := x.2.2 }
  let s := alignChain j (s.setTb j t')
  let s := (s.setFld (R.PWM_TB_STAT j) F.PWM_TB_STAT.PERIOD_NO no).setFld (R.PWM_TB_PERIOD j) F.PWM_TB_PERIOD.ACTIVE p
  let s := (s.setBit (R.PWM_TB_STAT j) F.PWM_TB_STAT.HELD (t.hold && !first)).setBit (R.PWM_TB_STAT j) F.PWM_TB_STAT.REFUSED (t.refuse && !first)
  let s := if t.hold && !first then s.setBit R.PWM_FLAGS F.PWM_FLAGS.HELD true else s
  if first then s else syncPlaced j s

/-- The tick of timebase j's next boundary. -/
def nextB (s : State) (j : Nat) : Nat := let t := s.tbOf j; if t.first then t.b else t.b + t.len

/-- A timebase stops: no converter wants it any more (R170). -/
def tbStop (j : Nat) (s : State) : State :=
  let s := s.setTb j { s.tbOf j with run := false, ready := false, token := false, closed := [], full := false, syncOn := false
                                     locked := false, err := 0, found := none }
  (showLocked s).setBit (R.PWM_TB_CFG j) F.PWM_TB_CFG.RUN false

/-- The next SYNC_IN edge expected now, where edges have been coming (R206). -/
def syncNext (s : State) (t : Tb) : Option Nat :=
  match t.lastEdge with
  | some a =>
    if s.dt < a + 3 * t.p + s.fld R.PWM_SYNC_CFG F.PWM_SYNC_CFG.TOL + 1 then some (a + ((s.dt - a) / max 1 t.p + 1) * t.p) else none
  | none => none

/-- A timebase begins to run (R170): a free one starts 1,000 ticks later, a chain follower at its source's next period start
plus its offset, one on SYNC_IN at the next edge expected plus its offset; where no edge is expected, as a free one
(assumption 76). -/
def tbStart (j : Nat) (s : State) : State :=
  let t := s.tbOf j
  let start := match s.fld (R.PWM_TB_CFG j) F.PWM_TB_CFG.SRC == 2, syncNext s t with
    | true, some a => a + tbOfs s j t.p
    | _, _ => s.dt + 1000
  let s := s.setTb j { t with run := true, first := true, b := start, p := t.p, len := t.p, nextP := t.p, nextLen := t.p,
                              no := 0, idx := 0, srcB := nextB s (j - 1), ready := false, syncOn := false, err := 0,
                              found := none, locked := false }
  let s := alignTb j (s.setBit (R.PWM_TB_CFG j) F.PWM_TB_CFG.RUN true)
  s.setFld (R.PWM_TB_STAT j) F.PWM_TB_STAT.PERIOD_NO 0

/-! ### SYNC_IN (R206, R207) -/

/-- The timebases that take their period start from SYNC_IN. -/
def syncTbs (s : State) : List Nat := (List.range 6).filter fun j => s.fld (R.PWM_TB_CFG j) F.PWM_TB_CFG.SRC == 2

/-- The error that places timebase j's boundary at an edge plus the offset: the signed distance from the nearest boundary as
decided so far, in a period of the coming length. -/
def syncErr (s : State) (j edge : Nat) : Int :=
  let t := s.tbOf j
  let p := comingP t
  let b := nextB s j + (if t.ready then t.nextLen else 0)
  let d := ((edge + tbOfs s j p : Nat) : Int) - b
  let r := d % (max 1 p : Nat)
  if 2 * r > p then r - p else r

/-- An edge now falls in a window of timebase j: while it tracks, around one to three periods after the edge accepted last;
before that, around one period after the last edge seen (R206, R207). -/
def syncInWindow (s : State) (j : Nat) : Bool :=
  let t := s.tbOf j
  let tol := s.fld R.PWM_SYNC_CFG F.PWM_SYNC_CFG.TOL
  match t.lastEdge with
  | none => false
  | some a => (if t.syncOn then [1, 2, 3] else [1]).any fun k =>
      decide (k * t.p ≤ s.dt - a + tol ∧ s.dt - a < k * t.p + tol + 1)

/-- Timebase j accepts the edge now; the error it finds acts two ticks later (R27). `ERR` shows the low 16 bits of the error of
the timebase that accepted last (DESIGN CHOICE, assumption 93). -/
def syncAccept (j : Nat) (s : State) : State :=
  let err := syncErr s j s.dt
  let t := s.tbOf j
  let s := s.setTb j { t with syncOn := true, lastEdge := some s.dt, found := some (s.dt + 2, err), locked := t.locked && err == 0 }
  let i := R.PWM_SYNC_STAT
  showLocked ((s.setSfld i F.PWM_SYNC_STAT.ERR err).setBit i F.PWM_SYNC_STAT.LOST false)

/-- R206, R207: a rising edge at SYNC_IN, stamped now. Tracking begins, after a start as after a loss, with two consecutive
edges one period apart; an edge with none before it is only remembered (assumption 76). With several timebases on SYNC_IN an
edge counts as missed only where none of them accepts it (DESIGN CHOICE, assumption 93). -/
def syncEdge (s : State) : State :=
  if !s.bit R.PWM_SYNC_CFG F.PWM_SYNC_CFG.IN_EN then s
  else
    let run := (syncTbs s).filter fun j => (s.tbOf j).run
    let acc := run.filter (syncInWindow s)
    let missed := acc.isEmpty && run.any fun j => (s.tbOf j).lastEdge.isSome
    let s := forEach ((syncTbs s).filter fun j => !acc.contains j && !(s.tbOf j).syncOn) (fun j s =>
      s.setTb j { s.tbOf j with lastEdge := some s.dt }) s
    let s := forEach acc syncAccept s
    if missed then s.incFld R.PWM_SYNC_STAT F.PWM_SYNC_STAT.MISSED 1 else s

def execSyncInEdge (e : Nat) (s : State) : Host.Outcome State Fault Refusal := .next (syncEdge (s.tick e))

/-- The tick by which three expected windows of timebase j have passed. -/
def syncEnd (s : State) (j : Nat) : Nat :=
  (s.tbOf j).lastEdge.getD 0 + 3 * (s.tbOf j).p + s.fld R.PWM_SYNC_CFG F.PWM_SYNC_CFG.TOL + 1

/-- Timebase j has lost SYNC_IN: it runs free at P, from the period after those already decided. -/
def syncDrop (j : Nat) (s : State) : State :=
  let s := s.setTb j { s.tbOf j with syncOn := false, err := 0, found := none, lastEdge := none, locked := false }
  let s := showLocked (s.setBit R.PWM_SYNC_STAT F.PWM_SYNC_STAT.LOST true)
  noticeSend EV.SYNC_LOST j (s.setBit R.PWM_FLAGS F.PWM_FLAGS.SYNC_LOST true)

/-- R207: three expected windows in a row have passed without an accepted edge, at the timebase whose windows end first. -/
def syncLost (s : State) : State :=
  match (syncTbs s).filter fun j => (s.tbOf j).run && (s.tbOf j).syncOn with
  | [] => s
  | j :: l =>
    let s := s.until (l.foldl (fun a k => min a (syncEnd s k)) (syncEnd s j))
    forEach ((j :: l).filter fun k => decide (syncEnd s k ≤ s.dt)) syncDrop s

def execSyncLost (e : Nat) (s : State) : Host.Outcome State Fault Refusal := .next (syncLost (s.tick e))

/-! ### Forced outputs (R208) -/

/-- A `PWM_FORCE` value put in force: with EN = 1 the unit's sides stand at H and L through the interlock, which suppresses
both where both are asked (R144, R146, R208): a side already on goes off with the other, and both suppressions count (DESIGN
CHOICE, assumption 91); with EN = 0 the unit forced before is off. -/
def forceApply (old : Reg) (s : State) : State :=
  let dark := fun (v : Reg) (s : State) => if F.PWM_FORCE.EN.get v = 1 then gatesOff (gatesOfUnits s [F.PWM_FORCE.UNIT.get v]) s else s
  let v := s.reg R.PWM_FORCE
  let (h, l) := gatesOf s (F.PWM_FORCE.UNIT.get v)
  if F.PWM_FORCE.EN.get v = 1 then
    let s := if F.PWM_FORCE.UNIT.get old = F.PWM_FORCE.UNIT.get v then s else dark old s
    let s := if F.PWM_FORCE.H.get v = 0 ∧ h ≠ 63 then gatesOff [h] s else s
    let s := if F.PWM_FORCE.L.get v = 0 ∧ l ≠ 63 then gatesOff [l] s else s
    let k := F.PWM_FORCE.UNIT.get v
    if F.PWM_FORCE.H.get v = 1 ∧ F.PWM_FORCE.L.get v = 1 ∧ !ilExempt s k then
      shootBlock k (shootBlock k (gatesOff [h, l] s))
    else
      let s := if F.PWM_FORCE.H.get v = 1 ∧ h ≠ 63 then gatesOn [h] s else s
      if F.PWM_FORCE.L.get v = 1 ∧ l ≠ 63 then gatesOn [l] s else s
  else dark old s

end Sys2Proof.Machine
end

