-- ==== Sys2Proof/Machine/Measure.lean ====
section
/-! DEFINITION. Measurement: the reference buffer, conversion and calibration, ADC modes, crossing FIFOs, result queues,
window comparators, resolvers, encoders and SENT receivers (chapter 6, with R21 to R23 and R54). -/

namespace Sys2Proof.Machine

/-! ### Entries, crossing FIFOs and queues (R21 to R23, R236 to R242) -/

/-- The 64-bit word of an entry (R236). -/
def QEnt.word (x : QEnt) : Nat :=
  x.stamp % 2 ^ 28 * 2 ^ 36 + b2n x.qual * 2 ^ 35 + b2n x.rep * 2 ^ 34 + b2n x.range * 2 ^ 33 + b2n x.lost * 2 ^ 32 +
  b2n x.unset * 2 ^ 31 + x.seq % 256 * 2 ^ 23 + x.chan % 128 * 2 ^ 16 + x.sample % 65536

/-- A channel's samples are signed (R283, R640). -/
def chanSigned (c : Nat) : Bool := c < 64 || [0x58, 0x5A, 0x5B, 0x74, 0x75, 0x77].contains c

/-- An entry's sample as a number. -/
def QEnt.val (x : QEnt) : Int := if chanSigned x.chan then sx 16 x.sample else (x.sample : Int)

/-- The sticky flags of a result (R217, R218). -/
def resultFlags (x : QEnt) (s : State) : State :=
  let s := if x.range then s.setBit R.ADC_FLAGS F.ADC_FLAGS.RANGE true else s
  if x.unset then s.setBit R.ADC_FLAGS F.ADC_FLAGS.UNSETTLED true else s

/-- A discard leaves LOST for the next entry of the queue (R237). -/
def queLost (q : Nat) (s : State) : State := s.setQue q { s.queOf q with lost := true }

/-- A producer's element enters crossing FIFO k; a full FIFO discards it (R23, R237). -/
def xfPush (k : Nat) (el : List (Nat × QEnt)) (s : State) : State :=
  let x := s.xfOf k
  if xfDepth (xfId k) ≤ x.ents.length then
    let s := forEach el (fun p s => queLost p.1 s) s
    xfDiscard (xfId k) x.run (s.setXf k { x with run := true })
  else
    let s := forEach el (fun p s => resultFlags p.2 s) s
    s.setXf k { ents := x.ents ++ [el], run := false }

/-- A queue's capacity and its consumer (R238). -/
def queSize (s : State) (q : Nat) : Nat := s.fld (R.QUE_Q_CFG q) F.QUE_Q_CFG.SIZE
/-- A queue's consumer: 0 none, 1 host, 2 engine pair, 3 recorder. -/
def queCons (s : State) (q : Nat) : Nat := s.fld (R.QUE_Q_CFG q) F.QUE_Q_CFG.CONS

/-- Freeing the n oldest entries of a queue: the pointer moves on around the queue's size. -/
def queFree (q n : Nat) (s : State) : State :=
  let x := s.queOf q
  let n := min n x.ents.length
  let rd := (s.fld (R.QUE_Q_PTR q) F.QUE_Q_PTR.RD + n) % max 1 (queSize s q)
  let s := s.setQue q { x with ents := x.ents.drop n }
  (s.setFld (R.QUE_Q_PTR q) F.QUE_Q_PTR.FILL (x.ents.length - n)).setFld (R.QUE_Q_PTR q) F.QUE_Q_PTR.RD rd

/-- The recorder's source key: a queue channel, or a TAP (R635). -/
def recKey (src chan : Nat) : Nat := if src = 0 then chan else 1024 + chan

/-- The recorder takes a value of a recorded channel (R635). -/
def recTake (key stamp val : Nat) (s : State) : State :=
  let has := match s.plant with | some p => p.recs.any (fun c => recKey c.src c.chan == key) | none => false
  if has then
    let old := AMap.getD s.rcd.hist key []
    { s with rcd := { s.rcd with hist := AMap.ins s.rcd.hist key (old ++ [⟨stamp, s.dt, val⟩]) } }
  else s

/-- An entry due for queue q now would find room (R241). -/
def queTakes (s : State) (q : Nat) : Bool := decide ((s.queOf q).ents.length < queSize s q)

/-- One entry is written to its queue (R236), or discarded when the queue is full (R241). The recorder watches the write,
and frees the entry at once where it is the consumer (R238). -/
def queWrite (q : Nat) (x : QEnt) (s : State) : State :=
  let u := s.queOf q
  if queSize s q ≤ u.ents.length then
    let s := s.setQue q { u with lost := true, run := true }
    let s := (s.incFld (R.QUE_Q_STAT q) F.QUE_Q_STAT.DROPPED 1).setBitAt R.QUE_FLAGS F.QUE_FLAGS.OVF q true
    if u.run then s else s.raise EV.QUEUE_OVERFLOW q []
  else
    let s := s.setQue q { ents := u.ents ++ [{ x with lost := u.lost }], lost := false, run := false }
    let s := s.setFld (R.QUE_Q_PTR q) F.QUE_Q_PTR.FILL (u.ents.length + 1)
    let w := (s.meas.wrote.filter fun t => decide (s.dt < t + 200000)) ++ [s.dt]
    let s := { s with meas := { s.meas with wrote := w } }
    let s := s.setFld R.QUE_RATE F.QUE_RATE.PEAK (max (s.fld R.QUE_RATE F.QUE_RATE.PEAK) w.length)
    let s := recTake x.chan x.stamp x.sample s
    if queCons s q = 3 then queFree q 1 s else s

/-- R242: accepting a description empties every queue, and what stands in the FIFOs in front of them. -/
def queEmptyAll (s : State) : State :=
  let s := { s with meas := { s.meas with que := [], xf := [] } }
  forEach (List.range 32) (fun q s => s.setReg (R.QUE_Q_PTR q) 0) s

/-- R240: whether an acknowledgement of n entries is answered BAD_PARAM. -/
def ackBad (s : State) (q n : Nat) : Bool := queCons s q != 1 || decide ((s.queOf q).ents.length < n)

/-! ### Conversion (R218 to R222) -/

/-- A raw code limited to 16 bits, and whether it stands at a limit (R218). -/
def rawCode (c : Int) : Int × Bool := let d := clampI (-32768) 32767 c; (d, d == -32768 || d == 32767)

/-- The calibrated result of a sum of raw codes (R219), and whether it was limited. -/
def calResult (sum count : Int) (cal : Reg) : Int × Bool :=
  let g : Int := F.ADC_AIN_CAL.GAIN.get cal
  let o := sx 16 (F.ADC_AIN_CAL.OFFSET.get cal)
  let r := fdiv (sum * g + count * 2 ^ 14) (count * 2 ^ 15) + o
  let d := clampI (-32768) 32767 r
  (d, d != r)

/-- A phase-sense result (R221) from the raw code. Its limit is none of those that set RANGE (R236). -/
def phsResult (code ratio : Int) : Nat := (clampI 0 65535 (fdiv (code * ratio + 125) 250)).toNat

/-- The calibration in force at ADC n for a channel; channels without a calibration register convert at gain 1 (R219 to
R221). -/
def calNow (s : State) (n chan : Nat) : Reg :=
  if 64 ≤ chan then resetReg (R.ADC_AIN_CAL 0)
  else match AMap.get? (s.adcOf n).pin chan with
    | some v => v
    | none => s.reg (R.ADC_AIN_CAL chan)

/-- A channel's sample and RANGE flag from the raw codes of its `count` samples, a code not given being 0 (R218, R219, R221,
R222). The die temperature and the VANA monitor give their values in the units of R214. -/
def samplesResult (s : State) (chan : Nat) (cal : Reg) (codes : List Int) (count : Nat) : Nat × Bool :=
  let cs := ((codes ++ List.replicate (count - codes.length) 0).take count).map rawCode
  let sum := cs.foldl (fun a c => a + c.1) 0
  let lim := cs.any (·.2)
  if 0x40 ≤ chan ∧ chan < 0x58 then
    let code := (calResult sum count (resetReg (R.ADC_AIN_CAL 0))).1
    (phsResult code (s.fld R.ADC_PHS_CFG F.ADC_PHS_CFG.RATIO), lim || cs.any fun c => phsOut c.1)
  else
    let r := calResult sum count cal
    (unsx 16 r.1, r.2 || lim)

/-- The sum of a window's raw codes, each within its limits. -/
def rawSum (codes : List Int) (count : Nat) : Int := (codes.take count).foldl (fun a c => a + (rawCode c).1) 0

/-! ### The reference buffer (R54, R215 to R217, R227) -/

/-- Whether the reference has settled. -/
def refSettled (s : State) : Bool := s.bit R.ADC_REF_CTRL F.ADC_REF_CTRL.SETTLED

/-- `SETTLED` was 0 at some sampling instant from tick a to tick z (R217); between two falls lie at least the 5 ms of R54. -/
def refUnset (s : State) (a z : Nat) : Bool :=
  if refSettled s then decide (s.meas.refFell ≤ z ∧ a < s.meas.refRose) else decide (s.meas.refFell ≤ z ∨ a < s.meas.refRose)

/-- Comparator c's own output at its pin's voltage (R225): outside the window, back inside by the hysteresis, or as it was. -/
def wcmpOut (s : State) (c : Nat) : Bool :=
  let r := s.reg (R.ADC_WCMP c)
  let v := AMap.getD s.meas.wpin c 0
  let hi := 2000 * sx 12 (F.ADC_WCMP.HI.get r)
  let lo := 2000 * sx 12 (F.ADC_WCMP.LO.get r)
  let h : Int := 2000 * F.ADC_WCMP.HYST.get r
  if F.ADC_WCMP.EN.get r = 0 then false
  else if hi < v ∨ v < lo then true
  else if v < hi - h ∧ lo + h < v then false
  else bitN s.meas.wraw c

/-- Comparator c's output changes (R225 to R227): it is asserted while enabled and either outside its window or while
the reference is not settled. An assertion captured now is a trip stamped `FILT` ticks later. -/
def wcmpEval (c : Nat) (s : State) : State :=
  let want := s.bit (R.ADC_WCMP c) F.ADC_WCMP.EN && (bitN s.meas.wraw c || !refSettled s)
  let i := R.ADC_WCMP_STAT (c / 32)
  let now := bitN (s.fld i F.ADC_WCMP_STAT.ASSERTED) (c % 32)
  if want == now then s
  else
    let s := s.setBitAt i F.ADC_WCMP_STAT.ASSERTED (c % 32) want
    let s := if want then s.setBitAt (R.ADC_WCMP_FLAGS (c / 32)) F.ADC_WCMP_FLAGS.SEEN (c % 32) true else s
    let s := if want then s else { s with meas := { s.meas with wend := AMap.ins s.meas.wend c s.dt } }
    tripAt c want (s.dt + if want then s.fld (R.ADC_WCMP c) F.ADC_WCMP.FILT else 0) s

/-- Comparator c's own output taken over (R225). -/
def wcmpTake (c : Nat) (s : State) : State :=
  let raw := if wcmpOut s c then setBitN s.meas.wraw c else clrBitN s.meas.wraw c
  wcmpEval c { s with meas := { s.meas with wraw := raw } }

/-- Every comparator evaluated, the shortest `FILT` first, so that trips come in the order of their stamps. -/
def wcmpAll (s : State) : State :=
  forEach ((sortNat ((List.range 64).map fun c => 64 * s.fld (R.ADC_WCMP c) F.ADC_WCMP.FILT + c)).map (· % 64)) wcmpEval s

/-- The reference is no longer settled: at once on a disable or a fall of VANA (R54). Every sample from now on makes its
result carry REF_UNSETTLED, and every enabled comparator reads asserted. -/
def refUnsettle (s : State) : State :=
  let fell := if refSettled s then s.dt else s.meas.refFell
  let s := { s with meas := { s.meas with refDue := none, refFell := fell } }
  wcmpAll (s.setBit R.ADC_REF_CTRL F.ADC_REF_CTRL.SETTLED false)

/-- The settling time starts when the buffer is enabled with VANA above its rising threshold (R54). -/
def refStart (s : State) : State :=
  if s.bit R.ADC_REF_CTRL F.ADC_REF_CTRL.EN && s.bit R.DEV_SUPPLY F.DEV_SUPPLY.VANA_OK && !refSettled s then
    { s with meas := { s.meas with refDue := some (s.dt + 1000000) } }
  else s

/-- R215: the reference settles. -/
def refSettles (s : State) : State :=
  match s.meas.refDue with
  | none => s
  | some t =>
    let s := s.until t
    let s := { s with meas := { s.meas with refDue := none, refRose := s.dt } }
    let s := s.setBit R.ADC_REF_CTRL F.ADC_REF_CTRL.SETTLED true
    wcmpAll (s.raise EV.REF_SETTLED 0xFF [])

def execRefSettled (e : Nat) (s : State) : Host.Outcome State Fault Refusal := .next (refSettles (s.tick e))

/-- R216: whether a write of `ADC_REF_CTRL` is answered WRONG_MODE. -/
def refWrongMode (s : State) (v : Reg) : Bool :=
  F.ADC_REF_CTRL.EN.get v = 0 && (s.mode == Mode.drive || s.mode == Mode.charge)

/-- A value of `ADC_REF_CTRL.EN` put in force. -/
def refEnable (on : Bool) (s : State) : State :=
  let was := s.bit R.ADC_REF_CTRL F.ADC_REF_CTRL.EN
  let s := s.setBit R.ADC_REF_CTRL F.ADC_REF_CTRL.EN on
  if on && !was then refStart s else if was && !on then refUnsettle s else s

/-- R225, R226: the voltage at comparator c's pin, in microvolts, crosses a threshold. An output that asserts is first captured
now and has stood asserted for `FILT` ticks at its stamp. A release takes effect at once. -/
def wcmpPin (c : Nat) (uv : Int) (s : State) : State :=
  wcmpTake c { s with meas := { s.meas with wpin := AMap.ins s.meas.wpin c uv } }

def execWcmpAssert (e : Nat) (c : Fin 64) (uv : BitVec 24) (s : State) : Host.Outcome State Fault Refusal :=
  .next (wcmpPin c uv.toInt (s.tick e))

/-! ### ADC modes (R229 to R235) -/

/-- ADC n's mode: 0 off, 1 sample, 2 integrating, 3 continuous. -/
def adcMode (s : State) (n : Nat) : Nat := s.fld (R.ADC_AD_CFG n) F.ADC_AD_CFG.MODE

/-- The ADCs bound to timebase j with a mode. -/
def adcsOf (s : State) (j : Nat) : List Nat :=
  (List.range 12).filter fun n => adcMode s n != 0 && s.fld (R.ADC_AD_CFG n) F.ADC_AD_CFG.TB == j &&
    !s.bit (R.ADC_AD_STAT n) F.ADC_AD_STAT.FAILED

/-- The channels ADC n converts. -/
def adcChans (s : State) (n : Nat) : List Nat :=
  match adcMode s n with
  | 0 => []
  | 1 => (List.range (s.fld (R.ADC_AD_CFG n) F.ADC_AD_CFG.LEN + 1)).map fun i => s.fld (R.ADC_AD_SLOT n i) F.ADC_AD_SLOT.CHAN
  | _ => [s.fld (R.ADC_AD_CFG n) F.ADC_AD_CFG.CHAN]

/-- A slot still to be sampled at tick b takes the calibration written meanwhile; one whose first sample lies before keeps the one
it began with (R220). -/
def slotCal (b : Nat) (s : State) (d : SlotDue) : SlotDue :=
  if b ≤ d.stamp ∧ d.chan < 64 then { d with cal := s.reg (R.ADC_AIN_CAL d.chan) } else d

/-- A boundary of timebase j at ADC n: the window of the period that ended closes (R233), a new configuration takes effect
(R229), a written calibration too (R220). `len` and `no` are those of the period that ended. An ADC that integrates or streams a
channel has converted it last (R231). -/
def adcBoundary (n b len no : Nat) (first : Bool) (s : State) : State :=
  let x := s.adcOf n
  let chan := s.fld (R.ADC_AD_CFG n) F.ADC_AD_CFG.CHAN
  let wins := if x.act && x.open_ && !first && adcMode s n == 2 then
      x.wins ++ [⟨b - len, len, no, calNow s n chan, x.rep⟩] else x.wins
  let s := s.setAdc n
    { x with act := true, open_ := adcMode s n == 2, wins := wins, pin := [], slots := x.slots.map (slotCal b s),
             lastChan := if 2 ≤ adcMode s n then some chan else x.lastChan,
             rep := x.rep && (!x.act || adcMode s n == 1),
             cont := if x.act then x.cont else 0 }
  s.setBit (R.ADC_AD_STAT n) F.ADC_AD_STAT.RUN true

/-- R229: timebase j stops; windows and sequences in progress are discarded. A continuous ADC, once its configuration is in
effect, converts on at every clock (R235). -/
def adcStopTb (j : Nat) (s : State) : State :=
  forEach ((adcsOf s j).filter fun n => adcMode s n != 3) (fun n s =>
    let s := s.setAdc n { s.adcOf n with
      act := false, open_ := false, slots := slotsLeft s n, busyTill := 0, cont := 0, ovRun := false, pin := [] }
    (s.setBit (R.ADC_AD_STAT n) F.ADC_AD_STAT.RUN false).setBit (R.ADC_AD_STAT n) F.ADC_AD_STAT.BUSY false) s

/-- The slots of a triggered sequence with their stamps and due ticks (R231), from the tick the next slot starts; and the
tick at which the sequence ends, with the channel last converted. -/
def seqSlots (s : State) (n seq : Nat) : List Nat → Nat → Option Nat → List SlotDue × Nat × Option Nat
  | [], t, last => ([], t, last)
  | i :: l, t, last =>
    let chan := s.fld (R.ADC_AD_SLOT n i) F.ADC_AD_SLOT.CHAN
    let q := s.fld (R.ADC_AD_SLOT n i) F.ADC_AD_SLOT.QUEUE
    let avg := s.fld (R.ADC_AD_SLOT n i) F.ADC_AD_SLOT.AVG
    let rep := (s.adcOf n).rep
    if 0x60 ≤ chan then
      let r := seqSlots s n seq l (t + 2) last
      (⟨chan, q, 0, t, t, seq, 0, rep⟩ :: r.1, r.2)
    else
      let t0 := if last = some chan then t else t + 4
      let te := t0 + 2 * 2 ^ avg
      let r := seqSlots s n seq l te (some chan)
      (⟨chan, q, avg, t0, te - 2 + 20, seq, calNow s n chan, rep⟩ :: r.1, r.2)

/-- Sorting the slots still due by their due tick. -/
def insSlot (x : SlotDue) : List SlotDue → List SlotDue
  | [] => [x]
  | y :: t => if x.due < y.due then x :: y :: t else y :: insSlot x t

/-- R230, R232: a trigger of ADC n falls in the present period of its timebase, at its position in the period. The trigger
falls only in periods whose count is a multiple of 2^EVERY; one that meets a running sequence is dropped, and its number
is consumed. While pre-start diagnostics run no placed sequence does (R257): none is triggered then (assumption 80). -/
def adcTrigger (n : Nat) (s : State) : State :=
  let x := s.adcOf n
  let j := s.fld (R.ADC_AD_CFG n) F.ADC_AD_CFG.TB
  let t := s.tbOf j
  let every := 2 ^ s.fld (R.ADC_AD_TRIG n) F.ADC_AD_TRIG.EVERY
  if adcMode s n ≠ 1 ∨ x.act = false ∨ t.run = false ∨ t.first = true ∨ t.no % every ≠ 0 ∨
      s.bit (R.ADC_AD_STAT n) F.ADC_AD_STAT.FAILED = true ∨ s.bit R.PROT_PRE_STAT F.PROT_PRE_STAT.RUNNING = true then s
  else
    let at_ := t.b + s.fld (R.ADC_AD_TRIG n) F.ADC_AD_TRIG.AT * t.len / 2 ^ 31
    let s := s.until at_
    let seq := (s.fld (R.ADC_AD_STAT n) F.ADC_AD_STAT.SEQ_NO + 1) % 256
    let s := s.setFld (R.ADC_AD_STAT n) F.ADC_AD_STAT.SEQ_NO seq
    if at_ < x.busyTill then
      let s := (s.incFld (R.ADC_AD_STAT n) F.ADC_AD_STAT.OVERRUNS 1).setBit R.ADC_FLAGS F.ADC_FLAGS.SEQ_OVERRUN true
      let s := s.setAdc n { x with ovRun := true }
      if x.ovRun then s else s.raise EV.SEQ_OVERRUN n []
    else
      let start := at_ + at_ % 2
      let len := s.fld (R.ADC_AD_CFG n) F.ADC_AD_CFG.LEN
      let r := seqSlots s n seq (List.range (len + 1)) start x.lastChan
      let s := s.setAdc n { x with busyTill := r.2.1, lastChan := r.2.2, slots := r.1.foldl (fun a d => insSlot d a) x.slots,
                                   ovRun := false, rep := false }
      s.setBit (R.ADC_AD_STAT n) F.ADC_AD_STAT.BUSY true

def execAdcTrigger (e : Nat) (n : Fin 12) (s : State) : Host.Outcome State Fault Refusal :=
  .next (adcTrigger n (s.tick e))

/-- Whether a position channel's entry carries QUAL (R248, R251). -/
def posQual (s : State) (chan : Nat) : Bool :=
  if chan < 0x62 then s.bit (R.ADC_RES_STAT (chan - 0x60)) F.ADC_RES_STAT.LOS || s.bit (R.ADC_RES_STAT (chan - 0x60)) F.ADC_RES_STAT.LOT
  else bitN s.meas.encQual (chan - 0x62)

/-- R231: the next scheduled slot of ADC n completes. For an ADC channel `codes` are the raw codes of its samples; for a
resolver the first is the angle's bits 31:16; an encoder's count is the interface's own. -/
def slotResult (n : Nat) (codes : List Int) (s : State) : State :=
  let x := s.adcOf n
  match x.slots with
  | [] => s
  | d :: rest =>
    let s := s.until d.due
    let s := s.setAdc n { x with slots := rest }
    let s := if s.dt ≥ x.busyTill then s.setBit (R.ADC_AD_STAT n) F.ADC_AD_STAT.BUSY false else s
    if 0x60 ≤ d.chan then
      let r := d.chan - 0x60
      let s := if r < 2 then s.setFld (R.ADC_RES_STAT r) F.ADC_RES_STAT.ANGLE (unsx 16 (codes.headD 0)) else s
      let v := if r < 2 then s.fld (R.ADC_RES_STAT r) F.ADC_RES_STAT.ANGLE else s.fld (R.ADC_ENC_STAT (r - 2)) F.ADC_ENC_STAT.COUNT
      xfPush (4 * 64 + r) [(d.queue, { stamp := d.stamp, chan := d.chan, sample := v, seq := d.seq, qual := posQual s d.chan, rep := d.rep })] s
    else
      let cnt := 2 ^ d.avg
      let v := samplesResult s d.chan d.cal codes cnt
      let uns := refUnset s d.stamp (d.stamp + 2 * (cnt - 1))
      xfPush (3 * 64 + n) [(d.queue, { stamp := d.stamp, chan := d.chan, sample := v.1, seq := d.seq, range := v.2, unset := uns, rep := d.rep })] s

def execAdcSlotResult (e : Nat) (n : Fin 12) (codes : List Int) (s : State) : Host.Outcome State Fault Refusal :=
  .next (slotResult n codes (s.tick e))

/-- The number of even ticks in [b, b + p) (R233). -/
def evenTicks (b p : Nat) : Nat := (b + p + 1) / 2 - (b + 1) / 2

/-- R233, R234: the result of ADC n's oldest closed window enters the FIFO 40 ticks after the window closed; `codes` are the raw
codes of its samples, one for each even tick in it. -/
def integratorResult (n : Nat) (codes : List Int) (s : State) : State :=
  let x := s.adcOf n
  match x.wins with
  | [] => s
  | w :: rest =>
    let s := s.until (w.b + w.len + 40)
    let cnt := evenTicks w.b w.len
    let s := s.setAdc n { x with wins := rest }
    let s := (s.setReg (R.ADC_AD_INTSUM n) (BitVec.ofInt 40 (rawSum codes cnt))).setFld (R.ADC_AD_STAT n) F.ADC_AD_STAT.COUNT cnt
    let chan := s.fld (R.ADC_AD_CFG n) F.ADC_AD_CFG.CHAN
    let v := samplesResult s chan w.cal codes (max 1 cnt)
    let uns := refUnset s (w.b + w.b % 2) (w.b + w.len - 1 - (w.b + w.len - 1) % 2)
    let q := s.fld (R.ADC_AD_CFG n) F.ADC_AD_CFG.QUEUE
    xfPush (3 * 64 + n) [(q, { stamp := w.b, chan := chan, sample := v.1, seq := w.no % 256, range := v.2, unset := uns, rep := w.rep })] s

def execIntegratorResult (e : Nat) (n : Fin 12) (first : Int) (codes : List Int) (s : State) : Host.Outcome State Fault Refusal :=
  .next (integratorResult n (first :: codes) (s.tick e))

/-- R235: a conversion of a continuous ADC is available now, 9 clocks after its even sampling tick; every 2^DEC-th is
queued. -/
def continuousSample (n : Nat) (code : Int) (s : State) : State :=
  let x := s.adcOf n
  if adcMode s n ≠ 3 ∨ x.act = false then s
  else
    let dec := 2 ^ s.fld (R.ADC_AD_CFG n) F.ADC_AD_CFG.DEC
    let s := s.setAdc n { x with cont := x.cont + 1 }
    if x.cont % dec ≠ 0 then s
    else
      let chan := s.fld (R.ADC_AD_CFG n) F.ADC_AD_CFG.CHAN
      let v := samplesResult s chan (calNow s n chan) [code] 1
      let q := s.fld (R.ADC_AD_CFG n) F.ADC_AD_CFG.QUEUE
      let stamp := s.dt - s.dt % 2 - 18
      xfPush (3 * 64 + n) [(q, { stamp := stamp, chan := chan, sample := v.1, seq := x.cont / dec % 256, range := v.2,
                                 unset := refUnset s stamp stamp, rep := x.rep })] s

def execContinuousSample (e : Nat) (n : Fin 12) (code : Int) (s : State) : Host.Outcome State Fault Refusal :=
  .next (continuousSample n code (s.tick e))

/-- R224: ADC n fails: what it has not yet put in its FIFO is discarded, and it stops. -/
def adcFail (n : Nat) (s : State) : State :=
  let s := s.setAdc n { s.adcOf n with act := false, open_ := false, slots := [], wins := [], busyTill := 0, lanes := 0 }
  let i := R.ADC_AD_STAT n
  let s := ((s.setBit i F.ADC_AD_STAT.FAILED true).setBit i F.ADC_AD_STAT.BUSY false).setBit i F.ADC_AD_STAT.RUN false
  failReport { kind := 4, index := n } ((s.setBit R.ADC_FLAGS F.ADC_FLAGS.LANE true).raise EV.ADC_LANE n [])

/-- R223: a sample of ADC n whose two lanes differ by `diff` codes. -/
def adcLane (n diff : Nat) (s : State) : State :=
  if s.bit (R.ADC_AD_STAT n) F.ADC_AD_STAT.FAILED then s
  else
    let x := s.adcOf n
    let run := if 32 < diff then x.lanes + 1 else 0
    if 256 < diff ∨ 4 ≤ run then adcFail n s else s.setAdc n { x with lanes := run }

def execAdcLane (e : Nat) (n : Fin 12) (diff : Nat) (s : State) : Host.Outcome State Fault Refusal :=
  .next (adcLane n diff (s.tick e))

/-- R220: a written calibration takes effect at the next boundary of each running timebase bound to an ADC that converts
the input: until then that ADC keeps the value it had. -/
def calWritten (c : Nat) (old : Reg) (s : State) : State :=
  forEach (List.range 12) (fun n s =>
    let x := s.adcOf n
    if (adcChans s n).contains c && (s.tbOf (s.fld (R.ADC_AD_CFG n) F.ADC_AD_CFG.TB)).run && (AMap.get? x.pin c).isNone then
      s.setAdc n { x with pin := AMap.ins x.pin c old }
    else s) s

/-! ### Which interfaces count as used (R696) -/

/-- A SENSOR record names a channel. -/
def sensorNames (s : State) (chan : Nat) : Bool :=
  match s.plant with | some p => p.sensors.any (fun x => x.chan == chan) | none => false

/-- A converter of a kind is declared. -/
def declared (s : State) (kind : Nat) : Bool := (convs s).any fun c => c.kind == kind

/-- R696: an analogue input counts as used. -/
def ainUsed (s : State) (c : Nat) : Bool :=
  sensorNames s c ||
  (match s.plant with | some p => p.units.any (fun u => (tripSrcs s u.hb).contains c) | none => false) ||
  (declared s 2 && s.fld R.DCL_CHOP_CFG F.DCL_CHOP_CFG.CMP == c) ||
  (s.bit R.ENG_PEDAL_CFG F.ENG_PEDAL_CFG.EN &&
    (s.fld R.ENG_PEDAL_CFG F.ENG_PEDAL_CFG.CH_A == c || s.fld R.ENG_PEDAL_CFG F.ENG_PEDAL_CFG.CH_B == c)) ||
  ((declared s 3 || declared s 4) &&
    (s.fld R.CHG_CH F.CHG_CH.CH_V12 == c || s.fld R.CHG_CH F.CHG_CH.CH_V23 == c || s.fld R.CHG_CH F.CHG_CH.CH_V31 == c ||
     s.fld R.CHG_CH F.CHG_CH.CH_IB == c || s.fld R.CHG_CH F.CHG_CH.CH_VB == c || (s.fld R.CHG_CFG F.CHG_CFG.TSRC == 1 && s.fld R.CHG_CFG F.CHG_CFG.TCH == c)))

/-- R696: a resolver, encoder or SENT receiver with the given channels counts as used; `machPos` is its kind and
channel as a machine's position sensor (R375), none for a SENT receiver. -/
def ifUsed (s : State) (chans : List Nat) (machPos : Option (Nat × Nat)) : Bool :=
  chans.any (sensorNames s) ||
  (match machPos with
   | some (k, ch) => (convs s).any fun c => c.kind == 0 && s.fld (R.TRX_M_CFG c.sel) F.TRX_M_CFG.POS == k &&
      s.fld (R.TRX_M_CFG c.sel) F.TRX_M_CFG.POS_CH == ch
   | none => false) ||
  ([0, 1, 2].any fun a => (actConv s a).isSome && chans.contains (s.fld (R.ACT_A_CFG a) F.ACT_A_CFG.SCH)) ||
  (s.bit R.ENG_PEDAL_CFG F.ENG_PEDAL_CFG.EN &&
    (chans.contains (s.fld R.ENG_PEDAL_CFG F.ENG_PEDAL_CFG.CH_A) || chans.contains (s.fld R.ENG_PEDAL_CFG F.ENG_PEDAL_CFG.CH_B)))

/-- R228: the mode rule of a used interface. -/
def usedMode (s : State) (used : Bool) : Bool :=
  used && (s.mode == Mode.drive || s.mode == Mode.charge || s.mode == Mode.safe)

/-! ### Resolvers and encoders (R244 to R251) -/

/-- R247: resolver r's signal or tracking changes. -/
def resFault (r : Nat) (los lot : Bool) (s : State) : State :=
  let s := (s.setBit (R.ADC_RES_STAT r) F.ADC_RES_STAT.LOS los).setBit (R.ADC_RES_STAT r) F.ADC_RES_STAT.LOT lot
  if los || lot then
    let first := !bitN s.meas.resRun r
    let s := { s with meas := { s.meas with resRun := setBitN s.meas.resRun r } }
    let s := s.setBit R.ADC_FLAGS F.ADC_FLAGS.RES_FAULT true
    if first then s.raise EV.RES_FAULT r [(1, b2n los), (1, b2n lot)] else s
  else { s with meas := { s.meas with resRun := clrBitN s.meas.resRun r } }

/-- The signal and the tracking of resolver r at a peak amplitude in millivolts and a tracking error in 2^-32 turn (R247). -/
def resWatched (r mv : Nat) (err : Int) (s : State) : State :=
  resFault r (decide (mv < 400) || decide (4000 < mv)) (decide (2 ^ 26 < err.natAbs)) s

def execResFault (e : Nat) (r : Fin 2) (mv : BitVec 16) (err : BitVec 32) (s : State) : Host.Outcome State Fault Refusal :=
  .next (resWatched r mv.toNat err.toInt (s.tick e))

/-- R250: an illegal transition at encoder k. -/
def encFault (k : Nat) (s : State) : State :=
  if !s.bit (R.ADC_ENC_CFG k) F.ADC_ENC_CFG.EN then s
  else
    let first := !bitN s.meas.encRun k
    let s := { s with meas := { s.meas with encRun := setBitN s.meas.encRun k, encQual := setBitN s.meas.encQual k } }
    let s := (s.incFld (R.ADC_ENC_STAT k) F.ADC_ENC_STAT.ERRS 1).setBit R.ADC_FLAGS F.ADC_FLAGS.ENC_ERR true
    if first then s.raise EV.ENC_FAULT k [] else s

def execEncFault (e : Nat) (k : Fin 2) (s : State) : Host.Outcome State Fault Refusal := .next (encFault k (s.tick e))

/-- R249, R251: a Z pulse at encoder k. -/
def encZ (k : Nat) (s : State) : State :=
  if s.bit (R.ADC_ENC_CFG k) F.ADC_ENC_CFG.EN && s.bit (R.ADC_ENC_CFG k) F.ADC_ENC_CFG.ZRST then
    let s := s.setFld (R.ADC_ENC_STAT k) F.ADC_ENC_STAT.COUNT (s.fld (R.ADC_ENC_CFG k) F.ADC_ENC_CFG.ZVAL)
    { s with meas := { s.meas with encQual := clrBitN s.meas.encQual k } }
  else s

def execEncZPulse (e : Nat) (k : Fin 2) (s : State) : Host.Outcome State Fault Refusal := .next (encZ k (s.tick e))

/-- The speed that encoder edges give, newest first, four a line (R249): the edges after the oldest of the last 100 µs over the
time since that one, in whole rpm toward 0; with one edge alone in that time, since the edge before it (assumption 98). -/
def encRpm (lines now : Nat) (l : List (Nat × Bool)) : Int :=
  let near := l.filter fun x => decide (now < x.1 + 20000)
  let use := if near.length < 2 then l.take 2 else near
  let n : Int := use.dropLast.foldl (fun a x => if x.2 then a + 1 else a - 1) 0
  let span := now - (match use.getLast? with | some x => x.1 | none => now)
  (n * 12000000000).tdiv (4 * max 1 lines * max 1 span : Nat)

/-- R249: an edge at encoder k whose level has been stable for `held` conversion clocks counts one up or down, once that is
`FILT` + 1, and gives the speed. -/
def encEdge (k : Nat) (up : Bool) (held : Nat) (s : State) : State :=
  let g := R.ADC_ENC_CFG k
  if !s.bit g F.ADC_ENC_CFG.EN || decide (held ≤ s.fld g F.ADC_ENC_CFG.FILT) then s
  else
    let c := s.fld (R.ADC_ENC_STAT k) F.ADC_ENC_STAT.COUNT
    let s := s.setFld (R.ADC_ENC_STAT k) F.ADC_ENC_STAT.COUNT (if up then c + 1 else c + 65535)
    let old := AMap.getD s.meas.encEdge k []
    let l := (s.dt, up) :: (old.take 1 ++ (old.drop 1).filter fun x => decide (s.dt < x.1 + 20000))
    let s := s.setSfld (R.ADC_ENC_STAT k) F.ADC_ENC_STAT.SPEED (clampI (-32768) 32767 (encRpm (s.fld g F.ADC_ENC_CFG.LINES) s.dt l))
    { s with meas := { s.meas with encRun := clrBitN s.meas.encRun k, encEdge := AMap.ins s.meas.encEdge k l } }

def execEncoderEdge (e : Nat) (k : Fin 2) (up : Bool) (pace : EdgePace) (s : State) : Host.Outcome State Fault Refusal :=
  .next (encEdge k up pace.held (s.tick e))

/-! ### SENT (R252 to R255) -/

/-- A pulse's length in SENT ticks, from the calibration pulse of 56 ticks, rounded. -/
def sentTicks (cal len : Nat) : Nat := if cal = 0 then 0 else (2 * 56 * len + cal) / (2 * cal)

/-- The 4-bit CRC of SAE J2716: polynomial x^4 + x^3 + x^2 + 1, seed 5; the recommended form runs one more zero nibble. -/
def sentCrc (legacy : Bool) (data : List Nat) : Nat :=
  let tab : List Nat := [0, 13, 7, 10, 14, 3, 9, 4, 1, 12, 6, 11, 15, 2, 8, 5]
  let c := data.foldl (fun c d => (tab.getD c 0) ^^^ d) 5
  if legacy then c else tab.getD c 0

/-- The checks of R252 on a message of calibration pulse `cal` and nibble pulses `pulses` (status, data, CRC), in ticks. -/
def sentOk (s : State) (r cal : Nat) (pulses : List Nat) : Bool :=
  let g := R.ADC_SENT_CFG r
  let nom := 56 * 20 * s.fld g F.ADC_SENT_CFG.TICK
  let prev := (s.sentOf r).prevCal
  let ts := pulses.map (sentTicks cal)
  let vals := ts.map (· - 12)
  let data := (vals.drop 1).dropLast
  decide (3 * nom ≤ 4 * cal ∧ 4 * cal ≤ 5 * nom) &&
  (prev == 0 || decide (64 * (max cal prev - min cal prev) ≤ prev)) &&
  ts.all (fun t => decide (12 ≤ t ∧ t ≤ 27)) &&
  pulses.length == s.fld g F.ADC_SENT_CFG.NIBBLES + 2 &&
  sentCrc (s.bit g F.ADC_SENT_CFG.CRC_LEGACY) data == vals.getLastD 0

/-- Nibbles as a number, most significant first. -/
def nibbles (l : List Nat) : Nat := l.foldl (fun a x => 16 * a + x % 16) 0

/-- The two signals of a message's data nibbles (R253). -/
def sentSignals (split : Nat) (d : List Nat) : Nat × Nat :=
  match split with
  | 1 => (nibbles (d.take 4), nibbles (d.drop 4))
  | 2 => (nibbles (d.take 3), nibbles (d.drop 3).reverse)
  | _ => (nibbles (d.take 3), nibbles (d.drop 3))

/-- The queue of a channel that no ADC converts, when the placement gives it one. -/
def routed (s : State) (chan : Nat) : Option Nat := AMap.get? s.meas.chanQ chan

/-- The queue of SENT signal k of receiver r: both signals of a receiver are queued as soon as one is named (R253). -/
def sentRoute (s : State) (r k : Nat) : Option Nat := routed s (0x64 + 2 * r + k) <|> routed s (0x65 + 2 * r - k)

/-- A receiver is declared lost (R254); the two messages that end the loss are still to come. -/
def sentLose (r : Nat) (s : State) : State :=
  if s.bit (R.ADC_SENT_STAT r) F.ADC_SENT_STAT.LOST then s
  else
    let s := s.setSent r { s.sentOf r with oks := 0 }
    let s := (s.setBit (R.ADC_SENT_STAT r) F.ADC_SENT_STAT.LOST true).setBit (R.ADC_SENT_STAT r) F.ADC_SENT_STAT.UP false
    s.raise EV.SENT_LOST r []

/-- R252 to R254: a message at receiver r ends now. `slow` is the slow-channel message it completes, if any: enhanced or
short, identifier, data. -/
def sentMessage (r cal : Nat) (pulses : List Nat) (slow : Option (Bool × Nat × Nat)) (s : State) : State :=
  if !s.bit (R.ADC_SENT_CFG r) F.ADC_SENT_CFG.EN then s
  else
    let x := s.sentOf r
    let g := R.ADC_SENT_STAT r
    if sentOk s r cal pulses then
      let vals := pulses.map fun p => sentTicks cal p - 12
      let status := vals.headD 0
      let sig := sentSignals (s.fld (R.ADC_SENT_CFG r) F.ADC_SENT_CFG.SPLIT) ((vals.drop 1).dropLast)
      let stamp := s.dt - (cal + pulses.foldl (· + ·) 0)
      let s := s.setSent r { prevCal := cal, fails := 0, oks := x.oks + 1, valid := x.valid + 1, lastOk := s.dt, sig0 := some (sig.1, status % 4 != 0) }
      let s := s.setFld g F.ADC_SENT_STAT.STATUS status
      let s := match slow with
        | some (enh, id, d) =>
          let i := R.ADC_SENT_SLOW r
          ((s.setBit i F.ADC_SENT_SLOW.ENH enh).setFld i F.ADC_SENT_SLOW.ID id).setFld i F.ADC_SENT_SLOW.DATA d
        | none => s
      let s := if s.bit g F.ADC_SENT_STAT.LOST then
          (if 2 ≤ x.oks + 1 then
            ((s.setBit g F.ADC_SENT_STAT.LOST false).setBit g F.ADC_SENT_STAT.UP true).raise EV.SENT_UP r []
           else s)
        else s.setBit g F.ADC_SENT_STAT.UP true
      let ent := fun (k v : Nat) => match sentRoute s r k with
        | some q => [(q, ({ stamp := stamp, chan := 0x64 + 2 * r + k, sample := v, seq := (x.valid + 1) % 256, qual := status % 4 != 0 } : QEnt))]
        | none => []
      let el := ent 0 sig.1 ++ ent 1 sig.2
      if el.isEmpty then s else xfPush (7 * 64 + r) el s
    else
      let s := s.setSent r { x with prevCal := cal, fails := x.fails + 1, oks := 0 }
      let s := (s.incFld g F.ADC_SENT_STAT.ERRS 1).setBit R.ADC_FLAGS F.ADC_FLAGS.SENT_ERR true
      if s.fld (R.ADC_SENT_CFG r) F.ADC_SENT_CFG.LOSTN ≤ x.fails + 1 then sentLose r s else s

/-- R254: `LOSTN` ms have passed at receiver r without an accepted message. -/
def sentTimeout (r : Nat) (s : State) : State :=
  if !s.bit (R.ADC_SENT_CFG r) F.ADC_SENT_CFG.EN || s.bit (R.ADC_SENT_STAT r) F.ADC_SENT_STAT.LOST then s
  else sentLose r (s.until ((s.sentOf r).lastOk + 200000 * s.fld (R.ADC_SENT_CFG r) F.ADC_SENT_CFG.LOSTN))

/-- A receiver's enable: its time without a message counts from here. -/
def sentEnable (r : Nat) (old : Reg) (s : State) : State :=
  if F.ADC_SENT_CFG.EN.get old = 0 ∧ s.bit (R.ADC_SENT_CFG r) F.ADC_SENT_CFG.EN then
    s.setSent r { lastOk := s.dt, valid := (s.sentOf r).valid, sig0 := (s.sentOf r).sig0 }
  else s

end Sys2Proof.Machine
end

