-- ==== Sys2Proof/Machine/Dclink.lean ====
section
/-! DEFINITION. The DC link, its comparators and the brake chopper (chapter 11), beside the continuous part in Link.lean. -/

namespace Sys2Proof.Machine

/-! ### The regulator and the resistor's heat (R406 to R408, R415, R423) -/

/-- The chopper's duty for the coming period in units of 2^-31, from the reading at the deadline (R407, R408, R423). -/
def chopDuty (s : State) : Nat :=
  if s.mode = Mode.drive ∨ s.mode = Mode.charge then
    if !chopAvail s then 0
    else if s.bit R.DCL_STAT F.DCL_STAT.MON_FAULT then (if s.bit R.DCL_STAT F.DCL_STAT.CHOP_CMP then 2 ^ 31 else 0)
    else
      let above := (vlink s : Int) - 2 * dclF s R.DCL_THR F.DCL_THR.VCHOP
      (clampI 0 (2 ^ 31) (ndiv (above * 2 ^ 31) (2 * dclF s R.DCL_HYS F.DCL_HYS.BAND))).toNat
  else if s.mode = Mode.ready ∧ s.discharging ∧ !s.bit R.DCL_CHOP_STAT F.DCL_CHOP_STAT.THERMAL then
    s.fld R.DCL_CHOP_CFG F.DCL_CHOP_CFG.DDUTY * 2 ^ 23
  else 0

/-- The set the link supervisor places for the chopper's units (R406, R407). -/
def chopSet (s : State) : List Shadow :=
  match chopper s with
  | none => []
  | some c =>
    let d := chopDuty s
    (unitsOf s c).flatMap fun k =>
      [(⟨k, 1, if s.bit (R.PWM_HB_CFG k) F.PWM_HB_CFG.DFMT then (onTimeFrac (8 * (s.tbOf (tbOfConv s c)).p) d).1 else d⟩ : Shadow),
       ⟨k, 4, 1⟩]

/-- The chopper's commanded on-time brought up to a step: its high island's command, and its last off-edge (R415). -/
def chopSync (step : Nat) (s : State) : State :=
  match chopIsls s with
  | none => s
  | some (h, _) =>
    let x := s.islOf h
    let d := s.dcl
    let acc := match d.onAt with
      | some t => d.onAcc + ((if x.cmdOn then step else min step (max t x.offStep)) - t)
      | none => d.onAcc
    { s with dcl := { d with onAcc := acc, onAt := if x.cmdOn then some step else none } }

/-- 10 kJ in picojoules. -/
abbrev tenKJ : Nat := 10 ^ 16

/-- R415: the resistor's heat in pJ at a boundary of the chopper's timebase, for the period of p ticks that ends. -/
def chopHeat (p : Nat) (s : State) : State :=
  let on := s.dcl.onAcc
  let res := s.fld R.DCL_CHOP_RES F.DCL_CHOP_RES.RES
  let put := vlink s * vlink s * on * 15625 / max 1 res
  let out := s.fld R.DCL_CHOP_RES F.DCL_CHOP_RES.PCONT * p * 500000
  let e := s.dcl.heat + put - out
  let emax := s.fld R.DCL_CHOP_RES F.DCL_CHOP_RES.EMAX * tenKJ
  let s := { s with dcl := { s.dcl with heat := e, onAcc := 0 } }
  let s := s.setFld R.DCL_CHOP_STAT F.DCL_CHOP_STAT.ENERGY (min 65535 (e / tenKJ))
  if emax ≤ e then
    if s.bit R.DCL_CHOP_STAT F.DCL_CHOP_STAT.THERMAL then s
    else
      let s := s.setBit R.DCL_CHOP_STAT F.DCL_CHOP_STAT.THERMAL true
      linkEval ((s.setBit R.DCL_FLAGS F.DCL_FLAGS.CHOP_THERMAL true).raise EV.CHOP_THERMAL 0xFF [])
  else if s.bit R.DCL_CHOP_STAT F.DCL_CHOP_STAT.THERMAL && decide (2 * e ≤ emax) then
    linkEval (s.setBit R.DCL_CHOP_STAT F.DCL_CHOP_STAT.THERMAL false)
  else s

/-! ### Checked pulses (R410, R411) -/

/-- Whether current was present in the pulse just ended (R409): the comparator stood asserted at some tick from the later
island's blanking end to the off-edge. -/
def chopCurrent (s : State) (h l : Nat) : Bool :=
  let c := s.fld R.DCL_CHOP_CFG F.DCL_CHOP_CFG.CMP
  let blank := max (onTick s h + s.fld (R.PROT_DSAT h) F.PROT_DSAT.TBLANK) (onTick s l + s.fld (R.PROT_DSAT l) F.PROT_DSAT.TBLANK)
  bitN (s.fld (R.ADC_WCMP_STAT (c / 32)) F.ADC_WCMP_STAT.ASSERTED) (c % 32) ||
    (match AMap.get? s.meas.wend c with | some t => decide (blank < t) | none => false)

/-- R410: the verdict of a checked pulse. 0 HEALTHY, 1 OPEN_RES, 2 OPEN_SW_H, 3 OPEN_SW_L, 4 SENSE, 8 SHORT_SW of the high
island, 9 of the low island. -/
def chopVerdict (lo hi : Int) (cur : Bool) (h l : Int × Bool) : Nat :=
  let mid := fun (v : Int × Bool) => decide (lo ≤ v.1 ∧ v.1 < hi) && !v.2
  let low := fun (v : Int × Bool) => decide (v.1 < lo) && !v.2
  let high := fun (v : Int × Bool) => decide (hi ≤ v.1) || v.2
  if cur && mid h && mid l then 0
  else if cur && low h && mid l then 8
  else if cur && mid h && low l then 9
  else if !cur && low h && low l then 1
  else if !cur && high h then 2
  else if !cur && high l then 3
  else 4

/-- The duty of the chopper's coming period is 0, whether its set has been placed already or not (R411, R422). -/
def chopStops (s : State) : State :=
  let ks := match chopper s with | some c => unitsOf s c | none => []
  let none_ := fun (x : Option (Nat × Nat)) => x.map fun p => (p.1, 0)
  let s := forEach ks (fun k s =>
    let u := s.unitOf k
    s.setUnit k { u with dutyH := 0, tH := 0, tL := 0, nextTH := 0, nextTL := 0, nextH := none_ u.nextH, nextL := none_ u.nextL }) s
  { s with dcl := { s.dcl with duty := 0 } }

/-- R411: the module acts on a declaration. -/
def chopDeclare (v : Nat) (s : State) : State :=
  let i := R.DCL_CHOP_STAT
  if 8 ≤ v then
    let s := (s.setBit i F.DCL_CHOP_STAT.DEGRADED true).setFld i F.DCL_CHOP_STAT.SHORT_ISL (v - 8)
    (s.setBit R.DCL_FLAGS F.DCL_FLAGS.CHOP_DEGRADED true).raise EV.CHOP_DEGRADED 0xFF []
  else if s.fld i F.DCL_CHOP_STAT.FAULT ≠ 0 then s
  else
    let s := chopStops (s.setFld i F.DCL_CHOP_STAT.FAULT v)
    linkEval ((s.setBit R.DCL_FLAGS F.DCL_FLAGS.CHOP_FAULT true).raise EV.CHOP_FAULT 0xFF [])

/-- A verdict counted: three in a row are a declaration; HEALTHY restarts the count (R411). -/
def chopCount (v : Nat) (s : State) : State :=
  if v = 0 then { s with dcl := { s.dcl with last := 0, runs := 0 } }
  else
    let n := if s.dcl.last = v then s.dcl.runs + 1 else 1
    let s := { s with dcl := { s.dcl with last := v, runs := n } }
    if n = 3 then chopDeclare v s else s

/-- Once both islands have reported and the pulse is over, a checked pulse receives its verdict (R410). -/
def chopPulse (s : State) : State :=
  match chopIsls s with
  | none => s
  | some (h, l) =>
    if (s.islOf h).cmdOn || (s.islOf l).cmdOn then s
    else
      let s := if s.dcl.cur.isNone && (s.dcl.repH.isSome || s.dcl.repL.isSome) then
          { s with dcl := { s.dcl with cur := some (chopCurrent s h l) } } else s
      match s.dcl.cur, s.dcl.repH, s.dcl.repL with
      | some c, some (vh, okH, rgH), some (vl, okL, rgL) =>
        let s := { s with dcl := { s.dcl with cur := none, repH := none, repL := none } }
        if okH && okL && decide (400 ≤ vlink s) && decide (s.fld R.DCL_CHOP_CFG F.DCL_CHOP_CFG.CMP < 64) then
          chopCount (chopVerdict (dclF s R.DCL_CHOP_CHK F.DCL_CHOP_CHK.VDS_LO) (dclF s R.DCL_CHOP_CHK F.DCL_CHOP_CHK.VDS_HI) c
            (vh, rgH) (vl, rgL)) s
        else s
      | _, _, _ => s

/-- A chopper island's on-state report: millivolts, whether the pulse may be checked, RANGE (R410). -/
def chopReport (n : Nat) (mv : Int) (ok range : Bool) (s : State) : State :=
  match chopIsls s with
  | none => s
  | some (h, l) =>
    if n = h then chopPulse { s with dcl := { s.dcl with repH := some (mv, ok, range) } }
    else if n = l then chopPulse { s with dcl := { s.dcl with repL := some (mv, ok, range) } }
    else s

/-- After an edge of the chopper's unit at a step: its on-time, and the pulse that begins or has ended. -/
def chopEdge (k step : Nat) (s : State) : State :=
  if chopUnit s = some k then
    let s := chopSync step s
    match chopIsls s with
    | some (h, l) =>
      if (s.islOf h).cmdOn && (s.islOf l).cmdOn && (s.islOf h).onStep == step then
        { s with dcl := { s.dcl with cur := none, repH := none, repL := none } }
      else if !(s.islOf h).cmdOn && !(s.islOf l).cmdOn then
        chopPulse { s with dcl := { s.dcl with cur := some (chopCurrent s h l) } }
      else s
    | none => s
  else s

/-! ### Commands of the chapter -/

/-- R396: the pin, at `uv` microvolts, lies above a threshold of `v` volts on the link. The comparator's threshold is the
threshold over `RATIO` in steps of 1 mV, the nearest (assumption 82). -/
def pinAbove (s : State) (v uv : Nat) : Bool :=
  decide (1000 * ndiv (1000 * v) (dclF s R.DCL_SENSE F.DCL_SENSE.RATIO) < (uv : Int))

/-- R397: the pin, at `uv` microvolts, lies below the release level of a threshold of `v` volts. -/
def pinBelow (s : State) (v uv : Nat) : Bool :=
  decide ((uv : Int) * dclF s R.DCL_SENSE F.DCL_SENSE.RATIO < ((v : Int) - dclF s R.DCL_HYS F.DCL_HYS.HYS) * 10 ^ 6)

/-- R416: CHOP is asserted; a test interval in which it is asserted sends no pulse (R414). -/
def chopRises (s : State) : State :=
  let s := s.setBit R.DCL_STAT F.DCL_STAT.CHOP_CMP true
  linkEval { s with dcl := { s.dcl with regenDue := none, testBad := true } }

/-- R396: the pin has stood at `uv` microvolts for the 200 ticks after its first capture; now is the stamp. -/
def chopAssert (uv : Nat) (s : State) : State :=
  if pinAbove s (s.fld R.DCL_THR F.DCL_THR.VCHOP) uv then chopRises s else s

def execChopAssert (x : PinEdge) (s : State) : Host.Outcome State Fault Refusal := .next (chopAssert x.uv.toNat (s.tick x.e))

/-- R397, R418: the pin has stood below `uv` microvolts for 1 ms, and CHOP is released where that is low enough; the 100 ms
toward the permit start while an inhibit runs. -/
def chopRelease (uv : Nat) (s : State) : State :=
  if !s.bit R.DCL_STAT F.DCL_STAT.CHOP_CMP || !pinBelow s (s.fld R.DCL_THR F.DCL_THR.VCHOP) uv then s
  else
    let s := s.setBit R.DCL_STAT F.DCL_STAT.CHOP_CMP false
    let inh := s.bit R.DCL_STAT F.DCL_STAT.REGEN_INH
    { s with dcl := { s.dcl with regenDue := if inh then some (s.dt + 20000000) else none } }

def execChopRelease (x : PinEdge) (s : State) : Host.Outcome State Fault Refusal := .next (chopRelease x.uv.toNat (s.tick x.e))

/-- R418: the 100 ms with CHOP released have passed. -/
def regenPermit (s : State) : State :=
  match s.dcl.regenDue with
  | some t => regenEnds (s.until t)
  | none => s

def execRegenPermit (e : Nat) (s : State) : Host.Outcome State Fault Refusal := .next (regenPermit (s.tick e))

/-- R419: OV1 is asserted. The machines not yet in their safe state go to the selector, and `PWM_FORCE.EN` clears. -/
def ov1Rises (s : State) : State :=
  if s.mode = Mode.standby then s
  else
    let s := { s with dcl := { s.dcl with ov1Due := none } }
    let s := (s.setBit R.DCL_STAT F.DCL_STAT.OV1 true).setBit R.DCL_FLAGS F.DCL_FLAGS.OV1 true
    let s := forEach [0, 1] (fun m s =>
      if (machConv s m).isSome && !(s.bit (R.PROT_SS_STAT m) F.PROT_SS_STAT.APPLIED && !(s.selOf m).back) then
        selHold m Why.ov1 s else s) s
    let s := selEvalAll s
    let old := s.reg R.PWM_FORCE
    let s := forceApply old (s.setFld R.PWM_FORCE F.PWM_FORCE.EN 0)
    s.raise EV.DCL_OV1 0xFF []

/-- R396: the pin has stood at `uv` microvolts for the 200 ticks after its first capture; now is the stamp. -/
def ov1Assert (uv : Nat) (s : State) : State := if pinAbove s (s.fld R.DCL_THR F.DCL_THR.OV1) uv then ov1Rises s else s

def execOv1Assert (x : PinEdge) (s : State) : Host.Outcome State Fault Refusal := .next (ov1Assert x.uv.toNat (s.tick x.e))

/-- R397, R420: the pin has stood below `uv` microvolts for 1 ms, and OV1 is released where that is low enough; the 100 ms
toward the hand-back start. -/
def ov1Release (uv : Nat) (s : State) : State :=
  if !s.bit R.DCL_STAT F.DCL_STAT.OV1 || !pinBelow s (s.fld R.DCL_THR F.DCL_THR.OV1) uv then s
  else
    let s := selEvalAll (s.setBit R.DCL_STAT F.DCL_STAT.OV1 false)
    { (s.raise EV.DCL_OV1_CLEAR 0xFF []) with dcl := { s.dcl with ov1Due := some (s.dt + 20000000) } }

def execOv1Release (x : PinEdge) (s : State) : Host.Outcome State Fault Refusal := .next (ov1Release x.uv.toNat (s.tick x.e))

/-- R420: OV1 has stayed released for 100 ms; outside SAFE the machines it took are handed back. -/
def ov1HandBack (s : State) : State :=
  match s.dcl.ov1Due with
  | none => s
  | some t =>
    let s := s.until t
    let s := { s with dcl := { s.dcl with ov1Due := none } }
    if s.mode = Mode.safe then s
    else forEach [0, 1] (fun m s => if bitN (s.selOf m).why Why.ov1 then selDrop m Why.ov1 s else s) s

def execOv1HandBack (e : Nat) (s : State) : Host.Outcome State Fault Refusal := .next (ov1HandBack (s.tick e))

/-- R421: OV2 latches; the islands of every DC-DC, front end and dual active bridge go off, and SAFE is entered. -/
def ov2Rises (s : State) : State :=
  let s := (s.setBit R.DCL_STAT F.DCL_STAT.OV2 true).setBit R.DCL_FLAGS F.DCL_FLAGS.OV2 true
  let s := forEach (convsKind s 1 ++ convsKind s 3 ++ convsKind s 4) convDark s
  enterSafe Cause.ov2 reqInternal (s.raise EV.DCL_OV2 0xFF [])

/-- R396: the pin has stood at `uv` microvolts for the 200 ticks after its first capture; now is the stamp. -/
def ov2Assert (uv : Nat) (s : State) : State := if pinAbove s (s.fld R.DCL_THR F.DCL_THR.OV2) uv then ov2Rises s else s

def execOv2Assert (x : PinEdge) (s : State) : Host.Outcome State Fault Refusal := .next (ov2Assert x.uv.toNat (s.tick x.e))

/-- R399: in DRIVE or CHARGE the reading, now vl, has stood below VUV for 10 ms. -/
def dclUv (vl : Nat) (s : State) : State :=
  let s := setVlink vl s
  if (s.mode = Mode.drive ∨ s.mode = Mode.charge) ∧ vl < 2 * s.fld R.DCL_HYS F.DCL_HYS.VUV ∧ !s.bit R.DCL_STAT F.DCL_STAT.UV then
    ((s.setBit R.DCL_STAT F.DCL_STAT.UV true).setBit R.DCL_FLAGS F.DCL_FLAGS.UV true).raise EV.DCL_UV 0xFF []
  else s

def execDclUv (e : Nat) (vl : BitVec 13) (s : State) : Host.Outcome State Fault Refusal := .next (dclUv vl.toNat (s.tick e))

/-- R399: the reading, now vl, has stood at or above VLOW for 10 ms. -/
def uvClear (vl : Nat) (s : State) : State :=
  let s := setVlink vl s
  if 2 * s.fld R.DCL_HYS F.DCL_HYS.VLOW ≤ vl then s.setBit R.DCL_STAT F.DCL_STAT.UV false else s

def execUvClear (e : Nat) (vl : BitVec 13) (s : State) : Host.Outcome State Fault Refusal := .next (uvClear vl.toNat (s.tick e))

/-- R400: the monitor's 10 ms check of its 2.000 V reference reads `mv` millivolts, within 1 % or not; vl is its link
reading. -/
def dclSense (mv vl : Nat) (s : State) : State :=
  let s := setVlink vl s
  if 1980 ≤ mv ∧ mv ≤ 2020 then
    let n := s.dcl.good + 1
    let s := { s with dcl := { s.dcl with good := n } }
    if 10 ≤ n then s.setBit R.DCL_STAT F.DCL_STAT.MON_FAULT false else s
  else
    let s := { s with dcl := { s.dcl with good := 0 } }
    let s := s.setBit R.DCL_FLAGS F.DCL_FLAGS.SENSE true
    s.flagRaise R.DCL_STAT F.DCL_STAT.MON_FAULT EV.DCL_SENSE 0xFF []

def execDclSense (e : Nat) (mv : BitVec 13) (vl : BitVec 13) (s : State) : Host.Outcome State Fault Refusal :=
  .next (dclSense mv.toNat vl.toNat (s.tick e))

/-- R414: a test interval has passed; where its conditions held throughout, the chopper's unit emits one pulse of TPULSE
microseconds at once. The interval restarts. -/
def chopTest (s : State) : State :=
  if !s.bit R.DCL_CHOP_CFG F.DCL_CHOP_CFG.TEST_EN then s
  else
    let s := s.until (s.dcl.testAt + s.fld R.DCL_CHOP_CFG F.DCL_CHOP_CFG.TEST_INT * 20000000)
    let go := !s.dcl.testBad && chopAvail s && s.dcl.duty == 0 && decide (s.fld R.DCL_CHOP_CFG F.DCL_CHOP_CFG.CMP < 64)
    let s := { s with dcl := { s.dcl with testAt := s.dt, testBad := s.bit R.DCL_STAT F.DCL_STAT.CHOP_CMP } }
    match chopUnit s with
    | some k =>
      if go && s.bit (R.PWM_HB_STAT k) F.PWM_HB_STAT.EN then
        let on := 8 * s.dt
        let off := on + s.fld R.DCL_CHOP_CFG F.DCL_CHOP_CFG.TPULSE * 1600
        let es : List Edge := [⟨on, true, true, none, (on + off) / 2⟩, ⟨on, false, true, none, 0⟩, ⟨off, true, false, none, 0⟩,
          ⟨off, false, false, none, 0⟩]
        s.setUnit k { s.unitOf k with edges := es }
      else s
    | none => s

def execChopTestPulse (e : Nat) (s : State) : Host.Outcome State Fault Refusal := .next (chopTest (s.tick e))

/-- R413: `FAULT` and `DEGRADED` are cleared. -/
def chopClear (s : State) : State :=
  let s := (s.setFld R.DCL_CHOP_STAT F.DCL_CHOP_STAT.FAULT 0).setBit R.DCL_CHOP_STAT F.DCL_CHOP_STAT.DEGRADED false
  let s := forEach (convsKind s 2) (fun c s => s.setConv c { s.convOf c with cleared := true }) s
  linkEval { s with dcl := { s.dcl with last := 0, runs := 0 } }

/-! ### Checks of writes (R401, R405) -/

/-- R401: whether the threshold registers, with value v in place of register i, keep their orders. -/
def dclOrders (s : State) (i : Nat) (v : Reg) : Bool :=
  let get := fun (r : Nat) (f : Fld) => if r = i then f.get v else s.fld r f
  let hys := get R.DCL_HYS F.DCL_HYS.HYS
  let vlow := get R.DCL_HYS F.DCL_HYS.VLOW
  let chop := get R.DCL_THR F.DCL_THR.VCHOP
  let ov1 := get R.DCL_THR F.DCL_THR.OV1
  let ov2 := get R.DCL_THR F.DCL_THR.OV2
  decide (get R.DCL_HYS F.DCL_HYS.VUV ≤ vlow ∧ vlow + hys < chop ∧ chop + hys < ov1 ∧ ov1 < ov2 ∧
    ov2 ≤ 4 * get R.DCL_SENSE F.DCL_SENSE.RATIO)

/-- R405: a `MODE` other than OFF is refused in SAFE and while the DC-DC is held. -/
def dcdcModeWrong (s : State) (v : Reg) : Bool :=
  F.DCL_DCDC_CTRL.MODE.get v != 0 && (s.mode == Mode.safe || dcdcHeld s)

end Sys2Proof.Machine
end

