-- ==== Sys2Proof/Machine/Blocks.lean ====
section
/-! DEFINITION. Q8.31 arithmetic (R277 to R279) and the blocks of the library that compute from their inputs, parameters
and state alone (R282, R287). Signals are integers in units of 2^-31. -/

namespace Sys2Proof.Machine

/-! ### Q8.31 -/

/-- 1.0 in Q8.31. -/
abbrev qOne : Int := 2147483648

/-- The flags of an instance (R280). -/
abbrev Fl.sat : Nat := 1
abbrev Fl.windup : Nat := 2
abbrev Fl.divguard : Nat := 4
abbrev Fl.range : Nat := 8

/-- A result limited to 40 bits, and SAT where it was (R277). -/
def qSat (x : Int) : Int × Nat := let y := clampI (-(2 ^ 39)) (2 ^ 39 - 1) x; (y, if y = x then 0 else Fl.sat)

/-- floor(n / d + 1/2) for d ≠ 0, exactly. -/
def rdiv (n d : Int) : Int := if d < 0 then (2 * (-n) + (-d)) / (2 * (-d)) else (2 * n + d) / (2 * d)

/-- An exact value in units of 2^-62 rounded to Q8.31 and limited. -/
def q62 (x : Int) : Int × Nat := qSat (rshr x 31)

/-- An exact value in units of 2^-93 rounded to Q8.31 and limited. -/
def q93 (x : Int) : Int × Nat := qSat (rshr x 62)

/-- A boolean as a signal (R272). -/
def qBool (b : Bool) : Int := if b then qOne else 0

/-- The divisor after the guard of DIV (R282). -/
def divGuard (b min_ : Int) : Int × Nat :=
  if (b.natAbs : Int) < min_ then (if b < 0 then -min_ else min_, Fl.divguard) else (b, 0)

/-- The integer square root by bits, from bit k down. -/
def isqrtF : Nat → Nat → Nat → Nat
  | 0, _, r => r
  | k + 1, n, r => let c := r + 2 ^ k; isqrtF k n (if c * c ≤ n then c else r)

/-- √(a² + b²) rounded to nearest. -/
def qMag (a b : Int) : Int :=
  let n := (a * a + b * b).toNat
  ((isqrtF 48 (4 * n) 0 + 1) / 2 : Nat)

/-- The Taylor sum of sine or cosine: term t of power k, its square factor y² in units of 2^-62, n terms left. -/
def trigSum : Nat → Nat → Int → Int → Int → Int
  | 0, _, _, _, acc => acc
  | n + 1, k, y2, t, acc =>
    let t' := -(t * y2 / 2 ^ 62) / ((k + 1) * (k + 2) : Nat)
    trigSum n (k + 2) y2 t' (acc + t')

/-- π/2 in units of 2^-62. -/
def halfPi : Int := 7244019458077122842

/-- Sine and cosine of x quarter turns / 2^30, 0 ≤ x ≤ 2^30, in units of 2^-31, rounded. -/
def trigQuad (x : Nat) : Int × Int :=
  let y := x * halfPi / 2 ^ 30
  let y2 := y * y / 2 ^ 62
  (rshr (trigSum 12 1 y2 y y) 31, rshr (trigSum 12 0 y2 (2 ^ 62) (2 ^ 62)) 31)

/-- Sine and cosine of an angle of 32 bits before the engines' error. -/
def trig (a : Nat) : Int × Int :=
  let a := a % 2 ^ 32
  let p := trigQuad (a % 2 ^ 30)
  match a / 2 ^ 30 with
  | 0 => (p.1, p.2) | 1 => (p.2, -p.1) | 2 => (-p.1, -p.2) | _ => (-p.2, p.1)

/-- An angle signal's 32 bits (R272). -/
def angle (x : Int) : Nat := (x % 2 ^ 32).toNat

/-- The engines' sine (R282): within 2^-29 of exact. -/
def qSin (a : Nat) : Int := (trig a).1 + ((Config.sinErr a % 7 : Nat) : Int) - 3
/-- The engines' cosine (R282): within 2^-29 of exact. -/
def qCos (a : Nat) : Int := (trig a).2 + ((Config.cosErr a % 7 : Nat) : Int) - 3

/-- The angle per activation of ANGLE: floor((ω·KW + 2^30) / 2^31). -/
def angDelta (w kw : Int) : Int := (w * (kw % 2 ^ 32) + 2 ^ 30) / 2 ^ 31

/-! ### The blocks -/

/-- What a block gives: its outputs, its new state words, its flags. -/
structure BOut where
  out : List Int
  st : List Int := []
  fl : Nat := 0
deriving DecidableEq, Repr

/-- Inputs, none where unconnected (R271). -/
abbrev Ins := List (Option Int)

/-- Input k, 0 where unconnected. -/
def Ins.v (l : Ins) (k : Nat) : Int := (l.getD k none).getD 0
/-- Input k, or a parameter where unconnected. -/
def Ins.orP (l : Ins) (k : Nat) (p : Int) : Int := (l.getD k none).getD p
/-- Input k as a boolean (R272). -/
def Ins.b (l : Ins) (k : Nat) : Bool := decide (0 < l.v k)

/-- PI (R282). -/
def blockPi (l : Ins) (kp ki kb plo phi aw i0 i : Int) : BOut :=
  let e := l.v 0
  let lo := l.orP 2 plo
  let hi := l.orP 3 phi
  if hi < lo then ⟨[0, qOne], [i], Fl.sat⟩
  else
    let rst := l.b 4
    let i := if rst then i0 else i
    let t := if rst then (i, 0) else q62 (i * 2 ^ 31 + ki * e)
    let u := q62 (kp * e + (t.1 + l.v 1) * 2 ^ 31)
    let fl := t.2 ||| u.2
    let back := fun (lim : Int) => q62 (t.1 * 2 ^ 31 - kb * (u.1 - lim))
    if hi < u.1 then
      let r := if aw = 0 then (if 0 < e then (i, 0) else (t.1, 0)) else back hi
      ⟨[hi, qOne], [clampI lo hi r.1], fl ||| r.2 ||| Fl.windup⟩
    else if u.1 < lo then
      let r := if aw = 0 then (if e < 0 then (i, 0) else (t.1, 0)) else back lo
      ⟨[lo, qOne], [clampI lo hi r.1], fl ||| r.2 ||| Fl.windup⟩
    else ⟨[u.1, 0], [clampI lo hi t.1], fl⟩

/-- LUT1 (R282): points ys. -/
def blockLut (x x0 rdx : Int) (ys : List Int) : BOut :=
  let n := ys.length
  let f := (x - x0) * rdx
  if f < 0 then ⟨[ys.getD 0 0], [], Fl.range⟩
  else if ((n - 1 : Nat) : Int) * 2 ^ 62 ≤ f then ⟨[ys.getD (n - 1) 0], [], Fl.range⟩
  else
    let k := (f / 2 ^ 62).toNat
    let r := f % 2 ^ 62
    let y := ys.getD k 0
    let q := qSat (y + rshr (r * (ys.getD (k + 1) 0 - y)) 62)
    ⟨[q.1], [], q.2⟩

/-- PLL (R282): state is the angle and the integrator. -/
def blockPll (s c kp ki kw wmax th i : Int) : BOut :=
  let a := angle th
  let e := q62 (s * qCos a - c * qSin a)
  let r := blockPi [some e.1, none, some (-wmax), some wmax, none] kp ki 0 0 0 0 0 i
  let w := r.out.getD 0 0
  let th' := (th + angDelta w kw) % 2 ^ 32
  ⟨[th', w], [th', r.st.getD 0 0], e.2 ||| r.fl⟩

/-- SVM (R282). -/
def blockSvm (al be v : Int) : BOut :=
  let half := qOne / 2
  if v < 2 ^ 15 then ⟨[half, half, half], [], Fl.divguard⟩
  else
    let k : Int := 0x6ED9EBA1
    -- in units of 2^-62
    let va := al * 2 ^ 31
    let vb := -al * 2 ^ 30 + k * be
    let vc := -al * 2 ^ 30 - k * be
    let hi := max va (max vb vc)
    let lo := min va (min vb vc)
    let d := fun (vx : Int) =>
      -- 0.5 + (vx - (hi + lo) / 2) / v, in units of 2^-31: the quotient of 2^-63 by 2^-31
      let y := half + rdiv (2 * vx - (hi + lo)) (2 * v)
      let z := clampI 0 qOne y
      (z, if z = y then 0 else Fl.sat)
    ⟨[(d va).1, (d vb).1, (d vc).1], [], (d va).2 ||| (d vb).2 ||| (d vc).2⟩

/-- PROFSEL (R287): parameters I1, I2, I3, HI, T1, HT, E0 to E7; state b, t. -/
def blockProf (i tj : Int) (p st : List Int) : BOut :=
  let b := (st.getD 0 0).toNat
  let t := (st.getD 1 0).toNat
  let m : Int := i.natAbs
  let b' := if b < 3 ∧ p.getD b 0 < m then b + 1
    else if 0 < b ∧ m < p.getD (b - 1) 0 - p.getD 3 0 then b - 1 else b
  let t' := if t = 0 ∧ p.getD 4 0 < tj then 1 else if t = 1 ∧ tj < p.getD 4 0 - p.getD 5 0 then 0 else t
  let e := unsx 40 (p.getD (6 + 4 * t' + b') 0)
  ⟨[sx 40 (e / 8 * 8 + 4)], [b', t'], 0⟩

/-- The blocks that depend on nothing outside the graph: type, inputs, parameters, state words; none for the others. -/
def blockEval (ty : Nat) (l : Ins) (p st : List Int) : Option BOut :=
  let P := fun k => p.getD k 0
  let S := fun k => st.getD k 0
  let one := fun (q : Int × Nat) (s : List Int) => some (⟨[q.1], s, q.2⟩ : BOut)
  match ty with
  | 0x00 => some ⟨[P 0], [], 0⟩
  | 0x01 => one (q62 (P 0 * l.v 0 + P 1 * l.v 1 + P 2 * l.v 2 + P 3 * l.v 3 + P 4 * 2 ^ 31)) []
  | 0x02 => one (q62 (l.v 0 * l.v 1)) []
  | 0x03 =>
    let d := divGuard (l.v 1) (P 0)
    let q := qSat (rdiv (l.v 0 * 2 ^ 31) d.1)
    some ⟨[q.1], [], q.2 ||| d.2⟩
  | 0x04 => one (qSat (l.v 0).natAbs) []
  | 0x05 => some ⟨[min (l.v 0) (l.v 1), max (l.v 0) (l.v 1)], [], 0⟩
  | 0x06 =>
    let lo := l.orP 1 (P 0)
    let hi := l.orP 2 (P 1)
    if hi < lo then some ⟨[0, qOne], [], Fl.sat⟩
    else
      let y := min (max (l.v 0) lo) hi
      some ⟨[y, qBool (y != l.v 0)], [], 0⟩
  | 0x07 => some ⟨[if l.b 0 then l.v 1 else l.v 2], [], 0⟩
  | 0x08 =>
    let q := if l.v 1 + P 0 < l.v 0 then qOne else if l.v 0 < l.v 1 - P 0 then 0 else S 0
    some ⟨[q], [q], 0⟩
  | 0x09 => some ⟨[S 0], [l.v 0], 0⟩
  | 0x0A => one (qSat (qMag (l.v 0) (l.v 1))) []
  | 0x0B => let a := angle (l.v 0); some ⟨[qSin a, qCos a], [], 0⟩
  | 0x0C =>
    let a := l.v 0
    let b := l.v 1
    let c := l.orP 2 (-a - b)
    let x := q62 ((2 * a - b - c) * 0x2AAAAAAB)
    let y := q62 ((b - c) * 0x49E69D16)
    some ⟨[x.1, y.1], [], x.2 ||| y.2⟩
  | 0x0D =>
    let t := angle (l.v 2)
    let d := q62 (l.v 0 * qCos t + l.v 1 * qSin t)
    let q := q62 (l.v 1 * qCos t - l.v 0 * qSin t)
    some ⟨[d.1, q.1], [], d.2 ||| q.2⟩
  | 0x0E =>
    let t := angle (l.v 2)
    let a := q62 (l.v 0 * qCos t - l.v 1 * qSin t)
    let b := q62 (l.v 0 * qSin t + l.v 1 * qCos t)
    some ⟨[a.1, b.1], [], a.2 ||| b.2⟩
  | 0x0F =>
    let acc := (S 0 + angDelta (l.v 0) (P 0)) % 2 ^ 32
    some ⟨[(acc + (angle (l.v 1) : Int)) % 2 ^ 32, acc], [acc], 0⟩
  | 0x10 => some (blockPi l (P 0) (P 1) (P 2) (P 3) (P 4) (P 5) (P 6) (S 0))
  | 0x11 =>
    let y := q62 (P 0 * l.v 0 + P 1 * S 0 - P 2 * S 1)
    some ⟨[y.1], [l.v 0, y.1], y.2⟩
  | 0x12 =>
    let y := q62 (P 0 * l.v 0 + P 1 * S 0 + P 2 * S 1 - P 3 * S 2 - P 4 * S 3)
    some ⟨[y.1], [l.v 0, S 0, y.1, S 2], y.2⟩
  | 0x13 =>
    let up := max 0 (l.orP 1 (P 0))
    let dn := max 0 (l.orP 2 (P 1))
    let y := qSat (S 0 + min (max (l.v 0 - S 0) (-dn)) up)
    some ⟨[y.1], [y.1], y.2⟩
  | 0x14 => some (blockLut (l.v 0) (P 1) (P 2) ((p.drop 3).take (P 0).toNat))
  | 0x16 => some (blockPll (l.v 0) (l.v 1) (P 0) (P 1) (P 2) (P 3) (S 0) (S 1))
  | 0x18 => some (blockSvm (l.v 0) (l.v 1) (l.v 2))
  | 0x1C => some (blockProf (l.v 0) (l.v 1) p st)
  | _ => none

/-- Inputs, outputs, parameters and state words of a type (R282, R379); LUT1 has N parameters more than 3. -/
def blockShape (ty : Nat) : Nat × Nat × Nat × Nat :=
  match ty with
  | 0x00 => (0, 1, 1, 0) | 0x01 => (4, 1, 5, 0) | 0x02 => (2, 1, 0, 0) | 0x03 => (2, 1, 1, 0) | 0x04 => (1, 1, 0, 0)
  | 0x05 => (2, 2, 0, 0) | 0x06 => (3, 2, 2, 0) | 0x07 => (3, 1, 0, 0) | 0x08 => (2, 1, 1, 1) | 0x09 => (1, 1, 1, 1)
  | 0x0A => (2, 1, 0, 0) | 0x0B => (1, 2, 0, 0) | 0x0C => (3, 2, 0, 0) | 0x0D => (3, 2, 0, 0) | 0x0E => (3, 2, 0, 0)
  | 0x0F => (2, 2, 1, 1) | 0x10 => (5, 2, 7, 1) | 0x11 => (1, 1, 3, 2) | 0x12 => (1, 1, 5, 4) | 0x13 => (3, 1, 3, 1)
  | 0x14 => (1, 1, 3, 0) | 0x15 => (3, 2, 1, 0) | 0x16 => (2, 2, 4, 2) | 0x17 => (4, 4, 12, 8) | 0x18 => (3, 3, 0, 0)
  | 0x19 => (0, 2, 3, 2) | 0x1A => (0, 2, 1, 0) | 0x1B => (5, 0, 1, 0) | 0x1C => (2, 1, 14, 2) | 0x1D => (1, 0, 1, 0)
  | 0x1E => (1, 0, 1, 0) | 0x1F => (1, 0, 1, 0)
  | _ => (0, 0, 0, 0)

/-- The cost of a type in operations (R282). -/
def blockCost (ty : Nat) : Nat :=
  match ty with
  | 0x00 => 1 | 0x01 => 6 | 0x02 => 2 | 0x03 => 24 | 0x04 => 1 | 0x05 => 2 | 0x06 => 3 | 0x07 => 1 | 0x08 => 3
  | 0x09 => 1 | 0x0A => 20 | 0x0B => 12 | 0x0C => 4 | 0x0D => 16 | 0x0E => 16 | 0x0F => 3 | 0x10 => 8 | 0x11 => 5
  | 0x12 => 7 | 0x13 => 3 | 0x14 => 10 | 0x15 => 48 | 0x16 => 20 | 0x17 => 60 | 0x18 => 14 | 0x19 => 6 | 0x1A => 4
  | 0x1B => 6 | 0x1C => 6 | 0x1D => 3 | 0x1E => 2 | 0x1F => 2 | _ => 0

/-- Every SRC an EXTIN may name (R285). -/
def extValid (v : Int) : Bool :=
  decide ((0 ≤ v ∧ v ≤ 0x81) ∨ (0xC0 ≤ v ∧ v ≤ 0xEF) ∨ v = 0x100 ∨ v = 0x101 ∨ (0x110 ≤ v ∧ v ≤ 0x12F))

/-- The parameters of an instance lie in their ranges (R282, R283, R285 to R289, R379); the first offset that does not. -/
def paramBad (ty : Nat) (p : List Int) : Option Nat :=
  let P := fun k => p.getD k 0
  let chk : List (Nat × Bool) := match ty with
    | 0x03 => [(0, decide (1 ≤ P 0 ∧ P 0 ≤ qOne))]
    | 0x08 => [(0, decide (0 ≤ P 0))]
    | 0x0F => [(0, decide (0 ≤ P 0 ∧ P 0 < 2 ^ 32))]
    | 0x10 => [(5, decide (P 5 = 0 ∨ P 5 = 1))]
    | 0x14 => [(0, decide (2 ≤ P 0 ∧ P 0 ≤ 64)), (2, decide (0 < P 2))]
    | 0x15 => [(0, decide (P 0 = 0 ∨ P 0 = 1))]
    | 0x16 => [(2, decide (0 ≤ P 2 ∧ P 2 < 2 ^ 32)), (3, decide (0 < P 3))]
    | 0x17 => [(0, decide (0 ≤ P 0 ∧ P 0 ≤ qOne)), (1, decide (0 < P 1 ∧ P 1 ≤ 8 * qOne)), (2, decide (0 < P 2 ∧ P 2 ≤ 8 * qOne)),
        (3, decide (0 < P 3 ∧ 4 * P 3 ≤ qOne)), (4, decide (0 ≤ P 4 ∧ 64 * P 4 ≤ qOne)), (5, decide (0 ≤ P 5)), (6, decide (0 ≤ P 6)),
        (7, decide (0 ≤ P 7 ∧ P 7 < 2 ^ 32)), (8, decide (qOne ≤ 100 * P 8 ∧ 4 * P 8 ≤ qOne)), (9, decide (P 8 ≤ P 9 ∧ 2 * P 9 ≤ qOne)),
        (10, decide (0 ≤ P 10 ∧ P 10 ≤ qOne)), (11, decide (P 11 = 0 ∨ P 11 = 1))]
    | 0x19 => [(0, decide (0 ≤ P 0 ∧ P 0 < 2 ^ 34 ∧ P 0 / 2 ^ 12 % 4 ≠ 3))]
    | 0x1A => [(0, extValid (P 0))]
    | 0x1B => [(0, decide (0 ≤ P 0 ∧ P 0 < 2 ^ 10 ∧ P 0 % 64 < 33))]
    | 0x1C => [(0, true), (1, decide (P 0 < P 1)), (2, decide (P 1 < P 2))]
    | 0x1D => [(0, decide (1 ≤ P 0 ∧ P 0 ≤ 200000))]
    | 0x1E => [(0, decide (0 ≤ P 0 ∧ P 0 ≤ 15))]
    | 0x1F => [(0, decide (0 ≤ P 0 ∧ P 0 ≤ 63))]
    | _ => []
  (chk.find? (fun c => !c.2)).map (·.1)

end Sys2Proof.Machine
end

