-- ==== Sys2Proof/Machine/Engine.lean ====
section
/-! DEFINITION. Control graphs on the engines: the image, the interface blocks, the observer and the map, activations, the
pedal evaluator, the graph window (chapters 7 and 8; R371, R379 to R386). -/

namespace Sys2Proof.Machine

/-! ### The image (R267 to R269) -/

/-- Graph g's record in the accepted description. -/
def graphRec (s : State) (g : Nat) : Option GraphRec := s.plant.bind fun p => p.graphs.find? (fun x => x.g == g)

/-- The words of graph g's image. -/
def gWords (s : State) (g : Nat) : List Reg :=
  match s.plant, graphRec s g with
  | some p, some r => (p.words.drop r.pos).take r.len
  | _, _ => []

/-- Instances, parameter words and state words of an image. -/
def imgInst (w : List Reg) : Nat := (⟨31, 21⟩ : Fld).get (w.getD 0 0)
@[inherit_doc imgInst] def imgPar (w : List Reg) : Nat := (⟨25, 13⟩ : Fld).get (w.getD 1 0)
@[inherit_doc imgInst] def imgSt (w : List Reg) : Nat := (⟨12, 0⟩ : Fld).get (w.getD 1 0)

/-- One instance record (R268): type, divider field, parameter and state offsets, input references. -/
structure Inst where
  ty : Nat
  div : Nat
  par : Nat
  sta : Nat
  refs : List Nat
deriving DecidableEq, Repr

/-- Instance i of an image. -/
def instOf (w : List Reg) (i : Nat) : Inst :=
  let a := w.getD (4 + 3 * i) 0
  let b := w.getD (5 + 3 * i) 0
  let c := w.getD (6 + 3 * i) 0
  let f := fun (hi lo : Nat) (v : Reg) => (⟨hi, lo⟩ : Fld).get v
  { ty := f 39 35 a, div := f 34 29 a, par := f 28 16 a, sta := f 15 3 a,
    refs := [f 38 26 b, f 25 13 b, f 12 0 b, f 38 26 c, f 25 13 c, f 12 0 c] }

/-- The word at parameter offset k of an image, as a number. -/
def parAt (w : List Reg) (k : Nat) : Int := (w.getD (4 + 3 * imgInst w + k) 0).toInt

/-- The number of parameter words an instance has (R282). -/
def parCount (w : List Reg) (x : Inst) : Nat :=
  if x.ty = 0x14 then 3 + (parAt w x.par).toNat else (blockShape x.ty).2.2.1

/-- An instance's parameters. -/
def instPars (w : List Reg) (x : Inst) : List Int := (List.range (parCount w x)).map fun k => parAt w (x.par + k)

/-- The number of state words of a type. -/
def stCount (ty : Nat) : Nat := (blockShape ty).2.2.2

/-- The pair serving graph g. -/
def pairOf (s : State) (g : Nat) : Nat := s.fld (R.ENG_G_STAT g) F.ENG_G_STAT.PAIR

/-- The timebase graph g is bound to. -/
def tbOfGraph (s : State) (g : Nat) : Nat := s.fld (R.ENG_G_STAT g) F.ENG_G_STAT.TB

/-- Graph g is loaded. -/
def gLoaded (s : State) (g : Nat) : Bool := s.bit (R.ENG_G_STAT g) F.ENG_G_STAT.LOADED

/-- An engine has failed (R264). -/
def engFailed (s : State) (n : Nat) : Bool := bitN (s.fld R.ENG_STAT F.ENG_STAT.FAILED) n

/-- Neither member of the pair serving graph g has failed (R324). -/
def pairWhole (s : State) (g : Nat) : Bool := !engFailed s (2 * pairOf s g) && !engFailed s (2 * pairOf s g + 1)

/-- `ENG_Gg_STAT.RUNNING`: graph g's timebase runs and its activations are in progress, not suspended (R295, R341). -/
def gRuns (s : State) (g : Nat) : Bool :=
  gLoaded s g && (s.tbOf (tbOfGraph s g)).run && !s.bit (R.PLC_GRAPH g) F.PLC_GRAPH.SUSPENDED

/-- `ENG_STAT.RUN`: engine n has not failed and runs a graph (R295). -/
def engRuns (s : State) (n : Nat) : Bool := !engFailed s n && (List.range 8).any fun g => gRuns s g && pairOf s g == n / 2

/-- The queues an engine pair consumes (R238). -/
def pairQueues (s : State) (k : Nat) : List Nat :=
  (List.range 32).filter fun q => queCons s q == 2 && s.fld (R.QUE_Q_CFG q) F.QUE_Q_CFG.PAIR == k

/-! ### Flags (R280, R281) -/

/-- An instance's flags set; a graph flag that rises is an event of its own. -/
def setFlags (g i fl : Nat) (s : State) : State :=
  if fl = 0 then s
  else
    let x := s.graphOf g
    let s := s.setGraph g { x with flg := AMap.put x.flg i 0 (AMap.getD x.flg i 0 ||| fl) }
    let r := R.ENG_G_FLAGS g
    let old := s.fld r ⟨3, 0⟩
    let s := if old = 0 then s.setFld r F.ENG_G_FLAGS.FIRST i else s
    let s := (s.setFld r ⟨3, 0⟩ (old ||| fl)).setBit R.ENG_FLAGS F.ENG_FLAGS.GRAPH true
    forEach ((List.range 4).filter fun b => fl.testBit b && !old.testBit b)
      (fun b s => s.raise EV.GRAPH_FLAG g [(1, b), (2, i)]) s

/-- A 1 written to bits of `ENG_Gg_FLAGS` clears them in the register and in every instance (R280). -/
def clearGraphFlags (g mask : Nat) (s : State) : State :=
  let m := mask % 16
  let x := s.graphOf g
  let cut := fun (v : Nat) => (List.range 4).foldl (fun a b => if m.testBit b then clrBitN a b else a) v
  let s := s.setGraph g { x with flg := (x.flg.map fun p => (p.1, cut p.2)).filter (fun p => p.2 != 0) }
  s.setFld (R.ENG_G_FLAGS g) ⟨3, 0⟩ (cut (s.fld (R.ENG_G_FLAGS g) ⟨3, 0⟩))

/-! ### Outputs and state of instances -/

/-- What an instance's execution leaves: outputs, state words, flags. -/
def putInst (g i : Nat) (x : Inst) (r : BOut) (s : State) : State :=
  let u := s.graphOf g
  let out := (List.range r.out.length).foldl (fun m k => AMap.put m (4 * i + k) 0 (r.out.getD k 0)) u.out
  let st := (List.range r.st.length).foldl (fun l k => l.set (x.sta + k) (r.st.getD k 0)) u.st
  setFlags g i r.fl (s.setGraph g { u with out := out, st := st })

/-- The values an instance's inputs read (R269, R271). -/
def instIns (u : Graph) (x : Inst) : Ins :=
  x.refs.map fun r => if 0x1000 ≤ r then none else some (AMap.getD u.out r 0)

/-! ### QIN (R283) -/

/-- Bits 35:31 of an entry. -/
def entFl (e : QEnt) : Nat := b2n e.qual * 16 + b2n e.rep * 8 + b2n e.range * 4 + b2n e.lost * 2 + b2n e.unset

/-- What a QIN finds: a value and its flags, nothing, or an entry still to come. -/
inductive QRes where
  | got (y : Int) (fl sat : Nat)
  | stale
  | wait (ticks : Nat)
deriving DecidableEq, Repr

/-- A QIN of graph g, instance i, in the activation of period n. -/
def qinFind (s : State) (g i n : Nat) (p : List Int) : QRes :=
  let c := (p.getD 0 0).toNat
  let q := c % 32
  let ch := c / 32 % 128
  let ents := (s.queOf q).ents.filter fun e => e.chan == ch
  let scale := p.getD 1 0
  let off := p.getD 2 0
  let use := fun (e : QEnt) => let y := qSat (e.val * scale + off); QRes.got y.1 (entFl e) y.2
  match c / 2 ^ 12 % 4 with
  | 0 => match ents.getLast? with | some e => use e | none => .stale
  | 1 => match (ents.filter fun e => e.seq % 256 == (n + 255) % 256).getLast? with
    | some e => use e
    | none => .wait (c / 2 ^ 14 % 2 ^ 20)
  | _ =>
    let a := AMap.getD (s.graphOf g).mean i {}
    if a.cnt = 0 then .stale
    else let y := qSat (rdiv a.sum a.cnt * scale + off); .got y.1 a.fl y.2

/-- A stale QIN: it keeps its output, and is counted and reported. -/
def qinStale (g i : Nat) (x : Inst) (s : State) : State :=
  let u := s.graphOf g
  let y := AMap.getD u.out (4 * i) 0
  let run := u.staleRun.contains i
  let s := putInst g i x ⟨[y, 32], [y, 32], 0⟩ (s.setGraph g { u with staleRun := if run then u.staleRun else i :: u.staleRun })
  let s := (s.incFld (R.ENG_G_COUNT g) F.ENG_G_COUNT.STALE 1).setBit R.ENG_FLAGS F.ENG_FLAGS.STALE true
  if run then s else s.raise EV.QIN_STALE g [(2, i)]

/-- Every entry standing in a queue counts as examined (R284). -/
def qinExamined (g q : Nat) (s : State) : State :=
  let u := s.graphOf g
  match u.act with
  | none => s
  | some a => s.setGraph g { u with act := some { a with stood := AMap.ins a.stood q (s.queOf q).ents.length } }

/-- A QIN executes; `late` says that it no longer waits. The Boolean tells whether the activation must wait here. -/
def qinRun (g i n : Nat) (x : Inst) (p : List Int) (late : Bool) (s : State) : State × Option Nat :=
  let s := qinExamined g ((p.getD 0 0).toNat % 32) s
  match qinFind s g i n p with
  | .got y fl sat =>
    let u := s.graphOf g
    let s := s.setGraph g { u with staleRun := u.staleRun.filter (· != i), mean := AMap.del u.mean i }
    (putInst g i x ⟨[y, fl], [y, fl], sat⟩ s, none)
  | .stale => (qinStale g i x s, none)
  | .wait t => if late then (qinStale g i x s, none) else (s, some t)

/-- An entry is written to a queue: every MEAN QIN of its channel gathers it (R283). -/
def meanArrive (q : Nat) (e : QEnt) (s : State) : State :=
  forEach ((List.range 8).filter (gLoaded s)) (fun g s =>
    let w := gWords s g
    forEach (List.range (imgInst w)) (fun i s =>
      let x := instOf w i
      let c := (parAt w x.par).toNat
      if x.ty = 0x19 ∧ c / 2 ^ 12 % 4 = 2 ∧ c % 32 = q ∧ c / 32 % 128 = e.chan then
        let u := s.graphOf g
        let a := AMap.getD u.mean i {}
        s.setGraph g { u with mean := AMap.ins u.mean i ⟨a.sum + e.val, a.cnt + 1, a.fl ||| entFl e⟩ }
      else s) s) s

/-! ### EXTIN (R285, R303) -/

/-- What a hand-off slot gives a reader in the activation of period n (R301), be it begun late. -/
def handRead (h : Hand) (n : Nat) : Reg × Nat :=
  let now := if h.since ≤ n then (h.val, h.st) else h.old
  match h.next with
  | some (from_, v, st) => if from_ ≤ n then (v, st) else now
  | none => now

/-- A slot's due value put in force from its period on. -/
def handNext (x : Hand) (n : Nat) : Hand :=
  match x.next with
  | some (f, v, st) => if f ≤ n then { val := v, st := st, since := f, old := (x.val, x.st) } else x
  | none => x

/-- The junction temperature estimate of island n as the graph reads it, and whether it is invalid. -/
def tjRead (s : State) (n : Nat) : Int × Bool :=
  (s.sfld (R.LIFE_I_TJ n) F.LIFE_I_TJ.TJ * 2 ^ 27, !s.bit (R.LIFE_I_TJ n) F.LIFE_I_TJ.VALID)

/-- A source of EXTIN in the activation of period n: y and fl. -/
def extRead (s : State) (src n : Nat) : Int × Int :=
  if src < 0x40 then
    match AMap.get? s.eng.sp src with
    | some v => (v.toInt, 0)
    | none => (0, 1)
  else if src < 0x80 then let r := handRead (s.handOf (src - 0x40)) n; (r.1.toInt, r.2)
  else if src = 0x80 then (s.pilot.duty, s.fld R.CHG_CP_STAT F.CHG_CP_STAT.STATE + 8 * s.fld R.CHG_CP_STAT F.CHG_CP_STAT.PWM)
  else if src = 0x81 then
    if s.bit R.ENG_PEDAL_CFG F.ENG_PEDAL_CFG.EN then (s.eng.pedal.y, s.eng.pedal.state) else (0, 3)
  else if 0xC0 ≤ src ∧ src < 0xF0 then let r := tjRead s (src - 0xC0); (r.1, qBool r.2 / qOne)
  else if src = 0x100 ∨ src = 0x101 then (qBool (s.bit (R.PROT_SS_STAT (src - 0x100)) F.PROT_SS_STAT.APPLIED), 0)
  else (qBool (convOn s (src - 0x110)), 0)

/-! ### MAP3 (R370, R371, R374) -/

/-- An axis of a map: the cell, the remainder in units of 2^-57 of a cell, and whether the input lay beyond an end. The
fraction (u − ORIGIN) × RSTEP has units of 2^-41. -/
def axis (reg : Reg) (u : Int) (last : Nat) : Nat × Int × Bool :=
  let o := sx 20 (F.TRX_M_AXT.ORIGIN.get reg) * 2 ^ 15
  let f := (u - o) * F.TRX_M_AXT.RSTEP.get reg
  let top := (last : Int) * 2 ^ 41
  let g := clampI 0 top f
  let c := min (g / 2 ^ 41).toNat (last - 1)
  (c, g - c * 2 ^ 41, g != f)

/-- MAP3 of map m at torque t, speed w, voltage v. -/
def map3 (s : State) (m : Nat) (t w v : Int) : BOut :=
  let ok := s.bit R.TRX_MAP_STAT (if m = 0 then F.TRX_MAP_STAT.VALID0 else F.TRX_MAP_STAT.VALID1)
  if !ok then ⟨[0, 0], [], Fl.range⟩
  else
    let sg : Int := if w < 0 then -1 else 1
    let (ct, rt, bt) := axis (s.reg (R.TRX_M_AXT m)) (sg * t) 63
    let (cw, rw, bw) := axis (s.reg (R.TRX_M_AXW m)) w.natAbs 31
    let (cv, rv, bv) := axis (s.reg (R.TRX_M_AXV m)) v 7
    let one : Int := 2 ^ 41
    let corner := fun (a b c : Nat) =>
      let wt := (if a = 1 then rt else one - rt) * (if b = 1 then rw else one - rw) * (if c = 1 then rv else one - rv)
      let e := AMap.getD s.trx.map (16384 * m + 2048 * (cv + c) + 64 * (cw + b) + (ct + a)) 0
      (wt * sx 20 (F.TRX_MAP_DATA.ID.get e), wt * sx 20 (F.TRX_MAP_DATA.IQ.get e))
    let all := [corner 0 0 0, corner 1 0 0, corner 0 1 0, corner 1 1 0, corner 0 0 1, corner 1 0 1, corner 0 1 1, corner 1 1 1]
    let sum := all.foldl (fun a c => ((a.1 + c.1 : Int), (a.2 + c.2 : Int))) ((0 : Int), (0 : Int))
    -- weights have units of 2^-123 and the map's values of 2^-16: 2^15 × sum / 2^123
    let id := qSat (rshr sum.1 108)
    let iq := qSat (rshr (sg * sum.2) 108)
    ⟨[id.1, iq.1], [], id.2 ||| iq.2 ||| (if bt || bw || bv then Fl.range else 0)⟩

/-! ### OBS (R379 to R386) -/

/-- R380: one activation of the observer's loop, its angle advanced by `adv` of the speed: the new state words, e, w, the flux
linkage, the flags. -/
def obsCore (adv : Int → Int) (p st : List Int) (l : Ins) : List Int × Int × Int × Int × Nat :=
  let P := fun k => p.getD k 0
  let S := fun k => st.getD k 0
  let ia := l.v 0
  let ib := l.v 1
  let flux := fun (ps v i : Int) => q93 (ps * 2 ^ 62 + P 3 * (v * 2 ^ 31 - P 0 * i) - P 4 * ps * 2 ^ 31)
  let psa := flux (S 0) (l.v 2) ia
  let psb := flux (S 1) (l.v 3) ib
  let aa := q62 (psa.1 * 2 ^ 31 - P 2 * ia)
  let ab := q62 (psb.1 * 2 ^ 31 - P 2 * ib)
  let mag := qSat (qMag aa.1 ab.1)
  let th := angle (S 2)
  let d := divGuard mag.1 (2 ^ 15)
  let e := qSat (rdiv (ab.1 * qCos th - aa.1 * qSin th) d.1)
  let lim := fun (q : Int × Nat) => let y := clampI (-(2 ^ 32)) (2 ^ 32) q.1; (y, q.2 ||| (if y = q.1 then 0 else Fl.windup))
  let i := lim (q62 (S 3 * 2 ^ 31 + P 6 * e.1))
  let w := lim (q62 (P 5 * e.1 + i.1 * 2 ^ 31))
  let wf := qSat (S 4 + rshr (w.1 - S 4) 4)
  let th1 := angle (S 2 + adv w.1)
  let id := q62 (ia * qCos th1 + ib * qSin th1)
  let psi := q62 (mag.1 * 2 ^ 31 - (P 1 - P 2) * id.1)
  let fl := psa.2 ||| psb.2 ||| aa.2 ||| ab.2 ||| mag.2 ||| d.2 ||| e.2 ||| i.2 ||| w.2 ||| wf.2 ||| id.2 ||| psi.2
  ([psa.1, psb.1, (th1 : Int), i.1, wf.1, S 5, ia, ib], e.1, w.1, psi.1, fl)

/-- R381: ok after an activation with the filtered speed wf and the error e. -/
def obsOk (o : Obs) (wf e : Int) : Obs :=
  let a : Int := wf.natAbs
  let b : Int := e.natAbs
  if o.ok then
    let bad := decide (1000 * a < 25 * qOne) || decide (qOne / 8 < b)
    let r := if bad then o.badRun + 1 else 0
    { o with ok := decide (r < 4), badRun := if r < 4 then r else 0, okRun := 0 }
  else
    let good := decide (3 * qOne ≤ 100 * a) && decide (b < qOne / 32)
    let r := if good then o.okRun + 1 else 0
    { o with ok := decide (16 ≤ r), okRun := if 16 ≤ r then 0 else r, badRun := 0 }

/-- The angle k × 15° (R383). -/
def locAngle (k : Nat) : Nat := (2 * k * 2 ^ 32 + 24) / 48 % 2 ^ 32

/-- The arctangent table of the CORDIC, atan(2^-k) in units of 2^-40 turn. -/
def atanTab : List Int :=
  [137438953472, 81134915254, 42869343498, 21761227550, 10922864163, 5466752560, 2734043477, 1367105166, 683562969,
   341782788, 170891556, 85445798, 42722902, 21361451, 10680726, 5340363, 2670181, 1335091, 667545, 333773, 166886, 83443,
   41722, 20861, 10430, 5215, 2608, 1304, 652, 326, 163, 81]

/-- The angle of (x, y) in units of 2^-40 turn for x ≥ 0, by CORDIC. -/
def cordic : List Int → Nat → Int → Int → Int → Int
  | [], _, _, _, a => a
  | t :: l, k, x, y, a =>
    if 0 ≤ y then cordic l (k + 1) (x + y / 2 ^ k) (y - x / 2 ^ k) (a + t) else cordic l (k + 1) (x - y / 2 ^ k) (y + x / 2 ^ k) (a - t)

/-- atan2 as an angle of 32 bits; its rounding is the model's open value (`Config.atanErr`). -/
def atan2 (y x : Int) : Nat :=
  let a := if x < 0 then 2 ^ 39 - cordic atanTab 0 (-x * 2 ^ 24) (y * 2 ^ 24) 0 else cordic atanTab 0 (x * 2 ^ 24) (y * 2 ^ 24) 0
  ((rshr a 8 + ((Config.atanErr y x % 5 : Nat) : Int) - 2) % 2 ^ 32).toNat

/-- What stops or starts an attempt, read at the beginning of an activation (R383, R386): the observer in the phase it
runs. -/
def obsPhase (s : State) (m j : Nat) (o : Obs) : Obs :=
  let req := AMap.get? s.eng.sp (8 * m + 4) == some (BitVec.ofInt 40 qOne)
  let dir := s.bit (R.TRX_M_STAT m) F.TRX_M_STAT.DIR_ACT
  let stop := s.bit (R.PROT_SS_STAT m) F.PROT_SS_STAT.APPLIED || dir != o.dir
  let held := s.bit (R.PWM_TB_STAT j) F.PWM_TB_STAT.HELD || s.bit (R.PWM_TB_STAT j) F.PWM_TB_STAT.REFUSED
  let begin_ : Obs := { phase := 1, dir := dir, why := o.why }
  let locating := o.phase == 1 || o.phase == 2
  if (locating || o.phase == 3) && stop then { o with phase := 0, ok := false }
  else if locating && !req then { o with phase := 0, ok := false }
  else if locating && held then begin_
  else if o.phase == 5 && !req then { o with phase := 0 }
  else if (o.phase == 0 || (o.phase == 4 && !o.ok)) && req then begin_
  else o

/-- LOCATE and POLARITY, activation o.k (R383): the outputs θ and ψ, the state words, the new record. -/
def obsLocate (p st : List Int) (l : Ins) (o : Obs) : BOut × Obs :=
  let P := fun k => p.getD k 0
  let S := fun k => st.getD k 0
  let ia := l.v 0
  let ib := l.v 1
  let n := o.k
  let proj := fun (a : Nat) => q62 (ia * qCos a + ib * qSin a)
  let keep := fun (psa psb th : Int) => [psa, psb, th, S 3, S 4, (o.phase : Int), ia, ib]
  let fin := fun (th psi psa psb : Int) (fl : Nat) (o : Obs) =>
    ((⟨[th, 0, psi, 0], keep psa psb th, fl⟩ : BOut), { o with w := 0, psi := psi })
  if n ≤ 25 then
    let z := if n = 0 then (0, 0, 0) else (S 0, S 1, 0)
    let sums := if n % 2 = 0 ∧ 2 ≤ n then
        let a := locAngle (n / 2 - 1)
        let r := proj a
        let x := q62 (z.1 * 2 ^ 31 + r.1 * qCos (2 * a))
        let y := q62 (z.2.1 * 2 ^ 31 + r.1 * qSin (2 * a))
        (x.1, y.1, r.2 ||| x.2 ||| y.2)
      else z
    if n = 25 then
      let d := atan2 sums.2.1 sums.1 / 2
      fin d 0 sums.1 sums.2.1 sums.2.2 { o with k := 26, phase := 2, thd := d }
    else
      let th : Int := locAngle (min (n / 2) 11)
      let psi := if 24 ≤ n then 0 else if n % 2 = 0 then P 8 else -P 8
      fin th psi sums.1 sums.2.1 sums.2.2 { o with k := n + 1, phase := 1 }
  else
    let back : Nat := (o.thd + 2 ^ 31) % 2 ^ 32
    if n = 26 then fin o.thd (P 9) (S 0) (S 1) 0 { o with k := 27 }
    else if n = 27 then fin o.thd (-P 9) (S 0) (S 1) 0 { o with k := 28 }
    else if n = 28 then let r := proj o.thd; fin back (P 9) (S 0) (S 1) r.2 { o with k := 29, p1 := r.1 }
    else if n = 29 then fin back (-P 9) (S 0) (S 1) 0 { o with k := 30 }
    else
      let r := proj back
      let th : Int := if r.1 < o.p1 then (o.thd : Int) else (back : Int)
      if 40 * ((o.p1 - r.1).natAbs : Int) < o.p1 + r.1 then fin th 0 (S 0) (S 1) r.2 { o with phase := 5, why := 2 }
      else fin th 0 (S 0) (S 1) r.2 { o with k := 31, phase := 3, motion := 0 }

/-- The advance of ACCEL's angle (R383): `TRACKG` times the response of the q-axis current, whose gain and demodulation the spec
does not state: a free value d (assumption 2). -/
def accAdvance (p st : List Int) (l : Ins) (d : Nat) : Int :=
  let th := angle (st.getD 2 0)
  let iq := q62 (l.v 1 * qCos th - l.v 0 * qSin th)
  rdiv (p.getD 10 0 * iq.1 * sx 32 d) (2 ^ 62)

/-- An activation of the OBS instance i of graph g at boundary b (R380 to R384). -/
def obsRun (g i b : Nat) (x : Inst) (p : List Int) (s : State) : State :=
  let u := s.graphOf g
  let l := instIns u x
  let st := (List.range 8).map fun k => u.st.getD (x.sta + k) 0
  let m := (p.getD 11 0).toNat
  let o := obsPhase s m (tbOfGraph s g) (AMap.getD u.obs i {})
  let put := fun (r : BOut) (o : Obs) (s : State) =>
    putInst g i x { r with st := r.st.set 5 (o.phase : Int) } (s.setGraph g { s.graphOf g with obs := AMap.put (s.graphOf g).obs i {} o })
  if o.phase = 1 ∨ o.phase = 2 then
    let r := obsLocate p st l o
    put r.1 r.2 s
  else if o.phase = 5 then put ⟨[st.getD 2 0, 0, 0, 0], st, 0⟩ { o with psi := 0, w := 0, ok := false } s
  else if o.phase = 3 then
    let first := o.k = 31
    let st := if first then [0, 0, st.getD 2 0, 0, 0, 3, st.getD 6 0, st.getD 7 0] else st
    let o : Obs := if first then { o with accAt := b, motion := 0, okRun := 0, badRun := 0, ok := false } else o
    let (dem, s) := s.draw 32
    let d := accAdvance p st l dem
    let (c, e, w, _, fl) := obsCore (fun _ => d) p st l
    let th := c.getD 2 0
    let o : Obs := { obsOk o (c.getD 4 0) e with k := o.k + 1, motion := o.motion + (if o.dir then -d else d), w := w }
    let inj : Int := if o.k % 2 = 0 then p.getD 8 0 else -p.getD 8 0
    let backDeg := s.fld (R.TRX_M_START m) F.TRX_M_START.BACK
    let tacc := 200000 * s.fld (R.TRX_M_START m) F.TRX_M_START.TACC
    let stop := fun (why : Nat) => put ⟨[th, w, 0, 0], c, fl⟩ { o with phase := 5, why := why, psi := 0, ok := false } s
    if o.ok then (put ⟨[th, w, inj, qOne], c, fl⟩ { o with phase := 4, psi := inj } s).raise EV.START_DONE m []
    else if o.motion * 360 ≤ -((backDeg : Int) * 2 ^ 32) then stop 1
    else if o.accAt + tacc ≤ b then stop 3
    else put ⟨[th, w, inj, 0], c, fl⟩ { o with psi := inj } s
  else
    let (c, e, w, psi, fl) := obsCore (fun w => angDelta w (p.getD 7 0)) p st l
    let o := obsOk o (c.getD 4 0) e
    let o := { o with phase := if o.ok then 4 else 0, w := w, psi := psi }
    put ⟨[c.getD 2 0, w, psi, qBool o.ok], c, fl⟩ o s

/-- A start attempt that the graph's suspension ends (R386); what was located is located anew. -/
def obsEnd (g : Nat) (s : State) : State :=
  let u := s.graphOf g
  s.setGraph g { u with obs := u.obs.map fun p =>
    (p.1, if 1 ≤ p.2.phase ∧ p.2.phase ≤ 3 then { p.2 with phase := 0, ok := false } else p.2) }

/-! ### One instance -/

/-- An activation's record changed. -/
def onAct (g : Nat) (f : Act → Act) (s : State) : State :=
  let u := s.graphOf g
  match u.act with
  | some a => s.setGraph g { u with act := some (f a) }
  | none => s

/-- Instance i executes in the activation of period n at boundary b; what is given is the wait of a QIN, if it must wait. -/
def instRun (g n b i : Nat) (late : Bool) (s : State) : State × Option Nat :=
  let w := gWords s g
  let x := instOf w i
  if n % (x.div + 1) ≠ 0 then (s, none)
  else
    let u := s.graphOf g
    let l := instIns u x
    let p := instPars w x
    let st := (List.range (stCount x.ty)).map fun k => u.st.getD (x.sta + k) 0
    match blockEval x.ty l p st with
    | some r => (putInst g i x r s, none)
    | none =>
      if x.ty = 0x15 then (putInst g i x (map3 s (p.getD 0 0).toNat (l.v 0) (l.v 1) (l.v 2)) s, none)
      else if x.ty = 0x17 then (obsRun g i b x p s, none)
      else if x.ty = 0x19 then qinRun g i n x p late s
      else if x.ty = 0x1A then let r := extRead s (p.getD 0 0).toNat n; (putInst g i x ⟨[r.1, r.2], [], 0⟩ s, none)
      else if x.ty = 0x1B then
        let c := (p.getD 0 0).toNat
        let put := fun (bit off : Nat) (v : Int) => if c.testBit bit then [(⟨c % 64, off, unsx 40 v⟩ : Shadow)] else []
        let ctrl : Int := (angle (l.v 4) % 2 ^ 15 / 2 * 2 + b2n (l.b 3) : Nat)
        let vs := put 6 1 (l.v 0) ++ put 7 2 (l.v 1) ++ put 8 3 (l.v 2) ++ put 9 4 ctrl
        (onAct g (fun a => { a with set := a.set ++ vs }) s, none)
      else if x.ty = 0x1D then
        let t := ((l.v 0 * p.getD 0 0 + 2 ^ 30) / 2 ^ 31).toNat
        (onAct g (fun a => { a with set := a.set ++ [⟨33, 1, t⟩] }) s, none)
      else if x.ty = 0x1E then (onAct g (fun a => { a with taps := a.taps ++ [((p.getD 0 0).toNat, l.v 0)] }) s, none)
      else if x.ty = 0x1F then
        (onAct g (fun a => { a with offers := a.offers ++ [((p.getD 0 0).toNat, l.v 0, x.div + 1)] }) s, none)
      else (s, none)

/-! ### The pedal evaluator (R309 to R312) -/

/-- Graph g holds an EXTIN of a source. -/
def holdsExt (s : State) (g src : Nat) : Bool :=
  let w := gWords s g
  (List.range (imgInst w)).any fun i => let x := instOf w i; x.ty == 0x1A && parAt w x.par == (src : Int)

/-- The newest entry of a channel in the queues of graph g's pair, by its stamp. -/
def newestOf (s : State) (g chan : Nat) : Option QEnt :=
  ((pairQueues s (pairOf s g)).flatMap fun q => (s.queOf q).ents.filter fun e => e.chan == chan).foldl
    (fun a e => match a with | some x => if x.stamp ≤ e.stamp then some e else a | none => some e) none

/-- A track (R310): validity and position. Its entry is stamped in the 20 ms before B (R26). -/
def track (s : State) (g b chan : Nat) (cfg : Reg) : Bool × Int :=
  match newestOf s g chan with
  | none => (false, 0)
  | some e =>
    let rd := fun (v : Nat) => if chanSigned chan then sx 16 v else (v : Int)
    let z := rd (F.ENG_PEDAL_T.ZERO.get cfg)
    let f := rd (F.ENG_PEDAL_T.FULL.get cfg)
    let mg : Int := 16 * F.ENG_PEDAL_T.MARGIN.get cfg
    let v := e.val
    let ok := decide (b ≤ e.stamp + 4000000 ∧ e.stamp < b) && !e.qual && !e.range && !e.unset &&
      decide (min z f - mg ≤ v) && decide (v ≤ max z f + mg)
    (ok, if f = z then 0 else clampI 0 qOne (rdiv ((v - z) * qOne) (f - z)))

/-- A condition that last failed at boundary t has held at every activation of the last p ticks of b. -/
def persists (t : Option Nat) (p b : Nat) : Bool := match t with | none => true | some t => decide (t + p < b)

/-- R311: the evaluator's next state from both tracks at boundary b. -/
def pedalNext (q : Pedal) (tol cap : Int) (per b : Nat) (va vb : Bool) (pa pb : Int) : Pedal :=
  let agree := decide (((pa - pb).natAbs : Int) ≤ tol)
  let both := va && vb
  let okc := both && agree
  let rel := okc && decide (pa ≤ tol ∧ pb ≤ tol)
  let mark := fun (c : Bool) (t : Option Nat) => if c then t else some b
  let q := { q with pa := pa, pb := pb, notA := mark (!va) q.notA, notB := mark (!vb) q.notB,
                    notD := mark (both && !agree) q.notD, notR := mark rel q.notR }
  let fault := { q with state := 3, y := 0 }
  let disag := both && !agree && persists q.notD per b
  let ok := { q with state := 0, y := min pa pb }
  if q.state ≤ 1 then
    if okc then ok
    else if !va && !vb then fault
    else if disag then fault
    else if !va && persists q.notA per b then { q with state := 2, useB := true, y := min pb cap }
    else if !vb && persists q.notB per b then { q with state := 2, useB := false, y := min pa cap }
    else { q with state := 1, y := if both then min pa pb else q.y }
  else if q.state = 2 then
    if rel && persists q.notR per b then ok
    else if (if q.useB then !vb else !va) then fault
    else if disag then fault
    else { q with y := min (if q.useB then pb else pa) cap }
  else if rel && persists q.notR per b then ok else fault

/-- The evaluator runs once in an activation of the graph that holds an EXTIN 0x081 (R309, R312). -/
def pedalRun (g b : Nat) (s : State) : State :=
  let c := s.reg R.ENG_PEDAL_CFG
  if F.ENG_PEDAL_CFG.EN.get c = 0 then s
  else
    let a := track s g b (F.ENG_PEDAL_CFG.CH_A.get c) (s.reg (R.ENG_PEDAL_T 0))
    let d := track s g b (F.ENG_PEDAL_CFG.CH_B.get c) (s.reg (R.ENG_PEDAL_T 1))
    let old := s.eng.pedal
    let q := pedalNext old (F.ENG_PEDAL_CFG.TOL.get c * 2 ^ 23) (F.ENG_PEDAL_CFG.CAP.get c * 2 ^ 23)
      (200000 * F.ENG_PEDAL_CFG.PERSIST.get c) b a.1 d.1 a.2 d.2
    let s := { s with eng := { s.eng with pedal := q } }
    let r12 := fun (v : Int) => min 0xFFF (v / 2 ^ 19).toNat
    let i := R.ENG_PEDAL_STAT
    let s := ((s.setFld i F.ENG_PEDAL_STAT.STATE q.state).setFld i F.ENG_PEDAL_STAT.PA (r12 a.2)).setFld i F.ENG_PEDAL_STAT.PB (r12 d.2)
    let s := ((s.setFld i F.ENG_PEDAL_STAT.REQ (r12 q.y)).setBit i F.ENG_PEDAL_STAT.VALID_A a.1).setBit i F.ENG_PEDAL_STAT.VALID_B d.1
    if q.state ≥ 2 && q.state != old.state then
      (s.setBit R.ENG_PAIR_FLAGS F.ENG_PAIR_FLAGS.PEDAL true).raise EV.PEDAL_FAULT 0xFF [(1, q.state), (2, r12 a.2), (2, r12 d.2)]
    else if q.state = 0 && old.state != 0 then s.raise EV.PEDAL_OK 0xFF []
    else s

/-! ### Activations (R273 to R276, R284, R289, R291, R293, R314 to R316) -/

/-- The initial state of a graph: its initial state area, with the starting values the library names for DELAY, CMP, RATE
and PROFSEL (R276, R282, R287). -/
def initState (w : List Reg) : List Int :=
  let base := (List.range (imgSt w)).map fun k => (w.getD (4 + 3 * imgInst w + imgPar w + k) 0).toInt
  (List.range (imgInst w)).foldl (fun l i =>
    let x := instOf w i
    match x.ty with
    | 0x08 => l.set x.sta 0
    | 0x09 => l.set x.sta (parAt w x.par)
    | 0x13 => l.set x.sta (parAt w (x.par + 2))
    | 0x1C => (l.set x.sta 0).set (x.sta + 1) 0
    | _ => l) base

/-- The outputs before the first activation: those of DELAY stand at Y0 (R282), all others at 0. -/
def initOut (w : List Reg) : AMap Int :=
  (List.range (imgInst w)).foldl (fun m i =>
    let x := instOf w i
    if x.ty = 0x09 then AMap.put m (4 * i) 0 (parAt w x.par) else m) []

/-- A graph's state is loaded from its initial state area (R276). Its sticky flags stay (R280). -/
def loadInit (w : List Reg) (u : Graph) : Graph :=
  { u with st := initState w, out := initOut w, mean := [], staleRun := [], obs := [] }

/-- The CRC-32C over words, each taken as five bytes, least significant first. -/
def crcWords (l : List Reg) : Nat := crc32c (l.flatMap fun v => leBytes 5 v.toNat)

/-- The words of a description with the CRCs of a graph's image and of the whole put right (R267, R330). -/
def fixCrcs (r : GraphRec) (ws : List Reg) : List Reg :=
  let img := (ws.drop r.pos).take r.len
  let ws := ws.set (r.pos + 2) (BitVec.ofNat 40 (crcWords (img.eraseIdx 2)))
  ws.set 1 (BitVec.ofNat 40 (crcWords (ws.eraseIdx 1)))

/-- Parameter words of graph g replaced in the accepted description. -/
def putParams (g : Nat) (l : List (Nat × Reg)) (s : State) : State :=
  match s.plant, graphRec s g with
  | some p, some r =>
    let base := r.pos + 4 + 3 * imgInst (gWords s g)
    let ws := l.foldl (fun ws x => ws.set (base + x.1) x.2) p.words
    { s with plant := some { p with words := fixCrcs r ws } }
  | _, _ => s

/-- R293: an APPLY that waits takes effect at the start of graph g's first activation after it, at boundary b. -/
def applyTakes (g b : Nat) (s : State) : State :=
  match AMap.get? s.eng.apply_ g with
  | none => s
  | some l =>
    let s := putParams g l s
    let s := { s with eng := { s.eng with apply_ := AMap.del s.eng.apply_ g } }
    (s.setBit R.ENG_GWIN_STAT F.ENG_GWIN_STAT.PENDING (!s.eng.apply_.isEmpty)).raise EV.PARAM_APPLIED g [(5, b)]

/-- The graph mirror refreshed (R291). -/
def mirrorGraph (g : Nat) (s : State) : State :=
  let u := s.graphOf g
  if u.mAt = s.dt / 200000 then s
  else s.setGraph g { u with mSt := u.st, mFlg := u.flg, mOut := u.out, mAt := s.dt / 200000 }

/-- A spent activation of a graph under re-placement has ended: the load of its new pair starts from there (R344). -/
def loadFrom (g : Nat) (s : State) : State :=
  match s.plc.cur with
  | some c =>
    if c.graphs.testBit g then
      { s with plc := { s.plc with cur := some { c with loadAt := max c.loadAt ((s.graphOf g).prevEnd + s.fld (R.PLC_GRAPH g) F.PLC_GRAPH.RP) } } }
    else s
  | none => s

/-- An activation ends: the entries of the pair's own queues are marked read (R238, R284), TAPs copied with the tick at which
the first member ends, the set stands with its token, counters move. A pair with a failed member marks nothing and produces no
set (R316, R324), and the set of a spent activation stands for no checkpoint. The entries and TAPs show their new state from
this command on (assumption 94). -/
def actEnd (g : Nat) (s : State) : State :=
  let u := s.graphOf g
  match u.act with
  | none => s
  | some a =>
    let dur := s.dt - a.start + a.dur
    let fin : DoneSet := ⟨a.n, a.start + dur, a.set, a.offers⟩
    let whole := pairWhole s g && !a.lost
    let own := pairQueues s (pairOf s g)
    let done := if whole && !a.spent then (u.done ++ [fin]).drop (u.done.length - 1) else u.done
    let s := s.setGraph g { u with act := none, done := done, prevEnd := a.start + dur }
    let s := if a.spent then loadFrom g s else s
    let s := forEach (if whole then a.stood.filter fun p => own.contains p.1 else []) (fun p s => queFree p.1 p.2 s) s
    let s := forEach a.taps (fun p s =>
      recTake (recKey 1 (16 * g + p.1)) (fin.tick - a.lag) (unsx 40 p.2) (s.setReg (R.ENG_G_TAP g p.1) (BitVec.ofInt 40 p.2))) s
    let last := min dur (2 ^ 20 - 1)
    let s := (s.setFld (R.ENG_G_TIME g) F.ENG_G_TIME.LAST last).setFld (R.ENG_G_TIME g) F.ENG_G_TIME.MAX
      (max last (s.fld (R.ENG_G_TIME g) F.ENG_G_TIME.MAX))
    let s := s.setFld (R.ENG_G_COUNT g) F.ENG_G_COUNT.ACT (s.fld (R.ENG_G_COUNT g) F.ENG_G_COUNT.ACT + 1)
    let k := R.ENG_PAIR_STAT_K (pairOf s g)
    let s := s.setFld k F.ENG_PAIR_STAT_K.LAG_MAX (max (s.fld k F.ENG_PAIR_STAT_K.LAG_MAX) (min a.lag 65535))
    mirrorGraph g s

/-- The instances of a list execute in order; a QIN that must wait stops the activation there. -/
def instsRun (g n b : Nat) : List Nat → Bool → State → State
  | [], _, s => actEnd g s
  | i :: l, late, s =>
    match instRun g n b i late s with
    | (s, none) => instsRun g n b l false s
    | (s, some t) => onAct g (fun a => { a with idx := i, wait := some (a.start + t) }) s

/-- The activation in progress goes on from where it stands. -/
def actGo (g : Nat) (late : Bool) (s : State) : State :=
  match (s.graphOf g).act with
  | none => s
  | some a => instsRun g a.n a.b ((List.range (imgInst (gWords s g))).drop a.idx) late (onAct g (fun a => { a with wait := none }) s)

/-- R273 to R276: graph g takes its next boundary notice and begins its activation. -/
def actBegin (g dur lag : Nat) (s : State) : State :=
  let u := s.graphOf g
  match u.act, u.notices with
  | none, (n, b, _) :: t =>
    let s := s.setGraph g { u with notices := t }
    if !pairWhole s g then s
    else
      let s := s.until u.prevEnd
      let s := applyTakes g b s
      let w := gWords s g
      let u := s.graphOf g
      let u := if u.fresh then { loadInit w u with fresh := false } else u
      let stood := (pairQueues s (pairOf s g)).map fun q => (q, (s.queOf q).ents.length)
      let a : Act := { n := n, b := b, start := s.dt, stood := stood, dur := dur, lag := lag }
      let s := s.setGraph g { u with act := some a }
      if holdsExt s g 0x81 then pedalRun g b s else s
  | _, _ => s

/-- R283: a waiting QIN's time has passed; it gives a stale result and the activation goes on. -/
def qinWaitEnd (g : Nat) (s : State) : State :=
  match (s.graphOf g).act with
  | some { wait := some t, .. } => actGo g true (s.until t)
  | _ => s

def execQinWaitEnd (e : Nat) (g : Fin 8) (s : State) : Host.Outcome State Fault Refusal := .next (qinWaitEnd g (s.tick e))

/-! ### Store errors (R264) -/

/-- R264: an error in word `word` of engine n's store, one of the 13,107 of R263; a single-bit error is corrected, an
uncorrectable one fails the engine. -/
def engStore (n word : Nat) (fatal : Bool) (s : State) : State :=
  let i := R.ENG_ECC
  let s := ((s.setFld i F.ENG_ECC.LAST_ENG n).setFld i F.ENG_ECC.LAST_WORD word).setBit i F.ENG_ECC.LAST_FATAL fatal
  if fatal then
    let s := s.setBitAt R.ENG_STAT F.ENG_STAT.FAILED n true
    let s := (s.setBit R.ENG_FLAGS F.ENG_FLAGS.ECC_FATAL true).raise EV.ENG_STORE n [(2, word)]
    match (List.range 8).find? fun g => gLoaded s g && pairOf s g == n / 2 with
    | some g => failReport { kind := 1, index := n, graph := g } s
    | none => failReport { kind := 1, index := n } s
  else (s.incFld i F.ENG_ECC.CORR_COUNT 1).setBit R.ENG_FLAGS F.ENG_FLAGS.ECC_CORR true

def execEngStore (e : Nat) (n : Fin 16) (word : Fin 13107) (fatal : Bool) (s : State) : Host.Outcome State Fault Refusal :=
  .next (engStore n word fatal (s.tick e))

/-! ### The graph window (R291 to R294) -/

/-- The words of an area of graph g, none where the area or the graph does not exist. -/
def gwinSize (s : State) (g area : Nat) : Nat :=
  if !gLoaded s g then 0
  else
    let w := gWords s g
    match area with
    | 0 => 4 + 3 * imgInst w | 1 => imgPar w | 2 => imgSt w | 3 => imgInst w | 4 => 4 * imgInst w | _ => 0

/-- The fields of `ENG_GWIN_ADDR`: graph, area, word. -/
def gwinAt (s : State) : Nat × Nat × Nat :=
  let a := s.reg R.ENG_GWIN_ADDR
  (F.ENG_GWIN_ADDR.GRAPH.get a, F.ENG_GWIN_ADDR.AREA.get a, F.ENG_GWIN_ADDR.WORD.get a)

/-- An access at the window's address lies outside the graph or area (R291). -/
def gwinBad (s : State) : Bool := let (g, a, w) := gwinAt s; decide (gwinSize s g a ≤ w)

/-- The word at the window's address. -/
def gwinWord (s : State) : Reg :=
  let (g, a, w) := gwinAt s
  let u := s.graphOf g
  match a with
  | 0 => (gWords s g).getD w 0
  | 1 => (gWords s g).getD (4 + 3 * imgInst (gWords s g) + w) 0
  | 2 => BitVec.ofInt 40 (u.mSt.getD w 0)
  | 3 => BitVec.ofNat 40 (AMap.getD u.mFlg w 0)
  | _ => BitVec.ofInt 40 (AMap.getD u.mOut w 0)

/-- The window's address after an access. -/
def gwinStep (s : State) : State :=
  if s.bit R.ENG_GWIN_ADDR F.ENG_GWIN_ADDR.AUTOINC then
    s.setFld R.ENG_GWIN_ADDR F.ENG_GWIN_ADDR.WORD (s.fld R.ENG_GWIN_ADDR F.ENG_GWIN_ADDR.WORD + 1)
  else s

/-- A read of `ENG_GWIN_DATA` (R291). -/
def gwinRead (s : State) : Nat × Reg × State := if gwinBad s then (St.badParam, 0, s) else (St.ok, gwinWord s, gwinStep s)

/-- Whether a write of `ENG_GWIN_DATA` is answered BAD_PARAM (R291, R292). -/
def gwinWriteBad (s : State) : Bool :=
  let (g, a, w) := gwinAt s
  let fresh := !(s.eng.stage.any fun x => x.2.1 == w)
  gwinBad s || a != 1 || (!s.eng.stage.isEmpty && s.eng.stageG != g) || (fresh && decide (256 ≤ s.eng.stage.length))

/-- A write of `ENG_GWIN_DATA` stages the word (R292); a word staged again takes the new value. -/
def gwinWrite (v : Reg) (s : State) : State :=
  let (g, _, w) := gwinAt s
  let a := (s.reg R.ENG_GWIN_ADDR).toNat % 2 ^ 32
  let st := (s.eng.stage.filter fun x => x.2.1 != w) ++ [(a, w, v)]
  let s := { s with eng := { s.eng with stage := st, stageG := g } }
  gwinStep (s.setFld R.ENG_GWIN_STAT F.ENG_GWIN_STAT.STAGED st.length)

/-- The first of the staged addresses that fail the checks of R282 once all words are put into an image's parameter area
(R293). Of an instance whose parameters fail together, the lowest staged one counts unless the failing one is staged. -/
def stageFail (w : List Reg) (st : List (Nat × Reg)) : Option Nat :=
  let base := 4 + 3 * imgInst w
  let w' := st.foldl (fun l x => l.set (base + x.1) x.2) w
  let bads := (List.range (imgInst w)).filterMap fun i =>
    let x := instOf w i
    let own := fun (k : Nat) => decide (x.par ≤ k ∧ k < x.par + parCount w' x)
    let least := (sortNat ((st.map (·.1)).filter own)).head?
    if imgPar w < x.par + parCount w' x then (if st.any (fun y => y.1 == x.par + 2) then some (x.par + 2) else least)
    else match paramBad x.ty (instPars w' x) with
      | some k => if st.any (fun y => y.1 == x.par + k) then some (x.par + k) else least
      | none => none
  (sortNat bads).head?

/-- Emptying the stage. -/
def stageEmpty (s : State) : State :=
  ({ s with eng := { s.eng with stage := [] } }).setFld R.ENG_GWIN_STAT F.ENG_GWIN_STAT.STAGED 0

/-- The first staged address that an APPLY would find failing now. -/
def applyFails (s : State) : Option Nat := stageFail (gWords s s.eng.stageG) (s.eng.stage.map (·.2))

/-- An APPLY whose word at address k fails discards the whole stage (R293). -/
def applyRefused (k : Nat) (s : State) : State :=
  let s := (stageEmpty s).setBit R.ENG_FLAGS F.ENG_FLAGS.APPLY_FAIL true
  (s.setBit R.ENG_GWIN_STAT F.ENG_GWIN_STAT.FAIL true).setFld R.ENG_GWIN_STAT F.ENG_GWIN_STAT.FAIL_WORD k

/-- APPLY (R293): checked, refused with the first failing address, or left to take effect at the graph's first activation
from now on, as those of the other graphs that wait; each applied word has its audit entry (R579). -/
def gwinApply (r : Req) (s : State) : Nat × State :=
  let g := s.eng.stageG
  let w := gWords s g
  match applyFails s with
  | some k => (St.badParam, applyRefused k s)
  | none =>
    let base := 4 + 3 * imgInst w
    let s := forEach s.eng.stage (fun x s =>
      s.auditAdd (auditOf r 2 R.ENG_GWIN_DATA x.1 (w.getD (base + x.2.1) 0).toNat x.2.2.toNat 0)) s
    let s := s.setBit R.ENG_GWIN_STAT F.ENG_GWIN_STAT.FAIL false
    let st := s.eng.stage.map (·.2)
    if st.isEmpty then (St.ok, stageEmpty s)
    else
      let s := stageEmpty s
      let s := { s with eng := { s.eng with apply_ := AMap.ins s.eng.apply_ g (AMap.getD s.eng.apply_ g [] ++ st) } }
      (St.ok, s.setBit R.ENG_GWIN_STAT F.ENG_GWIN_STAT.PENDING true)

/-- `ENG_CTRL.CLR_COUNTS`. -/
def engClrCounts (s : State) : State :=
  forEach (List.range 8) (fun g s => s.setFld (R.ENG_G_COUNT g) F.ENG_G_COUNT.STALE 0) (s.setFld R.ENG_ECC F.ENG_ECC.CORR_COUNT 0)

/-- `ENG_CTRL.CLR_TIME_MAX`, which also zeroes every LAG_MAX. -/
def engClrTime (s : State) : State :=
  forEach (List.range 8) (fun g s =>
    (s.setFld (R.ENG_G_TIME g) F.ENG_G_TIME.MAX 0).setFld (R.ENG_PAIR_STAT_K g) F.ENG_PAIR_STAT_K.LAG_MAX 0) s

/-! ### Checkpoints (R300 to R302, R317 to R323, R382) -/

/-- A hand-off slot is published, or held (R300 to R302), at the checkpoint of period n with divider d. -/
def handPut (h n d : Nat) (v : Option Int) (stamp : Nat) (s : State) : State :=
  let x := handNext (s.handOf h) n
  match v with
  | some v =>
    let s := s.setHand h { x with next := some (n + d, BitVec.ofInt 40 v, 0) }
    s.setBitAt (R.ENG_HAND_HELD (h / 32)) F.ENG_HAND_HELD.HELD (h % 32) false
  | none =>
    let (cur, cst) := handRead x (n + d)
    let s := s.setHand h { x with next := some (n + d, cur, if cst = 2 then 2 else 1) }
    let s := s.setBitAt (R.ENG_HAND_HELD (h / 32)) F.ENG_HAND_HELD.HELD (h % 32) true
    (s.setBit R.ENG_PAIR_FLAGS F.ENG_PAIR_FLAGS.HANDOFF_HELD true).raiseAt stamp EV.HANDOFF_HELD h []

/-- From period n on a slot's value due then is the visible one, and `ENG_HANDs` shows it (R301). -/
def handTurn (n : Nat) (h : Nat) (s : State) : State :=
  let x := s.handOf h
  match x.next with
  | some (f, v, _) => if f ≤ n then (s.setHand h (handNext x n)).setReg (R.ENG_HAND h) v else s
  | none => s

/-- The hand-off slots graph g writes, with their dividers. -/
def handsOf (s : State) (g : Nat) : List (Nat × Nat) :=
  let w := gWords s g
  (List.range (imgInst w)).filterMap fun i =>
    let x := instOf w i
    if x.ty = 0x1F then some ((parAt w x.par).toNat, x.div + 1) else none

/-- The OBS instances of graph g (R357): the machine each serves, and the instance. -/
def obsInsts (s : State) (g : Nat) : List (Nat × Nat) :=
  let w := gWords s g
  (List.range (imgInst w)).filterMap fun i =>
    let x := instOf w i
    if x.ty = 0x17 then some ((parAt w (x.par + 11)).toNat, i) else none

/-- The machines whose OBS graph g holds. -/
def obsMachs (s : State) (g : Nat) : List Nat := (obsInsts s g).map (·.1)

/-- R382: the observer's outputs and phase are published at an agreed checkpoint. -/
def obsPublish (g : Nat) (s : State) : State :=
  forEach (obsInsts s g) (fun x s =>
    let o := AMap.getD (s.graphOf g).obs x.2 {}
    let i := R.TRX_M_OBS x.1
    let s := ((s.setFld i F.TRX_M_OBS.PHASE o.phase).setBit i F.TRX_M_OBS.OK o.ok).setFld i F.TRX_M_OBS.ABORT_WHY o.why
    (s.setSfld i F.TRX_M_OBS.W (clampI (-32768) 32767 (o.w / 2 ^ 19))).setSfld i F.TRX_M_OBS.PSI (clampI (-32768) 32767 (o.psi / 2 ^ 17))) s

/-- The slots of graph g that are due for publication in period n are held. -/
def handsHeld (g n stamp : Nat) (s : State) : State :=
  forEach ((handsOf s g).filter fun p => n % p.2 == 0) (fun p s => handPut p.1 n p.2 none stamp s) s

end Sys2Proof.Machine
end

