-- ==== Sys2Proof/Machine/Traction.lean ====
section
/-! DEFINITION. The traction supervisor, the current-reference maps, position, starts and the back-EMF monitor
(chapter 10). The supervisor takes what the other blocks measure from the snapshot `sn` of the interval it evaluates
(R511) and what the host orders from the registers as they stand when the interval's orders are decided (R354). -/

namespace Sys2Proof.Machine

/-- The states of `TRX_Mm_STAT.STATE`. -/
abbrev Ts.off : Nat := 0
abbrev Ts.starting : Nat := 1
abbrev Ts.run : Nat := 2
abbrev Ts.short : Nat := 3
abbrev Ts.wait : Nat := 4
abbrev Ts.failed : Nat := 5
abbrev Ts.rampDown : Nat := 6

/-- The supervisor's state of machine m. -/
def tState (s : State) (m : Nat) : Nat := s.fld (R.TRX_M_STAT m) F.TRX_M_STAT.STATE
/-- Entering a state. -/
def setT (m st : Nat) (s : State) : State := s.setFld (R.TRX_M_STAT m) F.TRX_M_STAT.STATE st
/-- The gate is open (R358). -/
def gateOpen (s : State) (m : Nat) : Bool := s.bit (R.TRX_M_STAT m) F.TRX_M_STAT.GATE
/-- A bit of `TRX_Mm_CTRL`. -/
def tCtrl (s : State) (m : Nat) (f : Fld) : Bool := s.bit (R.TRX_M_CTRL m) f
/-- Setting machine m's bit of a pair of bits in `TRX_FLAGS`. -/
def trxFlag (m : Nat) (f0 f1 : Fld) (s : State) : State := s.setBit R.TRX_FLAGS (if m = 0 then f0 else f1) true
/-- Map m is valid (R374). -/
def mapOk (s : State) (m : Nat) : Bool := s.bit R.TRX_MAP_STAT (if m = 0 then F.TRX_MAP_STAT.VALID0 else F.TRX_MAP_STAT.VALID1)

/-- R357: the graph that serves the machine holds exactly one OBS of machine m. -/
def obsBound (s : State) (m : Nat) : Bool :=
  match (machConv s m).bind (graphOf s) with
  | some g => ((obsMachs s g).filter (· == m)).length == 1
  | none => false

/-- R375: the position sensor is usable. -/
def posUsable (s : State) (m : Nat) : Bool :=
  let ch := s.fld (R.TRX_M_CFG m) F.TRX_M_CFG.POS_CH
  match s.fld (R.TRX_M_CFG m) F.TRX_M_CFG.POS with
  | 1 => s.bit (R.ADC_RES_CFG ch) F.ADC_RES_CFG.EN && !posQual s (0x60 + ch)
  | 2 => s.bit (R.ADC_ENC_CFG ch) F.ADC_ENC_CFG.EN && !posQual s (0x62 + ch)
  | _ => false

/-- The machine has no position sensor. -/
def noSensor (s : State) (m : Nat) : Bool := s.fld (R.TRX_M_CFG m) F.TRX_M_CFG.POS == 0

/-- The observer's angle is in use: sensorless, or after a fallback (R376, R383). -/
def useObs (s : State) (m : Nat) : Bool := noSensor s m || (s.trxOf m).fell

/-- The electrical speed from the angle source in use, in units of 2^-31 per-unit (R364). -/
def trxSpeed (sn s : State) (m : Nat) : Int :=
  if useObs s m then sx 16 (sn.fld (R.TRX_M_OBS m) F.TRX_M_OBS.W) * 2 ^ 19
  else
    let ch := s.fld (R.TRX_M_CFG m) F.TRX_M_CFG.POS_CH
    let rpm := if s.fld (R.TRX_M_CFG m) F.TRX_M_CFG.POS = 1 then sn.sfld (R.ADC_RES_STAT ch) F.ADC_RES_STAT.SPEED
      else if encStill sn ch then 0 else sn.sfld (R.ADC_ENC_STAT ch) F.ADC_ENC_STAT.SPEED
    ndiv (rpm * 2 ^ 31) (max 1 (s.fld (R.TRX_M_CFG m) F.TRX_M_CFG.BASE_RPM : Int))

/-- The output 0 of the first instance of graph g that satisfies p, as an angle. -/
def instAngle (s : State) (g : Nat) (p : List Reg → Inst → Bool) : Option Nat :=
  let w := gWords s g
  ((List.range (imgInst w)).find? fun i => p w (instOf w i)).map fun i => angle (AMap.getD (s.graphOf g).out (4 * i) 0)

/-- The sensor's angle agrees with the observer's within 5° (R377): the sensor's as the QIN of its channel gives it to the
machine's graph (R375), the observer's as its OBS gives it (assumption 41). -/
def anglesAgree (s : State) (m : Nat) : Bool :=
  let ch := (if s.fld (R.TRX_M_CFG m) F.TRX_M_CFG.POS = 2 then 0x62 else 0x60) + s.fld (R.TRX_M_CFG m) F.TRX_M_CFG.POS_CH
  match (machConv s m).bind (graphOf s) with
  | none => false
  | some g =>
    match instAngle s g (fun w x => x.ty == 0x19 && (parAt w x.par).toNat / 32 % 128 == ch),
        instAngle s g (fun w x => x.ty == 0x17 && parAt w (x.par + 11) == (m : Int)) with
    | some a, some b =>
      let d := (a + (2 ^ 32 - b)) % 2 ^ 32
      decide (min d (2 ^ 32 - d) * 72 ≤ 2 ^ 32)
    | _, _ => false

/-- The selector applies the machine's safe state (R363). -/
def applied (s : State) (m : Nat) : Bool := s.bit (R.PROT_SS_STAT m) F.PROT_SS_STAT.APPLIED

/-! ### The gate (R358 to R362) -/

/-- The gate closes: at or above `N_AS`, or at an unknown speed, the machine passes to the selector with fault class none;
otherwise it coasts (R362). `quiet` tells a close under R360, below `N_AS`. -/
def gateClose (m c : Nat) (quiet : Bool) (s : State) : State :=
  let s := s.setBit (R.TRX_M_STAT m) F.TRX_M_STAT.GATE false
  let s := s.setConv c { s.convOf c with en := false }
  let s := s.setTrx m { s.trxOf m with t := 0, retRamp := false, demag := false, sbSince := none, sbIdle := none }
  if !quiet && atOrAboveNas s m then selHold m Why.gate s
  else if applied s m then s else convDark c s

/-- The conditions of R358 and the holds beside them, with the module in DRIVE and not stopping. -/
def gateMay (s : State) (m c : Nat) : Bool :=
  let i := R.TRX_M_STAT m
  tCtrl s m F.TRX_M_CTRL.EN && s.bit i F.TRX_M_STAT.MAP_OK && s.bit i F.TRX_M_STAT.OBS_BOUND &&
  !s.bit (R.TRX_M_KE_STAT m) F.TRX_M_KE_STAT.DEMAG &&
  (s.bit i F.TRX_M_STAT.POS_OK || noSensor s m || s.bit (R.TRX_M_CFG m) F.TRX_M_CFG.FALLBACK) &&
  tState s m != Ts.wait && tState s m != Ts.failed && s.mode == Mode.drive &&
  !(match s.trans with | some t => t.stop | none => false) && convFree s c

/-- The gate opens: on a usable sensor, or on an observer that is locked, the machine runs; otherwise a start from rest
begins (R383). -/
def gateOpens (m c : Nat) (retry : Bool) (sn s : State) : State :=
  let x := s.trxOf m
  let fell := !noSensor s m && (x.fell || !s.bit (R.TRX_M_STAT m) F.TRX_M_STAT.POS_OK)
  let s := s.setTrx m { x with t := 0, fell := fell, fresh := false, retSince := none, retRamp := false, stopping := false }
  let s := s.setBit (R.TRX_M_STAT m) F.TRX_M_STAT.GATE true
  let s := s.setConv c { s.convOf c with en := true, off := false }
  let s := if bitN (s.selOf m).why Why.gate then selDrop m Why.gate s else s
  let s := s.setBit (R.TRX_M_STAT m) F.TRX_M_STAT.ANGLE_SRC (useObs s m)
  if useObs s m && !sn.bit (R.TRX_M_OBS m) F.TRX_M_OBS.OK then
    setT m Ts.starting (if retry then s else s.setFld (R.TRX_M_STAT m) F.TRX_M_STAT.ATTEMPT 0)
  else setT m Ts.run s

/-! ### Position (R375 to R377) -/

/-- A position is lost (R376): the gate closes. -/
def posLost (m c : Nat) (s : State) : State :=
  let s := trxFlag m F.TRX_FLAGS.POS_LOST0 F.TRX_FLAGS.POS_LOST1 s
  setT m Ts.off (gateClose m c false (s.raise EV.POS_LOST m []))

/-- The position source of a machine whose gate is open. The second of R377 runs while the sensor is usable and its angle agrees
with the observer's; a return under way is given up when the sensor is lost again. -/
def trxPos (m c : Nat) (sn s : State) : State :=
  let ok := s.bit (R.TRX_M_STAT m) F.TRX_M_STAT.POS_OK
  let lock := sn.bit (R.TRX_M_OBS m) F.TRX_M_OBS.OK
  let x := s.trxOf m
  let good := x.fell && ok && anglesAgree s m
  let s := s.setTrx m { x with retSince := if good then x.retSince <|> some s.dt else none, retRamp := x.retRamp && ok }
  if !gateOpen s m then s
  else if useObs s m then
    if !lock && tState s m != Ts.starting then posLost m c s else s
  else if ok then s
  else if s.bit (R.TRX_M_CFG m) F.TRX_M_CFG.FALLBACK && lock then
    let s := s.setTrx m { s.trxOf m with fell := true }
    (s.setBit (R.TRX_M_STAT m) F.TRX_M_STAT.ANGLE_SRC true).raise EV.POS_FALLBACK m []
  else posLost m c s

/-- R377: the sensor has been usable and in agreement with the observer for 1 s; T* ramps to 0 before the return. -/
def sensorReturn (m : Nat) (s : State) : State :=
  match (s.trxOf m).retSince with
  | some t =>
    let s := s.until (t + 200000000)
    s.setTrx m { s.trxOf m with retRamp := true, retSince := none }
  | none => s

def execSensorReturn (e : Nat) (m : Fin 2) (s : State) : Host.Outcome State Fault Refusal := .next (sensorReturn m (s.tick e))

/-! ### Starts (R383 to R386) -/

/-- A start in progress, from the observer's published phase. -/
def trxStart (m c : Nat) (sn s : State) : State :=
  if tState s m ≠ Ts.starting then s
  else
    let ph := sn.fld (R.TRX_M_OBS m) F.TRX_M_OBS.PHASE
    let x := s.trxOf m
    if applied s m then s.setTrx m { x with fresh := false }
    else if sn.bit (R.TRX_M_OBS m) F.TRX_M_OBS.OK then setT m Ts.run s
    else if ph = 5 ∧ x.fresh then
      let s := gateClose m c false s
      if s.fld (R.TRX_M_STAT m) F.TRX_M_STAT.ATTEMPT < 3 then
        setT m Ts.wait (s.setTrx m { s.trxOf m with waitAt := s.dt })
      else
        let s := trxFlag m F.TRX_FLAGS.START_FAIL0 F.TRX_FLAGS.START_FAIL1 s
        (setT m Ts.failed s).raise EV.START_FAILED m []
    else s.setTrx m { x with fresh := x.fresh || ph != 5 }

/-- R385: 200 ms in START_WAIT have passed; the gate reopens for a new attempt. -/
def startRetry (m : Nat) (s : State) : State :=
  match machConv s m with
  | none => s
  | some c =>
    if tState s m ≠ Ts.wait then s
    else
      let s := s.until ((s.trxOf m).waitAt + 40000000)
      let s := s.incFld (R.TRX_M_STAT m) F.TRX_M_STAT.ATTEMPT 1
      let s := (setT m Ts.off s).raise EV.START_RETRY m []
      if gateMay s m c then gateOpens m c true s s else s

def execStartRetry (e : Nat) (m : Fin 2) (s : State) : Host.Outcome State Fault Refusal := .next (startRetry m (s.tick e))

/-! ### Torque (R364 to R368) -/

/-- Limp begins or ends (R366). -/
def limpEval (m : Nat) (s : State) : State :=
  let act := tCtrl s m F.TRX_M_CTRL.LIMP || (s.trxOf m).limpAuto
  let was := s.bit (R.TRX_M_STAT m) F.TRX_M_STAT.LIMP_ACT
  let s := s.setBit (R.TRX_M_STAT m) F.TRX_M_STAT.LIMP_ACT act
  if act && !was then (trxFlag m F.TRX_FLAGS.LIMP0 F.TRX_FLAGS.LIMP1 s).raise EV.LIMP m [] else s

/-- R366: the limp torque at speed w. -/
def limpTorque (s : State) (m : Nat) (w : Int) : Int :=
  let ok := s.bit R.ENG_PEDAL_CFG F.ENG_PEDAL_CFG.EN && [0, 2].contains (s.fld R.ENG_PEDAL_STAT F.ENG_PEDAL_STAT.STATE)
  let req : Int := if ok then s.fld R.ENG_PEDAL_STAT F.ENG_PEDAL_STAT.REQ else 0
  let lw : Int := s.fld (R.TRX_M_LIMP m) F.TRX_M_LIMP.LWMAX * 2 ^ 23
  let k := clampI 0 lw ((lw - w.natAbs) * 10)
  ndiv (req * s.fld (R.TRX_M_LIMP m) F.TRX_M_LIMP.LTMAX * 2 ^ 11 * k) (max 1 lw)

/-- The park interlock holds the traction torque at 0 (R479). -/
def parkHolds (s : State) : Bool :=
  s.bit R.ACT_PARK F.ACT_PARK.ILOCK && (actConv s 2).isSome &&
  s.fld R.ACT_PARK F.ACT_PARK.PSTATE != 0

/-- The limits of R364 at speed w for a torque: motoring or regenerative limit, power, derating; R404 takes the
regenerative limit as 0 while regeneration is inhibited. -/
def torqueLimit (s : State) (m : Nat) (t w : Int) : Int :=
  let lim := fun (f : Fld) => (s.fld (R.TRX_M_LIM m) f : Int) * 2 ^ 23
  let regen := decide (t * w < 0)
  let l := if regen then (if s.bit R.DCL_STAT F.DCL_STAT.REGEN_INH then 0 else lim F.TRX_M_LIM.TREG) else lim F.TRX_M_LIM.TMAX
  let l := if (w.natAbs : Int) * l > lim F.TRX_M_LIM.PMAX * 2 ^ 31 then ndiv (lim F.TRX_M_LIM.PMAX * 2 ^ 31) w.natAbs else l
  if s.bit (R.TRX_M_KE_STAT m) F.TRX_M_KE_STAT.ABN then ndiv (l * s.fld (R.TRX_M_STAT m) F.TRX_M_STAT.DERATE_F) 4096 else l

/-- The requested torque before the limits, signed by the direction in force (R364, R365, R366, R479, R684). -/
def torqueAsked (s : State) (m : Nat) (w : Int) : Int :=
  if parkHolds s then 0
  else
    let limp := s.bit (R.TRX_M_STAT m) F.TRX_M_STAT.LIMP_ACT
    let src : Int := if limp then limpTorque s m w
      else (if s.bit (R.TRX_M_STAT m) F.TRX_M_STAT.TREQ_LOST then 0 else (s.reg (R.TRX_M_TREQ m)).toInt) +
        AMap.getD s.pairUse.d m 0
    let t := if s.bit (R.TRX_M_STAT m) F.TRX_M_STAT.DIR_ACT then -src else src
    if limp && decide (t * w < 0) then 0 else t

/-- The step of T* in one checkpoint interval (R364). -/
def torqueStep (s : State) (m : Nat) : Int := ndiv (s.fld (R.TRX_M_CFG m) F.TRX_M_CFG.TSLEW * 2 ^ 23) 20

/-- R364: T* moves toward a target by at most one step. -/
def slew (prev target step : Int) : Int := prev + clampI (-step) step (target - prev)

/-- A regenerative target exceeds the regenerative limit by more than 1/16 per-unit (R368). -/
def overRegen (s : State) (m : Nat) (w : Int) : Bool :=
  let t := torqueAsked s m w
  decide (t * w < 0) && decide ((t.natAbs : Int) - torqueLimit s m t w > 2 ^ 27)

/-- Entering or leaving SHORT_BRAKE (R368). -/
def sbEnter (m : Nat) (s : State) : State := setT m Ts.short (s.setTrx m { s.trxOf m with t := 0 })
@[inherit_doc sbEnter] def sbLeave (m : Nat) (s : State) : State :=
  setT m Ts.run (s.setTrx m { s.trxOf m with sbIdle := none, sbSince := none })

/-- The machine may be braked by its short: its gate is open, outside a start, with no stop of the module and no
demagnetisation that would end it (R358, R368; assumption 41). -/
def sbMay (s : State) (m : Nat) : Bool :=
  let st := tState s m
  gateOpen s m && (st == Ts.run || st == Ts.short || st == Ts.rampDown || st == Ts.off) && !(s.trxOf m).demag &&
  !(match s.trans with | some t => t.stop | none => false)

/-- The conditions of R368 at a checkpoint, with their 20 ms. -/
def trxShort (m : Nat) (w : Int) (s : State) : State :=
  let st := tState s m
  if !sbMay s m then s.setTrx m { s.trxOf m with sbSince := none, sbIdle := none }
  else
    let x := s.trxOf m
    let sb := tCtrl s m F.TRX_M_CTRL.SBRAKE
    let hot := s.bit (R.TRX_M_CFG m) F.TRX_M_CFG.SB_AUTO && overRegen s m w && (st == Ts.run || st == Ts.short)
    let since := if hot then x.sbSince <|> some s.dt else none
    let idle := if sb || hot then none else x.sbIdle <|> some s.dt
    let s := s.setTrx m { x with sbSince := since, sbIdle := idle }
    if st ≠ Ts.short then
      if sb || (match since with | some t => decide (t + 4000000 ≤ s.dt) | none => false) then sbEnter m s else s
    else if (match idle with | some t => decide (t + 4000000 ≤ s.dt) | none => false) then sbLeave m s else s

/-- R368 between checkpoints: the 20 ms of a condition, or of its absence, have passed. -/
def shortBrake (m : Nat) (s : State) : State :=
  let x := s.trxOf m
  if tState s m = Ts.run then
    match x.sbSince with | some t => (sbEnter m (s.until (t + 4000000))).raise EV.SHORT_BRAKE m [] | none => s
  else if tState s m = Ts.short then
    match x.sbIdle with | some t => (sbLeave m (s.until (t + 4000000))).raise EV.SHORT_BRAKE m [] | none => s
  else s

def execShortBrake (e : Nat) (m : Fin 2) (s : State) : Host.Outcome State Fault Refusal := .next (shortBrake m (s.tick e))

/-- T* of the coming interval (R363, R364). -/
def trxTorque (m : Nat) (sn : State) (w : Int) (s : State) : Int :=
  let x := s.trxOf m
  let st := tState s m
  let step := torqueStep s m
  if applied s m || !gateOpen s m then 0
  else if st = Ts.run then
    if x.retRamp then slew x.t 0 step
    else
      let t := torqueAsked s m w
      let l := torqueLimit s m t w
      slew x.t (clampI (-l) l t) step
  else if st = Ts.rampDown then (if x.stopping then ramped s x.t0 else slew x.t 0 step)
  else if st = Ts.starting ∧ sn.fld (R.TRX_M_OBS m) F.TRX_M_OBS.PHASE = 3 then
    let ts : Int := s.fld (R.TRX_M_START m) F.TRX_M_START.TSTART * 2 ^ 23
    let t := if s.bit (R.TRX_M_STAT m) F.TRX_M_STAT.DIR_ACT then -ts else ts
    let l := torqueLimit s m t w
    clampI (-l) l t
  else 0

/-! ### The supervisor (R354, R355) -/

/-- What stops a machine: an order, the module's stop, demagnetisation, a map or an observer that is no longer there (R358);
and what ends a stop (R360, R390, R68). `SBRAKE` holds a machine in SHORT_BRAKE through an order to stop (R368), and START_FAILED
is left by `EN` = 0 alone (R385). -/
def trxStop (m c : Nat) (s : State) : State :=
  let st := tState s m
  let stop := match s.trans with | some t => t.stop | none => false
  let x := s.trxOf m
  let want := tCtrl s m F.TRX_M_CTRL.EN && !stop
  let demag := s.bit (R.TRX_M_KE_STAT m) F.TRX_M_KE_STAT.DEMAG
  if s.mode ≠ Mode.drive then
    let s := if gateOpen s m then gateClose m c true s else s
    if st = Ts.failed ∧ tCtrl s m F.TRX_M_CTRL.EN then s else setT m Ts.off s
  else if !gateOpen s m then
    if (st = Ts.wait ∨ st = Ts.failed) ∧ tCtrl s m F.TRX_M_CTRL.EN then s else setT m Ts.off s
  else if !s.bit (R.TRX_M_STAT m) F.TRX_M_STAT.MAP_OK || !s.bit (R.TRX_M_STAT m) F.TRX_M_STAT.OBS_BOUND then
    setT m Ts.off (gateClose m c false s)
  else
    let running := st = Ts.starting ∨ st = Ts.run ∨ (st = Ts.short ∧ (stop = true ∨ !tCtrl s m F.TRX_M_CTRL.SBRAKE))
    let s := if demag && !x.demag then setT m Ts.rampDown (s.setTrx m { x with demag := true })
      else if !want && running then setT m Ts.rampDown (s.setTrx m { x with stopping := stop, t0 := x.t }) else s
    let st := tState s m
    if st = Ts.rampDown then
      if (s.trxOf m).t = 0 then
        if (s.trxOf m).demag then setT m Ts.off (gateClose m c false s)
        else if atOrAboveNas s m then setT m Ts.off s
        else setT m Ts.off (gateClose m c true s)
      else s
    else if st = Ts.off then
      if want && gateMay s m c then setT m Ts.run s
      else if atOrAboveNas s m then s
      else gateClose m c true s
    else s

/-- R355: the slots of machine m. -/
def trxSlots (m : Nat) (sn s : State) : State :=
  let one := fun (b : Bool) => if b then BitVec.ofInt 40 (2 ^ 31) else (0 : Reg)
  let ph := sn.fld (R.TRX_M_OBS m) F.TRX_M_OBS.PHASE
  let loc := tState s m == Ts.starting && gateOpen s m && !applied s m && (decide (ph < 3) || (ph == 5 && !(s.trxOf m).fresh))
  let s := s.setSp (8 * m) (BitVec.ofInt 40 (s.trxOf m).t)
  let s := s.setSp (8 * m + 1) (s.reg (R.TRX_M_WREQ m))
  let s := s.setSp (8 * m + 2) (one (useObs s m))
  let s := s.setSp (8 * m + 3) (one (tState s m == Ts.short))
  s.setSp (8 * m + 4) (one loc)

/-- The supervisor's evaluation of machine m at a checkpoint (R354 to R391). A gate that closes here opens again at the next
checkpoint at the earliest; entering and leaving SHORT_BRAKE, by whatever path, is told (R368). -/
def trxSup (m : Nat) (sn s : State) : State :=
  let i := R.TRX_M_STAT m
  match machConv s m with
  | none => s.setBit i F.TRX_M_STAT.OBS_BOUND false
  | some c =>
    let was := gateOpen s m
    let short := tState s m == Ts.short
    let s := (s.setBit i F.TRX_M_STAT.POS_OK (posUsable sn m)).setBit i F.TRX_M_STAT.OBS_BOUND (obsBound s m)
    let s := (s.setBit i F.TRX_M_STAT.MAP_OK (mapOk s m)).setBit i F.TRX_M_STAT.DIR_ACT (tCtrl s m F.TRX_M_CTRL.DIR)
    let s := limpEval m s
    let s := trxStop m c s
    let s := trxPos m c sn s
    let s := trxStart m c sn s
    let s := if !was && !gateOpen s m && gateMay s m c then gateOpens m c false sn s else s
    let w := trxSpeed sn s m
    let s := trxShort m w s
    let s := if (tState s m == Ts.short) == short then s else s.raise EV.SHORT_BRAKE m []
    let t := trxTorque m sn w s
    let s := s.setTrx m { s.trxOf m with t := t }
    let s := if (s.trxOf m).retRamp && t == 0 then
        (s.setTrx m { s.trxOf m with retRamp := false, fell := false }).setBit i F.TRX_M_STAT.ANGLE_SRC false else s
    let s := if parkHolds s then s.setBit R.ACT_FLAGS F.ACT_FLAGS.PARK_ILOCK true else s
    trxSlots m sn (s.setReg (R.TRX_M_TCMD m) (BitVec.ofInt 40 t))

/-! ### Orders (R359 to R367) -/

/-- A host enable of converter c is refused (R137, R322, R349). -/
def enableRefused (s : State) (c : Nat) : Bool :=
  let x := s.convOf c
  (bitN (s.fld R.PROT_STAT F.PROT_STAT.CONV_SAFE) c && !(x.ready && x.passed)) ||
    bitN (s.fld R.ENG_PAIR_CONV F.ENG_PAIR_CONV.CONV) c || bitN (s.fld R.PLC_SHED F.PLC_SHED.CONV) c

/-- The host enables converter c: an escalation ends (R187, R346). -/
def hostEnables (c : Nat) (s : State) : State :=
  let s := if (s.convOf c).esc then s.setConv c { s.convOf c with esc := false } else s
  match chanOf s c with
  | some m => if bitN (s.selOf m).why Why.pairEsc then selDrop m Why.pairEsc s else s
  | none => s

/-- Holding an enable of converter c, in place of the one held before (R73, R74). -/
def holdEnable (c what : Nat) (r : Req) (s : State) : State :=
  let s := match AMap.get? s.heldFn c with | some h => dropHeld h St.superseded s | none => s
  showHeld { s with heldFn := AMap.ins s.heldFn c ⟨r, what, s.dt⟩ }

/-- A write of `EN` = 1 to machine m: its status code and effect (R359, R361, R73, R76). -/
def machEnable (r : Req) (m : Nat) (s : State) : Nat × State :=
  match machConv s m with
  | none => (St.wrongMode, s)
  | some c =>
    let bad := s.mode == Mode.safe || !mapOk s m || !obsBound s m || s.bit (R.TRX_M_KE_STAT m) F.TRX_M_KE_STAT.DEMAG ||
      enableRefused s c
    let stop := match s.trans with | some t => t.stop | none => false
    if bad then (St.wrongMode, s)
    else if stop || tState s m == Ts.rampDown then (St.queued, holdEnable c 1 r s)
    else
      let was := tCtrl s m F.TRX_M_CTRL.EN
      let s := if bitN (s.fld R.PROT_STAT F.PROT_STAT.CONV_SAFE) c then releaseLatches c s else s
      let s := hostEnables c s
      let s := s.setBit (R.TRX_M_CTRL m) F.TRX_M_CTRL.EN true
      (St.ok, if was then s else s.setTrx m { s.trxOf m with lastTreq := s.dt })

/-- A write of `EN` = 0 (R360, R385). -/
def machDisable (m : Nat) (s : State) : State := s.setBit (R.TRX_M_CTRL m) F.TRX_M_CTRL.EN false

/-- R367: a change of `DIR` is accepted. -/
def dirMay (s : State) (m : Nat) : Bool :=
  let ph := s.fld (R.TRX_M_OBS m) F.TRX_M_OBS.PHASE
  let rest := !gateOpen s m || (noSensor s m && decide (ph ≤ 2))
  if speedUnknown s m then rest
  else decide (s.fld (R.PROT_SS_SPEED m) F.PROT_SS_SPEED.SPEED * 4096 <
    s.fld (R.TRX_M_REV m) F.TRX_M_REV.REV_W * s.fld (R.TRX_M_CFG m) F.TRX_M_CFG.BASE_RPM)

/-- A write of `TREQ` (R365). -/
def treqWrite (m : Nat) (v : Reg) (s : State) : State :=
  let s := (s.setReg (R.TRX_M_TREQ m) v).setBit (R.TRX_M_STAT m) F.TRX_M_STAT.TREQ_LOST false
  limpEval m (s.setTrx m { s.trxOf m with lastTreq := s.dt, limpAuto := false })

/-- R365: no `TREQ` write within `TREQ_TMO`. -/
def treqLost (m : Nat) (s : State) : State :=
  let tmo := s.fld (R.TRX_M_CFG m) F.TRX_M_CFG.TREQ_TMO
  if tmo = 0 ∨ !tCtrl s m F.TRX_M_CTRL.EN ∨ s.bit (R.TRX_M_STAT m) F.TRX_M_STAT.TREQ_LOST then s
  else
    let s := s.until ((s.trxOf m).lastTreq + 200000 * tmo)
    let s := s.setBit (R.TRX_M_STAT m) F.TRX_M_STAT.TREQ_LOST true
    let s := (trxFlag m F.TRX_FLAGS.TREQ_LOST0 F.TRX_FLAGS.TREQ_LOST1 s).raise EV.TREQ_LOST m []
    if s.bit (R.TRX_M_CFG m) F.TRX_M_CFG.LIMP_AUTO then limpEval m (s.setTrx m { s.trxOf m with limpAuto := true }) else s

def execTreqLost (e : Nat) (m : Fin 2) (s : State) : Host.Outcome State Fault Refusal := .next (treqLost m (s.tick e))

/-! ### Back-EMF constant (R387 to R391) -/

/-- One published observer report enters the present window (R387). -/
def keTake (m : Nat) (s : State) : State :=
  let i := R.TRX_M_OBS m
  let x := s.trxOf m
  let ok := s.bit i F.TRX_M_OBS.OK && decide (614 < (s.sfld i F.TRX_M_OBS.W).natAbs) && tState s m == Ts.run
  s.setTrx m { x with keSum := x.keSum + s.sfld i F.TRX_M_OBS.PSI, keCnt := x.keCnt + 1, keOk := x.keOk && ok }

/-- R390: the machine is demagnetised, which the lifetime store records while a device works (R391, R624). -/
def demagSet (m : Nat) (s : State) : State :=
  let s := s.setBit (R.TRX_M_KE_STAT m) F.TRX_M_KE_STAT.DEMAG true
  let store := !(s.bit (R.STO_DEV 0) F.STO_DEV.FAILED && s.bit (R.STO_DEV 1) F.STO_DEV.FAILED)
  let s := if store then { s with trx := { s.trx with demag := setBitN s.trx.demag m } } else s
  (trxFlag m F.TRX_FLAGS.DEMAG0 F.TRX_FLAGS.DEMAG1 s).raise EV.DEMAG m []

/-- The windows counted, and what their runs set (R388 to R390). -/
def keCount (m : Nat) (sum : Int) (cnt : Nat) (s : State) : State :=
  let psi : Int := s.fld (R.TRX_M_KE m) F.TRX_M_KE.PSI
  let den := psi * cnt
  let low := decide (sum * 100 < (100 - s.fld (R.TRX_M_KE m) F.TRX_M_KE.LOW) * den)
  let high := decide (sum * 100 > (100 + s.fld (R.TRX_M_KE m) F.TRX_M_KE.HIGH) * den)
  let weak := decide (sum * 4 < 3 * den)
  let x := s.trxOf m
  let nAbn := if low || high then x.keAbn + 1 else 0
  let nNorm := if low || high then 0 else x.keNorm + 1
  let nLow := if weak then x.keLow + 1 else 0
  let i := R.TRX_M_KE_STAT m
  let ratio := ndiv (sum * 2 ^ 14) den
  let s := s.setTrx m { x with keAbn := nAbn, keNorm := nNorm, keLow := nLow }
  let s := (s.setFld i F.TRX_M_KE_STAT.RATIO (clampI 0 65535 ratio).toNat).setBit i F.TRX_M_KE_STAT.VALID true
  let s := if 20 ≤ nAbn ∧ !s.bit i F.TRX_M_KE_STAT.ABN then
      let s := trxFlag m F.TRX_FLAGS.KE_ABN0 F.TRX_FLAGS.KE_ABN1 (s.setBit i F.TRX_M_KE_STAT.ABN true)
      s.raise EV.KE_ABNORMAL m []
    else if 100 ≤ nNorm ∧ s.bit i F.TRX_M_KE_STAT.ABN then (s.setBit i F.TRX_M_KE_STAT.ABN false).raise EV.KE_NORMAL m []
    else s
  let f : Int := if s.bit i F.TRX_M_KE_STAT.ABN then
      (if sum ≤ 0 then 0 else if sum < den then ndiv (sum * 4096) den else ndiv (den * 4096) sum) else 4096
  let s := (s.setFld (R.TRX_M_STAT m) F.TRX_M_STAT.DERATE_F f.toNat).setBit (R.TRX_M_STAT m) F.TRX_M_STAT.DERATE (decide (f < 4096))
  if 20 ≤ nLow ∧ !s.bit i F.TRX_M_KE_STAT.DEMAG then demagSet m s else s

/-- R387: a 100 ms window ends. -/
def keWindow (m : Nat) (s : State) : State :=
  let s := s.until ((s.trxOf m).keAt + 20000000)
  let x := s.trxOf m
  let s := s.setTrx m { x with keAt := s.dt, keSum := 0, keCnt := 0, keOk := true }
  if s.fld (R.TRX_M_KE m) F.TRX_M_KE.PSI = 0 then s
  else if x.keOk && decide (0 < x.keCnt) then keCount m x.keSum x.keCnt s
  else s.setBit (R.TRX_M_KE_STAT m) F.TRX_M_KE_STAT.VALID false

def execKeWindow (e : Nat) (m : Fin 2) (s : State) : Host.Outcome State Fault Refusal := .next (keWindow m (s.tick e))

/-- R391: `DEMAG` is cleared, which SERVICE alone allows. -/
def demagClear (m : Nat) (s : State) : State :=
  let s := s.setBit (R.TRX_M_KE_STAT m) F.TRX_M_KE_STAT.DEMAG false
  { s with trx := { s.trx with demag := clrBitN s.trx.demag m } }

/-- R391: at boot the machines recorded as demagnetised are so again. -/
def demagRestore (s : State) : State :=
  forEach (bitsOf 2 s.trx.demag) (fun m s => s.setBit (R.TRX_M_KE_STAT m) F.TRX_M_KE_STAT.DEMAG true) s

/-! ### The maps (R369 to R374) -/

/-- The number of a map's entry in the maps' store. -/
def mapKey (m k : Nat) : Nat := m * 16384 + k % 16384

/-- A validation runs. -/
def mapBusy (s : State) : Bool := s.bit R.TRX_MAP_STAT F.TRX_MAP_STAT.BUSY

/-- `VALID` of map m stored. -/
def setMapOk (m : Nat) (b : Bool) (s : State) : State :=
  s.setBit R.TRX_MAP_STAT (if m = 0 then F.TRX_MAP_STAT.VALID0 else F.TRX_MAP_STAT.VALID1) b

/-- The status of a write to map m, its axes or its CRC (R372). -/
def mapWriteStatus (s : State) (m : Nat) : Nat :=
  if tCtrl s m F.TRX_M_CTRL.EN then St.wrongMode else if mapBusy s then St.busy else St.ok

/-- `INDEX` advances by one with AUTOINC (R372). -/
def mapStep (s : State) : State :=
  if s.bit R.TRX_MAP_ADDR F.TRX_MAP_ADDR.AUTOINC then
    s.setFld R.TRX_MAP_ADDR F.TRX_MAP_ADDR.INDEX (s.fld R.TRX_MAP_ADDR F.TRX_MAP_ADDR.INDEX + 1) else s

/-- The entry the window stands at: its map and index. -/
def mapAt (s : State) : Nat × Nat := (s.fld R.TRX_MAP_ADDR F.TRX_MAP_ADDR.MAP, s.fld R.TRX_MAP_ADDR F.TRX_MAP_ADDR.INDEX)

/-- R372: an accepted write of an entry. -/
def mapWrite (v : Reg) (s : State) : State :=
  let (m, k) := mapAt s
  let s := { s with trx := { s.trx with map := AMap.put s.trx.map (mapKey m k) 0 v } }
  mapStep (setMapOk m false s)

/-- R372: a read of an entry. -/
def mapRead (s : State) : Reg × State :=
  let (m, k) := mapAt s
  (AMap.getD s.trx.map (mapKey m k) 0, mapStep s)

/-- The entries of map m. -/
def mapEntries (s : State) (m : Nat) : List Reg := (List.range 16384).map fun k => AMap.getD s.trx.map (mapKey m k) 0

/-- The CRC-32C over map m (R373). -/
def mapCrc (s : State) (m : Nat) : Nat := crc32c ((mapEntries s m).flatMap fun v => leBytes 5 v.toNat)

/-- R373: a 1 written to VALIDATE. -/
def mapValidate (s : State) : State :=
  let m := s.fld R.TRX_MAP_ADDR F.TRX_MAP_ADDR.MAP
  let s := { s with trx := { s.trx with valid := some (m, s.dt) } }
  s.setBit R.TRX_MAP_STAT F.TRX_MAP_STAT.BUSY true

/-- The registers of machine m kept with its map: the axes and the CRC. -/
def mapRegs (s : State) (m : Nat) : List Reg :=
  [s.reg (R.TRX_M_AXT m), s.reg (R.TRX_M_AXW m), s.reg (R.TRX_M_AXV m), s.reg (R.TRX_M_CRC m)]

/-- R373: the check ends; a good map is stored. -/
def mapValidated (s : State) : State :=
  match s.trx.valid with
  | none => s
  | some (m, _) =>
    let s := { s with trx := { s.trx with valid := none } }
    let s := s.setBit R.TRX_MAP_STAT F.TRX_MAP_STAT.BUSY false
    if mapCrc s m = s.fld (R.TRX_M_CRC m) F.TRX_M_CRC.CRC then
      let keep := s.trx.map.filter fun (p : Nat × Reg) => p.1 / 16384 == m
      let s := { s with trx := { s.trx with stored := AMap.ins s.trx.stored m (keep, mapRegs s m) } }
      let s := s.setBit R.TRX_MAP_STAT (if m = 0 then F.TRX_MAP_STAT.STORED0 else F.TRX_MAP_STAT.STORED1) true
      (setMapOk m true s).raise EV.MAP_VALID m []
    else (setMapOk m false s).raise EV.MAP_INVALID m []

def execMapValidateDone (e : Nat) (s : State) : Host.Outcome State Fault Refusal := .next (mapValidated (s.tick e))

/-- R374: at boot each stored map is reloaded with its registers and checked as in R373, with the check's event. -/
def mapReload (m : Nat) (s : State) : State :=
  match AMap.get? s.trx.stored m with
  | none => s
  | some (es, rs) =>
    let s := { s with trx := { s.trx with map := es.foldl (fun a (p : Nat × Reg) => AMap.ins a p.1 p.2) s.trx.map } }
    let s := (s.setReg (R.TRX_M_AXT m) (rs.getD 0 0)).setReg (R.TRX_M_AXW m) (rs.getD 1 0)
    let s := (s.setReg (R.TRX_M_AXV m) (rs.getD 2 0)).setReg (R.TRX_M_CRC m) (rs.getD 3 0)
    let s := s.setBit R.TRX_MAP_STAT (if m = 0 then F.TRX_MAP_STAT.STORED0 else F.TRX_MAP_STAT.STORED1) true
    if mapCrc s m = s.fld (R.TRX_M_CRC m) F.TRX_M_CRC.CRC then (setMapOk m true s).raise EV.MAP_VALID m []
    else (setMapOk m false s).raise EV.MAP_INVALID m []

end Sys2Proof.Machine
end

