-- ==== Sys2Proof/Machine/Actuators.lean ====
section
/-! DEFINITION. Gearbox actuators and the low-voltage channels' supervision (chapter 13, R39, R124 to R126). -/

namespace Sys2Proof.Machine

/-- The states of `ACT_An_STAT.STATE`. -/
abbrev As.off : Nat := 0
abbrev As.starting : Nat := 1
abbrev As.moving : Nat := 2
abbrev As.hold : Nat := 3
abbrev As.brake : Nat := 4
abbrev As.wait : Nat := 5
abbrev As.failed : Nat := 6
abbrev As.fault : Nat := 7

/-- Actuator a's state. -/
def aState (s : State) (a : Nat) : Nat := s.fld (R.ACT_A_STAT a) F.ACT_A_STAT.STATE

/-- A field of `ACT_An_CFG`. -/
def aCfg (s : State) (a : Nat) (f : Fld) : Nat := s.fld (R.ACT_A_CFG a) f

/-- The module stops or has left the modes in which actuators move (R38, R471). -/
def actMode (s : State) : Bool :=
  (s.mode == Mode.drive || s.mode == Mode.charge) && !(match s.trans with | some t => t.stop | none => false)

/-! ### Position (R464 to R467) -/

/-- The measured position, when its source is valid (R466). -/
def actPos (s : State) (a : Nat) : Option Int :=
  let zero := sx 16 (s.fld (R.ACT_A_POS a) F.ACT_A_POS.ZERO)
  let span := sx 16 (s.fld (R.ACT_A_POS a) F.ACT_A_POS.SPAN)
  let of (m : Int) : Option Int := if span = 0 then none else some (rdiv ((m - zero) * 2 ^ 31) span)
  if aCfg s a F.ACT_A_CFG.POSSRC = 0 then
    let x := s.actOf a
    if x.known && !x.hallBad then of x.cnt else none
  else
    let r := (aCfg s a F.ACT_A_CFG.SCH - 0x64) / 2
    match (s.sentOf r).sig0 with
    | some (v, qual) => if qual || s.bit (R.ADC_SENT_STAT r) F.ADC_SENT_STAT.LOST then none else of v
    | none => none

/-- `POS_OK` and `POS` from the measurement, and SP38 (R462, R466). -/
def actMeasure (a : Nat) (s : State) : State :=
  let i := R.ACT_A_STAT a
  match actPos s a with
  | some p => ((s.setBit i F.ACT_A_STAT.POS_OK true).setSfld i F.ACT_A_STAT.POS (clampI (-8192) 8191 (rshr p 19))).setSp (38 + 8 * a)
      (BitVec.ofInt 40 (clampI (-(2 ^ 39)) (2 ^ 39 - 1) p))
  | none => s.setBit i F.ACT_A_STAT.POS_OK false

/-- A whole number of electrical turns at a position, modulo one turn, in units of 2^-32 turn. -/
def elecAngle (s : State) (a : Nat) (p : Int) : Nat := (p * s.fld (R.ACT_A_POS a) F.ACT_A_POS.EPT * 2 % 2 ^ 32).toNat

/-- The forced angle of a start now (R473). -/
def forcedAngle (s : State) (a : Nat) : Nat :=
  let x := s.actOf a
  if s.fld (R.ACT_A_STAT a) F.ACT_A_STAT.START_PH = 2 then
    let n := s.dt - x.phAt
    let adv : Int := (s.fld (R.ACT_A_START a) F.ACT_A_START.RAMPA * n * n * 125 * 2 ^ 32 / 10 ^ 18 : Nat)
    (((x.base : Int) + if x.rev then -adv else adv) % 2 ^ 32).toNat
  else x.base

/-- SP37: the commutation angle of the hall decoder, or the forced angle during a start (R462, R464). -/
def actAngle (a : Nat) (s : State) : State :=
  if aState s a = As.starting then s.setSp (37 + 8 * a) (BitVec.ofNat 40 (forcedAngle s a))
  else if aCfg s a F.ACT_A_CFG.COMM = 0 then
    match (s.actOf a).sector with
    | some k => s.setSp (37 + 8 * a)
        (BitVec.ofInt 40 ((ndiv ((2 * k + 1) * 2 ^ 32) 12 + aCfg s a F.ACT_A_CFG.HOFS * 2 ^ 24) % 2 ^ 32))
    | none => s
  else s

/-- What hardware writes within 1 µs of a change: the commutation angle, the position and its validity (R462). -/
def actSpots (a : Nat) (s : State) : State := actMeasure a (actAngle a s)

/-- The position of every actuator measured by SENT receiver r, after a change of it (R462, R466). -/
def sentActs (r : Nat) (s : State) : State :=
  forEach ([0, 1, 2].filter fun a => aCfg s a F.ACT_A_CFG.POSSRC == 1 && (aCfg s a F.ACT_A_CFG.SCH - 0x64) / 2 == r) actMeasure s

def execSentMessage (e : Nat) (r : Fin 8) (cal : Nat) (pulses : List Nat) (slow : Option (Bool × BitVec 8 × BitVec 16))
    (s : State) : Host.Outcome State Fault Refusal :=
  .next (sentActs r (sentMessage r cal pulses (slow.map fun (a, b, c) => (a, b.toNat, c.toNat)) (s.tick e)))

def execSentLost (e : Nat) (r : Fin 8) (s : State) : Host.Outcome State Fault Refusal := .next (sentActs r (sentTimeout r (s.tick e)))

/-- `ACT_An_STAT` as read: position and validity are those of now (R462, R466). -/
def actShown (s : State) (a : Nat) (v : Reg) : Reg :=
  match actPos s a with
  | some p => F.ACT_A_STAT.POS.set (F.ACT_A_STAT.POS_OK.set v 1) (BitVec.ofInt 14 (clampI (-8192) 8191 (rshr p 19))).toNat
  | none => F.ACT_A_STAT.POS_OK.set v 0

/-- The hall count mirrored to the lifetime store (R467), which a module without a working device has not (R624). -/
def actMirror (a : Nat) (s : State) : State :=
  let x := s.actOf a
  let store := !(s.bit (R.STO_DEV 0) F.STO_DEV.FAILED && s.bit (R.STO_DEV 1) F.STO_DEV.FAILED)
  s.setAct a { x with mirror := if x.known && store then some x.cnt else x.mirror }

/-! ### Slots and states -/

/-- Slot SP(32 + 8a), from `TARGET` (R468). -/
def actTargetSlot (a : Nat) (s : State) : State :=
  s.setSp (32 + 8 * a) (BitVec.ofNat 40 (s.fld (R.ACT_A_TGT a) F.ACT_A_TGT.TARGET * 2 ^ 19))

/-- Actuator a's slots and its enable, from its state (R462, R468 to R474). A target written during a start takes effect at
lock (R475). During an orderly stop its converter stays enabled until its boundary turns it off (R68). -/
def actSlots (a : Nat) (s : State) : State :=
  let st := aState s a
  let one := fun (b : Bool) => if b then BitVec.ofInt 40 (2 ^ 31) else (0 : Reg)
  let x := s.actOf a
  let ib : Int := max 1 (aCfg s a F.ACT_A_CFG.IBASE)
  let brake := st == As.brake || st == As.wait || (st == As.failed && x.brakeEnd.isSome)
  let run := st == As.starting || st == As.moving || st == As.hold
  let k := s.fld (R.ACT_A_STAT a) F.ACT_A_STAT.ATTEMPT
  let start := min (s.fld (R.ACT_A_START a) F.ACT_A_START.IALIGN + k * s.fld (R.ACT_A_START a) F.ACT_A_START.ISTEP) (2 * ib.toNat)
  let cur : Int := if st = As.starting then start else s.fld (R.ACT_A_TGT a) F.ACT_A_TGT.ILIM
  let s := if st = As.starting ∨ st = As.wait then s else actTargetSlot a s
  let s := s.setSp (33 + 8 * a) (BitVec.ofInt 40 (ramped s (ndiv (cur * 2 ^ 31) (2 * ib))))
  let s := s.setSp (34 + 8 * a) (one run)
  let s := s.setSp (35 + 8 * a) (one brake)
  let s := s.setSp (36 + 8 * a) (one (st == As.starting))
  let s := actAngle a s
  match actConv s a with
  | some c =>
    let y := s.convOf c
    let stop := match s.trans with | some t => t.stop | none => false
    s.setConv c { y with en := (run || brake || (stop && y.en)) && !y.off }
  | none => s

/-- Actuator a enters a state. At OFF, HOLD and BRAKE the count is mirrored. -/
def actEnter (a st : Nat) (s : State) : State :=
  let was := aState s a
  let s := s.setFld (R.ACT_A_STAT a) F.ACT_A_STAT.STATE st
  let s := if st = As.moving ∨ st = As.starting then s.setBit (R.ACT_A_STAT a) F.ACT_A_STAT.INPOS false else s
  let x := { s.actOf a with held := false }
  let s := s.setAct a x
  let s := if st = As.moving then s.setAct a { x with moveAt := s.dt, posSince := none }
    else if st ≠ As.starting then s.setFld (R.ACT_A_STAT a) F.ACT_A_STAT.START_PH 0 else s
  let s := if st ≠ was ∧ (st = As.off ∨ st = As.hold ∨ st = As.brake) then actMirror a s else s
  actSlots a s

/-- BRAKE for 100 ms; then OFF, or FAULT where `fault` says so (R471, R480). -/
def actBrake100 (a : Nat) (fault : Bool) (s : State) : State :=
  actEnter a As.brake (s.setAct a { s.actOf a with brakeEnd := some (s.dt + 20000000), toFault := fault })

/-- FAULT, with its bit and its event (R480). -/
def actFault (a : Nat) (s : State) : State :=
  let s := s.setBitAt R.ACT_FLAGS F.ACT_FLAGS.FAULT a true
  let s := s.setAct a { s.actOf a with brakeEnd := none, toFault := false }
  actEnter a As.fault (s.raise EV.ACT_FAULT a [])

/-! ### Starts (R472 to R475) -/

/-- Attempt k of a start begins in ALIGN (R473). -/
def actStart (a k : Nat) (s : State) : State :=
  let pos := (actPos s a).getD 0
  let tgt : Int := s.fld (R.ACT_A_TGT a) F.ACT_A_TGT.TARGET * 2 ^ 19
  let i := R.ACT_A_STAT a
  let x := s.actOf a
  let rev := if k = 0 then decide (tgt < pos) else x.rev
  let th : Int := if s.bit i F.ACT_A_STAT.EANG_OK then x.eang + elecAngle s a pos else 0
  let base := ((th + if rev then -(ndiv (2 ^ 32) 12) else ndiv (2 ^ 32) 12) % 2 ^ 32).toNat
  let s := s.setAct a { x with phAt := s.dt, pos0 := pos, rev := rev, base := base }
  let s := (s.setFld i F.ACT_A_STAT.ATTEMPT k).setFld i F.ACT_A_STAT.START_PH 1
  actEnter a As.starting s

/-- An attempt aborts (R474): code 1 backward, 2 timeout. -/
def actAbort (a why : Nat) (s : State) : State :=
  let i := R.ACT_A_STAT a
  let s := s.setFld i F.ACT_A_STAT.ABORT_WHY why
  if s.fld i F.ACT_A_STAT.ATTEMPT < 3 then
    actEnter a As.wait (s.setAct a { s.actOf a with waitAt := s.dt })
  else actEnter a As.failed (s.setAct a { s.actOf a with brakeEnd := some (s.dt + 20000000), toFault := false })

/-- The motion of an attempt, in units of 2^-31 electrical turn, positive in the start direction (R472). -/
def actMotion (s : State) (a : Nat) (pos : Int) : Int :=
  let x := s.actOf a
  let d := (pos - x.pos0) * s.fld (R.ACT_A_POS a) F.ACT_A_POS.EPT
  if x.rev then -d else d

/-- Lock and backward abort of a start in progress, from the position measured at tick d (R473, R474). -/
def actProgress (a d : Nat) (pos : Int) (s : State) : State :=
  let mo := actMotion s a pos
  if mo * 360 ≤ -(s.fld (R.ACT_A_START a) F.ACT_A_START.BACKA * 2 ^ 31 : Int) then actAbort a 1 s
  else if s.fld (R.ACT_A_STAT a) F.ACT_A_STAT.START_PH = 2 ∧ 2 ^ 31 ≤ mo then
    let eang := (((forcedAngle { s with dt := d } a : Int) - elecAngle s a pos) % 2 ^ 32).toNat
    let s := s.setAct a { s.actOf a with eang := eang }
    let s := s.setBit (R.ACT_A_STAT a) F.ACT_A_STAT.EANG_OK true
    actEnter a As.moving (s.setFld (R.ACT_A_STAT a) F.ACT_A_STAT.START_PH 3)
  else s

/-- R473: TALIGN has passed. A start that leaving DRIVE or CHARGE ends goes on no further (R475). -/
def alignEnd (a : Nat) (s : State) : State :=
  if aState s a = As.starting ∧ actMode s ∧ s.fld (R.ACT_A_STAT a) F.ACT_A_STAT.START_PH = 1 then
    let s := s.until ((s.actOf a).phAt + s.fld (R.ACT_A_START a) F.ACT_A_START.TALIGN * 1000000)
    actSlots a ((s.setAct a { s.actOf a with phAt := s.dt }).setFld (R.ACT_A_STAT a) F.ACT_A_STAT.START_PH 2)
  else s

def execAlignEnd (e : Nat) (a : Fin 3) (s : State) : Host.Outcome State Fault Refusal := .next (alignEnd a (s.tick e))

/-- R474: no lock within 1 s of RAMP entry. -/
def rampTimeout (a : Nat) (s : State) : State :=
  if aState s a = As.starting ∧ actMode s ∧ s.fld (R.ACT_A_STAT a) F.ACT_A_STAT.START_PH = 2 then
    actAbort a 2 (s.until ((s.actOf a).phAt + 200000000))
  else s

def execActRampTimeout (e : Nat) (a : Fin 3) (s : State) : Host.Outcome State Fault Refusal := .next (rampTimeout a (s.tick e))

/-- R474: 100 ms in START_WAIT have passed. -/
def actRetry (a : Nat) (s : State) : State :=
  if aState s a = As.wait ∧ actMode s then
    let s := s.until ((s.actOf a).waitAt + 20000000)
    let k := s.fld (R.ACT_A_STAT a) F.ACT_A_STAT.ATTEMPT + 1
    (actStart a k s).raise EV.ACT_START_RETRY a []
  else s

def execActStartRetry (e : Nat) (a : Fin 3) (s : State) : Host.Outcome State Fault Refusal := .next (actRetry a (s.tick e))

/-! ### Moves (R468 to R471) -/

/-- A move begins: a start where commutation is sensorless and the actuator is not already moving (R468, R472). -/
def actMove (a : Nat) (s : State) : State :=
  let st := aState s a
  let s := actTargetSlot a (s.setAct a { s.actOf a with brakeEnd := none, toFault := false })
  if aCfg s a F.ACT_A_CFG.COMM = 1 ∧ st ≠ As.moving ∧ (st ≠ As.hold ∨ aCfg s a F.ACT_A_CFG.HOLDM = 1) then actStart a 0 s
  else actEnter a As.moving s

/-- The distance of position p from the target exceeds the window (R469). -/
def offTarget (s : State) (a : Nat) (p : Option Int) : Bool :=
  match p with
  | some p => decide ((s.fld (R.ACT_A_TGT a) F.ACT_A_TGT.PWIN * 2 ^ 19 : Int) <
      (p - s.fld (R.ACT_A_TGT a) F.ACT_A_TGT.TARGET * 2 ^ 19).natAbs)
  | none => true

/-- What a written `ACT_An_TGT` starts (R468, R475): in position as R469 left it, a target within the window is no move
(R469, assumption 87). -/
def actTarget (a : Nat) (s : State) : State :=
  let st := aState s a
  if !s.bit (R.ACT_A_CTRL a) F.ACT_A_CTRL.EN || s.bit (R.ACT_A_CTRL a) F.ACT_A_CTRL.BRAKE || !actMode s ||
      st == As.fault || st == As.failed || st == As.starting || st == As.wait || (s.actOf a).toFault then actSlots a s
  else if (s.actOf a).held && !offTarget s a (actPos s a) then actSlots a s
  else actMove a s

/-- R477: a target above the window is refused for the park lock while a machine may roll. -/
def parkRefuses (s : State) (v : Reg) : Bool :=
  decide (F.ACT_A_TGT.PWIN.get v < F.ACT_A_TGT.TARGET.get v) &&
  [0, 1].any fun m => (machConv s m).isSome &&
    (speedUnknown s m || decide (s.fld R.ACT_PARK F.ACT_PARK.PARK_W ≤ s.fld (R.PROT_SS_SPEED m) F.PROT_SS_SPEED.SPEED))

/-- R469: the position has stood in the window for 20 ms. -/
def inPosition (a : Nat) (s : State) : State :=
  match (s.actOf a).posSince with
  | none => s
  | some t =>
    if aState s a ≠ As.moving then s
    else
      let s := s.until (t + 4000000)
      let s := s.setAct a { s.actOf a with posSince := none }
      let s := actEnter a (if aCfg s a F.ACT_A_CFG.HOLDM = 1 then As.brake else As.hold) (s.setBit (R.ACT_A_STAT a) F.ACT_A_STAT.INPOS true)
      s.setAct a { s.actOf a with held := true }

def execInPosition (e : Nat) (a : Fin 3) (s : State) : Host.Outcome State Fault Refusal := .next (inPosition a (s.tick e))

/-- R470: the move has not ended within TMOVE. -/
def actTimeout (a : Nat) (s : State) : State :=
  if aState s a = As.moving then
    let s := s.until ((s.actOf a).moveAt + aCfg s a F.ACT_A_CFG.TMOVE * 2000000)
    let s := s.setBitAt R.ACT_FLAGS F.ACT_FLAGS.TIMEOUT a true
    actEnter a As.brake (s.raise EV.ACT_TIMEOUT a [])
  else s

def execActTimeout (e : Nat) (a : Fin 3) (s : State) : Host.Outcome State Fault Refusal := .next (actTimeout a (s.tick e))

/-- The status and effect of a write of `EN` = 1 (R468, R73, R76, R137). -/
def actEnable (r : Req) (a : Nat) (s : State) : Nat × State :=
  let refused := match actConv s a with | some c => enableRefused s c | none => false
  if s.mode == Mode.safe || refused || (actPos s a).isNone then (St.wrongMode, s)
  else
    let stop := match s.trans with | some t => t.stop | none => false
    match actConv s a with
    | some c =>
      if stop then (St.queued, holdEnable c 1 r s)
      else
        let s := if bitN (s.fld R.PROT_STAT F.PROT_STAT.CONV_SAFE) c then releaseLatches c s else s
        (St.ok, (hostEnables c s).setBit (R.ACT_A_CTRL a) F.ACT_A_CTRL.EN true)
    | none => (St.ok, s.setBit (R.ACT_A_CTRL a) F.ACT_A_CTRL.EN true)

/-- R471: a write of `EN` = 0. -/
def actDisable (a : Nat) (s : State) : State :=
  let s := s.setBit (R.ACT_A_CTRL a) F.ACT_A_CTRL.EN false
  if aState s a = As.off then s else actBrake100 a false s

/-- R471: `BRAKE` is written. -/
def actBrakeBit (a : Nat) (on : Bool) (s : State) : State :=
  let s := s.setBit (R.ACT_A_CTRL a) F.ACT_A_CTRL.BRAKE on
  let st := aState s a
  let s := s.setAct a { s.actOf a with held := false }
  if on then (if st = As.fault ∨ st = As.failed ∨ (s.actOf a).toFault then s else actEnter a As.brake s)
  else if st = As.brake ∧ !s.bit (R.ACT_A_CTRL a) F.ACT_A_CTRL.EN ∧ (s.actOf a).brakeEnd.isNone then actEnter a As.off s
  else s

/-- R467: `REF` sets the hall count to `ZERO`. -/
def actRef (a : Nat) (s : State) : State :=
  let s := s.setAct a { s.actOf a with cnt := sx 16 (s.fld (R.ACT_A_POS a) F.ACT_A_POS.ZERO), known := true, hallBad := false, errs := [] }
  actMeasure a s

/-- R39, R471, R474: the 100 ms of a brake have passed; in SAFE every low-voltage gate goes off. -/
def brakeEnd (a : Nat) (s : State) : State :=
  let s := match s.lvEnd with
    | some t =>
      if s.mode = Mode.safe then
        let s := s.until t
        { (gatesOff ((List.range 18).map (· + 64)) s) with lvEnd := none }
      else s
    | none => s
  match (s.actOf a).brakeEnd with
  | none => s
  | some t =>
    let s := s.until t
    let fault := (s.actOf a).toFault
    let s := s.setAct a { s.actOf a with brakeEnd := none, toFault := false }
    if aState s a = As.failed then
      let s := s.setBitAt R.ACT_FLAGS F.ACT_FLAGS.START_FAIL a true
      (actSlots a s).raise EV.ACT_START_FAILED a []
    else if aState s a ≠ As.brake then s
    else if fault then actFault a s
    else if s.bit (R.ACT_A_CTRL a) F.ACT_A_CTRL.BRAKE then s
    else actEnter a As.off s

def execActBrakeEnd (e : Nat) (a : Fin 3) (s : State) : Host.Outcome State Fault Refusal := .next (brakeEnd a (s.tick e))

/-! ### Hall inputs (R464, R465) -/

/-- The sector of a filtered hall code (R464). -/
def hallSector (c : Nat) : Option Nat :=
  match c with
  | 1 => some 0 | 3 => some 1 | 2 => some 2 | 6 => some 3 | 4 => some 4 | 5 => some 5 | _ => none

/-- The position is lost while the actuator moves (R480): BRAKE, then FAULT. -/
def actLost (a : Nat) (s : State) : State :=
  if aState s a = As.moving ∨ aState s a = As.starting then actBrake100 a true s else s

/-- A hall error (R465): counted, reported once for each unbroken run, the fourth within a second ends the position. -/
def hallError (a : Nat) (s : State) : State :=
  let x := s.actOf a
  let errs := s.dt :: x.errs.filter (fun t => decide (s.dt < t + 200000000))
  let s := s.setAct a { x with errs := errs, errRun := true, hallBad := x.hallBad || decide (4 ≤ errs.length) }
  let s := (s.incFld (R.ACT_A_STAT a) F.ACT_A_STAT.HALL_ERRS 1).setBitAt R.ACT_FLAGS F.ACT_FLAGS.HALL a true
  if x.errRun then s
  else
    let s := s.raise EV.ACT_HALL a []
    if aCfg s a F.ACT_A_CFG.COMM = 0 then actLost a s else s

/-- R464: the filtered code of actuator a changes. -/
def hallChange (a c : Nat) (s : State) : State :=
  match hallSector c with
  | none => s
  | some k =>
    let x := s.actOf a
    match x.sector with
    | none => actMeasure a (actAngle a (s.setAct a { x with sector := some k, errRun := false }))
    | some j =>
      let d := (k + 6 - j) % 6
      let s := s.setAct a { x with sector := some k }
      let s := if d = 1 then s.setAct a { s.actOf a with cnt := x.cnt + 1, errRun := false }
        else if d = 5 then s.setAct a { s.actOf a with cnt := x.cnt - 1, errRun := false }
        else if d = 0 then s else hallError a s
      actMeasure a (actAngle a s)

def execHallChange (e : Nat) (a : Fin 3) (code : Fin 8) (s : State) : Host.Outcome State Fault Refusal :=
  .next (hallChange a code (s.tick e))

/-- R465: a code of 0 or 7 has stood for 1 ms. -/
def execHallCodeError (e : Nat) (a : Fin 3) (s : State) : Host.Outcome State Fault Refusal :=
  .next (actMeasure a (hallError a (s.tick e)))

/-! ### The supervisor (R461, R476 to R480) -/

/-- The position of actuator a in a snapshot, when it is valid (R462, R511). -/
def snapPos (sn : State) (a : Nat) : Option Int :=
  if sn.bit (R.ACT_A_STAT a) F.ACT_A_STAT.POS_OK then some (AMap.getD sn.eng.sp (38 + 8 * a) 0).toInt else none

/-- R476: the park lock's state, its actuator at position p. -/
def parkState (p : Option Int) (s : State) : Nat :=
  match actConv s 2, p with
  | some _, some p =>
    let win : Int := s.fld (R.ACT_A_TGT 2) F.ACT_A_TGT.PWIN * 2 ^ 19
    if aState s 2 = As.starting ∨ aState s 2 = As.moving then 2
    else if p ≤ win then 0
    else if 2 ^ 31 - win ≤ p then 1
    else 4
  | _, _ => 3

/-- The park lock's state shown, with its event at a change. -/
def parkShow (q : Option Int) (s : State) : State :=
  let p := parkState q s
  if s.fld R.ACT_PARK F.ACT_PARK.PSTATE = p then s
  else (s.setFld R.ACT_PARK F.ACT_PARK.PSTATE p).raise EV.PARK_STATE 2 []

/-- R478: an engagement while a machine may roll, by the speeds of the snapshot, is reversed. -/
def parkAbort (sn s : State) : State :=
  if (aState s 2 = As.moving ∨ aState s 2 = As.starting) ∧ parkRefuses sn (s.reg (R.ACT_A_TGT 2)) then
    let s := s.setFld (R.ACT_A_TGT 2) F.ACT_A_TGT.TARGET 0
    let s := s.setBit R.ACT_FLAGS F.ACT_FLAGS.PARK_ABORT true
    actSlots 2 (s.raise EV.PARK_ABORT 2 [])
  else s

/-- The supervisor's evaluation of actuator a at a checkpoint (R461), from the snapshot of its interval (R511). An orderly stop ramps the current and turns the stage off
at its boundary before the actuator stands in OFF (R68, R471). -/
def actSup (a : Nat) (sn s : State) : State :=
  let s := actMeasure a s
  let pos := snapPos sn a
  if (actConv s a).isNone then s
  else
    let ok := pos.isSome
    let lost := (s.actOf a).okSeen && !ok
    let s := s.setAct a { s.actOf a with okSeen := ok }
    let s := if lost then actLost a s else s
    let st := aState s a
    let on := match actConv s a with | some c => convOn s c | none => false
    let s := if (s.mode = Mode.drive ∨ s.mode = Mode.charge) ∧ !actMode s ∧ ((stopShare s).1 > 0 ∨ on = true) then s
      else if !actMode s ∧ (st = As.starting ∨ st = As.moving ∨ st = As.hold ∨ st = As.wait ∨
          (st = As.brake ∧ !s.bit (R.ACT_A_CTRL a) F.ACT_A_CTRL.BRAKE ∧ (s.actOf a).brakeEnd.isNone)) then actEnter a As.off s
      else s
    let s := match pos with
      | some p => if aState s a = As.starting ∧ actMode s then actProgress a sn.dt p s else s
      | none => s
    let x := s.actOf a
    let at_ := if aState s a == As.moving && !offTarget s a pos then x.posSince <|> some s.dt else none
    let s := s.setAct a { x with posSince := at_ }
    let s := if a = 2 then parkAbort sn s else s
    actSlots a s

/-- Every actuator, and the park lock's state. -/
def actSupAll (sn s : State) : State := parkShow (snapPos sn 2) (actSup 2 sn (actSup 1 sn (actSup 0 sn s)))

/-- R480: a plant description is accepted. -/
def actAccepted (s : State) : State :=
  forEach [0, 1, 2] (fun a s =>
    let s := s.setBit (R.ACT_A_CTRL a) F.ACT_A_CTRL.EN false
    let i := R.ACT_A_STAT a
    let s := (s.setFld i F.ACT_A_STAT.ATTEMPT 0).setBit i F.ACT_A_STAT.EANG_OK false
    actEnter a As.off (s.setAct a { s.actOf a with hallBad := false, errs := [], brakeEnd := none, toFault := false })) s

/-- R467: at boot the mirrored counts are restored. -/
def actRestore (s : State) : State :=
  forEach [0, 1, 2] (fun a s =>
    match (s.actOf a).mirror with
    | some c => actMeasure a (s.setAct a { s.actOf a with cnt := c, known := true })
    | none => s) s

/-! ### Low-voltage supervision (R124 to R126, R480) -/

/-- An actuator whose supply or gate has failed, in whatever state it is, coasts in FAULT (R480). -/
def actCoast (a : Nat) (s : State) : State :=
  if (actConv s a).isNone ∨ aState s a = As.fault then s
  else
    let s := actFault a s
    match actConv s a with
    | some c => convDark c s
    | none => s

/-- R124: VAUX (9) or a half-bridge's bootstrap supply (0 to 8) falls into lock-out. -/
def lvLockout (w : Nat) (s : State) : State :=
  if w = 9 then
    let s := s.setBit R.ACT_LV_STAT F.ACT_LV_STAT.VAUX_OK false
    let s := (s.setBit R.ACT_LV_FLAGS F.ACT_LV_FLAGS.VAUX_UV true).setBit R.DEV_SUPPLY F.DEV_SUPPLY.VAUX_OK false
    let s := s.setFld R.ACT_LV_STAT F.ACT_LV_STAT.GATE 0
    let s := (s.raise EV.SUPPLY_LOW 0xFF []).raise EV.LV_VAUX 0xFF []
    forEach [0, 1, 2] actCoast s
  else
    let s := s.setBitAt R.ACT_LV_STAT F.ACT_LV_STAT.BOOT_OK w false
    let s := s.setBitAt R.ACT_LV_FLAGS F.ACT_LV_FLAGS.BOOT_UV w true
    let s := s.setBitAt R.ACT_LV_STAT F.ACT_LV_STAT.GATE (2 * w) false
    s.raise EV.LV_BOOT_UV (2 * w) []

def execLvLockout (e : Nat) (which : Fin 10) (s : State) : Host.Outcome State Fault Refusal := .next (lvLockout which (s.tick e))

/-- R124, R125: the supply rises above its release threshold. A channel follows its command again; a high side released
from a bootstrap lock-out stays off until its next turn-on edge. -/
def lvRelease (w : Nat) (s : State) : State :=
  if w = 9 then
    let s := (s.setBit R.ACT_LV_STAT F.ACT_LV_STAT.VAUX_OK true).setBit R.DEV_SUPPLY F.DEV_SUPPLY.VAUX_OK true
    forEach ((List.range 18).map (64 + ·)) (fun g s =>
      if (s.islOf g).cmdOn && !gateBarred s g then setGate g (8 * s.dt) true s else s) s
  else
    let g := 64 + 2 * w
    let x := s.islOf g
    let was := bitN (s.fld R.ACT_LV_STAT F.ACT_LV_STAT.BOOT_OK) w
    (if was then s else s.setIsl g { x with needOff := x.cmdOn }).setBitAt R.ACT_LV_STAT F.ACT_LV_STAT.BOOT_OK w true

def execLvLockoutRelease (e : Nat) (which : Fin 10) (s : State) : Host.Outcome State Fault Refusal :=
  .next (lvRelease which (s.tick e))

/-- Actuator a is under the short-circuit brake (R463, R471, R474). -/
def aBraked (s : State) (a : Nat) : Bool :=
  aState s a == As.brake || aState s a == As.wait || (aState s a == As.failed && (s.actOf a).brakeEnd.isSome)

/-- R126: the gate voltage, in mV, 2 µs after an edge of channel ch. Under the brake the other low sides go on braking. -/
def lvGateCheck (ch mv : Nat) (s : State) : State :=
  let on := (s.islOf (64 + ch)).cmdOn
  if !s.bit R.ACT_LV_CFG F.ACT_LV_CFG.FB_EN || (if on then decide (6000 ≤ mv) else decide (mv ≤ 2000)) then s
  else
    let k := ch / 2
    let s := gatesOff [64 + 2 * k, 65 + 2 * k] s
    let s := (s.setBitAt R.ACT_LV_FLAGS F.ACT_LV_FLAGS.GATE_FB ch true).raise EV.LV_GATE ch []
    let a := k / 3
    if s.mode = Mode.safe ∨ aBraked s a then s else actCoast a s

def execLvGateCheck (e : Nat) (ch : Fin 18) (mv : Nat) (s : State) : Host.Outcome State Fault Refusal :=
  .next (lvGateCheck ch mv (s.tick e))

end Sys2Proof.Machine
end

