-- ==== Sys2Proof/Machine/NtcCalc.lean ====
section
/-! DEFINITION. Thermistor arithmetic (R120): a natural logarithm in fixed point, and the temperature in 1/16 °C. -/

namespace Sys2Proof.Machine

/-- The terms z^(2 i + 1) / (2 i + 1) of the inverse hyperbolic tangent, in units of 2^-64, from the power p of odd order k. -/
def atanhSum : Nat → Nat → Nat → Nat → Nat
  | 0, _, _, _ => 0
  | n + 1, p, zz, k => p / k + atanhSum n (p * zz / 2 ^ 64) zz (k + 2)

/-- ln 2 in units of 2^-64. -/
def ln2 : Nat := 12786308645202655659

/-- Halvings that bring a / b below 2, for a at least b, counted with fuel. -/
def halvings : Nat → Nat → Nat → Nat
  | 0, _, _ => 0
  | n + 1, a, b => if a < 2 * b then 0 else 1 + halvings n a (2 * b)

/-- ln (a / b) for a at least b, above 0, in units of 2^-64. -/
def lnUp (a b : Nat) : Nat :=
  let k := halvings 64 a b
  let c := b * 2 ^ k
  let z := (a - c) * 2 ^ 64 / (a + c)
  k * ln2 + 2 * atanhSum 22 z (z * z / 2 ^ 64) 1

/-- ln (a / b) in units of 2^-64. -/
def lnRat (a b : Nat) : Int := if b ≤ a then (lnUp a b : Int) else -(lnUp b a : Int)

/-- R120: the temperature, in 1/16 °C and limited to −55 °C to 200 °C, of a thermistor of resistance num / den ohms, with
RES25 in ohms and BETA in kelvin. -/
def ntcTemp (num den res25 beta : Nat) : Int :=
  let inv : Int := (2 ^ 64 * 100 / 29815 : Nat) + lnRat num (den * res25) / (max 1 beta : Nat)
  if inv ≤ 0 then 3200
  else clampI (-880) 3200 ((160 * 2 ^ 64 - 43699 * inv) / (10 * inv))

end Sys2Proof.Machine
end

