-- ==== Sys2Proof/Machine/Charge.lean ====
section
/-! DEFINITION. On-board charging: the control pilot, the AC monitor, the charge meter, the charge sequencer and the follow
regulator (chapter 12, R305 to R308). -/

namespace Sys2Proof.Machine

/-- Session states of R439. -/
abbrev Ch.none : Nat := 0
abbrev Ch.wait : Nat := 1
abbrev Ch.run : Nat := 2
abbrev Ch.handover : Nat := 3
abbrev Ch.suspend : Nat := 4
abbrev Ch.ended : Nat := 5
abbrev Ch.locked : Nat := 6

/-- The session's state. -/
def session (s : State) : Nat := s.fld R.CHG_STAT F.CHG_STAT.SESSION

/-- Changing the sequencer's record. -/
def onChg (f : Chg → Chg) (s : State) : State := { s with chg := f s.chg }

/-- A bit of `CHG_IRQ_STAT` set (R456). -/
def chgIrq (f : Fld) (s : State) : State := s.setBit R.CHG_IRQ_STAT f true

/-- A bit of `CHG_FLAGS` set, with FLAG. -/
def chgFlag (f : Fld) (s : State) : State := chgIrq F.CHG_IRQ_STAT.FLAG (s.setBit R.CHG_FLAGS f true)

/-- `nIRQ_CHG` is driven low (R456). -/
def nirqChg (s : State) : Bool :=
  (s.reg R.CHG_IRQ_STAT &&& s.reg R.CHG_IRQ_EN) != 0

/-- The session enters a state. -/
def chgState (st : Nat) (s : State) : State :=
  if session s = st then s
  else
    let s := chgIrq F.CHG_IRQ_STAT.SESSION (s.setFld R.CHG_STAT F.CHG_STAT.SESSION st)
    if st = Ch.ended ∨ st = Ch.locked then chgIrq F.CHG_IRQ_STAT.END s else s

/-- The phase changes (R447). -/
def chgPhase (p : Nat) (s : State) : State :=
  let s := onChg (fun c => { c with spent := 0, cond := Option.none }) s
  if s.fld R.CHG_STAT F.CHG_STAT.PHASE = p then s
  else chgIrq F.CHG_IRQ_STAT.PHASE ((s.setFld R.CHG_STAT F.CHG_STAT.PHASE p).raise EV.CHG_PHASE 0xFF [])

/-- The converter of lowest INDEX of a kind, which the sequencer serves (R426). -/
def chgConv (s : State) (kind : Nat) : Option Nat := (sortNat (convsKind s kind)).head?

/-- A converter held by R137, R321 or R349. -/
def convHeld (s : State) (c : Nat) : Bool :=
  protHolds s c || (s.convOf c).esc || bitN (s.fld R.PLC_SHED F.PLC_SHED.CONV) c

/-- One of the two charger converters is held. -/
def chgHeld (s : State) : Bool := (chgConv s 3).any (convHeld s) || (chgConv s 4).any (convHeld s)

/-! ### Zones and slots (R428, R446 to R449) -/

/-- The zone. -/
def zone (s : State) : Nat := s.fld R.CHG_STAT F.CHG_STAT.ZONE

/-- The zone's CC in 0.5 A, 0 without a valid temperature (R445). -/
def zoneCC (s : State) : Nat :=
  if s.bit R.CHG_STAT F.CHG_STAT.TBAT_OK && zone s != 7 then s.fld (R.CHG_ZONE (zone s)) F.CHG_ZONE.CC else 0

/-- The zone's CV in 0.1 V. -/
def zoneCV (s : State) : Nat := if zone s = 7 then 0 else s.fld (R.CHG_ZONE (zone s)) F.CHG_ZONE.CV

/-- The upper bound of zone k in 1/16 °C. -/
def zoneBound (s : State) (k : Nat) : Int := s.sfld (R.CHG_ZONE k) F.CHG_ZONE.BOUND * 8

/-- The zone rises while T stands at or above its bound. -/
def zoneUp (s : State) (t : Int) : Nat → Nat → Nat
  | 0, z => z
  | n + 1, z => if z < 5 ∧ zoneBound s z ≤ t then zoneUp s t n (z + 1) else z

/-- The zone falls while T stands 2 °C below the bound beneath it. -/
def zoneDown (s : State) (t : Int) : Nat → Nat
  | 0 => 0
  | z + 1 => if t < zoneBound s z - 32 then zoneDown s t z else z + 1

/-- R446: a new valid temperature, in 1/16 °C. -/
def newTemp (t : Int) (s : State) : State :=
  let z := if s.chg.first || zone s == 7 then zoneUp s t 5 0 else zoneDown s t (zoneUp s t 5 (zone s))
  let was := zone s
  let s := onChg (fun c => { c with tbat := some t, tbatAt := s.dt, first := false }) s
  let s := (s.setBit R.CHG_STAT F.CHG_STAT.TBAT_OK true).setFld R.CHG_STAT F.CHG_STAT.ZONE z
  if z = was then s else chgIrq F.CHG_IRQ_STAT.ZONE (s.raise EV.CHG_ZONE 0xFF [])

/-- A missed write or an invalid reading of the battery's temperature (R445). -/
def tempLost (s : State) : State :=
  (chgFlag F.CHG_FLAGS.TBAT (s.setBit R.CHG_STAT F.CHG_STAT.TBAT_OK false)).raise EV.CHG_TBAT 0xFF []

/-- The derating factor k of R438 in 1/160: the hottest valid junction estimate of the charger's islands. -/
def derate (s : State) : Int :=
  let isls := ((chgConv s 3).toList ++ (chgConv s 4).toList).flatMap fun c => (gatesOfConv s c).filter (· < 48)
  let tjs := (isls.filter fun n => s.bit (R.LIFE_I_TJ n) F.LIFE_I_TJ.VALID).map fun n => s.sfld (R.LIFE_I_TJ n) F.LIFE_I_TJ.TJ
  match tjs with
  | [] => 160
  | t :: l => clampI 0 160 ((s.fld R.CHG_CFG F.CHG_CFG.TJ_DER + 10) * 16 - l.foldl max t)

/-- What R438 takes the least of beside ILIM_V: the source's limit and `IMAX`, in 2^-16 of 0.1 A. -/
def inputSource (s : State) : Nat :=
  let icp := s.fld R.CHG_CP_STAT F.CHG_CP_STAT.ICP
  let h := s.fld R.CHG_ILIM_HOST F.CHG_ILIM_HOST.HLIM
  let src := if s.bit R.CHG_CP_STAT F.CHG_CP_STAT.DIGITAL then (if h = 0x3FF then 0 else h)
    else if h = 0x3FF then icp else min icp h
  let src := if s.pairUse.half then src * 2 ^ 15 else src * 2 ^ 16
  min src (5 * s.fld R.CHG_IN_CFG F.CHG_IN_CFG.IMAX * 2 ^ 16)

/-- R438: ilim in 2^-16 of 0.1 A. -/
def inputLimit (s : State) : Nat := (ndiv (min (inputSource s) s.chg.ilimV * derate s) 160).toNat

/-- R438: avail in 2^-31 of IBASE, from an input limit. -/
def availOut (s : State) (ilim : Nat) : Int :=
  let ib := dclF s R.DCL_BASE F.DCL_BASE.IBASE
  let idis := ndiv (dclF s R.DCL_DCDC_LIM F.DCL_DCDC_LIM.IDIS * 2 ^ 31) ib
  let sqrt3 : Int := (isqrtF 64 (3 * 2 ^ 64) 0 : Nat)
  let num := ilim * sqrt3 * s.chg.vmin * s.fld R.CHG_CFG F.CHG_CFG.ETA
  -- units: 0.1 A·2^-16, 2^-32, V·2^-16, 1/256; divided by VBAT in 2^-16 V
  if s.chg.vbat ≤ 0 then idis
  else min (ndiv (num * 2 ^ 31) (10 * 2 ^ 16 * 2 ^ 32 * 256 * s.chg.vbat * ib)) idis

/-- R449. -/
def thermLim (s : State) : Bool :=
  decide (zoneCC s < 2 * s.fld R.CHG_LIMITS F.CHG_LIMITS.CC_NOM) || !s.bit R.CHG_STAT F.CHG_STAT.TBAT_OK || decide (derate s < 160)

/-- R458: `CH_OK`. -/
def chanIn (s : State) (g c : Nat) : Bool :=
  (List.range 12).any fun n =>
    match adcMode s n with
    | 0 => false
    | 1 => (List.range (s.fld (R.ADC_AD_CFG n) F.ADC_AD_CFG.LEN + 1)).any fun i =>
        s.fld (R.ADC_AD_SLOT n i) F.ADC_AD_SLOT.CHAN == c &&
        (pairQueues s (pairOf s g)).contains (s.fld (R.ADC_AD_SLOT n i) F.ADC_AD_SLOT.QUEUE)
    | _ => s.fld (R.ADC_AD_CFG n) F.ADC_AD_CFG.CHAN == c &&
        (pairQueues s (pairOf s g)).contains (s.fld (R.ADC_AD_CFG n) F.ADC_AD_CFG.QUEUE)

/-- The graph whose queues hold both meter channels (R448). -/
def meterGraph (s : State) : Option Nat :=
  let ib := s.fld R.CHG_CH F.CHG_CH.CH_IB
  let vb := s.fld R.CHG_CH F.CHG_CH.CH_VB
  (List.range 8).find? fun g => gLoaded s g && chanIn s g ib && chanIn s g vb

/-- The front end's graph. -/
def feGraph (s : State) : Option Nat := (chgConv s 3).bind (graphOf s)

/-- R458. -/
def chOk (s : State) : Bool :=
  let f := fun (x : Fld) => s.fld R.CHG_CH x
  let vs := [f F.CHG_CH.CH_V12, f F.CHG_CH.CH_V23, f F.CHG_CH.CH_V31]
  (vs ++ [f F.CHG_CH.CH_IB, f F.CHG_CH.CH_VB]).all (· != 0x7F) &&
  [F.CHG_SCALE.SAC, F.CHG_SCALE.SVB, F.CHG_SCALE.SIB].all (fun x => s.fld R.CHG_SCALE x != 0) &&
  (match feGraph s with | some g => vs.all (chanIn s g) | none => false) && (meterGraph s).isSome

/-- SP27's target in 2^-40 A (R447). -/
def cur27 (s : State) : Int :=
  let cc := zoneCC s
  let v := match s.fld R.CHG_STAT F.CHG_STAT.PHASE with
    | 0 => min (2 * s.fld R.CHG_PROF F.CHG_PROF.IPRE) cc
    | 1 | 2 => cc
    | 3 => min (2 * s.fld R.CHG_PROF F.CHG_PROF.ITOP) cc
    | _ => 0
  (v : Int) * 2 ^ 39

/-- The slots SP24 to SP29, the run bits and the enables (R428, R429, R444). -/
def chgSlots (s : State) : State :=
  let run := session s == Ch.run
  let one := fun (b : Bool) => if b then BitVec.ofInt 40 (2 ^ 31) else (0 : Reg)
  let ib := dclF s R.DCL_BASE F.DCL_BASE.IBASE
  let vb := dclF s R.DCL_BASE F.DCL_BASE.VBASE
  let s := forEach (convsKind s 3 ++ convsKind s 4) (fun c s =>
    let mine := chgConv s 3 == some c || chgConv s 4 == some c
    s.setConv c { s.convOf c with en := run && mine && !(s.convOf c).off }) s
  let s := s.setSp 24 (BitVec.ofInt 40 (ramped s (ndiv ((s.chg.ilim : Int) * 2 ^ 15) 640)))
  let s := (s.setSp 25 (one run)).setSp 26 (one run)
  let s := s.setSp 27 (BitVec.ofInt 40 (ramped s (ndiv (s.chg.cur * 2 ^ 31) (2 ^ 40 * ib))))
  let s := s.setSp 28 (BitVec.ofInt 40 (ndiv ((zoneCV s : Int) * 2 ^ 31) (10 * vb)))
  let s := s.setSp 29 (BitVec.ofInt 40 s.chg.avail)
  let s := (s.setBit R.CHG_STAT F.CHG_STAT.FE_RUN run).setBit R.CHG_STAT F.CHG_STAT.DAB_RUN run
  let s := s.setBit R.CHG_STAT F.CHG_STAT.FOLLOW (run && s.dcl.follow && !s.bit R.DCL_STAT F.DCL_STAT.REGEN_INH)
  dclSlots s

/-- FOLLOW begins or ends (R452). -/
def setFollow (on : Bool) (s : State) : State :=
  onChg (fun c => { c with acc := 0 }) { s with dcl := { s.dcl with follow := on, sp23 := 0 } }

/-! ### Sessions (R439 to R444) -/

/-- A session ends with a cause (R441). -/
def chgEnd (why : Nat) (s : State) : State :=
  let s := setFollow false (s.setFld R.CHG_STAT F.CHG_STAT.END_WHY why)
  chgSlots (chgState Ch.ended (onChg (fun c => { c with causes := [], cur := 0, replug := false }) s))

/-- A handover starts at stamp st (R454): the bridge and the front end stop, FOLLOW ends. -/
def handover (st why : Nat) (s : State) : State :=
  let s := onChg (fun c => { c with s := st, causes := [why], dev := false, replug := false, cur := 0 }) (setFollow false s)
  let s := chgIrq F.CHG_IRQ_STAT.HANDOVER (chgState Ch.handover s)
  let s := s.raiseAt st EV.CHG_HANDOVER 0xFF []
  chgSlots (setVlink (vlink s) s)

/-- A thermal timeout locks the session (R441 row 1). -/
def chgLock (s : State) : State :=
  let s := s.setFld R.CHG_STAT F.CHG_STAT.END_WHY 3
  chgSlots (chgState Ch.locked (onChg (fun c => { c with causes := [] }) s))

/-- A cause of R441 at stamp st; 15 stands for the causes of a suspension. In RUN it starts a handover, in HANDOVER it is
recorded, and in SUSPEND the row of R441 decides at once (R450, R455). -/
def chgCause (st why : Nat) (s : State) : State :=
  if session s = Ch.run then handover st why s
  else if session s = Ch.handover then onChg (fun c => { c with causes := c.causes ++ [why] }) s
  else if session s = Ch.suspend ∧ why ≠ 15 then (if why = 3 then chgLock s else chgEnd why s)
  else s

/-- R454, R441: the handover completes; `slow` tells completion at s + 20 ms. -/
def handoverDone (slow : Bool) (s : State) : State :=
  let cs := s.chg.causes
  let dev := s.chg.dev
  let s := if slow then chgFlag F.CHG_FLAGS.HO_SLOW s else s
  let s := chgIrq F.CHG_IRQ_STAT.HANDOVER (s.raise EV.CHG_HANDOVER_DONE 0xFF [(1, b2n slow + 2 * b2n dev)])
  let s := onChg (fun c => { c with doneAt := s.dt }) s
  if cs.contains 3 then chgLock s
  else match cs.find? (· != 15) with
    | some w => chgEnd w s
    | none => chgSlots (chgState Ch.suspend (onChg (fun c => { c with causes := [] }) s))

/-- R454: s + 20 ms. -/
def handoverDeadline (s : State) : State :=
  if session s = Ch.handover then handoverDone true (s.until (s.chg.s + 4000000)) else s

def execHandoverDeadline (e : Nat) (s : State) : Host.Outcome State Fault Refusal := .next (handoverDeadline (s.tick e))

/-- R442: s + 60 s without a replug. -/
def suspendExpiry (s : State) : State :=
  if session s = Ch.suspend ∧ !s.chg.replug then chgEnd 6 (s.until (s.chg.s + 12000000000)) else s

def execSuspendExpiry (e : Nat) (s : State) : Host.Outcome State Fault Refusal := .next (suspendExpiry (s.tick e))

/-- A new session in WAIT (R443, R447). -/
def newSession (s : State) : State :=
  let s := s.setFld R.CHG_SESSION F.CHG_SESSION.SESSION_NO (s.fld R.CHG_SESSION F.CHG_SESSION.SESSION_NO + 1)
  let s := (s.setFld R.CHG_SESSION F.CHG_SESSION.AH 0).setFld R.CHG_SESSION F.CHG_SESSION.ELAPSED 0
  let s := s.setFld R.CHG_STAT F.CHG_STAT.END_WHY 0
  let s := onChg (fun c => { c with ah := 0, clock := 0, began := false, first := true, vregSeen := false, causes := [],
                                     replug := false, sawA := false, cur := 0 }) s
  let pre := decide (s.chg.vbat < s.fld R.CHG_PROF F.CHG_PROF.VPRE * 2 ^ 16)
  chgPhase (if pre then 0 else 1) (chgState Ch.wait s)

/-- A charger converter's enable is refused (R138). -/
def chgRefused (s : State) : Bool :=
  ((chgConv s 3).toList ++ (chgConv s 4).toList).any (enableRefused s)

/-- `START` enables the charger's converters as the host's order does (R346). -/
def chgEnables (s : State) : State := forEach ((chgConv s 3).toList ++ (chgConv s 4).toList) hostEnables s

/-- The status and effect of `START` (R443, R73, R138, R322). -/
def chgStart (r : Req) (s : State) : Nat × State :=
  if s.mode ≠ Mode.charge ∨ session s = Ch.locked ∨ chgRefused s = true then (St.wrongMode, s)
  else match s.trans, chgConv s 3 with
    | some t, some c =>
      if t.stop then (St.queued, holdEnable c 2 r s)
      else if session s = Ch.none ∨ session s = Ch.ended then (St.ok, newSession s) else (St.ok, s)
    | _, _ =>
      if session s = Ch.none ∨ session s = Ch.ended then (St.ok, newSession (chgEnables s)) else (St.ok, chgEnables s)

/-- `STOP` (R443). -/
def chgStop (s : State) : Nat × State :=
  if s.mode ≠ Mode.charge then (St.wrongMode, s)
  else if session s = Ch.run ∨ session s = Ch.handover then (St.ok, chgCause s.dt 1 s)
  else if session s = Ch.wait ∨ session s = Ch.suspend then (St.ok, chgEnd 1 s)
  else (St.ok, s)

/-- `UNLOCK` (R443). -/
def chgUnlock (s : State) : State := if session s = Ch.locked then chgState Ch.ended s else s

/-! ### The control pilot (R305 to R308, R430 to R433) -/

/-- R433: ICP in 0.1 A, from a duty in 2^-31. -/
def icpOf (d : Nat) : Nat :=
  let p := 100 * d
  let u := 2 ^ 31
  if p < 8 * u then 0
  else if p < 10 * u then 60
  else if p ≤ 85 * u then 6 * p / u
  else if p ≤ 96 * u then (25 * p - 25 * 64 * u) / u
  else if p ≤ 97 * u then 800
  else 0

/-- The presented duty changes. -/
def pilotDuty (d : Nat) (s : State) : State :=
  let s := { s with pilot := { s.pilot with duty := d } }
  let i := R.CHG_CP_STAT
  let icp := icpOf d
  let was := s.fld i F.CHG_CP_STAT.ICP
  let dig := decide (3 * 2 ^ 31 ≤ 100 * d ∧ 100 * d ≤ 7 * 2 ^ 31)
  let s := (s.setFld i F.CHG_CP_STAT.DUTY ((1000 * d + 2 ^ 30) / 2 ^ 31)).setFld i F.CHG_CP_STAT.ICP icp
  let s := s.setBit i F.CHG_CP_STAT.DIGITAL dig
  if icp = was then s else chgIrq F.CHG_IRQ_STAT.LIMIT s

/-- A replug (R442) at stamp st: in time it lets a suspension resume, and after one that expired it starts a new session when
`AUTO` is 1. -/
def replug (st : Nat) (s : State) : State :=
  if (session s = Ch.handover ∨ session s = Ch.suspend) ∧ st < s.chg.s + 12000000000 then onChg (fun c => { c with replug := true }) s
  else if session s = Ch.ended ∧ s.fld R.CHG_STAT F.CHG_STAT.END_WHY = 6 ∧ s.bit R.CHG_CFG F.CHG_CFG.AUTO then newSession s
  else s

/-- R432: a new state is presented, stamped now. -/
def pilotPresent (st : Nat) (s : State) : State :=
  let s := chgIrq F.CHG_IRQ_STAT.PILOT ((s.setFld R.CHG_CP_STAT F.CHG_CP_STAT.STATE st).raise EV.CHG_PILOT 0xFF [])
  if st = 2 then
    let auto := s.bit R.CHG_CFG F.CHG_CFG.AUTO && s.chg.sawA && (session s == Ch.none || session s == Ch.ended)
    let s := onChg (fun c => { c with cAt := s.dt }) s
    let s := if auto then newSession s else replug s.dt s
    onChg (fun c => { c with sawA := false }) s
  else
    let s := onChg (fun c => { c with replug := false, sawA := c.sawA || st == 0 }) s
    if st = 4 then chgCause s.dt 7 (chgFlag F.CHG_FLAGS.PILOT_ERR s)
    else chgCause s.dt 15 s

/-- R431: the state a measurement decodes, from the plateaus in microvolts, and DIODE_FAIL. -/
def pilotDecode (osc : Bool) (hi lo : Int) : Nat × Bool :=
  if osc && decide (-10500000 ≤ lo) then (4, true)
  else if 10500000 ≤ hi then (0, false)
  else if 7500000 ≤ hi then (1, false)
  else if 4500000 ≤ hi then (2, false)
  else if 1500000 ≤ hi then (3, false)
  else if -10500000 ≤ hi then (4, false)
  else (5, false)

/-- A plateau from the sum of its samples in 2 mV steps; an empty window leaves it (R430). -/
def plateau (s : State) (sum : Int) (n : Nat) (old : Int) : Int :=
  if n = 0 then old else fdiv (sum * 2000 * s.fld R.CHG_CFG F.CHG_CFG.CPRATIO) (16 * n)

/-- A measurement: plateaus, decoded state, and presentation after three cycles or two steady windows (R430 to R432). -/
def pilotMeasure (osc : Bool) (hi lo : Int) (s : State) : State :=
  let (st, diode) := pilotDecode osc hi lo
  let p := s.pilot
  let runs := if p.dec = st then p.runs + 1 else 1
  let s := { s with pilot := { p with vhi := hi, vlo := lo, dec := st, runs := runs } }
  let i := R.CHG_CP_STAT
  let half := fun (v : Int) => clampI (-32) 31 ((v + 250000) / 500000)
  let wasDiode := s.bit i F.CHG_CP_STAT.DIODE_FAIL
  let s := ((s.setSfld i F.CHG_CP_STAT.VHI (half hi)).setSfld i F.CHG_CP_STAT.VLO (half lo)).setBit i F.CHG_CP_STAT.DIODE_FAIL diode
  let s := if diode && !wasDiode then chgCause s.dt 7 (chgFlag F.CHG_FLAGS.PILOT_ERR s) else s
  if (if osc then 3 else 2) ≤ runs ∧ s.fld i F.CHG_CP_STAT.STATE ≠ st then pilotPresent st s else s

/-- CP_PWM is watched: not before step 8 of the boot, nor in STANDBY (R63). -/
def pilotWatched (s : State) : Bool := s.boot.phase == .run

/-- The samples of a plateau window of a cycle (R430): those from 2,000 ticks after the edge before it to 1,000 before the edge
after it; none where the level stood no longer than that. -/
def plateauWindow (level n : Nat) : Nat := if level ≤ 3000 then 0 else n

/-- R305, R306, R430: a cycle of len ticks ends now, with the given high time and number of falling edges, and the sums
and counts of the samples in its two plateau windows. -/
def pilotCycle (len high falls : Nat) (hs : Int) (hn : Nat) (ls : Int) (ln : Nat) (s : State) : State :=
  if !pilotWatched s then s else
  let p := s.pilot
  let s := { s with pilot := { p with steady := false, runs := if p.steady then 0 else p.runs } }
  let s := s.setBit R.CHG_CP_STAT F.CHG_CP_STAT.PWM true
  let ok := decide (196079 ≤ len ∧ len < 204082 ∧ falls = 1 ∧ 0 < len)
  let d := (2 * high * 2 ^ 31 + len) / (2 * max 1 len)
  let hist := if ok then (d :: p.hist).take 3 else []
  let s := { s with pilot := { s.pilot with hist := hist, lastOk := if ok then s.dt else p.lastOk } }
  let s := match hist with
    | [a, b, c] =>
      let lo := min a (min b c)
      let hi := max a (max b c)
      if hi ≤ lo + 10737418 ∧ a ≠ p.duty then pilotDuty a s else s
    | _ => s
  pilotMeasure true (plateau s hs (plateauWindow high hn) p.vhi) (plateau s ls (plateauWindow (len - high) ln) p.vlo) s

def execPilotCycle (e : Nat) (len high falls : Nat) (hs : Int) (hn : Nat) (ls : Int) (ln : Nat) (s : State) :
    Host.Outcome State Fault Refusal := .next (pilotCycle len high falls hs hn ls ln (s.tick e))

/-- R307: no edge for 3 ms; the pin is steady at a level. -/
def pilotSteady (high : Bool) (s : State) : State :=
  if !pilotWatched s then s else
  let s := { s with pilot := { s.pilot with steady := true, hist := [], runs := if s.pilot.steady then s.pilot.runs else 0 } }
  pilotDuty (if high then 2 ^ 31 else 0) (s.setBit R.CHG_CP_STAT F.CHG_CP_STAT.PWM false)

def execPilotSteady (e : Nat) (high : Bool) (s : State) : Host.Outcome State Fault Refusal := .next (pilotSteady high (s.tick e))

/-- R307: edges arrive, but no cycle has been accepted for 10 ms. -/
def pilotNoCycle (s : State) : State :=
  if !pilotWatched s || s.pilot.steady then s else pilotDuty 0 (s.until (s.pilot.lastOk + 2000000))

def execPilotNoCycle (e : Nat) (s : State) : Host.Outcome State Fault Refusal := .next (pilotNoCycle (s.tick e))

/-- R430: a 1 ms window of a steady pin, as the sum and count of its samples. -/
def pilotWindow (sum : Int) (n : Nat) (s : State) : State :=
  if !pilotWatched s || !s.pilot.steady then s
  else
    let v := plateau s sum n s.pilot.vhi
    pilotMeasure false v v s

def execPilotWindow (e : Nat) (sum : Int) (n : Nat) (s : State) : Host.Outcome State Fault Refusal :=
  .next (pilotWindow sum n (s.tick e))

/-! ### AC monitor and charge meter (R435, R436, R448) -/

/-- An entry of a charger channel arrives in a queue (R435, R448). -/
def chgArrive (q : Nat) (e : QEnt) (s : State) : State :=
  let f := fun (x : Fld) => s.fld R.CHG_CH x
  let mine := fun (g : Option Nat) => match g with | some g => (pairQueues s (pairOf s g)).contains q | none => false
  if ([f F.CHG_CH.CH_V12, f F.CHG_CH.CH_V23, f F.CHG_CH.CH_V31].contains e.chan && mine (feGraph s)) ||
      ([f F.CHG_CH.CH_IB, f F.CHG_CH.CH_VB].contains e.chan && mine (meterGraph s)) then
    onChg (fun c => { c with inbox := c.inbox ++ [(e.chan, e.stamp, e.val)] }) s
  else s

/-- One entry of voltage k at the monitor: a rising zero crossing of v12 ends a cycle. An entry stamped before the present cycle
counts in none (R435). -/
def acEntry (sac k stamp : Nat) (v : Int) (a : AcMon × List (Nat × Nat × Bool)) : AcMon × List (Nat × Nat × Bool) :=
  let (m, cs) := a
  let add := fun (m : AcMon) =>
    let m := { m with newest := m.newest.set k v }
    if (match m.cross with | some t => decide (stamp < t) | none => false) then m
    else { m with sums := m.sums.set k (m.sums.getD k 0 + (v * v).toNat), cnts := m.cnts.set k (m.cnts.getD k 0 + 1) }
  if k = 0 ∧ m.neg ∧ 0 ≤ v then
    let cs := match m.cross with
      | some t0 =>
        let len := stamp - t0
        let sq := fun (j : Nat) => m.sums.getD j 0 * sac * sac
        let n := fun (j : Nat) => m.cnts.getD j 0
        let rms := fun (j : Nat) => isqrtF 40 (sq j / max 1 (n j)) 0
        let inR := fun (j : Nat) => decide (0 < n j ∧ n j * (306 * 2 ^ 16) ^ 2 ≤ sq j ∧ sq j ≤ n j * (528 * 2 ^ 16) ^ 2)
        cs ++ [(len, min (rms 0) (min (rms 1) (rms 2)),
          inR 0 && inR 1 && inR 2 && decide (47 * len ≤ 200000000 ∧ 200000000 < 63 * len))]
      | none => cs
    (add { m with neg := false, cross := some stamp, sums := [0, 0, 0], cnts := [0, 0, 0] }, cs)
  else (add { m with neg := if k = 0 then decide (v < 0) else m.neg }, cs)

/-- Entries of the voltages, by number, put in order of their stamps; of one stamp v12 comes first, since the crossing it may be
begins the cycle that the others of that stamp belong to. -/
def insStamp (x : Nat × Nat × Int) : List (Nat × Nat × Int) → List (Nat × Nat × Int)
  | [] => [x]
  | y :: t => if x.2.1 < y.2.1 ∨ (x.2.1 = y.2.1 ∧ x.1 < y.1) then x :: y :: t else y :: insStamp x t

/-- R435: the AC monitor in an activation of the front end's graph at boundary b. -/
def acRun (b : Nat) (s : State) : State :=
  let ch := [s.fld R.CHG_CH F.CHG_CH.CH_V12, s.fld R.CHG_CH F.CHG_CH.CH_V23, s.fld R.CHG_CH F.CHG_CH.CH_V31]
  let mine := (s.chg.inbox.filter fun x => ch.contains x.1).foldl (fun l x => insStamp (ch.idxOf x.1, x.2) l) []
  let sac := s.fld R.CHG_SCALE F.CHG_SCALE.SAC
  let (m, cs) := mine.foldl (fun a x => acEntry sac x.1 x.2.1 x.2.2 a) (s.chg.ac, [])
  let sq := (m.newest.foldl (fun t v => t + v * v) 0).toNat * sac * sac
  let low := decide (sq < 3 * (s.fld R.CHG_IN_CFG F.CHG_IN_CFG.VLOSS * 2 ^ 16) ^ 2)
  onChg (fun c => { c with ac := m, inbox := c.inbox.filter (fun x => !ch.contains x.1),
                           acRes := c.acRes ++ [⟨b, low, m.cross, cs⟩] }) s

/-- R448: the charge meter in an activation of its graph at boundary b. -/
def meterRun (b : Nat) (s : State) : State :=
  let ib := s.fld R.CHG_CH F.CHG_CH.CH_IB
  let vb := s.fld R.CHG_CH F.CHG_CH.CH_VB
  let mean := fun (c scale : Nat) (old : Int) =>
    let l := s.chg.inbox.filter fun x => x.1 == c
    if l.isEmpty then old else ndiv (l.foldl (fun t x => t + x.2.2) 0 * scale) l.length
  let i := mean ib (s.fld R.CHG_SCALE F.CHG_SCALE.SIB) s.chg.ibat
  let v := mean vb (s.fld R.CHG_SCALE F.CHG_SCALE.SVB) s.chg.vbat
  let d := match s.chg.meterAt with | some t => b - t | none => 0
  let s := onChg (fun c => { c with ibat := i, vbat := v, meterAt := some b, ah := c.ah + i.toNat * d,
                                     inbox := c.inbox.filter (fun x => x.1 != ib && x.1 != vb) }) s
  s.setFld R.CHG_SESSION F.CHG_SESSION.AH (min 65535 (s.chg.ah / (360 * 2 ^ 16 * 200000000)))

/-- AC is lost at stamp st (R436). -/
def acLost (st : Nat) (s : State) : State :=
  if !s.bit R.CHG_STAT F.CHG_STAT.AC_OK then s
  else
    let s := onChg (fun c => { c with good := 0, bad := 0, lowAt := Option.none }) (s.setBit R.CHG_STAT F.CHG_STAT.AC_OK false)
    chgCause st 15 ((chgFlag F.CHG_FLAGS.AC_LOST s).raiseAt st EV.CHG_AC_LOST 0xFF [])

/-- A cycle at the sequencer (R436, R437). -/
def acCycle (c : Nat × Nat × Bool) (b : Nat) (s : State) : State :=
  let (len, v, ok) := c
  let i := R.CHG_IN_STAT
  let s := (s.setFld i F.CHG_IN_STAT.VMIN (min 1023 (v / 2 ^ 16))).setFld i F.CHG_IN_STAT.FREQ (min 511 (1000000000 / max 1 len))
  let s := onChg (fun x => { x with vmin := v, good := if ok then x.good + 1 else 0, bad := if ok then 0 else x.bad + 1 }) s
  let s := if session s = Ch.run then
      let reg := s.fld R.CHG_IN_CFG F.CHG_IN_CFG.VIN_REG
      let imax := 5 * s.fld R.CHG_IN_CFG F.CHG_IN_CFG.IMAX * 2 ^ 16
      let l := s.chg.ilimV
      let l := if v < reg * 2 ^ 16 then l - s.fld R.CHG_IN_CFG F.CHG_IN_CFG.VRG * (reg * 2 ^ 16 - v)
        else if (reg + s.fld R.CHG_IN_CFG F.CHG_IN_CFG.VR_HYS) * 2 ^ 16 ≤ v then min (l + 5 * 2 ^ 16) imax else l
      onChg (fun x => { x with ilimV := l }) s
    else s
  if 5 ≤ s.chg.good ∧ !s.bit R.CHG_STAT F.CHG_STAT.AC_OK then
    let s := s.setBit R.CHG_STAT F.CHG_STAT.AC_OK true
    if s.fld R.CHG_CP_STAT F.CHG_CP_STAT.STATE = 2 then replug s.dt s else s
  else if 3 ≤ s.chg.bad then acLost b s
  else s

/-- What the AC monitor found reaches the sequencer at the activation's agreed checkpoint (R435, R436). -/
def acPublish (s : State) : State :=
  let rs := s.chg.acRes
  let s := onChg (fun c => { c with acRes := [] }) s
  forEach rs (fun r s =>
    let s := forEach r.cycles (fun c s => acCycle c r.b s) s
    let lowAt := if r.low then s.chg.lowAt <|> some r.b else none
    let s := onChg (fun c => { c with lowAt := lowAt }) s
    if (match lowAt with | some t => decide (t + 400000 ≤ r.b) | none => false) ||
        (match r.cross with | some t => decide (t + 5000000 ≤ r.b) | none => true) then acLost r.b s
    else s) s

/-! ### Temperature (R445) -/

/-- A `CHG_TBAT` write: with TSRC 0 it is a temperature. -/
def tbatWrite (v : Reg) (s : State) : State :=
  let s := s.setReg R.CHG_TBAT v
  if s.fld R.CHG_CFG F.CHG_CFG.TSRC = 0 then newTemp (s.sfld R.CHG_TBAT F.CHG_TBAT.T) s else s

/-- R445: no `CHG_TBAT` write within TTMO of the last one, or of the last time one was missed. -/
def tbatMissed (s : State) : State :=
  if s.fld R.CHG_CFG F.CHG_CFG.TSRC ≠ 0 then s
  else
    let s := s.until (s.chg.tbatAt + 20000000 * s.fld R.CHG_CFG F.CHG_CFG.TTMO)
    tempLost (onChg (fun c => { c with tbatAt := s.dt }) s)

def execChgTbat (e : Nat) (s : State) : Host.Outcome State Fault Refusal := .next (tbatMissed (s.tick e))

/-- R445: the battery thermistor's channel reads uv microvolts at the 100 ms evaluation. -/
def batteryNtc (uv : Nat) (s : State) : State :=
  if s.fld R.CHG_CFG F.CHG_CFG.TSRC ≠ 1 then s
  else if uv < 50000 ∨ 4050000 < uv then tempLost s
  else newTemp (ntcTemp (100 * s.fld R.CHG_NTC F.CHG_NTC.RPU * uv) (4096000 - uv) (10 * s.fld R.CHG_NTC F.CHG_NTC.RES25)
    (s.fld R.CHG_NTC F.CHG_NTC.BETA)) s

def execBatteryNtcEval (e : Nat) (uv : Nat) (s : State) : Host.Outcome State Fault Refusal := .next (batteryNtc uv (s.tick e))

/-! ### Time limits (R450) -/

/-- The wall clock's limit in ticks. -/
def clockLimit (s : State) : Nat := 3 * 60 * 200000000 * s.fld R.CHG_LIMITS F.CHG_LIMITS.TNOM

/-- The wall clock counts (R450). -/
def clockRuns (s : State) : Bool :=
  s.chg.began && (session s == Ch.run || session s == Ch.handover || session s == Ch.suspend) &&
  s.fld R.CHG_STAT F.CHG_STAT.PHASE != 4

/-- The wall clock and the time in the phase brought up to now. -/
def chgClock (s : State) : State :=
  let d := s.dt - s.chg.evalAt
  let runs := clockRuns s
  let run := session s == Ch.run
  let s := onChg (fun c => { c with evalAt := s.dt, clock := if runs then c.clock + d else c.clock,
                                     spent := if run then c.spent + d else c.spent }) s
  s.setFld R.CHG_SESSION F.CHG_SESSION.ELAPSED (min 65535 (s.chg.clock / 2000000000))

/-- R450: the wall clock reaches its limit. -/
def chgTimeout (s : State) : State :=
  let s := chgClock s
  if !clockRuns s || s.chg.causes.contains 2 || s.chg.causes.contains 3 then s
  else
    let s := chgClock (s.until (s.dt + (clockLimit s - s.chg.clock)))
    let therm := s.bit R.CHG_STAT F.CHG_STAT.THERM_LIM
    let s := if therm then (chgFlag F.CHG_FLAGS.TIMEOUT_THERMAL s).raise EV.CHG_TIMEOUT_THERMAL 0xFF []
      else (chgFlag F.CHG_FLAGS.TIMEOUT s).raise EV.CHG_TIMEOUT 0xFF []
    chgCause s.dt (if therm then 3 else 2) s

def execChgTimeout (e : Nat) (s : State) : Host.Outcome State Fault Refusal := .next (chgTimeout (s.tick e))

/-! ### The sequencer (R427, R440 to R451) -/

/-- A condition that must hold without a break: since when it has held. -/
def since (was : Option Nat) (now : Nat) (b : Bool) : Option Nat := if b then was <|> some now else none

/-- A condition has held for n ticks. -/
def heldFor (t : Option Nat) (now n : Nat) : Bool := match t with | some t => decide (t + n ≤ now) | none => false

/-- R447: what a phase waits for: its leaving condition, how long it must hold, the next phase. -/
def phaseWaits (s : State) : Bool × Nat × Nat :=
  let c := s.chg
  match s.fld R.CHG_STAT F.CHG_STAT.PHASE with
  | 0 => (decide ((s.fld R.CHG_PROF F.CHG_PROF.VPRE + 5) * 2 ^ 16 ≤ c.vbat), 2000000000, 1)
  | 1 => (decide (((zoneCV s : Int) - 20) * 2 ^ 16 ≤ 10 * c.vbat), 2000000000, 2)
  | 2 => (decide (c.ibat < s.fld R.CHG_PROF F.CHG_PROF.ITERM * 2 ^ 16 ∧ (s.fld R.CHG_PROF F.CHG_PROF.ITERM * 2 ^ 40 : Int) < c.cur),
      12000000000, 3)
  | 3 => (decide (s.fld R.CHG_PROF F.CHG_PROF.TTOP * 12000000000 ≤ c.spent), 0, 4)
  | 4 => (decide (10 * c.vbat < ((zoneCV s : Int) - 10 * s.fld R.CHG_LIMITS F.CHG_LIMITS.VRECH) * 2 ^ 16), 12000000000, 1)
  | _ => (false, 0, 7)

/-- R447 in RUN: phase transitions, precharge failure, and SP27, which has d ticks to rise by 50 A/s. -/
def chgPhases (d : Nat) (s : State) : State :=
  if session s ≠ Ch.run then s
  else
    let (b, n, next) := phaseWaits s
    let t := since s.chg.cond s.dt b
    let s := onChg (fun c => { c with cond := t }) s
    let s := if heldFor t s.dt n then chgPhase next s
      else if s.fld R.CHG_STAT F.CHG_STAT.PHASE = 0 ∧ s.fld R.CHG_LIMITS F.CHG_LIMITS.TNOM * 1200000000 ≤ s.chg.spent then
        chgCause s.dt 5 (chgFlag F.CHG_FLAGS.PRE_FAIL s)
      else s
    if session s ≠ Ch.run then s
    else
      let goal := cur27 s
      onChg (fun c => { c with cur := if goal ≤ c.cur then goal else min goal (c.cur + (d * 2 ^ 40 / 4000000 : Nat)) }) s

/-- R440: RUN may begin, the 1 s of presented C counted from tick `from_`. -/
def mayRun (s : State) (from_ : Nat) : Bool :=
  s.mode == Mode.charge && actStop s && s.bit R.CHG_STAT F.CHG_STAT.CH_OK && s.fld R.CHG_CP_STAT F.CHG_CP_STAT.STATE == 2 &&
  decide (from_ + 200000000 ≤ s.dt) && s.bit R.CHG_STAT F.CHG_STAT.AC_OK && decide (60 * 2 ^ 16 ≤ s.chg.ilim) && !chgHeld s
where
  /-- No orderly stop is in progress. -/
  actStop (s : State) : Bool := !(match s.trans with | some t => t.stop | none => false)

/-- Entry to RUN (R437, R440, R442). -/
def chgRun (s : State) : State :=
  let imax := 5 * s.fld R.CHG_IN_CFG F.CHG_IN_CFG.IMAX * 2 ^ 16
  let s := onChg (fun c => { c with ilimV := imax, began := true, cur := 0, causes := [], replug := false, lowI := Option.none,
                                     cond := Option.none, evalAt := s.dt }) s
  (chgState Ch.run (setFollow true s)).raise EV.CHG_SESSION 0xFF []

/-- The limits of R438 formed anew, with VREG and its flag and event (R437; assumption 87). -/
def chgLimits (s : State) : State :=
  let imax := 5 * s.fld R.CHG_IN_CFG F.CHG_IN_CFG.IMAX * 2 ^ 16
  let s := if session s = Ch.run then s else onChg (fun c => { c with ilimV := imax }) s
  let il := inputLimit s
  let s := onChg (fun c => { c with ilim := il, avail := availOut s il }) s
  let i := R.CHG_IN_STAT
  let vreg := session s == Ch.run && decide (s.chg.ilimV < inputSource s)
  let s := (s.setFld i F.CHG_IN_STAT.ILIM (min 1023 (il / 2 ^ 16))).setFld i F.CHG_IN_STAT.ILIM_V (min 1023 (s.chg.ilimV / 2 ^ 16))
  let s := s.setBit i F.CHG_IN_STAT.VREG vreg
  if !vreg then s
  else
    let s := chgFlag F.CHG_FLAGS.VIN_REG s
    if s.chg.vregSeen then s else (onChg (fun c => { c with vregSeen := true }) s).raise EV.CHG_VIN_REG 0xFF []

/-- The sequencer's evaluation at a checkpoint. -/
def chgSup (s : State) : State :=
  let d := s.dt - s.chg.evalAt
  let s := chgClock s
  let s := s.setBit R.CHG_STAT F.CHG_STAT.CH_OK (chOk s)
  let s := chgLimits s
  let st := session s
  let s := if st = Ch.suspend then s else s.setBit R.CHG_STAT F.CHG_STAT.THERM_LIM (thermLim s)
  let left := s.chg.inCharge && s.mode != Mode.charge
  let s := onChg (fun c => { c with inCharge := s.mode == Mode.charge }) s
  let s := if left ∧ (st = Ch.wait ∨ st = Ch.run ∨ st = Ch.handover ∨ st = Ch.suspend) then chgEnd 8 s else s
  -- causes (R441, R451)
  let s := if chgHeld s && !s.chg.causes.contains 9 then chgCause s.dt 9 s else s
  let low := since s.chg.lowI s.dt (session s == Ch.run && decide (s.chg.ilim < 10 * 2 ^ 16))
  let s := onChg (fun c => { c with lowI := low }) s
  let s := if heldFor low s.dt 200000000 then chgCause s.dt 15 s else s
  let full := decide (s.fld R.CHG_LIMITS F.CHG_LIMITS.BUDGET * 3600 * 2 ^ 16 * 200000000 ≤ s.chg.ah)
  let open_ := session s == Ch.wait || session s == Ch.run || session s == Ch.handover || session s == Ch.suspend
  let s := if full && open_ && !s.chg.causes.contains 4 then
      let s := (chgFlag F.CHG_FLAGS.BUDGET s).raise EV.CHG_BUDGET 0xFF []
      if session s = Ch.wait then chgEnd 4 s else chgCause s.dt 4 s
    else s
  -- transitions (R440, R442, R454)
  let c := s.chg
  let s := if session s = Ch.wait ∧ mayRun s c.cAt then chgRun s
    else if session s = Ch.suspend ∧ c.replug ∧ mayRun s (max c.cAt c.doneAt) then chgRun s
    else if session s = Ch.handover then
      if c.s + 4000000 ≤ s.dt then handoverDone true s
      else if c.s + 1000000 ≤ s.dt ∧ s.fld R.DCL_STAT F.DCL_STAT.DCDC_MODE = 1 ∧ s.dcl.linkAt + 200000 ≤ s.dt ∧
          heldFor s.dcl.nearAt s.dt 200000 then handoverDone false s
      else s
    else s
  chgSlots (chgPhases d s)

/-- R453: the follow regulator at a commit deadline of the DC-DC's timebase. -/
def followStep (s : State) : State :=
  if !s.dcl.follow || s.mode != Mode.charge || s.bit R.DCL_STAT F.DCL_STAT.REGEN_INH then s
  else
    let vb := dclF s R.DCL_BASE F.DCL_BASE.VBASE
    let e2 := 2 * dclF s R.DCL_DCDC_VREF F.DCL_DCDC_VREF.VREF - vlink s
    let a := s.chg.avail * 2 ^ 31
    let acc := clampI 0 a (s.chg.acc + ndiv (dclF s R.CHG_FOLLOW F.CHG_FOLLOW.KIF * e2 * 2 ^ 46) (2 * vb))
    let i := clampI 0 a (ndiv (dclF s R.CHG_FOLLOW F.CHG_FOLLOW.KPF * e2 * 2 ^ 54) (2 * vb) + acc)
    let s := onChg (fun c => { c with acc := acc }) { s with dcl := { s.dcl with sp23 := -(rshr i 31) } }
    s.setSp 23 (BitVec.ofInt 40 (ramped s s.dcl.sp23))

end Sys2Proof.Machine
end

