-- ==== Sys2Proof/Machine/Can.lean ====
section
/-! DEFINITION. The CAN FD controllers but for tunnelled packets (chapter 17): joining and leaving the bus, transmission,
reception and filters, the partner table, and the frame window. -/

namespace Sys2Proof.Machine

/-- Controller c's record. -/
def canOf (s : State) (c : Nat) : CanCtl := AMap.getD s.can.ctl c {}
/-- Storing controller c's record. -/
def setCan (c : Nat) (x : CanCtl) (s : State) : State := { s with can := { s.can with ctl := AMap.put s.can.ctl c {} x } }
/-- A field of `CAN_Cc_STAT`. -/
def canStat (s : State) (c : Nat) (f : Fld) : Nat := s.fld (R.CAN_C_STAT c) f
/-- Controller c's bit of a field of `CAN_FLAGS` set. -/
def canFlag (c : Nat) (f : Fld) (s : State) : State := s.setBitAt R.CAN_FLAGS f c true

/-! ### On the bus and off it (R592 to R595) -/

/-- The state shown, from the error counters (R594). -/
def canActive (c : Nat) (s : State) : State :=
  let p := decide (128 ≤ canStat s c F.CAN_C_STAT.TEC ∨ 128 ≤ canStat s c F.CAN_C_STAT.REC)
  s.setFld (R.CAN_C_STAT c) F.CAN_C_STAT.STATE (if p then 2 else 1)

/-- Controller c begins to integrate, unless it is bus-off (R592, R595). -/
def canJoin (c : Nat) (s : State) : State :=
  if canStat s c F.CAN_C_STAT.STATE = 3 then s else setCan c { canOf s c with integ := true } s

/-- Controller c leaves the bus; a frame in flight is pending again. -/
def canLeave (c : Nat) (s : State) : State :=
  let x := canOf s c
  let s := setCan c { x with integ := false } s
  if canStat s c F.CAN_C_STAT.STATE = 3 then s else s.setFld (R.CAN_C_STAT c) F.CAN_C_STAT.STATE 0

/-- CAN_INTEGRATED (R592): 11 consecutive recessive bits; the controller becomes error active. -/
def canIntegrated (c : Nat) (s : State) : State :=
  let x := canOf s c
  if x.integ then canActive c (setCan c { x with integ := false } s) else s

@[inherit_doc canIntegrated]
def execCanIntegrated (e : Nat) (c : Fin 3) (s : State) : Host.Outcome State Fault Refusal := .next (canIntegrated c (s.tick e))

/-- CAN_RECOVERED (R595): 128 sequences of 11 recessive bits have passed in a recovery. -/
def canRecovered (c : Nat) (s : State) : State :=
  if s.bit (R.CAN_C_STAT c) F.CAN_C_STAT.RECOVERING then
    let s := (s.setBit (R.CAN_C_STAT c) F.CAN_C_STAT.RECOVERING false).setFld (R.CAN_C_STAT c) F.CAN_C_STAT.TEC 0
    let s := s.setFld (R.CAN_C_STAT c) F.CAN_C_STAT.REC 0
    let s := s.setFld (R.CAN_C_STAT c) F.CAN_C_STAT.STATE (if s.bit (R.CAN_C_CFG c) F.CAN_C_CFG.EN then 1 else 0)
    s.raise EV.CAN_RECOVERED c []
  else s

@[inherit_doc canRecovered]
def execCanRecovered (e : Nat) (c : Fin 3) (s : State) : Host.Outcome State Fault Refusal := .next (canRecovered c (s.tick e))

/-- RECOVER (R595). -/
def canRecover (c : Nat) (s : State) : State :=
  if canStat s c F.CAN_C_STAT.STATE = 3 then s.setBit (R.CAN_C_STAT c) F.CAN_C_STAT.RECOVERING true else s

/-- An error counter rises by k (R594): EV_CAN_PASSIVE as it reaches 128. -/
def canErr (c : Nat) (f : Fld) (k : Nat) (s : State) : State :=
  let was := canStat s c f
  let s := s.setFld (R.CAN_C_STAT c) f (min 255 (was + k))
  if was < 128 ∧ 128 ≤ was + k then
    let s := if canStat s c F.CAN_C_STAT.STATE = 1 then s.setFld (R.CAN_C_STAT c) F.CAN_C_STAT.STATE 2 else s
    (canFlag c F.CAN_FLAGS.PASSIVE s).raise EV.CAN_PASSIVE c []
  else s

/-- CAN_RECEIVE_ERROR (R594): a receive error, which the standard counts as 1 or 8; `lec` as in `CAN_Cc_STAT`. -/
def canRxError (c lec : Nat) (by8 : Bool) (s : State) : State :=
  let st := canStat s c F.CAN_C_STAT.STATE
  if st = 1 ∨ st = 2 then
    canErr c F.CAN_C_STAT.REC (if by8 then 8 else 1) (s.setFld (R.CAN_C_STAT c) F.CAN_C_STAT.LEC lec)
  else s

@[inherit_doc canRxError]
def execCanReceiveError (e : Nat) (c : Fin 3) (lec : Fin 7) (by8 : Bool) (s : State) : Host.Outcome State Fault Refusal :=
  .next (canRxError c lec by8 (s.tick e))

/-! ### Frames (R589, R596) -/

/-- The data length of a DLC (R589). -/
def canLen (fdf : Bool) (dlc : Nat) : Nat :=
  if dlc ≤ 8 then dlc else if fdf then [12, 16, 20, 24, 32, 48, 64].getD (dlc - 9) 64 else 8

/-- The least DLC whose length takes n bytes. -/
def canDlc (n : Nat) : Nat := ((List.range 16).find? fun d => decide (n ≤ canLen true d)).getD 15

/-- The arbitration field of a frame, as a number whose lower value wins (R599). -/
def canKey (f : CanFrame) : Nat :=
  let r := b2n (f.rtr && !f.fdf)
  if f.ide then f.id / 2 ^ 18 * 2 ^ 21 + 2 ^ 20 + 2 ^ 19 + f.id % 2 ^ 18 * 2 + r else f.id * 2 ^ 21 + r * 2 ^ 20

/-- A frame from the words of a record (R596). -/
def canFrameOf (w : Nat → Reg) : CanFrame :=
  let w0 := w 0
  let fdf := w0.getLsbD 37
  let rtr := w0.getLsbD 34
  let dlc := (⟨32, 29⟩ : Fld).get w0
  let n := if rtr then 0 else canLen fdf dlc
  { fdf := fdf, brs := w0.getLsbD 36, esi := w0.getLsbD 35, rtr := rtr, ide := w0.getLsbD 33, dlc := dlc,
    id := (⟨28, 0⟩ : Fld).get w0, data := ((List.range 13).flatMap (fun k => regBytes (w (k + 2)))).take n }

/-- Word w of a record, from its frame, its word 1 and its start of frame (R596). -/
def canWord (f : CanFrame) (w1 sof w : Nat) : Reg :=
  if w = 0 then BitVec.ofNat 40 (b2n f.fdf * 2 ^ 37 + b2n f.brs * 2 ^ 36 + b2n f.esi * 2 ^ 35 + b2n f.rtr * 2 ^ 34 +
      b2n f.ide * 2 ^ 33 + f.dlc * 2 ^ 29 + f.id)
  else if w = 1 then BitVec.ofNat 40 w1
  else if w = 15 then BitVec.ofNat 40 sof
  else BitVec.ofNat 40 (ofLe ((f.data.drop (5 * (w - 2))).take 5))

/-- Word w of a mailbox or queue entry. -/
def boxWord (b : CanBox) (w : Nat) : Reg := canWord b.frame (b.retry * 2 ^ 35 + b.fails * 2 ^ 29 + b.status * 2 ^ 26) b.sof w

/-- Word w of a receive entry. -/
def rxWord (r : CanRx) (w : Nat) : Reg := canWord r.frame (r.filt * 2 ^ 35 + b2n r.lost * 2 ^ 34) r.sof w

/-! ### Transmission (R596 to R603) -/

/-- `TXQ_FILL` shown. -/
def canShowQ (c : Nat) (s : State) : State := s.setFld (R.CAN_C_STAT c) F.CAN_C_STAT.TXQ_FILL (canOf s c).q.length

/-- `CAN_Cc_TXREQ` as it reads: the mailboxes PENDING or IN_FLIGHT. -/
def canTxReq (s : State) (c : Nat) : Nat :=
  (canOf s c).mb.foldl (fun a p => if p.2.status = 1 ∨ p.2.status = 2 then setBitN a p.1 else a) 0

/-- The frame being composed in the buffer. -/
def canBuf (s : State) (c : Nat) : CanFrame := canFrameOf (fun w => s.reg (R.CAN_C_TXBUF c w))

/-- RETRY of the buffer. -/
def canBufRetry (s : State) (c : Nat) : Nat := (⟨39, 35⟩ : Fld).get (s.reg (R.CAN_C_TXBUF c 1))

/-- The status of a write of `CAN_Cc_LOAD` (R597, R620). -/
def canLoadStatus (s : State) (c : Nat) (v : Reg) : Nat :=
  let f := canBuf s c
  let m := F.CAN_C_LOAD.MB.get v
  if 32 < m || (!f.fdf && f.brs) || (f.fdf && f.rtr) || (f.fdf && !s.bit (R.CAN_C_CFG c) F.CAN_C_CFG.FD_EN) ||
      (!f.ide && decide (0x7FF < f.id)) || canBufRetry s c == 0 then St.badParam
  else if m = 32 then (if 32 ≤ (canOf s c).q.length then St.busy else St.ok)
  else match AMap.get? (canOf s c).mb m with
    | some b => if b.status = 1 ∨ b.status = 2 then St.busy else St.ok
    | none => St.ok

/-- CAN_LOAD (R597): the buffer is copied into a mailbox or the queue. -/
def canLoad (c : Nat) (v : Reg) (s : State) : State :=
  let x := canOf s c
  let m := F.CAN_C_LOAD.MB.get v
  let b : CanBox := { frame := canBuf s c, retry := canBufRetry s c }
  if m = 32 then canShowQ c (setCan c { x with q := x.q ++ [{ b with status := 1 }] } s)
  else setCan c { x with mb := AMap.ins x.mb m { b with status := F.CAN_C_LOAD.REQ.get v } } s

/-- Whether a write of `CAN_Cc_TXREQ` is refused (R598). -/
def canReqBad (s : State) (c : Nat) (v : Reg) : Bool :=
  (bitsOf 32 v.toNat).any fun m => match AMap.get? (canOf s c).mb m with
    | some b => b.status == 1 || b.status == 2
    | none => true

/-- CAN_TXREQ (R598). -/
def canReq (c : Nat) (v : Reg) (s : State) : State :=
  forEach (bitsOf 32 v.toNat) (fun m s =>
    let x := canOf s c
    match AMap.get? x.mb m with
    | some b => setCan c { x with mb := AMap.ins x.mb m { b with fails := 0, status := 1 } } s
    | none => s) s

/-- What stands for transmission: source, place in the queue, and frame, in the order that breaks ties (R599). -/
def canCands (x : CanCtl) : List (Nat × Nat × CanFrame) :=
  (x.mb.filter (fun p => p.2.status == 1)).map (fun p => (p.1, 0, p.2.frame)) ++
  ((x.q.zipIdx).filter (fun p => p.1.status == 1)).map (fun p => (32, p.2, p.1.frame)) ++
  x.hb.toList.map (fun b => (33, 0, b.frame)) ++
  ((x.tout.head?.bind (fun t => t.frames.head?)).toList.map fun b => (34, 0, b.frame))

/-- The first of the candidates with the least arbitration field. -/
def canBest : List (Nat × Nat × CanFrame) → Option (Nat × Nat × CanFrame)
  | [] => none
  | p :: t => match canBest t with
    | none => some p
    | some q => if canKey p.2.2 ≤ canKey q.2.2 then some p else some q

/-- A change of the frame in flight, wherever it stands. -/
def flyMap (f : CanBox → CanBox) (x : CanCtl) : CanCtl :=
  match x.fly with
  | none => x
  | some k =>
    if k < 32 then { x with mb := x.mb.map fun p => if p.1 = k then (p.1, f p.2) else p }
    else if k = 32 then { x with q := (x.q.zipIdx).map fun p => if p.2 = x.flyQ then f p.1 else p.1 }
    else if k = 33 then { x with hb := x.hb.map f }
    else match x.tout with
      | [] => x
      | t :: l => { x with tout := { t with frames := (t.frames.zipIdx).map fun p => if p.2 = 0 then f p.1 else p.1 } :: l }

/-- The frame in flight. -/
def flyBox (x : CanCtl) : Option CanBox :=
  match x.fly with
  | none => none
  | some k =>
    if k < 32 then AMap.get? x.mb k else if k = 32 then x.q[x.flyQ]?
    else if k = 33 then x.hb else x.tout.head?.bind fun t => t.frames.head?

/-- CAN_TX_START (R599, R603): at a start of frame the pending frame that would win is sent. -/
def canTxStart (c : Nat) (s : State) : State :=
  let st := canStat s c F.CAN_C_STAT.STATE
  let x := canOf s c
  let cfg := R.CAN_C_CFG c
  if (st = 1 ∨ st = 2) ∧ !x.integ ∧ x.fly = none ∧ !s.bit cfg F.CAN_C_CFG.LISTEN ∧ !s.bit cfg F.CAN_C_CFG.RESTRICTED ∧
      s.bit cfg F.CAN_C_CFG.EN then
    match canBest (canCands x) with
    | none => s
    | some (k, q, _) =>
      setCan c (flyMap (fun b => { b with status := 2, sof := s.dt % 2 ^ 40 }) { x with fly := some k, flyQ := q, cancel := false }) s
  else s

@[inherit_doc canTxStart]
def execCanTxStart (e : Nat) (c : Fin 3) (s : State) : Host.Outcome State Fault Refusal := .next (canTxStart c (s.tick e))

/-- A mailbox's bit of `CAN_Cc_TXDONE`. -/
def canDone (c m : Nat) (s : State) : State := s.setBitAt (R.CAN_C_TXDONE c) F.CAN_C_TXDONE.MB m true

/-- The frame in flight leaves its source; a mailbox keeps it with a status and its bit in `TXDONE`, a tunnel reply that
ends before its last frame is abandoned (R600, R612). -/
def canEnd (c k status : Nat) (s : State) : State :=
  let x := canOf s c
  if k < 32 then canDone c k (setCan c { flyMap (fun b => { b with status := status }) x with fly := none } s)
  else if k = 32 then canShowQ c (setCan c { x with q := ((x.q.zipIdx).filter (fun p => p.2 != x.flyQ)).map (·.1), fly := none } s)
  else if k = 33 then setCan c { x with hb := x.hbNext, hbNext := none, fly := none } s
  else
    let s := if status = 4 then s.incFld (R.CAN_C_STAT c) F.CAN_C_STAT.TUN_ERR 1 else s
    let tout := match x.tout with
      | [] => []
      | t :: l => if status = 4 then l else match t.frames with
        | [] => l
        | [_] => l
        | _ :: fs => { t with frames := fs } :: l
    setCan c { x with tout := tout, fly := none } s

/-- A failed attempt (R600, R601, R614, R619). -/
def canFailed (c k : Nat) (b : CanBox) (s : State) : State :=
  let x := canOf s c
  let fails := b.fails + 1
  if x.cancel then canEnd c k 5 (setCan c (flyMap (fun b => { b with fails := fails }) x) s)
  else if k = 33 ∧ x.hbNext.isSome then canEnd c k 4 s
  else if fails ≤ b.retry then setCan c { flyMap (fun b => { b with fails := fails, status := 1 }) x with fly := none } s
  else
    let s := canEnd c k 4 (setCan c (flyMap (fun b => { b with fails := fails }) x) s)
    if k ≤ 32 then (canFlag c F.CAN_FLAGS.TX_FAIL s).raise EV.CAN_TX_FAILED c [(1, k)] else s

/-- The controller goes bus-off (R595). -/
def canBusOff (c : Nat) (s : State) : State :=
  (canFlag c F.CAN_FLAGS.BUSOFF (s.setFld (R.CAN_C_STAT c) F.CAN_C_STAT.STATE 3)).raise EV.CAN_BUSOFF c []

/-- CAN_TX_ATTEMPT_END (R594, R595, R600): the attempt ends with success (0), a lost arbitration (1) or an error (2) of
kind `lec`, for which the standard raises the transmit counter by 8 unless one of its exceptions, `exc`, applies. -/
def canTxEnd (c res lec : Nat) (exc : Bool) (s : State) : State :=
  let x := canOf s c
  match x.fly, flyBox x with
  | some k, some b =>
    let tec := canStat s c F.CAN_C_STAT.TEC
    let s :=
      if res = 0 then canEnd c k 3 (s.setFld (R.CAN_C_STAT c) F.CAN_C_STAT.TEC (tec - 1))
      else if res = 1 then canFailed c k b s
      else
        let s := s.setFld (R.CAN_C_STAT c) F.CAN_C_STAT.LEC lec
        let s := if exc then s else canErr c F.CAN_C_STAT.TEC 8 s
        let s := if !exc && decide (255 < tec + 8) then canBusOff c s else s
        canFailed c k b s
    let st := canStat s c F.CAN_C_STAT.STATE
    if st = 1 ∨ st = 2 then
      if s.bit (R.CAN_C_CFG c) F.CAN_C_CFG.EN then canActive c s else canLeave c s
    else s
  | _, _ => s

@[inherit_doc canTxEnd]
def execCanTxAttemptEnd (e : Nat) (c res : Fin 3) (lec : Fin 7) (exc : Bool) (s : State) : Host.Outcome State Fault Refusal :=
  .next (canTxEnd c res lec exc (s.tick e))

/-- CAN_CANCEL (R601): the status and effect of a cancel of mailbox m. -/
def canCancel (c m : Nat) (s : State) : Nat × State :=
  let x := canOf s c
  match AMap.get? x.mb m with
  | some b =>
    if b.status = 1 then (St.ok, canDone c m (setCan c { x with mb := AMap.ins x.mb m { b with status := 5 } } s))
    else if b.status = 2 then (St.inFlight, setCan c { x with cancel := true } s)
    else (St.ok, s)
  | none => (St.ok, s)

/-- TXQ_FLUSH (R602). -/
def canFlush (c : Nat) (s : State) : Nat × State :=
  let x := canOf s c
  if x.fly = some 32 then
    let q := (x.q[x.flyQ]?).toList
    (St.inFlight, canShowQ c (setCan c { x with q := q, flyQ := 0, cancel := true } s))
  else (St.ok, canShowQ c (setCan c { x with q := [] } s))

/-! ### Reception (R604 to R608) -/

/-- A filter word as it stands at reset (R605). -/
def filtReset (w : Nat) : Reg := if w = 0 then 0x8000000000#40 else if w = 2 then 0xC000000000#40 else 0

/-- Word w of controller c's filters. -/
def filtWord (s : State) (c w : Nat) : Reg := AMap.getD (canOf s c).filt w (filtReset w)

/-- Word w as it stood at tick t, that of a frame's start: a write applies to the frames that start after it
(R605; assumption 89). -/
def filtAt (s : State) (c t w : Nat) : Reg :=
  (canOf s c).filtWas.foldl (fun v p => if t ≤ p.1 ∧ p.2.1 = w then p.2.2 else v) (filtWord s c w)

/-- The first filter that matches a frame with start of frame at t (R604), and whether it rejects. -/
def filtMatch (s : State) (c t : Nat) (f : CanFrame) : Option (Nat × Bool) :=
  ((List.range 32).find? fun k =>
    let w := filtAt s c t (2 * k)
    let m := (filtAt s c t (2 * k + 1)).toNat % 2 ^ 29
    w.getLsbD 39 && (w.getLsbD 38 == f.ide) && (f.id &&& m) == ((w.toNat % 2 ^ 29) &&& m)).map
    fun k => (k, (filtAt s c t (2 * k)).getLsbD 37)

/-- `FILL` of the receive queue shown. -/
def canShowRx (c : Nat) (s : State) : State := s.setFld (R.CAN_C_RXSTAT c) F.CAN_C_RXSTAT.FILL (canOf s c).rx.length

/-- A frame offered to the filters and the receive queue (R604, R606 to R608). -/
def canOffer (c : Nat) (f : CanFrame) (sof : Nat) (s : State) : State :=
  match filtMatch s c sof f with
  | none => s
  | some (_, true) => s
  | some (k, false) =>
    let x := canOf s c
    if 256 ≤ x.rx.length then
      let s := canFlag c F.CAN_FLAGS.RX_OVF (s.incFld (R.CAN_C_RXSTAT c) F.CAN_C_RXSTAT.DROPPED 1)
      let s := setCan c { canOf s c with lost := true, rxRun := true } s
      if x.rxRun then s else s.raise EV.CAN_RX_OVERFLOW c []
    else
      canShowRx c (setCan c { x with rx := x.rx ++ [{ frame := f, filt := k, lost := x.lost, sof := sof }], lost := false, rxRun := false } s)

/-- CAN_RXACK (R606). -/
def canRxAck (c n : Nat) (s : State) : State :=
  let x := canOf s c
  canShowRx c (setCan c { x with rx := x.rx.drop n } s)

/-- A frame discarded at the D2 receive FIFO (R23, R608). -/
def canFifoLost (c : Nat) (s : State) : State :=
  let x := canOf s c
  xfDiscard 5 x.fifoRun (setCan c { x with lost := true, fifoRun := true } s)

/-- The receive counter after a frame received without error, as the standard has it: one less, or a value from 119 to
127 when it stood above 127. -/
def canRxGood (c : Nat) (s : State) : State :=
  let rec_ := canStat s c F.CAN_C_STAT.REC
  let s :=
    if 127 < rec_ then let (v, s) := s.draw 8; s.setFld (R.CAN_C_STAT c) F.CAN_C_STAT.REC (119 + v % 9)
    else s.setFld (R.CAN_C_STAT c) F.CAN_C_STAT.REC (rec_ - 1)
  let st := canStat s c F.CAN_C_STAT.STATE
  if st = 1 ∨ st = 2 then canActive c s else s

/-! ### Partners (R613 to R618) -/

/-- The counts of `CAN_PT_STAT`. -/
def ptShow (s : State) : State :=
  let n := (s.can.parts.filter (fun p => p.2.up)).length
  (s.setFld R.CAN_PT_STAT F.CAN_PT_STAT.UP n).setFld R.CAN_PT_STAT F.CAN_PT_STAT.LOST (s.can.parts.length - n)

/-- Storing entry p. -/
def setPart (p : Nat) (x : Partner) (s : State) : State := ptShow { s with can := { s.can with parts := AMap.ins s.can.parts p x } }

/-- The entry of a controller and node. -/
def partOf (s : State) (c node : Nat) : Option (Nat × Partner) := s.can.parts.find? fun p => p.2.ctl == c && p.2.node == node

/-- The node of a heartbeat's identifier (R613). -/
def hbNode (s : State) (f : CanFrame) : Option Nat :=
  let b := s.fld R.CAN_HB_CFG F.CAN_HB_CFG.HB_BASE
  if !f.ide && decide (b + 1 ≤ f.id ∧ f.id ≤ b + 0xFE) then some (f.id - b) else none

/-- The LOST entry with the oldest stamp. -/
def oldestLost : List (Nat × Partner) → Option (Nat × Partner)
  | [] => none
  | p :: t => match oldestLost t with
    | none => if p.2.up then none else some p
    | some q => if !p.2.up && decide (p.2.stamp ≤ q.2.stamp) then some p else some q

/-- PARTNER_LOST (R616): no heartbeat within 3 × I + I / 4; the event is stamped with that tick. -/
def partnerLost (p : Nat) (s : State) : State :=
  match AMap.get? s.can.parts p with
  | some x =>
    if x.up then
      let t := x.stamp + x.iv * 6500000
      let s := s.until t
      (setPart p { x with up := false } s).raiseAt t EV.PARTNER_LOST x.ctl [(1, x.node)]
    else s
  | none => s

/-- A heartbeat from node n on controller c that became valid at tick t (R615, R617, R618). A partner whose time has run out by
then is lost first (R616). -/
def heartbeat (c n t : Nat) (f : CanFrame) (s : State) : State :=
  let b := fun k => (f.data.getD k 0).toNat
  let kind := b 0
  if f.rtr || decide (f.data.length < 8) || !([1, 2, 3, 4, 15].contains kind) || b 1 == 0 then
    (s.incFld R.CAN_PT_STAT F.CAN_PT_STAT.BAD 1).setBit R.CAN_FLAGS F.CAN_FLAGS.HB_BAD true
  else
    let x : Partner := { ctl := c, node := n, kind := kind, iv := b 1, serial := ofLe ((f.data.drop 2).take 4), status := b 6,
                         ctr := b 7, stamp := t }
    let s := jWrite (3 + c) .none s
    let s := match partOf s c n with
      | some (p, o) => if o.up && decide (o.stamp + o.iv * 6500000 ≤ t) then partnerLost p s else s
      | none => s
    let ok := fun (s : State) => { s with can := { s.can with fullRun := false } }
    match partOf s c n with
    | some (p, o) =>
      if o.serial ≠ x.serial ∨ o.kind ≠ x.kind then
        let s := s.raise EV.PARTNER_LOST c [(1, n)]
        (setPart p x (ok s)).raise EV.PARTNER_UP c [(1, n), (1, 1)]
      else if o.up then setPart p x (ok s)
      else (setPart p x (ok s)).raise EV.PARTNER_UP c [(1, n), (1, 0)]
    | none =>
      let free := (List.range 64).find? fun p => (AMap.get? s.can.parts p).isNone
      match free <|> (oldestLost s.can.parts).map (·.1) with
      | some p => (setPart p x (ok s)).raise EV.PARTNER_UP c [(1, n), (1, 0)]
      | none =>
        let run := s.can.fullRun
        let s := (s.incFld R.CAN_PT_STAT F.CAN_PT_STAT.FULL 1).setBit R.CAN_FLAGS F.CAN_FLAGS.PT_FULL true
        let s := { s with can := { s.can with fullRun := true } }
        if run then s else s.raise EV.PARTNER_TABLE_FULL c []

@[inherit_doc partnerLost]
def execPartnerLost (e : Nat) (p : Fin 64) (s : State) : Host.Outcome State Fault Refusal := .next (partnerLost p (s.tick e))

/-- PURGE (R618). -/
def ptPurge (s : State) : State := ptShow { s with can := { s.can with parts := s.can.parts.filter (fun p => p.2.up) } }

/-- The module's own heartbeat on controller c (R614). -/
def ownHeartbeat (s : State) (c : Nat) : CanBox :=
  let own := s.fld (R.CAN_C_CFG c) F.CAN_C_CFG.OWN
  let data := leBytes 1 3 ++ leBytes 1 (s.fld R.CAN_HB_CFG F.CAN_HB_CFG.INTERVAL) ++ leBytes 4 Config.uid.toNat ++
    leBytes 1 (s.mode + 8 * b2n s.nfault) ++ leBytes 1 s.can.hbCtr
  let f : CanFrame := { dlc := 8, id := s.fld R.CAN_HB_CFG F.CAN_HB_CFG.HB_BASE + own, data := data }
  { frame := f, retry := 31, status := 1 }

/-- HEARTBEAT_SEND (R614): an interval has passed; one still pending is replaced. -/
def heartbeatSend (s : State) : State :=
  let s := s.until (s.can.hbAt + s.fld R.CAN_HB_CFG F.CAN_HB_CFG.INTERVAL * 2000000)
  let s := { s with can := { s.can with hbCtr := (s.can.hbCtr + 1) % 256, hbAt := s.dt } }
  forEach (bitsOf 3 (s.fld R.CAN_HB_CFG F.CAN_HB_CFG.EN)) (fun c s =>
    let x := canOf s c
    let b := some (ownHeartbeat s c)
    if x.fly = some 33 then setCan c { x with hbNext := b } s else setCan c { x with hb := b } s) s

@[inherit_doc heartbeatSend]
def execHeartbeatSend (e : Nat) (s : State) : Host.Outcome State Fault Refusal :=
  let s := s.tick e
  .next (if s.boot.phase == .run && s.fld R.CAN_HB_CFG F.CAN_HB_CFG.EN != 0 then heartbeatSend s else s)

/-! ### Register rules (R590, R592, R620) -/

/-- The status of a write of `CAN_Cc_CFG` (R592, R620). -/
def canCfgStatus (s : State) (c : Nat) (v : Reg) : Nat :=
  let i := R.CAN_C_CFG c
  let own := F.CAN_C_CFG.OWN.get v
  let same := decide (F.CAN_C_CFG.EN.set v 0 = F.CAN_C_CFG.EN.set (s.reg i) 0)
  if s.bit i F.CAN_C_CFG.EN && !same then St.wrongMode
  else if own = 0 ∨ own = 255 ∨ (F.CAN_C_CFG.RESTRICTED.get v = 1 ∧ F.CAN_C_CFG.LISTEN.get v = 1) then St.badParam
  else St.ok

/-- CAN_ENABLE_WRITE (R592): a change of `EN`; a frame in progress ends first. -/
def canEnable (c : Nat) (was : Bool) (s : State) : State :=
  let on := s.bit (R.CAN_C_CFG c) F.CAN_C_CFG.EN
  if on && !was then canJoin c s
  else if was && !on && (canOf s c).fly.isNone then canLeave c s
  else s

/-- The quanta of a bit of the nominal and of the data phase, times the prescaler. -/
def nbtLen (v : Reg) : Nat := F.CAN_C_NBT.NBRP.get v * (1 + F.CAN_C_NBT.NTSEG1.get v + F.CAN_C_NBT.NTSEG2.get v)
@[inherit_doc nbtLen]
def dbtLen (v : Reg) : Nat := F.CAN_C_DBT.DBRP.get v * (1 + F.CAN_C_DBT.DTSEG1.get v + F.CAN_C_DBT.DTSEG2.get v)

/-- R590: whether a nominal and a data timing are legal together. -/
def canTimingOk (n d : Reg) : Bool :=
  let in_ := fun (x lo hi : Nat) => decide (lo ≤ x ∧ x ≤ hi)
  in_ (F.CAN_C_NBT.NBRP.get n) 1 32 && in_ (F.CAN_C_NBT.NTSEG1.get n) 2 256 && in_ (F.CAN_C_NBT.NTSEG2.get n) 2 128 &&
  in_ (F.CAN_C_NBT.NSJW.get n) 1 128 && decide (F.CAN_C_NBT.NSJW.get n ≤ F.CAN_C_NBT.NTSEG2.get n) &&
  in_ (F.CAN_C_DBT.DBRP.get d) 1 16 && in_ (F.CAN_C_DBT.DTSEG1.get d) 1 32 && in_ (F.CAN_C_DBT.DTSEG2.get d) 1 16 &&
  in_ (F.CAN_C_DBT.DSJW.get d) 1 16 && decide (F.CAN_C_DBT.DSJW.get d ≤ F.CAN_C_DBT.DTSEG2.get d) &&
  decide (80 ≤ nbtLen n ∧ 10 ≤ dbtLen d ∧ dbtLen d ≤ nbtLen n) &&
  decide (8 ≤ 1 + F.CAN_C_NBT.NTSEG1.get n + F.CAN_C_NBT.NTSEG2.get n) &&
  decide (5 ≤ 1 + F.CAN_C_DBT.DTSEG1.get d + F.CAN_C_DBT.DTSEG2.get d)

/-- A tunnel identifier stands among the heartbeats' (R620). -/
def tunIdBad (s : State) (v : Reg) : Bool :=
  let b := s.fld R.CAN_HB_CFG F.CAN_HB_CFG.HB_BASE
  let i := F.CAN_C_TUN_REQ.ID.get v
  decide (b + 1 ≤ i ∧ i ≤ b + 0xFE)

/-! ### The frame window (R621) -/

/-- The window's controller, area and word. -/
def fwinAt (s : State) : Nat × Nat × Nat :=
  (s.fld R.CAN_FWIN_ADDR F.CAN_FWIN_ADDR.CTRL, s.fld R.CAN_FWIN_ADDR F.CAN_FWIN_ADDR.AREA, s.fld R.CAN_FWIN_ADDR F.CAN_FWIN_ADDR.WORD)

/-- The words of an area. -/
def fwinSize (s : State) (c area : Nat) : Nat :=
  match area with
  | 0 => 512
  | 1 => 16 * (canOf s c).q.length
  | 2 => 16 * (canOf s c).rx.length
  | 3 => 64
  | 4 => 192
  | _ => 0

/-- An access at the present address is answered BAD_PARAM (R621, R693). -/
def fwinBad (s : State) : Bool :=
  let a := fwinAt s
  decide (fwinSize s a.1 a.2.1 ≤ a.2.2) || (decide (2 < a.1) && a.2.1 != 4)

/-- A queue entry put in its place by arbitration field, after those loaded before it. -/
def insBox (b : CanBox) : List CanBox → List CanBox
  | [] => [b]
  | x :: t => if canKey x.frame ≤ canKey b.frame then x :: insBox b t else b :: x :: t

/-- Word w of a partner entry (R621). -/
def partWord (x : Partner) (w : Nat) : Reg :=
  if w = 0 then BitVec.ofNat 40 (2 ^ 39 + b2n x.up * 2 ^ 38 + x.ctl * 2 ^ 36 + x.node * 2 ^ 28 + x.kind * 2 ^ 24 + x.iv * 2 ^ 16 +
      x.status * 2 ^ 8 + x.ctr)
  else if w = 1 then BitVec.ofNat 40 x.serial else BitVec.ofNat 40 x.stamp

/-- The word the window reads (R621); a mailbox never loaded, and a free partner entry, read 0. -/
def fwinWord (s : State) : Reg :=
  let (c, area, w) := fwinAt s
  let x := canOf s c
  match area with
  | 0 => match AMap.get? x.mb (w / 16) with | some b => boxWord b (w % 16) | none => 0
  | 1 => match (x.q.foldl (fun l b => insBox b l) [])[w / 16]? with | some b => boxWord b (w % 16) | none => 0
  | 2 => match x.rx[w / 16]? with | some r => rxWord r (w % 16) | none => 0
  | 3 => filtWord s c w
  | _ => match AMap.get? s.can.parts (w / 3) with | some p => partWord p (w % 3) | none => 0

/-- The window advances (R693). -/
def fwinStep (s : State) : State :=
  if s.bit R.CAN_FWIN_ADDR F.CAN_FWIN_ADDR.AUTOINC then
    s.setFld R.CAN_FWIN_ADDR F.CAN_FWIN_ADDR.WORD (s.fld R.CAN_FWIN_ADDR F.CAN_FWIN_ADDR.WORD + 1)
  else s

/-- A write of the window's data is answered BAD_PARAM (R621). -/
def fwinWriteBad (s : State) : Bool := fwinBad s || (fwinAt s).2.1 != 3

/-- A filter word written (R605); reserved bits are not stored. -/
def fwinWrite (v : Reg) (s : State) : State :=
  let (c, _, w) := fwinAt s
  let x := canOf s c
  let m : Reg := if w % 2 = 0 then 0xE01FFFFFFF#40 else 0x1FFFFFFF#40
  fwinStep (setCan c { x with
    filt := AMap.put x.filt w (filtReset w) (v &&& m)
    filtWas := (s.dt, w, filtWord s c w) :: x.filtWas.filter fun p => decide (s.dt < p.1 + 200000000) } s)

/-! ### Boot, reset, STANDBY (R593, R618) -/

/-- The controllers join at the end of boot: those whose `EN` is 1. -/
def canBoot (s : State) : State :=
  let s := { s with can := { s.can with hbAt := s.dt } }
  forEach [0, 1, 2] (fun c s => if s.bit (R.CAN_C_CFG c) F.CAN_C_CFG.EN then canJoin c s else s) s

/-- Every controller goes off the bus as STANDBY is entered. -/
def canStandby (s : State) : State :=
  forEach [0, 1, 2] (fun c s =>
    let x := canOf s c
    canLeave c (setCan c { flyMap (fun b => { b with status := 1 }) x with fly := none, cancel := false, tin := [] } s)) s

end Sys2Proof.Machine
end

