-- ==== Sys2Proof/Machine/Life.lean ====
section
/-! DEFINITION. Island telemetry, junction temperature and lifetime accounting (R116 to R122 of chapter 3, R256, and
chapter 14). -/

namespace Sys2Proof.Machine

/-! ### Rainflow counting and damage (R490 to R494) -/

/-- A sticky bit of `LIFE_FLAGS`. -/
def lifeFlag (f : Fld) (s : State) : State := s.setBit R.LIFE_FLAGS f true

/-- Island n's `PEAK` and `DMG` shown as its lifetime data give them. -/
def lifeShow (n : Nat) (s : State) : State :=
  let x := s.lifeOf n
  (s.setSfld (R.LIFE_I_TJ n) F.LIFE_I_TJ.PEAK x.peak).setFld (R.LIFE_I_DMG n) F.LIFE_I_DMG.DMG (x.acc / 65536)

/-- A value limited to 0 to 31, and whether it lay outside. -/
def bin32 (x : Int) : Nat × Bool := ((clampI 0 31 x).toNat, decide (x < 0 ∨ 31 < x))

/-- The damage of one half-cycle (R493). -/
def lifeDamage (s : State) (set rbin mbin : Nat) : Nat :=
  let w := (AMap.getD s.life.weight (64 * set + rbin) 0).toNat % 2 ^ 32
  let m := (AMap.getD s.life.weight (64 * set + 32 + mbin) 0).toNat % 65536
  (w * m + 2048) / 4096

/-- R494: the damage warning, once for each island until its data is cleared. -/
def lifeWarn (n : Nat) (s : State) : State :=
  let w := s.fld R.LIFE_CFG F.LIFE_CFG.DMG_WARN
  let x := s.lifeOf n
  if w != 0 && !x.warned && decide (w * 2 ^ 32 ≤ x.acc) then
    (lifeFlag F.LIFE_FLAGS.WARN (s.setLife n { x with warned := true })).raise EV.LIFE_WARN n []
  else s

/-- count(p, q, k) of R492, and the damage of its half-cycles. -/
def lifeCount (n : Nat) (p q : Int) (k : Nat) (s : State) : State :=
  let (r, c1) := bin32 ((p - q).natAbs / (8 * max 1 (s.fld R.LIFE_CFG F.LIFE_CFG.RW)) : Nat)
  let (m, c2) := bin32 (fdiv (p + q - 32 * s.sfld R.LIFE_CFG F.LIFE_CFG.MEAN0) (32 * max 1 (s.fld R.LIFE_CFG F.LIFE_CFG.MW) : Nat))
  let s := if c1 || c2 then lifeFlag F.LIFE_FLAGS.BIN_CLAMP s else s
  let x := s.lifeOf n
  let cell := 32 * m + r
  let d := lifeDamage s (s.fld (R.LIFE_I_CFG n) F.LIFE_I_CFG.WSET) r m
  let mat := AMap.put x.mat cell 0 (min (2 ^ 32 - 1) (AMap.getD x.mat cell 0 + k))
  lifeWarn n (s.setLife n { x with mat := mat, acc := min (2 ^ 56 - 1) (x.acc + k * d) })

/-- The counting of inner ranges while four points or more stand in the residue (R491); the stack is newest first. -/
def lifeInner (n : Nat) : Nat → State → State
  | 0, s => s
  | fuel + 1, s =>
    match (s.lifeOf n).stack with
    | d :: c :: b :: a :: t =>
      if (b - c).natAbs ≤ (a - b).natAbs ∧ (b - c).natAbs ≤ (c - d).natAbs then
        let s := lifeCount n b c 2 s
        lifeInner n fuel (s.setLife n { s.lifeOf n with stack := d :: a :: t })
      else s
    | _ => s

/-- push(p) of R491: a full stack first counts its oldest range as one half-cycle. -/
def lifePush (n : Nat) (p : Int) (s : State) : State :=
  let s := if (s.lifeOf n).stack.length = 64 then
      match (s.lifeOf n).stack.reverse with
      | a :: b :: _ =>
        let s := lifeFlag F.LIFE_FLAGS.RESIDUE_SPILL (lifeCount n a b 1 s)
        s.setLife n { s.lifeOf n with stack := (s.lifeOf n).stack.take 63 }
      | _ => s
    else s
  let x := s.lifeOf n
  lifeInner n 32 (s.setLife n { x with stack := p :: x.stack })

/-- A value fed to the rainflow counter (R491). -/
def lifeFeed (n : Nat) (v : Int) (s : State) : State :=
  let h : Int := s.fld R.LIFE_CFG F.LIFE_CFG.HYST * 4
  let x := s.lifeOf n
  match x.cand with
  | none => s.setLife n { x with cand := some v }
  | some c =>
    let far := decide (h < (v - c).natAbs)
    if x.dir = 0 then
      if far then
        let s := lifePush n c s
        s.setLife n { s.lifeOf n with dir := if c < v then 1 else -1, cand := some v }
      else s
    else if 0 < (v - c) * x.dir then s.setLife n { x with cand := some v }
    else if far then
      let s := lifePush n c s
      s.setLife n { s.lifeOf n with dir := -x.dir, cand := some v }
    else s

/-- TJ takes a value (R488, R489): through the filter when valid, directly when not; PEAK and the counter follow (R490). -/
def tjUpdate (n : Nat) (raw : Int) (s : State) : State :=
  let i := R.LIFE_I_TJ n
  let old := s.sfld i F.LIFE_I_TJ.TJ
  let tj := if s.bit i F.LIFE_I_TJ.VALID then old + rshr (raw - old) (s.fld (R.LIFE_I_CFG n) F.LIFE_I_CFG.FK) else raw
  let s := (s.setSfld i F.LIFE_I_TJ.TJ tj).setBit i F.LIFE_I_TJ.VALID true
  let x := s.lifeOf n
  lifeShow n (lifeFeed n tj (s.setLife n { x with peak := max x.peak tj }))

/-! ### Estimation (R483 to R490) -/

/-- A word of island n's curve area. -/
def curveWord (s : State) (n w : Nat) : Reg := AMap.getD s.life.curve (65 * n + w) 0

/-- Point (t, c) in mV. -/
def curvePt (s : State) (n t c : Nat) : Int := (curveWord s n (8 * t + c)).toNat % 65536

/-- The axes of island n's curve: IMIN, ISTEP, TMIN, TSTEP (R483). -/
def curveAxes (s : State) (n : Nat) : Nat × Nat × Int × Nat :=
  let v := curveWord s n 64
  (Fld.get ⟨39, 28⟩ v, Fld.get ⟨27, 18⟩ v, sx 8 (Fld.get ⟨17, 10⟩ v), Fld.get ⟨9, 4⟩ v)

/-- R484: the curve passes its validation. -/
def curveValid (s : State) (n : Nat) : Bool :=
  let (imin, istep, tmin, tstep) := curveAxes s n
  decide (1 ≤ imin ∧ 1 ≤ istep ∧ -55 ≤ tmin ∧ tmin ≤ 100 ∧ 1 ≤ tstep ∧ tstep ≤ 50 ∧ tmin + 7 * tstep ≤ 250) &&
    (List.range 7).all fun t => (List.range 8).all fun c =>
      decide ((tstep : Int) ≤ 2 * (curvePt s n (t + 1) c - curvePt s n t c))

/-- The newest entry of a channel in any queue stamped in the 1 ms up to an instant. -/
def newestEntry (s : State) (ch at_ : Nat) : Option QEnt :=
  (s.meas.que.flatMap fun q => q.2.ents).foldl (fun (best : Option QEnt) x =>
    if x.chan = ch ∧ x.stamp ≤ at_ ∧ at_ ≤ x.stamp + 200000 then
      match best with
      | some y => if y.stamp ≤ x.stamp then some x else best
      | none => some x
    else best) none

/-- The current of R487 at a sample instant in 2^-16 A, and whether its entry carries RANGE or REF_UNSETTLED. -/
def lifeCurrent (s : State) (n at_ : Nat) : Option (Int × Bool) :=
  (newestEntry s (s.fld (R.LIFE_I_CFG n) F.LIFE_I_CFG.CH) at_).map fun x =>
    (x.val * s.sfld (R.LIFE_I_CFG n) F.LIFE_I_CFG.SCALE, x.range || x.unset)

/-- The raw estimate of R487 from a voltage in mV and a current in 2^-16 A, in 1/16 °C, and RANGE. -/
def rawEstimate (s : State) (n : Nat) (vds i : Int) : Option (Int × Bool) :=
  let dir := s.fld (R.LIFE_I_CFG n) F.LIFE_I_CFG.DIR
  let (imin, istep, tmin, tstep) := curveAxes s n
  let num : Int := i.natAbs - (imin * 65536 : Nat)
  let den : Int := (istep * 65536 : Nat)
  if (dir = 1 ∧ i ≤ 0) ∨ (dir = 2 ∧ 0 ≤ i) ∨ num < 0 then none
  else
    let lim := decide (7 * den < num)
    let num := if lim then 7 * den else num
    let c := (min (fdiv num den) 6).toNat
    let r := num - c * den
    let v := fun (t : Nat) => curvePt s n t c * den + r * (curvePt s n t (c + 1) - curvePt s n t c)
    let vd := vds * den
    if vd < v 0 then some (16 * tmin, true)
    else if v 7 ≤ vd then some (16 * (tmin + 7 * tstep), true)
    else
      let t := ((List.range 8).filter fun t => decide (v t ≤ vd)).foldl max 0
      let d := v (t + 1) - v t
      some (16 * tmin + ndiv (16 * tstep * (t * d + (vd - v t))) d, lim)

/-- The estimator of island n at boundary b of a period of len ticks (R487 to R489). -/
def lifeEstimate (n b len : Nat) (s : State) : State :=
  let i := R.LIFE_I_TJ n
  let x := s.estOf n
  let s := if s.bit i F.LIFE_I_TJ.SRC && decide (b < x.edgeAt + 200000000) then
      (s.setBit i F.LIFE_I_TJ.SRC false).setEst n { x with lastRaw := b } else s
  let est := match x.rep with
    | some (mv, at_, bad) =>
      if s.bit (R.LIFE_I_CFG n) F.LIFE_I_CFG.EN && s.bit i F.LIFE_I_TJ.CURVE_OK && !bad && decide (b ≤ at_ + len ∧ at_ < b) then
        match lifeCurrent s n at_ with
        | some (c, false) => rawEstimate s n mv c
        | _ => none
      else none
    | none => none
  match est with
  | none => s
  | some (raw, lim) =>
    let s := (s.setBit i F.LIFE_I_TJ.RANGE lim).setBit i F.LIFE_I_TJ.SRC false
    let s := if lim then lifeFlag F.LIFE_FLAGS.RANGE s else s
    tjUpdate n raw (s.setEst n { s.estOf n with lastRaw := b })

/-- R489: 1 s without a raw estimate. A still unit turns to its NTC, another loses VALID, as does one no longer enabled. -/
def tjInvalid (n : Nat) (s : State) : State :=
  let i := R.LIFE_I_TJ n
  let en := s.bit (R.LIFE_I_CFG n) F.LIFE_I_CFG.EN
  if s.bit i F.LIFE_I_TJ.VALID && (!en || !s.bit i F.LIFE_I_TJ.SRC) then
    let s := s.until ((s.estOf n).lastRaw + 200000000)
    if en ∧ (s.estOf n).edgeAt + 200000000 ≤ s.dt then s.setBit i F.LIFE_I_TJ.SRC true
    else s.setBit i F.LIFE_I_TJ.VALID false
  else s

def execTjInvalid (e : Nat) (n : Fin 48) (s : State) : Host.Outcome State Fault Refusal := .next (tjInvalid n (s.tick e))

/-! ### Island reports (R116 to R122, R256) -/

/-- The sample instant of the island's present or last on-pulse (R116): the later of the midpoint its unit sent and the end
of blanking plus 50 ns. -/
def sampleInstant (s : State) (n : Nat) : Nat :=
  max ((s.islOf n).mid / 8) (onTick s n + s.fld (R.PROT_DSAT n) F.PROT_DSAT.TBLANK + 10)

/-- The pulse ended less than 100 ns after the sample instant, whatever ended it (R116). -/
def pulseShort (s : State) (n t : Nat) : Bool := !gateOn s n && decide ((s.islOf n).gateStep < 8 * (t + 20))

/-- The NTC of island n gives no valid temperature (R118, R121). -/
def ntcInvalid (s : State) (n : Nat) : Bool :=
  !s.bit (R.ISL_CFG n) F.ISL_CFG.NTC_EN || s.bit (R.ISL_TEL_ENV n) F.ISL_TEL_ENV.NTC_OPEN ||
    s.bit (R.ISL_TEL_ENV n) F.ISL_TEL_ENV.NTC_SHORT

/-- The island's NTC temperature in 1/16 °C. -/
def ntcT (s : State) (n : Nat) : Int := s.sfld (R.ISL_TEL_ENV n) F.ISL_TEL_ENV.NTC_T

/-- The corrected voltage of R117 and R118 in mV. -/
def vdsMv (s : State) (n code : Nat) : Int :=
  let c := R.ISL_VDS_CAL n
  let dt := if ntcInvalid s n then 0 else ntcT s n - s.sfld c F.ISL_VDS_CAL.TCAL
  if s.bit c F.ISL_VDS_CAL.VALID then
    ndiv ((2000 * (code : Int) - 1000 * (s.fld c F.ISL_VDS_CAL.OFFSET : Int)) * 16 - 10 * s.sfld c F.ISL_VDS_CAL.TC * dt) 16000
  else 2 * code

/-- R486: the thermistor has stayed within ±0.5 °C for the last 60 s. -/
def ntcStable (s : State) (n : Nat) : Bool := decide (n < 48) && !ntcInvalid s n && decide ((s.estOf n).since + 12000000000 ≤ s.dt)

/-- R486: `LIFE_CAL_CAP` after a report of the island it follows. -/
def calCap (n : Nat) (mv : Int) (t : Nat) (s : State) : State :=
  if s.fld R.LIFE_TWIN_ADDR F.LIFE_TWIN_ADDR.ISL = n then
    let i := R.LIFE_CAL_CAP
    let s := s.setFld i F.LIFE_CAL_CAP.VDS (clampI 0 8191 mv).toNat
    let s := match lifeCurrent s n t with
      | some (c, _) => s.setFld i F.LIFE_CAL_CAP.I (min 4095 (ndiv c.natAbs 65536).toNat)
      | none => s
    (s.setSfld i F.LIFE_CAL_CAP.NTC (ntcT s n)).setBit i F.LIFE_CAL_CAP.STABLE (ntcStable s n)
  else s

/-- An on-state report (R116 to R119, R256). -/
def vdsReport (n code : Nat) (s : State) : State :=
  let t := sampleInstant s n
  let s := s.until (t + 20)
  if !linkUp s n || !s.bit (R.ISL_CFG n) F.ISL_CFG.VDS_EN then s
  else
    let i := R.ISL_TEL_VDS n
    let s := s.setFld i F.ISL_TEL_VDS.STAMP t
    if pulseShort s n t then
      chopReport n 0 false false ((s.setBit i F.ISL_TEL_VDS.NO_SAMPLE true).setBit i F.ISL_TEL_VDS.NTC_INV (ntcInvalid s n))
    else
      let mv := vdsMv s n code
      let uncal := !s.bit (R.ISL_VDS_CAL n) F.ISL_VDS_CAL.VALID
      let inv := ntcInvalid s n
      let range := code == 4095
      let s := (s.setSfld i F.ISL_TEL_VDS.VDS mv).setBit i F.ISL_TEL_VDS.NO_SAMPLE false
      let s := ((s.setBit i F.ISL_TEL_VDS.UNCAL uncal).setBit i F.ISL_TEL_VDS.NTC_INV inv).setBit i F.ISL_TEL_VDS.RANGE range
      let s := if range then
          let s' := s.setBit (R.ISL_FLAGS n) F.ISL_FLAGS.VDS_RANGE true
          if (s.islOf n).vdsRun then s' else s'.raise EV.ISL_VDS_RANGE n []
        else s
      let s := s.setIsl n { s.islOf n with vdsRun := range }
      let s := s.setEst n { s.estOf n with rep := some (mv, t, uncal || range) }
      let s := calCap n mv t s
      let s := match AMap.get? s.meas.islQ n with
        | some q => xfPush (9 * 64 + n) [(q, { stamp := t, chan := 0x74, sample := unsx 16 mv, seq := n, qual := uncal || inv, range := range })] s
        | none => s
      chopReport n mv (!uncal && !inv) range s

def execIslVdsReport (e : Nat) (n : Fin 48) (code : BitVec 12) (s : State) : Host.Outcome State Fault Refusal :=
  .next (vdsReport n code.toNat (s.tick e))

/-- The NTC temperature of a code (R120): R_ntc = 10 kΩ × c / (4096 − c). -/
def envTemp (s : State) (n code : Nat) : Int :=
  ntcTemp (10000 * code) (4096 - code) (10 * s.fld (R.ISL_NTC_CFG n) F.ISL_NTC_CFG.RES25) (s.fld (R.ISL_NTC_CFG n) F.ISL_NTC_CFG.BETA)

/-- R489: a still unit's estimate follows its NTC. -/
def tjFromNtc (n : Nat) (s : State) : State :=
  let i := R.LIFE_I_TJ n
  if s.bit (R.LIFE_I_CFG n) F.LIFE_I_CFG.EN && decide ((s.estOf n).edgeAt + 200000000 ≤ s.dt) then
    let s := s.setBit i F.LIFE_I_TJ.SRC true
    if ntcInvalid s n then s.setBit i F.LIFE_I_TJ.VALID false else tjUpdate n (ntcT s n) s
  else s

/-- An environment report (R120 to R122, R256); of consecutive reports of a faulty thermistor the first raises the event
(assumption 77): the thermistor's code, VDDn − COMn and VEEn − COMn in the units of
`ISLnn_TEL_ENV`. With `NTC_EN` = 0 NTC_OPEN and NTC_SHORT read 0 and NTC_T keeps its last value (DESIGN CHOICE,
assumption 92). -/
def envReport (n code vdd vee : Nat) (s : State) : State :=
  if !linkUp s n then s
  else
    let i := R.ISL_TEL_ENV n
    let en := s.bit (R.ISL_CFG n) F.ISL_CFG.NTC_EN
    let opn := en && decide (4080 ≤ code)
    let sht := en && decide (code ≤ 16)
    let was := s.bit i F.ISL_TEL_ENV.NTC_OPEN || s.bit i F.ISL_TEL_ENV.NTC_SHORT
    let s := (s.setFld i F.ISL_TEL_ENV.VDD vdd).setFld i F.ISL_TEL_ENV.VEE vee
    let s := (s.setBit i F.ISL_TEL_ENV.NTC_OPEN opn).setBit i F.ISL_TEL_ENV.NTC_SHORT sht
    let s := if opn || sht then
        let s' := s.setBit (R.ISL_FLAGS n) F.ISL_FLAGS.NTC_FAULT true
        if was then s' else s'.raise EV.ISL_NTC n []
      else if en then s.setSfld i F.ISL_TEL_ENV.NTC_T (envTemp s n code)
      else s
    let x := s.estOf n
    let s := if 8 < (ntcT s n - x.ref).natAbs ∨ ntcInvalid s n then s.setEst n { x with ref := ntcT s n, since := s.dt } else s
    let s := match AMap.get? s.meas.islQ n with
      | some q =>
        let ent := fun (c v : Nat) (ql : Bool) => (q, ({ stamp := s.dt, chan := c, sample := v, seq := n, qual := ql } : QEnt))
        xfPush (9 * 64 + n) [ent 0x75 (unsx 16 (ntcT s n)) (opn || sht), ent 0x76 vdd false, ent 0x77 (unsx 16 (sx 12 vee)) false] s
      | none => s
    tjFromNtc n s

def execIslEnvReport (e : Nat) (n : Fin 48) (code vdd vee : BitVec 12) (s : State) : Host.Outcome State Fault Refusal :=
  .next (envReport n code.toNat vdd.toNat vee.toNat (s.tick e))

/-! ### Mirroring and restoring (R496 to R499, R630) -/

/-- A mirror begins: its snapshot is taken now. -/
def mirrorStart (kind : Nat) (s : State) : State :=
  let l := s.life
  let r : LifeRec := { gen := l.gen + 1, kind := kind, tick := s.dt, rtc := s.rtc, isl := l.isl, curve := l.curve, weight := l.weight }
  { s with life := { l with pend := some r } }.setBit R.LIFE_STAT F.LIFE_STAT.BUSY true

/-- A mirror is being written. -/
def mirrorBusy (s : State) : Bool := s.life.pend.isSome

/-- The periodic mirror at the next 10-minute point of DT; one being written is left to complete. -/
def lifeMirror (s : State) : State :=
  let s := s.until s.life.next
  let s := { s with life := { s.life with next := s.life.next + 120000000000 } }
  if mirrorBusy s then s else mirrorStart 1 s

def execLifeMirror (e : Nat) (s : State) : Host.Outcome State Fault Refusal := .next (lifeMirror (s.tick e))

/-- The mirror's write ends: written whole to the devices that work, or failed (R498, R624). -/
def mirrorDone (ok : Bool) (s : State) : State :=
  match s.life.pend with
  | none => s
  | some r =>
    let s := { s with life := { s.life with pend := none } }.setBit R.LIFE_STAT F.LIFE_STAT.BUSY false
    if ok && !(s.bit (R.STO_DEV 0) F.STO_DEV.FAILED && s.bit (R.STO_DEV 1) F.STO_DEV.FAILED) then
      let l := { s.life with gen := r.gen, slots := AMap.ins s.life.slots (r.gen % 16) r, doneAt := some s.el }
      ({ s with life := l }.setFld R.LIFE_STAT F.LIFE_STAT.GEN r.gen).setBit R.LIFE_STAT F.LIFE_STAT.STORE_OK true
    else (lifeFlag F.LIFE_FLAGS.MIRROR_FAIL s).raise EV.LIFE_MIRROR_FAIL 0xFF []

/-- The same, after which a STANDBY request that waits for it begins its own mirror (R496, R497). -/
def mirrorEnd (ok : Bool) (s : State) : State :=
  let s := mirrorDone ok s
  match s.trans with
  | some t => if t.mir = 1 then mirrorStart 2 { s with trans := some { t with mir := 2 } } else s
  | none => s

def execMirrorComplete (e : Nat) (ok : Bool) (s : State) : Host.Outcome State Fault Refusal := .next (mirrorEnd ok (s.tick e))

/-- The newest valid record (R630). -/
def lifeNewest (s : State) : Option LifeRec :=
  s.life.slots.foldl (fun (b : Option LifeRec) p => match b with | some y => if y.gen < p.2.gen then some p.2 else b | none => some p.2) none

/-- The region is loaded from a record, or starts from zero. -/
def lifeLoad (r : Option LifeRec) (s : State) : State :=
  let x := r.getD {}
  let s := { s with life := { s.life with isl := x.isl, curve := x.curve, weight := x.weight, est := [], pend := none } }
  forEach (List.range 48) lifeShow s

/-- R499: the region at boot, kept after a warm reset when it is intact. -/
def lifeRestore (keep : Bool) (s : State) : State :=
  let s := { s with life := { s.life with est := [], pend := none, doneAt := none } }
  let new := lifeNewest s
  let s := match new with
    | some r => ({ s with life := { s.life with gen := r.gen } }.setFld R.LIFE_STAT F.LIFE_STAT.GEN r.gen).setBit R.LIFE_STAT F.LIFE_STAT.STORE_OK true
    | none => s
  if keep then forEach (List.range 48) lifeShow s
  else
    let s := lifeLoad new s
    match new with
    | some r =>
      if r.kind = 2 then s
      else (lifeFlag F.LIFE_FLAGS.GAP (s.setBit R.LIFE_STAT F.LIFE_STAT.GAP true)).raise EV.LIFE_GAP 0xFF [(5, r.rtc)]
    | none => (s.setBit R.LIFE_STAT F.LIFE_STAT.GAP true).raise EV.LIFE_GAP 0xFF []

/-! ### Control and the table window (R484, R485, R495, R500, R501) -/

/-- The status of a write of `LIFE_CTRL` (R484, R496, R501). -/
def lifeCtrlStatus (s : State) (priv : Bool) (v : Reg) : Nat :=
  let clr := F.LIFE_CTRL.CLEAR.get v != 0
  let val := F.LIFE_CTRL.VALIDATE.get v != 0
  let mir := F.LIFE_CTRL.MIRROR.get v != 0
  if clr && !priv then St.denied
  else if (clr || val) && s.mode != Mode.service then St.wrongMode
  else if 48 ≤ F.LIFE_CTRL.ISL.get v then St.badParam
  else if (clr || mir) && mirrorBusy s then St.busy
  else St.ok

/-- VALIDATE (R484). -/
def curveValidate (n : Nat) (s : State) : State :=
  if curveValid s n then s.setBit (R.LIFE_I_TJ n) F.LIFE_I_TJ.CURVE_OK true
  else (lifeFlag F.LIFE_FLAGS.CURVE_FAIL (s.setBit (R.LIFE_I_TJ n) F.LIFE_I_TJ.CURVE_OK false)).raise EV.LIFE_CURVE_FAIL n []

/-- CLEAR (R501). -/
def lifeClear (n : Nat) (s : State) : State :=
  let s := lifeShow n (s.setLife n {})
  let s := mirrorStart 4 (s.setBit (R.LIFE_I_TJ n) F.LIFE_I_TJ.CURVE_OK false)
  s.raise EV.LIFE_CLEARED n []

/-- An accepted write of `LIFE_CTRL`: VALIDATE, CLEAR and MIRROR, each where its bit is 1. -/
def lifeCtrl (v : Reg) (s : State) : State :=
  let n := F.LIFE_CTRL.ISL.get v
  let s := if F.LIFE_CTRL.VALIDATE.get v != 0 then curveValidate n s else s
  let clr := F.LIFE_CTRL.CLEAR.get v != 0
  let s := if clr then lifeClear n s else s
  if F.LIFE_CTRL.MIRROR.get v != 0 && !clr then mirrorStart 3 s else s

/-- The window's present area, island or set, and word. -/
def twinAt (s : State) : Nat × Nat × Nat :=
  (s.fld R.LIFE_TWIN_ADDR F.LIFE_TWIN_ADDR.AREA, s.fld R.LIFE_TWIN_ADDR F.LIFE_TWIN_ADDR.ISL, s.fld R.LIFE_TWIN_ADDR F.LIFE_TWIN_ADDR.WORD)

/-- An access the window answers BAD_PARAM (R500). -/
def twinBad (s : State) : Bool :=
  let (a, n, w) := twinAt s
  match a with
  | 0 => decide (48 ≤ n ∨ 65 ≤ w)
  | 1 => decide (4 ≤ n ∨ 64 ≤ w)
  | 2 => decide (48 ≤ n ∨ 1024 ≤ w)
  | 3 => decide (48 ≤ n ∨ 65 ≤ w)
  | _ => true

/-- The window advances (R500, R693). -/
def twinStep (s : State) : State :=
  if s.bit R.LIFE_TWIN_ADDR F.LIFE_TWIN_ADDR.AUTOINC then
    s.setFld R.LIFE_TWIN_ADDR F.LIFE_TWIN_ADDR.WORD (s.fld R.LIFE_TWIN_ADDR F.LIFE_TWIN_ADDR.WORD + 1)
  else s

/-- The word the window reads. -/
def twinWord (s : State) : Reg :=
  let (a, n, w) := twinAt s
  match a with
  | 0 => curveWord s n w
  | 1 => AMap.getD s.life.weight (64 * n + w) 0
  | 2 => BitVec.ofNat 40 (AMap.getD (s.lifeOf n).mat w 0)
  | 3 =>
    let st := (s.lifeOf n).stack
    if w = 0 then BitVec.ofNat 40 st.length else BitVec.ofInt 40 (st.reverse.getD (w - 1) 0)
  | _ => 0

/-- A read of `LIFE_TWIN_DATA`. -/
def twinRead (s : State) : Reg × State := (twinWord s, twinStep s)

/-- The status of a write of `LIFE_TWIN_DATA` (R485, R495, R500). -/
def twinStatus (s : State) : Nat :=
  let a := (twinAt s).1
  if a == 0 && s.mode != Mode.service then St.wrongMode
  else if a == 1 && s.mode != Mode.service && s.mode != Mode.ready then St.wrongMode
  else if twinBad s || a == 2 || a == 3 then St.badParam
  else St.ok

/-- An accepted write of `LIFE_TWIN_DATA`: the defined bits of the word are stored. -/
def twinWrite (v : Reg) (s : State) : State :=
  let (a, n, w) := twinAt s
  let s := if a = 0 then
      let v := if w = 64 then v &&& (0xFFFFFFFFF0#40) else v &&& (0xFFFF#40)
      { s with life := { s.life with curve := AMap.put s.life.curve (65 * n + w) 0 v } }.setBit (R.LIFE_I_TJ n) F.LIFE_I_TJ.CURVE_OK false
    else
      let v := if w < 32 then v &&& (0xFFFFFFFF#40) else v &&& (0xFFFF#40)
      { s with life := { s.life with weight := AMap.put s.life.weight (64 * n + w) 0 v } }
  twinStep s

end Sys2Proof.Machine
end

