-- ==== Sys2Proof/Machine/Recorder.lean ====
section
/-! DEFINITION. The recorder: samples, captures and their bytes, arming and ending (R635 to R641). -/

namespace Sys2Proof.Machine

/-- The plant description does not produce a recorded channel's source (R635): a queue channel no SENSOR record names and
no island reports, or a TAP slot its graph does not write. -/
def recNoSource (s : State) (c : RecChan) : Bool :=
  match s.plant with
  | none => true
  | some p =>
    if c.src = 0 then
      !(p.sensors.any fun x => x.chan == c.chan) &&
        !(decide (0x74 ≤ c.chan) && p.units.any fun u => u.islH != 63 || u.islL != 63)
    else
      let w := gWords s (c.chan / 16)
      !((List.range (imgInst w)).any fun i => let x := instOf w i; x.ty == 0x1E && parAt w x.par == ((c.chan % 16 : Nat) : Int))

/-- The sampling interval of a channel (R635). -/
def recT (c : RecChan) : Nat := max 1 (200000000 / max 1 c.rate)

/-- The value a sample at tick t takes (R635): the newest stamped at or before t that has arrived within 400 ticks. -/
def recAt (l : List RecVal) (t : Nat) : Option RecVal :=
  l.foldl (fun a v => if v.stamp ≤ t ∧ v.arr ≤ t + 400 then
      (match a with | some b => if b.stamp ≤ v.stamp then some v else a | none => some v) else a) none

/-- The 16 bits of a sample. -/
def recSample (shift : Nat) (c : RecChan) (l : List RecVal) (t : Nat) : Nat :=
  match recAt l t with
  | none => 0
  | some v => if c.src = 0 then v.val % 65536 else unsx 16 (clampI (-32768) 32767 (rshr (sx 40 v.val) (16 + shift)))

/-- The channels of a capture: those of a capture still being recorded come from the live history. -/
def capChans (s : State) (c : Capture) : List (RecChan × Bool × List RecVal) :=
  if (match s.rcd.cur with | some d => d.num == c.num | none => false) then
    (match s.plant with | some p => p.recs | none => []).map fun r => (r, recNoSource s r, AMap.getD s.rcd.hist (recKey r.src r.chan) [])
  else c.chans

/-- Up to which tick samples have been written: all of a COMPLETE capture, otherwise those whose 400 ticks have passed by
the capture's end, or by now while it is recorded. -/
def capLimit (s : State) (c : Capture) : Nat :=
  if (match s.rcd.cur with | some d => d.num == c.num | none => false) then s.dt - 400
  else if c.st = 1 then c.t + c.post else min (c.t + c.post) (c.endT - 400)

/-- The first multiple of a channel's T in the window, and the number of them (R640). -/
def capSpan (c : Capture) (r : RecChan) : Nat × Nat :=
  let T := recT r
  let a := (c.t - c.pre + T - 1) / T
  (a, (c.t + c.post + T - 1) / T - a)

/-- The data length in bytes. -/
def capLen (s : State) (c : Capture) : Nat := 2 * ((capChans s c).map fun r => (capSpan c r.1).2).foldl (· + ·) 0

/-- A channel's descriptor (R640). -/
def capDesc (c : Capture) (r : RecChan × Bool × List RecVal) : List Byte :=
  leBytes 1 (r.1.src + 128 * b2n r.2.1) ++ leBytes 1 r.1.chan ++ leBytes 3 r.1.rate ++ leBytes 1 0 ++ leBytes 4 (recT r.1) ++
    leBytes 4 (capSpan c r.1).2 ++ leBytes 2 0

/-- Header bytes 0 to 63. -/
def capHead (s : State) (c : Capture) : List Byte :=
  leBytes 4 c.num ++ leBytes 1 c.st ++ leBytes 1 (capChans s c).length ++ leBytes 1 c.kind ++ leBytes 1 c.shift ++ leBytes 8 c.t ++
    leBytes 2 c.code ++ leBytes 2 0 ++ leBytes 4 (capLen s c) ++ leBytes 4 c.pre ++ leBytes 4 c.post ++ leBytes 5 c.ident ++
    List.replicate 27 0

/-- The 4,096 bytes before the data. -/
def capFront (s : State) (c : Capture) : List Byte :=
  let l := capHead s c ++ (capChans s c).flatMap (capDesc c)
  let l := l ++ List.replicate (4092 - l.length) 0
  l ++ leBytes 4 (crc32c l)

/-- One data byte at position p of the data. -/
def capData (s : State) (c : Capture) (p : Nat) : List (RecChan × Bool × List RecVal) → Nat → Byte
  | [], _ => 0
  | r :: t, base =>
    let (a, n) := capSpan c r.1
    if p < base + 2 * n then
      let tick := (a + (p - base) / 2) * recT r.1
      if tick < capLimit s c then BitVec.ofNat 8 (recSample c.shift r.1 r.2.2 tick / 256 ^ ((p - base) % 2))
      else Config.slotByte c.slot (4096 + p)
    else capData s c p t (base + 2 * n)

/-- The end of the last byte written. -/
def capEnd (s : State) (c : Capture) : Nat :=
  let l := capChans s c
  ((List.range l.length).map fun k =>
    match l[k]? with
    | some r =>
      let base := 2 * (((l.take k).map fun x => (capSpan c x.1).2).foldl (· + ·) 0)
      let (a, n) := capSpan c r.1
      let w := min n ((capLimit s c + recT r.1 - 1) / recT r.1 - a)
      if w = 0 then 4096 else 4096 + base + 2 * w
    | none => 4096).foldl max 4096

/-- The bytes at an offset of a capture's slot, ending at the last byte written (R641). -/
def capBytes (s : State) (c : Capture) (off len : Nat) : List Byte :=
  let front := if off < 4096 then capFront s c else []
  let l := capChans s c
  (List.range (min len (capEnd s c - off))).map fun k =>
    if off + k < 4096 then front.getD (off + k) 0 else capData s c (off + k - 4096) l 0

/-- Of a channel's values the newest, which the next sample still takes (R635). -/
def recNewest (l : List RecVal) : List RecVal :=
  (l.foldl (fun a v => match a with | some b => if b.stamp ≤ v.stamp then some v else a | none => some v) none).toList

/-- Re-arming: the history is emptied and its depth starts again (R636); a sample after that still takes the newest value
stamped before it (R635). -/
def recArm (s : State) : State :=
  let on := s.bit R.STO_REC_CFG F.STO_REC_CFG.EN
  let s := { s with rcd := { s.rcd with hist := s.rcd.hist.map (fun (p : Nat × List RecVal) => (p.1, recNewest p.2)), armedAt := s.dt } }
  s.setFld R.STO_REC_STAT F.STO_REC_STAT.STATE (b2n on)

/-- The capture under way ends now with a header state (R638, R639, R33): 1 COMPLETE, 2 PARTIAL, 3 DAMAGED; the state 0
leaves the header as a reset finds it. -/
def recEnd (st : Nat) (s : State) : State :=
  match s.rcd.cur with
  | none => s
  | some c =>
    let d : Capture := { c with st := st, endT := s.dt, chans := capChans s c }
    let s := { s with rcd := { s.rcd with cur := none, slots := AMap.ins s.rcd.slots c.slot d } }
    if st = 0 then s
    else
      let s := recArm s
      let s := if st = 2 then s.setBit R.STO_FLAGS F.STO_FLAGS.REC_PARTIAL true else s
      s.raise EV.REC_DONE 0xFF []

/-- R636, R639: a plant description is accepted. -/
def recAccepted (s : State) : State := recArm (recEnd 2 s)

/-- R638: the window has closed and every sample is written. -/
def recDone (s : State) : State :=
  match s.rcd.cur with
  | none => s
  | some c => recEnd 1 (s.until (c.t + c.post + 400))

def execRecDone (e : Nat) (s : State) : Host.Outcome State Fault Refusal := .next (recDone (s.tick e))

/-- A value of `STO_REC_CFG` put in force (R636, R639). -/
def recEnable (old : Reg) (s : State) : State :=
  let was := F.STO_REC_CFG.EN.get old = 1
  let on := s.bit R.STO_REC_CFG F.STO_REC_CFG.EN
  if on && !was then recArm s
  else if was && !on then (recEnd 2 s).setFld R.STO_REC_STAT F.STO_REC_STAT.STATE 0
  else s

/-- `PRE_FILL` in milliseconds (R636). -/
def recFill (s : State) : Nat :=
  match s.fld R.STO_REC_STAT F.STO_REC_STAT.STATE, s.rcd.cur with
  | 1, _ => min 500 ((s.dt - s.rcd.armedAt) / 200000)
  | 2, some c => c.pre / 200000
  | _, _ => 0

/-- REC_TRIGGER (R641): taken while ARMED; any other trigger is counted as missed. -/
def recTrigger (s : State) : Reply × State :=
  if s.mode = Mode.standby then (⟨St.wrongMode, []⟩, s)
  else if s.fld R.STO_REC_STAT F.STO_REC_STAT.STATE = 1 then
    let s := recStart 2 0 s.dt s
    (⟨St.ok, leBytes 4 s.rcd.lastNum⟩, s.raise EV.REC_TRIGGERED 0xFF [])
  else
    let first := !s.rcd.missRun
    let s := (s.incFld R.STO_REC_STAT F.STO_REC_STAT.MISSED 1).setBit R.STO_FLAGS F.STO_FLAGS.REC_MISSED true
    let s := { s with rcd := { s.rcd with missRun := true } }
    (⟨St.wrongMode, []⟩, if first then s.raise EV.REC_MISSED 0xFF [] else s)

/-- The captures present on devices that work (R624), by rising number. -/
def captures (s : State) : List Capture :=
  let l := s.rcd.slots.filter fun p => !s.bit (R.STO_DEV (p.1 % 2)) F.STO_DEV.FAILED
  (sortNat (l.map fun p => p.2.num)).filterMap fun n => (l.find? fun p => p.2.num == n).map (·.2)

/-- What boot finds in the recorder's slots: the highest capture number, and the slot that holds it (R638, R640). -/
def recFound (s : State) : State :=
  match (captures s).getLast? with
  | some c => { s with rcd := { s.rcd with lastNum := c.num, lastSlot := some c.slot } }
  | none => { s with rcd := { s.rcd with lastNum := 0, lastSlot := none } }

/-- The recorder's state as `STO_REC_STAT` shows it: in STANDBY it is not ARMED (R636). -/
def recShown (s : State) (v : Reg) : Reg :=
  F.STO_REC_STAT.PRE_FILL.set (if s.mode = Mode.standby then F.STO_REC_STAT.STATE.set v 0 else v)
    (if s.mode = Mode.standby then 0 else recFill s)

/-- REC_LIST (R641). -/
def recList (s : State) (first count : Nat) : Reply :=
  if s.mode = Mode.standby then ⟨St.wrongMode, []⟩
  else if count < 1 ∨ 64 < count then ⟨St.badParam, []⟩
  else ⟨St.ok, (((captures s).filter fun c => decide (first ≤ c.num)).take count).flatMap fun c => (capHead s c).take 32⟩

/-- REC_READ (R641). -/
def recRead (s : State) (num off len : Nat) : Reply :=
  if s.mode = Mode.standby then ⟨St.wrongMode, []⟩
  else match (captures s).find? (fun c => c.num == num) with
  | some c => if len < 1 ∨ 4096 < len then ⟨St.badParam, []⟩ else ⟨St.ok, capBytes s c off len⟩
  | none => ⟨St.badParam, []⟩

end Sys2Proof.Machine
end

