-- ==== Sys2Proof/Machine/PlantParse.lean ====
section
/-! DEFINITION. The plant description: reading its words, the checks of R339 in their order, and the decisions of R337
and R338 (chapter 9). -/

namespace Sys2Proof.Machine

/-- A refusal (R339): code, record number, subject, NEED and HAVE. -/
structure PErr where
  code : Nat
  item : Nat := 0
  subject : Nat := 0
  need : Nat := 0
  have_ : Nat := 0
deriving DecidableEq, Repr

/-- The first refusal of a list of checks. -/
def firstErr (l : List (Option PErr)) : Option PErr := (l.filterMap id).head?

/-- A check that refuses where its condition is false. -/
def need (b : Bool) (e : PErr) : Option PErr := if b then none else some e

/-- One record: its number, TYPE, its body, and where the body stands among the words. -/
structure PRec where
  item : Nat
  ty : Nat
  body : List Reg
  pos : Nat
deriving DecidableEq, Repr

/-- A field of a word. -/
def wf (hi lo : Nat) (v : Reg) : Nat := (⟨hi, lo⟩ : Fld).get v

/-- The LEN a record may have (R331). -/
def lenOk (ty len : Nat) : Bool :=
  match ty with
  | 1 => len == 2
  | 2 => len == 1
  | 3 => len == 2
  | 4 => len == 1
  | 5 => decide (5 ≤ len)
  | 6 => decide (1 ≤ len ∧ len ≤ 64)
  | _ => false

/-- The records after the header: ascending TYPE, END last (R330, R331). -/
def readRecs : Nat → Nat → Nat → Nat → List Reg → List PRec → Option PErr × List PRec
  | 0, _, item, _, _, acc => (some { code := 1, item := item }, acc)
  | _ + 1, _, item, _, [], acc => (some { code := 1, item := item }, acc)
  | n + 1, pos, item, last, h :: t, acc =>
    let ty := wf 39 32 h
    let len := wf 31 16 h
    let bad := (some ({ code := 1, item := item } : PErr), acc)
    if wf 15 0 h ≠ 0 ∨ ty < last then bad
    else if ty = 0xFF then (if len = 0 ∧ t.isEmpty then (none, acc.reverse) else bad)
    else if !lenOk ty len || t.length < len then bad
    else readRecs n (pos + 1 + len) (item + 1) ty (t.drop len) (⟨item, ty, t.take len, pos + 1⟩ :: acc)

/-- The header's check (R330). -/
def headOk (ws : List Reg) : Bool :=
  let h := fun k => ws.getD k 0
  decide (5 ≤ ws.length ∧ ws.length ≤ 104448) && wf 39 32 (h 0) == 1 && wf 31 0 (h 0) == ws.length &&
    wf 39 32 (h 1) == 0 && (h 1).toNat == crcWords (ws.eraseIdx 1) && h 3 == 0

/-- The records of a description, by kind. -/
structure Desc where
  timings : List (Nat × TimingRec) := []
  convs : List (Nat × ConvRec) := []
  units : List (Nat × UnitRec) := []
  sensors : List (Nat × SensorRec) := []
  graphs : List (Nat × GraphRec) := []
  recs : List (Nat × RecChan) := []

/-- The records read into their kinds. -/
def descOf (l : List PRec) : Desc :=
  l.foldl (fun d r =>
    let w := r.body.getD 0 0
    let v := r.body.getD 1 0
    match r.ty with
    | 1 => { d with timings := d.timings ++ [(r.item, ⟨wf 39 37 w, wf 36 35 w, wf 34 33 w, wf 32 30 w, wf 29 27 w, wf 26 9 w, wf 30 0 v⟩)] }
    | 2 => { d with convs := d.convs ++ [(r.item, ⟨wf 39 35 w, wf 34 32 w, wf 31 24 w, wf 23 23 w == 1, wf 22 20 w, wf 19 19 w⟩)] }
    | 3 => { d with units := d.units ++ [(r.item, ⟨wf 39 34 w, wf 33 29 w, wf 28 27 w, wf 26 21 w, wf 20 15 w, wf 14 10 w, wf 15 0 v⟩)] }
    | 4 => { d with sensors := d.sensors ++ [(r.item, ⟨wf 39 33 w, wf 32 28 w, wf 27 26 w, wf 25 24 w, wf 23 21 w, wf 20 18 w, wf 17 0 w⟩)] }
    | 5 => { d with graphs := d.graphs ++ [(r.item, ⟨wf 39 37 w, wf 31 0 w, r.pos + 1, r.body.length - 1⟩)] }
    | _ => { d with recs := d.recs ++ r.body.map fun x => (r.item, ⟨wf 39 38 x, wf 37 31 x, wf 30 14 x⟩) }) {}

/-- The reserved bits of a record are 0. -/
def resOk (r : PRec) : Bool :=
  let w := r.body.getD 0 0
  let v := r.body.getD 1 0
  match r.ty with
  | 1 => wf 8 0 w == 0 && wf 39 31 v == 0
  | 2 => wf 18 0 w == 0
  | 3 => wf 9 0 w == 0 && wf 39 16 v == 0
  | 5 => wf 36 32 w == 0
  | 6 => r.body.all fun x => wf 13 0 x == 0
  | _ => true

/-- The elements of a list that stand before a position, for checks of repetition. -/
def before {α : Type} (l : List α) (k : Nat) : List α := l.take k

/-- Check 0x01 of one record against those before it and the declarations. -/
def recFormat (ds : Desc) (earlier : List PRec) (r : PRec) : Option PErr :=
  let prev := descOf earlier
  let own := descOf [r]
  let group := fun (g : Nat) => ds.timings.any fun t => t.2.group == g
  let conv := fun (c : Nat) => ds.convs.any fun x => x.2.index == c
  let e := fun (sub : Nat) => ({ code := 1, item := r.item, subject := sub } : PErr)
  match own.timings, own.convs, own.units, own.sensors, own.graphs with
  | [(_, t)], _, _, _, _ =>
    need (resOk r && decide (t.group ≤ 5 ∧ t.mode ≠ 3 ∧ t.src ≠ 3) && !(prev.timings.any fun x => x.2.group == t.group) &&
      (t.src != 1 || group t.srcGroup)) (e t.group)
  | _, [(_, c)], _, _, _ =>
    need (resOk r && decide (c.kind ≠ 7) && group c.group && !(prev.convs.any fun x => x.2.index == c.index) &&
      (if c.kind = 0 then !(prev.convs.any fun x => x.2.kind == 0 && x.2.sel == c.sel) else c.sel == 0)) (e c.index)
  | _, _, [(_, u)], _, _ =>
    let islOk := fun (n : Nat) => decide (n < 48 ∨ n = 63)
    need (resOk r && decide (u.hb ≤ 32 ∧ u.mode ≠ 3 ∧ (u.phs < 24 ∨ u.phs = 31)) && islOk u.islH && islOk u.islL && conv u.conv &&
      !(prev.units.any fun x => x.2.hb == u.hb) && (decide (u.hb < 24) || (u.islH == 63 && u.islL == 63))) (e u.hb)
  | _, _, _, [(_, x)], _ => need (resOk r && decide (x.mode ≠ 0) && conv x.conv) (e x.conv)
  | _, _, _, _, [(_, g)] =>
    need (resOk r && !(prev.graphs.any fun x => x.2.g == g.g) && (bitsOf 32 g.convs).all conv) (e g.g)
  | _, _, _, _, _ => need (resOk r && own.recs.all fun x => decide (x.2.src ≤ 1 ∧ 1 ≤ x.2.rate)) (e 0)

/-- Check 0x01 of the records. -/
def checkFormat (l : List PRec) : Option PErr :=
  let ds := descOf l
  firstErr ((List.range l.length).map fun k => match l[k]? with | some r => recFormat ds (before l k) r | none => none)

/-! ### Graph images (R266 to R270) -/

/-- The instances of an image. -/
def insts (w : List Reg) : List Inst := (List.range (imgInst w)).map (instOf w)

/-- One instance's record is well made (R268 to R270). -/
def instOk (w : List Reg) (i : Nat) : Bool :=
  let x := instOf w i
  let refOk := fun (r : Nat) => r == 0x1FFF || (decide (r < 0x1000) && decide (r / 4 < imgInst w) &&
    decide (r % 4 < (blockShape (instOf w (r / 4)).ty).2.1) && (decide (r / 4 < i) || (instOf w (r / 4)).ty == 0x09))
  wf 2 0 (w.getD (4 + 3 * i) 0) == 0 && wf 39 39 (w.getD (5 + 3 * i) 0) == 0 && wf 39 39 (w.getD (6 + 3 * i) 0) == 0 &&
    x.refs.all refOk && decide (x.par + parCount w x ≤ imgPar w) && decide (x.sta + stCount x.ty ≤ imgSt w) &&
    (paramBad x.ty (instPars w x)).isNone

/-- No number stands twice. -/
def noDup (l : List Nat) : Bool := decide l.Nodup

/-- A graph image is well made (R266 to R270, R289). -/
def graphOk (w : List Reg) : Bool :=
  let n := imgInst w
  let l := insts w
  wf 39 32 (w.getD 0 0) == 1 && wf 20 0 (w.getD 0 0) == 0 && wf 39 26 (w.getD 1 0) == 0 && wf 39 32 (w.getD 2 0) == 0 &&
    (w.getD 2 0).toNat == crcWords (w.eraseIdx 2) && decide (1 ≤ n ∧ n ≤ 1024) &&
    w.length == 4 + 3 * n + imgPar w + imgSt w && decide (4 + 7 * n + imgPar w + 2 * imgSt w ≤ 12800) &&
    (List.range n).all (instOk w) &&
    noDup (l.flatMap fun x => (List.range (stCount x.ty)).map fun k => x.sta + k) &&
    noDup ((l.filter fun x => x.ty == 0x1E).map fun x => (parAt w x.par).toNat) &&
    noDup ((l.filter fun x => x.ty == 0x1B).map fun x => (parAt w x.par).toNat % 64)

/-- The words of a graph record's image. -/
def imgOf (ws : List Reg) (g : GraphRec) : List Reg := (ws.drop g.pos).take g.len

/-- The first parameter of the instances of a type in an image. -/
def firstPars (w : List Reg) (ty : Nat) : List Nat := ((insts w).filter fun x => x.ty == ty).map fun x => (parAt w x.par).toNat

/-- Check 0x02: every image, and no unit written by two PWMOUTs (R266). -/
def checkGraphs (ws : List Reg) (ds : Desc) : Option PErr :=
  firstErr ((List.range ds.graphs.length).map fun k =>
    match ds.graphs[k]? with
    | none => none
    | some (item, g) =>
      let w := imgOf ws g
      let mine := (firstPars w 0x1B).map (· % 64)
      let others := (before ds.graphs k).flatMap fun x => (firstPars (imgOf ws x.2) 0x1B).map (· % 64)
      need (graphOk w && !(mine.any others.contains)) { code := 2, item := item, subject := g.g })

/-! ### Wiring, channels, binding, sync, slots -/

/-- The islands a unit names. -/
def unitIsls (u : UnitRec) : List Nat := [u.islH, u.islL].filter (· != 63)

/-- The KIND of a converter of the description. -/
def descKind (ds : Desc) (c : Nat) : Nat := match ds.convs.find? (fun x => x.2.index == c) with | some x => x.2.kind | none => 7

/-- The GROUP of a converter. -/
def descGroup (ds : Desc) (c : Nat) : Nat := match ds.convs.find? (fun x => x.2.index == c) with | some x => x.2.group | none => 7

/-- The actuator whose units a converter of KIND 5 has, all complementary (R460): 0 shift, 1 clutch, 2 park lock. -/
def actOf (ds : Desc) (c : Nat) : Option Nat :=
  let us := ds.units.filter fun u => u.2.conv == c
  let hbs := sortNat (us.map fun u => u.2.hb)
  if us.all fun u => u.2.mode == 0 then (List.range 3).find? fun a => hbs == [24 + 3 * a, 25 + 3 * a, 26 + 3 * a] else none

/-- Check 0x03 (R87, R89, R460). -/
def checkWiring (ds : Desc) : Option PErr :=
  firstErr ((ds.convs.map fun c =>
      need (c.2.kind != 5 || (actOf ds c.2.index).isSome) { code := 3, item := c.1, subject := c.2.index }) ++
    (List.range ds.units.length).map fun k =>
    match ds.units[k]? with
    | none => none
    | some (item, u) =>
      let isls := unitIsls u
      let earlier := before ds.units k
      let used := earlier.flatMap fun x => unitIsls x.2
      let phs := earlier.map fun x => x.2.phs
      need (noDup isls && !(isls.any used.contains) && (u.phs == 31 || !phs.contains u.phs) &&
        (u.mode != 2 || descKind ds u.conv == 2) &&
        (decide (24 ≤ u.hb) || decide ((if u.mode = 1 then 1 else 2) ≤ isls.length)))
        { code := 3, item := item, subject := u.hb })

/-- A channel code that no record may name (R214). -/
def chanReserved (c : Nat) : Bool := decide ((0x5C ≤ c ∧ c < 0x60) ∨ 0x78 ≤ c)

/-- The graph that reads a converter's sensors: the lowest that serves it. -/
def readerOf (ds : Desc) (c : Nat) : Option Nat :=
  (sortNat ((ds.graphs.filter fun g => g.2.convs.testBit c).map fun g => g.2.g)).head?

/-- The graph holds an EXTIN of the pedal (R309). -/
def hasPedal (ws : List Reg) (g : GraphRec) : Bool := (firstPars (imgOf ws g) 0x1A).contains 0x81

/-- Check 0x04 (R214, R309): a SENSOR, RECORDER or GRAPH record names no reserved channel, a graph's by a QIN; position and
phase-sense channels are converted by slots only (R231, R257). -/
def checkChannel (ws : List Reg) (chA chB : Nat) (ds : Desc) : Option PErr :=
  firstErr ((ds.sensors.map fun x =>
      need (!chanReserved x.2.chan && (decide (x.2.chan < 0x40 ∨ (0x58 ≤ x.2.chan ∧ x.2.chan < 0x5C) ∨ 0x64 ≤ x.2.chan) || x.2.mode == 1))
        { code := 4, item := x.1, subject := x.2.conv }) ++
    (ds.recs.map fun r => need (r.2.src != 0 || !chanReserved r.2.chan) { code := 4, item := r.1 }) ++
    (ds.graphs.map fun g =>
      let has := fun (c : Nat) => ds.sensors.any fun x => x.2.chan == c && readerOf ds x.2.conv == some g.2.g
      need ((firstPars (imgOf ws g.2) 0x19).all (fun c => !chanReserved (c / 32 % 128)) && (!hasPedal ws g.2 || (has chA && has chB))) { code := 4, item := g.1, subject := g.2.g }))

/-- The timing group of a graph: that of its converters. -/
def graphGroup (ds : Desc) (g : GraphRec) : Option Nat :=
  match (bitsOf 32 g.convs).map (descGroup ds) with
  | a :: t => if t.all (· == a) then some a else none
  | [] => none

/-- The EXTIN sources that a graph must read for a converter it serves (R404, R429, R463). -/
def extNeeds (ds : Desc) (c : Nat) : List Nat :=
  match descKind ds c with
  | 0 => [0x11]
  | 1 => [0x12]
  | 3 => [0x19]
  | 4 => [0x1A]
  | 5 => match actOf ds c with | some a => [0x22 + 8 * a, 0x23 + 8 * a] | none => []
  | _ => []

/-- Check 0x05 (R286, R404, R406, R429, R463). -/
def checkBinding (ws : List Reg) (ds : Desc) : Option PErr :=
  firstErr ((ds.convs.map fun c =>
      let us := ds.units.filter fun u => u.2.conv == c.2.index
      let alone := (ds.convs.filter fun x => x.2.group == c.2.group).length == 1
      let served := ds.graphs.any fun g => g.2.convs.testBit c.2.index
      need (!us.isEmpty && (c.2.kind != 2 || (alone && !served && us.all fun u => u.2.mode == 2)))
        { code := 5, item := c.1, subject := c.2.index }) ++
    (ds.graphs.map fun g =>
      let grp := graphGroup ds g.2
      let unitOk := fun (k : Nat) => match ds.units.find? (fun u => u.2.hb == k) with
        | some u => grp == some (descGroup ds u.2.conv)
        | none => false
      let srcs := firstPars (imgOf ws g.2) 0x1A
      need (grp.isSome && ((firstPars (imgOf ws g.2) 0x1B).map (· % 64)).all unitOk &&
        ((bitsOf 32 g.2.convs).flatMap (extNeeds ds)).all srcs.contains) { code := 5, item := g.1, subject := g.2.g }))

/-- A group and its chain followers, in order. -/
def chainFrom (ts : List TimingRec) : Nat → Nat → List Nat
  | 0, g => [g]
  | n + 1, g => g :: (match ts.find? (fun t => t.src == 1 && t.srcGroup == g) with | some t => chainFrom ts n t.group | none => [])

/-- R337 row 1: the groups in the order of their timebases. -/
def tbOrder (ts : List TimingRec) : List Nat :=
  (sortNat ((ts.filter fun t => t.src != 1).map (·.group))).flatMap (chainFrom ts 6)

/-- The timebase of a group. -/
def tbOfGroup (ts : List TimingRec) (g : Nat) : Nat := (tbOrder ts).findIdx (· == g)

/-- The period of a group. -/
def periodOf (ds : Desc) (g : Nat) : Nat := match ds.timings.find? (fun t => t.2.group == g) with | some t => t.2.p | none => 4000

/-- Check 0x06 (R167, R203). A group's second chain follower, and a group of a loop, have no place in `tbOrder`. -/
def checkSync (ds : Desc) : Option PErr :=
  let ts := ds.timings.map (·.2)
  firstErr (ds.timings.map fun x =>
    let t := x.2
    let src := periodOf ds t.srcGroup
    need (decide (500 ≤ t.p ∧ t.p ≤ 200000) && (t.mode != 2 || t.p % 2 == 0) &&
      (t.src != 1 || (decide (src % 2 ^ t.div = 0) && t.p == src / 2 ^ t.div)) && (tbOrder ts).contains t.group)
      { code := 6, item := x.1, subject := t.group })

/-- Check 0x07 (R290, R304, R309). -/
def checkSlots (ws : List Reg) (ds : Desc) : Option PErr :=
  let writers := ds.graphs.flatMap fun g => (firstPars (imgOf ws g.2) 0x1F).map fun h => (h, g)
  let pedals := ds.graphs.flatMap fun g => ((firstPars (imgOf ws g.2) 0x1A).filter (· == 0x81)).map fun _ => g
  firstErr ((List.range writers.length).map (fun k =>
      match writers[k]? with
      | some (h, g) => need (!((before writers k).any fun x => x.1 == h)) { code := 7, item := g.1, subject := g.2.g }
      | none => none) ++
    ds.graphs.map (fun g =>
      need ((firstPars (imgOf ws g.2) 0x1A).all fun src =>
        decide (src < 0x40 ∨ 0x80 ≤ src) || writers.all fun x => x.1 + 0x40 != src || graphGroup ds x.2.2 == graphGroup ds g.2)
        { code := 7, item := g.1, subject := g.2.g }) ++
    (pedals.drop 1).map (fun g => some { code := 7, item := g.1, subject := g.2.g }))

/-! ### Decisions (R337) -/

/-- What an ADC is placed to do: its mode, its converters' group, its sensors (one, or the slots of a sequence). -/
structure AdcPlan where
  mode : Nat
  group : Nat
  sens : List SensorRec

/-- The sensors that an ADC serves. -/
def adcSensor (x : SensorRec) : Bool := decide (x.chan < 0x64)

/-- A sample sensor joins the sequence of its group, AT and EVERY, or begins one. -/
def seqAdd (ds : Desc) (l : List AdcPlan) (x : SensorRec) : List AdcPlan :=
  let grp := descGroup ds x.conv
  let same := fun (a : AdcPlan) => a.group == grp && (match a.sens.head? with | some y => y.at_ == x.at_ && y.every == x.every | none => false)
  if l.any same then l.map fun a => if same a then { a with sens := a.sens ++ [x] } else a
  else l ++ [⟨1, grp, [x]⟩]

/-- R337 row 3: the ADCs in order, AD0 upward. -/
def adcPlans (ds : Desc) : List AdcPlan :=
  let l := (ds.sensors.map (·.2)).filter adcSensor
  ((l.filter fun x => x.mode != 1).map fun x => ⟨x.mode, descGroup ds x.conv, [x]⟩) ++
    (l.filter fun x => x.mode == 1).foldl (seqAdd ds) []

/-- A queue's purpose: the graph and ADC it joins; a graph's telemetry; a recorded channel; an ADC nothing else reads. -/
inductive QUse where
  | pair (g adc : Nat)
  | tele (g : Nat)
  | recd (chan : Nat)
  | host (adc : Nat)
  | loose
deriving DecidableEq, Repr

/-- Whether a channel is recorded (R635). -/
def recorded (ds : Desc) (chan : Nat) : Bool := ds.recs.any fun r => r.2.src == 0 && r.2.chan == chan

/-- The queue a sensor's results on ADC n go to. -/
def useOf (ds : Desc) (n : Nat) (x : SensorRec) : QUse :=
  match readerOf ds x.conv with
  | some g => .pair g n
  | none => if recorded ds x.chan then .recd x.chan else .host n

/-- The graph that takes an island unit's telemetry. -/
def teleGraphs (ds : Desc) : List Nat :=
  sortNat (((ds.units.filter fun u => !(unitIsls u.2).isEmpty).filterMap fun u => readerOf ds u.2.conv) ++
    ((ds.sensors.filter fun x => !adcSensor x.2).filterMap fun x => readerOf ds x.2.conv)).eraseDups

/-- Channels that come from no ADC and that no graph reads, recorded or not: the host's share one queue (assumption 57). -/
def looseChans (ds : Desc) (rec : Bool) : List Nat :=
  ((ds.sensors.filter fun x => !adcSensor x.2 && (readerOf ds x.2.conv).isNone && recorded ds x.2.chan == rec).map fun x => x.2.chan).eraseDups

/-- R337 row 4: the queues in order, Q00 upward. -/
def queUses (ds : Desc) : List QUse :=
  let plans := adcPlans ds
  let all := (List.range plans.length).flatMap fun n => match plans[n]? with | some a => a.sens.map (useOf ds n) | none => []
  let gs := sortNat (ds.graphs.map fun g => g.2.g)
  let pairs := gs.flatMap fun g => (List.range plans.length).filterMap fun n => if all.contains (.pair g n) then some (QUse.pair g n) else none
  let recs := (all.filter fun u => match u with | .recd _ => true | _ => false).eraseDups ++ (looseChans ds true).map QUse.recd
  let hosts := (List.range plans.length).filterMap fun n => if all.contains (.host n) then some (QUse.host n) else none
  pairs ++ (teleGraphs ds).map QUse.tele ++ recs ++ hosts ++ (if (looseChans ds false).isEmpty then [] else [QUse.loose])

/-- Rounding a quotient up. -/
def ceilDiv (a b : Nat) : Nat := (a + b - 1) / max 1 b

/-- Entries per period that an ADC gives one sensor. -/
def sensRate (ds : Desc) (x : SensorRec) : Nat :=
  match x.mode with
  | 3 => ceilDiv (periodOf ds (descGroup ds x.conv)) (2 * 2 ^ x.dec)
  | _ => 1

/-- Entries per period of a queue (R337 row 4). -/
def queRate (ds : Desc) (u : QUse) : Nat :=
  let plans := adcPlans ds
  let ofAdc := fun (n : Nat) => match plans[n]? with
    | some a => ((a.sens.filter fun x => useOf ds n x == u).map (sensRate ds)).foldl (· + ·) 0
    | none => 0
  match u with
  | .pair _ n => ofAdc n
  | .host n => ofAdc n
  | .loose => (looseChans ds false).length
  | .recd _ => max 1 (((List.range plans.length).map ofAdc).foldl (· + ·) 0)
  | .tele g =>
    let us := ds.units.filter fun x => readerOf ds x.2.conv == some g
    let isls := (us.map fun x => (unitIsls x.2).length).foldl (· + ·) 0
    let p := match us.head? with | some x => periodOf ds (descGroup ds x.2.conv) | none => 4000
    let sent := (ds.sensors.filter fun x => !adcSensor x.2 && readerOf ds x.2.conv == some g).length
    isls * (1 + 3 * ceilDiv p 20000) + sent

/-- The smallest power of two at or above a number, from 64 to 8,192. -/
def queSizeOf (n : Nat) : Nat := ([64, 128, 256, 512, 1024, 2048, 4096].find? fun k => decide (16 * n ≤ k)).getD 8192

/-- Where each queue begins: the sizes before it summed. -/
def queBases (ds : Desc) : List Nat :=
  let sizes := (queUses ds).map fun u => queSizeOf (queRate ds u)
  (List.range (sizes.length + 1)).map fun k => (sizes.take k).foldl (· + ·) 0

/-- Check 0x08. -/
def checkCount (ds : Desc) : Option PErr :=
  let n := (adcPlans ds).length
  let q := (queUses ds).length
  let total := (queBases ds).getLastD 0
  firstErr [need (decide (n ≤ 12)) { code := 8, need := n, have_ := 12 }, need (decide (q ≤ 32)) { code := 8, need := q, have_ := 32 },
    need (decide (total ≤ 262144)) { code := 8, need := total, have_ := 262144 }]

/-- The clocks a sequence takes (R231), its slots in order, from the channel last converted. -/
def seqClocks : Option Nat → List SensorRec → Nat
  | _, [] => 0
  | last, x :: t =>
    if 0x60 ≤ x.chan then 1 + seqClocks last t
    else (if last = some x.chan then 0 else 2) + 2 ^ x.avg + seqClocks (some x.chan) t

/-- The record number of a sensor. -/
def sensItem (ds : Desc) (x : SensorRec) : Nat := match ds.sensors.find? (fun y => y.2 == x) with | some y => y.1 | none => 0

/-- Check 0x09 (R232). -/
def checkSequence (ds : Desc) : Option PErr :=
  let plans := adcPlans ds
  firstErr ((List.range plans.length).map fun n =>
    match plans[n]? with
    | some a =>
      match a.sens.head? with
      | some x =>
        let ticks := 1 + 2 * seqClocks none a.sens
        let slots := a.sens.length
        let have_ := periodOf ds a.group * 2 ^ x.every
        if a.mode = 1 then
          firstErr [need (decide (slots ≤ 16)) { code := 9, item := sensItem ds x, subject := n, need := slots, have_ := 16 },
            need (decide (ticks ≤ have_)) { code := 9, item := sensItem ds x, subject := n, need := ticks, have_ := have_ }]
        else none
      | none => none
    | none => none)

/-- The values a graph puts into its set: PWMOUT masks, and one for each PERIODOUT (R286, R288). -/
def setValues (w : List Reg) : Nat :=
  ((firstPars w 0x1B).map fun c => (bitsOf 4 (c / 64)).length).foldl (· + ·) 0 + (firstPars w 0x1D).length

/-- Check 0x0A. -/
def checkFifo (ws : List Reg) (ds : Desc) : Option PErr :=
  firstErr (ds.timings.map fun t =>
    let n := ((ds.graphs.filter fun g => graphGroup ds g.2 == some t.2.group).map fun g => setValues (imgOf ws g.2)).foldl (· + ·) 0
    need (decide (n ≤ 63)) { code := 0x0A, item := t.1, subject := t.2.group, need := n, have_ := 63 })

/-- The rate of R243 in thousands of entries per second. A SENT receiver's shortest message lasts 92 ticks of 3 µs (R21). -/
def provenRate (ds : Desc) : Nat :=
  let adc := fun (a : AdcPlan) =>
    let p := periodOf ds a.group
    match a.mode, a.sens.head? with
    | 1, some x => ceilDiv (a.sens.length * 200000000) (p * 2 ^ x.every)
    | 3, some x => 100000000 / 2 ^ x.dec
    | _, _ => ceilDiv 200000000 p
  let isl := fun (u : UnitRec) => (unitIsls u).length * (ceilDiv 200000000 (periodOf ds (descGroup ds u.conv)) + 30000)
  let sent := ((ds.sensors.filter fun x => decide (0x64 ≤ x.2.chan ∧ x.2.chan < 0x74)).map fun x => (x.2.chan - 0x64) / 2).eraseDups.length
  ceilDiv ((((adcPlans ds).map adc) ++ (ds.units.map fun u => isl u.2)).foldl (· + ·) (ceilDiv (sent * 2 * 1000000) 276)) 1000

/-- Check 0x0B. -/
def checkRate (ds : Desc) : Option PErr :=
  need (decide (provenRate ds ≤ 100000)) { code := 0x0B, need := provenRate ds, have_ := 100000 }

/-- Check 0x0C. -/
def checkRecorder (ds : Desc) : Option PErr :=
  let sum := (ds.recs.map fun r => r.2.rate).foldl (· + ·) 0
  let item := match ds.recs.head? with | some r => r.1 | none => 0
  firstErr [need (decide (ds.recs.length ≤ 64)) { code := 0x0C, item := item, need := ds.recs.length, have_ := 64 },
    firstErr (ds.recs.map fun r => need (decide (r.2.rate ≤ 100000)) { code := 0x0C, item := r.1, need := r.2.rate, have_ := 100000 }),
    need (decide (sum ≤ 6400000)) { code := 0x0C, item := item, need := sum, have_ := 6400000 }]

/-- The latest arrival after the boundary of the entries of queue q (R340). -/
def queArrival (ds : Desc) (q : Nat) : Nat :=
  match (queUses ds)[q]? with
  | some (.pair _ n) =>
    match (adcPlans ds)[n]? with
    | some a =>
      match a.mode, a.sens.head? with
      | 2, _ => 280
      | 1, some x =>
        let p := periodOf ds a.group
        let t := x.at_ * p / 2 ^ 18
        let start := t + t % 2
        start + 2 * seqClocks none a.sens - 2 + 20 + 240 - p
      | _, _ => 0
    | none => 0
  | _ => 0

/-- R340: a graph's activation bound in ticks. -/
def graphNeed (ws : List Reg) (ds : Desc) (g : GraphRec) : Nat :=
  let w := imgOf ws g
  let l := insts w
  let cost := fun (x : Inst) =>
    if x.ty = 0x19 then
      let q := (parAt w x.par).toNat % 32
      6 + max 1 (match (queUses ds)[q]? with | some u => queRate ds u | none => 0)
    else blockCost x.ty
  let ops := 160 + (l.map cost).foldl (· + ·) 0
  let a := ((firstPars w 0x19).map fun c => if c / 2 ^ 12 % 4 = 1 then queArrival ds (c % 32) else 0).foldl max 0
  let wIn := (firstPars w 0x19).length + (firstPars w 0x1A).length
  let wOut := setValues w + 1 + (firstPars w 0x1F).length + (firstPars w 0x1E).length
  max 80 a + 80 + (wIn + 1) / 2 + (ops + 1) / 2 + (80 + 24 + (wOut + 1) / 2)

/-- Check 0x0D. -/
def checkDeadline (ws : List Reg) (ds : Desc) : Option PErr :=
  firstErr (ds.graphs.map fun g =>
    let p := match graphGroup ds g.2 with | some x => periodOf ds x | none => 0
    let n := graphNeed ws ds g.2
    need (decide (n + 50 ≤ p)) { code := 0x0D, item := g.1, subject := g.2.g, need := n, have_ := p - 50 })

/-- The proof (R339): the first refusal, and the description. -/
def prove (chA chB : Nat) (ws : List Reg) : Option PErr × Desc :=
  if !headOk ws then (some { code := 1 }, {})
  else
    match readRecs ws.length 4 0 0 (ws.drop 4) [] with
    | (some e, _) => (some e, {})
    | (none, l) =>
      let ds := descOf l
      let first := fun (a : Option PErr) (b : List Reg → Option PErr) => match a with | some e => some e | none => b ws
      let chks : List (List Reg → Option PErr) :=
        [fun ws => checkGraphs ws ds, fun _ => checkWiring ds, fun ws => checkChannel ws chA chB ds, fun ws => checkBinding ws ds,
         fun _ => checkSync ds, fun ws => checkSlots ws ds, fun _ => checkCount ds, fun _ => checkSequence ds, fun ws => checkFifo ws ds,
         fun _ => checkRate ds, fun _ => checkRecorder ds, fun ws => checkDeadline ws ds]
      (chks.foldl first (checkFormat l), ds)

/-- The plant a description declares. -/
def plantOf (ws : List Reg) (ds : Desc) : Plant :=
  { ident := (ws.getD 2 0).toNat, timings := ds.timings.map (·.2), convs := ds.convs.map (·.2), units := ds.units.map (·.2),
    sensors := ds.sensors.map (·.2), graphs := ds.graphs.map (·.2), recs := ds.recs.map (·.2), words := ws }

end Sys2Proof.Machine
end

