-- ==== Sys2Proof/Machine/Placer.lean ====
section
/-! DEFINITION. The placer: the plant window, submission, acceptance and refusal, re-proof at boot, unit failure,
re-placement and shedding (chapter 9). -/

namespace Sys2Proof.Machine

/-! ### The plant window (R332) -/

/-- The words of a sparse window from word k on, n of them. -/
def densify : Nat → Nat → AMap Reg → List Reg
  | 0, _, _ => []
  | n + 1, k, [] => 0 :: densify n (k + 1) []
  | n + 1, k, (i, v) :: t => if i = k then v :: densify n (k + 1) t else 0 :: densify n (k + 1) ((i, v) :: t)

/-- Words as a sparse window from word k on. -/
def sparsify : Nat → List Reg → AMap Reg
  | _, [] => []
  | k, v :: t => if v = 0 then sparsify (k + 1) t else (k, v) :: sparsify (k + 1) t

/-- Number of words of the plant window. -/
abbrev pwinWords : Nat := 104448

/-- The window's address. -/
def pwinAt (s : State) : Nat := s.fld R.PLC_PWIN_ADDR F.PLC_PWIN_ADDR.WORD

/-- A data access at the present address is answered BAD_PARAM. -/
def pwinBad (s : State) : Bool := decide (pwinWords ≤ pwinAt s)

/-- The window's word at the present address, and the advance. -/
def pwinRead (s : State) : Nat × Reg × State :=
  if pwinBad s then (St.badParam, 0, s)
  else (St.ok, AMap.getD s.plc.win (pwinAt s) 0, s.setFld R.PLC_PWIN_ADDR F.PLC_PWIN_ADDR.WORD (pwinAt s + 1))

/-- A word written to the window. -/
def pwinWrite (v : Reg) (s : State) : State :=
  let s := { s with plc := { s.plc with win := AMap.put s.plc.win (pwinAt s) 0 v } }
  s.setFld R.PLC_PWIN_ADDR F.PLC_PWIN_ADDR.WORD (pwinAt s + 1)

/-- The submitted description: as many words as header 0 says, up to the window's size. -/
def pwinDesc (s : State) : List Reg := densify (min pwinWords (wf 31 0 (AMap.getD s.plc.win 0 0))) 0 s.plc.win

/-- A proof starts (R333). -/
def submit (s : State) : State :=
  ({ s with plc := { s.plc with proof := some (pwinDesc s, s.dt) } }).setFld R.PLC_STAT F.PLC_STAT.STATE 2

/-! ### Decisions put in force (R335, R337) -/

/-- The highest PRIO of a graph's converters. -/
def graphPrio (ds : Desc) (g : GraphRec) : Nat :=
  (ds.convs.filter fun c => g.convs.testBit c.2.index).foldl (fun a c => max a c.2.prio) 0

/-- A graph put in its place: descending PRIO, ties to the lower G. -/
def insGraph (ds : Desc) (g : GraphRec) : List GraphRec → List GraphRec
  | [] => [g]
  | x :: t =>
    if graphPrio ds x < graphPrio ds g ∨ (graphPrio ds x = graphPrio ds g ∧ g.g < x.g) then g :: x :: t else x :: insGraph ds g t

/-- R337 row 2: the graphs in the order of their pairs, P0 upward. -/
def graphOrder (ds : Desc) : List GraphRec := (ds.graphs.map (·.2)).foldr (insGraph ds) []

/-- The pair of graph g. -/
def pairOfGraph (ds : Desc) (g : Nat) : Nat := (graphOrder ds).findIdx (·.g == g)

/-- The timebase of a converter of the description. -/
def tbOfDesc (ds : Desc) (c : Nat) : Nat := tbOfGroup (ds.timings.map (·.2)) (descGroup ds c)

/-- Several fields of a register written one after another. -/
def setFlds (i : Nat) (l : List (Fld × Nat)) (s : State) : State := l.foldl (fun s p => s.setFld i p.1 p.2) s

/-- Timebases (R337 rows 1 and 5), owned where a graph or the link supervisor fills their sets (R182, R406); every one stands until a converter wants it. -/
def putTimebases (ds : Desc) (s : State) : State :=
  let s := { s with tb := [] }
  let s := forEach (List.range 6) (fun j s =>
    ((s.setReg (R.PWM_TB_CFG j) (resetReg (R.PWM_TB_CFG j))).setReg (R.PWM_TB_PERIOD j) (resetReg (R.PWM_TB_PERIOD j))).setReg
      (R.PWM_TB_OFS j) (resetReg (R.PWM_TB_OFS j)) |>.setReg (R.PWM_TB_STAT j) (resetReg (R.PWM_TB_STAT j))) s
  let ts := ds.timings.map (·.2)
  forEach ts (fun t s =>
    let j := tbOfGroup ts t.group
    let owned := ds.convs.any fun c => c.2.group == t.group &&
      (c.2.kind == 2 || ds.graphs.any fun g => g.2.convs.testBit c.2.index)
    let s := setFlds (R.PWM_TB_CFG j) [(F.PWM_TB_CFG.MODE, t.mode), (F.PWM_TB_CFG.SRC, t.src), (F.PWM_TB_CFG.DIV, t.div)] s
    let s := setFlds (R.PWM_TB_PERIOD j) [(F.PWM_TB_PERIOD.SHADOW, t.p), (F.PWM_TB_PERIOD.ACTIVE, t.p)] s
    let s := (s.setFld (R.PWM_TB_OFS j) F.PWM_TB_OFS.OFS t.ofs).setBit (R.PWM_TB_STAT j) F.PWM_TB_STAT.OWNED owned
    s.setTb j { p := t.p, len := t.p, nextP := t.p }) s

/-- Units: mode, timebase, offset; `DFMT` is the host's. -/
def putUnits (ds : Desc) (s : State) : State :=
  forEach (List.range 33) (fun k s =>
    let v := match ds.units.find? (fun u => u.2.hb == k) with
      | some u => [(F.PWM_HB_CFG.MODE, u.2.mode), (F.PWM_HB_CFG.TB, tbOfDesc ds u.2.conv), (F.PWM_HB_CFG.OFS, u.2.ofs)]
      | none => [(F.PWM_HB_CFG.MODE, 0), (F.PWM_HB_CFG.TB, 0), (F.PWM_HB_CFG.OFS, 0)]
    setFlds (R.PWM_HB_CFG k) v s) s

/-- The number of a queue. -/
def queNo (ds : Desc) (u : QUse) : Nat := (queUses ds).findIdx (· == u)

/-- ADCs and their slots (R337 row 3). -/
def putAdcs (ds : Desc) (s : State) : State :=
  let s := forEach (List.range 12) (fun n s =>
    let s := s.setAdc n { lastChan := (s.adcOf n).lastChan }
    let s := ((s.setReg (R.ADC_AD_CFG n) 0).setReg (R.ADC_AD_TRIG n) 0).setReg (R.ADC_AD_STAT n) 0
    forEach (List.range 16) (fun i s => s.setReg (R.ADC_AD_SLOT n i) 0) s) s
  let plans := adcPlans ds
  forEach (List.range plans.length) (fun n s =>
    match plans[n]? with
    | none => s
    | some a =>
      match a.sens with
      | [] => s
      | x :: _ =>
        let tb := tbOfGroup (ds.timings.map (·.2)) a.group
        let s := setFlds (R.ADC_AD_CFG n) [(F.ADC_AD_CFG.TB, tb), (F.ADC_AD_CFG.MODE, a.mode)] s
        if a.mode = 1 then
          let s := s.setFld (R.ADC_AD_CFG n) F.ADC_AD_CFG.LEN (a.sens.length - 1)
          let s := setFlds (R.ADC_AD_TRIG n) [(F.ADC_AD_TRIG.EVERY, x.every), (F.ADC_AD_TRIG.AT, x.at_ * 2 ^ 13)] s
          forEach (List.range a.sens.length) (fun i s =>
            match a.sens[i]? with
            | some y => setFlds (R.ADC_AD_SLOT n i) [(F.ADC_AD_SLOT.QUEUE, queNo ds (useOf ds n y)), (F.ADC_AD_SLOT.AVG, y.avg),
                (F.ADC_AD_SLOT.CHAN, y.chan)] s
            | none => s) s
        else
          setFlds (R.ADC_AD_CFG n) [(F.ADC_AD_CFG.DEC, if a.mode = 3 then x.dec else 0), (F.ADC_AD_CFG.QUEUE, queNo ds (useOf ds n x)),
            (F.ADC_AD_CFG.CHAN, x.chan)] s) s

/-- The consumer of a queue: 1 host, 2 a pair, 3 the recorder. -/
def queConsOf : QUse → Nat × Option Nat
  | .pair g _ => (2, some g)
  | .tele g => (2, some g)
  | .recd _ => (3, none)
  | .host _ => (1, none)
  | .loose => (1, none)

/-- Queues (R337 row 4) and the queues of what no ADC converts. -/
def putQueues (ds : Desc) (s : State) : State :=
  let uses := queUses ds
  let bases := queBases ds
  let s := forEach (List.range 32) (fun q s =>
    match uses[q]? with
    | none => s.setReg (R.QUE_Q_CFG q) 0
    | some u =>
      let (cons, g) := queConsOf u
      setFlds (R.QUE_Q_CFG q) [(F.QUE_Q_CFG.CONS, cons), (F.QUE_Q_CFG.PAIR, match g with | some g => pairOfGraph ds g | none => 0),
        (F.QUE_Q_CFG.SIZE, queSizeOf (queRate ds u)), (F.QUE_Q_CFG.BASE, bases.getD q 0)] s) s
  let s := s.setFld R.QUE_RATE F.QUE_RATE.PROVEN (provenRate ds)
  let chanQ := (ds.sensors.filter fun x => !adcSensor x.2).foldl (fun m x =>
    match readerOf ds x.2.conv with
    | some g => AMap.ins m x.2.chan (queNo ds (.tele g))
    | none => AMap.ins m x.2.chan (queNo ds (if recorded ds x.2.chan then .recd x.2.chan else .loose))) []
  let islQ := ds.units.foldl (fun m u =>
    match readerOf ds u.2.conv with
    | some g => (unitIsls u.2).foldl (fun m n => AMap.ins m n (queNo ds (.tele g))) m
    | none => m) []
  { s with meas := { s.meas with chanQ := chanQ, islQ := islQ } }

/-- R344: W, and the re-placement bound. -/
def replWords (w : List Reg) : Nat := 4 + 3 * imgInst w + imgPar w + 2 * imgSt w
@[inherit_doc replWords] def replBound (w : List Reg) : Nat := 400 + (6 * replWords w + 9) / 10

/-- Graphs and their pairs (R337 row 2). -/
def putGraphs (ws : List Reg) (ds : Desc) (s : State) : State :=
  let s := forEach (List.range 8) (fun g s =>
    let s := ((s.setReg (R.ENG_G_STAT g) 0).setReg (R.PLC_GRAPH g) 0).setReg (R.ENG_G_FLAGS g) 0
    setFlds (R.ENG_PAIR_STAT_K g) [(F.ENG_PAIR_STAT_K.ACTIVE, 0), (F.ENG_PAIR_STAT_K.HELD_LAST, 0)] s) s
  let s := s.setFld R.ENG_STAT F.ENG_STAT.FAILED 0
  forEach (ds.graphs.map (·.2)) (fun g s =>
    let w := imgOf ws g
    let pair := pairOfGraph ds g.g
    let tb := match graphGroup ds g with | some x => tbOfGroup (ds.timings.map (·.2)) x | none => 0
    let p := match graphGroup ds g with | some x => periodOf ds x | none => 0
    let s := setFlds (R.ENG_G_STAT g.g) [(F.ENG_G_STAT.LOADED, 1), (F.ENG_G_STAT.PAIR, pair), (F.ENG_G_STAT.TB, tb),
      (F.ENG_G_STAT.INST, imgInst w), (F.ENG_G_STAT.WORDS, 4 + 7 * imgInst w + imgPar w + 2 * imgSt w)] s
    let s := setFlds (R.PLC_GRAPH g.g) [(F.PLC_GRAPH.COVER, b2n (decide (replBound w ≤ 2 * p))), (F.PLC_GRAPH.PAIR, pair),
      (F.PLC_GRAPH.TB, tb), (F.PLC_GRAPH.NEED, graphNeed ws ds g), (F.PLC_GRAPH.RP, replBound w)] s
    s.setBit (R.ENG_PAIR_STAT_K pair) F.ENG_PAIR_STAT_K.ACTIVE true) s

/-- Converters and the islands in use. -/
def putConvs (ds : Desc) (s : State) : State :=
  let s := forEach (List.range 32) (fun k s =>
    let x := s.convOf k
    let s := s.setConv k { x with verdict := none, spoiled := true, mism := 0, missed := 0, esc := false, hold := 0 }
    match ds.convs.find? (fun c => c.2.index == k) with
    | none => s.setReg (R.PLC_CONV k) 0
    | some (_, c) =>
      let g := (sortNat ((ds.graphs.filter fun g => g.2.convs.testBit k).map fun g => g.2.g)).headD 0
      setFlds (R.PLC_CONV k) [(F.PLC_CONV.DECLARED, 1), (F.PLC_CONV.KIND, c.kind), (F.PLC_CONV.PRIO, c.prio),
        (F.PLC_CONV.HOLD, b2n c.hold), (F.PLC_CONV.STATE, 0), (F.PLC_CONV.GRAPH, g), (F.PLC_CONV.TB, tbOfDesc ds k)] s) s
  let s := forEach (List.range 3) (fun j s => s.setReg (R.PROT_PRE_VERD j) 0) s
  let used := ds.units.flatMap fun u => unitIsls u.2
  forEach (List.range 48) (fun n s => s.setBit (R.ISL_CFG n) F.ISL_CFG.USED (used.contains n)) s

/-! ### The reserve pool (R31, R33, R343) -/

/-- What a 4 KiB block of the reserve pool serves (`Plc.blocks`): it is retired, or it holds a part of queue q, of graph g's
mirror, or of the tables. -/
abbrev Use.retired : Nat := 0
@[inherit_doc Use.retired] abbrev Use.queue (q : Nat) : Nat := 1 + q
@[inherit_doc Use.retired] abbrev Use.mirror (g : Nat) : Nat := 33 + g
@[inherit_doc Use.retired] abbrev Use.tables : Nat := 41

/-- The pool's blocks in use or retired; `PLC_CAPACITY.POOL` counts the rest of the 1,280. -/
def putPool (l : AMap Nat) (s : State) : State :=
  { s with plc := { s.plc with blocks := l } }.setFld R.PLC_CAPACITY F.PLC_CAPACITY.POOL (1280 - l.length)

/-- n free blocks of the pool, the lowest first; none when it holds fewer (assumption 95). -/
def poolFree (s : State) (n : Nat) : Option (List Nat) :=
  let free := ((List.range 1280).filter fun b => (AMap.get? s.plc.blocks b).isNone).take n
  if free.length < n then none else some free

/-- Blocks of the pool given to a use. -/
def poolGive (use : Nat) (bs : List Nat) (s : State) : State := putPool (bs.foldl (fun m b => AMap.ins m b use) s.plc.blocks) s

/-- Blocks of the pool hold a use. -/
def poolHolds (s : State) (use : Nat) : Bool := s.plc.blocks.any fun p => p.2 == use

/-- A word of block b of the pool is retired, and its block with it. -/
def poolRetire (b : Nat) (s : State) : State := putPool (AMap.ins s.plc.blocks b Use.retired) s

/-- The reserves (R338): the highest-numbered free pair and ADC; blocks of the pool given to an earlier placement are free
again. -/
def putReserve (ds : Desc) (s : State) : State :=
  let pair := if ds.graphs.length < 8 then some 7 else none
  let adc := if (adcPlans ds).length < 12 then some 11 else none
  let s := { s with plc := { s.plc with rsvPair := pair, rsvAdc := adc, fails := [], cur := none, down := 0 } }
  let s := setFlds R.PLC_CAPACITY [(F.PLC_CAPACITY.PAIRS_RSV, b2n pair.isSome), (F.PLC_CAPACITY.PAIRS_FAILED, 0),
    (F.PLC_CAPACITY.ADC_RSV, b2n adc.isSome), (F.PLC_CAPACITY.ADC_FAILED, 0)] s
  putPool (s.plc.blocks.filter fun p => p.2 == Use.retired) s

/-- Every latch of R200 is released, and the trip windows and counts are emptied (R335). -/
def latchesClear (s : State) : State :=
  let s := s.setFld R.PWM_LATCH F.PWM_LATCH.UNIT 0
  let s := forEach (List.range 33) (fun k s =>
    let s := s.setUnit k { s.unitOf k with win := none, relPend := false, tripAt := none }
    setFlds (R.PWM_HB_STAT k) [(F.PWM_HB_STAT.LATCHED, 0), (F.PWM_HB_STAT.TRIP_COUNT, 0), (F.PWM_HB_STAT.TRIPPED, 0)] s) s
  selDrop 1 Why.trip (selDrop 0 Why.trip s)

/-- The values EV_PLANT_ACCEPTED carries: the identifier, `PLC_CAPACITY`, and the flag NO_RESERVE (R335, R338). -/
def acceptVals (s : State) : List (Nat × Nat) :=
  [(5, s.fld R.PLC_IDENT F.PLC_IDENT.IDENT), (5, (s.reg R.PLC_CAPACITY).toNat),
   (1, b2n (s.plc.rsvPair.isNone || s.plc.rsvAdc.isNone))]

/-- A description comes into force (R335, with R192, R242, R276, R304, R322, R323): everything but its event and its
storage. What `PWM_FORCE` has turned on under the old wiring goes off with that wiring (assumption 96). -/
def acceptPlant (ws : List Reg) (ds : Desc) (s : State) : State :=
  let s := forceEnd (recEnd 2 s)
  let s := { s with plant := some (plantOf ws ds) }
  let s := putTimebases ds s
  let s := putConvs ds (putUnits ds s)
  let s := putGraphs ws ds (putQueues ds (putAdcs ds s))
  let s := putReserve ds s
  let s := s.setFld R.PLC_IDENT F.PLC_IDENT.IDENT (wf 39 0 (ws.getD 2 0))
  let s := (s.setFld R.PLC_SHED F.PLC_SHED.CONV 0).setFld R.ENG_PAIR_CONV F.ENG_PAIR_CONV.CONV 0
  let s := carriesClear (latchesClear s)
  let drop := fun (m : Nat) (s : State) => selDrop m Why.shed (selDrop m Why.degraded (selDrop m Why.pairEsc s))
  let s := drop 1 (drop 0 s)
  let s := { s with eng := { s.eng with graph := [], hand := [], sp := [], stage := [], apply_ := [] } }
  let s := forEach (ds.graphs.map fun x => x.2.g) (fun g s => s.setGraph g (loadInit (gWords s g) (s.graphOf g))) s
  let s := setFlds R.ENG_GWIN_STAT [(F.ENG_GWIN_STAT.STAGED, 0), (F.ENG_GWIN_STAT.PENDING, 0)] s
  let s := forEach [0, 1] (fun j s => s.setReg (R.ENG_HAND_HELD j) 0) s
  let s := forEach (List.range 64) (fun h s => s.setReg (R.ENG_HAND h) 0) s
  let s := queEmptyAll s
  let s := forEach [0, 1] (fun m s => s.setSel m { s.selOf m with fresh := none, known := false }) s
  let s := forEach [0, 1] (fun m s => s.setBit (R.TRX_M_STAT m) F.TRX_M_STAT.OBS_BOUND (obsBound s m)) s
  let s := actAccepted s
  let s := recArm s
  selEvalAll (linkEval s)

/-- The registers a proof's end sets (R334, R335). -/
def proofResult (e : Option PErr) (began : Nat) (s : State) : State :=
  let s := { s with plc := { s.plc with proof := none } }
  let s := s.setFld R.PLC_STAT F.PLC_STAT.PROOF_TIME (min 65535 ((s.dt - began) / 2000))
  match e with
  | none => (s.setReg R.PLC_RESULT 0).setReg R.PLC_RESULT_VAL 0
  | some e =>
    let s := setFlds R.PLC_RESULT [(F.PLC_RESULT.CODE, e.code), (F.PLC_RESULT.ITEM, e.item), (F.PLC_RESULT.SUBJECT, e.subject)] s
    let s := setFlds R.PLC_RESULT_VAL [(F.PLC_RESULT_VAL.NEED, min e.need (2 ^ 20 - 1)), (F.PLC_RESULT_VAL.HAVE, e.have_)] s
    (s.setBit R.PLC_FLAGS F.PLC_FLAGS.REFUSED true)

/-- The state code of `PLC_STAT`: a description in force, or none; a proof; a re-placement. -/
def plcState (s : State) : State :=
  s.setFld R.PLC_STAT F.PLC_STAT.STATE (if s.plc.proof.isSome then 2 else if s.plc.cur.isSome then 3 else if s.plant.isSome then 1 else 0)

/-- The proof of a list of words with the pedal channels now configured. -/
def proveNow (s : State) (ws : List Reg) : Option PErr × Desc :=
  prove (s.fld R.ENG_PEDAL_CFG F.ENG_PEDAL_CFG.CH_A) (s.fld R.ENG_PEDAL_CFG F.ENG_PEDAL_CFG.CH_B) ws

/-- R334, R335: the proof ends. -/
def proofComplete (s : State) : State :=
  match s.plc.proof with
  | none => s
  | some (ws, began) =>
    let (err, ds) := proveNow s ws
    let s := proofResult err began s
    match err with
    | some e => (plcState s).raise EV.PLANT_REFUSED 0xFF [(1, e.code)]
    | none =>
      let s := acceptPlant ws ds s
      let s := { s with plc := { s.plc with storing := true } }
      let s := plcState (s.setBit R.PLC_STAT F.PLC_STAT.STORED false)
      let s := s.raise EV.PLANT_ACCEPTED 0xFF (acceptVals s)
      if s.mode = Mode.ready then preStart { s with preDue := false } else s

def execProofComplete (e : Nat) (s : State) : Host.Outcome State Fault Refusal := .next (proofComplete (s.tick e))

/-- R335: the write of the accepted description to storage completes, in the slot of its generation (R630). -/
def plantStored (s : State) : State :=
  if !s.plc.storing then s
  else
    let g := s.plc.gen + 1
    let ws := match s.plant with | some p => p.words | none => []
    let s := { s with plc := { s.plc with storing := false, gen := g, slots := AMap.ins s.plc.slots (g % 2) ws } }
    s.setBit R.PLC_STAT F.PLC_STAT.STORED true

def execPlantStored (e : Nat) (s : State) : Host.Outcome State Fault Refusal := .next (plantStored (s.tick e))

/-- No description is in force any more: what it had placed is gone. -/
def plantNone (s : State) : State :=
  let s := putTimebases {} { s with plant := none }
  let s := putGraphs [] {} (putQueues {} (putAdcs {} (putConvs {} (putUnits {} s))))
  { s with eng := { s.eng with graph := [] } }

/-- R332, R336: step 6 of the cold start. The stored description is proved again, from the step's beginning; a refusal leaves
none in force; its event is logged as boot ends; the window then holds the description in force, or words of 0. -/
def plantReproof (s : State) : State :=
  if s.boot.phase != .plant then s
  else
    let later := fun (x : Nat × Nat × List (Nat × Nat)) (s : State) => { s with boot := { s.boot with later := s.boot.later ++ [x] } }
    let s := match AMap.get? s.plc.slots (s.plc.gen % 2) with
      | none => s
      | some ws =>
        let (err, ds) := proveNow s ws
        let s := proofResult err (s.dt - (s.el - s.boot.since)) s
        match err with
        | some e => later (EV.PLANT_REFUSED, 0xFF, [(1, e.code)]) (plantNone s)
        | none =>
          let s := (acceptPlant ws ds s).setBit R.PLC_STAT F.PLC_STAT.STORED true
          later (EV.PLANT_ACCEPTED, 0xFF, acceptVals s) s
    let win := match s.plant with | some p => sparsify 0 p.words | none => []
    let s := if s.boot.kind == .wake then plcState s else plcState { s with plc := { s.plc with win := win } }
    { s with boot := { s.boot with phase := .links, since := s.el } }

def execPlantReproof (e : Nat) (s : State) : Host.Outcome State Fault Refusal := .next (plantReproof (s.tick e))

/-! ### Unit failure (R341 to R347) -/

/-- `ENG_PAIRk_STAT.RUN`: a converter of the pair's graph has a mismatch run of one (R328). -/
def pairRuns (s : State) (k : Nat) : Bool :=
  (List.range 8).any fun g => gLoaded s g && pairOf s g == k && (convsOfGraph s g).any fun c => (s.convOf c).mism == 1

/-- The graph that a pair serves. -/
def graphOnPair (s : State) (k : Nat) : Option Nat := (List.range 8).find? fun g => gLoaded s g && pairOf s g == k

/-- The graphs that read queues of a list. -/
def readersOf (s : State) (qs : List Nat) : List Nat :=
  ((qs.filter fun q => queCons s q == 2).filterMap fun q => graphOnPair s (s.fld (R.QUE_Q_CFG q) F.QUE_Q_CFG.PAIR)).eraseDups

/-- The queues an ADC writes. -/
def adcQueues (s : State) (n : Nat) : List Nat :=
  if adcMode s n = 1 then (List.range (s.fld (R.ADC_AD_CFG n) F.ADC_AD_CFG.LEN + 1)).map fun i => s.fld (R.ADC_AD_SLOT n i) F.ADC_AD_SLOT.QUEUE
  else if adcMode s n = 0 then [] else [s.fld (R.ADC_AD_CFG n) F.ADC_AD_CFG.QUEUE]

/-- The graphs that read the tables: those that serve a traction machine. -/
def tableReaders (s : State) : List Nat :=
  (List.range 8).filter fun g => gLoaded s g && (convsOfGraph s g).any fun c => kindOf s c == 0

/-- The graphs a failure affects (R341). A region's index is its queue (kind 5), its graph, or 8 for the tables (kind 6). -/
def failGraphs (s : State) (f : PFail) : List Nat :=
  match f.kind with
  | 4 => readersOf s (adcQueues s f.index)
  | 5 => readersOf s [f.index]
  | 6 => if f.index = 8 then tableReaders s else if gLoaded s f.index then [f.index] else []
  | 7 => []
  | _ => if f.graph < 8 ∧ gLoaded s f.graph then [f.graph] else []

/-- The number of the failed unit: the pair, the ADC or the region's index. -/
def failUnit (f : PFail) : Nat :=
  if f.kind ≤ 3 then f.index / 2 else f.index

/-- A converter off because its work is not served (R342, R349). -/
def convOff (c why : Nat) (s : State) : State := convProtect c why s

/-- A graph is suspended, its converters are held, and a start attempt ends (R341, R342, R386). No notice of a boundary before
the failure and no set finished before it counts any more; an activation in progress runs to its end, and leaves no set. `pair`
says that its pair has failed, so that it marks nothing as read (R324, R345). -/
def suspend (pair : Bool) (g : Nat) (s : State) : State :=
  let u := s.graphOf g
  let act := u.act.map fun a => { a with spent := true, lost := a.lost || pair }
  let s := s.setGraph g { u with act := act, done := [], notices := [] }
  let s := obsEnd g (s.setBit (R.PLC_GRAPH g) F.PLC_GRAPH.SUSPENDED true)
  forEach (convsOfGraph s g) (fun c s =>
    if (s.convOf c).hold != 0 || bitN (s.fld R.PLC_SHED F.PLC_SHED.CONV) c then s
    else (s.setConv c { s.convOf c with hold := 1 }).setFld (R.PLC_CONV c) F.PLC_CONV.STATE 1) s

/-- R349: a converter is shed. -/
def shedConv (c : Nat) (s : State) : State :=
  if bitN (s.fld R.PLC_SHED F.PLC_SHED.CONV) c then s
  else
    let s := s.setConv c { s.convOf c with hold := 0, en := false }
    let s := (s.setBitAt R.PLC_SHED F.PLC_SHED.CONV c true).setFld (R.PLC_CONV c) F.PLC_CONV.STATE 3
    let s := (s.setBit R.PLC_FLAGS F.PLC_FLAGS.SHED true).raise EV.SHED c []
    convOff c Why.shed s

/-- The converters not yet shed, the lowest PRIO first, ties to the higher INDEX (R348). -/
def shedOrder (s : State) (p : Nat → Bool) : List ConvRec :=
  let l := (convs s).filter fun c => !bitN (s.fld R.PLC_SHED F.PLC_SHED.CONV) c.index && p c.index
  (sortNat (l.map fun c => 32 * c.prio + (31 - c.index))).filterMap fun k => l.find? fun c => 32 * c.prio + (31 - c.index) == k

/-- The converters that share a graph with converter c, and those that share one with these, as a bitmap. -/
def shedGroup (s : State) (c : Nat) : Nat :=
  let join := fun (m g : Nat) => if (convsOfGraph s g).any (bitN m) then (convsOfGraph s g).foldl setBitN m else m
  (List.range 8).foldl (fun m _ => (List.range 8).foldl join m) (setBitN 0 c)

/-- A converter shed together with all that graphs tie it to (R348). -/
def shedWith (c : Nat) (s : State) : State := forEach (bitsOf 32 (shedGroup s c)) shedConv s

/-- Every converter graph g serves is shed, and there is one: its units are free (R348). -/
def graphFreed (s : State) (g : Nat) : Bool :=
  gLoaded s g && !(convsOfGraph s g).isEmpty && (convsOfGraph s g).all fun c => bitN (s.fld R.PLC_SHED F.PLC_SHED.CONV) c

/-- Converters are shed, the lowest PRIO first, until `free` finds a unit or the failed work's own converters, which `own` tells,
are shed (R348): the unit, if any. -/
def shedUntil (own : State → Bool) (free : State → Option Nat) (uses : State → Nat → Bool) : Nat → State → Option Nat × State
  | 0, s => (none, s)
  | k + 1, s =>
    if own s then (none, s)
    else match free s, shedOrder s (uses s) with
      | some m, _ => (some m, s)
      | none, c :: _ => shedUntil own free uses k (shedWith c.index s)
      | none, [] => (none, s)

/-- A converter is served by a loaded graph. -/
def servedBy (s : State) (c : Nat) : Bool := (List.range 8).any fun g => gLoaded s g && (convsOfGraph s g).contains c

/-- A converter is measured by ADC n. -/
def usesAdc (s : State) (n c : Nat) : Bool :=
  match s.plant with
  | some p => p.sensors.any fun x => x.conv == c && (adcChans s n).contains x.chan && s.fld (R.ADC_AD_CFG n) F.ADC_AD_CFG.TB == tbOfConv s c
  | none => false

/-- Every converter an ADC serves is shed, and there is one. -/
def adcFreed (s : State) (n : Nat) : Bool :=
  let l := (convs s).filter fun c => usesAdc s n c.index
  !l.isEmpty && l.all fun c => bitN (s.fld R.PLC_SHED F.PLC_SHED.CONV) c.index

/-- An ADC other than n that shedding has freed. -/
def adcFree (n : Nat) (s : State) : Option Nat :=
  (List.range 12).find? fun m => m != n && adcFreed s m && !bitN s.plc.down (8 + m)

/-- The tick from which a new activation may begin after the measurements of a whole period by the new placement (R345):
after the next boundary of the graph's timebase. -/
def freshFrom (s : State) (gs : List Nat) : Nat :=
  gs.foldl (fun a g => let j := tbOfGraph s g; if (s.tbOf j).run then max a (nextB s j + 1) else a) s.dt

/-- Graph g moves to pair k (R343): its registers and its queues, its state as R341 says. An activation in progress runs to
its end, and what it has read but not marked stays queued (R345). -/
def movePair (g k : Nat) (init : Bool) (s : State) : State :=
  let old := pairOf s g
  let s := forEach ((pairQueues s old)) (fun q s => s.setFld (R.QUE_Q_CFG q) F.QUE_Q_CFG.PAIR k) s
  let s := (s.setFld (R.ENG_G_STAT g) F.ENG_G_STAT.PAIR k).setFld (R.PLC_GRAPH g) F.PLC_GRAPH.PAIR k
  let s := (s.setBit (R.ENG_PAIR_STAT_K old) F.ENG_PAIR_STAT_K.ACTIVE false).setBit (R.ENG_PAIR_STAT_K k) F.ENG_PAIR_STAT_K.ACTIVE true
  let u := s.graphOf g
  s.setGraph g { u with fresh := u.fresh || init, init := init }

/-- Every channel and slot of ADC n moves to ADC m (R343); its first results carry REPEAT (R345). -/
def moveAdc (n m : Nat) (s : State) : State :=
  let s := (s.setReg (R.ADC_AD_CFG m) (s.reg (R.ADC_AD_CFG n))).setReg (R.ADC_AD_TRIG m) (s.reg (R.ADC_AD_TRIG n))
  let s := forEach (List.range 16) (fun i s =>
    (s.setReg (R.ADC_AD_SLOT m i) (s.reg (R.ADC_AD_SLOT n i))).setReg (R.ADC_AD_SLOT n i) 0) s
  let s := (s.setReg (R.ADC_AD_CFG n) 0).setReg (R.ADC_AD_TRIG n) 0
  s.setAdc m { rep := true, lastChan := (s.adcOf m).lastChan }

/-- A re-placement begins. -/
def replBegin (f : PFail) (gs : List Nat) (reserve : Option Nat) (loadAt : Nat) (s : State) : State :=
  let c : Repl := { fail := f, graphs := gs.foldl setBitN 0, reserve := reserve, loadAt := loadAt }
  plcState { s with plc := { s.plc with cur := some c } }

/-- The reserve pair, or the reserve ADC, is a reserve no longer. -/
def dropRsvPair (s : State) : State := { s with plc := { s.plc with rsvPair := none } }.setFld R.PLC_CAPACITY F.PLC_CAPACITY.PAIRS_RSV 0
@[inherit_doc dropRsvPair]
def dropRsvAdc (s : State) : State := { s with plc := { s.plc with rsvAdc := none } }.setFld R.PLC_CAPACITY F.PLC_CAPACITY.ADC_RSV 0

/-- A healthy pair whose graph shedding has freed, for graph g: the graph. -/
def pairFree (g : Nat) (s : State) : Option Nat :=
  (List.range 8).find? fun h => h != g && graphFreed s h && !bitN s.plc.down (pairOf s h)

/-- R343, R344, R348 for a pair: the reserve pair, or for an uncovered graph and without a reserve a pair that shedding frees,
whose graph leaves it. -/
def replPair (f : PFail) (g : Nat) (s : State) : State :=
  let load := fun (k : Nat) (s : State) =>
    let at_ := max s.dt (s.graphOf g).prevEnd + s.fld (R.PLC_GRAPH g) F.PLC_GRAPH.RP
    replBegin f [g] (some k) at_ (movePair g k f.init s)
  match s.plc.rsvPair, s.bit (R.PLC_GRAPH g) F.PLC_GRAPH.COVER with
  | some k, true =>
    load k (dropRsvPair s)
  | _, _ =>
    match shedUntil (graphFreed · g) (pairFree g) servedBy 33 s with
    | (some h, s) => load (pairOf s h) ((s.setBit (R.ENG_G_STAT h) F.ENG_G_STAT.LOADED false).setGraph h {})
    | (none, s) => s

/-- R343, R348 for an ADC. -/
def replAdc (f : PFail) (gs : List Nat) (s : State) : State :=
  let load := fun (m : Nat) (s : State) => replBegin f gs (some m) (freshFrom s gs) (moveAdc f.index m s)
  match s.plc.rsvAdc with
  | some m => load m (dropRsvAdc s)
  | none =>
    match shedUntil (adcFreed · f.index) (adcFree f.index) (fun s c => (List.range 12).any fun m => usesAdc s m c) 33 s with
    | (some m, s) => load m s
    | (none, s) => s

/-- The use of a region's blocks, and how many it takes: a queue's SIZE words of 8 bytes, a graph mirror's 128 KiB, the tables'
1 MiB (R31). -/
def regionUse (s : State) (f : PFail) : Nat × Nat :=
  if f.kind = 5 then (Use.queue f.index, (s.fld (R.QUE_Q_CFG f.index) F.QUE_Q_CFG.SIZE + 511) / 512)
  else if f.index = 8 then (Use.tables, 256) else (Use.mirror f.index, 32)

/-- A region that shedding has freed and that takes the failed one's place: another graph's mirror, or a queue as large that only
shed graphs read. -/
def regionFree (f : PFail) (s : State) : Option Nat :=
  if f.kind = 5 then
    (List.range 32).find? fun q =>
      decide (s.fld (R.QUE_Q_CFG f.index) F.QUE_Q_CFG.SIZE ≤ s.fld (R.QUE_Q_CFG q) F.QUE_Q_CFG.SIZE) &&
        !(readersOf s [q]).isEmpty && (readersOf s [q]).all (graphFreed s)
  else if f.index = 8 then none
  else (List.range 8).find? fun h => h != f.index && graphFreed s h

/-- R343, R348 for a region: blocks of the reserve pool as large as it, or a region that shedding frees; the entries of a failed
queue are lost (assumption 95). -/
def replRegion (f : PFail) (gs : List Nat) (s : State) : State :=
  let (use, n) := regionUse s f
  let s := if f.kind = 5 then queFree f.index (s.queOf f.index).ents.length s else s
  let s := putPool (s.plc.blocks.map fun p => if p.2 = use then (p.1, Use.retired) else p) s
  let load := fun (s : State) => if gs.isEmpty then s else replBegin f gs none (freshFrom s gs) s
  match poolFree s n with
  | some bs => load (poolGive use bs s)
  | none =>
    match shedUntil (fun s => gs.all (graphFreed s)) (regionFree f) servedBy 33 s with
    | (some _, s) => load s
    | (none, s) => s

/-- The failed unit is the one being loaded as a replacement (R347). -/
def failsReserve (s : State) (f : PFail) : Bool :=
  match s.plc.cur with
  | some c => c.reserve == some (failUnit f) && decide ((f.kind ≤ 3 ∧ c.fail.kind ≤ 3) ∨ (f.kind = 4 ∧ c.fail.kind = 4))
  | none => false

/-- The bit of `Plc.down` for a failure's pair or ADC. -/
def downBit (f : PFail) : Nat := if f.kind = 4 then 8 + f.index else f.index / 2

/-- A failed pair or ADC is down. -/
def failMark (f : PFail) (s : State) : State := { s with plc := { s.plc with down := setBitN s.plc.down (downBit f) } }

/-- A failed unit that stood in reserve stands there no longer. -/
def failReserve (f : PFail) (s : State) : State :=
  if f.kind = 4 then (if s.plc.rsvAdc = some f.index then dropRsvAdc s else s)
  else if s.plc.rsvPair = some (f.index / 2) then dropRsvPair s else s

/-- A pair's or an ADC's failure is counted; a unit that stood in reserve stands there no longer. -/
def failCount (f : PFail) (s : State) : State :=
  if f.kind = 4 then failReserve f (failMark f (s.incFld R.PLC_CAPACITY F.PLC_CAPACITY.ADC_FAILED 1))
  else failReserve f (failMark f (s.incFld R.PLC_CAPACITY F.PLC_CAPACITY.PAIRS_FAILED 1))

/-- R347: the placer store fails: the window is loaded from storage again, and no reserve is left until the next acceptance. -/
def placerStoreFails (s : State) : State :=
  let win := match AMap.get? s.plc.slots (s.plc.gen % 2) with | some ws => sparsify 0 ws | none => []
  dropRsvAdc (dropRsvPair { s with plc := { s.plc with win := win } })

/-- R343, R347: the failed unit's work moves, that of the suspended graphs gs. -/
def failMoves (f : PFail) (gs : List Nat) (s : State) : State :=
  if f.kind ≤ 3 then (match gs with | g :: _ => replPair f g s | [] => s)
  else if f.kind = 4 then (if gs.isEmpty && adcMode s f.index == 0 then s else replAdc f gs s)
  else if f.kind = 7 then placerStoreFails s
  else replRegion f gs s

/-- R341 to R349: what a failure report brings about. A second report of a pair or an ADC that has failed already tells nothing
new. -/
def failTaken (f : PFail) (s : State) : State :=
  if f.kind ≤ 4 && bitN s.plc.down (downBit f) then s
  else
    let s := setFlds R.PLC_LAST_FAIL [(F.PLC_LAST_FAIL.KIND, f.kind), (F.PLC_LAST_FAIL.INDEX, f.index), (F.PLC_LAST_FAIL.STAMP, f.stamp)] s
    let s := s.setBit R.PLC_FLAGS F.PLC_FLAGS.UNIT_FAILED true
    let s := (if f.kind ≤ 4 then failCount f s else s).raise EV.UNIT_FAILED (failUnit f) []
    failMoves f (failGraphs s f) (forEach (failGraphs s f) (suspend (decide (f.kind ≤ 3))) s)

/-- UNIT_FAILED (R341, R347): the placer takes the oldest failure report; while a re-placement runs it takes the oldest of the
unit being loaded, which abandons that re-placement, and the others wait. -/
def unitFailed (s : State) : State :=
  let take := fun (f : PFail) (s : State) => failTaken f { s with plc := { s.plc with fails := s.plc.fails.erase f, cur := none } }
  if s.plc.cur.isSome then
    match s.plc.fails.find? (failsReserve s) with
    | some f => take f s
    | none => s
  else match s.plc.fails with
    | f :: _ => take f s
    | [] => s

def execUnitFailed (e : Nat) (s : State) : Host.Outcome State Fault Refusal := .next (unitFailed (s.tick e))

/-- A graph under re-placement executes nothing before its new unit is loaded (R341, R345). -/
def gSuspended (s : State) (g : Nat) : Bool :=
  s.bit (R.PLC_GRAPH g) F.PLC_GRAPH.SUSPENDED &&
    (match s.plc.cur with
     | some c => !(c.graphs.testBit g && decide (c.loadAt ≤ s.dt))
     | none => true)

/-- The first set after a re-placement of graph g is committed (R346). -/
def replCommitted (g : Nat) (s : State) : State :=
  match s.plc.cur with
  | some c => if c.graphs.testBit g then { s with plc := { s.plc with cur := some { c with done := setBitN c.done g } } } else s
  | none => s

/-- R346: the re-placement completes once every suspended graph's first set has been committed. -/
def replaced (s : State) : State :=
  match s.plc.cur with
  | none => s
  | some c =>
    if c.done != c.graphs then s
    else
      let gs := bitsOf 8 c.graphs
      let init := gs.any fun g => (s.graphOf g).init
      let s := forEach gs (fun g s =>
        let s := (s.setGraph g { s.graphOf g with init := false }).setBit (R.PLC_GRAPH g) F.PLC_GRAPH.SUSPENDED false
        forEach (convsOfGraph s g) (fun k s =>
          let s := s.setConv k { s.convOf k with hold := 0, mism := 0 }
          let s := if bitN (s.fld R.PLC_SHED F.PLC_SHED.CONV) k then s else s.setFld (R.PLC_CONV k) F.PLC_CONV.STATE 0
          let s := s.setBitAt R.ENG_PAIR_CONV F.ENG_PAIR_CONV.CONV k false
          match chanOf s k with
          | some m => if bitN (s.selOf m).why Why.degraded then selDrop m Why.degraded s else s
          | none => s) s) s
      let s := plcState { s with plc := { s.plc with cur := none } }
      let s := s.setBit R.PLC_FLAGS F.PLC_FLAGS.REPLACED true
      s.raise EV.REPLACED (failUnit c.fail)
        [(1, match c.reserve with | some k => k | none => 0xFF), (1, b2n init)]

def execReplaced (e : Nat) (s : State) : Host.Outcome State Fault Refusal := .next (replaced (s.tick e))

end Sys2Proof.Machine
end

