-- ==== Sys2Proof/Machine/Storage.lean ====
section
/-! DEFINITION. The eMMC devices and their layout, the log rings, and the field update with its leapfrog (chapter 18; R580
to R584). -/

namespace Sys2Proof.Machine

/-! ### Devices and layout (R623 to R628) -/

/-- Device d has failed. -/
def devFailed (s : State) (d : Nat) : Bool := s.bit (R.STO_DEV d) F.STO_DEV.FAILED

/-- R624: device d fails, until a reset. -/
def devFail (d : Nat) (s : State) : State :=
  if devFailed s d then s
  else
    let s := s.setBit (R.STO_DEV d) F.STO_DEV.FAILED true
    let s := s.setBit R.STO_STAT F.STO_STAT.SINGLE (devFailed s 0 != devFailed s 1)
    (s.setBit R.STO_FLAGS (if d = 0 then F.STO_FLAGS.DEV0_FAIL else F.STO_FLAGS.DEV1_FAIL) true).raise EV.STO_DEVICE d []

def execStoDevice (e : Nat) (d : Fin 2) (s : State) : Host.Outcome State Fault Refusal := .next (devFail d (s.tick e))

/-- R625: the health of device d is read; wear is reported once per boot. -/
def devHealth (d a b eol : Nat) (s : State) : State :=
  let s := setFlds (R.STO_DEV d) [(F.STO_DEV.LIFE_A, a), (F.STO_DEV.LIFE_B, b), (F.STO_DEV.PRE_EOL, eol)] s
  let worn := decide (9 ≤ a ∨ 9 ≤ b) || decide (eol = 2 ∨ eol = 3)
  if worn && !s.sto.wear then
    let s := { s with sto := { s.sto with wear := true } }
    (s.setBit R.STO_FLAGS F.STO_FLAGS.WEAR true).raise EV.STO_WEAR d []
  else s

def execStoWear (e : Nat) (d : Fin 2) (a b : BitVec 4) (eol : BitVec 2) (s : State) : Host.Outcome State Fault Refusal :=
  .next (devHealth d a.toNat b.toNat eol.toNat (s.tick e))

/-- R623, R624: a tuning of device d needed some retries, at most three; a command that still fails then fails the
device. -/
def emmcTuning (d retries : Nat) (fails : Bool) (s : State) : State :=
  if devFailed s d then s
  else
    let s := s.incFld (R.STO_DEV d) F.STO_DEV.RETRIES retries
    if fails then devFail d s else s

def execEmmcTuning (e : Nat) (d : Fin 2) (retries : Fin 4) (fails : Bool) (s : State) : Host.Outcome State Fault Refusal :=
  .next (emmcTuning d retries fails (s.tick e))

/-- N recorder slots fit the devices that work, with capacities in 16 MiB (R626, R627). -/
def slotsFit (s : State) (n : Nat) : Bool :=
  let cap := fun d => s.fld (R.STO_DEV d) F.STO_DEV.CAP
  (devFailed s 0 || decide (688 + 56 * ((n + 1) / 2) ≤ 16 * cap 0)) && (devFailed s 1 || decide (240 + 56 * (n / 2) ≤ 16 * cap 1))

/-- The largest N up to a limit that fits, at least 2 (R627). -/
def slotsMost (s : State) : Nat → Nat
  | 0 => 0
  | n + 1 => if slotsFit s (n + 1) then n + 1 else slotsMost s n

/-- A layout with N slots in force. -/
def putLayout (n : Nat) (s : State) : State :=
  let s := { s with sto := { s.sto with laid := true, n := n } }
  setFlds R.STO_STAT [(F.STO_STAT.REC_SLOTS, n), (F.STO_STAT.LAYOUT_OK, 1)] s

/-- The recorder's slots are emptied. -/
def slotsEmpty (s : State) : State := { s with rcd := { s.rcd with slots := [], lastSlot := none, cur := none } }

/-- R628: the checks of a FORMAT beyond privilege: SERVICE, and an N that fits. -/
def formatStatus (s : State) : Nat :=
  if s.mode ≠ Mode.service then St.wrongMode
  else if slotsFit s (s.fld R.STO_CFG F.STO_CFG.REC_SLOTS) then St.ok else St.badParam

/-- R628: the recorder slots are laid out anew. -/
def formatDo (s : State) : State :=
  let s := slotsEmpty (putLayout (s.fld R.STO_CFG F.STO_CFG.REC_SLOTS) s)
  (recArm s).raise EV.STO_FORMAT 0xFF []

/-- The loader's factory release (R627). -/
def factory : Release :=
  { ver := Config.factoryVer.toNat, roll := Config.factoryRoll.toNat,
    fmts := (List.range 5).map fun p => let f := Config.factoryFmt p; (f.1.toNat, f.2.1.toNat, f.2.2.toNat) }

/-- R627: both devices are blank and are formatted: nothing that storage held is left, and the factory release is written
into image set 0. -/
def formatBoth (s : State) : State :=
  let n := slotsMost s (s.fld R.STO_CFG F.STO_CFG.REC_SLOTS)
  let s := slotsEmpty { s with ev := { s.ev with ring := [] }, audit := { s.audit with ring := [] } }
  let s := { s with sto := { s.sto with sets := [(0, factory)], active := 0, gen := 1 }, life := { s.life with slots := [] } }
  let s := { s with plc := { s.plc with slots := [] }, trx := { s.trx with stored := [], demag := 0 } }
  let s := forEach [0, 1, 2] (fun a s => s.setAct a { s.actOf a with mirror := none }) s
  (putLayout n s).raise EV.STO_FORMAT 0xFF []

/-- R627: device d alone holds no valid descriptor and is formatted to match the other; what it held alone is lost. -/
def formatOne (d : Nat) (s : State) : State :=
  let s := if d = 1 then { s with ev := { s.ev with ring := [] } } else { s with upd := {} }
  { s with rcd := { s.rcd with slots := s.rcd.slots.filter fun p => p.1 % 2 != d } }

/-- What boot finds of the devices (R623 to R627): none for one that does not complete its initialisation. -/
def bootDevices (d0 d1 : Option EmmcInfo) (s : State) : State :=
  let one := fun (d : Nat) (x : Option EmmcInfo) (s : State) =>
    match x with
    | none => devFail d s
    | some x => devHealth d x.lifeA x.lifeB x.eol (s.setFld (R.STO_DEV d) F.STO_DEV.CAP (min 512 x.cap))
  let s := one 1 d1 (one 0 d0 s)
  let valid := fun (x : Option EmmcInfo) => match x with | some x => s.sto.laid && !x.blank | none => false
  if devFailed s 0 && devFailed s 1 then recFound s
  else if !valid d0 && !valid d1 then recFound (formatBoth s)
  else
    let s := if d0.isSome && !valid d0 then formatOne 0 s else if d1.isSome && !valid d1 then formatOne 1 s else s
    recFound (putLayout s.sto.n s)

/-! ### The log rings (R582, R584, R632 to R634) -/

/-- An event entry's 32 bytes (R632). -/
def EvEntry.bytes (x : EvEntry) : List Byte :=
  let l := leBytes 8 x.stamp ++ leBytes 2 x.code ++ leBytes 1 x.flags ++ leBytes 1 x.subject ++
    (x.detail ++ List.replicate (16 - x.detail.length) 0).take 16
  l ++ leBytes 4 (crc32c l)

/-- The marker returned for a missing event entry (R634). -/
def evMissing (n : Nat) : EvEntry := { num := n, stamp := 0, code := 0, flags := 4, subject := 0xFF, detail := leBytes 5 n }

/-- An audit entry's 32 bytes (R583). -/
def AuditEntry.bytes (a : AuditEntry) : List Byte := a.body ++ leBytes 2 a.chain

/-- The marker returned for a missing audit entry (R584). -/
def auditMissing (n : Nat) : List Byte :=
  leBytes 8 0 ++ leBytes 1 0x0B ++ List.replicate 9 0 ++ leBytes 5 n ++ List.replicate 9 0

/-- Event entry n: from the buffer, or from its slot of the ring. -/
def evEntry (s : State) (n : Nat) : EvEntry :=
  match s.ev.buf.find? (fun x => x.num == n) with
  | some x => x
  | none => match AMap.get? s.ev.ring (n % 2 ^ 21) with
    | some x => if x.num = n ∧ !devFailed s 1 then x else evMissing n
    | none => evMissing n

/-- EVENT_READ (R634). -/
def eventRead (s : State) (first count : Nat) : Reply :=
  let next := s.fld R.LOG_EVENT_NEXT F.LOG_EVENT_NEXT.NEXT
  if first + 2 ^ 21 < next ∨ next ≤ first then ⟨St.badParam, []⟩
  else ⟨St.ok, (List.range (min count (next - first))).flatMap fun k => (evEntry s (first + k)).bytes⟩

/-- Audit entry n's bytes; a damaged-entry marker in the buffer is returned as a missing entry (R584). -/
def auditEntry (s : State) (n : Nat) : List Byte :=
  match s.audit.buf.find? (fun x => x.num == n) with
  | some x => if x.kind = 0x0B then auditMissing n else x.bytes
  | none => match AMap.get? s.audit.ring (n % 2 ^ 20) with
    | some x => if x.num = n then x.bytes else auditMissing n
    | none => auditMissing n

/-- AUDIT_READ (R584). -/
def auditRead (s : State) (first count : Nat) : Reply :=
  let next := s.fld R.CMD_AUDIT_NEXT F.CMD_AUDIT_NEXT.NEXT
  if first + 2 ^ 20 < next ∨ next ≤ first then ⟨St.badParam, []⟩
  else ⟨St.ok, (List.range (min count (next - first))).flatMap fun k => auditEntry s (first + k)⟩

/-- R581: with space again, the gap entry carries the count of the entries lost. -/
def auditGap (s : State) : State :=
  if s.audit.lostRun = 0 || s.auditFull then s
  else
    let n := s.audit.lostRun
    auditPush { auditOf reqInternal 0x0A 0 n 0 0 0 with dt := s.dt } { s with audit := { s.audit with lostRun := 0 } }

/-- R629: a block that fails its check on EMMC0 is repaired from EMMC1. -/
def stoRepair (bad : Bool) (s : State) : State :=
  if bad && !devFailed s 0 && !devFailed s 1 then (s.setBit R.STO_FLAGS F.STO_FLAGS.REPAIR true).raise EV.STO_REPAIR 0xFF [] else s

/-- R582: the n oldest buffered audit entries move to the mirrored ring; `bad` says that a mirrored read met a block that
failed its check. A damaged-entry marker is not stored. -/
def auditDrain (n : Nat) (bad : Bool) (s : State) : State :=
  if !s.sto.laid || (devFailed s 0 && devFailed s 1) then s
  else
    let ring := ((s.audit.buf.take n).filter fun a => a.kind != 0x0B).foldl (fun m a => AMap.ins m (a.num % 2 ^ 20) a) s.audit.ring
    let s := { s with audit := { s.audit with ring := ring, buf := s.audit.buf.drop n, fullRun := s.audit.fullRun && n == 0 } }
    let s := s.setFld R.CMD_AUDIT_STAT F.CMD_AUDIT_STAT.FILL s.audit.buf.length
    stoRepair bad (auditGap s)

def execAuditDrain (e : Nat) (n : Nat) (bad : Bool) (s : State) : Host.Outcome State Fault Refusal :=
  .next (auditDrain n bad (s.tick e))

/-- R633: the n oldest buffered event entries move to the ring on EMMC1; with space again a GAP entry carries the count of
the events lost. -/
def eventDrain (n : Nat) (s : State) : State :=
  if !s.sto.laid || devFailed s 1 then s
  else
    let ring := (s.ev.buf.take n).foldl (fun m x => AMap.ins m (x.num % 2 ^ 21) x) s.ev.ring
    let s := { s with ev := { s.ev with ring := ring, buf := s.ev.buf.drop n } }
    let s := s.setFld R.LOG_EVENT_STAT F.LOG_EVENT_STAT.FILL s.ev.buf.length
    if s.ev.lostRun = 0 ∨ 16383 ≤ s.ev.buf.length then s
    else
      let k := min 65535 s.ev.lostRun
      evAppend 0 0xFF 2 s.dt (leBytes 2 k) { s with ev := { s.ev with lostRun := 0 } }

def execEventLogDrain (e : Nat) (n : Nat) (s : State) : Host.Outcome State Fault Refusal := .next (eventDrain n (s.tick e))

/-! ### Manifest and staging (R642 to R645) -/

/-- The states of `UPD_STAT.STATE`. -/
abbrev Up.idle : Nat := 0
abbrev Up.receiving : Nat := 1
abbrev Up.checking : Nat := 2
abbrev Up.checked : Nat := 3
abbrev Up.activating : Nat := 4
abbrev Up.switched : Nat := 5
abbrev Up.committing : Nat := 6
abbrev Up.failed : Nat := 7

/-- The update's state. -/
def updState (s : State) : Nat := s.fld R.UPD_STAT F.UPD_STAT.STATE

/-- An update in progress that R653 protects. -/
def updBusy (s : State) : Bool := decide (4 ≤ updState s ∧ updState s ≤ 6)

/-- The manifest's bytes from its stored blocks. -/
def manBytes (u : Upd) : List Byte :=
  ((List.range ((u.len + 4095) / 4096)).flatMap fun k => AMap.getD u.man k []).take u.len

/-- A little-endian number at an offset. -/
def leAt (l : List Byte) (off n : Nat) : Nat := ofLe ((l.drop off).take n)

/-- Data blocks of the manifest. -/
def manB (l : List Byte) : Nat := leAt l 28 4

/-- The manifest's release. -/
def relOf (l : List Byte) : Release :=
  { ver := leAt l 4 4, roll := leAt l 8 1,
    fmts := (List.range 5).map fun p => (leAt l (84 + 32 * p) 2, leAt l (86 + 32 * p) 2, leAt l (88 + 32 * p) 2) }

/-- Bytes of a range are 0. -/
def zerosAt (l : List Byte) (off n : Nat) : Bool := ((l.drop off).take n).all (· == 0)

/-- Check 1: a field breaks R642. -/
def manFormat (l : List Byte) (L : Nat) : Bool :=
  let part := fun (p : Nat) =>
    let o := 64 + 32 * p
    let size := leAt l (o + 8) 4
    let first := ((List.range p).map fun q => leAt l (80 + 32 * q) 4).foldl (· + ·) 0
    leAt l o 1 == p + 1 && zerosAt l (o + 1) 3 && leAt l (o + 12) 4 == first && leAt l (o + 16) 4 == (size + 4095) / 4096 &&
      zerosAt l (o + 26) 6
  let total := ((List.range 5).map fun q => leAt l (80 + 32 * q) 4).foldl (· + ·) 0
  leAt l 0 1 == 1 && leAt l 1 1 == 5 && zerosAt l 9 7 && leAt l 24 4 == L && L == 288 + 4 * manB l && zerosAt l 32 32 &&
    (List.range 5).all part && total == manB l

/-- Checks 1 to 4 (R645): the code of the first that fails, 0 for none. -/
def manCheck (s : State) (l : List Byte) : Nat :=
  let sizes := ((List.range 5).map fun p => leAt l (72 + 32 * p) 4).foldl (· + ·) 0
  if !manFormat l s.upd.len then 1
  else if leAt l 2 2 ≠ 0x4818 then 2
  else if leAt l 8 1 < s.sto.otp then 3
  else if 32 * 2 ^ 20 < sizes then 4 else 0

/-- Every manifest block is stored. -/
def manStored (u : Upd) : Bool := (List.range ((u.len + 4095) / 4096)).all fun k => (AMap.get? u.man k).isSome

/-- Every block is stored. -/
def allStored (u : Upd) : Bool := manStored u && (List.range (manB (manBytes u))).all fun k => (AMap.get? u.data k).isSome

/-- The audit entry of an update step (R652). -/
def updAudit (r : Req) (step status : Nat) (s : State) : State :=
  s.auditAdd (auditOf r 4 0 step (s.fld R.UPD_VER F.UPD_VER.VERSION) (s.fld R.UPD_NEW F.UPD_NEW.VERSION) status)

/-- Entering a state of the update. -/
def updGo (st : Nat) (s : State) : State := s.setFld R.UPD_STAT F.UPD_STAT.STATE st

/-- A failure code recorded, flagged and reported (R645, R646, R650). -/
def updFail (code : Nat) (s : State) : State :=
  let s := (s.setFld R.UPD_STAT F.UPD_STAT.FAIL code).setBit R.STO_FLAGS F.STO_FLAGS.UPD_FAIL true
  s.raise EV.UPD_FAILED 0xFF [(1, code)]

/-- A failed check ends in FAILED (R645). -/
def updCheckFail (r : Req) (code : Nat) (s : State) : State := updAudit r 4 0 (updFail code (updGo Up.failed s))

/-- UPD_BEGIN (R643, R624): L bytes of manifest. -/
def updBegin (r : Req) (L : Nat) (s : State) : Nat × State :=
  let st := updState s
  if updBusy s then (St.busy, s)
  else if s.mode = Mode.standby ∨ devFailed s 0 ∨ st = Up.checking then (St.wrongMode, s)
  else if L < 292 ∨ 33056 < L then (St.badParam, s)
  else
    let s := { s with upd := { len := L } }
    let s := setFlds R.UPD_STAT [(F.UPD_STAT.STATE, Up.receiving), (F.UPD_STAT.FAIL, 0), (F.UPD_STAT.RECEIVED, 0), (F.UPD_STAT.TOTAL, 0)] s
    (St.ok, updAudit r 1 0 (s.setReg R.UPD_NEW 0))

/-- The blocks stored are shown. -/
def updCount (s : State) : State := s.setFld R.UPD_STAT F.UPD_STAT.RECEIVED (s.upd.man.length + s.upd.data.length)

/-- The manifest is complete (R645): its totals are shown and checks 1 to 4 run. -/
def manDone (r : Req) (s : State) : State :=
  let l := manBytes s.upd
  let rel := relOf l
  let s := s.setFld R.UPD_STAT F.UPD_STAT.TOTAL ((s.upd.len + 4095) / 4096 + manB l)
  let s := setFlds R.UPD_NEW [(F.UPD_NEW.COUNT, rel.roll), (F.UPD_NEW.VERSION, rel.ver)] s
  let s := updAudit r 2 0 s
  match manCheck s l with
  | 0 => s
  | c => updCheckFail r c s

/-- UPD_BLOCK (R643, R644). -/
def updBlock (r : Req) (kind num : Nat) (bytes : List Byte) (s : State) : Nat × State :=
  if s.mode = Mode.standby ∨ devFailed s 0 ∨ updState s ≠ Up.receiving then (St.wrongMode, s)
  else if kind = 0 then
    if (s.upd.len + 4095) / 4096 ≤ num then (St.badParam, s)
    else
      let was := manStored s.upd
      let s := updCount { s with upd := { s.upd with man := AMap.ins s.upd.man num bytes } }
      (St.ok, if manStored s.upd && !was then manDone r s else s)
  else if kind = 1 then
    if !manStored s.upd then (St.wrongMode, s)
    else
      let l := manBytes s.upd
      if manB l ≤ num ∨ crc32c bytes ≠ leAt l (224 + 4 * num) 4 then (St.badParam, s)
      else (St.ok, updCount { s with upd := { s.upd with data := AMap.ins s.upd.data num bytes } })
  else (St.badParam, s)

/-- UPD_CHECK (R643). -/
def updCheck (s : State) : Nat × State :=
  if s.mode = Mode.standby ∨ updState s ≠ Up.receiving ∨ !allStored s.upd then (St.wrongMode, s)
  else (St.ok, updGo Up.checking s)

/-- Check 8: for some part an import range excludes the export format of the other release. -/
def incompat (a b : Release) : Bool :=
  (List.range 5).any fun p =>
    let (xa, la, ha) := a.fmts.getD p (0, 0, 0)
    let (xb, lb, hb) := b.fmts.getD p (0, 0, 0)
    decide (xa < lb ∨ hb < xa ∨ xb < la ∨ ha < xb)

/-- Checks 5 to 8 (R645); `bad` says that a staged block, read back, fails its CRC. -/
def updChecks (s : State) (bad : Bool) : Nat :=
  let l := manBytes s.upd
  let n := l.length
  let sig := l.drop (n - 64)
  if !allStored s.upd then 5
  else if bad then 6
  else if !Config.sigVerifies (ofBe (sha256 (l.take (n - 64)))) (ofBe (sig.take 32)) (ofBe (sig.drop 32)) then 7
  else if incompat s.sto.run (relOf l) then 8 else 0

/-- R645: the checks under UPD_CHECK complete. -/
def updChecked (bad : Bool) (s : State) : State :=
  if updState s ≠ Up.checking then s
  else match updChecks s bad with
  | 0 => (updAudit reqInternal 3 0 (updGo Up.checked s)).raise EV.UPD_CHECKED 0xFF []
  | c => updCheckFail reqInternal c s

def execUpdChecked (e : Nat) (bad : Bool) (s : State) : Host.Outcome State Fault Refusal := .next (updChecked bad (s.tick e))

/-! ### The leapfrog handover (R646 to R653) -/

/-- UPD_ACTIVATE (R646); after a boot failure it commits directly (R651). -/
def updActivate (r : Req) (s : State) : Nat × State :=
  if s.mode = Mode.standby ∨ updState s ≠ Up.checked then (St.wrongMode, s)
  else
    let direct := s.bit R.DEV_MODE F.DEV_MODE.BOOT_FAIL
    let s := { s with upd := { s.upd with at_ := s.dt, direct := direct } }
    (St.ok, updAudit r 5 0 (updGo (if direct then Up.committing else Up.activating) (s.setFld R.UPD_STAT F.UPD_STAT.FAIL 0)))

/-- R646, R653: an activation ends without switching, with a failure code. -/
def updEndActivation (code : Nat) (s : State) : State :=
  if updState s = Up.activating then updFail code (updGo Up.checked s) else s

/-- R646: parts are not ready within 3 s, or one failed to start or to import; the codes are 0x9 START, 0xA READY_TIMEOUT
and 0xB EXCHANGE. -/
def updReadyTimeout (why : Nat) (s : State) : State :=
  if updState s ≠ Up.activating then s
  else
    let s := if why = 1 then s.until (s.upd.at_ + 600000000) else s
    updEndActivation (9 + why) s

def execUpdReadyTimeout (e : Nat) (why : Fin 3) (s : State) : Host.Outcome State Fault Refusal :=
  .next (updReadyTimeout why (s.tick e))

/-- The running release shown in `UPD_VER`. -/
def putRun (x : Release) (s : State) : State :=
  let s := { s with sto := { s.sto with run := x } }
  setFlds R.UPD_VER [(F.UPD_VER.COUNT, s.sto.otp), (F.UPD_VER.VERSION, x.ver)] s

/-- The reference timebase: the running one of longest period, the lower number on a tie (R647). -/
def refTb (s : State) : Option Nat :=
  (List.range 6).foldl (fun a j =>
    if (s.tbOf j).run && (match a with | some k => decide ((s.tbOf k).len < (s.tbOf j).len) | none => true) then some j else a) none

/-- The switch tick for something that falls now (R647): the first boundary of the reference timebase from now on; the next
glove checkpoint where no timebase runs. -/
def switchTick (s : State) : Nat :=
  match refTb s with
  | some j =>
    let t := s.tbOf j
    let b := if s.dt ≤ t.b then t.b else nextB s j
    b + (s.dt - b + t.len - 1) / max 1 t.len * t.len
  | none => (s.dt + 9999) / 10000 * 10000

/-- R646, R647: the last part reports ready now, and the banks switch at S; a report 3 s after the reply comes too late. -/
def updSwitched (s : State) : State :=
  if updState s ≠ Up.activating then s
  else if s.upd.at_ + 600000000 ≤ s.dt then updReadyTimeout 1 s
  else
    let s := s.until (switchTick s)
    let s := { s with upd := { s.upd with at_ := s.dt, old := s.sto.run } }
    let s := updAudit reqInternal 6 0 s
    (updGo Up.switched (putRun (relOf (manBytes s.upd)) s)).raise EV.UPD_SWITCHED 0xFF []

def execUpdSwitched (e : Nat) (s : State) : Host.Outcome State Fault Refusal := .next (updSwitched (s.tick e))

/-- R649: the parts return to their old banks with a cause; `old` says that one resumed from the record of S. -/
def leapBack (r : Req) (cause : Nat) (old : Bool) (s : State) : State :=
  let s := putRun s.upd.old s
  let s := setFlds R.UPD_STAT [(F.UPD_STAT.FALLBACK, cause), (F.UPD_STAT.STATE_OLD, b2n old), (F.UPD_STAT.STATE, Up.checked)] s
  updAudit r 7 0 ((s.setBit R.STO_FLAGS F.STO_FLAGS.FALLBACK true).raise EV.UPD_FALLBACK 0xFF [])

/-- R648, R649: the fallback window ends without a confirmation, and the parts leap back at the switch tick. -/
def updWindowExpiry (s : State) : State :=
  if updState s ≠ Up.switched then s
  else
    let s := s.until (s.upd.at_ + 2000000000)
    leapBack reqInternal 2 false (s.until (switchTick s))

def execUpdWindowExpiry (e : Nat) (s : State) : Host.Outcome State Fault Refusal := .next (updWindowExpiry (s.tick e))

/-- R649: a new bank fails (0b011), the first interval of the new SAFETY bank disagrees (0b100), or the exchange has an
uncorrectable error (0b101); the parts leap back at the switch tick chosen from now. -/
def updFallback (cause : Nat) (old : Bool) (s : State) : State :=
  if updState s ≠ Up.switched then s else leapBack reqInternal (3 + cause) old (s.until (switchTick s))

def execUpdFallback (e : Nat) (cause : Fin 3) (old : Bool) (s : State) : Host.Outcome State Fault Refusal :=
  .next (updFallback cause old (s.tick e))

/-- UPD_CONFIRM (R643, R648). -/
def updConfirm (s : State) : Nat × State :=
  if s.mode = Mode.standby ∨ updState s ≠ Up.switched ∨ s.upd.at_ + 2000000000 ≤ s.dt then (St.wrongMode, s)
  else (St.ok, updGo Up.committing s)

/-- UPD_ABORT (R643, R649, R653). -/
def updAbort (r : Req) (s : State) : Nat × State :=
  let st := updState s
  if st = Up.committing then (St.busy, s)
  else if s.mode = Mode.standby then (St.wrongMode, s)
  else if st = Up.idle then (St.ok, s)
  else if st = Up.switched then (St.ok, leapBack r 1 false s)
  else if st = Up.activating then (St.ok, updAudit r 9 0 (updFail 0xD (updGo Up.checked s)))
  else (St.ok, updAudit r 9 0 (({ s with upd := {} }).setFld R.UPD_STAT F.UPD_STAT.FAIL 0xD |> updGo Up.idle))

/-- R650, R651: the commit's writes have ended, without or with a storage error. After a boot failure a warm reset follows
1 ms later, which `RESET_DELAY_EXPIRY` carries out. -/
def updCommitted (ok : Bool) (s : State) : State :=
  if updState s ≠ Up.committing then s
  else if ok then
    let x := relOf (manBytes s.upd)
    let set := 1 - s.sto.active % 2
    let sto := { s.sto with sets := AMap.ins s.sto.sets set x, active := set, gen := s.sto.gen + 1, otp := max s.sto.otp x.roll }
    let direct := s.upd.direct
    let s := { s with sto := sto }
    let s := s.setFld R.UPD_VER F.UPD_VER.COUNT s.sto.otp
    let s := updAudit reqInternal 8 0 s
    let s := (updGo Up.idle { s with upd := {} }).raise EV.UPD_COMMITTED 0xFF []
    if direct then { s with boot := { s.boot with resetDue := some (s.dt + 200000) } } else s
  else
    let direct := s.upd.direct
    updFail 0xC (updGo (if direct then Up.checked else Up.switched) { s with upd := { s.upd with at_ := s.dt } })

def execUpdCommitted (e : Nat) (ok : Bool) (s : State) : Host.Outcome State Fault Refusal := .next (updCommitted ok (s.tick e))

/-- R643, R653: what a reset leaves of an update. -/
def updReset (s : State) : State :=
  if updBusy s then updGo Up.checked s else { (s.setReg R.UPD_STAT 0).setReg R.UPD_NEW 0 with upd := {} }

end Sys2Proof.Machine
end

