-- ==== Sys2Proof/Machine/Modes.lean ====
section
/-! DEFINITION. Modes (spec/02_modes_and_startup.md): entry conditions, mode requests, transitions and what each entry
does, held requests, the orderly stop, the discharge, STO and the real-time clock. -/

namespace Sys2Proof.Machine

/-! ### Entry conditions (`DEV_ENTRY_BLOCK`) -/

/-- The DC link is outside the operating range (R398). -/
def linkOut (s : State) : Bool :=
  decide (s.fld R.DCL_STAT F.DCL_STAT.VLINK < 2 * s.fld R.DCL_HYS F.DCL_HYS.VLOW) ||
    s.bit R.DCL_STAT F.DCL_STAT.CHOP_CMP || s.bit R.DCL_STAT F.DCL_STAT.MON_FAULT

/-- A converter whose last verdict is a failure, among the kinds given. -/
def preFailed (s : State) (kinds : List Nat) : Bool :=
  (convs s).any fun c => kinds.contains c.kind && (s.convOf c.index).failed

/-- Both filtered STO levels are high. -/
def stoBoth (s : State) : Bool := s.bit R.DEV_STO_STAT F.DEV_STO_STAT.STO_A && s.bit R.DEV_STO_STAT F.DEV_STO_STAT.STO_B

/-- `DEV_ENTRY_BLOCK` as it reads; the boot sequence leaves it at its reset value. -/
def entryBits (s : State) : Nat :=
  if s.mode = Mode.boot then s.fld R.DEV_ENTRY_BLOCK ⟨9, 0⟩
  else
    let bits := [s.plant.isNone,
      (List.range 48).any (fun n => islUsed s n && lockedOut s n) ||
        (!s.bit R.ACT_LV_STAT F.ACT_LV_STAT.VAUX_OK && !(convsKind s 5).isEmpty),
      !allCal s,
      !refSettled s,
      s.bit R.PROT_PRE_STAT F.PROT_PRE_STAT.RUNNING || (convs s).any (fun c => (s.convOf c.index).verdict.isNone),
      preFailed s [0, 1, 2, 3, 4, 5, 6],
      !stoBoth s,
      linkOut s,
      s.fld R.DEV_SAFE_CAUSE ⟨11, 0⟩ != 0,
      [0, 1].any (fun m => (machConv s m).isSome && atOrAboveNas s m)]
    (List.range 10).foldl (fun a b => if bits.getD b false then setBitN a b else a) 0

/-- The unmet conditions of a request for a mode (R41): those of DRIVE and CHARGE, or of the exit from SAFE. -/
def unmet (s : State) (m : Nat) : List Nat :=
  let eb := entryBits s
  if s.mode = Mode.safe then (bitsOf 10 eb).filter (8 ≤ ·)
  else (bitsOf 8 eb).filter fun b => !(b == 5 && m == Mode.charge && !preFailed s [1, 3, 4])

/-- The status of a refusal (R42). -/
def refusal (l : List Nat) : Nat :=
  if l.all ([2, 3, 4, 9].contains ·) then St.busy
  else if l == [0] then St.refusedByPlacer
  else St.wrongMode

/-! ### Beginning a transition -/

/-- A transition to mode m begins (R45, R46). -/
def beginTrans (m : Nat) (t : Trans) (s : State) : State :=
  { (s.setBit R.DEV_MODE F.DEV_MODE.TRANSIT true).setFld R.DEV_MODE F.DEV_MODE.TARGET m with trans := some t }

/-- The lifetime mirror of a STANDBY request (R496, R497): one being written is left to complete first. -/
def standbyMirror (s : State) : State :=
  if mirrorBusy s then s
  else mirrorStart 2 (match s.trans with | some t => { s with trans := some { t with mir := 2 } } | none => s)

/-- STANDBY is requested from READY (R40, R70, R72, R423, R497, R639). -/
def standbyRequest (r : Req) (s : State) : Nat × State :=
  let low := decide (s.fld R.DCL_STAT F.DCL_STAT.VLINK < 120)
  if !low && !(s.bit R.DEV_SHUT_CFG F.DEV_SHUT_CFG.DISCH_EN && chopSound s) then (St.wrongMode, s)
  else
    let t : Trans := { disch := !low, began := s.dt, req := some r, mir := 1 }
    let s := recEnd 2 (standbyMirror (beginTrans Mode.standby t s))
    (St.ok, if low then s else linkEval { s with discharging := true })

/-- Holding a mode request in place of the one held before (R73, R74). -/
def holdMode (r : Req) (m : Nat) (s : State) : State :=
  let s := match s.heldMode with | some h => dropHeld h St.superseded s | none => s
  showHeld { s with heldMode := some ⟨r, m, s.dt⟩ }

/-- A mode request other than SAFE, decided now (R41 to R43, R73, R653): its status and effect. -/
def modeRequest (r : Req) (m : Nat) (s : State) : Nat × State :=
  let cur := s.mode
  if s.trans.isSome then (St.queued, holdMode r m s)
  else if m = cur then (St.ok, s)
  else if updBusy s ∧ (m = Mode.standby ∨ m = Mode.service) ∧ cur = Mode.ready then (St.busy, s)
  else
    let go := beginTrans m { began := s.dt, req := some r } s
    if cur = Mode.ready ∧ m = Mode.standby then standbyRequest r s
    else if cur = Mode.ready ∧ (m = Mode.drive ∨ m = Mode.charge) then
      let l := unmet s m
      if l.isEmpty then (St.ok, go) else (refusal l, s)
    else if cur = Mode.ready ∧ m = Mode.service then
      if privileged s r then (St.ok, { go with service := r.session }) else (St.denied, s)
    else if (cur = Mode.drive ∨ cur = Mode.charge) ∧ m = Mode.ready then
      (St.ok, beginTrans m { began := s.dt, req := some r, stop := true } s)
    else if cur = Mode.service ∧ m = Mode.ready then (St.ok, go)
    else if cur = Mode.safe ∧ m = Mode.ready then
      let l := unmet s m
      if l.isEmpty then (St.ok, go) else (refusal l, s)
    else (St.wrongMode, s)

/-- SERVICE ends with its session (R41, R568): the transition to READY begins by itself. A session that ends on the way into
SERVICE is found gone as that transition completes. -/
def serviceEnds (s : State) : State :=
  let s := gloveResume { s with service := 0 }
  if s.mode = Mode.service ∧ s.trans.isNone then beginTrans Mode.ready { began := s.dt } s else s

/-! ### Held requests (R73 to R76) -/

/-- A held enable decided as if it had just arrived: its status and effect. -/
def heldEnable (c : Nat) (h : Held) (s : State) : Nat × State :=
  match convRec s c with
  | none => (St.wrongMode, s)
  | some k =>
    if k.kind = 0 then
      match chanOf s c with | some m => machEnable h.req m s | none => (St.wrongMode, s)
    else if k.kind = 5 then
      match (List.range 3).find? (fun a => actConv s a == some c) with
      | some a => actEnable h.req a s
      | none => (St.wrongMode, s)
    else if k.kind = 1 then
      let v := F.DCL_DCDC_CTRL.MODE.set (s.reg R.DCL_DCDC_CTRL) h.what
      if dcdcModeWrong s v || enableRefused s c then (St.wrongMode, s)
      else match s.trans with
        | some t => if t.stop then (St.queued, holdEnable c h.what h.req s) else (St.ok, linkEval (s.setReg R.DCL_DCDC_CTRL v))
        | none => (St.ok, linkEval ((hostEnables c s).setReg R.DCL_DCDC_CTRL v))
    else chgStart h.req s

/-- A held request's outcome (R75): one held again waits on; a mode request whose transition begins is told by EV_MODE as
that completes; any other is told by EV_QUEUED_DROPPED with the status it receives. -/
def heldOutcome (h : Held) (o : Nat × State) : State :=
  if o.1 = St.queued then o.2 else dropHeld h o.1 o.2

/-- The held mode request decided as if it had just arrived (R75). -/
def heldModeOutcome (h : Held) (s : State) : State :=
  let o := modeRequest h.req h.what s
  if o.1 = St.ok ∧ o.2.trans.isSome then o.2 else heldOutcome h o

/-- The requests held are evaluated once no transition is in progress (R75): the mode request first, then the enables by
converter. -/
def evalHeld (s : State) : State :=
  if s.trans.isSome then s
  else
    let hm := s.heldMode
    let hf := s.heldFn
    let s := showHeld { s with heldMode := none, heldFn := [] }
    let s := match hm with | some h => heldModeOutcome h s | none => s
    forEach hf (fun p s => heldOutcome p.2 (heldEnable p.1 p.2 s)) s

/-- The requests held are evaluated now, as a transition ends, unless the gloves keep their outputs back: then the next
interval released brings their decision (R45, R75). -/
def evalHeldNow (s : State) : State := if outputsKept s then s else evalHeld s

/-! ### Completing a transition (R46) -/

/-- Both cores' debug and the forced outputs end with SERVICE (R41, R208, R536). -/
def leaveService (s : State) : State :=
  let old := s.reg R.PWM_FORCE
  let s := if s.bit R.PWM_FORCE F.PWM_FORCE.EN then forceApply old (s.setFld R.PWM_FORCE F.PWM_FORCE.EN 0) else s
  gloveResume { s with service := 0 }

/-- READY is entered (R55 to R57, R137): `run` says from DRIVE or CHARGE, where calibration stays and a run starts only for
a converter without a verdict. -/
def enterReady (run : Bool) (s : State) : State :=
  let s := forEach (convs s) (fun c s =>
    let x := s.convOf c.index
    s.setConv c.index { x with
      ready := x.ready || bitN (s.fld R.PROT_STAT F.PROT_STAT.CONV_SAFE) c.index
      en := if c.kind = 6 then false else x.en }) s
  if run then
    if (convs s).any (fun c => (s.convOf c.index).verdict.isNone) then preStart s else s
  else
    let s := forEach (List.range 48) (fun n s =>
      if linkUp s n then (s.setBit (R.ISL_STAT n) F.ISL_STAT.CAL_DONE false).setIsl n { s.islOf n with calDue := true } else s) s
    preAfterCal { s with preDue := true }

/-- SAFE is left (R79, R187, R420): nFAULT is released, the machines leave the selector, the low-voltage brake has ended. -/
def leaveSafe (s : State) : State :=
  let ov1 := s.bit R.DCL_STAT F.DCL_STAT.OV1
  let s := { s with nfault := false, lvEnd := none }
  let s := gatesOff ((List.range 18).map (· + 64)) s
  forEach [0, 1] (fun m s =>
    let s := selDrop m Why.charge (selDrop m Why.stop (selDrop m Why.safe s))
    if ov1 then s else selDrop m Why.ov1 s) s

/-- DRIVE or CHARGE is entered: every stage may be enabled again; converters of KIND other run by the mode alone (R38); the
traction machines stand in their safe state in CHARGE. -/
def enterRun (m : Nat) (s : State) : State :=
  let s := forEach (convs s) (fun c s =>
    let x := s.convOf c.index
    s.setConv c.index { x with off := false, en := if c.kind = 6 then true else x.en, esc := x.esc && !(c.kind == 6 && !bitN (s.fld R.ENG_PAIR_CONV F.ENG_PAIR_CONV.CONV) c.index) }) s
  let s := { s with dcl := { s.dcl with testAt := s.dt, testBad := false }, chg := { s.chg with inCharge := m == Mode.charge } }
  if m = Mode.charge then forEach [0, 1] (fun k s => if (machConv s k).isSome then selHold k Why.charge s else s) s else s

/-- CHARGE is left: a session other than a locked one ends (R444), and the machines leave the selector. -/
def leaveCharge (s : State) : State :=
  let st := session s
  let s := if st = Ch.wait ∨ st = Ch.run ∨ st = Ch.handover ∨ st = Ch.suspend then chgEnd 8 s else s
  forEach [0, 1] (fun k s => selDrop k Why.charge s) s

/-- STANDBY is entered (R54, R75, R497, R639): held requests are dropped, the reference buffer goes off, CAN leaves the
buses, a mirror not complete fails, and D0 stops. -/
def enterStandby (s : State) : State :=
  let s := dropAll St.wrongMode s
  let s := refEnable false s
  let s := if mirrorBusy s then mirrorDone false s else s
  let s := canStandby s
  { s with discharging := false, boot := { s.boot with phase := .standby, since := s.el, stopAt := some s.el } }

/-- A transition completes (R46). The conditions of R41 were read as the request was decided; they are not read again
(assumption 79). -/
def finishTrans (t : Trans) (s : State) : State :=
  let old := s.mode
  let new := s.fld R.DEV_MODE F.DEV_MODE.TARGET
  let r := t.req.getD reqInternal
  let s := if old = Mode.service then leaveService s else s
  let s := if old = Mode.safe then leaveSafe s else s
  let s := if old = Mode.charge then leaveCharge s else s
  let s := putMode new t.forced r s
  let s := if new = Mode.service ∧ s.service = 0 then serviceEnds s else s
  let s := if new = Mode.ready then enterReady (old == Mode.drive || old == Mode.charge) s else s
  let s := if new = Mode.drive ∨ new = Mode.charge then enterRun new s else s
  if new = Mode.standby then enterStandby s else evalHeldNow (linkEval s)

/-- The orderly stop has turned the last stage off (R68). -/
def stopDone (s : State) : Bool := (convs s).all fun c => !convOn s c.index

/-- MODE_TRANSITION_COMPLETE: the transition in progress completes, if it can: an orderly stop with its last stage off; a
discharge only by its own end; STANDBY with its mirror written, or 2 s after the request (R497). -/
def transComplete (s : State) : State :=
  match s.trans with
  | none => s
  | some t =>
    if t.stop && !stopDone s then s
    else if t.disch then s
    else if s.fld R.DEV_MODE F.DEV_MODE.TARGET = Mode.standby then
      finishTrans t (if mirrorBusy s then s.until (t.began + 400000000) else s)
    else finishTrans t s

@[inherit_doc transComplete]
def execModeTransitionComplete (e : Nat) (s : State) : Host.Outcome State Fault Refusal := .next (transComplete (s.tick e))

/-- STOP_RAMP_TIMEOUT (R69): 2 × RAMP have passed in an orderly stop; the stages still on go off at their next boundary. -/
def stopTimeout (s : State) : State :=
  match s.trans with
  | none => s
  | some t =>
    if !t.stop || t.forced then s
    else
      let s := s.until (t.began + 2 * 200000 * s.fld R.DEV_SHUT_CFG F.DEV_SHUT_CFG.RAMP)
      if stopDone s then s else { s with trans := some { t with forced := true } }

@[inherit_doc stopTimeout]
def execStopRampTimeout (e : Nat) (s : State) : Host.Outcome State Fault Refusal := .next (stopTimeout (s.tick e))

/-- The chopper of a discharge goes off. -/
def dischargeOff (s : State) : State :=
  let s := { s with discharging := false }
  match chopper s with | some c => convDark c (s.setConv c { s.convOf c with en := false }) | none => s

/-- DISCHARGE_COMPLETE (R70): the link has stayed below 60 V for 10 ms, standing now at vl in the monitor's unit; STANDBY is
entered, once its mirror is complete (R497). -/
def dischargeComplete (vl : Nat) (s : State) : State :=
  let s := setVlink vl s
  match s.trans with
  | none => s
  | some t =>
    if !t.disch || decide (120 ≤ vl) then s
    else
      let s := { dischargeOff s with trans := some { t with disch := false } }
      if mirrorBusy s then s else transComplete s

@[inherit_doc dischargeComplete]
def execDischargeComplete (e : Nat) (vl : BitVec 13) (s : State) : Host.Outcome State Fault Refusal :=
  .next (dischargeComplete vl.toNat (s.tick e))

/-- DISCHARGE_LIMIT_EXPIRY (R72): the link is still not below 60 V. One that is, its 10 ms not yet over, goes on. -/
def dischargeLimit (s : State) : State :=
  match s.trans with
  | none => s
  | some t =>
    if t.disch then
      let s := s.until (t.began + 200000 * s.fld R.DEV_SHUT_CFG F.DEV_SHUT_CFG.DISCH_LIMIT)
      if vlink s < 120 then s else evalHeldNow (dischargeStops s)
    else s

@[inherit_doc dischargeLimit]
def execDischargeLimitExpiry (e : Nat) (s : State) : Host.Outcome State Fault Refusal := .next (dischargeLimit (s.tick e))

/-! ### STO (R81 to R83) -/

/-- The STO inputs are watched: not in the boot sequence and not in STANDBY (R63, R65). -/
def stoWatched (s : State) : Bool := s.boot.phase == .run

/-- The field of a filtered level: 0 STO_A, 1 STO_B. -/
def stoFld (pin : Nat) : Fld := if pin = 0 then F.DEV_STO_STAT.STO_A else F.DEV_STO_STAT.STO_B

/-- The filtered levels have changed: since when they differ, and since when both are high (R78, R82). -/
def stoChanged (s : State) : State :=
  let a := s.bit R.DEV_STO_STAT F.DEV_STO_STAT.STO_A
  let b := s.bit R.DEV_STO_STAT F.DEV_STO_STAT.STO_B
  let at_ := if a == b then none else (s.boot.stoDiff <|> some s.dt)
  { s with stoHigh := if a && b then (s.stoHigh <|> some s.dt) else none, stoTold := s.stoTold && a != b
           boot := { s.boot with stoDiff := at_ } }

/-- STO_FILTER_EXPIRY (R81, R83): STO_A (0) or STO_B (1) has been low for longer than `FILTER`. -/
def stoFilter (pin : Nat) (s : State) : State :=
  if !stoWatched s then s
  else
    let s := stoChanged (s.setBit R.DEV_STO_STAT (stoFld pin) false)
    enterSafe Cause.sto reqInternal (jWrite 7 .none s)

@[inherit_doc stoFilter]
def execStoFilterExpiry (e : Nat) (pin : Fin 2) (s : State) : Host.Outcome State Fault Refusal := .next (stoFilter pin (s.tick e))

/-- STO_DISCREPANCY (R82): the filtered levels have differed for longer than `DISCREP`, at the tick at which that time
expires; told once for each discrepancy. -/
def stoDiscrepancy (s : State) : State :=
  match s.boot.stoDiff with
  | none => s
  | some t =>
    if !stoWatched s || s.stoTold then s
    else
      let s := s.until (t + 200000 * s.fld R.DEV_STO_CFG F.DEV_STO_CFG.DISCREP)
      let s := { s.setBit R.DEV_SAFE_CAUSE F.DEV_SAFE_CAUSE.STO_DISCREP true with stoTold := true }
      enterSafe Cause.stoDiscrep reqInternal (s.raise EV.STO_DISCREPANCY 0xFF
        [(1, s.fld R.DEV_STO_STAT F.DEV_STO_STAT.STO_A), (1, s.fld R.DEV_STO_STAT F.DEV_STO_STAT.STO_B)])

@[inherit_doc stoDiscrepancy]
def execStoDiscrepancy (e : Nat) (s : State) : Host.Outcome State Fault Refusal := .next (stoDiscrepancy (s.tick e))

/-- FILTERED_LEVEL_CHANGE (R83, R508): STO_A (0) or STO_B (1) is high again, or WAKE (2) has changed. A fall of an STO input
is R81's. -/
def levelChange (pin : Nat) (level : Bool) (s : State) : State :=
  if !stoWatched s then s
  else if pin = 2 then jWrite 7 .none s
  else if !level || s.bit R.DEV_STO_STAT (stoFld pin) then s
  else
    jWrite 7 .none (stoChanged (s.setBit R.DEV_STO_STAT (stoFld pin) true))

@[inherit_doc levelChange]
def execFilteredLevelChange (e : Nat) (pin : Fin 3) (level : Bool) (s : State) : Host.Outcome State Fault Refusal :=
  .next (levelChange pin level (s.tick e))

/-- LINK_60V (R80): in SERVICE with a core halted or an output forced, the link reaches 60 V, standing at vl. With a halt on its
way GL stands halted already (R533). -/
def link60 (vl : Nat) (s : State) : State :=
  let s := setVlink vl s
  if s.mode = Mode.service ∧ 120 ≤ vl ∧ (s.bit R.GLV_STAT F.GLV_STAT.HALTED ∨ s.bit R.GLV_STAT F.GLV_STAT.HALT_PEND ∨ s.bit R.PWM_FORCE F.PWM_FORCE.EN) then
    enterSafe Cause.link60 reqInternal (leaveService s)
  else s

@[inherit_doc link60]
def execLink60v (e : Nat) (vl : BitVec 13) (s : State) : Host.Outcome State Fault Refusal := .next (link60 vl.toNat (s.tick e))

/-! ### Clearing SAFE causes (R78) -/

/-- The condition of a cause has ended (R78, R82, R421, R523, R530). For PROT, CMD, WARM_RESET, ISLAND_HELD and LINK_60V the spec
names no end: they count as ended as soon as they stand (DESIGN CHOICE, assumption 97). -/
def causeEnded (s : State) (b : Nat) : Bool :=
  match b with
  | 1 => stoBoth s
  | 2 => match s.stoHigh with | some t => decide (t + 200000000 ≤ s.dt) | none => false
  | 3 => decide (20000 ≤ s.fld R.GLV_STAT F.GLV_STAT.AGREE) && !s.glove.testBad
  | 5 => !s.bit R.DCL_STAT F.DCL_STAT.OV1
  | 6 => !s.bit R.DEV_CLK_STAT F.DEV_CLK_STAT.FALLBACK
  | 7 => s.bit R.DEV_SUPPLY F.DEV_SUPPLY.VANA_OK
  | 11 => !s.bit R.DEV_MODE F.DEV_MODE.BOOT_FAIL
  | _ => true

/-- A value written to `DEV_SAFE_CAUSE`: each cause named whose condition has ended is cleared; clearing OV2 releases its
latch. -/
def causeClear (v : Reg) (s : State) : State :=
  forEach (bitsOf 12 v.toNat) (fun b s =>
    if !causeEnded s b then s
    else
      let s := s.setBitAt R.DEV_SAFE_CAUSE ⟨11, 0⟩ b false
      if b = 5 then s.setBit R.DCL_STAT F.DCL_STAT.OV2 false else s) s

/-! ### The real-time clock (R66, R67) -/

/-- A write of `DEV_RTC` (R66). -/
def rtcWrite (v : Reg) (s : State) : State :=
  { s.setBit R.DEV_RTC F.DEV_RTC.SET true with boot := { s.boot with rtcSec := F.DEV_RTC.SEC.get v, rtcAt := s.el } }

/-- A write of `DEV_RTC_ALARM` is refused (R67). -/
def rtcAlarmBad (s : State) (v : Reg) : Bool :=
  F.DEV_RTC_ALARM.EN.get v != 0 && decide (F.DEV_RTC_ALARM.SEC.get v ≤ s.rtc / 256)

/-- The elapsed tick at which the clock reaches a second. -/
def rtcTick (s : State) (sec : Nat) : Nat := s.boot.rtcAt + (sec - s.boot.rtcSec) * 200000000

/-! ### VANA (R48, R54, R227) -/

/-- VANA_LOW: VANA falls below its falling threshold. -/
def vanaLow (s : State) : State :=
  if !s.bit R.DEV_SUPPLY F.DEV_SUPPLY.VANA_OK then s
  else
    let s := refUnsettle (s.setBit R.DEV_SUPPLY F.DEV_SUPPLY.VANA_OK false)
    if s.boot.phase == .standby then s
    else enterSafe Cause.vanaLow reqInternal (s.raise EV.SUPPLY_LOW 0xFF [])

@[inherit_doc vanaLow]
def execVanaLow (e : Nat) (s : State) : Host.Outcome State Fault Refusal := .next (vanaLow (s.tick e))

/-- VANA_GOOD: VANA rises above its rising threshold. -/
def vanaGood (s : State) : State :=
  if s.bit R.DEV_SUPPLY F.DEV_SUPPLY.VANA_OK then s else refStart (s.setBit R.DEV_SUPPLY F.DEV_SUPPLY.VANA_OK true)

@[inherit_doc vanaGood]
def execVanaGood (e : Nat) (s : State) : Host.Outcome State Fault Refusal := .next (vanaGood (s.tick e))

end Sys2Proof.Machine
end

