-- ==== Sys2Proof/Machine/Pair.lean ====
section
/-! DEFINITION. The electrical-mechanical pair (spec/19_electrical_mechanical_pair.md, R676 to R686): the messages of the
pair link, the partner's state, and what the pair functions decide at an agreed checkpoint. -/

namespace Sys2Proof.Machine

/-- A field of `PAIR_CFG` as a Boolean. -/
def pCfg (s : State) (f : Fld) : Bool := s.bit R.PAIR_CFG f

/-- T* of machine m in request terms (R676). -/
def tReq (s : State) (m : Nat) : Int :=
  let t := (s.trxOf m).t
  if s.bit (R.TRX_M_STAT m) F.TRX_M_STAT.DIR_ACT then -t else t

/-- The message this module's present state makes (R676). -/
def pairMsgNow (s : State) : PairMsg :=
  { ctr := s.pair.ctr, mode := s.mode, nfault := s.nfault, role := pCfg s F.PAIR_CFG.ROLE, holder := pCfg s F.PAIR_CFG.HOLDER,
    app := b2n (s.bit (R.PROT_SS_STAT 0) F.PROT_SS_STAT.APPLIED) + 2 * b2n (s.bit (R.PROT_SS_STAT 1) F.PROT_SS_STAT.APPLIED),
    chop := chopAvail s, dcdc := s.fld R.DCL_STAT F.DCL_STAT.DCDC_MODE,
    fe := (convsKind s 3).any (convOn s), sess := session s, t0 := tReq s 0, t1 := tReq s 1,
    vlink := s.fld R.DCL_STAT F.DCL_STAT.VLINK, dt := s.dt }

/-- A message's bytes 0 to 27. -/
def PairMsg.body (m : PairMsg) : List Byte :=
  leBytes 4 m.ctr ++ leBytes 1 (m.mode + 8 * b2n m.nfault + 16 * b2n m.role + 32 * b2n m.holder) ++
  leBytes 1 (m.app + 4 * b2n m.chop + 8 * m.dcdc + 32 * b2n m.fe) ++ leBytes 1 m.sess ++ leBytes 1 0 ++
  leBytes 5 (unsx 40 m.t0) ++ leBytes 5 (unsx 40 m.t1) ++ leBytes 2 m.vlink ++ leBytes 8 m.dt

/-- The message of 28 bytes. -/
def pairMsgOf (l : List Byte) : PairMsg :=
  let b4 := leAt l 4 1
  let b5 := leAt l 5 1
  { ctr := leAt l 0 4, mode := b4 % 8, nfault := bitN b4 3, role := bitN b4 4, holder := bitN b4 5,
    app := b5 % 4, chop := bitN b5 2, dcdc := b5 / 8 % 4, fe := bitN b5 5, sess := leAt l 6 1,
    t0 := sx 40 (leAt l 8 5), t1 := sx 40 (leAt l 13 5), vlink := leAt l 18 2, dt := leAt l 20 8 }

/-- The message m of an agreed checkpoint is sent (R676). -/
def pairSend (m : PairMsg) (s : State) : State :=
  let b := m.body
  { s with pair := { s.pair with ctr := (s.pair.ctr + 1) % 2 ^ 32, sent := b ++ leBytes 4 (crc32c b) } }

/-- The link goes down (R677). -/
def pairDown (s : State) : State :=
  let up := s.fld R.PAIR_STAT F.PAIR_STAT.LINK == 2
  let s := { s.setFld R.PAIR_STAT F.PAIR_STAT.LINK 0 with pair := { s.pair with run := 0 } }
  if up then (s.setBit R.PAIR_FLAGS F.PAIR_FLAGS.LINK_DOWN true).raise EV.PAIR_LINK_DOWN 0xFF [] else s

/-- PAIR_LINK_DOWN (R677): 1 ms has passed without a good message. -/
def pairLinkDown (s : State) : State :=
  if s.fld R.PAIR_STAT F.PAIR_STAT.LINK = 0 then s
  else match s.pair.last with
    | some t => pairDown (s.until (t + 200000))
    | none => pairDown s

@[inherit_doc pairLinkDown]
def execPairLinkDown (e : Nat) (s : State) : Host.Outcome State Fault Refusal := .next (pairLinkDown (s.tick e))

/-- What a good message shows in `PAIR_PEER`. -/
def pairPeer (m : PairMsg) (s : State) : State :=
  let i := R.PAIR_PEER
  let s := (s.setFld i F.PAIR_PEER.MODE m.mode).setBit i F.PAIR_PEER.NFAULT m.nfault
  let s := (s.setFld i F.PAIR_PEER.APPLIED m.app).setBit i F.PAIR_PEER.CHOP_AVAIL m.chop
  let s := (s.setFld i F.PAIR_PEER.DCDC_MODE m.dcdc).setFld i F.PAIR_PEER.SESSION m.sess
  s.setBit i F.PAIR_PEER.FE_RUN m.fe

/-- The link after a good message, the run-th of those that followed one another in time; `was` the link before (R677). -/
def pairTrain (was run : Nat) (s : State) : State :=
  if was == 2 then s
  else if run == 10 then (s.setFld R.PAIR_STAT F.PAIR_STAT.LINK 2).raise EV.PAIR_LINK_UP 0xFF []
  else s.setFld R.PAIR_STAT F.PAIR_STAT.LINK 1

/-- PAIR_MESSAGE_RECEIVED (R676 to R678): a message of 32 bytes arrives. -/
def pairReceive (l : List Byte) (s : State) : State :=
  if l.length ≠ 32 ∨ crc32c (l.take 28) ≠ leAt l 28 4 then
    { s.incFld R.PAIR_STAT F.PAIR_STAT.ERR_COUNT 1 with pair := { s.pair with run := 0 } }
  else
    let m := pairMsgOf l
    let late := match s.pair.last with | some t => decide (t + 200000 < s.dt) | none => false
    let s := if late && s.fld R.PAIR_STAT F.PAIR_STAT.LINK != 0 then pairDown s else s
    let near := match s.pair.last with | some t => decide (s.dt ≤ t + 20000) | none => false
    let run := if near then min 10 (s.pair.run + 1) else 1
    let bad := m.role == pCfg s F.PAIR_CFG.ROLE || m.holder != pCfg s F.PAIR_CFG.HOLDER
    let s := { s with pair := { s.pair with run := run, last := some s.dt, bad := bad } }
    let s := if bad then s.setBit R.PAIR_FLAGS F.PAIR_FLAGS.CFG_MISMATCH true else s
    let was := s.fld R.PAIR_STAT F.PAIR_STAT.LINK
    jWrite 6 (.msg m) (pairPeer m (pairTrain was run s))

/-- A message that meets the pair link's receive FIFO full is discarded (R21, R23). -/
def pairTaken (l : List Byte) (lost : Nat) (s : State) : State :=
  let s := fifoMetN (11 * 64) lost s
  if lost = 0 then pairReceive l s else s

@[inherit_doc pairTaken]
def execPairMessageReceived (e : Nat) (l : Arrival) (s : State) : Host.Outcome State Fault Refusal :=
  .next (pairTaken l.bytes l.lost (s.tick e))

/-! ### The partner (R679) -/

abbrev Peer.unknown : Nat := 0
abbrev Peer.running : Nat := 1
abbrev Peer.out : Nat := 2
abbrev Peer.lost : Nat := 3

/-- A mode that puts a partner out: SAFE, STANDBY or boot. -/
def outMode (m : Nat) : Bool := m == Mode.safe || m == Mode.standby || m == Mode.boot

/-- The partner's state, first row first (R679). -/
def peerState (s : State) : Nat :=
  let p := partOf s (s.fld R.PAIR_CFG F.PAIR_CFG.PCAN) (s.fld R.PAIR_CFG F.PAIR_CFG.PNODE)
  if s.fld R.PAIR_STAT F.PAIR_STAT.LINK ≠ 2 then
    match p with
    | some (_, x) => if !x.up then Peer.lost else if outMode (x.status % 8) || bitN x.status 3 then Peer.out else Peer.unknown
    | none => Peer.lost
  else match s.pair.cur with
    | some m => if outMode m.mode then Peer.out else if s.pair.bad then Peer.unknown else Peer.running
    | none => Peer.unknown

/-- The start of a condition that holds, or none. -/
def condSince (t : Option Nat) (now : Nat) (on : Bool) : Option Nat := if on then t <|> some now else none

/-- A condition has held for n ticks. -/
def condFor (t : Option Nat) (now n : Nat) : Bool := match t with | some x => decide (x + n ≤ now) | none => false

/-! ### The functions (R680 to R684) -/

/-- R681: the holding takeover. -/
def pairHold (st : Nat) (s : State) : State :=
  let act := pCfg s F.PAIR_CFG.EN && pCfg s F.PAIR_CFG.SHARED_LINK && pCfg s F.PAIR_CFG.ROLE != pCfg s F.PAIR_CFG.HOLDER
  let on := s.pairUse.hold
  let want := if !act then false
    else if on then !condFor s.pair.inAt s.dt 20000000
    else st == Peer.lost || st == Peer.out || condFor s.pair.outAt s.dt 20000000
  if want == on then s
  else
    let s := { s with pairUse := { s.pairUse with hold := want }, chg := if want then s.chg else { s.chg with acc := 0 } }
    let s := s.setBit R.PAIR_STAT F.PAIR_STAT.TAKE_LINK want
    let s := if want then s.setBit R.PAIR_FLAGS F.PAIR_FLAGS.TAKEOVER true else s
    s.raise EV.PAIR_HOLD_TAKEOVER 0xFF [(1, b2n (!want))]

/-- R682: the partner's chopper. -/
def pairChop (st : Nat) (s : State) : State :=
  let fresh := match s.pair.last with | some t => decide (s.dt ≤ t + 200000) | none => false
  let their := match s.pair.cur with | some m => m.chop | none => false
  let use := pCfg s F.PAIR_CFG.EN && pCfg s F.PAIR_CFG.SHARED_CHOP && st == Peer.running && fresh && their
  { s with pairUse := { s.pairUse with chop := use } }.setBit R.PAIR_STAT F.PAIR_STAT.TAKE_CHOP (use && !chopAvail s)

/-- R683: the share of the AC input. -/
def pairShare (st : Nat) (s : State) : State :=
  let act := pCfg s F.PAIR_CFG.EN && pCfg s F.PAIR_CFG.SHARED_AC
  let was := s.bit R.PAIR_STAT F.PAIR_STAT.CHG_HALF
  let half := !act || !(st == Peer.lost || st == Peer.out || (st == Peer.running && condFor s.pair.feAt s.dt 200000000))
  let s := { s with pairUse := { s.pairUse with half := act && half } }.setBit R.PAIR_STAT F.PAIR_STAT.CHG_HALF half
  if act && was != half then s.raise EV.PAIR_CHG_SHARE 0xFF [] else s

/-- The lost torque at the start of a redistribution (R684): the partner machines concerned, from the message before. -/
def pairLoss (s : State) (byMsg : Bool) : Int :=
  let app := match s.pair.cur with | some m => m.app | none => 0
  let all := match s.pair.cur with | some m => !byMsg || outMode m.mode | none => true
  match (if byMsg then s.pair.old else s.pair.cur) with
  | some m => (if all || bitN app 0 then m.t0 else 0) + (if all || bitN app 1 then m.t1 else 0)
  | none => 0

/-- D in 2^-12 per unit, as `PAIR_STAT.D` shows it. -/
def dShown (d : Int) : Nat := unsx 16 (clampI (-32768) 32767 (ndiv d (2 ^ 19)))

/-- R684: redistribution. `new` says that the interval held a message, `was` the partner's state before. -/
def pairRedist (st was : Nat) (new : Bool) (s : State) : State :=
  let act := pCfg s F.PAIR_CFG.EN && pCfg s F.PAIR_CFG.REDIST
  let own := [0, 1].filter fun m => (machConv s m).isSome
  let app := match s.pair.cur with | some m => m.app | none => 0
  let byMsg := new && (app != 0 || (match s.pair.cur with | some m => outMode m.mode | none => false))
  let goes := (new && app != 0) || (st != was && (st == Peer.lost || st == Peer.out))
  let s := { s with pair := { s.pair with
    seen := own.foldl (fun a m => if s.bit (R.TRX_M_CTRL m) F.TRX_M_CTRL.EN then a else setBitN a m) s.pair.seen } }
  let live := own.filter fun m => !bitN s.pair.seen m
  let s := match s.pair.loss with
    | none =>
      if act && goes && !own.isEmpty && own.any (fun m => s.bit (R.TRX_M_CTRL m) F.TRX_M_CTRL.EN) then
        let x := pairLoss s byMsg
        let off := own.foldl (fun a m => if s.bit (R.TRX_M_CTRL m) F.TRX_M_CTRL.EN then a else setBitN a m) 0
        let s := { s with pair := { s.pair with loss := some x, seen := off } }
        let s := (s.setBit R.PAIR_STAT F.PAIR_STAT.REDIST_ACT true).setBit R.PAIR_FLAGS F.PAIR_FLAGS.REDIST true
        s.raise EV.PAIR_REDIST 0xFF [(1, 0)]
      else s
    | some _ =>
      if !act || live.isEmpty || condFor s.pair.okAt s.dt 20000000 then
        let s := { s with pair := { s.pair with loss := none, seen := 0 } }
        (s.setBit R.PAIR_STAT F.PAIR_STAT.REDIST_ACT false).raise EV.PAIR_REDIST 0xFF [(1, 1)]
      else s
  match s.pair.loss with
  | none => { s with pairUse := { s.pairUse with d := [] } }.setFld R.PAIR_STAT F.PAIR_STAT.D 0
  | some x =>
    let n := (own.filter fun m => tState s m == Ts.run).length
    let d := if n = 0 then 0 else ndiv (s.fld R.PAIR_CFG F.PAIR_CFG.K * x) (128 * n)
    let ms := own.filter fun m => !bitN s.pair.seen m
    { s with pairUse := { s.pairUse with d := ms.foldl (fun a m => AMap.put a m 0 d) [] } }.setFld R.PAIR_STAT F.PAIR_STAT.D (dShown d)

/-- The pair functions at the release of an interval, with the messages it held (R680). -/
def pairSup (msgs : List PairMsg) (s : State) : State :=
  let s := forEach msgs (fun m s => { s with pair := { s.pair with old := s.pair.cur, cur := some m } }) s
  let was := s.fld R.PAIR_STAT F.PAIR_STAT.PARTNER
  let st := peerState s
  let s := s.setFld R.PAIR_STAT F.PAIR_STAT.PARTNER st
  let up := s.fld R.PAIR_STAT F.PAIR_STAT.LINK == 2
  let c := s.pair.cur
  let is := fun (f : PairMsg → Bool) => match c with | some m => f m | none => false
  let p := s.pair
  let s := { s with pair := { p with
    outAt := condSince p.outAt s.dt (up && is (fun m => m.dcdc != 1))
    inAt := condSince p.inAt s.dt (st == Peer.running && is (fun m => m.dcdc == 1))
    feAt := condSince p.feAt s.dt (st == Peer.running && is (fun m => !m.fe))
    okAt := condSince p.okAt s.dt (st == Peer.running && is (fun m => m.app == 0)) } }
  linkEval (pairRedist st was (!msgs.isEmpty) (pairShare st (pairChop st (pairHold st s))))

end Sys2Proof.Machine
end

