-- ==== Sys2Proof/Machine/Flags.lean ====
section
/-! DEFINITION. The flags: the summary `DEV_FLAG_SUM` (R692), what a written 1 clears beside its own bit, and the two
interrupt pins (R456, R585). -/

namespace Sys2Proof.Machine

/-- The sticky bits of a register: its W1C and W1CP fields. -/
def stickyMask (i : Nat) : Reg :=
  match regRow i with
  | none => 0
  | some r => r.fields.foldl (fun a f => if f.cls = .w1c ∨ f.cls = .w1cp then a ||| Fld.mask ⟨f.hi, f.lo⟩ else a) 0

/-- A sticky bit of a register is set. -/
def sticky (s : State) (i : Nat) : Bool := (s.reg i &&& stickyMask i) != 0

/-- The registers each bit of `DEV_FLAG_SUM` sums up, from bit 0 (R692). -/
def flagSources : List (List Nat) :=
  [ [R.FAB_FLAGS],
    (List.range 48).map R.ISL_FLAGS,
    [R.PROT_FLAGS, R.PROT_IL_FLAGS] ++ (List.range 48).map R.PROT_IST,
    [R.PWM_FLAGS, R.PWM_LATCH] ++ (List.range 33).map R.PWM_HB_FLAGS,
    [R.ADC_FLAGS, R.ADC_WCMP_FLAGS 0, R.ADC_WCMP_FLAGS 1],
    [R.QUE_FLAGS],
    [R.ENG_FLAGS, R.ENG_PAIR_FLAGS] ++ (List.range 8).map R.ENG_G_FLAGS,
    [R.PLC_FLAGS], [R.TRX_FLAGS], [R.DCL_FLAGS], [R.CHG_FLAGS],
    [R.ACT_FLAGS, R.ACT_LV_FLAGS],
    [R.LIFE_FLAGS], [R.GLV_FLAGS], [R.CAN_FLAGS], [R.STO_FLAGS], [R.CMD_FLAGS], [R.PAIR_FLAGS],
    [R.DEV_RST_CAUSE, R.DEV_CLK_STAT] ]

/-- `DEV_FLAG_SUM` as it reads (R692). -/
def flagSum (s : State) : Nat :=
  flagSources.foldr (fun l n => 2 * n + b2n (l.any (sticky s))) 0

/-- `nIRQ` is driven low: a bit of `CMD_IRQ_STAT` enabled in `CMD_IRQ_EN`; in reset it is high impedance (R63, R585). -/
def nIrq (s : State) : Bool :=
  let held := [0, 1].any fun n => !(AMap.getD s.ports (256 * (n + 1)) {}).replies.isEmpty && bitN (s.reg R.CMD_IRQ_EN).toNat n
  (match s.boot.phase with | .off | .wait | .held => false | _ => true) &&
  (held || (s.reg R.CMD_IRQ_STAT &&& s.reg R.CMD_IRQ_EN &&& 0x3C) != 0)

/-- Zeroing a field where a flag bit is among those cleared. -/
def zeroOn (clr : Reg) (f : Fld) (i : Nat) (g : Fld) (s : State) : State :=
  if (clr &&& f.mask) != 0 then s.setFld i g 0 else s

/-- Zeroing a field of the register of each instance whose bit, counted from a field's low end, is cleared. -/
def zeroEach (clr : Reg) (f : Fld) (n : Nat) (i : Nat → Nat) (g : Fld) (s : State) : State :=
  forEach (bitsOf n (f.get clr)) (fun k s => s.setFld (i k) g 0) s

/-- The counts that follow the gate and converter flags. -/
def clearPower (i : Nat) (clr : Reg) (s : State) : State :=
  if R.ISL_FLAGS 0 ≤ i ∧ i ≤ R.ISL_FLAGS 47 ∧ (i - R.ISL_FLAGS 0) % 16 = 0 then
    zeroOn clr F.ISL_FLAGS.LINK_ERR (i - 1) F.ISL_STAT.ERR_COUNT s
  else if i = R.PROT_FLAGS then zeroOn clr F.PROT_FLAGS.SHOOT_BLOCK R.PROT_IL_COUNT F.PROT_IL_COUNT.COUNT s
  else if i = R.PWM_FLAGS then zeroOn clr F.PWM_FLAGS.SYNC_LOST R.PWM_SYNC_STAT F.PWM_SYNC_STAT.MISSED s
  else if i = R.PWM_LATCH then latchRelease clr.toNat s
  else if i = R.ACT_FLAGS then zeroEach clr F.ACT_FLAGS.HALL 3 R.ACT_A_STAT F.ACT_A_STAT.HALL_ERRS s
  else s

/-- The counts that follow the measurement and engine flags. -/
def clearMeas (i : Nat) (clr : Reg) (s : State) : State :=
  if i = R.ADC_FLAGS then
    let s := if (clr &&& F.ADC_FLAGS.SEQ_OVERRUN.mask) != 0 then
      forEach (List.range 12) (fun n s => s.setFld (R.ADC_AD_STAT n) F.ADC_AD_STAT.OVERRUNS 0) s else s
    let s := if (clr &&& F.ADC_FLAGS.ENC_ERR.mask) != 0 then
      forEach [0, 1] (fun k s => s.setFld (R.ADC_ENC_STAT k) F.ADC_ENC_STAT.ERRS 0)
        { s with meas := { s.meas with encQual := 0 } } else s
    if (clr &&& F.ADC_FLAGS.SENT_ERR.mask) != 0 then
      forEach (List.range 8) (fun r s => s.setFld (R.ADC_SENT_STAT r) F.ADC_SENT_STAT.ERRS 0) s else s
  else if i = R.QUE_FLAGS then zeroEach clr F.QUE_FLAGS.OVF 32 R.QUE_Q_STAT F.QUE_Q_STAT.DROPPED s
  else if i = R.ENG_PAIR_FLAGS then
    if (clr &&& F.ENG_PAIR_FLAGS.MISMATCH.mask) != 0 then
      forEach (List.range 8) (fun k s => s.setFld (R.ENG_PAIR_MISM_K k) F.ENG_PAIR_MISM_K.COUNT 0) s else s
  else if R.ENG_G_FLAGS 0 ≤ i ∧ i ≤ R.ENG_G_FLAGS 7 ∧ (i - R.ENG_G_FLAGS 0) % 16 = 0 then
    clearGraphFlags ((i - R.ENG_G_FLAGS 0) / 16) clr.toNat s
  else s

/-- The counts that follow the glove, command, CAN, storage and pair flags. -/
def clearHost (i : Nat) (clr : Reg) (s : State) : State :=
  if i = R.GLV_FLAGS then
    let s := zeroOn clr F.GLV_FLAGS.DEFER R.GLV_JRNL F.GLV_JRNL.DEFERRED s
    let s := zeroOn clr F.GLV_FLAGS.CACHE_FATAL R.GLV_CACHE F.GLV_CACHE.GR_FATAL s
    let s := zeroOn clr F.GLV_FLAGS.CACHE_FATAL R.GLV_CACHE F.GLV_CACHE.GL_FATAL s
    let s := zeroOn clr F.GLV_FLAGS.CACHE_CORR R.GLV_CACHE F.GLV_CACHE.GR_CORR s
    let s := zeroOn clr F.GLV_FLAGS.CACHE_CORR R.GLV_CACHE F.GLV_CACHE.GL_CORR s
    zeroOn clr F.GLV_FLAGS.MISMATCH R.GLV_MISM F.GLV_MISM.COUNT s
  else if i = R.CMD_FLAGS then
    let s := forEach [0, 1] (fun n s =>
      let s := zeroOn clr F.CMD_FLAGS.OVERFLOW (R.CMD_PORT_STAT n) F.CMD_PORT_STAT.DROPPED s
      zeroOn clr F.CMD_FLAGS.BAD_CRC (R.CMD_PORT_STAT n) F.CMD_PORT_STAT.BAD_CRC s) s
    let s := zeroOn clr F.CMD_FLAGS.AUTH_FAIL R.CMD_SESSIONS F.CMD_SESSIONS.FAILS s
    zeroOn clr F.CMD_FLAGS.AUDIT_LOST R.CMD_AUDIT_STAT F.CMD_AUDIT_STAT.LOST s
  else if i = R.CAN_FLAGS then
    let s := zeroOn clr F.CAN_FLAGS.HB_BAD R.CAN_PT_STAT F.CAN_PT_STAT.BAD s
    let s := zeroOn clr F.CAN_FLAGS.PT_FULL R.CAN_PT_STAT F.CAN_PT_STAT.FULL s
    let s := zeroEach clr F.CAN_FLAGS.TUNNEL 3 R.CAN_C_STAT F.CAN_C_STAT.TUN_ERR s
    zeroEach clr F.CAN_FLAGS.RX_OVF 3 R.CAN_C_RXSTAT F.CAN_C_RXSTAT.DROPPED s
  else if i = R.STO_FLAGS then
    let s := zeroOn clr F.STO_FLAGS.EVT_LOST R.LOG_EVENT_STAT F.LOG_EVENT_STAT.LOST s
    zeroOn clr F.STO_FLAGS.REC_MISSED R.STO_REC_STAT F.STO_REC_STAT.MISSED s
  else if i = R.PAIR_FLAGS then zeroOn clr F.PAIR_FLAGS.LINK_DOWN R.PAIR_STAT F.PAIR_STAT.ERR_COUNT s
  else s

/-- What clearing the bits `clr` of a register's sticky fields does beside clearing them. `DEV_SAFE_CAUSE`,
`TRX_Mm_KE_STAT`, `ENG_Gg_FLAGS` and `PWM_LATCH` decide for themselves which bits clear. -/
def clearEffects (i : Nat) (clr : Reg) (s : State) : State := clearHost i clr (clearMeas i clr (clearPower i clr s))

end Sys2Proof.Machine
end

