-- ==== Sys2Proof/Machine/Operands.lean ====
section
/-! DEFINITION. The operand forms of a register access: the fields a write accesses (R555, R695), the words it leaves, and
what a read of each register gives (R5 to R7, R29, R689 to R693). -/

namespace Sys2Proof.Machine

/-- One item of a write: a register, the bits written and their value; `modify` for REG_MODIFY (R555). -/
structure Item where
  idx : Nat
  mask : Reg
  val : Reg
  modify : Bool := false
deriving DecidableEq, Repr

/-- Every bit of a register. -/
abbrev allOnes : Reg := BitVec.allOnes 40

/-- The bits of a field row. -/
def FieldRow.fld (f : FieldRow) : Fld := ⟨f.hi, f.lo⟩

/-- The bits of the fields whose class is among some. -/
def clsMask (r : RegRow) (l : List Cls) : Reg :=
  r.fields.foldl (fun a f => if l.contains f.cls then a ||| f.fld.mask else a) 0

/-- A write accesses a field (R695). -/
def Item.accesses (it : Item) (f : FieldRow) : Bool :=
  let m := f.fld.mask &&& it.mask
  let one := (it.val &&& m) != 0
  match f.cls with
  | .ro | .rp => false
  | .w1c | .w1cp => one
  | .wo | .wop => if f.hi = f.lo then one else m != 0
  | .rw | .rwp => m != 0

/-- A class only a privileged session may write (R7). -/
def Cls.priv : Cls → Bool
  | .rwp | .w1cp | .wop => true
  | _ => false

/-- A class a write may access. -/
def Cls.writable : Cls → Bool
  | .ro | .rp => false
  | _ => true

/-- A class REG_MODIFY may not touch (R555). -/
def Cls.oneShot : Cls → Bool
  | .w1c | .w1cp | .wo | .wop => true
  | _ => false

/-- A write of one register, read against its field table: the value read before, the word written, the value its stored
fields take, the bits it covers, the W1C bits it clears, the WO bits it triggers, whether it accesses any field (R695), and whether
R578 has it audited. -/
structure Wr where
  idx : Nat
  old : Reg
  word : Reg
  new : Reg
  cov : Reg
  clr : Reg
  trig : Reg
  touches : Bool
  audited : Bool
deriving DecidableEq, Repr

/-- A field is among the bits a write covers. -/
def Wr.covers (w : Wr) (f : Fld) : Bool := (w.cov &&& f.mask) != 0

/-- A one-bit field a write triggers. -/
def Wr.fires (w : Wr) (f : Fld) : Bool := (w.trig &&& f.mask) != 0

/-- A field of the value a write leaves. -/
def Wr.get (w : Wr) (f : Fld) : Nat := f.get w.new

/-- A field the write covers leaves a range. -/
def Wr.outside (w : Wr) (f : Fld) (lo hi : Nat) : Bool := w.covers f && (decide (w.get f < lo) || decide (hi < w.get f))

/-- A write of an item against a register's row, where the register reads `old` and stores `stored`. -/
def wrOf (r : RegRow) (it : Item) (old stored : Reg) : Wr :=
  let word := (old &&& ~~~it.mask) ||| (it.val &&& it.mask)
  let rw := clsMask r [.rw, .rwp]
  let one := it.val &&& it.mask
  let clr := one &&& clsMask r [.w1c, .w1cp]
  { idx := it.idx, old := old, word := word,
    new := ((stored &&& ~~~rw) ||| (word &&& rw)) &&& ~~~clr,
    cov := it.mask, clr := clr, trig := one &&& clsMask r [.wo, .wop],
    touches := r.fields.any it.accesses,
    audited := r.fields.any fun f => f.cls.priv && it.accesses f }

/-! ### Reads -/

/-- The key of an access path: an origin, and on CAN the sending node (R29, R561). -/
def pathKey (r : Req) : Nat := 256 * r.origin + r.node

/-- Seconds before a session times out (R567). -/
def sessRemain (s : State) (n : Nat) : Nat :=
  match AMap.get? s.sessions n with
  | some x => if x.auth then min 600 ((x.last + 120000000000 - s.dt) / 200000000) else 0
  | none => 0

/-- Requests a port holds under R544, and whether a reply waits. -/
def portHeld (s : State) (k : Nat) : Nat :=
  let p := AMap.getD s.ports k {}
  p.waiting.length + p.replies.length

/-- A reply waits on command port n. -/
def replyWaits (s : State) (n : Nat) : Bool := !(AMap.getD s.ports (256 * (n + 1)) {}).replies.isEmpty

/-- An age in 10 µs since a tick, saturating at 16 bits. -/
def age10 (s : State) (t : Option Nat) : Nat := match t with | some t => min 65535 ((s.dt - t) / 2000) | none => 65535

/-- A register that reports an island whose link is down: it reads its reset value (R115). -/
def islSilent (s : State) (i : Nat) : Bool :=
  let k := i - 0x400
  decide (0x400 ≤ i ∧ i < 0x700) && (k % 16 == 0 || k % 16 == 6 || k % 16 == 7) && !linkUp s (k / 16)

/-- `ISLnn_STAT` as read: the active clamp engages once the gate, sensed at CLAMPn, has fallen below VEE + 2.0 V after its
turn-off edge (R98; assumption 70); the hardware clamp path of R92 does not wait. -/
def clampLive (s : State) (n : Nat) (v : Reg) : Reg :=
  let k := (s.islOf n).gateStep
  if k != 0 && !gateOn s n && !lockedOut s n && decide (8 * s.dt < k + Config.gateFall n k) then F.ISL_STAT.CLAMP.set v 0 else v

/-- What a register outside the windows reads, before the classes are applied: the stored value, with the fields that follow
the machine's present state in place. -/
def liveReg (r : Req) (s : State) (i : Nat) : Reg :=
  let v := s.reg i
  if i = R.DEV_ID then F.DEV_ID.STEP.set (F.DEV_ID.GRADE.set v (1 + b2n Config.gradeAM)) Config.step.toNat
  else if i = R.DEV_UID_LO then BitVec.ofNat 40 (Config.uid.toNat % 2 ^ 32)
  else if i = R.DEV_UID_HI then BitVec.ofNat 40 (Config.uid.toNat / 2 ^ 32)
  else if i = R.DEV_DT_LO then BitVec.ofNat 40 s.dt
  else if i = R.DEV_DT_HI then BitVec.ofNat 40 (AMap.getD s.dtHi (pathKey r) 0)
  else if i = R.DEV_RTC then BitVec.ofNat 40 s.rtc
  else if i = R.DEV_ENTRY_BLOCK then BitVec.ofNat 40 (entryBits s)
  else if i = R.DEV_FLAG_SUM then BitVec.ofNat 40 (flagSum s)
  else if i = R.CMD_IRQ_STAT then
    F.CMD_IRQ_STAT.REPLY1.set (F.CMD_IRQ_STAT.REPLY0.set v (b2n (replyWaits s 0))) (b2n (replyWaits s 1))
  else if i = R.CMD_SESSION then
    F.CMD_SESSION.REMAIN.set (F.CMD_SESSION.ORIGIN.set (F.CMD_SESSION.PRIV.set (F.CMD_SESSION.SESSION.set v r.session)
      (b2n (privileged s r))) r.origin) (sessRemain s r.session)
  else if i = R.CMD_SESSIONS then
    F.CMD_SESSIONS.LOCKED.set (F.CMD_SESSIONS.OPEN.set v s.sessions.length) (b2n (s.lockouts.any fun p => p.2.until_ != 0))
  else if i = R.CMD_KEY_STAT then F.CMD_KEY_STAT.PROGRAMMED.set v (b2n s.key.isSome)
  else if i = R.CMD_PORT_STAT 0 then F.CMD_PORT_STAT.WAITING.set v (portHeld s 256)
  else if i = R.CMD_PORT_STAT 1 then F.CMD_PORT_STAT.WAITING.set v (portHeld s 512)
  else if i = R.PROT_SS_SPEED 0 then F.PROT_SS_SPEED.AGE.set v (age10 s (s.selOf 0).fresh)
  else if i = R.PROT_SS_SPEED 1 then F.PROT_SS_SPEED.AGE.set v (age10 s (s.selOf 1).fresh)
  else if R.PWM_TB_STAT 0 ≤ i ∧ i ≤ R.PWM_TB_STAT 5 ∧ (i - R.PWM_TB_STAT 0) % 4 = 0 then
    let t := s.tbOf ((i - R.PWM_TB_STAT 0) / 4)
    F.PWM_TB_STAT.COUNT.set v (if t.run then s.dt - t.b else 0)
  else if R.PWM_HB_STAT 0 ≤ i ∧ i ≤ R.PWM_HB_STAT 32 ∧ (i - R.PWM_HB_STAT 0) % 16 = 0 then
    let k := (i - R.PWM_HB_STAT 0) / 16
    F.PWM_HB_STAT.ON_L.set (F.PWM_HB_STAT.ON_H.set v (b2n (sideOn s k true))) (b2n (sideOn s k false))
  else if (i = R.ADC_ENC_STAT 0 ∧ encStill s 0 = true) ∨ (i = R.ADC_ENC_STAT 1 ∧ encStill s 1 = true) then F.ADC_ENC_STAT.SPEED.set v 0
  else if i = R.ENG_STAT then F.ENG_STAT.RUN.set v ((List.range 16).foldl (fun a n => if engRuns s n then setBitN a n else a) 0)
  else if R.ENG_G_STAT 0 ≤ i ∧ i ≤ R.ENG_G_STAT 7 ∧ (i - R.ENG_G_STAT 0) % 16 = 0 then
    F.ENG_G_STAT.RUNNING.set v (b2n (gRuns s ((i - R.ENG_G_STAT 0) / 16)))
  else if R.ENG_PAIR_STAT_K 0 ≤ i ∧ i ≤ R.ENG_PAIR_STAT_K 7 ∧ (i - R.ENG_PAIR_STAT_K 0) % 2 = 0 then
    F.ENG_PAIR_STAT_K.RUN.set v (b2n (pairRuns s ((i - R.ENG_PAIR_STAT_K 0) / 2)))
  else if i = R.LIFE_STAT then
    match s.life.doneAt with
    | some t => F.LIFE_STAT.AGE.set v (min 4095 ((s.el - t) / 200000000))
    | none => v
  else if i = R.LIFE_CAL_CAP then F.LIFE_CAL_CAP.STABLE.set v (b2n (ntcStable s (s.fld R.LIFE_TWIN_ADDR F.LIFE_TWIN_ADDR.ISL)))
  else if i = R.ACT_A_STAT 0 then actShown s 0 v
  else if i = R.ACT_A_STAT 1 then actShown s 1 v
  else if i = R.ACT_A_STAT 2 then actShown s 2 v
  else if i = R.CAN_C_TXREQ 0 then BitVec.ofNat 40 (canTxReq s 0)
  else if i = R.CAN_C_TXREQ 1 then BitVec.ofNat 40 (canTxReq s 1)
  else if i = R.CAN_C_TXREQ 2 then BitVec.ofNat 40 (canTxReq s 2)
  else if i = R.STO_REC_STAT then recShown s v
  else if i = R.PAIR_PEER then F.PAIR_PEER.AGE.set v (age10 s s.pair.last)
  else if islSilent s i then resetReg i
  else if R.ISL_STAT 0 ≤ i ∧ i ≤ R.ISL_STAT 47 ∧ (i - R.ISL_STAT 0) % 16 = 0 then clampLive s ((i - R.ISL_STAT 0) / 16) v
  else v

/-- A register as a session sees it (R5, R7, R689, R690): WO and reserved bits read 0; RP bits need privilege; a reserved
index and every TST register read 0. -/
def readReg (r : Req) (s : State) (i : Nat) : Reg :=
  match regRow i with
  | none => 0
  | some row => liveReg r s i &&& clsMask row [.ro, .rw, .rwp, .w1c, .w1cp]

/-- A read of a working-state word of a halted core (R537): the spec gives that state no layout, so the word is a free
value. -/
def dwinRead (s : State) : Nat × Reg × State :=
  let i := R.GLV_DWIN_ADDR
  if !s.bit R.GLV_STAT F.GLV_STAT.HALTED then (St.wrongMode, 0, s)
  else if 393215 < s.fld i F.GLV_DWIN_ADDR.WORD then (St.badParam, 0, s)
  else
    let (x, s) := s.draw 32
    (St.ok, BitVec.ofNat 40 x, if s.bit i F.GLV_DWIN_ADDR.AUTOINC then s.setFld i F.GLV_DWIN_ADDR.WORD (s.fld i F.GLV_DWIN_ADDR.WORD + 1) else s)

/-- A read of one register: its status, the word, and the state after it (R29, R554, R693). -/
def readItem (r : Req) (i : Nat) (s : State) : Nat × Reg × State :=
  if 0x4000 ≤ i then (St.badParam, 0, s)
  else if i = R.GLV_DWIN_DATA then (if privileged s r then dwinRead s else (St.denied, 0, s))
  else if i = R.ENG_GWIN_DATA then gwinRead s
  else if i = R.PLC_PWIN_DATA then pwinRead s
  else if i = R.TRX_MAP_DATA then (St.ok, mapRead s)
  else if i = R.LIFE_TWIN_DATA then (if twinBad s then (St.badParam, 0, s) else (St.ok, twinRead s))
  else if i = R.CAN_FWIN_DATA then (if fwinBad s then (St.badParam, 0, s) else (St.ok, fwinWord s, fwinStep s))
  else if i = R.DEV_DT_LO then
    (St.ok, readReg r s i, { s with dtHi := AMap.put s.dtHi (pathKey r) 0 (s.dt / 2 ^ 40) })
  else (St.ok, readReg r s i, s)

/-- Reads in the order listed (R554): the first refusal by check and place, or the words and the state after them. -/
def readList (r : Req) : List Nat → Nat → State → Except (List (Nat × Nat)) (List Reg × State)
  | [], _, s => .ok ([], s)
  | i :: t, k, s =>
    let (st, v, s1) := readItem r i s
    match decide (st = St.ok), readList r t (k + 1) s1 with
    | true, .ok (l, s2) => .ok (v :: l, s2)
    | true, .error e => .error e
    | false, .ok _ => .error [(k, st)]
    | false, .error e => .error ((k, st) :: e)

/-- The check of R549 a status belongs to. -/
def levelOf (st : Nat) : Nat :=
  if st = St.denied then 7 else if st = St.wrongMode then 8 else if st = St.badParam then 9 else 10

/-- The refusal that counts among several: the first failing check, then the first item (R549, R551). -/
def firstRefusal : List (Nat × Nat) → Nat × Nat
  | [] => (0, St.ok)
  | [x] => x
  | x :: t => let y := firstRefusal t; if levelOf y.2 < levelOf x.2 then y else x

end Sys2Proof.Machine
end

