-- ==== Sys2Proof/Machine/HostPower.lean ====
section
/-! DEFINITION. What an accepted or refused register write does, register by register: the blocks of the device, the gate
islands, protection, PWM and measurement (the mode rules and ranges of spec/02, 03, 04, 05, 06 and 13). -/

namespace Sys2Proof.Machine

/-- The outcome of one write: the check of R549 that fails (0 none), the status, and the state after it. -/
structure WOut where
  lv : Nat := 0
  st : Nat := St.ok
  s : State

/-- A refusal by a check. -/
def WOut.refuse (lv : Nat) (s : State) : WOut :=
  ⟨lv, if lv = 7 then St.denied else if lv = 8 then St.wrongMode else if lv = 9 then St.badParam else St.busy, s⟩

/-- A write refused by its mode rule, its range or a resource, in that order (R549), and otherwise done. -/
def WOut.of (mode range busy : Bool) (go : State → State) (s : State) : WOut :=
  if mode then .refuse 8 s else if range then .refuse 9 s else if busy then .refuse 10 s else ⟨0, St.ok, go s⟩

/-- A write whose own rule has given a status; a refusal leaves the state it gives. -/
def WOut.ofStatus (p : Nat × State) : WOut :=
  if p.1 = St.denied ∨ p.1 = St.wrongMode ∨ p.1 = St.badParam ∨ p.1 = St.busy then ⟨levelOf p.1, p.1, p.2⟩ else ⟨0, p.1, p.2⟩

/-- Storing the writable fields, clearing the bits written 1, with what follows from them (R7, R8, R695). -/
def Wr.plain (w : Wr) (s : State) : State := clearEffects w.idx w.clr (s.setReg w.idx w.new)

/-- A write without a rule of its own. -/
def Wr.accept (w : Wr) (s : State) : WOut := ⟨0, St.ok, w.plain s⟩

/-- A write with a range rule alone. -/
def Wr.ranged (w : Wr) (bad : Bool) (s : State) : WOut := WOut.of false bad false w.plain s

/-- The instance of a register family at an index. -/
def instAt (base stride n i : Nat) : Option Nat :=
  if base ≤ i ∧ (i - base) % stride = 0 ∧ (i - base) / stride < n then some ((i - base) / stride) else none

/-- DRIVE, CHARGE or SAFE: the modes in which R107 and R228 refuse. -/
def runMode (s : State) : Bool := s.mode == Mode.drive || s.mode == Mode.charge || s.mode == Mode.safe

/-- The DEV block (R65 to R67, R72, R78, R83). -/
def devWrite (w : Wr) (s : State) : WOut :=
  if w.idx = R.DEV_SHUT_CFG then
    w.ranged (w.outside F.DEV_SHUT_CFG.DISCH_LIMIT 100 5000 || w.outside F.DEV_SHUT_CFG.RAMP 1 2000) s
  else if w.idx = R.DEV_STO_CFG then
    w.ranged (w.outside F.DEV_STO_CFG.DISCREP 1 500 || w.outside F.DEV_STO_CFG.FILTER 10 1000) s
  else if w.idx = R.DEV_RTC then ⟨0, St.ok, rtcWrite w.word s⟩
  else if w.idx = R.DEV_RTC_ALARM then w.ranged (rtcAlarmBad s w.new) s
  else if w.idx = R.DEV_SAFE_CAUSE then ⟨0, St.ok, causeClear w.clr s⟩
  else w.accept s

/-- `FAB_CTRL` (R37). -/
def fabCtrl (w : Wr) (s : State) : State :=
  let s := if w.fires F.FAB_CTRL.CLR_COUNTS then
      ((s.setReg R.FAB_XFIFO_OVF 0).setFld R.FAB_ECC F.FAB_ECC.CORR_COUNT 0).setFld R.FAB_DEADLINE F.FAB_DEADLINE.MISS_COUNT 0
    else s
  if w.fires F.FAB_CTRL.CLR_BLOCK_MAX then forEach (List.range 5) (fun k s => s.setReg (R.FAB_BLOCK_MAX k) 0) s else s

/-- The FAB block. -/
def fabWrite (w : Wr) (s : State) : WOut := if w.idx = R.FAB_CTRL then ⟨0, St.ok, fabCtrl w s⟩ else w.accept s

/-- A stored profile word: a strength above `MAX_STR` sets STR_CLAMP (R104, R106). -/
def profWrite (n : Nat) (w : Wr) (s : State) : State :=
  let s := w.plain s
  let mx := s.fld (R.ISL_CFG n) F.ISL_CFG.MAX_STR
  let high := [F.ISL_PROF.STR0, F.ISL_PROF.STR1, F.ISL_PROF.STR2, F.ISL_PROF.STR3].any fun f => decide (mx < w.get f)
  if high && !s.bit (R.ISL_FLAGS n) F.ISL_FLAGS.STR_CLAMP then
    (s.setBit (R.ISL_FLAGS n) F.ISL_FLAGS.STR_CLAMP true).raise EV.ISL_STR_CLAMP n []
  else s

/-- `ISLnn_CFG`: the active clamp follows `CLAMP_EN` while the gate is off (R98). -/
def islCfg (n : Nat) (w : Wr) (s : State) : State := clampShow n (w.plain s)

/-- The ISL blocks (R104 to R107, R120). -/
def islWrite (w : Wr) (s : State) : WOut :=
  let n := (w.idx - R.ISL_STAT 0) / 16
  let o := (w.idx - R.ISL_STAT 0) % 16
  let used := usedMode s (islUsed s n)
  if o = 2 then WOut.of used false false (islCfg n w) s
  else if o = 3 ∨ o = 4 then WOut.of used false false w.plain s
  else if o = 5 then
    WOut.of used (w.outside F.ISL_NTC_CFG.BETA 2000 6000 || w.outside F.ISL_NTC_CFG.RES25 100 65535) false w.plain s
  else if 8 ≤ o then WOut.of used false false (profWrite n w) s
  else w.accept s

/-- A detection enable going from 1 to 0 outside SERVICE (R140). -/
def detOff (s : State) (w : Wr) (f : Fld) : Bool := f.get (s.reg w.idx) == 1 && w.get f == 0 && s.mode != Mode.service

/-- `PROT_DSATnn` stored: a new bias ends the VDS calibration (R117). -/
def dsatWrite (n : Nat) (w : Wr) (s : State) : State :=
  let old := s.fld w.idx F.PROT_DSAT.BIAS
  let s := w.plain s
  if old = w.get F.PROT_DSAT.BIAS then s else s.setBit (R.ISL_VDS_CAL n) F.ISL_VDS_CAL.VALID false

/-- The PROT block (R56, R140, R158). -/
def protWrite (w : Wr) (s : State) : WOut :=
  match instAt (R.PROT_DSAT 0) 1 48 w.idx, instAt (R.PROT_OC 0) 1 48 w.idx, instAt (R.PROT_SS_CFG 0) 1 2 w.idx with
  | some n, _, _ =>
    WOut.of (usedMode s (islUsed s n) || detOff s w F.PROT_DSAT.DESAT_EN)
      (w.outside F.PROT_DSAT.BIAS 0 2 || w.outside F.PROT_DSAT.THRESH 60 180 || w.outside F.PROT_DSAT.TBLANK 30 1000)
      false (dsatWrite n w) s
  | none, some n, _ =>
    WOut.of (usedMode s (islUsed s n) || detOff s w F.PROT_OC.OC_EN)
      (w.outside F.PROT_OC.LKS 10 500 || w.outside F.PROT_OC.ITHR 5 1000) false w.plain s
  | none, none, some m => WOut.of false (w.outside F.PROT_SS_CFG.SWAP_DT 4 1000) false (fun s => selEval m (w.plain s)) s
  | none, none, none =>
    if w.idx = R.PROT_PRE_CFG then
      w.ranged (w.outside F.PROT_PRE_CFG.ITEST 0 2 || w.outside F.PROT_PRE_CFG.VMIN 60 1000 || w.outside F.PROT_PRE_CFG.T_OPEN 1 63) s
    else if w.idx = R.PROT_PRE_CTRL then
      if w.fires F.PROT_PRE_CTRL.RUN then
        WOut.of (s.mode != Mode.ready) false (s.bit R.PROT_PRE_STAT F.PROT_PRE_STAT.RUNNING) preStart s
      else ⟨0, St.ok, s⟩
    else w.accept s

/-- A timebase is graph-owned (R182). -/
def tbOwned (s : State) (j : Nat) : Bool := s.bit (R.PWM_TB_STAT j) F.PWM_TB_STAT.OWNED

/-- A stored shadow value enters the open set of its timebase (R181). -/
def shadowWrite (j unit off : Nat) (w : Wr) (f : Fld) (s : State) : State :=
  shadowPut j ⟨unit, off, f.get w.new⟩ (s.setReg w.idx w.new)

/-- `PWM_COMMIT` (R182, R183). -/
def commitWrite (w : Wr) (s : State) : WOut :=
  let js := bitsOf 6 (F.PWM_COMMIT.TB.get w.trig)
  WOut.of (js.any (tbOwned s)) false false (forEach js tokenPut) s

/-- `PWM_FORCE` (R208): the value takes effect at once; R80 watches the link. -/
def forceWrite (w : Wr) (s : State) : State := link60 (vlink s) (forceApply (s.reg R.PWM_FORCE) (w.plain s))

/-- `PWM_HBk_CFG` put in force: a change of `DFMT` clears the unit's carries (R192). -/
def dutyFormat (k : Nat) (w : Wr) (s : State) : State :=
  let t := w.plain s
  if s.bit (R.PWM_HB_CFG k) F.PWM_HB_CFG.DFMT == t.bit (R.PWM_HB_CFG k) F.PWM_HB_CFG.DFMT then t else carryClear k t

/-- `PWM_HBk_TRIP` written: a source it selects that is asserted already trips the unit in this period (R199). -/
def tripWritten (k : Nat) (w : Wr) (s : State) : State :=
  let s := w.plain s
  if (tripSrcs s k).any (bitN s.trips) then tripUnit false k s.dt s else s

/-- The unit registers of the PWM block (R181, R182, R196, R199, R209). -/
def hbWrite (k o : Nat) (w : Wr) (s : State) : WOut :=
  let j := tbOfUnit s k
  let used := usedMode s (unitRec s k).isSome
  let src := fun f => w.covers f && decide (71 < w.get f) && w.get f != 127
  if 1 ≤ o ∧ o ≤ 4 then WOut.of (tbOwned s j) false false (shadowWrite j k o w ⟨39, 0⟩) s
  else if o = 0 then WOut.of used false false (dutyFormat k w) s
  else if o = 5 then
    WOut.of used (w.outside F.PWM_HB_TIMING.TMIN 80 3200 || w.outside F.PWM_HB_TIMING.DT_HL 32 8000 ||
      w.outside F.PWM_HB_TIMING.DT_LH 32 8000) false w.plain s
  else if o = 6 then
    WOut.of used (w.outside F.PWM_HB_TRIP.N 1 255 || src F.PWM_HB_TRIP.SRC0 || src F.PWM_HB_TRIP.SRC1 ||
      src F.PWM_HB_TRIP.SRC2 || src F.PWM_HB_TRIP.SRC3) false (tripWritten k w) s
  else if o = 7 then WOut.of used (w.outside F.PWM_HB_TRIPWIN.W 200 200000000) false w.plain s
  else w.accept s

/-- The PWM block (R168, R181 to R183, R201, R204 to R209). -/
def pwmWrite (w : Wr) (s : State) : WOut :=
  match instAt (R.PWM_TB_PERIOD 0) 4 6 w.idx with
  | some j =>
    let p := w.get F.PWM_TB_PERIOD.SHADOW
    let cfg := s.reg (R.PWM_TB_CFG j)
    WOut.of (tbOwned s j)
      (w.outside F.PWM_TB_PERIOD.SHADOW 500 200000 || (F.PWM_TB_CFG.MODE.get cfg == 2 && p % 2 == 1) ||
        F.PWM_TB_CFG.SRC.get cfg == 1)
      false (shadowWrite j 33 1 w F.PWM_TB_PERIOD.SHADOW) s
  | none =>
    if R.PWM_HB_CFG 0 ≤ w.idx then hbWrite ((w.idx - R.PWM_HB_CFG 0) / 16) ((w.idx - R.PWM_HB_CFG 0) % 16) w s
    else if w.idx = R.PWM_SYNC_CFG then
      w.ranged (w.outside F.PWM_SYNC_CFG.SLEW 1 255 || w.outside F.PWM_SYNC_CFG.TOL 1 1000 || w.outside F.PWM_SYNC_CFG.OUT_TB 0 5) s
    else if w.idx = R.PWM_COMMIT then commitWrite w s
    else if w.idx = R.PWM_LATCH then ⟨0, St.ok, latchRelease w.clr.toNat s⟩
    else if w.idx = R.PWM_FORCE then WOut.of (s.mode != Mode.service) (w.outside F.PWM_FORCE.UNIT 0 32) false (forceWrite w) s
    else w.accept s

/-- The ADC block (R216, R219, R220, R225 to R228, R244 to R259). -/
def adcWrite (w : Wr) (s : State) : WOut :=
  let old := s.reg w.idx
  match instAt (R.ADC_AIN_CAL 0) 1 64 w.idx, instAt (R.ADC_WCMP 0) 1 64 w.idx, instAt (R.ADC_SENT_CFG 0) 4 8 w.idx with
  | some c, _, _ =>
    WOut.of false (w.outside F.ADC_AIN_CAL.GAIN 0x4000 0xFFFF) false (fun s => calWritten c old (w.plain s)) s
  | none, some c, _ =>
    WOut.of (usedMode s (ainUsed s c)) (decide (sx 12 (w.get F.ADC_WCMP.HI) ≤ sx 12 (w.get F.ADC_WCMP.LO))) false
      (fun s => wcmpTake c (w.plain s)) s
  | none, none, some r =>
    WOut.of (usedMode s (ifUsed s [0x64 + 2 * r, 0x65 + 2 * r] none))
      (w.outside F.ADC_SENT_CFG.NIBBLES 1 6 || w.outside F.ADC_SENT_CFG.SPLIT 0 2 || w.outside F.ADC_SENT_CFG.TICK 30 900 ||
        w.outside F.ADC_SENT_CFG.LOSTN 1 255) false (fun s => sentEnable r old (w.plain s)) s
  | none, none, none =>
    match instAt (R.ADC_RES_CFG 0) 2 2 w.idx, instAt (R.ADC_ENC_CFG 0) 2 2 w.idx with
    | some r, _ =>
      WOut.of (usedMode s (ifUsed s [0x60 + r] (some (1, r))))
        (w.outside F.ADC_RES_CFG.POLES 1 31 || w.outside F.ADC_RES_CFG.FREQ 4000 20000) false w.plain s
    | none, some k =>
      WOut.of (usedMode s (ifUsed s [0x62 + k] (some (2, k)))) (w.outside F.ADC_ENC_CFG.LINES 1 65535) false w.plain s
    | none, none =>
      if w.idx = R.ADC_REF_CTRL then
        WOut.of (refWrongMode s w.new) false false (refEnable (w.get F.ADC_REF_CTRL.EN == 1)) s
      else if w.idx = R.ADC_PHS_CFG then WOut.of (runMode s) (w.outside F.ADC_PHS_CFG.RATIO 100 2000) false w.plain s
      else w.accept s

/-- The QUE block (R240). -/
def queWriteReg (w : Wr) (s : State) : WOut :=
  match instAt (R.QUE_Q_ACK 0) 4 32 w.idx with
  | some q =>
    let n := F.QUE_Q_ACK.COUNT.get w.trig
    WOut.of false (ackBad s q n) false (queFree q n) s
  | none => w.accept s

end Sys2Proof.Machine
end

