-- ==== Sys2Proof/Machine/HostDrive.lean ====
section
/-! DEFINITION. What a register write does, continued: the engines, the placer, traction, the DC link, charging and the
actuators (the mode rules and ranges of spec/07 to 13). Where one write triggers several one-bit fields they act from the
lowest bit up (assumption 48). -/

namespace Sys2Proof.Machine

/-- The ENG block but for the pedal (R292 to R294). -/
def engWrite (r : Req) (w : Wr) (s : State) : WOut :=
  if w.idx = R.ENG_CTRL then
    let s := if w.fires F.ENG_CTRL.CLR_TIME_MAX then engClrTime s else s
    ⟨0, St.ok, if w.fires F.ENG_CTRL.CLR_COUNTS then engClrCounts s else s⟩
  else if w.idx = R.ENG_GWIN_ADDR then
    w.ranged (!s.eng.stage.isEmpty && w.get F.ENG_GWIN_ADDR.GRAPH != s.fld R.ENG_GWIN_ADDR F.ENG_GWIN_ADDR.GRAPH) s
  else if w.idx = R.ENG_GWIN_DATA then WOut.of false (gwinWriteBad s) false (gwinWrite w.word) s
  else if w.idx = R.ENG_GWIN_CTRL then
    let o := if w.fires F.ENG_GWIN_CTRL.APPLY then WOut.ofStatus (gwinApply r s) else ⟨0, St.ok, s⟩
    if o.lv = 0 ∧ w.fires F.ENG_GWIN_CTRL.DISCARD then { o with s := stageEmpty o.s } else o
  else w.accept s

/-- The pedal registers (R313): `EN` with a track whose ends coincide is refused. -/
def pedalWrite (w : Wr) (s : State) : WOut :=
  let get := fun (i : Nat) (f : Fld) => if w.idx = i then w.get f else s.fld i f
  let flat := fun j => get (R.ENG_PEDAL_T j) F.ENG_PEDAL_T.FULL == get (R.ENG_PEDAL_T j) F.ENG_PEDAL_T.ZERO
  let chan := fun f => w.covers f && (let c := w.get f; decide (0x3F < c) && !(decide (0x64 ≤ c) && decide (c ≤ 0x73)))
  if w.idx = R.ENG_PEDAL_CFG then
    WOut.of (runMode s)
      (chan F.ENG_PEDAL_CFG.CH_A || chan F.ENG_PEDAL_CFG.CH_B || w.outside F.ENG_PEDAL_CFG.TOL 1 128 ||
        w.outside F.ENG_PEDAL_CFG.PERSIST 10 255 || (w.covers F.ENG_PEDAL_CFG.EN && w.get F.ENG_PEDAL_CFG.EN == 1 && (flat 0 || flat 1)))
      false w.plain s
  else if w.idx = R.ENG_PEDAL_T 0 ∨ w.idx = R.ENG_PEDAL_T 1 then WOut.of (runMode s) false false w.plain s
  else w.accept s

/-- The PLC block (R332, R333, R653). -/
def plcWrite (w : Wr) (s : State) : WOut :=
  if w.idx = R.PLC_CTRL then
    let o := if w.fires F.PLC_CTRL.SUBMIT then
        WOut.of (s.mode != Mode.ready && s.mode != Mode.service) false (s.plc.proof.isSome || updBusy s) submit s
      else ⟨0, St.ok, s⟩
    if o.lv = 0 ∧ w.fires F.PLC_CTRL.PWIN_RESET then { o with s := o.s.setReg R.PLC_PWIN_ADDR 0 } else o
  else if w.idx = R.PLC_PWIN_ADDR then w.ranged (w.outside F.PLC_PWIN_ADDR.WORD 0 104447) s
  else if w.idx = R.PLC_PWIN_DATA then WOut.of false (pwinBad s) s.plc.proof.isSome (pwinWrite w.word) s
  else w.accept s

/-- `TRX_Mm_CTRL` (R359 to R361, R366 to R368): the enable is decided first; a held enable leaves `EN` as it is, and the
write's other fields are stored at once (assumption 49). -/
def trxCtrl (r : Req) (m : Nat) (w : Wr) (s : State) : WOut :=
  let i := R.TRX_M_CTRL m
  let turn := w.covers F.TRX_M_CTRL.DIR && w.get F.TRX_M_CTRL.DIR != s.fld i F.TRX_M_CTRL.DIR
  if turn && !dirMay s m then .refuse 8 s
  else
    let p := if !w.covers F.TRX_M_CTRL.EN then (St.ok, s)
      else if w.get F.TRX_M_CTRL.EN = 1 then machEnable r m s else (St.ok, machDisable m s)
    let o := WOut.ofStatus p
    if o.lv ≠ 0 then .refuse o.lv s
    else
      let s := ((o.s.setFld i F.TRX_M_CTRL.DIR (w.get F.TRX_M_CTRL.DIR)).setFld i F.TRX_M_CTRL.LIMP (w.get F.TRX_M_CTRL.LIMP))
      ⟨0, o.st, limpEval m (s.setFld i F.TRX_M_CTRL.SBRAKE (w.get F.TRX_M_CTRL.SBRAKE))⟩

/-- A write of a map's axis or CRC register (R372). -/
def axisWrite (m : Nat) (w : Wr) (bad : Bool) (s : State) : WOut :=
  let st := mapWriteStatus s m
  WOut.of (st == St.wrongMode) bad (st == St.busy) (fun s => setMapOk m false (w.plain s)) s

/-- The registers of machine m (R393). -/
def machWrite (r : Req) (m o : Nat) (w : Wr) (s : State) : WOut :=
  let used := usedMode s (machConv s m).isSome
  if o = 0 then
    WOut.of used (w.outside F.TRX_M_CFG.POS 0 2 || w.outside F.TRX_M_CFG.TSLEW 1 255 || w.outside F.TRX_M_CFG.BASE_RPM 1 65535)
      false w.plain s
  else if o = 1 then trxCtrl r m w s
  else if o = 2 then ⟨0, St.ok, treqWrite m w.new s⟩
  else if o = 8 then WOut.of used (w.outside F.TRX_M_START.BACK 1 10 || w.outside F.TRX_M_START.TACC 100 4000) false w.plain s
  else if o = 9 then WOut.of used (w.outside F.TRX_M_KE.LOW 1 24 || w.outside F.TRX_M_KE.HIGH 1 50) false w.plain s
  else if o = 10 then
    WOut.of ((w.clr &&& F.TRX_M_KE_STAT.DEMAG.mask) != 0 && s.mode != Mode.service) false false
      (fun s => if (w.clr &&& F.TRX_M_KE_STAT.DEMAG.mask) != 0 then demagClear m s else s) s
  else if o = 11 then WOut.of used (w.outside F.TRX_M_LIMP.LWMAX 1 4095) false w.plain s
  else if o = 12 then WOut.of used (w.outside F.TRX_M_REV.REV_W 1 4095) false w.plain s
  else if 13 ≤ o ∧ o ≤ 15 then axisWrite m w (w.covers F.TRX_M_AXT.RSTEP && w.get F.TRX_M_AXT.RSTEP == 0) s
  else if o = 16 then axisWrite m w false s
  else w.accept s

/-- The TRX block (R359 to R373, R391, R393). -/
def trxWrite (r : Req) (w : Wr) (s : State) : WOut :=
  if w.idx = R.TRX_MAP_DATA then
    let st := mapWriteStatus s (mapAt s).1
    WOut.of (st == St.wrongMode) false (st == St.busy) (mapWrite w.word) s
  else if w.idx = R.TRX_MAP_CTRL then
    if w.fires F.TRX_MAP_CTRL.VALIDATE then WOut.of false false (mapBusy s) mapValidate s else ⟨0, St.ok, s⟩
  else if R.TRX_M_CFG 0 ≤ w.idx then machWrite r ((w.idx - R.TRX_M_CFG 0) / 32) ((w.idx - R.TRX_M_CFG 0) % 32) w s
  else w.accept s

/-- `DCL_DCDC_CTRL` (R73, R405, R349). -/
def dcdcWrite (r : Req) (w : Wr) (s : State) : WOut :=
  let on := w.get F.DCL_DCDC_CTRL.MODE != 0
  let c := (convsKind s 1).head?
  let shut := match s.trans, c with | some t, some _ => t.stop | _, _ => false
  let refused := match c with | some c => enableRefused s c | none => false
  WOut.of (dcdcModeWrong s w.new || (on && refused)) (w.get F.DCL_DCDC_CTRL.MODE == 3) false
    (fun s => match on && shut, c with
      | true, some c => holdEnable c (w.get F.DCL_DCDC_CTRL.MODE) r s
      | _, some c => linkEval (w.plain (if on then hostEnables c s else s))
      | _, none => linkEval (w.plain s)) s

/-- The status of a held DC-DC mode is QUEUED (R73). -/
def dcdcOut (r : Req) (w : Wr) (s : State) : WOut :=
  let o := dcdcWrite r w s
  let shut : Bool := match s.trans with | some t => t.stop && !(convsKind s 1).isEmpty | none => false
  if o.lv == 0 && shut && w.get F.DCL_DCDC_CTRL.MODE != 0 then { o with st := St.queued } else o

/-- The DCL block (R401, R405, R413). -/
def dclWrite (r : Req) (w : Wr) (s : State) : WOut :=
  let go := fun s => linkEval (w.plain s)
  if w.idx = R.DCL_SENSE then
    WOut.of (runMode s) (w.outside F.DCL_SENSE.RATIO 100 2000 || !dclOrders s w.idx w.new) false go s
  else if w.idx = R.DCL_THR then
    WOut.of (runMode s) (w.outside F.DCL_THR.OV2 1050 1550 || w.outside F.DCL_THR.OV1 1000 1500 ||
      w.outside F.DCL_THR.VCHOP 700 1450 || !dclOrders s w.idx w.new) false go s
  else if w.idx = R.DCL_HYS then
    WOut.of (runMode s) (w.outside F.DCL_HYS.HYS 10 255 || w.outside F.DCL_HYS.BAND 10 255 || !dclOrders s w.idx w.new) false go s
  else if w.idx = R.DCL_BASE then
    WOut.of (runMode s) (w.outside F.DCL_BASE.IBASE 1 65535 || w.outside F.DCL_BASE.VBASE 1 65535) false go s
  else if w.idx = R.DCL_DCDC_CTRL then dcdcOut r w s
  else if w.idx = R.DCL_DCDC_VREF then
    WOut.of false (w.outside F.DCL_DCDC_VREF.VREF (s.fld R.DCL_HYS F.DCL_HYS.VLOW)
      (s.fld R.DCL_THR F.DCL_THR.VCHOP - s.fld R.DCL_HYS F.DCL_HYS.HYS)) false go s
  else if w.idx = R.DCL_DCDC_IREF then WOut.of false false false go s
  else if w.idx = R.DCL_DCDC_LIM then
    WOut.of false (decide (w.get F.DCL_DCDC_LIM.ICH_ABS < w.get F.DCL_DCDC_LIM.ICH)) false go s
  else if w.idx = R.DCL_CHOP_CFG then
    WOut.of (runMode s) (w.outside F.DCL_CHOP_CFG.DDUTY 1 255 || w.outside F.DCL_CHOP_CFG.TPULSE 1 255 ||
      w.outside F.DCL_CHOP_CFG.TEST_INT 1 511 ||
      (w.covers F.DCL_CHOP_CFG.CMP && decide (63 < w.get F.DCL_CHOP_CFG.CMP) && w.get F.DCL_CHOP_CFG.CMP != 127)) false go s
  else if w.idx = R.DCL_CHOP_RES then
    WOut.of (runMode s) (w.outside F.DCL_CHOP_RES.EMAX 1 4095 || w.outside F.DCL_CHOP_RES.RES 1 4095) false go s
  else if w.idx = R.DCL_CHOP_CHK then
    WOut.of (runMode s) (decide (w.get F.DCL_CHOP_CHK.VDS_HI ≤ w.get F.DCL_CHOP_CHK.VDS_LO)) false go s
  else if w.idx = R.DCL_CHOP_CTRL then
    if w.fires F.DCL_CHOP_CTRL.CLEAR then WOut.of (s.mode != Mode.ready) false false chopClear s else ⟨0, St.ok, s⟩
  else w.accept s

/-- `CHG_CTRL` (R443). -/
def chgCtrl (r : Req) (w : Wr) (s : State) : WOut :=
  let o := if w.fires F.CHG_CTRL.START then WOut.ofStatus (chgStart r s) else ⟨0, St.ok, s⟩
  if o.lv ≠ 0 then .refuse o.lv s
  else
    let p := if w.fires F.CHG_CTRL.STOP then WOut.ofStatus (chgStop o.s) else o
    if p.lv ≠ 0 then .refuse p.lv s
    else ⟨0, o.st, if w.fires F.CHG_CTRL.UNLOCK then chgUnlock p.s else p.s⟩

/-- Zone bounds that do not rise from zone 0 to 4 (R458). -/
def zonesBad (s : State) (w : Wr) : Bool :=
  let b := fun z => sx 12 (if w.idx = R.CHG_ZONE z then w.get F.CHG_ZONE.BOUND else s.fld (R.CHG_ZONE z) F.CHG_ZONE.BOUND)
  (List.range 4).any fun z => decide (b (z + 1) ≤ b z)

/-- A channel field of `CHG_CH` written neither 0x00 to 0x3F nor 0x7F. -/
def chgChanBad (w : Wr) (f : Fld) : Bool := w.covers f && decide (0x3F < w.get f) && w.get f != 0x7F

/-- The configuration registers of the CHG block that follow a mode rule (R458). -/
def chgCfgWrite (w : Wr) (s : State) : WOut :=
  let live := session s == Ch.run || session s == Ch.handover
  if w.idx = R.CHG_CFG then
    WOut.of (runMode s) (w.outside F.CHG_CFG.TSRC 0 1 || w.outside F.CHG_CFG.TCH 0 0x3F || w.outside F.CHG_CFG.TTMO 1 63 ||
      w.outside F.CHG_CFG.CPRATIO 16 255 || w.outside F.CHG_CFG.ETA 128 255 || w.outside F.CHG_CFG.TJ_DER 60 175) false w.plain s
  else if w.idx = R.CHG_CH then
    WOut.of (runMode s)
      ([F.CHG_CH.CH_V12, F.CHG_CH.CH_V23, F.CHG_CH.CH_V31, F.CHG_CH.CH_IB, F.CHG_CH.CH_VB].any (chgChanBad w)) false w.plain s
  else if w.idx = R.CHG_SCALE ∨ w.idx = R.CHG_FOLLOW then WOut.of (runMode s) false false w.plain s
  else if w.idx = R.CHG_NTC then
    WOut.of (runMode s) (w.outside F.CHG_NTC.RPU 1 2047 || w.outside F.CHG_NTC.BETA 2000 6000 ||
      w.outside F.CHG_NTC.RES25 100 65535) false w.plain s
  else if w.idx = R.CHG_IN_CFG then
    WOut.of live (w.outside F.CHG_IN_CFG.IMAX 12 126 || w.outside F.CHG_IN_CFG.VIN_REG 250 460 ||
      w.outside F.CHG_IN_CFG.VR_HYS 1 31 || w.outside F.CHG_IN_CFG.VRG 1 31 || w.outside F.CHG_IN_CFG.VLOSS 100 400) false w.plain s
  else if w.idx = R.CHG_PROF then
    WOut.of live (w.outside F.CHG_PROF.VPRE 100 1000 || w.outside F.CHG_PROF.IPRE 1 127 || w.outside F.CHG_PROF.ITERM 1 127 ||
      w.outside F.CHG_PROF.ITOP 1 127 || w.outside F.CHG_PROF.TTOP 1 31) false w.plain s
  else if w.idx = R.CHG_LIMITS then
    WOut.of live (w.outside F.CHG_LIMITS.CC_NOM 1 2047 || w.outside F.CHG_LIMITS.TNOM 1 1023 ||
      w.outside F.CHG_LIMITS.BUDGET 1 4095 || w.outside F.CHG_LIMITS.VRECH 1 127) false w.plain s
  else if R.CHG_ZONE 0 ≤ w.idx then WOut.of live (zonesBad s w) false w.plain s
  else w.accept s

/-- The CHG block (R443, R445, R458). -/
def chgWrite (r : Req) (w : Wr) (s : State) : WOut :=
  if w.idx = R.CHG_CTRL then chgCtrl r w s
  else if w.idx = R.CHG_ILIM_HOST then
    w.ranged (w.covers F.CHG_ILIM_HOST.HLIM && decide (800 < w.get F.CHG_ILIM_HOST.HLIM) && w.get F.CHG_ILIM_HOST.HLIM != 0x3FF) s
  else if w.idx = R.CHG_TBAT then ⟨0, St.ok, tbatWrite w.new s⟩
  else chgCfgWrite w s

/-- `ACT_An_CTRL` (R467, R468, R471). -/
def actCtrl (r : Req) (a : Nat) (w : Wr) (s : State) : WOut :=
  let i := R.ACT_A_CTRL a
  let p := if !w.covers F.ACT_A_CTRL.EN then (St.ok, s)
    else if w.get F.ACT_A_CTRL.EN = 1 then actEnable r a s
    else if s.bit i F.ACT_A_CTRL.EN ∨ aState s a = As.fault ∨ aState s a = As.failed then (St.ok, actDisable a s)
    else (St.ok, s)
  let o := WOut.ofStatus p
  if o.lv ≠ 0 then .refuse o.lv s
  else
    let b := w.get F.ACT_A_CTRL.BRAKE == 1
    let s := if w.covers F.ACT_A_CTRL.BRAKE && b != o.s.bit i F.ACT_A_CTRL.BRAKE then actBrakeBit a b o.s else o.s
    ⟨0, o.st, if w.fires F.ACT_A_CTRL.REF then actRef a s else s⟩

/-- `ACT_An_TGT` (R468 to R470, R477). -/
def actTgt (a : Nat) (w : Wr) (s : State) : WOut :=
  WOut.of (a == 2 && parkRefuses s w.new)
    (w.outside F.ACT_A_TGT.PWIN 1 127 || w.outside F.ACT_A_TGT.ILIM 1 (2 * s.fld (R.ACT_A_CFG a) F.ACT_A_CFG.IBASE) ||
      w.outside F.ACT_A_TGT.TARGET 0 4096) false (fun s => actTarget a (w.plain s)) s

/-- The ACT block (R467 to R481). -/
def actWrite (r : Req) (w : Wr) (s : State) : WOut :=
  let a := (w.idx - R.ACT_A_CFG 0) / 16
  let o := (w.idx - R.ACT_A_CFG 0) % 16
  if w.idx = R.ACT_LV_CFG then w.ranged (w.outside F.ACT_LV_CFG.SINK 0 2 || w.outside F.ACT_LV_CFG.SRC 0 2) s
  else if w.idx < R.ACT_A_CFG 0 ∨ 3 ≤ a then w.accept s
  else if o = 0 then
    WOut.of (runMode s) (w.outside F.ACT_A_CFG.TMOVE 1 255 || w.outside F.ACT_A_CFG.SCH 0x64 0x73 ||
      w.outside F.ACT_A_CFG.IBASE 1 63 || w.outside F.ACT_A_CFG.HFILT 1 63 ||
      (w.get F.ACT_A_CFG.COMM == 1 && w.get F.ACT_A_CFG.POSSRC == 0)) false w.plain s
  else if o = 1 then actCtrl r a w s
  else if o = 2 then actTgt a w s
  else if o = 4 then
    WOut.of (runMode s) (w.outside F.ACT_A_START.BACKA 10 60 || w.outside F.ACT_A_START.IALIGN 1 80 ||
      w.outside F.ACT_A_START.ISTEP 0 40 || w.outside F.ACT_A_START.TALIGN 2 100 || w.outside F.ACT_A_START.RAMPA 1 511) false w.plain s
  else if o = 5 then
    WOut.of (runMode s) (w.outside F.ACT_A_POS.SPAN 1 65535 || w.outside F.ACT_A_POS.EPT 1 255) false w.plain s
  else w.accept s

end Sys2Proof.Machine
end

