-- ==== Sys2Proof/Machine/HostComm.lean ====
section
/-! DEFINITION. What a register write does, continued: lifetime, the glove pair's debug, CAN, storage and the pair (the mode
rules and ranges of spec/14, 15, 17, 18 and 19), and the one function all writes go through. -/

namespace Sys2Proof.Machine

/-- The LIFE block (R484, R485, R495, R496, R500 to R502). -/
def lifeWrite (r : Req) (w : Wr) (s : State) : WOut :=
  if w.idx = R.LIFE_CFG then
    w.ranged (w.outside F.LIFE_CFG.HYST 1 255 || w.outside F.LIFE_CFG.RW 1 15 || w.outside F.LIFE_CFG.MW 1 15) s
  else if w.idx = R.LIFE_CTRL then
    let st := lifeCtrlStatus s (privileged s r) w.trig
    WOut.of (st == St.wrongMode) (st == St.badParam) (st == St.busy) (lifeCtrl w.trig) s
  else if w.idx = R.LIFE_TWIN_DATA then
    let st := twinStatus s
    WOut.of (st == St.wrongMode) (st == St.badParam) false (twinWrite w.word) s
  else if R.LIFE_I_CFG 0 ≤ w.idx ∧ w.idx ≤ R.LIFE_I_CFG 47 then
    w.ranged (w.outside F.LIFE_I_CFG.DIR 0 2 ||
      (w.covers F.LIFE_I_CFG.CH && decide (0x3F < w.get F.LIFE_I_CFG.CH) && w.get F.LIFE_I_CFG.CH != 0x7F)) s
  else w.accept s

/-! ### The glove pair's debug (R532, R533, R535, R536) -/

/-- A halt, step or breakpoint is refused for another reason than privilege and the run (R532). -/
def dbgWrong (s : State) : Bool := s.mode != Mode.service || decide (120 ≤ vlink s)

/-- The entry after the last one GL has consumed (R533): GL consumes an entry when it is written, one deferred to a later
interval when that begins (R514). -/
def haltPoint (s : State) : Nat :=
  match s.glove.ents.find? (fun x => decide (s.glove.next ≤ x.iv)) with
  | some x => x.seq
  | none => s.fld R.GLV_JSEQ F.GLV_JSEQ.SEQ

/-- The halt is reached (R533): both cores stand before entry p; on a link at 60 V or more the comparator acts at once (R80). -/
def haltReached (p why : Nat) (s : State) : State :=
  let s := (s.setBit R.GLV_STAT F.GLV_STAT.HALT_PEND false).setBit R.GLV_STAT F.GLV_STAT.HALTED true
  let s := (s.setFld R.GLV_DBG_STAT F.GLV_DBG_STAT.POS p).setFld R.GLV_DBG_STAT F.GLV_DBG_STAT.WHY why
  let s := { s with glove := { s.glove with haltPos := none, haltAt := s.dt } }
  link60 (vlink s) (s.raise EV.GLOVE_HALT 0xFF [(4, p)])

/-- The GLV block. `STEP` is written by the glove's own row (R535): here it is checked, and `stepGo` carries it out. -/
def glvWrite (stepGo : State → State) (w : Wr) (s : State) : WOut :=
  let run := s.bit R.GLV_STAT F.GLV_STAT.RUN
  if w.idx = R.GLV_DBG_CTRL then
    let ask := w.fires F.GLV_DBG_CTRL.HALT || w.fires F.GLV_DBG_CTRL.STEP
    WOut.of (ask && dbgWrong s) false (ask && run) (fun s =>
      let s := if w.fires F.GLV_DBG_CTRL.HALT then haltAsk (haltPoint s) 1 s else s
      let s := if w.fires F.GLV_DBG_CTRL.RESUME then gloveResume s else s
      if w.fires F.GLV_DBG_CTRL.STEP then stepGo s else s) s
  else if w.idx = R.GLV_DBG_BRK then
    let arm := w.covers F.GLV_DBG_BRK.EN && w.get F.GLV_DBG_BRK.EN == 1
    WOut.of (arm && dbgWrong s) false (arm && run) w.plain s
  else w.accept s

/-! ### CAN (R590, R592, R595, R597 to R606, R618, R620, R621) -/

/-- `CAN_Cc_CTRL`: RECOVER, then TXQ_FLUSH, whose status stands (R595, R602). -/
def canCtrl (c : Nat) (w : Wr) (s : State) : WOut :=
  let s := if w.fires F.CAN_C_CTRL.RECOVER then canRecover c s else s
  if w.fires F.CAN_C_CTRL.TXQ_FLUSH then let p := canFlush c s; ⟨0, p.1, p.2⟩ else ⟨0, St.ok, s⟩

/-- The registers of controller c. -/
def canCWrite (c o : Nat) (w : Wr) (s : State) : WOut :=
  let on := s.bit (R.CAN_C_CFG c) F.CAN_C_CFG.EN
  if o = 0 then
    let st := canCfgStatus s c w.new
    WOut.of (st == St.wrongMode) (st == St.badParam) false (fun s => canEnable c on (w.plain s)) s
  else if o = 1 then WOut.of on (!canTimingOk w.new (s.reg (R.CAN_C_DBT c))) false w.plain s
  else if o = 2 then WOut.of on (!canTimingOk (s.reg (R.CAN_C_NBT c)) w.new) false w.plain s
  else if o = 3 ∨ o = 4 then WOut.of false (tunIdBad s w.new) false w.plain s
  else if o = 5 then canCtrl c w s
  else if o = 8 then WOut.of false (canReqBad s c w.word) false (canReq c w.word) s
  else if o = 10 then let p := canCancel c (F.CAN_C_CANCEL.MB.get w.trig) s; ⟨0, p.1, p.2⟩
  else if o = 11 then
    let n := F.CAN_C_RXACK.COUNT.get w.trig
    WOut.of false (decide (s.fld (R.CAN_C_RXSTAT c) F.CAN_C_RXSTAT.FILL < n)) false (canRxAck c n) s
  else if o = 12 then
    let st := canLoadStatus s c w.trig
    WOut.of false (st == St.badParam) (st == St.busy) (canLoad c w.trig) s
  else w.accept s

/-- The CAN block. -/
def canWrite (w : Wr) (s : State) : WOut :=
  if w.idx = R.CAN_CTRL then ⟨0, St.ok, if w.fires F.CAN_CTRL.PURGE then ptPurge s else s⟩
  else if w.idx = R.CAN_FWIN_DATA then WOut.of false (fwinWriteBad s) false (fwinWrite w.word) s
  else if w.idx = R.CAN_HB_CFG then
    w.ranged (w.outside F.CAN_HB_CFG.HB_BASE 0 0x701 || w.outside F.CAN_HB_CFG.INTERVAL 1 255) s
  else if R.CAN_C_CFG 0 ≤ w.idx then canCWrite ((w.idx - R.CAN_C_CFG 0) / 64) ((w.idx - R.CAN_C_CFG 0) % 64) w s
  else w.accept s

/-! ### Storage and the pair -/

/-- The STO block (R627, R628, R635 to R637). -/
def stoWrite (w : Wr) (s : State) : WOut :=
  if w.idx = R.STO_CFG then w.ranged (w.outside F.STO_CFG.REC_SLOTS 2 219) s
  else if w.idx = R.STO_CTRL then
    if w.fires F.STO_CTRL.FORMAT then
      let st := formatStatus s
      WOut.of (st == St.wrongMode) (st == St.badParam) false formatDo s
    else ⟨0, St.ok, s⟩
  else if w.idx = R.STO_REC_CFG then
    let old := s.reg w.idx
    WOut.of false (w.outside F.STO_REC_CFG.TAPSHIFT 0 24 || w.outside F.STO_REC_CFG.POST 0 4000) false
      (fun s => recEnable old (w.plain s)) s
  else if w.idx = R.STO_REC_TRIG then ⟨0, St.ok, s.setReg w.idx (w.new &&& 0x1FFF#40)⟩
  else w.accept s

/-- The PAIR block (R684, R686): a write that covers `REDIST` alone is free of the mode rule. -/
def pairWrite (w : Wr) (s : State) : WOut :=
  if w.idx = R.PAIR_CFG then
    let others := w.cov &&& ~~~F.PAIR_CFG.REDIST.mask &&& 0x3FFFFFE000#40
    WOut.of (others != 0 && runMode s) (w.outside F.PAIR_CFG.PCAN 0 2 || w.outside F.PAIR_CFG.PNODE 1 0xFE) false w.plain s
  else w.accept s

/-- Every register write, by block (R688). -/
def regWrite (stepGo : State → State) (r : Req) (w : Wr) (s : State) : WOut :=
  let b := w.idx / 256
  if b = 0 then devWrite w s
  else if b = 2 then fabWrite w s
  else if 4 ≤ b ∧ b ≤ 6 then islWrite w s
  else if b = 8 then protWrite w s
  else if 10 ≤ b ∧ b ≤ 13 then pwmWrite w s
  else if b = 14 ∨ b = 15 then adcWrite w s
  else if b = 16 then queWriteReg w s
  else if b = 18 ∨ b = 19 then engWrite r w s
  else if b = 20 then pedalWrite w s
  else if b = 22 then plcWrite w s
  else if b = 24 then trxWrite r w s
  else if b = 28 then dclWrite r w s
  else if b = 30 then chgWrite r w s
  else if b = 32 then actWrite r w s
  else if b = 33 then lifeWrite r w s
  else if b = 34 then glvWrite stepGo w s
  else if b = 36 then canWrite w s
  else if b = 40 then stoWrite w s
  else if b = 48 then pairWrite w s
  else w.accept s

end Sys2Proof.Machine
end

