-- ==== Sys2Proof/Machine/Packet.lean ====
section
/-! DEFINITION. What one packet does once it stands at the head of its port (R549, R551, R553 to R559): the items of the
register opcodes, the sessions (R561 to R570), and every other opcode. -/

namespace Sys2Proof.Machine

/-! ### Writes of items (R554, R555, R578 to R580, R689, R690, R695) -/

/-- The window data registers, whose writes are table writes (R579, R693); the address register of each stands before it. -/
def windowData (i : Nat) : Bool :=
  i == R.ENG_GWIN_DATA || i == R.PLC_PWIN_DATA || i == R.TRX_MAP_DATA || i == R.LIFE_TWIN_DATA || i == R.CAN_FWIN_DATA

/-- The window address a table write's entry carries: that of the window, or of the lifetime window for a clear (R501, R583). -/
def tableAddr (s : State) (i : Nat) : Nat :=
  (s.reg (if i = R.LIFE_CTRL then R.LIFE_TWIN_ADDR else i - 1)).toNat % 2 ^ 32

/-- The audit entry of a write: old as read before, new as ordered or left; a lifetime clear is audited as a table write
(R501, R578, R579, R583). -/
def writeEntry (r : Req) (w : Wr) (addr : Nat) (new : Reg) (status : Nat) : AuditEntry :=
  if windowData w.idx || (w.idx == R.LIFE_CTRL && w.fires F.LIFE_CTRL.CLEAR) then auditOf r 2 w.idx addr w.old.toNat w.word.toNat status
  else auditOf r 1 w.idx 0 w.old.toNat new.toNat status

/-- What becomes of one item: the write's outcome, the value read before, and the audit entry it calls for. -/
structure ItemOut where
  o : WOut
  old : Reg := 0
  entry : Option AuditEntry := none

/-- One item of a write, checked and applied to a state (R549 checks 7 to 10). One that accesses no field changes nothing
(R695). -/
def writeItem (stepGo : State → State) (r : Req) (alone : Bool) (it : Item) (s : State) : ItemOut :=
  if 0x4000 ≤ it.idx then { o := .refuse 9 s }
  else match regRow it.idx with
    | none => { o := .refuse (if 0x3F00 ≤ it.idx then 7 else 9) s }
    | some row =>
      if !row.fields.any (fun f => f.cls.writable) then { o := .refuse 7 s }
      else
        let i := it.idx
        let old := if windowData i then (readItem r i s).2.1 else readReg r s i
        let w := wrOf row it old (s.reg i)
        let addr := tableAddr s i
        let tbl := windowData i && i != R.ENG_GWIN_DATA
        if w.audited && !privileged s r then
          { o := .refuse 7 s, old := old, entry := some (writeEntry r w addr w.word St.denied) }
        else
          let o := regWrite stepGo r w s
          let o := if o.lv = 0 && !w.touches && !windowData i then ⟨0, St.ok, s⟩ else o
          let shot := it.modify && row.fields.any fun f => f.cls.oneShot && (f.fld.mask &&& it.mask) != 0
          let cancel := !alone && (instAt (R.CAN_C_CANCEL 0) 64 3 i).isSome
          if o.lv = 8 then { o := o, old := old }
          else if shot || cancel then { o := .refuse 9 s, old := old }
          else if o.lv ≠ 0 then { o := o, old := old }
          else
            let noted := (w.audited && i != R.ENG_GWIN_DATA) || tbl
            if noted && s.auditFull then { o := ⟨11, St.busy, s⟩, old := old }
            else if noted then
              let e := writeEntry r w addr (readReg r o.s i ||| w.trig) o.st
              { o := { o with s := (o.s.auditAdd e) }, old := old }
            else { o := o, old := old }

/-- A packet's items as they have gone so far: the state with the accepted ones applied, the values read, the combined
status, the refusals by item (check, status), and the entries of the items refused for privilege. -/
structure ItemsRun where
  s : State
  olds : List Reg := []
  st : Nat := St.ok
  bad : List (Nat × Nat × Nat) := []
  denied : List AuditEntry := []
  /-- The item of an APPLY that is refused, and the staged address that fails (R293). -/
  apply_ : Option (Nat × Nat) := none

/-- The items of a packet in the order listed, each met by what the ones before it leave (assumption 47). -/
def runItems (stepGo : State → State) (r : Req) (alone : Bool) : List Item → Nat → ItemsRun → ItemsRun
  | [], _, x => x
  | it :: t, k, x =>
    let y := writeItem stepGo r alone it x.s
    if y.o.lv = 0 then
      runItems stepGo r alone t (k + 1)
        { x with s := y.o.s, olds := x.olds ++ [y.old], st := if y.o.st = St.ok then x.st else y.o.st }
    else
      let fails := if it.idx = R.ENG_GWIN_CTRL ∧ it.modify = false ∧ y.o.lv = 9 then (applyFails x.s).map fun f => (k, f) else none
      runItems stepGo r alone t (k + 1)
        { x with bad := x.bad ++ [(k, y.o.lv, y.o.st)], denied := x.denied ++ y.entry.toList, apply_ := x.apply_ <|> fails }

/-- The refusal that counts: the first failing check, then the first item. -/
def leastBad : List (Nat × Nat × Nat) → Option (Nat × Nat × Nat)
  | [] => none
  | x :: t => match leastBad t with
    | some y => if y.2.1 < x.2.1 then some y else some x
    | none => some x

/-- A write refused on a full audit buffer: the flag, and its event once for each unbroken run (R580). -/
def auditRefused (s : State) : State :=
  let s := s.setBit R.CMD_FLAGS F.CMD_FLAGS.AUDIT_FULL true
  if s.audit.fullRun then s else { s with audit := { s.audit with fullRun := true } }.raise EV.AUDIT_FULL 0xFF []

/-- What an opcode's execution gives: its reply, whether the packet passed its checks and was executed, and the state. -/
structure Ran where
  reply : Reply
  exe : Bool := true
  s : State

/-- A packet refused by a check, with nothing changed. -/
def Ran.refuse (st : Nat) (s : State) (payload : List Byte := []) : Ran := ⟨⟨st, payload⟩, false, s⟩

/-- A write packet (R551, R554): all its items, or none of them. -/
def writePacket (stepGo : State → State) (r : Req) (items : List Item) (olds : Bool) (s : State) : Ran :=
  let x := runItems stepGo r (items.length == 1) items 0 { s := s }
  match leastBad x.bad with
  | none =>
    let s1 := if x.s.audit.buf.length = s.audit.buf.length then x.s else { x.s with audit := { x.s.audit with fullRun := false } }
    ⟨⟨x.st, if olds then x.olds.flatMap (fun v => leBytes 5 v.toNat) else []⟩, true, s1⟩
  | some (k, lv, st) =>
    let s := if st = St.denied then forEach x.denied (fun e s => s.auditAdd e) s else s
    let s := if lv = 11 then auditRefused s else s
    let s := match x.apply_ with
      | some (i, f) => if i = k then applyRefused f s else s
      | none => s
    .refuse st s (leBytes 2 k)

/-- A read packet (R554, R689, R693). -/
def readPacket (r : Req) (l : List Nat) (s : State) : Ran :=
  match readList r l 0 s with
  | .ok (vs, s) => ⟨⟨St.ok, vs.flatMap (fun v => leBytes 5 v.toNat)⟩, true, s⟩
  | .error e => let x := firstRefusal e; .refuse x.2 s (leBytes 2 x.1)

/-! ### Sessions (R561 to R570) -/

/-- The lowest free session number, from n up, with fuel. -/
def freeSession (s : State) : Nat → Nat → Nat
  | 0, n => n
  | k + 1, n => if (AMap.get? s.sessions n).isSome then freeSession s k (n + 1) else n

/-- The 16 bytes that answer a nonce (R564). -/
def authAnswer (key nonce n origin : Nat) : List Byte :=
  (hmac (leBytes 32 key) (leBytes 16 nonce ++ leBytes 8 Config.uid.toNat ++ leBytes 1 n ++ leBytes 1 origin)).take 16

/-- A session ends (R567, R568), with its event's cause: 1 SESSION_CLOSE, 2 timeout, 3 reset, 4 a failed response. -/
def sessionEnd (n why : Nat) (s : State) : State :=
  match AMap.get? s.sessions n with
  | none => s
  | some x =>
    let s := { s with sessions := AMap.del s.sessions n }
    if !x.auth then s
    else
      let s := s.raise EV.SESSION_END 0xFF [(1, n), (1, why)]
      let s := s.auditAdd (auditOf { origin := x.origin, node := x.node, session := n } 8 0 0 0 0 St.ok)
      let s := if why = 2 then s.setBit R.CMD_IRQ_STAT F.CMD_IRQ_STAT.SESSION true else s
      if s.service = n then serviceEnds s else s

/-- SESSION_OPEN (R563, R566, R569). -/
def sessionOpen (r : Req) (s : State) : Ran :=
  let lock := (AMap.getD s.lockouts (pathKey r) {}).until_ != 0
  if s.key.isNone then .refuse St.denied s
  else if lock then .refuse St.denied (s.auditAdd (auditOf r 9 0 0 0 0 St.denied))
  else if 4 ≤ s.sessions.length then .refuse St.busy s
  else
    let n := freeSession s 4 1
    let (nonce, s) := s.draw 128
    let x : Session := { origin := r.origin, node := r.node, nonce := nonce, opened := s.dt, last := s.dt }
    ⟨⟨St.ok, leBytes 1 n ++ leBytes 16 nonce ++ leBytes 8 Config.uid.toNat⟩, true,
      { s with sessions := AMap.ins s.sessions n x }⟩

/-- A failed response (R565, R566): counted, flagged, reported; three of one origin within 60 s lock it out for 60 s. -/
def authFailed (r : Req) (s : State) : State :=
  let s := (s.incFld R.CMD_SESSIONS F.CMD_SESSIONS.FAILS 1).setBit R.CMD_FLAGS F.CMD_FLAGS.AUTH_FAIL true
  let s := (s.raise EV.AUTH_FAIL 0xFF []).auditAdd (auditOf r 9 0 0 0 0 St.denied)
  let k := pathKey r
  let x := AMap.getD s.lockouts k {}
  let l := x.fails.filter (fun t => s.dt < t + 12000000000) ++ [s.dt]
  if 3 ≤ l.length then
    { s with lockouts := AMap.ins s.lockouts k { fails := [], until_ := s.dt + 12000000000 } }.setBit
      R.CMD_IRQ_STAT F.CMD_IRQ_STAT.SESSION true
  else { s with lockouts := AMap.ins s.lockouts k { x with fails := l } }

/-- SESSION_AUTH (R564, R565; the 10 s end as in assumption 88). -/
def sessionAuth (r : Req) (resp : List Byte) (s : State) : Ran :=
  let n := r.session
  let good := match AMap.get? s.sessions n, s.key with
    | some x, some k => !x.auth && x.origin == r.origin && x.node == r.node && decide (s.dt ≤ x.opened + 2000000000) &&
        resp == authAnswer k x.nonce n r.origin
    | _, _ => false
  match good, AMap.get? s.sessions n with
  | true, some x =>
    let s := { s with sessions := AMap.ins s.sessions n { x with auth := true, last := s.dt } }
    ⟨⟨St.ok, []⟩, true, (s.raise EV.SESSION_OPEN 0xFF []).auditAdd (auditOf r 7 0 0 0 0 St.ok)⟩
  | _, _ => ⟨⟨St.denied, []⟩, true, authFailed r (sessionEnd n 4 s)⟩

/-- KEY_PROGRAM (R570). -/
def keyProgram (key : List Byte) (crc : Nat) (s : State) : Ran :=
  if s.key.isSome then .refuse St.denied s
  else if s.mode ≠ Mode.ready then .refuse St.wrongMode s
  else if crc32c key ≠ crc then .refuse St.badParam s
  else ⟨⟨St.ok, []⟩, true, { s with key := some (ofLe key) }⟩

/-! ### The other opcodes -/

/-- RESET (R559). -/
def resetOp (r : Req) (guard : Nat) (s : State) : Ran :=
  if !privileged s r then .refuse St.denied s
  else if s.mode ≠ Mode.ready ∧ s.mode ≠ Mode.service ∧ s.mode ≠ Mode.safe then .refuse St.wrongMode s
  else if guard ≠ 0x5A then .refuse St.badParam s
  else ⟨⟨St.ok, []⟩, true, { s with boot := { s.boot with resetDue := some (s.dt + 200000) } }⟩

/-- QUEUE_READ (R556). -/
def queueRead (s : State) (q skip c : Nat) : Ran :=
  if 31 < q then .refuse St.badParam s
  else ⟨⟨St.ok, (((s.queOf q).ents.drop skip).take c).flatMap fun e => leBytes 8 e.word⟩, true, s⟩

/-- A reply that a query gives without changing anything. -/
def Ran.query (p : Reply) (s : State) : Ran := ⟨p, p.status == St.ok, s⟩

/-- An opcode that needs privilege, and its status and effect. -/
def Ran.priv (r : Req) (s : State) (go : State → Nat × State) : Ran :=
  if privileged s r then let p := go s; ⟨⟨p.1, []⟩, true, p.2⟩ else .refuse St.denied s

/-- The parameters have a length the opcode takes (R549 check 5, R553). -/
def opForm : Op → Bool
  | .echo b => decide (b.length ≤ 4164)
  | .regRead l => decide (1 ≤ l.length ∧ l.length ≤ 256)
  | .regWrite l => decide (1 ≤ l.length ∧ l.length ≤ 256)
  | .writeRep _ l => decide (1 ≤ l.length ∧ l.length ≤ 832)
  | .regModify l => decide (1 ≤ l.length ∧ l.length ≤ 64)
  | .sessAuth b => b.length == 16
  | .keyProg k _ => k.length == 32
  | .updBlock _ _ b => b.length == 4096
  | _ => true

/-- The parameters have values the opcode takes (R549 check 9, R553, R557, R641). -/
def opRange : Op → Bool
  | .readRep _ c => decide (1 ≤ c ∧ c ≤ 832)
  | .modeReq m => decide (m ≤ 5)
  | .queueRead _ _ c => decide (1 ≤ c ∧ c ≤ 512)
  | .auditRead _ c | .eventRead _ c => decide (1 ≤ c ∧ c ≤ 128)
  | .recList _ c => decide (1 ≤ c ∧ c ≤ 64)
  | .recRead _ _ n => decide (1 ≤ n ∧ n ≤ 4096)
  | _ => true

/-- The execution of an opcode decided now: its own checks, its effect and its reply (R553). -/
def opRun (stepGo : State → State) (r : Req) (op : Op) (s : State) : Ran :=
  if !opRange op then .refuse St.badParam s
  else match op with
  | .echo b => ⟨⟨St.ok, b⟩, true, s⟩
  | .regRead l => readPacket r l s
  | .readRep i c => readPacket r (List.replicate c i) s
  | .regWrite l => writePacket stepGo r (l.map fun p => ⟨p.1, allOnes, p.2, false⟩) false s
  | .writeRep i l => writePacket stepGo r (l.map fun v => ⟨i, allOnes, v, false⟩) false s
  | .regModify l => writePacket stepGo r (l.map fun p => ⟨p.1, p.2.1, p.2.2, true⟩) true s
  | .modeReq m => if m = Mode.safe then ⟨⟨St.ok, []⟩, true, s⟩ else let p := modeRequest r m s; ⟨⟨p.1, []⟩, true, p.2⟩
  | .safeReq => ⟨⟨St.ok, []⟩, true, s⟩
  | .reset g => resetOp r g s
  | .sessOpen => sessionOpen r s
  | .sessAuth b => sessionAuth r b s
  | .sessClose => ⟨⟨St.ok, []⟩, true, sessionEnd r.session 1 s⟩
  | .keyProg k c => keyProgram k c s
  | .queueRead q k c => queueRead s q k c
  | .auditRead f c => .query (auditRead s f c) s
  | .eventRead f c => .query (eventRead s f c) s
  | .updBegin n => .priv r s (updBegin r n)
  | .updBlock k n b => .priv r s (updBlock r k n b)
  | .updCheck => .priv r s updCheck
  | .updActivate => .priv r s (updActivate r)
  | .updConfirm => .priv r s updConfirm
  | .updAbort => .priv r s (updAbort r)
  | .recTrigger => let p := recTrigger s; ⟨p.1, true, p.2⟩
  | .recList f c => .query (recList s f c) s
  | .recRead n o l => .query (recRead s n o l) s

/-! ### Which packets need the glove pair, and what they order (R560, R572) -/

/-- An order register (R572). -/
def orderReg (i : Nat) : Bool :=
  (decide (R.TRX_M_CFG 0 ≤ i ∧ i < R.TRX_M_CFG 2) && decide (1 ≤ (i - R.TRX_M_CFG 0) % 32 ∧ (i - R.TRX_M_CFG 0) % 32 ≤ 4)) ||
  i == R.DCL_DCDC_CTRL || i == R.DCL_DCDC_VREF || i == R.DCL_DCDC_IREF || i == R.CHG_CTRL || i == R.CHG_ILIM_HOST ||
  (List.range 3).any (fun a => i == R.ACT_A_CTRL a || i == R.ACT_A_TGT a)

/-- The items of a write opcode. -/
def opItems : Op → List Item
  | .regWrite l => l.map fun p => ⟨p.1, allOnes, p.2, false⟩
  | .writeRep i l => l.map fun v => ⟨i, allOnes, v, false⟩
  | .regModify l => l.map fun p => ⟨p.1, p.2.1, p.2.2, true⟩
  | _ => []

/-- A packet needs a glove decision (R560). A request for SAFE acts at its arrival. -/
def needsGlove (op : Op) : Bool :=
  match op with
  | .modeReq m => m != Mode.safe
  | .reset _ | .sessOpen | .sessAuth _ | .sessClose => true
  | _ => (opItems op).any fun it => orderReg it.idx

/-- What an order sets (R555, R572, R573): each field of an order register that it covers, with its value. -/
def orderSets (op : Op) : List (Nat × Fld × Nat) :=
  match op with
  | .modeReq m => [(R.DEV_MODE, ⟨2, 0⟩, m)]
  | _ => (opItems op).flatMap fun it =>
    if !orderReg it.idx then []
    else match regRow it.idx with
      | none => []
      | some row => (row.fields.filter fun f => f.cls.writable && (f.fld.mask &&& it.mask) != 0).map fun f =>
          (it.idx, f.fld, f.fld.get it.val)

end Sys2Proof.Machine
end

