-- ==== Sys2Proof/Machine/Ports.lean ====
section
/-! DEFINITION. The command ports and the tunnel's ports (spec/16_command_ports_and_privilege.md): packets from bytes and
replies to bytes, the checks before an opcode's own (R549), arrival order, repeated requests, orders and their
arbitration. -/

namespace Sys2Proof.Machine

/-! ### Packets (R546, R547, R553) -/

/-- The n-byte number at offset k. -/
abbrev numAt (l : List Byte) (k n : Nat) : Nat := leAt l k n

/-- The chunks of m bytes of a list, with fuel. -/
def chunks (m : Nat) : Nat → List Byte → List (List Byte)
  | 0, _ => []
  | n + 1, l => if l.isEmpty then [] else l.take m :: chunks m n (l.drop m)

/-- A chunked list of parameters, when its length is a multiple of m. -/
def items (m : Nat) (p : List Byte) : Option (List (List Byte)) :=
  if p.length % m = 0 then some (chunks m (p.length / m) p) else none

/-- A 40-bit value at offset k. -/
def valAt (l : List Byte) (k : Nat) : Reg := BitVec.ofNat 40 (leAt l k 5)

/-- A parameter form of exactly n bytes. -/
def fixed (n : Nat) (p : List Byte) (op : Op) : Option Op := if p.length = n then some op else none

/-- What the parameters of an opcode ask; none when their length does not fit it (R549 check 5, R553, R641, R643). -/
def parseOp (code : Nat) (p : List Byte) : Option Op :=
  match code with
  | 0x01 => some (.echo p)
  | 0x10 => (items 2 p).map fun l => .regRead (l.map fun x => numAt x 0 2)
  | 0x11 => (items 7 p).map fun l => .regWrite (l.map fun x => (numAt x 0 2, valAt x 2))
  | 0x12 => fixed 4 p (.readRep (numAt p 0 2) (numAt p 2 2))
  | 0x13 => (items 5 (p.drop 2)).bind fun l => if p.length < 2 then none else some (.writeRep (numAt p 0 2) (l.map fun x => valAt x 0))
  | 0x14 => (items 12 p).map fun l => .regModify (l.map fun x => (numAt x 0 2, valAt x 2, valAt x 7))
  | 0x20 => fixed 1 p (.modeReq (numAt p 0 1))
  | 0x21 => fixed 0 p .safeReq
  | 0x22 => fixed 1 p (.reset (numAt p 0 1))
  | 0x30 => fixed 0 p .sessOpen
  | 0x31 => fixed 16 p (.sessAuth p)
  | 0x32 => fixed 0 p .sessClose
  | 0x34 => fixed 36 p (.keyProg (p.take 32) (numAt p 32 4))
  | 0x40 => fixed 5 p (.queueRead (numAt p 0 1) (numAt p 1 2) (numAt p 3 2))
  | 0x50 => fixed 7 p (.auditRead (numAt p 0 5) (numAt p 5 2))
  | 0x51 => fixed 7 p (.eventRead (numAt p 0 5) (numAt p 5 2))
  | 0x60 => fixed 4 p (.updBegin (numAt p 0 4))
  | 0x61 => fixed 4102 p (.updBlock (numAt p 0 1) (numAt p 2 4) (p.drop 6))
  | 0x62 => fixed 0 p .updCheck
  | 0x63 => fixed 0 p .updActivate
  | 0x64 => fixed 0 p .updConfirm
  | 0x65 => fixed 0 p .updAbort
  | 0x70 => fixed 0 p .recTrigger
  | 0x71 => fixed 5 p (.recList (numAt p 0 4) (numAt p 4 1))
  | 0x72 => fixed 10 p (.recRead (numAt p 0 4) (numAt p 4 4) (numAt p 8 2))
  | _ => none

/-- The opcode of an operation (R553). -/
def opCode : Op → Nat
  | .echo _ => 0x01 | .regRead _ => 0x10 | .regWrite _ => 0x11 | .readRep _ _ => 0x12 | .writeRep _ _ => 0x13
  | .regModify _ => 0x14 | .modeReq _ => 0x20 | .safeReq => 0x21 | .reset _ => 0x22 | .sessOpen => 0x30
  | .sessAuth _ => 0x31 | .sessClose => 0x32 | .keyProg _ _ => 0x34 | .queueRead _ _ _ => 0x40 | .auditRead _ _ => 0x50
  | .eventRead _ _ => 0x51 | .updBegin _ => 0x60 | .updBlock _ _ _ => 0x61 | .updCheck => 0x62 | .updActivate => 0x63
  | .updConfirm => 0x64 | .updAbort => 0x65 | .recTrigger => 0x70 | .recList _ _ => 0x71 | .recRead _ _ _ => 0x72

/-- The opcodes of R553. -/
def knownCode (c : Nat) : Bool :=
  [0x01, 0x10, 0x11, 0x12, 0x13, 0x14, 0x20, 0x21, 0x22, 0x30, 0x31, 0x32, 0x34, 0x40, 0x50, 0x51, 0x60, 0x61, 0x62, 0x63,
    0x64, 0x65, 0x70, 0x71, 0x72].contains c

/-- A request packet as it arrives from an origin (R543, R546); a packet that asks for SAFE does so whatever its flags
(R557, R558). -/
def askOf (origin node : Nat) (b : List Byte) (fdf brs : Bool) : Ask :=
  let code := numAt b 0 1
  let flags := numAt b 1 1
  let r : Req := { origin := origin, node := node, session := numAt b 3 1, seq := numAt b 2 1, quiet := bitN flags 0 }
  let n := numAt b 4 2
  let crc := numAt b (8 + n) 4
  let good := b.length == 12 + n && crc == crc32c (b.take (8 + n))
  let p := (b.drop 8).take n
  let op := if !good then none
    else if code = 0x21 ∨ (code = 0x20 ∧ p = [5]) then some .safeReq
    else if 1 < flags ∨ numAt b 6 2 ≠ 0 ∨ 4164 < n then none
    else parseOp code p
  { req := r, code := code, op := op, crcBad := !good, crc := some crc, fdf := fdf, brs := brs }

/-- A reply packet (R547). -/
def replyBytes (a : Ask) (p : Reply) : List Byte :=
  let b := leBytes 1 a.code ++ leBytes 1 p.status ++ leBytes 1 a.req.seq ++ leBytes 1 a.req.session ++
    leBytes 2 p.payload.length ++ p.payload
  b ++ leBytes 4 (crc32c b)

/-! ### Replies (R542, R544, R612) -/

/-- The controller of a tunnel's origin, by port key. -/
def keyCan (k : Nat) : Option Nat := if 768 ≤ k ∧ k < 1536 then some (k / 256 - 3) else none

/-- A port's record. -/
def State.portOf (s : State) (k : Nat) : Port := AMap.getD s.ports k {}
/-- Storing a port's record. -/
def State.setPort (k : Nat) (x : Port) (s : State) : State := { s with ports := AMap.put s.ports k {} x }

/-- Requests of an origin that count under R544. -/
def heldCount (s : State) (k : Nat) : Nat :=
  match keyCan k with
  | some c => (s.portOf k).waiting.length + ((canOf s c).tout.filter fun t => t.node == k % 256).length
  | none => portHeld s k

/-- The tunnel frames of a reply (R612); the packet bytes go n to a segment, and the fuel bounds their number. -/
def tunSegments (c node : Nat) (a : Ask) (n : Nat) (s : State) : Nat → Nat → List Byte → List CanBox
  | 0, _, _ => []
  | fuel + 1, k, l =>
    if l.isEmpty then []
    else
      let rsp := R.CAN_C_TUN_RSP c
      let part := l.take n
      let head := leBytes 1 node ++ leBytes 1 (s.fld (R.CAN_C_CFG c) F.CAN_C_CFG.OWN) ++ leBytes 1 (k % 64 + 128 * b2n (k == 0))
      let dlc := if a.fdf then canDlc (3 + part.length) else 3 + part.length
      let f : CanFrame := { fdf := a.fdf, brs := a.brs, ide := s.bit rsp F.CAN_C_TUN_RSP.IDE, dlc := dlc,
                            id := s.fld rsp F.CAN_C_TUN_RSP.ID, data := head ++ part }
      { frame := f, retry := 31, status := 1 } :: tunSegments c node a n s fuel (k + 1) (l.drop n)

/-- A reply enters its reply queue. -/
def putReply (k : Nat) (a : Ask) (b : List Byte) (s : State) : State :=
  match keyCan k with
  | some c =>
    let x := canOf s c
    let t : TunOut := { node := k % 256, frames := tunSegments c (k % 256) a (if a.fdf then 61 else 5) s 1000 0 b }
    setCan c { x with tout := x.tout ++ [t] } s
  | none => s.setPort k { s.portOf k with replies := (s.portOf k).replies ++ [b] }

/-- A status that says a request was executed (R549, R550). -/
def doneStatus (st : Nat) : Bool := st == St.ok || st == St.queued || st == St.refusedByPlacer || st == St.inFlight

/-- The oldest request of a port gets its reply (R544 to R547); one executed is remembered for R552 and keeps its session
alive (R567). -/
def answer (k : Nat) (a : Ask) (p : Reply) (exe : Bool) (s : State) : State :=
  let x := s.portOf k
  let s := s.setPort k { x with waiting := x.waiting.drop 1, held := false }
  let s :=
    if exe && doneStatus p.status then
      let l : LastReq := { session := a.req.session, seq := a.req.seq, code := a.code, crc := a.crc, op := a.op, at_ := s.dt, reply := p }
      let s := { s with lastReq := AMap.ins s.lastReq k l }
      match AMap.get? s.sessions a.req.session with
      | some y => { s with sessions := AMap.ins s.sessions a.req.session { y with last := s.dt } }
      | none => s
    else s
  if a.req.quiet && p.status == St.ok then s else putReply k a (replyBytes a p) s

/-! ### Orders and their arbitration (R572 to R577) -/

/-- The converter an order register affects (R573). -/
def orderConv (s : State) (i : Nat) : Option Nat :=
  if R.DCL_DCDC_CTRL ≤ i ∧ i < R.CHG_CTRL then (convsKind s 1).head?
  else if R.TRX_M_CFG 0 ≤ i ∧ i < R.TRX_M_CFG 2 then machConv s ((i - R.TRX_M_CFG 0) / 32)
  else if i = R.CHG_CTRL ∨ i = R.CHG_ILIM_HOST then chgConv s 3
  else match (List.range 3).find? fun a => i == R.ACT_A_CTRL a || i == R.ACT_A_TGT a with
    | some a => actConv s a
    | none => none

/-- W for an order that sets a register (R573). -/
def orderWindow (s : State) (i : Nat) : Nat :=
  match (orderConv s i).bind (convRec s) with
  | some c => max (s.tbOf c.group).p 10000
  | none => 10000

/-- The rank of a mode in row 1 of R574; SERVICE ranks below every mode it names. -/
def modeRank (m : Nat) : Nat :=
  if m = Mode.safe then 5 else if m = Mode.standby then 4 else if m = Mode.ready then 3
  else if m = Mode.charge ∨ m = Mode.drive then 2 else 1

/-- The row of R574 a field belongs to. -/
def orderRow (i : Nat) (f : Fld) : Nat :=
  let mach := decide (R.TRX_M_CFG 0 ≤ i ∧ i < R.TRX_M_CFG 2)
  let o := (i - R.TRX_M_CFG 0) % 32 + R.TRX_M_CFG 0
  let act := (List.range 3).any fun a => i == R.ACT_A_CTRL a
  let tgt := (List.range 3).any fun a => i == R.ACT_A_TGT a
  if i = R.DEV_MODE then 1
  else if mach then
    if o = R.TRX_M_CTRL 0 then
      if f = F.TRX_M_CTRL.EN then 2 else if f = F.TRX_M_CTRL.SBRAKE ∨ f = F.TRX_M_CTRL.LIMP then 3 else 7
    else if o = R.TRX_M_TREQ 0 ∨ o = R.TRX_M_WREQ 0 then 5 else 6
  else if tgt then (if f = F.ACT_A_TGT.ILIM then 6 else 7)
  else if act then (if f = F.ACT_A_CTRL.EN then 2 else if f = F.ACT_A_CTRL.BRAKE then 3 else 7)
  else if i = R.CHG_CTRL then (if f = F.CHG_CTRL.START then 2 else if f = F.CHG_CTRL.STOP then 3 else 7)
  else if i = R.DCL_DCDC_CTRL then 4
  else if i = R.DCL_DCDC_IREF then 5
  else if i = R.DCL_DCDC_VREF ∨ i = R.CHG_ILIM_HOST then 6
  else 7

/-- Whether value a of a field wins over value b on its row: none when the row leaves it to the origin order (R574). -/
def orderBeats (row : Nat) (f : Fld) (a b : Nat) : Option Bool :=
  let less := fun (x y : Nat) => if x < y then some true else if y < x then some false else none
  match row with
  | 1 => less (modeRank b) (modeRank a)
  | 2 => less a b
  | 3 => less b a
  | 4 => if a = 0 then some true else if b = 0 then some false else none
  | 5 => less (sx f.width a).natAbs (sx f.width b).natAbs
  | 6 => less a b
  | _ => none

/-- A field two orders set differently: index, field, the earlier value and the later one. -/
abbrev Clash := Nat × Fld × Nat × Nat

/-- The fields two orders set differently. -/
def clashes (a b : Order) : List Clash :=
  a.sets.flatMap fun x => (b.sets.filter fun y => x.1 == y.1 && x.2.1 == y.2.1 && x.2.2 != y.2.2).map
    fun y => (x.1, x.2.1, x.2.2, y.2.2)

/-- The clash that decides: the first row, and on it the first in the earlier order (R574). -/
def firstClash : List Clash → Option Clash
  | [] => none
  | x :: t => match firstClash t with
    | some y => if orderRow y.1 y.2.1 < orderRow x.1 x.2.1 then some y else some x
    | none => some x

/-- The value a register is ordered to take, from the order's fields over what it reads now. -/
def orderedWord (s : State) (i : Nat) (o : Order) : Nat :=
  if i = R.DEV_MODE then (match o.sets with | x :: _ => x.2.2 | [] => 0)
  else (o.sets.foldl (fun v x => if x.1 = i then x.2.1.set v x.2.2 else v) (readReg o.req s i)).toNat

/-- The oldest request of a port is the one an order came with, and still waits for the gloves. -/
def stillHeld (s : State) (o : Order) : Bool :=
  let p := s.portOf o.key
  p.held && (match p.waiting with | a :: _ => a.req == o.req | [] => false)

/-- The oldest request of a port has lost. -/
def markLost (k : Nat) (s : State) : State :=
  let p := s.portOf k
  match p.waiting with
  | a :: t => s.setPort k { p with waiting := { a with sup := true } :: t }
  | [] => s

/-- A new order meets the earlier ones still in force, in stamp order (R573 to R575). It returns the state and whether the
new order still stands. The conflict is reported as the loser is answered, or with the new order where an earlier loser has
been answered already. -/
def meets (o : Order) : List Order → State → State × Bool
  | [], s => (s, true)
  | e :: t, s =>
    match firstClash (clashes e o) with
    | none => meets o t s
    | some (i, f, ve, vo) =>
      if !e.live || e.key == o.key || decide (e.stamp + orderWindow s i ≤ o.stamp) then meets o t s
      else
        let earlier := match orderBeats (orderRow i f) f ve vo with | some b => b | none => decide (e.key < o.key)
        let idx := if i = R.DEV_MODE then 0x0020 else i
        let we := orderedWord s i e
        let wo := orderedWord s i o
        let old := if i = R.DEV_MODE then s.mode else (readReg o.req s idx).toNat
        if earlier then
          let c : Conflict := ⟨e.req, o.req, idx, old, we, wo, o.key, o.req.seq⟩
          ({ markLost o.key s with glove := { s.glove with confs := s.glove.confs ++ [c] } }, false)
        else
          let held := stillHeld s e
          let c : Conflict := ⟨o.req, e.req, idx, old, wo, we, if held then e.key else o.key, if held then e.req.seq else o.req.seq⟩
          let s := if held then markLost e.key s else s
          let lost := fun (x : Order) => if x == e then { x with live := false } else x
          meets o t { s with glove := { s.glove with confs := s.glove.confs ++ [c], orders := s.glove.orders.map lost } }

/-- The longest window an order can have. -/
def maxWindow (s : State) : Nat := (List.range 6).foldl (fun a j => max a (s.tbOf j).p) 10000

/-- An order is journalled: it is met with those before it (R573 to R576). -/
def orderArrives (k : Nat) (a : Ask) (op : Op) (s : State) : State :=
  match orderSets op with
  | [] => s
  | l =>
    let o : Order := { key := k, req := a.req, stamp := s.dt, sets := l }
    let old := s.glove.orders.filter fun x => x.live && decide (s.dt < x.stamp + maxWindow s)
    let (s, live) := meets o old { s with glove := { s.glove with orders := old } }
    if live then { s with glove := { s.glove with orders := s.glove.orders ++ [o] } } else s

/-- One conflict reported (R575, R583). -/
def reportConflict (c : Conflict) (s : State) : State :=
  let s := s.auditAdd (auditOf c.win 5 c.idx 0 c.old c.wval St.ok)
  let s := s.auditAdd (auditOf c.lose 6 c.idx 0 c.old c.lval St.superseded)
  let n := satInc 16 (s.fld R.CMD_ARB F.CMD_ARB.COUNT) 1
  let i := R.CMD_ARB
  let s := (s.setFld i F.CMD_ARB.WIN c.win.origin).setFld i F.CMD_ARB.LOSE c.lose.origin
  let s := (s.setFld i F.CMD_ARB.INDEX c.idx).setFld i F.CMD_ARB.COUNT n
  (s.setBit R.CMD_FLAGS F.CMD_FLAGS.SUPERSEDED true).raise EV.SUPERSEDED 0xFF [(1, c.win.origin), (1, c.lose.origin), (2, c.idx)]

/-- The conflicts that a request's release reports. -/
def reportConflicts (k seq : Nat) (s : State) : State :=
  let (now, later) := s.glove.confs.partition fun c => c.key == k && c.seq == seq
  forEach now reportConflict { s with glove := { s.glove with confs := later } }

/-! ### The checks before an opcode's own (R549), and execution in order -/

/-- A read opcode reaches only registers below a bound. -/
def readsBelow (n : Nat) : Op → Bool
  | .regRead l => l.all fun i => decide (i < n)
  | .readRep i _ => decide (i < n)
  | _ => false

/-- Steps 2 to 7 of the cold start are in progress. -/
def booting (s : State) : Bool :=
  match s.boot.phase with
  | .clock | .image | .selftest | .plant | .links => true
  | _ => false

/-- An opcode is admitted after a boot failure (R571). -/
def recoveryOp (code : Nat) (op : Option Op) : Bool :=
  code == 0x01 || [0x30, 0x31, 0x32, 0x60, 0x61, 0x62, 0x63, 0x64, 0x65].contains code ||
    (code == 0x10 && (match op with | some o => readsBelow 0x100 o | none => false))

/-- The session a packet names is open to it (R562, R564). -/
def sessionOpenTo (s : State) (a : Ask) : Bool :=
  a.req.session == 0 ||
  (match AMap.get? s.sessions a.req.session with
   | some x => if x.auth then x.origin == a.req.origin && x.node == a.req.node else a.code == 0x31
   | none => false)

/-- The earlier reply of a request that repeats the last one its origin executed (R552). -/
def repeated (s : State) (k : Nat) (a : Ask) : Option Reply :=
  match AMap.get? s.lastReq k with
  | some l =>
    let same := l.session == a.req.session && l.seq == a.req.seq && l.code == a.code && l.crc == a.crc &&
      (a.crc.isSome || l.op == a.op)
    if same && decide (s.dt < l.at_ + 200000000) then some l.reply else none
  | none => none

/-- What becomes of the oldest request of a port: an answer, or a wait for the gloves. -/
inductive Verdict where
  | reply (p : Reply) (exe : Bool) (s : State)
  | wait (s : State)

/-- The journal source of a port (R508). -/
def keySrc (k : Nat) : Nat := k / 256

/-- A request that the gloves decide (R534, R560): the checks that can be made are made at once. -/
def toGlove (stepGo : State → State) (k : Nat) (a : Ask) (op : Op) (s : State) : Verdict :=
  let x : Ran := match op with
    | .modeReq _ | .sessOpen | .sessAuth _ | .sessClose => ⟨⟨if opRange op then St.ok else St.badParam, []⟩, true, s⟩
    | _ => opRun stepGo a.req op s
  if !x.exe || !doneStatus x.reply.status then .reply x.reply false x.s
  else if s.bit R.GLV_STAT F.GLV_STAT.HALTED then .reply ⟨St.busy, []⟩ false s
  else .wait (orderArrives k a op (jWrite (keySrc k) (.ask k) (s.setPort k { s.portOf k with held := true })))

/-- The oldest request of a port is checked and executed (R549, R552, R558). -/
def decideAsk (stepGo : State → State) (k : Nat) (a : Ask) (s : State) : Verdict :=
  let no := fun (st : Nat) => Verdict.reply ⟨st, []⟩ false s
  if a.crcBad then no St.badCrc
  else match repeated s k a with
  | some p => .reply p false s
  | none =>
    if a.op = some .safeReq ∨ a.op = some (.modeReq Mode.safe) then .reply ⟨St.ok, []⟩ true s
    else if booting s && !(match a.op with | some o => readsBelow 0x40 o | none => false) then no St.busy
    else if !knownCode a.code then no St.badOpcode
    else if s.boot.imageBad && !recoveryOp a.code a.op then no St.wrongMode
    else match a.op with
      | none => no St.badParam
      | some op =>
        if !opForm op then no St.badParam
        else if !sessionOpenTo s a then no St.denied
        else if needsGlove op then toGlove stepGo k a op s
        else
          let x := opRun stepGo a.req op s
          .reply x.reply x.exe x.s

/-- A port executes its requests in arrival order (R545), up to one that waits for the gloves; the fuel bounds their
number. -/
def pump (stepGo : State → State) : Nat → Nat → State → State
  | 0, _, s => s
  | n + 1, k, s =>
    let p := s.portOf k
    if p.held then s
    else match p.waiting with
      | [] => s
      | a :: _ =>
        match decideAsk stepGo k a s with
        | .reply x exe s => pump stepGo n k (answer k a x exe s)
        | .wait s => s

/-- The interval of an asked decision is released: the oldest request of the port is executed, or answered SUPERSEDED
(R517, R575), and those behind it follow. -/
def askReleased (stepGo : State → State) (k : Nat) (s : State) : State :=
  let p := s.portOf k
  match p.held, p.waiting with
  | true, a :: _ =>
    let s := reportConflicts k a.req.seq s
    let s := match a.sup, a.op with
      | true, _ => answer k a ⟨St.superseded, []⟩ false s
      | false, some op => let x := opRun (fun s => s) a.req op s; answer k a x.reply x.exe x.s
      | false, none => answer k a ⟨St.badParam, []⟩ false s
    pump stepGo 20 k s
  | _, _ => s

/-- The decision of an asked request is discarded with its interval (R521): it has no effect and no reply, and its port
goes on. -/
def askDropped (k : Nat) (s : State) : State :=
  let p := s.portOf k
  if p.held then
    let seq := match p.waiting with | a :: _ => a.req.seq | [] => 0
    let left := s.glove.confs.filter fun c => !(c.key == k && c.seq == seq)
    { s.setPort k { p with waiting := p.waiting.drop 1, held := false } with glove := { s.glove with confs := left } }
  else s

/-! ### Arrival (R541 to R545, R558) -/

/-- The ports work: not in reset, not in STANDBY. -/
def portsLive (s : State) : Bool := s.boot.phase == .run || booting s

/-- A request that comes when 16 are held is dropped (R544, R611). -/
def dropAsk (k : Nat) (s : State) : State :=
  let p := s.portOf k
  let s := match keyCan k with
    | some c => s.incFld (R.CAN_C_RXSTAT c) F.CAN_C_RXSTAT.TUN_DROP 1
    | none => s.incFld (R.CMD_PORT_STAT (k / 256 - 1)) F.CMD_PORT_STAT.DROPPED 1
  let s := (s.setBit R.CMD_FLAGS F.CMD_FLAGS.OVERFLOW true).setPort k { p with dropped := true, dropRun := true }
  if p.dropRun then s else s.raise EV.CMD_OVERFLOW 0xFF []

/-- A request that fails check 1 is counted; its event is raised once for each unbroken run. -/
def crcFailed (k : Nat) (s : State) : State :=
  let s := match keyCan k with
    | some _ => s
    | none => s.incFld (R.CMD_PORT_STAT (k / 256 - 1)) F.CMD_PORT_STAT.BAD_CRC 1
  let s := s.setBit R.CMD_FLAGS F.CMD_FLAGS.BAD_CRC true
  if (s.portOf k).crcRun then s else (s.setPort k { s.portOf k with crcRun := true }).raise EV.BAD_CRC 0xFF []

/-- The request asks for SAFE, and is not damaged (R43, R44). -/
def asksSafe (a : Ask) : Bool :=
  !a.crcBad && (decide (a.op = some .safeReq) || decide (a.op = some (.modeReq Mode.safe)))

/-- A request reaches its port (R43, R44, R544, R558): a SAFE request acts at once, unless the module already stands in SAFE;
with 16 held it is dropped, and otherwise it waits behind those before it, which the Boolean says. -/
def askEnters (a : Ask) (s : State) : Bool × State :=
  if !portsLive s then (false, s)
  else
    let k := pathKey a.req
    let s := match keyCan k with
      | some _ => s
      | none =>
        let i := R.CMD_PORT_STAT (k / 256 - 1)
        s.setFld i F.CMD_PORT_STAT.REQUESTS (s.fld i F.CMD_PORT_STAT.REQUESTS + 1)
    let s := if asksSafe a && !(decide (s.mode = Mode.safe) && s.trans.isNone) then enterSafe Cause.cmd a.req s else s
    if 16 ≤ heldCount s k then (false, dropAsk k s)
    else
      let s := s.setPort k { s.portOf k with dropRun := false }
      let s := if a.crcBad then crcFailed k s else s.setPort k { s.portOf k with crcRun := false }
      let p := s.portOf k
      (true, s.setPort k { p with waiting := p.waiting ++ [a] })

/-- A request arrives at its port, which executes what it can (R545). -/
def askArrives (stepGo : State → State) (a : Ask) (s : State) : State :=
  let (on, s) := askEnters a s
  if on then pump stepGo 20 (pathKey a.req) s else s

/-- The status word a port shifts out in front of every frame (R541). -/
def portWord (p : Port) : Nat := 0x8000 * b2n (!p.replies.isEmpty) + 0x4000 * b2n p.dropped + (p.replies.headD []).length

/-- A frame begins on command port n: its status word is shifted out. -/
def frameBegins (n : Nat) (s : State) : State :=
  let p := s.portOf (256 * (n + 1))
  s.setPort (256 * (n + 1)) { p with word := portWord p }

/-- A fetch of the oldest reply of command port n, shifted out to its last byte or not (R541, R542). -/
def fetchFrame (n : Nat) (whole : Bool) (s : State) : State :=
  if !portsLive s then s
  else
    let k := 256 * (n + 1)
    let s := frameBegins n s
    let p := s.portOf k
    s.setPort k { p with replies := if whole then p.replies.drop 1 else p.replies, dropped := false }

/-- The bytes of a frame on command port n: one that begins with 0x00 is a fetch, whole once the oldest reply has been
shifted out behind the status word (R542, R543), any other is a request. Each byte of it that meets the port's FIFO full is discarded,
and the packet fails its CRC (R21, R23). Ports that are not live take nothing in. -/
def frameArrives (stepGo : State → State) (n : Nat) (l : List Byte) (lost : Nat) (s : State) : State :=
  if l.head? = some 0 then fetchFrame n (decide (2 + ((s.portOf (256 * (n + 1))).replies.headD []).length ≤ l.length + lost)) s
  else
    let a := askOf (n + 1) 0 l false false
    let s := if portsLive s then frameBegins n (fifoMetN (12 * 64 + n) lost s) else s
    askArrives stepGo (if lost = 0 then a else { a with op := none, crcBad := true }) s

/-- The oldest request of a port executed now: one that the gloves decide takes their agreed decision with it. -/
def askNow (stepGo : State → State) (k : Nat) (a : Ask) (s : State) : State :=
  match decideAsk stepGo k a s with
  | .reply x exe s => answer k a x exe s
  | .wait _ =>
    match a.op with
    | some op => let x := opRun stepGo a.req op s; answer k a x.reply x.exe x.s
    | none => s

/-- A request of an origin as the operation it spells, its frame, flags and CRC good, from its arrival to its execution
(R549 to R553): when the port is free and the gloves release their outputs, it is executed within the command, the agreed
decision with it (R45; assumption 7); in a mismatch, in a halt, and behind a request that waits for the gloves, it takes the
path of a frame. -/
def hostOp (stepGo : State → State) (r : Req) (op : Op) (s : State) : State :=
  let a : Ask := { req := r, code := opCode op, op := some op }
  let k := pathKey r
  if (s.portOf k).held || outputsKept s then askArrives stepGo a s
  else
    let (on, s) := askEnters a s
    if on then askNow stepGo k a s else s

/-! ### Sessions that end, lock-outs, the software reset (R566, R567) -/

/-- SESSION_TIMEOUT (R567): 600 s have passed without an accepted packet in session n. -/
def sessionTimeout (n : Nat) (s : State) : State :=
  match AMap.get? s.sessions n with
  | some x => if x.auth then sessionEnd n 2 (s.until (x.last + 120000000000)) else s
  | none => s

def execSessionTimeout (e : Nat) (n : Fin 255) (s : State) : Host.Outcome State Fault Refusal :=
  .next (sessionTimeout n (s.tick e))

/-- LOCKOUT_END (R566): the lock-out of an origin (1 to 5) and node ends. -/
def lockoutEnd (k : Nat) (s : State) : State :=
  match AMap.get? s.lockouts k with
  | some x =>
    if x.until_ = 0 then s
    else
      let s := s.until x.until_
      { s with lockouts := AMap.ins s.lockouts k { x with until_ := 0 } }
  | none => s

def execLockoutEnd (e : Nat) (origin : Fin 6) (node : Fin 256) (s : State) : Host.Outcome State Fault Refusal :=
  .next (lockoutEnd (256 * origin + node) (s.tick e))

def execFetchFrame (e : Nat) (n : Fin 2) (whole : Bool) (s : State) : Host.Outcome State Fault Refusal :=
  .next (fetchFrame n whole (s.tick e))

end Sys2Proof.Machine
end

