-- ==== Sys2Proof/Machine/Tunnel.lean ====
section
/-! DEFINITION. Frames that a CAN controller receives (chapter 17): tunnel segments and the packets they make (R609 to
R612), heartbeats, and host frames for the filters. -/

namespace Sys2Proof.Machine

/-- A tunnelled packet is discarded (R610). -/
def tunError (c : Nat) (s : State) : State :=
  (canFlag c F.CAN_FLAGS.TUNNEL (s.incFld (R.CAN_C_STAT c) F.CAN_C_STAT.TUN_ERR 1)).raise EV.TUNNEL_ERR c []

/-- The packet open for a node is closed. -/
def tunClose (c node : Nat) (s : State) : State :=
  let x := canOf s c
  setCan c { x with tin := x.tin.filter fun t => t.node != node } s

/-- A frame is a tunnel segment for this module (R609). -/
def isSegment (s : State) (c : Nat) (f : CanFrame) : Bool :=
  let i := R.CAN_C_TUN_REQ c
  s.bit i F.CAN_C_TUN_REQ.EN && f.id == s.fld i F.CAN_C_TUN_REQ.ID && f.ide == s.bit i F.CAN_C_TUN_REQ.IDE &&
    decide (2 ≤ f.data.length) && (f.data.getD 1 0).toNat == s.fld (R.CAN_C_CFG c) F.CAN_C_CFG.OWN

/-- A packet in reassembly after another segment (R610): discarded when L is too great, a request of its origin when it is
complete (R611), else kept. -/
def tunFed (stepGo : State → State) (c : Nat) (t : TunIn) (s : State) : State :=
  let l := leAt t.bytes 4 2
  let s := tunClose c t.node s
  if 8 ≤ t.bytes.length ∧ 4164 < l then tunError c s
  else if 8 ≤ t.bytes.length ∧ 12 + l ≤ t.bytes.length then
    askArrives stepGo (askOf (3 + c) t.node (t.bytes.take (12 + l)) t.fdf t.brs) s
  else setCan c { canOf s c with tin := (canOf s c).tin ++ [t] } s

/-- TUNNEL_SEGMENT (R610): a segment that became valid at tick t. -/
def segment (stepGo : State → State) (c : Nat) (f : CanFrame) (t : Nat) (s : State) : State :=
  let node := (f.data.getD 0 0).toNat
  let ctl := (f.data.getD 2 0).toNat
  let body := f.data.drop 3
  let stale := (canOf s c).tin.any fun x => x.node == node && decide (x.last + 10000000 ≤ t)
  let s := if stale then tunError c (tunClose c node s) else s
  if 128 ≤ ctl then
    let s := tunClose c node s
    if 8 ≤ (canOf s c).tin.length then tunError c s
    else tunFed stepGo c { node := node, bytes := body, ctr := 1, last := t, fdf := f.fdf, brs := f.brs } s
  else match (canOf s c).tin.find? fun x => x.node == node with
    | none => tunError c s
    | some x =>
      if ctl % 64 = x.ctr then tunFed stepGo c { x with bytes := x.bytes ++ body, ctr := (x.ctr + 1) % 64, last := t } s
      else tunError c (tunClose c node s)

/-- A frame that carries a segment or a heartbeat is taken (R609, R615). -/
def takeFrame (stepGo : State → State) (c : Nat) (t : Nat) (f : CanFrame) (s : State) : State :=
  if isSegment s c f then segment stepGo c f t s
  else match hbNode s f with
    | some n => heartbeat c n t f s
    | none => s

/-- The frames that waited for a halt to end are taken (R534). -/
def takeWaiting (stepGo : State → State) (s : State) : State :=
  forEach [0, 1, 2] (fun c s =>
    let l := (canOf s c).wait
    forEach l (fun p s => takeFrame stepGo c p.1 p.2 s) (setCan c { canOf s c with wait := [] } s)) s

/-- A frame received on controller c (R534, R604, R609, R615): a segment is taken first; every other frame is offered to
the filters, and a heartbeat also reaches the partner table. An FD frame met with `FD_EN` = 0 makes the controller integrate
again (R588). Its start of frame lies `ago` ticks back; `lost`: it met a full D2 receive FIFO (R23, R608). -/
def canReceive (stepGo : State → State) (c : Nat) (f : CanFrame) (ago : Nat) (lost : Bool) (s : State) : State :=
  let st := canStat s c F.CAN_C_STAT.STATE
  if s.boot.phase != .run || !(st == 1 || st == 2) || (canOf s c).integ then s
  else if f.fdf && !s.bit (R.CAN_C_CFG c) F.CAN_C_CFG.FD_EN then canJoin c s
  else
    let s := canRxGood c s
    let seg := isSegment s c f
    if lost then canFifoLost c s
    else
      let s := setCan c { canOf s c with fifoRun := false } s
      let s := if seg then s else canOffer c f (s.dt - ago) s
      if jStopped s && (seg || (hbNode s f).isSome) then setCan c { canOf s c with wait := (canOf s c).wait ++ [(s.dt, f)] } s
      else takeFrame stepGo c s.dt f s

/-- TUNNEL_TIMEOUT (R610): 50 ms have passed since the last segment of a node's packet. -/
def tunTimeout (c node : Nat) (s : State) : State :=
  match (canOf s c).tin.find? fun x => x.node == node with
  | some x => tunError c (tunClose c node (s.until (x.last + 10000000)))
  | none => s

def execTunnelTimeout (e : Nat) (c : Fin 3) (node : Fin 256) (s : State) : Host.Outcome State Fault Refusal :=
  .next (tunTimeout c node (s.tick e))

end Sys2Proof.Machine
end

