-- ==== Sys2Proof/Machine/Glove.lean ====
section
/-! DEFINITION. The glove pair's checkpoints (spec/15_glove_pair.md, R506 to R537): SAMPLE entries, the comparison of the
records, mismatch and escalation, the release of an interval with the supervisors, the watchdog, cache faults and the
debug halt. -/

namespace Sys2Proof.Machine

/-- A difference between the cores' records: its kind (R518: 0 OUTPUT, 1 SIGNATURE, 2 LATE, 3 CACHE) and the core it names
(0 both or neither, 1 GL, 2 GR). -/
abbrev Diff := Fin 4 × Fin 3

/-- The glove pair works: its cores run, and device time counts. -/
def gloveLive (s : State) : Bool := s.glove.on && s.d0

/-! ### SAMPLE and safe-state supervision (R511, R528) -/

/-- The state an island of a machine in its safe state should be in (R153 to R156, R528): as commanded, or as held since a
link that returned, and off while it is impaired or waits for an off state after a lock-out (R95, R155). -/
def selWants (s : State) (n : Nat) : Bool :=
  let x := s.islOf n
  !impaired s n && !x.needOff && x.okDue.isNone &&
    (x.cmdOn || (s.bit (R.ISL_STAT n) F.ISL_STAT.IN_FALLBACK && fbOn s n))

/-- The islands whose gate echo differs from what the selector commands, on machines in their safe state. -/
def echoBad (s : State) : List Nat :=
  [0, 1].flatMap fun m =>
    if s.bit (R.PROT_SS_STAT m) F.PROT_SS_STAT.APPLIED then
      (machIsls s m).filter fun n => decide (n < 48) && linkUp s n && s.bit (R.ISL_STAT n) F.ISL_STAT.GATE != selWants s n
    else []

/-- The SAMPLE entry of interval n, with its snapshot (R511). -/
def takeSample (n : Nat) (s : State) : State :=
  if jStopped s then s
  else
    let s := forEach [0, 1, 2] actMeasure s
    let sn : Snap := { regs := s.regs, sp := s.eng.sp, echo := echoBad s }
    jWrite 12 .none { s with glove := { s.glove with snaps := AMap.ins s.glove.snaps n sn } }

/-- The echoes of one SAMPLE are judged: four in a row for one island are reported, and enter SAFE (R528). -/
def echoCheck (l : List Nat) (s : State) : State :=
  let runs : AMap Nat := l.foldl (fun a n => AMap.ins a n (AMap.getD s.glove.echo n 0 + 1)) []
  let s := { s with glove := { s.glove with echo := runs } }
  forEach l (fun n s =>
    if AMap.getD runs n 0 = 4 then
      let s := (s.setBit R.GLV_FLAGS F.GLV_FLAGS.ECHO true).raise EV.GLOVE_ECHO n []
      if s.mode = Mode.safe then s else enterSafe Cause.prot reqInternal s
    else s) s

/-! ### Releasing and discarding an interval (R505, R515, R517, R521) -/

/-- The entries of an interval, in sequence order. -/
def entriesOf (s : State) (k : Nat) : List JEnt := s.glove.ents.filter fun x => x.iv == k

/-- The supervisors evaluate once for an interval, on its SAMPLE (R505, R511); the recovery program has none (R531). -/
def supervise (k : Nat) (msgs : List PairMsg) (s : State) : State :=
  match AMap.get? s.glove.snaps k with
  | none => s
  | some x =>
    if s.boot.phase != .run || s.boot.imageBad then s
    else
      let sn : State := { s with regs := x.regs, eng := { s.eng with sp := x.sp }, dt := 10000 * k }
      let s := chgSup (trxSup 1 sn (trxSup 0 sn (actSupAll sn s)))
      let s := pairSup msgs s
      let s := if s.heldMode.isSome || !s.heldFn.isEmpty then evalHeld s else s
      echoCheck x.echo s

/-- The outputs of interval k are released: its requests in sequence order, then what the supervisors decide; its entries
are freed (R517). -/
def release (stepGo : State → State) (k : Nat) (s : State) : State :=
  let l := entriesOf s k
  let s := forEach l (fun x s => match x.body with | .ask key => askReleased stepGo key s | _ => s) s
  let msgs := l.filterMap fun x => match x.body with | .msg m => some m | _ => none
  jFree k (supervise k msgs s)

/-- The outputs of interval k are discarded (R521). -/
def discard (k : Nat) (s : State) : State :=
  jFree k (forEach (entriesOf s k) (fun x s => match x.body with | .ask key => askDropped key s | _ => s) s)

/-! ### Comparison (R516 to R523) -/

/-- A difference noted: count, kind, core, interval, flags (R519, R521). -/
def noteDiff (d : Diff) (k : Nat) (s : State) : State :=
  let s := s.incFld R.GLV_MISM F.GLV_MISM.COUNT 1
  let s := (s.setFld R.GLV_MISM F.GLV_MISM.LAST_KIND d.1).setFld R.GLV_MISM F.GLV_MISM.LAST_CORE d.2
  let s := (s.setFld R.GLV_MISM_CP F.GLV_MISM_CP.CP k).setFld R.GLV_STAT F.GLV_STAT.AGREE 0
  let s := s.setBit R.GLV_FLAGS F.GLV_FLAGS.MISMATCH true
  if d.1.val = 2 then s.setBit R.GLV_FLAGS F.GLV_FLAGS.LATE true else s

/-- A difference with the run at 0: the interval's outputs are withheld (R519). -/
def withhold (d : Diff) (k : Nat) (s : State) : State :=
  ((noteDiff d k s).setBit R.GLV_STAT F.GLV_STAT.RUN true).raise EV.GLOVE_MISMATCH 0xFF [(1, d.1), (1, d.2), (5, k)]

/-- A difference with the run at 1 (R521). -/
def gloveEscalate (d : Diff) (k : Nat) (ks : List Nat) (s : State) : State :=
  let s := enterSafe Cause.glove reqInternal ((noteDiff d k s).setBit R.GLV_STAT F.GLV_STAT.RUN false)
  let s := forEach ks discard s
  (s.setBit R.GLV_FLAGS F.GLV_FLAGS.ESCALATED true).raise EV.GLOVE_ESCALATE 0xFF []

/-- An agreed checkpoint n (R506, R517, R520, R522): the intervals compared are released in order, and the pair link's
message m, assembled from the snapshot of the checkpoint's SAMPLE entry, is sent (R676). -/
def agree (stepGo : State → State) (n : Nat) (m : PairMsg) (ks : List Nat) (s : State) : State :=
  let a := satInc 16 (s.fld R.GLV_STAT F.GLV_STAT.AGREE) 1
  let s := s.setFld R.GLV_STAT F.GLV_STAT.AGREE a
  let s := if 2000 ≤ a then s.setBit R.GLV_STAT F.GLV_STAT.RUN false else s
  let s := s.setFld R.GLV_CP F.GLV_CP.CP n
  let s := { s with glove := { s.glove with agreeAt := s.dt } }
  pairSend m (forEach ks (release stepGo) s)

/-- The difference at a checkpoint: an uncorrectable cache error of the intervals compared, or the one met (R518, R529). -/
def checkDiff (s : State) (d : Option Diff) : Option Diff :=
  match s.glove.fatal with
  | 0 => d
  | 1 => some (3, 1)
  | 2 => some (3, 2)
  | _ => some (3, 0)

/-- The comparison at checkpoint n of every interval not yet released up to n − 2 (R516, R519 to R521). -/
def compareAt (stepGo : State → State) (n : Nat) (m : PairMsg) (d : Option Diff) (s : State) : State :=
  let g := s.glove
  if n < g.rel + 2 ∨ s.dt < g.cmpFrom then s
  else
    let ks := (sortNat (g.cnt.map (·.1))).filter fun k => decide (k + 2 ≤ n)
    let k := ks.headD (n - 2)
    let d := checkDiff s d
    let s := { s with glove := { g with fatal := 0 } }
    let done := fun (s : State) => { s with glove := { s.glove with rel := n - 1 } }
    match d with
    | none => done (agree stepGo n m ks s)
    | some d => if s.bit R.GLV_STAT F.GLV_STAT.RUN then done (gloveEscalate d k ks s) else withhold d k s

/-! ### The halt (R532 to R536) -/

/-- Interval k begins: GL consumes the entries deferred to it, and may reach the breakpoint among them (R512, R533). -/
def breakAt (k : Nat) (s : State) : State := (entriesOf s k).foldl (fun s x => breakMet x.seq s) s

/-- GR must have reached a pending halt's position by the checkpoint that compares the intervals of the entries before it. -/
def haltDue (n : Nat) (s : State) : Bool :=
  match s.glove.haltPos with
  | some (p, _) => (s.glove.ents.takeWhile fun x => x.seq != p).all fun x => decide (x.iv + 2 ≤ n)
  | none => false

/-- GLOVE_HALT_REACHED (R533): both cores stand at the position asked for. -/
def haltReachedNow (s : State) : State :=
  match s.glove.haltPos with
  | some (p, why) => haltReached p why s
  | none => s

def execGloveHaltReached (e : Nat) (s : State) : Host.Outcome State Fault Refusal :=
  let s := s.tick e
  .next (if gloveLive s then haltReachedNow s else s)

/-- STEP (R535): both cores consume entry p and halt before the next; agreement releases its outputs, a difference is
handled as R519. The fuel bounds the steps a released request may ask in turn. -/
def gloveStep : Nat → Option Diff → State → State
  | 0, _, s => s
  | fuel + 1, d, s =>
    if !s.bit R.GLV_STAT F.GLV_STAT.HALTED then s
    else
      let p := s.fld R.GLV_DBG_STAT F.GLV_DBG_STAT.POS
      match s.glove.ents.find? fun x => x.seq == p with
      | none => s
      | some x =>
        let s := match d with
          | some d => withhold d x.iv s
          | none =>
            let rest := s.glove.ents.map fun y => if y.seq = p then { y with body := .none } else y
            let s := { s with glove := { s.glove with ents := rest } }
            match x.body with
            | .ask key => askReleased (gloveStep fuel none) key s
            | .msg m => supervise x.iv [m] s
            | .none => if x.src = 12 then supervise x.iv [] s else s
        haltReached (p + 1) 3 s

/-- What carries out a `STEP` that a packet writes. -/
def stepGo : State → State := gloveStep 4 none

/-- Journal writing restarts at checkpoint n after a resume (R536). -/
def restartAt (n : Nat) (s : State) : State :=
  match s.glove.restart with
  | some r => if r ≤ n then { s with glove := { s.glove with restart := none } } else s
  | none => s

/-- GLOVE_CHECKPOINT (R506 to R536): checkpoint C_n, at which the link's monitor reads `vl`, the cores' records agree or
differ, and the longer execution of an interval took `work` ticks. -/
def gloveCheckpoint (vl : Nat) (d : Option Diff) (work : Nat) (s : State) : State :=
  if !gloveLive s then s
  else
    let n := max s.glove.next (s.dt / 10000)
    let s := setVlink vl (s.until (n * 10000))
    let s := { s with glove := { s.glove with next := n + 1 } }
    if s.bit R.GLV_STAT F.GLV_STAT.HALTED then s
    else if haltDue n s then haltReachedNow s
    else
      let s := s.setFld R.GLV_STAT F.GLV_STAT.WORK_MAX (max work (s.fld R.GLV_STAT F.GLV_STAT.WORK_MAX))
      let s := takeSample n (restartAt n (breakAt n s))
      jDrain 8192 (compareAt stepGo n (pairMsgNow s) d (if jStopped s then s else takeWaiting stepGo s))

def execGloveCheckpoint (e : Nat) (vl : BitVec 13) (diff : Option Diff) (work : BitVec 16) (s : State) : Host.Outcome State Fault Refusal :=
  .next (gloveCheckpoint vl.toNat diff work.toNat (s.tick e))

/-! ### The watchdog and the caches (R524, R529) -/

/-- GLOVE_WATCHDOG (R524): 2 ms have passed without an agreed checkpoint; the SAFE request and `nFAULT` come at once, the
reset 10 µs later. -/
def gloveWatchdog (s : State) : State :=
  if !gloveLive s || s.bit R.GLV_STAT F.GLV_STAT.HALTED || s.glove.wdDue.isSome then s
  else
    let s := s.until (s.glove.agreeAt + 400000)
    let s := { s with nfault := true, glove := { s.glove with wdDue := some (s.dt + 2000) } }
    enterSafe Cause.glove reqInternal s

def execGloveWatchdog (e : Nat) (s : State) : Host.Outcome State Fault Refusal := .next (gloveWatchdog (s.tick e))

/-- GLOVE_CACHE (R529): core GL (0) or GR (1) meets a parity error in its instruction cache or a single-bit error in its data
cache, which it corrects, or an error it cannot correct. -/
def gloveCache (core : Nat) (fatal : Bool) (s : State) : State :=
  if !gloveLive s then s
  else
    let who := [(1, core + 1)]
    let i := R.GLV_CACHE
    if fatal then
      let s := s.incFld i (if core = 0 then F.GLV_CACHE.GL_FATAL else F.GLV_CACHE.GR_FATAL) 1
      let s := { s with glove := { s.glove with fatal := setBitN s.glove.fatal core } }
      s.flagRaise R.GLV_FLAGS F.GLV_FLAGS.CACHE_FATAL EV.GLOVE_CACHE 0xFF who
    else
      let s := s.incFld i (if core = 0 then F.GLV_CACHE.GL_CORR else F.GLV_CACHE.GR_CORR) 1
      s.flagRaise R.GLV_FLAGS F.GLV_FLAGS.CACHE_CORR EV.GLOVE_CACHE 0xFF who

def execGloveCache (e : Nat) (core : Fin 2) (fatal : Bool) (s : State) : Host.Outcome State Fault Refusal :=
  .next (gloveCache core fatal (s.tick e))

end Sys2Proof.Machine
end

