-- ==== Sys2Proof/Machine/Boundary.lean ====
section
/-! DEFINITION. What meets at a timebase: its start and stop (R170), the commit deadline with the pair comparator
(R317 to R326, R34 to R37), the period boundary (R184, R325, R138, R156, R342, R68), graph activations, queue writes and
gate edges, each with what the other chapters hang on it. -/

namespace Sys2Proof.Machine

/-! ### Starting and stopping (R170, R276, R304, R323) -/

/-- The loaded graphs bound to timebase j. -/
def graphsOfTb (s : State) (j : Nat) : List Nat := (List.range 8).filter fun g => gLoaded s g && tbOfGraph s g == j

/-- A timebase's graphs begin afresh: their state at the next activation, their hand-off slots, their converters' runs. An
activation still in progress runs to its end first (R275). -/
def graphsFresh (j : Nat) (s : State) : State :=
  let s := forEach (graphsOfTb s j) (fun g s =>
    let u := s.graphOf g
    let act := u.act.map fun a => { a with spent := true }
    let s := s.setGraph g { u with fresh := true, notices := [], done := [], act := act }
    forEach (handsOf s g) (fun p s =>
      let s := (s.setHand p.1 {}).setReg (R.ENG_HAND p.1) 0
      s.setBitAt (R.ENG_HAND_HELD (p.1 / 32)) F.ENG_HAND_HELD.HELD (p.1 % 32) false) s) s
  forEach (convsOfTb s j) (fun c s => s.setConv c { s.convOf c with mism := 0, missed := 0 }) s

/-- Timebase j starts, with the sources of its chain before it (R170); the fuel bounds the chain. -/
def startChain : Nat → Nat → State → State
  | 0, _, s => s
  | n + 1, j, s =>
    if (s.tbOf j).run || !tbWanted s j then s
    else
      let s := if s.fld (R.PWM_TB_CFG j) F.PWM_TB_CFG.SRC = 1 then startChain n (j - 1) s else s
      graphsFresh j (tbStart j s)

/-- TIMEBASE_START (R170): timebase j begins to run, when a converter wants it. -/
def execTimebaseStart (e : Nat) (j : Fin 6) (s : State) : Host.Outcome State Fault Refusal := .next (startChain 6 j (s.tick e))

/-- A timebase that nothing wants any more stops at its boundary. -/
def stopUnwanted (j : Nat) (s : State) : State := if tbWanted s j then s else tbStop j (adcStopTb j s)

/-! ### The commit deadline (R34 to R37, R317 to R326) -/

/-- A failure of graph g's pair, or a report of one that affects it, stands untaken: it brings no set (R324, R342). -/
def graphDown (s : State) (g : Nat) : Bool := !pairWhole s g || s.plc.fails.any fun f => (failGraphs s f).contains g

/-- A failure stands against graph g or its pair: no deadline of it is counted (R324, R342). -/
def graphOut (s : State) (g : Nat) : Bool := s.bit (R.PLC_GRAPH g) F.PLC_GRAPH.SUSPENDED || graphDown s g

/-- What graph g brings to the checkpoint of period n at tick d: its set, when both tokens stood in the FIFO before that tick
(R34, R318). -/
def doneFor (s : State) (g n d : Nat) : Option DoneSet := (s.graphOf g).done.find? fun x => x.n == n && decide (x.tick < d)

/-- Graph g's checkpoint is shown in its pair's status. -/
def pairShown (g n : Nat) (held : Bool) (s : State) : State :=
  let i := R.ENG_PAIR_STAT_K (pairOf s g)
  (s.setFld i F.ENG_PAIR_STAT_K.LAST_N n).setBit i F.ENG_PAIR_STAT_K.HELD_LAST held

/-- A missed deadline of converter c at tick d is counted and told (R35). -/
def missCount (d c : Nat) (s : State) : State :=
  let s := (s.incFld R.FAB_DEADLINE F.FAB_DEADLINE.MISS_COUNT 1).setFld R.FAB_DEADLINE F.FAB_DEADLINE.LAST_CONV c
  (s.setBit R.FAB_FLAGS F.FAB_FLAGS.DEADLINE true).raiseAt d EV.DEADLINE c []

/-- Graph g has missed the deadline at tick d (R35, R37): each converter it serves is counted; the second miss in a row
reports the pair. `apart` says that the members' signatures differ (R341). -/
def missed (g d : Nat) (apart : Bool) (s : State) : State :=
  let s := forEach (convsOfGraph s g) (fun c s =>
    missCount d c (s.setConv c { s.convOf c with missed := (s.convOf c).missed + 1 })) s
  if (convsOfGraph s g).any (fun c => decide (2 ≤ (s.convOf c).missed)) then
    failReport { kind := 2, index := 2 * pairOf s g, graph := g, init := apart } s
  else s

/-- The converters a difference of graph g affects (R320): the owner of a differing set value; for a hand-off or a signature, and
for a value no converter of the graph owns, all. -/
def affected (s : State) (g : Nat) (x : PairDiff) : List Nat :=
  let all := convsOfGraph s g
  if x.kind = 1 ∧ all.contains x.conv then [x.conv] else all

/-- The differences l, the first of them x, at graph g's complete checkpoint at tick d (R320). -/
def pairMismatch (g : Nat) (x : PairDiff) (rest : List PairDiff) (d : Nat) (s : State) : State :=
  let k := pairOf s g
  let all := convsOfGraph s g
  let hit := (x :: rest).flatMap (affected s g)
  let l := all.filter hit.contains
  let i := R.ENG_PAIR_MISM_K k
  let last := if l == all then 0xFF else (affected s g x).headD 0xFF
  let s := ((s.incFld i F.ENG_PAIR_MISM_K.COUNT 1).setFld i F.ENG_PAIR_MISM_K.LAST_KIND x.kind).setFld i F.ENG_PAIR_MISM_K.LAST_CONV last
  let s := (s.setBit R.ENG_PAIR_FLAGS F.ENG_PAIR_FLAGS.MISMATCH true).raiseAt d EV.PAIR_MISMATCH k []
  forEach l (fun c s => s.setConv c { s.convOf c with mism := (s.convOf c).mism + 1 }) s

/-- The converters of graph g whose mismatch run has reached two are escalated, and the pair is reported (R321). -/
def pairEscalate (g d : Nat) (s : State) : State :=
  let l := (convsOfGraph s g).filter fun c => decide (2 ≤ (s.convOf c).mism) && !(s.convOf c).esc
  if l.isEmpty then s
  else
    let s := forEach l (fun c s =>
      let s := (s.setConv c { s.convOf c with esc := true }).setBitAt R.ENG_PAIR_CONV F.ENG_PAIR_CONV.CONV c true
      (s.setBit R.ENG_PAIR_FLAGS F.ENG_PAIR_FLAGS.ESCALATED true).raiseAt d EV.PAIR_ESCALATE c []) s
    failReport { kind := 3, index := 2 * pairOf s g, graph := g, init := true } s

/-- The speed an agreed observer report gives machine m's selector (R378), and its place in the back-EMF window (R387). -/
def obsReported (m : Nat) (s : State) : State :=
  let i := R.TRX_M_OBS m
  let on := AMap.getD s.eng.sp (8 * m + 2) 0 == BitVec.ofInt 40 (2 ^ 31) && s.bit i F.TRX_M_OBS.OK
  let s := keTake m s
  if on then
    speedRefresh m 3 ((s.sfld i F.TRX_M_OBS.W).natAbs * s.fld (R.TRX_M_CFG m) F.TRX_M_CFG.BASE_RPM / 4096 : Nat) s
  else s

/-- Graph g's complete checkpoint agrees (R319): runs are cleared, its offers and its observer's report are published, and
its first set after a re-placement counts (R346). -/
def pairAgrees (g d : Nat) (x : DoneSet) (s : State) : State :=
  let s := forEach (convsOfGraph s g) (fun c s => s.setConv c { s.convOf c with mism := 0, missed := 0 }) s
  let s := forEach x.offers (fun p s => handPut p.1 x.n p.2.2 (some p.2.1) d s) s
  let s := forEach (obsMachs s g) obsReported (obsPublish g s)
  let s := if feGraph s == some g then acPublish s else s
  if s.bit (R.PLC_GRAPH g) F.PLC_GRAPH.SUSPENDED then replCommitted g s else s

/-- A checkpoint's verdict for one graph: its set agrees, differs, or is missing; a graph out of service has none. -/
inductive Check where
  | agrees (x : DoneSet)
  | differs (x : PairDiff) (rest : List PairDiff)
  | missing
  | out

/-- The verdict of graph g's checkpoint of period n at tick d. -/
def checkOf (s : State) (g n d : Nat) (diffs : List PairDiff) : Check :=
  match doneFor s g n d with
  | none => if graphOut s g then .out else .missing
  | some x =>
    if graphDown s g then .out
    else match diffs.filter fun y => y.g == g with
      | y :: l => .differs y l
      | [] => .agrees x

/-- What the host has committed to timebase j by tick d: the values whose token stood in the FIFO before that tick; those that
come later wait for the next deadline (R34). -/
def hostDue (s : State) (j d : Nat) : List Shadow := ((s.tbOf j).closed.filter fun x => decide (x.1 < d)).map (·.2)

/-- A commit that met the FIFO full is late (R24). -/
def hostLate (s : State) (j : Nat) : Bool := (s.tbOf j).token && (s.tbOf j).full

/-- The host's commits of timebase j are taken at tick d. A late one is discarded, and counts as missed for the converters no graph
serves (R24, R35). -/
def hostTaken (j d : Nat) (s : State) : State :=
  let t := s.tbOf j
  if hostLate s j then
    let s := s.setTb j { t with closed := [], token := false, full := false }
    forEach ((convsOfTb s j).filter fun c => (graphOf s c).isNone) (missCount d) s
  else
    let left := t.closed.filter fun x => decide (d ≤ x.1)
    s.setTb j { t with closed := left, token := !left.isEmpty }

/-- The deadline of timebase j (R34, R184, R325 steps 2 to 4): the verdicts of its graphs in the order of R326, then what the
link supervisor places, then the set's processing. -/
def deadline (j : Nat) (diffs : List PairDiff) (s : State) : State :=
  let t := s.tbOf j
  let d := t.b + t.len - 50
  let gs := (graphsOfTb s j).map fun g => (g, checkOf s g t.no d diffs)
  let held := (gs.filter fun p => match p.2 with | .agrees _ => false | _ => true).map (·.1)
  let apart := fun (g : Nat) => diffs.any fun x => x.g == g && x.kind == 3
  let s := forEach gs (fun p s => match p.2 with | .missing => missed p.1 d (apart p.1) s | _ => s) s
  let s := forEach gs (fun p s => match p.2 with
    | .differs x l => pairMismatch p.1 x l d (forEach (convsOfGraph s p.1) (fun c s => s.setConv c { s.convOf c with missed := 0 }) s)
    | _ => s) s
  let s := forEach gs (fun p s => match p.2 with | .differs _ _ => pairEscalate p.1 d s | _ => s) s
  let s := forEach gs (fun p s => match p.2 with | .agrees x => pairAgrees p.1 d x s | _ => handsHeld p.1 t.no d s) s
  let s := forEach gs (fun p s => pairShown p.1 t.no (held.contains p.1) s) s
  let sets := gs.flatMap fun p => match p.2 with | .agrees x => x.set | _ => []
  let dc := (convsKind s 1).any fun c => tbOfConv s c == j
  let s := if dc then followStep s else s
  let chop := match chopper s with | some c => tbOfConv s c == j | none => false
  let duty := if chop then chopDuty s else s.dcl.duty
  let s := { s with dcl := { s.dcl with duty := duty, testBad := s.dcl.testBad || (chop && duty != 0) } }
  let late := hostLate s j
  let host := if late then [] else hostDue s j d
  let s := hostTaken j d s
  processSet j (sets ++ host ++ (if chop then chopSet s else [])) (!held.isEmpty || late) s

/-- The tick of timebase j's next commit deadline. -/
def deadlineAt (s : State) (j : Nat) : Nat := (s.tbOf j).b + (s.tbOf j).len - 50

/-- Timebase j's deadline is still to be met: not before its first boundary, and not once it is past. -/
def deadlineOpen (s : State) (j : Nat) : Bool := (s.tbOf j).run && !(s.tbOf j).first && !(s.tbOf j).ready

/-- The timebases up the chain from j, the first source first (R202). -/
def chainUp : Nat → State → Nat → List Nat
  | 0, _, _ => []
  | n + 1, s, j => if chained s j then chainUp n s (j - 1) ++ [j - 1] else []

/-- COMMIT_DEADLINE (R184): B − 50 of timebase j, at which the link's monitor reads vl and the pair comparator has found
`diffs`. A source's deadline of the same tick or before, not yet met, comes first, because a follower's period is its
source's. Before the first boundary, and once the deadline is past, only time passes. -/
def commitDeadline (j : Nat) (diffs : List PairDiff) (vl : Nat) (s : State) : State :=
  if !deadlineOpen s j then s
  else
    let s := setVlink vl (s.until (deadlineAt s j))
    let s := forEach (chainUp 5 s j) (fun i s =>
      if deadlineOpen s i && decide (deadlineAt s i ≤ deadlineAt s j) then deadline i diffs s else s) s
    deadline j diffs (s.until (deadlineAt s j))

def execCommitDeadline (e : Nat) (j : Fin 6) (diffs : List PairDiff) (vl : BitVec 13) (s : State) : Host.Outcome State Fault Refusal :=
  .next (commitDeadline j diffs vl.toNat (s.tick e))

/-! ### The boundary (R184, R325) -/

/-- A converter that an orderly stop turns off goes off at this boundary (R68, R69): b0 is the boundary before. A machine
turned off by force at or above the active-short speed passes to the selector, and the module enters SAFE. -/
def stageOff (b0 c : Nat) (s : State) : State :=
  match s.trans with
  | none => s
  | some t =>
    let zero := decide (t.began + 200000 * s.fld R.DEV_SHUT_CFG F.DEV_SHUT_CFG.RAMP ≤ b0)
    let others := (convs s).all fun k => k.kind == 2 || !convOn s k.index
    let kind := kindOf s c
    let goes := if kind = 0 then t.forced else if kind = 2 then others else zero || t.forced
    if t.stop && goes && convOn s c then
      match chanOf s c with
      | some m =>
        if t.forced && atOrAboveNas s m then enterSafe Cause.prot reqInternal (selHold m Why.stop s)
        else gateClose m c true (s.setConv c { s.convOf c with off := true })
      | none => linkEval (s.setConv c { s.convOf c with off := true, en := false })
    else s

/-- The hold of R138 ends at the first boundary at which the converter counts as enabled again. -/
def holdEnds (c : Nat) (s : State) : State :=
  let kind := kindOf s c
  if bitN (s.fld R.PROT_STAT F.PROT_STAT.CONV_SAFE) c && kind != 0 && kind != 5 && convOn s c then releaseLatches c s else s

/-- The holds of R321 and R342 at a boundary: an escalated machine passes to the selector; a converter held by a unit
failure goes on to its degraded hold. -/
def degrade (c : Nat) (s : State) : State :=
  let x := s.convOf c
  let s := match x.esc, chanOf s c with
    | true, some m => if bitN (s.selOf m).why Why.pairEsc then s else protHold m Why.pairEsc s
    | _, _ => s
  if x.hold = 1 then s.setConv c { x with hold := 2 }
  else if x.hold = 2 then
    let s := s.setConv c { s.convOf c with hold := 3 }
    let s := if bitN (s.fld R.PLC_SHED F.PLC_SHED.CONV) c then s else s.setFld (R.PLC_CONV c) F.PLC_CONV.STATE 2
    match s.bit (R.PLC_CONV c) F.PLC_CONV.HOLD, chanOf s c with
    | true, some m => protHold m Why.degraded s
    | _, _ => s
  else s

/-- SYNC_OUT is high (R205): for 40 ticks from each boundary of `OUT_TB`. -/
def syncOut (s : State) : Bool :=
  let t := s.tbOf (s.fld R.PWM_SYNC_CFG F.PWM_SYNC_CFG.OUT_TB)
  s.bit R.PWM_SYNC_CFG F.PWM_SYNC_CFG.OUT_EN && t.run && !t.first && decide (t.b ≤ s.dt ∧ s.dt < t.b + 40)

/-- The boundary notice of period no at b reaches graph g through the D0 event FIFO (R21, R184 step 9); with 256 notices
standing in it this one is discarded (R23), and the graph does not run in that period. -/
def noticePut (no b st g : Nat) (s : State) : State :=
  let u := s.graphOf g
  let full := decide (xfDepth 2 ≤ noticesStand s)
  let s := fifoMet (2 * 64) full s
  if full then s else s.setGraph g { u with notices := u.notices ++ [(no, b, st)] }

/-- The boundary of timebase j. -/
def boundary (j : Nat) (s : State) : State :=
  let t := s.tbOf j
  let first := t.first
  let b := nextB s j
  let cs := convsOfTb s j
  let ms := [0, 1].filter fun m => match machConv s m with | some c => tbOfConv s c == j | none => false
  -- R325 step 6
  let s := forEach cs (stageOff t.b) s
  let s := forEach cs degrade s
  let s := forEach cs holdEnds s
  let s := forEach ms handBack s
  let s := releasesDue (unitsOfTb s j) s
  let s := forEach (unitsOfTb s j) (unitBoundary b first) s
  let s := forEach cs tripDrop s
  let s := tbBoundary j s
  -- step 7
  let s := forEach (adcsOf s j) (fun n s => adcBoundary n b t.len t.no first s) s
  -- step 8
  let s := forEach ms selReload s
  -- the link supervisor and the junction estimates
  let chop := match chopper s with | some c => tbOfConv s c == j | none => false
  let s := if chop then
      let s := chopSync (8 * b) s
      let s := if first then s else chopHeat t.len s
      let s := s.setFld R.DCL_CHOP_STAT F.DCL_CHOP_STAT.DUTY (min 255 (s.dcl.dutyNow / 2 ^ 23))
      { s with dcl := { s.dcl with dutyNow := s.dcl.duty } }
    else s
  let isls := (gatesOfUnits s (unitsOfTb s j)).filter (· < 48)
  let s := if first then s else forEach isls (fun n s => lifeEstimate n b t.len s) s
  -- step 9 and what the activations of the period find
  let no := (s.tbOf j).no
  let gs := graphsOfTb s j
  let s := forEach (gs.flatMap (handsOf s)) (fun p s => handTurn no p.1 s) s
  let st := b2n (t.hold && !first) + 2 * b2n (t.refuse && !first)
  let s := forEach (gs.filter fun g => !gSuspended s g) (fun g s =>
    let u := s.graphOf g
    noticePut no b st g (s.setGraph g { u with done := u.done.filter fun x => decide (no ≤ x.n) })) s
  -- the trips of step 6, whose selector acts two ticks later
  let s := forEach (unitsOfTb s j) (boundaryTrip b) s
  stopUnwanted j s

/-- PERIOD_BOUNDARY (R184): boundary B of timebase j, at which the link's monitor reads vl. A deadline that no command has
marked is met first, with no difference found. -/
def periodBoundary (j vl : Nat) (s : State) : State :=
  if !(s.tbOf j).run then s
  else
    let s := commitDeadline j [] vl s
    boundary j (setVlink vl (s.until (nextB s j)))

def execPeriodBoundary (e : Nat) (j : Fin 6) (vl : BitVec 13) (s : State) : Host.Outcome State Fault Refusal :=
  .next (periodBoundary j vl.toNat (s.tick e))

/-! ### Edges, activations, queue writes -/

/-- GATE_EDGE (R173): the next edge of unit k falls; the chopper's monitor takes note. -/
def gateEdgeAll (k : Nat) (s : State) : State :=
  match (s.unitOf k).edges with
  | [] => s
  | d :: _ =>
    let s := gateEdge k s
    if (match chopper s with | some c => (unitsOf s c).contains k | none => false) then chopEdge k d.step s else s

def execGateEdge (e : Nat) (k : Fin 33) (s : State) : Host.Outcome State Fault Refusal := .next (gateEdgeAll k (s.tick e))

/-- GRAPH_ACTIVATION (R273): graph g takes its next notice; the actuators' angles and positions are those of now, and
the AC monitor and the charge meter run in it (R462, R435, R448). `dur` is the activation's length beside its waits, `lag` the distance between the members. -/
def graphActivation (g dur lag : Nat) (s : State) : State :=
  if gSuspended s g then s
  else
    let s := actBegin g dur lag (if (s.graphOf g).act.isNone && !(s.graphOf g).notices.isEmpty then forEach [0, 1, 2] actSpots s else s)
    match (s.graphOf g).act with
    | none => s
    | some a =>
      if a.wait.isSome then s
      else
        let s := if feGraph s == some g then acRun a.b s else s
        let s := if meterGraph s == some g then meterRun a.b s else s
        actGo g false s

def execGraphActivation (e : Nat) (g : Fin 8) (dur lag : Nat) (s : State) : Host.Outcome State Fault Refusal :=
  .next (graphActivation g dur lag (s.tick e))

/-- An entry is written to its queue, and the MEAN QINs and the charger's monitors see it (R283, R435, R448); one that finds
the queue full is discarded and seen by none (R241). -/
def queArrive (p : Nat × QEnt) (s : State) : State :=
  let e := { p.2 with lost := (s.queOf p.1).lost }
  if queTakes s p.1 then chgArrive p.1 e (meanArrive p.1 e (queWrite p.1 p.2 s)) else queWrite p.1 p.2 s

/-- QUEUE_WRITE (R236): the oldest element of crossing FIFO k enters its queues. A QIN whose waiting time is over takes its
stale result first, and one that still waits looks again (R283). -/
def queueWriteAll (k : Nat) (s : State) : State :=
  match (s.xfOf k).ents with
  | [] => s
  | el :: t =>
    let waits := fun (s : State) (g : Nat) (late : Bool) => match (s.graphOf g).act with
      | some a => (match a.wait with | some t => decide (t ≤ s.dt) == late | none => false)
      | none => false
    let s := forEach ((List.range 8).filter fun g => waits s g true) (actGo · true) s
    let s := forEach el queArrive (s.setXf k { s.xfOf k with ents := t })
    forEach ((List.range 8).filter fun g => waits s g false) (actGo · false) s

def execQueueWrite (e : Nat) (k : Fin 1024) (s : State) : Host.Outcome State Fault Refusal := .next (queueWriteAll k (s.tick e))

end Sys2Proof.Machine
end

