-- ==== Sys2Proof/Machine/Boot.lean ====
section
/-! DEFINITION. Resets, the steps of the cold start, wake from STANDBY, the crystal and the RTC alarm
(spec/02_modes_and_startup.md, R48 to R67, R698; R25, R30). -/

namespace Sys2Proof.Machine

/-! ### What a reset leaves (R60, R61) -/

/-- Registers that keep their value over a reset; a warm one keeps more (R60, R582, R633). -/
def keptRegs (warm upd : Bool) : List Nat :=
  [R.DEV_SUPPLY, R.LOG_EVENT_NEXT, R.CMD_AUDIT_NEXT] ++ (if upd then [R.UPD_STAT, R.UPD_NEW] else []) ++
    (if warm then [R.DEV_RST_CAUSE, R.DEV_SAFE_CAUSE, R.DEV_CLK_STAT, R.DEV_RTC] else [])

/-- The island's own state over a reset of the module (R61): its held state, its latch and its supplies stay, and with its
link silent it applies its fallback. -/
def islKeep (old : State) (n : Nat) (s : State) : State :=
  let st := old.reg (R.ISL_STAT n)
  if st = resetReg (R.ISL_STAT n) && !latched old n && (old.islOf n).softEnd.isNone then s
  else
    let i := R.ISL_STAT n
    let s := (s.setBit i F.ISL_STAT.FB_ON (fbOn old n)).setBit i F.ISL_STAT.LOCKOUT (lockedOut old n)
    let s := (s.setBit i F.ISL_STAT.VDD_OK (F.ISL_STAT.VDD_OK.get st != 0)).setBit i F.ISL_STAT.VEE_OK (F.ISL_STAT.VEE_OK.get st != 0)
    let s := s.setBit i F.ISL_STAT.GATE (F.ISL_STAT.GATE.get st != 0)
    applyFallback n (s.setBit (R.PROT_IST n) F.PROT_IST.LATCHED (latched old n))

/-- An island's record over a reset: its own timers run on, and so do its gate's last change and what it runs, in device
time where that goes on. -/
def islRecKeep (warm : Bool) (p : Nat × Isl) : Nat × Isl :=
  let x : Isl := { okDue := p.2.okDue, softEnd := p.2.softEnd, rise := if warm then p.2.rise else 0,
                   gateStep := if warm then p.2.gateStep else 0,
                   kelvin := p.2.kelvin, segs := p.2.segs, segAt := if warm then p.2.segAt else 0, prof := p.2.prof }
  (p.1, x)

/-- The supervised state of the low-voltage gates' supplies over a reset (R124). -/
def lvKeep (old s : State) : State :=
  let s := s.setBit R.ACT_LV_STAT F.ACT_LV_STAT.VAUX_OK (old.bit R.DEV_SUPPLY F.DEV_SUPPLY.VAUX_OK)
  s.setFld R.ACT_LV_STAT F.ACT_LV_STAT.BOOT_OK (old.fld R.ACT_LV_STAT F.ACT_LV_STAT.BOOT_OK)

/-- Everything a reset returns to its reset value (R60, R63, R567, R639, R653): what storage, OTP, D7 and the islands hold
stays, a warm reset also keeps device time and the log buffers. -/
def resetAll (warm : Bool) (s : State) : State :=
  let s := if warm then forEach (s.sessions.map (·.1)) (fun n s => sessionEnd n 3 s) s else s
  let s := updReset (recEnd 0 s)
  let busy := updState s == Up.checked
  let kept := keptRegs warm busy
  let t : State :=
    { pending := s.pending, dt := s.dt, el := s.el, free := s.free, boot := s.boot
      regs := s.regs.filter fun p => kept.contains p.1
      ev := if warm then s.ev else { s.ev with buf := [], lostRun := 0 }
      audit := if warm then s.audit else { s.audit with buf := [], lostRun := 0, fullRun := false }
      rcd := { lastNum := s.rcd.lastNum, slots := s.rcd.slots, lastSlot := s.rcd.lastSlot }
      dtHi := if warm then s.dtHi else []
      lastReq := if warm then s.lastReq else []
      lockouts := if warm then s.lockouts else []
      key := s.key, trips := s.trips
      isl := (s.isl.map (islRecKeep warm)).filter fun p => p.2 != {}
      act := (s.act.filter fun p => p.2.mirror.isSome).map fun p => (p.1, { mirror := p.2.mirror : ActSt })
      life := s.life
      trx := { stored := s.trx.stored, demag := s.trx.demag }
      plc := { slots := s.plc.slots, gen := s.plc.gen }
      sto := { s.sto with wear := false }
      upd := s.upd, extest := s.extest }
  let t := forEach (List.range 48) (islKeep s) (lvKeep s t)
  let t := if bitN (t.fld R.DEV_SAFE_CAUSE ⟨11, 0⟩) 5 then t.setBit R.DCL_STAT F.DCL_STAT.OV2 true else t
  let t := t.setFld R.LOG_EVENT_STAT F.LOG_EVENT_STAT.FILL t.ev.buf.length
  t.setFld R.CMD_AUDIT_STAT F.CMD_AUDIT_STAT.FILL t.audit.buf.length

/-- The boot sequence's place. -/
def bootAt (p : Phase) (s : State) : State := { s with boot := { s.boot with phase := p, since := s.el } }

/-! ### Cold reset (R48 to R50, R58, R60) -/

/-- `DEV_RST_CAUSE` of a cold reset. -/
def coldCause (s : State) : State :=
  let b := s.boot
  s.setReg R.DEV_RST_CAUSE (BitVec.ofNat 40 (if b.powerOn then 1 else 2 * b2n b.vcoreFell + 4 * b2n b.vioFell))

/-- The part held in a cold reset: DT restarts at 0, and the always-on logic with it (R58, R66). -/
def coldHold (s : State) : State :=
  let s := resetAll false s
  let b := s.boot
  coldCause { s with
    dt := 0
    boot := { phase := b.phase, kind := .cold, since := b.since, vcoreFell := b.vcoreFell, vioFell := b.vioFell
              powerOn := b.powerOn, rtcAt := s.el } }

/-- SUPPLY_FALL (R60): VCORE, VIO or both fall below their falling thresholds. -/
def supplyFall (vcore vio : Bool) (s : State) : State :=
  if !vcore && !vio then s
  else
    let held := s.boot.phase == .off || s.boot.phase == .wait
    let b : Boot := if held then s.boot else { s.boot with powerOn := false, vcoreFell := false, vioFell := false }
    let s := { s with boot := { b with vcoreFell := b.vcoreFell || vcore, vioFell := b.vioFell || vio } }
    let s := if vcore then s.setBit R.DEV_SUPPLY F.DEV_SUPPLY.VCORE_OK false else s
    let s := if vio then s.setBit R.DEV_SUPPLY F.DEV_SUPPLY.VIO_OK false else s
    bootAt .off (coldHold s)

def execSupplyFall (e : Nat) (vcore vio : Bool) (s : State) : Host.Outcome State Fault Refusal :=
  .next (supplyFall vcore vio (s.tick e))

/-- SUPPLY_GOOD (R50): VCORE and VIO both stand above their rising thresholds, VIO having risen from below 1.5 V or not
(R60). -/
def supplyGood (fromBelow : Bool) (s : State) : State :=
  if s.boot.phase != .off then s
  else
    let s := { s with boot := { s.boot with powerOn := s.boot.powerOn || fromBelow } }
    let s := (s.setBit R.DEV_SUPPLY F.DEV_SUPPLY.VCORE_OK true).setBit R.DEV_SUPPLY F.DEV_SUPPLY.VIO_OK true
    bootAt .wait (coldCause s)

def execSupplyGood (e : Nat) (fromBelow : Bool) (s : State) : Host.Outcome State Fault Refusal :=
  .next (supplyGood fromBelow (s.tick e))

/-- RESET_RELEASE (R50): the 2 ms of the internal oscillator, 1.94 ms at the least, have passed. D7 starts. -/
def resetRelease (s : State) : State :=
  if s.boot.phase != .wait then s
  else bootAt .clock (coldHold (s.tick (s.boot.since + 388000 - s.el)))

def execResetRelease (e : Nat) (s : State) : Host.Outcome State Fault Refusal := .next (resetRelease (s.tick e))

/-! ### Warm reset (R58, R59, R698) -/

/-- D0 runs again after STANDBY: DT resumes by the complete D7 periods of the stop (R25). How D7's edges lie to the entry the
spec leaves open: the periods are counted from the instant of entry itself (assumption 81). -/
def resumeDt (s : State) : State :=
  match s.boot.stopAt with
  | none => s
  | some t =>
    let n := (s.el - t) * 32768 / 200000000
    { s with dt := s.dt + n * 390625 / 64, boot := { s.boot with stopAt := none } }

/-- A warm reset asserted for a cause, held by the pin or for 10 µs. -/
def warmReset (cause : Fld) (pin : Bool) (s : State) : State :=
  let s := resumeDt s
  let s := (resetAll true s).setBit R.DEV_RST_CAUSE cause true
  let b := s.boot
  bootAt .held { s with boot := { b with kind := .warm, pinLow := pin, imageBad := false, later := [], resetDue := none, paceRun := false } }

/-- A warm reset can be asserted: the part is powered and not held in a cold reset. -/
def warmable (s : State) : Bool :=
  match s.boot.phase with
  | .off | .wait => false
  | _ => true

/-- Whether a pulse of the length given resets the part: 1 µs or more always, under 200 ns never, between them either
way, which is a free value (R59). -/
def pulseResets (ns : Nat) (s : State) : Bool × State :=
  if 1000 ≤ ns then (true, s)
  else if ns < 200 then (false, s)
  else
    let (x, s) := s.draw 1
    (x == 1, s)

/-- NRESET_LOW (R59): the instant at which a low level of a length in nanoseconds asserts a reset, or does not. -/
def nresetLow (ns : Nat) (s : State) : State :=
  let (go, s) := pulseResets ns s
  if !go || !warmable s then s
  else if s.boot.phase == .held then
    { s.setBit R.DEV_RST_CAUSE F.DEV_RST_CAUSE.PIN true with boot := { s.boot with pinLow := true } }
  else warmReset F.DEV_RST_CAUSE.PIN true s

def execNresetLow (e : Nat) (ns : Nat) (s : State) : Host.Outcome State Fault Refusal := .next (nresetLow ns (s.tick e))

/-- RESET_DELAY_EXPIRY (R559, R651): the software reset is asserted. -/
def resetDelay (s : State) : State :=
  match s.boot.resetDue with
  | some t => if warmable s then warmReset F.DEV_RST_CAUSE.SOFTWARE false (s.until t) else s
  | none => s

def execResetDelayExpiry (e : Nat) (s : State) : Host.Outcome State Fault Refusal := .next (resetDelay (s.tick e))

/-- WATCHDOG_RESET (R524): 10 µs after the watchdog, its warm reset is asserted. -/
def watchdogReset (s : State) : State :=
  match s.glove.wdDue with
  | some t => warmReset F.DEV_RST_CAUSE.WATCHDOG false (s.until t)
  | none => s

def execWatchdogReset (e : Nat) (s : State) : Host.Outcome State Fault Refusal := .next (watchdogReset (s.tick e))

/-- WARM_RESET_RELEASE (R698): `nRESET` is high again, or 10 µs have passed since a software or watchdog cause. -/
def warmRelease (s : State) : State :=
  if s.boot.phase != .held then s
  else
    let s := if s.boot.pinLow then s else s.tick (s.boot.since + 2000 - s.el)
    bootAt .clock { s with boot := { s.boot with pinLow := false } }

def execWarmResetRelease (e : Nat) (s : State) : Host.Outcome State Fault Refusal := .next (warmRelease (s.tick e))

/-! ### The crystal (R30, R51) -/

/-- The reference falls back to the internal oscillator. -/
def toFallback (s : State) : State :=
  let i := R.DEV_CLK_STAT
  let s := (s.setBit i F.DEV_CLK_STAT.XTAL_OK false).setBit i F.DEV_CLK_STAT.PLL_LOCK true
  if s.bit i F.DEV_CLK_STAT.FALLBACK then s
  else ((s.setBit i F.DEV_CLK_STAT.FALLBACK true).setBit i F.DEV_CLK_STAT.XTAL_LOST true).raise EV.CLOCK_FALLBACK 0xFF []

/-- CRYSTAL_LOSS (R30): the crystal is declared lost while the reference runs from it. -/
def crystalLoss (s : State) : State :=
  if !s.logs || s.boot.phase == .clock || s.bit R.DEV_CLK_STAT F.DEV_CLK_STAT.FALLBACK then s
  else enterSafe Cause.clock reqInternal (toFallback s)

def execCrystalLoss (e : Nat) (s : State) : Host.Outcome State Fault Refusal := .next (crystalLoss (s.tick e))

/-- CRYSTAL_SUPERVISION (R25, R30, R51): step 3 ends on a good crystal, or on the fallback. A cold start begins DT at 0. -/
def crystalSupervised (good : Bool) (s : State) : State :=
  if s.boot.phase != .clock then s
  else
    let s := bootAt .image (resumeDt s)
    let i := R.DEV_CLK_STAT
    let s := { s.setReg R.FAB_PACE 0 with boot := { s.boot with paceRun := false } }
    if good then
      ((s.setBit i F.DEV_CLK_STAT.XTAL_OK true).setBit i F.DEV_CLK_STAT.PLL_LOCK true).setBit i F.DEV_CLK_STAT.FALLBACK false
    else enterSafe Cause.clock reqInternal (toFallback s)

def execCrystalSupervision (e : Nat) (good : Bool) (s : State) : Host.Outcome State Fault Refusal :=
  .next (crystalSupervised good (s.tick e))

/-! ### Steps 4 and 5 -/

/-- The active image set passes step 4 (R651): its checks, on a device that works, and its rollback value. -/
def imageGood (s : State) (img : Bool) : Bool :=
  img && !(devFailed s 0 && devFailed s 1) &&
    (match AMap.get? s.sto.sets s.sto.active with | some x => decide (s.sto.otp ≤ x.roll) | none => false)

/-- The image's release runs; a higher rollback value raises the counter (R651). -/
def imageRun (s : State) : State :=
  match AMap.get? s.sto.sets s.sto.active with
  | some x => putRun x { s with sto := { s.sto with otp := max s.sto.otp x.roll } }
  | none => s

/-- The boot failure of R52. -/
def bootFails (s : State) : State :=
  let s := { s.setBit R.DEV_MODE F.DEV_MODE.BOOT_FAIL true with boot := { s.boot with imageBad := true } }
  enterSafe Cause.bootFail reqInternal (s.raise EV.BOOT_FAIL 0xFF [])

/-- BOOT_IMAGE_LOAD (R52, R374, R391, R499, R625 to R627): step 4. What the two devices answer, whether the image's signature and block
CRCs hold, and whether the lifetime region's own check is intact. -/
def imageLoad (d0 d1 : Option EmmcInfo) (img life : Bool) (s : State) : State :=
  if s.boot.phase != .image then s
  else
    let s := bootDevices d0 d1 s
    let s := if imageGood s img then { imageRun s with boot := { s.boot with imageBad := false } } else bootFails s
    bootAt .selftest (mapReload 1 (mapReload 0 (demagRestore (lifeRestore (s.boot.kind == .warm && life) s))))

def execBootImageLoad (e : Nat) (d0 d1 : Option EmmcInfo) (img life : Bool) (s : State) : Host.Outcome State Fault Refusal :=
  .next (imageLoad d0 d1 img life (s.tick e))

/-- GLOVE_SELFTEST (R524, R530): step 5. Both cores start with the next whole interval, and the watchdog with them. -/
def gloveTest (pass : Bool) (s : State) : State :=
  if s.boot.phase != .selftest then s
  else
    let n := s.dt / 10000 + 1
    let g : Glove := { on := true, testBad := !pass, next := n, rel := n, agreeAt := s.dt }
    let s := bootAt .plant { s.setBit R.GLV_STAT F.GLV_STAT.SELFTEST_OK pass with glove := g }
    if pass then s else enterSafe Cause.glove reqInternal (s.raise EV.GLOVE_SELFTEST 0xFF [])

def execGloveSelftest (e : Nat) (pass : Bool) (s : State) : Host.Outcome State Fault Refusal :=
  .next (gloveTest pass (s.tick e))

/-! ### Steps 7 and 8 (R41, R62, R63, R65) -/

/-- Step 7: the link of every island with its supplies good is trained. -/
def trainLinks (s : State) : State :=
  forEach (List.range 48) (fun n s =>
    let i := R.ISL_STAT n
    if s.bit i F.ISL_STAT.VDD_OK && s.bit i F.ISL_STAT.VEE_OK && !lockedOut s n && (s.islOf n).okDue.isNone then
      s.setBit i F.ISL_STAT.LINK_UP true else s) s

/-- The causes that stand as boot ends (R41, R48, R62, R65). -/
def bootCauses (s : State) : Nat :=
  (if s.boot.kind == .warm then Cause.warmReset else 0) |||
  (if (List.range 48).any (fun n => linkUp s n && fbOn s n) then Cause.islandHeld else 0) |||
  (if stoBoth s then 0 else Cause.sto) |||
  (if s.bit R.DEV_SUPPLY F.DEV_SUPPLY.VANA_OK then 0 else Cause.vanaLow)

/-- The filtered STO levels as boot ends (R65). -/
def stoLevels (a b : Bool) (s : State) : State :=
  let s := (s.setBit R.DEV_STO_STAT F.DEV_STO_STAT.STO_A a).setBit R.DEV_STO_STAT F.DEV_STO_STAT.STO_B b
  { s with stoHigh := if a && b then some s.dt else none, stoTold := false
           boot := { s.boot with stoDiff := if a == b then none else some s.dt } }

/-- The events deferred to the end of the boot (R336). -/
def bootLater (s : State) : State :=
  { forEach s.boot.later (fun x s => s.raise x.1 x.2.1 x.2.2) s with boot := { s.boot with later := [] } }

/-- The events after the boot: EV_RESET, or EV_WAKE for each cause in the D7 FIFO (R58, R64). -/
def bootEvents (s : State) : State :=
  let s := if s.boot.kind == .wake then s
    else s.raise EV.RESET 0xFF [(1, s.fld R.DEV_RST_CAUSE ⟨5, 0⟩)]
  let s := forEach s.boot.wakes (fun w s => s.raise EV.WAKE 0xFF [(1, w.1), (5, w.2)]) s
  { s with boot := { s.boot with wakes := [] } }

/-- The converters whose islands hold a latch are held again (R137). -/
def convRehold (s : State) : State :=
  forEach (convs s) (fun c s =>
    if (gatesOfConv s c.index).any (fun g => decide (g < 48) && latched s g) then
      let s := convSafe c.index s
      match chanOf s c.index with
      | some m => selHold m Why.detect s
      | none => s
    else s) s

/-- BOOT_END (R41): step 8, with the levels of STO_A and STO_B. -/
def bootEnd (a b : Bool) (s : State) : State :=
  if s.boot.phase != .links then s
  else
    let s := trainLinks (bootAt .run (stoLevels a b s))
    let s := convRehold (actRestore s)
    let causes := bootCauses s ||| s.fld R.DEV_SAFE_CAUSE ⟨11, 0⟩
    let s := s.setFld R.DEV_SAFE_CAUSE ⟨11, 0⟩ causes
    let s := canBoot (bootLater (selEvalAll s))
    bootEvents (linkEval (if causes = 0 then enterReady false (putMode Mode.ready false reqInternal { s with nfault := false })
      else safeEntry reqInternal s))

def execBootEnd (e : Nat) (a b : Bool) (s : State) : Host.Outcome State Fault Refusal := .next (bootEnd a b (s.tick e))

/-! ### Wake (R64, R67) -/

/-- A wake cause with its RTC time enters the D7 wake FIFO, which holds four (R21, R23, R64). -/
def wakePut (cause : Nat) (s : State) : State :=
  let full := decide (xfDepth 13 ≤ s.boot.wakes.length)
  let s := fifoMet (13 * 64) full s
  if full then s else { s with boot := { s.boot with wakes := s.boot.wakes ++ [(cause, s.rtc)] } }

/-- WAKE_CAUSE (R64): an enabled source, by its bit of `DEV_WAKE_CFG`, wakes the part from STANDBY. -/
def wake (cause : Nat) (s : State) : State :=
  if s.boot.phase != .standby || !bitN (s.reg R.DEV_WAKE_CFG).toNat cause then s
  else
    let s := wakePut cause s
    let s := { s with boot := { s.boot with kind := .wake, imageBad := false } }
    let s := forEach (List.range 48) (fun n s =>
      if linkUp s n then applyFallback n (islForget n (s.setBit (R.ISL_STAT n) F.ISL_STAT.LINK_UP false))
      else s) s
    let s := (s.setFld R.DEV_MODE F.DEV_MODE.MODE Mode.boot).setFld R.DEV_MODE F.DEV_MODE.TARGET Mode.boot
    bootAt .clock (recArm { s with nfault := true, glove := {} })

def execWakeCause (e : Nat) (cause : Fin 7) (s : State) : Host.Outcome State Fault Refusal := .next (wake cause (s.tick e))

/-- RTC_ALARM (R67): the clock reaches the alarm second. A clock written past that second never reaches it. -/
def rtcAlarm (s : State) : State :=
  if !s.bit R.DEV_RTC_ALARM F.DEV_RTC_ALARM.EN ||
      decide (s.fld R.DEV_RTC_ALARM F.DEV_RTC_ALARM.SEC < s.boot.rtcSec) then s
  else
    let s := s.tick (rtcTick s (s.fld R.DEV_RTC_ALARM F.DEV_RTC_ALARM.SEC) - s.el)
    wake 6 (s.setBit R.DEV_RTC_ALARM F.DEV_RTC_ALARM.EN false)

def execRtcAlarm (e : Nat) (s : State) : Host.Outcome State Fault Refusal := .next (rtcAlarm (s.tick e))

end Sys2Proof.Machine
end

