-- ==== Sys2Proof/Machine/Fabric.lean ====
section
/-! DEFINITION. The interior's own happenings: the pace measurement, handshakes, the SRAM's check bits and boundary scan
(spec/01_organisation_and_timing.md, R18, R22, R31 to R33; R661). -/

namespace Sys2Proof.Machine

/-- PACE_MEASUREMENT (R18): a measurement of the interior's speed, in 1/256 of the slow corner. -/
def paceMeasured (pace : Nat) (s : State) : State :=
  if !s.logs then s
  else
    let run := s.boot.paceRun
    let s := { s.setFld R.FAB_PACE F.FAB_PACE.PACE pace with boot := { s.boot with paceRun := decide (pace < 256) } }
    if 256 ≤ pace then s
    else
      let s := s.setBit R.FAB_FLAGS F.FAB_FLAGS.PACE_LOW true
      if run then s else s.raise EV.PACE_LOW 0xFF []

def execPaceMeasurement (e : Nat) (pace : BitVec 16) (s : State) : Host.Outcome State Fault Refusal :=
  .next (paceMeasured pace.toNat (s.tick e))

/-- HANDSHAKE_WAIT_END (R22): an interior producer at level L1 to L5 (0 to 4) that has waited the ticks given delivers its
entry; nothing is lost, and the wait shows in the level's longest blocking. -/
def handshakeEnds (level ticks : Nat) (s : State) : State :=
  let i := R.FAB_BLOCK_MAX level
  s.setFld i F.FAB_BLOCK_MAX.MAX (max (s.fld i F.FAB_BLOCK_MAX.MAX) (min (2 ^ 32 - 1) ticks))

def execHandshakeWaitEnd (e : Nat) (level : Fin 5) (ticks : Nat) (s : State) : Host.Outcome State Fault Refusal :=
  .next (handshakeEnds level ticks (s.tick e))

/-! ### SRAM errors (R31 to R33) -/

/-- The result queue that holds a word of the queue region, by its word within it; one that blocks of the reserve pool hold now
stands there no longer (R343). -/
def queueAt (s : State) (w : Nat) : Option Nat :=
  (List.range 32).find? fun q =>
    let b := s.fld (R.QUE_Q_CFG q) F.QUE_Q_CFG.BASE
    decide (b ≤ w ∧ w < b + s.fld (R.QUE_Q_CFG q) F.QUE_Q_CFG.SIZE) && !poolHolds s (Use.queue q)

/-- A failed mirror region is reported for its graph, and the tables' region as 8 (R33, R341); not where blocks of the reserve
pool hold it already. -/
def regionFails (g : Nat) (s : State) : State := failReport { kind := 6, index := g } s

/-- The tables fail (R33): what storage holds of them is loaded again, and the region is reported. -/
def tablesFail (s : State) : State := regionFails 8 (mapReload 1 (mapReload 0 s))

/-- An uncorrectable error in block b of the reserve pool (R33): its word is retired, and the region it serves, if any, fails. -/
def poolFails (b : Nat) (s : State) : State :=
  match AMap.get? s.plc.blocks b with
  | none => poolRetire b s
  | some u =>
    let s := if u = Use.retired then s else poolRetire b s
    if u = Use.retired then s
    else if u < 33 then failReport { kind := 5, index := u - 1 } s
    else if u = Use.tables then tablesFail s
    else regionFails (u - 33) s

/-- A buffered audit entry lost to an uncorrectable error becomes a damaged-entry marker that holds DT and the region's
offset (R33), which AUDIT_READ returns as a missing entry (R584; assumption 78). -/
def auditDamaged (k off : Nat) (s : State) : State :=
  { s with audit := { s.audit with buf := s.audit.buf.map fun x =>
      if x.num % 16384 = k then { num := x.num, dt := s.dt, kind := 0x0B, tbl := off, chain := x.chain } else x } }

/-- A buffered event entry becomes a damaged-entry marker (R33, R632). -/
def eventDamaged (k off : Nat) (s : State) : State :=
  { s with ev := { s.ev with buf := s.ev.buf.map fun x =>
      if x.num % 16384 = k then { num := x.num, stamp := s.dt, code := 0, flags := 1, subject := 0xFF, detail := leBytes 4 off } else x } }

/-- An uncorrectable error in the update's exchange (R33, R649). -/
def exchangeFails (s : State) : State :=
  if updState s = Up.switched then leapBack reqInternal 5 true s else updEndActivation 0xB s

/-- A transfer under way in the storage manager's buffers is discarded (R33): the mirror being written fails, and a plant
description being stored is not. -/
def transferLost (s : State) : State :=
  if mirrorBusy s then mirrorDone false s else { s with plc := { s.plc with storing := false } }

/-- A pending frame of controller c, source k at place q, is discarded from its buffer: its sender sees it FAILED (R600). -/
def txLost (c k q : Nat) (s : State) : State :=
  let x := canOf s c
  let s := canEnd c k 4 (setCan c { x with fly := some k, flyQ := q } s)
  let s := setCan c { canOf s c with fly := x.fly, flyQ := if k = 32 ∧ q < x.flyQ then x.flyQ - 1 else x.flyQ } s
  if k ≤ 32 then (canFlag c F.CAN_FLAGS.TX_FAIL s).raise EV.CAN_TX_FAILED c [(1, k)] else s

/-- What one word of the command, CAN and pair-link buffers may hold: a request that waits at a port, a reply there, the newest
frame a controller has received, a frame it has to send, a packet it reassembles, or the pair-link message sent last. -/
inductive Buf where
  | ask (port : Nat)
  | reply (port : Nat)
  | rx (c : Nat)
  | tx (c k q : Nat)
  | part (c i : Nat)
  | pair
deriving DecidableEq, Repr

/-- What these buffers hold now: no request that stands before the gloves, and no frame on the bus. -/
def bufferUses (s : State) : List Buf :=
  let cans := List.range 3
  ((s.ports.filter fun p => decide (b2n p.2.held < p.2.waiting.length)).map fun p => Buf.ask p.1) ++
  ((s.ports.filter fun p => !p.2.replies.isEmpty).map fun p => Buf.reply p.1) ++
  ((cans.filter fun c => !(canOf s c).rx.isEmpty).map Buf.rx) ++
  (cans.flatMap fun c => ((canCands (canOf s c)).filter fun p => p.1 ≤ 32 || (canOf s c).fly != some p.1).map fun p => Buf.tx c p.1 p.2.1) ++
  (cans.flatMap fun c => (List.range (canOf s c).tin.length).map (Buf.part c)) ++
  (if s.pair.sent.isEmpty then [] else [Buf.pair])

/-- The packet or frame a buffer held is discarded. -/
def bufferDrops (b : Buf) (s : State) : State :=
  match b with
  | .ask k => s.setPort k { s.portOf k with waiting := (s.portOf k).waiting.dropLast }
  | .reply k => s.setPort k { s.portOf k with replies := (s.portOf k).replies.dropLast }
  | .rx c => canShowRx c (setCan c { canOf s c with rx := (canOf s c).rx.dropLast, lost := true } s)
  | .tx c k q => txLost c k q s
  | .part c i => setCan c { canOf s c with tin := (canOf s c).tin.eraseIdx i } s
  | .pair => { s with pair := { s.pair with sent := [] } }

/-- A word of the command, CAN and pair-link buffers is lost (R33): the packet or frame it held is discarded, and its originator
sees it as lost. Which one stood in the word the spec does not say: a free value (assumption 78). -/
def bufferLost (s : State) : State :=
  let l := bufferUses s
  if l.isEmpty then s
  else
    let (d, s) := s.draw 16
    bufferDrops (l.getD (d % l.length) .pair) s

/-- The reaction of the region that holds a byte offset (R31, R33). An error of the gloves' store or the input journal enters SAFE
under the cause GLOVE, the chapter's own; the table of R77 lists no other for it (assumption 97). -/
def regionReact (off : Nat) (s : State) : State :=
  if off < 0xC00000 then recEnd 3 s
  else if off < 0x1000000 then enterSafe Cause.glove reqInternal s
  else if off < 0x1200000 then
    match queueAt s ((off - 0x1000000) / 8) with
    | some q => failReport { kind := 5, index := q } s
    | none => s
  else if off < 0x1400000 then transferLost s
  else if off < 0x1600000 then exchangeFails s
  else if off < 0x1700000 then (if poolHolds s Use.tables then s else tablesFail s)
  else if off < 0x1800000 then
    let g := (off - 0x1700000) / 0x20000
    if poolHolds s (Use.mirror g) then s else regionFails g s
  else if off < 0x1880000 then auditDamaged ((off - 0x1800000) / 32) off s
  else if off < 0x1900000 then eventDamaged ((off - 0x1880000) / 32) off s
  else if off < 0x1A00000 then failReport { kind := 7, index := 0 } s
  else if off < 0x1A80000 then bufferLost s
  else if off < 0x1AC0000 then enterSafe Cause.glove reqInternal s
  else if off < 0x1B00000 then lifeLoad (lifeNewest s) s
  else poolFails ((off - 0x1B00000) / 4096) s

/-- What EV_ECC_FATAL names: the word, and for the lifetime counters the interval lost, from the mirror to now (R33). -/
def eccNames (word : Nat) (s : State) : List (Nat × Nat) :=
  if 0x1AC0000 ≤ 8 * word ∧ 8 * word < 0x1B00000 then
    [(3, word), (5, match lifeNewest s with | some r => r.rtc | none => 0), (5, s.rtc)]
  else [(3, word)]

/-- SRAM_SCRUB (R32, R33): a read of a 64-bit word finds it good (0), with a single-bit error that is corrected (1), or with
an uncorrectable one (2). -/
def sramScrub (word out : Nat) (s : State) : State :=
  if !s.logs || out = 0 then s
  else
    let s := (s.setFld R.FAB_ECC F.FAB_ECC.LAST_WORD word).setBit R.FAB_ECC F.FAB_ECC.LAST_FATAL (out == 2)
    if out = 1 then (s.incFld R.FAB_ECC F.FAB_ECC.CORR_COUNT 1).setBit R.FAB_FLAGS F.FAB_FLAGS.ECC_CORR true
    else
      let s := (s.setBit R.FAB_FLAGS F.FAB_FLAGS.ECC_FATAL true).raise EV.ECC_FATAL 0xFF (eccNames word s)
      regionReact (8 * word) s

def execSramScrub (e : Nat) (word : BitVec 22) (out : Fin 3) (s : State) : Host.Outcome State Fault Refusal :=
  .next (sramScrub word.toNat out (s.tick e))

/-! ### Boundary scan (R661) -/

/-- BOUNDARY_SCAN_EXTEST (R661): the TAP enters or leaves EXTEST; LG00 to LG17 are held low while it is there. -/
def bscanExtest (on : Bool) (s : State) : State :=
  let s := { s with extest := on }
  if on then s.setFld R.ACT_LV_STAT F.ACT_LV_STAT.GATE 0 else s

def execBoundaryScanExtest (e : Nat) (on : Bool) (s : State) : Host.Outcome State Fault Refusal :=
  .next (bscanExtest on (s.tick e))

end Sys2Proof.Machine
end

