-- ==== Sys2Proof/Machine/Writes.lean ====
section
/-! DEFINITION. The commands that an origin gives as one operation: each is the operation, from its arrival to its
execution, with its frame, flags and CRC good (`hostOp`). A command that writes one field writes its register with every
other stored field as it stands; bytes that come in frames are REQUEST_FRAME and CAN_FRAME_RECEIVED. -/

namespace Sys2Proof.Machine

/-- The value that writes a register's stored fields as they stand, with some fields given. -/
def settingVal (s : State) (i : Nat) (l : List (Fld × Nat)) : Reg :=
  let kept := match regRow i with | some row => s.reg i &&& clsMask row [.rw, .rwp] | none => 0
  l.foldl (fun v p => p.1.set v p.2) kept

/-- The write of a register with some fields given. -/
def setting (s : State) (i : Nat) (l : List (Fld × Nat)) : Op := .regWrite [(i, settingVal s i l)]

/-- The index of shadow register sh (R181): 0 to 131 the four of each unit, 132 to 137 the period of each timebase. -/
def shadowIdx (sh : Nat) : Nat :=
  if sh < 132 then R.PWM_HB_DUTY_H (sh / 4) + sh % 4 else R.PWM_TB_PERIOD (sh - 132)

/-! ### Modes, protection and PWM -/

/-- MODE_REQUEST (R41 to R43): opcode MODE_REQUEST. -/
def execModeRequest (e : Nat) (r : Req) (mode : Fin 8) (s : State) : Host.Outcome State Fault Refusal :=
  .next (hostOp stepGo r (.modeReq mode) (s.tick e))

/-- SAFE_REQUEST (R44): opcode SAFE_REQUEST. -/
def execSafeRequest (e : Nat) (r : Req) (s : State) : Host.Outcome State Fault Refusal :=
  .next (hostOp stepGo r (.safeReq) (s.tick e))

/-- RTC_WRITE (R66). -/
def execRtcWrite (e : Nat) (r : Req) (v : BitVec 40) (s : State) : Host.Outcome State Fault Refusal :=
  .next (hostOp stepGo r (.regWrite [(R.DEV_RTC, v)]) (s.tick e))

/-- RTC_ALARM_WRITE (R67). -/
def execRtcAlarmWrite (e : Nat) (r : Req) (v : BitVec 40) (s : State) : Host.Outcome State Fault Refusal :=
  .next (hostOp stepGo r (.regWrite [(R.DEV_RTC_ALARM, v)]) (s.tick e))

/-- SAFE_CAUSE_CLEAR (R78). -/
def execSafeCauseClear (e : Nat) (r : Req) (v : BitVec 40) (s : State) : Host.Outcome State Fault Refusal :=
  .next (hostOp stepGo r (.regWrite [(R.DEV_SAFE_CAUSE, v)]) (s.tick e))

/-- ISL_PROFILE_WRITE (R106). -/
def execIslProfileWrite (e : Nat) (r : Req) (n : Fin 48) (p : Fin 8) (v : BitVec 40) (s : State) : Host.Outcome State Fault Refusal :=
  .next (hostOp stepGo r (.regWrite [(R.ISL_PROF n p, v)]) (s.tick e))

/-- PRESTART_RUN (R56). -/
def execPrestartRun (e : Nat) (r : Req) (s : State) : Host.Outcome State Fault Refusal :=
  .next (hostOp stepGo r (setting s (R.PROT_PRE_CTRL) [(F.PROT_PRE_CTRL.RUN, 1)]) (s.tick e))

/-- SHADOW_WRITE (R181): shadow register sh, four for each unit and then the period of each timebase. -/
def execShadowWrite (e : Nat) (r : Req) (sh : Fin 138) (v : BitVec 40) (s : State) : Host.Outcome State Fault Refusal :=
  .next (hostOp stepGo r (.regWrite [(shadowIdx sh, v)]) (s.tick e))

/-- PWM_COMMIT (R183). -/
def execPwmCommit (e : Nat) (r : Req) (tbs : BitVec 6) (s : State) : Host.Outcome State Fault Refusal :=
  .next (hostOp stepGo r (.regWrite [(R.PWM_COMMIT, BitVec.ofNat 40 tbs.toNat)]) (s.tick e))

/-- LATCH_RELEASE (R201). -/
def execLatchRelease (e : Nat) (r : Req) (mask : BitVec 33) (s : State) : Host.Outcome State Fault Refusal :=
  .next (hostOp stepGo r (.regWrite [(R.PWM_LATCH, BitVec.ofNat 40 mask.toNat)]) (s.tick e))

/-- PWM_FORCE (R208). -/
def execPwmForce (e : Nat) (r : Req) (v : BitVec 40) (s : State) : Host.Outcome State Fault Refusal :=
  .next (hostOp stepGo r (.regWrite [(R.PWM_FORCE, v)]) (s.tick e))

/-! ### Measurement, the engines and the placer -/

/-- QUEUE_ACK (R240). -/
def execQueueAck (e : Nat) (r : Req) (q : Fin 32) (n : BitVec 14) (s : State) : Host.Outcome State Fault Refusal :=
  .next (hostOp stepGo r (.regWrite [(R.QUE_Q_ACK q, BitVec.ofNat 40 n.toNat)]) (s.tick e))

/-- AIN_CAL_WRITE (R220). -/
def execAinCalWrite (e : Nat) (r : Req) (c : Fin 64) (v : BitVec 40) (s : State) : Host.Outcome State Fault Refusal :=
  .next (hostOp stepGo r (.regWrite [(R.ADC_AIN_CAL c, v)]) (s.tick e))

/-- REF_ENABLE_WRITE (R216). -/
def execRefEnableWrite (e : Nat) (r : Req) (on : Bool) (s : State) : Host.Outcome State Fault Refusal :=
  .next (hostOp stepGo r (setting s (R.ADC_REF_CTRL) [(F.ADC_REF_CTRL.EN, b2n on)]) (s.tick e))

/-- GWIN_DATA_READ (R291). -/
def execGwinDataRead (e : Nat) (r : Req) (s : State) : Host.Outcome State Fault Refusal :=
  .next (hostOp stepGo r (.regRead [R.ENG_GWIN_DATA]) (s.tick e))

/-- GWIN_DATA_WRITE (R292). -/
def execGwinDataWrite (e : Nat) (r : Req) (v : BitVec 40) (s : State) : Host.Outcome State Fault Refusal :=
  .next (hostOp stepGo r (.regWrite [(R.ENG_GWIN_DATA, v)]) (s.tick e))

/-- APPLY (R293). -/
def execApply (e : Nat) (r : Req) (s : State) : Host.Outcome State Fault Refusal :=
  .next (hostOp stepGo r (setting s (R.ENG_GWIN_CTRL) [(F.ENG_GWIN_CTRL.APPLY, 1)]) (s.tick e))

/-- DISCARD (R294). -/
def execDiscard (e : Nat) (r : Req) (s : State) : Host.Outcome State Fault Refusal :=
  .next (hostOp stepGo r (setting s (R.ENG_GWIN_CTRL) [(F.ENG_GWIN_CTRL.DISCARD, 1)]) (s.tick e))

/-- ENG_CLR_COUNTS (R695). -/
def execEngClrCounts (e : Nat) (r : Req) (s : State) : Host.Outcome State Fault Refusal :=
  .next (hostOp stepGo r (setting s (R.ENG_CTRL) [(F.ENG_CTRL.CLR_COUNTS, 1)]) (s.tick e))

/-- CLR_TIME_MAX (R695). -/
def execClrTimeMax (e : Nat) (r : Req) (s : State) : Host.Outcome State Fault Refusal :=
  .next (hostOp stepGo r (setting s (R.ENG_CTRL) [(F.ENG_CTRL.CLR_TIME_MAX, 1)]) (s.tick e))

/-- GRAPH_FLAG_CLEAR (R280). -/
def execGraphFlagClear (e : Nat) (r : Req) (g : Fin 8) (mask : BitVec 4) (s : State) : Host.Outcome State Fault Refusal :=
  .next (hostOp stepGo r (.regWrite [(R.ENG_G_FLAGS g, BitVec.ofNat 40 mask.toNat)]) (s.tick e))

/-- FAB_CLR_COUNTS (R695). -/
def execFabClrCounts (e : Nat) (r : Req) (s : State) : Host.Outcome State Fault Refusal :=
  .next (hostOp stepGo r (setting s (R.FAB_CTRL) [(F.FAB_CTRL.CLR_COUNTS, 1)]) (s.tick e))

/-- CLR_BLOCK_MAX (R695). -/
def execClrBlockMax (e : Nat) (r : Req) (s : State) : Host.Outcome State Fault Refusal :=
  .next (hostOp stepGo r (setting s (R.FAB_CTRL) [(F.FAB_CTRL.CLR_BLOCK_MAX, 1)]) (s.tick e))

/-- PWIN_DATA_READ (R332). -/
def execPwinDataRead (e : Nat) (r : Req) (s : State) : Host.Outcome State Fault Refusal :=
  .next (hostOp stepGo r (.regRead [R.PLC_PWIN_DATA]) (s.tick e))

/-- PWIN_DATA_WRITE (R332). -/
def execPwinDataWrite (e : Nat) (r : Req) (v : BitVec 40) (s : State) : Host.Outcome State Fault Refusal :=
  .next (hostOp stepGo r (.regWrite [(R.PLC_PWIN_DATA, v)]) (s.tick e))

/-- PWIN_RESET (R332). -/
def execPwinReset (e : Nat) (r : Req) (s : State) : Host.Outcome State Fault Refusal :=
  .next (hostOp stepGo r (setting s (R.PLC_CTRL) [(F.PLC_CTRL.PWIN_RESET, 1)]) (s.tick e))

/-- SUBMIT (R333). -/
def execSubmit (e : Nat) (r : Req) (s : State) : Host.Outcome State Fault Refusal :=
  .next (hostOp stepGo r (setting s (R.PLC_CTRL) [(F.PLC_CTRL.SUBMIT, 1)]) (s.tick e))

/-! ### The glove pair's debug registers -/

/-- HALT (R533). -/
def execHalt (e : Nat) (r : Req) (s : State) : Host.Outcome State Fault Refusal :=
  .next (hostOp stepGo r (setting s (R.GLV_DBG_CTRL) [(F.GLV_DBG_CTRL.HALT, 1)]) (s.tick e))

/-- STEP (R535), with the difference the cores' records show, if any. -/
def execStep (e : Nat) (r : Req) (diff : Option (Fin 4 × Fin 3)) (s : State) : Host.Outcome State Fault Refusal :=
  .next (hostOp (gloveStep 4 diff) r (setting s (R.GLV_DBG_CTRL) [(F.GLV_DBG_CTRL.STEP, 1)]) (s.tick e))

/-- RESUME (R536). -/
def execResume (e : Nat) (r : Req) (s : State) : Host.Outcome State Fault Refusal :=
  .next (hostOp stepGo r (setting s (R.GLV_DBG_CTRL) [(F.GLV_DBG_CTRL.RESUME, 1)]) (s.tick e))

/-- BREAKPOINT_WRITE (R532). -/
def execBreakpointWrite (e : Nat) (r : Req) (v : BitVec 40) (s : State) : Host.Outcome State Fault Refusal :=
  .next (hostOp stepGo r (.regWrite [(R.GLV_DBG_BRK, v)]) (s.tick e))

/-- DWIN_DATA_READ (R537). -/
def execDwinDataRead (e : Nat) (r : Req) (s : State) : Host.Outcome State Fault Refusal :=
  .next (hostOp stepGo r (.regRead [R.GLV_DWIN_DATA]) (s.tick e))

/-! ### Traction, the link, charging, the actuators and the lifetime store -/

/-- MACHINE_ENABLE (R359). -/
def execMachineEnable (e : Nat) (r : Req) (m : Fin 2) (s : State) : Host.Outcome State Fault Refusal :=
  .next (hostOp stepGo r (setting s (R.TRX_M_CTRL m) [(F.TRX_M_CTRL.EN, 1)]) (s.tick e))

/-- MACHINE_DISABLE (R360). -/
def execMachineDisable (e : Nat) (r : Req) (m : Fin 2) (s : State) : Host.Outcome State Fault Refusal :=
  .next (hostOp stepGo r (setting s (R.TRX_M_CTRL m) [(F.TRX_M_CTRL.EN, 0)]) (s.tick e))

/-- DIR_CHANGE (R367). -/
def execDirChange (e : Nat) (r : Req) (m : Fin 2) (dir : Bool) (s : State) : Host.Outcome State Fault Refusal :=
  .next (hostOp stepGo r (setting s (R.TRX_M_CTRL m) [(F.TRX_M_CTRL.DIR, b2n dir)]) (s.tick e))

/-- TREQ_WRITE (R365). -/
def execTreqWrite (e : Nat) (r : Req) (m : Fin 2) (v : BitVec 40) (s : State) : Host.Outcome State Fault Refusal :=
  .next (hostOp stepGo r (.regWrite [(R.TRX_M_TREQ m, v)]) (s.tick e))

/-- LIMP (R366). -/
def execLimp (e : Nat) (r : Req) (m : Fin 2) (s : State) : Host.Outcome State Fault Refusal :=
  .next (hostOp stepGo r (setting s (R.TRX_M_CTRL m) [(F.TRX_M_CTRL.LIMP, 1)]) (s.tick e))

/-- DEMAG_CLEAR (R391). -/
def execDemagClear (e : Nat) (r : Req) (m : Fin 2) (s : State) : Host.Outcome State Fault Refusal :=
  .next (hostOp stepGo r (setting s (R.TRX_M_KE_STAT m) [(F.TRX_M_KE_STAT.DEMAG, 1)]) (s.tick e))

/-- MAP_DATA_WRITE (R372). -/
def execMapDataWrite (e : Nat) (r : Req) (v : BitVec 40) (s : State) : Host.Outcome State Fault Refusal :=
  .next (hostOp stepGo r (.regWrite [(R.TRX_MAP_DATA, v)]) (s.tick e))

/-- MAP_DATA_READ (R372). -/
def execMapDataRead (e : Nat) (r : Req) (s : State) : Host.Outcome State Fault Refusal :=
  .next (hostOp stepGo r (.regRead [R.TRX_MAP_DATA]) (s.tick e))

/-- VALIDATE (R373). -/
def execValidate (e : Nat) (r : Req) (s : State) : Host.Outcome State Fault Refusal :=
  .next (hostOp stepGo r (setting s (R.TRX_MAP_CTRL) [(F.TRX_MAP_CTRL.VALIDATE, 1)]) (s.tick e))

/-- CHOP_CLEAR (R413). -/
def execChopClear (e : Nat) (r : Req) (s : State) : Host.Outcome State Fault Refusal :=
  .next (hostOp stepGo r (setting s (R.DCL_CHOP_CTRL) [(F.DCL_CHOP_CTRL.CLEAR, 1)]) (s.tick e))

/-- DCDC_MODE_WRITE (R405). -/
def execDcdcModeWrite (e : Nat) (r : Req) (mode : BitVec 2) (s : State) : Host.Outcome State Fault Refusal :=
  .next (hostOp stepGo r (setting s (R.DCL_DCDC_CTRL) [(F.DCL_DCDC_CTRL.MODE, mode.toNat)]) (s.tick e))

/-- START (R443). -/
def execStart (e : Nat) (r : Req) (s : State) : Host.Outcome State Fault Refusal :=
  .next (hostOp stepGo r (setting s (R.CHG_CTRL) [(F.CHG_CTRL.START, 1)]) (s.tick e))

/-- STOP (R443). -/
def execStop (e : Nat) (r : Req) (s : State) : Host.Outcome State Fault Refusal :=
  .next (hostOp stepGo r (setting s (R.CHG_CTRL) [(F.CHG_CTRL.STOP, 1)]) (s.tick e))

/-- UNLOCK (R443). -/
def execUnlock (e : Nat) (r : Req) (s : State) : Host.Outcome State Fault Refusal :=
  .next (hostOp stepGo r (setting s (R.CHG_CTRL) [(F.CHG_CTRL.UNLOCK, 1)]) (s.tick e))

/-- TBAT_WRITE (R445). -/
def execTbatWrite (e : Nat) (r : Req) (t : BitVec 16) (s : State) : Host.Outcome State Fault Refusal :=
  .next (hostOp stepGo r (.regWrite [(R.CHG_TBAT, BitVec.ofNat 40 t.toNat)]) (s.tick e))

/-- ACT_ENABLE (R468). -/
def execActEnable (e : Nat) (r : Req) (a : Fin 3) (s : State) : Host.Outcome State Fault Refusal :=
  .next (hostOp stepGo r (setting s (R.ACT_A_CTRL a) [(F.ACT_A_CTRL.EN, 1)]) (s.tick e))

/-- ACT_DISABLE (R471). -/
def execActDisable (e : Nat) (r : Req) (a : Fin 3) (s : State) : Host.Outcome State Fault Refusal :=
  .next (hostOp stepGo r (setting s (R.ACT_A_CTRL a) [(F.ACT_A_CTRL.EN, 0)]) (s.tick e))

/-- ACT_TARGET_WRITE (R468). -/
def execActTargetWrite (e : Nat) (r : Req) (a : Fin 3) (v : BitVec 40) (s : State) : Host.Outcome State Fault Refusal :=
  .next (hostOp stepGo r (.regWrite [(R.ACT_A_TGT a, v)]) (s.tick e))

/-- BRAKE (R471). -/
def execBrake (e : Nat) (r : Req) (a : Fin 3) (s : State) : Host.Outcome State Fault Refusal :=
  .next (hostOp stepGo r (setting s (R.ACT_A_CTRL a) [(F.ACT_A_CTRL.BRAKE, 1)]) (s.tick e))

/-- REF (R467). -/
def execRef (e : Nat) (r : Req) (a : Fin 3) (s : State) : Host.Outcome State Fault Refusal :=
  .next (hostOp stepGo r (setting s (R.ACT_A_CTRL a) [(F.ACT_A_CTRL.REF, 1)]) (s.tick e))

/-- MIRROR (R496). -/
def execMirror (e : Nat) (r : Req) (s : State) : Host.Outcome State Fault Refusal :=
  .next (hostOp stepGo r (setting s (R.LIFE_CTRL) [(F.LIFE_CTRL.MIRROR, 1)]) (s.tick e))

/-- CLEAR (R501). -/
def execClear (e : Nat) (r : Req) (n : Fin 48) (s : State) : Host.Outcome State Fault Refusal :=
  .next (hostOp stepGo r (setting s (R.LIFE_CTRL) [(F.LIFE_CTRL.ISL, n), (F.LIFE_CTRL.CLEAR, 1)]) (s.tick e))

/-- CURVE_VALIDATE (R484). -/
def execCurveValidate (e : Nat) (r : Req) (n : Fin 48) (s : State) : Host.Outcome State Fault Refusal :=
  .next (hostOp stepGo r (setting s (R.LIFE_CTRL) [(F.LIFE_CTRL.ISL, n), (F.LIFE_CTRL.VALIDATE, 1)]) (s.tick e))

/-- LIFE_TWIN_DATA_READ (R500). -/
def execLifeTwinDataRead (e : Nat) (r : Req) (s : State) : Host.Outcome State Fault Refusal :=
  .next (hostOp stepGo r (.regRead [R.LIFE_TWIN_DATA]) (s.tick e))

/-- LIFE_TWIN_DATA_WRITE (R500). -/
def execLifeTwinDataWrite (e : Nat) (r : Req) (v : BitVec 40) (s : State) : Host.Outcome State Fault Refusal :=
  .next (hostOp stepGo r (.regWrite [(R.LIFE_TWIN_DATA, v)]) (s.tick e))

/-! ### Opcodes -/

/-- ECHO (R553). -/
def execEcho (e : Nat) (r : Req) (b : List Byte) (s : State) : Host.Outcome State Fault Refusal :=
  .next (hostOp stepGo r (.echo b) (s.tick e))

/-- REG_READ (R554). -/
def execRegRead (e : Nat) (r : Req) (l : List (BitVec 16)) (s : State) : Host.Outcome State Fault Refusal :=
  .next (hostOp stepGo r (.regRead (l.map (·.toNat))) (s.tick e))

/-- REG_WRITE (R554). -/
def execRegWrite (e : Nat) (r : Req) (l : List (BitVec 16 × Reg)) (s : State) : Host.Outcome State Fault Refusal :=
  .next (hostOp stepGo r (.regWrite (l.map fun p => (p.1.toNat, p.2))) (s.tick e))

/-- REG_READ_REPEAT (R554). -/
def execRegReadRepeat (e : Nat) (r : Req) (a : BitVec 16) (c : BitVec 16) (s : State) : Host.Outcome State Fault Refusal :=
  .next (hostOp stepGo r (.readRep a.toNat c.toNat) (s.tick e))

/-- REG_WRITE_REPEAT (R554). -/
def execRegWriteRepeat (e : Nat) (r : Req) (a : BitVec 16) (l : List Reg) (s : State) : Host.Outcome State Fault Refusal :=
  .next (hostOp stepGo r (.writeRep a.toNat l) (s.tick e))

/-- REG_MODIFY (R555): each item an index, a mask and a value. -/
def execRegModify (e : Nat) (r : Req) (l : List (BitVec 16 × Reg × Reg)) (s : State) : Host.Outcome State Fault Refusal :=
  .next (hostOp stepGo r (.regModify (l.map fun p => (p.1.toNat, p.2.1, p.2.2))) (s.tick e))

/-- RESET (R559). -/
def execReset (e : Nat) (r : Req) (guard : BitVec 8) (s : State) : Host.Outcome State Fault Refusal :=
  .next (hostOp stepGo r (.reset guard.toNat) (s.tick e))

/-- SESSION_OPEN (R563). -/
def execSessionOpen (e : Nat) (r : Req) (s : State) : Host.Outcome State Fault Refusal :=
  .next (hostOp stepGo r (.sessOpen) (s.tick e))

/-- SESSION_AUTH (R565). -/
def execSessionAuth (e : Nat) (r : Req) (resp : List Byte) (s : State) : Host.Outcome State Fault Refusal :=
  .next (hostOp stepGo r (.sessAuth resp) (s.tick e))

/-- SESSION_CLOSE (R567). -/
def execSessionClose (e : Nat) (r : Req) (s : State) : Host.Outcome State Fault Refusal :=
  .next (hostOp stepGo r (.sessClose) (s.tick e))

/-- KEY_PROGRAM (R570). -/
def execKeyProgram (e : Nat) (r : Req) (key : List Byte) (crc : BitVec 32) (s : State) : Host.Outcome State Fault Refusal :=
  .next (hostOp stepGo r (.keyProg key crc.toNat) (s.tick e))

/-- QUEUE_READ (R556). -/
def execQueueRead (e : Nat) (r : Req) (q : BitVec 8) (skip : BitVec 16) (c : BitVec 16) (s : State) : Host.Outcome State Fault Refusal :=
  .next (hostOp stepGo r (.queueRead q.toNat skip.toNat c.toNat) (s.tick e))

/-- AUDIT_READ (R584). -/
def execAuditRead (e : Nat) (r : Req) (first : BitVec 40) (c : BitVec 16) (s : State) : Host.Outcome State Fault Refusal :=
  .next (hostOp stepGo r (.auditRead first.toNat c.toNat) (s.tick e))

/-- EVENT_READ (R634). -/
def execEventRead (e : Nat) (r : Req) (first : BitVec 40) (c : BitVec 16) (s : State) : Host.Outcome State Fault Refusal :=
  .next (hostOp stepGo r (.eventRead first.toNat c.toNat) (s.tick e))

/-! ### CAN -/

/-- CAN_ENABLE_WRITE (R592). -/
def execCanEnableWrite (e : Nat) (r : Req) (c : Fin 3) (on : Bool) (s : State) : Host.Outcome State Fault Refusal :=
  .next (hostOp stepGo r (setting s (R.CAN_C_CFG c) [(F.CAN_C_CFG.EN, b2n on)]) (s.tick e))

/-- RECOVER (R595). -/
def execRecover (e : Nat) (r : Req) (c : Fin 3) (s : State) : Host.Outcome State Fault Refusal :=
  .next (hostOp stepGo r (setting s (R.CAN_C_CTRL c) [(F.CAN_C_CTRL.RECOVER, 1)]) (s.tick e))

/-- CAN_LOAD (R597). -/
def execCanLoad (e : Nat) (r : Req) (c : Fin 3) (mb : BitVec 6) (req : Bool) (s : State) : Host.Outcome State Fault Refusal :=
  .next (hostOp stepGo r (setting s (R.CAN_C_LOAD c) [(F.CAN_C_LOAD.MB, mb.toNat), (F.CAN_C_LOAD.REQ, b2n req)]) (s.tick e))

/-- CAN_TXREQ (R598). -/
def execCanTxreq (e : Nat) (r : Req) (c : Fin 3) (mbs : BitVec 32) (s : State) : Host.Outcome State Fault Refusal :=
  .next (hostOp stepGo r (.regWrite [(R.CAN_C_TXREQ c, BitVec.ofNat 40 mbs.toNat)]) (s.tick e))

/-- CAN_CANCEL (R601). -/
def execCanCancel (e : Nat) (r : Req) (c : Fin 3) (mb : BitVec 5) (s : State) : Host.Outcome State Fault Refusal :=
  .next (hostOp stepGo r (.regWrite [(R.CAN_C_CANCEL c, BitVec.ofNat 40 mb.toNat)]) (s.tick e))

/-- TXQ_FLUSH (R602). -/
def execTxqFlush (e : Nat) (r : Req) (c : Fin 3) (s : State) : Host.Outcome State Fault Refusal :=
  .next (hostOp stepGo r (setting s (R.CAN_C_CTRL c) [(F.CAN_C_CTRL.TXQ_FLUSH, 1)]) (s.tick e))

/-- CAN_RXACK (R606). -/
def execCanRxack (e : Nat) (r : Req) (c : Fin 3) (n : BitVec 9) (s : State) : Host.Outcome State Fault Refusal :=
  .next (hostOp stepGo r (.regWrite [(R.CAN_C_RXACK c, BitVec.ofNat 40 n.toNat)]) (s.tick e))

/-- PURGE (R618). -/
def execPurge (e : Nat) (r : Req) (s : State) : Host.Outcome State Fault Refusal :=
  .next (hostOp stepGo r (setting s (R.CAN_CTRL) [(F.CAN_CTRL.PURGE, 1)]) (s.tick e))

/-- FWIN_DATA_ACCESS (R621): a write of v, or a read. -/
def execFwinDataAccess (e : Nat) (r : Req) (write : Bool) (v : BitVec 40) (s : State) : Host.Outcome State Fault Refusal :=
  .next (hostOp stepGo r (if write then .regWrite [(R.CAN_FWIN_DATA, v)] else .regRead [R.CAN_FWIN_DATA]) (s.tick e))

/-! ### Storage, the recorder and the update -/

/-- FORMAT (R628). -/
def execFormat (e : Nat) (r : Req) (s : State) : Host.Outcome State Fault Refusal :=
  .next (hostOp stepGo r (setting s (R.STO_CTRL) [(F.STO_CTRL.FORMAT, 1)]) (s.tick e))

/-- REC_ENABLE_WRITE (R636). -/
def execRecEnableWrite (e : Nat) (r : Req) (on : Bool) (s : State) : Host.Outcome State Fault Refusal :=
  .next (hostOp stepGo r (setting s (R.STO_REC_CFG) [(F.STO_REC_CFG.EN, b2n on)]) (s.tick e))

/-- REC_TRIGGER (R641). -/
def execRecTrigger (e : Nat) (r : Req) (s : State) : Host.Outcome State Fault Refusal :=
  .next (hostOp stepGo r (.recTrigger) (s.tick e))

/-- REC_LIST (R641). -/
def execRecList (e : Nat) (r : Req) (first : BitVec 32) (c : BitVec 8) (s : State) : Host.Outcome State Fault Refusal :=
  .next (hostOp stepGo r (.recList first.toNat c.toNat) (s.tick e))

/-- REC_READ (R641). -/
def execRecRead (e : Nat) (r : Req) (num : BitVec 32) (off : BitVec 32) (len : BitVec 16) (s : State) : Host.Outcome State Fault Refusal :=
  .next (hostOp stepGo r (.recRead num.toNat off.toNat len.toNat) (s.tick e))

/-- UPD_BEGIN (R643). -/
def execUpdBegin (e : Nat) (r : Req) (len : BitVec 32) (s : State) : Host.Outcome State Fault Refusal :=
  .next (hostOp stepGo r (.updBegin len.toNat) (s.tick e))

/-- UPD_BLOCK (R644). -/
def execUpdBlock (e : Nat) (r : Req) (kind : BitVec 8) (num : BitVec 32) (b : List Byte) (s : State) : Host.Outcome State Fault Refusal :=
  .next (hostOp stepGo r (.updBlock kind.toNat num.toNat b) (s.tick e))

/-- UPD_CHECK (R645). -/
def execUpdCheck (e : Nat) (r : Req) (s : State) : Host.Outcome State Fault Refusal :=
  .next (hostOp stepGo r (.updCheck) (s.tick e))

/-- UPD_ACTIVATE (R646). -/
def execUpdActivate (e : Nat) (r : Req) (s : State) : Host.Outcome State Fault Refusal :=
  .next (hostOp stepGo r (.updActivate) (s.tick e))

/-- UPD_CONFIRM (R648). -/
def execUpdConfirm (e : Nat) (r : Req) (s : State) : Host.Outcome State Fault Refusal :=
  .next (hostOp stepGo r (.updConfirm) (s.tick e))

/-- UPD_ABORT (R643). -/
def execUpdAbort (e : Nat) (r : Req) (s : State) : Host.Outcome State Fault Refusal :=
  .next (hostOp stepGo r (.updAbort) (s.tick e))

/-! ### Any register -/

/-- FLAG_CLEAR (R8). -/
def execFlagClear (e : Nat) (r : Req) (idx : BitVec 16) (v : BitVec 40) (s : State) : Host.Outcome State Fault Refusal :=
  .next (hostOp stepGo r (.regWrite [(idx.toNat, v)]) (s.tick e))

/-- REGISTER_WRITE (R695). -/
def execRegisterWrite (e : Nat) (r : Req) (idx : BitVec 16) (v : BitVec 40) (s : State) : Host.Outcome State Fault Refusal :=
  .next (hostOp stepGo r (.regWrite [(idx.toNat, v)]) (s.tick e))

/-! ### Frames -/

/-- A frame as the bus carries it (R590, R604): its identifier in its width, its DLC in four bits, its flags as its format
allows, its data cut or filled to its length. -/
def canFrame (f : CanFrame) : CanFrame :=
  let rtr := f.rtr && !f.fdf
  let dlc := f.dlc % 16
  let n := if rtr then 0 else canLen f.fdf dlc
  { f with id := f.id % (if f.ide then 2 ^ 29 else 2 ^ 11), dlc := dlc, rtr := rtr, brs := f.brs && f.fdf, esi := f.esi && f.fdf
           data := (f.data ++ List.replicate n 0).take n }

/-- REQUEST_FRAME (R543, R544, R549): a request frame's bytes on command port n. -/
def execRequestFrame (e : Nat) (n : Fin 2) (l : Arrival) (s : State) : Host.Outcome State Fault Refusal :=
  .next (frameArrives stepGo n l.bytes l.lost (s.tick e))

/-- CAN_FRAME_RECEIVED (R604): a frame that became valid now on controller c; its start of frame lies `ago` ticks back. -/
def execCanFrameReceived (e : Nat) (c : Fin 3) (f : CanFrame) (ago : Nat) (lost : Bool) (s : State) : Host.Outcome State Fault Refusal :=
  .next (canReceive stepGo c (canFrame f) ago lost (s.tick e))

/-- TUNNEL_SEGMENT (R610): a received frame that carries a tunnel segment for this module. -/
def execTunnelSegment (e : Nat) (c : Fin 3) (f : CanFrame) (ago : Nat) (lost : Bool) (s : State) : Host.Outcome State Fault Refusal :=
  .next (canReceive stepGo c (canFrame f) ago lost (s.tick e))

/-- HEARTBEAT_RECEIVED (R615): a received frame that carries a partner's heartbeat. -/
def execHeartbeatReceived (e : Nat) (c : Fin 3) (f : CanFrame) (ago : Nat) (lost : Bool) (s : State) : Host.Outcome State Fault Refusal :=
  .next (canReceive stepGo c (canFrame f) ago lost (s.tick e))

end Sys2Proof.Machine
end

