-- ==== Sys2Proof/Machine/Dispatch.lean ====
section
/-! DEFINITION. One arm for each command: its meaning, in the table's order. -/

namespace Sys2Proof.Machine

/-- What a command does to everything but the queue. -/
def exec (i : Instr) (s : State) : Host.Outcome State Fault Refusal :=
  match i with
  | .supplyGood e fromBelow => Sys2Proof.Machine.execSupplyGood e fromBelow s
  | .resetRelease e => Sys2Proof.Machine.execResetRelease e s
  | .supplyFall e vcore vio => Sys2Proof.Machine.execSupplyFall e vcore vio s
  | .vanaLow e => Sys2Proof.Machine.execVanaLow e s
  | .vanaGood e => Sys2Proof.Machine.execVanaGood e s
  | .refSettled e => Sys2Proof.Machine.execRefSettled e s
  | .nresetLow e ns => Sys2Proof.Machine.execNresetLow e ns s
  | .warmResetRelease e => Sys2Proof.Machine.execWarmResetRelease e s
  | .crystalSupervision e good => Sys2Proof.Machine.execCrystalSupervision e good s
  | .bootImageLoad e d0 d1 img life => Sys2Proof.Machine.execBootImageLoad e d0 d1 img life s
  | .gloveSelftest e pass => Sys2Proof.Machine.execGloveSelftest e pass s
  | .plantReproof e => Sys2Proof.Machine.execPlantReproof e s
  | .bootEnd e a b => Sys2Proof.Machine.execBootEnd e a b s
  | .crystalLoss e => Sys2Proof.Machine.execCrystalLoss e s
  | .paceMeasurement e pace => Sys2Proof.Machine.execPaceMeasurement e pace s
  | .handshakeWaitEnd e level ticks => Sys2Proof.Machine.execHandshakeWaitEnd e level ticks s
  | .sramScrub e word out => Sys2Proof.Machine.execSramScrub e word out s
  | .modeRequest e r mode => Sys2Proof.Machine.execModeRequest e r mode s
  | .safeRequest e r => Sys2Proof.Machine.execSafeRequest e r s
  | .modeTransitionComplete e => Sys2Proof.Machine.execModeTransitionComplete e s
  | .stopRampTimeout e => Sys2Proof.Machine.execStopRampTimeout e s
  | .dischargeComplete e vl => Sys2Proof.Machine.execDischargeComplete e vl s
  | .dischargeLimitExpiry e => Sys2Proof.Machine.execDischargeLimitExpiry e s
  | .wakeCause e cause => Sys2Proof.Machine.execWakeCause e cause s
  | .rtcWrite e r v => Sys2Proof.Machine.execRtcWrite e r v s
  | .rtcAlarmWrite e r v => Sys2Proof.Machine.execRtcAlarmWrite e r v s
  | .rtcAlarm e => Sys2Proof.Machine.execRtcAlarm e s
  | .stoFilterExpiry e pin => Sys2Proof.Machine.execStoFilterExpiry e pin s
  | .stoDiscrepancy e => Sys2Proof.Machine.execStoDiscrepancy e s
  | .link60v e vl => Sys2Proof.Machine.execLink60v e vl s
  | .safeCauseClear e r v => Sys2Proof.Machine.execSafeCauseClear e r v s
  | .islLockoutEntry e n vdd vee => Sys2Proof.Machine.execIslLockoutEntry e n vdd vee s
  | .islLockoutRelease e n vdd vee => Sys2Proof.Machine.execIslLockoutRelease e n vdd vee s
  | .islSupplyOk e n => Sys2Proof.Machine.execIslSupplyOk e n s
  | .islSeq e n why => Sys2Proof.Machine.execIslSeq e n why s
  | .islPowerUp e n => Sys2Proof.Machine.execIslPowerUp e n s
  | .islProfileWrite e r n p v => Sys2Proof.Machine.execIslProfileWrite e r n p v s
  | .islBadFrame e n down => Sys2Proof.Machine.execIslBadFrame e n down s
  | .islLinkDown e n => Sys2Proof.Machine.execIslLinkDown e n s
  | .islFallbackApply e n => Sys2Proof.Machine.execIslFallbackApply e n s
  | .islLinkUp e n => Sys2Proof.Machine.execIslLinkUp e n s
  | .islTrimRemeasure e n ps => Sys2Proof.Machine.execIslTrimRemeasure e n ps s
  | .islandCalibration e n ps => Sys2Proof.Machine.execIslandCalibration e n ps s
  | .islVdsReport e n code => Sys2Proof.Machine.execIslVdsReport e n code s
  | .islEnvReport e n code vdd vee => Sys2Proof.Machine.execIslEnvReport e n code vdd vee s
  | .lvLockout e which => Sys2Proof.Machine.execLvLockout e which s
  | .lvLockoutRelease e which => Sys2Proof.Machine.execLvLockoutRelease e which s
  | .lvGateCheck e ch mv => Sys2Proof.Machine.execLvGateCheck e ch mv s
  | .desatDetection e n => Sys2Proof.Machine.execDesatDetection e n s
  | .kelvinOcDetection e n nvs => Sys2Proof.Machine.execKelvinOcDetection e n nvs s
  | .softTurnOffEnd e n => Sys2Proof.Machine.execSoftTurnOffEnd e n s
  | .detectionReceived e n => Sys2Proof.Machine.execDetectionReceived e n s
  | .selectorSpeedRefresh e m src rpm => Sys2Proof.Machine.execSelectorSpeedRefresh e m src rpm s
  | .speedStale e m => Sys2Proof.Machine.execSpeedStale e m s
  | .activeShortHoldExpiry e m => Sys2Proof.Machine.execActiveShortHoldExpiry e m s
  | .swapDtExpiry e m => Sys2Proof.Machine.execSwapDtExpiry e m s
  | .prestartRun e r => Sys2Proof.Machine.execPrestartRun e r s
  | .prestartDone e gates phs => Sys2Proof.Machine.execPrestartDone e gates phs s
  | .railTest e link phs => Sys2Proof.Machine.execRailTest e link phs s
  | .timebaseStart e j => Sys2Proof.Machine.execTimebaseStart e j s
  | .shadowWrite e r sh v => Sys2Proof.Machine.execShadowWrite e r sh v s
  | .pwmCommit e r tbs => Sys2Proof.Machine.execPwmCommit e r tbs s
  | .commitDeadline e j diffs vl => Sys2Proof.Machine.execCommitDeadline e j diffs vl s
  | .periodBoundary e j vl => Sys2Proof.Machine.execPeriodBoundary e j vl s
  | .tjInvalid e n => Sys2Proof.Machine.execTjInvalid e n s
  | .gateEdge e k => Sys2Proof.Machine.execGateEdge e k s
  | .tripAssert e src on => Sys2Proof.Machine.execTripAssert e src on s
  | .latchRelease e r mask => Sys2Proof.Machine.execLatchRelease e r mask s
  | .syncInEdge e => Sys2Proof.Machine.execSyncInEdge e s
  | .syncLost e => Sys2Proof.Machine.execSyncLost e s
  | .pwmForce e r v => Sys2Proof.Machine.execPwmForce e r v s
  | .adcTrigger e n => Sys2Proof.Machine.execAdcTrigger e n s
  | .adcSlotResult e n codes => Sys2Proof.Machine.execAdcSlotResult e n codes s
  | .integratorResult e n first codes => Sys2Proof.Machine.execIntegratorResult e n first codes s
  | .continuousSample e n code => Sys2Proof.Machine.execContinuousSample e n code s
  | .adcLane e n diff => Sys2Proof.Machine.execAdcLane e n diff s
  | .queueWrite e k => Sys2Proof.Machine.execQueueWrite e k s
  | .queueAck e r q n => Sys2Proof.Machine.execQueueAck e r q n s
  | .wcmpAssert e c uv => Sys2Proof.Machine.execWcmpAssert e c uv s
  | .ainCalWrite e r c v => Sys2Proof.Machine.execAinCalWrite e r c v s
  | .refEnableWrite e r on => Sys2Proof.Machine.execRefEnableWrite e r on s
  | .resFault e r mv err => Sys2Proof.Machine.execResFault e r mv err s
  | .encFault e k => Sys2Proof.Machine.execEncFault e k s
  | .encZPulse e k => Sys2Proof.Machine.execEncZPulse e k s
  | .sentMessage e r cal pulses slow => Sys2Proof.Machine.execSentMessage e r cal pulses slow s
  | .sentLost e r => Sys2Proof.Machine.execSentLost e r s
  | .graphActivation e g dur lag => Sys2Proof.Machine.execGraphActivation e g dur lag s
  | .qinWaitEnd e g => Sys2Proof.Machine.execQinWaitEnd e g s
  | .engStore e n word fatal => Sys2Proof.Machine.execEngStore e n word fatal s
  | .gwinDataRead e r => Sys2Proof.Machine.execGwinDataRead e r s
  | .gwinDataWrite e r v => Sys2Proof.Machine.execGwinDataWrite e r v s
  | .apply e r => Sys2Proof.Machine.execApply e r s
  | .discard e r => Sys2Proof.Machine.execDiscard e r s
  | .engClrCounts e r => Sys2Proof.Machine.execEngClrCounts e r s
  | .clrTimeMax e r => Sys2Proof.Machine.execClrTimeMax e r s
  | .graphFlagClear e r g mask => Sys2Proof.Machine.execGraphFlagClear e r g mask s
  | .fabClrCounts e r => Sys2Proof.Machine.execFabClrCounts e r s
  | .clrBlockMax e r => Sys2Proof.Machine.execClrBlockMax e r s
  | .pilotCycle e len high falls hs hn ls ln => Sys2Proof.Machine.execPilotCycle e len high falls hs hn ls ln s
  | .pilotSteady e high => Sys2Proof.Machine.execPilotSteady e high s
  | .pilotNoCycle e => Sys2Proof.Machine.execPilotNoCycle e s
  | .pilotWindow e sum n => Sys2Proof.Machine.execPilotWindow e sum n s
  | .pwinDataRead e r => Sys2Proof.Machine.execPwinDataRead e r s
  | .pwinDataWrite e r v => Sys2Proof.Machine.execPwinDataWrite e r v s
  | .pwinReset e r => Sys2Proof.Machine.execPwinReset e r s
  | .submit e r => Sys2Proof.Machine.execSubmit e r s
  | .proofComplete e => Sys2Proof.Machine.execProofComplete e s
  | .unitFailed e => Sys2Proof.Machine.execUnitFailed e s
  | .replaced e => Sys2Proof.Machine.execReplaced e s
  | .gloveCheckpoint e vl diff work => Sys2Proof.Machine.execGloveCheckpoint e vl diff work s
  | .journalWrite e src => Sys2Proof.Machine.execJournalWrite e src s
  | .gloveWatchdog e => Sys2Proof.Machine.execGloveWatchdog e s
  | .watchdogReset e => Sys2Proof.Machine.execWatchdogReset e s
  | .gloveCache e core fatal => Sys2Proof.Machine.execGloveCache e core fatal s
  | .halt e r => Sys2Proof.Machine.execHalt e r s
  | .gloveHaltReached e => Sys2Proof.Machine.execGloveHaltReached e s
  | .step e r diff => Sys2Proof.Machine.execStep e r diff s
  | .resume e r => Sys2Proof.Machine.execResume e r s
  | .breakpointWrite e r v => Sys2Proof.Machine.execBreakpointWrite e r v s
  | .dwinDataRead e r => Sys2Proof.Machine.execDwinDataRead e r s
  | .machineEnable e r m => Sys2Proof.Machine.execMachineEnable e r m s
  | .machineDisable e r m => Sys2Proof.Machine.execMachineDisable e r m s
  | .dirChange e r m dir => Sys2Proof.Machine.execDirChange e r m dir s
  | .treqWrite e r m v => Sys2Proof.Machine.execTreqWrite e r m v s
  | .treqLost e m => Sys2Proof.Machine.execTreqLost e m s
  | .limp e r m => Sys2Proof.Machine.execLimp e r m s
  | .shortBrake e m => Sys2Proof.Machine.execShortBrake e m s
  | .startRetry e m => Sys2Proof.Machine.execStartRetry e m s
  | .sensorReturn e m => Sys2Proof.Machine.execSensorReturn e m s
  | .keWindow e m => Sys2Proof.Machine.execKeWindow e m s
  | .demagClear e r m => Sys2Proof.Machine.execDemagClear e r m s
  | .mapDataWrite e r v => Sys2Proof.Machine.execMapDataWrite e r v s
  | .mapDataRead e r => Sys2Proof.Machine.execMapDataRead e r s
  | .validate e r => Sys2Proof.Machine.execValidate e r s
  | .mapValidateDone e => Sys2Proof.Machine.execMapValidateDone e s
  | .chopAssert x => Sys2Proof.Machine.execChopAssert x s
  | .chopRelease x => Sys2Proof.Machine.execChopRelease x s
  | .regenPermit e => Sys2Proof.Machine.execRegenPermit e s
  | .ov1Assert x => Sys2Proof.Machine.execOv1Assert x s
  | .ov1Release x => Sys2Proof.Machine.execOv1Release x s
  | .ov1HandBack e => Sys2Proof.Machine.execOv1HandBack e s
  | .ov2Assert x => Sys2Proof.Machine.execOv2Assert x s
  | .dclUv e vl => Sys2Proof.Machine.execDclUv e vl s
  | .uvClear e vl => Sys2Proof.Machine.execUvClear e vl s
  | .dclSense e mv vl => Sys2Proof.Machine.execDclSense e mv vl s
  | .chopTestPulse e => Sys2Proof.Machine.execChopTestPulse e s
  | .chopClear e r => Sys2Proof.Machine.execChopClear e r s
  | .dcdcModeWrite e r mode => Sys2Proof.Machine.execDcdcModeWrite e r mode s
  | .start e r => Sys2Proof.Machine.execStart e r s
  | .stop e r => Sys2Proof.Machine.execStop e r s
  | .unlock e r => Sys2Proof.Machine.execUnlock e r s
  | .handoverDeadline e => Sys2Proof.Machine.execHandoverDeadline e s
  | .suspendExpiry e => Sys2Proof.Machine.execSuspendExpiry e s
  | .tbatWrite e r t => Sys2Proof.Machine.execTbatWrite e r t s
  | .chgTbat e => Sys2Proof.Machine.execChgTbat e s
  | .batteryNtcEval e uv => Sys2Proof.Machine.execBatteryNtcEval e uv s
  | .chgTimeout e => Sys2Proof.Machine.execChgTimeout e s
  | .actEnable e r a => Sys2Proof.Machine.execActEnable e r a s
  | .actDisable e r a => Sys2Proof.Machine.execActDisable e r a s
  | .actTargetWrite e r a v => Sys2Proof.Machine.execActTargetWrite e r a v s
  | .brake e r a => Sys2Proof.Machine.execBrake e r a s
  | .ref e r a => Sys2Proof.Machine.execRef e r a s
  | .hallChange e a code => Sys2Proof.Machine.execHallChange e a code s
  | .inPosition e a => Sys2Proof.Machine.execInPosition e a s
  | .actTimeout e a => Sys2Proof.Machine.execActTimeout e a s
  | .actBrakeEnd e a => Sys2Proof.Machine.execActBrakeEnd e a s
  | .alignEnd e a => Sys2Proof.Machine.execAlignEnd e a s
  | .actRampTimeout e a => Sys2Proof.Machine.execActRampTimeout e a s
  | .actStartRetry e a => Sys2Proof.Machine.execActStartRetry e a s
  | .lifeMirror e => Sys2Proof.Machine.execLifeMirror e s
  | .mirror e r => Sys2Proof.Machine.execMirror e r s
  | .mirrorComplete e ok => Sys2Proof.Machine.execMirrorComplete e ok s
  | .clear e r n => Sys2Proof.Machine.execClear e r n s
  | .curveValidate e r n => Sys2Proof.Machine.execCurveValidate e r n s
  | .lifeTwinDataRead e r => Sys2Proof.Machine.execLifeTwinDataRead e r s
  | .lifeTwinDataWrite e r v => Sys2Proof.Machine.execLifeTwinDataWrite e r v s
  | .requestFrame e n l => Sys2Proof.Machine.execRequestFrame e n l s
  | .fetchFrame e n whole => Sys2Proof.Machine.execFetchFrame e n whole s
  | .echo e r b => Sys2Proof.Machine.execEcho e r b s
  | .regRead e r l => Sys2Proof.Machine.execRegRead e r l s
  | .regWrite e r l => Sys2Proof.Machine.execRegWrite e r l s
  | .regReadRepeat e r a c => Sys2Proof.Machine.execRegReadRepeat e r a c s
  | .regWriteRepeat e r a l => Sys2Proof.Machine.execRegWriteRepeat e r a l s
  | .regModify e r l => Sys2Proof.Machine.execRegModify e r l s
  | .reset e r guard => Sys2Proof.Machine.execReset e r guard s
  | .resetDelayExpiry e => Sys2Proof.Machine.execResetDelayExpiry e s
  | .sessionOpen e r => Sys2Proof.Machine.execSessionOpen e r s
  | .sessionAuth e r resp => Sys2Proof.Machine.execSessionAuth e r resp s
  | .sessionClose e r => Sys2Proof.Machine.execSessionClose e r s
  | .sessionTimeout e n => Sys2Proof.Machine.execSessionTimeout e n s
  | .lockoutEnd e origin node => Sys2Proof.Machine.execLockoutEnd e origin node s
  | .keyProgram e r key crc => Sys2Proof.Machine.execKeyProgram e r key crc s
  | .queueRead e r q skip c => Sys2Proof.Machine.execQueueRead e r q skip c s
  | .auditRead e r first c => Sys2Proof.Machine.execAuditRead e r first c s
  | .eventRead e r first c => Sys2Proof.Machine.execEventRead e r first c s
  | .auditDrain e n bad => Sys2Proof.Machine.execAuditDrain e n bad s
  | .eventLogDrain e n => Sys2Proof.Machine.execEventLogDrain e n s
  | .canEnableWrite e r c on => Sys2Proof.Machine.execCanEnableWrite e r c on s
  | .canIntegrated e c => Sys2Proof.Machine.execCanIntegrated e c s
  | .canTxStart e c => Sys2Proof.Machine.execCanTxStart e c s
  | .canTxAttemptEnd e c res lec exc => Sys2Proof.Machine.execCanTxAttemptEnd e c res lec exc s
  | .recover e r c => Sys2Proof.Machine.execRecover e r c s
  | .canRecovered e c => Sys2Proof.Machine.execCanRecovered e c s
  | .canLoad e r c mb req => Sys2Proof.Machine.execCanLoad e r c mb req s
  | .canTxreq e r c mbs => Sys2Proof.Machine.execCanTxreq e r c mbs s
  | .canCancel e r c mb => Sys2Proof.Machine.execCanCancel e r c mb s
  | .txqFlush e r c => Sys2Proof.Machine.execTxqFlush e r c s
  | .canRxack e r c n => Sys2Proof.Machine.execCanRxack e r c n s
  | .purge e r => Sys2Proof.Machine.execPurge e r s
  | .fwinDataAccess e r write v => Sys2Proof.Machine.execFwinDataAccess e r write v s
  | .canFrameReceived e c f ago lost => Sys2Proof.Machine.execCanFrameReceived e c f ago lost s
  | .tunnelSegment e c f ago lost => Sys2Proof.Machine.execTunnelSegment e c f ago lost s
  | .tunnelTimeout e c node => Sys2Proof.Machine.execTunnelTimeout e c node s
  | .heartbeatSend e => Sys2Proof.Machine.execHeartbeatSend e s
  | .heartbeatReceived e c f ago lost => Sys2Proof.Machine.execHeartbeatReceived e c f ago lost s
  | .partnerLost e p => Sys2Proof.Machine.execPartnerLost e p s
  | .stoDevice e d => Sys2Proof.Machine.execStoDevice e d s
  | .stoWear e d a b eol => Sys2Proof.Machine.execStoWear e d a b eol s
  | .emmcTuning e d retries fails => Sys2Proof.Machine.execEmmcTuning e d retries fails s
  | .format e r => Sys2Proof.Machine.execFormat e r s
  | .recEnableWrite e r on => Sys2Proof.Machine.execRecEnableWrite e r on s
  | .recTrigger e r => Sys2Proof.Machine.execRecTrigger e r s
  | .recList e r first c => Sys2Proof.Machine.execRecList e r first c s
  | .recRead e r num off len => Sys2Proof.Machine.execRecRead e r num off len s
  | .recDone e => Sys2Proof.Machine.execRecDone e s
  | .updBegin e r len => Sys2Proof.Machine.execUpdBegin e r len s
  | .updBlock e r kind num b => Sys2Proof.Machine.execUpdBlock e r kind num b s
  | .updCheck e r => Sys2Proof.Machine.execUpdCheck e r s
  | .updChecked e bad => Sys2Proof.Machine.execUpdChecked e bad s
  | .updActivate e r => Sys2Proof.Machine.execUpdActivate e r s
  | .updReadyTimeout e why => Sys2Proof.Machine.execUpdReadyTimeout e why s
  | .updSwitched e => Sys2Proof.Machine.execUpdSwitched e s
  | .updConfirm e r => Sys2Proof.Machine.execUpdConfirm e r s
  | .updAbort e r => Sys2Proof.Machine.execUpdAbort e r s
  | .updWindowExpiry e => Sys2Proof.Machine.execUpdWindowExpiry e s
  | .updFallback e cause old => Sys2Proof.Machine.execUpdFallback e cause old s
  | .updCommitted e ok => Sys2Proof.Machine.execUpdCommitted e ok s
  | .pairMessageReceived e l => Sys2Proof.Machine.execPairMessageReceived e l s
  | .pairLinkDown e => Sys2Proof.Machine.execPairLinkDown e s
  | .flagClear e r idx v => Sys2Proof.Machine.execFlagClear e r idx v s
  | .registerWrite e r idx v => Sys2Proof.Machine.execRegisterWrite e r idx v s
  | .filteredLevelChange e pin level => Sys2Proof.Machine.execFilteredLevelChange e pin level s
  | .encoderEdge e k up pace => Sys2Proof.Machine.execEncoderEdge e k up pace s
  | .canReceiveError e c lec by8 => Sys2Proof.Machine.execCanReceiveError e c lec by8 s
  | .hallCodeError e a => Sys2Proof.Machine.execHallCodeError e a s
  | .plantStored e => Sys2Proof.Machine.execPlantStored e s
  | .boundaryScanExtest e on => Sys2Proof.Machine.execBoundaryScanExtest e on s

end Sys2Proof.Machine
end

