-- ==== Sys2Proof/WellFormed.lean ====
section
/-! DEFINITION. Which commands are well formed: a request comes from one of the five paths that carry packets, with its
header fields in their widths (R546, R561), and a packet's parameters have the lengths and ranges of R553, R641 and R643;
a CAN frame is one the bus can carry (R588, R589). And the time a command brings with it. -/

namespace Sys2Proof

/-- A request's header: the origin is a port (1, 2, node 0) or a CAN controller (3 to 5, with the sending node); session
and sequence are one byte each (R546, R561). -/
def Machine.Req.wf (r : Machine.Req) : Bool :=
  decide (1 ≤ r.origin ∧ r.origin ≤ 5) && decide (r.node < 256) && (decide (3 ≤ r.origin) || r.node == 0) &&
    decide (r.session ≤ 255 ∧ r.seq ≤ 255)

/-- The data lengths of a CAN frame by DLC: classic frames carry at most 8 bytes. -/
def Machine.CanFrame.wf (f : Machine.CanFrame) : Bool :=
  decide (f.dlc ≤ 15) && decide (f.id < if f.ide then 2 ^ 29 else 2 ^ 11) && decide (f.data.length ≤ if f.fdf then 64 else 8)

/-- The operands of a command are ones its row allows. -/
def Instr.wf : Instr → Bool
  | .supplyGood _ _ => true
  | .resetRelease _ => true
  | .supplyFall _ _ _ => true
  | .vanaLow _ => true
  | .vanaGood _ => true
  | .refSettled _ => true
  | .nresetLow _ _ => true
  | .warmResetRelease _ => true
  | .crystalSupervision _ _ => true
  | .bootImageLoad _ _ _ _ _ => true
  | .gloveSelftest _ _ => true
  | .plantReproof _ => true
  | .bootEnd _ _ _ => true
  | .crystalLoss _ => true
  | .paceMeasurement _ _ => true
  | .handshakeWaitEnd _ _ _ => true
  | .sramScrub _ _ _ => true
  | .modeRequest _ r mode => r.wf && decide (mode.val ≤ 5)
  | .safeRequest _ r => r.wf
  | .modeTransitionComplete _ => true
  | .stopRampTimeout _ => true
  | .dischargeComplete _ _ => true
  | .dischargeLimitExpiry _ => true
  | .wakeCause _ _ => true
  | .rtcWrite _ r _ => r.wf
  | .rtcAlarmWrite _ r _ => r.wf
  | .rtcAlarm _ => true
  | .stoFilterExpiry _ _ => true
  | .stoDiscrepancy _ => true
  | .link60v _ _ => true
  | .safeCauseClear _ r _ => r.wf
  | .islLockoutEntry _ _ _ _ => true
  | .islLockoutRelease _ _ _ _ => true
  | .islSupplyOk _ _ => true
  | .islSeq _ _ _ => true
  | .islPowerUp _ _ => true
  | .islProfileWrite _ r _ _ _ => r.wf
  | .islBadFrame _ _ _ => true
  | .islLinkDown _ _ => true
  | .islFallbackApply _ _ => true
  | .islLinkUp _ _ => true
  | .islTrimRemeasure _ _ _ => true
  | .islandCalibration _ _ _ => true
  | .islVdsReport _ _ _ => true
  | .islEnvReport _ _ _ _ _ => true
  | .lvLockout _ _ => true
  | .lvLockoutRelease _ _ => true
  | .lvGateCheck _ _ _ => true
  | .desatDetection _ _ => true
  | .kelvinOcDetection _ _ _ => true
  | .softTurnOffEnd _ _ => true
  | .detectionReceived _ _ => true
  | .selectorSpeedRefresh _ _ _ _ => true
  | .speedStale _ _ => true
  | .activeShortHoldExpiry _ _ => true
  | .swapDtExpiry _ _ => true
  | .prestartRun _ r => r.wf
  | .prestartDone _ _ _ => true
  | .railTest _ _ _ => true
  | .timebaseStart _ _ => true
  | .shadowWrite _ r _ _ => r.wf
  | .pwmCommit _ r _ => r.wf
  | .commitDeadline _ _ _ _ => true
  | .periodBoundary _ _ _ => true
  | .tjInvalid _ _ => true
  | .gateEdge _ _ => true
  | .tripAssert _ _ _ => true
  | .latchRelease _ r _ => r.wf
  | .syncInEdge _ => true
  | .syncLost _ => true
  | .pwmForce _ r _ => r.wf
  | .adcTrigger _ _ => true
  | .adcSlotResult _ _ _ => true
  | .integratorResult _ _ _ _ => true
  | .continuousSample _ _ _ => true
  | .adcLane _ _ _ => true
  | .queueWrite _ _ => true
  | .queueAck _ r _ _ => r.wf
  | .wcmpAssert _ _ _ => true
  | .ainCalWrite _ r _ _ => r.wf
  | .refEnableWrite _ r _ => r.wf
  | .resFault _ _ _ _ => true
  | .encFault _ _ => true
  | .encZPulse _ _ => true
  | .sentMessage _ _ _ _ _ => true
  | .sentLost _ _ => true
  | .graphActivation _ _ _ _ => true
  | .qinWaitEnd _ _ => true
  | .engStore _ _ _ _ => true
  | .gwinDataRead _ r => r.wf
  | .gwinDataWrite _ r _ => r.wf
  | .apply _ r => r.wf
  | .discard _ r => r.wf
  | .engClrCounts _ r => r.wf
  | .clrTimeMax _ r => r.wf
  | .graphFlagClear _ r _ _ => r.wf
  | .fabClrCounts _ r => r.wf
  | .clrBlockMax _ r => r.wf
  | .pilotCycle _ _ _ _ _ _ _ _ => true
  | .pilotSteady _ _ => true
  | .pilotNoCycle _ => true
  | .pilotWindow _ _ _ => true
  | .pwinDataRead _ r => r.wf
  | .pwinDataWrite _ r _ => r.wf
  | .pwinReset _ r => r.wf
  | .submit _ r => r.wf
  | .proofComplete _ => true
  | .unitFailed _ => true
  | .replaced _ => true
  | .gloveCheckpoint _ _ _ _ => true
  | .journalWrite _ _ => true
  | .gloveWatchdog _ => true
  | .watchdogReset _ => true
  | .gloveCache _ _ _ => true
  | .halt _ r => r.wf
  | .gloveHaltReached _ => true
  | .step _ r _ => r.wf
  | .resume _ r => r.wf
  | .breakpointWrite _ r _ => r.wf
  | .dwinDataRead _ r => r.wf
  | .machineEnable _ r _ => r.wf
  | .machineDisable _ r _ => r.wf
  | .dirChange _ r _ _ => r.wf
  | .treqWrite _ r _ _ => r.wf
  | .treqLost _ _ => true
  | .limp _ r _ => r.wf
  | .shortBrake _ _ => true
  | .startRetry _ _ => true
  | .sensorReturn _ _ => true
  | .keWindow _ _ => true
  | .demagClear _ r _ => r.wf
  | .mapDataWrite _ r _ => r.wf
  | .mapDataRead _ r => r.wf
  | .validate _ r => r.wf
  | .mapValidateDone _ => true
  | .chopAssert _ => true
  | .chopRelease _ => true
  | .regenPermit _ => true
  | .ov1Assert _ => true
  | .ov1Release _ => true
  | .ov1HandBack _ => true
  | .ov2Assert _ => true
  | .dclUv _ _ => true
  | .uvClear _ _ => true
  | .dclSense _ _ _ => true
  | .chopTestPulse _ => true
  | .chopClear _ r => r.wf
  | .dcdcModeWrite _ r _ => r.wf
  | .start _ r => r.wf
  | .stop _ r => r.wf
  | .unlock _ r => r.wf
  | .handoverDeadline _ => true
  | .suspendExpiry _ => true
  | .tbatWrite _ r _ => r.wf
  | .chgTbat _ => true
  | .batteryNtcEval _ _ => true
  | .chgTimeout _ => true
  | .actEnable _ r _ => r.wf
  | .actDisable _ r _ => r.wf
  | .actTargetWrite _ r _ _ => r.wf
  | .brake _ r _ => r.wf
  | .ref _ r _ => r.wf
  | .hallChange _ _ _ => true
  | .inPosition _ _ => true
  | .actTimeout _ _ => true
  | .actBrakeEnd _ _ => true
  | .alignEnd _ _ => true
  | .actRampTimeout _ _ => true
  | .actStartRetry _ _ => true
  | .lifeMirror _ => true
  | .mirror _ r => r.wf
  | .mirrorComplete _ _ => true
  | .clear _ r _ => r.wf
  | .curveValidate _ r _ => r.wf
  | .lifeTwinDataRead _ r => r.wf
  | .lifeTwinDataWrite _ r _ => r.wf
  | .requestFrame _ _ _ => true
  | .fetchFrame _ _ _ => true
  | .echo _ r b => r.wf && decide (b.length ≤ 4164)
  | .regRead _ r l => r.wf && decide (1 ≤ l.length ∧ l.length ≤ 256)
  | .regWrite _ r l => r.wf && decide (1 ≤ l.length ∧ l.length ≤ 256)
  | .regReadRepeat _ r _ c => r.wf && decide (1 ≤ c.toNat ∧ c.toNat ≤ 832)
  | .regWriteRepeat _ r _ l => r.wf && decide (1 ≤ l.length ∧ l.length ≤ 832)
  | .regModify _ r l => r.wf && decide (1 ≤ l.length ∧ l.length ≤ 64)
  | .reset _ r _ => r.wf
  | .resetDelayExpiry _ => true
  | .sessionOpen _ r => r.wf
  | .sessionAuth _ r resp => r.wf && resp.length == 16
  | .sessionClose _ r => r.wf
  | .sessionTimeout _ _ => true
  | .lockoutEnd _ _ _ => true
  | .keyProgram _ r key _ => r.wf && key.length == 32
  | .queueRead _ r _ _ c => r.wf && decide (1 ≤ c.toNat ∧ c.toNat ≤ 512)
  | .auditRead _ r _ c => r.wf && decide (1 ≤ c.toNat ∧ c.toNat ≤ 128)
  | .eventRead _ r _ c => r.wf && decide (1 ≤ c.toNat ∧ c.toNat ≤ 128)
  | .auditDrain _ _ _ => true
  | .eventLogDrain _ _ => true
  | .canEnableWrite _ r _ _ => r.wf
  | .canIntegrated _ _ => true
  | .canTxStart _ _ => true
  | .canTxAttemptEnd _ _ _ _ _ => true
  | .recover _ r _ => r.wf
  | .canRecovered _ _ => true
  | .canLoad _ r _ _ _ => r.wf
  | .canTxreq _ r _ _ => r.wf
  | .canCancel _ r _ _ => r.wf
  | .txqFlush _ r _ => r.wf
  | .canRxack _ r _ _ => r.wf
  | .purge _ r => r.wf
  | .fwinDataAccess _ r _ _ => r.wf
  | .canFrameReceived _ _ f _ _ => f.wf
  | .tunnelSegment _ _ f _ _ => f.wf
  | .tunnelTimeout _ _ _ => true
  | .heartbeatSend _ => true
  | .heartbeatReceived _ _ f _ _ => f.wf
  | .partnerLost _ _ => true
  | .stoDevice _ _ => true
  | .stoWear _ _ _ _ _ => true
  | .emmcTuning _ _ _ _ => true
  | .format _ r => r.wf
  | .recEnableWrite _ r _ => r.wf
  | .recTrigger _ r => r.wf
  | .recList _ r _ c => r.wf && decide (1 ≤ c.toNat ∧ c.toNat ≤ 64)
  | .recRead _ r _ _ len => r.wf && decide (1 ≤ len.toNat ∧ len.toNat ≤ 4096)
  | .recDone _ => true
  | .updBegin _ r _ => r.wf
  | .updBlock _ r _ _ b => r.wf && b.length == 4096
  | .updCheck _ r => r.wf
  | .updChecked _ _ => true
  | .updActivate _ r => r.wf
  | .updReadyTimeout _ _ => true
  | .updSwitched _ => true
  | .updConfirm _ r => r.wf
  | .updAbort _ r => r.wf
  | .updWindowExpiry _ => true
  | .updFallback _ _ _ => true
  | .updCommitted _ _ => true
  | .pairMessageReceived _ _ => true
  | .pairLinkDown _ => true
  | .flagClear _ r _ _ => r.wf
  | .registerWrite _ r _ _ => r.wf
  | .filteredLevelChange _ _ _ => true
  | .encoderEdge _ _ _ _ => true
  | .canReceiveError _ _ _ _ => true
  | .hallCodeError _ _ => true
  | .plantStored _ => true
  | .boundaryScanExtest _ _ => true

/-- The time that has passed since the command before it, in ticks of 5 ns: the first operand of every command. -/
def Instr.elapsed : Instr → Nat
  | .supplyGood e _ => e
  | .resetRelease e => e
  | .supplyFall e _ _ => e
  | .vanaLow e => e
  | .vanaGood e => e
  | .refSettled e => e
  | .nresetLow e _ => e
  | .warmResetRelease e => e
  | .crystalSupervision e _ => e
  | .bootImageLoad e _ _ _ _ => e
  | .gloveSelftest e _ => e
  | .plantReproof e => e
  | .bootEnd e _ _ => e
  | .crystalLoss e => e
  | .paceMeasurement e _ => e
  | .handshakeWaitEnd e _ _ => e
  | .sramScrub e _ _ => e
  | .modeRequest e _ _ => e
  | .safeRequest e _ => e
  | .modeTransitionComplete e => e
  | .stopRampTimeout e => e
  | .dischargeComplete e _ => e
  | .dischargeLimitExpiry e => e
  | .wakeCause e _ => e
  | .rtcWrite e _ _ => e
  | .rtcAlarmWrite e _ _ => e
  | .rtcAlarm e => e
  | .stoFilterExpiry e _ => e
  | .stoDiscrepancy e => e
  | .link60v e _ => e
  | .safeCauseClear e _ _ => e
  | .islLockoutEntry e _ _ _ => e
  | .islLockoutRelease e _ _ _ => e
  | .islSupplyOk e _ => e
  | .islSeq e _ _ => e
  | .islPowerUp e _ => e
  | .islProfileWrite e _ _ _ _ => e
  | .islBadFrame e _ _ => e
  | .islLinkDown e _ => e
  | .islFallbackApply e _ => e
  | .islLinkUp e _ => e
  | .islTrimRemeasure e _ _ => e
  | .islandCalibration e _ _ => e
  | .islVdsReport e _ _ => e
  | .islEnvReport e _ _ _ _ => e
  | .lvLockout e _ => e
  | .lvLockoutRelease e _ => e
  | .lvGateCheck e _ _ => e
  | .desatDetection e _ => e
  | .kelvinOcDetection e _ _ => e
  | .softTurnOffEnd e _ => e
  | .detectionReceived e _ => e
  | .selectorSpeedRefresh e _ _ _ => e
  | .speedStale e _ => e
  | .activeShortHoldExpiry e _ => e
  | .swapDtExpiry e _ => e
  | .prestartRun e _ => e
  | .prestartDone e _ _ => e
  | .railTest e _ _ => e
  | .timebaseStart e _ => e
  | .shadowWrite e _ _ _ => e
  | .pwmCommit e _ _ => e
  | .commitDeadline e _ _ _ => e
  | .periodBoundary e _ _ => e
  | .tjInvalid e _ => e
  | .gateEdge e _ => e
  | .tripAssert e _ _ => e
  | .latchRelease e _ _ => e
  | .syncInEdge e => e
  | .syncLost e => e
  | .pwmForce e _ _ => e
  | .adcTrigger e _ => e
  | .adcSlotResult e _ _ => e
  | .integratorResult e _ _ _ => e
  | .continuousSample e _ _ => e
  | .adcLane e _ _ => e
  | .queueWrite e _ => e
  | .queueAck e _ _ _ => e
  | .wcmpAssert e _ _ => e
  | .ainCalWrite e _ _ _ => e
  | .refEnableWrite e _ _ => e
  | .resFault e _ _ _ => e
  | .encFault e _ => e
  | .encZPulse e _ => e
  | .sentMessage e _ _ _ _ => e
  | .sentLost e _ => e
  | .graphActivation e _ _ _ => e
  | .qinWaitEnd e _ => e
  | .engStore e _ _ _ => e
  | .gwinDataRead e _ => e
  | .gwinDataWrite e _ _ => e
  | .apply e _ => e
  | .discard e _ => e
  | .engClrCounts e _ => e
  | .clrTimeMax e _ => e
  | .graphFlagClear e _ _ _ => e
  | .fabClrCounts e _ => e
  | .clrBlockMax e _ => e
  | .pilotCycle e _ _ _ _ _ _ _ => e
  | .pilotSteady e _ => e
  | .pilotNoCycle e => e
  | .pilotWindow e _ _ => e
  | .pwinDataRead e _ => e
  | .pwinDataWrite e _ _ => e
  | .pwinReset e _ => e
  | .submit e _ => e
  | .proofComplete e => e
  | .unitFailed e => e
  | .replaced e => e
  | .gloveCheckpoint e _ _ _ => e
  | .journalWrite e _ => e
  | .gloveWatchdog e => e
  | .watchdogReset e => e
  | .gloveCache e _ _ => e
  | .halt e _ => e
  | .gloveHaltReached e => e
  | .step e _ _ => e
  | .resume e _ => e
  | .breakpointWrite e _ _ => e
  | .dwinDataRead e _ => e
  | .machineEnable e _ _ => e
  | .machineDisable e _ _ => e
  | .dirChange e _ _ _ => e
  | .treqWrite e _ _ _ => e
  | .treqLost e _ => e
  | .limp e _ _ => e
  | .shortBrake e _ => e
  | .startRetry e _ => e
  | .sensorReturn e _ => e
  | .keWindow e _ => e
  | .demagClear e _ _ => e
  | .mapDataWrite e _ _ => e
  | .mapDataRead e _ => e
  | .validate e _ => e
  | .mapValidateDone e => e
  | .chopAssert x => x.e
  | .chopRelease x => x.e
  | .regenPermit e => e
  | .ov1Assert x => x.e
  | .ov1Release x => x.e
  | .ov1HandBack e => e
  | .ov2Assert x => x.e
  | .dclUv e _ => e
  | .uvClear e _ => e
  | .dclSense e _ _ => e
  | .chopTestPulse e => e
  | .chopClear e _ => e
  | .dcdcModeWrite e _ _ => e
  | .start e _ => e
  | .stop e _ => e
  | .unlock e _ => e
  | .handoverDeadline e => e
  | .suspendExpiry e => e
  | .tbatWrite e _ _ => e
  | .chgTbat e => e
  | .batteryNtcEval e _ => e
  | .chgTimeout e => e
  | .actEnable e _ _ => e
  | .actDisable e _ _ => e
  | .actTargetWrite e _ _ _ => e
  | .brake e _ _ => e
  | .ref e _ _ => e
  | .hallChange e _ _ => e
  | .inPosition e _ => e
  | .actTimeout e _ => e
  | .actBrakeEnd e _ => e
  | .alignEnd e _ => e
  | .actRampTimeout e _ => e
  | .actStartRetry e _ => e
  | .lifeMirror e => e
  | .mirror e _ => e
  | .mirrorComplete e _ => e
  | .clear e _ _ => e
  | .curveValidate e _ _ => e
  | .lifeTwinDataRead e _ => e
  | .lifeTwinDataWrite e _ _ => e
  | .requestFrame e _ _ => e
  | .fetchFrame e _ _ => e
  | .echo e _ _ => e
  | .regRead e _ _ => e
  | .regWrite e _ _ => e
  | .regReadRepeat e _ _ _ => e
  | .regWriteRepeat e _ _ _ => e
  | .regModify e _ _ => e
  | .reset e _ _ => e
  | .resetDelayExpiry e => e
  | .sessionOpen e _ => e
  | .sessionAuth e _ _ => e
  | .sessionClose e _ => e
  | .sessionTimeout e _ => e
  | .lockoutEnd e _ _ => e
  | .keyProgram e _ _ _ => e
  | .queueRead e _ _ _ _ => e
  | .auditRead e _ _ _ => e
  | .eventRead e _ _ _ => e
  | .auditDrain e _ _ => e
  | .eventLogDrain e _ => e
  | .canEnableWrite e _ _ _ => e
  | .canIntegrated e _ => e
  | .canTxStart e _ => e
  | .canTxAttemptEnd e _ _ _ _ => e
  | .recover e _ _ => e
  | .canRecovered e _ => e
  | .canLoad e _ _ _ _ => e
  | .canTxreq e _ _ _ => e
  | .canCancel e _ _ _ => e
  | .txqFlush e _ _ => e
  | .canRxack e _ _ _ => e
  | .purge e _ => e
  | .fwinDataAccess e _ _ _ => e
  | .canFrameReceived e _ _ _ _ => e
  | .tunnelSegment e _ _ _ _ => e
  | .tunnelTimeout e _ _ => e
  | .heartbeatSend e => e
  | .heartbeatReceived e _ _ _ _ => e
  | .partnerLost e _ => e
  | .stoDevice e _ => e
  | .stoWear e _ _ _ _ => e
  | .emmcTuning e _ _ _ => e
  | .format e _ => e
  | .recEnableWrite e _ _ => e
  | .recTrigger e _ => e
  | .recList e _ _ _ => e
  | .recRead e _ _ _ _ => e
  | .recDone e => e
  | .updBegin e _ _ => e
  | .updBlock e _ _ _ _ => e
  | .updCheck e _ => e
  | .updChecked e _ => e
  | .updActivate e _ => e
  | .updReadyTimeout e _ => e
  | .updSwitched e => e
  | .updConfirm e _ => e
  | .updAbort e _ => e
  | .updWindowExpiry e => e
  | .updFallback e _ _ => e
  | .updCommitted e _ => e
  | .pairMessageReceived e _ => e
  | .pairLinkDown e => e
  | .flagClear e _ _ _ => e
  | .registerWrite e _ _ _ => e
  | .filteredLevelChange e _ _ => e
  | .encoderEdge e _ _ _ => e
  | .canReceiveError e _ _ _ => e
  | .hallCodeError e _ => e
  | .plantStored e => e
  | .boundaryScanExtest e _ => e

end Sys2Proof
end

