-- ==== Sys2Proof/Safety.lean ====
section
/-! DEFINITION. The terms in which claims about the block are stated: what a command answers, what it leaves as it was, what
it logs, and the invariant that every command keeps. -/

namespace Sys2Proof.Machine

/-- The command answers a next state, and the next state has the property. -/
def Answers (c : Instr) (s : State) (P : State → Prop) : Prop := ∃ t, exec c s = .next t ∧ P t

/-- The registers of the event log and what a logged event sets beside it (R633, R637, R585): every command that raises an
event may write them. -/
def logRegs : List Nat := [R.LOG_EVENT_NEXT, R.LOG_EVENT_STAT, R.CMD_IRQ_STAT, R.STO_FLAGS, R.STO_REC_STAT]

/-- Every register but those listed reads as before. -/
def OnlyRegs (l : List Nat) (s t : State) : Prop := ∀ i, i ∉ l → t.reg i = s.reg i

/-- One field of a register is given a value, every other bit of it stays. -/
def FldSet (i : Nat) (f : Fld) (x : Nat) (s t : State) : Prop := t.reg i = f.set (s.reg i) x

/-- Nothing but time and registers differs. -/
def RegsOnly (s t : State) : Prop := t = { s with el := t.el, dt := t.dt, regs := t.regs }

/-- Nothing but time, registers, the event log and the recorder differs. -/
def LogsOnly (s t : State) : Prop := t = { s with el := t.el, dt := t.dt, regs := t.regs, ev := t.ev, rcd := t.rcd }

/-- Time passes by e ticks: on the outside clock always, as device time while D0 runs (R10, R25). -/
def Passes (e : Nat) (s t : State) : Prop := t.el = s.el + e ∧ t.dt = if s.d0 then s.dt + e else s.dt

/-- An event of the code, about the subject, is logged (R632). -/
def Logs (code subj : Nat) (s t : State) : Prop :=
  ∃ x ∈ t.ev.buf.drop s.ev.buf.length, x.code = code ∧ x.subject = subj

/-- Crossing FIFO k takes one entry more, for queue q, and the entry has the property (R236). -/
def Pushes (k q : Nat) (s t : State) (P : QEnt → Prop) : Prop :=
  ∃ x, (t.xfOf k).ents = (s.xfOf k).ents ++ [[(q, x)]] ∧ P x

/-- Every register of the DEV group but those listed reads as before. -/
def DevOnly (l : List Nat) (s t : State) : Prop := ∀ i < 0x40, i ∉ l → t.reg i = s.reg i

/-- A failure of the kind, of the unit numbered, is reported to the placer now (R347). -/
def Reports (kind index : Nat) (s t : State) : Prop :=
  ∃ f, t.plc.fails = s.plc.fails ++ [f] ∧ f.kind = kind ∧ f.index = index ∧ f.stamp = t.dt

/-- An entry to SAFE for some causes (R76, R77), from any mode but STANDBY: the causes are recorded; outside the boot
sequence the mode is SAFE after it; and an entry that begins here drives `nFAULT`, drops every held request and ends a
transition in progress. -/
structure EntersSafe (c : Nat) (s t : State) : Prop where
  cause : t.fld R.DEV_SAFE_CAUSE ⟨11, 0⟩ = (s.fld R.DEV_SAFE_CAUSE ⟨11, 0⟩ ||| c) % 4096
  mode : s.mode ≠ Mode.boot → t.mode = Mode.safe
  driven : s.mode ≠ Mode.boot → s.mode ≠ Mode.safe → t.nfault = true
  dropped : s.mode ≠ Mode.boot → s.mode ≠ Mode.safe → t.heldMode = none ∧ t.heldFn = [] ∧ t.trans = none

/-! ### Requests of the hosts (chapter 16) -/

/-- The port of an origin takes a request and executes it within the command (R543 to R545, R549, R552): boot has ended
with a good image, the request comes by one of the five paths, its port holds no other and has room, its sequence number
is not that of the last request executed, the glove pair keeps no output back (R519, R534), and it names no session or a privileged one
open to its sender. -/
abbrev Takes (r : Req) (s : State) : Prop :=
  s.boot.phase = .run ∧ s.boot.imageBad = false ∧ (1 ≤ r.origin ∧ r.origin ≤ 5 ∧ r.node < 256) ∧
  (s.portOf (pathKey r)).waiting = [] ∧ (s.portOf (pathKey r)).held = false ∧ heldCount s (pathKey r) < 16 ∧
  ((AMap.get? s.lastReq (pathKey r)).all fun l => l.seq != r.seq) = true ∧
  outputsKept s = false ∧ (r.session = 0 ∨ privileged s r = true)

/-- The registers that the taking, auditing and answering of a request may write (R541, R580). -/
def portRegs : List Nat :=
  [R.CMD_PORT_STAT 0, R.CMD_PORT_STAT 1, R.CMD_AUDIT_NEXT, R.CMD_AUDIT_STAT, R.CMD_FLAGS]

/-- Beside the fields that carry a request, its audit entry and its reply, nothing differs but the registers listed. -/
def Answered (l : List Nat) (s t : State) : Prop :=
  t = { s with el := t.el, dt := t.dt, regs := t.regs, ports := t.ports, lastReq := t.lastReq, sessions := t.sessions
               audit := t.audit, can := t.can } ∧
  OnlyRegs (portRegs ++ l) s t

/-- A request of the opcode has its reply (R542, R546, R547): its port holds it no more, and on a command port the reply
stands last among those to be fetched, unless it is a quiet OK. -/
def Replied (r : Req) (code st : Nat) (payload : List Byte) (s t : State) : Prop :=
  (t.portOf (pathKey r)).waiting = [] ∧ (t.portOf (pathKey r)).held = false ∧
  (r.origin ≤ 2 → (t.portOf (pathKey r)).replies = (s.portOf (pathKey r)).replies ++
    (if r.quiet && st == St.ok then [] else [replyBytes { req := r, code := code } ⟨st, payload⟩]))

/-- A request of the sender is entered in the audit log, with its kind and index (R578, R583). -/
def Audits (r : Req) (kind index : Nat) (s t : State) : Prop :=
  ∃ x ∈ t.audit.buf.drop s.audit.buf.length,
    x.kind = kind ∧ x.index = index ∧ x.origin = r.origin ∧ x.node = r.node ∧ x.session = r.session

/-- The event log takes an event now: D0 runs, the part is not held in reset, and the buffer has room (R633). -/
abbrev LogReady (s : State) : Prop := s.logs = true ∧ s.ev.buf.length < 16383

/-- The invariant: every sparse store of the state is in its canonical form, the two log buffers stay within their sizes
(R580, R633), and at most four sessions exist (R563). -/
structure State.Inv (s : State) : Prop where
  regs : AMap.wf resetReg s.regs = true
  isl : AMap.wf (fun _ => ({} : Isl)) s.isl = true
  sel : AMap.wf (fun _ => ({} : Sel)) s.sel = true
  conv : AMap.wf (fun _ => ({} : Conv)) s.conv = true
  unit : AMap.wf (fun _ => ({} : Unit)) s.unit = true
  tb : AMap.wf (fun _ => ({} : Tb)) s.tb = true
  events : s.ev.buf.length ≤ 16384
  audit : s.audit.buf.length ≤ 16384
  order : AMap.rising 0 s.sessions = true
  four : s.sessions.length ≤ 4

end Sys2Proof.Machine
end

