-- ==== Sys2Proof/Certificates/Slice0/Obligations.lean ====
section
/-! DEFINITION. The statements for the provers: the spec's rules about what each command does, what it leaves as it was, and
what every step keeps. -/

open Sys2Proof Sys2Proof.Machine

/-! ### Resets and the cold start -/

/-- The cold reset and the cold start's first steps (R48, R50, R60): a fall of a core supply holds the part in a cold
reset: the boot sequence waits at its beginning with DT at 0, the mode is BOOT, `nFAULT` is driven, and nothing of the
sessions, the plant, the ports and the gloves is left, while OTP and the gates' trip inputs stay; both supplies good
start the wait; its end, 1.94 ms at the least after it began (the model's choice within R50's oscillator, assumption
21), starts the crystal's supervision with DT at 0. -/
def Obligations.ColdStartBegins : Prop :=
  (∀ (e : Nat) (below : Bool) (s : State), s.boot.phase = .off →
     Answers (.supplyGood e below) s fun t =>
       t.boot.phase = .wait ∧ t.boot.since = s.el + e ∧
       t.bit R.DEV_SUPPLY F.DEV_SUPPLY.VCORE_OK = true ∧ t.bit R.DEV_SUPPLY F.DEV_SUPPLY.VIO_OK = true ∧
       t.reg R.DEV_RST_CAUSE = BitVec.ofNat 40 (if s.boot.powerOn || below then 1
       else 2 * b2n s.boot.vcoreFell + 4 * b2n s.boot.vioFell) ∧
       t = { s with el := t.el, boot := t.boot, regs := t.regs } ∧ OnlyRegs [R.DEV_SUPPLY, R.DEV_RST_CAUSE] s t) ∧
  (∀ (e : Nat) (s : State), s.boot.phase = .wait →
     Answers (.resetRelease e) s fun t =>
       t.boot.phase = .clock ∧ t.el = max (s.el + e) (s.boot.since + 388000) ∧ t.dt = 0 ∧ t.mode = Mode.boot ∧
       t.nfault = true ∧ t.key = s.key) ∧
  (∀ (e : Nat) (vcore vio : Bool) (s : State), (vcore || vio) = true →
     Answers (.supplyFall e vcore vio) s fun t =>
       t.boot.phase = .off ∧ t.boot.kind = .cold ∧ t.dt = 0 ∧ t.mode = Mode.boot ∧ t.nfault = true ∧
       t.bit R.DEV_SUPPLY F.DEV_SUPPLY.VCORE_OK = (s.bit R.DEV_SUPPLY F.DEV_SUPPLY.VCORE_OK && !vcore) ∧
       t.bit R.DEV_SUPPLY F.DEV_SUPPLY.VIO_OK = (s.bit R.DEV_SUPPLY F.DEV_SUPPLY.VIO_OK && !vio) ∧
       t.sessions = [] ∧ t.plant = none ∧ t.trans = none ∧ t.ports = [] ∧ t.glove = {} ∧
       t.key = s.key ∧ t.trips = s.trips ∧ t.el = s.el + e)

/-- A warm reset (R58, R59, R698, R559, R524): asserted by a low `nRESET` of 1 µs or more, by the software reset and by
the glove watchdog, each under its own cause bit; a low level under 200 ns asserts none, and between the two it is open
which (a free value). Sessions end and the mode is BOOT; the release starts the crystal's supervision. RESET is accepted
in READY, SERVICE and SAFE, the reset being due 1 ms after its reply enters the reply queue, answered WRONG_MODE
elsewhere and BAD_PARAM with another guard byte (R559), and to an unprivileged sender ACCESS_DENIED. -/
def Obligations.WarmResetHoldsAndReleases : Prop :=
  (∀ (e ns : Nat) (s : State), 1000 ≤ ns → s.boot.phase ≠ .off → s.boot.phase ≠ .wait → s.boot.phase ≠ .held →
     Answers (.nresetLow e ns) s fun t =>
       t.boot.phase = .held ∧ t.boot.kind = .warm ∧ t.boot.pinLow = true ∧ t.mode = Mode.boot ∧ t.nfault = true ∧
       t.bit R.DEV_RST_CAUSE F.DEV_RST_CAUSE.PIN = true ∧ t.sessions = [] ∧ t.key = s.key ∧ t.dtHi = s.dtHi) ∧
  (∀ (e ns : Nat) (s : State), ns < 200 →
     Answers (.nresetLow e ns) s fun t =>
       t = s.tick e) ∧
  (∀ (e ns : Nat) (s : State), 200 ≤ ns → ns < 1000 →
     Answers (.nresetLow e ns) s fun t =>
       t = { s.tick e with free := s.free + 1 } ∨ t.boot.phase = .held) ∧
  (∀ (e d : Nat) (s : State), s.boot.resetDue = some d → s.boot.phase ≠ .off → s.boot.phase ≠ .wait →
     Answers (.resetDelayExpiry e) s fun t =>
       t.boot.phase = .held ∧ t.boot.kind = .warm ∧ t.boot.pinLow = false ∧ t.boot.resetDue = none ∧
       t.mode = Mode.boot ∧
       t.nfault = true ∧ t.bit R.DEV_RST_CAUSE F.DEV_RST_CAUSE.SOFTWARE = true ∧ t.sessions = [] ∧ t.key = s.key) ∧
  (∀ (e d : Nat) (s : State), s.glove.wdDue = some d →
     Answers (.watchdogReset e) s fun t =>
       t.boot.phase = .held ∧ t.boot.kind = .warm ∧ t.boot.pinLow = false ∧ t.mode = Mode.boot ∧ t.nfault = true ∧
       t.bit R.DEV_RST_CAUSE F.DEV_RST_CAUSE.WATCHDOG = true ∧ t.glove = {} ∧ t.sessions = [] ∧ t.key = s.key) ∧
  (∀ (e : Nat) (s : State), s.boot.phase = .held →
     Answers (.warmResetRelease e) s fun t =>
       t.boot.phase = .clock ∧ t.boot.pinLow = false ∧
       t.el = (if s.boot.pinLow then s.el + e else max (s.el + e) (s.boot.since + 2000)) ∧
       t = { s with el := t.el, dt := t.dt, boot := t.boot }) ∧
  (∀ (e : Nat) (r : Req) (s : State), Takes r s → privileged s r = true → (s.mode = Mode.ready ∨ s.mode = Mode.service
     ∨ s.mode = Mode.safe) →
     Answers (.reset e r 0x5A) s fun t =>
       t.boot = { s.boot with resetDue := some (t.dt + 200000) } ∧ Replied r 0x22 St.ok [] s t ∧
       Answered [] s { t with boot := s.boot }) ∧
  (∀ (e : Nat) (r : Req) (s : State), Takes r s → privileged s r = false →
     Answers (.reset e r 0x5A) s fun t =>
       Replied r 0x22 St.denied [] s t ∧ Answered [] s t) ∧
  (∀ (e : Nat) (r : Req) (g : BitVec 8) (s : State), Takes r s → privileged s r = true → s.mode ≠ Mode.ready → s.mode
     ≠ Mode.service → s.mode ≠ Mode.safe → g = 0x5A#8 →
     Answers (.reset e r g) s fun t =>
       Replied r 0x22 St.wrongMode [] s t ∧ Answered [] s t) ∧
  (∀ (e : Nat) (r : Req) (g : BitVec 8) (s : State), Takes r s → privileged s r = true → (s.mode = Mode.ready ∨ s.mode
     = Mode.service ∨ s.mode = Mode.safe) → g ≠ 0x5A#8 →
     Answers (.reset e r g) s fun t =>
       Replied r 0x22 St.badParam [] s t ∧ Answered [] s t)

/-- The crystal (R25, R30, R51): good, step 3 ends with the PLL locked on it; bad or lost, the reference falls back with
XTAL_LOST and the SAFE cause CLOCK; DT goes on over a stop by its complete D7 periods, counted from the instant of entry
to STANDBY (the model's choice, assumption 81). -/
def Obligations.CrystalSupervised : Prop :=
  (∀ (e : Nat) (s : State), s.boot.phase = .clock →
     Answers (.crystalSupervision e true) s fun t =>
       t.boot.phase = .image ∧ t.bit R.DEV_CLK_STAT F.DEV_CLK_STAT.XTAL_OK = true ∧
       t.bit R.DEV_CLK_STAT F.DEV_CLK_STAT.PLL_LOCK = true ∧ t.bit R.DEV_CLK_STAT F.DEV_CLK_STAT.FALLBACK = false ∧
       t.dt = (match s.boot.stopAt with
       | none => (s.tick e).dt
       | some u => (s.tick e).dt + (s.el + e - u) * 32768 / 200000000 * 390625 / 64) ∧
       t = { s with el := t.el, dt := t.dt, boot := t.boot, regs := t.regs } ∧
       OnlyRegs [R.DEV_CLK_STAT, R.FAB_PACE] s t) ∧
  (∀ (e : Nat) (s : State), s.boot.phase = .clock → s.mode ≠ Mode.standby →
     Answers (.crystalSupervision e false) s fun t =>
       t.boot.phase = .image ∧ t.bit R.DEV_CLK_STAT F.DEV_CLK_STAT.XTAL_OK = false ∧
       t.bit R.DEV_CLK_STAT F.DEV_CLK_STAT.FALLBACK = true ∧ (s.bit R.DEV_CLK_STAT F.DEV_CLK_STAT.FALLBACK = false →
         t.bit R.DEV_CLK_STAT F.DEV_CLK_STAT.XTAL_LOST = true) ∧ EntersSafe Cause.clock s t) ∧
  (∀ (e : Nat) (s : State), s.logs = true → s.boot.phase ≠ .clock → s.bit R.DEV_CLK_STAT F.DEV_CLK_STAT.FALLBACK =
     false → s.mode ≠ Mode.standby →
     Answers (.crystalLoss e) s fun t =>
       t.bit R.DEV_CLK_STAT F.DEV_CLK_STAT.XTAL_OK = false ∧ t.bit R.DEV_CLK_STAT F.DEV_CLK_STAT.FALLBACK = true ∧
       t.bit R.DEV_CLK_STAT F.DEV_CLK_STAT.XTAL_LOST = true ∧ EntersSafe Cause.clock s t ∧
       (LogReady s → Logs EV.CLOCK_FALLBACK 0xFF s t))

/-- Steps 4 and 5 (R52, R524, R530, R651): the image's checks decide BOOT_FAIL, and the cores' self-test decides whether
the pair starts clean, both cores running from the next whole interval; a failed self-test is logged and is a SAFE
cause. -/
def Obligations.ImageAndSelftest : Prop :=
  (∀ (e : Nat) (d0 d1 : Option EmmcInfo) (life : Bool) (s : State), s.boot.phase = .image →
     Answers (.bootImageLoad e d0 d1 false life) s fun t =>
       t.boot.phase = .selftest ∧ t.boot.imageBad = true ∧ t.bit R.DEV_MODE F.DEV_MODE.BOOT_FAIL = true) ∧
  (∀ (e : Nat) (d0 d1 : Option EmmcInfo) (life : Bool) (s : State), s.boot.phase = .image → imageGood (bootDevices d0
     d1 (s.tick e)) true = true →
     Answers (.bootImageLoad e d0 d1 true life) s fun t =>
       t.boot.phase = .selftest ∧ t.boot.imageBad = false ∧ t.reg R.DEV_MODE = s.reg R.DEV_MODE) ∧
  (∀ (e : Nat) (s : State), s.boot.phase = .selftest →
     Answers (.gloveSelftest e true) s fun t =>
       t.boot.phase = .plant ∧ t.bit R.GLV_STAT F.GLV_STAT.SELFTEST_OK = true ∧ t.glove.on = true ∧
       t.glove.testBad = false ∧
       t.glove.next = t.dt / 10000 + 1 ∧
       t = { s with el := t.el, dt := t.dt, boot := t.boot, glove := t.glove, regs := t.regs } ∧
       OnlyRegs [R.GLV_STAT] s t) ∧
  (∀ (e : Nat) (s : State), s.boot.phase = .selftest → s.mode = Mode.boot → LogReady s →
     Answers (.gloveSelftest e false) s fun t =>
       t.boot.phase = .plant ∧ t.glove.on = true ∧ t.glove.testBad = true ∧ t.glove.next = t.dt / 10000 + 1 ∧
       Logs EV.GLOVE_SELFTEST 0xFF s t ∧
       EntersSafe Cause.glove s t)

/-- Step 8 (R41, R65): boot ends with the filtered STO levels; with both high, no SAFE cause standing, a cold start, no
island's link up and the analogue supply good, the module stands in READY with `nFAULT` released; with an STO level low
it stands in SAFE. -/
def Obligations.BootEnds : Prop :=
  (∀ (e : Nat) (a b : Bool) (s : State), s.boot.phase = .links → (a && b) = false →
     Answers (.bootEnd e a b) s fun t =>
       t.boot.phase = .run ∧ t.mode = Mode.safe ∧ t.nfault = true ∧
       t.bit R.DEV_STO_STAT F.DEV_STO_STAT.STO_A = a ∧ t.bit R.DEV_STO_STAT F.DEV_STO_STAT.STO_B = b) ∧
  (∀ (e : Nat) (s : State), s.boot.phase = .links → s.boot.kind = .cold → s.plant = none → (∀ n : Fin 48, linkUp s n =
     false) → (∀ n : Fin 48, s.bit (R.ISL_STAT n) F.ISL_STAT.VDD_OK = false) → s.bit R.DEV_SUPPLY F.DEV_SUPPLY.VANA_OK
     = true → s.fld R.DEV_SAFE_CAUSE ⟨11, 0⟩ = 0 → s.discharging = false →
     Answers (.bootEnd e true true) s fun t =>
       t.boot.phase = .run ∧ t.mode = Mode.ready ∧ t.nfault = false ∧
       t.bit R.DEV_STO_STAT F.DEV_STO_STAT.STO_A = true ∧ t.bit R.DEV_STO_STAT F.DEV_STO_STAT.STO_B = true)

/-- Wake and the alarm (R64, R67): an enabled source wakes the part from STANDBY into the boot sequence with its cause
and time in the FIFO of four, where a fifth is discarded; the alarm second clears EN, and wakes the part where that
source is enabled. -/
def Obligations.WakeAndAlarm : Prop :=
  (∀ (e : Nat) (c : Fin 7) (s : State), s.boot.phase = .standby → (s.reg R.DEV_WAKE_CFG).toNat.testBit c = true →
     s.boot.wakes.length < 4 →
     Answers (.wakeCause e c) s fun t =>
       t.boot.phase = .clock ∧ t.boot.kind = .wake ∧ t.boot.wakes = s.boot.wakes ++ [(c.val, (s.tick e).rtc)] ∧
       t.mode = Mode.boot ∧ t.nfault = true ∧ t.dt = s.dt) ∧
  (∀ (e : Nat) (c : Fin 7) (s : State), s.boot.phase = .standby → (s.reg R.DEV_WAKE_CFG).toNat.testBit c = true → 4 ≤
     s.boot.wakes.length →
     Answers (.wakeCause e c) s fun t =>
       t.boot.phase = .clock ∧ t.boot.kind = .wake ∧ t.boot.wakes = s.boot.wakes ∧
       t.fld R.FAB_XFIFO_OVF F.FAB_XFIFO_OVF.LAST_ID = 13 ∧
       t.bit R.FAB_FLAGS F.FAB_FLAGS.XFIFO_OVF = true ∧ t.mode = Mode.boot ∧ t.nfault = true) ∧
  (∀ (e : Nat) (s : State), s.bit R.DEV_RTC_ALARM F.DEV_RTC_ALARM.EN = true → s.boot.rtcSec ≤ s.fld R.DEV_RTC_ALARM
     F.DEV_RTC_ALARM.SEC → s.boot.phase ≠ .standby →
     Answers (.rtcAlarm e) s fun t =>
       t.bit R.DEV_RTC_ALARM F.DEV_RTC_ALARM.EN = false ∧
       t.el = max (s.el + e) (rtcTick (s.tick e) (s.fld R.DEV_RTC_ALARM F.DEV_RTC_ALARM.SEC)) ∧
       RegsOnly s t ∧ OnlyRegs [R.DEV_RTC_ALARM] s t) ∧
  (∀ (e : Nat) (s : State), s.bit R.DEV_RTC_ALARM F.DEV_RTC_ALARM.EN = true → s.boot.rtcSec ≤ s.fld R.DEV_RTC_ALARM
     F.DEV_RTC_ALARM.SEC → s.boot.phase = .standby → (s.reg R.DEV_WAKE_CFG).toNat.testBit 6 = true →
     Answers (.rtcAlarm e) s fun t =>
       t.boot.phase = .clock ∧ t.boot.kind = .wake ∧ t.mode = Mode.boot ∧
       t.bit R.DEV_RTC_ALARM F.DEV_RTC_ALARM.EN = false)

/-! ### The interior -/

/-- The interior's own readings (R18, R22, R32, R33, R661): the pace, with its low flag and one event an unbroken run
below 256; the longest blocking of each level; a word corrected is counted and one beyond correction flagged, wherever
it lies, and in the storage manager's buffers with no mirror in progress that is all but for a plant description then no
longer being stored; in the gloves' store it enters SAFE (under the cause GLOVE, the model's choice, assumption 97);
EXTEST is entered with the gates of LG00 to LG17 off, and left. -/
def Obligations.InteriorReports : Prop :=
  (∀ (e : Nat) (p : BitVec 16) (s : State), s.logs = true → p.toNat < 256 →
     Answers (.paceMeasurement e p) s fun t =>
       t.fld R.FAB_PACE F.FAB_PACE.PACE = p.toNat ∧ t.bit R.FAB_FLAGS F.FAB_FLAGS.PACE_LOW = true ∧
       t.boot.paceRun = true ∧
       OnlyRegs (logRegs ++ [R.FAB_PACE, R.FAB_FLAGS]) s t ∧
       t = { s with el := t.el, dt := t.dt, boot := t.boot, regs := t.regs, ev := t.ev, rcd := t.rcd } ∧
       (s.boot.paceRun = false → LogReady s → Logs EV.PACE_LOW 0xFF s t) ∧ (s.boot.paceRun = true → t.ev = s.ev)) ∧
  (∀ (e : Nat) (p : BitVec 16) (s : State), s.logs = true → 256 ≤ p.toNat →
     Answers (.paceMeasurement e p) s fun t =>
       t.fld R.FAB_PACE F.FAB_PACE.PACE = p.toNat ∧ t.boot.paceRun = false ∧ OnlyRegs [R.FAB_PACE] s t ∧
       t = { s with el := t.el, dt := t.dt, boot := t.boot, regs := t.regs }) ∧
  (∀ (e : Nat) (l : Fin 5) (n : Nat) (s : State),
     Answers (.handshakeWaitEnd e l n) s fun t =>
       t.fld (R.FAB_BLOCK_MAX l) F.FAB_BLOCK_MAX.MAX =
         max (s.fld (R.FAB_BLOCK_MAX l) F.FAB_BLOCK_MAX.MAX) (min n (2 ^ 32 - 1)) ∧
       RegsOnly s t ∧ OnlyRegs [R.FAB_BLOCK_MAX l] s t) ∧
  (∀ (e : Nat) (w : BitVec 22) (s : State), s.logs = true →
     Answers (.sramScrub e w 1) s fun t =>
       t.fld R.FAB_ECC F.FAB_ECC.LAST_WORD = w.toNat ∧ t.bit R.FAB_ECC F.FAB_ECC.LAST_FATAL = false ∧
       t.fld R.FAB_ECC F.FAB_ECC.CORR_COUNT =
         satInc F.FAB_ECC.CORR_COUNT.width (s.fld R.FAB_ECC F.FAB_ECC.CORR_COUNT) 1 ∧
       t.bit R.FAB_FLAGS F.FAB_FLAGS.ECC_CORR = true ∧ RegsOnly s t ∧ OnlyRegs [R.FAB_ECC, R.FAB_FLAGS] s t) ∧
  (∀ (e : Nat) (w : BitVec 22) (s : State), s.logs = true →
     Answers (.sramScrub e w 2) s fun t =>
       t.fld R.FAB_ECC F.FAB_ECC.LAST_WORD = w.toNat ∧ t.bit R.FAB_ECC F.FAB_ECC.LAST_FATAL = true ∧
       t.bit R.FAB_FLAGS F.FAB_FLAGS.ECC_FATAL = true ∧ t.fld R.FAB_ECC F.FAB_ECC.CORR_COUNT =
         s.fld R.FAB_ECC F.FAB_ECC.CORR_COUNT) ∧
  (∀ (e : Nat) (w : BitVec 22) (s : State), s.logs = true → s.life.pend = none → 0x1200000 ≤ 8 * w.toNat → 8 * w.toNat
     < 0x1400000 →
     Answers (.sramScrub e w 2) s fun t =>
       (LogReady s → Logs EV.ECC_FATAL 0xFF s t) ∧ t.plc = { s.plc with storing := false } ∧
       LogsOnly s { t with plc := s.plc } ∧
       OnlyRegs (logRegs ++ [R.FAB_ECC, R.FAB_FLAGS]) s t) ∧
  (∀ (e : Nat) (w : BitVec 22) (s : State), s.logs = true → s.mode ≠ Mode.standby → 0xC00000 ≤ 8 * w.toNat → 8 *
     w.toNat < 0x1000000 →
     Answers (.sramScrub e w 2) s fun t =>
       EntersSafe Cause.glove s t) ∧
  (∀ (e : Nat) (w : BitVec 22) (s : State),
     Answers (.sramScrub e w 0) s fun t =>
       t = s.tick e) ∧
  (∀ (e : Nat) (s : State),
     Answers (.boundaryScanExtest e true) s fun t =>
       t.extest = true ∧ t.fld R.ACT_LV_STAT F.ACT_LV_STAT.GATE = 0 ∧ OnlyRegs [R.ACT_LV_STAT] s t ∧
       t = { s with el := t.el, dt := t.dt, extest := true, regs := t.regs }) ∧
  (∀ (e : Nat) (s : State),
     Answers (.boundaryScanExtest e false) s fun t =>
       t = { s.tick e with extest := false })

/-! ### Modes -/

/-- Transitions complete (R46, R77, R79): from READY into DRIVE, CHARGE or SERVICE, from SAFE into READY with `nFAULT`
released; the mode's registers name it, no transition is left, and EV_MODE is logged. -/
def Obligations.TransitionsComplete : Prop :=
  (∀ (e : Nat) (x : Trans) (m : Nat) (s : State), s.trans = some x → x.stop = false → x.disch = false → s.mode =
     Mode.ready → s.fld R.DEV_MODE F.DEV_MODE.TARGET = m → (m = Mode.drive ∨ m = Mode.charge ∨ m = Mode.service ∧
     s.service ≠ 0) → s.heldMode = none → s.heldFn = [] → s.discharging = false →
     Answers (.modeTransitionComplete e) s fun t =>
       t.mode = m ∧ t.trans = none ∧ t.bit R.DEV_MODE F.DEV_MODE.TRANSIT = false ∧
       t.fld R.DEV_MODE F.DEV_MODE.TARGET = m ∧ (LogReady s → Logs EV.MODE 0xFF s t)) ∧
  (∀ (e : Nat) (x : Trans) (s : State), s.trans = some x → x.stop = false → x.disch = false → s.mode = Mode.safe →
     s.fld R.DEV_MODE F.DEV_MODE.TARGET = Mode.ready → s.heldMode = none → s.heldFn = [] → s.discharging = false →
     Answers (.modeTransitionComplete e) s fun t =>
       t.mode = Mode.ready ∧ t.trans = none ∧ t.bit R.DEV_MODE F.DEV_MODE.TRANSIT = false ∧
       t.fld R.DEV_MODE F.DEV_MODE.TARGET = Mode.ready ∧ t.nfault = false ∧ t.lvEnd = none ∧ (LogReady s →
         Logs EV.MODE 0xFF s t))

/-- STANDBY (R40, R70, R497): the transition from READY completes with the mirror written, and a discharge completes it
when the link has come below 60 V; D0 stops. With the mirror still being written the discharge's end alone is noted. -/
def Obligations.StandbyIsEntered : Prop :=
  (∀ (e : Nat) (x : Trans) (s : State), s.trans = some x → x.stop = false → x.disch = false → s.mode = Mode.ready →
     s.fld R.DEV_MODE F.DEV_MODE.TARGET = Mode.standby → s.life.pend = none → s.discharging = false →
     Answers (.modeTransitionComplete e) s fun t =>
       t.mode = Mode.standby ∧ t.boot.phase = .standby ∧ t.boot.stopAt = some t.el ∧ t.trans = none ∧
       t.heldMode = none ∧ t.heldFn = []) ∧
  (∀ (e : Nat) (x : Trans) (vl : BitVec 13) (s : State), s.trans = some x → x.stop = false → x.disch = true → s.mode =
     Mode.ready → s.fld R.DEV_MODE F.DEV_MODE.TARGET = Mode.standby → s.life.pend = none → vl.toNat < 120 →
     Answers (.dischargeComplete e vl) s fun t =>
       t.mode = Mode.standby ∧ t.boot.phase = .standby ∧ t.discharging = false ∧ t.trans = none) ∧
  (∀ (e : Nat) (x : Trans) (vl : BitVec 13) (s : State), s.trans = some x → x.disch = true → s.life.pend.isSome = true
     → vl.toNat < 120 →
     Answers (.dischargeComplete e vl) s fun t =>
       t.trans = some { x with disch := false } ∧ t.discharging = false ∧ t.reg R.DEV_MODE = s.reg R.DEV_MODE ∧
       vlink t = vl.toNat)

/-- Too long (R69, R72): 2 × RAMP after an orderly stop began the stages still on are forced off at their next boundary,
where a machine whose speed is unknown takes the module to SAFE; at its limit a discharge of a link at 60 V or more
stops, the transition is given up and EV_DISCHARGE_SLOW is logged. -/
def Obligations.StopsAndDischargesRunOut : Prop :=
  (∀ (e : Nat) (x : Trans) (s : State), s.trans = some x → x.stop = true → x.forced = false → stopDone s = false →
     Answers (.stopRampTimeout e) s fun t =>
       t.trans = some { x with forced := true } ∧ t = { s with el := t.el, dt := t.dt, trans := t.trans }) ∧
  (∀ (e : Nat) (j : Fin 6) (vl : BitVec 13) (x : Trans) (m : Fin 2) (c : Nat) (s : State), s.trans = some x → x.stop =
     true → x.forced = true → (s.tbOf j).run = true → (s.tbOf j).ready = true → machConv s m = some c → tbOfConv s c =
     j.val → c ∈ convsOfTb s j → convOn s c = true → s.fld (R.PROT_SS_SPEED m) F.PROT_SS_SPEED.SRC = 0 → s.mode ≠
     Mode.standby → s.mode ≠ Mode.boot →
     Answers (.periodBoundary e j vl) s fun t =>
       t.mode = Mode.safe ∧ bitN (t.fld R.DEV_SAFE_CAUSE ⟨11, 0⟩) 4 = true) ∧
  (∀ (e : Nat) (x : Trans) (s : State), s.trans = some x → x.disch = true → 120 ≤ vlink s → s.heldMode = none →
     s.heldFn = [] →
     Answers (.dischargeLimitExpiry e) s fun t =>
       t.trans = none ∧ t.discharging = false ∧ t.mode = s.mode ∧ t.bit R.DEV_MODE F.DEV_MODE.TRANSIT = false ∧
       t.fld R.DEV_MODE F.DEV_MODE.TARGET = Mode.ready ∧ (LogReady s → Logs EV.DISCHARGE_SLOW 0xFF s t)) ∧
  (∀ (e : Nat) (x : Trans) (s : State), s.trans = some x → x.disch = true → vlink s < 120 →
     Answers (.dischargeLimitExpiry e) s fun t =>
       t = { s with el := t.el, dt := t.dt })

/-- STO (R81 to R83): an input low past its filter clears its filtered level and enters SAFE; levels that differ for the
discrepancy time are the second cause; a level that returns is taken back at once, and both high start the time that
clearing the cause asks for; the level of WAKE only enters the journal of the glove pair. -/
def Obligations.SafeTorqueOff : Prop :=
  (∀ (e : Nat) (p : Fin 2) (s : State), s.boot.phase = .run → s.mode ≠ Mode.standby →
     Answers (.stoFilterExpiry e p) s fun t =>
       t.bit R.DEV_STO_STAT (stoFld p) = false ∧ t.stoHigh = none ∧ EntersSafe Cause.sto s t) ∧
  (∀ (e d : Nat) (s : State), s.boot.phase = .run → s.mode ≠ Mode.standby → s.stoTold = false → s.boot.stoDiff = some
     d →
     Answers (.stoDiscrepancy e) s fun t =>
       t.stoTold = true ∧ EntersSafe Cause.stoDiscrep s t ∧
       (s.d0 = true → t.dt = max (s.dt + e) (d + 200000 * s.fld R.DEV_STO_CFG F.DEV_STO_CFG.DISCREP)) ∧ (LogReady s →
         Logs EV.STO_DISCREPANCY 0xFF s t)) ∧
  (∀ (e : Nat) (p : Fin 2) (s : State), s.boot.phase = .run → s.bit R.DEV_STO_STAT (stoFld p) = false →
     Answers (.filteredLevelChange e (p.castLE (by decide)) true) s fun t =>
       t.bit R.DEV_STO_STAT (stoFld p) = true ∧
       (stoBoth t = true → (s.stoHigh = none → t.stoHigh = some t.dt) ∧ t.stoTold = false ∧ t.boot.stoDiff = none) ∧
       (s.glove.on = false → OnlyRegs [R.DEV_STO_STAT] s t ∧ t =
       { s with el := t.el, dt := t.dt, regs := t.regs, stoHigh := t.stoHigh, stoTold := t.stoTold, boot := t.boot })) ∧
  (∀ (e : Nat) (level : Bool) (s : State), s.boot.phase = .run → s.glove.on = true → jStopped s = false →
     s.glove.ents.length < 8192 →
     Answers (.filteredLevelChange e 2 level) s fun t =>
       t.glove.ents.length = s.glove.ents.length + 1 ∧ t.reg R.DEV_STO_STAT = s.reg R.DEV_STO_STAT)

/-- VANA (R48, R84) and the 60 V rule (R80): VANA low unsettles the reference and enters SAFE; VANA good starts its
settling where the buffer is on; the link at 60 V in SERVICE, with a core halted or an output forced, ends both and
enters SAFE. -/
def Obligations.SupplyAndLinkCauses : Prop :=
  (∀ (e : Nat) (s : State), s.bit R.DEV_SUPPLY F.DEV_SUPPLY.VANA_OK = true → s.boot.phase ≠ .standby → s.mode ≠
     Mode.standby →
     Answers (.vanaLow e) s fun t =>
       t.bit R.DEV_SUPPLY F.DEV_SUPPLY.VANA_OK = false ∧ t.bit R.ADC_REF_CTRL F.ADC_REF_CTRL.SETTLED = false ∧
       t.meas.refDue = none ∧ EntersSafe Cause.vanaLow s t ∧ (LogReady s → Logs EV.SUPPLY_LOW 0xFF s t)) ∧
  (∀ (e : Nat) (s : State), s.bit R.DEV_SUPPLY F.DEV_SUPPLY.VANA_OK = false →
     Answers (.vanaGood e) s fun t =>
       t.bit R.DEV_SUPPLY F.DEV_SUPPLY.VANA_OK = true ∧
       (s.bit R.ADC_REF_CTRL F.ADC_REF_CTRL.EN = true → refSettled s = false →
         t.meas.refDue = some (t.dt + 1000000)) ∧
       t = { s with el := t.el, dt := t.dt, regs := t.regs, meas := t.meas } ∧
       OnlyRegs [R.DEV_SUPPLY] s t) ∧
  (∀ (e : Nat) (vl : BitVec 13) (s : State), s.mode = Mode.service → 120 ≤ vl.toNat → (s.bit R.GLV_STAT
     F.GLV_STAT.HALTED = true ∨ s.bit R.GLV_STAT F.GLV_STAT.HALT_PEND = true ∨ s.bit R.PWM_FORCE F.PWM_FORCE.EN =
     true) →
     Answers (.link60v e vl) s fun t =>
       t.bit R.GLV_STAT F.GLV_STAT.HALTED = false ∧ t.bit R.PWM_FORCE F.PWM_FORCE.EN = false ∧ t.service = 0 ∧
       EntersSafe Cause.link60 s t) ∧
  (∀ (e : Nat) (vl : BitVec 13) (s : State), (s.mode ≠ Mode.service ∨ vl.toNat < 120 ∨ (s.bit R.GLV_STAT
     F.GLV_STAT.HALTED = false ∧
 s.bit R.GLV_STAT F.GLV_STAT.HALT_PEND = false ∧ s.bit R.PWM_FORCE F.PWM_FORCE.EN =
     false)) →
     Answers (.link60v e vl) s fun t =>
       vlink t = vl.toNat ∧ OnlyRegs [R.DCL_STAT, R.CHG_FLAGS, R.CHG_IRQ_STAT] s t ∧
       t = { s with el := t.el, dt := t.dt, regs := t.regs, eng := t.eng, dcl := t.dcl, chg := t.chg })

/-! ### Gate islands -/

/-- An island's supplies (R91 to R96): a fall locks the gate out with its clamp on, both good again end the lock-out 100
µs before the supply is told good, and power applied starts it locked out with no held state; sequencing errors are
flagged. (Where the island belongs to no declared converter, nothing else changes.) -/
def Obligations.IslandSuppliesLock : Prop :=
  (∀ (e : Nat) (n : Fin 48) (vdd vee : Bool) (s : State), (vdd || vee) = true →
     Answers (.islLockoutEntry e n vdd vee) s fun t =>
       lockedOut t n = true ∧
       t.bit (R.ISL_STAT n) F.ISL_STAT.GATE = false ∧
       t.bit (R.ISL_STAT n) F.ISL_STAT.CLAMP = true ∧
       t.bit (R.ISL_STAT n) F.ISL_STAT.VDD_OK = (s.bit (R.ISL_STAT n) F.ISL_STAT.VDD_OK && !vdd) ∧
       t.bit (R.ISL_STAT n) F.ISL_STAT.VEE_OK = (s.bit (R.ISL_STAT n) F.ISL_STAT.VEE_OK && !vee) ∧
       (t.islOf n).okDue = none ∧
       (convOfIsl s n = none → (linkUp s n = true → lockedOut s n = false → islUsed s n = true → s.logs = true →
       s.ev.buf.length < 16368 → Logs EV.ISL_LOCKOUT n s t) ∧ OnlyRegs (logRegs ++ [R.ISL_STAT n, R.ISL_FLAGS n])
       s t ∧ t = { s with el := t.el, dt := t.dt, regs := t.regs, ev := t.ev, rcd := t.rcd, isl := t.isl })) ∧
  (∀ (e : Nat) (n : Fin 48) (s : State), lockedOut s n = true →
     Answers (.islLockoutRelease e n true true) s fun t =>
       lockedOut t n = false ∧
       t.bit (R.ISL_STAT n) F.ISL_STAT.VDD_OK = true ∧
       t.bit (R.ISL_STAT n) F.ISL_STAT.VEE_OK = true ∧
       (t.islOf n).okDue = some (t.el + 20000) ∧
       (convOfIsl s n = none → OnlyRegs [R.ISL_STAT n] s t ∧ t =
       { s with el := t.el, dt := t.dt, regs := t.regs, isl := t.isl })) ∧
  (∀ (e : Nat) (n : Fin 48) (d : Nat) (s : State), (s.islOf n).okDue = some d → linkUp s n = true →
     Answers (.islSupplyOk e n) s fun t =>
       (t.islOf n).okDue = none ∧ t.el = max (s.el + e) d ∧ OnlyRegs logRegs s t ∧
       (islUsed s n = true → LogReady s → Logs EV.ISL_SUPPLY_OK n s t) ∧
       t = { s with el := t.el, dt := t.dt, regs := t.regs, ev := t.ev, rcd := t.rcd, isl := t.isl }) ∧
  (∀ (e : Nat) (n : Fin 48) (s : State),
     Answers (.islSeq e n 1) s fun t =>
       t.bit (R.ISL_FLAGS n) F.ISL_FLAGS.SEQ_ERR = true ∧ OnlyRegs (logRegs ++ [R.ISL_FLAGS n]) s t ∧ LogsOnly s t ∧
       (islUsed s n = true → LogReady s → Logs EV.ISL_SEQ n s t)) ∧
  (∀ (e : Nat) (n : Fin 48) (s : State), s.bit (R.ISL_STAT n) F.ISL_STAT.VDD_OK = true → s.bit (R.ISL_STAT n)
     F.ISL_STAT.VEE_OK = false →
     Answers (.islSeq e n 0) s fun t =>
       t.bit (R.ISL_FLAGS n) F.ISL_FLAGS.SEQ_ERR = true ∧ OnlyRegs (logRegs ++ [R.ISL_FLAGS n]) s t ∧ LogsOnly s t) ∧
  (∀ (e : Nat) (n : Fin 48) (s : State),
     Answers (.islPowerUp e n) s fun t =>
       lockedOut t n = true ∧
       t.bit (R.ISL_STAT n) F.ISL_STAT.GATE = false ∧
       t.bit (R.ISL_STAT n) F.ISL_STAT.CLAMP = true ∧
       t.bit (R.ISL_STAT n) F.ISL_STAT.FB_ON = false ∧
       t.bit (R.ISL_STAT n) F.ISL_STAT.VDD_OK = false ∧
       t.bit (R.ISL_STAT n) F.ISL_STAT.VEE_OK = false ∧
       latched t n = false ∧
       (t.islOf n).cmdOn = (s.islOf n).cmdOn ∧
       (t.islOf n).needOff = (s.islOf n).cmdOn ∧
       (convOfIsl s n = none → OnlyRegs [R.ISL_STAT n, R.PROT_IST n] s t ∧ t =
       { s with el := t.el, dt := t.dt, regs := t.regs, isl := t.isl }))

/-- An island's link (R108 to R115): a bad frame is counted, a silent link is flagged, an island in fallback takes its
state, a link up is to be calibrated, a calibration sets the trim where it can and flags it where it cannot, and a
re-measurement moves the trim by one. -/
def Obligations.IslandLinkSupervised : Prop :=
  (∀ (e : Nat) (n : Fin 48) (s : State), (s.islOf n).bads = [] →
     Answers (.islBadFrame e n false) s fun t =>
       t.fld (R.ISL_STAT n) F.ISL_STAT.ERR_COUNT =
         satInc F.ISL_STAT.ERR_COUNT.width (s.fld (R.ISL_STAT n) F.ISL_STAT.ERR_COUNT) 1 ∧
       (t.islOf n).bads = [t.dt] ∧ OnlyRegs [R.ISL_STAT n] s t ∧
       t = { s with el := t.el, dt := t.dt, regs := t.regs, isl := t.isl }) ∧
  (∀ (e : Nat) (n : Fin 48) (s : State), linkUp s n = true →
     Answers (.islLinkDown e n) s fun t =>
       linkUp t n = false ∧
       t.bit (R.ISL_STAT n) F.ISL_STAT.CAL_DONE = false ∧
       t.bit (R.ISL_FLAGS n) F.ISL_FLAGS.LINK_DOWN = true ∧
       t.reg (R.ISL_TEL_VDS n) = resetReg (R.ISL_TEL_VDS n) ∧
       t.reg (R.ISL_TEL_ENV n) = resetReg (R.ISL_TEL_ENV n) ∧
       t.fld (R.ISL_STAT n) F.ISL_STAT.TRIM = 0 ∧
       (convOfIsl s n = none → s.preDue = false → (islUsed s n = true → LogReady s → Logs EV.ISL_LINK_DOWN n s t) ∧
       LogsOnly s t ∧ OnlyRegs (logRegs ++ [R.ISL_STAT n, R.ISL_FLAGS n, R.ISL_TEL_VDS n, R.ISL_TEL_ENV n]) s t)) ∧
  (∀ (e : Nat) (n : Fin 48) (s : State),
     Answers (.islFallbackApply e n) s fun t =>
       t.bit (R.ISL_STAT n) F.ISL_STAT.IN_FALLBACK = true ∧
       t.bit (R.ISL_STAT n) F.ISL_STAT.GATE =
         (fbOn s n && !latched s n && !lockedOut s n && (s.islOf n).okDue.isNone && (s.islOf n).softEnd.isNone) ∧
       t.bit (R.ISL_STAT n) F.ISL_STAT.CLAMP = (!t.bit (R.ISL_STAT n) F.ISL_STAT.GATE &&
       (lockedOut s n || ((s.islOf n).softEnd.isNone && (s.bit (R.ISL_CFG n) F.ISL_CFG.CLAMP_EN || latched s n)))) ∧
       OnlyRegs [R.ISL_STAT n] s t ∧ t = { s with el := t.el, dt := t.dt, regs := t.regs, isl := t.isl }) ∧
  (∀ (e : Nat) (n : Fin 48) (s : State), linkUp s n = false →
     Answers (.islLinkUp e n) s fun t =>
       linkUp t n = true ∧
       (t.islOf n).calDue = true ∧
       (convOfIsl s n = none → OnlyRegs (logRegs ++ [R.ISL_STAT n, R.ISL_FLAGS n]) s t ∧ (lockedOut s n = false →
       OnlyRegs (logRegs ++ [R.ISL_STAT n]) s t) ∧ (islUsed s n = true → LogReady s → Logs EV.ISL_LINK_UP n s t)
       ∧ t = { s with el := t.el, dt := t.dt, regs := t.regs, ev := t.ev, rcd := t.rcd, isl := t.isl })) ∧
  (∀ (e : Nat) (n : Fin 48) (ps : Nat) (s : State), linkUp s n = true → 0 ≤ trimOf ps → trimOf ps ≤ 127 →
     Answers (.islandCalibration e n ps) s fun t =>
       t.bit (R.ISL_STAT n) F.ISL_STAT.CAL_DONE = true ∧
       (t.fld (R.ISL_STAT n) F.ISL_STAT.TRIM : Int) = trimOf ps ∧
       (t.islOf n).calDue = false ∧
       (convOfIsl s n = none → s.preDue = false → OnlyRegs [R.ISL_STAT n] s t ∧ t =
       { s with el := t.el, dt := t.dt, regs := t.regs, isl := t.isl })) ∧
  (∀ (e : Nat) (n : Fin 48) (ps : Nat) (s : State), linkUp s n = true → (trimOf ps < 0 ∨ 127 < trimOf ps) →
     Answers (.islandCalibration e n ps) s fun t =>
       t.bit (R.ISL_STAT n) F.ISL_STAT.CAL_DONE = false ∧
       t.bit (R.ISL_FLAGS n) F.ISL_FLAGS.CAL_FAIL = true ∧
       (t.islOf n).calDue = false ∧
       (convOfIsl s n = none → s.preDue = false → (islUsed s n = true → LogReady s → Logs EV.ISL_CAL_FAIL n s t) ∧
       OnlyRegs (logRegs ++ [R.ISL_STAT n, R.ISL_FLAGS n]) s t)) ∧
  (∀ (e : Nat) (n : Fin 48) (ps : Nat) (s : State), linkUp s n = true → (s.islOf n).onStep + 160 ≤ 8 * s.dt → (s.islOf
     n).offStep + 160 ≤ 8 * s.dt → (s.islOf n).gateStep + 160 ≤ 8 * s.dt → (s.fld (R.ISL_STAT n) F.ISL_STAT.TRIM :
     Int) < clampI 0 127 (trimOf ps) → (unitOfGate s n).all (fun k => ((s.unitOf k).edges ++ (s.unitOf k).next).all
     fun d => decide (8 * (s.tick e).dt + 160 ≤ d.step)) = true →
     Answers (.islTrimRemeasure e n ps) s fun t =>
       t.fld (R.ISL_STAT n) F.ISL_STAT.TRIM = s.fld (R.ISL_STAT n) F.ISL_STAT.TRIM + 1 ∧ RegsOnly s t ∧
       OnlyRegs [R.ISL_STAT n] s t)

/-! ### Protection -/

/-- Switch faults (R130 to R136): with its detector enabled and its gate on and unlatched an island's desaturation, at
the end of blanking at the earliest, or its Kelvin-source integral at the threshold takes its gate off softly for
(SOFT_DUR + 1) × 50 ns; the end engages the clamp and latches the fault; the interior receives stamp and sources, and
the machine's fault enters SAFE where ESC_MACH is set. -/
def Obligations.SwitchFaultsDetected : Prop :=
  (∀ (e : Nat) (n : Fin 48) (mv above : Nat) (s : State), s.bit (R.PROT_DSAT n) F.PROT_DSAT.DESAT_EN = true → 50 *
     s.fld (R.PROT_DSAT n) F.PROT_DSAT.THRESH < mv → latched s n = false → gateOn s n = true → (s.islOf n).det = none
     → (s.islOf n).softEnd = none →
     Answers (.desatDetection e ⟨n, mv, above⟩) s fun t =>
       t.bit (R.ISL_STAT n) F.ISL_STAT.GATE = false ∧ (t.islOf n).det = some (t.dt, true, false) ∧
       (t.islOf n).softEnd = some (t.el + (s.fld (R.PROT_DSAT n) F.PROT_DSAT.SOFT_DUR + 1) * 10) ∧
       (s.d0 = true → t.dt = max (s.dt + e)
       (max (max (s.dt + e - above) ((s.islOf n).rise / 8) + s.fld (R.PROT_DSAT n) F.PROT_DSAT.FILT)
       ((s.islOf n).rise / 8 + s.fld (R.PROT_DSAT n) F.PROT_DSAT.TBLANK))) ∧
       OnlyRegs [R.ISL_STAT n] s t ∧ t = { s with el := t.el, dt := t.dt, regs := t.regs, isl := t.isl }) ∧
  (∀ (e : Nat) (n : Fin 48) (mv above : Nat) (s : State), (s.bit (R.PROT_DSAT n) F.PROT_DSAT.DESAT_EN = false ∨ mv ≤
     50 * s.fld (R.PROT_DSAT n) F.PROT_DSAT.THRESH) →
     Answers (.desatDetection e ⟨n, mv, above⟩) s fun t =>
       t = s.tick e) ∧
  (∀ (e : Nat) (n : Fin 48) (nvs : Nat) (s : State), s.bit (R.PROT_OC n) F.PROT_OC.OC_EN = true → s.fld (R.PROT_OC n)
     F.PROT_OC.LKS * s.fld (R.PROT_OC n) F.PROT_OC.ITHR ≤ (s.islOf n).kelvin + nvs → latched s n = false → gateOn s n
     = true → (s.islOf n).det = none → (s.islOf n).softEnd = none →
     Answers (.kelvinOcDetection e n nvs) s fun t =>
       t.bit (R.ISL_STAT n) F.ISL_STAT.GATE = false ∧ (t.islOf n).det = some (t.dt, false, true) ∧
       (t.islOf n).softEnd = some (t.el + (s.fld (R.PROT_DSAT n) F.PROT_DSAT.SOFT_DUR + 1) * 10) ∧ Passes e s t ∧
       OnlyRegs [R.ISL_STAT n] s t ∧ t = { s with el := t.el, dt := t.dt, regs := t.regs, isl := t.isl }) ∧
  (∀ (e : Nat) (n : Fin 48) (d : Nat) (s : State), (s.islOf n).softEnd = some d → gateOn s n = false →
     Answers (.softTurnOffEnd e n) s fun t =>
       latched t n = true ∧
       (t.islOf n).softEnd = none ∧
       t.bit (R.ISL_STAT n) F.ISL_STAT.CLAMP = true ∧
       t.bit (R.ISL_STAT n) F.ISL_STAT.GATE = false ∧
       t.el = max (s.el + e) d ∧
       (convOfIsl s n = none → OnlyRegs [R.PROT_IST n, R.ISL_STAT n] s t ∧ t =
       { s with el := t.el, dt := t.dt, regs := t.regs, isl := t.isl })) ∧
  (∀ (e : Nat) (n : Fin 48) (st : Nat) (a b : Bool) (s : State), (s.islOf n).det = some (st, a, b) →
     Answers (.detectionReceived e n) s fun t =>
       t.fld (R.PROT_IST n) F.PROT_IST.STAMP = st % 2 ^ 32 ∧
       (t.islOf n).det = none ∧
       (a = true → t.bit (R.PROT_IST n) F.PROT_IST.DESAT = true ∧ t.bit R.PROT_FLAGS F.PROT_FLAGS.DESAT = true) ∧
       (b = true → t.bit (R.PROT_IST n) F.PROT_IST.KELVIN = true ∧ t.bit R.PROT_FLAGS F.PROT_FLAGS.KELVIN = true) ∧
       (convOfIsl s n = none → (a = true → LogReady s → Logs EV.DESAT n s t) ∧ OnlyRegs (logRegs ++ [R.PROT_IST n,
       R.PROT_FLAGS]) s t ∧ t =
       { s with el := t.el, dt := t.dt, regs := t.regs, ev := t.ev, rcd := t.rcd, isl := t.isl })) ∧
  (∀ (e : Nat) (n : Fin 48) (st c m : Nat) (a b : Bool) (s : State), (s.islOf n).det = some (st, a, b) → convOfIsl s n
     = some c → c < 32 → chanOf s c = some m → s.mode ≠ Mode.standby → s.bit R.PROT_CFG F.PROT_CFG.ESC_MACH = true →
     Answers (.detectionReceived e n) s fun t =>
       EntersSafe Cause.prot s t)

/-- The selector (R148, R151, R152): a refreshed speed at or above N_AS decides row 1, an unknown one too; below it,
with no hold, an overvoltage without a two-leg class decides row 2, a two-leg class row 3 and nothing row 4; rows 1 and
2 give the short, the others freewheel. A swap's dead time ends in the short of the new side. -/
def Obligations.SelectorDecides : Prop :=
  (∀ (e : Nat) (m : Fin 2) (src : Fin 4) (rpm : BitVec 32) (s : State), 3 ≤ src.val → (∀ n ∈ machIsls s m, n < 48) →
     s.bit (R.PROT_SS_STAT m) F.PROT_SS_STAT.APPLIED = false → s.fld (R.PROT_SS_CFG m) F.PROT_SS_CFG.N_AS ≤ min
     rpm.toInt.natAbs 65535 →
     Answers (.selectorSpeedRefresh e m src rpm) s fun t =>
       t.fld (R.PROT_SS_SPEED m) F.PROT_SS_SPEED.SPEED = min rpm.toInt.natAbs 65535 ∧
       t.fld (R.PROT_SS_SPEED m) F.PROT_SS_SPEED.SRC = src ∧ (t.selOf m).fresh = some t.dt ∧ (t.selOf m).held = true ∧
       t.fld (R.PROT_SS_STAT m) F.PROT_SS_STAT.ROW = 1 ∧ t.bit (R.PROT_SS_STAT m) F.PROT_SS_STAT.RESULT = true ∧
       t.bit (R.PROT_SS_STAT m) F.PROT_SS_STAT.STALE = false) ∧
  (∀ (e : Nat) (m : Fin 2) (src : Fin 4) (rpm : BitVec 32) (s : State), 3 ≤ src.val → (∀ n ∈ machIsls s m, n < 48) →
     s.bit (R.PROT_SS_STAT m) F.PROT_SS_STAT.APPLIED = false → min rpm.toInt.natAbs 65535 < s.fld (R.PROT_SS_CFG m)
     F.PROT_SS_CFG.N_AS → (s.selOf m).held = false →
     Answers (.selectorSpeedRefresh e m src rpm) s fun t =>
       (t.selOf m).held = false ∧
       t.fld (R.PROT_SS_STAT m) F.PROT_SS_STAT.ROW =
       (if s.bit R.DCL_STAT F.DCL_STAT.OV1 = true ∧ faultClass s m ≠ 2 then 2 else if faultClass s m =
         2 then 3 else 4) ∧
       t.bit (R.PROT_SS_STAT m) F.PROT_SS_STAT.RESULT = (s.bit R.DCL_STAT F.DCL_STAT.OV1 && faultClass s m != 2)) ∧
  (∀ (e : Nat) (m : Fin 2) (s : State), (s.selOf m).fresh.isSome = true → (s.selOf m).known = true → s.d0 = true →
     s.bit (R.PROT_SS_STAT m) F.PROT_SS_STAT.APPLIED = false →
     Answers (.speedStale e m) s fun t =>
       (t.selOf m).known = false ∧
       t.bit (R.PROT_SS_STAT m) F.PROT_SS_STAT.STALE = true ∧
       (machConv s m = none → t.fld (R.PROT_SS_STAT m) F.PROT_SS_STAT.ROW = 1 ∧ t.bit (R.PROT_SS_STAT m)
       F.PROT_SS_STAT.RESULT = true ∧ OnlyRegs [R.PROT_SS_STAT m] s t ∧ t =
       { s with el := t.el, dt := t.dt, regs := t.regs, sel := t.sel })) ∧
  (∀ (e : Nat) (m : Fin 2) (b : Nat) (s : State), (s.selOf m).below = some b → s.d0 = true → (∀ n ∈ machIsls s m, n <
     48) → s.bit (R.PROT_SS_STAT m) F.PROT_SS_STAT.APPLIED = false → speedUnknown (State.until (b + 2000000) (s.tick
     e)) m = false → 10 * s.fld (R.PROT_SS_SPEED m) F.PROT_SS_SPEED.SPEED < 9 * s.fld (R.PROT_SS_CFG m)
     F.PROT_SS_CFG.N_AS →
     Answers (.activeShortHoldExpiry e m) s fun t =>
       t.dt = max (s.dt + e) (b + 2000000) ∧ (t.selOf m).held = false ∧
       t.fld (R.PROT_SS_STAT m) F.PROT_SS_STAT.ROW =
       (if s.bit R.DCL_STAT F.DCL_STAT.OV1 = true ∧ faultClass s m ≠ 2 then 2 else if faultClass s m =
         2 then 3 else 4)) ∧
  (∀ (e : Nat) (m : Fin 2) (d : Nat) (s : State), (s.selOf m).swapDue = some d → s.d0 = true →
     Answers (.swapDtExpiry e m) s fun t =>
       t.dt = max (s.dt + e) d ∧ (t.selOf m).swapDue = none ∧ (t.selOf m).shorted = true)

/-- A run (R159 to R165): it ends with every undeclared unit NOT_USED and every declared unit the verdict of its tests
in their order, and with no plant in force DONE is set and EV_PRESTART_DONE logged; the rail test waits for the link at
VMIN and then decides the units that it kept waiting. -/
def Obligations.PrestartVerdicts : Prop :=
  (∀ (e : Nat) (gates : List GateTest) (phs : List PhsTest) (s : State), s.bit R.PROT_PRE_STAT F.PROT_PRE_STAT.RUNNING
     = true →
     Answers (.prestartDone e gates phs) s fun t =>
       t.bit R.PROT_PRE_STAT F.PROT_PRE_STAT.RUNNING = false ∧
       ∀ k : Fin 24, verdict t k =
       if (s.plant.any fun p => p.units.any fun u => u.hb == k.val) = true then unitVerdict s gates phs k % 16 else 2) ∧
  (∀ (e : Nat) (gates : List GateTest) (phs : List PhsTest) (s : State), s.bit R.PROT_PRE_STAT F.PROT_PRE_STAT.RUNNING
     = true → s.plant = none →
     Answers (.prestartDone e gates phs) s fun t =>
       t.bit R.PROT_PRE_STAT F.PROT_PRE_STAT.DONE = true ∧
       t.bit R.PROT_PRE_STAT F.PROT_PRE_STAT.FAIL = s.bit R.PROT_PRE_STAT F.PROT_PRE_STAT.FAIL ∧
       (LogReady s → Logs EV.PRESTART_DONE 0xFF s t) ∧ LogsOnly s t ∧
       OnlyRegs (logRegs ++ [R.PROT_PRE_STAT, R.PROT_PRE_VERD 0, R.PROT_PRE_VERD 1, R.PROT_PRE_VERD 2]) s t) ∧
  (∀ (e link : Nat) (gates : List GateTest) (phs : List PhsTest) (s : State), s.bit R.PROT_PRE_STAT
     F.PROT_PRE_STAT.RAIL_PENDING = true → s.mode = Mode.ready → 1000 * s.fld R.PROT_PRE_CFG F.PROT_PRE_CFG.VMIN ≤
     link →
     Answers (.railTest e link ⟨gates, phs⟩) s fun t =>
       t.bit R.PROT_PRE_STAT F.PROT_PRE_STAT.RAIL_PENDING = false ∧
       t.bit R.PROT_PRE_STAT F.PROT_PRE_STAT.DONE = true ∧
       ∀ k : Fin 24, verdict t k =
       if verdict s k = 0 ∧ (starOf s k).isSome = true then railVerdict s link gates phs k % 16
       else verdict s k) ∧
  (∀ (e link : Nat) (gates : List GateTest) (phs : List PhsTest) (s : State), link < 1000 * s.fld R.PROT_PRE_CFG
     F.PROT_PRE_CFG.VMIN →
     Answers (.railTest e link ⟨gates, phs⟩) s fun t =>
       t = s.tick e)

/-! ### PWM, timebases and graphs -/

/-- Trips (R197 to R199): the source's level is held; a falling one, or an assertion that no enabled unit selects,
changes nothing else; an assertion trips an enabled unit that selects it, whose switches go off two ticks later and
whose window counts. -/
def Obligations.TripsAct : Prop :=
  (∀ (e : Nat) (src : Fin 72) (s : State),
     Answers (.tripAssert e src false) s fun t =>
       t = { s.tick e with trips := clrBitN s.trips src }) ∧
  (∀ (e : Nat) (src : Fin 72) (s : State), (∀ k : Fin 33, s.bit (R.PWM_HB_STAT k) F.PWM_HB_STAT.EN = true → (tripSrcs
     s k).contains src.val = false) →
     Answers (.tripAssert e src true) s fun t =>
       t = { s.tick e with trips := setBitN s.trips src }) ∧
  (∀ (e : Nat) (src : Fin 72) (k : Fin 33) (s : State), (tripSrcs s k).contains src.val = true → (∀ j : Fin 33, j ≠ k
     → (tripSrcs s j).contains src.val = false) → s.bit (R.PWM_HB_STAT k) F.PWM_HB_STAT.EN = true → unitLatched s k =
     false → (s.unitOf k).tripAt = none → bySelector s k = false → s.bit (R.PWM_HB_TRIP k) F.PWM_HB_TRIP.ACT = false →
     (s.unitOf k).win = none → noticesStand s < 256 → 1 < s.fld (R.PWM_HB_TRIP k) F.PWM_HB_TRIP.N →
     Answers (.tripAssert e src true) s fun t =>
       (t.unitOf k).tripAt = some t.dt ∧
       (t.unitOf k).win = some (t.dt + s.fld (R.PWM_HB_TRIPWIN k) F.PWM_HB_TRIPWIN.W) ∧
       t.bit (R.PWM_HB_FLAGS k) F.PWM_HB_FLAGS.TRIP = true ∧ t.bit (R.PWM_HB_STAT k) F.PWM_HB_STAT.TRIPPED = true ∧
       t.fld (R.PWM_HB_STAT k) F.PWM_HB_STAT.TRIP_COUNT = 1 ∧
       (∀ d ∈ (t.unitOf k).edges, d ∈ (s.unitOf k).edges ∧ d.step < 8 * (t.dt + 2) ∨ d.on = false ∧
         d.step = 8 * (t.dt + 2)) ∧
       (∃ d ∈ (t.unitOf k).edges, d.high = true ∧ d.on = false ∧ d.step = 8 * (t.dt + 2)) ∧
       (∃ d ∈ (t.unitOf k).edges, d.high = false ∧ d.on = false ∧ d.step = 8 * (t.dt + 2)) ∧
       t = { s with el := t.el, dt := t.dt, regs := t.regs, trips := setBitN s.trips src, unit := t.unit, meas := t.meas })

/-- SYNC_IN (R206, R207): with the input off or no timebase on it only time passes; an edge outside its window is
counted and one inside gives the error, which acts two ticks later; after three lost windows the timebase runs free at P
with SYNC_LOST. An edge with none before it is remembered (the model's choice, assumption 76). -/
def Obligations.SyncInTracks : Prop :=
  (∀ (e : Nat) (s : State), (s.bit R.PWM_SYNC_CFG F.PWM_SYNC_CFG.IN_EN = false ∨ syncTbs s = []) →
     Answers (.syncInEdge e) s fun t =>
       t = s.tick e) ∧
  (∀ (e j : Nat) (s : State), s.bit R.PWM_SYNC_CFG F.PWM_SYNC_CFG.IN_EN = true → syncTbs s = [j] → (s.tbOf j).syncOn =
     false → (s.tbOf j).lastEdge = none →
     Answers (.syncInEdge e) s fun t =>
       (t.tbOf j).lastEdge = some t.dt ∧ (t.tbOf j).syncOn = false ∧ t = { s with el := t.el, dt := t.dt, tb := t.tb }) ∧
  (∀ (e j a : Nat) (s : State), s.bit R.PWM_SYNC_CFG F.PWM_SYNC_CFG.IN_EN = true → syncTbs s = [j] → (s.tbOf j).run =
     true → (s.tbOf j).lastEdge = some a → a ≤ (s.tick e).dt → (s.tbOf j).syncOn = true → (∀ i ∈ ([1, 2, 3] : List
     Nat), (s.tick e).dt + s.fld R.PWM_SYNC_CFG F.PWM_SYNC_CFG.TOL < a + i * (s.tbOf j).p ∨ a + i * (s.tbOf j).p +
     s.fld R.PWM_SYNC_CFG F.PWM_SYNC_CFG.TOL < (s.tick e).dt) →
     Answers (.syncInEdge e) s fun t =>
       t.fld R.PWM_SYNC_STAT F.PWM_SYNC_STAT.MISSED =
         satInc F.PWM_SYNC_STAT.MISSED.width (s.fld R.PWM_SYNC_STAT F.PWM_SYNC_STAT.MISSED) 1 ∧
       RegsOnly s t ∧ OnlyRegs [R.PWM_SYNC_STAT] s t) ∧
  (∀ (e j a : Nat) (s : State), s.bit R.PWM_SYNC_CFG F.PWM_SYNC_CFG.IN_EN = true → syncTbs s = [j] → (s.tbOf j).run =
     true → (s.tbOf j).lastEdge = some a → a ≤ (s.tick e).dt → (∃ i ∈ ([1, 2, 3] : List Nat), (i = 1 ∨ (s.tbOf
     j).syncOn = true) ∧ a + i * (s.tbOf j).p ≤ (s.tick e).dt + s.fld R.PWM_SYNC_CFG F.PWM_SYNC_CFG.TOL ∧ (s.tick
     e).dt ≤ a + i * (s.tbOf j).p + s.fld R.PWM_SYNC_CFG F.PWM_SYNC_CFG.TOL) →
     Answers (.syncInEdge e) s fun t =>
       (t.tbOf j).syncOn = true ∧ (t.tbOf j).lastEdge = some t.dt ∧
       (t.tbOf j).found = some (t.dt + 2, syncErr (s.tick e) j t.dt) ∧
       t.bit R.PWM_SYNC_STAT F.PWM_SYNC_STAT.LOST = false ∧ OnlyRegs [R.PWM_SYNC_STAT] s t ∧
       t = { s with el := t.el, dt := t.dt, regs := t.regs, tb := t.tb }) ∧
  (∀ (e j : Nat) (s : State), syncTbs s = [j] → (s.tbOf j).run = true → (s.tbOf j).syncOn = true → s.d0 = true →
     noticesStand s < 256 →
     Answers (.syncLost e) s fun t =>
       (t.tbOf j).syncOn = false ∧ (t.tbOf j).err = 0 ∧ (t.tbOf j).found = none ∧ (t.tbOf j).lastEdge = none ∧
       (t.tbOf j).locked = false ∧
       t.dt = max (s.dt + e) ((s.tbOf j).lastEdge.getD 0 + 3 * (s.tbOf j).p + s.fld R.PWM_SYNC_CFG F.PWM_SYNC_CFG.TOL + 1) ∧
       t.bit R.PWM_SYNC_STAT F.PWM_SYNC_STAT.LOST = true ∧
       t.bit R.PWM_FLAGS F.PWM_FLAGS.SYNC_LOST = true ∧ (LogReady s → Logs EV.SYNC_LOST j s t) ∧
       OnlyRegs (logRegs ++ [R.PWM_SYNC_STAT, R.PWM_FLAGS]) s t ∧
       t = { s with el := t.el, dt := t.dt, regs := t.regs, ev := t.ev, rcd := t.rcd, tb := t.tb, meas := t.meas })

/-- Timebases (R170, R184, R325): a free one that is wanted starts 1,000 ticks on; its deadline lies 50 ticks before its
boundary and settles the coming period's set; its boundary starts the next period, one later in number; an edge due
turns its gate's command on or off at its step. -/
def Obligations.TimebasesRun : Prop :=
  (∀ (e : Nat) (j : Fin 6) (s : State), (s.tbOf j).run = false → tbWanted s j = true → s.fld (R.PWM_TB_CFG j)
     F.PWM_TB_CFG.SRC = 0 →
     Answers (.timebaseStart e j) s fun t =>
       (t.tbOf j).run = true ∧ (t.tbOf j).first = true ∧ (t.tbOf j).b = t.dt + 1000 ∧ (t.tbOf j).len = (s.tbOf j).p ∧
       Passes e s t ∧
       t.bit (R.PWM_TB_CFG j) F.PWM_TB_CFG.RUN = true ∧
       t = { s with el := t.el, dt := t.dt, regs := t.regs, conv := t.conv, tb := t.tb, eng := t.eng }) ∧
  (∀ (e : Nat) (j : Fin 6) (vl : BitVec 13) (s : State), (s.tbOf j).run = true → (s.tbOf j).first = false → (s.tbOf
     j).ready = false →
     Answers (.commitDeadline e j [] vl) s fun t =>
       (t.tbOf j).ready = true ∧ ((s.tbOf j).token = true → (t.tbOf j).full = false) ∧
       (t.tbOf j).token = !(t.tbOf j).closed.isEmpty ∧
       (∀ x ∈ (t.tbOf j).closed, x ∈ (s.tbOf j).closed ∧ (s.tbOf j).b + (s.tbOf j).len - 50 ≤ x.1) ∧
       (s.d0 = true → t.dt = max (s.dt + e) ((s.tbOf j).b + (s.tbOf j).len - 50)) ∧ (t.tbOf j).b = (s.tbOf j).b ∧
       (t.tbOf j).no = (s.tbOf j).no ∧
       ((s.tbOf j).token = false → graphsOfTb s j = [] → chained s j = false →
         (t.tbOf j).nextP = limitPeriod (s.fld (R.PWM_TB_CFG j) F.PWM_TB_CFG.MODE) (s.tbOf j).p ∨
       (t.tbOf j).refuse = true)) ∧
  (∀ (e : Nat) (j : Fin 6) (vl : BitVec 13) (s : State), (s.tbOf j).run = true → ((s.tbOf j).first = true ∨ (s.tbOf
     j).ready = true) →
     Answers (.periodBoundary e j vl) s fun t =>
       (t.tbOf j).b = nextB s j ∧ (t.tbOf j).no = (if (s.tbOf j).first then 0 else (s.tbOf j).no + 1) ∧
       (t.tbOf j).first = false ∧
       (t.tbOf j).ready = false ∧ (s.d0 = true → t.dt = max (s.dt + e) (nextB s j)) ∧
       (s.fld (R.PWM_TB_CFG j) F.PWM_TB_CFG.SRC = 0 → (t.tbOf j).p =
         if (s.tbOf j).first then (s.tbOf j).p else (s.tbOf j).nextP)) ∧
  (∀ (e : Nat) (k : Fin 33) (d : Edge) (l : List Edge) (s : State), (s.unitOf k).edges = d :: l → (s.unitOf k).next =
     [] →
     Answers (.gateEdge e k) s fun t =>
       (t.unitOf k).edges = l ∧
       (s.d0 = true → t.dt = max (s.dt + e) (d.step / 8)) ∧
       (d.on = false → (if d.high then (gatesOf s k).1 else (gatesOf s k).2) ≠ 63 → (t.islOf (if d.high then
       (gatesOf s k).1 else (gatesOf s k).2)).cmdOn = false)) ∧
  (∀ (e : Nat) (k : Fin 33) (d : Edge) (l : List Edge) (g : Nat) (s : State), (s.unitOf k).edges = d :: l → d.on =
     true → g = (if d.high then (gatesOf s k).1 else (gatesOf s k).2) → g ≠ 63 → unitOfGate s g = some k.val →
     (s.islOf g).cmdOn = false → (partner s g).all (fun h => !countsOn s h d.step) = true →
     Answers (.gateEdge e k) s fun t =>
       (t.unitOf k).edges = l ∧ (t.islOf g).cmdOn = true ∧ (t.islOf g).onStep = d.step ∧
       (reachable s g = true → gateBarred s g = false → gateOn t g = true) ∧ (reachable s g = false →
         gateOn t g = gateOn s g))

/-- Activations and stores (R273, R236, R283, R264): a notice is taken and, with no plant in force (the empty program),
its set stands at the activation's end and its count goes on; an activation waiting in a QIN goes on at its time; a
crossing FIFO's oldest element moves into its queues. An uncorrectable word of an engine's store fails the engine and
reports it to the placer; a corrected one is counted. -/
def Obligations.GraphsActivate : Prop :=
  (∀ (e : Nat) (g : Fin 8) (dur lag n b h : Nat) (l : List (Nat × Nat × Nat)) (s : State), gSuspended (s.tick e) g =
     false → pairWhole s g = true → (s.graphOf g).act = none → (s.graphOf g).notices = (n, b, h) :: l →
     Answers (.graphActivation e g dur lag) s fun t =>
       (t.graphOf g).notices = l ∧ (t.graphOf g).act.all (fun a => a.wait.isSome) = true ∧
       ((t.graphOf g).act = none → t.fld (R.ENG_G_COUNT g) F.ENG_G_COUNT.ACT =
         (s.fld (R.ENG_G_COUNT g) F.ENG_G_COUNT.ACT + 1) % 2 ^ F.ENG_G_COUNT.ACT.width) ∧
       (s.plant = none → (t.graphOf g).act = none ∧ (t.graphOf g).done.getLast? = some ⟨n, t.dt + dur, [], []⟩ ∧
       (t.graphOf g).prevEnd = t.dt + dur ∧ t.fld (R.ENG_G_COUNT g) F.ENG_G_COUNT.ACT = (s.fld (R.ENG_G_COUNT g)
       F.ENG_G_COUNT.ACT + 1) % 2 ^ F.ENG_G_COUNT.ACT.width)) ∧
  (∀ (e : Nat) (g : Fin 8) (dur lag : Nat) (s : State), (gSuspended (s.tick e) g = true ∨ (s.graphOf g).act = none ∧
     (s.graphOf g).notices = []) →
     Answers (.graphActivation e g dur lag) s fun t =>
       t = s.tick e) ∧
  (∀ (e : Nat) (g : Fin 8) (a : Act) (w : Nat) (s : State), (s.graphOf g).act = some a → a.wait = some w → s.d0 = true
     → imgInst (gWords s g) ≤ a.idx →
     Answers (.qinWaitEnd e g) s fun t =>
       (t.graphOf g).act = none ∧ t.dt = max (s.dt + e) w ∧
       t.fld (R.ENG_G_COUNT g) F.ENG_G_COUNT.ACT =
         (s.fld (R.ENG_G_COUNT g) F.ENG_G_COUNT.ACT + 1) % 2 ^ F.ENG_G_COUNT.ACT.width ∧
       (pairWhole s g = true → a.spent = false →
       (t.graphOf g).done.getLast? = some ⟨a.n, a.start + (t.dt - a.start + a.dur), a.set, a.offers⟩)) ∧
  (∀ (e : Nat) (k : Fin 1024) (q : Fin 32) (x : QEnt) (l : List (List (Nat × QEnt))) (s : State), (s.xfOf k).ents =
     [(q.val, x)] :: l → queCons s q ≠ 3 → (s.queOf q).ents.length < queSize s q → (∀ g : Fin 8, (s.graphOf g).act.all
     (fun a => a.wait.isNone) = true) →
     Answers (.queueWrite e k) s fun t =>
       (t.xfOf k).ents = l ∧ (t.queOf q).ents = (s.queOf q).ents ++ [{ x with lost := (s.queOf q).lost }] ∧
       (t.queOf q).lost = false ∧
       t.fld (R.QUE_Q_PTR q) F.QUE_Q_PTR.FILL = ((s.queOf q).ents.length + 1) % 2 ^ F.QUE_Q_PTR.FILL.width ∧
       OnlyRegs [R.QUE_Q_PTR q, R.QUE_RATE] s t) ∧
  (∀ (e : Nat) (n : Fin 16) (word : Fin 13107) (s : State),
     Answers (.engStore e n word true) s fun t =>
       bitN (t.fld R.ENG_STAT F.ENG_STAT.FAILED) n = true ∧ t.bit R.ENG_FLAGS F.ENG_FLAGS.ECC_FATAL = true ∧
       t.fld R.ENG_ECC F.ENG_ECC.LAST_ENG = n ∧ t.fld R.ENG_ECC F.ENG_ECC.LAST_WORD = word ∧
       t.bit R.ENG_ECC F.ENG_ECC.LAST_FATAL = true ∧ (LogReady s → Logs EV.ENG_STORE n s t) ∧
       Reports 1 n s t ∧
       OnlyRegs (logRegs ++ [R.ENG_STAT, R.ENG_FLAGS, R.ENG_ECC]) s t) ∧
  (∀ (e : Nat) (n : Fin 16) (word : Fin 13107) (s : State),
     Answers (.engStore e n word false) s fun t =>
       t.fld R.ENG_ECC F.ENG_ECC.LAST_ENG = n ∧ t.fld R.ENG_ECC F.ENG_ECC.LAST_WORD = word ∧
       t.bit R.ENG_ECC F.ENG_ECC.LAST_FATAL = false ∧ t.bit R.ENG_FLAGS F.ENG_FLAGS.ECC_CORR = true ∧
       t.fld R.ENG_ECC F.ENG_ECC.CORR_COUNT =
         satInc F.ENG_ECC.CORR_COUNT.width (s.fld R.ENG_ECC F.ENG_ECC.CORR_COUNT) 1 ∧
       RegsOnly s t ∧ OnlyRegs [R.ENG_ECC, R.ENG_FLAGS] s t)

/-! ### Measurement -/

/-- The reference and the comparators (R54, R225 to R227): the settling time ends with SETTLED and its event; a
comparator asserts while enabled and its pin stands outside its window, FILT ticks after the first capture, latching
SEEN; back inside by the hysteresis it is released at once; a disabled one only keeps its pin. -/
def Obligations.ReferenceAndComparators : Prop :=
  (∀ (e d : Nat) (s : State), s.meas.refDue = some d →
     Answers (.refSettled e) s fun t =>
       t.bit R.ADC_REF_CTRL F.ADC_REF_CTRL.SETTLED = true ∧
       t.meas.refDue = none ∧
       (s.d0 = true → t.dt = max (s.dt + e) d) ∧
       (s.plant = none → (LogReady s → Logs EV.REF_SETTLED 0xFF s t))) ∧
  (∀ (e : Nat) (c : Fin 64) (uv : BitVec 24) (s : State), s.bit (R.ADC_WCMP c) F.ADC_WCMP.EN = true → (2000 * s.sfld
     (R.ADC_WCMP c) F.ADC_WCMP.HI < uv.toInt ∨ uv.toInt < 2000 * s.sfld (R.ADC_WCMP c) F.ADC_WCMP.LO) → bitN (s.fld
     (R.ADC_WCMP_STAT (c / 32)) F.ADC_WCMP_STAT.ASSERTED) (c % 32) = false → bitN s.meas.wraw c = false →
     Answers (.wcmpAssert e c uv) s fun t =>
       bitN (t.fld (R.ADC_WCMP_STAT (c / 32)) F.ADC_WCMP_STAT.ASSERTED) (c % 32) = true ∧
       bitN (t.fld (R.ADC_WCMP_FLAGS (c / 32)) F.ADC_WCMP_FLAGS.SEEN) (c % 32) = true ∧ bitN t.meas.wraw c = true ∧
       bitN t.trips c = true ∧
       (s.plant = none → Passes e s t) ∧
       (∀ k : Fin 33, (tripSrcs s k).contains c.val = true → (∀ j : Fin 33, j ≠ k →
         (tripSrcs s j).contains c.val = false) →
       s.bit (R.PWM_HB_STAT k) F.PWM_HB_STAT.EN = true → unitLatched s k = false → (s.unitOf k).tripAt = none →
         bySelector s k = false →
       s.bit (R.PWM_HB_TRIP k) F.PWM_HB_TRIP.ACT = false → (s.unitOf k).win = none →
         1 < s.fld (R.PWM_HB_TRIP k) F.PWM_HB_TRIP.N →
       (t.unitOf k).tripAt = some (t.dt + s.fld (R.ADC_WCMP c) F.ADC_WCMP.FILT))) ∧
  (∀ (e : Nat) (c : Fin 64) (uv : BitVec 24) (s : State), s.bit (R.ADC_WCMP c) F.ADC_WCMP.EN = true → uv.toInt < 2000
     * s.sfld (R.ADC_WCMP c) F.ADC_WCMP.HI - 2000 * (s.fld (R.ADC_WCMP c) F.ADC_WCMP.HYST : Int) → 2000 * s.sfld
     (R.ADC_WCMP c) F.ADC_WCMP.LO + 2000 * (s.fld (R.ADC_WCMP c) F.ADC_WCMP.HYST : Int) < uv.toInt → refSettled s =
     true → bitN (s.fld (R.ADC_WCMP_STAT (c / 32)) F.ADC_WCMP_STAT.ASSERTED) (c % 32) = true →
     Answers (.wcmpAssert e c uv) s fun t =>
       bitN (t.fld (R.ADC_WCMP_STAT (c / 32)) F.ADC_WCMP_STAT.ASSERTED) (c % 32) = false ∧ bitN t.trips c = false ∧
       AMap.get? t.meas.wend c = some t.dt ∧ bitN t.meas.wraw c = false ∧ Passes e s t ∧
       OnlyRegs [R.ADC_WCMP_STAT (c / 32)] s t ∧
       t = { s with el := t.el, dt := t.dt, regs := t.regs, meas := t.meas, trips := t.trips }) ∧
  (∀ (e : Nat) (c : Fin 64) (uv : BitVec 24) (s : State), s.bit (R.ADC_WCMP c) F.ADC_WCMP.EN = false → bitN (s.fld
     (R.ADC_WCMP_STAT (c / 32)) F.ADC_WCMP_STAT.ASSERTED) (c % 32) = false →
     Answers (.wcmpAssert e c uv) s fun t =>
       AMap.get? t.meas.wpin c = some uv.toInt ∧ t = { s.tick e with meas := t.meas })

/-- The converters (R223, R229 to R236): a trigger starts the sequence and consumes its number; each slot's, window's
and sample's result enters the converter's crossing FIFO with its stamp, sequence number and flags; lanes that differ
fail the converter. -/
def Obligations.ConvertersConvert : Prop :=
  (∀ (e : Nat) (n : Fin 12) (s : State), adcMode s n = 1 → (s.adcOf n).act = true → (s.tbOf (s.fld (R.ADC_AD_CFG n)
     F.ADC_AD_CFG.TB)).run = true → (s.tbOf (s.fld (R.ADC_AD_CFG n) F.ADC_AD_CFG.TB)).first = false → (s.tbOf (s.fld
     (R.ADC_AD_CFG n) F.ADC_AD_CFG.TB)).no % 2 ^ s.fld (R.ADC_AD_TRIG n) F.ADC_AD_TRIG.EVERY = 0 → s.bit
     (R.ADC_AD_STAT n) F.ADC_AD_STAT.FAILED = false → s.bit R.PROT_PRE_STAT F.PROT_PRE_STAT.RUNNING = false → (s.adcOf
     n).busyTill ≤ (s.tbOf (s.fld (R.ADC_AD_CFG n) F.ADC_AD_CFG.TB)).b →
     Answers (.adcTrigger e n) s fun t =>
       t.fld (R.ADC_AD_STAT n) F.ADC_AD_STAT.SEQ_NO = (s.fld (R.ADC_AD_STAT n) F.ADC_AD_STAT.SEQ_NO + 1) % 256 ∧
       t.bit (R.ADC_AD_STAT n) F.ADC_AD_STAT.BUSY = true ∧
       (t.adcOf n).slots.length = (s.adcOf n).slots.length + s.fld (R.ADC_AD_CFG n) F.ADC_AD_CFG.LEN + 1 ∧
       (t.adcOf n).ovRun = false ∧
       RegsOnly s { t with meas := s.meas } ∧ OnlyRegs [R.ADC_AD_STAT n] s t) ∧
  (∀ (e : Nat) (n : Fin 12) (s : State), adcMode s n ≠ 1 →
     Answers (.adcTrigger e n) s fun t =>
       t = s.tick e) ∧
  (∀ (e : Nat) (n : Fin 12) (codes : List Int) (d : SlotDue) (l : List SlotDue) (s : State), (s.adcOf n).slots = d ::
     l → d.chan < 0x60 → (s.xfOf (3 * 64 + n)).ents.length < 128 →
     Answers (.adcSlotResult e n codes) s fun t =>
       (t.adcOf n).slots = l ∧ (s.d0 = true → t.dt = max (s.dt + e) d.due) ∧
       (Pushes (3 * 64 + n) (d.queue) s t fun x => x.stamp = d.stamp ∧ x.chan = d.chan ∧
       x.seq = d.seq ∧ x.rep = d.rep ∧ x.unset = refUnset s d.stamp (d.stamp + 2 * (2 ^ d.avg - 1)) ∧
       (d.chan < 0x40 → (x.sample, x.range) = samplesResult s d.chan d.cal codes (2 ^ d.avg))) ∧
       OnlyRegs [R.ADC_AD_STAT n, R.ADC_FLAGS] s t) ∧
  (∀ (e : Nat) (n : Fin 12) (codes : List Int) (d : SlotDue) (l : List SlotDue) (s : State), (s.adcOf n).slots = d ::
     l → d.chan = 0x60 → (s.xfOf (4 * 64)).ents.length < 16 →
     Answers (.adcSlotResult e n codes) s fun t =>
       (t.adcOf n).slots = l ∧ t.fld (R.ADC_RES_STAT 0) F.ADC_RES_STAT.ANGLE = unsx 16 (codes.headD 0) ∧
       (Pushes (4 * 64) (d.queue) s t fun x => x.stamp = d.stamp ∧ x.chan = 0x60 ∧
       x.sample = unsx 16 (codes.headD 0))) ∧
  (∀ (e : Nat) (n : Fin 12) (first : Int) (codes : List Int) (w : IntWin) (l : List IntWin) (s : State), (s.adcOf
     n).wins = w :: l → (s.xfOf (3 * 64 + n)).ents.length < 128 →
     Answers (.integratorResult e n first codes) s fun t =>
       (t.adcOf n).wins = l ∧ t.reg (R.ADC_AD_INTSUM n) =
         BitVec.ofInt 40 (rawSum (first :: codes) (evenTicks w.b w.len)) ∧
       t.fld (R.ADC_AD_STAT n) F.ADC_AD_STAT.COUNT = evenTicks w.b w.len % 2 ^ F.ADC_AD_STAT.COUNT.width ∧
       (s.d0 = true → t.dt = max (s.dt + e) (w.b + w.len + 40)) ∧
       (Pushes (3 * 64 + n) (s.fld (R.ADC_AD_CFG n) F.ADC_AD_CFG.QUEUE) s t fun x => x.stamp = w.b ∧
         x.seq = w.no % 256 ∧ x.rep = w.rep ∧
       (x.sample, x.range) =
         samplesResult s (s.fld (R.ADC_AD_CFG n) F.ADC_AD_CFG.CHAN) w.cal (first :: codes) (max 1 (evenTicks w.b w.len))) ∧
       OnlyRegs [R.ADC_AD_INTSUM n, R.ADC_AD_STAT n, R.ADC_FLAGS] s t) ∧
  (∀ (e : Nat) (n : Fin 12) (code : Int) (s : State), adcMode s n = 3 → (s.adcOf n).act = true → (s.adcOf n).cont % 2
     ^ s.fld (R.ADC_AD_CFG n) F.ADC_AD_CFG.DEC = 0 → (s.xfOf (3 * 64 + n)).ents.length < 128 →
     Answers (.continuousSample e n code) s fun t =>
       (t.adcOf n).cont = (s.adcOf n).cont + 1 ∧
       (Pushes (3 * 64 + n) (s.fld (R.ADC_AD_CFG n) F.ADC_AD_CFG.QUEUE) s t fun x => x.stamp = t.dt - t.dt % 2 - 18 ∧
         x.seq = (s.adcOf n).cont / 2 ^ s.fld (R.ADC_AD_CFG n) F.ADC_AD_CFG.DEC % 256) ∧
       OnlyRegs [R.ADC_FLAGS] s t) ∧
  (∀ (e : Nat) (n : Fin 12) (diff : Nat) (s : State), s.bit (R.ADC_AD_STAT n) F.ADC_AD_STAT.FAILED = false → (256 <
     diff ∨ 32 < diff ∧ 3 ≤ (s.adcOf n).lanes) →
     Answers (.adcLane e n diff) s fun t =>
       t.bit (R.ADC_AD_STAT n) F.ADC_AD_STAT.FAILED = true ∧ t.bit (R.ADC_AD_STAT n) F.ADC_AD_STAT.RUN = false ∧
       t.bit R.ADC_FLAGS F.ADC_FLAGS.LANE = true ∧ (t.adcOf n).act = false ∧ (LogReady s → Logs EV.ADC_LANE n s t) ∧
       t.plc.fails = s.plc.fails ++ [{ kind := 4, index := n, stamp := t.dt }] ∧
       OnlyRegs (logRegs ++ [R.ADC_AD_STAT n, R.ADC_FLAGS]) s t ∧
       t = { s with el := t.el, dt := t.dt, regs := t.regs, ev := t.ev, rcd := t.rcd, meas := t.meas, plc := t.plc }) ∧
  (∀ (e : Nat) (n : Fin 12) (diff : Nat) (s : State), s.bit (R.ADC_AD_STAT n) F.ADC_AD_STAT.FAILED = false → diff ≤
     256 → (diff ≤ 32 ∨ (s.adcOf n).lanes < 3) →
     Answers (.adcLane e n diff) s fun t =>
       (t.adcOf n).lanes = (if 32 < diff then (s.adcOf n).lanes + 1 else 0) ∧ t = { s.tick e with meas := t.meas })

/-- Position inputs (R246 to R254): resolver faults and encoder errors are shown and told once a run; edges count up and
down modulo 2^16, the index pulse loads ZVAL; a good SENT message gives its status, a bad one is counted, and LOSTN of
silence lose the receiver. -/
def Obligations.PositionInputs : Prop :=
  (∀ (e : Nat) (r : Fin 2) (mv : BitVec 16) (err : BitVec 32) (s : State), (mv.toNat < 400 ∨ 4000 < mv.toNat ∨ 2 ^ 26
     < err.toInt.natAbs) →
     Answers (.resFault e r mv err) s fun t =>
       t.bit (R.ADC_RES_STAT r) F.ADC_RES_STAT.LOS = (decide (mv.toNat < 400) || decide (4000 < mv.toNat)) ∧
       t.bit (R.ADC_RES_STAT r) F.ADC_RES_STAT.LOT = decide (2 ^ 26 < err.toInt.natAbs) ∧
       t.bit R.ADC_FLAGS F.ADC_FLAGS.RES_FAULT = true ∧ bitN t.meas.resRun r = true ∧
       (bitN s.meas.resRun r = false → LogReady s → Logs EV.RES_FAULT r s t) ∧ (bitN s.meas.resRun r = true →
         t.ev = s.ev) ∧
       OnlyRegs (logRegs ++ [R.ADC_RES_STAT r, R.ADC_FLAGS]) s t) ∧
  (∀ (e : Nat) (r : Fin 2) (mv : BitVec 16) (err : BitVec 32) (s : State), 400 ≤ mv.toNat → mv.toNat ≤ 4000 →
     err.toInt.natAbs ≤ 2 ^ 26 →
     Answers (.resFault e r mv err) s fun t =>
       t.bit (R.ADC_RES_STAT r) F.ADC_RES_STAT.LOS = false ∧ t.bit (R.ADC_RES_STAT r) F.ADC_RES_STAT.LOT = false ∧
       bitN t.meas.resRun r = false ∧ OnlyRegs [R.ADC_RES_STAT r] s t ∧
       t = { s with el := t.el, dt := t.dt, regs := t.regs, meas := t.meas }) ∧
  (∀ (e : Nat) (k : Fin 2) (s : State), s.bit (R.ADC_ENC_CFG k) F.ADC_ENC_CFG.EN = true →
     Answers (.encFault e k) s fun t =>
       t.fld (R.ADC_ENC_STAT k) F.ADC_ENC_STAT.ERRS =
         satInc F.ADC_ENC_STAT.ERRS.width (s.fld (R.ADC_ENC_STAT k) F.ADC_ENC_STAT.ERRS) 1 ∧
       t.bit R.ADC_FLAGS F.ADC_FLAGS.ENC_ERR = true ∧ bitN t.meas.encQual k = true ∧
       (bitN s.meas.encRun k = false → LogReady s → Logs EV.ENC_FAULT k s t) ∧
       OnlyRegs (logRegs ++ [R.ADC_ENC_STAT k, R.ADC_FLAGS]) s t) ∧
  (∀ (e : Nat) (k : Fin 2) (s : State), s.bit (R.ADC_ENC_CFG k) F.ADC_ENC_CFG.EN = true → s.bit (R.ADC_ENC_CFG k)
     F.ADC_ENC_CFG.ZRST = true →
     Answers (.encZPulse e k) s fun t =>
       t.fld (R.ADC_ENC_STAT k) F.ADC_ENC_STAT.COUNT = s.fld (R.ADC_ENC_CFG k) F.ADC_ENC_CFG.ZVAL ∧
       bitN t.meas.encQual k = false ∧
       OnlyRegs [R.ADC_ENC_STAT k] s t ∧ t = { s with el := t.el, dt := t.dt, regs := t.regs, meas := t.meas }) ∧
  (∀ (e : Nat) (k : Fin 2) (s : State), (s.bit (R.ADC_ENC_CFG k) F.ADC_ENC_CFG.EN && s.bit (R.ADC_ENC_CFG k)
     F.ADC_ENC_CFG.ZRST) = false →
     Answers (.encZPulse e k) s fun t =>
       t = s.tick e) ∧
  (∀ (e : Nat) (k : Fin 2) (up : Bool) (held : Nat) (s : State), s.bit (R.ADC_ENC_CFG k) F.ADC_ENC_CFG.EN = true →
     s.fld (R.ADC_ENC_CFG k) F.ADC_ENC_CFG.FILT < held →
     Answers (.encoderEdge e k up ⟨held⟩) s fun t =>
       t.fld (R.ADC_ENC_STAT k) F.ADC_ENC_STAT.COUNT =
         (s.fld (R.ADC_ENC_STAT k) F.ADC_ENC_STAT.COUNT + if up then 1 else 65535) % 65536 ∧
       t.fld (R.ADC_ENC_STAT k) F.ADC_ENC_STAT.SPEED =
       unsx 16 (clampI (-32768) 32767 (encRpm (s.fld (R.ADC_ENC_CFG k) F.ADC_ENC_CFG.LINES) t.dt (AMap.getD t.meas.encEdge k []))) ∧ bitN t.meas.encRun k = false ∧
       (AMap.getD t.meas.encEdge k []).head? = some (t.dt, up) ∧
       (∀ x ∈ (AMap.getD t.meas.encEdge k []).drop 2, t.dt < x.1 + 20000) ∧
       OnlyRegs [R.ADC_ENC_STAT k] s t ∧ t = { s with el := t.el, dt := t.dt, regs := t.regs, meas := t.meas }) ∧
  (∀ (e : Nat) (k : Fin 2) (up : Bool) (held : Nat) (s : State), (s.bit (R.ADC_ENC_CFG k) F.ADC_ENC_CFG.EN = false ∨
     held ≤ s.fld (R.ADC_ENC_CFG k) F.ADC_ENC_CFG.FILT) →
     Answers (.encoderEdge e k up ⟨held⟩) s fun t =>
       t = s.tick e) ∧
  (∀ (e : Nat) (r : Fin 8) (cal : Nat) (pulses : List Nat) (s : State), s.bit (R.ADC_SENT_CFG r) F.ADC_SENT_CFG.EN =
     true → sentOk s r cal pulses = true → s.bit (R.ADC_SENT_STAT r) F.ADC_SENT_STAT.LOST = false → routed s (0x64 + 2
     * r) = none → routed s (0x65 + 2 * r) = none → routed s (0x65 + 2 * r - 1) = none → routed s (0x64 + 2 * r + 1) =
     none →
     Answers (.sentMessage e r cal pulses none) s fun t =>
       t.fld (R.ADC_SENT_STAT r) F.ADC_SENT_STAT.STATUS =
         ((pulses.map fun p => sentTicks cal p - 12).headD 0) % 2 ^ F.ADC_SENT_STAT.STATUS.width ∧
       t.bit (R.ADC_SENT_STAT r) F.ADC_SENT_STAT.UP = true ∧ (t.sentOf r).fails = 0 ∧ (t.sentOf r).lastOk = t.dt ∧
       t = { s with el := t.el, dt := t.dt, regs := t.regs, meas := t.meas, eng := t.eng } ∧
       ((∀ a : Fin 3, aCfg s a F.ACT_A_CFG.POSSRC ≠ 1) → OnlyRegs [R.ADC_SENT_STAT r] s t ∧ t.eng = s.eng)) ∧
  (∀ (e : Nat) (r : Fin 8) (cal : Nat) (pulses : List Nat) (slow : Option (Bool × BitVec 8 × BitVec 16)) (s : State),
     s.bit (R.ADC_SENT_CFG r) F.ADC_SENT_CFG.EN = true → sentOk s r cal pulses = false → (s.sentOf r).fails + 1 <
     s.fld (R.ADC_SENT_CFG r) F.ADC_SENT_CFG.LOSTN →
     Answers (.sentMessage e r cal pulses slow) s fun t =>
       t.fld (R.ADC_SENT_STAT r) F.ADC_SENT_STAT.ERRS =
         satInc F.ADC_SENT_STAT.ERRS.width (s.fld (R.ADC_SENT_STAT r) F.ADC_SENT_STAT.ERRS) 1 ∧
       t.bit R.ADC_FLAGS F.ADC_FLAGS.SENT_ERR = true ∧ (t.sentOf r).fails = (s.sentOf r).fails + 1 ∧
       (t.sentOf r).oks = 0 ∧
       ((∀ a : Fin 3, aCfg s a F.ACT_A_CFG.POSSRC ≠ 1) → OnlyRegs [R.ADC_SENT_STAT r, R.ADC_FLAGS] s t)) ∧
  (∀ (e : Nat) (r : Fin 8) (s : State), s.bit (R.ADC_SENT_CFG r) F.ADC_SENT_CFG.EN = true → s.bit (R.ADC_SENT_STAT r)
     F.ADC_SENT_STAT.LOST = false →
     Answers (.sentLost e r) s fun t =>
       t.bit (R.ADC_SENT_STAT r) F.ADC_SENT_STAT.LOST = true ∧ t.bit (R.ADC_SENT_STAT r) F.ADC_SENT_STAT.UP = false ∧
       (s.d0 = true → t.dt =
         max (s.dt + e) ((s.sentOf r).lastOk + 200000 * s.fld (R.ADC_SENT_CFG r) F.ADC_SENT_CFG.LOSTN)) ∧
       (LogReady s → Logs EV.SENT_LOST r s t) ∧ ((∀ a : Fin 3, aCfg s a F.ACT_A_CFG.POSSRC ≠ 1) → LogsOnly s t ∧
         OnlyRegs (logRegs ++ [R.ADC_SENT_STAT r]) s t))

/-! ### The DC link -/

/-- The chopper and regeneration (R409, R416 to R418): an assertion is shown and, with no plant and no shared chopper,
inhibits regeneration and begins absorption; the release starts 100 ms, and their end permits it again. The test pulse
needs a chopper. -/
def Obligations.ChopperAndRegeneration : Prop :=
  (∀ (e : Nat) (uv : BitVec 24) (s : State), pinAbove s (s.fld R.DCL_THR F.DCL_THR.VCHOP) uv.toNat = true →
     Answers (.chopAssert ⟨e, uv⟩) s fun t =>
       t.bit R.DCL_STAT F.DCL_STAT.CHOP_CMP = true ∧
       t.dcl.regenDue = none ∧
       t.dcl.testBad = true ∧
       (s.plant = none → s.pairUse.chop = false → s.discharging = false → t.bit R.DCL_STAT F.DCL_STAT.REGEN_INH =
       true ∧ (s.bit R.DCL_STAT F.DCL_STAT.REGEN_INH = false → t.bit R.DCL_STAT F.DCL_STAT.ABSORB = true ∧ t.bit
       R.DCL_FLAGS F.DCL_FLAGS.REGEN_INH = true ∧ (LogReady s → Logs EV.REGEN_INHIBIT 0xFF s t)))) ∧
  (∀ (e : Nat) (uv : BitVec 24) (s : State), pinAbove s (s.fld R.DCL_THR F.DCL_THR.VCHOP) uv.toNat = false →
     Answers (.chopAssert ⟨e, uv⟩) s fun t =>
       t = s.tick e) ∧
  (∀ (e : Nat) (uv : BitVec 24) (s : State), pinBelow s (s.fld R.DCL_THR F.DCL_THR.VCHOP) uv.toNat = true → s.bit
     R.DCL_STAT F.DCL_STAT.CHOP_CMP = true →
     Answers (.chopRelease ⟨e, uv⟩) s fun t =>
       t.bit R.DCL_STAT F.DCL_STAT.CHOP_CMP = false ∧
       t.dcl.regenDue = (if s.bit R.DCL_STAT F.DCL_STAT.REGEN_INH then some (t.dt + 20000000) else none) ∧
       Passes e s t ∧
       OnlyRegs [R.DCL_STAT, R.CHG_FLAGS, R.CHG_IRQ_STAT] s t ∧
       t = { s with el := t.el, dt := t.dt, regs := t.regs, dcl := t.dcl }) ∧
  (∀ (e d : Nat) (s : State), s.dcl.regenDue = some d → s.bit R.DCL_STAT F.DCL_STAT.REGEN_INH = true →
     Answers (.regenPermit e) s fun t =>
       t.bit R.DCL_STAT F.DCL_STAT.REGEN_INH = false ∧ t.bit R.DCL_STAT F.DCL_STAT.ABSORB = false ∧
       t.dcl.regenDue = none ∧
       (s.d0 = true → t.dt = max (s.dt + e) d) ∧ (LogReady s → Logs EV.REGEN_PERMIT 0xFF s t) ∧
       OnlyRegs (logRegs ++ [R.DCL_STAT, R.CHG_FLAGS, R.CHG_IRQ_STAT]) s t) ∧
  (∀ (e : Nat) (s : State), s.bit R.DCL_CHOP_CFG F.DCL_CHOP_CFG.TEST_EN = true → chopUnit s = none →
     Answers (.chopTestPulse e) s fun t =>
       t.dcl.testAt = t.dt ∧ t.dcl.testBad = s.bit R.DCL_STAT F.DCL_STAT.CHOP_CMP ∧
       (s.d0 = true → t.dt =
         max (s.dt + e) (s.dcl.testAt + s.fld R.DCL_CHOP_CFG F.DCL_CHOP_CFG.TEST_INT * 20000000)) ∧
       t = { s with el := t.el, dt := t.dt, dcl := t.dcl }) ∧
  (∀ (e k : Nat) (s : State), s.bit R.DCL_CHOP_CFG F.DCL_CHOP_CFG.TEST_EN = true → chopUnit s = some k → s.bit
     (R.PWM_HB_STAT k) F.PWM_HB_STAT.EN = true → s.dcl.testBad = false → chopAvail s = true → s.dcl.duty = 0 → s.fld
     R.DCL_CHOP_CFG F.DCL_CHOP_CFG.CMP < 64 →
     Answers (.chopTestPulse e) s fun t =>
       (t.unitOf k).edges = [⟨8 * t.dt, true, true, none,
         (8 * t.dt + (8 * t.dt + s.fld R.DCL_CHOP_CFG F.DCL_CHOP_CFG.TPULSE * 1600)) / 2⟩,
       ⟨8 * t.dt, false, true, none, 0⟩, ⟨8 * t.dt + s.fld R.DCL_CHOP_CFG F.DCL_CHOP_CFG.TPULSE * 1600, true, false,
         none, 0⟩,
       ⟨8 * t.dt + s.fld R.DCL_CHOP_CFG F.DCL_CHOP_CFG.TPULSE * 1600, false, false, none, 0⟩] ∧
       t = { s with el := t.el, dt := t.dt, dcl := t.dcl, unit := t.unit })

/-- Overvoltage (R419 to R422): OV1 sets its status and flag, ends a forced output and, outside STANDBY, is logged; its
end is logged and starts 100 ms, after which the hand-back ends its hold; OV2 sets its own and enters SAFE. -/
def Obligations.OvervoltageActs : Prop :=
  (∀ (e : Nat) (uv : BitVec 24) (s : State), pinAbove s (s.fld R.DCL_THR F.DCL_THR.OV1) uv.toNat = true → s.mode ≠
     Mode.standby →
     Answers (.ov1Assert ⟨e, uv⟩) s fun t =>
       t.bit R.DCL_STAT F.DCL_STAT.OV1 = true ∧
       t.bit R.DCL_FLAGS F.DCL_FLAGS.OV1 = true ∧
       t.bit R.PWM_FORCE F.PWM_FORCE.EN = false ∧
       t.dcl.ov1Due = none ∧
       (s.plant = none → (LogReady s → Logs EV.DCL_OV1 0xFF s t))) ∧
  (∀ (e c : Nat) (m : Fin 2) (uv : BitVec 24) (s : State), pinAbove s (s.fld R.DCL_THR F.DCL_THR.OV1) uv.toNat = true
     → s.mode ≠ Mode.standby → machConv s m = some c → s.bit (R.PROT_SS_STAT m) F.PROT_SS_STAT.APPLIED = false →
     Answers (.ov1Assert ⟨e, uv⟩) s fun t =>
       bitN (t.selOf m).why Why.ov1 = true ∧ t.bit (R.PROT_SS_STAT m) F.PROT_SS_STAT.APPLIED = true) ∧
  (∀ (e : Nat) (uv : BitVec 24) (s : State), (s.mode = Mode.standby ∨ pinAbove s (s.fld R.DCL_THR F.DCL_THR.OV1)
     uv.toNat = false) →
     Answers (.ov1Assert ⟨e, uv⟩) s fun t =>
       t = s.tick e) ∧
  (∀ (e : Nat) (uv : BitVec 24) (s : State), pinBelow s (s.fld R.DCL_THR F.DCL_THR.OV1) uv.toNat = true → s.bit
     R.DCL_STAT F.DCL_STAT.OV1 = true →
     Answers (.ov1Release ⟨e, uv⟩) s fun t =>
       t.bit R.DCL_STAT F.DCL_STAT.OV1 = false ∧
       t.dcl.ov1Due = some (t.dt + 20000000) ∧
       Passes e s t ∧
       (s.plant = none → (LogReady s → Logs EV.DCL_OV1_CLEAR 0xFF s t))) ∧
  (∀ (e d : Nat) (m : Fin 2) (s : State), s.dcl.ov1Due = some d → s.mode ≠ Mode.safe →
     Answers (.ov1HandBack e) s fun t =>
       t.dcl.ov1Due = none ∧ (s.d0 = true → t.dt = max (s.dt + e) d) ∧ bitN (t.selOf m).why Why.ov1 = false ∧
       t = { s with el := t.el, dt := t.dt, dcl := t.dcl, sel := t.sel }) ∧
  (∀ (e : Nat) (uv : BitVec 24) (s : State), pinAbove s (s.fld R.DCL_THR F.DCL_THR.OV2) uv.toNat = true → s.mode ≠
     Mode.standby →
     Answers (.ov2Assert ⟨e, uv⟩) s fun t =>
       t.bit R.DCL_STAT F.DCL_STAT.OV2 = true ∧
       t.bit R.DCL_FLAGS F.DCL_FLAGS.OV2 = true ∧
       EntersSafe Cause.ov2 s t ∧
       (s.plant = none → (LogReady s → Logs EV.DCL_OV2 0xFF s t))) ∧
  (∀ (e : Nat) (uv : BitVec 24) (s : State), pinAbove s (s.fld R.DCL_THR F.DCL_THR.OV2) uv.toNat = false →
     Answers (.ov2Assert ⟨e, uv⟩) s fun t =>
       t = s.tick e)

/-- The monitor (R395, R399, R424 to R426): its reading is shown; in DRIVE and CHARGE a reading under VUV sets UV, and
one at VLOW clears it; a failed check sets SENSE and MON_FAULT, and the tenth good one in a row clears the fault. -/
def Obligations.LinkMonitored : Prop :=
  (∀ (e : Nat) (vl : BitVec 13) (s : State), (s.mode = Mode.drive ∨ s.mode = Mode.charge) → vl.toNat < 2 * s.fld
     R.DCL_HYS F.DCL_HYS.VUV → s.bit R.DCL_STAT F.DCL_STAT.UV = false →
     Answers (.dclUv e vl) s fun t =>
       vlink t = vl.toNat ∧ t.bit R.DCL_STAT F.DCL_STAT.UV = true ∧ t.bit R.DCL_FLAGS F.DCL_FLAGS.UV = true ∧
       (LogReady s → Logs EV.DCL_UV 0xFF s t) ∧ OnlyRegs (logRegs ++ [R.DCL_STAT, R.DCL_FLAGS, R.CHG_FLAGS,
         R.CHG_IRQ_STAT]) s t) ∧
  (∀ (e : Nat) (vl : BitVec 13) (s : State), 2 * s.fld R.DCL_HYS F.DCL_HYS.VLOW ≤ vl.toNat →
     Answers (.uvClear e vl) s fun t =>
       vlink t = vl.toNat ∧ t.bit R.DCL_STAT F.DCL_STAT.UV = false ∧
       OnlyRegs [R.DCL_STAT, R.CHG_FLAGS, R.CHG_IRQ_STAT] s t) ∧
  (∀ (e : Nat) (vl : BitVec 13) (s : State), vl.toNat < 2 * s.fld R.DCL_HYS F.DCL_HYS.VLOW →
     Answers (.uvClear e vl) s fun t =>
       vlink t = vl.toNat ∧ t.bit R.DCL_STAT F.DCL_STAT.UV = s.bit R.DCL_STAT F.DCL_STAT.UV ∧
       OnlyRegs [R.DCL_STAT, R.CHG_FLAGS, R.CHG_IRQ_STAT] s t) ∧
  (∀ (e : Nat) (mv vl : BitVec 13) (s : State), (mv.toNat < 1980 ∨ 2020 < mv.toNat) →
     Answers (.dclSense e mv vl) s fun t =>
       vlink t = vl.toNat ∧ t.bit R.DCL_STAT F.DCL_STAT.MON_FAULT = true ∧
       t.bit R.DCL_FLAGS F.DCL_FLAGS.SENSE = true ∧ t.dcl.good = 0 ∧
       (s.bit R.DCL_STAT F.DCL_STAT.MON_FAULT = false → LogReady s → Logs EV.DCL_SENSE 0xFF s t) ∧
       OnlyRegs (logRegs ++ [R.DCL_STAT, R.DCL_FLAGS, R.CHG_FLAGS, R.CHG_IRQ_STAT]) s t) ∧
  (∀ (e : Nat) (mv vl : BitVec 13) (s : State), 1980 ≤ mv.toNat → mv.toNat ≤ 2020 →
     Answers (.dclSense e mv vl) s fun t =>
       vlink t = vl.toNat ∧ t.dcl.good = s.dcl.good + 1 ∧ OnlyRegs [R.DCL_STAT, R.CHG_FLAGS, R.CHG_IRQ_STAT] s t ∧
       t.bit R.DCL_STAT F.DCL_STAT.MON_FAULT = (s.bit R.DCL_STAT F.DCL_STAT.MON_FAULT && decide (s.dcl.good < 9)))

/-! ### Traction, actuators -/

/-- A machine's timers and checks (R365, R366, R368, R373, R377, R385, R387 to R390): the sensor's return starts the
ramp back, a retry counts, the short brake is entered and left, a lost request is flagged and limps, a back-EMF window
closes with its ratio, and a map's validation ends by its CRC. -/
def Obligations.TractionSupervised : Prop :=
  (∀ (e d : Nat) (m : Fin 2) (s : State), (s.trxOf m).retSince = some d →
     Answers (.sensorReturn e m) s fun t =>
       (t.trxOf m).retRamp = true ∧ (t.trxOf m).retSince = none ∧ (s.d0 = true →
         t.dt = max (s.dt + e) (d + 200000000)) ∧
       t = { s with el := t.el, dt := t.dt, trx := t.trx }) ∧
  (∀ (e : Nat) (m : Fin 2) (c : Nat) (s : State), machConv s m = some c → tState s m = Ts.wait → s.fld (R.TRX_M_STAT
     m) F.TRX_M_STAT.ATTEMPT < 3 →
     Answers (.startRetry e m) s fun t =>
       t.fld (R.TRX_M_STAT m) F.TRX_M_STAT.ATTEMPT = s.fld (R.TRX_M_STAT m) F.TRX_M_STAT.ATTEMPT + 1 ∧
       (s.d0 = true → t.dt = max (s.dt + e) ((s.trxOf m).waitAt + 40000000)) ∧ (LogReady s →
         Logs EV.START_RETRY m s t) ∧
       (s.bit (R.TRX_M_CTRL m) F.TRX_M_CTRL.EN = false → tState t m = Ts.off ∧ t.trx = s.trx ∧ t.conv = s.conv ∧
         t.sel = s.sel)) ∧
  (∀ (e : Nat) (m : Fin 2) (c : Nat) (s : State), machConv s m = some c → tState s m = Ts.wait → gateMay (setT m
     Ts.off s) m c = true →
     Answers (.startRetry e m) s fun t =>
       t.bit (R.TRX_M_STAT m) F.TRX_M_STAT.GATE = true ∧ (t.trxOf m).t = 0 ∧ (t.convOf c).en = true ∧
       tState t m = (if t.bit (R.TRX_M_STAT m) F.TRX_M_STAT.ANGLE_SRC && !s.bit (R.TRX_M_OBS m) F.TRX_M_OBS.OK then Ts.starting else Ts.run)) ∧
  (∀ (e d : Nat) (m : Fin 2) (s : State), tState s m = Ts.run → (s.trxOf m).sbSince = some d →
     Answers (.shortBrake e m) s fun t =>
       tState t m = Ts.short ∧ (t.trxOf m).t = 0 ∧ (s.d0 = true → t.dt = max (s.dt + e) (d + 4000000)) ∧
       (LogReady s → Logs EV.SHORT_BRAKE m s t) ∧ OnlyRegs (logRegs ++ [R.TRX_M_STAT m]) s t ∧
       t = { s with el := t.el, dt := t.dt, regs := t.regs, ev := t.ev, rcd := t.rcd, trx := t.trx }) ∧
  (∀ (e d : Nat) (m : Fin 2) (s : State), tState s m = Ts.short → (s.trxOf m).sbIdle = some d →
     Answers (.shortBrake e m) s fun t =>
       tState t m = Ts.run ∧ (t.trxOf m).sbIdle = none ∧ (t.trxOf m).sbSince = none ∧ (s.d0 = true →
         t.dt = max (s.dt + e) (d + 4000000)) ∧
       (LogReady s → Logs EV.SHORT_BRAKE m s t) ∧ OnlyRegs (logRegs ++ [R.TRX_M_STAT m]) s t) ∧
  (∀ (e : Nat) (m : Fin 2) (s : State), s.fld (R.TRX_M_CFG m) F.TRX_M_CFG.TREQ_TMO ≠ 0 → s.bit (R.TRX_M_CTRL m)
     F.TRX_M_CTRL.EN = true → s.bit (R.TRX_M_STAT m) F.TRX_M_STAT.TREQ_LOST = false →
     Answers (.treqLost e m) s fun t =>
       t.bit (R.TRX_M_STAT m) F.TRX_M_STAT.TREQ_LOST = true ∧
       t.bit R.TRX_FLAGS (if m = 0 then F.TRX_FLAGS.TREQ_LOST0 else F.TRX_FLAGS.TREQ_LOST1) = true ∧
       (s.d0 = true → t.dt =
         max (s.dt + e) ((s.trxOf m).lastTreq + 200000 * s.fld (R.TRX_M_CFG m) F.TRX_M_CFG.TREQ_TMO)) ∧
       (LogReady s → Logs EV.TREQ_LOST m s t) ∧ OnlyRegs (logRegs ++ [R.TRX_M_STAT m, R.TRX_FLAGS]) s t ∧
       (s.bit (R.TRX_M_CFG m) F.TRX_M_CFG.LIMP_AUTO = true → t.bit (R.TRX_M_STAT m) F.TRX_M_STAT.LIMP_ACT = true ∧
         (t.trxOf m).limpAuto = true)) ∧
  (∀ (e : Nat) (m : Fin 2) (s : State), s.fld (R.TRX_M_KE m) F.TRX_M_KE.PSI ≠ 0 → (s.trxOf m).keOk = true → 0 <
     (s.trxOf m).keCnt →
     Answers (.keWindow e m) s fun t =>
       t.bit (R.TRX_M_KE_STAT m) F.TRX_M_KE_STAT.VALID = true ∧
       t.fld (R.TRX_M_KE_STAT m) F.TRX_M_KE_STAT.RATIO =
       (clampI 0 65535 (ndiv ((s.trxOf m).keSum * 2 ^ 14) (s.fld (R.TRX_M_KE m) F.TRX_M_KE.PSI * (s.trxOf m).keCnt))).toNat ∧
       (t.trxOf m).keAt = t.dt ∧ (t.trxOf m).keSum = 0 ∧ (t.trxOf m).keCnt = 0 ∧
       (s.d0 = true → t.dt = max (s.dt + e) ((s.trxOf m).keAt + 20000000))) ∧
  (∀ (e : Nat) (m : Fin 2) (s : State), s.fld (R.TRX_M_KE m) F.TRX_M_KE.PSI ≠ 0 → ((s.trxOf m).keOk = false ∨ (s.trxOf
     m).keCnt = 0) →
     Answers (.keWindow e m) s fun t =>
       t.bit (R.TRX_M_KE_STAT m) F.TRX_M_KE_STAT.VALID = false ∧ (t.trxOf m).keOk = true ∧ (t.trxOf m).keCnt = 0 ∧
       OnlyRegs [R.TRX_M_KE_STAT m] s t ∧ t = { s with el := t.el, dt := t.dt, regs := t.regs, trx := t.trx }) ∧
  (∀ (e d : Nat) (m : Fin 2) (s : State), s.trx.valid = some (m.val, d) → mapCrc s m = s.fld (R.TRX_M_CRC m)
     F.TRX_M_CRC.CRC →
     Answers (.mapValidateDone e) s fun t =>
       t.bit R.TRX_MAP_STAT (if m = 0 then F.TRX_MAP_STAT.VALID0 else F.TRX_MAP_STAT.VALID1) = true ∧
       t.bit R.TRX_MAP_STAT (if m = 0 then F.TRX_MAP_STAT.STORED0 else F.TRX_MAP_STAT.STORED1) = true ∧
       t.bit R.TRX_MAP_STAT F.TRX_MAP_STAT.BUSY = false ∧ t.trx.valid = none ∧ (LogReady s → Logs EV.MAP_VALID m s t)) ∧
  (∀ (e d : Nat) (m : Fin 2) (s : State), s.trx.valid = some (m.val, d) → mapCrc s m ≠ s.fld (R.TRX_M_CRC m)
     F.TRX_M_CRC.CRC →
     Answers (.mapValidateDone e) s fun t =>
       t.bit R.TRX_MAP_STAT (if m = 0 then F.TRX_MAP_STAT.VALID0 else F.TRX_MAP_STAT.VALID1) = false ∧
       t.bit R.TRX_MAP_STAT F.TRX_MAP_STAT.BUSY = false ∧ t.trx.valid = none ∧ t.trx.stored = s.trx.stored ∧
       (LogReady s → Logs EV.MAP_INVALID m s t))

/-- An actuator (R468 to R475): ALIGN gives way to the ramp, a ramp that runs out aborts the start, which is retried or
fails (none of the three while DRIVE or CHARGE is left, R475), a move ends in position or by its timeout, and the end of
a brake tells a failed start, a fault or OFF. -/
def Obligations.ActuatorStartsAndMoves : Prop :=
  (∀ (e : Nat) (a : Fin 3) (s : State), actMode s = true → aState s a = As.starting → s.fld (R.ACT_A_STAT a)
     F.ACT_A_STAT.START_PH = 1 →
     Answers (.alignEnd e a) s fun t =>
       t.fld (R.ACT_A_STAT a) F.ACT_A_STAT.START_PH = 2 ∧ aState t a = As.starting ∧ (t.actOf a).phAt = t.dt ∧
       (s.d0 = true → t.dt =
         max (s.dt + e) ((s.actOf a).phAt + s.fld (R.ACT_A_START a) F.ACT_A_START.TALIGN * 1000000)) ∧
       OnlyRegs [R.ACT_A_STAT a] s t ∧ t =
         { s with el := t.el, dt := t.dt, regs := t.regs, act := t.act, conv := t.conv, eng := t.eng }) ∧
  (∀ (e : Nat) (a : Fin 3) (s : State), actMode s = true → aState s a = As.starting → s.fld (R.ACT_A_STAT a)
     F.ACT_A_STAT.START_PH = 2 →
     Answers (.actRampTimeout e a) s fun t =>
       t.fld (R.ACT_A_STAT a) F.ACT_A_STAT.ABORT_WHY = 2 ∧ t.fld (R.ACT_A_STAT a) F.ACT_A_STAT.START_PH = 0 ∧
       aState t a = (if s.fld (R.ACT_A_STAT a) F.ACT_A_STAT.ATTEMPT < 3 then As.wait else As.failed) ∧
       (if s.fld (R.ACT_A_STAT a) F.ACT_A_STAT.ATTEMPT < 3 then (t.actOf a).waitAt = t.dt else (t.actOf a).brakeEnd =
         some (t.dt + 20000000)) ∧
       (s.d0 = true → t.dt = max (s.dt + e) ((s.actOf a).phAt + 200000000)) ∧
       OnlyRegs [R.ACT_A_STAT a] s t ∧ t =
         { s with el := t.el, dt := t.dt, regs := t.regs, act := t.act, conv := t.conv, eng := t.eng }) ∧
  (∀ (e : Nat) (a : Fin 3) (s : State), actMode s = true → aState s a = As.wait →
     Answers (.actStartRetry e a) s fun t =>
       aState t a = As.starting ∧ t.fld (R.ACT_A_STAT a) F.ACT_A_STAT.START_PH = 1 ∧
       t.fld (R.ACT_A_STAT a) F.ACT_A_STAT.ATTEMPT =
         (s.fld (R.ACT_A_STAT a) F.ACT_A_STAT.ATTEMPT + 1) % 2 ^ F.ACT_A_STAT.ATTEMPT.width ∧
       (t.actOf a).phAt = t.dt ∧ (s.d0 = true → t.dt = max (s.dt + e) ((s.actOf a).waitAt + 20000000)) ∧
       (LogReady s → Logs EV.ACT_START_RETRY a s t) ∧ OnlyRegs (logRegs ++ [R.ACT_A_STAT a]) s t) ∧
  (∀ (e : Nat) (a : Fin 3) (s : State), actMode s = false →
     Answers (.alignEnd e a) s fun t =>
       t = s.tick e) ∧
  (∀ (e : Nat) (a : Fin 3) (s : State), actMode s = false →
     Answers (.actRampTimeout e a) s fun t =>
       t = s.tick e) ∧
  (∀ (e : Nat) (a : Fin 3) (s : State), actMode s = false →
     Answers (.actStartRetry e a) s fun t =>
       t = s.tick e) ∧
  (∀ (e d : Nat) (a : Fin 3) (s : State), (s.actOf a).posSince = some d → aState s a = As.moving →
     Answers (.inPosition e a) s fun t =>
       t.bit (R.ACT_A_STAT a) F.ACT_A_STAT.INPOS = true ∧ (t.actOf a).posSince = none ∧
       aState t a = (if s.fld (R.ACT_A_CFG a) F.ACT_A_CFG.HOLDM = 1 then As.brake else As.hold) ∧
       (s.d0 = true → t.dt = max (s.dt + e) (d + 4000000)) ∧ OnlyRegs [R.ACT_A_STAT a] s t) ∧
  (∀ (e : Nat) (a : Fin 3) (s : State), aState s a = As.moving →
     Answers (.actTimeout e a) s fun t =>
       aState t a = As.brake ∧ bitN (t.fld R.ACT_FLAGS F.ACT_FLAGS.TIMEOUT) a = true ∧
       (s.d0 = true → t.dt =
         max (s.dt + e) ((s.actOf a).moveAt + s.fld (R.ACT_A_CFG a) F.ACT_A_CFG.TMOVE * 2000000)) ∧
       (LogReady s → Logs EV.ACT_TIMEOUT a s t) ∧ OnlyRegs (logRegs ++ [R.ACT_A_STAT a, R.ACT_FLAGS]) s t) ∧
  (∀ (e d : Nat) (a : Fin 3) (s : State), s.lvEnd = none → (s.actOf a).brakeEnd = some d → aState s a = As.failed →
     Answers (.actBrakeEnd e a) s fun t =>
       bitN (t.fld R.ACT_FLAGS F.ACT_FLAGS.START_FAIL) a = true ∧ (t.actOf a).brakeEnd = none ∧
       aState t a = As.failed ∧
       (s.d0 = true → t.dt = max (s.dt + e) d) ∧ (LogReady s → Logs EV.ACT_START_FAILED a s t) ∧
       OnlyRegs (logRegs ++ [R.ACT_FLAGS]) s t) ∧
  (∀ (e d : Nat) (a : Fin 3) (s : State), s.lvEnd = none → (s.actOf a).brakeEnd = some d → aState s a = As.brake →
     (s.actOf a).toFault = true →
     Answers (.actBrakeEnd e a) s fun t =>
       bitN (t.fld R.ACT_FLAGS F.ACT_FLAGS.FAULT) a = true ∧ (t.actOf a).brakeEnd = none ∧ aState t a = As.fault ∧
       (LogReady s → Logs EV.ACT_FAULT a s t) ∧ OnlyRegs (logRegs ++ [R.ACT_FLAGS, R.ACT_A_STAT a]) s t) ∧
  (∀ (e d : Nat) (a : Fin 3) (s : State), s.lvEnd = none → (s.actOf a).brakeEnd = some d → aState s a = As.brake →
     (s.actOf a).toFault = false → s.bit (R.ACT_A_CTRL a) F.ACT_A_CTRL.BRAKE = false →
     Answers (.actBrakeEnd e a) s fun t =>
       (t.actOf a).brakeEnd = none ∧ aState t a = As.off ∧ OnlyRegs [R.ACT_A_STAT a] s t) ∧
  (∀ (e d : Nat) (a : Fin 3) (s : State), s.lvEnd = some d → s.mode = Mode.safe → (s.actOf a).brakeEnd = none →
     Answers (.actBrakeEnd e a) s fun t =>
       t.lvEnd = none ∧ (∀ g : Fin 18, (t.islOf (64 + g)).cmdOn = false) ∧ (s.d0 = true → t.dt = max (s.dt + e) d))

/-- Hall codes and the low-voltage gates (R465, R466, R476 to R478, R480): a step to a neighbour counts, a jump or an
illegal code is an error; a lock-out darkens its channels and is shown, its release ends it; a gate that disagrees is
flagged. -/
def Obligations.HallAndLowVoltageGates : Prop :=
  (∀ (e k : Nat) (a : Fin 3) (code : Fin 8) (s : State), hallSector code = some k → (s.actOf a).sector = none →
     Answers (.hallChange e a code) s fun t =>
       (t.actOf a).sector = some k ∧ (t.actOf a).cnt = (s.actOf a).cnt ∧ OnlyRegs [R.ACT_A_STAT a] s t ∧ Passes e s t) ∧
  (∀ (e k j : Nat) (a : Fin 3) (code : Fin 8) (s : State), hallSector code = some k → (s.actOf a).sector = some j → j
     < 6 → ((k + 6 - j) % 6 = 1 ∨ (k + 6 - j) % 6 = 5) →
     Answers (.hallChange e a code) s fun t =>
       (t.actOf a).sector = some k ∧ (t.actOf a).cnt = (s.actOf a).cnt + (if (k + 6 - j) % 6 = 1 then 1 else -1) ∧
       (t.actOf a).errRun = false ∧ OnlyRegs [R.ACT_A_STAT a] s t) ∧
  (∀ (e k j : Nat) (a : Fin 3) (code : Fin 8) (s : State), hallSector code = some k → (s.actOf a).sector = some j → j
     < 6 → 2 ≤ (k + 6 - j) % 6 → (k + 6 - j) % 6 ≤ 4 →
     Answers (.hallChange e a code) s fun t =>
       (t.actOf a).sector = some k ∧
       (t.actOf a).cnt = (s.actOf a).cnt ∧
       bitN (t.fld R.ACT_FLAGS F.ACT_FLAGS.HALL) a = true) ∧
  (∀ (e : Nat) (a : Fin 3) (code : Fin 8) (s : State), hallSector code = none →
     Answers (.hallChange e a code) s fun t =>
       t = s.tick e) ∧
  (∀ (e : Nat) (a : Fin 3) (s : State),
     Answers (.hallCodeError e a) s fun t =>
       bitN (t.fld R.ACT_FLAGS F.ACT_FLAGS.HALL) a = true ∧
       (t.actOf a).errRun = true ∧
       (s.plant = none → ((s.actOf a).errRun = false → LogReady s → Logs EV.ACT_HALL a s t))) ∧
  (∀ (e : Nat) (s : State),
     Answers (.lvLockout e 9) s fun t =>
       t.bit R.ACT_LV_STAT F.ACT_LV_STAT.VAUX_OK = false ∧
       t.bit R.ACT_LV_FLAGS F.ACT_LV_FLAGS.VAUX_UV = true ∧
       t.bit R.DEV_SUPPLY F.DEV_SUPPLY.VAUX_OK = false ∧
       t.fld R.ACT_LV_STAT F.ACT_LV_STAT.GATE = 0 ∧
       (s.plant = none → (LogReady s → Logs EV.SUPPLY_LOW 0xFF s t) ∧ OnlyRegs (logRegs ++ [R.ACT_LV_STAT,
       R.ACT_LV_FLAGS, R.DEV_SUPPLY]) s t ∧ LogsOnly s t)) ∧
  (∀ (e : Nat) (w : Fin 10) (s : State), w ≠ 9 →
     Answers (.lvLockout e w) s fun t =>
       bitN (t.fld R.ACT_LV_STAT F.ACT_LV_STAT.BOOT_OK) w = false ∧
       bitN (t.fld R.ACT_LV_FLAGS F.ACT_LV_FLAGS.BOOT_UV) w = true ∧
       bitN (t.fld R.ACT_LV_STAT F.ACT_LV_STAT.GATE) (2 * w) = false ∧ (LogReady s → Logs EV.LV_BOOT_UV (2 * w) s t) ∧
       OnlyRegs (logRegs ++ [R.ACT_LV_STAT, R.ACT_LV_FLAGS]) s t ∧ LogsOnly s t) ∧
  (∀ (e : Nat) (s : State), (∀ g : Fin 18, (s.islOf (64 + g)).cmdOn = false) →
     Answers (.lvLockoutRelease e 9) s fun t =>
       t.bit R.ACT_LV_STAT F.ACT_LV_STAT.VAUX_OK = true ∧ t.bit R.DEV_SUPPLY F.DEV_SUPPLY.VAUX_OK = true ∧
       OnlyRegs [R.ACT_LV_STAT, R.DEV_SUPPLY] s t ∧ RegsOnly s t) ∧
  (∀ (e : Nat) (w : Fin 10) (s : State), w ≠ 9 →
     Answers (.lvLockoutRelease e w) s fun t =>
       bitN (t.fld R.ACT_LV_STAT F.ACT_LV_STAT.BOOT_OK) w = true ∧ OnlyRegs [R.ACT_LV_STAT] s t ∧
       t = { s with el := t.el, dt := t.dt, regs := t.regs, isl := t.isl }) ∧
  (∀ (e mv : Nat) (ch : Fin 18) (s : State), s.bit R.ACT_LV_CFG F.ACT_LV_CFG.FB_EN = true → (if (s.islOf (64 +
     ch)).cmdOn then mv < 6000 else 2000 < mv) →
     Answers (.lvGateCheck e ch mv) s fun t =>
       bitN (t.fld R.ACT_LV_FLAGS F.ACT_LV_FLAGS.GATE_FB) ch = true ∧
       (t.islOf (64 + ch)).cmdOn = false ∧
       (s.plant = none → (LogReady s → Logs EV.LV_GATE ch s t))) ∧
  (∀ (e mv : Nat) (ch : Fin 18) (s : State), (s.bit R.ACT_LV_CFG F.ACT_LV_CFG.FB_EN = false ∨ (if (s.islOf (64 +
     ch)).cmdOn then 6000 ≤ mv else mv ≤ 2000)) →
     Answers (.lvGateCheck e ch mv) s fun t =>
       t = s.tick e)

/-! ### Charging, lifetime, the placer -/

/-- A charging session (R441 to R447, R450): the handover ends by its deadline with HO_SLOW, a suspension by its 60 s,
the loss and the return of the battery temperature are shown, and the clock of 3 × TNOM times the session out, which a
thermal suspension ends LOCKED. -/
def Obligations.ChargeSequencer : Prop :=
  (∀ (e : Nat) (s : State), session s = Ch.handover → s.chg.causes = [] →
     Answers (.handoverDeadline e) s fun t =>
       session t = Ch.suspend ∧
       t.bit R.CHG_FLAGS F.CHG_FLAGS.HO_SLOW = true ∧
       (s.d0 = true → t.dt = max (s.dt + e) (s.chg.s + 4000000)) ∧
       (s.plant = none → (LogReady s → Logs EV.CHG_HANDOVER_DONE 0xFF s t))) ∧
  (∀ (e w : Nat) (s : State), session s = Ch.handover → s.chg.causes = [w] → w < 15 → w ≠ 3 →
     Answers (.handoverDeadline e) s fun t =>
       session t = Ch.ended ∧
       t.fld R.CHG_STAT F.CHG_STAT.END_WHY = w ∧
       t.bit R.CHG_FLAGS F.CHG_FLAGS.HO_SLOW = true ∧
       t.chg.causes = []) ∧
  (∀ (e : Nat) (s : State), session s = Ch.handover → s.chg.causes = [3] →
     Answers (.handoverDeadline e) s fun t =>
       session t = Ch.locked ∧
       t.fld R.CHG_STAT F.CHG_STAT.END_WHY = 3 ∧
       t.bit R.CHG_FLAGS F.CHG_FLAGS.HO_SLOW = true) ∧
  (∀ (e : Nat) (s : State), session s ≠ Ch.handover →
     Answers (.handoverDeadline e) s fun t =>
       t = s.tick e) ∧
  (∀ (e : Nat) (s : State), session s = Ch.suspend → s.chg.replug = false →
     Answers (.suspendExpiry e) s fun t =>
       session t = Ch.ended ∧
       t.fld R.CHG_STAT F.CHG_STAT.END_WHY = 6 ∧
       (s.d0 = true → t.dt = max (s.dt + e) (s.chg.s + 12000000000))) ∧
  (∀ (e : Nat) (s : State), s.fld R.CHG_CFG F.CHG_CFG.TSRC = 0 →
     Answers (.chgTbat e) s fun t =>
       t.bit R.CHG_STAT F.CHG_STAT.TBAT_OK = false ∧ t.bit R.CHG_FLAGS F.CHG_FLAGS.TBAT = true ∧
       (s.d0 = true → t.dt = max (s.dt + e) (s.chg.tbatAt + 20000000 * s.fld R.CHG_CFG F.CHG_CFG.TTMO)) ∧
       (LogReady s → Logs EV.CHG_TBAT 0xFF s t) ∧ t.chg = { s.chg with tbatAt := t.dt } ∧
       LogsOnly s { t with chg := s.chg } ∧ OnlyRegs (logRegs ++ [R.CHG_STAT, R.CHG_FLAGS, R.CHG_IRQ_STAT]) s t) ∧
  (∀ (e uv : Nat) (s : State), s.fld R.CHG_CFG F.CHG_CFG.TSRC = 1 → (uv < 50000 ∨ 4050000 < uv) →
     Answers (.batteryNtcEval e uv) s fun t =>
       t.bit R.CHG_STAT F.CHG_STAT.TBAT_OK = false ∧ t.bit R.CHG_FLAGS F.CHG_FLAGS.TBAT = true ∧ (LogReady s →
         Logs EV.CHG_TBAT 0xFF s t)) ∧
  (∀ (e uv : Nat) (s : State), s.fld R.CHG_CFG F.CHG_CFG.TSRC = 1 → 50000 ≤ uv → uv ≤ 4050000 →
     Answers (.batteryNtcEval e uv) s fun t =>
       t.bit R.CHG_STAT F.CHG_STAT.TBAT_OK = true ∧ t.chg.tbatAt = t.dt ∧ Passes e s t ∧
       t.chg.tbat = some (ntcTemp (100 * s.fld R.CHG_NTC F.CHG_NTC.RPU * uv) (4096000 - uv) (10 * s.fld R.CHG_NTC F.CHG_NTC.RES25)
       (s.fld R.CHG_NTC F.CHG_NTC.BETA)) ∧
       OnlyRegs (logRegs ++ [R.CHG_STAT, R.CHG_IRQ_STAT]) s t) ∧
  (∀ (e : Nat) (s : State), session s = Ch.run → s.chg.began = true → s.fld R.CHG_STAT F.CHG_STAT.PHASE ≠ 4 →
     s.chg.causes.contains 2 = false → s.chg.causes.contains 3 = false → s.bit R.CHG_STAT F.CHG_STAT.THERM_LIM = false
     →
     Answers (.chgTimeout e) s fun t =>
       t.bit R.CHG_FLAGS F.CHG_FLAGS.TIMEOUT = true ∧ (LogReady s → Logs EV.CHG_TIMEOUT 0xFF s t)) ∧
  (∀ (e : Nat) (s : State), session s = Ch.suspend → s.chg.began = true → s.fld R.CHG_STAT F.CHG_STAT.PHASE ≠ 4 →
     s.chg.causes.contains 2 = false → s.chg.causes.contains 3 = false → s.bit R.CHG_STAT F.CHG_STAT.THERM_LIM = true
     →
     Answers (.chgTimeout e) s fun t =>
       t.bit R.CHG_FLAGS F.CHG_FLAGS.TIMEOUT_THERMAL = true ∧
       session t = Ch.locked ∧
       t.fld R.CHG_STAT F.CHG_STAT.END_WHY = 3 ∧
       (s.plant = none → (LogReady s → Logs EV.CHG_TIMEOUT_THERMAL 0xFF s t)))

/-- The control pilot (R305 to R307, R430, R431): a cycle inside 980 to 1,020 Hz with one fall is accepted with its
duty, another clears the run; three that agree present a new duty; a steady level presents 100 % or 0; 10 ms without a
cycle present 0; a steady window is decoded. -/
def Obligations.ControlPilotRead : Prop :=
  (∀ (e len high falls : Nat) (hs : Int) (hn : Nat) (ls : Int) (ln : Nat) (s : State), s.boot.phase = .run → 196079 ≤
     len → len < 204082 → falls = 1 →
     Answers (.pilotCycle e len high falls hs hn ls ln) s fun t =>
       t.bit R.CHG_CP_STAT F.CHG_CP_STAT.PWM = true ∧ t.pilot.steady = false ∧ t.pilot.lastOk = t.dt ∧ Passes e s t ∧
       t.pilot.hist = ((2 * high * 2 ^ 31 + len) / (2 * len) :: s.pilot.hist).take 3 ∧
       (s.pilot.hist.length < 2 → t.pilot.duty = s.pilot.duty)) ∧
  (∀ (e len high b c falls : Nat) (hs : Int) (hn : Nat) (ls : Int) (ln : Nat) (s : State), s.boot.phase = .run →
     196079 ≤ len → len < 204082 → falls = 1 → s.pilot.hist.take 2 = [b, c] → max ((2 * high * 2 ^ 31 + len) / (2 *
     len)) (max b c) ≤ min ((2 * high * 2 ^ 31 + len) / (2 * len)) (min b c) + 10737418 →
     Answers (.pilotCycle e len high falls hs hn ls ln) s fun t =>
       t.pilot.duty = (2 * high * 2 ^ 31 + len) / (2 * len) ∧
       ((2 * high * 2 ^ 31 + len) / (2 * len) ≠ s.pilot.duty →
       t.fld R.CHG_CP_STAT F.CHG_CP_STAT.DUTY =
         (1000 * ((2 * high * 2 ^ 31 + len) / (2 * len)) + 2 ^ 30) / 2 ^ 31 % 2 ^ F.CHG_CP_STAT.DUTY.width ∧
       t.fld R.CHG_CP_STAT F.CHG_CP_STAT.ICP =
         icpOf ((2 * high * 2 ^ 31 + len) / (2 * len)) % 2 ^ F.CHG_CP_STAT.ICP.width)) ∧
  (∀ (e len high falls : Nat) (hs : Int) (hn : Nat) (ls : Int) (ln : Nat) (s : State), s.boot.phase = .run → (len <
     196079 ∨ 204082 ≤ len ∨ falls ≠ 1) →
     Answers (.pilotCycle e len high falls hs hn ls ln) s fun t =>
       t.pilot.hist = [] ∧ t.pilot.duty = s.pilot.duty ∧ t.pilot.lastOk = s.pilot.lastOk ∧
       t.bit R.CHG_CP_STAT F.CHG_CP_STAT.PWM = true) ∧
  (∀ (e : Nat) (high : Bool) (s : State), s.boot.phase = .run →
     Answers (.pilotSteady e high) s fun t =>
       t.pilot.steady = true ∧ t.pilot.hist = [] ∧ t.pilot.duty = (if high then 2 ^ 31 else 0) ∧
       t.bit R.CHG_CP_STAT F.CHG_CP_STAT.PWM = false ∧ t.fld R.CHG_CP_STAT F.CHG_CP_STAT.DUTY =
         (if high then 1000 else 0) ∧
       OnlyRegs [R.CHG_CP_STAT, R.CHG_IRQ_STAT] s t ∧ Passes e s t ∧
       t = { s with el := t.el, dt := t.dt, regs := t.regs, pilot := t.pilot }) ∧
  (∀ (e : Nat) (s : State), s.boot.phase = .run → s.pilot.steady = false →
     Answers (.pilotNoCycle e) s fun t =>
       t.pilot.duty = 0 ∧ t.fld R.CHG_CP_STAT F.CHG_CP_STAT.DUTY = 0 ∧ (s.d0 = true →
         t.dt = max (s.dt + e) (s.pilot.lastOk + 2000000)) ∧
       OnlyRegs [R.CHG_CP_STAT, R.CHG_IRQ_STAT] s t) ∧
  (∀ (e : Nat) (sum : Int) (n : Nat) (s : State), s.boot.phase = .run → s.pilot.steady = true → n ≠ 0 →
     Answers (.pilotWindow e sum n) s fun t =>
       t.pilot.vhi = fdiv (sum * 2000 * s.fld R.CHG_CFG F.CHG_CFG.CPRATIO) (16 * n) ∧ t.pilot.vlo = t.pilot.vhi ∧
       t.pilot.dec = (pilotDecode false t.pilot.vhi t.pilot.vhi).1 ∧
       t.pilot.runs = (if s.pilot.dec = t.pilot.dec then s.pilot.runs + 1 else 1) ∧ Passes e s t) ∧
  (∀ (e : Nat) (sum : Int) (n : Nat) (s : State), (s.pilot.steady = false ∨ s.boot.phase ≠ .run) →
     Answers (.pilotWindow e sum n) s fun t =>
       t = s.tick e)

/-- Lifetime (R116 to R121, R489, R496, R497): a silent island loses its TJ or passes to its NTC, and one no longer
enabled loses it, a report is shown with its stamp, the 10-minute mirror starts, and its end stores the record or flags
the failure. -/
def Obligations.LifetimeTracked : Prop :=
  (∀ (e : Nat) (n : Fin 48) (s : State), s.bit (R.LIFE_I_TJ n) F.LIFE_I_TJ.VALID = true → s.bit (R.LIFE_I_TJ n)
     F.LIFE_I_TJ.SRC = false →
     Answers (.tjInvalid e n) s fun t =>
       (s.d0 = true → t.dt = max (s.dt + e) ((s.estOf n).lastRaw + 200000000)) ∧
       (if s.bit (R.LIFE_I_CFG n) F.LIFE_I_CFG.EN = true ∧
         (s.estOf n).edgeAt + 200000000 ≤ t.dt then t.bit (R.LIFE_I_TJ n) F.LIFE_I_TJ.SRC = true ∧
       t.bit (R.LIFE_I_TJ n) F.LIFE_I_TJ.VALID = true
       else t.bit (R.LIFE_I_TJ n) F.LIFE_I_TJ.VALID = false ∧ t.bit (R.LIFE_I_TJ n) F.LIFE_I_TJ.SRC = false) ∧
       OnlyRegs [R.LIFE_I_TJ n] s t ∧ RegsOnly s t) ∧
  (∀ (e : Nat) (n : Fin 48) (s : State), s.bit (R.LIFE_I_CFG n) F.LIFE_I_CFG.EN = false → s.bit (R.LIFE_I_TJ n)
     F.LIFE_I_TJ.VALID = true →
     Answers (.tjInvalid e n) s fun t =>
       t.bit (R.LIFE_I_TJ n) F.LIFE_I_TJ.VALID = false ∧ OnlyRegs [R.LIFE_I_TJ n] s t ∧ RegsOnly s t) ∧
  (∀ (e : Nat) (n : Fin 48) (code : BitVec 12) (s : State), linkUp s n = true → s.bit (R.ISL_CFG n) F.ISL_CFG.VDS_EN =
     true →
     Answers (.islVdsReport e n code) s fun t =>
       t.fld (R.ISL_TEL_VDS n) F.ISL_TEL_VDS.STAMP = sampleInstant s n % 2 ^ F.ISL_TEL_VDS.STAMP.width ∧
       (s.d0 = true → t.dt = max (s.dt + e) (sampleInstant s n + 20)) ∧
       t.bit (R.ISL_TEL_VDS n) F.ISL_TEL_VDS.NO_SAMPLE = pulseShort s n (sampleInstant s n) ∧
       (pulseShort s n (sampleInstant s n) = false → t.bit (R.ISL_TEL_VDS n) F.ISL_TEL_VDS.RANGE = (code ==
       4095#12) ∧ t.bit (R.ISL_TEL_VDS n) F.ISL_TEL_VDS.UNCAL = !s.bit (R.ISL_VDS_CAL n) F.ISL_VDS_CAL.VALID ∧
       (t.islOf n).vdsRun = (code == 4095#12))) ∧
  (∀ (e : Nat) (n : Fin 48) (code vdd vee : BitVec 12) (s : State), linkUp s n = true →
     Answers (.islEnvReport e n code vdd vee) s fun t =>
       t.fld (R.ISL_TEL_ENV n) F.ISL_TEL_ENV.VDD = vdd.toNat ∧ t.fld (R.ISL_TEL_ENV n) F.ISL_TEL_ENV.VEE = vee.toNat ∧
       t.bit (R.ISL_TEL_ENV n) F.ISL_TEL_ENV.NTC_OPEN =
         (s.bit (R.ISL_CFG n) F.ISL_CFG.NTC_EN && decide (4080 ≤ code.toNat)) ∧
       t.bit (R.ISL_TEL_ENV n) F.ISL_TEL_ENV.NTC_SHORT =
         (s.bit (R.ISL_CFG n) F.ISL_CFG.NTC_EN && decide (code.toNat ≤ 16)) ∧ Passes e s t) ∧
  (∀ (e : Nat) (n : Fin 48) (code vdd vee : BitVec 12) (s : State), linkUp s n = false →
     Answers (.islEnvReport e n code vdd vee) s fun t =>
       t = s.tick e) ∧
  (∀ (e : Nat) (s : State), s.life.pend = none →
     Answers (.lifeMirror e) s fun t =>
       t.bit R.LIFE_STAT F.LIFE_STAT.BUSY = true ∧ t.life.next = s.life.next + 120000000000 ∧
       (s.d0 = true → t.dt = max (s.dt + e) s.life.next) ∧
       t.life.pend = some { gen := s.life.gen + 1, kind := 1, tick := t.dt, rtc := t.rtc, isl := s.life.isl, curve := s.life.curve, weight := s.life.weight } ∧
       OnlyRegs [R.LIFE_STAT] s t ∧ t = { s with el := t.el, dt := t.dt, regs := t.regs, life := t.life }) ∧
  (∀ (e : Nat) (r : LifeRec) (s : State), s.life.pend = some r → s.trans = none → (s.bit (R.STO_DEV 0)
     F.STO_DEV.FAILED = false ∨ s.bit (R.STO_DEV 1) F.STO_DEV.FAILED = false) →
     Answers (.mirrorComplete e true) s fun t =>
       t.bit R.LIFE_STAT F.LIFE_STAT.BUSY = false ∧ t.bit R.LIFE_STAT F.LIFE_STAT.STORE_OK = true ∧
       t.fld R.LIFE_STAT F.LIFE_STAT.GEN = r.gen % 2 ^ F.LIFE_STAT.GEN.width ∧ t.life.pend = none ∧
       AMap.get? t.life.slots (r.gen % 16) = some r ∧ t.life.doneAt = some t.el ∧ OnlyRegs [R.LIFE_STAT] s t ∧
       t = { s with el := t.el, dt := t.dt, regs := t.regs, life := t.life }) ∧
  (∀ (e : Nat) (r : LifeRec) (s : State), s.life.pend = some r → s.trans = none →
     Answers (.mirrorComplete e false) s fun t =>
       t.bit R.LIFE_STAT F.LIFE_STAT.BUSY = false ∧ t.bit R.LIFE_FLAGS F.LIFE_FLAGS.MIRROR_FAIL = true ∧
       t.life = { s.life with pend := none } ∧
       (LogReady s → Logs EV.LIFE_MIRROR_FAIL 0xFF s t)) ∧
  (∀ (e : Nat) (ok : Bool) (r : LifeRec) (x : Trans) (s : State), s.life.pend = some r → s.trans = some x → x.mir = 1
     →
     Answers (.mirrorComplete e ok) s fun t =>
       t.trans = some { x with mir := 2 } ∧ t.bit R.LIFE_STAT F.LIFE_STAT.BUSY = true ∧
       t.life.pend.map (·.kind) = some 2)

/-- The placer (R333 to R336, R341, R346): a proof ends in a description in force or in a refusal with its code; the
accepted one is stored; step 6 of boot proves the stored one again; a failure is taken with its record, and a
re-placement complete returns its graphs. -/
def Obligations.PlacerAnswers : Prop :=
  (∀ (e began : Nat) (ws : List Reg) (x : PErr) (s : State), s.plc.proof = some (ws, began) → (proveNow s ws).1 = some
     x →
     Answers (.proofComplete e) s fun t =>
       t.fld R.PLC_RESULT F.PLC_RESULT.CODE = x.code % 2 ^ F.PLC_RESULT.CODE.width ∧
       t.bit R.PLC_FLAGS F.PLC_FLAGS.REFUSED = true ∧
       t.plc.proof = none ∧ t.plant = s.plant ∧ t.conv = s.conv ∧ (LogReady s → Logs EV.PLANT_REFUSED 0xFF s t) ∧
       OnlyRegs (logRegs ++ [R.PLC_RESULT, R.PLC_RESULT_VAL, R.PLC_STAT, R.PLC_FLAGS]) s t) ∧
  (∀ (e began : Nat) (ws : List Reg) (s : State), s.plc.proof = some (ws, began) → (proveNow s ws).1 = none →
     Answers (.proofComplete e) s fun t =>
       t.plant = some (plantOf ws (proveNow s ws).2) ∧ t.reg R.PLC_RESULT = 0 ∧ t.plc.storing = true ∧
       t.plc.proof = none ∧
       t.bit R.PLC_STAT F.PLC_STAT.STORED = false ∧ t.fld R.PLC_IDENT F.PLC_IDENT.IDENT = (ws.getD 2 0).toNat) ∧
  (∀ (e : Nat) (p : Plant) (s : State), s.plc.storing = true → s.plant = some p →
     Answers (.plantStored e) s fun t =>
       t.plc.storing = false ∧ t.plc.gen = s.plc.gen + 1 ∧ AMap.get? t.plc.slots (t.plc.gen % 2) = some p.words ∧
       t.bit R.PLC_STAT F.PLC_STAT.STORED = true ∧ OnlyRegs [R.PLC_STAT] s t ∧
       t = { s with el := t.el, dt := t.dt, regs := t.regs, plc := t.plc }) ∧
  (∀ (e : Nat) (s : State), s.boot.phase = .plant → AMap.get? s.plc.slots (s.plc.gen % 2) = none → s.plant = none →
     Answers (.plantReproof e) s fun t =>
       t.boot.phase = .links ∧ t.boot.since = t.el ∧ t.plant = none ∧ t.fld R.PLC_STAT F.PLC_STAT.STATE = 0 ∧
       t.boot.later = s.boot.later) ∧
  (∀ (e : Nat) (ws : List Reg) (s : State), s.boot.phase = .plant → AMap.get? s.plc.slots (s.plc.gen % 2) = some ws →
     (proveNow s ws).1 = none →
     Answers (.plantReproof e) s fun t =>
       t.boot.phase = .links ∧ t.plant = some (plantOf ws (proveNow s ws).2) ∧
       t.bit R.PLC_STAT F.PLC_STAT.STORED = true ∧
       (t.boot.later.map (·.1)).contains EV.PLANT_ACCEPTED = true) ∧
  (∀ (e : Nat) (f : PFail) (l : List PFail) (s : State), s.plc.fails = f :: l → s.plc.cur = none → f.kind = 7 →
     Answers (.unitFailed e) s fun t =>
       t.plc.fails = l ∧ t.plc.cur = none ∧ t.plc.rsvPair = none ∧ t.plc.rsvAdc = none ∧
       t.bit R.PLC_FLAGS F.PLC_FLAGS.UNIT_FAILED = true ∧
       t.fld R.PLC_LAST_FAIL F.PLC_LAST_FAIL.KIND = 7 ∧ t.fld R.PLC_CAPACITY F.PLC_CAPACITY.PAIRS_RSV = 0 ∧
       (LogReady s → Logs EV.UNIT_FAILED f.index s t) ∧ OnlyRegs (logRegs ++ [R.PLC_LAST_FAIL, R.PLC_FLAGS,
         R.PLC_CAPACITY]) s t) ∧
  (∀ (e : Nat) (f : PFail) (l : List PFail) (s : State), s.plc.fails = f :: l → s.plc.cur = none → f.kind = 4 →
     f.index < 12 → bitN s.plc.down (8 + f.index) = false → adcMode s f.index = 0 →
     Answers (.unitFailed e) s fun t =>
       t.plc.fails = l ∧
       t.bit R.PLC_FLAGS F.PLC_FLAGS.UNIT_FAILED = true ∧
       t.fld R.PLC_LAST_FAIL F.PLC_LAST_FAIL.INDEX = f.index ∧
       (s.plant = none → (s.fld R.PLC_CAPACITY F.PLC_CAPACITY.ADC_FAILED < 12 → t.fld R.PLC_CAPACITY
       F.PLC_CAPACITY.ADC_FAILED = s.fld R.PLC_CAPACITY F.PLC_CAPACITY.ADC_FAILED + 1) ∧ (LogReady s → Logs
       EV.UNIT_FAILED f.index s t))) ∧
  (∀ (e : Nat) (c : Repl) (s : State), s.plc.cur = some c → c.done = c.graphs →
     Answers (.replaced e) s fun t =>
       t.plc.cur = none ∧ t.bit R.PLC_FLAGS F.PLC_FLAGS.REPLACED = true ∧ (LogReady s →
         Logs EV.REPLACED (failUnit c.fail) s t) ∧
       (∀ g : Fin 8, bitN c.graphs g = true → t.bit (R.PLC_GRAPH g) F.PLC_GRAPH.SUSPENDED = false)) ∧
  (∀ (e : Nat) (c : Repl) (s : State), s.plc.cur = some c → c.done ≠ c.graphs →
     Answers (.replaced e) s fun t =>
       t = s.tick e)

/-! ### The glove pair -/

/-- A checkpoint falls on the next multiple of 50 µs (R506, R516 to R521, R533): with the cores agreed the run of
agreement counts and the interval is released; a first difference withholds it, a second enters SAFE; a halted pair only
reads the link. A halt is reached at its position, 2 ms without agreement enter SAFE, a cache error is flagged, and a
journal entry takes its stamp and number. -/
def Obligations.GloveCheckpoints : Prop :=
  (∀ (e : Nat) (vl : BitVec 13) (work : BitVec 16) (s : State), gloveLive s = true → s.bit R.GLV_STAT
     F.GLV_STAT.HALTED = false → s.glove.ents = [] → s.glove.wait = [] → s.glove.cnt = [] → s.glove.haltPos = none →
     s.glove.restart = none → s.glove.fatal = 0 → s.bit R.GLV_DBG_BRK F.GLV_DBG_BRK.EN = false → s.glove.rel + 2 ≤
     s.glove.next → s.glove.cmpFrom ≤ s.dt → s.can.ctl = [] →
     Answers (.gloveCheckpoint e vl none work) s fun t =>
       t.dt = max (s.dt + e) ((max s.glove.next ((s.dt + e) / 10000)) * 10000) ∧
       t.glove.next = max s.glove.next ((s.dt + e) / 10000) + 1 ∧
       t.glove.rel = max s.glove.next ((s.dt + e) / 10000) - 1 ∧ t.glove.agreeAt = t.dt ∧
       t.fld R.GLV_CP F.GLV_CP.CP = (max s.glove.next ((s.dt + e) / 10000)) % 2 ^ F.GLV_CP.CP.width ∧
       vlink t = vl.toNat ∧
       t.fld R.GLV_STAT F.GLV_STAT.AGREE = satInc 16 (s.fld R.GLV_STAT F.GLV_STAT.AGREE) 1 ∧
       t.fld R.GLV_STAT F.GLV_STAT.WORK_MAX = max work.toNat (s.fld R.GLV_STAT F.GLV_STAT.WORK_MAX)) ∧
  (∀ (e : Nat) (vl : BitVec 13) (d : Fin 4 × Fin 3) (work : BitVec 16) (s : State), gloveLive s = true → s.bit
     R.GLV_STAT F.GLV_STAT.HALTED = false → s.glove.ents = [] → s.glove.wait = [] → s.glove.cnt = [] → s.glove.haltPos
     = none → s.glove.restart = none → s.glove.fatal = 0 → s.bit R.GLV_DBG_BRK F.GLV_DBG_BRK.EN = false → s.glove.rel
     + 2 ≤ s.glove.next → s.glove.cmpFrom ≤ s.dt → s.can.ctl = [] → s.bit R.GLV_STAT F.GLV_STAT.RUN = false →
     Answers (.gloveCheckpoint e vl (some d) work) s fun t =>
       t.dt = max (s.dt + e) ((max s.glove.next ((s.dt + e) / 10000)) * 10000) ∧
       t.bit R.GLV_STAT F.GLV_STAT.RUN = true ∧ t.bit R.GLV_FLAGS F.GLV_FLAGS.MISMATCH = true ∧
       t.fld R.GLV_MISM F.GLV_MISM.LAST_KIND = d.1 ∧ t.fld R.GLV_MISM F.GLV_MISM.LAST_CORE = d.2 ∧
       t.fld R.GLV_STAT F.GLV_STAT.AGREE = 0 ∧
       t.glove.rel = s.glove.rel ∧ t.glove.next = max s.glove.next ((s.dt + e) / 10000) + 1 ∧ (LogReady s →
         Logs EV.GLOVE_MISMATCH 0xFF s t)) ∧
  (∀ (e : Nat) (vl : BitVec 13) (d : Fin 4 × Fin 3) (work : BitVec 16) (s : State), gloveLive s = true → s.bit
     R.GLV_STAT F.GLV_STAT.HALTED = false → s.glove.ents = [] → s.glove.wait = [] → s.glove.cnt = [] → s.glove.haltPos
     = none → s.glove.restart = none → s.glove.fatal = 0 → s.bit R.GLV_DBG_BRK F.GLV_DBG_BRK.EN = false → s.glove.rel
     + 2 ≤ s.glove.next → s.glove.cmpFrom ≤ s.dt → s.can.ctl = [] → s.bit R.GLV_STAT F.GLV_STAT.RUN = true → s.mode =
     Mode.drive →
     Answers (.gloveCheckpoint e vl (some d) work) s fun t =>
       t.bit R.GLV_STAT F.GLV_STAT.RUN = false ∧
       t.bit R.GLV_FLAGS F.GLV_FLAGS.ESCALATED = true ∧
       t.mode = Mode.safe ∧
       t.nfault = true ∧
       (t.fld R.DEV_SAFE_CAUSE ⟨11, 0⟩ &&& Cause.glove) = Cause.glove) ∧
  (∀ (e : Nat) (vl : BitVec 13) (diff : Option (Fin 4 × Fin 3)) (work : BitVec 16) (s : State), gloveLive s = true →
     s.bit R.GLV_STAT F.GLV_STAT.HALTED = true →
     Answers (.gloveCheckpoint e vl diff work) s fun t =>
       t.dt = max (s.dt + e) ((max s.glove.next ((s.dt + e) / 10000)) * 10000) ∧ vlink t = vl.toNat ∧
       t.glove = { s.glove with next := max s.glove.next ((s.dt + e) / 10000) + 1 } ∧
       t.reg R.GLV_STAT = s.reg R.GLV_STAT) ∧
  (∀ (e p why : Nat) (s : State), gloveLive s = true → s.glove.haltPos = some (p, why) → (s.mode ≠ Mode.service ∨
     vlink s < 120) →
     Answers (.gloveHaltReached e) s fun t =>
       t.bit R.GLV_STAT F.GLV_STAT.HALTED = true ∧ t.bit R.GLV_STAT F.GLV_STAT.HALT_PEND = false ∧
       t.glove.haltPos = none ∧
       t.fld R.GLV_DBG_STAT F.GLV_DBG_STAT.POS = p % 2 ^ F.GLV_DBG_STAT.POS.width ∧
       t.fld R.GLV_DBG_STAT F.GLV_DBG_STAT.WHY = why % 4 ∧
       t.glove.haltAt = t.dt ∧ (LogReady s → Logs EV.GLOVE_HALT 0xFF s t) ∧ Passes e s t ∧
       OnlyRegs (logRegs ++ [R.GLV_STAT, R.GLV_DBG_STAT, R.CHG_FLAGS, R.CHG_IRQ_STAT]) s t) ∧
  (∀ (e p why : Nat) (s : State), gloveLive s = true → s.glove.haltPos = some (p, why) → s.mode = Mode.service → 120 ≤
     vlink s →
     Answers (.gloveHaltReached e) s fun t =>
       EntersSafe Cause.link60 s t ∧
       t.nfault = true ∧
       t.glove.haltPos = none ∧
       t.bit R.GLV_STAT F.GLV_STAT.HALTED = false) ∧
  (∀ (e : Nat) (s : State), gloveLive s = true → s.bit R.GLV_STAT F.GLV_STAT.HALTED = false → s.glove.wdDue = none →
     s.mode ≠ Mode.standby →
     Answers (.gloveWatchdog e) s fun t =>
       EntersSafe Cause.glove s t ∧
       t.nfault = true ∧
       t.glove.wdDue = some (t.dt + 2000) ∧
       t.dt = max (s.dt + e) (s.glove.agreeAt + 400000)) ∧
  (∀ (e : Nat) (core : Fin 2) (fatal : Bool) (s : State), gloveLive s = true →
     Answers (.gloveCache e core fatal) s fun t =>
       t.bit R.GLV_FLAGS (if fatal then F.GLV_FLAGS.CACHE_FATAL else F.GLV_FLAGS.CACHE_CORR) = true ∧
       t.glove.fatal = (if fatal then setBitN s.glove.fatal core else s.glove.fatal) ∧
       (s.bit R.GLV_FLAGS (if fatal then F.GLV_FLAGS.CACHE_FATAL else F.GLV_FLAGS.CACHE_CORR) = false → LogReady s →
         Logs EV.GLOVE_CACHE 0xFF s t) ∧
       OnlyRegs (logRegs ++ [R.GLV_FLAGS, R.GLV_CACHE]) s t ∧ Passes e s t) ∧
  (∀ (e : Nat) (src : Fin 16) (s : State), s.glove.on = true → jStopped s = false → s.glove.ents.length < 8192 → 1 ≤
     src.val → src.val ≤ 12 →
     Answers (.journalWrite e src) s fun t =>
       t.glove.ents.take s.glove.ents.length = s.glove.ents ∧ t.glove.ents.length = s.glove.ents.length + 1 ∧
       (t.glove.ents.getLast?.map fun x => (x.src, x.stamp, x.seq)) = some (src.val, t.dt,
         s.fld R.GLV_JSEQ F.GLV_JSEQ.SEQ) ∧
       t.fld R.GLV_JSEQ F.GLV_JSEQ.SEQ = (s.fld R.GLV_JSEQ F.GLV_JSEQ.SEQ + 1) % 2 ^ F.GLV_JSEQ.SEQ.width ∧
       Passes e s t)

/-! ### The redundant pair and CAN -/

/-- The pair link (R676 to R678): a damaged message counts an error and restarts training; a good one trains the link,
which ten in a row bring up, and shows the partner; 1 ms without one brings it down. -/
def Obligations.PairLinkTrains : Prop :=
  (∀ (e : Nat) (l : List Byte) (s : State), (l.length ≠ 32 ∨ crc32c (l.take 28) ≠ leAt l 28 4) →
     Answers (.pairMessageReceived e ⟨l, 0⟩) s fun t =>
       t.pair = { s.pair with run := 0 } ∧ OnlyRegs [R.PAIR_STAT] s t ∧ Passes e s t ∧
       t.fld R.PAIR_STAT F.PAIR_STAT.LINK = s.fld R.PAIR_STAT F.PAIR_STAT.LINK ∧
       t = { s with el := t.el, dt := t.dt, regs := t.regs, pair := t.pair, meas := t.meas }) ∧
  (∀ (e n : Nat) (l : List Byte) (s : State), 0 < n →
     Answers (.pairMessageReceived e ⟨l, n⟩) s fun t =>
       t.pair = s.pair ∧ (t.xfOf 704).run = true ∧ ((s.xfOf 704).run = false → LogReady s →
         Logs EV.XFIFO_OVERFLOW 11 s t) ∧
       t.fld R.FAB_XFIFO_OVF F.FAB_XFIFO_OVF.COUNT =
         satInc F.FAB_XFIFO_OVF.COUNT.width (s.fld R.FAB_XFIFO_OVF F.FAB_XFIFO_OVF.COUNT) n) ∧
  (∀ (e : Nat) (l : List Byte) (s : State), l.length = 32 → crc32c (l.take 28) = leAt l 28 4 → s.pair.last = none →
     s.fld R.PAIR_STAT F.PAIR_STAT.LINK = 0 →
     Answers (.pairMessageReceived e ⟨l, 0⟩) s fun t =>
       t.pair.run = 1 ∧
       t.pair.last = some t.dt ∧
       t.fld R.PAIR_STAT F.PAIR_STAT.LINK = 1 ∧
       Passes e s t ∧
       t.fld R.PAIR_PEER F.PAIR_PEER.MODE = (pairMsgOf l).mode % 2 ^ F.PAIR_PEER.MODE.width ∧
       t.bit R.PAIR_PEER F.PAIR_PEER.NFAULT = (pairMsgOf l).nfault ∧
       (s.glove.on = false → OnlyRegs [R.PAIR_STAT, R.PAIR_PEER, R.PAIR_FLAGS] s t)) ∧
  (∀ (e d : Nat) (l : List Byte) (s : State), l.length = 32 → crc32c (l.take 28) = leAt l 28 4 → s.pair.last = some d
     → d ≤ s.dt → s.dt + e ≤ d + 20000 → s.d0 = true → s.pair.run = 9 → s.fld R.PAIR_STAT F.PAIR_STAT.LINK = 1 →
     Answers (.pairMessageReceived e ⟨l, 0⟩) s fun t =>
       t.pair.run = 10 ∧
       t.pair.last = some t.dt ∧
       t.fld R.PAIR_STAT F.PAIR_STAT.LINK = 2 ∧
       (s.glove.on = false → (LogReady s → Logs EV.PAIR_LINK_UP 0xFF s t))) ∧
  (∀ (e d : Nat) (s : State), s.fld R.PAIR_STAT F.PAIR_STAT.LINK = 2 → s.pair.last = some d →
     Answers (.pairLinkDown e) s fun t =>
       t.fld R.PAIR_STAT F.PAIR_STAT.LINK = 0 ∧ t.bit R.PAIR_FLAGS F.PAIR_FLAGS.LINK_DOWN = true ∧
       t.pair = { s.pair with run := 0 } ∧
       (s.d0 = true → t.dt = max (s.dt + e) (d + 200000)) ∧ (LogReady s → Logs EV.PAIR_LINK_DOWN 0xFF s t) ∧
       OnlyRegs (logRegs ++ [R.PAIR_STAT, R.PAIR_FLAGS]) s t) ∧
  (∀ (e : Nat) (s : State), s.fld R.PAIR_STAT F.PAIR_STAT.LINK = 0 →
     Answers (.pairLinkDown e) s fun t =>
       t = s.tick e)

/-- The CAN controllers (R592 to R603, R610, R614 to R616): integration and recovery, the error counters and bus-off, a
start of frame takes the frame that would win, an attempt ends by its result, a heartbeat is made, a silent partner is
lost, a silent tunnel packet is dropped. -/
def Obligations.CanOnTheBus : Prop :=
  (∀ (e : Nat) (c : Fin 3) (s : State), (canOf s c).integ = true →
     Answers (.canIntegrated e c) s fun t =>
       (canOf t c).integ = false ∧ Passes e s t ∧ OnlyRegs [R.CAN_C_STAT c] s t ∧
       t.fld (R.CAN_C_STAT c) F.CAN_C_STAT.STATE =
       (if 128 ≤ s.fld (R.CAN_C_STAT c) F.CAN_C_STAT.TEC ∨
         128 ≤ s.fld (R.CAN_C_STAT c) F.CAN_C_STAT.REC then 2 else 1)) ∧
  (∀ (e : Nat) (c : Fin 3) (s : State), (canOf s c).integ = false →
     Answers (.canIntegrated e c) s fun t =>
       t = s.tick e) ∧
  (∀ (e : Nat) (c : Fin 3) (s : State), s.bit (R.CAN_C_STAT c) F.CAN_C_STAT.RECOVERING = true →
     Answers (.canRecovered e c) s fun t =>
       t.bit (R.CAN_C_STAT c) F.CAN_C_STAT.RECOVERING = false ∧ t.fld (R.CAN_C_STAT c) F.CAN_C_STAT.TEC = 0 ∧
       t.fld (R.CAN_C_STAT c) F.CAN_C_STAT.REC = 0 ∧
       t.fld (R.CAN_C_STAT c) F.CAN_C_STAT.STATE = (if s.bit (R.CAN_C_CFG c) F.CAN_C_CFG.EN then 1 else 0) ∧
       (LogReady s → Logs EV.CAN_RECOVERED c s t) ∧ OnlyRegs (logRegs ++ [R.CAN_C_STAT c]) s t ∧ LogsOnly s t) ∧
  (∀ (e : Nat) (c : Fin 3) (lec : Fin 7) (by8 : Bool) (s : State), (s.fld (R.CAN_C_STAT c) F.CAN_C_STAT.STATE = 1 ∨
     s.fld (R.CAN_C_STAT c) F.CAN_C_STAT.STATE = 2) →
     Answers (.canReceiveError e c lec by8) s fun t =>
       t.fld (R.CAN_C_STAT c) F.CAN_C_STAT.LEC = lec ∧
       t.fld (R.CAN_C_STAT c) F.CAN_C_STAT.REC =
         min 255 (s.fld (R.CAN_C_STAT c) F.CAN_C_STAT.REC + (if by8 then 8 else 1)) ∧
       (s.fld (R.CAN_C_STAT c) F.CAN_C_STAT.REC < 128 →
         128 ≤ s.fld (R.CAN_C_STAT c) F.CAN_C_STAT.REC + (if by8 then 8 else 1) →
       t.fld (R.CAN_C_STAT c) F.CAN_C_STAT.STATE = 2 ∧ (LogReady s → Logs EV.CAN_PASSIVE c s t)) ∧ LogsOnly s t) ∧
  (∀ (e k q : Nat) (f : CanFrame) (c : Fin 3) (s : State), (s.fld (R.CAN_C_STAT c) F.CAN_C_STAT.STATE = 1 ∨ s.fld
     (R.CAN_C_STAT c) F.CAN_C_STAT.STATE = 2) → (canOf s c).fly = none → s.bit (R.CAN_C_CFG c) F.CAN_C_CFG.LISTEN =
     false → s.bit (R.CAN_C_CFG c) F.CAN_C_CFG.RESTRICTED = false → s.bit (R.CAN_C_CFG c) F.CAN_C_CFG.EN = true →
     canBest (canCands (canOf s c)) = some (k, q, f) →
     Answers (.canTxStart e c) s fun t =>
       (canOf t c).fly = some k ∧ (canOf t c).flyQ = q ∧ (canOf t c).cancel = false ∧ Passes e s t ∧ t.regs = s.regs) ∧
  (∀ (e : Nat) (c : Fin 3) (s : State), canBest (canCands (canOf s c)) = none →
     Answers (.canTxStart e c) s fun t =>
       t = s.tick e) ∧
  (∀ (e : Nat) (b : CanBox) (c : Fin 3) (lec : Fin 7) (exc : Bool) (s : State), (canOf s c).fly = some 33 → (canOf s
     c).hb = some b →
     Answers (.canTxAttemptEnd e c 0 lec exc) s fun t =>
       (canOf t c).fly = none ∧ (canOf t c).hb = (canOf s c).hbNext ∧
       t.fld (R.CAN_C_STAT c) F.CAN_C_STAT.TEC = s.fld (R.CAN_C_STAT c) F.CAN_C_STAT.TEC - 1 ∧
       OnlyRegs [R.CAN_C_STAT c] s t) ∧
  (∀ (e : Nat) (b : CanBox) (c : Fin 3) (lec : Fin 7) (s : State), (canOf s c).fly = some 33 → (canOf s c).hb = some b
     → (canOf s c).hbNext = none → (canOf s c).cancel = false → 247 < s.fld (R.CAN_C_STAT c) F.CAN_C_STAT.TEC →
     Answers (.canTxAttemptEnd e c 2 lec false) s fun t =>
       t.fld (R.CAN_C_STAT c) F.CAN_C_STAT.STATE = 3 ∧ t.fld (R.CAN_C_STAT c) F.CAN_C_STAT.LEC = lec ∧
       t.fld (R.CAN_C_STAT c) F.CAN_C_STAT.TEC = 255 ∧ bitN (t.fld R.CAN_FLAGS F.CAN_FLAGS.BUSOFF) c = true ∧
       (LogReady s → Logs EV.CAN_BUSOFF c s t) ∧ (canOf t c).fly = none) ∧
  (∀ (e : Nat) (b : CanBox) (c : Fin 3) (lec : Fin 7) (exc : Bool) (s : State), (canOf s c).fly = some 33 → (canOf s
     c).hb = some b → (canOf s c).hbNext = none → (canOf s c).cancel = false → b.fails < b.retry →
     Answers (.canTxAttemptEnd e c 1 lec exc) s fun t =>
       (canOf t c).fly = none ∧ (canOf t c).hb = some { b with fails := b.fails + 1, status := 1 } ∧
       t.fld (R.CAN_C_STAT c) F.CAN_C_STAT.TEC = s.fld (R.CAN_C_STAT c) F.CAN_C_STAT.TEC ∧
       OnlyRegs [R.CAN_C_STAT c] s t) ∧
  (∀ (e : Nat) (x : Partner) (p : Fin 64) (s : State), AMap.get? s.can.parts p = some x → x.up = true →
     Answers (.partnerLost e p) s fun t =>
       AMap.get? t.can.parts p = some { x with up := false } ∧ (s.d0 = true →
         t.dt = max (s.dt + e) (x.stamp + x.iv * 6500000)) ∧
       (LogReady s → Logs EV.PARTNER_LOST x.ctl s t)) ∧
  (∀ (e : Nat) (s : State), s.boot.phase = .run → s.fld R.CAN_HB_CFG F.CAN_HB_CFG.EN ≠ 0 →
     Answers (.heartbeatSend e) s fun t =>
       t.can.hbCtr = (s.can.hbCtr + 1) % 256 ∧ t.can.hbAt = t.dt ∧ t.regs = s.regs ∧
       t.dt = max (s.dt + e) (s.can.hbAt + s.fld R.CAN_HB_CFG F.CAN_HB_CFG.INTERVAL * 2000000) ∧
       (∀ c : Fin 3, bitN (s.fld R.CAN_HB_CFG F.CAN_HB_CFG.EN) c = true → (canOf s c).fly = none →
         (canOf t c).hb.isSome = true)) ∧
  (∀ (e : Nat) (x : TunIn) (c : Fin 3) (node : Fin 256) (s : State), ((canOf s c).tin.find? fun x => x.node ==
     node.val) = some x →
     Answers (.tunnelTimeout e c node) s fun t =>
       (∀ y ∈ (canOf t c).tin, y.node ≠ node) ∧ bitN (t.fld R.CAN_FLAGS F.CAN_FLAGS.TUNNEL) c = true ∧
       (s.d0 = true → t.dt = max (s.dt + e) (x.last + 10000000)) ∧ (LogReady s → Logs EV.TUNNEL_ERR c s t) ∧
       OnlyRegs (logRegs ++ [R.CAN_FLAGS, R.CAN_C_STAT c]) s t)

/-! ### Ports, the recorder, storage and update -/

/-- Ports and sessions (R541, R566, R567, R637, R639): a whole fetch takes the oldest reply; 600 s of silence end a
privileged session; a lock-out ends; a capture that has its last sample is COMPLETE. -/
def Obligations.PortsAndSessionsTimed : Prop :=
  (∀ (e : Nat) (n : Fin 2) (whole : Bool) (s : State), s.boot.phase = .run →
     Answers (.fetchFrame e n whole) s fun t =>
       (t.portOf (256 * (n + 1))).replies = (s.portOf (256 * (n + 1))).replies.drop (if whole then 1 else 0) ∧
       (t.portOf (256 * (n + 1))).word = portWord (s.portOf (256 * (n + 1))) ∧
       (t.portOf (256 * (n + 1))).dropped = false ∧ t = { s.tick e with ports := t.ports }) ∧
  (∀ (e : Nat) (x : Session) (n : Fin 255) (s : State), AMap.get? s.sessions n = some x → x.auth = true → s.service ≠
     n →
     Answers (.sessionTimeout e n) s fun t =>
       AMap.get? t.sessions n = none ∧ (s.d0 = true → t.dt = max (s.dt + e) (x.last + 120000000000)) ∧
       t.bit R.CMD_IRQ_STAT F.CMD_IRQ_STAT.SESSION = true ∧ (LogReady s → Logs EV.SESSION_END 0xFF s t) ∧
       t.service = s.service) ∧
  (∀ (e : Nat) (n : Fin 255) (s : State), AMap.get? s.sessions n = none →
     Answers (.sessionTimeout e n) s fun t =>
       t = s.tick e) ∧
  (∀ (e : Nat) (x : Lockout) (origin : Fin 6) (node : Fin 256) (s : State), AMap.get? s.lockouts (256 * origin + node)
     = some x → x.until_ ≠ 0 →
     Answers (.lockoutEnd e origin node) s fun t =>
       AMap.get? t.lockouts (256 * origin + node) = some { x with until_ := 0 } ∧ (s.d0 = true →
         t.dt = max (s.dt + e) x.until_) ∧
       t = { s with el := t.el, dt := t.dt, lockouts := t.lockouts }) ∧
  (∀ (e : Nat) (c : Capture) (s : State), s.rcd.cur = some c →
     Answers (.recDone e) s fun t =>
       t.rcd.cur = none ∧ (s.d0 = true → t.dt = max (s.dt + e) (c.t + c.post + 400)) ∧
       (AMap.get? t.rcd.slots c.slot).map (·.st) = some 1 ∧
       (LogReady s → Logs EV.REC_DONE 0xFF s t))

/-- Storage (R624, R625, R581, R633, R660): a device fails once, wear at its limits is reported, retries count, and the
drains move the oldest entries of a log from its buffer to its ring. -/
def Obligations.StorageKept : Prop :=
  (∀ (e : Nat) (d : Fin 2) (s : State), devFailed s d = false →
     Answers (.stoDevice e d) s fun t =>
       devFailed t d = true ∧ t.bit R.STO_FLAGS (if d = 0 then F.STO_FLAGS.DEV0_FAIL else F.STO_FLAGS.DEV1_FAIL) =
         true ∧
       t.bit R.STO_STAT F.STO_STAT.SINGLE = !devFailed s (1 - d) ∧ (LogReady s → Logs EV.STO_DEVICE d s t) ∧
       OnlyRegs (logRegs ++ [R.STO_DEV d, R.STO_STAT, R.STO_FLAGS]) s t ∧ LogsOnly s t) ∧
  (∀ (e : Nat) (d : Fin 2) (s : State), devFailed s d = true →
     Answers (.stoDevice e d) s fun t =>
       t = s.tick e) ∧
  (∀ (e : Nat) (d : Fin 2) (a b : BitVec 4) (eol : BitVec 2) (s : State),
     Answers (.stoWear e d a b eol) s fun t =>
       t.fld (R.STO_DEV d) F.STO_DEV.LIFE_A = a.toNat ∧ t.fld (R.STO_DEV d) F.STO_DEV.LIFE_B = b.toNat ∧
       t.fld (R.STO_DEV d) F.STO_DEV.PRE_EOL = eol.toNat ∧
       ((9 ≤ a.toNat ∨ 9 ≤ b.toNat ∨ 2 ≤ eol.toNat) → s.sto.wear = false →
       t.bit R.STO_FLAGS F.STO_FLAGS.WEAR = true ∧ t.sto.wear = true ∧ (LogReady s → Logs EV.STO_WEAR d s t)) ∧
       OnlyRegs (logRegs ++ [R.STO_DEV d, R.STO_FLAGS]) s t) ∧
  (∀ (e : Nat) (d : Fin 2) (retries : Fin 4) (fails : Bool) (s : State), devFailed s d = false →
     Answers (.emmcTuning e d retries fails) s fun t =>
       devFailed t d = fails ∧ (s.fld (R.STO_DEV d) F.STO_DEV.RETRIES + retries < 2 ^ F.STO_DEV.RETRIES.width →
       t.fld (R.STO_DEV d) F.STO_DEV.RETRIES = s.fld (R.STO_DEV d) F.STO_DEV.RETRIES + retries) ∧
       (fails = true → LogReady s → Logs EV.STO_DEVICE d s t)) ∧
  (∀ (e n : Nat) (s : State), s.sto.laid = true → devFailed s 0 = false → devFailed s 1 = false → s.audit.lostRun = 0
     →
     Answers (.auditDrain e n false) s fun t =>
       t.audit.buf = s.audit.buf.drop n ∧ (((s.audit.buf.take n).map fun a => a.num % 2 ^ 20).Nodup →
         ∀ a ∈ s.audit.buf.take n, a.kind ≠ 0x0B → AMap.get? t.audit.ring (a.num % 2 ^ 20) = some a) ∧
       t.fld R.CMD_AUDIT_STAT F.CMD_AUDIT_STAT.FILL = (s.audit.buf.length - n) % 2 ^ F.CMD_AUDIT_STAT.FILL.width) ∧
  (∀ (e n : Nat) (s : State), s.sto.laid = true → devFailed s 1 = false → s.ev.lostRun = 0 →
     Answers (.eventLogDrain e n) s fun t =>
       t.ev.buf = s.ev.buf.drop n ∧ (((s.ev.buf.take n).map fun x => x.num % 2 ^ 21).Nodup →
         ∀ a ∈ s.ev.buf.take n, AMap.get? t.ev.ring (a.num % 2 ^ 21) = some a) ∧
       t.fld R.LOG_EVENT_STAT F.LOG_EVENT_STAT.FILL = (s.ev.buf.length - n) % 2 ^ F.LOG_EVENT_STAT.FILL.width ∧
       OnlyRegs [R.LOG_EVENT_STAT] s t) ∧
  (∀ (e n : Nat) (s : State), s.sto.laid = false →
     Answers (.eventLogDrain e n) s fun t =>
       t = s.tick e)

/-- An update (R645 to R651): the checks end in CHECKED or FAILED with their code; an activation ends in SWITCHED at the
switch tick S (at the first boundary of the reference timebase) or, after 3 s, back in CHECKED; the window of 10 s and
the causes of R649 leap back at a switch tick; the commit writes the image set, raises the counter and ends in IDLE. -/
def Obligations.UpdateProgresses : Prop :=
  (∀ (e : Nat) (bad : Bool) (s : State), updState s = Up.checking →
     Answers (.updChecked e bad) s fun t =>
       (if updChecks s bad = 0 then updState t = Up.checked ∧ (LogReady s → Logs EV.UPD_CHECKED 0xFF s t)
       else updState t = Up.failed ∧ t.fld R.UPD_STAT F.UPD_STAT.FAIL = updChecks s bad % 2 ^ F.UPD_STAT.FAIL.width ∧
       t.bit R.STO_FLAGS F.STO_FLAGS.UPD_FAIL = true ∧ (LogReady s → Logs EV.UPD_FAILED 0xFF s t)) ∧ t.upd = s.upd ∧
         t.sto = s.sto) ∧
  (∀ (e : Nat) (why : Fin 3) (s : State), updState s = Up.activating →
     Answers (.updReadyTimeout e why) s fun t =>
       updState t = Up.checked ∧ t.fld R.UPD_STAT F.UPD_STAT.FAIL = 9 + why ∧ (LogReady s →
         Logs EV.UPD_FAILED 0xFF s t) ∧
       (s.d0 = true → t.dt = if why = 1 then max (s.dt + e) (s.upd.at_ + 600000000) else s.dt + e) ∧ LogsOnly s t) ∧
  (∀ (e : Nat) (s : State), updState s = Up.activating → (if s.d0 then s.dt + e else s.dt) < s.upd.at_ + 600000000 →
     Answers (.updSwitched e) s fun t =>
       updState t = Up.switched ∧ t.upd.at_ = t.dt ∧ t.upd.old = s.sto.run ∧ t.sto.run = relOf (manBytes s.upd) ∧
       (s.d0 = true → t.dt = switchTick (s.tick e)) ∧
       (LogReady s → Logs EV.UPD_SWITCHED 0xFF s t)) ∧
  (∀ (e : Nat) (s : State), updState s = Up.activating → s.upd.at_ + 600000000 ≤ (if s.d0 then s.dt + e else s.dt) →
     Answers (.updSwitched e) s fun t =>
       updState t = Up.checked ∧ t.fld R.UPD_STAT F.UPD_STAT.FAIL = 0xA ∧ t.sto = s.sto ∧ (LogReady s →
         Logs EV.UPD_FAILED 0xFF s t) ∧ LogsOnly s t) ∧
  (∀ (e : Nat) (s : State), updState s = Up.switched →
     Answers (.updWindowExpiry e) s fun t =>
       updState t = Up.checked ∧ t.fld R.UPD_STAT F.UPD_STAT.FALLBACK = 2 ∧ t.sto.run = s.upd.old ∧
       t.bit R.STO_FLAGS F.STO_FLAGS.FALLBACK = true ∧
       (s.d0 = true → t.dt = switchTick ((s.tick e).until (s.upd.at_ + 2000000000))) ∧ (LogReady s →
         Logs EV.UPD_FALLBACK 0xFF s t)) ∧
  (∀ (e : Nat) (cause : Fin 3) (old : Bool) (s : State), updState s = Up.switched →
     Answers (.updFallback e cause old) s fun t =>
       updState t = Up.checked ∧ t.fld R.UPD_STAT F.UPD_STAT.FALLBACK = 3 + cause ∧
       t.bit R.UPD_STAT F.UPD_STAT.STATE_OLD = old ∧
       t.sto.run = s.upd.old ∧ (s.d0 = true → t.dt = switchTick (s.tick e)) ∧ (LogReady s →
         Logs EV.UPD_FALLBACK 0xFF s t)) ∧
  (∀ (e : Nat) (s : State), updState s = Up.committing → s.upd.direct = false →
     Answers (.updCommitted e true) s fun t =>
       updState t = Up.idle ∧ t.sto.active = 1 - s.sto.active % 2 ∧
       AMap.get? t.sto.sets t.sto.active = some (relOf (manBytes s.upd)) ∧
       t.sto.gen = s.sto.gen + 1 ∧ t.sto.otp = max s.sto.otp (relOf (manBytes s.upd)).roll ∧ t.upd = {} ∧
       t.boot = s.boot ∧
       (LogReady s → Logs EV.UPD_COMMITTED 0xFF s t)) ∧
  (∀ (e : Nat) (s : State), updState s = Up.committing →
     Answers (.updCommitted e false) s fun t =>
       updState t = (if s.upd.direct then Up.checked else Up.switched) ∧ t.fld R.UPD_STAT F.UPD_STAT.FAIL = 0xC ∧
       t.upd.at_ = t.dt ∧
       t.sto = s.sto ∧ (LogReady s → Logs EV.UPD_FAILED 0xFF s t))

/-! ### Requests of the hosts: registers, logs, sessions, modes -/

/-- Echo and register access (R7, R8, R9, R550, R553 to R555, R695): a read answers the word, a write of a stored field
stores it, a write of W1C bits clears those written 1, a modify changes the masked bits and answers the old word, and a
refused write changes no register. -/
def Obligations.RegistersReadAndWritten : Prop :=
  (∀ (e : Nat) (r : Req) (b : List Byte) (s : State), Takes r s → b.length ≤ 4164 →
     Answers (.echo e r b) s fun t =>
       Replied r 0x01 St.ok b s t ∧ Answered [] s t) ∧
  (∀ (e : Nat) (r : Req) (i : BitVec 16) (s : State), Takes r s → i.toNat < 0x200 → i.toNat ≠ R.DEV_DT_LO → i.toNat ≠
     R.DEV_DT_HI → i.toNat ≠ R.DEV_RTC → i.toNat ≠ R.DEV_ENTRY_BLOCK → i.toNat ≠ R.DEV_FLAG_SUM →
     Answers (.regRead e r [i]) s fun t =>
       Replied r 0x10 St.ok (leBytes 5 (readReg r s i.toNat).toNat) s t ∧ Answered [] s t) ∧
  (∀ (e : Nat) (r : Req) (s : State), Takes r s →
     Answers (.regRead e r [BitVec.ofNat 16 R.DEV_DT_LO]) s fun t =>
       Replied r 0x10 St.ok (leBytes 5 (t.dt % 2 ^ 40)) s t ∧ AMap.getD t.dtHi (pathKey r) 0 = t.dt / 2 ^ 40 ∧
       Answered [] s { t with dtHi := s.dtHi }) ∧
  (∀ (e : Nat) (r : Req) (i : BitVec 16) (s : State), Takes r s → 0x4000 ≤ i.toNat →
     Answers (.regRead e r [i]) s fun t =>
       Replied r 0x10 St.badParam (leBytes 2 0) s t ∧ Answered [] s t) ∧
  (∀ (e : Nat) (r : Req) (m : Fin 2) (c : BitVec 16) (s : State), Takes r s → 1 ≤ c.toNat → c.toNat ≤ 832 →
     Answers (.regReadRepeat e r (BitVec.ofNat 16 (R.TRX_M_CFG m)) c) s fun t =>
       Replied r 0x12 St.ok ((List.replicate c.toNat (readReg r s (R.TRX_M_CFG m))).flatMap fun v => leBytes 5 v.toNat) s t ∧ Answered [] s t) ∧
  (∀ (e : Nat) (r : Req) (i c : BitVec 16) (s : State), Takes r s → (c = 0#16 ∨ 832 < c.toNat) →
     Answers (.regReadRepeat e r i c) s fun t =>
       Replied r 0x12 St.badParam [] s t ∧ Answered [] s t) ∧
  (∀ (e : Nat) (r : Req) (m : Fin 2) (v : Reg) (s : State), Takes r s →
     Answers (.regWrite e r [(BitVec.ofNat 16 (R.TRX_M_WREQ m), v)]) s fun t =>
       t.reg (R.TRX_M_WREQ m) = v ∧ Replied r 0x11 St.ok [] s t ∧ Answered [R.TRX_M_WREQ m] s t) ∧
  (∀ (e : Nat) (r : Req) (m : Fin 2) (v w : Reg) (s : State), Takes r s →
     Answers (.regWrite e r [(BitVec.ofNat 16 (R.TRX_M_WREQ m), v), (BitVec.ofNat 16 (R.TRX_M_STAT m), w)]) s fun t =>
       Replied r 0x11 St.denied (leBytes 2 1) s t ∧ Answered [] s t) ∧
  (∀ (e : Nat) (r : Req) (m : Fin 2) (v w : Reg) (s : State), Takes r s →
     Answers (.regWriteRepeat e r (BitVec.ofNat 16 (R.TRX_M_WREQ m)) [v, w]) s fun t =>
       t.reg (R.TRX_M_WREQ m) = w ∧ Replied r 0x13 St.ok [] s t ∧ Answered [R.TRX_M_WREQ m] s t) ∧
  (∀ (e : Nat) (r : Req) (m : Fin 2) (k v : Reg) (s : State), Takes r s →
     Answers (.regModify e r [(BitVec.ofNat 16 (R.TRX_M_WREQ m), k, v)]) s fun t =>
       t.reg (R.TRX_M_WREQ m) = (s.reg (R.TRX_M_WREQ m) &&& ~~~k) ||| (v &&& k) ∧
       Replied r 0x14 St.ok (leBytes 5 (s.reg (R.TRX_M_WREQ m)).toNat) s t ∧ Answered [R.TRX_M_WREQ m] s t) ∧
  (∀ (e : Nat) (r : Req) (v : Reg) (s : State), Takes r s →
     Answers (.flagClear e r (BitVec.ofNat 16 R.QUE_FLAGS) v) s fun t =>
       t.reg R.QUE_FLAGS = s.reg R.QUE_FLAGS &&& ~~~(v &&& 0xFFFFFFFF#40) ∧ (∀ q : Fin 32, v.getLsbD q = true →
         t.fld (R.QUE_Q_STAT q) F.QUE_Q_STAT.DROPPED = 0) ∧ Replied r 0x11 St.ok [] s t ∧
       Answered (R.QUE_FLAGS :: (List.range 32).map R.QUE_Q_STAT) s t) ∧
  (∀ (e : Nat) (r : Req) (m : Fin 2) (v : Reg) (s : State), Takes r s →
     Answers (.registerWrite e r (BitVec.ofNat 16 (R.TRX_M_WREQ m)) v) s fun t =>
       t.reg (R.TRX_M_WREQ m) = v ∧ Replied r 0x11 St.ok [] s t ∧ Answered [R.TRX_M_WREQ m] s t) ∧
  (∀ (e : Nat) (r : Req) (idx : BitVec 16) (v : Reg) (row : RegRow) (s : State), Takes r s → regRow idx.toNat = some
     row → row.fields.any (fun f => f.cls.writable) = false →
     Answers (.registerWrite e r idx v) s fun t =>
       Replied r 0x11 St.denied (leBytes 2 0) s t ∧ Answered [] s t) ∧
  (∀ (e : Nat) (r : Req) (c : Fin 3) (v : Reg) (s : State), Takes r s → privileged s r = false → s.auditFull = false →
     Answers (.registerWrite e r (BitVec.ofNat 16 (R.CAN_C_NBT c)) v) s fun t =>
       Replied r 0x11 St.denied (leBytes 2 0) s t ∧ Audits r 1 (R.CAN_C_NBT c) s t ∧ Answered [] s t)

/-- Reads (R556, R584, R634, R641): QUEUE_READ answers up to the count asked for and takes nothing; AUDIT_READ and
EVENT_READ refuse a number not in the log and answer the entries, or the markers of missing ones, otherwise; REC_LIST
and REC_READ answer of the captures in storage. -/
def Obligations.QueuesAndLogsRead : Prop :=
  (∀ (e : Nat) (r : Req) (q : BitVec 8) (skip c : BitVec 16) (s : State), Takes r s → q.toNat ≤ 31 → 1 ≤ c.toNat →
     c.toNat ≤ 512 →
     Answers (.queueRead e r q skip c) s fun t =>
       Replied r 0x40 St.ok ((((s.queOf q.toNat).ents.drop skip.toNat).take c.toNat).flatMap fun x => leBytes 8 x.word) s t ∧ Answered [] s t) ∧
  (∀ (e : Nat) (r : Req) (q : BitVec 8) (skip c : BitVec 16) (s : State), Takes r s → (31 < q.toNat ∨ c.toNat = 0 ∨
     512 < c.toNat) →
     Answers (.queueRead e r q skip c) s fun t =>
       Replied r 0x40 St.badParam [] s t ∧ Answered [] s t) ∧
  (∀ (e : Nat) (r : Req) (first : BitVec 40) (c : BitVec 16) (s : State), Takes r s → 1 ≤ c.toNat → c.toNat ≤ 128 →
     (first.toNat + 2 ^ 20 < s.fld R.CMD_AUDIT_NEXT F.CMD_AUDIT_NEXT.NEXT ∨ s.fld R.CMD_AUDIT_NEXT
     F.CMD_AUDIT_NEXT.NEXT ≤ first.toNat) →
     Answers (.auditRead e r first c) s fun t =>
       Replied r 0x50 St.badParam [] s t ∧ Answered [] s t) ∧
  (∀ (e : Nat) (r : Req) (first : BitVec 40) (c : BitVec 16) (s : State), Takes r s → 1 ≤ c.toNat → c.toNat ≤ 128 →
     s.fld R.CMD_AUDIT_NEXT F.CMD_AUDIT_NEXT.NEXT ≤ first.toNat + 2 ^ 20 → first.toNat < s.fld R.CMD_AUDIT_NEXT
     F.CMD_AUDIT_NEXT.NEXT →
     Answers (.auditRead e r first c) s fun t =>
       Replied r 0x50 St.ok ((List.range (min c.toNat (s.fld R.CMD_AUDIT_NEXT F.CMD_AUDIT_NEXT.NEXT - first.toNat))).flatMap fun k =>
       auditEntry s (first.toNat + k)) s t ∧ Answered [] s t) ∧
  (∀ (e : Nat) (r : Req) (first : BitVec 40) (c : BitVec 16) (s : State), Takes r s → 1 ≤ c.toNat → c.toNat ≤ 128 →
     (first.toNat + 2 ^ 21 < s.fld R.LOG_EVENT_NEXT F.LOG_EVENT_NEXT.NEXT ∨ s.fld R.LOG_EVENT_NEXT
     F.LOG_EVENT_NEXT.NEXT ≤ first.toNat) →
     Answers (.eventRead e r first c) s fun t =>
       Replied r 0x51 St.badParam [] s t ∧ Answered [] s t) ∧
  (∀ (e : Nat) (r : Req) (first : BitVec 40) (c : BitVec 16) (s : State), Takes r s → 1 ≤ c.toNat → c.toNat ≤ 128 →
     s.fld R.LOG_EVENT_NEXT F.LOG_EVENT_NEXT.NEXT ≤ first.toNat + 2 ^ 21 → first.toNat < s.fld R.LOG_EVENT_NEXT
     F.LOG_EVENT_NEXT.NEXT →
     Answers (.eventRead e r first c) s fun t =>
       Replied r 0x51 St.ok ((List.range (min c.toNat (s.fld R.LOG_EVENT_NEXT F.LOG_EVENT_NEXT.NEXT - first.toNat))).flatMap fun k =>
       (evEntry s (first.toNat + k)).bytes) s t ∧ Answered [] s t) ∧
  (∀ (e : Nat) (r : Req) (first : BitVec 32) (c : BitVec 8) (s : State), Takes r s → 1 ≤ c.toNat → c.toNat ≤ 64 →
     s.mode ≠ Mode.standby → captures s = [] →
     Answers (.recList e r first c) s fun t =>
       Replied r 0x71 St.ok [] s t ∧ Answered [] s t) ∧
  (∀ (e : Nat) (r : Req) (first : BitVec 32) (c : BitVec 8) (s : State), Takes r s → (c = 0#8 ∨ 64 < c.toNat) →
     Answers (.recList e r first c) s fun t =>
       Replied r 0x71 St.badParam [] s t ∧ Answered [] s t) ∧
  (∀ (e : Nat) (r : Req) (num off : BitVec 32) (len : BitVec 16) (s : State), Takes r s → 1 ≤ len.toNat → len.toNat ≤
     4096 → s.mode ≠ Mode.standby → ((captures s).any fun c => c.num == num.toNat) = false →
     Answers (.recRead e r num off len) s fun t =>
       Replied r 0x72 St.badParam [] s t ∧ Answered [] s t) ∧
  (∀ (e : Nat) (r : Req) (num off : BitVec 32) (len : BitVec 16) (c : Capture) (s : State), Takes r s → 1 ≤ len.toNat
     → len.toNat ≤ 4096 → s.mode ≠ Mode.standby → s.rcd.cur = none → ((captures s).find? fun c => c.num == num.toNat)
     = some c →
     Answers (.recRead e r num off len) s fun t =>
       Replied r 0x72 St.ok (capBytes s c off.toNat len.toNat) s t ∧ Answered [] s t)

/-- Requests (R41, R43, R44, R56, R66, R67, R78, R563 to R567, R570): the first SESSION_OPEN reserves number 1 (none
without a key), the right answer to its challenge opens the session, and SESSION_CLOSE ends it; the key is programmed
once; READY requested in DRIVE begins the orderly stop towards it, DRIVE or CHARGE requested in READY begins its
transition when no entry condition is unmet and is refused with the status of R42 otherwise, SAFE is left for READY on
the same terms, a request during a transition is held in place of the one held before, a request for the mode in force
changes nothing, and a number that is no mode is refused; a request waits while a difference of the glove pair withholds
its outputs, and is answered BUSY in a halt; SAFE_REQUEST enters SAFE at once under the cause CMD, and changes nothing
in SAFE; the clock and its alarm second are set; the cause CMD, written, is cleared without leaving SAFE; a pre-start
run begins in READY and is refused elsewhere. -/
def Obligations.SessionsAndModesRequested : Prop :=
  (∀ (e : Nat) (r : Req) (s : State), Takes r s → s.key.isSome = true → (AMap.getD s.lockouts (pathKey r) {}).until_ =
     0 → s.sessions = [] → r.session = 0 →
     Answers (.sessionOpen e r) s fun t =>
       t.sessions = [(1, { origin := r.origin, node := r.node, nonce := Config.freeValue s.free % 2 ^ 128, opened := t.dt, last := t.dt })] ∧
       t.free = s.free + 1 ∧ Replied r 0x30 St.ok (leBytes 1 1 ++ leBytes 16 (Config.freeValue s.free % 2 ^ 128) ++
         leBytes 8 Config.uid.toNat) s t) ∧
  (∀ (e : Nat) (r : Req) (s : State), Takes r s → s.key = none →
     Answers (.sessionOpen e r) s fun t =>
       Replied r 0x30 St.denied [] s t ∧ Answered [] s t) ∧
  (∀ (e k : Nat) (r : Req) (x : Session) (s : State), Takes { r with session := 0 } s → s.key = some k → AMap.get?
     s.sessions r.session = some x → x.auth = false → x.origin = r.origin → x.node = r.node → r.session ≠ 0 → s.dt + e
     ≤ x.opened + 2000000000 →
     Answers (.sessionAuth e r (authAnswer k x.nonce r.session r.origin)) s fun t =>
       (AMap.get? t.sessions r.session).map (·.auth) = some true ∧ (LogReady s → Logs EV.SESSION_OPEN 0xFF s t) ∧
       Replied r 0x31 St.ok [] s t) ∧
  (∀ (e : Nat) (r : Req) (s : State), Takes r s → privileged s r = true → s.service ≠ r.session →
     Answers (.sessionClose e r) s fun t =>
       AMap.get? t.sessions r.session = none ∧ (LogReady s → Logs EV.SESSION_END 0xFF s t) ∧
       Replied r 0x32 St.ok [] s t ∧ t.service = s.service) ∧
  (∀ (e : Nat) (r : Req) (key : List Byte) (s : State), Takes r s → s.key = none → s.mode = Mode.ready → key.length =
     32 →
     Answers (.keyProgram e r key (BitVec.ofNat 32 (crc32c key))) s fun t =>
       t.key = some (ofLe key) ∧ Replied r 0x34 St.ok [] s t ∧ Answered [] s { t with key := s.key }) ∧
  (∀ (e : Nat) (r : Req) (key : List Byte) (crc : BitVec 32) (s : State), Takes r s → s.key.isSome = true → key.length
     = 32 →
     Answers (.keyProgram e r key crc) s fun t =>
       Replied r 0x34 St.denied [] s t ∧ Answered [] s t) ∧
  (∀ (e : Nat) (r : Req) (s : State), Takes r s → s.trans = none → s.mode = Mode.drive →
     Answers (.modeRequest e r 1) s fun t =>
       t.trans = some { began := t.dt, req := some r, stop := true } ∧ t.bit R.DEV_MODE F.DEV_MODE.TRANSIT = true ∧
       t.fld R.DEV_MODE F.DEV_MODE.TARGET = 1 ∧
       Replied r 0x20 St.ok [] s t ∧ Answered [R.DEV_MODE] s { t with trans := s.trans }) ∧
  (∀ (e : Nat) (r : Req) (m : Fin 8) (s : State), Takes r s → s.trans = none → m.val = s.mode → m.val ≠ 5 → m.val < 6
     →
     Answers (.modeRequest e r m) s fun t =>
       Replied r 0x20 St.ok [] s t ∧ Answered [] s t) ∧
  (∀ (e : Nat) (r : Req) (m : Fin 8) (s : State), Takes r s → 5 < m.val →
     Answers (.modeRequest e r m) s fun t =>
       Replied r 0x20 St.badParam [] s t ∧ Answered [] s t) ∧
  (∀ (e : Nat) (r : Req) (s : State), Takes r s → (s.mode ≠ Mode.safe ∨ s.trans.isSome = true) → s.mode ≠ Mode.standby
     →
     Answers (.safeRequest e r) s fun t =>
       EntersSafe Cause.cmd s t ∧
       Replied r 0x21 St.ok [] s t) ∧
  (∀ (e : Nat) (r : Req) (s : State), Takes r s → s.mode = Mode.safe → s.trans = none →
     Answers (.safeRequest e r) s fun t =>
       Replied r 0x21 St.ok [] s t ∧ Answered [] s t) ∧
  (∀ (e : Nat) (r : Req) (v : Reg) (s : State), Takes r s → privileged s r = true → s.auditFull = false →
     Answers (.rtcWrite e r v) s fun t =>
       t.boot = { s.boot with rtcSec := F.DEV_RTC.SEC.get v, rtcAt := t.el } ∧ t.bit R.DEV_RTC F.DEV_RTC.SET = true ∧
       Replied r 0x11 St.ok [] s t ∧
       Answered [R.DEV_RTC] s { t with boot := s.boot }) ∧
  (∀ (e : Nat) (r : Req) (v : Reg) (s : State), Takes r s → privileged s r = true → F.DEV_RTC_ALARM.EN.get v = 0 →
     s.auditFull = false →
     Answers (.rtcAlarmWrite e r v) s fun t =>
       t.fld R.DEV_RTC_ALARM F.DEV_RTC_ALARM.SEC = F.DEV_RTC_ALARM.SEC.get v ∧ Replied r 0x11 St.ok [] s t ∧
       Answered [R.DEV_RTC_ALARM] s t) ∧
  (∀ (e : Nat) (r : Req) (s : State), Takes r s → privileged s r = true → s.mode = Mode.safe → s.fld R.DEV_SAFE_CAUSE
     ⟨11, 0⟩ = Cause.cmd → s.auditFull = false →
     Answers (.safeCauseClear e r (BitVec.ofNat 40 Cause.cmd)) s fun t =>
       t.fld R.DEV_SAFE_CAUSE ⟨11, 0⟩ = 0 ∧ t.mode = Mode.safe ∧ Replied r 0x11 St.ok [] s t ∧
       Audits r 1 R.DEV_SAFE_CAUSE s t ∧ Answered [R.DEV_SAFE_CAUSE] s t) ∧
  (∀ (e : Nat) (r : Req) (s : State), Takes r s → s.mode = Mode.ready → s.bit R.PROT_PRE_STAT F.PROT_PRE_STAT.RUNNING
     = false →
     Answers (.prestartRun e r) s fun t =>
       t.bit R.PROT_PRE_STAT F.PROT_PRE_STAT.RUNNING = true ∧ t.bit R.PROT_PRE_STAT F.PROT_PRE_STAT.DONE = false ∧
       Replied r 0x11 St.ok [] s t) ∧
  (∀ (e : Nat) (r : Req) (s : State), Takes r s → s.mode ≠ Mode.ready →
     Answers (.prestartRun e r) s fun t =>
       Replied r 0x11 St.wrongMode (leBytes 2 0) s t ∧ Answered [] s t) ∧
  (∀ (e : Nat) (r : Req) (m : Fin 8) (s : State), Takes r s → s.trans = none → s.mode = Mode.ready → (m.val =
     Mode.drive ∨ m.val = Mode.charge) → unmet (s.tick e) m = [] →
     Answers (.modeRequest e r m) s fun t =>
       t.trans = some { began := t.dt, req := some r } ∧ t.bit R.DEV_MODE F.DEV_MODE.TRANSIT = true ∧
       t.fld R.DEV_MODE F.DEV_MODE.TARGET = m ∧ t.mode = Mode.ready ∧
       Replied r 0x20 St.ok [] s t ∧ Answered [R.DEV_MODE] s { t with trans := s.trans }) ∧
  (∀ (e : Nat) (r : Req) (m : Fin 8) (s : State), Takes r s → s.trans = none → s.mode = Mode.ready → (m.val =
     Mode.drive ∨ m.val = Mode.charge) → unmet (s.tick e) m ≠ [] →
     Answers (.modeRequest e r m) s fun t =>
       Replied r 0x20 (refusal (unmet (s.tick e) m)) [] s t ∧ Answered [] s t) ∧
  (∀ (e : Nat) (r : Req) (s : State), Takes r s → s.trans = none → s.mode = Mode.safe → unmet (s.tick e) 1 = [] →
     Answers (.modeRequest e r 1) s fun t =>
       t.trans = some { began := t.dt, req := some r } ∧ t.bit R.DEV_MODE F.DEV_MODE.TRANSIT = true ∧
       t.fld R.DEV_MODE F.DEV_MODE.TARGET = 1 ∧ t.mode = Mode.safe ∧
       Replied r 0x20 St.ok [] s t ∧ Answered [R.DEV_MODE] s { t with trans := s.trans }) ∧
  (∀ (e : Nat) (r : Req) (m : Fin 8) (s : State), Takes r s → s.trans.isSome = true → s.heldMode = none → m.val < 5 →
     Answers (.modeRequest e r m) s fun t =>
       t.heldMode = some { req := r, what := m, stamp := t.dt } ∧ t.trans = s.trans ∧
       t.fld R.DEV_QUEUED F.DEV_QUEUED.MODE_REQ = 8 + m ∧
       Replied r 0x20 St.queued [] s t ∧ Answered [R.DEV_QUEUED] s { t with heldMode := none }) ∧
  (∀ (e : Nat) (r : Req) (m : Fin 8) (s : State), s.boot.phase = .run → s.boot.imageBad = false → (1 ≤ r.origin ∧
     r.origin ≤ 5 ∧ r.node < 256) → (s.portOf (pathKey r)).waiting = [] → (s.portOf (pathKey r)).held = false →
     heldCount s (pathKey r) < 16 → ((AMap.get? s.lastReq (pathKey r)).all fun l => l.seq != r.seq) = true →
     (r.session = 0 ∨ privileged s r = true) → m.val < 5 → s.glove.on = true → jStopped s = false → s.bit R.GLV_STAT
     F.GLV_STAT.RUN = true → s.fld R.GLV_STAT F.GLV_STAT.AGREE = 0 →
     Answers (.modeRequest e r m) s fun t =>
       (t.portOf (pathKey r)).held = true ∧ (t.portOf (pathKey r)).waiting.length = 1 ∧
       (t.portOf (pathKey r)).replies = (s.portOf (pathKey r)).replies ∧
       t.mode = s.mode ∧ t.trans = s.trans ∧ t.heldMode = s.heldMode ∧ t.reg R.DEV_MODE = s.reg R.DEV_MODE) ∧
  (∀ (e : Nat) (r : Req) (m : Fin 8) (s : State), s.boot.phase = .run → s.boot.imageBad = false → (1 ≤ r.origin ∧
     r.origin ≤ 5 ∧ r.node < 256) → (s.portOf (pathKey r)).waiting = [] → (s.portOf (pathKey r)).held = false →
     heldCount s (pathKey r) < 16 → ((AMap.get? s.lastReq (pathKey r)).all fun l => l.seq != r.seq) = true →
     (r.session = 0 ∨ privileged s r = true) → m.val < 5 → s.bit R.GLV_STAT F.GLV_STAT.HALTED = true →
     Answers (.modeRequest e r m) s fun t =>
       Replied r 0x20 St.busy [] s t ∧ Answered [] s t)

/-! ### Requests of the hosts: PWM, measurement, engines, the placer, debug -/

/-- The PWM writes (R106, R181 to R183, R201, R208): a shadow value joins the open set, a token closes it, a latch
release waits for the boundary, a forced output needs SERVICE, and a gate profile is stored. -/
def Obligations.PwmWritten : Prop :=
  (∀ (e : Nat) (r : Req) (k : Fin 33) (v : Reg) (s : State), Takes r s → tbOwned s (tbOfUnit s k) = false →
     Answers (.shadowWrite e r ⟨4 * k.val, by omega⟩ v) s fun t =>
       t.reg (R.PWM_HB_DUTY_H k) = v ∧ (commitFull (s.tbOf (tbOfUnit s k)) = false →
         (t.tbOf (tbOfUnit s k)).openSet = (s.tbOf (tbOfUnit s k)).openSet ++ [⟨k, 1, v.toNat⟩]) ∧
       (commitFull (s.tbOf (tbOfUnit s k)) = true → (t.tbOf (tbOfUnit s k)).full = true) ∧
       Replied r 0x11 St.ok [] s t ∧
       Answered [R.PWM_HB_DUTY_H k] s { t with tb := s.tb }) ∧
  (∀ (e : Nat) (r : Req) (k : Fin 33) (v : Reg) (s : State), Takes r s → tbOwned s (tbOfUnit s k) = true →
     Answers (.shadowWrite e r ⟨4 * k.val, by omega⟩ v) s fun t =>
       Replied r 0x11 St.wrongMode (leBytes 2 0) s t ∧ Answered [] s t) ∧
  (∀ (e : Nat) (r : Req) (j : Fin 6) (v : Reg) (s : State), Takes r s → tbOwned s j = false → 500 ≤
     F.PWM_TB_PERIOD.SHADOW.get v → F.PWM_TB_PERIOD.SHADOW.get v ≤ 200000 → F.PWM_TB_PERIOD.SHADOW.get v % 2 = 0 →
     s.fld (R.PWM_TB_CFG j) F.PWM_TB_CFG.SRC ≠ 1 →
     Answers (.shadowWrite e r ⟨132 + j.val, by omega⟩ v) s fun t =>
       t.fld (R.PWM_TB_PERIOD j) F.PWM_TB_PERIOD.SHADOW = F.PWM_TB_PERIOD.SHADOW.get v ∧
       t.fld (R.PWM_TB_PERIOD j) F.PWM_TB_PERIOD.ACTIVE = s.fld (R.PWM_TB_PERIOD j) F.PWM_TB_PERIOD.ACTIVE ∧
       Replied r 0x11 St.ok [] s t ∧
       Answered [R.PWM_TB_PERIOD j] s { t with tb := s.tb }) ∧
  (∀ (e : Nat) (r : Req) (tbs : BitVec 6) (j : Fin 6) (s : State), Takes r s → (∀ i : Fin 6, bitN tbs.toNat i = true →
     tbOwned s i = false) → bitN tbs.toNat j = true →
     Answers (.pwmCommit e r tbs) s fun t =>
       (t.tbOf j).token = true ∧ (t.tbOf j).openSet = [] ∧
       (t.tbOf j).closed = (s.tbOf j).closed ++ (s.tbOf j).openSet.map (fun x => (t.dt, x)) ∧
       Replied r 0x11 St.ok [] s t ∧
       Answered [] s { t with tb := s.tb }) ∧
  (∀ (e : Nat) (r : Req) (mask : BitVec 33) (s : State), Takes r s →
     Answers (.latchRelease e r mask) s fun t =>
       Replied r 0x11 St.ok [] s t ∧
       (s.plant = none → Answered [] s t)) ∧
  (∀ (e : Nat) (r : Req) (k : Fin 33) (c : Nat) (s : State), Takes r s → convOfUnit s k = some c → k.val ∈ unitsOf s c
     → unitLatched s k = true →
     Answers (.latchRelease e r (BitVec.twoPow 33 k)) s fun t =>
       (t.unitOf k).relPend = true ∧ Replied r 0x11 St.ok [] s t ∧ Answered [] s { t with unit := s.unit }) ∧
  (∀ (e : Nat) (r : Req) (v : Reg) (s : State), Takes r s → privileged s r = true → s.mode ≠ Mode.service →
     Answers (.pwmForce e r v) s fun t =>
       Replied r 0x11 St.wrongMode (leBytes 2 0) s t ∧ Answered [] s t) ∧
  (∀ (e : Nat) (r : Req) (v : Reg) (s : State), Takes r s → privileged s r = true → s.mode = Mode.service →
     F.PWM_FORCE.UNIT.get v ≤ 32 → F.PWM_FORCE.EN.get v = 0 → s.bit R.PWM_FORCE F.PWM_FORCE.EN = false → s.auditFull =
     false →
     Answers (.pwmForce e r v) s fun t =>
       t.reg R.PWM_FORCE &&& 0x1FF#40 = v &&& 0x1FF#40 ∧ Replied r 0x11 St.ok [] s t ∧ (s.discharging = false →
         Answered [R.PWM_FORCE, R.DCL_STAT, R.CHG_FLAGS,
         R.CHG_IRQ_STAT] s { t with eng := s.eng, dcl := s.dcl, chg := s.chg })) ∧
  (∀ (e : Nat) (r : Req) (n : Fin 48) (p : Fin 8) (v : Reg) (s : State), Takes r s → privileged s r = true → usedMode
     s (islUsed s n) = false → s.fld (R.ISL_CFG n) F.ISL_CFG.MAX_STR = 15 → s.auditFull = false →
     Answers (.islProfileWrite e r n p v) s fun t =>
       t.reg (R.ISL_PROF n p) = v ∧ Replied r 0x11 St.ok [] s t ∧ Audits r 1 (R.ISL_PROF n p) s t ∧
       Answered [R.ISL_PROF n p] s t)

/-- Measurement and engine writes (R216, R220, R240, R280, R291 to R294, R37): an acknowledge frees entries of a host
queue, the window stages a word and moves on, APPLY arms what is staged, DISCARD empties it, and the clears set their
counters to 0. -/
def Obligations.MeasurementAndEngineWritten : Prop :=
  (∀ (e : Nat) (r : Req) (q : Fin 32) (n : BitVec 14) (s : State), Takes r s → queCons s q = 1 → n.toNat ≤ (s.queOf
     q).ents.length →
     Answers (.queueAck e r q n) s fun t =>
       (t.queOf q).ents = (s.queOf q).ents.drop n.toNat ∧
       t.fld (R.QUE_Q_PTR q) F.QUE_Q_PTR.FILL = ((s.queOf q).ents.length - n.toNat) % 2 ^ F.QUE_Q_PTR.FILL.width ∧
       Replied r 0x11 St.ok [] s t ∧
       Answered [R.QUE_Q_PTR q] s { t with meas := s.meas }) ∧
  (∀ (e : Nat) (r : Req) (q : Fin 32) (n : BitVec 14) (s : State), Takes r s → (queCons s q ≠ 1 ∨ (s.queOf
     q).ents.length < n.toNat) →
     Answers (.queueAck e r q n) s fun t =>
       Replied r 0x11 St.badParam (leBytes 2 0) s t ∧ Answered [] s t) ∧
  (∀ (e : Nat) (r : Req) (c : Fin 64) (v : Reg) (s : State), Takes r s → privileged s r = true → 0x4000 ≤
     F.ADC_AIN_CAL.GAIN.get v → s.auditFull = false →
     Answers (.ainCalWrite e r c v) s fun t =>
       t.fld (R.ADC_AIN_CAL c) F.ADC_AIN_CAL.GAIN = F.ADC_AIN_CAL.GAIN.get v ∧
       t.fld (R.ADC_AIN_CAL c) F.ADC_AIN_CAL.OFFSET = F.ADC_AIN_CAL.OFFSET.get v ∧
       Replied r 0x11 St.ok [] s t ∧ Answered [R.ADC_AIN_CAL c] s { t with meas := s.meas }) ∧
  (∀ (e : Nat) (r : Req) (c : Fin 64) (v : Reg) (s : State), Takes r s → privileged s r = true →
     F.ADC_AIN_CAL.GAIN.get v < 0x4000 →
     Answers (.ainCalWrite e r c v) s fun t =>
       Replied r 0x11 St.badParam (leBytes 2 0) s t ∧ Answered [] s t) ∧
  (∀ (e : Nat) (r : Req) (s : State), Takes r s → gwinBad s = false →
     Answers (.gwinDataRead e r) s fun t =>
       Replied r 0x10 St.ok (leBytes 5 (gwinWord s).toNat) s t ∧ Answered [R.ENG_GWIN_ADDR] s t) ∧
  (∀ (e : Nat) (r : Req) (s : State), Takes r s → gwinBad s = true →
     Answers (.gwinDataRead e r) s fun t =>
       Replied r 0x10 St.badParam (leBytes 2 0) s t ∧ Answered [] s t) ∧
  (∀ (e : Nat) (r : Req) (v : Reg) (s : State), Takes r s → privileged s r = true → gwinWriteBad s = true →
     Answers (.gwinDataWrite e r v) s fun t =>
       Replied r 0x11 St.badParam (leBytes 2 0) s t ∧ Answered [] s t) ∧
  (∀ (e : Nat) (r : Req) (v : Reg) (s : State), Takes r s → privileged s r = true → gwinWriteBad s = false →
     Answers (.gwinDataWrite e r v) s fun t =>
       ((t.eng.stage.find? fun x => x.2.1 == (gwinAt s).2.2).map fun x => x.2.2) = some v ∧
       t.eng.stageG = (gwinAt s).1 ∧
       t.fld R.ENG_GWIN_STAT F.ENG_GWIN_STAT.STAGED = t.eng.stage.length % 2 ^ F.ENG_GWIN_STAT.STAGED.width ∧
       Replied r 0x11 St.ok [] s t ∧
       Answered [R.ENG_GWIN_STAT, R.ENG_GWIN_ADDR] s { t with eng := s.eng }) ∧
  (∀ (e : Nat) (r : Req) (s : State), Takes r s → privileged s r = true → s.eng.stage = [] → s.auditFull = false →
     Answers (.apply e r) s fun t =>
       Replied r 0x11 St.ok [] s t ∧ t.fld R.ENG_GWIN_STAT F.ENG_GWIN_STAT.STAGED = 0 ∧
       t.bit R.ENG_GWIN_STAT F.ENG_GWIN_STAT.FAIL = false ∧ t.eng.apply_ = s.eng.apply_) ∧
  (∀ (e : Nat) (r : Req) (s : State), Takes r s → privileged s r = true → s.eng.stage ≠ [] → stageFail (gWords s
     s.eng.stageG) (s.eng.stage.map (·.2)) = none → s.audit.buf.length + s.eng.stage.length + 1 < 16384 →
     Answers (.apply e r) s fun t =>
       Replied r 0x11 St.ok [] s t ∧ t.eng.stage = [] ∧ t.bit R.ENG_GWIN_STAT F.ENG_GWIN_STAT.PENDING = true ∧
       AMap.get? t.eng.apply_ s.eng.stageG = some (AMap.getD s.eng.apply_ s.eng.stageG [] ++ s.eng.stage.map (·.2)) ∧
       (∀ g : Fin 8, g.val ≠ s.eng.stageG → AMap.get? t.eng.apply_ g = AMap.get? s.eng.apply_ g)) ∧
  (∀ (e : Nat) (r : Req) (s : State), Takes r s → privileged s r = true → s.auditFull = false →
     Answers (.discard e r) s fun t =>
       Replied r 0x11 St.ok [] s t ∧ t.eng.stage = [] ∧ t.fld R.ENG_GWIN_STAT F.ENG_GWIN_STAT.STAGED = 0 ∧
       Answered [R.ENG_GWIN_STAT] s { t with eng := s.eng }) ∧
  (∀ (e : Nat) (r : Req) (g : Fin 8) (s : State), Takes r s →
     Answers (.engClrCounts e r) s fun t =>
       t.fld (R.ENG_G_COUNT g) F.ENG_G_COUNT.STALE = 0 ∧ t.fld (R.ENG_G_COUNT g) F.ENG_G_COUNT.ACT =
         s.fld (R.ENG_G_COUNT g) F.ENG_G_COUNT.ACT ∧
       t.fld R.ENG_ECC F.ENG_ECC.CORR_COUNT = 0 ∧ Replied r 0x11 St.ok [] s t ∧
       Answered (R.ENG_ECC :: (List.range 8).map R.ENG_G_COUNT) s t) ∧
  (∀ (e : Nat) (r : Req) (g : Fin 8) (s : State), Takes r s →
     Answers (.clrTimeMax e r) s fun t =>
       t.fld (R.ENG_G_TIME g) F.ENG_G_TIME.MAX = 0 ∧ t.fld (R.ENG_G_TIME g) F.ENG_G_TIME.LAST =
         s.fld (R.ENG_G_TIME g) F.ENG_G_TIME.LAST ∧
       t.fld (R.ENG_PAIR_STAT_K g) F.ENG_PAIR_STAT_K.LAG_MAX = 0 ∧ Replied r 0x11 St.ok [] s t ∧
       Answered ((List.range 8).flatMap fun k => [R.ENG_G_TIME k, R.ENG_PAIR_STAT_K k]) s t) ∧
  (∀ (e : Nat) (r : Req) (g : Fin 8) (mask : BitVec 4) (s : State), Takes r s →
     Answers (.graphFlagClear e r g mask) s fun t =>
       t.reg (R.ENG_G_FLAGS g) &&& 0xF#40 = s.reg (R.ENG_G_FLAGS g) &&& 0xF#40 &&& ~~~(BitVec.ofNat 40 mask.toNat) ∧
       Replied r 0x11 St.ok [] s t ∧ Answered [R.ENG_G_FLAGS g] s t) ∧
  (∀ (e : Nat) (r : Req) (s : State), Takes r s →
     Answers (.fabClrCounts e r) s fun t =>
       t.reg R.FAB_XFIFO_OVF = 0 ∧ t.fld R.FAB_ECC F.FAB_ECC.CORR_COUNT = 0 ∧
       t.fld R.FAB_DEADLINE F.FAB_DEADLINE.MISS_COUNT = 0 ∧ Replied r 0x11 St.ok [] s t ∧
       Answered [R.FAB_XFIFO_OVF, R.FAB_ECC, R.FAB_DEADLINE] s t) ∧
  (∀ (e : Nat) (r : Req) (k : Fin 5) (s : State), Takes r s →
     Answers (.clrBlockMax e r) s fun t =>
       t.reg (R.FAB_BLOCK_MAX k) = 0 ∧ Replied r 0x11 St.ok [] s t ∧ Answered ((List.range 5).map R.FAB_BLOCK_MAX) s t)

/-- The placer's window and the glove pair's debug (R332, R333, R532 to R537): a word is written and the window moves
on, SUBMIT starts a proof; HALT asks for a halt in SERVICE, STEP runs one entry, RESUME goes on, the breakpoint is
stored, a halted core's word is read. -/
def Obligations.PlacerAndDebugWritten : Prop :=
  (∀ (e : Nat) (r : Req) (v : Reg) (s : State), Takes r s → privileged s r = true → s.plc.proof = none → s.fld
     R.PLC_PWIN_ADDR F.PLC_PWIN_ADDR.WORD < 104448 → s.auditFull = false →
     Answers (.pwinDataWrite e r v) s fun t =>
       AMap.getD t.plc.win (s.fld R.PLC_PWIN_ADDR F.PLC_PWIN_ADDR.WORD) 0 = v ∧
       t.fld R.PLC_PWIN_ADDR F.PLC_PWIN_ADDR.WORD = s.fld R.PLC_PWIN_ADDR F.PLC_PWIN_ADDR.WORD + 1 ∧
       Replied r 0x11 St.ok [] s t ∧
       Answered [R.PLC_PWIN_ADDR] s { t with plc := s.plc }) ∧
  (∀ (e : Nat) (r : Req) (v : Reg) (s : State), Takes r s → privileged s r = true → s.plc.proof.isSome = true → s.fld
     R.PLC_PWIN_ADDR F.PLC_PWIN_ADDR.WORD < 104448 →
     Answers (.pwinDataWrite e r v) s fun t =>
       Replied r 0x11 St.busy (leBytes 2 0) s t ∧ Answered [] s t) ∧
  (∀ (e : Nat) (r : Req) (s : State), Takes r s → s.fld R.PLC_PWIN_ADDR F.PLC_PWIN_ADDR.WORD < 104448 →
     Answers (.pwinDataRead e r) s fun t =>
       Replied r 0x10 St.ok (leBytes 5 (AMap.getD s.plc.win (s.fld R.PLC_PWIN_ADDR F.PLC_PWIN_ADDR.WORD) 0).toNat) s t ∧
       t.fld R.PLC_PWIN_ADDR F.PLC_PWIN_ADDR.WORD = s.fld R.PLC_PWIN_ADDR F.PLC_PWIN_ADDR.WORD + 1 ∧
       Answered [R.PLC_PWIN_ADDR] s t) ∧
  (∀ (e : Nat) (r : Req) (s : State), Takes r s → 104448 ≤ s.fld R.PLC_PWIN_ADDR F.PLC_PWIN_ADDR.WORD →
     Answers (.pwinDataRead e r) s fun t =>
       Replied r 0x10 St.badParam (leBytes 2 0) s t ∧ Answered [] s t) ∧
  (∀ (e : Nat) (r : Req) (s : State), Takes r s →
     Answers (.pwinReset e r) s fun t =>
       t.reg R.PLC_PWIN_ADDR = 0 ∧ Replied r 0x11 St.ok [] s t ∧ Answered [R.PLC_PWIN_ADDR] s t) ∧
  (∀ (e : Nat) (r : Req) (s : State), Takes r s → privileged s r = true → (s.mode = Mode.ready ∨ s.mode =
     Mode.service) → s.plc.proof = none → updBusy s = false → s.auditFull = false →
     Answers (.submit e r) s fun t =>
       t.plc.proof = some (pwinDesc s, t.dt) ∧ t.fld R.PLC_STAT F.PLC_STAT.STATE = 2 ∧ Replied r 0x11 St.ok [] s t ∧
       Answered [R.PLC_STAT] s { t with plc := s.plc }) ∧
  (∀ (e : Nat) (r : Req) (s : State), Takes r s → privileged s r = true → s.mode ≠ Mode.ready → s.mode ≠ Mode.service
     →
     Answers (.submit e r) s fun t =>
       Replied r 0x11 St.wrongMode (leBytes 2 0) s t ∧ Answered [] s t) ∧
  (∀ (e : Nat) (r : Req) (s : State), Takes r s → privileged s r = true → s.mode = Mode.service → vlink s < 120 →
     s.bit R.GLV_STAT F.GLV_STAT.RUN = false → s.glove.on = true → s.glove.haltPos = none → s.auditFull = false →
     Answers (.halt e r) s fun t =>
       t.bit R.GLV_STAT F.GLV_STAT.HALT_PEND = true ∧ t.glove = { s.glove with haltPos := some (haltPoint s, 1) } ∧
       Replied r 0x11 St.ok [] s t ∧
       Answered [R.GLV_STAT] s { t with glove := s.glove }) ∧
  (∀ (e : Nat) (r : Req) (s : State), Takes r s → privileged s r = true → (s.mode ≠ Mode.service ∨ 120 ≤ vlink s) →
     Answers (.halt e r) s fun t =>
       Replied r 0x11 St.wrongMode (leBytes 2 0) s t ∧ Answered [] s t) ∧
  (∀ (e : Nat) (r : Req) (diff : Option (Fin 4 × Fin 3)) (s : State), Takes r s → privileged s r = true → s.mode =
     Mode.service → vlink s < 120 → s.bit R.GLV_STAT F.GLV_STAT.RUN = false → s.auditFull = false →
     Answers (.step e r diff) s fun t =>
       Replied r 0x11 St.ok [] s t ∧ Answered [] s t) ∧
  (∀ (e : Nat) (r : Req) (d : Fin 4 × Fin 3) (x : JEnt) (s : State), s.boot.phase = .run → s.boot.imageBad = false →
     (1 ≤ r.origin ∧ r.origin ≤ 2 ∧ r.node = 0) → s.portOf (pathKey r) = {} → AMap.get? s.lastReq (pathKey r) = none →
     privileged s r = true → s.mode = Mode.service → vlink s < 120 → s.bit R.GLV_STAT F.GLV_STAT.RUN = false → s.bit
     R.GLV_STAT F.GLV_STAT.HALTED = true → (s.glove.ents.find? fun y => y.seq == s.fld R.GLV_DBG_STAT
     F.GLV_DBG_STAT.POS) = some x → s.auditFull = false →
     Answers (.step e r (some d)) s fun t =>
       t.bit R.GLV_STAT F.GLV_STAT.HALTED = true ∧ t.bit R.GLV_STAT F.GLV_STAT.RUN = true ∧
       t.bit R.GLV_FLAGS F.GLV_FLAGS.MISMATCH = true ∧
       t.fld R.GLV_DBG_STAT F.GLV_DBG_STAT.POS =
         (s.fld R.GLV_DBG_STAT F.GLV_DBG_STAT.POS + 1) % 2 ^ F.GLV_DBG_STAT.POS.width ∧
       t.fld R.GLV_DBG_STAT F.GLV_DBG_STAT.WHY = 3 ∧ (LogReady s → Logs EV.GLOVE_MISMATCH 0xFF s t) ∧
       Replied r 0x11 St.ok [] s t) ∧
  (∀ (e : Nat) (r : Req) (s : State), Takes r s → privileged s r = true → s.auditFull = false →
     Answers (.resume e r) s fun t =>
       Replied r 0x11 St.ok [] s t ∧ t.bit R.GLV_STAT F.GLV_STAT.HALT_PEND = false ∧
       t.glove = { s.glove with haltPos := none } ∧ Answered [R.GLV_STAT] s { t with glove := s.glove }) ∧
  (∀ (e : Nat) (r : Req) (v : Reg) (s : State), Takes r s → privileged s r = true → F.GLV_DBG_BRK.EN.get v = 0 →
     s.auditFull = false →
     Answers (.breakpointWrite e r v) s fun t =>
       t.fld R.GLV_DBG_BRK F.GLV_DBG_BRK.POS = F.GLV_DBG_BRK.POS.get v ∧
       t.bit R.GLV_DBG_BRK F.GLV_DBG_BRK.EN = false ∧ Replied r 0x11 St.ok [] s t ∧ Answered [R.GLV_DBG_BRK] s t) ∧
  (∀ (e : Nat) (r : Req) (v : Reg) (s : State), Takes r s → privileged s r = true → F.GLV_DBG_BRK.EN.get v = 1 →
     s.mode ≠ Mode.service →
     Answers (.breakpointWrite e r v) s fun t =>
       Replied r 0x11 St.wrongMode (leBytes 2 0) s t ∧ Answered [] s t) ∧
  (∀ (e : Nat) (r : Req) (s : State), Takes r s → privileged s r = false →
     Answers (.dwinDataRead e r) s fun t =>
       Replied r 0x10 St.denied (leBytes 2 0) s t ∧ Answered [] s t) ∧
  (∀ (e : Nat) (r : Req) (s : State), Takes r s → privileged s r = true →
     Answers (.dwinDataRead e r) s fun t =>
       Replied r 0x10 St.wrongMode (leBytes 2 0) s t ∧ Answered [] s t) ∧
  (∀ (e : Nat) (r : Req) (s : State), s.boot.phase = .run → s.boot.imageBad = false → (1 ≤ r.origin ∧ r.origin ≤ 2 ∧
     r.node = 0) → s.portOf (pathKey r) = {} → AMap.get? s.lastReq (pathKey r) = none → privileged s r = true → s.bit
     R.GLV_STAT F.GLV_STAT.HALTED = true → s.fld R.GLV_DWIN_ADDR F.GLV_DWIN_ADDR.WORD < 393216 →
     Answers (.dwinDataRead e r) s fun t =>
       Replied r 0x10 St.ok (leBytes 5 (Config.freeValue s.free % 2 ^ 32)) s t ∧ t.free = s.free + 1 ∧
       Answered [R.GLV_DWIN_ADDR] s { t with free := s.free })

/-! ### Requests of the hosts: power stages, lifetime, CAN, storage -/

/-- Traction and link writes (R359, R360, R365 to R367, R372, R373, R391, R405, R413): the enable sets EN where the
checks of R359 pass, the torque request restarts its timeout, the map window stores a point and moves on, VALIDATE
begins, CLEAR needs READY, a DC-DC mode is set. -/
def Obligations.TractionAndLinkWritten : Prop :=
  (∀ (e : Nat) (r : Req) (m : Fin 2) (c : Nat) (s : State), Takes r s → machConv s m = some c → s.mode ≠ Mode.safe →
     mapOk s m = true → obsBound s m = true → s.bit (R.TRX_M_KE_STAT m) F.TRX_M_KE_STAT.DEMAG = false → enableRefused
     s c = false → s.trans = none → tState s m ≠ Ts.rampDown → s.bit (R.TRX_M_CTRL m) F.TRX_M_CTRL.EN = false → bitN
     (s.fld R.PROT_STAT F.PROT_STAT.CONV_SAFE) c = false →
     Answers (.machineEnable e r m) s fun t =>
       t.bit (R.TRX_M_CTRL m) F.TRX_M_CTRL.EN = true ∧ (t.trxOf m).lastTreq = t.dt ∧ Replied r 0x11 St.ok [] s t) ∧
  (∀ (e : Nat) (r : Req) (m : Fin 2) (s : State), Takes r s → machConv s m = none →
     Answers (.machineEnable e r m) s fun t =>
       Replied r 0x11 St.wrongMode (leBytes 2 0) s t ∧ Answered [] s t) ∧
  (∀ (e : Nat) (r : Req) (m : Fin 2) (s : State), Takes r s → s.bit (R.TRX_M_CTRL m) F.TRX_M_CTRL.LIMP = false →
     (s.trxOf m).limpAuto = false →
     Answers (.machineDisable e r m) s fun t =>
       t.bit (R.TRX_M_CTRL m) F.TRX_M_CTRL.EN = false ∧
       Replied r 0x11 St.ok [] s t ∧
       (s.plant = none → Answered [R.TRX_M_CTRL m, R.TRX_M_STAT m] s t)) ∧
  (∀ (e : Nat) (r : Req) (m : Fin 2) (dir : Bool) (s : State), Takes r s → dir ≠ s.bit (R.TRX_M_CTRL m)
     F.TRX_M_CTRL.DIR → dirMay s m = false →
     Answers (.dirChange e r m dir) s fun t =>
       Replied r 0x11 St.wrongMode (leBytes 2 0) s t ∧ Answered [] s t) ∧
  (∀ (e : Nat) (r : Req) (m : Fin 2) (dir : Bool) (s : State), Takes r s → dirMay s m = true → s.bit (R.TRX_M_CTRL m)
     F.TRX_M_CTRL.EN = false → s.bit (R.TRX_M_CTRL m) F.TRX_M_CTRL.LIMP = false → (s.trxOf m).limpAuto = false →
     Answers (.dirChange e r m dir) s fun t =>
       t.bit (R.TRX_M_CTRL m) F.TRX_M_CTRL.DIR = dir ∧ Replied r 0x11 St.ok [] s t ∧
       Answered [R.TRX_M_CTRL m, R.TRX_M_STAT m] s t) ∧
  (∀ (e : Nat) (r : Req) (m : Fin 2) (v : Reg) (s : State), Takes r s → s.bit (R.TRX_M_CTRL m) F.TRX_M_CTRL.LIMP =
     false →
     Answers (.treqWrite e r m v) s fun t =>
       t.reg (R.TRX_M_TREQ m) = v ∧ t.bit (R.TRX_M_STAT m) F.TRX_M_STAT.TREQ_LOST = false ∧
       (t.trxOf m).lastTreq = t.dt ∧ (t.trxOf m).limpAuto = false ∧
       Replied r 0x11 St.ok [] s t ∧ Answered [R.TRX_M_TREQ m, R.TRX_M_STAT m] s { t with trx := s.trx }) ∧
  (∀ (e : Nat) (r : Req) (m : Fin 2) (s : State), Takes r s → s.bit (R.TRX_M_CTRL m) F.TRX_M_CTRL.EN = false → s.bit
     (R.TRX_M_STAT m) F.TRX_M_STAT.LIMP_ACT = false →
     Answers (.limp e r m) s fun t =>
       t.bit (R.TRX_M_CTRL m) F.TRX_M_CTRL.LIMP = true ∧ t.bit (R.TRX_M_STAT m) F.TRX_M_STAT.LIMP_ACT = true ∧
       t.bit R.TRX_FLAGS (if m = 0 then F.TRX_FLAGS.LIMP0 else F.TRX_FLAGS.LIMP1) = true ∧ (LogReady s →
         Logs EV.LIMP m s t) ∧ Replied r 0x11 St.ok [] s t) ∧
  (∀ (e : Nat) (r : Req) (m : Fin 2) (s : State), Takes r s → privileged s r = true → s.mode = Mode.service →
     s.auditFull = false →
     Answers (.demagClear e r m) s fun t =>
       t.bit (R.TRX_M_KE_STAT m) F.TRX_M_KE_STAT.DEMAG = false ∧ Replied r 0x11 St.ok [] s t ∧
       Answered [R.TRX_M_KE_STAT m] s { t with trx := s.trx }) ∧
  (∀ (e : Nat) (r : Req) (m : Fin 2) (s : State), Takes r s → privileged s r = true → s.mode ≠ Mode.service →
     Answers (.demagClear e r m) s fun t =>
       Replied r 0x11 St.wrongMode (leBytes 2 0) s t ∧ Answered [] s t) ∧
  (∀ (e : Nat) (r : Req) (v : Reg) (s : State), Takes r s → privileged s r = true → s.bit (R.TRX_M_CTRL (mapAt s).1)
     F.TRX_M_CTRL.EN = false → mapBusy s = false → s.auditFull = false →
     Answers (.mapDataWrite e r v) s fun t =>
       AMap.getD t.trx.map (mapKey (mapAt s).1 (mapAt s).2) 0 = v ∧
       t.bit R.TRX_MAP_STAT (if (mapAt s).1 = 0 then F.TRX_MAP_STAT.VALID0 else F.TRX_MAP_STAT.VALID1) = false ∧
       Replied r 0x11 St.ok [] s t) ∧
  (∀ (e : Nat) (r : Req) (v : Reg) (s : State), Takes r s → privileged s r = true → s.bit (R.TRX_M_CTRL (mapAt s).1)
     F.TRX_M_CTRL.EN = true →
     Answers (.mapDataWrite e r v) s fun t =>
       Replied r 0x11 St.wrongMode (leBytes 2 0) s t ∧ Answered [] s t) ∧
  (∀ (e : Nat) (r : Req) (s : State), Takes r s →
     Answers (.mapDataRead e r) s fun t =>
       Replied r 0x10 St.ok (leBytes 5 (AMap.getD s.trx.map (mapKey (mapAt s).1 (mapAt s).2) 0).toNat) s t ∧
       Answered [R.TRX_MAP_ADDR] s t) ∧
  (∀ (e : Nat) (r : Req) (s : State), Takes r s → privileged s r = true → mapBusy s = false → s.auditFull = false →
     Answers (.validate e r) s fun t =>
       t.trx.valid = some ((mapAt s).1, t.dt) ∧ t.bit R.TRX_MAP_STAT F.TRX_MAP_STAT.BUSY = true ∧
       Replied r 0x11 St.ok [] s t ∧ Answered [R.TRX_MAP_STAT] s { t with trx := s.trx }) ∧
  (∀ (e : Nat) (r : Req) (s : State), Takes r s → privileged s r = true → mapBusy s = true →
     Answers (.validate e r) s fun t =>
       Replied r 0x11 St.busy (leBytes 2 0) s t ∧ Answered [] s t) ∧
  (∀ (e : Nat) (r : Req) (s : State), Takes r s → s.mode = Mode.ready →
     Answers (.chopClear e r) s fun t =>
       t.fld R.DCL_CHOP_STAT F.DCL_CHOP_STAT.FAULT = 0 ∧
       t.bit R.DCL_CHOP_STAT F.DCL_CHOP_STAT.DEGRADED = false ∧
       t.dcl.runs = 0 ∧
       Replied r 0x11 St.ok [] s t) ∧
  (∀ (e : Nat) (r : Req) (s : State), Takes r s → s.mode ≠ Mode.ready →
     Answers (.chopClear e r) s fun t =>
       Replied r 0x11 St.wrongMode (leBytes 2 0) s t ∧ Answered [] s t) ∧
  (∀ (e : Nat) (r : Req) (mode : BitVec 2) (s : State), Takes r s → mode ≠ 3#2 → s.mode ≠ Mode.safe → dcdcHeld s =
     false → (convsKind s 1).all (fun c => !enableRefused s c) = true  → s.trans = none →
     Answers (.dcdcModeWrite e r mode) s fun t =>
       t.fld R.DCL_DCDC_CTRL F.DCL_DCDC_CTRL.MODE = mode.toNat ∧
       Replied r 0x11 St.ok [] s t) ∧
  (∀ (e : Nat) (r : Req) (s : State), Takes r s → s.mode ≠ Mode.safe → dcdcHeld s = false → (convsKind s 1).all (fun c
     => !enableRefused s c) = true →
     Answers (.dcdcModeWrite e r 3) s fun t =>
       Replied r 0x11 St.badParam (leBytes 2 0) s t ∧ Answered [] s t) ∧
  (∀ (e : Nat) (r : Req) (mode : BitVec 2) (s : State), Takes r s → mode ≠ 0#2 → s.mode = Mode.safe →
     Answers (.dcdcModeWrite e r mode) s fun t =>
       Replied r 0x11 St.wrongMode (leBytes 2 0) s t ∧ Answered [] s t)

/-- Charge, actuator and lifetime writes (R443, R445, R446, R467, R468, R471, R484, R485, R496, R500, R501): START opens
a session in CHARGE, STOP ends one in WAIT, UNLOCK needs LOCKED; EN = 0 brakes, BRAKE brakes, REF sets the hall count;
MIRROR takes a snapshot, CLEAR empties one island's data, VALIDATE judges a curve, the window reads and writes. -/
def Obligations.ChargeActuatorLifeWritten : Prop :=
  (∀ (e : Nat) (r : Req) (s : State), Takes r s → s.mode = Mode.charge → (session s = Ch.none ∨ session s = Ch.ended)
     → s.trans = none → chgRefused s = false →
     Answers (.start e r) s fun t =>
       session t = Ch.wait ∧
       t.fld R.CHG_STAT F.CHG_STAT.END_WHY = 0 ∧
       t.fld R.CHG_STAT F.CHG_STAT.PHASE = (if s.chg.vbat < s.fld R.CHG_PROF F.CHG_PROF.VPRE * 2 ^ 16 then 0 else
       1) ∧
       t.fld R.CHG_SESSION F.CHG_SESSION.SESSION_NO = (s.fld R.CHG_SESSION F.CHG_SESSION.SESSION_NO + 1) % 2 ^
       F.CHG_SESSION.SESSION_NO.width ∧
       t.fld R.CHG_SESSION F.CHG_SESSION.AH = 0 ∧
       t.fld R.CHG_SESSION F.CHG_SESSION.ELAPSED = 0 ∧
       t.chg.ah = 0 ∧
       t.chg.clock = 0 ∧
       Replied r 0x11 St.ok [] s t ∧
       (s.plant = none → Answered (R.CHG_SESSION :: R.CHG_STAT :: R.CHG_IRQ_STAT :: logRegs) s
       { t with chg := s.chg, ev := s.ev, rcd := s.rcd })) ∧
  (∀ (e : Nat) (r : Req) (s : State), Takes r s → (s.mode ≠ Mode.charge ∨ session s = Ch.locked) →
     Answers (.start e r) s fun t =>
       Replied r 0x11 St.wrongMode (leBytes 2 0) s t ∧ Answered [] s t) ∧
  (∀ (e : Nat) (r : Req) (s : State), Takes r s → s.mode = Mode.charge → (session s = Ch.wait ∨ session s =
     Ch.suspend) →
     Answers (.stop e r) s fun t =>
       session t = Ch.ended ∧
       t.fld R.CHG_STAT F.CHG_STAT.END_WHY = 1 ∧
       t.dcl.follow = false ∧
       Replied r 0x11 St.ok [] s t) ∧
  (∀ (e : Nat) (r : Req) (s : State), Takes r s → s.mode ≠ Mode.charge →
     Answers (.stop e r) s fun t =>
       Replied r 0x11 St.wrongMode (leBytes 2 0) s t ∧ Answered [] s t) ∧
  (∀ (e : Nat) (r : Req) (s : State), Takes r s → privileged s r = true → session s = Ch.locked → s.auditFull = false
     →
     Answers (.unlock e r) s fun t =>
       session t = Ch.ended ∧ t.fld R.CHG_STAT F.CHG_STAT.END_WHY = s.fld R.CHG_STAT F.CHG_STAT.END_WHY ∧
       t.bit R.CHG_IRQ_STAT F.CHG_IRQ_STAT.END = true ∧ Replied r 0x11 St.ok [] s t ∧
       Answered [R.CHG_STAT, R.CHG_IRQ_STAT] s t) ∧
  (∀ (e : Nat) (r : Req) (s : State), Takes r s → privileged s r = true → session s ≠ Ch.locked → s.auditFull = false
     →
     Answers (.unlock e r) s fun t =>
       Replied r 0x11 St.ok [] s t ∧ Answered [] s t) ∧
  (∀ (e : Nat) (r : Req) (s : State), Takes r s → privileged s r = false → s.auditFull = false →
     Answers (.unlock e r) s fun t =>
       Replied r 0x11 St.denied (leBytes 2 0) s t ∧ Audits r 1 R.CHG_CTRL s t ∧ Answered [] s t) ∧
  (∀ (e : Nat) (r : Req) (x : BitVec 16) (s : State), Takes r s → s.fld R.CHG_CFG F.CHG_CFG.TSRC = 0 →
     Answers (.tbatWrite e r x) s fun t =>
       t.fld R.CHG_TBAT F.CHG_TBAT.T = x.toNat ∧ t.chg.tbat = some (sx 16 x.toNat) ∧ t.chg.tbatAt = t.dt ∧
       t.bit R.CHG_STAT F.CHG_STAT.TBAT_OK = true ∧ Replied r 0x11 St.ok [] s t ∧
       Answered (R.CHG_TBAT :: R.CHG_STAT :: R.CHG_IRQ_STAT :: logRegs) s { t with chg := s.chg, ev := s.ev, rcd := s.rcd }) ∧
  (∀ (e : Nat) (r : Req) (x : BitVec 16) (s : State), Takes r s → s.fld R.CHG_CFG F.CHG_CFG.TSRC = 1 →
     Answers (.tbatWrite e r x) s fun t =>
       t.fld R.CHG_TBAT F.CHG_TBAT.T = x.toNat ∧ Replied r 0x11 St.ok [] s t ∧ Answered [R.CHG_TBAT] s t) ∧
  (∀ (e : Nat) (r : Req) (a : Fin 3) (s : State), Takes r s → s.mode ≠ Mode.safe → (actPos s a).isSome = true → s.bit
     (R.ACT_A_CTRL a) F.ACT_A_CTRL.BRAKE = false → (actConv s a).all (fun c => !enableRefused s c) = true → s.trans =
     none →
     Answers (.actEnable e r a) s fun t =>
       t.bit (R.ACT_A_CTRL a) F.ACT_A_CTRL.EN = true ∧
       Replied r 0x11 St.ok [] s t ∧
       (s.plant = none → Answered [R.ACT_A_CTRL a] s t)) ∧
  (∀ (e : Nat) (r : Req) (a : Fin 3) (s : State), Takes r s → (s.mode = Mode.safe ∨ (actPos s a).isNone = true) →
     Answers (.actEnable e r a) s fun t =>
       Replied r 0x11 St.wrongMode (leBytes 2 0) s t ∧ Answered [] s t) ∧
  (∀ (e : Nat) (r : Req) (a : Fin 3) (s : State), Takes r s → s.bit (R.ACT_A_CTRL a) F.ACT_A_CTRL.EN = true → aState s
     a ≠ As.off →
     Answers (.actDisable e r a) s fun t =>
       t.bit (R.ACT_A_CTRL a) F.ACT_A_CTRL.EN = false ∧ aState t a = As.brake ∧
       (t.actOf a).brakeEnd = some (t.dt + 20000000) ∧
       (t.actOf a).toFault = false ∧ Replied r 0x11 St.ok [] s t) ∧
  (∀ (e : Nat) (r : Req) (a : Fin 3) (s : State), Takes r s → aState s a = As.off →
     Answers (.actDisable e r a) s fun t =>
       t.bit (R.ACT_A_CTRL a) F.ACT_A_CTRL.EN = false ∧ Replied r 0x11 St.ok [] s t ∧ Answered [R.ACT_A_CTRL a] s t) ∧
  (∀ (e : Nat) (r : Req) (a : Fin 3) (v : Reg) (s : State), Takes r s → F.ACT_A_TGT.TARGET.get v ≤ 4096 → 1 ≤
     F.ACT_A_TGT.PWIN.get v → 1 ≤ F.ACT_A_TGT.ILIM.get v → F.ACT_A_TGT.ILIM.get v ≤ 2 * s.fld (R.ACT_A_CFG a)
     F.ACT_A_CFG.IBASE → (a = 2 → parkRefuses s v = false) → v &&& 0xFFFFFFF#40 = v →
     Answers (.actTargetWrite e r a v) s fun t =>
       t.reg (R.ACT_A_TGT a) &&& 0xFFFFFFF#40 = v ∧ Replied r 0x11 St.ok [] s t) ∧
  (∀ (e : Nat) (r : Req) (v : Reg) (s : State), Takes r s → parkRefuses s v = true → v &&& 0xFFFFFFF#40 = v →
     Answers (.actTargetWrite e r 2 v) s fun t =>
       Replied r 0x11 St.wrongMode (leBytes 2 0) s t ∧ Answered [] s t) ∧
  (∀ (e : Nat) (r : Req) (a : Fin 3) (v : Reg) (s : State), Takes r s → (4096 < F.ACT_A_TGT.TARGET.get v ∨
     F.ACT_A_TGT.PWIN.get v = 0 ∨ F.ACT_A_TGT.ILIM.get v = 0) → a ≠ 2 →
     Answers (.actTargetWrite e r a v) s fun t =>
       Replied r 0x11 St.badParam (leBytes 2 0) s t ∧ Answered [] s t) ∧
  (∀ (e : Nat) (r : Req) (a : Fin 3) (s : State), Takes r s → s.bit (R.ACT_A_CTRL a) F.ACT_A_CTRL.EN = false → s.bit
     (R.ACT_A_CTRL a) F.ACT_A_CTRL.BRAKE = false → aState s a ≠ As.fault → aState s a ≠ As.failed → (s.actOf
     a).toFault = false →
     Answers (.brake e r a) s fun t =>
       t.bit (R.ACT_A_CTRL a) F.ACT_A_CTRL.BRAKE = true ∧ aState t a = As.brake ∧ Replied r 0x11 St.ok [] s t) ∧
  (∀ (e : Nat) (r : Req) (a : Fin 3) (s : State), Takes r s → s.bit (R.ACT_A_CTRL a) F.ACT_A_CTRL.EN = false →
     Answers (.ref e r a) s fun t =>
       (t.actOf a).cnt = sx 16 (s.fld (R.ACT_A_POS a) F.ACT_A_POS.ZERO) ∧ (t.actOf a).known = true ∧
       (t.actOf a).hallBad = false ∧ Replied r 0x11 St.ok [] s t) ∧
  (∀ (e : Nat) (r : Req) (s : State), Takes r s → mirrorBusy s = false →
     Answers (.mirror e r) s fun t =>
       t.bit R.LIFE_STAT F.LIFE_STAT.BUSY = true ∧
       t.life = { s.life with pend := t.life.pend } ∧
       t.life.pend = some { s.life with gen := s.life.gen + 1, kind := 3, tick := t.dt, rtc := t.rtc } ∧
       Replied r 0x11 St.ok [] s t ∧ Answered [R.LIFE_STAT] s { t with life := s.life }) ∧
  (∀ (e : Nat) (r : Req) (s : State), Takes r s → mirrorBusy s = true →
     Answers (.mirror e r) s fun t =>
       Replied r 0x11 St.busy (leBytes 2 0) s t ∧ Answered [] s t) ∧
  (∀ (e : Nat) (r : Req) (n : Fin 48) (s : State), Takes r s → privileged s r = true → s.mode = Mode.service →
     mirrorBusy s = false → s.auditFull = false →
     Answers (.clear e r n) s fun t =>
       (t.lifeOf n).acc = 0 ∧ (t.lifeOf n).mat = [] ∧ (t.lifeOf n).stack = [] ∧
       t.fld (R.LIFE_I_DMG n) F.LIFE_I_DMG.DMG = 0 ∧
       t.bit (R.LIFE_I_TJ n) F.LIFE_I_TJ.CURVE_OK = false ∧ (t.life.pend.map fun p => p.kind) = some 4 ∧
       Replied r 0x11 St.ok [] s t ∧ Audits r 2 R.LIFE_CTRL s t ∧
       (∀ k : Fin 48, k ≠ n → t.lifeOf k = s.lifeOf k ∧ t.reg (R.LIFE_I_DMG k) = s.reg (R.LIFE_I_DMG k))) ∧
  (∀ (e : Nat) (r : Req) (n : Fin 48) (s : State), Takes r s → privileged s r = true → s.mode ≠ Mode.service →
     s.auditFull = false →
     Answers (.clear e r n) s fun t =>
       Replied r 0x11 St.wrongMode (leBytes 2 0) s t ∧ Answered [] s t) ∧
  (∀ (e : Nat) (r : Req) (n : Fin 48) (s : State), Takes r s → s.mode = Mode.service →
     Answers (.curveValidate e r n) s fun t =>
       t.bit (R.LIFE_I_TJ n) F.LIFE_I_TJ.CURVE_OK = curveValid s n ∧ Replied r 0x11 St.ok [] s t ∧
       (curveValid s n = false → t.bit R.LIFE_FLAGS F.LIFE_FLAGS.CURVE_FAIL = true ∧ (LogReady s →
         Logs EV.LIFE_CURVE_FAIL n s t))) ∧
  (∀ (e : Nat) (r : Req) (n : Fin 48) (s : State), Takes r s → s.mode ≠ Mode.service →
     Answers (.curveValidate e r n) s fun t =>
       Replied r 0x11 St.wrongMode (leBytes 2 0) s t ∧ Answered [] s t) ∧
  (∀ (e : Nat) (r : Req) (s : State), Takes r s → twinBad s = false →
     Answers (.lifeTwinDataRead e r) s fun t =>
       Replied r 0x10 St.ok (leBytes 5 (twinWord s).toNat) s t ∧ Answered [R.LIFE_TWIN_ADDR] s t) ∧
  (∀ (e : Nat) (r : Req) (s : State), Takes r s → twinBad s = true →
     Answers (.lifeTwinDataRead e r) s fun t =>
       Replied r 0x10 St.badParam (leBytes 2 0) s t ∧ Answered [] s t) ∧
  (∀ (e : Nat) (r : Req) (v : Reg) (s : State), Takes r s → privileged s r = true → s.fld R.LIFE_TWIN_ADDR
     F.LIFE_TWIN_ADDR.AREA = 1 → s.fld R.LIFE_TWIN_ADDR F.LIFE_TWIN_ADDR.ISL < 4 → s.fld R.LIFE_TWIN_ADDR
     F.LIFE_TWIN_ADDR.WORD < 32 → (s.mode = Mode.ready ∨ s.mode = Mode.service) → s.auditFull = false →
     Answers (.lifeTwinDataWrite e r v) s fun t =>
       AMap.getD t.life.weight (64 * s.fld R.LIFE_TWIN_ADDR F.LIFE_TWIN_ADDR.ISL + s.fld R.LIFE_TWIN_ADDR F.LIFE_TWIN_ADDR.WORD) 0 = v &&& 0xFFFFFFFF#40 ∧
       Replied r 0x11 St.ok [] s t ∧ Audits r 2 R.LIFE_TWIN_DATA s t ∧
       Answered [R.LIFE_TWIN_ADDR] s { t with life := s.life }) ∧
  (∀ (e : Nat) (r : Req) (v : Reg) (s : State), Takes r s → privileged s r = true → s.fld R.LIFE_TWIN_ADDR
     F.LIFE_TWIN_ADDR.AREA = 0 → s.mode ≠ Mode.service → s.auditFull = false →
     Answers (.lifeTwinDataWrite e r v) s fun t =>
       Replied r 0x11 St.wrongMode (leBytes 2 0) s t ∧ Answered [] s t)

/-- Writes of the CAN registers (R592, R595, R597, R598, R601, R602, R606, R618, R621): each changes its controller's
record alone and answers the status its rule gives. -/
def Obligations.CanWritten : Prop :=
  (∀ (e : Nat) (r : Req) (c : Fin 3) (s : State), Takes r s → privileged s r = true → s.fld (R.CAN_C_CFG c)
     F.CAN_C_CFG.EN = 0 → 1 ≤ s.fld (R.CAN_C_CFG c) F.CAN_C_CFG.OWN → s.fld (R.CAN_C_CFG c) F.CAN_C_CFG.OWN ≤ 254 →
     (s.bit (R.CAN_C_CFG c) F.CAN_C_CFG.RESTRICTED && s.bit (R.CAN_C_CFG c) F.CAN_C_CFG.LISTEN) = false → s.auditFull
     = false → canStat s c F.CAN_C_STAT.STATE ≠ 3 →
     Answers (.canEnableWrite e r c true) s fun t =>
       t.bit (R.CAN_C_CFG c) F.CAN_C_CFG.EN = true ∧ (canOf t c).integ = true ∧ Replied r 0x11 St.ok [] s t ∧
       Audits r 1 (R.CAN_C_CFG c) s t ∧ Answered [R.CAN_C_CFG c] s t) ∧
  (∀ (e : Nat) (r : Req) (c : Fin 3) (s : State), Takes r s → privileged s r = true → s.bit (R.CAN_C_CFG c)
     F.CAN_C_CFG.EN = true → 1 ≤ s.fld (R.CAN_C_CFG c) F.CAN_C_CFG.OWN → s.fld (R.CAN_C_CFG c) F.CAN_C_CFG.OWN ≤ 254 →
     (s.bit (R.CAN_C_CFG c) F.CAN_C_CFG.RESTRICTED && s.bit (R.CAN_C_CFG c) F.CAN_C_CFG.LISTEN) = false → s.auditFull
     = false → canStat s c F.CAN_C_STAT.STATE ≠ 3 → (canOf s c).fly = none →
     Answers (.canEnableWrite e r c false) s fun t =>
       t.bit (R.CAN_C_CFG c) F.CAN_C_CFG.EN = false ∧ canStat t c F.CAN_C_STAT.STATE = 0 ∧
       Replied r 0x11 St.ok [] s t ∧ Answered [R.CAN_C_CFG c, R.CAN_C_STAT c] s t) ∧
  (∀ (e : Nat) (r : Req) (c : Fin 3) (s : State), Takes r s →
     Answers (.recover e r c) s fun t =>
       t.bit (R.CAN_C_STAT c) F.CAN_C_STAT.RECOVERING =
         (s.bit (R.CAN_C_STAT c) F.CAN_C_STAT.RECOVERING || canStat s c F.CAN_C_STAT.STATE == 3) ∧
       Replied r 0x11 St.ok [] s t ∧
       Answered [R.CAN_C_STAT c] s t) ∧
  (∀ (e : Nat) (r : Req) (c : Fin 3) (mb : BitVec 6) (req : Bool) (s : State), Takes r s → mb.toNat < 32 →
     canLoadStatus s c (settingVal s (R.CAN_C_LOAD c) [(F.CAN_C_LOAD.MB, mb.toNat), (F.CAN_C_LOAD.REQ, b2n req)]) =
     St.ok → r.origin ≤ 2 →
     Answers (.canLoad e r c mb req) s fun t =>
       AMap.get? (canOf t c).mb mb.toNat = some { frame := canBuf s c, retry := canBufRetry s c, status := b2n req } ∧
       (canOf t c).q = (canOf s c).q ∧ Replied r 0x11 St.ok [] s t ∧ (∀ k : Fin 3, k ≠ c → canOf t k = canOf s k) ∧
       Answered [] s t) ∧
  (∀ (e : Nat) (r : Req) (c : Fin 3) (req : Bool) (s : State), Takes r s → canLoadStatus s c (settingVal s
     (R.CAN_C_LOAD c) [(F.CAN_C_LOAD.MB, 32), (F.CAN_C_LOAD.REQ, b2n req)]) = St.ok → r.origin ≤ 2 →
     Answers (.canLoad e r c 32 req) s fun t =>
       (canOf t c).q = (canOf s c).q ++ [{ frame := canBuf s c, retry := canBufRetry s c, status := 1 }] ∧
       (canOf t c).mb = (canOf s c).mb ∧ Replied r 0x11 St.ok [] s t ∧ (∀ k : Fin 3, k ≠ c → canOf t k = canOf s k) ∧
       Answered [R.CAN_C_STAT c] s t) ∧
  (∀ (e : Nat) (r : Req) (c : Fin 3) (mb : BitVec 6) (req : Bool) (s : State), Takes r s → 32 < mb.toNat →
     Answers (.canLoad e r c mb req) s fun t =>
       Replied r 0x11 St.badParam (leBytes 2 0) s t ∧ Answered [] s t) ∧
  (∀ (e : Nat) (r : Req) (c : Fin 3) (m : Fin 32) (b : CanBox) (s : State), Takes r s → AMap.get? (canOf s c).mb m =
     some b → b.status ≠ 1 → b.status ≠ 2 → r.origin ≤ 2 →
     Answers (.canTxreq e r c (BitVec.twoPow 32 m)) s fun t =>
       AMap.get? (canOf t c).mb m = some { b with fails := 0, status := 1 } ∧ Replied r 0x11 St.ok [] s t ∧
       (∀ k : Fin 3, k ≠ c → canOf t k = canOf s k) ∧ Answered [] s t) ∧
  (∀ (e : Nat) (r : Req) (c : Fin 3) (m : Fin 32) (s : State), Takes r s → AMap.get? (canOf s c).mb m = none →
     Answers (.canTxreq e r c (BitVec.twoPow 32 m)) s fun t =>
       Replied r 0x11 St.badParam (leBytes 2 0) s t ∧ Answered [] s t) ∧
  (∀ (e : Nat) (r : Req) (c : Fin 3) (m : BitVec 5) (b : CanBox) (s : State), Takes r s → AMap.get? (canOf s c).mb
     m.toNat = some b → b.status = 1 → r.origin ≤ 2 →
     Answers (.canCancel e r c m) s fun t =>
       AMap.get? (canOf t c).mb m.toNat = some { b with status := 5 } ∧
       bitN (t.fld (R.CAN_C_TXDONE c) F.CAN_C_TXDONE.MB) m.toNat = true ∧ Replied r 0x11 St.ok [] s t ∧
       (∀ k : Fin 3, k ≠ c → canOf t k = canOf s k) ∧
       Answered [R.CAN_C_TXDONE c] s t) ∧
  (∀ (e : Nat) (r : Req) (c : Fin 3) (m : BitVec 5) (b : CanBox) (s : State), Takes r s → AMap.get? (canOf s c).mb
     m.toNat = some b → b.status = 2 → r.origin ≤ 2 →
     Answers (.canCancel e r c m) s fun t =>
       canOf t c = { canOf s c with cancel := true } ∧ Replied r 0x11 St.inFlight [] s t ∧ (∀ k : Fin 3, k ≠ c →
         canOf t k = canOf s k) ∧ Answered [] s t) ∧
  (∀ (e : Nat) (r : Req) (c : Fin 3) (s : State), Takes r s → (canOf s c).fly ≠ some 32 → r.origin ≤ 2 →
     Answers (.txqFlush e r c) s fun t =>
       canOf t c = { canOf s c with q := [] } ∧ t.fld (R.CAN_C_STAT c) F.CAN_C_STAT.TXQ_FILL = 0 ∧
       Replied r 0x11 St.ok [] s t ∧ (∀ k : Fin 3, k ≠ c → canOf t k = canOf s k) ∧ Answered [R.CAN_C_STAT c] s t) ∧
  (∀ (e : Nat) (r : Req) (c : Fin 3) (x : CanBox) (s : State), Takes r s → (canOf s c).fly = some 32 → (canOf s
     c).q[(canOf s c).flyQ]? = some x → r.origin ≤ 2 →
     Answers (.txqFlush e r c) s fun t =>
       canOf t c = { canOf s c with q := [x], flyQ := 0, cancel := true } ∧ Replied r 0x11 St.inFlight [] s t ∧
       (∀ k : Fin 3, k ≠ c → canOf t k = canOf s k) ∧ Answered [R.CAN_C_STAT c] s t) ∧
  (∀ (e : Nat) (r : Req) (c : Fin 3) (n : BitVec 9) (s : State), Takes r s → n.toNat ≤ s.fld (R.CAN_C_RXSTAT c)
     F.CAN_C_RXSTAT.FILL → r.origin ≤ 2 →
     Answers (.canRxack e r c n) s fun t =>
       canOf t c = { canOf s c with rx := (canOf s c).rx.drop n.toNat } ∧
       t.fld (R.CAN_C_RXSTAT c) F.CAN_C_RXSTAT.FILL =
         ((canOf s c).rx.length - n.toNat) % 2 ^ F.CAN_C_RXSTAT.FILL.width ∧ Replied r 0x11 St.ok [] s t ∧
       (∀ k : Fin 3, k ≠ c → canOf t k = canOf s k) ∧ Answered [R.CAN_C_RXSTAT c] s t) ∧
  (∀ (e : Nat) (r : Req) (c : Fin 3) (n : BitVec 9) (s : State), Takes r s → s.fld (R.CAN_C_RXSTAT c)
     F.CAN_C_RXSTAT.FILL < n.toNat →
     Answers (.canRxack e r c n) s fun t =>
       Replied r 0x11 St.badParam (leBytes 2 0) s t ∧ Answered [] s t) ∧
  (∀ (e : Nat) (r : Req) (s : State), Takes r s → r.origin ≤ 2 →
     Answers (.purge e r) s fun t =>
       t.can.parts = s.can.parts.filter (fun p => p.2.up) ∧ t.fld R.CAN_PT_STAT F.CAN_PT_STAT.LOST = 0 ∧
       t.can.ctl = s.can.ctl ∧ Replied r 0x11 St.ok [] s t ∧ Answered [R.CAN_PT_STAT] s t) ∧
  (∀ (e : Nat) (r : Req) (v : Reg) (s : State), Takes r s → fwinBad s = false →
     Answers (.fwinDataAccess e r false v) s fun t =>
       Replied r 0x10 St.ok (leBytes 5 (fwinWord s).toNat) s t ∧ Answered [R.CAN_FWIN_ADDR] s t) ∧
  (∀ (e : Nat) (r : Req) (v : Reg) (s : State), Takes r s → fwinBad s = true →
     Answers (.fwinDataAccess e r false v) s fun t =>
       Replied r 0x10 St.badParam (leBytes 2 0) s t ∧ Answered [] s t) ∧
  (∀ (e : Nat) (r : Req) (v : Reg) (s : State), Takes r s → fwinWriteBad s = false → r.origin ≤ 2 → s.auditFull =
     false →
     Answers (.fwinDataAccess e r true v) s fun t =>
       filtWord t (fwinAt s).1 (fwinAt s).2.2 = v &&& (if (fwinAt s).2.2 % 2 =
         0 then 0xE01FFFFFFF#40 else 0x1FFFFFFF#40) ∧ Replied r 0x11 St.ok [] s t ∧
       Answered [R.CAN_FWIN_ADDR] s t) ∧
  (∀ (e : Nat) (r : Req) (v : Reg) (s : State), Takes r s → fwinWriteBad s = true →
     Answers (.fwinDataAccess e r true v) s fun t =>
       Replied r 0x11 St.badParam (leBytes 2 0) s t ∧ Answered [] s t)

/-- Storage and update requests (R628, R636, R641, R643, R644, R646, R648, R649, R653): FORMAT lays the slots out anew
in SERVICE, EN arms the recorder, each UPD opcode moves the update from the state it belongs to, and answers WRONG_MODE
from any other. -/
def Obligations.StorageWritten : Prop :=
  (∀ (e : Nat) (r : Req) (s : State), Takes r s → privileged s r = true → s.mode = Mode.service → slotsFit s (s.fld
     R.STO_CFG F.STO_CFG.REC_SLOTS) = true → s.auditFull = false →
     Answers (.format e r) s fun t =>
       t.sto.laid = true ∧ t.sto.n = s.fld R.STO_CFG F.STO_CFG.REC_SLOTS ∧ t.rcd.slots = [] ∧ t.rcd.cur = none ∧
       t.bit R.STO_STAT F.STO_STAT.LAYOUT_OK = true ∧ Replied r 0x11 St.ok [] s t ∧ Audits r 1 R.STO_CTRL s t) ∧
  (∀ (e : Nat) (r : Req) (s : State), Takes r s → privileged s r = true → s.mode ≠ Mode.service → s.auditFull = false
     →
     Answers (.format e r) s fun t =>
       Replied r 0x11 St.wrongMode (leBytes 2 0) s t ∧ Answered [] s t) ∧
  (∀ (e : Nat) (r : Req) (s : State), Takes r s → privileged s r = true → s.bit R.STO_REC_CFG F.STO_REC_CFG.EN = false
     → s.fld R.STO_REC_CFG F.STO_REC_CFG.POST ≤ 4000 → s.fld R.STO_REC_CFG F.STO_REC_CFG.TAPSHIFT ≤ 24 → s.auditFull =
     false →
     Answers (.recEnableWrite e r true) s fun t =>
       t.bit R.STO_REC_CFG F.STO_REC_CFG.EN = true ∧ t.fld R.STO_REC_STAT F.STO_REC_STAT.STATE = 1 ∧
       t.rcd = { s.rcd with hist := [], armedAt := t.dt } ∧ Replied r 0x11 St.ok [] s t ∧
       Audits r 1 R.STO_REC_CFG s t ∧ Answered [R.STO_REC_CFG, R.STO_REC_STAT] s { t with rcd := s.rcd }) ∧
  (∀ (e : Nat) (r : Req) (s : State), Takes r s → privileged s r = true → s.bit R.STO_REC_CFG F.STO_REC_CFG.EN = true
     → s.fld R.STO_REC_CFG F.STO_REC_CFG.POST ≤ 4000 → s.fld R.STO_REC_CFG F.STO_REC_CFG.TAPSHIFT ≤ 24 → s.auditFull =
     false → s.rcd.cur = none →
     Answers (.recEnableWrite e r false) s fun t =>
       t.bit R.STO_REC_CFG F.STO_REC_CFG.EN = false ∧ t.fld R.STO_REC_STAT F.STO_REC_STAT.STATE = 0 ∧
       Replied r 0x11 St.ok [] s t ∧
       Answered [R.STO_REC_CFG, R.STO_REC_STAT] s t) ∧
  (∀ (e : Nat) (r : Req) (s : State), Takes r s → s.mode ≠ Mode.standby → s.fld R.STO_REC_STAT F.STO_REC_STAT.STATE =
     1 →
     Answers (.recTrigger e r) s fun t =>
       Replied r 0x70 St.ok (leBytes 4 t.rcd.lastNum) s t ∧ t.fld R.STO_REC_STAT F.STO_REC_STAT.STATE = 2 ∧
       Answered (R.STO_FLAGS :: logRegs) s { t with rcd := s.rcd, ev := s.ev }) ∧
  (∀ (e : Nat) (r : Req) (s : State), Takes r s → s.mode ≠ Mode.standby → s.fld R.STO_REC_STAT F.STO_REC_STAT.STATE ≠
     1 →
     Answers (.recTrigger e r) s fun t =>
       Replied r 0x70 St.wrongMode [] s t ∧ t.bit R.STO_FLAGS F.STO_FLAGS.REC_MISSED = true ∧ t.rcd.missRun = true ∧
       t.rcd.slots = s.rcd.slots ∧
       (s.rcd.missRun = false → LogReady s → Logs EV.REC_MISSED 0xFF s t) ∧
       Answered (R.STO_FLAGS :: logRegs) s { t with rcd := s.rcd, ev := s.ev }) ∧
  (∀ (e : Nat) (r : Req) (len : BitVec 32) (s : State), Takes r s → privileged s r = true → updBusy s = false → s.mode
     ≠ Mode.standby → devFailed s 0 = false → updState s ≠ Up.checking → 292 ≤ len.toNat → len.toNat ≤ 33056 →
     Answers (.updBegin e r len) s fun t =>
       t.upd = { len := len.toNat } ∧ updState t = Up.receiving ∧ t.fld R.UPD_STAT F.UPD_STAT.FAIL = 0 ∧
       t.fld R.UPD_STAT F.UPD_STAT.RECEIVED = 0 ∧
       t.reg R.UPD_NEW = 0 ∧ Replied r 0x60 St.ok [] s t ∧ Answered [R.UPD_STAT, R.UPD_NEW] s { t with upd := s.upd }) ∧
  (∀ (e : Nat) (r : Req) (len : BitVec 32) (s : State), Takes r s → privileged s r = true → updBusy s = false → s.mode
     ≠ Mode.standby → devFailed s 0 = false → updState s ≠ Up.checking → (len.toNat < 292 ∨ 33056 < len.toNat) →
     Answers (.updBegin e r len) s fun t =>
       Replied r 0x60 St.badParam [] s t ∧ Answered [] s t) ∧
  (∀ (e : Nat) (r : Req) (len : BitVec 32) (s : State), Takes r s → privileged s r = true → updBusy s = true →
     Answers (.updBegin e r len) s fun t =>
       Replied r 0x60 St.busy [] s t ∧ Answered [] s t) ∧
  (∀ (e : Nat) (r : Req) (len : BitVec 32) (s : State), Takes r s → privileged s r = false →
     Answers (.updBegin e r len) s fun t =>
       Replied r 0x60 St.denied [] s t ∧ Answered [] s t) ∧
  (∀ (e : Nat) (r : Req) (num : BitVec 32) (b : List Byte) (s : State), Takes r s → privileged s r = true → s.mode ≠
     Mode.standby → devFailed s 0 = false → updState s = Up.receiving → b.length = 4096 → num.toNat < (s.upd.len +
     4095) / 4096 → manStored s.upd = true →
     Answers (.updBlock e r 0 num b) s fun t =>
       t.upd = { s.upd with man := AMap.ins s.upd.man num.toNat b } ∧ updState t = Up.receiving ∧
       t.fld R.UPD_STAT F.UPD_STAT.RECEIVED =
         (t.upd.man.length + t.upd.data.length) % 2 ^ F.UPD_STAT.RECEIVED.width ∧ Replied r 0x61 St.ok [] s t ∧
       Answered [R.UPD_STAT] s { t with upd := s.upd }) ∧
  (∀ (e : Nat) (r : Req) (kind : BitVec 8) (num : BitVec 32) (b : List Byte) (s : State), Takes r s → privileged s r =
     true → updState s ≠ Up.receiving → b.length = 4096 →
     Answers (.updBlock e r kind num b) s fun t =>
       Replied r 0x61 St.wrongMode [] s t ∧ Answered [] s t) ∧
  (∀ (e : Nat) (r : Req) (kind : BitVec 8) (num : BitVec 32) (b : List Byte) (s : State), Takes r s → privileged s r =
     true → b.length ≠ 4096 →
     Answers (.updBlock e r kind num b) s fun t =>
       Replied r 0x61 St.badParam [] s t ∧ Answered [] s t) ∧
  (∀ (e : Nat) (r : Req) (s : State), Takes r s → privileged s r = true → s.mode ≠ Mode.standby → updState s =
     Up.receiving → allStored s.upd = true →
     Answers (.updCheck e r) s fun t =>
       updState t = Up.checking ∧ t.upd = s.upd ∧ Replied r 0x62 St.ok [] s t ∧ Answered [R.UPD_STAT] s t) ∧
  (∀ (e : Nat) (r : Req) (s : State), Takes r s → privileged s r = true → (updState s ≠ Up.receiving ∨ allStored s.upd
     = false) →
     Answers (.updCheck e r) s fun t =>
       Replied r 0x62 St.wrongMode [] s t ∧ Answered [] s t) ∧
  (∀ (e : Nat) (r : Req) (s : State), Takes r s → privileged s r = true → s.mode ≠ Mode.standby → updState s =
     Up.checked → s.bit R.DEV_MODE F.DEV_MODE.BOOT_FAIL = false →
     Answers (.updActivate e r) s fun t =>
       updState t = Up.activating ∧ t.fld R.UPD_STAT F.UPD_STAT.FAIL = 0 ∧
       t.upd = { s.upd with at_ := t.dt, direct := false } ∧ Replied r 0x63 St.ok [] s t ∧
       Answered [R.UPD_STAT] s { t with upd := s.upd }) ∧
  (∀ (e : Nat) (r : Req) (s : State), Takes r s → privileged s r = true → updState s ≠ Up.checked →
     Answers (.updActivate e r) s fun t =>
       Replied r 0x63 St.wrongMode [] s t ∧ Answered [] s t) ∧
  (∀ (e : Nat) (r : Req) (s : State), Takes r s → privileged s r = true → s.mode ≠ Mode.standby → updState s =
     Up.switched → (if s.d0 then s.dt + e else s.dt) < s.upd.at_ + 2000000000 →
     Answers (.updConfirm e r) s fun t =>
       updState t = Up.committing ∧ Replied r 0x64 St.ok [] s t ∧ Answered [R.UPD_STAT] s t) ∧
  (∀ (e : Nat) (r : Req) (s : State), Takes r s → privileged s r = true → updState s ≠ Up.switched →
     Answers (.updConfirm e r) s fun t =>
       Replied r 0x64 St.wrongMode [] s t ∧ Answered [] s t) ∧
  (∀ (e : Nat) (r : Req) (s : State), Takes r s → privileged s r = true → updState s = Up.committing →
     Answers (.updAbort e r) s fun t =>
       Replied r 0x65 St.busy [] s t ∧ Answered [] s t) ∧
  (∀ (e : Nat) (r : Req) (s : State), Takes r s → privileged s r = true → s.mode ≠ Mode.standby → (updState s =
     Up.receiving ∨ updState s = Up.checking ∨ updState s = Up.checked ∨ updState s = Up.failed) →
     Answers (.updAbort e r) s fun t =>
       updState t = Up.idle ∧ t.fld R.UPD_STAT F.UPD_STAT.FAIL = 0xD ∧ t.upd = {} ∧ Replied r 0x65 St.ok [] s t ∧
       Answered [R.UPD_STAT] s { t with upd := s.upd }) ∧
  (∀ (e : Nat) (r : Req) (s : State), Takes r s → privileged s r = true → s.mode ≠ Mode.standby → updState s =
     Up.switched →
     Answers (.updAbort e r) s fun t =>
       updState t = Up.checked ∧ t.fld R.UPD_STAT F.UPD_STAT.FALLBACK = 1 ∧ t.sto.run = s.upd.old ∧
       t.bit R.STO_FLAGS F.STO_FLAGS.FALLBACK = true ∧
       (LogReady s → Logs EV.UPD_FALLBACK 0xFF s t) ∧ Replied r 0x65 St.ok [] s t) ∧
  (∀ (e : Nat) (r : Req) (s : State), Takes r s → privileged s r = true → s.mode ≠ Mode.standby → updState s =
     Up.activating →
     Answers (.updAbort e r) s fun t =>
       updState t = Up.checked ∧ t.fld R.UPD_STAT F.UPD_STAT.FAIL = 0xD ∧ t.upd = s.upd ∧ (LogReady s →
         Logs EV.UPD_FAILED 0xFF s t) ∧ Replied r 0x65 St.ok [] s t)

/-- Frames from outside (R543, R549, R604, R606, R608, R610, R615, R616): a request frame with a bad CRC, or of which a
byte was lost, is answered BAD_CRC and counted, and a good ECHO frame is answered with its payload; a frame that a
filter accepts enters the receive queue, or is counted DROPPED where 256 stand; a first tunnel segment opens a packet; a
heartbeat of a new partner takes a free entry. -/
def Obligations.FramesReceived : Prop :=
  (∀ (e : Nat) (n : Fin 2) (l : List Byte) (s : State), s.boot.phase = .run → { s.portOf (256 * (n.val + 1)) with word
     := 0 } = ({} : Port) → l.head? ≠ some 0 → (askOf (n.val + 1) 0 l false false).crcBad = true → (l.getD 1
     0).getLsbD 0 = false →
     Answers (.requestFrame e n ⟨l, 0⟩) s fun t =>
       (t.portOf (256 * (n.val + 1))).waiting = [] ∧ (t.portOf (256 * (n.val + 1))).replies =
         [replyBytes (askOf (n.val + 1) 0 l false false) ⟨St.badCrc, []⟩] ∧
       t.fld (R.CMD_PORT_STAT n) F.CMD_PORT_STAT.BAD_CRC =
         satInc F.CMD_PORT_STAT.BAD_CRC.width (s.fld (R.CMD_PORT_STAT n) F.CMD_PORT_STAT.BAD_CRC) 1 ∧
       t.bit R.CMD_FLAGS F.CMD_FLAGS.BAD_CRC = true ∧ (LogReady s → Logs EV.BAD_CRC 0xFF s t) ∧
       t = { s with el := t.el, dt := t.dt, regs := t.regs, ports := t.ports, ev := t.ev, rcd := t.rcd, meas := t.meas } ∧
       OnlyRegs (portRegs ++ logRegs) s t) ∧
  (∀ (e : Nat) (n : Fin 2) (l b : List Byte) (s : State), s.boot.phase = .run → { s.portOf (256 * (n.val + 1)) with
     word := 0 } = ({} : Port) → l.head? ≠ some 0 → s.boot.imageBad = false → AMap.get? s.lastReq (256 * (n.val + 1))
     = none → (askOf (n.val + 1) 0 l false false).crcBad = false → (askOf (n.val + 1) 0 l false false).op = some
     (.echo b) → (l.getD 1 0).getLsbD 0 = false → l.getD 3 0 = 0 →
     Answers (.requestFrame e n ⟨l, 0⟩) s fun t =>
       (t.portOf (256 * (n.val + 1))).waiting = [] ∧ (t.portOf (256 * (n.val + 1))).replies =
         [replyBytes (askOf (n.val + 1) 0 l false false) ⟨St.ok, b⟩] ∧
       t.fld (R.CMD_PORT_STAT n) F.CMD_PORT_STAT.REQUESTS =
         (s.fld (R.CMD_PORT_STAT n) F.CMD_PORT_STAT.REQUESTS + 1) % 2 ^ F.CMD_PORT_STAT.REQUESTS.width ∧
       t.fld (R.CMD_PORT_STAT n) F.CMD_PORT_STAT.BAD_CRC = s.fld (R.CMD_PORT_STAT n) F.CMD_PORT_STAT.BAD_CRC ∧
       t = { s with el := t.el, dt := t.dt, regs := t.regs, ports := t.ports, lastReq := t.lastReq, sessions := t.sessions , meas := t.meas } ∧
       t.meas = (fifoMetN (12 * 64 + n) 0 s).meas ∧ OnlyRegs portRegs s t) ∧
  (∀ (e : Nat) (n : Fin 2) (l : List Byte) (k : Nat) (s : State), s.boot.phase = .run → { s.portOf (256 * (n.val + 1))
     with word := 0 } = ({} : Port) → l.head? ≠ some 0 → (l.getD 1 0).getLsbD 0 = false →
     Answers (.requestFrame e n ⟨l, k + 1⟩) s fun t =>
       (t.portOf (256 * (n.val + 1))).waiting = [] ∧ (t.portOf (256 * (n.val + 1))).replies =
         [replyBytes (askOf (n.val + 1) 0 l false false) ⟨St.badCrc, []⟩] ∧
       t.fld R.FAB_XFIFO_OVF F.FAB_XFIFO_OVF.COUNT =
         satInc F.FAB_XFIFO_OVF.COUNT.width (s.fld R.FAB_XFIFO_OVF F.FAB_XFIFO_OVF.COUNT) (k + 1) ∧
       t.fld (R.CMD_PORT_STAT n) F.CMD_PORT_STAT.BAD_CRC =
         satInc F.CMD_PORT_STAT.BAD_CRC.width (s.fld (R.CMD_PORT_STAT n) F.CMD_PORT_STAT.BAD_CRC) 1) ∧
  (∀ (e : Nat) (n : Fin 2) (l : List Byte) (k : Nat) (s : State), s.boot.phase = .run → l.head? = some 0 →
     Answers (.requestFrame e n ⟨l, k⟩) s fun t =>
       (t.portOf (256 * (n.val + 1))).replies = (s.portOf (256 * (n.val + 1))).replies.drop
       (if 2 + ((s.portOf (256 * (n.val + 1))).replies.headD []).length ≤ l.length + k then 1 else 0) ∧
       (t.portOf (256 * (n.val + 1))).word = portWord (s.portOf (256 * (n.val + 1))) ∧
       (t.portOf (256 * (n.val + 1))).dropped = false ∧
       t = { s.tick e with ports := t.ports }) ∧
  (∀ (e : Nat) (c : Fin 3) (f : CanFrame) (ago : Nat) (k : Nat) (s : State), s.boot.phase = .run → (canStat s c
     F.CAN_C_STAT.STATE = 1 ∨ canStat s c F.CAN_C_STAT.STATE = 2) → canStat s c F.CAN_C_STAT.REC ≤ 127 → jStopped s =
     false → (canOf s c).integ = false → ((canFrame f).fdf = true → s.bit (R.CAN_C_CFG c) F.CAN_C_CFG.FD_EN = true) →
     isSegment s c (canFrame f) = false → hbNode s (canFrame f) = none → filtMatch s c ((s.tick e).dt - ago) (canFrame
     f) = some (k, false) → (canOf s c).rx.length < 256 →
     Answers (.canFrameReceived e c f ago false) s fun t =>
       (canOf t c).rx = (canOf s c).rx ++
         [{ frame := canFrame f, filt := k, lost := (canOf s c).lost, sof := t.dt - ago }] ∧
       (canOf t c).lost = false ∧ t.fld (R.CAN_C_RXSTAT c) F.CAN_C_RXSTAT.FILL =
         ((canOf s c).rx.length + 1) % 2 ^ F.CAN_C_RXSTAT.FILL.width ∧
       canStat t c F.CAN_C_STAT.REC = canStat s c F.CAN_C_STAT.REC - 1 ∧ (∀ j : Fin 3, j ≠ c →
         canOf t j = canOf s j) ∧
       t = { s with el := t.el, dt := t.dt, regs := t.regs, can := t.can } ∧
       OnlyRegs [R.CAN_C_RXSTAT c, R.CAN_C_STAT c] s t) ∧
  (∀ (e : Nat) (c : Fin 3) (f : CanFrame) (ago : Nat) (k : Nat) (s : State), s.boot.phase = .run → (canStat s c
     F.CAN_C_STAT.STATE = 1 ∨ canStat s c F.CAN_C_STAT.STATE = 2) → canStat s c F.CAN_C_STAT.REC ≤ 127 → jStopped s =
     false → (canOf s c).integ = false → ((canFrame f).fdf = true → s.bit (R.CAN_C_CFG c) F.CAN_C_CFG.FD_EN = true) →
     isSegment s c (canFrame f) = false → hbNode s (canFrame f) = none → filtMatch s c ((s.tick e).dt - ago) (canFrame
     f) = some (k, false) → 256 ≤ (canOf s c).rx.length →
     Answers (.canFrameReceived e c f ago false) s fun t =>
       (canOf t c).rx = (canOf s c).rx ∧ (canOf t c).lost = true ∧
       t.fld (R.CAN_C_RXSTAT c) F.CAN_C_RXSTAT.DROPPED =
         satInc F.CAN_C_RXSTAT.DROPPED.width (s.fld (R.CAN_C_RXSTAT c) F.CAN_C_RXSTAT.DROPPED) 1 ∧
       bitN (t.fld R.CAN_FLAGS F.CAN_FLAGS.RX_OVF) c = true ∧ ((canOf s c).rxRun = false → LogReady s →
         Logs EV.CAN_RX_OVERFLOW c s t)) ∧
  (∀ (e : Nat) (c : Fin 3) (f : CanFrame) (ago : Nat) (lost : Bool) (s : State), s.boot.phase = .run → (canStat s c
     F.CAN_C_STAT.STATE = 1 ∨ canStat s c F.CAN_C_STAT.STATE = 2) → (canOf s c).integ = false → (canFrame f).fdf =
     true → s.bit (R.CAN_C_CFG c) F.CAN_C_CFG.FD_EN = false →
     Answers (.canFrameReceived e c f ago lost) s fun t =>
       (canOf t c).integ = true ∧ (canOf t c).rx = (canOf s c).rx ∧ t = { s.tick e with can := t.can }) ∧
  (∀ (e : Nat) (c : Fin 3) (f : CanFrame) (ago : Nat) (lost : Bool) (s : State), canStat s c F.CAN_C_STAT.STATE = 0 ∨
     canStat s c F.CAN_C_STAT.STATE = 3 →
     Answers (.canFrameReceived e c f ago lost) s fun t =>
       t = { s with el := t.el, dt := t.dt }) ∧
  (∀ (e : Nat) (c : Fin 3) (f : CanFrame) (ago : Nat) (s : State), s.boot.phase = .run → (canStat s c
     F.CAN_C_STAT.STATE = 1 ∨ canStat s c F.CAN_C_STAT.STATE = 2) → canStat s c F.CAN_C_STAT.REC ≤ 127 → jStopped s =
     false → (canOf s c).integ = false → ((canFrame f).fdf = true → s.bit (R.CAN_C_CFG c) F.CAN_C_CFG.FD_EN = true) →
     isSegment s c (canFrame f) = true → ((canFrame f).data.getD 2 0).toNat = 128 → (canOf s c).tin = [] →
     Answers (.tunnelSegment e c f ago false) s fun t =>
       (canOf t c).tin = [{ node := ((canFrame f).data.getD 0 0).toNat, bytes := (canFrame f).data.drop 3, ctr := 1, last := t.dt, fdf := (canFrame f).fdf, brs := (canFrame f).brs }] ∧
       (canOf t c).rx = (canOf s c).rx ∧ t.ports = s.ports) ∧
  (∀ (e : Nat) (c : Fin 3) (f : CanFrame) (ago n : Nat) (s : State), s.boot.phase = .run → (canStat s c
     F.CAN_C_STAT.STATE = 1 ∨ canStat s c F.CAN_C_STAT.STATE = 2) → canStat s c F.CAN_C_STAT.REC ≤ 127 → jStopped s =
     false → (canOf s c).integ = false → ((canFrame f).fdf = true → s.bit (R.CAN_C_CFG c) F.CAN_C_CFG.FD_EN = true) →
     isSegment s c (canFrame f) = false → hbNode s (canFrame f) = some n → (canFrame f).rtr = false → (canFrame
     f).data.length = 8 → ((canFrame f).data.getD 0 0 = 3 ∧ (canFrame f).data.getD 1 0 ≠ 0) → s.can.parts = [] →
     filtMatch s c ((s.tick e).dt - ago) (canFrame f) = none → s.glove.on = false →
     Answers (.heartbeatReceived e c f ago false) s fun t =>
       (AMap.get? t.can.parts 0).any (fun x => x.ctl == c.val && x.node == n && x.kind == 3 && x.up && x.stamp ==
         t.dt &&
       x.iv == ((canFrame f).data.getD 1 0).toNat) = true ∧ t.can.parts.length = 1 ∧
         t.fld R.CAN_PT_STAT F.CAN_PT_STAT.UP = 1 ∧
       (LogReady s → Logs EV.PARTNER_UP c s t)) ∧
  (∀ (e : Nat) (c : Fin 3) (f : CanFrame) (ago n : Nat) (s : State), s.boot.phase = .run → (canStat s c
     F.CAN_C_STAT.STATE = 1 ∨ canStat s c F.CAN_C_STAT.STATE = 2) → canStat s c F.CAN_C_STAT.REC ≤ 127 → jStopped s =
     false → (canOf s c).integ = false → ((canFrame f).fdf = true → s.bit (R.CAN_C_CFG c) F.CAN_C_CFG.FD_EN = true) →
     isSegment s c (canFrame f) = false → hbNode s (canFrame f) = some n → (canFrame f).data.length < 8 → filtMatch s
     c ((s.tick e).dt - ago) (canFrame f) = none →
     Answers (.heartbeatReceived e c f ago false) s fun t =>
       t.fld R.CAN_PT_STAT F.CAN_PT_STAT.BAD =
         satInc F.CAN_PT_STAT.BAD.width (s.fld R.CAN_PT_STAT F.CAN_PT_STAT.BAD) 1 ∧
       t.bit R.CAN_FLAGS F.CAN_FLAGS.HB_BAD = true ∧ t.can.parts = s.can.parts)

/-! ### Rules stated whole -/

/-- R216: a write of 0 to EN in DRIVE or CHARGE is answered WRONG_MODE and the buffer stays on; in every other mode the
write is accepted and EN takes the value written. -/
def Obligations.ReferenceStaysOn : Prop :=
  (∀ (e : Nat) (r : Req) (s : State), Takes r s → (s.mode = Mode.drive ∨ s.mode = Mode.charge) →
     Answers (.refEnableWrite e r false) s fun t =>
       Replied r 0x11 St.wrongMode (leBytes 2 0) s t ∧ t.reg R.ADC_REF_CTRL = s.reg R.ADC_REF_CTRL ∧ Answered [] s t) ∧
  (∀ (e : Nat) (r : Req) (on : Bool) (s : State), Takes r s → on = true ∨ (s.mode ≠ Mode.drive ∧ s.mode ≠ Mode.charge)
     →
     Answers (.refEnableWrite e r on) s fun t =>
       t.bit R.ADC_REF_CTRL F.ADC_REF_CTRL.EN = on ∧ Replied r 0x11 St.ok [] s t)

/-- R78: of the twelve causes, the bits written 1 are cleared whose condition has ended at the tick of the write; one
whose condition still holds stays set, and a bit written 0 stays as it was. Nothing else changes but OV2's latch (R421),
the audit entry and the reply. -/
def Obligations.CauseStaysWhileItsConditionHolds : Prop :=
  ∀ (e : Nat) (r : Req) (v : Reg) (s : State), Takes r s → privileged s r = true → s.auditFull = false →
    Answers (.safeCauseClear e r v) s fun t =>
      (∀ b : Fin 12, bitN (t.fld R.DEV_SAFE_CAUSE ⟨11, 0⟩) b =
      (bitN (s.fld R.DEV_SAFE_CAUSE ⟨11, 0⟩) b && !(v.getLsbD b && causeEnded { s with dt := t.dt } b))) ∧
      t.mode = s.mode ∧ Replied r 0x11 St.ok [] s t ∧ (v &&& 0xFFF#40 ≠ 0#40 → Audits r 1 R.DEV_SAFE_CAUSE s t) ∧
      Answered [R.DEV_SAFE_CAUSE, R.DCL_STAT] s t

/-- R690: a read of a register of the TST group answers 0 with status OK, and a write to one is ACCESS_DENIED in every
mode and session and changes nothing. -/
def Obligations.TestRegistersReadZero : Prop :=
  (∀ (e : Nat) (r : Req) (i : BitVec 16) (s : State), Takes r s → 0x3F00 ≤ i.toNat → i.toNat < 0x4000 →
     Answers (.regRead e r [i]) s fun t =>
       Replied r 0x10 St.ok (leBytes 5 0) s t ∧ Answered [] s t) ∧
  (∀ (e : Nat) (r : Req) (i : BitVec 16) (v : Reg) (s : State), Takes r s → 0x3F00 ≤ i.toNat → i.toNat < 0x4000 →
     Answers (.registerWrite e r i v) s fun t =>
       Replied r 0x11 St.denied (leBytes 2 0) s t ∧ Answered [] s t)

/-! ### What the rows of the hardware leave as it was -/

/-- For each row from the supplies to the traction machines that is no host's request: for every state and operands it
answers a next state, in which every part of State but those named is as before, and every register of the DEV group
(R688) but those of the indices listed reads as before. -/
def Obligations.DeviceRowsLeaveTheRest : Prop :=
  (∀ (e : Nat) (fromBelow : Bool) (s : State), Answers (.supplyGood e fromBelow) s fun t =>
      t = { s with dt := t.dt, el := t.el, regs := t.regs, boot := t.boot } ∧
      DevOnly [35, 36] s t) ∧
  (∀ (e : Nat) (s : State), Answers (.vanaLow e) s fun t =>
      t = { s with dt := t.dt, el := t.el, regs := t.regs, trans := t.trans, heldMode := t.heldMode,
                   heldFn := t.heldFn, nfault := t.nfault, ev := t.ev, audit := t.audit, rcd := t.rcd,
                   service := t.service, isl := t.isl, sel := t.sel, conv := t.conv, unit := t.unit, trips := t.trips,
                   discharging := t.discharging, meas := t.meas, eng := t.eng, dcl := t.dcl, chg := t.chg,
                   lvEnd := t.lvEnd, life := t.life, glove := t.glove } ∧
      DevOnly [32, 34, 36, 41] s t) ∧
  (∀ (e : Nat) (s : State), Answers (.vanaGood e) s fun t =>
      t = { s with dt := t.dt, el := t.el, regs := t.regs, meas := t.meas } ∧
      DevOnly [36] s t) ∧
  (∀ (e : Nat) (s : State), Answers (.refSettled e) s fun t =>
      t = { s with dt := t.dt, el := t.el, regs := t.regs, trans := t.trans, heldMode := t.heldMode,
                   heldFn := t.heldFn, nfault := t.nfault, ev := t.ev, audit := t.audit, rcd := t.rcd,
                   service := t.service, isl := t.isl, sel := t.sel, conv := t.conv, unit := t.unit, trips := t.trips,
                   discharging := t.discharging, meas := t.meas, eng := t.eng, dcl := t.dcl, chg := t.chg,
                   lvEnd := t.lvEnd, life := t.life, glove := t.glove } ∧
      DevOnly [32, 34, 41] s t) ∧
  (∀ (e : Nat) (s : State), Answers (.warmResetRelease e) s fun t =>
      t = { s with dt := t.dt, el := t.el, boot := t.boot }) ∧
  (∀ (e : Nat) (good : Bool) (s : State), Answers (.crystalSupervision e good) s fun t =>
      t = { s with dt := t.dt, el := t.el, regs := t.regs, boot := t.boot, trans := t.trans, heldMode := t.heldMode,
                   heldFn := t.heldFn, nfault := t.nfault, ev := t.ev, audit := t.audit, rcd := t.rcd,
                   service := t.service, isl := t.isl, sel := t.sel, conv := t.conv, unit := t.unit,
                   discharging := t.discharging, eng := t.eng, dcl := t.dcl, chg := t.chg, lvEnd := t.lvEnd,
                   glove := t.glove } ∧
      DevOnly [18, 32, 34, 41] s t) ∧
  (∀ (e : Nat) (d0 : Option EmmcInfo) (d1 : Option EmmcInfo) (img : Bool) (life : Bool) (s : State), Answers (.bootImageLoad e d0 d1 img life) s fun t =>
      t = { s with dt := t.dt, el := t.el, regs := t.regs, boot := t.boot, trans := t.trans, heldMode := t.heldMode,
                   heldFn := t.heldFn, nfault := t.nfault, ev := t.ev, audit := t.audit, rcd := t.rcd,
                   service := t.service, isl := t.isl, sel := t.sel, conv := t.conv, unit := t.unit,
                   discharging := t.discharging, eng := t.eng, trx := t.trx, dcl := t.dcl, chg := t.chg, act := t.act,
                   lvEnd := t.lvEnd, life := t.life, plc := t.plc, sto := t.sto, upd := t.upd, glove := t.glove } ∧
      DevOnly [32, 34, 41] s t) ∧
  (∀ (e : Nat) (pass : Bool) (s : State), Answers (.gloveSelftest e pass) s fun t =>
      t = { s with dt := t.dt, el := t.el, regs := t.regs, boot := t.boot, trans := t.trans, heldMode := t.heldMode,
                   heldFn := t.heldFn, nfault := t.nfault, ev := t.ev, audit := t.audit, rcd := t.rcd,
                   service := t.service, isl := t.isl, sel := t.sel, conv := t.conv, unit := t.unit,
                   discharging := t.discharging, eng := t.eng, dcl := t.dcl, chg := t.chg, lvEnd := t.lvEnd,
                   glove := t.glove } ∧
      DevOnly [32, 34, 41] s t) ∧
  (∀ (e : Nat) (s : State), Answers (.plantReproof e) s fun t =>
      t = { s with dt := t.dt, el := t.el, regs := t.regs, boot := t.boot, trans := t.trans, ev := t.ev, rcd := t.rcd,
                   plant := t.plant, isl := t.isl, sel := t.sel, conv := t.conv, unit := t.unit, tb := t.tb,
                   discharging := t.discharging, meas := t.meas, eng := t.eng, dcl := t.dcl, chg := t.chg,
                   act := t.act, plc := t.plc } ∧
      DevOnly [32] s t) ∧
  (∀ (e : Nat) (a : Bool) (b : Bool) (s : State), Answers (.bootEnd e a b) s fun t =>
      t = { s with dt := t.dt, el := t.el, regs := t.regs, boot := t.boot, trans := t.trans, heldMode := t.heldMode,
                   heldFn := t.heldFn, nfault := t.nfault, ev := t.ev, audit := t.audit, rcd := t.rcd,
                   service := t.service, preDue := t.preDue, isl := t.isl, sel := t.sel, conv := t.conv,
                   unit := t.unit, discharging := t.discharging, meas := t.meas, eng := t.eng, dcl := t.dcl,
                   chg := t.chg, act := t.act, lvEnd := t.lvEnd, glove := t.glove, can := t.can, stoHigh := t.stoHigh,
                   stoTold := t.stoTold } ∧
      DevOnly [32, 34, 38, 41] s t) ∧
  (∀ (e : Nat) (s : State), Answers (.crystalLoss e) s fun t =>
      t = { s with dt := t.dt, el := t.el, regs := t.regs, trans := t.trans, heldMode := t.heldMode,
                   heldFn := t.heldFn, nfault := t.nfault, ev := t.ev, audit := t.audit, rcd := t.rcd,
                   service := t.service, isl := t.isl, sel := t.sel, conv := t.conv, unit := t.unit,
                   discharging := t.discharging, eng := t.eng, dcl := t.dcl, chg := t.chg, lvEnd := t.lvEnd,
                   glove := t.glove } ∧
      DevOnly [18, 32, 34, 41] s t) ∧
  (∀ (e : Nat) (pace : BitVec 16) (s : State), Answers (.paceMeasurement e pace) s fun t =>
      t = { s with dt := t.dt, el := t.el, regs := t.regs, boot := t.boot, ev := t.ev, rcd := t.rcd } ∧
      DevOnly [] s t) ∧
  (∀ (e : Nat) (level : Fin 5) (ticks : Nat) (s : State), Answers (.handshakeWaitEnd e level ticks) s fun t =>
      t = { s with dt := t.dt, el := t.el, regs := t.regs } ∧
      DevOnly [] s t) ∧
  (∀ (e : Nat) (word : BitVec 22) (out : Fin 3) (s : State), Answers (.sramScrub e word out) s fun t =>
      t = { s with dt := t.dt, el := t.el, regs := t.regs, free := t.free, trans := t.trans, heldMode := t.heldMode,
                   heldFn := t.heldFn, nfault := t.nfault, ev := t.ev, audit := t.audit, rcd := t.rcd,
                   ports := t.ports, service := t.service, isl := t.isl, sel := t.sel, conv := t.conv, unit := t.unit,
                   discharging := t.discharging, eng := t.eng, trx := t.trx, dcl := t.dcl, chg := t.chg,
                   lvEnd := t.lvEnd, life := t.life, plc := t.plc, sto := t.sto, glove := t.glove, can := t.can,
                   pair := t.pair } ∧
      DevOnly [32, 34, 41] s t) ∧
  (∀ (e : Nat) (s : State), Answers (.modeTransitionComplete e) s fun t =>
      t = { s with dt := t.dt, el := t.el, regs := t.regs, boot := t.boot, trans := t.trans, heldMode := t.heldMode,
                   heldFn := t.heldFn, nfault := t.nfault, ev := t.ev, audit := t.audit, rcd := t.rcd,
                   service := t.service, preDue := t.preDue, isl := t.isl, sel := t.sel, conv := t.conv,
                   unit := t.unit, trips := t.trips, discharging := t.discharging, meas := t.meas, eng := t.eng,
                   trx := t.trx, dcl := t.dcl, chg := t.chg, lvEnd := t.lvEnd, life := t.life, glove := t.glove,
                   can := t.can } ∧
      DevOnly [32, 34, 41] s t) ∧
  (∀ (e : Nat) (s : State), Answers (.stopRampTimeout e) s fun t =>
      t = { s with dt := t.dt, el := t.el, trans := t.trans }) ∧
  (∀ (e : Nat) (vl : BitVec 13) (s : State), Answers (.dischargeComplete e vl) s fun t =>
      t = { s with dt := t.dt, el := t.el, regs := t.regs, boot := t.boot, trans := t.trans, heldMode := t.heldMode,
                   heldFn := t.heldFn, nfault := t.nfault, ev := t.ev, audit := t.audit, rcd := t.rcd,
                   service := t.service, preDue := t.preDue, isl := t.isl, sel := t.sel, conv := t.conv,
                   unit := t.unit, trips := t.trips, discharging := t.discharging, meas := t.meas, eng := t.eng,
                   trx := t.trx, dcl := t.dcl, chg := t.chg, lvEnd := t.lvEnd, life := t.life, glove := t.glove,
                   can := t.can } ∧
      DevOnly [32, 34, 41] s t) ∧
  (∀ (e : Nat) (s : State), Answers (.dischargeLimitExpiry e) s fun t =>
      t = { s with dt := t.dt, el := t.el, regs := t.regs, trans := t.trans, heldMode := t.heldMode,
                   heldFn := t.heldFn, ev := t.ev, rcd := t.rcd, service := t.service, isl := t.isl, sel := t.sel,
                   conv := t.conv, unit := t.unit, discharging := t.discharging, eng := t.eng, trx := t.trx,
                   dcl := t.dcl, chg := t.chg, life := t.life } ∧
      DevOnly [32, 41] s t) ∧
  (∀ (e : Nat) (cause : Fin 7) (s : State), Answers (.wakeCause e cause) s fun t =>
      t = { s with dt := t.dt, el := t.el, regs := t.regs, boot := t.boot, nfault := t.nfault, ev := t.ev,
                   rcd := t.rcd, isl := t.isl, meas := t.meas, glove := t.glove } ∧
      DevOnly [32] s t) ∧
  (∀ (e : Nat) (s : State), Answers (.rtcAlarm e) s fun t =>
      t = { s with dt := t.dt, el := t.el, regs := t.regs, boot := t.boot, nfault := t.nfault, ev := t.ev,
                   rcd := t.rcd, isl := t.isl, meas := t.meas, glove := t.glove } ∧
      DevOnly [32, 43] s t) ∧
  (∀ (e : Nat) (pin : Fin 2) (s : State), Answers (.stoFilterExpiry e pin) s fun t =>
      t = { s with dt := t.dt, el := t.el, regs := t.regs, boot := t.boot, trans := t.trans, heldMode := t.heldMode,
                   heldFn := t.heldFn, nfault := t.nfault, ev := t.ev, audit := t.audit, rcd := t.rcd,
                   service := t.service, isl := t.isl, sel := t.sel, conv := t.conv, unit := t.unit,
                   discharging := t.discharging, eng := t.eng, dcl := t.dcl, chg := t.chg, lvEnd := t.lvEnd,
                   glove := t.glove, stoHigh := t.stoHigh, stoTold := t.stoTold } ∧
      DevOnly [32, 34, 38, 41] s t) ∧
  (∀ (e : Nat) (s : State), Answers (.stoDiscrepancy e) s fun t =>
      t = { s with dt := t.dt, el := t.el, regs := t.regs, trans := t.trans, heldMode := t.heldMode,
                   heldFn := t.heldFn, nfault := t.nfault, ev := t.ev, audit := t.audit, rcd := t.rcd,
                   service := t.service, isl := t.isl, sel := t.sel, conv := t.conv, unit := t.unit,
                   discharging := t.discharging, eng := t.eng, dcl := t.dcl, chg := t.chg, lvEnd := t.lvEnd,
                   glove := t.glove, stoTold := t.stoTold } ∧
      DevOnly [32, 34, 41] s t) ∧
  (∀ (e : Nat) (vl : BitVec 13) (s : State), Answers (.link60v e vl) s fun t =>
      t = { s with dt := t.dt, el := t.el, regs := t.regs, trans := t.trans, heldMode := t.heldMode,
                   heldFn := t.heldFn, nfault := t.nfault, ev := t.ev, audit := t.audit, rcd := t.rcd,
                   service := t.service, isl := t.isl, sel := t.sel, conv := t.conv, unit := t.unit,
                   discharging := t.discharging, eng := t.eng, dcl := t.dcl, chg := t.chg, lvEnd := t.lvEnd,
                   glove := t.glove } ∧
      DevOnly [32, 34, 41] s t) ∧
  (∀ (e : Nat) (n : Fin 48) (vdd : Bool) (vee : Bool) (s : State), Answers (.islLockoutEntry e n vdd vee) s fun t =>
      t = { s with dt := t.dt, el := t.el, regs := t.regs, trans := t.trans, ev := t.ev, rcd := t.rcd, isl := t.isl,
                   sel := t.sel, conv := t.conv, unit := t.unit, discharging := t.discharging, eng := t.eng,
                   dcl := t.dcl, chg := t.chg } ∧
      DevOnly [32] s t) ∧
  (∀ (e : Nat) (n : Fin 48) (vdd : Bool) (vee : Bool) (s : State), Answers (.islLockoutRelease e n vdd vee) s fun t =>
      t = { s with dt := t.dt, el := t.el, regs := t.regs, trans := t.trans, ev := t.ev, rcd := t.rcd, isl := t.isl,
                   sel := t.sel, conv := t.conv, unit := t.unit, discharging := t.discharging, eng := t.eng,
                   dcl := t.dcl, chg := t.chg } ∧
      DevOnly [32] s t) ∧
  (∀ (e : Nat) (n : Fin 48) (s : State), Answers (.islSupplyOk e n) s fun t =>
      t = { s with dt := t.dt, el := t.el, regs := t.regs, ev := t.ev, rcd := t.rcd, isl := t.isl } ∧
      DevOnly [] s t) ∧
  (∀ (e : Nat) (n : Fin 48) (why : Fin 2) (s : State), Answers (.islSeq e n why) s fun t =>
      t = { s with dt := t.dt, el := t.el, regs := t.regs, ev := t.ev, rcd := t.rcd } ∧
      DevOnly [] s t) ∧
  (∀ (e : Nat) (n : Fin 48) (s : State), Answers (.islPowerUp e n) s fun t =>
      t = { s with dt := t.dt, el := t.el, regs := t.regs, trans := t.trans, ev := t.ev, rcd := t.rcd, isl := t.isl,
                   sel := t.sel, conv := t.conv, unit := t.unit, discharging := t.discharging, eng := t.eng,
                   dcl := t.dcl, chg := t.chg } ∧
      DevOnly [32] s t) ∧
  (∀ (e : Nat) (n : Fin 48) (down : Bool) (s : State), Answers (.islBadFrame e n down) s fun t =>
      t = { s with dt := t.dt, el := t.el, regs := t.regs, ev := t.ev, rcd := t.rcd, isl := t.isl } ∧
      DevOnly [] s t) ∧
  (∀ (e : Nat) (n : Fin 48) (s : State), Answers (.islLinkDown e n) s fun t =>
      t = { s with dt := t.dt, el := t.el, regs := t.regs, trans := t.trans, heldMode := t.heldMode,
                   heldFn := t.heldFn, nfault := t.nfault, ev := t.ev, audit := t.audit, rcd := t.rcd,
                   service := t.service, preDue := t.preDue, isl := t.isl, sel := t.sel, conv := t.conv,
                   unit := t.unit, discharging := t.discharging, meas := t.meas, eng := t.eng, dcl := t.dcl,
                   chg := t.chg, lvEnd := t.lvEnd, glove := t.glove } ∧
      DevOnly [32, 34, 41] s t) ∧
  (∀ (e : Nat) (n : Fin 48) (s : State), Answers (.islFallbackApply e n) s fun t =>
      t = { s with dt := t.dt, el := t.el, regs := t.regs, isl := t.isl } ∧
      DevOnly [] s t) ∧
  (∀ (e : Nat) (n : Fin 48) (s : State), Answers (.islLinkUp e n) s fun t =>
      t = { s with dt := t.dt, el := t.el, regs := t.regs, trans := t.trans, ev := t.ev, rcd := t.rcd, isl := t.isl,
                   sel := t.sel, conv := t.conv, unit := t.unit, discharging := t.discharging, eng := t.eng,
                   dcl := t.dcl, chg := t.chg } ∧
      DevOnly [32] s t) ∧
  (∀ (e : Nat) (n : Fin 48) (ps : Nat) (s : State), Answers (.islTrimRemeasure e n ps) s fun t =>
      t = { s with dt := t.dt, el := t.el, regs := t.regs } ∧
      DevOnly [] s t) ∧
  (∀ (e : Nat) (n : Fin 48) (ps : Nat) (s : State), Answers (.islandCalibration e n ps) s fun t =>
      t = { s with dt := t.dt, el := t.el, regs := t.regs, ev := t.ev, rcd := t.rcd, preDue := t.preDue, isl := t.isl,
                   sel := t.sel, conv := t.conv, meas := t.meas } ∧
      DevOnly [] s t) ∧
  (∀ (e : Nat) (n : Fin 48) (code : BitVec 12) (s : State), Answers (.islVdsReport e n code) s fun t =>
      t = { s with dt := t.dt, el := t.el, regs := t.regs, trans := t.trans, ev := t.ev, rcd := t.rcd, isl := t.isl,
                   conv := t.conv, unit := t.unit, discharging := t.discharging, meas := t.meas, eng := t.eng,
                   dcl := t.dcl, chg := t.chg, life := t.life } ∧
      DevOnly [32] s t) ∧
  (∀ (e : Nat) (n : Fin 48) (code : BitVec 12) (vdd : BitVec 12) (vee : BitVec 12) (s : State), Answers (.islEnvReport e n code vdd vee) s fun t =>
      t = { s with dt := t.dt, el := t.el, regs := t.regs, ev := t.ev, rcd := t.rcd, meas := t.meas, life := t.life } ∧
      DevOnly [] s t) ∧
  (∀ (e : Nat) (which : Fin 10) (s : State), Answers (.lvLockout e which) s fun t =>
      t = { s with dt := t.dt, el := t.el, regs := t.regs, ev := t.ev, rcd := t.rcd, isl := t.isl, conv := t.conv,
                   unit := t.unit, eng := t.eng, act := t.act } ∧
      DevOnly [36] s t) ∧
  (∀ (e : Nat) (which : Fin 10) (s : State), Answers (.lvLockoutRelease e which) s fun t =>
      t = { s with dt := t.dt, el := t.el, regs := t.regs, isl := t.isl } ∧
      DevOnly [36] s t) ∧
  (∀ (e : Nat) (ch : Fin 18) (mv : Nat) (s : State), Answers (.lvGateCheck e ch mv) s fun t =>
      t = { s with dt := t.dt, el := t.el, regs := t.regs, ev := t.ev, rcd := t.rcd, isl := t.isl, conv := t.conv,
                   unit := t.unit, eng := t.eng, act := t.act } ∧
      DevOnly [] s t) ∧
  (∀ (e : Nat) (n : DesatReading) (s : State), Answers (.desatDetection e n) s fun t =>
      t = { s with dt := t.dt, el := t.el, regs := t.regs, isl := t.isl } ∧
      DevOnly [] s t) ∧
  (∀ (e : Nat) (n : Fin 48) (nvs : Nat) (s : State), Answers (.kelvinOcDetection e n nvs) s fun t =>
      t = { s with dt := t.dt, el := t.el, regs := t.regs, isl := t.isl } ∧
      DevOnly [] s t) ∧
  (∀ (e : Nat) (n : Fin 48) (s : State), Answers (.softTurnOffEnd e n) s fun t =>
      t = { s with dt := t.dt, el := t.el, regs := t.regs, trans := t.trans, ev := t.ev, rcd := t.rcd, isl := t.isl,
                   sel := t.sel, conv := t.conv, unit := t.unit, discharging := t.discharging, eng := t.eng,
                   dcl := t.dcl, chg := t.chg } ∧
      DevOnly [32] s t) ∧
  (∀ (e : Nat) (n : Fin 48) (s : State), Answers (.detectionReceived e n) s fun t =>
      t = { s with dt := t.dt, el := t.el, regs := t.regs, trans := t.trans, heldMode := t.heldMode,
                   heldFn := t.heldFn, nfault := t.nfault, ev := t.ev, audit := t.audit, rcd := t.rcd,
                   service := t.service, isl := t.isl, sel := t.sel, conv := t.conv, unit := t.unit,
                   discharging := t.discharging, eng := t.eng, dcl := t.dcl, chg := t.chg, lvEnd := t.lvEnd,
                   glove := t.glove } ∧
      DevOnly [32, 34, 41] s t) ∧
  (∀ (e : Nat) (m : Fin 2) (src : Fin 4) (rpm : BitVec 32) (s : State), Answers (.selectorSpeedRefresh e m src rpm) s fun t =>
      t = { s with dt := t.dt, el := t.el, regs := t.regs, ev := t.ev, rcd := t.rcd, isl := t.isl, sel := t.sel,
                   unit := t.unit } ∧
      DevOnly [] s t) ∧
  (∀ (e : Nat) (m : Fin 2) (s : State), Answers (.speedStale e m) s fun t =>
      t = { s with dt := t.dt, el := t.el, regs := t.regs, ev := t.ev, rcd := t.rcd, isl := t.isl, sel := t.sel,
                   unit := t.unit } ∧
      DevOnly [] s t) ∧
  (∀ (e : Nat) (m : Fin 2) (s : State), Answers (.activeShortHoldExpiry e m) s fun t =>
      t = { s with dt := t.dt, el := t.el, regs := t.regs, ev := t.ev, rcd := t.rcd, isl := t.isl, sel := t.sel,
                   unit := t.unit } ∧
      DevOnly [] s t) ∧
  (∀ (e : Nat) (m : Fin 2) (s : State), Answers (.swapDtExpiry e m) s fun t =>
      t = { s with dt := t.dt, el := t.el, regs := t.regs, ev := t.ev, rcd := t.rcd, isl := t.isl, sel := t.sel,
                   unit := t.unit } ∧
      DevOnly [] s t) ∧
  (∀ (e : Nat) (gates : List GateTest) (phs : List PhsTest) (s : State), Answers (.prestartDone e gates phs) s fun t =>
      t = { s with dt := t.dt, el := t.el, regs := t.regs, ev := t.ev, rcd := t.rcd, conv := t.conv } ∧
      DevOnly [] s t) ∧
  (∀ (e : Nat) (link : Nat) (phs : RailReading) (s : State), Answers (.railTest e link phs) s fun t =>
      t = { s with dt := t.dt, el := t.el, regs := t.regs, ev := t.ev, rcd := t.rcd, conv := t.conv } ∧
      DevOnly [] s t) ∧
  (∀ (e : Nat) (j : Fin 6) (s : State), Answers (.timebaseStart e j) s fun t =>
      t = { s with dt := t.dt, el := t.el, regs := t.regs, conv := t.conv, tb := t.tb, eng := t.eng } ∧
      DevOnly [] s t) ∧
  (∀ (e : Nat) (j : Fin 6) (diffs : List PairDiff) (vl : BitVec 13) (s : State), Answers (.commitDeadline e j diffs vl) s fun t =>
      t = { s with dt := t.dt, el := t.el, regs := t.regs, ev := t.ev, rcd := t.rcd, isl := t.isl, sel := t.sel,
                   conv := t.conv, unit := t.unit, tb := t.tb, eng := t.eng, trx := t.trx, dcl := t.dcl, chg := t.chg,
                   plc := t.plc } ∧
      DevOnly [] s t) ∧
  (∀ (e : Nat) (j : Fin 6) (vl : BitVec 13) (s : State), Answers (.periodBoundary e j vl) s fun t =>
      t = { s with dt := t.dt, el := t.el, regs := t.regs, trans := t.trans, heldMode := t.heldMode,
                   heldFn := t.heldFn, nfault := t.nfault, ev := t.ev, audit := t.audit, rcd := t.rcd,
                   service := t.service, isl := t.isl, sel := t.sel, conv := t.conv, unit := t.unit, tb := t.tb,
                   discharging := t.discharging, meas := t.meas, eng := t.eng, trx := t.trx, dcl := t.dcl,
                   chg := t.chg, lvEnd := t.lvEnd, life := t.life, plc := t.plc, glove := t.glove } ∧
      DevOnly [32, 34, 41] s t) ∧
  (∀ (e : Nat) (n : Fin 48) (s : State), Answers (.tjInvalid e n) s fun t =>
      t = { s with dt := t.dt, el := t.el, regs := t.regs } ∧
      DevOnly [] s t) ∧
  (∀ (e : Nat) (k : Fin 33) (s : State), Answers (.gateEdge e k) s fun t =>
      t = { s with dt := t.dt, el := t.el, regs := t.regs, trans := t.trans, ev := t.ev, rcd := t.rcd, isl := t.isl,
                   conv := t.conv, unit := t.unit, discharging := t.discharging, eng := t.eng, dcl := t.dcl,
                   chg := t.chg, life := t.life } ∧
      DevOnly [32] s t) ∧
  (∀ (e : Nat) (src : Fin 72) (on : Bool) (s : State), Answers (.tripAssert e src on) s fun t =>
      t = { s with dt := t.dt, el := t.el, regs := t.regs, trans := t.trans, heldMode := t.heldMode,
                   heldFn := t.heldFn, nfault := t.nfault, ev := t.ev, audit := t.audit, rcd := t.rcd,
                   service := t.service, isl := t.isl, sel := t.sel, conv := t.conv, unit := t.unit, trips := t.trips,
                   discharging := t.discharging, meas := t.meas, eng := t.eng, dcl := t.dcl, chg := t.chg,
                   lvEnd := t.lvEnd, life := t.life, glove := t.glove } ∧
      DevOnly [32, 34, 41] s t) ∧
  (∀ (e : Nat) (s : State), Answers (.syncInEdge e) s fun t =>
      t = { s with dt := t.dt, el := t.el, regs := t.regs, tb := t.tb } ∧
      DevOnly [] s t) ∧
  (∀ (e : Nat) (s : State), Answers (.syncLost e) s fun t =>
      t = { s with dt := t.dt, el := t.el, regs := t.regs, ev := t.ev, rcd := t.rcd, tb := t.tb, meas := t.meas } ∧
      DevOnly [] s t) ∧
  (∀ (e : Nat) (n : Fin 12) (s : State), Answers (.adcTrigger e n) s fun t =>
      t = { s with dt := t.dt, el := t.el, regs := t.regs, ev := t.ev, rcd := t.rcd, meas := t.meas } ∧
      DevOnly [] s t) ∧
  (∀ (e : Nat) (n : Fin 12) (codes : List Int) (s : State), Answers (.adcSlotResult e n codes) s fun t =>
      t = { s with dt := t.dt, el := t.el, regs := t.regs, ev := t.ev, rcd := t.rcd, meas := t.meas } ∧
      DevOnly [] s t) ∧
  (∀ (e : Nat) (n : Fin 12) (first : Int) (codes : List Int) (s : State), Answers (.integratorResult e n first codes) s fun t =>
      t = { s with dt := t.dt, el := t.el, regs := t.regs, ev := t.ev, rcd := t.rcd, meas := t.meas } ∧
      DevOnly [] s t) ∧
  (∀ (e : Nat) (n : Fin 12) (code : Int) (s : State), Answers (.continuousSample e n code) s fun t =>
      t = { s with dt := t.dt, el := t.el, regs := t.regs, ev := t.ev, rcd := t.rcd, meas := t.meas } ∧
      DevOnly [] s t) ∧
  (∀ (e : Nat) (n : Fin 12) (diff : Nat) (s : State), Answers (.adcLane e n diff) s fun t =>
      t = { s with dt := t.dt, el := t.el, regs := t.regs, ev := t.ev, rcd := t.rcd, meas := t.meas, plc := t.plc } ∧
      DevOnly [] s t) ∧
  (∀ (e : Nat) (k : Fin 1024) (s : State), Answers (.queueWrite e k) s fun t =>
      t = { s with dt := t.dt, el := t.el, regs := t.regs, free := t.free, ev := t.ev, rcd := t.rcd, meas := t.meas,
                   eng := t.eng, chg := t.chg, plc := t.plc } ∧
      DevOnly [] s t) ∧
  (∀ (e : Nat) (c : Fin 64) (uv : BitVec 24) (s : State), Answers (.wcmpAssert e c uv) s fun t =>
      t = { s with dt := t.dt, el := t.el, regs := t.regs, trans := t.trans, heldMode := t.heldMode,
                   heldFn := t.heldFn, nfault := t.nfault, ev := t.ev, audit := t.audit, rcd := t.rcd,
                   service := t.service, isl := t.isl, sel := t.sel, conv := t.conv, unit := t.unit, trips := t.trips,
                   discharging := t.discharging, meas := t.meas, eng := t.eng, dcl := t.dcl, chg := t.chg,
                   lvEnd := t.lvEnd, life := t.life, glove := t.glove } ∧
      DevOnly [32, 34, 41] s t) ∧
  (∀ (e : Nat) (r : Fin 2) (mv : BitVec 16) (err : BitVec 32) (s : State), Answers (.resFault e r mv err) s fun t =>
      t = { s with dt := t.dt, el := t.el, regs := t.regs, ev := t.ev, rcd := t.rcd, meas := t.meas } ∧
      DevOnly [] s t) ∧
  (∀ (e : Nat) (k : Fin 2) (s : State), Answers (.encFault e k) s fun t =>
      t = { s with dt := t.dt, el := t.el, regs := t.regs, ev := t.ev, rcd := t.rcd, meas := t.meas } ∧
      DevOnly [] s t) ∧
  (∀ (e : Nat) (k : Fin 2) (s : State), Answers (.encZPulse e k) s fun t =>
      t = { s with dt := t.dt, el := t.el, regs := t.regs, meas := t.meas } ∧
      DevOnly [] s t) ∧
  (∀ (e : Nat) (r : Fin 8) (cal : Nat) (pulses : List Nat) (slow : Option (Bool × BitVec 8 × BitVec 16)) (s : State), Answers (.sentMessage e r cal pulses slow) s fun t =>
      t = { s with dt := t.dt, el := t.el, regs := t.regs, ev := t.ev, rcd := t.rcd, meas := t.meas, eng := t.eng } ∧
      DevOnly [] s t) ∧
  (∀ (e : Nat) (r : Fin 8) (s : State), Answers (.sentLost e r) s fun t =>
      t = { s with dt := t.dt, el := t.el, regs := t.regs, ev := t.ev, rcd := t.rcd, meas := t.meas, eng := t.eng } ∧
      DevOnly [] s t) ∧
  (∀ (e : Nat) (g : Fin 8) (dur : Nat) (lag : Nat) (s : State), Answers (.graphActivation e g dur lag) s fun t =>
      t = { s with dt := t.dt, el := t.el, regs := t.regs, free := t.free, ev := t.ev, rcd := t.rcd, plant := t.plant,
                   meas := t.meas, eng := t.eng, chg := t.chg, plc := t.plc } ∧
      DevOnly [] s t) ∧
  (∀ (e : Nat) (g : Fin 8) (s : State), Answers (.qinWaitEnd e g) s fun t =>
      t = { s with dt := t.dt, el := t.el, regs := t.regs, free := t.free, ev := t.ev, rcd := t.rcd, meas := t.meas,
                   eng := t.eng, plc := t.plc } ∧
      DevOnly [] s t) ∧
  (∀ (e : Nat) (n : Fin 16) (word : Fin 13107) (fatal : Bool) (s : State), Answers (.engStore e n word fatal) s fun t =>
      t = { s with dt := t.dt, el := t.el, regs := t.regs, ev := t.ev, rcd := t.rcd, plc := t.plc } ∧
      DevOnly [] s t)

/-- For each row from the link to the boundary scan that is no host's request: for every state and operands it answers a
next state, in which every part of State but those named is as before, and every register of the DEV group (R688) but
those of the indices listed reads as before. -/
def Obligations.PowerRowsLeaveTheRest : Prop :=
  (∀ (e : Nat) (len : Nat) (high : Nat) (falls : Nat) (hs : Int) (hn : Nat) (ls : Int) (ln : Nat) (s : State), Answers (.pilotCycle e len high falls hs hn ls ln) s fun t =>
      t = { s with dt := t.dt, el := t.el, regs := t.regs, ev := t.ev, rcd := t.rcd, conv := t.conv, eng := t.eng,
                   pilot := t.pilot, dcl := t.dcl, chg := t.chg } ∧
      DevOnly [] s t) ∧
  (∀ (e : Nat) (high : Bool) (s : State), Answers (.pilotSteady e high) s fun t =>
      t = { s with dt := t.dt, el := t.el, regs := t.regs, pilot := t.pilot } ∧
      DevOnly [] s t) ∧
  (∀ (e : Nat) (s : State), Answers (.pilotNoCycle e) s fun t =>
      t = { s with dt := t.dt, el := t.el, regs := t.regs, pilot := t.pilot } ∧
      DevOnly [] s t) ∧
  (∀ (e : Nat) (sum : Int) (n : Nat) (s : State), Answers (.pilotWindow e sum n) s fun t =>
      t = { s with dt := t.dt, el := t.el, regs := t.regs, ev := t.ev, rcd := t.rcd, conv := t.conv, eng := t.eng,
                   pilot := t.pilot, dcl := t.dcl, chg := t.chg } ∧
      DevOnly [] s t) ∧
  (∀ (e : Nat) (s : State), Answers (.proofComplete e) s fun t =>
      t = { s with dt := t.dt, el := t.el, regs := t.regs, trans := t.trans, ev := t.ev, rcd := t.rcd,
                   preDue := t.preDue, plant := t.plant, isl := t.isl, sel := t.sel, conv := t.conv, unit := t.unit,
                   tb := t.tb, discharging := t.discharging, meas := t.meas, eng := t.eng, dcl := t.dcl, chg := t.chg,
                   act := t.act, plc := t.plc } ∧
      DevOnly [32] s t) ∧
  (∀ (e : Nat) (s : State), Answers (.unitFailed e) s fun t =>
      t = { s with dt := t.dt, el := t.el, regs := t.regs, trans := t.trans, heldMode := t.heldMode,
                   heldFn := t.heldFn, nfault := t.nfault, ev := t.ev, audit := t.audit, rcd := t.rcd,
                   service := t.service, isl := t.isl, sel := t.sel, conv := t.conv, unit := t.unit,
                   discharging := t.discharging, meas := t.meas, eng := t.eng, dcl := t.dcl, chg := t.chg,
                   lvEnd := t.lvEnd, plc := t.plc, glove := t.glove } ∧
      DevOnly [32, 34, 41] s t) ∧
  (∀ (e : Nat) (s : State), Answers (.replaced e) s fun t =>
      t = { s with dt := t.dt, el := t.el, regs := t.regs, ev := t.ev, rcd := t.rcd, sel := t.sel, conv := t.conv,
                   eng := t.eng, plc := t.plc } ∧
      DevOnly [] s t) ∧
  (∀ (e : Nat) (src : Fin 16) (s : State), Answers (.journalWrite e src) s fun t =>
      t = { s with dt := t.dt, el := t.el, regs := t.regs, ev := t.ev, rcd := t.rcd, glove := t.glove } ∧
      DevOnly [] s t) ∧
  (∀ (e : Nat) (s : State), Answers (.gloveWatchdog e) s fun t =>
      t = { s with dt := t.dt, el := t.el, regs := t.regs, trans := t.trans, heldMode := t.heldMode,
                   heldFn := t.heldFn, nfault := t.nfault, ev := t.ev, audit := t.audit, rcd := t.rcd,
                   service := t.service, isl := t.isl, sel := t.sel, conv := t.conv, unit := t.unit,
                   discharging := t.discharging, eng := t.eng, dcl := t.dcl, chg := t.chg, lvEnd := t.lvEnd,
                   glove := t.glove } ∧
      DevOnly [32, 34, 41] s t) ∧
  (∀ (e : Nat) (core : Fin 2) (fatal : Bool) (s : State), Answers (.gloveCache e core fatal) s fun t =>
      t = { s with dt := t.dt, el := t.el, regs := t.regs, ev := t.ev, rcd := t.rcd, glove := t.glove } ∧
      DevOnly [] s t) ∧
  (∀ (e : Nat) (s : State), Answers (.gloveHaltReached e) s fun t =>
      t = { s with dt := t.dt, el := t.el, regs := t.regs, trans := t.trans, heldMode := t.heldMode,
                   heldFn := t.heldFn, nfault := t.nfault, ev := t.ev, audit := t.audit, rcd := t.rcd,
                   service := t.service, isl := t.isl, sel := t.sel, conv := t.conv, unit := t.unit,
                   discharging := t.discharging, eng := t.eng, dcl := t.dcl, chg := t.chg, lvEnd := t.lvEnd,
                   glove := t.glove } ∧
      DevOnly [32, 34, 41] s t) ∧
  (∀ (e : Nat) (m : Fin 2) (s : State), Answers (.treqLost e m) s fun t =>
      t = { s with dt := t.dt, el := t.el, regs := t.regs, ev := t.ev, rcd := t.rcd, trx := t.trx } ∧
      DevOnly [] s t) ∧
  (∀ (e : Nat) (m : Fin 2) (s : State), Answers (.shortBrake e m) s fun t =>
      t = { s with dt := t.dt, el := t.el, regs := t.regs, ev := t.ev, rcd := t.rcd, trx := t.trx } ∧
      DevOnly [] s t) ∧
  (∀ (e : Nat) (m : Fin 2) (s : State), Answers (.startRetry e m) s fun t =>
      t = { s with dt := t.dt, el := t.el, regs := t.regs, ev := t.ev, rcd := t.rcd, sel := t.sel, conv := t.conv,
                   trx := t.trx } ∧
      DevOnly [] s t) ∧
  (∀ (e : Nat) (m : Fin 2) (s : State), Answers (.sensorReturn e m) s fun t =>
      t = { s with dt := t.dt, el := t.el, trx := t.trx }) ∧
  (∀ (e : Nat) (m : Fin 2) (s : State), Answers (.keWindow e m) s fun t =>
      t = { s with dt := t.dt, el := t.el, regs := t.regs, ev := t.ev, rcd := t.rcd, trx := t.trx } ∧
      DevOnly [] s t) ∧
  (∀ (e : Nat) (s : State), Answers (.mapValidateDone e) s fun t =>
      t = { s with dt := t.dt, el := t.el, regs := t.regs, ev := t.ev, rcd := t.rcd, trx := t.trx } ∧
      DevOnly [] s t) ∧
  (∀ (x : PinEdge) (s : State), Answers (.chopAssert x) s fun t =>
      t = { s with dt := t.dt, el := t.el, regs := t.regs, trans := t.trans, ev := t.ev, rcd := t.rcd, isl := t.isl,
                   conv := t.conv, unit := t.unit, discharging := t.discharging, eng := t.eng, dcl := t.dcl,
                   chg := t.chg } ∧
      DevOnly [32] s t) ∧
  (∀ (x : PinEdge) (s : State), Answers (.chopRelease x) s fun t =>
      t = { s with dt := t.dt, el := t.el, regs := t.regs, dcl := t.dcl } ∧
      DevOnly [] s t) ∧
  (∀ (e : Nat) (s : State), Answers (.regenPermit e) s fun t =>
      t = { s with dt := t.dt, el := t.el, regs := t.regs, ev := t.ev, rcd := t.rcd, conv := t.conv, eng := t.eng,
                   dcl := t.dcl, chg := t.chg } ∧
      DevOnly [] s t) ∧
  (∀ (x : PinEdge) (s : State), Answers (.ov1Assert x) s fun t =>
      t = { s with dt := t.dt, el := t.el, regs := t.regs, ev := t.ev, rcd := t.rcd, isl := t.isl, sel := t.sel,
                   unit := t.unit, dcl := t.dcl } ∧
      DevOnly [] s t) ∧
  (∀ (x : PinEdge) (s : State), Answers (.ov1Release x) s fun t =>
      t = { s with dt := t.dt, el := t.el, regs := t.regs, ev := t.ev, rcd := t.rcd, isl := t.isl, sel := t.sel,
                   unit := t.unit, dcl := t.dcl } ∧
      DevOnly [] s t) ∧
  (∀ (e : Nat) (s : State), Answers (.ov1HandBack e) s fun t =>
      t = { s with dt := t.dt, el := t.el, sel := t.sel, dcl := t.dcl }) ∧
  (∀ (x : PinEdge) (s : State), Answers (.ov2Assert x) s fun t =>
      t = { s with dt := t.dt, el := t.el, regs := t.regs, trans := t.trans, heldMode := t.heldMode,
                   heldFn := t.heldFn, nfault := t.nfault, ev := t.ev, audit := t.audit, rcd := t.rcd,
                   service := t.service, isl := t.isl, sel := t.sel, conv := t.conv, unit := t.unit,
                   discharging := t.discharging, eng := t.eng, dcl := t.dcl, chg := t.chg, lvEnd := t.lvEnd,
                   glove := t.glove } ∧
      DevOnly [32, 34, 41] s t) ∧
  (∀ (e : Nat) (vl : BitVec 13) (s : State), Answers (.dclUv e vl) s fun t =>
      t = { s with dt := t.dt, el := t.el, regs := t.regs, ev := t.ev, rcd := t.rcd, eng := t.eng, dcl := t.dcl,
                   chg := t.chg } ∧
      DevOnly [] s t) ∧
  (∀ (e : Nat) (vl : BitVec 13) (s : State), Answers (.uvClear e vl) s fun t =>
      t = { s with dt := t.dt, el := t.el, regs := t.regs, eng := t.eng, dcl := t.dcl, chg := t.chg } ∧
      DevOnly [] s t) ∧
  (∀ (e : Nat) (mv : BitVec 13) (vl : BitVec 13) (s : State), Answers (.dclSense e mv vl) s fun t =>
      t = { s with dt := t.dt, el := t.el, regs := t.regs, ev := t.ev, rcd := t.rcd, eng := t.eng, dcl := t.dcl,
                   chg := t.chg } ∧
      DevOnly [] s t) ∧
  (∀ (e : Nat) (s : State), Answers (.chopTestPulse e) s fun t =>
      t = { s with dt := t.dt, el := t.el, unit := t.unit, dcl := t.dcl }) ∧
  (∀ (e : Nat) (s : State), Answers (.handoverDeadline e) s fun t =>
      t = { s with dt := t.dt, el := t.el, regs := t.regs, ev := t.ev, rcd := t.rcd, conv := t.conv, eng := t.eng,
                   dcl := t.dcl, chg := t.chg } ∧
      DevOnly [] s t) ∧
  (∀ (e : Nat) (s : State), Answers (.suspendExpiry e) s fun t =>
      t = { s with dt := t.dt, el := t.el, regs := t.regs, conv := t.conv, eng := t.eng, dcl := t.dcl, chg := t.chg } ∧
      DevOnly [] s t) ∧
  (∀ (e : Nat) (s : State), Answers (.chgTbat e) s fun t =>
      t = { s with dt := t.dt, el := t.el, regs := t.regs, ev := t.ev, rcd := t.rcd, chg := t.chg } ∧
      DevOnly [] s t) ∧
  (∀ (e : Nat) (uv : Nat) (s : State), Answers (.batteryNtcEval e uv) s fun t =>
      t = { s with dt := t.dt, el := t.el, regs := t.regs, ev := t.ev, rcd := t.rcd, chg := t.chg } ∧
      DevOnly [] s t) ∧
  (∀ (e : Nat) (s : State), Answers (.chgTimeout e) s fun t =>
      t = { s with dt := t.dt, el := t.el, regs := t.regs, ev := t.ev, rcd := t.rcd, conv := t.conv, eng := t.eng,
                   dcl := t.dcl, chg := t.chg } ∧
      DevOnly [] s t) ∧
  (∀ (e : Nat) (a : Fin 3) (code : Fin 8) (s : State), Answers (.hallChange e a code) s fun t =>
      t = { s with dt := t.dt, el := t.el, regs := t.regs, ev := t.ev, rcd := t.rcd, conv := t.conv, eng := t.eng,
                   act := t.act } ∧
      DevOnly [] s t) ∧
  (∀ (e : Nat) (a : Fin 3) (s : State), Answers (.inPosition e a) s fun t =>
      t = { s with dt := t.dt, el := t.el, regs := t.regs, conv := t.conv, eng := t.eng, act := t.act } ∧
      DevOnly [] s t) ∧
  (∀ (e : Nat) (a : Fin 3) (s : State), Answers (.actTimeout e a) s fun t =>
      t = { s with dt := t.dt, el := t.el, regs := t.regs, ev := t.ev, rcd := t.rcd, conv := t.conv, eng := t.eng,
                   act := t.act } ∧
      DevOnly [] s t) ∧
  (∀ (e : Nat) (a : Fin 3) (s : State), Answers (.actBrakeEnd e a) s fun t =>
      t = { s with dt := t.dt, el := t.el, regs := t.regs, ev := t.ev, rcd := t.rcd, isl := t.isl, conv := t.conv,
                   eng := t.eng, act := t.act, lvEnd := t.lvEnd } ∧
      DevOnly [] s t) ∧
  (∀ (e : Nat) (a : Fin 3) (s : State), Answers (.alignEnd e a) s fun t =>
      t = { s with dt := t.dt, el := t.el, regs := t.regs, conv := t.conv, eng := t.eng, act := t.act } ∧
      DevOnly [] s t) ∧
  (∀ (e : Nat) (a : Fin 3) (s : State), Answers (.actRampTimeout e a) s fun t =>
      t = { s with dt := t.dt, el := t.el, regs := t.regs, conv := t.conv, eng := t.eng, act := t.act } ∧
      DevOnly [] s t) ∧
  (∀ (e : Nat) (a : Fin 3) (s : State), Answers (.actStartRetry e a) s fun t =>
      t = { s with dt := t.dt, el := t.el, regs := t.regs, ev := t.ev, rcd := t.rcd, conv := t.conv, eng := t.eng,
                   act := t.act } ∧
      DevOnly [] s t) ∧
  (∀ (e : Nat) (s : State), Answers (.lifeMirror e) s fun t =>
      t = { s with dt := t.dt, el := t.el, regs := t.regs, life := t.life } ∧
      DevOnly [] s t) ∧
  (∀ (e : Nat) (ok : Bool) (s : State), Answers (.mirrorComplete e ok) s fun t =>
      t = { s with dt := t.dt, el := t.el, regs := t.regs, trans := t.trans, ev := t.ev, rcd := t.rcd, life := t.life } ∧
      DevOnly [] s t) ∧
  (∀ (e : Nat) (n : Fin 2) (whole : Bool) (s : State), Answers (.fetchFrame e n whole) s fun t =>
      t = { s with dt := t.dt, el := t.el, ports := t.ports }) ∧
  (∀ (e : Nat) (n : Fin 255) (s : State), Answers (.sessionTimeout e n) s fun t =>
      t = { s with dt := t.dt, el := t.el, regs := t.regs, trans := t.trans, ev := t.ev, audit := t.audit,
                   rcd := t.rcd, sessions := t.sessions, service := t.service, glove := t.glove } ∧
      DevOnly [32] s t) ∧
  (∀ (e : Nat) (origin : Fin 6) (node : Fin 256) (s : State), Answers (.lockoutEnd e origin node) s fun t =>
      t = { s with dt := t.dt, el := t.el, lockouts := t.lockouts }) ∧
  (∀ (e : Nat) (n : Nat) (bad : Bool) (s : State), Answers (.auditDrain e n bad) s fun t =>
      t = { s with dt := t.dt, el := t.el, regs := t.regs, ev := t.ev, audit := t.audit, rcd := t.rcd } ∧
      DevOnly [] s t) ∧
  (∀ (e : Nat) (n : Nat) (s : State), Answers (.eventLogDrain e n) s fun t =>
      t = { s with dt := t.dt, el := t.el, regs := t.regs, ev := t.ev, rcd := t.rcd } ∧
      DevOnly [] s t) ∧
  (∀ (e : Nat) (c : Fin 3) (s : State), Answers (.canIntegrated e c) s fun t =>
      t = { s with dt := t.dt, el := t.el, regs := t.regs, can := t.can } ∧
      DevOnly [] s t) ∧
  (∀ (e : Nat) (c : Fin 3) (s : State), Answers (.canTxStart e c) s fun t =>
      t = { s with dt := t.dt, el := t.el, can := t.can }) ∧
  (∀ (e : Nat) (c : Fin 3) (res : Fin 3) (lec : Fin 7) (exc : Bool) (s : State), Answers (.canTxAttemptEnd e c res lec exc) s fun t =>
      t = { s with dt := t.dt, el := t.el, regs := t.regs, ev := t.ev, rcd := t.rcd, can := t.can } ∧
      DevOnly [] s t) ∧
  (∀ (e : Nat) (c : Fin 3) (s : State), Answers (.canRecovered e c) s fun t =>
      t = { s with dt := t.dt, el := t.el, regs := t.regs, ev := t.ev, rcd := t.rcd } ∧
      DevOnly [] s t) ∧
  (∀ (e : Nat) (c : Fin 3) (node : Fin 256) (s : State), Answers (.tunnelTimeout e c node) s fun t =>
      t = { s with dt := t.dt, el := t.el, regs := t.regs, ev := t.ev, rcd := t.rcd, can := t.can } ∧
      DevOnly [] s t) ∧
  (∀ (e : Nat) (s : State), Answers (.heartbeatSend e) s fun t =>
      t = { s with dt := t.dt, el := t.el, can := t.can }) ∧
  (∀ (e : Nat) (p : Fin 64) (s : State), Answers (.partnerLost e p) s fun t =>
      t = { s with dt := t.dt, el := t.el, regs := t.regs, ev := t.ev, rcd := t.rcd, can := t.can } ∧
      DevOnly [] s t) ∧
  (∀ (e : Nat) (d : Fin 2) (s : State), Answers (.stoDevice e d) s fun t =>
      t = { s with dt := t.dt, el := t.el, regs := t.regs, ev := t.ev, rcd := t.rcd } ∧
      DevOnly [] s t) ∧
  (∀ (e : Nat) (d : Fin 2) (a : BitVec 4) (b : BitVec 4) (eol : BitVec 2) (s : State), Answers (.stoWear e d a b eol) s fun t =>
      t = { s with dt := t.dt, el := t.el, regs := t.regs, ev := t.ev, rcd := t.rcd, sto := t.sto } ∧
      DevOnly [] s t) ∧
  (∀ (e : Nat) (d : Fin 2) (retries : Fin 4) (fails : Bool) (s : State), Answers (.emmcTuning e d retries fails) s fun t =>
      t = { s with dt := t.dt, el := t.el, regs := t.regs, ev := t.ev, rcd := t.rcd } ∧
      DevOnly [] s t) ∧
  (∀ (e : Nat) (s : State), Answers (.recDone e) s fun t =>
      t = { s with dt := t.dt, el := t.el, regs := t.regs, ev := t.ev, rcd := t.rcd } ∧
      DevOnly [] s t) ∧
  (∀ (e : Nat) (bad : Bool) (s : State), Answers (.updChecked e bad) s fun t =>
      t = { s with dt := t.dt, el := t.el, regs := t.regs, ev := t.ev, audit := t.audit, rcd := t.rcd } ∧
      DevOnly [] s t) ∧
  (∀ (e : Nat) (why : Fin 3) (s : State), Answers (.updReadyTimeout e why) s fun t =>
      t = { s with dt := t.dt, el := t.el, regs := t.regs, ev := t.ev, rcd := t.rcd } ∧
      DevOnly [] s t) ∧
  (∀ (e : Nat) (s : State), Answers (.updSwitched e) s fun t =>
      t = { s with dt := t.dt, el := t.el, regs := t.regs, ev := t.ev, audit := t.audit, rcd := t.rcd, sto := t.sto,
                   upd := t.upd } ∧
      DevOnly [] s t) ∧
  (∀ (e : Nat) (s : State), Answers (.updWindowExpiry e) s fun t =>
      t = { s with dt := t.dt, el := t.el, regs := t.regs, ev := t.ev, audit := t.audit, rcd := t.rcd, sto := t.sto } ∧
      DevOnly [] s t) ∧
  (∀ (e : Nat) (cause : Fin 3) (old : Bool) (s : State), Answers (.updFallback e cause old) s fun t =>
      t = { s with dt := t.dt, el := t.el, regs := t.regs, ev := t.ev, audit := t.audit, rcd := t.rcd, sto := t.sto } ∧
      DevOnly [] s t) ∧
  (∀ (e : Nat) (ok : Bool) (s : State), Answers (.updCommitted e ok) s fun t =>
      t = { s with dt := t.dt, el := t.el, regs := t.regs, boot := t.boot, ev := t.ev, audit := t.audit, rcd := t.rcd,
                   sto := t.sto, upd := t.upd } ∧
      DevOnly [] s t) ∧
  (∀ (e : Nat) (l : Arrival) (s : State), Answers (.pairMessageReceived e l) s fun t =>
      t = { s with dt := t.dt, el := t.el, regs := t.regs, ev := t.ev, rcd := t.rcd, meas := t.meas, glove := t.glove,
                   pair := t.pair } ∧
      DevOnly [] s t) ∧
  (∀ (e : Nat) (s : State), Answers (.pairLinkDown e) s fun t =>
      t = { s with dt := t.dt, el := t.el, regs := t.regs, ev := t.ev, rcd := t.rcd, pair := t.pair } ∧
      DevOnly [] s t) ∧
  (∀ (e : Nat) (pin : Fin 3) (level : Bool) (s : State), Answers (.filteredLevelChange e pin level) s fun t =>
      t = { s with dt := t.dt, el := t.el, regs := t.regs, boot := t.boot, ev := t.ev, rcd := t.rcd, glove := t.glove,
                   stoHigh := t.stoHigh, stoTold := t.stoTold } ∧
      DevOnly [38] s t) ∧
  (∀ (e : Nat) (k : Fin 2) (up : Bool) (pace : EdgePace) (s : State), Answers (.encoderEdge e k up pace) s fun t =>
      t = { s with dt := t.dt, el := t.el, regs := t.regs, meas := t.meas } ∧
      DevOnly [] s t) ∧
  (∀ (e : Nat) (c : Fin 3) (lec : Fin 7) (by8 : Bool) (s : State), Answers (.canReceiveError e c lec by8) s fun t =>
      t = { s with dt := t.dt, el := t.el, regs := t.regs, ev := t.ev, rcd := t.rcd } ∧
      DevOnly [] s t) ∧
  (∀ (e : Nat) (a : Fin 3) (s : State), Answers (.hallCodeError e a) s fun t =>
      t = { s with dt := t.dt, el := t.el, regs := t.regs, ev := t.ev, rcd := t.rcd, conv := t.conv, eng := t.eng,
                   act := t.act } ∧
      DevOnly [] s t) ∧
  (∀ (e : Nat) (s : State), Answers (.plantStored e) s fun t =>
      t = { s with dt := t.dt, el := t.el, regs := t.regs, plc := t.plc } ∧
      DevOnly [] s t) ∧
  (∀ (e : Nat) (on : Bool) (s : State), Answers (.boundaryScanExtest e on) s fun t =>
      t = { s with dt := t.dt, el := t.el, regs := t.regs, extest := t.extest } ∧
      DevOnly [] s t)

/-! ### The block as a whole -/

/-- A step of a state whose queue begins with a command is that command carried out on the state with the queue's rest:
the block takes its commands first in, first out (the queue is the model's own, assumption 5). On an empty queue the
block idles (the model's choice, assumption 3). The opcode table gives no row any bits, so no word spells a command and
none is put into the queue (assumption 5). -/
def Obligations.StepTakesTheFront : Prop :=
  (∀ (c : Instr) (rest : List Instr) (s : State), step { s with pending := c :: rest } = exec c { s with pending := rest }) ∧
  (∀ s : State, s.pending = [] → step s = .next s) ∧
  (∀ nbits w : Nat, decodeTableWord nbits w = none) ∧
  (∀ (s : State) (nbits w : Nat), s.withFetchWord nbits w = s)

/-- The state after reset meets the invariant that every step keeps: every sparse store is canonical, the two log
buffers are within their sizes (R580, R633) and no more than four sessions exist (R563). -/
def Obligations.ResetMeetsTheInvariant : Prop :=
  State.reset.Inv

/-- For every command, operands and state: the command answers a next state (no command of the block stops), it leaves
the waiting commands as they are, elapsed time does not go back, and the model's counter of free values does not go back
(assumption 2). -/
def Obligations.CommandsCompleteAndTimeGoesOn : Prop :=
  ∀ (c : Instr) (s : State), Answers c s fun t => t.pending = s.pending ∧ s.el ≤ t.el ∧ s.free ≤ t.free

/-- From every state that meets the invariant, whatever command stands in front, a step that answers a next state
answers one that meets it: the register file and the stores of islands, selectors, converters, units and timebases stay
canonical, the event and the audit buffer stay within their 16,384 entries (R580, R633), and at most four sessions
exist, in the order of their numbers (R563). -/
def Obligations.EveryStepKeepsTheInvariant : Prop :=
  ∀ s s' : State, s.Inv → step s = .next s' → s'.Inv
end

