-- ==== Sys2Proof/Laws/AMap.lean ====
section
/-! SUPPORT. Laws of the sparse map: read after write, and that every write keeps the canonical form. -/

namespace Sys2Proof.Machine

variable {α : Type}

theorem AMap.get?_ins_same (m : AMap α) (i : Nat) (x : α) : AMap.get? (AMap.ins m i x) i = some x := by
  induction m with
  | nil => simp [AMap.ins, AMap.get?]
  | cons p t ih =>
    obtain ⟨k, v⟩ := p
    unfold AMap.ins
    split
    · simp [AMap.get?]
    · split
      · simp [AMap.get?]
      · rename_i h; simp [AMap.get?, h, ih]

theorem AMap.get?_ins_other (m : AMap α) {i j : Nat} (x : α) (h : j ≠ i) :
    AMap.get? (AMap.ins m i x) j = AMap.get? m j := by
  have h' : ¬ i = j := fun e => h e.symm
  induction m with
  | nil => simp [AMap.ins, AMap.get?, h']
  | cons p t ih =>
    obtain ⟨k, v⟩ := p
    unfold AMap.ins
    split
    · simp [AMap.get?, h']
    · split
      · rename_i e; subst e; simp [AMap.get?, h']
      · simp [AMap.get?, ih]

theorem AMap.get?_del_same (m : AMap α) (i : Nat) : AMap.get? (AMap.del m i) i = none := by
  induction m with
  | nil => rfl
  | cons p t ih =>
    obtain ⟨k, v⟩ := p
    unfold AMap.del
    split
    · exact ih
    · rename_i h; simp [AMap.get?, h, ih]

theorem AMap.get?_del_other (m : AMap α) {i j : Nat} (h : j ≠ i) :
    AMap.get? (AMap.del m i) j = AMap.get? m j := by
  induction m with
  | nil => rfl
  | cons p t ih =>
    obtain ⟨k, v⟩ := p
    unfold AMap.del
    split
    · rename_i e; subst e
      have h' : ¬ k = j := fun e => h e.symm
      simp [AMap.get?, h', ih]
    · simp [AMap.get?, ih]

variable [DecidableEq α]

/-- A key reads the value last written to it. -/
@[simp] theorem AMap.getD_put_same (m : AMap α) (i : Nat) (d x : α) : AMap.getD (AMap.put m i d x) i d = x := by
  unfold AMap.put AMap.getD
  split
  · rename_i h; simp [AMap.get?_del_same, h]
  · simp [AMap.get?_ins_same]

/-- A write leaves every other key as it was. -/
theorem AMap.getD_put_other (m : AMap α) {i j : Nat} (d e x : α) (h : j ≠ i) :
    AMap.getD (AMap.put m i d x) j e = AMap.getD m j e := by
  unfold AMap.put AMap.getD
  split
  · rw [AMap.get?_del_other _ h]
  · rw [AMap.get?_ins_other _ _ h]

omit [DecidableEq α] in
theorem AMap.rising_mono (m : AMap α) {a b : Nat} (h : a ≤ b) (hr : AMap.rising b m = true) :
    AMap.rising a m = true := by
  cases m with
  | nil => rfl
  | cons p t =>
    simp only [AMap.rising, Bool.and_eq_true, decide_eq_true_eq] at hr ⊢
    exact ⟨by omega, hr.2⟩

omit [DecidableEq α] in
theorem AMap.rising_del (m : AMap α) (i a : Nat) (hr : AMap.rising a m = true) :
    AMap.rising a (AMap.del m i) = true := by
  induction m generalizing a with
  | nil => rfl
  | cons p t ih =>
    obtain ⟨k, v⟩ := p
    simp only [AMap.rising, Bool.and_eq_true, decide_eq_true_eq] at hr
    unfold AMap.del
    split
    · exact ih a (AMap.rising_mono _ (by omega) hr.2)
    · simp only [AMap.rising, Bool.and_eq_true, decide_eq_true_eq]
      exact ⟨hr.1, ih _ hr.2⟩

omit [DecidableEq α] in
theorem AMap.rising_ins (m : AMap α) (i a : Nat) (x : α) (ha : a ≤ i) (hr : AMap.rising a m = true) :
    AMap.rising a (AMap.ins m i x) = true := by
  induction m generalizing a with
  | nil => simp [AMap.ins, AMap.rising, ha]
  | cons p t ih =>
    obtain ⟨k, v⟩ := p
    simp only [AMap.rising, Bool.and_eq_true, decide_eq_true_eq] at hr
    unfold AMap.ins
    split
    · simp only [AMap.rising, Bool.and_eq_true, decide_eq_true_eq]
      exact ⟨ha, by omega, hr.2⟩
    · split
      · rename_i e; subst e
        simp only [AMap.rising, Bool.and_eq_true, decide_eq_true_eq]
        exact ⟨ha, hr.2⟩
      · simp only [AMap.rising, Bool.and_eq_true, decide_eq_true_eq]
        exact ⟨hr.1, ih _ (by omega) hr.2⟩

omit [DecidableEq α] in
theorem AMap.mem_del {m : AMap α} {i : Nat} {p : Nat × α} (h : p ∈ AMap.del m i) : p ∈ m := by
  induction m with
  | nil => exact h
  | cons q t ih =>
    obtain ⟨k, v⟩ := q
    unfold AMap.del at h
    split at h
    · exact List.mem_cons_of_mem _ (ih h)
    · rcases List.mem_cons.mp h with e | e
      · subst e; exact List.mem_cons_self
      · exact List.mem_cons_of_mem _ (ih e)

omit [DecidableEq α] in
theorem AMap.mem_ins {m : AMap α} {i : Nat} {x : α} {p : Nat × α} (h : p ∈ AMap.ins m i x) :
    p = (i, x) ∨ p ∈ m := by
  induction m with
  | nil => simp [AMap.ins] at h; exact Or.inl h
  | cons q t ih =>
    obtain ⟨k, v⟩ := q
    unfold AMap.ins at h
    split at h
    · rcases List.mem_cons.mp h with e | e
      · exact Or.inl e
      · exact Or.inr e
    · split at h
      · rcases List.mem_cons.mp h with e | e
        · exact Or.inl e
        · exact Or.inr (List.mem_cons_of_mem _ e)
      · rcases List.mem_cons.mp h with e | e
        · subst e; exact Or.inr List.mem_cons_self
        · rcases ih e with e' | e'
          · exact Or.inl e'
          · exact Or.inr (List.mem_cons_of_mem _ e')

/-- Every write keeps the canonical form. -/
theorem AMap.wf_put (d : Nat → α) (m : AMap α) (i : Nat) (x : α) (h : AMap.wf d m = true) :
    AMap.wf d (AMap.put m i (d i) x) = true := by
  simp only [AMap.wf, Bool.and_eq_true, List.all_eq_true] at h ⊢
  unfold AMap.put
  split
  · exact ⟨AMap.rising_del _ _ _ h.1, fun p hp => h.2 p (AMap.mem_del hp)⟩
  · rename_i hx
    refine ⟨AMap.rising_ins _ _ _ _ (Nat.zero_le _) h.1, fun p hp => ?_⟩
    rcases AMap.mem_ins hp with e | e
    · subst e; simpa using hx
    · exact h.2 p e

omit [DecidableEq α] in
theorem AMap.length_del_le (m : AMap α) (i : Nat) : (AMap.del m i).length ≤ m.length := by
  induction m with
  | nil => exact Nat.le_refl _
  | cons p t ih =>
    unfold AMap.del
    split
    · exact Nat.le_succ_of_le ih
    · exact Nat.succ_le_succ ih

omit [DecidableEq α] in
theorem AMap.length_ins_le (m : AMap α) (i : Nat) (x : α) : (AMap.ins m i x).length ≤ m.length + 1 := by
  induction m with
  | nil => exact Nat.le_refl _
  | cons p t ih =>
    unfold AMap.ins
    split
    · exact Nat.le_refl _
    · split
      · exact Nat.le_succ _
      · exact Nat.succ_le_succ ih

omit [DecidableEq α] in
/-- A key listed in a rising map is at or above the map's bound. -/
theorem AMap.le_of_get? (m : AMap α) (i a : Nat) (y : α) (hr : AMap.rising a m = true) (h : AMap.get? m i = some y) :
    a ≤ i := by
  induction m generalizing a with
  | nil => simp [AMap.get?] at h
  | cons p t ih =>
    obtain ⟨k, v⟩ := p
    simp only [AMap.rising, Bool.and_eq_true, decide_eq_true_eq] at hr
    unfold AMap.get? at h
    split at h
    · omega
    · have := ih _ hr.2 h; omega

omit [DecidableEq α] in
/-- Replacing a listed key's value keeps the length of a rising map. -/
theorem AMap.length_ins_of_get? (m : AMap α) (i a : Nat) (x y : α) (hr : AMap.rising a m = true)
    (h : AMap.get? m i = some y) : (AMap.ins m i x).length = m.length := by
  induction m generalizing a with
  | nil => simp [AMap.get?] at h
  | cons p t ih =>
    obtain ⟨k, v⟩ := p
    have hr' := hr
    simp only [AMap.rising, Bool.and_eq_true, decide_eq_true_eq] at hr
    unfold AMap.get? at h
    unfold AMap.ins
    split at h
    · rename_i e; subst e; simp
    · rename_i e
      have := AMap.le_of_get? _ _ _ _ hr.2 h
      rw [if_neg (by omega), if_neg e, List.length_cons, List.length_cons, ih _ hr.2 h]

omit [DecidableEq α] in
theorem AMap.rising_filter (f : Nat × α → Bool) (m : AMap α) (a : Nat) (hr : AMap.rising a m = true) :
    AMap.rising a (m.filter f) = true := by
  induction m generalizing a with
  | nil => rfl
  | cons p t ih =>
    obtain ⟨k, v⟩ := p
    simp only [AMap.rising, Bool.and_eq_true, decide_eq_true_eq] at hr
    simp only [List.filter_cons]
    split
    · simp only [AMap.rising, Bool.and_eq_true, decide_eq_true_eq]
      exact ⟨hr.1, ih _ hr.2⟩
    · exact AMap.rising_mono _ (by omega) (ih _ hr.2)

theorem AMap.wf_filter (d : Nat → α) (f : Nat × α → Bool) (m : AMap α) (h : AMap.wf d m = true) :
    AMap.wf d (m.filter f) = true := by
  simp only [AMap.wf, Bool.and_eq_true, List.all_eq_true] at h ⊢
  exact ⟨AMap.rising_filter _ _ _ h.1, fun p hp => h.2 p (List.mem_filter.mp hp).1⟩

omit [DecidableEq α] in
theorem AMap.rising_map (f : Nat × α → Nat × α) (hf : ∀ p, (f p).1 = p.1) (m : AMap α) (a : Nat)
    (hr : AMap.rising a m = true) : AMap.rising a (m.map f) = true := by
  induction m generalizing a with
  | nil => rfl
  | cons p t ih =>
    obtain ⟨k, v⟩ := p
    have h1 := hf (k, v)
    simp only [List.map_cons]
    generalize f (k, v) = q at h1
    obtain ⟨k', v'⟩ := q
    subst h1
    simp only [AMap.rising, Bool.and_eq_true, decide_eq_true_eq] at hr ⊢
    exact ⟨hr.1, ih _ hr.2⟩

/-- A map in rising order, trimmed of its default entries, is in canonical form. -/
theorem AMap.wf_trim (d : α) (m : AMap α) (h : AMap.rising 0 m = true) :
    AMap.wf (fun _ => d) (m.filter fun p => p.2 != d) = true := by
  simp only [AMap.wf, Bool.and_eq_true, List.all_eq_true]
  exact ⟨AMap.rising_filter _ _ _ h, fun p hp => by simpa using (List.mem_filter.mp hp).2⟩

end Sys2Proof.Machine
end

