-- ==== Sys2Proof/Laws/State.lean ====
section
/-! SUPPORT. The fields of the state under each primitive update: what an update does not name it leaves. -/

namespace Sys2Proof.Machine

@[simp] theorem State.tick_pending (e : Nat) (s : State) : (s.tick e).pending = s.pending := rfl
@[simp] theorem State.tick_regs (e : Nat) (s : State) : (s.tick e).regs = s.regs := rfl
@[simp] theorem State.tick_free (e : Nat) (s : State) : (s.tick e).free = s.free := rfl
@[simp] theorem State.tick_boot (e : Nat) (s : State) : (s.tick e).boot = s.boot := rfl
@[simp] theorem State.tick_trans (e : Nat) (s : State) : (s.tick e).trans = s.trans := rfl
@[simp] theorem State.tick_heldMode (e : Nat) (s : State) : (s.tick e).heldMode = s.heldMode := rfl
@[simp] theorem State.tick_heldFn (e : Nat) (s : State) : (s.tick e).heldFn = s.heldFn := rfl
@[simp] theorem State.tick_nfault (e : Nat) (s : State) : (s.tick e).nfault = s.nfault := rfl
@[simp] theorem State.tick_ev (e : Nat) (s : State) : (s.tick e).ev = s.ev := rfl
@[simp] theorem State.tick_audit (e : Nat) (s : State) : (s.tick e).audit = s.audit := rfl
@[simp] theorem State.tick_rcd (e : Nat) (s : State) : (s.tick e).rcd = s.rcd := rfl
@[simp] theorem State.tick_ports (e : Nat) (s : State) : (s.tick e).ports = s.ports := rfl
@[simp] theorem State.tick_dtHi (e : Nat) (s : State) : (s.tick e).dtHi = s.dtHi := rfl
@[simp] theorem State.tick_lastReq (e : Nat) (s : State) : (s.tick e).lastReq = s.lastReq := rfl
@[simp] theorem State.tick_sessions (e : Nat) (s : State) : (s.tick e).sessions = s.sessions := rfl
@[simp] theorem State.tick_lockouts (e : Nat) (s : State) : (s.tick e).lockouts = s.lockouts := rfl
@[simp] theorem State.tick_service (e : Nat) (s : State) : (s.tick e).service = s.service := rfl
@[simp] theorem State.tick_preDue (e : Nat) (s : State) : (s.tick e).preDue = s.preDue := rfl
@[simp] theorem State.tick_key (e : Nat) (s : State) : (s.tick e).key = s.key := rfl
@[simp] theorem State.tick_plant (e : Nat) (s : State) : (s.tick e).plant = s.plant := rfl
@[simp] theorem State.tick_isl (e : Nat) (s : State) : (s.tick e).isl = s.isl := rfl
@[simp] theorem State.tick_sel (e : Nat) (s : State) : (s.tick e).sel = s.sel := rfl
@[simp] theorem State.tick_conv (e : Nat) (s : State) : (s.tick e).conv = s.conv := rfl
@[simp] theorem State.tick_unit (e : Nat) (s : State) : (s.tick e).unit = s.unit := rfl
@[simp] theorem State.tick_tb (e : Nat) (s : State) : (s.tick e).tb = s.tb := rfl
@[simp] theorem State.tick_trips (e : Nat) (s : State) : (s.tick e).trips = s.trips := rfl
@[simp] theorem State.tick_discharging (e : Nat) (s : State) : (s.tick e).discharging = s.discharging := rfl
@[simp] theorem State.tick_meas (e : Nat) (s : State) : (s.tick e).meas = s.meas := rfl
@[simp] theorem State.tick_eng (e : Nat) (s : State) : (s.tick e).eng = s.eng := rfl
@[simp] theorem State.tick_trx (e : Nat) (s : State) : (s.tick e).trx = s.trx := rfl
@[simp] theorem State.tick_pilot (e : Nat) (s : State) : (s.tick e).pilot = s.pilot := rfl
@[simp] theorem State.tick_dcl (e : Nat) (s : State) : (s.tick e).dcl = s.dcl := rfl
@[simp] theorem State.tick_chg (e : Nat) (s : State) : (s.tick e).chg = s.chg := rfl
@[simp] theorem State.tick_pairUse (e : Nat) (s : State) : (s.tick e).pairUse = s.pairUse := rfl
@[simp] theorem State.tick_act (e : Nat) (s : State) : (s.tick e).act = s.act := rfl
@[simp] theorem State.tick_lvEnd (e : Nat) (s : State) : (s.tick e).lvEnd = s.lvEnd := rfl
@[simp] theorem State.tick_life (e : Nat) (s : State) : (s.tick e).life = s.life := rfl
@[simp] theorem State.tick_plc (e : Nat) (s : State) : (s.tick e).plc = s.plc := rfl
@[simp] theorem State.tick_sto (e : Nat) (s : State) : (s.tick e).sto = s.sto := rfl
@[simp] theorem State.tick_upd (e : Nat) (s : State) : (s.tick e).upd = s.upd := rfl
@[simp] theorem State.tick_glove (e : Nat) (s : State) : (s.tick e).glove = s.glove := rfl
@[simp] theorem State.tick_can (e : Nat) (s : State) : (s.tick e).can = s.can := rfl
@[simp] theorem State.tick_pair (e : Nat) (s : State) : (s.tick e).pair = s.pair := rfl
@[simp] theorem State.tick_stoHigh (e : Nat) (s : State) : (s.tick e).stoHigh = s.stoHigh := rfl
@[simp] theorem State.tick_stoTold (e : Nat) (s : State) : (s.tick e).stoTold = s.stoTold := rfl
@[simp] theorem State.tick_extest (e : Nat) (s : State) : (s.tick e).extest = s.extest := rfl
@[simp] theorem State.setReg_pending (i : Nat) (v : Reg) (s : State) : (s.setReg i v).pending = s.pending := rfl
@[simp] theorem State.setReg_dt (i : Nat) (v : Reg) (s : State) : (s.setReg i v).dt = s.dt := rfl
@[simp] theorem State.setReg_el (i : Nat) (v : Reg) (s : State) : (s.setReg i v).el = s.el := rfl
@[simp] theorem State.setReg_free (i : Nat) (v : Reg) (s : State) : (s.setReg i v).free = s.free := rfl
@[simp] theorem State.setReg_boot (i : Nat) (v : Reg) (s : State) : (s.setReg i v).boot = s.boot := rfl
@[simp] theorem State.setReg_trans (i : Nat) (v : Reg) (s : State) : (s.setReg i v).trans = s.trans := rfl
@[simp] theorem State.setReg_heldMode (i : Nat) (v : Reg) (s : State) : (s.setReg i v).heldMode = s.heldMode := rfl
@[simp] theorem State.setReg_heldFn (i : Nat) (v : Reg) (s : State) : (s.setReg i v).heldFn = s.heldFn := rfl
@[simp] theorem State.setReg_nfault (i : Nat) (v : Reg) (s : State) : (s.setReg i v).nfault = s.nfault := rfl
@[simp] theorem State.setReg_ev (i : Nat) (v : Reg) (s : State) : (s.setReg i v).ev = s.ev := rfl
@[simp] theorem State.setReg_audit (i : Nat) (v : Reg) (s : State) : (s.setReg i v).audit = s.audit := rfl
@[simp] theorem State.setReg_rcd (i : Nat) (v : Reg) (s : State) : (s.setReg i v).rcd = s.rcd := rfl
@[simp] theorem State.setReg_ports (i : Nat) (v : Reg) (s : State) : (s.setReg i v).ports = s.ports := rfl
@[simp] theorem State.setReg_dtHi (i : Nat) (v : Reg) (s : State) : (s.setReg i v).dtHi = s.dtHi := rfl
@[simp] theorem State.setReg_lastReq (i : Nat) (v : Reg) (s : State) : (s.setReg i v).lastReq = s.lastReq := rfl
@[simp] theorem State.setReg_sessions (i : Nat) (v : Reg) (s : State) : (s.setReg i v).sessions = s.sessions := rfl
@[simp] theorem State.setReg_lockouts (i : Nat) (v : Reg) (s : State) : (s.setReg i v).lockouts = s.lockouts := rfl
@[simp] theorem State.setReg_service (i : Nat) (v : Reg) (s : State) : (s.setReg i v).service = s.service := rfl
@[simp] theorem State.setReg_preDue (i : Nat) (v : Reg) (s : State) : (s.setReg i v).preDue = s.preDue := rfl
@[simp] theorem State.setReg_key (i : Nat) (v : Reg) (s : State) : (s.setReg i v).key = s.key := rfl
@[simp] theorem State.setReg_plant (i : Nat) (v : Reg) (s : State) : (s.setReg i v).plant = s.plant := rfl
@[simp] theorem State.setReg_isl (i : Nat) (v : Reg) (s : State) : (s.setReg i v).isl = s.isl := rfl
@[simp] theorem State.setReg_sel (i : Nat) (v : Reg) (s : State) : (s.setReg i v).sel = s.sel := rfl
@[simp] theorem State.setReg_conv (i : Nat) (v : Reg) (s : State) : (s.setReg i v).conv = s.conv := rfl
@[simp] theorem State.setReg_unit (i : Nat) (v : Reg) (s : State) : (s.setReg i v).unit = s.unit := rfl
@[simp] theorem State.setReg_tb (i : Nat) (v : Reg) (s : State) : (s.setReg i v).tb = s.tb := rfl
@[simp] theorem State.setReg_trips (i : Nat) (v : Reg) (s : State) : (s.setReg i v).trips = s.trips := rfl
@[simp] theorem State.setReg_discharging (i : Nat) (v : Reg) (s : State) : (s.setReg i v).discharging = s.discharging := rfl
@[simp] theorem State.setReg_meas (i : Nat) (v : Reg) (s : State) : (s.setReg i v).meas = s.meas := rfl
@[simp] theorem State.setReg_eng (i : Nat) (v : Reg) (s : State) : (s.setReg i v).eng = s.eng := rfl
@[simp] theorem State.setReg_trx (i : Nat) (v : Reg) (s : State) : (s.setReg i v).trx = s.trx := rfl
@[simp] theorem State.setReg_pilot (i : Nat) (v : Reg) (s : State) : (s.setReg i v).pilot = s.pilot := rfl
@[simp] theorem State.setReg_dcl (i : Nat) (v : Reg) (s : State) : (s.setReg i v).dcl = s.dcl := rfl
@[simp] theorem State.setReg_chg (i : Nat) (v : Reg) (s : State) : (s.setReg i v).chg = s.chg := rfl
@[simp] theorem State.setReg_pairUse (i : Nat) (v : Reg) (s : State) : (s.setReg i v).pairUse = s.pairUse := rfl
@[simp] theorem State.setReg_act (i : Nat) (v : Reg) (s : State) : (s.setReg i v).act = s.act := rfl
@[simp] theorem State.setReg_lvEnd (i : Nat) (v : Reg) (s : State) : (s.setReg i v).lvEnd = s.lvEnd := rfl
@[simp] theorem State.setReg_life (i : Nat) (v : Reg) (s : State) : (s.setReg i v).life = s.life := rfl
@[simp] theorem State.setReg_plc (i : Nat) (v : Reg) (s : State) : (s.setReg i v).plc = s.plc := rfl
@[simp] theorem State.setReg_sto (i : Nat) (v : Reg) (s : State) : (s.setReg i v).sto = s.sto := rfl
@[simp] theorem State.setReg_upd (i : Nat) (v : Reg) (s : State) : (s.setReg i v).upd = s.upd := rfl
@[simp] theorem State.setReg_glove (i : Nat) (v : Reg) (s : State) : (s.setReg i v).glove = s.glove := rfl
@[simp] theorem State.setReg_can (i : Nat) (v : Reg) (s : State) : (s.setReg i v).can = s.can := rfl
@[simp] theorem State.setReg_pair (i : Nat) (v : Reg) (s : State) : (s.setReg i v).pair = s.pair := rfl
@[simp] theorem State.setReg_stoHigh (i : Nat) (v : Reg) (s : State) : (s.setReg i v).stoHigh = s.stoHigh := rfl
@[simp] theorem State.setReg_stoTold (i : Nat) (v : Reg) (s : State) : (s.setReg i v).stoTold = s.stoTold := rfl
@[simp] theorem State.setReg_extest (i : Nat) (v : Reg) (s : State) : (s.setReg i v).extest = s.extest := rfl
@[simp] theorem State.setFld_pending (i : Nat) (f : Fld) (x : Nat) (s : State) : (s.setFld i f x).pending = s.pending := rfl
@[simp] theorem State.setFld_dt (i : Nat) (f : Fld) (x : Nat) (s : State) : (s.setFld i f x).dt = s.dt := rfl
@[simp] theorem State.setFld_el (i : Nat) (f : Fld) (x : Nat) (s : State) : (s.setFld i f x).el = s.el := rfl
@[simp] theorem State.setFld_free (i : Nat) (f : Fld) (x : Nat) (s : State) : (s.setFld i f x).free = s.free := rfl
@[simp] theorem State.setFld_boot (i : Nat) (f : Fld) (x : Nat) (s : State) : (s.setFld i f x).boot = s.boot := rfl
@[simp] theorem State.setFld_trans (i : Nat) (f : Fld) (x : Nat) (s : State) : (s.setFld i f x).trans = s.trans := rfl
@[simp] theorem State.setFld_heldMode (i : Nat) (f : Fld) (x : Nat) (s : State) : (s.setFld i f x).heldMode = s.heldMode := rfl
@[simp] theorem State.setFld_heldFn (i : Nat) (f : Fld) (x : Nat) (s : State) : (s.setFld i f x).heldFn = s.heldFn := rfl
@[simp] theorem State.setFld_nfault (i : Nat) (f : Fld) (x : Nat) (s : State) : (s.setFld i f x).nfault = s.nfault := rfl
@[simp] theorem State.setFld_ev (i : Nat) (f : Fld) (x : Nat) (s : State) : (s.setFld i f x).ev = s.ev := rfl
@[simp] theorem State.setFld_audit (i : Nat) (f : Fld) (x : Nat) (s : State) : (s.setFld i f x).audit = s.audit := rfl
@[simp] theorem State.setFld_rcd (i : Nat) (f : Fld) (x : Nat) (s : State) : (s.setFld i f x).rcd = s.rcd := rfl
@[simp] theorem State.setFld_ports (i : Nat) (f : Fld) (x : Nat) (s : State) : (s.setFld i f x).ports = s.ports := rfl
@[simp] theorem State.setFld_dtHi (i : Nat) (f : Fld) (x : Nat) (s : State) : (s.setFld i f x).dtHi = s.dtHi := rfl
@[simp] theorem State.setFld_lastReq (i : Nat) (f : Fld) (x : Nat) (s : State) : (s.setFld i f x).lastReq = s.lastReq := rfl
@[simp] theorem State.setFld_sessions (i : Nat) (f : Fld) (x : Nat) (s : State) : (s.setFld i f x).sessions = s.sessions := rfl
@[simp] theorem State.setFld_lockouts (i : Nat) (f : Fld) (x : Nat) (s : State) : (s.setFld i f x).lockouts = s.lockouts := rfl
@[simp] theorem State.setFld_service (i : Nat) (f : Fld) (x : Nat) (s : State) : (s.setFld i f x).service = s.service := rfl
@[simp] theorem State.setFld_preDue (i : Nat) (f : Fld) (x : Nat) (s : State) : (s.setFld i f x).preDue = s.preDue := rfl
@[simp] theorem State.setFld_key (i : Nat) (f : Fld) (x : Nat) (s : State) : (s.setFld i f x).key = s.key := rfl
@[simp] theorem State.setFld_plant (i : Nat) (f : Fld) (x : Nat) (s : State) : (s.setFld i f x).plant = s.plant := rfl
@[simp] theorem State.setFld_isl (i : Nat) (f : Fld) (x : Nat) (s : State) : (s.setFld i f x).isl = s.isl := rfl
@[simp] theorem State.setFld_sel (i : Nat) (f : Fld) (x : Nat) (s : State) : (s.setFld i f x).sel = s.sel := rfl
@[simp] theorem State.setFld_conv (i : Nat) (f : Fld) (x : Nat) (s : State) : (s.setFld i f x).conv = s.conv := rfl
@[simp] theorem State.setFld_unit (i : Nat) (f : Fld) (x : Nat) (s : State) : (s.setFld i f x).unit = s.unit := rfl
@[simp] theorem State.setFld_tb (i : Nat) (f : Fld) (x : Nat) (s : State) : (s.setFld i f x).tb = s.tb := rfl
@[simp] theorem State.setFld_trips (i : Nat) (f : Fld) (x : Nat) (s : State) : (s.setFld i f x).trips = s.trips := rfl
@[simp] theorem State.setFld_discharging (i : Nat) (f : Fld) (x : Nat) (s : State) : (s.setFld i f x).discharging = s.discharging := rfl
@[simp] theorem State.setFld_meas (i : Nat) (f : Fld) (x : Nat) (s : State) : (s.setFld i f x).meas = s.meas := rfl
@[simp] theorem State.setFld_eng (i : Nat) (f : Fld) (x : Nat) (s : State) : (s.setFld i f x).eng = s.eng := rfl
@[simp] theorem State.setFld_trx (i : Nat) (f : Fld) (x : Nat) (s : State) : (s.setFld i f x).trx = s.trx := rfl
@[simp] theorem State.setFld_pilot (i : Nat) (f : Fld) (x : Nat) (s : State) : (s.setFld i f x).pilot = s.pilot := rfl
@[simp] theorem State.setFld_dcl (i : Nat) (f : Fld) (x : Nat) (s : State) : (s.setFld i f x).dcl = s.dcl := rfl
@[simp] theorem State.setFld_chg (i : Nat) (f : Fld) (x : Nat) (s : State) : (s.setFld i f x).chg = s.chg := rfl
@[simp] theorem State.setFld_pairUse (i : Nat) (f : Fld) (x : Nat) (s : State) : (s.setFld i f x).pairUse = s.pairUse := rfl
@[simp] theorem State.setFld_act (i : Nat) (f : Fld) (x : Nat) (s : State) : (s.setFld i f x).act = s.act := rfl
@[simp] theorem State.setFld_lvEnd (i : Nat) (f : Fld) (x : Nat) (s : State) : (s.setFld i f x).lvEnd = s.lvEnd := rfl
@[simp] theorem State.setFld_life (i : Nat) (f : Fld) (x : Nat) (s : State) : (s.setFld i f x).life = s.life := rfl
@[simp] theorem State.setFld_plc (i : Nat) (f : Fld) (x : Nat) (s : State) : (s.setFld i f x).plc = s.plc := rfl
@[simp] theorem State.setFld_sto (i : Nat) (f : Fld) (x : Nat) (s : State) : (s.setFld i f x).sto = s.sto := rfl
@[simp] theorem State.setFld_upd (i : Nat) (f : Fld) (x : Nat) (s : State) : (s.setFld i f x).upd = s.upd := rfl
@[simp] theorem State.setFld_glove (i : Nat) (f : Fld) (x : Nat) (s : State) : (s.setFld i f x).glove = s.glove := rfl
@[simp] theorem State.setFld_can (i : Nat) (f : Fld) (x : Nat) (s : State) : (s.setFld i f x).can = s.can := rfl
@[simp] theorem State.setFld_pair (i : Nat) (f : Fld) (x : Nat) (s : State) : (s.setFld i f x).pair = s.pair := rfl
@[simp] theorem State.setFld_stoHigh (i : Nat) (f : Fld) (x : Nat) (s : State) : (s.setFld i f x).stoHigh = s.stoHigh := rfl
@[simp] theorem State.setFld_stoTold (i : Nat) (f : Fld) (x : Nat) (s : State) : (s.setFld i f x).stoTold = s.stoTold := rfl
@[simp] theorem State.setFld_extest (i : Nat) (f : Fld) (x : Nat) (s : State) : (s.setFld i f x).extest = s.extest := rfl
@[simp] theorem State.setBit_pending (i : Nat) (f : Fld) (b : Bool) (s : State) : (s.setBit i f b).pending = s.pending := rfl
@[simp] theorem State.setBit_dt (i : Nat) (f : Fld) (b : Bool) (s : State) : (s.setBit i f b).dt = s.dt := rfl
@[simp] theorem State.setBit_el (i : Nat) (f : Fld) (b : Bool) (s : State) : (s.setBit i f b).el = s.el := rfl
@[simp] theorem State.setBit_free (i : Nat) (f : Fld) (b : Bool) (s : State) : (s.setBit i f b).free = s.free := rfl
@[simp] theorem State.setBit_boot (i : Nat) (f : Fld) (b : Bool) (s : State) : (s.setBit i f b).boot = s.boot := rfl
@[simp] theorem State.setBit_trans (i : Nat) (f : Fld) (b : Bool) (s : State) : (s.setBit i f b).trans = s.trans := rfl
@[simp] theorem State.setBit_heldMode (i : Nat) (f : Fld) (b : Bool) (s : State) : (s.setBit i f b).heldMode = s.heldMode := rfl
@[simp] theorem State.setBit_heldFn (i : Nat) (f : Fld) (b : Bool) (s : State) : (s.setBit i f b).heldFn = s.heldFn := rfl
@[simp] theorem State.setBit_nfault (i : Nat) (f : Fld) (b : Bool) (s : State) : (s.setBit i f b).nfault = s.nfault := rfl
@[simp] theorem State.setBit_ev (i : Nat) (f : Fld) (b : Bool) (s : State) : (s.setBit i f b).ev = s.ev := rfl
@[simp] theorem State.setBit_audit (i : Nat) (f : Fld) (b : Bool) (s : State) : (s.setBit i f b).audit = s.audit := rfl
@[simp] theorem State.setBit_rcd (i : Nat) (f : Fld) (b : Bool) (s : State) : (s.setBit i f b).rcd = s.rcd := rfl
@[simp] theorem State.setBit_ports (i : Nat) (f : Fld) (b : Bool) (s : State) : (s.setBit i f b).ports = s.ports := rfl
@[simp] theorem State.setBit_dtHi (i : Nat) (f : Fld) (b : Bool) (s : State) : (s.setBit i f b).dtHi = s.dtHi := rfl
@[simp] theorem State.setBit_lastReq (i : Nat) (f : Fld) (b : Bool) (s : State) : (s.setBit i f b).lastReq = s.lastReq := rfl
@[simp] theorem State.setBit_sessions (i : Nat) (f : Fld) (b : Bool) (s : State) : (s.setBit i f b).sessions = s.sessions := rfl
@[simp] theorem State.setBit_lockouts (i : Nat) (f : Fld) (b : Bool) (s : State) : (s.setBit i f b).lockouts = s.lockouts := rfl
@[simp] theorem State.setBit_service (i : Nat) (f : Fld) (b : Bool) (s : State) : (s.setBit i f b).service = s.service := rfl
@[simp] theorem State.setBit_preDue (i : Nat) (f : Fld) (b : Bool) (s : State) : (s.setBit i f b).preDue = s.preDue := rfl
@[simp] theorem State.setBit_key (i : Nat) (f : Fld) (b : Bool) (s : State) : (s.setBit i f b).key = s.key := rfl
@[simp] theorem State.setBit_plant (i : Nat) (f : Fld) (b : Bool) (s : State) : (s.setBit i f b).plant = s.plant := rfl
@[simp] theorem State.setBit_isl (i : Nat) (f : Fld) (b : Bool) (s : State) : (s.setBit i f b).isl = s.isl := rfl
@[simp] theorem State.setBit_sel (i : Nat) (f : Fld) (b : Bool) (s : State) : (s.setBit i f b).sel = s.sel := rfl
@[simp] theorem State.setBit_conv (i : Nat) (f : Fld) (b : Bool) (s : State) : (s.setBit i f b).conv = s.conv := rfl
@[simp] theorem State.setBit_unit (i : Nat) (f : Fld) (b : Bool) (s : State) : (s.setBit i f b).unit = s.unit := rfl
@[simp] theorem State.setBit_tb (i : Nat) (f : Fld) (b : Bool) (s : State) : (s.setBit i f b).tb = s.tb := rfl
@[simp] theorem State.setBit_trips (i : Nat) (f : Fld) (b : Bool) (s : State) : (s.setBit i f b).trips = s.trips := rfl
@[simp] theorem State.setBit_discharging (i : Nat) (f : Fld) (b : Bool) (s : State) : (s.setBit i f b).discharging = s.discharging := rfl
@[simp] theorem State.setBit_meas (i : Nat) (f : Fld) (b : Bool) (s : State) : (s.setBit i f b).meas = s.meas := rfl
@[simp] theorem State.setBit_eng (i : Nat) (f : Fld) (b : Bool) (s : State) : (s.setBit i f b).eng = s.eng := rfl
@[simp] theorem State.setBit_trx (i : Nat) (f : Fld) (b : Bool) (s : State) : (s.setBit i f b).trx = s.trx := rfl
@[simp] theorem State.setBit_pilot (i : Nat) (f : Fld) (b : Bool) (s : State) : (s.setBit i f b).pilot = s.pilot := rfl
@[simp] theorem State.setBit_dcl (i : Nat) (f : Fld) (b : Bool) (s : State) : (s.setBit i f b).dcl = s.dcl := rfl
@[simp] theorem State.setBit_chg (i : Nat) (f : Fld) (b : Bool) (s : State) : (s.setBit i f b).chg = s.chg := rfl
@[simp] theorem State.setBit_pairUse (i : Nat) (f : Fld) (b : Bool) (s : State) : (s.setBit i f b).pairUse = s.pairUse := rfl
@[simp] theorem State.setBit_act (i : Nat) (f : Fld) (b : Bool) (s : State) : (s.setBit i f b).act = s.act := rfl
@[simp] theorem State.setBit_lvEnd (i : Nat) (f : Fld) (b : Bool) (s : State) : (s.setBit i f b).lvEnd = s.lvEnd := rfl
@[simp] theorem State.setBit_life (i : Nat) (f : Fld) (b : Bool) (s : State) : (s.setBit i f b).life = s.life := rfl
@[simp] theorem State.setBit_plc (i : Nat) (f : Fld) (b : Bool) (s : State) : (s.setBit i f b).plc = s.plc := rfl
@[simp] theorem State.setBit_sto (i : Nat) (f : Fld) (b : Bool) (s : State) : (s.setBit i f b).sto = s.sto := rfl
@[simp] theorem State.setBit_upd (i : Nat) (f : Fld) (b : Bool) (s : State) : (s.setBit i f b).upd = s.upd := rfl
@[simp] theorem State.setBit_glove (i : Nat) (f : Fld) (b : Bool) (s : State) : (s.setBit i f b).glove = s.glove := rfl
@[simp] theorem State.setBit_can (i : Nat) (f : Fld) (b : Bool) (s : State) : (s.setBit i f b).can = s.can := rfl
@[simp] theorem State.setBit_pair (i : Nat) (f : Fld) (b : Bool) (s : State) : (s.setBit i f b).pair = s.pair := rfl
@[simp] theorem State.setBit_stoHigh (i : Nat) (f : Fld) (b : Bool) (s : State) : (s.setBit i f b).stoHigh = s.stoHigh := rfl
@[simp] theorem State.setBit_stoTold (i : Nat) (f : Fld) (b : Bool) (s : State) : (s.setBit i f b).stoTold = s.stoTold := rfl
@[simp] theorem State.setBit_extest (i : Nat) (f : Fld) (b : Bool) (s : State) : (s.setBit i f b).extest = s.extest := rfl
@[simp] theorem State.setBitAt_pending (i : Nat) (f : Fld) (k : Nat) (b : Bool) (s : State) : (s.setBitAt i f k b).pending = s.pending := rfl
@[simp] theorem State.setBitAt_dt (i : Nat) (f : Fld) (k : Nat) (b : Bool) (s : State) : (s.setBitAt i f k b).dt = s.dt := rfl
@[simp] theorem State.setBitAt_el (i : Nat) (f : Fld) (k : Nat) (b : Bool) (s : State) : (s.setBitAt i f k b).el = s.el := rfl
@[simp] theorem State.setBitAt_free (i : Nat) (f : Fld) (k : Nat) (b : Bool) (s : State) : (s.setBitAt i f k b).free = s.free := rfl
@[simp] theorem State.setBitAt_boot (i : Nat) (f : Fld) (k : Nat) (b : Bool) (s : State) : (s.setBitAt i f k b).boot = s.boot := rfl
@[simp] theorem State.setBitAt_trans (i : Nat) (f : Fld) (k : Nat) (b : Bool) (s : State) : (s.setBitAt i f k b).trans = s.trans := rfl
@[simp] theorem State.setBitAt_heldMode (i : Nat) (f : Fld) (k : Nat) (b : Bool) (s : State) : (s.setBitAt i f k b).heldMode = s.heldMode := rfl
@[simp] theorem State.setBitAt_heldFn (i : Nat) (f : Fld) (k : Nat) (b : Bool) (s : State) : (s.setBitAt i f k b).heldFn = s.heldFn := rfl
@[simp] theorem State.setBitAt_nfault (i : Nat) (f : Fld) (k : Nat) (b : Bool) (s : State) : (s.setBitAt i f k b).nfault = s.nfault := rfl
@[simp] theorem State.setBitAt_ev (i : Nat) (f : Fld) (k : Nat) (b : Bool) (s : State) : (s.setBitAt i f k b).ev = s.ev := rfl
@[simp] theorem State.setBitAt_audit (i : Nat) (f : Fld) (k : Nat) (b : Bool) (s : State) : (s.setBitAt i f k b).audit = s.audit := rfl
@[simp] theorem State.setBitAt_rcd (i : Nat) (f : Fld) (k : Nat) (b : Bool) (s : State) : (s.setBitAt i f k b).rcd = s.rcd := rfl
@[simp] theorem State.setBitAt_ports (i : Nat) (f : Fld) (k : Nat) (b : Bool) (s : State) : (s.setBitAt i f k b).ports = s.ports := rfl
@[simp] theorem State.setBitAt_dtHi (i : Nat) (f : Fld) (k : Nat) (b : Bool) (s : State) : (s.setBitAt i f k b).dtHi = s.dtHi := rfl
@[simp] theorem State.setBitAt_lastReq (i : Nat) (f : Fld) (k : Nat) (b : Bool) (s : State) : (s.setBitAt i f k b).lastReq = s.lastReq := rfl
@[simp] theorem State.setBitAt_sessions (i : Nat) (f : Fld) (k : Nat) (b : Bool) (s : State) : (s.setBitAt i f k b).sessions = s.sessions := rfl
@[simp] theorem State.setBitAt_lockouts (i : Nat) (f : Fld) (k : Nat) (b : Bool) (s : State) : (s.setBitAt i f k b).lockouts = s.lockouts := rfl
@[simp] theorem State.setBitAt_service (i : Nat) (f : Fld) (k : Nat) (b : Bool) (s : State) : (s.setBitAt i f k b).service = s.service := rfl
@[simp] theorem State.setBitAt_preDue (i : Nat) (f : Fld) (k : Nat) (b : Bool) (s : State) : (s.setBitAt i f k b).preDue = s.preDue := rfl
@[simp] theorem State.setBitAt_key (i : Nat) (f : Fld) (k : Nat) (b : Bool) (s : State) : (s.setBitAt i f k b).key = s.key := rfl
@[simp] theorem State.setBitAt_plant (i : Nat) (f : Fld) (k : Nat) (b : Bool) (s : State) : (s.setBitAt i f k b).plant = s.plant := rfl
@[simp] theorem State.setBitAt_isl (i : Nat) (f : Fld) (k : Nat) (b : Bool) (s : State) : (s.setBitAt i f k b).isl = s.isl := rfl
@[simp] theorem State.setBitAt_sel (i : Nat) (f : Fld) (k : Nat) (b : Bool) (s : State) : (s.setBitAt i f k b).sel = s.sel := rfl
@[simp] theorem State.setBitAt_conv (i : Nat) (f : Fld) (k : Nat) (b : Bool) (s : State) : (s.setBitAt i f k b).conv = s.conv := rfl
@[simp] theorem State.setBitAt_unit (i : Nat) (f : Fld) (k : Nat) (b : Bool) (s : State) : (s.setBitAt i f k b).unit = s.unit := rfl
@[simp] theorem State.setBitAt_tb (i : Nat) (f : Fld) (k : Nat) (b : Bool) (s : State) : (s.setBitAt i f k b).tb = s.tb := rfl
@[simp] theorem State.setBitAt_trips (i : Nat) (f : Fld) (k : Nat) (b : Bool) (s : State) : (s.setBitAt i f k b).trips = s.trips := rfl
@[simp] theorem State.setBitAt_discharging (i : Nat) (f : Fld) (k : Nat) (b : Bool) (s : State) : (s.setBitAt i f k b).discharging = s.discharging := rfl
@[simp] theorem State.setBitAt_meas (i : Nat) (f : Fld) (k : Nat) (b : Bool) (s : State) : (s.setBitAt i f k b).meas = s.meas := rfl
@[simp] theorem State.setBitAt_eng (i : Nat) (f : Fld) (k : Nat) (b : Bool) (s : State) : (s.setBitAt i f k b).eng = s.eng := rfl
@[simp] theorem State.setBitAt_trx (i : Nat) (f : Fld) (k : Nat) (b : Bool) (s : State) : (s.setBitAt i f k b).trx = s.trx := rfl
@[simp] theorem State.setBitAt_pilot (i : Nat) (f : Fld) (k : Nat) (b : Bool) (s : State) : (s.setBitAt i f k b).pilot = s.pilot := rfl
@[simp] theorem State.setBitAt_dcl (i : Nat) (f : Fld) (k : Nat) (b : Bool) (s : State) : (s.setBitAt i f k b).dcl = s.dcl := rfl
@[simp] theorem State.setBitAt_chg (i : Nat) (f : Fld) (k : Nat) (b : Bool) (s : State) : (s.setBitAt i f k b).chg = s.chg := rfl
@[simp] theorem State.setBitAt_pairUse (i : Nat) (f : Fld) (k : Nat) (b : Bool) (s : State) : (s.setBitAt i f k b).pairUse = s.pairUse := rfl
@[simp] theorem State.setBitAt_act (i : Nat) (f : Fld) (k : Nat) (b : Bool) (s : State) : (s.setBitAt i f k b).act = s.act := rfl
@[simp] theorem State.setBitAt_lvEnd (i : Nat) (f : Fld) (k : Nat) (b : Bool) (s : State) : (s.setBitAt i f k b).lvEnd = s.lvEnd := rfl
@[simp] theorem State.setBitAt_life (i : Nat) (f : Fld) (k : Nat) (b : Bool) (s : State) : (s.setBitAt i f k b).life = s.life := rfl
@[simp] theorem State.setBitAt_plc (i : Nat) (f : Fld) (k : Nat) (b : Bool) (s : State) : (s.setBitAt i f k b).plc = s.plc := rfl
@[simp] theorem State.setBitAt_sto (i : Nat) (f : Fld) (k : Nat) (b : Bool) (s : State) : (s.setBitAt i f k b).sto = s.sto := rfl
@[simp] theorem State.setBitAt_upd (i : Nat) (f : Fld) (k : Nat) (b : Bool) (s : State) : (s.setBitAt i f k b).upd = s.upd := rfl
@[simp] theorem State.setBitAt_glove (i : Nat) (f : Fld) (k : Nat) (b : Bool) (s : State) : (s.setBitAt i f k b).glove = s.glove := rfl
@[simp] theorem State.setBitAt_can (i : Nat) (f : Fld) (k : Nat) (b : Bool) (s : State) : (s.setBitAt i f k b).can = s.can := rfl
@[simp] theorem State.setBitAt_pair (i : Nat) (f : Fld) (k : Nat) (b : Bool) (s : State) : (s.setBitAt i f k b).pair = s.pair := rfl
@[simp] theorem State.setBitAt_stoHigh (i : Nat) (f : Fld) (k : Nat) (b : Bool) (s : State) : (s.setBitAt i f k b).stoHigh = s.stoHigh := rfl
@[simp] theorem State.setBitAt_stoTold (i : Nat) (f : Fld) (k : Nat) (b : Bool) (s : State) : (s.setBitAt i f k b).stoTold = s.stoTold := rfl
@[simp] theorem State.setBitAt_extest (i : Nat) (f : Fld) (k : Nat) (b : Bool) (s : State) : (s.setBitAt i f k b).extest = s.extest := rfl
@[simp] theorem State.incFld_pending (i : Nat) (f : Fld) (k : Nat) (s : State) : (s.incFld i f k).pending = s.pending := rfl
@[simp] theorem State.incFld_dt (i : Nat) (f : Fld) (k : Nat) (s : State) : (s.incFld i f k).dt = s.dt := rfl
@[simp] theorem State.incFld_el (i : Nat) (f : Fld) (k : Nat) (s : State) : (s.incFld i f k).el = s.el := rfl
@[simp] theorem State.incFld_free (i : Nat) (f : Fld) (k : Nat) (s : State) : (s.incFld i f k).free = s.free := rfl
@[simp] theorem State.incFld_boot (i : Nat) (f : Fld) (k : Nat) (s : State) : (s.incFld i f k).boot = s.boot := rfl
@[simp] theorem State.incFld_trans (i : Nat) (f : Fld) (k : Nat) (s : State) : (s.incFld i f k).trans = s.trans := rfl
@[simp] theorem State.incFld_heldMode (i : Nat) (f : Fld) (k : Nat) (s : State) : (s.incFld i f k).heldMode = s.heldMode := rfl
@[simp] theorem State.incFld_heldFn (i : Nat) (f : Fld) (k : Nat) (s : State) : (s.incFld i f k).heldFn = s.heldFn := rfl
@[simp] theorem State.incFld_nfault (i : Nat) (f : Fld) (k : Nat) (s : State) : (s.incFld i f k).nfault = s.nfault := rfl
@[simp] theorem State.incFld_ev (i : Nat) (f : Fld) (k : Nat) (s : State) : (s.incFld i f k).ev = s.ev := rfl
@[simp] theorem State.incFld_audit (i : Nat) (f : Fld) (k : Nat) (s : State) : (s.incFld i f k).audit = s.audit := rfl
@[simp] theorem State.incFld_rcd (i : Nat) (f : Fld) (k : Nat) (s : State) : (s.incFld i f k).rcd = s.rcd := rfl
@[simp] theorem State.incFld_ports (i : Nat) (f : Fld) (k : Nat) (s : State) : (s.incFld i f k).ports = s.ports := rfl
@[simp] theorem State.incFld_dtHi (i : Nat) (f : Fld) (k : Nat) (s : State) : (s.incFld i f k).dtHi = s.dtHi := rfl
@[simp] theorem State.incFld_lastReq (i : Nat) (f : Fld) (k : Nat) (s : State) : (s.incFld i f k).lastReq = s.lastReq := rfl
@[simp] theorem State.incFld_sessions (i : Nat) (f : Fld) (k : Nat) (s : State) : (s.incFld i f k).sessions = s.sessions := rfl
@[simp] theorem State.incFld_lockouts (i : Nat) (f : Fld) (k : Nat) (s : State) : (s.incFld i f k).lockouts = s.lockouts := rfl
@[simp] theorem State.incFld_service (i : Nat) (f : Fld) (k : Nat) (s : State) : (s.incFld i f k).service = s.service := rfl
@[simp] theorem State.incFld_preDue (i : Nat) (f : Fld) (k : Nat) (s : State) : (s.incFld i f k).preDue = s.preDue := rfl
@[simp] theorem State.incFld_key (i : Nat) (f : Fld) (k : Nat) (s : State) : (s.incFld i f k).key = s.key := rfl
@[simp] theorem State.incFld_plant (i : Nat) (f : Fld) (k : Nat) (s : State) : (s.incFld i f k).plant = s.plant := rfl
@[simp] theorem State.incFld_isl (i : Nat) (f : Fld) (k : Nat) (s : State) : (s.incFld i f k).isl = s.isl := rfl
@[simp] theorem State.incFld_sel (i : Nat) (f : Fld) (k : Nat) (s : State) : (s.incFld i f k).sel = s.sel := rfl
@[simp] theorem State.incFld_conv (i : Nat) (f : Fld) (k : Nat) (s : State) : (s.incFld i f k).conv = s.conv := rfl
@[simp] theorem State.incFld_unit (i : Nat) (f : Fld) (k : Nat) (s : State) : (s.incFld i f k).unit = s.unit := rfl
@[simp] theorem State.incFld_tb (i : Nat) (f : Fld) (k : Nat) (s : State) : (s.incFld i f k).tb = s.tb := rfl
@[simp] theorem State.incFld_trips (i : Nat) (f : Fld) (k : Nat) (s : State) : (s.incFld i f k).trips = s.trips := rfl
@[simp] theorem State.incFld_discharging (i : Nat) (f : Fld) (k : Nat) (s : State) : (s.incFld i f k).discharging = s.discharging := rfl
@[simp] theorem State.incFld_meas (i : Nat) (f : Fld) (k : Nat) (s : State) : (s.incFld i f k).meas = s.meas := rfl
@[simp] theorem State.incFld_eng (i : Nat) (f : Fld) (k : Nat) (s : State) : (s.incFld i f k).eng = s.eng := rfl
@[simp] theorem State.incFld_trx (i : Nat) (f : Fld) (k : Nat) (s : State) : (s.incFld i f k).trx = s.trx := rfl
@[simp] theorem State.incFld_pilot (i : Nat) (f : Fld) (k : Nat) (s : State) : (s.incFld i f k).pilot = s.pilot := rfl
@[simp] theorem State.incFld_dcl (i : Nat) (f : Fld) (k : Nat) (s : State) : (s.incFld i f k).dcl = s.dcl := rfl
@[simp] theorem State.incFld_chg (i : Nat) (f : Fld) (k : Nat) (s : State) : (s.incFld i f k).chg = s.chg := rfl
@[simp] theorem State.incFld_pairUse (i : Nat) (f : Fld) (k : Nat) (s : State) : (s.incFld i f k).pairUse = s.pairUse := rfl
@[simp] theorem State.incFld_act (i : Nat) (f : Fld) (k : Nat) (s : State) : (s.incFld i f k).act = s.act := rfl
@[simp] theorem State.incFld_lvEnd (i : Nat) (f : Fld) (k : Nat) (s : State) : (s.incFld i f k).lvEnd = s.lvEnd := rfl
@[simp] theorem State.incFld_life (i : Nat) (f : Fld) (k : Nat) (s : State) : (s.incFld i f k).life = s.life := rfl
@[simp] theorem State.incFld_plc (i : Nat) (f : Fld) (k : Nat) (s : State) : (s.incFld i f k).plc = s.plc := rfl
@[simp] theorem State.incFld_sto (i : Nat) (f : Fld) (k : Nat) (s : State) : (s.incFld i f k).sto = s.sto := rfl
@[simp] theorem State.incFld_upd (i : Nat) (f : Fld) (k : Nat) (s : State) : (s.incFld i f k).upd = s.upd := rfl
@[simp] theorem State.incFld_glove (i : Nat) (f : Fld) (k : Nat) (s : State) : (s.incFld i f k).glove = s.glove := rfl
@[simp] theorem State.incFld_can (i : Nat) (f : Fld) (k : Nat) (s : State) : (s.incFld i f k).can = s.can := rfl
@[simp] theorem State.incFld_pair (i : Nat) (f : Fld) (k : Nat) (s : State) : (s.incFld i f k).pair = s.pair := rfl
@[simp] theorem State.incFld_stoHigh (i : Nat) (f : Fld) (k : Nat) (s : State) : (s.incFld i f k).stoHigh = s.stoHigh := rfl
@[simp] theorem State.incFld_stoTold (i : Nat) (f : Fld) (k : Nat) (s : State) : (s.incFld i f k).stoTold = s.stoTold := rfl
@[simp] theorem State.incFld_extest (i : Nat) (f : Fld) (k : Nat) (s : State) : (s.incFld i f k).extest = s.extest := rfl
@[simp] theorem State.setSfld_pending (i : Nat) (f : Fld) (x : Int) (s : State) : (s.setSfld i f x).pending = s.pending := rfl
@[simp] theorem State.setSfld_dt (i : Nat) (f : Fld) (x : Int) (s : State) : (s.setSfld i f x).dt = s.dt := rfl
@[simp] theorem State.setSfld_el (i : Nat) (f : Fld) (x : Int) (s : State) : (s.setSfld i f x).el = s.el := rfl
@[simp] theorem State.setSfld_free (i : Nat) (f : Fld) (x : Int) (s : State) : (s.setSfld i f x).free = s.free := rfl
@[simp] theorem State.setSfld_boot (i : Nat) (f : Fld) (x : Int) (s : State) : (s.setSfld i f x).boot = s.boot := rfl
@[simp] theorem State.setSfld_trans (i : Nat) (f : Fld) (x : Int) (s : State) : (s.setSfld i f x).trans = s.trans := rfl
@[simp] theorem State.setSfld_heldMode (i : Nat) (f : Fld) (x : Int) (s : State) : (s.setSfld i f x).heldMode = s.heldMode := rfl
@[simp] theorem State.setSfld_heldFn (i : Nat) (f : Fld) (x : Int) (s : State) : (s.setSfld i f x).heldFn = s.heldFn := rfl
@[simp] theorem State.setSfld_nfault (i : Nat) (f : Fld) (x : Int) (s : State) : (s.setSfld i f x).nfault = s.nfault := rfl
@[simp] theorem State.setSfld_ev (i : Nat) (f : Fld) (x : Int) (s : State) : (s.setSfld i f x).ev = s.ev := rfl
@[simp] theorem State.setSfld_audit (i : Nat) (f : Fld) (x : Int) (s : State) : (s.setSfld i f x).audit = s.audit := rfl
@[simp] theorem State.setSfld_rcd (i : Nat) (f : Fld) (x : Int) (s : State) : (s.setSfld i f x).rcd = s.rcd := rfl
@[simp] theorem State.setSfld_ports (i : Nat) (f : Fld) (x : Int) (s : State) : (s.setSfld i f x).ports = s.ports := rfl
@[simp] theorem State.setSfld_dtHi (i : Nat) (f : Fld) (x : Int) (s : State) : (s.setSfld i f x).dtHi = s.dtHi := rfl
@[simp] theorem State.setSfld_lastReq (i : Nat) (f : Fld) (x : Int) (s : State) : (s.setSfld i f x).lastReq = s.lastReq := rfl
@[simp] theorem State.setSfld_sessions (i : Nat) (f : Fld) (x : Int) (s : State) : (s.setSfld i f x).sessions = s.sessions := rfl
@[simp] theorem State.setSfld_lockouts (i : Nat) (f : Fld) (x : Int) (s : State) : (s.setSfld i f x).lockouts = s.lockouts := rfl
@[simp] theorem State.setSfld_service (i : Nat) (f : Fld) (x : Int) (s : State) : (s.setSfld i f x).service = s.service := rfl
@[simp] theorem State.setSfld_preDue (i : Nat) (f : Fld) (x : Int) (s : State) : (s.setSfld i f x).preDue = s.preDue := rfl
@[simp] theorem State.setSfld_key (i : Nat) (f : Fld) (x : Int) (s : State) : (s.setSfld i f x).key = s.key := rfl
@[simp] theorem State.setSfld_plant (i : Nat) (f : Fld) (x : Int) (s : State) : (s.setSfld i f x).plant = s.plant := rfl
@[simp] theorem State.setSfld_isl (i : Nat) (f : Fld) (x : Int) (s : State) : (s.setSfld i f x).isl = s.isl := rfl
@[simp] theorem State.setSfld_sel (i : Nat) (f : Fld) (x : Int) (s : State) : (s.setSfld i f x).sel = s.sel := rfl
@[simp] theorem State.setSfld_conv (i : Nat) (f : Fld) (x : Int) (s : State) : (s.setSfld i f x).conv = s.conv := rfl
@[simp] theorem State.setSfld_unit (i : Nat) (f : Fld) (x : Int) (s : State) : (s.setSfld i f x).unit = s.unit := rfl
@[simp] theorem State.setSfld_tb (i : Nat) (f : Fld) (x : Int) (s : State) : (s.setSfld i f x).tb = s.tb := rfl
@[simp] theorem State.setSfld_trips (i : Nat) (f : Fld) (x : Int) (s : State) : (s.setSfld i f x).trips = s.trips := rfl
@[simp] theorem State.setSfld_discharging (i : Nat) (f : Fld) (x : Int) (s : State) : (s.setSfld i f x).discharging = s.discharging := rfl
@[simp] theorem State.setSfld_meas (i : Nat) (f : Fld) (x : Int) (s : State) : (s.setSfld i f x).meas = s.meas := rfl
@[simp] theorem State.setSfld_eng (i : Nat) (f : Fld) (x : Int) (s : State) : (s.setSfld i f x).eng = s.eng := rfl
@[simp] theorem State.setSfld_trx (i : Nat) (f : Fld) (x : Int) (s : State) : (s.setSfld i f x).trx = s.trx := rfl
@[simp] theorem State.setSfld_pilot (i : Nat) (f : Fld) (x : Int) (s : State) : (s.setSfld i f x).pilot = s.pilot := rfl
@[simp] theorem State.setSfld_dcl (i : Nat) (f : Fld) (x : Int) (s : State) : (s.setSfld i f x).dcl = s.dcl := rfl
@[simp] theorem State.setSfld_chg (i : Nat) (f : Fld) (x : Int) (s : State) : (s.setSfld i f x).chg = s.chg := rfl
@[simp] theorem State.setSfld_pairUse (i : Nat) (f : Fld) (x : Int) (s : State) : (s.setSfld i f x).pairUse = s.pairUse := rfl
@[simp] theorem State.setSfld_act (i : Nat) (f : Fld) (x : Int) (s : State) : (s.setSfld i f x).act = s.act := rfl
@[simp] theorem State.setSfld_lvEnd (i : Nat) (f : Fld) (x : Int) (s : State) : (s.setSfld i f x).lvEnd = s.lvEnd := rfl
@[simp] theorem State.setSfld_life (i : Nat) (f : Fld) (x : Int) (s : State) : (s.setSfld i f x).life = s.life := rfl
@[simp] theorem State.setSfld_plc (i : Nat) (f : Fld) (x : Int) (s : State) : (s.setSfld i f x).plc = s.plc := rfl
@[simp] theorem State.setSfld_sto (i : Nat) (f : Fld) (x : Int) (s : State) : (s.setSfld i f x).sto = s.sto := rfl
@[simp] theorem State.setSfld_upd (i : Nat) (f : Fld) (x : Int) (s : State) : (s.setSfld i f x).upd = s.upd := rfl
@[simp] theorem State.setSfld_glove (i : Nat) (f : Fld) (x : Int) (s : State) : (s.setSfld i f x).glove = s.glove := rfl
@[simp] theorem State.setSfld_can (i : Nat) (f : Fld) (x : Int) (s : State) : (s.setSfld i f x).can = s.can := rfl
@[simp] theorem State.setSfld_pair (i : Nat) (f : Fld) (x : Int) (s : State) : (s.setSfld i f x).pair = s.pair := rfl
@[simp] theorem State.setSfld_stoHigh (i : Nat) (f : Fld) (x : Int) (s : State) : (s.setSfld i f x).stoHigh = s.stoHigh := rfl
@[simp] theorem State.setSfld_stoTold (i : Nat) (f : Fld) (x : Int) (s : State) : (s.setSfld i f x).stoTold = s.stoTold := rfl
@[simp] theorem State.setSfld_extest (i : Nat) (f : Fld) (x : Int) (s : State) : (s.setSfld i f x).extest = s.extest := rfl
@[simp] theorem State.setIsl_pending (n : Nat) (x : Isl) (s : State) : (s.setIsl n x).pending = s.pending := rfl
@[simp] theorem State.setIsl_dt (n : Nat) (x : Isl) (s : State) : (s.setIsl n x).dt = s.dt := rfl
@[simp] theorem State.setIsl_el (n : Nat) (x : Isl) (s : State) : (s.setIsl n x).el = s.el := rfl
@[simp] theorem State.setIsl_regs (n : Nat) (x : Isl) (s : State) : (s.setIsl n x).regs = s.regs := rfl
@[simp] theorem State.setIsl_free (n : Nat) (x : Isl) (s : State) : (s.setIsl n x).free = s.free := rfl
@[simp] theorem State.setIsl_boot (n : Nat) (x : Isl) (s : State) : (s.setIsl n x).boot = s.boot := rfl
@[simp] theorem State.setIsl_trans (n : Nat) (x : Isl) (s : State) : (s.setIsl n x).trans = s.trans := rfl
@[simp] theorem State.setIsl_heldMode (n : Nat) (x : Isl) (s : State) : (s.setIsl n x).heldMode = s.heldMode := rfl
@[simp] theorem State.setIsl_heldFn (n : Nat) (x : Isl) (s : State) : (s.setIsl n x).heldFn = s.heldFn := rfl
@[simp] theorem State.setIsl_nfault (n : Nat) (x : Isl) (s : State) : (s.setIsl n x).nfault = s.nfault := rfl
@[simp] theorem State.setIsl_ev (n : Nat) (x : Isl) (s : State) : (s.setIsl n x).ev = s.ev := rfl
@[simp] theorem State.setIsl_audit (n : Nat) (x : Isl) (s : State) : (s.setIsl n x).audit = s.audit := rfl
@[simp] theorem State.setIsl_rcd (n : Nat) (x : Isl) (s : State) : (s.setIsl n x).rcd = s.rcd := rfl
@[simp] theorem State.setIsl_ports (n : Nat) (x : Isl) (s : State) : (s.setIsl n x).ports = s.ports := rfl
@[simp] theorem State.setIsl_dtHi (n : Nat) (x : Isl) (s : State) : (s.setIsl n x).dtHi = s.dtHi := rfl
@[simp] theorem State.setIsl_lastReq (n : Nat) (x : Isl) (s : State) : (s.setIsl n x).lastReq = s.lastReq := rfl
@[simp] theorem State.setIsl_sessions (n : Nat) (x : Isl) (s : State) : (s.setIsl n x).sessions = s.sessions := rfl
@[simp] theorem State.setIsl_lockouts (n : Nat) (x : Isl) (s : State) : (s.setIsl n x).lockouts = s.lockouts := rfl
@[simp] theorem State.setIsl_service (n : Nat) (x : Isl) (s : State) : (s.setIsl n x).service = s.service := rfl
@[simp] theorem State.setIsl_preDue (n : Nat) (x : Isl) (s : State) : (s.setIsl n x).preDue = s.preDue := rfl
@[simp] theorem State.setIsl_key (n : Nat) (x : Isl) (s : State) : (s.setIsl n x).key = s.key := rfl
@[simp] theorem State.setIsl_plant (n : Nat) (x : Isl) (s : State) : (s.setIsl n x).plant = s.plant := rfl
@[simp] theorem State.setIsl_sel (n : Nat) (x : Isl) (s : State) : (s.setIsl n x).sel = s.sel := rfl
@[simp] theorem State.setIsl_conv (n : Nat) (x : Isl) (s : State) : (s.setIsl n x).conv = s.conv := rfl
@[simp] theorem State.setIsl_unit (n : Nat) (x : Isl) (s : State) : (s.setIsl n x).unit = s.unit := rfl
@[simp] theorem State.setIsl_tb (n : Nat) (x : Isl) (s : State) : (s.setIsl n x).tb = s.tb := rfl
@[simp] theorem State.setIsl_trips (n : Nat) (x : Isl) (s : State) : (s.setIsl n x).trips = s.trips := rfl
@[simp] theorem State.setIsl_discharging (n : Nat) (x : Isl) (s : State) : (s.setIsl n x).discharging = s.discharging := rfl
@[simp] theorem State.setIsl_meas (n : Nat) (x : Isl) (s : State) : (s.setIsl n x).meas = s.meas := rfl
@[simp] theorem State.setIsl_eng (n : Nat) (x : Isl) (s : State) : (s.setIsl n x).eng = s.eng := rfl
@[simp] theorem State.setIsl_trx (n : Nat) (x : Isl) (s : State) : (s.setIsl n x).trx = s.trx := rfl
@[simp] theorem State.setIsl_pilot (n : Nat) (x : Isl) (s : State) : (s.setIsl n x).pilot = s.pilot := rfl
@[simp] theorem State.setIsl_dcl (n : Nat) (x : Isl) (s : State) : (s.setIsl n x).dcl = s.dcl := rfl
@[simp] theorem State.setIsl_chg (n : Nat) (x : Isl) (s : State) : (s.setIsl n x).chg = s.chg := rfl
@[simp] theorem State.setIsl_pairUse (n : Nat) (x : Isl) (s : State) : (s.setIsl n x).pairUse = s.pairUse := rfl
@[simp] theorem State.setIsl_act (n : Nat) (x : Isl) (s : State) : (s.setIsl n x).act = s.act := rfl
@[simp] theorem State.setIsl_lvEnd (n : Nat) (x : Isl) (s : State) : (s.setIsl n x).lvEnd = s.lvEnd := rfl
@[simp] theorem State.setIsl_life (n : Nat) (x : Isl) (s : State) : (s.setIsl n x).life = s.life := rfl
@[simp] theorem State.setIsl_plc (n : Nat) (x : Isl) (s : State) : (s.setIsl n x).plc = s.plc := rfl
@[simp] theorem State.setIsl_sto (n : Nat) (x : Isl) (s : State) : (s.setIsl n x).sto = s.sto := rfl
@[simp] theorem State.setIsl_upd (n : Nat) (x : Isl) (s : State) : (s.setIsl n x).upd = s.upd := rfl
@[simp] theorem State.setIsl_glove (n : Nat) (x : Isl) (s : State) : (s.setIsl n x).glove = s.glove := rfl
@[simp] theorem State.setIsl_can (n : Nat) (x : Isl) (s : State) : (s.setIsl n x).can = s.can := rfl
@[simp] theorem State.setIsl_pair (n : Nat) (x : Isl) (s : State) : (s.setIsl n x).pair = s.pair := rfl
@[simp] theorem State.setIsl_stoHigh (n : Nat) (x : Isl) (s : State) : (s.setIsl n x).stoHigh = s.stoHigh := rfl
@[simp] theorem State.setIsl_stoTold (n : Nat) (x : Isl) (s : State) : (s.setIsl n x).stoTold = s.stoTold := rfl
@[simp] theorem State.setIsl_extest (n : Nat) (x : Isl) (s : State) : (s.setIsl n x).extest = s.extest := rfl
@[simp] theorem State.setSel_pending (n : Nat) (x : Sel) (s : State) : (s.setSel n x).pending = s.pending := rfl
@[simp] theorem State.setSel_dt (n : Nat) (x : Sel) (s : State) : (s.setSel n x).dt = s.dt := rfl
@[simp] theorem State.setSel_el (n : Nat) (x : Sel) (s : State) : (s.setSel n x).el = s.el := rfl
@[simp] theorem State.setSel_regs (n : Nat) (x : Sel) (s : State) : (s.setSel n x).regs = s.regs := rfl
@[simp] theorem State.setSel_free (n : Nat) (x : Sel) (s : State) : (s.setSel n x).free = s.free := rfl
@[simp] theorem State.setSel_boot (n : Nat) (x : Sel) (s : State) : (s.setSel n x).boot = s.boot := rfl
@[simp] theorem State.setSel_trans (n : Nat) (x : Sel) (s : State) : (s.setSel n x).trans = s.trans := rfl
@[simp] theorem State.setSel_heldMode (n : Nat) (x : Sel) (s : State) : (s.setSel n x).heldMode = s.heldMode := rfl
@[simp] theorem State.setSel_heldFn (n : Nat) (x : Sel) (s : State) : (s.setSel n x).heldFn = s.heldFn := rfl
@[simp] theorem State.setSel_nfault (n : Nat) (x : Sel) (s : State) : (s.setSel n x).nfault = s.nfault := rfl
@[simp] theorem State.setSel_ev (n : Nat) (x : Sel) (s : State) : (s.setSel n x).ev = s.ev := rfl
@[simp] theorem State.setSel_audit (n : Nat) (x : Sel) (s : State) : (s.setSel n x).audit = s.audit := rfl
@[simp] theorem State.setSel_rcd (n : Nat) (x : Sel) (s : State) : (s.setSel n x).rcd = s.rcd := rfl
@[simp] theorem State.setSel_ports (n : Nat) (x : Sel) (s : State) : (s.setSel n x).ports = s.ports := rfl
@[simp] theorem State.setSel_dtHi (n : Nat) (x : Sel) (s : State) : (s.setSel n x).dtHi = s.dtHi := rfl
@[simp] theorem State.setSel_lastReq (n : Nat) (x : Sel) (s : State) : (s.setSel n x).lastReq = s.lastReq := rfl
@[simp] theorem State.setSel_sessions (n : Nat) (x : Sel) (s : State) : (s.setSel n x).sessions = s.sessions := rfl
@[simp] theorem State.setSel_lockouts (n : Nat) (x : Sel) (s : State) : (s.setSel n x).lockouts = s.lockouts := rfl
@[simp] theorem State.setSel_service (n : Nat) (x : Sel) (s : State) : (s.setSel n x).service = s.service := rfl
@[simp] theorem State.setSel_preDue (n : Nat) (x : Sel) (s : State) : (s.setSel n x).preDue = s.preDue := rfl
@[simp] theorem State.setSel_key (n : Nat) (x : Sel) (s : State) : (s.setSel n x).key = s.key := rfl
@[simp] theorem State.setSel_plant (n : Nat) (x : Sel) (s : State) : (s.setSel n x).plant = s.plant := rfl
@[simp] theorem State.setSel_isl (n : Nat) (x : Sel) (s : State) : (s.setSel n x).isl = s.isl := rfl
@[simp] theorem State.setSel_conv (n : Nat) (x : Sel) (s : State) : (s.setSel n x).conv = s.conv := rfl
@[simp] theorem State.setSel_unit (n : Nat) (x : Sel) (s : State) : (s.setSel n x).unit = s.unit := rfl
@[simp] theorem State.setSel_tb (n : Nat) (x : Sel) (s : State) : (s.setSel n x).tb = s.tb := rfl
@[simp] theorem State.setSel_trips (n : Nat) (x : Sel) (s : State) : (s.setSel n x).trips = s.trips := rfl
@[simp] theorem State.setSel_discharging (n : Nat) (x : Sel) (s : State) : (s.setSel n x).discharging = s.discharging := rfl
@[simp] theorem State.setSel_meas (n : Nat) (x : Sel) (s : State) : (s.setSel n x).meas = s.meas := rfl
@[simp] theorem State.setSel_eng (n : Nat) (x : Sel) (s : State) : (s.setSel n x).eng = s.eng := rfl
@[simp] theorem State.setSel_trx (n : Nat) (x : Sel) (s : State) : (s.setSel n x).trx = s.trx := rfl
@[simp] theorem State.setSel_pilot (n : Nat) (x : Sel) (s : State) : (s.setSel n x).pilot = s.pilot := rfl
@[simp] theorem State.setSel_dcl (n : Nat) (x : Sel) (s : State) : (s.setSel n x).dcl = s.dcl := rfl
@[simp] theorem State.setSel_chg (n : Nat) (x : Sel) (s : State) : (s.setSel n x).chg = s.chg := rfl
@[simp] theorem State.setSel_pairUse (n : Nat) (x : Sel) (s : State) : (s.setSel n x).pairUse = s.pairUse := rfl
@[simp] theorem State.setSel_act (n : Nat) (x : Sel) (s : State) : (s.setSel n x).act = s.act := rfl
@[simp] theorem State.setSel_lvEnd (n : Nat) (x : Sel) (s : State) : (s.setSel n x).lvEnd = s.lvEnd := rfl
@[simp] theorem State.setSel_life (n : Nat) (x : Sel) (s : State) : (s.setSel n x).life = s.life := rfl
@[simp] theorem State.setSel_plc (n : Nat) (x : Sel) (s : State) : (s.setSel n x).plc = s.plc := rfl
@[simp] theorem State.setSel_sto (n : Nat) (x : Sel) (s : State) : (s.setSel n x).sto = s.sto := rfl
@[simp] theorem State.setSel_upd (n : Nat) (x : Sel) (s : State) : (s.setSel n x).upd = s.upd := rfl
@[simp] theorem State.setSel_glove (n : Nat) (x : Sel) (s : State) : (s.setSel n x).glove = s.glove := rfl
@[simp] theorem State.setSel_can (n : Nat) (x : Sel) (s : State) : (s.setSel n x).can = s.can := rfl
@[simp] theorem State.setSel_pair (n : Nat) (x : Sel) (s : State) : (s.setSel n x).pair = s.pair := rfl
@[simp] theorem State.setSel_stoHigh (n : Nat) (x : Sel) (s : State) : (s.setSel n x).stoHigh = s.stoHigh := rfl
@[simp] theorem State.setSel_stoTold (n : Nat) (x : Sel) (s : State) : (s.setSel n x).stoTold = s.stoTold := rfl
@[simp] theorem State.setSel_extest (n : Nat) (x : Sel) (s : State) : (s.setSel n x).extest = s.extest := rfl
@[simp] theorem State.setConv_pending (n : Nat) (x : Conv) (s : State) : (s.setConv n x).pending = s.pending := rfl
@[simp] theorem State.setConv_dt (n : Nat) (x : Conv) (s : State) : (s.setConv n x).dt = s.dt := rfl
@[simp] theorem State.setConv_el (n : Nat) (x : Conv) (s : State) : (s.setConv n x).el = s.el := rfl
@[simp] theorem State.setConv_regs (n : Nat) (x : Conv) (s : State) : (s.setConv n x).regs = s.regs := rfl
@[simp] theorem State.setConv_free (n : Nat) (x : Conv) (s : State) : (s.setConv n x).free = s.free := rfl
@[simp] theorem State.setConv_boot (n : Nat) (x : Conv) (s : State) : (s.setConv n x).boot = s.boot := rfl
@[simp] theorem State.setConv_trans (n : Nat) (x : Conv) (s : State) : (s.setConv n x).trans = s.trans := rfl
@[simp] theorem State.setConv_heldMode (n : Nat) (x : Conv) (s : State) : (s.setConv n x).heldMode = s.heldMode := rfl
@[simp] theorem State.setConv_heldFn (n : Nat) (x : Conv) (s : State) : (s.setConv n x).heldFn = s.heldFn := rfl
@[simp] theorem State.setConv_nfault (n : Nat) (x : Conv) (s : State) : (s.setConv n x).nfault = s.nfault := rfl
@[simp] theorem State.setConv_ev (n : Nat) (x : Conv) (s : State) : (s.setConv n x).ev = s.ev := rfl
@[simp] theorem State.setConv_audit (n : Nat) (x : Conv) (s : State) : (s.setConv n x).audit = s.audit := rfl
@[simp] theorem State.setConv_rcd (n : Nat) (x : Conv) (s : State) : (s.setConv n x).rcd = s.rcd := rfl
@[simp] theorem State.setConv_ports (n : Nat) (x : Conv) (s : State) : (s.setConv n x).ports = s.ports := rfl
@[simp] theorem State.setConv_dtHi (n : Nat) (x : Conv) (s : State) : (s.setConv n x).dtHi = s.dtHi := rfl
@[simp] theorem State.setConv_lastReq (n : Nat) (x : Conv) (s : State) : (s.setConv n x).lastReq = s.lastReq := rfl
@[simp] theorem State.setConv_sessions (n : Nat) (x : Conv) (s : State) : (s.setConv n x).sessions = s.sessions := rfl
@[simp] theorem State.setConv_lockouts (n : Nat) (x : Conv) (s : State) : (s.setConv n x).lockouts = s.lockouts := rfl
@[simp] theorem State.setConv_service (n : Nat) (x : Conv) (s : State) : (s.setConv n x).service = s.service := rfl
@[simp] theorem State.setConv_preDue (n : Nat) (x : Conv) (s : State) : (s.setConv n x).preDue = s.preDue := rfl
@[simp] theorem State.setConv_key (n : Nat) (x : Conv) (s : State) : (s.setConv n x).key = s.key := rfl
@[simp] theorem State.setConv_plant (n : Nat) (x : Conv) (s : State) : (s.setConv n x).plant = s.plant := rfl
@[simp] theorem State.setConv_isl (n : Nat) (x : Conv) (s : State) : (s.setConv n x).isl = s.isl := rfl
@[simp] theorem State.setConv_sel (n : Nat) (x : Conv) (s : State) : (s.setConv n x).sel = s.sel := rfl
@[simp] theorem State.setConv_unit (n : Nat) (x : Conv) (s : State) : (s.setConv n x).unit = s.unit := rfl
@[simp] theorem State.setConv_tb (n : Nat) (x : Conv) (s : State) : (s.setConv n x).tb = s.tb := rfl
@[simp] theorem State.setConv_trips (n : Nat) (x : Conv) (s : State) : (s.setConv n x).trips = s.trips := rfl
@[simp] theorem State.setConv_discharging (n : Nat) (x : Conv) (s : State) : (s.setConv n x).discharging = s.discharging := rfl
@[simp] theorem State.setConv_meas (n : Nat) (x : Conv) (s : State) : (s.setConv n x).meas = s.meas := rfl
@[simp] theorem State.setConv_eng (n : Nat) (x : Conv) (s : State) : (s.setConv n x).eng = s.eng := rfl
@[simp] theorem State.setConv_trx (n : Nat) (x : Conv) (s : State) : (s.setConv n x).trx = s.trx := rfl
@[simp] theorem State.setConv_pilot (n : Nat) (x : Conv) (s : State) : (s.setConv n x).pilot = s.pilot := rfl
@[simp] theorem State.setConv_dcl (n : Nat) (x : Conv) (s : State) : (s.setConv n x).dcl = s.dcl := rfl
@[simp] theorem State.setConv_chg (n : Nat) (x : Conv) (s : State) : (s.setConv n x).chg = s.chg := rfl
@[simp] theorem State.setConv_pairUse (n : Nat) (x : Conv) (s : State) : (s.setConv n x).pairUse = s.pairUse := rfl
@[simp] theorem State.setConv_act (n : Nat) (x : Conv) (s : State) : (s.setConv n x).act = s.act := rfl
@[simp] theorem State.setConv_lvEnd (n : Nat) (x : Conv) (s : State) : (s.setConv n x).lvEnd = s.lvEnd := rfl
@[simp] theorem State.setConv_life (n : Nat) (x : Conv) (s : State) : (s.setConv n x).life = s.life := rfl
@[simp] theorem State.setConv_plc (n : Nat) (x : Conv) (s : State) : (s.setConv n x).plc = s.plc := rfl
@[simp] theorem State.setConv_sto (n : Nat) (x : Conv) (s : State) : (s.setConv n x).sto = s.sto := rfl
@[simp] theorem State.setConv_upd (n : Nat) (x : Conv) (s : State) : (s.setConv n x).upd = s.upd := rfl
@[simp] theorem State.setConv_glove (n : Nat) (x : Conv) (s : State) : (s.setConv n x).glove = s.glove := rfl
@[simp] theorem State.setConv_can (n : Nat) (x : Conv) (s : State) : (s.setConv n x).can = s.can := rfl
@[simp] theorem State.setConv_pair (n : Nat) (x : Conv) (s : State) : (s.setConv n x).pair = s.pair := rfl
@[simp] theorem State.setConv_stoHigh (n : Nat) (x : Conv) (s : State) : (s.setConv n x).stoHigh = s.stoHigh := rfl
@[simp] theorem State.setConv_stoTold (n : Nat) (x : Conv) (s : State) : (s.setConv n x).stoTold = s.stoTold := rfl
@[simp] theorem State.setConv_extest (n : Nat) (x : Conv) (s : State) : (s.setConv n x).extest = s.extest := rfl
@[simp] theorem State.setUnit_pending (n : Nat) (x : Unit) (s : State) : (s.setUnit n x).pending = s.pending := rfl
@[simp] theorem State.setUnit_dt (n : Nat) (x : Unit) (s : State) : (s.setUnit n x).dt = s.dt := rfl
@[simp] theorem State.setUnit_el (n : Nat) (x : Unit) (s : State) : (s.setUnit n x).el = s.el := rfl
@[simp] theorem State.setUnit_regs (n : Nat) (x : Unit) (s : State) : (s.setUnit n x).regs = s.regs := rfl
@[simp] theorem State.setUnit_free (n : Nat) (x : Unit) (s : State) : (s.setUnit n x).free = s.free := rfl
@[simp] theorem State.setUnit_boot (n : Nat) (x : Unit) (s : State) : (s.setUnit n x).boot = s.boot := rfl
@[simp] theorem State.setUnit_trans (n : Nat) (x : Unit) (s : State) : (s.setUnit n x).trans = s.trans := rfl
@[simp] theorem State.setUnit_heldMode (n : Nat) (x : Unit) (s : State) : (s.setUnit n x).heldMode = s.heldMode := rfl
@[simp] theorem State.setUnit_heldFn (n : Nat) (x : Unit) (s : State) : (s.setUnit n x).heldFn = s.heldFn := rfl
@[simp] theorem State.setUnit_nfault (n : Nat) (x : Unit) (s : State) : (s.setUnit n x).nfault = s.nfault := rfl
@[simp] theorem State.setUnit_ev (n : Nat) (x : Unit) (s : State) : (s.setUnit n x).ev = s.ev := rfl
@[simp] theorem State.setUnit_audit (n : Nat) (x : Unit) (s : State) : (s.setUnit n x).audit = s.audit := rfl
@[simp] theorem State.setUnit_rcd (n : Nat) (x : Unit) (s : State) : (s.setUnit n x).rcd = s.rcd := rfl
@[simp] theorem State.setUnit_ports (n : Nat) (x : Unit) (s : State) : (s.setUnit n x).ports = s.ports := rfl
@[simp] theorem State.setUnit_dtHi (n : Nat) (x : Unit) (s : State) : (s.setUnit n x).dtHi = s.dtHi := rfl
@[simp] theorem State.setUnit_lastReq (n : Nat) (x : Unit) (s : State) : (s.setUnit n x).lastReq = s.lastReq := rfl
@[simp] theorem State.setUnit_sessions (n : Nat) (x : Unit) (s : State) : (s.setUnit n x).sessions = s.sessions := rfl
@[simp] theorem State.setUnit_lockouts (n : Nat) (x : Unit) (s : State) : (s.setUnit n x).lockouts = s.lockouts := rfl
@[simp] theorem State.setUnit_service (n : Nat) (x : Unit) (s : State) : (s.setUnit n x).service = s.service := rfl
@[simp] theorem State.setUnit_preDue (n : Nat) (x : Unit) (s : State) : (s.setUnit n x).preDue = s.preDue := rfl
@[simp] theorem State.setUnit_key (n : Nat) (x : Unit) (s : State) : (s.setUnit n x).key = s.key := rfl
@[simp] theorem State.setUnit_plant (n : Nat) (x : Unit) (s : State) : (s.setUnit n x).plant = s.plant := rfl
@[simp] theorem State.setUnit_isl (n : Nat) (x : Unit) (s : State) : (s.setUnit n x).isl = s.isl := rfl
@[simp] theorem State.setUnit_sel (n : Nat) (x : Unit) (s : State) : (s.setUnit n x).sel = s.sel := rfl
@[simp] theorem State.setUnit_conv (n : Nat) (x : Unit) (s : State) : (s.setUnit n x).conv = s.conv := rfl
@[simp] theorem State.setUnit_tb (n : Nat) (x : Unit) (s : State) : (s.setUnit n x).tb = s.tb := rfl
@[simp] theorem State.setUnit_trips (n : Nat) (x : Unit) (s : State) : (s.setUnit n x).trips = s.trips := rfl
@[simp] theorem State.setUnit_discharging (n : Nat) (x : Unit) (s : State) : (s.setUnit n x).discharging = s.discharging := rfl
@[simp] theorem State.setUnit_meas (n : Nat) (x : Unit) (s : State) : (s.setUnit n x).meas = s.meas := rfl
@[simp] theorem State.setUnit_eng (n : Nat) (x : Unit) (s : State) : (s.setUnit n x).eng = s.eng := rfl
@[simp] theorem State.setUnit_trx (n : Nat) (x : Unit) (s : State) : (s.setUnit n x).trx = s.trx := rfl
@[simp] theorem State.setUnit_pilot (n : Nat) (x : Unit) (s : State) : (s.setUnit n x).pilot = s.pilot := rfl
@[simp] theorem State.setUnit_dcl (n : Nat) (x : Unit) (s : State) : (s.setUnit n x).dcl = s.dcl := rfl
@[simp] theorem State.setUnit_chg (n : Nat) (x : Unit) (s : State) : (s.setUnit n x).chg = s.chg := rfl
@[simp] theorem State.setUnit_pairUse (n : Nat) (x : Unit) (s : State) : (s.setUnit n x).pairUse = s.pairUse := rfl
@[simp] theorem State.setUnit_act (n : Nat) (x : Unit) (s : State) : (s.setUnit n x).act = s.act := rfl
@[simp] theorem State.setUnit_lvEnd (n : Nat) (x : Unit) (s : State) : (s.setUnit n x).lvEnd = s.lvEnd := rfl
@[simp] theorem State.setUnit_life (n : Nat) (x : Unit) (s : State) : (s.setUnit n x).life = s.life := rfl
@[simp] theorem State.setUnit_plc (n : Nat) (x : Unit) (s : State) : (s.setUnit n x).plc = s.plc := rfl
@[simp] theorem State.setUnit_sto (n : Nat) (x : Unit) (s : State) : (s.setUnit n x).sto = s.sto := rfl
@[simp] theorem State.setUnit_upd (n : Nat) (x : Unit) (s : State) : (s.setUnit n x).upd = s.upd := rfl
@[simp] theorem State.setUnit_glove (n : Nat) (x : Unit) (s : State) : (s.setUnit n x).glove = s.glove := rfl
@[simp] theorem State.setUnit_can (n : Nat) (x : Unit) (s : State) : (s.setUnit n x).can = s.can := rfl
@[simp] theorem State.setUnit_pair (n : Nat) (x : Unit) (s : State) : (s.setUnit n x).pair = s.pair := rfl
@[simp] theorem State.setUnit_stoHigh (n : Nat) (x : Unit) (s : State) : (s.setUnit n x).stoHigh = s.stoHigh := rfl
@[simp] theorem State.setUnit_stoTold (n : Nat) (x : Unit) (s : State) : (s.setUnit n x).stoTold = s.stoTold := rfl
@[simp] theorem State.setUnit_extest (n : Nat) (x : Unit) (s : State) : (s.setUnit n x).extest = s.extest := rfl
@[simp] theorem State.setTb_pending (n : Nat) (x : Tb) (s : State) : (s.setTb n x).pending = s.pending := rfl
@[simp] theorem State.setTb_dt (n : Nat) (x : Tb) (s : State) : (s.setTb n x).dt = s.dt := rfl
@[simp] theorem State.setTb_el (n : Nat) (x : Tb) (s : State) : (s.setTb n x).el = s.el := rfl
@[simp] theorem State.setTb_regs (n : Nat) (x : Tb) (s : State) : (s.setTb n x).regs = s.regs := rfl
@[simp] theorem State.setTb_free (n : Nat) (x : Tb) (s : State) : (s.setTb n x).free = s.free := rfl
@[simp] theorem State.setTb_boot (n : Nat) (x : Tb) (s : State) : (s.setTb n x).boot = s.boot := rfl
@[simp] theorem State.setTb_trans (n : Nat) (x : Tb) (s : State) : (s.setTb n x).trans = s.trans := rfl
@[simp] theorem State.setTb_heldMode (n : Nat) (x : Tb) (s : State) : (s.setTb n x).heldMode = s.heldMode := rfl
@[simp] theorem State.setTb_heldFn (n : Nat) (x : Tb) (s : State) : (s.setTb n x).heldFn = s.heldFn := rfl
@[simp] theorem State.setTb_nfault (n : Nat) (x : Tb) (s : State) : (s.setTb n x).nfault = s.nfault := rfl
@[simp] theorem State.setTb_ev (n : Nat) (x : Tb) (s : State) : (s.setTb n x).ev = s.ev := rfl
@[simp] theorem State.setTb_audit (n : Nat) (x : Tb) (s : State) : (s.setTb n x).audit = s.audit := rfl
@[simp] theorem State.setTb_rcd (n : Nat) (x : Tb) (s : State) : (s.setTb n x).rcd = s.rcd := rfl
@[simp] theorem State.setTb_ports (n : Nat) (x : Tb) (s : State) : (s.setTb n x).ports = s.ports := rfl
@[simp] theorem State.setTb_dtHi (n : Nat) (x : Tb) (s : State) : (s.setTb n x).dtHi = s.dtHi := rfl
@[simp] theorem State.setTb_lastReq (n : Nat) (x : Tb) (s : State) : (s.setTb n x).lastReq = s.lastReq := rfl
@[simp] theorem State.setTb_sessions (n : Nat) (x : Tb) (s : State) : (s.setTb n x).sessions = s.sessions := rfl
@[simp] theorem State.setTb_lockouts (n : Nat) (x : Tb) (s : State) : (s.setTb n x).lockouts = s.lockouts := rfl
@[simp] theorem State.setTb_service (n : Nat) (x : Tb) (s : State) : (s.setTb n x).service = s.service := rfl
@[simp] theorem State.setTb_preDue (n : Nat) (x : Tb) (s : State) : (s.setTb n x).preDue = s.preDue := rfl
@[simp] theorem State.setTb_key (n : Nat) (x : Tb) (s : State) : (s.setTb n x).key = s.key := rfl
@[simp] theorem State.setTb_plant (n : Nat) (x : Tb) (s : State) : (s.setTb n x).plant = s.plant := rfl
@[simp] theorem State.setTb_isl (n : Nat) (x : Tb) (s : State) : (s.setTb n x).isl = s.isl := rfl
@[simp] theorem State.setTb_sel (n : Nat) (x : Tb) (s : State) : (s.setTb n x).sel = s.sel := rfl
@[simp] theorem State.setTb_conv (n : Nat) (x : Tb) (s : State) : (s.setTb n x).conv = s.conv := rfl
@[simp] theorem State.setTb_unit (n : Nat) (x : Tb) (s : State) : (s.setTb n x).unit = s.unit := rfl
@[simp] theorem State.setTb_trips (n : Nat) (x : Tb) (s : State) : (s.setTb n x).trips = s.trips := rfl
@[simp] theorem State.setTb_discharging (n : Nat) (x : Tb) (s : State) : (s.setTb n x).discharging = s.discharging := rfl
@[simp] theorem State.setTb_meas (n : Nat) (x : Tb) (s : State) : (s.setTb n x).meas = s.meas := rfl
@[simp] theorem State.setTb_eng (n : Nat) (x : Tb) (s : State) : (s.setTb n x).eng = s.eng := rfl
@[simp] theorem State.setTb_trx (n : Nat) (x : Tb) (s : State) : (s.setTb n x).trx = s.trx := rfl
@[simp] theorem State.setTb_pilot (n : Nat) (x : Tb) (s : State) : (s.setTb n x).pilot = s.pilot := rfl
@[simp] theorem State.setTb_dcl (n : Nat) (x : Tb) (s : State) : (s.setTb n x).dcl = s.dcl := rfl
@[simp] theorem State.setTb_chg (n : Nat) (x : Tb) (s : State) : (s.setTb n x).chg = s.chg := rfl
@[simp] theorem State.setTb_pairUse (n : Nat) (x : Tb) (s : State) : (s.setTb n x).pairUse = s.pairUse := rfl
@[simp] theorem State.setTb_act (n : Nat) (x : Tb) (s : State) : (s.setTb n x).act = s.act := rfl
@[simp] theorem State.setTb_lvEnd (n : Nat) (x : Tb) (s : State) : (s.setTb n x).lvEnd = s.lvEnd := rfl
@[simp] theorem State.setTb_life (n : Nat) (x : Tb) (s : State) : (s.setTb n x).life = s.life := rfl
@[simp] theorem State.setTb_plc (n : Nat) (x : Tb) (s : State) : (s.setTb n x).plc = s.plc := rfl
@[simp] theorem State.setTb_sto (n : Nat) (x : Tb) (s : State) : (s.setTb n x).sto = s.sto := rfl
@[simp] theorem State.setTb_upd (n : Nat) (x : Tb) (s : State) : (s.setTb n x).upd = s.upd := rfl
@[simp] theorem State.setTb_glove (n : Nat) (x : Tb) (s : State) : (s.setTb n x).glove = s.glove := rfl
@[simp] theorem State.setTb_can (n : Nat) (x : Tb) (s : State) : (s.setTb n x).can = s.can := rfl
@[simp] theorem State.setTb_pair (n : Nat) (x : Tb) (s : State) : (s.setTb n x).pair = s.pair := rfl
@[simp] theorem State.setTb_stoHigh (n : Nat) (x : Tb) (s : State) : (s.setTb n x).stoHigh = s.stoHigh := rfl
@[simp] theorem State.setTb_stoTold (n : Nat) (x : Tb) (s : State) : (s.setTb n x).stoTold = s.stoTold := rfl
@[simp] theorem State.setTb_extest (n : Nat) (x : Tb) (s : State) : (s.setTb n x).extest = s.extest := rfl
@[simp] theorem State.setAdc_pending (n : Nat) (x : Adc) (s : State) : (s.setAdc n x).pending = s.pending := rfl
@[simp] theorem State.setAdc_dt (n : Nat) (x : Adc) (s : State) : (s.setAdc n x).dt = s.dt := rfl
@[simp] theorem State.setAdc_el (n : Nat) (x : Adc) (s : State) : (s.setAdc n x).el = s.el := rfl
@[simp] theorem State.setAdc_regs (n : Nat) (x : Adc) (s : State) : (s.setAdc n x).regs = s.regs := rfl
@[simp] theorem State.setAdc_free (n : Nat) (x : Adc) (s : State) : (s.setAdc n x).free = s.free := rfl
@[simp] theorem State.setAdc_boot (n : Nat) (x : Adc) (s : State) : (s.setAdc n x).boot = s.boot := rfl
@[simp] theorem State.setAdc_trans (n : Nat) (x : Adc) (s : State) : (s.setAdc n x).trans = s.trans := rfl
@[simp] theorem State.setAdc_heldMode (n : Nat) (x : Adc) (s : State) : (s.setAdc n x).heldMode = s.heldMode := rfl
@[simp] theorem State.setAdc_heldFn (n : Nat) (x : Adc) (s : State) : (s.setAdc n x).heldFn = s.heldFn := rfl
@[simp] theorem State.setAdc_nfault (n : Nat) (x : Adc) (s : State) : (s.setAdc n x).nfault = s.nfault := rfl
@[simp] theorem State.setAdc_ev (n : Nat) (x : Adc) (s : State) : (s.setAdc n x).ev = s.ev := rfl
@[simp] theorem State.setAdc_audit (n : Nat) (x : Adc) (s : State) : (s.setAdc n x).audit = s.audit := rfl
@[simp] theorem State.setAdc_rcd (n : Nat) (x : Adc) (s : State) : (s.setAdc n x).rcd = s.rcd := rfl
@[simp] theorem State.setAdc_ports (n : Nat) (x : Adc) (s : State) : (s.setAdc n x).ports = s.ports := rfl
@[simp] theorem State.setAdc_dtHi (n : Nat) (x : Adc) (s : State) : (s.setAdc n x).dtHi = s.dtHi := rfl
@[simp] theorem State.setAdc_lastReq (n : Nat) (x : Adc) (s : State) : (s.setAdc n x).lastReq = s.lastReq := rfl
@[simp] theorem State.setAdc_sessions (n : Nat) (x : Adc) (s : State) : (s.setAdc n x).sessions = s.sessions := rfl
@[simp] theorem State.setAdc_lockouts (n : Nat) (x : Adc) (s : State) : (s.setAdc n x).lockouts = s.lockouts := rfl
@[simp] theorem State.setAdc_service (n : Nat) (x : Adc) (s : State) : (s.setAdc n x).service = s.service := rfl
@[simp] theorem State.setAdc_preDue (n : Nat) (x : Adc) (s : State) : (s.setAdc n x).preDue = s.preDue := rfl
@[simp] theorem State.setAdc_key (n : Nat) (x : Adc) (s : State) : (s.setAdc n x).key = s.key := rfl
@[simp] theorem State.setAdc_plant (n : Nat) (x : Adc) (s : State) : (s.setAdc n x).plant = s.plant := rfl
@[simp] theorem State.setAdc_isl (n : Nat) (x : Adc) (s : State) : (s.setAdc n x).isl = s.isl := rfl
@[simp] theorem State.setAdc_sel (n : Nat) (x : Adc) (s : State) : (s.setAdc n x).sel = s.sel := rfl
@[simp] theorem State.setAdc_conv (n : Nat) (x : Adc) (s : State) : (s.setAdc n x).conv = s.conv := rfl
@[simp] theorem State.setAdc_unit (n : Nat) (x : Adc) (s : State) : (s.setAdc n x).unit = s.unit := rfl
@[simp] theorem State.setAdc_tb (n : Nat) (x : Adc) (s : State) : (s.setAdc n x).tb = s.tb := rfl
@[simp] theorem State.setAdc_trips (n : Nat) (x : Adc) (s : State) : (s.setAdc n x).trips = s.trips := rfl
@[simp] theorem State.setAdc_discharging (n : Nat) (x : Adc) (s : State) : (s.setAdc n x).discharging = s.discharging := rfl
@[simp] theorem State.setAdc_eng (n : Nat) (x : Adc) (s : State) : (s.setAdc n x).eng = s.eng := rfl
@[simp] theorem State.setAdc_trx (n : Nat) (x : Adc) (s : State) : (s.setAdc n x).trx = s.trx := rfl
@[simp] theorem State.setAdc_pilot (n : Nat) (x : Adc) (s : State) : (s.setAdc n x).pilot = s.pilot := rfl
@[simp] theorem State.setAdc_dcl (n : Nat) (x : Adc) (s : State) : (s.setAdc n x).dcl = s.dcl := rfl
@[simp] theorem State.setAdc_chg (n : Nat) (x : Adc) (s : State) : (s.setAdc n x).chg = s.chg := rfl
@[simp] theorem State.setAdc_pairUse (n : Nat) (x : Adc) (s : State) : (s.setAdc n x).pairUse = s.pairUse := rfl
@[simp] theorem State.setAdc_act (n : Nat) (x : Adc) (s : State) : (s.setAdc n x).act = s.act := rfl
@[simp] theorem State.setAdc_lvEnd (n : Nat) (x : Adc) (s : State) : (s.setAdc n x).lvEnd = s.lvEnd := rfl
@[simp] theorem State.setAdc_life (n : Nat) (x : Adc) (s : State) : (s.setAdc n x).life = s.life := rfl
@[simp] theorem State.setAdc_plc (n : Nat) (x : Adc) (s : State) : (s.setAdc n x).plc = s.plc := rfl
@[simp] theorem State.setAdc_sto (n : Nat) (x : Adc) (s : State) : (s.setAdc n x).sto = s.sto := rfl
@[simp] theorem State.setAdc_upd (n : Nat) (x : Adc) (s : State) : (s.setAdc n x).upd = s.upd := rfl
@[simp] theorem State.setAdc_glove (n : Nat) (x : Adc) (s : State) : (s.setAdc n x).glove = s.glove := rfl
@[simp] theorem State.setAdc_can (n : Nat) (x : Adc) (s : State) : (s.setAdc n x).can = s.can := rfl
@[simp] theorem State.setAdc_pair (n : Nat) (x : Adc) (s : State) : (s.setAdc n x).pair = s.pair := rfl
@[simp] theorem State.setAdc_stoHigh (n : Nat) (x : Adc) (s : State) : (s.setAdc n x).stoHigh = s.stoHigh := rfl
@[simp] theorem State.setAdc_stoTold (n : Nat) (x : Adc) (s : State) : (s.setAdc n x).stoTold = s.stoTold := rfl
@[simp] theorem State.setAdc_extest (n : Nat) (x : Adc) (s : State) : (s.setAdc n x).extest = s.extest := rfl
@[simp] theorem State.setXf_pending (n : Nat) (x : Xf) (s : State) : (s.setXf n x).pending = s.pending := rfl
@[simp] theorem State.setXf_dt (n : Nat) (x : Xf) (s : State) : (s.setXf n x).dt = s.dt := rfl
@[simp] theorem State.setXf_el (n : Nat) (x : Xf) (s : State) : (s.setXf n x).el = s.el := rfl
@[simp] theorem State.setXf_regs (n : Nat) (x : Xf) (s : State) : (s.setXf n x).regs = s.regs := rfl
@[simp] theorem State.setXf_free (n : Nat) (x : Xf) (s : State) : (s.setXf n x).free = s.free := rfl
@[simp] theorem State.setXf_boot (n : Nat) (x : Xf) (s : State) : (s.setXf n x).boot = s.boot := rfl
@[simp] theorem State.setXf_trans (n : Nat) (x : Xf) (s : State) : (s.setXf n x).trans = s.trans := rfl
@[simp] theorem State.setXf_heldMode (n : Nat) (x : Xf) (s : State) : (s.setXf n x).heldMode = s.heldMode := rfl
@[simp] theorem State.setXf_heldFn (n : Nat) (x : Xf) (s : State) : (s.setXf n x).heldFn = s.heldFn := rfl
@[simp] theorem State.setXf_nfault (n : Nat) (x : Xf) (s : State) : (s.setXf n x).nfault = s.nfault := rfl
@[simp] theorem State.setXf_ev (n : Nat) (x : Xf) (s : State) : (s.setXf n x).ev = s.ev := rfl
@[simp] theorem State.setXf_audit (n : Nat) (x : Xf) (s : State) : (s.setXf n x).audit = s.audit := rfl
@[simp] theorem State.setXf_rcd (n : Nat) (x : Xf) (s : State) : (s.setXf n x).rcd = s.rcd := rfl
@[simp] theorem State.setXf_ports (n : Nat) (x : Xf) (s : State) : (s.setXf n x).ports = s.ports := rfl
@[simp] theorem State.setXf_dtHi (n : Nat) (x : Xf) (s : State) : (s.setXf n x).dtHi = s.dtHi := rfl
@[simp] theorem State.setXf_lastReq (n : Nat) (x : Xf) (s : State) : (s.setXf n x).lastReq = s.lastReq := rfl
@[simp] theorem State.setXf_sessions (n : Nat) (x : Xf) (s : State) : (s.setXf n x).sessions = s.sessions := rfl
@[simp] theorem State.setXf_lockouts (n : Nat) (x : Xf) (s : State) : (s.setXf n x).lockouts = s.lockouts := rfl
@[simp] theorem State.setXf_service (n : Nat) (x : Xf) (s : State) : (s.setXf n x).service = s.service := rfl
@[simp] theorem State.setXf_preDue (n : Nat) (x : Xf) (s : State) : (s.setXf n x).preDue = s.preDue := rfl
@[simp] theorem State.setXf_key (n : Nat) (x : Xf) (s : State) : (s.setXf n x).key = s.key := rfl
@[simp] theorem State.setXf_plant (n : Nat) (x : Xf) (s : State) : (s.setXf n x).plant = s.plant := rfl
@[simp] theorem State.setXf_isl (n : Nat) (x : Xf) (s : State) : (s.setXf n x).isl = s.isl := rfl
@[simp] theorem State.setXf_sel (n : Nat) (x : Xf) (s : State) : (s.setXf n x).sel = s.sel := rfl
@[simp] theorem State.setXf_conv (n : Nat) (x : Xf) (s : State) : (s.setXf n x).conv = s.conv := rfl
@[simp] theorem State.setXf_unit (n : Nat) (x : Xf) (s : State) : (s.setXf n x).unit = s.unit := rfl
@[simp] theorem State.setXf_tb (n : Nat) (x : Xf) (s : State) : (s.setXf n x).tb = s.tb := rfl
@[simp] theorem State.setXf_trips (n : Nat) (x : Xf) (s : State) : (s.setXf n x).trips = s.trips := rfl
@[simp] theorem State.setXf_discharging (n : Nat) (x : Xf) (s : State) : (s.setXf n x).discharging = s.discharging := rfl
@[simp] theorem State.setXf_eng (n : Nat) (x : Xf) (s : State) : (s.setXf n x).eng = s.eng := rfl
@[simp] theorem State.setXf_trx (n : Nat) (x : Xf) (s : State) : (s.setXf n x).trx = s.trx := rfl
@[simp] theorem State.setXf_pilot (n : Nat) (x : Xf) (s : State) : (s.setXf n x).pilot = s.pilot := rfl
@[simp] theorem State.setXf_dcl (n : Nat) (x : Xf) (s : State) : (s.setXf n x).dcl = s.dcl := rfl
@[simp] theorem State.setXf_chg (n : Nat) (x : Xf) (s : State) : (s.setXf n x).chg = s.chg := rfl
@[simp] theorem State.setXf_pairUse (n : Nat) (x : Xf) (s : State) : (s.setXf n x).pairUse = s.pairUse := rfl
@[simp] theorem State.setXf_act (n : Nat) (x : Xf) (s : State) : (s.setXf n x).act = s.act := rfl
@[simp] theorem State.setXf_lvEnd (n : Nat) (x : Xf) (s : State) : (s.setXf n x).lvEnd = s.lvEnd := rfl
@[simp] theorem State.setXf_life (n : Nat) (x : Xf) (s : State) : (s.setXf n x).life = s.life := rfl
@[simp] theorem State.setXf_plc (n : Nat) (x : Xf) (s : State) : (s.setXf n x).plc = s.plc := rfl
@[simp] theorem State.setXf_sto (n : Nat) (x : Xf) (s : State) : (s.setXf n x).sto = s.sto := rfl
@[simp] theorem State.setXf_upd (n : Nat) (x : Xf) (s : State) : (s.setXf n x).upd = s.upd := rfl
@[simp] theorem State.setXf_glove (n : Nat) (x : Xf) (s : State) : (s.setXf n x).glove = s.glove := rfl
@[simp] theorem State.setXf_can (n : Nat) (x : Xf) (s : State) : (s.setXf n x).can = s.can := rfl
@[simp] theorem State.setXf_pair (n : Nat) (x : Xf) (s : State) : (s.setXf n x).pair = s.pair := rfl
@[simp] theorem State.setXf_stoHigh (n : Nat) (x : Xf) (s : State) : (s.setXf n x).stoHigh = s.stoHigh := rfl
@[simp] theorem State.setXf_stoTold (n : Nat) (x : Xf) (s : State) : (s.setXf n x).stoTold = s.stoTold := rfl
@[simp] theorem State.setXf_extest (n : Nat) (x : Xf) (s : State) : (s.setXf n x).extest = s.extest := rfl
@[simp] theorem State.setQue_pending (n : Nat) (x : Que) (s : State) : (s.setQue n x).pending = s.pending := rfl
@[simp] theorem State.setQue_dt (n : Nat) (x : Que) (s : State) : (s.setQue n x).dt = s.dt := rfl
@[simp] theorem State.setQue_el (n : Nat) (x : Que) (s : State) : (s.setQue n x).el = s.el := rfl
@[simp] theorem State.setQue_regs (n : Nat) (x : Que) (s : State) : (s.setQue n x).regs = s.regs := rfl
@[simp] theorem State.setQue_free (n : Nat) (x : Que) (s : State) : (s.setQue n x).free = s.free := rfl
@[simp] theorem State.setQue_boot (n : Nat) (x : Que) (s : State) : (s.setQue n x).boot = s.boot := rfl
@[simp] theorem State.setQue_trans (n : Nat) (x : Que) (s : State) : (s.setQue n x).trans = s.trans := rfl
@[simp] theorem State.setQue_heldMode (n : Nat) (x : Que) (s : State) : (s.setQue n x).heldMode = s.heldMode := rfl
@[simp] theorem State.setQue_heldFn (n : Nat) (x : Que) (s : State) : (s.setQue n x).heldFn = s.heldFn := rfl
@[simp] theorem State.setQue_nfault (n : Nat) (x : Que) (s : State) : (s.setQue n x).nfault = s.nfault := rfl
@[simp] theorem State.setQue_ev (n : Nat) (x : Que) (s : State) : (s.setQue n x).ev = s.ev := rfl
@[simp] theorem State.setQue_audit (n : Nat) (x : Que) (s : State) : (s.setQue n x).audit = s.audit := rfl
@[simp] theorem State.setQue_rcd (n : Nat) (x : Que) (s : State) : (s.setQue n x).rcd = s.rcd := rfl
@[simp] theorem State.setQue_ports (n : Nat) (x : Que) (s : State) : (s.setQue n x).ports = s.ports := rfl
@[simp] theorem State.setQue_dtHi (n : Nat) (x : Que) (s : State) : (s.setQue n x).dtHi = s.dtHi := rfl
@[simp] theorem State.setQue_lastReq (n : Nat) (x : Que) (s : State) : (s.setQue n x).lastReq = s.lastReq := rfl
@[simp] theorem State.setQue_sessions (n : Nat) (x : Que) (s : State) : (s.setQue n x).sessions = s.sessions := rfl
@[simp] theorem State.setQue_lockouts (n : Nat) (x : Que) (s : State) : (s.setQue n x).lockouts = s.lockouts := rfl
@[simp] theorem State.setQue_service (n : Nat) (x : Que) (s : State) : (s.setQue n x).service = s.service := rfl
@[simp] theorem State.setQue_preDue (n : Nat) (x : Que) (s : State) : (s.setQue n x).preDue = s.preDue := rfl
@[simp] theorem State.setQue_key (n : Nat) (x : Que) (s : State) : (s.setQue n x).key = s.key := rfl
@[simp] theorem State.setQue_plant (n : Nat) (x : Que) (s : State) : (s.setQue n x).plant = s.plant := rfl
@[simp] theorem State.setQue_isl (n : Nat) (x : Que) (s : State) : (s.setQue n x).isl = s.isl := rfl
@[simp] theorem State.setQue_sel (n : Nat) (x : Que) (s : State) : (s.setQue n x).sel = s.sel := rfl
@[simp] theorem State.setQue_conv (n : Nat) (x : Que) (s : State) : (s.setQue n x).conv = s.conv := rfl
@[simp] theorem State.setQue_unit (n : Nat) (x : Que) (s : State) : (s.setQue n x).unit = s.unit := rfl
@[simp] theorem State.setQue_tb (n : Nat) (x : Que) (s : State) : (s.setQue n x).tb = s.tb := rfl
@[simp] theorem State.setQue_trips (n : Nat) (x : Que) (s : State) : (s.setQue n x).trips = s.trips := rfl
@[simp] theorem State.setQue_discharging (n : Nat) (x : Que) (s : State) : (s.setQue n x).discharging = s.discharging := rfl
@[simp] theorem State.setQue_eng (n : Nat) (x : Que) (s : State) : (s.setQue n x).eng = s.eng := rfl
@[simp] theorem State.setQue_trx (n : Nat) (x : Que) (s : State) : (s.setQue n x).trx = s.trx := rfl
@[simp] theorem State.setQue_pilot (n : Nat) (x : Que) (s : State) : (s.setQue n x).pilot = s.pilot := rfl
@[simp] theorem State.setQue_dcl (n : Nat) (x : Que) (s : State) : (s.setQue n x).dcl = s.dcl := rfl
@[simp] theorem State.setQue_chg (n : Nat) (x : Que) (s : State) : (s.setQue n x).chg = s.chg := rfl
@[simp] theorem State.setQue_pairUse (n : Nat) (x : Que) (s : State) : (s.setQue n x).pairUse = s.pairUse := rfl
@[simp] theorem State.setQue_act (n : Nat) (x : Que) (s : State) : (s.setQue n x).act = s.act := rfl
@[simp] theorem State.setQue_lvEnd (n : Nat) (x : Que) (s : State) : (s.setQue n x).lvEnd = s.lvEnd := rfl
@[simp] theorem State.setQue_life (n : Nat) (x : Que) (s : State) : (s.setQue n x).life = s.life := rfl
@[simp] theorem State.setQue_plc (n : Nat) (x : Que) (s : State) : (s.setQue n x).plc = s.plc := rfl
@[simp] theorem State.setQue_sto (n : Nat) (x : Que) (s : State) : (s.setQue n x).sto = s.sto := rfl
@[simp] theorem State.setQue_upd (n : Nat) (x : Que) (s : State) : (s.setQue n x).upd = s.upd := rfl
@[simp] theorem State.setQue_glove (n : Nat) (x : Que) (s : State) : (s.setQue n x).glove = s.glove := rfl
@[simp] theorem State.setQue_can (n : Nat) (x : Que) (s : State) : (s.setQue n x).can = s.can := rfl
@[simp] theorem State.setQue_pair (n : Nat) (x : Que) (s : State) : (s.setQue n x).pair = s.pair := rfl
@[simp] theorem State.setQue_stoHigh (n : Nat) (x : Que) (s : State) : (s.setQue n x).stoHigh = s.stoHigh := rfl
@[simp] theorem State.setQue_stoTold (n : Nat) (x : Que) (s : State) : (s.setQue n x).stoTold = s.stoTold := rfl
@[simp] theorem State.setQue_extest (n : Nat) (x : Que) (s : State) : (s.setQue n x).extest = s.extest := rfl
@[simp] theorem State.setSent_pending (n : Nat) (x : Sent) (s : State) : (s.setSent n x).pending = s.pending := rfl
@[simp] theorem State.setSent_dt (n : Nat) (x : Sent) (s : State) : (s.setSent n x).dt = s.dt := rfl
@[simp] theorem State.setSent_el (n : Nat) (x : Sent) (s : State) : (s.setSent n x).el = s.el := rfl
@[simp] theorem State.setSent_regs (n : Nat) (x : Sent) (s : State) : (s.setSent n x).regs = s.regs := rfl
@[simp] theorem State.setSent_free (n : Nat) (x : Sent) (s : State) : (s.setSent n x).free = s.free := rfl
@[simp] theorem State.setSent_boot (n : Nat) (x : Sent) (s : State) : (s.setSent n x).boot = s.boot := rfl
@[simp] theorem State.setSent_trans (n : Nat) (x : Sent) (s : State) : (s.setSent n x).trans = s.trans := rfl
@[simp] theorem State.setSent_heldMode (n : Nat) (x : Sent) (s : State) : (s.setSent n x).heldMode = s.heldMode := rfl
@[simp] theorem State.setSent_heldFn (n : Nat) (x : Sent) (s : State) : (s.setSent n x).heldFn = s.heldFn := rfl
@[simp] theorem State.setSent_nfault (n : Nat) (x : Sent) (s : State) : (s.setSent n x).nfault = s.nfault := rfl
@[simp] theorem State.setSent_ev (n : Nat) (x : Sent) (s : State) : (s.setSent n x).ev = s.ev := rfl
@[simp] theorem State.setSent_audit (n : Nat) (x : Sent) (s : State) : (s.setSent n x).audit = s.audit := rfl
@[simp] theorem State.setSent_rcd (n : Nat) (x : Sent) (s : State) : (s.setSent n x).rcd = s.rcd := rfl
@[simp] theorem State.setSent_ports (n : Nat) (x : Sent) (s : State) : (s.setSent n x).ports = s.ports := rfl
@[simp] theorem State.setSent_dtHi (n : Nat) (x : Sent) (s : State) : (s.setSent n x).dtHi = s.dtHi := rfl
@[simp] theorem State.setSent_lastReq (n : Nat) (x : Sent) (s : State) : (s.setSent n x).lastReq = s.lastReq := rfl
@[simp] theorem State.setSent_sessions (n : Nat) (x : Sent) (s : State) : (s.setSent n x).sessions = s.sessions := rfl
@[simp] theorem State.setSent_lockouts (n : Nat) (x : Sent) (s : State) : (s.setSent n x).lockouts = s.lockouts := rfl
@[simp] theorem State.setSent_service (n : Nat) (x : Sent) (s : State) : (s.setSent n x).service = s.service := rfl
@[simp] theorem State.setSent_preDue (n : Nat) (x : Sent) (s : State) : (s.setSent n x).preDue = s.preDue := rfl
@[simp] theorem State.setSent_key (n : Nat) (x : Sent) (s : State) : (s.setSent n x).key = s.key := rfl
@[simp] theorem State.setSent_plant (n : Nat) (x : Sent) (s : State) : (s.setSent n x).plant = s.plant := rfl
@[simp] theorem State.setSent_isl (n : Nat) (x : Sent) (s : State) : (s.setSent n x).isl = s.isl := rfl
@[simp] theorem State.setSent_sel (n : Nat) (x : Sent) (s : State) : (s.setSent n x).sel = s.sel := rfl
@[simp] theorem State.setSent_conv (n : Nat) (x : Sent) (s : State) : (s.setSent n x).conv = s.conv := rfl
@[simp] theorem State.setSent_unit (n : Nat) (x : Sent) (s : State) : (s.setSent n x).unit = s.unit := rfl
@[simp] theorem State.setSent_tb (n : Nat) (x : Sent) (s : State) : (s.setSent n x).tb = s.tb := rfl
@[simp] theorem State.setSent_trips (n : Nat) (x : Sent) (s : State) : (s.setSent n x).trips = s.trips := rfl
@[simp] theorem State.setSent_discharging (n : Nat) (x : Sent) (s : State) : (s.setSent n x).discharging = s.discharging := rfl
@[simp] theorem State.setSent_eng (n : Nat) (x : Sent) (s : State) : (s.setSent n x).eng = s.eng := rfl
@[simp] theorem State.setSent_trx (n : Nat) (x : Sent) (s : State) : (s.setSent n x).trx = s.trx := rfl
@[simp] theorem State.setSent_pilot (n : Nat) (x : Sent) (s : State) : (s.setSent n x).pilot = s.pilot := rfl
@[simp] theorem State.setSent_dcl (n : Nat) (x : Sent) (s : State) : (s.setSent n x).dcl = s.dcl := rfl
@[simp] theorem State.setSent_chg (n : Nat) (x : Sent) (s : State) : (s.setSent n x).chg = s.chg := rfl
@[simp] theorem State.setSent_pairUse (n : Nat) (x : Sent) (s : State) : (s.setSent n x).pairUse = s.pairUse := rfl
@[simp] theorem State.setSent_act (n : Nat) (x : Sent) (s : State) : (s.setSent n x).act = s.act := rfl
@[simp] theorem State.setSent_lvEnd (n : Nat) (x : Sent) (s : State) : (s.setSent n x).lvEnd = s.lvEnd := rfl
@[simp] theorem State.setSent_life (n : Nat) (x : Sent) (s : State) : (s.setSent n x).life = s.life := rfl
@[simp] theorem State.setSent_plc (n : Nat) (x : Sent) (s : State) : (s.setSent n x).plc = s.plc := rfl
@[simp] theorem State.setSent_sto (n : Nat) (x : Sent) (s : State) : (s.setSent n x).sto = s.sto := rfl
@[simp] theorem State.setSent_upd (n : Nat) (x : Sent) (s : State) : (s.setSent n x).upd = s.upd := rfl
@[simp] theorem State.setSent_glove (n : Nat) (x : Sent) (s : State) : (s.setSent n x).glove = s.glove := rfl
@[simp] theorem State.setSent_can (n : Nat) (x : Sent) (s : State) : (s.setSent n x).can = s.can := rfl
@[simp] theorem State.setSent_pair (n : Nat) (x : Sent) (s : State) : (s.setSent n x).pair = s.pair := rfl
@[simp] theorem State.setSent_stoHigh (n : Nat) (x : Sent) (s : State) : (s.setSent n x).stoHigh = s.stoHigh := rfl
@[simp] theorem State.setSent_stoTold (n : Nat) (x : Sent) (s : State) : (s.setSent n x).stoTold = s.stoTold := rfl
@[simp] theorem State.setSent_extest (n : Nat) (x : Sent) (s : State) : (s.setSent n x).extest = s.extest := rfl
@[simp] theorem State.setGraph_pending (n : Nat) (x : Graph) (s : State) : (s.setGraph n x).pending = s.pending := rfl
@[simp] theorem State.setGraph_dt (n : Nat) (x : Graph) (s : State) : (s.setGraph n x).dt = s.dt := rfl
@[simp] theorem State.setGraph_el (n : Nat) (x : Graph) (s : State) : (s.setGraph n x).el = s.el := rfl
@[simp] theorem State.setGraph_regs (n : Nat) (x : Graph) (s : State) : (s.setGraph n x).regs = s.regs := rfl
@[simp] theorem State.setGraph_free (n : Nat) (x : Graph) (s : State) : (s.setGraph n x).free = s.free := rfl
@[simp] theorem State.setGraph_boot (n : Nat) (x : Graph) (s : State) : (s.setGraph n x).boot = s.boot := rfl
@[simp] theorem State.setGraph_trans (n : Nat) (x : Graph) (s : State) : (s.setGraph n x).trans = s.trans := rfl
@[simp] theorem State.setGraph_heldMode (n : Nat) (x : Graph) (s : State) : (s.setGraph n x).heldMode = s.heldMode := rfl
@[simp] theorem State.setGraph_heldFn (n : Nat) (x : Graph) (s : State) : (s.setGraph n x).heldFn = s.heldFn := rfl
@[simp] theorem State.setGraph_nfault (n : Nat) (x : Graph) (s : State) : (s.setGraph n x).nfault = s.nfault := rfl
@[simp] theorem State.setGraph_ev (n : Nat) (x : Graph) (s : State) : (s.setGraph n x).ev = s.ev := rfl
@[simp] theorem State.setGraph_audit (n : Nat) (x : Graph) (s : State) : (s.setGraph n x).audit = s.audit := rfl
@[simp] theorem State.setGraph_rcd (n : Nat) (x : Graph) (s : State) : (s.setGraph n x).rcd = s.rcd := rfl
@[simp] theorem State.setGraph_ports (n : Nat) (x : Graph) (s : State) : (s.setGraph n x).ports = s.ports := rfl
@[simp] theorem State.setGraph_dtHi (n : Nat) (x : Graph) (s : State) : (s.setGraph n x).dtHi = s.dtHi := rfl
@[simp] theorem State.setGraph_lastReq (n : Nat) (x : Graph) (s : State) : (s.setGraph n x).lastReq = s.lastReq := rfl
@[simp] theorem State.setGraph_sessions (n : Nat) (x : Graph) (s : State) : (s.setGraph n x).sessions = s.sessions := rfl
@[simp] theorem State.setGraph_lockouts (n : Nat) (x : Graph) (s : State) : (s.setGraph n x).lockouts = s.lockouts := rfl
@[simp] theorem State.setGraph_service (n : Nat) (x : Graph) (s : State) : (s.setGraph n x).service = s.service := rfl
@[simp] theorem State.setGraph_preDue (n : Nat) (x : Graph) (s : State) : (s.setGraph n x).preDue = s.preDue := rfl
@[simp] theorem State.setGraph_key (n : Nat) (x : Graph) (s : State) : (s.setGraph n x).key = s.key := rfl
@[simp] theorem State.setGraph_plant (n : Nat) (x : Graph) (s : State) : (s.setGraph n x).plant = s.plant := rfl
@[simp] theorem State.setGraph_isl (n : Nat) (x : Graph) (s : State) : (s.setGraph n x).isl = s.isl := rfl
@[simp] theorem State.setGraph_sel (n : Nat) (x : Graph) (s : State) : (s.setGraph n x).sel = s.sel := rfl
@[simp] theorem State.setGraph_conv (n : Nat) (x : Graph) (s : State) : (s.setGraph n x).conv = s.conv := rfl
@[simp] theorem State.setGraph_unit (n : Nat) (x : Graph) (s : State) : (s.setGraph n x).unit = s.unit := rfl
@[simp] theorem State.setGraph_tb (n : Nat) (x : Graph) (s : State) : (s.setGraph n x).tb = s.tb := rfl
@[simp] theorem State.setGraph_trips (n : Nat) (x : Graph) (s : State) : (s.setGraph n x).trips = s.trips := rfl
@[simp] theorem State.setGraph_discharging (n : Nat) (x : Graph) (s : State) : (s.setGraph n x).discharging = s.discharging := rfl
@[simp] theorem State.setGraph_meas (n : Nat) (x : Graph) (s : State) : (s.setGraph n x).meas = s.meas := rfl
@[simp] theorem State.setGraph_trx (n : Nat) (x : Graph) (s : State) : (s.setGraph n x).trx = s.trx := rfl
@[simp] theorem State.setGraph_pilot (n : Nat) (x : Graph) (s : State) : (s.setGraph n x).pilot = s.pilot := rfl
@[simp] theorem State.setGraph_dcl (n : Nat) (x : Graph) (s : State) : (s.setGraph n x).dcl = s.dcl := rfl
@[simp] theorem State.setGraph_chg (n : Nat) (x : Graph) (s : State) : (s.setGraph n x).chg = s.chg := rfl
@[simp] theorem State.setGraph_pairUse (n : Nat) (x : Graph) (s : State) : (s.setGraph n x).pairUse = s.pairUse := rfl
@[simp] theorem State.setGraph_act (n : Nat) (x : Graph) (s : State) : (s.setGraph n x).act = s.act := rfl
@[simp] theorem State.setGraph_lvEnd (n : Nat) (x : Graph) (s : State) : (s.setGraph n x).lvEnd = s.lvEnd := rfl
@[simp] theorem State.setGraph_life (n : Nat) (x : Graph) (s : State) : (s.setGraph n x).life = s.life := rfl
@[simp] theorem State.setGraph_plc (n : Nat) (x : Graph) (s : State) : (s.setGraph n x).plc = s.plc := rfl
@[simp] theorem State.setGraph_sto (n : Nat) (x : Graph) (s : State) : (s.setGraph n x).sto = s.sto := rfl
@[simp] theorem State.setGraph_upd (n : Nat) (x : Graph) (s : State) : (s.setGraph n x).upd = s.upd := rfl
@[simp] theorem State.setGraph_glove (n : Nat) (x : Graph) (s : State) : (s.setGraph n x).glove = s.glove := rfl
@[simp] theorem State.setGraph_can (n : Nat) (x : Graph) (s : State) : (s.setGraph n x).can = s.can := rfl
@[simp] theorem State.setGraph_pair (n : Nat) (x : Graph) (s : State) : (s.setGraph n x).pair = s.pair := rfl
@[simp] theorem State.setGraph_stoHigh (n : Nat) (x : Graph) (s : State) : (s.setGraph n x).stoHigh = s.stoHigh := rfl
@[simp] theorem State.setGraph_stoTold (n : Nat) (x : Graph) (s : State) : (s.setGraph n x).stoTold = s.stoTold := rfl
@[simp] theorem State.setGraph_extest (n : Nat) (x : Graph) (s : State) : (s.setGraph n x).extest = s.extest := rfl
@[simp] theorem State.setHand_pending (n : Nat) (x : Hand) (s : State) : (s.setHand n x).pending = s.pending := rfl
@[simp] theorem State.setHand_dt (n : Nat) (x : Hand) (s : State) : (s.setHand n x).dt = s.dt := rfl
@[simp] theorem State.setHand_el (n : Nat) (x : Hand) (s : State) : (s.setHand n x).el = s.el := rfl
@[simp] theorem State.setHand_regs (n : Nat) (x : Hand) (s : State) : (s.setHand n x).regs = s.regs := rfl
@[simp] theorem State.setHand_free (n : Nat) (x : Hand) (s : State) : (s.setHand n x).free = s.free := rfl
@[simp] theorem State.setHand_boot (n : Nat) (x : Hand) (s : State) : (s.setHand n x).boot = s.boot := rfl
@[simp] theorem State.setHand_trans (n : Nat) (x : Hand) (s : State) : (s.setHand n x).trans = s.trans := rfl
@[simp] theorem State.setHand_heldMode (n : Nat) (x : Hand) (s : State) : (s.setHand n x).heldMode = s.heldMode := rfl
@[simp] theorem State.setHand_heldFn (n : Nat) (x : Hand) (s : State) : (s.setHand n x).heldFn = s.heldFn := rfl
@[simp] theorem State.setHand_nfault (n : Nat) (x : Hand) (s : State) : (s.setHand n x).nfault = s.nfault := rfl
@[simp] theorem State.setHand_ev (n : Nat) (x : Hand) (s : State) : (s.setHand n x).ev = s.ev := rfl
@[simp] theorem State.setHand_audit (n : Nat) (x : Hand) (s : State) : (s.setHand n x).audit = s.audit := rfl
@[simp] theorem State.setHand_rcd (n : Nat) (x : Hand) (s : State) : (s.setHand n x).rcd = s.rcd := rfl
@[simp] theorem State.setHand_ports (n : Nat) (x : Hand) (s : State) : (s.setHand n x).ports = s.ports := rfl
@[simp] theorem State.setHand_dtHi (n : Nat) (x : Hand) (s : State) : (s.setHand n x).dtHi = s.dtHi := rfl
@[simp] theorem State.setHand_lastReq (n : Nat) (x : Hand) (s : State) : (s.setHand n x).lastReq = s.lastReq := rfl
@[simp] theorem State.setHand_sessions (n : Nat) (x : Hand) (s : State) : (s.setHand n x).sessions = s.sessions := rfl
@[simp] theorem State.setHand_lockouts (n : Nat) (x : Hand) (s : State) : (s.setHand n x).lockouts = s.lockouts := rfl
@[simp] theorem State.setHand_service (n : Nat) (x : Hand) (s : State) : (s.setHand n x).service = s.service := rfl
@[simp] theorem State.setHand_preDue (n : Nat) (x : Hand) (s : State) : (s.setHand n x).preDue = s.preDue := rfl
@[simp] theorem State.setHand_key (n : Nat) (x : Hand) (s : State) : (s.setHand n x).key = s.key := rfl
@[simp] theorem State.setHand_plant (n : Nat) (x : Hand) (s : State) : (s.setHand n x).plant = s.plant := rfl
@[simp] theorem State.setHand_isl (n : Nat) (x : Hand) (s : State) : (s.setHand n x).isl = s.isl := rfl
@[simp] theorem State.setHand_sel (n : Nat) (x : Hand) (s : State) : (s.setHand n x).sel = s.sel := rfl
@[simp] theorem State.setHand_conv (n : Nat) (x : Hand) (s : State) : (s.setHand n x).conv = s.conv := rfl
@[simp] theorem State.setHand_unit (n : Nat) (x : Hand) (s : State) : (s.setHand n x).unit = s.unit := rfl
@[simp] theorem State.setHand_tb (n : Nat) (x : Hand) (s : State) : (s.setHand n x).tb = s.tb := rfl
@[simp] theorem State.setHand_trips (n : Nat) (x : Hand) (s : State) : (s.setHand n x).trips = s.trips := rfl
@[simp] theorem State.setHand_discharging (n : Nat) (x : Hand) (s : State) : (s.setHand n x).discharging = s.discharging := rfl
@[simp] theorem State.setHand_meas (n : Nat) (x : Hand) (s : State) : (s.setHand n x).meas = s.meas := rfl
@[simp] theorem State.setHand_trx (n : Nat) (x : Hand) (s : State) : (s.setHand n x).trx = s.trx := rfl
@[simp] theorem State.setHand_pilot (n : Nat) (x : Hand) (s : State) : (s.setHand n x).pilot = s.pilot := rfl
@[simp] theorem State.setHand_dcl (n : Nat) (x : Hand) (s : State) : (s.setHand n x).dcl = s.dcl := rfl
@[simp] theorem State.setHand_chg (n : Nat) (x : Hand) (s : State) : (s.setHand n x).chg = s.chg := rfl
@[simp] theorem State.setHand_pairUse (n : Nat) (x : Hand) (s : State) : (s.setHand n x).pairUse = s.pairUse := rfl
@[simp] theorem State.setHand_act (n : Nat) (x : Hand) (s : State) : (s.setHand n x).act = s.act := rfl
@[simp] theorem State.setHand_lvEnd (n : Nat) (x : Hand) (s : State) : (s.setHand n x).lvEnd = s.lvEnd := rfl
@[simp] theorem State.setHand_life (n : Nat) (x : Hand) (s : State) : (s.setHand n x).life = s.life := rfl
@[simp] theorem State.setHand_plc (n : Nat) (x : Hand) (s : State) : (s.setHand n x).plc = s.plc := rfl
@[simp] theorem State.setHand_sto (n : Nat) (x : Hand) (s : State) : (s.setHand n x).sto = s.sto := rfl
@[simp] theorem State.setHand_upd (n : Nat) (x : Hand) (s : State) : (s.setHand n x).upd = s.upd := rfl
@[simp] theorem State.setHand_glove (n : Nat) (x : Hand) (s : State) : (s.setHand n x).glove = s.glove := rfl
@[simp] theorem State.setHand_can (n : Nat) (x : Hand) (s : State) : (s.setHand n x).can = s.can := rfl
@[simp] theorem State.setHand_pair (n : Nat) (x : Hand) (s : State) : (s.setHand n x).pair = s.pair := rfl
@[simp] theorem State.setHand_stoHigh (n : Nat) (x : Hand) (s : State) : (s.setHand n x).stoHigh = s.stoHigh := rfl
@[simp] theorem State.setHand_stoTold (n : Nat) (x : Hand) (s : State) : (s.setHand n x).stoTold = s.stoTold := rfl
@[simp] theorem State.setHand_extest (n : Nat) (x : Hand) (s : State) : (s.setHand n x).extest = s.extest := rfl
@[simp] theorem State.setSp_pending (n : Nat) (x : Reg) (s : State) : (s.setSp n x).pending = s.pending := rfl
@[simp] theorem State.setSp_dt (n : Nat) (x : Reg) (s : State) : (s.setSp n x).dt = s.dt := rfl
@[simp] theorem State.setSp_el (n : Nat) (x : Reg) (s : State) : (s.setSp n x).el = s.el := rfl
@[simp] theorem State.setSp_regs (n : Nat) (x : Reg) (s : State) : (s.setSp n x).regs = s.regs := rfl
@[simp] theorem State.setSp_free (n : Nat) (x : Reg) (s : State) : (s.setSp n x).free = s.free := rfl
@[simp] theorem State.setSp_boot (n : Nat) (x : Reg) (s : State) : (s.setSp n x).boot = s.boot := rfl
@[simp] theorem State.setSp_trans (n : Nat) (x : Reg) (s : State) : (s.setSp n x).trans = s.trans := rfl
@[simp] theorem State.setSp_heldMode (n : Nat) (x : Reg) (s : State) : (s.setSp n x).heldMode = s.heldMode := rfl
@[simp] theorem State.setSp_heldFn (n : Nat) (x : Reg) (s : State) : (s.setSp n x).heldFn = s.heldFn := rfl
@[simp] theorem State.setSp_nfault (n : Nat) (x : Reg) (s : State) : (s.setSp n x).nfault = s.nfault := rfl
@[simp] theorem State.setSp_ev (n : Nat) (x : Reg) (s : State) : (s.setSp n x).ev = s.ev := rfl
@[simp] theorem State.setSp_audit (n : Nat) (x : Reg) (s : State) : (s.setSp n x).audit = s.audit := rfl
@[simp] theorem State.setSp_rcd (n : Nat) (x : Reg) (s : State) : (s.setSp n x).rcd = s.rcd := rfl
@[simp] theorem State.setSp_ports (n : Nat) (x : Reg) (s : State) : (s.setSp n x).ports = s.ports := rfl
@[simp] theorem State.setSp_dtHi (n : Nat) (x : Reg) (s : State) : (s.setSp n x).dtHi = s.dtHi := rfl
@[simp] theorem State.setSp_lastReq (n : Nat) (x : Reg) (s : State) : (s.setSp n x).lastReq = s.lastReq := rfl
@[simp] theorem State.setSp_sessions (n : Nat) (x : Reg) (s : State) : (s.setSp n x).sessions = s.sessions := rfl
@[simp] theorem State.setSp_lockouts (n : Nat) (x : Reg) (s : State) : (s.setSp n x).lockouts = s.lockouts := rfl
@[simp] theorem State.setSp_service (n : Nat) (x : Reg) (s : State) : (s.setSp n x).service = s.service := rfl
@[simp] theorem State.setSp_preDue (n : Nat) (x : Reg) (s : State) : (s.setSp n x).preDue = s.preDue := rfl
@[simp] theorem State.setSp_key (n : Nat) (x : Reg) (s : State) : (s.setSp n x).key = s.key := rfl
@[simp] theorem State.setSp_plant (n : Nat) (x : Reg) (s : State) : (s.setSp n x).plant = s.plant := rfl
@[simp] theorem State.setSp_isl (n : Nat) (x : Reg) (s : State) : (s.setSp n x).isl = s.isl := rfl
@[simp] theorem State.setSp_sel (n : Nat) (x : Reg) (s : State) : (s.setSp n x).sel = s.sel := rfl
@[simp] theorem State.setSp_conv (n : Nat) (x : Reg) (s : State) : (s.setSp n x).conv = s.conv := rfl
@[simp] theorem State.setSp_unit (n : Nat) (x : Reg) (s : State) : (s.setSp n x).unit = s.unit := rfl
@[simp] theorem State.setSp_tb (n : Nat) (x : Reg) (s : State) : (s.setSp n x).tb = s.tb := rfl
@[simp] theorem State.setSp_trips (n : Nat) (x : Reg) (s : State) : (s.setSp n x).trips = s.trips := rfl
@[simp] theorem State.setSp_discharging (n : Nat) (x : Reg) (s : State) : (s.setSp n x).discharging = s.discharging := rfl
@[simp] theorem State.setSp_meas (n : Nat) (x : Reg) (s : State) : (s.setSp n x).meas = s.meas := rfl
@[simp] theorem State.setSp_trx (n : Nat) (x : Reg) (s : State) : (s.setSp n x).trx = s.trx := rfl
@[simp] theorem State.setSp_pilot (n : Nat) (x : Reg) (s : State) : (s.setSp n x).pilot = s.pilot := rfl
@[simp] theorem State.setSp_dcl (n : Nat) (x : Reg) (s : State) : (s.setSp n x).dcl = s.dcl := rfl
@[simp] theorem State.setSp_chg (n : Nat) (x : Reg) (s : State) : (s.setSp n x).chg = s.chg := rfl
@[simp] theorem State.setSp_pairUse (n : Nat) (x : Reg) (s : State) : (s.setSp n x).pairUse = s.pairUse := rfl
@[simp] theorem State.setSp_act (n : Nat) (x : Reg) (s : State) : (s.setSp n x).act = s.act := rfl
@[simp] theorem State.setSp_lvEnd (n : Nat) (x : Reg) (s : State) : (s.setSp n x).lvEnd = s.lvEnd := rfl
@[simp] theorem State.setSp_life (n : Nat) (x : Reg) (s : State) : (s.setSp n x).life = s.life := rfl
@[simp] theorem State.setSp_plc (n : Nat) (x : Reg) (s : State) : (s.setSp n x).plc = s.plc := rfl
@[simp] theorem State.setSp_sto (n : Nat) (x : Reg) (s : State) : (s.setSp n x).sto = s.sto := rfl
@[simp] theorem State.setSp_upd (n : Nat) (x : Reg) (s : State) : (s.setSp n x).upd = s.upd := rfl
@[simp] theorem State.setSp_glove (n : Nat) (x : Reg) (s : State) : (s.setSp n x).glove = s.glove := rfl
@[simp] theorem State.setSp_can (n : Nat) (x : Reg) (s : State) : (s.setSp n x).can = s.can := rfl
@[simp] theorem State.setSp_pair (n : Nat) (x : Reg) (s : State) : (s.setSp n x).pair = s.pair := rfl
@[simp] theorem State.setSp_stoHigh (n : Nat) (x : Reg) (s : State) : (s.setSp n x).stoHigh = s.stoHigh := rfl
@[simp] theorem State.setSp_stoTold (n : Nat) (x : Reg) (s : State) : (s.setSp n x).stoTold = s.stoTold := rfl
@[simp] theorem State.setSp_extest (n : Nat) (x : Reg) (s : State) : (s.setSp n x).extest = s.extest := rfl
@[simp] theorem State.setTrx_pending (n : Nat) (x : Trx) (s : State) : (s.setTrx n x).pending = s.pending := rfl
@[simp] theorem State.setTrx_dt (n : Nat) (x : Trx) (s : State) : (s.setTrx n x).dt = s.dt := rfl
@[simp] theorem State.setTrx_el (n : Nat) (x : Trx) (s : State) : (s.setTrx n x).el = s.el := rfl
@[simp] theorem State.setTrx_regs (n : Nat) (x : Trx) (s : State) : (s.setTrx n x).regs = s.regs := rfl
@[simp] theorem State.setTrx_free (n : Nat) (x : Trx) (s : State) : (s.setTrx n x).free = s.free := rfl
@[simp] theorem State.setTrx_boot (n : Nat) (x : Trx) (s : State) : (s.setTrx n x).boot = s.boot := rfl
@[simp] theorem State.setTrx_trans (n : Nat) (x : Trx) (s : State) : (s.setTrx n x).trans = s.trans := rfl
@[simp] theorem State.setTrx_heldMode (n : Nat) (x : Trx) (s : State) : (s.setTrx n x).heldMode = s.heldMode := rfl
@[simp] theorem State.setTrx_heldFn (n : Nat) (x : Trx) (s : State) : (s.setTrx n x).heldFn = s.heldFn := rfl
@[simp] theorem State.setTrx_nfault (n : Nat) (x : Trx) (s : State) : (s.setTrx n x).nfault = s.nfault := rfl
@[simp] theorem State.setTrx_ev (n : Nat) (x : Trx) (s : State) : (s.setTrx n x).ev = s.ev := rfl
@[simp] theorem State.setTrx_audit (n : Nat) (x : Trx) (s : State) : (s.setTrx n x).audit = s.audit := rfl
@[simp] theorem State.setTrx_rcd (n : Nat) (x : Trx) (s : State) : (s.setTrx n x).rcd = s.rcd := rfl
@[simp] theorem State.setTrx_ports (n : Nat) (x : Trx) (s : State) : (s.setTrx n x).ports = s.ports := rfl
@[simp] theorem State.setTrx_dtHi (n : Nat) (x : Trx) (s : State) : (s.setTrx n x).dtHi = s.dtHi := rfl
@[simp] theorem State.setTrx_lastReq (n : Nat) (x : Trx) (s : State) : (s.setTrx n x).lastReq = s.lastReq := rfl
@[simp] theorem State.setTrx_sessions (n : Nat) (x : Trx) (s : State) : (s.setTrx n x).sessions = s.sessions := rfl
@[simp] theorem State.setTrx_lockouts (n : Nat) (x : Trx) (s : State) : (s.setTrx n x).lockouts = s.lockouts := rfl
@[simp] theorem State.setTrx_service (n : Nat) (x : Trx) (s : State) : (s.setTrx n x).service = s.service := rfl
@[simp] theorem State.setTrx_preDue (n : Nat) (x : Trx) (s : State) : (s.setTrx n x).preDue = s.preDue := rfl
@[simp] theorem State.setTrx_key (n : Nat) (x : Trx) (s : State) : (s.setTrx n x).key = s.key := rfl
@[simp] theorem State.setTrx_plant (n : Nat) (x : Trx) (s : State) : (s.setTrx n x).plant = s.plant := rfl
@[simp] theorem State.setTrx_isl (n : Nat) (x : Trx) (s : State) : (s.setTrx n x).isl = s.isl := rfl
@[simp] theorem State.setTrx_sel (n : Nat) (x : Trx) (s : State) : (s.setTrx n x).sel = s.sel := rfl
@[simp] theorem State.setTrx_conv (n : Nat) (x : Trx) (s : State) : (s.setTrx n x).conv = s.conv := rfl
@[simp] theorem State.setTrx_unit (n : Nat) (x : Trx) (s : State) : (s.setTrx n x).unit = s.unit := rfl
@[simp] theorem State.setTrx_tb (n : Nat) (x : Trx) (s : State) : (s.setTrx n x).tb = s.tb := rfl
@[simp] theorem State.setTrx_trips (n : Nat) (x : Trx) (s : State) : (s.setTrx n x).trips = s.trips := rfl
@[simp] theorem State.setTrx_discharging (n : Nat) (x : Trx) (s : State) : (s.setTrx n x).discharging = s.discharging := rfl
@[simp] theorem State.setTrx_meas (n : Nat) (x : Trx) (s : State) : (s.setTrx n x).meas = s.meas := rfl
@[simp] theorem State.setTrx_eng (n : Nat) (x : Trx) (s : State) : (s.setTrx n x).eng = s.eng := rfl
@[simp] theorem State.setTrx_pilot (n : Nat) (x : Trx) (s : State) : (s.setTrx n x).pilot = s.pilot := rfl
@[simp] theorem State.setTrx_dcl (n : Nat) (x : Trx) (s : State) : (s.setTrx n x).dcl = s.dcl := rfl
@[simp] theorem State.setTrx_chg (n : Nat) (x : Trx) (s : State) : (s.setTrx n x).chg = s.chg := rfl
@[simp] theorem State.setTrx_pairUse (n : Nat) (x : Trx) (s : State) : (s.setTrx n x).pairUse = s.pairUse := rfl
@[simp] theorem State.setTrx_act (n : Nat) (x : Trx) (s : State) : (s.setTrx n x).act = s.act := rfl
@[simp] theorem State.setTrx_lvEnd (n : Nat) (x : Trx) (s : State) : (s.setTrx n x).lvEnd = s.lvEnd := rfl
@[simp] theorem State.setTrx_life (n : Nat) (x : Trx) (s : State) : (s.setTrx n x).life = s.life := rfl
@[simp] theorem State.setTrx_plc (n : Nat) (x : Trx) (s : State) : (s.setTrx n x).plc = s.plc := rfl
@[simp] theorem State.setTrx_sto (n : Nat) (x : Trx) (s : State) : (s.setTrx n x).sto = s.sto := rfl
@[simp] theorem State.setTrx_upd (n : Nat) (x : Trx) (s : State) : (s.setTrx n x).upd = s.upd := rfl
@[simp] theorem State.setTrx_glove (n : Nat) (x : Trx) (s : State) : (s.setTrx n x).glove = s.glove := rfl
@[simp] theorem State.setTrx_can (n : Nat) (x : Trx) (s : State) : (s.setTrx n x).can = s.can := rfl
@[simp] theorem State.setTrx_pair (n : Nat) (x : Trx) (s : State) : (s.setTrx n x).pair = s.pair := rfl
@[simp] theorem State.setTrx_stoHigh (n : Nat) (x : Trx) (s : State) : (s.setTrx n x).stoHigh = s.stoHigh := rfl
@[simp] theorem State.setTrx_stoTold (n : Nat) (x : Trx) (s : State) : (s.setTrx n x).stoTold = s.stoTold := rfl
@[simp] theorem State.setTrx_extest (n : Nat) (x : Trx) (s : State) : (s.setTrx n x).extest = s.extest := rfl
@[simp] theorem State.setAct_pending (n : Nat) (x : ActSt) (s : State) : (s.setAct n x).pending = s.pending := rfl
@[simp] theorem State.setAct_dt (n : Nat) (x : ActSt) (s : State) : (s.setAct n x).dt = s.dt := rfl
@[simp] theorem State.setAct_el (n : Nat) (x : ActSt) (s : State) : (s.setAct n x).el = s.el := rfl
@[simp] theorem State.setAct_regs (n : Nat) (x : ActSt) (s : State) : (s.setAct n x).regs = s.regs := rfl
@[simp] theorem State.setAct_free (n : Nat) (x : ActSt) (s : State) : (s.setAct n x).free = s.free := rfl
@[simp] theorem State.setAct_boot (n : Nat) (x : ActSt) (s : State) : (s.setAct n x).boot = s.boot := rfl
@[simp] theorem State.setAct_trans (n : Nat) (x : ActSt) (s : State) : (s.setAct n x).trans = s.trans := rfl
@[simp] theorem State.setAct_heldMode (n : Nat) (x : ActSt) (s : State) : (s.setAct n x).heldMode = s.heldMode := rfl
@[simp] theorem State.setAct_heldFn (n : Nat) (x : ActSt) (s : State) : (s.setAct n x).heldFn = s.heldFn := rfl
@[simp] theorem State.setAct_nfault (n : Nat) (x : ActSt) (s : State) : (s.setAct n x).nfault = s.nfault := rfl
@[simp] theorem State.setAct_ev (n : Nat) (x : ActSt) (s : State) : (s.setAct n x).ev = s.ev := rfl
@[simp] theorem State.setAct_audit (n : Nat) (x : ActSt) (s : State) : (s.setAct n x).audit = s.audit := rfl
@[simp] theorem State.setAct_rcd (n : Nat) (x : ActSt) (s : State) : (s.setAct n x).rcd = s.rcd := rfl
@[simp] theorem State.setAct_ports (n : Nat) (x : ActSt) (s : State) : (s.setAct n x).ports = s.ports := rfl
@[simp] theorem State.setAct_dtHi (n : Nat) (x : ActSt) (s : State) : (s.setAct n x).dtHi = s.dtHi := rfl
@[simp] theorem State.setAct_lastReq (n : Nat) (x : ActSt) (s : State) : (s.setAct n x).lastReq = s.lastReq := rfl
@[simp] theorem State.setAct_sessions (n : Nat) (x : ActSt) (s : State) : (s.setAct n x).sessions = s.sessions := rfl
@[simp] theorem State.setAct_lockouts (n : Nat) (x : ActSt) (s : State) : (s.setAct n x).lockouts = s.lockouts := rfl
@[simp] theorem State.setAct_service (n : Nat) (x : ActSt) (s : State) : (s.setAct n x).service = s.service := rfl
@[simp] theorem State.setAct_preDue (n : Nat) (x : ActSt) (s : State) : (s.setAct n x).preDue = s.preDue := rfl
@[simp] theorem State.setAct_key (n : Nat) (x : ActSt) (s : State) : (s.setAct n x).key = s.key := rfl
@[simp] theorem State.setAct_plant (n : Nat) (x : ActSt) (s : State) : (s.setAct n x).plant = s.plant := rfl
@[simp] theorem State.setAct_isl (n : Nat) (x : ActSt) (s : State) : (s.setAct n x).isl = s.isl := rfl
@[simp] theorem State.setAct_sel (n : Nat) (x : ActSt) (s : State) : (s.setAct n x).sel = s.sel := rfl
@[simp] theorem State.setAct_conv (n : Nat) (x : ActSt) (s : State) : (s.setAct n x).conv = s.conv := rfl
@[simp] theorem State.setAct_unit (n : Nat) (x : ActSt) (s : State) : (s.setAct n x).unit = s.unit := rfl
@[simp] theorem State.setAct_tb (n : Nat) (x : ActSt) (s : State) : (s.setAct n x).tb = s.tb := rfl
@[simp] theorem State.setAct_trips (n : Nat) (x : ActSt) (s : State) : (s.setAct n x).trips = s.trips := rfl
@[simp] theorem State.setAct_discharging (n : Nat) (x : ActSt) (s : State) : (s.setAct n x).discharging = s.discharging := rfl
@[simp] theorem State.setAct_meas (n : Nat) (x : ActSt) (s : State) : (s.setAct n x).meas = s.meas := rfl
@[simp] theorem State.setAct_eng (n : Nat) (x : ActSt) (s : State) : (s.setAct n x).eng = s.eng := rfl
@[simp] theorem State.setAct_trx (n : Nat) (x : ActSt) (s : State) : (s.setAct n x).trx = s.trx := rfl
@[simp] theorem State.setAct_pilot (n : Nat) (x : ActSt) (s : State) : (s.setAct n x).pilot = s.pilot := rfl
@[simp] theorem State.setAct_dcl (n : Nat) (x : ActSt) (s : State) : (s.setAct n x).dcl = s.dcl := rfl
@[simp] theorem State.setAct_chg (n : Nat) (x : ActSt) (s : State) : (s.setAct n x).chg = s.chg := rfl
@[simp] theorem State.setAct_pairUse (n : Nat) (x : ActSt) (s : State) : (s.setAct n x).pairUse = s.pairUse := rfl
@[simp] theorem State.setAct_lvEnd (n : Nat) (x : ActSt) (s : State) : (s.setAct n x).lvEnd = s.lvEnd := rfl
@[simp] theorem State.setAct_life (n : Nat) (x : ActSt) (s : State) : (s.setAct n x).life = s.life := rfl
@[simp] theorem State.setAct_plc (n : Nat) (x : ActSt) (s : State) : (s.setAct n x).plc = s.plc := rfl
@[simp] theorem State.setAct_sto (n : Nat) (x : ActSt) (s : State) : (s.setAct n x).sto = s.sto := rfl
@[simp] theorem State.setAct_upd (n : Nat) (x : ActSt) (s : State) : (s.setAct n x).upd = s.upd := rfl
@[simp] theorem State.setAct_glove (n : Nat) (x : ActSt) (s : State) : (s.setAct n x).glove = s.glove := rfl
@[simp] theorem State.setAct_can (n : Nat) (x : ActSt) (s : State) : (s.setAct n x).can = s.can := rfl
@[simp] theorem State.setAct_pair (n : Nat) (x : ActSt) (s : State) : (s.setAct n x).pair = s.pair := rfl
@[simp] theorem State.setAct_stoHigh (n : Nat) (x : ActSt) (s : State) : (s.setAct n x).stoHigh = s.stoHigh := rfl
@[simp] theorem State.setAct_stoTold (n : Nat) (x : ActSt) (s : State) : (s.setAct n x).stoTold = s.stoTold := rfl
@[simp] theorem State.setAct_extest (n : Nat) (x : ActSt) (s : State) : (s.setAct n x).extest = s.extest := rfl
@[simp] theorem State.setLife_pending (n : Nat) (x : LifeIsl) (s : State) : (s.setLife n x).pending = s.pending := rfl
@[simp] theorem State.setLife_dt (n : Nat) (x : LifeIsl) (s : State) : (s.setLife n x).dt = s.dt := rfl
@[simp] theorem State.setLife_el (n : Nat) (x : LifeIsl) (s : State) : (s.setLife n x).el = s.el := rfl
@[simp] theorem State.setLife_regs (n : Nat) (x : LifeIsl) (s : State) : (s.setLife n x).regs = s.regs := rfl
@[simp] theorem State.setLife_free (n : Nat) (x : LifeIsl) (s : State) : (s.setLife n x).free = s.free := rfl
@[simp] theorem State.setLife_boot (n : Nat) (x : LifeIsl) (s : State) : (s.setLife n x).boot = s.boot := rfl
@[simp] theorem State.setLife_trans (n : Nat) (x : LifeIsl) (s : State) : (s.setLife n x).trans = s.trans := rfl
@[simp] theorem State.setLife_heldMode (n : Nat) (x : LifeIsl) (s : State) : (s.setLife n x).heldMode = s.heldMode := rfl
@[simp] theorem State.setLife_heldFn (n : Nat) (x : LifeIsl) (s : State) : (s.setLife n x).heldFn = s.heldFn := rfl
@[simp] theorem State.setLife_nfault (n : Nat) (x : LifeIsl) (s : State) : (s.setLife n x).nfault = s.nfault := rfl
@[simp] theorem State.setLife_ev (n : Nat) (x : LifeIsl) (s : State) : (s.setLife n x).ev = s.ev := rfl
@[simp] theorem State.setLife_audit (n : Nat) (x : LifeIsl) (s : State) : (s.setLife n x).audit = s.audit := rfl
@[simp] theorem State.setLife_rcd (n : Nat) (x : LifeIsl) (s : State) : (s.setLife n x).rcd = s.rcd := rfl
@[simp] theorem State.setLife_ports (n : Nat) (x : LifeIsl) (s : State) : (s.setLife n x).ports = s.ports := rfl
@[simp] theorem State.setLife_dtHi (n : Nat) (x : LifeIsl) (s : State) : (s.setLife n x).dtHi = s.dtHi := rfl
@[simp] theorem State.setLife_lastReq (n : Nat) (x : LifeIsl) (s : State) : (s.setLife n x).lastReq = s.lastReq := rfl
@[simp] theorem State.setLife_sessions (n : Nat) (x : LifeIsl) (s : State) : (s.setLife n x).sessions = s.sessions := rfl
@[simp] theorem State.setLife_lockouts (n : Nat) (x : LifeIsl) (s : State) : (s.setLife n x).lockouts = s.lockouts := rfl
@[simp] theorem State.setLife_service (n : Nat) (x : LifeIsl) (s : State) : (s.setLife n x).service = s.service := rfl
@[simp] theorem State.setLife_preDue (n : Nat) (x : LifeIsl) (s : State) : (s.setLife n x).preDue = s.preDue := rfl
@[simp] theorem State.setLife_key (n : Nat) (x : LifeIsl) (s : State) : (s.setLife n x).key = s.key := rfl
@[simp] theorem State.setLife_plant (n : Nat) (x : LifeIsl) (s : State) : (s.setLife n x).plant = s.plant := rfl
@[simp] theorem State.setLife_isl (n : Nat) (x : LifeIsl) (s : State) : (s.setLife n x).isl = s.isl := rfl
@[simp] theorem State.setLife_sel (n : Nat) (x : LifeIsl) (s : State) : (s.setLife n x).sel = s.sel := rfl
@[simp] theorem State.setLife_conv (n : Nat) (x : LifeIsl) (s : State) : (s.setLife n x).conv = s.conv := rfl
@[simp] theorem State.setLife_unit (n : Nat) (x : LifeIsl) (s : State) : (s.setLife n x).unit = s.unit := rfl
@[simp] theorem State.setLife_tb (n : Nat) (x : LifeIsl) (s : State) : (s.setLife n x).tb = s.tb := rfl
@[simp] theorem State.setLife_trips (n : Nat) (x : LifeIsl) (s : State) : (s.setLife n x).trips = s.trips := rfl
@[simp] theorem State.setLife_discharging (n : Nat) (x : LifeIsl) (s : State) : (s.setLife n x).discharging = s.discharging := rfl
@[simp] theorem State.setLife_meas (n : Nat) (x : LifeIsl) (s : State) : (s.setLife n x).meas = s.meas := rfl
@[simp] theorem State.setLife_eng (n : Nat) (x : LifeIsl) (s : State) : (s.setLife n x).eng = s.eng := rfl
@[simp] theorem State.setLife_trx (n : Nat) (x : LifeIsl) (s : State) : (s.setLife n x).trx = s.trx := rfl
@[simp] theorem State.setLife_pilot (n : Nat) (x : LifeIsl) (s : State) : (s.setLife n x).pilot = s.pilot := rfl
@[simp] theorem State.setLife_dcl (n : Nat) (x : LifeIsl) (s : State) : (s.setLife n x).dcl = s.dcl := rfl
@[simp] theorem State.setLife_chg (n : Nat) (x : LifeIsl) (s : State) : (s.setLife n x).chg = s.chg := rfl
@[simp] theorem State.setLife_pairUse (n : Nat) (x : LifeIsl) (s : State) : (s.setLife n x).pairUse = s.pairUse := rfl
@[simp] theorem State.setLife_act (n : Nat) (x : LifeIsl) (s : State) : (s.setLife n x).act = s.act := rfl
@[simp] theorem State.setLife_lvEnd (n : Nat) (x : LifeIsl) (s : State) : (s.setLife n x).lvEnd = s.lvEnd := rfl
@[simp] theorem State.setLife_plc (n : Nat) (x : LifeIsl) (s : State) : (s.setLife n x).plc = s.plc := rfl
@[simp] theorem State.setLife_sto (n : Nat) (x : LifeIsl) (s : State) : (s.setLife n x).sto = s.sto := rfl
@[simp] theorem State.setLife_upd (n : Nat) (x : LifeIsl) (s : State) : (s.setLife n x).upd = s.upd := rfl
@[simp] theorem State.setLife_glove (n : Nat) (x : LifeIsl) (s : State) : (s.setLife n x).glove = s.glove := rfl
@[simp] theorem State.setLife_can (n : Nat) (x : LifeIsl) (s : State) : (s.setLife n x).can = s.can := rfl
@[simp] theorem State.setLife_pair (n : Nat) (x : LifeIsl) (s : State) : (s.setLife n x).pair = s.pair := rfl
@[simp] theorem State.setLife_stoHigh (n : Nat) (x : LifeIsl) (s : State) : (s.setLife n x).stoHigh = s.stoHigh := rfl
@[simp] theorem State.setLife_stoTold (n : Nat) (x : LifeIsl) (s : State) : (s.setLife n x).stoTold = s.stoTold := rfl
@[simp] theorem State.setLife_extest (n : Nat) (x : LifeIsl) (s : State) : (s.setLife n x).extest = s.extest := rfl
@[simp] theorem State.setEst_pending (n : Nat) (x : LifeEst) (s : State) : (s.setEst n x).pending = s.pending := rfl
@[simp] theorem State.setEst_dt (n : Nat) (x : LifeEst) (s : State) : (s.setEst n x).dt = s.dt := rfl
@[simp] theorem State.setEst_el (n : Nat) (x : LifeEst) (s : State) : (s.setEst n x).el = s.el := rfl
@[simp] theorem State.setEst_regs (n : Nat) (x : LifeEst) (s : State) : (s.setEst n x).regs = s.regs := rfl
@[simp] theorem State.setEst_free (n : Nat) (x : LifeEst) (s : State) : (s.setEst n x).free = s.free := rfl
@[simp] theorem State.setEst_boot (n : Nat) (x : LifeEst) (s : State) : (s.setEst n x).boot = s.boot := rfl
@[simp] theorem State.setEst_trans (n : Nat) (x : LifeEst) (s : State) : (s.setEst n x).trans = s.trans := rfl
@[simp] theorem State.setEst_heldMode (n : Nat) (x : LifeEst) (s : State) : (s.setEst n x).heldMode = s.heldMode := rfl
@[simp] theorem State.setEst_heldFn (n : Nat) (x : LifeEst) (s : State) : (s.setEst n x).heldFn = s.heldFn := rfl
@[simp] theorem State.setEst_nfault (n : Nat) (x : LifeEst) (s : State) : (s.setEst n x).nfault = s.nfault := rfl
@[simp] theorem State.setEst_ev (n : Nat) (x : LifeEst) (s : State) : (s.setEst n x).ev = s.ev := rfl
@[simp] theorem State.setEst_audit (n : Nat) (x : LifeEst) (s : State) : (s.setEst n x).audit = s.audit := rfl
@[simp] theorem State.setEst_rcd (n : Nat) (x : LifeEst) (s : State) : (s.setEst n x).rcd = s.rcd := rfl
@[simp] theorem State.setEst_ports (n : Nat) (x : LifeEst) (s : State) : (s.setEst n x).ports = s.ports := rfl
@[simp] theorem State.setEst_dtHi (n : Nat) (x : LifeEst) (s : State) : (s.setEst n x).dtHi = s.dtHi := rfl
@[simp] theorem State.setEst_lastReq (n : Nat) (x : LifeEst) (s : State) : (s.setEst n x).lastReq = s.lastReq := rfl
@[simp] theorem State.setEst_sessions (n : Nat) (x : LifeEst) (s : State) : (s.setEst n x).sessions = s.sessions := rfl
@[simp] theorem State.setEst_lockouts (n : Nat) (x : LifeEst) (s : State) : (s.setEst n x).lockouts = s.lockouts := rfl
@[simp] theorem State.setEst_service (n : Nat) (x : LifeEst) (s : State) : (s.setEst n x).service = s.service := rfl
@[simp] theorem State.setEst_preDue (n : Nat) (x : LifeEst) (s : State) : (s.setEst n x).preDue = s.preDue := rfl
@[simp] theorem State.setEst_key (n : Nat) (x : LifeEst) (s : State) : (s.setEst n x).key = s.key := rfl
@[simp] theorem State.setEst_plant (n : Nat) (x : LifeEst) (s : State) : (s.setEst n x).plant = s.plant := rfl
@[simp] theorem State.setEst_isl (n : Nat) (x : LifeEst) (s : State) : (s.setEst n x).isl = s.isl := rfl
@[simp] theorem State.setEst_sel (n : Nat) (x : LifeEst) (s : State) : (s.setEst n x).sel = s.sel := rfl
@[simp] theorem State.setEst_conv (n : Nat) (x : LifeEst) (s : State) : (s.setEst n x).conv = s.conv := rfl
@[simp] theorem State.setEst_unit (n : Nat) (x : LifeEst) (s : State) : (s.setEst n x).unit = s.unit := rfl
@[simp] theorem State.setEst_tb (n : Nat) (x : LifeEst) (s : State) : (s.setEst n x).tb = s.tb := rfl
@[simp] theorem State.setEst_trips (n : Nat) (x : LifeEst) (s : State) : (s.setEst n x).trips = s.trips := rfl
@[simp] theorem State.setEst_discharging (n : Nat) (x : LifeEst) (s : State) : (s.setEst n x).discharging = s.discharging := rfl
@[simp] theorem State.setEst_meas (n : Nat) (x : LifeEst) (s : State) : (s.setEst n x).meas = s.meas := rfl
@[simp] theorem State.setEst_eng (n : Nat) (x : LifeEst) (s : State) : (s.setEst n x).eng = s.eng := rfl
@[simp] theorem State.setEst_trx (n : Nat) (x : LifeEst) (s : State) : (s.setEst n x).trx = s.trx := rfl
@[simp] theorem State.setEst_pilot (n : Nat) (x : LifeEst) (s : State) : (s.setEst n x).pilot = s.pilot := rfl
@[simp] theorem State.setEst_dcl (n : Nat) (x : LifeEst) (s : State) : (s.setEst n x).dcl = s.dcl := rfl
@[simp] theorem State.setEst_chg (n : Nat) (x : LifeEst) (s : State) : (s.setEst n x).chg = s.chg := rfl
@[simp] theorem State.setEst_pairUse (n : Nat) (x : LifeEst) (s : State) : (s.setEst n x).pairUse = s.pairUse := rfl
@[simp] theorem State.setEst_act (n : Nat) (x : LifeEst) (s : State) : (s.setEst n x).act = s.act := rfl
@[simp] theorem State.setEst_lvEnd (n : Nat) (x : LifeEst) (s : State) : (s.setEst n x).lvEnd = s.lvEnd := rfl
@[simp] theorem State.setEst_plc (n : Nat) (x : LifeEst) (s : State) : (s.setEst n x).plc = s.plc := rfl
@[simp] theorem State.setEst_sto (n : Nat) (x : LifeEst) (s : State) : (s.setEst n x).sto = s.sto := rfl
@[simp] theorem State.setEst_upd (n : Nat) (x : LifeEst) (s : State) : (s.setEst n x).upd = s.upd := rfl
@[simp] theorem State.setEst_glove (n : Nat) (x : LifeEst) (s : State) : (s.setEst n x).glove = s.glove := rfl
@[simp] theorem State.setEst_can (n : Nat) (x : LifeEst) (s : State) : (s.setEst n x).can = s.can := rfl
@[simp] theorem State.setEst_pair (n : Nat) (x : LifeEst) (s : State) : (s.setEst n x).pair = s.pair := rfl
@[simp] theorem State.setEst_stoHigh (n : Nat) (x : LifeEst) (s : State) : (s.setEst n x).stoHigh = s.stoHigh := rfl
@[simp] theorem State.setEst_stoTold (n : Nat) (x : LifeEst) (s : State) : (s.setEst n x).stoTold = s.stoTold := rfl
@[simp] theorem State.setEst_extest (n : Nat) (x : LifeEst) (s : State) : (s.setEst n x).extest = s.extest := rfl

@[simp] theorem State.tick_el (e : Nat) (s : State) : (s.tick e).el = s.el + e := rfl
@[simp] theorem State.tick_d0 (e : Nat) (s : State) : (s.tick e).d0 = s.d0 := rfl
@[simp] theorem State.tick_logs (e : Nat) (s : State) : (s.tick e).logs = s.logs := rfl
@[simp] theorem State.tick_reg (e i : Nat) (s : State) : (s.tick e).reg i = s.reg i := rfl
@[simp] theorem State.tick_fld (e i : Nat) (f : Fld) (s : State) : (s.tick e).fld i f = s.fld i f := rfl
@[simp] theorem State.tick_bit (e i : Nat) (f : Fld) (s : State) : (s.tick e).bit i f = s.bit i f := rfl
@[simp] theorem State.tick_mode (e : Nat) (s : State) : (s.tick e).mode = s.mode := rfl
@[simp] theorem State.tick_islOf (e n : Nat) (s : State) : (s.tick e).islOf n = s.islOf n := rfl
@[simp] theorem State.tick_selOf (e n : Nat) (s : State) : (s.tick e).selOf n = s.selOf n := rfl
@[simp] theorem State.tick_convOf (e n : Nat) (s : State) : (s.tick e).convOf n = s.convOf n := rfl
@[simp] theorem State.tick_unitOf (e n : Nat) (s : State) : (s.tick e).unitOf n = s.unitOf n := rfl
@[simp] theorem State.tick_tbOf (e n : Nat) (s : State) : (s.tick e).tbOf n = s.tbOf n := rfl
@[simp] theorem State.tick_adcOf (e n : Nat) (s : State) : (s.tick e).adcOf n = s.adcOf n := rfl
@[simp] theorem State.tick_xfOf (e n : Nat) (s : State) : (s.tick e).xfOf n = s.xfOf n := rfl
@[simp] theorem State.tick_queOf (e n : Nat) (s : State) : (s.tick e).queOf n = s.queOf n := rfl
@[simp] theorem State.tick_sentOf (e n : Nat) (s : State) : (s.tick e).sentOf n = s.sentOf n := rfl
@[simp] theorem State.tick_graphOf (e n : Nat) (s : State) : (s.tick e).graphOf n = s.graphOf n := rfl
@[simp] theorem State.tick_handOf (e n : Nat) (s : State) : (s.tick e).handOf n = s.handOf n := rfl
@[simp] theorem State.tick_trxOf (e n : Nat) (s : State) : (s.tick e).trxOf n = s.trxOf n := rfl
@[simp] theorem State.tick_actOf (e n : Nat) (s : State) : (s.tick e).actOf n = s.actOf n := rfl
@[simp] theorem State.tick_lifeOf (e n : Nat) (s : State) : (s.tick e).lifeOf n = s.lifeOf n := rfl
@[simp] theorem State.tick_estOf (e n : Nat) (s : State) : (s.tick e).estOf n = s.estOf n := rfl
@[simp] theorem State.setReg_logs (i : Nat) (v : Reg) (s : State) : (s.setReg i v).logs = s.logs := rfl
@[simp] theorem State.setFld_logs (i : Nat) (f : Fld) (x : Nat) (s : State) : (s.setFld i f x).logs = s.logs := rfl
@[simp] theorem State.setBit_logs (i : Nat) (f : Fld) (b : Bool) (s : State) : (s.setBit i f b).logs = s.logs := rfl

end Sys2Proof.Machine
end

