-- ==== Sys2Proof/Laws/Alter.lean ====
section
/-! SUPPORT. What an operation may change, said once for each operation: a relation between the state before and after,
indexed by a bitmap of the parts that may differ. Bits 0 to 63 stand for the registers of those indices (the DEV group),
bits 64 on for the fields of `State` in their order, 120 for the event buffer and 121 for the audit buffer keeping what
they hold, 122 for elapsed time and 123 for the free-value counter never going back, 124 for the invariant. -/

namespace Sys2Proof.Machine

/-- Whatever the bitmap does not name is as it was. -/
structure Alter (m : Nat) (s t : State) : Prop where
  low : ∀ i, i < 64 → m.testBit i = false → t.reg i = s.reg i
  pending : m.testBit 64 = false → t.pending = s.pending
  dt : m.testBit 65 = false → t.dt = s.dt
  el : m.testBit 66 = false → t.el = s.el
  regs : m.testBit 67 = false → t.regs = s.regs
  free : m.testBit 68 = false → t.free = s.free
  boot : m.testBit 69 = false → t.boot = s.boot
  trans : m.testBit 70 = false → t.trans = s.trans
  heldMode : m.testBit 71 = false → t.heldMode = s.heldMode
  heldFn : m.testBit 72 = false → t.heldFn = s.heldFn
  nfault : m.testBit 73 = false → t.nfault = s.nfault
  ev : m.testBit 74 = false → t.ev = s.ev
  audit : m.testBit 75 = false → t.audit = s.audit
  rcd : m.testBit 76 = false → t.rcd = s.rcd
  ports : m.testBit 77 = false → t.ports = s.ports
  dtHi : m.testBit 78 = false → t.dtHi = s.dtHi
  lastReq : m.testBit 79 = false → t.lastReq = s.lastReq
  sessions : m.testBit 80 = false → t.sessions = s.sessions
  lockouts : m.testBit 81 = false → t.lockouts = s.lockouts
  service : m.testBit 82 = false → t.service = s.service
  preDue : m.testBit 83 = false → t.preDue = s.preDue
  key : m.testBit 84 = false → t.key = s.key
  plant : m.testBit 85 = false → t.plant = s.plant
  isl : m.testBit 86 = false → t.isl = s.isl
  sel : m.testBit 87 = false → t.sel = s.sel
  conv : m.testBit 88 = false → t.conv = s.conv
  unit : m.testBit 89 = false → t.unit = s.unit
  tb : m.testBit 90 = false → t.tb = s.tb
  trips : m.testBit 91 = false → t.trips = s.trips
  discharging : m.testBit 92 = false → t.discharging = s.discharging
  meas : m.testBit 93 = false → t.meas = s.meas
  eng : m.testBit 94 = false → t.eng = s.eng
  trx : m.testBit 95 = false → t.trx = s.trx
  pilot : m.testBit 96 = false → t.pilot = s.pilot
  dcl : m.testBit 97 = false → t.dcl = s.dcl
  chg : m.testBit 98 = false → t.chg = s.chg
  pairUse : m.testBit 99 = false → t.pairUse = s.pairUse
  act : m.testBit 100 = false → t.act = s.act
  lvEnd : m.testBit 101 = false → t.lvEnd = s.lvEnd
  life : m.testBit 102 = false → t.life = s.life
  plc : m.testBit 103 = false → t.plc = s.plc
  sto : m.testBit 104 = false → t.sto = s.sto
  upd : m.testBit 105 = false → t.upd = s.upd
  glove : m.testBit 106 = false → t.glove = s.glove
  can : m.testBit 107 = false → t.can = s.can
  pair : m.testBit 108 = false → t.pair = s.pair
  stoHigh : m.testBit 109 = false → t.stoHigh = s.stoHigh
  stoTold : m.testBit 110 = false → t.stoTold = s.stoTold
  extest : m.testBit 111 = false → t.extest = s.extest
  evGrows : m.testBit 120 = false → s.ev.buf <+: t.ev.buf
  auditGrows : m.testBit 121 = false → s.audit.buf <+: t.audit.buf
  elGrows : m.testBit 122 = false → s.el ≤ t.el
  freeGrows : m.testBit 123 = false → s.free ≤ t.free
  inv : m.testBit 124 = false → s.Inv → t.Inv

/-- Nothing changes. -/
theorem Alter.refl (m : Nat) (s : State) : Alter m s s where
  low := fun _ _ _ => rfl
  pending := fun _ => rfl
  dt := fun _ => rfl
  el := fun _ => rfl
  regs := fun _ => rfl
  free := fun _ => rfl
  boot := fun _ => rfl
  trans := fun _ => rfl
  heldMode := fun _ => rfl
  heldFn := fun _ => rfl
  nfault := fun _ => rfl
  ev := fun _ => rfl
  audit := fun _ => rfl
  rcd := fun _ => rfl
  ports := fun _ => rfl
  dtHi := fun _ => rfl
  lastReq := fun _ => rfl
  sessions := fun _ => rfl
  lockouts := fun _ => rfl
  service := fun _ => rfl
  preDue := fun _ => rfl
  key := fun _ => rfl
  plant := fun _ => rfl
  isl := fun _ => rfl
  sel := fun _ => rfl
  conv := fun _ => rfl
  unit := fun _ => rfl
  tb := fun _ => rfl
  trips := fun _ => rfl
  discharging := fun _ => rfl
  meas := fun _ => rfl
  eng := fun _ => rfl
  trx := fun _ => rfl
  pilot := fun _ => rfl
  dcl := fun _ => rfl
  chg := fun _ => rfl
  pairUse := fun _ => rfl
  act := fun _ => rfl
  lvEnd := fun _ => rfl
  life := fun _ => rfl
  plc := fun _ => rfl
  sto := fun _ => rfl
  upd := fun _ => rfl
  glove := fun _ => rfl
  can := fun _ => rfl
  pair := fun _ => rfl
  stoHigh := fun _ => rfl
  stoTold := fun _ => rfl
  extest := fun _ => rfl
  evGrows := fun _ => List.prefix_refl _
  auditGrows := fun _ => List.prefix_refl _
  elGrows := fun _ => Nat.le_refl _
  freeGrows := fun _ => Nat.le_refl _
  inv := fun _ h => h

/-- One change after another of the same bitmap. -/
theorem Alter.and {m : Nat} {s u t : State} (h : Alter m s u) (k : Alter m u t) : Alter m s t where
  low := fun i hi b => (k.low i hi b).trans (h.low i hi b)
  pending := fun b => (k.pending b).trans (h.pending b)
  dt := fun b => (k.dt b).trans (h.dt b)
  el := fun b => (k.el b).trans (h.el b)
  regs := fun b => (k.regs b).trans (h.regs b)
  free := fun b => (k.free b).trans (h.free b)
  boot := fun b => (k.boot b).trans (h.boot b)
  trans := fun b => (k.trans b).trans (h.trans b)
  heldMode := fun b => (k.heldMode b).trans (h.heldMode b)
  heldFn := fun b => (k.heldFn b).trans (h.heldFn b)
  nfault := fun b => (k.nfault b).trans (h.nfault b)
  ev := fun b => (k.ev b).trans (h.ev b)
  audit := fun b => (k.audit b).trans (h.audit b)
  rcd := fun b => (k.rcd b).trans (h.rcd b)
  ports := fun b => (k.ports b).trans (h.ports b)
  dtHi := fun b => (k.dtHi b).trans (h.dtHi b)
  lastReq := fun b => (k.lastReq b).trans (h.lastReq b)
  sessions := fun b => (k.sessions b).trans (h.sessions b)
  lockouts := fun b => (k.lockouts b).trans (h.lockouts b)
  service := fun b => (k.service b).trans (h.service b)
  preDue := fun b => (k.preDue b).trans (h.preDue b)
  key := fun b => (k.key b).trans (h.key b)
  plant := fun b => (k.plant b).trans (h.plant b)
  isl := fun b => (k.isl b).trans (h.isl b)
  sel := fun b => (k.sel b).trans (h.sel b)
  conv := fun b => (k.conv b).trans (h.conv b)
  unit := fun b => (k.unit b).trans (h.unit b)
  tb := fun b => (k.tb b).trans (h.tb b)
  trips := fun b => (k.trips b).trans (h.trips b)
  discharging := fun b => (k.discharging b).trans (h.discharging b)
  meas := fun b => (k.meas b).trans (h.meas b)
  eng := fun b => (k.eng b).trans (h.eng b)
  trx := fun b => (k.trx b).trans (h.trx b)
  pilot := fun b => (k.pilot b).trans (h.pilot b)
  dcl := fun b => (k.dcl b).trans (h.dcl b)
  chg := fun b => (k.chg b).trans (h.chg b)
  pairUse := fun b => (k.pairUse b).trans (h.pairUse b)
  act := fun b => (k.act b).trans (h.act b)
  lvEnd := fun b => (k.lvEnd b).trans (h.lvEnd b)
  life := fun b => (k.life b).trans (h.life b)
  plc := fun b => (k.plc b).trans (h.plc b)
  sto := fun b => (k.sto b).trans (h.sto b)
  upd := fun b => (k.upd b).trans (h.upd b)
  glove := fun b => (k.glove b).trans (h.glove b)
  can := fun b => (k.can b).trans (h.can b)
  pair := fun b => (k.pair b).trans (h.pair b)
  stoHigh := fun b => (k.stoHigh b).trans (h.stoHigh b)
  stoTold := fun b => (k.stoTold b).trans (h.stoTold b)
  extest := fun b => (k.extest b).trans (h.extest b)
  evGrows := fun b => (h.evGrows b).trans (k.evGrows b)
  auditGrows := fun b => (h.auditGrows b).trans (k.auditGrows b)
  elGrows := fun b => Nat.le_trans (h.elGrows b) (k.elGrows b)
  freeGrows := fun b => Nat.le_trans (h.freeGrows b) (k.freeGrows b)
  inv := fun b i => k.inv b (h.inv b i)

theorem testBit_of_or {a m i : Nat} (e : a ||| m = m) (h : m.testBit i = false) : a.testBit i = false := by
  have := congrArg (·.testBit i) e
  simp only [Nat.testBit_or, h, Bool.or_false] at this
  exact this

/-- A change of a smaller bitmap. -/
theorem Alter.mono {a m : Nat} {s t : State} (k : Alter a s t) (e : a ||| m = m) : Alter m s t where
  low := fun i hi b => k.low i hi (testBit_of_or e b)
  pending := fun b => k.pending (testBit_of_or e b)
  dt := fun b => k.dt (testBit_of_or e b)
  el := fun b => k.el (testBit_of_or e b)
  regs := fun b => k.regs (testBit_of_or e b)
  free := fun b => k.free (testBit_of_or e b)
  boot := fun b => k.boot (testBit_of_or e b)
  trans := fun b => k.trans (testBit_of_or e b)
  heldMode := fun b => k.heldMode (testBit_of_or e b)
  heldFn := fun b => k.heldFn (testBit_of_or e b)
  nfault := fun b => k.nfault (testBit_of_or e b)
  ev := fun b => k.ev (testBit_of_or e b)
  audit := fun b => k.audit (testBit_of_or e b)
  rcd := fun b => k.rcd (testBit_of_or e b)
  ports := fun b => k.ports (testBit_of_or e b)
  dtHi := fun b => k.dtHi (testBit_of_or e b)
  lastReq := fun b => k.lastReq (testBit_of_or e b)
  sessions := fun b => k.sessions (testBit_of_or e b)
  lockouts := fun b => k.lockouts (testBit_of_or e b)
  service := fun b => k.service (testBit_of_or e b)
  preDue := fun b => k.preDue (testBit_of_or e b)
  key := fun b => k.key (testBit_of_or e b)
  plant := fun b => k.plant (testBit_of_or e b)
  isl := fun b => k.isl (testBit_of_or e b)
  sel := fun b => k.sel (testBit_of_or e b)
  conv := fun b => k.conv (testBit_of_or e b)
  unit := fun b => k.unit (testBit_of_or e b)
  tb := fun b => k.tb (testBit_of_or e b)
  trips := fun b => k.trips (testBit_of_or e b)
  discharging := fun b => k.discharging (testBit_of_or e b)
  meas := fun b => k.meas (testBit_of_or e b)
  eng := fun b => k.eng (testBit_of_or e b)
  trx := fun b => k.trx (testBit_of_or e b)
  pilot := fun b => k.pilot (testBit_of_or e b)
  dcl := fun b => k.dcl (testBit_of_or e b)
  chg := fun b => k.chg (testBit_of_or e b)
  pairUse := fun b => k.pairUse (testBit_of_or e b)
  act := fun b => k.act (testBit_of_or e b)
  lvEnd := fun b => k.lvEnd (testBit_of_or e b)
  life := fun b => k.life (testBit_of_or e b)
  plc := fun b => k.plc (testBit_of_or e b)
  sto := fun b => k.sto (testBit_of_or e b)
  upd := fun b => k.upd (testBit_of_or e b)
  glove := fun b => k.glove (testBit_of_or e b)
  can := fun b => k.can (testBit_of_or e b)
  pair := fun b => k.pair (testBit_of_or e b)
  stoHigh := fun b => k.stoHigh (testBit_of_or e b)
  stoTold := fun b => k.stoTold (testBit_of_or e b)
  extest := fun b => k.extest (testBit_of_or e b)
  evGrows := fun b => k.evGrows (testBit_of_or e b)
  auditGrows := fun b => k.auditGrows (testBit_of_or e b)
  elGrows := fun b => k.elGrows (testBit_of_or e b)
  freeGrows := fun b => k.freeGrows (testBit_of_or e b)
  inv := fun b => k.inv (testBit_of_or e b)

/-- A further change of a smaller bitmap. -/
theorem Alter.step {a m : Nat} {s u t : State} (h : Alter m s u) (k : Alter a u t) (e : a ||| m = m) : Alter m s t :=
  h.and (k.mono e)

/-! ### Fields of the state that nothing else watches -/

theorem alter_boot (s : State) (v : Boot) : Alter (2 ^ 69) s { s with boot := v } := by
  constructor <;> intros <;> first | rfl | exact List.prefix_refl _ | exact Nat.le_refl _ | (rename_i h; exact { h with }) | (rename_i b; exact absurd b (by decide))
theorem alter_trans (s : State) (v : Option Trans) : Alter (2 ^ 70) s { s with trans := v } := by
  constructor <;> intros <;> first | rfl | exact List.prefix_refl _ | exact Nat.le_refl _ | (rename_i h; exact { h with }) | (rename_i b; exact absurd b (by decide))
theorem alter_heldMode (s : State) (v : Option Held) : Alter (2 ^ 71) s { s with heldMode := v } := by
  constructor <;> intros <;> first | rfl | exact List.prefix_refl _ | exact Nat.le_refl _ | (rename_i h; exact { h with }) | (rename_i b; exact absurd b (by decide))
theorem alter_heldFn (s : State) (v : AMap Held) : Alter (2 ^ 72) s { s with heldFn := v } := by
  constructor <;> intros <;> first | rfl | exact List.prefix_refl _ | exact Nat.le_refl _ | (rename_i h; exact { h with }) | (rename_i b; exact absurd b (by decide))
theorem alter_nfault (s : State) (v : Bool) : Alter (2 ^ 73) s { s with nfault := v } := by
  constructor <;> intros <;> first | rfl | exact List.prefix_refl _ | exact Nat.le_refl _ | (rename_i h; exact { h with }) | (rename_i b; exact absurd b (by decide))
theorem alter_rcd (s : State) (v : Recorder) : Alter (2 ^ 76) s { s with rcd := v } := by
  constructor <;> intros <;> first | rfl | exact List.prefix_refl _ | exact Nat.le_refl _ | (rename_i h; exact { h with }) | (rename_i b; exact absurd b (by decide))
theorem alter_ports (s : State) (v : AMap Port) : Alter (2 ^ 77) s { s with ports := v } := by
  constructor <;> intros <;> first | rfl | exact List.prefix_refl _ | exact Nat.le_refl _ | (rename_i h; exact { h with }) | (rename_i b; exact absurd b (by decide))
theorem alter_dtHi (s : State) (v : AMap Nat) : Alter (2 ^ 78) s { s with dtHi := v } := by
  constructor <;> intros <;> first | rfl | exact List.prefix_refl _ | exact Nat.le_refl _ | (rename_i h; exact { h with }) | (rename_i b; exact absurd b (by decide))
theorem alter_lastReq (s : State) (v : AMap LastReq) : Alter (2 ^ 79) s { s with lastReq := v } := by
  constructor <;> intros <;> first | rfl | exact List.prefix_refl _ | exact Nat.le_refl _ | (rename_i h; exact { h with }) | (rename_i b; exact absurd b (by decide))
theorem alter_lockouts (s : State) (v : AMap Lockout) : Alter (2 ^ 81) s { s with lockouts := v } := by
  constructor <;> intros <;> first | rfl | exact List.prefix_refl _ | exact Nat.le_refl _ | (rename_i h; exact { h with }) | (rename_i b; exact absurd b (by decide))
theorem alter_service (s : State) (v : Nat) : Alter (2 ^ 82) s { s with service := v } := by
  constructor <;> intros <;> first | rfl | exact List.prefix_refl _ | exact Nat.le_refl _ | (rename_i h; exact { h with }) | (rename_i b; exact absurd b (by decide))
theorem alter_preDue (s : State) (v : Bool) : Alter (2 ^ 83) s { s with preDue := v } := by
  constructor <;> intros <;> first | rfl | exact List.prefix_refl _ | exact Nat.le_refl _ | (rename_i h; exact { h with }) | (rename_i b; exact absurd b (by decide))
theorem alter_key (s : State) (v : Option Nat) : Alter (2 ^ 84) s { s with key := v } := by
  constructor <;> intros <;> first | rfl | exact List.prefix_refl _ | exact Nat.le_refl _ | (rename_i h; exact { h with }) | (rename_i b; exact absurd b (by decide))
theorem alter_plant (s : State) (v : Option Plant) : Alter (2 ^ 85) s { s with plant := v } := by
  constructor <;> intros <;> first | rfl | exact List.prefix_refl _ | exact Nat.le_refl _ | (rename_i h; exact { h with }) | (rename_i b; exact absurd b (by decide))
theorem alter_trips (s : State) (v : Nat) : Alter (2 ^ 91) s { s with trips := v } := by
  constructor <;> intros <;> first | rfl | exact List.prefix_refl _ | exact Nat.le_refl _ | (rename_i h; exact { h with }) | (rename_i b; exact absurd b (by decide))
theorem alter_discharging (s : State) (v : Bool) : Alter (2 ^ 92) s { s with discharging := v } := by
  constructor <;> intros <;> first | rfl | exact List.prefix_refl _ | exact Nat.le_refl _ | (rename_i h; exact { h with }) | (rename_i b; exact absurd b (by decide))
theorem alter_meas (s : State) (v : Meas) : Alter (2 ^ 93) s { s with meas := v } := by
  constructor <;> intros <;> first | rfl | exact List.prefix_refl _ | exact Nat.le_refl _ | (rename_i h; exact { h with }) | (rename_i b; exact absurd b (by decide))
theorem alter_eng (s : State) (v : Eng) : Alter (2 ^ 94) s { s with eng := v } := by
  constructor <;> intros <;> first | rfl | exact List.prefix_refl _ | exact Nat.le_refl _ | (rename_i h; exact { h with }) | (rename_i b; exact absurd b (by decide))
theorem alter_trx (s : State) (v : Traction) : Alter (2 ^ 95) s { s with trx := v } := by
  constructor <;> intros <;> first | rfl | exact List.prefix_refl _ | exact Nat.le_refl _ | (rename_i h; exact { h with }) | (rename_i b; exact absurd b (by decide))
theorem alter_pilot (s : State) (v : Pilot) : Alter (2 ^ 96) s { s with pilot := v } := by
  constructor <;> intros <;> first | rfl | exact List.prefix_refl _ | exact Nat.le_refl _ | (rename_i h; exact { h with }) | (rename_i b; exact absurd b (by decide))
theorem alter_dcl (s : State) (v : Dcl) : Alter (2 ^ 97) s { s with dcl := v } := by
  constructor <;> intros <;> first | rfl | exact List.prefix_refl _ | exact Nat.le_refl _ | (rename_i h; exact { h with }) | (rename_i b; exact absurd b (by decide))
theorem alter_chg (s : State) (v : Chg) : Alter (2 ^ 98) s { s with chg := v } := by
  constructor <;> intros <;> first | rfl | exact List.prefix_refl _ | exact Nat.le_refl _ | (rename_i h; exact { h with }) | (rename_i b; exact absurd b (by decide))
theorem alter_pairUse (s : State) (v : PairUse) : Alter (2 ^ 99) s { s with pairUse := v } := by
  constructor <;> intros <;> first | rfl | exact List.prefix_refl _ | exact Nat.le_refl _ | (rename_i h; exact { h with }) | (rename_i b; exact absurd b (by decide))
theorem alter_act (s : State) (v : AMap ActSt) : Alter (2 ^ 100) s { s with act := v } := by
  constructor <;> intros <;> first | rfl | exact List.prefix_refl _ | exact Nat.le_refl _ | (rename_i h; exact { h with }) | (rename_i b; exact absurd b (by decide))
theorem alter_lvEnd (s : State) (v : Option Nat) : Alter (2 ^ 101) s { s with lvEnd := v } := by
  constructor <;> intros <;> first | rfl | exact List.prefix_refl _ | exact Nat.le_refl _ | (rename_i h; exact { h with }) | (rename_i b; exact absurd b (by decide))
theorem alter_life (s : State) (v : Life) : Alter (2 ^ 102) s { s with life := v } := by
  constructor <;> intros <;> first | rfl | exact List.prefix_refl _ | exact Nat.le_refl _ | (rename_i h; exact { h with }) | (rename_i b; exact absurd b (by decide))
theorem alter_plc (s : State) (v : Plc) : Alter (2 ^ 103) s { s with plc := v } := by
  constructor <;> intros <;> first | rfl | exact List.prefix_refl _ | exact Nat.le_refl _ | (rename_i h; exact { h with }) | (rename_i b; exact absurd b (by decide))
theorem alter_sto (s : State) (v : Sto) : Alter (2 ^ 104) s { s with sto := v } := by
  constructor <;> intros <;> first | rfl | exact List.prefix_refl _ | exact Nat.le_refl _ | (rename_i h; exact { h with }) | (rename_i b; exact absurd b (by decide))
theorem alter_upd (s : State) (v : Upd) : Alter (2 ^ 105) s { s with upd := v } := by
  constructor <;> intros <;> first | rfl | exact List.prefix_refl _ | exact Nat.le_refl _ | (rename_i h; exact { h with }) | (rename_i b; exact absurd b (by decide))
theorem alter_glove (s : State) (v : Glove) : Alter (2 ^ 106) s { s with glove := v } := by
  constructor <;> intros <;> first | rfl | exact List.prefix_refl _ | exact Nat.le_refl _ | (rename_i h; exact { h with }) | (rename_i b; exact absurd b (by decide))
theorem alter_can (s : State) (v : Can) : Alter (2 ^ 107) s { s with can := v } := by
  constructor <;> intros <;> first | rfl | exact List.prefix_refl _ | exact Nat.le_refl _ | (rename_i h; exact { h with }) | (rename_i b; exact absurd b (by decide))
theorem alter_pair (s : State) (v : Pair) : Alter (2 ^ 108) s { s with pair := v } := by
  constructor <;> intros <;> first | rfl | exact List.prefix_refl _ | exact Nat.le_refl _ | (rename_i h; exact { h with }) | (rename_i b; exact absurd b (by decide))
theorem alter_stoHigh (s : State) (v : Option Nat) : Alter (2 ^ 109) s { s with stoHigh := v } := by
  constructor <;> intros <;> first | rfl | exact List.prefix_refl _ | exact Nat.le_refl _ | (rename_i h; exact { h with }) | (rename_i b; exact absurd b (by decide))
theorem alter_stoTold (s : State) (v : Bool) : Alter (2 ^ 110) s { s with stoTold := v } := by
  constructor <;> intros <;> first | rfl | exact List.prefix_refl _ | exact Nat.le_refl _ | (rename_i h; exact { h with }) | (rename_i b; exact absurd b (by decide))
theorem alter_extest (s : State) (v : Bool) : Alter (2 ^ 111) s { s with extest := v } := by
  constructor <;> intros <;> first | rfl | exact List.prefix_refl _ | exact Nat.le_refl _ | (rename_i h; exact { h with }) | (rename_i b; exact absurd b (by decide))

/-! ### Stores with a canonical form -/

theorem Alter.reg_of_regs {s t : State} (h : t.regs = s.regs) (i : Nat) : t.reg i = s.reg i := by simp [State.reg, h]

/-- A register's part of the bitmap: the register file, and its own bit when it is one of the first 64. -/
def rm (i : Nat) : Nat := 2 ^ 67 ||| (if i < 64 then 2 ^ i else 0)

theorem rm_high {i m : Nat} (h : 64 ≤ i) (e : 2 ^ 67 ||| m = m) : rm i ||| m = m := by
  rw [rm, if_neg (by omega), Nat.or_zero, e]

theorem alter_setReg (i : Nat) (v : Reg) (s : State) : Alter (rm i) s (s.setReg i v) := by
  constructor
  case low =>
    intro k hk b
    have hne : k ≠ i := by
      rintro rfl
      rw [rm, if_pos hk, Nat.testBit_or, Nat.testBit_two_pow_self, Bool.or_true] at b
      cases b
    simpa [State.reg, State.setReg] using AMap.getD_put_other s.regs (resetReg i) (resetReg k) v hne
  case regs =>
    intro b
    rw [rm, Nat.testBit_or, Nat.testBit_two_pow_self, Bool.true_or] at b
    cases b
  case inv => exact fun _ h => { h with regs := AMap.wf_put resetReg s.regs i v h.regs }
  all_goals intros
  all_goals rfl

theorem alter_tick (e : Nat) (s : State) : Alter (2 ^ 65 ||| 2 ^ 66) s (s.tick e) := by
  constructor
  case elGrows => exact fun _ => Nat.le_add_right _ _
  case inv => exact fun _ h => { h with }
  all_goals intros
  all_goals first | rfl | exact List.prefix_refl _ | exact Nat.le_refl _ | assumption | (rename_i b; exact absurd b (by decide))

theorem alter_setIsl (n : Nat) (x : Isl) (s : State) : Alter (2 ^ 86) s (s.setIsl n x) := by
  constructor
  case inv => exact fun _ h => { h with isl := AMap.wf_put (fun _ => {}) s.isl n x h.isl }
  all_goals intros
  all_goals first | rfl | exact List.prefix_refl _ | exact Nat.le_refl _ | assumption | (rename_i b; exact absurd b (by decide))

theorem alter_setSel (n : Nat) (x : Sel) (s : State) : Alter (2 ^ 87) s (s.setSel n x) := by
  constructor
  case inv => exact fun _ h => { h with sel := AMap.wf_put (fun _ => {}) s.sel n x h.sel }
  all_goals intros
  all_goals first | rfl | exact List.prefix_refl _ | exact Nat.le_refl _ | assumption | (rename_i b; exact absurd b (by decide))

theorem alter_setConv (n : Nat) (x : Conv) (s : State) : Alter (2 ^ 88) s (s.setConv n x) := by
  constructor
  case inv => exact fun _ h => { h with conv := AMap.wf_put (fun _ => {}) s.conv n x h.conv }
  all_goals intros
  all_goals first | rfl | exact List.prefix_refl _ | exact Nat.le_refl _ | assumption | (rename_i b; exact absurd b (by decide))

theorem alter_setUnit (n : Nat) (x : Unit) (s : State) : Alter (2 ^ 89) s (s.setUnit n x) := by
  constructor
  case inv => exact fun _ h => { h with unit := AMap.wf_put (fun _ => {}) s.unit n x h.unit }
  all_goals intros
  all_goals first | rfl | exact List.prefix_refl _ | exact Nat.le_refl _ | assumption | (rename_i b; exact absurd b (by decide))

theorem alter_setTb (n : Nat) (x : Tb) (s : State) : Alter (2 ^ 90) s (s.setTb n x) := by
  constructor
  case inv => exact fun _ h => { h with tb := AMap.wf_put (fun _ => {}) s.tb n x h.tb }
  all_goals intros
  all_goals first | rfl | exact List.prefix_refl _ | exact Nat.le_refl _ | assumption | (rename_i b; exact absurd b (by decide))

theorem alter_free (s : State) (v : Nat) (h : s.free ≤ v) : Alter (2 ^ 68) s { s with free := v } := by
  constructor
  case freeGrows => exact fun _ => h
  case inv => exact fun _ h => { h with }
  all_goals intros
  all_goals first | rfl | exact List.prefix_refl _ | exact Nat.le_refl _ | assumption | (rename_i b; exact absurd b (by decide))

theorem alter_dt (s : State) (v : Nat) : Alter (2 ^ 65) s { s with dt := v } := by
  constructor
  case inv => exact fun _ h => { h with }
  all_goals intros
  all_goals first | rfl | exact List.prefix_refl _ | exact Nat.le_refl _ | assumption | (rename_i b; exact absurd b (by decide))

theorem alter_tbs (s : State) (v : AMap Tb) (h : AMap.wf (fun _ => ({} : Tb)) v = true) : Alter (2 ^ 90) s { s with tb := v } := by
  constructor
  case inv => exact fun _ i => { i with tb := h }
  all_goals intros
  all_goals first | rfl | exact List.prefix_refl _ | exact Nat.le_refl _ | assumption | (rename_i b; exact absurd b (by decide))

/-- The event log with its buffer as it was. -/
theorem alter_ev (s : State) (v : EvLog) (h : v.buf = s.ev.buf) : Alter (2 ^ 74) s { s with ev := v } := by
  constructor
  case evGrows => exact fun _ => ⟨[], by simp [h]⟩
  case inv => exact fun _ i => { i with events := by simpa [h] using i.events }
  all_goals intros
  all_goals first | rfl | exact List.prefix_refl _ | exact Nat.le_refl _ | assumption | (rename_i b; exact absurd b (by decide))

/-- The audit log with its buffer as it was. -/
theorem alter_audit (s : State) (v : AuditLog) (h : v.buf = s.audit.buf) : Alter (2 ^ 75) s { s with audit := v } := by
  constructor
  case auditGrows => exact fun _ => ⟨[], by simp [h]⟩
  case inv => exact fun _ i => { i with audit := by simpa [h] using i.audit }
  all_goals intros
  all_goals first | rfl | exact List.prefix_refl _ | exact Nat.le_refl _ | assumption | (rename_i b; exact absurd b (by decide))

/-- The audit log with no more entries than before. -/
theorem alter_auditAny (s : State) (v : AuditLog) (h : v.buf.length ≤ s.audit.buf.length) :
    Alter (2 ^ 75 ||| 2 ^ 121) s { s with audit := v } := by
  constructor
  case inv => exact fun _ i => { i with audit := Nat.le_trans h i.audit }
  all_goals intros
  all_goals first | rfl | exact List.prefix_refl _ | exact Nat.le_refl _ | assumption | (rename_i b; exact absurd b (by decide))

/-- The event log with no more entries than before. -/
theorem alter_evAny (s : State) (v : EvLog) (h : v.buf.length ≤ s.ev.buf.length) :
    Alter (2 ^ 74 ||| 2 ^ 120) s { s with ev := v } := by
  constructor
  case inv => exact fun _ i => { i with events := Nat.le_trans h i.events }
  all_goals intros
  all_goals first | rfl | exact List.prefix_refl _ | exact Nat.le_refl _ | assumption | (rename_i b; exact absurd b (by decide))

/-- One more entry in the event buffer while it has room. -/
theorem alter_evPush (s : State) (x : EvEntry) (h : s.ev.buf.length < 16384) :
    Alter (2 ^ 74) s { s with ev := { s.ev with buf := s.ev.buf ++ [x] } } := by
  constructor
  case evGrows => exact fun _ => ⟨[x], rfl⟩
  case inv => exact fun _ i => { i with events := by simpa using h }
  all_goals intros
  all_goals first | rfl | exact List.prefix_refl _ | exact Nat.le_refl _ | assumption | (rename_i b; exact absurd b (by decide))

/-- One more entry in the audit buffer while it has room. -/
theorem alter_auditPut (s : State) (x : AuditEntry) (c : Nat) (h : s.audit.buf.length < 16384) :
    Alter (2 ^ 75) s { s with audit := { s.audit with buf := s.audit.buf ++ [x], chain := c } } := by
  constructor
  case auditGrows => exact fun _ => ⟨[x], rfl⟩
  case inv => exact fun _ i => { i with audit := by simpa using h }
  all_goals intros
  all_goals first | rfl | exact List.prefix_refl _ | exact Nat.le_refl _ | assumption | (rename_i b; exact absurd b (by decide))

/-- The sessions replaced by others in order, at most four. -/
theorem alter_sessions (s : State) (v : AMap Session) (h : s.Inv → AMap.rising 0 v = true ∧ v.length ≤ 4) :
    Alter (2 ^ 80) s { s with sessions := v } := by
  constructor
  case inv => exact fun _ i => { i with order := (h i).1, four := (h i).2 }
  all_goals intros
  all_goals first | rfl | exact List.prefix_refl _ | exact Nat.le_refl _ | assumption | (rename_i b; exact absurd b (by decide))


/-! ### Applying an operation to each element -/

theorem alter_forEach {α : Type} {m : Nat} (l : List α) (f : α → State → State) (s : State)
    (h : ∀ a x, Alter m x (f a x)) : Alter m s (forEach l f s) := by
  unfold forEach
  induction l generalizing s with
  | nil => exact Alter.refl _ _
  | cons a t ih => exact (h a s).and (ih (f a s))

theorem alter_foldl {α : Type} {m : Nat} (l : List α) (f : State → α → State) (s : State)
    (h : ∀ x a, Alter m x (f x a)) : Alter m s (l.foldl f s) := by
  induction l generalizing s with
  | nil => exact Alter.refl _ _
  | cons a t ih => exact (h s a).and (ih (f s a))

theorem alter_foldl_snd {α β : Type} {m : Nat} (l : List α) (f : β × State → α → β × State) (p : β × State)
    (h : ∀ x a, Alter m x.2 (f x a).2) : Alter m p.2 (l.foldl f p).2 := by
  induction l generalizing p with
  | nil => exact Alter.refl _ _
  | cons a t ih => exact (h p a).and (ih (f p a))

theorem alter_foldl_fst {α β : Type} {m : Nat} (l : List α) (f : State × β → α → State × β) (p : State × β)
    (h : ∀ x a, Alter m x.1 (f x a).1) : Alter m p.1 (l.foldl f p).1 := by
  induction l generalizing p with
  | nil => exact Alter.refl _ _
  | cons a t ih => exact (h p a).and (ih (f p a))

/-! ### Registers -/

theorem rm_any {m : Nat} (i : Nat) (e : (2 ^ 67 ||| (2 ^ 64 - 1)) ||| m = m) : rm i ||| m = m := by
  have h : rm i ||| (2 ^ 67 ||| (2 ^ 64 - 1)) = 2 ^ 67 ||| (2 ^ 64 - 1) := by
    by_cases hi : i < 64
    · have := hi
      unfold rm
      rw [if_pos hi]
      interval_cases i <;> decide
    · rw [rm, if_neg hi]; decide
  rw [← e, ← Nat.or_assoc, h]

theorem alter_setFld (i : Nat) (f : Fld) (x : Nat) (s : State) : Alter (rm i) s (s.setFld i f x) := alter_setReg ..
theorem alter_setBit (i : Nat) (f : Fld) (b : Bool) (s : State) : Alter (rm i) s (s.setBit i f b) := alter_setReg ..
theorem alter_incFld (i : Nat) (f : Fld) (k : Nat) (s : State) : Alter (rm i) s (s.incFld i f k) := alter_setReg ..
theorem alter_setBitAt (i : Nat) (f : Fld) (b : Nat) (on : Bool) (s : State) : Alter (rm i) s (s.setBitAt i f b on) :=
  alter_setReg ..
theorem alter_setSfld (i : Nat) (f : Fld) (x : Int) (s : State) : Alter (rm i) s (s.setSfld i f x) := alter_setReg ..

theorem alter_until (t : Nat) (s : State) : Alter (2 ^ 65 ||| 2 ^ 66) s (s.until t) := alter_tick ..
theorem alter_untilEl (t : Nat) (s : State) : Alter (2 ^ 65 ||| 2 ^ 66) s (s.untilEl t) := alter_tick ..
theorem alter_draw (w : Nat) (s : State) : Alter (2 ^ 68) s (s.draw w).2 := alter_free s _ (Nat.le_succ _)

/-! ### The event log -/

/-- What raising an event may change: the registers of `logRegs`, the log, and the recorder it may trigger. -/
abbrev evM : Nat := 2 ^ 67 ||| 2 ^ 74 ||| 2 ^ 76

theorem alter_evAppend (code subj flags stamp : Nat) (det : List Byte) (s : State) (h : s.ev.buf.length < 16384) :
    Alter evM s (evAppend code subj flags stamp det s) := by
  unfold evAppend
  refine Alter.step ?_ (alter_setFld ..) (rm_high (by decide) rfl)
  refine Alter.step ?_ (alter_setFld ..) (rm_high (by decide) rfl)
  exact (alter_evPush s _ h).mono rfl

theorem alter_evIrq (code : Nat) (s : State) : Alter evM s (evIrq code s) := by
  unfold evIrq
  extract_lets c x
  have h : Alter evM s x := by
    unfold x
    split
    · exact (alter_setBit ..).mono (rm_high (by decide) rfl)
    · exact Alter.refl _ _
  clear_value x
  split
  · exact h.step (alter_setBit ..) (rm_high (by decide) rfl)
  · exact h

theorem alter_evLog (code subj flags stamp : Nat) (det : List Byte) (s : State) :
    Alter evM s (evLog code subj flags stamp det s).2 := by
  unfold evLog
  split
  · rename_i h
    extract_lets s1 s2
    have h1 : Alter evM s s1 := by
      unfold s1
      refine Alter.step ?_ (alter_setBit ..) (rm_high (by decide) rfl)
      exact (alter_incFld ..).mono (rm_high (by decide) rfl)
    have h2 : Alter evM s s2 := by
      unfold s2
      split
      · rename_i e
        refine h1.and ((alter_evAppend _ _ _ _ _ s1 ?_).and (alter_evIrq ..))
        have : s1.ev.buf = s.ev.buf := rfl
        rw [this, e.2]
        decide
      · exact h1
    clear_value s1 s2
    exact h2.step (alter_ev _ _ rfl) rfl
  · rename_i h
    refine (alter_evAppend _ _ _ _ _ s ?_).and (alter_evIrq ..)
    omega

theorem alter_recStart (kind code t : Nat) (s : State) : Alter evM s (recStart kind code t s) := by
  unfold recStart
  refine Alter.step ?_ (alter_setFld ..) (rm_high (by decide) rfl)
  refine Alter.step ?_ (alter_setFld ..) (rm_high (by decide) rfl)
  exact (alter_rcd ..).mono rfl

theorem alter_raiseF (n code subj stamp : Nat) (det : List Byte) (s : State) :
    Alter evM s (raiseF n code subj stamp det s) := by
  induction n generalizing code subj stamp det s with
  | zero => exact alter_evLog ..
  | succ n ih =>
    unfold raiseF
    split
    rename_i ok s' e
    have h : Alter evM s s' := (congrArg (Alter _ _) (congrArg Prod.snd e)).mp (alter_evLog ..)
    split
    · split
      · exact (h.and (alter_recStart ..)).and (ih ..)
      · extract_lets f s1 r s2
        have h2 : Alter evM s s2 := by
          unfold s2 s1
          refine Alter.step ?_ (alter_rcd ..) rfl
          refine Alter.step ?_ (alter_setBit ..) (rm_high (by decide) rfl)
          exact h.step (alter_incFld ..) (rm_high (by decide) rfl)
        clear_value s2
        split
        · exact h2.and (ih ..)
        · exact h2
    · exact h

theorem alter_raiseAt (t code subj : Nat) (vals : List (Nat × Nat)) (s : State) : Alter evM s (s.raiseAt t code subj vals) := by
  unfold State.raiseAt
  split
  · exact alter_raiseF ..
  · exact Alter.refl _ _

theorem alter_raise (code subj : Nat) (vals : List (Nat × Nat)) (s : State) : Alter evM s (s.raise code subj vals) :=
  alter_raiseAt ..

/-! ### The audit log -/

theorem alter_auditPush_room (a : AuditEntry) (s : State) (h : s.audit.buf.length < 16384) :
    Alter (2 ^ 67 ||| 2 ^ 75) s (auditPush a s) := by
  unfold auditPush
  refine Alter.step ?_ (alter_setFld ..) (rm_high (by decide) rfl)
  refine Alter.step ?_ (alter_setFld ..) (rm_high (by decide) rfl)
  exact (alter_auditPut s _ _ h).mono rfl

theorem alter_auditAdd (a : AuditEntry) (s : State) : Alter (2 ^ 67 ||| 2 ^ 75) s (s.auditAdd a) := by
  unfold State.auditAdd
  split
  · refine Alter.step ?_ (alter_audit _ _ rfl) rfl
    refine Alter.step ?_ (alter_setBit ..) (rm_high (by decide) rfl)
    exact (alter_incFld ..).mono (rm_high (by decide) rfl)
  · rename_i h
    refine alter_auditPush_room _ _ ?_
    simp only [State.auditFull, decide_eq_true_eq] at h
    omega

/-! ### Choices -/

theorem alter_ite {m : Nat} {s a b : State} {c : Prop} [Decidable c] (h : c → Alter m s a) (k : ¬c → Alter m s b) :
    Alter m s (if c then a else b) := by
  split
  · exact h ‹_›
  · exact k ‹_›

theorem alter_ite_snd {m : Nat} {α : Type} {s : State} {a b : α × State} {c : Prop} [Decidable c]
    (h : c → Alter m s a.2) (k : ¬c → Alter m s b.2) : Alter m s (if c then a else b).2 := by
  split
  · exact h ‹_›
  · exact k ‹_›

theorem alter_ite_s {m : Nat} {s : State} {a b : WOut} {c : Prop} [Decidable c]
    (h : c → Alter m s a.s) (k : ¬c → Alter m s b.s) : Alter m s (if c then a else b).s := by
  split
  · exact h ‹_›
  · exact k ‹_›

theorem alter_ite_ran {m : Nat} {s : State} {a b : Ran} {c : Prop} [Decidable c]
    (h : c → Alter m s a.s) (k : ¬c → Alter m s b.s) : Alter m s (if c then a else b).s := by
  split
  · exact h ‹_›
  · exact k ‹_›

theorem alter_ite_item {m : Nat} {s : State} {a b : ItemOut} {c : Prop} [Decidable c]
    (h : c → Alter m s a.o.s) (k : ¬c → Alter m s b.o.s) : Alter m s (if c then a else b).o.s := by
  split
  · exact h ‹_›
  · exact k ‹_›

theorem verdict_ite {P : Verdict → Prop} {a b : Verdict} {c : Prop} [Decidable c] (h : c → P a) (k : ¬c → P b) :
    P (if c then a else b) := by
  split
  · exact h ‹_›
  · exact k ‹_›

theorem alter_WOut_of {m : Nat} {t : State} (mode range busy : Bool) (go : State → State) (s : State) (h : Alter m t s)
    (hg : Alter m t (go s)) : Alter m t (WOut.of mode range busy go s).s := by
  unfold WOut.of
  refine alter_ite_s (fun _ => h) (fun _ => alter_ite_s (fun _ => h) (fun _ => alter_ite_s (fun _ => h) (fun _ => hg)))

theorem alter_WOut_ofStatus {m : Nat} {t : State} (p : Nat × State) (h : Alter m t p.2) :
    Alter m t (WOut.ofStatus p).s :=
  alter_ite_s (fun _ => h) (fun _ => h)

theorem alter_Ran_priv {m : Nat} {t : State} (r : Req) (s : State) (go : State → Nat × State) (h : Alter m t s)
    (hg : Alter m t (go s).2) : Alter m t (Ran.priv r s go).s :=
  alter_ite_ran (fun _ => hg) (fun _ => h)


/-- The command answers a next state, and nothing but what the bitmap names differs in it. -/
def Ends (m : Nat) (s : State) (o : Host.Outcome State Fault Refusal) : Prop := ∃ t, o = .next t ∧ Alter m s t

theorem ends_next {m : Nat} {s t : State} (h : Alter m s t) : Ends m s (.next t) := ⟨t, rfl, h⟩

theorem ends_ite {m : Nat} {s : State} {a b : Host.Outcome State Fault Refusal} {c : Prop} [Decidable c]
    (h : c → Ends m s a) (k : ¬c → Ends m s b) : Ends m s (if c then a else b) := by
  split
  · exact h ‹_›
  · exact k ‹_›

end Sys2Proof.Machine
end

