-- ==== Sys2Proof/Laws/Ops.lean ====
section
/-! SUPPORT. What each operation of `Sys2Proof.Machine.Ops` may change (`Alter`), one lemma an operation; for a command,
that it answers a next state (`Ends`). -/

namespace Sys2Proof.Machine

theorem alter_setAdc (n : Nat) (x : Adc) (s : State) : Alter 9903520314283042199192993792 s (State.setAdc n x s) := by
  unfold State.setAdc
  refine Alter.step ?_ (alter_meas _ _) rfl
  exact Alter.refl _ _

theorem alter_setXf (k : Nat) (x : Xf) (s : State) : Alter 9903520314283042199192993792 s (State.setXf k x s) := by
  unfold State.setXf
  refine Alter.step ?_ (alter_meas _ _) rfl
  exact Alter.refl _ _

theorem alter_setQue (q : Nat) (x : Que) (s : State) : Alter 9903520314283042199192993792 s (State.setQue q x s) := by
  unfold State.setQue
  refine Alter.step ?_ (alter_meas _ _) rfl
  exact Alter.refl _ _

theorem alter_setSent (r : Nat) (x : Sent) (s : State) : Alter 9903520314283042199192993792 s (State.setSent r x s) := by
  unfold State.setSent
  refine Alter.step ?_ (alter_meas _ _) rfl
  exact Alter.refl _ _

theorem alter_setGraph (g : Nat) (x : Graph) (s : State) : Alter 19807040628566084398385987584 s (State.setGraph g x s) := by
  unfold State.setGraph
  refine Alter.step ?_ (alter_eng _ _) rfl
  exact Alter.refl _ _

theorem alter_setHand (h : Nat) (x : Hand) (s : State) : Alter 19807040628566084398385987584 s (State.setHand h x s) := by
  unfold State.setHand
  refine Alter.step ?_ (alter_eng _ _) rfl
  exact Alter.refl _ _

theorem alter_setTrx (m : Nat) (x : Trx) (s : State) : Alter 39614081257132168796771975168 s (State.setTrx m x s) := by
  unfold State.setTrx
  refine Alter.step ?_ (alter_trx _ _) rfl
  exact Alter.refl _ _

theorem alter_setAct (a : Nat) (x : ActSt) (s : State) : Alter 1267650600228229401496703205376 s (State.setAct a x s) := by
  unfold State.setAct
  refine Alter.step ?_ (alter_act _ _) rfl
  exact Alter.refl _ _

theorem alter_setSp (k : Nat) (v : Reg) (s : State) : Alter 19807040628566084398385987584 s (State.setSp k v s) := by
  unfold State.setSp
  refine Alter.step ?_ (alter_eng _ _) rfl
  exact Alter.refl _ _

theorem alter_setLife (n : Nat) (x : LifeIsl) (s : State) : Alter 5070602400912917605986812821504 s (State.setLife n x s) := by
  unfold State.setLife
  refine Alter.step ?_ (alter_life _ _) rfl
  exact Alter.refl _ _

theorem alter_setEst (n : Nat) (x : LifeEst) (s : State) : Alter 5070602400912917605986812821504 s (State.setEst n x s) := by
  unfold State.setEst
  refine Alter.step ?_ (alter_life _ _) rfl
  exact Alter.refl _ _

theorem alter_flagRaise {m : Nat} (i : Nat) (f : Fld) (code subj : Nat) (vals : List (Nat × Nat)) (s : State)
    (h : rm i ||| m = m) (e : evM ||| m = m := by rfl) : Alter m s (s.flagRaise i f code subj vals) := by
  unfold State.flagRaise
  split
  · exact Alter.refl _ _
  · exact ((alter_setBit ..).mono h).step (alter_raise ..) e

end Sys2Proof.Machine
end

