-- ==== Sys2Proof/Laws/Journal.lean ====
section
/-! SUPPORT. What each operation of `Sys2Proof.Machine.Journal` may change (`Alter`), one lemma an operation; for a command,
that it answers a next state (`Ends`). -/

namespace Sys2Proof.Machine

theorem alter_jShow (s : State) : Alter 147573952589676412928 s (jShow s) := by
  unfold jShow
  refine Alter.step ?_ (alter_setFld ..) (by decide)
  exact Alter.refl _ _

theorem alter_jDefer (k : Nat) (s : State) : Alter 81129638509201585305771585830912 s (jDefer k s) := by
  unfold jDefer
  extract_lets +onlyGivenNames x1
  have h2 : Alter 81129638509201585305771585830912 s x1 := by
    unfold x1
    refine Alter.step ?_ (alter_setBit ..) (by decide)
    refine Alter.step ?_ (alter_incFld ..) (by decide)
    exact Alter.refl _ _
  clear_value x1
  extract_lets +onlyGivenNames x3
  subst x3
  extract_lets +onlyGivenNames x4
  subst x4
  extract_lets +onlyGivenNames x5
  have h6 : Alter 81129638509201585305771585830912 s x5 := by
    unfold x5
    refine Alter.step ?_ (alter_glove _ _) rfl
    assumption
  clear_value x5
  refine alter_ite (fun _ => ?_) (fun _ => ?_)
  · assumption
  · refine Alter.step ?_ (alter_raise ..) rfl
    assumption

theorem alter_haltAsk (p : Nat) (why : Nat) (s : State) : Alter 81129638414754255648378681556992 s (haltAsk p why s) := by
  unfold haltAsk
  refine alter_ite (fun _ => ?_) (fun _ => ?_)
  · exact Alter.refl _ _
  · extract_lets +onlyGivenNames x1
    have h2 : Alter 81129638414754255648378681556992 s x1 := by
      unfold x1
      refine Alter.step ?_ (alter_setBit ..) (by decide)
      exact Alter.refl _ _
    clear_value x1
    refine Alter.step ?_ (alter_glove _ _) rfl
    assumption

theorem alter_breakMet (seq : Nat) (s : State) : Alter 81129638414754255648378681556992 s (breakMet seq s) := by
  unfold breakMet
  refine alter_ite (fun _ => ?_) (fun _ => ?_)
  · refine Alter.step ?_ (alter_haltAsk ..) rfl
    exact Alter.refl _ _
  · exact Alter.refl _ _

theorem alter_jPut (src : Nat) (body : JBody) (s : State) : Alter 81129638509201585305771585830912 s (jPut src body s) := by
  unfold jPut
  extract_lets +onlyGivenNames x1
  subst x1
  extract_lets +onlyGivenNames x2
  subst x2
  extract_lets +onlyGivenNames x3
  subst x3
  extract_lets +onlyGivenNames x4
  subst x4
  extract_lets +onlyGivenNames x5
  subst x5
  extract_lets +onlyGivenNames x6
  subst x6
  extract_lets +onlyGivenNames x7
  have h8 : Alter 81129638509201585305771585830912 s x7 := by
    unfold x7
    refine Alter.step ?_ (alter_glove _ _) rfl
    exact Alter.refl _ _
  clear_value x7
  extract_lets +onlyGivenNames x9
  have h10 : Alter 81129638509201585305771585830912 s x9 := by
    unfold x9
    refine Alter.step ?_ (alter_setFld ..) (by decide)
    assumption
  clear_value x9
  extract_lets +onlyGivenNames x11
  have h12 : Alter 81129638509201585305771585830912 s x11 := by
    unfold x11
    refine Alter.step ?_ (alter_jShow ..) rfl
    refine Alter.step ?_ (alter_setFld ..) (by decide)
    assumption
  clear_value x11
  refine alter_ite (fun _ => ?_) (fun _ => ?_)
  · refine Alter.step ?_ (alter_breakMet ..) rfl
    assumption
  · refine Alter.step ?_ (alter_jDefer ..) rfl
    assumption

theorem alter_jWrite (src : Nat) (body : JBody) (s : State) : Alter 81129638509201585305771585830912 s (jWrite src body s) := by
  unfold jWrite
  refine alter_ite (fun _ => ?_) (fun _ => ?_)
  · exact Alter.refl _ _
  · refine alter_ite (fun _ => ?_) (fun _ => ?_)
    · refine alter_ite (fun _ => ?_) (fun _ => ?_)
      · exact Alter.refl _ _
      · refine Alter.step ?_ (alter_glove _ _) rfl
        exact Alter.refl _ _
    · refine alter_ite (fun _ => ?_) (fun _ => ?_)
      · refine Alter.step ?_ (alter_glove _ _) rfl
        exact Alter.refl _ _
      · refine Alter.step ?_ (alter_jPut ..) rfl
        exact Alter.refl _ _

theorem alter_jDrain (n : Nat) (s : State) : Alter 81129638509201585305771585830912 s (jDrain n s) := by
  induction n generalizing s with
  | zero => exact Alter.refl _ _
  | succ n ih =>
    unfold jDrain
    split
    · exact Alter.refl _ _
    · split
      · exact Alter.refl _ _
      · refine Alter.and ?_ (ih _)
        refine Alter.step ?_ (alter_jPut ..) rfl
        exact (alter_glove ..).mono rfl

theorem alter_jFree (k : Nat) (s : State) : Alter 81129638414754255648378681556992 s (jFree k s) := by
  unfold jFree
  extract_lets +onlyGivenNames x1
  subst x1
  refine Alter.step ?_ (alter_jShow ..) rfl
  refine Alter.step ?_ (alter_glove _ _) rfl
  exact Alter.refl _ _

theorem alter_gloveResume (s : State) : Alter 81129638509201585305771585830912 s (gloveResume s) := by
  unfold gloveResume
  extract_lets +onlyGivenNames x1
  subst x1
  refine alter_ite (fun _ => ?_) (fun _ => ?_)
  · extract_lets +onlyGivenNames x2
    have h3 : Alter 81129638509201585305771585830912 s x2 := by
      unfold x2
      refine Alter.step ?_ (alter_setBit ..) (by decide)
      refine Alter.step ?_ (alter_setBit ..) (by decide)
      exact Alter.refl _ _
    clear_value x2
    extract_lets +onlyGivenNames x4
    subst x4
    extract_lets +onlyGivenNames x5
    have h6 : Alter 81129638509201585305771585830912 s x5 := by
      unfold x5
      refine Alter.step ?_ (alter_glove _ _) rfl
      assumption
    clear_value x5
    refine Alter.step ?_ (alter_raise ..) rfl
    assumption
  · extract_lets +onlyGivenNames x7
    have h8 : Alter 81129638509201585305771585830912 s x7 := by
      unfold x7
      refine Alter.step ?_ (alter_setBit ..) (by decide)
      exact Alter.refl _ _
    clear_value x7
    refine Alter.step ?_ (alter_glove _ _) rfl
    assumption

theorem alter_journalWrite (src : Nat) (s : State) : Alter 81129638509201585305771585830912 s (journalWrite src s) := by
  unfold journalWrite
  refine alter_ite (fun _ => ?_) (fun _ => ?_)
  · refine Alter.step ?_ (alter_jWrite ..) rfl
    exact Alter.refl _ _
  · exact Alter.refl _ _

theorem alter_execJournalWrite (e : Nat) (src : Fin 16) (s : State) : Ends 81129638509312265770213843140608 s (execJournalWrite e src s) := by
  unfold execJournalWrite
  refine ends_next ?_
  refine Alter.step ?_ (alter_journalWrite ..) rfl
  refine Alter.step ?_ (alter_tick ..) rfl
  exact Alter.refl _ _

end Sys2Proof.Machine
end

