-- ==== Sys2Proof/Laws/Wiring.lean ====
section
/-! SUPPORT. What each operation of `Sys2Proof.Machine.Wiring` may change (`Alter`), one lemma an operation; for a command,
that it answers a next state (`Ends`). -/

namespace Sys2Proof.Machine

theorem alter_seqAbandon (n : Nat) (s : State) : Alter 9903520461856994788869406720 s (seqAbandon n s) := by
  unfold seqAbandon
  refine alter_ite (fun _ => ?_) (fun _ => ?_)
  · refine Alter.step ?_ (alter_setBit ..) (rm_high (by simp only [R.ADC_AD_STAT]; omega) rfl)
    refine Alter.step ?_ (alter_setAdc ..) rfl
    exact Alter.refl _ _
  · exact Alter.refl _ _

theorem alter_failReport (f : PFail) (s : State) : Alter 10141204801825835211973625643008 s (failReport f s) := by
  unfold failReport
  refine Alter.step ?_ (alter_plc _ _) rfl
  exact Alter.refl _ _

theorem alter_xfDiscard (id : Nat) (run : Bool) (s : State) : Alter 94594903609982580686848 s (xfDiscard id run s) := by
  unfold xfDiscard
  extract_lets +onlyGivenNames x1
  have h2 : Alter 94594903609982580686848 s x1 := by
    unfold x1
    refine Alter.step ?_ (alter_setFld ..) (by decide)
    refine Alter.step ?_ (alter_incFld ..) (by decide)
    exact Alter.refl _ _
  clear_value x1
  extract_lets +onlyGivenNames x3
  have h4 : Alter 94594903609982580686848 s x3 := by
    unfold x3
    refine Alter.step ?_ (alter_setBit ..) (by decide)
    assumption
  clear_value x3
  refine alter_ite (fun _ => ?_) (fun _ => ?_)
  · assumption
  · refine Alter.step ?_ (alter_raise ..) rfl
    assumption

theorem alter_fifoMet (k : Nat) (full : Bool) (s : State) : Alter 9903614909186652181773680640 s (fifoMet k full s) := by
  unfold fifoMet
  extract_lets +onlyGivenNames x1
  subst x1
  refine alter_ite (fun _ => ?_) (fun _ => ?_)
  · refine Alter.step ?_ (alter_xfDiscard ..) rfl
    refine Alter.step ?_ (alter_setXf ..) rfl
    exact Alter.refl _ _
  · refine Alter.step ?_ (alter_setXf ..) rfl
    exact Alter.refl _ _

theorem alter_fifoMetN (k : Nat) (n : Nat) (s : State) : Alter 9903614909186652181773680640 s (fifoMetN k n s) := by
  unfold fifoMetN
  refine alter_ite (fun _ => ?_) (fun _ => ?_)
  · refine Alter.step ?_ (alter_fifoMet ..) rfl
    exact Alter.refl _ _
  · refine Alter.step ?_ (alter_incFld ..) (by decide)
    refine Alter.step ?_ (alter_fifoMet ..) rfl
    exact Alter.refl _ _

theorem alter_noticeSend (code : Nat) (subj : Nat) (s : State) : Alter 9903614909186652181773680640 s (noticeSend code subj s) := by
  unfold noticeSend
  extract_lets +onlyGivenNames x1
  subst x1
  extract_lets +onlyGivenNames x2
  have h3 : Alter 9903614909186652181773680640 s x2 := by
    unfold x2
    refine Alter.step ?_ (alter_fifoMet ..) rfl
    exact Alter.refl _ _
  clear_value x2
  refine alter_ite (fun _ => ?_) (fun _ => ?_)
  · assumption
  · refine Alter.step ?_ (alter_raise ..) rfl
    assumption

end Sys2Proof.Machine
end

