-- ==== Sys2Proof/Laws/Gates.lean ====
section
/-! SUPPORT. What each operation of `Sys2Proof.Machine.Gates` may change (`Alter`), one lemma an operation; for a command,
that it answers a next state (`Ends`). -/

namespace Sys2Proof.Machine

theorem alter_setVerdict (k : Nat) (v : Nat) (s : State) : Alter 147573952589676412928 s (setVerdict k v s) := by
  unfold setVerdict
  refine Alter.step ?_ (alter_setFld ..) (rm_high (by simp only [R.PROT_PRE_VERD]; omega) rfl)
  exact Alter.refl _ _

theorem alter_endVerdict (c : Nat) (s : State) : Alter 309485009821345068724781056 s (endVerdict c s) := by
  unfold endVerdict
  refine Alter.step ?_ (alter_setConv ..) rfl
  exact Alter.refl _ _

theorem alter_clampShow (n : Nat) (s : State) : Alter 147573952589676412928 s (clampShow n s) := by
  unfold clampShow
  refine Alter.step ?_ (alter_setBit ..) (rm_high (by simp only [R.ISL_STAT]; omega) rfl)
  exact Alter.refl _ _

theorem alter_setGate (g : Nat) (step : Nat) (on : Bool) (s : State) : Alter 77371400029288856857608192 s (setGate g step on s) := by
  unfold setGate
  refine alter_ite (fun _ => ?_) (fun _ => ?_)
  · refine Alter.step ?_ (alter_setBitAt ..) (by decide)
    exact Alter.refl _ _
  · extract_lets +onlyGivenNames x1
    subst x1
    extract_lets +onlyGivenNames x2
    have h3 : Alter 77371400029288856857608192 s x2 := by
      unfold x2
      refine alter_ite (fun _ => ?_) (fun _ => ?_)
      · exact Alter.refl _ _
      · refine Alter.step ?_ (alter_setIsl ..) rfl
        exact Alter.refl _ _
    clear_value x2
    refine Alter.step ?_ (alter_clampShow ..) rfl
    refine Alter.step ?_ (alter_setBit ..) (rm_high (by simp only [R.ISL_STAT]; omega) rfl)
    assumption

theorem alter_startProf (n : Nat) (step : Nat) (on : Bool) (prof : Option Nat) (s : State) : Alter 77371252455336267181195264 s (startProf n step on prof s) := by
  unfold startProf
  refine alter_ite (fun _ => ?_) (fun _ => ?_)
  · exact Alter.refl _ _
  · extract_lets +onlyGivenNames x1
    subst x1
    refine Alter.step ?_ (alter_setIsl ..) rfl
    exact Alter.refl _ _

theorem alter_leaveFallback (g : Nat) (s : State) : Alter 147573952589676412928 s (leaveFallback g s) := by
  unfold leaveFallback
  refine alter_ite (fun _ => ?_) (fun _ => ?_)
  · exact Alter.refl _ _
  · refine Alter.step ?_ (alter_setBit ..) (rm_high (by simp only [R.ISL_STAT]; omega) rfl)
    exact Alter.refl _ _

theorem alter_gateOffP (prof : Option Nat) (g : Nat) (step : Nat) (s : State) : Alter 77371400029288856857608192 s (gateOffP prof g step s) := by
  unfold gateOffP
  extract_lets +onlyGivenNames x1
  subst x1
  extract_lets +onlyGivenNames x2
  have h3 : Alter 77371400029288856857608192 s x2 := by
    unfold x2
    refine Alter.step ?_ (alter_setIsl ..) rfl
    exact Alter.refl _ _
  clear_value x2
  refine alter_ite (fun _ => ?_) (fun _ => ?_)
  · extract_lets +onlyGivenNames x4
    have h5 : Alter 77371400029288856857608192 s x4 := by
      unfold x4
      refine alter_ite (fun _ => ?_) (fun _ => ?_)
      · refine Alter.step ?_ (alter_startProf ..) rfl
        assumption
      · assumption
    clear_value x4
    refine Alter.step ?_ (alter_leaveFallback ..) rfl
    refine Alter.step ?_ (alter_setGate ..) rfl
    assumption
  · assumption

theorem alter_gateOff (g : Nat) (step : Nat) (s : State) : Alter 77371400029288856857608192 s (gateOff g step s) := by
  unfold gateOff
  refine Alter.step ?_ (alter_gateOffP ..) rfl
  exact Alter.refl _ _

theorem alter_shootBlock (k : Nat) (s : State) : Alter 619064614546300120030248960 s (shootBlock k s) := by
  unfold shootBlock
  extract_lets +onlyGivenNames x1
  have h2 : Alter 619064614546300120030248960 s x1 := by
    unfold x1
    refine Alter.step ?_ (alter_incFld ..) (by decide)
    refine Alter.step ?_ (alter_setFld ..) (by decide)
    exact Alter.refl _ _
  clear_value x1
  extract_lets +onlyGivenNames x3
  have h4 : Alter 619064614546300120030248960 s x3 := by
    unfold x3
    refine Alter.step ?_ (alter_setBit ..) (by decide)
    refine Alter.step ?_ (alter_setBitAt ..) (by decide)
    assumption
  clear_value x3
  extract_lets +onlyGivenNames x5
  subst x5
  refine alter_ite (fun _ => ?_) (fun _ => ?_)
  · refine Alter.step ?_ (alter_raise ..) rfl
    refine Alter.step ?_ (alter_setUnit ..) rfl
    assumption
  · assumption

theorem alter_gateOnP (prof : Option Nat) (g : Nat) (step : Nat) (s : State) : Alter 696435867001636387211444224 s (gateOnP prof g step s) := by
  unfold gateOnP
  split
  · rename_i z1 z2
    exact Alter.refl _ _
  · rename_i z3 z4 z5
    extract_lets +onlyGivenNames x6
    subst x6
    extract_lets +onlyGivenNames x7
    subst x7
    extract_lets +onlyGivenNames x8
    subst x8
    extract_lets +onlyGivenNames x9
    subst x9
    refine alter_ite (fun _ => ?_) (fun _ => ?_)
    · exact Alter.refl _ _
    · refine alter_ite (fun _ => ?_) (fun _ => ?_)
      · extract_lets +onlyGivenNames x10
        have h11 : Alter 696435867001636387211444224 s x10 := by
          unfold x10
          split
          · rename_i z12 z13 z14
            refine Alter.step ?_ (alter_shootBlock ..) rfl
            refine Alter.step ?_ (alter_gateOff ..) rfl
            exact Alter.refl _ _
          · rename_i z15 z16
            exact Alter.refl _ _
        clear_value x10
        refine Alter.step ?_ (alter_shootBlock ..) rfl
        refine Alter.step ?_ (alter_setIsl ..) rfl
        assumption
      · refine alter_ite (fun _ => ?_) (fun _ => ?_)
        · refine Alter.step ?_ (alter_shootBlock ..) rfl
          refine Alter.step ?_ (alter_setIsl ..) rfl
          exact Alter.refl _ _
        · extract_lets +onlyGivenNames x17
          have h18 : Alter 696435867001636387211444224 s x17 := by
            unfold x17
            refine Alter.step ?_ (alter_setIsl ..) rfl
            exact Alter.refl _ _
          clear_value x17
          refine alter_ite (fun _ => ?_) (fun _ => ?_)
          · refine Alter.step ?_ (alter_leaveFallback ..) rfl
            refine Alter.step ?_ (alter_setGate ..) rfl
            refine alter_ite (fun _ => ?_) (fun _ => ?_)
            · assumption
            · refine Alter.step ?_ (alter_startProf ..) rfl
              assumption
          · assumption

theorem alter_gateOnCmd (g : Nat) (step : Nat) (s : State) : Alter 696435867001636387211444224 s (gateOnCmd g step s) := by
  unfold gateOnCmd
  refine Alter.step ?_ (alter_gateOnP ..) rfl
  exact Alter.refl _ _

theorem alter_gatesOff (gs : List Nat) (s : State) : Alter 77371400029288856857608192 s (gatesOff gs s) := by
  unfold gatesOff
  refine Alter.and ?_ (alter_forEach _ _ _ ?_)
  · exact Alter.refl _ _
  · intro a1 b2
    beta_reduce
    refine Alter.step ?_ (alter_gateOff ..) rfl
    exact Alter.refl _ _

theorem alter_gatesOn (gs : List Nat) (s : State) : Alter 696435867001636387211444224 s (gatesOn gs s) := by
  unfold gatesOn
  refine Alter.and ?_ (alter_forEach _ _ _ ?_)
  · exact Alter.refl _ _
  · intro a1 b2
    beta_reduce
    refine Alter.step ?_ (alter_gateOnCmd ..) rfl
    exact Alter.refl _ _

theorem alter_unitDark (k : Nat) (s : State) : Alter 696341419671978994307170304 s (unitDark k s) := by
  unfold unitDark
  extract_lets +onlyGivenNames x1
  subst x1
  extract_lets +onlyGivenNames x2
  have h3 : Alter 696341419671978994307170304 s x2 := by
    unfold x2
    refine Alter.step ?_ (alter_setUnit ..) rfl
    exact Alter.refl _ _
  clear_value x2
  extract_lets +onlyGivenNames x4
  have h5 : Alter 696341419671978994307170304 s x4 := by
    unfold x4
    refine Alter.step ?_ (alter_setFld ..) (rm_high (by simp only [R.PWM_HB_CARRY]; omega) rfl)
    refine Alter.step ?_ (alter_setFld ..) (rm_high (by simp only [R.PWM_HB_CARRY]; omega) rfl)
    assumption
  clear_value x4
  refine Alter.step ?_ (alter_gatesOff ..) rfl
  refine Alter.step ?_ (alter_setBit ..) (rm_high (by simp only [R.PWM_HB_STAT]; omega) rfl)
  assumption

theorem alter_forceEnd (s : State) : Alter 77371400029288856857608192 s (forceEnd s) := by
  unfold forceEnd
  refine alter_ite (fun _ => ?_) (fun _ => ?_)
  · refine Alter.step ?_ (alter_gatesOff ..) rfl
    refine Alter.step ?_ (alter_setBit ..) (by decide)
    exact Alter.refl _ _
  · exact Alter.refl _ _

theorem alter_convDark (c : Nat) (s : State) : Alter 696341419671978994307170304 s (convDark c s) := by
  unfold convDark
  refine Alter.and ?_ (alter_forEach _ _ _ ?_)
  · exact Alter.refl _ _
  · intro a1 b2
    beta_reduce
    refine Alter.step ?_ (alter_unitDark ..) rfl
    exact Alter.refl _ _

theorem alter_carriesClear (s : State) : Alter 618970167216642727125975040 s (carriesClear s) := by
  unfold carriesClear
  refine Alter.and ?_ (alter_forEach _ _ _ ?_)
  · exact Alter.refl _ _
  · intro a1 b2
    beta_reduce
    extract_lets +onlyGivenNames x3
    subst x3
    extract_lets +onlyGivenNames x4
    have h5 : Alter 618970167216642727125975040 b2 x4 := by
      unfold x4
      refine Alter.step ?_ (alter_setUnit ..) rfl
      exact Alter.refl _ _
    clear_value x4
    refine Alter.step ?_ (alter_setFld ..) (rm_high (by simp only [R.PWM_HB_CARRY]; omega) rfl)
    refine Alter.step ?_ (alter_setFld ..) (rm_high (by simp only [R.PWM_HB_CARRY]; omega) rfl)
    assumption

end Sys2Proof.Machine
end

