-- ==== Sys2Proof/Laws/Link.lean ====
section
/-! SUPPORT. What each operation of `Sys2Proof.Machine.Link` may change (`Alter`), one lemma an operation; for a command,
that it answers a next state (`Ends`). -/

namespace Sys2Proof.Machine

theorem alter_dclSlots (s : State) : Alter 178572850814490057243875082240 s (dclSlots s) := by
  unfold dclSlots
  extract_lets +onlyGivenNames x1
  subst x1
  extract_lets +onlyGivenNames x2
  subst x2
  extract_lets +onlyGivenNames x3
  subst x3
  extract_lets +onlyGivenNames x4
  subst x4
  extract_lets +onlyGivenNames x5
  subst x5
  extract_lets +onlyGivenNames x6
  subst x6
  extract_lets +onlyGivenNames x7
  subst x7
  extract_lets +onlyGivenNames x8
  subst x8
  extract_lets +onlyGivenNames x9
  have h10 : Alter 178572850814490057243875082240 s x9 := by
    unfold x9
    refine Alter.step ?_ (alter_setFld ..) (by decide)
    exact Alter.refl _ _
  clear_value x9
  extract_lets +onlyGivenNames x11
  subst x11
  extract_lets +onlyGivenNames x12
  have h13 : Alter 178572850814490057243875082240 s x12 := by
    unfold x12
    refine alter_ite (fun _ => ?_) (fun _ => ?_)
    · refine Alter.step ?_ (alter_dcl _ _) rfl
      assumption
    · assumption
  clear_value x12
  extract_lets +onlyGivenNames x14
  have h15 : Alter 178572850814490057243875082240 s x14 := by
    unfold x14
    refine Alter.and ?_ (alter_forEach _ _ _ ?_)
    · assumption
    · intro a16 b17
      beta_reduce
      refine Alter.step ?_ (alter_setConv ..) rfl
      exact Alter.refl _ _
  clear_value x14
  extract_lets +onlyGivenNames x18
  have h19 : Alter 178572850814490057243875082240 s x18 := by
    unfold x18
    refine Alter.step ?_ (alter_setSp ..) rfl
    assumption
  clear_value x18
  extract_lets +onlyGivenNames x20
  have h21 : Alter 178572850814490057243875082240 s x20 := by
    unfold x20
    refine Alter.step ?_ (alter_setSp ..) rfl
    assumption
  clear_value x20
  extract_lets +onlyGivenNames x22
  have h23 : Alter 178572850814490057243875082240 s x22 := by
    unfold x22
    refine Alter.step ?_ (alter_setSp ..) rfl
    assumption
  clear_value x22
  extract_lets +onlyGivenNames x24
  have h25 : Alter 178572850814490057243875082240 s x24 := by
    unfold x24
    refine Alter.step ?_ (alter_setSp ..) rfl
    assumption
  clear_value x24
  extract_lets +onlyGivenNames x26
  have h27 : Alter 178572850814490057243875082240 s x26 := by
    unfold x26
    refine Alter.step ?_ (alter_setSp ..) rfl
    assumption
  clear_value x26
  extract_lets +onlyGivenNames x28
  have h29 : Alter 178572850814490057243875082240 s x28 := by
    unfold x28
    refine Alter.step ?_ (alter_setSp ..) rfl
    assumption
  clear_value x28
  extract_lets +onlyGivenNames x30
  have h31 : Alter 178572850814490057243875082240 s x30 := by
    unfold x30
    refine Alter.step ?_ (alter_setSp ..) rfl
    assumption
  clear_value x30
  extract_lets +onlyGivenNames x32
  subst x32
  refine Alter.step ?_ (alter_setSp ..) rfl
  assumption

theorem alter_dcl_chg (s : State) (dcl' : Dcl) (chg' : Chg) : Alter 475368975085586025561263702016 s { s with dcl := dcl', chg := chg' } := by
  constructor
  case inv => exact fun _ i => { i with  }
  all_goals intros
  all_goals first | rfl | exact List.prefix_refl _ | exact Nat.le_refl _ | assumption | (rename_i b; exact absurd b (by decide))

theorem alter_regenEnds (s : State) : Alter 495485595318877065010955157504 s (regenEnds s) := by
  unfold regenEnds
  refine alter_ite (fun _ => ?_) (fun _ => ?_)
  · exact Alter.refl _ _
  · extract_lets +onlyGivenNames x1
    have h2 : Alter 495485595318877065010955157504 s x1 := by
      unfold x1
      refine Alter.step ?_ (alter_setBit ..) (by decide)
      refine Alter.step ?_ (alter_setBit ..) (by decide)
      exact Alter.refl _ _
    clear_value x1
    extract_lets +onlyGivenNames x3
    subst x3
    extract_lets +onlyGivenNames x4
    subst x4
    extract_lets +onlyGivenNames x5
    have h6 : Alter 495485595318877065010955157504 s x5 := by
      unfold x5
      refine Alter.step ?_ (alter_dcl_chg _ _ _) rfl
      assumption
    clear_value x5
    refine Alter.step ?_ (alter_raise ..) rfl
    refine Alter.step ?_ (alter_dclSlots ..) rfl
    assumption

theorem alter_regenBegins (s : State) : Alter 178572945261819714636779356160 s (regenBegins s) := by
  unfold regenBegins
  refine alter_ite (fun _ => ?_) (fun _ => ?_)
  · exact Alter.refl _ _
  · extract_lets +onlyGivenNames x1
    have h2 : Alter 178572945261819714636779356160 s x1 := by
      unfold x1
      refine Alter.step ?_ (alter_setBit ..) (by decide)
      refine Alter.step ?_ (alter_setBit ..) (by decide)
      exact Alter.refl _ _
    clear_value x1
    extract_lets +onlyGivenNames x3
    have h4 : Alter 178572945261819714636779356160 s x3 := by
      unfold x3
      refine Alter.step ?_ (alter_setBit ..) (by decide)
      assumption
    clear_value x3
    refine Alter.step ?_ (alter_raise ..) rfl
    refine Alter.step ?_ (alter_dclSlots ..) rfl
    assumption

theorem alter_trans_discharging (s : State) (trans' : Option Trans) (discharging' : Bool) : Alter 4951761337733141817007800320 s { s with trans := trans', discharging := discharging' } := by
  constructor
  case inv => exact fun _ i => { i with  }
  all_goals intros
  all_goals first | rfl | exact List.prefix_refl _ | exact Nat.le_refl _ | assumption | (rename_i b; exact absurd b (by decide))

theorem alter_dischargeStops (s : State) : Alter 5957682214556123277238992896 s (dischargeStops s) := by
  unfold dischargeStops
  extract_lets +onlyGivenNames x1
  have h2 : Alter 5957682214556123277238992896 s x1 := by
    unfold x1
    refine Alter.step ?_ (alter_trans_discharging _ _ _) rfl
    exact Alter.refl _ _
  clear_value x1
  extract_lets +onlyGivenNames x3
  have h4 : Alter 5957682214556123277238992896 s x3 := by
    unfold x3
    refine Alter.step ?_ (alter_setFld ..) (by decide)
    refine Alter.step ?_ (alter_setBit ..) (by decide)
    assumption
  clear_value x3
  extract_lets +onlyGivenNames x5
  have h6 : Alter 5957682214556123277238992896 s x5 := by
    unfold x5
    split
    · rename_i z7 z8 z9
      refine Alter.step ?_ (alter_convDark ..) rfl
      refine Alter.step ?_ (alter_setConv ..) rfl
      assumption
    · rename_i z10 z11
      assumption
  clear_value x5
  refine Alter.step ?_ (alter_raise ..) rfl
  assumption

theorem alter_linkEval (s : State) : Alter 501133697928708233236888682496 s (linkEval s) := by
  unfold linkEval
  extract_lets +onlyGivenNames x1
  subst x1
  extract_lets +onlyGivenNames x2
  have h3 : Alter 501133697928708233236888682496 s x2 := by
    unfold x2
    refine Alter.and ?_ (alter_forEach _ _ _ ?_)
    · exact Alter.refl _ _
    · intro a4 b5
      beta_reduce
      refine Alter.step ?_ (alter_setConv ..) rfl
      exact Alter.refl _ _
  clear_value x2
  extract_lets +onlyGivenNames x6
  subst x6
  extract_lets +onlyGivenNames x7
  have h8 : Alter 501133697928708233236888682496 s x7 := by
    unfold x7
    refine Alter.step ?_ (alter_setBit ..) (by decide)
    assumption
  clear_value x7
  extract_lets +onlyGivenNames x9
  have h10 : Alter 501133697928708233236888682496 s x9 := by
    unfold x9
    refine alter_ite (fun _ => ?_) (fun _ => ?_)
    · refine Alter.step ?_ (alter_dischargeStops ..) rfl
      assumption
    · assumption
  clear_value x9
  refine alter_ite (fun _ => ?_) (fun _ => ?_)
  · refine Alter.step ?_ (alter_dclSlots ..) rfl
    refine Alter.step ?_ (alter_regenEnds ..) rfl
    assumption
  · refine alter_ite (fun _ => ?_) (fun _ => ?_)
    · refine Alter.step ?_ (alter_dclSlots ..) rfl
      refine Alter.step ?_ (alter_regenBegins ..) rfl
      assumption
    · refine Alter.step ?_ (alter_dclSlots ..) rfl
      assumption

theorem alter_setVlink (v : Nat) (s : State) : Alter 495176015861726062549326102528 s (setVlink v s) := by
  unfold setVlink
  extract_lets +onlyGivenNames x1
  have h2 : Alter 495176015861726062549326102528 s x1 := by
    unfold x1
    refine Alter.step ?_ (alter_setFld ..) (by decide)
    exact Alter.refl _ _
  clear_value x1
  extract_lets +onlyGivenNames x3
  subst x3
  extract_lets +onlyGivenNames x4
  subst x4
  extract_lets +onlyGivenNames x5
  subst x5
  extract_lets +onlyGivenNames x6
  have h7 : Alter 495176015861726062549326102528 s x6 := by
    unfold x6
    refine Alter.step ?_ (alter_dcl _ _) rfl
    assumption
  clear_value x6
  extract_lets +onlyGivenNames x8
  subst x8
  extract_lets +onlyGivenNames x9
  have h10 : Alter 495176015861726062549326102528 s x9 := by
    unfold x9
    refine Alter.step ?_ (alter_chg _ _) rfl
    assumption
  clear_value x9
  extract_lets +onlyGivenNames x11
  have h12 : Alter 495176015861726062549326102528 s x11 := by
    unfold x11
    refine alter_ite (fun _ => ?_) (fun _ => ?_)
    · refine Alter.step ?_ (alter_setBit ..) (by decide)
      refine Alter.step ?_ (alter_setBit ..) (by decide)
      assumption
    · assumption
  clear_value x11
  refine Alter.step ?_ (alter_setSp ..) rfl
  assumption

end Sys2Proof.Machine
end

