-- ==== Sys2Proof/Laws/Selector.lean ====
section
/-! SUPPORT. What each operation of `Sys2Proof.Machine.Selector` may change (`Alter`), one lemma an operation; for a command,
that it answers a next state (`Ends`). -/

namespace Sys2Proof.Machine

theorem alter_selReload (m : Nat) (s : State) : Alter 147573952589676412928 s (selReload m s) := by
  unfold selReload
  extract_lets +onlyGivenNames x1
  subst x1
  extract_lets +onlyGivenNames x2
  subst x2
  refine Alter.and ?_ (alter_forEach _ _ _ ?_)
  · exact Alter.refl _ _
  · intro a3 b4
    beta_reduce
    refine alter_ite (fun _ => ?_) (fun _ => ?_)
    · refine Alter.step ?_ (alter_setBit ..) (rm_high (by simp only [R.ISL_STAT]; omega) rfl)
      exact Alter.refl _ _
    · exact Alter.refl _ _

theorem alter_selDegraded (m : Nat) (s : State) : Alter 154837099814282516943077376 s (selDegraded m s) := by
  unfold selDegraded
  extract_lets +onlyGivenNames x1
  subst x1
  extract_lets +onlyGivenNames x2
  subst x2
  extract_lets +onlyGivenNames x3
  have h4 : Alter 154837099814282516943077376 s x3 := by
    unfold x3
    refine Alter.step ?_ (alter_setSel ..) rfl
    exact Alter.refl _ _
  clear_value x3
  refine alter_ite (fun _ => ?_) (fun _ => ?_)
  · refine Alter.step ?_ (alter_raise ..) rfl
    refine Alter.step ?_ (alter_setBit ..) (by decide)
    assumption
  · assumption

theorem alter_selBuild (m : Nat) (s : State) : Alter 851178371912308921573834752 s (selBuild m s) := by
  unfold selBuild
  extract_lets +onlyGivenNames x1
  subst x1
  extract_lets +onlyGivenNames x2
  have h3 : Alter 851178371912308921573834752 s x2 := by
    unfold x2
    refine Alter.step ?_ (alter_gatesOn ..) rfl
    exact Alter.refl _ _
  clear_value x2
  extract_lets +onlyGivenNames x4
  subst x4
  extract_lets +onlyGivenNames x5
  have h6 : Alter 851178371912308921573834752 s x5 := by
    unfold x5
    refine Alter.step ?_ (alter_setSel ..) rfl
    assumption
  clear_value x5
  refine Alter.step ?_ (alter_selDegraded ..) rfl
  assumption

theorem alter_selCommand (m : Nat) (s : State) : Alter 851178371912308921573834752 s (selCommand m s) := by
  unfold selCommand
  refine alter_ite (fun _ => ?_) (fun _ => ?_)
  · extract_lets +onlyGivenNames x1
    subst x1
    extract_lets +onlyGivenNames x2
    subst x2
    refine alter_ite (fun _ => ?_) (fun _ => ?_)
    · split
      · rename_i z3 z4 z5
        exact Alter.refl _ _
      · rename_i z6 z7
        refine Alter.step ?_ (alter_selBuild ..) rfl
        exact Alter.refl _ _
    · extract_lets +onlyGivenNames x8
      have h9 : Alter 851178371912308921573834752 s x8 := by
        unfold x8
        refine Alter.step ?_ (alter_gatesOff ..) rfl
        exact Alter.refl _ _
      clear_value x8
      refine Alter.step ?_ (alter_setSel ..) rfl
      assumption
  · extract_lets +onlyGivenNames x10
    have h11 : Alter 851178371912308921573834752 s x10 := by
      unfold x10
      refine Alter.step ?_ (alter_gatesOff ..) rfl
      exact Alter.refl _ _
    clear_value x10
    refine Alter.step ?_ (alter_setSel ..) rfl
    assumption

theorem alter_selRemember (m : Nat) (s : State) : Alter 154742504910672534362390528 s (selRemember m s) := by
  unfold selRemember
  extract_lets +onlyGivenNames x1
  subst x1
  extract_lets +onlyGivenNames x2
  subst x2
  extract_lets +onlyGivenNames x3
  subst x3
  extract_lets +onlyGivenNames x4
  subst x4
  extract_lets +onlyGivenNames x5
  subst x5
  extract_lets +onlyGivenNames x6
  subst x6
  extract_lets +onlyGivenNames x7
  subst x7
  extract_lets +onlyGivenNames x8
  subst x8
  refine Alter.step ?_ (alter_setSel ..) rfl
  exact Alter.refl _ _

theorem alter_selEval (m : Nat) (s : State) : Alter 851178371912308921573834752 s (selEval m s) := by
  unfold selEval
  extract_lets +onlyGivenNames x1
  have h2 : Alter 851178371912308921573834752 s x1 := by
    unfold x1
    refine Alter.step ?_ (alter_selRemember ..) rfl
    exact Alter.refl _ _
  clear_value x1
  extract_lets +onlyGivenNames x3
  subst x3
  extract_lets +onlyGivenNames x4
  subst x4
  split
  · rename_i z5 z6 z7 z8
    extract_lets +onlyGivenNames x9
    subst x9
    extract_lets +onlyGivenNames x10
    subst x10
    extract_lets +onlyGivenNames x11
    subst x11
    extract_lets +onlyGivenNames x12
    have h13 : Alter 851178371912308921573834752 s x12 := by
      unfold x12
      refine Alter.step ?_ (alter_setBit ..) (rm_high (by simp only [R.PROT_SS_STAT]; omega) rfl)
      refine Alter.step ?_ (alter_setFld ..) (rm_high (by simp only [R.PROT_SS_STAT]; omega) rfl)
      refine Alter.step ?_ (alter_setFld ..) (rm_high (by simp only [R.PROT_SS_STAT]; omega) rfl)
      assumption
    clear_value x12
    extract_lets +onlyGivenNames x14
    have h15 : Alter 851178371912308921573834752 s x14 := by
      unfold x14
      refine Alter.step ?_ (alter_setBit ..) (rm_high (by simp only [R.PROT_SS_STAT]; omega) rfl)
      refine Alter.step ?_ (alter_setFld ..) (rm_high (by simp only [R.PROT_SS_STAT]; omega) rfl)
      assumption
    clear_value x14
    extract_lets +onlyGivenNames x16
    have h17 : Alter 851178371912308921573834752 s x16 := by
      unfold x16
      refine Alter.step ?_ (alter_setFld ..) (rm_high (by simp only [R.PROT_SS_STAT]; omega) rfl)
      refine Alter.step ?_ (alter_setFld ..) (rm_high (by simp only [R.PROT_SS_STAT]; omega) rfl)
      assumption
    clear_value x16
    extract_lets +onlyGivenNames x18
    have h19 : Alter 851178371912308921573834752 s x18 := by
      unfold x18
      refine Alter.step ?_ (alter_setBit ..) (rm_high (by simp only [R.PROT_SS_STAT]; omega) rfl)
      assumption
    clear_value x18
    extract_lets +onlyGivenNames x20
    subst x20
    extract_lets +onlyGivenNames x21
    have h22 : Alter 851178371912308921573834752 s x21 := by
      unfold x21
      refine Alter.step ?_ (alter_setSel ..) rfl
      assumption
    clear_value x21
    extract_lets +onlyGivenNames x23
    subst x23
    extract_lets +onlyGivenNames x24
    have h25 : Alter 851178371912308921573834752 s x24 := by
      unfold x24
      refine alter_ite (fun _ => ?_) (fun _ => ?_)
      · refine Alter.step ?_ (alter_raise ..) rfl
        refine Alter.step ?_ (alter_selCommand ..) rfl
        assumption
      · refine alter_ite (fun _ => ?_) (fun _ => ?_)
        · refine Alter.step ?_ (alter_selCommand ..) rfl
          assumption
        · assumption
    clear_value x24
    extract_lets +onlyGivenNames x26
    subst x26
    extract_lets +onlyGivenNames x27
    have h28 : Alter 851178371912308921573834752 s x27 := by
      unfold x27
      refine alter_ite (fun _ => ?_) (fun _ => ?_)
      · refine alter_ite (fun _ => ?_) (fun _ => ?_)
        · refine Alter.step ?_ (alter_selDegraded ..) rfl
          assumption
        · assumption
      · refine Alter.step ?_ (alter_setSel ..) rfl
        assumption
    clear_value x27
    refine Alter.step ?_ (alter_selReload ..) rfl
    assumption

theorem alter_selEvalAll (s : State) : Alter 851178371912308921573834752 s (selEvalAll s) := by
  unfold selEvalAll
  refine Alter.step ?_ (alter_selEval ..) rfl
  refine Alter.step ?_ (alter_selEval ..) rfl
  exact Alter.refl _ _

theorem alter_selHold (m : Nat) (why : Nat) (s : State) : Alter 851178371912308921573834752 s (selHold m why s) := by
  unfold selHold
  extract_lets +onlyGivenNames x1
  subst x1
  extract_lets +onlyGivenNames x2
  have h3 : Alter 851178371912308921573834752 s x2 := by
    unfold x2
    refine Alter.step ?_ (alter_setSel ..) rfl
    exact Alter.refl _ _
  clear_value x2
  extract_lets +onlyGivenNames x4
  have h5 : Alter 851178371912308921573834752 s x4 := by
    unfold x4
    refine Alter.step ?_ (alter_selEval ..) rfl
    assumption
  clear_value x4
  refine alter_ite (fun _ => ?_) (fun _ => ?_)
  · assumption
  · extract_lets +onlyGivenNames x6
    have h7 : Alter 851178371912308921573834752 s x6 := by
      unfold x6
      refine Alter.step ?_ (alter_setBit ..) (rm_high (by simp only [R.PROT_SS_STAT]; omega) rfl)
      assumption
    clear_value x6
    extract_lets +onlyGivenNames x8
    subst x8
    extract_lets +onlyGivenNames x9
    have h10 : Alter 851178371912308921573834752 s x9 := by
      unfold x9
      refine Alter.and ?_ (alter_forEach _ _ _ ?_)
      · assumption
      · intro a11 b12
        beta_reduce
        refine Alter.step ?_ (alter_setBit ..) (rm_high (by simp only [R.PWM_HB_STAT]; omega) rfl)
        refine Alter.step ?_ (alter_setUnit ..) rfl
        exact Alter.refl _ _
    clear_value x9
    refine Alter.step ?_ (alter_selCommand ..) rfl
    refine Alter.step ?_ (alter_selRemember ..) rfl
    assumption

theorem alter_selDrop (m : Nat) (why : Nat) (s : State) : Alter 154742504910672534362390528 s (selDrop m why s) := by
  unfold selDrop
  extract_lets +onlyGivenNames x1
  subst x1
  extract_lets +onlyGivenNames x2
  subst x2
  refine Alter.step ?_ (alter_setSel ..) rfl
  exact Alter.refl _ _

theorem alter_showHeld (s : State) : Alter 147573954788699668480 s (showHeld s) := by
  unfold showHeld
  extract_lets +onlyGivenNames x1
  have h2 : Alter 147573954788699668480 s x1 := by
    unfold x1
    refine Alter.step ?_ (alter_setFld ..) (by decide)
    exact Alter.refl _ _
  clear_value x1
  refine Alter.step ?_ (alter_setFld ..) (by decide)
  assumption

theorem alter_dropHeld (h : Held) (status : Nat) (s : State) : Alter 94594903609982580686848 s (dropHeld h status s) := by
  unfold dropHeld
  refine Alter.step ?_ (alter_raise ..) rfl
  exact Alter.refl _ _

theorem alter_heldMode_heldFn (s : State) (heldMode' : Option Held) (heldFn' : AMap Held) : Alter 7083549724304467820544 s { s with heldMode := heldMode', heldFn := heldFn' } := by
  constructor
  case inv => exact fun _ i => { i with  }
  all_goals intros
  all_goals first | rfl | exact List.prefix_refl _ | exact Nat.le_refl _ | assumption | (rename_i b; exact absurd b (by decide))

theorem alter_dropAll (status : Nat) (s : State) : Alter 101678453336486071762944 s (dropAll status s) := by
  unfold dropAll
  extract_lets +onlyGivenNames x1
  subst x1
  extract_lets +onlyGivenNames x2
  have h3 : Alter 101678453336486071762944 s x2 := by
    unfold x2
    refine Alter.step ?_ (alter_showHeld ..) rfl
    refine Alter.step ?_ (alter_heldMode_heldFn _ _ _) rfl
    exact Alter.refl _ _
  clear_value x2
  refine Alter.and ?_ (alter_forEach _ _ _ ?_)
  · assumption
  · intro a4 b5
    beta_reduce
    refine Alter.step ?_ (alter_dropHeld ..) rfl
    exact Alter.refl _ _

theorem alter_verdictsEnd (s : State) : Alter 309485157395297658401193984 s (verdictsEnd s) := by
  unfold verdictsEnd
  extract_lets +onlyGivenNames x1
  have h2 : Alter 309485157395297658401193984 s x1 := by
    unfold x1
    refine Alter.and ?_ (alter_forEach _ _ _ ?_)
    · exact Alter.refl _ _
    · intro a3 b4
      beta_reduce
      refine Alter.step ?_ (alter_endVerdict ..) rfl
      exact Alter.refl _ _
  clear_value x1
  refine Alter.step ?_ (alter_setBit ..) (by decide)
  refine Alter.step ?_ (alter_setBit ..) (by decide)
  assumption

theorem alter_putMode (new : Nat) (forced : Bool) (r : Req) (s : State) : Alter 501133735707640096194050392064 s (putMode new forced r s) := by
  unfold putMode
  extract_lets +onlyGivenNames x1
  subst x1
  extract_lets +onlyGivenNames x2
  have h3 : Alter 501133735707640096194050392064 s x2 := by
    unfold x2
    refine Alter.step ?_ (alter_setBit ..) (by decide)
    refine Alter.step ?_ (alter_setFld ..) (by decide)
    refine Alter.step ?_ (alter_setFld ..) (by decide)
    exact Alter.refl _ _
  clear_value x2
  extract_lets +onlyGivenNames x4
  have h5 : Alter 501133735707640096194050392064 s x4 := by
    unfold x4
    refine Alter.step ?_ (alter_carriesClear ..) rfl
    refine Alter.step ?_ (alter_trans _ _) rfl
    assumption
  clear_value x4
  extract_lets +onlyGivenNames x6
  have h7 : Alter 501133735707640096194050392064 s x6 := by
    unfold x6
    refine alter_ite (fun _ => ?_) (fun _ => ?_)
    · assumption
    · refine Alter.step ?_ (alter_verdictsEnd ..) rfl
      assumption
  clear_value x6
  extract_lets +onlyGivenNames x8
  have h9 : Alter 501133735707640096194050392064 s x8 := by
    unfold x8
    refine Alter.step ?_ (alter_auditAdd ..) rfl
    assumption
  clear_value x8
  refine Alter.step ?_ (alter_linkEval ..) rfl
  refine Alter.step ?_ (alter_raise ..) rfl
  assumption

theorem alter_stagesOff (s : State) : Alter 1005826429493324063031951360 s (stagesOff s) := by
  unfold stagesOff
  refine Alter.and ?_ (alter_forEach _ _ _ ?_)
  · exact Alter.refl _ _
  · intro a1 b2
    beta_reduce
    extract_lets +onlyGivenNames x3
    subst x3
    extract_lets +onlyGivenNames x4
    have h5 : Alter 1005826429493324063031951360 b2 x4 := by
      unfold x4
      refine Alter.step ?_ (alter_setConv ..) rfl
      exact Alter.refl _ _
    clear_value x4
    refine alter_ite (fun _ => ?_) (fun _ => ?_)
    · assumption
    · refine Alter.step ?_ (alter_convDark ..) rfl
      assumption

theorem alter_lvBrakeAll (s : State) : Alter 2535997636323460439380617854976 s (lvBrakeAll s) := by
  unfold lvBrakeAll
  extract_lets +onlyGivenNames x1
  subst x1
  extract_lets +onlyGivenNames x2
  have h3 : Alter 2535997636323460439380617854976 s x2 := by
    unfold x2
    refine Alter.and ?_ (alter_forEach _ _ _ ?_)
    · exact Alter.refl _ _
    · intro a4 b5
      beta_reduce
      refine Alter.step ?_ (alter_setUnit ..) rfl
      exact Alter.refl _ _
  clear_value x2
  extract_lets +onlyGivenNames x6
  have h7 : Alter 2535997636323460439380617854976 s x6 := by
    unfold x6
    refine Alter.step ?_ (alter_gatesOff ..) rfl
    assumption
  clear_value x6
  extract_lets +onlyGivenNames x8
  have h9 : Alter 2535997636323460439380617854976 s x8 := by
    unfold x8
    refine Alter.step ?_ (alter_lvEnd _ _) rfl
    assumption
  clear_value x8
  extract_lets +onlyGivenNames x10
  have h11 : Alter 2535997636323460439380617854976 s x10 := by
    unfold x10
    refine Alter.and ?_ (alter_forEach _ _ _ ?_)
    · assumption
    · intro a12 b13
      beta_reduce
      refine Alter.step ?_ (alter_setBit ..) (rm_high (by simp only [R.ACT_A_CTRL]; omega) rfl)
      exact Alter.refl _ _
  clear_value x10
  refine Alter.step ?_ (alter_gatesOn ..) rfl
  assumption

theorem alter_nfault_service_discharging (s : State) (nfault' : Bool) (service' : Nat) (discharging' : Bool) : Alter 4956605305152945355585748992 s { s with nfault := nfault', service := service', discharging := discharging' } := by
  constructor
  case inv => exact fun _ i => { i with  }
  all_goals intros
  all_goals first | rfl | exact List.prefix_refl _ | exact Nat.le_refl _ | assumption | (rename_i b; exact absurd b (by decide))

theorem alter_safeEntry (r : Req) (s : State) : Alter 84166232945507252418270304665600 s (safeEntry r s) := by
  unfold safeEntry
  extract_lets +onlyGivenNames x1
  have h2 : Alter 84166232945507252418270304665600 s x1 := by
    unfold x1
    refine Alter.step ?_ (alter_gloveResume ..) rfl
    refine Alter.step ?_ (alter_nfault_service_discharging _ _ _ _) rfl
    exact Alter.refl _ _
  clear_value x1
  extract_lets +onlyGivenNames x3
  have h4 : Alter 84166232945507252418270304665600 s x3 := by
    unfold x3
    refine Alter.step ?_ (alter_stagesOff ..) rfl
    refine Alter.step ?_ (alter_forceEnd ..) rfl
    assumption
  clear_value x3
  extract_lets +onlyGivenNames x5
  have h6 : Alter 84166232945507252418270304665600 s x5 := by
    unfold x5
    refine Alter.step ?_ (alter_selHold ..) rfl
    refine Alter.step ?_ (alter_selHold ..) rfl
    assumption
  clear_value x5
  extract_lets +onlyGivenNames x7
  have h8 : Alter 84166232945507252418270304665600 s x7 := by
    unfold x7
    refine Alter.step ?_ (alter_lvBrakeAll ..) rfl
    assumption
  clear_value x7
  extract_lets +onlyGivenNames x9
  have h10 : Alter 84166232945507252418270304665600 s x9 := by
    unfold x9
    refine Alter.step ?_ (alter_setBit ..) (by decide)
    assumption
  clear_value x9
  extract_lets +onlyGivenNames x11
  have h12 : Alter 84166232945507252418270304665600 s x11 := by
    unfold x11
    refine Alter.step ?_ (alter_raise ..) rfl
    assumption
  clear_value x11
  refine Alter.step ?_ (alter_dropAll ..) rfl
  refine Alter.step ?_ (alter_putMode ..) rfl
  assumption

theorem alter_enterSafe (causes : Nat) (r : Req) (s : State) : Alter 84166232945507252418287484534784 s (enterSafe causes r s) := by
  unfold enterSafe
  refine alter_ite (fun _ => ?_) (fun _ => ?_)
  · exact Alter.refl _ _
  · extract_lets +onlyGivenNames x1
    have h2 : Alter 84166232945507252418287484534784 s x1 := by
      unfold x1
      refine Alter.step ?_ (alter_setFld ..) (by decide)
      exact Alter.refl _ _
    clear_value x1
    refine alter_ite (fun _ => ?_) (fun _ => ?_)
    · refine alter_ite (fun _ => ?_) (fun _ => ?_)
      · extract_lets +onlyGivenNames x3
        have h4 : Alter 84166232945507252418287484534784 s x3 := by
          unfold x3
          refine Alter.step ?_ (alter_setFld ..) (by decide)
          refine Alter.step ?_ (alter_setBit ..) (by decide)
          assumption
        clear_value x3
        refine Alter.step ?_ (alter_dropAll ..) rfl
        refine Alter.step ?_ (alter_trans _ _) rfl
        assumption
      · assumption
    · refine alter_ite (fun _ => ?_) (fun _ => ?_)
      · assumption
      · refine Alter.step ?_ (alter_safeEntry ..) rfl
        assumption

theorem alter_escalate (mach : Bool) (conv : Bool) (s : State) : Alter 84166232945507252418287484534784 s (escalate mach conv s) := by
  unfold escalate
  extract_lets +onlyGivenNames x1
  subst x1
  extract_lets +onlyGivenNames x2
  subst x2
  refine alter_ite (fun _ => ?_) (fun _ => ?_)
  · refine Alter.step ?_ (alter_enterSafe ..) rfl
    exact Alter.refl _ _
  · exact Alter.refl _ _

theorem alter_protHold (m : Nat) (why : Nat) (s : State) : Alter 84166232945507252418287484534784 s (protHold m why s) := by
  unfold protHold
  refine Alter.step ?_ (alter_escalate ..) rfl
  refine Alter.step ?_ (alter_selHold ..) rfl
  exact Alter.refl _ _

theorem alter_convProtect (c : Nat) (why : Nat) (s : State) : Alter 84166232945507252418287484534784 s (convProtect c why s) := by
  unfold convProtect
  split
  · rename_i z1 z2 z3
    refine Alter.step ?_ (alter_protHold ..) rfl
    exact Alter.refl _ _
  · rename_i z4 z5
    refine Alter.step ?_ (alter_convDark ..) rfl
    exact Alter.refl _ _

end Sys2Proof.Machine
end

