-- ==== Sys2Proof/Laws/Islands.lean ====
section
/-! SUPPORT. What each operation of `Sys2Proof.Machine.Islands` may change (`Alter`), one lemma an operation; for a command,
that it answers a next state (`Ends`). -/

namespace Sys2Proof.Machine

theorem alter_islRaise (code : Nat) (n : Nat) (s : State) : Alter 94594903609982580686848 s (islRaise code n s) := by
  unfold islRaise
  refine alter_ite (fun _ => ?_) (fun _ => ?_)
  · refine Alter.step ?_ (alter_raise ..) rfl
    exact Alter.refl _ _
  · exact Alter.refl _ _

theorem alter_verdictEnds (n : Nat) (s : State) : Alter 309485009821345068724781056 s (verdictEnds n s) := by
  unfold verdictEnds
  split
  · rename_i z1 z2 z3
    refine Alter.step ?_ (alter_endVerdict ..) rfl
    exact Alter.refl _ _
  · rename_i z4 z5
    exact Alter.refl _ _

theorem alter_selOfIsl (n : Nat) (s : State) : Alter 501288440433618905771251073024 s (selOfIsl n s) := by
  unfold selOfIsl
  extract_lets +onlyGivenNames x1
  have h2 : Alter 501288440433618905771251073024 s x1 := by
    unfold x1
    refine alter_ite (fun _ => ?_) (fun _ => ?_)
    · refine Alter.step ?_ (alter_linkEval ..) rfl
      exact Alter.refl _ _
    · exact Alter.refl _ _
  clear_value x1
  split
  · rename_i z3 z4 z5
    refine Alter.step ?_ (alter_selEval ..) rfl
    assumption
  · rename_i z6 z7
    assumption

theorem alter_seqReport (n : Nat) (s : State) : Alter 94594903609982580686848 s (seqReport n s) := by
  unfold seqReport
  refine Alter.step ?_ (alter_islRaise ..) rfl
  refine Alter.step ?_ (alter_setBit ..) (rm_high (by simp only [R.ISL_FLAGS]; omega) rfl)
  exact Alter.refl _ _

theorem alter_lockHeard (n : Nat) (vdd : Bool) (vee : Bool) (was : Bool) (s : State) : Alter 94594903609982580686848 s (lockHeard n vdd vee was s) := by
  unfold lockHeard
  extract_lets +onlyGivenNames x1
  have h2 : Alter 94594903609982580686848 s x1 := by
    unfold x1
    refine alter_ite (fun _ => ?_) (fun _ => ?_)
    · refine Alter.step ?_ (alter_setBit ..) (rm_high (by simp only [R.ISL_FLAGS]; omega) rfl)
      exact Alter.refl _ _
    · exact Alter.refl _ _
  clear_value x1
  extract_lets +onlyGivenNames x3
  have h4 : Alter 94594903609982580686848 s x3 := by
    unfold x3
    refine alter_ite (fun _ => ?_) (fun _ => ?_)
    · refine Alter.step ?_ (alter_setBit ..) (rm_high (by simp only [R.ISL_FLAGS]; omega) rfl)
      assumption
    · assumption
  clear_value x3
  extract_lets +onlyGivenNames x5
  have h6 : Alter 94594903609982580686848 s x5 := by
    unfold x5
    refine alter_ite (fun _ => ?_) (fun _ => ?_)
    · refine Alter.step ?_ (alter_raise ..) rfl
      assumption
    · assumption
  clear_value x5
  refine alter_ite (fun _ => ?_) (fun _ => ?_)
  · assumption
  · refine Alter.step ?_ (alter_islRaise ..) rfl
    assumption

theorem alter_islLockout (n : Nat) (vdd : Bool) (vee : Bool) (s : State) : Alter 501288440433618905771251073024 s (islLockout n vdd vee s) := by
  unfold islLockout
  extract_lets +onlyGivenNames x1
  subst x1
  extract_lets +onlyGivenNames x2
  subst x2
  extract_lets +onlyGivenNames x3
  have h4 : Alter 501288440433618905771251073024 s x3 := by
    unfold x3
    refine alter_ite (fun _ => ?_) (fun _ => ?_)
    · refine Alter.step ?_ (alter_setBit ..) (rm_high (by simp only [R.ISL_STAT]; omega) rfl)
      exact Alter.refl _ _
    · exact Alter.refl _ _
  clear_value x3
  extract_lets +onlyGivenNames x5
  have h6 : Alter 501288440433618905771251073024 s x5 := by
    unfold x5
    refine alter_ite (fun _ => ?_) (fun _ => ?_)
    · refine Alter.step ?_ (alter_setBit ..) (rm_high (by simp only [R.ISL_STAT]; omega) rfl)
      assumption
    · assumption
  clear_value x5
  refine alter_ite (fun _ => ?_) (fun _ => ?_)
  · assumption
  · extract_lets +onlyGivenNames x7
    subst x7
    extract_lets +onlyGivenNames x8
    subst x8
    extract_lets +onlyGivenNames x9
    have h10 : Alter 501288440433618905771251073024 s x9 := by
      unfold x9
      refine Alter.step ?_ (alter_setIsl ..) rfl
      assumption
    clear_value x9
    extract_lets +onlyGivenNames x11
    have h12 : Alter 501288440433618905771251073024 s x11 := by
      unfold x11
      refine Alter.step ?_ (alter_setGate ..) rfl
      refine Alter.step ?_ (alter_setBit ..) (rm_high (by simp only [R.ISL_STAT]; omega) rfl)
      assumption
    clear_value x11
    extract_lets +onlyGivenNames x13
    have h14 : Alter 501288440433618905771251073024 s x13 := by
      unfold x13
      refine Alter.step ?_ (alter_verdictEnds ..) rfl
      assumption
    clear_value x13
    extract_lets +onlyGivenNames x15
    subst x15
    extract_lets +onlyGivenNames x16
    have h17 : Alter 501288440433618905771251073024 s x16 := by
      unfold x16
      refine alter_ite (fun _ => ?_) (fun _ => ?_)
      · refine Alter.step ?_ (alter_lockHeard ..) rfl
        assumption
      · refine Alter.step ?_ (alter_setIsl ..) rfl
        assumption
    clear_value x16
    extract_lets +onlyGivenNames x18
    have h19 : Alter 501288440433618905771251073024 s x18 := by
      unfold x18
      refine alter_ite (fun _ => ?_) (fun _ => ?_)
      · refine Alter.step ?_ (alter_seqReport ..) rfl
        assumption
      · assumption
    clear_value x18
    refine Alter.step ?_ (alter_selOfIsl ..) rfl
    assumption

theorem alter_execIslLockoutEntry (e : Nat) (n : Fin 48) (vdd : Bool) (vee : Bool) (s : State) : Ends 501288440544299370213508382720 s (execIslLockoutEntry e n vdd vee s) := by
  unfold execIslLockoutEntry
  refine ends_next ?_
  refine Alter.step ?_ (alter_islLockout ..) rfl
  refine Alter.step ?_ (alter_tick ..) rfl
  exact Alter.refl _ _

theorem alter_islRelease (n : Nat) (vdd : Bool) (vee : Bool) (s : State) : Alter 501288440433618905771251073024 s (islRelease n vdd vee s) := by
  unfold islRelease
  extract_lets +onlyGivenNames x1
  subst x1
  extract_lets +onlyGivenNames x2
  have h3 : Alter 501288440433618905771251073024 s x2 := by
    unfold x2
    refine alter_ite (fun _ => ?_) (fun _ => ?_)
    · refine Alter.step ?_ (alter_setBit ..) (rm_high (by simp only [R.ISL_STAT]; omega) rfl)
      exact Alter.refl _ _
    · exact Alter.refl _ _
  clear_value x2
  extract_lets +onlyGivenNames x4
  have h5 : Alter 501288440433618905771251073024 s x4 := by
    unfold x4
    refine alter_ite (fun _ => ?_) (fun _ => ?_)
    · refine Alter.step ?_ (alter_setBit ..) (rm_high (by simp only [R.ISL_STAT]; omega) rfl)
      assumption
    · assumption
  clear_value x4
  refine alter_ite (fun _ => ?_) (fun _ => ?_)
  · extract_lets +onlyGivenNames x6
    have h7 : Alter 501288440433618905771251073024 s x6 := by
      unfold x6
      refine Alter.step ?_ (alter_clampShow ..) rfl
      refine Alter.step ?_ (alter_setBit ..) (rm_high (by simp only [R.ISL_STAT]; omega) rfl)
      assumption
    clear_value x6
    extract_lets +onlyGivenNames x8
    subst x8
    refine Alter.step ?_ (alter_selOfIsl ..) rfl
    refine Alter.step ?_ (alter_setIsl ..) rfl
    assumption
  · assumption

theorem alter_execIslLockoutRelease (e : Nat) (n : Fin 48) (vdd : Bool) (vee : Bool) (s : State) : Ends 501288440544299370213508382720 s (execIslLockoutRelease e n vdd vee s) := by
  unfold execIslLockoutRelease
  refine ends_next ?_
  refine Alter.step ?_ (alter_islRelease ..) rfl
  refine Alter.step ?_ (alter_tick ..) rfl
  exact Alter.refl _ _

theorem alter_applyFallback (n : Nat) (s : State) : Alter 77371400029288856857608192 s (applyFallback n s) := by
  unfold applyFallback
  extract_lets +onlyGivenNames x1
  subst x1
  extract_lets +onlyGivenNames x2
  subst x2
  extract_lets +onlyGivenNames x3
  have h4 : Alter 77371400029288856857608192 s x3 := by
    unfold x3
    refine alter_ite (fun _ => ?_) (fun _ => ?_)
    · exact Alter.refl _ _
    · refine Alter.step ?_ (alter_startProf ..) rfl
      exact Alter.refl _ _
  clear_value x3
  refine Alter.step ?_ (alter_setGate ..) rfl
  refine Alter.step ?_ (alter_setBit ..) (rm_high (by simp only [R.ISL_STAT]; omega) rfl)
  assumption

theorem alter_islSupplyOk (n : Nat) (s : State) : Alter 77465958039410692019191808 s (islSupplyOk n s) := by
  unfold islSupplyOk
  split
  · rename_i z1 z2
    exact Alter.refl _ _
  · rename_i z3 z4 z5
    extract_lets +onlyGivenNames x6
    have h7 : Alter 77465958039410692019191808 s x6 := by
      unfold x6
      refine Alter.step ?_ (alter_untilEl ..) rfl
      exact Alter.refl _ _
    clear_value x6
    extract_lets +onlyGivenNames x8
    subst x8
    extract_lets +onlyGivenNames x9
    have h10 : Alter 77465958039410692019191808 s x9 := by
      unfold x9
      refine Alter.step ?_ (alter_setIsl ..) rfl
      assumption
    clear_value x9
    extract_lets +onlyGivenNames x11
    have h12 : Alter 77465958039410692019191808 s x11 := by
      unfold x11
      refine Alter.step ?_ (alter_islRaise ..) rfl
      assumption
    clear_value x11
    refine alter_ite (fun _ => ?_) (fun _ => ?_)
    · assumption
    · refine Alter.step ?_ (alter_applyFallback ..) rfl
      assumption

theorem alter_execIslSupplyOk (e : Nat) (n : Fin 48) (s : State) : Ends 77465958039410692019191808 s (execIslSupplyOk e n s) := by
  unfold execIslSupplyOk
  refine ends_next ?_
  refine Alter.step ?_ (alter_islSupplyOk ..) rfl
  refine Alter.step ?_ (alter_tick ..) rfl
  exact Alter.refl _ _

theorem alter_execIslSeq (e : Nat) (n : Fin 48) (why : Fin 2) (s : State) : Ends 94705584074424837996544 s (execIslSeq e n why s) := by
  unfold execIslSeq
  extract_lets +onlyGivenNames x1
  have h2 : Alter 94705584074424837996544 s x1 := by
    unfold x1
    refine Alter.step ?_ (alter_tick ..) rfl
    exact Alter.refl _ _
  clear_value x1
  extract_lets +onlyGivenNames x3
  subst x3
  refine ends_next ?_
  refine alter_ite (fun _ => ?_) (fun _ => ?_)
  · refine Alter.step ?_ (alter_seqReport ..) rfl
    assumption
  · assumption

theorem alter_islPowerUp (n : Nat) (s : State) : Alter 501288440433618905771251073024 s (islPowerUp n s) := by
  unfold islPowerUp
  extract_lets +onlyGivenNames x1
  subst x1
  extract_lets +onlyGivenNames x2
  subst x2
  extract_lets +onlyGivenNames x3
  have h4 : Alter 501288440433618905771251073024 s x3 := by
    unfold x3
    refine Alter.step ?_ (alter_setIsl ..) rfl
    exact Alter.refl _ _
  clear_value x3
  extract_lets +onlyGivenNames x5
  have h6 : Alter 501288440433618905771251073024 s x5 := by
    unfold x5
    refine Alter.step ?_ (alter_setBit ..) (rm_high (by simp only [R.ISL_STAT]; omega) rfl)
    refine Alter.step ?_ (alter_setBit ..) (rm_high (by simp only [R.ISL_STAT]; omega) rfl)
    assumption
  clear_value x5
  extract_lets +onlyGivenNames x7
  have h8 : Alter 501288440433618905771251073024 s x7 := by
    unfold x7
    refine Alter.step ?_ (alter_setBit ..) (rm_high (by simp only [R.ISL_STAT]; omega) rfl)
    refine Alter.step ?_ (alter_setBit ..) (rm_high (by simp only [R.ISL_STAT]; omega) rfl)
    assumption
  clear_value x7
  extract_lets +onlyGivenNames x9
  have h10 : Alter 501288440433618905771251073024 s x9 := by
    unfold x9
    refine Alter.step ?_ (alter_setBit ..) (rm_high (by simp only [R.PROT_IST]; omega) rfl)
    refine Alter.step ?_ (alter_setBit ..) (rm_high (by simp only [R.ISL_STAT]; omega) rfl)
    assumption
  clear_value x9
  refine Alter.step ?_ (alter_selOfIsl ..) rfl
  refine Alter.step ?_ (alter_setGate ..) rfl
  assumption

theorem alter_execIslPowerUp (e : Nat) (n : Fin 48) (s : State) : Ends 501288440544299370213508382720 s (execIslPowerUp e n s) := by
  unfold execIslPowerUp
  refine ends_next ?_
  refine Alter.step ?_ (alter_islPowerUp ..) rfl
  refine Alter.step ?_ (alter_tick ..) rfl
  exact Alter.refl _ _

theorem alter_islBadFrame (n : Nat) (down : Bool) (s : State) : Alter 77465847358946249761882112 s (islBadFrame n down s) := by
  unfold islBadFrame
  extract_lets +onlyGivenNames x1
  have h2 : Alter 77465847358946249761882112 s x1 := by
    unfold x1
    refine Alter.step ?_ (alter_incFld ..) (rm_high (by simp only [R.ISL_STAT]; omega) rfl)
    exact Alter.refl _ _
  clear_value x1
  extract_lets +onlyGivenNames x3
  subst x3
  extract_lets +onlyGivenNames x4
  subst x4
  extract_lets +onlyGivenNames x5
  subst x5
  extract_lets +onlyGivenNames x6
  have h7 : Alter 77465847358946249761882112 s x6 := by
    unfold x6
    refine alter_ite (fun _ => ?_) (fun _ => ?_)
    · refine Alter.step ?_ (alter_setBit ..) (rm_high (by simp only [R.ISL_FLAGS]; omega) rfl)
      assumption
    · assumption
  clear_value x6
  extract_lets +onlyGivenNames x8
  subst x8
  extract_lets +onlyGivenNames x9
  subst x9
  extract_lets +onlyGivenNames x10
  subst x10
  extract_lets +onlyGivenNames x11
  have h12 : Alter 77465847358946249761882112 s x11 := by
    unfold x11
    refine Alter.step ?_ (alter_setIsl ..) rfl
    assumption
  clear_value x11
  refine alter_ite (fun _ => ?_) (fun _ => ?_)
  · refine Alter.step ?_ (alter_islRaise ..) rfl
    refine Alter.step ?_ (alter_setBit ..) (rm_high (by simp only [R.ISL_FLAGS]; omega) rfl)
    assumption
  · assumption

theorem alter_execIslBadFrame (e : Nat) (n : Fin 48) (down : Bool) (s : State) : Ends 77465958039410692019191808 s (execIslBadFrame e n down s) := by
  unfold execIslBadFrame
  refine ends_next ?_
  refine Alter.step ?_ (alter_islBadFrame ..) rfl
  refine Alter.step ?_ (alter_tick ..) rfl
  exact Alter.refl _ _

theorem alter_preStart (s : State) : Alter 10213005471678339857594187776 s (preStart s) := by
  unfold preStart
  extract_lets +onlyGivenNames x1
  have h2 : Alter 10213005471678339857594187776 s x1 := by
    unfold x1
    refine Alter.and ?_ (alter_forEach _ _ _ ?_)
    · exact Alter.refl _ _
    · intro a3 b4
      beta_reduce
      refine Alter.step ?_ (alter_setConv ..) rfl
      exact Alter.refl _ _
  clear_value x1
  extract_lets +onlyGivenNames x5
  have h6 : Alter 10213005471678339857594187776 s x5 := by
    unfold x5
    refine Alter.and ?_ (alter_forEach _ _ _ ?_)
    · assumption
    · intro a7 b8
      beta_reduce
      refine Alter.step ?_ (alter_setVerdict ..) rfl
      exact Alter.refl _ _
  clear_value x5
  extract_lets +onlyGivenNames x9
  have h10 : Alter 10213005471678339857594187776 s x9 := by
    unfold x9
    refine Alter.and ?_ (alter_forEach _ _ _ ?_)
    · assumption
    · intro a11 b12
      beta_reduce
      refine Alter.step ?_ (alter_seqAbandon ..) rfl
      exact Alter.refl _ _
  clear_value x9
  extract_lets +onlyGivenNames x13
  have h14 : Alter 10213005471678339857594187776 s x13 := by
    unfold x13
    refine Alter.step ?_ (alter_setBit ..) (by decide)
    refine Alter.step ?_ (alter_setBit ..) (by decide)
    assumption
  clear_value x13
  refine Alter.step ?_ (alter_setBit ..) (by decide)
  refine Alter.step ?_ (alter_setBit ..) (by decide)
  assumption

theorem alter_preAfterCal (s : State) : Alter 10222676878235256890991837184 s (preAfterCal s) := by
  unfold preAfterCal
  refine alter_ite (fun _ => ?_) (fun _ => ?_)
  · refine Alter.step ?_ (alter_preStart ..) rfl
    refine Alter.step ?_ (alter_preDue _ _) rfl
    exact Alter.refl _ _
  · exact Alter.refl _ _

theorem alter_islForget (n : Nat) (s : State) : Alter 147573952589676412928 s (islForget n s) := by
  unfold islForget
  extract_lets +onlyGivenNames x1
  have h2 : Alter 147573952589676412928 s x1 := by
    unfold x1
    refine Alter.step ?_ (alter_setReg ..) (rm_high (by simp only [R.ISL_TEL_ENV]; omega) rfl)
    refine Alter.step ?_ (alter_setReg ..) (rm_high (by simp only [R.ISL_TEL_VDS]; omega) rfl)
    exact Alter.refl _ _
  clear_value x1
  refine Alter.step ?_ (alter_setBit ..) (rm_high (by simp only [R.ISL_STAT]; omega) rfl)
  refine Alter.step ?_ (alter_setFld ..) (rm_high (by simp only [R.ISL_STAT]; omega) rfl)
  assumption

theorem alter_islLinkDown (n : Nat) (s : State) : Alter 84176146137228092377520075177984 s (islLinkDown n s) := by
  unfold islLinkDown
  refine alter_ite (fun _ => ?_) (fun _ => ?_)
  · exact Alter.refl _ _
  · extract_lets +onlyGivenNames x1
    have h2 : Alter 84176146137228092377520075177984 s x1 := by
      unfold x1
      refine Alter.step ?_ (alter_islForget ..) rfl
      refine Alter.step ?_ (alter_setBit ..) (rm_high (by simp only [R.ISL_STAT]; omega) rfl)
      exact Alter.refl _ _
    clear_value x1
    extract_lets +onlyGivenNames x3
    have h4 : Alter 84176146137228092377520075177984 s x3 := by
      unfold x3
      refine Alter.step ?_ (alter_islRaise ..) rfl
      refine Alter.step ?_ (alter_setBit ..) (rm_high (by simp only [R.ISL_FLAGS]; omega) rfl)
      assumption
    clear_value x3
    refine Alter.step ?_ (alter_preAfterCal ..) rfl
    split
    · rename_i z5 z6 z7
      refine alter_ite (fun _ => ?_) (fun _ => ?_)
      · refine Alter.step ?_ (alter_protHold ..) rfl
        refine Alter.step ?_ (alter_setSel ..) rfl
        assumption
      · refine Alter.step ?_ (alter_selEval ..) rfl
        assumption
    · rename_i z8 z9
      refine Alter.step ?_ (alter_selOfIsl ..) rfl
      assumption

theorem alter_execIslLinkDown (e : Nat) (n : Fin 48) (s : State) : Ends 84176146137338772841962332487680 s (execIslLinkDown e n s) := by
  unfold execIslLinkDown
  refine ends_next ?_
  refine Alter.step ?_ (alter_islLinkDown ..) rfl
  refine Alter.step ?_ (alter_tick ..) rfl
  exact Alter.refl _ _

theorem alter_execIslFallbackApply (e : Nat) (n : Fin 48) (s : State) : Ends 77371510709753299114917888 s (execIslFallbackApply e n s) := by
  unfold execIslFallbackApply
  refine ends_next ?_
  refine Alter.step ?_ (alter_applyFallback ..) rfl
  refine Alter.step ?_ (alter_tick ..) rfl
  exact Alter.refl _ _

theorem alter_islLinkUp (n : Nat) (s : State) : Alter 501288440433618905771251073024 s (islLinkUp n s) := by
  unfold islLinkUp
  refine alter_ite (fun _ => ?_) (fun _ => ?_)
  · exact Alter.refl _ _
  · extract_lets +onlyGivenNames x1
    have h2 : Alter 501288440433618905771251073024 s x1 := by
      unfold x1
      refine Alter.step ?_ (alter_setBit ..) (rm_high (by simp only [R.ISL_STAT]; omega) rfl)
      exact Alter.refl _ _
    clear_value x1
    extract_lets +onlyGivenNames x3
    subst x3
    extract_lets +onlyGivenNames x4
    have h5 : Alter 501288440433618905771251073024 s x4 := by
      unfold x4
      refine Alter.step ?_ (alter_setIsl ..) rfl
      assumption
    clear_value x4
    extract_lets +onlyGivenNames x6
    have h7 : Alter 501288440433618905771251073024 s x6 := by
      unfold x6
      refine Alter.step ?_ (alter_islRaise ..) rfl
      assumption
    clear_value x6
    refine Alter.step ?_ (alter_selOfIsl ..) rfl
    refine alter_ite (fun _ => ?_) (fun _ => ?_)
    · refine Alter.step ?_ (alter_lockHeard ..) rfl
      assumption
    · assumption

theorem alter_execIslLinkUp (e : Nat) (n : Fin 48) (s : State) : Ends 501288440544299370213508382720 s (execIslLinkUp e n s) := by
  unfold execIslLinkUp
  refine ends_next ?_
  refine Alter.step ?_ (alter_islLinkUp ..) rfl
  refine Alter.step ?_ (alter_tick ..) rfl
  exact Alter.refl _ _

theorem alter_islTrim (n : Nat) (ps : Nat) (s : State) : Alter 147573952589676412928 s (islTrim n ps s) := by
  unfold islTrim
  extract_lets +onlyGivenNames x1
  subst x1
  extract_lets +onlyGivenNames x2
  subst x2
  extract_lets +onlyGivenNames x3
  subst x3
  extract_lets +onlyGivenNames x4
  subst x4
  extract_lets +onlyGivenNames x5
  subst x5
  extract_lets +onlyGivenNames x6
  subst x6
  extract_lets +onlyGivenNames x7
  subst x7
  refine alter_ite (fun _ => ?_) (fun _ => ?_)
  · refine Alter.step ?_ (alter_setFld ..) (rm_high (by simp only [R.ISL_STAT]; omega) rfl)
    exact Alter.refl _ _
  · exact Alter.refl _ _

theorem alter_execIslTrimRemeasure (e : Nat) (n : Fin 48) (ps : Nat) (s : State) : Ends 258254417031933722624 s (execIslTrimRemeasure e n ps s) := by
  unfold execIslTrimRemeasure
  refine ends_next ?_
  refine Alter.step ?_ (alter_islTrim ..) rfl
  refine Alter.step ?_ (alter_tick ..) rfl
  exact Alter.refl _ _

theorem alter_islCalibrate (n : Nat) (ps : Nat) (s : State) : Alter 10454885082930923085439696896 s (islCalibrate n ps s) := by
  unfold islCalibrate
  refine alter_ite (fun _ => ?_) (fun _ => ?_)
  · exact Alter.refl _ _
  · extract_lets +onlyGivenNames x1
    subst x1
    extract_lets +onlyGivenNames x2
    subst x2
    extract_lets +onlyGivenNames x3
    subst x3
    extract_lets +onlyGivenNames x4
    have h5 : Alter 10454885082930923085439696896 s x4 := by
      unfold x4
      refine Alter.step ?_ (alter_setIsl ..) rfl
      exact Alter.refl _ _
    clear_value x4
    extract_lets +onlyGivenNames x6
    have h7 : Alter 10454885082930923085439696896 s x6 := by
      unfold x6
      refine Alter.step ?_ (alter_setBit ..) (rm_high (by simp only [R.ISL_STAT]; omega) rfl)
      assumption
    clear_value x6
    extract_lets +onlyGivenNames x8
    have h9 : Alter 10454885082930923085439696896 s x8 := by
      unfold x8
      refine alter_ite (fun _ => ?_) (fun _ => ?_)
      · refine Alter.step ?_ (alter_setFld ..) (rm_high (by simp only [R.ISL_STAT]; omega) rfl)
        assumption
      · refine Alter.step ?_ (alter_islRaise ..) rfl
        refine Alter.step ?_ (alter_setBit ..) (rm_high (by simp only [R.ISL_FLAGS]; omega) rfl)
        assumption
    clear_value x8
    extract_lets +onlyGivenNames x10
    have h11 : Alter 10454885082930923085439696896 s x10 := by
      unfold x10
      split
      · rename_i z12 z13 z14
        extract_lets +onlyGivenNames x15
        subst x15
        refine alter_ite (fun _ => ?_) (fun _ => ?_)
        · refine Alter.step ?_ (alter_selDrop ..) rfl
          refine Alter.step ?_ (alter_setSel ..) rfl
          assumption
        · assumption
      · rename_i z16 z17
        assumption
    clear_value x10
    refine Alter.step ?_ (alter_preAfterCal ..) rfl
    assumption

theorem alter_execIslandCalibration (e : Nat) (n : Fin 48) (ps : Nat) (s : State) : Ends 10454885193611387527697006592 s (execIslandCalibration e n ps s) := by
  unfold execIslandCalibration
  refine ends_next ?_
  refine Alter.step ?_ (alter_islCalibrate ..) rfl
  refine Alter.step ?_ (alter_tick ..) rfl
  exact Alter.refl _ _

end Sys2Proof.Machine
end

