-- ==== Sys2Proof/Laws/Protection.lean ====
section
/-! SUPPORT. What each operation of `Sys2Proof.Machine.Protection` may change (`Alter`), one lemma an operation; for a command,
that it answers a next state (`Ends`). -/

namespace Sys2Proof.Machine

theorem alter_softOff (n : Nat) (desat : Bool) (kelvin : Bool) (s : State) : Alter 77371400029288856857608192 s (softOff n desat kelvin s) := by
  unfold softOff
  extract_lets +onlyGivenNames x1
  subst x1
  split
  · rename_i z2 z3 z4 z5
    extract_lets +onlyGivenNames x6
    subst x6
    extract_lets +onlyGivenNames x7
    subst x7
    extract_lets +onlyGivenNames x8
    subst x8
    extract_lets +onlyGivenNames x9
    have h10 : Alter 77371400029288856857608192 s x9 := by
      unfold x9
      refine Alter.step ?_ (alter_setIsl ..) rfl
      exact Alter.refl _ _
    clear_value x9
    refine Alter.step ?_ (alter_clampShow ..) rfl
    refine Alter.step ?_ (alter_setBit ..) (rm_high (by simp only [R.ISL_STAT]; omega) rfl)
    assumption

theorem alter_desatDetect (n : Nat) (mv : Nat) (above : Nat) (s : State) : Alter 77371510709753299114917888 s (desatDetect n mv above s) := by
  unfold desatDetect
  extract_lets +onlyGivenNames x1
  subst x1
  refine alter_ite (fun _ => ?_) (fun _ => ?_)
  · exact Alter.refl _ _
  · refine alter_ite (fun _ => ?_) (fun _ => ?_)
    · refine Alter.step ?_ (alter_softOff ..) rfl
      refine Alter.step ?_ (alter_until ..) rfl
      exact Alter.refl _ _
    · refine alter_ite (fun _ => ?_) (fun _ => ?_)
      · refine Alter.step ?_ (alter_softOff ..) rfl
        exact Alter.refl _ _
      · exact Alter.refl _ _

theorem alter_execDesatDetection (e : Nat) (n : DesatReading) (s : State) : Ends 77371510709753299114917888 s (execDesatDetection e n s) := by
  unfold execDesatDetection
  refine ends_next ?_
  refine Alter.step ?_ (alter_desatDetect ..) rfl
  refine Alter.step ?_ (alter_tick ..) rfl
  exact Alter.refl _ _

theorem alter_kelvinDetect (n : Nat) (nvs : Nat) (s : State) : Alter 77371400029288856857608192 s (kelvinDetect n nvs s) := by
  unfold kelvinDetect
  refine alter_ite (fun _ => ?_) (fun _ => ?_)
  · extract_lets +onlyGivenNames x1
    subst x1
    extract_lets +onlyGivenNames x2
    have h3 : Alter 77371400029288856857608192 s x2 := by
      unfold x2
      refine Alter.step ?_ (alter_setIsl ..) rfl
      exact Alter.refl _ _
    clear_value x2
    refine alter_ite (fun _ => ?_) (fun _ => ?_)
    · refine Alter.step ?_ (alter_softOff ..) rfl
      assumption
    · assumption
  · exact Alter.refl _ _

theorem alter_execKelvinOcDetection (e : Nat) (n : Fin 48) (nvs : Nat) (s : State) : Ends 77371510709753299114917888 s (execKelvinOcDetection e n nvs s) := by
  unfold execKelvinOcDetection
  refine ends_next ?_
  refine Alter.step ?_ (alter_kelvinDetect ..) rfl
  refine Alter.step ?_ (alter_tick ..) rfl
  exact Alter.refl _ _

theorem alter_softEnds (n : Nat) (s : State) : Alter 501288440544299370213508382720 s (softEnds n s) := by
  unfold softEnds
  split
  · rename_i z1 z2
    exact Alter.refl _ _
  · rename_i z3 z4 z5
    extract_lets +onlyGivenNames x6
    have h7 : Alter 501288440544299370213508382720 s x6 := by
      unfold x6
      refine Alter.step ?_ (alter_untilEl ..) rfl
      exact Alter.refl _ _
    clear_value x6
    extract_lets +onlyGivenNames x8
    subst x8
    extract_lets +onlyGivenNames x9
    have h10 : Alter 501288440544299370213508382720 s x9 := by
      unfold x9
      refine Alter.step ?_ (alter_setIsl ..) rfl
      assumption
    clear_value x9
    refine Alter.step ?_ (alter_selOfIsl ..) rfl
    refine Alter.step ?_ (alter_clampShow ..) rfl
    refine Alter.step ?_ (alter_setBit ..) (rm_high (by simp only [R.PROT_IST]; omega) rfl)
    assumption

theorem alter_execSoftTurnOffEnd (e : Nat) (n : Fin 48) (s : State) : Ends 501288440544299370213508382720 s (execSoftTurnOffEnd e n s) := by
  unfold execSoftTurnOffEnd
  refine ends_next ?_
  refine Alter.step ?_ (alter_softEnds ..) rfl
  refine Alter.step ?_ (alter_tick ..) rfl
  exact Alter.refl _ _

theorem alter_twoLeg (m : Nat) (k : Nat) (st : Nat) (s : State) : Alter 154837099814282516943077376 s (twoLeg m k st s) := by
  unfold twoLeg
  extract_lets +onlyGivenNames x1
  subst x1
  split
  · rename_i z2 z3
    refine Alter.step ?_ (alter_setSel ..) rfl
    exact Alter.refl _ _
  · rename_i z4 z5 z6 z7
    refine alter_ite (fun _ => ?_) (fun _ => ?_)
    · refine alter_ite (fun _ => ?_) (fun _ => ?_)
      · exact Alter.refl _ _
      · refine Alter.step ?_ (alter_raise ..) rfl
        refine Alter.step ?_ (alter_setBit ..) (by decide)
        refine Alter.step ?_ (alter_setSel ..) rfl
        exact Alter.refl _ _
    · refine Alter.step ?_ (alter_setSel ..) rfl
      exact Alter.refl _ _

theorem alter_convSafe (c : Nat) (s : State) : Alter 501133697928708233236888682496 s (convSafe c s) := by
  unfold convSafe
  extract_lets +onlyGivenNames x1
  subst x1
  extract_lets +onlyGivenNames x2
  have h3 : Alter 501133697928708233236888682496 s x2 := by
    unfold x2
    refine Alter.step ?_ (alter_endVerdict ..) rfl
    refine Alter.step ?_ (alter_setConv ..) rfl
    exact Alter.refl _ _
  clear_value x2
  extract_lets +onlyGivenNames x4
  have h5 : Alter 501133697928708233236888682496 s x4 := by
    unfold x4
    refine Alter.step ?_ (alter_setBitAt ..) (by decide)
    assumption
  clear_value x4
  refine alter_ite (fun _ => ?_) (fun _ => ?_)
  · refine Alter.step ?_ (alter_linkEval ..) rfl
    assumption
  · assumption

theorem alter_chopSwitch (c : Nat) (s : State) : Alter 501133697928708233236888682496 s (chopSwitch c s) := by
  unfold chopSwitch
  refine alter_ite (fun _ => ?_) (fun _ => ?_)
  · extract_lets +onlyGivenNames x1
    have h2 : Alter 501133697928708233236888682496 s x1 := by
      unfold x1
      refine Alter.step ?_ (alter_setFld ..) (by decide)
      exact Alter.refl _ _
    clear_value x1
    refine Alter.step ?_ (alter_linkEval ..) rfl
    refine Alter.step ?_ (alter_raise ..) rfl
    refine Alter.step ?_ (alter_setBit ..) (by decide)
    assumption
  · exact Alter.refl _ _

theorem alter_detReceived (n : Nat) (s : State) : Alter 84166232945507252418287484534784 s (detReceived n s) := by
  unfold detReceived
  split
  · rename_i z1 z2
    exact Alter.refl _ _
  · rename_i z3 z4 z5 z6 z7
    extract_lets +onlyGivenNames x8
    subst x8
    extract_lets +onlyGivenNames x9
    subst x9
    extract_lets +onlyGivenNames x10
    subst x10
    extract_lets +onlyGivenNames x11
    have h12 : Alter 84166232945507252418287484534784 s x11 := by
      unfold x11
      refine Alter.step ?_ (alter_setIsl ..) rfl
      exact Alter.refl _ _
    clear_value x11
    extract_lets +onlyGivenNames x13
    subst x13
    extract_lets +onlyGivenNames x14
    have h15 : Alter 84166232945507252418287484534784 s x14 := by
      unfold x14
      refine Alter.step ?_ (alter_setFld ..) (rm_high (by simp only [R.PROT_IST]; omega) rfl)
      assumption
    clear_value x14
    extract_lets +onlyGivenNames x16
    have h17 : Alter 84166232945507252418287484534784 s x16 := by
      unfold x16
      refine alter_ite (fun _ => ?_) (fun _ => ?_)
      · refine Alter.step ?_ (alter_setBit ..) (rm_high (by simp only [R.PROT_IST]; omega) rfl)
        assumption
      · assumption
    clear_value x16
    extract_lets +onlyGivenNames x18
    have h19 : Alter 84166232945507252418287484534784 s x18 := by
      unfold x18
      refine alter_ite (fun _ => ?_) (fun _ => ?_)
      · refine Alter.step ?_ (alter_setBit ..) (rm_high (by simp only [R.PROT_IST]; omega) rfl)
        assumption
      · assumption
    clear_value x18
    extract_lets +onlyGivenNames x20
    have h21 : Alter 84166232945507252418287484534784 s x20 := by
      unfold x20
      refine alter_ite (fun _ => ?_) (fun _ => ?_)
      · refine Alter.step ?_ (alter_setBit ..) (rm_high (by simp only [R.PROT_IST]; omega) rfl)
        assumption
      · assumption
    clear_value x20
    extract_lets +onlyGivenNames x22
    have h23 : Alter 84166232945507252418287484534784 s x22 := by
      unfold x22
      refine alter_ite (fun _ => ?_) (fun _ => ?_)
      · refine Alter.step ?_ (alter_raise ..) rfl
        refine Alter.step ?_ (alter_setBit ..) (by decide)
        assumption
      · assumption
    clear_value x22
    extract_lets +onlyGivenNames x24
    have h25 : Alter 84166232945507252418287484534784 s x24 := by
      unfold x24
      refine alter_ite (fun _ => ?_) (fun _ => ?_)
      · refine Alter.step ?_ (alter_raise ..) rfl
        refine Alter.step ?_ (alter_setBit ..) (by decide)
        assumption
      · assumption
    clear_value x24
    split
    · rename_i z26 z27
      assumption
    · rename_i z28 z29 z30
      extract_lets +onlyGivenNames x31
      have h32 : Alter 84166232945507252418287484534784 s x31 := by
        unfold x31
        refine Alter.step ?_ (alter_convSafe ..) rfl
        assumption
      clear_value x31
      split
      · rename_i z33 z34 z35
        extract_lets +onlyGivenNames x36
        have h37 : Alter 84166232945507252418287484534784 s x36 := by
          unfold x36
          split
          · rename_i z38 z39 z40
            refine Alter.step ?_ (alter_twoLeg ..) rfl
            assumption
          · rename_i z41 z42
            assumption
        clear_value x36
        refine Alter.step ?_ (alter_escalate ..) rfl
        refine Alter.step ?_ (alter_selHold ..) rfl
        assumption
      · rename_i z43 z44
        refine Alter.step ?_ (alter_escalate ..) rfl
        refine Alter.step ?_ (alter_chopSwitch ..) rfl
        refine Alter.step ?_ (alter_convDark ..) rfl
        assumption

theorem alter_execDetectionReceived (e : Nat) (n : Fin 48) (s : State) : Ends 84166232945617932882729741844480 s (execDetectionReceived e n s) := by
  unfold execDetectionReceived
  refine ends_next ?_
  refine Alter.step ?_ (alter_detReceived ..) rfl
  refine Alter.step ?_ (alter_tick ..) rfl
  exact Alter.refl _ _

theorem alter_releaseLatches (c : Nat) (s : State) : Alter 501288440433618905771251073024 s (releaseLatches c s) := by
  unfold releaseLatches
  extract_lets +onlyGivenNames x1
  have h2 : Alter 501288440433618905771251073024 s x1 := by
    unfold x1
    refine Alter.and ?_ (alter_forEach _ _ _ ?_)
    · exact Alter.refl _ _
    · intro a3 b4
      beta_reduce
      refine Alter.step ?_ (alter_clampShow ..) rfl
      refine Alter.step ?_ (alter_setBit ..) (rm_high (by simp only [R.PROT_IST]; omega) rfl)
      exact Alter.refl _ _
  clear_value x1
  extract_lets +onlyGivenNames x5
  have h6 : Alter 501288440433618905771251073024 s x5 := by
    unfold x5
    refine Alter.step ?_ (alter_setBitAt ..) (by decide)
    assumption
  clear_value x5
  split
  · rename_i z7 z8 z9
    refine Alter.step ?_ (alter_selEval ..) rfl
    refine Alter.step ?_ (alter_selDrop ..) rfl
    refine Alter.step ?_ (alter_setSel ..) rfl
    assumption
  · rename_i z10 z11
    refine alter_ite (fun _ => ?_) (fun _ => ?_)
    · refine Alter.step ?_ (alter_linkEval ..) rfl
      assumption
    · assumption

theorem alter_speedLost (m : Nat) (s : State) : Alter 154837099814282516943077376 s (speedLost m s) := by
  unfold speedLost
  extract_lets +onlyGivenNames x1
  subst x1
  extract_lets +onlyGivenNames x2
  subst x2
  extract_lets +onlyGivenNames x3
  have h4 : Alter 154837099814282516943077376 s x3 := by
    unfold x3
    refine Alter.step ?_ (alter_setSel ..) rfl
    exact Alter.refl _ _
  clear_value x3
  refine alter_ite (fun _ => ?_) (fun _ => ?_)
  · refine Alter.step ?_ (alter_raise ..) rfl
    refine Alter.step ?_ (alter_setBit ..) (by decide)
    assumption
  · assumption

theorem alter_speedPut (src : Nat) (rpm : Nat) (m : Nat) (s : State) : Alter 851178371912308921573834752 s (speedPut src rpm m s) := by
  unfold speedPut
  extract_lets +onlyGivenNames x1
  subst x1
  extract_lets +onlyGivenNames x2
  have h3 : Alter 851178371912308921573834752 s x2 := by
    unfold x2
    refine Alter.step ?_ (alter_setFld ..) (rm_high (by simp only [R.PROT_SS_SPEED]; omega) rfl)
    refine Alter.step ?_ (alter_setFld ..) (rm_high (by simp only [R.PROT_SS_SPEED]; omega) rfl)
    exact Alter.refl _ _
  clear_value x2
  refine alter_ite (fun _ => ?_) (fun _ => ?_)
  · refine Alter.step ?_ (alter_selEval ..) rfl
    refine Alter.step ?_ (alter_speedLost ..) rfl
    refine Alter.step ?_ (alter_setSel ..) rfl
    assumption
  · refine Alter.step ?_ (alter_selEval ..) rfl
    refine Alter.step ?_ (alter_setSel ..) rfl
    assumption

theorem alter_sensorSpeed (src : Nat) (ch : Nat) (rpm : Int) (s : State) : Alter 851178371912308921573834752 s (sensorSpeed src ch rpm s) := by
  unfold sensorSpeed
  refine Alter.and ?_ (alter_forEach _ _ _ ?_)
  · exact Alter.refl _ _
  · intro a1 b2
    beta_reduce
    refine Alter.step ?_ (alter_speedPut ..) rfl
    exact Alter.refl _ _

theorem alter_speedRefresh (m : Nat) (src : Nat) (raw : Int) (s : State) : Alter 851178371912308921573834752 s (speedRefresh m src raw s) := by
  unfold speedRefresh
  refine alter_ite (fun _ => ?_) (fun _ => ?_)
  · extract_lets +onlyGivenNames x1
    subst x1
    extract_lets +onlyGivenNames x2
    have h3 : Alter 851178371912308921573834752 s x2 := by
      unfold x2
      refine Alter.step ?_ (alter_setSfld ..) (rm_high (by simp only [R.ADC_RES_STAT]; omega) rfl)
      exact Alter.refl _ _
    clear_value x2
    refine alter_ite (fun _ => ?_) (fun _ => ?_)
    · assumption
    · refine Alter.step ?_ (alter_sensorSpeed ..) rfl
      assumption
  · refine alter_ite (fun _ => ?_) (fun _ => ?_)
    · extract_lets +onlyGivenNames x4
      subst x4
      refine Alter.step ?_ (alter_sensorSpeed ..) rfl
      refine Alter.step ?_ (alter_setSfld ..) (rm_high (by simp only [R.ADC_ENC_STAT]; omega) rfl)
      exact Alter.refl _ _
    · refine Alter.step ?_ (alter_speedPut ..) rfl
      exact Alter.refl _ _

theorem alter_execSelectorSpeedRefresh (e : Nat) (m : Fin 2) (src : Fin 4) (rpm : BitVec 32) (s : State) : Ends 851178482592773363831144448 s (execSelectorSpeedRefresh e m src rpm s) := by
  unfold execSelectorSpeedRefresh
  refine ends_next ?_
  refine Alter.step ?_ (alter_speedRefresh ..) rfl
  refine Alter.step ?_ (alter_tick ..) rfl
  exact Alter.refl _ _

theorem alter_speedStale (m : Nat) (s : State) : Alter 851178482592773363831144448 s (speedStale m s) := by
  unfold speedStale
  split
  · rename_i z1 z2
    exact Alter.refl _ _
  · rename_i z3 z4 z5
    extract_lets +onlyGivenNames x6
    have h7 : Alter 851178482592773363831144448 s x6 := by
      unfold x6
      refine alter_ite (fun _ => ?_) (fun _ => ?_)
      · refine Alter.step ?_ (alter_until ..) rfl
        exact Alter.refl _ _
      · exact Alter.refl _ _
    clear_value x6
    refine Alter.step ?_ (alter_selEval ..) rfl
    refine Alter.step ?_ (alter_speedLost ..) rfl
    assumption

theorem alter_execSpeedStale (e : Nat) (m : Fin 2) (s : State) : Ends 851178482592773363831144448 s (execSpeedStale e m s) := by
  unfold execSpeedStale
  refine ends_next ?_
  refine Alter.step ?_ (alter_speedStale ..) rfl
  refine Alter.step ?_ (alter_tick ..) rfl
  exact Alter.refl _ _

theorem alter_holdExpiry (m : Nat) (s : State) : Alter 851178482592773363831144448 s (holdExpiry m s) := by
  unfold holdExpiry
  split
  · rename_i z1 z2
    exact Alter.refl _ _
  · rename_i z3 z4 z5
    refine Alter.step ?_ (alter_selEval ..) rfl
    refine Alter.step ?_ (alter_until ..) rfl
    exact Alter.refl _ _

theorem alter_execActiveShortHoldExpiry (e : Nat) (m : Fin 2) (s : State) : Ends 851178482592773363831144448 s (execActiveShortHoldExpiry e m s) := by
  unfold execActiveShortHoldExpiry
  refine ends_next ?_
  refine Alter.step ?_ (alter_holdExpiry ..) rfl
  refine Alter.step ?_ (alter_tick ..) rfl
  exact Alter.refl _ _

theorem alter_swapExpiry (m : Nat) (s : State) : Alter 851178482592773363831144448 s (swapExpiry m s) := by
  unfold swapExpiry
  split
  · rename_i z1 z2
    exact Alter.refl _ _
  · rename_i z3 z4 z5
    refine Alter.step ?_ (alter_selBuild ..) rfl
    refine Alter.step ?_ (alter_until ..) rfl
    exact Alter.refl _ _

theorem alter_execSwapDtExpiry (e : Nat) (m : Fin 2) (s : State) : Ends 851178482592773363831144448 s (execSwapDtExpiry e m s) := by
  unfold execSwapDtExpiry
  refine ends_next ?_
  refine Alter.step ?_ (alter_swapExpiry ..) rfl
  refine Alter.step ?_ (alter_tick ..) rfl
  exact Alter.refl _ _

theorem alter_convVerdicts (s : State) : Alter 309485009821345068724781056 s (convVerdicts s) := by
  unfold convVerdicts
  refine Alter.and ?_ (alter_forEach _ _ _ ?_)
  · exact Alter.refl _ _
  · intro a1 b2
    beta_reduce
    extract_lets +onlyGivenNames x3
    subst x3
    extract_lets +onlyGivenNames x4
    subst x4
    refine alter_ite (fun _ => ?_) (fun _ => ?_)
    · refine Alter.step ?_ (alter_endVerdict ..) rfl
      exact Alter.refl _ _
    · refine alter_ite (fun _ => ?_) (fun _ => ?_)
      · refine Alter.step ?_ (alter_setConv ..) rfl
        exact Alter.refl _ _
      · refine alter_ite (fun _ => ?_) (fun _ => ?_)
        · refine Alter.step ?_ (alter_setConv ..) rfl
          exact Alter.refl _ _
        · refine Alter.step ?_ (alter_setConv ..) rfl
          exact Alter.refl _ _

theorem alter_preEnd (s : State) : Alter 309579604724955051305467904 s (preEnd s) := by
  unfold preEnd
  extract_lets +onlyGivenNames x1
  subst x1
  extract_lets +onlyGivenNames x2
  have h3 : Alter 309579604724955051305467904 s x2 := by
    unfold x2
    refine Alter.step ?_ (alter_setBit ..) (by decide)
    refine Alter.step ?_ (alter_setBit ..) (by decide)
    exact Alter.refl _ _
  clear_value x2
  extract_lets +onlyGivenNames x4
  have h5 : Alter 309579604724955051305467904 s x4 := by
    unfold x4
    refine Alter.step ?_ (alter_setBit ..) (by decide)
    refine Alter.step ?_ (alter_convVerdicts ..) rfl
    assumption
  clear_value x4
  extract_lets +onlyGivenNames x6
  have h7 : Alter 309579604724955051305467904 s x6 := by
    unfold x6
    refine Alter.step ?_ (alter_raise ..) rfl
    assumption
  clear_value x6
  split
  · rename_i z8 z9
    assumption
  · rename_i z10 z11 z12 z13
    extract_lets +onlyGivenNames x14
    have h15 : Alter 309579604724955051305467904 s x14 := by
      unfold x14
      refine Alter.step ?_ (alter_setBit ..) (by decide)
      refine Alter.step ?_ (alter_setBit ..) (by decide)
      assumption
    clear_value x14
    refine Alter.step ?_ (alter_raise ..) rfl
    assumption

theorem alter_preDone (gates : List GateTest) (phs : List PhsTest) (s : State) : Alter 309579604724955051305467904 s (preDone gates phs s) := by
  unfold preDone
  refine alter_ite (fun _ => ?_) (fun _ => ?_)
  · exact Alter.refl _ _
  · extract_lets +onlyGivenNames x1
    subst x1
    extract_lets +onlyGivenNames x2
    have h3 : Alter 309579604724955051305467904 s x2 := by
      unfold x2
      refine Alter.and ?_ (alter_forEach _ _ _ ?_)
      · exact Alter.refl _ _
      · intro a4 b5
        beta_reduce
        refine Alter.step ?_ (alter_setVerdict ..) rfl
        exact Alter.refl _ _
    clear_value x2
    refine alter_ite (fun _ => ?_) (fun _ => ?_)
    · extract_lets +onlyGivenNames x6
      subst x6
      refine Alter.step ?_ (alter_convVerdicts ..) rfl
      refine Alter.step ?_ (alter_setBit ..) (by decide)
      refine Alter.step ?_ (alter_setBit ..) (by decide)
      assumption
    · refine Alter.step ?_ (alter_preEnd ..) rfl
      assumption

theorem alter_execPrestartDone (e : Nat) (gates : List GateTest) (phs : List PhsTest) (s : State) : Ends 309579715405419493562777600 s (execPrestartDone e gates phs s) := by
  unfold execPrestartDone
  refine ends_next ?_
  refine Alter.step ?_ (alter_preDone ..) rfl
  refine Alter.step ?_ (alter_tick ..) rfl
  exact Alter.refl _ _

theorem alter_railTest (link : Nat) (gates : List GateTest) (phs : List PhsTest) (s : State) : Alter 309579604724955051305467904 s (railTest link gates phs s) := by
  unfold railTest
  refine alter_ite (fun _ => ?_) (fun _ => ?_)
  · exact Alter.refl _ _
  · extract_lets +onlyGivenNames x1
    have h2 : Alter 309579604724955051305467904 s x1 := by
      unfold x1
      refine Alter.and ?_ (alter_forEach _ _ _ ?_)
      · exact Alter.refl _ _
      · intro a3 b4
        beta_reduce
        refine alter_ite (fun _ => ?_) (fun _ => ?_)
        · refine Alter.step ?_ (alter_setVerdict ..) rfl
          exact Alter.refl _ _
        · exact Alter.refl _ _
    clear_value x1
    refine Alter.step ?_ (alter_preEnd ..) rfl
    assumption

theorem alter_execRailTest (e : Nat) (link : Nat) (phs : RailReading) (s : State) : Ends 309579715405419493562777600 s (execRailTest e link phs s) := by
  unfold execRailTest
  refine ends_next ?_
  refine Alter.step ?_ (alter_railTest ..) rfl
  refine Alter.step ?_ (alter_tick ..) rfl
  exact Alter.refl _ _

end Sys2Proof.Machine
end

