-- ==== Sys2Proof/Laws/Pwm.lean ====
section
/-! SUPPORT. What each operation of `Sys2Proof.Machine.Pwm` may change (`Alter`), one lemma an operation; for a command,
that it answers a next state (`Ends`). -/

namespace Sys2Proof.Machine

theorem alter_shadowPut (j : Nat) (x : Shadow) (s : State) : Alter 1237940039285380274899124224 s (shadowPut j x s) := by
  unfold shadowPut
  extract_lets +onlyGivenNames x1
  subst x1
  refine Alter.step ?_ (alter_setTb ..) rfl
  exact Alter.refl _ _

theorem alter_tokenPut (j : Nat) (s : State) : Alter 1237940039285380274899124224 s (tokenPut j s) := by
  unfold tokenPut
  extract_lets +onlyGivenNames x1
  subst x1
  refine Alter.step ?_ (alter_setTb ..) rfl
  exact Alter.refl _ _

theorem alter_dutyClamp (k : Nat) (s : State) : Alter 94594903609982580686848 s (dutyClamp k s) := by
  unfold dutyClamp
  extract_lets +onlyGivenNames x1
  have h2 : Alter 94594903609982580686848 s x1 := by
    unfold x1
    refine Alter.step ?_ (alter_setBit ..) (by decide)
    exact Alter.refl _ _
  clear_value x1
  refine Alter.and ?_ (alter_flagRaise _ _ _ _ _ _ (rm_high (by simp only [R.PWM_HB_FLAGS]; omega) rfl))
  assumption

theorem alter_shapeNext (k : Nat) (b : Nat) (p : Nat) (th : Nat) (tl : Nat) (u : Unit) (s : State) : Alter 618970167216642727125975040 s (shapeNext k b p th tl u s) := by
  unfold shapeNext
  extract_lets +onlyGivenNames x1
  subst x1
  extract_lets +onlyGivenNames x2
  subst x2
  extract_lets +onlyGivenNames x3
  subst x3
  extract_lets +onlyGivenNames x4
  subst x4
  extract_lets +onlyGivenNames x5
  subst x5
  extract_lets +onlyGivenNames x6
  subst x6
  extract_lets +onlyGivenNames x7
  have h8 : Alter 618970167216642727125975040 s x7 := by
    unfold x7
    refine Alter.step ?_ (alter_setFld ..) (rm_high (by simp only [R.PWM_HB_CTRL]; omega) rfl)
    refine Alter.step ?_ (alter_setUnit ..) rfl
    exact Alter.refl _ _
  clear_value x7
  refine alter_ite (fun _ => ?_) (fun _ => ?_)
  · refine Alter.step ?_ (alter_setBit ..) (by decide)
    refine Alter.step ?_ (alter_setBit ..) (rm_high (by simp only [R.PWM_HB_FLAGS]; omega) rfl)
    assumption
  · assumption

theorem alter_alignTb (j : Nat) (s : State) : Alter 1237940039285380274899124224 s (alignTb j s) := by
  unfold alignTb
  extract_lets +onlyGivenNames x1
  subst x1
  extract_lets +onlyGivenNames x2
  subst x2
  refine alter_ite (fun _ => ?_) (fun _ => ?_)
  · exact Alter.refl _ _
  · refine alter_ite (fun _ => ?_) (fun _ => ?_)
    · extract_lets +onlyGivenNames x3
      subst x3
      extract_lets +onlyGivenNames x4
      subst x4
      extract_lets +onlyGivenNames x5
      subst x5
      extract_lets +onlyGivenNames x6
      subst x6
      extract_lets +onlyGivenNames x7
      subst x7
      refine Alter.step ?_ (alter_setTb ..) rfl
      exact Alter.refl _ _
    · refine alter_ite (fun _ => ?_) (fun _ => ?_)
      · exact Alter.refl _ _
      · refine Alter.step ?_ (alter_setTb ..) rfl
        exact Alter.refl _ _

theorem alter_alignChain (j : Nat) (s : State) : Alter 1237940039285380274899124224 s (alignChain j s) := by
  unfold alignChain
  refine Alter.and ?_ (alter_forEach _ _ _ ?_)
  · exact Alter.refl _ _
  · intro a1 b2
    beta_reduce
    refine Alter.step ?_ (alter_alignTb ..) rfl
    exact Alter.refl _ _

theorem alter_processSet (j : Nat) (l : List Shadow) (hold : Bool) (s : State) : Alter 1857004653831680394929373184 s (processSet j l hold s) := by
  unfold processSet
  extract_lets +onlyGivenNames x1
  have h2 : Alter 1857004653831680394929373184 s x1 := by
    unfold x1
    refine Alter.step ?_ (alter_setTb ..) rfl
    exact Alter.refl _ _
  clear_value x1
  extract_lets +onlyGivenNames x3
  subst x3
  extract_lets +onlyGivenNames x4
  subst x4
  extract_lets +onlyGivenNames x5
  subst x5
  extract_lets +onlyGivenNames x6
  subst x6
  extract_lets +onlyGivenNames x7
  subst x7
  extract_lets +onlyGivenNames x8
  have h9 : Alter 1857004653831680394929373184 s x8 := by
    unfold x8
    refine alter_ite (fun _ => ?_) (fun _ => ?_)
    · assumption
    · refine Alter.and ?_ (alter_flagRaise _ _ _ _ _ _ (by decide))
      assumption
  clear_value x8
  extract_lets +onlyGivenNames x10
  subst x10
  extract_lets +onlyGivenNames x11
  subst x11
  extract_lets +onlyGivenNames x12
  subst x12
  extract_lets +onlyGivenNames x13
  subst x13
  extract_lets +onlyGivenNames x14
  subst x14
  extract_lets +onlyGivenNames x15
  have h16 : Alter 1857004653831680394929373184 s x15 := by
    unfold x15
    refine Alter.and ?_ (alter_forEach _ _ _ ?_)
    · assumption
    · intro a17 b18
      beta_reduce
      refine Alter.step ?_ (alter_setBit ..) (rm_high (by simp only [R.PWM_HB_FLAGS]; omega) rfl)
      exact Alter.refl _ _
  clear_value x15
  extract_lets +onlyGivenNames x19
  have h20 : Alter 1857004653831680394929373184 s x19 := by
    unfold x19
    refine alter_ite (fun _ => ?_) (fun _ => ?_)
    · assumption
    · refine Alter.step ?_ (alter_raise ..) rfl
      refine Alter.step ?_ (alter_setBit ..) (by decide)
      assumption
  clear_value x19
  extract_lets +onlyGivenNames x21
  have h22 : Alter 1857004653831680394929373184 s x21 := by
    unfold x21
    refine Alter.and ?_ (alter_forEach _ _ _ ?_)
    · assumption
    · intro a23 b24
      beta_reduce
      refine Alter.step ?_ (alter_dutyClamp ..) rfl
      exact Alter.refl _ _
  clear_value x21
  extract_lets +onlyGivenNames x25
  subst x25
  extract_lets +onlyGivenNames x26
  subst x26
  extract_lets +onlyGivenNames x27
  have h28 : Alter 1857004653831680394929373184 s x27 := by
    unfold x27
    refine Alter.and ?_ (alter_forEach _ _ _ ?_)
    · assumption
    · intro a29 b30
      beta_reduce
      refine Alter.step ?_ (alter_setBit ..) (rm_high (by simp only [R.PWM_HB_FLAGS]; omega) rfl)
      exact Alter.refl _ _
  clear_value x27
  extract_lets +onlyGivenNames x31
  have h32 : Alter 1857004653831680394929373184 s x31 := by
    unfold x31
    refine alter_ite (fun _ => ?_) (fun _ => ?_)
    · refine Alter.step ?_ (alter_raise ..) rfl
      refine Alter.step ?_ (alter_setBit ..) (by decide)
      assumption
    · assumption
  clear_value x31
  extract_lets +onlyGivenNames x33
  subst x33
  split
  · rename_i z34 z35 z36 z37
    extract_lets +onlyGivenNames x38
    subst x38
    extract_lets +onlyGivenNames x39
    have h40 : Alter 1857004653831680394929373184 s x39 := by
      unfold x39
      refine alter_ite (fun _ => ?_) (fun _ => ?_)
      · refine Alter.and ?_ (alter_forEach _ _ _ ?_)
        · assumption
        · intro a41 b42
          beta_reduce
          refine Alter.step ?_ (alter_dutyClamp ..) rfl
          exact Alter.refl _ _
      · assumption
    clear_value x39
    extract_lets +onlyGivenNames x43
    have h44 : Alter 1857004653831680394929373184 s x43 := by
      unfold x43
      refine Alter.and ?_ (alter_forEach _ _ _ ?_)
      · assumption
      · intro a45 b46
        beta_reduce
        split
        · rename_i z47 z48 z49 z50
          refine Alter.step ?_ (alter_shapeNext ..) rfl
          exact Alter.refl _ _
    clear_value x43
    extract_lets +onlyGivenNames x51
    subst x51
    refine Alter.step ?_ (alter_alignChain ..) rfl
    refine Alter.step ?_ (alter_setTb ..) rfl
    assumption

theorem alter_edgeFalls (k : Nat) (d : Edge) (s : State) : Alter 696435867001636387211444224 s (edgeFalls k d s) := by
  unfold edgeFalls
  extract_lets +onlyGivenNames x1
  subst x1
  refine alter_ite (fun _ => ?_) (fun _ => ?_)
  · exact Alter.refl _ _
  · refine alter_ite (fun _ => ?_) (fun _ => ?_)
    · refine Alter.step ?_ (alter_gateOnP ..) rfl
      refine alter_ite (fun _ => ?_) (fun _ => ?_)
      · exact Alter.refl _ _
      · refine Alter.step ?_ (alter_setIsl ..) rfl
        exact Alter.refl _ _
    · refine Alter.step ?_ (alter_gateOffP ..) rfl
      exact Alter.refl _ _

theorem alter_gateEdge (k : Nat) (s : State) : Alter 5071298836890599706816281575424 s (gateEdge k s) := by
  unfold gateEdge
  split
  · rename_i z1 z2
    exact Alter.refl _ _
  · rename_i z3 z4 z5 z6
    extract_lets +onlyGivenNames x7
    have h8 : Alter 5071298836890599706816281575424 s x7 := by
      unfold x7
      refine Alter.step ?_ (alter_until ..) rfl
      exact Alter.refl _ _
    clear_value x7
    extract_lets +onlyGivenNames x9
    subst x9
    extract_lets +onlyGivenNames x10
    have h11 : Alter 5071298836890599706816281575424 s x10 := by
      unfold x10
      refine Alter.step ?_ (alter_setUnit ..) rfl
      assumption
    clear_value x10
    split
    · rename_i z12 z13 z14 z15
      extract_lets +onlyGivenNames x16
      have h17 : Alter 5071298836890599706816281575424 s x16 := by
        unfold x16
        refine Alter.and ?_ (alter_forEach _ _ _ ?_)
        · assumption
        · intro a18 b19
          beta_reduce
          refine Alter.step ?_ (alter_setEst ..) rfl
          exact Alter.refl _ _
      clear_value x16
      refine alter_ite (fun _ => ?_) (fun _ => ?_)
      · assumption
      · refine Alter.step ?_ (alter_edgeFalls ..) rfl
        assumption

theorem alter_carryClear (k : Nat) (s : State) : Alter 618970167216642727125975040 s (carryClear k s) := by
  unfold carryClear
  extract_lets +onlyGivenNames x1
  subst x1
  extract_lets +onlyGivenNames x2
  have h3 : Alter 618970167216642727125975040 s x2 := by
    unfold x2
    refine Alter.step ?_ (alter_setUnit ..) rfl
    exact Alter.refl _ _
  clear_value x2
  refine Alter.step ?_ (alter_setFld ..) (rm_high (by simp only [R.PWM_HB_CARRY]; omega) rfl)
  refine Alter.step ?_ (alter_setFld ..) (rm_high (by simp only [R.PWM_HB_CARRY]; omega) rfl)
  assumption

theorem alter_tripSelect (c : Nat) (m : Nat) (stamp : Nat) (s : State) : Alter 89236835346530850488716554665984 s (tripSelect c m stamp s) := by
  unfold tripSelect
  refine alter_ite (fun _ => ?_) (fun _ => ?_)
  · refine Alter.step ?_ (alter_protHold ..) rfl
    exact Alter.refl _ _
  · refine Alter.step ?_ (alter_protHold ..) rfl
    refine Alter.step ?_ (alter_until ..) rfl
    refine Alter.and ?_ (alter_forEach _ _ _ ?_)
    · exact Alter.refl _ _
    · intro a1 b2
      beta_reduce
      refine Alter.step ?_ (alter_gateEdge ..) rfl
      exact Alter.refl _ _

theorem alter_tripLatch (k : Nat) (stamp : Nat) (fresh : Bool) (s : State) : Alter 89246738866845133530915747659776 s (tripLatch k stamp fresh s) := by
  unfold tripLatch
  split
  · rename_i z1 z2
    exact Alter.refl _ _
  · rename_i z3 z4 z5
    extract_lets +onlyGivenNames x6
    have h7 : Alter 89246738866845133530915747659776 s x6 := by
      unfold x6
      refine Alter.and ?_ (alter_forEach _ _ _ ?_)
      · exact Alter.refl _ _
      · intro a8 b9
        beta_reduce
        extract_lets +onlyGivenNames x10
        have h11 : Alter 89246738866845133530915747659776 b9 x10 := by
          unfold x10
          refine Alter.step ?_ (alter_setBitAt ..) (by decide)
          exact Alter.refl _ _
        clear_value x10
        extract_lets +onlyGivenNames x12
        have h13 : Alter 89246738866845133530915747659776 b9 x12 := by
          unfold x12
          refine Alter.step ?_ (alter_setBit ..) (rm_high (by simp only [R.PWM_HB_STAT]; omega) rfl)
          refine Alter.step ?_ (alter_setBit ..) (rm_high (by simp only [R.PWM_HB_FLAGS]; omega) rfl)
          assumption
        clear_value x12
        extract_lets +onlyGivenNames x14
        subst x14
        extract_lets +onlyGivenNames x15
        subst x15
        extract_lets +onlyGivenNames x16
        have h17 : Alter 89246738866845133530915747659776 b9 x16 := by
          unfold x16
          refine Alter.step ?_ (alter_carryClear ..) rfl
          refine Alter.step ?_ (alter_setUnit ..) rfl
          assumption
        clear_value x16
        refine Alter.step ?_ (alter_setBit ..) (rm_high (by simp only [R.PWM_HB_STAT]; omega) rfl)
        assumption
    clear_value x6
    extract_lets +onlyGivenNames x18
    have h19 : Alter 89246738866845133530915747659776 s x18 := by
      unfold x18
      refine Alter.step ?_ (alter_noticeSend ..) rfl
      refine Alter.step ?_ (alter_setBit ..) (by decide)
      assumption
    clear_value x18
    split
    · rename_i z20 z21 z22
      refine Alter.step ?_ (alter_tripSelect ..) rfl
      assumption
    · rename_i z23 z24
      assumption

theorem alter_tripUnit (fresh : Bool) (k : Nat) (stamp : Nat) (s : State) : Alter 89246738866845133530915747659776 s (tripUnit fresh k stamp s) := by
  unfold tripUnit
  extract_lets +onlyGivenNames x1
  subst x1
  refine alter_ite (fun _ => ?_) (fun _ => ?_)
  · exact Alter.refl _ _
  · extract_lets +onlyGivenNames x2
    subst x2
    extract_lets +onlyGivenNames x3
    subst x3
    extract_lets +onlyGivenNames x4
    subst x4
    extract_lets +onlyGivenNames x5
    subst x5
    extract_lets +onlyGivenNames x6
    have h7 : Alter 89246738866845133530915747659776 s x6 := by
      unfold x6
      refine Alter.step ?_ (alter_setUnit ..) rfl
      exact Alter.refl _ _
    clear_value x6
    extract_lets +onlyGivenNames x8
    have h9 : Alter 89246738866845133530915747659776 s x8 := by
      unfold x8
      refine Alter.step ?_ (alter_setBit ..) (rm_high (by simp only [R.PWM_HB_STAT]; omega) rfl)
      refine Alter.step ?_ (alter_setBit ..) (rm_high (by simp only [R.PWM_HB_FLAGS]; omega) rfl)
      assumption
    clear_value x8
    extract_lets +onlyGivenNames x10
    have h11 : Alter 89246738866845133530915747659776 s x10 := by
      unfold x10
      refine Alter.step ?_ (alter_noticeSend ..) rfl
      refine Alter.step ?_ (alter_setFld ..) (rm_high (by simp only [R.PWM_HB_STAT]; omega) rfl)
      assumption
    clear_value x10
    refine alter_ite (fun _ => ?_) (fun _ => ?_)
    · refine Alter.step ?_ (alter_tripLatch ..) rfl
      assumption
    · assumption

theorem alter_tripAt (src : Nat) (on : Bool) (t : Nat) (s : State) : Alter 89249214746923704291465545908224 s (tripAt src on t s) := by
  unfold tripAt
  extract_lets +onlyGivenNames x1
  have h2 : Alter 89249214746923704291465545908224 s x1 := by
    unfold x1
    refine Alter.step ?_ (alter_trips _ _) rfl
    exact Alter.refl _ _
  clear_value x1
  refine alter_ite (fun _ => ?_) (fun _ => ?_)
  · refine Alter.and ?_ (alter_forEach _ _ _ ?_)
    · assumption
    · intro a3 b4
      beta_reduce
      refine Alter.step ?_ (alter_tripUnit ..) rfl
      exact Alter.refl _ _
  · assumption

theorem alter_tripAssert (src : Nat) (on : Bool) (s : State) : Alter 89249214746923704291465545908224 s (tripAssert src on s) := by
  unfold tripAssert
  refine Alter.step ?_ (alter_tripAt ..) rfl
  exact Alter.refl _ _

theorem alter_execTripAssert (e : Nat) (src : Fin 72) (on : Bool) (s : State) : Ends 89249214746923704291465545908224 s (execTripAssert e src on s) := by
  unfold execTripAssert
  refine ends_next ?_
  refine Alter.step ?_ (alter_tripAssert ..) rfl
  refine Alter.step ?_ (alter_tick ..) rfl
  exact Alter.refl _ _

theorem alter_latchRelease (mask : Nat) (s : State) : Alter 618970019642690137449562112 s (latchRelease mask s) := by
  unfold latchRelease
  extract_lets +onlyGivenNames x1
  subst x1
  refine Alter.and ?_ (alter_forEach _ _ _ ?_)
  · exact Alter.refl _ _
  · intro a2 b3
    beta_reduce
    refine alter_ite (fun _ => ?_) (fun _ => ?_)
    · refine Alter.step ?_ (alter_setUnit ..) rfl
      exact Alter.refl _ _
    · exact Alter.refl _ _

theorem alter_unitRelease (k : Nat) (s : State) : Alter 618970167216642727125975040 s (unitRelease k s) := by
  unfold unitRelease
  extract_lets +onlyGivenNames x1
  subst x1
  extract_lets +onlyGivenNames x2
  have h3 : Alter 618970167216642727125975040 s x2 := by
    unfold x2
    refine Alter.step ?_ (alter_setUnit ..) rfl
    exact Alter.refl _ _
  clear_value x2
  extract_lets +onlyGivenNames x4
  have h5 : Alter 618970167216642727125975040 s x4 := by
    unfold x4
    refine Alter.step ?_ (alter_setBit ..) (rm_high (by simp only [R.PWM_HB_STAT]; omega) rfl)
    refine Alter.step ?_ (alter_setBitAt ..) (by decide)
    assumption
  clear_value x4
  refine Alter.step ?_ (alter_setFld ..) (rm_high (by simp only [R.PWM_HB_STAT]; omega) rfl)
  assumption

theorem alter_tripDrop (c : Nat) (s : State) : Alter 154742504910672534362390528 s (tripDrop c s) := by
  unfold tripDrop
  split
  · rename_i z1 z2 z3
    refine alter_ite (fun _ => ?_) (fun _ => ?_)
    · refine Alter.step ?_ (alter_selDrop ..) rfl
      exact Alter.refl _ _
    · exact Alter.refl _ _
  · rename_i z4 z5
    exact Alter.refl _ _

theorem alter_pulseMid (es : List Edge) (high : Bool) (g : Nat) (s : State) : Alter 77371252455336267181195264 s (pulseMid es high g s) := by
  unfold pulseMid
  split
  · rename_i z1 z2 z3
    refine alter_ite (fun _ => ?_) (fun _ => ?_)
    · refine Alter.step ?_ (alter_setIsl ..) rfl
      exact Alter.refl _ _
    · exact Alter.refl _ _
  · rename_i z4 z5
    exact Alter.refl _ _

theorem alter_unitBoundary (b : Nat) (first : Bool) (k : Nat) (s : State) : Alter 696341419671978994307170304 s (unitBoundary b first k s) := by
  unfold unitBoundary
  extract_lets +onlyGivenNames x1
  subst x1
  extract_lets +onlyGivenNames x2
  subst x2
  extract_lets +onlyGivenNames x3
  subst x3
  extract_lets +onlyGivenNames x4
  subst x4
  extract_lets +onlyGivenNames x5
  have h6 : Alter 696341419671978994307170304 s x5 := by
    unfold x5
    refine Alter.step ?_ (alter_setBit ..) (rm_high (by simp only [R.PWM_HB_STAT]; omega) rfl)
    exact Alter.refl _ _
  clear_value x5
  extract_lets +onlyGivenNames x7
  have h8 : Alter 696341419671978994307170304 s x7 := by
    unfold x7
    refine Alter.step ?_ (alter_setBit ..) (rm_high (by simp only [R.PWM_HB_STAT]; omega) rfl)
    assumption
  clear_value x7
  extract_lets +onlyGivenNames x9
  have h10 : Alter 696341419671978994307170304 s x9 := by
    unfold x9
    refine Alter.step ?_ (alter_setUnit ..) rfl
    assumption
  clear_value x9
  extract_lets +onlyGivenNames x11
  subst x11
  extract_lets +onlyGivenNames x12
  have h13 : Alter 696341419671978994307170304 s x12 := by
    unfold x12
    refine Alter.step ?_ (alter_setSfld ..) (rm_high (by simp only [R.PWM_HB_CARRY]; omega) rfl)
    refine Alter.step ?_ (alter_setSfld ..) (rm_high (by simp only [R.PWM_HB_CARRY]; omega) rfl)
    assumption
  clear_value x12
  extract_lets +onlyGivenNames x14
  have h15 : Alter 696341419671978994307170304 s x14 := by
    unfold x14
    refine Alter.step ?_ (alter_setFld ..) (rm_high (by simp only [R.PWM_HB_CARRY]; omega) rfl)
    refine Alter.step ?_ (alter_setFld ..) (rm_high (by simp only [R.PWM_HB_CARRY]; omega) rfl)
    assumption
  clear_value x14
  extract_lets +onlyGivenNames x16
  have h17 : Alter 696341419671978994307170304 s x16 := by
    unfold x16
    refine Alter.step ?_ (alter_setBit ..) (rm_high (by simp only [R.PWM_HB_STAT]; omega) rfl)
    assumption
  clear_value x16
  refine alter_ite (fun _ => ?_) (fun _ => ?_)
  · refine alter_ite (fun _ => ?_) (fun _ => ?_)
    · refine Alter.step ?_ (alter_carryClear ..) rfl
      assumption
    · refine Alter.step ?_ (alter_unitDark ..) rfl
      assumption
  · split
    · rename_i z18 z19 z20 z21
      refine Alter.step ?_ (alter_pulseMid ..) rfl
      refine alter_ite (fun _ => ?_) (fun _ => ?_)
      · refine Alter.step ?_ (alter_pulseMid ..) rfl
        assumption
      · assumption

theorem alter_boundaryTrip (b : Nat) (k : Nat) (s : State) : Alter 89246738866845133530915747659776 s (boundaryTrip b k s) := by
  unfold boundaryTrip
  refine alter_ite (fun _ => ?_) (fun _ => ?_)
  · refine Alter.step ?_ (alter_tripUnit ..) rfl
    exact Alter.refl _ _
  · exact Alter.refl _ _

theorem alter_releasesDue (ks : List Nat) (s : State) : Alter 618970167216642727125975040 s (releasesDue ks s) := by
  unfold releasesDue
  refine Alter.and ?_ (alter_forEach _ _ _ ?_)
  · exact Alter.refl _ _
  · intro a1 b2
    beta_reduce
    refine alter_ite (fun _ => ?_) (fun _ => ?_)
    · refine Alter.step ?_ (alter_unitRelease ..) rfl
      exact Alter.refl _ _
    · exact Alter.refl _ _

theorem alter_handBack (m : Nat) (s : State) : Alter 773712672127315261488365568 s (handBack m s) := by
  unfold handBack
  extract_lets +onlyGivenNames x1
  subst x1
  refine alter_ite (fun _ => ?_) (fun _ => ?_)
  · exact Alter.refl _ _
  · extract_lets +onlyGivenNames x2
    have h3 : Alter 773712672127315261488365568 s x2 := by
      unfold x2
      refine Alter.step ?_ (alter_setSel ..) rfl
      exact Alter.refl _ _
    clear_value x2
    extract_lets +onlyGivenNames x4
    have h5 : Alter 773712672127315261488365568 s x4 := by
      unfold x4
      refine Alter.step ?_ (alter_setBit ..) (rm_high (by simp only [R.PROT_SS_STAT]; omega) rfl)
      assumption
    clear_value x4
    split
    · rename_i z6 z7 z8
      refine Alter.and ?_ (alter_forEach _ _ _ ?_)
      · assumption
      · intro a9 b10
        beta_reduce
        extract_lets +onlyGivenNames x11
        subst x11
        extract_lets +onlyGivenNames x12
        subst x12
        extract_lets +onlyGivenNames x13
        subst x13
        refine alter_ite (fun _ => ?_) (fun _ => ?_)
        · refine Alter.step ?_ (alter_setUnit ..) rfl
          exact Alter.refl _ _
        · refine Alter.step ?_ (alter_shapeNext ..) rfl
          exact Alter.refl _ _
    · rename_i z14 z15
      assumption

theorem alter_showLocked (s : State) : Alter 147573952589676412928 s (showLocked s) := by
  unfold showLocked
  refine Alter.step ?_ (alter_setBit ..) (by decide)
  exact Alter.refl _ _

theorem alter_syncPlaced (j : Nat) (s : State) : Alter 11141554948472032456672804864 s (syncPlaced j s) := by
  unfold syncPlaced
  extract_lets +onlyGivenNames x1
  subst x1
  extract_lets +onlyGivenNames x2
  subst x2
  refine alter_ite (fun _ => ?_) (fun _ => ?_)
  · refine Alter.step ?_ (alter_noticeSend ..) rfl
    refine Alter.step ?_ (alter_showLocked ..) rfl
    refine Alter.step ?_ (alter_setTb ..) rfl
    exact Alter.refl _ _
  · exact Alter.refl _ _

theorem alter_tbBoundary (j : Nat) (s : State) : Alter 11141554948472032456672804864 s (tbBoundary j s) := by
  unfold tbBoundary
  extract_lets +onlyGivenNames x1
  subst x1
  extract_lets +onlyGivenNames x2
  subst x2
  extract_lets +onlyGivenNames x3
  subst x3
  extract_lets +onlyGivenNames x4
  subst x4
  extract_lets +onlyGivenNames x5
  subst x5
  extract_lets +onlyGivenNames x6
  subst x6
  extract_lets +onlyGivenNames x7
  subst x7
  extract_lets +onlyGivenNames x8
  subst x8
  extract_lets +onlyGivenNames x9
  have h10 : Alter 11141554948472032456672804864 s x9 := by
    unfold x9
    refine Alter.step ?_ (alter_alignChain ..) rfl
    refine Alter.step ?_ (alter_setTb ..) rfl
    exact Alter.refl _ _
  clear_value x9
  extract_lets +onlyGivenNames x11
  have h12 : Alter 11141554948472032456672804864 s x11 := by
    unfold x11
    refine Alter.step ?_ (alter_setFld ..) (rm_high (by simp only [R.PWM_TB_PERIOD]; omega) rfl)
    refine Alter.step ?_ (alter_setFld ..) (rm_high (by simp only [R.PWM_TB_STAT]; omega) rfl)
    assumption
  clear_value x11
  extract_lets +onlyGivenNames x13
  have h14 : Alter 11141554948472032456672804864 s x13 := by
    unfold x13
    refine Alter.step ?_ (alter_setBit ..) (rm_high (by simp only [R.PWM_TB_STAT]; omega) rfl)
    refine Alter.step ?_ (alter_setBit ..) (rm_high (by simp only [R.PWM_TB_STAT]; omega) rfl)
    assumption
  clear_value x13
  extract_lets +onlyGivenNames x15
  have h16 : Alter 11141554948472032456672804864 s x15 := by
    unfold x15
    refine alter_ite (fun _ => ?_) (fun _ => ?_)
    · refine Alter.step ?_ (alter_setBit ..) (by decide)
      assumption
    · assumption
  clear_value x15
  refine alter_ite (fun _ => ?_) (fun _ => ?_)
  · assumption
  · refine Alter.step ?_ (alter_syncPlaced ..) rfl
    assumption

theorem alter_tbStop (j : Nat) (s : State) : Alter 1237940186859332864575537152 s (tbStop j s) := by
  unfold tbStop
  extract_lets +onlyGivenNames x1
  subst x1
  extract_lets +onlyGivenNames x2
  have h3 : Alter 1237940186859332864575537152 s x2 := by
    unfold x2
    refine Alter.step ?_ (alter_setTb ..) rfl
    exact Alter.refl _ _
  clear_value x2
  refine Alter.step ?_ (alter_setBit ..) (rm_high (by simp only [R.PWM_TB_CFG]; omega) rfl)
  refine Alter.step ?_ (alter_showLocked ..) rfl
  assumption

theorem alter_tbStart (j : Nat) (s : State) : Alter 1237940186859332864575537152 s (tbStart j s) := by
  unfold tbStart
  extract_lets +onlyGivenNames x1
  subst x1
  extract_lets +onlyGivenNames x2
  subst x2
  extract_lets +onlyGivenNames x3
  have h4 : Alter 1237940186859332864575537152 s x3 := by
    unfold x3
    refine Alter.step ?_ (alter_setTb ..) rfl
    exact Alter.refl _ _
  clear_value x3
  extract_lets +onlyGivenNames x5
  have h6 : Alter 1237940186859332864575537152 s x5 := by
    unfold x5
    refine Alter.step ?_ (alter_alignTb ..) rfl
    refine Alter.step ?_ (alter_setBit ..) (rm_high (by simp only [R.PWM_TB_CFG]; omega) rfl)
    assumption
  clear_value x5
  refine Alter.step ?_ (alter_setFld ..) (rm_high (by simp only [R.PWM_TB_STAT]; omega) rfl)
  assumption

theorem alter_syncAccept (j : Nat) (s : State) : Alter 1237940186859332864575537152 s (syncAccept j s) := by
  unfold syncAccept
  extract_lets +onlyGivenNames x1
  subst x1
  extract_lets +onlyGivenNames x2
  subst x2
  extract_lets +onlyGivenNames x3
  have h4 : Alter 1237940186859332864575537152 s x3 := by
    unfold x3
    refine Alter.step ?_ (alter_setTb ..) rfl
    exact Alter.refl _ _
  clear_value x3
  extract_lets +onlyGivenNames x5
  subst x5
  refine Alter.step ?_ (alter_showLocked ..) rfl
  refine Alter.step ?_ (alter_setBit ..) (by decide)
  refine Alter.step ?_ (alter_setSfld ..) (by decide)
  assumption

theorem alter_syncEdge (s : State) : Alter 1237940186859332864575537152 s (syncEdge s) := by
  unfold syncEdge
  refine alter_ite (fun _ => ?_) (fun _ => ?_)
  · exact Alter.refl _ _
  · extract_lets +onlyGivenNames x1
    subst x1
    extract_lets +onlyGivenNames x2
    subst x2
    extract_lets +onlyGivenNames x3
    subst x3
    extract_lets +onlyGivenNames x4
    have h5 : Alter 1237940186859332864575537152 s x4 := by
      unfold x4
      refine Alter.and ?_ (alter_forEach _ _ _ ?_)
      · exact Alter.refl _ _
      · intro a6 b7
        beta_reduce
        refine Alter.step ?_ (alter_setTb ..) rfl
        exact Alter.refl _ _
    clear_value x4
    extract_lets +onlyGivenNames x8
    have h9 : Alter 1237940186859332864575537152 s x8 := by
      unfold x8
      refine Alter.and ?_ (alter_forEach _ _ _ ?_)
      · assumption
      · intro a10 b11
        beta_reduce
        refine Alter.step ?_ (alter_syncAccept ..) rfl
        exact Alter.refl _ _
    clear_value x8
    refine alter_ite (fun _ => ?_) (fun _ => ?_)
    · refine Alter.step ?_ (alter_incFld ..) (by decide)
      assumption
    · assumption

theorem alter_execSyncInEdge (e : Nat) (s : State) : Ends 1237940297539797306832846848 s (execSyncInEdge e s) := by
  unfold execSyncInEdge
  refine ends_next ?_
  refine Alter.step ?_ (alter_syncEdge ..) rfl
  refine Alter.step ?_ (alter_tick ..) rfl
  exact Alter.refl _ _

theorem alter_syncDrop (j : Nat) (s : State) : Alter 11141554948472032456672804864 s (syncDrop j s) := by
  unfold syncDrop
  extract_lets +onlyGivenNames x1
  subst x1
  extract_lets +onlyGivenNames x2
  have h3 : Alter 11141554948472032456672804864 s x2 := by
    unfold x2
    refine Alter.step ?_ (alter_setTb ..) rfl
    exact Alter.refl _ _
  clear_value x2
  extract_lets +onlyGivenNames x4
  have h5 : Alter 11141554948472032456672804864 s x4 := by
    unfold x4
    refine Alter.step ?_ (alter_showLocked ..) rfl
    refine Alter.step ?_ (alter_setBit ..) (by decide)
    assumption
  clear_value x4
  refine Alter.step ?_ (alter_noticeSend ..) rfl
  refine Alter.step ?_ (alter_setBit ..) (by decide)
  assumption

theorem alter_syncLost (s : State) : Alter 11141555059152496898930114560 s (syncLost s) := by
  unfold syncLost
  split
  · rename_i z1 z2
    exact Alter.refl _ _
  · rename_i z3 z4 z5 z6
    extract_lets +onlyGivenNames x7
    have h8 : Alter 11141555059152496898930114560 s x7 := by
      unfold x7
      refine Alter.step ?_ (alter_until ..) rfl
      exact Alter.refl _ _
    clear_value x7
    refine Alter.and ?_ (alter_forEach _ _ _ ?_)
    · assumption
    · intro a9 b10
      beta_reduce
      refine Alter.step ?_ (alter_syncDrop ..) rfl
      exact Alter.refl _ _

theorem alter_execSyncLost (e : Nat) (s : State) : Ends 11141555059152496898930114560 s (execSyncLost e s) := by
  unfold execSyncLost
  refine ends_next ?_
  refine Alter.step ?_ (alter_syncLost ..) rfl
  refine Alter.step ?_ (alter_tick ..) rfl
  exact Alter.refl _ _

theorem alter_forceApply (old : Reg) (s : State) : Alter 696435867001636387211444224 s (forceApply old s) := by
  unfold forceApply
  extract_lets +onlyGivenNames x1
  have h2 : ∀ y3 y4, Alter 696435867001636387211444224 y4 (x1 y3 y4) := by
    intro y3 y4
    unfold x1
    beta_reduce
    refine alter_ite (fun _ => ?_) (fun _ => ?_)
    · refine Alter.step ?_ (alter_gatesOff ..) rfl
      exact Alter.refl _ _
    · exact Alter.refl _ _
  clear_value x1
  extract_lets +onlyGivenNames x5
  subst x5
  split
  · rename_i z6 z7 z8 z9
    refine alter_ite (fun _ => ?_) (fun _ => ?_)
    · extract_lets +onlyGivenNames x10
      have h11 : Alter 696435867001636387211444224 s x10 := by
        unfold x10
        refine alter_ite (fun _ => ?_) (fun _ => ?_)
        · exact Alter.refl _ _
        · refine Alter.and ?_ (h2 ..)
          exact Alter.refl _ _
      clear_value x10
      extract_lets +onlyGivenNames x12
      have h13 : Alter 696435867001636387211444224 s x12 := by
        unfold x12
        refine alter_ite (fun _ => ?_) (fun _ => ?_)
        · refine Alter.step ?_ (alter_gatesOff ..) rfl
          assumption
        · assumption
      clear_value x12
      extract_lets +onlyGivenNames x14
      have h15 : Alter 696435867001636387211444224 s x14 := by
        unfold x14
        refine alter_ite (fun _ => ?_) (fun _ => ?_)
        · refine Alter.step ?_ (alter_gatesOff ..) rfl
          assumption
        · assumption
      clear_value x14
      extract_lets +onlyGivenNames x16
      subst x16
      refine alter_ite (fun _ => ?_) (fun _ => ?_)
      · refine Alter.step ?_ (alter_shootBlock ..) rfl
        refine Alter.step ?_ (alter_shootBlock ..) rfl
        refine Alter.step ?_ (alter_gatesOff ..) rfl
        assumption
      · extract_lets +onlyGivenNames x17
        have h18 : Alter 696435867001636387211444224 s x17 := by
          unfold x17
          refine alter_ite (fun _ => ?_) (fun _ => ?_)
          · refine Alter.step ?_ (alter_gatesOn ..) rfl
            assumption
          · assumption
        clear_value x17
        refine alter_ite (fun _ => ?_) (fun _ => ?_)
        · refine Alter.step ?_ (alter_gatesOn ..) rfl
          assumption
        · assumption
    · refine Alter.and ?_ (h2 ..)
      exact Alter.refl _ _

end Sys2Proof.Machine
end

