-- ==== Sys2Proof/Laws/Measure.lean ====
section
/-! SUPPORT. What each operation of `Sys2Proof.Machine.Measure` may change (`Alter`), one lemma an operation; for a command,
that it answers a next state (`Ends`). -/

namespace Sys2Proof.Machine

theorem alter_resultFlags (x : QEnt) (s : State) : Alter 147573952589676412928 s (resultFlags x s) := by
  unfold resultFlags
  extract_lets +onlyGivenNames x1
  have h2 : Alter 147573952589676412928 s x1 := by
    unfold x1
    refine alter_ite (fun _ => ?_) (fun _ => ?_)
    · refine Alter.step ?_ (alter_setBit ..) (by decide)
      exact Alter.refl _ _
    · exact Alter.refl _ _
  clear_value x1
  refine alter_ite (fun _ => ?_) (fun _ => ?_)
  · refine Alter.step ?_ (alter_setBit ..) (by decide)
    assumption
  · assumption

theorem alter_queLost (q : Nat) (s : State) : Alter 9903520314283042199192993792 s (queLost q s) := by
  unfold queLost
  refine Alter.step ?_ (alter_setQue ..) rfl
  exact Alter.refl _ _

theorem alter_xfPush (k : Nat) (el : List (Nat × QEnt)) (s : State) : Alter 9903614909186652181773680640 s (xfPush k el s) := by
  unfold xfPush
  extract_lets +onlyGivenNames x1
  subst x1
  refine alter_ite (fun _ => ?_) (fun _ => ?_)
  · extract_lets +onlyGivenNames x2
    have h3 : Alter 9903614909186652181773680640 s x2 := by
      unfold x2
      refine Alter.and ?_ (alter_forEach _ _ _ ?_)
      · exact Alter.refl _ _
      · intro a4 b5
        beta_reduce
        refine Alter.step ?_ (alter_queLost ..) rfl
        exact Alter.refl _ _
    clear_value x2
    refine Alter.step ?_ (alter_xfDiscard ..) rfl
    refine Alter.step ?_ (alter_setXf ..) rfl
    assumption
  · extract_lets +onlyGivenNames x6
    have h7 : Alter 9903614909186652181773680640 s x6 := by
      unfold x6
      refine Alter.and ?_ (alter_forEach _ _ _ ?_)
      · exact Alter.refl _ _
      · intro a8 b9
        beta_reduce
        refine Alter.step ?_ (alter_resultFlags ..) rfl
        exact Alter.refl _ _
    clear_value x6
    refine Alter.step ?_ (alter_setXf ..) rfl
    assumption

theorem alter_queFree (q : Nat) (n : Nat) (s : State) : Alter 9903520461856994788869406720 s (queFree q n s) := by
  unfold queFree
  extract_lets +onlyGivenNames x1
  subst x1
  extract_lets +onlyGivenNames x2
  subst x2
  extract_lets +onlyGivenNames x3
  subst x3
  extract_lets +onlyGivenNames x4
  have h5 : Alter 9903520461856994788869406720 s x4 := by
    unfold x4
    refine Alter.step ?_ (alter_setQue ..) rfl
    exact Alter.refl _ _
  clear_value x4
  refine Alter.step ?_ (alter_setFld ..) (rm_high (by simp only [R.QUE_Q_PTR]; omega) rfl)
  refine Alter.step ?_ (alter_setFld ..) (rm_high (by simp only [R.QUE_Q_PTR]; omega) rfl)
  assumption

theorem alter_recTake (key : Nat) (stamp : Nat) (val : Nat) (s : State) : Alter 75557863725914323419136 s (recTake key stamp val s) := by
  unfold recTake
  extract_lets +onlyGivenNames x1
  subst x1
  refine alter_ite (fun _ => ?_) (fun _ => ?_)
  · extract_lets +onlyGivenNames x2
    subst x2
    refine Alter.step ?_ (alter_rcd _ _) rfl
    exact Alter.refl _ _
  · exact Alter.refl _ _

theorem alter_queWrite (q : Nat) (x : QEnt) (s : State) : Alter 9903614909186652181773680640 s (queWrite q x s) := by
  unfold queWrite
  extract_lets +onlyGivenNames x1
  subst x1
  refine alter_ite (fun _ => ?_) (fun _ => ?_)
  · extract_lets +onlyGivenNames x2
    have h3 : Alter 9903614909186652181773680640 s x2 := by
      unfold x2
      refine Alter.step ?_ (alter_setQue ..) rfl
      exact Alter.refl _ _
    clear_value x2
    extract_lets +onlyGivenNames x4
    have h5 : Alter 9903614909186652181773680640 s x4 := by
      unfold x4
      refine Alter.step ?_ (alter_setBitAt ..) (by decide)
      refine Alter.step ?_ (alter_incFld ..) (rm_high (by simp only [R.QUE_Q_STAT]; omega) rfl)
      assumption
    clear_value x4
    refine alter_ite (fun _ => ?_) (fun _ => ?_)
    · assumption
    · refine Alter.step ?_ (alter_raise ..) rfl
      assumption
  · extract_lets +onlyGivenNames x6
    have h7 : Alter 9903614909186652181773680640 s x6 := by
      unfold x6
      refine Alter.step ?_ (alter_setQue ..) rfl
      exact Alter.refl _ _
    clear_value x6
    extract_lets +onlyGivenNames x8
    have h9 : Alter 9903614909186652181773680640 s x8 := by
      unfold x8
      refine Alter.step ?_ (alter_setFld ..) (rm_high (by simp only [R.QUE_Q_PTR]; omega) rfl)
      assumption
    clear_value x8
    extract_lets +onlyGivenNames x10
    subst x10
    extract_lets +onlyGivenNames x11
    subst x11
    extract_lets +onlyGivenNames x12
    have h13 : Alter 9903614909186652181773680640 s x12 := by
      unfold x12
      refine Alter.step ?_ (alter_meas _ _) rfl
      assumption
    clear_value x12
    extract_lets +onlyGivenNames x14
    have h15 : Alter 9903614909186652181773680640 s x14 := by
      unfold x14
      refine Alter.step ?_ (alter_setFld ..) (by decide)
      assumption
    clear_value x14
    extract_lets +onlyGivenNames x16
    have h17 : Alter 9903614909186652181773680640 s x16 := by
      unfold x16
      refine Alter.step ?_ (alter_recTake ..) rfl
      assumption
    clear_value x16
    refine alter_ite (fun _ => ?_) (fun _ => ?_)
    · refine Alter.step ?_ (alter_queFree ..) rfl
      assumption
    · assumption

theorem alter_queEmptyAll (s : State) : Alter 9903520461856994788869406720 s (queEmptyAll s) := by
  unfold queEmptyAll
  extract_lets +onlyGivenNames x1
  subst x1
  extract_lets +onlyGivenNames x2
  have h3 : Alter 9903520461856994788869406720 s x2 := by
    unfold x2
    refine Alter.step ?_ (alter_meas _ _) rfl
    exact Alter.refl _ _
  clear_value x2
  refine Alter.and ?_ (alter_forEach _ _ _ ?_)
  · assumption
  · intro a4 b5
    beta_reduce
    refine Alter.step ?_ (alter_setReg ..) (rm_high (by simp only [R.QUE_Q_PTR]; omega) rfl)
    exact Alter.refl _ _

theorem alter_wcmpEval (c : Nat) (s : State) : Alter 89249214746923704291465545908224 s (wcmpEval c s) := by
  unfold wcmpEval
  extract_lets +onlyGivenNames x1
  subst x1
  extract_lets +onlyGivenNames x2
  subst x2
  extract_lets +onlyGivenNames x3
  subst x3
  refine alter_ite (fun _ => ?_) (fun _ => ?_)
  · exact Alter.refl _ _
  · extract_lets +onlyGivenNames x4
    have h5 : Alter 89249214746923704291465545908224 s x4 := by
      unfold x4
      refine Alter.step ?_ (alter_setBitAt ..) (rm_high (by simp only [R.ADC_WCMP_STAT]; omega) rfl)
      exact Alter.refl _ _
    clear_value x4
    extract_lets +onlyGivenNames x6
    have h7 : Alter 89249214746923704291465545908224 s x6 := by
      unfold x6
      refine alter_ite (fun _ => ?_) (fun _ => ?_)
      · refine Alter.step ?_ (alter_setBitAt ..) (rm_high (by simp only [R.ADC_WCMP_FLAGS]; omega) rfl)
        assumption
      · assumption
    clear_value x6
    extract_lets +onlyGivenNames x8
    subst x8
    extract_lets +onlyGivenNames x9
    have h10 : Alter 89249214746923704291465545908224 s x9 := by
      unfold x9
      refine alter_ite (fun _ => ?_) (fun _ => ?_)
      · assumption
      · refine Alter.step ?_ (alter_meas _ _) rfl
        assumption
    clear_value x9
    refine Alter.step ?_ (alter_tripAt ..) rfl
    assumption

theorem alter_wcmpTake (c : Nat) (s : State) : Alter 89249214746923704291465545908224 s (wcmpTake c s) := by
  unfold wcmpTake
  extract_lets +onlyGivenNames x1
  subst x1
  refine Alter.step ?_ (alter_wcmpEval ..) rfl
  refine Alter.step ?_ (alter_meas _ _) rfl
  exact Alter.refl _ _

theorem alter_wcmpAll (s : State) : Alter 89249214746923704291465545908224 s (wcmpAll s) := by
  unfold wcmpAll
  refine Alter.and ?_ (alter_forEach _ _ _ ?_)
  · exact Alter.refl _ _
  · intro a1 b2
    beta_reduce
    refine Alter.step ?_ (alter_wcmpEval ..) rfl
    exact Alter.refl _ _

theorem alter_refUnsettle (s : State) : Alter 89249214746923704291465545908224 s (refUnsettle s) := by
  unfold refUnsettle
  extract_lets +onlyGivenNames x1
  subst x1
  extract_lets +onlyGivenNames x2
  subst x2
  extract_lets +onlyGivenNames x3
  have h4 : Alter 89249214746923704291465545908224 s x3 := by
    unfold x3
    refine Alter.step ?_ (alter_meas _ _) rfl
    exact Alter.refl _ _
  clear_value x3
  refine Alter.step ?_ (alter_wcmpAll ..) rfl
  refine Alter.step ?_ (alter_setBit ..) (by decide)
  assumption

theorem alter_refStart (s : State) : Alter 9903520314283042199192993792 s (refStart s) := by
  unfold refStart
  refine alter_ite (fun _ => ?_) (fun _ => ?_)
  · refine Alter.step ?_ (alter_meas _ _) rfl
    exact Alter.refl _ _
  · exact Alter.refl _ _

theorem alter_refSettles (s : State) : Alter 89249214746923704291465545908224 s (refSettles s) := by
  unfold refSettles
  split
  · rename_i z1 z2
    exact Alter.refl _ _
  · rename_i z3 z4 z5
    extract_lets +onlyGivenNames x6
    have h7 : Alter 89249214746923704291465545908224 s x6 := by
      unfold x6
      refine Alter.step ?_ (alter_until ..) rfl
      exact Alter.refl _ _
    clear_value x6
    extract_lets +onlyGivenNames x8
    subst x8
    extract_lets +onlyGivenNames x9
    have h10 : Alter 89249214746923704291465545908224 s x9 := by
      unfold x9
      refine Alter.step ?_ (alter_meas _ _) rfl
      assumption
    clear_value x9
    extract_lets +onlyGivenNames x11
    have h12 : Alter 89249214746923704291465545908224 s x11 := by
      unfold x11
      refine Alter.step ?_ (alter_setBit ..) (by decide)
      assumption
    clear_value x11
    refine Alter.step ?_ (alter_wcmpAll ..) rfl
    refine Alter.step ?_ (alter_raise ..) rfl
    assumption

theorem alter_execRefSettled (e : Nat) (s : State) : Ends 89249214746923704291465545908224 s (execRefSettled e s) := by
  unfold execRefSettled
  refine ends_next ?_
  refine Alter.step ?_ (alter_refSettles ..) rfl
  refine Alter.step ?_ (alter_tick ..) rfl
  exact Alter.refl _ _

theorem alter_refEnable (on : Bool) (s : State) : Alter 89249214746923704291465545908224 s (refEnable on s) := by
  unfold refEnable
  extract_lets +onlyGivenNames x1
  subst x1
  extract_lets +onlyGivenNames x2
  have h3 : Alter 89249214746923704291465545908224 s x2 := by
    unfold x2
    refine Alter.step ?_ (alter_setBit ..) (by decide)
    exact Alter.refl _ _
  clear_value x2
  refine alter_ite (fun _ => ?_) (fun _ => ?_)
  · refine Alter.step ?_ (alter_refStart ..) rfl
    assumption
  · refine alter_ite (fun _ => ?_) (fun _ => ?_)
    · refine Alter.step ?_ (alter_refUnsettle ..) rfl
      assumption
    · assumption

theorem alter_wcmpPin (c : Nat) (uv : Int) (s : State) : Alter 89249214746923704291465545908224 s (wcmpPin c uv s) := by
  unfold wcmpPin
  refine Alter.step ?_ (alter_wcmpTake ..) rfl
  refine Alter.step ?_ (alter_meas _ _) rfl
  exact Alter.refl _ _

theorem alter_execWcmpAssert (e : Nat) (c : Fin 64) (uv : BitVec 24) (s : State) : Ends 89249214746923704291465545908224 s (execWcmpAssert e c uv s) := by
  unfold execWcmpAssert
  refine ends_next ?_
  refine Alter.step ?_ (alter_wcmpPin ..) rfl
  refine Alter.step ?_ (alter_tick ..) rfl
  exact Alter.refl _ _

theorem alter_adcBoundary (n : Nat) (b : Nat) (len : Nat) (no : Nat) (first : Bool) (s : State) : Alter 9903520461856994788869406720 s (adcBoundary n b len no first s) := by
  unfold adcBoundary
  extract_lets +onlyGivenNames x1
  subst x1
  extract_lets +onlyGivenNames x2
  subst x2
  extract_lets +onlyGivenNames x3
  subst x3
  extract_lets +onlyGivenNames x4
  have h5 : Alter 9903520461856994788869406720 s x4 := by
    unfold x4
    refine Alter.step ?_ (alter_setAdc ..) rfl
    exact Alter.refl _ _
  clear_value x4
  refine Alter.step ?_ (alter_setBit ..) (rm_high (by simp only [R.ADC_AD_STAT]; omega) rfl)
  assumption

theorem alter_adcStopTb (j : Nat) (s : State) : Alter 9903520461856994788869406720 s (adcStopTb j s) := by
  unfold adcStopTb
  refine Alter.and ?_ (alter_forEach _ _ _ ?_)
  · exact Alter.refl _ _
  · intro a1 b2
    beta_reduce
    extract_lets +onlyGivenNames x3
    subst x3
    extract_lets +onlyGivenNames x4
    have h5 : Alter 9903520461856994788869406720 b2 x4 := by
      unfold x4
      refine Alter.step ?_ (alter_setAdc ..) rfl
      exact Alter.refl _ _
    clear_value x4
    refine Alter.step ?_ (alter_setBit ..) (rm_high (by simp only [R.ADC_AD_STAT]; omega) rfl)
    refine Alter.step ?_ (alter_setBit ..) (rm_high (by simp only [R.ADC_AD_STAT]; omega) rfl)
    assumption

theorem alter_adcTrigger (n : Nat) (s : State) : Alter 9903615019867116624030990336 s (adcTrigger n s) := by
  unfold adcTrigger
  extract_lets +onlyGivenNames x1
  subst x1
  extract_lets +onlyGivenNames x2
  subst x2
  extract_lets +onlyGivenNames x3
  subst x3
  extract_lets +onlyGivenNames x4
  subst x4
  refine alter_ite (fun _ => ?_) (fun _ => ?_)
  · exact Alter.refl _ _
  · extract_lets +onlyGivenNames x5
    subst x5
    extract_lets +onlyGivenNames x6
    have h7 : Alter 9903615019867116624030990336 s x6 := by
      unfold x6
      refine Alter.step ?_ (alter_until ..) rfl
      exact Alter.refl _ _
    clear_value x6
    extract_lets +onlyGivenNames x8
    subst x8
    extract_lets +onlyGivenNames x9
    have h10 : Alter 9903615019867116624030990336 s x9 := by
      unfold x9
      refine Alter.step ?_ (alter_setFld ..) (rm_high (by simp only [R.ADC_AD_STAT]; omega) rfl)
      assumption
    clear_value x9
    refine alter_ite (fun _ => ?_) (fun _ => ?_)
    · extract_lets +onlyGivenNames x11
      have h12 : Alter 9903615019867116624030990336 s x11 := by
        unfold x11
        refine Alter.step ?_ (alter_setBit ..) (by decide)
        refine Alter.step ?_ (alter_incFld ..) (rm_high (by simp only [R.ADC_AD_STAT]; omega) rfl)
        assumption
      clear_value x11
      extract_lets +onlyGivenNames x13
      have h14 : Alter 9903615019867116624030990336 s x13 := by
        unfold x13
        refine Alter.step ?_ (alter_setAdc ..) rfl
        assumption
      clear_value x13
      refine alter_ite (fun _ => ?_) (fun _ => ?_)
      · assumption
      · refine Alter.step ?_ (alter_raise ..) rfl
        assumption
    · extract_lets +onlyGivenNames x15
      subst x15
      extract_lets +onlyGivenNames x16
      subst x16
      extract_lets +onlyGivenNames x17
      subst x17
      extract_lets +onlyGivenNames x18
      have h19 : Alter 9903615019867116624030990336 s x18 := by
        unfold x18
        refine Alter.step ?_ (alter_setAdc ..) rfl
        assumption
      clear_value x18
      refine Alter.step ?_ (alter_setBit ..) (rm_high (by simp only [R.ADC_AD_STAT]; omega) rfl)
      assumption

theorem alter_execAdcTrigger (e : Nat) (n : Fin 12) (s : State) : Ends 9903615019867116624030990336 s (execAdcTrigger e n s) := by
  unfold execAdcTrigger
  refine ends_next ?_
  refine Alter.step ?_ (alter_adcTrigger ..) rfl
  refine Alter.step ?_ (alter_tick ..) rfl
  exact Alter.refl _ _

theorem alter_slotResult (n : Nat) (codes : List Int) (s : State) : Alter 9903615019867116624030990336 s (slotResult n codes s) := by
  unfold slotResult
  extract_lets +onlyGivenNames x1
  subst x1
  split
  · rename_i z2 z3
    exact Alter.refl _ _
  · rename_i z4 z5 z6 z7
    extract_lets +onlyGivenNames x8
    have h9 : Alter 9903615019867116624030990336 s x8 := by
      unfold x8
      refine Alter.step ?_ (alter_until ..) rfl
      exact Alter.refl _ _
    clear_value x8
    extract_lets +onlyGivenNames x10
    have h11 : Alter 9903615019867116624030990336 s x10 := by
      unfold x10
      refine Alter.step ?_ (alter_setAdc ..) rfl
      assumption
    clear_value x10
    extract_lets +onlyGivenNames x12
    have h13 : Alter 9903615019867116624030990336 s x12 := by
      unfold x12
      refine alter_ite (fun _ => ?_) (fun _ => ?_)
      · refine Alter.step ?_ (alter_setBit ..) (rm_high (by simp only [R.ADC_AD_STAT]; omega) rfl)
        assumption
      · assumption
    clear_value x12
    refine alter_ite (fun _ => ?_) (fun _ => ?_)
    · extract_lets +onlyGivenNames x14
      subst x14
      extract_lets +onlyGivenNames x15
      have h16 : Alter 9903615019867116624030990336 s x15 := by
        unfold x15
        refine alter_ite (fun _ => ?_) (fun _ => ?_)
        · refine Alter.step ?_ (alter_setFld ..) (rm_high (by simp only [R.ADC_RES_STAT]; omega) rfl)
          assumption
        · assumption
      clear_value x15
      extract_lets +onlyGivenNames x17
      subst x17
      refine Alter.step ?_ (alter_xfPush ..) rfl
      assumption
    · extract_lets +onlyGivenNames x18
      subst x18
      extract_lets +onlyGivenNames x19
      subst x19
      extract_lets +onlyGivenNames x20
      subst x20
      refine Alter.step ?_ (alter_xfPush ..) rfl
      assumption

theorem alter_execAdcSlotResult (e : Nat) (n : Fin 12) (codes : List Int) (s : State) : Ends 9903615019867116624030990336 s (execAdcSlotResult e n codes s) := by
  unfold execAdcSlotResult
  refine ends_next ?_
  refine Alter.step ?_ (alter_slotResult ..) rfl
  refine Alter.step ?_ (alter_tick ..) rfl
  exact Alter.refl _ _

theorem alter_integratorResult (n : Nat) (codes : List Int) (s : State) : Alter 9903615019867116624030990336 s (integratorResult n codes s) := by
  unfold integratorResult
  extract_lets +onlyGivenNames x1
  subst x1
  split
  · rename_i z2 z3
    exact Alter.refl _ _
  · rename_i z4 z5 z6 z7
    extract_lets +onlyGivenNames x8
    have h9 : Alter 9903615019867116624030990336 s x8 := by
      unfold x8
      refine Alter.step ?_ (alter_until ..) rfl
      exact Alter.refl _ _
    clear_value x8
    extract_lets +onlyGivenNames x10
    subst x10
    extract_lets +onlyGivenNames x11
    have h12 : Alter 9903615019867116624030990336 s x11 := by
      unfold x11
      refine Alter.step ?_ (alter_setAdc ..) rfl
      assumption
    clear_value x11
    extract_lets +onlyGivenNames x13
    have h14 : Alter 9903615019867116624030990336 s x13 := by
      unfold x13
      refine Alter.step ?_ (alter_setFld ..) (rm_high (by simp only [R.ADC_AD_STAT]; omega) rfl)
      refine Alter.step ?_ (alter_setReg ..) (rm_high (by simp only [R.ADC_AD_INTSUM]; omega) rfl)
      assumption
    clear_value x13
    extract_lets +onlyGivenNames x15
    subst x15
    extract_lets +onlyGivenNames x16
    subst x16
    extract_lets +onlyGivenNames x17
    subst x17
    extract_lets +onlyGivenNames x18
    subst x18
    refine Alter.step ?_ (alter_xfPush ..) rfl
    assumption

theorem alter_execIntegratorResult (e : Nat) (n : Fin 12) (first : Int) (codes : List Int) (s : State) : Ends 9903615019867116624030990336 s (execIntegratorResult e n first codes s) := by
  unfold execIntegratorResult
  refine ends_next ?_
  refine Alter.step ?_ (alter_integratorResult ..) rfl
  refine Alter.step ?_ (alter_tick ..) rfl
  exact Alter.refl _ _

theorem alter_continuousSample (n : Nat) (code : Int) (s : State) : Alter 9903614909186652181773680640 s (continuousSample n code s) := by
  unfold continuousSample
  extract_lets +onlyGivenNames x1
  subst x1
  refine alter_ite (fun _ => ?_) (fun _ => ?_)
  · exact Alter.refl _ _
  · extract_lets +onlyGivenNames x2
    subst x2
    extract_lets +onlyGivenNames x3
    have h4 : Alter 9903614909186652181773680640 s x3 := by
      unfold x3
      refine Alter.step ?_ (alter_setAdc ..) rfl
      exact Alter.refl _ _
    clear_value x3
    refine alter_ite (fun _ => ?_) (fun _ => ?_)
    · assumption
    · extract_lets +onlyGivenNames x5
      subst x5
      extract_lets +onlyGivenNames x6
      subst x6
      extract_lets +onlyGivenNames x7
      subst x7
      extract_lets +onlyGivenNames x8
      subst x8
      refine Alter.step ?_ (alter_xfPush ..) rfl
      assumption

theorem alter_execContinuousSample (e : Nat) (n : Fin 12) (code : Int) (s : State) : Ends 9903615019867116624030990336 s (execContinuousSample e n code s) := by
  unfold execContinuousSample
  refine ends_next ?_
  refine Alter.step ?_ (alter_continuousSample ..) rfl
  refine Alter.step ?_ (alter_tick ..) rfl
  exact Alter.refl _ _

theorem alter_adcFail (n : Nat) (s : State) : Alter 10151108416735021864155399323648 s (adcFail n s) := by
  unfold adcFail
  extract_lets +onlyGivenNames x1
  subst x1
  extract_lets +onlyGivenNames x2
  have h3 : Alter 10151108416735021864155399323648 s x2 := by
    unfold x2
    refine Alter.step ?_ (alter_setAdc ..) rfl
    exact Alter.refl _ _
  clear_value x2
  extract_lets +onlyGivenNames x4
  subst x4
  extract_lets +onlyGivenNames x5
  have h6 : Alter 10151108416735021864155399323648 s x5 := by
    unfold x5
    refine Alter.step ?_ (alter_setBit ..) (rm_high (by simp only [R.ADC_AD_STAT]; omega) rfl)
    refine Alter.step ?_ (alter_setBit ..) (rm_high (by simp only [R.ADC_AD_STAT]; omega) rfl)
    refine Alter.step ?_ (alter_setBit ..) (rm_high (by simp only [R.ADC_AD_STAT]; omega) rfl)
    assumption
  clear_value x5
  refine Alter.step ?_ (alter_failReport ..) rfl
  refine Alter.step ?_ (alter_raise ..) rfl
  refine Alter.step ?_ (alter_setBit ..) (by decide)
  assumption

theorem alter_adcLane (n : Nat) (diff : Nat) (s : State) : Alter 10151108416735021864155399323648 s (adcLane n diff s) := by
  unfold adcLane
  refine alter_ite (fun _ => ?_) (fun _ => ?_)
  · exact Alter.refl _ _
  · extract_lets +onlyGivenNames x1
    subst x1
    extract_lets +onlyGivenNames x2
    subst x2
    refine alter_ite (fun _ => ?_) (fun _ => ?_)
    · refine Alter.step ?_ (alter_adcFail ..) rfl
      exact Alter.refl _ _
    · refine Alter.step ?_ (alter_setAdc ..) rfl
      exact Alter.refl _ _

theorem alter_execAdcLane (e : Nat) (n : Fin 12) (diff : Nat) (s : State) : Ends 10151108416845702328597656633344 s (execAdcLane e n diff s) := by
  unfold execAdcLane
  refine ends_next ?_
  refine Alter.step ?_ (alter_adcLane ..) rfl
  refine Alter.step ?_ (alter_tick ..) rfl
  exact Alter.refl _ _

theorem alter_calWritten (c : Nat) (old : Reg) (s : State) : Alter 9903520314283042199192993792 s (calWritten c old s) := by
  unfold calWritten
  refine Alter.and ?_ (alter_forEach _ _ _ ?_)
  · exact Alter.refl _ _
  · intro a1 b2
    beta_reduce
    extract_lets +onlyGivenNames x3
    subst x3
    refine alter_ite (fun _ => ?_) (fun _ => ?_)
    · refine Alter.step ?_ (alter_setAdc ..) rfl
      exact Alter.refl _ _
    · exact Alter.refl _ _

theorem alter_resFault (r : Nat) (los : Bool) (lot : Bool) (s : State) : Alter 9903614909186652181773680640 s (resFault r los lot s) := by
  unfold resFault
  extract_lets +onlyGivenNames x1
  have h2 : Alter 9903614909186652181773680640 s x1 := by
    unfold x1
    refine Alter.step ?_ (alter_setBit ..) (rm_high (by simp only [R.ADC_RES_STAT]; omega) rfl)
    refine Alter.step ?_ (alter_setBit ..) (rm_high (by simp only [R.ADC_RES_STAT]; omega) rfl)
    exact Alter.refl _ _
  clear_value x1
  refine alter_ite (fun _ => ?_) (fun _ => ?_)
  · extract_lets +onlyGivenNames x3
    subst x3
    extract_lets +onlyGivenNames x4
    subst x4
    extract_lets +onlyGivenNames x5
    have h6 : Alter 9903614909186652181773680640 s x5 := by
      unfold x5
      refine Alter.step ?_ (alter_meas _ _) rfl
      assumption
    clear_value x5
    extract_lets +onlyGivenNames x7
    have h8 : Alter 9903614909186652181773680640 s x7 := by
      unfold x7
      refine Alter.step ?_ (alter_setBit ..) (by decide)
      assumption
    clear_value x7
    refine alter_ite (fun _ => ?_) (fun _ => ?_)
    · refine Alter.step ?_ (alter_raise ..) rfl
      assumption
    · assumption
  · refine Alter.step ?_ (alter_meas _ _) rfl
    assumption

theorem alter_resWatched (r : Nat) (mv : Nat) (err : Int) (s : State) : Alter 9903614909186652181773680640 s (resWatched r mv err s) := by
  unfold resWatched
  refine Alter.step ?_ (alter_resFault ..) rfl
  exact Alter.refl _ _

theorem alter_execResFault (e : Nat) (r : Fin 2) (mv : BitVec 16) (err : BitVec 32) (s : State) : Ends 9903615019867116624030990336 s (execResFault e r mv err s) := by
  unfold execResFault
  refine ends_next ?_
  refine Alter.step ?_ (alter_resWatched ..) rfl
  refine Alter.step ?_ (alter_tick ..) rfl
  exact Alter.refl _ _

theorem alter_encFault (k : Nat) (s : State) : Alter 9903614909186652181773680640 s (encFault k s) := by
  unfold encFault
  refine alter_ite (fun _ => ?_) (fun _ => ?_)
  · exact Alter.refl _ _
  · extract_lets +onlyGivenNames x1
    subst x1
    extract_lets +onlyGivenNames x2
    subst x2
    extract_lets +onlyGivenNames x3
    have h4 : Alter 9903614909186652181773680640 s x3 := by
      unfold x3
      refine Alter.step ?_ (alter_meas _ _) rfl
      exact Alter.refl _ _
    clear_value x3
    extract_lets +onlyGivenNames x5
    have h6 : Alter 9903614909186652181773680640 s x5 := by
      unfold x5
      refine Alter.step ?_ (alter_setBit ..) (by decide)
      refine Alter.step ?_ (alter_incFld ..) (rm_high (by simp only [R.ADC_ENC_STAT]; omega) rfl)
      assumption
    clear_value x5
    refine alter_ite (fun _ => ?_) (fun _ => ?_)
    · refine Alter.step ?_ (alter_raise ..) rfl
      assumption
    · assumption

theorem alter_execEncFault (e : Nat) (k : Fin 2) (s : State) : Ends 9903615019867116624030990336 s (execEncFault e k s) := by
  unfold execEncFault
  refine ends_next ?_
  refine Alter.step ?_ (alter_encFault ..) rfl
  refine Alter.step ?_ (alter_tick ..) rfl
  exact Alter.refl _ _

theorem alter_encZ (k : Nat) (s : State) : Alter 9903520461856994788869406720 s (encZ k s) := by
  unfold encZ
  refine alter_ite (fun _ => ?_) (fun _ => ?_)
  · extract_lets +onlyGivenNames x1
    have h2 : Alter 9903520461856994788869406720 s x1 := by
      unfold x1
      refine Alter.step ?_ (alter_setFld ..) (rm_high (by simp only [R.ADC_ENC_STAT]; omega) rfl)
      exact Alter.refl _ _
    clear_value x1
    refine Alter.step ?_ (alter_meas _ _) rfl
    assumption
  · exact Alter.refl _ _

theorem alter_execEncZPulse (e : Nat) (k : Fin 2) (s : State) : Ends 9903520572537459231126716416 s (execEncZPulse e k s) := by
  unfold execEncZPulse
  refine ends_next ?_
  refine Alter.step ?_ (alter_encZ ..) rfl
  refine Alter.step ?_ (alter_tick ..) rfl
  exact Alter.refl _ _

theorem alter_encEdge (k : Nat) (up : Bool) (held : Nat) (s : State) : Alter 9903520461856994788869406720 s (encEdge k up held s) := by
  unfold encEdge
  extract_lets +onlyGivenNames x1
  subst x1
  refine alter_ite (fun _ => ?_) (fun _ => ?_)
  · exact Alter.refl _ _
  · extract_lets +onlyGivenNames x2
    subst x2
    extract_lets +onlyGivenNames x3
    have h4 : Alter 9903520461856994788869406720 s x3 := by
      unfold x3
      refine Alter.step ?_ (alter_setFld ..) (rm_high (by simp only [R.ADC_ENC_STAT]; omega) rfl)
      exact Alter.refl _ _
    clear_value x3
    extract_lets +onlyGivenNames x5
    subst x5
    extract_lets +onlyGivenNames x6
    subst x6
    extract_lets +onlyGivenNames x7
    have h8 : Alter 9903520461856994788869406720 s x7 := by
      unfold x7
      refine Alter.step ?_ (alter_setSfld ..) (rm_high (by simp only [R.ADC_ENC_STAT]; omega) rfl)
      assumption
    clear_value x7
    refine Alter.step ?_ (alter_meas _ _) rfl
    assumption

theorem alter_execEncoderEdge (e : Nat) (k : Fin 2) (up : Bool) (pace : EdgePace) (s : State) : Ends 9903520572537459231126716416 s (execEncoderEdge e k up pace s) := by
  unfold execEncoderEdge
  refine ends_next ?_
  refine Alter.step ?_ (alter_encEdge ..) rfl
  refine Alter.step ?_ (alter_tick ..) rfl
  exact Alter.refl _ _

theorem alter_sentLose (r : Nat) (s : State) : Alter 9903614909186652181773680640 s (sentLose r s) := by
  unfold sentLose
  refine alter_ite (fun _ => ?_) (fun _ => ?_)
  · exact Alter.refl _ _
  · extract_lets +onlyGivenNames x1
    subst x1
    extract_lets +onlyGivenNames x2
    have h3 : Alter 9903614909186652181773680640 s x2 := by
      unfold x2
      refine Alter.step ?_ (alter_setSent ..) rfl
      exact Alter.refl _ _
    clear_value x2
    extract_lets +onlyGivenNames x4
    have h5 : Alter 9903614909186652181773680640 s x4 := by
      unfold x4
      refine Alter.step ?_ (alter_setBit ..) (rm_high (by simp only [R.ADC_SENT_STAT]; omega) rfl)
      refine Alter.step ?_ (alter_setBit ..) (rm_high (by simp only [R.ADC_SENT_STAT]; omega) rfl)
      assumption
    clear_value x4
    refine Alter.step ?_ (alter_raise ..) rfl
    assumption

theorem alter_sentMessage (r : Nat) (cal : Nat) (pulses : List Nat) (slow : Option (Bool × Nat × Nat)) (s : State) : Alter 9903614909186652181773680640 s (sentMessage r cal pulses slow s) := by
  unfold sentMessage
  refine alter_ite (fun _ => ?_) (fun _ => ?_)
  · exact Alter.refl _ _
  · extract_lets +onlyGivenNames x1
    subst x1
    extract_lets +onlyGivenNames x2
    subst x2
    refine alter_ite (fun _ => ?_) (fun _ => ?_)
    · extract_lets +onlyGivenNames x3
      subst x3
      extract_lets +onlyGivenNames x4
      subst x4
      extract_lets +onlyGivenNames x5
      subst x5
      extract_lets +onlyGivenNames x6
      subst x6
      extract_lets +onlyGivenNames x7
      have h8 : Alter 9903614909186652181773680640 s x7 := by
        unfold x7
        refine Alter.step ?_ (alter_setSent ..) rfl
        exact Alter.refl _ _
      clear_value x7
      extract_lets +onlyGivenNames x9
      have h10 : Alter 9903614909186652181773680640 s x9 := by
        unfold x9
        refine Alter.step ?_ (alter_setFld ..) (rm_high (by simp only [R.ADC_SENT_STAT]; omega) rfl)
        assumption
      clear_value x9
      extract_lets +onlyGivenNames x11
      subst x11
      extract_lets +onlyGivenNames x12
      have h13 : Alter 9903614909186652181773680640 s x12 := by
        unfold x12
        split
        · rename_i z14 z15 z16 z17
          refine Alter.step ?_ (alter_setFld ..) (rm_high (by simp only [R.ADC_SENT_SLOW]; omega) rfl)
          refine Alter.step ?_ (alter_setFld ..) (rm_high (by simp only [R.ADC_SENT_SLOW]; omega) rfl)
          refine Alter.step ?_ (alter_setBit ..) (rm_high (by simp only [R.ADC_SENT_SLOW]; omega) rfl)
          assumption
        · rename_i z18
          assumption
      clear_value x12
      extract_lets +onlyGivenNames x19
      have h20 : Alter 9903614909186652181773680640 s x19 := by
        unfold x19
        refine alter_ite (fun _ => ?_) (fun _ => ?_)
        · refine alter_ite (fun _ => ?_) (fun _ => ?_)
          · refine Alter.step ?_ (alter_raise ..) rfl
            refine Alter.step ?_ (alter_setBit ..) (rm_high (by simp only [R.ADC_SENT_STAT]; omega) rfl)
            refine Alter.step ?_ (alter_setBit ..) (rm_high (by simp only [R.ADC_SENT_STAT]; omega) rfl)
            assumption
          · assumption
        · refine Alter.step ?_ (alter_setBit ..) (rm_high (by simp only [R.ADC_SENT_STAT]; omega) rfl)
          assumption
      clear_value x19
      extract_lets +onlyGivenNames x21
      subst x21
      extract_lets +onlyGivenNames x22
      subst x22
      refine alter_ite (fun _ => ?_) (fun _ => ?_)
      · assumption
      · refine Alter.step ?_ (alter_xfPush ..) rfl
        assumption
    · extract_lets +onlyGivenNames x23
      have h24 : Alter 9903614909186652181773680640 s x23 := by
        unfold x23
        refine Alter.step ?_ (alter_setSent ..) rfl
        exact Alter.refl _ _
      clear_value x23
      extract_lets +onlyGivenNames x25
      have h26 : Alter 9903614909186652181773680640 s x25 := by
        unfold x25
        refine Alter.step ?_ (alter_setBit ..) (by decide)
        refine Alter.step ?_ (alter_incFld ..) (rm_high (by simp only [R.ADC_SENT_STAT]; omega) rfl)
        assumption
      clear_value x25
      refine alter_ite (fun _ => ?_) (fun _ => ?_)
      · refine Alter.step ?_ (alter_sentLose ..) rfl
        assumption
      · assumption

theorem alter_sentTimeout (r : Nat) (s : State) : Alter 9903615019867116624030990336 s (sentTimeout r s) := by
  unfold sentTimeout
  refine alter_ite (fun _ => ?_) (fun _ => ?_)
  · exact Alter.refl _ _
  · refine Alter.step ?_ (alter_sentLose ..) rfl
    refine Alter.step ?_ (alter_until ..) rfl
    exact Alter.refl _ _

theorem alter_sentEnable (r : Nat) (old : Reg) (s : State) : Alter 9903520314283042199192993792 s (sentEnable r old s) := by
  unfold sentEnable
  refine alter_ite (fun _ => ?_) (fun _ => ?_)
  · refine Alter.step ?_ (alter_setSent ..) rfl
    exact Alter.refl _ _
  · exact Alter.refl _ _

end Sys2Proof.Machine
end

