-- ==== Sys2Proof/Laws/Dclink.lean ====
section
/-! SUPPORT. What each operation of `Sys2Proof.Machine.Dclink` may change (`Alter`), one lemma an operation; for a command,
that it answers a next state (`Ends`). -/

namespace Sys2Proof.Machine

theorem alter_chopSync (step : Nat) (s : State) : Alter 158456325028528675187087900672 s (chopSync step s) := by
  unfold chopSync
  split
  · rename_i z1 z2
    exact Alter.refl _ _
  · rename_i z3 z4 z5 z6
    extract_lets +onlyGivenNames x7
    subst x7
    extract_lets +onlyGivenNames x8
    subst x8
    extract_lets +onlyGivenNames x9
    subst x9
    refine Alter.step ?_ (alter_dcl _ _) rfl
    exact Alter.refl _ _

theorem alter_chopHeat (p : Nat) (s : State) : Alter 501133697928708233236888682496 s (chopHeat p s) := by
  unfold chopHeat
  extract_lets +onlyGivenNames x1
  subst x1
  extract_lets +onlyGivenNames x2
  subst x2
  extract_lets +onlyGivenNames x3
  subst x3
  extract_lets +onlyGivenNames x4
  subst x4
  extract_lets +onlyGivenNames x5
  subst x5
  extract_lets +onlyGivenNames x6
  subst x6
  extract_lets +onlyGivenNames x7
  subst x7
  extract_lets +onlyGivenNames x8
  have h9 : Alter 501133697928708233236888682496 s x8 := by
    unfold x8
    refine Alter.step ?_ (alter_dcl _ _) rfl
    exact Alter.refl _ _
  clear_value x8
  extract_lets +onlyGivenNames x10
  have h11 : Alter 501133697928708233236888682496 s x10 := by
    unfold x10
    refine Alter.step ?_ (alter_setFld ..) (by decide)
    assumption
  clear_value x10
  refine alter_ite (fun _ => ?_) (fun _ => ?_)
  · refine alter_ite (fun _ => ?_) (fun _ => ?_)
    · assumption
    · extract_lets +onlyGivenNames x12
      have h13 : Alter 501133697928708233236888682496 s x12 := by
        unfold x12
        refine Alter.step ?_ (alter_setBit ..) (by decide)
        assumption
      clear_value x12
      refine Alter.step ?_ (alter_linkEval ..) rfl
      refine Alter.step ?_ (alter_raise ..) rfl
      refine Alter.step ?_ (alter_setBit ..) (by decide)
      assumption
  · refine alter_ite (fun _ => ?_) (fun _ => ?_)
    · refine Alter.step ?_ (alter_linkEval ..) rfl
      refine Alter.step ?_ (alter_setBit ..) (by decide)
      assumption
    · assumption

theorem alter_chopStops (s : State) : Alter 159075295048171365324537462784 s (chopStops s) := by
  unfold chopStops
  extract_lets +onlyGivenNames x1
  subst x1
  extract_lets +onlyGivenNames x2
  subst x2
  extract_lets +onlyGivenNames x3
  have h4 : Alter 159075295048171365324537462784 s x3 := by
    unfold x3
    refine Alter.and ?_ (alter_forEach _ _ _ ?_)
    · exact Alter.refl _ _
    · intro a5 b6
      beta_reduce
      extract_lets +onlyGivenNames x7
      subst x7
      refine Alter.step ?_ (alter_setUnit ..) rfl
      exact Alter.refl _ _
  clear_value x3
  refine Alter.step ?_ (alter_dcl _ _) rfl
  assumption

theorem alter_chopDeclare (v : Nat) (s : State) : Alter 501133697928708233236888682496 s (chopDeclare v s) := by
  unfold chopDeclare
  extract_lets +onlyGivenNames x1
  subst x1
  refine alter_ite (fun _ => ?_) (fun _ => ?_)
  · extract_lets +onlyGivenNames x2
    have h3 : Alter 501133697928708233236888682496 s x2 := by
      unfold x2
      refine Alter.step ?_ (alter_setFld ..) (by decide)
      refine Alter.step ?_ (alter_setBit ..) (by decide)
      exact Alter.refl _ _
    clear_value x2
    refine Alter.step ?_ (alter_raise ..) rfl
    refine Alter.step ?_ (alter_setBit ..) (by decide)
    assumption
  · refine alter_ite (fun _ => ?_) (fun _ => ?_)
    · exact Alter.refl _ _
    · extract_lets +onlyGivenNames x4
      have h5 : Alter 501133697928708233236888682496 s x4 := by
        unfold x4
        refine Alter.step ?_ (alter_chopStops ..) rfl
        refine Alter.step ?_ (alter_setFld ..) (by decide)
        exact Alter.refl _ _
      clear_value x4
      refine Alter.step ?_ (alter_linkEval ..) rfl
      refine Alter.step ?_ (alter_raise ..) rfl
      refine Alter.step ?_ (alter_setBit ..) (by decide)
      assumption

theorem alter_chopCount (v : Nat) (s : State) : Alter 501133697928708233236888682496 s (chopCount v s) := by
  unfold chopCount
  refine alter_ite (fun _ => ?_) (fun _ => ?_)
  · refine Alter.step ?_ (alter_dcl _ _) rfl
    exact Alter.refl _ _
  · extract_lets +onlyGivenNames x1
    subst x1
    extract_lets +onlyGivenNames x2
    subst x2
    extract_lets +onlyGivenNames x3
    have h4 : Alter 501133697928708233236888682496 s x3 := by
      unfold x3
      refine Alter.step ?_ (alter_dcl _ _) rfl
      exact Alter.refl _ _
    clear_value x3
    refine alter_ite (fun _ => ?_) (fun _ => ?_)
    · refine Alter.step ?_ (alter_chopDeclare ..) rfl
      assumption
    · assumption

theorem alter_chopPulse (s : State) : Alter 501133697928708233236888682496 s (chopPulse s) := by
  unfold chopPulse
  split
  · rename_i z1 z2
    exact Alter.refl _ _
  · rename_i z3 z4 z5 z6
    refine alter_ite (fun _ => ?_) (fun _ => ?_)
    · exact Alter.refl _ _
    · extract_lets +onlyGivenNames x7
      subst x7
      extract_lets +onlyGivenNames x8
      have h9 : Alter 501133697928708233236888682496 s x8 := by
        unfold x8
        refine alter_ite (fun _ => ?_) (fun _ => ?_)
        · refine Alter.step ?_ (alter_dcl _ _) rfl
          exact Alter.refl _ _
        · exact Alter.refl _ _
      clear_value x8
      split
      · rename_i z10 z11 z12 z13 z14 z15 z16 z17 z18 z19 z20 z21 z22
        extract_lets +onlyGivenNames x23
        subst x23
        extract_lets +onlyGivenNames x24
        have h25 : Alter 501133697928708233236888682496 s x24 := by
          unfold x24
          refine Alter.step ?_ (alter_dcl _ _) rfl
          assumption
        clear_value x24
        refine alter_ite (fun _ => ?_) (fun _ => ?_)
        · refine Alter.step ?_ (alter_chopCount ..) rfl
          assumption
        · assumption
      · rename_i z26 z27 z28 z29
        assumption

theorem alter_chopReport (n : Nat) (mv : Int) (ok : Bool) (range : Bool) (s : State) : Alter 501133697928708233236888682496 s (chopReport n mv ok range s) := by
  unfold chopReport
  split
  · rename_i z1 z2
    exact Alter.refl _ _
  · rename_i z3 z4 z5 z6
    refine alter_ite (fun _ => ?_) (fun _ => ?_)
    · refine Alter.step ?_ (alter_chopPulse ..) rfl
      refine Alter.step ?_ (alter_dcl _ _) rfl
      exact Alter.refl _ _
    · refine alter_ite (fun _ => ?_) (fun _ => ?_)
      · refine Alter.step ?_ (alter_chopPulse ..) rfl
        refine Alter.step ?_ (alter_dcl _ _) rfl
        exact Alter.refl _ _
      · exact Alter.refl _ _

theorem alter_chopEdge (k : Nat) (step : Nat) (s : State) : Alter 501133697928708233236888682496 s (chopEdge k step s) := by
  unfold chopEdge
  refine alter_ite (fun _ => ?_) (fun _ => ?_)
  · extract_lets +onlyGivenNames x1
    have h2 : Alter 501133697928708233236888682496 s x1 := by
      unfold x1
      refine Alter.step ?_ (alter_chopSync ..) rfl
      exact Alter.refl _ _
    clear_value x1
    split
    · rename_i z3 z4 z5 z6
      refine alter_ite (fun _ => ?_) (fun _ => ?_)
      · refine Alter.step ?_ (alter_dcl _ _) rfl
        assumption
      · refine alter_ite (fun _ => ?_) (fun _ => ?_)
        · refine Alter.step ?_ (alter_chopPulse ..) rfl
          refine Alter.step ?_ (alter_dcl _ _) rfl
          assumption
        · assumption
    · rename_i z7 z8
      assumption
  · exact Alter.refl _ _

theorem alter_chopRises (s : State) : Alter 501133697928708233236888682496 s (chopRises s) := by
  unfold chopRises
  extract_lets +onlyGivenNames x1
  have h2 : Alter 501133697928708233236888682496 s x1 := by
    unfold x1
    refine Alter.step ?_ (alter_setBit ..) (by decide)
    exact Alter.refl _ _
  clear_value x1
  refine Alter.step ?_ (alter_linkEval ..) rfl
  refine Alter.step ?_ (alter_dcl _ _) rfl
  assumption

theorem alter_chopAssert (uv : Nat) (s : State) : Alter 501133697928708233236888682496 s (chopAssert uv s) := by
  unfold chopAssert
  refine alter_ite (fun _ => ?_) (fun _ => ?_)
  · refine Alter.step ?_ (alter_chopRises ..) rfl
    exact Alter.refl _ _
  · exact Alter.refl _ _

theorem alter_execChopAssert (x : PinEdge) (s : State) : Ends 501133698039388697679145992192 s (execChopAssert x s) := by
  unfold execChopAssert
  refine ends_next ?_
  refine Alter.step ?_ (alter_chopAssert ..) rfl
  refine Alter.step ?_ (alter_tick ..) rfl
  exact Alter.refl _ _

theorem alter_chopRelease (uv : Nat) (s : State) : Alter 158456325176102627776764313600 s (chopRelease uv s) := by
  unfold chopRelease
  refine alter_ite (fun _ => ?_) (fun _ => ?_)
  · exact Alter.refl _ _
  · extract_lets +onlyGivenNames x1
    have h2 : Alter 158456325176102627776764313600 s x1 := by
      unfold x1
      refine Alter.step ?_ (alter_setBit ..) (by decide)
      exact Alter.refl _ _
    clear_value x1
    extract_lets +onlyGivenNames x3
    subst x3
    refine Alter.step ?_ (alter_dcl _ _) rfl
    assumption

theorem alter_execChopRelease (x : PinEdge) (s : State) : Ends 158456325286783092219021623296 s (execChopRelease x s) := by
  unfold execChopRelease
  refine ends_next ?_
  refine Alter.step ?_ (alter_chopRelease ..) rfl
  refine Alter.step ?_ (alter_tick ..) rfl
  exact Alter.refl _ _

theorem alter_regenPermit (s : State) : Alter 495485595429557529453212467200 s (regenPermit s) := by
  unfold regenPermit
  split
  · rename_i z1 z2 z3
    refine Alter.step ?_ (alter_regenEnds ..) rfl
    refine Alter.step ?_ (alter_until ..) rfl
    exact Alter.refl _ _
  · rename_i z4 z5
    exact Alter.refl _ _

theorem alter_execRegenPermit (e : Nat) (s : State) : Ends 495485595429557529453212467200 s (execRegenPermit e s) := by
  unfold execRegenPermit
  refine ends_next ?_
  refine Alter.step ?_ (alter_regenPermit ..) rfl
  refine Alter.step ?_ (alter_tick ..) rfl
  exact Alter.refl _ _

theorem alter_ov1Rises (s : State) : Alter 159307503400440984108661735424 s (ov1Rises s) := by
  unfold ov1Rises
  refine alter_ite (fun _ => ?_) (fun _ => ?_)
  · exact Alter.refl _ _
  · extract_lets +onlyGivenNames x1
    subst x1
    extract_lets +onlyGivenNames x2
    have h3 : Alter 159307503400440984108661735424 s x2 := by
      unfold x2
      refine Alter.step ?_ (alter_dcl _ _) rfl
      exact Alter.refl _ _
    clear_value x2
    extract_lets +onlyGivenNames x4
    have h5 : Alter 159307503400440984108661735424 s x4 := by
      unfold x4
      refine Alter.step ?_ (alter_setBit ..) (by decide)
      refine Alter.step ?_ (alter_setBit ..) (by decide)
      assumption
    clear_value x4
    extract_lets +onlyGivenNames x6
    have h7 : Alter 159307503400440984108661735424 s x6 := by
      unfold x6
      refine Alter.and ?_ (alter_forEach _ _ _ ?_)
      · assumption
      · intro a8 b9
        beta_reduce
        refine alter_ite (fun _ => ?_) (fun _ => ?_)
        · refine Alter.step ?_ (alter_selHold ..) rfl
          exact Alter.refl _ _
        · exact Alter.refl _ _
    clear_value x6
    extract_lets +onlyGivenNames x10
    have h11 : Alter 159307503400440984108661735424 s x10 := by
      unfold x10
      refine Alter.step ?_ (alter_selEvalAll ..) rfl
      assumption
    clear_value x10
    extract_lets +onlyGivenNames x12
    subst x12
    extract_lets +onlyGivenNames x13
    have h14 : Alter 159307503400440984108661735424 s x13 := by
      unfold x13
      refine Alter.step ?_ (alter_forceApply ..) rfl
      refine Alter.step ?_ (alter_setFld ..) (by decide)
      assumption
    clear_value x13
    refine Alter.step ?_ (alter_raise ..) rfl
    assumption

theorem alter_ov1Assert (uv : Nat) (s : State) : Alter 159307503400440984108661735424 s (ov1Assert uv s) := by
  unfold ov1Assert
  refine alter_ite (fun _ => ?_) (fun _ => ?_)
  · refine Alter.step ?_ (alter_ov1Rises ..) rfl
    exact Alter.refl _ _
  · exact Alter.refl _ _

theorem alter_execOv1Assert (x : PinEdge) (s : State) : Ends 159307503511121448550919045120 s (execOv1Assert x s) := by
  unfold execOv1Assert
  refine ends_next ?_
  refine Alter.step ?_ (alter_ov1Assert ..) rfl
  refine Alter.step ?_ (alter_tick ..) rfl
  exact Alter.refl _ _

theorem alter_ov1Release (uv : Nat) (s : State) : Alter 159307503400440984108661735424 s (ov1Release uv s) := by
  unfold ov1Release
  refine alter_ite (fun _ => ?_) (fun _ => ?_)
  · exact Alter.refl _ _
  · extract_lets +onlyGivenNames x1
    have h2 : Alter 159307503400440984108661735424 s x1 := by
      unfold x1
      refine Alter.step ?_ (alter_selEvalAll ..) rfl
      refine Alter.step ?_ (alter_setBit ..) (by decide)
      exact Alter.refl _ _
    clear_value x1
    extract_lets +onlyGivenNames x3
    have h4 : Alter 159307503400440984108661735424 s x3 := by
      unfold x3
      refine Alter.step ?_ (alter_raise ..) rfl
      assumption
    clear_value x3
    refine Alter.step ?_ (alter_dcl _ _) rfl
    assumption

theorem alter_execOv1Release (x : PinEdge) (s : State) : Ends 159307503511121448550919045120 s (execOv1Release x s) := by
  unfold execOv1Release
  refine ends_next ?_
  refine Alter.step ?_ (alter_ov1Release ..) rfl
  refine Alter.step ?_ (alter_tick ..) rfl
  exact Alter.refl _ _

theorem alter_ov1HandBack (s : State) : Alter 158611067644119812163707600896 s (ov1HandBack s) := by
  unfold ov1HandBack
  split
  · rename_i z1 z2
    exact Alter.refl _ _
  · rename_i z3 z4 z5
    extract_lets +onlyGivenNames x6
    have h7 : Alter 158611067644119812163707600896 s x6 := by
      unfold x6
      refine Alter.step ?_ (alter_until ..) rfl
      exact Alter.refl _ _
    clear_value x6
    extract_lets +onlyGivenNames x8
    subst x8
    extract_lets +onlyGivenNames x9
    have h10 : Alter 158611067644119812163707600896 s x9 := by
      unfold x9
      refine Alter.step ?_ (alter_dcl _ _) rfl
      assumption
    clear_value x9
    refine alter_ite (fun _ => ?_) (fun _ => ?_)
    · assumption
    · refine Alter.and ?_ (alter_forEach _ _ _ ?_)
      · assumption
      · intro a11 b12
        beta_reduce
        refine alter_ite (fun _ => ?_) (fun _ => ?_)
        · refine Alter.step ?_ (alter_selDrop ..) rfl
          exact Alter.refl _ _
        · exact Alter.refl _ _

theorem alter_execOv1HandBack (e : Nat) (s : State) : Ends 158611067644119812163707600896 s (execOv1HandBack e s) := by
  unfold execOv1HandBack
  refine ends_next ?_
  refine Alter.step ?_ (alter_ov1HandBack ..) rfl
  refine Alter.step ?_ (alter_tick ..) rfl
  exact Alter.refl _ _

theorem alter_ov2Rises (s : State) : Alter 84166232945507252418287484534784 s (ov2Rises s) := by
  unfold ov2Rises
  extract_lets +onlyGivenNames x1
  have h2 : Alter 84166232945507252418287484534784 s x1 := by
    unfold x1
    refine Alter.step ?_ (alter_setBit ..) (by decide)
    refine Alter.step ?_ (alter_setBit ..) (by decide)
    exact Alter.refl _ _
  clear_value x1
  extract_lets +onlyGivenNames x3
  have h4 : Alter 84166232945507252418287484534784 s x3 := by
    unfold x3
    refine Alter.and ?_ (alter_forEach _ _ _ ?_)
    · assumption
    · intro a5 b6
      beta_reduce
      refine Alter.step ?_ (alter_convDark ..) rfl
      exact Alter.refl _ _
  clear_value x3
  refine Alter.step ?_ (alter_enterSafe ..) rfl
  refine Alter.step ?_ (alter_raise ..) rfl
  assumption

theorem alter_ov2Assert (uv : Nat) (s : State) : Alter 84166232945507252418287484534784 s (ov2Assert uv s) := by
  unfold ov2Assert
  refine alter_ite (fun _ => ?_) (fun _ => ?_)
  · refine Alter.step ?_ (alter_ov2Rises ..) rfl
    exact Alter.refl _ _
  · exact Alter.refl _ _

theorem alter_execOv2Assert (x : PinEdge) (s : State) : Ends 84166232945617932882729741844480 s (execOv2Assert x s) := by
  unfold execOv2Assert
  refine ends_next ?_
  refine Alter.step ?_ (alter_ov2Assert ..) rfl
  refine Alter.step ?_ (alter_tick ..) rfl
  exact Alter.refl _ _

theorem alter_dclUv (vl : Nat) (s : State) : Alter 495176110309055719942230376448 s (dclUv vl s) := by
  unfold dclUv
  extract_lets +onlyGivenNames x1
  have h2 : Alter 495176110309055719942230376448 s x1 := by
    unfold x1
    refine Alter.step ?_ (alter_setVlink ..) rfl
    exact Alter.refl _ _
  clear_value x1
  refine alter_ite (fun _ => ?_) (fun _ => ?_)
  · refine Alter.step ?_ (alter_raise ..) rfl
    refine Alter.step ?_ (alter_setBit ..) (by decide)
    refine Alter.step ?_ (alter_setBit ..) (by decide)
    assumption
  · assumption

theorem alter_execDclUv (e : Nat) (vl : BitVec 13) (s : State) : Ends 495176110419736184384487686144 s (execDclUv e vl s) := by
  unfold execDclUv
  refine ends_next ?_
  refine Alter.step ?_ (alter_dclUv ..) rfl
  refine Alter.step ?_ (alter_tick ..) rfl
  exact Alter.refl _ _

theorem alter_uvClear (vl : Nat) (s : State) : Alter 495176015861726062549326102528 s (uvClear vl s) := by
  unfold uvClear
  extract_lets +onlyGivenNames x1
  have h2 : Alter 495176015861726062549326102528 s x1 := by
    unfold x1
    refine Alter.step ?_ (alter_setVlink ..) rfl
    exact Alter.refl _ _
  clear_value x1
  refine alter_ite (fun _ => ?_) (fun _ => ?_)
  · refine Alter.step ?_ (alter_setBit ..) (by decide)
    assumption
  · assumption

theorem alter_execUvClear (e : Nat) (vl : BitVec 13) (s : State) : Ends 495176015972406526991583412224 s (execUvClear e vl s) := by
  unfold execUvClear
  refine ends_next ?_
  refine Alter.step ?_ (alter_uvClear ..) rfl
  refine Alter.step ?_ (alter_tick ..) rfl
  exact Alter.refl _ _

theorem alter_dclSense (mv : Nat) (vl : Nat) (s : State) : Alter 495176110309055719942230376448 s (dclSense mv vl s) := by
  unfold dclSense
  extract_lets +onlyGivenNames x1
  have h2 : Alter 495176110309055719942230376448 s x1 := by
    unfold x1
    refine Alter.step ?_ (alter_setVlink ..) rfl
    exact Alter.refl _ _
  clear_value x1
  refine alter_ite (fun _ => ?_) (fun _ => ?_)
  · extract_lets +onlyGivenNames x3
    subst x3
    extract_lets +onlyGivenNames x4
    subst x4
    extract_lets +onlyGivenNames x5
    have h6 : Alter 495176110309055719942230376448 s x5 := by
      unfold x5
      refine Alter.step ?_ (alter_dcl _ _) rfl
      assumption
    clear_value x5
    refine alter_ite (fun _ => ?_) (fun _ => ?_)
    · refine Alter.step ?_ (alter_setBit ..) (by decide)
      assumption
    · assumption
  · extract_lets +onlyGivenNames x7
    subst x7
    extract_lets +onlyGivenNames x8
    have h9 : Alter 495176110309055719942230376448 s x8 := by
      unfold x8
      refine Alter.step ?_ (alter_dcl _ _) rfl
      assumption
    clear_value x8
    extract_lets +onlyGivenNames x10
    have h11 : Alter 495176110309055719942230376448 s x10 := by
      unfold x10
      refine Alter.step ?_ (alter_setBit ..) (by decide)
      assumption
    clear_value x10
    refine Alter.and ?_ (alter_flagRaise _ _ _ _ _ _ (by decide))
    assumption

theorem alter_execDclSense (e : Nat) (mv : BitVec 13) (vl : BitVec 13) (s : State) : Ends 495176110419736184384487686144 s (execDclSense e mv vl s) := by
  unfold execDclSense
  refine ends_next ?_
  refine Alter.step ?_ (alter_dclSense ..) rfl
  refine Alter.step ?_ (alter_tick ..) rfl
  exact Alter.refl _ _

theorem alter_chopTest (s : State) : Alter 159075295158851829766794772480 s (chopTest s) := by
  unfold chopTest
  refine alter_ite (fun _ => ?_) (fun _ => ?_)
  · exact Alter.refl _ _
  · extract_lets +onlyGivenNames x1
    have h2 : Alter 159075295158851829766794772480 s x1 := by
      unfold x1
      refine Alter.step ?_ (alter_until ..) rfl
      exact Alter.refl _ _
    clear_value x1
    extract_lets +onlyGivenNames x3
    subst x3
    extract_lets +onlyGivenNames x4
    subst x4
    extract_lets +onlyGivenNames x5
    have h6 : Alter 159075295158851829766794772480 s x5 := by
      unfold x5
      refine Alter.step ?_ (alter_dcl _ _) rfl
      assumption
    clear_value x5
    split
    · rename_i z7 z8 z9
      refine alter_ite (fun _ => ?_) (fun _ => ?_)
      · extract_lets +onlyGivenNames x10
        subst x10
        extract_lets +onlyGivenNames x11
        subst x11
        extract_lets +onlyGivenNames x12
        subst x12
        refine Alter.step ?_ (alter_setUnit ..) rfl
        assumption
      · assumption
    · rename_i z13 z14
      assumption

theorem alter_execChopTestPulse (e : Nat) (s : State) : Ends 159075295158851829766794772480 s (execChopTestPulse e s) := by
  unfold execChopTestPulse
  refine ends_next ?_
  refine Alter.step ?_ (alter_chopTest ..) rfl
  refine Alter.step ?_ (alter_tick ..) rfl
  exact Alter.refl _ _

theorem alter_chopClear (s : State) : Alter 501133697928708233236888682496 s (chopClear s) := by
  unfold chopClear
  extract_lets +onlyGivenNames x1
  have h2 : Alter 501133697928708233236888682496 s x1 := by
    unfold x1
    refine Alter.step ?_ (alter_setBit ..) (by decide)
    refine Alter.step ?_ (alter_setFld ..) (by decide)
    exact Alter.refl _ _
  clear_value x1
  extract_lets +onlyGivenNames x3
  have h4 : Alter 501133697928708233236888682496 s x3 := by
    unfold x3
    refine Alter.and ?_ (alter_forEach _ _ _ ?_)
    · assumption
    · intro a5 b6
      beta_reduce
      refine Alter.step ?_ (alter_setConv ..) rfl
      exact Alter.refl _ _
  clear_value x3
  refine Alter.step ?_ (alter_linkEval ..) rfl
  refine Alter.step ?_ (alter_dcl _ _) rfl
  assumption

end Sys2Proof.Machine
end

