-- ==== Sys2Proof/Laws/Engine.lean ====
section
/-! SUPPORT. What each operation of `Sys2Proof.Machine.Engine` may change (`Alter`), one lemma an operation; for a command,
that it answers a next state (`Ends`). -/

namespace Sys2Proof.Machine

theorem alter_setFlags (g : Nat) (i : Nat) (fl : Nat) (s : State) : Alter 19807135223469694380966674432 s (setFlags g i fl s) := by
  unfold setFlags
  refine alter_ite (fun _ => ?_) (fun _ => ?_)
  · exact Alter.refl _ _
  · extract_lets +onlyGivenNames x1
    subst x1
    extract_lets +onlyGivenNames x2
    have h3 : Alter 19807135223469694380966674432 s x2 := by
      unfold x2
      refine Alter.step ?_ (alter_setGraph ..) rfl
      exact Alter.refl _ _
    clear_value x2
    extract_lets +onlyGivenNames x4
    subst x4
    extract_lets +onlyGivenNames x5
    subst x5
    extract_lets +onlyGivenNames x6
    have h7 : Alter 19807135223469694380966674432 s x6 := by
      unfold x6
      refine alter_ite (fun _ => ?_) (fun _ => ?_)
      · refine Alter.step ?_ (alter_setFld ..) (rm_high (by simp only [R.ENG_G_FLAGS]; omega) rfl)
        assumption
      · assumption
    clear_value x6
    extract_lets +onlyGivenNames x8
    have h9 : Alter 19807135223469694380966674432 s x8 := by
      unfold x8
      refine Alter.step ?_ (alter_setBit ..) (by decide)
      refine Alter.step ?_ (alter_setFld ..) (rm_high (by simp only [R.ENG_G_FLAGS]; omega) rfl)
      assumption
    clear_value x8
    refine Alter.and ?_ (alter_forEach _ _ _ ?_)
    · assumption
    · intro a10 b11
      beta_reduce
      refine Alter.step ?_ (alter_raise ..) rfl
      exact Alter.refl _ _

theorem alter_clearGraphFlags (g : Nat) (mask : Nat) (s : State) : Alter 19807040776140036988062400512 s (clearGraphFlags g mask s) := by
  unfold clearGraphFlags
  extract_lets +onlyGivenNames x1
  subst x1
  extract_lets +onlyGivenNames x2
  subst x2
  extract_lets +onlyGivenNames x3
  subst x3
  extract_lets +onlyGivenNames x4
  have h5 : Alter 19807040776140036988062400512 s x4 := by
    unfold x4
    refine Alter.step ?_ (alter_setGraph ..) rfl
    exact Alter.refl _ _
  clear_value x4
  refine Alter.step ?_ (alter_setFld ..) (rm_high (by simp only [R.ENG_G_FLAGS]; omega) rfl)
  assumption

theorem alter_putInst (g : Nat) (i : Nat) (x : Inst) (r : BOut) (s : State) : Alter 19807135223469694380966674432 s (putInst g i x r s) := by
  unfold putInst
  extract_lets +onlyGivenNames x1
  subst x1
  extract_lets +onlyGivenNames x2
  subst x2
  extract_lets +onlyGivenNames x3
  subst x3
  refine Alter.step ?_ (alter_setFlags ..) rfl
  refine Alter.step ?_ (alter_setGraph ..) rfl
  exact Alter.refl _ _

theorem alter_qinStale (g : Nat) (i : Nat) (x : Inst) (s : State) : Alter 19807135223469694380966674432 s (qinStale g i x s) := by
  unfold qinStale
  extract_lets +onlyGivenNames x1
  subst x1
  extract_lets +onlyGivenNames x2
  subst x2
  extract_lets +onlyGivenNames x3
  subst x3
  extract_lets +onlyGivenNames x4
  have h5 : Alter 19807135223469694380966674432 s x4 := by
    unfold x4
    refine Alter.step ?_ (alter_putInst ..) rfl
    refine Alter.step ?_ (alter_setGraph ..) rfl
    exact Alter.refl _ _
  clear_value x4
  extract_lets +onlyGivenNames x6
  have h7 : Alter 19807135223469694380966674432 s x6 := by
    unfold x6
    refine Alter.step ?_ (alter_setBit ..) (by decide)
    refine Alter.step ?_ (alter_incFld ..) (rm_high (by simp only [R.ENG_G_COUNT]; omega) rfl)
    assumption
  clear_value x6
  refine alter_ite (fun _ => ?_) (fun _ => ?_)
  · assumption
  · refine Alter.step ?_ (alter_raise ..) rfl
    assumption

theorem alter_qinExamined (g : Nat) (q : Nat) (s : State) : Alter 19807040628566084398385987584 s (qinExamined g q s) := by
  unfold qinExamined
  extract_lets +onlyGivenNames x1
  subst x1
  split
  · rename_i z2 z3
    exact Alter.refl _ _
  · rename_i z4 z5 z6
    refine Alter.step ?_ (alter_setGraph ..) rfl
    exact Alter.refl _ _

theorem alter_qinRun (g : Nat) (i : Nat) (n : Nat) (x : Inst) (p : List Int) (late : Bool) (s : State) : Alter 19807135223469694380966674432 s (qinRun g i n x p late s).1 := by
  unfold qinRun
  extract_lets +onlyGivenNames x1
  have h2 : Alter 19807135223469694380966674432 s x1 := by
    unfold x1
    refine Alter.step ?_ (alter_qinExamined ..) rfl
    exact Alter.refl _ _
  clear_value x1
  split
  · rename_i z3 z4 z5 z6 z7
    extract_lets +onlyGivenNames x8
    subst x8
    extract_lets +onlyGivenNames x9
    have h10 : Alter 19807135223469694380966674432 s x9 := by
      unfold x9
      refine Alter.step ?_ (alter_setGraph ..) rfl
      assumption
    clear_value x9
    dsimp only
    refine Alter.step ?_ (alter_putInst ..) rfl
    assumption
  · rename_i z11 z12
    dsimp only
    refine Alter.step ?_ (alter_qinStale ..) rfl
    assumption
  · rename_i z13 z14 z15
    split
    · rename_i z16
      dsimp only
      refine Alter.step ?_ (alter_qinStale ..) rfl
      assumption
    · rename_i z17
      dsimp only
      assumption

theorem alter_meanArrive (q : Nat) (e : QEnt) (s : State) : Alter 19807040628566084398385987584 s (meanArrive q e s) := by
  unfold meanArrive
  refine Alter.and ?_ (alter_forEach _ _ _ ?_)
  · exact Alter.refl _ _
  · intro a1 b2
    beta_reduce
    extract_lets +onlyGivenNames x3
    subst x3
    refine Alter.and ?_ (alter_forEach _ _ _ ?_)
    · exact Alter.refl _ _
    · intro a4 b5
      beta_reduce
      extract_lets +onlyGivenNames x6
      subst x6
      extract_lets +onlyGivenNames x7
      subst x7
      refine alter_ite (fun _ => ?_) (fun _ => ?_)
      · extract_lets +onlyGivenNames x8
        subst x8
        extract_lets +onlyGivenNames x9
        subst x9
        refine Alter.step ?_ (alter_setGraph ..) rfl
        exact Alter.refl _ _
      · exact Alter.refl _ _

theorem alter_obsRun (g : Nat) (i : Nat) (b : Nat) (x : Inst) (p : List Int) (s : State) : Alter 19807135518617599560319500288 s (obsRun g i b x p s) := by
  unfold obsRun
  extract_lets +onlyGivenNames x1
  subst x1
  extract_lets +onlyGivenNames x2
  subst x2
  extract_lets +onlyGivenNames x3
  subst x3
  extract_lets +onlyGivenNames x4
  subst x4
  extract_lets +onlyGivenNames x5
  subst x5
  extract_lets +onlyGivenNames x6
  have h7 : ∀ y8 y9 y10, Alter 19807135518617599560319500288 y10 (x6 y8 y9 y10) := by
    intro y8 y9 y10
    unfold x6
    beta_reduce
    refine Alter.step ?_ (alter_putInst ..) rfl
    refine Alter.step ?_ (alter_setGraph ..) rfl
    exact Alter.refl _ _
  clear_value x6
  refine alter_ite (fun _ => ?_) (fun _ => ?_)
  · extract_lets +onlyGivenNames x11
    subst x11
    refine Alter.and ?_ (h7 ..)
    exact Alter.refl _ _
  · refine alter_ite (fun _ => ?_) (fun _ => ?_)
    · refine Alter.and ?_ (h7 ..)
      exact Alter.refl _ _
    · refine alter_ite (fun _ => ?_) (fun _ => ?_)
      · extract_lets +onlyGivenNames x12
        subst x12
        extract_lets +onlyGivenNames x13
        subst x13
        extract_lets +onlyGivenNames x14
        subst x14
        split
        · rename_i z15 z16 z17 z18
          have h19 : Alter 19807135518617599560319500288 s z17 := by
            refine (congrArg (Alter _ _) (congrArg (Prod.snd) z18)).mp ?_
            refine Alter.step ?_ (alter_draw ..) rfl
            exact Alter.refl _ _
          extract_lets +onlyGivenNames x20
          subst x20
          split
          · rename_i z21 z22 z23 z24 z25 z26 z27
            extract_lets +onlyGivenNames x28
            subst x28
            extract_lets +onlyGivenNames x29
            subst x29
            extract_lets +onlyGivenNames x30
            subst x30
            extract_lets +onlyGivenNames x31
            subst x31
            extract_lets +onlyGivenNames x32
            subst x32
            extract_lets +onlyGivenNames x33
            subst x33
            extract_lets +onlyGivenNames x34
            have h35 : ∀ y36, Alter 19807135518617599560319500288 s (x34 y36) := by
              intro y36
              unfold x34
              beta_reduce
              refine Alter.and ?_ (h7 ..)
              assumption
            clear_value x34
            refine alter_ite (fun _ => ?_) (fun _ => ?_)
            · refine Alter.step ?_ (alter_raise ..) rfl
              refine Alter.and ?_ (h7 ..)
              assumption
            · refine alter_ite (fun _ => ?_) (fun _ => ?_)
              · refine Alter.and ?_ (h35 ..)
                exact Alter.refl _ _
              · refine alter_ite (fun _ => ?_) (fun _ => ?_)
                · refine Alter.and ?_ (h35 ..)
                  exact Alter.refl _ _
                · refine Alter.and ?_ (h7 ..)
                  assumption
      · split
        · rename_i z37 z38 z39 z40 z41 z42 z43
          extract_lets +onlyGivenNames x44
          subst x44
          extract_lets +onlyGivenNames x45
          subst x45
          refine Alter.and ?_ (h7 ..)
          exact Alter.refl _ _

theorem alter_obsEnd (g : Nat) (s : State) : Alter 19807040628566084398385987584 s (obsEnd g s) := by
  unfold obsEnd
  extract_lets +onlyGivenNames x1
  subst x1
  refine Alter.step ?_ (alter_setGraph ..) rfl
  exact Alter.refl _ _

theorem alter_onAct (g : Nat) (f : Act → Act) (s : State) : Alter 19807040628566084398385987584 s (onAct g f s) := by
  unfold onAct
  extract_lets +onlyGivenNames x1
  subst x1
  split
  · rename_i z2 z3 z4
    refine Alter.step ?_ (alter_setGraph ..) rfl
    exact Alter.refl _ _
  · rename_i z5 z6
    exact Alter.refl _ _

theorem alter_instRun (g : Nat) (n : Nat) (b : Nat) (i : Nat) (late : Bool) (s : State) : Alter 19807135518617599560319500288 s (instRun g n b i late s).1 := by
  unfold instRun
  extract_lets +onlyGivenNames x1
  subst x1
  extract_lets +onlyGivenNames x2
  subst x2
  split
  · rename_i z3
    dsimp only
    exact Alter.refl _ _
  · rename_i z4
    extract_lets +onlyGivenNames x5
    subst x5
    extract_lets +onlyGivenNames x6
    subst x6
    extract_lets +onlyGivenNames x7
    subst x7
    extract_lets +onlyGivenNames x8
    subst x8
    split
    · rename_i z9 z10 z11
      dsimp only
      refine Alter.step ?_ (alter_putInst ..) rfl
      exact Alter.refl _ _
    · rename_i z12 z13
      split
      · rename_i z14
        dsimp only
        refine Alter.step ?_ (alter_putInst ..) rfl
        exact Alter.refl _ _
      · rename_i z15
        split
        · rename_i z16
          dsimp only
          refine Alter.step ?_ (alter_obsRun ..) rfl
          exact Alter.refl _ _
        · rename_i z17
          split
          · rename_i z18
            refine Alter.step ?_ (alter_qinRun ..) rfl
            exact Alter.refl _ _
          · rename_i z19
            split
            · rename_i z20
              extract_lets +onlyGivenNames x21
              subst x21
              dsimp only
              refine Alter.step ?_ (alter_putInst ..) rfl
              exact Alter.refl _ _
            · rename_i z22
              split
              · rename_i z23
                extract_lets +onlyGivenNames x24
                subst x24
                extract_lets +onlyGivenNames x25
                subst x25
                extract_lets +onlyGivenNames x26
                subst x26
                extract_lets +onlyGivenNames x27
                subst x27
                dsimp only
                refine Alter.step ?_ (alter_onAct ..) rfl
                exact Alter.refl _ _
              · rename_i z28
                split
                · rename_i z29
                  extract_lets +onlyGivenNames x30
                  subst x30
                  dsimp only
                  refine Alter.step ?_ (alter_onAct ..) rfl
                  exact Alter.refl _ _
                · rename_i z31
                  split
                  · rename_i z32
                    dsimp only
                    refine Alter.step ?_ (alter_onAct ..) rfl
                    exact Alter.refl _ _
                  · rename_i z33
                    split
                    · rename_i z34
                      dsimp only
                      refine Alter.step ?_ (alter_onAct ..) rfl
                      exact Alter.refl _ _
                    · rename_i z35
                      dsimp only
                      exact Alter.refl _ _

theorem alter_pedalRun (g : Nat) (b : Nat) (s : State) : Alter 19807135223469694380966674432 s (pedalRun g b s) := by
  unfold pedalRun
  extract_lets +onlyGivenNames x1
  subst x1
  refine alter_ite (fun _ => ?_) (fun _ => ?_)
  · exact Alter.refl _ _
  · extract_lets +onlyGivenNames x2
    subst x2
    extract_lets +onlyGivenNames x3
    subst x3
    extract_lets +onlyGivenNames x4
    subst x4
    extract_lets +onlyGivenNames x5
    subst x5
    extract_lets +onlyGivenNames x6
    subst x6
    extract_lets +onlyGivenNames x7
    have h8 : Alter 19807135223469694380966674432 s x7 := by
      unfold x7
      refine Alter.step ?_ (alter_eng _ _) rfl
      exact Alter.refl _ _
    clear_value x7
    extract_lets +onlyGivenNames x9
    subst x9
    extract_lets +onlyGivenNames x10
    subst x10
    extract_lets +onlyGivenNames x11
    have h12 : Alter 19807135223469694380966674432 s x11 := by
      unfold x11
      refine Alter.step ?_ (alter_setFld ..) (by decide)
      refine Alter.step ?_ (alter_setFld ..) (by decide)
      refine Alter.step ?_ (alter_setFld ..) (by decide)
      assumption
    clear_value x11
    extract_lets +onlyGivenNames x13
    have h14 : Alter 19807135223469694380966674432 s x13 := by
      unfold x13
      refine Alter.step ?_ (alter_setBit ..) (by decide)
      refine Alter.step ?_ (alter_setBit ..) (by decide)
      refine Alter.step ?_ (alter_setFld ..) (by decide)
      assumption
    clear_value x13
    refine alter_ite (fun _ => ?_) (fun _ => ?_)
    · refine Alter.step ?_ (alter_raise ..) rfl
      refine Alter.step ?_ (alter_setBit ..) (by decide)
      assumption
    · refine alter_ite (fun _ => ?_) (fun _ => ?_)
      · refine Alter.step ?_ (alter_raise ..) rfl
        assumption
      · assumption

theorem alter_putParams (g : Nat) (l : List (Nat × Reg)) (s : State) : Alter 38685626227668133590597632 s (putParams g l s) := by
  unfold putParams
  split
  · rename_i z1 z2 z3 z4 z5 z6
    extract_lets +onlyGivenNames x7
    subst x7
    extract_lets +onlyGivenNames x8
    subst x8
    refine Alter.step ?_ (alter_plant _ _) rfl
    exact Alter.refl _ _
  · rename_i z9 z10 z11
    exact Alter.refl _ _

theorem alter_applyTakes (g : Nat) (b : Nat) (s : State) : Alter 19845820849697362514557272064 s (applyTakes g b s) := by
  unfold applyTakes
  split
  · rename_i z1 z2
    exact Alter.refl _ _
  · rename_i z3 z4 z5
    extract_lets +onlyGivenNames x6
    have h7 : Alter 19845820849697362514557272064 s x6 := by
      unfold x6
      refine Alter.step ?_ (alter_putParams ..) rfl
      exact Alter.refl _ _
    clear_value x6
    extract_lets +onlyGivenNames x8
    subst x8
    extract_lets +onlyGivenNames x9
    have h10 : Alter 19845820849697362514557272064 s x9 := by
      unfold x9
      refine Alter.step ?_ (alter_eng _ _) rfl
      assumption
    clear_value x9
    refine Alter.step ?_ (alter_raise ..) rfl
    refine Alter.step ?_ (alter_setBit ..) (by decide)
    assumption

theorem alter_mirrorGraph (g : Nat) (s : State) : Alter 19807040628566084398385987584 s (mirrorGraph g s) := by
  unfold mirrorGraph
  extract_lets +onlyGivenNames x1
  subst x1
  refine alter_ite (fun _ => ?_) (fun _ => ?_)
  · exact Alter.refl _ _
  · refine Alter.step ?_ (alter_setGraph ..) rfl
    exact Alter.refl _ _

theorem alter_loadFrom (g : Nat) (s : State) : Alter 10141204801825835211973625643008 s (loadFrom g s) := by
  unfold loadFrom
  split
  · rename_i z1 z2 z3
    refine alter_ite (fun _ => ?_) (fun _ => ?_)
    · refine Alter.step ?_ (alter_plc _ _) rfl
      exact Alter.refl _ _
    · exact Alter.refl _ _
  · rename_i z4 z5
    exact Alter.refl _ _

theorem alter_actEnd (g : Nat) (s : State) : Alter 10170915438474122017075204456448 s (actEnd g s) := by
  unfold actEnd
  extract_lets +onlyGivenNames x1
  subst x1
  split
  · rename_i z2 z3
    exact Alter.refl _ _
  · rename_i z4 z5 z6
    extract_lets +onlyGivenNames x7
    subst x7
    extract_lets +onlyGivenNames x8
    subst x8
    extract_lets +onlyGivenNames x9
    subst x9
    extract_lets +onlyGivenNames x10
    subst x10
    extract_lets +onlyGivenNames x11
    subst x11
    extract_lets +onlyGivenNames x12
    have h13 : Alter 10170915438474122017075204456448 s x12 := by
      unfold x12
      refine Alter.step ?_ (alter_setGraph ..) rfl
      exact Alter.refl _ _
    clear_value x12
    extract_lets +onlyGivenNames x14
    have h15 : Alter 10170915438474122017075204456448 s x14 := by
      unfold x14
      refine alter_ite (fun _ => ?_) (fun _ => ?_)
      · refine Alter.step ?_ (alter_loadFrom ..) rfl
        assumption
      · assumption
    clear_value x14
    extract_lets +onlyGivenNames x16
    have h17 : Alter 10170915438474122017075204456448 s x16 := by
      unfold x16
      refine Alter.and ?_ (alter_forEach _ _ _ ?_)
      · assumption
      · intro a18 b19
        beta_reduce
        refine Alter.step ?_ (alter_queFree ..) rfl
        exact Alter.refl _ _
    clear_value x16
    extract_lets +onlyGivenNames x20
    have h21 : Alter 10170915438474122017075204456448 s x20 := by
      unfold x20
      refine Alter.and ?_ (alter_forEach _ _ _ ?_)
      · assumption
      · intro a22 b23
        beta_reduce
        refine Alter.step ?_ (alter_recTake ..) rfl
        refine Alter.step ?_ (alter_setReg ..) (rm_high (by simp only [R.ENG_G_TAP]; omega) rfl)
        exact Alter.refl _ _
    clear_value x20
    extract_lets +onlyGivenNames x24
    subst x24
    extract_lets +onlyGivenNames x25
    have h26 : Alter 10170915438474122017075204456448 s x25 := by
      unfold x25
      refine Alter.step ?_ (alter_setFld ..) (rm_high (by simp only [R.ENG_G_TIME]; omega) rfl)
      refine Alter.step ?_ (alter_setFld ..) (rm_high (by simp only [R.ENG_G_TIME]; omega) rfl)
      assumption
    clear_value x25
    extract_lets +onlyGivenNames x27
    have h28 : Alter 10170915438474122017075204456448 s x27 := by
      unfold x27
      refine Alter.step ?_ (alter_setFld ..) (rm_high (by simp only [R.ENG_G_COUNT]; omega) rfl)
      assumption
    clear_value x27
    extract_lets +onlyGivenNames x29
    subst x29
    extract_lets +onlyGivenNames x30
    have h31 : Alter 10170915438474122017075204456448 s x30 := by
      unfold x30
      refine Alter.step ?_ (alter_setFld ..) (rm_high (by simp only [R.ENG_PAIR_STAT_K]; omega) rfl)
      assumption
    clear_value x30
    refine Alter.step ?_ (alter_mirrorGraph ..) rfl
    assumption

theorem alter_instsRun (g n b : Nat) (l : List Nat) (late : Bool) (s : State) : Alter 10170915457658735853733138137088 s (instsRun g n b l late s) := by
  induction l generalizing late s with
  | nil => exact (alter_actEnd ..).mono rfl
  | cons i l ih =>
    unfold instsRun
    split
    · rename_i s' e
      have h : Alter 10170915457658735853733138137088 s s' := (congrArg (Alter _ _) (congrArg Prod.fst e)).mp ((alter_instRun ..).mono rfl)
      exact h.and (ih ..)
    · rename_i s' t e
      have h : Alter 10170915457658735853733138137088 s s' := (congrArg (Alter _ _) (congrArg Prod.fst e)).mp ((alter_instRun ..).mono rfl)
      exact h.step (alter_onAct ..) rfl

theorem alter_actGo (g : Nat) (late : Bool) (s : State) : Alter 10170915457658735853733138137088 s (actGo g late s) := by
  unfold actGo
  split
  · rename_i z1 z2
    exact Alter.refl _ _
  · rename_i z3 z4 z5
    refine Alter.step ?_ (alter_instsRun ..) rfl
    refine Alter.step ?_ (alter_onAct ..) rfl
    exact Alter.refl _ _

theorem alter_actBegin (g : Nat) (dur : Nat) (lag : Nat) (s : State) : Alter 19845820960377826956814581760 s (actBegin g dur lag s) := by
  unfold actBegin
  extract_lets +onlyGivenNames x1
  subst x1
  split
  · rename_i z2 z3 z4 z5 z6 z7 z8 z9
    extract_lets +onlyGivenNames x10
    have h11 : Alter 19845820960377826956814581760 s x10 := by
      unfold x10
      refine Alter.step ?_ (alter_setGraph ..) rfl
      exact Alter.refl _ _
    clear_value x10
    refine alter_ite (fun _ => ?_) (fun _ => ?_)
    · assumption
    · extract_lets +onlyGivenNames x12
      have h13 : Alter 19845820960377826956814581760 s x12 := by
        unfold x12
        refine Alter.step ?_ (alter_until ..) rfl
        assumption
      clear_value x12
      extract_lets +onlyGivenNames x14
      have h15 : Alter 19845820960377826956814581760 s x14 := by
        unfold x14
        refine Alter.step ?_ (alter_applyTakes ..) rfl
        assumption
      clear_value x14
      extract_lets +onlyGivenNames x16
      subst x16
      extract_lets +onlyGivenNames x17
      subst x17
      extract_lets +onlyGivenNames x18
      subst x18
      extract_lets +onlyGivenNames x19
      subst x19
      extract_lets +onlyGivenNames x20
      subst x20
      extract_lets +onlyGivenNames x21
      subst x21
      extract_lets +onlyGivenNames x22
      have h23 : Alter 19845820960377826956814581760 s x22 := by
        unfold x22
        refine Alter.step ?_ (alter_setGraph ..) rfl
        assumption
      clear_value x22
      refine alter_ite (fun _ => ?_) (fun _ => ?_)
      · refine Alter.step ?_ (alter_pedalRun ..) rfl
        assumption
      · assumption
  · rename_i z24 z25 z26
    exact Alter.refl _ _

theorem alter_qinWaitEnd (g : Nat) (s : State) : Alter 10170915457769416318175395446784 s (qinWaitEnd g s) := by
  unfold qinWaitEnd
  split
  · rename_i z1 z2 z3 z4 z5 z6 z7 z8 z9 z10 z11 z12 z13 z14 z15
    refine Alter.step ?_ (alter_actGo ..) rfl
    refine Alter.step ?_ (alter_until ..) rfl
    exact Alter.refl _ _
  · rename_i z16 z17
    exact Alter.refl _ _

theorem alter_execQinWaitEnd (e : Nat) (g : Fin 8) (s : State) : Ends 10170915457769416318175395446784 s (execQinWaitEnd e g s) := by
  unfold execQinWaitEnd
  refine ends_next ?_
  refine Alter.step ?_ (alter_qinWaitEnd ..) rfl
  refine Alter.step ?_ (alter_tick ..) rfl
  exact Alter.refl _ _

theorem alter_engStore (n : Nat) (word : Nat) (fatal : Bool) (s : State) : Alter 10141204896420738821956206329856 s (engStore n word fatal s) := by
  unfold engStore
  extract_lets +onlyGivenNames x1
  subst x1
  extract_lets +onlyGivenNames x2
  have h3 : Alter 10141204896420738821956206329856 s x2 := by
    unfold x2
    refine Alter.step ?_ (alter_setBit ..) (by decide)
    refine Alter.step ?_ (alter_setFld ..) (by decide)
    refine Alter.step ?_ (alter_setFld ..) (by decide)
    exact Alter.refl _ _
  clear_value x2
  refine alter_ite (fun _ => ?_) (fun _ => ?_)
  · extract_lets +onlyGivenNames x4
    have h5 : Alter 10141204896420738821956206329856 s x4 := by
      unfold x4
      refine Alter.step ?_ (alter_setBitAt ..) (by decide)
      assumption
    clear_value x4
    extract_lets +onlyGivenNames x6
    have h7 : Alter 10141204896420738821956206329856 s x6 := by
      unfold x6
      refine Alter.step ?_ (alter_raise ..) rfl
      refine Alter.step ?_ (alter_setBit ..) (by decide)
      assumption
    clear_value x6
    split
    · rename_i z8 z9 z10
      refine Alter.step ?_ (alter_failReport ..) rfl
      assumption
    · rename_i z11 z12
      refine Alter.step ?_ (alter_failReport ..) rfl
      assumption
  · refine Alter.step ?_ (alter_setBit ..) (by decide)
    refine Alter.step ?_ (alter_incFld ..) (by decide)
    assumption

theorem alter_execEngStore (e : Nat) (n : Fin 16) (word : Fin 13107) (fatal : Bool) (s : State) : Ends 10141204896531419286398463639552 s (execEngStore e n word fatal s) := by
  unfold execEngStore
  refine ends_next ?_
  refine Alter.step ?_ (alter_engStore ..) rfl
  refine Alter.step ?_ (alter_tick ..) rfl
  exact Alter.refl _ _

theorem alter_gwinStep (s : State) : Alter 147573952589676412928 s (gwinStep s) := by
  unfold gwinStep
  refine alter_ite (fun _ => ?_) (fun _ => ?_)
  · refine Alter.step ?_ (alter_setFld ..) (by decide)
    exact Alter.refl _ _
  · exact Alter.refl _ _

theorem alter_gwinRead (s : State) : Alter 147573952589676412928 s (gwinRead s).2.2 := by
  unfold gwinRead
  split
  · rename_i z1
    dsimp only
    exact Alter.refl _ _
  · rename_i z2
    dsimp only
    refine Alter.step ?_ (alter_gwinStep ..) rfl
    exact Alter.refl _ _

theorem alter_gwinWrite (v : Reg) (s : State) : Alter 19807040776140036988062400512 s (gwinWrite v s) := by
  unfold gwinWrite
  split
  · rename_i z1 z2 z3 z4 z5
    extract_lets +onlyGivenNames x6
    subst x6
    extract_lets +onlyGivenNames x7
    subst x7
    extract_lets +onlyGivenNames x8
    subst x8
    extract_lets +onlyGivenNames x9
    have h10 : Alter 19807040776140036988062400512 s x9 := by
      unfold x9
      refine Alter.step ?_ (alter_eng _ _) rfl
      exact Alter.refl _ _
    clear_value x9
    refine Alter.step ?_ (alter_gwinStep ..) rfl
    refine Alter.step ?_ (alter_setFld ..) (by decide)
    assumption

theorem alter_stageEmpty (s : State) : Alter 19807040776140036988062400512 s (stageEmpty s) := by
  unfold stageEmpty
  refine Alter.step ?_ (alter_setFld ..) (by decide)
  refine Alter.step ?_ (alter_eng _ _) rfl
  exact Alter.refl _ _

theorem alter_applyRefused (k : Nat) (s : State) : Alter 19807040776140036988062400512 s (applyRefused k s) := by
  unfold applyRefused
  extract_lets +onlyGivenNames x1
  have h2 : Alter 19807040776140036988062400512 s x1 := by
    unfold x1
    refine Alter.step ?_ (alter_setBit ..) (by decide)
    refine Alter.step ?_ (alter_stageEmpty ..) rfl
    exact Alter.refl _ _
  clear_value x1
  refine Alter.step ?_ (alter_setFld ..) (by decide)
  refine Alter.step ?_ (alter_setBit ..) (by decide)
  assumption

theorem alter_gwinApply (r : Req) (s : State) : Alter 19807078555071899945224110080 s (gwinApply r s).2 := by
  unfold gwinApply
  extract_lets +onlyGivenNames x1
  subst x1
  extract_lets +onlyGivenNames x2
  subst x2
  split
  · rename_i z3 z4 z5
    dsimp only
    refine Alter.step ?_ (alter_applyRefused ..) rfl
    exact Alter.refl _ _
  · rename_i z6 z7
    extract_lets +onlyGivenNames x8
    subst x8
    extract_lets +onlyGivenNames x9
    have h10 : Alter 19807078555071899945224110080 s x9 := by
      unfold x9
      refine Alter.and ?_ (alter_forEach _ _ _ ?_)
      · exact Alter.refl _ _
      · intro a11 b12
        beta_reduce
        refine Alter.step ?_ (alter_auditAdd ..) rfl
        exact Alter.refl _ _
    clear_value x9
    extract_lets +onlyGivenNames x13
    have h14 : Alter 19807078555071899945224110080 s x13 := by
      unfold x13
      refine Alter.step ?_ (alter_setBit ..) (by decide)
      assumption
    clear_value x13
    extract_lets +onlyGivenNames x15
    subst x15
    refine alter_ite_snd (fun _ => ?_) (fun _ => ?_)
    · dsimp only
      refine Alter.step ?_ (alter_stageEmpty ..) rfl
      assumption
    · extract_lets +onlyGivenNames x16
      have h17 : Alter 19807078555071899945224110080 s x16 := by
        unfold x16
        refine Alter.step ?_ (alter_stageEmpty ..) rfl
        assumption
      clear_value x16
      extract_lets +onlyGivenNames x18
      subst x18
      extract_lets +onlyGivenNames x19
      have h20 : Alter 19807078555071899945224110080 s x19 := by
        unfold x19
        refine Alter.step ?_ (alter_eng _ _) rfl
        assumption
      clear_value x19
      dsimp only
      refine Alter.step ?_ (alter_setBit ..) (by decide)
      assumption

theorem alter_engClrCounts (s : State) : Alter 147573952589676412928 s (engClrCounts s) := by
  unfold engClrCounts
  refine Alter.and ?_ (alter_forEach _ _ _ ?_)
  · refine Alter.step ?_ (alter_setFld ..) (by decide)
    exact Alter.refl _ _
  · intro a1 b2
    beta_reduce
    refine Alter.step ?_ (alter_setFld ..) (rm_high (by simp only [R.ENG_G_COUNT]; omega) rfl)
    exact Alter.refl _ _

theorem alter_engClrTime (s : State) : Alter 147573952589676412928 s (engClrTime s) := by
  unfold engClrTime
  refine Alter.and ?_ (alter_forEach _ _ _ ?_)
  · exact Alter.refl _ _
  · intro a1 b2
    beta_reduce
    refine Alter.step ?_ (alter_setFld ..) (rm_high (by simp only [R.ENG_PAIR_STAT_K]; omega) rfl)
    refine Alter.step ?_ (alter_setFld ..) (rm_high (by simp only [R.ENG_G_TIME]; omega) rfl)
    exact Alter.refl _ _

theorem alter_handPut (h : Nat) (n : Nat) (d : Nat) (v : Option Int) (stamp : Nat) (s : State) : Alter 19807135223469694380966674432 s (handPut h n d v stamp s) := by
  unfold handPut
  extract_lets +onlyGivenNames x1
  subst x1
  split
  · rename_i z2 z3
    extract_lets +onlyGivenNames x4
    have h5 : Alter 19807135223469694380966674432 s x4 := by
      unfold x4
      refine Alter.step ?_ (alter_setHand ..) rfl
      exact Alter.refl _ _
    clear_value x4
    refine Alter.step ?_ (alter_setBitAt ..) (rm_high (by simp only [R.ENG_HAND_HELD]; omega) rfl)
    assumption
  · rename_i z6
    split
    · rename_i z7 z8 z9 z10
      extract_lets +onlyGivenNames x11
      have h12 : Alter 19807135223469694380966674432 s x11 := by
        unfold x11
        refine Alter.step ?_ (alter_setHand ..) rfl
        exact Alter.refl _ _
      clear_value x11
      extract_lets +onlyGivenNames x13
      have h14 : Alter 19807135223469694380966674432 s x13 := by
        unfold x13
        refine Alter.step ?_ (alter_setBitAt ..) (rm_high (by simp only [R.ENG_HAND_HELD]; omega) rfl)
        assumption
      clear_value x13
      refine Alter.step ?_ (alter_raiseAt ..) rfl
      refine Alter.step ?_ (alter_setBit ..) (by decide)
      assumption

theorem alter_handTurn (n : Nat) (h : Nat) (s : State) : Alter 19807040776140036988062400512 s (handTurn n h s) := by
  unfold handTurn
  extract_lets +onlyGivenNames x1
  subst x1
  split
  · rename_i z2 z3 z4 z5 z6
    refine alter_ite (fun _ => ?_) (fun _ => ?_)
    · refine Alter.step ?_ (alter_setReg ..) (rm_high (by simp only [R.ENG_HAND]; omega) rfl)
      refine Alter.step ?_ (alter_setHand ..) rfl
      exact Alter.refl _ _
    · exact Alter.refl _ _
  · rename_i z7 z8
    exact Alter.refl _ _

theorem alter_obsPublish (g : Nat) (s : State) : Alter 147573952589676412928 s (obsPublish g s) := by
  unfold obsPublish
  refine Alter.and ?_ (alter_forEach _ _ _ ?_)
  · exact Alter.refl _ _
  · intro a1 b2
    beta_reduce
    extract_lets +onlyGivenNames x3
    subst x3
    extract_lets +onlyGivenNames x4
    subst x4
    extract_lets +onlyGivenNames x5
    have h6 : Alter 147573952589676412928 b2 x5 := by
      unfold x5
      refine Alter.step ?_ (alter_setFld ..) (rm_high (by simp only [R.TRX_M_OBS]; omega) rfl)
      refine Alter.step ?_ (alter_setBit ..) (rm_high (by simp only [R.TRX_M_OBS]; omega) rfl)
      refine Alter.step ?_ (alter_setFld ..) (rm_high (by simp only [R.TRX_M_OBS]; omega) rfl)
      exact Alter.refl _ _
    clear_value x5
    refine Alter.step ?_ (alter_setSfld ..) (rm_high (by simp only [R.TRX_M_OBS]; omega) rfl)
    refine Alter.step ?_ (alter_setSfld ..) (rm_high (by simp only [R.TRX_M_OBS]; omega) rfl)
    assumption

theorem alter_handsHeld (g : Nat) (n : Nat) (stamp : Nat) (s : State) : Alter 19807135223469694380966674432 s (handsHeld g n stamp s) := by
  unfold handsHeld
  refine Alter.and ?_ (alter_forEach _ _ _ ?_)
  · exact Alter.refl _ _
  · intro a1 b2
    beta_reduce
    refine Alter.step ?_ (alter_handPut ..) rfl
    exact Alter.refl _ _

end Sys2Proof.Machine
end

