-- ==== Sys2Proof/Laws/Traction.lean ====
section
/-! SUPPORT. What each operation of `Sys2Proof.Machine.Traction` may change (`Alter`), one lemma an operation; for a command,
that it answers a next state (`Ends`). -/

namespace Sys2Proof.Machine

theorem alter_setT (m : Nat) (st : Nat) (s : State) : Alter 147573952589676412928 s (setT m st s) := by
  unfold setT
  refine Alter.step ?_ (alter_setFld ..) (rm_high (by simp only [R.TRX_M_STAT]; omega) rfl)
  exact Alter.refl _ _

theorem alter_trxFlag (m : Nat) (f0 : Fld) (f1 : Fld) (s : State) : Alter 147573952589676412928 s (trxFlag m f0 f1 s) := by
  unfold trxFlag
  refine Alter.step ?_ (alter_setBit ..) (by decide)
  exact Alter.refl _ _

theorem alter_gateClose (m : Nat) (c : Nat) (quiet : Bool) (s : State) : Alter 40774744638865822787070590976 s (gateClose m c quiet s) := by
  unfold gateClose
  extract_lets +onlyGivenNames x1
  have h2 : Alter 40774744638865822787070590976 s x1 := by
    unfold x1
    refine Alter.step ?_ (alter_setBit ..) (rm_high (by simp only [R.TRX_M_STAT]; omega) rfl)
    exact Alter.refl _ _
  clear_value x1
  extract_lets +onlyGivenNames x3
  subst x3
  extract_lets +onlyGivenNames x4
  have h5 : Alter 40774744638865822787070590976 s x4 := by
    unfold x4
    refine Alter.step ?_ (alter_setConv ..) rfl
    assumption
  clear_value x4
  extract_lets +onlyGivenNames x6
  subst x6
  extract_lets +onlyGivenNames x7
  have h8 : Alter 40774744638865822787070590976 s x7 := by
    unfold x7
    refine Alter.step ?_ (alter_setTrx ..) rfl
    assumption
  clear_value x7
  refine alter_ite (fun _ => ?_) (fun _ => ?_)
  · refine Alter.step ?_ (alter_selHold ..) rfl
    assumption
  · refine alter_ite (fun _ => ?_) (fun _ => ?_)
    · assumption
    · refine Alter.step ?_ (alter_convDark ..) rfl
      assumption

theorem alter_gateOpens (m : Nat) (c : Nat) (retry : Bool) (sn : State) (s : State) : Alter 40078308919438138989535559680 s (gateOpens m c retry sn s) := by
  unfold gateOpens
  extract_lets +onlyGivenNames x1
  subst x1
  extract_lets +onlyGivenNames x2
  subst x2
  extract_lets +onlyGivenNames x3
  have h4 : Alter 40078308919438138989535559680 s x3 := by
    unfold x3
    refine Alter.step ?_ (alter_setTrx ..) rfl
    exact Alter.refl _ _
  clear_value x3
  extract_lets +onlyGivenNames x5
  have h6 : Alter 40078308919438138989535559680 s x5 := by
    unfold x5
    refine Alter.step ?_ (alter_setBit ..) (rm_high (by simp only [R.TRX_M_STAT]; omega) rfl)
    assumption
  clear_value x5
  extract_lets +onlyGivenNames x7
  subst x7
  extract_lets +onlyGivenNames x8
  have h9 : Alter 40078308919438138989535559680 s x8 := by
    unfold x8
    refine Alter.step ?_ (alter_setConv ..) rfl
    assumption
  clear_value x8
  extract_lets +onlyGivenNames x10
  have h11 : Alter 40078308919438138989535559680 s x10 := by
    unfold x10
    refine alter_ite (fun _ => ?_) (fun _ => ?_)
    · refine Alter.step ?_ (alter_selDrop ..) rfl
      assumption
    · assumption
  clear_value x10
  extract_lets +onlyGivenNames x12
  have h13 : Alter 40078308919438138989535559680 s x12 := by
    unfold x12
    refine Alter.step ?_ (alter_setBit ..) (rm_high (by simp only [R.TRX_M_STAT]; omega) rfl)
    assumption
  clear_value x12
  refine alter_ite (fun _ => ?_) (fun _ => ?_)
  · refine Alter.step ?_ (alter_setT ..) rfl
    refine alter_ite (fun _ => ?_) (fun _ => ?_)
    · assumption
    · refine Alter.step ?_ (alter_setFld ..) (rm_high (by simp only [R.TRX_M_STAT]; omega) rfl)
      assumption
  · refine Alter.step ?_ (alter_setT ..) rfl
    assumption

theorem alter_posLost (m : Nat) (c : Nat) (s : State) : Alter 40774744638865822787070590976 s (posLost m c s) := by
  unfold posLost
  extract_lets +onlyGivenNames x1
  have h2 : Alter 40774744638865822787070590976 s x1 := by
    unfold x1
    refine Alter.step ?_ (alter_trxFlag ..) rfl
    exact Alter.refl _ _
  clear_value x1
  refine Alter.step ?_ (alter_setT ..) rfl
  refine Alter.step ?_ (alter_gateClose ..) rfl
  refine Alter.step ?_ (alter_raise ..) rfl
  assumption

theorem alter_trxPos (m : Nat) (c : Nat) (sn : State) (s : State) : Alter 40774744638865822787070590976 s (trxPos m c sn s) := by
  unfold trxPos
  extract_lets +onlyGivenNames x1
  subst x1
  extract_lets +onlyGivenNames x2
  subst x2
  extract_lets +onlyGivenNames x3
  subst x3
  extract_lets +onlyGivenNames x4
  subst x4
  extract_lets +onlyGivenNames x5
  have h6 : Alter 40774744638865822787070590976 s x5 := by
    unfold x5
    refine Alter.step ?_ (alter_setTrx ..) rfl
    exact Alter.refl _ _
  clear_value x5
  refine alter_ite (fun _ => ?_) (fun _ => ?_)
  · assumption
  · refine alter_ite (fun _ => ?_) (fun _ => ?_)
    · refine alter_ite (fun _ => ?_) (fun _ => ?_)
      · refine Alter.step ?_ (alter_posLost ..) rfl
        assumption
      · assumption
    · refine alter_ite (fun _ => ?_) (fun _ => ?_)
      · assumption
      · refine alter_ite (fun _ => ?_) (fun _ => ?_)
        · extract_lets +onlyGivenNames x7
          subst x7
          extract_lets +onlyGivenNames x8
          have h9 : Alter 40774744638865822787070590976 s x8 := by
            unfold x8
            refine Alter.step ?_ (alter_setTrx ..) rfl
            assumption
          clear_value x8
          refine Alter.step ?_ (alter_raise ..) rfl
          refine Alter.step ?_ (alter_setBit ..) (rm_high (by simp only [R.TRX_M_STAT]; omega) rfl)
          assumption
        · refine Alter.step ?_ (alter_posLost ..) rfl
          assumption

theorem alter_sensorReturn (m : Nat) (s : State) : Alter 39614081367812633239029284864 s (sensorReturn m s) := by
  unfold sensorReturn
  split
  · rename_i z1 z2 z3
    extract_lets +onlyGivenNames x4
    have h5 : Alter 39614081367812633239029284864 s x4 := by
      unfold x4
      refine Alter.step ?_ (alter_until ..) rfl
      exact Alter.refl _ _
    clear_value x4
    refine Alter.step ?_ (alter_setTrx ..) rfl
    assumption
  · rename_i z6 z7
    exact Alter.refl _ _

theorem alter_execSensorReturn (e : Nat) (m : Fin 2) (s : State) : Ends 39614081367812633239029284864 s (execSensorReturn e m s) := by
  unfold execSensorReturn
  refine ends_next ?_
  refine Alter.step ?_ (alter_sensorReturn ..) rfl
  refine Alter.step ?_ (alter_tick ..) rfl
  exact Alter.refl _ _

theorem alter_trxStart (m : Nat) (c : Nat) (sn : State) (s : State) : Alter 40774744638865822787070590976 s (trxStart m c sn s) := by
  unfold trxStart
  refine alter_ite (fun _ => ?_) (fun _ => ?_)
  · exact Alter.refl _ _
  · extract_lets +onlyGivenNames x1
    subst x1
    extract_lets +onlyGivenNames x2
    subst x2
    refine alter_ite (fun _ => ?_) (fun _ => ?_)
    · refine Alter.step ?_ (alter_setTrx ..) rfl
      exact Alter.refl _ _
    · refine alter_ite (fun _ => ?_) (fun _ => ?_)
      · refine Alter.step ?_ (alter_setT ..) rfl
        exact Alter.refl _ _
      · refine alter_ite (fun _ => ?_) (fun _ => ?_)
        · extract_lets +onlyGivenNames x3
          have h4 : Alter 40774744638865822787070590976 s x3 := by
            unfold x3
            refine Alter.step ?_ (alter_gateClose ..) rfl
            exact Alter.refl _ _
          clear_value x3
          refine alter_ite (fun _ => ?_) (fun _ => ?_)
          · refine Alter.step ?_ (alter_setT ..) rfl
            refine Alter.step ?_ (alter_setTrx ..) rfl
            assumption
          · extract_lets +onlyGivenNames x5
            have h6 : Alter 40774744638865822787070590976 s x5 := by
              unfold x5
              refine Alter.step ?_ (alter_trxFlag ..) rfl
              assumption
            clear_value x5
            refine Alter.step ?_ (alter_raise ..) rfl
            refine Alter.step ?_ (alter_setT ..) rfl
            assumption
        · refine Alter.step ?_ (alter_setTrx ..) rfl
          exact Alter.refl _ _

theorem alter_startRetry (m : Nat) (s : State) : Alter 40078403477448260824697143296 s (startRetry m s) := by
  unfold startRetry
  split
  · rename_i z1 z2
    exact Alter.refl _ _
  · rename_i z3 z4 z5
    refine alter_ite (fun _ => ?_) (fun _ => ?_)
    · exact Alter.refl _ _
    · extract_lets +onlyGivenNames x6
      have h7 : Alter 40078403477448260824697143296 s x6 := by
        unfold x6
        refine Alter.step ?_ (alter_until ..) rfl
        exact Alter.refl _ _
      clear_value x6
      extract_lets +onlyGivenNames x8
      have h9 : Alter 40078403477448260824697143296 s x8 := by
        unfold x8
        refine Alter.step ?_ (alter_incFld ..) (rm_high (by simp only [R.TRX_M_STAT]; omega) rfl)
        assumption
      clear_value x8
      extract_lets +onlyGivenNames x10
      have h11 : Alter 40078403477448260824697143296 s x10 := by
        unfold x10
        refine Alter.step ?_ (alter_raise ..) rfl
        refine Alter.step ?_ (alter_setT ..) rfl
        assumption
      clear_value x10
      refine alter_ite (fun _ => ?_) (fun _ => ?_)
      · refine Alter.step ?_ (alter_gateOpens ..) rfl
        assumption
      · assumption

theorem alter_execStartRetry (e : Nat) (m : Fin 2) (s : State) : Ends 40078403477448260824697143296 s (execStartRetry e m s) := by
  unfold execStartRetry
  refine ends_next ?_
  refine Alter.step ?_ (alter_startRetry ..) rfl
  refine Alter.step ?_ (alter_tick ..) rfl
  exact Alter.refl _ _

theorem alter_limpEval (m : Nat) (s : State) : Alter 94594903609982580686848 s (limpEval m s) := by
  unfold limpEval
  extract_lets +onlyGivenNames x1
  subst x1
  extract_lets +onlyGivenNames x2
  subst x2
  extract_lets +onlyGivenNames x3
  have h4 : Alter 94594903609982580686848 s x3 := by
    unfold x3
    refine Alter.step ?_ (alter_setBit ..) (rm_high (by simp only [R.TRX_M_STAT]; omega) rfl)
    exact Alter.refl _ _
  clear_value x3
  refine alter_ite (fun _ => ?_) (fun _ => ?_)
  · refine Alter.step ?_ (alter_raise ..) rfl
    refine Alter.step ?_ (alter_trxFlag ..) rfl
    assumption
  · assumption

theorem alter_sbEnter (m : Nat) (s : State) : Alter 39614081404706121386448388096 s (sbEnter m s) := by
  unfold sbEnter
  refine Alter.step ?_ (alter_setT ..) rfl
  refine Alter.step ?_ (alter_setTrx ..) rfl
  exact Alter.refl _ _

theorem alter_sbLeave (m : Nat) (s : State) : Alter 39614081404706121386448388096 s (sbLeave m s) := by
  unfold sbLeave
  refine Alter.step ?_ (alter_setT ..) rfl
  refine Alter.step ?_ (alter_setTrx ..) rfl
  exact Alter.refl _ _

theorem alter_trxShort (m : Nat) (w : Int) (s : State) : Alter 39614081404706121386448388096 s (trxShort m w s) := by
  unfold trxShort
  extract_lets +onlyGivenNames x1
  subst x1
  refine alter_ite (fun _ => ?_) (fun _ => ?_)
  · refine Alter.step ?_ (alter_setTrx ..) rfl
    exact Alter.refl _ _
  · extract_lets +onlyGivenNames x2
    subst x2
    extract_lets +onlyGivenNames x3
    subst x3
    extract_lets +onlyGivenNames x4
    subst x4
    extract_lets +onlyGivenNames x5
    subst x5
    extract_lets +onlyGivenNames x6
    subst x6
    extract_lets +onlyGivenNames x7
    have h8 : Alter 39614081404706121386448388096 s x7 := by
      unfold x7
      refine Alter.step ?_ (alter_setTrx ..) rfl
      exact Alter.refl _ _
    clear_value x7
    refine alter_ite (fun _ => ?_) (fun _ => ?_)
    · refine alter_ite (fun _ => ?_) (fun _ => ?_)
      · refine Alter.step ?_ (alter_sbEnter ..) rfl
        assumption
      · assumption
    · refine alter_ite (fun _ => ?_) (fun _ => ?_)
      · refine Alter.step ?_ (alter_sbLeave ..) rfl
        assumption
      · assumption

theorem alter_shortBrake (m : Nat) (s : State) : Alter 39614175962716243221609971712 s (shortBrake m s) := by
  unfold shortBrake
  extract_lets +onlyGivenNames x1
  subst x1
  refine alter_ite (fun _ => ?_) (fun _ => ?_)
  · split
    · rename_i z2 z3 z4
      refine Alter.step ?_ (alter_raise ..) rfl
      refine Alter.step ?_ (alter_sbEnter ..) rfl
      refine Alter.step ?_ (alter_until ..) rfl
      exact Alter.refl _ _
    · rename_i z5 z6
      exact Alter.refl _ _
  · refine alter_ite (fun _ => ?_) (fun _ => ?_)
    · split
      · rename_i z7 z8 z9
        refine Alter.step ?_ (alter_raise ..) rfl
        refine Alter.step ?_ (alter_sbLeave ..) rfl
        refine Alter.step ?_ (alter_until ..) rfl
        exact Alter.refl _ _
      · rename_i z10 z11
        exact Alter.refl _ _
    · exact Alter.refl _ _

theorem alter_execShortBrake (e : Nat) (m : Fin 2) (s : State) : Ends 39614175962716243221609971712 s (execShortBrake e m s) := by
  unfold execShortBrake
  refine ends_next ?_
  refine Alter.step ?_ (alter_shortBrake ..) rfl
  refine Alter.step ?_ (alter_tick ..) rfl
  exact Alter.refl _ _

theorem alter_trxStop (m : Nat) (c : Nat) (s : State) : Alter 40774744638865822787070590976 s (trxStop m c s) := by
  unfold trxStop
  extract_lets +onlyGivenNames x1
  subst x1
  extract_lets +onlyGivenNames x2
  subst x2
  extract_lets +onlyGivenNames x3
  subst x3
  extract_lets +onlyGivenNames x4
  subst x4
  extract_lets +onlyGivenNames x5
  subst x5
  refine alter_ite (fun _ => ?_) (fun _ => ?_)
  · extract_lets +onlyGivenNames x6
    have h7 : Alter 40774744638865822787070590976 s x6 := by
      unfold x6
      refine alter_ite (fun _ => ?_) (fun _ => ?_)
      · refine Alter.step ?_ (alter_gateClose ..) rfl
        exact Alter.refl _ _
      · exact Alter.refl _ _
    clear_value x6
    refine alter_ite (fun _ => ?_) (fun _ => ?_)
    · assumption
    · refine Alter.step ?_ (alter_setT ..) rfl
      assumption
  · refine alter_ite (fun _ => ?_) (fun _ => ?_)
    · refine alter_ite (fun _ => ?_) (fun _ => ?_)
      · exact Alter.refl _ _
      · refine Alter.step ?_ (alter_setT ..) rfl
        exact Alter.refl _ _
    · refine alter_ite (fun _ => ?_) (fun _ => ?_)
      · refine Alter.step ?_ (alter_setT ..) rfl
        refine Alter.step ?_ (alter_gateClose ..) rfl
        exact Alter.refl _ _
      · extract_lets +onlyGivenNames x8
        subst x8
        extract_lets +onlyGivenNames x9
        have h10 : Alter 40774744638865822787070590976 s x9 := by
          unfold x9
          refine alter_ite (fun _ => ?_) (fun _ => ?_)
          · refine Alter.step ?_ (alter_setT ..) rfl
            refine Alter.step ?_ (alter_setTrx ..) rfl
            exact Alter.refl _ _
          · refine alter_ite (fun _ => ?_) (fun _ => ?_)
            · refine Alter.step ?_ (alter_setT ..) rfl
              refine Alter.step ?_ (alter_setTrx ..) rfl
              exact Alter.refl _ _
            · exact Alter.refl _ _
        clear_value x9
        extract_lets +onlyGivenNames x11
        subst x11
        refine alter_ite (fun _ => ?_) (fun _ => ?_)
        · refine alter_ite (fun _ => ?_) (fun _ => ?_)
          · refine alter_ite (fun _ => ?_) (fun _ => ?_)
            · refine Alter.step ?_ (alter_setT ..) rfl
              refine Alter.step ?_ (alter_gateClose ..) rfl
              assumption
            · refine alter_ite (fun _ => ?_) (fun _ => ?_)
              · refine Alter.step ?_ (alter_setT ..) rfl
                assumption
              · refine Alter.step ?_ (alter_setT ..) rfl
                refine Alter.step ?_ (alter_gateClose ..) rfl
                assumption
          · assumption
        · refine alter_ite (fun _ => ?_) (fun _ => ?_)
          · refine alter_ite (fun _ => ?_) (fun _ => ?_)
            · refine Alter.step ?_ (alter_setT ..) rfl
              assumption
            · refine alter_ite (fun _ => ?_) (fun _ => ?_)
              · assumption
              · refine Alter.step ?_ (alter_gateClose ..) rfl
                assumption
          · assumption

theorem alter_trxSlots (m : Nat) (sn : State) (s : State) : Alter 19807040628566084398385987584 s (trxSlots m sn s) := by
  unfold trxSlots
  extract_lets +onlyGivenNames x1
  subst x1
  extract_lets +onlyGivenNames x2
  subst x2
  extract_lets +onlyGivenNames x3
  subst x3
  extract_lets +onlyGivenNames x4
  have h5 : Alter 19807040628566084398385987584 s x4 := by
    unfold x4
    refine Alter.step ?_ (alter_setSp ..) rfl
    exact Alter.refl _ _
  clear_value x4
  extract_lets +onlyGivenNames x6
  have h7 : Alter 19807040628566084398385987584 s x6 := by
    unfold x6
    refine Alter.step ?_ (alter_setSp ..) rfl
    assumption
  clear_value x6
  extract_lets +onlyGivenNames x8
  have h9 : Alter 19807040628566084398385987584 s x8 := by
    unfold x8
    refine Alter.step ?_ (alter_setSp ..) rfl
    assumption
  clear_value x8
  extract_lets +onlyGivenNames x10
  have h11 : Alter 19807040628566084398385987584 s x10 := by
    unfold x10
    refine Alter.step ?_ (alter_setSp ..) rfl
    assumption
  clear_value x10
  refine Alter.step ?_ (alter_setSp ..) rfl
  assumption

theorem alter_trxSup (m : Nat) (sn : State) (s : State) : Alter 60581785267431907185456578560 s (trxSup m sn s) := by
  unfold trxSup
  extract_lets +onlyGivenNames x1
  subst x1
  split
  · rename_i z2 z3
    refine Alter.step ?_ (alter_setBit ..) (rm_high (by simp only [R.TRX_M_STAT]; omega) rfl)
    exact Alter.refl _ _
  · rename_i z4 z5 z6
    extract_lets +onlyGivenNames x7
    subst x7
    extract_lets +onlyGivenNames x8
    subst x8
    extract_lets +onlyGivenNames x9
    have h10 : Alter 60581785267431907185456578560 s x9 := by
      unfold x9
      refine Alter.step ?_ (alter_setBit ..) (rm_high (by simp only [R.TRX_M_STAT]; omega) rfl)
      refine Alter.step ?_ (alter_setBit ..) (rm_high (by simp only [R.TRX_M_STAT]; omega) rfl)
      exact Alter.refl _ _
    clear_value x9
    extract_lets +onlyGivenNames x11
    have h12 : Alter 60581785267431907185456578560 s x11 := by
      unfold x11
      refine Alter.step ?_ (alter_setBit ..) (rm_high (by simp only [R.TRX_M_STAT]; omega) rfl)
      refine Alter.step ?_ (alter_setBit ..) (rm_high (by simp only [R.TRX_M_STAT]; omega) rfl)
      assumption
    clear_value x11
    extract_lets +onlyGivenNames x13
    have h14 : Alter 60581785267431907185456578560 s x13 := by
      unfold x13
      refine Alter.step ?_ (alter_limpEval ..) rfl
      assumption
    clear_value x13
    extract_lets +onlyGivenNames x15
    have h16 : Alter 60581785267431907185456578560 s x15 := by
      unfold x15
      refine Alter.step ?_ (alter_trxStop ..) rfl
      assumption
    clear_value x15
    extract_lets +onlyGivenNames x17
    have h18 : Alter 60581785267431907185456578560 s x17 := by
      unfold x17
      refine Alter.step ?_ (alter_trxPos ..) rfl
      assumption
    clear_value x17
    extract_lets +onlyGivenNames x19
    have h20 : Alter 60581785267431907185456578560 s x19 := by
      unfold x19
      refine Alter.step ?_ (alter_trxStart ..) rfl
      assumption
    clear_value x19
    extract_lets +onlyGivenNames x21
    have h22 : Alter 60581785267431907185456578560 s x21 := by
      unfold x21
      refine alter_ite (fun _ => ?_) (fun _ => ?_)
      · refine Alter.step ?_ (alter_gateOpens ..) rfl
        assumption
      · assumption
    clear_value x21
    extract_lets +onlyGivenNames x23
    subst x23
    extract_lets +onlyGivenNames x24
    have h25 : Alter 60581785267431907185456578560 s x24 := by
      unfold x24
      refine Alter.step ?_ (alter_trxShort ..) rfl
      assumption
    clear_value x24
    extract_lets +onlyGivenNames x26
    have h27 : Alter 60581785267431907185456578560 s x26 := by
      unfold x26
      refine alter_ite (fun _ => ?_) (fun _ => ?_)
      · assumption
      · refine Alter.step ?_ (alter_raise ..) rfl
        assumption
    clear_value x26
    extract_lets +onlyGivenNames x28
    subst x28
    extract_lets +onlyGivenNames x29
    subst x29
    extract_lets +onlyGivenNames x30
    have h31 : Alter 60581785267431907185456578560 s x30 := by
      unfold x30
      refine Alter.step ?_ (alter_setTrx ..) rfl
      assumption
    clear_value x30
    extract_lets +onlyGivenNames x32
    subst x32
    extract_lets +onlyGivenNames x33
    have h34 : Alter 60581785267431907185456578560 s x33 := by
      unfold x33
      refine alter_ite (fun _ => ?_) (fun _ => ?_)
      · refine Alter.step ?_ (alter_setBit ..) (rm_high (by simp only [R.TRX_M_STAT]; omega) rfl)
        refine Alter.step ?_ (alter_setTrx ..) rfl
        assumption
      · assumption
    clear_value x33
    extract_lets +onlyGivenNames x35
    have h36 : Alter 60581785267431907185456578560 s x35 := by
      unfold x35
      refine alter_ite (fun _ => ?_) (fun _ => ?_)
      · refine Alter.step ?_ (alter_setBit ..) (by decide)
        assumption
      · assumption
    clear_value x35
    refine Alter.step ?_ (alter_trxSlots ..) rfl
    refine Alter.step ?_ (alter_setReg ..) (rm_high (by simp only [R.TRX_M_TCMD]; omega) rfl)
    assumption

theorem alter_hostEnables (c : Nat) (s : State) : Alter 464227514732017603087171584 s (hostEnables c s) := by
  unfold hostEnables
  extract_lets +onlyGivenNames x1
  subst x1
  extract_lets +onlyGivenNames x2
  have h3 : Alter 464227514732017603087171584 s x2 := by
    unfold x2
    refine alter_ite (fun _ => ?_) (fun _ => ?_)
    · refine Alter.step ?_ (alter_setConv ..) rfl
      exact Alter.refl _ _
    · exact Alter.refl _ _
  clear_value x2
  split
  · rename_i z4 z5 z6
    refine alter_ite (fun _ => ?_) (fun _ => ?_)
    · refine Alter.step ?_ (alter_selDrop ..) rfl
      assumption
    · assumption
  · rename_i z7 z8
    assumption

theorem alter_holdEnable (c : Nat) (what : Nat) (r : Req) (s : State) : Alter 99317270095051249156096 s (holdEnable c what r s) := by
  unfold holdEnable
  extract_lets +onlyGivenNames x1
  have h2 : Alter 99317270095051249156096 s x1 := by
    unfold x1
    split
    · rename_i z3 z4 z5
      refine Alter.step ?_ (alter_dropHeld ..) rfl
      exact Alter.refl _ _
    · rename_i z6 z7
      exact Alter.refl _ _
  clear_value x1
  refine Alter.step ?_ (alter_showHeld ..) rfl
  refine Alter.step ?_ (alter_heldFn _ _) rfl
  assumption

theorem alter_machEnable (r : Req) (m : Nat) (s : State) : Alter 540902526413117559636691517440 s (machEnable r m s).2 := by
  unfold machEnable
  split
  · rename_i z1 z2
    dsimp only
    exact Alter.refl _ _
  · rename_i z3 z4 z5
    extract_lets +onlyGivenNames x6
    subst x6
    extract_lets +onlyGivenNames x7
    subst x7
    refine alter_ite_snd (fun _ => ?_) (fun _ => ?_)
    · dsimp only
      exact Alter.refl _ _
    · refine alter_ite_snd (fun _ => ?_) (fun _ => ?_)
      · dsimp only
        refine Alter.step ?_ (alter_holdEnable ..) rfl
        exact Alter.refl _ _
      · extract_lets +onlyGivenNames x8
        subst x8
        extract_lets +onlyGivenNames x9
        have h10 : Alter 540902526413117559636691517440 s x9 := by
          unfold x9
          refine alter_ite (fun _ => ?_) (fun _ => ?_)
          · refine Alter.step ?_ (alter_releaseLatches ..) rfl
            exact Alter.refl _ _
          · exact Alter.refl _ _
        clear_value x9
        extract_lets +onlyGivenNames x11
        have h12 : Alter 540902526413117559636691517440 s x11 := by
          unfold x11
          refine Alter.step ?_ (alter_hostEnables ..) rfl
          assumption
        clear_value x11
        extract_lets +onlyGivenNames x13
        have h14 : Alter 540902526413117559636691517440 s x13 := by
          unfold x13
          refine Alter.step ?_ (alter_setBit ..) (rm_high (by simp only [R.TRX_M_CTRL]; omega) rfl)
          assumption
        clear_value x13
        dsimp only
        refine alter_ite (fun _ => ?_) (fun _ => ?_)
        · assumption
        · refine Alter.step ?_ (alter_setTrx ..) rfl
          assumption

theorem alter_machDisable (m : Nat) (s : State) : Alter 147573952589676412928 s (machDisable m s) := by
  unfold machDisable
  refine Alter.step ?_ (alter_setBit ..) (rm_high (by simp only [R.TRX_M_CTRL]; omega) rfl)
  exact Alter.refl _ _

theorem alter_treqWrite (m : Nat) (v : Reg) (s : State) : Alter 39614175852035778779352662016 s (treqWrite m v s) := by
  unfold treqWrite
  extract_lets +onlyGivenNames x1
  have h2 : Alter 39614175852035778779352662016 s x1 := by
    unfold x1
    refine Alter.step ?_ (alter_setBit ..) (rm_high (by simp only [R.TRX_M_STAT]; omega) rfl)
    refine Alter.step ?_ (alter_setReg ..) (rm_high (by simp only [R.TRX_M_TREQ]; omega) rfl)
    exact Alter.refl _ _
  clear_value x1
  refine Alter.step ?_ (alter_limpEval ..) rfl
  refine Alter.step ?_ (alter_setTrx ..) rfl
  assumption

theorem alter_treqLost (m : Nat) (s : State) : Alter 39614175962716243221609971712 s (treqLost m s) := by
  unfold treqLost
  extract_lets +onlyGivenNames x1
  subst x1
  refine alter_ite (fun _ => ?_) (fun _ => ?_)
  · exact Alter.refl _ _
  · extract_lets +onlyGivenNames x2
    have h3 : Alter 39614175962716243221609971712 s x2 := by
      unfold x2
      refine Alter.step ?_ (alter_until ..) rfl
      exact Alter.refl _ _
    clear_value x2
    extract_lets +onlyGivenNames x4
    have h5 : Alter 39614175962716243221609971712 s x4 := by
      unfold x4
      refine Alter.step ?_ (alter_setBit ..) (rm_high (by simp only [R.TRX_M_STAT]; omega) rfl)
      assumption
    clear_value x4
    extract_lets +onlyGivenNames x6
    have h7 : Alter 39614175962716243221609971712 s x6 := by
      unfold x6
      refine Alter.step ?_ (alter_raise ..) rfl
      refine Alter.step ?_ (alter_trxFlag ..) rfl
      assumption
    clear_value x6
    refine alter_ite (fun _ => ?_) (fun _ => ?_)
    · refine Alter.step ?_ (alter_limpEval ..) rfl
      refine Alter.step ?_ (alter_setTrx ..) rfl
      assumption
    · assumption

theorem alter_execTreqLost (e : Nat) (m : Fin 2) (s : State) : Ends 39614175962716243221609971712 s (execTreqLost e m s) := by
  unfold execTreqLost
  refine ends_next ?_
  refine Alter.step ?_ (alter_treqLost ..) rfl
  refine Alter.step ?_ (alter_tick ..) rfl
  exact Alter.refl _ _

theorem alter_keTake (m : Nat) (s : State) : Alter 39614081257132168796771975168 s (keTake m s) := by
  unfold keTake
  extract_lets +onlyGivenNames x1
  subst x1
  extract_lets +onlyGivenNames x2
  subst x2
  extract_lets +onlyGivenNames x3
  subst x3
  refine Alter.step ?_ (alter_setTrx ..) rfl
  exact Alter.refl _ _

theorem alter_demagSet (m : Nat) (s : State) : Alter 39614175852035778779352662016 s (demagSet m s) := by
  unfold demagSet
  extract_lets +onlyGivenNames x1
  have h2 : Alter 39614175852035778779352662016 s x1 := by
    unfold x1
    refine Alter.step ?_ (alter_setBit ..) (rm_high (by simp only [R.TRX_M_KE_STAT]; omega) rfl)
    exact Alter.refl _ _
  clear_value x1
  extract_lets +onlyGivenNames x3
  subst x3
  extract_lets +onlyGivenNames x4
  subst x4
  extract_lets +onlyGivenNames x5
  have h6 : Alter 39614175852035778779352662016 s x5 := by
    unfold x5
    refine alter_ite (fun _ => ?_) (fun _ => ?_)
    · refine Alter.step ?_ (alter_trx _ _) rfl
      assumption
    · assumption
  clear_value x5
  refine Alter.step ?_ (alter_raise ..) rfl
  refine Alter.step ?_ (alter_trxFlag ..) rfl
  assumption

theorem alter_keCount (m : Nat) (sum : Int) (cnt : Nat) (s : State) : Alter 39614175852035778779352662016 s (keCount m sum cnt s) := by
  unfold keCount
  extract_lets +onlyGivenNames x1
  subst x1
  extract_lets +onlyGivenNames x2
  subst x2
  extract_lets +onlyGivenNames x3
  subst x3
  extract_lets +onlyGivenNames x4
  subst x4
  extract_lets +onlyGivenNames x5
  subst x5
  extract_lets +onlyGivenNames x6
  subst x6
  extract_lets +onlyGivenNames x7
  subst x7
  extract_lets +onlyGivenNames x8
  subst x8
  extract_lets +onlyGivenNames x9
  subst x9
  extract_lets +onlyGivenNames x10
  subst x10
  extract_lets +onlyGivenNames x11
  subst x11
  extract_lets +onlyGivenNames x12
  have h13 : Alter 39614175852035778779352662016 s x12 := by
    unfold x12
    refine Alter.step ?_ (alter_setTrx ..) rfl
    exact Alter.refl _ _
  clear_value x12
  extract_lets +onlyGivenNames x14
  have h15 : Alter 39614175852035778779352662016 s x14 := by
    unfold x14
    refine Alter.step ?_ (alter_setBit ..) (rm_high (by simp only [R.TRX_M_KE_STAT]; omega) rfl)
    refine Alter.step ?_ (alter_setFld ..) (rm_high (by simp only [R.TRX_M_KE_STAT]; omega) rfl)
    assumption
  clear_value x14
  extract_lets +onlyGivenNames x16
  have h17 : Alter 39614175852035778779352662016 s x16 := by
    unfold x16
    refine Alter.step ?_ (alter_trxFlag ..) rfl
    refine Alter.step ?_ (alter_setBit ..) (rm_high (by simp only [R.TRX_M_KE_STAT]; omega) rfl)
    assumption
  clear_value x16
  extract_lets +onlyGivenNames x18
  have h19 : Alter 39614175852035778779352662016 s x18 := by
    unfold x18
    refine alter_ite (fun _ => ?_) (fun _ => ?_)
    · refine Alter.step ?_ (alter_raise ..) rfl
      assumption
    · refine alter_ite (fun _ => ?_) (fun _ => ?_)
      · refine Alter.step ?_ (alter_raise ..) rfl
        refine Alter.step ?_ (alter_setBit ..) (rm_high (by simp only [R.TRX_M_KE_STAT]; omega) rfl)
        assumption
      · assumption
  clear_value x18
  extract_lets +onlyGivenNames x20
  subst x20
  extract_lets +onlyGivenNames x21
  have h22 : Alter 39614175852035778779352662016 s x21 := by
    unfold x21
    refine Alter.step ?_ (alter_setBit ..) (rm_high (by simp only [R.TRX_M_STAT]; omega) rfl)
    refine Alter.step ?_ (alter_setFld ..) (rm_high (by simp only [R.TRX_M_STAT]; omega) rfl)
    assumption
  clear_value x21
  refine alter_ite (fun _ => ?_) (fun _ => ?_)
  · refine Alter.step ?_ (alter_demagSet ..) rfl
    assumption
  · assumption

theorem alter_keWindow (m : Nat) (s : State) : Alter 39614175962716243221609971712 s (keWindow m s) := by
  unfold keWindow
  extract_lets +onlyGivenNames x1
  have h2 : Alter 39614175962716243221609971712 s x1 := by
    unfold x1
    refine Alter.step ?_ (alter_until ..) rfl
    exact Alter.refl _ _
  clear_value x1
  extract_lets +onlyGivenNames x3
  subst x3
  extract_lets +onlyGivenNames x4
  have h5 : Alter 39614175962716243221609971712 s x4 := by
    unfold x4
    refine Alter.step ?_ (alter_setTrx ..) rfl
    assumption
  clear_value x4
  refine alter_ite (fun _ => ?_) (fun _ => ?_)
  · assumption
  · refine alter_ite (fun _ => ?_) (fun _ => ?_)
    · refine Alter.step ?_ (alter_keCount ..) rfl
      assumption
    · refine Alter.step ?_ (alter_setBit ..) (rm_high (by simp only [R.TRX_M_KE_STAT]; omega) rfl)
      assumption

theorem alter_execKeWindow (e : Nat) (m : Fin 2) (s : State) : Ends 39614175962716243221609971712 s (execKeWindow e m s) := by
  unfold execKeWindow
  refine ends_next ?_
  refine Alter.step ?_ (alter_keWindow ..) rfl
  refine Alter.step ?_ (alter_tick ..) rfl
  exact Alter.refl _ _

theorem alter_demagClear (m : Nat) (s : State) : Alter 39614081404706121386448388096 s (demagClear m s) := by
  unfold demagClear
  extract_lets +onlyGivenNames x1
  have h2 : Alter 39614081404706121386448388096 s x1 := by
    unfold x1
    refine Alter.step ?_ (alter_setBit ..) (rm_high (by simp only [R.TRX_M_KE_STAT]; omega) rfl)
    exact Alter.refl _ _
  clear_value x1
  refine Alter.step ?_ (alter_trx _ _) rfl
  assumption

theorem alter_demagRestore (s : State) : Alter 147573952589676412928 s (demagRestore s) := by
  unfold demagRestore
  refine Alter.and ?_ (alter_forEach _ _ _ ?_)
  · exact Alter.refl _ _
  · intro a1 b2
    beta_reduce
    refine Alter.step ?_ (alter_setBit ..) (rm_high (by simp only [R.TRX_M_KE_STAT]; omega) rfl)
    exact Alter.refl _ _

theorem alter_setMapOk (m : Nat) (b : Bool) (s : State) : Alter 147573952589676412928 s (setMapOk m b s) := by
  unfold setMapOk
  refine Alter.step ?_ (alter_setBit ..) (by decide)
  exact Alter.refl _ _

theorem alter_mapStep (s : State) : Alter 147573952589676412928 s (mapStep s) := by
  unfold mapStep
  refine alter_ite (fun _ => ?_) (fun _ => ?_)
  · refine Alter.step ?_ (alter_setFld ..) (by decide)
    exact Alter.refl _ _
  · exact Alter.refl _ _

theorem alter_mapWrite (v : Reg) (s : State) : Alter 39614081404706121386448388096 s (mapWrite v s) := by
  unfold mapWrite
  split
  · rename_i z1 z2 z3 z4
    extract_lets +onlyGivenNames x5
    subst x5
    extract_lets +onlyGivenNames x6
    have h7 : Alter 39614081404706121386448388096 s x6 := by
      unfold x6
      refine Alter.step ?_ (alter_trx _ _) rfl
      exact Alter.refl _ _
    clear_value x6
    refine Alter.step ?_ (alter_mapStep ..) rfl
    refine Alter.step ?_ (alter_setMapOk ..) rfl
    assumption

theorem alter_mapRead (s : State) : Alter 147573952589676412928 s (mapRead s).2 := by
  unfold mapRead
  split
  · rename_i z1 z2 z3 z4
    dsimp only
    refine Alter.step ?_ (alter_mapStep ..) rfl
    exact Alter.refl _ _

theorem alter_mapValidate (s : State) : Alter 39614081404706121386448388096 s (mapValidate s) := by
  unfold mapValidate
  extract_lets +onlyGivenNames x1
  subst x1
  extract_lets +onlyGivenNames x2
  subst x2
  extract_lets +onlyGivenNames x3
  have h4 : Alter 39614081404706121386448388096 s x3 := by
    unfold x3
    refine Alter.step ?_ (alter_trx _ _) rfl
    exact Alter.refl _ _
  clear_value x3
  refine Alter.step ?_ (alter_setBit ..) (by decide)
  assumption

theorem alter_mapValidated (s : State) : Alter 39614175852035778779352662016 s (mapValidated s) := by
  unfold mapValidated
  split
  · rename_i z1 z2
    exact Alter.refl _ _
  · rename_i z3 z4 z5 z6
    extract_lets +onlyGivenNames x7
    subst x7
    extract_lets +onlyGivenNames x8
    have h9 : Alter 39614175852035778779352662016 s x8 := by
      unfold x8
      refine Alter.step ?_ (alter_trx _ _) rfl
      exact Alter.refl _ _
    clear_value x8
    extract_lets +onlyGivenNames x10
    have h11 : Alter 39614175852035778779352662016 s x10 := by
      unfold x10
      refine Alter.step ?_ (alter_setBit ..) (by decide)
      assumption
    clear_value x10
    refine alter_ite (fun _ => ?_) (fun _ => ?_)
    · extract_lets +onlyGivenNames x12
      subst x12
      extract_lets +onlyGivenNames x13
      subst x13
      extract_lets +onlyGivenNames x14
      have h15 : Alter 39614175852035778779352662016 s x14 := by
        unfold x14
        refine Alter.step ?_ (alter_trx _ _) rfl
        assumption
      clear_value x14
      extract_lets +onlyGivenNames x16
      have h17 : Alter 39614175852035778779352662016 s x16 := by
        unfold x16
        refine Alter.step ?_ (alter_setBit ..) (by decide)
        assumption
      clear_value x16
      refine Alter.step ?_ (alter_raise ..) rfl
      refine Alter.step ?_ (alter_setMapOk ..) rfl
      assumption
    · refine Alter.step ?_ (alter_raise ..) rfl
      refine Alter.step ?_ (alter_setMapOk ..) rfl
      assumption

theorem alter_execMapValidateDone (e : Nat) (s : State) : Ends 39614175962716243221609971712 s (execMapValidateDone e s) := by
  unfold execMapValidateDone
  refine ends_next ?_
  refine Alter.step ?_ (alter_mapValidated ..) rfl
  refine Alter.step ?_ (alter_tick ..) rfl
  exact Alter.refl _ _

theorem alter_mapReload (m : Nat) (s : State) : Alter 39614175852035778779352662016 s (mapReload m s) := by
  unfold mapReload
  split
  · rename_i z1 z2
    exact Alter.refl _ _
  · rename_i z3 z4 z5 z6
    extract_lets +onlyGivenNames x7
    subst x7
    extract_lets +onlyGivenNames x8
    have h9 : Alter 39614175852035778779352662016 s x8 := by
      unfold x8
      refine Alter.step ?_ (alter_trx _ _) rfl
      exact Alter.refl _ _
    clear_value x8
    extract_lets +onlyGivenNames x10
    have h11 : Alter 39614175852035778779352662016 s x10 := by
      unfold x10
      refine Alter.step ?_ (alter_setReg ..) (rm_high (by simp only [R.TRX_M_AXW]; omega) rfl)
      refine Alter.step ?_ (alter_setReg ..) (rm_high (by simp only [R.TRX_M_AXT]; omega) rfl)
      assumption
    clear_value x10
    extract_lets +onlyGivenNames x12
    have h13 : Alter 39614175852035778779352662016 s x12 := by
      unfold x12
      refine Alter.step ?_ (alter_setReg ..) (rm_high (by simp only [R.TRX_M_CRC]; omega) rfl)
      refine Alter.step ?_ (alter_setReg ..) (rm_high (by simp only [R.TRX_M_AXV]; omega) rfl)
      assumption
    clear_value x12
    extract_lets +onlyGivenNames x14
    have h15 : Alter 39614175852035778779352662016 s x14 := by
      unfold x14
      refine Alter.step ?_ (alter_setBit ..) (by decide)
      assumption
    clear_value x14
    refine alter_ite (fun _ => ?_) (fun _ => ?_)
    · refine Alter.step ?_ (alter_raise ..) rfl
      refine Alter.step ?_ (alter_setMapOk ..) rfl
      assumption
    · refine Alter.step ?_ (alter_raise ..) rfl
      refine Alter.step ?_ (alter_setMapOk ..) rfl
      assumption

end Sys2Proof.Machine
end

