-- ==== Sys2Proof/Laws/Actuators.lean ====
section
/-! SUPPORT. What each operation of `Sys2Proof.Machine.Actuators` may change (`Alter`), one lemma an operation; for a command,
that it answers a next state (`Ends`). -/

namespace Sys2Proof.Machine

theorem alter_actMeasure (a : Nat) (s : State) : Alter 19807040776140036988062400512 s (actMeasure a s) := by
  unfold actMeasure
  extract_lets +onlyGivenNames x1
  subst x1
  split
  · rename_i z2 z3 z4
    refine Alter.step ?_ (alter_setSp ..) rfl
    refine Alter.step ?_ (alter_setSfld ..) (rm_high (by simp only [R.ACT_A_STAT]; omega) rfl)
    refine Alter.step ?_ (alter_setBit ..) (rm_high (by simp only [R.ACT_A_STAT]; omega) rfl)
    exact Alter.refl _ _
  · rename_i z5 z6
    refine Alter.step ?_ (alter_setBit ..) (rm_high (by simp only [R.ACT_A_STAT]; omega) rfl)
    exact Alter.refl _ _

theorem alter_actAngle (a : Nat) (s : State) : Alter 19807040628566084398385987584 s (actAngle a s) := by
  unfold actAngle
  refine alter_ite (fun _ => ?_) (fun _ => ?_)
  · refine Alter.step ?_ (alter_setSp ..) rfl
    exact Alter.refl _ _
  · refine alter_ite (fun _ => ?_) (fun _ => ?_)
    · split
      · rename_i z1 z2 z3
        refine Alter.step ?_ (alter_setSp ..) rfl
        exact Alter.refl _ _
      · rename_i z4 z5
        exact Alter.refl _ _
    · exact Alter.refl _ _

theorem alter_actSpots (a : Nat) (s : State) : Alter 19807040776140036988062400512 s (actSpots a s) := by
  unfold actSpots
  refine Alter.step ?_ (alter_actMeasure ..) rfl
  refine Alter.step ?_ (alter_actAngle ..) rfl
  exact Alter.refl _ _

theorem alter_sentActs (r : Nat) (s : State) : Alter 19807040776140036988062400512 s (sentActs r s) := by
  unfold sentActs
  refine Alter.and ?_ (alter_forEach _ _ _ ?_)
  · exact Alter.refl _ _
  · intro a1 b2
    beta_reduce
    refine Alter.step ?_ (alter_actMeasure ..) rfl
    exact Alter.refl _ _

theorem alter_execSentMessage (e : Nat) (r : Fin 8) (cal : Nat) (pulses : List Nat) (slow : Option (Bool × BitVec 8 × BitVec 16)) (s : State) : Ends 29710655648433201022416977920 s (execSentMessage e r cal pulses slow s) := by
  unfold execSentMessage
  refine ends_next ?_
  refine Alter.step ?_ (alter_sentActs ..) rfl
  refine Alter.step ?_ (alter_sentMessage ..) rfl
  refine Alter.step ?_ (alter_tick ..) rfl
  exact Alter.refl _ _

theorem alter_execSentLost (e : Nat) (r : Fin 8) (s : State) : Ends 29710655648433201022416977920 s (execSentLost e r s) := by
  unfold execSentLost
  refine ends_next ?_
  refine Alter.step ?_ (alter_sentActs ..) rfl
  refine Alter.step ?_ (alter_sentTimeout ..) rfl
  refine Alter.step ?_ (alter_tick ..) rfl
  exact Alter.refl _ _

theorem alter_actMirror (a : Nat) (s : State) : Alter 1267650600228229401496703205376 s (actMirror a s) := by
  unfold actMirror
  extract_lets +onlyGivenNames x1
  subst x1
  extract_lets +onlyGivenNames x2
  subst x2
  refine Alter.step ?_ (alter_setAct ..) rfl
  exact Alter.refl _ _

theorem alter_actTargetSlot (a : Nat) (s : State) : Alter 19807040628566084398385987584 s (actTargetSlot a s) := by
  unfold actTargetSlot
  refine Alter.step ?_ (alter_setSp ..) rfl
  exact Alter.refl _ _

theorem alter_actSlots (a : Nat) (s : State) : Alter 20116525638387429467110768640 s (actSlots a s) := by
  unfold actSlots
  extract_lets +onlyGivenNames x1
  subst x1
  extract_lets +onlyGivenNames x2
  subst x2
  extract_lets +onlyGivenNames x3
  subst x3
  extract_lets +onlyGivenNames x4
  subst x4
  extract_lets +onlyGivenNames x5
  subst x5
  extract_lets +onlyGivenNames x6
  subst x6
  extract_lets +onlyGivenNames x7
  subst x7
  extract_lets +onlyGivenNames x8
  subst x8
  extract_lets +onlyGivenNames x9
  subst x9
  extract_lets +onlyGivenNames x10
  have h11 : Alter 20116525638387429467110768640 s x10 := by
    unfold x10
    refine alter_ite (fun _ => ?_) (fun _ => ?_)
    · exact Alter.refl _ _
    · refine Alter.step ?_ (alter_actTargetSlot ..) rfl
      exact Alter.refl _ _
  clear_value x10
  extract_lets +onlyGivenNames x12
  have h13 : Alter 20116525638387429467110768640 s x12 := by
    unfold x12
    refine Alter.step ?_ (alter_setSp ..) rfl
    assumption
  clear_value x12
  extract_lets +onlyGivenNames x14
  have h15 : Alter 20116525638387429467110768640 s x14 := by
    unfold x14
    refine Alter.step ?_ (alter_setSp ..) rfl
    assumption
  clear_value x14
  extract_lets +onlyGivenNames x16
  have h17 : Alter 20116525638387429467110768640 s x16 := by
    unfold x16
    refine Alter.step ?_ (alter_setSp ..) rfl
    assumption
  clear_value x16
  extract_lets +onlyGivenNames x18
  have h19 : Alter 20116525638387429467110768640 s x18 := by
    unfold x18
    refine Alter.step ?_ (alter_setSp ..) rfl
    assumption
  clear_value x18
  extract_lets +onlyGivenNames x20
  have h21 : Alter 20116525638387429467110768640 s x20 := by
    unfold x20
    refine Alter.step ?_ (alter_actAngle ..) rfl
    assumption
  clear_value x20
  split
  · rename_i z22 z23 z24
    extract_lets +onlyGivenNames x25
    subst x25
    extract_lets +onlyGivenNames x26
    subst x26
    refine Alter.step ?_ (alter_setConv ..) rfl
    assumption
  · rename_i z27 z28
    assumption

theorem alter_actEnter (a : Nat) (st : Nat) (s : State) : Alter 1287767126014190783553490386944 s (actEnter a st s) := by
  unfold actEnter
  extract_lets +onlyGivenNames x1
  subst x1
  extract_lets +onlyGivenNames x2
  have h3 : Alter 1287767126014190783553490386944 s x2 := by
    unfold x2
    refine Alter.step ?_ (alter_setFld ..) (rm_high (by simp only [R.ACT_A_STAT]; omega) rfl)
    exact Alter.refl _ _
  clear_value x2
  extract_lets +onlyGivenNames x4
  have h5 : Alter 1287767126014190783553490386944 s x4 := by
    unfold x4
    refine alter_ite (fun _ => ?_) (fun _ => ?_)
    · refine Alter.step ?_ (alter_setBit ..) (rm_high (by simp only [R.ACT_A_STAT]; omega) rfl)
      assumption
    · assumption
  clear_value x4
  extract_lets +onlyGivenNames x6
  subst x6
  extract_lets +onlyGivenNames x7
  subst x7
  extract_lets +onlyGivenNames x8
  have h9 : Alter 1287767126014190783553490386944 s x8 := by
    unfold x8
    refine Alter.step ?_ (alter_setAct ..) rfl
    assumption
  clear_value x8
  extract_lets +onlyGivenNames x10
  have h11 : Alter 1287767126014190783553490386944 s x10 := by
    unfold x10
    refine alter_ite (fun _ => ?_) (fun _ => ?_)
    · refine Alter.step ?_ (alter_setAct ..) rfl
      assumption
    · refine alter_ite (fun _ => ?_) (fun _ => ?_)
      · refine Alter.step ?_ (alter_setFld ..) (rm_high (by simp only [R.ACT_A_STAT]; omega) rfl)
        assumption
      · assumption
  clear_value x10
  extract_lets +onlyGivenNames x12
  have h13 : Alter 1287767126014190783553490386944 s x12 := by
    unfold x12
    refine alter_ite (fun _ => ?_) (fun _ => ?_)
    · refine Alter.step ?_ (alter_actMirror ..) rfl
      assumption
    · assumption
  clear_value x12
  refine Alter.step ?_ (alter_actSlots ..) rfl
  assumption

theorem alter_actBrake100 (a : Nat) (fault : Bool) (s : State) : Alter 1287767126014190783553490386944 s (actBrake100 a fault s) := by
  unfold actBrake100
  refine Alter.step ?_ (alter_actEnter ..) rfl
  refine Alter.step ?_ (alter_setAct ..) rfl
  exact Alter.refl _ _

theorem alter_actFault (a : Nat) (s : State) : Alter 1287767220461520440946394660864 s (actFault a s) := by
  unfold actFault
  extract_lets +onlyGivenNames x1
  have h2 : Alter 1287767220461520440946394660864 s x1 := by
    unfold x1
    refine Alter.step ?_ (alter_setBitAt ..) (by decide)
    exact Alter.refl _ _
  clear_value x1
  extract_lets +onlyGivenNames x3
  subst x3
  extract_lets +onlyGivenNames x4
  have h5 : Alter 1287767220461520440946394660864 s x4 := by
    unfold x4
    refine Alter.step ?_ (alter_setAct ..) rfl
    assumption
  clear_value x4
  refine Alter.step ?_ (alter_actEnter ..) rfl
  refine Alter.step ?_ (alter_raise ..) rfl
  assumption

theorem alter_actStart (a : Nat) (k : Nat) (s : State) : Alter 1287767126014190783553490386944 s (actStart a k s) := by
  unfold actStart
  extract_lets +onlyGivenNames x1
  subst x1
  extract_lets +onlyGivenNames x2
  subst x2
  extract_lets +onlyGivenNames x3
  subst x3
  extract_lets +onlyGivenNames x4
  subst x4
  extract_lets +onlyGivenNames x5
  subst x5
  extract_lets +onlyGivenNames x6
  subst x6
  extract_lets +onlyGivenNames x7
  subst x7
  extract_lets +onlyGivenNames x8
  have h9 : Alter 1287767126014190783553490386944 s x8 := by
    unfold x8
    refine Alter.step ?_ (alter_setAct ..) rfl
    exact Alter.refl _ _
  clear_value x8
  extract_lets +onlyGivenNames x10
  have h11 : Alter 1287767126014190783553490386944 s x10 := by
    unfold x10
    refine Alter.step ?_ (alter_setFld ..) (rm_high (by simp only [R.ACT_A_STAT]; omega) rfl)
    refine Alter.step ?_ (alter_setFld ..) (rm_high (by simp only [R.ACT_A_STAT]; omega) rfl)
    assumption
  clear_value x10
  refine Alter.step ?_ (alter_actEnter ..) rfl
  assumption

theorem alter_actAbort (a : Nat) (why : Nat) (s : State) : Alter 1287767126014190783553490386944 s (actAbort a why s) := by
  unfold actAbort
  extract_lets +onlyGivenNames x1
  subst x1
  extract_lets +onlyGivenNames x2
  have h3 : Alter 1287767126014190783553490386944 s x2 := by
    unfold x2
    refine Alter.step ?_ (alter_setFld ..) (rm_high (by simp only [R.ACT_A_STAT]; omega) rfl)
    exact Alter.refl _ _
  clear_value x2
  refine alter_ite (fun _ => ?_) (fun _ => ?_)
  · refine Alter.step ?_ (alter_actEnter ..) rfl
    refine Alter.step ?_ (alter_setAct ..) rfl
    assumption
  · refine Alter.step ?_ (alter_actEnter ..) rfl
    refine Alter.step ?_ (alter_setAct ..) rfl
    assumption

theorem alter_actProgress (a : Nat) (d : Nat) (pos : Int) (s : State) : Alter 1287767126051084271700909490176 s (actProgress a d pos s) := by
  unfold actProgress
  extract_lets +onlyGivenNames x1
  subst x1
  refine alter_ite (fun _ => ?_) (fun _ => ?_)
  · refine Alter.step ?_ (alter_actAbort ..) rfl
    exact Alter.refl _ _
  · refine alter_ite (fun _ => ?_) (fun _ => ?_)
    · extract_lets +onlyGivenNames x2
      subst x2
      extract_lets +onlyGivenNames x3
      subst x3
      extract_lets +onlyGivenNames x4
      have h5 : Alter 1287767126051084271700909490176 s x4 := by
        unfold x4
        refine Alter.step ?_ (alter_setAct ..) rfl
        exact Alter.refl _ _
      clear_value x4
      extract_lets +onlyGivenNames x6
      have h7 : Alter 1287767126051084271700909490176 s x6 := by
        unfold x6
        refine Alter.step ?_ (alter_setBit ..) (rm_high (by simp only [R.ACT_A_STAT]; omega) rfl)
        assumption
      clear_value x6
      refine Alter.step ?_ (alter_actEnter ..) rfl
      refine Alter.step ?_ (alter_setFld ..) (rm_high (by simp only [R.ACT_A_STAT]; omega) rfl)
      assumption
    · exact Alter.refl _ _

theorem alter_alignEnd (a : Nat) (s : State) : Alter 1287767126124871247995747696640 s (alignEnd a s) := by
  unfold alignEnd
  refine alter_ite (fun _ => ?_) (fun _ => ?_)
  · extract_lets +onlyGivenNames x1
    have h2 : Alter 1287767126124871247995747696640 s x1 := by
      unfold x1
      refine Alter.step ?_ (alter_until ..) rfl
      exact Alter.refl _ _
    clear_value x1
    refine Alter.step ?_ (alter_actSlots ..) rfl
    refine Alter.step ?_ (alter_setFld ..) (rm_high (by simp only [R.ACT_A_STAT]; omega) rfl)
    refine Alter.step ?_ (alter_setAct ..) rfl
    assumption
  · exact Alter.refl _ _

theorem alter_execAlignEnd (e : Nat) (a : Fin 3) (s : State) : Ends 1287767126124871247995747696640 s (execAlignEnd e a s) := by
  unfold execAlignEnd
  refine ends_next ?_
  refine Alter.step ?_ (alter_alignEnd ..) rfl
  refine Alter.step ?_ (alter_tick ..) rfl
  exact Alter.refl _ _

theorem alter_rampTimeout (a : Nat) (s : State) : Alter 1287767126124871247995747696640 s (rampTimeout a s) := by
  unfold rampTimeout
  refine alter_ite (fun _ => ?_) (fun _ => ?_)
  · refine Alter.step ?_ (alter_actAbort ..) rfl
    refine Alter.step ?_ (alter_until ..) rfl
    exact Alter.refl _ _
  · exact Alter.refl _ _

theorem alter_execActRampTimeout (e : Nat) (a : Fin 3) (s : State) : Ends 1287767126124871247995747696640 s (execActRampTimeout e a s) := by
  unfold execActRampTimeout
  refine ends_next ?_
  refine Alter.step ?_ (alter_rampTimeout ..) rfl
  refine Alter.step ?_ (alter_tick ..) rfl
  exact Alter.refl _ _

theorem alter_actRetry (a : Nat) (s : State) : Alter 1287767220572200905388651970560 s (actRetry a s) := by
  unfold actRetry
  refine alter_ite (fun _ => ?_) (fun _ => ?_)
  · extract_lets +onlyGivenNames x1
    have h2 : Alter 1287767220572200905388651970560 s x1 := by
      unfold x1
      refine Alter.step ?_ (alter_until ..) rfl
      exact Alter.refl _ _
    clear_value x1
    extract_lets +onlyGivenNames x3
    subst x3
    refine Alter.step ?_ (alter_raise ..) rfl
    refine Alter.step ?_ (alter_actStart ..) rfl
    assumption
  · exact Alter.refl _ _

theorem alter_execActStartRetry (e : Nat) (a : Fin 3) (s : State) : Ends 1287767220572200905388651970560 s (execActStartRetry e a s) := by
  unfold execActStartRetry
  refine ends_next ?_
  refine Alter.step ?_ (alter_actRetry ..) rfl
  refine Alter.step ?_ (alter_tick ..) rfl
  exact Alter.refl _ _

theorem alter_actMove (a : Nat) (s : State) : Alter 1287767126014190783553490386944 s (actMove a s) := by
  unfold actMove
  extract_lets +onlyGivenNames x1
  subst x1
  extract_lets +onlyGivenNames x2
  subst x2
  extract_lets +onlyGivenNames x3
  have h4 : Alter 1287767126014190783553490386944 s x3 := by
    unfold x3
    refine Alter.step ?_ (alter_actTargetSlot ..) rfl
    refine Alter.step ?_ (alter_setAct ..) rfl
    exact Alter.refl _ _
  clear_value x3
  refine alter_ite (fun _ => ?_) (fun _ => ?_)
  · refine Alter.step ?_ (alter_actStart ..) rfl
    assumption
  · refine Alter.step ?_ (alter_actEnter ..) rfl
    assumption

theorem alter_actTarget (a : Nat) (s : State) : Alter 1287767126014190783553490386944 s (actTarget a s) := by
  unfold actTarget
  extract_lets +onlyGivenNames x1
  subst x1
  refine alter_ite (fun _ => ?_) (fun _ => ?_)
  · refine Alter.step ?_ (alter_actSlots ..) rfl
    exact Alter.refl _ _
  · refine alter_ite (fun _ => ?_) (fun _ => ?_)
    · refine Alter.step ?_ (alter_actSlots ..) rfl
      exact Alter.refl _ _
    · refine Alter.step ?_ (alter_actMove ..) rfl
      exact Alter.refl _ _

theorem alter_inPosition (a : Nat) (s : State) : Alter 1287767126124871247995747696640 s (inPosition a s) := by
  unfold inPosition
  split
  · rename_i z1 z2
    exact Alter.refl _ _
  · rename_i z3 z4 z5
    refine alter_ite (fun _ => ?_) (fun _ => ?_)
    · exact Alter.refl _ _
    · extract_lets +onlyGivenNames x6
      have h7 : Alter 1287767126124871247995747696640 s x6 := by
        unfold x6
        refine Alter.step ?_ (alter_until ..) rfl
        exact Alter.refl _ _
      clear_value x6
      extract_lets +onlyGivenNames x8
      subst x8
      extract_lets +onlyGivenNames x9
      have h10 : Alter 1287767126124871247995747696640 s x9 := by
        unfold x9
        refine Alter.step ?_ (alter_setAct ..) rfl
        assumption
      clear_value x9
      extract_lets +onlyGivenNames x11
      have h12 : Alter 1287767126124871247995747696640 s x11 := by
        unfold x11
        refine Alter.step ?_ (alter_actEnter ..) rfl
        refine Alter.step ?_ (alter_setBit ..) (rm_high (by simp only [R.ACT_A_STAT]; omega) rfl)
        assumption
      clear_value x11
      refine Alter.step ?_ (alter_setAct ..) rfl
      assumption

theorem alter_execInPosition (e : Nat) (a : Fin 3) (s : State) : Ends 1287767126124871247995747696640 s (execInPosition e a s) := by
  unfold execInPosition
  refine ends_next ?_
  refine Alter.step ?_ (alter_inPosition ..) rfl
  refine Alter.step ?_ (alter_tick ..) rfl
  exact Alter.refl _ _

theorem alter_actTimeout (a : Nat) (s : State) : Alter 1287767220572200905388651970560 s (actTimeout a s) := by
  unfold actTimeout
  refine alter_ite (fun _ => ?_) (fun _ => ?_)
  · extract_lets +onlyGivenNames x1
    have h2 : Alter 1287767220572200905388651970560 s x1 := by
      unfold x1
      refine Alter.step ?_ (alter_until ..) rfl
      exact Alter.refl _ _
    clear_value x1
    extract_lets +onlyGivenNames x3
    have h4 : Alter 1287767220572200905388651970560 s x3 := by
      unfold x3
      refine Alter.step ?_ (alter_setBitAt ..) (by decide)
      assumption
    clear_value x3
    refine Alter.step ?_ (alter_actEnter ..) rfl
    refine Alter.step ?_ (alter_raise ..) rfl
    assumption
  · exact Alter.refl _ _

theorem alter_execActTimeout (e : Nat) (a : Fin 3) (s : State) : Ends 1287767220572200905388651970560 s (execActTimeout e a s) := by
  unfold execActTimeout
  refine ends_next ?_
  refine Alter.step ?_ (alter_actTimeout ..) rfl
  refine Alter.step ?_ (alter_tick ..) rfl
  exact Alter.refl _ _

theorem alter_actEnable (r : Req) (a : Nat) (s : State) : Alter 501288445155985390839919542272 s (actEnable r a s).2 := by
  unfold actEnable
  extract_lets +onlyGivenNames x1
  subst x1
  refine alter_ite_snd (fun _ => ?_) (fun _ => ?_)
  · dsimp only
    exact Alter.refl _ _
  · extract_lets +onlyGivenNames x2
    subst x2
    split
    · rename_i z3 z4 z5
      refine alter_ite_snd (fun _ => ?_) (fun _ => ?_)
      · dsimp only
        refine Alter.step ?_ (alter_holdEnable ..) rfl
        exact Alter.refl _ _
      · extract_lets +onlyGivenNames x6
        have h7 : Alter 501288445155985390839919542272 s x6 := by
          unfold x6
          refine alter_ite (fun _ => ?_) (fun _ => ?_)
          · refine Alter.step ?_ (alter_releaseLatches ..) rfl
            exact Alter.refl _ _
          · exact Alter.refl _ _
        clear_value x6
        dsimp only
        refine Alter.step ?_ (alter_setBit ..) (rm_high (by simp only [R.ACT_A_CTRL]; omega) rfl)
        refine Alter.step ?_ (alter_hostEnables ..) rfl
        assumption
    · rename_i z8 z9
      dsimp only
      refine Alter.step ?_ (alter_setBit ..) (rm_high (by simp only [R.ACT_A_CTRL]; omega) rfl)
      exact Alter.refl _ _

theorem alter_actDisable (a : Nat) (s : State) : Alter 1287767126014190783553490386944 s (actDisable a s) := by
  unfold actDisable
  extract_lets +onlyGivenNames x1
  have h2 : Alter 1287767126014190783553490386944 s x1 := by
    unfold x1
    refine Alter.step ?_ (alter_setBit ..) (rm_high (by simp only [R.ACT_A_CTRL]; omega) rfl)
    exact Alter.refl _ _
  clear_value x1
  refine alter_ite (fun _ => ?_) (fun _ => ?_)
  · assumption
  · refine Alter.step ?_ (alter_actBrake100 ..) rfl
    assumption

theorem alter_actBrakeBit (a : Nat) (on : Bool) (s : State) : Alter 1287767126014190783553490386944 s (actBrakeBit a on s) := by
  unfold actBrakeBit
  extract_lets +onlyGivenNames x1
  have h2 : Alter 1287767126014190783553490386944 s x1 := by
    unfold x1
    refine Alter.step ?_ (alter_setBit ..) (rm_high (by simp only [R.ACT_A_CTRL]; omega) rfl)
    exact Alter.refl _ _
  clear_value x1
  extract_lets +onlyGivenNames x3
  subst x3
  extract_lets +onlyGivenNames x4
  subst x4
  extract_lets +onlyGivenNames x5
  have h6 : Alter 1287767126014190783553490386944 s x5 := by
    unfold x5
    refine Alter.step ?_ (alter_setAct ..) rfl
    assumption
  clear_value x5
  refine alter_ite (fun _ => ?_) (fun _ => ?_)
  · refine alter_ite (fun _ => ?_) (fun _ => ?_)
    · assumption
    · refine Alter.step ?_ (alter_actEnter ..) rfl
      assumption
  · refine alter_ite (fun _ => ?_) (fun _ => ?_)
    · refine Alter.step ?_ (alter_actEnter ..) rfl
      assumption
    · assumption

theorem alter_actRef (a : Nat) (s : State) : Alter 1287457641004369438484765605888 s (actRef a s) := by
  unfold actRef
  extract_lets +onlyGivenNames x1
  subst x1
  extract_lets +onlyGivenNames x2
  have h3 : Alter 1287457641004369438484765605888 s x2 := by
    unfold x2
    refine Alter.step ?_ (alter_setAct ..) rfl
    exact Alter.refl _ _
  clear_value x2
  refine Alter.step ?_ (alter_actMeasure ..) rfl
  assumption

theorem alter_brakeEnd (a : Nat) (s : State) : Alter 3823145792281115044649239576576 s (brakeEnd a s) := by
  unfold brakeEnd
  extract_lets +onlyGivenNames x1
  have h2 : Alter 3823145792281115044649239576576 s x1 := by
    unfold x1
    split
    · rename_i z3 z4 z5
      refine alter_ite (fun _ => ?_) (fun _ => ?_)
      · extract_lets +onlyGivenNames x6
        have h7 : Alter 3823145792281115044649239576576 s x6 := by
          unfold x6
          refine Alter.step ?_ (alter_until ..) rfl
          exact Alter.refl _ _
        clear_value x6
        extract_lets +onlyGivenNames x8
        have h9 : Alter 3823145792281115044649239576576 s x8 := by
          unfold x8
          refine Alter.step ?_ (alter_gatesOff ..) rfl
          assumption
        clear_value x8
        refine Alter.step ?_ (alter_lvEnd _ _) rfl
        assumption
      · exact Alter.refl _ _
    · rename_i z10 z11
      exact Alter.refl _ _
  clear_value x1
  split
  · rename_i z12 z13
    assumption
  · rename_i z14 z15 z16
    extract_lets +onlyGivenNames x17
    have h18 : Alter 3823145792281115044649239576576 s x17 := by
      unfold x17
      refine Alter.step ?_ (alter_until ..) rfl
      assumption
    clear_value x17
    extract_lets +onlyGivenNames x19
    subst x19
    extract_lets +onlyGivenNames x20
    subst x20
    extract_lets +onlyGivenNames x21
    have h22 : Alter 3823145792281115044649239576576 s x21 := by
      unfold x21
      refine Alter.step ?_ (alter_setAct ..) rfl
      assumption
    clear_value x21
    refine alter_ite (fun _ => ?_) (fun _ => ?_)
    · extract_lets +onlyGivenNames x23
      have h24 : Alter 3823145792281115044649239576576 s x23 := by
        unfold x23
        refine Alter.step ?_ (alter_setBitAt ..) (by decide)
        assumption
      clear_value x23
      refine Alter.step ?_ (alter_raise ..) rfl
      refine Alter.step ?_ (alter_actSlots ..) rfl
      assumption
    · refine alter_ite (fun _ => ?_) (fun _ => ?_)
      · assumption
      · refine alter_ite (fun _ => ?_) (fun _ => ?_)
        · refine Alter.step ?_ (alter_actFault ..) rfl
          assumption
        · refine alter_ite (fun _ => ?_) (fun _ => ?_)
          · assumption
          · refine Alter.step ?_ (alter_actEnter ..) rfl
            assumption

theorem alter_execActBrakeEnd (e : Nat) (a : Fin 3) (s : State) : Ends 3823145792281115044649239576576 s (execActBrakeEnd e a s) := by
  unfold execActBrakeEnd
  refine ends_next ?_
  refine Alter.step ?_ (alter_brakeEnd ..) rfl
  refine Alter.step ?_ (alter_tick ..) rfl
  exact Alter.refl _ _

theorem alter_actLost (a : Nat) (s : State) : Alter 1287767126014190783553490386944 s (actLost a s) := by
  unfold actLost
  refine alter_ite (fun _ => ?_) (fun _ => ?_)
  · refine Alter.step ?_ (alter_actBrake100 ..) rfl
    exact Alter.refl _ _
  · exact Alter.refl _ _

theorem alter_hallError (a : Nat) (s : State) : Alter 1287767220461520440946394660864 s (hallError a s) := by
  unfold hallError
  extract_lets +onlyGivenNames x1
  subst x1
  extract_lets +onlyGivenNames x2
  subst x2
  extract_lets +onlyGivenNames x3
  have h4 : Alter 1287767220461520440946394660864 s x3 := by
    unfold x3
    refine Alter.step ?_ (alter_setAct ..) rfl
    exact Alter.refl _ _
  clear_value x3
  extract_lets +onlyGivenNames x5
  have h6 : Alter 1287767220461520440946394660864 s x5 := by
    unfold x5
    refine Alter.step ?_ (alter_setBitAt ..) (by decide)
    refine Alter.step ?_ (alter_incFld ..) (rm_high (by simp only [R.ACT_A_STAT]; omega) rfl)
    assumption
  clear_value x5
  refine alter_ite (fun _ => ?_) (fun _ => ?_)
  · assumption
  · extract_lets +onlyGivenNames x7
    have h8 : Alter 1287767220461520440946394660864 s x7 := by
      unfold x7
      refine Alter.step ?_ (alter_raise ..) rfl
      assumption
    clear_value x7
    refine alter_ite (fun _ => ?_) (fun _ => ?_)
    · refine Alter.step ?_ (alter_actLost ..) rfl
      assumption
    · assumption

theorem alter_hallChange (a : Nat) (c : Nat) (s : State) : Alter 1287767220461520440946394660864 s (hallChange a c s) := by
  unfold hallChange
  split
  · rename_i z1 z2
    exact Alter.refl _ _
  · rename_i z3 z4 z5
    extract_lets +onlyGivenNames x6
    subst x6
    split
    · rename_i z7 z8
      refine Alter.step ?_ (alter_actMeasure ..) rfl
      refine Alter.step ?_ (alter_actAngle ..) rfl
      refine Alter.step ?_ (alter_setAct ..) rfl
      exact Alter.refl _ _
    · rename_i z9 z10 z11
      extract_lets +onlyGivenNames x12
      subst x12
      extract_lets +onlyGivenNames x13
      have h14 : Alter 1287767220461520440946394660864 s x13 := by
        unfold x13
        refine Alter.step ?_ (alter_setAct ..) rfl
        exact Alter.refl _ _
      clear_value x13
      extract_lets +onlyGivenNames x15
      subst x15
      extract_lets +onlyGivenNames x16
      have h17 : Alter 1287767220461520440946394660864 s x16 := by
        unfold x16
        refine alter_ite (fun _ => ?_) (fun _ => ?_)
        · refine Alter.step ?_ (alter_setAct ..) rfl
          assumption
        · refine alter_ite (fun _ => ?_) (fun _ => ?_)
          · refine Alter.step ?_ (alter_setAct ..) rfl
            assumption
          · refine alter_ite (fun _ => ?_) (fun _ => ?_)
            · assumption
            · refine Alter.step ?_ (alter_hallError ..) rfl
              assumption
      clear_value x16
      refine Alter.step ?_ (alter_actMeasure ..) rfl
      refine Alter.step ?_ (alter_actAngle ..) rfl
      assumption

theorem alter_execHallChange (e : Nat) (a : Fin 3) (code : Fin 8) (s : State) : Ends 1287767220572200905388651970560 s (execHallChange e a code s) := by
  unfold execHallChange
  refine ends_next ?_
  refine Alter.step ?_ (alter_hallChange ..) rfl
  refine Alter.step ?_ (alter_tick ..) rfl
  exact Alter.refl _ _

theorem alter_execHallCodeError (e : Nat) (a : Fin 3) (s : State) : Ends 1287767220572200905388651970560 s (execHallCodeError e a s) := by
  unfold execHallCodeError
  refine ends_next ?_
  refine Alter.step ?_ (alter_actMeasure ..) rfl
  refine Alter.step ?_ (alter_hallError ..) rfl
  refine Alter.step ?_ (alter_tick ..) rfl
  exact Alter.refl _ _

theorem alter_parkShow (q : Option Int) (s : State) : Alter 94594903609982580686848 s (parkShow q s) := by
  unfold parkShow
  extract_lets +onlyGivenNames x1
  subst x1
  refine alter_ite (fun _ => ?_) (fun _ => ?_)
  · exact Alter.refl _ _
  · refine Alter.step ?_ (alter_raise ..) rfl
    refine Alter.step ?_ (alter_setFld ..) (by decide)
    exact Alter.refl _ _

theorem alter_parkAbort (sn : State) (s : State) : Alter 20116620233291039449691455488 s (parkAbort sn s) := by
  unfold parkAbort
  refine alter_ite (fun _ => ?_) (fun _ => ?_)
  · extract_lets +onlyGivenNames x1
    have h2 : Alter 20116620233291039449691455488 s x1 := by
      unfold x1
      refine Alter.step ?_ (alter_setFld ..) (by decide)
      exact Alter.refl _ _
    clear_value x1
    extract_lets +onlyGivenNames x3
    have h4 : Alter 20116620233291039449691455488 s x3 := by
      unfold x3
      refine Alter.step ?_ (alter_setBit ..) (by decide)
      assumption
    clear_value x3
    refine Alter.step ?_ (alter_actSlots ..) rfl
    refine Alter.step ?_ (alter_raise ..) rfl
    assumption
  · exact Alter.refl _ _

theorem alter_actSup (a : Nat) (sn : State) (s : State) : Alter 1287767220498413929093813764096 s (actSup a sn s) := by
  unfold actSup
  extract_lets +onlyGivenNames x1
  have h2 : Alter 1287767220498413929093813764096 s x1 := by
    unfold x1
    refine Alter.step ?_ (alter_actMeasure ..) rfl
    exact Alter.refl _ _
  clear_value x1
  extract_lets +onlyGivenNames x3
  subst x3
  refine alter_ite (fun _ => ?_) (fun _ => ?_)
  · assumption
  · extract_lets +onlyGivenNames x4
    subst x4
    extract_lets +onlyGivenNames x5
    subst x5
    extract_lets +onlyGivenNames x6
    subst x6
    extract_lets +onlyGivenNames x7
    have h8 : Alter 1287767220498413929093813764096 s x7 := by
      unfold x7
      refine Alter.step ?_ (alter_setAct ..) rfl
      assumption
    clear_value x7
    extract_lets +onlyGivenNames x9
    have h10 : Alter 1287767220498413929093813764096 s x9 := by
      unfold x9
      refine alter_ite (fun _ => ?_) (fun _ => ?_)
      · refine Alter.step ?_ (alter_actLost ..) rfl
        assumption
      · assumption
    clear_value x9
    extract_lets +onlyGivenNames x11
    subst x11
    extract_lets +onlyGivenNames x12
    subst x12
    extract_lets +onlyGivenNames x13
    have h14 : Alter 1287767220498413929093813764096 s x13 := by
      unfold x13
      refine alter_ite (fun _ => ?_) (fun _ => ?_)
      · assumption
      · refine alter_ite (fun _ => ?_) (fun _ => ?_)
        · refine Alter.step ?_ (alter_actEnter ..) rfl
          assumption
        · assumption
    clear_value x13
    extract_lets +onlyGivenNames x15
    have h16 : Alter 1287767220498413929093813764096 s x15 := by
      unfold x15
      split
      · rename_i z17 z18 z19
        refine alter_ite (fun _ => ?_) (fun _ => ?_)
        · refine Alter.step ?_ (alter_actProgress ..) rfl
          assumption
        · assumption
      · rename_i z20 z21
        assumption
    clear_value x15
    extract_lets +onlyGivenNames x22
    subst x22
    extract_lets +onlyGivenNames x23
    subst x23
    extract_lets +onlyGivenNames x24
    have h25 : Alter 1287767220498413929093813764096 s x24 := by
      unfold x24
      refine Alter.step ?_ (alter_setAct ..) rfl
      assumption
    clear_value x24
    extract_lets +onlyGivenNames x26
    have h27 : Alter 1287767220498413929093813764096 s x26 := by
      unfold x26
      refine alter_ite (fun _ => ?_) (fun _ => ?_)
      · refine Alter.step ?_ (alter_parkAbort ..) rfl
        assumption
      · assumption
    clear_value x26
    refine Alter.step ?_ (alter_actSlots ..) rfl
    assumption

theorem alter_actSupAll (sn : State) (s : State) : Alter 1287767220498413929093813764096 s (actSupAll sn s) := by
  unfold actSupAll
  refine Alter.step ?_ (alter_parkShow ..) rfl
  refine Alter.step ?_ (alter_actSup ..) rfl
  refine Alter.step ?_ (alter_actSup ..) rfl
  refine Alter.step ?_ (alter_actSup ..) rfl
  exact Alter.refl _ _

theorem alter_actAccepted (s : State) : Alter 1287767126014190783553490386944 s (actAccepted s) := by
  unfold actAccepted
  refine Alter.and ?_ (alter_forEach _ _ _ ?_)
  · exact Alter.refl _ _
  · intro a1 b2
    beta_reduce
    extract_lets +onlyGivenNames x3
    have h4 : Alter 1287767126014190783553490386944 b2 x3 := by
      unfold x3
      refine Alter.step ?_ (alter_setBit ..) (rm_high (by simp only [R.ACT_A_CTRL]; omega) rfl)
      exact Alter.refl _ _
    clear_value x3
    extract_lets +onlyGivenNames x5
    subst x5
    extract_lets +onlyGivenNames x6
    have h7 : Alter 1287767126014190783553490386944 b2 x6 := by
      unfold x6
      refine Alter.step ?_ (alter_setBit ..) (rm_high (by simp only [R.ACT_A_STAT]; omega) rfl)
      refine Alter.step ?_ (alter_setFld ..) (rm_high (by simp only [R.ACT_A_STAT]; omega) rfl)
      assumption
    clear_value x6
    refine Alter.step ?_ (alter_actEnter ..) rfl
    refine Alter.step ?_ (alter_setAct ..) rfl
    assumption

theorem alter_actRestore (s : State) : Alter 1287457641004369438484765605888 s (actRestore s) := by
  unfold actRestore
  refine Alter.and ?_ (alter_forEach _ _ _ ?_)
  · exact Alter.refl _ _
  · intro a1 b2
    beta_reduce
    split
    · rename_i z3 z4 z5
      refine Alter.step ?_ (alter_actMeasure ..) rfl
      refine Alter.step ?_ (alter_setAct ..) rfl
      exact Alter.refl _ _
    · rename_i z6 z7
      exact Alter.refl _ _

theorem alter_actCoast (a : Nat) (s : State) : Alter 1288463561733618467351025418240 s (actCoast a s) := by
  unfold actCoast
  refine alter_ite (fun _ => ?_) (fun _ => ?_)
  · exact Alter.refl _ _
  · extract_lets +onlyGivenNames x1
    have h2 : Alter 1288463561733618467351025418240 s x1 := by
      unfold x1
      refine Alter.step ?_ (alter_actFault ..) rfl
      exact Alter.refl _ _
    clear_value x1
    split
    · rename_i z3 z4 z5
      refine Alter.step ?_ (alter_convDark ..) rfl
      assumption
    · rename_i z6 z7
      assumption

theorem alter_lvLockout (w : Nat) (s : State) : Alter 1288463561733618467419744894976 s (lvLockout w s) := by
  unfold lvLockout
  refine alter_ite (fun _ => ?_) (fun _ => ?_)
  · extract_lets +onlyGivenNames x1
    have h2 : Alter 1288463561733618467419744894976 s x1 := by
      unfold x1
      refine Alter.step ?_ (alter_setBit ..) (by decide)
      exact Alter.refl _ _
    clear_value x1
    extract_lets +onlyGivenNames x3
    have h4 : Alter 1288463561733618467419744894976 s x3 := by
      unfold x3
      refine Alter.step ?_ (alter_setBit ..) (by decide)
      refine Alter.step ?_ (alter_setBit ..) (by decide)
      assumption
    clear_value x3
    extract_lets +onlyGivenNames x5
    have h6 : Alter 1288463561733618467419744894976 s x5 := by
      unfold x5
      refine Alter.step ?_ (alter_setFld ..) (by decide)
      assumption
    clear_value x5
    extract_lets +onlyGivenNames x7
    have h8 : Alter 1288463561733618467419744894976 s x7 := by
      unfold x7
      refine Alter.step ?_ (alter_raise ..) rfl
      refine Alter.step ?_ (alter_raise ..) rfl
      assumption
    clear_value x7
    refine Alter.and ?_ (alter_forEach _ _ _ ?_)
    · assumption
    · intro a9 b10
      beta_reduce
      refine Alter.step ?_ (alter_actCoast ..) rfl
      exact Alter.refl _ _
  · extract_lets +onlyGivenNames x11
    have h12 : Alter 1288463561733618467419744894976 s x11 := by
      unfold x11
      refine Alter.step ?_ (alter_setBitAt ..) (by decide)
      exact Alter.refl _ _
    clear_value x11
    extract_lets +onlyGivenNames x13
    have h14 : Alter 1288463561733618467419744894976 s x13 := by
      unfold x13
      refine Alter.step ?_ (alter_setBitAt ..) (by decide)
      assumption
    clear_value x13
    extract_lets +onlyGivenNames x15
    have h16 : Alter 1288463561733618467419744894976 s x15 := by
      unfold x15
      refine Alter.step ?_ (alter_setBitAt ..) (by decide)
      assumption
    clear_value x15
    refine Alter.step ?_ (alter_raise ..) rfl
    assumption

theorem alter_execLvLockout (e : Nat) (which : Fin 10) (s : State) : Ends 1288463561844298931862002204672 s (execLvLockout e which s) := by
  unfold execLvLockout
  refine ends_next ?_
  refine Alter.step ?_ (alter_lvLockout ..) rfl
  refine Alter.step ?_ (alter_tick ..) rfl
  exact Alter.refl _ _

theorem alter_lvRelease (w : Nat) (s : State) : Alter 77371400029288925577084928 s (lvRelease w s) := by
  unfold lvRelease
  refine alter_ite (fun _ => ?_) (fun _ => ?_)
  · extract_lets +onlyGivenNames x1
    have h2 : Alter 77371400029288925577084928 s x1 := by
      unfold x1
      refine Alter.step ?_ (alter_setBit ..) (by decide)
      refine Alter.step ?_ (alter_setBit ..) (by decide)
      exact Alter.refl _ _
    clear_value x1
    refine Alter.and ?_ (alter_forEach _ _ _ ?_)
    · assumption
    · intro a3 b4
      beta_reduce
      refine alter_ite (fun _ => ?_) (fun _ => ?_)
      · refine Alter.step ?_ (alter_setGate ..) rfl
        exact Alter.refl _ _
      · exact Alter.refl _ _
  · extract_lets +onlyGivenNames x5
    subst x5
    extract_lets +onlyGivenNames x6
    subst x6
    extract_lets +onlyGivenNames x7
    subst x7
    refine Alter.step ?_ (alter_setBitAt ..) (by decide)
    refine alter_ite (fun _ => ?_) (fun _ => ?_)
    · exact Alter.refl _ _
    · refine Alter.step ?_ (alter_setIsl ..) rfl
      exact Alter.refl _ _

theorem alter_execLvLockoutRelease (e : Nat) (which : Fin 10) (s : State) : Ends 77371510709753367834394624 s (execLvLockoutRelease e which s) := by
  unfold execLvLockoutRelease
  refine ends_next ?_
  refine Alter.step ?_ (alter_lvRelease ..) rfl
  refine Alter.step ?_ (alter_tick ..) rfl
  exact Alter.refl _ _

theorem alter_lvGateCheck (ch : Nat) (mv : Nat) (s : State) : Alter 1288463561733618467351025418240 s (lvGateCheck ch mv s) := by
  unfold lvGateCheck
  extract_lets +onlyGivenNames x1
  subst x1
  refine alter_ite (fun _ => ?_) (fun _ => ?_)
  · exact Alter.refl _ _
  · extract_lets +onlyGivenNames x2
    subst x2
    extract_lets +onlyGivenNames x3
    have h4 : Alter 1288463561733618467351025418240 s x3 := by
      unfold x3
      refine Alter.step ?_ (alter_gatesOff ..) rfl
      exact Alter.refl _ _
    clear_value x3
    extract_lets +onlyGivenNames x5
    have h6 : Alter 1288463561733618467351025418240 s x5 := by
      unfold x5
      refine Alter.step ?_ (alter_raise ..) rfl
      refine Alter.step ?_ (alter_setBitAt ..) (by decide)
      assumption
    clear_value x5
    extract_lets +onlyGivenNames x7
    subst x7
    refine alter_ite (fun _ => ?_) (fun _ => ?_)
    · assumption
    · refine Alter.step ?_ (alter_actCoast ..) rfl
      assumption

theorem alter_execLvGateCheck (e : Nat) (ch : Fin 18) (mv : Nat) (s : State) : Ends 1288463561844298931793282727936 s (execLvGateCheck e ch mv s) := by
  unfold execLvGateCheck
  refine ends_next ?_
  refine Alter.step ?_ (alter_lvGateCheck ..) rfl
  refine Alter.step ?_ (alter_tick ..) rfl
  exact Alter.refl _ _

end Sys2Proof.Machine
end

