-- ==== Sys2Proof/Laws/Can.lean ====
section
/-! SUPPORT. What each operation of `Sys2Proof.Machine.Can` may change (`Alter`), one lemma an operation; for a command,
that it answers a next state (`Ends`). -/

namespace Sys2Proof.Machine

theorem alter_setCan (c : Nat) (x : CanCtl) (s : State) : Alter 162259276829213363391578010288128 s (setCan c x s) := by
  unfold setCan
  refine Alter.step ?_ (alter_can _ _) rfl
  exact Alter.refl _ _

theorem alter_canFlag (c : Nat) (f : Fld) (s : State) : Alter 147573952589676412928 s (canFlag c f s) := by
  unfold canFlag
  refine Alter.step ?_ (alter_setBitAt ..) (by decide)
  exact Alter.refl _ _

theorem alter_canActive (c : Nat) (s : State) : Alter 147573952589676412928 s (canActive c s) := by
  unfold canActive
  extract_lets +onlyGivenNames x1
  subst x1
  refine Alter.step ?_ (alter_setFld ..) (rm_high (by simp only [R.CAN_C_STAT]; omega) rfl)
  exact Alter.refl _ _

theorem alter_canJoin (c : Nat) (s : State) : Alter 162259276829213363391578010288128 s (canJoin c s) := by
  unfold canJoin
  refine alter_ite (fun _ => ?_) (fun _ => ?_)
  · exact Alter.refl _ _
  · refine Alter.step ?_ (alter_setCan ..) rfl
    exact Alter.refl _ _

theorem alter_canLeave (c : Nat) (s : State) : Alter 162259276829360937344167686701056 s (canLeave c s) := by
  unfold canLeave
  extract_lets +onlyGivenNames x1
  subst x1
  extract_lets +onlyGivenNames x2
  have h3 : Alter 162259276829360937344167686701056 s x2 := by
    unfold x2
    refine Alter.step ?_ (alter_setCan ..) rfl
    exact Alter.refl _ _
  clear_value x2
  refine alter_ite (fun _ => ?_) (fun _ => ?_)
  · assumption
  · refine Alter.step ?_ (alter_setFld ..) (rm_high (by simp only [R.CAN_C_STAT]; omega) rfl)
    assumption

theorem alter_canIntegrated (c : Nat) (s : State) : Alter 162259276829360937344167686701056 s (canIntegrated c s) := by
  unfold canIntegrated
  extract_lets +onlyGivenNames x1
  subst x1
  refine alter_ite (fun _ => ?_) (fun _ => ?_)
  · refine Alter.step ?_ (alter_canActive ..) rfl
    refine Alter.step ?_ (alter_setCan ..) rfl
    exact Alter.refl _ _
  · exact Alter.refl _ _

theorem alter_execCanIntegrated (e : Nat) (c : Fin 3) (s : State) : Ends 162259276829471617808609944010752 s (execCanIntegrated e c s) := by
  unfold execCanIntegrated
  refine ends_next ?_
  refine Alter.step ?_ (alter_canIntegrated ..) rfl
  refine Alter.step ?_ (alter_tick ..) rfl
  exact Alter.refl _ _

theorem alter_canRecovered (c : Nat) (s : State) : Alter 94594903609982580686848 s (canRecovered c s) := by
  unfold canRecovered
  refine alter_ite (fun _ => ?_) (fun _ => ?_)
  · extract_lets +onlyGivenNames x1
    have h2 : Alter 94594903609982580686848 s x1 := by
      unfold x1
      refine Alter.step ?_ (alter_setFld ..) (rm_high (by simp only [R.CAN_C_STAT]; omega) rfl)
      refine Alter.step ?_ (alter_setBit ..) (rm_high (by simp only [R.CAN_C_STAT]; omega) rfl)
      exact Alter.refl _ _
    clear_value x1
    extract_lets +onlyGivenNames x3
    have h4 : Alter 94594903609982580686848 s x3 := by
      unfold x3
      refine Alter.step ?_ (alter_setFld ..) (rm_high (by simp only [R.CAN_C_STAT]; omega) rfl)
      assumption
    clear_value x3
    extract_lets +onlyGivenNames x5
    have h6 : Alter 94594903609982580686848 s x5 := by
      unfold x5
      refine Alter.step ?_ (alter_setFld ..) (rm_high (by simp only [R.CAN_C_STAT]; omega) rfl)
      assumption
    clear_value x5
    refine Alter.step ?_ (alter_raise ..) rfl
    assumption
  · exact Alter.refl _ _

theorem alter_execCanRecovered (e : Nat) (c : Fin 3) (s : State) : Ends 94705584074424837996544 s (execCanRecovered e c s) := by
  unfold execCanRecovered
  refine ends_next ?_
  refine Alter.step ?_ (alter_canRecovered ..) rfl
  refine Alter.step ?_ (alter_tick ..) rfl
  exact Alter.refl _ _

theorem alter_canRecover (c : Nat) (s : State) : Alter 147573952589676412928 s (canRecover c s) := by
  unfold canRecover
  refine alter_ite (fun _ => ?_) (fun _ => ?_)
  · refine Alter.step ?_ (alter_setBit ..) (rm_high (by simp only [R.CAN_C_STAT]; omega) rfl)
    exact Alter.refl _ _
  · exact Alter.refl _ _

theorem alter_canErr (c : Nat) (f : Fld) (k : Nat) (s : State) : Alter 94594903609982580686848 s (canErr c f k s) := by
  unfold canErr
  extract_lets +onlyGivenNames x1
  subst x1
  extract_lets +onlyGivenNames x2
  have h3 : Alter 94594903609982580686848 s x2 := by
    unfold x2
    refine Alter.step ?_ (alter_setFld ..) (rm_high (by simp only [R.CAN_C_STAT]; omega) rfl)
    exact Alter.refl _ _
  clear_value x2
  refine alter_ite (fun _ => ?_) (fun _ => ?_)
  · extract_lets +onlyGivenNames x4
    have h5 : Alter 94594903609982580686848 s x4 := by
      unfold x4
      refine alter_ite (fun _ => ?_) (fun _ => ?_)
      · refine Alter.step ?_ (alter_setFld ..) (rm_high (by simp only [R.CAN_C_STAT]; omega) rfl)
        assumption
      · assumption
    clear_value x4
    refine Alter.step ?_ (alter_raise ..) rfl
    refine Alter.step ?_ (alter_canFlag ..) rfl
    assumption
  · assumption

theorem alter_canRxError (c : Nat) (lec : Nat) (by8 : Bool) (s : State) : Alter 94594903609982580686848 s (canRxError c lec by8 s) := by
  unfold canRxError
  extract_lets +onlyGivenNames x1
  subst x1
  refine alter_ite (fun _ => ?_) (fun _ => ?_)
  · refine Alter.step ?_ (alter_canErr ..) rfl
    refine Alter.step ?_ (alter_setFld ..) (rm_high (by simp only [R.CAN_C_STAT]; omega) rfl)
    exact Alter.refl _ _
  · exact Alter.refl _ _

theorem alter_execCanReceiveError (e : Nat) (c : Fin 3) (lec : Fin 7) (by8 : Bool) (s : State) : Ends 94705584074424837996544 s (execCanReceiveError e c lec by8 s) := by
  unfold execCanReceiveError
  refine ends_next ?_
  refine Alter.step ?_ (alter_canRxError ..) rfl
  refine Alter.step ?_ (alter_tick ..) rfl
  exact Alter.refl _ _

theorem alter_canShowQ (c : Nat) (s : State) : Alter 147573952589676412928 s (canShowQ c s) := by
  unfold canShowQ
  refine Alter.step ?_ (alter_setFld ..) (rm_high (by simp only [R.CAN_C_STAT]; omega) rfl)
  exact Alter.refl _ _

theorem alter_canLoad (c : Nat) (v : Reg) (s : State) : Alter 162259276829360937344167686701056 s (canLoad c v s) := by
  unfold canLoad
  extract_lets +onlyGivenNames x1
  subst x1
  extract_lets +onlyGivenNames x2
  subst x2
  extract_lets +onlyGivenNames x3
  subst x3
  refine alter_ite (fun _ => ?_) (fun _ => ?_)
  · refine Alter.step ?_ (alter_canShowQ ..) rfl
    refine Alter.step ?_ (alter_setCan ..) rfl
    exact Alter.refl _ _
  · refine Alter.step ?_ (alter_setCan ..) rfl
    exact Alter.refl _ _

theorem alter_canReq (c : Nat) (v : Reg) (s : State) : Alter 162259276829213363391578010288128 s (canReq c v s) := by
  unfold canReq
  refine Alter.and ?_ (alter_forEach _ _ _ ?_)
  · exact Alter.refl _ _
  · intro a1 b2
    beta_reduce
    extract_lets +onlyGivenNames x3
    subst x3
    split
    · rename_i z4 z5 z6
      refine Alter.step ?_ (alter_setCan ..) rfl
      exact Alter.refl _ _
    · rename_i z7 z8
      exact Alter.refl _ _

theorem alter_canTxStart (c : Nat) (s : State) : Alter 162259276829213363391578010288128 s (canTxStart c s) := by
  unfold canTxStart
  extract_lets +onlyGivenNames x1
  subst x1
  extract_lets +onlyGivenNames x2
  subst x2
  extract_lets +onlyGivenNames x3
  subst x3
  refine alter_ite (fun _ => ?_) (fun _ => ?_)
  · split
    · rename_i z4 z5
      exact Alter.refl _ _
    · rename_i z6 z7 z8 z9 z10
      refine Alter.step ?_ (alter_setCan ..) rfl
      exact Alter.refl _ _
  · exact Alter.refl _ _

theorem alter_execCanTxStart (e : Nat) (c : Fin 3) (s : State) : Ends 162259276829324043856020267597824 s (execCanTxStart e c s) := by
  unfold execCanTxStart
  refine ends_next ?_
  refine Alter.step ?_ (alter_canTxStart ..) rfl
  refine Alter.step ?_ (alter_tick ..) rfl
  exact Alter.refl _ _

theorem alter_canDone (c : Nat) (m : Nat) (s : State) : Alter 147573952589676412928 s (canDone c m s) := by
  unfold canDone
  refine Alter.step ?_ (alter_setBitAt ..) (rm_high (by simp only [R.CAN_C_TXDONE]; omega) rfl)
  exact Alter.refl _ _

theorem alter_canEnd (c : Nat) (k : Nat) (status : Nat) (s : State) : Alter 162259276829360937344167686701056 s (canEnd c k status s) := by
  unfold canEnd
  extract_lets +onlyGivenNames x1
  subst x1
  refine alter_ite (fun _ => ?_) (fun _ => ?_)
  · refine Alter.step ?_ (alter_canDone ..) rfl
    refine Alter.step ?_ (alter_setCan ..) rfl
    exact Alter.refl _ _
  · refine alter_ite (fun _ => ?_) (fun _ => ?_)
    · refine Alter.step ?_ (alter_canShowQ ..) rfl
      refine Alter.step ?_ (alter_setCan ..) rfl
      exact Alter.refl _ _
    · refine alter_ite (fun _ => ?_) (fun _ => ?_)
      · refine Alter.step ?_ (alter_setCan ..) rfl
        exact Alter.refl _ _
      · extract_lets +onlyGivenNames x2
        have h3 : Alter 162259276829360937344167686701056 s x2 := by
          unfold x2
          refine alter_ite (fun _ => ?_) (fun _ => ?_)
          · refine Alter.step ?_ (alter_incFld ..) (rm_high (by simp only [R.CAN_C_STAT]; omega) rfl)
            exact Alter.refl _ _
          · exact Alter.refl _ _
        clear_value x2
        extract_lets +onlyGivenNames x4
        subst x4
        refine Alter.step ?_ (alter_setCan ..) rfl
        assumption

theorem alter_canFailed (c : Nat) (k : Nat) (b : CanBox) (s : State) : Alter 162259276923808267001560590974976 s (canFailed c k b s) := by
  unfold canFailed
  extract_lets +onlyGivenNames x1
  subst x1
  extract_lets +onlyGivenNames x2
  subst x2
  refine alter_ite (fun _ => ?_) (fun _ => ?_)
  · refine Alter.step ?_ (alter_canEnd ..) rfl
    refine Alter.step ?_ (alter_setCan ..) rfl
    exact Alter.refl _ _
  · refine alter_ite (fun _ => ?_) (fun _ => ?_)
    · refine Alter.step ?_ (alter_canEnd ..) rfl
      exact Alter.refl _ _
    · refine alter_ite (fun _ => ?_) (fun _ => ?_)
      · refine Alter.step ?_ (alter_setCan ..) rfl
        exact Alter.refl _ _
      · extract_lets +onlyGivenNames x3
        have h4 : Alter 162259276923808267001560590974976 s x3 := by
          unfold x3
          refine Alter.step ?_ (alter_canEnd ..) rfl
          refine Alter.step ?_ (alter_setCan ..) rfl
          exact Alter.refl _ _
        clear_value x3
        refine alter_ite (fun _ => ?_) (fun _ => ?_)
        · refine Alter.step ?_ (alter_raise ..) rfl
          refine Alter.step ?_ (alter_canFlag ..) rfl
          assumption
        · assumption

theorem alter_canBusOff (c : Nat) (s : State) : Alter 94594903609982580686848 s (canBusOff c s) := by
  unfold canBusOff
  refine Alter.step ?_ (alter_raise ..) rfl
  refine Alter.step ?_ (alter_canFlag ..) rfl
  refine Alter.step ?_ (alter_setFld ..) (rm_high (by simp only [R.CAN_C_STAT]; omega) rfl)
  exact Alter.refl _ _

theorem alter_canTxEnd (c : Nat) (res : Nat) (lec : Nat) (exc : Bool) (s : State) : Alter 162259276923808267001560590974976 s (canTxEnd c res lec exc s) := by
  unfold canTxEnd
  extract_lets +onlyGivenNames x1
  subst x1
  split
  · rename_i z2 z3 z4 z5 z6 z7
    extract_lets +onlyGivenNames x8
    subst x8
    extract_lets +onlyGivenNames x9
    have h10 : Alter 162259276923808267001560590974976 s x9 := by
      unfold x9
      refine Alter.step ?_ (alter_setFld ..) (rm_high (by simp only [R.CAN_C_STAT]; omega) rfl)
      exact Alter.refl _ _
    clear_value x9
    extract_lets +onlyGivenNames x11
    have h12 : Alter 162259276923808267001560590974976 s x11 := by
      unfold x11
      refine alter_ite (fun _ => ?_) (fun _ => ?_)
      · assumption
      · refine Alter.step ?_ (alter_canErr ..) rfl
        assumption
    clear_value x11
    extract_lets +onlyGivenNames x13
    have h14 : Alter 162259276923808267001560590974976 s x13 := by
      unfold x13
      refine alter_ite (fun _ => ?_) (fun _ => ?_)
      · refine Alter.step ?_ (alter_canBusOff ..) rfl
        assumption
      · assumption
    clear_value x13
    extract_lets +onlyGivenNames x15
    have h16 : Alter 162259276923808267001560590974976 s x15 := by
      unfold x15
      refine alter_ite (fun _ => ?_) (fun _ => ?_)
      · refine Alter.step ?_ (alter_canEnd ..) rfl
        refine Alter.step ?_ (alter_setFld ..) (rm_high (by simp only [R.CAN_C_STAT]; omega) rfl)
        exact Alter.refl _ _
      · refine alter_ite (fun _ => ?_) (fun _ => ?_)
        · refine Alter.step ?_ (alter_canFailed ..) rfl
          exact Alter.refl _ _
        · refine Alter.step ?_ (alter_canFailed ..) rfl
          assumption
    clear_value x15
    extract_lets +onlyGivenNames x17
    subst x17
    refine alter_ite (fun _ => ?_) (fun _ => ?_)
    · refine alter_ite (fun _ => ?_) (fun _ => ?_)
      · refine Alter.step ?_ (alter_canActive ..) rfl
        assumption
      · refine Alter.step ?_ (alter_canLeave ..) rfl
        assumption
    · assumption
  · rename_i z18 z19 z20
    exact Alter.refl _ _

theorem alter_execCanTxAttemptEnd (e : Nat) (c : Fin 3) (res : Fin 3) (lec : Fin 7) (exc : Bool) (s : State) : Ends 162259276923918947466002848284672 s (execCanTxAttemptEnd e c res lec exc s) := by
  unfold execCanTxAttemptEnd
  refine ends_next ?_
  refine Alter.step ?_ (alter_canTxEnd ..) rfl
  refine Alter.step ?_ (alter_tick ..) rfl
  exact Alter.refl _ _

theorem alter_canCancel (c : Nat) (m : Nat) (s : State) : Alter 162259276829360937344167686701056 s (canCancel c m s).2 := by
  unfold canCancel
  extract_lets +onlyGivenNames x1
  subst x1
  split
  · rename_i z2 z3 z4
    refine alter_ite_snd (fun _ => ?_) (fun _ => ?_)
    · dsimp only
      refine Alter.step ?_ (alter_canDone ..) rfl
      refine Alter.step ?_ (alter_setCan ..) rfl
      exact Alter.refl _ _
    · refine alter_ite_snd (fun _ => ?_) (fun _ => ?_)
      · dsimp only
        refine Alter.step ?_ (alter_setCan ..) rfl
        exact Alter.refl _ _
      · dsimp only
        exact Alter.refl _ _
  · rename_i z5 z6
    dsimp only
    exact Alter.refl _ _

theorem alter_canFlush (c : Nat) (s : State) : Alter 162259276829360937344167686701056 s (canFlush c s).2 := by
  unfold canFlush
  extract_lets +onlyGivenNames x1
  subst x1
  refine alter_ite_snd (fun _ => ?_) (fun _ => ?_)
  · extract_lets +onlyGivenNames x2
    subst x2
    dsimp only
    refine Alter.step ?_ (alter_canShowQ ..) rfl
    refine Alter.step ?_ (alter_setCan ..) rfl
    exact Alter.refl _ _
  · dsimp only
    refine Alter.step ?_ (alter_canShowQ ..) rfl
    refine Alter.step ?_ (alter_setCan ..) rfl
    exact Alter.refl _ _

theorem alter_canShowRx (c : Nat) (s : State) : Alter 147573952589676412928 s (canShowRx c s) := by
  unfold canShowRx
  refine Alter.step ?_ (alter_setFld ..) (rm_high (by simp only [R.CAN_C_RXSTAT]; omega) rfl)
  exact Alter.refl _ _

theorem alter_canOffer (c : Nat) (f : CanFrame) (sof : Nat) (s : State) : Alter 162259276923808267001560590974976 s (canOffer c f sof s) := by
  unfold canOffer
  split
  · rename_i z1 z2
    exact Alter.refl _ _
  · rename_i z3 z4 z5
    exact Alter.refl _ _
  · rename_i z6 z7 z8
    extract_lets +onlyGivenNames x9
    subst x9
    refine alter_ite (fun _ => ?_) (fun _ => ?_)
    · extract_lets +onlyGivenNames x10
      have h11 : Alter 162259276923808267001560590974976 s x10 := by
        unfold x10
        refine Alter.step ?_ (alter_canFlag ..) rfl
        refine Alter.step ?_ (alter_incFld ..) (rm_high (by simp only [R.CAN_C_RXSTAT]; omega) rfl)
        exact Alter.refl _ _
      clear_value x10
      extract_lets +onlyGivenNames x12
      subst x12
      extract_lets +onlyGivenNames x13
      have h14 : Alter 162259276923808267001560590974976 s x13 := by
        unfold x13
        refine Alter.step ?_ (alter_setCan ..) rfl
        assumption
      clear_value x13
      refine alter_ite (fun _ => ?_) (fun _ => ?_)
      · assumption
      · refine Alter.step ?_ (alter_raise ..) rfl
        assumption
    · refine Alter.step ?_ (alter_canShowRx ..) rfl
      refine Alter.step ?_ (alter_setCan ..) rfl
      exact Alter.refl _ _

theorem alter_canRxAck (c : Nat) (n : Nat) (s : State) : Alter 162259276829360937344167686701056 s (canRxAck c n s) := by
  unfold canRxAck
  extract_lets +onlyGivenNames x1
  subst x1
  refine Alter.step ?_ (alter_canShowRx ..) rfl
  refine Alter.step ?_ (alter_setCan ..) rfl
  exact Alter.refl _ _

theorem alter_canFifoLost (c : Nat) (s : State) : Alter 162259276923808267001560590974976 s (canFifoLost c s) := by
  unfold canFifoLost
  extract_lets +onlyGivenNames x1
  subst x1
  refine Alter.step ?_ (alter_xfDiscard ..) rfl
  refine Alter.step ?_ (alter_setCan ..) rfl
  exact Alter.refl _ _

theorem alter_canRxGood (c : Nat) (s : State) : Alter 442721857769029238784 s (canRxGood c s) := by
  unfold canRxGood
  extract_lets +onlyGivenNames x1
  subst x1
  extract_lets +onlyGivenNames x2
  have h3 : Alter 442721857769029238784 s x2 := by
    unfold x2
    refine alter_ite (fun _ => ?_) (fun _ => ?_)
    · split
      · rename_i z4 z5 z6 z7
        have h8 : Alter 442721857769029238784 s z6 := by
          refine (congrArg (Alter _ _) (congrArg (Prod.snd) z7)).mp ?_
          refine Alter.step ?_ (alter_draw ..) rfl
          exact Alter.refl _ _
        refine Alter.step ?_ (alter_setFld ..) (rm_high (by simp only [R.CAN_C_STAT]; omega) rfl)
        assumption
    · refine Alter.step ?_ (alter_setFld ..) (rm_high (by simp only [R.CAN_C_STAT]; omega) rfl)
      exact Alter.refl _ _
  clear_value x2
  extract_lets +onlyGivenNames x9
  subst x9
  refine alter_ite (fun _ => ?_) (fun _ => ?_)
  · refine Alter.step ?_ (alter_canActive ..) rfl
    assumption
  · assumption

theorem alter_ptShow (s : State) : Alter 147573952589676412928 s (ptShow s) := by
  unfold ptShow
  extract_lets +onlyGivenNames x1
  subst x1
  refine Alter.step ?_ (alter_setFld ..) (by decide)
  refine Alter.step ?_ (alter_setFld ..) (by decide)
  exact Alter.refl _ _

theorem alter_setPart (p : Nat) (x : Partner) (s : State) : Alter 162259276829360937344167686701056 s (setPart p x s) := by
  unfold setPart
  refine Alter.step ?_ (alter_ptShow ..) rfl
  refine Alter.step ?_ (alter_can _ _) rfl
  exact Alter.refl _ _

theorem alter_partnerLost (p : Nat) (s : State) : Alter 162259276923918947466002848284672 s (partnerLost p s) := by
  unfold partnerLost
  split
  · rename_i z1 z2 z3
    refine alter_ite (fun _ => ?_) (fun _ => ?_)
    · extract_lets +onlyGivenNames x4
      subst x4
      extract_lets +onlyGivenNames x5
      have h6 : Alter 162259276923918947466002848284672 s x5 := by
        unfold x5
        refine Alter.step ?_ (alter_until ..) rfl
        exact Alter.refl _ _
      clear_value x5
      refine Alter.step ?_ (alter_raiseAt ..) rfl
      refine Alter.step ?_ (alter_setPart ..) rfl
      assumption
    · exact Alter.refl _ _
  · rename_i z7 z8
    exact Alter.refl _ _

theorem alter_heartbeat (c : Nat) (n : Nat) (t : Nat) (f : CanFrame) (s : State) : Alter 243388915338525629161791853428736 s (heartbeat c n t f s) := by
  unfold heartbeat
  extract_lets +onlyGivenNames x1
  subst x1
  extract_lets +onlyGivenNames x2
  subst x2
  refine alter_ite (fun _ => ?_) (fun _ => ?_)
  · refine Alter.step ?_ (alter_setBit ..) (by decide)
    refine Alter.step ?_ (alter_incFld ..) (by decide)
    exact Alter.refl _ _
  · extract_lets +onlyGivenNames x3
    subst x3
    extract_lets +onlyGivenNames x4
    have h5 : Alter 243388915338525629161791853428736 s x4 := by
      unfold x4
      refine Alter.step ?_ (alter_jWrite ..) rfl
      exact Alter.refl _ _
    clear_value x4
    extract_lets +onlyGivenNames x6
    have h7 : Alter 243388915338525629161791853428736 s x6 := by
      unfold x6
      split
      · rename_i z8 z9 z10 z11
        refine alter_ite (fun _ => ?_) (fun _ => ?_)
        · refine Alter.step ?_ (alter_partnerLost ..) rfl
          assumption
        · assumption
      · rename_i z12 z13
        assumption
    clear_value x6
    extract_lets +onlyGivenNames x14
    have h15 : ∀ y16, Alter 243388915338525629161791853428736 y16 (x14 y16) := by
      intro y16
      unfold x14
      beta_reduce
      refine Alter.step ?_ (alter_can _ _) rfl
      exact Alter.refl _ _
    clear_value x14
    split
    · rename_i z17 z18 z19 z20
      refine alter_ite (fun _ => ?_) (fun _ => ?_)
      · extract_lets +onlyGivenNames x21
        have h22 : Alter 243388915338525629161791853428736 s x21 := by
          unfold x21
          refine Alter.step ?_ (alter_raise ..) rfl
          assumption
        clear_value x21
        refine Alter.step ?_ (alter_raise ..) rfl
        refine Alter.step ?_ (alter_setPart ..) rfl
        refine Alter.and ?_ (h15 ..)
        assumption
      · refine alter_ite (fun _ => ?_) (fun _ => ?_)
        · refine Alter.step ?_ (alter_setPart ..) rfl
          refine Alter.and ?_ (h15 ..)
          assumption
        · refine Alter.step ?_ (alter_raise ..) rfl
          refine Alter.step ?_ (alter_setPart ..) rfl
          refine Alter.and ?_ (h15 ..)
          assumption
    · rename_i z23 z24
      extract_lets +onlyGivenNames x25
      subst x25
      split
      · rename_i z26 z27 z28
        refine Alter.step ?_ (alter_raise ..) rfl
        refine Alter.step ?_ (alter_setPart ..) rfl
        refine Alter.and ?_ (h15 ..)
        assumption
      · rename_i z29 z30
        extract_lets +onlyGivenNames x31
        subst x31
        extract_lets +onlyGivenNames x32
        have h33 : Alter 243388915338525629161791853428736 s x32 := by
          unfold x32
          refine Alter.step ?_ (alter_setBit ..) (by decide)
          refine Alter.step ?_ (alter_incFld ..) (by decide)
          assumption
        clear_value x32
        extract_lets +onlyGivenNames x34
        subst x34
        extract_lets +onlyGivenNames x35
        have h36 : Alter 243388915338525629161791853428736 s x35 := by
          unfold x35
          refine Alter.step ?_ (alter_can _ _) rfl
          assumption
        clear_value x35
        refine alter_ite (fun _ => ?_) (fun _ => ?_)
        · assumption
        · refine Alter.step ?_ (alter_raise ..) rfl
          assumption

theorem alter_execPartnerLost (e : Nat) (p : Fin 64) (s : State) : Ends 162259276923918947466002848284672 s (execPartnerLost e p s) := by
  unfold execPartnerLost
  refine ends_next ?_
  refine Alter.step ?_ (alter_partnerLost ..) rfl
  refine Alter.step ?_ (alter_tick ..) rfl
  exact Alter.refl _ _

theorem alter_ptPurge (s : State) : Alter 162259276829360937344167686701056 s (ptPurge s) := by
  unfold ptPurge
  refine Alter.step ?_ (alter_ptShow ..) rfl
  refine Alter.step ?_ (alter_can _ _) rfl
  exact Alter.refl _ _

theorem alter_heartbeatSend (s : State) : Alter 162259276829324043856020267597824 s (heartbeatSend s) := by
  unfold heartbeatSend
  extract_lets +onlyGivenNames x1
  have h2 : Alter 162259276829324043856020267597824 s x1 := by
    unfold x1
    refine Alter.step ?_ (alter_until ..) rfl
    exact Alter.refl _ _
  clear_value x1
  extract_lets +onlyGivenNames x3
  subst x3
  extract_lets +onlyGivenNames x4
  have h5 : Alter 162259276829324043856020267597824 s x4 := by
    unfold x4
    refine Alter.step ?_ (alter_can _ _) rfl
    assumption
  clear_value x4
  refine Alter.and ?_ (alter_forEach _ _ _ ?_)
  · assumption
  · intro a6 b7
    beta_reduce
    extract_lets +onlyGivenNames x8
    subst x8
    extract_lets +onlyGivenNames x9
    subst x9
    refine alter_ite (fun _ => ?_) (fun _ => ?_)
    · refine Alter.step ?_ (alter_setCan ..) rfl
      exact Alter.refl _ _
    · refine Alter.step ?_ (alter_setCan ..) rfl
      exact Alter.refl _ _

theorem alter_execHeartbeatSend (e : Nat) (s : State) : Ends 162259276829324043856020267597824 s (execHeartbeatSend e s) := by
  unfold execHeartbeatSend
  extract_lets +onlyGivenNames x1
  have h2 : Alter 162259276829324043856020267597824 s x1 := by
    unfold x1
    refine Alter.step ?_ (alter_tick ..) rfl
    exact Alter.refl _ _
  clear_value x1
  refine ends_next ?_
  refine alter_ite (fun _ => ?_) (fun _ => ?_)
  · refine Alter.step ?_ (alter_heartbeatSend ..) rfl
    assumption
  · assumption

theorem alter_canEnable (c : Nat) (was : Bool) (s : State) : Alter 162259276829360937344167686701056 s (canEnable c was s) := by
  unfold canEnable
  extract_lets +onlyGivenNames x1
  subst x1
  refine alter_ite (fun _ => ?_) (fun _ => ?_)
  · refine Alter.step ?_ (alter_canJoin ..) rfl
    exact Alter.refl _ _
  · refine alter_ite (fun _ => ?_) (fun _ => ?_)
    · refine Alter.step ?_ (alter_canLeave ..) rfl
      exact Alter.refl _ _
    · exact Alter.refl _ _

theorem alter_fwinStep (s : State) : Alter 147573952589676412928 s (fwinStep s) := by
  unfold fwinStep
  refine alter_ite (fun _ => ?_) (fun _ => ?_)
  · refine Alter.step ?_ (alter_setFld ..) (by decide)
    exact Alter.refl _ _
  · exact Alter.refl _ _

theorem alter_fwinWrite (v : Reg) (s : State) : Alter 162259276829360937344167686701056 s (fwinWrite v s) := by
  unfold fwinWrite
  split
  · rename_i z1 z2 z3 z4 z5
    extract_lets +onlyGivenNames x6
    subst x6
    extract_lets +onlyGivenNames x7
    subst x7
    refine Alter.step ?_ (alter_fwinStep ..) rfl
    refine Alter.step ?_ (alter_setCan ..) rfl
    exact Alter.refl _ _

theorem alter_canBoot (s : State) : Alter 162259276829213363391578010288128 s (canBoot s) := by
  unfold canBoot
  extract_lets +onlyGivenNames x1
  subst x1
  extract_lets +onlyGivenNames x2
  have h3 : Alter 162259276829213363391578010288128 s x2 := by
    unfold x2
    refine Alter.step ?_ (alter_can _ _) rfl
    exact Alter.refl _ _
  clear_value x2
  refine Alter.and ?_ (alter_forEach _ _ _ ?_)
  · assumption
  · intro a4 b5
    beta_reduce
    refine alter_ite (fun _ => ?_) (fun _ => ?_)
    · refine Alter.step ?_ (alter_canJoin ..) rfl
      exact Alter.refl _ _
    · exact Alter.refl _ _

theorem alter_canStandby (s : State) : Alter 162259276829360937344167686701056 s (canStandby s) := by
  unfold canStandby
  refine Alter.and ?_ (alter_forEach _ _ _ ?_)
  · exact Alter.refl _ _
  · intro a1 b2
    beta_reduce
    extract_lets +onlyGivenNames x3
    subst x3
    refine Alter.step ?_ (alter_canLeave ..) rfl
    refine Alter.step ?_ (alter_setCan ..) rfl
    exact Alter.refl _ _

end Sys2Proof.Machine
end

