-- ==== Sys2Proof/Laws/Life.lean ====
section
/-! SUPPORT. What each operation of `Sys2Proof.Machine.Life` may change (`Alter`), one lemma an operation; for a command,
that it answers a next state (`Ends`). -/

namespace Sys2Proof.Machine

theorem alter_lifeFlag (f : Fld) (s : State) : Alter 147573952589676412928 s (lifeFlag f s) := by
  unfold lifeFlag
  refine Alter.step ?_ (alter_setBit ..) (by decide)
  exact Alter.refl _ _

theorem alter_lifeShow (n : Nat) (s : State) : Alter 147573952589676412928 s (lifeShow n s) := by
  unfold lifeShow
  extract_lets +onlyGivenNames x1
  subst x1
  refine Alter.step ?_ (alter_setFld ..) (rm_high (by simp only [R.LIFE_I_DMG]; omega) rfl)
  refine Alter.step ?_ (alter_setSfld ..) (rm_high (by simp only [R.LIFE_I_TJ]; omega) rfl)
  exact Alter.refl _ _

theorem alter_lifeWarn (n : Nat) (s : State) : Alter 5070602495507821215969393508352 s (lifeWarn n s) := by
  unfold lifeWarn
  extract_lets +onlyGivenNames x1
  subst x1
  extract_lets +onlyGivenNames x2
  subst x2
  refine alter_ite (fun _ => ?_) (fun _ => ?_)
  · refine Alter.step ?_ (alter_raise ..) rfl
    refine Alter.step ?_ (alter_lifeFlag ..) rfl
    refine Alter.step ?_ (alter_setLife ..) rfl
    exact Alter.refl _ _
  · exact Alter.refl _ _

theorem alter_lifeCount (n : Nat) (p : Int) (q : Int) (k : Nat) (s : State) : Alter 5070602495507821215969393508352 s (lifeCount n p q k s) := by
  unfold lifeCount
  split
  · rename_i z1 z2 z3 z4
    split
    · rename_i z5 z6 z7 z8
      extract_lets +onlyGivenNames x9
      have h10 : Alter 5070602495507821215969393508352 s x9 := by
        unfold x9
        refine alter_ite (fun _ => ?_) (fun _ => ?_)
        · refine Alter.step ?_ (alter_lifeFlag ..) rfl
          exact Alter.refl _ _
        · exact Alter.refl _ _
      clear_value x9
      extract_lets +onlyGivenNames x11
      subst x11
      extract_lets +onlyGivenNames x12
      subst x12
      extract_lets +onlyGivenNames x13
      subst x13
      extract_lets +onlyGivenNames x14
      subst x14
      refine Alter.step ?_ (alter_lifeWarn ..) rfl
      refine Alter.step ?_ (alter_setLife ..) rfl
      assumption

theorem alter_lifeInner (n k : Nat) (s : State) : Alter 5070602495507821215969393508352 s (lifeInner n k s) := by
  induction k generalizing s with
  | zero => exact Alter.refl _ _
  | succ k ih =>
    unfold lifeInner
    split
    · split
      · extract_lets s1
        have h : Alter 5070602495507821215969393508352 s s1 := by
          unfold s1
          exact (alter_lifeCount ..).mono rfl
        clear_value s1
        exact (h.step (alter_setLife ..) rfl).and (ih _)
      · exact Alter.refl _ _
    · exact Alter.refl _ _

theorem alter_lifePush (n : Nat) (p : Int) (s : State) : Alter 5070602495507821215969393508352 s (lifePush n p s) := by
  unfold lifePush
  extract_lets +onlyGivenNames x1
  have h2 : Alter 5070602495507821215969393508352 s x1 := by
    unfold x1
    refine alter_ite (fun _ => ?_) (fun _ => ?_)
    · split
      · rename_i z3 z4 z5 z6 z7
        extract_lets +onlyGivenNames x8
        have h9 : Alter 5070602495507821215969393508352 s x8 := by
          unfold x8
          refine Alter.step ?_ (alter_lifeFlag ..) rfl
          refine Alter.step ?_ (alter_lifeCount ..) rfl
          exact Alter.refl _ _
        clear_value x8
        refine Alter.step ?_ (alter_setLife ..) rfl
        assumption
      · rename_i z10 z11
        exact Alter.refl _ _
    · exact Alter.refl _ _
  clear_value x1
  extract_lets +onlyGivenNames x12
  subst x12
  refine Alter.step ?_ (alter_lifeInner ..) rfl
  refine Alter.step ?_ (alter_setLife ..) rfl
  assumption

theorem alter_lifeFeed (n : Nat) (v : Int) (s : State) : Alter 5070602495507821215969393508352 s (lifeFeed n v s) := by
  unfold lifeFeed
  extract_lets +onlyGivenNames x1
  subst x1
  extract_lets +onlyGivenNames x2
  subst x2
  split
  · rename_i z3 z4
    refine Alter.step ?_ (alter_setLife ..) rfl
    exact Alter.refl _ _
  · rename_i z5 z6 z7
    extract_lets +onlyGivenNames x8
    subst x8
    refine alter_ite (fun _ => ?_) (fun _ => ?_)
    · refine alter_ite (fun _ => ?_) (fun _ => ?_)
      · extract_lets +onlyGivenNames x9
        have h10 : Alter 5070602495507821215969393508352 s x9 := by
          unfold x9
          refine Alter.step ?_ (alter_lifePush ..) rfl
          exact Alter.refl _ _
        clear_value x9
        refine Alter.step ?_ (alter_setLife ..) rfl
        assumption
      · exact Alter.refl _ _
    · refine alter_ite (fun _ => ?_) (fun _ => ?_)
      · refine Alter.step ?_ (alter_setLife ..) rfl
        exact Alter.refl _ _
      · refine alter_ite (fun _ => ?_) (fun _ => ?_)
        · extract_lets +onlyGivenNames x11
          have h12 : Alter 5070602495507821215969393508352 s x11 := by
            unfold x11
            refine Alter.step ?_ (alter_lifePush ..) rfl
            exact Alter.refl _ _
          clear_value x11
          refine Alter.step ?_ (alter_setLife ..) rfl
          assumption
        · exact Alter.refl _ _

theorem alter_tjUpdate (n : Nat) (raw : Int) (s : State) : Alter 5070602495507821215969393508352 s (tjUpdate n raw s) := by
  unfold tjUpdate
  extract_lets +onlyGivenNames x1
  subst x1
  extract_lets +onlyGivenNames x2
  subst x2
  extract_lets +onlyGivenNames x3
  subst x3
  extract_lets +onlyGivenNames x4
  have h5 : Alter 5070602495507821215969393508352 s x4 := by
    unfold x4
    refine Alter.step ?_ (alter_setBit ..) (rm_high (by simp only [R.LIFE_I_TJ]; omega) rfl)
    refine Alter.step ?_ (alter_setSfld ..) (rm_high (by simp only [R.LIFE_I_TJ]; omega) rfl)
    exact Alter.refl _ _
  clear_value x4
  extract_lets +onlyGivenNames x6
  subst x6
  refine Alter.step ?_ (alter_lifeShow ..) rfl
  refine Alter.step ?_ (alter_lifeFeed ..) rfl
  refine Alter.step ?_ (alter_setLife ..) rfl
  assumption

theorem alter_lifeEstimate (n : Nat) (b : Nat) (len : Nat) (s : State) : Alter 5070602495507821215969393508352 s (lifeEstimate n b len s) := by
  unfold lifeEstimate
  extract_lets +onlyGivenNames x1
  subst x1
  extract_lets +onlyGivenNames x2
  subst x2
  extract_lets +onlyGivenNames x3
  have h4 : Alter 5070602495507821215969393508352 s x3 := by
    unfold x3
    refine alter_ite (fun _ => ?_) (fun _ => ?_)
    · refine Alter.step ?_ (alter_setEst ..) rfl
      refine Alter.step ?_ (alter_setBit ..) (rm_high (by simp only [R.LIFE_I_TJ]; omega) rfl)
      exact Alter.refl _ _
    · exact Alter.refl _ _
  clear_value x3
  extract_lets +onlyGivenNames x5
  subst x5
  split
  · rename_i z6 z7
    assumption
  · rename_i z8 z9 z10 z11
    extract_lets +onlyGivenNames x12
    have h13 : Alter 5070602495507821215969393508352 s x12 := by
      unfold x12
      refine Alter.step ?_ (alter_setBit ..) (rm_high (by simp only [R.LIFE_I_TJ]; omega) rfl)
      refine Alter.step ?_ (alter_setBit ..) (rm_high (by simp only [R.LIFE_I_TJ]; omega) rfl)
      assumption
    clear_value x12
    extract_lets +onlyGivenNames x14
    have h15 : Alter 5070602495507821215969393508352 s x14 := by
      unfold x14
      refine alter_ite (fun _ => ?_) (fun _ => ?_)
      · refine Alter.step ?_ (alter_lifeFlag ..) rfl
        assumption
      · assumption
    clear_value x14
    refine Alter.step ?_ (alter_tjUpdate ..) rfl
    refine Alter.step ?_ (alter_setEst ..) rfl
    assumption

theorem alter_tjInvalid (n : Nat) (s : State) : Alter 258254417031933722624 s (tjInvalid n s) := by
  unfold tjInvalid
  extract_lets +onlyGivenNames x1
  subst x1
  extract_lets +onlyGivenNames x2
  subst x2
  refine alter_ite (fun _ => ?_) (fun _ => ?_)
  · extract_lets +onlyGivenNames x3
    have h4 : Alter 258254417031933722624 s x3 := by
      unfold x3
      refine Alter.step ?_ (alter_until ..) rfl
      exact Alter.refl _ _
    clear_value x3
    refine alter_ite (fun _ => ?_) (fun _ => ?_)
    · refine Alter.step ?_ (alter_setBit ..) (rm_high (by simp only [R.LIFE_I_TJ]; omega) rfl)
      assumption
    · refine Alter.step ?_ (alter_setBit ..) (rm_high (by simp only [R.LIFE_I_TJ]; omega) rfl)
      assumption
  · exact Alter.refl _ _

theorem alter_execTjInvalid (e : Nat) (n : Fin 48) (s : State) : Ends 258254417031933722624 s (execTjInvalid e n s) := by
  unfold execTjInvalid
  refine ends_next ?_
  refine Alter.step ?_ (alter_tjInvalid ..) rfl
  refine Alter.step ?_ (alter_tick ..) rfl
  exact Alter.refl _ _

theorem alter_calCap (n : Nat) (mv : Int) (t : Nat) (s : State) : Alter 147573952589676412928 s (calCap n mv t s) := by
  unfold calCap
  refine alter_ite (fun _ => ?_) (fun _ => ?_)
  · extract_lets +onlyGivenNames x1
    subst x1
    extract_lets +onlyGivenNames x2
    have h3 : Alter 147573952589676412928 s x2 := by
      unfold x2
      refine Alter.step ?_ (alter_setFld ..) (by decide)
      exact Alter.refl _ _
    clear_value x2
    extract_lets +onlyGivenNames x4
    have h5 : Alter 147573952589676412928 s x4 := by
      unfold x4
      split
      · rename_i z6 z7 z8 z9
        refine Alter.step ?_ (alter_setFld ..) (by decide)
        assumption
      · rename_i z10 z11
        assumption
    clear_value x4
    refine Alter.step ?_ (alter_setBit ..) (by decide)
    refine Alter.step ?_ (alter_setSfld ..) (by decide)
    assumption
  · exact Alter.refl _ _

theorem alter_vdsReport (n : Nat) (code : Nat) (s : State) : Alter 5581639619266589345865151807488 s (vdsReport n code s) := by
  unfold vdsReport
  extract_lets +onlyGivenNames x1
  subst x1
  extract_lets +onlyGivenNames x2
  have h3 : Alter 5581639619266589345865151807488 s x2 := by
    unfold x2
    refine Alter.step ?_ (alter_until ..) rfl
    exact Alter.refl _ _
  clear_value x2
  refine alter_ite (fun _ => ?_) (fun _ => ?_)
  · assumption
  · extract_lets +onlyGivenNames x4
    subst x4
    extract_lets +onlyGivenNames x5
    have h6 : Alter 5581639619266589345865151807488 s x5 := by
      unfold x5
      refine Alter.step ?_ (alter_setFld ..) (rm_high (by simp only [R.ISL_TEL_VDS]; omega) rfl)
      assumption
    clear_value x5
    refine alter_ite (fun _ => ?_) (fun _ => ?_)
    · refine Alter.step ?_ (alter_chopReport ..) rfl
      refine Alter.step ?_ (alter_setBit ..) (rm_high (by simp only [R.ISL_TEL_VDS]; omega) rfl)
      refine Alter.step ?_ (alter_setBit ..) (rm_high (by simp only [R.ISL_TEL_VDS]; omega) rfl)
      assumption
    · extract_lets +onlyGivenNames x7
      subst x7
      extract_lets +onlyGivenNames x8
      subst x8
      extract_lets +onlyGivenNames x9
      subst x9
      extract_lets +onlyGivenNames x10
      subst x10
      extract_lets +onlyGivenNames x11
      have h12 : Alter 5581639619266589345865151807488 s x11 := by
        unfold x11
        refine Alter.step ?_ (alter_setBit ..) (rm_high (by simp only [R.ISL_TEL_VDS]; omega) rfl)
        refine Alter.step ?_ (alter_setSfld ..) (rm_high (by simp only [R.ISL_TEL_VDS]; omega) rfl)
        assumption
      clear_value x11
      extract_lets +onlyGivenNames x13
      have h14 : Alter 5581639619266589345865151807488 s x13 := by
        unfold x13
        refine Alter.step ?_ (alter_setBit ..) (rm_high (by simp only [R.ISL_TEL_VDS]; omega) rfl)
        refine Alter.step ?_ (alter_setBit ..) (rm_high (by simp only [R.ISL_TEL_VDS]; omega) rfl)
        refine Alter.step ?_ (alter_setBit ..) (rm_high (by simp only [R.ISL_TEL_VDS]; omega) rfl)
        assumption
      clear_value x13
      extract_lets +onlyGivenNames x15
      have h16 : Alter 5581639619266589345865151807488 s x15 := by
        unfold x15
        refine Alter.step ?_ (alter_setBit ..) (rm_high (by simp only [R.ISL_FLAGS]; omega) rfl)
        assumption
      clear_value x15
      extract_lets +onlyGivenNames x17
      have h18 : Alter 5581639619266589345865151807488 s x17 := by
        unfold x17
        refine alter_ite (fun _ => ?_) (fun _ => ?_)
        · refine alter_ite (fun _ => ?_) (fun _ => ?_)
          · assumption
          · refine Alter.step ?_ (alter_raise ..) rfl
            assumption
        · assumption
      clear_value x17
      extract_lets +onlyGivenNames x19
      subst x19
      extract_lets +onlyGivenNames x20
      have h21 : Alter 5581639619266589345865151807488 s x20 := by
        unfold x20
        refine Alter.step ?_ (alter_setIsl ..) rfl
        assumption
      clear_value x20
      extract_lets +onlyGivenNames x22
      subst x22
      extract_lets +onlyGivenNames x23
      have h24 : Alter 5581639619266589345865151807488 s x23 := by
        unfold x23
        refine Alter.step ?_ (alter_setEst ..) rfl
        assumption
      clear_value x23
      extract_lets +onlyGivenNames x25
      have h26 : Alter 5581639619266589345865151807488 s x25 := by
        unfold x25
        refine Alter.step ?_ (alter_calCap ..) rfl
        assumption
      clear_value x25
      extract_lets +onlyGivenNames x27
      have h28 : Alter 5581639619266589345865151807488 s x27 := by
        unfold x27
        split
        · rename_i z29 z30 z31
          refine Alter.step ?_ (alter_xfPush ..) rfl
          assumption
        · rename_i z32 z33
          assumption
      clear_value x27
      refine Alter.step ?_ (alter_chopReport ..) rfl
      assumption

theorem alter_execIslVdsReport (e : Nat) (n : Fin 48) (code : BitVec 12) (s : State) : Ends 5581639619266589345865151807488 s (execIslVdsReport e n code s) := by
  unfold execIslVdsReport
  refine ends_next ?_
  refine Alter.step ?_ (alter_vdsReport ..) rfl
  refine Alter.step ?_ (alter_tick ..) rfl
  exact Alter.refl _ _

theorem alter_tjFromNtc (n : Nat) (s : State) : Alter 5070602495507821215969393508352 s (tjFromNtc n s) := by
  unfold tjFromNtc
  extract_lets +onlyGivenNames x1
  subst x1
  refine alter_ite (fun _ => ?_) (fun _ => ?_)
  · extract_lets +onlyGivenNames x2
    have h3 : Alter 5070602495507821215969393508352 s x2 := by
      unfold x2
      refine Alter.step ?_ (alter_setBit ..) (rm_high (by simp only [R.LIFE_I_TJ]; omega) rfl)
      exact Alter.refl _ _
    clear_value x2
    refine alter_ite (fun _ => ?_) (fun _ => ?_)
    · refine Alter.step ?_ (alter_setBit ..) (rm_high (by simp only [R.LIFE_I_TJ]; omega) rfl)
      assumption
    · refine Alter.step ?_ (alter_tjUpdate ..) rfl
      assumption
  · exact Alter.refl _ _

theorem alter_envReport (n : Nat) (code : Nat) (vdd : Nat) (vee : Nat) (s : State) : Alter 5080506015822104258168586502144 s (envReport n code vdd vee s) := by
  unfold envReport
  refine alter_ite (fun _ => ?_) (fun _ => ?_)
  · exact Alter.refl _ _
  · extract_lets +onlyGivenNames x1
    subst x1
    extract_lets +onlyGivenNames x2
    subst x2
    extract_lets +onlyGivenNames x3
    subst x3
    extract_lets +onlyGivenNames x4
    subst x4
    extract_lets +onlyGivenNames x5
    subst x5
    extract_lets +onlyGivenNames x6
    have h7 : Alter 5080506015822104258168586502144 s x6 := by
      unfold x6
      refine Alter.step ?_ (alter_setFld ..) (rm_high (by simp only [R.ISL_TEL_ENV]; omega) rfl)
      refine Alter.step ?_ (alter_setFld ..) (rm_high (by simp only [R.ISL_TEL_ENV]; omega) rfl)
      exact Alter.refl _ _
    clear_value x6
    extract_lets +onlyGivenNames x8
    have h9 : Alter 5080506015822104258168586502144 s x8 := by
      unfold x8
      refine Alter.step ?_ (alter_setBit ..) (rm_high (by simp only [R.ISL_TEL_ENV]; omega) rfl)
      refine Alter.step ?_ (alter_setBit ..) (rm_high (by simp only [R.ISL_TEL_ENV]; omega) rfl)
      assumption
    clear_value x8
    extract_lets +onlyGivenNames x10
    have h11 : Alter 5080506015822104258168586502144 s x10 := by
      unfold x10
      refine Alter.step ?_ (alter_setBit ..) (rm_high (by simp only [R.ISL_FLAGS]; omega) rfl)
      assumption
    clear_value x10
    extract_lets +onlyGivenNames x12
    have h13 : Alter 5080506015822104258168586502144 s x12 := by
      unfold x12
      refine alter_ite (fun _ => ?_) (fun _ => ?_)
      · refine alter_ite (fun _ => ?_) (fun _ => ?_)
        · assumption
        · refine Alter.step ?_ (alter_raise ..) rfl
          assumption
      · refine alter_ite (fun _ => ?_) (fun _ => ?_)
        · refine Alter.step ?_ (alter_setSfld ..) (rm_high (by simp only [R.ISL_TEL_ENV]; omega) rfl)
          assumption
        · assumption
    clear_value x12
    extract_lets +onlyGivenNames x14
    subst x14
    extract_lets +onlyGivenNames x15
    have h16 : Alter 5080506015822104258168586502144 s x15 := by
      unfold x15
      refine alter_ite (fun _ => ?_) (fun _ => ?_)
      · refine Alter.step ?_ (alter_setEst ..) rfl
        assumption
      · assumption
    clear_value x15
    extract_lets +onlyGivenNames x17
    have h18 : Alter 5080506015822104258168586502144 s x17 := by
      unfold x17
      split
      · rename_i z19 z20 z21
        extract_lets +onlyGivenNames x22
        subst x22
        refine Alter.step ?_ (alter_xfPush ..) rfl
        assumption
      · rename_i z23 z24
        assumption
    clear_value x17
    refine Alter.step ?_ (alter_tjFromNtc ..) rfl
    assumption

theorem alter_execIslEnvReport (e : Nat) (n : Fin 48) (code : BitVec 12) (vdd : BitVec 12) (vee : BitVec 12) (s : State) : Ends 5080506015932784722610843811840 s (execIslEnvReport e n code vdd vee s) := by
  unfold execIslEnvReport
  refine ends_next ?_
  refine Alter.step ?_ (alter_envReport ..) rfl
  refine Alter.step ?_ (alter_tick ..) rfl
  exact Alter.refl _ _

theorem alter_mirrorStart (kind : Nat) (s : State) : Alter 5070602401060491558576489234432 s (mirrorStart kind s) := by
  unfold mirrorStart
  extract_lets +onlyGivenNames x1
  subst x1
  extract_lets +onlyGivenNames x2
  subst x2
  refine Alter.step ?_ (alter_setBit ..) (by decide)
  refine Alter.step ?_ (alter_life _ _) rfl
  exact Alter.refl _ _

theorem alter_lifeMirror (s : State) : Alter 5070602401171172023018746544128 s (lifeMirror s) := by
  unfold lifeMirror
  extract_lets +onlyGivenNames x1
  have h2 : Alter 5070602401171172023018746544128 s x1 := by
    unfold x1
    refine Alter.step ?_ (alter_until ..) rfl
    exact Alter.refl _ _
  clear_value x1
  extract_lets +onlyGivenNames x3
  subst x3
  extract_lets +onlyGivenNames x4
  have h5 : Alter 5070602401171172023018746544128 s x4 := by
    unfold x4
    refine Alter.step ?_ (alter_life _ _) rfl
    assumption
  clear_value x4
  refine alter_ite (fun _ => ?_) (fun _ => ?_)
  · assumption
  · refine Alter.step ?_ (alter_mirrorStart ..) rfl
    assumption

theorem alter_execLifeMirror (e : Nat) (s : State) : Ends 5070602401171172023018746544128 s (execLifeMirror e s) := by
  unfold execLifeMirror
  refine ends_next ?_
  refine Alter.step ?_ (alter_lifeMirror ..) rfl
  refine Alter.step ?_ (alter_tick ..) rfl
  exact Alter.refl _ _

theorem alter_mirrorDone (ok : Bool) (s : State) : Alter 5070602495507821215969393508352 s (mirrorDone ok s) := by
  unfold mirrorDone
  split
  · rename_i z1 z2
    exact Alter.refl _ _
  · rename_i z3 z4 z5
    extract_lets +onlyGivenNames x6
    subst x6
    extract_lets +onlyGivenNames x7
    have h8 : Alter 5070602495507821215969393508352 s x7 := by
      unfold x7
      refine Alter.step ?_ (alter_setBit ..) (by decide)
      refine Alter.step ?_ (alter_life _ _) rfl
      exact Alter.refl _ _
    clear_value x7
    refine alter_ite (fun _ => ?_) (fun _ => ?_)
    · extract_lets +onlyGivenNames x9
      subst x9
      extract_lets +onlyGivenNames x10
      subst x10
      refine Alter.step ?_ (alter_setBit ..) (by decide)
      refine Alter.step ?_ (alter_setFld ..) (by decide)
      refine Alter.step ?_ (alter_life _ _) rfl
      assumption
    · refine Alter.step ?_ (alter_raise ..) rfl
      refine Alter.step ?_ (alter_lifeFlag ..) rfl
      assumption

theorem alter_mirrorEnd (ok : Bool) (s : State) : Alter 5070602496688412836686804811776 s (mirrorEnd ok s) := by
  unfold mirrorEnd
  extract_lets +onlyGivenNames x1
  have h2 : Alter 5070602496688412836686804811776 s x1 := by
    unfold x1
    refine Alter.step ?_ (alter_mirrorDone ..) rfl
    exact Alter.refl _ _
  clear_value x1
  split
  · rename_i z3 z4 z5
    refine alter_ite (fun _ => ?_) (fun _ => ?_)
    · refine Alter.step ?_ (alter_mirrorStart ..) rfl
      refine Alter.step ?_ (alter_trans _ _) rfl
      assumption
    · assumption
  · rename_i z6 z7
    assumption

theorem alter_execMirrorComplete (e : Nat) (ok : Bool) (s : State) : Ends 5070602496799093301129062121472 s (execMirrorComplete e ok s) := by
  unfold execMirrorComplete
  refine ends_next ?_
  refine Alter.step ?_ (alter_mirrorEnd ..) rfl
  refine Alter.step ?_ (alter_tick ..) rfl
  exact Alter.refl _ _

theorem alter_lifeLoad (r : Option LifeRec) (s : State) : Alter 5070602401060491558576489234432 s (lifeLoad r s) := by
  unfold lifeLoad
  extract_lets +onlyGivenNames x1
  subst x1
  extract_lets +onlyGivenNames x2
  subst x2
  extract_lets +onlyGivenNames x3
  have h4 : Alter 5070602401060491558576489234432 s x3 := by
    unfold x3
    refine Alter.step ?_ (alter_life _ _) rfl
    exact Alter.refl _ _
  clear_value x3
  refine Alter.and ?_ (alter_forEach _ _ _ ?_)
  · assumption
  · intro a5 b6
    beta_reduce
    refine Alter.step ?_ (alter_lifeShow ..) rfl
    exact Alter.refl _ _

theorem alter_lifeRestore (keep : Bool) (s : State) : Alter 5070602495507821215969393508352 s (lifeRestore keep s) := by
  unfold lifeRestore
  extract_lets +onlyGivenNames x1
  subst x1
  extract_lets +onlyGivenNames x2
  have h3 : Alter 5070602495507821215969393508352 s x2 := by
    unfold x2
    refine Alter.step ?_ (alter_life _ _) rfl
    exact Alter.refl _ _
  clear_value x2
  extract_lets +onlyGivenNames x4
  subst x4
  extract_lets +onlyGivenNames x5
  subst x5
  extract_lets +onlyGivenNames x6
  have h7 : Alter 5070602495507821215969393508352 s x6 := by
    unfold x6
    split
    · rename_i z8 z9 z10
      refine Alter.step ?_ (alter_setBit ..) (by decide)
      refine Alter.step ?_ (alter_setFld ..) (by decide)
      refine Alter.step ?_ (alter_life _ _) rfl
      assumption
    · rename_i z11 z12
      assumption
  clear_value x6
  refine alter_ite (fun _ => ?_) (fun _ => ?_)
  · refine Alter.and ?_ (alter_forEach _ _ _ ?_)
    · assumption
    · intro a13 b14
      beta_reduce
      refine Alter.step ?_ (alter_lifeShow ..) rfl
      exact Alter.refl _ _
  · extract_lets +onlyGivenNames x15
    have h16 : Alter 5070602495507821215969393508352 s x15 := by
      unfold x15
      refine Alter.step ?_ (alter_lifeLoad ..) rfl
      assumption
    clear_value x15
    split
    · rename_i z17 z18 z19
      refine alter_ite (fun _ => ?_) (fun _ => ?_)
      · assumption
      · refine Alter.step ?_ (alter_raise ..) rfl
        refine Alter.step ?_ (alter_lifeFlag ..) rfl
        refine Alter.step ?_ (alter_setBit ..) (by decide)
        assumption
    · rename_i z20 z21
      refine Alter.step ?_ (alter_raise ..) rfl
      refine Alter.step ?_ (alter_setBit ..) (by decide)
      assumption

theorem alter_curveValidate (n : Nat) (s : State) : Alter 94594903609982580686848 s (curveValidate n s) := by
  unfold curveValidate
  refine alter_ite (fun _ => ?_) (fun _ => ?_)
  · refine Alter.step ?_ (alter_setBit ..) (rm_high (by simp only [R.LIFE_I_TJ]; omega) rfl)
    exact Alter.refl _ _
  · refine Alter.step ?_ (alter_raise ..) rfl
    refine Alter.step ?_ (alter_lifeFlag ..) rfl
    refine Alter.step ?_ (alter_setBit ..) (rm_high (by simp only [R.LIFE_I_TJ]; omega) rfl)
    exact Alter.refl _ _

theorem alter_lifeClear (n : Nat) (s : State) : Alter 5070602495507821215969393508352 s (lifeClear n s) := by
  unfold lifeClear
  extract_lets +onlyGivenNames x1
  have h2 : Alter 5070602495507821215969393508352 s x1 := by
    unfold x1
    refine Alter.step ?_ (alter_lifeShow ..) rfl
    refine Alter.step ?_ (alter_setLife ..) rfl
    exact Alter.refl _ _
  clear_value x1
  extract_lets +onlyGivenNames x3
  have h4 : Alter 5070602495507821215969393508352 s x3 := by
    unfold x3
    refine Alter.step ?_ (alter_mirrorStart ..) rfl
    refine Alter.step ?_ (alter_setBit ..) (rm_high (by simp only [R.LIFE_I_TJ]; omega) rfl)
    assumption
  clear_value x3
  refine Alter.step ?_ (alter_raise ..) rfl
  assumption

theorem alter_lifeCtrl (v : Reg) (s : State) : Alter 5070602495507821215969393508352 s (lifeCtrl v s) := by
  unfold lifeCtrl
  extract_lets +onlyGivenNames x1
  subst x1
  extract_lets +onlyGivenNames x2
  have h3 : Alter 5070602495507821215969393508352 s x2 := by
    unfold x2
    refine alter_ite (fun _ => ?_) (fun _ => ?_)
    · refine Alter.step ?_ (alter_curveValidate ..) rfl
      exact Alter.refl _ _
    · exact Alter.refl _ _
  clear_value x2
  extract_lets +onlyGivenNames x4
  subst x4
  extract_lets +onlyGivenNames x5
  have h6 : Alter 5070602495507821215969393508352 s x5 := by
    unfold x5
    refine alter_ite (fun _ => ?_) (fun _ => ?_)
    · refine Alter.step ?_ (alter_lifeClear ..) rfl
      assumption
    · assumption
  clear_value x5
  refine alter_ite (fun _ => ?_) (fun _ => ?_)
  · refine Alter.step ?_ (alter_mirrorStart ..) rfl
    assumption
  · assumption

theorem alter_twinStep (s : State) : Alter 147573952589676412928 s (twinStep s) := by
  unfold twinStep
  refine alter_ite (fun _ => ?_) (fun _ => ?_)
  · refine Alter.step ?_ (alter_setFld ..) (by decide)
    exact Alter.refl _ _
  · exact Alter.refl _ _

theorem alter_twinRead (s : State) : Alter 147573952589676412928 s (twinRead s).2 := by
  unfold twinRead
  dsimp only
  refine Alter.step ?_ (alter_twinStep ..) rfl
  exact Alter.refl _ _

theorem alter_twinWrite (v : Reg) (s : State) : Alter 5070602401060491558576489234432 s (twinWrite v s) := by
  unfold twinWrite
  split
  · rename_i z1 z2 z3 z4 z5
    extract_lets +onlyGivenNames x6
    subst x6
    extract_lets +onlyGivenNames x7
    subst x7
    extract_lets +onlyGivenNames x8
    subst x8
    extract_lets +onlyGivenNames x9
    have h10 : Alter 5070602401060491558576489234432 s x9 := by
      unfold x9
      refine alter_ite (fun _ => ?_) (fun _ => ?_)
      · refine Alter.step ?_ (alter_setBit ..) (rm_high (by simp only [R.LIFE_I_TJ]; omega) rfl)
        refine Alter.step ?_ (alter_life _ _) rfl
        exact Alter.refl _ _
      · refine Alter.step ?_ (alter_life _ _) rfl
        exact Alter.refl _ _
    clear_value x9
    refine Alter.step ?_ (alter_twinStep ..) rfl
    assumption

end Sys2Proof.Machine
end

