-- ==== Sys2Proof/Laws/Recorder.lean ====
section
/-! SUPPORT. What each operation of `Sys2Proof.Machine.Recorder` may change (`Alter`), one lemma an operation; for a command,
that it answers a next state (`Ends`). -/

namespace Sys2Proof.Machine

theorem alter_recArm (s : State) : Alter 75705437678503999832064 s (recArm s) := by
  unfold recArm
  extract_lets +onlyGivenNames x1
  subst x1
  extract_lets +onlyGivenNames x2
  subst x2
  extract_lets +onlyGivenNames x3
  have h4 : Alter 75705437678503999832064 s x3 := by
    unfold x3
    refine Alter.step ?_ (alter_rcd _ _) rfl
    exact Alter.refl _ _
  clear_value x3
  refine Alter.step ?_ (alter_setFld ..) (by decide)
  assumption

theorem alter_recEnd (st : Nat) (s : State) : Alter 94594903609982580686848 s (recEnd st s) := by
  unfold recEnd
  split
  · rename_i z1 z2
    exact Alter.refl _ _
  · rename_i z3 z4 z5
    extract_lets +onlyGivenNames x6
    subst x6
    extract_lets +onlyGivenNames x7
    subst x7
    extract_lets +onlyGivenNames x8
    have h9 : Alter 94594903609982580686848 s x8 := by
      unfold x8
      refine Alter.step ?_ (alter_rcd _ _) rfl
      exact Alter.refl _ _
    clear_value x8
    refine alter_ite (fun _ => ?_) (fun _ => ?_)
    · assumption
    · extract_lets +onlyGivenNames x10
      have h11 : Alter 94594903609982580686848 s x10 := by
        unfold x10
        refine Alter.step ?_ (alter_recArm ..) rfl
        assumption
      clear_value x10
      extract_lets +onlyGivenNames x12
      have h13 : Alter 94594903609982580686848 s x12 := by
        unfold x12
        refine alter_ite (fun _ => ?_) (fun _ => ?_)
        · refine Alter.step ?_ (alter_setBit ..) (by decide)
          assumption
        · assumption
      clear_value x12
      refine Alter.step ?_ (alter_raise ..) rfl
      assumption

theorem alter_recAccepted (s : State) : Alter 94594903609982580686848 s (recAccepted s) := by
  unfold recAccepted
  refine Alter.step ?_ (alter_recArm ..) rfl
  refine Alter.step ?_ (alter_recEnd ..) rfl
  exact Alter.refl _ _

theorem alter_recDone (s : State) : Alter 94705584074424837996544 s (recDone s) := by
  unfold recDone
  split
  · rename_i z1 z2
    exact Alter.refl _ _
  · rename_i z3 z4 z5
    refine Alter.step ?_ (alter_recEnd ..) rfl
    refine Alter.step ?_ (alter_until ..) rfl
    exact Alter.refl _ _

theorem alter_execRecDone (e : Nat) (s : State) : Ends 94705584074424837996544 s (execRecDone e s) := by
  unfold execRecDone
  refine ends_next ?_
  refine Alter.step ?_ (alter_recDone ..) rfl
  refine Alter.step ?_ (alter_tick ..) rfl
  exact Alter.refl _ _

theorem alter_recEnable (old : Reg) (s : State) : Alter 94594903609982580686848 s (recEnable old s) := by
  unfold recEnable
  extract_lets +onlyGivenNames x1
  subst x1
  extract_lets +onlyGivenNames x2
  subst x2
  refine alter_ite (fun _ => ?_) (fun _ => ?_)
  · refine Alter.step ?_ (alter_recArm ..) rfl
    exact Alter.refl _ _
  · refine alter_ite (fun _ => ?_) (fun _ => ?_)
    · refine Alter.step ?_ (alter_setFld ..) (by decide)
      refine Alter.step ?_ (alter_recEnd ..) rfl
      exact Alter.refl _ _
    · exact Alter.refl _ _

theorem alter_recTrigger (s : State) : Alter 94594903609982580686848 s (recTrigger s).2 := by
  unfold recTrigger
  refine alter_ite_snd (fun _ => ?_) (fun _ => ?_)
  · dsimp only
    exact Alter.refl _ _
  · refine alter_ite_snd (fun _ => ?_) (fun _ => ?_)
    · extract_lets +onlyGivenNames x1
      have h2 : Alter 94594903609982580686848 s x1 := by
        unfold x1
        refine Alter.step ?_ (alter_recStart ..) rfl
        exact Alter.refl _ _
      clear_value x1
      dsimp only
      refine Alter.step ?_ (alter_raise ..) rfl
      assumption
    · extract_lets +onlyGivenNames x3
      subst x3
      extract_lets +onlyGivenNames x4
      have h5 : Alter 94594903609982580686848 s x4 := by
        unfold x4
        refine Alter.step ?_ (alter_setBit ..) (by decide)
        refine Alter.step ?_ (alter_incFld ..) (by decide)
        exact Alter.refl _ _
      clear_value x4
      extract_lets +onlyGivenNames x6
      subst x6
      extract_lets +onlyGivenNames x7
      have h8 : Alter 94594903609982580686848 s x7 := by
        unfold x7
        refine Alter.step ?_ (alter_rcd _ _) rfl
        assumption
      clear_value x7
      dsimp only
      refine alter_ite (fun _ => ?_) (fun _ => ?_)
      · refine Alter.step ?_ (alter_raise ..) rfl
        assumption
      · assumption

theorem alter_recFound (s : State) : Alter 75557863725914323419136 s (recFound s) := by
  unfold recFound
  split
  · rename_i z1 z2 z3
    refine Alter.step ?_ (alter_rcd _ _) rfl
    exact Alter.refl _ _
  · rename_i z4 z5
    refine Alter.step ?_ (alter_rcd _ _) rfl
    exact Alter.refl _ _

end Sys2Proof.Machine
end

