-- ==== Sys2Proof/Laws/Charge.lean ====
section
/-! SUPPORT. What each operation of `Sys2Proof.Machine.Charge` may change (`Alter`), one lemma an operation; for a command,
that it answers a next state (`Ends`). -/

namespace Sys2Proof.Machine

theorem alter_onChg (f : Chg → Chg) (s : State) : Alter 316912650057057350374175801344 s (onChg f s) := by
  unfold onChg
  refine Alter.step ?_ (alter_chg _ _) rfl
  exact Alter.refl _ _

theorem alter_chgIrq (f : Fld) (s : State) : Alter 147573952589676412928 s (chgIrq f s) := by
  unfold chgIrq
  refine Alter.step ?_ (alter_setBit ..) (by decide)
  exact Alter.refl _ _

theorem alter_chgFlag (f : Fld) (s : State) : Alter 147573952589676412928 s (chgFlag f s) := by
  unfold chgFlag
  refine Alter.step ?_ (alter_chgIrq ..) rfl
  refine Alter.step ?_ (alter_setBit ..) (by decide)
  exact Alter.refl _ _

theorem alter_chgState (st : Nat) (s : State) : Alter 147573952589676412928 s (chgState st s) := by
  unfold chgState
  refine alter_ite (fun _ => ?_) (fun _ => ?_)
  · exact Alter.refl _ _
  · extract_lets +onlyGivenNames x1
    have h2 : Alter 147573952589676412928 s x1 := by
      unfold x1
      refine Alter.step ?_ (alter_chgIrq ..) rfl
      refine Alter.step ?_ (alter_setFld ..) (by decide)
      exact Alter.refl _ _
    clear_value x1
    refine alter_ite (fun _ => ?_) (fun _ => ?_)
    · refine Alter.step ?_ (alter_chgIrq ..) rfl
      assumption
    · assumption

theorem alter_chgPhase (p : Nat) (s : State) : Alter 316912744651960960356756488192 s (chgPhase p s) := by
  unfold chgPhase
  extract_lets +onlyGivenNames x1
  have h2 : Alter 316912744651960960356756488192 s x1 := by
    unfold x1
    refine Alter.step ?_ (alter_onChg ..) rfl
    exact Alter.refl _ _
  clear_value x1
  refine alter_ite (fun _ => ?_) (fun _ => ?_)
  · assumption
  · refine Alter.step ?_ (alter_chgIrq ..) rfl
    refine Alter.step ?_ (alter_raise ..) rfl
    refine Alter.step ?_ (alter_setFld ..) (by decide)
    assumption

theorem alter_newTemp (t : Int) (s : State) : Alter 316912744651960960356756488192 s (newTemp t s) := by
  unfold newTemp
  extract_lets +onlyGivenNames x1
  subst x1
  extract_lets +onlyGivenNames x2
  subst x2
  extract_lets +onlyGivenNames x3
  have h4 : Alter 316912744651960960356756488192 s x3 := by
    unfold x3
    refine Alter.step ?_ (alter_onChg ..) rfl
    exact Alter.refl _ _
  clear_value x3
  extract_lets +onlyGivenNames x5
  have h6 : Alter 316912744651960960356756488192 s x5 := by
    unfold x5
    refine Alter.step ?_ (alter_setFld ..) (by decide)
    refine Alter.step ?_ (alter_setBit ..) (by decide)
    assumption
  clear_value x5
  refine alter_ite (fun _ => ?_) (fun _ => ?_)
  · assumption
  · refine Alter.step ?_ (alter_chgIrq ..) rfl
    refine Alter.step ?_ (alter_raise ..) rfl
    assumption

theorem alter_tempLost (s : State) : Alter 94594903609982580686848 s (tempLost s) := by
  unfold tempLost
  refine Alter.step ?_ (alter_raise ..) rfl
  refine Alter.step ?_ (alter_chgFlag ..) rfl
  refine Alter.step ?_ (alter_setBit ..) (by decide)
  exact Alter.refl _ _

theorem alter_chgSlots (s : State) : Alter 178572850814490057243875082240 s (chgSlots s) := by
  unfold chgSlots
  extract_lets +onlyGivenNames x1
  subst x1
  extract_lets +onlyGivenNames x2
  subst x2
  extract_lets +onlyGivenNames x3
  subst x3
  extract_lets +onlyGivenNames x4
  subst x4
  extract_lets +onlyGivenNames x5
  have h6 : Alter 178572850814490057243875082240 s x5 := by
    unfold x5
    refine Alter.and ?_ (alter_forEach _ _ _ ?_)
    · exact Alter.refl _ _
    · intro a7 b8
      beta_reduce
      extract_lets +onlyGivenNames x9
      subst x9
      refine Alter.step ?_ (alter_setConv ..) rfl
      exact Alter.refl _ _
  clear_value x5
  extract_lets +onlyGivenNames x10
  have h11 : Alter 178572850814490057243875082240 s x10 := by
    unfold x10
    refine Alter.step ?_ (alter_setSp ..) rfl
    assumption
  clear_value x10
  extract_lets +onlyGivenNames x12
  have h13 : Alter 178572850814490057243875082240 s x12 := by
    unfold x12
    refine Alter.step ?_ (alter_setSp ..) rfl
    refine Alter.step ?_ (alter_setSp ..) rfl
    assumption
  clear_value x12
  extract_lets +onlyGivenNames x14
  have h15 : Alter 178572850814490057243875082240 s x14 := by
    unfold x14
    refine Alter.step ?_ (alter_setSp ..) rfl
    assumption
  clear_value x14
  extract_lets +onlyGivenNames x16
  have h17 : Alter 178572850814490057243875082240 s x16 := by
    unfold x16
    refine Alter.step ?_ (alter_setSp ..) rfl
    assumption
  clear_value x16
  extract_lets +onlyGivenNames x18
  have h19 : Alter 178572850814490057243875082240 s x18 := by
    unfold x18
    refine Alter.step ?_ (alter_setSp ..) rfl
    assumption
  clear_value x18
  extract_lets +onlyGivenNames x20
  have h21 : Alter 178572850814490057243875082240 s x20 := by
    unfold x20
    refine Alter.step ?_ (alter_setBit ..) (by decide)
    refine Alter.step ?_ (alter_setBit ..) (by decide)
    assumption
  clear_value x20
  extract_lets +onlyGivenNames x22
  have h23 : Alter 178572850814490057243875082240 s x22 := by
    unfold x22
    refine Alter.step ?_ (alter_setBit ..) (by decide)
    assumption
  clear_value x22
  refine Alter.step ?_ (alter_dclSlots ..) rfl
  assumption

theorem alter_setFollow (on : Bool) (s : State) : Alter 475368975085586025561263702016 s (setFollow on s) := by
  unfold setFollow
  refine Alter.step ?_ (alter_onChg ..) rfl
  refine Alter.step ?_ (alter_dcl _ _) rfl
  exact Alter.refl _ _

theorem alter_chgEnd (why : Nat) (s : State) : Alter 495485500871547407618050883584 s (chgEnd why s) := by
  unfold chgEnd
  extract_lets +onlyGivenNames x1
  have h2 : Alter 495485500871547407618050883584 s x1 := by
    unfold x1
    refine Alter.step ?_ (alter_setFollow ..) rfl
    refine Alter.step ?_ (alter_setFld ..) (by decide)
    exact Alter.refl _ _
  clear_value x1
  refine Alter.step ?_ (alter_chgSlots ..) rfl
  refine Alter.step ?_ (alter_chgState ..) rfl
  refine Alter.step ?_ (alter_onChg ..) rfl
  assumption

theorem alter_handover (st : Nat) (why : Nat) (s : State) : Alter 495485595318877065010955157504 s (handover st why s) := by
  unfold handover
  extract_lets +onlyGivenNames x1
  have h2 : Alter 495485595318877065010955157504 s x1 := by
    unfold x1
    refine Alter.step ?_ (alter_onChg ..) rfl
    refine Alter.step ?_ (alter_setFollow ..) rfl
    exact Alter.refl _ _
  clear_value x1
  extract_lets +onlyGivenNames x3
  have h4 : Alter 495485595318877065010955157504 s x3 := by
    unfold x3
    refine Alter.step ?_ (alter_chgIrq ..) rfl
    refine Alter.step ?_ (alter_chgState ..) rfl
    assumption
  clear_value x3
  extract_lets +onlyGivenNames x5
  have h6 : Alter 495485595318877065010955157504 s x5 := by
    unfold x5
    refine Alter.step ?_ (alter_raiseAt ..) rfl
    assumption
  clear_value x5
  refine Alter.step ?_ (alter_chgSlots ..) rfl
  refine Alter.step ?_ (alter_setVlink ..) rfl
  assumption

theorem alter_chgLock (s : State) : Alter 495485500871547407618050883584 s (chgLock s) := by
  unfold chgLock
  extract_lets +onlyGivenNames x1
  have h2 : Alter 495485500871547407618050883584 s x1 := by
    unfold x1
    refine Alter.step ?_ (alter_setFld ..) (by decide)
    exact Alter.refl _ _
  clear_value x1
  refine Alter.step ?_ (alter_chgSlots ..) rfl
  refine Alter.step ?_ (alter_chgState ..) rfl
  refine Alter.step ?_ (alter_onChg ..) rfl
  assumption

theorem alter_chgCause (st : Nat) (why : Nat) (s : State) : Alter 495485595318877065010955157504 s (chgCause st why s) := by
  unfold chgCause
  refine alter_ite (fun _ => ?_) (fun _ => ?_)
  · refine Alter.step ?_ (alter_handover ..) rfl
    exact Alter.refl _ _
  · refine alter_ite (fun _ => ?_) (fun _ => ?_)
    · refine Alter.step ?_ (alter_onChg ..) rfl
      exact Alter.refl _ _
    · refine alter_ite (fun _ => ?_) (fun _ => ?_)
      · refine alter_ite (fun _ => ?_) (fun _ => ?_)
        · refine Alter.step ?_ (alter_chgLock ..) rfl
          exact Alter.refl _ _
        · refine Alter.step ?_ (alter_chgEnd ..) rfl
          exact Alter.refl _ _
      · exact Alter.refl _ _

theorem alter_handoverDone (slow : Bool) (s : State) : Alter 495485595318877065010955157504 s (handoverDone slow s) := by
  unfold handoverDone
  extract_lets +onlyGivenNames x1
  subst x1
  extract_lets +onlyGivenNames x2
  subst x2
  extract_lets +onlyGivenNames x3
  have h4 : Alter 495485595318877065010955157504 s x3 := by
    unfold x3
    refine alter_ite (fun _ => ?_) (fun _ => ?_)
    · refine Alter.step ?_ (alter_chgFlag ..) rfl
      exact Alter.refl _ _
    · exact Alter.refl _ _
  clear_value x3
  extract_lets +onlyGivenNames x5
  have h6 : Alter 495485595318877065010955157504 s x5 := by
    unfold x5
    refine Alter.step ?_ (alter_chgIrq ..) rfl
    refine Alter.step ?_ (alter_raise ..) rfl
    assumption
  clear_value x5
  extract_lets +onlyGivenNames x7
  have h8 : Alter 495485595318877065010955157504 s x7 := by
    unfold x7
    refine Alter.step ?_ (alter_onChg ..) rfl
    assumption
  clear_value x7
  refine alter_ite (fun _ => ?_) (fun _ => ?_)
  · refine Alter.step ?_ (alter_chgLock ..) rfl
    assumption
  · split
    · rename_i z9 z10 z11
      refine Alter.step ?_ (alter_chgEnd ..) rfl
      assumption
    · rename_i z12 z13
      refine Alter.step ?_ (alter_chgSlots ..) rfl
      refine Alter.step ?_ (alter_chgState ..) rfl
      refine Alter.step ?_ (alter_onChg ..) rfl
      assumption

theorem alter_handoverDeadline (s : State) : Alter 495485595429557529453212467200 s (handoverDeadline s) := by
  unfold handoverDeadline
  refine alter_ite (fun _ => ?_) (fun _ => ?_)
  · refine Alter.step ?_ (alter_handoverDone ..) rfl
    refine Alter.step ?_ (alter_until ..) rfl
    exact Alter.refl _ _
  · exact Alter.refl _ _

theorem alter_execHandoverDeadline (e : Nat) (s : State) : Ends 495485595429557529453212467200 s (execHandoverDeadline e s) := by
  unfold execHandoverDeadline
  refine ends_next ?_
  refine Alter.step ?_ (alter_handoverDeadline ..) rfl
  refine Alter.step ?_ (alter_tick ..) rfl
  exact Alter.refl _ _

theorem alter_suspendExpiry (s : State) : Alter 495485500982227872060308193280 s (suspendExpiry s) := by
  unfold suspendExpiry
  refine alter_ite (fun _ => ?_) (fun _ => ?_)
  · refine Alter.step ?_ (alter_chgEnd ..) rfl
    refine Alter.step ?_ (alter_until ..) rfl
    exact Alter.refl _ _
  · exact Alter.refl _ _

theorem alter_execSuspendExpiry (e : Nat) (s : State) : Ends 495485500982227872060308193280 s (execSuspendExpiry e s) := by
  unfold execSuspendExpiry
  refine ends_next ?_
  refine Alter.step ?_ (alter_suspendExpiry ..) rfl
  refine Alter.step ?_ (alter_tick ..) rfl
  exact Alter.refl _ _

theorem alter_newSession (s : State) : Alter 316912744651960960356756488192 s (newSession s) := by
  unfold newSession
  extract_lets +onlyGivenNames x1
  have h2 : Alter 316912744651960960356756488192 s x1 := by
    unfold x1
    refine Alter.step ?_ (alter_setFld ..) (by decide)
    exact Alter.refl _ _
  clear_value x1
  extract_lets +onlyGivenNames x3
  have h4 : Alter 316912744651960960356756488192 s x3 := by
    unfold x3
    refine Alter.step ?_ (alter_setFld ..) (by decide)
    refine Alter.step ?_ (alter_setFld ..) (by decide)
    assumption
  clear_value x3
  extract_lets +onlyGivenNames x5
  have h6 : Alter 316912744651960960356756488192 s x5 := by
    unfold x5
    refine Alter.step ?_ (alter_setFld ..) (by decide)
    assumption
  clear_value x5
  extract_lets +onlyGivenNames x7
  have h8 : Alter 316912744651960960356756488192 s x7 := by
    unfold x7
    refine Alter.step ?_ (alter_onChg ..) rfl
    assumption
  clear_value x7
  extract_lets +onlyGivenNames x9
  subst x9
  refine Alter.step ?_ (alter_chgPhase ..) rfl
  refine Alter.step ?_ (alter_chgState ..) rfl
  assumption

theorem alter_chgEnables (s : State) : Alter 464227514732017603087171584 s (chgEnables s) := by
  unfold chgEnables
  refine Alter.and ?_ (alter_forEach _ _ _ ?_)
  · exact Alter.refl _ _
  · intro a1 b2
    beta_reduce
    refine Alter.step ?_ (alter_hostEnables ..) rfl
    exact Alter.refl _ _

theorem alter_chgStart (r : Req) (s : State) : Alter 317376976889059463028512129024 s (chgStart r s).2 := by
  unfold chgStart
  refine alter_ite_snd (fun _ => ?_) (fun _ => ?_)
  · dsimp only
    exact Alter.refl _ _
  · split
    · rename_i z1 z2 z3 z4 z5 z6
      refine alter_ite_snd (fun _ => ?_) (fun _ => ?_)
      · dsimp only
        refine Alter.step ?_ (alter_holdEnable ..) rfl
        exact Alter.refl _ _
      · refine alter_ite_snd (fun _ => ?_) (fun _ => ?_)
        · dsimp only
          refine Alter.step ?_ (alter_newSession ..) rfl
          exact Alter.refl _ _
        · dsimp only
          exact Alter.refl _ _
    · rename_i z7 z8 z9
      refine alter_ite_snd (fun _ => ?_) (fun _ => ?_)
      · dsimp only
        refine Alter.step ?_ (alter_newSession ..) rfl
        refine Alter.step ?_ (alter_chgEnables ..) rfl
        exact Alter.refl _ _
      · dsimp only
        refine Alter.step ?_ (alter_chgEnables ..) rfl
        exact Alter.refl _ _

theorem alter_chgStop (s : State) : Alter 495485595318877065010955157504 s (chgStop s).2 := by
  unfold chgStop
  refine alter_ite_snd (fun _ => ?_) (fun _ => ?_)
  · dsimp only
    exact Alter.refl _ _
  · refine alter_ite_snd (fun _ => ?_) (fun _ => ?_)
    · dsimp only
      refine Alter.step ?_ (alter_chgCause ..) rfl
      exact Alter.refl _ _
    · refine alter_ite_snd (fun _ => ?_) (fun _ => ?_)
      · dsimp only
        refine Alter.step ?_ (alter_chgEnd ..) rfl
        exact Alter.refl _ _
      · dsimp only
        exact Alter.refl _ _

theorem alter_chgUnlock (s : State) : Alter 147573952589676412928 s (chgUnlock s) := by
  unfold chgUnlock
  refine alter_ite (fun _ => ?_) (fun _ => ?_)
  · refine Alter.step ?_ (alter_chgState ..) rfl
    exact Alter.refl _ _
  · exact Alter.refl _ _

theorem alter_pilotDuty (d : Nat) (s : State) : Alter 79228162661838290183220363264 s (pilotDuty d s) := by
  unfold pilotDuty
  extract_lets +onlyGivenNames x1
  subst x1
  extract_lets +onlyGivenNames x2
  have h3 : Alter 79228162661838290183220363264 s x2 := by
    unfold x2
    refine Alter.step ?_ (alter_pilot _ _) rfl
    exact Alter.refl _ _
  clear_value x2
  extract_lets +onlyGivenNames x4
  subst x4
  extract_lets +onlyGivenNames x5
  subst x5
  extract_lets +onlyGivenNames x6
  subst x6
  extract_lets +onlyGivenNames x7
  subst x7
  extract_lets +onlyGivenNames x8
  have h9 : Alter 79228162661838290183220363264 s x8 := by
    unfold x8
    refine Alter.step ?_ (alter_setFld ..) (by decide)
    refine Alter.step ?_ (alter_setFld ..) (by decide)
    assumption
  clear_value x8
  extract_lets +onlyGivenNames x10
  have h11 : Alter 79228162661838290183220363264 s x10 := by
    unfold x10
    refine Alter.step ?_ (alter_setBit ..) (by decide)
    assumption
  clear_value x10
  refine alter_ite (fun _ => ?_) (fun _ => ?_)
  · assumption
  · refine Alter.step ?_ (alter_chgIrq ..) rfl
    assumption

theorem alter_replug (st : Nat) (s : State) : Alter 316912744651960960356756488192 s (replug st s) := by
  unfold replug
  refine alter_ite (fun _ => ?_) (fun _ => ?_)
  · refine Alter.step ?_ (alter_onChg ..) rfl
    exact Alter.refl _ _
  · refine alter_ite (fun _ => ?_) (fun _ => ?_)
    · refine Alter.step ?_ (alter_newSession ..) rfl
      exact Alter.refl _ _
    · exact Alter.refl _ _

theorem alter_pilotPresent (st : Nat) (s : State) : Alter 495485595318877065010955157504 s (pilotPresent st s) := by
  unfold pilotPresent
  extract_lets +onlyGivenNames x1
  have h2 : Alter 495485595318877065010955157504 s x1 := by
    unfold x1
    refine Alter.step ?_ (alter_chgIrq ..) rfl
    refine Alter.step ?_ (alter_raise ..) rfl
    refine Alter.step ?_ (alter_setFld ..) (by decide)
    exact Alter.refl _ _
  clear_value x1
  refine alter_ite (fun _ => ?_) (fun _ => ?_)
  · extract_lets +onlyGivenNames x3
    subst x3
    extract_lets +onlyGivenNames x4
    have h5 : Alter 495485595318877065010955157504 s x4 := by
      unfold x4
      refine Alter.step ?_ (alter_onChg ..) rfl
      assumption
    clear_value x4
    extract_lets +onlyGivenNames x6
    have h7 : Alter 495485595318877065010955157504 s x6 := by
      unfold x6
      refine alter_ite (fun _ => ?_) (fun _ => ?_)
      · refine Alter.step ?_ (alter_newSession ..) rfl
        assumption
      · refine Alter.step ?_ (alter_replug ..) rfl
        assumption
    clear_value x6
    refine Alter.step ?_ (alter_onChg ..) rfl
    assumption
  · extract_lets +onlyGivenNames x8
    have h9 : Alter 495485595318877065010955157504 s x8 := by
      unfold x8
      refine Alter.step ?_ (alter_onChg ..) rfl
      assumption
    clear_value x8
    refine alter_ite (fun _ => ?_) (fun _ => ?_)
    · refine Alter.step ?_ (alter_chgCause ..) rfl
      refine Alter.step ?_ (alter_chgFlag ..) rfl
      assumption
    · refine Alter.step ?_ (alter_chgCause ..) rfl
      assumption

theorem alter_pilotMeasure (osc : Bool) (hi : Int) (lo : Int) (s : State) : Alter 574713757833141402604499107840 s (pilotMeasure osc hi lo s) := by
  unfold pilotMeasure
  split
  · rename_i z1 z2 z3 z4
    extract_lets +onlyGivenNames x5
    subst x5
    extract_lets +onlyGivenNames x6
    subst x6
    extract_lets +onlyGivenNames x7
    have h8 : Alter 574713757833141402604499107840 s x7 := by
      unfold x7
      refine Alter.step ?_ (alter_pilot _ _) rfl
      exact Alter.refl _ _
    clear_value x7
    extract_lets +onlyGivenNames x9
    subst x9
    extract_lets +onlyGivenNames x10
    subst x10
    extract_lets +onlyGivenNames x11
    subst x11
    extract_lets +onlyGivenNames x12
    have h13 : Alter 574713757833141402604499107840 s x12 := by
      unfold x12
      refine Alter.step ?_ (alter_setBit ..) (by decide)
      refine Alter.step ?_ (alter_setSfld ..) (by decide)
      refine Alter.step ?_ (alter_setSfld ..) (by decide)
      assumption
    clear_value x12
    extract_lets +onlyGivenNames x14
    have h15 : Alter 574713757833141402604499107840 s x14 := by
      unfold x14
      refine alter_ite (fun _ => ?_) (fun _ => ?_)
      · refine Alter.step ?_ (alter_chgCause ..) rfl
        refine Alter.step ?_ (alter_chgFlag ..) rfl
        assumption
      · assumption
    clear_value x14
    refine alter_ite (fun _ => ?_) (fun _ => ?_)
    · refine Alter.step ?_ (alter_pilotPresent ..) rfl
      assumption
    · assumption

theorem alter_pilotCycle (len : Nat) (high : Nat) (falls : Nat) (hs : Int) (hn : Nat) (ls : Int) (ln : Nat) (s : State) : Alter 574713757833141402604499107840 s (pilotCycle len high falls hs hn ls ln s) := by
  unfold pilotCycle
  refine alter_ite (fun _ => ?_) (fun _ => ?_)
  · exact Alter.refl _ _
  · extract_lets +onlyGivenNames x1
    subst x1
    extract_lets +onlyGivenNames x2
    have h3 : Alter 574713757833141402604499107840 s x2 := by
      unfold x2
      refine Alter.step ?_ (alter_pilot _ _) rfl
      exact Alter.refl _ _
    clear_value x2
    extract_lets +onlyGivenNames x4
    have h5 : Alter 574713757833141402604499107840 s x4 := by
      unfold x4
      refine Alter.step ?_ (alter_setBit ..) (by decide)
      assumption
    clear_value x4
    extract_lets +onlyGivenNames x6
    subst x6
    extract_lets +onlyGivenNames x7
    subst x7
    extract_lets +onlyGivenNames x8
    subst x8
    extract_lets +onlyGivenNames x9
    subst x9
    extract_lets +onlyGivenNames x10
    have h11 : Alter 574713757833141402604499107840 s x10 := by
      unfold x10
      refine Alter.step ?_ (alter_pilot _ _) rfl
      assumption
    clear_value x10
    extract_lets +onlyGivenNames x12
    have h13 : Alter 574713757833141402604499107840 s x12 := by
      unfold x12
      split
      · rename_i z14 z15 z16 z17 z18
        extract_lets +onlyGivenNames x19
        subst x19
        extract_lets +onlyGivenNames x20
        subst x20
        refine alter_ite (fun _ => ?_) (fun _ => ?_)
        · refine Alter.step ?_ (alter_pilotDuty ..) rfl
          assumption
        · assumption
      · rename_i z21 z22
        assumption
    clear_value x12
    refine Alter.step ?_ (alter_pilotMeasure ..) rfl
    assumption

theorem alter_execPilotCycle (e : Nat) (len : Nat) (high : Nat) (falls : Nat) (hs : Int) (hn : Nat) (ls : Int) (ln : Nat) (s : State) : Ends 574713757943821867046756417536 s (execPilotCycle e len high falls hs hn ls ln s) := by
  unfold execPilotCycle
  refine ends_next ?_
  refine Alter.step ?_ (alter_pilotCycle ..) rfl
  refine Alter.step ?_ (alter_tick ..) rfl
  exact Alter.refl _ _

theorem alter_pilotSteady (high : Bool) (s : State) : Alter 79228162661838290183220363264 s (pilotSteady high s) := by
  unfold pilotSteady
  refine alter_ite (fun _ => ?_) (fun _ => ?_)
  · exact Alter.refl _ _
  · extract_lets +onlyGivenNames x1
    subst x1
    extract_lets +onlyGivenNames x2
    have h3 : Alter 79228162661838290183220363264 s x2 := by
      unfold x2
      refine Alter.step ?_ (alter_pilot _ _) rfl
      exact Alter.refl _ _
    clear_value x2
    refine Alter.step ?_ (alter_pilotDuty ..) rfl
    refine Alter.step ?_ (alter_setBit ..) (by decide)
    assumption

theorem alter_execPilotSteady (e : Nat) (high : Bool) (s : State) : Ends 79228162772518754625477672960 s (execPilotSteady e high s) := by
  unfold execPilotSteady
  refine ends_next ?_
  refine Alter.step ?_ (alter_pilotSteady ..) rfl
  refine Alter.step ?_ (alter_tick ..) rfl
  exact Alter.refl _ _

theorem alter_pilotNoCycle (s : State) : Alter 79228162772518754625477672960 s (pilotNoCycle s) := by
  unfold pilotNoCycle
  refine alter_ite (fun _ => ?_) (fun _ => ?_)
  · exact Alter.refl _ _
  · refine Alter.step ?_ (alter_pilotDuty ..) rfl
    refine Alter.step ?_ (alter_until ..) rfl
    exact Alter.refl _ _

theorem alter_execPilotNoCycle (e : Nat) (s : State) : Ends 79228162772518754625477672960 s (execPilotNoCycle e s) := by
  unfold execPilotNoCycle
  refine ends_next ?_
  refine Alter.step ?_ (alter_pilotNoCycle ..) rfl
  refine Alter.step ?_ (alter_tick ..) rfl
  exact Alter.refl _ _

theorem alter_pilotWindow (sum : Int) (n : Nat) (s : State) : Alter 574713757833141402604499107840 s (pilotWindow sum n s) := by
  unfold pilotWindow
  refine alter_ite (fun _ => ?_) (fun _ => ?_)
  · exact Alter.refl _ _
  · extract_lets +onlyGivenNames x1
    subst x1
    refine Alter.step ?_ (alter_pilotMeasure ..) rfl
    exact Alter.refl _ _

theorem alter_execPilotWindow (e : Nat) (sum : Int) (n : Nat) (s : State) : Ends 574713757943821867046756417536 s (execPilotWindow e sum n s) := by
  unfold execPilotWindow
  refine ends_next ?_
  refine Alter.step ?_ (alter_pilotWindow ..) rfl
  refine Alter.step ?_ (alter_tick ..) rfl
  exact Alter.refl _ _

theorem alter_chgArrive (q : Nat) (e : QEnt) (s : State) : Alter 316912650057057350374175801344 s (chgArrive q e s) := by
  unfold chgArrive
  extract_lets +onlyGivenNames x1
  subst x1
  extract_lets +onlyGivenNames x2
  subst x2
  refine alter_ite (fun _ => ?_) (fun _ => ?_)
  · refine Alter.step ?_ (alter_onChg ..) rfl
    exact Alter.refl _ _
  · exact Alter.refl _ _

theorem alter_acRun (b : Nat) (s : State) : Alter 316912650057057350374175801344 s (acRun b s) := by
  unfold acRun
  extract_lets +onlyGivenNames x1
  subst x1
  extract_lets +onlyGivenNames x2
  subst x2
  extract_lets +onlyGivenNames x3
  subst x3
  split
  · rename_i z4 z5 z6 z7
    extract_lets +onlyGivenNames x8
    subst x8
    extract_lets +onlyGivenNames x9
    subst x9
    refine Alter.step ?_ (alter_onChg ..) rfl
    exact Alter.refl _ _

theorem alter_meterRun (b : Nat) (s : State) : Alter 316912650204631302963852214272 s (meterRun b s) := by
  unfold meterRun
  extract_lets +onlyGivenNames x1
  subst x1
  extract_lets +onlyGivenNames x2
  subst x2
  extract_lets +onlyGivenNames x3
  subst x3
  extract_lets +onlyGivenNames x4
  subst x4
  extract_lets +onlyGivenNames x5
  subst x5
  extract_lets +onlyGivenNames x6
  subst x6
  extract_lets +onlyGivenNames x7
  have h8 : Alter 316912650204631302963852214272 s x7 := by
    unfold x7
    refine Alter.step ?_ (alter_onChg ..) rfl
    exact Alter.refl _ _
  clear_value x7
  refine Alter.step ?_ (alter_setFld ..) (by decide)
  assumption

theorem alter_acLost (st : Nat) (s : State) : Alter 495485595318877065010955157504 s (acLost st s) := by
  unfold acLost
  refine alter_ite (fun _ => ?_) (fun _ => ?_)
  · exact Alter.refl _ _
  · extract_lets +onlyGivenNames x1
    have h2 : Alter 495485595318877065010955157504 s x1 := by
      unfold x1
      refine Alter.step ?_ (alter_onChg ..) rfl
      refine Alter.step ?_ (alter_setBit ..) (by decide)
      exact Alter.refl _ _
    clear_value x1
    refine Alter.step ?_ (alter_chgCause ..) rfl
    refine Alter.step ?_ (alter_raiseAt ..) rfl
    refine Alter.step ?_ (alter_chgFlag ..) rfl
    assumption

theorem alter_acCycle (c : Nat × Nat × Bool) (b : Nat) (s : State) : Alter 495485595318877065010955157504 s (acCycle c b s) := by
  unfold acCycle
  split
  · rename_i z1 z2 z3 z4
    extract_lets +onlyGivenNames x5
    subst x5
    extract_lets +onlyGivenNames x6
    have h7 : Alter 495485595318877065010955157504 s x6 := by
      unfold x6
      refine Alter.step ?_ (alter_setFld ..) (by decide)
      refine Alter.step ?_ (alter_setFld ..) (by decide)
      exact Alter.refl _ _
    clear_value x6
    extract_lets +onlyGivenNames x8
    have h9 : Alter 495485595318877065010955157504 s x8 := by
      unfold x8
      refine Alter.step ?_ (alter_onChg ..) rfl
      assumption
    clear_value x8
    extract_lets +onlyGivenNames x10
    subst x10
    extract_lets +onlyGivenNames x11
    subst x11
    extract_lets +onlyGivenNames x12
    subst x12
    extract_lets +onlyGivenNames x13
    subst x13
    extract_lets +onlyGivenNames x14
    have h15 : Alter 495485595318877065010955157504 s x14 := by
      unfold x14
      refine alter_ite (fun _ => ?_) (fun _ => ?_)
      · refine Alter.step ?_ (alter_onChg ..) rfl
        assumption
      · assumption
    clear_value x14
    refine alter_ite (fun _ => ?_) (fun _ => ?_)
    · extract_lets +onlyGivenNames x16
      have h17 : Alter 495485595318877065010955157504 s x16 := by
        unfold x16
        refine Alter.step ?_ (alter_setBit ..) (by decide)
        assumption
      clear_value x16
      refine alter_ite (fun _ => ?_) (fun _ => ?_)
      · refine Alter.step ?_ (alter_replug ..) rfl
        assumption
      · assumption
    · refine alter_ite (fun _ => ?_) (fun _ => ?_)
      · refine Alter.step ?_ (alter_acLost ..) rfl
        assumption
      · assumption

theorem alter_acPublish (s : State) : Alter 495485595318877065010955157504 s (acPublish s) := by
  unfold acPublish
  extract_lets +onlyGivenNames x1
  subst x1
  extract_lets +onlyGivenNames x2
  have h3 : Alter 495485595318877065010955157504 s x2 := by
    unfold x2
    refine Alter.step ?_ (alter_onChg ..) rfl
    exact Alter.refl _ _
  clear_value x2
  refine Alter.and ?_ (alter_forEach _ _ _ ?_)
  · assumption
  · intro a4 b5
    beta_reduce
    extract_lets +onlyGivenNames x6
    have h7 : Alter 495485595318877065010955157504 b5 x6 := by
      unfold x6
      refine Alter.and ?_ (alter_forEach _ _ _ ?_)
      · exact Alter.refl _ _
      · intro a8 b9
        beta_reduce
        refine Alter.step ?_ (alter_acCycle ..) rfl
        exact Alter.refl _ _
    clear_value x6
    extract_lets +onlyGivenNames x10
    subst x10
    extract_lets +onlyGivenNames x11
    have h12 : Alter 495485595318877065010955157504 b5 x11 := by
      unfold x11
      refine Alter.step ?_ (alter_onChg ..) rfl
      assumption
    clear_value x11
    refine alter_ite (fun _ => ?_) (fun _ => ?_)
    · refine Alter.step ?_ (alter_acLost ..) rfl
      assumption
    · assumption

theorem alter_tbatWrite (v : Reg) (s : State) : Alter 316912744651960960356756488192 s (tbatWrite v s) := by
  unfold tbatWrite
  extract_lets +onlyGivenNames x1
  have h2 : Alter 316912744651960960356756488192 s x1 := by
    unfold x1
    refine Alter.step ?_ (alter_setReg ..) (by decide)
    exact Alter.refl _ _
  clear_value x1
  refine alter_ite (fun _ => ?_) (fun _ => ?_)
  · refine Alter.step ?_ (alter_newTemp ..) rfl
    assumption
  · assumption

theorem alter_tbatMissed (s : State) : Alter 316912744762641424799013797888 s (tbatMissed s) := by
  unfold tbatMissed
  refine alter_ite (fun _ => ?_) (fun _ => ?_)
  · exact Alter.refl _ _
  · extract_lets +onlyGivenNames x1
    have h2 : Alter 316912744762641424799013797888 s x1 := by
      unfold x1
      refine Alter.step ?_ (alter_until ..) rfl
      exact Alter.refl _ _
    clear_value x1
    refine Alter.step ?_ (alter_tempLost ..) rfl
    refine Alter.step ?_ (alter_onChg ..) rfl
    assumption

theorem alter_execChgTbat (e : Nat) (s : State) : Ends 316912744762641424799013797888 s (execChgTbat e s) := by
  unfold execChgTbat
  refine ends_next ?_
  refine Alter.step ?_ (alter_tbatMissed ..) rfl
  refine Alter.step ?_ (alter_tick ..) rfl
  exact Alter.refl _ _

theorem alter_batteryNtc (uv : Nat) (s : State) : Alter 316912744651960960356756488192 s (batteryNtc uv s) := by
  unfold batteryNtc
  refine alter_ite (fun _ => ?_) (fun _ => ?_)
  · exact Alter.refl _ _
  · refine alter_ite (fun _ => ?_) (fun _ => ?_)
    · refine Alter.step ?_ (alter_tempLost ..) rfl
      exact Alter.refl _ _
    · refine Alter.step ?_ (alter_newTemp ..) rfl
      exact Alter.refl _ _

theorem alter_execBatteryNtcEval (e : Nat) (uv : Nat) (s : State) : Ends 316912744762641424799013797888 s (execBatteryNtcEval e uv s) := by
  unfold execBatteryNtcEval
  refine ends_next ?_
  refine Alter.step ?_ (alter_batteryNtc ..) rfl
  refine Alter.step ?_ (alter_tick ..) rfl
  exact Alter.refl _ _

theorem alter_chgClock (s : State) : Alter 316912650204631302963852214272 s (chgClock s) := by
  unfold chgClock
  extract_lets +onlyGivenNames x1
  subst x1
  extract_lets +onlyGivenNames x2
  subst x2
  extract_lets +onlyGivenNames x3
  subst x3
  extract_lets +onlyGivenNames x4
  have h5 : Alter 316912650204631302963852214272 s x4 := by
    unfold x4
    refine Alter.step ?_ (alter_onChg ..) rfl
    exact Alter.refl _ _
  clear_value x4
  refine Alter.step ?_ (alter_setFld ..) (by decide)
  assumption

theorem alter_chgTimeout (s : State) : Alter 495485595429557529453212467200 s (chgTimeout s) := by
  unfold chgTimeout
  extract_lets +onlyGivenNames x1
  have h2 : Alter 495485595429557529453212467200 s x1 := by
    unfold x1
    refine Alter.step ?_ (alter_chgClock ..) rfl
    exact Alter.refl _ _
  clear_value x1
  refine alter_ite (fun _ => ?_) (fun _ => ?_)
  · assumption
  · extract_lets +onlyGivenNames x3
    have h4 : Alter 495485595429557529453212467200 s x3 := by
      unfold x3
      refine Alter.step ?_ (alter_chgClock ..) rfl
      refine Alter.step ?_ (alter_until ..) rfl
      assumption
    clear_value x3
    extract_lets +onlyGivenNames x5
    subst x5
    extract_lets +onlyGivenNames x6
    have h7 : Alter 495485595429557529453212467200 s x6 := by
      unfold x6
      refine alter_ite (fun _ => ?_) (fun _ => ?_)
      · refine Alter.step ?_ (alter_raise ..) rfl
        refine Alter.step ?_ (alter_chgFlag ..) rfl
        assumption
      · refine Alter.step ?_ (alter_raise ..) rfl
        refine Alter.step ?_ (alter_chgFlag ..) rfl
        assumption
    clear_value x6
    refine Alter.step ?_ (alter_chgCause ..) rfl
    assumption

theorem alter_execChgTimeout (e : Nat) (s : State) : Ends 495485595429557529453212467200 s (execChgTimeout e s) := by
  unfold execChgTimeout
  refine ends_next ?_
  refine Alter.step ?_ (alter_chgTimeout ..) rfl
  refine Alter.step ?_ (alter_tick ..) rfl
  exact Alter.refl _ _

theorem alter_chgPhases (d : Nat) (s : State) : Alter 495485595318877065010955157504 s (chgPhases d s) := by
  unfold chgPhases
  refine alter_ite (fun _ => ?_) (fun _ => ?_)
  · exact Alter.refl _ _
  · split
    · rename_i z1 z2 z3 z4 z5
      extract_lets +onlyGivenNames x6
      subst x6
      extract_lets +onlyGivenNames x7
      have h8 : Alter 495485595318877065010955157504 s x7 := by
        unfold x7
        refine Alter.step ?_ (alter_onChg ..) rfl
        exact Alter.refl _ _
      clear_value x7
      extract_lets +onlyGivenNames x9
      have h10 : Alter 495485595318877065010955157504 s x9 := by
        unfold x9
        refine alter_ite (fun _ => ?_) (fun _ => ?_)
        · refine Alter.step ?_ (alter_chgPhase ..) rfl
          assumption
        · refine alter_ite (fun _ => ?_) (fun _ => ?_)
          · refine Alter.step ?_ (alter_chgCause ..) rfl
            refine Alter.step ?_ (alter_chgFlag ..) rfl
            assumption
          · assumption
      clear_value x9
      refine alter_ite (fun _ => ?_) (fun _ => ?_)
      · assumption
      · extract_lets +onlyGivenNames x11
        subst x11
        refine Alter.step ?_ (alter_onChg ..) rfl
        assumption

theorem alter_chgRun (s : State) : Alter 475369069680489635543844388864 s (chgRun s) := by
  unfold chgRun
  extract_lets +onlyGivenNames x1
  subst x1
  extract_lets +onlyGivenNames x2
  have h3 : Alter 475369069680489635543844388864 s x2 := by
    unfold x2
    refine Alter.step ?_ (alter_onChg ..) rfl
    exact Alter.refl _ _
  clear_value x2
  refine Alter.step ?_ (alter_raise ..) rfl
  refine Alter.step ?_ (alter_chgState ..) rfl
  refine Alter.step ?_ (alter_setFollow ..) rfl
  assumption

theorem alter_chgLimits (s : State) : Alter 316912744651960960356756488192 s (chgLimits s) := by
  unfold chgLimits
  extract_lets +onlyGivenNames x1
  subst x1
  extract_lets +onlyGivenNames x2
  have h3 : Alter 316912744651960960356756488192 s x2 := by
    unfold x2
    refine alter_ite (fun _ => ?_) (fun _ => ?_)
    · exact Alter.refl _ _
    · refine Alter.step ?_ (alter_onChg ..) rfl
      exact Alter.refl _ _
  clear_value x2
  extract_lets +onlyGivenNames x4
  subst x4
  extract_lets +onlyGivenNames x5
  have h6 : Alter 316912744651960960356756488192 s x5 := by
    unfold x5
    refine Alter.step ?_ (alter_onChg ..) rfl
    assumption
  clear_value x5
  extract_lets +onlyGivenNames x7
  subst x7
  extract_lets +onlyGivenNames x8
  subst x8
  extract_lets +onlyGivenNames x9
  have h10 : Alter 316912744651960960356756488192 s x9 := by
    unfold x9
    refine Alter.step ?_ (alter_setFld ..) (by decide)
    refine Alter.step ?_ (alter_setFld ..) (by decide)
    assumption
  clear_value x9
  extract_lets +onlyGivenNames x11
  have h12 : Alter 316912744651960960356756488192 s x11 := by
    unfold x11
    refine Alter.step ?_ (alter_setBit ..) (by decide)
    assumption
  clear_value x11
  refine alter_ite (fun _ => ?_) (fun _ => ?_)
  · assumption
  · extract_lets +onlyGivenNames x13
    have h14 : Alter 316912744651960960356756488192 s x13 := by
      unfold x13
      refine Alter.step ?_ (alter_chgFlag ..) rfl
      assumption
    clear_value x13
    refine alter_ite (fun _ => ?_) (fun _ => ?_)
    · assumption
    · refine Alter.step ?_ (alter_raise ..) rfl
      refine Alter.step ?_ (alter_onChg ..) rfl
      assumption

theorem alter_chgSup (s : State) : Alter 495485595318877065010955157504 s (chgSup s) := by
  unfold chgSup
  extract_lets +onlyGivenNames x1
  subst x1
  extract_lets +onlyGivenNames x2
  have h3 : Alter 495485595318877065010955157504 s x2 := by
    unfold x2
    refine Alter.step ?_ (alter_chgClock ..) rfl
    exact Alter.refl _ _
  clear_value x2
  extract_lets +onlyGivenNames x4
  have h5 : Alter 495485595318877065010955157504 s x4 := by
    unfold x4
    refine Alter.step ?_ (alter_setBit ..) (by decide)
    assumption
  clear_value x4
  extract_lets +onlyGivenNames x6
  have h7 : Alter 495485595318877065010955157504 s x6 := by
    unfold x6
    refine Alter.step ?_ (alter_chgLimits ..) rfl
    assumption
  clear_value x6
  extract_lets +onlyGivenNames x8
  subst x8
  extract_lets +onlyGivenNames x9
  have h10 : Alter 495485595318877065010955157504 s x9 := by
    unfold x9
    refine alter_ite (fun _ => ?_) (fun _ => ?_)
    · assumption
    · refine Alter.step ?_ (alter_setBit ..) (by decide)
      assumption
  clear_value x9
  extract_lets +onlyGivenNames x11
  subst x11
  extract_lets +onlyGivenNames x12
  have h13 : Alter 495485595318877065010955157504 s x12 := by
    unfold x12
    refine Alter.step ?_ (alter_onChg ..) rfl
    assumption
  clear_value x12
  extract_lets +onlyGivenNames x14
  have h15 : Alter 495485595318877065010955157504 s x14 := by
    unfold x14
    refine alter_ite (fun _ => ?_) (fun _ => ?_)
    · refine Alter.step ?_ (alter_chgEnd ..) rfl
      assumption
    · assumption
  clear_value x14
  extract_lets +onlyGivenNames x16
  have h17 : Alter 495485595318877065010955157504 s x16 := by
    unfold x16
    refine alter_ite (fun _ => ?_) (fun _ => ?_)
    · refine Alter.step ?_ (alter_chgCause ..) rfl
      assumption
    · assumption
  clear_value x16
  extract_lets +onlyGivenNames x18
  subst x18
  extract_lets +onlyGivenNames x19
  have h20 : Alter 495485595318877065010955157504 s x19 := by
    unfold x19
    refine Alter.step ?_ (alter_onChg ..) rfl
    assumption
  clear_value x19
  extract_lets +onlyGivenNames x21
  have h22 : Alter 495485595318877065010955157504 s x21 := by
    unfold x21
    refine alter_ite (fun _ => ?_) (fun _ => ?_)
    · refine Alter.step ?_ (alter_chgCause ..) rfl
      assumption
    · assumption
  clear_value x21
  extract_lets +onlyGivenNames x23
  subst x23
  extract_lets +onlyGivenNames x24
  subst x24
  extract_lets +onlyGivenNames x25
  have h26 : Alter 495485595318877065010955157504 s x25 := by
    unfold x25
    refine Alter.step ?_ (alter_raise ..) rfl
    refine Alter.step ?_ (alter_chgFlag ..) rfl
    assumption
  clear_value x25
  extract_lets +onlyGivenNames x27
  have h28 : Alter 495485595318877065010955157504 s x27 := by
    unfold x27
    refine alter_ite (fun _ => ?_) (fun _ => ?_)
    · refine alter_ite (fun _ => ?_) (fun _ => ?_)
      · refine Alter.step ?_ (alter_chgEnd ..) rfl
        assumption
      · refine Alter.step ?_ (alter_chgCause ..) rfl
        assumption
    · assumption
  clear_value x27
  extract_lets +onlyGivenNames x29
  subst x29
  extract_lets +onlyGivenNames x30
  have h31 : Alter 495485595318877065010955157504 s x30 := by
    unfold x30
    refine alter_ite (fun _ => ?_) (fun _ => ?_)
    · refine Alter.step ?_ (alter_chgRun ..) rfl
      assumption
    · refine alter_ite (fun _ => ?_) (fun _ => ?_)
      · refine Alter.step ?_ (alter_chgRun ..) rfl
        assumption
      · refine alter_ite (fun _ => ?_) (fun _ => ?_)
        · refine alter_ite (fun _ => ?_) (fun _ => ?_)
          · refine Alter.step ?_ (alter_handoverDone ..) rfl
            assumption
          · refine alter_ite (fun _ => ?_) (fun _ => ?_)
            · refine Alter.step ?_ (alter_handoverDone ..) rfl
              assumption
            · assumption
        · assumption
  clear_value x30
  refine Alter.step ?_ (alter_chgSlots ..) rfl
  refine Alter.step ?_ (alter_chgPhases ..) rfl
  assumption

theorem alter_followStep (s : State) : Alter 495176015714152109959649689600 s (followStep s) := by
  unfold followStep
  refine alter_ite (fun _ => ?_) (fun _ => ?_)
  · exact Alter.refl _ _
  · extract_lets +onlyGivenNames x1
    subst x1
    extract_lets +onlyGivenNames x2
    subst x2
    extract_lets +onlyGivenNames x3
    subst x3
    extract_lets +onlyGivenNames x4
    subst x4
    extract_lets +onlyGivenNames x5
    subst x5
    extract_lets +onlyGivenNames x6
    subst x6
    extract_lets +onlyGivenNames x7
    have h8 : Alter 495176015714152109959649689600 s x7 := by
      unfold x7
      refine Alter.step ?_ (alter_onChg ..) rfl
      refine Alter.step ?_ (alter_dcl _ _) rfl
      exact Alter.refl _ _
    clear_value x7
    refine Alter.step ?_ (alter_setSp ..) rfl
    assumption

end Sys2Proof.Machine
end

