-- ==== Sys2Proof/Laws/Placer.lean ====
section
/-! SUPPORT. What each operation of `Sys2Proof.Machine.Placer` may change (`Alter`), one lemma an operation; for a command,
that it answers a next state (`Ends`). -/

namespace Sys2Proof.Machine

theorem alter_pwinRead (s : State) : Alter 147573952589676412928 s (pwinRead s).2.2 := by
  unfold pwinRead
  split
  · rename_i z1
    dsimp only
    exact Alter.refl _ _
  · rename_i z2
    dsimp only
    refine Alter.step ?_ (alter_setFld ..) (by decide)
    exact Alter.refl _ _

theorem alter_pwinWrite (v : Reg) (s : State) : Alter 10141204801973409164563302055936 s (pwinWrite v s) := by
  unfold pwinWrite
  extract_lets +onlyGivenNames x1
  subst x1
  extract_lets +onlyGivenNames x2
  have h3 : Alter 10141204801973409164563302055936 s x2 := by
    unfold x2
    refine Alter.step ?_ (alter_plc _ _) rfl
    exact Alter.refl _ _
  clear_value x2
  refine Alter.step ?_ (alter_setFld ..) (by decide)
  assumption

theorem alter_submit (s : State) : Alter 10141204801973409164563302055936 s (submit s) := by
  unfold submit
  refine Alter.step ?_ (alter_setFld ..) (by decide)
  refine Alter.step ?_ (alter_plc _ _) rfl
  exact Alter.refl _ _

theorem alter_setFlds (i : Nat) (l : List (Fld × Nat)) (s : State) : Alter (rm i) s (setFlds i l s) := by
  unfold setFlds
  exact (Alter.refl _ _).and (alter_foldl _ _ _ fun _ _ => alter_setFld ..)

theorem alter_putTimebases (ds : Desc) (s : State) : Alter 1237940186859332864575537152 s (putTimebases ds s) := by
  unfold putTimebases
  extract_lets +onlyGivenNames x1
  have h2 : Alter 1237940186859332864575537152 s x1 := by
    unfold x1
    refine Alter.step ?_ (alter_tbs _ [] rfl) rfl
    exact Alter.refl _ _
  clear_value x1
  extract_lets +onlyGivenNames x3
  have h4 : Alter 1237940186859332864575537152 s x3 := by
    unfold x3
    refine Alter.and ?_ (alter_forEach _ _ _ ?_)
    · assumption
    · intro a5 b6
      beta_reduce
      refine Alter.step ?_ (alter_setReg ..) (rm_high (by simp only [R.PWM_TB_STAT]; omega) rfl)
      refine Alter.step ?_ (alter_setReg ..) (rm_high (by simp only [R.PWM_TB_OFS]; omega) rfl)
      refine Alter.step ?_ (alter_setReg ..) (rm_high (by simp only [R.PWM_TB_PERIOD]; omega) rfl)
      refine Alter.step ?_ (alter_setReg ..) (rm_high (by simp only [R.PWM_TB_CFG]; omega) rfl)
      exact Alter.refl _ _
  clear_value x3
  extract_lets +onlyGivenNames x7
  subst x7
  refine Alter.and ?_ (alter_forEach _ _ _ ?_)
  · assumption
  · intro a8 b9
    beta_reduce
    extract_lets +onlyGivenNames x10
    subst x10
    extract_lets +onlyGivenNames x11
    subst x11
    extract_lets +onlyGivenNames x12
    have h13 : Alter 1237940186859332864575537152 b9 x12 := by
      unfold x12
      refine Alter.step ?_ (alter_setFlds ..) (rm_high (by simp only [R.PWM_TB_CFG]; omega) rfl)
      exact Alter.refl _ _
    clear_value x12
    extract_lets +onlyGivenNames x14
    have h15 : Alter 1237940186859332864575537152 b9 x14 := by
      unfold x14
      refine Alter.step ?_ (alter_setFlds ..) (rm_high (by simp only [R.PWM_TB_PERIOD]; omega) rfl)
      assumption
    clear_value x14
    extract_lets +onlyGivenNames x16
    have h17 : Alter 1237940186859332864575537152 b9 x16 := by
      unfold x16
      refine Alter.step ?_ (alter_setBit ..) (rm_high (by simp only [R.PWM_TB_STAT]; omega) rfl)
      refine Alter.step ?_ (alter_setFld ..) (rm_high (by simp only [R.PWM_TB_OFS]; omega) rfl)
      assumption
    clear_value x16
    refine Alter.step ?_ (alter_setTb ..) rfl
    assumption

theorem alter_putUnits (ds : Desc) (s : State) : Alter 147573952589676412928 s (putUnits ds s) := by
  unfold putUnits
  refine Alter.and ?_ (alter_forEach _ _ _ ?_)
  · exact Alter.refl _ _
  · intro a1 b2
    beta_reduce
    extract_lets +onlyGivenNames x3
    subst x3
    refine Alter.step ?_ (alter_setFlds ..) (rm_high (by simp only [R.PWM_HB_CFG]; omega) rfl)
    exact Alter.refl _ _

theorem alter_putAdcs (ds : Desc) (s : State) : Alter 9903520461856994788869406720 s (putAdcs ds s) := by
  unfold putAdcs
  extract_lets +onlyGivenNames x1
  have h2 : Alter 9903520461856994788869406720 s x1 := by
    unfold x1
    refine Alter.and ?_ (alter_forEach _ _ _ ?_)
    · exact Alter.refl _ _
    · intro a3 b4
      beta_reduce
      extract_lets +onlyGivenNames x5
      have h6 : Alter 9903520461856994788869406720 b4 x5 := by
        unfold x5
        refine Alter.step ?_ (alter_setAdc ..) rfl
        exact Alter.refl _ _
      clear_value x5
      extract_lets +onlyGivenNames x7
      have h8 : Alter 9903520461856994788869406720 b4 x7 := by
        unfold x7
        refine Alter.step ?_ (alter_setReg ..) (rm_high (by simp only [R.ADC_AD_STAT]; omega) rfl)
        refine Alter.step ?_ (alter_setReg ..) (rm_high (by simp only [R.ADC_AD_TRIG]; omega) rfl)
        refine Alter.step ?_ (alter_setReg ..) (rm_high (by simp only [R.ADC_AD_CFG]; omega) rfl)
        assumption
      clear_value x7
      refine Alter.and ?_ (alter_forEach _ _ _ ?_)
      · assumption
      · intro a9 b10
        beta_reduce
        refine Alter.step ?_ (alter_setReg ..) (rm_high (by simp only [R.ADC_AD_SLOT]; omega) rfl)
        exact Alter.refl _ _
  clear_value x1
  extract_lets +onlyGivenNames x11
  subst x11
  refine Alter.and ?_ (alter_forEach _ _ _ ?_)
  · assumption
  · intro a12 b13
    beta_reduce
    split
    · rename_i z14 z15
      exact Alter.refl _ _
    · rename_i z16 z17 z18
      split
      · rename_i z19 z20
        exact Alter.refl _ _
      · rename_i z21 z22 z23 z24
        extract_lets +onlyGivenNames x25
        subst x25
        extract_lets +onlyGivenNames x26
        have h27 : Alter 9903520461856994788869406720 b13 x26 := by
          unfold x26
          refine Alter.step ?_ (alter_setFlds ..) (rm_high (by simp only [R.ADC_AD_CFG]; omega) rfl)
          exact Alter.refl _ _
        clear_value x26
        refine alter_ite (fun _ => ?_) (fun _ => ?_)
        · extract_lets +onlyGivenNames x28
          have h29 : Alter 9903520461856994788869406720 b13 x28 := by
            unfold x28
            refine Alter.step ?_ (alter_setFld ..) (rm_high (by simp only [R.ADC_AD_CFG]; omega) rfl)
            assumption
          clear_value x28
          extract_lets +onlyGivenNames x30
          have h31 : Alter 9903520461856994788869406720 b13 x30 := by
            unfold x30
            refine Alter.step ?_ (alter_setFlds ..) (rm_high (by simp only [R.ADC_AD_TRIG]; omega) rfl)
            assumption
          clear_value x30
          refine Alter.and ?_ (alter_forEach _ _ _ ?_)
          · assumption
          · intro a32 b33
            beta_reduce
            split
            · rename_i z34 z35 z36
              refine Alter.step ?_ (alter_setFlds ..) (rm_high (by simp only [R.ADC_AD_SLOT]; omega) rfl)
              exact Alter.refl _ _
            · rename_i z37 z38
              exact Alter.refl _ _
        · refine Alter.step ?_ (alter_setFlds ..) (rm_high (by simp only [R.ADC_AD_CFG]; omega) rfl)
          assumption

theorem alter_putQueues (ds : Desc) (s : State) : Alter 9903520461856994788869406720 s (putQueues ds s) := by
  unfold putQueues
  extract_lets +onlyGivenNames x1
  subst x1
  extract_lets +onlyGivenNames x2
  subst x2
  extract_lets +onlyGivenNames x3
  have h4 : Alter 9903520461856994788869406720 s x3 := by
    unfold x3
    refine Alter.and ?_ (alter_forEach _ _ _ ?_)
    · exact Alter.refl _ _
    · intro a5 b6
      beta_reduce
      split
      · rename_i z7 z8
        refine Alter.step ?_ (alter_setReg ..) (rm_high (by simp only [R.QUE_Q_CFG]; omega) rfl)
        exact Alter.refl _ _
      · rename_i z9 z10 z11
        split
        · rename_i z12 z13 z14 z15
          refine Alter.step ?_ (alter_setFlds ..) (rm_high (by simp only [R.QUE_Q_CFG]; omega) rfl)
          exact Alter.refl _ _
  clear_value x3
  extract_lets +onlyGivenNames x16
  have h17 : Alter 9903520461856994788869406720 s x16 := by
    unfold x16
    refine Alter.step ?_ (alter_setFld ..) (by decide)
    assumption
  clear_value x16
  extract_lets +onlyGivenNames x18
  subst x18
  extract_lets +onlyGivenNames x19
  subst x19
  refine Alter.step ?_ (alter_meas _ _) rfl
  assumption

theorem alter_putGraphs (ws : List Reg) (ds : Desc) (s : State) : Alter 147573952589676412928 s (putGraphs ws ds s) := by
  unfold putGraphs
  extract_lets +onlyGivenNames x1
  have h2 : Alter 147573952589676412928 s x1 := by
    unfold x1
    refine Alter.and ?_ (alter_forEach _ _ _ ?_)
    · exact Alter.refl _ _
    · intro a3 b4
      beta_reduce
      extract_lets +onlyGivenNames x5
      have h6 : Alter 147573952589676412928 b4 x5 := by
        unfold x5
        refine Alter.step ?_ (alter_setReg ..) (rm_high (by simp only [R.ENG_G_FLAGS]; omega) rfl)
        refine Alter.step ?_ (alter_setReg ..) (rm_high (by simp only [R.PLC_GRAPH]; omega) rfl)
        refine Alter.step ?_ (alter_setReg ..) (rm_high (by simp only [R.ENG_G_STAT]; omega) rfl)
        exact Alter.refl _ _
      clear_value x5
      refine Alter.step ?_ (alter_setFlds ..) (rm_high (by simp only [R.ENG_PAIR_STAT_K]; omega) rfl)
      assumption
  clear_value x1
  extract_lets +onlyGivenNames x7
  have h8 : Alter 147573952589676412928 s x7 := by
    unfold x7
    refine Alter.step ?_ (alter_setFld ..) (by decide)
    assumption
  clear_value x7
  refine Alter.and ?_ (alter_forEach _ _ _ ?_)
  · assumption
  · intro a9 b10
    beta_reduce
    extract_lets +onlyGivenNames x11
    subst x11
    extract_lets +onlyGivenNames x12
    subst x12
    extract_lets +onlyGivenNames x13
    subst x13
    extract_lets +onlyGivenNames x14
    subst x14
    extract_lets +onlyGivenNames x15
    have h16 : Alter 147573952589676412928 b10 x15 := by
      unfold x15
      refine Alter.step ?_ (alter_setFlds ..) (rm_high (by simp only [R.ENG_G_STAT]; omega) rfl)
      exact Alter.refl _ _
    clear_value x15
    extract_lets +onlyGivenNames x17
    have h18 : Alter 147573952589676412928 b10 x17 := by
      unfold x17
      refine Alter.step ?_ (alter_setFlds ..) (rm_high (by simp only [R.PLC_GRAPH]; omega) rfl)
      assumption
    clear_value x17
    refine Alter.step ?_ (alter_setBit ..) (rm_high (by simp only [R.ENG_PAIR_STAT_K]; omega) rfl)
    assumption

theorem alter_putConvs (ds : Desc) (s : State) : Alter 309485157395297658401193984 s (putConvs ds s) := by
  unfold putConvs
  extract_lets +onlyGivenNames x1
  have h2 : Alter 309485157395297658401193984 s x1 := by
    unfold x1
    refine Alter.and ?_ (alter_forEach _ _ _ ?_)
    · exact Alter.refl _ _
    · intro a3 b4
      beta_reduce
      extract_lets +onlyGivenNames x5
      subst x5
      extract_lets +onlyGivenNames x6
      have h7 : Alter 309485157395297658401193984 b4 x6 := by
        unfold x6
        refine Alter.step ?_ (alter_setConv ..) rfl
        exact Alter.refl _ _
      clear_value x6
      split
      · rename_i z8 z9
        refine Alter.step ?_ (alter_setReg ..) (rm_high (by simp only [R.PLC_CONV]; omega) rfl)
        assumption
      · rename_i z10 z11 z12 z13
        extract_lets +onlyGivenNames x14
        subst x14
        refine Alter.step ?_ (alter_setFlds ..) (rm_high (by simp only [R.PLC_CONV]; omega) rfl)
        assumption
  clear_value x1
  extract_lets +onlyGivenNames x15
  have h16 : Alter 309485157395297658401193984 s x15 := by
    unfold x15
    refine Alter.and ?_ (alter_forEach _ _ _ ?_)
    · assumption
    · intro a17 b18
      beta_reduce
      refine Alter.step ?_ (alter_setReg ..) (rm_high (by simp only [R.PROT_PRE_VERD]; omega) rfl)
      exact Alter.refl _ _
  clear_value x15
  extract_lets +onlyGivenNames x19
  subst x19
  refine Alter.and ?_ (alter_forEach _ _ _ ?_)
  · assumption
  · intro a20 b21
    beta_reduce
    refine Alter.step ?_ (alter_setBit ..) (rm_high (by simp only [R.ISL_CFG]; omega) rfl)
    exact Alter.refl _ _

theorem alter_putPool (l : AMap Nat) (s : State) : Alter 10141204801973409164563302055936 s (putPool l s) := by
  unfold putPool
  refine Alter.step ?_ (alter_setFld ..) (by decide)
  refine Alter.step ?_ (alter_plc _ _) rfl
  exact Alter.refl _ _

theorem alter_poolGive (use : Nat) (bs : List Nat) (s : State) : Alter 10141204801973409164563302055936 s (poolGive use bs s) := by
  unfold poolGive
  refine Alter.step ?_ (alter_putPool ..) rfl
  exact Alter.refl _ _

theorem alter_poolRetire (b : Nat) (s : State) : Alter 10141204801973409164563302055936 s (poolRetire b s) := by
  unfold poolRetire
  refine Alter.step ?_ (alter_putPool ..) rfl
  exact Alter.refl _ _

theorem alter_putReserve (ds : Desc) (s : State) : Alter 10141204801973409164563302055936 s (putReserve ds s) := by
  unfold putReserve
  extract_lets +onlyGivenNames x1
  subst x1
  extract_lets +onlyGivenNames x2
  subst x2
  extract_lets +onlyGivenNames x3
  subst x3
  extract_lets +onlyGivenNames x4
  have h5 : Alter 10141204801973409164563302055936 s x4 := by
    unfold x4
    refine Alter.step ?_ (alter_plc _ _) rfl
    exact Alter.refl _ _
  clear_value x4
  extract_lets +onlyGivenNames x6
  have h7 : Alter 10141204801973409164563302055936 s x6 := by
    unfold x6
    refine Alter.step ?_ (alter_setFlds ..) (by decide)
    assumption
  clear_value x6
  refine Alter.step ?_ (alter_putPool ..) rfl
  assumption

theorem alter_latchesClear (s : State) : Alter 773712672127315261488365568 s (latchesClear s) := by
  unfold latchesClear
  extract_lets +onlyGivenNames x1
  have h2 : Alter 773712672127315261488365568 s x1 := by
    unfold x1
    refine Alter.step ?_ (alter_setFld ..) (by decide)
    exact Alter.refl _ _
  clear_value x1
  extract_lets +onlyGivenNames x3
  have h4 : Alter 773712672127315261488365568 s x3 := by
    unfold x3
    refine Alter.and ?_ (alter_forEach _ _ _ ?_)
    · assumption
    · intro a5 b6
      beta_reduce
      extract_lets +onlyGivenNames x7
      subst x7
      extract_lets +onlyGivenNames x8
      have h9 : Alter 773712672127315261488365568 b6 x8 := by
        unfold x8
        refine Alter.step ?_ (alter_setUnit ..) rfl
        exact Alter.refl _ _
      clear_value x8
      refine Alter.step ?_ (alter_setFlds ..) (rm_high (by simp only [R.PWM_HB_STAT]; omega) rfl)
      assumption
  clear_value x3
  refine Alter.step ?_ (alter_selDrop ..) rfl
  refine Alter.step ?_ (alter_selDrop ..) rfl
  assumption

theorem alter_acceptPlant (ws : List Reg) (ds : Desc) (s : State) : Alter 11921323988467479609849262637056 s (acceptPlant ws ds s) := by
  unfold acceptPlant
  extract_lets +onlyGivenNames x1
  have h2 : Alter 11921323988467479609849262637056 s x1 := by
    unfold x1
    refine Alter.step ?_ (alter_forceEnd ..) rfl
    refine Alter.step ?_ (alter_recEnd ..) rfl
    exact Alter.refl _ _
  clear_value x1
  extract_lets +onlyGivenNames x3
  have h4 : Alter 11921323988467479609849262637056 s x3 := by
    unfold x3
    refine Alter.step ?_ (alter_plant _ _) rfl
    assumption
  clear_value x3
  extract_lets +onlyGivenNames x5
  have h6 : Alter 11921323988467479609849262637056 s x5 := by
    unfold x5
    refine Alter.step ?_ (alter_putTimebases ..) rfl
    assumption
  clear_value x5
  extract_lets +onlyGivenNames x7
  have h8 : Alter 11921323988467479609849262637056 s x7 := by
    unfold x7
    refine Alter.step ?_ (alter_putConvs ..) rfl
    refine Alter.step ?_ (alter_putUnits ..) rfl
    assumption
  clear_value x7
  extract_lets +onlyGivenNames x9
  have h10 : Alter 11921323988467479609849262637056 s x9 := by
    unfold x9
    refine Alter.step ?_ (alter_putGraphs ..) rfl
    refine Alter.step ?_ (alter_putQueues ..) rfl
    refine Alter.step ?_ (alter_putAdcs ..) rfl
    assumption
  clear_value x9
  extract_lets +onlyGivenNames x11
  have h12 : Alter 11921323988467479609849262637056 s x11 := by
    unfold x11
    refine Alter.step ?_ (alter_putReserve ..) rfl
    assumption
  clear_value x11
  extract_lets +onlyGivenNames x13
  have h14 : Alter 11921323988467479609849262637056 s x13 := by
    unfold x13
    refine Alter.step ?_ (alter_setFld ..) (by decide)
    assumption
  clear_value x13
  extract_lets +onlyGivenNames x15
  have h16 : Alter 11921323988467479609849262637056 s x15 := by
    unfold x15
    refine Alter.step ?_ (alter_setFld ..) (by decide)
    refine Alter.step ?_ (alter_setFld ..) (by decide)
    assumption
  clear_value x15
  extract_lets +onlyGivenNames x17
  have h18 : Alter 11921323988467479609849262637056 s x17 := by
    unfold x17
    refine Alter.step ?_ (alter_carriesClear ..) rfl
    refine Alter.step ?_ (alter_latchesClear ..) rfl
    assumption
  clear_value x17
  extract_lets +onlyGivenNames x19
  have h20 : ∀ y21 y22, Alter 11921323988467479609849262637056 y22 (x19 y21 y22) := by
    intro y21 y22
    unfold x19
    beta_reduce
    refine Alter.step ?_ (alter_selDrop ..) rfl
    refine Alter.step ?_ (alter_selDrop ..) rfl
    refine Alter.step ?_ (alter_selDrop ..) rfl
    exact Alter.refl _ _
  clear_value x19
  extract_lets +onlyGivenNames x23
  have h24 : Alter 11921323988467479609849262637056 s x23 := by
    unfold x23
    refine Alter.and ?_ (h20 ..)
    refine Alter.and ?_ (h20 ..)
    assumption
  clear_value x23
  extract_lets +onlyGivenNames x25
  subst x25
  extract_lets +onlyGivenNames x26
  have h27 : Alter 11921323988467479609849262637056 s x26 := by
    unfold x26
    refine Alter.step ?_ (alter_eng _ _) rfl
    assumption
  clear_value x26
  extract_lets +onlyGivenNames x28
  have h29 : Alter 11921323988467479609849262637056 s x28 := by
    unfold x28
    refine Alter.and ?_ (alter_forEach _ _ _ ?_)
    · assumption
    · intro a30 b31
      beta_reduce
      refine Alter.step ?_ (alter_setGraph ..) rfl
      exact Alter.refl _ _
  clear_value x28
  extract_lets +onlyGivenNames x32
  have h33 : Alter 11921323988467479609849262637056 s x32 := by
    unfold x32
    refine Alter.step ?_ (alter_setFlds ..) (by decide)
    assumption
  clear_value x32
  extract_lets +onlyGivenNames x34
  have h35 : Alter 11921323988467479609849262637056 s x34 := by
    unfold x34
    refine Alter.and ?_ (alter_forEach _ _ _ ?_)
    · assumption
    · intro a36 b37
      beta_reduce
      refine Alter.step ?_ (alter_setReg ..) (rm_high (by simp only [R.ENG_HAND_HELD]; omega) rfl)
      exact Alter.refl _ _
  clear_value x34
  extract_lets +onlyGivenNames x38
  have h39 : Alter 11921323988467479609849262637056 s x38 := by
    unfold x38
    refine Alter.and ?_ (alter_forEach _ _ _ ?_)
    · assumption
    · intro a40 b41
      beta_reduce
      refine Alter.step ?_ (alter_setReg ..) (rm_high (by simp only [R.ENG_HAND]; omega) rfl)
      exact Alter.refl _ _
  clear_value x38
  extract_lets +onlyGivenNames x42
  have h43 : Alter 11921323988467479609849262637056 s x42 := by
    unfold x42
    refine Alter.step ?_ (alter_queEmptyAll ..) rfl
    assumption
  clear_value x42
  extract_lets +onlyGivenNames x44
  have h45 : Alter 11921323988467479609849262637056 s x44 := by
    unfold x44
    refine Alter.and ?_ (alter_forEach _ _ _ ?_)
    · assumption
    · intro a46 b47
      beta_reduce
      refine Alter.step ?_ (alter_setSel ..) rfl
      exact Alter.refl _ _
  clear_value x44
  extract_lets +onlyGivenNames x48
  have h49 : Alter 11921323988467479609849262637056 s x48 := by
    unfold x48
    refine Alter.and ?_ (alter_forEach _ _ _ ?_)
    · assumption
    · intro a50 b51
      beta_reduce
      refine Alter.step ?_ (alter_setBit ..) (rm_high (by simp only [R.TRX_M_STAT]; omega) rfl)
      exact Alter.refl _ _
  clear_value x48
  extract_lets +onlyGivenNames x52
  have h53 : Alter 11921323988467479609849262637056 s x52 := by
    unfold x52
    refine Alter.step ?_ (alter_actAccepted ..) rfl
    assumption
  clear_value x52
  extract_lets +onlyGivenNames x54
  have h55 : Alter 11921323988467479609849262637056 s x54 := by
    unfold x54
    refine Alter.step ?_ (alter_recArm ..) rfl
    assumption
  clear_value x54
  refine Alter.step ?_ (alter_selEvalAll ..) rfl
  refine Alter.step ?_ (alter_linkEval ..) rfl
  assumption

theorem alter_proofResult (e : Option PErr) (began : Nat) (s : State) : Alter 10141204801973409164563302055936 s (proofResult e began s) := by
  unfold proofResult
  extract_lets +onlyGivenNames x1
  subst x1
  extract_lets +onlyGivenNames x2
  have h3 : Alter 10141204801973409164563302055936 s x2 := by
    unfold x2
    refine Alter.step ?_ (alter_plc _ _) rfl
    exact Alter.refl _ _
  clear_value x2
  extract_lets +onlyGivenNames x4
  have h5 : Alter 10141204801973409164563302055936 s x4 := by
    unfold x4
    refine Alter.step ?_ (alter_setFld ..) (by decide)
    assumption
  clear_value x4
  split
  · rename_i z6
    refine Alter.step ?_ (alter_setReg ..) (by decide)
    refine Alter.step ?_ (alter_setReg ..) (by decide)
    assumption
  · rename_i z7 z8
    extract_lets +onlyGivenNames x9
    have h10 : Alter 10141204801973409164563302055936 s x9 := by
      unfold x9
      refine Alter.step ?_ (alter_setFlds ..) (by decide)
      assumption
    clear_value x9
    extract_lets +onlyGivenNames x11
    have h12 : Alter 10141204801973409164563302055936 s x11 := by
      unfold x11
      refine Alter.step ?_ (alter_setFlds ..) (by decide)
      assumption
    clear_value x11
    refine Alter.step ?_ (alter_setBit ..) (by decide)
    assumption

theorem alter_plcState (s : State) : Alter 147573952589676412928 s (plcState s) := by
  unfold plcState
  refine Alter.step ?_ (alter_setFld ..) (by decide)
  exact Alter.refl _ _

theorem alter_proofComplete (s : State) : Alter 11921333659874036526882660286464 s (proofComplete s) := by
  unfold proofComplete
  split
  · rename_i z1 z2
    exact Alter.refl _ _
  · rename_i z3 z4 z5 z6
    split
    · rename_i z7 z8 z9 z10
      extract_lets +onlyGivenNames x11
      have h12 : Alter 11921333659874036526882660286464 s x11 := by
        unfold x11
        refine Alter.step ?_ (alter_proofResult ..) rfl
        exact Alter.refl _ _
      clear_value x11
      split
      · rename_i z13 z14
        refine Alter.step ?_ (alter_raise ..) rfl
        refine Alter.step ?_ (alter_plcState ..) rfl
        assumption
      · rename_i z15
        extract_lets +onlyGivenNames x16
        have h17 : Alter 11921333659874036526882660286464 s x16 := by
          unfold x16
          refine Alter.step ?_ (alter_acceptPlant ..) rfl
          assumption
        clear_value x16
        extract_lets +onlyGivenNames x18
        subst x18
        extract_lets +onlyGivenNames x19
        have h20 : Alter 11921333659874036526882660286464 s x19 := by
          unfold x19
          refine Alter.step ?_ (alter_plc _ _) rfl
          assumption
        clear_value x19
        extract_lets +onlyGivenNames x21
        have h22 : Alter 11921333659874036526882660286464 s x21 := by
          unfold x21
          refine Alter.step ?_ (alter_plcState ..) rfl
          refine Alter.step ?_ (alter_setBit ..) (by decide)
          assumption
        clear_value x21
        extract_lets +onlyGivenNames x23
        have h24 : Alter 11921333659874036526882660286464 s x23 := by
          unfold x23
          refine Alter.step ?_ (alter_raise ..) rfl
          assumption
        clear_value x23
        refine alter_ite (fun _ => ?_) (fun _ => ?_)
        · refine Alter.step ?_ (alter_preStart ..) rfl
          refine Alter.step ?_ (alter_preDue _ _) rfl
          assumption
        · assumption

theorem alter_execProofComplete (e : Nat) (s : State) : Ends 11921333659984716991324917596160 s (execProofComplete e s) := by
  unfold execProofComplete
  refine ends_next ?_
  refine Alter.step ?_ (alter_proofComplete ..) rfl
  refine Alter.step ?_ (alter_tick ..) rfl
  exact Alter.refl _ _

theorem alter_plantStored (s : State) : Alter 10141204801973409164563302055936 s (plantStored s) := by
  unfold plantStored
  refine alter_ite (fun _ => ?_) (fun _ => ?_)
  · exact Alter.refl _ _
  · extract_lets +onlyGivenNames x1
    subst x1
    extract_lets +onlyGivenNames x2
    subst x2
    extract_lets +onlyGivenNames x3
    subst x3
    extract_lets +onlyGivenNames x4
    have h5 : Alter 10141204801973409164563302055936 s x4 := by
      unfold x4
      refine Alter.step ?_ (alter_plc _ _) rfl
      exact Alter.refl _ _
    clear_value x4
    refine Alter.step ?_ (alter_setBit ..) (by decide)
    assumption

theorem alter_execPlantStored (e : Nat) (s : State) : Ends 10141204802084089629005559365632 s (execPlantStored e s) := by
  unfold execPlantStored
  refine ends_next ?_
  refine Alter.step ?_ (alter_plantStored ..) rfl
  refine Alter.step ?_ (alter_tick ..) rfl
  exact Alter.refl _ _

theorem alter_plantNone (s : State) : Alter 31296671765757472664469897216 s (plantNone s) := by
  unfold plantNone
  extract_lets +onlyGivenNames x1
  have h2 : Alter 31296671765757472664469897216 s x1 := by
    unfold x1
    refine Alter.step ?_ (alter_putTimebases ..) rfl
    refine Alter.step ?_ (alter_plant _ _) rfl
    exact Alter.refl _ _
  clear_value x1
  extract_lets +onlyGivenNames x3
  have h4 : Alter 31296671765757472664469897216 s x3 := by
    unfold x3
    refine Alter.step ?_ (alter_putGraphs ..) rfl
    refine Alter.step ?_ (alter_putQueues ..) rfl
    refine Alter.step ?_ (alter_putAdcs ..) rfl
    refine Alter.step ?_ (alter_putConvs ..) rfl
    refine Alter.step ?_ (alter_putUnits ..) rfl
    assumption
  clear_value x3
  refine Alter.step ?_ (alter_eng _ _) rfl
  assumption

theorem alter_plantReproof (s : State) : Alter 11921323989057775420207968288768 s (plantReproof s) := by
  unfold plantReproof
  refine alter_ite (fun _ => ?_) (fun _ => ?_)
  · exact Alter.refl _ _
  · extract_lets +onlyGivenNames x1
    have h2 : ∀ y3 y4, Alter 11921323989057775420207968288768 y4 (x1 y3 y4) := by
      intro y3 y4
      unfold x1
      beta_reduce
      refine Alter.step ?_ (alter_boot _ _) rfl
      exact Alter.refl _ _
    clear_value x1
    extract_lets +onlyGivenNames x5
    have h6 : Alter 11921323989057775420207968288768 s x5 := by
      unfold x5
      split
      · rename_i z7 z8
        exact Alter.refl _ _
      · rename_i z9 z10 z11
        split
        · rename_i z12 z13 z14 z15
          extract_lets +onlyGivenNames x16
          have h17 : Alter 11921323989057775420207968288768 s x16 := by
            unfold x16
            refine Alter.step ?_ (alter_proofResult ..) rfl
            exact Alter.refl _ _
          clear_value x16
          split
          · rename_i z18 z19
            refine Alter.and ?_ (h2 ..)
            refine Alter.step ?_ (alter_plantNone ..) rfl
            assumption
          · rename_i z20
            extract_lets +onlyGivenNames x21
            have h22 : Alter 11921323989057775420207968288768 s x21 := by
              unfold x21
              refine Alter.step ?_ (alter_setBit ..) (by decide)
              refine Alter.step ?_ (alter_acceptPlant ..) rfl
              assumption
            clear_value x21
            refine Alter.and ?_ (h2 ..)
            assumption
    clear_value x5
    extract_lets +onlyGivenNames x23
    subst x23
    extract_lets +onlyGivenNames x24
    subst x24
    extract_lets +onlyGivenNames x25
    have h26 : Alter 11921323989057775420207968288768 s x25 := by
      unfold x25
      refine alter_ite (fun _ => ?_) (fun _ => ?_)
      · refine Alter.step ?_ (alter_plcState ..) rfl
        assumption
      · refine Alter.step ?_ (alter_plcState ..) rfl
        refine Alter.step ?_ (alter_plc _ _) rfl
        assumption
    clear_value x25
    refine Alter.step ?_ (alter_boot _ _) rfl
    assumption

theorem alter_execPlantReproof (e : Nat) (s : State) : Ends 11921323989168455884650225598464 s (execPlantReproof e s) := by
  unfold execPlantReproof
  refine ends_next ?_
  refine Alter.step ?_ (alter_plantReproof ..) rfl
  refine Alter.step ?_ (alter_tick ..) rfl
  exact Alter.refl _ _

theorem alter_convOff (c : Nat) (why : Nat) (s : State) : Alter 84166232945507252418287484534784 s (convOff c why s) := by
  unfold convOff
  refine Alter.step ?_ (alter_convProtect ..) rfl
  exact Alter.refl _ _

theorem alter_suspend (pair : Bool) (g : Nat) (s : State) : Alter 20116525785961382056787181568 s (suspend pair g s) := by
  unfold suspend
  extract_lets +onlyGivenNames x1
  subst x1
  extract_lets +onlyGivenNames x2
  subst x2
  extract_lets +onlyGivenNames x3
  have h4 : Alter 20116525785961382056787181568 s x3 := by
    unfold x3
    refine Alter.step ?_ (alter_setGraph ..) rfl
    exact Alter.refl _ _
  clear_value x3
  extract_lets +onlyGivenNames x5
  have h6 : Alter 20116525785961382056787181568 s x5 := by
    unfold x5
    refine Alter.step ?_ (alter_obsEnd ..) rfl
    refine Alter.step ?_ (alter_setBit ..) (rm_high (by simp only [R.PLC_GRAPH]; omega) rfl)
    assumption
  clear_value x5
  refine Alter.and ?_ (alter_forEach _ _ _ ?_)
  · assumption
  · intro a7 b8
    beta_reduce
    refine alter_ite (fun _ => ?_) (fun _ => ?_)
    · exact Alter.refl _ _
    · refine Alter.step ?_ (alter_setFld ..) (rm_high (by simp only [R.PLC_CONV]; omega) rfl)
      refine Alter.step ?_ (alter_setConv ..) rfl
      exact Alter.refl _ _

theorem alter_shedConv (c : Nat) (s : State) : Alter 84166232945507252418287484534784 s (shedConv c s) := by
  unfold shedConv
  refine alter_ite (fun _ => ?_) (fun _ => ?_)
  · exact Alter.refl _ _
  · extract_lets +onlyGivenNames x1
    subst x1
    extract_lets +onlyGivenNames x2
    have h3 : Alter 84166232945507252418287484534784 s x2 := by
      unfold x2
      refine Alter.step ?_ (alter_setConv ..) rfl
      exact Alter.refl _ _
    clear_value x2
    extract_lets +onlyGivenNames x4
    have h5 : Alter 84166232945507252418287484534784 s x4 := by
      unfold x4
      refine Alter.step ?_ (alter_setFld ..) (rm_high (by simp only [R.PLC_CONV]; omega) rfl)
      refine Alter.step ?_ (alter_setBitAt ..) (by decide)
      assumption
    clear_value x4
    extract_lets +onlyGivenNames x6
    have h7 : Alter 84166232945507252418287484534784 s x6 := by
      unfold x6
      refine Alter.step ?_ (alter_raise ..) rfl
      refine Alter.step ?_ (alter_setBit ..) (by decide)
      assumption
    clear_value x6
    refine Alter.step ?_ (alter_convOff ..) rfl
    assumption

theorem alter_shedWith (c : Nat) (s : State) : Alter 84166232945507252418287484534784 s (shedWith c s) := by
  unfold shedWith
  refine Alter.and ?_ (alter_forEach _ _ _ ?_)
  · exact Alter.refl _ _
  · intro a1 b2
    beta_reduce
    refine Alter.step ?_ (alter_shedConv ..) rfl
    exact Alter.refl _ _

theorem alter_shedUntil (own : State → Bool) (free : State → Option Nat) (uses : State → Nat → Bool) (n : Nat) (s : State) :
    Alter 84166232945507252418287484534784 s (shedUntil own free uses n s).2 := by
  induction n generalizing s with
  | zero => exact Alter.refl _ _
  | succ n ih =>
    unfold shedUntil
    split
    · exact Alter.refl _ _
    · split
      · exact Alter.refl _ _
      · exact (alter_shedWith ..).and (ih _)
      · exact Alter.refl _ _

theorem alter_movePair (g : Nat) (k : Nat) (init : Bool) (s : State) : Alter 19807040776140036988062400512 s (movePair g k init s) := by
  unfold movePair
  extract_lets +onlyGivenNames x1
  subst x1
  extract_lets +onlyGivenNames x2
  have h3 : Alter 19807040776140036988062400512 s x2 := by
    unfold x2
    refine Alter.and ?_ (alter_forEach _ _ _ ?_)
    · exact Alter.refl _ _
    · intro a4 b5
      beta_reduce
      refine Alter.step ?_ (alter_setFld ..) (rm_high (by simp only [R.QUE_Q_CFG]; omega) rfl)
      exact Alter.refl _ _
  clear_value x2
  extract_lets +onlyGivenNames x6
  have h7 : Alter 19807040776140036988062400512 s x6 := by
    unfold x6
    refine Alter.step ?_ (alter_setFld ..) (rm_high (by simp only [R.PLC_GRAPH]; omega) rfl)
    refine Alter.step ?_ (alter_setFld ..) (rm_high (by simp only [R.ENG_G_STAT]; omega) rfl)
    assumption
  clear_value x6
  extract_lets +onlyGivenNames x8
  have h9 : Alter 19807040776140036988062400512 s x8 := by
    unfold x8
    refine Alter.step ?_ (alter_setBit ..) (rm_high (by simp only [R.ENG_PAIR_STAT_K]; omega) rfl)
    refine Alter.step ?_ (alter_setBit ..) (rm_high (by simp only [R.ENG_PAIR_STAT_K]; omega) rfl)
    assumption
  clear_value x8
  extract_lets +onlyGivenNames x10
  subst x10
  refine Alter.step ?_ (alter_setGraph ..) rfl
  assumption

theorem alter_moveAdc (n : Nat) (m : Nat) (s : State) : Alter 9903520461856994788869406720 s (moveAdc n m s) := by
  unfold moveAdc
  extract_lets +onlyGivenNames x1
  have h2 : Alter 9903520461856994788869406720 s x1 := by
    unfold x1
    refine Alter.step ?_ (alter_setReg ..) (rm_high (by simp only [R.ADC_AD_TRIG]; omega) rfl)
    refine Alter.step ?_ (alter_setReg ..) (rm_high (by simp only [R.ADC_AD_CFG]; omega) rfl)
    exact Alter.refl _ _
  clear_value x1
  extract_lets +onlyGivenNames x3
  have h4 : Alter 9903520461856994788869406720 s x3 := by
    unfold x3
    refine Alter.and ?_ (alter_forEach _ _ _ ?_)
    · assumption
    · intro a5 b6
      beta_reduce
      refine Alter.step ?_ (alter_setReg ..) (rm_high (by simp only [R.ADC_AD_SLOT]; omega) rfl)
      refine Alter.step ?_ (alter_setReg ..) (rm_high (by simp only [R.ADC_AD_SLOT]; omega) rfl)
      exact Alter.refl _ _
  clear_value x3
  extract_lets +onlyGivenNames x7
  have h8 : Alter 9903520461856994788869406720 s x7 := by
    unfold x7
    refine Alter.step ?_ (alter_setReg ..) (rm_high (by simp only [R.ADC_AD_TRIG]; omega) rfl)
    refine Alter.step ?_ (alter_setReg ..) (rm_high (by simp only [R.ADC_AD_CFG]; omega) rfl)
    assumption
  clear_value x7
  refine Alter.step ?_ (alter_setAdc ..) rfl
  assumption

theorem alter_replBegin (f : PFail) (gs : List Nat) (reserve : Option Nat) (loadAt : Nat) (s : State) : Alter 10141204801973409164563302055936 s (replBegin f gs reserve loadAt s) := by
  unfold replBegin
  extract_lets +onlyGivenNames x1
  subst x1
  refine Alter.step ?_ (alter_plcState ..) rfl
  refine Alter.step ?_ (alter_plc _ _) rfl
  exact Alter.refl _ _

theorem alter_dropRsvPair (s : State) : Alter 10141204801973409164563302055936 s (dropRsvPair s) := by
  unfold dropRsvPair
  refine Alter.step ?_ (alter_setFld ..) (by decide)
  refine Alter.step ?_ (alter_plc _ _) rfl
  exact Alter.refl _ _

theorem alter_dropRsvAdc (s : State) : Alter 10141204801973409164563302055936 s (dropRsvAdc s) := by
  unfold dropRsvAdc
  refine Alter.step ?_ (alter_setFld ..) (by decide)
  refine Alter.step ?_ (alter_plc _ _) rfl
  exact Alter.refl _ _

theorem alter_replPair (f : PFail) (g : Nat) (s : State) : Alter 94307437747333087630261110177792 s (replPair f g s) := by
  unfold replPair
  extract_lets +onlyGivenNames x1
  have h2 : ∀ y3 y4, Alter 94307437747333087630261110177792 y4 (x1 y3 y4) := by
    intro y3 y4
    unfold x1
    beta_reduce
    extract_lets +onlyGivenNames x5
    subst x5
    refine Alter.step ?_ (alter_replBegin ..) rfl
    refine Alter.step ?_ (alter_movePair ..) rfl
    exact Alter.refl _ _
  clear_value x1
  split
  · rename_i z6 z7 z8 z9 z10
    refine Alter.and ?_ (h2 ..)
    refine Alter.step ?_ (alter_dropRsvPair ..) rfl
    exact Alter.refl _ _
  · rename_i z11 z12 z13
    split
    · rename_i z14 z15 z16 z17
      have h18 : Alter 94307437747333087630261110177792 s z16 := by
        refine (congrArg (Alter _ _) (congrArg (Prod.snd) z17)).mp ?_
        refine Alter.step ?_ (alter_shedUntil ..) rfl
        exact Alter.refl _ _
      refine Alter.and ?_ (h2 ..)
      refine Alter.step ?_ (alter_setGraph ..) rfl
      refine Alter.step ?_ (alter_setBit ..) (rm_high (by simp only [R.ENG_G_STAT]; omega) rfl)
      assumption
    · rename_i z19 z20 z21
      have h22 : Alter 94307437747333087630261110177792 s z20 := by
        refine (congrArg (Alter _ _) (congrArg (Prod.snd) z21)).mp ?_
        refine Alter.step ?_ (alter_shedUntil ..) rfl
        exact Alter.refl _ _
      assumption

theorem alter_replAdc (f : PFail) (gs : List Nat) (s : State) : Alter 94317341267647370672460303171584 s (replAdc f gs s) := by
  unfold replAdc
  extract_lets +onlyGivenNames x1
  have h2 : ∀ y3 y4, Alter 94317341267647370672460303171584 y4 (x1 y3 y4) := by
    intro y3 y4
    unfold x1
    beta_reduce
    refine Alter.step ?_ (alter_replBegin ..) rfl
    refine Alter.step ?_ (alter_moveAdc ..) rfl
    exact Alter.refl _ _
  clear_value x1
  split
  · rename_i z5 z6 z7
    refine Alter.and ?_ (h2 ..)
    refine Alter.step ?_ (alter_dropRsvAdc ..) rfl
    exact Alter.refl _ _
  · rename_i z8 z9
    split
    · rename_i z10 z11 z12 z13
      have h14 : Alter 94317341267647370672460303171584 s z12 := by
        refine (congrArg (Alter _ _) (congrArg (Prod.snd) z13)).mp ?_
        refine Alter.step ?_ (alter_shedUntil ..) rfl
        exact Alter.refl _ _
      refine Alter.and ?_ (h2 ..)
      assumption
    · rename_i z15 z16 z17
      have h18 : Alter 94317341267647370672460303171584 s z16 := by
        refine (congrArg (Alter _ _) (congrArg (Prod.snd) z17)).mp ?_
        refine Alter.step ?_ (alter_shedUntil ..) rfl
        exact Alter.refl _ _
      assumption

theorem alter_replRegion (f : PFail) (gs : List Nat) (s : State) : Alter 94317341267647370672460303171584 s (replRegion f gs s) := by
  unfold replRegion
  split
  · rename_i z1 z2 z3 z4
    extract_lets +onlyGivenNames x5
    have h6 : Alter 94317341267647370672460303171584 s x5 := by
      unfold x5
      refine alter_ite (fun _ => ?_) (fun _ => ?_)
      · refine Alter.step ?_ (alter_queFree ..) rfl
        exact Alter.refl _ _
      · exact Alter.refl _ _
    clear_value x5
    extract_lets +onlyGivenNames x7
    have h8 : Alter 94317341267647370672460303171584 s x7 := by
      unfold x7
      refine Alter.step ?_ (alter_putPool ..) rfl
      assumption
    clear_value x7
    extract_lets +onlyGivenNames x9
    have h10 : ∀ y11, Alter 94317341267647370672460303171584 y11 (x9 y11) := by
      intro y11
      unfold x9
      beta_reduce
      refine alter_ite (fun _ => ?_) (fun _ => ?_)
      · exact Alter.refl _ _
      · refine Alter.step ?_ (alter_replBegin ..) rfl
        exact Alter.refl _ _
    clear_value x9
    split
    · rename_i z12 z13 z14
      refine Alter.and ?_ (h10 ..)
      refine Alter.step ?_ (alter_poolGive ..) rfl
      assumption
    · rename_i z15 z16
      split
      · rename_i z17 z18 z19 z20
        have h21 : Alter 94317341267647370672460303171584 s z19 := by
          refine (congrArg (Alter _ _) (congrArg (Prod.snd) z20)).mp ?_
          refine Alter.step ?_ (alter_shedUntil ..) rfl
          assumption
        refine Alter.and ?_ (h10 ..)
        assumption
      · rename_i z22 z23 z24
        have h25 : Alter 94317341267647370672460303171584 s z23 := by
          refine (congrArg (Alter _ _) (congrArg (Prod.snd) z24)).mp ?_
          refine Alter.step ?_ (alter_shedUntil ..) rfl
          assumption
        assumption

theorem alter_failMark (f : PFail) (s : State) : Alter 10141204801825835211973625643008 s (failMark f s) := by
  unfold failMark
  refine Alter.step ?_ (alter_plc _ _) rfl
  exact Alter.refl _ _

theorem alter_failReserve (f : PFail) (s : State) : Alter 10141204801973409164563302055936 s (failReserve f s) := by
  unfold failReserve
  refine alter_ite (fun _ => ?_) (fun _ => ?_)
  · refine alter_ite (fun _ => ?_) (fun _ => ?_)
    · refine Alter.step ?_ (alter_dropRsvAdc ..) rfl
      exact Alter.refl _ _
    · exact Alter.refl _ _
  · refine alter_ite (fun _ => ?_) (fun _ => ?_)
    · refine Alter.step ?_ (alter_dropRsvPair ..) rfl
      exact Alter.refl _ _
    · exact Alter.refl _ _

theorem alter_failCount (f : PFail) (s : State) : Alter 10141204801973409164563302055936 s (failCount f s) := by
  unfold failCount
  refine alter_ite (fun _ => ?_) (fun _ => ?_)
  · refine Alter.step ?_ (alter_failReserve ..) rfl
    refine Alter.step ?_ (alter_failMark ..) rfl
    refine Alter.step ?_ (alter_incFld ..) (by decide)
    exact Alter.refl _ _
  · refine Alter.step ?_ (alter_failReserve ..) rfl
    refine Alter.step ?_ (alter_failMark ..) rfl
    refine Alter.step ?_ (alter_incFld ..) (by decide)
    exact Alter.refl _ _

theorem alter_placerStoreFails (s : State) : Alter 10141204801973409164563302055936 s (placerStoreFails s) := by
  unfold placerStoreFails
  extract_lets +onlyGivenNames x1
  subst x1
  refine Alter.step ?_ (alter_dropRsvAdc ..) rfl
  refine Alter.step ?_ (alter_dropRsvPair ..) rfl
  refine Alter.step ?_ (alter_plc _ _) rfl
  exact Alter.refl _ _

theorem alter_failMoves (f : PFail) (gs : List Nat) (s : State) : Alter 94317341267647370672460303171584 s (failMoves f gs s) := by
  unfold failMoves
  refine alter_ite (fun _ => ?_) (fun _ => ?_)
  · split
    · rename_i z1 z2 z3
      refine Alter.step ?_ (alter_replPair ..) rfl
      exact Alter.refl _ _
    · rename_i z4
      exact Alter.refl _ _
  · refine alter_ite (fun _ => ?_) (fun _ => ?_)
    · refine alter_ite (fun _ => ?_) (fun _ => ?_)
      · exact Alter.refl _ _
      · refine Alter.step ?_ (alter_replAdc ..) rfl
        exact Alter.refl _ _
    · refine alter_ite (fun _ => ?_) (fun _ => ?_)
      · refine Alter.step ?_ (alter_placerStoreFails ..) rfl
        exact Alter.refl _ _
      · refine Alter.step ?_ (alter_replRegion ..) rfl
        exact Alter.refl _ _

theorem alter_failTaken (f : PFail) (s : State) : Alter 94317341267647370672460303171584 s (failTaken f s) := by
  unfold failTaken
  refine alter_ite (fun _ => ?_) (fun _ => ?_)
  · exact Alter.refl _ _
  · extract_lets +onlyGivenNames x1
    have h2 : Alter 94317341267647370672460303171584 s x1 := by
      unfold x1
      refine Alter.step ?_ (alter_setFlds ..) (by decide)
      exact Alter.refl _ _
    clear_value x1
    extract_lets +onlyGivenNames x3
    have h4 : Alter 94317341267647370672460303171584 s x3 := by
      unfold x3
      refine Alter.step ?_ (alter_setBit ..) (by decide)
      assumption
    clear_value x3
    extract_lets +onlyGivenNames x5
    have h6 : Alter 94317341267647370672460303171584 s x5 := by
      unfold x5
      refine Alter.step ?_ (alter_raise ..) rfl
      refine alter_ite (fun _ => ?_) (fun _ => ?_)
      · refine Alter.step ?_ (alter_failCount ..) rfl
        assumption
      · assumption
    clear_value x5
    refine Alter.step ?_ (alter_failMoves ..) rfl
    refine Alter.and ?_ (alter_forEach _ _ _ ?_)
    · assumption
    · intro a7 b8
      beta_reduce
      refine Alter.step ?_ (alter_suspend ..) rfl
      exact Alter.refl _ _

theorem alter_unitFailed (s : State) : Alter 94317341267647370672460303171584 s (unitFailed s) := by
  unfold unitFailed
  extract_lets +onlyGivenNames x1
  have h2 : ∀ y3 y4, Alter 94317341267647370672460303171584 y4 (x1 y3 y4) := by
    intro y3 y4
    unfold x1
    beta_reduce
    refine Alter.step ?_ (alter_failTaken ..) rfl
    refine Alter.step ?_ (alter_plc _ _) rfl
    exact Alter.refl _ _
  clear_value x1
  refine alter_ite (fun _ => ?_) (fun _ => ?_)
  · split
    · rename_i z5 z6 z7
      refine Alter.and ?_ (h2 ..)
      exact Alter.refl _ _
    · rename_i z8 z9
      exact Alter.refl _ _
  · split
    · rename_i z10 z11 z12 z13
      refine Alter.and ?_ (h2 ..)
      exact Alter.refl _ _
    · rename_i z14 z15
      exact Alter.refl _ _

theorem alter_execUnitFailed (e : Nat) (s : State) : Ends 94317341267758051136902560481280 s (execUnitFailed e s) := by
  unfold execUnitFailed
  refine ends_next ?_
  refine Alter.step ?_ (alter_unitFailed ..) rfl
  refine Alter.step ?_ (alter_tick ..) rfl
  exact Alter.refl _ _

theorem alter_replCommitted (g : Nat) (s : State) : Alter 10141204801825835211973625643008 s (replCommitted g s) := by
  unfold replCommitted
  split
  · rename_i z1 z2 z3
    refine alter_ite (fun _ => ?_) (fun _ => ?_)
    · refine Alter.step ?_ (alter_plc _ _) rfl
      exact Alter.refl _ _
    · exact Alter.refl _ _
  · rename_i z4 z5
    exact Alter.refl _ _

theorem alter_replaced (s : State) : Alter 10161476164564036923957679489024 s (replaced s) := by
  unfold replaced
  split
  · rename_i z1 z2
    exact Alter.refl _ _
  · rename_i z3 z4 z5
    refine alter_ite (fun _ => ?_) (fun _ => ?_)
    · exact Alter.refl _ _
    · extract_lets +onlyGivenNames x6
      subst x6
      extract_lets +onlyGivenNames x7
      subst x7
      extract_lets +onlyGivenNames x8
      have h9 : Alter 10161476164564036923957679489024 s x8 := by
        unfold x8
        refine Alter.and ?_ (alter_forEach _ _ _ ?_)
        · exact Alter.refl _ _
        · intro a10 b11
          beta_reduce
          extract_lets +onlyGivenNames x12
          subst x12
          extract_lets +onlyGivenNames x13
          have h14 : Alter 10161476164564036923957679489024 b11 x13 := by
            unfold x13
            refine Alter.step ?_ (alter_setBit ..) (rm_high (by simp only [R.PLC_GRAPH]; omega) rfl)
            refine Alter.step ?_ (alter_setGraph ..) rfl
            exact Alter.refl _ _
          clear_value x13
          refine Alter.and ?_ (alter_forEach _ _ _ ?_)
          · assumption
          · intro a15 b16
            beta_reduce
            extract_lets +onlyGivenNames x17
            subst x17
            extract_lets +onlyGivenNames x18
            have h19 : Alter 10161476164564036923957679489024 b16 x18 := by
              unfold x18
              refine Alter.step ?_ (alter_setConv ..) rfl
              exact Alter.refl _ _
            clear_value x18
            extract_lets +onlyGivenNames x20
            have h21 : Alter 10161476164564036923957679489024 b16 x20 := by
              unfold x20
              refine alter_ite (fun _ => ?_) (fun _ => ?_)
              · assumption
              · refine Alter.step ?_ (alter_setFld ..) (rm_high (by simp only [R.PLC_CONV]; omega) rfl)
                assumption
            clear_value x20
            extract_lets +onlyGivenNames x22
            have h23 : Alter 10161476164564036923957679489024 b16 x22 := by
              unfold x22
              refine Alter.step ?_ (alter_setBitAt ..) (by decide)
              assumption
            clear_value x22
            split
            · rename_i z24 z25 z26
              refine alter_ite (fun _ => ?_) (fun _ => ?_)
              · refine Alter.step ?_ (alter_selDrop ..) rfl
                assumption
              · assumption
            · rename_i z27 z28
              assumption
      clear_value x8
      extract_lets +onlyGivenNames x29
      subst x29
      extract_lets +onlyGivenNames x30
      have h31 : Alter 10161476164564036923957679489024 s x30 := by
        unfold x30
        refine Alter.step ?_ (alter_plcState ..) rfl
        refine Alter.step ?_ (alter_plc _ _) rfl
        assumption
      clear_value x30
      extract_lets +onlyGivenNames x32
      have h33 : Alter 10161476164564036923957679489024 s x32 := by
        unfold x32
        refine Alter.step ?_ (alter_setBit ..) (by decide)
        assumption
      clear_value x32
      refine Alter.step ?_ (alter_raise ..) rfl
      assumption

theorem alter_execReplaced (e : Nat) (s : State) : Ends 10161476164674717388399936798720 s (execReplaced e s) := by
  unfold execReplaced
  refine ends_next ?_
  refine Alter.step ?_ (alter_replaced ..) rfl
  refine Alter.step ?_ (alter_tick ..) rfl
  exact Alter.refl _ _

end Sys2Proof.Machine
end

