-- ==== Sys2Proof/Laws/Storage.lean ====
section
/-! SUPPORT. What each operation of `Sys2Proof.Machine.Storage` may change (`Alter`), one lemma an operation; for a command,
that it answers a next state (`Ends`). -/

namespace Sys2Proof.Machine

theorem alter_devFail (d : Nat) (s : State) : Alter 94594903609982580686848 s (devFail d s) := by
  unfold devFail
  refine alter_ite (fun _ => ?_) (fun _ => ?_)
  · exact Alter.refl _ _
  · extract_lets +onlyGivenNames x1
    have h2 : Alter 94594903609982580686848 s x1 := by
      unfold x1
      refine Alter.step ?_ (alter_setBit ..) (rm_high (by simp only [R.STO_DEV]; omega) rfl)
      exact Alter.refl _ _
    clear_value x1
    extract_lets +onlyGivenNames x3
    have h4 : Alter 94594903609982580686848 s x3 := by
      unfold x3
      refine Alter.step ?_ (alter_setBit ..) (by decide)
      assumption
    clear_value x3
    refine Alter.step ?_ (alter_raise ..) rfl
    refine Alter.step ?_ (alter_setBit ..) (by decide)
    assumption

theorem alter_execStoDevice (e : Nat) (d : Fin 2) (s : State) : Ends 94705584074424837996544 s (execStoDevice e d s) := by
  unfold execStoDevice
  refine ends_next ?_
  refine Alter.step ?_ (alter_devFail ..) rfl
  refine Alter.step ?_ (alter_tick ..) rfl
  exact Alter.refl _ _

theorem alter_devHealth (d : Nat) (a : Nat) (b : Nat) (eol : Nat) (s : State) : Alter 20282409698246574033929831972864 s (devHealth d a b eol s) := by
  unfold devHealth
  extract_lets +onlyGivenNames x1
  have h2 : Alter 20282409698246574033929831972864 s x1 := by
    unfold x1
    refine Alter.step ?_ (alter_setFlds ..) (rm_high (by simp only [R.STO_DEV]; omega) rfl)
    exact Alter.refl _ _
  clear_value x1
  extract_lets +onlyGivenNames x3
  subst x3
  refine alter_ite (fun _ => ?_) (fun _ => ?_)
  · extract_lets +onlyGivenNames x4
    subst x4
    extract_lets +onlyGivenNames x5
    have h6 : Alter 20282409698246574033929831972864 s x5 := by
      unfold x5
      refine Alter.step ?_ (alter_sto _ _) rfl
      assumption
    clear_value x5
    refine Alter.step ?_ (alter_raise ..) rfl
    refine Alter.step ?_ (alter_setBit ..) (by decide)
    assumption
  · assumption

theorem alter_execStoWear (e : Nat) (d : Fin 2) (a : BitVec 4) (b : BitVec 4) (eol : BitVec 2) (s : State) : Ends 20282409698357254498372089282560 s (execStoWear e d a b eol s) := by
  unfold execStoWear
  refine ends_next ?_
  refine Alter.step ?_ (alter_devHealth ..) rfl
  refine Alter.step ?_ (alter_tick ..) rfl
  exact Alter.refl _ _

theorem alter_emmcTuning (d : Nat) (retries : Nat) (fails : Bool) (s : State) : Alter 94594903609982580686848 s (emmcTuning d retries fails s) := by
  unfold emmcTuning
  refine alter_ite (fun _ => ?_) (fun _ => ?_)
  · exact Alter.refl _ _
  · extract_lets +onlyGivenNames x1
    have h2 : Alter 94594903609982580686848 s x1 := by
      unfold x1
      refine Alter.step ?_ (alter_incFld ..) (rm_high (by simp only [R.STO_DEV]; omega) rfl)
      exact Alter.refl _ _
    clear_value x1
    refine alter_ite (fun _ => ?_) (fun _ => ?_)
    · refine Alter.step ?_ (alter_devFail ..) rfl
      assumption
    · assumption

theorem alter_execEmmcTuning (e : Nat) (d : Fin 2) (retries : Fin 4) (fails : Bool) (s : State) : Ends 94705584074424837996544 s (execEmmcTuning e d retries fails s) := by
  unfold execEmmcTuning
  refine ends_next ?_
  refine Alter.step ?_ (alter_emmcTuning ..) rfl
  refine Alter.step ?_ (alter_tick ..) rfl
  exact Alter.refl _ _

theorem alter_putLayout (n : Nat) (s : State) : Alter 20282409603799244376536927698944 s (putLayout n s) := by
  unfold putLayout
  extract_lets +onlyGivenNames x1
  subst x1
  extract_lets +onlyGivenNames x2
  have h3 : Alter 20282409603799244376536927698944 s x2 := by
    unfold x2
    refine Alter.step ?_ (alter_sto _ _) rfl
    exact Alter.refl _ _
  clear_value x2
  refine Alter.step ?_ (alter_setFlds ..) (by decide)
  assumption

theorem alter_slotsEmpty (s : State) : Alter 75557863725914323419136 s (slotsEmpty s) := by
  unfold slotsEmpty
  refine Alter.step ?_ (alter_rcd _ _) rfl
  exact Alter.refl _ _

theorem alter_formatDo (s : State) : Alter 20282409698246574033929831972864 s (formatDo s) := by
  unfold formatDo
  extract_lets +onlyGivenNames x1
  have h2 : Alter 20282409698246574033929831972864 s x1 := by
    unfold x1
    refine Alter.step ?_ (alter_slotsEmpty ..) rfl
    refine Alter.step ?_ (alter_putLayout ..) rfl
    exact Alter.refl _ _
  clear_value x1
  refine Alter.step ?_ (alter_raise ..) rfl
  refine Alter.step ?_ (alter_recArm ..) rfl
  assumption

theorem alter_ev_audit (s : State) (ev' : EvLog) (audit' : AuditLog) (hev : ev'.buf = s.ev.buf) (hau : audit'.buf = s.audit.buf) : Alter 56668397794435742564352 s { s with ev := ev', audit := audit' } := by
  constructor
  case evGrows => exact fun _ => ⟨[], by simp [hev]⟩
  case auditGrows => exact fun _ => ⟨[], by simp [hau]⟩
  case inv => exact fun _ i => { i with events := by simpa [hev] using i.events, audit := by simpa [hau] using i.audit }
  all_goals intros
  all_goals first | rfl | exact List.prefix_refl _ | exact Nat.le_refl _ | assumption | (rename_i b; exact absurd b (by decide))

theorem alter_life_sto (s : State) (life' : Life) (sto' : Sto) : Alter 25353012004564588029934064107520 s { s with life := life', sto := sto' } := by
  constructor
  case inv => exact fun _ i => { i with  }
  all_goals intros
  all_goals first | rfl | exact List.prefix_refl _ | exact Nat.le_refl _ | assumption | (rename_i b; exact absurd b (by decide))

theorem alter_trx_plc (s : State) (trx' : Traction) (plc' : Plc) : Alter 10180818883082967380770397618176 s { s with trx := trx', plc := plc' } := by
  constructor
  case inv => exact fun _ i => { i with  }
  all_goals intros
  all_goals first | rfl | exact List.prefix_refl _ | exact Nat.le_refl _ | assumption | (rename_i b; exact absurd b (by decide))

theorem alter_formatBoth (s : State) : Alter 36801481620249620285140907327488 s (formatBoth s) := by
  unfold formatBoth
  extract_lets +onlyGivenNames x1
  subst x1
  extract_lets +onlyGivenNames x2
  subst x2
  extract_lets +onlyGivenNames x3
  subst x3
  extract_lets +onlyGivenNames x4
  have h5 : Alter 36801481620249620285140907327488 s x4 := by
    unfold x4
    refine Alter.step ?_ (alter_slotsEmpty ..) rfl
    refine Alter.step ?_ (alter_ev_audit _ _ _ rfl rfl) rfl
    exact Alter.refl _ _
  clear_value x4
  extract_lets +onlyGivenNames x6
  subst x6
  extract_lets +onlyGivenNames x7
  subst x7
  extract_lets +onlyGivenNames x8
  have h9 : Alter 36801481620249620285140907327488 s x8 := by
    unfold x8
    refine Alter.step ?_ (alter_life_sto _ _ _) rfl
    assumption
  clear_value x8
  extract_lets +onlyGivenNames x10
  subst x10
  extract_lets +onlyGivenNames x11
  subst x11
  extract_lets +onlyGivenNames x12
  have h13 : Alter 36801481620249620285140907327488 s x12 := by
    unfold x12
    refine Alter.step ?_ (alter_trx_plc _ _ _) rfl
    assumption
  clear_value x12
  extract_lets +onlyGivenNames x14
  have h15 : Alter 36801481620249620285140907327488 s x14 := by
    unfold x14
    refine Alter.and ?_ (alter_forEach _ _ _ ?_)
    · assumption
    · intro a16 b17
      beta_reduce
      refine Alter.step ?_ (alter_setAct ..) rfl
      exact Alter.refl _ _
  clear_value x14
  refine Alter.step ?_ (alter_raise ..) rfl
  refine Alter.step ?_ (alter_putLayout ..) rfl
  assumption

theorem alter_formatOne (d : Nat) (s : State) : Alter 40564819301750670505287406845952 s (formatOne d s) := by
  unfold formatOne
  extract_lets +onlyGivenNames x1
  subst x1
  extract_lets +onlyGivenNames x2
  have h3 : Alter 40564819301750670505287406845952 s x2 := by
    unfold x2
    refine alter_ite (fun _ => ?_) (fun _ => ?_)
    · refine Alter.step ?_ (alter_ev _ _ rfl) rfl
      exact Alter.refl _ _
    · refine Alter.step ?_ (alter_upd _ _) rfl
      exact Alter.refl _ _
  clear_value x2
  refine Alter.step ?_ (alter_rcd _ _) rfl
  assumption

theorem alter_bootDevices (d0 : Option EmmcInfo) (d1 : Option EmmcInfo) (s : State) : Alter 77366300827552961133035409899520 s (bootDevices d0 d1 s) := by
  unfold bootDevices
  extract_lets +onlyGivenNames x1
  have h2 : ∀ y3 y4 y5, Alter 77366300827552961133035409899520 y5 (x1 y3 y4 y5) := by
    intro y3 y4 y5
    unfold x1
    beta_reduce
    split
    · rename_i z6
      refine Alter.step ?_ (alter_devFail ..) rfl
      exact Alter.refl _ _
    · rename_i z7 z8
      refine Alter.step ?_ (alter_devHealth ..) rfl
      refine Alter.step ?_ (alter_setFld ..) (rm_high (by simp only [R.STO_DEV]; omega) rfl)
      exact Alter.refl _ _
  clear_value x1
  extract_lets +onlyGivenNames x9
  have h10 : Alter 77366300827552961133035409899520 s x9 := by
    unfold x9
    refine Alter.and ?_ (h2 ..)
    refine Alter.and ?_ (h2 ..)
    exact Alter.refl _ _
  clear_value x9
  extract_lets +onlyGivenNames x11
  subst x11
  refine alter_ite (fun _ => ?_) (fun _ => ?_)
  · refine Alter.step ?_ (alter_recFound ..) rfl
    assumption
  · refine alter_ite (fun _ => ?_) (fun _ => ?_)
    · refine Alter.step ?_ (alter_recFound ..) rfl
      refine Alter.step ?_ (alter_formatBoth ..) rfl
      assumption
    · extract_lets +onlyGivenNames x12
      have h13 : Alter 77366300827552961133035409899520 s x12 := by
        unfold x12
        refine alter_ite (fun _ => ?_) (fun _ => ?_)
        · refine Alter.step ?_ (alter_formatOne ..) rfl
          assumption
        · refine alter_ite (fun _ => ?_) (fun _ => ?_)
          · refine Alter.step ?_ (alter_formatOne ..) rfl
            assumption
          · assumption
      clear_value x12
      refine Alter.step ?_ (alter_recFound ..) rfl
      refine Alter.step ?_ (alter_putLayout ..) rfl
      assumption

theorem alter_auditGap (s : State) : Alter 37926505815546838122496 s (auditGap s) := by
  unfold auditGap
  split
  · exact Alter.refl _ _
  · rename_i h
    extract_lets n
    refine Alter.and ?_ (alter_auditPush_room _ _ ?_)
    · exact Alter.step (Alter.refl _ _) (alter_audit _ _ rfl) rfl
    · simp only [State.auditFull, Bool.or_eq_true, decide_eq_true_eq, not_or] at h
      change s.audit.buf.length < 16384
      omega

theorem alter_stoRepair (bad : Bool) (s : State) : Alter 94594903609982580686848 s (stoRepair bad s) := by
  unfold stoRepair
  refine alter_ite (fun _ => ?_) (fun _ => ?_)
  · refine Alter.step ?_ (alter_raise ..) rfl
    refine Alter.step ?_ (alter_setBit ..) (by decide)
    exact Alter.refl _ _
  · exact Alter.refl _ _

theorem alter_auditDrain (n : Nat) (bad : Bool) (s : State) : Alter 2658455991569964119643087060303085568 s (auditDrain n bad s) := by
  unfold auditDrain
  split
  · exact Alter.refl _ _
  · extract_lets ring a1 s1 s2
    have h1 : Alter 2658455991569964119643087060303085568 s s1 := by
      unfold s1
      refine (alter_auditAny s _ ?_).mono rfl
      simp
    clear_value s1
    have h2 : Alter 2658455991569964119643087060303085568 s s2 := by
      unfold s2
      exact h1.step (alter_setFld ..) (rm_high (by decide) rfl)
    clear_value s2
    exact (h2.step (alter_auditGap ..) rfl).step (alter_stoRepair ..) rfl

theorem alter_execAuditDrain (e : Nat) (n : Nat) (bad : Bool) (s : State) : Ends 2658455991569964230323551502560395264 s (execAuditDrain e n bad s) := by
  unfold execAuditDrain
  refine ends_next ?_
  refine Alter.step ?_ (alter_auditDrain ..) rfl
  refine Alter.step ?_ (alter_tick ..) rfl
  exact Alter.refl _ _

theorem alter_eventDrain (n : Nat) (s : State) : Alter 1329227995785010467807417042861031424 s (eventDrain n s) := by
  unfold eventDrain
  split
  · exact Alter.refl _ _
  · extract_lets +onlyGivenNames ring
    extract_lets +onlyGivenNames a1
    extract_lets +onlyGivenNames s1
    extract_lets +onlyGivenNames s2
    have h1 : Alter 1329227995785010467807417042861031424 s s1 := by
      unfold s1
      refine (alter_evAny s _ ?_).mono rfl
      simp
    have h2 : Alter 1329227995785010467807417042861031424 s s2 := by
      unfold s2
      exact h1.step (alter_setFld ..) (rm_high (by decide) rfl)
    split
    · exact h2
    · rename_i h
      refine Alter.step ?_ (alter_evAppend _ _ _ _ _ _ ?_) rfl
      · exact h2.step (alter_ev _ _ rfl) rfl
      · change s2.ev.buf.length < 16384
        omega

theorem alter_execEventLogDrain (e : Nat) (n : Nat) (s : State) : Ends 1329227995785010578487881485118341120 s (execEventLogDrain e n s) := by
  unfold execEventLogDrain
  refine ends_next ?_
  refine Alter.step ?_ (alter_eventDrain ..) rfl
  refine Alter.step ?_ (alter_tick ..) rfl
  exact Alter.refl _ _

theorem alter_updAudit (r : Req) (step : Nat) (status : Nat) (s : State) : Alter 37926505815546838122496 s (updAudit r step status s) := by
  unfold updAudit
  refine Alter.step ?_ (alter_auditAdd ..) rfl
  exact Alter.refl _ _

theorem alter_updGo (st : Nat) (s : State) : Alter 147573952589676412928 s (updGo st s) := by
  unfold updGo
  refine Alter.step ?_ (alter_setFld ..) (by decide)
  exact Alter.refl _ _

theorem alter_updFail (code : Nat) (s : State) : Alter 94594903609982580686848 s (updFail code s) := by
  unfold updFail
  extract_lets +onlyGivenNames x1
  have h2 : Alter 94594903609982580686848 s x1 := by
    unfold x1
    refine Alter.step ?_ (alter_setBit ..) (by decide)
    refine Alter.step ?_ (alter_setFld ..) (by decide)
    exact Alter.refl _ _
  clear_value x1
  refine Alter.step ?_ (alter_raise ..) rfl
  assumption

theorem alter_updCheckFail (r : Req) (code : Nat) (s : State) : Alter 132373835472939742396416 s (updCheckFail r code s) := by
  unfold updCheckFail
  refine Alter.step ?_ (alter_updAudit ..) rfl
  refine Alter.step ?_ (alter_updFail ..) rfl
  refine Alter.step ?_ (alter_updGo ..) rfl
  exact Alter.refl _ _

theorem alter_updBegin (r : Req) (L : Nat) (s : State) : Alter 40564819245229846663441340694528 s (updBegin r L s).2 := by
  unfold updBegin
  extract_lets +onlyGivenNames x1
  subst x1
  refine alter_ite_snd (fun _ => ?_) (fun _ => ?_)
  · dsimp only
    exact Alter.refl _ _
  · refine alter_ite_snd (fun _ => ?_) (fun _ => ?_)
    · dsimp only
      exact Alter.refl _ _
    · refine alter_ite_snd (fun _ => ?_) (fun _ => ?_)
      · dsimp only
        exact Alter.refl _ _
      · extract_lets +onlyGivenNames x2
        have h3 : Alter 40564819245229846663441340694528 s x2 := by
          unfold x2
          refine Alter.step ?_ (alter_upd _ _) rfl
          exact Alter.refl _ _
        clear_value x2
        extract_lets +onlyGivenNames x4
        have h5 : Alter 40564819245229846663441340694528 s x4 := by
          unfold x4
          refine Alter.step ?_ (alter_setFlds ..) (by decide)
          assumption
        clear_value x4
        dsimp only
        refine Alter.step ?_ (alter_updAudit ..) rfl
        refine Alter.step ?_ (alter_setReg ..) (by decide)
        assumption

theorem alter_updCount (s : State) : Alter 147573952589676412928 s (updCount s) := by
  unfold updCount
  refine Alter.step ?_ (alter_setFld ..) (by decide)
  exact Alter.refl _ _

theorem alter_manDone (r : Req) (s : State) : Alter 132373835472939742396416 s (manDone r s) := by
  unfold manDone
  extract_lets +onlyGivenNames x1
  subst x1
  extract_lets +onlyGivenNames x2
  subst x2
  extract_lets +onlyGivenNames x3
  have h4 : Alter 132373835472939742396416 s x3 := by
    unfold x3
    refine Alter.step ?_ (alter_setFld ..) (by decide)
    exact Alter.refl _ _
  clear_value x3
  extract_lets +onlyGivenNames x5
  have h6 : Alter 132373835472939742396416 s x5 := by
    unfold x5
    refine Alter.step ?_ (alter_setFlds ..) (by decide)
    assumption
  clear_value x5
  extract_lets +onlyGivenNames x7
  have h8 : Alter 132373835472939742396416 s x7 := by
    unfold x7
    refine Alter.step ?_ (alter_updAudit ..) rfl
    assumption
  clear_value x7
  split
  · rename_i z9 z10
    assumption
  · rename_i z11 z12
    refine Alter.step ?_ (alter_updCheckFail ..) rfl
    assumption

theorem alter_updBlock (r : Req) (kind : Nat) (num : Nat) (bytes : List Byte) (s : State) : Alter 40564819339677176320834244968448 s (updBlock r kind num bytes s).2 := by
  unfold updBlock
  refine alter_ite_snd (fun _ => ?_) (fun _ => ?_)
  · dsimp only
    exact Alter.refl _ _
  · refine alter_ite_snd (fun _ => ?_) (fun _ => ?_)
    · refine alter_ite_snd (fun _ => ?_) (fun _ => ?_)
      · dsimp only
        exact Alter.refl _ _
      · extract_lets +onlyGivenNames x1
        subst x1
        extract_lets +onlyGivenNames x2
        subst x2
        extract_lets +onlyGivenNames x3
        have h4 : Alter 40564819339677176320834244968448 s x3 := by
          unfold x3
          refine Alter.step ?_ (alter_updCount ..) rfl
          refine Alter.step ?_ (alter_upd _ _) rfl
          exact Alter.refl _ _
        clear_value x3
        dsimp only
        refine alter_ite (fun _ => ?_) (fun _ => ?_)
        · refine Alter.step ?_ (alter_manDone ..) rfl
          assumption
        · assumption
    · refine alter_ite_snd (fun _ => ?_) (fun _ => ?_)
      · refine alter_ite_snd (fun _ => ?_) (fun _ => ?_)
        · dsimp only
          exact Alter.refl _ _
        · extract_lets +onlyGivenNames x5
          subst x5
          refine alter_ite_snd (fun _ => ?_) (fun _ => ?_)
          · dsimp only
            exact Alter.refl _ _
          · dsimp only
            refine Alter.step ?_ (alter_updCount ..) rfl
            refine Alter.step ?_ (alter_upd _ _) rfl
            exact Alter.refl _ _
      · dsimp only
        exact Alter.refl _ _

theorem alter_updCheck (s : State) : Alter 147573952589676412928 s (updCheck s).2 := by
  unfold updCheck
  refine alter_ite_snd (fun _ => ?_) (fun _ => ?_)
  · dsimp only
    exact Alter.refl _ _
  · dsimp only
    refine Alter.step ?_ (alter_updGo ..) rfl
    exact Alter.refl _ _

theorem alter_updChecked (bad : Bool) (s : State) : Alter 132373835472939742396416 s (updChecked bad s) := by
  unfold updChecked
  refine alter_ite (fun _ => ?_) (fun _ => ?_)
  · exact Alter.refl _ _
  · split
    · rename_i z1 z2
      refine Alter.step ?_ (alter_raise ..) rfl
      refine Alter.step ?_ (alter_updAudit ..) rfl
      refine Alter.step ?_ (alter_updGo ..) rfl
      exact Alter.refl _ _
    · rename_i z3 z4
      refine Alter.step ?_ (alter_updCheckFail ..) rfl
      exact Alter.refl _ _

theorem alter_execUpdChecked (e : Nat) (bad : Bool) (s : State) : Ends 132484515937381999706112 s (execUpdChecked e bad s) := by
  unfold execUpdChecked
  refine ends_next ?_
  refine Alter.step ?_ (alter_updChecked ..) rfl
  refine Alter.step ?_ (alter_tick ..) rfl
  exact Alter.refl _ _

theorem alter_updActivate (r : Req) (s : State) : Alter 40564819245229846663441340694528 s (updActivate r s).2 := by
  unfold updActivate
  refine alter_ite_snd (fun _ => ?_) (fun _ => ?_)
  · dsimp only
    exact Alter.refl _ _
  · extract_lets +onlyGivenNames x1
    subst x1
    extract_lets +onlyGivenNames x2
    subst x2
    extract_lets +onlyGivenNames x3
    have h4 : Alter 40564819245229846663441340694528 s x3 := by
      unfold x3
      refine Alter.step ?_ (alter_upd _ _) rfl
      exact Alter.refl _ _
    clear_value x3
    dsimp only
    refine Alter.step ?_ (alter_updAudit ..) rfl
    refine Alter.step ?_ (alter_updGo ..) rfl
    refine Alter.step ?_ (alter_setFld ..) (by decide)
    assumption

theorem alter_updEndActivation (code : Nat) (s : State) : Alter 94594903609982580686848 s (updEndActivation code s) := by
  unfold updEndActivation
  refine alter_ite (fun _ => ?_) (fun _ => ?_)
  · refine Alter.step ?_ (alter_updFail ..) rfl
    refine Alter.step ?_ (alter_updGo ..) rfl
    exact Alter.refl _ _
  · exact Alter.refl _ _

theorem alter_updReadyTimeout (why : Nat) (s : State) : Alter 94705584074424837996544 s (updReadyTimeout why s) := by
  unfold updReadyTimeout
  refine alter_ite (fun _ => ?_) (fun _ => ?_)
  · exact Alter.refl _ _
  · extract_lets +onlyGivenNames x1
    have h2 : Alter 94705584074424837996544 s x1 := by
      unfold x1
      refine alter_ite (fun _ => ?_) (fun _ => ?_)
      · refine Alter.step ?_ (alter_until ..) rfl
        exact Alter.refl _ _
      · exact Alter.refl _ _
    clear_value x1
    refine Alter.step ?_ (alter_updEndActivation ..) rfl
    assumption

theorem alter_execUpdReadyTimeout (e : Nat) (why : Fin 3) (s : State) : Ends 94705584074424837996544 s (execUpdReadyTimeout e why s) := by
  unfold execUpdReadyTimeout
  refine ends_next ?_
  refine Alter.step ?_ (alter_updReadyTimeout ..) rfl
  refine Alter.step ?_ (alter_tick ..) rfl
  exact Alter.refl _ _

theorem alter_putRun (x : Release) (s : State) : Alter 20282409603799244376536927698944 s (putRun x s) := by
  unfold putRun
  extract_lets +onlyGivenNames x1
  subst x1
  extract_lets +onlyGivenNames x2
  have h3 : Alter 20282409603799244376536927698944 s x2 := by
    unfold x2
    refine Alter.step ?_ (alter_sto _ _) rfl
    exact Alter.refl _ _
  clear_value x2
  refine Alter.step ?_ (alter_setFlds ..) (by decide)
  assumption

theorem alter_updSwitched (s : State) : Alter 60847228943439527209223753564160 s (updSwitched s) := by
  unfold updSwitched
  refine alter_ite (fun _ => ?_) (fun _ => ?_)
  · exact Alter.refl _ _
  · refine alter_ite (fun _ => ?_) (fun _ => ?_)
    · refine Alter.step ?_ (alter_updReadyTimeout ..) rfl
      exact Alter.refl _ _
    · extract_lets +onlyGivenNames x1
      have h2 : Alter 60847228943439527209223753564160 s x1 := by
        unfold x1
        refine Alter.step ?_ (alter_until ..) rfl
        exact Alter.refl _ _
      clear_value x1
      extract_lets +onlyGivenNames x3
      subst x3
      extract_lets +onlyGivenNames x4
      have h5 : Alter 60847228943439527209223753564160 s x4 := by
        unfold x4
        refine Alter.step ?_ (alter_upd _ _) rfl
        assumption
      clear_value x4
      extract_lets +onlyGivenNames x6
      have h7 : Alter 60847228943439527209223753564160 s x6 := by
        unfold x6
        refine Alter.step ?_ (alter_updAudit ..) rfl
        assumption
      clear_value x6
      refine Alter.step ?_ (alter_raise ..) rfl
      refine Alter.step ?_ (alter_updGo ..) rfl
      refine Alter.step ?_ (alter_putRun ..) rfl
      assumption

theorem alter_execUpdSwitched (e : Nat) (s : State) : Ends 60847228943439527209223753564160 s (execUpdSwitched e s) := by
  unfold execUpdSwitched
  refine ends_next ?_
  refine Alter.step ?_ (alter_updSwitched ..) rfl
  refine Alter.step ?_ (alter_tick ..) rfl
  exact Alter.refl _ _

theorem alter_leapBack (r : Req) (cause : Nat) (old : Bool) (s : State) : Alter 20282409736025505896886993682432 s (leapBack r cause old s) := by
  unfold leapBack
  extract_lets +onlyGivenNames x1
  have h2 : Alter 20282409736025505896886993682432 s x1 := by
    unfold x1
    refine Alter.step ?_ (alter_putRun ..) rfl
    exact Alter.refl _ _
  clear_value x1
  extract_lets +onlyGivenNames x3
  have h4 : Alter 20282409736025505896886993682432 s x3 := by
    unfold x3
    refine Alter.step ?_ (alter_setFlds ..) (by decide)
    assumption
  clear_value x3
  refine Alter.step ?_ (alter_updAudit ..) rfl
  refine Alter.step ?_ (alter_raise ..) rfl
  refine Alter.step ?_ (alter_setBit ..) (by decide)
  assumption

theorem alter_updWindowExpiry (s : State) : Alter 20282409736136186361329250992128 s (updWindowExpiry s) := by
  unfold updWindowExpiry
  refine alter_ite (fun _ => ?_) (fun _ => ?_)
  · exact Alter.refl _ _
  · extract_lets +onlyGivenNames x1
    have h2 : Alter 20282409736136186361329250992128 s x1 := by
      unfold x1
      refine Alter.step ?_ (alter_until ..) rfl
      exact Alter.refl _ _
    clear_value x1
    refine Alter.step ?_ (alter_leapBack ..) rfl
    refine Alter.step ?_ (alter_until ..) rfl
    assumption

theorem alter_execUpdWindowExpiry (e : Nat) (s : State) : Ends 20282409736136186361329250992128 s (execUpdWindowExpiry e s) := by
  unfold execUpdWindowExpiry
  refine ends_next ?_
  refine Alter.step ?_ (alter_updWindowExpiry ..) rfl
  refine Alter.step ?_ (alter_tick ..) rfl
  exact Alter.refl _ _

theorem alter_updFallback (cause : Nat) (old : Bool) (s : State) : Alter 20282409736136186361329250992128 s (updFallback cause old s) := by
  unfold updFallback
  refine alter_ite (fun _ => ?_) (fun _ => ?_)
  · exact Alter.refl _ _
  · refine Alter.step ?_ (alter_leapBack ..) rfl
    refine Alter.step ?_ (alter_until ..) rfl
    exact Alter.refl _ _

theorem alter_execUpdFallback (e : Nat) (cause : Fin 3) (old : Bool) (s : State) : Ends 20282409736136186361329250992128 s (execUpdFallback e cause old s) := by
  unfold execUpdFallback
  refine ends_next ?_
  refine Alter.step ?_ (alter_updFallback ..) rfl
  refine Alter.step ?_ (alter_tick ..) rfl
  exact Alter.refl _ _

theorem alter_updConfirm (s : State) : Alter 147573952589676412928 s (updConfirm s).2 := by
  unfold updConfirm
  refine alter_ite_snd (fun _ => ?_) (fun _ => ?_)
  · dsimp only
    exact Alter.refl _ _
  · dsimp only
    refine Alter.step ?_ (alter_updGo ..) rfl
    exact Alter.refl _ _

theorem alter_updAbort (r : Req) (s : State) : Alter 60847228943328846744781496254464 s (updAbort r s).2 := by
  unfold updAbort
  extract_lets +onlyGivenNames x1
  subst x1
  refine alter_ite_snd (fun _ => ?_) (fun _ => ?_)
  · dsimp only
    exact Alter.refl _ _
  · refine alter_ite_snd (fun _ => ?_) (fun _ => ?_)
    · dsimp only
      exact Alter.refl _ _
    · refine alter_ite_snd (fun _ => ?_) (fun _ => ?_)
      · dsimp only
        exact Alter.refl _ _
      · refine alter_ite_snd (fun _ => ?_) (fun _ => ?_)
        · dsimp only
          refine Alter.step ?_ (alter_leapBack ..) rfl
          exact Alter.refl _ _
        · refine alter_ite_snd (fun _ => ?_) (fun _ => ?_)
          · dsimp only
            refine Alter.step ?_ (alter_updAudit ..) rfl
            refine Alter.step ?_ (alter_updFail ..) rfl
            refine Alter.step ?_ (alter_updGo ..) rfl
            exact Alter.refl _ _
          · dsimp only
            refine Alter.step ?_ (alter_updAudit ..) rfl
            refine Alter.step ?_ (alter_updGo ..) rfl
            refine Alter.step ?_ (alter_setFld ..) (by decide)
            refine Alter.step ?_ (alter_upd _ _) rfl
            exact Alter.refl _ _

theorem alter_updCommitted (ok : Bool) (s : State) : Alter 60847228943919142555140201906176 s (updCommitted ok s) := by
  unfold updCommitted
  refine alter_ite (fun _ => ?_) (fun _ => ?_)
  · exact Alter.refl _ _
  · refine alter_ite (fun _ => ?_) (fun _ => ?_)
    · extract_lets +onlyGivenNames x1
      subst x1
      extract_lets +onlyGivenNames x2
      subst x2
      extract_lets +onlyGivenNames x3
      subst x3
      extract_lets +onlyGivenNames x4
      subst x4
      extract_lets +onlyGivenNames x5
      subst x5
      extract_lets +onlyGivenNames x6
      have h7 : Alter 60847228943919142555140201906176 s x6 := by
        unfold x6
        refine Alter.step ?_ (alter_sto _ _) rfl
        exact Alter.refl _ _
      clear_value x6
      extract_lets +onlyGivenNames x8
      have h9 : Alter 60847228943919142555140201906176 s x8 := by
        unfold x8
        refine Alter.step ?_ (alter_setFld ..) (by decide)
        assumption
      clear_value x8
      extract_lets +onlyGivenNames x10
      have h11 : Alter 60847228943919142555140201906176 s x10 := by
        unfold x10
        refine Alter.step ?_ (alter_updAudit ..) rfl
        assumption
      clear_value x10
      extract_lets +onlyGivenNames x12
      have h13 : Alter 60847228943919142555140201906176 s x12 := by
        unfold x12
        refine Alter.step ?_ (alter_raise ..) rfl
        refine Alter.step ?_ (alter_updGo ..) rfl
        refine Alter.step ?_ (alter_upd _ _) rfl
        assumption
      clear_value x12
      refine alter_ite (fun _ => ?_) (fun _ => ?_)
      · refine Alter.step ?_ (alter_boot _ _) rfl
        assumption
      · assumption
    · extract_lets +onlyGivenNames x14
      subst x14
      refine Alter.step ?_ (alter_updFail ..) rfl
      refine Alter.step ?_ (alter_updGo ..) rfl
      refine Alter.step ?_ (alter_upd _ _) rfl
      exact Alter.refl _ _

theorem alter_execUpdCommitted (e : Nat) (ok : Bool) (s : State) : Ends 60847228944029823019582459215872 s (execUpdCommitted e ok s) := by
  unfold execUpdCommitted
  refine ends_next ?_
  refine Alter.step ?_ (alter_updCommitted ..) rfl
  refine Alter.step ?_ (alter_tick ..) rfl
  exact Alter.refl _ _

theorem alter_updReset (s : State) : Alter 40564819207450914800484178984960 s (updReset s) := by
  unfold updReset
  refine alter_ite (fun _ => ?_) (fun _ => ?_)
  · refine Alter.step ?_ (alter_updGo ..) rfl
    exact Alter.refl _ _
  · extract_lets +onlyGivenNames x1
    have h2 : Alter 40564819207450914800484178984960 s x1 := by
      unfold x1
      refine Alter.step ?_ (alter_setReg ..) (by decide)
      refine Alter.step ?_ (alter_setReg ..) (by decide)
      exact Alter.refl _ _
    clear_value x1
    refine Alter.step ?_ (alter_upd _ _) rfl
    assumption

end Sys2Proof.Machine
end

