-- ==== Sys2Proof/Laws/Modes.lean ====
section
/-! SUPPORT. What each operation of `Sys2Proof.Machine.Modes` may change (`Alter`), one lemma an operation; for a command,
that it answers a next state (`Ends`). -/

namespace Sys2Proof.Machine

theorem alter_beginTrans (m : Nat) (t : Trans) (s : State) : Alter 1328165573311382683648 s (beginTrans m t s) := by
  unfold beginTrans
  extract_lets +onlyGivenNames x1
  have h2 : Alter 1328165573311382683648 s x1 := by
    unfold x1
    refine Alter.step ?_ (alter_setFld ..) (by decide)
    refine Alter.step ?_ (alter_setBit ..) (by decide)
    exact Alter.refl _ _
  clear_value x1
  refine Alter.step ?_ (alter_trans _ _) rfl
  assumption

theorem alter_standbyMirror (s : State) : Alter 5070602402241083179293900537856 s (standbyMirror s) := by
  unfold standbyMirror
  refine alter_ite (fun _ => ?_) (fun _ => ?_)
  · exact Alter.refl _ _
  · refine Alter.step ?_ (alter_mirrorStart ..) rfl
    split
    · rename_i z1 z2 z3
      refine Alter.step ?_ (alter_trans _ _) rfl
      exact Alter.refl _ _
    · rename_i z4 z5
      exact Alter.refl _ _

theorem alter_standbyRequest (r : Req) (s : State) : Alter 5571736098841625839223701504000 s (standbyRequest r s).2 := by
  unfold standbyRequest
  extract_lets +onlyGivenNames x1
  subst x1
  refine alter_ite_snd (fun _ => ?_) (fun _ => ?_)
  · dsimp only
    exact Alter.refl _ _
  · extract_lets +onlyGivenNames x2
    subst x2
    extract_lets +onlyGivenNames x3
    have h4 : Alter 5571736098841625839223701504000 s x3 := by
      unfold x3
      refine Alter.step ?_ (alter_recEnd ..) rfl
      refine Alter.step ?_ (alter_standbyMirror ..) rfl
      refine Alter.step ?_ (alter_beginTrans ..) rfl
      exact Alter.refl _ _
    clear_value x3
    dsimp only
    refine alter_ite (fun _ => ?_) (fun _ => ?_)
    · assumption
    · refine Alter.step ?_ (alter_linkEval ..) rfl
      refine Alter.step ?_ (alter_discharging _ _) rfl
      assumption

theorem alter_holdMode (r : Req) (m : Nat) (s : State) : Alter 96956086853616426549248 s (holdMode r m s) := by
  unfold holdMode
  extract_lets +onlyGivenNames x1
  have h2 : Alter 96956086853616426549248 s x1 := by
    unfold x1
    split
    · rename_i z3 z4 z5
      refine Alter.step ?_ (alter_dropHeld ..) rfl
      exact Alter.refl _ _
    · rename_i z6 z7
      exact Alter.refl _ _
  clear_value x1
  refine Alter.step ?_ (alter_showHeld ..) rfl
  refine Alter.step ?_ (alter_heldMode _ _) rfl
  assumption

theorem alter_modeRequest (r : Req) (m : Nat) (s : State) : Alter 5571740936906087541374246191104 s (modeRequest r m s).2 := by
  unfold modeRequest
  extract_lets +onlyGivenNames x1
  subst x1
  refine alter_ite_snd (fun _ => ?_) (fun _ => ?_)
  · dsimp only
    refine Alter.step ?_ (alter_holdMode ..) rfl
    exact Alter.refl _ _
  · refine alter_ite_snd (fun _ => ?_) (fun _ => ?_)
    · dsimp only
      exact Alter.refl _ _
    · refine alter_ite_snd (fun _ => ?_) (fun _ => ?_)
      · dsimp only
        exact Alter.refl _ _
      · extract_lets +onlyGivenNames x2
        have h3 : Alter 5571740936906087541374246191104 s x2 := by
          unfold x2
          refine Alter.step ?_ (alter_beginTrans ..) rfl
          exact Alter.refl _ _
        clear_value x2
        refine alter_ite_snd (fun _ => ?_) (fun _ => ?_)
        · refine Alter.step ?_ (alter_standbyRequest ..) rfl
          exact Alter.refl _ _
        · refine alter_ite_snd (fun _ => ?_) (fun _ => ?_)
          · extract_lets +onlyGivenNames x4
            subst x4
            refine alter_ite_snd (fun _ => ?_) (fun _ => ?_)
            · dsimp only
              assumption
            · dsimp only
              exact Alter.refl _ _
          · refine alter_ite_snd (fun _ => ?_) (fun _ => ?_)
            · refine alter_ite_snd (fun _ => ?_) (fun _ => ?_)
              · dsimp only
                refine Alter.step ?_ (alter_service _ _) rfl
                assumption
              · dsimp only
                exact Alter.refl _ _
            · refine alter_ite_snd (fun _ => ?_) (fun _ => ?_)
              · dsimp only
                refine Alter.step ?_ (alter_beginTrans ..) rfl
                exact Alter.refl _ _
              · refine alter_ite_snd (fun _ => ?_) (fun _ => ?_)
                · dsimp only
                  assumption
                · refine alter_ite_snd (fun _ => ?_) (fun _ => ?_)
                  · extract_lets +onlyGivenNames x5
                    subst x5
                    refine alter_ite_snd (fun _ => ?_) (fun _ => ?_)
                    · dsimp only
                      assumption
                    · dsimp only
                      exact Alter.refl _ _
                  · dsimp only
                    exact Alter.refl _ _

theorem alter_serviceEnds (s : State) : Alter 81129643346085455385009990926336 s (serviceEnds s) := by
  unfold serviceEnds
  extract_lets +onlyGivenNames x1
  have h2 : Alter 81129643346085455385009990926336 s x1 := by
    unfold x1
    refine Alter.step ?_ (alter_gloveResume ..) rfl
    refine Alter.step ?_ (alter_service _ _) rfl
    exact Alter.refl _ _
  clear_value x1
  refine alter_ite (fun _ => ?_) (fun _ => ?_)
  · refine Alter.step ?_ (alter_beginTrans ..) rfl
    assumption
  · assumption

theorem alter_heldEnable (c : Nat) (h : Held) (s : State) : Alter 540902526413117559636691517440 s (heldEnable c h s).2 := by
  unfold heldEnable
  split
  · rename_i z1 z2
    dsimp only
    exact Alter.refl _ _
  · rename_i z3 z4 z5
    refine alter_ite_snd (fun _ => ?_) (fun _ => ?_)
    · split
      · rename_i z6 z7 z8
        refine Alter.step ?_ (alter_machEnable ..) rfl
        exact Alter.refl _ _
      · rename_i z9 z10
        dsimp only
        exact Alter.refl _ _
    · refine alter_ite_snd (fun _ => ?_) (fun _ => ?_)
      · split
        · rename_i z11 z12 z13
          refine Alter.step ?_ (alter_actEnable ..) rfl
          exact Alter.refl _ _
        · rename_i z14 z15
          dsimp only
          exact Alter.refl _ _
      · refine alter_ite_snd (fun _ => ?_) (fun _ => ?_)
        · extract_lets +onlyGivenNames x16
          subst x16
          refine alter_ite_snd (fun _ => ?_) (fun _ => ?_)
          · dsimp only
            exact Alter.refl _ _
          · split
            · rename_i z17 z18 z19
              refine alter_ite_snd (fun _ => ?_) (fun _ => ?_)
              · dsimp only
                refine Alter.step ?_ (alter_holdEnable ..) rfl
                exact Alter.refl _ _
              · dsimp only
                refine Alter.step ?_ (alter_linkEval ..) rfl
                refine Alter.step ?_ (alter_setReg ..) (by decide)
                exact Alter.refl _ _
            · rename_i z20 z21
              dsimp only
              refine Alter.step ?_ (alter_linkEval ..) rfl
              refine Alter.step ?_ (alter_setReg ..) (by decide)
              refine Alter.step ?_ (alter_hostEnables ..) rfl
              exact Alter.refl _ _
        · refine Alter.step ?_ (alter_chgStart ..) rfl
          exact Alter.refl _ _

theorem alter_heldOutcome {m : Nat} {t : State} (h : Held) (o : Nat × State) (ho : Alter m t o.2)
    (e : 94594903609982580686848 ||| m = m := by rfl) : Alter m t (heldOutcome h o) := by
  unfold heldOutcome
  split
  · exact ho
  · exact ho.step (alter_dropHeld ..) e

theorem alter_heldModeOutcome (h : Held) (s : State) : Alter 5571740936906087541374246191104 s (heldModeOutcome h s) := by
  unfold heldModeOutcome
  extract_lets +onlyGivenNames x1
  subst x1
  refine alter_ite (fun _ => ?_) (fun _ => ?_)
  · refine Alter.step ?_ (alter_modeRequest ..) rfl
    exact Alter.refl _ _
  · refine alter_heldOutcome _ _ ?_
    · beta_reduce
      refine Alter.step ?_ (alter_modeRequest ..) rfl
      exact Alter.refl _ _

theorem alter_evalHeld (s : State) : Alter 5611509765390496865575025770496 s (evalHeld s) := by
  unfold evalHeld
  refine alter_ite (fun _ => ?_) (fun _ => ?_)
  · exact Alter.refl _ _
  · extract_lets +onlyGivenNames x1
    subst x1
    extract_lets +onlyGivenNames x2
    subst x2
    extract_lets +onlyGivenNames x3
    have h4 : Alter 5611509765390496865575025770496 s x3 := by
      unfold x3
      refine Alter.step ?_ (alter_showHeld ..) rfl
      refine Alter.step ?_ (alter_heldMode_heldFn _ _ _) rfl
      exact Alter.refl _ _
    clear_value x3
    extract_lets +onlyGivenNames x5
    have h6 : Alter 5611509765390496865575025770496 s x5 := by
      unfold x5
      split
      · rename_i z7 z8 z9
        refine Alter.step ?_ (alter_heldModeOutcome ..) rfl
        assumption
      · rename_i z10 z11
        assumption
    clear_value x5
    refine Alter.and ?_ (alter_forEach _ _ _ ?_)
    · assumption
    · intro a12 b13
      beta_reduce
      refine alter_heldOutcome _ _ ?_
      · beta_reduce
        refine Alter.step ?_ (alter_heldEnable ..) rfl
        exact Alter.refl _ _

theorem alter_evalHeldNow (s : State) : Alter 5611509765390496865575025770496 s (evalHeldNow s) := by
  unfold evalHeldNow
  refine alter_ite (fun _ => ?_) (fun _ => ?_)
  · exact Alter.refl _ _
  · refine Alter.step ?_ (alter_evalHeld ..) rfl
    exact Alter.refl _ _

theorem alter_leaveService (s : State) : Alter 81130339686176961790692915412992 s (leaveService s) := by
  unfold leaveService
  extract_lets +onlyGivenNames x1
  subst x1
  extract_lets +onlyGivenNames x2
  have h3 : Alter 81130339686176961790692915412992 s x2 := by
    unfold x2
    refine alter_ite (fun _ => ?_) (fun _ => ?_)
    · refine Alter.step ?_ (alter_forceApply ..) rfl
      refine Alter.step ?_ (alter_setFld ..) (by decide)
      exact Alter.refl _ _
    · exact Alter.refl _ _
  clear_value x2
  refine Alter.step ?_ (alter_gloveResume ..) rfl
  refine Alter.step ?_ (alter_service _ _) rfl
  assumption

theorem alter_enterReady (run : Bool) (s : State) : Alter 10300048130690593158173032448 s (enterReady run s) := by
  unfold enterReady
  extract_lets +onlyGivenNames x1
  have h2 : Alter 10300048130690593158173032448 s x1 := by
    unfold x1
    refine Alter.and ?_ (alter_forEach _ _ _ ?_)
    · exact Alter.refl _ _
    · intro a3 b4
      beta_reduce
      extract_lets +onlyGivenNames x5
      subst x5
      refine Alter.step ?_ (alter_setConv ..) rfl
      exact Alter.refl _ _
  clear_value x1
  refine alter_ite (fun _ => ?_) (fun _ => ?_)
  · refine alter_ite (fun _ => ?_) (fun _ => ?_)
    · refine Alter.step ?_ (alter_preStart ..) rfl
      assumption
    · assumption
  · extract_lets +onlyGivenNames x6
    have h7 : Alter 10300048130690593158173032448 s x6 := by
      unfold x6
      refine Alter.and ?_ (alter_forEach _ _ _ ?_)
      · assumption
      · intro a8 b9
        beta_reduce
        refine alter_ite (fun _ => ?_) (fun _ => ?_)
        · refine Alter.step ?_ (alter_setIsl ..) rfl
          refine Alter.step ?_ (alter_setBit ..) (rm_high (by simp only [R.ISL_STAT]; omega) rfl)
          exact Alter.refl _ _
        · exact Alter.refl _ _
    clear_value x6
    refine Alter.step ?_ (alter_preAfterCal ..) rfl
    refine Alter.step ?_ (alter_preDue _ _) rfl
    assumption

theorem alter_nfault_lvEnd (s : State) (nfault' : Bool) (lvEnd' : Option Nat) : Alter 2535301209901191768732696838144 s { s with nfault := nfault', lvEnd := lvEnd' } := by
  constructor
  case inv => exact fun _ i => { i with  }
  all_goals intros
  all_goals first | rfl | exact List.prefix_refl _ | exact Nat.le_refl _ | assumption | (rename_i b; exact absurd b (by decide))

theorem alter_leaveSafe (s : State) : Alter 2535533323806131730123916836864 s (leaveSafe s) := by
  unfold leaveSafe
  extract_lets +onlyGivenNames x1
  subst x1
  extract_lets +onlyGivenNames x2
  have h3 : Alter 2535533323806131730123916836864 s x2 := by
    unfold x2
    refine Alter.step ?_ (alter_nfault_lvEnd _ _ _) rfl
    exact Alter.refl _ _
  clear_value x2
  extract_lets +onlyGivenNames x4
  have h5 : Alter 2535533323806131730123916836864 s x4 := by
    unfold x4
    refine Alter.step ?_ (alter_gatesOff ..) rfl
    assumption
  clear_value x4
  refine Alter.and ?_ (alter_forEach _ _ _ ?_)
  · assumption
  · intro a6 b7
    beta_reduce
    extract_lets +onlyGivenNames x8
    have h9 : Alter 2535533323806131730123916836864 b7 x8 := by
      unfold x8
      refine Alter.step ?_ (alter_selDrop ..) rfl
      refine Alter.step ?_ (alter_selDrop ..) rfl
      refine Alter.step ?_ (alter_selDrop ..) rfl
      exact Alter.refl _ _
    clear_value x8
    refine alter_ite (fun _ => ?_) (fun _ => ?_)
    · assumption
    · refine Alter.step ?_ (alter_selDrop ..) rfl
      assumption

theorem alter_enterRun (m : Nat) (s : State) : Alter 476529638467319679551562317824 s (enterRun m s) := by
  unfold enterRun
  extract_lets +onlyGivenNames x1
  have h2 : Alter 476529638467319679551562317824 s x1 := by
    unfold x1
    refine Alter.and ?_ (alter_forEach _ _ _ ?_)
    · exact Alter.refl _ _
    · intro a3 b4
      beta_reduce
      extract_lets +onlyGivenNames x5
      subst x5
      refine Alter.step ?_ (alter_setConv ..) rfl
      exact Alter.refl _ _
  clear_value x1
  extract_lets +onlyGivenNames x6
  subst x6
  extract_lets +onlyGivenNames x7
  subst x7
  extract_lets +onlyGivenNames x8
  have h9 : Alter 476529638467319679551562317824 s x8 := by
    unfold x8
    refine Alter.step ?_ (alter_dcl_chg _ _ _) rfl
    assumption
  clear_value x8
  refine alter_ite (fun _ => ?_) (fun _ => ?_)
  · refine Alter.and ?_ (alter_forEach _ _ _ ?_)
    · assumption
    · intro a10 b11
      beta_reduce
      refine alter_ite (fun _ => ?_) (fun _ => ?_)
      · refine Alter.step ?_ (alter_selHold ..) rfl
        exact Alter.refl _ _
      · exact Alter.refl _ _
  · assumption

theorem alter_leaveCharge (s : State) : Alter 495640243376458080152413274112 s (leaveCharge s) := by
  unfold leaveCharge
  extract_lets +onlyGivenNames x1
  subst x1
  extract_lets +onlyGivenNames x2
  have h3 : Alter 495640243376458080152413274112 s x2 := by
    unfold x2
    refine alter_ite (fun _ => ?_) (fun _ => ?_)
    · refine Alter.step ?_ (alter_chgEnd ..) rfl
      exact Alter.refl _ _
    · exact Alter.refl _ _
  clear_value x2
  refine Alter.and ?_ (alter_forEach _ _ _ ?_)
  · assumption
  · intro a4 b5
    beta_reduce
    refine Alter.step ?_ (alter_selDrop ..) rfl
    exact Alter.refl _ _

theorem alter_boot_discharging (s : State) (boot' : Boot) (discharging' : Bool) : Alter 4951760747437331458302148608 s { s with boot := boot', discharging := discharging' } := by
  constructor
  case inv => exact fun _ i => { i with  }
  all_goals intros
  all_goals first | rfl | exact List.prefix_refl _ | exact Nat.le_refl _ | assumption | (rename_i b; exact absurd b (by decide))

theorem alter_enterStandby (s : State) : Alter 251508491576727363493402261848064 s (enterStandby s) := by
  unfold enterStandby
  extract_lets +onlyGivenNames x1
  have h2 : Alter 251508491576727363493402261848064 s x1 := by
    unfold x1
    refine Alter.step ?_ (alter_dropAll ..) rfl
    exact Alter.refl _ _
  clear_value x1
  extract_lets +onlyGivenNames x3
  have h4 : Alter 251508491576727363493402261848064 s x3 := by
    unfold x3
    refine Alter.step ?_ (alter_refEnable ..) rfl
    assumption
  clear_value x3
  extract_lets +onlyGivenNames x5
  have h6 : Alter 251508491576727363493402261848064 s x5 := by
    unfold x5
    refine alter_ite (fun _ => ?_) (fun _ => ?_)
    · refine Alter.step ?_ (alter_mirrorDone ..) rfl
      assumption
    · assumption
  clear_value x5
  extract_lets +onlyGivenNames x7
  have h8 : Alter 251508491576727363493402261848064 s x7 := by
    unfold x7
    refine Alter.step ?_ (alter_canStandby ..) rfl
    assumption
  clear_value x7
  refine Alter.step ?_ (alter_boot_discharging _ _ _) rfl
  assumption

theorem alter_finishTrans (t : Trans) (s : State) : Alter 251548115329391052579232431472640 s (finishTrans t s) := by
  unfold finishTrans
  extract_lets +onlyGivenNames x1
  subst x1
  extract_lets +onlyGivenNames x2
  subst x2
  extract_lets +onlyGivenNames x3
  subst x3
  extract_lets +onlyGivenNames x4
  have h5 : Alter 251548115329391052579232431472640 s x4 := by
    unfold x4
    refine alter_ite (fun _ => ?_) (fun _ => ?_)
    · refine Alter.step ?_ (alter_leaveService ..) rfl
      exact Alter.refl _ _
    · exact Alter.refl _ _
  clear_value x4
  extract_lets +onlyGivenNames x6
  have h7 : Alter 251548115329391052579232431472640 s x6 := by
    unfold x6
    refine alter_ite (fun _ => ?_) (fun _ => ?_)
    · refine Alter.step ?_ (alter_leaveSafe ..) rfl
      assumption
    · assumption
  clear_value x6
  extract_lets +onlyGivenNames x8
  have h9 : Alter 251548115329391052579232431472640 s x8 := by
    unfold x8
    refine alter_ite (fun _ => ?_) (fun _ => ?_)
    · refine Alter.step ?_ (alter_leaveCharge ..) rfl
      assumption
    · assumption
  clear_value x8
  extract_lets +onlyGivenNames x10
  have h11 : Alter 251548115329391052579232431472640 s x10 := by
    unfold x10
    refine Alter.step ?_ (alter_putMode ..) rfl
    assumption
  clear_value x10
  extract_lets +onlyGivenNames x12
  have h13 : Alter 251548115329391052579232431472640 s x12 := by
    unfold x12
    refine alter_ite (fun _ => ?_) (fun _ => ?_)
    · refine Alter.step ?_ (alter_serviceEnds ..) rfl
      assumption
    · assumption
  clear_value x12
  extract_lets +onlyGivenNames x14
  have h15 : Alter 251548115329391052579232431472640 s x14 := by
    unfold x14
    refine alter_ite (fun _ => ?_) (fun _ => ?_)
    · refine Alter.step ?_ (alter_enterReady ..) rfl
      assumption
    · assumption
  clear_value x14
  extract_lets +onlyGivenNames x16
  have h17 : Alter 251548115329391052579232431472640 s x16 := by
    unfold x16
    refine alter_ite (fun _ => ?_) (fun _ => ?_)
    · refine Alter.step ?_ (alter_enterRun ..) rfl
      assumption
    · assumption
  clear_value x16
  refine alter_ite (fun _ => ?_) (fun _ => ?_)
  · refine Alter.step ?_ (alter_enterStandby ..) rfl
    assumption
  · refine Alter.step ?_ (alter_evalHeldNow ..) rfl
    refine Alter.step ?_ (alter_linkEval ..) rfl
    assumption

theorem alter_transComplete (s : State) : Alter 251548115329391052579232431472640 s (transComplete s) := by
  unfold transComplete
  split
  · rename_i z1 z2
    exact Alter.refl _ _
  · rename_i z3 z4 z5
    refine alter_ite (fun _ => ?_) (fun _ => ?_)
    · exact Alter.refl _ _
    · refine alter_ite (fun _ => ?_) (fun _ => ?_)
      · exact Alter.refl _ _
      · refine alter_ite (fun _ => ?_) (fun _ => ?_)
        · refine Alter.step ?_ (alter_finishTrans ..) rfl
          refine alter_ite (fun _ => ?_) (fun _ => ?_)
          · refine Alter.step ?_ (alter_until ..) rfl
            exact Alter.refl _ _
          · exact Alter.refl _ _
        · refine Alter.step ?_ (alter_finishTrans ..) rfl
          exact Alter.refl _ _

theorem alter_execModeTransitionComplete (e : Nat) (s : State) : Ends 251548115329391052579232431472640 s (execModeTransitionComplete e s) := by
  unfold execModeTransitionComplete
  refine ends_next ?_
  refine Alter.step ?_ (alter_transComplete ..) rfl
  refine Alter.step ?_ (alter_tick ..) rfl
  exact Alter.refl _ _

theorem alter_stopTimeout (s : State) : Alter 1291272085159668613120 s (stopTimeout s) := by
  unfold stopTimeout
  split
  · rename_i z1 z2
    exact Alter.refl _ _
  · rename_i z3 z4 z5
    refine alter_ite (fun _ => ?_) (fun _ => ?_)
    · exact Alter.refl _ _
    · extract_lets +onlyGivenNames x6
      have h7 : Alter 1291272085159668613120 s x6 := by
        unfold x6
        refine Alter.step ?_ (alter_until ..) rfl
        exact Alter.refl _ _
      clear_value x6
      refine alter_ite (fun _ => ?_) (fun _ => ?_)
      · assumption
      · refine Alter.step ?_ (alter_trans _ _) rfl
        assumption

theorem alter_execStopRampTimeout (e : Nat) (s : State) : Ends 1291272085159668613120 s (execStopRampTimeout e s) := by
  unfold execStopRampTimeout
  refine ends_next ?_
  refine Alter.step ?_ (alter_stopTimeout ..) rfl
  refine Alter.step ?_ (alter_tick ..) rfl
  exact Alter.refl _ _

theorem alter_dischargeOff (s : State) : Alter 5957586586634845162628448256 s (dischargeOff s) := by
  unfold dischargeOff
  extract_lets +onlyGivenNames x1
  have h2 : Alter 5957586586634845162628448256 s x1 := by
    unfold x1
    refine Alter.step ?_ (alter_discharging _ _) rfl
    exact Alter.refl _ _
  clear_value x1
  split
  · rename_i z3 z4 z5
    refine Alter.step ?_ (alter_convDark ..) rfl
    refine Alter.step ?_ (alter_setConv ..) rfl
    assumption
  · rename_i z6 z7
    assumption

theorem alter_dischargeComplete (vl : Nat) (s : State) : Alter 251548115329391052579232431472640 s (dischargeComplete vl s) := by
  unfold dischargeComplete
  extract_lets +onlyGivenNames x1
  have h2 : Alter 251548115329391052579232431472640 s x1 := by
    unfold x1
    refine Alter.step ?_ (alter_setVlink ..) rfl
    exact Alter.refl _ _
  clear_value x1
  split
  · rename_i z3 z4
    assumption
  · rename_i z5 z6 z7
    refine alter_ite (fun _ => ?_) (fun _ => ?_)
    · assumption
    · extract_lets +onlyGivenNames x8
      have h9 : Alter 251548115329391052579232431472640 s x8 := by
        unfold x8
        refine Alter.step ?_ (alter_dischargeOff ..) rfl
        assumption
      clear_value x8
      extract_lets +onlyGivenNames x10
      have h11 : Alter 251548115329391052579232431472640 s x10 := by
        unfold x10
        refine Alter.step ?_ (alter_trans _ _) rfl
        assumption
      clear_value x10
      refine alter_ite (fun _ => ?_) (fun _ => ?_)
      · assumption
      · refine Alter.step ?_ (alter_transComplete ..) rfl
        assumption

theorem alter_execDischargeComplete (e : Nat) (vl : BitVec 13) (s : State) : Ends 251548115329391052579232431472640 s (execDischargeComplete e vl s) := by
  unfold execDischargeComplete
  refine ends_next ?_
  refine Alter.step ?_ (alter_dischargeComplete ..) rfl
  refine Alter.step ?_ (alter_tick ..) rfl
  exact Alter.refl _ _

theorem alter_dischargeLimit (s : State) : Alter 5611509765501177330017283080192 s (dischargeLimit s) := by
  unfold dischargeLimit
  split
  · rename_i z1 z2
    exact Alter.refl _ _
  · rename_i z3 z4 z5
    refine alter_ite (fun _ => ?_) (fun _ => ?_)
    · extract_lets +onlyGivenNames x6
      have h7 : Alter 5611509765501177330017283080192 s x6 := by
        unfold x6
        refine Alter.step ?_ (alter_until ..) rfl
        exact Alter.refl _ _
      clear_value x6
      refine alter_ite (fun _ => ?_) (fun _ => ?_)
      · assumption
      · refine Alter.step ?_ (alter_evalHeldNow ..) rfl
        refine Alter.step ?_ (alter_dischargeStops ..) rfl
        assumption
    · exact Alter.refl _ _

theorem alter_execDischargeLimitExpiry (e : Nat) (s : State) : Ends 5611509765501177330017283080192 s (execDischargeLimitExpiry e s) := by
  unfold execDischargeLimitExpiry
  refine ends_next ?_
  refine Alter.step ?_ (alter_dischargeLimit ..) rfl
  refine Alter.step ?_ (alter_tick ..) rfl
  exact Alter.refl _ _

theorem alter_boot_stoHigh_stoTold (s : State) (boot' : Boot) (stoHigh' : Option Nat) (stoTold' : Bool) : Alter 1947111321951150656509294829109248 s { s with boot := boot', stoHigh := stoHigh', stoTold := stoTold' } := by
  constructor
  case inv => exact fun _ i => { i with  }
  all_goals intros
  all_goals first | rfl | exact List.prefix_refl _ | exact Nat.le_refl _ | assumption | (rename_i b; exact absurd b (by decide))

theorem alter_stoChanged (s : State) : Alter 1947111321951150656509294829109248 s (stoChanged s) := by
  unfold stoChanged
  extract_lets +onlyGivenNames x1
  subst x1
  extract_lets +onlyGivenNames x2
  subst x2
  extract_lets +onlyGivenNames x3
  subst x3
  refine Alter.step ?_ (alter_boot_stoHigh_stoTold _ _ _ _) rfl
  exact Alter.refl _ _

theorem alter_stoFilter (pin : Nat) (s : State) : Alter 2031277554896657908927857191550976 s (stoFilter pin s) := by
  unfold stoFilter
  refine alter_ite (fun _ => ?_) (fun _ => ?_)
  · exact Alter.refl _ _
  · extract_lets +onlyGivenNames x1
    have h2 : Alter 2031277554896657908927857191550976 s x1 := by
      unfold x1
      refine Alter.step ?_ (alter_stoChanged ..) rfl
      refine Alter.step ?_ (alter_setBit ..) (by decide)
      exact Alter.refl _ _
    clear_value x1
    refine Alter.step ?_ (alter_enterSafe ..) rfl
    refine Alter.step ?_ (alter_jWrite ..) rfl
    assumption

theorem alter_execStoFilterExpiry (e : Nat) (pin : Fin 2) (s : State) : Ends 2031277554896768589392299448860672 s (execStoFilterExpiry e pin s) := by
  unfold execStoFilterExpiry
  refine ends_next ?_
  refine Alter.step ?_ (alter_stoFilter ..) rfl
  refine Alter.step ?_ (alter_tick ..) rfl
  exact Alter.refl _ _

theorem alter_stoDiscrepancy (s : State) : Alter 1382240447579324840015353824149504 s (stoDiscrepancy s) := by
  unfold stoDiscrepancy
  split
  · rename_i z1 z2
    exact Alter.refl _ _
  · rename_i z3 z4 z5
    refine alter_ite (fun _ => ?_) (fun _ => ?_)
    · exact Alter.refl _ _
    · extract_lets +onlyGivenNames x6
      have h7 : Alter 1382240447579324840015353824149504 s x6 := by
        unfold x6
        refine Alter.step ?_ (alter_until ..) rfl
        exact Alter.refl _ _
      clear_value x6
      extract_lets +onlyGivenNames x8
      have h9 : Alter 1382240447579324840015353824149504 s x8 := by
        unfold x8
        refine Alter.step ?_ (alter_setBit ..) (by decide)
        assumption
      clear_value x8
      extract_lets +onlyGivenNames x10
      have h11 : Alter 1382240447579324840015353824149504 s x10 := by
        unfold x10
        refine Alter.step ?_ (alter_stoTold _ _) rfl
        assumption
      clear_value x10
      refine Alter.step ?_ (alter_enterSafe ..) rfl
      refine Alter.step ?_ (alter_raise ..) rfl
      assumption

theorem alter_execStoDiscrepancy (e : Nat) (s : State) : Ends 1382240447579324840015353824149504 s (execStoDiscrepancy e s) := by
  unfold execStoDiscrepancy
  refine ends_next ?_
  refine Alter.step ?_ (alter_stoDiscrepancy ..) rfl
  refine Alter.step ?_ (alter_tick ..) rfl
  exact Alter.refl _ _

theorem alter_levelChange (pin : Nat) (level : Bool) (s : State) : Alter 2028240960460352241815341292847104 s (levelChange pin level s) := by
  unfold levelChange
  refine alter_ite (fun _ => ?_) (fun _ => ?_)
  · exact Alter.refl _ _
  · refine alter_ite (fun _ => ?_) (fun _ => ?_)
    · refine Alter.step ?_ (alter_jWrite ..) rfl
      exact Alter.refl _ _
    · refine alter_ite (fun _ => ?_) (fun _ => ?_)
      · exact Alter.refl _ _
      · refine Alter.step ?_ (alter_jWrite ..) rfl
        refine Alter.step ?_ (alter_stoChanged ..) rfl
        refine Alter.step ?_ (alter_setBit ..) (by decide)
        exact Alter.refl _ _

theorem alter_execFilteredLevelChange (e : Nat) (pin : Fin 3) (level : Bool) (s : State) : Ends 2028240960460462922279783550156800 s (execFilteredLevelChange e pin level s) := by
  unfold execFilteredLevelChange
  refine ends_next ?_
  refine Alter.step ?_ (alter_levelChange ..) rfl
  refine Alter.step ?_ (alter_tick ..) rfl
  exact Alter.refl _ _

theorem alter_link60 (vl : Nat) (s : State) : Alter 84166232945507252418287484534784 s (link60 vl s) := by
  unfold link60
  extract_lets +onlyGivenNames x1
  have h2 : Alter 84166232945507252418287484534784 s x1 := by
    unfold x1
    refine Alter.step ?_ (alter_setVlink ..) rfl
    exact Alter.refl _ _
  clear_value x1
  refine alter_ite (fun _ => ?_) (fun _ => ?_)
  · refine Alter.step ?_ (alter_enterSafe ..) rfl
    refine Alter.step ?_ (alter_leaveService ..) rfl
    assumption
  · assumption

theorem alter_execLink60v (e : Nat) (vl : BitVec 13) (s : State) : Ends 84166232945617932882729741844480 s (execLink60v e vl s) := by
  unfold execLink60v
  refine ends_next ?_
  refine Alter.step ?_ (alter_link60 ..) rfl
  refine Alter.step ?_ (alter_tick ..) rfl
  exact Alter.refl _ _

theorem alter_causeClear (v : Reg) (s : State) : Alter 147573952606856282112 s (causeClear v s) := by
  unfold causeClear
  refine Alter.and ?_ (alter_forEach _ _ _ ?_)
  · exact Alter.refl _ _
  · intro a1 b2
    beta_reduce
    refine alter_ite (fun _ => ?_) (fun _ => ?_)
    · exact Alter.refl _ _
    · extract_lets +onlyGivenNames x3
      have h4 : Alter 147573952606856282112 b2 x3 := by
        unfold x3
        refine Alter.step ?_ (alter_setBitAt ..) (by decide)
        exact Alter.refl _ _
      clear_value x3
      refine alter_ite (fun _ => ?_) (fun _ => ?_)
      · refine Alter.step ?_ (alter_setBit ..) (by decide)
        assumption
      · assumption

theorem alter_rtcWrite (v : Reg) (s : State) : Alter 737869767346428575744 s (rtcWrite v s) := by
  unfold rtcWrite
  extract_lets +onlyGivenNames x1
  have h2 : Alter 737869767346428575744 s x1 := by
    unfold x1
    refine Alter.step ?_ (alter_setBit ..) (by decide)
    exact Alter.refl _ _
  clear_value x1
  refine Alter.step ?_ (alter_boot _ _) rfl
  assumption

theorem alter_vanaLow (s : State) : Alter 89249214746923704291534265384960 s (vanaLow s) := by
  unfold vanaLow
  refine alter_ite (fun _ => ?_) (fun _ => ?_)
  · exact Alter.refl _ _
  · extract_lets +onlyGivenNames x1
    have h2 : Alter 89249214746923704291534265384960 s x1 := by
      unfold x1
      refine Alter.step ?_ (alter_refUnsettle ..) rfl
      refine Alter.step ?_ (alter_setBit ..) (by decide)
      exact Alter.refl _ _
    clear_value x1
    refine alter_ite (fun _ => ?_) (fun _ => ?_)
    · assumption
    · refine Alter.step ?_ (alter_enterSafe ..) rfl
      refine Alter.step ?_ (alter_raise ..) rfl
      assumption

theorem alter_execVanaLow (e : Nat) (s : State) : Ends 89249214746923704291534265384960 s (execVanaLow e s) := by
  unfold execVanaLow
  refine ends_next ?_
  refine Alter.step ?_ (alter_vanaLow ..) rfl
  refine Alter.step ?_ (alter_tick ..) rfl
  exact Alter.refl _ _

theorem alter_vanaGood (s : State) : Alter 9903520461856994857588883456 s (vanaGood s) := by
  unfold vanaGood
  refine alter_ite (fun _ => ?_) (fun _ => ?_)
  · exact Alter.refl _ _
  · refine Alter.step ?_ (alter_refStart ..) rfl
    refine Alter.step ?_ (alter_setBit ..) (by decide)
    exact Alter.refl _ _

theorem alter_execVanaGood (e : Nat) (s : State) : Ends 9903520572537459299846193152 s (execVanaGood e s) := by
  unfold execVanaGood
  refine ends_next ?_
  refine Alter.step ?_ (alter_vanaGood ..) rfl
  refine Alter.step ?_ (alter_tick ..) rfl
  exact Alter.refl _ _

end Sys2Proof.Machine
end

