-- ==== Sys2Proof/Laws/Pair.lean ====
section
/-! SUPPORT. What each operation of `Sys2Proof.Machine.Pair` may change (`Alter`), one lemma an operation; for a command,
that it answers a next state (`Ends`). -/

namespace Sys2Proof.Machine

theorem alter_pairSend (m : PairMsg) (s : State) : Alter 324518553658426726783156020576256 s (pairSend m s) := by
  unfold pairSend
  extract_lets +onlyGivenNames x1
  subst x1
  refine Alter.step ?_ (alter_pair _ _) rfl
  exact Alter.refl _ _

theorem alter_pairDown (s : State) : Alter 324518553753021630393138601263104 s (pairDown s) := by
  unfold pairDown
  extract_lets +onlyGivenNames x1
  subst x1
  extract_lets +onlyGivenNames x2
  have h3 : Alter 324518553753021630393138601263104 s x2 := by
    unfold x2
    refine Alter.step ?_ (alter_setFld ..) (by decide)
    exact Alter.refl _ _
  clear_value x2
  extract_lets +onlyGivenNames x4
  subst x4
  extract_lets +onlyGivenNames x5
  have h6 : Alter 324518553753021630393138601263104 s x5 := by
    unfold x5
    refine Alter.step ?_ (alter_pair _ _) rfl
    assumption
  clear_value x5
  refine alter_ite (fun _ => ?_) (fun _ => ?_)
  · refine Alter.step ?_ (alter_raise ..) rfl
    refine Alter.step ?_ (alter_setBit ..) (by decide)
    assumption
  · assumption

theorem alter_pairLinkDown (s : State) : Alter 324518553753132310857580858572800 s (pairLinkDown s) := by
  unfold pairLinkDown
  refine alter_ite (fun _ => ?_) (fun _ => ?_)
  · exact Alter.refl _ _
  · split
    · rename_i z1 z2 z3
      refine Alter.step ?_ (alter_pairDown ..) rfl
      refine Alter.step ?_ (alter_until ..) rfl
      exact Alter.refl _ _
    · rename_i z4 z5
      refine Alter.step ?_ (alter_pairDown ..) rfl
      exact Alter.refl _ _

theorem alter_execPairLinkDown (e : Nat) (s : State) : Ends 324518553753132310857580858572800 s (execPairLinkDown e s) := by
  unfold execPairLinkDown
  refine ends_next ?_
  refine Alter.step ?_ (alter_pairLinkDown ..) rfl
  refine Alter.step ?_ (alter_tick ..) rfl
  exact Alter.refl _ _

theorem alter_pairPeer (m : PairMsg) (s : State) : Alter 147573952589676412928 s (pairPeer m s) := by
  unfold pairPeer
  extract_lets +onlyGivenNames x1
  subst x1
  extract_lets +onlyGivenNames x2
  have h3 : Alter 147573952589676412928 s x2 := by
    unfold x2
    refine Alter.step ?_ (alter_setBit ..) (by decide)
    refine Alter.step ?_ (alter_setFld ..) (by decide)
    exact Alter.refl _ _
  clear_value x2
  extract_lets +onlyGivenNames x4
  have h5 : Alter 147573952589676412928 s x4 := by
    unfold x4
    refine Alter.step ?_ (alter_setBit ..) (by decide)
    refine Alter.step ?_ (alter_setFld ..) (by decide)
    assumption
  clear_value x4
  extract_lets +onlyGivenNames x6
  have h7 : Alter 147573952589676412928 s x6 := by
    unfold x6
    refine Alter.step ?_ (alter_setFld ..) (by decide)
    refine Alter.step ?_ (alter_setFld ..) (by decide)
    assumption
  clear_value x6
  refine Alter.step ?_ (alter_setBit ..) (by decide)
  assumption

theorem alter_pairTrain (was : Nat) (run : Nat) (s : State) : Alter 94594903609982580686848 s (pairTrain was run s) := by
  unfold pairTrain
  refine alter_ite (fun _ => ?_) (fun _ => ?_)
  · exact Alter.refl _ _
  · refine alter_ite (fun _ => ?_) (fun _ => ?_)
    · refine Alter.step ?_ (alter_raise ..) rfl
      refine Alter.step ?_ (alter_setFld ..) (by decide)
      exact Alter.refl _ _
    · refine Alter.step ?_ (alter_setFld ..) (by decide)
      exact Alter.refl _ _

theorem alter_pairReceive (l : List Byte) (s : State) : Alter 405648192167628312088927606407168 s (pairReceive l s) := by
  unfold pairReceive
  refine alter_ite (fun _ => ?_) (fun _ => ?_)
  · extract_lets +onlyGivenNames x1
    have h2 : Alter 405648192167628312088927606407168 s x1 := by
      unfold x1
      refine Alter.step ?_ (alter_incFld ..) (by decide)
      exact Alter.refl _ _
    clear_value x1
    refine Alter.step ?_ (alter_pair _ _) rfl
    assumption
  · extract_lets +onlyGivenNames x3
    subst x3
    extract_lets +onlyGivenNames x4
    subst x4
    extract_lets +onlyGivenNames x5
    have h6 : Alter 405648192167628312088927606407168 s x5 := by
      unfold x5
      refine alter_ite (fun _ => ?_) (fun _ => ?_)
      · refine Alter.step ?_ (alter_pairDown ..) rfl
        exact Alter.refl _ _
      · exact Alter.refl _ _
    clear_value x5
    extract_lets +onlyGivenNames x7
    subst x7
    extract_lets +onlyGivenNames x8
    subst x8
    extract_lets +onlyGivenNames x9
    subst x9
    extract_lets +onlyGivenNames x10
    subst x10
    extract_lets +onlyGivenNames x11
    have h12 : Alter 405648192167628312088927606407168 s x11 := by
      unfold x11
      refine Alter.step ?_ (alter_pair _ _) rfl
      assumption
    clear_value x11
    extract_lets +onlyGivenNames x13
    have h14 : Alter 405648192167628312088927606407168 s x13 := by
      unfold x13
      refine alter_ite (fun _ => ?_) (fun _ => ?_)
      · refine Alter.step ?_ (alter_setBit ..) (by decide)
        assumption
      · assumption
    clear_value x13
    extract_lets +onlyGivenNames x15
    subst x15
    refine Alter.step ?_ (alter_jWrite ..) rfl
    refine Alter.step ?_ (alter_pairPeer ..) rfl
    refine Alter.step ?_ (alter_pairTrain ..) rfl
    assumption

theorem alter_pairTaken (l : List Byte) (lost : Nat) (s : State) : Alter 405658095687942595131126799400960 s (pairTaken l lost s) := by
  unfold pairTaken
  extract_lets +onlyGivenNames x1
  have h2 : Alter 405658095687942595131126799400960 s x1 := by
    unfold x1
    refine Alter.step ?_ (alter_fifoMetN ..) rfl
    exact Alter.refl _ _
  clear_value x1
  refine alter_ite (fun _ => ?_) (fun _ => ?_)
  · refine Alter.step ?_ (alter_pairReceive ..) rfl
    assumption
  · assumption

theorem alter_execPairMessageReceived (e : Nat) (l : Arrival) (s : State) : Ends 405658095688053275595569056710656 s (execPairMessageReceived e l s) := by
  unfold execPairMessageReceived
  refine ends_next ?_
  refine Alter.step ?_ (alter_pairTaken ..) rfl
  refine Alter.step ?_ (alter_tick ..) rfl
  exact Alter.refl _ _

theorem alter_chg_pairUse (s : State) (chg' : Chg) (pairUse' : PairUse) : Alter 950737950171172051122527404032 s { s with chg := chg', pairUse := pairUse' } := by
  constructor
  case inv => exact fun _ i => { i with  }
  all_goals intros
  all_goals first | rfl | exact List.prefix_refl _ | exact Nat.le_refl _ | assumption | (rename_i b; exact absurd b (by decide))

theorem alter_pairHold (st : Nat) (s : State) : Alter 950738044766075661105108090880 s (pairHold st s) := by
  unfold pairHold
  extract_lets +onlyGivenNames x1
  subst x1
  extract_lets +onlyGivenNames x2
  subst x2
  extract_lets +onlyGivenNames x3
  subst x3
  refine alter_ite (fun _ => ?_) (fun _ => ?_)
  · exact Alter.refl _ _
  · extract_lets +onlyGivenNames x4
    subst x4
    extract_lets +onlyGivenNames x5
    subst x5
    extract_lets +onlyGivenNames x6
    have h7 : Alter 950738044766075661105108090880 s x6 := by
      unfold x6
      refine Alter.step ?_ (alter_chg_pairUse _ _ _) rfl
      exact Alter.refl _ _
    clear_value x6
    extract_lets +onlyGivenNames x8
    have h9 : Alter 950738044766075661105108090880 s x8 := by
      unfold x8
      refine Alter.step ?_ (alter_setBit ..) (by decide)
      assumption
    clear_value x8
    extract_lets +onlyGivenNames x10
    have h11 : Alter 950738044766075661105108090880 s x10 := by
      unfold x10
      refine alter_ite (fun _ => ?_) (fun _ => ?_)
      · refine Alter.step ?_ (alter_setBit ..) (by decide)
        assumption
      · assumption
    clear_value x10
    refine Alter.step ?_ (alter_raise ..) rfl
    assumption

theorem alter_pairChop (st : Nat) (s : State) : Alter 633825300261688653338028015616 s (pairChop st s) := by
  unfold pairChop
  extract_lets +onlyGivenNames x1
  subst x1
  extract_lets +onlyGivenNames x2
  subst x2
  extract_lets +onlyGivenNames x3
  subst x3
  refine Alter.step ?_ (alter_setBit ..) (by decide)
  refine Alter.step ?_ (alter_pairUse _ _) rfl
  exact Alter.refl _ _

theorem alter_pairShare (st : Nat) (s : State) : Alter 633825394709018310730932289536 s (pairShare st s) := by
  unfold pairShare
  extract_lets +onlyGivenNames x1
  subst x1
  extract_lets +onlyGivenNames x2
  subst x2
  extract_lets +onlyGivenNames x3
  subst x3
  extract_lets +onlyGivenNames x4
  subst x4
  extract_lets +onlyGivenNames x5
  have h6 : Alter 633825394709018310730932289536 s x5 := by
    unfold x5
    refine Alter.step ?_ (alter_setBit ..) (by decide)
    refine Alter.step ?_ (alter_pairUse _ _) rfl
    exact Alter.refl _ _
  clear_value x5
  refine alter_ite (fun _ => ?_) (fun _ => ?_)
  · refine Alter.step ?_ (alter_raise ..) rfl
    assumption
  · assumption

theorem alter_pairRedist (st : Nat) (was : Nat) (new : Bool) (s : State) : Alter 325152379053135745093886952865792 s (pairRedist st was new s) := by
  unfold pairRedist
  extract_lets +onlyGivenNames x1
  subst x1
  extract_lets +onlyGivenNames x2
  subst x2
  extract_lets +onlyGivenNames x3
  subst x3
  extract_lets +onlyGivenNames x4
  subst x4
  extract_lets +onlyGivenNames x5
  subst x5
  extract_lets +onlyGivenNames x6
  subst x6
  extract_lets +onlyGivenNames x7
  have h8 : Alter 325152379053135745093886952865792 s x7 := by
    unfold x7
    refine Alter.step ?_ (alter_pair _ _) rfl
    exact Alter.refl _ _
  clear_value x7
  extract_lets +onlyGivenNames x9
  subst x9
  extract_lets +onlyGivenNames x10
  subst x10
  extract_lets +onlyGivenNames x11
  subst x11
  extract_lets +onlyGivenNames x12
  subst x12
  extract_lets +onlyGivenNames x13
  have h14 : Alter 325152379053135745093886952865792 s x13 := by
    unfold x13
    refine Alter.step ?_ (alter_pair _ _) rfl
    assumption
  clear_value x13
  extract_lets +onlyGivenNames x15
  have h16 : Alter 325152379053135745093886952865792 s x15 := by
    unfold x15
    refine Alter.step ?_ (alter_setBit ..) (by decide)
    refine Alter.step ?_ (alter_setBit ..) (by decide)
    assumption
  clear_value x15
  extract_lets +onlyGivenNames x17
  have h18 : Alter 325152379053135745093886952865792 s x17 := by
    unfold x17
    refine Alter.step ?_ (alter_pair _ _) rfl
    assumption
  clear_value x17
  extract_lets +onlyGivenNames x19
  have h20 : Alter 325152379053135745093886952865792 s x19 := by
    unfold x19
    split
    · rename_i z21 z22
      refine alter_ite (fun _ => ?_) (fun _ => ?_)
      · refine Alter.step ?_ (alter_raise ..) rfl
        assumption
      · assumption
    · rename_i z23 z24 z25
      refine alter_ite (fun _ => ?_) (fun _ => ?_)
      · refine Alter.step ?_ (alter_raise ..) rfl
        refine Alter.step ?_ (alter_setBit ..) (by decide)
        assumption
      · assumption
  clear_value x19
  split
  · rename_i z26 z27
    refine Alter.step ?_ (alter_setFld ..) (by decide)
    refine Alter.step ?_ (alter_pairUse _ _) rfl
    assumption
  · rename_i z28 z29 z30
    extract_lets +onlyGivenNames x31
    subst x31
    extract_lets +onlyGivenNames x32
    subst x32
    extract_lets +onlyGivenNames x33
    subst x33
    refine Alter.step ?_ (alter_setFld ..) (by decide)
    refine Alter.step ?_ (alter_pairUse _ _) rfl
    assumption

theorem alter_pairSup (msgs : List PairMsg) (s : State) : Alter 325653512656469549717141260861440 s (pairSup msgs s) := by
  unfold pairSup
  extract_lets +onlyGivenNames x1
  have h2 : Alter 325653512656469549717141260861440 s x1 := by
    unfold x1
    refine Alter.and ?_ (alter_forEach _ _ _ ?_)
    · exact Alter.refl _ _
    · intro a3 b4
      beta_reduce
      refine Alter.step ?_ (alter_pair _ _) rfl
      exact Alter.refl _ _
  clear_value x1
  extract_lets +onlyGivenNames x5
  subst x5
  extract_lets +onlyGivenNames x6
  subst x6
  extract_lets +onlyGivenNames x7
  have h8 : Alter 325653512656469549717141260861440 s x7 := by
    unfold x7
    refine Alter.step ?_ (alter_setFld ..) (by decide)
    assumption
  clear_value x7
  extract_lets +onlyGivenNames x9
  subst x9
  extract_lets +onlyGivenNames x10
  subst x10
  extract_lets +onlyGivenNames x11
  subst x11
  extract_lets +onlyGivenNames x12
  subst x12
  extract_lets +onlyGivenNames x13
  have h14 : Alter 325653512656469549717141260861440 s x13 := by
    unfold x13
    refine Alter.step ?_ (alter_pair _ _) rfl
    assumption
  clear_value x13
  refine Alter.step ?_ (alter_linkEval ..) rfl
  refine Alter.step ?_ (alter_pairRedist ..) rfl
  refine Alter.step ?_ (alter_pairShare ..) rfl
  refine Alter.step ?_ (alter_pairChop ..) rfl
  refine Alter.step ?_ (alter_pairHold ..) rfl
  assumption

end Sys2Proof.Machine
end

