-- ==== Sys2Proof/Laws/Flags.lean ====
section
/-! SUPPORT. What each operation of `Sys2Proof.Machine.Flags` may change (`Alter`), one lemma an operation; for a command,
that it answers a next state (`Ends`). -/

namespace Sys2Proof.Machine

theorem alter_zeroOn (clr : Reg) (f : Fld) (i : Nat) (g : Fld) (s : State) : Alter 166020696663385964543 s (zeroOn clr f i g s) := by
  unfold zeroOn
  refine alter_ite (fun _ => ?_) (fun _ => ?_)
  · refine Alter.step ?_ (alter_setFld ..) (rm_any _ rfl)
    exact Alter.refl _ _
  · exact Alter.refl _ _

theorem alter_zeroEach (clr : Reg) (f : Fld) (n : Nat) (i : Nat → Nat) (g : Fld) (s : State) : Alter 166020696663385964543 s (zeroEach clr f n i g s) := by
  unfold zeroEach
  refine Alter.and ?_ (alter_forEach _ _ _ ?_)
  · exact Alter.refl _ _
  · intro a1 b2
    beta_reduce
    refine Alter.step ?_ (alter_setFld ..) (rm_any _ rfl)
    exact Alter.refl _ _

theorem alter_clearPower (i : Nat) (clr : Reg) (s : State) : Alter 618970185663386800835526655 s (clearPower i clr s) := by
  unfold clearPower
  refine alter_ite (fun _ => ?_) (fun _ => ?_)
  · refine Alter.step ?_ (alter_zeroOn ..) rfl
    exact Alter.refl _ _
  · refine alter_ite (fun _ => ?_) (fun _ => ?_)
    · refine Alter.step ?_ (alter_zeroOn ..) rfl
      exact Alter.refl _ _
    · refine alter_ite (fun _ => ?_) (fun _ => ?_)
      · refine Alter.step ?_ (alter_zeroOn ..) rfl
        exact Alter.refl _ _
      · refine alter_ite (fun _ => ?_) (fun _ => ?_)
        · refine Alter.step ?_ (alter_latchRelease ..) rfl
          exact Alter.refl _ _
        · refine alter_ite (fun _ => ?_) (fun _ => ?_)
          · refine Alter.step ?_ (alter_zeroEach ..) rfl
            exact Alter.refl _ _
          · exact Alter.refl _ _

theorem alter_clearMeas (i : Nat) (clr : Reg) (s : State) : Alter 29710561108869823260964945919 s (clearMeas i clr s) := by
  unfold clearMeas
  refine alter_ite (fun _ => ?_) (fun _ => ?_)
  · extract_lets +onlyGivenNames x1
    have h2 : Alter 29710561108869823260964945919 s x1 := by
      unfold x1
      refine alter_ite (fun _ => ?_) (fun _ => ?_)
      · refine Alter.and ?_ (alter_forEach _ _ _ ?_)
        · exact Alter.refl _ _
        · intro a3 b4
          beta_reduce
          refine Alter.step ?_ (alter_setFld ..) (rm_high (by simp only [R.ADC_AD_STAT]; omega) rfl)
          exact Alter.refl _ _
      · exact Alter.refl _ _
    clear_value x1
    extract_lets +onlyGivenNames x5
    subst x5
    extract_lets +onlyGivenNames x6
    have h7 : Alter 29710561108869823260964945919 s x6 := by
      unfold x6
      refine alter_ite (fun _ => ?_) (fun _ => ?_)
      · refine Alter.and ?_ (alter_forEach _ _ _ ?_)
        · refine Alter.step ?_ (alter_meas _ _) rfl
          assumption
        · intro a8 b9
          beta_reduce
          refine Alter.step ?_ (alter_setFld ..) (rm_high (by simp only [R.ADC_ENC_STAT]; omega) rfl)
          exact Alter.refl _ _
      · assumption
    clear_value x6
    refine alter_ite (fun _ => ?_) (fun _ => ?_)
    · refine Alter.and ?_ (alter_forEach _ _ _ ?_)
      · assumption
      · intro a10 b11
        beta_reduce
        refine Alter.step ?_ (alter_setFld ..) (rm_high (by simp only [R.ADC_SENT_STAT]; omega) rfl)
        exact Alter.refl _ _
    · assumption
  · refine alter_ite (fun _ => ?_) (fun _ => ?_)
    · refine Alter.step ?_ (alter_zeroEach ..) rfl
      exact Alter.refl _ _
    · refine alter_ite (fun _ => ?_) (fun _ => ?_)
      · refine alter_ite (fun _ => ?_) (fun _ => ?_)
        · refine Alter.and ?_ (alter_forEach _ _ _ ?_)
          · exact Alter.refl _ _
          · intro a12 b13
            beta_reduce
            refine Alter.step ?_ (alter_setFld ..) (rm_high (by simp only [R.ENG_PAIR_MISM_K]; omega) rfl)
            exact Alter.refl _ _
        · exact Alter.refl _ _
      · refine alter_ite (fun _ => ?_) (fun _ => ?_)
        · refine Alter.step ?_ (alter_clearGraphFlags ..) rfl
          exact Alter.refl _ _
        · exact Alter.refl _ _

theorem alter_clearHost (i : Nat) (clr : Reg) (s : State) : Alter 166020696663385964543 s (clearHost i clr s) := by
  unfold clearHost
  refine alter_ite (fun _ => ?_) (fun _ => ?_)
  · extract_lets +onlyGivenNames x1
    have h2 : Alter 166020696663385964543 s x1 := by
      unfold x1
      refine Alter.step ?_ (alter_zeroOn ..) rfl
      exact Alter.refl _ _
    clear_value x1
    extract_lets +onlyGivenNames x3
    have h4 : Alter 166020696663385964543 s x3 := by
      unfold x3
      refine Alter.step ?_ (alter_zeroOn ..) rfl
      assumption
    clear_value x3
    extract_lets +onlyGivenNames x5
    have h6 : Alter 166020696663385964543 s x5 := by
      unfold x5
      refine Alter.step ?_ (alter_zeroOn ..) rfl
      assumption
    clear_value x5
    extract_lets +onlyGivenNames x7
    have h8 : Alter 166020696663385964543 s x7 := by
      unfold x7
      refine Alter.step ?_ (alter_zeroOn ..) rfl
      assumption
    clear_value x7
    extract_lets +onlyGivenNames x9
    have h10 : Alter 166020696663385964543 s x9 := by
      unfold x9
      refine Alter.step ?_ (alter_zeroOn ..) rfl
      assumption
    clear_value x9
    refine Alter.step ?_ (alter_zeroOn ..) rfl
    assumption
  · refine alter_ite (fun _ => ?_) (fun _ => ?_)
    · extract_lets +onlyGivenNames x11
      have h12 : Alter 166020696663385964543 s x11 := by
        unfold x11
        refine Alter.and ?_ (alter_forEach _ _ _ ?_)
        · exact Alter.refl _ _
        · intro a13 b14
          beta_reduce
          extract_lets +onlyGivenNames x15
          have h16 : Alter 166020696663385964543 b14 x15 := by
            unfold x15
            refine Alter.step ?_ (alter_zeroOn ..) rfl
            exact Alter.refl _ _
          clear_value x15
          refine Alter.step ?_ (alter_zeroOn ..) rfl
          assumption
      clear_value x11
      extract_lets +onlyGivenNames x17
      have h18 : Alter 166020696663385964543 s x17 := by
        unfold x17
        refine Alter.step ?_ (alter_zeroOn ..) rfl
        assumption
      clear_value x17
      refine Alter.step ?_ (alter_zeroOn ..) rfl
      assumption
    · refine alter_ite (fun _ => ?_) (fun _ => ?_)
      · extract_lets +onlyGivenNames x19
        have h20 : Alter 166020696663385964543 s x19 := by
          unfold x19
          refine Alter.step ?_ (alter_zeroOn ..) rfl
          exact Alter.refl _ _
        clear_value x19
        extract_lets +onlyGivenNames x21
        have h22 : Alter 166020696663385964543 s x21 := by
          unfold x21
          refine Alter.step ?_ (alter_zeroOn ..) rfl
          assumption
        clear_value x21
        extract_lets +onlyGivenNames x23
        have h24 : Alter 166020696663385964543 s x23 := by
          unfold x23
          refine Alter.step ?_ (alter_zeroEach ..) rfl
          assumption
        clear_value x23
        refine Alter.step ?_ (alter_zeroEach ..) rfl
        assumption
      · refine alter_ite (fun _ => ?_) (fun _ => ?_)
        · extract_lets +onlyGivenNames x25
          have h26 : Alter 166020696663385964543 s x25 := by
            unfold x25
            refine Alter.step ?_ (alter_zeroOn ..) rfl
            exact Alter.refl _ _
          clear_value x25
          refine Alter.step ?_ (alter_zeroOn ..) rfl
          assumption
        · refine alter_ite (fun _ => ?_) (fun _ => ?_)
          · refine Alter.step ?_ (alter_zeroOn ..) rfl
            exact Alter.refl _ _
          · exact Alter.refl _ _

theorem alter_clearEffects (i : Nat) (clr : Reg) (s : State) : Alter 30329531128512513398414508031 s (clearEffects i clr s) := by
  unfold clearEffects
  refine Alter.step ?_ (alter_clearHost ..) rfl
  refine Alter.step ?_ (alter_clearMeas ..) rfl
  refine Alter.step ?_ (alter_clearPower ..) rfl
  exact Alter.refl _ _

end Sys2Proof.Machine
end

