-- ==== Sys2Proof/Laws/Operands.lean ====
section
/-! SUPPORT. What each operation of `Sys2Proof.Machine.Operands` may change (`Alter`), one lemma an operation; for a command,
that it answers a next state (`Ends`). -/

namespace Sys2Proof.Machine

theorem alter_dwinRead (s : State) : Alter 442721857769029238784 s (dwinRead s).2.2 := by
  unfold dwinRead
  extract_lets +onlyGivenNames x1
  subst x1
  split
  · rename_i z2
    dsimp only
    exact Alter.refl _ _
  · rename_i z3
    split
    · rename_i z4
      dsimp only
      exact Alter.refl _ _
    · rename_i z5
      split
      · rename_i z6 z7 z8 z9
        have h10 : Alter 442721857769029238784 s z8 := by
          refine (congrArg (Alter _ _) (congrArg (Prod.snd) z9)).mp ?_
          refine Alter.step ?_ (alter_draw ..) rfl
          exact Alter.refl _ _
        dsimp only
        refine alter_ite (fun _ => ?_) (fun _ => ?_)
        · refine Alter.step ?_ (alter_setFld ..) (by decide)
          assumption
        · assumption

theorem alter_readItem (r : Req) (i : Nat) (s : State) : Alter 302674176761426322915328 s (readItem r i s).2.2 := by
  unfold readItem
  split
  · rename_i z1
    dsimp only
    exact Alter.refl _ _
  · rename_i z2
    split
    · rename_i z3
      split
      · rename_i z4
        refine Alter.step ?_ (alter_dwinRead ..) rfl
        exact Alter.refl _ _
      · rename_i z5
        dsimp only
        exact Alter.refl _ _
    · rename_i z6
      split
      · rename_i z7
        refine Alter.step ?_ (alter_gwinRead ..) rfl
        exact Alter.refl _ _
      · rename_i z8
        split
        · rename_i z9
          refine Alter.step ?_ (alter_pwinRead ..) rfl
          exact Alter.refl _ _
        · rename_i z10
          split
          · rename_i z11
            dsimp only
            refine Alter.step ?_ (alter_mapRead ..) rfl
            exact Alter.refl _ _
          · rename_i z12
            split
            · rename_i z13
              split
              · rename_i z14
                dsimp only
                exact Alter.refl _ _
              · rename_i z15
                dsimp only
                refine Alter.step ?_ (alter_twinRead ..) rfl
                exact Alter.refl _ _
            · rename_i z16
              split
              · rename_i z17
                split
                · rename_i z18
                  dsimp only
                  exact Alter.refl _ _
                · rename_i z19
                  dsimp only
                  refine Alter.step ?_ (alter_fwinStep ..) rfl
                  exact Alter.refl _ _
              · rename_i z20
                split
                · rename_i z21
                  dsimp only
                  refine Alter.step ?_ (alter_dtHi _ _) rfl
                  exact Alter.refl _ _
                · rename_i z22
                  dsimp only
                  exact Alter.refl _ _

theorem alter_readList (r : Req) (l : List Nat) (k : Nat) (s : State) (vs : List Reg) (t : State)
    (h : readList r l k s = .ok (vs, t)) : Alter 302674176761426322915328 s t := by
  induction l generalizing k s vs t with
  | nil => simp [readList] at h; rw [← h.2]; exact Alter.refl _ _
  | cons i l ih =>
    unfold readList at h
    have hs : Alter 302674176761426322915328 s (readItem r i s).2.2 := alter_readItem ..
    revert hs h
    generalize readItem r i s = x
    obtain ⟨st, v, s1⟩ := x
    intro h hs
    simp only at h hs
    split at h
    · rename_i e
      simp only [Except.ok.injEq, Prod.mk.injEq] at h
      rw [← h.2]
      exact hs.and (ih _ _ _ _ e)
    · cases h
    · cases h
    · cases h

end Sys2Proof.Machine
end

