-- ==== Sys2Proof/Laws/HostPower.lean ====
section
/-! SUPPORT. What each operation of `Sys2Proof.Machine.HostPower` may change (`Alter`), one lemma an operation; for a command,
that it answers a next state (`Ends`). -/

namespace Sys2Proof.Machine

theorem alter_WOut_refuse (lv : Nat) (s : State) : Alter 0 s (WOut.refuse lv s).s := by
  unfold WOut.refuse
  dsimp only
  exact Alter.refl _ _

theorem alter_Wr_plain (w : Wr) (s : State) : Alter 30329531128512513398414508031 s (Wr.plain w s) := by
  unfold Wr.plain
  refine Alter.step ?_ (alter_clearEffects ..) rfl
  refine Alter.step ?_ (alter_setReg ..) (rm_any _ rfl)
  exact Alter.refl _ _

theorem alter_Wr_accept (w : Wr) (s : State) : Alter 30329531128512513398414508031 s (Wr.accept w s).s := by
  unfold Wr.accept
  dsimp only
  refine Alter.step ?_ (alter_Wr_plain ..) rfl
  exact Alter.refl _ _

theorem alter_Wr_ranged (w : Wr) (bad : Bool) (s : State) : Alter 30329531128512513398414508031 s (Wr.ranged w bad s).s := by
  unfold Wr.ranged
  refine alter_WOut_of _ _ _ _ _ ?_ ?_
  · beta_reduce
    exact Alter.refl _ _
  · beta_reduce
    refine Alter.step ?_ (alter_Wr_plain ..) rfl
    exact Alter.refl _ _

theorem alter_devWrite (w : Wr) (s : State) : Alter 30329531718808323757120159743 s (devWrite w s).s := by
  unfold devWrite
  refine alter_ite_s (fun _ => ?_) (fun _ => ?_)
  · refine Alter.step ?_ (alter_Wr_ranged ..) rfl
    exact Alter.refl _ _
  · refine alter_ite_s (fun _ => ?_) (fun _ => ?_)
    · refine Alter.step ?_ (alter_Wr_ranged ..) rfl
      exact Alter.refl _ _
    · refine alter_ite_s (fun _ => ?_) (fun _ => ?_)
      · dsimp only
        refine Alter.step ?_ (alter_rtcWrite ..) rfl
        exact Alter.refl _ _
      · refine alter_ite_s (fun _ => ?_) (fun _ => ?_)
        · refine Alter.step ?_ (alter_Wr_ranged ..) rfl
          exact Alter.refl _ _
        · refine alter_ite_s (fun _ => ?_) (fun _ => ?_)
          · dsimp only
            refine Alter.step ?_ (alter_causeClear ..) rfl
            exact Alter.refl _ _
          · refine Alter.step ?_ (alter_Wr_accept ..) rfl
            exact Alter.refl _ _

theorem alter_fabCtrl (w : Wr) (s : State) : Alter 147573952589676412928 s (fabCtrl w s) := by
  unfold fabCtrl
  extract_lets +onlyGivenNames x1
  have h2 : Alter 147573952589676412928 s x1 := by
    unfold x1
    refine alter_ite (fun _ => ?_) (fun _ => ?_)
    · refine Alter.step ?_ (alter_setFld ..) (by decide)
      refine Alter.step ?_ (alter_setFld ..) (by decide)
      refine Alter.step ?_ (alter_setReg ..) (by decide)
      exact Alter.refl _ _
    · exact Alter.refl _ _
  clear_value x1
  refine alter_ite (fun _ => ?_) (fun _ => ?_)
  · refine Alter.and ?_ (alter_forEach _ _ _ ?_)
    · assumption
    · intro a3 b4
      beta_reduce
      refine Alter.step ?_ (alter_setReg ..) (rm_high (by simp only [R.FAB_BLOCK_MAX]; omega) rfl)
      exact Alter.refl _ _
  · assumption

theorem alter_fabWrite (w : Wr) (s : State) : Alter 30329531128512513398414508031 s (fabWrite w s).s := by
  unfold fabWrite
  refine alter_ite_s (fun _ => ?_) (fun _ => ?_)
  · dsimp only
    refine Alter.step ?_ (alter_fabCtrl ..) rfl
    exact Alter.refl _ _
  · refine Alter.step ?_ (alter_Wr_accept ..) rfl
    exact Alter.refl _ _

theorem alter_profWrite (n : Nat) (w : Wr) (s : State) : Alter 30329625575842170791318781951 s (profWrite n w s) := by
  unfold profWrite
  extract_lets +onlyGivenNames x1
  have h2 : Alter 30329625575842170791318781951 s x1 := by
    unfold x1
    refine Alter.step ?_ (alter_Wr_plain ..) rfl
    exact Alter.refl _ _
  clear_value x1
  extract_lets +onlyGivenNames x3
  subst x3
  extract_lets +onlyGivenNames x4
  subst x4
  refine alter_ite (fun _ => ?_) (fun _ => ?_)
  · refine Alter.step ?_ (alter_raise ..) rfl
    refine Alter.step ?_ (alter_setBit ..) (rm_high (by simp only [R.ISL_FLAGS]; omega) rfl)
    assumption
  · assumption

theorem alter_islCfg (n : Nat) (w : Wr) (s : State) : Alter 30329531128512513398414508031 s (islCfg n w s) := by
  unfold islCfg
  refine Alter.step ?_ (alter_clampShow ..) rfl
  refine Alter.step ?_ (alter_Wr_plain ..) rfl
  exact Alter.refl _ _

theorem alter_islWrite (w : Wr) (s : State) : Alter 30329625575842170791318781951 s (islWrite w s).s := by
  unfold islWrite
  extract_lets +onlyGivenNames x1
  subst x1
  extract_lets +onlyGivenNames x2
  subst x2
  extract_lets +onlyGivenNames x3
  subst x3
  refine alter_ite_s (fun _ => ?_) (fun _ => ?_)
  · refine alter_WOut_of _ _ _ _ _ ?_ ?_
    · beta_reduce
      exact Alter.refl _ _
    · beta_reduce
      refine Alter.step ?_ (alter_islCfg ..) rfl
      exact Alter.refl _ _
  · refine alter_ite_s (fun _ => ?_) (fun _ => ?_)
    · refine alter_WOut_of _ _ _ _ _ ?_ ?_
      · beta_reduce
        exact Alter.refl _ _
      · beta_reduce
        refine Alter.step ?_ (alter_Wr_plain ..) rfl
        exact Alter.refl _ _
    · refine alter_ite_s (fun _ => ?_) (fun _ => ?_)
      · refine alter_WOut_of _ _ _ _ _ ?_ ?_
        · beta_reduce
          exact Alter.refl _ _
        · beta_reduce
          refine Alter.step ?_ (alter_Wr_plain ..) rfl
          exact Alter.refl _ _
      · refine alter_ite_s (fun _ => ?_) (fun _ => ?_)
        · refine alter_WOut_of _ _ _ _ _ ?_ ?_
          · beta_reduce
            exact Alter.refl _ _
          · beta_reduce
            refine Alter.step ?_ (alter_profWrite ..) rfl
            exact Alter.refl _ _
        · refine Alter.step ?_ (alter_Wr_accept ..) rfl
          exact Alter.refl _ _

theorem alter_dsatWrite (n : Nat) (w : Wr) (s : State) : Alter 30329531128512513398414508031 s (dsatWrite n w s) := by
  unfold dsatWrite
  extract_lets +onlyGivenNames x1
  subst x1
  extract_lets +onlyGivenNames x2
  have h3 : Alter 30329531128512513398414508031 s x2 := by
    unfold x2
    refine Alter.step ?_ (alter_Wr_plain ..) rfl
    exact Alter.refl _ _
  clear_value x2
  refine alter_ite (fun _ => ?_) (fun _ => ?_)
  · assumption
  · refine Alter.step ?_ (alter_setBit ..) (rm_high (by simp only [R.ISL_VDS_CAL]; omega) rfl)
    assumption

theorem alter_protWrite (w : Wr) (s : State) : Alter 30871224343029524661587148799 s (protWrite w s).s := by
  unfold protWrite
  split
  · rename_i z1 z2 z3 z4 z5
    refine alter_WOut_of _ _ _ _ _ ?_ ?_
    · beta_reduce
      exact Alter.refl _ _
    · beta_reduce
      refine Alter.step ?_ (alter_dsatWrite ..) rfl
      exact Alter.refl _ _
  · rename_i z6 z7 z8 z9 z10 z11
    refine alter_WOut_of _ _ _ _ _ ?_ ?_
    · beta_reduce
      exact Alter.refl _ _
    · beta_reduce
      refine Alter.step ?_ (alter_Wr_plain ..) rfl
      exact Alter.refl _ _
  · rename_i z12 z13 z14 z15 z16 z17 z18
    refine alter_WOut_of _ _ _ _ _ ?_ ?_
    · beta_reduce
      exact Alter.refl _ _
    · beta_reduce
      refine Alter.step ?_ (alter_selEval ..) rfl
      refine Alter.step ?_ (alter_Wr_plain ..) rfl
      exact Alter.refl _ _
  · rename_i z19 z20 z21 z22 z23 z24
    refine alter_ite_s (fun _ => ?_) (fun _ => ?_)
    · refine Alter.step ?_ (alter_Wr_ranged ..) rfl
      exact Alter.refl _ _
    · refine alter_ite_s (fun _ => ?_) (fun _ => ?_)
      · refine alter_ite_s (fun _ => ?_) (fun _ => ?_)
        · refine alter_WOut_of _ _ _ _ _ ?_ ?_
          · beta_reduce
            exact Alter.refl _ _
          · beta_reduce
            refine Alter.step ?_ (alter_preStart ..) rfl
            exact Alter.refl _ _
        · dsimp only
          exact Alter.refl _ _
      · refine Alter.step ?_ (alter_Wr_accept ..) rfl
        exact Alter.refl _ _

theorem alter_shadowWrite (j : Nat) (unit : Nat) (off : Nat) (w : Wr) (f : Fld) (s : State) : Alter 1237940205306076938285088767 s (shadowWrite j unit off w f s) := by
  unfold shadowWrite
  refine Alter.step ?_ (alter_shadowPut ..) rfl
  refine Alter.step ?_ (alter_setReg ..) (rm_any _ rfl)
  exact Alter.refl _ _

theorem alter_commitWrite (w : Wr) (s : State) : Alter 1237940039285380274899124224 s (commitWrite w s).s := by
  unfold commitWrite
  extract_lets +onlyGivenNames x1
  subst x1
  refine alter_WOut_of _ _ _ _ _ ?_ ?_
  · beta_reduce
    exact Alter.refl _ _
  · beta_reduce
    refine Alter.and ?_ (alter_forEach _ _ _ ?_)
    · exact Alter.refl _ _
    · intro a2 b3
      beta_reduce
      refine Alter.step ?_ (alter_tokenPut ..) rfl
      exact Alter.refl _ _

theorem alter_forceWrite (w : Wr) (s : State) : Alter 84176136465839982202339888988159 s (forceWrite w s) := by
  unfold forceWrite
  refine Alter.step ?_ (alter_link60 ..) rfl
  refine Alter.step ?_ (alter_forceApply ..) rfl
  refine Alter.step ?_ (alter_Wr_plain ..) rfl
  exact Alter.refl _ _

theorem alter_dutyFormat (k : Nat) (w : Wr) (s : State) : Alter 30329531128512513398414508031 s (dutyFormat k w s) := by
  unfold dutyFormat
  extract_lets +onlyGivenNames x1
  have h2 : Alter 30329531128512513398414508031 s x1 := by
    unfold x1
    refine Alter.step ?_ (alter_Wr_plain ..) rfl
    exact Alter.refl _ _
  clear_value x1
  refine alter_ite (fun _ => ?_) (fun _ => ?_)
  · assumption
  · refine Alter.step ?_ (alter_carryClear ..) rfl
    assumption

theorem alter_tripWritten (k : Nat) (w : Wr) (s : State) : Alter 89246738866863580272768959119359 s (tripWritten k w s) := by
  unfold tripWritten
  extract_lets +onlyGivenNames x1
  have h2 : Alter 89246738866863580272768959119359 s x1 := by
    unfold x1
    refine Alter.step ?_ (alter_Wr_plain ..) rfl
    exact Alter.refl _ _
  clear_value x1
  refine alter_ite (fun _ => ?_) (fun _ => ?_)
  · refine Alter.step ?_ (alter_tripUnit ..) rfl
    assumption
  · assumption

theorem alter_hbWrite (k : Nat) (o : Nat) (w : Wr) (s : State) : Alter 89247976806902865653043858243583 s (hbWrite k o w s).s := by
  unfold hbWrite
  extract_lets +onlyGivenNames x1
  subst x1
  extract_lets +onlyGivenNames x2
  subst x2
  extract_lets +onlyGivenNames x3
  subst x3
  refine alter_ite_s (fun _ => ?_) (fun _ => ?_)
  · refine alter_WOut_of _ _ _ _ _ ?_ ?_
    · beta_reduce
      exact Alter.refl _ _
    · beta_reduce
      refine Alter.step ?_ (alter_shadowWrite ..) rfl
      exact Alter.refl _ _
  · refine alter_ite_s (fun _ => ?_) (fun _ => ?_)
    · refine alter_WOut_of _ _ _ _ _ ?_ ?_
      · beta_reduce
        exact Alter.refl _ _
      · beta_reduce
        refine Alter.step ?_ (alter_dutyFormat ..) rfl
        exact Alter.refl _ _
    · refine alter_ite_s (fun _ => ?_) (fun _ => ?_)
      · refine alter_WOut_of _ _ _ _ _ ?_ ?_
        · beta_reduce
          exact Alter.refl _ _
        · beta_reduce
          refine Alter.step ?_ (alter_Wr_plain ..) rfl
          exact Alter.refl _ _
      · refine alter_ite_s (fun _ => ?_) (fun _ => ?_)
        · refine alter_WOut_of _ _ _ _ _ ?_ ?_
          · beta_reduce
            exact Alter.refl _ _
          · beta_reduce
            refine Alter.step ?_ (alter_tripWritten ..) rfl
            exact Alter.refl _ _
        · refine alter_ite_s (fun _ => ?_) (fun _ => ?_)
          · refine alter_WOut_of _ _ _ _ _ ?_ ?_
            · beta_reduce
              exact Alter.refl _ _
            · beta_reduce
              refine Alter.step ?_ (alter_Wr_plain ..) rfl
              exact Alter.refl _ _
          · refine Alter.step ?_ (alter_Wr_accept ..) rfl
            exact Alter.refl _ _

theorem alter_pwmWrite (w : Wr) (s : State) : Alter 89247976806902865653043858243583 s (pwmWrite w s).s := by
  unfold pwmWrite
  split
  · rename_i z1 z2 z3
    extract_lets +onlyGivenNames x4
    subst x4
    extract_lets +onlyGivenNames x5
    subst x5
    refine alter_WOut_of _ _ _ _ _ ?_ ?_
    · beta_reduce
      exact Alter.refl _ _
    · beta_reduce
      refine Alter.step ?_ (alter_shadowWrite ..) rfl
      exact Alter.refl _ _
  · rename_i z6 z7
    refine alter_ite_s (fun _ => ?_) (fun _ => ?_)
    · refine Alter.step ?_ (alter_hbWrite ..) rfl
      exact Alter.refl _ _
    · refine alter_ite_s (fun _ => ?_) (fun _ => ?_)
      · refine Alter.step ?_ (alter_Wr_ranged ..) rfl
        exact Alter.refl _ _
      · refine alter_ite_s (fun _ => ?_) (fun _ => ?_)
        · refine Alter.step ?_ (alter_commitWrite ..) rfl
          exact Alter.refl _ _
        · refine alter_ite_s (fun _ => ?_) (fun _ => ?_)
          · dsimp only
            refine Alter.step ?_ (alter_latchRelease ..) rfl
            exact Alter.refl _ _
          · refine alter_ite_s (fun _ => ?_) (fun _ => ?_)
            · refine alter_WOut_of _ _ _ _ _ ?_ ?_
              · beta_reduce
                exact Alter.refl _ _
              · beta_reduce
                refine Alter.step ?_ (alter_forceWrite ..) rfl
                exact Alter.refl _ _
            · refine Alter.step ?_ (alter_Wr_accept ..) rfl
              exact Alter.refl _ _

theorem alter_adcWrite (w : Wr) (s : State) : Alter 89249214746942151033318757367807 s (adcWrite w s).s := by
  unfold adcWrite
  extract_lets +onlyGivenNames x1
  subst x1
  split
  · rename_i z2 z3 z4 z5 z6
    refine alter_WOut_of _ _ _ _ _ ?_ ?_
    · beta_reduce
      exact Alter.refl _ _
    · beta_reduce
      refine Alter.step ?_ (alter_calWritten ..) rfl
      refine Alter.step ?_ (alter_Wr_plain ..) rfl
      exact Alter.refl _ _
  · rename_i z7 z8 z9 z10 z11 z12
    refine alter_WOut_of _ _ _ _ _ ?_ ?_
    · beta_reduce
      exact Alter.refl _ _
    · beta_reduce
      refine Alter.step ?_ (alter_wcmpTake ..) rfl
      refine Alter.step ?_ (alter_Wr_plain ..) rfl
      exact Alter.refl _ _
  · rename_i z13 z14 z15 z16 z17 z18 z19
    refine alter_WOut_of _ _ _ _ _ ?_ ?_
    · beta_reduce
      exact Alter.refl _ _
    · beta_reduce
      refine Alter.step ?_ (alter_sentEnable ..) rfl
      refine Alter.step ?_ (alter_Wr_plain ..) rfl
      exact Alter.refl _ _
  · rename_i z20 z21 z22 z23 z24 z25
    split
    · rename_i z26 z27 z28 z29
      refine alter_WOut_of _ _ _ _ _ ?_ ?_
      · beta_reduce
        exact Alter.refl _ _
      · beta_reduce
        refine Alter.step ?_ (alter_Wr_plain ..) rfl
        exact Alter.refl _ _
    · rename_i z30 z31 z32 z33 z34
      refine alter_WOut_of _ _ _ _ _ ?_ ?_
      · beta_reduce
        exact Alter.refl _ _
      · beta_reduce
        refine Alter.step ?_ (alter_Wr_plain ..) rfl
        exact Alter.refl _ _
    · rename_i z35 z36 z37 z38
      refine alter_ite_s (fun _ => ?_) (fun _ => ?_)
      · refine alter_WOut_of _ _ _ _ _ ?_ ?_
        · beta_reduce
          exact Alter.refl _ _
        · beta_reduce
          refine Alter.step ?_ (alter_refEnable ..) rfl
          exact Alter.refl _ _
      · refine alter_ite_s (fun _ => ?_) (fun _ => ?_)
        · refine alter_WOut_of _ _ _ _ _ ?_ ?_
          · beta_reduce
            exact Alter.refl _ _
          · beta_reduce
            refine Alter.step ?_ (alter_Wr_plain ..) rfl
            exact Alter.refl _ _
        · refine Alter.step ?_ (alter_Wr_accept ..) rfl
          exact Alter.refl _ _

theorem alter_queWriteReg (w : Wr) (s : State) : Alter 30329531128512513398414508031 s (queWriteReg w s).s := by
  unfold queWriteReg
  split
  · rename_i z1 z2 z3
    extract_lets +onlyGivenNames x4
    subst x4
    refine alter_WOut_of _ _ _ _ _ ?_ ?_
    · beta_reduce
      exact Alter.refl _ _
    · beta_reduce
      refine Alter.step ?_ (alter_queFree ..) rfl
      exact Alter.refl _ _
  · rename_i z5 z6
    refine Alter.step ?_ (alter_Wr_accept ..) rfl
    exact Alter.refl _ _

end Sys2Proof.Machine
end

