-- ==== Sys2Proof/Laws/HostDrive.lean ====
section
/-! SUPPORT. What each operation of `Sys2Proof.Machine.HostDrive` may change (`Alter`), one lemma an operation; for a command,
that it answers a next state (`Ends`). -/

namespace Sys2Proof.Machine

theorem alter_engWrite (r : Req) (w : Wr) (s : State) : Alter 30329568907444376355576217599 s (engWrite r w s).s := by
  unfold engWrite
  refine alter_ite_s (fun _ => ?_) (fun _ => ?_)
  · extract_lets +onlyGivenNames x1
    have h2 : Alter 30329568907444376355576217599 s x1 := by
      unfold x1
      refine alter_ite (fun _ => ?_) (fun _ => ?_)
      · refine Alter.step ?_ (alter_engClrTime ..) rfl
        exact Alter.refl _ _
      · exact Alter.refl _ _
    clear_value x1
    dsimp only
    refine alter_ite (fun _ => ?_) (fun _ => ?_)
    · refine Alter.step ?_ (alter_engClrCounts ..) rfl
      assumption
    · assumption
  · refine alter_ite_s (fun _ => ?_) (fun _ => ?_)
    · refine Alter.step ?_ (alter_Wr_ranged ..) rfl
      exact Alter.refl _ _
    · refine alter_ite_s (fun _ => ?_) (fun _ => ?_)
      · refine alter_WOut_of _ _ _ _ _ ?_ ?_
        · beta_reduce
          exact Alter.refl _ _
        · beta_reduce
          refine Alter.step ?_ (alter_gwinWrite ..) rfl
          exact Alter.refl _ _
      · refine alter_ite_s (fun _ => ?_) (fun _ => ?_)
        · extract_lets +onlyGivenNames x3
          subst x3
          refine alter_ite_s (fun _ => ?_) (fun _ => ?_)
          · dsimp only
            refine Alter.step ?_ (alter_stageEmpty ..) rfl
            refine alter_ite_s (fun _ => ?_) (fun _ => ?_)
            · refine alter_WOut_ofStatus _ ?_
              · beta_reduce
                refine Alter.step ?_ (alter_gwinApply ..) rfl
                exact Alter.refl _ _
            · dsimp only
              exact Alter.refl _ _
          · refine alter_ite_s (fun _ => ?_) (fun _ => ?_)
            · refine alter_WOut_ofStatus _ ?_
              · beta_reduce
                refine Alter.step ?_ (alter_gwinApply ..) rfl
                exact Alter.refl _ _
            · dsimp only
              exact Alter.refl _ _
        · refine Alter.step ?_ (alter_Wr_accept ..) rfl
          exact Alter.refl _ _

theorem alter_pedalWrite (w : Wr) (s : State) : Alter 30329531128512513398414508031 s (pedalWrite w s).s := by
  unfold pedalWrite
  extract_lets +onlyGivenNames x1
  subst x1
  extract_lets +onlyGivenNames x2
  subst x2
  extract_lets +onlyGivenNames x3
  subst x3
  refine alter_ite_s (fun _ => ?_) (fun _ => ?_)
  · refine alter_WOut_of _ _ _ _ _ ?_ ?_
    · beta_reduce
      exact Alter.refl _ _
    · beta_reduce
      refine Alter.step ?_ (alter_Wr_plain ..) rfl
      exact Alter.refl _ _
  · refine alter_ite_s (fun _ => ?_) (fun _ => ?_)
    · refine alter_WOut_of _ _ _ _ _ ?_ ?_
      · beta_reduce
        exact Alter.refl _ _
      · beta_reduce
        refine Alter.step ?_ (alter_Wr_plain ..) rfl
        exact Alter.refl _ _
    · refine Alter.step ?_ (alter_Wr_accept ..) rfl
      exact Alter.refl _ _

theorem alter_plcWrite (w : Wr) (s : State) : Alter 10171534332954347725372040151039 s (plcWrite w s).s := by
  unfold plcWrite
  refine alter_ite_s (fun _ => ?_) (fun _ => ?_)
  · extract_lets +onlyGivenNames x1
    subst x1
    refine alter_ite_s (fun _ => ?_) (fun _ => ?_)
    · dsimp only
      refine Alter.step ?_ (alter_setReg ..) (by decide)
      refine alter_ite_s (fun _ => ?_) (fun _ => ?_)
      · refine alter_WOut_of _ _ _ _ _ ?_ ?_
        · beta_reduce
          exact Alter.refl _ _
        · beta_reduce
          refine Alter.step ?_ (alter_submit ..) rfl
          exact Alter.refl _ _
      · dsimp only
        exact Alter.refl _ _
    · refine alter_ite_s (fun _ => ?_) (fun _ => ?_)
      · refine alter_WOut_of _ _ _ _ _ ?_ ?_
        · beta_reduce
          exact Alter.refl _ _
        · beta_reduce
          refine Alter.step ?_ (alter_submit ..) rfl
          exact Alter.refl _ _
      · dsimp only
        exact Alter.refl _ _
  · refine alter_ite_s (fun _ => ?_) (fun _ => ?_)
    · refine Alter.step ?_ (alter_Wr_ranged ..) rfl
      exact Alter.refl _ _
    · refine alter_ite_s (fun _ => ?_) (fun _ => ?_)
      · refine alter_WOut_of _ _ _ _ _ ?_ ?_
        · beta_reduce
          exact Alter.refl _ _
        · beta_reduce
          refine Alter.step ?_ (alter_pwinWrite ..) rfl
          exact Alter.refl _ _
      · refine Alter.step ?_ (alter_Wr_accept ..) rfl
        exact Alter.refl _ _

theorem alter_trxCtrl (r : Req) (m : Nat) (w : Wr) (s : State) : Alter 540902526413117559636691517440 s (trxCtrl r m w s).s := by
  unfold trxCtrl
  extract_lets +onlyGivenNames x1
  subst x1
  extract_lets +onlyGivenNames x2
  subst x2
  refine alter_ite_s (fun _ => ?_) (fun _ => ?_)
  · refine Alter.step ?_ (alter_WOut_refuse ..) rfl
    exact Alter.refl _ _
  · extract_lets +onlyGivenNames x3
    subst x3
    extract_lets +onlyGivenNames x4
    subst x4
    refine alter_ite_s (fun _ => ?_) (fun _ => ?_)
    · refine Alter.step ?_ (alter_WOut_refuse ..) rfl
      exact Alter.refl _ _
    · extract_lets +onlyGivenNames x5
      have h6 : Alter 540902526413117559636691517440 s x5 := by
        unfold x5
        refine Alter.step ?_ (alter_setFld ..) (rm_high (by simp only [R.TRX_M_CTRL]; omega) rfl)
        refine Alter.step ?_ (alter_setFld ..) (rm_high (by simp only [R.TRX_M_CTRL]; omega) rfl)
        refine alter_WOut_ofStatus _ ?_
        · beta_reduce
          refine alter_ite_snd (fun _ => ?_) (fun _ => ?_)
          · dsimp only
            exact Alter.refl _ _
          · refine alter_ite_snd (fun _ => ?_) (fun _ => ?_)
            · refine Alter.step ?_ (alter_machEnable ..) rfl
              exact Alter.refl _ _
            · dsimp only
              refine Alter.step ?_ (alter_machDisable ..) rfl
              exact Alter.refl _ _
      clear_value x5
      dsimp only
      refine Alter.step ?_ (alter_limpEval ..) rfl
      refine Alter.step ?_ (alter_setFld ..) (rm_high (by simp only [R.TRX_M_CTRL]; omega) rfl)
      assumption

theorem alter_axisWrite (m : Nat) (w : Wr) (bad : Bool) (s : State) : Alter 30329531128512513398414508031 s (axisWrite m w bad s).s := by
  unfold axisWrite
  extract_lets +onlyGivenNames x1
  subst x1
  refine alter_WOut_of _ _ _ _ _ ?_ ?_
  · beta_reduce
    exact Alter.refl _ _
  · beta_reduce
    refine Alter.step ?_ (alter_setMapOk ..) rfl
    refine Alter.step ?_ (alter_Wr_plain ..) rfl
    exact Alter.refl _ _

theorem alter_machWrite (r : Req) (m : Nat) (o : Nat) (w : Wr) (s : State) : Alter 550806046745847343706275839999 s (machWrite r m o w s).s := by
  unfold machWrite
  extract_lets +onlyGivenNames x1
  subst x1
  refine alter_ite_s (fun _ => ?_) (fun _ => ?_)
  · refine alter_WOut_of _ _ _ _ _ ?_ ?_
    · beta_reduce
      exact Alter.refl _ _
    · beta_reduce
      refine Alter.step ?_ (alter_Wr_plain ..) rfl
      exact Alter.refl _ _
  · refine alter_ite_s (fun _ => ?_) (fun _ => ?_)
    · refine Alter.step ?_ (alter_trxCtrl ..) rfl
      exact Alter.refl _ _
    · refine alter_ite_s (fun _ => ?_) (fun _ => ?_)
      · dsimp only
        refine Alter.step ?_ (alter_treqWrite ..) rfl
        exact Alter.refl _ _
      · refine alter_ite_s (fun _ => ?_) (fun _ => ?_)
        · refine alter_WOut_of _ _ _ _ _ ?_ ?_
          · beta_reduce
            exact Alter.refl _ _
          · beta_reduce
            refine Alter.step ?_ (alter_Wr_plain ..) rfl
            exact Alter.refl _ _
        · refine alter_ite_s (fun _ => ?_) (fun _ => ?_)
          · refine alter_WOut_of _ _ _ _ _ ?_ ?_
            · beta_reduce
              exact Alter.refl _ _
            · beta_reduce
              refine Alter.step ?_ (alter_Wr_plain ..) rfl
              exact Alter.refl _ _
          · refine alter_ite_s (fun _ => ?_) (fun _ => ?_)
            · refine alter_WOut_of _ _ _ _ _ ?_ ?_
              · beta_reduce
                exact Alter.refl _ _
              · beta_reduce
                refine alter_ite (fun _ => ?_) (fun _ => ?_)
                · refine Alter.step ?_ (alter_demagClear ..) rfl
                  exact Alter.refl _ _
                · exact Alter.refl _ _
            · refine alter_ite_s (fun _ => ?_) (fun _ => ?_)
              · refine alter_WOut_of _ _ _ _ _ ?_ ?_
                · beta_reduce
                  exact Alter.refl _ _
                · beta_reduce
                  refine Alter.step ?_ (alter_Wr_plain ..) rfl
                  exact Alter.refl _ _
              · refine alter_ite_s (fun _ => ?_) (fun _ => ?_)
                · refine alter_WOut_of _ _ _ _ _ ?_ ?_
                  · beta_reduce
                    exact Alter.refl _ _
                  · beta_reduce
                    refine Alter.step ?_ (alter_Wr_plain ..) rfl
                    exact Alter.refl _ _
                · refine alter_ite_s (fun _ => ?_) (fun _ => ?_)
                  · refine Alter.step ?_ (alter_axisWrite ..) rfl
                    exact Alter.refl _ _
                  · refine alter_ite_s (fun _ => ?_) (fun _ => ?_)
                    · refine Alter.step ?_ (alter_axisWrite ..) rfl
                      exact Alter.refl _ _
                    · refine Alter.step ?_ (alter_Wr_accept ..) rfl
                      exact Alter.refl _ _

theorem alter_trxWrite (r : Req) (w : Wr) (s : State) : Alter 550806046745847343706275839999 s (trxWrite r w s).s := by
  unfold trxWrite
  refine alter_ite_s (fun _ => ?_) (fun _ => ?_)
  · extract_lets +onlyGivenNames x1
    subst x1
    refine alter_WOut_of _ _ _ _ _ ?_ ?_
    · beta_reduce
      exact Alter.refl _ _
    · beta_reduce
      refine Alter.step ?_ (alter_mapWrite ..) rfl
      exact Alter.refl _ _
  · refine alter_ite_s (fun _ => ?_) (fun _ => ?_)
    · refine alter_ite_s (fun _ => ?_) (fun _ => ?_)
      · refine alter_WOut_of _ _ _ _ _ ?_ ?_
        · beta_reduce
          exact Alter.refl _ _
        · beta_reduce
          refine Alter.step ?_ (alter_mapValidate ..) rfl
          exact Alter.refl _ _
      · dsimp only
        exact Alter.refl _ _
    · refine alter_ite_s (fun _ => ?_) (fun _ => ?_)
      · refine Alter.step ?_ (alter_machWrite ..) rfl
        exact Alter.refl _ _
      · refine Alter.step ?_ (alter_Wr_accept ..) rfl
        exact Alter.refl _ _

theorem alter_dcdcWrite (r : Req) (w : Wr) (s : State) : Alter 511191965488715174909503864831 s (dcdcWrite r w s).s := by
  unfold dcdcWrite
  extract_lets +onlyGivenNames x1
  subst x1
  extract_lets +onlyGivenNames x2
  subst x2
  extract_lets +onlyGivenNames x3
  subst x3
  extract_lets +onlyGivenNames x4
  subst x4
  refine alter_WOut_of _ _ _ _ _ ?_ ?_
  · beta_reduce
    exact Alter.refl _ _
  · beta_reduce
    split
    · rename_i z5 z6 z7 z8 z9
      refine Alter.step ?_ (alter_holdEnable ..) rfl
      exact Alter.refl _ _
    · rename_i z10 z11 z12 z13 z14
      refine Alter.step ?_ (alter_linkEval ..) rfl
      refine Alter.step ?_ (alter_Wr_plain ..) rfl
      refine alter_ite (fun _ => ?_) (fun _ => ?_)
      · refine Alter.step ?_ (alter_hostEnables ..) rfl
        exact Alter.refl _ _
      · exact Alter.refl _ _
    · rename_i z15 z16 z17
      refine Alter.step ?_ (alter_linkEval ..) rfl
      refine Alter.step ?_ (alter_Wr_plain ..) rfl
      exact Alter.refl _ _

theorem alter_dcdcOut (r : Req) (w : Wr) (s : State) : Alter 511191965488715174909503864831 s (dcdcOut r w s).s := by
  unfold dcdcOut
  extract_lets +onlyGivenNames x1
  subst x1
  extract_lets +onlyGivenNames x2
  subst x2
  refine alter_ite_s (fun _ => ?_) (fun _ => ?_)
  · dsimp only
    refine Alter.step ?_ (alter_dcdcWrite ..) rfl
    exact Alter.refl _ _
  · refine Alter.step ?_ (alter_dcdcWrite ..) rfl
    exact Alter.refl _ _

theorem alter_dclWrite (r : Req) (w : Wr) (s : State) : Alter 511191965488715174909503864831 s (dclWrite r w s).s := by
  unfold dclWrite
  extract_lets +onlyGivenNames x1
  have h2 : ∀ y3, Alter 511191965488715174909503864831 y3 (x1 y3) := by
    intro y3
    unfold x1
    beta_reduce
    refine Alter.step ?_ (alter_linkEval ..) rfl
    refine Alter.step ?_ (alter_Wr_plain ..) rfl
    exact Alter.refl _ _
  clear_value x1
  refine alter_ite_s (fun _ => ?_) (fun _ => ?_)
  · refine alter_WOut_of _ _ _ _ _ ?_ ?_
    · beta_reduce
      exact Alter.refl _ _
    · beta_reduce
      refine Alter.and ?_ (h2 ..)
      exact Alter.refl _ _
  · refine alter_ite_s (fun _ => ?_) (fun _ => ?_)
    · refine alter_WOut_of _ _ _ _ _ ?_ ?_
      · beta_reduce
        exact Alter.refl _ _
      · beta_reduce
        refine Alter.and ?_ (h2 ..)
        exact Alter.refl _ _
    · refine alter_ite_s (fun _ => ?_) (fun _ => ?_)
      · refine alter_WOut_of _ _ _ _ _ ?_ ?_
        · beta_reduce
          exact Alter.refl _ _
        · beta_reduce
          refine Alter.and ?_ (h2 ..)
          exact Alter.refl _ _
      · refine alter_ite_s (fun _ => ?_) (fun _ => ?_)
        · refine alter_WOut_of _ _ _ _ _ ?_ ?_
          · beta_reduce
            exact Alter.refl _ _
          · beta_reduce
            refine Alter.and ?_ (h2 ..)
            exact Alter.refl _ _
        · refine alter_ite_s (fun _ => ?_) (fun _ => ?_)
          · refine Alter.step ?_ (alter_dcdcOut ..) rfl
            exact Alter.refl _ _
          · refine alter_ite_s (fun _ => ?_) (fun _ => ?_)
            · refine alter_WOut_of _ _ _ _ _ ?_ ?_
              · beta_reduce
                exact Alter.refl _ _
              · beta_reduce
                refine Alter.and ?_ (h2 ..)
                exact Alter.refl _ _
            · refine alter_ite_s (fun _ => ?_) (fun _ => ?_)
              · refine alter_WOut_of _ _ _ _ _ ?_ ?_
                · beta_reduce
                  exact Alter.refl _ _
                · beta_reduce
                  refine Alter.and ?_ (h2 ..)
                  exact Alter.refl _ _
              · refine alter_ite_s (fun _ => ?_) (fun _ => ?_)
                · refine alter_WOut_of _ _ _ _ _ ?_ ?_
                  · beta_reduce
                    exact Alter.refl _ _
                  · beta_reduce
                    refine Alter.and ?_ (h2 ..)
                    exact Alter.refl _ _
                · refine alter_ite_s (fun _ => ?_) (fun _ => ?_)
                  · refine alter_WOut_of _ _ _ _ _ ?_ ?_
                    · beta_reduce
                      exact Alter.refl _ _
                    · beta_reduce
                      refine Alter.and ?_ (h2 ..)
                      exact Alter.refl _ _
                  · refine alter_ite_s (fun _ => ?_) (fun _ => ?_)
                    · refine alter_WOut_of _ _ _ _ _ ?_ ?_
                      · beta_reduce
                        exact Alter.refl _ _
                      · beta_reduce
                        refine Alter.and ?_ (h2 ..)
                        exact Alter.refl _ _
                    · refine alter_ite_s (fun _ => ?_) (fun _ => ?_)
                      · refine alter_WOut_of _ _ _ _ _ ?_ ?_
                        · beta_reduce
                          exact Alter.refl _ _
                        · beta_reduce
                          refine Alter.and ?_ (h2 ..)
                          exact Alter.refl _ _
                      · refine alter_ite_s (fun _ => ?_) (fun _ => ?_)
                        · refine alter_ite_s (fun _ => ?_) (fun _ => ?_)
                          · refine alter_WOut_of _ _ _ _ _ ?_ ?_
                            · beta_reduce
                              exact Alter.refl _ _
                            · beta_reduce
                              refine Alter.step ?_ (alter_chopClear ..) rfl
                              exact Alter.refl _ _
                          · dsimp only
                            exact Alter.refl _ _
                        · refine Alter.step ?_ (alter_Wr_accept ..) rfl
                          exact Alter.refl _ _

theorem alter_chgCtrl (r : Req) (w : Wr) (s : State) : Alter 495640342546154222613986017280 s (chgCtrl r w s).s := by
  unfold chgCtrl
  extract_lets +onlyGivenNames x1
  subst x1
  refine alter_ite_s (fun _ => ?_) (fun _ => ?_)
  · refine Alter.step ?_ (alter_WOut_refuse ..) rfl
    exact Alter.refl _ _
  · extract_lets +onlyGivenNames x2
    subst x2
    refine alter_ite_s (fun _ => ?_) (fun _ => ?_)
    · refine Alter.step ?_ (alter_WOut_refuse ..) rfl
      exact Alter.refl _ _
    · dsimp only
      refine alter_ite (fun _ => ?_) (fun _ => ?_)
      · refine Alter.step ?_ (alter_chgUnlock ..) rfl
        refine alter_ite_s (fun _ => ?_) (fun _ => ?_)
        · refine alter_WOut_ofStatus _ ?_
          · beta_reduce
            refine Alter.step ?_ (alter_chgStop ..) rfl
            refine alter_ite_s (fun _ => ?_) (fun _ => ?_)
            · refine alter_WOut_ofStatus _ ?_
              · beta_reduce
                refine Alter.step ?_ (alter_chgStart ..) rfl
                exact Alter.refl _ _
            · dsimp only
              exact Alter.refl _ _
        · refine alter_ite_s (fun _ => ?_) (fun _ => ?_)
          · refine alter_WOut_ofStatus _ ?_
            · beta_reduce
              refine Alter.step ?_ (alter_chgStart ..) rfl
              exact Alter.refl _ _
          · dsimp only
            exact Alter.refl _ _
      · refine alter_ite_s (fun _ => ?_) (fun _ => ?_)
        · refine alter_WOut_ofStatus _ ?_
          · beta_reduce
            refine Alter.step ?_ (alter_chgStop ..) rfl
            refine alter_ite_s (fun _ => ?_) (fun _ => ?_)
            · refine alter_WOut_ofStatus _ ?_
              · beta_reduce
                refine Alter.step ?_ (alter_chgStart ..) rfl
                exact Alter.refl _ _
            · dsimp only
              exact Alter.refl _ _
        · refine alter_ite_s (fun _ => ?_) (fun _ => ?_)
          · refine alter_WOut_ofStatus _ ?_
            · beta_reduce
              refine Alter.step ?_ (alter_chgStart ..) rfl
              exact Alter.refl _ _
          · dsimp only
            exact Alter.refl _ _

theorem alter_chgCfgWrite (w : Wr) (s : State) : Alter 30329531128512513398414508031 s (chgCfgWrite w s).s := by
  unfold chgCfgWrite
  extract_lets +onlyGivenNames x1
  subst x1
  refine alter_ite_s (fun _ => ?_) (fun _ => ?_)
  · refine alter_WOut_of _ _ _ _ _ ?_ ?_
    · beta_reduce
      exact Alter.refl _ _
    · beta_reduce
      refine Alter.step ?_ (alter_Wr_plain ..) rfl
      exact Alter.refl _ _
  · refine alter_ite_s (fun _ => ?_) (fun _ => ?_)
    · refine alter_WOut_of _ _ _ _ _ ?_ ?_
      · beta_reduce
        exact Alter.refl _ _
      · beta_reduce
        refine Alter.step ?_ (alter_Wr_plain ..) rfl
        exact Alter.refl _ _
    · refine alter_ite_s (fun _ => ?_) (fun _ => ?_)
      · refine alter_WOut_of _ _ _ _ _ ?_ ?_
        · beta_reduce
          exact Alter.refl _ _
        · beta_reduce
          refine Alter.step ?_ (alter_Wr_plain ..) rfl
          exact Alter.refl _ _
      · refine alter_ite_s (fun _ => ?_) (fun _ => ?_)
        · refine alter_WOut_of _ _ _ _ _ ?_ ?_
          · beta_reduce
            exact Alter.refl _ _
          · beta_reduce
            refine Alter.step ?_ (alter_Wr_plain ..) rfl
            exact Alter.refl _ _
        · refine alter_ite_s (fun _ => ?_) (fun _ => ?_)
          · refine alter_WOut_of _ _ _ _ _ ?_ ?_
            · beta_reduce
              exact Alter.refl _ _
            · beta_reduce
              refine Alter.step ?_ (alter_Wr_plain ..) rfl
              exact Alter.refl _ _
          · refine alter_ite_s (fun _ => ?_) (fun _ => ?_)
            · refine alter_WOut_of _ _ _ _ _ ?_ ?_
              · beta_reduce
                exact Alter.refl _ _
              · beta_reduce
                refine Alter.step ?_ (alter_Wr_plain ..) rfl
                exact Alter.refl _ _
            · refine alter_ite_s (fun _ => ?_) (fun _ => ?_)
              · refine alter_WOut_of _ _ _ _ _ ?_ ?_
                · beta_reduce
                  exact Alter.refl _ _
                · beta_reduce
                  refine Alter.step ?_ (alter_Wr_plain ..) rfl
                  exact Alter.refl _ _
              · refine alter_ite_s (fun _ => ?_) (fun _ => ?_)
                · refine alter_WOut_of _ _ _ _ _ ?_ ?_
                  · beta_reduce
                    exact Alter.refl _ _
                  · beta_reduce
                    refine Alter.step ?_ (alter_Wr_plain ..) rfl
                    exact Alter.refl _ _
                · refine Alter.step ?_ (alter_Wr_accept ..) rfl
                  exact Alter.refl _ _

theorem alter_chgWrite (r : Req) (w : Wr) (s : State) : Alter 506162832898526696825314869247 s (chgWrite r w s).s := by
  unfold chgWrite
  refine alter_ite_s (fun _ => ?_) (fun _ => ?_)
  · refine Alter.step ?_ (alter_chgCtrl ..) rfl
    exact Alter.refl _ _
  · refine alter_ite_s (fun _ => ?_) (fun _ => ?_)
    · refine Alter.step ?_ (alter_Wr_ranged ..) rfl
      exact Alter.refl _ _
    · refine alter_ite_s (fun _ => ?_) (fun _ => ?_)
      · dsimp only
        refine Alter.step ?_ (alter_tbatWrite ..) rfl
        exact Alter.refl _ _
      · refine Alter.step ?_ (alter_chgCfgWrite ..) rfl
        exact Alter.refl _ _

theorem alter_actCtrl (r : Req) (a : Nat) (w : Wr) (s : State) : Alter 1768939045384214792336622747648 s (actCtrl r a w s).s := by
  unfold actCtrl
  extract_lets +onlyGivenNames x1
  subst x1
  extract_lets +onlyGivenNames x2
  subst x2
  extract_lets +onlyGivenNames x3
  subst x3
  refine alter_ite_s (fun _ => ?_) (fun _ => ?_)
  · refine Alter.step ?_ (alter_WOut_refuse ..) rfl
    exact Alter.refl _ _
  · extract_lets +onlyGivenNames x4
    subst x4
    extract_lets +onlyGivenNames x5
    have h6 : Alter 1768939045384214792336622747648 s x5 := by
      unfold x5
      refine alter_ite (fun _ => ?_) (fun _ => ?_)
      · refine Alter.step ?_ (alter_actBrakeBit ..) rfl
        refine alter_WOut_ofStatus _ ?_
        · beta_reduce
          refine alter_ite_snd (fun _ => ?_) (fun _ => ?_)
          · dsimp only
            exact Alter.refl _ _
          · refine alter_ite_snd (fun _ => ?_) (fun _ => ?_)
            · refine Alter.step ?_ (alter_actEnable ..) rfl
              exact Alter.refl _ _
            · refine alter_ite_snd (fun _ => ?_) (fun _ => ?_)
              · dsimp only
                refine Alter.step ?_ (alter_actDisable ..) rfl
                exact Alter.refl _ _
              · dsimp only
                exact Alter.refl _ _
      · refine alter_WOut_ofStatus _ ?_
        · beta_reduce
          refine alter_ite_snd (fun _ => ?_) (fun _ => ?_)
          · dsimp only
            exact Alter.refl _ _
          · refine alter_ite_snd (fun _ => ?_) (fun _ => ?_)
            · refine Alter.step ?_ (alter_actEnable ..) rfl
              exact Alter.refl _ _
            · refine alter_ite_snd (fun _ => ?_) (fun _ => ?_)
              · dsimp only
                refine Alter.step ?_ (alter_actDisable ..) rfl
                exact Alter.refl _ _
              · dsimp only
                exact Alter.refl _ _
    clear_value x5
    dsimp only
    refine alter_ite (fun _ => ?_) (fun _ => ?_)
    · refine Alter.step ?_ (alter_actRef ..) rfl
      assumption
    · assumption

theorem alter_actTgt (a : Nat) (w : Wr) (s : State) : Alter 1298289616366563259963842494463 s (actTgt a w s).s := by
  unfold actTgt
  refine alter_WOut_of _ _ _ _ _ ?_ ?_
  · beta_reduce
    exact Alter.refl _ _
  · beta_reduce
    refine Alter.step ?_ (alter_actTarget ..) rfl
    refine Alter.step ?_ (alter_Wr_plain ..) rfl
    exact Alter.refl _ _

theorem alter_actWrite (r : Req) (w : Wr) (s : State) : Alter 1778842565716944576406207070207 s (actWrite r w s).s := by
  unfold actWrite
  extract_lets +onlyGivenNames x1
  subst x1
  extract_lets +onlyGivenNames x2
  subst x2
  refine alter_ite_s (fun _ => ?_) (fun _ => ?_)
  · refine Alter.step ?_ (alter_Wr_ranged ..) rfl
    exact Alter.refl _ _
  · refine alter_ite_s (fun _ => ?_) (fun _ => ?_)
    · refine Alter.step ?_ (alter_Wr_accept ..) rfl
      exact Alter.refl _ _
    · refine alter_ite_s (fun _ => ?_) (fun _ => ?_)
      · refine alter_WOut_of _ _ _ _ _ ?_ ?_
        · beta_reduce
          exact Alter.refl _ _
        · beta_reduce
          refine Alter.step ?_ (alter_Wr_plain ..) rfl
          exact Alter.refl _ _
      · refine alter_ite_s (fun _ => ?_) (fun _ => ?_)
        · refine Alter.step ?_ (alter_actCtrl ..) rfl
          exact Alter.refl _ _
        · refine alter_ite_s (fun _ => ?_) (fun _ => ?_)
          · refine Alter.step ?_ (alter_actTgt ..) rfl
            exact Alter.refl _ _
          · refine alter_ite_s (fun _ => ?_) (fun _ => ?_)
            · refine alter_WOut_of _ _ _ _ _ ?_ ?_
              · beta_reduce
                exact Alter.refl _ _
              · beta_reduce
                refine Alter.step ?_ (alter_Wr_plain ..) rfl
                exact Alter.refl _ _
            · refine alter_ite_s (fun _ => ?_) (fun _ => ?_)
              · refine alter_WOut_of _ _ _ _ _ ?_ ?_
                · beta_reduce
                  exact Alter.refl _ _
                · beta_reduce
                  refine Alter.step ?_ (alter_Wr_plain ..) rfl
                  exact Alter.refl _ _
              · refine Alter.step ?_ (alter_Wr_accept ..) rfl
                exact Alter.refl _ _

end Sys2Proof.Machine
end

