-- ==== Sys2Proof/Laws/HostComm.lean ====
section
/-! SUPPORT. What each operation of `Sys2Proof.Machine.HostComm` may change (`Alter`), one lemma an operation; for a command,
that it answers a next state (`Ends`). -/

namespace Sys2Proof.Machine

theorem alter_lifeWrite (r : Req) (w : Wr) (s : State) : Alter 5100932026488759776778131603455 s (lifeWrite r w s).s := by
  unfold lifeWrite
  refine alter_ite_s (fun _ => ?_) (fun _ => ?_)
  · refine Alter.step ?_ (alter_Wr_ranged ..) rfl
    exact Alter.refl _ _
  · refine alter_ite_s (fun _ => ?_) (fun _ => ?_)
    · extract_lets +onlyGivenNames x1
      subst x1
      refine alter_WOut_of _ _ _ _ _ ?_ ?_
      · beta_reduce
        exact Alter.refl _ _
      · beta_reduce
        refine Alter.step ?_ (alter_lifeCtrl ..) rfl
        exact Alter.refl _ _
    · refine alter_ite_s (fun _ => ?_) (fun _ => ?_)
      · extract_lets +onlyGivenNames x2
        subst x2
        refine alter_WOut_of _ _ _ _ _ ?_ ?_
        · beta_reduce
          exact Alter.refl _ _
        · beta_reduce
          refine Alter.step ?_ (alter_twinWrite ..) rfl
          exact Alter.refl _ _
      · refine alter_ite_s (fun _ => ?_) (fun _ => ?_)
        · refine Alter.step ?_ (alter_Wr_ranged ..) rfl
          exact Alter.refl _ _
        · refine Alter.step ?_ (alter_Wr_accept ..) rfl
          exact Alter.refl _ _

theorem alter_haltReached (p : Nat) (why : Nat) (s : State) : Alter 84166232945507252418287484534784 s (haltReached p why s) := by
  unfold haltReached
  extract_lets +onlyGivenNames x1
  have h2 : Alter 84166232945507252418287484534784 s x1 := by
    unfold x1
    refine Alter.step ?_ (alter_setBit ..) (by decide)
    refine Alter.step ?_ (alter_setBit ..) (by decide)
    exact Alter.refl _ _
  clear_value x1
  extract_lets +onlyGivenNames x3
  have h4 : Alter 84166232945507252418287484534784 s x3 := by
    unfold x3
    refine Alter.step ?_ (alter_setFld ..) (by decide)
    refine Alter.step ?_ (alter_setFld ..) (by decide)
    assumption
  clear_value x3
  extract_lets +onlyGivenNames x5
  subst x5
  extract_lets +onlyGivenNames x6
  have h7 : Alter 84166232945507252418287484534784 s x6 := by
    unfold x6
    refine Alter.step ?_ (alter_glove _ _) rfl
    assumption
  clear_value x6
  refine Alter.step ?_ (alter_link60 ..) rfl
  refine Alter.step ?_ (alter_raise ..) rfl
  assumption

theorem alter_glvWrite (stepGo : State → State) (w : Wr) (s : State) (hg : ∀ x, Alter 5192296858534809181786422619668479 x (stepGo x)) : Alter 5192296858534809181786422619668479 s (glvWrite stepGo w s).s := by
  unfold glvWrite
  extract_lets +onlyGivenNames x1
  subst x1
  refine alter_ite_s (fun _ => ?_) (fun _ => ?_)
  · extract_lets +onlyGivenNames x2
    subst x2
    refine alter_WOut_of _ _ _ _ _ ?_ ?_
    · beta_reduce
      exact Alter.refl _ _
    · beta_reduce
      extract_lets +onlyGivenNames x3
      have h4 : Alter 5192296858534809181786422619668479 s x3 := by
        unfold x3
        refine alter_ite (fun _ => ?_) (fun _ => ?_)
        · refine Alter.step ?_ (alter_haltAsk ..) rfl
          exact Alter.refl _ _
        · exact Alter.refl _ _
      clear_value x3
      extract_lets +onlyGivenNames x5
      have h6 : Alter 5192296858534809181786422619668479 s x5 := by
        unfold x5
        refine alter_ite (fun _ => ?_) (fun _ => ?_)
        · refine Alter.step ?_ (alter_gloveResume ..) rfl
          assumption
        · assumption
      clear_value x5
      refine alter_ite (fun _ => ?_) (fun _ => ?_)
      · refine Alter.and ?_ (hg _)
        assumption
      · assumption
  · refine alter_ite_s (fun _ => ?_) (fun _ => ?_)
    · extract_lets +onlyGivenNames x7
      subst x7
      refine alter_WOut_of _ _ _ _ _ ?_ ?_
      · beta_reduce
        exact Alter.refl _ _
      · beta_reduce
        refine Alter.step ?_ (alter_Wr_plain ..) rfl
        exact Alter.refl _ _
    · refine Alter.step ?_ (alter_Wr_accept ..) rfl
      exact Alter.refl _ _

theorem alter_canCtrl (c : Nat) (w : Wr) (s : State) : Alter 162259276829360937344167686701056 s (canCtrl c w s).s := by
  unfold canCtrl
  extract_lets +onlyGivenNames x1
  have h2 : Alter 162259276829360937344167686701056 s x1 := by
    unfold x1
    refine alter_ite (fun _ => ?_) (fun _ => ?_)
    · refine Alter.step ?_ (alter_canRecover ..) rfl
      exact Alter.refl _ _
    · exact Alter.refl _ _
  clear_value x1
  refine alter_ite_s (fun _ => ?_) (fun _ => ?_)
  · extract_lets +onlyGivenNames x3
    subst x3
    dsimp only
    refine Alter.step ?_ (alter_canFlush ..) rfl
    assumption
  · dsimp only
    assumption

theorem alter_canCWrite (c : Nat) (o : Nat) (w : Wr) (s : State) : Alter 162289606360341875904976424796159 s (canCWrite c o w s).s := by
  unfold canCWrite
  extract_lets +onlyGivenNames x1
  subst x1
  refine alter_ite_s (fun _ => ?_) (fun _ => ?_)
  · extract_lets +onlyGivenNames x2
    subst x2
    refine alter_WOut_of _ _ _ _ _ ?_ ?_
    · beta_reduce
      exact Alter.refl _ _
    · beta_reduce
      refine Alter.step ?_ (alter_canEnable ..) rfl
      refine Alter.step ?_ (alter_Wr_plain ..) rfl
      exact Alter.refl _ _
  · refine alter_ite_s (fun _ => ?_) (fun _ => ?_)
    · refine alter_WOut_of _ _ _ _ _ ?_ ?_
      · beta_reduce
        exact Alter.refl _ _
      · beta_reduce
        refine Alter.step ?_ (alter_Wr_plain ..) rfl
        exact Alter.refl _ _
    · refine alter_ite_s (fun _ => ?_) (fun _ => ?_)
      · refine alter_WOut_of _ _ _ _ _ ?_ ?_
        · beta_reduce
          exact Alter.refl _ _
        · beta_reduce
          refine Alter.step ?_ (alter_Wr_plain ..) rfl
          exact Alter.refl _ _
      · refine alter_ite_s (fun _ => ?_) (fun _ => ?_)
        · refine alter_WOut_of _ _ _ _ _ ?_ ?_
          · beta_reduce
            exact Alter.refl _ _
          · beta_reduce
            refine Alter.step ?_ (alter_Wr_plain ..) rfl
            exact Alter.refl _ _
        · refine alter_ite_s (fun _ => ?_) (fun _ => ?_)
          · refine Alter.step ?_ (alter_canCtrl ..) rfl
            exact Alter.refl _ _
          · refine alter_ite_s (fun _ => ?_) (fun _ => ?_)
            · refine alter_WOut_of _ _ _ _ _ ?_ ?_
              · beta_reduce
                exact Alter.refl _ _
              · beta_reduce
                refine Alter.step ?_ (alter_canReq ..) rfl
                exact Alter.refl _ _
            · refine alter_ite_s (fun _ => ?_) (fun _ => ?_)
              · extract_lets +onlyGivenNames x3
                subst x3
                dsimp only
                refine Alter.step ?_ (alter_canCancel ..) rfl
                exact Alter.refl _ _
              · refine alter_ite_s (fun _ => ?_) (fun _ => ?_)
                · extract_lets +onlyGivenNames x4
                  subst x4
                  refine alter_WOut_of _ _ _ _ _ ?_ ?_
                  · beta_reduce
                    exact Alter.refl _ _
                  · beta_reduce
                    refine Alter.step ?_ (alter_canRxAck ..) rfl
                    exact Alter.refl _ _
                · refine alter_ite_s (fun _ => ?_) (fun _ => ?_)
                  · extract_lets +onlyGivenNames x5
                    subst x5
                    refine alter_WOut_of _ _ _ _ _ ?_ ?_
                    · beta_reduce
                      exact Alter.refl _ _
                    · beta_reduce
                      refine Alter.step ?_ (alter_canLoad ..) rfl
                      exact Alter.refl _ _
                  · refine Alter.step ?_ (alter_Wr_accept ..) rfl
                    exact Alter.refl _ _

theorem alter_canWrite (w : Wr) (s : State) : Alter 162289606360341875904976424796159 s (canWrite w s).s := by
  unfold canWrite
  refine alter_ite_s (fun _ => ?_) (fun _ => ?_)
  · dsimp only
    refine alter_ite (fun _ => ?_) (fun _ => ?_)
    · refine Alter.step ?_ (alter_ptPurge ..) rfl
      exact Alter.refl _ _
    · exact Alter.refl _ _
  · refine alter_ite_s (fun _ => ?_) (fun _ => ?_)
    · refine alter_WOut_of _ _ _ _ _ ?_ ?_
      · beta_reduce
        exact Alter.refl _ _
      · beta_reduce
        refine Alter.step ?_ (alter_fwinWrite ..) rfl
        exact Alter.refl _ _
    · refine alter_ite_s (fun _ => ?_) (fun _ => ?_)
      · refine Alter.step ?_ (alter_Wr_ranged ..) rfl
        exact Alter.refl _ _
      · refine alter_ite_s (fun _ => ?_) (fun _ => ?_)
        · refine Alter.step ?_ (alter_canCWrite ..) rfl
          exact Alter.refl _ _
        · refine Alter.step ?_ (alter_Wr_accept ..) rfl
          exact Alter.refl _ _

theorem alter_stoWrite (w : Wr) (s : State) : Alter 20312739229227512594738570067967 s (stoWrite w s).s := by
  unfold stoWrite
  refine alter_ite_s (fun _ => ?_) (fun _ => ?_)
  · refine Alter.step ?_ (alter_Wr_ranged ..) rfl
    exact Alter.refl _ _
  · refine alter_ite_s (fun _ => ?_) (fun _ => ?_)
    · refine alter_ite_s (fun _ => ?_) (fun _ => ?_)
      · extract_lets +onlyGivenNames x1
        subst x1
        refine alter_WOut_of _ _ _ _ _ ?_ ?_
        · beta_reduce
          exact Alter.refl _ _
        · beta_reduce
          refine Alter.step ?_ (alter_formatDo ..) rfl
          exact Alter.refl _ _
      · dsimp only
        exact Alter.refl _ _
    · refine alter_ite_s (fun _ => ?_) (fun _ => ?_)
      · extract_lets +onlyGivenNames x2
        subst x2
        refine alter_WOut_of _ _ _ _ _ ?_ ?_
        · beta_reduce
          exact Alter.refl _ _
        · beta_reduce
          refine Alter.step ?_ (alter_recEnable ..) rfl
          refine Alter.step ?_ (alter_Wr_plain ..) rfl
          exact Alter.refl _ _
      · refine alter_ite_s (fun _ => ?_) (fun _ => ?_)
        · dsimp only
          refine Alter.step ?_ (alter_setReg ..) (rm_any _ rfl)
          exact Alter.refl _ _
        · refine Alter.step ?_ (alter_Wr_accept ..) rfl
          exact Alter.refl _ _

theorem alter_pairWrite (w : Wr) (s : State) : Alter 30329531128512513398414508031 s (pairWrite w s).s := by
  unfold pairWrite
  refine alter_ite_s (fun _ => ?_) (fun _ => ?_)
  · extract_lets +onlyGivenNames x1
    subst x1
    refine alter_WOut_of _ _ _ _ _ ?_ ?_
    · beta_reduce
      exact Alter.refl _ _
    · beta_reduce
      refine Alter.step ?_ (alter_Wr_plain ..) rfl
      exact Alter.refl _ _
  · refine Alter.step ?_ (alter_Wr_accept ..) rfl
    exact Alter.refl _ _

theorem alter_regWrite (stepGo : State → State) (r : Req) (w : Wr) (s : State) (hg : ∀ x, Alter 5192296858534809181786422619668479 x (stepGo x)) : Alter 5192296858534809181786422619668479 s (regWrite stepGo r w s).s := by
  unfold regWrite
  extract_lets +onlyGivenNames x1
  subst x1
  refine alter_ite_s (fun _ => ?_) (fun _ => ?_)
  · refine Alter.step ?_ (alter_devWrite ..) rfl
    exact Alter.refl _ _
  · refine alter_ite_s (fun _ => ?_) (fun _ => ?_)
    · refine Alter.step ?_ (alter_fabWrite ..) rfl
      exact Alter.refl _ _
    · refine alter_ite_s (fun _ => ?_) (fun _ => ?_)
      · refine Alter.step ?_ (alter_islWrite ..) rfl
        exact Alter.refl _ _
      · refine alter_ite_s (fun _ => ?_) (fun _ => ?_)
        · refine Alter.step ?_ (alter_protWrite ..) rfl
          exact Alter.refl _ _
        · refine alter_ite_s (fun _ => ?_) (fun _ => ?_)
          · refine Alter.step ?_ (alter_pwmWrite ..) rfl
            exact Alter.refl _ _
          · refine alter_ite_s (fun _ => ?_) (fun _ => ?_)
            · refine Alter.step ?_ (alter_adcWrite ..) rfl
              exact Alter.refl _ _
            · refine alter_ite_s (fun _ => ?_) (fun _ => ?_)
              · refine Alter.step ?_ (alter_queWriteReg ..) rfl
                exact Alter.refl _ _
              · refine alter_ite_s (fun _ => ?_) (fun _ => ?_)
                · refine Alter.step ?_ (alter_engWrite ..) rfl
                  exact Alter.refl _ _
                · refine alter_ite_s (fun _ => ?_) (fun _ => ?_)
                  · refine Alter.step ?_ (alter_pedalWrite ..) rfl
                    exact Alter.refl _ _
                  · refine alter_ite_s (fun _ => ?_) (fun _ => ?_)
                    · refine Alter.step ?_ (alter_plcWrite ..) rfl
                      exact Alter.refl _ _
                    · refine alter_ite_s (fun _ => ?_) (fun _ => ?_)
                      · refine Alter.step ?_ (alter_trxWrite ..) rfl
                        exact Alter.refl _ _
                      · refine alter_ite_s (fun _ => ?_) (fun _ => ?_)
                        · refine Alter.step ?_ (alter_dclWrite ..) rfl
                          exact Alter.refl _ _
                        · refine alter_ite_s (fun _ => ?_) (fun _ => ?_)
                          · refine Alter.step ?_ (alter_chgWrite ..) rfl
                            exact Alter.refl _ _
                          · refine alter_ite_s (fun _ => ?_) (fun _ => ?_)
                            · refine Alter.step ?_ (alter_actWrite ..) rfl
                              exact Alter.refl _ _
                            · refine alter_ite_s (fun _ => ?_) (fun _ => ?_)
                              · refine Alter.step ?_ (alter_lifeWrite ..) rfl
                                exact Alter.refl _ _
                              · refine alter_ite_s (fun _ => ?_) (fun _ => ?_)
                                · refine Alter.step ?_ (alter_glvWrite (hg := hg) ..) rfl
                                  exact Alter.refl _ _
                                · refine alter_ite_s (fun _ => ?_) (fun _ => ?_)
                                  · refine Alter.step ?_ (alter_canWrite ..) rfl
                                    exact Alter.refl _ _
                                  · refine alter_ite_s (fun _ => ?_) (fun _ => ?_)
                                    · refine Alter.step ?_ (alter_stoWrite ..) rfl
                                      exact Alter.refl _ _
                                    · refine alter_ite_s (fun _ => ?_) (fun _ => ?_)
                                      · refine Alter.step ?_ (alter_pairWrite ..) rfl
                                        exact Alter.refl _ _
                                      · refine Alter.step ?_ (alter_Wr_accept ..) rfl
                                        exact Alter.refl _ _

end Sys2Proof.Machine
end

