-- ==== Sys2Proof/Laws/Packet.lean ====
section
/-! SUPPORT. What each operation of `Sys2Proof.Machine.Packet` may change (`Alter`), one lemma an operation; for a command,
that it answers a next state (`Ends`). -/

namespace Sys2Proof.Machine

theorem alter_writeItem (stepGo : State → State) (r : Req) (alone : Bool) (it : Item) (s : State) (hg : ∀ x, Alter 5192296858534809181786422619668479 x (stepGo x)) : Alter 5192296858534809181786422619668479 s (writeItem stepGo r alone it s).o.s := by
  unfold writeItem
  refine alter_ite_item (fun _ => ?_) (fun _ => ?_)
  · dsimp only
    refine Alter.step ?_ (alter_WOut_refuse ..) rfl
    exact Alter.refl _ _
  · split
    · rename_i z1 z2
      dsimp only
      refine Alter.step ?_ (alter_WOut_refuse ..) rfl
      exact Alter.refl _ _
    · rename_i z3 z4 z5
      refine alter_ite_item (fun _ => ?_) (fun _ => ?_)
      · dsimp only
        refine Alter.step ?_ (alter_WOut_refuse ..) rfl
        exact Alter.refl _ _
      · extract_lets +onlyGivenNames x6
        subst x6
        extract_lets +onlyGivenNames x7
        subst x7
        extract_lets +onlyGivenNames x8
        subst x8
        extract_lets +onlyGivenNames x9
        subst x9
        extract_lets +onlyGivenNames x10
        subst x10
        refine alter_ite_item (fun _ => ?_) (fun _ => ?_)
        · dsimp only
          refine Alter.step ?_ (alter_WOut_refuse ..) rfl
          exact Alter.refl _ _
        · extract_lets +onlyGivenNames x11
          subst x11
          extract_lets +onlyGivenNames x12
          subst x12
          extract_lets +onlyGivenNames x13
          subst x13
          extract_lets +onlyGivenNames x14
          subst x14
          refine alter_ite_item (fun _ => ?_) (fun _ => ?_)
          · dsimp only
            refine alter_ite_s (fun _ => ?_) (fun _ => ?_)
            · dsimp only
              exact Alter.refl _ _
            · refine Alter.step ?_ (alter_regWrite (hg := hg) ..) rfl
              exact Alter.refl _ _
          · refine alter_ite_item (fun _ => ?_) (fun _ => ?_)
            · dsimp only
              refine Alter.step ?_ (alter_WOut_refuse ..) rfl
              exact Alter.refl _ _
            · refine alter_ite_item (fun _ => ?_) (fun _ => ?_)
              · dsimp only
                refine alter_ite_s (fun _ => ?_) (fun _ => ?_)
                · dsimp only
                  exact Alter.refl _ _
                · refine Alter.step ?_ (alter_regWrite (hg := hg) ..) rfl
                  exact Alter.refl _ _
              · extract_lets +onlyGivenNames x15
                subst x15
                refine alter_ite_item (fun _ => ?_) (fun _ => ?_)
                · dsimp only
                  exact Alter.refl _ _
                · refine alter_ite_item (fun _ => ?_) (fun _ => ?_)
                  · extract_lets +onlyGivenNames x16
                    subst x16
                    dsimp only
                    refine Alter.step ?_ (alter_auditAdd ..) rfl
                    refine alter_ite_s (fun _ => ?_) (fun _ => ?_)
                    · dsimp only
                      exact Alter.refl _ _
                    · refine Alter.step ?_ (alter_regWrite (hg := hg) ..) rfl
                      exact Alter.refl _ _
                  · dsimp only
                    refine alter_ite_s (fun _ => ?_) (fun _ => ?_)
                    · dsimp only
                      exact Alter.refl _ _
                    · refine Alter.step ?_ (alter_regWrite (hg := hg) ..) rfl
                      exact Alter.refl _ _

theorem alter_runItems (stepGo : State → State) (r : Req) (alone : Bool) (l : List Item) (k : Nat) (x : ItemsRun)
    (hg : ∀ x, Alter 5192296858534809181786422619668479 x (stepGo x)) : Alter 5192296858534809181786422619668479 x.s (runItems stepGo r alone l k x).s := by
  induction l generalizing k x with
  | nil => exact Alter.refl _ _
  | cons it l ih =>
    unfold runItems
    have h : Alter 5192296858534809181786422619668479 x.s (writeItem stepGo r alone it x.s).o.s := alter_writeItem (hg := hg) ..
    revert h
    generalize writeItem stepGo r alone it x.s = y
    intro h
    dsimp only
    split
    · exact h.and (ih (k + 1) { x with s := y.o.s, olds := x.olds ++ [y.old], st := if y.o.st = St.ok then x.st else y.o.st })
    · exact ih (k + 1) ⟨x.s, x.olds, x.st, x.bad ++ [(k, y.o.lv, y.o.st)], x.denied ++ y.entry.toList, _⟩

theorem alter_auditRefused (s : State) : Alter 132373835472939742396416 s (auditRefused s) := by
  unfold auditRefused
  extract_lets +onlyGivenNames x1
  have h2 : Alter 132373835472939742396416 s x1 := by
    unfold x1
    refine Alter.step ?_ (alter_setBit ..) (by decide)
    exact Alter.refl _ _
  clear_value x1
  refine alter_ite (fun _ => ?_) (fun _ => ?_)
  · assumption
  · refine Alter.step ?_ (alter_raise ..) rfl
    refine Alter.step ?_ (alter_audit _ _ rfl) rfl
    assumption

theorem alter_Ran_refuse (st : Nat) (s : State) (payload : optParam (List Byte) []) : Alter 0 s (Ran.refuse st s payload).s := by
  unfold Ran.refuse
  dsimp only
  exact Alter.refl _ _

theorem alter_writePacket (stepGo : State → State) (r : Req) (items : List Item) (olds : Bool) (s : State)
    (hg : ∀ x, Alter 5192296858534809181786422619668479 x (stepGo x)) : Alter 5192296858534809181786422619668479 s (writePacket stepGo r items olds s).s := by
  unfold writePacket
  have h : Alter 5192296858534809181786422619668479 s (runItems stepGo r (items.length == 1) items 0 { s := s }).s :=
    alter_runItems stepGo r _ items 0 { s := s } hg
  revert h
  generalize runItems stepGo r (items.length == 1) items 0 { s := s } = x
  intro h
  dsimp only
  split
  · dsimp only
    split
    · exact h
    · exact Alter.step h (alter_audit _ _ rfl) rfl
  · rename_i k lv st _
    unfold Ran.refuse
    dsimp only
    have h1 : Alter 5192296858534809181786422619668479 s (if st = St.denied then forEach x.denied (fun e s => s.auditAdd e) s else s) := by
      split
      · exact (Alter.refl _ _).and (alter_forEach _ _ _ fun _ _ => (alter_auditAdd ..).mono rfl)
      · exact Alter.refl _ _
    revert h1
    generalize (if st = St.denied then forEach x.denied (fun e s => s.auditAdd e) s else s) = s1
    intro h1
    have h2 : Alter 5192296858534809181786422619668479 s (if lv = 11 then auditRefused s1 else s1) := by
      split
      · exact h1.step (alter_auditRefused ..) rfl
      · exact h1
    revert h2
    generalize (if lv = 11 then auditRefused s1 else s1) = s2
    intro h2
    repeat' split
    all_goals first | exact h2 | exact h2.step (alter_applyRefused ..) rfl

theorem alter_readPacket (r : Req) (l : List Nat) (s : State) : Alter 302674176761426322915328 s (readPacket r l s).s := by
  unfold readPacket
  split
  · rename_i e
    exact alter_readList _ _ _ _ _ _ e
  · exact Alter.refl _ _

theorem alter_sessionEnd (n why : Nat) (s : State) : Alter 81129644592790206862596327342080 s (sessionEnd n why s) := by
  unfold sessionEnd
  split
  · exact Alter.refl _ _
  · rename_i x e
    extract_lets s1 s2 s3 s4
    have h1 : Alter 81129644592790206862596327342080 s s1 := by
      unfold s1
      refine (alter_sessions s _ fun v => ⟨AMap.rising_del _ _ _ v.order, ?_⟩).mono rfl
      exact Nat.le_trans (AMap.length_del_le _ _) v.four
    clear_value s1
    split
    · exact h1
    · have h4 : Alter 81129644592790206862596327342080 s s4 := by
        unfold s4 s3 s2
        split
        · exact ((h1.step (alter_raise ..) rfl).step (alter_auditAdd ..) rfl).step (alter_setBit ..) (rm_high (by decide) rfl)
        · exact (h1.step (alter_raise ..) rfl).step (alter_auditAdd ..) rfl
      clear_value s4
      split
      · exact h4.step (alter_serviceEnds ..) rfl
      · exact h4

theorem alter_sessionOpen (r : Req) (s : State) : Alter 1247147473335355365654528 s (sessionOpen r s).s := by
  unfold sessionOpen
  extract_lets lock
  refine alter_ite_ran (fun _ => Alter.refl _ _) (fun _ => alter_ite_ran (fun _ => ?_) (fun _ =>
    alter_ite_ran (fun _ => Alter.refl _ _) (fun h => ?_)))
  · exact (alter_auditAdd ..).mono rfl
  · extract_lets n
    have hd : Alter 1247147473335355365654528 s (s.draw 128).2 := (alter_draw ..).mono rfl
    have hn : (s.draw 128).2.sessions = s.sessions := rfl
    revert hd hn
    generalize s.draw 128 = d
    obtain ⟨nonce, s1⟩ := d
    intro hd hn
    dsimp only at hd hn ⊢
    refine hd.step (alter_sessions s1 _ fun v => ⟨AMap.rising_ins _ _ _ _ (Nat.zero_le _) v.order, ?_⟩) rfl
    refine Nat.le_trans (AMap.length_ins_le _ _ _) ?_
    rw [hn]
    omega

theorem alter_authFailed (r : Req) (s : State) : Alter 2550225474702198091808768 s (authFailed r s) := by
  unfold authFailed
  extract_lets +onlyGivenNames x1
  have h2 : Alter 2550225474702198091808768 s x1 := by
    unfold x1
    refine Alter.step ?_ (alter_setBit ..) (by decide)
    refine Alter.step ?_ (alter_incFld ..) (by decide)
    exact Alter.refl _ _
  clear_value x1
  extract_lets +onlyGivenNames x3
  have h4 : Alter 2550225474702198091808768 s x3 := by
    unfold x3
    refine Alter.step ?_ (alter_auditAdd ..) rfl
    refine Alter.step ?_ (alter_raise ..) rfl
    assumption
  clear_value x3
  extract_lets +onlyGivenNames x5
  subst x5
  extract_lets +onlyGivenNames x6
  subst x6
  extract_lets +onlyGivenNames x7
  subst x7
  refine alter_ite (fun _ => ?_) (fun _ => ?_)
  · refine Alter.step ?_ (alter_setBit ..) (by decide)
    refine Alter.step ?_ (alter_lockouts _ _) rfl
    assumption
  · refine Alter.step ?_ (alter_lockouts _ _) rfl
    assumption

theorem alter_sessionAuth (r : Req) (resp : List Byte) (s : State) : Alter 81129647010641846091854676754432 s (sessionAuth r resp s).s := by
  unfold sessionAuth
  extract_lets n good
  split
  · rename_i x e1 e2
    dsimp only
    refine Alter.step ?_ (alter_auditAdd ..) rfl
    refine Alter.step ?_ (alter_raise ..) rfl
    refine (alter_sessions s _ fun v => ⟨AMap.rising_ins _ _ _ _ (Nat.zero_le _) v.order, ?_⟩).mono rfl
    rw [AMap.length_ins_of_get? _ _ _ _ _ v.order e2]
    exact v.four
  · exact ((alter_sessionEnd ..).mono rfl).step (alter_authFailed ..) rfl

theorem alter_keyProgram (key : List Byte) (crc : Nat) (s : State) : Alter 19342813113834066795298816 s (keyProgram key crc s).s := by
  unfold keyProgram
  refine alter_ite_ran (fun _ => ?_) (fun _ => ?_)
  · refine Alter.step ?_ (alter_Ran_refuse ..) rfl
    exact Alter.refl _ _
  · refine alter_ite_ran (fun _ => ?_) (fun _ => ?_)
    · refine Alter.step ?_ (alter_Ran_refuse ..) rfl
      exact Alter.refl _ _
    · refine alter_ite_ran (fun _ => ?_) (fun _ => ?_)
      · refine Alter.step ?_ (alter_Ran_refuse ..) rfl
        exact Alter.refl _ _
      · dsimp only
        refine Alter.step ?_ (alter_key _ _) rfl
        exact Alter.refl _ _

theorem alter_resetOp (r : Req) (guard : Nat) (s : State) : Alter 590295810358705651712 s (resetOp r guard s).s := by
  unfold resetOp
  refine alter_ite_ran (fun _ => ?_) (fun _ => ?_)
  · refine Alter.step ?_ (alter_Ran_refuse ..) rfl
    exact Alter.refl _ _
  · refine alter_ite_ran (fun _ => ?_) (fun _ => ?_)
    · refine Alter.step ?_ (alter_Ran_refuse ..) rfl
      exact Alter.refl _ _
    · refine alter_ite_ran (fun _ => ?_) (fun _ => ?_)
      · refine Alter.step ?_ (alter_Ran_refuse ..) rfl
        exact Alter.refl _ _
      · dsimp only
        refine Alter.step ?_ (alter_boot _ _) rfl
        exact Alter.refl _ _

theorem alter_queueRead (s : State) (q : Nat) (skip : Nat) (c : Nat) : Alter 0 s (queueRead s q skip c).s := by
  unfold queueRead
  refine alter_ite_ran (fun _ => ?_) (fun _ => ?_)
  · refine Alter.step ?_ (alter_Ran_refuse ..) rfl
    exact Alter.refl _ _
  · dsimp only
    exact Alter.refl _ _

theorem alter_Ran_query (p : Reply) (s : State) : Alter 0 s (Ran.query p s).s := by
  unfold Ran.query
  dsimp only
  exact Alter.refl _ _

theorem alter_opRun (stepGo : State → State) (r : Req) (op : Op) (s : State) (hg : ∀ x, Alter 5192296858534809181786422619668479 x (stepGo x)) : Alter 5192296858534809181786422619668479 s (opRun stepGo r op s).s := by
  unfold opRun
  refine alter_ite_ran (fun _ => ?_) (fun _ => ?_)
  · refine Alter.step ?_ (alter_Ran_refuse ..) rfl
    exact Alter.refl _ _
  · split
    · rename_i z1 z2 z3
      dsimp only
      exact Alter.refl _ _
    · rename_i z4 z5 z6
      refine Alter.step ?_ (alter_readPacket ..) rfl
      exact Alter.refl _ _
    · rename_i z7 z8 z9 z10
      refine Alter.step ?_ (alter_readPacket ..) rfl
      exact Alter.refl _ _
    · rename_i z11 z12 z13
      refine Alter.step ?_ (alter_writePacket (hg := hg) ..) rfl
      exact Alter.refl _ _
    · rename_i z14 z15 z16 z17
      refine Alter.step ?_ (alter_writePacket (hg := hg) ..) rfl
      exact Alter.refl _ _
    · rename_i z18 z19 z20
      refine Alter.step ?_ (alter_writePacket (hg := hg) ..) rfl
      exact Alter.refl _ _
    · rename_i z21 z22 z23
      refine alter_ite_ran (fun _ => ?_) (fun _ => ?_)
      · dsimp only
        exact Alter.refl _ _
      · extract_lets +onlyGivenNames x24
        subst x24
        dsimp only
        refine Alter.step ?_ (alter_modeRequest ..) rfl
        exact Alter.refl _ _
    · rename_i z25 z26
      dsimp only
      exact Alter.refl _ _
    · rename_i z27 z28 z29
      refine Alter.step ?_ (alter_resetOp ..) rfl
      exact Alter.refl _ _
    · rename_i z30 z31
      refine Alter.step ?_ (alter_sessionOpen ..) rfl
      exact Alter.refl _ _
    · rename_i z32 z33 z34
      refine Alter.step ?_ (alter_sessionAuth ..) rfl
      exact Alter.refl _ _
    · rename_i z35 z36
      dsimp only
      refine Alter.step ?_ (alter_sessionEnd ..) rfl
      exact Alter.refl _ _
    · rename_i z37 z38 z39 z40
      refine Alter.step ?_ (alter_keyProgram ..) rfl
      exact Alter.refl _ _
    · rename_i z41 z42 z43 z44 z45
      refine Alter.step ?_ (alter_queueRead ..) rfl
      exact Alter.refl _ _
    · rename_i z46 z47 z48 z49
      refine Alter.step ?_ (alter_Ran_query ..) rfl
      exact Alter.refl _ _
    · rename_i z50 z51 z52 z53
      refine Alter.step ?_ (alter_Ran_query ..) rfl
      exact Alter.refl _ _
    · rename_i z54 z55 z56
      refine alter_Ran_priv _ _ _ ?_ ?_
      · beta_reduce
        exact Alter.refl _ _
      · beta_reduce
        refine Alter.step ?_ (alter_updBegin ..) rfl
        exact Alter.refl _ _
    · rename_i z57 z58 z59 z60 z61
      refine alter_Ran_priv _ _ _ ?_ ?_
      · beta_reduce
        exact Alter.refl _ _
      · beta_reduce
        refine Alter.step ?_ (alter_updBlock ..) rfl
        exact Alter.refl _ _
    · rename_i z62 z63
      refine alter_Ran_priv _ _ _ ?_ ?_
      · beta_reduce
        exact Alter.refl _ _
      · beta_reduce
        refine Alter.step ?_ (alter_updCheck ..) rfl
        exact Alter.refl _ _
    · rename_i z64 z65
      refine alter_Ran_priv _ _ _ ?_ ?_
      · beta_reduce
        exact Alter.refl _ _
      · beta_reduce
        refine Alter.step ?_ (alter_updActivate ..) rfl
        exact Alter.refl _ _
    · rename_i z66 z67
      refine alter_Ran_priv _ _ _ ?_ ?_
      · beta_reduce
        exact Alter.refl _ _
      · beta_reduce
        refine Alter.step ?_ (alter_updConfirm ..) rfl
        exact Alter.refl _ _
    · rename_i z68 z69
      refine alter_Ran_priv _ _ _ ?_ ?_
      · beta_reduce
        exact Alter.refl _ _
      · beta_reduce
        refine Alter.step ?_ (alter_updAbort ..) rfl
        exact Alter.refl _ _
    · rename_i z70 z71
      extract_lets +onlyGivenNames x72
      subst x72
      dsimp only
      refine Alter.step ?_ (alter_recTrigger ..) rfl
      exact Alter.refl _ _
    · rename_i z73 z74 z75 z76
      refine Alter.step ?_ (alter_Ran_query ..) rfl
      exact Alter.refl _ _
    · rename_i z77 z78 z79 z80 z81
      refine Alter.step ?_ (alter_Ran_query ..) rfl
      exact Alter.refl _ _

end Sys2Proof.Machine
end

