-- ==== Sys2Proof/Laws/Ports.lean ====
section
/-! SUPPORT. What each operation of `Sys2Proof.Machine.Ports` may change (`Alter`), one lemma an operation; for a command,
that it answers a next state (`Ends`). -/

namespace Sys2Proof.Machine

theorem alter_setPort (k : Nat) (x : Port) (s : State) : Alter 151115727451828646838272 s (State.setPort k x s) := by
  unfold State.setPort
  refine Alter.step ?_ (alter_ports _ _) rfl
  exact Alter.refl _ _

theorem alter_putReply (k : Nat) (a : Ask) (b : List Byte) (s : State) : Alter 162259276980329090843406657126400 s (putReply k a b s) := by
  unfold putReply
  split
  · rename_i z1 z2 z3
    extract_lets +onlyGivenNames x4
    subst x4
    extract_lets +onlyGivenNames x5
    subst x5
    refine Alter.step ?_ (alter_setCan ..) rfl
    exact Alter.refl _ _
  · rename_i z6 z7
    refine Alter.step ?_ (alter_setPort ..) rfl
    exact Alter.refl _ _

theorem alter_answer (k : Nat) (a : Ask) (p : Reply) (exe : Bool) (s : State) : Alter 162259278793717820265350419185664 s (answer k a p exe s) := by
  unfold answer
  extract_lets x s1 l s2 s3
  have h1 : Alter 162259278793717820265350419185664 s s1 := by
    unfold s1
    exact (alter_setPort ..).mono rfl
  clear_value s1
  have h2 : Alter 162259278793717820265350419185664 s s2 := by
    unfold s2
    exact h1.step (alter_lastReq ..) rfl
  clear_value s2
  have h3 : Alter 162259278793717820265350419185664 s s3 := by
    unfold s3
    split
    · split
      · rename_i y e
        refine h2.step (alter_sessions s2 _ fun v => ⟨AMap.rising_ins _ _ _ _ (Nat.zero_le _) v.order, ?_⟩) rfl
        rw [AMap.length_ins_of_get? _ _ _ _ _ v.order e]
        exact v.four
      · exact h2
    · exact h1
  clear_value s3
  split
  · exact h3
  · exact h3.step (alter_putReply ..) rfl

theorem alter_markLost (k : Nat) (s : State) : Alter 151115727451828646838272 s (markLost k s) := by
  unfold markLost
  extract_lets +onlyGivenNames x1
  subst x1
  split
  · rename_i z2 z3 z4 z5
    refine Alter.step ?_ (alter_setPort ..) rfl
    exact Alter.refl _ _
  · rename_i z6 z7
    exact Alter.refl _ _

theorem alter_meets (o : Order) (l : List Order) (s : State) : Alter 81129638565722409147617651982336 s (meets o l s).1 := by
  induction l generalizing s with
  | nil => exact Alter.refl _ _
  | cons e l ih =>
    unfold meets
    split
    · exact ih _
    · split
      · exact ih _
      · extract_lets +onlyGivenNames earlier
        extract_lets +onlyGivenNames idx
        extract_lets +onlyGivenNames we
        extract_lets +onlyGivenNames wo
        extract_lets +onlyGivenNames old
        split
        · exact Alter.step ((alter_markLost _ s).mono rfl) (alter_glove _ _) rfl
        · extract_lets +onlyGivenNames held
          extract_lets +onlyGivenNames c2
          extract_lets +onlyGivenNames s1
          extract_lets +onlyGivenNames lost
          have h1 : Alter 81129638565722409147617651982336 s s1 := by
            unfold s1
            split
            · exact (alter_markLost ..).mono rfl
            · exact Alter.refl _ _
          clear_value s1
          exact (h1.step (alter_glove ..) rfl).and (ih _)

theorem alter_orderArrives (k : Nat) (a : Ask) (op : Op) (s : State) : Alter 81129638565722409147617651982336 s (orderArrives k a op s) := by
  unfold orderArrives
  split
  · rename_i z1 z2
    exact Alter.refl _ _
  · rename_i z3 z4
    extract_lets +onlyGivenNames x5
    subst x5
    extract_lets +onlyGivenNames x6
    subst x6
    split
    · rename_i z7 z8 z9 z10
      have h11 : Alter 81129638565722409147617651982336 s z8 := by
        refine (congrArg (Alter _ _) (congrArg (Prod.fst) z10)).mp ?_
        refine Alter.step ?_ (alter_meets ..) rfl
        refine Alter.step ?_ (alter_glove _ _) rfl
        exact Alter.refl _ _
      refine alter_ite (fun _ => ?_) (fun _ => ?_)
      · refine Alter.step ?_ (alter_glove _ _) rfl
        assumption
      · assumption

theorem alter_reportConflict (c : Conflict) (s : State) : Alter 132373835472939742396416 s (reportConflict c s) := by
  unfold reportConflict
  extract_lets +onlyGivenNames x1
  have h2 : Alter 132373835472939742396416 s x1 := by
    unfold x1
    refine Alter.step ?_ (alter_auditAdd ..) rfl
    exact Alter.refl _ _
  clear_value x1
  extract_lets +onlyGivenNames x3
  have h4 : Alter 132373835472939742396416 s x3 := by
    unfold x3
    refine Alter.step ?_ (alter_auditAdd ..) rfl
    assumption
  clear_value x3
  extract_lets +onlyGivenNames x5
  subst x5
  extract_lets +onlyGivenNames x6
  subst x6
  extract_lets +onlyGivenNames x7
  have h8 : Alter 132373835472939742396416 s x7 := by
    unfold x7
    refine Alter.step ?_ (alter_setFld ..) (by decide)
    refine Alter.step ?_ (alter_setFld ..) (by decide)
    assumption
  clear_value x7
  extract_lets +onlyGivenNames x9
  have h10 : Alter 132373835472939742396416 s x9 := by
    unfold x9
    refine Alter.step ?_ (alter_setFld ..) (by decide)
    refine Alter.step ?_ (alter_setFld ..) (by decide)
    assumption
  clear_value x9
  refine Alter.step ?_ (alter_raise ..) rfl
  refine Alter.step ?_ (alter_setBit ..) (by decide)
  assumption

theorem alter_reportConflicts (k : Nat) (seq : Nat) (s : State) : Alter 81129638546980517168728747540480 s (reportConflicts k seq s) := by
  unfold reportConflicts
  split
  · rename_i z1 z2 z3 z4
    refine Alter.and ?_ (alter_forEach _ _ _ ?_)
    · refine Alter.step ?_ (alter_glove _ _) rfl
      exact Alter.refl _ _
    · intro a5 b6
      beta_reduce
      refine Alter.step ?_ (alter_reportConflict ..) rfl
      exact Alter.refl _ _

theorem alter_toGlove (stepGo : State → State) (k : Nat) (a : Ask) (op : Op) (s : State)
    (hg : ∀ x, Alter 5192296858534809181786422619668479 x (stepGo x)) :
    match toGlove stepGo k a op s with
    | .reply _ _ t => Alter 5192296858534809181786422619668479 s t
    | .wait t => Alter 5192296858534809181786422619668479 s t := by
  unfold toGlove
  extract_lets x
  have h : Alter 5192296858534809181786422619668479 s x.s := by
    unfold x
    split <;> first | exact Alter.refl _ _ | exact alter_opRun (hg := hg) ..
  clear_value x
  by_cases c : (!x.exe || !doneStatus x.reply.status) = true
  · rw [if_pos c]; exact h
  · rw [if_neg c]
    by_cases d : s.bit R.GLV_STAT F.GLV_STAT.HALTED = true
    · rw [if_pos d]; exact Alter.refl _ _
    · rw [if_neg d]
      refine Alter.step ?_ (alter_orderArrives ..) rfl
      refine Alter.step ?_ (alter_jWrite ..) rfl
      exact (alter_setPort ..).mono rfl

theorem alter_decideAsk (stepGo : State → State) (k : Nat) (a : Ask) (s : State)
    (hg : ∀ x, Alter 5192296858534809181786422619668479 x (stepGo x)) :
    match decideAsk stepGo k a s with
    | .reply _ _ t => Alter 5192296858534809181786422619668479 s t
    | .wait t => Alter 5192296858534809181786422619668479 s t := by
  unfold decideAsk
  extract_lets no
  refine verdict_ite (P := fun v => match v with
        | .reply _ _ t => Alter 5192296858534809181786422619668479 s t
        | .wait t => Alter 5192296858534809181786422619668479 s t) (fun _ => ?_) (fun _ => ?_)
  · exact Alter.refl _ _
  generalize repeated s k a = q
  cases q with
  | some p => exact Alter.refl _ _
  | none =>
    refine verdict_ite (P := fun v => match v with
        | .reply _ _ t => Alter 5192296858534809181786422619668479 s t
        | .wait t => Alter 5192296858534809181786422619668479 s t) (fun _ => ?_) (fun _ => ?_)
    · exact Alter.refl _ _
    refine verdict_ite (P := fun v => match v with
        | .reply _ _ t => Alter 5192296858534809181786422619668479 s t
        | .wait t => Alter 5192296858534809181786422619668479 s t) (fun _ => ?_) (fun _ => ?_)
    · exact Alter.refl _ _
    refine verdict_ite (P := fun v => match v with
        | .reply _ _ t => Alter 5192296858534809181786422619668479 s t
        | .wait t => Alter 5192296858534809181786422619668479 s t) (fun _ => ?_) (fun _ => ?_)
    · exact Alter.refl _ _
    refine verdict_ite (P := fun v => match v with
        | .reply _ _ t => Alter 5192296858534809181786422619668479 s t
        | .wait t => Alter 5192296858534809181786422619668479 s t) (fun _ => ?_) (fun _ => ?_)
    · exact Alter.refl _ _
    generalize a.op = q
    cases q with
    | none => exact Alter.refl _ _
    | some op =>
      refine verdict_ite (P := fun v => match v with
        | .reply _ _ t => Alter 5192296858534809181786422619668479 s t
        | .wait t => Alter 5192296858534809181786422619668479 s t) (fun _ => ?_) (fun _ => ?_)
      · exact Alter.refl _ _
      refine verdict_ite (P := fun v => match v with
        | .reply _ _ t => Alter 5192296858534809181786422619668479 s t
        | .wait t => Alter 5192296858534809181786422619668479 s t) (fun _ => ?_) (fun _ => ?_)
      · exact Alter.refl _ _
      refine verdict_ite (P := fun v => match v with
        | .reply _ _ t => Alter 5192296858534809181786422619668479 s t
        | .wait t => Alter 5192296858534809181786422619668479 s t) (fun _ => ?_) (fun _ => ?_)
      · exact alter_toGlove _ _ _ _ _ hg
      exact alter_opRun (hg := hg) ..

theorem alter_pump (stepGo : State → State) (n k : Nat) (s : State)
    (hg : ∀ x, Alter 5192296858534809181786422619668479 x (stepGo x)) : Alter 5192296858534809181786422619668479 s (pump stepGo n k s) := by
  induction n generalizing s with
  | zero => exact Alter.refl _ _
  | succ n ih =>
    unfold pump
    extract_lets p
    split
    · exact Alter.refl _ _
    · split
      · exact Alter.refl _ _
      · rename_i a _ _
        have h := alter_decideAsk stepGo k a s hg
        split
        · rename_i e
          rw [e] at h
          exact (h.step (alter_answer ..) rfl).and (ih _)
        · rename_i e
          rw [e] at h
          exact h

theorem alter_askReleased (stepGo : State → State) (k : Nat) (s : State) (hg : ∀ x, Alter 5192296858534809181786422619668479 x (stepGo x)) :
    Alter 5192296858534809181786422619668479 s (askReleased stepGo k s) := by
  unfold askReleased
  extract_lets p
  split
  · rename_i a _ _ _
    have h1 : Alter 5192296858534809181786422619668479 s (reportConflicts k a.req.seq s) := (alter_reportConflicts ..).mono rfl
    revert h1
    generalize reportConflicts k a.req.seq s = s1
    intro h1
    refine Alter.and ?_ (alter_pump (hg := hg) ..)
    split
    · exact h1.step (alter_answer ..) rfl
    · exact (h1.and (alter_opRun (hg := fun x => Alter.refl _ x) ..)).step (alter_answer ..) rfl
    · exact h1.step (alter_answer ..) rfl
  · exact Alter.refl _ _

theorem alter_askDropped (k : Nat) (s : State) : Alter 81129638565722409147617651982336 s (askDropped k s) := by
  unfold askDropped
  extract_lets +onlyGivenNames x1
  subst x1
  refine alter_ite (fun _ => ?_) (fun _ => ?_)
  · extract_lets +onlyGivenNames x2
    subst x2
    extract_lets +onlyGivenNames x3
    subst x3
    extract_lets +onlyGivenNames x4
    have h5 : Alter 81129638565722409147617651982336 s x4 := by
      unfold x4
      refine Alter.step ?_ (alter_setPort ..) rfl
      exact Alter.refl _ _
    clear_value x4
    refine Alter.step ?_ (alter_glove _ _) rfl
    assumption
  · exact Alter.refl _ _

theorem alter_dropAsk (k : Nat) (s : State) : Alter 245710631061811227525120 s (dropAsk k s) := by
  unfold dropAsk
  extract_lets +onlyGivenNames x1
  subst x1
  extract_lets +onlyGivenNames x2
  have h3 : Alter 245710631061811227525120 s x2 := by
    unfold x2
    split
    · rename_i z4 z5 z6
      refine Alter.step ?_ (alter_incFld ..) (rm_high (by simp only [R.CAN_C_RXSTAT]; omega) rfl)
      exact Alter.refl _ _
    · rename_i z7 z8
      refine Alter.step ?_ (alter_incFld ..) (rm_high (by simp only [R.CMD_PORT_STAT]; omega) rfl)
      exact Alter.refl _ _
  clear_value x2
  extract_lets +onlyGivenNames x9
  have h10 : Alter 245710631061811227525120 s x9 := by
    unfold x9
    refine Alter.step ?_ (alter_setPort ..) rfl
    refine Alter.step ?_ (alter_setBit ..) (by decide)
    assumption
  clear_value x9
  refine alter_ite (fun _ => ?_) (fun _ => ?_)
  · assumption
  · refine Alter.step ?_ (alter_raise ..) rfl
    assumption

theorem alter_crcFailed (k : Nat) (s : State) : Alter 245710631061811227525120 s (crcFailed k s) := by
  unfold crcFailed
  extract_lets +onlyGivenNames x1
  have h2 : Alter 245710631061811227525120 s x1 := by
    unfold x1
    split
    · rename_i z3 z4 z5
      exact Alter.refl _ _
    · rename_i z6 z7
      refine Alter.step ?_ (alter_incFld ..) (rm_high (by simp only [R.CMD_PORT_STAT]; omega) rfl)
      exact Alter.refl _ _
  clear_value x1
  extract_lets +onlyGivenNames x8
  have h9 : Alter 245710631061811227525120 s x8 := by
    unfold x8
    refine Alter.step ?_ (alter_setBit ..) (by decide)
    assumption
  clear_value x8
  refine alter_ite (fun _ => ?_) (fun _ => ?_)
  · assumption
  · refine Alter.step ?_ (alter_raise ..) rfl
    refine Alter.step ?_ (alter_setPort ..) rfl
    assumption

theorem alter_askEnters (a : Ask) (s : State) : Alter 84166233096622979870116131373056 s (askEnters a s).2 := by
  unfold askEnters
  refine alter_ite_snd (fun _ => ?_) (fun _ => ?_)
  · dsimp only
    exact Alter.refl _ _
  · extract_lets +onlyGivenNames x1
    subst x1
    extract_lets +onlyGivenNames x2
    subst x2
    extract_lets +onlyGivenNames x3
    have h4 : Alter 84166233096622979870116131373056 s x3 := by
      unfold x3
      split
      · rename_i z5 z6 z7
        exact Alter.refl _ _
      · rename_i z8 z9
        refine Alter.step ?_ (alter_setFld ..) (rm_high (by simp only [R.CMD_PORT_STAT]; omega) rfl)
        exact Alter.refl _ _
    clear_value x3
    extract_lets +onlyGivenNames x10
    have h11 : Alter 84166233096622979870116131373056 s x10 := by
      unfold x10
      refine alter_ite (fun _ => ?_) (fun _ => ?_)
      · refine Alter.step ?_ (alter_enterSafe ..) rfl
        assumption
      · assumption
    clear_value x10
    refine alter_ite_snd (fun _ => ?_) (fun _ => ?_)
    · dsimp only
      refine Alter.step ?_ (alter_dropAsk ..) rfl
      assumption
    · extract_lets +onlyGivenNames x12
      subst x12
      extract_lets +onlyGivenNames x13
      have h14 : Alter 84166233096622979870116131373056 s x13 := by
        unfold x13
        refine Alter.step ?_ (alter_setPort ..) rfl
        assumption
      clear_value x13
      extract_lets +onlyGivenNames x15
      subst x15
      extract_lets +onlyGivenNames x16
      have h17 : Alter 84166233096622979870116131373056 s x16 := by
        unfold x16
        refine alter_ite (fun _ => ?_) (fun _ => ?_)
        · refine Alter.step ?_ (alter_crcFailed ..) rfl
          assumption
        · refine Alter.step ?_ (alter_setPort ..) rfl
          assumption
      clear_value x16
      extract_lets +onlyGivenNames x18
      subst x18
      dsimp only
      refine Alter.step ?_ (alter_setPort ..) rfl
      assumption

theorem alter_askArrives (stepGo : State → State) (a : Ask) (s : State) (hg : ∀ x, Alter 5192296858534809181786422619668479 x (stepGo x)) : Alter 5192296858534809181786422619668479 s (askArrives stepGo a s) := by
  unfold askArrives
  split
  · rename_i z1 z2 z3 z4
    have h5 : Alter 5192296858534809181786422619668479 s z3 := by
      refine (congrArg (Alter _ _) (congrArg (Prod.snd) z4)).mp ?_
      refine Alter.step ?_ (alter_askEnters ..) rfl
      exact Alter.refl _ _
    refine alter_ite (fun _ => ?_) (fun _ => ?_)
    · refine Alter.step ?_ (alter_pump (hg := hg) ..) rfl
      assumption
    · assumption

theorem alter_frameBegins (n : Nat) (s : State) : Alter 151115727451828646838272 s (frameBegins n s) := by
  unfold frameBegins
  extract_lets +onlyGivenNames x1
  subst x1
  refine Alter.step ?_ (alter_setPort ..) rfl
  exact Alter.refl _ _

theorem alter_fetchFrame (n : Nat) (whole : Bool) (s : State) : Alter 151115727451828646838272 s (fetchFrame n whole s) := by
  unfold fetchFrame
  refine alter_ite (fun _ => ?_) (fun _ => ?_)
  · exact Alter.refl _ _
  · extract_lets +onlyGivenNames x1
    subst x1
    extract_lets +onlyGivenNames x2
    have h3 : Alter 151115727451828646838272 s x2 := by
      unfold x2
      refine Alter.step ?_ (alter_frameBegins ..) rfl
      exact Alter.refl _ _
    clear_value x2
    extract_lets +onlyGivenNames x4
    subst x4
    refine Alter.step ?_ (alter_setPort ..) rfl
    assumption

theorem alter_frameArrives (stepGo : State → State) (n : Nat) (l : List Byte) (lost : Nat) (s : State) (hg : ∀ x, Alter 5192296858534809181786422619668479 x (stepGo x)) : Alter 5192296858534809181786422619668479 s (frameArrives stepGo n l lost s) := by
  unfold frameArrives
  refine alter_ite (fun _ => ?_) (fun _ => ?_)
  · refine Alter.step ?_ (alter_fetchFrame ..) rfl
    exact Alter.refl _ _
  · extract_lets +onlyGivenNames x1
    subst x1
    extract_lets +onlyGivenNames x2
    have h3 : Alter 5192296858534809181786422619668479 s x2 := by
      unfold x2
      refine alter_ite (fun _ => ?_) (fun _ => ?_)
      · refine Alter.step ?_ (alter_frameBegins ..) rfl
        refine Alter.step ?_ (alter_fifoMetN ..) rfl
        exact Alter.refl _ _
      · exact Alter.refl _ _
    clear_value x2
    refine Alter.step ?_ (alter_askArrives (hg := hg) ..) rfl
    assumption

theorem alter_askNow (stepGo : State → State) (k : Nat) (a : Ask) (s : State)
    (hg : ∀ x, Alter 5192296858534809181786422619668479 x (stepGo x)) : Alter 5192296858534809181786422619668479 s (askNow stepGo k a s) := by
  unfold askNow
  have h := alter_decideAsk stepGo k a s hg
  split
  · rename_i e
    rw [e] at h
    exact h.step (alter_answer ..) rfl
  · split
    · exact (alter_opRun (hg := hg) ..).step (alter_answer ..) rfl
    · exact Alter.refl _ _

theorem alter_hostOp (stepGo : State → State) (r : Req) (op : Op) (s : State) (hg : ∀ x, Alter 5192296858534809181786422619668479 x (stepGo x)) : Alter 5192296858534809181786422619668479 s (hostOp stepGo r op s) := by
  unfold hostOp
  extract_lets +onlyGivenNames x1
  subst x1
  extract_lets +onlyGivenNames x2
  subst x2
  refine alter_ite (fun _ => ?_) (fun _ => ?_)
  · refine Alter.step ?_ (alter_askArrives (hg := hg) ..) rfl
    exact Alter.refl _ _
  · split
    · rename_i z3 z4 z5 z6
      have h7 : Alter 5192296858534809181786422619668479 s z5 := by
        refine (congrArg (Alter _ _) (congrArg (Prod.snd) z6)).mp ?_
        refine Alter.step ?_ (alter_askEnters ..) rfl
        exact Alter.refl _ _
      refine alter_ite (fun _ => ?_) (fun _ => ?_)
      · refine Alter.step ?_ (alter_askNow (hg := hg) ..) rfl
        assumption
      · assumption

theorem alter_sessionTimeout (n : Nat) (s : State) : Alter 81129644592900887327038584651776 s (sessionTimeout n s) := by
  unfold sessionTimeout
  split
  · rename_i z1 z2 z3
    refine alter_ite (fun _ => ?_) (fun _ => ?_)
    · refine Alter.step ?_ (alter_sessionEnd ..) rfl
      refine Alter.step ?_ (alter_until ..) rfl
      exact Alter.refl _ _
    · exact Alter.refl _ _
  · rename_i z4 z5
    exact Alter.refl _ _

theorem alter_execSessionTimeout (e : Nat) (n : Fin 255) (s : State) : Ends 81129644592900887327038584651776 s (execSessionTimeout e n s) := by
  unfold execSessionTimeout
  refine ends_next ?_
  refine Alter.step ?_ (alter_sessionTimeout ..) rfl
  refine Alter.step ?_ (alter_tick ..) rfl
  exact Alter.refl _ _

theorem alter_lockoutEnd (k : Nat) (s : State) : Alter 2417962319693700606722048 s (lockoutEnd k s) := by
  unfold lockoutEnd
  split
  · rename_i z1 z2 z3
    refine alter_ite (fun _ => ?_) (fun _ => ?_)
    · exact Alter.refl _ _
    · extract_lets +onlyGivenNames x4
      have h5 : Alter 2417962319693700606722048 s x4 := by
        unfold x4
        refine Alter.step ?_ (alter_until ..) rfl
        exact Alter.refl _ _
      clear_value x4
      refine Alter.step ?_ (alter_lockouts _ _) rfl
      assumption
  · rename_i z6 z7
    exact Alter.refl _ _

theorem alter_execLockoutEnd (e : Nat) (origin : Fin 6) (node : Fin 256) (s : State) : Ends 2417962319693700606722048 s (execLockoutEnd e origin node s) := by
  unfold execLockoutEnd
  refine ends_next ?_
  refine Alter.step ?_ (alter_lockoutEnd ..) rfl
  refine Alter.step ?_ (alter_tick ..) rfl
  exact Alter.refl _ _

theorem alter_execFetchFrame (e : Nat) (n : Fin 2) (whole : Bool) (s : State) : Ends 151226407916270904147968 s (execFetchFrame e n whole s) := by
  unfold execFetchFrame
  refine ends_next ?_
  refine Alter.step ?_ (alter_fetchFrame ..) rfl
  refine Alter.step ?_ (alter_tick ..) rfl
  exact Alter.refl _ _

end Sys2Proof.Machine
end

