-- ==== Sys2Proof/Laws/Tunnel.lean ====
section
/-! SUPPORT. What each operation of `Sys2Proof.Machine.Tunnel` may change (`Alter`), one lemma an operation; for a command,
that it answers a next state (`Ends`). -/

namespace Sys2Proof.Machine

theorem alter_tunError (c : Nat) (s : State) : Alter 94594903609982580686848 s (tunError c s) := by
  unfold tunError
  refine Alter.step ?_ (alter_raise ..) rfl
  refine Alter.step ?_ (alter_canFlag ..) rfl
  refine Alter.step ?_ (alter_incFld ..) (rm_high (by simp only [R.CAN_C_STAT]; omega) rfl)
  exact Alter.refl _ _

theorem alter_tunClose (c : Nat) (node : Nat) (s : State) : Alter 162259276829213363391578010288128 s (tunClose c node s) := by
  unfold tunClose
  extract_lets +onlyGivenNames x1
  subst x1
  refine Alter.step ?_ (alter_setCan ..) rfl
  exact Alter.refl _ _

theorem alter_tunFed (stepGo : State → State) (c : Nat) (t : TunIn) (s : State) (hg : ∀ x, Alter 5192296858534809181786422619668479 x (stepGo x)) : Alter 5192296858534809181786422619668479 s (tunFed stepGo c t s) := by
  unfold tunFed
  extract_lets +onlyGivenNames x1
  subst x1
  extract_lets +onlyGivenNames x2
  have h3 : Alter 5192296858534809181786422619668479 s x2 := by
    unfold x2
    refine Alter.step ?_ (alter_tunClose ..) rfl
    exact Alter.refl _ _
  clear_value x2
  refine alter_ite (fun _ => ?_) (fun _ => ?_)
  · refine Alter.step ?_ (alter_tunError ..) rfl
    assumption
  · refine alter_ite (fun _ => ?_) (fun _ => ?_)
    · refine Alter.step ?_ (alter_askArrives (hg := hg) ..) rfl
      assumption
    · refine Alter.step ?_ (alter_setCan ..) rfl
      assumption

theorem alter_segment (stepGo : State → State) (c : Nat) (f : CanFrame) (t : Nat) (s : State) (hg : ∀ x, Alter 5192296858534809181786422619668479 x (stepGo x)) : Alter 5192296858534809181786422619668479 s (segment stepGo c f t s) := by
  unfold segment
  extract_lets +onlyGivenNames x1
  subst x1
  extract_lets +onlyGivenNames x2
  subst x2
  extract_lets +onlyGivenNames x3
  subst x3
  extract_lets +onlyGivenNames x4
  subst x4
  extract_lets +onlyGivenNames x5
  have h6 : Alter 5192296858534809181786422619668479 s x5 := by
    unfold x5
    refine alter_ite (fun _ => ?_) (fun _ => ?_)
    · refine Alter.step ?_ (alter_tunError ..) rfl
      refine Alter.step ?_ (alter_tunClose ..) rfl
      exact Alter.refl _ _
    · exact Alter.refl _ _
  clear_value x5
  refine alter_ite (fun _ => ?_) (fun _ => ?_)
  · extract_lets +onlyGivenNames x7
    have h8 : Alter 5192296858534809181786422619668479 s x7 := by
      unfold x7
      refine Alter.step ?_ (alter_tunClose ..) rfl
      assumption
    clear_value x7
    refine alter_ite (fun _ => ?_) (fun _ => ?_)
    · refine Alter.step ?_ (alter_tunError ..) rfl
      assumption
    · refine Alter.step ?_ (alter_tunFed (hg := hg) ..) rfl
      assumption
  · split
    · rename_i z9 z10
      refine Alter.step ?_ (alter_tunError ..) rfl
      assumption
    · rename_i z11 z12 z13
      refine alter_ite (fun _ => ?_) (fun _ => ?_)
      · refine Alter.step ?_ (alter_tunFed (hg := hg) ..) rfl
        assumption
      · refine Alter.step ?_ (alter_tunError ..) rfl
        refine Alter.step ?_ (alter_tunClose ..) rfl
        assumption

theorem alter_takeFrame (stepGo : State → State) (c : Nat) (t : Nat) (f : CanFrame) (s : State) (hg : ∀ x, Alter 5192296858534809181786422619668479 x (stepGo x)) : Alter 5192296858534809181786422619668479 s (takeFrame stepGo c t f s) := by
  unfold takeFrame
  refine alter_ite (fun _ => ?_) (fun _ => ?_)
  · refine Alter.step ?_ (alter_segment (hg := hg) ..) rfl
    exact Alter.refl _ _
  · split
    · rename_i z1 z2 z3
      refine Alter.step ?_ (alter_heartbeat ..) rfl
      exact Alter.refl _ _
    · rename_i z4 z5
      exact Alter.refl _ _

theorem alter_takeWaiting (stepGo : State → State) (s : State) (hg : ∀ x, Alter 5192296858534809181786422619668479 x (stepGo x)) : Alter 5192296858534809181786422619668479 s (takeWaiting stepGo s) := by
  unfold takeWaiting
  refine Alter.and ?_ (alter_forEach _ _ _ ?_)
  · exact Alter.refl _ _
  · intro a1 b2
    beta_reduce
    extract_lets +onlyGivenNames x3
    subst x3
    refine Alter.and ?_ (alter_forEach _ _ _ ?_)
    · refine Alter.step ?_ (alter_setCan ..) rfl
      exact Alter.refl _ _
    · intro a4 b5
      beta_reduce
      refine Alter.step ?_ (alter_takeFrame (hg := hg) ..) rfl
      exact Alter.refl _ _

theorem alter_canReceive (stepGo : State → State) (c : Nat) (f : CanFrame) (ago : Nat) (lost : Bool) (s : State) (hg : ∀ x, Alter 5192296858534809181786422619668479 x (stepGo x)) : Alter 5192296858534809181786422619668479 s (canReceive stepGo c f ago lost s) := by
  unfold canReceive
  extract_lets +onlyGivenNames x1
  subst x1
  refine alter_ite (fun _ => ?_) (fun _ => ?_)
  · exact Alter.refl _ _
  · refine alter_ite (fun _ => ?_) (fun _ => ?_)
    · refine Alter.step ?_ (alter_canJoin ..) rfl
      exact Alter.refl _ _
    · extract_lets +onlyGivenNames x2
      have h3 : Alter 5192296858534809181786422619668479 s x2 := by
        unfold x2
        refine Alter.step ?_ (alter_canRxGood ..) rfl
        exact Alter.refl _ _
      clear_value x2
      extract_lets +onlyGivenNames x4
      subst x4
      refine alter_ite (fun _ => ?_) (fun _ => ?_)
      · refine Alter.step ?_ (alter_canFifoLost ..) rfl
        assumption
      · extract_lets +onlyGivenNames x5
        subst x5
        extract_lets +onlyGivenNames x6
        have h7 : Alter 5192296858534809181786422619668479 s x6 := by
          unfold x6
          refine Alter.step ?_ (alter_setCan ..) rfl
          assumption
        clear_value x6
        extract_lets +onlyGivenNames x8
        have h9 : Alter 5192296858534809181786422619668479 s x8 := by
          unfold x8
          refine alter_ite (fun _ => ?_) (fun _ => ?_)
          · assumption
          · refine Alter.step ?_ (alter_canOffer ..) rfl
            assumption
        clear_value x8
        refine alter_ite (fun _ => ?_) (fun _ => ?_)
        · refine Alter.step ?_ (alter_setCan ..) rfl
          assumption
        · refine Alter.step ?_ (alter_takeFrame (hg := hg) ..) rfl
          assumption

theorem alter_tunTimeout (c : Nat) (node : Nat) (s : State) : Alter 162259276923918947466002848284672 s (tunTimeout c node s) := by
  unfold tunTimeout
  split
  · rename_i z1 z2 z3
    refine Alter.step ?_ (alter_tunError ..) rfl
    refine Alter.step ?_ (alter_tunClose ..) rfl
    refine Alter.step ?_ (alter_until ..) rfl
    exact Alter.refl _ _
  · rename_i z4 z5
    exact Alter.refl _ _

theorem alter_execTunnelTimeout (e : Nat) (c : Fin 3) (node : Fin 256) (s : State) : Ends 162259276923918947466002848284672 s (execTunnelTimeout e c node s) := by
  unfold execTunnelTimeout
  refine ends_next ?_
  refine Alter.step ?_ (alter_tunTimeout ..) rfl
  refine Alter.step ?_ (alter_tick ..) rfl
  exact Alter.refl _ _

end Sys2Proof.Machine
end

