-- ==== Sys2Proof/Laws/Glove.lean ====
section
/-! SUPPORT. What each operation of `Sys2Proof.Machine.Glove` may change (`Alter`), one lemma an operation; for a command,
that it answers a next state (`Ends`). -/

namespace Sys2Proof.Machine

theorem alter_takeSample (n : Nat) (s : State) : Alter 81149445549830151390169971818496 s (takeSample n s) := by
  unfold takeSample
  refine alter_ite (fun _ => ?_) (fun _ => ?_)
  · exact Alter.refl _ _
  · extract_lets +onlyGivenNames x1
    have h2 : Alter 81149445549830151390169971818496 s x1 := by
      unfold x1
      refine Alter.and ?_ (alter_forEach _ _ _ ?_)
      · exact Alter.refl _ _
      · intro a3 b4
        beta_reduce
        refine Alter.step ?_ (alter_actMeasure ..) rfl
        exact Alter.refl _ _
    clear_value x1
    extract_lets +onlyGivenNames x5
    subst x5
    refine Alter.step ?_ (alter_jWrite ..) rfl
    refine Alter.step ?_ (alter_glove _ _) rfl
    assumption

theorem alter_echoCheck (l : List Nat) (s : State) : Alter 84166232945507252418287484534784 s (echoCheck l s) := by
  unfold echoCheck
  extract_lets +onlyGivenNames x1
  subst x1
  extract_lets +onlyGivenNames x2
  subst x2
  extract_lets +onlyGivenNames x3
  have h4 : Alter 84166232945507252418287484534784 s x3 := by
    unfold x3
    refine Alter.step ?_ (alter_glove _ _) rfl
    exact Alter.refl _ _
  clear_value x3
  refine Alter.and ?_ (alter_forEach _ _ _ ?_)
  · assumption
  · intro a5 b6
    beta_reduce
    refine alter_ite (fun _ => ?_) (fun _ => ?_)
    · extract_lets +onlyGivenNames x7
      have h8 : Alter 84166232945507252418287484534784 b6 x7 := by
        unfold x7
        refine Alter.step ?_ (alter_raise ..) rfl
        refine Alter.step ?_ (alter_setBit ..) (by decide)
        exact Alter.refl _ _
      clear_value x7
      refine alter_ite (fun _ => ?_) (fun _ => ?_)
      · assumption
      · refine Alter.step ?_ (alter_enterSafe ..) rfl
        assumption
    · exact Alter.refl _ _

theorem alter_supervise (k : Nat) (msgs : List PairMsg) (s : State) : Alter 415696478986483266566619563819008 s (supervise k msgs s) := by
  unfold supervise
  split
  · rename_i z1 z2
    exact Alter.refl _ _
  · rename_i z3 z4 z5
    refine alter_ite (fun _ => ?_) (fun _ => ?_)
    · exact Alter.refl _ _
    · extract_lets +onlyGivenNames x6
      subst x6
      extract_lets +onlyGivenNames x7
      clear_value x7
      extract_lets +onlyGivenNames x9
      have h10 : Alter 415696478986483266566619563819008 s x9 := by
        unfold x9
        refine Alter.step ?_ (alter_chgSup ..) rfl
        refine Alter.step ?_ (alter_trxSup ..) rfl
        refine Alter.step ?_ (alter_trxSup ..) rfl
        refine Alter.step ?_ (alter_actSupAll ..) rfl
        exact Alter.refl _ _
      clear_value x9
      extract_lets +onlyGivenNames x11
      have h12 : Alter 415696478986483266566619563819008 s x11 := by
        unfold x11
        refine Alter.step ?_ (alter_pairSup ..) rfl
        assumption
      clear_value x11
      extract_lets +onlyGivenNames x13
      have h14 : Alter 415696478986483266566619563819008 s x13 := by
        unfold x13
        refine alter_ite (fun _ => ?_) (fun _ => ?_)
        · refine Alter.step ?_ (alter_evalHeld ..) rfl
          assumption
        · assumption
      clear_value x13
      refine Alter.step ?_ (alter_echoCheck ..) rfl
      assumption

theorem alter_release (stepGo : State → State) (k : Nat) (s : State) (hg : ∀ x, Alter 5192296858534809181786422619668479 x (stepGo x)) : Alter 5192296858534809181786422619668479 s (release stepGo k s) := by
  unfold release
  extract_lets +onlyGivenNames x1
  subst x1
  extract_lets +onlyGivenNames x2
  have h3 : Alter 5192296858534809181786422619668479 s x2 := by
    unfold x2
    refine Alter.and ?_ (alter_forEach _ _ _ ?_)
    · exact Alter.refl _ _
    · intro a4 b5
      beta_reduce
      split
      · rename_i z6 z7 z8
        refine Alter.step ?_ (alter_askReleased (hg := hg) ..) rfl
        exact Alter.refl _ _
      · rename_i z9 z10
        exact Alter.refl _ _
  clear_value x2
  extract_lets +onlyGivenNames x11
  subst x11
  refine Alter.step ?_ (alter_jFree ..) rfl
  refine Alter.step ?_ (alter_supervise ..) rfl
  assumption

theorem alter_discard (k : Nat) (s : State) : Alter 81129638565869983100207328395264 s (discard k s) := by
  unfold discard
  refine Alter.step ?_ (alter_jFree ..) rfl
  refine Alter.and ?_ (alter_forEach _ _ _ ?_)
  · exact Alter.refl _ _
  · intro a1 b2
    beta_reduce
    split
    · rename_i z3 z4 z5
      refine Alter.step ?_ (alter_askDropped ..) rfl
      exact Alter.refl _ _
    · rename_i z6 z7
      exact Alter.refl _ _

theorem alter_noteDiff (d : Diff) (k : Nat) (s : State) : Alter 147573952589676412928 s (noteDiff d k s) := by
  unfold noteDiff
  extract_lets +onlyGivenNames x1
  have h2 : Alter 147573952589676412928 s x1 := by
    unfold x1
    refine Alter.step ?_ (alter_incFld ..) (by decide)
    exact Alter.refl _ _
  clear_value x1
  extract_lets +onlyGivenNames x3
  have h4 : Alter 147573952589676412928 s x3 := by
    unfold x3
    refine Alter.step ?_ (alter_setFld ..) (by decide)
    refine Alter.step ?_ (alter_setFld ..) (by decide)
    assumption
  clear_value x3
  extract_lets +onlyGivenNames x5
  have h6 : Alter 147573952589676412928 s x5 := by
    unfold x5
    refine Alter.step ?_ (alter_setFld ..) (by decide)
    refine Alter.step ?_ (alter_setFld ..) (by decide)
    assumption
  clear_value x5
  extract_lets +onlyGivenNames x7
  have h8 : Alter 147573952589676412928 s x7 := by
    unfold x7
    refine Alter.step ?_ (alter_setBit ..) (by decide)
    assumption
  clear_value x7
  refine alter_ite (fun _ => ?_) (fun _ => ?_)
  · refine Alter.step ?_ (alter_setBit ..) (by decide)
    assumption
  · assumption

theorem alter_withhold (d : Diff) (k : Nat) (s : State) : Alter 94594903609982580686848 s (withhold d k s) := by
  unfold withhold
  refine Alter.step ?_ (alter_raise ..) rfl
  refine Alter.step ?_ (alter_setBit ..) (by decide)
  refine Alter.step ?_ (alter_noteDiff ..) rfl
  exact Alter.refl _ _

theorem alter_gloveEscalate (d : Diff) (k : Nat) (ks : List Nat) (s : State) : Alter 84166233096622979870116131373056 s (gloveEscalate d k ks s) := by
  unfold gloveEscalate
  extract_lets +onlyGivenNames x1
  have h2 : Alter 84166233096622979870116131373056 s x1 := by
    unfold x1
    refine Alter.step ?_ (alter_enterSafe ..) rfl
    refine Alter.step ?_ (alter_setBit ..) (by decide)
    refine Alter.step ?_ (alter_noteDiff ..) rfl
    exact Alter.refl _ _
  clear_value x1
  extract_lets +onlyGivenNames x3
  have h4 : Alter 84166233096622979870116131373056 s x3 := by
    unfold x3
    refine Alter.and ?_ (alter_forEach _ _ _ ?_)
    · assumption
    · intro a5 b6
      beta_reduce
      refine Alter.step ?_ (alter_discard ..) rfl
      exact Alter.refl _ _
  clear_value x3
  refine Alter.step ?_ (alter_raise ..) rfl
  refine Alter.step ?_ (alter_setBit ..) (by decide)
  assumption

theorem alter_agree (stepGo : State → State) (n : Nat) (m : PairMsg) (ks : List Nat) (s : State) (hg : ∀ x, Alter 5192296858534809181786422619668479 x (stepGo x)) : Alter 5192296858534809181786422619668479 s (agree stepGo n m ks s) := by
  unfold agree
  extract_lets +onlyGivenNames x1
  subst x1
  extract_lets +onlyGivenNames x2
  have h3 : Alter 5192296858534809181786422619668479 s x2 := by
    unfold x2
    refine Alter.step ?_ (alter_setFld ..) (by decide)
    exact Alter.refl _ _
  clear_value x2
  extract_lets +onlyGivenNames x4
  have h5 : Alter 5192296858534809181786422619668479 s x4 := by
    unfold x4
    refine alter_ite (fun _ => ?_) (fun _ => ?_)
    · refine Alter.step ?_ (alter_setBit ..) (by decide)
      assumption
    · assumption
  clear_value x4
  extract_lets +onlyGivenNames x6
  have h7 : Alter 5192296858534809181786422619668479 s x6 := by
    unfold x6
    refine Alter.step ?_ (alter_setFld ..) (by decide)
    assumption
  clear_value x6
  extract_lets +onlyGivenNames x8
  subst x8
  extract_lets +onlyGivenNames x9
  have h10 : Alter 5192296858534809181786422619668479 s x9 := by
    unfold x9
    refine Alter.step ?_ (alter_glove _ _) rfl
    assumption
  clear_value x9
  refine Alter.step ?_ (alter_pairSend ..) rfl
  refine Alter.and ?_ (alter_forEach _ _ _ ?_)
  · assumption
  · intro a11 b12
    beta_reduce
    refine Alter.step ?_ (alter_release (hg := hg) ..) rfl
    exact Alter.refl _ _

theorem alter_compareAt (stepGo : State → State) (n : Nat) (m : PairMsg) (d : Option Diff) (s : State) (hg : ∀ x, Alter 5192296858534809181786422619668479 x (stepGo x)) : Alter 5192296858534809181786422619668479 s (compareAt stepGo n m d s) := by
  unfold compareAt
  extract_lets +onlyGivenNames x1
  subst x1
  refine alter_ite (fun _ => ?_) (fun _ => ?_)
  · exact Alter.refl _ _
  · extract_lets +onlyGivenNames x2
    subst x2
    extract_lets +onlyGivenNames x3
    subst x3
    extract_lets +onlyGivenNames x4
    subst x4
    extract_lets +onlyGivenNames x5
    have h6 : Alter 5192296858534809181786422619668479 s x5 := by
      unfold x5
      refine Alter.step ?_ (alter_glove _ _) rfl
      exact Alter.refl _ _
    clear_value x5
    extract_lets +onlyGivenNames x7
    have h8 : ∀ y9, Alter 5192296858534809181786422619668479 y9 (x7 y9) := by
      intro y9
      unfold x7
      beta_reduce
      refine Alter.step ?_ (alter_glove _ _) rfl
      exact Alter.refl _ _
    clear_value x7
    split
    · rename_i z10 z11
      refine Alter.and ?_ (h8 ..)
      refine Alter.step ?_ (alter_agree (hg := hg) ..) rfl
      assumption
    · rename_i z12 z13 z14
      refine alter_ite (fun _ => ?_) (fun _ => ?_)
      · refine Alter.and ?_ (h8 ..)
        refine Alter.step ?_ (alter_gloveEscalate ..) rfl
        assumption
      · refine Alter.step ?_ (alter_withhold ..) rfl
        assumption

theorem alter_breakAt (k : Nat) (s : State) : Alter 81129638414754255648378681556992 s (breakAt k s) := by
  unfold breakAt
  refine Alter.and ?_ (alter_foldl _ _ _ ?_)
  · exact Alter.refl _ _
  · intro a1 b2
    beta_reduce
    refine Alter.step ?_ (alter_breakMet ..) rfl
    exact Alter.refl _ _

theorem alter_haltReachedNow (s : State) : Alter 84166232945507252418287484534784 s (haltReachedNow s) := by
  unfold haltReachedNow
  split
  · rename_i z1 z2 z3 z4
    refine Alter.step ?_ (alter_haltReached ..) rfl
    exact Alter.refl _ _
  · rename_i z5 z6
    exact Alter.refl _ _

theorem alter_execGloveHaltReached (e : Nat) (s : State) : Ends 84166232945617932882729741844480 s (execGloveHaltReached e s) := by
  unfold execGloveHaltReached
  extract_lets +onlyGivenNames x1
  have h2 : Alter 84166232945617932882729741844480 s x1 := by
    unfold x1
    refine Alter.step ?_ (alter_tick ..) rfl
    exact Alter.refl _ _
  clear_value x1
  refine ends_next ?_
  refine alter_ite (fun _ => ?_) (fun _ => ?_)
  · refine Alter.step ?_ (alter_haltReachedNow ..) rfl
    assumption
  · assumption

theorem alter_gloveStep (n : Nat) (d : Option Diff) (s : State) : Alter 5192296858534809181786422619668479 s (gloveStep n d s) := by
  induction n generalizing d s with
  | zero => exact Alter.refl _ _
  | succ n ih =>
    unfold gloveStep
    split
    · exact Alter.refl _ _
    · extract_lets p
      split
      · exact Alter.refl _ _
      · rename_i x _
        refine Alter.step ?_ (alter_haltReached ..) rfl
        split
        · exact (alter_withhold ..).mono rfl
        · have h1 : Alter 5192296858534809181786422619668479 s { s with glove := { s.glove with ents := s.glove.ents.map fun y => if y.seq = p then { y with body := .none } else y } } :=
            Alter.step (Alter.refl _ _) (alter_glove ..) rfl
          split
          · exact h1.and (alter_askReleased (hg := fun x => ih none x) ..)
          · exact h1.step (alter_supervise ..) rfl
          · split
            · exact h1.step (alter_supervise ..) rfl
            · exact h1

theorem alter_stepGo (u0 : State) : Alter 5192296858534809181786422619668479 u0 (stepGo u0) := by
  unfold stepGo
  refine Alter.step ?_ (alter_gloveStep ..) rfl
  exact Alter.refl _ _

theorem alter_restartAt (n : Nat) (s : State) : Alter 81129638414606681695789005144064 s (restartAt n s) := by
  unfold restartAt
  split
  · rename_i z1 z2 z3
    refine alter_ite (fun _ => ?_) (fun _ => ?_)
    · refine Alter.step ?_ (alter_glove _ _) rfl
      exact Alter.refl _ _
    · exact Alter.refl _ _
  · rename_i z4 z5
    exact Alter.refl _ _

theorem alter_gloveCheckpoint (vl : Nat) (d : Option Diff) (work : Nat) (s : State) : Alter 5192296858534809181786422619668479 s (gloveCheckpoint vl d work s) := by
  unfold gloveCheckpoint
  refine alter_ite (fun _ => ?_) (fun _ => ?_)
  · exact Alter.refl _ _
  · extract_lets +onlyGivenNames x1
    subst x1
    extract_lets +onlyGivenNames x2
    have h3 : Alter 5192296858534809181786422619668479 s x2 := by
      unfold x2
      refine Alter.step ?_ (alter_setVlink ..) rfl
      refine Alter.step ?_ (alter_until ..) rfl
      exact Alter.refl _ _
    clear_value x2
    extract_lets +onlyGivenNames x4
    subst x4
    extract_lets +onlyGivenNames x5
    have h6 : Alter 5192296858534809181786422619668479 s x5 := by
      unfold x5
      refine Alter.step ?_ (alter_glove _ _) rfl
      assumption
    clear_value x5
    refine alter_ite (fun _ => ?_) (fun _ => ?_)
    · assumption
    · refine alter_ite (fun _ => ?_) (fun _ => ?_)
      · refine Alter.step ?_ (alter_haltReachedNow ..) rfl
        assumption
      · extract_lets +onlyGivenNames x7
        have h8 : Alter 5192296858534809181786422619668479 s x7 := by
          unfold x7
          refine Alter.step ?_ (alter_setFld ..) (by decide)
          assumption
        clear_value x7
        extract_lets +onlyGivenNames x9
        have h10 : Alter 5192296858534809181786422619668479 s x9 := by
          unfold x9
          refine Alter.step ?_ (alter_takeSample ..) rfl
          refine Alter.step ?_ (alter_restartAt ..) rfl
          refine Alter.step ?_ (alter_breakAt ..) rfl
          assumption
        clear_value x9
        refine Alter.step ?_ (alter_jDrain ..) rfl
        refine Alter.step ?_ (alter_compareAt (hg := alter_stepGo) ..) rfl
        refine alter_ite (fun _ => ?_) (fun _ => ?_)
        · assumption
        · refine Alter.step ?_ (alter_takeWaiting (hg := alter_stepGo) ..) rfl
          assumption

theorem alter_execGloveCheckpoint (e : Nat) (vl : BitVec 13) (diff : Option Diff) (work : BitVec 16) (s : State) : Ends 5192296858534809181786422619668479 s (execGloveCheckpoint e vl diff work s) := by
  unfold execGloveCheckpoint
  refine ends_next ?_
  refine Alter.step ?_ (alter_gloveCheckpoint ..) rfl
  refine Alter.step ?_ (alter_tick ..) rfl
  exact Alter.refl _ _

theorem alter_nfault_glove (s : State) (nfault' : Bool) (glove' : Glove) : Alter 81129638424051414661528295571456 s { s with nfault := nfault', glove := glove' } := by
  constructor
  case inv => exact fun _ i => { i with  }
  all_goals intros
  all_goals first | rfl | exact List.prefix_refl _ | exact Nat.le_refl _ | assumption | (rename_i b; exact absurd b (by decide))

theorem alter_gloveWatchdog (s : State) : Alter 84166232945617932882729741844480 s (gloveWatchdog s) := by
  unfold gloveWatchdog
  refine alter_ite (fun _ => ?_) (fun _ => ?_)
  · exact Alter.refl _ _
  · extract_lets +onlyGivenNames x1
    have h2 : Alter 84166232945617932882729741844480 s x1 := by
      unfold x1
      refine Alter.step ?_ (alter_until ..) rfl
      exact Alter.refl _ _
    clear_value x1
    extract_lets +onlyGivenNames x3
    subst x3
    extract_lets +onlyGivenNames x4
    have h5 : Alter 84166232945617932882729741844480 s x4 := by
      unfold x4
      refine Alter.step ?_ (alter_nfault_glove _ _ _) rfl
      assumption
    clear_value x4
    refine Alter.step ?_ (alter_enterSafe ..) rfl
    assumption

theorem alter_execGloveWatchdog (e : Nat) (s : State) : Ends 84166232945617932882729741844480 s (execGloveWatchdog e s) := by
  unfold execGloveWatchdog
  refine ends_next ?_
  refine Alter.step ?_ (alter_gloveWatchdog ..) rfl
  refine Alter.step ?_ (alter_tick ..) rfl
  exact Alter.refl _ _

theorem alter_gloveCache (core : Nat) (fatal : Bool) (s : State) : Alter 81129638509201585305771585830912 s (gloveCache core fatal s) := by
  unfold gloveCache
  refine alter_ite (fun _ => ?_) (fun _ => ?_)
  · exact Alter.refl _ _
  · extract_lets +onlyGivenNames x1
    subst x1
    extract_lets +onlyGivenNames x2
    subst x2
    refine alter_ite (fun _ => ?_) (fun _ => ?_)
    · extract_lets +onlyGivenNames x3
      have h4 : Alter 81129638509201585305771585830912 s x3 := by
        unfold x3
        refine Alter.step ?_ (alter_incFld ..) (by decide)
        exact Alter.refl _ _
      clear_value x3
      extract_lets +onlyGivenNames x5
      subst x5
      extract_lets +onlyGivenNames x6
      have h7 : Alter 81129638509201585305771585830912 s x6 := by
        unfold x6
        refine Alter.step ?_ (alter_glove _ _) rfl
        assumption
      clear_value x6
      refine Alter.and ?_ (alter_flagRaise _ _ _ _ _ _ (by decide))
      assumption
    · extract_lets +onlyGivenNames x8
      have h9 : Alter 81129638509201585305771585830912 s x8 := by
        unfold x8
        refine Alter.step ?_ (alter_incFld ..) (by decide)
        exact Alter.refl _ _
      clear_value x8
      refine Alter.and ?_ (alter_flagRaise _ _ _ _ _ _ (by decide))
      assumption

theorem alter_execGloveCache (e : Nat) (core : Fin 2) (fatal : Bool) (s : State) : Ends 81129638509312265770213843140608 s (execGloveCache e core fatal s) := by
  unfold execGloveCache
  refine ends_next ?_
  refine Alter.step ?_ (alter_gloveCache ..) rfl
  refine Alter.step ?_ (alter_tick ..) rfl
  exact Alter.refl _ _

end Sys2Proof.Machine
end

