-- ==== Sys2Proof/Laws/Boundary.lean ====
section
/-! SUPPORT. What each operation of `Sys2Proof.Machine.Boundary` may change (`Alter`), one lemma an operation; for a command,
that it answers a next state (`Ends`). -/

namespace Sys2Proof.Machine

theorem alter_graphsFresh (j : Nat) (s : State) : Alter 20116525785961382056787181568 s (graphsFresh j s) := by
  unfold graphsFresh
  extract_lets +onlyGivenNames x1
  have h2 : Alter 20116525785961382056787181568 s x1 := by
    unfold x1
    refine Alter.and ?_ (alter_forEach _ _ _ ?_)
    · exact Alter.refl _ _
    · intro a3 b4
      beta_reduce
      extract_lets +onlyGivenNames x5
      subst x5
      extract_lets +onlyGivenNames x6
      subst x6
      extract_lets +onlyGivenNames x7
      have h8 : Alter 20116525785961382056787181568 b4 x7 := by
        unfold x7
        refine Alter.step ?_ (alter_setGraph ..) rfl
        exact Alter.refl _ _
      clear_value x7
      refine Alter.and ?_ (alter_forEach _ _ _ ?_)
      · assumption
      · intro a9 b10
        beta_reduce
        extract_lets +onlyGivenNames x11
        have h12 : Alter 20116525785961382056787181568 b10 x11 := by
          unfold x11
          refine Alter.step ?_ (alter_setReg ..) (rm_high (by simp only [R.ENG_HAND]; omega) rfl)
          refine Alter.step ?_ (alter_setHand ..) rfl
          exact Alter.refl _ _
        clear_value x11
        refine Alter.step ?_ (alter_setBitAt ..) (rm_high (by simp only [R.ENG_HAND_HELD]; omega) rfl)
        assumption
  clear_value x1
  refine Alter.and ?_ (alter_forEach _ _ _ ?_)
  · assumption
  · intro a13 b14
    beta_reduce
    refine Alter.step ?_ (alter_setConv ..) rfl
    exact Alter.refl _ _

theorem alter_startChain (n j : Nat) (s : State) : Alter 21354465825246762331686305792 s (startChain n j s) := by
  induction n generalizing j s with
  | zero => exact Alter.refl _ _
  | succ n ih =>
    unfold startChain
    split
    · exact Alter.refl _ _
    · extract_lets s1
      have h1 : Alter 21354465825246762331686305792 s s1 := by
        unfold s1
        split
        · exact ih _ _
        · exact Alter.refl _ _
      clear_value s1
      exact (h1.step (alter_tbStart ..) rfl).step (alter_graphsFresh ..) rfl

theorem alter_execTimebaseStart (e : Nat) (j : Fin 6) (s : State) : Ends 21354465935927226773943615488 s (execTimebaseStart e j s) := by
  unfold execTimebaseStart
  refine ends_next ?_
  refine Alter.step ?_ (alter_startChain ..) rfl
  refine Alter.step ?_ (alter_tick ..) rfl
  exact Alter.refl _ _

theorem alter_stopUnwanted (j : Nat) (s : State) : Alter 11141460501142375063768530944 s (stopUnwanted j s) := by
  unfold stopUnwanted
  refine alter_ite (fun _ => ?_) (fun _ => ?_)
  · exact Alter.refl _ _
  · refine Alter.step ?_ (alter_tbStop ..) rfl
    refine Alter.step ?_ (alter_adcStopTb ..) rfl
    exact Alter.refl _ _

theorem alter_pairShown (g : Nat) (n : Nat) (held : Bool) (s : State) : Alter 147573952589676412928 s (pairShown g n held s) := by
  unfold pairShown
  extract_lets +onlyGivenNames x1
  subst x1
  refine Alter.step ?_ (alter_setBit ..) (rm_high (by simp only [R.ENG_PAIR_STAT_K]; omega) rfl)
  refine Alter.step ?_ (alter_setFld ..) (rm_high (by simp only [R.ENG_PAIR_STAT_K]; omega) rfl)
  exact Alter.refl _ _

theorem alter_missCount (d : Nat) (c : Nat) (s : State) : Alter 94594903609982580686848 s (missCount d c s) := by
  unfold missCount
  extract_lets +onlyGivenNames x1
  have h2 : Alter 94594903609982580686848 s x1 := by
    unfold x1
    refine Alter.step ?_ (alter_setFld ..) (by decide)
    refine Alter.step ?_ (alter_incFld ..) (by decide)
    exact Alter.refl _ _
  clear_value x1
  refine Alter.step ?_ (alter_raiseAt ..) rfl
  refine Alter.step ?_ (alter_setBit ..) (by decide)
  assumption

theorem alter_missed (g : Nat) (d : Nat) (apart : Bool) (s : State) : Alter 10141514381430560167024931110912 s (missed g d apart s) := by
  unfold missed
  extract_lets +onlyGivenNames x1
  have h2 : Alter 10141514381430560167024931110912 s x1 := by
    unfold x1
    refine Alter.and ?_ (alter_forEach _ _ _ ?_)
    · exact Alter.refl _ _
    · intro a3 b4
      beta_reduce
      refine Alter.step ?_ (alter_missCount ..) rfl
      refine Alter.step ?_ (alter_setConv ..) rfl
      exact Alter.refl _ _
  clear_value x1
  refine alter_ite (fun _ => ?_) (fun _ => ?_)
  · refine Alter.step ?_ (alter_failReport ..) rfl
    assumption
  · assumption

theorem alter_pairMismatch (g : Nat) (x : PairDiff) (rest : List PairDiff) (d : Nat) (s : State) : Alter 309579604724955051305467904 s (pairMismatch g x rest d s) := by
  unfold pairMismatch
  extract_lets +onlyGivenNames x1
  subst x1
  extract_lets +onlyGivenNames x2
  subst x2
  extract_lets +onlyGivenNames x3
  subst x3
  extract_lets +onlyGivenNames x4
  subst x4
  extract_lets +onlyGivenNames x5
  subst x5
  extract_lets +onlyGivenNames x6
  subst x6
  extract_lets +onlyGivenNames x7
  have h8 : Alter 309579604724955051305467904 s x7 := by
    unfold x7
    refine Alter.step ?_ (alter_setFld ..) (rm_high (by simp only [R.ENG_PAIR_MISM_K]; omega) rfl)
    refine Alter.step ?_ (alter_setFld ..) (rm_high (by simp only [R.ENG_PAIR_MISM_K]; omega) rfl)
    refine Alter.step ?_ (alter_incFld ..) (rm_high (by simp only [R.ENG_PAIR_MISM_K]; omega) rfl)
    exact Alter.refl _ _
  clear_value x7
  extract_lets +onlyGivenNames x9
  have h10 : Alter 309579604724955051305467904 s x9 := by
    unfold x9
    refine Alter.step ?_ (alter_raiseAt ..) rfl
    refine Alter.step ?_ (alter_setBit ..) (by decide)
    assumption
  clear_value x9
  refine Alter.and ?_ (alter_forEach _ _ _ ?_)
  · assumption
  · intro a11 b12
    beta_reduce
    refine Alter.step ?_ (alter_setConv ..) rfl
    exact Alter.refl _ _

theorem alter_pairEscalate (g : Nat) (d : Nat) (s : State) : Alter 10141514381430560167024931110912 s (pairEscalate g d s) := by
  unfold pairEscalate
  extract_lets +onlyGivenNames x1
  subst x1
  refine alter_ite (fun _ => ?_) (fun _ => ?_)
  · exact Alter.refl _ _
  · extract_lets +onlyGivenNames x2
    have h3 : Alter 10141514381430560167024931110912 s x2 := by
      unfold x2
      refine Alter.and ?_ (alter_forEach _ _ _ ?_)
      · exact Alter.refl _ _
      · intro a4 b5
        beta_reduce
        extract_lets +onlyGivenNames x6
        subst x6
        extract_lets +onlyGivenNames x7
        have h8 : Alter 10141514381430560167024931110912 b5 x7 := by
          unfold x7
          refine Alter.step ?_ (alter_setBitAt ..) (by decide)
          refine Alter.step ?_ (alter_setConv ..) rfl
          exact Alter.refl _ _
        clear_value x7
        refine Alter.step ?_ (alter_raiseAt ..) rfl
        refine Alter.step ?_ (alter_setBit ..) (by decide)
        assumption
    clear_value x2
    refine Alter.step ?_ (alter_failReport ..) rfl
    assumption

theorem alter_obsReported (m : Nat) (s : State) : Alter 40465259629044477718345809920 s (obsReported m s) := by
  unfold obsReported
  extract_lets +onlyGivenNames x1
  subst x1
  extract_lets +onlyGivenNames x2
  subst x2
  extract_lets +onlyGivenNames x3
  have h4 : Alter 40465259629044477718345809920 s x3 := by
    unfold x3
    refine Alter.step ?_ (alter_keTake ..) rfl
    exact Alter.refl _ _
  clear_value x3
  refine alter_ite (fun _ => ?_) (fun _ => ?_)
  · refine Alter.step ?_ (alter_speedRefresh ..) rfl
    assumption
  · assumption

theorem alter_pairAgrees (g : Nat) (d : Nat) (x : DoneSet) (s : State) : Alter 10677155562178853144720345923584 s (pairAgrees g d x s) := by
  unfold pairAgrees
  extract_lets +onlyGivenNames x1
  have h2 : Alter 10677155562178853144720345923584 s x1 := by
    unfold x1
    refine Alter.and ?_ (alter_forEach _ _ _ ?_)
    · exact Alter.refl _ _
    · intro a3 b4
      beta_reduce
      refine Alter.step ?_ (alter_setConv ..) rfl
      exact Alter.refl _ _
  clear_value x1
  extract_lets +onlyGivenNames x5
  have h6 : Alter 10677155562178853144720345923584 s x5 := by
    unfold x5
    refine Alter.and ?_ (alter_forEach _ _ _ ?_)
    · assumption
    · intro a7 b8
      beta_reduce
      refine Alter.step ?_ (alter_handPut ..) rfl
      exact Alter.refl _ _
  clear_value x5
  extract_lets +onlyGivenNames x9
  have h10 : Alter 10677155562178853144720345923584 s x9 := by
    unfold x9
    refine Alter.and ?_ (alter_forEach _ _ _ ?_)
    · refine Alter.step ?_ (alter_obsPublish ..) rfl
      assumption
    · intro a11 b12
      beta_reduce
      refine Alter.step ?_ (alter_obsReported ..) rfl
      exact Alter.refl _ _
  clear_value x9
  extract_lets +onlyGivenNames x13
  have h14 : Alter 10677155562178853144720345923584 s x13 := by
    unfold x13
    refine alter_ite (fun _ => ?_) (fun _ => ?_)
    · refine Alter.step ?_ (alter_acPublish ..) rfl
      assumption
    · assumption
  clear_value x13
  refine alter_ite (fun _ => ?_) (fun _ => ?_)
  · refine Alter.step ?_ (alter_replCommitted ..) rfl
    assumption
  · assumption

theorem alter_hostTaken (j : Nat) (d : Nat) (s : State) : Alter 1238034634188990257479811072 s (hostTaken j d s) := by
  unfold hostTaken
  extract_lets +onlyGivenNames x1
  subst x1
  refine alter_ite (fun _ => ?_) (fun _ => ?_)
  · extract_lets +onlyGivenNames x2
    have h3 : Alter 1238034634188990257479811072 s x2 := by
      unfold x2
      refine Alter.step ?_ (alter_setTb ..) rfl
      exact Alter.refl _ _
    clear_value x2
    refine Alter.and ?_ (alter_forEach _ _ _ ?_)
    · assumption
    · intro a4 b5
      beta_reduce
      refine Alter.step ?_ (alter_missCount ..) rfl
      exact Alter.refl _ _
  · extract_lets +onlyGivenNames x6
    subst x6
    refine Alter.step ?_ (alter_setTb ..) rfl
    exact Alter.refl _ _

theorem alter_deadline (j : Nat) (diffs : List PairDiff) (s : State) : Alter 10678393502218138524995245047808 s (deadline j diffs s) := by
  unfold deadline
  extract_lets +onlyGivenNames x1
  subst x1
  extract_lets +onlyGivenNames x2
  subst x2
  extract_lets +onlyGivenNames x3
  subst x3
  extract_lets +onlyGivenNames x4
  subst x4
  extract_lets +onlyGivenNames x5
  subst x5
  extract_lets +onlyGivenNames x6
  have h7 : Alter 10678393502218138524995245047808 s x6 := by
    unfold x6
    refine Alter.and ?_ (alter_forEach _ _ _ ?_)
    · exact Alter.refl _ _
    · intro a8 b9
      beta_reduce
      split
      · rename_i z10 z11
        refine Alter.step ?_ (alter_missed ..) rfl
        exact Alter.refl _ _
      · rename_i z12 z13
        exact Alter.refl _ _
  clear_value x6
  extract_lets +onlyGivenNames x14
  have h15 : Alter 10678393502218138524995245047808 s x14 := by
    unfold x14
    refine Alter.and ?_ (alter_forEach _ _ _ ?_)
    · assumption
    · intro a16 b17
      beta_reduce
      split
      · rename_i z18 z19 z20 z21
        refine Alter.step ?_ (alter_pairMismatch ..) rfl
        refine Alter.and ?_ (alter_forEach _ _ _ ?_)
        · exact Alter.refl _ _
        · intro a22 b23
          beta_reduce
          refine Alter.step ?_ (alter_setConv ..) rfl
          exact Alter.refl _ _
      · rename_i z24 z25
        exact Alter.refl _ _
  clear_value x14
  extract_lets +onlyGivenNames x26
  have h27 : Alter 10678393502218138524995245047808 s x26 := by
    unfold x26
    refine Alter.and ?_ (alter_forEach _ _ _ ?_)
    · assumption
    · intro a28 b29
      beta_reduce
      split
      · rename_i z30 z31 z32 z33
        refine Alter.step ?_ (alter_pairEscalate ..) rfl
        exact Alter.refl _ _
      · rename_i z34 z35
        exact Alter.refl _ _
  clear_value x26
  extract_lets +onlyGivenNames x36
  have h37 : Alter 10678393502218138524995245047808 s x36 := by
    unfold x36
    refine Alter.and ?_ (alter_forEach _ _ _ ?_)
    · assumption
    · intro a38 b39
      beta_reduce
      split
      · rename_i z40 z41 z42
        refine Alter.step ?_ (alter_pairAgrees ..) rfl
        exact Alter.refl _ _
      · rename_i z43 z44
        refine Alter.step ?_ (alter_handsHeld ..) rfl
        exact Alter.refl _ _
  clear_value x36
  extract_lets +onlyGivenNames x45
  have h46 : Alter 10678393502218138524995245047808 s x45 := by
    unfold x45
    refine Alter.and ?_ (alter_forEach _ _ _ ?_)
    · assumption
    · intro a47 b48
      beta_reduce
      refine Alter.step ?_ (alter_pairShown ..) rfl
      exact Alter.refl _ _
  clear_value x45
  extract_lets +onlyGivenNames x49
  subst x49
  extract_lets +onlyGivenNames x50
  subst x50
  extract_lets +onlyGivenNames x51
  have h52 : Alter 10678393502218138524995245047808 s x51 := by
    unfold x51
    refine alter_ite (fun _ => ?_) (fun _ => ?_)
    · refine Alter.step ?_ (alter_followStep ..) rfl
      assumption
    · assumption
  clear_value x51
  extract_lets +onlyGivenNames x53
  subst x53
  extract_lets +onlyGivenNames x54
  subst x54
  extract_lets +onlyGivenNames x55
  subst x55
  extract_lets +onlyGivenNames x56
  have h57 : Alter 10678393502218138524995245047808 s x56 := by
    unfold x56
    refine Alter.step ?_ (alter_dcl _ _) rfl
    assumption
  clear_value x56
  extract_lets +onlyGivenNames x58
  subst x58
  extract_lets +onlyGivenNames x59
  subst x59
  extract_lets +onlyGivenNames x60
  have h61 : Alter 10678393502218138524995245047808 s x60 := by
    unfold x60
    refine Alter.step ?_ (alter_hostTaken ..) rfl
    assumption
  clear_value x60
  refine Alter.step ?_ (alter_processSet ..) rfl
  assumption

theorem alter_commitDeadline (j : Nat) (diffs : List PairDiff) (vl : Nat) (s : State) : Alter 10678393502328818989437502357504 s (commitDeadline j diffs vl s) := by
  unfold commitDeadline
  refine alter_ite (fun _ => ?_) (fun _ => ?_)
  · exact Alter.refl _ _
  · extract_lets +onlyGivenNames x1
    have h2 : Alter 10678393502328818989437502357504 s x1 := by
      unfold x1
      refine Alter.step ?_ (alter_setVlink ..) rfl
      refine Alter.step ?_ (alter_until ..) rfl
      exact Alter.refl _ _
    clear_value x1
    extract_lets +onlyGivenNames x3
    have h4 : Alter 10678393502328818989437502357504 s x3 := by
      unfold x3
      refine Alter.and ?_ (alter_forEach _ _ _ ?_)
      · assumption
      · intro a5 b6
        beta_reduce
        refine alter_ite (fun _ => ?_) (fun _ => ?_)
        · refine Alter.step ?_ (alter_deadline ..) rfl
          exact Alter.refl _ _
        · exact Alter.refl _ _
    clear_value x3
    refine Alter.step ?_ (alter_deadline ..) rfl
    refine Alter.step ?_ (alter_until ..) rfl
    assumption

theorem alter_execCommitDeadline (e : Nat) (j : Fin 6) (diffs : List PairDiff) (vl : BitVec 13) (s : State) : Ends 10678393502328818989437502357504 s (execCommitDeadline e j diffs vl s) := by
  unfold execCommitDeadline
  refine ends_next ?_
  refine Alter.step ?_ (alter_commitDeadline ..) rfl
  refine Alter.step ?_ (alter_tick ..) rfl
  exact Alter.refl _ _

theorem alter_stageOff (b0 : Nat) (c : Nat) (s : State) : Alter 84205847026764384587084256509952 s (stageOff b0 c s) := by
  unfold stageOff
  split
  · rename_i z1 z2
    exact Alter.refl _ _
  · rename_i z3 z4 z5
    extract_lets +onlyGivenNames x6
    subst x6
    extract_lets +onlyGivenNames x7
    subst x7
    extract_lets +onlyGivenNames x8
    subst x8
    extract_lets +onlyGivenNames x9
    subst x9
    refine alter_ite (fun _ => ?_) (fun _ => ?_)
    · split
      · rename_i z10 z11 z12
        refine alter_ite (fun _ => ?_) (fun _ => ?_)
        · refine Alter.step ?_ (alter_enterSafe ..) rfl
          refine Alter.step ?_ (alter_selHold ..) rfl
          exact Alter.refl _ _
        · refine Alter.step ?_ (alter_gateClose ..) rfl
          refine Alter.step ?_ (alter_setConv ..) rfl
          exact Alter.refl _ _
      · rename_i z13 z14
        refine Alter.step ?_ (alter_linkEval ..) rfl
        refine Alter.step ?_ (alter_setConv ..) rfl
        exact Alter.refl _ _
    · exact Alter.refl _ _

theorem alter_holdEnds (c : Nat) (s : State) : Alter 501288440433618905771251073024 s (holdEnds c s) := by
  unfold holdEnds
  extract_lets +onlyGivenNames x1
  subst x1
  refine alter_ite (fun _ => ?_) (fun _ => ?_)
  · refine Alter.step ?_ (alter_releaseLatches ..) rfl
    exact Alter.refl _ _
  · exact Alter.refl _ _

theorem alter_degrade (c : Nat) (s : State) : Alter 84166232945507252418287484534784 s (degrade c s) := by
  unfold degrade
  extract_lets +onlyGivenNames x1
  subst x1
  extract_lets +onlyGivenNames x2
  have h3 : Alter 84166232945507252418287484534784 s x2 := by
    unfold x2
    split
    · rename_i z4 z5 z6 z7 z8
      refine alter_ite (fun _ => ?_) (fun _ => ?_)
      · exact Alter.refl _ _
      · refine Alter.step ?_ (alter_protHold ..) rfl
        exact Alter.refl _ _
    · rename_i z9 z10 z11
      exact Alter.refl _ _
  clear_value x2
  refine alter_ite (fun _ => ?_) (fun _ => ?_)
  · refine Alter.step ?_ (alter_setConv ..) rfl
    assumption
  · refine alter_ite (fun _ => ?_) (fun _ => ?_)
    · extract_lets +onlyGivenNames x12
      subst x12
      extract_lets +onlyGivenNames x13
      have h14 : Alter 84166232945507252418287484534784 s x13 := by
        unfold x13
        refine Alter.step ?_ (alter_setConv ..) rfl
        assumption
      clear_value x13
      extract_lets +onlyGivenNames x15
      have h16 : Alter 84166232945507252418287484534784 s x15 := by
        unfold x15
        refine alter_ite (fun _ => ?_) (fun _ => ?_)
        · assumption
        · refine Alter.step ?_ (alter_setFld ..) (rm_high (by simp only [R.PLC_CONV]; omega) rfl)
          assumption
      clear_value x15
      split
      · rename_i z17 z18 z19 z20 z21
        refine Alter.step ?_ (alter_protHold ..) rfl
        assumption
      · rename_i z22 z23 z24
        assumption
    · assumption

theorem alter_noticePut (no : Nat) (b : Nat) (st : Nat) (g : Nat) (s : State) : Alter 29710655537752736580159668224 s (noticePut no b st g s) := by
  unfold noticePut
  extract_lets +onlyGivenNames x1
  subst x1
  extract_lets +onlyGivenNames x2
  subst x2
  extract_lets +onlyGivenNames x3
  have h4 : Alter 29710655537752736580159668224 s x3 := by
    unfold x3
    refine Alter.step ?_ (alter_fifoMet ..) rfl
    exact Alter.refl _ _
  clear_value x3
  refine alter_ite (fun _ => ?_) (fun _ => ?_)
  · assumption
  · refine Alter.step ?_ (alter_setGraph ..) rfl
    assumption

theorem alter_boundary (j : Nat) (s : State) : Alter 89287590888141551079987418759168 s (boundary j s) := by
  unfold boundary
  extract_lets +onlyGivenNames x1
  subst x1
  extract_lets +onlyGivenNames x2
  subst x2
  extract_lets +onlyGivenNames x3
  subst x3
  extract_lets +onlyGivenNames x4
  subst x4
  extract_lets +onlyGivenNames x5
  subst x5
  extract_lets +onlyGivenNames x6
  have h7 : Alter 89287590888141551079987418759168 s x6 := by
    unfold x6
    refine Alter.and ?_ (alter_forEach _ _ _ ?_)
    · exact Alter.refl _ _
    · intro a8 b9
      beta_reduce
      refine Alter.step ?_ (alter_stageOff ..) rfl
      exact Alter.refl _ _
  clear_value x6
  extract_lets +onlyGivenNames x10
  have h11 : Alter 89287590888141551079987418759168 s x10 := by
    unfold x10
    refine Alter.and ?_ (alter_forEach _ _ _ ?_)
    · assumption
    · intro a12 b13
      beta_reduce
      refine Alter.step ?_ (alter_degrade ..) rfl
      exact Alter.refl _ _
  clear_value x10
  extract_lets +onlyGivenNames x14
  have h15 : Alter 89287590888141551079987418759168 s x14 := by
    unfold x14
    refine Alter.and ?_ (alter_forEach _ _ _ ?_)
    · assumption
    · intro a16 b17
      beta_reduce
      refine Alter.step ?_ (alter_holdEnds ..) rfl
      exact Alter.refl _ _
  clear_value x14
  extract_lets +onlyGivenNames x18
  have h19 : Alter 89287590888141551079987418759168 s x18 := by
    unfold x18
    refine Alter.and ?_ (alter_forEach _ _ _ ?_)
    · assumption
    · intro a20 b21
      beta_reduce
      refine Alter.step ?_ (alter_handBack ..) rfl
      exact Alter.refl _ _
  clear_value x18
  extract_lets +onlyGivenNames x22
  have h23 : Alter 89287590888141551079987418759168 s x22 := by
    unfold x22
    refine Alter.step ?_ (alter_releasesDue ..) rfl
    assumption
  clear_value x22
  extract_lets +onlyGivenNames x24
  have h25 : Alter 89287590888141551079987418759168 s x24 := by
    unfold x24
    refine Alter.and ?_ (alter_forEach _ _ _ ?_)
    · assumption
    · intro a26 b27
      beta_reduce
      refine Alter.step ?_ (alter_unitBoundary ..) rfl
      exact Alter.refl _ _
  clear_value x24
  extract_lets +onlyGivenNames x28
  have h29 : Alter 89287590888141551079987418759168 s x28 := by
    unfold x28
    refine Alter.and ?_ (alter_forEach _ _ _ ?_)
    · assumption
    · intro a30 b31
      beta_reduce
      refine Alter.step ?_ (alter_tripDrop ..) rfl
      exact Alter.refl _ _
  clear_value x28
  extract_lets +onlyGivenNames x32
  have h33 : Alter 89287590888141551079987418759168 s x32 := by
    unfold x32
    refine Alter.step ?_ (alter_tbBoundary ..) rfl
    assumption
  clear_value x32
  extract_lets +onlyGivenNames x34
  have h35 : Alter 89287590888141551079987418759168 s x34 := by
    unfold x34
    refine Alter.and ?_ (alter_forEach _ _ _ ?_)
    · assumption
    · intro a36 b37
      beta_reduce
      refine Alter.step ?_ (alter_adcBoundary ..) rfl
      exact Alter.refl _ _
  clear_value x34
  extract_lets +onlyGivenNames x38
  have h39 : Alter 89287590888141551079987418759168 s x38 := by
    unfold x38
    refine Alter.and ?_ (alter_forEach _ _ _ ?_)
    · assumption
    · intro a40 b41
      beta_reduce
      refine Alter.step ?_ (alter_selReload ..) rfl
      exact Alter.refl _ _
  clear_value x38
  extract_lets +onlyGivenNames x42
  subst x42
  extract_lets +onlyGivenNames x43
  have h44 : Alter 89287590888141551079987418759168 s x43 := by
    unfold x43
    refine Alter.step ?_ (alter_chopSync ..) rfl
    assumption
  clear_value x43
  extract_lets +onlyGivenNames x45
  have h46 : Alter 89287590888141551079987418759168 s x45 := by
    unfold x45
    refine alter_ite (fun _ => ?_) (fun _ => ?_)
    · assumption
    · refine Alter.step ?_ (alter_chopHeat ..) rfl
      assumption
  clear_value x45
  extract_lets +onlyGivenNames x47
  have h48 : Alter 89287590888141551079987418759168 s x47 := by
    unfold x47
    refine Alter.step ?_ (alter_setFld ..) (by decide)
    assumption
  clear_value x47
  extract_lets +onlyGivenNames x49
  subst x49
  extract_lets +onlyGivenNames x50
  have h51 : Alter 89287590888141551079987418759168 s x50 := by
    unfold x50
    refine alter_ite (fun _ => ?_) (fun _ => ?_)
    · refine Alter.step ?_ (alter_dcl _ _) rfl
      assumption
    · assumption
  clear_value x50
  extract_lets +onlyGivenNames x52
  subst x52
  extract_lets +onlyGivenNames x53
  have h54 : Alter 89287590888141551079987418759168 s x53 := by
    unfold x53
    refine alter_ite (fun _ => ?_) (fun _ => ?_)
    · assumption
    · refine Alter.and ?_ (alter_forEach _ _ _ ?_)
      · assumption
      · intro a55 b56
        beta_reduce
        refine Alter.step ?_ (alter_lifeEstimate ..) rfl
        exact Alter.refl _ _
  clear_value x53
  extract_lets +onlyGivenNames x57
  subst x57
  extract_lets +onlyGivenNames x58
  subst x58
  extract_lets +onlyGivenNames x59
  have h60 : Alter 89287590888141551079987418759168 s x59 := by
    unfold x59
    refine Alter.and ?_ (alter_forEach _ _ _ ?_)
    · assumption
    · intro a61 b62
      beta_reduce
      refine Alter.step ?_ (alter_handTurn ..) rfl
      exact Alter.refl _ _
  clear_value x59
  extract_lets +onlyGivenNames x63
  subst x63
  extract_lets +onlyGivenNames x64
  have h65 : Alter 89287590888141551079987418759168 s x64 := by
    unfold x64
    refine Alter.and ?_ (alter_forEach _ _ _ ?_)
    · assumption
    · intro a66 b67
      beta_reduce
      extract_lets +onlyGivenNames x68
      subst x68
      refine Alter.step ?_ (alter_noticePut ..) rfl
      refine Alter.step ?_ (alter_setGraph ..) rfl
      exact Alter.refl _ _
  clear_value x64
  extract_lets +onlyGivenNames x69
  have h70 : Alter 89287590888141551079987418759168 s x69 := by
    unfold x69
    refine Alter.and ?_ (alter_forEach _ _ _ ?_)
    · assumption
    · intro a71 b72
      beta_reduce
      refine Alter.step ?_ (alter_boundaryTrip ..) rfl
      exact Alter.refl _ _
  clear_value x69
  refine Alter.step ?_ (alter_stopUnwanted ..) rfl
  assumption

theorem alter_periodBoundary (j : Nat) (vl : Nat) (s : State) : Alter 99428795689967386291961044402176 s (periodBoundary j vl s) := by
  unfold periodBoundary
  refine alter_ite (fun _ => ?_) (fun _ => ?_)
  · exact Alter.refl _ _
  · extract_lets +onlyGivenNames x1
    have h2 : Alter 99428795689967386291961044402176 s x1 := by
      unfold x1
      refine Alter.step ?_ (alter_commitDeadline ..) rfl
      exact Alter.refl _ _
    clear_value x1
    refine Alter.step ?_ (alter_boundary ..) rfl
    refine Alter.step ?_ (alter_setVlink ..) rfl
    refine Alter.step ?_ (alter_until ..) rfl
    assumption

theorem alter_execPeriodBoundary (e : Nat) (j : Fin 6) (vl : BitVec 13) (s : State) : Ends 99428795689967386291961044402176 s (execPeriodBoundary e j vl s) := by
  unfold execPeriodBoundary
  refine ends_next ?_
  refine Alter.step ?_ (alter_periodBoundary ..) rfl
  refine Alter.step ?_ (alter_tick ..) rfl
  exact Alter.refl _ _

theorem alter_gateEdgeAll (k : Nat) (s : State) : Alter 5571736098952306303665958813696 s (gateEdgeAll k s) := by
  unfold gateEdgeAll
  split
  · rename_i z1 z2
    exact Alter.refl _ _
  · rename_i z3 z4 z5 z6
    extract_lets +onlyGivenNames x7
    have h8 : Alter 5571736098952306303665958813696 s x7 := by
      unfold x7
      refine Alter.step ?_ (alter_gateEdge ..) rfl
      exact Alter.refl _ _
    clear_value x7
    refine alter_ite (fun _ => ?_) (fun _ => ?_)
    · refine Alter.step ?_ (alter_chopEdge ..) rfl
      assumption
    · assumption

theorem alter_execGateEdge (e : Nat) (k : Fin 33) (s : State) : Ends 5571736098952306303665958813696 s (execGateEdge e k s) := by
  unfold execGateEdge
  refine ends_next ?_
  refine Alter.step ?_ (alter_gateEdgeAll ..) rfl
  refine Alter.step ?_ (alter_tick ..) rfl
  exact Alter.refl _ _

theorem alter_graphActivation (g : Nat) (dur : Nat) (lag : Nat) (s : State) : Alter 10487866793452701336683161845760 s (graphActivation g dur lag s) := by
  unfold graphActivation
  refine alter_ite (fun _ => ?_) (fun _ => ?_)
  · exact Alter.refl _ _
  · extract_lets +onlyGivenNames x1
    have h2 : Alter 10487866793452701336683161845760 s x1 := by
      unfold x1
      refine Alter.step ?_ (alter_actBegin ..) rfl
      refine alter_ite (fun _ => ?_) (fun _ => ?_)
      · refine Alter.and ?_ (alter_forEach _ _ _ ?_)
        · exact Alter.refl _ _
        · intro a3 b4
          beta_reduce
          refine Alter.step ?_ (alter_actSpots ..) rfl
          exact Alter.refl _ _
      · exact Alter.refl _ _
    clear_value x1
    split
    · rename_i z5 z6
      assumption
    · rename_i z7 z8 z9
      refine alter_ite (fun _ => ?_) (fun _ => ?_)
      · assumption
      · extract_lets +onlyGivenNames x10
        have h11 : Alter 10487866793452701336683161845760 s x10 := by
          unfold x10
          refine alter_ite (fun _ => ?_) (fun _ => ?_)
          · refine Alter.step ?_ (alter_acRun ..) rfl
            assumption
          · assumption
        clear_value x10
        extract_lets +onlyGivenNames x12
        have h13 : Alter 10487866793452701336683161845760 s x12 := by
          unfold x12
          refine alter_ite (fun _ => ?_) (fun _ => ?_)
          · refine Alter.step ?_ (alter_meterRun ..) rfl
            assumption
          · assumption
        clear_value x12
        refine Alter.step ?_ (alter_actGo ..) rfl
        assumption

theorem alter_execGraphActivation (e : Nat) (g : Fin 8) (dur : Nat) (lag : Nat) (s : State) : Ends 10487866793452701336683161845760 s (execGraphActivation e g dur lag s) := by
  unfold execGraphActivation
  refine ends_next ?_
  refine Alter.step ?_ (alter_graphActivation ..) rfl
  refine Alter.step ?_ (alter_tick ..) rfl
  exact Alter.refl _ _

theorem alter_queArrive (p : Nat × QEnt) (s : State) : Alter 346623305594810086954335469568 s (queArrive p s) := by
  unfold queArrive
  extract_lets +onlyGivenNames x1
  subst x1
  extract_lets +onlyGivenNames x2
  subst x2
  refine alter_ite (fun _ => ?_) (fun _ => ?_)
  · refine Alter.step ?_ (alter_chgArrive ..) rfl
    refine Alter.step ?_ (alter_meanArrive ..) rfl
    refine Alter.step ?_ (alter_queWrite ..) rfl
    exact Alter.refl _ _
  · refine Alter.step ?_ (alter_queWrite ..) rfl
    exact Alter.refl _ _

theorem alter_queueWriteAll (k : Nat) (s : State) : Alter 10487828107715793204107313938432 s (queueWriteAll k s) := by
  unfold queueWriteAll
  split
  · rename_i z1 z2
    exact Alter.refl _ _
  · rename_i z3 z4 z5 z6
    extract_lets +onlyGivenNames x7
    subst x7
    extract_lets +onlyGivenNames x8
    have h9 : Alter 10487828107715793204107313938432 s x8 := by
      unfold x8
      refine Alter.and ?_ (alter_forEach _ _ _ ?_)
      · exact Alter.refl _ _
      · intro a10 b11
        beta_reduce
        refine Alter.step ?_ (alter_actGo ..) rfl
        exact Alter.refl _ _
    clear_value x8
    extract_lets +onlyGivenNames x12
    subst x12
    extract_lets +onlyGivenNames x13
    have h14 : Alter 10487828107715793204107313938432 s x13 := by
      unfold x13
      refine Alter.and ?_ (alter_forEach _ _ _ ?_)
      · refine Alter.step ?_ (alter_setXf ..) rfl
        assumption
      · intro a15 b16
        beta_reduce
        refine Alter.step ?_ (alter_queArrive ..) rfl
        exact Alter.refl _ _
    clear_value x13
    refine Alter.and ?_ (alter_forEach _ _ _ ?_)
    · assumption
    · intro a17 b18
      beta_reduce
      refine Alter.step ?_ (alter_actGo ..) rfl
      exact Alter.refl _ _

theorem alter_execQueueWrite (e : Nat) (k : Fin 1024) (s : State) : Ends 10487828107826473668549571248128 s (execQueueWrite e k s) := by
  unfold execQueueWrite
  refine ends_next ?_
  refine Alter.step ?_ (alter_queueWriteAll ..) rfl
  refine Alter.step ?_ (alter_tick ..) rfl
  exact Alter.refl _ _

end Sys2Proof.Machine
end

