-- ==== Sys2Proof/Laws/Boot.lean ====
section
/-! SUPPORT. What each operation of `Sys2Proof.Machine.Boot` may change (`Alter`), one lemma an operation; for a command,
that it answers a next state (`Ends`). -/

namespace Sys2Proof.Machine

theorem alter_islKeep (old : State) (n : Nat) (s : State) : Alter 77371400029288856857608192 s (islKeep old n s) := by
  unfold islKeep
  extract_lets +onlyGivenNames x1
  subst x1
  refine alter_ite (fun _ => ?_) (fun _ => ?_)
  · exact Alter.refl _ _
  · extract_lets +onlyGivenNames x2
    subst x2
    extract_lets +onlyGivenNames x3
    have h4 : Alter 77371400029288856857608192 s x3 := by
      unfold x3
      refine Alter.step ?_ (alter_setBit ..) (rm_high (by simp only [R.ISL_STAT]; omega) rfl)
      refine Alter.step ?_ (alter_setBit ..) (rm_high (by simp only [R.ISL_STAT]; omega) rfl)
      exact Alter.refl _ _
    clear_value x3
    extract_lets +onlyGivenNames x5
    have h6 : Alter 77371400029288856857608192 s x5 := by
      unfold x5
      refine Alter.step ?_ (alter_setBit ..) (rm_high (by simp only [R.ISL_STAT]; omega) rfl)
      refine Alter.step ?_ (alter_setBit ..) (rm_high (by simp only [R.ISL_STAT]; omega) rfl)
      assumption
    clear_value x5
    extract_lets +onlyGivenNames x7
    have h8 : Alter 77371400029288856857608192 s x7 := by
      unfold x7
      refine Alter.step ?_ (alter_setBit ..) (rm_high (by simp only [R.ISL_STAT]; omega) rfl)
      assumption
    clear_value x7
    refine Alter.step ?_ (alter_applyFallback ..) rfl
    refine Alter.step ?_ (alter_setBit ..) (rm_high (by simp only [R.PROT_IST]; omega) rfl)
    assumption

theorem alter_lvKeep (old : State) (s : State) : Alter 147573952589676412928 s (lvKeep old s) := by
  unfold lvKeep
  extract_lets +onlyGivenNames x1
  have h2 : Alter 147573952589676412928 s x1 := by
    unfold x1
    refine Alter.step ?_ (alter_setBit ..) (by decide)
    exact Alter.refl _ _
  clear_value x1
  refine Alter.step ?_ (alter_setFld ..) (by decide)
  assumption

theorem alter_resetState (warm : Bool) (kept : List Nat) (s : State) : Alter 3992876284213282427893207603460702207 s
    { pending := s.pending, dt := s.dt, el := s.el, free := s.free, boot := s.boot
      regs := s.regs.filter fun p => kept.contains p.1
      ev := if warm then s.ev else { s.ev with buf := [], lostRun := 0 }
      audit := if warm then s.audit else { s.audit with buf := [], lostRun := 0, fullRun := false }
      rcd := { lastNum := s.rcd.lastNum, slots := s.rcd.slots, lastSlot := s.rcd.lastSlot }
      dtHi := if warm then s.dtHi else []
      lastReq := if warm then s.lastReq else []
      lockouts := if warm then s.lockouts else []
      key := s.key, trips := s.trips
      isl := (s.isl.map (islRecKeep warm)).filter fun p => p.2 != {}
      act := (s.act.filter fun p => p.2.mirror.isSome).map fun p => (p.1, { mirror := p.2.mirror : ActSt })
      life := s.life
      trx := { stored := s.trx.stored, demag := s.trx.demag }
      plc := { slots := s.plc.slots, gen := s.plc.gen }
      sto := { s.sto with wear := false }
      upd := s.upd, extest := s.extest } := by
  constructor
  case low =>
    intro i hi e
    exfalso
    interval_cases i <;> exact absurd e (by decide)
  case inv =>
    intro _ h
    exact {
      regs := AMap.wf_filter _ _ _ h.regs
      isl := AMap.wf_trim _ _ (AMap.rising_map (islRecKeep warm) (fun _ => rfl) _ _ (Bool.and_eq_true _ _ ▸ h.isl).1)
      sel := rfl
      conv := rfl
      unit := rfl
      tb := rfl
      events := by cases warm; exacts [Nat.zero_le _, h.events]
      audit := by cases warm; exacts [Nat.zero_le _, h.audit]
      order := rfl
      four := Nat.zero_le _ }
  all_goals
    intro e
    first | rfl | exact Nat.le_refl _ | exact absurd e (by decide)

theorem alter_resetAll (warm : Bool) (s : State) : Alter 3992876284213282427893207603460702207 s (resetAll warm s) := by
  unfold resetAll
  extract_lets +onlyGivenNames s1
  extract_lets +onlyGivenNames s2
  extract_lets +onlyGivenNames busy
  extract_lets +onlyGivenNames kept
  extract_lets +onlyGivenNames e1
  extract_lets +onlyGivenNames e2
  extract_lets +onlyGivenNames e3
  extract_lets +onlyGivenNames t1
  extract_lets +onlyGivenNames t2
  extract_lets +onlyGivenNames t3
  extract_lets +onlyGivenNames t4
  have h1 : Alter 3992876284213282427893207603460702207 s s1 := by
    unfold s1
    split
    · refine Alter.and ?_ (alter_forEach _ _ _ ?_)
      · exact Alter.refl _ _
      · intro a b
        exact (alter_sessionEnd ..).mono rfl
    · exact Alter.refl _ _
  clear_value s1
  have h2 : Alter 3992876284213282427893207603460702207 s s2 := by
    unfold s2
    exact (h1.step (alter_recEnd ..) rfl).step (alter_updReset ..) rfl
  subst e1 e2 e3
  clear_value s2 busy kept
  have h3 : Alter 3992876284213282427893207603460702207 s t1 := by
    refine h2.and ?_
    unfold t1
    exact alter_resetState ..
  clear_value t1
  have h4 : Alter 3992876284213282427893207603460702207 s t2 := by
    unfold t2
    refine Alter.and ?_ (alter_forEach _ _ _ ?_)
    · exact h3.step (alter_lvKeep ..) rfl
    · intro a b
      exact (alter_islKeep ..).mono rfl
  clear_value t2
  have h5 : Alter 3992876284213282427893207603460702207 s t3 := by
    unfold t3
    split
    · exact h4.step (alter_setBit ..) (rm_high (by decide) rfl)
    · exact h4
  clear_value t3
  have h6 : Alter 3992876284213282427893207603460702207 s t4 := by
    unfold t4
    exact h5.step (alter_setFld ..) (rm_high (by decide) rfl)
  clear_value t4
  exact h6.step (alter_setFld ..) (rm_high (by decide) rfl)

theorem alter_bootAt (p : Phase) (s : State) : Alter 590295810358705651712 s (bootAt p s) := by
  unfold bootAt
  refine Alter.step ?_ (alter_boot _ _) rfl
  exact Alter.refl _ _

theorem alter_coldCause (s : State) : Alter 147573952624036151296 s (coldCause s) := by
  unfold coldCause
  extract_lets +onlyGivenNames x1
  subst x1
  refine Alter.step ?_ (alter_setReg ..) (by decide)
  exact Alter.refl _ _

theorem alter_dt_boot (s : State) (dt' : Nat) (boot' : Boot) : Alter 627189298506124754944 s { s with dt := dt', boot := boot' } := by
  constructor
  case inv => exact fun _ i => { i with  }
  all_goals intros
  all_goals first | rfl | exact List.prefix_refl _ | exact Nat.le_refl _ | assumption | (rename_i b; exact absurd b (by decide))

theorem alter_coldHold (s : State) : Alter 3992876284213282427893207603460702207 s (coldHold s) := by
  unfold coldHold
  extract_lets +onlyGivenNames x1
  have h2 : Alter 3992876284213282427893207603460702207 s x1 := by
    unfold x1
    refine Alter.step ?_ (alter_resetAll ..) rfl
    exact Alter.refl _ _
  clear_value x1
  extract_lets +onlyGivenNames x3
  subst x3
  refine Alter.step ?_ (alter_coldCause ..) rfl
  refine Alter.step ?_ (alter_dt_boot _ _ _) rfl
  assumption

theorem alter_supplyFall (vcore : Bool) (vio : Bool) (s : State) : Alter 3992876284213282427893207603460702207 s (supplyFall vcore vio s) := by
  unfold supplyFall
  refine alter_ite (fun _ => ?_) (fun _ => ?_)
  · exact Alter.refl _ _
  · extract_lets +onlyGivenNames x1
    subst x1
    extract_lets +onlyGivenNames x2
    subst x2
    extract_lets +onlyGivenNames x3
    subst x3
    extract_lets +onlyGivenNames x4
    have h5 : Alter 3992876284213282427893207603460702207 s x4 := by
      unfold x4
      refine Alter.step ?_ (alter_boot _ _) rfl
      exact Alter.refl _ _
    clear_value x4
    extract_lets +onlyGivenNames x6
    have h7 : Alter 3992876284213282427893207603460702207 s x6 := by
      unfold x6
      refine alter_ite (fun _ => ?_) (fun _ => ?_)
      · refine Alter.step ?_ (alter_setBit ..) (by decide)
        assumption
      · assumption
    clear_value x6
    extract_lets +onlyGivenNames x8
    have h9 : Alter 3992876284213282427893207603460702207 s x8 := by
      unfold x8
      refine alter_ite (fun _ => ?_) (fun _ => ?_)
      · refine Alter.step ?_ (alter_setBit ..) (by decide)
        assumption
      · assumption
    clear_value x8
    refine Alter.step ?_ (alter_bootAt ..) rfl
    refine Alter.step ?_ (alter_coldHold ..) rfl
    assumption

theorem alter_execSupplyFall (e : Nat) (vcore : Bool) (vio : Bool) (s : State) : Ends 3992876284213282427893207603460702207 s (execSupplyFall e vcore vio s) := by
  unfold execSupplyFall
  refine ends_next ?_
  refine Alter.step ?_ (alter_supplyFall ..) rfl
  refine Alter.step ?_ (alter_tick ..) rfl
  exact Alter.refl _ _

theorem alter_supplyGood (fromBelow : Bool) (s : State) : Alter 737869763051461279744 s (supplyGood fromBelow s) := by
  unfold supplyGood
  refine alter_ite (fun _ => ?_) (fun _ => ?_)
  · exact Alter.refl _ _
  · extract_lets +onlyGivenNames x1
    subst x1
    extract_lets +onlyGivenNames x2
    have h3 : Alter 737869763051461279744 s x2 := by
      unfold x2
      refine Alter.step ?_ (alter_boot _ _) rfl
      exact Alter.refl _ _
    clear_value x2
    extract_lets +onlyGivenNames x4
    have h5 : Alter 737869763051461279744 s x4 := by
      unfold x4
      refine Alter.step ?_ (alter_setBit ..) (by decide)
      refine Alter.step ?_ (alter_setBit ..) (by decide)
      assumption
    clear_value x4
    refine Alter.step ?_ (alter_bootAt ..) rfl
    refine Alter.step ?_ (alter_coldCause ..) rfl
    assumption

theorem alter_execSupplyGood (e : Nat) (fromBelow : Bool) (s : State) : Ends 848550227493718589440 s (execSupplyGood e fromBelow s) := by
  unfold execSupplyGood
  refine ends_next ?_
  refine Alter.step ?_ (alter_supplyGood ..) rfl
  refine Alter.step ?_ (alter_tick ..) rfl
  exact Alter.refl _ _

theorem alter_resetRelease (s : State) : Alter 3992876284213282427893207603460702207 s (resetRelease s) := by
  unfold resetRelease
  refine alter_ite (fun _ => ?_) (fun _ => ?_)
  · exact Alter.refl _ _
  · refine Alter.step ?_ (alter_bootAt ..) rfl
    refine Alter.step ?_ (alter_coldHold ..) rfl
    refine Alter.step ?_ (alter_tick ..) rfl
    exact Alter.refl _ _

theorem alter_execResetRelease (e : Nat) (s : State) : Ends 3992876284213282427893207603460702207 s (execResetRelease e s) := by
  unfold execResetRelease
  refine ends_next ?_
  refine Alter.step ?_ (alter_resetRelease ..) rfl
  refine Alter.step ?_ (alter_tick ..) rfl
  exact Alter.refl _ _

theorem alter_resumeDt (s : State) : Alter 627189298506124754944 s (resumeDt s) := by
  unfold resumeDt
  split
  · rename_i z1 z2
    exact Alter.refl _ _
  · rename_i z3 z4 z5
    extract_lets +onlyGivenNames x6
    subst x6
    refine Alter.step ?_ (alter_dt_boot _ _ _) rfl
    exact Alter.refl _ _

theorem alter_warmReset (cause : Fld) (pin : Bool) (s : State) : Alter 3992876284213282427893207603460702207 s (warmReset cause pin s) := by
  unfold warmReset
  extract_lets +onlyGivenNames x1
  have h2 : Alter 3992876284213282427893207603460702207 s x1 := by
    unfold x1
    refine Alter.step ?_ (alter_resumeDt ..) rfl
    exact Alter.refl _ _
  clear_value x1
  extract_lets +onlyGivenNames x3
  have h4 : Alter 3992876284213282427893207603460702207 s x3 := by
    unfold x3
    refine Alter.step ?_ (alter_setBit ..) (by decide)
    refine Alter.step ?_ (alter_resetAll ..) rfl
    assumption
  clear_value x3
  extract_lets +onlyGivenNames x5
  subst x5
  refine Alter.step ?_ (alter_bootAt ..) rfl
  refine Alter.step ?_ (alter_boot _ _) rfl
  assumption

theorem alter_pulseResets (ns : Nat) (s : State) : Alter 295147905179352825856 s (pulseResets ns s).2 := by
  unfold pulseResets
  refine alter_ite_snd (fun _ => ?_) (fun _ => ?_)
  · dsimp only
    exact Alter.refl _ _
  · refine alter_ite_snd (fun _ => ?_) (fun _ => ?_)
    · dsimp only
      exact Alter.refl _ _
    · split
      · rename_i z1 z2 z3 z4
        have h5 : Alter 295147905179352825856 s z3 := by
          refine (congrArg (Alter _ _) (congrArg (Prod.snd) z4)).mp ?_
          refine Alter.step ?_ (alter_draw ..) rfl
          exact Alter.refl _ _
        dsimp only
        assumption

theorem alter_nresetLow (ns : Nat) (s : State) : Alter 3992876284213282427893207603460702207 s (nresetLow ns s) := by
  unfold nresetLow
  split
  · rename_i z1 z2 z3 z4
    have h5 : Alter 3992876284213282427893207603460702207 s z3 := by
      refine (congrArg (Alter _ _) (congrArg (Prod.snd) z4)).mp ?_
      refine Alter.step ?_ (alter_pulseResets ..) rfl
      exact Alter.refl _ _
    refine alter_ite (fun _ => ?_) (fun _ => ?_)
    · assumption
    · refine alter_ite (fun _ => ?_) (fun _ => ?_)
      · extract_lets +onlyGivenNames x6
        have h7 : Alter 3992876284213282427893207603460702207 s x6 := by
          unfold x6
          refine Alter.step ?_ (alter_setBit ..) (by decide)
          assumption
        clear_value x6
        refine Alter.step ?_ (alter_boot _ _) rfl
        assumption
      · refine Alter.step ?_ (alter_warmReset ..) rfl
        assumption

theorem alter_execNresetLow (e : Nat) (ns : Nat) (s : State) : Ends 3992876284213282427893207603460702207 s (execNresetLow e ns s) := by
  unfold execNresetLow
  refine ends_next ?_
  refine Alter.step ?_ (alter_nresetLow ..) rfl
  refine Alter.step ?_ (alter_tick ..) rfl
  exact Alter.refl _ _

theorem alter_resetDelay (s : State) : Alter 3992876284213282427893207603460702207 s (resetDelay s) := by
  unfold resetDelay
  split
  · rename_i z1 z2 z3
    refine alter_ite (fun _ => ?_) (fun _ => ?_)
    · refine Alter.step ?_ (alter_warmReset ..) rfl
      refine Alter.step ?_ (alter_until ..) rfl
      exact Alter.refl _ _
    · exact Alter.refl _ _
  · rename_i z4 z5
    exact Alter.refl _ _

theorem alter_execResetDelayExpiry (e : Nat) (s : State) : Ends 3992876284213282427893207603460702207 s (execResetDelayExpiry e s) := by
  unfold execResetDelayExpiry
  refine ends_next ?_
  refine Alter.step ?_ (alter_resetDelay ..) rfl
  refine Alter.step ?_ (alter_tick ..) rfl
  exact Alter.refl _ _

theorem alter_watchdogReset (s : State) : Alter 3992876284213282427893207603460702207 s (watchdogReset s) := by
  unfold watchdogReset
  split
  · rename_i z1 z2 z3
    refine Alter.step ?_ (alter_warmReset ..) rfl
    refine Alter.step ?_ (alter_until ..) rfl
    exact Alter.refl _ _
  · rename_i z4 z5
    exact Alter.refl _ _

theorem alter_execWatchdogReset (e : Nat) (s : State) : Ends 3992876284213282427893207603460702207 s (execWatchdogReset e s) := by
  unfold execWatchdogReset
  refine ends_next ?_
  refine Alter.step ?_ (alter_watchdogReset ..) rfl
  refine Alter.step ?_ (alter_tick ..) rfl
  exact Alter.refl _ _

theorem alter_warmRelease (s : State) : Alter 700976274800962961408 s (warmRelease s) := by
  unfold warmRelease
  refine alter_ite (fun _ => ?_) (fun _ => ?_)
  · exact Alter.refl _ _
  · extract_lets +onlyGivenNames x1
    have h2 : Alter 700976274800962961408 s x1 := by
      unfold x1
      refine alter_ite (fun _ => ?_) (fun _ => ?_)
      · exact Alter.refl _ _
      · refine Alter.step ?_ (alter_tick ..) rfl
        exact Alter.refl _ _
    clear_value x1
    refine Alter.step ?_ (alter_bootAt ..) rfl
    refine Alter.step ?_ (alter_boot _ _) rfl
    assumption

theorem alter_execWarmResetRelease (e : Nat) (s : State) : Ends 700976274800962961408 s (execWarmResetRelease e s) := by
  unfold execWarmResetRelease
  refine ends_next ?_
  refine Alter.step ?_ (alter_warmRelease ..) rfl
  refine Alter.step ?_ (alter_tick ..) rfl
  exact Alter.refl _ _

theorem alter_toFallback (s : State) : Alter 94594903609982580948992 s (toFallback s) := by
  unfold toFallback
  extract_lets +onlyGivenNames x1
  subst x1
  extract_lets +onlyGivenNames x2
  have h3 : Alter 94594903609982580948992 s x2 := by
    unfold x2
    refine Alter.step ?_ (alter_setBit ..) (by decide)
    refine Alter.step ?_ (alter_setBit ..) (by decide)
    exact Alter.refl _ _
  clear_value x2
  refine alter_ite (fun _ => ?_) (fun _ => ?_)
  · assumption
  · refine Alter.step ?_ (alter_raise ..) rfl
    refine Alter.step ?_ (alter_setBit ..) (by decide)
    refine Alter.step ?_ (alter_setBit ..) (by decide)
    assumption

theorem alter_crystalLoss (s : State) : Alter 84166232945507252418287484796928 s (crystalLoss s) := by
  unfold crystalLoss
  refine alter_ite (fun _ => ?_) (fun _ => ?_)
  · exact Alter.refl _ _
  · refine Alter.step ?_ (alter_enterSafe ..) rfl
    refine Alter.step ?_ (alter_toFallback ..) rfl
    exact Alter.refl _ _

theorem alter_execCrystalLoss (e : Nat) (s : State) : Ends 84166232945617932882729742106624 s (execCrystalLoss e s) := by
  unfold execCrystalLoss
  refine ends_next ?_
  refine Alter.step ?_ (alter_crystalLoss ..) rfl
  refine Alter.step ?_ (alter_tick ..) rfl
  exact Alter.refl _ _

theorem alter_crystalSupervised (good : Bool) (s : State) : Alter 84166232946134441716793609551872 s (crystalSupervised good s) := by
  unfold crystalSupervised
  refine alter_ite (fun _ => ?_) (fun _ => ?_)
  · exact Alter.refl _ _
  · extract_lets +onlyGivenNames x1
    have h2 : Alter 84166232946134441716793609551872 s x1 := by
      unfold x1
      refine Alter.step ?_ (alter_bootAt ..) rfl
      refine Alter.step ?_ (alter_resumeDt ..) rfl
      exact Alter.refl _ _
    clear_value x1
    extract_lets +onlyGivenNames x3
    subst x3
    extract_lets +onlyGivenNames x4
    have h5 : Alter 84166232946134441716793609551872 s x4 := by
      unfold x4
      refine Alter.step ?_ (alter_setReg ..) (by decide)
      assumption
    clear_value x4
    extract_lets +onlyGivenNames x6
    subst x6
    extract_lets +onlyGivenNames x7
    have h8 : Alter 84166232946134441716793609551872 s x7 := by
      unfold x7
      refine Alter.step ?_ (alter_boot _ _) rfl
      assumption
    clear_value x7
    refine alter_ite (fun _ => ?_) (fun _ => ?_)
    · refine Alter.step ?_ (alter_setBit ..) (by decide)
      refine Alter.step ?_ (alter_setBit ..) (by decide)
      refine Alter.step ?_ (alter_setBit ..) (by decide)
      assumption
    · refine Alter.step ?_ (alter_enterSafe ..) rfl
      refine Alter.step ?_ (alter_toFallback ..) rfl
      assumption

theorem alter_execCrystalSupervision (e : Nat) (good : Bool) (s : State) : Ends 84166232946208228693088447758336 s (execCrystalSupervision e good s) := by
  unfold execCrystalSupervision
  refine ends_next ?_
  refine Alter.step ?_ (alter_crystalSupervised ..) rfl
  refine Alter.step ?_ (alter_tick ..) rfl
  exact Alter.refl _ _

theorem alter_imageRun (s : State) : Alter 20282409603799244376536927698944 s (imageRun s) := by
  unfold imageRun
  split
  · rename_i z1 z2 z3
    refine Alter.step ?_ (alter_putRun ..) rfl
    refine Alter.step ?_ (alter_sto _ _) rfl
    exact Alter.refl _ _
  · rename_i z4 z5
    exact Alter.refl _ _

theorem alter_bootFails (s : State) : Alter 84166232946097548228646190186496 s (bootFails s) := by
  unfold bootFails
  extract_lets +onlyGivenNames x1
  have h2 : Alter 84166232946097548228646190186496 s x1 := by
    unfold x1
    refine Alter.step ?_ (alter_setBit ..) (by decide)
    exact Alter.refl _ _
  clear_value x1
  extract_lets +onlyGivenNames x3
  subst x3
  extract_lets +onlyGivenNames x4
  have h5 : Alter 84166232946097548228646190186496 s x4 := by
    unfold x4
    refine Alter.step ?_ (alter_boot _ _) rfl
    assumption
  clear_value x4
  refine Alter.step ?_ (alter_enterSafe ..) rfl
  refine Alter.step ?_ (alter_raise ..) rfl
  assumption

theorem alter_imageLoad (d0 : Option EmmcInfo) (d1 : Option EmmcInfo) (img : Bool) (life : Bool) (s : State) : Alter 161532533641276673888741857689600 s (imageLoad d0 d1 img life s) := by
  unfold imageLoad
  refine alter_ite (fun _ => ?_) (fun _ => ?_)
  · exact Alter.refl _ _
  · extract_lets +onlyGivenNames x1
    have h2 : Alter 161532533641276673888741857689600 s x1 := by
      unfold x1
      refine Alter.step ?_ (alter_bootDevices ..) rfl
      exact Alter.refl _ _
    clear_value x1
    extract_lets +onlyGivenNames x3
    have h4 : Alter 161532533641276673888741857689600 s x3 := by
      unfold x3
      refine Alter.step ?_ (alter_imageRun ..) rfl
      assumption
    clear_value x3
    extract_lets +onlyGivenNames x5
    subst x5
    extract_lets +onlyGivenNames x6
    have h7 : Alter 161532533641276673888741857689600 s x6 := by
      unfold x6
      refine alter_ite (fun _ => ?_) (fun _ => ?_)
      · refine Alter.step ?_ (alter_boot _ _) rfl
        assumption
      · refine Alter.step ?_ (alter_bootFails ..) rfl
        assumption
    clear_value x6
    refine Alter.step ?_ (alter_bootAt ..) rfl
    refine Alter.step ?_ (alter_mapReload ..) rfl
    refine Alter.step ?_ (alter_mapReload ..) rfl
    refine Alter.step ?_ (alter_demagRestore ..) rfl
    refine Alter.step ?_ (alter_lifeRestore ..) rfl
    assumption

theorem alter_execBootImageLoad (e : Nat) (d0 : Option EmmcInfo) (d1 : Option EmmcInfo) (img : Bool) (life : Bool) (s : State) : Ends 161532533641387354353184114999296 s (execBootImageLoad e d0 d1 img life s) := by
  unfold execBootImageLoad
  refine ends_next ?_
  refine Alter.step ?_ (alter_imageLoad ..) rfl
  refine Alter.step ?_ (alter_tick ..) rfl
  exact Alter.refl _ _

theorem alter_gloveTest (pass : Bool) (s : State) : Alter 84166232946097548228646190186496 s (gloveTest pass s) := by
  unfold gloveTest
  refine alter_ite (fun _ => ?_) (fun _ => ?_)
  · exact Alter.refl _ _
  · extract_lets +onlyGivenNames x1
    subst x1
    extract_lets +onlyGivenNames x2
    subst x2
    extract_lets +onlyGivenNames x3
    have h4 : Alter 84166232946097548228646190186496 s x3 := by
      unfold x3
      refine Alter.step ?_ (alter_setBit ..) (by decide)
      exact Alter.refl _ _
    clear_value x3
    extract_lets +onlyGivenNames x5
    have h6 : Alter 84166232946097548228646190186496 s x5 := by
      unfold x5
      refine Alter.step ?_ (alter_bootAt ..) rfl
      refine Alter.step ?_ (alter_glove _ _) rfl
      assumption
    clear_value x5
    refine alter_ite (fun _ => ?_) (fun _ => ?_)
    · assumption
    · refine Alter.step ?_ (alter_enterSafe ..) rfl
      refine Alter.step ?_ (alter_raise ..) rfl
      assumption

theorem alter_execGloveSelftest (e : Nat) (pass : Bool) (s : State) : Ends 84166232946208228693088447496192 s (execGloveSelftest e pass s) := by
  unfold execGloveSelftest
  refine ends_next ?_
  refine Alter.step ?_ (alter_gloveTest ..) rfl
  refine Alter.step ?_ (alter_tick ..) rfl
  exact Alter.refl _ _

theorem alter_trainLinks (s : State) : Alter 147573952589676412928 s (trainLinks s) := by
  unfold trainLinks
  refine Alter.and ?_ (alter_forEach _ _ _ ?_)
  · exact Alter.refl _ _
  · intro a1 b2
    beta_reduce
    extract_lets +onlyGivenNames x3
    subst x3
    refine alter_ite (fun _ => ?_) (fun _ => ?_)
    · refine Alter.step ?_ (alter_setBit ..) (rm_high (by simp only [R.ISL_STAT]; omega) rfl)
      exact Alter.refl _ _
    · exact Alter.refl _ _

theorem alter_stoLevels (a : Bool) (b : Bool) (s : State) : Alter 1947111321951298230462159383429120 s (stoLevels a b s) := by
  unfold stoLevels
  extract_lets +onlyGivenNames x1
  have h2 : Alter 1947111321951298230462159383429120 s x1 := by
    unfold x1
    refine Alter.step ?_ (alter_setBit ..) (by decide)
    refine Alter.step ?_ (alter_setBit ..) (by decide)
    exact Alter.refl _ _
  clear_value x1
  refine Alter.step ?_ (alter_boot_stoHigh_stoTold _ _ _ _) rfl
  assumption

theorem alter_bootLater (s : State) : Alter 95185199420341286338560 s (bootLater s) := by
  unfold bootLater
  extract_lets +onlyGivenNames x1
  have h2 : Alter 95185199420341286338560 s x1 := by
    unfold x1
    refine Alter.and ?_ (alter_forEach _ _ _ ?_)
    · exact Alter.refl _ _
    · intro a3 b4
      beta_reduce
      refine Alter.step ?_ (alter_raise ..) rfl
      exact Alter.refl _ _
  clear_value x1
  refine Alter.step ?_ (alter_boot _ _) rfl
  assumption

theorem alter_bootEvents (s : State) : Alter 95185199420341286338560 s (bootEvents s) := by
  unfold bootEvents
  extract_lets +onlyGivenNames x1
  have h2 : Alter 95185199420341286338560 s x1 := by
    unfold x1
    refine alter_ite (fun _ => ?_) (fun _ => ?_)
    · exact Alter.refl _ _
    · refine Alter.step ?_ (alter_raise ..) rfl
      exact Alter.refl _ _
  clear_value x1
  extract_lets +onlyGivenNames x3
  have h4 : Alter 95185199420341286338560 s x3 := by
    unfold x3
    refine Alter.and ?_ (alter_forEach _ _ _ ?_)
    · assumption
    · intro a5 b6
      beta_reduce
      refine Alter.step ?_ (alter_raise ..) rfl
      exact Alter.refl _ _
  clear_value x3
  refine Alter.step ?_ (alter_boot _ _) rfl
  assumption

theorem alter_convRehold (s : State) : Alter 501288440433618905771251073024 s (convRehold s) := by
  unfold convRehold
  refine Alter.and ?_ (alter_forEach _ _ _ ?_)
  · exact Alter.refl _ _
  · intro a1 b2
    beta_reduce
    refine alter_ite (fun _ => ?_) (fun _ => ?_)
    · extract_lets +onlyGivenNames x3
      have h4 : Alter 501288440433618905771251073024 b2 x3 := by
        unfold x3
        refine Alter.step ?_ (alter_convSafe ..) rfl
        exact Alter.refl _ _
      clear_value x3
      split
      · rename_i z5 z6 z7
        refine Alter.step ?_ (alter_selHold ..) rfl
        assumption
      · rename_i z8 z9
        assumption
    · exact Alter.refl _ _

theorem alter_bootEnd (a : Bool) (b : Bool) (s : State) : Alter 2194814395517820341680164495687680 s (bootEnd a b s) := by
  unfold bootEnd
  refine alter_ite (fun _ => ?_) (fun _ => ?_)
  · exact Alter.refl _ _
  · extract_lets +onlyGivenNames x1
    have h2 : Alter 2194814395517820341680164495687680 s x1 := by
      unfold x1
      refine Alter.step ?_ (alter_trainLinks ..) rfl
      refine Alter.step ?_ (alter_bootAt ..) rfl
      refine Alter.step ?_ (alter_stoLevels ..) rfl
      exact Alter.refl _ _
    clear_value x1
    extract_lets +onlyGivenNames x3
    have h4 : Alter 2194814395517820341680164495687680 s x3 := by
      unfold x3
      refine Alter.step ?_ (alter_convRehold ..) rfl
      refine Alter.step ?_ (alter_actRestore ..) rfl
      assumption
    clear_value x3
    extract_lets +onlyGivenNames x5
    subst x5
    extract_lets +onlyGivenNames x6
    have h7 : Alter 2194814395517820341680164495687680 s x6 := by
      unfold x6
      refine Alter.step ?_ (alter_setFld ..) (by decide)
      assumption
    clear_value x6
    extract_lets +onlyGivenNames x8
    have h9 : Alter 2194814395517820341680164495687680 s x8 := by
      unfold x8
      refine Alter.step ?_ (alter_canBoot ..) rfl
      refine Alter.step ?_ (alter_bootLater ..) rfl
      refine Alter.step ?_ (alter_selEvalAll ..) rfl
      assumption
    clear_value x8
    refine Alter.step ?_ (alter_bootEvents ..) rfl
    refine Alter.step ?_ (alter_linkEval ..) rfl
    refine alter_ite (fun _ => ?_) (fun _ => ?_)
    · refine Alter.step ?_ (alter_enterReady ..) rfl
      refine Alter.step ?_ (alter_putMode ..) rfl
      refine Alter.step ?_ (alter_nfault _ _) rfl
      assumption
    · refine Alter.step ?_ (alter_safeEntry ..) rfl
      assumption

theorem alter_execBootEnd (e : Nat) (a : Bool) (b : Bool) (s : State) : Ends 2194814395517931022144606752997376 s (execBootEnd e a b s) := by
  unfold execBootEnd
  refine ends_next ?_
  refine Alter.step ?_ (alter_bootEnd ..) rfl
  refine Alter.step ?_ (alter_tick ..) rfl
  exact Alter.refl _ _

theorem alter_wakePut (cause : Nat) (s : State) : Alter 9903615499482462540479332352 s (wakePut cause s) := by
  unfold wakePut
  extract_lets +onlyGivenNames x1
  subst x1
  extract_lets +onlyGivenNames x2
  have h3 : Alter 9903615499482462540479332352 s x2 := by
    unfold x2
    refine Alter.step ?_ (alter_fifoMet ..) rfl
    exact Alter.refl _ _
  clear_value x2
  refine alter_ite (fun _ => ?_) (fun _ => ?_)
  · assumption
  · refine Alter.step ?_ (alter_boot _ _) rfl
    assumption

theorem alter_wake (cause : Nat) (s : State) : Alter 81139619410803352460340251066368 s (wake cause s) := by
  unfold wake
  refine alter_ite (fun _ => ?_) (fun _ => ?_)
  · exact Alter.refl _ _
  · extract_lets +onlyGivenNames x1
    have h2 : Alter 81139619410803352460340251066368 s x1 := by
      unfold x1
      refine Alter.step ?_ (alter_wakePut ..) rfl
      exact Alter.refl _ _
    clear_value x1
    extract_lets +onlyGivenNames x3
    subst x3
    extract_lets +onlyGivenNames x4
    have h5 : Alter 81139619410803352460340251066368 s x4 := by
      unfold x4
      refine Alter.step ?_ (alter_boot _ _) rfl
      assumption
    clear_value x4
    extract_lets +onlyGivenNames x6
    have h7 : Alter 81139619410803352460340251066368 s x6 := by
      unfold x6
      refine Alter.and ?_ (alter_forEach _ _ _ ?_)
      · assumption
      · intro a8 b9
        beta_reduce
        refine alter_ite (fun _ => ?_) (fun _ => ?_)
        · refine Alter.step ?_ (alter_applyFallback ..) rfl
          refine Alter.step ?_ (alter_islForget ..) rfl
          refine Alter.step ?_ (alter_setBit ..) (rm_high (by simp only [R.ISL_STAT]; omega) rfl)
          exact Alter.refl _ _
        · exact Alter.refl _ _
    clear_value x6
    extract_lets +onlyGivenNames x10
    have h11 : Alter 81139619410803352460340251066368 s x10 := by
      unfold x10
      refine Alter.step ?_ (alter_setFld ..) (by decide)
      refine Alter.step ?_ (alter_setFld ..) (by decide)
      assumption
    clear_value x10
    refine Alter.step ?_ (alter_bootAt ..) rfl
    refine Alter.step ?_ (alter_recArm ..) rfl
    refine Alter.step ?_ (alter_nfault_glove _ _ _) rfl
    assumption

theorem alter_execWakeCause (e : Nat) (cause : Fin 7) (s : State) : Ends 81139619410914032924782508376064 s (execWakeCause e cause s) := by
  unfold execWakeCause
  refine ends_next ?_
  refine Alter.step ?_ (alter_wake ..) rfl
  refine Alter.step ?_ (alter_tick ..) rfl
  exact Alter.refl _ _

theorem alter_rtcAlarm (s : State) : Alter 81139619410914032933578601398272 s (rtcAlarm s) := by
  unfold rtcAlarm
  refine alter_ite (fun _ => ?_) (fun _ => ?_)
  · exact Alter.refl _ _
  · extract_lets +onlyGivenNames x1
    have h2 : Alter 81139619410914032933578601398272 s x1 := by
      unfold x1
      refine Alter.step ?_ (alter_tick ..) rfl
      exact Alter.refl _ _
    clear_value x1
    refine Alter.step ?_ (alter_wake ..) rfl
    refine Alter.step ?_ (alter_setBit ..) (by decide)
    assumption

theorem alter_execRtcAlarm (e : Nat) (s : State) : Ends 81139619410914032933578601398272 s (execRtcAlarm e s) := by
  unfold execRtcAlarm
  refine ends_next ?_
  refine Alter.step ?_ (alter_rtcAlarm ..) rfl
  refine Alter.step ?_ (alter_tick ..) rfl
  exact Alter.refl _ _

end Sys2Proof.Machine
end

