-- ==== Sys2Proof/Laws/Fabric.lean ====
section
/-! SUPPORT. What each operation of `Sys2Proof.Machine.Fabric` may change (`Alter`), one lemma an operation; for a command,
that it answers a next state (`Ends`). -/

namespace Sys2Proof.Machine

theorem alter_paceMeasured (pace : Nat) (s : State) : Alter 95185199420341286338560 s (paceMeasured pace s) := by
  unfold paceMeasured
  refine alter_ite (fun _ => ?_) (fun _ => ?_)
  · exact Alter.refl _ _
  · extract_lets +onlyGivenNames x1
    subst x1
    extract_lets +onlyGivenNames x2
    have h3 : Alter 95185199420341286338560 s x2 := by
      unfold x2
      refine Alter.step ?_ (alter_setFld ..) (by decide)
      exact Alter.refl _ _
    clear_value x2
    extract_lets +onlyGivenNames x4
    subst x4
    extract_lets +onlyGivenNames x5
    have h6 : Alter 95185199420341286338560 s x5 := by
      unfold x5
      refine Alter.step ?_ (alter_boot _ _) rfl
      assumption
    clear_value x5
    refine alter_ite (fun _ => ?_) (fun _ => ?_)
    · assumption
    · extract_lets +onlyGivenNames x7
      have h8 : Alter 95185199420341286338560 s x7 := by
        unfold x7
        refine Alter.step ?_ (alter_setBit ..) (by decide)
        assumption
      clear_value x7
      refine alter_ite (fun _ => ?_) (fun _ => ?_)
      · assumption
      · refine Alter.step ?_ (alter_raise ..) rfl
        assumption

theorem alter_execPaceMeasurement (e : Nat) (pace : BitVec 16) (s : State) : Ends 95295879884783543648256 s (execPaceMeasurement e pace s) := by
  unfold execPaceMeasurement
  refine ends_next ?_
  refine Alter.step ?_ (alter_paceMeasured ..) rfl
  refine Alter.step ?_ (alter_tick ..) rfl
  exact Alter.refl _ _

theorem alter_handshakeEnds (level : Nat) (ticks : Nat) (s : State) : Alter 147573952589676412928 s (handshakeEnds level ticks s) := by
  unfold handshakeEnds
  extract_lets +onlyGivenNames x1
  subst x1
  refine Alter.step ?_ (alter_setFld ..) (rm_high (by simp only [R.FAB_BLOCK_MAX]; omega) rfl)
  exact Alter.refl _ _

theorem alter_execHandshakeWaitEnd (e : Nat) (level : Fin 5) (ticks : Nat) (s : State) : Ends 258254417031933722624 s (execHandshakeWaitEnd e level ticks s) := by
  unfold execHandshakeWaitEnd
  refine ends_next ?_
  refine Alter.step ?_ (alter_handshakeEnds ..) rfl
  refine Alter.step ?_ (alter_tick ..) rfl
  exact Alter.refl _ _

theorem alter_regionFails (g : Nat) (s : State) : Alter 10141204801825835211973625643008 s (regionFails g s) := by
  unfold regionFails
  refine Alter.step ?_ (alter_failReport ..) rfl
  exact Alter.refl _ _

theorem alter_tablesFail (s : State) : Alter 10180818977677870990752978305024 s (tablesFail s) := by
  unfold tablesFail
  refine Alter.step ?_ (alter_regionFails ..) rfl
  refine Alter.step ?_ (alter_mapReload ..) rfl
  refine Alter.step ?_ (alter_mapReload ..) rfl
  exact Alter.refl _ _

theorem alter_poolFails (b : Nat) (s : State) : Alter 10180818977677870990752978305024 s (poolFails b s) := by
  unfold poolFails
  split
  · rename_i z1 z2
    refine Alter.step ?_ (alter_poolRetire ..) rfl
    exact Alter.refl _ _
  · rename_i z3 z4 z5
    extract_lets +onlyGivenNames x6
    have h7 : Alter 10180818977677870990752978305024 s x6 := by
      unfold x6
      refine alter_ite (fun _ => ?_) (fun _ => ?_)
      · exact Alter.refl _ _
      · refine Alter.step ?_ (alter_poolRetire ..) rfl
        exact Alter.refl _ _
    clear_value x6
    refine alter_ite (fun _ => ?_) (fun _ => ?_)
    · assumption
    · refine alter_ite (fun _ => ?_) (fun _ => ?_)
      · refine Alter.step ?_ (alter_failReport ..) rfl
        assumption
      · refine alter_ite (fun _ => ?_) (fun _ => ?_)
        · refine Alter.step ?_ (alter_tablesFail ..) rfl
          assumption
        · refine Alter.step ?_ (alter_regionFails ..) rfl
          assumption

theorem alter_auditDamaged (k off : Nat) (s : State) : Alter 2658455991569869524739477077722398720 s (auditDamaged k off s) := by
  unfold auditDamaged
  exact alter_auditAny s _ (by simp)

theorem alter_eventDamaged (k off : Nat) (s : State) : Alter 1329227995784934762369738538861199360 s (eventDamaged k off s) := by
  unfold eventDamaged
  exact alter_evAny s _ (by simp)

theorem alter_exchangeFails (s : State) : Alter 20282409736025505896886993682432 s (exchangeFails s) := by
  unfold exchangeFails
  refine alter_ite (fun _ => ?_) (fun _ => ?_)
  · refine Alter.step ?_ (alter_leapBack ..) rfl
    exact Alter.refl _ _
  · refine Alter.step ?_ (alter_updEndActivation ..) rfl
    exact Alter.refl _ _

theorem alter_transferLost (s : State) : Alter 15211807297333656427943019151360 s (transferLost s) := by
  unfold transferLost
  refine alter_ite (fun _ => ?_) (fun _ => ?_)
  · refine Alter.step ?_ (alter_mirrorDone ..) rfl
    exact Alter.refl _ _
  · refine Alter.step ?_ (alter_plc _ _) rfl
    exact Alter.refl _ _

theorem alter_txLost (c : Nat) (k : Nat) (q : Nat) (s : State) : Alter 162259276923808267001560590974976 s (txLost c k q s) := by
  unfold txLost
  extract_lets +onlyGivenNames x1
  subst x1
  extract_lets +onlyGivenNames x2
  have h3 : Alter 162259276923808267001560590974976 s x2 := by
    unfold x2
    refine Alter.step ?_ (alter_canEnd ..) rfl
    refine Alter.step ?_ (alter_setCan ..) rfl
    exact Alter.refl _ _
  clear_value x2
  extract_lets +onlyGivenNames x4
  subst x4
  extract_lets +onlyGivenNames x5
  have h6 : Alter 162259276923808267001560590974976 s x5 := by
    unfold x5
    refine Alter.step ?_ (alter_setCan ..) rfl
    assumption
  clear_value x5
  refine alter_ite (fun _ => ?_) (fun _ => ?_)
  · refine Alter.step ?_ (alter_raise ..) rfl
    refine Alter.step ?_ (alter_canFlag ..) rfl
    assumption
  · assumption

theorem alter_bufferDrops (b : Buf) (s : State) : Alter 486777830733350721236545258389504 s (bufferDrops b s) := by
  unfold bufferDrops
  split
  · rename_i z1 z2
    refine Alter.step ?_ (alter_setPort ..) rfl
    exact Alter.refl _ _
  · rename_i z3 z4
    refine Alter.step ?_ (alter_setPort ..) rfl
    exact Alter.refl _ _
  · rename_i z5 z6
    refine Alter.step ?_ (alter_canShowRx ..) rfl
    refine Alter.step ?_ (alter_setCan ..) rfl
    exact Alter.refl _ _
  · rename_i z7 z8 z9 z10
    refine Alter.step ?_ (alter_txLost ..) rfl
    exact Alter.refl _ _
  · rename_i z11 z12 z13
    refine Alter.step ?_ (alter_setCan ..) rfl
    exact Alter.refl _ _
  · rename_i z14
    refine Alter.step ?_ (alter_pair _ _) rfl
    exact Alter.refl _ _

theorem alter_bufferLost (s : State) : Alter 486777830733645869141724611215360 s (bufferLost s) := by
  unfold bufferLost
  extract_lets +onlyGivenNames x1
  subst x1
  refine alter_ite (fun _ => ?_) (fun _ => ?_)
  · exact Alter.refl _ _
  · split
    · rename_i z2 z3 z4 z5
      have h6 : Alter 486777830733645869141724611215360 s z4 := by
        refine (congrArg (Alter _ _) (congrArg (Prod.snd) z5)).mp ?_
        refine Alter.step ?_ (alter_draw ..) rfl
        exact Alter.refl _ _
      refine Alter.step ?_ (alter_bufferDrops ..) rfl
      assumption

theorem alter_regionReact (off : Nat) (s : State) : Alter 3988290465249219824484781914817822720 s (regionReact off s) := by
  unfold regionReact
  refine alter_ite (fun _ => ?_) (fun _ => ?_)
  · refine Alter.step ?_ (alter_recEnd ..) rfl
    exact Alter.refl _ _
  · refine alter_ite (fun _ => ?_) (fun _ => ?_)
    · refine Alter.step ?_ (alter_enterSafe ..) rfl
      exact Alter.refl _ _
    · refine alter_ite (fun _ => ?_) (fun _ => ?_)
      · split
        · rename_i z1 z2 z3
          refine Alter.step ?_ (alter_failReport ..) rfl
          exact Alter.refl _ _
        · rename_i z4 z5
          exact Alter.refl _ _
      · refine alter_ite (fun _ => ?_) (fun _ => ?_)
        · refine Alter.step ?_ (alter_transferLost ..) rfl
          exact Alter.refl _ _
        · refine alter_ite (fun _ => ?_) (fun _ => ?_)
          · refine Alter.step ?_ (alter_exchangeFails ..) rfl
            exact Alter.refl _ _
          · refine alter_ite (fun _ => ?_) (fun _ => ?_)
            · refine alter_ite (fun _ => ?_) (fun _ => ?_)
              · exact Alter.refl _ _
              · refine Alter.step ?_ (alter_tablesFail ..) rfl
                exact Alter.refl _ _
            · refine alter_ite (fun _ => ?_) (fun _ => ?_)
              · extract_lets +onlyGivenNames x6
                subst x6
                refine alter_ite (fun _ => ?_) (fun _ => ?_)
                · exact Alter.refl _ _
                · refine Alter.step ?_ (alter_regionFails ..) rfl
                  exact Alter.refl _ _
              · refine alter_ite (fun _ => ?_) (fun _ => ?_)
                · refine Alter.step ?_ (alter_auditDamaged ..) rfl
                  exact Alter.refl _ _
                · refine alter_ite (fun _ => ?_) (fun _ => ?_)
                  · refine Alter.step ?_ (alter_eventDamaged ..) rfl
                    exact Alter.refl _ _
                  · refine alter_ite (fun _ => ?_) (fun _ => ?_)
                    · refine Alter.step ?_ (alter_failReport ..) rfl
                      exact Alter.refl _ _
                    · refine alter_ite (fun _ => ?_) (fun _ => ?_)
                      · refine Alter.step ?_ (alter_bufferLost ..) rfl
                        exact Alter.refl _ _
                      · refine alter_ite (fun _ => ?_) (fun _ => ?_)
                        · refine Alter.step ?_ (alter_enterSafe ..) rfl
                          exact Alter.refl _ _
                        · refine alter_ite (fun _ => ?_) (fun _ => ?_)
                          · refine Alter.step ?_ (alter_lifeLoad ..) rfl
                            exact Alter.refl _ _
                          · refine Alter.step ?_ (alter_poolFails ..) rfl
                            exact Alter.refl _ _

theorem alter_sramScrub (word : Nat) (out : Nat) (s : State) : Alter 3988290465249219824484781914817822720 s (sramScrub word out s) := by
  unfold sramScrub
  refine alter_ite (fun _ => ?_) (fun _ => ?_)
  · exact Alter.refl _ _
  · extract_lets +onlyGivenNames x1
    have h2 : Alter 3988290465249219824484781914817822720 s x1 := by
      unfold x1
      refine Alter.step ?_ (alter_setBit ..) (by decide)
      refine Alter.step ?_ (alter_setFld ..) (by decide)
      exact Alter.refl _ _
    clear_value x1
    refine alter_ite (fun _ => ?_) (fun _ => ?_)
    · refine Alter.step ?_ (alter_setBit ..) (by decide)
      refine Alter.step ?_ (alter_incFld ..) (by decide)
      assumption
    · extract_lets +onlyGivenNames x3
      have h4 : Alter 3988290465249219824484781914817822720 s x3 := by
        unfold x3
        refine Alter.step ?_ (alter_raise ..) rfl
        refine Alter.step ?_ (alter_setBit ..) (by decide)
        assumption
      clear_value x3
      refine Alter.step ?_ (alter_regionReact ..) rfl
      assumption

theorem alter_execSramScrub (e : Nat) (word : BitVec 22) (out : Fin 3) (s : State) : Ends 3988290465249219935165246357075132416 s (execSramScrub e word out s) := by
  unfold execSramScrub
  refine ends_next ?_
  refine Alter.step ?_ (alter_sramScrub ..) rfl
  refine Alter.step ?_ (alter_tick ..) rfl
  exact Alter.refl _ _

theorem alter_bscanExtest (on : Bool) (s : State) : Alter 2596148429267561388217837841022976 s (bscanExtest on s) := by
  unfold bscanExtest
  extract_lets +onlyGivenNames x1
  have h2 : Alter 2596148429267561388217837841022976 s x1 := by
    unfold x1
    refine Alter.step ?_ (alter_extest _ _) rfl
    exact Alter.refl _ _
  clear_value x1
  refine alter_ite (fun _ => ?_) (fun _ => ?_)
  · refine Alter.step ?_ (alter_setFld ..) (by decide)
    assumption
  · assumption

theorem alter_execBoundaryScanExtest (e : Nat) (on : Bool) (s : State) : Ends 2596148429267672068682280098332672 s (execBoundaryScanExtest e on s) := by
  unfold execBoundaryScanExtest
  refine ends_next ?_
  refine Alter.step ?_ (alter_bscanExtest ..) rfl
  refine Alter.step ?_ (alter_tick ..) rfl
  exact Alter.refl _ _

end Sys2Proof.Machine
end

