-- ==== Sys2Proof/Laws/Field.lean ====
section
/-! SUPPORT. What a register and a field read after an update, and what raising an event leaves as it was. -/

namespace Sys2Proof.Machine

/-! ### Fields of a word -/

/-- A word with a field replaced, bit by bit. -/
theorem Fld.set_testBit (f : Fld) (v : Reg) (x : Nat) (hf : f.lo ≤ f.hi) (hw : f.hi < 40) (b : Nat) :
    (f.set v x).toNat.testBit b =
      if b < f.lo then v.toNat.testBit b else if b ≤ f.hi then x.testBit (b - f.lo) else v.toNat.testBit b := by
  have e : f.lo + f.width = f.hi + 1 := by unfold Fld.width; omega
  have hx : x % 2 ^ f.width < 2 ^ f.width := Nat.mod_lt _ (Nat.two_pow_pos _)
  have hlo : v.toNat % 2 ^ f.lo < 2 ^ f.lo := Nat.mod_lt _ (Nat.two_pow_pos _)
  have hp : 2 ^ (f.hi + 1) = 2 ^ f.lo * 2 ^ f.width := by rw [← e, Nat.pow_add]
  have hv : v.toNat < 2 ^ 40 := v.isLt
  have hmid : x % 2 ^ f.width * 2 ^ f.lo + v.toNat % 2 ^ f.lo < 2 ^ (f.hi + 1) := by
    rw [hp]
    calc x % 2 ^ f.width * 2 ^ f.lo + v.toNat % 2 ^ f.lo < x % 2 ^ f.width * 2 ^ f.lo + 2 ^ f.lo := by omega
      _ = 2 ^ f.lo * (x % 2 ^ f.width + 1) := by ring
      _ ≤ 2 ^ f.lo * 2 ^ f.width := Nat.mul_le_mul_left _ hx
  have key : v.toNat % 2 ^ f.lo + x % 2 ^ f.width * 2 ^ f.lo + v.toNat / 2 ^ (f.hi + 1) * 2 ^ (f.hi + 1) =
      2 ^ (f.hi + 1) * (v.toNat / 2 ^ (f.hi + 1)) + (2 ^ f.lo * (x % 2 ^ f.width) + v.toNat % 2 ^ f.lo) := by ring
  unfold Fld.set
  rw [BitVec.toNat_ofNat, Nat.testBit_mod_two_pow, key]
  rw [Nat.testBit_two_pow_mul_add _ (by rw [Nat.mul_comm]; exact hmid), Nat.testBit_two_pow_mul_add _ hlo,
    Nat.testBit_mod_two_pow, Nat.testBit_mod_two_pow, Nat.testBit_div_two_pow]
  by_cases h1 : b < f.lo
  · have : b < f.hi + 1 := by omega
    have : b < 40 := by omega
    simp [*]
  · by_cases h2 : b ≤ f.hi
    · have : b < f.hi + 1 := by omega
      have : b < 40 := by omega
      have : b - f.lo < f.width := by omega
      simp [*]
    · have h3 : ¬ b < f.hi + 1 := by omega
      by_cases h4 : b < 40
      · simp [h1, h2, h3, h4, Nat.sub_add_cancel (show f.hi + 1 ≤ b by omega)]
      · have : v.toNat.testBit b = false := Nat.testBit_lt_two_pow (Nat.lt_of_lt_of_le hv (Nat.pow_le_pow_right (by decide) (by omega)))
        simp [h1, h2, h4, this]

/-- A field read bit by bit. -/
theorem Fld.get_testBit (f : Fld) (v : Reg) (b : Nat) : (f.get v).testBit b = (decide (b < f.width) && v.toNat.testBit (b + f.lo)) := by
  unfold Fld.get
  rw [Nat.testBit_mod_two_pow, Nat.testBit_div_two_pow]

/-- A field reads the value just stored, cut to its width. -/
theorem Fld.get_set_same (f : Fld) (v : Reg) (x : Nat) (hf : f.lo ≤ f.hi) (hw : f.hi < 40) :
    f.get (f.set v x) = x % 2 ^ f.width := by
  apply Nat.eq_of_testBit_eq
  intro b
  have e : f.lo + f.width = f.hi + 1 := by unfold Fld.width; omega
  rw [Fld.get_testBit, Fld.set_testBit f v x hf hw, Nat.testBit_mod_two_pow]
  by_cases hb : b < f.width
  · rw [if_neg (by omega), if_pos (by omega), Nat.add_sub_cancel]
  · simp [hb]

/-- A field beside the one replaced reads as before. -/
theorem Fld.get_set_other (f g : Fld) (v : Reg) (x : Nat) (hg : g.lo ≤ g.hi) (hw : g.hi < 40)
    (hf : f.lo ≤ f.hi) (h : f.hi < g.lo ∨ g.hi < f.lo) : f.get (g.set v x) = f.get v := by
  apply Nat.eq_of_testBit_eq
  intro b
  rw [Fld.get_testBit, Fld.get_testBit, Fld.set_testBit g v x hg hw]
  have e : f.lo + f.width = f.hi + 1 := by unfold Fld.width; omega
  by_cases hb : b < f.width
  · rcases h with h | h
    · rw [if_pos (by omega)]
    · rw [if_neg (by omega), if_neg (by omega)]
  · simp [hb]

/-! ### Registers after an update -/

@[simp] theorem State.reg_tick (e i : Nat) (s : State) : (s.tick e).reg i = s.reg i := rfl
@[simp] theorem State.fld_tick (e i : Nat) (f : Fld) (s : State) : (s.tick e).fld i f = s.fld i f := rfl
@[simp] theorem State.bit_tick (e i : Nat) (f : Fld) (s : State) : (s.tick e).bit i f = s.bit i f := rfl
@[simp] theorem State.mode_tick (e : Nat) (s : State) : (s.tick e).mode = s.mode := rfl

@[simp] theorem State.reg_setReg_same (i : Nat) (v : Reg) (s : State) : (s.setReg i v).reg i = v := by
  simp [State.reg, State.setReg]

theorem State.reg_setReg_ne {i j : Nat} (v : Reg) (s : State) (h : j ≠ i) : (s.setReg i v).reg j = s.reg j := by
  unfold State.reg State.setReg
  exact AMap.getD_put_other _ _ _ _ h

theorem State.reg_setFld_same (i : Nat) (f : Fld) (x : Nat) (s : State) : (s.setFld i f x).reg i = f.set (s.reg i) x := by
  simp [State.setFld]

theorem State.reg_setFld_ne {i j : Nat} (f : Fld) (x : Nat) (s : State) (h : j ≠ i) : (s.setFld i f x).reg j = s.reg j :=
  State.reg_setReg_ne _ _ h

theorem State.reg_setBit_ne {i j : Nat} (f : Fld) (b : Bool) (s : State) (h : j ≠ i) : (s.setBit i f b).reg j = s.reg j :=
  State.reg_setReg_ne _ _ h

theorem State.reg_incFld_ne {i j : Nat} (f : Fld) (k : Nat) (s : State) (h : j ≠ i) : (s.incFld i f k).reg j = s.reg j :=
  State.reg_setReg_ne _ _ h

theorem State.fld_setFld_same (i : Nat) (f : Fld) (x : Nat) (s : State) (hf : f.lo ≤ f.hi) (hw : f.hi < 40) :
    (s.setFld i f x).fld i f = x % 2 ^ f.width := by
  unfold State.fld
  rw [State.reg_setFld_same, Fld.get_set_same f _ x hf hw]

theorem State.fld_setFld_other (i j : Nat) (f g : Fld) (x : Nat) (s : State) (hg : g.lo ≤ g.hi) (hw : g.hi < 40)
    (hf : f.lo ≤ f.hi) (h : j ≠ i ∨ f.hi < g.lo ∨ g.hi < f.lo) : (s.setFld i g x).fld j f = s.fld j f := by
  unfold State.fld
  by_cases e : j = i
  · subst e
    rw [State.reg_setFld_same]
    exact Fld.get_set_other f g _ x hg hw hf (h.resolve_left (fun n => n rfl))
  · rw [State.reg_setFld_ne _ _ _ e]

theorem State.bit_setBit_same (i : Nat) (f : Fld) (b : Bool) (s : State) (hf : f.lo ≤ f.hi) (hw : f.hi < 40) :
    (s.setBit i f b).bit i f = b := by
  unfold State.bit State.setBit
  rw [State.fld_setFld_same i f _ s hf hw]
  have : 2 ^ f.width ≠ 1 := by unfold Fld.width; exact Nat.ne_of_gt (Nat.one_lt_two_pow (by omega))
  have h1 : 1 % 2 ^ f.width = 1 := Nat.mod_eq_of_lt (Nat.one_lt_two_pow (by unfold Fld.width; omega))
  cases b <;> simp [b2n, h1]

/-! ### The event log -/

theorem evAppend_reg (code subj flags stamp : Nat) (det : List Byte) (s : State) (i : Nat) (h : i ∉ logRegs) :
    (evAppend code subj flags stamp det s).reg i = s.reg i := by
  simp only [logRegs, List.mem_cons, List.not_mem_nil, or_false, not_or] at h
  unfold evAppend
  rw [State.reg_setFld_ne _ _ _ h.2.1, State.reg_setFld_ne _ _ _ h.1]
  rfl

theorem evIrq_reg (code : Nat) (s : State) (i : Nat) (h : i ∉ logRegs) : (evIrq code s).reg i = s.reg i := by
  simp only [logRegs, List.mem_cons, List.not_mem_nil, or_false, not_or] at h
  unfold evIrq
  extract_lets c x
  have e : x.reg i = s.reg i := by
    unfold x
    split
    · exact State.reg_setBit_ne _ _ _ h.2.2.1
    · rfl
  split
  · rw [State.reg_setBit_ne _ _ _ h.2.2.1, e]
  · exact e

theorem evLog_reg (code subj flags stamp : Nat) (det : List Byte) (s : State) (i : Nat) (h : i ∉ logRegs) :
    (evLog code subj flags stamp det s).2.reg i = s.reg i := by
  have h' := h
  simp only [logRegs, List.mem_cons, List.not_mem_nil, or_false, not_or] at h'
  unfold evLog
  split
  · extract_lets s1 s2
    have h1 : s1.reg i = s.reg i := by
      unfold s1
      rw [State.reg_setBit_ne _ _ _ h'.2.2.2.1, State.reg_incFld_ne _ _ _ h'.2.1]
    have h2 : s2.reg i = s.reg i := by
      unfold s2
      split
      · rw [evIrq_reg _ _ _ h, evAppend_reg _ _ _ _ _ _ _ h, h1]
      · exact h1
    exact h2
  · exact (evIrq_reg _ _ _ h).trans (evAppend_reg _ _ _ _ _ _ _ h)

theorem recStart_reg (kind code t : Nat) (s : State) (i : Nat) (h : i ∉ logRegs) : (recStart kind code t s).reg i = s.reg i := by
  simp only [logRegs, List.mem_cons, List.not_mem_nil, or_false, not_or] at h
  unfold recStart
  extract_lets
  rw [State.reg_setFld_ne _ _ _ h.2.2.2.2, State.reg_setFld_ne _ _ _ h.2.2.2.2]
  rfl

/-- Raising an event writes no register but those of `logRegs`. -/
theorem raiseF_reg (n code subj stamp : Nat) (det : List Byte) (s : State) (i : Nat) (h : i ∉ logRegs) :
    (raiseF n code subj stamp det s).reg i = s.reg i := by
  have h' := h
  simp only [logRegs, List.mem_cons, List.not_mem_nil, or_false, not_or] at h'
  induction n generalizing code subj stamp det s with
  | zero => exact evLog_reg _ _ _ _ _ _ _ h
  | succ n ih =>
    unfold raiseF
    split
    rename_i ok s' e
    have hs : s'.reg i = s.reg i := by
      have := evLog_reg code subj 0 stamp det s i h
      rw [e] at this
      exact this
    split
    · split
      · rw [ih, recStart_reg _ _ _ _ _ h, hs]
      · extract_lets f s1 r s2
        have h2 : s2.reg i = s.reg i := by
          have e1 : s1.reg i = s'.reg i := by
            unfold s1
            rw [State.reg_setBit_ne _ _ _ h'.2.2.2.1, State.reg_incFld_ne _ _ _ h'.2.2.2.2]
          have e2 : s2.regs = s1.regs := by
            unfold s2
            exact (alter_rcd s1 _).regs rfl
          exact (Alter.reg_of_regs e2 i).trans (e1.trans hs)
        clear_value s2
        split
        · rw [ih, h2]
        · exact h2
    · exact hs

theorem State.raiseAt_reg (t code subj : Nat) (vals : List (Nat × Nat)) (s : State) (i : Nat) (h : i ∉ logRegs) :
    (s.raiseAt t code subj vals).reg i = s.reg i := by
  unfold State.raiseAt
  split
  · exact raiseF_reg _ _ _ _ _ _ _ h
  · rfl

theorem State.raise_reg (code subj : Nat) (vals : List (Nat × Nat)) (s : State) (i : Nat) (h : i ∉ logRegs) :
    (s.raise code subj vals).reg i = s.reg i := State.raiseAt_reg _ _ _ _ _ _ h

/-- An event that finds room is logged. -/
theorem raiseF_logs (n code subj stamp : Nat) (det : List Byte) (s : State) (h : s.ev.buf.length < 16383) :
    Logs code subj s (raiseF n code subj stamp det s) := by
  have base : ∀ det stamp, ∃ y, (evLog code subj 0 stamp det s).2.ev.buf = s.ev.buf ++ [y] ∧ y.code = code ∧ y.subject = subj := by
    intro det stamp
    refine ⟨⟨s.fld R.LOG_EVENT_NEXT F.LOG_EVENT_NEXT.NEXT, stamp, code, 0, subj, det⟩, ?_, rfl, rfl⟩
    unfold evLog
    rw [if_neg (by omega)]
    unfold evIrq evAppend
    dsimp only
    split <;> split <;> rfl
  cases n with
  | zero =>
    obtain ⟨y, e, hy⟩ := base det stamp
    exact ⟨y, by unfold raiseF; rw [e, List.drop_left]; exact List.mem_singleton.mpr rfl, hy⟩
  | succ n =>
    obtain ⟨y, e, hy⟩ := base det stamp
    unfold raiseF
    split
    rename_i ok s' eq
    rw [eq] at e
    have later : ∀ m u, Alter m s' u → m.testBit 120 = false → Logs code subj s u := by
      intro m u a hm
      obtain ⟨l, el⟩ := a.evGrows hm
      refine ⟨y, ?_, hy⟩
      rw [← el, e, List.append_assoc, List.drop_left]
      exact List.mem_append_left _ (List.mem_singleton.mpr rfl)
    split
    · split
      · exact later _ _ ((alter_recStart ..).and (alter_raiseF ..)) (by decide)
      · extract_lets f s1 r s2
        have h2 : Alter evM s' s2 := by
          unfold s2 s1
          refine Alter.step ?_ (alter_rcd ..) rfl
          refine Alter.step ?_ (alter_setBit ..) (rm_high (by decide) rfl)
          exact (alter_incFld ..).mono (rm_high (by decide) rfl)
        clear_value s2
        split
        · exact later _ _ (h2.and (alter_raiseF ..)) (by decide)
        · exact later _ _ h2 (by decide)
    · exact later _ _ (Alter.refl 0 _) (by decide)

/-- Raising an event while the log takes it logs it. -/
theorem State.raise_logs (code subj : Nat) (vals : List (Nat × Nat)) (s : State) (h : LogReady s) :
    Logs code subj s (s.raise code subj vals) := by
  unfold State.raise State.raiseAt
  rw [if_pos h.1]
  exact raiseF_logs _ _ _ _ _ _ h.2

/-- Raising an event changes nothing but registers, the log and the recorder. -/
theorem State.raise_only (code subj : Nat) (vals : List (Nat × Nat)) (s : State) : LogsOnly s (s.raise code subj vals) := by
  have a := alter_raise code subj vals s
  revert a
  generalize s.raise code subj vals = t
  intro a
  unfold LogsOnly
  cases t
  simp only [State.mk.injEq, true_and]
  exact ⟨a.pending rfl, a.free rfl, a.boot rfl, a.trans rfl, a.heldMode rfl, a.heldFn rfl, a.nfault rfl, a.audit rfl, a.ports rfl, a.dtHi rfl, a.lastReq rfl, a.sessions rfl, a.lockouts rfl, a.service rfl, a.preDue rfl, a.key rfl, a.plant rfl, a.isl rfl, a.sel rfl, a.conv rfl, a.unit rfl, a.tb rfl, a.trips rfl, a.discharging rfl, a.meas rfl, a.eng rfl, a.trx rfl, a.pilot rfl, a.dcl rfl, a.chg rfl, a.pairUse rfl, a.act rfl, a.lvEnd rfl, a.life rfl, a.plc rfl, a.sto rfl, a.upd rfl, a.glove rfl, a.can rfl, a.pair rfl, a.stoHigh rfl, a.stoTold rfl, a.extest rfl⟩

end Sys2Proof.Machine
end

