-- ==== Sys2Proof/Laws/PerInstr.lean ====
section
/-! SUPPORT. What holds of every command as syntax, one lemma for each constructor: the time it brings with it does not
decide whether it is well formed, and a command that brings other time is another command. -/

namespace Sys2Proof

/-- The same command with other time passed before it. -/
noncomputable def Instr.later (n : Nat) : Instr → Instr
  | .supplyGood e x0 => .supplyGood (e + n) x0
  | .resetRelease e => .resetRelease (e + n)
  | .supplyFall e x0 x1 => .supplyFall (e + n) x0 x1
  | .vanaLow e => .vanaLow (e + n)
  | .vanaGood e => .vanaGood (e + n)
  | .refSettled e => .refSettled (e + n)
  | .nresetLow e x0 => .nresetLow (e + n) x0
  | .warmResetRelease e => .warmResetRelease (e + n)
  | .crystalSupervision e x0 => .crystalSupervision (e + n) x0
  | .bootImageLoad e x0 x1 x2 x3 => .bootImageLoad (e + n) x0 x1 x2 x3
  | .gloveSelftest e x0 => .gloveSelftest (e + n) x0
  | .plantReproof e => .plantReproof (e + n)
  | .bootEnd e x0 x1 => .bootEnd (e + n) x0 x1
  | .crystalLoss e => .crystalLoss (e + n)
  | .paceMeasurement e x0 => .paceMeasurement (e + n) x0
  | .handshakeWaitEnd e x0 x1 => .handshakeWaitEnd (e + n) x0 x1
  | .sramScrub e x0 x1 => .sramScrub (e + n) x0 x1
  | .modeRequest e x0 x1 => .modeRequest (e + n) x0 x1
  | .safeRequest e x0 => .safeRequest (e + n) x0
  | .modeTransitionComplete e => .modeTransitionComplete (e + n)
  | .stopRampTimeout e => .stopRampTimeout (e + n)
  | .dischargeComplete e x0 => .dischargeComplete (e + n) x0
  | .dischargeLimitExpiry e => .dischargeLimitExpiry (e + n)
  | .wakeCause e x0 => .wakeCause (e + n) x0
  | .rtcWrite e x0 x1 => .rtcWrite (e + n) x0 x1
  | .rtcAlarmWrite e x0 x1 => .rtcAlarmWrite (e + n) x0 x1
  | .rtcAlarm e => .rtcAlarm (e + n)
  | .stoFilterExpiry e x0 => .stoFilterExpiry (e + n) x0
  | .stoDiscrepancy e => .stoDiscrepancy (e + n)
  | .link60v e x0 => .link60v (e + n) x0
  | .safeCauseClear e x0 x1 => .safeCauseClear (e + n) x0 x1
  | .islLockoutEntry e x0 x1 x2 => .islLockoutEntry (e + n) x0 x1 x2
  | .islLockoutRelease e x0 x1 x2 => .islLockoutRelease (e + n) x0 x1 x2
  | .islSupplyOk e x0 => .islSupplyOk (e + n) x0
  | .islSeq e x0 x1 => .islSeq (e + n) x0 x1
  | .islPowerUp e x0 => .islPowerUp (e + n) x0
  | .islProfileWrite e x0 x1 x2 x3 => .islProfileWrite (e + n) x0 x1 x2 x3
  | .islBadFrame e x0 x1 => .islBadFrame (e + n) x0 x1
  | .islLinkDown e x0 => .islLinkDown (e + n) x0
  | .islFallbackApply e x0 => .islFallbackApply (e + n) x0
  | .islLinkUp e x0 => .islLinkUp (e + n) x0
  | .islTrimRemeasure e x0 x1 => .islTrimRemeasure (e + n) x0 x1
  | .islandCalibration e x0 x1 => .islandCalibration (e + n) x0 x1
  | .islVdsReport e x0 x1 => .islVdsReport (e + n) x0 x1
  | .islEnvReport e x0 x1 x2 x3 => .islEnvReport (e + n) x0 x1 x2 x3
  | .lvLockout e x0 => .lvLockout (e + n) x0
  | .lvLockoutRelease e x0 => .lvLockoutRelease (e + n) x0
  | .lvGateCheck e x0 x1 => .lvGateCheck (e + n) x0 x1
  | .desatDetection e x0 => .desatDetection (e + n) x0
  | .kelvinOcDetection e x0 x1 => .kelvinOcDetection (e + n) x0 x1
  | .softTurnOffEnd e x0 => .softTurnOffEnd (e + n) x0
  | .detectionReceived e x0 => .detectionReceived (e + n) x0
  | .selectorSpeedRefresh e x0 x1 x2 => .selectorSpeedRefresh (e + n) x0 x1 x2
  | .speedStale e x0 => .speedStale (e + n) x0
  | .activeShortHoldExpiry e x0 => .activeShortHoldExpiry (e + n) x0
  | .swapDtExpiry e x0 => .swapDtExpiry (e + n) x0
  | .prestartRun e x0 => .prestartRun (e + n) x0
  | .prestartDone e x0 x1 => .prestartDone (e + n) x0 x1
  | .railTest e x0 x1 => .railTest (e + n) x0 x1
  | .timebaseStart e x0 => .timebaseStart (e + n) x0
  | .shadowWrite e x0 x1 x2 => .shadowWrite (e + n) x0 x1 x2
  | .pwmCommit e x0 x1 => .pwmCommit (e + n) x0 x1
  | .commitDeadline e x0 x1 x2 => .commitDeadline (e + n) x0 x1 x2
  | .periodBoundary e x0 x1 => .periodBoundary (e + n) x0 x1
  | .tjInvalid e x0 => .tjInvalid (e + n) x0
  | .gateEdge e x0 => .gateEdge (e + n) x0
  | .tripAssert e x0 x1 => .tripAssert (e + n) x0 x1
  | .latchRelease e x0 x1 => .latchRelease (e + n) x0 x1
  | .syncInEdge e => .syncInEdge (e + n)
  | .syncLost e => .syncLost (e + n)
  | .pwmForce e x0 x1 => .pwmForce (e + n) x0 x1
  | .adcTrigger e x0 => .adcTrigger (e + n) x0
  | .adcSlotResult e x0 x1 => .adcSlotResult (e + n) x0 x1
  | .integratorResult e x0 x1 x2 => .integratorResult (e + n) x0 x1 x2
  | .continuousSample e x0 x1 => .continuousSample (e + n) x0 x1
  | .adcLane e x0 x1 => .adcLane (e + n) x0 x1
  | .queueWrite e x0 => .queueWrite (e + n) x0
  | .queueAck e x0 x1 x2 => .queueAck (e + n) x0 x1 x2
  | .wcmpAssert e x0 x1 => .wcmpAssert (e + n) x0 x1
  | .ainCalWrite e x0 x1 x2 => .ainCalWrite (e + n) x0 x1 x2
  | .refEnableWrite e x0 x1 => .refEnableWrite (e + n) x0 x1
  | .resFault e x0 x1 x2 => .resFault (e + n) x0 x1 x2
  | .encFault e x0 => .encFault (e + n) x0
  | .encZPulse e x0 => .encZPulse (e + n) x0
  | .sentMessage e x0 x1 x2 x3 => .sentMessage (e + n) x0 x1 x2 x3
  | .sentLost e x0 => .sentLost (e + n) x0
  | .graphActivation e x0 x1 x2 => .graphActivation (e + n) x0 x1 x2
  | .qinWaitEnd e x0 => .qinWaitEnd (e + n) x0
  | .engStore e x0 x1 x2 => .engStore (e + n) x0 x1 x2
  | .gwinDataRead e x0 => .gwinDataRead (e + n) x0
  | .gwinDataWrite e x0 x1 => .gwinDataWrite (e + n) x0 x1
  | .apply e x0 => .apply (e + n) x0
  | .discard e x0 => .discard (e + n) x0
  | .engClrCounts e x0 => .engClrCounts (e + n) x0
  | .clrTimeMax e x0 => .clrTimeMax (e + n) x0
  | .graphFlagClear e x0 x1 x2 => .graphFlagClear (e + n) x0 x1 x2
  | .fabClrCounts e x0 => .fabClrCounts (e + n) x0
  | .clrBlockMax e x0 => .clrBlockMax (e + n) x0
  | .pilotCycle e x0 x1 x2 x3 x4 x5 x6 => .pilotCycle (e + n) x0 x1 x2 x3 x4 x5 x6
  | .pilotSteady e x0 => .pilotSteady (e + n) x0
  | .pilotNoCycle e => .pilotNoCycle (e + n)
  | .pilotWindow e x0 x1 => .pilotWindow (e + n) x0 x1
  | .pwinDataRead e x0 => .pwinDataRead (e + n) x0
  | .pwinDataWrite e x0 x1 => .pwinDataWrite (e + n) x0 x1
  | .pwinReset e x0 => .pwinReset (e + n) x0
  | .submit e x0 => .submit (e + n) x0
  | .proofComplete e => .proofComplete (e + n)
  | .unitFailed e => .unitFailed (e + n)
  | .replaced e => .replaced (e + n)
  | .gloveCheckpoint e x0 x1 x2 => .gloveCheckpoint (e + n) x0 x1 x2
  | .journalWrite e x0 => .journalWrite (e + n) x0
  | .gloveWatchdog e => .gloveWatchdog (e + n)
  | .watchdogReset e => .watchdogReset (e + n)
  | .gloveCache e x0 x1 => .gloveCache (e + n) x0 x1
  | .halt e x0 => .halt (e + n) x0
  | .gloveHaltReached e => .gloveHaltReached (e + n)
  | .step e x0 x1 => .step (e + n) x0 x1
  | .resume e x0 => .resume (e + n) x0
  | .breakpointWrite e x0 x1 => .breakpointWrite (e + n) x0 x1
  | .dwinDataRead e x0 => .dwinDataRead (e + n) x0
  | .machineEnable e x0 x1 => .machineEnable (e + n) x0 x1
  | .machineDisable e x0 x1 => .machineDisable (e + n) x0 x1
  | .dirChange e x0 x1 x2 => .dirChange (e + n) x0 x1 x2
  | .treqWrite e x0 x1 x2 => .treqWrite (e + n) x0 x1 x2
  | .treqLost e x0 => .treqLost (e + n) x0
  | .limp e x0 x1 => .limp (e + n) x0 x1
  | .shortBrake e x0 => .shortBrake (e + n) x0
  | .startRetry e x0 => .startRetry (e + n) x0
  | .sensorReturn e x0 => .sensorReturn (e + n) x0
  | .keWindow e x0 => .keWindow (e + n) x0
  | .demagClear e x0 x1 => .demagClear (e + n) x0 x1
  | .mapDataWrite e x0 x1 => .mapDataWrite (e + n) x0 x1
  | .mapDataRead e x0 => .mapDataRead (e + n) x0
  | .validate e x0 => .validate (e + n) x0
  | .mapValidateDone e => .mapValidateDone (e + n)
  | .chopAssert x => .chopAssert ⟨x.e + n, x.uv⟩
  | .chopRelease x => .chopRelease ⟨x.e + n, x.uv⟩
  | .regenPermit e => .regenPermit (e + n)
  | .ov1Assert x => .ov1Assert ⟨x.e + n, x.uv⟩
  | .ov1Release x => .ov1Release ⟨x.e + n, x.uv⟩
  | .ov1HandBack e => .ov1HandBack (e + n)
  | .ov2Assert x => .ov2Assert ⟨x.e + n, x.uv⟩
  | .dclUv e x0 => .dclUv (e + n) x0
  | .uvClear e x0 => .uvClear (e + n) x0
  | .dclSense e x0 x1 => .dclSense (e + n) x0 x1
  | .chopTestPulse e => .chopTestPulse (e + n)
  | .chopClear e x0 => .chopClear (e + n) x0
  | .dcdcModeWrite e x0 x1 => .dcdcModeWrite (e + n) x0 x1
  | .start e x0 => .start (e + n) x0
  | .stop e x0 => .stop (e + n) x0
  | .unlock e x0 => .unlock (e + n) x0
  | .handoverDeadline e => .handoverDeadline (e + n)
  | .suspendExpiry e => .suspendExpiry (e + n)
  | .tbatWrite e x0 x1 => .tbatWrite (e + n) x0 x1
  | .chgTbat e => .chgTbat (e + n)
  | .batteryNtcEval e x0 => .batteryNtcEval (e + n) x0
  | .chgTimeout e => .chgTimeout (e + n)
  | .actEnable e x0 x1 => .actEnable (e + n) x0 x1
  | .actDisable e x0 x1 => .actDisable (e + n) x0 x1
  | .actTargetWrite e x0 x1 x2 => .actTargetWrite (e + n) x0 x1 x2
  | .brake e x0 x1 => .brake (e + n) x0 x1
  | .ref e x0 x1 => .ref (e + n) x0 x1
  | .hallChange e x0 x1 => .hallChange (e + n) x0 x1
  | .inPosition e x0 => .inPosition (e + n) x0
  | .actTimeout e x0 => .actTimeout (e + n) x0
  | .actBrakeEnd e x0 => .actBrakeEnd (e + n) x0
  | .alignEnd e x0 => .alignEnd (e + n) x0
  | .actRampTimeout e x0 => .actRampTimeout (e + n) x0
  | .actStartRetry e x0 => .actStartRetry (e + n) x0
  | .lifeMirror e => .lifeMirror (e + n)
  | .mirror e x0 => .mirror (e + n) x0
  | .mirrorComplete e x0 => .mirrorComplete (e + n) x0
  | .clear e x0 x1 => .clear (e + n) x0 x1
  | .curveValidate e x0 x1 => .curveValidate (e + n) x0 x1
  | .lifeTwinDataRead e x0 => .lifeTwinDataRead (e + n) x0
  | .lifeTwinDataWrite e x0 x1 => .lifeTwinDataWrite (e + n) x0 x1
  | .requestFrame e x0 x1 => .requestFrame (e + n) x0 x1
  | .fetchFrame e x0 x1 => .fetchFrame (e + n) x0 x1
  | .echo e x0 x1 => .echo (e + n) x0 x1
  | .regRead e x0 x1 => .regRead (e + n) x0 x1
  | .regWrite e x0 x1 => .regWrite (e + n) x0 x1
  | .regReadRepeat e x0 x1 x2 => .regReadRepeat (e + n) x0 x1 x2
  | .regWriteRepeat e x0 x1 x2 => .regWriteRepeat (e + n) x0 x1 x2
  | .regModify e x0 x1 => .regModify (e + n) x0 x1
  | .reset e x0 x1 => .reset (e + n) x0 x1
  | .resetDelayExpiry e => .resetDelayExpiry (e + n)
  | .sessionOpen e x0 => .sessionOpen (e + n) x0
  | .sessionAuth e x0 x1 => .sessionAuth (e + n) x0 x1
  | .sessionClose e x0 => .sessionClose (e + n) x0
  | .sessionTimeout e x0 => .sessionTimeout (e + n) x0
  | .lockoutEnd e x0 x1 => .lockoutEnd (e + n) x0 x1
  | .keyProgram e x0 x1 x2 => .keyProgram (e + n) x0 x1 x2
  | .queueRead e x0 x1 x2 x3 => .queueRead (e + n) x0 x1 x2 x3
  | .auditRead e x0 x1 x2 => .auditRead (e + n) x0 x1 x2
  | .eventRead e x0 x1 x2 => .eventRead (e + n) x0 x1 x2
  | .auditDrain e x0 x1 => .auditDrain (e + n) x0 x1
  | .eventLogDrain e x0 => .eventLogDrain (e + n) x0
  | .canEnableWrite e x0 x1 x2 => .canEnableWrite (e + n) x0 x1 x2
  | .canIntegrated e x0 => .canIntegrated (e + n) x0
  | .canTxStart e x0 => .canTxStart (e + n) x0
  | .canTxAttemptEnd e x0 x1 x2 x3 => .canTxAttemptEnd (e + n) x0 x1 x2 x3
  | .recover e x0 x1 => .recover (e + n) x0 x1
  | .canRecovered e x0 => .canRecovered (e + n) x0
  | .canLoad e x0 x1 x2 x3 => .canLoad (e + n) x0 x1 x2 x3
  | .canTxreq e x0 x1 x2 => .canTxreq (e + n) x0 x1 x2
  | .canCancel e x0 x1 x2 => .canCancel (e + n) x0 x1 x2
  | .txqFlush e x0 x1 => .txqFlush (e + n) x0 x1
  | .canRxack e x0 x1 x2 => .canRxack (e + n) x0 x1 x2
  | .purge e x0 => .purge (e + n) x0
  | .fwinDataAccess e x0 x1 x2 => .fwinDataAccess (e + n) x0 x1 x2
  | .canFrameReceived e x0 x1 x2 x3 => .canFrameReceived (e + n) x0 x1 x2 x3
  | .tunnelSegment e x0 x1 x2 x3 => .tunnelSegment (e + n) x0 x1 x2 x3
  | .tunnelTimeout e x0 x1 => .tunnelTimeout (e + n) x0 x1
  | .heartbeatSend e => .heartbeatSend (e + n)
  | .heartbeatReceived e x0 x1 x2 x3 => .heartbeatReceived (e + n) x0 x1 x2 x3
  | .partnerLost e x0 => .partnerLost (e + n) x0
  | .stoDevice e x0 => .stoDevice (e + n) x0
  | .stoWear e x0 x1 x2 x3 => .stoWear (e + n) x0 x1 x2 x3
  | .emmcTuning e x0 x1 x2 => .emmcTuning (e + n) x0 x1 x2
  | .format e x0 => .format (e + n) x0
  | .recEnableWrite e x0 x1 => .recEnableWrite (e + n) x0 x1
  | .recTrigger e x0 => .recTrigger (e + n) x0
  | .recList e x0 x1 x2 => .recList (e + n) x0 x1 x2
  | .recRead e x0 x1 x2 x3 => .recRead (e + n) x0 x1 x2 x3
  | .recDone e => .recDone (e + n)
  | .updBegin e x0 x1 => .updBegin (e + n) x0 x1
  | .updBlock e x0 x1 x2 x3 => .updBlock (e + n) x0 x1 x2 x3
  | .updCheck e x0 => .updCheck (e + n) x0
  | .updChecked e x0 => .updChecked (e + n) x0
  | .updActivate e x0 => .updActivate (e + n) x0
  | .updReadyTimeout e x0 => .updReadyTimeout (e + n) x0
  | .updSwitched e => .updSwitched (e + n)
  | .updConfirm e x0 => .updConfirm (e + n) x0
  | .updAbort e x0 => .updAbort (e + n) x0
  | .updWindowExpiry e => .updWindowExpiry (e + n)
  | .updFallback e x0 x1 => .updFallback (e + n) x0 x1
  | .updCommitted e x0 => .updCommitted (e + n) x0
  | .pairMessageReceived e x0 => .pairMessageReceived (e + n) x0
  | .pairLinkDown e => .pairLinkDown (e + n)
  | .flagClear e x0 x1 x2 => .flagClear (e + n) x0 x1 x2
  | .registerWrite e x0 x1 x2 => .registerWrite (e + n) x0 x1 x2
  | .filteredLevelChange e x0 x1 => .filteredLevelChange (e + n) x0 x1
  | .encoderEdge e x0 x1 x2 => .encoderEdge (e + n) x0 x1 x2
  | .canReceiveError e x0 x1 x2 => .canReceiveError (e + n) x0 x1 x2
  | .hallCodeError e x0 => .hallCodeError (e + n) x0
  | .plantStored e => .plantStored (e + n)
  | .boundaryScanExtest e x0 => .boundaryScanExtest (e + n) x0

/-- Time adds to the command and changes neither its well-formedness nor anything else of it. -/
def Laws.Elapsed.Statement (i : Instr) : Prop :=
  ∀ n, (i.later n).elapsed = i.elapsed + n ∧ (i.later n).wf = i.wf ∧ i.later 0 = i ∧ ∀ k, (i.later n).later k = i.later (n + k)

theorem Laws.Elapsed.supplyGood (e : Nat) (x0 : Bool) : Laws.Elapsed.Statement (.supplyGood e x0) :=
  fun n => ⟨rfl, rfl, rfl, fun k => congrArg (Instr.supplyGood · x0) (Nat.add_assoc e n k)⟩
theorem Laws.Elapsed.resetRelease (e : Nat) : Laws.Elapsed.Statement (.resetRelease e) :=
  fun n => ⟨rfl, rfl, rfl, fun k => congrArg (Instr.resetRelease ·) (Nat.add_assoc e n k)⟩
theorem Laws.Elapsed.supplyFall (e : Nat) (x0 : Bool) (x1 : Bool) : Laws.Elapsed.Statement (.supplyFall e x0 x1) :=
  fun n => ⟨rfl, rfl, rfl, fun k => congrArg (Instr.supplyFall · x0 x1) (Nat.add_assoc e n k)⟩
theorem Laws.Elapsed.vanaLow (e : Nat) : Laws.Elapsed.Statement (.vanaLow e) :=
  fun n => ⟨rfl, rfl, rfl, fun k => congrArg (Instr.vanaLow ·) (Nat.add_assoc e n k)⟩
theorem Laws.Elapsed.vanaGood (e : Nat) : Laws.Elapsed.Statement (.vanaGood e) :=
  fun n => ⟨rfl, rfl, rfl, fun k => congrArg (Instr.vanaGood ·) (Nat.add_assoc e n k)⟩
theorem Laws.Elapsed.refSettled (e : Nat) : Laws.Elapsed.Statement (.refSettled e) :=
  fun n => ⟨rfl, rfl, rfl, fun k => congrArg (Instr.refSettled ·) (Nat.add_assoc e n k)⟩
theorem Laws.Elapsed.nresetLow (e : Nat) (x0 : Nat) : Laws.Elapsed.Statement (.nresetLow e x0) :=
  fun n => ⟨rfl, rfl, rfl, fun k => congrArg (Instr.nresetLow · x0) (Nat.add_assoc e n k)⟩
theorem Laws.Elapsed.warmResetRelease (e : Nat) : Laws.Elapsed.Statement (.warmResetRelease e) :=
  fun n => ⟨rfl, rfl, rfl, fun k => congrArg (Instr.warmResetRelease ·) (Nat.add_assoc e n k)⟩
theorem Laws.Elapsed.crystalSupervision (e : Nat) (x0 : Bool) : Laws.Elapsed.Statement (.crystalSupervision e x0) :=
  fun n => ⟨rfl, rfl, rfl, fun k => congrArg (Instr.crystalSupervision · x0) (Nat.add_assoc e n k)⟩
theorem Laws.Elapsed.bootImageLoad (e : Nat) (x0 : Option Machine.EmmcInfo) (x1 : Option Machine.EmmcInfo) (x2 : Bool) (x3 : Bool) : Laws.Elapsed.Statement (.bootImageLoad e x0 x1 x2 x3) :=
  fun n => ⟨rfl, rfl, rfl, fun k => congrArg (Instr.bootImageLoad · x0 x1 x2 x3) (Nat.add_assoc e n k)⟩
theorem Laws.Elapsed.gloveSelftest (e : Nat) (x0 : Bool) : Laws.Elapsed.Statement (.gloveSelftest e x0) :=
  fun n => ⟨rfl, rfl, rfl, fun k => congrArg (Instr.gloveSelftest · x0) (Nat.add_assoc e n k)⟩
theorem Laws.Elapsed.plantReproof (e : Nat) : Laws.Elapsed.Statement (.plantReproof e) :=
  fun n => ⟨rfl, rfl, rfl, fun k => congrArg (Instr.plantReproof ·) (Nat.add_assoc e n k)⟩
theorem Laws.Elapsed.bootEnd (e : Nat) (x0 : Bool) (x1 : Bool) : Laws.Elapsed.Statement (.bootEnd e x0 x1) :=
  fun n => ⟨rfl, rfl, rfl, fun k => congrArg (Instr.bootEnd · x0 x1) (Nat.add_assoc e n k)⟩
theorem Laws.Elapsed.crystalLoss (e : Nat) : Laws.Elapsed.Statement (.crystalLoss e) :=
  fun n => ⟨rfl, rfl, rfl, fun k => congrArg (Instr.crystalLoss ·) (Nat.add_assoc e n k)⟩
theorem Laws.Elapsed.paceMeasurement (e : Nat) (x0 : BitVec 16) : Laws.Elapsed.Statement (.paceMeasurement e x0) :=
  fun n => ⟨rfl, rfl, rfl, fun k => congrArg (Instr.paceMeasurement · x0) (Nat.add_assoc e n k)⟩
theorem Laws.Elapsed.handshakeWaitEnd (e : Nat) (x0 : Fin 5) (x1 : Nat) : Laws.Elapsed.Statement (.handshakeWaitEnd e x0 x1) :=
  fun n => ⟨rfl, rfl, rfl, fun k => congrArg (Instr.handshakeWaitEnd · x0 x1) (Nat.add_assoc e n k)⟩
theorem Laws.Elapsed.sramScrub (e : Nat) (x0 : BitVec 22) (x1 : Fin 3) : Laws.Elapsed.Statement (.sramScrub e x0 x1) :=
  fun n => ⟨rfl, rfl, rfl, fun k => congrArg (Instr.sramScrub · x0 x1) (Nat.add_assoc e n k)⟩
theorem Laws.Elapsed.modeRequest (e : Nat) (x0 : Machine.Req) (x1 : Fin 8) : Laws.Elapsed.Statement (.modeRequest e x0 x1) :=
  fun n => ⟨rfl, rfl, rfl, fun k => congrArg (Instr.modeRequest · x0 x1) (Nat.add_assoc e n k)⟩
theorem Laws.Elapsed.safeRequest (e : Nat) (x0 : Machine.Req) : Laws.Elapsed.Statement (.safeRequest e x0) :=
  fun n => ⟨rfl, rfl, rfl, fun k => congrArg (Instr.safeRequest · x0) (Nat.add_assoc e n k)⟩
theorem Laws.Elapsed.modeTransitionComplete (e : Nat) : Laws.Elapsed.Statement (.modeTransitionComplete e) :=
  fun n => ⟨rfl, rfl, rfl, fun k => congrArg (Instr.modeTransitionComplete ·) (Nat.add_assoc e n k)⟩
theorem Laws.Elapsed.stopRampTimeout (e : Nat) : Laws.Elapsed.Statement (.stopRampTimeout e) :=
  fun n => ⟨rfl, rfl, rfl, fun k => congrArg (Instr.stopRampTimeout ·) (Nat.add_assoc e n k)⟩
theorem Laws.Elapsed.dischargeComplete (e : Nat) (x0 : BitVec 13) : Laws.Elapsed.Statement (.dischargeComplete e x0) :=
  fun n => ⟨rfl, rfl, rfl, fun k => congrArg (Instr.dischargeComplete · x0) (Nat.add_assoc e n k)⟩
theorem Laws.Elapsed.dischargeLimitExpiry (e : Nat) : Laws.Elapsed.Statement (.dischargeLimitExpiry e) :=
  fun n => ⟨rfl, rfl, rfl, fun k => congrArg (Instr.dischargeLimitExpiry ·) (Nat.add_assoc e n k)⟩
theorem Laws.Elapsed.wakeCause (e : Nat) (x0 : Fin 7) : Laws.Elapsed.Statement (.wakeCause e x0) :=
  fun n => ⟨rfl, rfl, rfl, fun k => congrArg (Instr.wakeCause · x0) (Nat.add_assoc e n k)⟩
theorem Laws.Elapsed.rtcWrite (e : Nat) (x0 : Machine.Req) (x1 : BitVec 40) : Laws.Elapsed.Statement (.rtcWrite e x0 x1) :=
  fun n => ⟨rfl, rfl, rfl, fun k => congrArg (Instr.rtcWrite · x0 x1) (Nat.add_assoc e n k)⟩
theorem Laws.Elapsed.rtcAlarmWrite (e : Nat) (x0 : Machine.Req) (x1 : BitVec 40) : Laws.Elapsed.Statement (.rtcAlarmWrite e x0 x1) :=
  fun n => ⟨rfl, rfl, rfl, fun k => congrArg (Instr.rtcAlarmWrite · x0 x1) (Nat.add_assoc e n k)⟩
theorem Laws.Elapsed.rtcAlarm (e : Nat) : Laws.Elapsed.Statement (.rtcAlarm e) :=
  fun n => ⟨rfl, rfl, rfl, fun k => congrArg (Instr.rtcAlarm ·) (Nat.add_assoc e n k)⟩
theorem Laws.Elapsed.stoFilterExpiry (e : Nat) (x0 : Fin 2) : Laws.Elapsed.Statement (.stoFilterExpiry e x0) :=
  fun n => ⟨rfl, rfl, rfl, fun k => congrArg (Instr.stoFilterExpiry · x0) (Nat.add_assoc e n k)⟩
theorem Laws.Elapsed.stoDiscrepancy (e : Nat) : Laws.Elapsed.Statement (.stoDiscrepancy e) :=
  fun n => ⟨rfl, rfl, rfl, fun k => congrArg (Instr.stoDiscrepancy ·) (Nat.add_assoc e n k)⟩
theorem Laws.Elapsed.link60v (e : Nat) (x0 : BitVec 13) : Laws.Elapsed.Statement (.link60v e x0) :=
  fun n => ⟨rfl, rfl, rfl, fun k => congrArg (Instr.link60v · x0) (Nat.add_assoc e n k)⟩
theorem Laws.Elapsed.safeCauseClear (e : Nat) (x0 : Machine.Req) (x1 : BitVec 40) : Laws.Elapsed.Statement (.safeCauseClear e x0 x1) :=
  fun n => ⟨rfl, rfl, rfl, fun k => congrArg (Instr.safeCauseClear · x0 x1) (Nat.add_assoc e n k)⟩
theorem Laws.Elapsed.islLockoutEntry (e : Nat) (x0 : Fin 48) (x1 : Bool) (x2 : Bool) : Laws.Elapsed.Statement (.islLockoutEntry e x0 x1 x2) :=
  fun n => ⟨rfl, rfl, rfl, fun k => congrArg (Instr.islLockoutEntry · x0 x1 x2) (Nat.add_assoc e n k)⟩
theorem Laws.Elapsed.islLockoutRelease (e : Nat) (x0 : Fin 48) (x1 : Bool) (x2 : Bool) : Laws.Elapsed.Statement (.islLockoutRelease e x0 x1 x2) :=
  fun n => ⟨rfl, rfl, rfl, fun k => congrArg (Instr.islLockoutRelease · x0 x1 x2) (Nat.add_assoc e n k)⟩
theorem Laws.Elapsed.islSupplyOk (e : Nat) (x0 : Fin 48) : Laws.Elapsed.Statement (.islSupplyOk e x0) :=
  fun n => ⟨rfl, rfl, rfl, fun k => congrArg (Instr.islSupplyOk · x0) (Nat.add_assoc e n k)⟩
theorem Laws.Elapsed.islSeq (e : Nat) (x0 : Fin 48) (x1 : Fin 2) : Laws.Elapsed.Statement (.islSeq e x0 x1) :=
  fun n => ⟨rfl, rfl, rfl, fun k => congrArg (Instr.islSeq · x0 x1) (Nat.add_assoc e n k)⟩
theorem Laws.Elapsed.islPowerUp (e : Nat) (x0 : Fin 48) : Laws.Elapsed.Statement (.islPowerUp e x0) :=
  fun n => ⟨rfl, rfl, rfl, fun k => congrArg (Instr.islPowerUp · x0) (Nat.add_assoc e n k)⟩
theorem Laws.Elapsed.islProfileWrite (e : Nat) (x0 : Machine.Req) (x1 : Fin 48) (x2 : Fin 8) (x3 : BitVec 40) : Laws.Elapsed.Statement (.islProfileWrite e x0 x1 x2 x3) :=
  fun n => ⟨rfl, rfl, rfl, fun k => congrArg (Instr.islProfileWrite · x0 x1 x2 x3) (Nat.add_assoc e n k)⟩
theorem Laws.Elapsed.islBadFrame (e : Nat) (x0 : Fin 48) (x1 : Bool) : Laws.Elapsed.Statement (.islBadFrame e x0 x1) :=
  fun n => ⟨rfl, rfl, rfl, fun k => congrArg (Instr.islBadFrame · x0 x1) (Nat.add_assoc e n k)⟩
theorem Laws.Elapsed.islLinkDown (e : Nat) (x0 : Fin 48) : Laws.Elapsed.Statement (.islLinkDown e x0) :=
  fun n => ⟨rfl, rfl, rfl, fun k => congrArg (Instr.islLinkDown · x0) (Nat.add_assoc e n k)⟩
theorem Laws.Elapsed.islFallbackApply (e : Nat) (x0 : Fin 48) : Laws.Elapsed.Statement (.islFallbackApply e x0) :=
  fun n => ⟨rfl, rfl, rfl, fun k => congrArg (Instr.islFallbackApply · x0) (Nat.add_assoc e n k)⟩
theorem Laws.Elapsed.islLinkUp (e : Nat) (x0 : Fin 48) : Laws.Elapsed.Statement (.islLinkUp e x0) :=
  fun n => ⟨rfl, rfl, rfl, fun k => congrArg (Instr.islLinkUp · x0) (Nat.add_assoc e n k)⟩
theorem Laws.Elapsed.islTrimRemeasure (e : Nat) (x0 : Fin 48) (x1 : Nat) : Laws.Elapsed.Statement (.islTrimRemeasure e x0 x1) :=
  fun n => ⟨rfl, rfl, rfl, fun k => congrArg (Instr.islTrimRemeasure · x0 x1) (Nat.add_assoc e n k)⟩
theorem Laws.Elapsed.islandCalibration (e : Nat) (x0 : Fin 48) (x1 : Nat) : Laws.Elapsed.Statement (.islandCalibration e x0 x1) :=
  fun n => ⟨rfl, rfl, rfl, fun k => congrArg (Instr.islandCalibration · x0 x1) (Nat.add_assoc e n k)⟩
theorem Laws.Elapsed.islVdsReport (e : Nat) (x0 : Fin 48) (x1 : BitVec 12) : Laws.Elapsed.Statement (.islVdsReport e x0 x1) :=
  fun n => ⟨rfl, rfl, rfl, fun k => congrArg (Instr.islVdsReport · x0 x1) (Nat.add_assoc e n k)⟩
theorem Laws.Elapsed.islEnvReport (e : Nat) (x0 : Fin 48) (x1 : BitVec 12) (x2 : BitVec 12) (x3 : BitVec 12) : Laws.Elapsed.Statement (.islEnvReport e x0 x1 x2 x3) :=
  fun n => ⟨rfl, rfl, rfl, fun k => congrArg (Instr.islEnvReport · x0 x1 x2 x3) (Nat.add_assoc e n k)⟩
theorem Laws.Elapsed.lvLockout (e : Nat) (x0 : Fin 10) : Laws.Elapsed.Statement (.lvLockout e x0) :=
  fun n => ⟨rfl, rfl, rfl, fun k => congrArg (Instr.lvLockout · x0) (Nat.add_assoc e n k)⟩
theorem Laws.Elapsed.lvLockoutRelease (e : Nat) (x0 : Fin 10) : Laws.Elapsed.Statement (.lvLockoutRelease e x0) :=
  fun n => ⟨rfl, rfl, rfl, fun k => congrArg (Instr.lvLockoutRelease · x0) (Nat.add_assoc e n k)⟩
theorem Laws.Elapsed.lvGateCheck (e : Nat) (x0 : Fin 18) (x1 : Nat) : Laws.Elapsed.Statement (.lvGateCheck e x0 x1) :=
  fun n => ⟨rfl, rfl, rfl, fun k => congrArg (Instr.lvGateCheck · x0 x1) (Nat.add_assoc e n k)⟩
theorem Laws.Elapsed.desatDetection (e : Nat) (x0 : Machine.DesatReading) : Laws.Elapsed.Statement (.desatDetection e x0) :=
  fun n => ⟨rfl, rfl, rfl, fun k => congrArg (Instr.desatDetection · x0) (Nat.add_assoc e n k)⟩
theorem Laws.Elapsed.kelvinOcDetection (e : Nat) (x0 : Fin 48) (x1 : Nat) : Laws.Elapsed.Statement (.kelvinOcDetection e x0 x1) :=
  fun n => ⟨rfl, rfl, rfl, fun k => congrArg (Instr.kelvinOcDetection · x0 x1) (Nat.add_assoc e n k)⟩
theorem Laws.Elapsed.softTurnOffEnd (e : Nat) (x0 : Fin 48) : Laws.Elapsed.Statement (.softTurnOffEnd e x0) :=
  fun n => ⟨rfl, rfl, rfl, fun k => congrArg (Instr.softTurnOffEnd · x0) (Nat.add_assoc e n k)⟩
theorem Laws.Elapsed.detectionReceived (e : Nat) (x0 : Fin 48) : Laws.Elapsed.Statement (.detectionReceived e x0) :=
  fun n => ⟨rfl, rfl, rfl, fun k => congrArg (Instr.detectionReceived · x0) (Nat.add_assoc e n k)⟩
theorem Laws.Elapsed.selectorSpeedRefresh (e : Nat) (x0 : Fin 2) (x1 : Fin 4) (x2 : BitVec 32) : Laws.Elapsed.Statement (.selectorSpeedRefresh e x0 x1 x2) :=
  fun n => ⟨rfl, rfl, rfl, fun k => congrArg (Instr.selectorSpeedRefresh · x0 x1 x2) (Nat.add_assoc e n k)⟩
theorem Laws.Elapsed.speedStale (e : Nat) (x0 : Fin 2) : Laws.Elapsed.Statement (.speedStale e x0) :=
  fun n => ⟨rfl, rfl, rfl, fun k => congrArg (Instr.speedStale · x0) (Nat.add_assoc e n k)⟩
theorem Laws.Elapsed.activeShortHoldExpiry (e : Nat) (x0 : Fin 2) : Laws.Elapsed.Statement (.activeShortHoldExpiry e x0) :=
  fun n => ⟨rfl, rfl, rfl, fun k => congrArg (Instr.activeShortHoldExpiry · x0) (Nat.add_assoc e n k)⟩
theorem Laws.Elapsed.swapDtExpiry (e : Nat) (x0 : Fin 2) : Laws.Elapsed.Statement (.swapDtExpiry e x0) :=
  fun n => ⟨rfl, rfl, rfl, fun k => congrArg (Instr.swapDtExpiry · x0) (Nat.add_assoc e n k)⟩
theorem Laws.Elapsed.prestartRun (e : Nat) (x0 : Machine.Req) : Laws.Elapsed.Statement (.prestartRun e x0) :=
  fun n => ⟨rfl, rfl, rfl, fun k => congrArg (Instr.prestartRun · x0) (Nat.add_assoc e n k)⟩
theorem Laws.Elapsed.prestartDone (e : Nat) (x0 : List Machine.GateTest) (x1 : List Machine.PhsTest) : Laws.Elapsed.Statement (.prestartDone e x0 x1) :=
  fun n => ⟨rfl, rfl, rfl, fun k => congrArg (Instr.prestartDone · x0 x1) (Nat.add_assoc e n k)⟩
theorem Laws.Elapsed.railTest (e : Nat) (x0 : Nat) (x1 : Machine.RailReading) : Laws.Elapsed.Statement (.railTest e x0 x1) :=
  fun n => ⟨rfl, rfl, rfl, fun k => congrArg (Instr.railTest · x0 x1) (Nat.add_assoc e n k)⟩
theorem Laws.Elapsed.timebaseStart (e : Nat) (x0 : Fin 6) : Laws.Elapsed.Statement (.timebaseStart e x0) :=
  fun n => ⟨rfl, rfl, rfl, fun k => congrArg (Instr.timebaseStart · x0) (Nat.add_assoc e n k)⟩
theorem Laws.Elapsed.shadowWrite (e : Nat) (x0 : Machine.Req) (x1 : Fin 138) (x2 : BitVec 40) : Laws.Elapsed.Statement (.shadowWrite e x0 x1 x2) :=
  fun n => ⟨rfl, rfl, rfl, fun k => congrArg (Instr.shadowWrite · x0 x1 x2) (Nat.add_assoc e n k)⟩
theorem Laws.Elapsed.pwmCommit (e : Nat) (x0 : Machine.Req) (x1 : BitVec 6) : Laws.Elapsed.Statement (.pwmCommit e x0 x1) :=
  fun n => ⟨rfl, rfl, rfl, fun k => congrArg (Instr.pwmCommit · x0 x1) (Nat.add_assoc e n k)⟩
theorem Laws.Elapsed.commitDeadline (e : Nat) (x0 : Fin 6) (x1 : List Machine.PairDiff) (x2 : BitVec 13) : Laws.Elapsed.Statement (.commitDeadline e x0 x1 x2) :=
  fun n => ⟨rfl, rfl, rfl, fun k => congrArg (Instr.commitDeadline · x0 x1 x2) (Nat.add_assoc e n k)⟩
theorem Laws.Elapsed.periodBoundary (e : Nat) (x0 : Fin 6) (x1 : BitVec 13) : Laws.Elapsed.Statement (.periodBoundary e x0 x1) :=
  fun n => ⟨rfl, rfl, rfl, fun k => congrArg (Instr.periodBoundary · x0 x1) (Nat.add_assoc e n k)⟩
theorem Laws.Elapsed.tjInvalid (e : Nat) (x0 : Fin 48) : Laws.Elapsed.Statement (.tjInvalid e x0) :=
  fun n => ⟨rfl, rfl, rfl, fun k => congrArg (Instr.tjInvalid · x0) (Nat.add_assoc e n k)⟩
theorem Laws.Elapsed.gateEdge (e : Nat) (x0 : Fin 33) : Laws.Elapsed.Statement (.gateEdge e x0) :=
  fun n => ⟨rfl, rfl, rfl, fun k => congrArg (Instr.gateEdge · x0) (Nat.add_assoc e n k)⟩
theorem Laws.Elapsed.tripAssert (e : Nat) (x0 : Fin 72) (x1 : Bool) : Laws.Elapsed.Statement (.tripAssert e x0 x1) :=
  fun n => ⟨rfl, rfl, rfl, fun k => congrArg (Instr.tripAssert · x0 x1) (Nat.add_assoc e n k)⟩
theorem Laws.Elapsed.latchRelease (e : Nat) (x0 : Machine.Req) (x1 : BitVec 33) : Laws.Elapsed.Statement (.latchRelease e x0 x1) :=
  fun n => ⟨rfl, rfl, rfl, fun k => congrArg (Instr.latchRelease · x0 x1) (Nat.add_assoc e n k)⟩
theorem Laws.Elapsed.syncInEdge (e : Nat) : Laws.Elapsed.Statement (.syncInEdge e) :=
  fun n => ⟨rfl, rfl, rfl, fun k => congrArg (Instr.syncInEdge ·) (Nat.add_assoc e n k)⟩
theorem Laws.Elapsed.syncLost (e : Nat) : Laws.Elapsed.Statement (.syncLost e) :=
  fun n => ⟨rfl, rfl, rfl, fun k => congrArg (Instr.syncLost ·) (Nat.add_assoc e n k)⟩
theorem Laws.Elapsed.pwmForce (e : Nat) (x0 : Machine.Req) (x1 : BitVec 40) : Laws.Elapsed.Statement (.pwmForce e x0 x1) :=
  fun n => ⟨rfl, rfl, rfl, fun k => congrArg (Instr.pwmForce · x0 x1) (Nat.add_assoc e n k)⟩
theorem Laws.Elapsed.adcTrigger (e : Nat) (x0 : Fin 12) : Laws.Elapsed.Statement (.adcTrigger e x0) :=
  fun n => ⟨rfl, rfl, rfl, fun k => congrArg (Instr.adcTrigger · x0) (Nat.add_assoc e n k)⟩
theorem Laws.Elapsed.adcSlotResult (e : Nat) (x0 : Fin 12) (x1 : List Int) : Laws.Elapsed.Statement (.adcSlotResult e x0 x1) :=
  fun n => ⟨rfl, rfl, rfl, fun k => congrArg (Instr.adcSlotResult · x0 x1) (Nat.add_assoc e n k)⟩
theorem Laws.Elapsed.integratorResult (e : Nat) (x0 : Fin 12) (x1 : Int) (x2 : List Int) : Laws.Elapsed.Statement (.integratorResult e x0 x1 x2) :=
  fun n => ⟨rfl, rfl, rfl, fun k => congrArg (Instr.integratorResult · x0 x1 x2) (Nat.add_assoc e n k)⟩
theorem Laws.Elapsed.continuousSample (e : Nat) (x0 : Fin 12) (x1 : Int) : Laws.Elapsed.Statement (.continuousSample e x0 x1) :=
  fun n => ⟨rfl, rfl, rfl, fun k => congrArg (Instr.continuousSample · x0 x1) (Nat.add_assoc e n k)⟩
theorem Laws.Elapsed.adcLane (e : Nat) (x0 : Fin 12) (x1 : Nat) : Laws.Elapsed.Statement (.adcLane e x0 x1) :=
  fun n => ⟨rfl, rfl, rfl, fun k => congrArg (Instr.adcLane · x0 x1) (Nat.add_assoc e n k)⟩
theorem Laws.Elapsed.queueWrite (e : Nat) (x0 : Fin 1024) : Laws.Elapsed.Statement (.queueWrite e x0) :=
  fun n => ⟨rfl, rfl, rfl, fun k => congrArg (Instr.queueWrite · x0) (Nat.add_assoc e n k)⟩
theorem Laws.Elapsed.queueAck (e : Nat) (x0 : Machine.Req) (x1 : Fin 32) (x2 : BitVec 14) : Laws.Elapsed.Statement (.queueAck e x0 x1 x2) :=
  fun n => ⟨rfl, rfl, rfl, fun k => congrArg (Instr.queueAck · x0 x1 x2) (Nat.add_assoc e n k)⟩
theorem Laws.Elapsed.wcmpAssert (e : Nat) (x0 : Fin 64) (x1 : BitVec 24) : Laws.Elapsed.Statement (.wcmpAssert e x0 x1) :=
  fun n => ⟨rfl, rfl, rfl, fun k => congrArg (Instr.wcmpAssert · x0 x1) (Nat.add_assoc e n k)⟩
theorem Laws.Elapsed.ainCalWrite (e : Nat) (x0 : Machine.Req) (x1 : Fin 64) (x2 : BitVec 40) : Laws.Elapsed.Statement (.ainCalWrite e x0 x1 x2) :=
  fun n => ⟨rfl, rfl, rfl, fun k => congrArg (Instr.ainCalWrite · x0 x1 x2) (Nat.add_assoc e n k)⟩
theorem Laws.Elapsed.refEnableWrite (e : Nat) (x0 : Machine.Req) (x1 : Bool) : Laws.Elapsed.Statement (.refEnableWrite e x0 x1) :=
  fun n => ⟨rfl, rfl, rfl, fun k => congrArg (Instr.refEnableWrite · x0 x1) (Nat.add_assoc e n k)⟩
theorem Laws.Elapsed.resFault (e : Nat) (x0 : Fin 2) (x1 : BitVec 16) (x2 : BitVec 32) : Laws.Elapsed.Statement (.resFault e x0 x1 x2) :=
  fun n => ⟨rfl, rfl, rfl, fun k => congrArg (Instr.resFault · x0 x1 x2) (Nat.add_assoc e n k)⟩
theorem Laws.Elapsed.encFault (e : Nat) (x0 : Fin 2) : Laws.Elapsed.Statement (.encFault e x0) :=
  fun n => ⟨rfl, rfl, rfl, fun k => congrArg (Instr.encFault · x0) (Nat.add_assoc e n k)⟩
theorem Laws.Elapsed.encZPulse (e : Nat) (x0 : Fin 2) : Laws.Elapsed.Statement (.encZPulse e x0) :=
  fun n => ⟨rfl, rfl, rfl, fun k => congrArg (Instr.encZPulse · x0) (Nat.add_assoc e n k)⟩
theorem Laws.Elapsed.sentMessage (e : Nat) (x0 : Fin 8) (x1 : Nat) (x2 : List Nat) (x3 : Option (Bool × BitVec 8 × BitVec 16)) : Laws.Elapsed.Statement (.sentMessage e x0 x1 x2 x3) :=
  fun n => ⟨rfl, rfl, rfl, fun k => congrArg (Instr.sentMessage · x0 x1 x2 x3) (Nat.add_assoc e n k)⟩
theorem Laws.Elapsed.sentLost (e : Nat) (x0 : Fin 8) : Laws.Elapsed.Statement (.sentLost e x0) :=
  fun n => ⟨rfl, rfl, rfl, fun k => congrArg (Instr.sentLost · x0) (Nat.add_assoc e n k)⟩
theorem Laws.Elapsed.graphActivation (e : Nat) (x0 : Fin 8) (x1 : Nat) (x2 : Nat) : Laws.Elapsed.Statement (.graphActivation e x0 x1 x2) :=
  fun n => ⟨rfl, rfl, rfl, fun k => congrArg (Instr.graphActivation · x0 x1 x2) (Nat.add_assoc e n k)⟩
theorem Laws.Elapsed.qinWaitEnd (e : Nat) (x0 : Fin 8) : Laws.Elapsed.Statement (.qinWaitEnd e x0) :=
  fun n => ⟨rfl, rfl, rfl, fun k => congrArg (Instr.qinWaitEnd · x0) (Nat.add_assoc e n k)⟩
theorem Laws.Elapsed.engStore (e : Nat) (x0 : Fin 16) (x1 : Fin 13107) (x2 : Bool) : Laws.Elapsed.Statement (.engStore e x0 x1 x2) :=
  fun n => ⟨rfl, rfl, rfl, fun k => congrArg (Instr.engStore · x0 x1 x2) (Nat.add_assoc e n k)⟩
theorem Laws.Elapsed.gwinDataRead (e : Nat) (x0 : Machine.Req) : Laws.Elapsed.Statement (.gwinDataRead e x0) :=
  fun n => ⟨rfl, rfl, rfl, fun k => congrArg (Instr.gwinDataRead · x0) (Nat.add_assoc e n k)⟩
theorem Laws.Elapsed.gwinDataWrite (e : Nat) (x0 : Machine.Req) (x1 : BitVec 40) : Laws.Elapsed.Statement (.gwinDataWrite e x0 x1) :=
  fun n => ⟨rfl, rfl, rfl, fun k => congrArg (Instr.gwinDataWrite · x0 x1) (Nat.add_assoc e n k)⟩
theorem Laws.Elapsed.apply (e : Nat) (x0 : Machine.Req) : Laws.Elapsed.Statement (.apply e x0) :=
  fun n => ⟨rfl, rfl, rfl, fun k => congrArg (Instr.apply · x0) (Nat.add_assoc e n k)⟩
theorem Laws.Elapsed.discard (e : Nat) (x0 : Machine.Req) : Laws.Elapsed.Statement (.discard e x0) :=
  fun n => ⟨rfl, rfl, rfl, fun k => congrArg (Instr.discard · x0) (Nat.add_assoc e n k)⟩
theorem Laws.Elapsed.engClrCounts (e : Nat) (x0 : Machine.Req) : Laws.Elapsed.Statement (.engClrCounts e x0) :=
  fun n => ⟨rfl, rfl, rfl, fun k => congrArg (Instr.engClrCounts · x0) (Nat.add_assoc e n k)⟩
theorem Laws.Elapsed.clrTimeMax (e : Nat) (x0 : Machine.Req) : Laws.Elapsed.Statement (.clrTimeMax e x0) :=
  fun n => ⟨rfl, rfl, rfl, fun k => congrArg (Instr.clrTimeMax · x0) (Nat.add_assoc e n k)⟩
theorem Laws.Elapsed.graphFlagClear (e : Nat) (x0 : Machine.Req) (x1 : Fin 8) (x2 : BitVec 4) : Laws.Elapsed.Statement (.graphFlagClear e x0 x1 x2) :=
  fun n => ⟨rfl, rfl, rfl, fun k => congrArg (Instr.graphFlagClear · x0 x1 x2) (Nat.add_assoc e n k)⟩
theorem Laws.Elapsed.fabClrCounts (e : Nat) (x0 : Machine.Req) : Laws.Elapsed.Statement (.fabClrCounts e x0) :=
  fun n => ⟨rfl, rfl, rfl, fun k => congrArg (Instr.fabClrCounts · x0) (Nat.add_assoc e n k)⟩
theorem Laws.Elapsed.clrBlockMax (e : Nat) (x0 : Machine.Req) : Laws.Elapsed.Statement (.clrBlockMax e x0) :=
  fun n => ⟨rfl, rfl, rfl, fun k => congrArg (Instr.clrBlockMax · x0) (Nat.add_assoc e n k)⟩
theorem Laws.Elapsed.pilotCycle (e : Nat) (x0 : Nat) (x1 : Nat) (x2 : Nat) (x3 : Int) (x4 : Nat) (x5 : Int) (x6 : Nat) : Laws.Elapsed.Statement (.pilotCycle e x0 x1 x2 x3 x4 x5 x6) :=
  fun n => ⟨rfl, rfl, rfl, fun k => congrArg (Instr.pilotCycle · x0 x1 x2 x3 x4 x5 x6) (Nat.add_assoc e n k)⟩
theorem Laws.Elapsed.pilotSteady (e : Nat) (x0 : Bool) : Laws.Elapsed.Statement (.pilotSteady e x0) :=
  fun n => ⟨rfl, rfl, rfl, fun k => congrArg (Instr.pilotSteady · x0) (Nat.add_assoc e n k)⟩
theorem Laws.Elapsed.pilotNoCycle (e : Nat) : Laws.Elapsed.Statement (.pilotNoCycle e) :=
  fun n => ⟨rfl, rfl, rfl, fun k => congrArg (Instr.pilotNoCycle ·) (Nat.add_assoc e n k)⟩
theorem Laws.Elapsed.pilotWindow (e : Nat) (x0 : Int) (x1 : Nat) : Laws.Elapsed.Statement (.pilotWindow e x0 x1) :=
  fun n => ⟨rfl, rfl, rfl, fun k => congrArg (Instr.pilotWindow · x0 x1) (Nat.add_assoc e n k)⟩
theorem Laws.Elapsed.pwinDataRead (e : Nat) (x0 : Machine.Req) : Laws.Elapsed.Statement (.pwinDataRead e x0) :=
  fun n => ⟨rfl, rfl, rfl, fun k => congrArg (Instr.pwinDataRead · x0) (Nat.add_assoc e n k)⟩
theorem Laws.Elapsed.pwinDataWrite (e : Nat) (x0 : Machine.Req) (x1 : BitVec 40) : Laws.Elapsed.Statement (.pwinDataWrite e x0 x1) :=
  fun n => ⟨rfl, rfl, rfl, fun k => congrArg (Instr.pwinDataWrite · x0 x1) (Nat.add_assoc e n k)⟩
theorem Laws.Elapsed.pwinReset (e : Nat) (x0 : Machine.Req) : Laws.Elapsed.Statement (.pwinReset e x0) :=
  fun n => ⟨rfl, rfl, rfl, fun k => congrArg (Instr.pwinReset · x0) (Nat.add_assoc e n k)⟩
theorem Laws.Elapsed.submit (e : Nat) (x0 : Machine.Req) : Laws.Elapsed.Statement (.submit e x0) :=
  fun n => ⟨rfl, rfl, rfl, fun k => congrArg (Instr.submit · x0) (Nat.add_assoc e n k)⟩
theorem Laws.Elapsed.proofComplete (e : Nat) : Laws.Elapsed.Statement (.proofComplete e) :=
  fun n => ⟨rfl, rfl, rfl, fun k => congrArg (Instr.proofComplete ·) (Nat.add_assoc e n k)⟩
theorem Laws.Elapsed.unitFailed (e : Nat) : Laws.Elapsed.Statement (.unitFailed e) :=
  fun n => ⟨rfl, rfl, rfl, fun k => congrArg (Instr.unitFailed ·) (Nat.add_assoc e n k)⟩
theorem Laws.Elapsed.replaced (e : Nat) : Laws.Elapsed.Statement (.replaced e) :=
  fun n => ⟨rfl, rfl, rfl, fun k => congrArg (Instr.replaced ·) (Nat.add_assoc e n k)⟩
theorem Laws.Elapsed.gloveCheckpoint (e : Nat) (x0 : BitVec 13) (x1 : Option (Fin 4 × Fin 3)) (x2 : BitVec 16) : Laws.Elapsed.Statement (.gloveCheckpoint e x0 x1 x2) :=
  fun n => ⟨rfl, rfl, rfl, fun k => congrArg (Instr.gloveCheckpoint · x0 x1 x2) (Nat.add_assoc e n k)⟩
theorem Laws.Elapsed.journalWrite (e : Nat) (x0 : Fin 16) : Laws.Elapsed.Statement (.journalWrite e x0) :=
  fun n => ⟨rfl, rfl, rfl, fun k => congrArg (Instr.journalWrite · x0) (Nat.add_assoc e n k)⟩
theorem Laws.Elapsed.gloveWatchdog (e : Nat) : Laws.Elapsed.Statement (.gloveWatchdog e) :=
  fun n => ⟨rfl, rfl, rfl, fun k => congrArg (Instr.gloveWatchdog ·) (Nat.add_assoc e n k)⟩
theorem Laws.Elapsed.watchdogReset (e : Nat) : Laws.Elapsed.Statement (.watchdogReset e) :=
  fun n => ⟨rfl, rfl, rfl, fun k => congrArg (Instr.watchdogReset ·) (Nat.add_assoc e n k)⟩
theorem Laws.Elapsed.gloveCache (e : Nat) (x0 : Fin 2) (x1 : Bool) : Laws.Elapsed.Statement (.gloveCache e x0 x1) :=
  fun n => ⟨rfl, rfl, rfl, fun k => congrArg (Instr.gloveCache · x0 x1) (Nat.add_assoc e n k)⟩
theorem Laws.Elapsed.halt (e : Nat) (x0 : Machine.Req) : Laws.Elapsed.Statement (.halt e x0) :=
  fun n => ⟨rfl, rfl, rfl, fun k => congrArg (Instr.halt · x0) (Nat.add_assoc e n k)⟩
theorem Laws.Elapsed.gloveHaltReached (e : Nat) : Laws.Elapsed.Statement (.gloveHaltReached e) :=
  fun n => ⟨rfl, rfl, rfl, fun k => congrArg (Instr.gloveHaltReached ·) (Nat.add_assoc e n k)⟩
theorem Laws.Elapsed.step (e : Nat) (x0 : Machine.Req) (x1 : Option (Fin 4 × Fin 3)) : Laws.Elapsed.Statement (.step e x0 x1) :=
  fun n => ⟨rfl, rfl, rfl, fun k => congrArg (Instr.step · x0 x1) (Nat.add_assoc e n k)⟩
theorem Laws.Elapsed.resume (e : Nat) (x0 : Machine.Req) : Laws.Elapsed.Statement (.resume e x0) :=
  fun n => ⟨rfl, rfl, rfl, fun k => congrArg (Instr.resume · x0) (Nat.add_assoc e n k)⟩
theorem Laws.Elapsed.breakpointWrite (e : Nat) (x0 : Machine.Req) (x1 : BitVec 40) : Laws.Elapsed.Statement (.breakpointWrite e x0 x1) :=
  fun n => ⟨rfl, rfl, rfl, fun k => congrArg (Instr.breakpointWrite · x0 x1) (Nat.add_assoc e n k)⟩
theorem Laws.Elapsed.dwinDataRead (e : Nat) (x0 : Machine.Req) : Laws.Elapsed.Statement (.dwinDataRead e x0) :=
  fun n => ⟨rfl, rfl, rfl, fun k => congrArg (Instr.dwinDataRead · x0) (Nat.add_assoc e n k)⟩
theorem Laws.Elapsed.machineEnable (e : Nat) (x0 : Machine.Req) (x1 : Fin 2) : Laws.Elapsed.Statement (.machineEnable e x0 x1) :=
  fun n => ⟨rfl, rfl, rfl, fun k => congrArg (Instr.machineEnable · x0 x1) (Nat.add_assoc e n k)⟩
theorem Laws.Elapsed.machineDisable (e : Nat) (x0 : Machine.Req) (x1 : Fin 2) : Laws.Elapsed.Statement (.machineDisable e x0 x1) :=
  fun n => ⟨rfl, rfl, rfl, fun k => congrArg (Instr.machineDisable · x0 x1) (Nat.add_assoc e n k)⟩
theorem Laws.Elapsed.dirChange (e : Nat) (x0 : Machine.Req) (x1 : Fin 2) (x2 : Bool) : Laws.Elapsed.Statement (.dirChange e x0 x1 x2) :=
  fun n => ⟨rfl, rfl, rfl, fun k => congrArg (Instr.dirChange · x0 x1 x2) (Nat.add_assoc e n k)⟩
theorem Laws.Elapsed.treqWrite (e : Nat) (x0 : Machine.Req) (x1 : Fin 2) (x2 : BitVec 40) : Laws.Elapsed.Statement (.treqWrite e x0 x1 x2) :=
  fun n => ⟨rfl, rfl, rfl, fun k => congrArg (Instr.treqWrite · x0 x1 x2) (Nat.add_assoc e n k)⟩
theorem Laws.Elapsed.treqLost (e : Nat) (x0 : Fin 2) : Laws.Elapsed.Statement (.treqLost e x0) :=
  fun n => ⟨rfl, rfl, rfl, fun k => congrArg (Instr.treqLost · x0) (Nat.add_assoc e n k)⟩
theorem Laws.Elapsed.limp (e : Nat) (x0 : Machine.Req) (x1 : Fin 2) : Laws.Elapsed.Statement (.limp e x0 x1) :=
  fun n => ⟨rfl, rfl, rfl, fun k => congrArg (Instr.limp · x0 x1) (Nat.add_assoc e n k)⟩
theorem Laws.Elapsed.shortBrake (e : Nat) (x0 : Fin 2) : Laws.Elapsed.Statement (.shortBrake e x0) :=
  fun n => ⟨rfl, rfl, rfl, fun k => congrArg (Instr.shortBrake · x0) (Nat.add_assoc e n k)⟩
theorem Laws.Elapsed.startRetry (e : Nat) (x0 : Fin 2) : Laws.Elapsed.Statement (.startRetry e x0) :=
  fun n => ⟨rfl, rfl, rfl, fun k => congrArg (Instr.startRetry · x0) (Nat.add_assoc e n k)⟩
theorem Laws.Elapsed.sensorReturn (e : Nat) (x0 : Fin 2) : Laws.Elapsed.Statement (.sensorReturn e x0) :=
  fun n => ⟨rfl, rfl, rfl, fun k => congrArg (Instr.sensorReturn · x0) (Nat.add_assoc e n k)⟩
theorem Laws.Elapsed.keWindow (e : Nat) (x0 : Fin 2) : Laws.Elapsed.Statement (.keWindow e x0) :=
  fun n => ⟨rfl, rfl, rfl, fun k => congrArg (Instr.keWindow · x0) (Nat.add_assoc e n k)⟩
theorem Laws.Elapsed.demagClear (e : Nat) (x0 : Machine.Req) (x1 : Fin 2) : Laws.Elapsed.Statement (.demagClear e x0 x1) :=
  fun n => ⟨rfl, rfl, rfl, fun k => congrArg (Instr.demagClear · x0 x1) (Nat.add_assoc e n k)⟩
theorem Laws.Elapsed.mapDataWrite (e : Nat) (x0 : Machine.Req) (x1 : BitVec 40) : Laws.Elapsed.Statement (.mapDataWrite e x0 x1) :=
  fun n => ⟨rfl, rfl, rfl, fun k => congrArg (Instr.mapDataWrite · x0 x1) (Nat.add_assoc e n k)⟩
theorem Laws.Elapsed.mapDataRead (e : Nat) (x0 : Machine.Req) : Laws.Elapsed.Statement (.mapDataRead e x0) :=
  fun n => ⟨rfl, rfl, rfl, fun k => congrArg (Instr.mapDataRead · x0) (Nat.add_assoc e n k)⟩
theorem Laws.Elapsed.validate (e : Nat) (x0 : Machine.Req) : Laws.Elapsed.Statement (.validate e x0) :=
  fun n => ⟨rfl, rfl, rfl, fun k => congrArg (Instr.validate · x0) (Nat.add_assoc e n k)⟩
theorem Laws.Elapsed.mapValidateDone (e : Nat) : Laws.Elapsed.Statement (.mapValidateDone e) :=
  fun n => ⟨rfl, rfl, rfl, fun k => congrArg (Instr.mapValidateDone ·) (Nat.add_assoc e n k)⟩
theorem Laws.Elapsed.chopAssert (x : Machine.PinEdge) : Laws.Elapsed.Statement (.chopAssert x) :=
  fun n => ⟨rfl, rfl, rfl, fun k => congrArg (fun m => Instr.chopAssert ⟨m, x.uv⟩) (Nat.add_assoc x.e n k)⟩
theorem Laws.Elapsed.chopRelease (x : Machine.PinEdge) : Laws.Elapsed.Statement (.chopRelease x) :=
  fun n => ⟨rfl, rfl, rfl, fun k => congrArg (fun m => Instr.chopRelease ⟨m, x.uv⟩) (Nat.add_assoc x.e n k)⟩
theorem Laws.Elapsed.regenPermit (e : Nat) : Laws.Elapsed.Statement (.regenPermit e) :=
  fun n => ⟨rfl, rfl, rfl, fun k => congrArg (Instr.regenPermit ·) (Nat.add_assoc e n k)⟩
theorem Laws.Elapsed.ov1Assert (x : Machine.PinEdge) : Laws.Elapsed.Statement (.ov1Assert x) :=
  fun n => ⟨rfl, rfl, rfl, fun k => congrArg (fun m => Instr.ov1Assert ⟨m, x.uv⟩) (Nat.add_assoc x.e n k)⟩
theorem Laws.Elapsed.ov1Release (x : Machine.PinEdge) : Laws.Elapsed.Statement (.ov1Release x) :=
  fun n => ⟨rfl, rfl, rfl, fun k => congrArg (fun m => Instr.ov1Release ⟨m, x.uv⟩) (Nat.add_assoc x.e n k)⟩
theorem Laws.Elapsed.ov1HandBack (e : Nat) : Laws.Elapsed.Statement (.ov1HandBack e) :=
  fun n => ⟨rfl, rfl, rfl, fun k => congrArg (Instr.ov1HandBack ·) (Nat.add_assoc e n k)⟩
theorem Laws.Elapsed.ov2Assert (x : Machine.PinEdge) : Laws.Elapsed.Statement (.ov2Assert x) :=
  fun n => ⟨rfl, rfl, rfl, fun k => congrArg (fun m => Instr.ov2Assert ⟨m, x.uv⟩) (Nat.add_assoc x.e n k)⟩
theorem Laws.Elapsed.dclUv (e : Nat) (x0 : BitVec 13) : Laws.Elapsed.Statement (.dclUv e x0) :=
  fun n => ⟨rfl, rfl, rfl, fun k => congrArg (Instr.dclUv · x0) (Nat.add_assoc e n k)⟩
theorem Laws.Elapsed.uvClear (e : Nat) (x0 : BitVec 13) : Laws.Elapsed.Statement (.uvClear e x0) :=
  fun n => ⟨rfl, rfl, rfl, fun k => congrArg (Instr.uvClear · x0) (Nat.add_assoc e n k)⟩
theorem Laws.Elapsed.dclSense (e : Nat) (x0 : BitVec 13) (x1 : BitVec 13) : Laws.Elapsed.Statement (.dclSense e x0 x1) :=
  fun n => ⟨rfl, rfl, rfl, fun k => congrArg (Instr.dclSense · x0 x1) (Nat.add_assoc e n k)⟩
theorem Laws.Elapsed.chopTestPulse (e : Nat) : Laws.Elapsed.Statement (.chopTestPulse e) :=
  fun n => ⟨rfl, rfl, rfl, fun k => congrArg (Instr.chopTestPulse ·) (Nat.add_assoc e n k)⟩
theorem Laws.Elapsed.chopClear (e : Nat) (x0 : Machine.Req) : Laws.Elapsed.Statement (.chopClear e x0) :=
  fun n => ⟨rfl, rfl, rfl, fun k => congrArg (Instr.chopClear · x0) (Nat.add_assoc e n k)⟩
theorem Laws.Elapsed.dcdcModeWrite (e : Nat) (x0 : Machine.Req) (x1 : BitVec 2) : Laws.Elapsed.Statement (.dcdcModeWrite e x0 x1) :=
  fun n => ⟨rfl, rfl, rfl, fun k => congrArg (Instr.dcdcModeWrite · x0 x1) (Nat.add_assoc e n k)⟩
theorem Laws.Elapsed.start (e : Nat) (x0 : Machine.Req) : Laws.Elapsed.Statement (.start e x0) :=
  fun n => ⟨rfl, rfl, rfl, fun k => congrArg (Instr.start · x0) (Nat.add_assoc e n k)⟩
theorem Laws.Elapsed.stop (e : Nat) (x0 : Machine.Req) : Laws.Elapsed.Statement (.stop e x0) :=
  fun n => ⟨rfl, rfl, rfl, fun k => congrArg (Instr.stop · x0) (Nat.add_assoc e n k)⟩
theorem Laws.Elapsed.unlock (e : Nat) (x0 : Machine.Req) : Laws.Elapsed.Statement (.unlock e x0) :=
  fun n => ⟨rfl, rfl, rfl, fun k => congrArg (Instr.unlock · x0) (Nat.add_assoc e n k)⟩
theorem Laws.Elapsed.handoverDeadline (e : Nat) : Laws.Elapsed.Statement (.handoverDeadline e) :=
  fun n => ⟨rfl, rfl, rfl, fun k => congrArg (Instr.handoverDeadline ·) (Nat.add_assoc e n k)⟩
theorem Laws.Elapsed.suspendExpiry (e : Nat) : Laws.Elapsed.Statement (.suspendExpiry e) :=
  fun n => ⟨rfl, rfl, rfl, fun k => congrArg (Instr.suspendExpiry ·) (Nat.add_assoc e n k)⟩
theorem Laws.Elapsed.tbatWrite (e : Nat) (x0 : Machine.Req) (x1 : BitVec 16) : Laws.Elapsed.Statement (.tbatWrite e x0 x1) :=
  fun n => ⟨rfl, rfl, rfl, fun k => congrArg (Instr.tbatWrite · x0 x1) (Nat.add_assoc e n k)⟩
theorem Laws.Elapsed.chgTbat (e : Nat) : Laws.Elapsed.Statement (.chgTbat e) :=
  fun n => ⟨rfl, rfl, rfl, fun k => congrArg (Instr.chgTbat ·) (Nat.add_assoc e n k)⟩
theorem Laws.Elapsed.batteryNtcEval (e : Nat) (x0 : Nat) : Laws.Elapsed.Statement (.batteryNtcEval e x0) :=
  fun n => ⟨rfl, rfl, rfl, fun k => congrArg (Instr.batteryNtcEval · x0) (Nat.add_assoc e n k)⟩
theorem Laws.Elapsed.chgTimeout (e : Nat) : Laws.Elapsed.Statement (.chgTimeout e) :=
  fun n => ⟨rfl, rfl, rfl, fun k => congrArg (Instr.chgTimeout ·) (Nat.add_assoc e n k)⟩
theorem Laws.Elapsed.actEnable (e : Nat) (x0 : Machine.Req) (x1 : Fin 3) : Laws.Elapsed.Statement (.actEnable e x0 x1) :=
  fun n => ⟨rfl, rfl, rfl, fun k => congrArg (Instr.actEnable · x0 x1) (Nat.add_assoc e n k)⟩
theorem Laws.Elapsed.actDisable (e : Nat) (x0 : Machine.Req) (x1 : Fin 3) : Laws.Elapsed.Statement (.actDisable e x0 x1) :=
  fun n => ⟨rfl, rfl, rfl, fun k => congrArg (Instr.actDisable · x0 x1) (Nat.add_assoc e n k)⟩
theorem Laws.Elapsed.actTargetWrite (e : Nat) (x0 : Machine.Req) (x1 : Fin 3) (x2 : BitVec 40) : Laws.Elapsed.Statement (.actTargetWrite e x0 x1 x2) :=
  fun n => ⟨rfl, rfl, rfl, fun k => congrArg (Instr.actTargetWrite · x0 x1 x2) (Nat.add_assoc e n k)⟩
theorem Laws.Elapsed.brake (e : Nat) (x0 : Machine.Req) (x1 : Fin 3) : Laws.Elapsed.Statement (.brake e x0 x1) :=
  fun n => ⟨rfl, rfl, rfl, fun k => congrArg (Instr.brake · x0 x1) (Nat.add_assoc e n k)⟩
theorem Laws.Elapsed.ref (e : Nat) (x0 : Machine.Req) (x1 : Fin 3) : Laws.Elapsed.Statement (.ref e x0 x1) :=
  fun n => ⟨rfl, rfl, rfl, fun k => congrArg (Instr.ref · x0 x1) (Nat.add_assoc e n k)⟩
theorem Laws.Elapsed.hallChange (e : Nat) (x0 : Fin 3) (x1 : Fin 8) : Laws.Elapsed.Statement (.hallChange e x0 x1) :=
  fun n => ⟨rfl, rfl, rfl, fun k => congrArg (Instr.hallChange · x0 x1) (Nat.add_assoc e n k)⟩
theorem Laws.Elapsed.inPosition (e : Nat) (x0 : Fin 3) : Laws.Elapsed.Statement (.inPosition e x0) :=
  fun n => ⟨rfl, rfl, rfl, fun k => congrArg (Instr.inPosition · x0) (Nat.add_assoc e n k)⟩
theorem Laws.Elapsed.actTimeout (e : Nat) (x0 : Fin 3) : Laws.Elapsed.Statement (.actTimeout e x0) :=
  fun n => ⟨rfl, rfl, rfl, fun k => congrArg (Instr.actTimeout · x0) (Nat.add_assoc e n k)⟩
theorem Laws.Elapsed.actBrakeEnd (e : Nat) (x0 : Fin 3) : Laws.Elapsed.Statement (.actBrakeEnd e x0) :=
  fun n => ⟨rfl, rfl, rfl, fun k => congrArg (Instr.actBrakeEnd · x0) (Nat.add_assoc e n k)⟩
theorem Laws.Elapsed.alignEnd (e : Nat) (x0 : Fin 3) : Laws.Elapsed.Statement (.alignEnd e x0) :=
  fun n => ⟨rfl, rfl, rfl, fun k => congrArg (Instr.alignEnd · x0) (Nat.add_assoc e n k)⟩
theorem Laws.Elapsed.actRampTimeout (e : Nat) (x0 : Fin 3) : Laws.Elapsed.Statement (.actRampTimeout e x0) :=
  fun n => ⟨rfl, rfl, rfl, fun k => congrArg (Instr.actRampTimeout · x0) (Nat.add_assoc e n k)⟩
theorem Laws.Elapsed.actStartRetry (e : Nat) (x0 : Fin 3) : Laws.Elapsed.Statement (.actStartRetry e x0) :=
  fun n => ⟨rfl, rfl, rfl, fun k => congrArg (Instr.actStartRetry · x0) (Nat.add_assoc e n k)⟩
theorem Laws.Elapsed.lifeMirror (e : Nat) : Laws.Elapsed.Statement (.lifeMirror e) :=
  fun n => ⟨rfl, rfl, rfl, fun k => congrArg (Instr.lifeMirror ·) (Nat.add_assoc e n k)⟩
theorem Laws.Elapsed.mirror (e : Nat) (x0 : Machine.Req) : Laws.Elapsed.Statement (.mirror e x0) :=
  fun n => ⟨rfl, rfl, rfl, fun k => congrArg (Instr.mirror · x0) (Nat.add_assoc e n k)⟩
theorem Laws.Elapsed.mirrorComplete (e : Nat) (x0 : Bool) : Laws.Elapsed.Statement (.mirrorComplete e x0) :=
  fun n => ⟨rfl, rfl, rfl, fun k => congrArg (Instr.mirrorComplete · x0) (Nat.add_assoc e n k)⟩
theorem Laws.Elapsed.clear (e : Nat) (x0 : Machine.Req) (x1 : Fin 48) : Laws.Elapsed.Statement (.clear e x0 x1) :=
  fun n => ⟨rfl, rfl, rfl, fun k => congrArg (Instr.clear · x0 x1) (Nat.add_assoc e n k)⟩
theorem Laws.Elapsed.curveValidate (e : Nat) (x0 : Machine.Req) (x1 : Fin 48) : Laws.Elapsed.Statement (.curveValidate e x0 x1) :=
  fun n => ⟨rfl, rfl, rfl, fun k => congrArg (Instr.curveValidate · x0 x1) (Nat.add_assoc e n k)⟩
theorem Laws.Elapsed.lifeTwinDataRead (e : Nat) (x0 : Machine.Req) : Laws.Elapsed.Statement (.lifeTwinDataRead e x0) :=
  fun n => ⟨rfl, rfl, rfl, fun k => congrArg (Instr.lifeTwinDataRead · x0) (Nat.add_assoc e n k)⟩
theorem Laws.Elapsed.lifeTwinDataWrite (e : Nat) (x0 : Machine.Req) (x1 : BitVec 40) : Laws.Elapsed.Statement (.lifeTwinDataWrite e x0 x1) :=
  fun n => ⟨rfl, rfl, rfl, fun k => congrArg (Instr.lifeTwinDataWrite · x0 x1) (Nat.add_assoc e n k)⟩
theorem Laws.Elapsed.requestFrame (e : Nat) (x0 : Fin 2) (x1 : Machine.Arrival) : Laws.Elapsed.Statement (.requestFrame e x0 x1) :=
  fun n => ⟨rfl, rfl, rfl, fun k => congrArg (Instr.requestFrame · x0 x1) (Nat.add_assoc e n k)⟩
theorem Laws.Elapsed.fetchFrame (e : Nat) (x0 : Fin 2) (x1 : Bool) : Laws.Elapsed.Statement (.fetchFrame e x0 x1) :=
  fun n => ⟨rfl, rfl, rfl, fun k => congrArg (Instr.fetchFrame · x0 x1) (Nat.add_assoc e n k)⟩
theorem Laws.Elapsed.echo (e : Nat) (x0 : Machine.Req) (x1 : List Machine.Byte) : Laws.Elapsed.Statement (.echo e x0 x1) :=
  fun n => ⟨rfl, rfl, rfl, fun k => congrArg (Instr.echo · x0 x1) (Nat.add_assoc e n k)⟩
theorem Laws.Elapsed.regRead (e : Nat) (x0 : Machine.Req) (x1 : List (BitVec 16)) : Laws.Elapsed.Statement (.regRead e x0 x1) :=
  fun n => ⟨rfl, rfl, rfl, fun k => congrArg (Instr.regRead · x0 x1) (Nat.add_assoc e n k)⟩
theorem Laws.Elapsed.regWrite (e : Nat) (x0 : Machine.Req) (x1 : List (BitVec 16 × Machine.Reg)) : Laws.Elapsed.Statement (.regWrite e x0 x1) :=
  fun n => ⟨rfl, rfl, rfl, fun k => congrArg (Instr.regWrite · x0 x1) (Nat.add_assoc e n k)⟩
theorem Laws.Elapsed.regReadRepeat (e : Nat) (x0 : Machine.Req) (x1 : BitVec 16) (x2 : BitVec 16) : Laws.Elapsed.Statement (.regReadRepeat e x0 x1 x2) :=
  fun n => ⟨rfl, rfl, rfl, fun k => congrArg (Instr.regReadRepeat · x0 x1 x2) (Nat.add_assoc e n k)⟩
theorem Laws.Elapsed.regWriteRepeat (e : Nat) (x0 : Machine.Req) (x1 : BitVec 16) (x2 : List Machine.Reg) : Laws.Elapsed.Statement (.regWriteRepeat e x0 x1 x2) :=
  fun n => ⟨rfl, rfl, rfl, fun k => congrArg (Instr.regWriteRepeat · x0 x1 x2) (Nat.add_assoc e n k)⟩
theorem Laws.Elapsed.regModify (e : Nat) (x0 : Machine.Req) (x1 : List (BitVec 16 × Machine.Reg × Machine.Reg)) : Laws.Elapsed.Statement (.regModify e x0 x1) :=
  fun n => ⟨rfl, rfl, rfl, fun k => congrArg (Instr.regModify · x0 x1) (Nat.add_assoc e n k)⟩
theorem Laws.Elapsed.reset (e : Nat) (x0 : Machine.Req) (x1 : BitVec 8) : Laws.Elapsed.Statement (.reset e x0 x1) :=
  fun n => ⟨rfl, rfl, rfl, fun k => congrArg (Instr.reset · x0 x1) (Nat.add_assoc e n k)⟩
theorem Laws.Elapsed.resetDelayExpiry (e : Nat) : Laws.Elapsed.Statement (.resetDelayExpiry e) :=
  fun n => ⟨rfl, rfl, rfl, fun k => congrArg (Instr.resetDelayExpiry ·) (Nat.add_assoc e n k)⟩
theorem Laws.Elapsed.sessionOpen (e : Nat) (x0 : Machine.Req) : Laws.Elapsed.Statement (.sessionOpen e x0) :=
  fun n => ⟨rfl, rfl, rfl, fun k => congrArg (Instr.sessionOpen · x0) (Nat.add_assoc e n k)⟩
theorem Laws.Elapsed.sessionAuth (e : Nat) (x0 : Machine.Req) (x1 : List Machine.Byte) : Laws.Elapsed.Statement (.sessionAuth e x0 x1) :=
  fun n => ⟨rfl, rfl, rfl, fun k => congrArg (Instr.sessionAuth · x0 x1) (Nat.add_assoc e n k)⟩
theorem Laws.Elapsed.sessionClose (e : Nat) (x0 : Machine.Req) : Laws.Elapsed.Statement (.sessionClose e x0) :=
  fun n => ⟨rfl, rfl, rfl, fun k => congrArg (Instr.sessionClose · x0) (Nat.add_assoc e n k)⟩
theorem Laws.Elapsed.sessionTimeout (e : Nat) (x0 : Fin 255) : Laws.Elapsed.Statement (.sessionTimeout e x0) :=
  fun n => ⟨rfl, rfl, rfl, fun k => congrArg (Instr.sessionTimeout · x0) (Nat.add_assoc e n k)⟩
theorem Laws.Elapsed.lockoutEnd (e : Nat) (x0 : Fin 6) (x1 : Fin 256) : Laws.Elapsed.Statement (.lockoutEnd e x0 x1) :=
  fun n => ⟨rfl, rfl, rfl, fun k => congrArg (Instr.lockoutEnd · x0 x1) (Nat.add_assoc e n k)⟩
theorem Laws.Elapsed.keyProgram (e : Nat) (x0 : Machine.Req) (x1 : List Machine.Byte) (x2 : BitVec 32) : Laws.Elapsed.Statement (.keyProgram e x0 x1 x2) :=
  fun n => ⟨rfl, rfl, rfl, fun k => congrArg (Instr.keyProgram · x0 x1 x2) (Nat.add_assoc e n k)⟩
theorem Laws.Elapsed.queueRead (e : Nat) (x0 : Machine.Req) (x1 : BitVec 8) (x2 : BitVec 16) (x3 : BitVec 16) : Laws.Elapsed.Statement (.queueRead e x0 x1 x2 x3) :=
  fun n => ⟨rfl, rfl, rfl, fun k => congrArg (Instr.queueRead · x0 x1 x2 x3) (Nat.add_assoc e n k)⟩
theorem Laws.Elapsed.auditRead (e : Nat) (x0 : Machine.Req) (x1 : BitVec 40) (x2 : BitVec 16) : Laws.Elapsed.Statement (.auditRead e x0 x1 x2) :=
  fun n => ⟨rfl, rfl, rfl, fun k => congrArg (Instr.auditRead · x0 x1 x2) (Nat.add_assoc e n k)⟩
theorem Laws.Elapsed.eventRead (e : Nat) (x0 : Machine.Req) (x1 : BitVec 40) (x2 : BitVec 16) : Laws.Elapsed.Statement (.eventRead e x0 x1 x2) :=
  fun n => ⟨rfl, rfl, rfl, fun k => congrArg (Instr.eventRead · x0 x1 x2) (Nat.add_assoc e n k)⟩
theorem Laws.Elapsed.auditDrain (e : Nat) (x0 : Nat) (x1 : Bool) : Laws.Elapsed.Statement (.auditDrain e x0 x1) :=
  fun n => ⟨rfl, rfl, rfl, fun k => congrArg (Instr.auditDrain · x0 x1) (Nat.add_assoc e n k)⟩
theorem Laws.Elapsed.eventLogDrain (e : Nat) (x0 : Nat) : Laws.Elapsed.Statement (.eventLogDrain e x0) :=
  fun n => ⟨rfl, rfl, rfl, fun k => congrArg (Instr.eventLogDrain · x0) (Nat.add_assoc e n k)⟩
theorem Laws.Elapsed.canEnableWrite (e : Nat) (x0 : Machine.Req) (x1 : Fin 3) (x2 : Bool) : Laws.Elapsed.Statement (.canEnableWrite e x0 x1 x2) :=
  fun n => ⟨rfl, rfl, rfl, fun k => congrArg (Instr.canEnableWrite · x0 x1 x2) (Nat.add_assoc e n k)⟩
theorem Laws.Elapsed.canIntegrated (e : Nat) (x0 : Fin 3) : Laws.Elapsed.Statement (.canIntegrated e x0) :=
  fun n => ⟨rfl, rfl, rfl, fun k => congrArg (Instr.canIntegrated · x0) (Nat.add_assoc e n k)⟩
theorem Laws.Elapsed.canTxStart (e : Nat) (x0 : Fin 3) : Laws.Elapsed.Statement (.canTxStart e x0) :=
  fun n => ⟨rfl, rfl, rfl, fun k => congrArg (Instr.canTxStart · x0) (Nat.add_assoc e n k)⟩
theorem Laws.Elapsed.canTxAttemptEnd (e : Nat) (x0 : Fin 3) (x1 : Fin 3) (x2 : Fin 7) (x3 : Bool) : Laws.Elapsed.Statement (.canTxAttemptEnd e x0 x1 x2 x3) :=
  fun n => ⟨rfl, rfl, rfl, fun k => congrArg (Instr.canTxAttemptEnd · x0 x1 x2 x3) (Nat.add_assoc e n k)⟩
theorem Laws.Elapsed.recover (e : Nat) (x0 : Machine.Req) (x1 : Fin 3) : Laws.Elapsed.Statement (.recover e x0 x1) :=
  fun n => ⟨rfl, rfl, rfl, fun k => congrArg (Instr.recover · x0 x1) (Nat.add_assoc e n k)⟩
theorem Laws.Elapsed.canRecovered (e : Nat) (x0 : Fin 3) : Laws.Elapsed.Statement (.canRecovered e x0) :=
  fun n => ⟨rfl, rfl, rfl, fun k => congrArg (Instr.canRecovered · x0) (Nat.add_assoc e n k)⟩
theorem Laws.Elapsed.canLoad (e : Nat) (x0 : Machine.Req) (x1 : Fin 3) (x2 : BitVec 6) (x3 : Bool) : Laws.Elapsed.Statement (.canLoad e x0 x1 x2 x3) :=
  fun n => ⟨rfl, rfl, rfl, fun k => congrArg (Instr.canLoad · x0 x1 x2 x3) (Nat.add_assoc e n k)⟩
theorem Laws.Elapsed.canTxreq (e : Nat) (x0 : Machine.Req) (x1 : Fin 3) (x2 : BitVec 32) : Laws.Elapsed.Statement (.canTxreq e x0 x1 x2) :=
  fun n => ⟨rfl, rfl, rfl, fun k => congrArg (Instr.canTxreq · x0 x1 x2) (Nat.add_assoc e n k)⟩
theorem Laws.Elapsed.canCancel (e : Nat) (x0 : Machine.Req) (x1 : Fin 3) (x2 : BitVec 5) : Laws.Elapsed.Statement (.canCancel e x0 x1 x2) :=
  fun n => ⟨rfl, rfl, rfl, fun k => congrArg (Instr.canCancel · x0 x1 x2) (Nat.add_assoc e n k)⟩
theorem Laws.Elapsed.txqFlush (e : Nat) (x0 : Machine.Req) (x1 : Fin 3) : Laws.Elapsed.Statement (.txqFlush e x0 x1) :=
  fun n => ⟨rfl, rfl, rfl, fun k => congrArg (Instr.txqFlush · x0 x1) (Nat.add_assoc e n k)⟩
theorem Laws.Elapsed.canRxack (e : Nat) (x0 : Machine.Req) (x1 : Fin 3) (x2 : BitVec 9) : Laws.Elapsed.Statement (.canRxack e x0 x1 x2) :=
  fun n => ⟨rfl, rfl, rfl, fun k => congrArg (Instr.canRxack · x0 x1 x2) (Nat.add_assoc e n k)⟩
theorem Laws.Elapsed.purge (e : Nat) (x0 : Machine.Req) : Laws.Elapsed.Statement (.purge e x0) :=
  fun n => ⟨rfl, rfl, rfl, fun k => congrArg (Instr.purge · x0) (Nat.add_assoc e n k)⟩
theorem Laws.Elapsed.fwinDataAccess (e : Nat) (x0 : Machine.Req) (x1 : Bool) (x2 : BitVec 40) : Laws.Elapsed.Statement (.fwinDataAccess e x0 x1 x2) :=
  fun n => ⟨rfl, rfl, rfl, fun k => congrArg (Instr.fwinDataAccess · x0 x1 x2) (Nat.add_assoc e n k)⟩
theorem Laws.Elapsed.canFrameReceived (e : Nat) (x0 : Fin 3) (x1 : Machine.CanFrame) (x2 : Nat) (x3 : Bool) : Laws.Elapsed.Statement (.canFrameReceived e x0 x1 x2 x3) :=
  fun n => ⟨rfl, rfl, rfl, fun k => congrArg (Instr.canFrameReceived · x0 x1 x2 x3) (Nat.add_assoc e n k)⟩
theorem Laws.Elapsed.tunnelSegment (e : Nat) (x0 : Fin 3) (x1 : Machine.CanFrame) (x2 : Nat) (x3 : Bool) : Laws.Elapsed.Statement (.tunnelSegment e x0 x1 x2 x3) :=
  fun n => ⟨rfl, rfl, rfl, fun k => congrArg (Instr.tunnelSegment · x0 x1 x2 x3) (Nat.add_assoc e n k)⟩
theorem Laws.Elapsed.tunnelTimeout (e : Nat) (x0 : Fin 3) (x1 : Fin 256) : Laws.Elapsed.Statement (.tunnelTimeout e x0 x1) :=
  fun n => ⟨rfl, rfl, rfl, fun k => congrArg (Instr.tunnelTimeout · x0 x1) (Nat.add_assoc e n k)⟩
theorem Laws.Elapsed.heartbeatSend (e : Nat) : Laws.Elapsed.Statement (.heartbeatSend e) :=
  fun n => ⟨rfl, rfl, rfl, fun k => congrArg (Instr.heartbeatSend ·) (Nat.add_assoc e n k)⟩
theorem Laws.Elapsed.heartbeatReceived (e : Nat) (x0 : Fin 3) (x1 : Machine.CanFrame) (x2 : Nat) (x3 : Bool) : Laws.Elapsed.Statement (.heartbeatReceived e x0 x1 x2 x3) :=
  fun n => ⟨rfl, rfl, rfl, fun k => congrArg (Instr.heartbeatReceived · x0 x1 x2 x3) (Nat.add_assoc e n k)⟩
theorem Laws.Elapsed.partnerLost (e : Nat) (x0 : Fin 64) : Laws.Elapsed.Statement (.partnerLost e x0) :=
  fun n => ⟨rfl, rfl, rfl, fun k => congrArg (Instr.partnerLost · x0) (Nat.add_assoc e n k)⟩
theorem Laws.Elapsed.stoDevice (e : Nat) (x0 : Fin 2) : Laws.Elapsed.Statement (.stoDevice e x0) :=
  fun n => ⟨rfl, rfl, rfl, fun k => congrArg (Instr.stoDevice · x0) (Nat.add_assoc e n k)⟩
theorem Laws.Elapsed.stoWear (e : Nat) (x0 : Fin 2) (x1 : BitVec 4) (x2 : BitVec 4) (x3 : BitVec 2) : Laws.Elapsed.Statement (.stoWear e x0 x1 x2 x3) :=
  fun n => ⟨rfl, rfl, rfl, fun k => congrArg (Instr.stoWear · x0 x1 x2 x3) (Nat.add_assoc e n k)⟩
theorem Laws.Elapsed.emmcTuning (e : Nat) (x0 : Fin 2) (x1 : Fin 4) (x2 : Bool) : Laws.Elapsed.Statement (.emmcTuning e x0 x1 x2) :=
  fun n => ⟨rfl, rfl, rfl, fun k => congrArg (Instr.emmcTuning · x0 x1 x2) (Nat.add_assoc e n k)⟩
theorem Laws.Elapsed.format (e : Nat) (x0 : Machine.Req) : Laws.Elapsed.Statement (.format e x0) :=
  fun n => ⟨rfl, rfl, rfl, fun k => congrArg (Instr.format · x0) (Nat.add_assoc e n k)⟩
theorem Laws.Elapsed.recEnableWrite (e : Nat) (x0 : Machine.Req) (x1 : Bool) : Laws.Elapsed.Statement (.recEnableWrite e x0 x1) :=
  fun n => ⟨rfl, rfl, rfl, fun k => congrArg (Instr.recEnableWrite · x0 x1) (Nat.add_assoc e n k)⟩
theorem Laws.Elapsed.recTrigger (e : Nat) (x0 : Machine.Req) : Laws.Elapsed.Statement (.recTrigger e x0) :=
  fun n => ⟨rfl, rfl, rfl, fun k => congrArg (Instr.recTrigger · x0) (Nat.add_assoc e n k)⟩
theorem Laws.Elapsed.recList (e : Nat) (x0 : Machine.Req) (x1 : BitVec 32) (x2 : BitVec 8) : Laws.Elapsed.Statement (.recList e x0 x1 x2) :=
  fun n => ⟨rfl, rfl, rfl, fun k => congrArg (Instr.recList · x0 x1 x2) (Nat.add_assoc e n k)⟩
theorem Laws.Elapsed.recRead (e : Nat) (x0 : Machine.Req) (x1 : BitVec 32) (x2 : BitVec 32) (x3 : BitVec 16) : Laws.Elapsed.Statement (.recRead e x0 x1 x2 x3) :=
  fun n => ⟨rfl, rfl, rfl, fun k => congrArg (Instr.recRead · x0 x1 x2 x3) (Nat.add_assoc e n k)⟩
theorem Laws.Elapsed.recDone (e : Nat) : Laws.Elapsed.Statement (.recDone e) :=
  fun n => ⟨rfl, rfl, rfl, fun k => congrArg (Instr.recDone ·) (Nat.add_assoc e n k)⟩
theorem Laws.Elapsed.updBegin (e : Nat) (x0 : Machine.Req) (x1 : BitVec 32) : Laws.Elapsed.Statement (.updBegin e x0 x1) :=
  fun n => ⟨rfl, rfl, rfl, fun k => congrArg (Instr.updBegin · x0 x1) (Nat.add_assoc e n k)⟩
theorem Laws.Elapsed.updBlock (e : Nat) (x0 : Machine.Req) (x1 : BitVec 8) (x2 : BitVec 32) (x3 : List Machine.Byte) : Laws.Elapsed.Statement (.updBlock e x0 x1 x2 x3) :=
  fun n => ⟨rfl, rfl, rfl, fun k => congrArg (Instr.updBlock · x0 x1 x2 x3) (Nat.add_assoc e n k)⟩
theorem Laws.Elapsed.updCheck (e : Nat) (x0 : Machine.Req) : Laws.Elapsed.Statement (.updCheck e x0) :=
  fun n => ⟨rfl, rfl, rfl, fun k => congrArg (Instr.updCheck · x0) (Nat.add_assoc e n k)⟩
theorem Laws.Elapsed.updChecked (e : Nat) (x0 : Bool) : Laws.Elapsed.Statement (.updChecked e x0) :=
  fun n => ⟨rfl, rfl, rfl, fun k => congrArg (Instr.updChecked · x0) (Nat.add_assoc e n k)⟩
theorem Laws.Elapsed.updActivate (e : Nat) (x0 : Machine.Req) : Laws.Elapsed.Statement (.updActivate e x0) :=
  fun n => ⟨rfl, rfl, rfl, fun k => congrArg (Instr.updActivate · x0) (Nat.add_assoc e n k)⟩
theorem Laws.Elapsed.updReadyTimeout (e : Nat) (x0 : Fin 3) : Laws.Elapsed.Statement (.updReadyTimeout e x0) :=
  fun n => ⟨rfl, rfl, rfl, fun k => congrArg (Instr.updReadyTimeout · x0) (Nat.add_assoc e n k)⟩
theorem Laws.Elapsed.updSwitched (e : Nat) : Laws.Elapsed.Statement (.updSwitched e) :=
  fun n => ⟨rfl, rfl, rfl, fun k => congrArg (Instr.updSwitched ·) (Nat.add_assoc e n k)⟩
theorem Laws.Elapsed.updConfirm (e : Nat) (x0 : Machine.Req) : Laws.Elapsed.Statement (.updConfirm e x0) :=
  fun n => ⟨rfl, rfl, rfl, fun k => congrArg (Instr.updConfirm · x0) (Nat.add_assoc e n k)⟩
theorem Laws.Elapsed.updAbort (e : Nat) (x0 : Machine.Req) : Laws.Elapsed.Statement (.updAbort e x0) :=
  fun n => ⟨rfl, rfl, rfl, fun k => congrArg (Instr.updAbort · x0) (Nat.add_assoc e n k)⟩
theorem Laws.Elapsed.updWindowExpiry (e : Nat) : Laws.Elapsed.Statement (.updWindowExpiry e) :=
  fun n => ⟨rfl, rfl, rfl, fun k => congrArg (Instr.updWindowExpiry ·) (Nat.add_assoc e n k)⟩
theorem Laws.Elapsed.updFallback (e : Nat) (x0 : Fin 3) (x1 : Bool) : Laws.Elapsed.Statement (.updFallback e x0 x1) :=
  fun n => ⟨rfl, rfl, rfl, fun k => congrArg (Instr.updFallback · x0 x1) (Nat.add_assoc e n k)⟩
theorem Laws.Elapsed.updCommitted (e : Nat) (x0 : Bool) : Laws.Elapsed.Statement (.updCommitted e x0) :=
  fun n => ⟨rfl, rfl, rfl, fun k => congrArg (Instr.updCommitted · x0) (Nat.add_assoc e n k)⟩
theorem Laws.Elapsed.pairMessageReceived (e : Nat) (x0 : Machine.Arrival) : Laws.Elapsed.Statement (.pairMessageReceived e x0) :=
  fun n => ⟨rfl, rfl, rfl, fun k => congrArg (Instr.pairMessageReceived · x0) (Nat.add_assoc e n k)⟩
theorem Laws.Elapsed.pairLinkDown (e : Nat) : Laws.Elapsed.Statement (.pairLinkDown e) :=
  fun n => ⟨rfl, rfl, rfl, fun k => congrArg (Instr.pairLinkDown ·) (Nat.add_assoc e n k)⟩
theorem Laws.Elapsed.flagClear (e : Nat) (x0 : Machine.Req) (x1 : BitVec 16) (x2 : BitVec 40) : Laws.Elapsed.Statement (.flagClear e x0 x1 x2) :=
  fun n => ⟨rfl, rfl, rfl, fun k => congrArg (Instr.flagClear · x0 x1 x2) (Nat.add_assoc e n k)⟩
theorem Laws.Elapsed.registerWrite (e : Nat) (x0 : Machine.Req) (x1 : BitVec 16) (x2 : BitVec 40) : Laws.Elapsed.Statement (.registerWrite e x0 x1 x2) :=
  fun n => ⟨rfl, rfl, rfl, fun k => congrArg (Instr.registerWrite · x0 x1 x2) (Nat.add_assoc e n k)⟩
theorem Laws.Elapsed.filteredLevelChange (e : Nat) (x0 : Fin 3) (x1 : Bool) : Laws.Elapsed.Statement (.filteredLevelChange e x0 x1) :=
  fun n => ⟨rfl, rfl, rfl, fun k => congrArg (Instr.filteredLevelChange · x0 x1) (Nat.add_assoc e n k)⟩
theorem Laws.Elapsed.encoderEdge (e : Nat) (x0 : Fin 2) (x1 : Bool) (x2 : Machine.EdgePace) : Laws.Elapsed.Statement (.encoderEdge e x0 x1 x2) :=
  fun n => ⟨rfl, rfl, rfl, fun k => congrArg (Instr.encoderEdge · x0 x1 x2) (Nat.add_assoc e n k)⟩
theorem Laws.Elapsed.canReceiveError (e : Nat) (x0 : Fin 3) (x1 : Fin 7) (x2 : Bool) : Laws.Elapsed.Statement (.canReceiveError e x0 x1 x2) :=
  fun n => ⟨rfl, rfl, rfl, fun k => congrArg (Instr.canReceiveError · x0 x1 x2) (Nat.add_assoc e n k)⟩
theorem Laws.Elapsed.hallCodeError (e : Nat) (x0 : Fin 3) : Laws.Elapsed.Statement (.hallCodeError e x0) :=
  fun n => ⟨rfl, rfl, rfl, fun k => congrArg (Instr.hallCodeError · x0) (Nat.add_assoc e n k)⟩
theorem Laws.Elapsed.plantStored (e : Nat) : Laws.Elapsed.Statement (.plantStored e) :=
  fun n => ⟨rfl, rfl, rfl, fun k => congrArg (Instr.plantStored ·) (Nat.add_assoc e n k)⟩
theorem Laws.Elapsed.boundaryScanExtest (e : Nat) (x0 : Bool) : Laws.Elapsed.Statement (.boundaryScanExtest e x0) :=
  fun n => ⟨rfl, rfl, rfl, fun k => congrArg (Instr.boundaryScanExtest · x0) (Nat.add_assoc e n k)⟩

end Sys2Proof
end

