-- ==== Sys2Proof/Laws/Safe.lean ====
section
/-! SUPPORT. What an entry to SAFE does, once for every command that makes one. -/

namespace Sys2Proof.Machine

theorem State.fld_of_reg {s t : State} {i : Nat} (h : t.reg i = s.reg i) (f : Fld) : t.fld i f = s.fld i f := by
  unfold State.fld; rw [h]

theorem State.mode_of_reg {s t : State} (h : t.reg R.DEV_MODE = s.reg R.DEV_MODE) : t.mode = s.mode := State.fld_of_reg h _

/-- A register of the DEV group that the bitmap does not name. -/
theorem Alter.dev {m : Nat} {s t : State} (a : Alter m s t) (i : Nat) (hi : i < 64) (h : m.testBit i = false) :
    t.reg i = s.reg i := a.low i hi h

/-- What the link's evaluation may change outside a discharge. -/
abbrev linkM : Nat := 2 ^ 67 ||| 2 ^ 74 ||| 2 ^ 76 ||| 2 ^ 88 ||| 2 ^ 94 ||| 2 ^ 97 ||| 2 ^ 98
/-- What `putMode` may change beside the mode register and the transition. -/
abbrev putM : Nat := 2 ^ 67 ||| 2 ^ 70 ||| 2 ^ 74 ||| 2 ^ 75 ||| 2 ^ 76 ||| 2 ^ 88 ||| 2 ^ 89 ||| 2 ^ 86
/-- What an entry to SAFE may change before the mode changes. -/
abbrev safeM : Nat := 2 ^ 67 ||| 2 ^ 74 ||| 2 ^ 76 ||| 2 ^ 86 ||| 2 ^ 87 ||| 2 ^ 88 ||| 2 ^ 89 ||| 2 ^ 101

/-- Outside a discharge the link's evaluation touches no register of the DEV group and no transition. -/
theorem linkEval_dev (s : State) (h : s.discharging = false) :
    (∀ i, i < 64 → (linkEval s).reg i = s.reg i) ∧ (linkEval s).trans = s.trans ∧ (linkEval s).nfault = s.nfault ∧
      (linkEval s).heldMode = s.heldMode ∧ (linkEval s).heldFn = s.heldFn ∧ (linkEval s).discharging = s.discharging := by
  unfold linkEval
  extract_lets inDrive s1 av s2 s3
  have a1 : Alter (2 ^ 88) s s1 := by
    unfold s1
    refine Alter.and ?_ (alter_forEach _ _ _ ?_)
    · exact Alter.refl _ _
    · intro a b
      exact alter_setConv ..
  clear_value s1
  have a2 : Alter (2 ^ 88 ||| 2 ^ 67) s s2 := by
    unfold s2
    exact (a1.mono rfl).step (alter_setBit ..) (rm_high (by decide) rfl)
  clear_value s2
  have e : s3 = s2 := by
    unfold s3
    rw [a2.discharging (by decide), h]
    rfl
  have a3 : Alter linkM s s3 := by
    rw [e]
    exact a2.mono rfl
  clear e
  clear_value s3
  have k : ∀ u, Alter linkM s u → (∀ i, i < 64 → u.reg i = s.reg i) ∧ u.trans = s.trans ∧ u.nfault = s.nfault ∧
      u.heldMode = s.heldMode ∧ u.heldFn = s.heldFn ∧ u.discharging = s.discharging := fun u a =>
    ⟨fun i hi => a.low i hi (by interval_cases i <;> rfl), a.trans rfl, a.nfault rfl, a.heldMode rfl, a.heldFn rfl,
      a.discharging rfl⟩
  split
  · exact k _ ((a3.step (alter_regenEnds ..) rfl).step (alter_dclSlots ..) rfl)
  · split
    · exact k _ ((a3.step (alter_regenBegins ..) rfl).step (alter_dclSlots ..) rfl)
    · exact k _ (a3.step (alter_dclSlots ..) rfl)

theorem Fld.get_lt (f : Fld) (v : Reg) : f.get v < 2 ^ f.width := Nat.mod_lt _ (Nat.two_pow_pos _)

/-- What putting a mode in force leaves, with no discharge in progress. -/
theorem putMode_spec (new : Nat) (forced : Bool) (r : Req) (s : State) (hn : new < 8) (hd : s.discharging = false) :
    (putMode new forced r s).mode = new ∧ (putMode new forced r s).trans = none ∧
      (putMode new forced r s).nfault = s.nfault ∧ (putMode new forced r s).heldMode = s.heldMode ∧
      (putMode new forced r s).heldFn = s.heldFn ∧
      (∀ i, i < 64 → i ≠ R.DEV_MODE → (putMode new forced r s).reg i = s.reg i) ∧
      (putMode new forced r s).bit R.DEV_MODE F.DEV_MODE.TRANSIT = false := by
  unfold putMode
  extract_lets old s1 s2 s3 s4
  have m1 : s1.mode = new ∧ s1.bit R.DEV_MODE F.DEV_MODE.TRANSIT = false := by
    constructor
    · unfold s1 State.mode State.setBit
      rw [State.fld_setFld_other _ _ _ _ _ _ (by decide) (by decide) (by decide) (by decide),
        State.fld_setFld_other _ _ _ _ _ _ (by decide) (by decide) (by decide) (by decide),
        State.fld_setFld_same _ _ _ _ (by decide) (by decide)]
      exact Nat.mod_eq_of_lt hn
    · exact State.bit_setBit_same _ _ _ _ (by decide) (by decide)
  have r1 : ∀ i, i ≠ R.DEV_MODE → s1.reg i = s.reg i := by
    intro i hi
    unfold s1
    rw [State.reg_setBit_ne _ _ _ hi, State.reg_setFld_ne _ _ _ hi, State.reg_setFld_ne _ _ _ hi]
  have f1 : s1.nfault = s.nfault ∧ s1.heldMode = s.heldMode ∧ s1.heldFn = s.heldFn ∧ s1.discharging = s.discharging :=
    ⟨rfl, rfl, rfl, rfl⟩
  clear_value s1
  have a4 : Alter putM s1 s2 := by
    unfold s2
    exact ((alter_trans ..).mono rfl).step (alter_carriesClear ..) rfl
  have t2 : s2.trans = none := by
    unfold s2
    exact (alter_carriesClear { s1 with trans := none }).trans rfl
  clear_value s2
  have a5 : Alter putM s2 s3 := by
    unfold s3
    split
    · exact Alter.refl _ _
    · exact (alter_verdictsEnd ..).mono rfl
  have t3 : s3.trans = none := by
    unfold s3
    split
    · exact t2
    · exact ((alter_verdictsEnd ..).trans rfl).trans t2
  clear_value s3
  have a6 : Alter putM s3 (s4.raise EV.MODE 0xFF [(1, old), (1, new), (1, b2n forced)]) := by
    unfold s4
    exact ((alter_auditAdd ..).mono rfl).step (alter_raise ..) rfl
  have t6 : (s4.raise EV.MODE 0xFF [(1, old), (1, new), (1, b2n forced)]).trans = none := by
    unfold s4
    exact ((alter_raise ..).trans rfl).trans (((alter_auditAdd ..).trans rfl).trans t3)
  clear_value s4
  revert a6 t6
  generalize s4.raise EV.MODE 0xFF [(1, old), (1, new), (1, b2n forced)] = s5
  intro a6 t6
  have a : Alter putM s1 s5 := (a4.and a5).and a6
  have e : ∀ i, i < 64 → s5.reg i = s1.reg i := fun i hi => a.low i hi (by interval_cases i <;> rfl)
  obtain ⟨d1, d2, d3, d4, d5, _⟩ := linkEval_dev s5 ((a.discharging rfl).trans (f1.2.2.2.trans hd))
  have hm : (linkEval s5).reg R.DEV_MODE = s1.reg R.DEV_MODE := (d1 _ (by decide)).trans (e _ (by decide))
  refine ⟨(State.mode_of_reg hm).trans m1.1, d2.trans t6, d3.trans ((a.nfault rfl).trans f1.1), d4.trans ((a.heldMode rfl).trans f1.2.1),
    d5.trans ((a.heldFn rfl).trans f1.2.2.1), fun i hi hne => (d1 i hi).trans ((e i hi).trans (r1 i hne)), ?_⟩
  unfold State.bit State.fld
  rw [hm]
  exact m1.2

theorem dropAll_spec (status : Nat) (s : State) : (dropAll status s).heldMode = none ∧ (dropAll status s).heldFn = [] := by
  unfold dropAll
  extract_lets hs s1
  have a : Alter evM s1 (forEach hs (fun h s => dropHeld h status s) s1) :=
    (Alter.refl _ _).and (alter_forEach _ _ _ fun _ _ => (alter_dropHeld ..).mono rfl)
  exact ⟨(a.heldMode rfl).trans rfl, (a.heldFn rfl).trans rfl⟩

/-- SAFE entered from another mode. -/
theorem safeEntry_spec (r : Req) (s : State) :
    (safeEntry r s).mode = Mode.safe ∧ (safeEntry r s).nfault = true ∧ (safeEntry r s).heldMode = none ∧
      (safeEntry r s).heldFn = [] ∧ (safeEntry r s).trans = none ∧
      (∀ i, i < 64 → i ≠ R.DEV_MODE → i ≠ R.DEV_QUEUED → (safeEntry r s).reg i = s.reg i) := by
  unfold safeEntry
  extract_lets s1 s2 s3 s4 s5 s6
  have h1 : s1.nfault = true ∧ s1.discharging = false := by
    unfold s1
    exact ⟨(alter_gloveResume _).nfault rfl, (alter_gloveResume _).discharging rfl⟩
  have l1 : ∀ i, i < 64 → s1.reg i = s.reg i := by
    unfold s1
    intro i hi
    exact (alter_gloveResume _).low i hi (by interval_cases i <;> rfl)
  clear_value s1
  have a7 : Alter safeM s1 s6 := by
    unfold s6 s5 s4 s3 s2
    refine Alter.step ?_ (alter_raise ..) rfl
    refine Alter.step ?_ (alter_setBit ..) (rm_high (by decide) rfl)
    refine Alter.step ?_ (alter_lvBrakeAll ..) rfl
    refine Alter.step ?_ (alter_selHold ..) rfl
    refine Alter.step ?_ (alter_selHold ..) rfl
    refine Alter.step ?_ (alter_stagesOff ..) rfl
    exact (alter_forceEnd ..).mono rfl
  clear_value s6
  obtain ⟨p1, p2, p3, -, -, p6, -⟩ := putMode_spec Mode.safe false r s6 (by decide) ((a7.discharging rfl).trans h1.2)
  have ad := alter_dropAll St.wrongMode (putMode Mode.safe false r s6)
  have hd := dropAll_spec St.wrongMode (putMode Mode.safe false r s6)
  refine ⟨(State.mode_of_reg (ad.low _ (by decide) (by decide))).trans p1, (ad.nfault rfl).trans (p3.trans ((a7.nfault rfl).trans h1.1)),
    hd.1, hd.2, (ad.trans rfl).trans p2, fun i hi hm hq => ?_⟩
  have e1 : (dropAll St.wrongMode (putMode Mode.safe false r s6)).reg i = (putMode Mode.safe false r s6).reg i :=
    ad.low i hi (by
      have : i ≠ 41 := hq
      interval_cases i <;> first | rfl | exact absurd rfl this)
  exact e1.trans ((p6 i hi hm).trans ((a7.low i hi (by interval_cases i <;> rfl)).trans (l1 i hi)))

/-- An entry to SAFE does what `EntersSafe` says. -/
theorem enterSafe_spec (c : Nat) (r : Req) (s : State) (h : s.mode ≠ Mode.standby) : EntersSafe c s (enterSafe c r s) := by
  have hc : (s.setFld R.DEV_SAFE_CAUSE ⟨11, 0⟩ (s.fld R.DEV_SAFE_CAUSE ⟨11, 0⟩ ||| c)).fld R.DEV_SAFE_CAUSE ⟨11, 0⟩ =
      (s.fld R.DEV_SAFE_CAUSE ⟨11, 0⟩ ||| c) % 4096 := State.fld_setFld_same _ _ _ _ (by decide) (by decide)
  have hm : (s.setFld R.DEV_SAFE_CAUSE ⟨11, 0⟩ (s.fld R.DEV_SAFE_CAUSE ⟨11, 0⟩ ||| c)).mode = s.mode :=
    State.mode_of_reg (State.reg_setFld_ne _ _ _ (by decide))
  unfold enterSafe
  rw [if_neg h]
  extract_lets s1 s2
  revert hc hm
  change s1.fld _ _ = _ → s1.mode = _ → _
  intro hc hm
  have hs2 : s2.mode = s1.mode ∧ s2.fld R.DEV_SAFE_CAUSE ⟨11, 0⟩ = s1.fld R.DEV_SAFE_CAUSE ⟨11, 0⟩ := by
    unfold s2
    constructor
    · unfold State.mode State.setBit
      rw [State.fld_setFld_other _ _ _ _ _ _ (by decide) (by decide) (by decide) (by decide),
        State.fld_setFld_other _ _ _ _ _ _ (by decide) (by decide) (by decide) (by decide)]
    · unfold State.setBit
      rw [State.fld_setFld_other _ _ _ _ _ _ (by decide) (by decide) (by decide) (by decide),
        State.fld_setFld_other _ _ _ _ _ _ (by decide) (by decide) (by decide) (by decide)]
  clear_value s1 s2
  split
  · rename_i e
    split
    · have ad := alter_dropAll St.wrongMode { s2 with trans := none }
      have e1 : (dropAll St.wrongMode { s2 with trans := none }).mode = s2.mode := State.mode_of_reg (ad.low _ (by decide) (by decide))
      have e2 : (dropAll St.wrongMode { s2 with trans := none }).fld R.DEV_SAFE_CAUSE ⟨11, 0⟩ = s2.fld R.DEV_SAFE_CAUSE ⟨11, 0⟩ :=
        State.fld_of_reg (ad.low _ (by decide) (by decide)) _
      exact ⟨e2.trans (hs2.2.trans hc), fun _ => e1.trans (hs2.1.trans e), fun _ n => absurd (hm.symm.trans e) n,
        fun _ n => absurd (hm.symm.trans e) n⟩
    · exact ⟨hc, fun _ => e, fun _ n => absurd (hm.symm.trans e) n, fun _ n => absurd (hm.symm.trans e) n⟩
  · split
    · rename_i e
      exact ⟨hc, fun n => absurd (hm.symm.trans e) n, fun n => absurd (hm.symm.trans e) n, fun n => absurd (hm.symm.trans e) n⟩
    · obtain ⟨p1, p2, p3, p4, p5, p6⟩ := safeEntry_spec r s1
      exact ⟨(State.fld_of_reg (p6 _ (by decide) (by decide) (by decide)) _).trans hc, fun _ => p1, fun _ _ => p2,
        fun _ _ => ⟨p3, p4, p5⟩⟩

end Sys2Proof.Machine
end

