-- ==== Sys2Proof/Laws/Writes.lean ====
section
/-! SUPPORT. What each operation of `Sys2Proof.Machine.Writes` may change (`Alter`), one lemma an operation; for a command,
that it answers a next state (`Ends`). -/

namespace Sys2Proof.Machine

theorem alter_execModeRequest (e : Nat) (r : Req) (mode : Fin 8) (s : State) : Ends 5192296858534809181786422619668479 s (execModeRequest e r mode s) := by
  unfold execModeRequest
  refine ends_next ?_
  refine Alter.step ?_ (alter_hostOp (hg := alter_stepGo) ..) rfl
  refine Alter.step ?_ (alter_tick ..) rfl
  exact Alter.refl _ _

theorem alter_execSafeRequest (e : Nat) (r : Req) (s : State) : Ends 5192296858534809181786422619668479 s (execSafeRequest e r s) := by
  unfold execSafeRequest
  refine ends_next ?_
  refine Alter.step ?_ (alter_hostOp (hg := alter_stepGo) ..) rfl
  refine Alter.step ?_ (alter_tick ..) rfl
  exact Alter.refl _ _

theorem alter_execRtcWrite (e : Nat) (r : Req) (v : BitVec 40) (s : State) : Ends 5192296858534809181786422619668479 s (execRtcWrite e r v s) := by
  unfold execRtcWrite
  refine ends_next ?_
  refine Alter.step ?_ (alter_hostOp (hg := alter_stepGo) ..) rfl
  refine Alter.step ?_ (alter_tick ..) rfl
  exact Alter.refl _ _

theorem alter_execRtcAlarmWrite (e : Nat) (r : Req) (v : BitVec 40) (s : State) : Ends 5192296858534809181786422619668479 s (execRtcAlarmWrite e r v s) := by
  unfold execRtcAlarmWrite
  refine ends_next ?_
  refine Alter.step ?_ (alter_hostOp (hg := alter_stepGo) ..) rfl
  refine Alter.step ?_ (alter_tick ..) rfl
  exact Alter.refl _ _

theorem alter_execSafeCauseClear (e : Nat) (r : Req) (v : BitVec 40) (s : State) : Ends 5192296858534809181786422619668479 s (execSafeCauseClear e r v s) := by
  unfold execSafeCauseClear
  refine ends_next ?_
  refine Alter.step ?_ (alter_hostOp (hg := alter_stepGo) ..) rfl
  refine Alter.step ?_ (alter_tick ..) rfl
  exact Alter.refl _ _

theorem alter_execIslProfileWrite (e : Nat) (r : Req) (n : Fin 48) (p : Fin 8) (v : BitVec 40) (s : State) : Ends 5192296858534809181786422619668479 s (execIslProfileWrite e r n p v s) := by
  unfold execIslProfileWrite
  refine ends_next ?_
  refine Alter.step ?_ (alter_hostOp (hg := alter_stepGo) ..) rfl
  refine Alter.step ?_ (alter_tick ..) rfl
  exact Alter.refl _ _

theorem alter_execPrestartRun (e : Nat) (r : Req) (s : State) : Ends 5192296858534809181786422619668479 s (execPrestartRun e r s) := by
  unfold execPrestartRun
  refine ends_next ?_
  refine Alter.step ?_ (alter_hostOp (hg := alter_stepGo) ..) rfl
  refine Alter.step ?_ (alter_tick ..) rfl
  exact Alter.refl _ _

theorem alter_execShadowWrite (e : Nat) (r : Req) (sh : Fin 138) (v : BitVec 40) (s : State) : Ends 5192296858534809181786422619668479 s (execShadowWrite e r sh v s) := by
  unfold execShadowWrite
  refine ends_next ?_
  refine Alter.step ?_ (alter_hostOp (hg := alter_stepGo) ..) rfl
  refine Alter.step ?_ (alter_tick ..) rfl
  exact Alter.refl _ _

theorem alter_execPwmCommit (e : Nat) (r : Req) (tbs : BitVec 6) (s : State) : Ends 5192296858534809181786422619668479 s (execPwmCommit e r tbs s) := by
  unfold execPwmCommit
  refine ends_next ?_
  refine Alter.step ?_ (alter_hostOp (hg := alter_stepGo) ..) rfl
  refine Alter.step ?_ (alter_tick ..) rfl
  exact Alter.refl _ _

theorem alter_execLatchRelease (e : Nat) (r : Req) (mask : BitVec 33) (s : State) : Ends 5192296858534809181786422619668479 s (execLatchRelease e r mask s) := by
  unfold execLatchRelease
  refine ends_next ?_
  refine Alter.step ?_ (alter_hostOp (hg := alter_stepGo) ..) rfl
  refine Alter.step ?_ (alter_tick ..) rfl
  exact Alter.refl _ _

theorem alter_execPwmForce (e : Nat) (r : Req) (v : BitVec 40) (s : State) : Ends 5192296858534809181786422619668479 s (execPwmForce e r v s) := by
  unfold execPwmForce
  refine ends_next ?_
  refine Alter.step ?_ (alter_hostOp (hg := alter_stepGo) ..) rfl
  refine Alter.step ?_ (alter_tick ..) rfl
  exact Alter.refl _ _

theorem alter_execQueueAck (e : Nat) (r : Req) (q : Fin 32) (n : BitVec 14) (s : State) : Ends 5192296858534809181786422619668479 s (execQueueAck e r q n s) := by
  unfold execQueueAck
  refine ends_next ?_
  refine Alter.step ?_ (alter_hostOp (hg := alter_stepGo) ..) rfl
  refine Alter.step ?_ (alter_tick ..) rfl
  exact Alter.refl _ _

theorem alter_execAinCalWrite (e : Nat) (r : Req) (c : Fin 64) (v : BitVec 40) (s : State) : Ends 5192296858534809181786422619668479 s (execAinCalWrite e r c v s) := by
  unfold execAinCalWrite
  refine ends_next ?_
  refine Alter.step ?_ (alter_hostOp (hg := alter_stepGo) ..) rfl
  refine Alter.step ?_ (alter_tick ..) rfl
  exact Alter.refl _ _

theorem alter_execRefEnableWrite (e : Nat) (r : Req) (on : Bool) (s : State) : Ends 5192296858534809181786422619668479 s (execRefEnableWrite e r on s) := by
  unfold execRefEnableWrite
  refine ends_next ?_
  refine Alter.step ?_ (alter_hostOp (hg := alter_stepGo) ..) rfl
  refine Alter.step ?_ (alter_tick ..) rfl
  exact Alter.refl _ _

theorem alter_execGwinDataRead (e : Nat) (r : Req) (s : State) : Ends 5192296858534809181786422619668479 s (execGwinDataRead e r s) := by
  unfold execGwinDataRead
  refine ends_next ?_
  refine Alter.step ?_ (alter_hostOp (hg := alter_stepGo) ..) rfl
  refine Alter.step ?_ (alter_tick ..) rfl
  exact Alter.refl _ _

theorem alter_execGwinDataWrite (e : Nat) (r : Req) (v : BitVec 40) (s : State) : Ends 5192296858534809181786422619668479 s (execGwinDataWrite e r v s) := by
  unfold execGwinDataWrite
  refine ends_next ?_
  refine Alter.step ?_ (alter_hostOp (hg := alter_stepGo) ..) rfl
  refine Alter.step ?_ (alter_tick ..) rfl
  exact Alter.refl _ _

theorem alter_execApply (e : Nat) (r : Req) (s : State) : Ends 5192296858534809181786422619668479 s (execApply e r s) := by
  unfold execApply
  refine ends_next ?_
  refine Alter.step ?_ (alter_hostOp (hg := alter_stepGo) ..) rfl
  refine Alter.step ?_ (alter_tick ..) rfl
  exact Alter.refl _ _

theorem alter_execDiscard (e : Nat) (r : Req) (s : State) : Ends 5192296858534809181786422619668479 s (execDiscard e r s) := by
  unfold execDiscard
  refine ends_next ?_
  refine Alter.step ?_ (alter_hostOp (hg := alter_stepGo) ..) rfl
  refine Alter.step ?_ (alter_tick ..) rfl
  exact Alter.refl _ _

theorem alter_execEngClrCounts (e : Nat) (r : Req) (s : State) : Ends 5192296858534809181786422619668479 s (execEngClrCounts e r s) := by
  unfold execEngClrCounts
  refine ends_next ?_
  refine Alter.step ?_ (alter_hostOp (hg := alter_stepGo) ..) rfl
  refine Alter.step ?_ (alter_tick ..) rfl
  exact Alter.refl _ _

theorem alter_execClrTimeMax (e : Nat) (r : Req) (s : State) : Ends 5192296858534809181786422619668479 s (execClrTimeMax e r s) := by
  unfold execClrTimeMax
  refine ends_next ?_
  refine Alter.step ?_ (alter_hostOp (hg := alter_stepGo) ..) rfl
  refine Alter.step ?_ (alter_tick ..) rfl
  exact Alter.refl _ _

theorem alter_execGraphFlagClear (e : Nat) (r : Req) (g : Fin 8) (mask : BitVec 4) (s : State) : Ends 5192296858534809181786422619668479 s (execGraphFlagClear e r g mask s) := by
  unfold execGraphFlagClear
  refine ends_next ?_
  refine Alter.step ?_ (alter_hostOp (hg := alter_stepGo) ..) rfl
  refine Alter.step ?_ (alter_tick ..) rfl
  exact Alter.refl _ _

theorem alter_execFabClrCounts (e : Nat) (r : Req) (s : State) : Ends 5192296858534809181786422619668479 s (execFabClrCounts e r s) := by
  unfold execFabClrCounts
  refine ends_next ?_
  refine Alter.step ?_ (alter_hostOp (hg := alter_stepGo) ..) rfl
  refine Alter.step ?_ (alter_tick ..) rfl
  exact Alter.refl _ _

theorem alter_execClrBlockMax (e : Nat) (r : Req) (s : State) : Ends 5192296858534809181786422619668479 s (execClrBlockMax e r s) := by
  unfold execClrBlockMax
  refine ends_next ?_
  refine Alter.step ?_ (alter_hostOp (hg := alter_stepGo) ..) rfl
  refine Alter.step ?_ (alter_tick ..) rfl
  exact Alter.refl _ _

theorem alter_execPwinDataRead (e : Nat) (r : Req) (s : State) : Ends 5192296858534809181786422619668479 s (execPwinDataRead e r s) := by
  unfold execPwinDataRead
  refine ends_next ?_
  refine Alter.step ?_ (alter_hostOp (hg := alter_stepGo) ..) rfl
  refine Alter.step ?_ (alter_tick ..) rfl
  exact Alter.refl _ _

theorem alter_execPwinDataWrite (e : Nat) (r : Req) (v : BitVec 40) (s : State) : Ends 5192296858534809181786422619668479 s (execPwinDataWrite e r v s) := by
  unfold execPwinDataWrite
  refine ends_next ?_
  refine Alter.step ?_ (alter_hostOp (hg := alter_stepGo) ..) rfl
  refine Alter.step ?_ (alter_tick ..) rfl
  exact Alter.refl _ _

theorem alter_execPwinReset (e : Nat) (r : Req) (s : State) : Ends 5192296858534809181786422619668479 s (execPwinReset e r s) := by
  unfold execPwinReset
  refine ends_next ?_
  refine Alter.step ?_ (alter_hostOp (hg := alter_stepGo) ..) rfl
  refine Alter.step ?_ (alter_tick ..) rfl
  exact Alter.refl _ _

theorem alter_execSubmit (e : Nat) (r : Req) (s : State) : Ends 5192296858534809181786422619668479 s (execSubmit e r s) := by
  unfold execSubmit
  refine ends_next ?_
  refine Alter.step ?_ (alter_hostOp (hg := alter_stepGo) ..) rfl
  refine Alter.step ?_ (alter_tick ..) rfl
  exact Alter.refl _ _

theorem alter_execHalt (e : Nat) (r : Req) (s : State) : Ends 5192296858534809181786422619668479 s (execHalt e r s) := by
  unfold execHalt
  refine ends_next ?_
  refine Alter.step ?_ (alter_hostOp (hg := alter_stepGo) ..) rfl
  refine Alter.step ?_ (alter_tick ..) rfl
  exact Alter.refl _ _

theorem alter_execStep (e : Nat) (r : Req) (diff : Option (Fin 4 × Fin 3)) (s : State) :
    Ends 5192296858534809181786422619668479 s (execStep e r diff s) := by
  unfold execStep
  refine ends_next ?_
  refine Alter.step ?_ (alter_hostOp (hg := fun x => alter_gloveStep 4 diff x) ..) rfl
  exact (alter_tick ..).mono rfl

theorem alter_execResume (e : Nat) (r : Req) (s : State) : Ends 5192296858534809181786422619668479 s (execResume e r s) := by
  unfold execResume
  refine ends_next ?_
  refine Alter.step ?_ (alter_hostOp (hg := alter_stepGo) ..) rfl
  refine Alter.step ?_ (alter_tick ..) rfl
  exact Alter.refl _ _

theorem alter_execBreakpointWrite (e : Nat) (r : Req) (v : BitVec 40) (s : State) : Ends 5192296858534809181786422619668479 s (execBreakpointWrite e r v s) := by
  unfold execBreakpointWrite
  refine ends_next ?_
  refine Alter.step ?_ (alter_hostOp (hg := alter_stepGo) ..) rfl
  refine Alter.step ?_ (alter_tick ..) rfl
  exact Alter.refl _ _

theorem alter_execDwinDataRead (e : Nat) (r : Req) (s : State) : Ends 5192296858534809181786422619668479 s (execDwinDataRead e r s) := by
  unfold execDwinDataRead
  refine ends_next ?_
  refine Alter.step ?_ (alter_hostOp (hg := alter_stepGo) ..) rfl
  refine Alter.step ?_ (alter_tick ..) rfl
  exact Alter.refl _ _

theorem alter_execMachineEnable (e : Nat) (r : Req) (m : Fin 2) (s : State) : Ends 5192296858534809181786422619668479 s (execMachineEnable e r m s) := by
  unfold execMachineEnable
  refine ends_next ?_
  refine Alter.step ?_ (alter_hostOp (hg := alter_stepGo) ..) rfl
  refine Alter.step ?_ (alter_tick ..) rfl
  exact Alter.refl _ _

theorem alter_execMachineDisable (e : Nat) (r : Req) (m : Fin 2) (s : State) : Ends 5192296858534809181786422619668479 s (execMachineDisable e r m s) := by
  unfold execMachineDisable
  refine ends_next ?_
  refine Alter.step ?_ (alter_hostOp (hg := alter_stepGo) ..) rfl
  refine Alter.step ?_ (alter_tick ..) rfl
  exact Alter.refl _ _

theorem alter_execDirChange (e : Nat) (r : Req) (m : Fin 2) (dir : Bool) (s : State) : Ends 5192296858534809181786422619668479 s (execDirChange e r m dir s) := by
  unfold execDirChange
  refine ends_next ?_
  refine Alter.step ?_ (alter_hostOp (hg := alter_stepGo) ..) rfl
  refine Alter.step ?_ (alter_tick ..) rfl
  exact Alter.refl _ _

theorem alter_execTreqWrite (e : Nat) (r : Req) (m : Fin 2) (v : BitVec 40) (s : State) : Ends 5192296858534809181786422619668479 s (execTreqWrite e r m v s) := by
  unfold execTreqWrite
  refine ends_next ?_
  refine Alter.step ?_ (alter_hostOp (hg := alter_stepGo) ..) rfl
  refine Alter.step ?_ (alter_tick ..) rfl
  exact Alter.refl _ _

theorem alter_execLimp (e : Nat) (r : Req) (m : Fin 2) (s : State) : Ends 5192296858534809181786422619668479 s (execLimp e r m s) := by
  unfold execLimp
  refine ends_next ?_
  refine Alter.step ?_ (alter_hostOp (hg := alter_stepGo) ..) rfl
  refine Alter.step ?_ (alter_tick ..) rfl
  exact Alter.refl _ _

theorem alter_execDemagClear (e : Nat) (r : Req) (m : Fin 2) (s : State) : Ends 5192296858534809181786422619668479 s (execDemagClear e r m s) := by
  unfold execDemagClear
  refine ends_next ?_
  refine Alter.step ?_ (alter_hostOp (hg := alter_stepGo) ..) rfl
  refine Alter.step ?_ (alter_tick ..) rfl
  exact Alter.refl _ _

theorem alter_execMapDataWrite (e : Nat) (r : Req) (v : BitVec 40) (s : State) : Ends 5192296858534809181786422619668479 s (execMapDataWrite e r v s) := by
  unfold execMapDataWrite
  refine ends_next ?_
  refine Alter.step ?_ (alter_hostOp (hg := alter_stepGo) ..) rfl
  refine Alter.step ?_ (alter_tick ..) rfl
  exact Alter.refl _ _

theorem alter_execMapDataRead (e : Nat) (r : Req) (s : State) : Ends 5192296858534809181786422619668479 s (execMapDataRead e r s) := by
  unfold execMapDataRead
  refine ends_next ?_
  refine Alter.step ?_ (alter_hostOp (hg := alter_stepGo) ..) rfl
  refine Alter.step ?_ (alter_tick ..) rfl
  exact Alter.refl _ _

theorem alter_execValidate (e : Nat) (r : Req) (s : State) : Ends 5192296858534809181786422619668479 s (execValidate e r s) := by
  unfold execValidate
  refine ends_next ?_
  refine Alter.step ?_ (alter_hostOp (hg := alter_stepGo) ..) rfl
  refine Alter.step ?_ (alter_tick ..) rfl
  exact Alter.refl _ _

theorem alter_execChopClear (e : Nat) (r : Req) (s : State) : Ends 5192296858534809181786422619668479 s (execChopClear e r s) := by
  unfold execChopClear
  refine ends_next ?_
  refine Alter.step ?_ (alter_hostOp (hg := alter_stepGo) ..) rfl
  refine Alter.step ?_ (alter_tick ..) rfl
  exact Alter.refl _ _

theorem alter_execDcdcModeWrite (e : Nat) (r : Req) (mode : BitVec 2) (s : State) : Ends 5192296858534809181786422619668479 s (execDcdcModeWrite e r mode s) := by
  unfold execDcdcModeWrite
  refine ends_next ?_
  refine Alter.step ?_ (alter_hostOp (hg := alter_stepGo) ..) rfl
  refine Alter.step ?_ (alter_tick ..) rfl
  exact Alter.refl _ _

theorem alter_execStart (e : Nat) (r : Req) (s : State) : Ends 5192296858534809181786422619668479 s (execStart e r s) := by
  unfold execStart
  refine ends_next ?_
  refine Alter.step ?_ (alter_hostOp (hg := alter_stepGo) ..) rfl
  refine Alter.step ?_ (alter_tick ..) rfl
  exact Alter.refl _ _

theorem alter_execStop (e : Nat) (r : Req) (s : State) : Ends 5192296858534809181786422619668479 s (execStop e r s) := by
  unfold execStop
  refine ends_next ?_
  refine Alter.step ?_ (alter_hostOp (hg := alter_stepGo) ..) rfl
  refine Alter.step ?_ (alter_tick ..) rfl
  exact Alter.refl _ _

theorem alter_execUnlock (e : Nat) (r : Req) (s : State) : Ends 5192296858534809181786422619668479 s (execUnlock e r s) := by
  unfold execUnlock
  refine ends_next ?_
  refine Alter.step ?_ (alter_hostOp (hg := alter_stepGo) ..) rfl
  refine Alter.step ?_ (alter_tick ..) rfl
  exact Alter.refl _ _

theorem alter_execTbatWrite (e : Nat) (r : Req) (t : BitVec 16) (s : State) : Ends 5192296858534809181786422619668479 s (execTbatWrite e r t s) := by
  unfold execTbatWrite
  refine ends_next ?_
  refine Alter.step ?_ (alter_hostOp (hg := alter_stepGo) ..) rfl
  refine Alter.step ?_ (alter_tick ..) rfl
  exact Alter.refl _ _

theorem alter_execActEnable (e : Nat) (r : Req) (a : Fin 3) (s : State) : Ends 5192296858534809181786422619668479 s (execActEnable e r a s) := by
  unfold execActEnable
  refine ends_next ?_
  refine Alter.step ?_ (alter_hostOp (hg := alter_stepGo) ..) rfl
  refine Alter.step ?_ (alter_tick ..) rfl
  exact Alter.refl _ _

theorem alter_execActDisable (e : Nat) (r : Req) (a : Fin 3) (s : State) : Ends 5192296858534809181786422619668479 s (execActDisable e r a s) := by
  unfold execActDisable
  refine ends_next ?_
  refine Alter.step ?_ (alter_hostOp (hg := alter_stepGo) ..) rfl
  refine Alter.step ?_ (alter_tick ..) rfl
  exact Alter.refl _ _

theorem alter_execActTargetWrite (e : Nat) (r : Req) (a : Fin 3) (v : BitVec 40) (s : State) : Ends 5192296858534809181786422619668479 s (execActTargetWrite e r a v s) := by
  unfold execActTargetWrite
  refine ends_next ?_
  refine Alter.step ?_ (alter_hostOp (hg := alter_stepGo) ..) rfl
  refine Alter.step ?_ (alter_tick ..) rfl
  exact Alter.refl _ _

theorem alter_execBrake (e : Nat) (r : Req) (a : Fin 3) (s : State) : Ends 5192296858534809181786422619668479 s (execBrake e r a s) := by
  unfold execBrake
  refine ends_next ?_
  refine Alter.step ?_ (alter_hostOp (hg := alter_stepGo) ..) rfl
  refine Alter.step ?_ (alter_tick ..) rfl
  exact Alter.refl _ _

theorem alter_execRef (e : Nat) (r : Req) (a : Fin 3) (s : State) : Ends 5192296858534809181786422619668479 s (execRef e r a s) := by
  unfold execRef
  refine ends_next ?_
  refine Alter.step ?_ (alter_hostOp (hg := alter_stepGo) ..) rfl
  refine Alter.step ?_ (alter_tick ..) rfl
  exact Alter.refl _ _

theorem alter_execMirror (e : Nat) (r : Req) (s : State) : Ends 5192296858534809181786422619668479 s (execMirror e r s) := by
  unfold execMirror
  refine ends_next ?_
  refine Alter.step ?_ (alter_hostOp (hg := alter_stepGo) ..) rfl
  refine Alter.step ?_ (alter_tick ..) rfl
  exact Alter.refl _ _

theorem alter_execClear (e : Nat) (r : Req) (n : Fin 48) (s : State) : Ends 5192296858534809181786422619668479 s (execClear e r n s) := by
  unfold execClear
  refine ends_next ?_
  refine Alter.step ?_ (alter_hostOp (hg := alter_stepGo) ..) rfl
  refine Alter.step ?_ (alter_tick ..) rfl
  exact Alter.refl _ _

theorem alter_execCurveValidate (e : Nat) (r : Req) (n : Fin 48) (s : State) : Ends 5192296858534809181786422619668479 s (execCurveValidate e r n s) := by
  unfold execCurveValidate
  refine ends_next ?_
  refine Alter.step ?_ (alter_hostOp (hg := alter_stepGo) ..) rfl
  refine Alter.step ?_ (alter_tick ..) rfl
  exact Alter.refl _ _

theorem alter_execLifeTwinDataRead (e : Nat) (r : Req) (s : State) : Ends 5192296858534809181786422619668479 s (execLifeTwinDataRead e r s) := by
  unfold execLifeTwinDataRead
  refine ends_next ?_
  refine Alter.step ?_ (alter_hostOp (hg := alter_stepGo) ..) rfl
  refine Alter.step ?_ (alter_tick ..) rfl
  exact Alter.refl _ _

theorem alter_execLifeTwinDataWrite (e : Nat) (r : Req) (v : BitVec 40) (s : State) : Ends 5192296858534809181786422619668479 s (execLifeTwinDataWrite e r v s) := by
  unfold execLifeTwinDataWrite
  refine ends_next ?_
  refine Alter.step ?_ (alter_hostOp (hg := alter_stepGo) ..) rfl
  refine Alter.step ?_ (alter_tick ..) rfl
  exact Alter.refl _ _

theorem alter_execEcho (e : Nat) (r : Req) (b : List Byte) (s : State) : Ends 5192296858534809181786422619668479 s (execEcho e r b s) := by
  unfold execEcho
  refine ends_next ?_
  refine Alter.step ?_ (alter_hostOp (hg := alter_stepGo) ..) rfl
  refine Alter.step ?_ (alter_tick ..) rfl
  exact Alter.refl _ _

theorem alter_execRegRead (e : Nat) (r : Req) (l : List (BitVec 16)) (s : State) : Ends 5192296858534809181786422619668479 s (execRegRead e r l s) := by
  unfold execRegRead
  refine ends_next ?_
  refine Alter.step ?_ (alter_hostOp (hg := alter_stepGo) ..) rfl
  refine Alter.step ?_ (alter_tick ..) rfl
  exact Alter.refl _ _

theorem alter_execRegWrite (e : Nat) (r : Req) (l : List (BitVec 16 × Reg)) (s : State) : Ends 5192296858534809181786422619668479 s (execRegWrite e r l s) := by
  unfold execRegWrite
  refine ends_next ?_
  refine Alter.step ?_ (alter_hostOp (hg := alter_stepGo) ..) rfl
  refine Alter.step ?_ (alter_tick ..) rfl
  exact Alter.refl _ _

theorem alter_execRegReadRepeat (e : Nat) (r : Req) (a : BitVec 16) (c : BitVec 16) (s : State) : Ends 5192296858534809181786422619668479 s (execRegReadRepeat e r a c s) := by
  unfold execRegReadRepeat
  refine ends_next ?_
  refine Alter.step ?_ (alter_hostOp (hg := alter_stepGo) ..) rfl
  refine Alter.step ?_ (alter_tick ..) rfl
  exact Alter.refl _ _

theorem alter_execRegWriteRepeat (e : Nat) (r : Req) (a : BitVec 16) (l : List Reg) (s : State) : Ends 5192296858534809181786422619668479 s (execRegWriteRepeat e r a l s) := by
  unfold execRegWriteRepeat
  refine ends_next ?_
  refine Alter.step ?_ (alter_hostOp (hg := alter_stepGo) ..) rfl
  refine Alter.step ?_ (alter_tick ..) rfl
  exact Alter.refl _ _

theorem alter_execRegModify (e : Nat) (r : Req) (l : List (BitVec 16 × Reg × Reg)) (s : State) : Ends 5192296858534809181786422619668479 s (execRegModify e r l s) := by
  unfold execRegModify
  refine ends_next ?_
  refine Alter.step ?_ (alter_hostOp (hg := alter_stepGo) ..) rfl
  refine Alter.step ?_ (alter_tick ..) rfl
  exact Alter.refl _ _

theorem alter_execReset (e : Nat) (r : Req) (guard : BitVec 8) (s : State) : Ends 5192296858534809181786422619668479 s (execReset e r guard s) := by
  unfold execReset
  refine ends_next ?_
  refine Alter.step ?_ (alter_hostOp (hg := alter_stepGo) ..) rfl
  refine Alter.step ?_ (alter_tick ..) rfl
  exact Alter.refl _ _

theorem alter_execSessionOpen (e : Nat) (r : Req) (s : State) : Ends 5192296858534809181786422619668479 s (execSessionOpen e r s) := by
  unfold execSessionOpen
  refine ends_next ?_
  refine Alter.step ?_ (alter_hostOp (hg := alter_stepGo) ..) rfl
  refine Alter.step ?_ (alter_tick ..) rfl
  exact Alter.refl _ _

theorem alter_execSessionAuth (e : Nat) (r : Req) (resp : List Byte) (s : State) : Ends 5192296858534809181786422619668479 s (execSessionAuth e r resp s) := by
  unfold execSessionAuth
  refine ends_next ?_
  refine Alter.step ?_ (alter_hostOp (hg := alter_stepGo) ..) rfl
  refine Alter.step ?_ (alter_tick ..) rfl
  exact Alter.refl _ _

theorem alter_execSessionClose (e : Nat) (r : Req) (s : State) : Ends 5192296858534809181786422619668479 s (execSessionClose e r s) := by
  unfold execSessionClose
  refine ends_next ?_
  refine Alter.step ?_ (alter_hostOp (hg := alter_stepGo) ..) rfl
  refine Alter.step ?_ (alter_tick ..) rfl
  exact Alter.refl _ _

theorem alter_execKeyProgram (e : Nat) (r : Req) (key : List Byte) (crc : BitVec 32) (s : State) : Ends 5192296858534809181786422619668479 s (execKeyProgram e r key crc s) := by
  unfold execKeyProgram
  refine ends_next ?_
  refine Alter.step ?_ (alter_hostOp (hg := alter_stepGo) ..) rfl
  refine Alter.step ?_ (alter_tick ..) rfl
  exact Alter.refl _ _

theorem alter_execQueueRead (e : Nat) (r : Req) (q : BitVec 8) (skip : BitVec 16) (c : BitVec 16) (s : State) : Ends 5192296858534809181786422619668479 s (execQueueRead e r q skip c s) := by
  unfold execQueueRead
  refine ends_next ?_
  refine Alter.step ?_ (alter_hostOp (hg := alter_stepGo) ..) rfl
  refine Alter.step ?_ (alter_tick ..) rfl
  exact Alter.refl _ _

theorem alter_execAuditRead (e : Nat) (r : Req) (first : BitVec 40) (c : BitVec 16) (s : State) : Ends 5192296858534809181786422619668479 s (execAuditRead e r first c s) := by
  unfold execAuditRead
  refine ends_next ?_
  refine Alter.step ?_ (alter_hostOp (hg := alter_stepGo) ..) rfl
  refine Alter.step ?_ (alter_tick ..) rfl
  exact Alter.refl _ _

theorem alter_execEventRead (e : Nat) (r : Req) (first : BitVec 40) (c : BitVec 16) (s : State) : Ends 5192296858534809181786422619668479 s (execEventRead e r first c s) := by
  unfold execEventRead
  refine ends_next ?_
  refine Alter.step ?_ (alter_hostOp (hg := alter_stepGo) ..) rfl
  refine Alter.step ?_ (alter_tick ..) rfl
  exact Alter.refl _ _

theorem alter_execCanEnableWrite (e : Nat) (r : Req) (c : Fin 3) (on : Bool) (s : State) : Ends 5192296858534809181786422619668479 s (execCanEnableWrite e r c on s) := by
  unfold execCanEnableWrite
  refine ends_next ?_
  refine Alter.step ?_ (alter_hostOp (hg := alter_stepGo) ..) rfl
  refine Alter.step ?_ (alter_tick ..) rfl
  exact Alter.refl _ _

theorem alter_execRecover (e : Nat) (r : Req) (c : Fin 3) (s : State) : Ends 5192296858534809181786422619668479 s (execRecover e r c s) := by
  unfold execRecover
  refine ends_next ?_
  refine Alter.step ?_ (alter_hostOp (hg := alter_stepGo) ..) rfl
  refine Alter.step ?_ (alter_tick ..) rfl
  exact Alter.refl _ _

theorem alter_execCanLoad (e : Nat) (r : Req) (c : Fin 3) (mb : BitVec 6) (req : Bool) (s : State) : Ends 5192296858534809181786422619668479 s (execCanLoad e r c mb req s) := by
  unfold execCanLoad
  refine ends_next ?_
  refine Alter.step ?_ (alter_hostOp (hg := alter_stepGo) ..) rfl
  refine Alter.step ?_ (alter_tick ..) rfl
  exact Alter.refl _ _

theorem alter_execCanTxreq (e : Nat) (r : Req) (c : Fin 3) (mbs : BitVec 32) (s : State) : Ends 5192296858534809181786422619668479 s (execCanTxreq e r c mbs s) := by
  unfold execCanTxreq
  refine ends_next ?_
  refine Alter.step ?_ (alter_hostOp (hg := alter_stepGo) ..) rfl
  refine Alter.step ?_ (alter_tick ..) rfl
  exact Alter.refl _ _

theorem alter_execCanCancel (e : Nat) (r : Req) (c : Fin 3) (mb : BitVec 5) (s : State) : Ends 5192296858534809181786422619668479 s (execCanCancel e r c mb s) := by
  unfold execCanCancel
  refine ends_next ?_
  refine Alter.step ?_ (alter_hostOp (hg := alter_stepGo) ..) rfl
  refine Alter.step ?_ (alter_tick ..) rfl
  exact Alter.refl _ _

theorem alter_execTxqFlush (e : Nat) (r : Req) (c : Fin 3) (s : State) : Ends 5192296858534809181786422619668479 s (execTxqFlush e r c s) := by
  unfold execTxqFlush
  refine ends_next ?_
  refine Alter.step ?_ (alter_hostOp (hg := alter_stepGo) ..) rfl
  refine Alter.step ?_ (alter_tick ..) rfl
  exact Alter.refl _ _

theorem alter_execCanRxack (e : Nat) (r : Req) (c : Fin 3) (n : BitVec 9) (s : State) : Ends 5192296858534809181786422619668479 s (execCanRxack e r c n s) := by
  unfold execCanRxack
  refine ends_next ?_
  refine Alter.step ?_ (alter_hostOp (hg := alter_stepGo) ..) rfl
  refine Alter.step ?_ (alter_tick ..) rfl
  exact Alter.refl _ _

theorem alter_execPurge (e : Nat) (r : Req) (s : State) : Ends 5192296858534809181786422619668479 s (execPurge e r s) := by
  unfold execPurge
  refine ends_next ?_
  refine Alter.step ?_ (alter_hostOp (hg := alter_stepGo) ..) rfl
  refine Alter.step ?_ (alter_tick ..) rfl
  exact Alter.refl _ _

theorem alter_execFwinDataAccess (e : Nat) (r : Req) (write : Bool) (v : BitVec 40) (s : State) : Ends 5192296858534809181786422619668479 s (execFwinDataAccess e r write v s) := by
  unfold execFwinDataAccess
  refine ends_next ?_
  refine Alter.step ?_ (alter_hostOp (hg := alter_stepGo) ..) rfl
  refine Alter.step ?_ (alter_tick ..) rfl
  exact Alter.refl _ _

theorem alter_execFormat (e : Nat) (r : Req) (s : State) : Ends 5192296858534809181786422619668479 s (execFormat e r s) := by
  unfold execFormat
  refine ends_next ?_
  refine Alter.step ?_ (alter_hostOp (hg := alter_stepGo) ..) rfl
  refine Alter.step ?_ (alter_tick ..) rfl
  exact Alter.refl _ _

theorem alter_execRecEnableWrite (e : Nat) (r : Req) (on : Bool) (s : State) : Ends 5192296858534809181786422619668479 s (execRecEnableWrite e r on s) := by
  unfold execRecEnableWrite
  refine ends_next ?_
  refine Alter.step ?_ (alter_hostOp (hg := alter_stepGo) ..) rfl
  refine Alter.step ?_ (alter_tick ..) rfl
  exact Alter.refl _ _

theorem alter_execRecTrigger (e : Nat) (r : Req) (s : State) : Ends 5192296858534809181786422619668479 s (execRecTrigger e r s) := by
  unfold execRecTrigger
  refine ends_next ?_
  refine Alter.step ?_ (alter_hostOp (hg := alter_stepGo) ..) rfl
  refine Alter.step ?_ (alter_tick ..) rfl
  exact Alter.refl _ _

theorem alter_execRecList (e : Nat) (r : Req) (first : BitVec 32) (c : BitVec 8) (s : State) : Ends 5192296858534809181786422619668479 s (execRecList e r first c s) := by
  unfold execRecList
  refine ends_next ?_
  refine Alter.step ?_ (alter_hostOp (hg := alter_stepGo) ..) rfl
  refine Alter.step ?_ (alter_tick ..) rfl
  exact Alter.refl _ _

theorem alter_execRecRead (e : Nat) (r : Req) (num : BitVec 32) (off : BitVec 32) (len : BitVec 16) (s : State) : Ends 5192296858534809181786422619668479 s (execRecRead e r num off len s) := by
  unfold execRecRead
  refine ends_next ?_
  refine Alter.step ?_ (alter_hostOp (hg := alter_stepGo) ..) rfl
  refine Alter.step ?_ (alter_tick ..) rfl
  exact Alter.refl _ _

theorem alter_execUpdBegin (e : Nat) (r : Req) (len : BitVec 32) (s : State) : Ends 5192296858534809181786422619668479 s (execUpdBegin e r len s) := by
  unfold execUpdBegin
  refine ends_next ?_
  refine Alter.step ?_ (alter_hostOp (hg := alter_stepGo) ..) rfl
  refine Alter.step ?_ (alter_tick ..) rfl
  exact Alter.refl _ _

theorem alter_execUpdBlock (e : Nat) (r : Req) (kind : BitVec 8) (num : BitVec 32) (b : List Byte) (s : State) : Ends 5192296858534809181786422619668479 s (execUpdBlock e r kind num b s) := by
  unfold execUpdBlock
  refine ends_next ?_
  refine Alter.step ?_ (alter_hostOp (hg := alter_stepGo) ..) rfl
  refine Alter.step ?_ (alter_tick ..) rfl
  exact Alter.refl _ _

theorem alter_execUpdCheck (e : Nat) (r : Req) (s : State) : Ends 5192296858534809181786422619668479 s (execUpdCheck e r s) := by
  unfold execUpdCheck
  refine ends_next ?_
  refine Alter.step ?_ (alter_hostOp (hg := alter_stepGo) ..) rfl
  refine Alter.step ?_ (alter_tick ..) rfl
  exact Alter.refl _ _

theorem alter_execUpdActivate (e : Nat) (r : Req) (s : State) : Ends 5192296858534809181786422619668479 s (execUpdActivate e r s) := by
  unfold execUpdActivate
  refine ends_next ?_
  refine Alter.step ?_ (alter_hostOp (hg := alter_stepGo) ..) rfl
  refine Alter.step ?_ (alter_tick ..) rfl
  exact Alter.refl _ _

theorem alter_execUpdConfirm (e : Nat) (r : Req) (s : State) : Ends 5192296858534809181786422619668479 s (execUpdConfirm e r s) := by
  unfold execUpdConfirm
  refine ends_next ?_
  refine Alter.step ?_ (alter_hostOp (hg := alter_stepGo) ..) rfl
  refine Alter.step ?_ (alter_tick ..) rfl
  exact Alter.refl _ _

theorem alter_execUpdAbort (e : Nat) (r : Req) (s : State) : Ends 5192296858534809181786422619668479 s (execUpdAbort e r s) := by
  unfold execUpdAbort
  refine ends_next ?_
  refine Alter.step ?_ (alter_hostOp (hg := alter_stepGo) ..) rfl
  refine Alter.step ?_ (alter_tick ..) rfl
  exact Alter.refl _ _

theorem alter_execFlagClear (e : Nat) (r : Req) (idx : BitVec 16) (v : BitVec 40) (s : State) : Ends 5192296858534809181786422619668479 s (execFlagClear e r idx v s) := by
  unfold execFlagClear
  refine ends_next ?_
  refine Alter.step ?_ (alter_hostOp (hg := alter_stepGo) ..) rfl
  refine Alter.step ?_ (alter_tick ..) rfl
  exact Alter.refl _ _

theorem alter_execRegisterWrite (e : Nat) (r : Req) (idx : BitVec 16) (v : BitVec 40) (s : State) : Ends 5192296858534809181786422619668479 s (execRegisterWrite e r idx v s) := by
  unfold execRegisterWrite
  refine ends_next ?_
  refine Alter.step ?_ (alter_hostOp (hg := alter_stepGo) ..) rfl
  refine Alter.step ?_ (alter_tick ..) rfl
  exact Alter.refl _ _

theorem alter_execRequestFrame (e : Nat) (n : Fin 2) (l : Arrival) (s : State) : Ends 5192296858534809181786422619668479 s (execRequestFrame e n l s) := by
  unfold execRequestFrame
  refine ends_next ?_
  refine Alter.step ?_ (alter_frameArrives (hg := alter_stepGo) ..) rfl
  refine Alter.step ?_ (alter_tick ..) rfl
  exact Alter.refl _ _

theorem alter_execCanFrameReceived (e : Nat) (c : Fin 3) (f : CanFrame) (ago : Nat) (lost : Bool) (s : State) : Ends 5192296858534809181786422619668479 s (execCanFrameReceived e c f ago lost s) := by
  unfold execCanFrameReceived
  refine ends_next ?_
  refine Alter.step ?_ (alter_canReceive (hg := alter_stepGo) ..) rfl
  refine Alter.step ?_ (alter_tick ..) rfl
  exact Alter.refl _ _

theorem alter_execTunnelSegment (e : Nat) (c : Fin 3) (f : CanFrame) (ago : Nat) (lost : Bool) (s : State) : Ends 5192296858534809181786422619668479 s (execTunnelSegment e c f ago lost s) := by
  unfold execTunnelSegment
  refine ends_next ?_
  refine Alter.step ?_ (alter_canReceive (hg := alter_stepGo) ..) rfl
  refine Alter.step ?_ (alter_tick ..) rfl
  exact Alter.refl _ _

theorem alter_execHeartbeatReceived (e : Nat) (c : Fin 3) (f : CanFrame) (ago : Nat) (lost : Bool) (s : State) : Ends 5192296858534809181786422619668479 s (execHeartbeatReceived e c f ago lost s) := by
  unfold execHeartbeatReceived
  refine ends_next ?_
  refine Alter.step ?_ (alter_canReceive (hg := alter_stepGo) ..) rfl
  refine Alter.step ?_ (alter_tick ..) rfl
  exact Alter.refl _ _

end Sys2Proof.Machine
end

