-- ==== Sys2Proof/Tests/Slice0.lean ====
section
/-! SUPPORT. Tests: the worked examples of the spec, the terms that WellFormed refuses, and for every statement that has
hypotheses a state and operands that meet all of them together. -/

namespace Sys2Proof.Machine

set_option Elab.async false

/-- A state at a place of the boot sequence. -/
def W.at (p : Phase) : State := { boot := { phase := p } }

/-- A running part in a mode. -/
def W.run (m : Nat) : State := (W.at .run).setFld R.DEV_MODE F.DEV_MODE.MODE m

/-- A plant of one converter of a kind, its unit HB00 and no sensor. -/
def W.plant (kind : Nat) : Plant :=
  { ident := 1, convs := [{ index := 0, kind := kind, prio := 0, hold := false, group := 0, sel := 0 }],
    units := [{ hb := 0, conv := 0, mode := 0, islH := 0, islL := 1, phs := 31, ofs := 0 }] }

/-- A running part in a mode with one converter of a kind, enabled. -/
def W.conv (m kind : Nat) : State := ({ W.run m with plant := some (W.plant kind) }).setConv 0 { en := true }

/-- The shortest plant description: a header and END, no record (R330, R331). -/
def W.words : List Reg :=
  let h := fun (c : Nat) => [BitVec.ofNat 40 (2 ^ 32 + 5), BitVec.ofNat 40 c, 7, 0, BitVec.ofNat 40 (255 * 2 ^ 32)]
  h (crcWords ((h 0).eraseIdx 1))

/-- A running part in a mode with privileged session 3 open to command port CP0. -/
def W.priv (m : Nat) : State := { W.run m with sessions := [(3, { origin := 1, auth := true })] }

/-- A request of CP0 without a session, and one in session 3. -/
def W.req : Req := { origin := 1, seq := 5 }
@[inherit_doc W.req] def W.reqP : Req := { origin := 1, session := 3, seq := 5 }

/-- A part in a mode with privileged session 3, one machine on channel 0 and its graph 0: one OBS of machine 0, twelve
parameters; graph 0 is loaded and the window stands at its first parameter. -/
def W.graph (m : Nat) : State :=
  (({ W.priv m with
      plant := some { W.plant 0 with
        graphs := [{ g := 0, convs := 1, pos := 0, len := 19 }]
        words := [BitVec.ofNat 40 (2 ^ 21), BitVec.ofNat 40 (12 * 2 ^ 13), 0, 0, BitVec.ofNat 40 (23 * 2 ^ 35), 0, 0] ++
          List.replicate 12 0 } }).setBit (R.ENG_G_STAT 0) F.ENG_G_STAT.LOADED true).setFld R.ENG_GWIN_ADDR F.ENG_GWIN_ADDR.AREA 1

/-- A running part whose CAN controller 2 is on the bus with a record of its own; heartbeats are at base 0x700. -/
def W.bus (x : CanCtl) : State :=
  { ((W.run 2).setFld (R.CAN_C_STAT 2) F.CAN_C_STAT.STATE 1).setFld R.CAN_HB_CFG F.CAN_HB_CFG.HB_BASE 0x700 with
    can := { ctl := [(2, x)] } }

/-! ### Worked examples of the spec -/

/-- The check value of R548. -/
theorem test_crc_check_value : crc32c [0x31, 0x32, 0x33, 0x34, 0x35, 0x36, 0x37, 0x38, 0x39] = 0xE3069283 := by decide +kernel

/-- The bytes of a per-unit −1.0 (the example under R13). -/
theorem test_word_bytes : leBytes 5 0xFF80000000 = [0, 0, 0, 0x80, 0xFF] := by decide +kernel

/-- CP0's order of the example under R577: 0.25 into `TRX_M0_TREQ`, sequence 0x17, no session. -/
def W.order : List Byte := [0x11, 0, 0x17, 0, 7, 0, 0, 0, 0x12, 0x18, 0, 0, 0, 0x20, 0]

theorem test_order_frame :
    (askOf 1 0 (W.order ++ leBytes 4 (crc32c W.order)) false false).op = some (.regWrite [(0x1812, 0x0020000000#40)]) := by
  decide +kernel

/-- A frame one byte short has no good CRC (R543). -/
theorem test_order_frame_short : (askOf 1 0 (W.order ++ (leBytes 4 (crc32c W.order)).take 3) false false).crcBad = true := by
  decide +kernel

/-- The entry of the integrator's example (R236). -/
theorem test_entry_word :
    ({ stamp := 4000000, chan := 5, sample := 0x2580, seq := 0x2A } : QEnt).word = 0x03D0900015052580 := by decide +kernel

/-- A channel of the example: ADC AD3 has closed a window of 2,000 ticks on AIN05. -/
def W.window : State :=
  ((W.run 2).setFld (R.ADC_AD_CFG 3) F.ADC_AD_CFG.CHAN 5).setAdc 3
    { wins := [{ b := 4000000, len := 2000, no := 0x2A, cal := 0x080000FFF4#40 }] }

/-- The integrator's example (R233, R234): 1,000 samples, raw sum 9,611,613, result 9,600. -/
theorem test_integrator_entry : (match exec (.integratorResult 0 3 9612 (List.replicate 612 9612 ++ List.replicate 387 9611)) W.window with
    | .next t => (((t.xfOf 195).ents.map fun l => l.map fun p => p.2.sample), t.reg (R.ADC_AD_INTSUM 3), t.dt)
    | _ => ([], 0, 0)) = ([[0x2580]], 0x000092A95D#40, 4002040) := by decide +kernel

/-- The on-state voltage of the example under R118: code 1,520 at 85 °C reads 2,400 mV. -/
theorem test_vds_correction :
    vdsMv ((((W.run 2).setReg (R.ISL_VDS_CAL 7) 0x4190F382F8#40).setBit (R.ISL_CFG 7) F.ISL_CFG.NTC_EN true).setSfld
      (R.ISL_TEL_ENV 7) F.ISL_TEL_ENV.NTC_T 1360) 7 1520 = 2400 := by decide +kernel

/-- The profile word of the example under R107. -/
theorem test_profile_word :
    (F.ISL_PROF.STR0.get 0x00240C2D87#40, F.ISL_PROF.STR1.get 0x00240C2D87#40, F.ISL_PROF.STR2.get 0x00240C2D87#40) = (6, 12, 9) := by
  decide +kernel

/-- The instance record of the example under R268: a PI at parameter offset 40 and state offset 12. -/
theorem test_instance_record :
    instOf [0, 0, 0, 0, 0x8000280060#40, 0x0050033FFF#40, 0x7FFFFFFFFF#40] 0 =
      { ty := 0x10, div := 0, par := 40, sta := 12, refs := [20, 25, 0x1FFF, 0x1FFF, 0x1FFF, 0x1FFF] } := by decide +kernel

/-- The SUM of the example under R281: 200 + 100 − 150 is 150, with no flag (R279). -/
theorem test_sum_exact : blockEval 0x01 [some (200 * 2 ^ 31), some (100 * 2 ^ 31), some (-150 * 2 ^ 31), none]
    [2 ^ 31, 2 ^ 31, 2 ^ 31, 0, 0] [] = some ⟨[150 * 2 ^ 31], [], 0⟩ := by decide +kernel

/-- The MUL of the same example: 300 is limited, and SAT is set. -/
theorem test_mul_saturates : blockEval 0x02 [some (150 * 2 ^ 31), some (2 * 2 ^ 31)] [] [] = some ⟨[2 ^ 39 - 1], [], 1⟩ := by
  decide +kernel

/-- The rounding of the example under R278: half a step up rounds to 1, half a step down to 0. -/
theorem test_mul_rounds : (blockEval 0x02 [some (2 ^ 30), some 1] [] [], blockEval 0x02 [some (-2 ^ 30), some 1] [] []) =
    (some ⟨[1], [], 0⟩, some ⟨[0], [], 0⟩) := by decide +kernel

/-- The zones of the example under R449, with the session in zone 3. -/
def W.zones : State :=
  ((W.run 3).setReg (R.CHG_ZONE 3) 0x0501F41DB0#40).setReg (R.CHG_ZONE 4) 0x0640F01D10#40
    |>.setFld R.CHG_STAT F.CHG_STAT.ZONE 3 |> onChg fun c => { c with first := false }

/-- Its three temperatures: 40.0 °C enters zone 4, 38.5 °C stays, 37.9375 °C returns to zone 3 (R446). -/
theorem test_zones : (zone (newTemp 640 W.zones), zone (newTemp 616 (newTemp 640 W.zones)),
    zone (newTemp 607 (newTemp 616 (newTemp 640 W.zones)))) = (4, 4, 3) := by decide +kernel

/-- The residue of the example under R495, with its weights. -/
def W.rain : State :=
  let s := ((W.run 2).setFld R.LIFE_CFG F.LIFE_CFG.RW 8).setFld R.LIFE_CFG F.LIFE_CFG.MW 8
  let s := s.setSfld R.LIFE_CFG F.LIFE_CFG.MEAN0 (-40)
  let s := { s with life := { s.life with weight := [(5, 0x4000#40), (47, 0x1800#40)] } }
  s.setLife 7 { stack := [90 * 16, 70 * 16, 95 * 16, 60 * 16] }

/-- Pushing 55 °C counts two half-cycles in cell 485, adds 49,152 and leaves 60, 95, 55 (R491 to R493). -/
theorem test_rainflow : (let x := (lifePush 7 (55 * 16) W.rain).lifeOf 7
    (x.stack, x.mat, x.acc)) = ([55 * 16, 95 * 16, 60 * 16], [(485, 2)], 49152) := by decide +kernel

/-- The filter of the example under R489: from 1,504 toward a raw 1,520 with FK = 2 gives 1,508. -/
theorem test_junction_filter :
    (tjUpdate 7 1520 ((((W.run 2).setSfld (R.LIFE_I_TJ 7) F.LIFE_I_TJ.TJ 1504).setBit (R.LIFE_I_TJ 7) F.LIFE_I_TJ.VALID true).setFld
      (R.LIFE_I_CFG 7) F.LIFE_I_CFG.FK 2)).sfld (R.LIFE_I_TJ 7) F.LIFE_I_TJ.TJ = 1508 := by decide +kernel

/-- The pack of the example under R618: lost 65,000,000 ticks after its last heartbeat (R616). -/
theorem test_partner_lost : (match exec (.partnerLost 0 3) { W.run 2 with
      dt := 500000000, can := { parts := [(3, { ctl := 1, node := 0x21, iv := 10, serial := 0x00041A7C, stamp := 500000000 })] } } with
    | .next t => (t.dt, t.can.parts.map fun p => p.2.up) | _ => (0, [])) = (565000000, [false]) := by decide +kernel

/-- Data lengths (R589): DLC 10 is 16 bytes and DLC 12 is 24; the reply of the example under R612 takes DLC 10. -/
theorem test_reply_dlc : (canLen true 10, canLen true 12, canDlc 22, canDlc 13) = (16, 24, 12, 10) := by decide +kernel

/-! ### The block and the terms it refuses -/

/-- The command in front is taken, the one behind it waits. -/
theorem test_step_takes_front : (match step { W.run 1 with pending := [.crystalLoss 3, .rtcAlarm 4] } with
    | .next t => t.pending | _ => []) = [.rtcAlarm 4] := by decide +kernel

/-- A loss of the crystal in READY enters SAFE (R30). -/
theorem test_crystal_loss : (match exec (.crystalLoss 3) ((W.run 1).setBit R.DEV_CLK_STAT F.DEV_CLK_STAT.XTAL_OK true) with
    | .next t => t.mode | _ => 0) = Mode.safe := by decide +kernel

theorem test_reset_pending : State.reset.pending = [] ∧ State.reset.mode = Mode.boot := by decide +kernel

/-- Each check on a request's header refuses one that breaks it. -/
theorem test_wf_header : (Instr.echo 0 { origin := 0 } []).wf = false ∧ (Instr.echo 0 { origin := 6 } []).wf = false ∧
    (Instr.echo 0 { origin := 3, node := 256 } []).wf = false ∧ (Instr.echo 0 { origin := 1, node := 4 } []).wf = false ∧
    (Instr.echo 0 { origin := 1, session := 256 } []).wf = false ∧ (Instr.echo 0 { origin := 1, seq := 256 } []).wf = false ∧
    (Instr.echo 0 { origin := 1 } []).wf = true := by decide +kernel

/-- Each check on a packet's length or range refuses one that breaks it. -/
theorem test_wf_lengths : (Instr.echo 0 W.req (List.replicate 4165 0)).wf = false ∧ (Instr.regRead 0 W.req []).wf = false ∧
    (Instr.regWrite 0 W.req []).wf = false ∧ (Instr.regReadRepeat 0 W.req 0 833).wf = false ∧
    (Instr.regWriteRepeat 0 W.req 0 []).wf = false ∧ (Instr.regModify 0 W.req (List.replicate 65 (0, 0, 0))).wf = false ∧
    (Instr.sessionAuth 0 W.req []).wf = false ∧ (Instr.keyProgram 0 W.req [] 0).wf = false ∧
    (Instr.updBlock 0 W.req 0 0 []).wf = false := by decide +kernel

@[inherit_doc test_wf_lengths]
theorem test_wf_ranges : (Instr.queueRead 0 W.req 0 0 513).wf = false ∧ (Instr.auditRead 0 W.req 0 129).wf = false ∧
    (Instr.eventRead 0 W.req 0 0).wf = false ∧ (Instr.recList 0 W.req 0 65).wf = false ∧
    (Instr.recRead 0 W.req 0 0 4097).wf = false ∧ (Instr.modeRequest 0 W.req 6).wf = false := by decide +kernel

/-- Each check on a CAN frame refuses one that breaks it (R588, R589). -/
theorem test_wf_frames : (Instr.canFrameReceived 0 0 { dlc := 16 } 0 false).wf = false ∧
    (Instr.canFrameReceived 0 0 { id := 0x800 } 0 false).wf = false ∧
    (Instr.canFrameReceived 0 0 { ide := true, id := 2 ^ 29 } 0 false).wf = false ∧
    (Instr.canFrameReceived 0 0 { data := List.replicate 9 0 } 0 false).wf = false ∧
    (Instr.canFrameReceived 0 0 { fdf := true, dlc := 15, data := List.replicate 64 0 } 0 false).wf = true := by decide +kernel


/-- A state whose second map is being validated. -/
def W.mapBase : State := { W.run 2 with trx := { valid := some (1, 900) } }

/-- A map whose CRC register holds the map's own CRC, or another one, can exist: the two cases of a validation (R373). -/
def W.mapped (d : Nat) : State := W.mapBase.setFld (R.TRX_M_CRC 1) F.TRX_M_CRC.CRC (mapCrc W.mapBase 1 + d)

theorem test_crc_leaves_map (s : State) (i : Nat) (f : Fld) (x m : Nat) : mapCrc (s.setFld i f x) m = mapCrc s m := by
  unfold mapCrc mapEntries
  rfl

theorem test_mapped_valid (d : Nat) : (W.mapped d).trx.valid = some ((1 : Fin 2).val, 900) := by
  unfold W.mapped
  rfl

theorem test_mapped_crc (d : Nat) :
    (W.mapped d).fld (R.TRX_M_CRC (1 : Fin 2)) F.TRX_M_CRC.CRC = (mapCrc (W.mapped d) (1 : Fin 2) + d) % 2 ^ 32 := by
  unfold W.mapped
  rw [test_crc_leaves_map]
  exact State.fld_setFld_same _ _ _ _ (by decide) (by decide)

theorem test_crc_range (s : State) (m : Nat) : mapCrc s m < 2 ^ 32 := BitVec.isLt _

/-! ### States that meet the hypotheses of the statements -/

section

set_option linter.unusedVariables false

theorem test_ColdStartBegins_met :
    (∃ (e : Nat) (below : Bool) (s : State), s.boot.phase = .off) ∧
    (∃ (e : Nat) (s : State), s.boot.phase = .wait) ∧
    (∃ (e : Nat) (vcore vio : Bool) (s : State), (vcore || vio) = true) ∧
    (∃ (e : Nat) (vcore vio : Bool) (s : State), (vcore || vio) = true) :=
  ⟨⟨5, true, W.at .off, by decide +kernel⟩,
    ⟨5, W.at .wait, by decide +kernel⟩,
    ⟨5, true, false, W.run 2, by decide +kernel⟩,
    ⟨5, false, true, (W.run 2).setFld R.DEV_SUPPLY ⟨4,0⟩ 31, by decide +kernel⟩⟩

theorem test_WarmResetHoldsAndReleases_met :
    (∃ (e ns : Nat) (s : State), 1000 ≤ ns ∧ s.boot.phase ≠ .off ∧ s.boot.phase ≠ .wait ∧ s.boot.phase ≠ .held) ∧
    (∃ (e ns : Nat) (s : State), ns < 200) ∧
    (∃ (e ns : Nat) (s : State), 200 ≤ ns ∧ ns < 1000) ∧
    (∃ (e ns : Nat) (s : State), 200 ≤ ns ∧ ns < 1000) ∧
    (∃ (e d : Nat) (s : State), s.boot.resetDue = some d ∧ s.boot.phase ≠ .off ∧ s.boot.phase ≠ .wait) ∧
    (∃ (e d : Nat) (s : State), s.glove.wdDue = some d) ∧
    (∃ (e : Nat) (s : State), s.boot.phase = .held) ∧
    (∃ (e : Nat) (r : Req) (s : State), Takes r s ∧ privileged s r = true ∧ (s.mode = Mode.ready ∨ s.mode =
    Mode.service ∨ s.mode = Mode.safe)) ∧
    (∃ (e : Nat) (r : Req) (s : State), Takes r s ∧ privileged s r = true ∧ (s.mode = Mode.ready ∨ s.mode =
    Mode.service ∨ s.mode = Mode.safe)) ∧
    (∃ (e : Nat) (r : Req) (s : State), Takes r s ∧ privileged s r = false) ∧
    (∃ (e : Nat) (r : Req) (g : BitVec 8) (s : State), Takes r s ∧ privileged s r = true ∧ s.mode ≠ Mode.ready ∧
    s.mode ≠ Mode.service ∧ s.mode ≠ Mode.safe ∧ g = 0x5A#8) ∧
    (∃ (e : Nat) (r : Req) (g : BitVec 8) (s : State), Takes r s ∧ privileged s r = true ∧ s.mode ≠ Mode.ready ∧
    s.mode ≠ Mode.service ∧ s.mode ≠ Mode.safe ∧ g = 0x5A#8) ∧
    (∃ (e : Nat) (r : Req) (g : BitVec 8) (s : State), Takes r s ∧ privileged s r = true ∧ (s.mode = Mode.ready ∨
    s.mode = Mode.service ∨ s.mode = Mode.safe) ∧ g ≠ 0x5A#8) ∧
    (∃ (e : Nat) (r : Req) (g : BitVec 8) (s : State), Takes r s ∧ privileged s r = true ∧ (s.mode = Mode.ready ∨
    s.mode = Mode.service ∨ s.mode = Mode.safe) ∧ g ≠ 0x5A#8) :=
  ⟨⟨5, 1000, W.run 2, by decide +kernel⟩,
    ⟨5, 199, W.run 2, by decide +kernel⟩,
    ⟨5, 200, W.run 2, by decide +kernel⟩,
    ⟨5, 999, W.run 2, by decide +kernel⟩,
    ⟨5, 900, { boot := { phase := .run, resetDue := some 900 } }, by decide +kernel⟩,
    ⟨5, 900, { W.run 2 with glove := { wdDue := some 900 } }, by decide +kernel⟩,
    ⟨5, W.at .held, by decide +kernel⟩,
    ⟨5, W.reqP, W.priv 1, by decide +kernel⟩,
    ⟨5, W.reqP, W.priv 5, by decide +kernel⟩,
    ⟨5, W.req, W.run 1, by decide +kernel⟩,
    ⟨5, W.reqP, 0x5A#8, W.priv 2, by decide +kernel⟩,
    ⟨5, W.reqP, 0x5A#8, W.priv 3, by decide +kernel⟩,
    ⟨5, W.reqP, 0x5B#8, W.priv 1, by decide +kernel⟩,
    ⟨5, W.reqP, 0#8, W.priv 5, by decide +kernel⟩⟩

theorem test_CrystalSupervised_met :
    (∃ (e : Nat) (s : State), s.boot.phase = .clock) ∧
    (∃ (e : Nat) (s : State), s.boot.phase = .clock ∧ s.mode ≠ Mode.standby) ∧
    (∃ (e : Nat) (s : State), s.logs = true ∧ s.boot.phase ≠ .clock ∧ s.bit R.DEV_CLK_STAT F.DEV_CLK_STAT.FALLBACK =
    false ∧ s.mode ≠ Mode.standby) :=
  ⟨⟨5, { el := 10000000, boot := { phase := .clock, kind := .wake, stopAt := some 7 } }, by decide +kernel⟩,
    ⟨5, W.at .clock, by decide +kernel⟩,
    ⟨5, (W.run 2).setFld R.DEV_CLK_STAT F.DEV_CLK_STAT.FALLBACK 0, by decide +kernel⟩⟩

theorem test_ImageAndSelftest_met :
    (∃ (e : Nat) (d0 d1 : Option EmmcInfo) (life : Bool) (s : State), s.boot.phase = .image) ∧
    (∃ (e : Nat) (d0 d1 : Option EmmcInfo) (life : Bool) (s : State), s.boot.phase = .image ∧ imageGood (bootDevices
    d0 d1 (s.tick e)) true = true) ∧
    (∃ (e : Nat) (s : State), s.boot.phase = .selftest) ∧
    (∃ (e : Nat) (s : State), s.boot.phase = .selftest ∧ s.mode = Mode.boot ∧ LogReady s) :=
  ⟨⟨5, none, none, true, W.at .image, by decide +kernel⟩,
    ⟨5, some { cap := 64 }, none, true, { W.at .image with sto := { laid := true, sets := [(0, {})] } },
    by decide +kernel⟩,
    ⟨5, W.at .selftest, by decide +kernel⟩,
    ⟨5, W.at .selftest, by decide +kernel⟩⟩

theorem test_BootEnds_met :
    (∃ (e : Nat) (a b : Bool) (s : State), s.boot.phase = .links ∧ (a && b) = false) ∧
    (∃ (e : Nat) (s : State), s.boot.phase = .links ∧ s.boot.kind = .cold ∧ s.plant = none ∧ (∀ n : Fin 48, linkUp s n
    = false) ∧ (∀ n : Fin 48, s.bit (R.ISL_STAT n) F.ISL_STAT.VDD_OK = false) ∧ s.bit R.DEV_SUPPLY
    F.DEV_SUPPLY.VANA_OK = true ∧ s.fld R.DEV_SAFE_CAUSE ⟨11, 0⟩ = 0 ∧ s.discharging = false) :=
  ⟨⟨5, true, false, W.at .links, by decide +kernel⟩,
    ⟨5, (W.at .links).setFld R.DEV_SUPPLY F.DEV_SUPPLY.VANA_OK 1, by decide +kernel⟩⟩

theorem test_WakeAndAlarm_met :
    (∃ (e : Nat) (c : Fin 7) (s : State), s.boot.phase = .standby ∧ (s.reg R.DEV_WAKE_CFG).toNat.testBit c = true ∧
    s.boot.wakes.length < 4) ∧
    (∃ (e : Nat) (c : Fin 7) (s : State), s.boot.phase = .standby ∧ (s.reg R.DEV_WAKE_CFG).toNat.testBit c = true ∧
    s.boot.wakes.length < 4) ∧
    (∃ (e : Nat) (c : Fin 7) (s : State), s.boot.phase = .standby ∧ (s.reg R.DEV_WAKE_CFG).toNat.testBit c = true ∧ 4
    ≤ s.boot.wakes.length) ∧
    (∃ (e : Nat) (s : State), s.bit R.DEV_RTC_ALARM F.DEV_RTC_ALARM.EN = true ∧ s.boot.rtcSec ≤ s.fld R.DEV_RTC_ALARM
    F.DEV_RTC_ALARM.SEC ∧ s.boot.phase ≠ .standby) ∧
    (∃ (e : Nat) (s : State), s.bit R.DEV_RTC_ALARM F.DEV_RTC_ALARM.EN = true ∧ s.boot.rtcSec ≤ s.fld R.DEV_RTC_ALARM
    F.DEV_RTC_ALARM.SEC ∧ s.boot.phase = .standby ∧ (s.reg R.DEV_WAKE_CFG).toNat.testBit 6 = true) :=
  ⟨⟨5, 3, (W.at .standby).setReg R.DEV_WAKE_CFG 8, by decide +kernel⟩,
    ⟨5, 6, (W.at .standby).setReg R.DEV_WAKE_CFG 64, by decide +kernel⟩,
    ⟨5, 6,
    { (W.at .standby).setReg R.DEV_WAKE_CFG 64 with boot := { phase := .standby, wakes := List.replicate 4 (6, 5) } },
    by decide +kernel⟩,
    ⟨5, ((W.run 1).setFld R.DEV_RTC_ALARM F.DEV_RTC_ALARM.SEC 9).setBit R.DEV_RTC_ALARM F.DEV_RTC_ALARM.EN true,
    by decide +kernel⟩,
    ⟨5, ((W.at .standby).setReg R.DEV_WAKE_CFG 64).setBit R.DEV_RTC_ALARM F.DEV_RTC_ALARM.EN true, by decide +kernel⟩⟩

theorem test_InteriorReports_met :
    (∃ (e : Nat) (p : BitVec 16) (s : State), s.logs = true ∧ p.toNat < 256) ∧
    (∃ (e : Nat) (p : BitVec 16) (s : State), s.logs = true ∧ 256 ≤ p.toNat) ∧
    (∃ (e : Nat) (w : BitVec 22) (s : State), s.logs = true) ∧
    (∃ (e : Nat) (w : BitVec 22) (s : State), s.logs = true) ∧
    (∃ (e : Nat) (w : BitVec 22) (s : State), s.logs = true) ∧
    (∃ (e : Nat) (w : BitVec 22) (s : State), s.logs = true) ∧
    (∃ (e : Nat) (w : BitVec 22) (s : State), s.logs = true ∧ s.life.pend = none ∧ 0x1200000 ≤ 8 * w.toNat ∧ 8 *
    w.toNat < 0x1400000) ∧
    (∃ (e : Nat) (w : BitVec 22) (s : State), s.logs = true ∧ s.life.pend = none ∧ 0x1200000 ≤ 8 * w.toNat ∧ 8 *
    w.toNat < 0x1400000) ∧
    (∃ (e : Nat) (w : BitVec 22) (s : State), s.logs = true ∧ s.mode ≠ Mode.standby ∧ 0xC00000 ≤ 8 * w.toNat ∧ 8 *
    w.toNat < 0x1000000) ∧
    (∃ (e : Nat) (w : BitVec 22) (s : State), s.logs = true ∧ s.mode ≠ Mode.standby ∧ 0xC00000 ≤ 8 * w.toNat ∧ 8 *
    w.toNat < 0x1000000) :=
  ⟨⟨5, 255, W.run 2, by decide +kernel⟩,
    ⟨5, 256, W.run 2, by decide +kernel⟩,
    ⟨5, 0x3FFFFF, W.run 2, by decide +kernel⟩,
    ⟨5, 0x240000, W.run 2, by decide +kernel⟩,
    ⟨5, 0x300000, W.run 2, by decide +kernel⟩,
    ⟨5, 0x3FFFFF, W.run 2, by decide +kernel⟩,
    ⟨5, 0x240000, W.run 2, by decide +kernel⟩,
    ⟨5, 0x27FFFF, { W.run 2 with plc := { storing := true } }, by decide +kernel⟩,
    ⟨5, 0x180000, W.run 2, by decide +kernel⟩,
    ⟨5, 0x1FFFFF, W.run 2, by decide +kernel⟩⟩

theorem test_TransitionsComplete_met :
    (∃ (e : Nat) (x : Trans) (m : Nat) (s : State), s.trans = some x ∧ x.stop = false ∧ x.disch = false ∧ s.mode =
    Mode.ready ∧ s.fld R.DEV_MODE F.DEV_MODE.TARGET = m ∧ (m = Mode.drive ∨ m = Mode.charge ∨ m = Mode.service ∧
    s.service ≠ 0) ∧ s.heldMode = none ∧ s.heldFn = [] ∧ s.discharging = false) ∧
    (∃ (e : Nat) (x : Trans) (m : Nat) (s : State), s.trans = some x ∧ x.stop = false ∧ x.disch = false ∧ s.mode =
    Mode.ready ∧ s.fld R.DEV_MODE F.DEV_MODE.TARGET = m ∧ (m = Mode.drive ∨ m = Mode.charge ∨ m = Mode.service ∧
    s.service ≠ 0) ∧ s.heldMode = none ∧ s.heldFn = [] ∧ s.discharging = false) ∧
    (∃ (e : Nat) (x : Trans) (m : Nat) (s : State), s.trans = some x ∧ x.stop = false ∧ x.disch = false ∧ s.mode =
    Mode.ready ∧ s.fld R.DEV_MODE F.DEV_MODE.TARGET = m ∧ (m = Mode.drive ∨ m = Mode.charge ∨ m = Mode.service ∧
    s.service ≠ 0) ∧ s.heldMode = none ∧ s.heldFn = [] ∧ s.discharging = false) ∧
    (∃ (e : Nat) (x : Trans) (s : State), s.trans = some x ∧ x.stop = false ∧ x.disch = false ∧ s.mode = Mode.safe ∧
    s.fld R.DEV_MODE F.DEV_MODE.TARGET = Mode.ready ∧ s.heldMode = none ∧ s.heldFn = [] ∧ s.discharging = false) :=
  ⟨⟨5, {}, 2, { (W.run 1).setFld R.DEV_MODE F.DEV_MODE.TARGET 2 with trans := some {} }, by decide +kernel⟩,
    ⟨5, {}, 4, { (W.run 1).setFld R.DEV_MODE F.DEV_MODE.TARGET 4 with trans := some {}, service := 3 },
    by decide +kernel⟩,
    ⟨5, {}, 3, { (W.run 1).setFld R.DEV_MODE F.DEV_MODE.TARGET 3 with trans := some {} }, by decide +kernel⟩,
    ⟨5, {}, { (W.run 5).setFld R.DEV_MODE F.DEV_MODE.TARGET 1 with trans := some {} }, by decide +kernel⟩⟩

theorem test_StandbyIsEntered_met :
    (∃ (e : Nat) (x : Trans) (s : State), s.trans = some x ∧ x.stop = false ∧ x.disch = false ∧ s.mode = Mode.ready ∧
    s.fld R.DEV_MODE F.DEV_MODE.TARGET = Mode.standby ∧ s.life.pend = none ∧ s.discharging = false) ∧
    (∃ (e : Nat) (x : Trans) (vl : BitVec 13) (s : State), s.trans = some x ∧ x.stop = false ∧ x.disch = true ∧ s.mode
    = Mode.ready ∧ s.fld R.DEV_MODE F.DEV_MODE.TARGET = Mode.standby ∧ s.life.pend = none ∧ vl.toNat < 120) ∧
    (∃ (e : Nat) (x : Trans) (vl : BitVec 13) (s : State), s.trans = some x ∧ x.disch = true ∧ s.life.pend.isSome =
    true ∧ vl.toNat < 120) :=
  ⟨⟨5, {}, { (W.run 1).setFld R.DEV_MODE F.DEV_MODE.TARGET 0 with trans := some {} }, by decide +kernel⟩,
    ⟨5, { disch := true }, 119,
    { (W.run 1).setFld R.DEV_MODE F.DEV_MODE.TARGET 0 with trans := some { disch := true }, discharging := true },
    by decide +kernel⟩,
    ⟨5, { disch := true }, 119,
    { (W.run 1).setFld R.DEV_MODE F.DEV_MODE.TARGET 0 with trans := some { disch := true }, discharging := true, life
                                                           := { pend := some {} } }, by decide +kernel⟩⟩

theorem test_StopsAndDischargesRunOut_met :
    (∃ (e : Nat) (x : Trans) (s : State), s.trans = some x ∧ x.stop = true ∧ x.forced = false ∧ stopDone s = false) ∧
    (∃ (e : Nat) (j : Fin 6) (vl : BitVec 13) (x : Trans) (m : Fin 2) (c : Nat) (s : State), s.trans = some x ∧ x.stop
    = true ∧ x.forced = true ∧ (s.tbOf j).run = true ∧ (s.tbOf j).ready = true ∧ machConv s m = some c ∧ tbOfConv s c
    = j.val ∧ c ∈ convsOfTb s j ∧ convOn s c = true ∧ s.fld (R.PROT_SS_SPEED m) F.PROT_SS_SPEED.SRC = 0 ∧ s.mode ≠
    Mode.standby ∧ s.mode ≠ Mode.boot) ∧
    (∃ (e : Nat) (x : Trans) (s : State), s.trans = some x ∧ x.disch = true ∧ 120 ≤ vlink s ∧ s.heldMode = none ∧
    s.heldFn = []) ∧
    (∃ (e : Nat) (x : Trans) (s : State), s.trans = some x ∧ x.disch = true ∧ vlink s < 120) :=
  ⟨⟨5, { stop := true }, { W.conv 2 1 with trans := some { stop := true } }, by decide +kernel⟩,
    ⟨5, 0, 0, { stop := true, forced := true }, 0, 0,
    { (W.conv 2 0).setTb 0 { run := true, ready := true, len := 20000, p := 20000, nextP := 20000, nextLen := 20000 }
      with trans := some { stop := true, forced := true } }, by decide +kernel⟩,
    ⟨5, { disch := true },
    { ((W.run 1).setFld R.DEV_MODE F.DEV_MODE.TARGET 0).setFld R.DCL_STAT F.DCL_STAT.VLINK 120 with trans := some {
                                                                                                                    disch
                                                                                                                    :=
                                                                                                                    true
                                                                                                                    },
                                                                                                    discharging :=
                                                                                                    true },
    by decide +kernel⟩,
    ⟨5, { disch := true }, { W.run 1 with trans := some { disch := true }, discharging := true }, by decide +kernel⟩⟩

theorem test_SafeTorqueOff_met :
    (∃ (e : Nat) (p : Fin 2) (s : State), s.boot.phase = .run ∧ s.mode ≠ Mode.standby) ∧
    (∃ (e : Nat) (p : Fin 2) (s : State), s.boot.phase = .run ∧ s.mode ≠ Mode.standby) ∧
    (∃ (e d : Nat) (s : State), s.boot.phase = .run ∧ s.mode ≠ Mode.standby ∧ s.stoTold = false ∧ s.boot.stoDiff =
    some d) ∧
    (∃ (e : Nat) (p : Fin 2) (s : State), s.boot.phase = .run ∧ s.bit R.DEV_STO_STAT (stoFld p) = false) ∧
    (∃ (e : Nat) (level : Bool) (s : State), s.boot.phase = .run ∧ s.glove.on = true ∧ jStopped s = false ∧
    s.glove.ents.length < 8192) :=
  ⟨⟨5, 0, (W.run 2).setFld R.DEV_STO_STAT ⟨1,0⟩ 3, by decide +kernel⟩,
    ⟨5, 1, (W.run 2).setFld R.DEV_STO_STAT ⟨1,0⟩ 3, by decide +kernel⟩,
    ⟨5, 7, let s : State := (W.run 2).setFld R.DEV_STO_STAT F.DEV_STO_STAT.STO_A 1;
    { s with boot := { s.boot with stoDiff := some 7 } }, by decide +kernel⟩,
    ⟨5, 1, (W.run 2).setFld R.DEV_STO_STAT F.DEV_STO_STAT.STO_A 1, by decide +kernel⟩,
    ⟨5, true, { W.run 2 with glove := { on := true } }, by decide +kernel⟩⟩

theorem test_SupplyAndLinkCauses_met :
    (∃ (e : Nat) (s : State), s.bit R.DEV_SUPPLY F.DEV_SUPPLY.VANA_OK = true ∧ s.boot.phase ≠ .standby ∧ s.mode ≠
    Mode.standby) ∧
    (∃ (e : Nat) (s : State), s.bit R.DEV_SUPPLY F.DEV_SUPPLY.VANA_OK = false) ∧
    (∃ (e : Nat) (vl : BitVec 13) (s : State), s.mode = Mode.service ∧ 120 ≤ vl.toNat ∧ (s.bit R.GLV_STAT
    F.GLV_STAT.HALTED = true ∨ s.bit R.GLV_STAT F.GLV_STAT.HALT_PEND = true ∨ s.bit R.PWM_FORCE F.PWM_FORCE.EN =
    true)) ∧
    (∃ (e : Nat) (vl : BitVec 13) (s : State), s.mode = Mode.service ∧ 120 ≤ vl.toNat ∧ (s.bit R.GLV_STAT
    F.GLV_STAT.HALTED = true ∨ s.bit R.GLV_STAT F.GLV_STAT.HALT_PEND = true ∨ s.bit R.PWM_FORCE F.PWM_FORCE.EN =
    true)) ∧
    (∃ (e : Nat) (vl : BitVec 13) (s : State), (s.mode ≠ Mode.service ∨ vl.toNat < 120 ∨ (s.bit R.GLV_STAT
    F.GLV_STAT.HALTED = false ∧ s.bit R.GLV_STAT F.GLV_STAT.HALT_PEND = false ∧ s.bit R.PWM_FORCE F.PWM_FORCE.EN =
    false))) ∧
    (∃ (e : Nat) (vl : BitVec 13) (s : State), (s.mode ≠ Mode.service ∨ vl.toNat < 120 ∨ (s.bit R.GLV_STAT
    F.GLV_STAT.HALTED = false ∧ s.bit R.GLV_STAT F.GLV_STAT.HALT_PEND = false ∧ s.bit R.PWM_FORCE F.PWM_FORCE.EN =
    false))) ∧
    (∃ (e : Nat) (vl : BitVec 13) (s : State), (s.mode ≠ Mode.service ∨ vl.toNat < 120 ∨ (s.bit R.GLV_STAT
    F.GLV_STAT.HALTED = false ∧ s.bit R.GLV_STAT F.GLV_STAT.HALT_PEND = false ∧ s.bit R.PWM_FORCE F.PWM_FORCE.EN =
    false))) :=
  ⟨⟨5, (W.run 2).setBit R.DEV_SUPPLY F.DEV_SUPPLY.VANA_OK true, by decide +kernel⟩,
    ⟨5, (W.run 2).setBit R.DEV_SUPPLY F.DEV_SUPPLY.VANA_OK false, by decide +kernel⟩,
    ⟨5, 120, (W.run 4).setBit R.GLV_STAT F.GLV_STAT.HALTED true, by decide +kernel⟩,
    ⟨5, 8191, (W.run 4).setBit R.PWM_FORCE F.PWM_FORCE.EN true, by decide +kernel⟩,
    ⟨5, 119, W.run 4, by decide +kernel⟩,
    ⟨5, 120, W.run 2, by decide +kernel⟩,
    ⟨5, 120, W.run 4, by decide +kernel⟩⟩

theorem test_IslandSuppliesLock_met :
    (∃ (e : Nat) (n : Fin 48) (vdd vee : Bool) (s : State), (vdd || vee) = true) ∧
    (∃ (e : Nat) (n : Fin 48) (s : State), lockedOut s n = true) ∧
    (∃ (e : Nat) (n : Fin 48) (d : Nat) (s : State), (s.islOf n).okDue = some d ∧ linkUp s n = true) ∧
    (∃ (e : Nat) (n : Fin 48) (s : State), s.bit (R.ISL_STAT n) F.ISL_STAT.VDD_OK = true ∧ s.bit (R.ISL_STAT n)
    F.ISL_STAT.VEE_OK = false) :=
  ⟨⟨5, 47, true, false, (((W.run 2).setReg (R.ISL_STAT 47) 0).setFld (R.ISL_STAT 47) F.ISL_STAT.LINK_UP 1).setBit
    (R.ISL_CFG 47) F.ISL_CFG.USED true, by decide +kernel⟩,
    ⟨5, 0, (W.run 2).setBit (R.ISL_STAT 0) F.ISL_STAT.LOCKOUT true, by decide +kernel⟩,
    ⟨5, 0, 900, ((W.run 2).setBit (R.ISL_STAT 0) F.ISL_STAT.LINK_UP true).setIsl 0 { okDue := some 900 },
    by decide +kernel⟩,
    ⟨5, 0, (W.run 2).setBit (R.ISL_STAT 0) F.ISL_STAT.VDD_OK true, by decide +kernel⟩⟩

theorem test_IslandLinkSupervised_met :
    (∃ (e : Nat) (n : Fin 48) (s : State), (s.islOf n).bads = []) ∧
    (∃ (e : Nat) (n : Fin 48) (s : State), linkUp s n = true) ∧
    (∃ (e : Nat) (n : Fin 48) (s : State), linkUp s n = false) ∧
    (∃ (e : Nat) (n : Fin 48) (ps : Nat) (s : State), linkUp s n = true ∧ 0 ≤ trimOf ps ∧ trimOf ps ≤ 127) ∧
    (∃ (e : Nat) (n : Fin 48) (ps : Nat) (s : State), linkUp s n = true ∧ (trimOf ps < 0 ∨ 127 < trimOf ps)) ∧
    (∃ (e : Nat) (n : Fin 48) (ps : Nat) (s : State), linkUp s n = true ∧ (s.islOf n).onStep + 160 ≤ 8 * s.dt ∧
    (s.islOf n).offStep + 160 ≤ 8 * s.dt ∧ (s.islOf n).gateStep + 160 ≤ 8 * s.dt ∧ (s.fld (R.ISL_STAT n)
    F.ISL_STAT.TRIM : Int) < clampI 0 127 (trimOf ps) ∧ (unitOfGate s n).all (fun k => ((s.unitOf k).edges ++
    (s.unitOf k).next).all fun d => decide (8 * (s.tick e).dt + 160 ≤ d.step)) = true) :=
  ⟨⟨5, 47, W.run 2, by decide +kernel⟩,
    ⟨5, 47, (W.run 2).setBit (R.ISL_STAT 47) F.ISL_STAT.LINK_UP true, by decide +kernel⟩,
    ⟨5, 47, W.run 2, by decide +kernel⟩,
    ⟨5, 47, 59000, (W.run 2).setBit (R.ISL_STAT 47) F.ISL_STAT.LINK_UP true, by decide +kernel⟩,
    ⟨5, 47, 70000, (W.run 2).setBit (R.ISL_STAT 47) F.ISL_STAT.LINK_UP true, by decide +kernel⟩,
    ⟨5, 40, 50000, ({ W.run 2 with dt := 100, plant := some (W.plant 1) }).setBit (R.ISL_STAT 40) F.ISL_STAT.LINK_UP
    true, by decide +kernel⟩⟩

theorem test_SwitchFaultsDetected_met :
    (∃ (e : Nat) (n : Fin 48) (mv above : Nat) (s : State), s.bit (R.PROT_DSAT n) F.PROT_DSAT.DESAT_EN = true ∧ 50 *
    s.fld (R.PROT_DSAT n) F.PROT_DSAT.THRESH < mv ∧ latched s n = false ∧ gateOn s n = true ∧ (s.islOf n).det = none ∧
    (s.islOf n).softEnd = none) ∧
    (∃ (e : Nat) (n : Fin 48) (mv above : Nat) (s : State), (s.bit (R.PROT_DSAT n) F.PROT_DSAT.DESAT_EN = false ∨ mv ≤
    50 * s.fld (R.PROT_DSAT n) F.PROT_DSAT.THRESH)) ∧
    (∃ (e : Nat) (n : Fin 48) (nvs : Nat) (s : State), s.bit (R.PROT_OC n) F.PROT_OC.OC_EN = true ∧ s.fld (R.PROT_OC
    n) F.PROT_OC.LKS * s.fld (R.PROT_OC n) F.PROT_OC.ITHR ≤ (s.islOf n).kelvin + nvs ∧ latched s n = false ∧ gateOn s
    n = true ∧ (s.islOf n).det = none ∧ (s.islOf n).softEnd = none) ∧
    (∃ (e : Nat) (n : Fin 48) (d : Nat) (s : State), (s.islOf n).softEnd = some d ∧ gateOn s n = false) ∧
    (∃ (e : Nat) (n : Fin 48) (st : Nat) (a b : Bool) (s : State), (s.islOf n).det = some (st, a, b)) ∧
    (∃ (e : Nat) (n : Fin 48) (st c m : Nat) (a b : Bool) (s : State), (s.islOf n).det = some (st, a, b) ∧ convOfIsl s
    n = some c ∧ c < 32 ∧ chanOf s c = some m ∧ s.mode ≠ Mode.standby ∧ s.bit R.PROT_CFG F.PROT_CFG.ESC_MACH = true) :=
  ⟨⟨5, 47, 99999, 0, ((W.run 2).setBit (R.ISL_STAT 47) F.ISL_STAT.GATE true).setBit (R.PROT_DSAT 47)
    F.PROT_DSAT.DESAT_EN true, by decide +kernel⟩,
    ⟨5, 47, 0, 0, W.run 2, by decide +kernel⟩,
    ⟨5, 47, 1000000000, ((W.run 2).setBit (R.ISL_STAT 47) F.ISL_STAT.GATE true).setBit (R.PROT_OC 47) F.PROT_OC.OC_EN
    true, by decide +kernel⟩,
    ⟨5, 47, 900, (W.run 2).setIsl 47 { softEnd := some 900 }, by decide +kernel⟩,
    ⟨5, 47, 77, true, true, (W.run 2).setIsl 47 { det := some (77, true, true) }, by decide +kernel⟩,
    ⟨5, 1, 77, 0, 0, true, false, ((W.conv 2 0).setBit R.PROT_CFG F.PROT_CFG.ESC_MACH true).setIsl 1
    { det := some (77, true, false) }, by decide +kernel⟩⟩

theorem test_SelectorDecides_met :
    (∃ (e : Nat) (m : Fin 2) (src : Fin 4) (rpm : BitVec 32) (s : State), 3 ≤ src.val ∧ (∀ n ∈ machIsls s m, n < 48) ∧
    s.bit (R.PROT_SS_STAT m) F.PROT_SS_STAT.APPLIED = false ∧ s.fld (R.PROT_SS_CFG m) F.PROT_SS_CFG.N_AS ≤ min
    rpm.toInt.natAbs 65535) ∧
    (∃ (e : Nat) (m : Fin 2) (src : Fin 4) (rpm : BitVec 32) (s : State), 3 ≤ src.val ∧ (∀ n ∈ machIsls s m, n < 48) ∧
    s.bit (R.PROT_SS_STAT m) F.PROT_SS_STAT.APPLIED = false ∧ s.fld (R.PROT_SS_CFG m) F.PROT_SS_CFG.N_AS ≤ min
    rpm.toInt.natAbs 65535) ∧
    (∃ (e : Nat) (m : Fin 2) (src : Fin 4) (rpm : BitVec 32) (s : State), 3 ≤ src.val ∧ (∀ n ∈ machIsls s m, n < 48) ∧
    s.bit (R.PROT_SS_STAT m) F.PROT_SS_STAT.APPLIED = false ∧ min rpm.toInt.natAbs 65535 < s.fld (R.PROT_SS_CFG m)
    F.PROT_SS_CFG.N_AS ∧ (s.selOf m).held = false) ∧
    (∃ (e : Nat) (m : Fin 2) (src : Fin 4) (rpm : BitVec 32) (s : State), 3 ≤ src.val ∧ (∀ n ∈ machIsls s m, n < 48) ∧
    s.bit (R.PROT_SS_STAT m) F.PROT_SS_STAT.APPLIED = false ∧ min rpm.toInt.natAbs 65535 < s.fld (R.PROT_SS_CFG m)
    F.PROT_SS_CFG.N_AS ∧ (s.selOf m).held = false) ∧
    (∃ (e : Nat) (m : Fin 2) (s : State), (s.selOf m).fresh.isSome = true ∧ (s.selOf m).known = true ∧ s.d0 = true ∧
    s.bit (R.PROT_SS_STAT m) F.PROT_SS_STAT.APPLIED = false) ∧
    (∃ (e : Nat) (m : Fin 2) (b : Nat) (s : State), (s.selOf m).below = some b ∧ s.d0 = true ∧ (∀ n ∈ machIsls s m, n
    < 48) ∧ s.bit (R.PROT_SS_STAT m) F.PROT_SS_STAT.APPLIED = false ∧ speedUnknown (State.until (b + 2000000) (s.tick
    e)) m = false ∧ 10 * s.fld (R.PROT_SS_SPEED m) F.PROT_SS_SPEED.SPEED < 9 * s.fld (R.PROT_SS_CFG m)
    F.PROT_SS_CFG.N_AS) ∧
    (∃ (e : Nat) (m : Fin 2) (d : Nat) (s : State), (s.selOf m).swapDue = some d ∧ s.d0 = true) ∧
    (∃ (e : Nat) (m : Fin 2) (d : Nat) (s : State), (s.selOf m).swapDue = some d ∧ s.d0 = true) :=
  ⟨⟨5, 1, 3, 0x0FFFF, W.run 2, by decide +kernel⟩,
    ⟨5, 0, 3, 0x10000, W.conv 2 0, by decide +kernel⟩,
    ⟨5, 1, 3, 1, ((W.run 2).setFld (R.PROT_SS_CFG 1) F.PROT_SS_CFG.N_AS 9).setSel 1 { held := false },
    by decide +kernel⟩,
    ⟨5, 0, 3, 1, (((W.conv 2 0).setFld (R.PROT_SS_CFG 0) F.PROT_SS_CFG.N_AS 9).setSel 0 { held := false }).setBit
    R.DCL_STAT F.DCL_STAT.OV1 true, by decide +kernel⟩,
    ⟨5, 1, (W.run 2).setSel 1 { fresh := some 3, known := true }, by decide +kernel⟩,
    ⟨5, 1, 7, (((W.run 2).setFld (R.PROT_SS_CFG 1) F.PROT_SS_CFG.N_AS 9).setFld (R.PROT_SS_SPEED 1)
    F.PROT_SS_SPEED.SRC 2).setSel 1 { fresh := some 1900000, known := true, held := true, below := some 7 },
    by decide +kernel⟩,
    ⟨5, 1, 900, (W.run 2).setSel 1 { swapDue := some 900 }, by decide +kernel⟩,
    ⟨5, 0, 900, (W.conv 2 0).setSel 0 { swapDue := some 900 }, by decide +kernel⟩⟩

theorem test_PrestartVerdicts_met :
    (∃ (e : Nat) (gates : List GateTest) (phs : List PhsTest) (s : State), s.bit R.PROT_PRE_STAT
    F.PROT_PRE_STAT.RUNNING = true) ∧
    (∃ (e : Nat) (gates : List GateTest) (phs : List PhsTest) (s : State), s.bit R.PROT_PRE_STAT
    F.PROT_PRE_STAT.RUNNING = true) ∧
    (∃ (e : Nat) (gates : List GateTest) (phs : List PhsTest) (s : State), s.bit R.PROT_PRE_STAT
    F.PROT_PRE_STAT.RUNNING = true ∧ s.plant = none) ∧
    (∃ (e link : Nat) (gates : List GateTest) (phs : List PhsTest) (s : State), s.bit R.PROT_PRE_STAT
    F.PROT_PRE_STAT.RAIL_PENDING = true ∧ s.mode = Mode.ready ∧ 1000 * s.fld R.PROT_PRE_CFG F.PROT_PRE_CFG.VMIN ≤
    link) ∧
    (∃ (e link : Nat) (gates : List GateTest) (phs : List PhsTest) (s : State), s.bit R.PROT_PRE_STAT
    F.PROT_PRE_STAT.RAIL_PENDING = true ∧ s.mode = Mode.ready ∧ 1000 * s.fld R.PROT_PRE_CFG F.PROT_PRE_CFG.VMIN ≤
    link) ∧
    (∃ (e link : Nat) (gates : List GateTest) (phs : List PhsTest) (s : State), link < 1000 * s.fld R.PROT_PRE_CFG
    F.PROT_PRE_CFG.VMIN) :=
  ⟨⟨5, [], [], (W.run 1).setBit R.PROT_PRE_STAT F.PROT_PRE_STAT.RUNNING true, by decide +kernel⟩,
    ⟨5, [{ isl := 0, rise := none, sank := true }], [], (W.conv 1 1).setBit R.PROT_PRE_STAT F.PROT_PRE_STAT.RUNNING
    true, by decide +kernel⟩,
    ⟨5, [], [], (W.run 1).setBit R.PROT_PRE_STAT F.PROT_PRE_STAT.RUNNING true, by decide +kernel⟩,
    ⟨5, 2000000, [], [], (W.run 1).setBit R.PROT_PRE_STAT F.PROT_PRE_STAT.RAIL_PENDING true, by decide +kernel⟩,
    ⟨5, 2000000, [], [{ unit := 0, codes := [], own := 2500, other1 := 900, other2 := 900, rail := 1 }], (W.conv 1
    0).setBit R.PROT_PRE_STAT F.PROT_PRE_STAT.RAIL_PENDING true, by decide +kernel⟩,
    ⟨5, 0, [], [], (W.run 1).setFld R.PROT_PRE_CFG F.PROT_PRE_CFG.VMIN 1, by decide +kernel⟩⟩

theorem test_TripsAct_met :
    (∃ (e : Nat) (src : Fin 72) (s : State), (∀ k : Fin 33, s.bit (R.PWM_HB_STAT k) F.PWM_HB_STAT.EN = true →
    (tripSrcs s k).contains src.val = false)) ∧
    (∃ (e : Nat) (src : Fin 72) (k : Fin 33) (s : State), (tripSrcs s k).contains src.val = true ∧ (∀ j : Fin 33, j ≠
    k → (tripSrcs s j).contains src.val = false) ∧ s.bit (R.PWM_HB_STAT k) F.PWM_HB_STAT.EN = true ∧ unitLatched s k =
    false ∧ (s.unitOf k).tripAt = none ∧ bySelector s k = false ∧ s.bit (R.PWM_HB_TRIP k) F.PWM_HB_TRIP.ACT = false ∧
    (s.unitOf k).win = none ∧ noticesStand s < 256 ∧ 1 < s.fld (R.PWM_HB_TRIP k) F.PWM_HB_TRIP.N) :=
  ⟨⟨5, 0, W.run 2, by decide +kernel⟩,
    ⟨5, 7, 3, let s : State := W.conv 2 1; (((((List.range 33).foldl (fun s j => s.setFld (R.PWM_HB_TRIP j) ⟨27, 0⟩
    0xFFFFFFF) s).setFld (R.PWM_HB_TRIP 3) F.PWM_HB_TRIP.SRC0 7).setBit (R.PWM_HB_TRIP 3) F.PWM_HB_TRIP.ACT
    false).setBit (R.PWM_HB_STAT 3) F.PWM_HB_STAT.EN true).setUnit 3
    { edges := [⟨48, false, false, none, 0⟩, ⟨80, true, true, none, 0⟩] }, by decide +kernel⟩⟩

theorem test_SyncInTracks_met :
    (∃ (e : Nat) (s : State), (s.bit R.PWM_SYNC_CFG F.PWM_SYNC_CFG.IN_EN = false ∨ syncTbs s = [])) ∧
    (∃ (e j : Nat) (s : State), s.bit R.PWM_SYNC_CFG F.PWM_SYNC_CFG.IN_EN = true ∧ syncTbs s = [j] ∧ (s.tbOf j).syncOn
    = false ∧ (s.tbOf j).lastEdge = none) ∧
    (∃ (e j a : Nat) (s : State), s.bit R.PWM_SYNC_CFG F.PWM_SYNC_CFG.IN_EN = true ∧ syncTbs s = [j] ∧ (s.tbOf j).run
    = true ∧ (s.tbOf j).lastEdge = some a ∧ a ≤ (s.tick e).dt ∧ (s.tbOf j).syncOn = true ∧ (∀ i ∈ ([1, 2, 3] : List
    Nat), (s.tick e).dt + s.fld R.PWM_SYNC_CFG F.PWM_SYNC_CFG.TOL < a + i * (s.tbOf j).p ∨ a + i * (s.tbOf j).p +
    s.fld R.PWM_SYNC_CFG F.PWM_SYNC_CFG.TOL < (s.tick e).dt)) ∧
    (∃ (e j a : Nat) (s : State), s.bit R.PWM_SYNC_CFG F.PWM_SYNC_CFG.IN_EN = true ∧ syncTbs s = [j] ∧ (s.tbOf j).run
    = true ∧ (s.tbOf j).lastEdge = some a ∧ a ≤ (s.tick e).dt ∧ (∃ i ∈ ([1, 2, 3] : List Nat), (i = 1 ∨ (s.tbOf
    j).syncOn = true) ∧ a + i * (s.tbOf j).p ≤ (s.tick e).dt + s.fld R.PWM_SYNC_CFG F.PWM_SYNC_CFG.TOL ∧ (s.tick e).dt
    ≤ a + i * (s.tbOf j).p + s.fld R.PWM_SYNC_CFG F.PWM_SYNC_CFG.TOL)) ∧
    (∃ (e j a : Nat) (s : State), s.bit R.PWM_SYNC_CFG F.PWM_SYNC_CFG.IN_EN = true ∧ syncTbs s = [j] ∧ (s.tbOf j).run
    = true ∧ (s.tbOf j).lastEdge = some a ∧ a ≤ (s.tick e).dt ∧ (∃ i ∈ ([1, 2, 3] : List Nat), (i = 1 ∨ (s.tbOf
    j).syncOn = true) ∧ a + i * (s.tbOf j).p ≤ (s.tick e).dt + s.fld R.PWM_SYNC_CFG F.PWM_SYNC_CFG.TOL ∧ (s.tick e).dt
    ≤ a + i * (s.tbOf j).p + s.fld R.PWM_SYNC_CFG F.PWM_SYNC_CFG.TOL)) ∧
    (∃ (e j : Nat) (s : State), syncTbs s = [j] ∧ (s.tbOf j).run = true ∧ (s.tbOf j).syncOn = true ∧ s.d0 = true ∧
    noticesStand s < 256) :=
  ⟨⟨5, W.run 2, by decide +kernel⟩,
    ⟨5, 2, (((W.run 2).setBit R.PWM_SYNC_CFG F.PWM_SYNC_CFG.IN_EN true).setFld (R.PWM_TB_CFG 2) F.PWM_TB_CFG.SRC
    2).setTb 2 { run := true, p := 20000 }, by decide +kernel⟩,
    ⟨5, 2, 3, (((W.run 2).setBit R.PWM_SYNC_CFG F.PWM_SYNC_CFG.IN_EN true).setFld (R.PWM_TB_CFG 2) F.PWM_TB_CFG.SRC
    2).setTb 2 { run := true, syncOn := true, lastEdge := some 3, p := 20000 }, by decide +kernel⟩,
    ⟨20000, 2, 3, (((W.run 2).setBit R.PWM_SYNC_CFG F.PWM_SYNC_CFG.IN_EN true).setFld (R.PWM_TB_CFG 2)
    F.PWM_TB_CFG.SRC 2).setTb 2 { run := true, syncOn := true, lastEdge := some 3, p := 20000, b := 5 },
    by decide +kernel⟩,
    ⟨20000, 2, 3, (((W.run 2).setBit R.PWM_SYNC_CFG F.PWM_SYNC_CFG.IN_EN true).setFld (R.PWM_TB_CFG 2)
    F.PWM_TB_CFG.SRC 2).setTb 2 { run := true, lastEdge := some 3, p := 20000, b := 5 }, by decide +kernel⟩,
    ⟨5, 2, ((W.run 2).setFld (R.PWM_TB_CFG 2) F.PWM_TB_CFG.SRC 2).setTb 2
    { run := true, syncOn := true, lastEdge := some 900, p := 20000, err := -4 }, by decide +kernel⟩⟩

theorem test_TimebasesRun_met :
    (∃ (e : Nat) (j : Fin 6) (s : State), (s.tbOf j).run = false ∧ tbWanted s j = true ∧ s.fld (R.PWM_TB_CFG j)
    F.PWM_TB_CFG.SRC = 0) ∧
    (∃ (e : Nat) (j : Fin 6) (vl : BitVec 13) (s : State), (s.tbOf j).run = true ∧ (s.tbOf j).first = false ∧ (s.tbOf
    j).ready = false) ∧
    (∃ (e : Nat) (j : Fin 6) (vl : BitVec 13) (s : State), (s.tbOf j).run = true ∧ ((s.tbOf j).first = true ∨ (s.tbOf
    j).ready = true)) ∧
    (∃ (e : Nat) (j : Fin 6) (vl : BitVec 13) (s : State), (s.tbOf j).run = true ∧ ((s.tbOf j).first = true ∨ (s.tbOf
    j).ready = true)) ∧
    (∃ (e : Nat) (k : Fin 33) (d : Edge) (l : List Edge) (s : State), (s.unitOf k).edges = d :: l ∧ (s.unitOf k).next
    = []) ∧
    (∃ (e : Nat) (k : Fin 33) (d : Edge) (l : List Edge) (s : State), (s.unitOf k).edges = d :: l ∧ (s.unitOf k).next
    = []) ∧
    (∃ (e : Nat) (k : Fin 33) (d : Edge) (l : List Edge) (g : Nat) (s : State), (s.unitOf k).edges = d :: l ∧ d.on =
    true ∧ g = (if d.high then (gatesOf s k).1 else (gatesOf s k).2) ∧ g ≠ 63 ∧ unitOfGate s g = some k.val ∧ (s.islOf
    g).cmdOn = false ∧ (partner s g).all (fun h => !countsOn s h d.step) = true) :=
  ⟨⟨5, 0, W.conv 2 1, by decide +kernel⟩,
    ⟨5, 0, 0, (W.conv 2 1).setTb 0 { run := true, first := false, p := 20000, len := 20000, b := 1000 },
    by decide +kernel⟩,
    ⟨5, 0, 0, (W.conv 2 1).setTb 0
    { run := true, first := false, ready := true, no := 4, p := 20000, len := 20000, nextP := 30000, b := 1000 },
    by decide +kernel⟩,
    ⟨5, 0, 0, (W.conv 2 1).setTb 0 { run := true, first := true, p := 20000, len := 20000, b := 1000 },
    by decide +kernel⟩,
    ⟨5, 3, ⟨8000, true, true, none, 0⟩, [], (W.run 2).setUnit 3 { edges := [⟨8000, true, true, none, 0⟩] },
    by decide +kernel⟩,
    ⟨5, 3, ⟨8000, false, false, none, 0⟩, [], (W.run 2).setUnit 3 { edges := [⟨8000, false, false, none, 0⟩] },
    by decide +kernel⟩,
    ⟨5, 3, ⟨8000, true, true, none, 0⟩, [], 6, ((W.run 2).setUnit 3 { edges := [⟨8000, true, true, none, 0⟩] }).setBit
    (R.ISL_STAT 6) F.ISL_STAT.LINK_UP true, by decide +kernel⟩⟩

theorem test_GraphsActivate_met :
    (∃ (e : Nat) (g : Fin 8) (dur lag n b h : Nat) (l : List (Nat × Nat × Nat)) (s : State), gSuspended (s.tick e) g =
    false ∧ pairWhole s g = true ∧ (s.graphOf g).act = none ∧ (s.graphOf g).notices = (n, b, h) :: l) ∧
    (∃ (e : Nat) (g : Fin 8) (dur lag : Nat) (s : State), (gSuspended (s.tick e) g = true ∨ (s.graphOf g).act = none ∧
    (s.graphOf g).notices = [])) ∧
    (∃ (e : Nat) (g : Fin 8) (a : Act) (w : Nat) (s : State), (s.graphOf g).act = some a ∧ a.wait = some w ∧ s.d0 =
    true ∧ imgInst (gWords s g) ≤ a.idx) ∧
    (∃ (e : Nat) (k : Fin 1024) (q : Fin 32) (x : QEnt) (l : List (List (Nat × QEnt))) (s : State), (s.xfOf k).ents =
    [(q.val, x)] :: l ∧ queCons s q ≠ 3 ∧ (s.queOf q).ents.length < queSize s q ∧ (∀ g : Fin 8, (s.graphOf g).act.all
    (fun a => a.wait.isNone) = true)) :=
  ⟨⟨5, 7, 9, 2, 4, 8, 0, [], (W.run 2).setGraph 7 { notices := [(4, 8, 0)] }, by decide +kernel⟩,
    ⟨5, 7, 9, 2, W.run 2, by decide +kernel⟩,
    ⟨5, 7, { n := 1, b := 2, start := 3, wait := some 40 }, 40, (W.run 2).setGraph 7
    { act := some { n := 1, b := 2, start := 3, wait := some 40 } }, by decide +kernel⟩,
    ⟨5, 5, 31, { stamp := 1, chan := 2, sample := 3 }, [], ((W.run 2).setFld (R.QUE_Q_CFG 31) F.QUE_Q_CFG.SIZE
    8).setXf 5 { ents := [[(31, { stamp := 1, chan := 2, sample := 3 })]] }, by decide +kernel⟩⟩

theorem test_ReferenceAndComparators_met :
    (∃ (e d : Nat) (s : State), s.meas.refDue = some d) ∧
    (∃ (e : Nat) (c : Fin 64) (uv : BitVec 24) (s : State), s.bit (R.ADC_WCMP c) F.ADC_WCMP.EN = true ∧ (2000 * s.sfld
    (R.ADC_WCMP c) F.ADC_WCMP.HI < uv.toInt ∨ uv.toInt < 2000 * s.sfld (R.ADC_WCMP c) F.ADC_WCMP.LO) ∧ bitN (s.fld
    (R.ADC_WCMP_STAT (c / 32)) F.ADC_WCMP_STAT.ASSERTED) (c % 32) = false ∧ bitN s.meas.wraw c = false) ∧
    (∃ (e : Nat) (c : Fin 64) (uv : BitVec 24) (s : State), s.bit (R.ADC_WCMP c) F.ADC_WCMP.EN = true ∧ (2000 * s.sfld
    (R.ADC_WCMP c) F.ADC_WCMP.HI < uv.toInt ∨ uv.toInt < 2000 * s.sfld (R.ADC_WCMP c) F.ADC_WCMP.LO) ∧ bitN (s.fld
    (R.ADC_WCMP_STAT (c / 32)) F.ADC_WCMP_STAT.ASSERTED) (c % 32) = false ∧ bitN s.meas.wraw c = false) ∧
    (∃ (e : Nat) (c : Fin 64) (uv : BitVec 24) (s : State), s.bit (R.ADC_WCMP c) F.ADC_WCMP.EN = true ∧ uv.toInt <
    2000 * s.sfld (R.ADC_WCMP c) F.ADC_WCMP.HI - 2000 * (s.fld (R.ADC_WCMP c) F.ADC_WCMP.HYST : Int) ∧ 2000 * s.sfld
    (R.ADC_WCMP c) F.ADC_WCMP.LO + 2000 * (s.fld (R.ADC_WCMP c) F.ADC_WCMP.HYST : Int) < uv.toInt ∧ refSettled s =
    true ∧ bitN (s.fld (R.ADC_WCMP_STAT (c / 32)) F.ADC_WCMP_STAT.ASSERTED) (c % 32) = true) ∧
    (∃ (e : Nat) (c : Fin 64) (uv : BitVec 24) (s : State), s.bit (R.ADC_WCMP c) F.ADC_WCMP.EN = false ∧ bitN (s.fld
    (R.ADC_WCMP_STAT (c / 32)) F.ADC_WCMP_STAT.ASSERTED) (c % 32) = false) :=
  ⟨⟨5, 900, { W.run 2 with meas := { refDue := some 900 } }, by decide +kernel⟩,
    ⟨5, 63, 0x700000, ((W.run 2).setBit (R.ADC_WCMP 63) F.ADC_WCMP.EN true).setFld (R.ADC_WCMP 63) F.ADC_WCMP.FILT 7,
    by decide +kernel⟩,
    ⟨5, 63, 0x800000, (W.run 2).setBit (R.ADC_WCMP 63) F.ADC_WCMP.EN true, by decide +kernel⟩,
    ⟨5, 33, 0,
    { ((((W.run 2).setBit R.ADC_REF_CTRL F.ADC_REF_CTRL.SETTLED true).setReg (R.ADC_WCMP_STAT 1) 2).setBit (R.ADC_WCMP
      33) F.ADC_WCMP.EN true) with trips := 2 ^ 33, meas := { wraw := 2 ^ 33 } }, by decide +kernel⟩,
    ⟨5, 33, 0x700000, W.run 2, by decide +kernel⟩⟩

theorem test_ConvertersConvert_met :
    (∃ (e : Nat) (n : Fin 12) (s : State), adcMode s n = 1 ∧ (s.adcOf n).act = true ∧ (s.tbOf (s.fld (R.ADC_AD_CFG n)
    F.ADC_AD_CFG.TB)).run = true ∧ (s.tbOf (s.fld (R.ADC_AD_CFG n) F.ADC_AD_CFG.TB)).first = false ∧ (s.tbOf (s.fld
    (R.ADC_AD_CFG n) F.ADC_AD_CFG.TB)).no % 2 ^ s.fld (R.ADC_AD_TRIG n) F.ADC_AD_TRIG.EVERY = 0 ∧ s.bit (R.ADC_AD_STAT
    n) F.ADC_AD_STAT.FAILED = false ∧ s.bit R.PROT_PRE_STAT F.PROT_PRE_STAT.RUNNING = false ∧ (s.adcOf n).busyTill ≤
    (s.tbOf (s.fld (R.ADC_AD_CFG n) F.ADC_AD_CFG.TB)).b) ∧
    (∃ (e : Nat) (n : Fin 12) (s : State), adcMode s n ≠ 1) ∧
    (∃ (e : Nat) (n : Fin 12) (codes : List Int) (d : SlotDue) (l : List SlotDue) (s : State), (s.adcOf n).slots = d
    :: l ∧ d.chan < 0x60 ∧ (s.xfOf (3 * 64 + n)).ents.length < 128) ∧
    (∃ (e : Nat) (n : Fin 12) (codes : List Int) (d : SlotDue) (l : List SlotDue) (s : State), (s.adcOf n).slots = d
    :: l ∧ d.chan = 0x60 ∧ (s.xfOf (4 * 64)).ents.length < 16) ∧
    (∃ (e : Nat) (n : Fin 12) (first : Int) (codes : List Int) (w : IntWin) (l : List IntWin) (s : State), (s.adcOf
    n).wins = w :: l ∧ (s.xfOf (3 * 64 + n)).ents.length < 128) ∧
    (∃ (e : Nat) (n : Fin 12) (code : Int) (s : State), adcMode s n = 3 ∧ (s.adcOf n).act = true ∧ (s.adcOf n).cont %
    2 ^ s.fld (R.ADC_AD_CFG n) F.ADC_AD_CFG.DEC = 0 ∧ (s.xfOf (3 * 64 + n)).ents.length < 128) ∧
    (∃ (e : Nat) (n : Fin 12) (diff : Nat) (s : State), s.bit (R.ADC_AD_STAT n) F.ADC_AD_STAT.FAILED = false ∧ (256 <
    diff ∨ 32 < diff ∧ 3 ≤ (s.adcOf n).lanes)) ∧
    (∃ (e : Nat) (n : Fin 12) (diff : Nat) (s : State), s.bit (R.ADC_AD_STAT n) F.ADC_AD_STAT.FAILED = false ∧ (256 <
    diff ∨ 32 < diff ∧ 3 ≤ (s.adcOf n).lanes)) ∧
    (∃ (e : Nat) (n : Fin 12) (diff : Nat) (s : State), s.bit (R.ADC_AD_STAT n) F.ADC_AD_STAT.FAILED = false ∧ diff ≤
    256 ∧ (diff ≤ 32 ∨ (s.adcOf n).lanes < 3)) ∧
    (∃ (e : Nat) (n : Fin 12) (diff : Nat) (s : State), s.bit (R.ADC_AD_STAT n) F.ADC_AD_STAT.FAILED = false ∧ diff ≤
    256 ∧ (diff ≤ 32 ∨ (s.adcOf n).lanes < 3)) :=
  ⟨⟨5, 11, (((W.run 2).setFld (R.ADC_AD_CFG 11) F.ADC_AD_CFG.MODE 1).setTb 0
    { run := true, first := false, b := 900, len := 20000 }).setAdc 11 { act := true }, by decide +kernel⟩,
    ⟨5, 11, W.run 2, by decide +kernel⟩,
    ⟨5, 11, [7], { chan := 3, queue := 4, avg := 0, stamp := 5, due := 900, seq := 6, cal := 0 }, [], (W.run 2).setAdc
    11 { slots := [{ chan := 3, queue := 4, avg := 0, stamp := 5, due := 900, seq := 6, cal := 0 }] },
    by decide +kernel⟩,
    ⟨5, 11, [7], { chan := 0x60, queue := 4, avg := 0, stamp := 5, due := 900, seq := 6, cal := 0 }, [], (W.run
    2).setAdc 11 { slots := [{ chan := 0x60, queue := 4, avg := 0, stamp := 5, due := 900, seq := 6, cal := 0 }] },
    by decide +kernel⟩,
    ⟨5, 11, 700, [-3], { b := 900, len := 20000, no := 300, cal := 0 }, [], (W.run 2).setAdc 11
    { wins := [{ b := 900, len := 20000, no := 300, cal := 0 }] }, by decide +kernel⟩,
    ⟨5, 11, 700, ((W.run 2).setFld (R.ADC_AD_CFG 11) F.ADC_AD_CFG.MODE 3).setAdc 11 { act := true },
    by decide +kernel⟩,
    ⟨5, 11, 257, W.run 2, by decide +kernel⟩,
    ⟨5, 0, 33, (W.run 2).setAdc 0 { lanes := 3 }, by decide +kernel⟩,
    ⟨5, 11, 256, (W.run 2).setAdc 11 { lanes := 2 }, by decide +kernel⟩,
    ⟨5, 11, 32, (W.run 2).setAdc 11 { lanes := 4 }, by decide +kernel⟩⟩

theorem test_PositionInputs_met :
    (∃ (e : Nat) (r : Fin 2) (mv : BitVec 16) (err : BitVec 32) (s : State), (mv.toNat < 400 ∨ 4000 < mv.toNat ∨ 2 ^
    26 < err.toInt.natAbs)) ∧
    (∃ (e : Nat) (r : Fin 2) (mv : BitVec 16) (err : BitVec 32) (s : State), (mv.toNat < 400 ∨ 4000 < mv.toNat ∨ 2 ^
    26 < err.toInt.natAbs)) ∧
    (∃ (e : Nat) (r : Fin 2) (mv : BitVec 16) (err : BitVec 32) (s : State), 400 ≤ mv.toNat ∧ mv.toNat ≤ 4000 ∧
    err.toInt.natAbs ≤ 2 ^ 26) ∧
    (∃ (e : Nat) (k : Fin 2) (s : State), s.bit (R.ADC_ENC_CFG k) F.ADC_ENC_CFG.EN = true) ∧
    (∃ (e : Nat) (k : Fin 2) (s : State), s.bit (R.ADC_ENC_CFG k) F.ADC_ENC_CFG.EN = true ∧ s.bit (R.ADC_ENC_CFG k)
    F.ADC_ENC_CFG.ZRST = true) ∧
    (∃ (e : Nat) (k : Fin 2) (s : State), (s.bit (R.ADC_ENC_CFG k) F.ADC_ENC_CFG.EN && s.bit (R.ADC_ENC_CFG k)
    F.ADC_ENC_CFG.ZRST) = false) ∧
    (∃ (e : Nat) (k : Fin 2) (up : Bool) (held : Nat) (s : State), s.bit (R.ADC_ENC_CFG k) F.ADC_ENC_CFG.EN = true ∧
    s.fld (R.ADC_ENC_CFG k) F.ADC_ENC_CFG.FILT < held) ∧
    (∃ (e : Nat) (k : Fin 2) (up : Bool) (held : Nat) (s : State), (s.bit (R.ADC_ENC_CFG k) F.ADC_ENC_CFG.EN = false ∨
    held ≤ s.fld (R.ADC_ENC_CFG k) F.ADC_ENC_CFG.FILT)) ∧
    (∃ (e : Nat) (r : Fin 8) (cal : Nat) (pulses : List Nat) (s : State), s.bit (R.ADC_SENT_CFG r) F.ADC_SENT_CFG.EN =
    true ∧ sentOk s r cal pulses = true ∧ s.bit (R.ADC_SENT_STAT r) F.ADC_SENT_STAT.LOST = false ∧ routed s (0x64 + 2
    * r) = none ∧ routed s (0x65 + 2 * r) = none ∧ routed s (0x65 + 2 * r - 1) = none ∧ routed s (0x64 + 2 * r + 1) =
    none) ∧
    (∃ (e : Nat) (r : Fin 8) (cal : Nat) (pulses : List Nat) (slow : Option (Bool × BitVec 8 × BitVec 16)) (s :
    State), s.bit (R.ADC_SENT_CFG r) F.ADC_SENT_CFG.EN = true ∧ sentOk s r cal pulses = false ∧ (s.sentOf r).fails + 1
    < s.fld (R.ADC_SENT_CFG r) F.ADC_SENT_CFG.LOSTN) ∧
    (∃ (e : Nat) (r : Fin 8) (s : State), s.bit (R.ADC_SENT_CFG r) F.ADC_SENT_CFG.EN = true ∧ s.bit (R.ADC_SENT_STAT
    r) F.ADC_SENT_STAT.LOST = false) :=
  ⟨⟨5, 1, 399, 0, W.run 2, by decide +kernel⟩,
    ⟨5, 1, 400, 0x80000000, { W.run 2 with meas := { resRun := 2 } }, by decide +kernel⟩,
    ⟨5, 1, 4000, 0xFC000000, { W.run 2 with meas := { resRun := 2 } }, by decide +kernel⟩,
    ⟨5, 1, (W.run 2).setBit (R.ADC_ENC_CFG 1) F.ADC_ENC_CFG.EN true, by decide +kernel⟩,
    ⟨5, 1, (((W.run 2).setBit (R.ADC_ENC_CFG 1) F.ADC_ENC_CFG.EN true).setBit (R.ADC_ENC_CFG 1) F.ADC_ENC_CFG.ZRST
    true).setFld (R.ADC_ENC_CFG 1) F.ADC_ENC_CFG.ZVAL 9, by decide +kernel⟩,
    ⟨5, 1, W.run 2, by decide +kernel⟩,
    ⟨5, 1, false, 9, (W.run 2).setBit (R.ADC_ENC_CFG 1) F.ADC_ENC_CFG.EN true, by decide +kernel⟩,
    ⟨5, 1, true, 0, W.run 2, by decide +kernel⟩,
    ⟨5, 7, 3360, [720, 720, 1320], (((W.run 2).setBit (R.ADC_SENT_CFG 7) F.ADC_SENT_CFG.EN true).setFld
    (R.ADC_SENT_CFG 7) F.ADC_SENT_CFG.TICK 3).setFld (R.ADC_SENT_CFG 7) F.ADC_SENT_CFG.NIBBLES 1, by decide +kernel⟩,
    ⟨5, 7, 0, [], none, ((W.run 2).setBit (R.ADC_SENT_CFG 7) F.ADC_SENT_CFG.EN true).setFld (R.ADC_SENT_CFG 7)
    F.ADC_SENT_CFG.LOSTN 3, by decide +kernel⟩,
    ⟨5, 7, ((W.run 2).setBit (R.ADC_SENT_CFG 7) F.ADC_SENT_CFG.EN true).setFld (R.ADC_SENT_CFG 7) F.ADC_SENT_CFG.LOSTN
    3, by decide +kernel⟩⟩

theorem test_ChopperAndRegeneration_met :
    (∃ (e : Nat) (uv : BitVec 24) (s : State), pinAbove s (s.fld R.DCL_THR F.DCL_THR.VCHOP) uv.toNat = true) ∧
    (∃ (e : Nat) (uv : BitVec 24) (s : State), pinAbove s (s.fld R.DCL_THR F.DCL_THR.VCHOP) uv.toNat = false) ∧
    (∃ (e : Nat) (uv : BitVec 24) (s : State), pinBelow s (s.fld R.DCL_THR F.DCL_THR.VCHOP) uv.toNat = true ∧ s.bit
    R.DCL_STAT F.DCL_STAT.CHOP_CMP = true) ∧
    (∃ (e d : Nat) (s : State), s.dcl.regenDue = some d ∧ s.bit R.DCL_STAT F.DCL_STAT.REGEN_INH = true) ∧
    (∃ (e : Nat) (s : State), s.bit R.DCL_CHOP_CFG F.DCL_CHOP_CFG.TEST_EN = true ∧ chopUnit s = none) ∧
    (∃ (e k : Nat) (s : State), s.bit R.DCL_CHOP_CFG F.DCL_CHOP_CFG.TEST_EN = true ∧ chopUnit s = some k ∧ s.bit
    (R.PWM_HB_STAT k) F.PWM_HB_STAT.EN = true ∧ s.dcl.testBad = false ∧ chopAvail s = true ∧ s.dcl.duty = 0 ∧ s.fld
    R.DCL_CHOP_CFG F.DCL_CHOP_CFG.CMP < 64) :=
  ⟨⟨5, 0xFFFFFF, W.run 2, by decide +kernel⟩,
    ⟨5, 0, W.run 2, by decide +kernel⟩,
    ⟨5, 0, ((W.run 2).setBit R.DCL_STAT F.DCL_STAT.CHOP_CMP true).setBit R.DCL_STAT F.DCL_STAT.REGEN_INH true,
    by decide +kernel⟩,
    ⟨5, 900, { (W.run 2).setBit R.DCL_STAT F.DCL_STAT.REGEN_INH true with dcl := { regenDue := some 900 } },
    by decide +kernel⟩,
    ⟨5, (W.run 2).setBit R.DCL_CHOP_CFG F.DCL_CHOP_CFG.TEST_EN true, by decide +kernel⟩,
    ⟨5, 0, let s : State := W.conv 2 2; ((((s.setBit R.DCL_CHOP_CFG F.DCL_CHOP_CFG.TEST_EN true).setBit (R.PWM_HB_STAT
    0) F.PWM_HB_STAT.EN true).setFld R.DCL_CHOP_CFG F.DCL_CHOP_CFG.CMP 3).setReg (R.ISL_STAT 0) 1).setReg (R.ISL_STAT
    1) 1, by decide +kernel⟩⟩

theorem test_OvervoltageActs_met :
    (∃ (e : Nat) (uv : BitVec 24) (s : State), pinAbove s (s.fld R.DCL_THR F.DCL_THR.OV1) uv.toNat = true ∧ s.mode ≠
    Mode.standby) ∧
    (∃ (e c : Nat) (m : Fin 2) (uv : BitVec 24) (s : State), pinAbove s (s.fld R.DCL_THR F.DCL_THR.OV1) uv.toNat =
    true ∧ s.mode ≠ Mode.standby ∧ machConv s m = some c ∧ s.bit (R.PROT_SS_STAT m) F.PROT_SS_STAT.APPLIED = false) ∧
    (∃ (e : Nat) (uv : BitVec 24) (s : State), (s.mode = Mode.standby ∨ pinAbove s (s.fld R.DCL_THR F.DCL_THR.OV1)
    uv.toNat = false)) ∧
    (∃ (e : Nat) (uv : BitVec 24) (s : State), (s.mode = Mode.standby ∨ pinAbove s (s.fld R.DCL_THR F.DCL_THR.OV1)
    uv.toNat = false)) ∧
    (∃ (e : Nat) (uv : BitVec 24) (s : State), pinBelow s (s.fld R.DCL_THR F.DCL_THR.OV1) uv.toNat = true ∧ s.bit
    R.DCL_STAT F.DCL_STAT.OV1 = true) ∧
    (∃ (e d : Nat) (m : Fin 2) (s : State), s.dcl.ov1Due = some d ∧ s.mode ≠ Mode.safe) ∧
    (∃ (e : Nat) (uv : BitVec 24) (s : State), pinAbove s (s.fld R.DCL_THR F.DCL_THR.OV2) uv.toNat = true ∧ s.mode ≠
    Mode.standby) ∧
    (∃ (e : Nat) (uv : BitVec 24) (s : State), pinAbove s (s.fld R.DCL_THR F.DCL_THR.OV2) uv.toNat = false) :=
  ⟨⟨5, 0xFFFFFF, W.run 2, by decide +kernel⟩,
    ⟨5, 0, 0, 0xFFFFFF, W.conv 2 0, by decide +kernel⟩,
    ⟨5, 0, W.run 2, by decide +kernel⟩,
    ⟨5, 0xFFFFFF, (W.at .standby).setFld R.DEV_MODE F.DEV_MODE.MODE 0, by decide +kernel⟩,
    ⟨5, 0, (W.run 2).setBit R.DCL_STAT F.DCL_STAT.OV1 true, by decide +kernel⟩,
    ⟨5, 900, 1, { (W.run 2).setSel 1 { why := 2 ^ 20 - 1 } with dcl := { ov1Due := some 900 } }, by decide +kernel⟩,
    ⟨5, 0xFFFFFF, W.run 2, by decide +kernel⟩,
    ⟨5, 0, W.run 2, by decide +kernel⟩⟩

theorem test_LinkMonitored_met :
    (∃ (e : Nat) (vl : BitVec 13) (s : State), (s.mode = Mode.drive ∨ s.mode = Mode.charge) ∧ vl.toNat < 2 * s.fld
    R.DCL_HYS F.DCL_HYS.VUV ∧ s.bit R.DCL_STAT F.DCL_STAT.UV = false) ∧
    (∃ (e : Nat) (vl : BitVec 13) (s : State), (s.mode = Mode.drive ∨ s.mode = Mode.charge) ∧ vl.toNat < 2 * s.fld
    R.DCL_HYS F.DCL_HYS.VUV ∧ s.bit R.DCL_STAT F.DCL_STAT.UV = false) ∧
    (∃ (e : Nat) (vl : BitVec 13) (s : State), 2 * s.fld R.DCL_HYS F.DCL_HYS.VLOW ≤ vl.toNat) ∧
    (∃ (e : Nat) (vl : BitVec 13) (s : State), vl.toNat < 2 * s.fld R.DCL_HYS F.DCL_HYS.VLOW) ∧
    (∃ (e : Nat) (mv vl : BitVec 13) (s : State), (mv.toNat < 1980 ∨ 2020 < mv.toNat)) ∧
    (∃ (e : Nat) (mv vl : BitVec 13) (s : State), (mv.toNat < 1980 ∨ 2020 < mv.toNat)) ∧
    (∃ (e : Nat) (mv vl : BitVec 13) (s : State), 1980 ≤ mv.toNat ∧ mv.toNat ≤ 2020) ∧
    (∃ (e : Nat) (mv vl : BitVec 13) (s : State), 1980 ≤ mv.toNat ∧ mv.toNat ≤ 2020) :=
  ⟨⟨5, 9, (W.run 2).setFld R.DCL_HYS F.DCL_HYS.VUV 5, by decide +kernel⟩,
    ⟨5, 9, (W.run 3).setFld R.DCL_HYS F.DCL_HYS.VUV 5, by decide +kernel⟩,
    ⟨5, 8191, (W.run 2).setBit R.DCL_STAT F.DCL_STAT.UV true, by decide +kernel⟩,
    ⟨5, 9, ((W.run 2).setBit R.DCL_STAT F.DCL_STAT.UV true).setFld R.DCL_HYS F.DCL_HYS.VLOW 5, by decide +kernel⟩,
    ⟨5, 1979, 9, W.run 2, by decide +kernel⟩,
    ⟨5, 2021, 9, W.run 2, by decide +kernel⟩,
    ⟨5, 1980, 9, { (W.run 2).setBit R.DCL_STAT F.DCL_STAT.MON_FAULT true with dcl := { good := 9 } },
    by decide +kernel⟩,
    ⟨5, 2020, 9, { (W.run 2).setBit R.DCL_STAT F.DCL_STAT.MON_FAULT true with dcl := { good := 8 } },
    by decide +kernel⟩⟩

theorem test_TractionSupervised_met :
    (∃ (e d : Nat) (m : Fin 2) (s : State), (s.trxOf m).retSince = some d) ∧
    (∃ (e : Nat) (m : Fin 2) (c : Nat) (s : State), machConv s m = some c ∧ tState s m = Ts.wait ∧ s.fld (R.TRX_M_STAT
    m) F.TRX_M_STAT.ATTEMPT < 3) ∧
    (∃ (e : Nat) (m : Fin 2) (c : Nat) (s : State), machConv s m = some c ∧ tState s m = Ts.wait ∧ gateMay (setT m
    Ts.off s) m c = true) ∧
    (∃ (e d : Nat) (m : Fin 2) (s : State), tState s m = Ts.run ∧ (s.trxOf m).sbSince = some d) ∧
    (∃ (e d : Nat) (m : Fin 2) (s : State), tState s m = Ts.short ∧ (s.trxOf m).sbIdle = some d) ∧
    (∃ (e : Nat) (m : Fin 2) (s : State), s.fld (R.TRX_M_CFG m) F.TRX_M_CFG.TREQ_TMO ≠ 0 ∧ s.bit (R.TRX_M_CTRL m)
    F.TRX_M_CTRL.EN = true ∧ s.bit (R.TRX_M_STAT m) F.TRX_M_STAT.TREQ_LOST = false) ∧
    (∃ (e : Nat) (m : Fin 2) (s : State), s.fld (R.TRX_M_KE m) F.TRX_M_KE.PSI ≠ 0 ∧ (s.trxOf m).keOk = true ∧ 0 <
    (s.trxOf m).keCnt) ∧
    (∃ (e : Nat) (m : Fin 2) (s : State), s.fld (R.TRX_M_KE m) F.TRX_M_KE.PSI ≠ 0 ∧ ((s.trxOf m).keOk = false ∨
    (s.trxOf m).keCnt = 0)) ∧
    (∃ (e : Nat) (m : Fin 2) (s : State), s.fld (R.TRX_M_KE m) F.TRX_M_KE.PSI ≠ 0 ∧ ((s.trxOf m).keOk = false ∨
    (s.trxOf m).keCnt = 0)) ∧
    (∃ (e d : Nat) (m : Fin 2) (s : State), s.trx.valid = some (m.val, d) ∧ mapCrc s m = s.fld (R.TRX_M_CRC m)
    F.TRX_M_CRC.CRC) ∧
    (∃ (e d : Nat) (m : Fin 2) (s : State), s.trx.valid = some (m.val, d) ∧ mapCrc s m ≠ s.fld (R.TRX_M_CRC m)
    F.TRX_M_CRC.CRC) :=
  ⟨⟨5, 900, 1, (W.run 2).setTrx 1 { retSince := some 900 }, by decide +kernel⟩,
    ⟨5, 0, 0, (W.conv 2 0).setFld (R.TRX_M_STAT 0) F.TRX_M_STAT.STATE 4, by decide +kernel⟩,
    ⟨5, 0, 0, let s : State := (W.conv 2 0).setFld (R.TRX_M_STAT 0) F.TRX_M_STAT.STATE 4; (((((s.setBit (R.TRX_M_CTRL
    0) F.TRX_M_CTRL.EN true).setBit (R.TRX_M_STAT 0) F.TRX_M_STAT.MAP_OK true).setBit (R.TRX_M_STAT 0)
    F.TRX_M_STAT.OBS_BOUND true).setBit (R.TRX_M_STAT 0) F.TRX_M_STAT.POS_OK true).setSel 0 {}).setConv 0
    { en := true }, by decide +kernel⟩,
    ⟨5, 900, 1, ((W.run 2).setFld (R.TRX_M_STAT 1) F.TRX_M_STAT.STATE 2).setTrx 1 { sbSince := some 900 },
    by decide +kernel⟩,
    ⟨5, 900, 1, ((W.run 2).setFld (R.TRX_M_STAT 1) F.TRX_M_STAT.STATE 3).setTrx 1 { sbIdle := some 900 },
    by decide +kernel⟩,
    ⟨5, 1, (((W.run 2).setFld (R.TRX_M_CFG 1) F.TRX_M_CFG.TREQ_TMO 7).setBit (R.TRX_M_CTRL 1) F.TRX_M_CTRL.EN
    true).setBit (R.TRX_M_CFG 1) F.TRX_M_CFG.LIMP_AUTO true, by decide +kernel⟩,
    ⟨5, 1, ((W.run 2).setFld (R.TRX_M_KE 1) F.TRX_M_KE.PSI 900).setTrx 1 { keCnt := 3, keSum := 2600 },
    by decide +kernel⟩,
    ⟨5, 1, ((W.run 2).setFld (R.TRX_M_KE 1) F.TRX_M_KE.PSI 900).setTrx 1 { keCnt := 3, keOk := false },
    by decide +kernel⟩,
    ⟨5, 1, ((W.run 2).setFld (R.TRX_M_KE 1) F.TRX_M_KE.PSI 900).setTrx 1 { keCnt := 0 }, by decide +kernel⟩,
    ⟨5, 900, 1, W.mapped 0, test_mapped_valid 0, by
    have h := test_crc_range (W.mapped 0) (1 : Fin 2)
    rw [test_mapped_crc]
    omega⟩,
    ⟨5, 900, 1, W.mapped 1, test_mapped_valid 1, by
    have h := test_crc_range (W.mapped 1) (1 : Fin 2)
    rw [test_mapped_crc]
    omega⟩⟩

theorem test_ActuatorStartsAndMoves_met :
    (∃ (e : Nat) (a : Fin 3) (s : State), actMode s = true ∧ aState s a = As.starting ∧ s.fld (R.ACT_A_STAT a)
    F.ACT_A_STAT.START_PH = 1) ∧
    (∃ (e : Nat) (a : Fin 3) (s : State), actMode s = true ∧ aState s a = As.starting ∧ s.fld (R.ACT_A_STAT a)
    F.ACT_A_STAT.START_PH = 2) ∧
    (∃ (e : Nat) (a : Fin 3) (s : State), actMode s = true ∧ aState s a = As.starting ∧ s.fld (R.ACT_A_STAT a)
    F.ACT_A_STAT.START_PH = 2) ∧
    (∃ (e : Nat) (a : Fin 3) (s : State), actMode s = true ∧ aState s a = As.wait) ∧
    (∃ (e : Nat) (a : Fin 3) (s : State), actMode s = false) ∧
    (∃ (e : Nat) (a : Fin 3) (s : State), actMode s = false) ∧
    (∃ (e : Nat) (a : Fin 3) (s : State), actMode s = false) ∧
    (∃ (e d : Nat) (a : Fin 3) (s : State), (s.actOf a).posSince = some d ∧ aState s a = As.moving) ∧
    (∃ (e : Nat) (a : Fin 3) (s : State), aState s a = As.moving) ∧
    (∃ (e d : Nat) (a : Fin 3) (s : State), s.lvEnd = none ∧ (s.actOf a).brakeEnd = some d ∧ aState s a = As.failed) ∧
    (∃ (e d : Nat) (a : Fin 3) (s : State), s.lvEnd = none ∧ (s.actOf a).brakeEnd = some d ∧ aState s a = As.brake ∧
    (s.actOf a).toFault = true) ∧
    (∃ (e d : Nat) (a : Fin 3) (s : State), s.lvEnd = none ∧ (s.actOf a).brakeEnd = some d ∧ aState s a = As.brake ∧
    (s.actOf a).toFault = false ∧ s.bit (R.ACT_A_CTRL a) F.ACT_A_CTRL.BRAKE = false) ∧
    (∃ (e d : Nat) (a : Fin 3) (s : State), s.lvEnd = some d ∧ s.mode = Mode.safe ∧ (s.actOf a).brakeEnd = none) :=
  ⟨⟨5, 2, ((W.run 2).setFld (R.ACT_A_STAT 2) F.ACT_A_STAT.STATE 1).setFld (R.ACT_A_STAT 2) F.ACT_A_STAT.START_PH 1,
    by decide +kernel⟩,
    ⟨5, 2, ((W.run 2).setFld (R.ACT_A_STAT 2) F.ACT_A_STAT.STATE 1).setFld (R.ACT_A_STAT 2) F.ACT_A_STAT.START_PH 2,
    by decide +kernel⟩,
    ⟨5, 2, (((W.run 2).setFld (R.ACT_A_STAT 2) F.ACT_A_STAT.STATE 1).setFld (R.ACT_A_STAT 2) F.ACT_A_STAT.START_PH
    2).setFld (R.ACT_A_STAT 2) F.ACT_A_STAT.ATTEMPT 3, by decide +kernel⟩,
    ⟨5, 2, (W.run 2).setFld (R.ACT_A_STAT 2) F.ACT_A_STAT.STATE 5, by decide +kernel⟩,
    ⟨5, 2, W.run 1, by decide +kernel⟩,
    ⟨5, 2, W.run 1, by decide +kernel⟩,
    ⟨5, 2, W.run 1, by decide +kernel⟩,
    ⟨5, 900, 2, ((W.run 2).setFld (R.ACT_A_STAT 2) F.ACT_A_STAT.STATE 2).setAct 2 { posSince := some 900 },
    by decide +kernel⟩,
    ⟨5, 2, (W.run 2).setFld (R.ACT_A_STAT 2) F.ACT_A_STAT.STATE 2, by decide +kernel⟩,
    ⟨5, 900, 2, ((W.run 2).setFld (R.ACT_A_STAT 2) F.ACT_A_STAT.STATE 6).setAct 2 { brakeEnd := some 900 },
    by decide +kernel⟩,
    ⟨5, 900, 2, ((W.run 2).setFld (R.ACT_A_STAT 2) F.ACT_A_STAT.STATE 4).setAct 2
    { brakeEnd := some 900, toFault := true }, by decide +kernel⟩,
    ⟨5, 900, 2, ((W.run 2).setFld (R.ACT_A_STAT 2) F.ACT_A_STAT.STATE 4).setAct 2 { brakeEnd := some 900 },
    by decide +kernel⟩,
    ⟨5, 900, 2, { W.run 5 with lvEnd := some 900 }, by decide +kernel⟩⟩

theorem test_HallAndLowVoltageGates_met :
    (∃ (e k : Nat) (a : Fin 3) (code : Fin 8) (s : State), hallSector code = some k ∧ (s.actOf a).sector = none) ∧
    (∃ (e k j : Nat) (a : Fin 3) (code : Fin 8) (s : State), hallSector code = some k ∧ (s.actOf a).sector = some j ∧
    j < 6 ∧ ((k + 6 - j) % 6 = 1 ∨ (k + 6 - j) % 6 = 5)) ∧
    (∃ (e k j : Nat) (a : Fin 3) (code : Fin 8) (s : State), hallSector code = some k ∧ (s.actOf a).sector = some j ∧
    j < 6 ∧ ((k + 6 - j) % 6 = 1 ∨ (k + 6 - j) % 6 = 5)) ∧
    (∃ (e k j : Nat) (a : Fin 3) (code : Fin 8) (s : State), hallSector code = some k ∧ (s.actOf a).sector = some j ∧
    j < 6 ∧ 2 ≤ (k + 6 - j) % 6 ∧ (k + 6 - j) % 6 ≤ 4) ∧
    (∃ (e : Nat) (a : Fin 3) (code : Fin 8) (s : State), hallSector code = none) ∧
    (∃ (e : Nat) (a : Fin 3) (code : Fin 8) (s : State), hallSector code = none) ∧
    (∃ (e : Nat) (w : Fin 10) (s : State), w ≠ 9) ∧
    (∃ (e : Nat) (s : State), (∀ g : Fin 18, (s.islOf (64 + g)).cmdOn = false)) ∧
    (∃ (e : Nat) (w : Fin 10) (s : State), w ≠ 9) ∧
    (∃ (e mv : Nat) (ch : Fin 18) (s : State), s.bit R.ACT_LV_CFG F.ACT_LV_CFG.FB_EN = true ∧ (if (s.islOf (64 +
    ch)).cmdOn then mv < 6000 else 2000 < mv)) ∧
    (∃ (e mv : Nat) (ch : Fin 18) (s : State), s.bit R.ACT_LV_CFG F.ACT_LV_CFG.FB_EN = true ∧ (if (s.islOf (64 +
    ch)).cmdOn then mv < 6000 else 2000 < mv)) ∧
    (∃ (e mv : Nat) (ch : Fin 18) (s : State), (s.bit R.ACT_LV_CFG F.ACT_LV_CFG.FB_EN = false ∨ (if (s.islOf (64 +
    ch)).cmdOn then 6000 ≤ mv else mv ≤ 2000))) ∧
    (∃ (e mv : Nat) (ch : Fin 18) (s : State), (s.bit R.ACT_LV_CFG F.ACT_LV_CFG.FB_EN = false ∨ (if (s.islOf (64 +
    ch)).cmdOn then 6000 ≤ mv else mv ≤ 2000))) :=
  ⟨⟨5, 3, 2, 6, W.run 2, by decide +kernel⟩,
    ⟨5, 3, 2, 2, 6, (W.run 2).setAct 2 { sector := some 2 }, by decide +kernel⟩,
    ⟨5, 5, 0, 2, 5, (W.run 2).setAct 2 { sector := some 0 }, by decide +kernel⟩,
    ⟨5, 3, 0, 2, 6, (W.run 2).setAct 2 { sector := some 0 }, by decide +kernel⟩,
    ⟨5, 2, 7, W.run 2, by decide +kernel⟩,
    ⟨5, 2, 0, W.run 2, by decide +kernel⟩,
    ⟨5, 8, W.run 2, by decide +kernel⟩,
    ⟨5, W.run 2, by decide +kernel⟩,
    ⟨5, 8, W.run 2, by decide +kernel⟩,
    ⟨5, 5999, 17, ((W.run 2).setBit R.ACT_LV_CFG F.ACT_LV_CFG.FB_EN true).setIsl 81 { cmdOn := true },
    by decide +kernel⟩,
    ⟨5, 2001, 17, (W.run 2).setBit R.ACT_LV_CFG F.ACT_LV_CFG.FB_EN true, by decide +kernel⟩,
    ⟨5, 2000, 17, (W.run 2).setBit R.ACT_LV_CFG F.ACT_LV_CFG.FB_EN true, by decide +kernel⟩,
    ⟨5, 6000, 17, ((W.run 2).setBit R.ACT_LV_CFG F.ACT_LV_CFG.FB_EN true).setIsl 81 { cmdOn := true },
    by decide +kernel⟩⟩

theorem test_ChargeSequencer_met :
    (∃ (e : Nat) (s : State), session s = Ch.handover ∧ s.chg.causes = []) ∧
    (∃ (e w : Nat) (s : State), session s = Ch.handover ∧ s.chg.causes = [w] ∧ w < 15 ∧ w ≠ 3) ∧
    (∃ (e : Nat) (s : State), session s = Ch.handover ∧ s.chg.causes = [3]) ∧
    (∃ (e : Nat) (s : State), session s ≠ Ch.handover) ∧
    (∃ (e : Nat) (s : State), session s = Ch.suspend ∧ s.chg.replug = false) ∧
    (∃ (e : Nat) (s : State), s.fld R.CHG_CFG F.CHG_CFG.TSRC = 0) ∧
    (∃ (e uv : Nat) (s : State), s.fld R.CHG_CFG F.CHG_CFG.TSRC = 1 ∧ (uv < 50000 ∨ 4050000 < uv)) ∧
    (∃ (e uv : Nat) (s : State), s.fld R.CHG_CFG F.CHG_CFG.TSRC = 1 ∧ (uv < 50000 ∨ 4050000 < uv)) ∧
    (∃ (e uv : Nat) (s : State), s.fld R.CHG_CFG F.CHG_CFG.TSRC = 1 ∧ 50000 ≤ uv ∧ uv ≤ 4050000) ∧
    (∃ (e uv : Nat) (s : State), s.fld R.CHG_CFG F.CHG_CFG.TSRC = 1 ∧ 50000 ≤ uv ∧ uv ≤ 4050000) ∧
    (∃ (e : Nat) (s : State), session s = Ch.run ∧ s.chg.began = true ∧ s.fld R.CHG_STAT F.CHG_STAT.PHASE ≠ 4 ∧
    s.chg.causes.contains 2 = false ∧ s.chg.causes.contains 3 = false ∧ s.bit R.CHG_STAT F.CHG_STAT.THERM_LIM = false) ∧
    (∃ (e : Nat) (s : State), session s = Ch.suspend ∧ s.chg.began = true ∧ s.fld R.CHG_STAT F.CHG_STAT.PHASE ≠ 4 ∧
    s.chg.causes.contains 2 = false ∧ s.chg.causes.contains 3 = false ∧ s.bit R.CHG_STAT F.CHG_STAT.THERM_LIM = true) :=
  ⟨⟨5, (W.run 3).setFld R.CHG_STAT F.CHG_STAT.SESSION 3, by decide +kernel⟩,
    ⟨5, 7, { (W.run 3).setFld R.CHG_STAT F.CHG_STAT.SESSION 3 with chg := { causes := [7] } }, by decide +kernel⟩,
    ⟨5, { (W.run 3).setFld R.CHG_STAT F.CHG_STAT.SESSION 3 with chg := { causes := [3] } }, by decide +kernel⟩,
    ⟨5, (W.run 3).setFld R.CHG_STAT F.CHG_STAT.SESSION 2, by decide +kernel⟩,
    ⟨5, (W.run 3).setFld R.CHG_STAT F.CHG_STAT.SESSION 4, by decide +kernel⟩,
    ⟨5, (W.run 3).setBit R.CHG_STAT F.CHG_STAT.TBAT_OK true, by decide +kernel⟩,
    ⟨5, 49999, ((W.run 3).setBit R.CHG_STAT F.CHG_STAT.TBAT_OK true).setFld R.CHG_CFG F.CHG_CFG.TSRC 1,
    by decide +kernel⟩,
    ⟨5, 4050001, ((W.run 3).setBit R.CHG_STAT F.CHG_STAT.TBAT_OK true).setFld R.CHG_CFG F.CHG_CFG.TSRC 1,
    by decide +kernel⟩,
    ⟨5, 50000, (W.run 3).setFld R.CHG_CFG F.CHG_CFG.TSRC 1, by decide +kernel⟩,
    ⟨5, 4050000, (W.run 3).setFld R.CHG_CFG F.CHG_CFG.TSRC 1, by decide +kernel⟩,
    ⟨5,
    { ((W.run 3).setFld R.CHG_STAT F.CHG_STAT.SESSION 2).setFld R.CHG_LIMITS F.CHG_LIMITS.TNOM 1 with chg := { began
                                                                                                               := true
                                                                                                               } },
    by decide +kernel⟩,
    ⟨5,
    { ((W.run 3).setFld R.CHG_STAT F.CHG_STAT.SESSION 4).setBit R.CHG_STAT F.CHG_STAT.THERM_LIM true with chg := {
                                                                                                                   began
                                                                                                                   :=
                                                                                                                   true
                                                                                                                   }
                                                                                                          },
    by decide +kernel⟩⟩

theorem test_ControlPilotRead_met :
    (∃ (e len high falls : Nat) (hs : Int) (hn : Nat) (ls : Int) (ln : Nat) (s : State), s.boot.phase = .run ∧ 196079
    ≤ len ∧ len < 204082 ∧ falls = 1) ∧
    (∃ (e len high falls : Nat) (hs : Int) (hn : Nat) (ls : Int) (ln : Nat) (s : State), s.boot.phase = .run ∧ 196079
    ≤ len ∧ len < 204082 ∧ falls = 1) ∧
    (∃ (e len high b c falls : Nat) (hs : Int) (hn : Nat) (ls : Int) (ln : Nat) (s : State), s.boot.phase = .run ∧
    196079 ≤ len ∧ len < 204082 ∧ falls = 1 ∧ s.pilot.hist.take 2 = [b, c] ∧ max ((2 * high * 2 ^ 31 + len) / (2 *
    len)) (max b c) ≤ min ((2 * high * 2 ^ 31 + len) / (2 * len)) (min b c) + 10737418) ∧
    (∃ (e len high falls : Nat) (hs : Int) (hn : Nat) (ls : Int) (ln : Nat) (s : State), s.boot.phase = .run ∧ (len <
    196079 ∨ 204082 ≤ len ∨ falls ≠ 1)) ∧
    (∃ (e len high falls : Nat) (hs : Int) (hn : Nat) (ls : Int) (ln : Nat) (s : State), s.boot.phase = .run ∧ (len <
    196079 ∨ 204082 ≤ len ∨ falls ≠ 1)) ∧
    (∃ (e : Nat) (high : Bool) (s : State), s.boot.phase = .run) ∧
    (∃ (e : Nat) (high : Bool) (s : State), s.boot.phase = .run) ∧
    (∃ (e : Nat) (s : State), s.boot.phase = .run ∧ s.pilot.steady = false) ∧
    (∃ (e : Nat) (sum : Int) (n : Nat) (s : State), s.boot.phase = .run ∧ s.pilot.steady = true ∧ n ≠ 0) ∧
    (∃ (e : Nat) (sum : Int) (n : Nat) (s : State), (s.pilot.steady = false ∨ s.boot.phase ≠ .run)) :=
  ⟨⟨5, 196079, 100000, 1, 0, 0, 0, 0, W.run 3, by decide +kernel⟩,
    ⟨5, 204081, 100000, 1, 0, 0, 0, 0, { W.run 3 with pilot := { hist := [5] } }, by decide +kernel⟩,
    ⟨5, 200000, 100000, 1073741824, 1073741824, 1, 0, 0, 0, 0,
    { W.run 3 with pilot := { hist := [1073741824, 1073741824, 9] } }, by decide +kernel⟩,
    ⟨5, 196078, 100000, 1, 0, 0, 0, 0, W.run 3, by decide +kernel⟩,
    ⟨5, 204082, 100000, 1, 0, 0, 0, 0, W.run 3, by decide +kernel⟩,
    ⟨5, true, W.run 3, by decide +kernel⟩,
    ⟨5, false, W.run 3, by decide +kernel⟩,
    ⟨5, { W.run 3 with pilot := { duty := 7 } }, by decide +kernel⟩,
    ⟨5, 3000, 16, { (W.run 3).setFld R.CHG_CFG F.CHG_CFG.CPRATIO 30 with pilot := { steady := true } },
    by decide +kernel⟩,
    ⟨5, 3000, 16, W.run 3, by decide +kernel⟩⟩

theorem test_LifetimeTracked_met :
    (∃ (e : Nat) (n : Fin 48) (s : State), s.bit (R.LIFE_I_TJ n) F.LIFE_I_TJ.VALID = true ∧ s.bit (R.LIFE_I_TJ n)
    F.LIFE_I_TJ.SRC = false) ∧
    (∃ (e : Nat) (n : Fin 48) (s : State), s.bit (R.LIFE_I_TJ n) F.LIFE_I_TJ.VALID = true ∧ s.bit (R.LIFE_I_TJ n)
    F.LIFE_I_TJ.SRC = false) ∧
    (∃ (e : Nat) (n : Fin 48) (s : State), s.bit (R.LIFE_I_TJ n) F.LIFE_I_TJ.VALID = true ∧ s.bit (R.LIFE_I_TJ n)
    F.LIFE_I_TJ.SRC = false) ∧
    (∃ (e : Nat) (n : Fin 48) (s : State), s.bit (R.LIFE_I_TJ n) F.LIFE_I_TJ.VALID = true ∧ s.bit (R.LIFE_I_TJ n)
    F.LIFE_I_TJ.SRC = false) ∧
    (∃ (e : Nat) (n : Fin 48) (s : State), s.bit (R.LIFE_I_CFG n) F.LIFE_I_CFG.EN = false ∧ s.bit (R.LIFE_I_TJ n)
    F.LIFE_I_TJ.VALID = true) ∧
    (∃ (e : Nat) (n : Fin 48) (code : BitVec 12) (s : State), linkUp s n = true ∧ s.bit (R.ISL_CFG n) F.ISL_CFG.VDS_EN
    = true) ∧
    (∃ (e : Nat) (n : Fin 48) (code : BitVec 12) (s : State), linkUp s n = true ∧ s.bit (R.ISL_CFG n) F.ISL_CFG.VDS_EN
    = true) ∧
    (∃ (e : Nat) (n : Fin 48) (code vdd vee : BitVec 12) (s : State), linkUp s n = true) ∧
    (∃ (e : Nat) (n : Fin 48) (code vdd vee : BitVec 12) (s : State), linkUp s n = true) ∧
    (∃ (e : Nat) (n : Fin 48) (code vdd vee : BitVec 12) (s : State), linkUp s n = false) ∧
    (∃ (e : Nat) (s : State), s.life.pend = none) ∧
    (∃ (e : Nat) (r : LifeRec) (s : State), s.life.pend = some r ∧ s.trans = none ∧ (s.bit (R.STO_DEV 0)
    F.STO_DEV.FAILED = false ∨ s.bit (R.STO_DEV 1) F.STO_DEV.FAILED = false)) ∧
    (∃ (e : Nat) (r : LifeRec) (s : State), s.life.pend = some r ∧ s.trans = none) ∧
    (∃ (e : Nat) (ok : Bool) (r : LifeRec) (x : Trans) (s : State), s.life.pend = some r ∧ s.trans = some x ∧ x.mir =
    1) :=
  ⟨⟨5, 47, (W.run 2).setBit (R.LIFE_I_TJ 47) F.LIFE_I_TJ.VALID true, by decide +kernel⟩,
    ⟨5, 47, ((W.run 2).setBit (R.LIFE_I_TJ 47) F.LIFE_I_TJ.VALID true).setEst 47 { edgeAt := 900 }, by decide +kernel⟩,
    ⟨5, 47, ((W.run 2).setBit (R.LIFE_I_TJ 47) F.LIFE_I_TJ.VALID true).setBit (R.LIFE_I_CFG 47) F.LIFE_I_CFG.EN true,
    by decide +kernel⟩,
    ⟨200000000, 47, ((W.run 2).setBit (R.LIFE_I_TJ 47) F.LIFE_I_TJ.VALID true).setBit (R.LIFE_I_CFG 47)
    F.LIFE_I_CFG.EN true, by decide +kernel⟩,
    ⟨5, 47, ((W.run 2).setBit (R.LIFE_I_TJ 47) F.LIFE_I_TJ.VALID true).setBit (R.LIFE_I_TJ 47) F.LIFE_I_TJ.SRC true,
    by decide +kernel⟩,
    ⟨5, 47, 4095#12, ((W.run 2).setReg (R.ISL_STAT 47) 1).setBit (R.ISL_CFG 47) F.ISL_CFG.VDS_EN true,
    by decide +kernel⟩,
    ⟨5, 0, 7#12, ((W.run 2).setReg (R.ISL_STAT 0) 1).setBit (R.ISL_CFG 0) F.ISL_CFG.VDS_EN true, by decide +kernel⟩,
    ⟨5, 47, 4080#12, 5#12, 4095#12, ((W.run 2).setReg (R.ISL_STAT 47) 1).setBit (R.ISL_CFG 47) F.ISL_CFG.NTC_EN true,
    by decide +kernel⟩,
    ⟨5, 47, 16#12, 5#12, 4095#12, ((W.run 2).setReg (R.ISL_STAT 47) 1).setBit (R.ISL_CFG 47) F.ISL_CFG.NTC_EN true,
    by decide +kernel⟩,
    ⟨5, 47, 4080#12, 5#12, 4095#12, W.run 2, by decide +kernel⟩,
    ⟨5, W.run 2, by decide +kernel⟩,
    ⟨5, { gen := 19, kind := 1 }, { W.run 2 with life := { pend := some { gen := 19, kind := 1 } } },
    by decide +kernel⟩,
    ⟨5, { gen := 19, kind := 1 }, { W.run 2 with life := { pend := some { gen := 19, kind := 1 } } },
    by decide +kernel⟩,
    ⟨5, true, { gen := 19, kind := 1 }, { mir := 1 },
    { W.run 2 with life := { pend := some { gen := 19, kind := 1 } }, trans := some { mir := 1 } }, by decide +kernel⟩⟩

theorem test_PlacerAnswers_met :
    (∃ (e began : Nat) (ws : List Reg) (x : PErr) (s : State), s.plc.proof = some (ws, began) ∧ (proveNow s ws).1 =
    some x) ∧
    (∃ (e began : Nat) (ws : List Reg) (s : State), s.plc.proof = some (ws, began) ∧ (proveNow s ws).1 = none) ∧
    (∃ (e : Nat) (p : Plant) (s : State), s.plc.storing = true ∧ s.plant = some p) ∧
    (∃ (e : Nat) (s : State), s.boot.phase = .plant ∧ AMap.get? s.plc.slots (s.plc.gen % 2) = none ∧ s.plant = none) ∧
    (∃ (e : Nat) (ws : List Reg) (s : State), s.boot.phase = .plant ∧ AMap.get? s.plc.slots (s.plc.gen % 2) = some ws
    ∧ (proveNow s ws).1 = none) ∧
    (∃ (e : Nat) (f : PFail) (l : List PFail) (s : State), s.plc.fails = f :: l ∧ s.plc.cur = none ∧ f.kind = 7) ∧
    (∃ (e : Nat) (f : PFail) (l : List PFail) (s : State), s.plc.fails = f :: l ∧ s.plc.cur = none ∧ f.kind = 4 ∧
    f.index < 12 ∧ bitN s.plc.down (8 + f.index) = false ∧ adcMode s f.index = 0) ∧
    (∃ (e : Nat) (c : Repl) (s : State), s.plc.cur = some c ∧ c.done = c.graphs) ∧
    (∃ (e : Nat) (c : Repl) (s : State), s.plc.cur = some c ∧ c.done ≠ c.graphs) :=
  ⟨⟨5, 3, [1, 2], { code := 1 }, { W.run 1 with plc := { proof := some ([1, 2], 3) } }, by decide +kernel⟩,
    ⟨5, 3, W.words, { W.run 2 with plc := { proof := some (W.words, 3) } }, by decide +kernel⟩,
    ⟨5, W.plant 0, { W.run 1 with plc := { storing := true }, plant := some (W.plant 0) }, by decide +kernel⟩,
    ⟨5, W.at .plant, by decide +kernel⟩,
    ⟨5, W.words, { W.at .plant with plc := { slots := [(0, W.words)] } }, by decide +kernel⟩,
    ⟨5, { kind := 7, index := 3 }, [], { W.run 2 with plc := { fails := [{ kind := 7, index := 3 }] } },
    by decide +kernel⟩,
    ⟨5, { kind := 4, index := 11 }, [], { W.run 2 with plc := { fails := [{ kind := 4, index := 11 }] } },
    by decide +kernel⟩,
    ⟨5, { fail := { kind := 4, index := 2 }, graphs := 128, done := 128 },
    { (W.run 2).setBit (R.PLC_GRAPH 7) F.PLC_GRAPH.SUSPENDED true with plc := { cur := some { fail := { kind := 4,
                                                                                                        index := 2 },
                                                                                              graphs := 128, done :=
                                                                                              128 } } },
    by decide +kernel⟩,
    ⟨5, { fail := { kind := 4, index := 2 }, graphs := 128 },
    { W.run 2 with plc := { cur := some { fail := { kind := 4, index := 2 }, graphs := 128 } } }, by decide +kernel⟩⟩

theorem test_GloveCheckpoints_met :
    (∃ (e : Nat) (vl : BitVec 13) (work : BitVec 16) (s : State), gloveLive s = true ∧ s.bit R.GLV_STAT
    F.GLV_STAT.HALTED = false ∧ s.glove.ents = [] ∧ s.glove.wait = [] ∧ s.glove.cnt = [] ∧ s.glove.haltPos = none ∧
    s.glove.restart = none ∧ s.glove.fatal = 0 ∧ s.bit R.GLV_DBG_BRK F.GLV_DBG_BRK.EN = false ∧ s.glove.rel + 2 ≤
    s.glove.next ∧ s.glove.cmpFrom ≤ s.dt ∧ s.can.ctl = []) ∧
    (∃ (e : Nat) (vl : BitVec 13) (d : Fin 4 × Fin 3) (work : BitVec 16) (s : State), gloveLive s = true ∧ s.bit
    R.GLV_STAT F.GLV_STAT.HALTED = false ∧ s.glove.ents = [] ∧ s.glove.wait = [] ∧ s.glove.cnt = [] ∧ s.glove.haltPos
    = none ∧ s.glove.restart = none ∧ s.glove.fatal = 0 ∧ s.bit R.GLV_DBG_BRK F.GLV_DBG_BRK.EN = false ∧ s.glove.rel +
    2 ≤ s.glove.next ∧ s.glove.cmpFrom ≤ s.dt ∧ s.can.ctl = [] ∧ s.bit R.GLV_STAT F.GLV_STAT.RUN = false) ∧
    (∃ (e : Nat) (vl : BitVec 13) (d : Fin 4 × Fin 3) (work : BitVec 16) (s : State), gloveLive s = true ∧ s.bit
    R.GLV_STAT F.GLV_STAT.HALTED = false ∧ s.glove.ents = [] ∧ s.glove.wait = [] ∧ s.glove.cnt = [] ∧ s.glove.haltPos
    = none ∧ s.glove.restart = none ∧ s.glove.fatal = 0 ∧ s.bit R.GLV_DBG_BRK F.GLV_DBG_BRK.EN = false ∧ s.glove.rel +
    2 ≤ s.glove.next ∧ s.glove.cmpFrom ≤ s.dt ∧ s.can.ctl = [] ∧ s.bit R.GLV_STAT F.GLV_STAT.RUN = true ∧ s.mode =
    Mode.drive) ∧
    (∃ (e : Nat) (vl : BitVec 13) (diff : Option (Fin 4 × Fin 3)) (work : BitVec 16) (s : State), gloveLive s = true ∧
    s.bit R.GLV_STAT F.GLV_STAT.HALTED = true) ∧
    (∃ (e p why : Nat) (s : State), gloveLive s = true ∧ s.glove.haltPos = some (p, why) ∧ (s.mode ≠ Mode.service ∨
    vlink s < 120)) ∧
    (∃ (e p why : Nat) (s : State), gloveLive s = true ∧ s.glove.haltPos = some (p, why) ∧ s.mode = Mode.service ∧ 120
    ≤ vlink s) ∧
    (∃ (e : Nat) (s : State), gloveLive s = true ∧ s.bit R.GLV_STAT F.GLV_STAT.HALTED = false ∧ s.glove.wdDue = none ∧
    s.mode ≠ Mode.standby) ∧
    (∃ (e : Nat) (core : Fin 2) (fatal : Bool) (s : State), gloveLive s = true) ∧
    (∃ (e : Nat) (core : Fin 2) (fatal : Bool) (s : State), gloveLive s = true) ∧
    (∃ (e : Nat) (src : Fin 16) (s : State), s.glove.on = true ∧ jStopped s = false ∧ s.glove.ents.length < 8192 ∧ 1 ≤
    src.val ∧ src.val ≤ 12) :=
  ⟨⟨5, 700#13, 3#16,
    { (W.run 2).setFld R.GLV_STAT F.GLV_STAT.AGREE 5 with glove := { on := true, next := 9, rel := 7 } },
    by decide +kernel⟩,
    ⟨5, 700#13, (2, 1), 3#16,
    { (W.run 2).setFld R.GLV_STAT F.GLV_STAT.AGREE 5 with glove := { on := true, next := 9, rel := 7 } },
    by decide +kernel⟩,
    ⟨5, 700#13, (2, 1), 3#16,
    (({ (W.run 2).setFld R.GLV_STAT F.GLV_STAT.AGREE 5 with glove := { on := true, next := 9, rel := 7 } }).setBit
    R.GLV_STAT F.GLV_STAT.RUN true), by decide +kernel⟩,
    ⟨5, 700#13, none, 3#16,
    { (W.run 2).setBit R.GLV_STAT F.GLV_STAT.HALTED true with glove := { on := true, next := 9 } }, by decide +kernel⟩,
    ⟨5, 77, 1, { W.run 2 with glove := { on := true, haltPos := some (77, 1) } }, by decide +kernel⟩,
    ⟨5, 77, 1, setVlink 500 { W.run 4 with glove := { on := true, haltPos := some (77, 1) } }, by decide +kernel⟩,
    ⟨5, { W.run 2 with glove := { on := true, agreeAt := 900 } }, by decide +kernel⟩,
    ⟨5, 1, true, { W.run 2 with glove := { on := true } }, by decide +kernel⟩,
    ⟨5, 0, false, { W.run 2 with glove := { on := true } }, by decide +kernel⟩,
    ⟨5, 12, { W.run 2 with glove := { on := true } }, by decide +kernel⟩⟩

theorem test_PairLinkTrains_met :
    (∃ (e : Nat) (l : List Byte) (s : State), (l.length ≠ 32 ∨ crc32c (l.take 28) ≠ leAt l 28 4)) ∧
    (∃ (e n : Nat) (l : List Byte) (s : State), 0 < n) ∧
    (∃ (e : Nat) (l : List Byte) (s : State), l.length = 32 ∧ crc32c (l.take 28) = leAt l 28 4 ∧ s.pair.last = none ∧
    s.fld R.PAIR_STAT F.PAIR_STAT.LINK = 0) ∧
    (∃ (e d : Nat) (l : List Byte) (s : State), l.length = 32 ∧ crc32c (l.take 28) = leAt l 28 4 ∧ s.pair.last = some
    d ∧ d ≤ s.dt ∧ s.dt + e ≤ d + 20000 ∧ s.d0 = true ∧ s.pair.run = 9 ∧ s.fld R.PAIR_STAT F.PAIR_STAT.LINK = 1) ∧
    (∃ (e d : Nat) (s : State), s.fld R.PAIR_STAT F.PAIR_STAT.LINK = 2 ∧ s.pair.last = some d) ∧
    (∃ (e : Nat) (s : State), s.fld R.PAIR_STAT F.PAIR_STAT.LINK = 0) :=
  ⟨⟨5, [1, 2], W.run 2, by decide +kernel⟩,
    ⟨5, 3, [1, 2], W.run 2, by decide +kernel⟩,
    ⟨5, (let b : List Byte := List.replicate 28 0; b ++ leBytes 4 (crc32c b)), W.run 2, by decide +kernel⟩,
    ⟨5, 900, (let b : List Byte := List.replicate 28 0; b ++ leBytes 4 (crc32c b)),
    { (W.run 2).setFld R.PAIR_STAT F.PAIR_STAT.LINK 1 with dt := 900, pair := { last := some 900, run := 9 } },
    by decide +kernel⟩,
    ⟨5, 900, { (W.run 2).setFld R.PAIR_STAT F.PAIR_STAT.LINK 2 with pair := { last := some 900 } }, by decide +kernel⟩,
    ⟨5, W.run 2, by decide +kernel⟩⟩

theorem test_CanOnTheBus_met :
    (∃ (e : Nat) (c : Fin 3) (s : State), (canOf s c).integ = true) ∧
    (∃ (e : Nat) (c : Fin 3) (s : State), (canOf s c).integ = false) ∧
    (∃ (e : Nat) (c : Fin 3) (s : State), s.bit (R.CAN_C_STAT c) F.CAN_C_STAT.RECOVERING = true) ∧
    (∃ (e : Nat) (c : Fin 3) (lec : Fin 7) (by8 : Bool) (s : State), (s.fld (R.CAN_C_STAT c) F.CAN_C_STAT.STATE = 1 ∨
    s.fld (R.CAN_C_STAT c) F.CAN_C_STAT.STATE = 2)) ∧
    (∃ (e : Nat) (c : Fin 3) (lec : Fin 7) (by8 : Bool) (s : State), (s.fld (R.CAN_C_STAT c) F.CAN_C_STAT.STATE = 1 ∨
    s.fld (R.CAN_C_STAT c) F.CAN_C_STAT.STATE = 2)) ∧
    (∃ (e k q : Nat) (f : CanFrame) (c : Fin 3) (s : State), (s.fld (R.CAN_C_STAT c) F.CAN_C_STAT.STATE = 1 ∨ s.fld
    (R.CAN_C_STAT c) F.CAN_C_STAT.STATE = 2) ∧ (canOf s c).fly = none ∧ s.bit (R.CAN_C_CFG c) F.CAN_C_CFG.LISTEN =
    false ∧ s.bit (R.CAN_C_CFG c) F.CAN_C_CFG.RESTRICTED = false ∧ s.bit (R.CAN_C_CFG c) F.CAN_C_CFG.EN = true ∧
    canBest (canCands (canOf s c)) = some (k, q, f)) ∧
    (∃ (e : Nat) (c : Fin 3) (s : State), canBest (canCands (canOf s c)) = none) ∧
    (∃ (e : Nat) (b : CanBox) (c : Fin 3) (lec : Fin 7) (exc : Bool) (s : State), (canOf s c).fly = some 33 ∧ (canOf s
    c).hb = some b) ∧
    (∃ (e : Nat) (b : CanBox) (c : Fin 3) (lec : Fin 7) (s : State), (canOf s c).fly = some 33 ∧ (canOf s c).hb = some
    b ∧ (canOf s c).hbNext = none ∧ (canOf s c).cancel = false ∧ 247 < s.fld (R.CAN_C_STAT c) F.CAN_C_STAT.TEC) ∧
    (∃ (e : Nat) (b : CanBox) (c : Fin 3) (lec : Fin 7) (exc : Bool) (s : State), (canOf s c).fly = some 33 ∧ (canOf s
    c).hb = some b ∧ (canOf s c).hbNext = none ∧ (canOf s c).cancel = false ∧ b.fails < b.retry) ∧
    (∃ (e : Nat) (x : Partner) (p : Fin 64) (s : State), AMap.get? s.can.parts p = some x ∧ x.up = true) ∧
    (∃ (e : Nat) (s : State), s.boot.phase = .run ∧ s.fld R.CAN_HB_CFG F.CAN_HB_CFG.EN ≠ 0) ∧
    (∃ (e : Nat) (x : TunIn) (c : Fin 3) (node : Fin 256) (s : State), ((canOf s c).tin.find? fun x => x.node ==
    node.val) = some x) :=
  ⟨⟨5, 2, setCan 2 { integ := true } ((W.run 2).setFld (R.CAN_C_STAT 2) F.CAN_C_STAT.REC 128), by decide +kernel⟩,
    ⟨5, 2, W.run 2, by decide +kernel⟩,
    ⟨5, 2, (W.run 2).setBit (R.CAN_C_STAT 2) F.CAN_C_STAT.RECOVERING true, by decide +kernel⟩,
    ⟨5, 2, 6, true, ((W.run 2).setFld (R.CAN_C_STAT 2) F.CAN_C_STAT.STATE 1).setFld (R.CAN_C_STAT 2) F.CAN_C_STAT.REC
    120, by decide +kernel⟩,
    ⟨5, 2, 6, false, ((W.run 2).setFld (R.CAN_C_STAT 2) F.CAN_C_STAT.STATE 2).setFld (R.CAN_C_STAT 2) F.CAN_C_STAT.REC
    255, by decide +kernel⟩,
    ⟨5, 3, 0, { id := 5 }, 2, setCan 2 { mb := [(3, { frame := { id := 5 }, status := 1 })] } (((W.run 2).setFld
    (R.CAN_C_STAT 2) F.CAN_C_STAT.STATE 1).setBit (R.CAN_C_CFG 2) F.CAN_C_CFG.EN true), by decide +kernel⟩,
    ⟨5, 2, W.run 2, by decide +kernel⟩,
    ⟨5, { frame := { id := 5 } }, 2, 3, false, setCan 2 { fly := some 33, hb := some { frame := { id := 5 } } }
    ((W.run 2).setFld (R.CAN_C_STAT 2) F.CAN_C_STAT.TEC 9), by decide +kernel⟩,
    ⟨5, { frame := { id := 5 } }, 2, 3, setCan 2 { fly := some 33, hb := some { frame := { id := 5 } } } ((W.run
    2).setFld (R.CAN_C_STAT 2) F.CAN_C_STAT.TEC 248), by decide +kernel⟩,
    ⟨5, { frame := { id := 5 }, fails := 30 }, 2, 3, true, setCan 2
    { fly := some 33, hb := some { frame := { id := 5 }, fails := 30 } } (W.run 2), by decide +kernel⟩,
    ⟨5, { ctl := 1, node := 7, iv := 2, stamp := 900 }, 63,
    { W.run 2 with can := { parts := [(63, { ctl := 1, node := 7, iv := 2, stamp := 900 })] } }, by decide +kernel⟩,
    ⟨5, (W.run 2).setFld R.CAN_HB_CFG F.CAN_HB_CFG.EN 5, by decide +kernel⟩,
    ⟨5, { node := 255, last := 900 }, 2, 255, setCan 2 { tin := [{ node := 255, last := 900 }] } (W.run 2),
    by decide +kernel⟩⟩

theorem test_PortsAndSessionsTimed_met :
    (∃ (e : Nat) (n : Fin 2) (whole : Bool) (s : State), s.boot.phase = .run) ∧
    (∃ (e : Nat) (x : Session) (n : Fin 255) (s : State), AMap.get? s.sessions n = some x ∧ x.auth = true ∧ s.service
    ≠ n) ∧
    (∃ (e : Nat) (n : Fin 255) (s : State), AMap.get? s.sessions n = none) ∧
    (∃ (e : Nat) (x : Lockout) (origin : Fin 6) (node : Fin 256) (s : State), AMap.get? s.lockouts (256 * origin +
    node) = some x ∧ x.until_ ≠ 0) ∧
    (∃ (e : Nat) (c : Capture) (s : State), s.rcd.cur = some c) :=
  ⟨⟨5, 1, true, { W.run 2 with ports := [(512, { replies := [[1], [2]], dropped := true })] }, by decide +kernel⟩,
    ⟨5, { origin := 1, auth := true }, 3, { W.run 2 with sessions := [(3, { origin := 1, auth := true })] },
    by decide +kernel⟩,
    ⟨5, 3, W.run 2, by decide +kernel⟩,
    ⟨5, { until_ := 900 }, 5, 255, { W.run 2 with lockouts := [(1535, { until_ := 900 })] }, by decide +kernel⟩,
    ⟨5, { num := 3, slot := 1, t := 900, post := 80 },
    { W.run 2 with rcd := { cur := some { num := 3, slot := 1, t := 900, post := 80 } } }, by decide +kernel⟩⟩

theorem test_StorageKept_met :
    (∃ (e : Nat) (d : Fin 2) (s : State), devFailed s d = false) ∧
    (∃ (e : Nat) (d : Fin 2) (s : State), devFailed s d = false) ∧
    (∃ (e : Nat) (d : Fin 2) (s : State), devFailed s d = true) ∧
    (∃ (e : Nat) (d : Fin 2) (retries : Fin 4) (fails : Bool) (s : State), devFailed s d = false) ∧
    (∃ (e : Nat) (d : Fin 2) (retries : Fin 4) (fails : Bool) (s : State), devFailed s d = false) ∧
    (∃ (e n : Nat) (s : State), s.sto.laid = true ∧ devFailed s 0 = false ∧ devFailed s 1 = false ∧ s.audit.lostRun =
    0) ∧
    (∃ (e n : Nat) (s : State), s.sto.laid = true ∧ devFailed s 1 = false ∧ s.ev.lostRun = 0) ∧
    (∃ (e n : Nat) (s : State), s.sto.laid = false) :=
  ⟨⟨5, 1, W.run 2, by decide +kernel⟩,
    ⟨5, 1, (W.run 2).setBit (R.STO_DEV 0) F.STO_DEV.FAILED true, by decide +kernel⟩,
    ⟨5, 1, (W.run 2).setBit (R.STO_DEV 1) F.STO_DEV.FAILED true, by decide +kernel⟩,
    ⟨5, 1, 3, true, W.run 2, by decide +kernel⟩,
    ⟨5, 1, 3, false, W.run 2, by decide +kernel⟩,
    ⟨5, 1,
    { W.run 2 with sto := { laid := true }, audit := { buf := [{ num := 5, dt := 7, kind := 1 }, { num := 6, dt := 7,
                                                                                                   kind := 1 }] } },
    by decide +kernel⟩,
    ⟨5, 1,
    { W.run 2 with sto := { laid := true }, ev := { buf := [{ num := 5, stamp := 7, code := 1 }, { num := 6, stamp :=
                                                                                                   7, code := 1 }] }
                   }, by decide +kernel⟩,
    ⟨5, 1, W.run 2, by decide +kernel⟩⟩

theorem test_UpdateProgresses_met :
    (∃ (e : Nat) (bad : Bool) (s : State), updState s = Up.checking) ∧
    (∃ (e : Nat) (why : Fin 3) (s : State), updState s = Up.activating) ∧
    (∃ (e : Nat) (why : Fin 3) (s : State), updState s = Up.activating) ∧
    (∃ (e : Nat) (s : State), updState s = Up.activating ∧ (if s.d0 then s.dt + e else s.dt) < s.upd.at_ + 600000000) ∧
    (∃ (e : Nat) (s : State), updState s = Up.activating ∧ s.upd.at_ + 600000000 ≤ (if s.d0 then s.dt + e else s.dt)) ∧
    (∃ (e : Nat) (s : State), updState s = Up.switched) ∧
    (∃ (e : Nat) (cause : Fin 3) (old : Bool) (s : State), updState s = Up.switched) ∧
    (∃ (e : Nat) (s : State), updState s = Up.committing ∧ s.upd.direct = false) ∧
    (∃ (e : Nat) (s : State), updState s = Up.committing) :=
  ⟨⟨5, true, (W.run 2).setFld R.UPD_STAT F.UPD_STAT.STATE Up.checking, by decide +kernel⟩,
    ⟨5, 1, (W.run 2).setFld R.UPD_STAT F.UPD_STAT.STATE Up.activating, by decide +kernel⟩,
    ⟨5, 2, (W.run 2).setFld R.UPD_STAT F.UPD_STAT.STATE Up.activating, by decide +kernel⟩,
    ⟨5, (W.run 2).setFld R.UPD_STAT F.UPD_STAT.STATE Up.activating, by decide +kernel⟩,
    ⟨600000000, (W.run 2).setFld R.UPD_STAT F.UPD_STAT.STATE Up.activating, by decide +kernel⟩,
    ⟨5, { (W.run 2).setFld R.UPD_STAT F.UPD_STAT.STATE Up.switched with upd := { old := { ver := 3 } } },
    by decide +kernel⟩,
    ⟨5, 2, true, { (W.run 2).setFld R.UPD_STAT F.UPD_STAT.STATE Up.switched with upd := { old := { ver := 3 } } },
    by decide +kernel⟩,
    ⟨5, (W.run 2).setFld R.UPD_STAT F.UPD_STAT.STATE Up.committing, by decide +kernel⟩,
    ⟨5, (W.run 2).setFld R.UPD_STAT F.UPD_STAT.STATE Up.committing, by decide +kernel⟩⟩

theorem test_RegistersReadAndWritten_met :
    (∃ (e : Nat) (r : Req) (b : List Byte) (s : State), Takes r s ∧ b.length ≤ 4164) ∧
    (∃ (e : Nat) (r : Req) (i : BitVec 16) (s : State), Takes r s ∧ i.toNat < 0x200 ∧ i.toNat ≠ R.DEV_DT_LO ∧ i.toNat
    ≠ R.DEV_DT_HI ∧ i.toNat ≠ R.DEV_RTC ∧ i.toNat ≠ R.DEV_ENTRY_BLOCK ∧ i.toNat ≠ R.DEV_FLAG_SUM) ∧
    (∃ (e : Nat) (r : Req) (s : State), Takes r s) ∧
    (∃ (e : Nat) (r : Req) (i : BitVec 16) (s : State), Takes r s ∧ 0x4000 ≤ i.toNat) ∧
    (∃ (e : Nat) (r : Req) (m : Fin 2) (c : BitVec 16) (s : State), Takes r s ∧ 1 ≤ c.toNat ∧ c.toNat ≤ 832) ∧
    (∃ (e : Nat) (r : Req) (i c : BitVec 16) (s : State), Takes r s ∧ (c = 0#16 ∨ 832 < c.toNat)) ∧
    (∃ (e : Nat) (r : Req) (i c : BitVec 16) (s : State), Takes r s ∧ (c = 0#16 ∨ 832 < c.toNat)) ∧
    (∃ (e : Nat) (r : Req) (m : Fin 2) (v : Reg) (s : State), Takes r s) ∧
    (∃ (e : Nat) (r : Req) (m : Fin 2) (v w : Reg) (s : State), Takes r s) ∧
    (∃ (e : Nat) (r : Req) (m : Fin 2) (v w : Reg) (s : State), Takes r s) ∧
    (∃ (e : Nat) (r : Req) (m : Fin 2) (k v : Reg) (s : State), Takes r s) ∧
    (∃ (e : Nat) (r : Req) (v : Reg) (s : State), Takes r s) ∧
    (∃ (e : Nat) (r : Req) (m : Fin 2) (v : Reg) (s : State), Takes r s) ∧
    (∃ (e : Nat) (r : Req) (idx : BitVec 16) (v : Reg) (row : RegRow) (s : State), Takes r s ∧ regRow idx.toNat = some
    row ∧ row.fields.any (fun f => f.cls.writable) = false) ∧
    (∃ (e : Nat) (r : Req) (c : Fin 3) (v : Reg) (s : State), Takes r s ∧ privileged s r = false ∧ s.auditFull =
    false) :=
  ⟨⟨5, W.req, [1, 2, 3], W.run 1, by decide +kernel⟩,
    ⟨5, W.req, 0x0020#16, W.run 1, by decide +kernel⟩,
    ⟨5, W.req, W.run 1, by decide +kernel⟩,
    ⟨5, W.req, 0x4000#16, W.run 1, by decide +kernel⟩,
    ⟨5, W.req, 1, 2#16, W.run 1, by decide +kernel⟩,
    ⟨5, W.req, 7#16, 833#16, W.run 1, by decide +kernel⟩,
    ⟨5, W.req, 7#16, 0#16, W.run 1, by decide +kernel⟩,
    ⟨5, W.req, 1, 77#40, W.run 1, by decide +kernel⟩,
    ⟨5, W.req, 1, 77#40, 1#40, W.run 1, by decide +kernel⟩,
    ⟨5, W.req, 1, 77#40, 78#40, W.run 1, by decide +kernel⟩,
    ⟨5, W.req, 1, 15#40, 77#40, (W.run 1).setReg (R.TRX_M_WREQ 1) 0x30#40, by decide +kernel⟩,
    ⟨5, W.req, 5#40, (W.run 1).setReg R.QUE_FLAGS 0x7#40, by decide +kernel⟩,
    ⟨5, W.req, 0, 77#40, W.run 1, by decide +kernel⟩,
    ⟨5, W.req, 0x0010#16, 77#40, (regRow 16).getD ⟨0, 0, 0, 0, 0, []⟩, W.run 1, by decide +kernel⟩,
    ⟨5, W.req, 2, 77#40, W.run 1, by decide +kernel⟩⟩

theorem test_QueuesAndLogsRead_met :
    (∃ (e : Nat) (r : Req) (q : BitVec 8) (skip c : BitVec 16) (s : State), Takes r s ∧ q.toNat ≤ 31 ∧ 1 ≤ c.toNat ∧
    c.toNat ≤ 512) ∧
    (∃ (e : Nat) (r : Req) (q : BitVec 8) (skip c : BitVec 16) (s : State), Takes r s ∧ (31 < q.toNat ∨ c.toNat = 0 ∨
    512 < c.toNat)) ∧
    (∃ (e : Nat) (r : Req) (q : BitVec 8) (skip c : BitVec 16) (s : State), Takes r s ∧ (31 < q.toNat ∨ c.toNat = 0 ∨
    512 < c.toNat)) ∧
    (∃ (e : Nat) (r : Req) (first : BitVec 40) (c : BitVec 16) (s : State), Takes r s ∧ 1 ≤ c.toNat ∧ c.toNat ≤ 128 ∧
    (first.toNat + 2 ^ 20 < s.fld R.CMD_AUDIT_NEXT F.CMD_AUDIT_NEXT.NEXT ∨ s.fld R.CMD_AUDIT_NEXT
    F.CMD_AUDIT_NEXT.NEXT ≤ first.toNat)) ∧
    (∃ (e : Nat) (r : Req) (first : BitVec 40) (c : BitVec 16) (s : State), Takes r s ∧ 1 ≤ c.toNat ∧ c.toNat ≤ 128 ∧
    s.fld R.CMD_AUDIT_NEXT F.CMD_AUDIT_NEXT.NEXT ≤ first.toNat + 2 ^ 20 ∧ first.toNat < s.fld R.CMD_AUDIT_NEXT
    F.CMD_AUDIT_NEXT.NEXT) ∧
    (∃ (e : Nat) (r : Req) (first : BitVec 40) (c : BitVec 16) (s : State), Takes r s ∧ 1 ≤ c.toNat ∧ c.toNat ≤ 128 ∧
    (first.toNat + 2 ^ 21 < s.fld R.LOG_EVENT_NEXT F.LOG_EVENT_NEXT.NEXT ∨ s.fld R.LOG_EVENT_NEXT
    F.LOG_EVENT_NEXT.NEXT ≤ first.toNat)) ∧
    (∃ (e : Nat) (r : Req) (first : BitVec 40) (c : BitVec 16) (s : State), Takes r s ∧ 1 ≤ c.toNat ∧ c.toNat ≤ 128 ∧
    s.fld R.LOG_EVENT_NEXT F.LOG_EVENT_NEXT.NEXT ≤ first.toNat + 2 ^ 21 ∧ first.toNat < s.fld R.LOG_EVENT_NEXT
    F.LOG_EVENT_NEXT.NEXT) ∧
    (∃ (e : Nat) (r : Req) (first : BitVec 32) (c : BitVec 8) (s : State), Takes r s ∧ 1 ≤ c.toNat ∧ c.toNat ≤ 64 ∧
    s.mode ≠ Mode.standby ∧ captures s = []) ∧
    (∃ (e : Nat) (r : Req) (first : BitVec 32) (c : BitVec 8) (s : State), Takes r s ∧ (c = 0#8 ∨ 64 < c.toNat)) ∧
    (∃ (e : Nat) (r : Req) (num off : BitVec 32) (len : BitVec 16) (s : State), Takes r s ∧ 1 ≤ len.toNat ∧ len.toNat
    ≤ 4096 ∧ s.mode ≠ Mode.standby ∧ ((captures s).any fun c => c.num == num.toNat) = false) ∧
    (∃ (e : Nat) (r : Req) (num off : BitVec 32) (len : BitVec 16) (c : Capture) (s : State), Takes r s ∧ 1 ≤
    len.toNat ∧ len.toNat ≤ 4096 ∧ s.mode ≠ Mode.standby ∧ s.rcd.cur = none ∧ ((captures s).find? fun c => c.num ==
    num.toNat) = some c) :=
  ⟨⟨5, W.req, 31#8, 0#16, 512#16, (W.run 1).setQue 31 { ents := [{ stamp := 5, chan := 3, sample := 7 }] },
    by decide +kernel⟩,
    ⟨5, W.req, 32#8, 0#16, 1#16, W.run 1, by decide +kernel⟩,
    ⟨5, W.req, 0#8, 0#16, 513#16, W.run 1, by decide +kernel⟩,
    ⟨5, W.req, 0#40, 1#16, W.run 1, by decide +kernel⟩,
    ⟨5, W.req, 0#40, 128#16, (W.run 1).setFld R.CMD_AUDIT_NEXT F.CMD_AUDIT_NEXT.NEXT 2, by decide +kernel⟩,
    ⟨5, W.req, 0#40, 1#16, W.run 1, by decide +kernel⟩,
    ⟨5, W.req, 0#40, 128#16, (W.run 1).setFld R.LOG_EVENT_NEXT F.LOG_EVENT_NEXT.NEXT 2, by decide +kernel⟩,
    ⟨5, W.req, 0#32, 64#8, W.run 1, by decide +kernel⟩,
    ⟨5, W.req, 0#32, 65#8, W.run 1, by decide +kernel⟩,
    ⟨5, W.req, 3#32, 0#32, 64#16, W.run 1, by decide +kernel⟩,
    ⟨5, W.req, 3#32, 0#32, 64#16, { num := 3, slot := 1, t := 900, post := 80, st := 1 },
    { W.run 1 with rcd := { slots := [(1, { num := 3, slot := 1, t := 900, post := 80, st := 1 })] } },
    by decide +kernel⟩⟩

theorem test_SessionsAndModesRequested_met :
    (∃ (e : Nat) (r : Req) (s : State), Takes r s ∧ s.key.isSome = true ∧ (AMap.getD s.lockouts (pathKey r) {}).until_
    = 0 ∧ s.sessions = [] ∧ r.session = 0) ∧
    (∃ (e : Nat) (r : Req) (s : State), Takes r s ∧ s.key = none) ∧
    (∃ (e k : Nat) (r : Req) (x : Session) (s : State), Takes { r with session := 0 } s ∧ s.key = some k ∧ AMap.get?
    s.sessions r.session = some x ∧ x.auth = false ∧ x.origin = r.origin ∧ x.node = r.node ∧ r.session ≠ 0 ∧ s.dt + e
    ≤ x.opened + 2000000000) ∧
    (∃ (e : Nat) (r : Req) (s : State), Takes r s ∧ privileged s r = true ∧ s.service ≠ r.session) ∧
    (∃ (e : Nat) (r : Req) (key : List Byte) (s : State), Takes r s ∧ s.key = none ∧ s.mode = Mode.ready ∧ key.length
    = 32) ∧
    (∃ (e : Nat) (r : Req) (key : List Byte) (crc : BitVec 32) (s : State), Takes r s ∧ s.key.isSome = true ∧
    key.length = 32) ∧
    (∃ (e : Nat) (r : Req) (s : State), Takes r s ∧ s.trans = none ∧ s.mode = Mode.drive) ∧
    (∃ (e : Nat) (r : Req) (m : Fin 8) (s : State), Takes r s ∧ s.trans = none ∧ m.val = s.mode ∧ m.val ≠ 5 ∧ m.val <
    6) ∧
    (∃ (e : Nat) (r : Req) (m : Fin 8) (s : State), Takes r s ∧ 5 < m.val) ∧
    (∃ (e : Nat) (r : Req) (s : State), Takes r s ∧ (s.mode ≠ Mode.safe ∨ s.trans.isSome = true) ∧ s.mode ≠
    Mode.standby) ∧
    (∃ (e : Nat) (r : Req) (s : State), Takes r s ∧ s.mode = Mode.safe ∧ s.trans = none) ∧
    (∃ (e : Nat) (r : Req) (v : Reg) (s : State), Takes r s ∧ privileged s r = true ∧ s.auditFull = false) ∧
    (∃ (e : Nat) (r : Req) (v : Reg) (s : State), Takes r s ∧ privileged s r = true ∧ F.DEV_RTC_ALARM.EN.get v = 0 ∧
    s.auditFull = false) ∧
    (∃ (e : Nat) (r : Req) (s : State), Takes r s ∧ privileged s r = true ∧ s.mode = Mode.safe ∧ s.fld
    R.DEV_SAFE_CAUSE ⟨11, 0⟩ = Cause.cmd ∧ s.auditFull = false) ∧
    (∃ (e : Nat) (r : Req) (s : State), Takes r s ∧ s.mode = Mode.ready ∧ s.bit R.PROT_PRE_STAT
    F.PROT_PRE_STAT.RUNNING = false) ∧
    (∃ (e : Nat) (r : Req) (s : State), Takes r s ∧ s.mode ≠ Mode.ready) ∧
    (∃ (e : Nat) (r : Req) (m : Fin 8) (s : State), Takes r s ∧ s.trans = none ∧ s.mode = Mode.ready ∧ (m.val =
    Mode.drive ∨ m.val = Mode.charge) ∧ unmet (s.tick e) m = []) ∧
    (∃ (e : Nat) (r : Req) (m : Fin 8) (s : State), Takes r s ∧ s.trans = none ∧ s.mode = Mode.ready ∧ (m.val =
    Mode.drive ∨ m.val = Mode.charge) ∧ unmet (s.tick e) m = []) ∧
    (∃ (e : Nat) (r : Req) (m : Fin 8) (s : State), Takes r s ∧ s.trans = none ∧ s.mode = Mode.ready ∧ (m.val =
    Mode.drive ∨ m.val = Mode.charge) ∧ unmet (s.tick e) m ≠ []) ∧
    (∃ (e : Nat) (r : Req) (m : Fin 8) (s : State), Takes r s ∧ s.trans = none ∧ s.mode = Mode.ready ∧ (m.val =
    Mode.drive ∨ m.val = Mode.charge) ∧ unmet (s.tick e) m ≠ []) ∧
    (∃ (e : Nat) (r : Req) (s : State), Takes r s ∧ s.trans = none ∧ s.mode = Mode.safe ∧ unmet (s.tick e) 1 = []) ∧
    (∃ (e : Nat) (r : Req) (m : Fin 8) (s : State), Takes r s ∧ s.trans.isSome = true ∧ s.heldMode = none ∧ m.val < 5) ∧
    (∃ (e : Nat) (r : Req) (m : Fin 8) (s : State), s.boot.phase = .run ∧ s.boot.imageBad = false ∧ (1 ≤ r.origin ∧
    r.origin ≤ 5 ∧ r.node < 256) ∧ (s.portOf (pathKey r)).waiting = [] ∧ (s.portOf (pathKey r)).held = false ∧
    heldCount s (pathKey r) < 16 ∧ ((AMap.get? s.lastReq (pathKey r)).all fun l => l.seq != r.seq) = true ∧ (r.session
    = 0 ∨ privileged s r = true) ∧ m.val < 5 ∧ s.glove.on = true ∧ jStopped s = false ∧ s.bit R.GLV_STAT
    F.GLV_STAT.RUN = true ∧ s.fld R.GLV_STAT F.GLV_STAT.AGREE = 0) ∧
    (∃ (e : Nat) (r : Req) (m : Fin 8) (s : State), s.boot.phase = .run ∧ s.boot.imageBad = false ∧ (1 ≤ r.origin ∧
    r.origin ≤ 5 ∧ r.node < 256) ∧ (s.portOf (pathKey r)).waiting = [] ∧ (s.portOf (pathKey r)).held = false ∧
    heldCount s (pathKey r) < 16 ∧ ((AMap.get? s.lastReq (pathKey r)).all fun l => l.seq != r.seq) = true ∧ (r.session
    = 0 ∨ privileged s r = true) ∧ m.val < 5 ∧ s.bit R.GLV_STAT F.GLV_STAT.HALTED = true) :=
  ⟨⟨5, W.req, { W.run 1 with key := some 5 }, by decide +kernel⟩,
    ⟨5, W.req, W.run 1, by decide +kernel⟩,
    ⟨5, 9, W.reqP, { origin := 1, nonce := 4 },
    { W.run 1 with key := some 9, sessions := [(3, { origin := 1, nonce := 4 })] }, by decide +kernel⟩,
    ⟨5, W.reqP, W.priv 1, by decide +kernel⟩,
    ⟨5, W.req, List.replicate 32 5#8, W.run 1, by decide +kernel⟩,
    ⟨5, W.req, List.replicate 32 5#8, 7#32, { W.run 1 with key := some 5 }, by decide +kernel⟩,
    ⟨5, W.req, W.run 2, by decide +kernel⟩,
    ⟨5, W.req, 2, W.run 2, by decide +kernel⟩,
    ⟨5, W.req, 6, W.run 2, by decide +kernel⟩,
    ⟨5, W.req, W.run 2, by decide +kernel⟩,
    ⟨5, W.req, W.run 5, by decide +kernel⟩,
    ⟨5, W.reqP, 0x500#40, W.priv 1, by decide +kernel⟩,
    ⟨5, W.reqP, 0x500#40, W.priv 1, by decide +kernel⟩,
    ⟨5, W.reqP, (W.priv 5).setFld R.DEV_SAFE_CAUSE ⟨11, 0⟩ Cause.cmd, by decide +kernel⟩,
    ⟨5, W.req, W.run 1, by decide +kernel⟩,
    ⟨5, W.req, W.run 2, by decide +kernel⟩,
    ⟨5, W.req, 2,
    { ((((W.run 1).setBit R.ADC_REF_CTRL F.ADC_REF_CTRL.SETTLED true).setBit R.DEV_STO_STAT F.DEV_STO_STAT.STO_A
      true).setBit R.DEV_STO_STAT F.DEV_STO_STAT.STO_B true).setFld R.DCL_STAT F.DCL_STAT.VLINK 8000 with plant :=
                                                                                                          some { ident
                                                                                                                 := 1,
                                                                                                                 convs
                                                                                                                 :=
                                                                                                                 [],
                                                                                                                 units
                                                                                                                 := []
                                                                                                                 } },
    by decide +kernel⟩,
    ⟨5, W.req, 3,
    { ((((W.run 1).setBit R.ADC_REF_CTRL F.ADC_REF_CTRL.SETTLED true).setBit R.DEV_STO_STAT F.DEV_STO_STAT.STO_A
      true).setBit R.DEV_STO_STAT F.DEV_STO_STAT.STO_B true).setFld R.DCL_STAT F.DCL_STAT.VLINK 8000 with plant :=
                                                                                                          some { ident
                                                                                                                 := 1,
                                                                                                                 convs
                                                                                                                 :=
                                                                                                                 [],
                                                                                                                 units
                                                                                                                 := []
                                                                                                                 } },
    by decide +kernel⟩,
    ⟨5, W.req, 2, W.run 1, by decide +kernel⟩,
    ⟨5, W.req, 3, W.run 1, by decide +kernel⟩,
    ⟨5, W.req, W.run 5, by decide +kernel⟩,
    ⟨5, W.req, 2, { W.run 1 with trans := some {} }, by decide +kernel⟩,
    ⟨5, W.req, 2, { (W.run 1).setBit R.GLV_STAT F.GLV_STAT.RUN true with glove := { on := true } }, by decide +kernel⟩,
    ⟨5, W.req, 2, (W.run 4).setBit R.GLV_STAT F.GLV_STAT.HALTED true, by decide +kernel⟩⟩

theorem test_PwmWritten_met :
    (∃ (e : Nat) (r : Req) (k : Fin 33) (v : Reg) (s : State), Takes r s ∧ tbOwned s (tbOfUnit s k) = false) ∧
    (∃ (e : Nat) (r : Req) (k : Fin 33) (v : Reg) (s : State), Takes r s ∧ tbOwned s (tbOfUnit s k) = false) ∧
    (∃ (e : Nat) (r : Req) (k : Fin 33) (v : Reg) (s : State), Takes r s ∧ tbOwned s (tbOfUnit s k) = true) ∧
    (∃ (e : Nat) (r : Req) (j : Fin 6) (v : Reg) (s : State), Takes r s ∧ tbOwned s j = false ∧ 500 ≤
    F.PWM_TB_PERIOD.SHADOW.get v ∧ F.PWM_TB_PERIOD.SHADOW.get v ≤ 200000 ∧ F.PWM_TB_PERIOD.SHADOW.get v % 2 = 0 ∧
    s.fld (R.PWM_TB_CFG j) F.PWM_TB_CFG.SRC ≠ 1) ∧
    (∃ (e : Nat) (r : Req) (j : Fin 6) (v : Reg) (s : State), Takes r s ∧ tbOwned s j = false ∧ 500 ≤
    F.PWM_TB_PERIOD.SHADOW.get v ∧ F.PWM_TB_PERIOD.SHADOW.get v ≤ 200000 ∧ F.PWM_TB_PERIOD.SHADOW.get v % 2 = 0 ∧
    s.fld (R.PWM_TB_CFG j) F.PWM_TB_CFG.SRC ≠ 1) ∧
    (∃ (e : Nat) (r : Req) (tbs : BitVec 6) (j : Fin 6) (s : State), Takes r s ∧ (∀ i : Fin 6, bitN tbs.toNat i = true
    → tbOwned s i = false) ∧ bitN tbs.toNat j = true) ∧
    (∃ (e : Nat) (r : Req) (mask : BitVec 33) (s : State), Takes r s) ∧
    (∃ (e : Nat) (r : Req) (k : Fin 33) (c : Nat) (s : State), Takes r s ∧ convOfUnit s k = some c ∧ k.val ∈ unitsOf s
    c ∧ unitLatched s k = true) ∧
    (∃ (e : Nat) (r : Req) (v : Reg) (s : State), Takes r s ∧ privileged s r = true ∧ s.mode ≠ Mode.service) ∧
    (∃ (e : Nat) (r : Req) (v : Reg) (s : State), Takes r s ∧ privileged s r = true ∧ s.mode = Mode.service ∧
    F.PWM_FORCE.UNIT.get v ≤ 32 ∧ F.PWM_FORCE.EN.get v = 0 ∧ s.bit R.PWM_FORCE F.PWM_FORCE.EN = false ∧ s.auditFull =
    false) ∧
    (∃ (e : Nat) (r : Req) (n : Fin 48) (p : Fin 8) (v : Reg) (s : State), Takes r s ∧ privileged s r = true ∧
    usedMode s (islUsed s n) = false ∧ s.fld (R.ISL_CFG n) F.ISL_CFG.MAX_STR = 15 ∧ s.auditFull = false) :=
  ⟨⟨5, W.req, 32, 77#40, W.run 2, by decide +kernel⟩,
    ⟨5, W.req, 0, 5#40, (W.run 2).setTb 0 { openSet := List.replicate 64 ⟨1, 1, 7⟩ }, by decide +kernel⟩,
    ⟨5, W.req, 32, 77#40, (W.run 2).setBit (R.PWM_TB_STAT 0) F.PWM_TB_STAT.OWNED true, by decide +kernel⟩,
    ⟨5, W.req, 5, 500#40, W.run 2, by decide +kernel⟩,
    ⟨5, W.req, 0, 200000#40, W.run 2, by decide +kernel⟩,
    ⟨5, W.req, 33#6, 5, (W.run 2).setTb 5 { openSet := [⟨1, 1, 7⟩] }, by decide +kernel⟩,
    ⟨5, W.req, 5#33, W.run 2, by decide +kernel⟩,
    ⟨5, W.req, 0, 0, (W.conv 2 0).setFld R.PWM_LATCH F.PWM_LATCH.UNIT 1, by decide +kernel⟩,
    ⟨5, W.reqP, 5#40, W.priv 2, by decide +kernel⟩,
    ⟨5, W.reqP, 0x60#40, W.priv 4, by decide +kernel⟩,
    ⟨5, W.reqP, 47, 7, 0x123456789#40, (W.priv 1).setFld (R.ISL_CFG 47) F.ISL_CFG.MAX_STR 15, by decide +kernel⟩⟩

theorem test_MeasurementAndEngineWritten_met :
    (∃ (e : Nat) (r : Req) (q : Fin 32) (n : BitVec 14) (s : State), Takes r s ∧ queCons s q = 1 ∧ n.toNat ≤ (s.queOf
    q).ents.length) ∧
    (∃ (e : Nat) (r : Req) (q : Fin 32) (n : BitVec 14) (s : State), Takes r s ∧ (queCons s q ≠ 1 ∨ (s.queOf
    q).ents.length < n.toNat)) ∧
    (∃ (e : Nat) (r : Req) (c : Fin 64) (v : Reg) (s : State), Takes r s ∧ privileged s r = true ∧ 0x4000 ≤
    F.ADC_AIN_CAL.GAIN.get v ∧ s.auditFull = false) ∧
    (∃ (e : Nat) (r : Req) (c : Fin 64) (v : Reg) (s : State), Takes r s ∧ privileged s r = true ∧
    F.ADC_AIN_CAL.GAIN.get v < 0x4000) ∧
    (∃ (e : Nat) (r : Req) (s : State), Takes r s ∧ gwinBad s = false) ∧
    (∃ (e : Nat) (r : Req) (s : State), Takes r s ∧ gwinBad s = true) ∧
    (∃ (e : Nat) (r : Req) (v : Reg) (s : State), Takes r s ∧ privileged s r = true ∧ gwinWriteBad s = true) ∧
    (∃ (e : Nat) (r : Req) (v : Reg) (s : State), Takes r s ∧ privileged s r = true ∧ gwinWriteBad s = false) ∧
    (∃ (e : Nat) (r : Req) (s : State), Takes r s ∧ privileged s r = true ∧ s.eng.stage = [] ∧ s.auditFull = false) ∧
    (∃ (e : Nat) (r : Req) (s : State), Takes r s ∧ privileged s r = true ∧ s.eng.stage ≠ [] ∧ stageFail (gWords s
    s.eng.stageG) (s.eng.stage.map (·.2)) = none ∧ s.audit.buf.length + s.eng.stage.length + 1 < 16384) ∧
    (∃ (e : Nat) (r : Req) (s : State), Takes r s ∧ privileged s r = true ∧ s.auditFull = false) ∧
    (∃ (e : Nat) (r : Req) (g : Fin 8) (s : State), Takes r s) ∧
    (∃ (e : Nat) (r : Req) (g : Fin 8) (s : State), Takes r s) ∧
    (∃ (e : Nat) (r : Req) (g : Fin 8) (mask : BitVec 4) (s : State), Takes r s) ∧
    (∃ (e : Nat) (r : Req) (s : State), Takes r s) ∧
    (∃ (e : Nat) (r : Req) (k : Fin 5) (s : State), Takes r s) :=
  ⟨⟨5, W.req, 31, 1#14, ((W.run 2).setFld (R.QUE_Q_CFG 31) F.QUE_Q_CFG.CONS 1).setQue 31
    { ents := [{ stamp := 5, chan := 3, sample := 7 }] }, by decide +kernel⟩,
    ⟨5, W.req, 31, 1#14, (W.run 2).setFld (R.QUE_Q_CFG 31) F.QUE_Q_CFG.CONS 1, by decide +kernel⟩,
    ⟨5, W.reqP, 63, 0x400000007#40, W.priv 2, by decide +kernel⟩,
    ⟨5, W.reqP, 63, 0x3FFF00007#40, W.priv 2, by decide +kernel⟩,
    ⟨5, W.req, W.graph 2, by decide +kernel⟩,
    ⟨5, W.req, W.run 2, by decide +kernel⟩,
    ⟨5, W.reqP, 7#40, W.priv 2, by decide +kernel⟩,
    ⟨5, W.reqP, 7#40, W.graph 2, by decide +kernel⟩,
    ⟨5, W.reqP, W.priv 2, by decide +kernel⟩,
    ⟨5, W.reqP, { W.priv 2 with eng := { stage := [(0, 11, 1)] } }, by decide +kernel⟩,
    ⟨5, W.reqP, { W.priv 2 with eng := { stage := [(3, 3, 7)] } }, by decide +kernel⟩,
    ⟨5, W.req, 7, (W.run 2).setReg (R.ENG_G_COUNT 7) 0x500000003#40, by decide +kernel⟩,
    ⟨5, W.req, 7, (W.run 2).setReg (R.ENG_G_TIME 7) 0x500000003#40, by decide +kernel⟩,
    ⟨5, W.req, 7, 5#4, (W.run 2).setReg (R.ENG_G_FLAGS 7) 0x3F#40, by decide +kernel⟩,
    ⟨5, W.req, (W.run 2).setReg R.FAB_XFIFO_OVF 7, by decide +kernel⟩,
    ⟨5, W.req, 4, (W.run 2).setReg (R.FAB_BLOCK_MAX 4) 7, by decide +kernel⟩⟩

theorem test_PlacerAndDebugWritten_met :
    (∃ (e : Nat) (r : Req) (v : Reg) (s : State), Takes r s ∧ privileged s r = true ∧ s.plc.proof = none ∧ s.fld
    R.PLC_PWIN_ADDR F.PLC_PWIN_ADDR.WORD < 104448 ∧ s.auditFull = false) ∧
    (∃ (e : Nat) (r : Req) (v : Reg) (s : State), Takes r s ∧ privileged s r = true ∧ s.plc.proof.isSome = true ∧
    s.fld R.PLC_PWIN_ADDR F.PLC_PWIN_ADDR.WORD < 104448) ∧
    (∃ (e : Nat) (r : Req) (s : State), Takes r s ∧ s.fld R.PLC_PWIN_ADDR F.PLC_PWIN_ADDR.WORD < 104448) ∧
    (∃ (e : Nat) (r : Req) (s : State), Takes r s ∧ 104448 ≤ s.fld R.PLC_PWIN_ADDR F.PLC_PWIN_ADDR.WORD) ∧
    (∃ (e : Nat) (r : Req) (s : State), Takes r s) ∧
    (∃ (e : Nat) (r : Req) (s : State), Takes r s ∧ privileged s r = true ∧ (s.mode = Mode.ready ∨ s.mode =
    Mode.service) ∧ s.plc.proof = none ∧ updBusy s = false ∧ s.auditFull = false) ∧
    (∃ (e : Nat) (r : Req) (s : State), Takes r s ∧ privileged s r = true ∧ (s.mode = Mode.ready ∨ s.mode =
    Mode.service) ∧ s.plc.proof = none ∧ updBusy s = false ∧ s.auditFull = false) ∧
    (∃ (e : Nat) (r : Req) (s : State), Takes r s ∧ privileged s r = true ∧ s.mode ≠ Mode.ready ∧ s.mode ≠
    Mode.service) ∧
    (∃ (e : Nat) (r : Req) (s : State), Takes r s ∧ privileged s r = true ∧ s.mode = Mode.service ∧ vlink s < 120 ∧
    s.bit R.GLV_STAT F.GLV_STAT.RUN = false ∧ s.glove.on = true ∧ s.glove.haltPos = none ∧ s.auditFull = false) ∧
    (∃ (e : Nat) (r : Req) (s : State), Takes r s ∧ privileged s r = true ∧ (s.mode ≠ Mode.service ∨ 120 ≤ vlink s)) ∧
    (∃ (e : Nat) (r : Req) (s : State), Takes r s ∧ privileged s r = true ∧ (s.mode ≠ Mode.service ∨ 120 ≤ vlink s)) ∧
    (∃ (e : Nat) (r : Req) (diff : Option (Fin 4 × Fin 3)) (s : State), Takes r s ∧ privileged s r = true ∧ s.mode =
    Mode.service ∧ vlink s < 120 ∧ s.bit R.GLV_STAT F.GLV_STAT.RUN = false ∧ s.auditFull = false) ∧
    (∃ (e : Nat) (r : Req) (d : Fin 4 × Fin 3) (x : JEnt) (s : State), s.boot.phase = .run ∧ s.boot.imageBad = false ∧
    (1 ≤ r.origin ∧ r.origin ≤ 2 ∧ r.node = 0) ∧ s.portOf (pathKey r) = {} ∧ AMap.get? s.lastReq (pathKey r) = none ∧
    privileged s r = true ∧ s.mode = Mode.service ∧ vlink s < 120 ∧ s.bit R.GLV_STAT F.GLV_STAT.RUN = false ∧ s.bit
    R.GLV_STAT F.GLV_STAT.HALTED = true ∧ (s.glove.ents.find? fun y => y.seq == s.fld R.GLV_DBG_STAT
    F.GLV_DBG_STAT.POS) = some x ∧ s.auditFull = false) ∧
    (∃ (e : Nat) (r : Req) (s : State), Takes r s ∧ privileged s r = true ∧ s.auditFull = false) ∧
    (∃ (e : Nat) (r : Req) (v : Reg) (s : State), Takes r s ∧ privileged s r = true ∧ F.GLV_DBG_BRK.EN.get v = 0 ∧
    s.auditFull = false) ∧
    (∃ (e : Nat) (r : Req) (v : Reg) (s : State), Takes r s ∧ privileged s r = true ∧ F.GLV_DBG_BRK.EN.get v = 1 ∧
    s.mode ≠ Mode.service) ∧
    (∃ (e : Nat) (r : Req) (s : State), Takes r s ∧ privileged s r = false) ∧
    (∃ (e : Nat) (r : Req) (s : State), Takes r s ∧ privileged s r = true) ∧
    (∃ (e : Nat) (r : Req) (s : State), s.boot.phase = .run ∧ s.boot.imageBad = false ∧ (1 ≤ r.origin ∧ r.origin ≤ 2 ∧
    r.node = 0) ∧ s.portOf (pathKey r) = {} ∧ AMap.get? s.lastReq (pathKey r) = none ∧ privileged s r = true ∧ s.bit
    R.GLV_STAT F.GLV_STAT.HALTED = true ∧ s.fld R.GLV_DWIN_ADDR F.GLV_DWIN_ADDR.WORD < 393216) :=
  ⟨⟨5, W.reqP, 7#40, (W.priv 1).setReg R.PLC_PWIN_ADDR 104447, by decide +kernel⟩,
    ⟨5, W.reqP, 7#40, { W.priv 1 with plc := { proof := some ([], 3) } }, by decide +kernel⟩,
    ⟨5, W.req, { W.run 1 with plc := { win := [(0, 9)] } }, by decide +kernel⟩,
    ⟨5, W.req, (W.run 1).setReg R.PLC_PWIN_ADDR 104448, by decide +kernel⟩,
    ⟨5, W.req, (W.run 1).setReg R.PLC_PWIN_ADDR 9, by decide +kernel⟩,
    ⟨5, W.reqP, W.priv 1, by decide +kernel⟩,
    ⟨5, W.reqP, W.priv 4, by decide +kernel⟩,
    ⟨5, W.reqP, W.priv 2, by decide +kernel⟩,
    ⟨5, W.reqP, { W.priv 4 with glove := { on := true } }, by decide +kernel⟩,
    ⟨5, W.reqP, W.priv 2, by decide +kernel⟩,
    ⟨5, W.reqP, (W.priv 4).setFld R.DCL_STAT F.DCL_STAT.VLINK 120, by decide +kernel⟩,
    ⟨5, W.reqP, some (2, 1), W.priv 4, by decide +kernel⟩,
    ⟨5, W.reqP, (2, 1), { seq := 0, stamp := 4, iv := 1, src := 1, defer := false },
    { (W.priv 4).setBit R.GLV_STAT F.GLV_STAT.HALTED true with glove := { on := true, ents := [{ seq := 0, stamp := 4,
                                                                                                 iv := 1, src := 1,
                                                                                                 defer := false }] }
                                                               }, by decide +kernel⟩,
    ⟨5, W.reqP, { (W.priv 4).setBit R.GLV_STAT F.GLV_STAT.HALT_PEND true with glove := { haltPos := some (3, 1) } },
    by decide +kernel⟩,
    ⟨5, W.reqP, 7#40, W.priv 2, by decide +kernel⟩,
    ⟨5, W.reqP, 0x100000007#40, W.priv 2, by decide +kernel⟩,
    ⟨5, W.req, W.run 4, by decide +kernel⟩,
    ⟨5, W.reqP, W.priv 4, by decide +kernel⟩,
    ⟨5, W.reqP, (W.priv 4).setBit R.GLV_STAT F.GLV_STAT.HALTED true, by decide +kernel⟩⟩

theorem test_TractionAndLinkWritten_met :
    (∃ (e : Nat) (r : Req) (m : Fin 2) (c : Nat) (s : State), Takes r s ∧ machConv s m = some c ∧ s.mode ≠ Mode.safe ∧
    mapOk s m = true ∧ obsBound s m = true ∧ s.bit (R.TRX_M_KE_STAT m) F.TRX_M_KE_STAT.DEMAG = false ∧ enableRefused s
    c = false ∧ s.trans = none ∧ tState s m ≠ Ts.rampDown ∧ s.bit (R.TRX_M_CTRL m) F.TRX_M_CTRL.EN = false ∧ bitN
    (s.fld R.PROT_STAT F.PROT_STAT.CONV_SAFE) c = false) ∧
    (∃ (e : Nat) (r : Req) (m : Fin 2) (s : State), Takes r s ∧ machConv s m = none) ∧
    (∃ (e : Nat) (r : Req) (m : Fin 2) (s : State), Takes r s ∧ s.bit (R.TRX_M_CTRL m) F.TRX_M_CTRL.LIMP = false ∧
    (s.trxOf m).limpAuto = false) ∧
    (∃ (e : Nat) (r : Req) (m : Fin 2) (dir : Bool) (s : State), Takes r s ∧ dir ≠ s.bit (R.TRX_M_CTRL m)
    F.TRX_M_CTRL.DIR ∧ dirMay s m = false) ∧
    (∃ (e : Nat) (r : Req) (m : Fin 2) (dir : Bool) (s : State), Takes r s ∧ dirMay s m = true ∧ s.bit (R.TRX_M_CTRL
    m) F.TRX_M_CTRL.EN = false ∧ s.bit (R.TRX_M_CTRL m) F.TRX_M_CTRL.LIMP = false ∧ (s.trxOf m).limpAuto = false) ∧
    (∃ (e : Nat) (r : Req) (m : Fin 2) (v : Reg) (s : State), Takes r s ∧ s.bit (R.TRX_M_CTRL m) F.TRX_M_CTRL.LIMP =
    false) ∧
    (∃ (e : Nat) (r : Req) (m : Fin 2) (s : State), Takes r s ∧ s.bit (R.TRX_M_CTRL m) F.TRX_M_CTRL.EN = false ∧ s.bit
    (R.TRX_M_STAT m) F.TRX_M_STAT.LIMP_ACT = false) ∧
    (∃ (e : Nat) (r : Req) (m : Fin 2) (s : State), Takes r s ∧ privileged s r = true ∧ s.mode = Mode.service ∧
    s.auditFull = false) ∧
    (∃ (e : Nat) (r : Req) (m : Fin 2) (s : State), Takes r s ∧ privileged s r = true ∧ s.mode ≠ Mode.service) ∧
    (∃ (e : Nat) (r : Req) (v : Reg) (s : State), Takes r s ∧ privileged s r = true ∧ s.bit (R.TRX_M_CTRL (mapAt s).1)
    F.TRX_M_CTRL.EN = false ∧ mapBusy s = false ∧ s.auditFull = false) ∧
    (∃ (e : Nat) (r : Req) (v : Reg) (s : State), Takes r s ∧ privileged s r = true ∧ s.bit (R.TRX_M_CTRL (mapAt s).1)
    F.TRX_M_CTRL.EN = true) ∧
    (∃ (e : Nat) (r : Req) (s : State), Takes r s) ∧
    (∃ (e : Nat) (r : Req) (s : State), Takes r s ∧ privileged s r = true ∧ mapBusy s = false ∧ s.auditFull = false) ∧
    (∃ (e : Nat) (r : Req) (s : State), Takes r s ∧ privileged s r = true ∧ mapBusy s = true) ∧
    (∃ (e : Nat) (r : Req) (s : State), Takes r s ∧ s.mode = Mode.ready) ∧
    (∃ (e : Nat) (r : Req) (s : State), Takes r s ∧ s.mode ≠ Mode.ready) ∧
    (∃ (e : Nat) (r : Req) (mode : BitVec 2) (s : State), Takes r s ∧ mode ≠ 3#2 ∧ s.mode ≠ Mode.safe ∧ dcdcHeld s =
    false ∧ (convsKind s 1).all (fun c => !enableRefused s c) = true  ∧ s.trans = none) ∧
    (∃ (e : Nat) (r : Req) (s : State), Takes r s ∧ s.mode ≠ Mode.safe ∧ dcdcHeld s = false ∧ (convsKind s 1).all (fun
    c => !enableRefused s c) = true) ∧
    (∃ (e : Nat) (r : Req) (mode : BitVec 2) (s : State), Takes r s ∧ mode ≠ 0#2 ∧ s.mode = Mode.safe) :=
  ⟨⟨5, W.req, 0, 0, (W.graph 2).setBit R.TRX_MAP_STAT F.TRX_MAP_STAT.VALID0 true, by decide +kernel⟩,
    ⟨5, W.req, 1, W.run 2, by decide +kernel⟩,
    ⟨5, W.req, 1, (W.run 2).setBit (R.TRX_M_CTRL 1) F.TRX_M_CTRL.EN true, by decide +kernel⟩,
    ⟨5, W.req, 1, true, (W.run 2).setBit (R.TRX_M_STAT 1) F.TRX_M_STAT.GATE true, by decide +kernel⟩,
    ⟨5, W.req, 1, true, W.run 2, by decide +kernel⟩,
    ⟨5, W.req, 1, 7#40, (W.run 2).setBit (R.TRX_M_STAT 1) F.TRX_M_STAT.TREQ_LOST true, by decide +kernel⟩,
    ⟨5, W.req, 1, W.run 2, by decide +kernel⟩,
    ⟨5, W.reqP, 1, (W.priv 4).setBit (R.TRX_M_KE_STAT 1) F.TRX_M_KE_STAT.DEMAG true, by decide +kernel⟩,
    ⟨5, W.reqP, 1, W.priv 2, by decide +kernel⟩,
    ⟨5, W.reqP, 7#40, W.priv 1, by decide +kernel⟩,
    ⟨5, W.reqP, 7#40, (W.priv 1).setBit (R.TRX_M_CTRL 0) F.TRX_M_CTRL.EN true, by decide +kernel⟩,
    ⟨5, W.req, { W.run 1 with trx := { map := [(0, 9)] } }, by decide +kernel⟩,
    ⟨5, W.reqP, W.priv 1, by decide +kernel⟩,
    ⟨5, W.reqP, (W.priv 1).setBit R.TRX_MAP_STAT F.TRX_MAP_STAT.BUSY true, by decide +kernel⟩,
    ⟨5, W.req, (W.run 1).setBit R.DCL_CHOP_STAT F.DCL_CHOP_STAT.DEGRADED true, by decide +kernel⟩,
    ⟨5, W.req, W.run 2, by decide +kernel⟩,
    ⟨5, W.req, 2#2, W.run 2, by decide +kernel⟩,
    ⟨5, W.req, W.run 2, by decide +kernel⟩,
    ⟨5, W.req, 1#2, W.run 5, by decide +kernel⟩⟩

theorem test_ChargeActuatorLifeWritten_met :
    (∃ (e : Nat) (r : Req) (s : State), Takes r s ∧ s.mode = Mode.charge ∧ (session s = Ch.none ∨ session s =
    Ch.ended) ∧ s.trans = none ∧ chgRefused s = false) ∧
    (∃ (e : Nat) (r : Req) (s : State), Takes r s ∧ s.mode = Mode.charge ∧ (session s = Ch.none ∨ session s =
    Ch.ended) ∧ s.trans = none ∧ chgRefused s = false) ∧
    (∃ (e : Nat) (r : Req) (s : State), Takes r s ∧ (s.mode ≠ Mode.charge ∨ session s = Ch.locked)) ∧
    (∃ (e : Nat) (r : Req) (s : State), Takes r s ∧ (s.mode ≠ Mode.charge ∨ session s = Ch.locked)) ∧
    (∃ (e : Nat) (r : Req) (s : State), Takes r s ∧ s.mode = Mode.charge ∧ (session s = Ch.wait ∨ session s =
    Ch.suspend)) ∧
    (∃ (e : Nat) (r : Req) (s : State), Takes r s ∧ s.mode ≠ Mode.charge) ∧
    (∃ (e : Nat) (r : Req) (s : State), Takes r s ∧ privileged s r = true ∧ session s = Ch.locked ∧ s.auditFull =
    false) ∧
    (∃ (e : Nat) (r : Req) (s : State), Takes r s ∧ privileged s r = true ∧ session s ≠ Ch.locked ∧ s.auditFull =
    false) ∧
    (∃ (e : Nat) (r : Req) (s : State), Takes r s ∧ privileged s r = false ∧ s.auditFull = false) ∧
    (∃ (e : Nat) (r : Req) (x : BitVec 16) (s : State), Takes r s ∧ s.fld R.CHG_CFG F.CHG_CFG.TSRC = 0) ∧
    (∃ (e : Nat) (r : Req) (x : BitVec 16) (s : State), Takes r s ∧ s.fld R.CHG_CFG F.CHG_CFG.TSRC = 1) ∧
    (∃ (e : Nat) (r : Req) (a : Fin 3) (s : State), Takes r s ∧ s.mode ≠ Mode.safe ∧ (actPos s a).isSome = true ∧
    s.bit (R.ACT_A_CTRL a) F.ACT_A_CTRL.BRAKE = false ∧ (actConv s a).all (fun c => !enableRefused s c) = true ∧
    s.trans = none) ∧
    (∃ (e : Nat) (r : Req) (a : Fin 3) (s : State), Takes r s ∧ (s.mode = Mode.safe ∨ (actPos s a).isNone = true)) ∧
    (∃ (e : Nat) (r : Req) (a : Fin 3) (s : State), Takes r s ∧ s.bit (R.ACT_A_CTRL a) F.ACT_A_CTRL.EN = true ∧ aState
    s a ≠ As.off) ∧
    (∃ (e : Nat) (r : Req) (a : Fin 3) (s : State), Takes r s ∧ aState s a = As.off) ∧
    (∃ (e : Nat) (r : Req) (a : Fin 3) (v : Reg) (s : State), Takes r s ∧ F.ACT_A_TGT.TARGET.get v ≤ 4096 ∧ 1 ≤
    F.ACT_A_TGT.PWIN.get v ∧ 1 ≤ F.ACT_A_TGT.ILIM.get v ∧ F.ACT_A_TGT.ILIM.get v ≤ 2 * s.fld (R.ACT_A_CFG a)
    F.ACT_A_CFG.IBASE ∧ (a = 2 → parkRefuses s v = false) ∧ v &&& 0xFFFFFFF#40 = v) ∧
    (∃ (e : Nat) (r : Req) (a : Fin 3) (v : Reg) (s : State), Takes r s ∧ F.ACT_A_TGT.TARGET.get v ≤ 4096 ∧ 1 ≤
    F.ACT_A_TGT.PWIN.get v ∧ 1 ≤ F.ACT_A_TGT.ILIM.get v ∧ F.ACT_A_TGT.ILIM.get v ≤ 2 * s.fld (R.ACT_A_CFG a)
    F.ACT_A_CFG.IBASE ∧ (a = 2 → parkRefuses s v = false) ∧ v &&& 0xFFFFFFF#40 = v) ∧
    (∃ (e : Nat) (r : Req) (v : Reg) (s : State), Takes r s ∧ parkRefuses s v = true ∧ v &&& 0xFFFFFFF#40 = v) ∧
    (∃ (e : Nat) (r : Req) (a : Fin 3) (v : Reg) (s : State), Takes r s ∧ (4096 < F.ACT_A_TGT.TARGET.get v ∨
    F.ACT_A_TGT.PWIN.get v = 0 ∨ F.ACT_A_TGT.ILIM.get v = 0) ∧ a ≠ 2) ∧
    (∃ (e : Nat) (r : Req) (a : Fin 3) (v : Reg) (s : State), Takes r s ∧ (4096 < F.ACT_A_TGT.TARGET.get v ∨
    F.ACT_A_TGT.PWIN.get v = 0 ∨ F.ACT_A_TGT.ILIM.get v = 0) ∧ a ≠ 2) ∧
    (∃ (e : Nat) (r : Req) (a : Fin 3) (s : State), Takes r s ∧ s.bit (R.ACT_A_CTRL a) F.ACT_A_CTRL.EN = false ∧ s.bit
    (R.ACT_A_CTRL a) F.ACT_A_CTRL.BRAKE = false ∧ aState s a ≠ As.fault ∧ aState s a ≠ As.failed ∧ (s.actOf a).toFault
    = false) ∧
    (∃ (e : Nat) (r : Req) (a : Fin 3) (s : State), Takes r s ∧ s.bit (R.ACT_A_CTRL a) F.ACT_A_CTRL.EN = false) ∧
    (∃ (e : Nat) (r : Req) (s : State), Takes r s ∧ mirrorBusy s = false) ∧
    (∃ (e : Nat) (r : Req) (s : State), Takes r s ∧ mirrorBusy s = true) ∧
    (∃ (e : Nat) (r : Req) (n : Fin 48) (s : State), Takes r s ∧ privileged s r = true ∧ s.mode = Mode.service ∧
    mirrorBusy s = false ∧ s.auditFull = false) ∧
    (∃ (e : Nat) (r : Req) (n : Fin 48) (s : State), Takes r s ∧ privileged s r = true ∧ s.mode ≠ Mode.service ∧
    s.auditFull = false) ∧
    (∃ (e : Nat) (r : Req) (n : Fin 48) (s : State), Takes r s ∧ s.mode = Mode.service) ∧
    (∃ (e : Nat) (r : Req) (n : Fin 48) (s : State), Takes r s ∧ s.mode ≠ Mode.service) ∧
    (∃ (e : Nat) (r : Req) (s : State), Takes r s ∧ twinBad s = false) ∧
    (∃ (e : Nat) (r : Req) (s : State), Takes r s ∧ twinBad s = true) ∧
    (∃ (e : Nat) (r : Req) (v : Reg) (s : State), Takes r s ∧ privileged s r = true ∧ s.fld R.LIFE_TWIN_ADDR
    F.LIFE_TWIN_ADDR.AREA = 1 ∧ s.fld R.LIFE_TWIN_ADDR F.LIFE_TWIN_ADDR.ISL < 4 ∧ s.fld R.LIFE_TWIN_ADDR
    F.LIFE_TWIN_ADDR.WORD < 32 ∧ (s.mode = Mode.ready ∨ s.mode = Mode.service) ∧ s.auditFull = false) ∧
    (∃ (e : Nat) (r : Req) (v : Reg) (s : State), Takes r s ∧ privileged s r = true ∧ s.fld R.LIFE_TWIN_ADDR
    F.LIFE_TWIN_ADDR.AREA = 0 ∧ s.mode ≠ Mode.service ∧ s.auditFull = false) :=
  ⟨⟨5, W.req, W.run 3, by decide +kernel⟩,
    ⟨5, W.req, (W.run 3).setFld R.CHG_STAT F.CHG_STAT.SESSION 5, by decide +kernel⟩,
    ⟨5, W.req, W.run 2, by decide +kernel⟩,
    ⟨5, W.req, (W.run 3).setFld R.CHG_STAT F.CHG_STAT.SESSION 6, by decide +kernel⟩,
    ⟨5, W.req, (W.run 3).setFld R.CHG_STAT F.CHG_STAT.SESSION 1, by decide +kernel⟩,
    ⟨5, W.req, W.run 2, by decide +kernel⟩,
    ⟨5, W.reqP, (W.priv 3).setFld R.CHG_STAT F.CHG_STAT.SESSION 6, by decide +kernel⟩,
    ⟨5, W.reqP, W.priv 3, by decide +kernel⟩,
    ⟨5, W.req, W.run 3, by decide +kernel⟩,
    ⟨5, W.req, 0x8000#16, W.run 3, by decide +kernel⟩,
    ⟨5, W.req, 0x8000#16, (W.run 3).setFld R.CHG_CFG F.CHG_CFG.TSRC 1, by decide +kernel⟩,
    ⟨5, W.req, 1, ((W.run 2).setAct 1 { known := true }).setFld (R.ACT_A_POS 1) F.ACT_A_POS.SPAN 9, by decide +kernel⟩,
    ⟨5, W.req, 1, W.run 2, by decide +kernel⟩,
    ⟨5, W.req, 2, ((W.run 2).setBit (R.ACT_A_CTRL 2) F.ACT_A_CTRL.EN true).setFld (R.ACT_A_STAT 2) F.ACT_A_STAT.STATE
    2, by decide +kernel⟩,
    ⟨5, W.req, 2, (W.run 2).setBit (R.ACT_A_CTRL 2) F.ACT_A_CTRL.EN true, by decide +kernel⟩,
    ⟨5, W.req, 1, 0x203000#40, (W.run 2).setFld (R.ACT_A_CFG 1) F.ACT_A_CFG.IBASE 1, by decide +kernel⟩,
    ⟨5, W.req, 0, 0xFE03000#40, (W.run 2).setFld (R.ACT_A_CFG 0) F.ACT_A_CFG.IBASE 1, by decide +kernel⟩,
    ⟨5, W.req, 0x203000#40, W.conv 2 0, by decide +kernel⟩,
    ⟨5, W.req, 1, 0x203001#40, W.run 2, by decide +kernel⟩,
    ⟨5, W.req, 1, 0x3000#40, W.run 2, by decide +kernel⟩,
    ⟨5, W.req, 2, W.run 2, by decide +kernel⟩,
    ⟨5, W.req, 2, ((W.run 2).setAct 2 { hallBad := true }).setFld (R.ACT_A_POS 2) F.ACT_A_POS.ZERO 0x8005,
    by decide +kernel⟩,
    ⟨5, W.req, { W.run 2 with life := { gen := 7 } }, by decide +kernel⟩,
    ⟨5, W.req, { W.run 2 with life := { pend := some {} } }, by decide +kernel⟩,
    ⟨5, W.reqP, 47, (W.priv 4).setLife 47 { acc := 77 }, by decide +kernel⟩,
    ⟨5, W.reqP, 47, W.priv 2, by decide +kernel⟩,
    ⟨5, W.req, 47, W.run 4, by decide +kernel⟩,
    ⟨5, W.req, 47, W.run 2, by decide +kernel⟩,
    ⟨5, W.req, { W.run 2 with life := { curve := [(0, 9)] } }, by decide +kernel⟩,
    ⟨5, W.req, (W.run 2).setFld R.LIFE_TWIN_ADDR F.LIFE_TWIN_ADDR.WORD 65, by decide +kernel⟩,
    ⟨5, W.reqP, 0x1FFFFFFFF7#40, ((W.priv 1).setFld R.LIFE_TWIN_ADDR F.LIFE_TWIN_ADDR.AREA 1).setFld R.LIFE_TWIN_ADDR
    F.LIFE_TWIN_ADDR.WORD 31, by decide +kernel⟩,
    ⟨5, W.reqP, 7#40, W.priv 1, by decide +kernel⟩⟩

theorem test_CanWritten_met :
    (∃ (e : Nat) (r : Req) (c : Fin 3) (s : State), Takes r s ∧ privileged s r = true ∧ s.fld (R.CAN_C_CFG c)
    F.CAN_C_CFG.EN = 0 ∧ 1 ≤ s.fld (R.CAN_C_CFG c) F.CAN_C_CFG.OWN ∧ s.fld (R.CAN_C_CFG c) F.CAN_C_CFG.OWN ≤ 254 ∧
    (s.bit (R.CAN_C_CFG c) F.CAN_C_CFG.RESTRICTED && s.bit (R.CAN_C_CFG c) F.CAN_C_CFG.LISTEN) = false ∧ s.auditFull =
    false ∧ canStat s c F.CAN_C_STAT.STATE ≠ 3) ∧
    (∃ (e : Nat) (r : Req) (c : Fin 3) (s : State), Takes r s ∧ privileged s r = true ∧ s.bit (R.CAN_C_CFG c)
    F.CAN_C_CFG.EN = true ∧ 1 ≤ s.fld (R.CAN_C_CFG c) F.CAN_C_CFG.OWN ∧ s.fld (R.CAN_C_CFG c) F.CAN_C_CFG.OWN ≤ 254 ∧
    (s.bit (R.CAN_C_CFG c) F.CAN_C_CFG.RESTRICTED && s.bit (R.CAN_C_CFG c) F.CAN_C_CFG.LISTEN) = false ∧ s.auditFull =
    false ∧ canStat s c F.CAN_C_STAT.STATE ≠ 3 ∧ (canOf s c).fly = none) ∧
    (∃ (e : Nat) (r : Req) (c : Fin 3) (s : State), Takes r s) ∧
    (∃ (e : Nat) (r : Req) (c : Fin 3) (s : State), Takes r s) ∧
    (∃ (e : Nat) (r : Req) (c : Fin 3) (mb : BitVec 6) (req : Bool) (s : State), Takes r s ∧ mb.toNat < 32 ∧
    canLoadStatus s c (settingVal s (R.CAN_C_LOAD c) [(F.CAN_C_LOAD.MB, mb.toNat), (F.CAN_C_LOAD.REQ, b2n req)]) =
    St.ok ∧ r.origin ≤ 2) ∧
    (∃ (e : Nat) (r : Req) (c : Fin 3) (req : Bool) (s : State), Takes r s ∧ canLoadStatus s c (settingVal s
    (R.CAN_C_LOAD c) [(F.CAN_C_LOAD.MB, 32), (F.CAN_C_LOAD.REQ, b2n req)]) = St.ok ∧ r.origin ≤ 2) ∧
    (∃ (e : Nat) (r : Req) (c : Fin 3) (mb : BitVec 6) (req : Bool) (s : State), Takes r s ∧ 32 < mb.toNat) ∧
    (∃ (e : Nat) (r : Req) (c : Fin 3) (m : Fin 32) (b : CanBox) (s : State), Takes r s ∧ AMap.get? (canOf s c).mb m =
    some b ∧ b.status ≠ 1 ∧ b.status ≠ 2 ∧ r.origin ≤ 2) ∧
    (∃ (e : Nat) (r : Req) (c : Fin 3) (m : Fin 32) (s : State), Takes r s ∧ AMap.get? (canOf s c).mb m = none) ∧
    (∃ (e : Nat) (r : Req) (c : Fin 3) (m : BitVec 5) (b : CanBox) (s : State), Takes r s ∧ AMap.get? (canOf s c).mb
    m.toNat = some b ∧ b.status = 1 ∧ r.origin ≤ 2) ∧
    (∃ (e : Nat) (r : Req) (c : Fin 3) (m : BitVec 5) (b : CanBox) (s : State), Takes r s ∧ AMap.get? (canOf s c).mb
    m.toNat = some b ∧ b.status = 2 ∧ r.origin ≤ 2) ∧
    (∃ (e : Nat) (r : Req) (c : Fin 3) (s : State), Takes r s ∧ (canOf s c).fly ≠ some 32 ∧ r.origin ≤ 2) ∧
    (∃ (e : Nat) (r : Req) (c : Fin 3) (x : CanBox) (s : State), Takes r s ∧ (canOf s c).fly = some 32 ∧ (canOf s
    c).q[(canOf s c).flyQ]? = some x ∧ r.origin ≤ 2) ∧
    (∃ (e : Nat) (r : Req) (c : Fin 3) (n : BitVec 9) (s : State), Takes r s ∧ n.toNat ≤ s.fld (R.CAN_C_RXSTAT c)
    F.CAN_C_RXSTAT.FILL ∧ r.origin ≤ 2) ∧
    (∃ (e : Nat) (r : Req) (c : Fin 3) (n : BitVec 9) (s : State), Takes r s ∧ s.fld (R.CAN_C_RXSTAT c)
    F.CAN_C_RXSTAT.FILL < n.toNat) ∧
    (∃ (e : Nat) (r : Req) (s : State), Takes r s ∧ r.origin ≤ 2) ∧
    (∃ (e : Nat) (r : Req) (v : Reg) (s : State), Takes r s ∧ fwinBad s = false) ∧
    (∃ (e : Nat) (r : Req) (v : Reg) (s : State), Takes r s ∧ fwinBad s = true) ∧
    (∃ (e : Nat) (r : Req) (v : Reg) (s : State), Takes r s ∧ fwinWriteBad s = false ∧ r.origin ≤ 2 ∧ s.auditFull =
    false) ∧
    (∃ (e : Nat) (r : Req) (v : Reg) (s : State), Takes r s ∧ fwinWriteBad s = true) :=
  ⟨⟨5, W.reqP, 2, (W.priv 1).setFld (R.CAN_C_CFG 2) F.CAN_C_CFG.OWN 254, by decide +kernel⟩,
    ⟨5, W.reqP, 2, ((W.priv 1).setFld (R.CAN_C_CFG 2) F.CAN_C_CFG.OWN 1).setBit (R.CAN_C_CFG 2) F.CAN_C_CFG.EN true,
    by decide +kernel⟩,
    ⟨5, W.req, 2, (W.run 2).setFld (R.CAN_C_STAT 2) F.CAN_C_STAT.STATE 3, by decide +kernel⟩,
    ⟨5, W.req, 2, W.run 2, by decide +kernel⟩,
    ⟨5, W.req, 2, 31#6, true, (W.run 2).setReg (R.CAN_C_TXBUF 2 1) 0x0800000000#40, by decide +kernel⟩,
    ⟨5, W.req, 2, false, (W.run 2).setReg (R.CAN_C_TXBUF 2 1) 0x0800000000#40, by decide +kernel⟩,
    ⟨5, W.req, 2, 33#6, true, W.run 2, by decide +kernel⟩,
    ⟨5, W.req, 2, 31, { frame := {}, fails := 5, status := 4 },
    { W.run 2 with can := { ctl := [(2, { mb := [(31, { frame := {}, fails := 5, status := 4 })] })] } },
    by decide +kernel⟩,
    ⟨5, W.req, 2, 31, W.run 2, by decide +kernel⟩,
    ⟨5, W.req, 2, 31#5, { frame := {}, fails := 5, status := 1 },
    { W.run 2 with can := { ctl := [(2, { mb := [(31, { frame := {}, fails := 5, status := 1 })] })] } },
    by decide +kernel⟩,
    ⟨5, W.req, 2, 31#5, { frame := {}, fails := 5, status := 2 },
    { W.run 2 with can := { ctl := [(2, { mb := [(31, { frame := {}, fails := 5, status := 2 })] })] } },
    by decide +kernel⟩,
    ⟨5, W.req, 2, { W.run 2 with can := { ctl := [(2, { q := [{ frame := {}, status := 1 }] })] } },
    by decide +kernel⟩,
    ⟨5, W.req, 2, { frame := {}, status := 2 },
    { W.run 2 with can := { ctl := [(2, { q := [{ frame := {}, status := 1 }, { frame := {}, status := 2 }], fly :=
                                          some 32, flyQ := 1 })] } }, by decide +kernel⟩,
    ⟨5, W.req, 2, 1#9,
    ({ W.run 2 with can := { ctl := [(2, { rx := [{ frame := {}, filt := 1, lost := false, sof := 1 }] })] } }).setFld
    (R.CAN_C_RXSTAT 2) F.CAN_C_RXSTAT.FILL 1, by decide +kernel⟩,
    ⟨5, W.req, 2, 1#9, W.run 2, by decide +kernel⟩,
    ⟨5, W.req, (W.run 2).setFld R.CAN_PT_STAT F.CAN_PT_STAT.LOST 5, by decide +kernel⟩,
    ⟨5, W.req, 7#40, W.run 2, by decide +kernel⟩,
    ⟨5, W.req, 7#40, (W.run 2).setFld R.CAN_FWIN_ADDR F.CAN_FWIN_ADDR.AREA 5, by decide +kernel⟩,
    ⟨5, W.req, 0xFFFFFFFFFF#40, (W.run 2).setFld R.CAN_FWIN_ADDR F.CAN_FWIN_ADDR.AREA 3, by decide +kernel⟩,
    ⟨5, W.req, 7#40, W.run 2, by decide +kernel⟩⟩

theorem test_StorageWritten_met :
    (∃ (e : Nat) (r : Req) (s : State), Takes r s ∧ privileged s r = true ∧ s.mode = Mode.service ∧ slotsFit s (s.fld
    R.STO_CFG F.STO_CFG.REC_SLOTS) = true ∧ s.auditFull = false) ∧
    (∃ (e : Nat) (r : Req) (s : State), Takes r s ∧ privileged s r = true ∧ s.mode ≠ Mode.service ∧ s.auditFull =
    false) ∧
    (∃ (e : Nat) (r : Req) (s : State), Takes r s ∧ privileged s r = true ∧ s.bit R.STO_REC_CFG F.STO_REC_CFG.EN =
    false ∧ s.fld R.STO_REC_CFG F.STO_REC_CFG.POST ≤ 4000 ∧ s.fld R.STO_REC_CFG F.STO_REC_CFG.TAPSHIFT ≤ 24 ∧
    s.auditFull = false) ∧
    (∃ (e : Nat) (r : Req) (s : State), Takes r s ∧ privileged s r = true ∧ s.bit R.STO_REC_CFG F.STO_REC_CFG.EN =
    true ∧ s.fld R.STO_REC_CFG F.STO_REC_CFG.POST ≤ 4000 ∧ s.fld R.STO_REC_CFG F.STO_REC_CFG.TAPSHIFT ≤ 24 ∧
    s.auditFull = false ∧ s.rcd.cur = none) ∧
    (∃ (e : Nat) (r : Req) (s : State), Takes r s ∧ s.mode ≠ Mode.standby ∧ s.fld R.STO_REC_STAT F.STO_REC_STAT.STATE
    = 1) ∧
    (∃ (e : Nat) (r : Req) (s : State), Takes r s ∧ s.mode ≠ Mode.standby ∧ s.fld R.STO_REC_STAT F.STO_REC_STAT.STATE
    ≠ 1) ∧
    (∃ (e : Nat) (r : Req) (len : BitVec 32) (s : State), Takes r s ∧ privileged s r = true ∧ updBusy s = false ∧
    s.mode ≠ Mode.standby ∧ devFailed s 0 = false ∧ updState s ≠ Up.checking ∧ 292 ≤ len.toNat ∧ len.toNat ≤ 33056) ∧
    (∃ (e : Nat) (r : Req) (len : BitVec 32) (s : State), Takes r s ∧ privileged s r = true ∧ updBusy s = false ∧
    s.mode ≠ Mode.standby ∧ devFailed s 0 = false ∧ updState s ≠ Up.checking ∧ 292 ≤ len.toNat ∧ len.toNat ≤ 33056) ∧
    (∃ (e : Nat) (r : Req) (len : BitVec 32) (s : State), Takes r s ∧ privileged s r = true ∧ updBusy s = false ∧
    s.mode ≠ Mode.standby ∧ devFailed s 0 = false ∧ updState s ≠ Up.checking ∧ (len.toNat < 292 ∨ 33056 < len.toNat)) ∧
    (∃ (e : Nat) (r : Req) (len : BitVec 32) (s : State), Takes r s ∧ privileged s r = true ∧ updBusy s = false ∧
    s.mode ≠ Mode.standby ∧ devFailed s 0 = false ∧ updState s ≠ Up.checking ∧ (len.toNat < 292 ∨ 33056 < len.toNat)) ∧
    (∃ (e : Nat) (r : Req) (len : BitVec 32) (s : State), Takes r s ∧ privileged s r = true ∧ updBusy s = true) ∧
    (∃ (e : Nat) (r : Req) (len : BitVec 32) (s : State), Takes r s ∧ privileged s r = false) ∧
    (∃ (e : Nat) (r : Req) (num : BitVec 32) (b : List Byte) (s : State), Takes r s ∧ privileged s r = true ∧ s.mode ≠
    Mode.standby ∧ devFailed s 0 = false ∧ updState s = Up.receiving ∧ b.length = 4096 ∧ num.toNat < (s.upd.len +
    4095) / 4096 ∧ manStored s.upd = true) ∧
    (∃ (e : Nat) (r : Req) (kind : BitVec 8) (num : BitVec 32) (b : List Byte) (s : State), Takes r s ∧ privileged s r
    = true ∧ updState s ≠ Up.receiving ∧ b.length = 4096) ∧
    (∃ (e : Nat) (r : Req) (kind : BitVec 8) (num : BitVec 32) (b : List Byte) (s : State), Takes r s ∧ privileged s r
    = true ∧ b.length ≠ 4096) ∧
    (∃ (e : Nat) (r : Req) (s : State), Takes r s ∧ privileged s r = true ∧ s.mode ≠ Mode.standby ∧ updState s =
    Up.receiving ∧ allStored s.upd = true) ∧
    (∃ (e : Nat) (r : Req) (s : State), Takes r s ∧ privileged s r = true ∧ (updState s ≠ Up.receiving ∨ allStored
    s.upd = false)) ∧
    (∃ (e : Nat) (r : Req) (s : State), Takes r s ∧ privileged s r = true ∧ (updState s ≠ Up.receiving ∨ allStored
    s.upd = false)) ∧
    (∃ (e : Nat) (r : Req) (s : State), Takes r s ∧ privileged s r = true ∧ s.mode ≠ Mode.standby ∧ updState s =
    Up.checked ∧ s.bit R.DEV_MODE F.DEV_MODE.BOOT_FAIL = false) ∧
    (∃ (e : Nat) (r : Req) (s : State), Takes r s ∧ privileged s r = true ∧ updState s ≠ Up.checked) ∧
    (∃ (e : Nat) (r : Req) (s : State), Takes r s ∧ privileged s r = true ∧ s.mode ≠ Mode.standby ∧ updState s =
    Up.switched ∧ (if s.d0 then s.dt + e else s.dt) < s.upd.at_ + 2000000000) ∧
    (∃ (e : Nat) (r : Req) (s : State), Takes r s ∧ privileged s r = true ∧ updState s ≠ Up.switched) ∧
    (∃ (e : Nat) (r : Req) (s : State), Takes r s ∧ privileged s r = true ∧ updState s = Up.committing) ∧
    (∃ (e : Nat) (r : Req) (s : State), Takes r s ∧ privileged s r = true ∧ s.mode ≠ Mode.standby ∧ (updState s =
    Up.receiving ∨ updState s = Up.checking ∨ updState s = Up.checked ∨ updState s = Up.failed)) ∧
    (∃ (e : Nat) (r : Req) (s : State), Takes r s ∧ privileged s r = true ∧ s.mode ≠ Mode.standby ∧ updState s =
    Up.switched) ∧
    (∃ (e : Nat) (r : Req) (s : State), Takes r s ∧ privileged s r = true ∧ s.mode ≠ Mode.standby ∧ updState s =
    Up.activating) :=
  ⟨⟨5, W.reqP, (((W.priv 4).setFld R.STO_CFG F.STO_CFG.REC_SLOTS 2).setFld (R.STO_DEV 0) F.STO_DEV.CAP 512).setFld
    (R.STO_DEV 1) F.STO_DEV.CAP 512, by decide +kernel⟩,
    ⟨5, W.reqP, W.priv 2, by decide +kernel⟩,
    ⟨5, W.reqP, W.priv 2, by decide +kernel⟩,
    ⟨5, W.reqP, (W.priv 2).setBit R.STO_REC_CFG F.STO_REC_CFG.EN true, by decide +kernel⟩,
    ⟨5, W.req, (W.run 2).setFld R.STO_REC_STAT F.STO_REC_STAT.STATE 1, by decide +kernel⟩,
    ⟨5, W.req, W.run 2, by decide +kernel⟩,
    ⟨5, W.reqP, 292#32, W.priv 2, by decide +kernel⟩,
    ⟨5, W.reqP, 33056#32, W.priv 2, by decide +kernel⟩,
    ⟨5, W.reqP, 291#32, W.priv 2, by decide +kernel⟩,
    ⟨5, W.reqP, 33057#32, W.priv 2, by decide +kernel⟩,
    ⟨5, W.reqP, 292#32, (W.priv 2).setFld R.UPD_STAT F.UPD_STAT.STATE 4, by decide +kernel⟩,
    ⟨5, W.req, 292#32, W.run 2, by decide +kernel⟩,
    ⟨5, W.reqP, 0#32, List.replicate 4096 7,
    { (W.priv 2).setFld R.UPD_STAT F.UPD_STAT.STATE 1 with upd := { len := 292, man := [(0, [])] } },
    by decide +kernel⟩,
    ⟨5, W.reqP, 0#8, 0#32, List.replicate 4096 7, W.priv 2, by decide +kernel⟩,
    ⟨5, W.reqP, 0#8, 0#32, [7], W.priv 2, by decide +kernel⟩,
    ⟨5, W.reqP, { (W.priv 2).setFld R.UPD_STAT F.UPD_STAT.STATE 1 with upd := { len := 292, man := [(0, [])] } },
    by decide +kernel⟩,
    ⟨5, W.reqP, W.priv 2, by decide +kernel⟩,
    ⟨5, W.reqP, { (W.priv 2).setFld R.UPD_STAT F.UPD_STAT.STATE 1 with upd := { len := 292 } }, by decide +kernel⟩,
    ⟨5, W.reqP, (W.priv 2).setFld R.UPD_STAT F.UPD_STAT.STATE 3, by decide +kernel⟩,
    ⟨5, W.reqP, W.priv 2, by decide +kernel⟩,
    ⟨5, W.reqP, (W.priv 2).setFld R.UPD_STAT F.UPD_STAT.STATE 5, by decide +kernel⟩,
    ⟨5, W.reqP, W.priv 2, by decide +kernel⟩,
    ⟨5, W.reqP, (W.priv 2).setFld R.UPD_STAT F.UPD_STAT.STATE 6, by decide +kernel⟩,
    ⟨5, W.reqP, (W.priv 2).setFld R.UPD_STAT F.UPD_STAT.STATE 1, by decide +kernel⟩,
    ⟨5, W.reqP, (W.priv 2).setFld R.UPD_STAT F.UPD_STAT.STATE 5, by decide +kernel⟩,
    ⟨5, W.reqP, (W.priv 2).setFld R.UPD_STAT F.UPD_STAT.STATE 4, by decide +kernel⟩⟩

theorem test_FramesReceived_met :
    (∃ (e : Nat) (n : Fin 2) (l : List Byte) (s : State), s.boot.phase = .run ∧
    { s.portOf (256 * (n.val + 1)) with word := 0 } = ({} : Port) ∧ l.head? ≠ some 0 ∧ (askOf (n.val + 1) 0 l false
    false).crcBad = true ∧ (l.getD 1 0).getLsbD 0 = false) ∧
    (∃ (e : Nat) (n : Fin 2) (l b : List Byte) (s : State), s.boot.phase = .run ∧
    { s.portOf (256 * (n.val + 1)) with word := 0 } = ({} : Port) ∧ l.head? ≠ some 0 ∧ s.boot.imageBad = false ∧
    AMap.get? s.lastReq (256 * (n.val + 1)) = none ∧ (askOf (n.val + 1) 0 l false false).crcBad = false ∧ (askOf
    (n.val + 1) 0 l false false).op = some (.echo b) ∧ (l.getD 1 0).getLsbD 0 = false ∧ l.getD 3 0 = 0) ∧
    (∃ (e : Nat) (n : Fin 2) (l : List Byte) (k : Nat) (s : State), s.boot.phase = .run ∧
    { s.portOf (256 * (n.val + 1)) with word := 0 } = ({} : Port) ∧ l.head? ≠ some 0 ∧ (l.getD 1 0).getLsbD 0 = false) ∧
    (∃ (e : Nat) (n : Fin 2) (l : List Byte) (k : Nat) (s : State), s.boot.phase = .run ∧ l.head? = some 0) ∧
    (∃ (e : Nat) (n : Fin 2) (l : List Byte) (k : Nat) (s : State), s.boot.phase = .run ∧ l.head? = some 0) ∧
    (∃ (e : Nat) (c : Fin 3) (f : CanFrame) (ago : Nat) (k : Nat) (s : State), s.boot.phase = .run ∧ (canStat s c
    F.CAN_C_STAT.STATE = 1 ∨ canStat s c F.CAN_C_STAT.STATE = 2) ∧ canStat s c F.CAN_C_STAT.REC ≤ 127 ∧ jStopped s =
    false ∧ (canOf s c).integ = false ∧ ((canFrame f).fdf = true → s.bit (R.CAN_C_CFG c) F.CAN_C_CFG.FD_EN = true) ∧
    isSegment s c (canFrame f) = false ∧ hbNode s (canFrame f) = none ∧ filtMatch s c ((s.tick e).dt - ago) (canFrame
    f) = some (k, false) ∧ (canOf s c).rx.length < 256) ∧
    (∃ (e : Nat) (c : Fin 3) (f : CanFrame) (ago : Nat) (k : Nat) (s : State), s.boot.phase = .run ∧ (canStat s c
    F.CAN_C_STAT.STATE = 1 ∨ canStat s c F.CAN_C_STAT.STATE = 2) ∧ canStat s c F.CAN_C_STAT.REC ≤ 127 ∧ jStopped s =
    false ∧ (canOf s c).integ = false ∧ ((canFrame f).fdf = true → s.bit (R.CAN_C_CFG c) F.CAN_C_CFG.FD_EN = true) ∧
    isSegment s c (canFrame f) = false ∧ hbNode s (canFrame f) = none ∧ filtMatch s c ((s.tick e).dt - ago) (canFrame
    f) = some (k, false) ∧ 256 ≤ (canOf s c).rx.length) ∧
    (∃ (e : Nat) (c : Fin 3) (f : CanFrame) (ago : Nat) (lost : Bool) (s : State), s.boot.phase = .run ∧ (canStat s c
    F.CAN_C_STAT.STATE = 1 ∨ canStat s c F.CAN_C_STAT.STATE = 2) ∧ (canOf s c).integ = false ∧ (canFrame f).fdf = true
    ∧ s.bit (R.CAN_C_CFG c) F.CAN_C_CFG.FD_EN = false) ∧
    (∃ (e : Nat) (c : Fin 3) (f : CanFrame) (ago : Nat) (lost : Bool) (s : State), canStat s c F.CAN_C_STAT.STATE = 0
    ∨ canStat s c F.CAN_C_STAT.STATE = 3) ∧
    (∃ (e : Nat) (c : Fin 3) (f : CanFrame) (ago : Nat) (s : State), s.boot.phase = .run ∧ (canStat s c
    F.CAN_C_STAT.STATE = 1 ∨ canStat s c F.CAN_C_STAT.STATE = 2) ∧ canStat s c F.CAN_C_STAT.REC ≤ 127 ∧ jStopped s =
    false ∧ (canOf s c).integ = false ∧ ((canFrame f).fdf = true → s.bit (R.CAN_C_CFG c) F.CAN_C_CFG.FD_EN = true) ∧
    isSegment s c (canFrame f) = true ∧ ((canFrame f).data.getD 2 0).toNat = 128 ∧ (canOf s c).tin = []) ∧
    (∃ (e : Nat) (c : Fin 3) (f : CanFrame) (ago n : Nat) (s : State), s.boot.phase = .run ∧ (canStat s c
    F.CAN_C_STAT.STATE = 1 ∨ canStat s c F.CAN_C_STAT.STATE = 2) ∧ canStat s c F.CAN_C_STAT.REC ≤ 127 ∧ jStopped s =
    false ∧ (canOf s c).integ = false ∧ ((canFrame f).fdf = true → s.bit (R.CAN_C_CFG c) F.CAN_C_CFG.FD_EN = true) ∧
    isSegment s c (canFrame f) = false ∧ hbNode s (canFrame f) = some n ∧ (canFrame f).rtr = false ∧ (canFrame
    f).data.length = 8 ∧ ((canFrame f).data.getD 0 0 = 3 ∧ (canFrame f).data.getD 1 0 ≠ 0) ∧ s.can.parts = [] ∧
    filtMatch s c ((s.tick e).dt - ago) (canFrame f) = none ∧ s.glove.on = false) ∧
    (∃ (e : Nat) (c : Fin 3) (f : CanFrame) (ago n : Nat) (s : State), s.boot.phase = .run ∧ (canStat s c
    F.CAN_C_STAT.STATE = 1 ∨ canStat s c F.CAN_C_STAT.STATE = 2) ∧ canStat s c F.CAN_C_STAT.REC ≤ 127 ∧ jStopped s =
    false ∧ (canOf s c).integ = false ∧ ((canFrame f).fdf = true → s.bit (R.CAN_C_CFG c) F.CAN_C_CFG.FD_EN = true) ∧
    isSegment s c (canFrame f) = false ∧ hbNode s (canFrame f) = some n ∧ (canFrame f).data.length < 8 ∧ filtMatch s c
    ((s.tick e).dt - ago) (canFrame f) = none) :=
  ⟨⟨5, 1, [1, 2, 3], W.run 1, by decide +kernel⟩,
    ⟨5, 1, [1, 0, 9, 0, 2, 0, 0, 0, 7, 255] ++ leBytes 4 (crc32c [1, 0, 9, 0, 2, 0, 0, 0, 7, 255]), [7, 255], W.run 1,
    by decide +kernel⟩,
    ⟨5, 1, [1, 0, 9, 0, 2, 0, 0, 0, 7, 255] ++ leBytes 4 (crc32c [1, 0, 9, 0, 2, 0, 0, 0, 7, 255]), 0, W.run 1,
    by decide +kernel⟩,
    ⟨5, 1, [0, 0, 0], 0, { W.run 2 with ports := [(512, { replies := [[1], [2]], dropped := true })] },
    by decide +kernel⟩,
    ⟨5, 1, [0, 0], 0, { W.run 2 with ports := [(512, { replies := [[1], [2]], dropped := true })] },
    by decide +kernel⟩,
    ⟨5, 2, { id := 5, dlc := 1, data := [7] }, 3, 0, ((W.run 2).setFld (R.CAN_C_STAT 2) F.CAN_C_STAT.STATE 1),
    by decide +kernel⟩,
    ⟨5, 2, { id := 5, dlc := 1, data := [7] }, 3, 0, W.bus
    { rx := List.replicate 256 { frame := {}, filt := 1, lost := false, sof := 1 } }, by decide +kernel⟩,
    ⟨5, 2, { id := 5, dlc := 1, fdf := true, data := [7] }, 3, false, ((W.run 2).setFld (R.CAN_C_STAT 2)
    F.CAN_C_STAT.STATE 1).setBit (R.CAN_C_CFG 2) F.CAN_C_CFG.FD_EN false, by decide +kernel⟩,
    ⟨5, 2, { id := 5, dlc := 1, data := [7] }, 3, false, W.run 2, by decide +kernel⟩,
    ⟨5, 2, { id := 5, dlc := 4, data := [9, 1, 128, 7] }, 3, ((((W.run 2).setFld (R.CAN_C_STAT 2) F.CAN_C_STAT.STATE
    1).setFld (R.CAN_C_CFG 2) F.CAN_C_CFG.OWN 1).setFld (R.CAN_C_TUN_REQ 2) F.CAN_C_TUN_REQ.ID 5).setBit
    (R.CAN_C_TUN_REQ 2) F.CAN_C_TUN_REQ.EN true, by decide +kernel⟩,
    ⟨5, 2, { id := 0x705, dlc := 8, data := [3, 2, 1, 1, 1, 1, 0, 0] }, 3, 5, W.bus { filt := [(0, 0)] },
    by decide +kernel⟩,
    ⟨5, 2, { id := 0x705, dlc := 3, data := [3, 2, 1] }, 3, 5, W.bus { filt := [(0, 0)] }, by decide +kernel⟩⟩

theorem test_ReferenceStaysOn_met :
    (∃ (e : Nat) (r : Req) (s : State), Takes r s ∧ (s.mode = Mode.drive ∨ s.mode = Mode.charge)) ∧
    (∃ (e : Nat) (r : Req) (s : State), Takes r s ∧ (s.mode = Mode.drive ∨ s.mode = Mode.charge)) ∧
    (∃ (e : Nat) (r : Req) (on : Bool) (s : State), Takes r s ∧ (on = true ∨ (s.mode ≠ Mode.drive ∧ s.mode ≠
    Mode.charge))) ∧
    (∃ (e : Nat) (r : Req) (on : Bool) (s : State), Takes r s ∧ (on = true ∨ (s.mode ≠ Mode.drive ∧ s.mode ≠
    Mode.charge))) :=
  ⟨⟨5, W.req, W.run 2, by decide +kernel⟩,
    ⟨5, W.req, W.run 3, by decide +kernel⟩,
    ⟨5, W.req, true, W.run 2, by decide +kernel⟩,
    ⟨5, W.req, false, W.run 1, by decide +kernel⟩⟩

theorem test_CauseStaysWhileItsConditionHolds_met :
    ∃ (e : Nat) (r : Req) (v : Reg) (s : State), Takes r s ∧ privileged s r = true ∧ s.auditFull = false :=
  ⟨5, W.reqP, 0xFFF#40, (W.priv 5).setFld R.DEV_SAFE_CAUSE ⟨11, 0⟩ 0xFFF, by decide +kernel⟩

theorem test_TestRegistersReadZero_met :
    (∃ (e : Nat) (r : Req) (i : BitVec 16) (s : State), Takes r s ∧ 0x3F00 ≤ i.toNat ∧ i.toNat < 0x4000) ∧
    (∃ (e : Nat) (r : Req) (i : BitVec 16) (s : State), Takes r s ∧ 0x3F00 ≤ i.toNat ∧ i.toNat < 0x4000) ∧
    (∃ (e : Nat) (r : Req) (i : BitVec 16) (v : Reg) (s : State), Takes r s ∧ 0x3F00 ≤ i.toNat ∧ i.toNat < 0x4000) ∧
    (∃ (e : Nat) (r : Req) (i : BitVec 16) (v : Reg) (s : State), Takes r s ∧ 0x3F00 ≤ i.toNat ∧ i.toNat < 0x4000) :=
  ⟨⟨5, W.req, 0x3F00#16, W.run 1, by decide +kernel⟩,
    ⟨5, W.req, 0x3FFF#16, W.run 2, by decide +kernel⟩,
    ⟨5, W.req, 0x3F00#16, 7#40, W.run 1, by decide +kernel⟩,
    ⟨5, W.req, 0x3FFF#16, 0#40, W.run 2, by decide +kernel⟩⟩

end

end Sys2Proof.Machine
end

section
/-! SUPPORT. The path of a host's request, once for every command that is one: what its arrival, its execution and its
reply leave as it was (`Answered`), and that a port that takes it executes it within the command (R541 to R552). -/

namespace Sys2Proof.Machine

/-! ### What the fields of a request carry -/

theorem Answered.refl (l : List Nat) (s : State) : Answered l s s := ⟨rfl, fun _ _ => rfl⟩

theorem Answered.trans {l : List Nat} {s u t : State} (h : Answered l s u) (k : Answered l u t) : Answered l s t := by
  obtain ⟨hu, ru⟩ := h
  obtain ⟨ht, rt⟩ := k
  rw [hu] at ht
  exact ⟨ht, fun i hi => (rt i hi).trans (ru i hi)⟩

theorem Answered.mono {l m : List Nat} {s t : State} (h : Answered l s t) (hl : l ⊆ m) : Answered m s t :=
  ⟨h.1, fun i hi => h.2 i fun k => hi (List.append_subset.mpr
    ⟨List.subset_append_left _ _, List.Subset.trans hl (List.subset_append_right _ _)⟩ k)⟩

/-- A register that a request's path does not write reads as before. -/
theorem Answered.reg {l : List Nat} {s t : State} (h : Answered l s t) (i : Nat) (hi : i ∉ portRegs ++ l) :
    t.reg i = s.reg i := h.2 i hi

/-- A field of a register that a request's path does not write reads as before. -/
theorem Answered.fld {l : List Nat} {s t : State} (h : Answered l s t) {i : Nat} (hi : i ∉ portRegs ++ l) (f : Fld) :
    t.fld i f = s.fld i f := State.fld_of_reg (h.reg i hi) f

theorem Answered.bit {l : List Nat} {s t : State} (h : Answered l s t) {i : Nat} (hi : i ∉ portRegs ++ l) (f : Fld) :
    t.bit i f = s.bit i f := by
  unfold State.bit
  rw [h.fld hi]

theorem Answered.glove {l : List Nat} {s t : State} (h : Answered l s t) : t.glove = s.glove := by rw [h.1]

theorem Answered.stoHigh {l : List Nat} {s t : State} (h : Answered l s t) : t.stoHigh = s.stoHigh := by rw [h.1]

theorem answered_tick (e : Nat) (s : State) : Answered [] s (s.tick e) := ⟨rfl, fun _ _ => rfl⟩

theorem answered_setPort (k : Nat) (x : Port) (s : State) : Answered [] s (s.setPort k x) := ⟨rfl, fun _ _ => rfl⟩

theorem answered_setCan (c : Nat) (x : CanCtl) (s : State) : Answered [] s (setCan c x s) := ⟨rfl, fun _ _ => rfl⟩

theorem answered_audit (x : AuditLog) (s : State) : Answered [] s { s with audit := x } := ⟨rfl, fun _ _ => rfl⟩

theorem answered_setFld {l : List Nat} {i : Nat} (hi : i ∈ portRegs ++ l) (f : Fld) (x : Nat) (s : State) :
    Answered l s (s.setFld i f x) :=
  ⟨rfl, fun _ hj => State.reg_setFld_ne _ _ _ fun e => hj (e ▸ hi)⟩

theorem answered_auditPush (a : AuditEntry) (s : State) : Answered [] s (auditPush a s) :=
  ((answered_audit _ s).trans (answered_setFld (by decide) _ _ _)).trans (answered_setFld (by decide) _ _ _)

theorem answered_putReply (k : Nat) (a : Ask) (b : List Byte) (s : State) : Answered [] s (putReply k a b s) := by
  unfold putReply
  split
  · exact answered_setCan _ _ _
  · exact answered_setPort _ _ _

theorem answered_answer (k : Nat) (a : Ask) (p : Reply) (exe : Bool) (s : State) :
    Answered [] s (answer k a p exe s) := by
  unfold answer
  extract_lets x s1 l s2 s3
  have h1 : Answered [] s s1 := answered_setPort _ _ _
  have h2 : Answered [] s1 s3 := by
    unfold s3
    split
    · split <;> exact ⟨rfl, fun _ _ => rfl⟩
    · exact Answered.refl _ _
  clear_value s3
  split
  · exact h1.trans h2
  · exact (h1.trans h2).trans (answered_putReply _ _ _ _)

/-! ### A port's record -/

@[simp] theorem State.setPort_dt (k : Nat) (x : Port) (s : State) : (s.setPort k x).dt = s.dt := rfl
@[simp] theorem State.setPort_audit (k : Nat) (x : Port) (s : State) : (s.setPort k x).audit = s.audit := rfl
@[simp] theorem State.setPort_lastReq (k : Nat) (x : Port) (s : State) : (s.setPort k x).lastReq = s.lastReq := rfl
@[simp] theorem State.setPort_sessions (k : Nat) (x : Port) (s : State) : (s.setPort k x).sessions = s.sessions := rfl

@[simp] theorem State.portOf_setPort (k : Nat) (x : Port) (s : State) : (s.setPort k x).portOf k = x :=
  AMap.getD_put_same _ _ _ _

/-- The command ports are those of origins 1 and 2 (R541, R561). -/
theorem keyCan_pathKey {r : Req} (ho : r.origin ≤ 2) (hn : r.node < 256) : keyCan (pathKey r) = none := by
  unfold keyCan pathKey
  rw [if_neg (by omega)]

/-- The oldest request of a port leaves it with its reply, which stands last on a command port unless it is a quiet OK. -/
theorem answer_portOf (k : Nat) (a : Ask) (p : Reply) (exe : Bool) (s : State) :
    ((answer k a p exe s).portOf k).waiting = (s.portOf k).waiting.drop 1 ∧
    ((answer k a p exe s).portOf k).held = false ∧
    (keyCan k = none → ((answer k a p exe s).portOf k).replies = (s.portOf k).replies ++
      if a.req.quiet && p.status == St.ok then [] else [replyBytes a p]) := by
  unfold answer
  extract_lets x s1 l s2 s3
  have h3 : s3.portOf k = { x with waiting := x.waiting.drop 1, held := false } := by
    have h1 : s1.portOf k = { x with waiting := x.waiting.drop 1, held := false } := State.portOf_setPort _ _ _
    rw [← h1]
    unfold s3
    split
    · split <;> rfl
    · rfl
  clear_value s3
  split
  · simp [h3, x]
  · unfold putReply
    split
    · rename_i c hc
      have e : ∀ y, (setCan c y s3).portOf k = s3.portOf k := fun _ => rfl
      simp [e, h3, x, hc]
    · simp [h3, x]

/-! ### A request that its port takes -/

/-- The request an operation makes, its frame, flags and CRC good. -/
def askFor (r : Req) (op : Op) : Ask := { req := r, code := opCode op, op := some op }

/-- An operation that asks for no SAFE, has parameters of a length it takes, and needs no glove decision: its port
executes it as it comes to the head. -/
structure PlainOp (op : Op) : Prop where
  notSafe : op ≠ .safeReq
  notModeSafe : op ≠ .modeReq Mode.safe
  form : opForm op = true
  noGlove : needsGlove op = false

/-- A request taken in state s stands alone at the head of its port, and nothing else has come of it. -/
structure Stands (a : Ask) (s u : State) : Prop where
  waiting : (u.portOf (pathKey a.req)).waiting = [a]
  held : (u.portOf (pathKey a.req)).held = false
  replies : (u.portOf (pathKey a.req)).replies = (s.portOf (pathKey a.req)).replies
  path : Answered [] s u
  dt : u.dt = s.dt
  audit : u.audit = s.audit
  lastReq : u.lastReq = s.lastReq
  sessions : u.sessions = s.sessions

theorem takes_tick {r : Req} {s : State} (e : Nat) (h : Takes r s) : Takes r (s.tick e) := h

theorem knownCode_opCode (op : Op) : knownCode (opCode op) = true := by cases op <;> rfl

/-- What a port holds does not depend on more than the ports and the controllers. -/
theorem heldCount_congr {s t : State} (hp : t.ports = s.ports) (hc : t.can = s.can) (k : Nat) :
    heldCount t k = heldCount s k := by
  simp only [heldCount, portHeld, State.portOf, canOf, hp, hc]

/-- The request counter of a command port is among the registers of `portRegs`. -/
theorem portStat_mem {r : Req} (ho : 1 ≤ r.origin ∧ r.origin ≤ 5 ∧ r.node < 256) (hk : keyCan (pathKey r) = none) :
    R.CMD_PORT_STAT (pathKey r / 256 - 1) ∈ portRegs := by
  obtain ⟨h1, h5, hn⟩ := ho
  have hdiv : pathKey r / 256 = r.origin := by unfold pathKey; omega
  have h2 : r.origin ≤ 2 := by
    by_contra h
    unfold keyCan at hk
    rw [if_pos (by unfold pathKey; omega)] at hk
    cases hk
  have hor : r.origin = 1 ∨ r.origin = 2 := by omega
  rw [hdiv]
  rcases hor with e | e <;> simp [e, portRegs]

/-- The request counter of a command port (`CMD_PORT_STAT.REQUESTS`) advanced; the tunnel's ports have none. -/
def countAsk (k : Nat) (s : State) : State :=
  match keyCan k with
  | some _ => s
  | none =>
    let i := R.CMD_PORT_STAT (k / 256 - 1)
    s.setFld i F.CMD_PORT_STAT.REQUESTS (s.fld i F.CMD_PORT_STAT.REQUESTS + 1)

/-- A good request put behind those that wait at a port; the unbroken runs of drops and bad CRCs end with it (R544). -/
def enqueue (k : Nat) (a : Ask) (s : State) : State :=
  let s := s.setPort k { s.portOf k with dropRun := false }
  let s := s.setPort k { s.portOf k with crcRun := false }
  s.setPort k { s.portOf k with waiting := (s.portOf k).waiting ++ [a] }

/-- A good request that does not ask for SAFE is counted and put in its port's queue, or dropped when that is full. -/
theorem askEnters_of_good {a : Ask} {s : State} (hlive : portsLive s = true) (hsafe : asksSafe a = false)
    (hcrc : a.crcBad = false) : askEnters a s =
      if 16 ≤ heldCount (countAsk (pathKey a.req) s) (pathKey a.req)
      then (false, dropAsk (pathKey a.req) (countAsk (pathKey a.req) s))
      else (true, enqueue (pathKey a.req) a (countAsk (pathKey a.req) s)) := by
  unfold askEnters
  rw [if_neg (by simp [hlive])]
  simp -zeta only [hsafe, hcrc, Bool.false_and, Bool.false_eq_true, if_false]
  rfl

/-- Counting a request at one of the five paths writes nothing but its port's counter. -/
theorem countAsk_answered {r : Req} (ho : 1 ≤ r.origin ∧ r.origin ≤ 5 ∧ r.node < 256) (s : State) :
    Answered [] s (countAsk (pathKey r) s) := by
  unfold countAsk
  split
  · exact Answered.refl _ _
  · rename_i hk
    exact answered_setFld (List.mem_append_left _ (portStat_mem ho hk)) _ _ _

/-- Storing a field changes nothing but the registers. -/
theorem State.setFld_only (i : Nat) (f : Fld) (x : Nat) (s : State) :
    s.setFld i f x = { s with regs := (s.setFld i f x).regs } := rfl

/-- Counting a request changes nothing but the registers. -/
theorem countAsk_only (k : Nat) (s : State) : countAsk k s = { s with regs := (countAsk k s).regs } := by
  unfold countAsk
  split
  · rfl
  · exact State.setFld_only _ _ _ _

/-- A request put behind the others stands last in its port. -/
theorem enqueue_portOf (k : Nat) (a : Ask) (s : State) : ((enqueue k a s).portOf k) =
    { s.portOf k with dropRun := false, crcRun := false, waiting := (s.portOf k).waiting ++ [a] } := by
  simp [enqueue]

theorem enqueue_answered (k : Nat) (a : Ask) (s : State) : Answered [] s (enqueue k a s) :=
  (answered_setPort _ _ _).trans ((answered_setPort _ _ _).trans (answered_setPort _ _ _))

@[simp] theorem enqueue_dt (k : Nat) (a : Ask) (s : State) : (enqueue k a s).dt = s.dt := by simp [enqueue]
@[simp] theorem enqueue_audit (k : Nat) (a : Ask) (s : State) : (enqueue k a s).audit = s.audit := by simp [enqueue]
@[simp] theorem enqueue_lastReq (k : Nat) (a : Ask) (s : State) : (enqueue k a s).lastReq = s.lastReq := by simp [enqueue]
@[simp] theorem enqueue_sessions (k : Nat) (a : Ask) (s : State) : (enqueue k a s).sessions = s.sessions := by simp [enqueue]

/-- A plain request enters a port that takes it. -/
theorem askEnters_of_takes {r : Req} {op : Op} {s : State} (h : Takes r s) (ho : PlainOp op) :
    ∃ u, askEnters (askFor r op) s = (true, u) ∧ Stands (askFor r op) s u := by
  obtain ⟨hrun, -, hpath, hwait, hheld, hroom, -⟩ := h
  have hlive : portsLive s = true := by simp [portsLive, hrun]
  have hsafe : asksSafe (askFor r op) = false := by simp [asksSafe, askFor, ho.notSafe, ho.notModeSafe]
  have hcount := countAsk_only (pathKey r) s
  have hans := countAsk_answered hpath s
  rw [askEnters_of_good hlive hsafe rfl, show (askFor r op).req = r from rfl]
  generalize countAsk (pathKey r) s = c at hcount hans
  have hports : c.ports = s.ports := by rw [hcount]
  have hport : c.portOf (pathKey r) = s.portOf (pathKey r) := by simp only [State.portOf, hports]
  have hcan : c.can = s.can := by rw [hcount]
  rw [if_neg (by rw [heldCount_congr hports hcan]; exact Nat.not_le.mpr hroom)]
  have hu := enqueue_portOf (pathKey r) (askFor r op) c
  rw [hport] at hu
  refine ⟨_, rfl, ?_⟩
  constructor
  case waiting => exact (congrArg Port.waiting hu).trans (by simp [hwait])
  case held => exact (congrArg Port.held hu).trans hheld
  case replies => exact (congrArg Port.replies hu :)
  case path => exact hans.trans (enqueue_answered _ _ _)
  all_goals
    simp only [enqueue_dt, enqueue_audit, enqueue_lastReq, enqueue_sessions]
    rw [hcount]

/-- A plain request whose turn has come is executed, and its reply is that of its execution. -/
theorem decideAsk_of_stands {stepGo : State → State} {r : Req} {op : Op} {s u : State} (h : Takes r s) (ho : PlainOp op)
    (hu : Stands (askFor r op) s u) : decideAsk stepGo (pathKey r) (askFor r op) u =
      .reply (opRun stepGo r op u).reply (opRun stepGo r op u).exe (opRun stepGo r op u).s := by
  obtain ⟨hrun, himg, -, -, -, -, hseq, -, hsess⟩ := h
  have hboot : u.boot = s.boot := by rw [hu.path.1]
  have hnew : repeated u (pathKey r) (askFor r op) = none := by
    unfold repeated
    rw [hu.lastReq]
    cases hl : AMap.get? s.lastReq (pathKey r) with
    | none => rfl
    | some l =>
      rw [hl] at hseq
      have : (l.seq == r.seq) = false := by simpa using hseq
      simp [askFor, this]
  have hopen : sessionOpenTo u (askFor r op) = true := by
    unfold sessionOpenTo
    rw [hu.sessions]
    rcases hsess with h0 | hp
    · simp [askFor, h0]
    · unfold privileged at hp
      cases hg : AMap.get? s.sessions r.session with
      | none => simp [hg] at hp
      | some x =>
        simp only [hg, Bool.and_eq_true] at hp
        obtain ⟨⟨⟨hauth, horig⟩, hnode⟩, -⟩ := hp
        simp [askFor, hg, hauth, horig, hnode]
  have hbooting : booting u = false := by simp [booting, hboot, hrun]
  unfold askFor at hnew hopen ⊢
  simp [decideAsk, hnew, hopen, ho.notSafe, ho.notModeSafe, hbooting, knownCode_opCode, hboot, himg, ho.form, ho.noGlove]

/-- A plain request that its port takes is executed within the command, and answered with what its execution gives. -/
theorem hostOp_of_takes {stepGo : State → State} {r : Req} {op : Op} {s : State} (h : Takes r s) (ho : PlainOp op) :
    ∃ u, Stands (askFor r op) s u ∧ hostOp stepGo r op s = answer (pathKey r) (askFor r op)
      (opRun stepGo r op u).reply (opRun stepGo r op u).exe (opRun stepGo r op u).s := by
  obtain ⟨u, he, hu⟩ := askEnters_of_takes h ho
  obtain ⟨-, -, -, -, hheld, -, -, hkept, -⟩ := id h
  refine ⟨u, hu, ?_⟩
  unfold hostOp
  extract_lets a k
  rw [if_neg (by simp [k, hheld, hkept])]
  have ha : askEnters a s = (true, u) := he
  simp only [ha, if_true]
  unfold askNow
  rw [show decideAsk stepGo k a u = _ from decideAsk_of_stands h ho hu]
  rfl

/-- A request that stands at the head of its port has its reply, whatever its execution does that leaves the ports. -/
theorem replied_of_stands {r : Req} {op : Op} {s u t : State} (hnode : r.node < 256) (hu : Stands (askFor r op) s u)
    (ht : t.ports = u.ports) (st : Nat) (payload : List Byte) (exe : Bool) :
    Replied r (opCode op) st payload s (answer (pathKey r) (askFor r op) ⟨st, payload⟩ exe t) := by
  obtain ⟨hwait, hheld, hreplies⟩ := answer_portOf (pathKey r) (askFor r op) ⟨st, payload⟩ exe t
  have hport : t.portOf (pathKey r) = u.portOf (pathKey r) := by simp only [State.portOf, ht]
  refine ⟨?_, hheld, fun ho => ?_⟩
  · rw [hwait, hport, show (u.portOf (pathKey r)).waiting = [askFor r op] from hu.waiting]
    rfl
  · rw [hreplies (keyCan_pathKey ho hnode), hport,
      show (u.portOf (pathKey r)).replies = (s.portOf (pathKey r)).replies from hu.replies]
    rfl

/-- Answering a request lets no device time pass. -/
theorem answer_dt (k : Nat) (a : Ask) (p : Reply) (exe : Bool) (s : State) : (answer k a p exe s).dt = s.dt :=
  (alter_answer k a p exe s).dt (by decide)

/-- Answering a request leaves the audit log. -/
theorem answer_audit (k : Nat) (a : Ask) (p : Reply) (exe : Bool) (s : State) : (answer k a p exe s).audit = s.audit :=
  (alter_answer k a p exe s).audit (by decide)

/-- A plain request that its port takes and whose execution leaves the ports: it is executed from a state in which it
stands alone at the head of its port, its reply is that of its execution, and answering it changes nothing else. -/
theorem hostOp_replies {stepGo : State → State} {r : Req} {op : Op} {s : State} (h : Takes r s) (ho : PlainOp op) :
    ∃ u, Stands (askFor r op) s u ∧ ∀ (st : Nat) (payload : List Byte) (exe : Bool) (w : State),
      opRun stepGo r op u = ⟨⟨st, payload⟩, exe, w⟩ → w.ports = u.ports →
      ∃ t, hostOp stepGo r op s = t ∧ Replied r (opCode op) st payload s t ∧ Answered [] w t ∧ t.dt = w.dt ∧
        t.audit = w.audit := by
  obtain ⟨u, hu, hrun⟩ := hostOp_of_takes (stepGo := stepGo) h ho
  obtain ⟨-, -, ⟨-, -, hnode⟩, -⟩ := h
  refine ⟨u, hu, fun st payload exe w hop hw => ⟨_, hrun, ?_⟩⟩
  rw [hop]
  exact ⟨replied_of_stands hnode hu hw st payload exe, answered_answer .., answer_dt .., answer_audit ..⟩

end Sys2Proof.Machine
end

section
/-! SUPPORT. A packet that writes one register: its item (R549, R695), its audit entry (R578 to R583) and its reply. -/

namespace Sys2Proof.Machine

/-- An entry that finds room stands last in the audit buffer (R580, R583). -/
theorem auditAdd_room (a : AuditEntry) {s : State} (h : s.auditFull = false) :
    ∃ x : AuditEntry, (s.auditAdd a).audit.buf = s.audit.buf ++ [x] ∧ x.kind = a.kind ∧ x.index = a.index ∧
      x.origin = a.origin ∧ x.node = a.node ∧ x.session = a.session := by
  unfold State.auditAdd
  rw [if_neg (by simp [h])]
  exact ⟨_, rfl, rfl, rfl, rfl, rfl, rfl⟩

theorem answered_auditAdd (a : AuditEntry) {s : State} (h : s.auditFull = false) : Answered [] s (s.auditAdd a) := by
  unfold State.auditAdd
  rw [if_neg (by simp [h])]
  exact answered_auditPush _ _

/-- A write of a whole register outside the windows, alone in its packet, that its checks accept: it acts when it
accesses a field (R695), and is entered in the audit log when R578 has it so. -/
theorem writeItem_done {stepGo : State → State} {r : Req} {it : Item} {row : RegRow} {s : State} {w : Wr} {o : WOut}
    (hrow : regRow it.idx = some row) (hidx : it.idx < 0x4000) (hwrite : row.fields.any (fun f => f.cls.writable) = true)
    (hwin : windowData it.idx = false) (hmod : it.modify = false)
    (hw : wrOf row it (readReg r s it.idx) (s.reg it.idx) = w) (hpriv : privileged s r = true) (hroom : s.auditFull = false)
    (ho : (if w.touches then regWrite stepGo r w s else ⟨0, St.ok, s⟩) = o) (hdone : (regWrite stepGo r w s).lv = 0) :
    (writeItem stepGo r true it s).o =
      if w.audited then
        { o with s := o.s.auditAdd (writeEntry r w (tableAddr s it.idx) (readReg r o.s it.idx ||| w.trig) o.st) }
      else o := by
  have hgwin : (it.idx != R.ENG_GWIN_DATA) = true := by
    simp only [windowData, Bool.or_eq_false_iff] at hwin
    simp [bne, hwin]
  have hlv : o.lv = 0 := by
    rw [← ho]
    split
    · exact hdone
    · rfl
  have ho' : (if (decide ((regWrite stepGo r w s).lv = 0) && !w.touches) = true then ⟨0, St.ok, s⟩
      else regWrite stepGo r w s) = o := by
    rw [← ho, hdone]
    cases w.touches <;> rfl
  unfold writeItem
  rw [if_neg (by omega)]
  simp only [hrow, hwrite, hwin, hw, hmod, hpriv, hroom, hgwin, Bool.not_true, Bool.not_false, Bool.false_eq_true,
    Bool.and_false, Bool.and_true, Bool.false_and, Bool.or_false, if_false, ho', hlv]
  rw [if_neg (by decide), if_neg (by decide)]
  cases w.audited <;> rfl

/-- What the audit entry of a write outside the windows and the lifetime clear carries (R583). -/
theorem writeEntry_of_plain (r : Req) (w : Wr) (addr : Nat) (new : Reg) (status : Nat) (hwin : windowData w.idx = false)
    (hlife : w.idx ≠ R.LIFE_CTRL) : writeEntry r w addr new status = auditOf r 1 w.idx 0 w.old.toNat new.toNat status := by
  unfold writeEntry
  rw [if_neg (by simp [hwin, hlife])]

/-- A write packet of one item that is done answers its item's status; beside what the item does, at most the run of
full audit buffers ends (R551, R580). -/
theorem writePacket_single {stepGo : State → State} {r : Req} {it : Item} {s : State} {o : WOut}
    (ho : (writeItem stepGo r true it s).o = o) (hdone : o.lv = 0) :
    ∃ run : Bool, writePacket stepGo r [it] false s =
      ⟨⟨o.st, []⟩, true, { o.s with audit := { o.s.audit with fullRun := run } }⟩ := by
  unfold writePacket
  simp only [List.length_cons, List.length_nil, runItems, ho, hdone, if_true, beq_self_eq_true, Nat.zero_add, leastBad,
    Bool.false_eq_true, if_false]
  have hst : (if o.st = St.ok then St.ok else o.st) = o.st := by
    split
    · rename_i h
      exact h.symm
    · rfl
  rw [hst]
  split
  · exact ⟨o.s.audit.fullRun, rfl⟩
  · exact ⟨false, rfl⟩

/-- A register write of one register is a packet of one item. -/
theorem opRun_regWrite_single (stepGo : State → State) (r : Req) (i : Nat) (v : Reg) (s : State) :
    opRun stepGo r (.regWrite [(i, v)]) s = writePacket stepGo r [⟨i, allOnes, v, false⟩] false s := by
  unfold opRun
  rw [if_neg (by simp [opRange])]
  rfl

end Sys2Proof.Machine
end

section
/-! SUPPORT. A write of `DEV_SAFE_CAUSE` (R78): which causes it clears, what becomes of the item that makes it, and the
settling of O53. -/

namespace Sys2Proof.Machine

/-! ### A bit of a bitmap cleared -/

/-- One less than an odd number differs from it in bit 0 alone. -/
theorem testBit_pred_of_odd {q : Nat} (h : q.testBit 0 = true) (j : Nat) :
    (q - 1).testBit j = (q.testBit j && decide (j ≠ 0)) := by
  have hodd : q % 2 = 1 := by simpa [Nat.testBit_zero] using h
  cases j with
  | zero => simp [Nat.testBit_zero]; omega
  | succ j =>
    have hhalf : (q - 1) / 2 = q / 2 := by omega
    simp [Nat.testBit_succ, hhalf]

/-- A bitmap with a bit cleared, bit by bit. -/
theorem clrBitN_testBit (n b c : Nat) : (clrBitN n b).testBit c = (n.testBit c && decide (c ≠ b)) := by
  unfold clrBitN
  split
  · rename_i h
    have hq : (n / 2 ^ b).testBit 0 = true := by rw [Nat.testBit_div_two_pow, Nat.zero_add]; exact h
    have hpos : 1 ≤ n / 2 ^ b := Nat.one_le_iff_ne_zero.mpr fun e => by simp [e] at hq
    have hr : n % 2 ^ b < 2 ^ b := Nat.mod_lt _ (Nat.two_pow_pos b)
    have hn : n = 2 ^ b * (n / 2 ^ b) + n % 2 ^ b := (Nat.div_add_mod n (2 ^ b)).symm
    have hm : n - 2 ^ b = 2 ^ b * (n / 2 ^ b - 1) + n % 2 ^ b := by
      rw [Nat.mul_sub, Nat.mul_one, ← Nat.sub_add_comm (Nat.le_mul_of_pos_right _ hpos), ← hn]
    rw [hm, Nat.testBit_two_pow_mul_add _ hr, testBit_pred_of_odd hq]
    conv_rhs => rw [hn, Nat.testBit_two_pow_mul_add _ hr]
    split
    · have : c ≠ b := by omega
      simp [this]
    · have : c - b ≠ 0 ↔ c ≠ b := by omega
      simp [this]
  · rename_i h
    by_cases e : c = b
    · simp [e, h]
    · simp [e]

/-! ### The causes -/

/-- The registers that a write of `DEV_SAFE_CAUSE` writes itself: the causes, and the latch of OV2 (R78, R421). -/
abbrev causeRegs : List Nat := [R.DEV_SAFE_CAUSE, R.DCL_STAT]

/-- A cause is recorded. -/
def causeSet (s : State) (b : Nat) : Bool := bitN (s.fld R.DEV_SAFE_CAUSE ⟨11, 0⟩) b

theorem causeSet_of_reg {s t : State} (h : t.reg R.DEV_SAFE_CAUSE = s.reg R.DEV_SAFE_CAUSE) (b : Nat) :
    causeSet t b = causeSet s b := by
  unfold causeSet
  rw [State.fld_of_reg h]

/-- A cause's condition depends on none of the fields that carry a request, nor on the causes and the latch of OV2. -/
theorem causeEnded_of_answered {s t : State} (h : Answered causeRegs s t) (hdt : t.dt = s.dt)
    (hov : t.bit R.DCL_STAT F.DCL_STAT.OV1 = s.bit R.DCL_STAT F.DCL_STAT.OV1) (b : Nat) :
    causeEnded t b = causeEnded s b := by
  unfold causeEnded stoBoth
  rw [h.bit (i := R.DEV_STO_STAT) (by decide) F.DEV_STO_STAT.STO_A,
    h.bit (i := R.DEV_STO_STAT) (by decide) F.DEV_STO_STAT.STO_B,
    h.bit (i := R.DEV_CLK_STAT) (by decide), h.bit (i := R.DEV_SUPPLY) (by decide), h.bit (i := R.DEV_MODE) (by decide),
    h.fld (i := R.GLV_STAT) (by decide), hov, hdt, h.stoHigh, h.glove]

/-- One cause cleared when its condition has ended; clearing OV2 releases its latch. -/
def causeClearOne (b : Nat) (s : State) : State :=
  if !causeEnded s b then s
  else
    let s := s.setBitAt R.DEV_SAFE_CAUSE ⟨11, 0⟩ b false
    if b = 5 then s.setBit R.DCL_STAT F.DCL_STAT.OV2 false else s

/-- A write of the causes clears those named, one after another. -/
theorem causeClear_eq (v : Reg) (s : State) : causeClear v s = forEach (bitsOf 12 v.toNat) causeClearOne s := rfl

theorem causeClearOne_answered (b : Nat) (s : State) : Answered causeRegs s (causeClearOne b s) := by
  have hbit : Answered causeRegs s (s.setBitAt R.DEV_SAFE_CAUSE ⟨11, 0⟩ b false) := answered_setFld (by decide) _ _ _
  unfold causeClearOne
  split
  · exact Answered.refl _ _
  · split
    · exact hbit.trans (answered_setFld (by decide) _ _ _)
    · exact hbit

theorem causeClearOne_dt (b : Nat) (s : State) : (causeClearOne b s).dt = s.dt := by
  unfold causeClearOne
  split
  · rfl
  · have hbit : (s.setBitAt R.DEV_SAFE_CAUSE ⟨11, 0⟩ b false).dt = s.dt := State.setFld_dt _ _ _ _
    extract_lets u
    split
    · exact (State.setBit_dt _ _ _ _).trans hbit
    · exact hbit

theorem causeClearOne_ov1 (b : Nat) (s : State) :
    (causeClearOne b s).bit R.DCL_STAT F.DCL_STAT.OV1 = s.bit R.DCL_STAT F.DCL_STAT.OV1 := by
  have hcause : (s.setBitAt R.DEV_SAFE_CAUSE ⟨11, 0⟩ b false).fld R.DCL_STAT F.DCL_STAT.OV1 =
      s.fld R.DCL_STAT F.DCL_STAT.OV1 :=
    State.fld_of_reg (State.reg_setFld_ne _ _ _ (by decide)) _
  unfold State.bit causeClearOne
  split
  · rfl
  · extract_lets u
    split
    · have hlatch : (u.setBit R.DCL_STAT F.DCL_STAT.OV2 false).fld R.DCL_STAT F.DCL_STAT.OV1 =
          u.fld R.DCL_STAT F.DCL_STAT.OV1 :=
        State.fld_setFld_other _ _ _ _ _ _ (by decide) (by decide) (by decide) (by decide)
      rw [hlatch, hcause]
    · rw [hcause]

/-- Clearing one cause ends or begins no cause's condition. -/
theorem causeEnded_causeClearOne (b c : Nat) (s : State) : causeEnded (causeClearOne b s) c = causeEnded s c :=
  causeEnded_of_answered (causeClearOne_answered b s) (causeClearOne_dt b s) (causeClearOne_ov1 b s) c

/-- Clearing one cause clears that cause alone, and only when its condition has ended. -/
theorem causeSet_causeClearOne {c : Nat} (hc : c < 12) (b : Nat) (s : State) :
    causeSet (causeClearOne b s) c = (causeSet s c && !(decide (c = b) && causeEnded s c)) := by
  have hbit : causeSet (s.setBitAt R.DEV_SAFE_CAUSE ⟨11, 0⟩ b false) c = (causeSet s c && decide (c ≠ b)) := by
    unfold causeSet State.setBitAt
    rw [State.fld_setFld_same _ _ _ _ (by decide) (by decide), if_neg (by decide), bitN, Nat.testBit_mod_two_pow,
      clrBitN_testBit]
    simp [Fld.width, hc]
  unfold causeClearOne
  by_cases hb : causeEnded s b = true
  · rw [if_neg (by simp [hb])]
    have hlatch : ∀ u : State, causeSet (if b = 5 then u.setBit R.DCL_STAT F.DCL_STAT.OV2 false else u) c =
        causeSet u c := by
      intro u
      split
      · exact causeSet_of_reg (State.reg_setBit_ne _ _ _ (by decide)) c
      · rfl
    rw [hlatch, hbit]
    by_cases e : c = b
    · simp [e, hb]
    · simp [e]
  · rw [if_pos (by simpa using hb)]
    by_cases e : c = b
    · subst e
      simp [hb]
    · simp [e]

/-- Clearing causes one after another clears those of them whose condition has ended. -/
theorem causeSet_forEach {c : Nat} (hc : c < 12) (l : List Nat) (s : State) :
    causeSet (forEach l causeClearOne s) c = (causeSet s c && !(decide (c ∈ l) && causeEnded s c)) := by
  induction l generalizing s with
  | nil => simp [forEach]
  | cons b l ih =>
    have hstep : forEach (b :: l) causeClearOne s = forEach l causeClearOne (causeClearOne b s) := rfl
    rw [hstep, ih, causeSet_causeClearOne hc, causeEnded_causeClearOne]
    cases causeSet s c <;> cases causeEnded s c <;> simp

theorem mem_bitsOf {n m b : Nat} : b ∈ bitsOf n m ↔ b < n ∧ m.testBit b = true := by simp [bitsOf]

/-- R78: a write clears the causes written 1 whose condition has ended, and leaves the others. -/
theorem causeSet_causeClear {c : Nat} (hc : c < 12) (v : Reg) (s : State) :
    causeSet (causeClear v s) c = (causeSet s c && !(v.getLsbD c && causeEnded s c)) := by
  rw [causeClear_eq, causeSet_forEach hc]
  simp [mem_bitsOf, hc, BitVec.getLsbD]

theorem causeClear_answered (v : Reg) (s : State) : Answered causeRegs s (causeClear v s) := by
  rw [causeClear_eq]
  generalize bitsOf 12 v.toNat = l
  induction l generalizing s with
  | nil => exact Answered.refl _ _
  | cons b l ih => exact (causeClearOne_answered b s).trans (ih _)

/-! ### The item of the write -/

/-- The twelve causes of `DEV_SAFE_CAUSE`, bits 11 to 0, each cleared by a privileged write of 1. -/
def safeCauseRow : RegRow := ⟨R.DEV_SAFE_CAUSE, 0, 1, 0, 1, (List.range 12).reverse.map fun b => ⟨b, b, .w1cp, 0⟩⟩

theorem regRow_safeCause : regRow R.DEV_SAFE_CAUSE = some safeCauseRow := by decide

/-- The item that writes a value to the causes. -/
def causeItem (v : Reg) : Item := ⟨R.DEV_SAFE_CAUSE, allOnes, v, false⟩

/-- A value names some of the twelve causes. -/
theorem exists_cause_iff (v : Reg) : v &&& 0xFFF#40 ≠ 0#40 ↔ ∃ b < 12, v.getLsbD b = true := by
  have hmask : ∀ i < 40, (0xFFF#40).getLsbD i = decide (i < 12) := by decide
  constructor
  · intro h
    by_contra hn
    refine h (BitVec.eq_of_getLsbD_eq fun i hi => ?_)
    rw [BitVec.getLsbD_and, hmask i hi]
    by_cases hb : i < 12
    · have : v.getLsbD i = false := by simpa using fun e => hn ⟨i, hb, e⟩
      simp [this]
    · simp [hb]
  · rintro ⟨b, hb, hv⟩ h
    have := congrArg (BitVec.getLsbD · b) h
    simp [hmask b (by omega), hv, hb] at this

/-- A write of the causes accesses a field when it names one of them. -/
theorem causeItem_accesses (v : Reg) : safeCauseRow.fields.any (causeItem v).accesses =
    decide (v &&& 0xFFF#40 ≠ 0#40) := by
  have hmask : ∀ b < 12, (⟨b, b⟩ : Fld).mask &&& allOnes = BitVec.twoPow 40 b := by decide
  have hone : ∀ b < 12, (v &&& BitVec.twoPow 40 b != 0#40) = v.getLsbD b := by
    intro b hb
    have hne : ∀ b < 12, BitVec.twoPow 40 b ≠ 0#40 := by decide
    rw [BitVec.and_twoPow]
    cases v.getLsbD b <;> simp [hne b hb]
  rw [Bool.eq_iff_iff, decide_eq_true_eq, exists_cause_iff]
  simp only [safeCauseRow, List.any_map, List.any_reverse, List.any_eq_true, List.mem_range, Function.comp_apply]
  refine exists_congr fun b => and_congr_right fun hb => ?_
  rw [← hone b hb, ← hmask b hb]
  rfl

/-- Only the twelve cause bits of a value count. -/
theorem causeClear_congr {v w : Reg} (h : ∀ b < 12, v.getLsbD b = w.getLsbD b) (s : State) :
    causeClear v s = causeClear w s := by
  have : bitsOf 12 v.toNat = bitsOf 12 w.toNat :=
    List.filter_congr fun b hb => h b (List.mem_range.mp hb)
  rw [causeClear_eq, causeClear_eq, this]

/-- A value that names no cause clears none. -/
theorem causeClear_none {v : Reg} (h : v &&& 0xFFF#40 = 0#40) (s : State) : causeClear v s = s := by
  have hv : ∀ b < 12, v.getLsbD b = (0#40).getLsbD b := fun b hb => by
    simpa using fun e => (exists_cause_iff v).mpr ⟨b, hb, e⟩ h
  rw [causeClear_congr hv]
  rfl

/-- The bits a write of the causes clears are those of its value. -/
theorem causeClear_clr (v old stored : Reg) (s : State) :
    causeClear (wrOf safeCauseRow (causeItem v) old stored).clr s = causeClear v s := by
  have hmask : ∀ b < 12, (allOnes &&& clsMask safeCauseRow [.w1c, .w1cp]).getLsbD b = true := by decide
  refine causeClear_congr (fun b hb => ?_) s
  have hclr : (wrOf safeCauseRow (causeItem v) old stored).clr = v &&& (allOnes &&& clsMask safeCauseRow [.w1c, .w1cp]) :=
    BitVec.and_assoc _ _ _
  rw [hclr, BitVec.getLsbD_and, hmask b hb, Bool.and_true]

/-- What becomes of the item that writes the causes, by its audit entry (R578). -/
theorem writeItem_cause {stepGo : State → State} {r : Req} (v : Reg) {s : State} (hpriv : privileged s r = true)
    (hroom : s.auditFull = false) : ∃ old new : Nat, (writeItem stepGo r true (causeItem v) s).o =
      ⟨0, St.ok, if v &&& 0xFFF#40 = 0#40 then s
        else (causeClear v s).auditAdd (auditOf r 1 R.DEV_SAFE_CAUSE 0 old new St.ok)⟩ := by
  generalize hw : wrOf safeCauseRow (causeItem v) (readReg r s R.DEV_SAFE_CAUSE) (s.reg R.DEV_SAFE_CAUSE) = w
  have hidx : w.idx = R.DEV_SAFE_CAUSE := by rw [← hw]; rfl
  have htouch : w.touches = decide (v &&& 0xFFF#40 ≠ 0#40) := by rw [← hw]; exact causeItem_accesses v
  have haudit : w.audited = decide (v &&& 0xFFF#40 ≠ 0#40) := by rw [← hw]; exact causeItem_accesses v
  have hreg : regWrite stepGo r w s = ⟨0, St.ok, causeClear v s⟩ := by
    have hclr : causeClear w.clr s = causeClear v s := by rw [← hw]; exact causeClear_clr v _ _ s
    have hdev : regWrite stepGo r w s = devWrite w s := if_pos (by rw [hidx]; decide)
    simp [hdev, devWrite, hidx, hclr]
  have ho : (if w.touches then regWrite stepGo r w s else ⟨0, St.ok, s⟩) = (⟨0, St.ok, causeClear v s⟩ : WOut) := by
    rw [hreg, htouch]
    by_cases h : v &&& 0xFFF#40 = 0#40
    · simp [h, causeClear_none h]
    · simp [h]
  refine ⟨w.old.toNat, (readReg r (causeClear v s) R.DEV_SAFE_CAUSE ||| w.trig).toNat, ?_⟩
  rw [writeItem_done (it := causeItem v) regRow_safeCause (by decide : R.DEV_SAFE_CAUSE < 0x4000)
    (by decide) rfl rfl hw hpriv hroom ho (by rw [hreg]), haudit,
    writeEntry_of_plain _ _ _ _ _ (by rw [hidx]; decide) (by rw [hidx]; decide), hidx]
  by_cases h : v &&& 0xFFF#40 = 0#40
  · simp [h, causeClear_none h]
  · simp only [h, ne_eq, not_false_eq_true, decide_true, if_true, if_false]
    rfl

/-! ### What the request does -/

/-- A privileged write of a value to the causes, from the state in which its request is executed. -/
structure CausesWritten (r : Req) (v : Reg) (s t : State) : Prop where
  path : Answered causeRegs s t
  dt : t.dt = s.dt
  ports : t.ports = s.ports
  causes : ∀ b < 12, causeSet t b = (causeSet s b && !(v.getLsbD b && causeEnded s b))
  entered : v &&& 0xFFF#40 ≠ 0#40 → ∃ x : AuditEntry, t.audit.buf = s.audit.buf ++ [x] ∧ x.kind = 1 ∧
    x.index = R.DEV_SAFE_CAUSE ∧ x.origin = r.origin ∧ x.node = r.node ∧ x.session = r.session

/-- The causes cleared, with the entry that the write has when it names one of them. -/
theorem causesWritten_of_item {r : Req} {v : Reg} {s : State} (hroom : s.auditFull = false) (old new : Nat) :
    CausesWritten r v s (if v &&& 0xFFF#40 = 0#40 then s
      else (causeClear v s).auditAdd (auditOf r 1 R.DEV_SAFE_CAUSE 0 old new St.ok)) := by
  split
  · rename_i h
    refine ⟨Answered.refl _ _, rfl, rfl, fun b hb => ?_, fun k => absurd h k⟩
    have := causeSet_causeClear hb v s
    rwa [causeClear_none h] at this
  · have hclear := alter_causeClear v s
    have haudit : (causeClear v s).audit = s.audit := hclear.audit (by decide)
    have hfull : (causeClear v s).auditFull = false := by rw [State.auditFull, haudit]; exact hroom
    have hadd := alter_auditAdd (auditOf r 1 R.DEV_SAFE_CAUSE 0 old new St.ok) (causeClear v s)
    have hpath := answered_auditAdd (auditOf r 1 R.DEV_SAFE_CAUSE 0 old new St.ok) hfull
    constructor
    case path => exact (causeClear_answered v s).trans (hpath.mono (List.nil_subset _))
    case dt => exact (hadd.dt (by decide)).trans (hclear.dt (by decide))
    case ports => exact (hadd.ports (by decide)).trans (hclear.ports (by decide))
    case causes =>
      intro b hb
      rw [causeSet_of_reg (hpath.reg _ (by decide)), causeSet_causeClear hb]
    case entered =>
      intro _
      obtain ⟨x, hbuf, hx⟩ := auditAdd_room (auditOf r 1 R.DEV_SAFE_CAUSE 0 old new St.ok) hfull
      exact ⟨x, by rw [hbuf, haudit], hx⟩

/-- The run of full buffers is no part of what a write of the causes does. -/
theorem CausesWritten.fullRun {r : Req} {v : Reg} {s t : State} (h : CausesWritten r v s t) (run : Bool) :
    CausesWritten r v s { t with audit := { t.audit with fullRun := run } } :=
  ⟨h.path.trans ((answered_audit _ t).mono (List.nil_subset _)), h.dt, h.ports, h.causes, h.entered⟩

/-- SAFE_CAUSE_CLEAR as an operation of the ports (R78). -/
abbrev causeOp (v : Reg) : Op := .regWrite [(R.DEV_SAFE_CAUSE, v)]

theorem plainOp_cause (v : Reg) : PlainOp (causeOp v) := ⟨nofun, nofun, rfl, rfl⟩

/-- The execution of a write of the causes, from a privileged session and with room in the audit buffer. -/
theorem opRun_cause {stepGo : State → State} {r : Req} (v : Reg) {s : State} (hpriv : privileged s r = true)
    (hroom : s.auditFull = false) :
    ∃ t, opRun stepGo r (causeOp v) s = ⟨⟨St.ok, []⟩, true, t⟩ ∧ CausesWritten r v s t := by
  obtain ⟨old, new, ho⟩ := writeItem_cause (stepGo := stepGo) v hpriv hroom
  obtain ⟨run, hw⟩ := writePacket_single ho rfl
  exact ⟨_, (opRun_regWrite_single ..).trans hw, (causesWritten_of_item hroom old new).fullRun run⟩

/-- SAFE_CAUSE_CLEAR is its operation, from its arrival to its execution. -/
theorem exec_safeCauseClear (e : Nat) (r : Req) (v : Reg) (s : State) :
    exec (.safeCauseClear e r v) s = .next (hostOp stepGo r (causeOp v) (s.tick e)) := rfl

/-- Settles O53. The request is executed within the command; its write clears the causes it names whose condition has
ended at that tick, and its arrival and its answer touch neither the causes nor what their conditions depend on. -/
theorem causeStaysWhileItsConditionHolds : Obligations.CauseStaysWhileItsConditionHolds := by
  intro e r v s htakes hpriv hroom
  obtain ⟨u, hu, hreplies⟩ := hostOp_replies (stepGo := stepGo) (takes_tick e htakes) (plainOp_cause v)
  have hprivU : privileged u r = true := by unfold privileged; rw [hu.sessions]; exact hpriv
  have hroomU : u.auditFull = false := by unfold State.auditFull; rw [hu.audit]; exact hroom
  obtain ⟨w, hop, hw⟩ := opRun_cause (stepGo := stepGo) v hprivU hroomU
  obtain ⟨t, ht, hreplied, hanswer, hdt, haudit⟩ := hreplies _ _ _ _ hop hw.ports
  have harrive : Answered [] s u := (answered_tick e s).trans hu.path
  have hall : Answered causeRegs s t :=
    (harrive.mono (List.nil_subset _)).trans (hw.path.trans (hanswer.mono (List.nil_subset _)))
  refine ⟨t, (exec_safeCauseClear e r v s).trans (congrArg _ ht), fun b => ?_, State.mode_of_reg (hall.reg _ (by decide)),
    hreplied, fun hv => ?_, hall⟩
  · have hended : causeEnded u b = causeEnded { s with dt := u.dt } b :=
      causeEnded_of_answered (s := { s with dt := u.dt }) (harrive.mono (List.nil_subset _)) rfl
        (harrive.bit (by decide) _) b
    calc causeSet t b = causeSet w b := causeSet_of_reg (hanswer.reg _ (by decide)) b
      _ = (causeSet u b && !(v.getLsbD b && causeEnded u b)) := hw.causes b b.isLt
      _ = (causeSet s b && !(v.getLsbD b && causeEnded { s with dt := t.dt } b)) := by
        rw [causeSet_of_reg (harrive.reg _ (by decide)), hended, hdt, hw.dt]
  · obtain ⟨x, hbuf, hx⟩ := hw.entered hv
    have hbuf' : t.audit.buf = s.audit.buf ++ [x] := by rw [haudit, hbuf, hu.audit]; rfl
    exact ⟨x, by simp [hbuf'], hx⟩

end Sys2Proof.Machine
end

section
/-! SUPPORT. A write of `ADC_REF_CTRL.EN` (R216), and the settling of O52. Turning the buffer off unsettles the reference,
which asserts the enabled comparators and may trip and latch a traction machine (R54, R200, R227); the selector then writes
`PROT_SS_STAT` of the channel that the machine's CONV record names. A record of a description has one bit for the channel
(R331), but the statement is over every state, and the `sel` of a state's record is any number. -/

namespace Sys2Proof.Machine

/-- A channel far beyond the two there are has `ADC_REF_CTRL` where its `PROT_SS_STAT` would be. -/
theorem selStat_stray : R.PROT_SS_STAT 0x5EE = R.ADC_REF_CTRL := rfl

/-- The selector's STALE has the place of the reference's EN in its register. -/
theorem stale_eq_refEn : F.PROT_SS_STAT.STALE = F.ADC_REF_CTRL.EN := rfl

/-- One traction machine, HB00, bound to a channel that the part does not have. -/
def strayPlant : Plant :=
  { W.plant 0 with convs := [{ index := 0, kind := 0, prio := 0, hold := false, group := 0, sel := 0x5EE }] }

/-- HB00 produces edges, and its first trip by comparator 0 latches it. -/
def strayArmed : State :=
  ((({ W.run Mode.ready with plant := some strayPlant }.setFld (R.PWM_HB_TRIP 0) F.PWM_HB_TRIP.SRC0 0).setFld
    (R.PWM_HB_TRIP 0) F.PWM_HB_TRIP.N 1).setBit (R.PWM_HB_STAT 0) F.PWM_HB_STAT.EN true).setBit
    (R.ADC_WCMP 0) F.ADC_WCMP.EN true

/-- The same in READY with the reference buffer on and settled. -/
def strayReady : State :=
  (strayArmed.setBit R.ADC_REF_CTRL F.ADC_REF_CTRL.EN true).setBit R.ADC_REF_CTRL F.ADC_REF_CTRL.SETTLED true

/-- REF_ENABLE_WRITE is its operation, from its arrival to its execution. -/
theorem exec_refEnableWrite (e : Nat) (r : Req) (on : Bool) (s : State) : exec (.refEnableWrite e r on) s =
    .next (hostOp stepGo r (setting s R.ADC_REF_CTRL [(F.ADC_REF_CTRL.EN, b2n on)]) (s.tick e)) := rfl

theorem takes_strayReady : Takes W.req strayReady := by decide +kernel

theorem strayReady_mode : strayReady.mode = Mode.ready := by decide +kernel

/-- The write that turns the buffer off ends with the machine's speed recorded as unknown. -/
theorem stale_of_refOff : (hostOp stepGo W.req (setting strayReady R.ADC_REF_CTRL [(F.ADC_REF_CTRL.EN, b2n false)])
    (strayReady.tick 0)).bit (R.PROT_SS_STAT 0x5EE) F.PROT_SS_STAT.STALE = true := by decide +kernel

/-- Refutes O52: in READY a write of 0 to EN is accepted, but the comparator it asserts trips HB00, whose latch sends its
machine to the selector; for channel 0x5EE that sets STALE over the EN just cleared. -/
theorem not_referenceStaysOn : ¬ Obligations.ReferenceStaysOn := by
  rintro ⟨-, haccepted⟩
  have hother : strayReady.mode ≠ Mode.drive ∧ strayReady.mode ≠ Mode.charge := by
    rw [strayReady_mode]
    decide
  obtain ⟨t, ht, hoff, -⟩ := haccepted 0 W.req false strayReady takes_strayReady (.inr hother)
  rw [exec_refEnableWrite] at ht
  injection ht with ht
  have hon : t.bit R.ADC_REF_CTRL F.ADC_REF_CTRL.EN = true := by
    rw [← ht, ← selStat_stray, ← stale_eq_refEn]
    exact stale_of_refOff
  exact absurd (hon.symm.trans hoff) (by decide)

end Sys2Proof.Machine
end

section
/-! SUPPORT. A request that its port takes, followed to its execution: the state its arrival leaves, which differs from
the one before it in its port and that port's counter alone, and the execution there of every operation that needs no
decision of the gloves, and of a software reset, whose agreed decision comes with it (R45, R549, R560). -/

namespace Sys2Proof.Machine

/-! ### The state in which a request is executed -/

/-- The state that the arrival of an operation's request leaves: counted, and last in its port. -/
def arrival (r : Req) (op : Op) (s : State) : State := enqueue (pathKey r) (askFor r op) (countAsk (pathKey r) s)

theorem arrival_only (r : Req) (op : Op) (s : State) :
    arrival r op s = { s with regs := (arrival r op s).regs, ports := (arrival r op s).ports } := by
  unfold arrival
  rw [countAsk_only]
  rfl

/-- Counting a request at one of the five paths writes no register but the two request counters. -/
theorem countAsk_reg {r : Req} (ho : 1 ≤ r.origin ∧ r.origin ≤ 5 ∧ r.node < 256) (s : State) {i : Nat}
    (hi : i ∉ [R.CMD_PORT_STAT 0, R.CMD_PORT_STAT 1]) : (countAsk (pathKey r) s).reg i = s.reg i := by
  obtain ⟨h1, h5, hn⟩ := ho
  unfold countAsk
  split
  · rfl
  · rename_i hk
    refine State.reg_setFld_ne _ _ _ fun e => hi ?_
    have hdiv : pathKey r / 256 = r.origin := by unfold pathKey; omega
    have h2 : r.origin = 1 ∨ r.origin = 2 := by
      by_contra h
      unfold keyCan at hk
      rw [if_pos (by unfold pathKey; omega)] at hk
      cases hk
    rw [e, hdiv]
    rcases h2 with h | h <;> simp [h]

/-- A register that is no port's counter reads, as a request is executed, as before it came. -/
theorem arrival_reg {r : Req} {op : Op} {s : State} (h : Takes r s) {i : Nat}
    (hi : i ∉ [R.CMD_PORT_STAT 0, R.CMD_PORT_STAT 1]) : (arrival r op s).reg i = s.reg i := by
  obtain ⟨-, -, hpath, -⟩ := h
  exact countAsk_reg hpath s hi

theorem arrival_fld {r : Req} {op : Op} {s : State} (h : Takes r s) {i : Nat}
    (hi : i ∉ [R.CMD_PORT_STAT 0, R.CMD_PORT_STAT 1]) (f : Fld) : (arrival r op s).fld i f = s.fld i f :=
  State.fld_of_reg (arrival_reg h hi) f

theorem arrival_mode {r : Req} {op : Op} {s : State} (h : Takes r s) : (arrival r op s).mode = s.mode :=
  arrival_fld h (by decide) _

theorem arrival_bit {r : Req} {op : Op} {s : State} (h : Takes r s) {i : Nat}
    (hi : i ∉ [R.CMD_PORT_STAT 0, R.CMD_PORT_STAT 1]) (f : Fld) : (arrival r op s).bit i f = s.bit i f := by
  unfold State.bit
  rw [arrival_fld h hi]

/-- The request of an operation stands alone at the head of a port that takes it. -/
theorem stands_arrival {r : Req} {s : State} (op : Op) (h : Takes r s) : Stands (askFor r op) s (arrival r op s) := by
  obtain ⟨-, -, hpath, hwait, hheld, -⟩ := h
  have hcount := countAsk_only (pathKey r) s
  have hans := countAsk_answered hpath s
  have hu : (arrival r op s).portOf (pathKey r) = _ := enqueue_portOf (pathKey r) (askFor r op) (countAsk (pathKey r) s)
  have hport : (countAsk (pathKey r) s).portOf (pathKey r) = s.portOf (pathKey r) := by
    simp only [State.portOf]
    rw [hcount]
  rw [hport] at hu
  constructor
  case waiting => exact (congrArg Port.waiting hu).trans (by simp [hwait])
  case held => exact (congrArg Port.held hu).trans hheld
  case replies => exact (congrArg Port.replies hu :)
  case path => exact hans.trans (enqueue_answered _ _ _)
  all_goals rw [arrival_only]

/-- A request that does not ask for SAFE enters a port that takes it. -/
theorem askEnters_arrival {r : Req} {op : Op} {s : State} (h : Takes r s) (hsafe : asksSafe (askFor r op) = false) :
    askEnters (askFor r op) s = (true, arrival r op s) := by
  obtain ⟨hrun, -, -, -, -, hroom, -⟩ := h
  have hcount := countAsk_only (pathKey r) s
  have hheld : heldCount (countAsk (pathKey r) s) (pathKey r) = heldCount s (pathKey r) :=
    heldCount_congr (by rw [hcount]) (by rw [hcount]) _
  rw [askEnters_of_good (by simp [portsLive, hrun]) hsafe rfl, show (askFor r op).req = r from rfl, hheld,
    if_neg (Nat.not_le.mpr hroom)]
  rfl

/-- A port that takes a request executes it as it stands after its arrival. -/
theorem hostOp_of_arrival {stepGo : State → State} {r : Req} {op : Op} {s : State} (h : Takes r s)
    (hsafe : asksSafe (askFor r op) = false) :
    hostOp stepGo r op s = askNow stepGo (pathKey r) (askFor r op) (arrival r op s) := by
  have henter := askEnters_arrival h hsafe
  obtain ⟨-, -, -, -, hheld, -, -, hkept, -⟩ := h
  unfold hostOp
  extract_lets a k
  rw [if_neg (by simp [k, hheld, hkept]), show askEnters a s = _ from henter]
  rfl

/-! ### A software reset comes with its agreed decision -/

/-- A request whose sequence number is new repeats none. -/
theorem repeated_of_stands {r : Req} {op : Op} {s u : State} (h : Takes r s) (hu : Stands (askFor r op) s u) :
    repeated u (pathKey r) (askFor r op) = none := by
  obtain ⟨-, -, -, -, -, -, hseq, -⟩ := h
  unfold repeated
  rw [hu.lastReq]
  cases hl : AMap.get? s.lastReq (pathKey r) with
  | none => rfl
  | some l =>
    rw [hl] at hseq
    have hne : (l.seq == r.seq) = false := by simpa using hseq
    simp [askFor, hne]

/-- A request that names no session, or a privileged one, is open to its sender. -/
theorem sessionOpenTo_of_stands {r : Req} {op : Op} {s u : State} (h : Takes r s) (hu : Stands (askFor r op) s u) :
    sessionOpenTo u (askFor r op) = true := by
  obtain ⟨-, -, -, -, -, -, -, -, hsess⟩ := h
  unfold sessionOpenTo
  rw [hu.sessions]
  rcases hsess with h0 | hp
  · simp [askFor, h0]
  · unfold privileged at hp
    cases hg : AMap.get? s.sessions r.session with
    | none => simp [hg] at hp
    | some x =>
      simp only [hg, Bool.and_eq_true] at hp
      obtain ⟨⟨⟨hauth, horig⟩, hnode⟩, -⟩ := hp
      simp [askFor, hg, hauth, horig, hnode]

/-- A software reset whose turn has come is a matter for the gloves (R560). -/
theorem decideAsk_reset {stepGo : State → State} {r : Req} {g : Nat} {s u : State} (h : Takes r s)
    (hu : Stands (askFor r (.reset g)) s u) : decideAsk stepGo (pathKey r) (askFor r (.reset g)) u =
      toGlove stepGo (pathKey r) (askFor r (.reset g)) (.reset g) u := by
  have hnew := repeated_of_stands h hu
  have hopen := sessionOpenTo_of_stands h hu
  obtain ⟨hrun, himg, -⟩ := h
  have hboot : u.boot = s.boot := by rw [hu.path.1]
  have hbooting : booting u = false := by simp [booting, hboot, hrun]
  unfold askFor at hnew hopen ⊢
  simp [decideAsk, hnew, hopen, hbooting, knownCode_opCode, hboot, himg, opForm, needsGlove]

/-- A software reset is executed as it comes to the head of its port: the gloves are not halted, and agree. -/
theorem askNow_reset {stepGo : State → State} {r : Req} {g : Nat} {s u : State} (h : Takes r s)
    (hu : Stands (askFor r (.reset g)) s u) : ∃ exe, askNow stepGo (pathKey r) (askFor r (.reset g)) u =
      answer (pathKey r) (askFor r (.reset g)) (opRun stepGo r (.reset g) u).reply exe (opRun stepGo r (.reset g) u).s := by
  have hdecide := decideAsk_reset (stepGo := stepGo) h hu
  obtain ⟨-, -, -, -, -, -, -, hkept, -⟩ := h
  have hhalted : u.bit R.GLV_STAT F.GLV_STAT.HALTED = false := by
    rw [hu.path.bit (by decide)]
    simp only [outputsKept, jStopped, Bool.or_eq_false_iff] at hkept
    exact hkept.1.1
  unfold askNow
  rw [hdecide]
  unfold toGlove
  extract_lets x
  by_cases hrefused : (!x.exe || !doneStatus x.reply.status) = true
  · rw [if_pos hrefused]
    exact ⟨false, rfl⟩
  · rw [if_neg hrefused, hhalted]
    exact ⟨x.exe, rfl⟩

/-! ### What its execution answers -/

/-- The operations that the model executes within the command that brings them, by one reading of their execution. -/
inductive RunsNow : Op → Prop
  | plain {op : Op} (h : PlainOp op) : RunsNow op
  | reset (g : Nat) : RunsNow (.reset g)

theorem asksSafe_of_runsNow {r : Req} {op : Op} (ho : RunsNow op) : asksSafe (askFor r op) = false := by
  cases ho with
  | plain h => simp [asksSafe, askFor, h.notSafe, h.notModeSafe]
  | reset g => simp [asksSafe, askFor]

/-- A request that its port takes is executed from the state its arrival leaves, and answered with what that gives. -/
theorem hostOp_executes {stepGo : State → State} {r : Req} {op : Op} {s : State} (h : Takes r s) (ho : RunsNow op) :
    ∃ exe, hostOp stepGo r op s = answer (pathKey r) (askFor r op) (opRun stepGo r op (arrival r op s)).reply exe
      (opRun stepGo r op (arrival r op s)).s := by
  rw [hostOp_of_arrival h (asksSafe_of_runsNow ho)]
  have hu := stands_arrival op h
  cases ho with
  | plain hplain =>
    unfold askNow
    rw [decideAsk_of_stands h hplain hu]
    exact ⟨_, rfl⟩
  | reset g => exact askNow_reset h hu

/-- The reply of a request whose execution leaves the ports, and what its answering leaves as the execution had it. -/
theorem hostOp_answered {stepGo : State → State} {r : Req} {op : Op} {s w : State} {st : Nat} {payload : List Byte}
    {exe : Bool} (h : Takes r s) (ho : RunsNow op)
    (hrun : opRun stepGo r op (arrival r op s) = ⟨⟨st, payload⟩, exe, w⟩) (hports : w.ports = (arrival r op s).ports) :
    Replied r (opCode op) st payload s (hostOp stepGo r op s) ∧ Answered [] w (hostOp stepGo r op s) ∧
      (hostOp stepGo r op s).dt = w.dt := by
  obtain ⟨exe', heq⟩ := hostOp_executes (stepGo := stepGo) h ho
  have hu := stands_arrival op h
  obtain ⟨-, -, ⟨-, -, hnode⟩, -⟩ := h
  rw [heq, hrun]
  exact ⟨replied_of_stands hnode hu hports st payload exe', answered_answer .., answer_dt ..⟩

/-- A command that is a request, taken by its port and executed with no effect but its reply. -/
theorem answers_of_run {c : Instr} {r : Req} {op : Op} {e code st : Nat} {payload : List Byte} {exe : Bool} {s : State}
    (hexec : exec c s = .next (hostOp stepGo r op (s.tick e))) (hcode : opCode op = code) (h : Takes r s) (ho : RunsNow op)
    (hrun : opRun stepGo r op (arrival r op (s.tick e)) = ⟨⟨st, payload⟩, exe, arrival r op (s.tick e)⟩) :
    Answers c s fun t => Replied r code st payload s t ∧ Answered [] s t := by
  obtain ⟨hreplied, hanswered, -⟩ := hostOp_answered (takes_tick e h) ho hrun rfl
  have hu := stands_arrival op (takes_tick e h)
  exact ⟨_, hexec, hcode ▸ hreplied, (answered_tick e s).trans (hu.path.trans hanswered)⟩

/-- A command that is a request with a value its opcode does not take (R549 check 9). -/
theorem answers_of_badRange {c : Instr} {r : Req} {op : Op} {e code : Nat} {s : State}
    (hexec : exec c s = .next (hostOp stepGo r op (s.tick e))) (hcode : opCode op = code) (h : Takes r s) (ho : RunsNow op)
    (hrange : opRange op = false) :
    Answers c s fun t => Replied r code St.badParam [] s t ∧ Answered [] s t := by
  refine answers_of_run hexec hcode h ho (exe := false) ?_
  unfold opRun
  rw [if_pos (by simp [hrange])]
  rfl

end Sys2Proof.Machine
end

section
/-! SUPPORT. Reads of result queues, logs and captures (R556, R584, R634, R641): what each depends on, its operation, and
the settling of O42. -/

namespace Sys2Proof.Machine

/-! ### What a read depends on -/

theorem auditEntry_congr {s u : State} (h : u.audit = s.audit) (n : Nat) : auditEntry u n = auditEntry s n := by
  unfold auditEntry
  rw [h]

theorem evEntry_congr {s u : State} (h : u.ev = s.ev) (hdev : devFailed u 1 = devFailed s 1) (n : Nat) :
    evEntry u n = evEntry s n := by
  unfold evEntry
  rw [h, hdev]

theorem captures_congr {s u : State} (h : u.rcd = s.rcd) (hdev : ∀ d < 2, devFailed u d = devFailed s d) :
    captures u = captures s := by
  have hslots : (u.rcd.slots.filter fun p => !devFailed u (p.1 % 2)) = s.rcd.slots.filter fun p => !devFailed s (p.1 % 2) := by
    rw [h]
    exact List.filter_congr fun p _ => by rw [hdev _ (Nat.mod_lt _ (by decide))]
  unfold captures
  exact congrArg (fun l : AMap Capture => (sortNat (l.map fun p => p.2.num)).filterMap fun n =>
    (l.find? fun p => p.2.num == n).map (·.2)) hslots

/-- With none under way, a capture's channels are those it holds. -/
theorem capChans_of_idle {s : State} (h : s.rcd.cur = none) (c : Capture) : capChans s c = c.chans := by
  unfold capChans
  rw [h]
  rfl

/-- With none under way, a capture's bytes depend on nothing but the capture. -/
theorem capBytes_congr {s u : State} (hs : s.rcd.cur = none) (hu : u.rcd.cur = none) (c : Capture) (off len : Nat) :
    capBytes u c off len = capBytes s c off len := by
  have hchans : capChans u c = capChans s c := by rw [capChans_of_idle hs, capChans_of_idle hu]
  have hlimit : capLimit u c = capLimit s c := by
    simp only [capLimit, hs, hu, Bool.false_eq_true, if_false]
  have hfront : capFront u c = capFront s c := by simp only [capFront, capHead, capLen, hchans]
  have hend : capEnd u c = capEnd s c := by simp only [capEnd, hchans, hlimit]
  have hdata : capData u c = capData s c := by
    funext p l base
    induction l generalizing base with
    | nil => rfl
    | cons r t ih => simp only [capData, hlimit, ih]
  simp only [capBytes, hfront, hend, hchans, hdata]

/-! ### What a read answers -/

/-- QUEUE_READ of a queue there is, for a count in range, answers its entries behind those skipped (R556). -/
theorem opRun_queueRead (stepGo : State → State) (r : Req) {q skip c : Nat} (s : State) (hq : q ≤ 31)
    (hc : 1 ≤ c ∧ c ≤ 512) : opRun stepGo r (.queueRead q skip c) s =
      ⟨⟨St.ok, (((s.queOf q).ents.drop skip).take c).flatMap fun x => leBytes 8 x.word⟩, true, s⟩ := by
  unfold opRun
  rw [if_neg (by simp [opRange, hc])]
  exact if_neg (Nat.not_lt.mpr hq)

/-- QUEUE_READ of a queue there is not, or for a count out of range, answers BAD_PARAM (R549, R556). -/
theorem opRun_queueRead_refused (stepGo : State → State) (r : Req) {q skip c : Nat} (s : State)
    (h : 31 < q ∨ c = 0 ∨ 512 < c) : opRun stepGo r (.queueRead q skip c) s = .refuse St.badParam s := by
  unfold opRun
  split
  · rfl
  · rename_i hrange
    have hc : 1 ≤ c ∧ c ≤ 512 := by
      simp only [opRange, Bool.not_eq_true, Bool.not_eq_false', decide_eq_true_eq] at hrange
      exact hrange
    exact if_pos (by omega)

theorem opRun_auditRead (stepGo : State → State) (r : Req) {first c : Nat} (s : State) (hc : 1 ≤ c ∧ c ≤ 128) :
    opRun stepGo r (.auditRead first c) s = .query (auditRead s first c) s := by
  unfold opRun
  rw [if_neg (by simp [opRange, hc])]

theorem opRun_eventRead (stepGo : State → State) (r : Req) {first c : Nat} (s : State) (hc : 1 ≤ c ∧ c ≤ 128) :
    opRun stepGo r (.eventRead first c) s = .query (eventRead s first c) s := by
  unfold opRun
  rw [if_neg (by simp [opRange, hc])]

theorem opRun_recList (stepGo : State → State) (r : Req) {first c : Nat} (s : State) (hc : 1 ≤ c ∧ c ≤ 64) :
    opRun stepGo r (.recList first c) s = .query (recList s first c) s := by
  unfold opRun
  rw [if_neg (by simp [opRange, hc])]

theorem opRun_recRead (stepGo : State → State) (r : Req) {num off len : Nat} (s : State) (hlen : 1 ≤ len ∧ len ≤ 4096) :
    opRun stepGo r (.recRead num off len) s = .query (recRead s num off len) s := by
  unfold opRun
  rw [if_neg (by simp [opRange, hlen])]

/-- A command that is a query, taken by its port. -/
theorem answers_of_query {c : Instr} {r : Req} {op : Op} {e code st : Nat} {payload : List Byte} {p : Reply} {s : State}
    (hexec : exec c s = .next (hostOp stepGo r op (s.tick e))) (hcode : opCode op = code) (h : Takes r s) (ho : PlainOp op)
    (hrun : opRun stepGo r op (arrival r op (s.tick e)) = .query p (arrival r op (s.tick e))) (hp : p = ⟨st, payload⟩) :
    Answers c s fun t => Replied r code st payload s t ∧ Answered [] s t :=
  answers_of_run hexec hcode h (.plain ho) (hrun.trans (by rw [hp]; rfl))

theorem plainOp_queueRead (q skip c : Nat) : PlainOp (.queueRead q skip c) := ⟨nofun, nofun, rfl, rfl⟩
theorem plainOp_auditRead (first c : Nat) : PlainOp (.auditRead first c) := ⟨nofun, nofun, rfl, rfl⟩
theorem plainOp_eventRead (first c : Nat) : PlainOp (.eventRead first c) := ⟨nofun, nofun, rfl, rfl⟩
theorem plainOp_recList (first c : Nat) : PlainOp (.recList first c) := ⟨nofun, nofun, rfl, rfl⟩
theorem plainOp_recRead (num off len : Nat) : PlainOp (.recRead num off len) := ⟨nofun, nofun, rfl, rfl⟩

/-! ### A read as a request finds it -/

@[simp] theorem queOf_arrival (r : Req) (op : Op) (s : State) (q : Nat) : (arrival r op s).queOf q = s.queOf q := by
  rw [arrival_only]
  rfl

section
variable {r : Req} {op : Op} {s : State} (e : Nat) (h : Takes r s)
include h

/-- AUDIT_READ of a number that is not in the log (R584). -/
theorem auditRead_arrival_refused {first c : Nat} (hout : first + 2 ^ 20 < s.fld R.CMD_AUDIT_NEXT F.CMD_AUDIT_NEXT.NEXT ∨
    s.fld R.CMD_AUDIT_NEXT F.CMD_AUDIT_NEXT.NEXT ≤ first) :
    auditRead (arrival r op (s.tick e)) first c = ⟨St.badParam, []⟩ := by
  unfold auditRead
  rw [arrival_fld (takes_tick e h) (by decide)]
  exact if_pos hout

/-- AUDIT_READ of a number in the log (R584). -/
theorem auditRead_arrival {first c : Nat} (hlow : s.fld R.CMD_AUDIT_NEXT F.CMD_AUDIT_NEXT.NEXT ≤ first + 2 ^ 20)
    (hhigh : first < s.fld R.CMD_AUDIT_NEXT F.CMD_AUDIT_NEXT.NEXT) :
    auditRead (arrival r op (s.tick e)) first c = ⟨St.ok, (List.range (min c (s.fld R.CMD_AUDIT_NEXT
      F.CMD_AUDIT_NEXT.NEXT - first))).flatMap fun k => auditEntry s (first + k)⟩ := by
  have hlog : (arrival r op (s.tick e)).audit = s.audit := by rw [arrival_only]; rfl
  unfold auditRead
  rw [arrival_fld (takes_tick e h) (by decide)]
  simp only [auditEntry_congr hlog]
  exact if_neg (not_or.mpr ⟨Nat.not_lt.mpr hlow, Nat.not_le.mpr hhigh⟩)

/-- EVENT_READ of a number that is not in the log (R634). -/
theorem eventRead_arrival_refused {first c : Nat} (hout : first + 2 ^ 21 < s.fld R.LOG_EVENT_NEXT F.LOG_EVENT_NEXT.NEXT ∨
    s.fld R.LOG_EVENT_NEXT F.LOG_EVENT_NEXT.NEXT ≤ first) :
    eventRead (arrival r op (s.tick e)) first c = ⟨St.badParam, []⟩ := by
  unfold eventRead
  rw [arrival_fld (takes_tick e h) (by decide)]
  exact if_pos hout

/-- EVENT_READ of a number in the log (R634). -/
theorem eventRead_arrival {first c : Nat} (hlow : s.fld R.LOG_EVENT_NEXT F.LOG_EVENT_NEXT.NEXT ≤ first + 2 ^ 21)
    (hhigh : first < s.fld R.LOG_EVENT_NEXT F.LOG_EVENT_NEXT.NEXT) :
    eventRead (arrival r op (s.tick e)) first c = ⟨St.ok, (List.range (min c (s.fld R.LOG_EVENT_NEXT
      F.LOG_EVENT_NEXT.NEXT - first))).flatMap fun k => (evEntry s (first + k)).bytes⟩ := by
  have hlog : (arrival r op (s.tick e)).ev = s.ev := by rw [arrival_only]; rfl
  have hdev : devFailed (arrival r op (s.tick e)) 1 = devFailed s 1 := arrival_bit (takes_tick e h) (by decide) _
  unfold eventRead
  rw [arrival_fld (takes_tick e h) (by decide)]
  simp only [evEntry_congr hlog hdev]
  exact if_neg (not_or.mpr ⟨Nat.not_lt.mpr hlow, Nat.not_le.mpr hhigh⟩)

theorem captures_arrival : captures (arrival r op (s.tick e)) = captures s :=
  captures_congr (by rw [arrival_only]; rfl) fun d hd => arrival_bit (takes_tick e h)
    (by simp only [R.STO_DEV, R.CMD_PORT_STAT, List.mem_cons, List.not_mem_nil, or_false]; omega) _

/-- REC_LIST with no capture in storage (R641). -/
theorem recList_arrival {first c : Nat} (hc : 1 ≤ c ∧ c ≤ 64) (hmode : s.mode ≠ Mode.standby) (hnone : captures s = []) :
    recList (arrival r op (s.tick e)) first c = ⟨St.ok, []⟩ := by
  unfold recList
  rw [arrival_mode (takes_tick e h), State.mode_tick, captures_arrival e h, hnone, if_neg hmode, if_neg (by omega)]
  simp only [List.filter_nil, List.take_nil, List.flatMap_nil]

/-- REC_READ of a capture that is not in storage (R641). -/
theorem recRead_arrival_refused {num off len : Nat} (hmode : s.mode ≠ Mode.standby)
    (hnone : ((captures s).any fun c => c.num == num) = false) :
    recRead (arrival r op (s.tick e)) num off len = ⟨St.badParam, []⟩ := by
  have hfind : ((captures s).find? fun c => c.num == num) = none := by
    rw [List.find?_eq_none]
    simpa using hnone
  unfold recRead
  rw [arrival_mode (takes_tick e h), State.mode_tick, captures_arrival e h, if_neg hmode, hfind]

/-- REC_READ of a capture in storage, with none under way (R641). -/
theorem recRead_arrival {num off len : Nat} {c : Capture} (hlen : 1 ≤ len ∧ len ≤ 4096) (hmode : s.mode ≠ Mode.standby)
    (hidle : s.rcd.cur = none) (hfind : ((captures s).find? fun c => c.num == num) = some c) :
    recRead (arrival r op (s.tick e)) num off len = ⟨St.ok, capBytes s c off len⟩ := by
  have hcur : (arrival r op (s.tick e)).rcd.cur = none := by rw [arrival_only]; exact hidle
  unfold recRead
  rw [arrival_mode (takes_tick e h), State.mode_tick, captures_arrival e h, if_neg hmode, hfind]
  dsimp only
  rw [if_neg (by omega), capBytes_congr hidle hcur]

end

/-! ### The commands that read -/

theorem exec_queueRead (e : Nat) (r : Req) (q : BitVec 8) (skip c : BitVec 16) (s : State) : exec (.queueRead e r q skip c) s =
    .next (hostOp stepGo r (.queueRead q.toNat skip.toNat c.toNat) (s.tick e)) := rfl

theorem exec_auditRead (e : Nat) (r : Req) (first : BitVec 40) (c : BitVec 16) (s : State) :
    exec (.auditRead e r first c) s = .next (hostOp stepGo r (.auditRead first.toNat c.toNat) (s.tick e)) := rfl

theorem exec_eventRead (e : Nat) (r : Req) (first : BitVec 40) (c : BitVec 16) (s : State) :
    exec (.eventRead e r first c) s = .next (hostOp stepGo r (.eventRead first.toNat c.toNat) (s.tick e)) := rfl

theorem exec_recList (e : Nat) (r : Req) (first : BitVec 32) (c : BitVec 8) (s : State) :
    exec (.recList e r first c) s = .next (hostOp stepGo r (.recList first.toNat c.toNat) (s.tick e)) := rfl

theorem exec_recRead (e : Nat) (r : Req) (num off : BitVec 32) (len : BitVec 16) (s : State) : exec (.recRead e r num off len) s =
    .next (hostOp stepGo r (.recRead num.toNat off.toNat len.toNat) (s.tick e)) := rfl

/-- Settles O42. A read is executed from the state its arrival leaves, in which queues, logs and captures stand as they
did, and changes nothing. -/
theorem queuesAndLogsRead : Obligations.QueuesAndLogsRead := by
  unfold Obligations.QueuesAndLogsRead
  refine ⟨?_, ?_, ?_, ?_, ?_, ?_, ?_, ?_, ?_, ?_⟩
  case refine_1 =>
    intro e r q skip c s h hq h1 h2
    have hrun := opRun_queueRead stepGo r (skip := skip.toNat)
      (arrival r (.queueRead q.toNat skip.toNat c.toNat) (s.tick e)) hq ⟨h1, h2⟩
    rw [queOf_arrival, State.tick_queOf] at hrun
    exact answers_of_run (exec_queueRead ..) rfl h (.plain (plainOp_queueRead ..)) hrun
  case refine_2 =>
    intro e r q skip c s h hbad
    exact answers_of_run (exec_queueRead ..) rfl h (.plain (plainOp_queueRead ..)) (opRun_queueRead_refused _ _ _ hbad)
  case refine_3 =>
    intro e r first c s h h1 h2 hout
    exact answers_of_query (exec_auditRead ..) rfl h (plainOp_auditRead ..) (opRun_auditRead _ _ _ ⟨h1, h2⟩)
      (auditRead_arrival_refused e h hout)
  case refine_4 =>
    intro e r first c s h h1 h2 hlow hhigh
    exact answers_of_query (exec_auditRead ..) rfl h (plainOp_auditRead ..) (opRun_auditRead _ _ _ ⟨h1, h2⟩)
      (auditRead_arrival e h hlow hhigh)
  case refine_5 =>
    intro e r first c s h h1 h2 hout
    exact answers_of_query (exec_eventRead ..) rfl h (plainOp_eventRead ..) (opRun_eventRead _ _ _ ⟨h1, h2⟩)
      (eventRead_arrival_refused e h hout)
  case refine_6 =>
    intro e r first c s h h1 h2 hlow hhigh
    exact answers_of_query (exec_eventRead ..) rfl h (plainOp_eventRead ..) (opRun_eventRead _ _ _ ⟨h1, h2⟩)
      (eventRead_arrival e h hlow hhigh)
  case refine_7 =>
    intro e r first c s h h1 h2 hmode hnone
    exact answers_of_query (exec_recList ..) rfl h (plainOp_recList ..) (opRun_recList _ _ _ ⟨h1, h2⟩)
      (recList_arrival e h ⟨h1, h2⟩ hmode hnone)
  case refine_8 =>
    intro e r first c s h hbad
    refine answers_of_badRange (exec_recList ..) rfl h (.plain (plainOp_recList ..)) (decide_eq_false fun ⟨h1, h2⟩ => ?_)
    rcases hbad with h0 | h64
    · simp [h0] at h1
    · omega
  case refine_9 =>
    intro e r num off len s h h1 h2 hmode hnone
    exact answers_of_query (exec_recRead ..) rfl h (plainOp_recRead ..) (opRun_recRead _ _ _ ⟨h1, h2⟩)
      (recRead_arrival_refused e h hmode hnone)
  case refine_10 =>
    intro e r num off len c s h h1 h2 hmode hidle hfind
    exact answers_of_query (exec_recRead ..) rfl h (plainOp_recRead ..) (opRun_recRead _ _ _ ⟨h1, h2⟩)
      (recRead_arrival e h ⟨h1, h2⟩ hmode hidle hfind)

end Sys2Proof.Machine
end

section
/-! SUPPORT. A warm reset (R58, R59, R61, R524, R559, R698): what it leaves, under each of its three causes; its release; the
RESET request; and the settling of O2. -/

namespace Sys2Proof.Machine

/-! ### What a warm reset leaves -/

/-- A key that a filter drops is listed no more. -/
theorem AMap.get?_filter_of_dropped {α : Type} (f : Nat × α → Bool) (m : AMap α) {i : Nat} (h : ∀ x, f (i, x) = false) :
    AMap.get? (m.filter f) i = none := by
  induction m with
  | nil => rfl
  | cons p m ih =>
    obtain ⟨k, v⟩ := p
    by_cases hf : f (k, v) = true
    · have hk : k ≠ i := fun e => by rw [e, h] at hf; cases hf
      rw [List.filter_cons_of_pos hf, AMap.get?, if_neg hk, ih]
    · rw [List.filter_cons_of_neg hf, ih]

/-- The mode register is not among those a reset keeps, and its reset value is BOOT (R60, R63). -/
theorem mode_of_kept {s t : State} {warm upd : Bool} (h : t.regs = s.regs.filter fun p => (keptRegs warm upd).contains p.1) :
    t.mode = Mode.boot := by
  have hdropped : (keptRegs warm upd).contains R.DEV_MODE = false := by cases warm <;> cases upd <;> decide
  have hreg : t.reg R.DEV_MODE = resetReg R.DEV_MODE := by
    rw [State.reg, AMap.getD, h, AMap.get?_filter_of_dropped _ _ fun _ => hdropped]
    rfl
  rw [State.mode, State.fld, hreg]
  decide

/-- What every warm reset ends and what it keeps (R58, R60, R61, R63, R567). -/
structure WarmCleared (s t : State) : Prop where
  mode : t.mode = Mode.boot
  nfault : t.nfault = true
  sessions : t.sessions = []
  glove : t.glove = {}
  key : t.key = s.key
  dtHi : t.dtHi = s.dtHi

/-- A change of nothing but registers outside the DEV group and island records. -/
theorem WarmCleared.alter {s t u : State} (h : WarmCleared s t) (a : Alter (2 ^ 67 ||| 2 ^ 86) t u) : WarmCleared s u where
  mode := (State.mode_of_reg (a.dev _ (by decide) (by decide))).trans h.mode
  nfault := (a.nfault (by decide)).trans h.nfault
  sessions := (a.sessions (by decide)).trans h.sessions
  glove := (a.glove (by decide)).trans h.glove
  key := (a.key (by decide)).trans h.key
  dtHi := (a.dtHi (by decide)).trans h.dtHi

/-- The operations that end sessions, captures and updates before a reset keep the key and `DEV_DT_HI`. -/
theorem resetEnds_keeps (s : State) :
    let u := updReset (recEnd 0 (forEach (s.sessions.map (·.1)) (fun n s => sessionEnd n 3 s) s))
    u.key = s.key ∧ u.dtHi = s.dtHi := by
  have hends := alter_forEach (s.sessions.map (·.1)) (fun n s => sessionEnd n 3 s) s fun n x => alter_sessionEnd n 3 x
  have hrec := alter_recEnd 0 (forEach (s.sessions.map (·.1)) (fun n s => sessionEnd n 3 s) s)
  have hupd := alter_updReset (recEnd 0 (forEach (s.sessions.map (·.1)) (fun n s => sessionEnd n 3 s) s))
  exact ⟨(hupd.key (by decide)).trans ((hrec.key (by decide)).trans (hends.key (by decide))),
    (hupd.dtHi (by decide)).trans ((hrec.dtHi (by decide)).trans (hends.dtHi (by decide)))⟩

theorem resetAll_cleared (s : State) : WarmCleared s (resetAll true s) := by
  obtain ⟨hkey, hdtHi⟩ := resetEnds_keeps s
  unfold resetAll
  extract_lets s1 s2 busy kept e1 e2 e3 t1 t2 t3 t4
  have h1 : WarmCleared s t1 := ⟨mode_of_kept (s := s2) rfl, rfl, rfl, rfl, hkey, hdtHi⟩
  clear_value t1
  have h2 : Alter (2 ^ 67 ||| 2 ^ 86) t1 t2 :=
    ((alter_lvKeep s2 t1).mono rfl).and (alter_forEach _ _ _ fun n x => (alter_islKeep s2 n x).mono rfl)
  clear_value t2
  have h3 : Alter (2 ^ 67 ||| 2 ^ 86) t2 t3 := by
    unfold t3
    split
    · exact (alter_setBit ..).mono (rm_high (by decide) rfl)
    · exact Alter.refl _ _
  clear_value t3
  have h4 : Alter (2 ^ 67 ||| 2 ^ 86) t3 t4 := (alter_setFld ..).mono (rm_high (by decide) rfl)
  exact h1.alter (((h2.and h3).and h4).step (alter_setFld ..) (rm_high (by decide) rfl))

/-- A warm reset that is asserted: its cause bit, the boot sequence held, by the pin or not, and what it ends. -/
structure WarmHeld (cause : Fld) (pin : Bool) (s t : State) : Prop extends WarmCleared s t where
  phase : t.boot.phase = .held
  kind : t.boot.kind = .warm
  pinLow : t.boot.pinLow = pin
  resetDue : t.boot.resetDue = none
  cause : t.bit R.DEV_RST_CAUSE cause = true

/-- The boot sequence held in a warm reset, once everything else has its reset value. -/
def holdWarm (cause : Fld) (pin : Bool) (s : State) : State :=
  let s := s.setBit R.DEV_RST_CAUSE cause true
  let b := s.boot
  bootAt .held { s with
    boot := { b with kind := .warm, pinLow := pin, imageBad := false, later := [], resetDue := none, paceRun := false } }

theorem holdWarm_held {cause : Fld} (hf : cause.lo ≤ cause.hi) (hw : cause.hi < 40) (pin : Bool) {s u : State}
    (h : WarmCleared s u) : WarmHeld cause pin s (holdWarm cause pin u) := by
  have hreg : (holdWarm cause pin u).reg R.DEV_MODE = u.reg R.DEV_MODE :=
    State.reg_setBit_ne (i := R.DEV_RST_CAUSE) cause true u (by decide)
  constructor
  case toWarmCleared => exact ⟨(State.mode_of_reg hreg).trans h.mode, h.nfault, h.sessions, h.glove, h.key, h.dtHi⟩
  case cause => exact State.bit_setBit_same R.DEV_RST_CAUSE cause true u hf hw
  all_goals rfl

theorem WarmCleared.of_resumeDt {s u : State} (h : WarmCleared (resumeDt s) u) : WarmCleared s u := by
  have hresume := alter_resumeDt s
  exact { h with key := h.key.trans (hresume.key (by decide)), dtHi := h.dtHi.trans (hresume.dtHi (by decide)) }

/-- A warm reset resumes device time, returns everything to its reset value and holds the boot sequence (R25, R60, R61). -/
theorem warmReset_eq (cause : Fld) (pin : Bool) (s : State) :
    warmReset cause pin s = holdWarm cause pin (resetAll true (resumeDt s)) := rfl

theorem warmReset_held {cause : Fld} (hf : cause.lo ≤ cause.hi) (hw : cause.hi < 40) (pin : Bool) (s : State) :
    WarmHeld cause pin s (warmReset cause pin s) := by
  rw [warmReset_eq]
  exact holdWarm_held hf hw pin (resetAll_cleared (resumeDt s)).of_resumeDt

/-! ### The causes and the release -/

theorem warmable_of_phase {s : State} (hoff : s.boot.phase ≠ .off) (hwait : s.boot.phase ≠ .wait) : warmable s = true := by
  unfold warmable
  split
  · exact absurd ‹_› hoff
  · exact absurd ‹_› hwait
  · rfl

/-- A low level of 1 µs or more resets a part that is in no reset (R59). -/
theorem nresetLow_held {ns : Nat} {s : State} (hns : 1000 ≤ ns) (hwarm : warmable s = true) (hheld : s.boot.phase ≠ .held) :
    WarmHeld F.DEV_RST_CAUSE.PIN true s (nresetLow ns s) := by
  unfold nresetLow pulseResets
  rw [if_pos hns]
  dsimp only
  rw [if_neg (by simp [hwarm]), if_neg (by simpa using hheld)]
  exact warmReset_held (by decide) (by decide) true s

/-- A low level under 200 ns does nothing (R59). -/
theorem nresetLow_short {ns : Nat} (s : State) (hns : ns < 200) : nresetLow ns s = s := by
  unfold nresetLow pulseResets
  rw [if_neg (by omega), if_pos hns]
  rfl

/-- Whether a low level between the two resets the part is a free value (R59). -/
theorem pulseResets_between {ns : Nat} (s : State) (hlow : 200 ≤ ns) (hhigh : ns < 1000) :
    ∃ go, pulseResets ns s = (go, { s with free := s.free + 1 }) := by
  unfold pulseResets
  rw [if_neg (by omega), if_neg (by omega)]
  exact ⟨_, rfl⟩

/-- After a low level between the two the part is as it was, but for the value drawn, or held in a reset (R59). -/
theorem nresetLow_between {ns : Nat} (s : State) (hlow : 200 ≤ ns) (hhigh : ns < 1000) :
    nresetLow ns s = { s with free := s.free + 1 } ∨ (nresetLow ns s).boot.phase = .held := by
  obtain ⟨go, hgo⟩ := pulseResets_between s hlow hhigh
  generalize { s with free := s.free + 1 } = u at hgo ⊢
  unfold nresetLow
  rw [hgo]
  dsimp only
  split
  · exact .inl rfl
  · split
    · rename_i hheld
      exact .inr (by simpa using hheld)
    · exact .inr (warmReset_held (by decide) (by decide) _ _).phase

/-- A software reset that is due is asserted at its tick (R559, R651). -/
theorem resetDelay_held {d : Nat} {s : State} (hdue : s.boot.resetDue = some d) (hwarm : warmable s = true) :
    WarmHeld F.DEV_RST_CAUSE.SOFTWARE false (s.until d) (resetDelay s) := by
  unfold resetDelay
  rw [hdue]
  dsimp only
  rw [if_pos hwarm]
  exact warmReset_held (by decide) (by decide) false _

/-- The watchdog's reset is asserted at its tick (R524). -/
theorem watchdogReset_held {d : Nat} {s : State} (hdue : s.glove.wdDue = some d) :
    WarmHeld F.DEV_RST_CAUSE.WATCHDOG false (s.until d) (watchdogReset s) := by
  unfold watchdogReset
  rw [hdue]
  exact warmReset_held (by decide) (by decide) false _

/-- The release of a warm reset starts the crystal's supervision, 10 µs after a cause other than the pin at the earliest
(R51, R698). -/
theorem warmRelease_spec {s : State} (hheld : s.boot.phase = .held) : (warmRelease s).boot.phase = .clock ∧
    (warmRelease s).boot.pinLow = false ∧
    (warmRelease s).el = (if s.boot.pinLow then s.el else max s.el (s.boot.since + 2000)) ∧
    warmRelease s = { s with el := (warmRelease s).el, dt := (warmRelease s).dt, boot := (warmRelease s).boot } := by
  unfold warmRelease
  rw [if_neg (by simp [hheld])]
  refine ⟨rfl, rfl, ?_, ?_⟩
  · cases s.boot.pinLow with
    | true => rfl
    | false =>
      have hmax : s.el + (s.boot.since + 2000 - s.el) = max s.el (s.boot.since + 2000) := by omega
      exact hmax
  · cases s.boot.pinLow <;> rfl

/-! ### The RESET request (R559) -/

theorem exec_reset (e : Nat) (r : Req) (g : BitVec 8) (s : State) :
    exec (.reset e r g) s = .next (hostOp stepGo r (.reset g.toNat) (s.tick e)) := rfl

/-- A command that is a RESET request which its own checks refuse. -/
theorem answers_resetRefused {e st : Nat} {r : Req} {g : BitVec 8} {s : State} (h : Takes r s)
    (hop : ∀ u : State, u.sessions = s.sessions → u.mode = s.mode → resetOp r g.toNat u = .refuse st u) :
    Answers (.reset e r g) s fun t => Replied r 0x22 st [] s t ∧ Answered [] s t :=
  answers_of_run (exec_reset e r g s) rfl h (.reset _)
    (hop _ (stands_arrival (.reset g.toNat) (takes_tick e h)).sessions (arrival_mode (takes_tick e h)))

theorem privileged_congr {s u : State} (h : u.sessions = s.sessions) (r : Req) : privileged u r = privileged s r := by
  unfold privileged
  rw [h]

/-- The modes in which RESET is accepted. -/
abbrev TakesReset (m : Nat) : Prop := m = Mode.ready ∨ m = Mode.service ∨ m = Mode.safe

/-- A privileged RESET in a mode that accepts it makes the reset due 1 ms on. -/
theorem resetOp_accepted {r : Req} {s : State} (hpriv : privileged s r = true) (hmode : TakesReset s.mode) :
    resetOp r 0x5A s = ⟨⟨St.ok, []⟩, true, { s with boot := { s.boot with resetDue := some (s.dt + 200000) } }⟩ := by
  unfold resetOp
  rw [if_neg (by simp [hpriv]), if_neg (by tauto), if_neg (by decide)]

theorem resetOp_denied {r : Req} {g : Nat} {s : State} (hpriv : privileged s r = false) :
    resetOp r g s = .refuse St.denied s := by
  unfold resetOp
  rw [if_pos (by simp [hpriv])]

theorem resetOp_wrongMode {r : Req} {g : Nat} {s : State} (hpriv : privileged s r = true) (hmode : ¬TakesReset s.mode) :
    resetOp r g s = .refuse St.wrongMode s := by
  unfold resetOp
  rw [if_neg (by simp [hpriv]), if_pos (by tauto)]

theorem resetOp_badParam {r : Req} {g : Nat} {s : State} (hpriv : privileged s r = true) (hmode : TakesReset s.mode)
    (hg : g ≠ 0x5A) : resetOp r g s = .refuse St.badParam s := by
  unfold resetOp
  rw [if_neg (by simp [hpriv]), if_neg (by tauto), if_pos hg]

/-- An execution that changes nothing but the boot record, answered. -/
theorem answered_of_boot {s u t : State} {b : Boot} (hu : Answered [] s u) (ht : Answered [] { u with boot := b } t) :
    t.boot = b ∧ Answered [] s { t with boot := s.boot } := by
  obtain ⟨hus, hur⟩ := hu
  obtain ⟨htu, htr⟩ := ht
  refine ⟨by rw [htu], ?_, fun i hi => (htr i hi).trans (hur i hi)⟩
  rw [hus] at htu
  rw [htu]

/-- RESET accepted: it is due 1 ms after its reply, and nothing else changes. -/
theorem answers_resetAccepted (e : Nat) {r : Req} {s : State} (h : Takes r s) (hpriv : privileged s r = true)
    (hmode : TakesReset s.mode) : Answers (.reset e r 0x5A) s fun t =>
      t.boot = { s.boot with resetDue := some (t.dt + 200000) } ∧ Replied r 0x22 St.ok [] s t ∧
      Answered [] s { t with boot := s.boot } := by
  have h' := takes_tick e h
  have hu := stands_arrival (.reset 0x5A) h'
  have hrun := resetOp_accepted (s := arrival r (.reset 0x5A) (s.tick e)) ((privileged_congr hu.sessions r).trans hpriv)
    ((arrival_mode h').symm ▸ hmode)
  obtain ⟨hreplied, hanswered, hdt⟩ := hostOp_answered (stepGo := stepGo) h' (.reset 0x5A) hrun rfl
  have hboot : (arrival r (.reset 0x5A) (s.tick e)).boot = s.boot := by rw [arrival_only]; rfl
  obtain ⟨hdue, hall⟩ := answered_of_boot ((answered_tick e s).trans hu.path) hanswered
  refine ⟨_, exec_reset e r 0x5A s, ?_, hreplied, hall⟩
  rw [hboot] at hdue
  exact hdue.trans (congrArg (fun d => ({ s.boot with resetDue := some (d + 200000) } : Boot)) hdt.symm)

/-- Settles O2: the three causes by what every warm reset leaves, the release, and RESET by its own checks. -/
theorem warmResetHoldsAndReleases : Obligations.WarmResetHoldsAndReleases := by
  unfold Obligations.WarmResetHoldsAndReleases
  refine ⟨?pin, ?short, ?between, ?software, ?watchdog, ?release, ?accepted, ?denied, ?wrongMode, ?badParam⟩
  case pin =>
    intro e ns s hns hoff hwait hheld
    have h := nresetLow_held (s := s.tick e) hns (warmable_of_phase hoff hwait) hheld
    exact ⟨_, rfl, h.phase, h.kind, h.pinLow, h.mode, h.nfault, h.cause, h.sessions, h.key, h.dtHi⟩
  case short =>
    intro e ns s hns
    exact ⟨_, rfl, nresetLow_short _ hns⟩
  case between =>
    intro e ns s hlow hhigh
    exact ⟨_, rfl, nresetLow_between _ hlow hhigh⟩
  case software =>
    intro e d s hdue hoff hwait
    have h := resetDelay_held (s := s.tick e) hdue (warmable_of_phase hoff hwait)
    exact ⟨_, rfl, h.phase, h.kind, h.pinLow, h.resetDue, h.mode, h.nfault, h.cause, h.sessions, h.key⟩
  case watchdog =>
    intro e d s hdue
    have h := watchdogReset_held (s := s.tick e) hdue
    exact ⟨_, rfl, h.phase, h.kind, h.pinLow, h.mode, h.nfault, h.cause, h.glove, h.sessions, h.key⟩
  case release =>
    intro e s hheld
    exact ⟨_, rfl, warmRelease_spec (s := s.tick e) hheld⟩
  case accepted =>
    intro e r s h hpriv hmode
    exact answers_resetAccepted e h hpriv hmode
  case denied =>
    intro e r s h hpriv
    exact answers_resetRefused h fun u hsess _ => resetOp_denied ((privileged_congr hsess r).trans hpriv)
  case wrongMode =>
    intro e r g s h hpriv hready hservice hsafe _
    have hmode : ¬TakesReset s.mode := by simp only [TakesReset, not_or]; exact ⟨hready, hservice, hsafe⟩
    exact answers_resetRefused h fun u hsess hm =>
      resetOp_wrongMode ((privileged_congr hsess r).trans hpriv) (hm ▸ hmode)
  case badParam =>
    intro e r g s h hpriv hmode hg
    exact answers_resetRefused h fun u hsess hm =>
      resetOp_badParam ((privileged_congr hsess r).trans hpriv) (hm ▸ hmode) fun k => hg (BitVec.eq_of_toNat_eq k)

end Sys2Proof.Machine
end

section
/-! SUPPORT. A packet of one register that is read, or whose write is refused before its own rule (R549, R551, R554), the
indices beyond the last register family, where the TST group stands (R690), and the settling of O54. -/

namespace Sys2Proof.Machine

/-! ### Packets of one register -/

/-- A read packet of one register that is read answers its word. -/
theorem readPacket_single {r : Req} {i : Nat} {v : Reg} {s t : State} (h : readItem r i s = (St.ok, v, t)) :
    readPacket r [i] s = ⟨⟨St.ok, leBytes 5 v.toNat⟩, true, t⟩ := by
  simp [readPacket, readList, h]

/-- A write packet of one item whose check refuses it with no audit entry answers the item's place and changes nothing;
a full audit buffer (check 11) and an APPLY of the graph window have effects of their own (R293, R580). -/
theorem writePacket_single_refused {stepGo : State → State} {r : Req} {it : Item} {olds : Bool} {lv : Nat} {s : State}
    (h : writeItem stepGo r true it s = { o := .refuse lv s }) (h0 : lv ≠ 0) (h11 : lv ≠ 11)
    (hidx : it.idx ≠ R.ENG_GWIN_CTRL) :
    writePacket stepGo r [it] olds s = .refuse (WOut.refuse lv s).st s (leBytes 2 0) := by
  have hrun : runItems stepGo r true [it] 0 { s := s } = { s := s, bad := [(0, lv, (WOut.refuse lv s).st)] } := by
    simp [runItems, h, WOut.refuse, h0, hidx]
  unfold writePacket
  simp [hrun, leastBad, h11, forEach]

/-! ### Beyond the last register family -/

/-- An index above every register of a family. -/
def RegRow.top (r : RegRow) : Nat := r.base + r.s1 * r.n1 + r.n2

theorem RegRow.lt_top_of_owns {r : RegRow} {i : Nat} (h : r.owns i = true) : i < r.top := by
  unfold RegRow.owns at h
  unfold RegRow.top
  rw [Bool.and_eq_true, decide_eq_true_eq] at h
  obtain ⟨hbase, hin⟩ := h
  split at hin
  · have hlast : i - r.base < r.n2 := of_decide_eq_true hin
    omega
  · have hrem : (i - r.base) % r.s1 < r.n2 ∧ (i - r.base) / r.s1 < r.n1 := by
      split at hin <;> simp only [Bool.and_eq_true, decide_eq_true_eq] at hin <;> omega
    obtain ⟨hmod, hdiv⟩ := hrem
    have hsplit := Nat.div_add_mod (i - r.base) r.s1
    have hrows := Nat.mul_le_mul_left r.s1 hdiv.le
    omega

/-- Every register family ends below the TST group (R688). -/
theorem regRows_top : ∀ r ∈ regRows, r.top ≤ 0x3F00 := by decide +kernel

/-- An index of the TST group, at the end of the index space (R688). -/
abbrev TestIndex (i : Nat) : Prop := 0x3F00 ≤ i ∧ i < 0x4000

theorem regRow_test {i : Nat} (h : TestIndex i) : regRow i = none :=
  List.find?_eq_none.mpr fun r hr howns => by
    have htop := regRows_top r hr
    have hi := RegRow.lt_top_of_owns howns
    omega

/-! ### The test registers -/

theorem readItem_test (r : Req) {i : Nat} (h : TestIndex i) (s : State) : readItem r i s = (St.ok, 0, s) := by
  have hread : readReg r s i = 0 := by
    unfold readReg
    rw [regRow_test h]
  obtain ⟨hlow, hhigh⟩ := h
  have hne {j : Nat} (hj : j < 0x3F00) : i ≠ j := by omega
  unfold readItem
  rw [if_neg (by omega), if_neg (hne (by decide)), if_neg (hne (by decide)), if_neg (hne (by decide)),
    if_neg (hne (by decide)), if_neg (hne (by decide)), if_neg (hne (by decide)), if_neg (hne (by decide)), hread]

/-- A write of a test register is refused by check 7, whoever asks. -/
theorem writeItem_test (stepGo : State → State) (r : Req) (alone : Bool) {it : Item} (h : TestIndex it.idx) (s : State) :
    writeItem stepGo r alone it s = { o := .refuse 7 s } := by
  have hrow := regRow_test h
  obtain ⟨hlow, hhigh⟩ := h
  unfold writeItem
  rw [if_neg (by omega)]
  simp only [hrow]
  rw [if_pos hlow]

theorem opRun_regRead_test (stepGo : State → State) (r : Req) {i : Nat} (h : TestIndex i) (s : State) :
    opRun stepGo r (.regRead [i]) s = ⟨⟨St.ok, leBytes 5 0⟩, true, s⟩ :=
  readPacket_single (readItem_test r h s)

theorem opRun_regWrite_test (stepGo : State → State) (r : Req) {i : Nat} (h : TestIndex i) (v : Reg) (s : State) :
    opRun stepGo r (.regWrite [(i, v)]) s = .refuse St.denied s (leBytes 2 0) := by
  have hgwin : i ≠ R.ENG_GWIN_CTRL := by
    obtain ⟨hlow, -⟩ := h
    have : R.ENG_GWIN_CTRL < 0x3F00 := by decide
    omega
  rw [opRun_regWrite_single]
  exact writePacket_single_refused (writeItem_test stepGo r true h s) (by decide) (by decide) hgwin

theorem plainOp_regRead_single (i : Nat) : PlainOp (.regRead [i]) := ⟨nofun, nofun, rfl, rfl⟩

/-- The order registers stand below the TST group (R572). -/
theorem orderReg_test {i : Nat} (h : TestIndex i) : orderReg i = false := by
  obtain ⟨hlow, -⟩ := h
  have hne {j : Nat} (hj : j < 0x3F00) : (i == j) = false := by
    rw [beq_eq_false_iff_ne]
    omega
  have hact : (List.range 3).any (fun a => i == R.ACT_A_CTRL a || i == R.ACT_A_TGT a) = false :=
    List.any_eq_false.mpr fun a ha => by
      have ha3 := List.mem_range.mp ha
      rw [hne (by unfold R.ACT_A_CTRL; omega), hne (by unfold R.ACT_A_TGT; omega)]
      decide
  have hmachine : ¬(R.TRX_M_CFG 0 ≤ i ∧ i < R.TRX_M_CFG 2) := fun hin => by
    have hend : R.TRX_M_CFG 2 < 0x3F00 := by decide
    omega
  simp only [orderReg, decide_eq_false hmachine, hne (by decide : R.DCL_DCDC_CTRL < 0x3F00),
    hne (by decide : R.DCL_DCDC_VREF < 0x3F00), hne (by decide : R.DCL_DCDC_IREF < 0x3F00),
    hne (by decide : R.CHG_CTRL < 0x3F00), hne (by decide : R.CHG_ILIM_HOST < 0x3F00), hact, Bool.false_and, Bool.or_false]

theorem plainOp_regWrite_test {i : Nat} (h : TestIndex i) (v : Reg) : PlainOp (.regWrite [(i, v)]) where
  notSafe := nofun
  notModeSafe := nofun
  form := rfl
  noGlove := by simp [needsGlove, opItems, orderReg_test h]

theorem exec_regRead_single (e : Nat) (r : Req) (i : BitVec 16) (s : State) :
    exec (.regRead e r [i]) s = .next (hostOp stepGo r (.regRead [i.toNat]) (s.tick e)) := rfl

theorem exec_registerWrite (e : Nat) (r : Req) (i : BitVec 16) (v : Reg) (s : State) :
    exec (.registerWrite e r i v) s = .next (hostOp stepGo r (.regWrite [(i.toNat, v)]) (s.tick e)) := rfl

/-- Settles O54. No register family reaches the TST group: a read there finds no row and gives 0, and a write stops at
check 7 with no audit entry. -/
theorem testRegistersReadZero : Obligations.TestRegistersReadZero := by
  unfold Obligations.TestRegistersReadZero
  refine ⟨?read, ?write⟩
  case read =>
    intro e r i s h hlow hhigh
    exact answers_of_run (exec_regRead_single ..) rfl h (.plain (plainOp_regRead_single _))
      (opRun_regRead_test stepGo r ⟨hlow, hhigh⟩ _)
  case write =>
    intro e r i v s h hlow hhigh
    exact answers_of_run (exec_registerWrite ..) rfl h (.plain (plainOp_regWrite_test ⟨hlow, hhigh⟩ v))
      (opRun_regWrite_test stepGo r ⟨hlow, hhigh⟩ v _)

end Sys2Proof.Machine
end

section
/-! SUPPORT. What every command may change, said once for all of them, and the settling of O57 to O60: the commands complete, none
touches the queue, time and the count of free values go on, and the invariant stands from reset on. -/

namespace Sys2Proof.Machine

/-- What a command may change: everything but the queue, time and the count of free values going on, and the invariant. -/
abbrev commandM : Nat := 2 ^ 112 - 2 ^ 64 - 1 ||| 2 ^ 120 ||| 2 ^ 121

theorem Ends.mono {a m : Nat} {s : State} {o : Host.Outcome State Fault Refusal} (h : Ends a s o) (e : a ||| m = m) : Ends m s o :=
  let ⟨t, ht, k⟩ := h
  ⟨t, ht, k.mono e⟩

/-- A command of which it is known what it may change answers whatever follows from that. -/
theorem Ends.answers {m : Nat} {c : Instr} {s : State} {P : State → Prop} (h : Ends m s (exec c s)) (k : ∀ t, Alter m s t → P t) :
    Answers c s P :=
  let ⟨t, ht, a⟩ := h
  ⟨t, ht, k t a⟩

/-- Every command answers a next state, and changes nothing that `commandM` does not name. -/
theorem ends_exec (c : Instr) (s : State) : Ends commandM s (exec c s) :=
  match c with
  | .supplyGood e fromBelow => (alter_execSupplyGood e fromBelow s).mono rfl
  | .resetRelease e => (alter_execResetRelease e s).mono rfl
  | .supplyFall e vcore vio => (alter_execSupplyFall e vcore vio s).mono rfl
  | .vanaLow e => (alter_execVanaLow e s).mono rfl
  | .vanaGood e => (alter_execVanaGood e s).mono rfl
  | .refSettled e => (alter_execRefSettled e s).mono rfl
  | .nresetLow e ns => (alter_execNresetLow e ns s).mono rfl
  | .warmResetRelease e => (alter_execWarmResetRelease e s).mono rfl
  | .crystalSupervision e good => (alter_execCrystalSupervision e good s).mono rfl
  | .bootImageLoad e d0 d1 img life => (alter_execBootImageLoad e d0 d1 img life s).mono rfl
  | .gloveSelftest e pass => (alter_execGloveSelftest e pass s).mono rfl
  | .plantReproof e => (alter_execPlantReproof e s).mono rfl
  | .bootEnd e a b => (alter_execBootEnd e a b s).mono rfl
  | .crystalLoss e => (alter_execCrystalLoss e s).mono rfl
  | .paceMeasurement e pace => (alter_execPaceMeasurement e pace s).mono rfl
  | .handshakeWaitEnd e level ticks => (alter_execHandshakeWaitEnd e level ticks s).mono rfl
  | .sramScrub e word out => (alter_execSramScrub e word out s).mono rfl
  | .modeRequest e r mode => (alter_execModeRequest e r mode s).mono rfl
  | .safeRequest e r => (alter_execSafeRequest e r s).mono rfl
  | .modeTransitionComplete e => (alter_execModeTransitionComplete e s).mono rfl
  | .stopRampTimeout e => (alter_execStopRampTimeout e s).mono rfl
  | .dischargeComplete e vl => (alter_execDischargeComplete e vl s).mono rfl
  | .dischargeLimitExpiry e => (alter_execDischargeLimitExpiry e s).mono rfl
  | .wakeCause e cause => (alter_execWakeCause e cause s).mono rfl
  | .rtcWrite e r v => (alter_execRtcWrite e r v s).mono rfl
  | .rtcAlarmWrite e r v => (alter_execRtcAlarmWrite e r v s).mono rfl
  | .rtcAlarm e => (alter_execRtcAlarm e s).mono rfl
  | .stoFilterExpiry e pin => (alter_execStoFilterExpiry e pin s).mono rfl
  | .stoDiscrepancy e => (alter_execStoDiscrepancy e s).mono rfl
  | .link60v e vl => (alter_execLink60v e vl s).mono rfl
  | .safeCauseClear e r v => (alter_execSafeCauseClear e r v s).mono rfl
  | .islLockoutEntry e n vdd vee => (alter_execIslLockoutEntry e n vdd vee s).mono rfl
  | .islLockoutRelease e n vdd vee => (alter_execIslLockoutRelease e n vdd vee s).mono rfl
  | .islSupplyOk e n => (alter_execIslSupplyOk e n s).mono rfl
  | .islSeq e n why => (alter_execIslSeq e n why s).mono rfl
  | .islPowerUp e n => (alter_execIslPowerUp e n s).mono rfl
  | .islProfileWrite e r n p v => (alter_execIslProfileWrite e r n p v s).mono rfl
  | .islBadFrame e n down => (alter_execIslBadFrame e n down s).mono rfl
  | .islLinkDown e n => (alter_execIslLinkDown e n s).mono rfl
  | .islFallbackApply e n => (alter_execIslFallbackApply e n s).mono rfl
  | .islLinkUp e n => (alter_execIslLinkUp e n s).mono rfl
  | .islTrimRemeasure e n ps => (alter_execIslTrimRemeasure e n ps s).mono rfl
  | .islandCalibration e n ps => (alter_execIslandCalibration e n ps s).mono rfl
  | .islVdsReport e n code => (alter_execIslVdsReport e n code s).mono rfl
  | .islEnvReport e n code vdd vee => (alter_execIslEnvReport e n code vdd vee s).mono rfl
  | .lvLockout e which => (alter_execLvLockout e which s).mono rfl
  | .lvLockoutRelease e which => (alter_execLvLockoutRelease e which s).mono rfl
  | .lvGateCheck e ch mv => (alter_execLvGateCheck e ch mv s).mono rfl
  | .desatDetection e n => (alter_execDesatDetection e n s).mono rfl
  | .kelvinOcDetection e n nvs => (alter_execKelvinOcDetection e n nvs s).mono rfl
  | .softTurnOffEnd e n => (alter_execSoftTurnOffEnd e n s).mono rfl
  | .detectionReceived e n => (alter_execDetectionReceived e n s).mono rfl
  | .selectorSpeedRefresh e m src rpm => (alter_execSelectorSpeedRefresh e m src rpm s).mono rfl
  | .speedStale e m => (alter_execSpeedStale e m s).mono rfl
  | .activeShortHoldExpiry e m => (alter_execActiveShortHoldExpiry e m s).mono rfl
  | .swapDtExpiry e m => (alter_execSwapDtExpiry e m s).mono rfl
  | .prestartRun e r => (alter_execPrestartRun e r s).mono rfl
  | .prestartDone e gates phs => (alter_execPrestartDone e gates phs s).mono rfl
  | .railTest e link phs => (alter_execRailTest e link phs s).mono rfl
  | .timebaseStart e j => (alter_execTimebaseStart e j s).mono rfl
  | .shadowWrite e r sh v => (alter_execShadowWrite e r sh v s).mono rfl
  | .pwmCommit e r tbs => (alter_execPwmCommit e r tbs s).mono rfl
  | .commitDeadline e j diffs vl => (alter_execCommitDeadline e j diffs vl s).mono rfl
  | .periodBoundary e j vl => (alter_execPeriodBoundary e j vl s).mono rfl
  | .tjInvalid e n => (alter_execTjInvalid e n s).mono rfl
  | .gateEdge e k => (alter_execGateEdge e k s).mono rfl
  | .tripAssert e src on => (alter_execTripAssert e src on s).mono rfl
  | .latchRelease e r mask => (alter_execLatchRelease e r mask s).mono rfl
  | .syncInEdge e => (alter_execSyncInEdge e s).mono rfl
  | .syncLost e => (alter_execSyncLost e s).mono rfl
  | .pwmForce e r v => (alter_execPwmForce e r v s).mono rfl
  | .adcTrigger e n => (alter_execAdcTrigger e n s).mono rfl
  | .adcSlotResult e n codes => (alter_execAdcSlotResult e n codes s).mono rfl
  | .integratorResult e n first codes => (alter_execIntegratorResult e n first codes s).mono rfl
  | .continuousSample e n code => (alter_execContinuousSample e n code s).mono rfl
  | .adcLane e n diff => (alter_execAdcLane e n diff s).mono rfl
  | .queueWrite e k => (alter_execQueueWrite e k s).mono rfl
  | .queueAck e r q n => (alter_execQueueAck e r q n s).mono rfl
  | .wcmpAssert e c uv => (alter_execWcmpAssert e c uv s).mono rfl
  | .ainCalWrite e r c v => (alter_execAinCalWrite e r c v s).mono rfl
  | .refEnableWrite e r on => (alter_execRefEnableWrite e r on s).mono rfl
  | .resFault e r mv err => (alter_execResFault e r mv err s).mono rfl
  | .encFault e k => (alter_execEncFault e k s).mono rfl
  | .encZPulse e k => (alter_execEncZPulse e k s).mono rfl
  | .sentMessage e r cal pulses slow => (alter_execSentMessage e r cal pulses slow s).mono rfl
  | .sentLost e r => (alter_execSentLost e r s).mono rfl
  | .graphActivation e g dur lag => (alter_execGraphActivation e g dur lag s).mono rfl
  | .qinWaitEnd e g => (alter_execQinWaitEnd e g s).mono rfl
  | .engStore e n word fatal => (alter_execEngStore e n word fatal s).mono rfl
  | .gwinDataRead e r => (alter_execGwinDataRead e r s).mono rfl
  | .gwinDataWrite e r v => (alter_execGwinDataWrite e r v s).mono rfl
  | .apply e r => (alter_execApply e r s).mono rfl
  | .discard e r => (alter_execDiscard e r s).mono rfl
  | .engClrCounts e r => (alter_execEngClrCounts e r s).mono rfl
  | .clrTimeMax e r => (alter_execClrTimeMax e r s).mono rfl
  | .graphFlagClear e r g mask => (alter_execGraphFlagClear e r g mask s).mono rfl
  | .fabClrCounts e r => (alter_execFabClrCounts e r s).mono rfl
  | .clrBlockMax e r => (alter_execClrBlockMax e r s).mono rfl
  | .pilotCycle e len high falls hs hn ls ln => (alter_execPilotCycle e len high falls hs hn ls ln s).mono rfl
  | .pilotSteady e high => (alter_execPilotSteady e high s).mono rfl
  | .pilotNoCycle e => (alter_execPilotNoCycle e s).mono rfl
  | .pilotWindow e sum n => (alter_execPilotWindow e sum n s).mono rfl
  | .pwinDataRead e r => (alter_execPwinDataRead e r s).mono rfl
  | .pwinDataWrite e r v => (alter_execPwinDataWrite e r v s).mono rfl
  | .pwinReset e r => (alter_execPwinReset e r s).mono rfl
  | .submit e r => (alter_execSubmit e r s).mono rfl
  | .proofComplete e => (alter_execProofComplete e s).mono rfl
  | .unitFailed e => (alter_execUnitFailed e s).mono rfl
  | .replaced e => (alter_execReplaced e s).mono rfl
  | .gloveCheckpoint e vl diff work => (alter_execGloveCheckpoint e vl diff work s).mono rfl
  | .journalWrite e src => (alter_execJournalWrite e src s).mono rfl
  | .gloveWatchdog e => (alter_execGloveWatchdog e s).mono rfl
  | .watchdogReset e => (alter_execWatchdogReset e s).mono rfl
  | .gloveCache e core fatal => (alter_execGloveCache e core fatal s).mono rfl
  | .halt e r => (alter_execHalt e r s).mono rfl
  | .gloveHaltReached e => (alter_execGloveHaltReached e s).mono rfl
  | .step e r diff => (alter_execStep e r diff s).mono rfl
  | .resume e r => (alter_execResume e r s).mono rfl
  | .breakpointWrite e r v => (alter_execBreakpointWrite e r v s).mono rfl
  | .dwinDataRead e r => (alter_execDwinDataRead e r s).mono rfl
  | .machineEnable e r m => (alter_execMachineEnable e r m s).mono rfl
  | .machineDisable e r m => (alter_execMachineDisable e r m s).mono rfl
  | .dirChange e r m dir => (alter_execDirChange e r m dir s).mono rfl
  | .treqWrite e r m v => (alter_execTreqWrite e r m v s).mono rfl
  | .treqLost e m => (alter_execTreqLost e m s).mono rfl
  | .limp e r m => (alter_execLimp e r m s).mono rfl
  | .shortBrake e m => (alter_execShortBrake e m s).mono rfl
  | .startRetry e m => (alter_execStartRetry e m s).mono rfl
  | .sensorReturn e m => (alter_execSensorReturn e m s).mono rfl
  | .keWindow e m => (alter_execKeWindow e m s).mono rfl
  | .demagClear e r m => (alter_execDemagClear e r m s).mono rfl
  | .mapDataWrite e r v => (alter_execMapDataWrite e r v s).mono rfl
  | .mapDataRead e r => (alter_execMapDataRead e r s).mono rfl
  | .validate e r => (alter_execValidate e r s).mono rfl
  | .mapValidateDone e => (alter_execMapValidateDone e s).mono rfl
  | .chopAssert x => (alter_execChopAssert x s).mono rfl
  | .chopRelease x => (alter_execChopRelease x s).mono rfl
  | .regenPermit e => (alter_execRegenPermit e s).mono rfl
  | .ov1Assert x => (alter_execOv1Assert x s).mono rfl
  | .ov1Release x => (alter_execOv1Release x s).mono rfl
  | .ov1HandBack e => (alter_execOv1HandBack e s).mono rfl
  | .ov2Assert x => (alter_execOv2Assert x s).mono rfl
  | .dclUv e vl => (alter_execDclUv e vl s).mono rfl
  | .uvClear e vl => (alter_execUvClear e vl s).mono rfl
  | .dclSense e mv vl => (alter_execDclSense e mv vl s).mono rfl
  | .chopTestPulse e => (alter_execChopTestPulse e s).mono rfl
  | .chopClear e r => (alter_execChopClear e r s).mono rfl
  | .dcdcModeWrite e r mode => (alter_execDcdcModeWrite e r mode s).mono rfl
  | .start e r => (alter_execStart e r s).mono rfl
  | .stop e r => (alter_execStop e r s).mono rfl
  | .unlock e r => (alter_execUnlock e r s).mono rfl
  | .handoverDeadline e => (alter_execHandoverDeadline e s).mono rfl
  | .suspendExpiry e => (alter_execSuspendExpiry e s).mono rfl
  | .tbatWrite e r t => (alter_execTbatWrite e r t s).mono rfl
  | .chgTbat e => (alter_execChgTbat e s).mono rfl
  | .batteryNtcEval e uv => (alter_execBatteryNtcEval e uv s).mono rfl
  | .chgTimeout e => (alter_execChgTimeout e s).mono rfl
  | .actEnable e r a => (alter_execActEnable e r a s).mono rfl
  | .actDisable e r a => (alter_execActDisable e r a s).mono rfl
  | .actTargetWrite e r a v => (alter_execActTargetWrite e r a v s).mono rfl
  | .brake e r a => (alter_execBrake e r a s).mono rfl
  | .ref e r a => (alter_execRef e r a s).mono rfl
  | .hallChange e a code => (alter_execHallChange e a code s).mono rfl
  | .inPosition e a => (alter_execInPosition e a s).mono rfl
  | .actTimeout e a => (alter_execActTimeout e a s).mono rfl
  | .actBrakeEnd e a => (alter_execActBrakeEnd e a s).mono rfl
  | .alignEnd e a => (alter_execAlignEnd e a s).mono rfl
  | .actRampTimeout e a => (alter_execActRampTimeout e a s).mono rfl
  | .actStartRetry e a => (alter_execActStartRetry e a s).mono rfl
  | .lifeMirror e => (alter_execLifeMirror e s).mono rfl
  | .mirror e r => (alter_execMirror e r s).mono rfl
  | .mirrorComplete e ok => (alter_execMirrorComplete e ok s).mono rfl
  | .clear e r n => (alter_execClear e r n s).mono rfl
  | .curveValidate e r n => (alter_execCurveValidate e r n s).mono rfl
  | .lifeTwinDataRead e r => (alter_execLifeTwinDataRead e r s).mono rfl
  | .lifeTwinDataWrite e r v => (alter_execLifeTwinDataWrite e r v s).mono rfl
  | .requestFrame e n l => (alter_execRequestFrame e n l s).mono rfl
  | .fetchFrame e n whole => (alter_execFetchFrame e n whole s).mono rfl
  | .echo e r b => (alter_execEcho e r b s).mono rfl
  | .regRead e r l => (alter_execRegRead e r l s).mono rfl
  | .regWrite e r l => (alter_execRegWrite e r l s).mono rfl
  | .regReadRepeat e r a c => (alter_execRegReadRepeat e r a c s).mono rfl
  | .regWriteRepeat e r a l => (alter_execRegWriteRepeat e r a l s).mono rfl
  | .regModify e r l => (alter_execRegModify e r l s).mono rfl
  | .reset e r guard => (alter_execReset e r guard s).mono rfl
  | .resetDelayExpiry e => (alter_execResetDelayExpiry e s).mono rfl
  | .sessionOpen e r => (alter_execSessionOpen e r s).mono rfl
  | .sessionAuth e r resp => (alter_execSessionAuth e r resp s).mono rfl
  | .sessionClose e r => (alter_execSessionClose e r s).mono rfl
  | .sessionTimeout e n => (alter_execSessionTimeout e n s).mono rfl
  | .lockoutEnd e origin node => (alter_execLockoutEnd e origin node s).mono rfl
  | .keyProgram e r key crc => (alter_execKeyProgram e r key crc s).mono rfl
  | .queueRead e r q skip c => (alter_execQueueRead e r q skip c s).mono rfl
  | .auditRead e r first c => (alter_execAuditRead e r first c s).mono rfl
  | .eventRead e r first c => (alter_execEventRead e r first c s).mono rfl
  | .auditDrain e n bad => (alter_execAuditDrain e n bad s).mono rfl
  | .eventLogDrain e n => (alter_execEventLogDrain e n s).mono rfl
  | .canEnableWrite e r c on => (alter_execCanEnableWrite e r c on s).mono rfl
  | .canIntegrated e c => (alter_execCanIntegrated e c s).mono rfl
  | .canTxStart e c => (alter_execCanTxStart e c s).mono rfl
  | .canTxAttemptEnd e c res lec exc => (alter_execCanTxAttemptEnd e c res lec exc s).mono rfl
  | .recover e r c => (alter_execRecover e r c s).mono rfl
  | .canRecovered e c => (alter_execCanRecovered e c s).mono rfl
  | .canLoad e r c mb req => (alter_execCanLoad e r c mb req s).mono rfl
  | .canTxreq e r c mbs => (alter_execCanTxreq e r c mbs s).mono rfl
  | .canCancel e r c mb => (alter_execCanCancel e r c mb s).mono rfl
  | .txqFlush e r c => (alter_execTxqFlush e r c s).mono rfl
  | .canRxack e r c n => (alter_execCanRxack e r c n s).mono rfl
  | .purge e r => (alter_execPurge e r s).mono rfl
  | .fwinDataAccess e r write v => (alter_execFwinDataAccess e r write v s).mono rfl
  | .canFrameReceived e c f ago lost => (alter_execCanFrameReceived e c f ago lost s).mono rfl
  | .tunnelSegment e c f ago lost => (alter_execTunnelSegment e c f ago lost s).mono rfl
  | .tunnelTimeout e c node => (alter_execTunnelTimeout e c node s).mono rfl
  | .heartbeatSend e => (alter_execHeartbeatSend e s).mono rfl
  | .heartbeatReceived e c f ago lost => (alter_execHeartbeatReceived e c f ago lost s).mono rfl
  | .partnerLost e p => (alter_execPartnerLost e p s).mono rfl
  | .stoDevice e d => (alter_execStoDevice e d s).mono rfl
  | .stoWear e d a b eol => (alter_execStoWear e d a b eol s).mono rfl
  | .emmcTuning e d retries fails => (alter_execEmmcTuning e d retries fails s).mono rfl
  | .format e r => (alter_execFormat e r s).mono rfl
  | .recEnableWrite e r on => (alter_execRecEnableWrite e r on s).mono rfl
  | .recTrigger e r => (alter_execRecTrigger e r s).mono rfl
  | .recList e r first c => (alter_execRecList e r first c s).mono rfl
  | .recRead e r num off len => (alter_execRecRead e r num off len s).mono rfl
  | .recDone e => (alter_execRecDone e s).mono rfl
  | .updBegin e r len => (alter_execUpdBegin e r len s).mono rfl
  | .updBlock e r kind num b => (alter_execUpdBlock e r kind num b s).mono rfl
  | .updCheck e r => (alter_execUpdCheck e r s).mono rfl
  | .updChecked e bad => (alter_execUpdChecked e bad s).mono rfl
  | .updActivate e r => (alter_execUpdActivate e r s).mono rfl
  | .updReadyTimeout e why => (alter_execUpdReadyTimeout e why s).mono rfl
  | .updSwitched e => (alter_execUpdSwitched e s).mono rfl
  | .updConfirm e r => (alter_execUpdConfirm e r s).mono rfl
  | .updAbort e r => (alter_execUpdAbort e r s).mono rfl
  | .updWindowExpiry e => (alter_execUpdWindowExpiry e s).mono rfl
  | .updFallback e cause old => (alter_execUpdFallback e cause old s).mono rfl
  | .updCommitted e ok => (alter_execUpdCommitted e ok s).mono rfl
  | .pairMessageReceived e l => (alter_execPairMessageReceived e l s).mono rfl
  | .pairLinkDown e => (alter_execPairLinkDown e s).mono rfl
  | .flagClear e r idx v => (alter_execFlagClear e r idx v s).mono rfl
  | .registerWrite e r idx v => (alter_execRegisterWrite e r idx v s).mono rfl
  | .filteredLevelChange e pin level => (alter_execFilteredLevelChange e pin level s).mono rfl
  | .encoderEdge e k up pace => (alter_execEncoderEdge e k up pace s).mono rfl
  | .canReceiveError e c lec by8 => (alter_execCanReceiveError e c lec by8 s).mono rfl
  | .hallCodeError e a => (alter_execHallCodeError e a s).mono rfl
  | .plantStored e => (alter_execPlantStored e s).mono rfl
  | .boundaryScanExtest e on => (alter_execBoundaryScanExtest e on s).mono rfl

/-- The queue's commands are no part of the invariant. -/
theorem State.Inv.withPending {s : State} (h : s.Inv) (l : List Instr) : State.Inv { s with pending := l } := { h with }

/-- Settles O57: the definition of a step, and that no word spells a command. -/
theorem stepTakesTheFront : Obligations.StepTakesTheFront := by
  refine ⟨fun c rest s => rfl, fun s h => ?_, fun _ _ => rfl, fun _ _ _ => rfl⟩
  rw [step, h]

/-- Settles O58: every store and both buffers are empty at reset. -/
theorem resetMeetsTheInvariant : Obligations.ResetMeetsTheInvariant :=
  { regs := rfl, isl := rfl, sel := rfl, conv := rfl, unit := rfl, tb := rfl, order := rfl
    events := Nat.zero_le _, audit := Nat.zero_le _, four := Nat.zero_le _ }

/-- Settles O59, by what every command may change. -/
theorem commandsCompleteAndTimeGoesOn : Obligations.CommandsCompleteAndTimeGoesOn := fun c s =>
  (ends_exec c s).answers fun _ a => ⟨a.pending rfl, a.elGrows rfl, a.freeGrows rfl⟩

/-- Settles O60: the empty queue idles, and what a command at the front may change leaves the invariant. -/
theorem everyStepKeepsTheInvariant : Obligations.EveryStepKeepsTheInvariant := by
  intro s s' hi hs
  unfold step at hs
  split at hs
  · cases hs
    exact hi
  · next c rest _ =>
    obtain ⟨t, ht, a⟩ := ends_exec c { s with pending := rest }
    rw [ht] at hs
    cases hs
    exact a.inv rfl (hi.withPending rest)

end Sys2Proof.Machine
end

section
/-! SUPPORT. What the rows of the hardware leave as it was (R688), read off what each row may change (`Alter`), and the settling
of O55 and O56. -/

namespace Sys2Proof.Machine

/-- The parts of `t` that a bitmap of `Alter` names, the others as in `s`. -/
def State.patch (m : Nat) (s t : State) : State where
  pending := if m.testBit 64 then t.pending else s.pending
  dt := if m.testBit 65 then t.dt else s.dt
  el := if m.testBit 66 then t.el else s.el
  regs := if m.testBit 67 then t.regs else s.regs
  free := if m.testBit 68 then t.free else s.free
  boot := if m.testBit 69 then t.boot else s.boot
  trans := if m.testBit 70 then t.trans else s.trans
  heldMode := if m.testBit 71 then t.heldMode else s.heldMode
  heldFn := if m.testBit 72 then t.heldFn else s.heldFn
  nfault := if m.testBit 73 then t.nfault else s.nfault
  ev := if m.testBit 74 then t.ev else s.ev
  audit := if m.testBit 75 then t.audit else s.audit
  rcd := if m.testBit 76 then t.rcd else s.rcd
  ports := if m.testBit 77 then t.ports else s.ports
  dtHi := if m.testBit 78 then t.dtHi else s.dtHi
  lastReq := if m.testBit 79 then t.lastReq else s.lastReq
  sessions := if m.testBit 80 then t.sessions else s.sessions
  lockouts := if m.testBit 81 then t.lockouts else s.lockouts
  service := if m.testBit 82 then t.service else s.service
  preDue := if m.testBit 83 then t.preDue else s.preDue
  key := if m.testBit 84 then t.key else s.key
  plant := if m.testBit 85 then t.plant else s.plant
  isl := if m.testBit 86 then t.isl else s.isl
  sel := if m.testBit 87 then t.sel else s.sel
  conv := if m.testBit 88 then t.conv else s.conv
  unit := if m.testBit 89 then t.unit else s.unit
  tb := if m.testBit 90 then t.tb else s.tb
  trips := if m.testBit 91 then t.trips else s.trips
  discharging := if m.testBit 92 then t.discharging else s.discharging
  meas := if m.testBit 93 then t.meas else s.meas
  eng := if m.testBit 94 then t.eng else s.eng
  trx := if m.testBit 95 then t.trx else s.trx
  pilot := if m.testBit 96 then t.pilot else s.pilot
  dcl := if m.testBit 97 then t.dcl else s.dcl
  chg := if m.testBit 98 then t.chg else s.chg
  pairUse := if m.testBit 99 then t.pairUse else s.pairUse
  act := if m.testBit 100 then t.act else s.act
  lvEnd := if m.testBit 101 then t.lvEnd else s.lvEnd
  life := if m.testBit 102 then t.life else s.life
  plc := if m.testBit 103 then t.plc else s.plc
  sto := if m.testBit 104 then t.sto else s.sto
  upd := if m.testBit 105 then t.upd else s.upd
  glove := if m.testBit 106 then t.glove else s.glove
  can := if m.testBit 107 then t.can else s.can
  pair := if m.testBit 108 then t.pair else s.pair
  stoHigh := if m.testBit 109 then t.stoHigh else s.stoHigh
  stoTold := if m.testBit 110 then t.stoTold else s.stoTold
  extest := if m.testBit 111 then t.extest else s.extest

theorem ite_eq_of_unless {α : Type} {b : Bool} {x y : α} (h : b = false → x = y) : x = if b then x else y := by
  cases b
  · exact h rfl
  · rfl

/-- What a change leaves as it was, as one equation. -/
theorem Alter.eq_patch {m : Nat} {s t : State} (a : Alter m s t) : t = State.patch m s t := by
  cases t
  simp only [State.patch, State.mk.injEq]
  exact ⟨ite_eq_of_unless a.pending, ite_eq_of_unless a.dt, ite_eq_of_unless a.el, ite_eq_of_unless a.regs,
    ite_eq_of_unless a.free, ite_eq_of_unless a.boot, ite_eq_of_unless a.trans, ite_eq_of_unless a.heldMode,
    ite_eq_of_unless a.heldFn, ite_eq_of_unless a.nfault, ite_eq_of_unless a.ev, ite_eq_of_unless a.audit,
    ite_eq_of_unless a.rcd, ite_eq_of_unless a.ports, ite_eq_of_unless a.dtHi, ite_eq_of_unless a.lastReq,
    ite_eq_of_unless a.sessions, ite_eq_of_unless a.lockouts, ite_eq_of_unless a.service, ite_eq_of_unless a.preDue,
    ite_eq_of_unless a.key, ite_eq_of_unless a.plant, ite_eq_of_unless a.isl, ite_eq_of_unless a.sel,
    ite_eq_of_unless a.conv, ite_eq_of_unless a.unit, ite_eq_of_unless a.tb, ite_eq_of_unless a.trips,
    ite_eq_of_unless a.discharging, ite_eq_of_unless a.meas, ite_eq_of_unless a.eng, ite_eq_of_unless a.trx,
    ite_eq_of_unless a.pilot, ite_eq_of_unless a.dcl, ite_eq_of_unless a.chg, ite_eq_of_unless a.pairUse,
    ite_eq_of_unless a.act, ite_eq_of_unless a.lvEnd, ite_eq_of_unless a.life, ite_eq_of_unless a.plc,
    ite_eq_of_unless a.sto, ite_eq_of_unless a.upd, ite_eq_of_unless a.glove, ite_eq_of_unless a.can,
    ite_eq_of_unless a.pair, ite_eq_of_unless a.stoHigh, ite_eq_of_unless a.stoTold, ite_eq_of_unless a.extest⟩

/-- The registers of the DEV group that a change leaves as they were. -/
theorem Alter.devOnly {m : Nat} {l : List Nat} {s t : State} (a : Alter m s t)
    (h : ((List.range 64).all fun i => l.contains i || !m.testBit i) = true) : DevOnly l s t := by
  intro i hi hn
  have := List.all_eq_true.mp h i (List.mem_range.mpr hi)
  exact a.low i hi (by simpa [hn] using this)

/-- An answer leaves what its bitmap does not name. -/
theorem Ends.leaves {m : Nat} {s : State} {o : Host.Outcome State Fault Refusal} (h : Ends m s o) :
    ∃ t, o = .next t ∧ t = State.patch m s t :=
  let ⟨t, ht, a⟩ := h
  ⟨t, ht, a.eq_patch⟩

theorem Ends.leavesDev {m : Nat} {s : State} {o : Host.Outcome State Fault Refusal} {l : List Nat} (h : Ends m s o)
    (hl : ((List.range 64).all fun i => l.contains i || !m.testBit i) = true) :
    ∃ t, o = .next t ∧ t = State.patch m s t ∧ DevOnly l s t :=
  let ⟨t, ht, a⟩ := h
  ⟨t, ht, a.eq_patch, a.devOnly hl⟩

/-- Settles O55, row by row. -/
theorem deviceRowsLeaveTheRest : Obligations.DeviceRowsLeaveTheRest :=
  ⟨fun e fromBelow s => (alter_execSupplyGood e fromBelow s).leavesDev rfl,
   fun e s => (alter_execVanaLow e s).leavesDev rfl,
   fun e s => (alter_execVanaGood e s).leavesDev rfl,
   fun e s => (alter_execRefSettled e s).leavesDev rfl,
   fun e s => (alter_execWarmResetRelease e s).leaves,
   fun e good s => (alter_execCrystalSupervision e good s).leavesDev rfl,
   fun e d0 d1 img life s => (alter_execBootImageLoad e d0 d1 img life s).leavesDev rfl,
   fun e pass s => (alter_execGloveSelftest e pass s).leavesDev rfl,
   fun e s => (alter_execPlantReproof e s).leavesDev rfl,
   fun e a b s => (alter_execBootEnd e a b s).leavesDev rfl,
   fun e s => (alter_execCrystalLoss e s).leavesDev rfl,
   fun e pace s => (alter_execPaceMeasurement e pace s).leavesDev rfl,
   fun e level ticks s => (alter_execHandshakeWaitEnd e level ticks s).leavesDev rfl,
   fun e word out s => (alter_execSramScrub e word out s).leavesDev rfl,
   fun e s => (alter_execModeTransitionComplete e s).leavesDev rfl,
   fun e s => (alter_execStopRampTimeout e s).leaves,
   fun e vl s => (alter_execDischargeComplete e vl s).leavesDev rfl,
   fun e s => (alter_execDischargeLimitExpiry e s).leavesDev rfl,
   fun e cause s => (alter_execWakeCause e cause s).leavesDev rfl,
   fun e s => (alter_execRtcAlarm e s).leavesDev rfl,
   fun e pin s => (alter_execStoFilterExpiry e pin s).leavesDev rfl,
   fun e s => (alter_execStoDiscrepancy e s).leavesDev rfl,
   fun e vl s => (alter_execLink60v e vl s).leavesDev rfl,
   fun e n vdd vee s => (alter_execIslLockoutEntry e n vdd vee s).leavesDev rfl,
   fun e n vdd vee s => (alter_execIslLockoutRelease e n vdd vee s).leavesDev rfl,
   fun e n s => (alter_execIslSupplyOk e n s).leavesDev rfl,
   fun e n why s => (alter_execIslSeq e n why s).leavesDev rfl,
   fun e n s => (alter_execIslPowerUp e n s).leavesDev rfl,
   fun e n down s => (alter_execIslBadFrame e n down s).leavesDev rfl,
   fun e n s => (alter_execIslLinkDown e n s).leavesDev rfl,
   fun e n s => (alter_execIslFallbackApply e n s).leavesDev rfl,
   fun e n s => (alter_execIslLinkUp e n s).leavesDev rfl,
   fun e n ps s => (alter_execIslTrimRemeasure e n ps s).leavesDev rfl,
   fun e n ps s => (alter_execIslandCalibration e n ps s).leavesDev rfl,
   fun e n code s => (alter_execIslVdsReport e n code s).leavesDev rfl,
   fun e n code vdd vee s => (alter_execIslEnvReport e n code vdd vee s).leavesDev rfl,
   fun e which s => (alter_execLvLockout e which s).leavesDev rfl,
   fun e which s => (alter_execLvLockoutRelease e which s).leavesDev rfl,
   fun e ch mv s => (alter_execLvGateCheck e ch mv s).leavesDev rfl,
   fun e n s => (alter_execDesatDetection e n s).leavesDev rfl,
   fun e n nvs s => (alter_execKelvinOcDetection e n nvs s).leavesDev rfl,
   fun e n s => (alter_execSoftTurnOffEnd e n s).leavesDev rfl,
   fun e n s => (alter_execDetectionReceived e n s).leavesDev rfl,
   fun e m src rpm s => (alter_execSelectorSpeedRefresh e m src rpm s).leavesDev rfl,
   fun e m s => (alter_execSpeedStale e m s).leavesDev rfl,
   fun e m s => (alter_execActiveShortHoldExpiry e m s).leavesDev rfl,
   fun e m s => (alter_execSwapDtExpiry e m s).leavesDev rfl,
   fun e gates phs s => (alter_execPrestartDone e gates phs s).leavesDev rfl,
   fun e link phs s => (alter_execRailTest e link phs s).leavesDev rfl,
   fun e j s => (alter_execTimebaseStart e j s).leavesDev rfl,
   fun e j diffs vl s => (alter_execCommitDeadline e j diffs vl s).leavesDev rfl,
   fun e j vl s => (alter_execPeriodBoundary e j vl s).leavesDev rfl,
   fun e n s => (alter_execTjInvalid e n s).leavesDev rfl,
   fun e k s => (alter_execGateEdge e k s).leavesDev rfl,
   fun e src on s => (alter_execTripAssert e src on s).leavesDev rfl,
   fun e s => (alter_execSyncInEdge e s).leavesDev rfl,
   fun e s => (alter_execSyncLost e s).leavesDev rfl,
   fun e n s => (alter_execAdcTrigger e n s).leavesDev rfl,
   fun e n codes s => (alter_execAdcSlotResult e n codes s).leavesDev rfl,
   fun e n first codes s => (alter_execIntegratorResult e n first codes s).leavesDev rfl,
   fun e n code s => (alter_execContinuousSample e n code s).leavesDev rfl,
   fun e n diff s => (alter_execAdcLane e n diff s).leavesDev rfl,
   fun e k s => (alter_execQueueWrite e k s).leavesDev rfl,
   fun e c uv s => (alter_execWcmpAssert e c uv s).leavesDev rfl,
   fun e r mv err s => (alter_execResFault e r mv err s).leavesDev rfl,
   fun e k s => (alter_execEncFault e k s).leavesDev rfl,
   fun e k s => (alter_execEncZPulse e k s).leavesDev rfl,
   fun e r cal pulses slow s => (alter_execSentMessage e r cal pulses slow s).leavesDev rfl,
   fun e r s => (alter_execSentLost e r s).leavesDev rfl,
   fun e g dur lag s => (alter_execGraphActivation e g dur lag s).leavesDev rfl,
   fun e g s => (alter_execQinWaitEnd e g s).leavesDev rfl,
   fun e n word fatal s => (alter_execEngStore e n word fatal s).leavesDev rfl⟩

/-- Settles O56, row by row. -/
theorem powerRowsLeaveTheRest : Obligations.PowerRowsLeaveTheRest :=
  ⟨fun e len high falls hs hn ls ln s => (alter_execPilotCycle e len high falls hs hn ls ln s).leavesDev rfl,
   fun e high s => (alter_execPilotSteady e high s).leavesDev rfl,
   fun e s => (alter_execPilotNoCycle e s).leavesDev rfl,
   fun e sum n s => (alter_execPilotWindow e sum n s).leavesDev rfl,
   fun e s => (alter_execProofComplete e s).leavesDev rfl,
   fun e s => (alter_execUnitFailed e s).leavesDev rfl,
   fun e s => (alter_execReplaced e s).leavesDev rfl,
   fun e src s => (alter_execJournalWrite e src s).leavesDev rfl,
   fun e s => (alter_execGloveWatchdog e s).leavesDev rfl,
   fun e core fatal s => (alter_execGloveCache e core fatal s).leavesDev rfl,
   fun e s => (alter_execGloveHaltReached e s).leavesDev rfl,
   fun e m s => (alter_execTreqLost e m s).leavesDev rfl,
   fun e m s => (alter_execShortBrake e m s).leavesDev rfl,
   fun e m s => (alter_execStartRetry e m s).leavesDev rfl,
   fun e m s => (alter_execSensorReturn e m s).leaves,
   fun e m s => (alter_execKeWindow e m s).leavesDev rfl,
   fun e s => (alter_execMapValidateDone e s).leavesDev rfl,
   fun x s => (alter_execChopAssert x s).leavesDev rfl,
   fun x s => (alter_execChopRelease x s).leavesDev rfl,
   fun e s => (alter_execRegenPermit e s).leavesDev rfl,
   fun x s => (alter_execOv1Assert x s).leavesDev rfl,
   fun x s => (alter_execOv1Release x s).leavesDev rfl,
   fun e s => (alter_execOv1HandBack e s).leaves,
   fun x s => (alter_execOv2Assert x s).leavesDev rfl,
   fun e vl s => (alter_execDclUv e vl s).leavesDev rfl,
   fun e vl s => (alter_execUvClear e vl s).leavesDev rfl,
   fun e mv vl s => (alter_execDclSense e mv vl s).leavesDev rfl,
   fun e s => (alter_execChopTestPulse e s).leaves,
   fun e s => (alter_execHandoverDeadline e s).leavesDev rfl,
   fun e s => (alter_execSuspendExpiry e s).leavesDev rfl,
   fun e s => (alter_execChgTbat e s).leavesDev rfl,
   fun e uv s => (alter_execBatteryNtcEval e uv s).leavesDev rfl,
   fun e s => (alter_execChgTimeout e s).leavesDev rfl,
   fun e a code s => (alter_execHallChange e a code s).leavesDev rfl,
   fun e a s => (alter_execInPosition e a s).leavesDev rfl,
   fun e a s => (alter_execActTimeout e a s).leavesDev rfl,
   fun e a s => (alter_execActBrakeEnd e a s).leavesDev rfl,
   fun e a s => (alter_execAlignEnd e a s).leavesDev rfl,
   fun e a s => (alter_execActRampTimeout e a s).leavesDev rfl,
   fun e a s => (alter_execActStartRetry e a s).leavesDev rfl,
   fun e s => (alter_execLifeMirror e s).leavesDev rfl,
   fun e ok s => (alter_execMirrorComplete e ok s).leavesDev rfl,
   fun e n whole s => (alter_execFetchFrame e n whole s).leaves,
   fun e n s => (alter_execSessionTimeout e n s).leavesDev rfl,
   fun e origin node s => (alter_execLockoutEnd e origin node s).leaves,
   fun e n bad s => (alter_execAuditDrain e n bad s).leavesDev rfl,
   fun e n s => (alter_execEventLogDrain e n s).leavesDev rfl,
   fun e c s => (alter_execCanIntegrated e c s).leavesDev rfl,
   fun e c s => (alter_execCanTxStart e c s).leaves,
   fun e c res lec exc s => (alter_execCanTxAttemptEnd e c res lec exc s).leavesDev rfl,
   fun e c s => (alter_execCanRecovered e c s).leavesDev rfl,
   fun e c node s => (alter_execTunnelTimeout e c node s).leavesDev rfl,
   fun e s => (alter_execHeartbeatSend e s).leaves,
   fun e p s => (alter_execPartnerLost e p s).leavesDev rfl,
   fun e d s => (alter_execStoDevice e d s).leavesDev rfl,
   fun e d a b eol s => (alter_execStoWear e d a b eol s).leavesDev rfl,
   fun e d retries fails s => (alter_execEmmcTuning e d retries fails s).leavesDev rfl,
   fun e s => (alter_execRecDone e s).leavesDev rfl,
   fun e bad s => (alter_execUpdChecked e bad s).leavesDev rfl,
   fun e why s => (alter_execUpdReadyTimeout e why s).leavesDev rfl,
   fun e s => (alter_execUpdSwitched e s).leavesDev rfl,
   fun e s => (alter_execUpdWindowExpiry e s).leavesDev rfl,
   fun e cause old s => (alter_execUpdFallback e cause old s).leavesDev rfl,
   fun e ok s => (alter_execUpdCommitted e ok s).leavesDev rfl,
   fun e l s => (alter_execPairMessageReceived e l s).leavesDev rfl,
   fun e s => (alter_execPairLinkDown e s).leavesDev rfl,
   fun e pin level s => (alter_execFilteredLevelChange e pin level s).leavesDev rfl,
   fun e k up pace s => (alter_execEncoderEdge e k up pace s).leavesDev rfl,
   fun e c lec by8 s => (alter_execCanReceiveError e c lec by8 s).leavesDev rfl,
   fun e a s => (alter_execHallCodeError e a s).leavesDev rfl,
   fun e s => (alter_execPlantStored e s).leavesDev rfl,
   fun e on s => (alter_execBoundaryScanExtest e on s).leavesDev rfl⟩

end Sys2Proof.Machine
end

section
/-! SUPPORT. A fall of VANA whose event finds the log full (R84, R633), and the settling of O12. The comparators that the
unsettled reference asserts (R227) trip units before SUPPLY_LOW is raised, and a latch raises an event of its own (R200):
with one place left in the buffer, SUPPLY_LOW is the event that is lost. -/

namespace Sys2Proof.Machine

set_option Elab.async false

/-- HB00 of a traction machine produces edges, and its first trip by comparator 0 latches it; VANA is good. -/
def latchArmed : State :=
  (((({ W.run Mode.ready with plant := some (W.plant 0) }.setFld (R.PWM_HB_TRIP 0) F.PWM_HB_TRIP.SRC0 0).setFld
    (R.PWM_HB_TRIP 0) F.PWM_HB_TRIP.N 1).setBit (R.PWM_HB_STAT 0) F.PWM_HB_STAT.EN true).setBit
    (R.ADC_WCMP 0) F.ADC_WCMP.EN true).setBit R.DEV_SUPPLY F.DEV_SUPPLY.VANA_OK true

/-- The event buffer has a place before the one that tells of a loss. -/
def withOnePlace (s : State) : State := { s with ev := { s.ev with buf := List.replicate 16382 ⟨0, 0, 0, 0, 0xFF, []⟩ } }

/-- An event of the code is among those from a place of the buffer on. -/
def hasEvent (n code : Nat) (s : State) : Bool := (s.ev.buf.drop n).any fun x => x.code == code

theorem Logs.hasEvent {code subj : Nat} {s t : State} (h : Logs code subj s t) :
    hasEvent s.ev.buf.length code t = true := by
  obtain ⟨x, hx, hcode, -⟩ := h
  exact List.any_eq_true.2 ⟨x, hx, beq_iff_eq.2 hcode⟩

theorem withOnePlace_length (s : State) : (withOnePlace s).ev.buf.length = 16382 := List.length_replicate

theorem withOnePlace_ready {s : State} (h : s.logs = true) : LogReady (withOnePlace s) :=
  ⟨h, by rw [withOnePlace_length]; decide⟩

theorem latchArmed_vana : (withOnePlace latchArmed).bit R.DEV_SUPPLY F.DEV_SUPPLY.VANA_OK = true := by decide +kernel

theorem latchArmed_mode : (withOnePlace latchArmed).mode ≠ Mode.standby := by decide +kernel

theorem latchArmed_logs : latchArmed.logs = true := by decide +kernel

/-- The latch of HB00 takes the last place. -/
theorem vanaLow_lost : hasEvent 16382 EV.SUPPLY_LOW (vanaLow ((withOnePlace latchArmed).tick 0)) = false := by
  decide +kernel

/-- Refutes O12: of a fall of VANA that trips and latches HB00, TRIP_LATCH is logged in the last place and SUPPLY_LOW is lost. -/
theorem not_supplyAndLinkCauses : ¬ Obligations.SupplyAndLinkCauses := by
  rintro ⟨hlow, -⟩
  obtain ⟨t, ht, -, -, -, -, hlogs⟩ := hlow 0 (withOnePlace latchArmed) latchArmed_vana (by decide) latchArmed_mode
  injection ht with ht
  have hin := (hlogs (withOnePlace_ready latchArmed_logs)).hasEvent
  rw [withOnePlace_length, ← ht, vanaLow_lost] at hin
  exact absurd hin (by decide)

end Sys2Proof.Machine
end

section
/-! SUPPORT. Island clauses that leave the selector out, and the settling of O13 and O14. An island of a machine that the
selector has in its safe state is commanded by it at once (R154, R157): power applied to the island re-evaluates the
machine, and a swap whose dead time is nearly over holds a trim step back (R110). -/

namespace Sys2Proof.Machine

set_option Elab.async false

/-- Machine 0, of unknown speed, stands freewheeling in its safe state, and its high side is commanded on. -/
def freewheeling : State :=
  (({ W.run Mode.safe with plant := some (W.plant 0) }.setBit (R.PROT_SS_STAT 0) F.PROT_SS_STAT.APPLIED true).setBit
    (R.PROT_SS_STAT 0) F.PROT_SS_STAT.RESULT false).setIsl 0 { cmdOn := true }

theorem freewheeling_on : (freewheeling.islOf 0).cmdOn = true := by decide +kernel

/-- The evaluation finds row 1: the high side goes off for the short of the low side. -/
theorem islPowerUp_turns_off : ((islPowerUp 0 (freewheeling.tick 0)).islOf 0).cmdOn = false := by decide +kernel

/-- Refutes O13: power applied to an island of a machine in its safe state has the selector command the island off. -/
theorem not_islandSuppliesLock : ¬ Obligations.IslandSuppliesLock := by
  rintro ⟨-, -, -, -, -, hpower⟩
  obtain ⟨t, ht, -, -, -, -, -, -, -, hsame, -⟩ := hpower 0 0 freewheeling
  injection ht with ht
  have hoff : (t.islOf (0 : Fin 48)).cmdOn = false := by rw [← ht]; exact islPowerUp_turns_off
  exact absurd (hoff.symm.trans (hsame.trans freewheeling_on)) (by decide)

/-- A linked island of machine 0 on the shorting side, off and quiet, while the selector's swap ends at tick 1000. -/
def swapNear : State :=
  ({ W.run Mode.safe with plant := some (W.plant 0), dt := 1000 }.setBit (R.ISL_STAT 1) F.ISL_STAT.LINK_UP true).setSel 0
    { swapDue := some 1000 }

/-- The swap that is due forbids the step. -/
theorem islTrim_waits : (islTrim 1 50000 (swapNear.tick 0)).fld (R.ISL_STAT 1) F.ISL_STAT.TRIM = 0 := by decide +kernel

/-- Refutes O14: a re-measurement moves no trim while the selector is to command the island on within 100 ns. The delay of
50 ns asks for a trim of 127. -/
theorem not_islandLinkSupervised : ¬ Obligations.IslandLinkSupervised := by
  rintro ⟨-, -, -, -, -, -, hstep⟩
  obtain ⟨t, ht, htrim, -⟩ := hstep 0 1 50000 swapNear (by decide +kernel) (by decide +kernel) (by decide +kernel)
    (by decide +kernel) (by decide +kernel) (by decide +kernel)
  injection ht with ht
  rw [← ht] at htrim
  exact absurd htrim (by decide +kernel)

end Sys2Proof.Machine
end

section
/-! SUPPORT. A detection on a machine whose CONV record names no channel of the part, and the settling of O15. As for O52
above, the statement is over every state, and the `sel` of a state's record is any number. -/

namespace Sys2Proof.Machine

set_option Elab.async false

/-- A channel far beyond the two there are has `PROT_IST` of island 0 where its `PROT_SS_STAT` would be. -/
theorem selStat_stray_ist : R.PROT_SS_STAT 0x8E = R.PROT_IST 0 := rfl

/-- Island 0 of a machine bound to that channel has detected desaturation at tick 0. -/
def strayDetected : State :=
  { W.run Mode.safe with
    plant := some { W.plant 0 with
      convs := [{ index := 0, kind := 0, prio := 0, hold := false, group := 0, sel := 0x8E }] } }.setIsl 0
    { det := some (0, true, false) }

theorem strayDetected_det : (strayDetected.islOf (0 : Fin 48)).det = some (0, true, false) := by decide +kernel

/-- The selector records the machine's unknown speed over the stamp. -/
theorem detReceived_stray : (detReceived 0 (strayDetected.tick 0)).fld (R.PROT_IST 0) F.PROT_IST.STAMP ≠ 0 := by
  decide +kernel

/-- Refutes O15: the stamp 0 that the interior receives is overwritten when the machine goes to the selector. -/
theorem not_switchFaultsDetected : ¬ Obligations.SwitchFaultsDetected := by
  rintro ⟨-, -, -, -, hreceived, -⟩
  obtain ⟨t, ht, hstamp, -⟩ := hreceived 0 0 0 true false strayDetected strayDetected_det
  injection ht with ht
  rw [← ht] at hstamp
  exact detReceived_stray hstamp

end Sys2Proof.Machine
end

section
/-! SUPPORT. A boundary at which a trip latches a machine, and the settling of O20. A source still asserted at a boundary
trips its units there (R198), and a latch sends the machine to the selector two ticks later (R200): the command of the
boundary ends at that tick. -/

namespace Sys2Proof.Machine

set_option Elab.async false

/-- A machine in DRIVE whose unit HB00 is enabled, on timebase 0, the deadline before its boundary at tick 1000 met. -/
def boundaryDue : State :=
  (((W.conv Mode.drive 0).setUnit 0 { ctrl := 1 }).setTb 0
    { run := true, ready := true, p := 1000, nextP := 1000, nextLen := 1000, len := 1000 }).setFld (R.PWM_HB_TRIP 0)
    F.PWM_HB_TRIP.N 1

/-- The same with trip source 0, which HB00 selects, asserted. -/
def latchDue : State := { boundaryDue.setFld (R.PWM_HB_TRIP 0) F.PWM_HB_TRIP.SRC0 0 with trips := 1 }

theorem latchDue_run : (latchDue.tbOf (0 : Fin 6)).run = true ∧ (latchDue.tbOf (0 : Fin 6)).ready = true := by
  decide +kernel

theorem latchDue_time : latchDue.d0 = true ∧ max (latchDue.dt + 0) (nextB latchDue (0 : Fin 6)) = 1000 := by decide +kernel

/-- The latch acts at tick 1002. -/
theorem periodBoundary_latch : (periodBoundary 0 0 (latchDue.tick 0)).dt = 1002 := by decide +kernel

/-- Refutes O20: a boundary whose trip latches a machine ends two ticks after the boundary. -/
theorem not_timebasesRun : ¬ Obligations.TimebasesRun := by
  rintro ⟨-, -, hboundary, -, -⟩
  obtain ⟨hrun, hready⟩ := latchDue_run
  obtain ⟨hd0, hdue⟩ := latchDue_time
  obtain ⟨t, ht, -, -, -, -, htime, -⟩ := hboundary 0 0 0 latchDue hrun (.inr hready)
  injection ht with ht
  have hdt : t.dt = 1002 := by rw [← ht]; exact periodBoundary_latch
  exact absurd (hdt.symm.trans ((htime hd0).trans hdue)) (by decide)

end Sys2Proof.Machine
end

section
/-! SUPPORT. An activation of which a member failed (R316, R324), and the settling of O21. Its set is lost though the pair
is whole again at its end: the activation keeps that, and the statement does not ask for it. -/

namespace Sys2Proof.Machine

set_option Elab.async false

/-- Graph 0 with an activation that waits in a QIN until tick 5, and of which a member has failed since its start. -/
def lostWaiting : State := (W.run Mode.drive).setGraph 0 { act := some { n := 0, b := 0, start := 0, wait := some 5, lost := true } }

theorem lostWaiting_act :
    (lostWaiting.graphOf (0 : Fin 8)).act = some { n := 0, b := 0, start := 0, wait := some 5, lost := true } := by decide +kernel

theorem lostWaiting_whole : lostWaiting.d0 = true ∧ pairWhole lostWaiting (0 : Fin 8) = true ∧
    imgInst (gWords lostWaiting (0 : Fin 8)) ≤ 0 := by decide +kernel

/-- No set stands at its end. -/
theorem qinWaitEnd_lost : ((qinWaitEnd 0 (lostWaiting.tick 0)).graphOf 0).done = [] := by decide +kernel

/-- Refutes O21: an activation that lost a member leaves no set when its QIN's wait ends. -/
theorem not_graphsActivate : ¬ Obligations.GraphsActivate := by
  rintro ⟨-, -, hwait, -⟩
  obtain ⟨hd0, hwhole, hidx⟩ := lostWaiting_whole
  obtain ⟨t, ht, -, -, -, hset⟩ := hwait 0 0 _ 5 lostWaiting lostWaiting_act rfl hd0 hidx
  injection ht with ht
  have hdone := hset hwhole rfl
  rw [← ht, show (qinWaitEnd (0 : Fin 8) (lostWaiting.tick 0)).graphOf (0 : Fin 8) =
    (qinWaitEnd 0 (lostWaiting.tick 0)).graphOf 0 from rfl, qinWaitEnd_lost] at hdone
  exact absurd hdone (by simp)

end Sys2Proof.Machine
end

section
/-! SUPPORT. A comparator asserted as the reference settles, and the settling of O22. Every comparator is evaluated then
(R227), and the trip of one whose pin stands outside its window may latch a machine, which goes to the selector two ticks
after its stamp (R200): the command ends at that tick. -/

namespace Sys2Proof.Machine

set_option Elab.async false

/-- The machine of `latchArmed`, whose comparator 0 is to assert as the reference settles at tick 5. -/
def settling : State := { latchArmed with meas := { wraw := 1, refDue := some 5 } }

theorem settling_d0 : settling.d0 = true := by decide +kernel

/-- The latch acts two ticks after the trip's stamp, which is `FILT`, here 2, after the settling. -/
theorem refSettles_latch : (refSettles (settling.tick 0)).dt = 9 := by decide +kernel

/-- Refutes O22: the settling that latches a machine ends at the tick of the latch. -/
theorem not_referenceAndComparators : ¬ Obligations.ReferenceAndComparators := by
  rintro ⟨hsettles, -⟩
  obtain ⟨t, ht, -, -, htime, -⟩ := hsettles 0 5 settling rfl
  injection ht with ht
  have hdt : t.dt = 9 := by rw [← ht]; exact refSettles_latch
  exact absurd (hdt.symm.trans (htime settling_d0)) (by decide +kernel)

end Sys2Proof.Machine
end

section
/-! SUPPORT. A SENT receiver lost after a good message, and the settling of O24. The count of good messages in a row, which
stands with the measurement, starts anew with a loss (R254); the statement has only registers and the log change. -/

namespace Sys2Proof.Machine

set_option Elab.async false

/-- Receiver 0 is enabled and has had one good message. -/
def sentOnce : State :=
  ((W.run Mode.drive).setBit (R.ADC_SENT_CFG 0) F.ADC_SENT_CFG.EN true).setSent 0 { oks := 1 }

theorem sentOnce_enabled : sentOnce.bit (R.ADC_SENT_CFG (0 : Fin 8)) F.ADC_SENT_CFG.EN = true ∧
    sentOnce.bit (R.ADC_SENT_STAT (0 : Fin 8)) F.ADC_SENT_STAT.LOST = false := by decide +kernel

theorem sentOnce_noActuator : ∀ a : Fin 3, aCfg sentOnce a F.ACT_A_CFG.POSSRC ≠ 1 := by decide +kernel

/-- The loss sets the count to 0. -/
theorem sentLost_oks : ((sentActs 0 (sentTimeout 0 (sentOnce.tick 0))).sentOf 0).oks = 0 := by decide +kernel

theorem sentOnce_oks : (sentOnce.sentOf 0).oks = 1 := by decide +kernel

/-- Nothing but time, registers, the log and the recorder differing, the SENT receivers are as before. -/
theorem LogsOnly.sentOf {s t : State} (h : LogsOnly s t) (r : Nat) : t.sentOf r = s.sentOf r := by
  unfold LogsOnly at h
  rw [h]
  rfl

/-- Refutes O24: the loss of a receiver that has had a good message changes its count. -/
theorem not_positionInputs : ¬ Obligations.PositionInputs := by
  rintro ⟨-, -, -, -, -, -, -, -, -, hlost⟩
  obtain ⟨hen, hup⟩ := sentOnce_enabled
  obtain ⟨t, ht, -, -, -, -, hrest⟩ := hlost 0 0 sentOnce hen hup
  injection ht with ht
  have hsame := (hrest sentOnce_noActuator).1.sentOf 0
  have hoks : (t.sentOf 0).oks = 0 := by rw [← ht]; exact sentLost_oks
  rw [hsame, sentOnce_oks] at hoks
  exact absurd hoks (by decide)

end Sys2Proof.Machine
end

section
/-! SUPPORT. A re-proof while a proof is in progress, and the settling of O34. `PLC_STAT.STATE` names a proof before it names
the description in force (R346), and the statement's hypotheses leave the proof open. -/

namespace Sys2Proof.Machine

set_option Elab.async false

/-- Step 6 of boot with no description stored, and a proof that has not ended. -/
def proofPending : State := { W.at .plant with plc := { proof := some ([], 0) } }

/-- `STATE` names the proof. -/
theorem plantReproof_pending : (plantReproof (proofPending.tick 0)).fld R.PLC_STAT F.PLC_STAT.STATE = 2 := by
  decide +kernel

/-- Refutes O34: with a proof in progress step 6 leaves `STATE` at 2, though no description is in force. -/
theorem not_placerAnswers : ¬ Obligations.PlacerAnswers := by
  rintro ⟨-, -, -, hempty, -⟩
  obtain ⟨t, ht, -, -, -, hstate, -⟩ := hempty 0 proofPending rfl rfl rfl
  injection ht with ht
  rw [← ht, plantReproof_pending] at hstate
  exact absurd hstate (by decide)

end Sys2Proof.Machine
end

section
/-! SUPPORT. A start of frame while a controller integrates, and the settling of O37. A controller on the bus that meets an
FD frame with `FD_EN` = 0 integrates again (R588), and sends nothing until it has (R592); the statement leaves this state
in. -/

namespace Sys2Proof.Machine

set_option Elab.async false

/-- Controller 2, enabled and error active, integrates again with a heartbeat pending. -/
def rejoining : State := (W.bus { integ := true, hb := some { frame := {} } }).setBit (R.CAN_C_CFG 2) F.CAN_C_CFG.EN true

theorem rejoining_on_bus : rejoining.fld (R.CAN_C_STAT (2 : Fin 3)) F.CAN_C_STAT.STATE = 1 ∧
    (canOf rejoining (2 : Fin 3)).fly = none ∧ rejoining.bit (R.CAN_C_CFG (2 : Fin 3)) F.CAN_C_CFG.EN = true := by
  decide +kernel

theorem rejoining_may_send : rejoining.bit (R.CAN_C_CFG (2 : Fin 3)) F.CAN_C_CFG.LISTEN = false ∧
    rejoining.bit (R.CAN_C_CFG (2 : Fin 3)) F.CAN_C_CFG.RESTRICTED = false ∧
    canBest (canCands (canOf rejoining (2 : Fin 3))) = some (33, 0, {}) := by decide +kernel

/-- No frame starts. -/
theorem canTxStart_rejoining : (canOf (canTxStart 2 (rejoining.tick 0)) 2).fly = none := by decide +kernel

/-- Refutes O37: a controller that integrates again takes no frame at a start of frame. -/
theorem not_canOnTheBus : ¬ Obligations.CanOnTheBus := by
  rintro ⟨-, -, -, -, hstart, -⟩
  obtain ⟨hstate, hfly, hon⟩ := rejoining_on_bus
  obtain ⟨hlisten, hrestricted, hbest⟩ := rejoining_may_send
  obtain ⟨t, ht, htaken, -⟩ := hstart 0 33 0 {} 2 rejoining (.inl hstate) hfly hlisten hrestricted hon hbest
  injection ht with ht
  have hnone : (canOf t 2).fly = none := by rw [← ht]; exact canTxStart_rejoining
  exact absurd (hnone.symm.trans htaken) (by decide)

end Sys2Proof.Machine
end

section
/-! SUPPORT. A switch tick taken from a timebase whose period length is 0, and the settling of O40. The switch tick is the
first boundary at or after now of the reference timebase (R647); the statement takes every state, and for a timebase of
length 0 that boundary lies in the past, where no time passes. -/

namespace Sys2Proof.Machine

set_option Elab.async false

/-- An activation in progress at tick 10, with a timebase that runs at length 0 from boundary 0. -/
def stalledSwitch : State :=
  { ((W.run Mode.ready).setTb 0 { run := true, len := 0 }).setFld R.UPD_STAT F.UPD_STAT.STATE Up.activating with dt := 10 }

theorem stalledSwitch_activating : updState stalledSwitch = Up.activating ∧ stalledSwitch.d0 = true := by decide +kernel

theorem stalledSwitch_in_time :
    (if stalledSwitch.d0 then stalledSwitch.dt + 0 else stalledSwitch.dt) < stalledSwitch.upd.at_ + 600000000 := by
  decide +kernel

theorem switchTick_stalledSwitch : switchTick (stalledSwitch.tick 0) = 0 := by decide +kernel

/-- The banks switch at tick 10. -/
theorem updSwitched_stalledSwitch : (updSwitched (stalledSwitch.tick 0)).dt = 10 := by decide +kernel

/-- Refutes O40: time does not go back to a boundary in the past. -/
theorem not_updateProgresses : ¬ Obligations.UpdateProgresses := by
  rintro ⟨-, -, hswitch, -⟩
  obtain ⟨hstate, hd0⟩ := stalledSwitch_activating
  obtain ⟨t, ht, -, -, -, -, htime, -⟩ := hswitch 0 stalledSwitch hstate stalledSwitch_in_time
  injection ht with ht
  have hdt : t.dt = 10 := by rw [← ht]; exact updSwitched_stalledSwitch
  exact absurd (hdt.symm.trans ((htime hd0).trans switchTick_stalledSwitch)) (by decide)

end Sys2Proof.Machine
end

section
/-! SUPPORT. A port that reads its own status register, and the settling of O41. `CMD_PORT_STAT` counts the requests of its
port and shows those it holds (R541, R544): a read of it answers with that read counted, not with the word before. -/

namespace Sys2Proof.Machine

set_option Elab.async false

/-- A read of `CMD_PORT_STAT` of port 0. -/
abbrev ownPort : BitVec 16 := BitVec.ofNat 16 (R.CMD_PORT_STAT 0)

theorem run_takes : Takes W.req (W.run Mode.drive) := by decide +kernel

/-- Before it the register reads 0, and the reply shows one request counted and one held. -/
theorem ownPort_reply :
    ((hostOp stepGo W.req (.regRead [ownPort.toNat]) ((W.run Mode.drive).tick 0)).portOf (pathKey W.req)).replies ≠
      ((W.run Mode.drive).portOf (pathKey W.req)).replies ++
        [replyBytes { req := W.req, code := 0x10 }
          ⟨St.ok, leBytes 5 (readReg W.req (W.run Mode.drive) ownPort.toNat).toNat⟩] := by
  decide +kernel

/-- Refutes O41: the read of a port's own status counts itself. -/
theorem not_registersReadAndWritten : ¬ Obligations.RegistersReadAndWritten := by
  rintro ⟨-, hread, -⟩
  obtain ⟨t, ht, ⟨-, -, hreplies⟩, -⟩ := hread 0 W.req ownPort (W.run Mode.drive) run_takes (by decide) (by decide)
    (by decide) (by decide) (by decide) (by decide)
  injection ht with ht
  rw [← ht] at hreplies
  exact ownPort_reply (hreplies (by decide))

end Sys2Proof.Machine
end

section
/-! SUPPORT. A forced output written with a halt on its way on a live link, and the settling of O44. A write of `PWM_FORCE`
watches the link (R80, R208): with a halt pending at 60 V or more it ends SERVICE, also where its `EN` is 0. -/

namespace Sys2Proof.Machine

set_option Elab.async false

/-- SERVICE with a halt pending and the link at 60 V, as privileged session 3 stands open. -/
def haltOnLink : State :=
  ((W.priv Mode.service).setBit R.GLV_STAT F.GLV_STAT.HALT_PEND true).setFld R.DCL_STAT F.DCL_STAT.VLINK 120

theorem haltOnLink_takes : Takes W.reqP haltOnLink ∧ privileged haltOnLink W.reqP = true ∧
    haltOnLink.mode = Mode.service := by decide +kernel

theorem haltOnLink_quiet : haltOnLink.bit R.PWM_FORCE F.PWM_FORCE.EN = false ∧ haltOnLink.auditFull = false ∧
    haltOnLink.discharging = false := by decide +kernel

/-- The write enters SAFE. -/
theorem pwmForce_haltOnLink :
    (hostOp stepGo W.reqP (.regWrite [(R.PWM_FORCE, 0)]) (haltOnLink.tick 0)).reg R.DEV_MODE ≠ haltOnLink.reg R.DEV_MODE := by
  decide +kernel

/-- Refutes O44: the write changes the mode. -/
theorem not_pwmWritten : ¬ Obligations.PwmWritten := by
  rintro ⟨-, -, -, -, -, -, -, hforce, -⟩
  obtain ⟨htakes, hpriv, hmode⟩ := haltOnLink_takes
  obtain ⟨hoff, hroom, hdisch⟩ := haltOnLink_quiet
  obtain ⟨t, ht, -, -, hframe⟩ := hforce 0 W.reqP 0 haltOnLink htakes hpriv hmode (by decide) (by decide) hoff hroom
  injection ht with ht
  obtain ⟨-, hregs⟩ := hframe hdisch
  have hsame : t.reg R.DEV_MODE = haltOnLink.reg R.DEV_MODE := hregs R.DEV_MODE (by decide)
  rw [← ht] at hsame
  exact pwmForce_haltOnLink hsame

end Sys2Proof.Machine
end

section
/-! SUPPORT. A graph's flags cleared with a block of it that holds one, and the settling of O45. A bit written to
`ENG_Gg_FLAGS` clears in the register and in every block (R280), and the statement keeps the engines as they were. -/

namespace Sys2Proof.Machine

set_option Elab.async false

/-- Graph 0 with flag 0 set by its block 0. -/
def flaggedGraph : State := (W.run Mode.drive).setGraph 0 { flg := [(0, 1)] }

theorem flaggedGraph_takes : Takes W.req flaggedGraph := by decide +kernel

/-- The clear reaches the block. -/
theorem graphFlagClear_flaggedGraph :
    ((hostOp stepGo W.req (.regWrite [(R.ENG_G_FLAGS (0 : Fin 8), BitVec.ofNat 40 (1 : BitVec 4).toNat)])
      (flaggedGraph.tick 0)).graphOf 0).flg = [] ∧ (flaggedGraph.graphOf 0).flg = [(0, 1)] := by
  decide +kernel

/-- Refutes O45: the blocks of the graph lose the flag too. -/
theorem not_measurementAndEngineWritten : ¬ Obligations.MeasurementAndEngineWritten := by
  rintro ⟨-, -, -, -, -, -, -, -, -, -, -, -, -, hclear, -⟩
  obtain ⟨t, ht, -, -, hframe, -⟩ := hclear 0 W.req 0 1 flaggedGraph flaggedGraph_takes
  injection ht with ht
  obtain ⟨hcleared, hset⟩ := graphFlagClear_flaggedGraph
  have heng : t.eng = flaggedGraph.eng := (congrArg State.eng hframe).trans rfl
  have hsame : (t.graphOf 0).flg = (flaggedGraph.graphOf 0).flg := by unfold State.graphOf; rw [heng]
  rw [← ht, hset] at hsame
  exact absurd (hcleared.symm.trans hsame) (by decide)

end Sys2Proof.Machine
end

section
/-! SUPPORT. The recorder armed with a history, and the settling of O50. Arming keeps each channel's newest value, of which
a sample stamped later may still be taken (R635, R636); the statement says that no history is left. -/

namespace Sys2Proof.Machine

set_option Elab.async false

/-- A privileged session, and a recorder with a channel in its history. -/
def recordedBefore : State := { W.priv Mode.ready with rcd := { hist := [(0, [])] } }

theorem recordedBefore_takes : Takes W.reqP recordedBefore ∧ privileged recordedBefore W.reqP = true := by decide +kernel

theorem recordedBefore_off : recordedBefore.bit R.STO_REC_CFG F.STO_REC_CFG.EN = false ∧
    recordedBefore.fld R.STO_REC_CFG F.STO_REC_CFG.POST ≤ 4000 ∧
    recordedBefore.fld R.STO_REC_CFG F.STO_REC_CFG.TAPSHIFT ≤ 24 ∧ recordedBefore.auditFull = false := by decide +kernel

/-- The channel stays in the history. -/
theorem recEnable_recordedBefore :
    (hostOp stepGo W.reqP (setting recordedBefore R.STO_REC_CFG [(F.STO_REC_CFG.EN, b2n true)])
      (recordedBefore.tick 0)).rcd.hist.length = 1 := by
  decide +kernel

/-- Refutes O50: arming leaves the channels of the history. -/
theorem not_storageWritten : ¬ Obligations.StorageWritten := by
  rintro ⟨-, -, harm, -⟩
  obtain ⟨htakes, hpriv⟩ := recordedBefore_takes
  obtain ⟨hoff, hpost, hshift, hroom⟩ := recordedBefore_off
  obtain ⟨t, ht, -, -, hrcd, -⟩ := harm 0 W.reqP recordedBefore htakes hpriv hoff hpost hshift hroom
  injection ht with ht
  have hnone : t.rcd.hist.length = 0 := by rw [hrcd]; rfl
  rw [← ht, recEnable_recordedBefore] at hnone
  exact absurd hnone (by decide)

end Sys2Proof.Machine
end

section
/-! SUPPORT. A first segment that says its packet is too long, and the settling of O51. A packet whose L exceeds 4,164 is
discarded as its header is complete (R610), which its first segment of an FD frame already does. -/

namespace Sys2Proof.Machine

set_option Elab.async false

/-- A first segment for node 1 with eight packet bytes, of which L is 0xFFFF. -/
def oversized : CanFrame :=
  { fdf := true, dlc := 9, id := 0x10, data := [1, 2, 128, 0, 0, 0, 0, 0xFF, 0xFF, 0, 0, 0] }

/-- Controller 2 takes segments to node 2 at identifier 0x10. -/
def tunnelOpen : State :=
  ((((W.bus {}).setBit (R.CAN_C_CFG 2) F.CAN_C_CFG.FD_EN true).setFld (R.CAN_C_CFG 2) F.CAN_C_CFG.OWN 2).setBit
    (R.CAN_C_TUN_REQ 2) F.CAN_C_TUN_REQ.EN true).setFld (R.CAN_C_TUN_REQ 2) F.CAN_C_TUN_REQ.ID 0x10

theorem tunnelOpen_on_bus : tunnelOpen.boot.phase = .run ∧ canStat tunnelOpen (2 : Fin 3) F.CAN_C_STAT.STATE = 1 ∧
    canStat tunnelOpen (2 : Fin 3) F.CAN_C_STAT.REC ≤ 127 ∧ jStopped tunnelOpen = false ∧
    (canOf tunnelOpen (2 : Fin 3)).integ = false := by decide +kernel

theorem tunnelOpen_segment : tunnelOpen.bit (R.CAN_C_CFG (2 : Fin 3)) F.CAN_C_CFG.FD_EN = true ∧
    isSegment tunnelOpen (2 : Fin 3) (canFrame oversized) = true ∧
    ((canFrame oversized).data.getD 2 0).toNat = 128 ∧ (canOf tunnelOpen (2 : Fin 3)).tin = [] := by decide +kernel

/-- No packet is open after it. -/
theorem tunnelSegment_oversized :
    (canOf (canReceive stepGo 2 (canFrame oversized) 0 false (tunnelOpen.tick 0)) 2).tin = [] := by
  decide +kernel

/-- Refutes O51: a first segment with too great an L opens no packet. -/
theorem not_framesReceived : ¬ Obligations.FramesReceived := by
  rintro ⟨-, -, -, -, -, -, -, -, hsegment, -⟩
  obtain ⟨hphase, hstate, hrec, hgoes, hinteg⟩ := tunnelOpen_on_bus
  obtain ⟨hfd, hseg, hfirst, hnone⟩ := tunnelOpen_segment
  obtain ⟨t, ht, htin, -⟩ := hsegment 0 2 oversized 0 tunnelOpen hphase (.inl hstate) hrec hgoes hinteg (fun _ => hfd)
    hseg hfirst hnone
  injection ht with ht
  have hclosed : (canOf t 2).tin = [] := by rw [← ht]; exact tunnelSegment_oversized
  exact absurd (hclosed.symm.trans htin) (List.cons_ne_nil _ _).symm

end Sys2Proof.Machine
end

section
/-! SUPPORT. What a field of a register reads after each primitive update, and which registers a chain of updates leaves
(`OnlyRegs`). -/

namespace Sys2Proof.Machine

/-! ### Fields after an update -/

/-- A field of a word. -/
abbrev Fld.Ok (f : Fld) : Prop := f.lo ≤ f.hi ∧ f.hi < 40

/-- A field apart from another of its word. -/
abbrev Fld.Beside (f g : Fld) : Prop := Fld.Ok f ∧ Fld.Ok g ∧ (f.hi < g.lo ∨ g.hi < f.lo)

section
variable {i j : Nat} {f g : Fld} {s : State}

@[simp] theorem State.fld_setFld_ne (x : Nat) (h : j ≠ i) : (s.setFld i g x).fld j f = s.fld j f :=
  State.fld_of_reg (State.reg_setFld_ne g x s h) f

@[simp] theorem State.fld_setBit_ne (b : Bool) (h : j ≠ i) : (s.setBit i g b).fld j f = s.fld j f :=
  State.fld_setFld_ne _ h

@[simp] theorem State.fld_incFld_ne (k : Nat) (h : j ≠ i) : (s.incFld i g k).fld j f = s.fld j f :=
  State.fld_setFld_ne _ h

@[simp] theorem State.bit_setFld_ne (x : Nat) (h : j ≠ i) : (s.setFld i g x).bit j f = s.bit j f := by
  unfold State.bit
  rw [State.fld_setFld_ne x h]

@[simp] theorem State.bit_setBit_ne (b : Bool) (h : j ≠ i) : (s.setBit i g b).bit j f = s.bit j f :=
  State.bit_setFld_ne _ h

@[simp] theorem State.bit_incFld_ne (k : Nat) (h : j ≠ i) : (s.incFld i g k).bit j f = s.bit j f :=
  State.bit_setFld_ne _ h

@[simp] theorem State.fld_setFld_beside (x : Nat) (h : Fld.Beside f g) : (s.setFld i g x).fld j f = s.fld j f :=
  State.fld_setFld_other i j f g x s h.2.1.1 h.2.1.2 h.1.1 (.inr h.2.2)

@[simp] theorem State.fld_setBit_beside (b : Bool) (h : Fld.Beside f g) : (s.setBit i g b).fld j f = s.fld j f :=
  State.fld_setFld_beside _ h

@[simp] theorem State.fld_incFld_beside (k : Nat) (h : Fld.Beside f g) : (s.incFld i g k).fld j f = s.fld j f :=
  State.fld_setFld_beside _ h

@[simp] theorem State.bit_setFld_beside (x : Nat) (h : Fld.Beside f g) : (s.setFld i g x).bit j f = s.bit j f := by
  unfold State.bit
  rw [State.fld_setFld_beside x h]

@[simp] theorem State.bit_setBit_beside (b : Bool) (h : Fld.Beside f g) : (s.setBit i g b).bit j f = s.bit j f :=
  State.bit_setFld_beside _ h

@[simp] theorem State.bit_incFld_beside (k : Nat) (h : Fld.Beside f g) : (s.incFld i g k).bit j f = s.bit j f :=
  State.bit_setFld_beside _ h

@[simp] theorem State.fld_setFld_eq (x : Nat) (h : Fld.Ok f) : (s.setFld i f x).fld i f = x % 2 ^ f.width :=
  State.fld_setFld_same i f x s h.1 h.2

@[simp] theorem State.bit_setBit_eq (b : Bool) (h : Fld.Ok f) : (s.setBit i f b).bit i f = b :=
  State.bit_setBit_same i f b s h.1 h.2

/-- A count read after it has been advanced. -/
@[simp] theorem State.fld_incFld_eq (k : Nat) (h : Fld.Ok f) :
    (s.incFld i f k).fld i f = satInc f.width (s.fld i f) k := by
  unfold State.incFld
  rw [State.fld_setFld_eq _ h]
  have : 0 < 2 ^ f.width := Nat.two_pow_pos _
  exact Nat.mod_eq_of_lt (by unfold satInc; omega)

theorem State.bit_of_reg {s t : State} (h : t.reg i = s.reg i) (f : Fld) : t.bit i f = s.bit i f := by
  unfold State.bit
  rw [State.fld_of_reg h]

@[simp] theorem State.fld_raise (code subj : Nat) (vals : List (Nat × Nat)) (h : j ∉ logRegs) :
    (s.raise code subj vals).fld j f = s.fld j f := State.fld_of_reg (State.raise_reg code subj vals s j h) f

@[simp] theorem State.bit_raise (code subj : Nat) (vals : List (Nat × Nat)) (h : j ∉ logRegs) :
    (s.raise code subj vals).bit j f = s.bit j f := State.bit_of_reg (State.raise_reg code subj vals s j h) f

end

/-! ### The fields of the state after an event -/

section
variable (code subj : Nat) (vals : List (Nat × Nat)) (s : State)

@[simp] theorem State.raise_dt : (s.raise code subj vals).dt = s.dt := (alter_raise ..).dt rfl
@[simp] theorem State.raise_el : (s.raise code subj vals).el = s.el := (alter_raise ..).el rfl
@[simp] theorem State.raise_boot : (s.raise code subj vals).boot = s.boot := (alter_raise ..).boot rfl
@[simp] theorem State.raise_trans : (s.raise code subj vals).trans = s.trans := (alter_raise ..).trans rfl
@[simp] theorem State.raise_plant : (s.raise code subj vals).plant = s.plant := (alter_raise ..).plant rfl
@[simp] theorem State.raise_meas : (s.raise code subj vals).meas = s.meas := (alter_raise ..).meas rfl
@[simp] theorem State.raise_glove : (s.raise code subj vals).glove = s.glove := (alter_raise ..).glove rfl
@[simp] theorem State.raise_pair : (s.raise code subj vals).pair = s.pair := (alter_raise ..).pair rfl
@[simp] theorem State.raise_sto : (s.raise code subj vals).sto = s.sto := (alter_raise ..).sto rfl
@[simp] theorem State.raise_can : (s.raise code subj vals).can = s.can := (alter_raise ..).can rfl
@[simp] theorem State.raise_dcl : (s.raise code subj vals).dcl = s.dcl := (alter_raise ..).dcl rfl
@[simp] theorem State.raise_chg : (s.raise code subj vals).chg = s.chg := (alter_raise ..).chg rfl
@[simp] theorem State.raise_trx : (s.raise code subj vals).trx = s.trx := (alter_raise ..).trx rfl
@[simp] theorem State.raise_act : (s.raise code subj vals).act = s.act := (alter_raise ..).act rfl
@[simp] theorem State.raise_pilot : (s.raise code subj vals).pilot = s.pilot := (alter_raise ..).pilot rfl
@[simp] theorem State.raise_eng : (s.raise code subj vals).eng = s.eng := (alter_raise ..).eng rfl
@[simp] theorem State.raise_life : (s.raise code subj vals).life = s.life := (alter_raise ..).life rfl
@[simp] theorem State.raise_tb : (s.raise code subj vals).tb = s.tb := (alter_raise ..).tb rfl
@[simp] theorem State.raise_unit : (s.raise code subj vals).unit = s.unit := (alter_raise ..).unit rfl

end

/-! ### Registers left as they were -/

section
variable {l : List Nat} {s t u : State} {i : Nat}

theorem OnlyRegs.refl (l : List Nat) (s : State) : OnlyRegs l s s := fun _ _ => rfl

theorem OnlyRegs.trans (h : OnlyRegs l s t) (k : OnlyRegs l t u) : OnlyRegs l s u := fun i hi => (k i hi).trans (h i hi)

theorem OnlyRegs.mono {l' : List Nat} (h : OnlyRegs l s t) (hl : l ⊆ l') : OnlyRegs l' s t :=
  fun i hi => h i fun hm => hi (hl hm)

theorem OnlyRegs.of_regs (h : t.regs = s.regs) : OnlyRegs l s t := fun _ _ => Alter.reg_of_regs h _

/-- A change beside the registers. -/
theorem OnlyRegs.congr (h : OnlyRegs l s t) (hu : u.regs = t.regs) : OnlyRegs l s u := h.trans (.of_regs hu)

theorem OnlyRegs.tick (e : Nat) (s : State) : OnlyRegs l s (s.tick e) := fun _ _ => rfl

theorem OnlyRegs.setFld (h : OnlyRegs l s t) (f : Fld) (x : Nat) (hi : i ∈ l) : OnlyRegs l s (t.setFld i f x) :=
  fun j hj => (State.reg_setFld_ne f x t (ne_of_mem_of_not_mem hi hj).symm).trans (h j hj)

theorem OnlyRegs.setBit (h : OnlyRegs l s t) (f : Fld) (b : Bool) (hi : i ∈ l) : OnlyRegs l s (t.setBit i f b) :=
  h.setFld f _ hi

theorem OnlyRegs.incFld (h : OnlyRegs l s t) (f : Fld) (k : Nat) (hi : i ∈ l) : OnlyRegs l s (t.incFld i f k) :=
  h.setFld f _ hi

theorem OnlyRegs.raise (h : OnlyRegs l s t) (code subj : Nat) (vals : List (Nat × Nat)) (hl : logRegs ⊆ l) :
    OnlyRegs l s (t.raise code subj vals) :=
  fun i hi => (State.raise_reg code subj vals t i fun hm => hi (hl hm)).trans (h i hi)

end

/-- A command answers the state it leads to. -/
theorem Answers.of_next {c : Instr} {s t : State} {P : State → Prop} (h : exec c s = .next t) (hp : P t) : Answers c s P :=
  ⟨t, h, hp⟩

theorem State.d0_of_boot {s t : State} (hb : t.boot = s.boot) : t.d0 = s.d0 := by
  unfold State.d0
  rw [hb]

theorem LogReady.congr {s t : State} (h : LogReady s) (hb : t.boot = s.boot) (he : t.ev = s.ev) : LogReady t := by
  unfold LogReady State.logs State.d0 at *
  rwa [hb, he]

/-- Time that passes before what leaves it alone. -/
theorem passes_of_tick {e : Nat} {s t : State} (hel : t.el = (s.tick e).el) (hdt : t.dt = (s.tick e).dt) : Passes e s t :=
  ⟨hel, hdt⟩

/-- What is logged after the log was left alone is logged since before. -/
theorem Logs.of_ev {code subj : Nat} {s u t : State} (h : Logs code subj u t) (he : u.ev = s.ev) : Logs code subj s t := by
  unfold Logs at *
  rwa [he] at h

theorem Logs.to_ev {code subj : Nat} {s u t : State} (h : Logs code subj s u) (he : t.ev = u.ev) : Logs code subj s t := by
  unfold Logs at *
  rwa [he]

/-- An entry logged stays in a log that grows. -/
theorem Logs.grows {code subj : Nat} {s u t : State} (h : Logs code subj s u) (hs : s.ev.buf <+: u.ev.buf)
    (ht : u.ev.buf <+: t.ev.buf) : Logs code subj s t := by
  obtain ⟨x, hx, hc⟩ := h
  obtain ⟨a, ha⟩ := hs
  obtain ⟨b, hb⟩ := ht
  refine ⟨x, ?_, hc⟩
  rw [← ha, List.drop_left] at hx
  rw [← hb, ← ha, List.append_assoc, List.drop_left]
  exact List.mem_append_left _ hx

end Sys2Proof.Machine
end

section
/-! SUPPORT. The journal's registers, a full crossing FIFO, and the settling of O36: what a message of the pair link, a good
one and a bad one, and the link's loss do (R676 to R678). -/

namespace Sys2Proof.Machine

/-! ### The input journal -/

/-- The registers a write to the input journal may touch. -/
def journalRegs : List Nat := logRegs ++ [R.GLV_STAT, R.GLV_JRNL, R.GLV_JSEQ, R.GLV_FLAGS]

theorem haltAsk_only (p why : Nat) (s : State) : OnlyRegs journalRegs s (haltAsk p why s) := by
  unfold haltAsk
  split
  · exact .refl _ _
  · exact ((OnlyRegs.refl journalRegs s).setBit F.GLV_STAT.HALT_PEND true (i := R.GLV_STAT) (by decide)).congr rfl

theorem jPut_only (src : Nat) (body : JBody) (s : State) : OnlyRegs journalRegs s (jPut src body s) := by
  unfold jPut
  extract_lets seq k iv n x g s1 s2 s3
  have h1 : OnlyRegs journalRegs s s1 := .of_regs rfl
  have h2 : OnlyRegs journalRegs s s2 := h1.setFld _ _ (by decide)
  have h3 : OnlyRegs journalRegs s s3 := (h2.setFld _ _ (by decide)).setFld _ _ (by decide)
  clear_value s3
  split
  · unfold breakMet
    split
    · exact h3.trans (haltAsk_only _ _ _)
    · exact h3
  · unfold jDefer
    extract_lets s4 run g' s5
    have h4 : OnlyRegs journalRegs s s4 := (h3.incFld _ _ (by decide)).setBit _ _ (by decide)
    have h5 : OnlyRegs journalRegs s s5 := h4.congr rfl
    clear_value s5
    split
    · exact h5
    · exact h5.raise _ _ _ (by decide)

theorem jWrite_only (src : Nat) (body : JBody) (s : State) : OnlyRegs journalRegs s (jWrite src body s) := by
  unfold jWrite
  split
  · exact .refl _ _
  · split
    · split
      · exact .refl _ _
      · exact .of_regs rfl
    · split
      · exact .of_regs rfl
      · exact jPut_only _ _ _

theorem jWrite_off (src : Nat) (body : JBody) {s : State} (h : s.glove.on = false) : jWrite src body s = s := by
  unfold jWrite
  rw [h]
  rfl

/-! ### A crossing FIFO met by an arrival (R23) -/

theorem State.xfOf_setXf (k : Nat) (x : Xf) (s : State) : (s.setXf k x).xfOf k = x := AMap.getD_put_same _ _ _ _

theorem xfOf_congr {s t : State} (h : t.meas = s.meas) (k : Nat) : t.xfOf k = s.xfOf k := by
  unfold State.xfOf
  rw [h]

/-- A discard adds one to the count of its FIFO, and one that begins a run is logged. -/
theorem xfDiscard_spec (id : Nat) (run : Bool) (s : State) :
    (xfDiscard id run s).fld R.FAB_XFIFO_OVF F.FAB_XFIFO_OVF.COUNT =
        satInc F.FAB_XFIFO_OVF.COUNT.width (s.fld R.FAB_XFIFO_OVF F.FAB_XFIFO_OVF.COUNT) 1 ∧
      (run = false → LogReady s → Logs EV.XFIFO_OVERFLOW id s (xfDiscard id run s)) := by
  unfold xfDiscard
  extract_lets s1 s2
  have h2 : s2.fld R.FAB_XFIFO_OVF F.FAB_XFIFO_OVF.COUNT =
      satInc F.FAB_XFIFO_OVF.COUNT.width (s.fld R.FAB_XFIFO_OVF F.FAB_XFIFO_OVF.COUNT) 1 := by
    simp -implicitDefEqProofs (disch := decide) [s2, s1]
  have he : s2.ev = s.ev := by simp -implicitDefEqProofs [s2, s1]
  have hb : s2.boot = s.boot := by simp -implicitDefEqProofs [s2, s1]
  clear_value s2
  split
  · next h => exact ⟨h2, fun hn => absurd h (by simp [hn])⟩
  · exact ⟨(State.fld_raise _ _ _ (by decide)).trans h2, fun _ h => (State.raise_logs _ _ _ _ (h.congr hb he)).of_ev he⟩

theorem satInc_add (w n a b : Nat) : satInc w (satInc w n a) b = satInc w n (a + b) := by
  unfold satInc
  omega

/-- n entries that meet a FIFO full. -/
theorem fifoMetN_full {k n : Nat} (hn : 0 < n) (s : State) :
    ((fifoMetN k n s).xfOf k).run = true ∧ (fifoMetN k n s).pair = s.pair ∧
      (fifoMetN k n s).fld R.FAB_XFIFO_OVF F.FAB_XFIFO_OVF.COUNT =
        satInc F.FAB_XFIFO_OVF.COUNT.width (s.fld R.FAB_XFIFO_OVF F.FAB_XFIFO_OVF.COUNT) n ∧
      ((s.xfOf k).run = false → LogReady s → Logs EV.XFIFO_OVERFLOW (xfId k) s (fifoMetN k n s)) := by
  unfold fifoMetN fifoMet
  rw [if_neg (by omega)]
  set x := s.setXf k { s.xfOf k with run := true } with hx
  have hrun : (x.xfOf k).run = true := by rw [hx, State.xfOf_setXf]
  have hfld : x.fld R.FAB_XFIFO_OVF F.FAB_XFIFO_OVF.COUNT = s.fld R.FAB_XFIFO_OVF F.FAB_XFIFO_OVF.COUNT :=
    State.fld_of_reg (Alter.reg_of_regs (State.setXf_regs ..) _) _
  have hev : x.ev = s.ev := State.setXf_ev ..
  have hboot : x.boot = s.boot := State.setXf_boot ..
  have hpair : x.pair = s.pair := State.setXf_pair ..
  clear_value x
  obtain ⟨hcount, hlog⟩ := xfDiscard_spec (xfId k) (s.xfOf k).run x
  have ha := alter_xfDiscard (xfId k) (s.xfOf k).run x
  rw [if_pos rfl, ← hx]
  generalize xfDiscard (xfId k) (s.xfOf k).run x = y at hcount hlog ha ⊢
  refine ⟨?_, ?_, ?_, fun h hs => ?_⟩
  · rw [xfOf_congr (State.incFld_meas ..), xfOf_congr (ha.meas rfl), hrun]
  · rw [State.incFld_pair, ha.pair rfl, hpair]
  · rw [State.fld_incFld_eq _ (by decide), hcount, satInc_add, hfld, Nat.add_sub_cancel' hn]
  · exact ((hlog h (hs.congr hboot hev)).of_ev hev).to_ev (State.incFld_ev ..)

/-! ### The pair link -/

theorem pairPeer_only (m : PairMsg) (s : State) : OnlyRegs [R.PAIR_PEER] s (pairPeer m s) := by
  unfold pairPeer
  extract_lets i s1 s2 s3
  have hi : i ∈ [R.PAIR_PEER] := List.mem_singleton_self _
  have h1 : OnlyRegs [R.PAIR_PEER] s s1 := ((OnlyRegs.refl _ s).setFld _ _ hi).setBit _ _ hi
  have h2 : OnlyRegs [R.PAIR_PEER] s s2 := (h1.setFld _ _ hi).setBit _ _ hi
  have h3 : OnlyRegs [R.PAIR_PEER] s s3 := (h2.setFld _ _ hi).setFld _ _ hi
  exact h3.setBit _ _ hi

theorem pairPeer_fields (m : PairMsg) (s : State) :
    (pairPeer m s).fld R.PAIR_PEER F.PAIR_PEER.MODE = m.mode % 2 ^ F.PAIR_PEER.MODE.width ∧
      (pairPeer m s).bit R.PAIR_PEER F.PAIR_PEER.NFAULT = m.nfault := by
  unfold pairPeer
  constructor <;> simp -implicitDefEqProofs (disch := decide)

theorem pairPeer_state (m : PairMsg) (s : State) :
    (pairPeer m s).pair = s.pair ∧ (pairPeer m s).dt = s.dt ∧ (pairPeer m s).el = s.el ∧ (pairPeer m s).ev = s.ev ∧
      (pairPeer m s).boot = s.boot ∧ (pairPeer m s).glove = s.glove := by
  unfold pairPeer
  simp -implicitDefEqProofs

/-- A message that is damaged (R676). -/
abbrev Damaged (l : List Byte) : Prop := l.length ≠ 32 ∨ crc32c (l.take 28) ≠ leAt l 28 4

theorem pairTaken_whole (l : List Byte) (s : State) :
    pairTaken l 0 s = pairReceive l (s.setXf 704 { s.xfOf 704 with run := false }) := by
  unfold pairTaken fifoMetN fifoMet
  rw [if_pos rfl, if_pos rfl, if_neg Bool.false_ne_true]

theorem not_damaged {l : List Byte} (hlen : l.length = 32) (hcrc : crc32c (l.take 28) = leAt l 28 4) : ¬ Damaged l := by
  simp [hlen, hcrc]


/-- The state a good message trains the link in, before its register changes: the number of the message in its run and the
time it came. -/
def pairHeard (l : List Byte) (run : Nat) (s : State) : State :=
  let m := pairMsgOf l
  let bad := m.role == pCfg s F.PAIR_CFG.ROLE || m.holder != pCfg s F.PAIR_CFG.HOLDER
  let s := { s with pair := { s.pair with run := run, last := some s.dt, bad := bad } }
  if bad then s.setBit R.PAIR_FLAGS F.PAIR_FLAGS.CFG_MISMATCH true else s

theorem pairHeard_state (l : List Byte) (run : Nat) (s : State) :
    (pairHeard l run s).pair.run = run ∧ (pairHeard l run s).pair.last = some s.dt ∧ (pairHeard l run s).dt = s.dt ∧
      (pairHeard l run s).el = s.el ∧ (pairHeard l run s).glove = s.glove ∧ (pairHeard l run s).ev = s.ev ∧
      (pairHeard l run s).boot = s.boot ∧ OnlyRegs [R.PAIR_FLAGS] s (pairHeard l run s) := by
  unfold pairHeard
  extract_lets m bad p s1
  have h1 : OnlyRegs [R.PAIR_FLAGS] s s1 := .of_regs rfl
  split
  · rw [State.setBit_pair, State.setBit_dt, State.setBit_el, State.setBit_glove, State.setBit_ev, State.setBit_boot]
    exact ⟨rfl, rfl, rfl, rfl, rfl, rfl, rfl, h1.setBit _ _ (by decide)⟩
  · exact ⟨rfl, rfl, rfl, rfl, rfl, rfl, rfl, h1⟩

/-- The first good message of a run. -/
theorem pairReceive_first {l : List Byte} {s : State} (hl : ¬ Damaged l) (hlast : s.pair.last = none) :
    pairReceive l s = jWrite 6 (.msg (pairMsgOf l)) (pairPeer (pairMsgOf l)
      (pairTrain ((pairHeard l 1 s).fld R.PAIR_STAT F.PAIR_STAT.LINK) 1 (pairHeard l 1 s))) := by
  unfold pairReceive
  rw [if_neg hl]
  simp only [hlast, Bool.false_and, Bool.false_eq_true, if_false]
  rfl
/-- A good message that comes in time after another. -/
theorem pairReceive_next {l : List Byte} {s : State} {d : Nat} (hl : ¬ Damaged l) (hlast : s.pair.last = some d)
    (hnear : s.dt ≤ d + 20000) :
    pairReceive l s = jWrite 6 (.msg (pairMsgOf l)) (pairPeer (pairMsgOf l)
      (pairTrain ((pairHeard l (min 10 (s.pair.run + 1)) s).fld R.PAIR_STAT F.PAIR_STAT.LINK) (min 10 (s.pair.run + 1))
        (pairHeard l (min 10 (s.pair.run + 1)) s))) := by
  unfold pairReceive
  rw [if_neg hl]
  have hlate : decide (d + 200000 < s.dt) = false := decide_eq_false (by omega)
  simp only [hlast, hlate, hnear, Bool.false_and, Bool.false_eq_true, if_false, decide_true, if_true]
  rfl

theorem pairReceive_damaged {l : List Byte} (hl : Damaged l) (s : State) :
    pairReceive l s = { s.incFld R.PAIR_STAT F.PAIR_STAT.ERR_COUNT 1 with pair := { s.pair with run := 0 } } := by
  unfold pairReceive
  rw [if_pos hl]

/-- The link as a good message leaves it, read behind the partner's state and the journal. -/
theorem pairShown_link (m : PairMsg) (s : State) :
    (jWrite 6 (.msg m) (pairPeer m s)).fld R.PAIR_STAT F.PAIR_STAT.LINK = s.fld R.PAIR_STAT F.PAIR_STAT.LINK :=
  State.fld_of_reg ((jWrite_only _ _ _ R.PAIR_STAT (by decide)).trans (pairPeer_only m s R.PAIR_STAT (by decide))) _

theorem pairShown_state (m : PairMsg) (s : State) :
    (jWrite 6 (.msg m) (pairPeer m s)).pair = s.pair ∧ (jWrite 6 (.msg m) (pairPeer m s)).dt = s.dt ∧
      (jWrite 6 (.msg m) (pairPeer m s)).el = s.el :=
  have ⟨hp, hd, he, _⟩ := pairPeer_state m s
  ⟨((alter_jWrite ..).pair rfl).trans hp, ((alter_jWrite ..).dt rfl).trans hd, ((alter_jWrite ..).el rfl).trans he⟩

theorem pairShown_peer (m : PairMsg) (s : State) :
    (jWrite 6 (.msg m) (pairPeer m s)).fld R.PAIR_PEER F.PAIR_PEER.MODE = m.mode % 2 ^ F.PAIR_PEER.MODE.width ∧
      (jWrite 6 (.msg m) (pairPeer m s)).bit R.PAIR_PEER F.PAIR_PEER.NFAULT = m.nfault := by
  have h := jWrite_only 6 (.msg m) (pairPeer m s) R.PAIR_PEER (by decide)
  exact ⟨(State.fld_of_reg h _).trans (pairPeer_fields m s).1, (State.bit_of_reg h _).trans (pairPeer_fields m s).2⟩


/-- A good message trains a link that was down. -/
theorem pairReceived_first {e : Nat} {l : List Byte} {s : State} (hl : ¬ Damaged l) (hlast : s.pair.last = none)
    (hdown : s.fld R.PAIR_STAT F.PAIR_STAT.LINK = 0) :
    Answers (.pairMessageReceived e ⟨l, 0⟩) s fun t =>
       t.pair.run = 1 ∧
       t.pair.last = some t.dt ∧
       t.fld R.PAIR_STAT F.PAIR_STAT.LINK = 1 ∧
       Passes e s t ∧
       t.fld R.PAIR_PEER F.PAIR_PEER.MODE = (pairMsgOf l).mode % 2 ^ F.PAIR_PEER.MODE.width ∧
       t.bit R.PAIR_PEER F.PAIR_PEER.NFAULT = (pairMsgOf l).nfault ∧
       (s.glove.on = false → OnlyRegs [R.PAIR_STAT, R.PAIR_PEER, R.PAIR_FLAGS] s t) := by
  refine .of_next (t := pairTaken l 0 (s.tick e)) rfl ?_
  rw [pairTaken_whole]
  generalize hu : (s.tick e).setXf 704 { (s.tick e).xfOf 704 with run := false } = u
  have hlast' : u.pair.last = none := by rw [← hu, State.setXf_pair, State.tick_pair, hlast]
  have hregs : u.regs = s.regs := by rw [← hu, State.setXf_regs, State.tick_regs]
  have hlink : u.fld R.PAIR_STAT F.PAIR_STAT.LINK = 0 := (State.fld_of_reg (Alter.reg_of_regs hregs _) _).trans hdown
  have hel : u.el = (s.tick e).el := by rw [← hu, State.setXf_el]
  have hdt : u.dt = (s.tick e).dt := by rw [← hu, State.setXf_dt]
  have hglove : u.glove = s.glove := by rw [← hu, State.setXf_glove, State.tick_glove]
  rw [pairReceive_first hl hlast']
  obtain ⟨hrun, hlst, hvdt, hvel, hvglove, -, -, honly⟩ := pairHeard_state l 1 u
  have hvlink := (State.fld_of_reg (honly R.PAIR_STAT (by decide)) F.PAIR_STAT.LINK).trans hlink
  have honly' : OnlyRegs [R.PAIR_STAT, R.PAIR_PEER, R.PAIR_FLAGS] s (pairHeard l 1 u) :=
    (OnlyRegs.of_regs hregs).trans (honly.mono (by decide))
  generalize pairHeard l 1 u = v at *
  have htrain : pairTrain (v.fld R.PAIR_STAT F.PAIR_STAT.LINK) 1 v = v.setFld R.PAIR_STAT F.PAIR_STAT.LINK 1 := by
    rw [hvlink]
    exact (if_neg (by decide)).trans (if_neg (by decide))
  rw [htrain]
  obtain ⟨hp, hd, he⟩ := pairShown_state (pairMsgOf l) (v.setFld R.PAIR_STAT F.PAIR_STAT.LINK 1)
  rw [State.setFld_pair] at hp
  rw [State.setFld_dt] at hd
  rw [State.setFld_el] at he
  refine ⟨by rw [hp, hrun], by rw [hp, hd, hlst, hvdt], ?_,
    passes_of_tick (he.trans (hvel.trans hel)) (hd.trans (hvdt.trans hdt)), (pairShown_peer _ _).1, (pairShown_peer _ _).2, fun hg => ?_⟩
  · rw [pairShown_link, State.fld_setFld_eq _ (by decide)]
    rfl
  · rw [jWrite_off]
    · exact (honly'.setFld _ _ (by decide)).trans ((pairPeer_only _ _).mono (by decide))
    · rw [(pairPeer_state _ _).2.2.2.2.2, State.setFld_glove, hvglove, hglove, hg]

/-- The tenth good message in a row brings the link up. -/
theorem pairReceived_tenth {e d : Nat} {l : List Byte} {s : State} (hl : ¬ Damaged l) (hlast : s.pair.last = some d)
    (hnear : s.dt + e ≤ d + 20000) (hd0 : s.d0 = true) (hnine : s.pair.run = 9)
    (htrain : s.fld R.PAIR_STAT F.PAIR_STAT.LINK = 1) :
    Answers (.pairMessageReceived e ⟨l, 0⟩) s fun t =>
       t.pair.run = 10 ∧
       t.pair.last = some t.dt ∧
       t.fld R.PAIR_STAT F.PAIR_STAT.LINK = 2 ∧
       (s.glove.on = false → (LogReady s → Logs EV.PAIR_LINK_UP 0xFF s t)) := by
  refine .of_next (t := pairTaken l 0 (s.tick e)) rfl ?_
  rw [pairTaken_whole]
  generalize hu : (s.tick e).setXf 704 { (s.tick e).xfOf 704 with run := false } = u
  have hpair : u.pair = s.pair := by rw [← hu, State.setXf_pair, State.tick_pair]
  have hregs : u.regs = s.regs := by rw [← hu, State.setXf_regs, State.tick_regs]
  have hlink : u.fld R.PAIR_STAT F.PAIR_STAT.LINK = 1 := (State.fld_of_reg (Alter.reg_of_regs hregs _) _).trans htrain
  have hdt : u.dt = s.dt + e := by rw [← hu, State.setXf_dt]; exact if_pos hd0
  have hglove : u.glove = s.glove := by rw [← hu, State.setXf_glove, State.tick_glove]
  have hev : u.ev = s.ev := by rw [← hu, State.setXf_ev, State.tick_ev]
  have hboot : u.boot = s.boot := by rw [← hu, State.setXf_boot, State.tick_boot]
  have hten : min 10 (u.pair.run + 1) = 10 := by rw [hpair, hnine]; rfl
  rw [pairReceive_next hl (by rw [hpair, hlast]) (by rw [hdt]; exact hnear), hten]
  obtain ⟨hrun, hlst, hvdt, -, hvglove, hvev, hvboot, honly⟩ := pairHeard_state l 10 u
  have hvlink := (State.fld_of_reg (honly R.PAIR_STAT (by decide)) F.PAIR_STAT.LINK).trans hlink
  generalize pairHeard l 10 u = v at *
  have hup : pairTrain (v.fld R.PAIR_STAT F.PAIR_STAT.LINK) 10 v =
      (v.setFld R.PAIR_STAT F.PAIR_STAT.LINK 2).raise EV.PAIR_LINK_UP 0xFF [] := by
    rw [hvlink]
    exact (if_neg (by decide)).trans (if_pos (by decide))
  rw [hup]
  obtain ⟨hp, hd, -⟩ := pairShown_state (pairMsgOf l) ((v.setFld R.PAIR_STAT F.PAIR_STAT.LINK 2).raise EV.PAIR_LINK_UP 0xFF [])
  rw [State.raise_pair, State.setFld_pair] at hp
  rw [State.raise_dt, State.setFld_dt] at hd
  refine ⟨by rw [hp, hrun], by rw [hp, hd, hlst, hvdt], ?_, fun hg hs => ?_⟩
  · rw [pairShown_link, State.fld_raise _ _ _ (by decide), State.fld_setFld_eq _ (by decide)]
    rfl
  · have hev' : (v.setFld R.PAIR_STAT F.PAIR_STAT.LINK 2).ev = s.ev := by rw [State.setFld_ev, hvev, hev]
    have hboot' : (v.setFld R.PAIR_STAT F.PAIR_STAT.LINK 2).boot = s.boot := by rw [State.setFld_boot, hvboot, hboot]
    rw [jWrite_off]
    · exact ((State.raise_logs _ _ _ _ (hs.congr hboot' hev')).of_ev hev').to_ev (pairPeer_state _ _).2.2.2.1
    · rw [(pairPeer_state _ _).2.2.2.2.2, State.raise_glove, State.setFld_glove, hvglove, hglove, hg]

/-- The loss of a link that is up (R677). -/
theorem pairDown_up {s : State} (hup : s.fld R.PAIR_STAT F.PAIR_STAT.LINK = 2) :
    (pairDown s).fld R.PAIR_STAT F.PAIR_STAT.LINK = 0 ∧ (pairDown s).bit R.PAIR_FLAGS F.PAIR_FLAGS.LINK_DOWN = true ∧
      (pairDown s).pair = { s.pair with run := 0 } ∧ (pairDown s).dt = s.dt ∧
      (LogReady s → Logs EV.PAIR_LINK_DOWN 0xFF s (pairDown s)) ∧
      OnlyRegs (logRegs ++ [R.PAIR_STAT, R.PAIR_FLAGS]) s (pairDown s) := by
  unfold pairDown
  rw [hup]
  extract_lets up x p u
  rw [if_pos (show up = true from rfl)]
  have hregs : u.regs = x.regs := rfl
  have hlink : u.fld R.PAIR_STAT F.PAIR_STAT.LINK = 0 :=
    (State.fld_of_reg (Alter.reg_of_regs hregs _) _).trans (State.fld_setFld_eq _ (by decide))
  have honly : OnlyRegs (logRegs ++ [R.PAIR_STAT, R.PAIR_FLAGS]) s u :=
    ((OnlyRegs.refl _ s).setFld F.PAIR_STAT.LINK 0 (by decide)).congr hregs
  have hpair : u.pair = { s.pair with run := 0 } := rfl
  have hdt : u.dt = x.dt := rfl
  have hev : u.ev = x.ev := rfl
  have hboot : u.boot = x.boot := rfl
  clear_value u
  rw [State.setFld_dt] at hdt
  rw [State.setFld_ev, ← State.setBit_ev R.PAIR_FLAGS F.PAIR_FLAGS.LINK_DOWN true u] at hev
  rw [State.setFld_boot, ← State.setBit_boot R.PAIR_FLAGS F.PAIR_FLAGS.LINK_DOWN true u] at hboot
  refine ⟨?_, ?_, ?_, ?_, fun h => (State.raise_logs _ _ _ _ (h.congr hboot hev)).of_ev hev,
    (honly.setBit _ _ (by decide)).raise _ _ _ (by decide)⟩
  · rw [State.fld_raise _ _ _ (by decide), State.fld_setBit_ne _ (by decide), hlink]
  · rw [State.bit_raise _ _ _ (by decide), State.bit_setBit_eq _ (by decide)]
  · rw [State.raise_pair, State.setBit_pair, hpair]
  · rw [State.raise_dt, State.setBit_dt, hdt]

/-- The expiry of a timer while device time runs. -/
theorem State.until_dt {s : State} (h : s.d0 = true) (e d : Nat) : ((s.tick e).until d).dt = max (s.dt + e) d := by
  have h' : (s.tick e).d0 = true := h
  have hdt : (s.tick e).dt = s.dt + e := if_pos h
  have : ((s.tick e).until d).dt = (s.tick e).dt + (d - (s.tick e).dt) := if_pos h'
  rw [this, hdt]
  omega

/-- A message that is damaged counts an error. -/
theorem pairReceived_damaged (e : Nat) {l : List Byte} (hl : Damaged l) (s : State) :
    Answers (.pairMessageReceived e ⟨l, 0⟩) s fun t =>
       t.pair = { s.pair with run := 0 } ∧ OnlyRegs [R.PAIR_STAT] s t ∧ Passes e s t ∧
       t.fld R.PAIR_STAT F.PAIR_STAT.LINK = s.fld R.PAIR_STAT F.PAIR_STAT.LINK ∧
       t = { s with el := t.el, dt := t.dt, regs := t.regs, pair := t.pair, meas := t.meas } := by
  refine .of_next (t := pairTaken l 0 (s.tick e)) rfl ?_
  rw [pairTaken_whole, pairReceive_damaged hl]
  generalize hu : (s.tick e).setXf 704 { (s.tick e).xfOf 704 with run := false } = u
  have hregs : u.regs = s.regs := by rw [← hu, State.setXf_regs, State.tick_regs]
  have ha : Alter (2 ^ 65 ||| 2 ^ 66 ||| 2 ^ 93) s u := by
    rw [← hu]
    exact ((alter_tick ..).mono rfl).step (alter_setXf ..) rfl
  have hb : Alter (2 ^ 65 ||| 2 ^ 66 ||| 2 ^ 67 ||| 2 ^ 93 ||| 2 ^ 108) s
      { u.incFld R.PAIR_STAT F.PAIR_STAT.ERR_COUNT 1 with pair := { u.pair with run := 0 } } :=
    ((ha.mono rfl).step (alter_incFld ..) (rm_high (by decide) rfl)).step (alter_pair ..) rfl
  have hpair : u.pair = s.pair := ha.pair rfl
  refine ⟨by rw [hpair], ?_, ?_, ?_, hb.eq_patch⟩
  · exact (((OnlyRegs.of_regs hregs).incFld F.PAIR_STAT.ERR_COUNT 1 (i := R.PAIR_STAT) (by decide))).congr rfl
  · refine passes_of_tick ?_ ?_
    · rw [State.incFld_el, ← hu, State.setXf_el]
    · rw [State.incFld_dt, ← hu, State.setXf_dt]
  · have := State.fld_incFld_beside (s := u) (i := R.PAIR_STAT) (j := R.PAIR_STAT) (f := F.PAIR_STAT.LINK)
      (g := F.PAIR_STAT.ERR_COUNT) 1 (by decide)
    exact this.trans (State.fld_of_reg (Alter.reg_of_regs hregs _) _)

/-- Messages that meet the receive FIFO full. -/
theorem pairReceived_lost (e : Nat) {n : Nat} (l : List Byte) (s : State) (hn : 0 < n) :
    Answers (.pairMessageReceived e ⟨l, n⟩) s fun t =>
       t.pair = s.pair ∧ (t.xfOf 704).run = true ∧ ((s.xfOf 704).run = false → LogReady s →
         Logs EV.XFIFO_OVERFLOW 11 s t) ∧
       t.fld R.FAB_XFIFO_OVF F.FAB_XFIFO_OVF.COUNT =
         satInc F.FAB_XFIFO_OVF.COUNT.width (s.fld R.FAB_XFIFO_OVF F.FAB_XFIFO_OVF.COUNT) n := by
  refine .of_next (t := pairTaken l n (s.tick e)) rfl ?_
  have : pairTaken l n (s.tick e) = fifoMetN 704 n (s.tick e) := if_neg (by omega)
  rw [this]
  obtain ⟨hrun, hpair, hcount, hlog⟩ := fifoMetN_full (k := 704) hn (s.tick e)
  exact ⟨hpair, hrun, hlog, hcount⟩

/-- 1 ms passes without a good message. -/
theorem pairLinkDown_up {e d : Nat} {s : State} (hup : s.fld R.PAIR_STAT F.PAIR_STAT.LINK = 2) (hlast : s.pair.last = some d) :
     Answers (.pairLinkDown e) s fun t =>
       t.fld R.PAIR_STAT F.PAIR_STAT.LINK = 0 ∧ t.bit R.PAIR_FLAGS F.PAIR_FLAGS.LINK_DOWN = true ∧
       t.pair = { s.pair with run := 0 } ∧
       (s.d0 = true → t.dt = max (s.dt + e) (d + 200000)) ∧ (LogReady s → Logs EV.PAIR_LINK_DOWN 0xFF s t) ∧
       OnlyRegs (logRegs ++ [R.PAIR_STAT, R.PAIR_FLAGS]) s t := by
  refine .of_next (t := pairLinkDown (s.tick e)) rfl ?_
  have : pairLinkDown (s.tick e) = pairDown ((s.tick e).until (d + 200000)) := by
    unfold pairLinkDown
    rw [State.fld_tick, hup, State.tick_pair, hlast]
    exact if_neg (by decide)
  rw [this]
  obtain ⟨hlink, hflag, hpair, hdt, hlog, honly⟩ := pairDown_up (s := (s.tick e).until (d + 200000)) hup
  exact ⟨hlink, hflag, hpair, fun h => hdt.trans (State.until_dt h e _), hlog, honly⟩

/-- Settles O36, clause by clause. -/
theorem pairLinkTrains : Obligations.PairLinkTrains :=
  ⟨fun e _ s hl => pairReceived_damaged e hl s, fun e _ l s hn => pairReceived_lost e l s hn,
    fun _ _ _ hlen hcrc hlast hdown => pairReceived_first (not_damaged hlen hcrc) hlast hdown,
    fun _ _ _ _ hlen hcrc hlast _ hnear hd0 hnine htrain =>
      pairReceived_tenth (not_damaged hlen hcrc) hlast hnear hd0 hnine htrain,
    fun _ _ _ hup hlast => pairLinkDown_up hup hlast,
    fun e s hdown => .of_next (t := pairLinkDown (s.tick e)) rfl (if_pos hdown)⟩

end Sys2Proof.Machine
end

section
/-! SUPPORT. A capture whose end triggers the recorder again, and the settling of O38. With its last sample a capture is
COMPLETE and the recorder armed anew (R639), and EV_REC_DONE is an event like any other: where `STO_REC_EVT` selects it
(R637), it starts the next capture. -/

namespace Sys2Proof.Machine

set_option Elab.async false

/-- A capture under way in slot 1, while EV_REC_DONE triggers the enabled recorder. -/
def recordsItsEnd : State :=
  { ((W.run 2).setBit R.STO_REC_CFG F.STO_REC_CFG.EN true).setFld R.STO_REC_EVT F.STO_REC_EVT.EVT0 EV.REC_DONE with
    rcd := { cur := some { num := 3, slot := 1, t := 900, post := 80 } } }

/-- The end of the capture starts another. -/
theorem recDone_recordsItsEnd : (recDone (recordsItsEnd.tick 0)).rcd.cur.isSome = true := by decide +kernel

/-- Refutes O38: a capture is under way after the end of the one before. -/
theorem not_portsAndSessionsTimed : ¬ Obligations.PortsAndSessionsTimed := by
  rintro ⟨-, -, -, -, hdone⟩
  obtain ⟨t, ht, hcur, -⟩ := hdone 0 { num := 3, slot := 1, t := 900, post := 80 } recordsItsEnd rfl
  injection ht with ht
  have hsome : t.rcd.cur.isSome = true := by rw [← ht]; exact recDone_recordsItsEnd
  rw [hcur] at hsome
  exact absurd hsome (by decide)

end Sys2Proof.Machine
end

section
/-! SUPPORT. What raising an event keeps, step by step, the rings of the logs, and the settling of O39 (R581, R624, R625,
R633, R660). -/

namespace Sys2Proof.Machine

/-! ### What raising an event keeps -/

/-- A property that each part of raising an event keeps is kept by raising one. -/
theorem raiseF_keeps {P : State → Prop}
    (happ : ∀ code subj flags stamp det s, P s → P (evAppend code subj flags stamp det s))
    (hirq : ∀ code s, P s → P (evIrq code s))
    (hlost : ∀ s, P s → P ((s.incFld R.LOG_EVENT_STAT F.LOG_EVENT_STAT.LOST 1).setBit R.STO_FLAGS F.STO_FLAGS.EVT_LOST true))
    (hev : ∀ s x, P s → P { s with ev := x })
    (hstart : ∀ kind code t s, P s → P (recStart kind code t s))
    (hmiss : ∀ s, P s →
      P ((s.incFld R.STO_REC_STAT F.STO_REC_STAT.MISSED 1).setBit R.STO_FLAGS F.STO_FLAGS.REC_MISSED true))
    (hrcd : ∀ s x, P s → P { s with rcd := x })
    (n code subj stamp : Nat) (det : List Byte) (s : State) (h : P s) : P (raiseF n code subj stamp det s) := by
  have hlog : ∀ code subj stamp det s, P s → P (evLog code subj 0 stamp det s).2 := by
    intro code subj stamp det s h
    unfold evLog
    split
    · extract_lets s1 s2
      have h2 : P s2 := by
        unfold s2
        split
        · exact hirq _ _ (happ _ _ _ _ _ _ (hlost _ h))
        · exact hlost _ h
      exact hev _ _ h2
    · exact hirq _ _ (happ _ _ _ _ _ _ h)
  induction n generalizing code subj stamp det s with
  | zero => exact hlog _ _ _ _ _ h
  | succ n ih =>
    unfold raiseF
    split
    rename_i ok s' e
    have hs : P s' := by
      have := hlog code subj stamp det s h
      rwa [e] at this
    split
    · split
      · exact ih _ _ _ _ _ (hstart _ _ _ _ hs)
      · extract_lets first s1 r s2
        have h2 : P s2 := hrcd _ _ (hmiss _ hs)
        clear_value s2
        split
        · exact ih _ _ _ _ _ h2
        · exact h2
    · exact hs

/-- A flag of the storage manager that raising an event does not set. -/
abbrev Fld.OfStore (f : Fld) : Prop := Fld.Beside f F.STO_FLAGS.EVT_LOST ∧ Fld.Beside f F.STO_FLAGS.REC_MISSED

theorem raise_stoFlag {f : Fld} (hf : Fld.OfStore f) (code subj : Nat) (vals : List (Nat × Nat)) (s : State) :
    (s.raise code subj vals).bit R.STO_FLAGS f = s.bit R.STO_FLAGS f := by
  unfold State.raise State.raiseAt
  split
  · refine raiseF_keeps (P := fun t => t.bit R.STO_FLAGS f = s.bit R.STO_FLAGS f) ?_ ?_ ?_ (fun _ _ h => h) ?_ ?_
      (fun _ _ h => h) _ _ _ _ _ _ rfl
    · intro code subj flags stamp det u h
      unfold evAppend
      rw [State.bit_setFld_ne _ (by decide), State.bit_setFld_ne _ (by decide)]
      exact h
    · intro code u h
      unfold evIrq
      extract_lets c x
      have hx : x.bit R.STO_FLAGS f = s.bit R.STO_FLAGS f := by
        unfold x
        split
        · rw [State.bit_setBit_ne _ (by decide)]; exact h
        · exact h
      split
      · rw [State.bit_setBit_ne _ (by decide)]; exact hx
      · exact hx
    · intro u h
      rw [State.bit_setBit_beside _ hf.1, State.bit_incFld_ne _ (by decide)]
      exact h
    · intro kind code t u h
      unfold recStart
      extract_lets
      rw [State.bit_setFld_ne _ (by decide), State.bit_setFld_ne _ (by decide)]
      exact h
    · intro u h
      rw [State.bit_setBit_beside _ hf.2, State.bit_incFld_ne _ (by decide)]
      exact h
  · rfl

/-! ### Rings -/

theorem get?_foldl_ins_other {α β : Type} (f : β → Nat) (g : β → α) (l : List β) (m : AMap α) (k : Nat) (h : ∀ a ∈ l, f a ≠ k) :
    AMap.get? (l.foldl (fun m a => AMap.ins m (f a) (g a)) m) k = AMap.get? m k := by
  induction l generalizing m with
  | nil => rfl
  | cons a l ih =>
    rw [List.foldl_cons, ih _ fun b hb => h b (List.mem_cons_of_mem _ hb)]
    exact AMap.get?_ins_other _ _ (h a List.mem_cons_self).symm

/-- Entries stored under different numbers are all found. -/
theorem get?_foldl_ins {α : Type} (f : α → Nat) (l : List α) (m : AMap α) (hd : (l.map f).Nodup) :
    ∀ a ∈ l, AMap.get? (l.foldl (fun m a => AMap.ins m (f a) a) m) (f a) = some a := by
  induction l generalizing m with
  | nil => intro a ha; cases ha
  | cons x l ih =>
    rw [List.map_cons, List.nodup_cons] at hd
    intro a ha
    rw [List.foldl_cons]
    rcases List.mem_cons.mp ha with rfl | ha
    · refine (get?_foldl_ins_other f (fun a => a) l _ _ fun b hb e => hd.1 (List.mem_map.mpr ⟨b, hb, e⟩)).trans ?_
      exact AMap.get?_ins_same _ _ _
    · exact ih _ hd.2 a ha

theorem LogsOnly.of_alter {s t : State} (a : Alter (2 ^ 65 ||| 2 ^ 66 ||| evM) s t) : LogsOnly s t := a.eq_patch

/-! ### Devices -/

theorem stoDev_ne (d : Fin 2) : R.STO_DEV d ≠ R.STO_STAT ∧ R.STO_DEV d ≠ R.STO_FLAGS ∧ R.STO_DEV d ∉ logRegs ∧
    R.STO_DEV (1 - d) ≠ R.STO_DEV d := by
  revert d
  decide

theorem devFailed_of_reg {s t : State} {d : Nat} (h : t.reg (R.STO_DEV d) = s.reg (R.STO_DEV d)) : devFailed t d = devFailed s d :=
  State.bit_of_reg h _

/-- One device alone is in use when the other works. -/
theorem single_of_failed {d : Fin 2} {s : State} (h : devFailed s d = true) :
    (devFailed s 0 != devFailed s 1) = !devFailed s (1 - d) := by
  match d with
  | 0 => rw [show devFailed s 0 = true from h, Bool.true_bne]; rfl
  | 1 => rw [show devFailed s 1 = true from h, Bool.bne_true]; rfl

theorem devFlag_val : ∀ d : Fin 2, (if d = 0 then F.STO_FLAGS.DEV0_FAIL else F.STO_FLAGS.DEV1_FAIL) =
    if d.val = 0 then F.STO_FLAGS.DEV0_FAIL else F.STO_FLAGS.DEV1_FAIL := by decide

/-- The failure of a device that worked. -/
structure DevFails (d : Fin 2) (s t : State) : Prop where
  failed : devFailed t d = true
  flag : t.bit R.STO_FLAGS (if d = 0 then F.STO_FLAGS.DEV0_FAIL else F.STO_FLAGS.DEV1_FAIL) = true
  single : t.bit R.STO_STAT F.STO_STAT.SINGLE = !devFailed s (1 - d)
  logged : LogReady s → Logs EV.STO_DEVICE d s t
  only : OnlyRegs (logRegs ++ [R.STO_DEV d, R.STO_STAT, R.STO_FLAGS]) s t
  retries : t.fld (R.STO_DEV d) F.STO_DEV.RETRIES = s.fld (R.STO_DEV d) F.STO_DEV.RETRIES

theorem devFail_working {d : Fin 2} {s : State} (h : devFailed s d = false) : DevFails d s (devFail d s) := by
  obtain ⟨hstat, hflags, hlog, hother⟩ := stoDev_ne d
  unfold devFail
  rw [if_neg (by rw [h]; exact Bool.false_ne_true)]
  extract_lets s1 s2
  have f1 : devFailed s1 d = true := State.bit_setBit_eq _ (by decide)
  have o1 : devFailed s1 (1 - d) = devFailed s (1 - d) := devFailed_of_reg (State.reg_setBit_ne _ _ _ hother)
  have r1 : s1.fld (R.STO_DEV d) F.STO_DEV.RETRIES = s.fld (R.STO_DEV d) F.STO_DEV.RETRIES :=
    State.fld_setBit_beside _ (by decide)
  have l1 : OnlyRegs (logRegs ++ [R.STO_DEV d, R.STO_STAT, R.STO_FLAGS]) s s1 := (OnlyRegs.refl _ s).setBit _ _ (by simp)
  have e1 : s1.ev = s.ev := State.setBit_ev ..
  have b1 : s1.boot = s.boot := State.setBit_boot ..
  clear_value s1
  have f2 : devFailed s2 d = true := (devFailed_of_reg (State.reg_setBit_ne _ _ _ hstat)).trans f1
  have g2 : s2.bit R.STO_STAT F.STO_STAT.SINGLE = !devFailed s (1 - d) := by
    rw [← o1, ← single_of_failed f1]
    exact State.bit_setBit_eq _ (by decide)
  have r2 : s2.fld (R.STO_DEV d) F.STO_DEV.RETRIES = s.fld (R.STO_DEV d) F.STO_DEV.RETRIES :=
    (State.fld_setBit_ne _ hstat).trans r1
  have l2 : OnlyRegs (logRegs ++ [R.STO_DEV d, R.STO_STAT, R.STO_FLAGS]) s s2 := l1.setBit _ _ (by simp)
  have e2 : s2.ev = s.ev := (State.setBit_ev ..).trans e1
  have b2 : s2.boot = s.boot := (State.setBit_boot ..).trans b1
  clear_value s2
  have ok : Fld.Ok (if d.val = 0 then F.STO_FLAGS.DEV0_FAIL else F.STO_FLAGS.DEV1_FAIL) ∧
      Fld.OfStore (if d.val = 0 then F.STO_FLAGS.DEV0_FAIL else F.STO_FLAGS.DEV1_FAIL) := by
    split <;> decide
  exact {
    failed := by
      unfold devFailed
      rw [State.bit_raise _ _ _ hlog, State.bit_setBit_ne _ hflags]
      exact f2
    flag := by
      rw [devFlag_val, raise_stoFlag ok.2, State.bit_setBit_eq _ ok.1]
    single := by
      rw [State.bit_raise _ _ _ (by decide), State.bit_setBit_ne _ (by decide), g2]
    logged := fun hs => (State.raise_logs _ _ _ _ (hs.congr ((State.setBit_boot ..).trans b2)
      ((State.setBit_ev ..).trans e2))).of_ev ((State.setBit_ev ..).trans e2)
    only := (l2.setBit _ _ (by simp)).raise _ _ _ (List.subset_append_left ..)
    retries := by
      rw [State.fld_raise _ _ _ hlog, State.fld_setBit_ne _ hflags, r2] }

theorem devFail_rest (d : Nat) (s : State) : LogsOnly s (devFail d s) :=
  LogsOnly.of_alter ((alter_devFail d s).mono rfl)

/-! ### The rows -/

theorem stoDevice_working (e : Nat) {d : Fin 2} {s : State} (h : devFailed s d = false) :
    Answers (.stoDevice e d) s fun t =>
       devFailed t d = true ∧ t.bit R.STO_FLAGS (if d = 0 then F.STO_FLAGS.DEV0_FAIL else F.STO_FLAGS.DEV1_FAIL) =
         true ∧
       t.bit R.STO_STAT F.STO_STAT.SINGLE = !devFailed s (1 - d) ∧ (LogReady s → Logs EV.STO_DEVICE d s t) ∧
       OnlyRegs (logRegs ++ [R.STO_DEV d, R.STO_STAT, R.STO_FLAGS]) s t ∧ LogsOnly s t := by
  have hd := devFail_working (s := s.tick e) h
  exact .of_next (t := devFail d (s.tick e)) rfl ⟨hd.failed, hd.flag, hd.single, hd.logged, hd.only,
    LogsOnly.of_alter (((alter_tick ..).mono rfl).step (alter_devFail ..) rfl)⟩

theorem stoDevice_failed (e : Nat) {d : Fin 2} {s : State} (h : devFailed s d = true) :
    Answers (.stoDevice e d) s fun t => t = s.tick e :=
  .of_next (t := devFail d (s.tick e)) rfl (if_pos h)

theorem emmcTuning_working (e : Nat) {d : Fin 2} (retries : Fin 4) (fails : Bool) {s : State} (h : devFailed s d = false) :
     Answers (.emmcTuning e d retries fails) s fun t =>
       devFailed t d = fails ∧ (s.fld (R.STO_DEV d) F.STO_DEV.RETRIES + retries < 2 ^ F.STO_DEV.RETRIES.width →
       t.fld (R.STO_DEV d) F.STO_DEV.RETRIES = s.fld (R.STO_DEV d) F.STO_DEV.RETRIES + retries) ∧
       (fails = true → LogReady s → Logs EV.STO_DEVICE d s t) := by
  refine .of_next (t := emmcTuning d retries fails (s.tick e)) rfl ?_
  unfold emmcTuning
  rw [if_neg (by rw [show devFailed (s.tick e) d = false from h]; exact Bool.false_ne_true)]
  extract_lets u
  have hu : devFailed u d = false := (State.bit_incFld_beside _ (by decide)).trans h
  have hr : s.fld (R.STO_DEV d) F.STO_DEV.RETRIES + retries < 2 ^ F.STO_DEV.RETRIES.width →
      u.fld (R.STO_DEV d) F.STO_DEV.RETRIES = s.fld (R.STO_DEV d) F.STO_DEV.RETRIES + retries := by
    intro hlt
    have : u.fld (R.STO_DEV d) F.STO_DEV.RETRIES =
        satInc F.STO_DEV.RETRIES.width (s.fld (R.STO_DEV d) F.STO_DEV.RETRIES) retries := State.fld_incFld_eq _ (by decide)
    rw [this]
    exact Nat.min_eq_left (by omega)
  have he : u.ev = s.ev := State.incFld_ev ..
  have hb : u.boot = s.boot := State.incFld_boot ..
  clear_value u
  cases fails
  · rw [if_neg Bool.false_ne_true]
    exact ⟨hu, hr, nofun⟩
  · rw [if_pos rfl]
    have hd := devFail_working hu
    exact ⟨hd.failed, fun hlt => hd.retries.trans (hr hlt), fun _ hs => (hd.logged (hs.congr hb he)).of_ev he⟩

theorem stoWear_shown (e : Nat) (d : Fin 2) (a b : BitVec 4) (eol : BitVec 2) (s : State) :
    Answers (.stoWear e d a b eol) s fun t =>
       t.fld (R.STO_DEV d) F.STO_DEV.LIFE_A = a.toNat ∧ t.fld (R.STO_DEV d) F.STO_DEV.LIFE_B = b.toNat ∧
       t.fld (R.STO_DEV d) F.STO_DEV.PRE_EOL = eol.toNat ∧
       ((9 ≤ a.toNat ∨ 9 ≤ b.toNat ∨ 2 ≤ eol.toNat) → s.sto.wear = false →
       t.bit R.STO_FLAGS F.STO_FLAGS.WEAR = true ∧ t.sto.wear = true ∧ (LogReady s → Logs EV.STO_WEAR d s t)) ∧
       OnlyRegs (logRegs ++ [R.STO_DEV d, R.STO_FLAGS]) s t := by
  obtain ⟨-, hflags, hlog, -⟩ := stoDev_ne d
  refine .of_next (t := devHealth d a.toNat b.toNat eol.toNat (s.tick e)) rfl ?_
  unfold devHealth setFlds
  extract_lets u worn w v
  have hu : u = (((s.tick e).setFld (R.STO_DEV d) F.STO_DEV.LIFE_A a.toNat).setFld (R.STO_DEV d) F.STO_DEV.LIFE_B b.toNat).setFld
      (R.STO_DEV d) F.STO_DEV.PRE_EOL eol.toNat := rfl
  have hA : u.fld (R.STO_DEV d) F.STO_DEV.LIFE_A = a.toNat := by
    rw [hu, State.fld_setFld_beside _ (by decide), State.fld_setFld_beside _ (by decide), State.fld_setFld_eq _ (by decide)]
    exact Nat.mod_eq_of_lt a.isLt
  have hB : u.fld (R.STO_DEV d) F.STO_DEV.LIFE_B = b.toNat := by
    rw [hu, State.fld_setFld_beside _ (by decide), State.fld_setFld_eq _ (by decide)]
    exact Nat.mod_eq_of_lt b.isLt
  have hE : u.fld (R.STO_DEV d) F.STO_DEV.PRE_EOL = eol.toNat := by
    rw [hu, State.fld_setFld_eq _ (by decide)]
    exact Nat.mod_eq_of_lt eol.isLt
  have ho : OnlyRegs (logRegs ++ [R.STO_DEV d, R.STO_FLAGS]) s u := by
    rw [hu]
    exact (((OnlyRegs.tick e s).setFld _ _ (by simp)).setFld _ _ (by simp)).setFld _ _ (by simp)
  have he : u.ev = s.ev := by
    rw [hu, State.setFld_ev, State.setFld_ev, State.setFld_ev, State.tick_ev]
  have hb : u.boot = s.boot := by
    rw [hu, State.setFld_boot, State.setFld_boot, State.setFld_boot, State.tick_boot]
  have hw : u.sto = s.sto := by
    rw [hu, State.setFld_sto, State.setFld_sto, State.setFld_sto, State.tick_sto]
  have hworn : (9 ≤ a.toNat ∨ 9 ≤ b.toNat ∨ 2 ≤ eol.toNat) → worn = true := by
    have := eol.isLt
    simp only [worn, Bool.or_eq_true, decide_eq_true_eq]
    omega
  clear_value u worn
  split
  · have hv : v.regs = u.regs := rfl
    have hve : v.ev = u.ev := rfl
    have hvb : v.boot = u.boot := rfl
    have hvw : v.sto.wear = true := rfl
    clear_value v
    have keep : ∀ f, ((v.setBit R.STO_FLAGS F.STO_FLAGS.WEAR true).raise EV.STO_WEAR d []).fld (R.STO_DEV d) f =
        u.fld (R.STO_DEV d) f := by
      intro f
      rw [State.fld_raise _ _ _ hlog, State.fld_setBit_ne _ hflags]
      exact State.fld_of_reg (Alter.reg_of_regs hv _) _
    refine ⟨(keep _).trans hA, (keep _).trans hB, (keep _).trans hE, fun _ _ => ⟨?_, ?_, fun hs => ?_⟩,
      ((ho.congr hv).setBit _ _ (by simp)).raise _ _ _ (List.subset_append_left ..)⟩
    · rw [raise_stoFlag (by decide), State.bit_setBit_eq _ (by decide)]
    · rw [State.raise_sto, State.setBit_sto, hvw]
    · have hev : (v.setBit R.STO_FLAGS F.STO_FLAGS.WEAR true).ev = s.ev := by rw [State.setBit_ev, hve, he]
      have hboot : (v.setBit R.STO_FLAGS F.STO_FLAGS.WEAR true).boot = s.boot := by rw [State.setBit_boot, hvb, hb]
      exact (State.raise_logs _ _ _ _ (hs.congr hboot hev)).of_ev hev
  · next hn =>
    refine ⟨hA, hB, hE, fun hc hs => absurd ?_ hn, ho⟩
    rw [hworn hc, hw, hs]
    rfl

theorem auditDrain_drained (e n : Nat) {s : State} (hlaid : s.sto.laid = true) (h0 : devFailed s 0 = false)
    (hrun : s.audit.lostRun = 0) :
    Answers (.auditDrain e n false) s fun t =>
       t.audit.buf = s.audit.buf.drop n ∧ (((s.audit.buf.take n).map fun a => a.num % 2 ^ 20).Nodup →
         ∀ a ∈ s.audit.buf.take n, a.kind ≠ 0x0B → AMap.get? t.audit.ring (a.num % 2 ^ 20) = some a) ∧
       t.fld R.CMD_AUDIT_STAT F.CMD_AUDIT_STAT.FILL = (s.audit.buf.length - n) % 2 ^ F.CMD_AUDIT_STAT.FILL.width := by
  refine .of_next (t := auditDrain n false (s.tick e)) rfl ?_
  unfold auditDrain
  rw [if_neg (by
    rw [State.tick_sto, hlaid, show devFailed (s.tick e) 0 = false from h0]
    exact Bool.false_ne_true)]
  extract_lets ring au u v
  have hbuf : u.audit.buf = s.audit.buf.drop n := rfl
  have hring : u.audit.ring = ring := rfl
  have hlost : u.audit.lostRun = 0 := hrun
  have hva : v.audit = u.audit := State.setFld_audit ..
  have hfill : v.fld R.CMD_AUDIT_STAT F.CMD_AUDIT_STAT.FILL =
      u.audit.buf.length % 2 ^ F.CMD_AUDIT_STAT.FILL.width := State.fld_setFld_eq _ (by decide)
  clear_value u v
  have hgap : auditGap v = v := by
    unfold auditGap
    rw [hva, hlost]
    exact if_pos rfl
  rw [hgap]
  unfold stoRepair
  rw [Bool.false_and, Bool.false_and, if_neg Bool.false_ne_true]
  refine ⟨by rw [hva, hbuf], fun hd a ha hk => ?_, by rw [hfill, hbuf, List.length_drop]⟩
  rw [hva, hring]
  refine get?_foldl_ins (fun a : AuditEntry => a.num % 2 ^ 20) _ _ (hd.sublist (List.Sublist.map _ List.filter_sublist)) a ?_
  exact List.mem_filter.mpr ⟨ha, bne_iff_ne.mpr hk⟩

theorem eventLogDrain_drained (e n : Nat) {s : State} (hlaid : s.sto.laid = true) (h1 : devFailed s 1 = false)
    (hrun : s.ev.lostRun = 0) :
    Answers (.eventLogDrain e n) s fun t =>
       t.ev.buf = s.ev.buf.drop n ∧ (((s.ev.buf.take n).map fun x => x.num % 2 ^ 21).Nodup →
         ∀ a ∈ s.ev.buf.take n, AMap.get? t.ev.ring (a.num % 2 ^ 21) = some a) ∧
       t.fld R.LOG_EVENT_STAT F.LOG_EVENT_STAT.FILL = (s.ev.buf.length - n) % 2 ^ F.LOG_EVENT_STAT.FILL.width ∧
       OnlyRegs [R.LOG_EVENT_STAT] s t := by
  refine .of_next (t := eventDrain n (s.tick e)) rfl ?_
  unfold eventDrain
  rw [if_neg (by
    rw [State.tick_sto, hlaid, show devFailed (s.tick e) 1 = false from h1]
    exact Bool.false_ne_true)]
  extract_lets ring ev u v
  have hbuf : u.ev.buf = s.ev.buf.drop n := rfl
  have hring : u.ev.ring = ring := rfl
  have hlost : u.ev.lostRun = 0 := hrun
  have hregs : u.regs = s.regs := rfl
  have hve : v.ev = u.ev := State.setFld_ev ..
  have hfill : v.fld R.LOG_EVENT_STAT F.LOG_EVENT_STAT.FILL =
      u.ev.buf.length % 2 ^ F.LOG_EVENT_STAT.FILL.width := State.fld_setFld_eq _ (by decide)
  have honly : OnlyRegs [R.LOG_EVENT_STAT] s v := (OnlyRegs.of_regs hregs).setFld _ _ (by decide)
  rw [if_pos (.inl (by rw [hve, hlost]))]
  clear_value u v
  refine ⟨by rw [hve, hbuf], fun hd a ha => ?_, by rw [hfill, hbuf, List.length_drop], honly⟩
  rw [hve, hring]
  exact get?_foldl_ins (fun x : EvEntry => x.num % 2 ^ 21) _ _ hd a ha

/-- Settles O39, row by row. -/
theorem storageKept : Obligations.StorageKept :=
  ⟨fun e _ _ h => stoDevice_working e h, fun e _ _ h => stoDevice_failed e h, stoWear_shown,
    fun e _ retries fails _ h => emmcTuning_working e retries fails h,
    fun e n _ hlaid h0 _ hrun => auditDrain_drained e n hlaid h0 hrun,
    fun e n _ hlaid h1 hrun => eventLogDrain_drained e n hlaid h1 hrun,
    fun e n s h => .of_next (t := eventDrain n (s.tick e)) rfl (if_pos (by rw [State.tick_sto, h]; rfl))⟩

end Sys2Proof.Machine
end

section
/-! SUPPORT. What the monitor's reading of the link leaves, and the settling of O27 (R395, R399, R400). -/

namespace Sys2Proof.Machine

/-- The registers that a reading of the link may write (R395, R454). -/
abbrev vlinkRegs : List Nat := [R.DCL_STAT, R.CHG_FLAGS, R.CHG_IRQ_STAT]

/-- What a reading of the link leaves. -/
structure ShowsLink (v : Nat) (s t : State) : Prop where
  shown : v < 2 ^ 13 → vlink t = v
  stat : ∀ f : Fld, Fld.Beside f F.DCL_STAT.VLINK → t.fld R.DCL_STAT f = s.fld R.DCL_STAT f
  only : OnlyRegs vlinkRegs s t
  good : t.dcl.good = s.dcl.good
  ev : t.ev = s.ev
  boot : t.boot = s.boot

theorem setVlink_shows (v : Nat) (s : State) : ShowsLink v s (setVlink v s) := by
  have ha := alter_setVlink v s
  have hregs : (setVlink v s).reg R.DCL_STAT = F.DCL_STAT.VLINK.set (s.reg R.DCL_STAT) v ∧ OnlyRegs vlinkRegs s (setVlink v s) ∧
      (setVlink v s).dcl.good = s.dcl.good := by
    unfold setVlink
    extract_lets x1 vref near d x2 c x3 x4
    have h1 : x1.reg R.DCL_STAT = F.DCL_STAT.VLINK.set (s.reg R.DCL_STAT) v := State.reg_setFld_same ..
    have o1 : OnlyRegs vlinkRegs s x1 := (OnlyRegs.refl _ s).setFld _ _ (by decide)
    have g1 : d.good = s.dcl.good := congrArg Dcl.good (State.setFld_dcl ..)
    have h2 : x2.regs = x1.regs := rfl
    have g2 : x2.dcl.good = d.good := rfl
    clear_value x2
    have h4 : x4.reg R.DCL_STAT = x2.reg R.DCL_STAT ∧ OnlyRegs vlinkRegs x2 x4 ∧ x4.dcl = x2.dcl := by
      unfold x4
      split
      · have o3 : OnlyRegs vlinkRegs x2 x3 := .of_regs rfl
        have r3 : x3.regs = x2.regs := rfl
        have d3 : x3.dcl = x2.dcl := rfl
        clear_value x3
        refine ⟨?_, (o3.setBit _ _ (by decide)).setBit _ _ (by decide), ?_⟩
        · rw [State.reg_setBit_ne _ _ _ (by decide), State.reg_setBit_ne _ _ _ (by decide)]
          exact Alter.reg_of_regs r3 _
        · rw [State.setBit_dcl, State.setBit_dcl, d3]
      · exact ⟨rfl, .refl _ _, rfl⟩
    clear_value x4
    have h5 : ∀ i, (x4.setSp 16 (perUnit (vlink x4) 2 (dclF x4 R.DCL_BASE F.DCL_BASE.VBASE))).reg i = x4.reg i := fun i =>
      Alter.reg_of_regs rfl i
    refine ⟨?_, ?_, ?_⟩
    · rw [h5, h4.1, Alter.reg_of_regs h2, h1]
    · exact ((o1.trans (.of_regs h2)).trans h4.2.1).congr rfl
    · rw [← g1, ← g2, ← h4.2.2]
      rfl
  obtain ⟨hstat, honly, hgood⟩ := hregs
  exact {
    shown := fun hv => by
      unfold vlink State.fld
      rw [hstat, Fld.get_set_same _ _ _ (by decide) (by decide)]
      exact Nat.mod_eq_of_lt hv
    stat := fun f hf => by
      unfold State.fld
      rw [hstat]
      exact Fld.get_set_other _ _ _ _ hf.2.1.1 hf.2.1.2 hf.1.1 hf.2.2
    only := honly
    good := hgood
    ev := ha.ev rfl
    boot := ha.boot rfl }

theorem ShowsLink.bit {v : Nat} {s t : State} (h : ShowsLink v s t) {f : Fld} (hf : Fld.Beside f F.DCL_STAT.VLINK) :
    t.bit R.DCL_STAT f = s.bit R.DCL_STAT f := by
  unfold State.bit
  rw [h.stat f hf]

theorem ShowsLink.vlink_of {v : Nat} {s t u : State} (h : ShowsLink v s t) (hv : v < 2 ^ 13)
    (hu : u.fld R.DCL_STAT F.DCL_STAT.VLINK = t.fld R.DCL_STAT F.DCL_STAT.VLINK) : vlink u = v :=
  hu.trans (h.shown hv)

/-- The reading stands below VUV. -/
theorem dclUv_sets (e : Nat) {vl : BitVec 13} {s : State} (hmode : s.mode = Mode.drive ∨ s.mode = Mode.charge)
    (hlow : vl.toNat < 2 * s.fld R.DCL_HYS F.DCL_HYS.VUV) (huv : s.bit R.DCL_STAT F.DCL_STAT.UV = false) :
    Answers (.dclUv e vl) s fun t =>
       vlink t = vl.toNat ∧ t.bit R.DCL_STAT F.DCL_STAT.UV = true ∧ t.bit R.DCL_FLAGS F.DCL_FLAGS.UV = true ∧
       (LogReady s → Logs EV.DCL_UV 0xFF s t) ∧ OnlyRegs (logRegs ++ [R.DCL_STAT, R.DCL_FLAGS, R.CHG_FLAGS,
         R.CHG_IRQ_STAT]) s t := by
  refine .of_next (t := dclUv vl.toNat (s.tick e)) rfl ?_
  have hs := setVlink_shows vl.toNat (s.tick e)
  unfold dclUv
  generalize setVlink vl.toNat (s.tick e) = u at hs ⊢
  have hm : u.mode = s.mode := State.mode_of_reg (hs.only _ (by decide))
  have hv : u.fld R.DCL_HYS F.DCL_HYS.VUV = s.fld R.DCL_HYS F.DCL_HYS.VUV := State.fld_of_reg (hs.only _ (by decide)) _
  have hb : u.bit R.DCL_STAT F.DCL_STAT.UV = false := (hs.bit (by decide)).trans huv
  have ho : OnlyRegs (logRegs ++ [R.DCL_STAT, R.DCL_FLAGS, R.CHG_FLAGS, R.CHG_IRQ_STAT]) s u := hs.only.mono (by decide)
  rw [if_pos ⟨by rw [hm]; exact hmode, by rw [hv]; exact hlow, by rw [hb]; rfl⟩]
  refine ⟨hs.vlink_of vl.isLt ?_, ?_, ?_, fun hr => ?_, ((ho.setBit _ _ (by decide)).setBit _ _ (by decide)).raise _ _ _ (by decide)⟩
  · rw [State.fld_raise _ _ _ (by decide), State.fld_setBit_ne _ (by decide), State.fld_setBit_beside _ (by decide)]
  · rw [State.bit_raise _ _ _ (by decide), State.bit_setBit_ne _ (by decide), State.bit_setBit_eq _ (by decide)]
  · rw [State.bit_raise _ _ _ (by decide), State.bit_setBit_eq _ (by decide)]
  · have hev : ((u.setBit R.DCL_STAT F.DCL_STAT.UV true).setBit R.DCL_FLAGS F.DCL_FLAGS.UV true).ev = s.ev := by
      rw [State.setBit_ev, State.setBit_ev, hs.ev, State.tick_ev]
    refine (State.raise_logs _ _ _ _ (hr.congr ?_ hev)).of_ev hev
    rw [State.setBit_boot, State.setBit_boot, hs.boot, State.tick_boot]

/-- The reading stands at VLOW or above. -/
theorem uvClear_clears (e : Nat) {vl : BitVec 13} {s : State} (hhigh : 2 * s.fld R.DCL_HYS F.DCL_HYS.VLOW ≤ vl.toNat) :
    Answers (.uvClear e vl) s fun t =>
       vlink t = vl.toNat ∧ t.bit R.DCL_STAT F.DCL_STAT.UV = false ∧
       OnlyRegs [R.DCL_STAT, R.CHG_FLAGS, R.CHG_IRQ_STAT] s t := by
  refine .of_next (t := uvClear vl.toNat (s.tick e)) rfl ?_
  have hs := setVlink_shows vl.toNat (s.tick e)
  unfold uvClear
  generalize setVlink vl.toNat (s.tick e) = u at hs ⊢
  have hv : u.fld R.DCL_HYS F.DCL_HYS.VLOW = s.fld R.DCL_HYS F.DCL_HYS.VLOW := State.fld_of_reg (hs.only _ (by decide)) _
  have ho : OnlyRegs vlinkRegs s u := hs.only
  rw [if_pos (by rw [hv]; exact hhigh)]
  exact ⟨hs.vlink_of vl.isLt (State.fld_setBit_beside _ (by decide)), State.bit_setBit_eq _ (by decide), ho.setBit _ _ (by decide)⟩

theorem uvClear_shows (e : Nat) {vl : BitVec 13} {s : State} (hlow : vl.toNat < 2 * s.fld R.DCL_HYS F.DCL_HYS.VLOW) :
    Answers (.uvClear e vl) s fun t =>
       vlink t = vl.toNat ∧ t.bit R.DCL_STAT F.DCL_STAT.UV = s.bit R.DCL_STAT F.DCL_STAT.UV ∧
       OnlyRegs [R.DCL_STAT, R.CHG_FLAGS, R.CHG_IRQ_STAT] s t := by
  refine .of_next (t := uvClear vl.toNat (s.tick e)) rfl ?_
  have hs := setVlink_shows vl.toNat (s.tick e)
  unfold uvClear
  generalize setVlink vl.toNat (s.tick e) = u at hs ⊢
  have hv : u.fld R.DCL_HYS F.DCL_HYS.VLOW = s.fld R.DCL_HYS F.DCL_HYS.VLOW := State.fld_of_reg (hs.only _ (by decide)) _
  rw [if_neg (by rw [hv]; omega)]
  exact ⟨hs.shown vl.isLt, hs.bit (by decide), hs.only⟩

/-- A check of the monitor's reference fails. -/
theorem dclSense_fails (e : Nat) {mv vl : BitVec 13} {s : State} (hbad : mv.toNat < 1980 ∨ 2020 < mv.toNat) :
    Answers (.dclSense e mv vl) s fun t =>
       vlink t = vl.toNat ∧ t.bit R.DCL_STAT F.DCL_STAT.MON_FAULT = true ∧
       t.bit R.DCL_FLAGS F.DCL_FLAGS.SENSE = true ∧ t.dcl.good = 0 ∧
       (s.bit R.DCL_STAT F.DCL_STAT.MON_FAULT = false → LogReady s → Logs EV.DCL_SENSE 0xFF s t) ∧
       OnlyRegs (logRegs ++ [R.DCL_STAT, R.DCL_FLAGS, R.CHG_FLAGS, R.CHG_IRQ_STAT]) s t := by
  refine .of_next (t := dclSense mv.toNat vl.toNat (s.tick e)) rfl ?_
  have hs := setVlink_shows vl.toNat (s.tick e)
  unfold dclSense
  generalize setVlink vl.toNat (s.tick e) = u at hs ⊢
  rw [if_neg (by omega)]
  extract_lets d2 x2 v
  have ho : OnlyRegs (logRegs ++ [R.DCL_STAT, R.DCL_FLAGS, R.CHG_FLAGS, R.CHG_IRQ_STAT]) s x2 :=
    (show OnlyRegs _ s u from hs.only.mono (by decide)).congr rfl
  have hr : x2.regs = u.regs := rfl
  have hg : x2.dcl.good = 0 := rfl
  have he : x2.ev = u.ev := rfl
  have hb : x2.boot = u.boot := rfl
  clear_value x2
  have hv : vlink v = vl.toNat :=
    hs.vlink_of vl.isLt ((State.fld_setBit_ne _ (by decide)).trans (State.fld_of_reg (Alter.reg_of_regs hr _) _))
  have hsense : v.bit R.DCL_FLAGS F.DCL_FLAGS.SENSE = true := State.bit_setBit_eq _ (by decide)
  have hmon : v.bit R.DCL_STAT F.DCL_STAT.MON_FAULT = s.bit R.DCL_STAT F.DCL_STAT.MON_FAULT :=
    (State.bit_setBit_ne _ (by decide)).trans ((State.bit_of_reg (Alter.reg_of_regs hr _) _).trans (hs.bit (by decide)))
  have ho2 : OnlyRegs (logRegs ++ [R.DCL_STAT, R.DCL_FLAGS, R.CHG_FLAGS, R.CHG_IRQ_STAT]) s v := ho.setBit _ _ (by decide)
  have hg2 : v.dcl.good = 0 := (congrArg Dcl.good (State.setBit_dcl ..)).trans hg
  have he2 : v.ev = s.ev := (State.setBit_ev ..).trans (he.trans hs.ev)
  have hb2 : v.boot = s.boot := (State.setBit_boot ..).trans (hb.trans hs.boot)
  clear_value v
  unfold State.flagRaise
  split
  · next h => exact ⟨hv, h, hsense, hg2, fun hn => absurd (hmon.symm.trans h) (by rw [hn]; exact Bool.false_ne_true), ho2⟩
  · refine ⟨?_, ?_, ?_, ?_, fun _ hl => ?_, (ho2.setBit _ _ (by decide)).raise _ _ _ (by decide)⟩
    · unfold vlink
      rw [State.fld_raise _ _ _ (by decide), State.fld_setBit_beside _ (by decide)]
      exact hv
    · rw [State.bit_raise _ _ _ (by decide), State.bit_setBit_eq _ (by decide)]
    · rw [State.bit_raise _ _ _ (by decide), State.bit_setBit_ne _ (by decide), hsense]
    · rw [State.raise_dcl, State.setBit_dcl, hg2]
    · have hev : (v.setBit R.DCL_STAT F.DCL_STAT.MON_FAULT true).ev = s.ev := (State.setBit_ev ..).trans he2
      exact (State.raise_logs _ _ _ _ (hl.congr ((State.setBit_boot ..).trans hb2) hev)).of_ev hev

/-- A check of the monitor's reference is good. -/
theorem dclSense_good (e : Nat) {mv vl : BitVec 13} {s : State} (hlo : 1980 ≤ mv.toNat) (hhi : mv.toNat ≤ 2020) :
    Answers (.dclSense e mv vl) s fun t =>
       vlink t = vl.toNat ∧ t.dcl.good = s.dcl.good + 1 ∧ OnlyRegs [R.DCL_STAT, R.CHG_FLAGS, R.CHG_IRQ_STAT] s t ∧
       t.bit R.DCL_STAT F.DCL_STAT.MON_FAULT = (s.bit R.DCL_STAT F.DCL_STAT.MON_FAULT && decide (s.dcl.good < 9)) := by
  refine .of_next (t := dclSense mv.toNat vl.toNat (s.tick e)) rfl ?_
  have hs := setVlink_shows vl.toNat (s.tick e)
  unfold dclSense
  generalize setVlink vl.toNat (s.tick e) = u at hs ⊢
  rw [if_pos ⟨hlo, hhi⟩]
  extract_lets n d1 x1
  have hn : n = s.dcl.good + 1 := congrArg (· + 1) hs.good
  have hg : x1.dcl.good = n := rfl
  have ho : OnlyRegs vlinkRegs s x1 := (show OnlyRegs _ s u from hs.only).congr rfl
  have hr : ∀ f, x1.fld R.DCL_STAT f = u.fld R.DCL_STAT f := fun f => State.fld_of_reg (Alter.reg_of_regs rfl _) f
  have hm : x1.bit R.DCL_STAT F.DCL_STAT.MON_FAULT = s.bit R.DCL_STAT F.DCL_STAT.MON_FAULT := by
    unfold State.bit
    rw [hr]
    exact hs.bit (by decide)
  clear_value x1 n
  split
  · next h =>
    refine ⟨hs.vlink_of vl.isLt ((State.fld_setBit_beside _ (by decide)).trans (hr _)), ?_, ho.setBit _ _ (by decide), ?_⟩
    · rw [State.setBit_dcl, hg, hn]
    · rw [State.bit_setBit_eq _ (by decide), decide_eq_false (by omega), Bool.and_false]
  · next h =>
    refine ⟨hs.vlink_of vl.isLt (hr _), hg.trans hn, ho, ?_⟩
    rw [hm, decide_eq_true (by omega), Bool.and_true]

/-- Settles O27, row by row. -/
theorem linkMonitored : Obligations.LinkMonitored :=
  ⟨fun e _ _ hmode hlow huv => dclUv_sets e hmode hlow huv, fun e _ _ h => uvClear_clears e h, fun e _ _ h => uvClear_shows e h,
    fun e _ _ _ h => dclSense_fails e h, fun e _ _ _ hlo hhi => dclSense_good e hlo hhi⟩

end Sys2Proof.Machine
end

section
/-! SUPPORT. Units and timebases read after a write, notices through the D0 event FIFO, and the settling of O18: what a trip
source's change does (R197 to R199). -/

namespace Sys2Proof.Machine

/-! ### Stores, repetition, notices -/

theorem State.unitOf_setUnit (k : Nat) (x : Unit) (s : State) : (s.setUnit k x).unitOf k = x := AMap.getD_put_same _ _ _ _

theorem State.unitOf_of_unit {s t : State} (h : t.unit = s.unit) (k : Nat) : t.unitOf k = s.unitOf k := by
  unfold State.unitOf
  rw [h]

theorem State.tbOf_setTb (j : Nat) (x : Tb) (s : State) : (s.setTb j x).tbOf j = x := AMap.getD_put_same _ _ _ _

theorem State.tbOf_of_tb {s t : State} (h : t.tb = s.tb) (j : Nat) : t.tbOf j = s.tbOf j := by
  unfold State.tbOf
  rw [h]

/-- An operation that leaves the state alone, repeated. -/
theorem forEach_idle {α : Type} (l : List α) (f : α → State → State) (s : State) (h : ∀ a ∈ l, f a s = s) : forEach l f s = s := by
  induction l with
  | nil => rfl
  | cons a l ih =>
    have : forEach (a :: l) f s = forEach l f (f a s) := rfl
    rw [this, h a List.mem_cons_self]
    exact ih fun b hb => h b (List.mem_cons_of_mem _ hb)

theorem forEach_one {α : Type} (a : α) (f : α → State → State) (s : State) : forEach [a] f s = f a s := rfl

/-- A crossing FIFO with room lets an arrival through. -/
theorem fifoMet_room (k : Nat) (s : State) : fifoMet k false s = s.setXf k { s.xfOf k with run := false } := by
  unfold fifoMet
  exact if_neg Bool.false_ne_true

/-- A notice that raises no event meets a FIFO with room. -/
theorem noticeSend_quiet (subj : Nat) {s : State} (h : noticesStand s < 256) :
    noticeSend 0 subj s = s.setXf 128 { s.xfOf 128 with run := false } := by
  have hfull : decide (xfDepth 2 ≤ noticesStand s) = false := decide_eq_false (Nat.not_le.mpr h)
  unfold noticeSend
  rw [hfull]
  exact (if_pos rfl).trans (fifoMet_room _ _)

/-- A notice that raises an event meets a FIFO with room. -/
theorem noticeSend_event {code : Nat} (subj : Nat) {s : State} (hc : code ≠ 0) (h : noticesStand s < 256) :
    noticeSend code subj s = (s.setXf 128 { s.xfOf 128 with run := false }).raise code subj [] := by
  have hfull : decide (xfDepth 2 ≤ noticesStand s) = false := decide_eq_false (Nat.not_le.mpr h)
  unfold noticeSend
  rw [hfull]
  extract_lets full u
  rw [if_neg (by rw [Bool.false_or, beq_iff_eq]; exact hc)]
  exact congrArg (State.raise code subj []) (fifoMet_room _ _)

theorem noticesStand_congr {s t : State} (h : t.eng = s.eng) : noticesStand t = noticesStand s := by
  unfold noticesStand State.graphOf
  rw [h]

/-! ### Trips -/

/-- The units that one source trips alone. -/
theorem filter_range_only (k : Fin 33) (p : Nat → Bool) (hk : p k = true) (h : ∀ j : Fin 33, j ≠ k → p j = false) :
    (List.range 33).filter p = [k.val] := by
  have hp : ∀ j ∈ List.range 33, p j = (j == k.val) := by
    intro j hj
    by_cases e : j = k.val
    · rw [e, hk, beq_self_eq_true]
    · rw [h ⟨j, List.mem_range.mp hj⟩ fun he => e (congrArg Fin.val he), beq_eq_false_iff_ne.mpr e]
  have single : ∀ k : Fin 33, (List.range 33).filter (· == k.val) = [k.val] := by decide
  rw [List.filter_congr hp, single]

theorem tripSrcs_of_regs {s t : State} (h : t.regs = s.regs) (k : Nat) : tripSrcs t k = tripSrcs s k := by
  unfold tripSrcs State.fld
  rw [Alter.reg_of_regs h]

/-- An assertion trips the units that select the source, one after another. -/
theorem tripAssert_on (src : Nat) (s : State) :
    tripAssert src true s = forEach ((List.range 33).filter fun k => (tripSrcs s k).contains src)
      (fun k u => tripUnit false k s.dt u) { s with trips := setBitN s.trips src } := by
  unfold tripAssert tripAt
  rw [if_pos rfl, if_pos rfl]
  rfl

theorem tripAssert_off (src : Nat) (s : State) : tripAssert src false s = { s with trips := clrBitN s.trips src } := by
  unfold tripAssert tripAt
  rw [if_neg Bool.false_ne_true, if_neg Bool.false_ne_true]

/-- A unit without edges is not tripped. -/
theorem tripUnit_disabled (fresh : Bool) {k : Nat} (stamp : Nat) {s : State} (h : s.bit (R.PWM_HB_STAT k) F.PWM_HB_STAT.EN = false) :
    tripUnit fresh k stamp s = s := by
  unfold tripUnit
  exact if_pos (by rw [h, Bool.not_false, Bool.or_true, Bool.true_or])

/-- No enabled unit selects the source. -/
theorem tripAssert_unselected {src : Nat} {s : State}
    (h : ∀ k : Fin 33, s.bit (R.PWM_HB_STAT k) F.PWM_HB_STAT.EN = true → (tripSrcs s k).contains src = false) :
    tripAssert src true s = { s with trips := setBitN s.trips src } := by
  rw [tripAssert_on]
  refine forEach_idle _ _ _ fun k hk => tripUnit_disabled _ _ ?_
  obtain ⟨hr, hc⟩ := List.mem_filter.mp hk
  by_contra hn
  have := h ⟨k, List.mem_range.mp hr⟩ (Bool.not_eq_false _ ▸ hn)
  exact absurd (this.symm.trans hc) Bool.false_ne_true

/-- The edges a trip leaves: those due before it takes effect, and both sides off. -/
theorem tripEdges_off {s : State} {k : Nat} (t : Nat) (hact : s.bit (R.PWM_HB_TRIP k) F.PWM_HB_TRIP.ACT = false) :
    (∀ d ∈ tripEdges s k t false false, d ∈ (s.unitOf k).edges ∧ d.step < 8 * (t + 2) ∨ d.on = false ∧ d.step = 8 * (t + 2)) ∧
      (∃ d ∈ tripEdges s k t false false, d.high = true ∧ d.on = false ∧ d.step = 8 * (t + 2)) ∧
      (∃ d ∈ tripEdges s k t false false, d.high = false ∧ d.on = false ∧ d.step = 8 * (t + 2)) := by
  unfold tripEdges
  extract_lets u off prof lowOn keep last hOff low
  have hl : lowOn = false := by
    unfold lowOn
    rw [hact, Bool.and_false]
  have hlow : low = ⟨off, false, false, prof (if unitMode s k = 2 then 6 else 12), 0⟩ := if_neg (by rw [hl]; exact Bool.false_ne_true)
  have hkeep : ∀ d ∈ keep, d ∈ (s.unitOf k).edges ∧ d.step < 8 * (t + 2) := by
    intro d hd
    obtain ⟨hm, hc⟩ := List.mem_filter.mp hd
    rw [Bool.and_eq_true, decide_eq_true_eq] at hc
    exact ⟨hm, hc.1⟩
  rw [hlow]
  clear_value keep
  refine ⟨fun d hd => ?_, ⟨_, List.mem_append_right _ List.mem_cons_self, rfl, rfl, rfl⟩,
    ⟨_, List.mem_append_right _ (List.mem_cons_of_mem _ List.mem_cons_self), rfl, rfl, rfl⟩⟩
  rcases List.mem_append.mp hd with hd | hd
  · exact .inl (hkeep d hd)
  · rcases List.mem_cons.mp hd with rfl | hd
    · exact .inr ⟨rfl, rfl⟩
    · rw [List.mem_singleton.mp hd]
      exact .inr ⟨rfl, rfl⟩

/-- What a trip of an enabled unit leaves that does not latch it and opens a window. -/
structure Trips (k stamp : Nat) (s t : State) : Prop where
  tripAt : (t.unitOf k).tripAt = some stamp
  win : (t.unitOf k).win = some (stamp + s.fld (R.PWM_HB_TRIPWIN k) F.PWM_HB_TRIPWIN.W)
  edges : (t.unitOf k).edges = tripEdges s k stamp false false
  flag : t.bit (R.PWM_HB_FLAGS k) F.PWM_HB_FLAGS.TRIP = true
  tripped : t.bit (R.PWM_HB_STAT k) F.PWM_HB_STAT.TRIPPED = true
  count : t.fld (R.PWM_HB_STAT k) F.PWM_HB_STAT.TRIP_COUNT = 1
  rest : Alter (2 ^ 67 ||| 2 ^ 89 ||| 2 ^ 93) s t

theorem hbRegs_ne (k : Nat) : R.PWM_HB_TRIP k ≠ R.PWM_HB_STAT k ∧ R.PWM_HB_TRIP k ≠ R.PWM_HB_FLAGS k ∧
    R.PWM_HB_FLAGS k ≠ R.PWM_HB_STAT k := by
  unfold R.PWM_HB_TRIP R.PWM_HB_STAT R.PWM_HB_FLAGS
  omega

theorem tripUnit_trips {k stamp : Nat} {s : State} (hen : s.bit (R.PWM_HB_STAT k) F.PWM_HB_STAT.EN = true)
    (hlatch : unitLatched s k = false) (hfree : (s.unitOf k).tripAt = none) (hsel : bySelector s k = false)
    (hwin : (s.unitOf k).win = none) (hroom : noticesStand s < 256) (hn : 1 < s.fld (R.PWM_HB_TRIP k) F.PWM_HB_TRIP.N) :
    Trips k stamp s (tripUnit false k stamp s) := by
  obtain ⟨ht, htf, hfs⟩ := hbRegs_ne k
  unfold tripUnit
  rw [if_neg (by rw [hen, hlatch, hfree]; exact Bool.false_ne_true)]
  extract_lets open_ cnt win es x y z
  have hopen : open_ = false := by unfold open_; rw [hwin]
  have hcnt : cnt = 1 := if_neg (by rw [hopen]; exact Bool.false_ne_true)
  have hw : win = some (stamp + s.fld (R.PWM_HB_TRIPWIN k) F.PWM_HB_TRIPWIN.W) := if_neg (by rw [hopen]; exact Bool.false_ne_true)
  have hes : es = tripEdges s k stamp false false := if_neg (by rw [hsel]; exact Bool.false_ne_true)
  clear_value open_ cnt win es
  subst hcnt hw hes
  have x1 : (x.unitOf k).tripAt = some stamp ∧
      (x.unitOf k).win = some (stamp + s.fld (R.PWM_HB_TRIPWIN k) F.PWM_HB_TRIPWIN.W) ∧
      (x.unitOf k).edges = tripEdges s k stamp false false := by
    unfold x
    rw [State.unitOf_setUnit]
    exact ⟨rfl, rfl, rfl⟩
  have ax : Alter (2 ^ 67 ||| 2 ^ 89 ||| 2 ^ 93) s x := (alter_setUnit ..).mono rfl
  have rx : x.regs = s.regs := State.setUnit_regs ..
  clear_value x
  have hy : R.PWM_HB_STAT k ≥ 64 ∧ R.PWM_HB_FLAGS k ≥ 64 := by unfold R.PWM_HB_STAT R.PWM_HB_FLAGS; omega
  have ay : Alter (2 ^ 67 ||| 2 ^ 89 ||| 2 ^ 93) s y :=
    (ax.step (alter_setBit ..) (rm_high hy.2 rfl)).step (alter_setBit ..) (rm_high hy.1 rfl)
  have uy : y.unit = x.unit := (State.setBit_unit ..).trans (State.setBit_unit ..)
  have fy : y.bit (R.PWM_HB_FLAGS k) F.PWM_HB_FLAGS.TRIP = true :=
    (State.bit_setBit_ne _ hfs).trans (State.bit_setBit_eq _ (by decide))
  have ty : y.bit (R.PWM_HB_STAT k) F.PWM_HB_STAT.TRIPPED = true := State.bit_setBit_eq _ (by decide)
  have ny : y.fld (R.PWM_HB_TRIP k) F.PWM_HB_TRIP.N = s.fld (R.PWM_HB_TRIP k) F.PWM_HB_TRIP.N :=
    (State.fld_setBit_ne _ ht).trans ((State.fld_setBit_ne _ htf).trans (State.fld_of_reg (Alter.reg_of_regs rx _) _))
  clear_value y
  have hz : z = noticeSend 0 k (y.setFld (R.PWM_HB_STAT k) F.PWM_HB_STAT.TRIP_COUNT 1) := rfl
  clear_value z
  generalize hw : y.setFld (R.PWM_HB_STAT k) F.PWM_HB_STAT.TRIP_COUNT 1 = w at hz
  have aw : Alter (2 ^ 67 ||| 2 ^ 89 ||| 2 ^ 93) s w := by
    rw [← hw]
    exact ay.step (alter_setFld ..) (rm_high hy.1 rfl)
  have cw : w.fld (R.PWM_HB_STAT k) F.PWM_HB_STAT.TRIP_COUNT = 1 := by
    rw [← hw, State.fld_setFld_eq _ (by decide)]
    rfl
  have uw : w.unit = x.unit := by rw [← hw, State.setFld_unit, uy]
  have fw : w.bit (R.PWM_HB_FLAGS k) F.PWM_HB_FLAGS.TRIP = true := by rw [← hw, State.bit_setFld_ne _ hfs, fy]
  have tw : w.bit (R.PWM_HB_STAT k) F.PWM_HB_STAT.TRIPPED = true := by rw [← hw, State.bit_setFld_beside _ (by decide), ty]
  have nw : w.fld (R.PWM_HB_TRIP k) F.PWM_HB_TRIP.N = s.fld (R.PWM_HB_TRIP k) F.PWM_HB_TRIP.N := by
    rw [← hw, State.fld_setFld_ne _ ht, ny]
  rw [noticeSend_quiet _ (by rw [noticesStand_congr (aw.eng rfl)]; exact hroom)] at hz
  have rz : ∀ i, z.reg i = w.reg i := fun i => Alter.reg_of_regs (by rw [hz, State.setXf_regs]) i
  have uz : z.unitOf k = x.unitOf k := State.unitOf_of_unit (by rw [hz, State.setXf_unit, uw]) k
  have az : Alter (2 ^ 67 ||| 2 ^ 89 ||| 2 ^ 93) s z := by
    rw [hz]
    exact aw.step (alter_setXf ..) rfl
  rw [if_neg (by rw [State.fld_of_reg (rz _), nw]; omega)]
  exact {
    tripAt := by rw [uz, x1.1]
    win := by rw [uz, x1.2.1]
    edges := by rw [uz, x1.2.2]
    flag := (State.bit_of_reg (rz _) _).trans fw
    tripped := (State.bit_of_reg (rz _) _).trans tw
    count := (State.fld_of_reg (rz _) _).trans cw
    rest := az }

/-- The source trips one unit. -/
theorem tripAssert_one (e : Nat) {src : Fin 72} {k : Fin 33} {s : State} (hk : (tripSrcs s k).contains src.val = true)
    (hother : ∀ j : Fin 33, j ≠ k → (tripSrcs s j).contains src.val = false)
    (hen : s.bit (R.PWM_HB_STAT k) F.PWM_HB_STAT.EN = true) (hlatch : unitLatched s k = false)
    (hfree : (s.unitOf k).tripAt = none) (hsel : bySelector s k = false)
    (hact : s.bit (R.PWM_HB_TRIP k) F.PWM_HB_TRIP.ACT = false) (hwin : (s.unitOf k).win = none)
    (hroom : noticesStand s < 256) (hn : 1 < s.fld (R.PWM_HB_TRIP k) F.PWM_HB_TRIP.N) :
     Answers (.tripAssert e src true) s fun t =>
       (t.unitOf k).tripAt = some t.dt ∧
       (t.unitOf k).win = some (t.dt + s.fld (R.PWM_HB_TRIPWIN k) F.PWM_HB_TRIPWIN.W) ∧
       t.bit (R.PWM_HB_FLAGS k) F.PWM_HB_FLAGS.TRIP = true ∧ t.bit (R.PWM_HB_STAT k) F.PWM_HB_STAT.TRIPPED = true ∧
       t.fld (R.PWM_HB_STAT k) F.PWM_HB_STAT.TRIP_COUNT = 1 ∧
       (∀ d ∈ (t.unitOf k).edges, d ∈ (s.unitOf k).edges ∧ d.step < 8 * (t.dt + 2) ∨ d.on = false ∧
         d.step = 8 * (t.dt + 2)) ∧
       (∃ d ∈ (t.unitOf k).edges, d.high = true ∧ d.on = false ∧ d.step = 8 * (t.dt + 2)) ∧
       (∃ d ∈ (t.unitOf k).edges, d.high = false ∧ d.on = false ∧ d.step = 8 * (t.dt + 2)) ∧
       t = { s with el := t.el, dt := t.dt, regs := t.regs, trips := setBitN s.trips src, unit := t.unit, meas := t.meas } := by
  refine .of_next (t := tripAssert src true (s.tick e)) rfl ?_
  rw [tripAssert_on, filter_range_only k _ hk hother, forEach_one]
  generalize hu : ({ s.tick e with trips := setBitN (s.tick e).trips src } : State) = u
  have hregs : u.regs = s.regs := by rw [← hu]; rfl
  have hunit : u.unitOf k = s.unitOf k := by rw [← hu]; rfl
  have hplant : u.plant = s.plant := by rw [← hu]; rfl
  have hdt : (s.tick e).dt = u.dt := by rw [← hu]
  have htrips : u.trips = setBitN s.trips src := by rw [← hu]; rfl
  have ha : Alter (2 ^ 65 ||| 2 ^ 66 ||| 2 ^ 91) s u := by
    rw [← hu]
    exact ((alter_tick ..).mono rfl).step (alter_trips ..) rfl
  have hreg : ∀ i, u.reg i = s.reg i := Alter.reg_of_regs hregs
  have hselu : bySelector u k = false := by
    unfold bySelector convOfUnit chanOf convRec unitRec State.bit State.fld at *
    simp only [hplant, hreg]
    exact hsel
  have ht := tripUnit_trips (k := k) (stamp := (s.tick e).dt) (s := u) ((State.bit_of_reg (hreg _) _).trans hen)
    ((congrArg (bitN · k) (State.fld_of_reg (hreg _) _)).trans hlatch) (by rw [hunit, hfree]) hselu (by rw [hunit, hwin])
    (by rw [noticesStand_congr (ha.eng rfl)]; exact hroom) (by rw [State.fld_of_reg (hreg _)]; exact hn)
  obtain ⟨hall, hhigh, hlow⟩ := tripEdges_off (s := u) (k := k) (s.tick e).dt ((State.bit_of_reg (hreg _) _).trans hact)
  generalize tripUnit false k (s.tick e).dt u = t at ht
  have hd : t.dt = (s.tick e).dt := (ht.rest.dt rfl).trans hdt.symm
  have hw := ht.win
  rw [State.fld_of_reg (hreg _)] at hw
  rw [hd, ht.edges]
  rw [hunit] at hall
  refine ⟨ht.tripAt, hw, ht.flag, ht.tripped, ht.count, hall, hhigh, hlow, ?_⟩
  have hst : Alter (2 ^ 65 ||| 2 ^ 66 ||| 2 ^ 67 ||| 2 ^ 89 ||| 2 ^ 91 ||| 2 ^ 93) s t := (ha.mono rfl).and (ht.rest.mono rfl)
  rw [← hd, ← htrips, ← ht.rest.trips rfl]
  exact hst.eq_patch

/-- Settles O18. -/
theorem tripsAct : Obligations.TripsAct :=
  ⟨fun e src s => .of_next (t := tripAssert src false (s.tick e)) rfl (tripAssert_off src _),
    fun e src s h => .of_next (t := tripAssert src true (s.tick e)) rfl (tripAssert_unselected (s := s.tick e) h),
    fun e _ _ _ hk hother hen hlatch hfree hsel hact hwin hroom hn =>
      tripAssert_one e hk hother hen hlatch hfree hsel hact hwin hroom hn⟩

end Sys2Proof.Machine
end

section
/-! SUPPORT. What an edge at SYNC_IN and the loss of SYNC_IN do, and the settling of O19 (R206, R207). -/

namespace Sys2Proof.Machine

theorem showLocked_only (s : State) : OnlyRegs [R.PWM_SYNC_STAT] s (showLocked s) := (OnlyRegs.refl _ s).setBit _ _ (by decide)

theorem showLocked_bit {f : Fld} (hf : Fld.Beside f F.PWM_SYNC_STAT.LOCKED) (s : State) :
    (showLocked s).bit R.PWM_SYNC_STAT f = s.bit R.PWM_SYNC_STAT f := State.bit_setBit_beside _ hf

theorem alter_showLocked' (s : State) : Alter (2 ^ 67) s (showLocked s) := (alter_setBit ..).mono rfl

/-- The periods after which the coming edge may fall. -/
theorem syncInWindow_iff {s : State} {j a : Nat} (ha : (s.tbOf j).lastEdge = some a) :
    syncInWindow s j = true ↔ ∃ k ∈ (if (s.tbOf j).syncOn then [1, 2, 3] else [1]),
      k * (s.tbOf j).p ≤ s.dt - a + s.fld R.PWM_SYNC_CFG F.PWM_SYNC_CFG.TOL ∧
        s.dt - a < k * (s.tbOf j).p + s.fld R.PWM_SYNC_CFG F.PWM_SYNC_CFG.TOL + 1 := by
  unfold syncInWindow
  simp only [ha, List.any_eq_true, decide_eq_true_eq]

/-- The one timebase on SYNC_IN has a record of an edge that is none in its windows. -/
theorem syncEdge_of_one {s : State} {j : Nat} (hen : s.bit R.PWM_SYNC_CFG F.PWM_SYNC_CFG.IN_EN = true) (hj : syncTbs s = [j]) :
    syncEdge s =
      (let acc := ([j].filter fun j => (s.tbOf j).run).filter (syncInWindow s)
       let missed := acc.isEmpty && ([j].filter fun j => (s.tbOf j).run).any fun j => (s.tbOf j).lastEdge.isSome
       let s := forEach ([j].filter fun j => !acc.contains j && !(s.tbOf j).syncOn) (fun j s =>
         s.setTb j { s.tbOf j with lastEdge := some s.dt }) s
       let s := forEach acc syncAccept s
       if missed then s.incFld R.PWM_SYNC_STAT F.PWM_SYNC_STAT.MISSED 1 else s) := by
  unfold syncEdge
  rw [hen, hj]
  exact if_neg Bool.false_ne_true

theorem syncEdge_off {s : State} (h : s.bit R.PWM_SYNC_CFG F.PWM_SYNC_CFG.IN_EN = false ∨ syncTbs s = []) : syncEdge s = s := by
  unfold syncEdge
  rcases h with h | h
  · exact if_pos (by rw [h]; rfl)
  · rw [h]
    split
    · rfl
    · exact if_neg Bool.false_ne_true

/-- The first edge of a timebase is remembered. -/
theorem syncEdge_first {s : State} {j : Nat} (hen : s.bit R.PWM_SYNC_CFG F.PWM_SYNC_CFG.IN_EN = true) (hj : syncTbs s = [j])
    (hoff : (s.tbOf j).syncOn = false) (hlast : (s.tbOf j).lastEdge = none) :
    syncEdge s = s.setTb j { s.tbOf j with lastEdge := some s.dt } := by
  have hw : syncInWindow s j = false := by
    unfold syncInWindow
    simp only [hlast]
  have hacc : ([j].filter fun j => (s.tbOf j).run).filter (syncInWindow s) = [] := by
    rw [List.filter_eq_nil_iff]
    intro k hk
    rw [List.mem_singleton.mp (List.mem_of_mem_filter hk), hw]
    exact Bool.false_ne_true
  have hmiss : ([j].filter fun j => (s.tbOf j).run).any (fun j => (s.tbOf j).lastEdge.isSome) = false := by
    rw [List.any_eq_false]
    intro k hk
    rw [List.mem_singleton.mp (List.mem_of_mem_filter hk), hlast]
    exact Bool.false_ne_true
  have hrem : ([j].filter fun j => !([] : List Nat).contains j && !(s.tbOf j).syncOn) = [j] := by
    rw [List.filter_eq_self]
    intro k hk
    rw [List.mem_singleton.mp hk, hoff]
    rfl
  rw [syncEdge_of_one hen hj, hacc]
  extract_lets acc missed x y
  rw [if_neg (by unfold missed; rw [hmiss, Bool.and_false]; exact Bool.false_ne_true)]
  unfold y x
  rw [hrem]
  rfl

/-- An edge outside every window of a timebase that tracks. -/
theorem syncEdge_missed {s : State} {j a : Nat} (hen : s.bit R.PWM_SYNC_CFG F.PWM_SYNC_CFG.IN_EN = true) (hj : syncTbs s = [j])
    (hrun : (s.tbOf j).run = true) (hon : (s.tbOf j).syncOn = true) (hlast : (s.tbOf j).lastEdge = some a)
    (hw : syncInWindow s j = false) : syncEdge s = s.incFld R.PWM_SYNC_STAT F.PWM_SYNC_STAT.MISSED 1 := by
  have hr : ([j].filter fun j => (s.tbOf j).run) = [j] := by
    rw [List.filter_eq_self]
    intro k hk
    rw [List.mem_singleton.mp hk, hrun]
  have hacc : [j].filter (syncInWindow s) = [] := by
    rw [List.filter_eq_nil_iff]
    intro k hk
    rw [List.mem_singleton.mp hk, hw]
    exact Bool.false_ne_true
  have hmiss : [j].any (fun j => (s.tbOf j).lastEdge.isSome) = true := by
    rw [List.any_cons, hlast]
    rfl
  have hrem : ([j].filter fun j => !([] : List Nat).contains j && !(s.tbOf j).syncOn) = [] := by
    rw [List.filter_eq_nil_iff]
    intro k hk
    rw [List.mem_singleton.mp hk, hon]
    exact Bool.false_ne_true
  rw [syncEdge_of_one hen hj, hr, hacc]
  extract_lets acc missed x y
  rw [if_pos (by unfold missed; rw [hmiss]; rfl)]
  unfold y x
  rw [hrem]
  rfl

/-- An edge in a window. -/
theorem syncEdge_accepted {s : State} {j : Nat} (hen : s.bit R.PWM_SYNC_CFG F.PWM_SYNC_CFG.IN_EN = true) (hj : syncTbs s = [j])
    (hrun : (s.tbOf j).run = true) (hw : syncInWindow s j = true) : syncEdge s = syncAccept j s := by
  have hr : ([j].filter fun j => (s.tbOf j).run) = [j] := by
    rw [List.filter_eq_self]
    intro k hk
    rw [List.mem_singleton.mp hk, hrun]
  have hacc : [j].filter (syncInWindow s) = [j] := by
    rw [List.filter_eq_self]
    intro k hk
    rw [List.mem_singleton.mp hk, hw]
  have hrem : ([j].filter fun k => !([j] : List Nat).contains k && !(s.tbOf k).syncOn) = [] := by
    rw [List.filter_eq_nil_iff]
    intro k hk
    rw [List.mem_singleton.mp hk, List.contains_iff_mem.mpr (List.mem_singleton_self j)]
    exact Bool.false_ne_true
  rw [syncEdge_of_one hen hj, hr, hacc]
  extract_lets acc missed x y
  rw [if_neg (by unfold missed; rw [List.isEmpty_cons, Bool.false_and]; exact Bool.false_ne_true)]
  unfold y x
  rw [hrem]
  rfl

theorem syncAccept_spec (j : Nat) (s : State) :
    ((syncAccept j s).tbOf j).syncOn = true ∧ ((syncAccept j s).tbOf j).lastEdge = some s.dt ∧
      ((syncAccept j s).tbOf j).found = some (s.dt + 2, syncErr s j s.dt) ∧
      (syncAccept j s).bit R.PWM_SYNC_STAT F.PWM_SYNC_STAT.LOST = false ∧ OnlyRegs [R.PWM_SYNC_STAT] s (syncAccept j s) ∧
      Alter (2 ^ 67 ||| 2 ^ 90) s (syncAccept j s) := by
  unfold syncAccept
  extract_lets err t x i
  have hx : x.tbOf j = { t with syncOn := true, lastEdge := some s.dt, found := some (s.dt + 2, err), locked := t.locked && err == 0 } :=
    State.tbOf_setTb ..
  have ax : Alter (2 ^ 67 ||| 2 ^ 90) s x := (alter_setTb ..).mono rfl
  have ox : OnlyRegs [R.PWM_SYNC_STAT] s x := .of_regs (State.setTb_regs ..)
  clear_value x
  generalize hy : (x.setSfld i F.PWM_SYNC_STAT.ERR err).setBit i F.PWM_SYNC_STAT.LOST false = y
  have hi : i = R.PWM_SYNC_STAT := rfl
  have ty : (showLocked y).tbOf j = x.tbOf j := State.tbOf_of_tb (by
    unfold showLocked
    rw [State.setBit_tb, ← hy, State.setBit_tb, State.setSfld_tb]) j
  have ay : Alter (2 ^ 67 ||| 2 ^ 90) s y := by
    rw [← hy]
    exact (ax.step (alter_setSfld ..) (rm_high (by decide) rfl)).step (alter_setBit ..) (rm_high (by decide) rfl)
  have oy : OnlyRegs [R.PWM_SYNC_STAT] s y := by
    rw [← hy]
    exact (ox.setFld _ _ (by decide)).setBit _ _ (by decide)
  have ly : y.bit R.PWM_SYNC_STAT F.PWM_SYNC_STAT.LOST = false := by rw [← hy, hi, State.bit_setBit_eq _ (by decide)]
  rw [ty, hx]
  exact ⟨rfl, rfl, rfl, (showLocked_bit (by decide) y).trans ly, oy.trans (showLocked_only y),
    ay.step (alter_showLocked' y) rfl⟩

/-- What the loss of SYNC_IN leaves of a timebase. -/
structure Drops (j : Nat) (s t : State) : Prop where
  off : (t.tbOf j).syncOn = false
  err : (t.tbOf j).err = 0
  found : (t.tbOf j).found = none
  edge : (t.tbOf j).lastEdge = none
  unlocked : (t.tbOf j).locked = false
  lost : t.bit R.PWM_SYNC_STAT F.PWM_SYNC_STAT.LOST = true
  flag : t.bit R.PWM_FLAGS F.PWM_FLAGS.SYNC_LOST = true
  logged : LogReady s → Logs EV.SYNC_LOST j s t
  only : OnlyRegs (logRegs ++ [R.PWM_SYNC_STAT, R.PWM_FLAGS]) s t
  rest : Alter (2 ^ 90 ||| 2 ^ 93 ||| evM) s t

theorem syncDrop_drops (j : Nat) {s : State} (hroom : noticesStand s < 256) : Drops j s (syncDrop j s) := by
  unfold syncDrop
  extract_lets t0 x y
  have hx : x.tbOf j = { t0 with syncOn := false, err := 0, found := none, lastEdge := none, locked := false } :=
    State.tbOf_setTb ..
  have ax : Alter (2 ^ 90 ||| 2 ^ 93 ||| evM) s x := (alter_setTb ..).mono rfl
  have ox : OnlyRegs (logRegs ++ [R.PWM_SYNC_STAT, R.PWM_FLAGS]) s x := .of_regs (State.setTb_regs ..)
  have ex : x.ev = s.ev := State.setTb_ev ..
  clear_value x
  have hy : y = showLocked (x.setBit R.PWM_SYNC_STAT F.PWM_SYNC_STAT.LOST true) := rfl
  have ty : y.tb = x.tb := by
    rw [hy]
    exact (State.setBit_tb ..).trans (State.setBit_tb ..)
  have ay : Alter (2 ^ 90 ||| 2 ^ 93 ||| evM) s y := by
    rw [hy]
    exact (ax.step (alter_setBit ..) (rm_high (by decide) rfl)).step (alter_showLocked' _) rfl
  have oy : OnlyRegs (logRegs ++ [R.PWM_SYNC_STAT, R.PWM_FLAGS]) s y := by
    rw [hy]
    exact (ox.setBit _ _ (by decide)).trans ((showLocked_only _).mono (by decide))
  have ly : y.bit R.PWM_SYNC_STAT F.PWM_SYNC_STAT.LOST = true := by
    rw [hy, showLocked_bit (by decide), State.bit_setBit_eq _ (by decide)]
  have ey : y.ev = s.ev := by
    rw [hy]
    exact ((State.setBit_ev ..).trans (State.setBit_ev ..)).trans ex
  clear_value y
  have hv := noticeSend_event (code := EV.SYNC_LOST) (s := y.setBit R.PWM_FLAGS F.PWM_FLAGS.SYNC_LOST true) j (by decide)
    (by rw [noticesStand_congr ((State.setBit_eng ..).trans (ay.eng rfl))]; exact hroom)
  rw [hv]
  generalize hz : (y.setBit R.PWM_FLAGS F.PWM_FLAGS.SYNC_LOST true).setXf 128
    { (y.setBit R.PWM_FLAGS F.PWM_FLAGS.SYNC_LOST true).xfOf 128 with run := false } = z
  have rz : z.regs = (y.setBit R.PWM_FLAGS F.PWM_FLAGS.SYNC_LOST true).regs := by rw [← hz, State.setXf_regs]
  have ez : z.ev = s.ev := by rw [← hz, State.setXf_ev, State.setBit_ev, ey]
  have az : Alter (2 ^ 90 ||| 2 ^ 93 ||| evM) s z := by
    rw [← hz]
    exact (ay.step (alter_setBit ..) (rm_high (by decide) rfl)).step (alter_setXf ..) rfl
  have tz : z.tbOf j = { t0 with syncOn := false, err := 0, found := none, lastEdge := none, locked := false } := by
    rw [← hx]
    exact State.tbOf_of_tb (by rw [← hz, State.setXf_tb, State.setBit_tb, ty]) j
  have tr : (z.raise EV.SYNC_LOST j []).tbOf j = z.tbOf j := State.tbOf_of_tb (State.raise_tb ..) j
  exact {
    off := by rw [tr, tz]
    err := by rw [tr, tz]
    found := by rw [tr, tz]
    edge := by rw [tr, tz]
    unlocked := by rw [tr, tz]
    lost := by
      rw [State.bit_raise _ _ _ (by decide), State.bit_of_reg (Alter.reg_of_regs rz _), State.bit_setBit_ne _ (by decide), ly]
    flag := by
      rw [State.bit_raise _ _ _ (by decide), State.bit_of_reg (Alter.reg_of_regs rz _), State.bit_setBit_eq _ (by decide)]
    logged := fun h => (State.raise_logs _ _ _ _ (h.congr (az.boot rfl) ez)).of_ev ez
    only := ((oy.setBit _ _ (by decide)).congr rz).raise _ _ _ (by decide)
    rest := az.step (alter_raise ..) rfl }

/-! ### The rows -/

theorem syncInEdge_missed {e j a : Nat} {s : State} (hen : s.bit R.PWM_SYNC_CFG F.PWM_SYNC_CFG.IN_EN = true)
    (hj : syncTbs s = [j]) (hrun : (s.tbOf j).run = true) (hlast : (s.tbOf j).lastEdge = some a) (hle : a ≤ (s.tick e).dt)
    (hon : (s.tbOf j).syncOn = true)
    (hout : ∀ i ∈ ([1, 2, 3] : List Nat), (s.tick e).dt + s.fld R.PWM_SYNC_CFG F.PWM_SYNC_CFG.TOL < a + i * (s.tbOf j).p ∨
      a + i * (s.tbOf j).p + s.fld R.PWM_SYNC_CFG F.PWM_SYNC_CFG.TOL < (s.tick e).dt) :
    syncEdge (s.tick e) = (s.tick e).incFld R.PWM_SYNC_STAT F.PWM_SYNC_STAT.MISSED 1 := by
  refine syncEdge_missed (s := s.tick e) hen hj hrun hon hlast ?_
  by_contra hw
  obtain ⟨k, hk, hlo, hhi⟩ := (syncInWindow_iff (s := s.tick e) hlast).mp (Bool.not_eq_false _ ▸ hw)
  rw [State.tick_tbOf, if_pos hon] at hk
  have := hout k hk
  rw [State.tick_tbOf, State.fld_tick] at hlo hhi
  omega

theorem syncInEdge_accepted {e j a : Nat} {s : State} (hen : s.bit R.PWM_SYNC_CFG F.PWM_SYNC_CFG.IN_EN = true)
    (hj : syncTbs s = [j]) (hrun : (s.tbOf j).run = true) (hlast : (s.tbOf j).lastEdge = some a) (hle : a ≤ (s.tick e).dt)
    (hin : ∃ i ∈ ([1, 2, 3] : List Nat), (i = 1 ∨ (s.tbOf j).syncOn = true) ∧
      a + i * (s.tbOf j).p ≤ (s.tick e).dt + s.fld R.PWM_SYNC_CFG F.PWM_SYNC_CFG.TOL ∧
      (s.tick e).dt ≤ a + i * (s.tbOf j).p + s.fld R.PWM_SYNC_CFG F.PWM_SYNC_CFG.TOL) :
    syncEdge (s.tick e) = syncAccept j (s.tick e) := by
  refine syncEdge_accepted (s := s.tick e) hen hj hrun ((syncInWindow_iff (s := s.tick e) hlast).mpr ?_)
  obtain ⟨i, hi, hor, hlo, hhi⟩ := hin
  refine ⟨i, ?_, ?_⟩
  · rw [State.tick_tbOf]
    split
    · exact hi
    · next hoff => exact List.mem_singleton.mpr (hor.resolve_right hoff)
  · rw [State.tick_tbOf, State.fld_tick]
    omega

theorem State.dt_until {s : State} (h : s.d0 = true) (d : Nat) : (s.until d).dt = max s.dt d := by
  have : (s.until d).dt = s.dt + (d - s.dt) := if_pos h
  rw [this]
  omega

theorem syncLost_one {s : State} {j : Nat} (hj : syncTbs s = [j]) (hrun : (s.tbOf j).run = true)
    (hon : (s.tbOf j).syncOn = true) (hd0 : s.d0 = true) :
    syncLost s = syncDrop j (s.until (syncEnd s j)) ∧ (s.until (syncEnd s j)).dt = max s.dt (syncEnd s j) := by
  have hdt : (s.until (syncEnd s j)).dt = max s.dt (syncEnd s j) := State.dt_until hd0 _
  have hone : ((syncTbs s).filter fun j => (s.tbOf j).run && (s.tbOf j).syncOn) = [j] := by
    rw [hj, List.filter_eq_self]
    intro k hk
    rw [List.mem_singleton.mp hk, hrun, hon]
    rfl
  have hdue : ([j].filter fun k => decide (syncEnd (s.until (syncEnd s j)) k ≤ (s.until (syncEnd s j)).dt)) = [j] := by
    rw [List.filter_eq_self]
    intro k hk
    rw [List.mem_singleton.mp hk, hdt]
    exact decide_eq_true (Nat.le_max_right _ _)
  refine ⟨?_, hdt⟩
  unfold syncLost
  rw [hone]
  change forEach ([j].filter fun k => decide (syncEnd (s.until (syncEnd s j)) k ≤ (s.until (syncEnd s j)).dt)) syncDrop
    (s.until (syncEnd s j)) = _
  rw [hdue]
  rfl

theorem answers_firstEdge (e : Nat) {j : Nat} {s : State} (hen : s.bit R.PWM_SYNC_CFG F.PWM_SYNC_CFG.IN_EN = true)
    (hj : syncTbs s = [j]) (hoff : (s.tbOf j).syncOn = false) (hlast : (s.tbOf j).lastEdge = none) :
     Answers (.syncInEdge e) s fun t =>
       (t.tbOf j).lastEdge = some t.dt ∧ (t.tbOf j).syncOn = false ∧ t = { s with el := t.el, dt := t.dt, tb := t.tb } := by
  refine .of_next (t := syncEdge (s.tick e)) rfl ?_
  rw [syncEdge_first (s := s.tick e) hen hj hoff hlast, State.tbOf_setTb]
  have ha : Alter (2 ^ 65 ||| 2 ^ 66 ||| 2 ^ 90) s ((s.tick e).setTb j { (s.tick e).tbOf j with lastEdge := some (s.tick e).dt }) :=
    ((alter_tick ..).mono rfl).step (alter_setTb ..) rfl
  exact ⟨congrArg some (State.setTb_dt ..).symm, hoff, ha.eq_patch⟩

theorem RegsOnly.of_alter {s t : State} (a : Alter (2 ^ 65 ||| 2 ^ 66 ||| 2 ^ 67) s t) : RegsOnly s t := a.eq_patch

theorem answers_missedEdge {e : Nat} {s : State} (h : syncEdge (s.tick e) = (s.tick e).incFld R.PWM_SYNC_STAT F.PWM_SYNC_STAT.MISSED 1) :
     Answers (.syncInEdge e) s fun t =>
       t.fld R.PWM_SYNC_STAT F.PWM_SYNC_STAT.MISSED =
         satInc F.PWM_SYNC_STAT.MISSED.width (s.fld R.PWM_SYNC_STAT F.PWM_SYNC_STAT.MISSED) 1 ∧
       RegsOnly s t ∧ OnlyRegs [R.PWM_SYNC_STAT] s t := by
  refine .of_next (t := syncEdge (s.tick e)) rfl ?_
  rw [h]
  have ha : Alter (2 ^ 65 ||| 2 ^ 66 ||| 2 ^ 67) s ((s.tick e).incFld R.PWM_SYNC_STAT F.PWM_SYNC_STAT.MISSED 1) :=
    ((alter_tick ..).mono rfl).step (alter_incFld ..) (rm_high (by decide) rfl)
  have hm := State.fld_incFld_eq (s := s.tick e) (i := R.PWM_SYNC_STAT) (f := F.PWM_SYNC_STAT.MISSED) 1 (by decide)
  have ho : OnlyRegs [R.PWM_SYNC_STAT] s ((s.tick e).incFld R.PWM_SYNC_STAT F.PWM_SYNC_STAT.MISSED 1) :=
    (OnlyRegs.tick e s).incFld _ _ (by decide)
  rw [State.fld_tick] at hm
  exact ⟨hm, RegsOnly.of_alter ha, ho⟩

theorem eq_of_alter_tb {s t : State} (a : Alter (2 ^ 65 ||| 2 ^ 66 ||| 2 ^ 67 ||| 2 ^ 90) s t) :
    t = { s with el := t.el, dt := t.dt, regs := t.regs, tb := t.tb } := a.eq_patch

theorem answers_acceptedEdge {e j : Nat} {s : State} (h : syncEdge (s.tick e) = syncAccept j (s.tick e)) :
     Answers (.syncInEdge e) s fun t =>
       (t.tbOf j).syncOn = true ∧ (t.tbOf j).lastEdge = some t.dt ∧
       (t.tbOf j).found = some (t.dt + 2, syncErr (s.tick e) j t.dt) ∧
       t.bit R.PWM_SYNC_STAT F.PWM_SYNC_STAT.LOST = false ∧ OnlyRegs [R.PWM_SYNC_STAT] s t ∧
       t = { s with el := t.el, dt := t.dt, regs := t.regs, tb := t.tb } := by
  refine .of_next (t := syncEdge (s.tick e)) rfl ?_
  rw [h]
  obtain ⟨hon, hedge, hfound, hlost, honly, ha⟩ := syncAccept_spec j (s.tick e)
  have hdt : (syncAccept j (s.tick e)).dt = (s.tick e).dt := ha.dt rfl
  have hs : Alter (2 ^ 65 ||| 2 ^ 66 ||| 2 ^ 67 ||| 2 ^ 90) s (syncAccept j (s.tick e)) :=
    ((alter_tick ..).mono rfl).and (ha.mono rfl)
  exact ⟨hon, by rw [hdt]; exact hedge, by rw [hdt]; exact hfound, hlost, honly, eq_of_alter_tb hs⟩

theorem answers_syncLost (e : Nat) {j : Nat} {s : State} (hj : syncTbs s = [j]) (hrun : (s.tbOf j).run = true)
    (hon : (s.tbOf j).syncOn = true) (hd0 : s.d0 = true) (hroom : noticesStand s < 256) :
     Answers (.syncLost e) s fun t =>
       (t.tbOf j).syncOn = false ∧ (t.tbOf j).err = 0 ∧ (t.tbOf j).found = none ∧ (t.tbOf j).lastEdge = none ∧
       (t.tbOf j).locked = false ∧
       t.dt = max (s.dt + e) ((s.tbOf j).lastEdge.getD 0 + 3 * (s.tbOf j).p + s.fld R.PWM_SYNC_CFG F.PWM_SYNC_CFG.TOL + 1) ∧
       t.bit R.PWM_SYNC_STAT F.PWM_SYNC_STAT.LOST = true ∧
       t.bit R.PWM_FLAGS F.PWM_FLAGS.SYNC_LOST = true ∧ (LogReady s → Logs EV.SYNC_LOST j s t) ∧
       OnlyRegs (logRegs ++ [R.PWM_SYNC_STAT, R.PWM_FLAGS]) s t ∧
       t = { s with el := t.el, dt := t.dt, regs := t.regs, ev := t.ev, rcd := t.rcd, tb := t.tb, meas := t.meas } := by
  refine .of_next (t := syncLost (s.tick e)) rfl ?_
  obtain ⟨heq, hdt⟩ := syncLost_one (s := s.tick e) hj hrun hon hd0
  rw [heq]
  have hnow : (s.tick e).dt = s.dt + e := if_pos hd0
  have hu : Alter (2 ^ 65 ||| 2 ^ 66) s ((s.tick e).until (syncEnd (s.tick e) j)) :=
    ((alter_tick ..).mono rfl).step (alter_tick ..) rfl
  have hregs : ((s.tick e).until (syncEnd (s.tick e) j)).regs = s.regs := hu.regs rfl
  rw [hnow] at hdt
  change _ = max _ ((s.tbOf j).lastEdge.getD 0 + 3 * (s.tbOf j).p + s.fld R.PWM_SYNC_CFG F.PWM_SYNC_CFG.TOL + 1) at hdt
  generalize (s.tick e).until (syncEnd (s.tick e) j) = u at *
  have hd := syncDrop_drops j (s := u) (by rw [noticesStand_congr (hu.eng rfl)]; exact hroom)
  have hs : Alter (2 ^ 65 ||| 2 ^ 66 ||| 2 ^ 90 ||| 2 ^ 93 ||| evM) s (syncDrop j u) := (hu.mono rfl).and (hd.rest.mono rfl)
  exact ⟨hd.off, hd.err, hd.found, hd.edge, hd.unlocked, (hd.rest.dt rfl).trans hdt, hd.lost, hd.flag,
    fun h => (hd.logged (h.congr (hu.boot rfl) (hu.ev rfl))).of_ev (hu.ev rfl), (OnlyRegs.of_regs hregs).trans hd.only, hs.eq_patch⟩

/-- Settles O19, row by row. -/
theorem syncInTracks : Obligations.SyncInTracks :=
  ⟨fun e s h => .of_next (t := syncEdge (s.tick e)) rfl (syncEdge_off (s := s.tick e) h),
    fun e _ _ hen hj hoff hlast => answers_firstEdge e hen hj hoff hlast,
    fun _ _ _ _ hen hj hrun hlast hle hon hout => answers_missedEdge (syncInEdge_missed hen hj hrun hlast hle hon hout),
    fun _ _ _ _ hen hj hrun hlast hle hin => answers_acceptedEdge (syncInEdge_accepted hen hj hrun hlast hle hin),
    fun e _ _ hj hrun hon hd0 hroom => answers_syncLost e hj hrun hon hd0 hroom⟩

end Sys2Proof.Machine
end

section
/-! SUPPORT. The operations of the charge sequencer: the registers each writes, and what it leaves of the session's status
and its record (R426 to R456). -/

namespace Sys2Proof.Machine

/-- The registers that the charge sequencer may write, beside the log's. -/
abbrev chargeRegs : List Nat := logRegs ++ [R.CHG_STAT, R.CHG_FLAGS, R.CHG_IRQ_STAT, R.CHG_SESSION, R.DCL_STAT]

/-- The fields of `CHG_STAT` that the run bits leave alone. -/
abbrev Fld.OfSession (f : Fld) : Prop :=
  Fld.Beside f F.CHG_STAT.FE_RUN ∧ Fld.Beside f F.CHG_STAT.DAB_RUN ∧ Fld.Beside f F.CHG_STAT.FOLLOW

/-! ### Slots -/

theorem dclSlots_only (s : State) : OnlyRegs [R.DCL_STAT] s (dclSlots s) := by
  unfold dclSlots
  extract_lets vb ib inh mode vref top ich was x1 d x2 x3 x4 x5 x6 x7 x8 x9 x10 iref
  have h1 : OnlyRegs [R.DCL_STAT] s x1 := (OnlyRegs.refl _ s).setFld _ _ (by decide)
  have h2 : x2.regs = x1.regs := by
    unfold x2
    split
    · rfl
    · rfl
  have h3 : x3.regs = x2.regs :=
    (alter_forEach (m := 2 ^ 88) _ _ x2 fun _ _ => (alter_setConv ..).mono rfl).regs rfl
  have h4 : x4.regs = x3.regs := State.setSp_regs ..
  have h5 : x5.regs = x4.regs := State.setSp_regs ..
  have h6 : x6.regs = x5.regs := State.setSp_regs ..
  have h7 : x7.regs = x6.regs := State.setSp_regs ..
  have h8 : x8.regs = x7.regs := State.setSp_regs ..
  have h9 : x9.regs = x8.regs := State.setSp_regs ..
  have h10 : x10.regs = x9.regs := State.setSp_regs ..
  clear_value x10 x9 x8 x7 x6 x5 x4 x3 x2 x1
  have h : x10.regs = x1.regs := by rw [h10, h9, h8, h7, h6, h5, h4, h3, h2]
  exact (h1.congr h).congr (State.setSp_regs ..)

theorem dclSlots_chg (s : State) : (dclSlots s).chg = s.chg := (alter_dclSlots s).chg rfl

/-- What the slots, the run bits and the enables leave. -/
structure KeepsSession (s t : State) : Prop where
  stat : ∀ f : Fld, Fld.OfSession f → t.fld R.CHG_STAT f = s.fld R.CHG_STAT f
  only : OnlyRegs [R.CHG_STAT, R.DCL_STAT] s t
  chg : t.chg = s.chg

theorem chgSlots_keeps (s : State) : KeepsSession s (chgSlots s) := by
  unfold chgSlots
  extract_lets run one ib vb x1 x2 x3 x4 x5 x6 x7 x8
  have h1 : x1.regs = s.regs := (alter_forEach (m := 2 ^ 88) _ _ s fun _ _ => (alter_setConv ..).mono rfl).regs rfl
  have c1 : x1.chg = s.chg := (alter_forEach (m := 2 ^ 88) _ _ s fun _ _ => (alter_setConv ..).mono rfl).chg rfl
  clear_value x1
  have h6 : x6.regs = x1.regs := by
    unfold x6 x5 x4 x3 x2
    rw [State.setSp_regs, State.setSp_regs, State.setSp_regs, State.setSp_regs, State.setSp_regs, State.setSp_regs]
  have c6 : x6.chg = x1.chg := by
    unfold x6 x5 x4 x3 x2
    rw [State.setSp_chg, State.setSp_chg, State.setSp_chg, State.setSp_chg, State.setSp_chg, State.setSp_chg]
  clear_value x6
  have h7 : ∀ f : Fld, Fld.OfSession f → x8.fld R.CHG_STAT f = s.fld R.CHG_STAT f := by
    intro f ⟨hfe, hdab, hfol⟩
    unfold x8 x7
    rw [State.fld_setBit_beside _ hfol, State.fld_setBit_beside _ hdab, State.fld_setBit_beside _ hfe,
      State.fld_of_reg (Alter.reg_of_regs (h6.trans h1) _)]
  have o8 : OnlyRegs [R.CHG_STAT, R.DCL_STAT] s x8 :=
    ((((OnlyRegs.of_regs h1).congr h6).setBit _ _ (by decide)).setBit _ _ (by decide)).setBit _ _ (by decide)
  have c8 : x8.chg = s.chg := by
    unfold x8 x7
    rw [State.setBit_chg, State.setBit_chg, State.setBit_chg, c6, c1]
  clear_value x8
  exact {
    stat := fun f hf => (State.fld_of_reg (dclSlots_only x8 _ (by decide)) f).trans (h7 f hf)
    only := o8.trans ((dclSlots_only x8).mono (by decide))
    chg := (dclSlots_chg x8).trans c8 }

/-! ### Session states -/

/-- A session's state after it has entered one. -/
structure Enters (st : Nat) (s t : State) : Prop where
  session : session t = st
  stat : ∀ f : Fld, Fld.Beside f F.CHG_STAT.SESSION → t.fld R.CHG_STAT f = s.fld R.CHG_STAT f
  only : OnlyRegs [R.CHG_STAT, R.CHG_IRQ_STAT] s t
  chg : t.chg = s.chg
  ev : t.ev = s.ev

theorem chgState_enters {st : Nat} (hst : st < 8) (s : State) : Enters st s (chgState st s) := by
  unfold chgState
  split
  · next h => exact ⟨h, fun _ _ => rfl, .refl _ _, rfl, rfl⟩
  · extract_lets x
    have hx : Enters st s x := by
      unfold x chgIrq
      exact {
        session := by
          unfold Machine.session
          rw [State.fld_setBit_ne _ (by decide), State.fld_setFld_eq _ (by decide)]
          exact Nat.mod_eq_of_lt hst
        stat := fun f hf => by rw [State.fld_setBit_ne _ (by decide), State.fld_setFld_beside _ hf]
        only := ((OnlyRegs.refl _ s).setFld _ _ (by decide)).setBit _ _ (by decide)
        chg := by rw [State.setBit_chg, State.setFld_chg]
        ev := by rw [State.setBit_ev, State.setFld_ev] }
    clear_value x
    split
    · unfold chgIrq
      exact {
        session := (State.fld_setBit_ne _ (by decide)).trans hx.session
        stat := fun f hf => (State.fld_setBit_ne _ (by decide)).trans (hx.stat f hf)
        only := hx.only.setBit _ _ (by decide)
        chg := (State.setBit_chg ..).trans hx.chg
        ev := (State.setBit_ev ..).trans hx.ev }
    · exact hx

/-- A session ended, or locked, with its cause. -/
structure Closes (st why : Nat) (s t : State) : Prop where
  session : session t = st
  why : why < 16 → t.fld R.CHG_STAT F.CHG_STAT.END_WHY = why
  only : OnlyRegs [R.CHG_STAT, R.CHG_IRQ_STAT, R.DCL_STAT] s t
  causes : t.chg.causes = []

theorem closes_of {st why : Nat} (hst : st < 8) {s u : State} (hu : u.fld R.CHG_STAT F.CHG_STAT.END_WHY = why % 2 ^ F.CHG_STAT.END_WHY.width)
    (ho : OnlyRegs [R.CHG_STAT, R.CHG_IRQ_STAT, R.DCL_STAT] s u) (hc : u.chg.causes = []) :
    Closes st why s (chgSlots (chgState st u)) := by
  have he := chgState_enters hst u
  have hk := chgSlots_keeps (chgState st u)
  exact {
    session := (hk.stat _ (by decide)).trans he.session
    why := fun h => by
      rw [hk.stat _ (by decide), he.stat _ (by decide), hu]
      exact Nat.mod_eq_of_lt h
    only := (ho.trans (he.only.mono (by decide))).trans (hk.only.mono (by decide))
    causes := by rw [hk.chg, he.chg, hc] }

theorem onChg_regs (f : Chg → Chg) (s : State) : (onChg f s).regs = s.regs := rfl

theorem onChg_chg (f : Chg → Chg) (s : State) : (onChg f s).chg = f s.chg := rfl

theorem setFollow_regs (on : Bool) (s : State) : (setFollow on s).regs = s.regs := rfl

/-- The cause with which a session closes. -/
theorem setEndWhy (why : Nat) (s : State) :
    (s.setFld R.CHG_STAT F.CHG_STAT.END_WHY why).fld R.CHG_STAT F.CHG_STAT.END_WHY = why % 2 ^ F.CHG_STAT.END_WHY.width ∧
      OnlyRegs [R.CHG_STAT, R.CHG_IRQ_STAT, R.DCL_STAT] s (s.setFld R.CHG_STAT F.CHG_STAT.END_WHY why) :=
  ⟨State.fld_setFld_eq _ (by decide), (OnlyRegs.refl _ s).setFld _ _ (by decide)⟩

theorem chgEnd_closes (why : Nat) (s : State) : Closes Ch.ended why s (chgEnd why s) := by
  obtain ⟨hwhy, honly⟩ := setEndWhy why s
  unfold chgEnd
  generalize s.setFld R.CHG_STAT F.CHG_STAT.END_WHY why = x at *
  extract_lets y
  have hr : (onChg (fun c => { c with causes := [], cur := 0, replug := false }) y).regs = x.regs :=
    (onChg_regs _ _).trans (setFollow_regs _ _)
  refine closes_of (by decide) ?_ (honly.congr hr) ?_
  · rw [State.fld_of_reg (Alter.reg_of_regs hr _), hwhy]
  · rw [onChg_chg]

theorem chgLock_closes (s : State) : Closes Ch.locked 3 s (chgLock s) := by
  obtain ⟨hwhy, honly⟩ := setEndWhy 3 s
  unfold chgLock
  generalize s.setFld R.CHG_STAT F.CHG_STAT.END_WHY 3 = x at *
  have hr : (onChg (fun c => { c with causes := [] }) x).regs = x.regs := onChg_regs _ _
  refine closes_of (by decide) ?_ (honly.congr hr) ?_
  · rw [State.fld_of_reg (Alter.reg_of_regs hr _), hwhy]
  · rw [onChg_chg]

/-! ### Handover and causes -/

theorem setVlink_flag {f : Fld} (hf : Fld.Beside f F.CHG_FLAGS.HO_DEV) (v : Nat) (s : State) :
    (setVlink v s).bit R.CHG_FLAGS f = s.bit R.CHG_FLAGS f := by
  unfold setVlink
  extract_lets x1 vref near d x2 c x3 x4
  have h1 : x1.bit R.CHG_FLAGS f = s.bit R.CHG_FLAGS f := State.bit_setFld_ne _ (by decide)
  have h2 : x2.regs = x1.regs := rfl
  clear_value x2 x1
  have h4 : x4.bit R.CHG_FLAGS f = x2.bit R.CHG_FLAGS f := by
    unfold x4
    split
    · have h3 : x3.regs = x2.regs := rfl
      clear_value x3
      rw [State.bit_setBit_ne _ (by decide), State.bit_setBit_beside _ hf]
      exact State.bit_of_reg (Alter.reg_of_regs h3 _) _
    · rfl
  clear_value x4
  rw [State.bit_of_reg (Alter.reg_of_regs (State.setSp_regs ..) _), h4, State.bit_of_reg (Alter.reg_of_regs h2 _), h1]

/-- What a cause or a handover leaves: the registers of the sequencer alone differ, and of its flags only HO_DEV. -/
structure KeepsFlags (s t : State) : Prop where
  only : OnlyRegs chargeRegs s t
  flags : ∀ f : Fld, Fld.Beside f F.CHG_FLAGS.HO_DEV → t.bit R.CHG_FLAGS f = s.bit R.CHG_FLAGS f

theorem KeepsFlags.refl (s : State) : KeepsFlags s s := ⟨.refl _ _, fun _ _ => rfl⟩

theorem KeepsFlags.trans {s t u : State} (h : KeepsFlags s t) (k : KeepsFlags t u) : KeepsFlags s u :=
  ⟨h.only.trans k.only, fun f hf => (k.flags f hf).trans (h.flags f hf)⟩

/-- An operation that writes no register of the sequencer's flags. -/
theorem KeepsFlags.of_only {l : List Nat} {s t : State} (h : OnlyRegs l s t) (hl : l ⊆ chargeRegs) (hf : R.CHG_FLAGS ∉ l) :
    KeepsFlags s t := ⟨h.mono hl, fun f _ => State.bit_of_reg (h _ hf) f⟩

theorem KeepsFlags.of_regs {s t : State} (h : t.regs = s.regs) : KeepsFlags s t :=
  .of_only (l := []) (.of_regs h) (by decide) (by decide)

theorem KeepsFlags.raise (t code subj : Nat) (vals : List (Nat × Nat)) (s : State) : KeepsFlags s (s.raiseAt t code subj vals) :=
  .of_only (l := logRegs) (fun i hi => State.raiseAt_reg t code subj vals s i hi) (by decide) (by decide)

theorem chgSlots_flags (s : State) : KeepsFlags s (chgSlots s) := .of_only (chgSlots_keeps s).only (by decide) (by decide)

theorem chgState_flags {st : Nat} (hst : st < 8) (s : State) : KeepsFlags s (chgState st s) :=
  .of_only (chgState_enters hst s).only (by decide) (by decide)

theorem chgEnd_flags (why : Nat) (s : State) : KeepsFlags s (chgEnd why s) := .of_only (chgEnd_closes why s).only (by decide) (by decide)

theorem chgLock_flags (s : State) : KeepsFlags s (chgLock s) := .of_only (chgLock_closes s).only (by decide) (by decide)

theorem chgIrq_flags (f : Fld) (s : State) : KeepsFlags s (chgIrq f s) :=
  .of_only (l := [R.CHG_IRQ_STAT]) ((OnlyRegs.refl _ s).setBit _ _ (by decide)) (by decide) (by decide)

theorem setVlink_flags (v : Nat) (s : State) : KeepsFlags s (setVlink v s) :=
  ⟨(setVlink_shows v s).only.mono (by decide), fun _ hf => setVlink_flag hf v s⟩

theorem handover_flags (st why : Nat) (s : State) : KeepsFlags s (handover st why s) := by
  unfold handover
  extract_lets x1 x2 x3
  have h1 : KeepsFlags s x1 := .of_regs ((onChg_regs _ _).trans (setFollow_regs _ _))
  have h2 : KeepsFlags s x2 := (h1.trans (chgState_flags (by decide) x1)).trans (chgIrq_flags _ _)
  have h3 : KeepsFlags s x3 := h2.trans (.raise _ _ _ _ _)
  exact (h3.trans (setVlink_flags _ _)).trans (chgSlots_flags _)

theorem chgCause_flags (st why : Nat) (s : State) : KeepsFlags s (chgCause st why s) := by
  unfold chgCause
  split
  · exact handover_flags _ _ _
  · split
    · exact .of_regs (onChg_regs _ _)
    · split
      · split
        · exact chgLock_flags s
        · exact chgEnd_flags _ s
      · exact .refl s

/-! ### Flags, temperatures, new sessions -/

theorem chgFlag_only (f : Fld) (s : State) : OnlyRegs [R.CHG_FLAGS, R.CHG_IRQ_STAT] s (chgFlag f s) :=
  ((OnlyRegs.refl _ s).setBit f _ (by decide)).setBit _ _ (by decide)

theorem chgFlag_set {f : Fld} (hf : Fld.Ok f) (s : State) : (chgFlag f s).bit R.CHG_FLAGS f = true := by
  unfold chgFlag chgIrq
  rw [State.bit_setBit_ne _ (by decide), State.bit_setBit_eq _ hf]

theorem chgFlag_ev (f : Fld) (s : State) : (chgFlag f s).ev = s.ev := (State.setBit_ev ..).trans (State.setBit_ev ..)

theorem chgFlag_boot (f : Fld) (s : State) : (chgFlag f s).boot = s.boot := (State.setBit_boot ..).trans (State.setBit_boot ..)

theorem chgFlag_chg (f : Fld) (s : State) : (chgFlag f s).chg = s.chg := (State.setBit_chg ..).trans (State.setBit_chg ..)

theorem chgFlag_dt (f : Fld) (s : State) : (chgFlag f s).dt = s.dt := (State.setBit_dt ..).trans (State.setBit_dt ..)

theorem chgPhase_only (p : Nat) (s : State) : OnlyRegs chargeRegs s (chgPhase p s) := by
  unfold chgPhase
  extract_lets x
  have hx : OnlyRegs chargeRegs s x := .of_regs (onChg_regs _ _)
  clear_value x
  split
  · exact hx
  · exact ((hx.setFld _ _ (by decide)).raise _ _ _ (by decide)).setBit _ _ (by decide)

theorem newSession_only (s : State) : OnlyRegs chargeRegs s (newSession s) := by
  unfold newSession
  extract_lets x1 x2 x3 x4 pre
  have h1 : OnlyRegs chargeRegs s x1 := (OnlyRegs.refl _ s).setFld _ _ (by decide)
  have h2 : OnlyRegs chargeRegs s x2 := (h1.setFld _ _ (by decide)).setFld _ _ (by decide)
  have h3 : OnlyRegs chargeRegs s x3 := h2.setFld _ _ (by decide)
  have h4 : OnlyRegs chargeRegs s x4 := h3.congr (onChg_regs _ _)
  exact (h4.trans (chgState_flags (by decide) x4).only).trans (chgPhase_only _ _)

theorem replug_only (st : Nat) (s : State) : OnlyRegs chargeRegs s (replug st s) := by
  unfold replug
  split
  · exact .of_regs (onChg_regs _ _)
  · split
    · exact newSession_only s
    · exact .refl _ _

end Sys2Proof.Machine
end

section
/-! SUPPORT. The handover's completion, the battery's temperature, the limits of a session, and the settling of O31 (R441 to
R450, R454). -/

namespace Sys2Proof.Machine

/-! ### The handover completes -/

/-- The state in which a handover that took too long has been told. -/
def handoverTold (s : State) : State :=
  let x := chgIrq F.CHG_IRQ_STAT.HANDOVER
    ((chgFlag F.CHG_FLAGS.HO_SLOW s).raise EV.CHG_HANDOVER_DONE 0xFF [(1, b2n true + 2 * b2n s.chg.dev)])
  onChg (fun c => { c with doneAt := x.dt }) x

/-- What the telling leaves. -/
structure TellsHandover (s t : State) : Prop where
  slow : t.bit R.CHG_FLAGS F.CHG_FLAGS.HO_SLOW = true
  session : session t = session s
  logged : LogReady s → Logs EV.CHG_HANDOVER_DONE 0xFF s t
  dt : t.dt = s.dt

theorem handoverTold_tells (s : State) : TellsHandover s (handoverTold s) := by
  unfold handoverTold
  extract_lets x
  have hslow : x.bit R.CHG_FLAGS F.CHG_FLAGS.HO_SLOW = true := by
    unfold x chgIrq
    rw [State.bit_setBit_ne _ (by decide), State.bit_raise _ _ _ (by decide), chgFlag_set (by decide)]
  have hs : session x = session s := by
    unfold x chgIrq session
    rw [State.fld_setBit_ne _ (by decide), State.fld_raise _ _ _ (by decide), State.fld_of_reg (chgFlag_only _ s _ (by decide))]
  have hl : LogReady s → Logs EV.CHG_HANDOVER_DONE 0xFF s x := fun h =>
    ((State.raise_logs _ _ _ _ (h.congr (chgFlag_boot _ s) (chgFlag_ev _ s))).of_ev (chgFlag_ev _ s)).to_ev (State.setBit_ev ..)
  have hd : x.dt = s.dt := by
    unfold x chgIrq
    rw [State.setBit_dt, State.raise_dt, chgFlag_dt]
  clear_value x
  exact ⟨hslow, hs, fun h => (hl h).to_ev rfl, hd⟩

/-- A handover that took too long ends in the row of R441 that its causes name. -/
theorem handoverDone_slow (s : State) : handoverDone true s =
    if s.chg.causes.contains 3 then chgLock (handoverTold s)
    else match s.chg.causes.find? (· != 15) with
      | some w => chgEnd w (handoverTold s)
      | none => chgSlots (chgState Ch.suspend (onChg (fun c => { c with causes := [] }) (handoverTold s))) := by
  unfold handoverDone
  rw [if_pos rfl]
  rfl

/-- The deadline of a handover. -/
theorem handoverDeadline_eq {s : State} (h : session s = Ch.handover) :
    handoverDeadline s = handoverDone true (s.until (s.chg.s + 4000000)) := if_pos h

/-- What the deadline of a handover leaves before the row of R441 decides. -/
theorem handoverTold_at (e : Nat) (s : State) :
    ∃ u, u = handoverTold ((s.tick e).until (s.chg.s + 4000000)) ∧ u.bit R.CHG_FLAGS F.CHG_FLAGS.HO_SLOW = true ∧
      (LogReady s → Logs EV.CHG_HANDOVER_DONE 0xFF s u) ∧ (s.d0 = true → u.dt = max (s.dt + e) (s.chg.s + 4000000)) := by
  have ht := handoverTold_tells ((s.tick e).until (s.chg.s + 4000000))
  exact ⟨_, rfl, ht.slow, ht.logged, fun hd0 => ht.dt.trans (State.until_dt hd0 _ _)⟩

/-- Without a cause the session is suspended. -/
theorem handover_suspends (e : Nat) {s : State} (h : session s = Ch.handover) (hc : s.chg.causes = []) :
     Answers (.handoverDeadline e) s fun t =>
       session t = Ch.suspend ∧
       t.bit R.CHG_FLAGS F.CHG_FLAGS.HO_SLOW = true ∧
       (s.d0 = true → t.dt = max (s.dt + e) (s.chg.s + 4000000)) ∧
       (s.plant = none → (LogReady s → Logs EV.CHG_HANDOVER_DONE 0xFF s t)) := by
  obtain ⟨u, hu, hslow, hlog, hdt⟩ := handoverTold_at e s
  have heq : handoverDeadline (s.tick e) = chgSlots (chgState Ch.suspend (onChg (fun c => { c with causes := [] }) u)) := by
    have hc' : ((s.tick e).until (s.chg.s + 4000000)).chg.causes = [] := hc
    rw [handoverDeadline_eq (s := s.tick e) h, State.tick_chg, handoverDone_slow, hc', hu]
    rfl
  refine .of_next (t := handoverDeadline (s.tick e)) rfl ?_
  rw [heq]
  have hr : (onChg (fun c => { c with causes := [] }) u).regs = u.regs := onChg_regs _ _
  have hd : (onChg (fun c => { c with causes := [] }) u).dt = u.dt := rfl
  have hev : (onChg (fun c => { c with causes := [] }) u).ev = u.ev := rfl
  generalize onChg (fun c => { c with causes := [] }) u = v at *
  have he := chgState_enters (st := Ch.suspend) (by decide) v
  have hk := chgSlots_keeps (chgState Ch.suspend v)
  have hf := ((chgState_flags (st := Ch.suspend) (by decide) v).trans (chgSlots_flags _)).flags F.CHG_FLAGS.HO_SLOW (by decide)
  have ha : Alter (2 ^ 67 ||| 2 ^ 88 ||| 2 ^ 94 ||| 2 ^ 97) v (chgSlots (chgState Ch.suspend v)) :=
    ((alter_chgState ..).mono rfl).and ((alter_chgSlots ..).mono rfl)
  exact ⟨(hk.stat _ (by decide)).trans he.session, hf.trans ((State.bit_of_reg (Alter.reg_of_regs hr _) _).trans hslow),
    fun hd0 => (ha.dt rfl).trans (hd.trans (hdt hd0)), fun _ hl => (hlog hl).to_ev ((ha.ev rfl).trans hev)⟩

/-- With one cause the session ends by it. -/
theorem handover_ends (e : Nat) {w : Nat} {s : State} (h : session s = Ch.handover) (hc : s.chg.causes = [w]) (hw : w < 15)
    (h3 : w ≠ 3) :
     Answers (.handoverDeadline e) s fun t =>
       session t = Ch.ended ∧
       t.fld R.CHG_STAT F.CHG_STAT.END_WHY = w ∧
       t.bit R.CHG_FLAGS F.CHG_FLAGS.HO_SLOW = true ∧
       t.chg.causes = [] := by
  obtain ⟨u, hu, hslow, -, -⟩ := handoverTold_at e s
  have heq : handoverDeadline (s.tick e) = chgEnd w u := by
    have hc' : ((s.tick e).until (s.chg.s + 4000000)).chg.causes = [w] := hc
    have hn : ([w] : List Nat).contains 3 = false := by
      rw [List.contains_eq_mem, decide_eq_false]
      exact fun hm => h3 (List.mem_singleton.mp hm).symm
    have hfind : ([w] : List Nat).find? (· != 15) = some w := List.find?_cons_of_pos (bne_iff_ne.mpr (by omega))
    rw [handoverDeadline_eq (s := s.tick e) h, State.tick_chg, handoverDone_slow, hc', hn, hfind, hu]
    rfl
  refine .of_next (t := handoverDeadline (s.tick e)) rfl ?_
  rw [heq]
  have hx := chgEnd_closes w u
  exact ⟨hx.session, hx.why (by omega), ((chgEnd_flags w u).flags _ (by decide)).trans hslow, hx.causes⟩

/-- A thermal timeout during the handover locks the session. -/
theorem handover_locks (e : Nat) {s : State} (h : session s = Ch.handover) (hc : s.chg.causes = [3]) :
     Answers (.handoverDeadline e) s fun t =>
       session t = Ch.locked ∧
       t.fld R.CHG_STAT F.CHG_STAT.END_WHY = 3 ∧
       t.bit R.CHG_FLAGS F.CHG_FLAGS.HO_SLOW = true := by
  obtain ⟨u, hu, hslow, -, -⟩ := handoverTold_at e s
  have heq : handoverDeadline (s.tick e) = chgLock u := by
    have hc' : ((s.tick e).until (s.chg.s + 4000000)).chg.causes = [3] := hc
    rw [handoverDeadline_eq (s := s.tick e) h, State.tick_chg, handoverDone_slow, hc', hu]
    rfl
  refine .of_next (t := handoverDeadline (s.tick e)) rfl ?_
  rw [heq]
  have hx := chgLock_closes u
  exact ⟨hx.session, hx.why (by decide), ((chgLock_flags u).flags _ (by decide)).trans hslow⟩

theorem suspendExpiry_ends (e : Nat) {s : State} (h : session s = Ch.suspend) (hr : s.chg.replug = false) :
     Answers (.suspendExpiry e) s fun t =>
       session t = Ch.ended ∧
       t.fld R.CHG_STAT F.CHG_STAT.END_WHY = 6 ∧
       (s.d0 = true → t.dt = max (s.dt + e) (s.chg.s + 12000000000)) := by
  have heq : suspendExpiry (s.tick e) = chgEnd 6 ((s.tick e).until (s.chg.s + 12000000000)) := by
    unfold suspendExpiry
    rw [if_pos ⟨h, by rw [State.tick_chg, hr]; rfl⟩, State.tick_chg]
  refine .of_next (t := suspendExpiry (s.tick e)) rfl ?_
  rw [heq]
  have hx := chgEnd_closes 6 ((s.tick e).until (s.chg.s + 12000000000))
  exact ⟨hx.session, hx.why (by decide), fun hd0 => ((alter_chgEnd ..).dt rfl).trans (State.until_dt hd0 _ _)⟩

/-! ### The battery's temperature -/

/-- A missed or invalid temperature. -/
structure LosesTemp (s t : State) : Prop where
  off : t.bit R.CHG_STAT F.CHG_STAT.TBAT_OK = false
  flag : t.bit R.CHG_FLAGS F.CHG_FLAGS.TBAT = true
  logged : LogReady s → Logs EV.CHG_TBAT 0xFF s t
  only : OnlyRegs (logRegs ++ [R.CHG_STAT, R.CHG_FLAGS, R.CHG_IRQ_STAT]) s t
  rest : Alter evM s t

theorem tempLost_loses (s : State) : LosesTemp s (tempLost s) := by
  unfold tempLost
  generalize hx : s.setBit R.CHG_STAT F.CHG_STAT.TBAT_OK false = x
  have hoff : x.bit R.CHG_STAT F.CHG_STAT.TBAT_OK = false := by rw [← hx, State.bit_setBit_eq _ (by decide)]
  have hox : OnlyRegs (logRegs ++ [R.CHG_STAT, R.CHG_FLAGS, R.CHG_IRQ_STAT]) s x := by
    rw [← hx]
    exact (OnlyRegs.refl _ s).setBit _ _ (by decide)
  have hev : (chgFlag F.CHG_FLAGS.TBAT x).ev = s.ev := by rw [chgFlag_ev, ← hx, State.setBit_ev]
  have hboot : (chgFlag F.CHG_FLAGS.TBAT x).boot = s.boot := by rw [chgFlag_boot, ← hx, State.setBit_boot]
  have hax : Alter evM s x := by
    rw [← hx]
    exact (alter_setBit ..).mono (rm_high (by decide) rfl)
  exact {
    off := by rw [State.bit_raise _ _ _ (by decide), State.bit_of_reg (chgFlag_only _ x _ (by decide)), hoff]
    flag := by rw [State.bit_raise _ _ _ (by decide), chgFlag_set (by decide)]
    logged := fun h => (State.raise_logs _ _ _ _ (h.congr hboot hev)).of_ev hev
    only := (hox.trans ((chgFlag_only _ x).mono (by decide))).raise _ _ _ (by decide)
    rest := (hax.step (alter_chgFlag ..) rfl).step (alter_raise ..) rfl }

theorem logsOnly_beside_chg {s t : State} (ha : Alter (2 ^ 65 ||| 2 ^ 66 ||| 2 ^ 98 ||| evM) s t) : LogsOnly s { t with chg := s.chg } := by
  have : Alter (2 ^ 65 ||| 2 ^ 66 ||| 2 ^ 98 ||| evM) s { t with chg := s.chg } := ha.step (alter_chg ..) rfl
  have he := this.eq_patch
  exact he

theorem tbat_missed (e : Nat) {s : State} (h : s.fld R.CHG_CFG F.CHG_CFG.TSRC = 0) :
     Answers (.chgTbat e) s fun t =>
       t.bit R.CHG_STAT F.CHG_STAT.TBAT_OK = false ∧ t.bit R.CHG_FLAGS F.CHG_FLAGS.TBAT = true ∧
       (s.d0 = true → t.dt = max (s.dt + e) (s.chg.tbatAt + 20000000 * s.fld R.CHG_CFG F.CHG_CFG.TTMO)) ∧
       (LogReady s → Logs EV.CHG_TBAT 0xFF s t) ∧ t.chg = { s.chg with tbatAt := t.dt } ∧
       LogsOnly s { t with chg := s.chg } ∧ OnlyRegs (logRegs ++ [R.CHG_STAT, R.CHG_FLAGS, R.CHG_IRQ_STAT]) s t := by
  refine .of_next (t := tbatMissed (s.tick e)) rfl ?_
  have hu : Alter (2 ^ 65 ||| 2 ^ 66) s ((s.tick e).until (s.chg.tbatAt + 20000000 * s.fld R.CHG_CFG F.CHG_CFG.TTMO)) :=
    ((alter_tick ..).mono rfl).step (alter_tick ..) rfl
  have hdt : s.d0 = true → ((s.tick e).until (s.chg.tbatAt + 20000000 * s.fld R.CHG_CFG F.CHG_CFG.TTMO)).dt =
      max (s.dt + e) (s.chg.tbatAt + 20000000 * s.fld R.CHG_CFG F.CHG_CFG.TTMO) := fun h => State.until_dt h _ _
  have heq : tbatMissed (s.tick e) =
      (fun u : State => tempLost (onChg (fun c => { c with tbatAt := u.dt }) u))
        ((s.tick e).until (s.chg.tbatAt + 20000000 * s.fld R.CHG_CFG F.CHG_CFG.TTMO)) := by
    unfold tbatMissed
    rw [if_neg (by rw [State.fld_tick, h]; exact fun hn => hn rfl)]
    rfl
  rw [heq]
  generalize (s.tick e).until (s.chg.tbatAt + 20000000 * s.fld R.CHG_CFG F.CHG_CFG.TTMO) = u at *
  beta_reduce
  have hv : Alter (2 ^ 65 ||| 2 ^ 66 ||| 2 ^ 98) s (onChg (fun c => { c with tbatAt := u.dt }) u) :=
    (hu.mono rfl).step (alter_onChg ..) rfl
  have hc : (onChg (fun c => { c with tbatAt := u.dt }) u).chg = { s.chg with tbatAt := u.dt } := by
    rw [onChg_chg, hu.chg rfl]
  have hd : (onChg (fun c => { c with tbatAt := u.dt }) u).dt = u.dt := rfl
  generalize onChg (fun c => { c with tbatAt := u.dt }) u = v at *
  have hl := tempLost_loses v
  have ht : Alter (2 ^ 65 ||| 2 ^ 66 ||| 2 ^ 98 ||| evM) s (tempLost v) := (hv.mono rfl).step hl.rest rfl
  have htd : (tempLost v).dt = u.dt := (hl.rest.dt rfl).trans hd
  exact ⟨hl.off, hl.flag, fun h => htd.trans (hdt h), fun h => (hl.logged (h.congr (hv.boot rfl) (hv.ev rfl))).of_ev (hv.ev rfl),
    by rw [htd, hl.rest.chg rfl, hc], logsOnly_beside_chg ht, (OnlyRegs.of_regs (hv.regs rfl)).trans hl.only⟩

theorem batteryNtc_bad (e : Nat) {uv : Nat} {s : State} (h : s.fld R.CHG_CFG F.CHG_CFG.TSRC = 1) (hbad : uv < 50000 ∨ 4050000 < uv) :
     Answers (.batteryNtcEval e uv) s fun t =>
       t.bit R.CHG_STAT F.CHG_STAT.TBAT_OK = false ∧ t.bit R.CHG_FLAGS F.CHG_FLAGS.TBAT = true ∧ (LogReady s →
         Logs EV.CHG_TBAT 0xFF s t) := by
  refine .of_next (t := batteryNtc uv (s.tick e)) rfl ?_
  have heq : batteryNtc uv (s.tick e) = tempLost (s.tick e) := by
    unfold batteryNtc
    rw [if_neg (by rw [State.fld_tick, h]; exact fun hn => hn rfl), if_pos hbad]
  rw [heq]
  have hl := tempLost_loses (s.tick e)
  exact ⟨hl.off, hl.flag, hl.logged⟩

/-- A new valid temperature. -/
structure TakesTemp (x : Int) (s t : State) : Prop where
  ok : t.bit R.CHG_STAT F.CHG_STAT.TBAT_OK = true
  at_ : t.chg.tbatAt = s.dt
  tbat : t.chg.tbat = some x
  el : t.el = s.el
  dt : t.dt = s.dt
  only : OnlyRegs (logRegs ++ [R.CHG_STAT, R.CHG_IRQ_STAT]) s t

theorem newTemp_takes (x : Int) (s : State) : TakesTemp x s (newTemp x s) := by
  have ha := alter_newTemp x s
  have hc : (newTemp x s).bit R.CHG_STAT F.CHG_STAT.TBAT_OK = true ∧ (newTemp x s).chg.tbatAt = s.dt ∧
      (newTemp x s).chg.tbat = some x ∧ OnlyRegs (logRegs ++ [R.CHG_STAT, R.CHG_IRQ_STAT]) s (newTemp x s) := by
    unfold newTemp
    extract_lets z was u v
    have hu : u.chg = { s.chg with tbat := some x, tbatAt := s.dt, first := false } := onChg_chg _ _
    have hur : u.regs = s.regs := onChg_regs _ _
    clear_value u
    have hv : v.bit R.CHG_STAT F.CHG_STAT.TBAT_OK = true := by
      unfold v
      rw [State.bit_setFld_beside _ (by decide), State.bit_setBit_eq _ (by decide)]
    have hvc : v.chg = u.chg := (State.setFld_chg ..).trans (State.setBit_chg ..)
    have hvo : OnlyRegs (logRegs ++ [R.CHG_STAT, R.CHG_IRQ_STAT]) s v :=
      ((OnlyRegs.of_regs hur).setBit _ _ (by decide)).setFld _ _ (by decide)
    clear_value v
    split
    · exact ⟨hv, by rw [hvc, hu], by rw [hvc, hu], hvo⟩
    · unfold chgIrq
      refine ⟨?_, ?_, ?_, (hvo.raise _ _ _ (by decide)).setBit _ _ (by decide)⟩
      · rw [State.bit_setBit_ne _ (by decide), State.bit_raise _ _ _ (by decide), hv]
      · rw [State.setBit_chg, State.raise_chg, hvc, hu]
      · rw [State.setBit_chg, State.raise_chg, hvc, hu]
  obtain ⟨hok, hat, htb, ho⟩ := hc
  exact ⟨hok, hat, htb, ha.el rfl, ha.dt rfl, ho⟩

theorem batteryNtc_good (e : Nat) {uv : Nat} {s : State} (h : s.fld R.CHG_CFG F.CHG_CFG.TSRC = 1) (hlo : 50000 ≤ uv) (hhi : uv ≤ 4050000) :
     Answers (.batteryNtcEval e uv) s fun t =>
       t.bit R.CHG_STAT F.CHG_STAT.TBAT_OK = true ∧ t.chg.tbatAt = t.dt ∧ Passes e s t ∧
       t.chg.tbat = some (ntcTemp (100 * s.fld R.CHG_NTC F.CHG_NTC.RPU * uv) (4096000 - uv) (10 * s.fld R.CHG_NTC F.CHG_NTC.RES25)
       (s.fld R.CHG_NTC F.CHG_NTC.BETA)) ∧
       OnlyRegs (logRegs ++ [R.CHG_STAT, R.CHG_IRQ_STAT]) s t := by
  refine .of_next (t := batteryNtc uv (s.tick e)) rfl ?_
  have heq : batteryNtc uv (s.tick e) = newTemp (ntcTemp (100 * s.fld R.CHG_NTC F.CHG_NTC.RPU * uv) (4096000 - uv)
      (10 * s.fld R.CHG_NTC F.CHG_NTC.RES25) (s.fld R.CHG_NTC F.CHG_NTC.BETA)) (s.tick e) := by
    unfold batteryNtc
    rw [State.fld_tick, State.fld_tick, State.fld_tick, State.fld_tick, if_neg (by rw [h]; exact fun hn => hn rfl), if_neg (by omega)]
  rw [heq]
  have ht := newTemp_takes (ntcTemp (100 * s.fld R.CHG_NTC F.CHG_NTC.RPU * uv) (4096000 - uv)
    (10 * s.fld R.CHG_NTC F.CHG_NTC.RES25) (s.fld R.CHG_NTC F.CHG_NTC.BETA)) (s.tick e)
  exact ⟨ht.ok, ht.at_.trans ht.dt.symm, passes_of_tick ht.el ht.dt, ht.tbat, ht.only⟩

/-! ### The clock of a session -/

/-- What bringing the clock up leaves. -/
structure KeepsClock (s t : State) : Prop where
  stat : ∀ f : Fld, t.fld R.CHG_STAT f = s.fld R.CHG_STAT f
  causes : t.chg.causes = s.chg.causes
  began : t.chg.began = s.chg.began
  ev : t.ev = s.ev
  boot : t.boot = s.boot

theorem KeepsClock.trans {s t u : State} (h : KeepsClock s t) (k : KeepsClock t u) : KeepsClock s u :=
  ⟨fun f => (k.stat f).trans (h.stat f), k.causes.trans h.causes, k.began.trans h.began, k.ev.trans h.ev, k.boot.trans h.boot⟩

theorem tick_keepsClock (e : Nat) (s : State) : KeepsClock s (s.tick e) := ⟨fun _ => rfl, rfl, rfl, rfl, rfl⟩

theorem chgClock_keeps (s : State) : KeepsClock s (chgClock s) := by
  unfold chgClock
  extract_lets d runs run x
  have hx : KeepsClock s x := ⟨fun _ => State.fld_of_reg (Alter.reg_of_regs (onChg_regs _ _) _) _, rfl, rfl, rfl, rfl⟩
  clear_value x
  exact {
    stat := fun f => (State.fld_setFld_ne _ (by decide)).trans (hx.stat f)
    causes := by rw [State.setFld_chg, hx.causes]
    began := by rw [State.setFld_chg, hx.began]
    ev := by rw [State.setFld_ev, hx.ev]
    boot := by rw [State.setFld_boot, hx.boot] }

theorem clockRuns_congr {s t : State} (h : KeepsClock s t) : clockRuns t = clockRuns s := by
  unfold clockRuns session
  rw [h.began, h.stat, h.stat]

/-- The state in which the clock has reached its limit. -/
def clockOut (s : State) : State := chgClock ((chgClock s).until ((chgClock s).dt + (clockLimit (chgClock s) - (chgClock s).chg.clock)))

theorem clockOut_keeps (s : State) : KeepsClock s (clockOut s) :=
  ((chgClock_keeps s).trans (tick_keepsClock _ _)).trans (chgClock_keeps _)

theorem chgTimeout_eq {s : State} (hrun : clockRuns s = true) (h2 : s.chg.causes.contains 2 = false)
    (h3 : s.chg.causes.contains 3 = false) :
    chgTimeout s =
      (let u := clockOut s
       let therm := u.bit R.CHG_STAT F.CHG_STAT.THERM_LIM
       let v := if therm then (chgFlag F.CHG_FLAGS.TIMEOUT_THERMAL u).raise EV.CHG_TIMEOUT_THERMAL 0xFF []
         else (chgFlag F.CHG_FLAGS.TIMEOUT u).raise EV.CHG_TIMEOUT 0xFF []
       chgCause v.dt (if therm then 3 else 2) v) := by
  have hk := chgClock_keeps s
  have hn : ¬ (!clockRuns (chgClock s) || (chgClock s).chg.causes.contains 2 || (chgClock s).chg.causes.contains 3) = true := by
    rw [clockRuns_congr hk, hk.causes, hrun, h2, h3]
    exact Bool.false_ne_true
  unfold chgTimeout
  exact if_neg hn

/-- A flag of the sequencer told with an event. -/
theorem chgTold {f : Fld} (hf : Fld.Ok f) (hho : Fld.Beside f F.CHG_FLAGS.HO_DEV) (code st why : Nat) (s : State) :
    (chgCause st why ((chgFlag f s).raise code 0xFF [])).bit R.CHG_FLAGS f = true ∧
      (LogReady s → Logs code 0xFF s (chgCause st why ((chgFlag f s).raise code 0xFF []))) := by
  constructor
  · rw [(chgCause_flags st why _).flags f hho, State.bit_raise _ _ _ (by decide), chgFlag_set hf]
  · intro h
    have hl := (State.raise_logs code 0xFF [] _ (h.congr (chgFlag_boot f s) (chgFlag_ev f s))).of_ev (chgFlag_ev f s)
    refine hl.grows ?_ ((alter_chgCause ..).evGrows rfl)
    rw [← chgFlag_ev f s]
    exact (alter_raise ..).evGrows rfl

theorem clockRuns_of {s : State} (hs : session s = Ch.run ∨ session s = Ch.suspend) (hb : s.chg.began = true)
    (hp : s.fld R.CHG_STAT F.CHG_STAT.PHASE ≠ 4) : clockRuns s = true := by
  unfold clockRuns
  rw [hb, bne_iff_ne.mpr hp]
  rcases hs with h | h <;> rw [h] <;> rfl

theorem chgTimeout_runs (e : Nat) {s : State} (hs : session s = Ch.run) (hb : s.chg.began = true)
    (hp : s.fld R.CHG_STAT F.CHG_STAT.PHASE ≠ 4) (h2 : s.chg.causes.contains 2 = false) (h3 : s.chg.causes.contains 3 = false)
    (ht : s.bit R.CHG_STAT F.CHG_STAT.THERM_LIM = false) :
     Answers (.chgTimeout e) s fun t =>
       t.bit R.CHG_FLAGS F.CHG_FLAGS.TIMEOUT = true ∧ (LogReady s → Logs EV.CHG_TIMEOUT 0xFF s t) := by
  refine .of_next (t := chgTimeout (s.tick e)) rfl ?_
  rw [chgTimeout_eq (s := s.tick e) (clockRuns_of (.inl hs) hb hp) h2 h3]
  have hk := (tick_keepsClock e s).trans (clockOut_keeps (s.tick e))
  generalize clockOut (s.tick e) = u at hk ⊢
  have htu : u.bit R.CHG_STAT F.CHG_STAT.THERM_LIM = false := (congrArg (· != 0) (hk.stat _)).trans ht
  dsimp only
  rw [htu]
  simp -implicitDefEqProofs only [Bool.false_eq_true, if_false]
  obtain ⟨hf, hl⟩ := chgTold (f := F.CHG_FLAGS.TIMEOUT) (by decide) (by decide) EV.CHG_TIMEOUT
    ((chgFlag F.CHG_FLAGS.TIMEOUT u).raise EV.CHG_TIMEOUT 0xFF []).dt 2 u
  exact ⟨hf, fun h => (hl (h.congr hk.boot hk.ev)).of_ev hk.ev⟩

theorem chgTimeout_suspended (e : Nat) {s : State} (hs : session s = Ch.suspend) (hb : s.chg.began = true)
    (hp : s.fld R.CHG_STAT F.CHG_STAT.PHASE ≠ 4) (h2 : s.chg.causes.contains 2 = false) (h3 : s.chg.causes.contains 3 = false)
    (ht : s.bit R.CHG_STAT F.CHG_STAT.THERM_LIM = true) :
     Answers (.chgTimeout e) s fun t =>
       t.bit R.CHG_FLAGS F.CHG_FLAGS.TIMEOUT_THERMAL = true ∧
       session t = Ch.locked ∧
       t.fld R.CHG_STAT F.CHG_STAT.END_WHY = 3 ∧
       (s.plant = none → (LogReady s → Logs EV.CHG_TIMEOUT_THERMAL 0xFF s t)) := by
  refine .of_next (t := chgTimeout (s.tick e)) rfl ?_
  rw [chgTimeout_eq (s := s.tick e) (clockRuns_of (.inr hs) hb hp) h2 h3]
  have hk := (tick_keepsClock e s).trans (clockOut_keeps (s.tick e))
  generalize clockOut (s.tick e) = u at hk ⊢
  have htu : u.bit R.CHG_STAT F.CHG_STAT.THERM_LIM = true := (congrArg (· != 0) (hk.stat _)).trans ht
  dsimp only
  rw [htu]
  simp -implicitDefEqProofs only [if_true]
  have hsv : session ((chgFlag F.CHG_FLAGS.TIMEOUT_THERMAL u).raise EV.CHG_TIMEOUT_THERMAL 0xFF []) = Ch.suspend := by
    unfold session
    rw [State.fld_raise _ _ _ (by decide), State.fld_of_reg (chgFlag_only _ u _ (by decide)), hk.stat]
    exact hs
  obtain ⟨hf, hl⟩ := chgTold (f := F.CHG_FLAGS.TIMEOUT_THERMAL) (by decide) (by decide) EV.CHG_TIMEOUT_THERMAL
    ((chgFlag F.CHG_FLAGS.TIMEOUT_THERMAL u).raise EV.CHG_TIMEOUT_THERMAL 0xFF []).dt 3 u
  have heq : ∀ v st, session v = Ch.suspend → chgCause st 3 v = chgLock v := by
    intro v st h
    unfold chgCause
    rw [h]
    exact (if_neg (by decide)).trans ((if_neg (by decide)).trans ((if_pos (by decide)).trans (if_pos rfl)))
  rw [heq _ _ hsv] at hf hl ⊢
  have hc := chgLock_closes ((chgFlag F.CHG_FLAGS.TIMEOUT_THERMAL u).raise EV.CHG_TIMEOUT_THERMAL 0xFF [])
  exact ⟨hf, hc.session, hc.why (by decide), fun _ h => (hl (h.congr hk.boot hk.ev)).of_ev hk.ev⟩

/-- Settles O31, clause by clause. -/
theorem chargeSequencer : Obligations.ChargeSequencer :=
  ⟨fun e _ h hc => handover_suspends e h hc, fun e _ _ h hc hw h3 => handover_ends e h hc hw h3,
    fun e _ h hc => handover_locks e h hc, fun e s h => .of_next (t := handoverDeadline (s.tick e)) rfl (if_neg h),
    fun e _ h hr => suspendExpiry_ends e h hr, fun e _ h => tbat_missed e h, fun e _ _ h hbad => batteryNtc_bad e h hbad,
    fun e _ _ h hlo hhi => batteryNtc_good e h hlo hhi, fun e _ hs hb hp h2 h3 ht => chgTimeout_runs e hs hb hp h2 h3 ht,
    fun e _ hs hb hp h2 h3 ht => chgTimeout_suspended e hs hb hp h2 h3 ht⟩

end Sys2Proof.Machine
end

section
/-! SUPPORT. The control pilot: a duty presented, a measurement, and the settling of O32 (R305 to R307, R430 to R433). -/

namespace Sys2Proof.Machine

/-! ### A duty presented -/

/-- What presenting a duty leaves. -/
structure Presents (d : Nat) (s t : State) : Prop where
  duty : t.pilot = { s.pilot with duty := d }
  shown : t.fld R.CHG_CP_STAT F.CHG_CP_STAT.DUTY = (1000 * d + 2 ^ 30) / 2 ^ 31 % 2 ^ F.CHG_CP_STAT.DUTY.width
  icp : t.fld R.CHG_CP_STAT F.CHG_CP_STAT.ICP = icpOf d % 2 ^ F.CHG_CP_STAT.ICP.width
  pwm : t.bit R.CHG_CP_STAT F.CHG_CP_STAT.PWM = s.bit R.CHG_CP_STAT F.CHG_CP_STAT.PWM
  only : OnlyRegs [R.CHG_CP_STAT, R.CHG_IRQ_STAT] s t
  rest : Alter (2 ^ 67 ||| 2 ^ 96) s t

theorem pilotDuty_presents (d : Nat) (s : State) : Presents d s (pilotDuty d s) := by
  have ha : Alter (2 ^ 67 ||| 2 ^ 96) s (pilotDuty d s) := (alter_pilotDuty d s).mono rfl
  have h : (pilotDuty d s).pilot = { s.pilot with duty := d } ∧
      (∀ f, Fld.Beside f F.CHG_CP_STAT.DIGITAL → Fld.Beside f F.CHG_CP_STAT.ICP → Fld.Beside f F.CHG_CP_STAT.DUTY →
        (pilotDuty d s).fld R.CHG_CP_STAT f = s.fld R.CHG_CP_STAT f) ∧
      (pilotDuty d s).fld R.CHG_CP_STAT F.CHG_CP_STAT.DUTY = (1000 * d + 2 ^ 30) / 2 ^ 31 % 2 ^ F.CHG_CP_STAT.DUTY.width ∧
      (pilotDuty d s).fld R.CHG_CP_STAT F.CHG_CP_STAT.ICP = icpOf d % 2 ^ F.CHG_CP_STAT.ICP.width ∧
      OnlyRegs [R.CHG_CP_STAT, R.CHG_IRQ_STAT] s (pilotDuty d s) := by
    unfold pilotDuty
    extract_lets p x i icp was dig y z
    have hi : i = R.CHG_CP_STAT := rfl
    have hxr : x.regs = s.regs := rfl
    have hxp : x.pilot = { s.pilot with duty := d } := rfl
    clear_value x i
    subst hi
    have hz : (∀ f, Fld.Beside f F.CHG_CP_STAT.DIGITAL → Fld.Beside f F.CHG_CP_STAT.ICP → Fld.Beside f F.CHG_CP_STAT.DUTY →
        z.fld R.CHG_CP_STAT f = s.fld R.CHG_CP_STAT f) ∧
        z.fld R.CHG_CP_STAT F.CHG_CP_STAT.DUTY = (1000 * d + 2 ^ 30) / 2 ^ 31 % 2 ^ F.CHG_CP_STAT.DUTY.width ∧
        z.fld R.CHG_CP_STAT F.CHG_CP_STAT.ICP = icpOf d % 2 ^ F.CHG_CP_STAT.ICP.width := by
      unfold z y
      refine ⟨fun f h1 h2 h3 => ?_, ?_, ?_⟩
      · rw [State.fld_setBit_beside _ h1, State.fld_setFld_beside _ h2, State.fld_setFld_beside _ h3]
        exact State.fld_of_reg (Alter.reg_of_regs hxr _) _
      · rw [State.fld_setBit_beside _ (by decide), State.fld_setFld_beside _ (by decide), State.fld_setFld_eq _ (by decide)]
      · rw [State.fld_setBit_beside _ (by decide), State.fld_setFld_eq _ (by decide)]
    have ho : OnlyRegs [R.CHG_CP_STAT, R.CHG_IRQ_STAT] s z :=
      (((OnlyRegs.of_regs hxr).setFld _ _ (by decide)).setFld _ _ (by decide)).setBit _ _ (by decide)
    have hp : z.pilot = x.pilot := (State.setBit_pilot ..).trans ((State.setFld_pilot ..).trans (State.setFld_pilot ..))
    clear_value z
    split
    · exact ⟨hp.trans hxp, hz.1, hz.2.1, hz.2.2, ho⟩
    · unfold chgIrq
      exact ⟨(State.setBit_pilot ..).trans (hp.trans hxp), fun f h1 h2 h3 => (State.fld_setBit_ne _ (by decide)).trans (hz.1 f h1 h2 h3),
        (State.fld_setBit_ne _ (by decide)).trans hz.2.1, (State.fld_setBit_ne _ (by decide)).trans hz.2.2, ho.setBit _ _ (by decide)⟩
  obtain ⟨hp, hf, hd, hi, ho⟩ := h
  exact ⟨hp, hd, hi, congrArg (· != 0) (hf _ (by decide) (by decide) (by decide)), ho, ha⟩

/-! ### A measurement -/

/-- A field of the pilot's status that a measurement leaves alone. -/
abbrev Fld.OfDuty (f : Fld) : Prop :=
  Fld.Beside f F.CHG_CP_STAT.STATE ∧ Fld.Beside f F.CHG_CP_STAT.VHI ∧ Fld.Beside f F.CHG_CP_STAT.VLO ∧
    Fld.Beside f F.CHG_CP_STAT.DIODE_FAIL

theorem pilotPresent_keeps {f : Fld} (hf : Fld.Beside f F.CHG_CP_STAT.STATE) (st : Nat) (s : State) :
    (pilotPresent st s).fld R.CHG_CP_STAT f = s.fld R.CHG_CP_STAT f := by
  unfold pilotPresent
  extract_lets x auto y z w
  have hx : x.fld R.CHG_CP_STAT f = s.fld R.CHG_CP_STAT f := by
    unfold x chgIrq
    rw [State.fld_setBit_ne _ (by decide), State.fld_raise _ _ _ (by decide), State.fld_setFld_beside _ hf]
  clear_value x
  split
  · have hy : y.fld R.CHG_CP_STAT f = x.fld R.CHG_CP_STAT f := State.fld_of_reg (Alter.reg_of_regs (onChg_regs _ _) _) _
    have hz : z.fld R.CHG_CP_STAT f = y.fld R.CHG_CP_STAT f := by
      unfold z
      split
      · exact State.fld_of_reg (newSession_only y _ (by decide)) _
      · exact State.fld_of_reg (replug_only _ y _ (by decide)) _
    exact (State.fld_of_reg (Alter.reg_of_regs (onChg_regs _ _) _) _).trans (hz.trans (hy.trans hx))
  · have hw : w.fld R.CHG_CP_STAT f = x.fld R.CHG_CP_STAT f := State.fld_of_reg (Alter.reg_of_regs (onChg_regs _ _) _) _
    clear_value w
    split
    · refine (State.fld_of_reg ((chgCause_flags _ _ _).only _ (by decide)) _).trans ?_
      exact (State.fld_of_reg (chgFlag_only _ w _ (by decide)) _).trans (hw.trans hx)
    · exact (State.fld_of_reg ((chgCause_flags _ _ _).only _ (by decide)) _).trans (hw.trans hx)

/-- What a measurement leaves. -/
structure Measures (osc : Bool) (hi lo : Int) (s t : State) : Prop where
  pilot : t.pilot = { s.pilot with vhi := hi, vlo := lo, dec := (pilotDecode osc hi lo).1,
                                   runs := if s.pilot.dec = (pilotDecode osc hi lo).1 then s.pilot.runs + 1 else 1 }
  stat : ∀ f : Fld, Fld.OfDuty f → t.fld R.CHG_CP_STAT f = s.fld R.CHG_CP_STAT f
  el : t.el = s.el
  dt : t.dt = s.dt

theorem pilotMeasure_measures (osc : Bool) (hi lo : Int) (s : State) : Measures osc hi lo s (pilotMeasure osc hi lo s) := by
  have ha := alter_pilotMeasure osc hi lo s
  have h : (pilotMeasure osc hi lo s).pilot = { s.pilot with
        vhi := hi, vlo := lo, dec := (pilotDecode osc hi lo).1
        runs := if s.pilot.dec = (pilotDecode osc hi lo).1 then s.pilot.runs + 1 else 1 } ∧
      ∀ f : Fld, Fld.OfDuty f → (pilotMeasure osc hi lo s).fld R.CHG_CP_STAT f = s.fld R.CHG_CP_STAT f := by
    unfold pilotMeasure
    generalize pilotDecode osc hi lo = d
    obtain ⟨st, diode⟩ := d
    dsimp -zeta only
    extract_lets p runs x i half was y z
    have hxp : x.pilot = { s.pilot with vhi := hi, vlo := lo, dec := st, runs := runs } := rfl
    have hxr : x.regs = s.regs := rfl
    have hi : i = R.CHG_CP_STAT := rfl
    clear_value x i
    subst hi
    have hy : ∀ f : Fld, Fld.OfDuty f → y.fld R.CHG_CP_STAT f = s.fld R.CHG_CP_STAT f := by
      intro f ⟨_, hvhi, hvlo, hdiode⟩
      unfold y State.setSfld
      rw [State.fld_setBit_beside _ hdiode, State.fld_setFld_beside _ hvlo, State.fld_setFld_beside _ hvhi]
      exact State.fld_of_reg (Alter.reg_of_regs hxr _) _
    have hyp : y.pilot = x.pilot := (State.setBit_pilot ..).trans ((State.setSfld_pilot ..).trans (State.setSfld_pilot ..))
    clear_value y
    have hz : ∀ f : Fld, Fld.OfDuty f → z.fld R.CHG_CP_STAT f = s.fld R.CHG_CP_STAT f := by
      intro f hf
      unfold z
      split
      · refine (State.fld_of_reg ((chgCause_flags _ _ _).only _ (by decide)) _).trans ?_
        exact (State.fld_of_reg (chgFlag_only _ y _ (by decide)) _).trans (hy f hf)
      · exact hy f hf
    have hzp : z.pilot = x.pilot := by
      unfold z
      split
      · exact ((alter_chgCause ..).pilot rfl).trans (((alter_chgFlag ..).pilot rfl).trans hyp)
      · exact hyp
    clear_value z
    generalize (if osc = true then 3 else 2) = n
    split
    · exact ⟨((alter_pilotPresent ..).pilot rfl).trans (hzp.trans hxp), fun f hf => (pilotPresent_keeps hf.1 _ z).trans (hz f hf)⟩
    · exact ⟨hzp.trans hxp, hz⟩
  exact ⟨h.1, h.2, ha.el rfl, ha.dt rfl⟩

/-! ### A cycle -/

/-- What a cycle leaves, with its duty presented or not, of a state whose presented duty is old. -/
structure Cycles (hl : List Nat) (last old now gone : Nat) (t : State) : Prop where
  pwm : t.bit R.CHG_CP_STAT F.CHG_CP_STAT.PWM = true
  steady : t.pilot.steady = false
  hist : t.pilot.hist = hl
  lastOk : t.pilot.lastOk = last
  dt : t.dt = now
  el : t.el = gone
  same : (∀ a b c, hl = [a, b, c] → max a (max b c) ≤ min a (min b c) + 10737418 → a = old) → t.pilot.duty = old
  duty : ∀ a b c, hl = [a, b, c] → max a (max b c) ≤ min a (min b c) + 10737418 → a ≠ old →
    t.pilot.duty = a ∧ t.fld R.CHG_CP_STAT F.CHG_CP_STAT.DUTY = (1000 * a + 2 ^ 30) / 2 ^ 31 % 2 ^ F.CHG_CP_STAT.DUTY.width ∧
      t.fld R.CHG_CP_STAT F.CHG_CP_STAT.ICP = icpOf a % 2 ^ F.CHG_CP_STAT.ICP.width

theorem Cycles.presented {a b c last old now gone : Nat} {z t : State} (hz : z.bit R.CHG_CP_STAT F.CHG_CP_STAT.PWM = true)
    (hs : z.pilot.steady = false) (hh : z.pilot.hist = [a, b, c]) (hl : z.pilot.lastOk = last) (hd : z.dt = now) (he : z.el = gone)
    (hne : a ≠ old) (hag : max a (max b c) ≤ min a (min b c) + 10737418) (hp : Presents a z t) :
    Cycles [a, b, c] last old now gone t := by
  have hpil := hp.duty
  refine ⟨hp.pwm.trans hz, ?_, ?_, ?_, (hp.rest.dt rfl).trans hd, (hp.rest.el rfl).trans he, fun hall => ?_, fun a' b' c' heq _ _ => ?_⟩
  · rw [hpil]; exact hs
  · rw [hpil]; exact hh
  · rw [hpil]; exact hl
  · exact absurd (hall a b c rfl hag) hne
  · cases heq
    refine ⟨?_, hp.shown, hp.icp⟩
    rw [hpil]

/-- A measurement keeps what the cycle left. -/
theorem Cycles.measured {hl : List Nat} {last old now gone : Nat} {osc : Bool} {hi lo : Int} {w t : State}
    (h : Cycles hl last old now gone w) (m : Measures osc hi lo w t) : Cycles hl last old now gone t := by
  have hp := m.pilot
  have hd : t.pilot.duty = w.pilot.duty := by rw [hp]
  refine ⟨(congrArg (· != 0) (m.stat _ (by decide))).trans h.pwm, ?_, ?_, ?_, m.dt.trans h.dt, m.el.trans h.el,
    fun hall => hd.trans (h.same hall), fun a b c heq hag hne => ?_⟩
  · rw [hp]; exact h.steady
  · rw [hp]; exact h.hist
  · rw [hp]; exact h.lastOk
  · obtain ⟨h1, h2, h3⟩ := h.duty a b c heq hag hne
    exact ⟨hd.trans h1, (m.stat _ (by decide)).trans h2, (m.stat _ (by decide)).trans h3⟩

theorem pilotWatched_of_run {s : State} (h : s.boot.phase = .run) : ¬ (!pilotWatched s) = true := by
  unfold pilotWatched
  rw [h]
  exact Bool.false_ne_true

theorem pilotCycle_cycles {s : State} {len high falls : Nat} {ok : Bool} {hl : List Nat} (hs : Int) (hn : Nat) (ls : Int) (ln : Nat)
    (h : s.boot.phase = .run) (hok : decide (196079 ≤ len ∧ len < 204082 ∧ falls = 1 ∧ 0 < len) = ok)
    (hhl : (if ok then (((2 * high * 2 ^ 31 + len) / (2 * max 1 len)) :: s.pilot.hist).take 3 else []) = hl) :
    Cycles hl (if ok then s.dt else s.pilot.lastOk) s.pilot.duty s.dt s.el (pilotCycle len high falls hs hn ls ln s) := by
  unfold pilotCycle
  rw [if_neg (pilotWatched_of_run h)]
  extract_lets p x y ok' d hl' src z w
  obtain rfl : ok' = ok := hok
  obtain rfl : hl' = hl := hhl
  have hyd : y.dt = s.dt := (State.setBit_dt ..).trans rfl
  have hye : y.el = s.el := (State.setBit_el ..).trans rfl
  have hys : y.pilot.steady = false ∧ y.pilot.duty = s.pilot.duty := by
    rw [show y.pilot = x.pilot from State.setBit_pilot ..]
    exact ⟨rfl, rfl⟩
  have hyb : y.bit R.CHG_CP_STAT F.CHG_CP_STAT.PWM = true := State.bit_setBit_eq _ (by decide)
  have hzr : z.regs = y.regs := rfl
  have hzd : z.dt = y.dt := rfl
  have hze : z.el = y.el := rfl
  have hzp : z.pilot.steady = y.pilot.steady ∧ z.pilot.duty = y.pilot.duty ∧ z.pilot.hist = hl' ∧
      z.pilot.lastOk = if ok' = true then y.dt else p.lastOk := ⟨rfl, rfl, rfl, rfl⟩
  have hp : p = s.pilot := rfl
  clear_value z y p hl' ok'
  subst hp
  rw [hyd] at hzp
  have hzb : z.bit R.CHG_CP_STAT F.CHG_CP_STAT.PWM = true := (State.bit_of_reg (Alter.reg_of_regs hzr _) _).trans hyb
  have hw : Cycles hl' (if ok' then s.dt else s.pilot.lastOk) s.pilot.duty s.dt s.el w := by
    obtain ⟨hst, hdu, hhi, hla⟩ := hzp
    have hdt := hzd.trans hyd
    have hel := hze.trans hye
    have hdu := hdu.trans hys.2
    have hst := hst.trans hys.1
    generalize (if ok' = true then s.dt else s.pilot.lastOk) = last at hla ⊢
    unfold w
    split
    next a b c =>
      extract_lets lo hi
      split
      next hc => exact .presented hzb hst hhi hla hdt hel hc.2 hc.1 (pilotDuty_presents a z)
      next hc =>
        refine ⟨hzb, hst, hhi, hla, hdt, hel, fun _ => hdu, fun a' b' c' heq hag hne => ?_⟩
        cases heq
        exact absurd ⟨hag, hne⟩ hc
    next hno =>
      exact ⟨hzb, hst, hhi, hla, hdt, hel, fun _ => hdu, fun a b c heq _ _ => absurd heq (hno a b c)⟩
  exact hw.measured (pilotMeasure_measures ..)

/-- A cycle of the right length with one fall is accepted. -/
theorem cycle_accepted {len falls : Nat} (h1 : 196079 ≤ len) (h2 : len < 204082) (h3 : falls = 1) :
    decide (196079 ≤ len ∧ len < 204082 ∧ falls = 1 ∧ 0 < len) = true := decide_eq_true ⟨h1, h2, h3, by omega⟩

theorem pilotCycle_accepted {s : State} {len high falls : Nat} (hs : Int) (hn : Nat) (ls : Int) (ln : Nat)
    (h : s.boot.phase = .run) (h1 : 196079 ≤ len) (h2 : len < 204082) (h3 : falls = 1) :
    Cycles (((2 * high * 2 ^ 31 + len) / (2 * len) :: s.pilot.hist).take 3) s.dt s.pilot.duty s.dt s.el
      (pilotCycle len high falls hs hn ls ln s) := by
  refine pilotCycle_cycles hs hn ls ln h (cycle_accepted h1 h2 h3) ?_
  rw [if_pos rfl, show max 1 len = len by omega]

theorem pilotCycle_rejected {s : State} {len falls : Nat} (high : Nat) (hs : Int) (hn : Nat) (ls : Int) (ln : Nat)
    (h : s.boot.phase = .run) (hno : len < 196079 ∨ 204082 ≤ len ∨ falls ≠ 1) :
    Cycles [] s.pilot.lastOk s.pilot.duty s.dt s.el (pilotCycle len high falls hs hn ls ln s) :=
  pilotCycle_cycles hs hn ls ln h (decide_eq_false (by omega)) rfl

/-! ### A steady level, and no cycle -/

theorem PilotOnly.of_alter {s t : State} (h : Alter (2 ^ 67 ||| 2 ^ 96 ||| 2 ^ 65 ||| 2 ^ 66) s t) :
    t = { s with el := t.el, dt := t.dt, regs := t.regs, pilot := t.pilot } := h.eq_patch

theorem pilotSteady_presents {s : State} (high : Bool) (h : s.boot.phase = .run) :
    ∃ x, Presents (if high then 2 ^ 31 else 0) x (pilotSteady high s) ∧
      x.pilot.steady = true ∧ x.pilot.hist = [] ∧ x.bit R.CHG_CP_STAT F.CHG_CP_STAT.PWM = false ∧
      OnlyRegs [R.CHG_CP_STAT, R.CHG_IRQ_STAT] s x := by
  unfold pilotSteady
  rw [if_neg (pilotWatched_of_run h)]
  extract_lets src y
  have hyr : y.regs = s.regs := rfl
  have hyp : y.pilot.steady = true ∧ y.pilot.hist = [] := ⟨rfl, rfl⟩
  clear_value y
  refine ⟨_, pilotDuty_presents _ _, ?_, ?_, State.bit_setBit_eq _ (by decide), (OnlyRegs.of_regs hyr).setBit _ _ (by decide)⟩
  · rw [State.setBit_pilot]
    exact hyp.1
  · rw [State.setBit_pilot]
    exact hyp.2

theorem duty_shown (high : Bool) :
    (1000 * (if high then 2 ^ 31 else 0) + 2 ^ 30) / 2 ^ 31 % 2 ^ F.CHG_CP_STAT.DUTY.width = if high then 1000 else 0 := by
  cases high <;> decide

theorem pilotNoCycle_presents {s : State} (h : s.boot.phase = .run) (hs : s.pilot.steady = false) :
    Presents 0 (s.until (s.pilot.lastOk + 2000000)) (pilotNoCycle s) := by
  unfold pilotNoCycle
  rw [if_neg (by rw [hs, Bool.or_false]; exact pilotWatched_of_run h)]
  exact pilotDuty_presents _ _

/-! ### The settling of O32 -/

theorem pilotWindow_measures {s : State} (sum : Int) {n : Nat} (h : s.boot.phase = .run) (hs : s.pilot.steady = true) (hn : n ≠ 0) :
    Measures false (fdiv (sum * 2000 * s.fld R.CHG_CFG F.CHG_CFG.CPRATIO) (16 * n))
      (fdiv (sum * 2000 * s.fld R.CHG_CFG F.CHG_CFG.CPRATIO) (16 * n)) s (pilotWindow sum n s) := by
  unfold pilotWindow
  rw [if_neg (by rw [hs, Bool.not_true, Bool.or_false]; exact pilotWatched_of_run h)]
  unfold plateau
  rw [if_neg hn]
  exact pilotMeasure_measures ..

theorem pilotWindow_idle {s : State} (sum : Int) (n : Nat) (h : s.pilot.steady = false ∨ s.boot.phase ≠ .run) :
    pilotWindow sum n s = s := by
  unfold pilotWindow
  refine if_pos ?_
  rcases h with h | h
  · rw [h, Bool.not_false, Bool.or_true]
  · rw [Bool.or_eq_true]
    refine .inl ?_
    unfold pilotWatched
    rw [beq_eq_false_iff_ne.2 h, Bool.not_false]

/-- Settles O32: a cycle is followed to its measurement, which keeps what the cycle left. -/
theorem controlPilotRead : Obligations.ControlPilotRead := by
  unfold Obligations.ControlPilotRead
  refine ⟨?_, ?_, ?_, ?_, ?_, ?_, ?_⟩
  · intro e len high falls hs hn ls ln s hb h1 h2 h3
    refine .of_next (t := pilotCycle len high falls hs hn ls ln (s.tick e)) rfl ?_
    have h := pilotCycle_accepted (s := s.tick e) (high := high) hs hn ls ln hb h1 h2 h3
    refine ⟨h.pwm, h.steady, h.lastOk.trans h.dt.symm, passes_of_tick h.el h.dt, h.hist, fun hlen => ?_⟩
    refine h.same fun a b c heq _ => ?_
    have := congrArg List.length heq
    rw [List.length_take, List.length_cons, show (s.tick e).pilot = s.pilot from rfl] at this
    simp only [List.length_cons, List.length_nil] at this
    omega
  · intro e len high b c falls hs hn ls ln s hb h1 h2 h3 hbc hag
    refine .of_next (t := pilotCycle len high falls hs hn ls ln (s.tick e)) rfl ?_
    have h := pilotCycle_accepted (s := s.tick e) (high := high) hs hn ls ln hb h1 h2 h3
    have hl : ((2 * high * 2 ^ 31 + len) / (2 * len) :: (s.tick e).pilot.hist).take 3
        = [(2 * high * 2 ^ 31 + len) / (2 * len), b, c] := congrArg (List.cons _) hbc
    refine ⟨?_, fun hne => (h.duty _ _ _ hl hag hne).2⟩
    by_cases hne : (2 * high * 2 ^ 31 + len) / (2 * len) = s.pilot.duty
    · refine (h.same fun a b' c' heq _ => ?_).trans hne.symm
      rw [hl] at heq
      cases heq
      exact hne
    · exact (h.duty _ _ _ hl hag hne).1
  · intro e len high falls hs hn ls ln s hb hno
    refine .of_next (t := pilotCycle len high falls hs hn ls ln (s.tick e)) rfl ?_
    have h := pilotCycle_rejected (s := s.tick e) high hs hn ls ln hb hno
    exact ⟨h.hist, h.same fun a b c heq _ => absurd heq (by simp), h.lastOk, h.pwm⟩
  · intro e high s hb
    refine .of_next (t := pilotSteady high (s.tick e)) rfl ?_
    have ha : Alter (2 ^ 67 ||| 2 ^ 96) (s.tick e) (pilotSteady high (s.tick e)) := (alter_pilotSteady ..).mono rfl
    obtain ⟨x, h, hst, hh, hpwm, ho⟩ := pilotSteady_presents (s := s.tick e) high hb
    have hpil := h.duty
    refine ⟨?_, ?_, ?_, h.pwm.trans hpwm, h.shown.trans (duty_shown high), ?_, passes_of_tick (ha.el rfl) (ha.dt rfl), ?_⟩
    · rw [hpil]; exact hst
    · rw [hpil]; exact hh
    · rw [hpil]
    · exact (OnlyRegs.tick e s).trans (ho.trans h.only)
    · exact PilotOnly.of_alter (((alter_tick e s).mono rfl).step ha rfl)
  · intro e s hb hst
    refine .of_next (t := pilotNoCycle (s.tick e)) rfl ?_
    have h := pilotNoCycle_presents (s := s.tick e) hb hst
    have hpil := h.duty
    refine ⟨?_, h.shown, fun hd0 => (h.rest.dt rfl).trans (State.until_dt hd0 e _), ?_⟩
    · rw [hpil]
    · exact (OnlyRegs.tick e s).trans ((OnlyRegs.of_regs rfl).trans h.only)
  · intro e sum n s hb hst hn
    refine .of_next (t := pilotWindow sum n (s.tick e)) rfl ?_
    have h := pilotWindow_measures (s := s.tick e) sum hb hst hn
    have hpil := h.pilot
    generalize pilotWindow sum n (s.tick e) = t at *
    have hhi : t.pilot.vhi = fdiv (sum * 2000 * s.fld R.CHG_CFG F.CHG_CFG.CPRATIO) (16 * n) := by rw [hpil]; rfl
    refine ⟨hhi, ?_, ?_, ?_, passes_of_tick h.el h.dt⟩
    · rw [hpil]
    · rw [hpil]
    · rw [hpil]; rfl
  · intro e sum n s h
    exact .of_next (t := pilotWindow sum n (s.tick e)) rfl (pilotWindow_idle (s := s.tick e) sum n h)

end Sys2Proof.Machine
end

section
/-! SUPPORT. A machine on a converter whose record bears a number far beyond the 32 there are, and the settling of O28. The
statement is over every state, and the `index` of a state's record is any number. -/

namespace Sys2Proof.Machine

set_option Elab.async false

/-- Converter 0x15E0 has the register of the event log's next number where its `PLC_CONV` would be. -/
theorem plcConv_stray : R.PLC_CONV 0x15E0 = R.LOG_EVENT_NEXT := rfl

/-- A machine in DRIVE waits for its next start, on that converter, which has counted failures that a HOLD would keep it on. -/
def strayRetry : State :=
  (((((({ W.run Mode.drive with
    plant := some { W.plant 0 with
      convs := [{ index := 0x15E0, kind := 0, prio := 0, hold := false, group := 0, sel := 0 }] } }.setConv 0x15E0
    { hold := 3 }).setBit (R.TRX_M_CTRL 0) F.TRX_M_CTRL.EN true).setBit (R.TRX_M_STAT 0) F.TRX_M_STAT.MAP_OK true).setBit
    (R.TRX_M_STAT 0) F.TRX_M_STAT.OBS_BOUND true).setBit (R.TRX_M_STAT 0) F.TRX_M_STAT.POS_OK true).setFld (R.TRX_M_STAT 0) F.TRX_M_STAT.STATE Ts.wait).setReg R.LOG_EVENT_NEXT
    (BitVec.ofNat 40 (2 ^ 27 - 1))

theorem strayRetry_waits : machConv strayRetry (0 : Fin 2) = some 0x15E0 ∧ tState strayRetry (0 : Fin 2) = Ts.wait ∧
    gateMay (setT (0 : Fin 2) Ts.off strayRetry) (0 : Fin 2) 0x15E0 = true := by decide +kernel

/-- The event takes the number 2^27 - 1, and the next number's bit 27 reads as the converter's HOLD. -/
theorem startRetry_stray : (startRetry 0 (strayRetry.tick 0)).bit (R.TRX_M_STAT 0) F.TRX_M_STAT.GATE = false := by decide +kernel

/-- Refutes O28: the event of the new start closes the gate's condition, and the gate does not open. -/
theorem not_tractionSupervised : ¬ Obligations.TractionSupervised := by
  rintro ⟨-, -, hopens, -⟩
  obtain ⟨hc, hw, hm⟩ := strayRetry_waits
  obtain ⟨t, ht, hgate, -⟩ := hopens 0 0 0x15E0 strayRetry hc hw hm
  injection ht with ht
  rw [← ht] at hgate
  exact Bool.false_ne_true (startRetry_stray.symm.trans hgate)

end Sys2Proof.Machine
end

section
/-! SUPPORT. An orderly stop forced on a plant whose records number two converters alike, and the settling of O10. The
statement is over every state, and nothing keeps the numbers of a state's records apart: what converter 0 is, the first record
of that number says. -/

namespace Sys2Proof.Machine

set_option Elab.async false

/-- A DC-DC and a machine, both numbered 0, enabled in DRIVE on timebase 0, whose deadline has been met; the orderly stop is
forced. -/
def strayStop : State :=
  (({ W.run Mode.drive with
    plant := some { W.plant 0 with
      convs := [{ index := 0, kind := 1, prio := 0, hold := false, group := 0, sel := 0 },
        { index := 0, kind := 0, prio := 0, hold := false, group := 0, sel := 0 }] }
    trans := some { stop := true, forced := true } }.setConv 0 { en := true }).setTb 0
    { run := true, ready := true, p := 1000, nextP := 1000, nextLen := 1000, len := 1000 })

theorem strayStop_ready : (strayStop.tbOf (0 : Fin 6)).run = true ∧ (strayStop.tbOf (0 : Fin 6)).ready = true ∧
    machConv strayStop (0 : Fin 2) = some 0 ∧ tbOfConv strayStop 0 = (0 : Fin 6).val ∧ 0 ∈ convsOfTb strayStop (0 : Fin 6) ∧
    convOn strayStop 0 = true ∧ strayStop.fld (R.PROT_SS_SPEED (0 : Fin 2)) F.PROT_SS_SPEED.SRC = 0 ∧
    strayStop.mode ≠ Mode.standby ∧ strayStop.mode ≠ Mode.boot := by decide +kernel

/-- Converter 0 goes off as the DC-DC of the first record, and the module stays in DRIVE. -/
theorem periodBoundary_strayStop : (periodBoundary 0 0 (strayStop.tick 0)).mode ≠ Mode.safe := by decide +kernel

/-- Refutes O10: the machine of the second record goes off with the DC-DC, and SAFE is not entered. -/
theorem not_stopsAndDischargesRunOut : ¬ Obligations.StopsAndDischargesRunOut := by
  rintro ⟨-, hforced, -, -⟩
  obtain ⟨hrun, hready, hm, htb, hmem, hon, hsrc, hstandby, hboot⟩ := strayStop_ready
  obtain ⟨t, ht, hsafe, -⟩ :=
    hforced 0 0 0 { stop := true, forced := true } 0 0 strayStop rfl rfl rfl hrun hready hm htb hmem hon hsrc hstandby hboot
  injection ht with ht
  rw [← ht] at hsafe
  exact periodBoundary_strayStop hsafe

end Sys2Proof.Machine
end

section
/-! SUPPORT. The supervision of the crystal, its loss, and the settling of O3 (R25, R30, R51). -/

namespace Sys2Proof.Machine

set_option Elab.async false

/-- An entry to SAFE speaks of the state before it only by its mode and its causes. -/
theorem EntersSafe.of_regs {c : Nat} {s u t : State} (h : EntersSafe c u t) (hm : u.reg R.DEV_MODE = s.reg R.DEV_MODE)
    (hc : u.reg R.DEV_SAFE_CAUSE = s.reg R.DEV_SAFE_CAUSE) : EntersSafe c s t := by
  have em : u.mode = s.mode := State.mode_of_reg hm
  have ec := State.fld_of_reg hc ⟨11, 0⟩
  obtain ⟨h1, h2, h3, h4⟩ := h
  rw [em] at h2 h3 h4
  rw [ec] at h1
  exact ⟨h1, h2, h3, h4⟩

/-- The registers of the DEV group that an entry to SAFE leaves. -/
theorem enterSafe_reg (c : Nat) (r : Req) (s : State) {i : Nat} (hi : i < 64)
    (h : i ≠ R.DEV_MODE ∧ i ≠ R.DEV_SAFE_CAUSE ∧ i ≠ R.DEV_QUEUED) : (enterSafe c r s).reg i = s.reg i := by
  obtain ⟨h1, h2, h3⟩ := h
  refine (alter_enterSafe c r s).low i hi ?_
  have e1 : i ≠ 32 := h1
  have e2 : i ≠ 34 := h2
  have e3 : i ≠ 41 := h3
  clear h1 h2 h3
  revert e1 e2 e3
  interval_cases i <;> simp -implicitDefEqProofs <;> decide

theorem enterSafe_evGrows (c : Nat) (r : Req) (s : State) : s.ev.buf <+: (enterSafe c r s).ev.buf :=
  (alter_enterSafe c r s).evGrows (by decide)

/-! ### The fallback -/

theorem toFallback_ok (s : State) : (toFallback s).bit R.DEV_CLK_STAT F.DEV_CLK_STAT.XTAL_OK = false := by
  unfold toFallback
  extract_lets i u
  have h : u.bit R.DEV_CLK_STAT F.DEV_CLK_STAT.XTAL_OK = false := by
    unfold u
    rw [State.bit_setBit_beside _ (by decide), State.bit_setBit_eq _ (by decide)]
  clear_value u
  split
  · exact h
  · rw [State.bit_raise _ _ _ (by decide), State.bit_setBit_beside _ (by decide), State.bit_setBit_beside _ (by decide), h]

theorem toFallback_fallback (s : State) : (toFallback s).bit R.DEV_CLK_STAT F.DEV_CLK_STAT.FALLBACK = true := by
  unfold toFallback
  extract_lets i u
  clear_value u
  split
  · assumption
  · rw [State.bit_raise _ _ _ (by decide), State.bit_setBit_beside _ (by decide), State.bit_setBit_eq _ (by decide)]

/-- The reference falls back: the loss is flagged and its event raised. -/
theorem toFallback_lost {s : State} (h : s.bit R.DEV_CLK_STAT F.DEV_CLK_STAT.FALLBACK = false) :
    (toFallback s).bit R.DEV_CLK_STAT F.DEV_CLK_STAT.XTAL_LOST = true ∧
      (LogReady s → Logs EV.CLOCK_FALLBACK 0xFF s (toFallback s)) := by
  unfold toFallback
  extract_lets i u
  have hu : u.bit R.DEV_CLK_STAT F.DEV_CLK_STAT.FALLBACK = false := by
    unfold u
    rw [State.bit_setBit_beside _ (by decide), State.bit_setBit_beside _ (by decide), h]
  have hev : u.ev = s.ev := by
    unfold u
    rw [State.setBit_ev, State.setBit_ev]
  have hboot : u.boot = s.boot := by
    unfold u
    rw [State.setBit_boot, State.setBit_boot]
  clear_value u
  rw [if_neg (by rw [hu]; decide)]
  have hb : ((u.setBit i F.DEV_CLK_STAT.FALLBACK true).setBit i F.DEV_CLK_STAT.XTAL_LOST true).boot = s.boot := by
    rw [State.setBit_boot, State.setBit_boot, hboot]
  have he : ((u.setBit i F.DEV_CLK_STAT.FALLBACK true).setBit i F.DEV_CLK_STAT.XTAL_LOST true).ev = s.ev := by
    rw [State.setBit_ev, State.setBit_ev, hev]
  refine ⟨?_, fun hr => (State.raise_logs _ _ _ _ (hr.congr hb he)).of_ev he⟩
  rw [State.bit_raise _ _ _ (by decide), State.bit_setBit_eq _ (by decide)]

/-- The fallback, and SAFE entered for it. -/
theorem fallback_enters {s : State} (hm : s.mode ≠ Mode.standby) :
    (enterSafe Cause.clock reqInternal (toFallback s)).bit R.DEV_CLK_STAT F.DEV_CLK_STAT.XTAL_OK = false ∧
      (enterSafe Cause.clock reqInternal (toFallback s)).bit R.DEV_CLK_STAT F.DEV_CLK_STAT.FALLBACK = true ∧
      (s.bit R.DEV_CLK_STAT F.DEV_CLK_STAT.FALLBACK = false →
        (enterSafe Cause.clock reqInternal (toFallback s)).bit R.DEV_CLK_STAT F.DEV_CLK_STAT.XTAL_LOST = true) ∧
      EntersSafe Cause.clock s (enterSafe Cause.clock reqInternal (toFallback s)) := by
  have hc : ∀ u : State, (enterSafe Cause.clock reqInternal u).reg R.DEV_CLK_STAT = u.reg R.DEV_CLK_STAT := fun u =>
    enterSafe_reg _ _ _ (by decide) (by decide)
  have hf := alter_toFallback s
  have hd : (toFallback s).reg R.DEV_MODE = s.reg R.DEV_MODE := hf.low _ (by decide) (by decide)
  have hs : (toFallback s).reg R.DEV_SAFE_CAUSE = s.reg R.DEV_SAFE_CAUSE := hf.low _ (by decide) (by decide)
  refine ⟨?_, ?_, fun h => ?_, (enterSafe_spec _ _ _ (by rwa [State.mode_of_reg hd])).of_regs hd hs⟩
  · rw [State.bit_of_reg (hc _), toFallback_ok]
  · rw [State.bit_of_reg (hc _), toFallback_fallback]
  · rw [State.bit_of_reg (hc _), (toFallback_lost h).1]

/-! ### The two rows -/

/-- DT after a stop of D0 (R25). -/
theorem resumeDt_dt (s : State) : (resumeDt s).dt =
    match s.boot.stopAt with | none => s.dt | some u => s.dt + (s.el - u) * 32768 / 200000000 * 390625 / 64 := by
  unfold resumeDt
  cases s.boot.stopAt <;> rfl

theorem Alter.crystal_patch {m : Nat} {s t : State} (a : Alter m s t) (h : m = 2 ^ 18 ||| 2 ^ 65 ||| 2 ^ 66 ||| 2 ^ 67 ||| 2 ^ 69) :
    t = { s with el := t.el, dt := t.dt, boot := t.boot, regs := t.regs } := by
  subst h
  exact a.eq_patch

/-- Step 3 as it begins: the sequence moves on, DT resumes, the pace is unknown. -/
def clockLeft (s : State) : State :=
  { (resumeDt s).setReg R.FAB_PACE 0 with
    boot := { (resumeDt s).boot with phase := .image, since := (resumeDt s).el, paceRun := false } }

theorem crystalSupervised_eq {s : State} (good : Bool) (h : s.boot.phase = .clock) : crystalSupervised good s =
    if good then (((clockLeft s).setBit R.DEV_CLK_STAT F.DEV_CLK_STAT.XTAL_OK true).setBit R.DEV_CLK_STAT
      F.DEV_CLK_STAT.PLL_LOCK true).setBit R.DEV_CLK_STAT F.DEV_CLK_STAT.FALLBACK false
    else enterSafe Cause.clock reqInternal (toFallback (clockLeft s)) := by
  unfold crystalSupervised
  rw [if_neg (by rw [h]; decide)]
  rfl

/-- What the beginning of step 3 leaves. -/
theorem clockLeft_spec (s : State) : (clockLeft s).boot.phase = .image ∧ (clockLeft s).dt = (resumeDt s).dt ∧
    OnlyRegs [R.FAB_PACE] s (clockLeft s) ∧ Alter (2 ^ 65 ||| 2 ^ 67 ||| 2 ^ 69) s (clockLeft s) := by
  have hr : (resumeDt s).regs = s.regs := by
    unfold resumeDt
    cases s.boot.stopAt <;> rfl
  have ar := alter_resumeDt s
  unfold clockLeft
  generalize resumeDt s = x at hr ar ⊢
  have hreg : ∀ i, i ≠ R.FAB_PACE → (x.setReg R.FAB_PACE 0).reg i = x.reg i := fun i hi => State.reg_setReg_ne _ _ hi
  have ha := alter_setReg R.FAB_PACE 0 x
  have hdt : (x.setReg R.FAB_PACE 0).dt = x.dt := rfl
  revert hreg ha hdt
  generalize x.setReg R.FAB_PACE 0 = z
  intro hreg ha hdt
  refine ⟨rfl, hdt, fun i hi => ?_, ?_⟩
  · exact (hreg i (by simpa using hi)).trans (Alter.reg_of_regs hr _)
  · exact ((ar.mono rfl).step ha (rm_high (by decide) rfl)).step (alter_boot ..) rfl

/-- A good crystal ends step 3. -/
theorem crystalSupervision_good (e : Nat) {s : State} (h : s.boot.phase = .clock) :
    Answers (.crystalSupervision e true) s fun t =>
       t.boot.phase = .image ∧ t.bit R.DEV_CLK_STAT F.DEV_CLK_STAT.XTAL_OK = true ∧
       t.bit R.DEV_CLK_STAT F.DEV_CLK_STAT.PLL_LOCK = true ∧ t.bit R.DEV_CLK_STAT F.DEV_CLK_STAT.FALLBACK = false ∧
       t.dt = (match s.boot.stopAt with
       | none => (s.tick e).dt
       | some u => (s.tick e).dt + (s.el + e - u) * 32768 / 200000000 * 390625 / 64) ∧
       t = { s with el := t.el, dt := t.dt, boot := t.boot, regs := t.regs } ∧
       OnlyRegs [R.DEV_CLK_STAT, R.FAB_PACE] s t := by
  refine .of_next (t := crystalSupervised true (s.tick e)) rfl ?_
  rw [crystalSupervised_eq true (by exact h), if_pos rfl]
  obtain ⟨hp, hd, ho, ha⟩ := clockLeft_spec (s.tick e)
  rw [resumeDt_dt] at hd
  have hs : OnlyRegs [R.DEV_CLK_STAT, R.FAB_PACE] s (clockLeft (s.tick e)) :=
    (OnlyRegs.tick e s).trans (ho.mono (by decide))
  have at1 := (alter_tick e s)
  generalize clockLeft (s.tick e) = u at *
  refine ⟨?_, ?_, ?_, ?_, ?_, ?_, ((hs.setBit _ _ (by decide)).setBit _ _ (by decide)).setBit _ _ (by decide)⟩
  · rw [State.setBit_boot, State.setBit_boot, State.setBit_boot, hp]
  · rw [State.bit_setBit_beside _ (by decide), State.bit_setBit_beside _ (by decide), State.bit_setBit_eq _ (by decide)]
  · rw [State.bit_setBit_beside _ (by decide), State.bit_setBit_eq _ (by decide)]
  · rw [State.bit_setBit_eq _ (by decide)]
  · rw [State.setBit_dt, State.setBit_dt, State.setBit_dt, hd, State.tick_boot, State.tick_el]
  · refine Alter.crystal_patch (m := _) ?_ rfl
    refine ((Alter.step ?_ (alter_setBit ..) rfl).step (alter_setBit ..) rfl).step (alter_setBit ..) rfl
    exact (at1.mono rfl).step ha rfl

/-- A bad crystal ends step 3 on the internal oscillator. -/
theorem crystalSupervision_bad (e : Nat) {s : State} (h : s.boot.phase = .clock) (hm : s.mode ≠ Mode.standby) :
    Answers (.crystalSupervision e false) s fun t =>
       t.boot.phase = .image ∧ t.bit R.DEV_CLK_STAT F.DEV_CLK_STAT.XTAL_OK = false ∧
       t.bit R.DEV_CLK_STAT F.DEV_CLK_STAT.FALLBACK = true ∧ (s.bit R.DEV_CLK_STAT F.DEV_CLK_STAT.FALLBACK = false →
         t.bit R.DEV_CLK_STAT F.DEV_CLK_STAT.XTAL_LOST = true) ∧ EntersSafe Cause.clock s t := by
  refine .of_next (t := crystalSupervised false (s.tick e)) rfl ?_
  rw [crystalSupervised_eq false (by exact h), if_neg (by decide)]
  obtain ⟨hp, -, ho, -⟩ := clockLeft_spec (s.tick e)
  have hs : OnlyRegs [R.FAB_PACE] s (clockLeft (s.tick e)) := (OnlyRegs.tick e s).trans ho
  generalize clockLeft (s.tick e) = u at *
  have hd := hs R.DEV_MODE (by decide)
  obtain ⟨h1, h2, h3, h4⟩ := fallback_enters (s := u) (by rwa [State.mode_of_reg hd])
  refine ⟨?_, h1, h2, fun hb => h3 (by rwa [State.bit_of_reg (hs R.DEV_CLK_STAT (by decide))]),
    h4.of_regs hd (hs R.DEV_SAFE_CAUSE (by decide))⟩
  rw [(alter_enterSafe ..).boot rfl, (alter_toFallback u).boot rfl, hp]

/-- The crystal lost while the reference runs from it. -/
theorem crystalLoss_falls (e : Nat) {s : State} (hl : s.logs = true) (hp : s.boot.phase ≠ .clock)
    (hb : s.bit R.DEV_CLK_STAT F.DEV_CLK_STAT.FALLBACK = false) (hm : s.mode ≠ Mode.standby) :
    Answers (.crystalLoss e) s fun t =>
       t.bit R.DEV_CLK_STAT F.DEV_CLK_STAT.XTAL_OK = false ∧ t.bit R.DEV_CLK_STAT F.DEV_CLK_STAT.FALLBACK = true ∧
       t.bit R.DEV_CLK_STAT F.DEV_CLK_STAT.XTAL_LOST = true ∧ EntersSafe Cause.clock s t ∧
       (LogReady s → Logs EV.CLOCK_FALLBACK 0xFF s t) := by
  refine .of_next (t := crystalLoss (s.tick e)) rfl ?_
  have hc : ¬ (!(s.tick e).logs || (s.tick e).boot.phase == .clock ||
      (s.tick e).bit R.DEV_CLK_STAT F.DEV_CLK_STAT.FALLBACK) = true := by
    rw [State.tick_logs, State.tick_boot, State.tick_bit, hl, hb]
    simpa using hp
  unfold crystalLoss
  rw [if_neg hc]
  obtain ⟨h1, h2, h3, h4⟩ := fallback_enters (s := s.tick e) hm
  refine ⟨h1, h2, h3 hb, h4.of_regs rfl rfl, fun hr => ?_⟩
  exact (((toFallback_lost (s := s.tick e) hb).2 (hr.congr rfl rfl)).grows ((alter_toFallback _).evGrows (by decide))
    (enterSafe_evGrows ..)).of_ev rfl

/-- Settles O3: step 3 ends on the crystal or on the fallback, and a loss of the crystal falls back, by what the fallback
and an entry to SAFE leave. -/
theorem crystalSupervisedHolds : Obligations.CrystalSupervised := by
  unfold Obligations.CrystalSupervised
  exact ⟨fun e _ h => crystalSupervision_good e h, fun e _ h hm => crystalSupervision_bad e h hm,
    fun e _ hl hp hb hm => crystalLoss_falls e hl hp hb hm⟩

end Sys2Proof.Machine
end

section
/-! SUPPORT. The STO inputs after their filter, their discrepancy, the levels that return, and the settling of O11 (R81 to
R83). -/

namespace Sys2Proof.Machine

set_option Elab.async false

theorem stoFld_ok (p : Nat) : Fld.Ok (stoFld p) := by
  unfold stoFld
  split <;> decide

theorem stoBoth_of_reg {s t : State} (h : t.reg R.DEV_STO_STAT = s.reg R.DEV_STO_STAT) : stoBoth t = stoBoth s := by
  unfold stoBoth
  rw [State.bit_of_reg h, State.bit_of_reg h]

theorem stoBoth_false {s : State} (p : Fin 2) (h : s.bit R.DEV_STO_STAT (stoFld p) = false) : stoBoth s = false := by
  unfold stoBoth
  obtain ⟨p, hp⟩ := p
  obtain rfl | rfl : p = 0 ∨ p = 1 := by omega
  · rw [show s.bit R.DEV_STO_STAT F.DEV_STO_STAT.STO_A = false from h, Bool.false_and]
  · rw [show s.bit R.DEV_STO_STAT F.DEV_STO_STAT.STO_B = false from h, Bool.and_false]

/-! ### The filtered levels changed -/

theorem stoChanged_regs (s : State) : (stoChanged s).regs = s.regs := rfl

theorem stoChanged_high (s : State) :
    (stoChanged s).stoHigh = if stoBoth s then (s.stoHigh <|> some s.dt) else none := rfl

/-- With both levels high nothing of a discrepancy is left. -/
theorem stoChanged_both {s : State} (h : stoBoth s = true) :
    (stoChanged s).stoTold = false ∧ (stoChanged s).boot.stoDiff = none := by
  obtain ⟨ha, hb⟩ := Bool.and_eq_true_iff.mp h
  unfold stoChanged
  extract_lets a b d
  have ea : a = true := ha
  have eb : b = true := hb
  clear_value a b
  subst ea eb
  exact ⟨Bool.and_false _, rfl⟩

theorem EntersSafe.of_cause {c : Nat} {s u t : State} (h : EntersSafe c u t) (hm : u.reg R.DEV_MODE = s.reg R.DEV_MODE)
    (hc : u.fld R.DEV_SAFE_CAUSE ⟨11, 0⟩ ||| c = s.fld R.DEV_SAFE_CAUSE ⟨11, 0⟩ ||| c) : EntersSafe c s t := by
  have em : u.mode = s.mode := State.mode_of_reg hm
  obtain ⟨h1, h2, h3, h4⟩ := h
  rw [em] at h2 h3 h4
  rw [hc] at h1
  exact ⟨h1, h2, h3, h4⟩

theorem Alter.sto_patch {s t : State}
    (a : Alter (2 ^ 38 ||| 2 ^ 65 ||| 2 ^ 66 ||| 2 ^ 67 ||| 2 ^ 69 ||| 2 ^ 109 ||| 2 ^ 110) s t) :
    t = { s with el := t.el, dt := t.dt, regs := t.regs, stoHigh := t.stoHigh, stoTold := t.stoTold, boot := t.boot } :=
  a.eq_patch

/-! ### An entry of the journal -/

theorem haltAsk_ents (p why : Nat) (s : State) : (haltAsk p why s).glove.ents = s.glove.ents := by
  unfold haltAsk
  split
  · rfl
  · rfl

theorem jPut_ents (src : Nat) (body : JBody) (s : State) :
    (jPut src body s).glove.ents.length = s.glove.ents.length + 1 := by
  unfold jPut
  extract_lets seq k iv n x g s1 s2 s3
  have h1 : s1.glove.ents = s.glove.ents ++ [x] := rfl
  have h3 : s3.glove = s1.glove := by
    unfold s3 jShow s2
    rw [State.setFld_glove, State.setFld_glove, State.setFld_glove]
  have hl : s3.glove.ents.length = s.glove.ents.length + 1 := by rw [h3, h1, List.length_append]; rfl
  clear_value s3
  split
  · unfold breakMet
    split
    · rw [haltAsk_ents, hl]
    · exact hl
  · unfold jDefer
    extract_lets s4 run g' s5
    have h4 : g' = s3.glove := by
      unfold g' s4
      rw [State.setBit_glove, State.incFld_glove]
    have h5 : s5.glove.ents = s3.glove.ents := by
      rw [← h4]
    clear_value s5
    split
    · rw [h5, hl]
    · rw [State.raise_glove, h5, hl]

theorem jWrite_takes (src : Nat) (body : JBody) {s : State} (hon : s.glove.on = true) (hj : jStopped s = false)
    (hl : s.glove.ents.length < 8192) : (jWrite src body s).glove.ents.length = s.glove.ents.length + 1 := by
  unfold jWrite
  rw [if_neg (by rw [hon]; decide), if_neg (by rw [hj]; decide), if_neg (by omega)]
  exact jPut_ents src body s

/-! ### The rows -/

theorem stoWatched_run {s : State} (h : s.boot.phase = .run) (e : Nat) : stoWatched (s.tick e) = true := by
  unfold stoWatched
  rw [State.tick_boot, h]
  rfl

/-- An input low past its filter. -/
theorem stoFilterExpiry_enters (e : Nat) (p : Fin 2) {s : State} (hp : s.boot.phase = .run) (hm : s.mode ≠ Mode.standby) :
    Answers (.stoFilterExpiry e p) s fun t =>
       t.bit R.DEV_STO_STAT (stoFld p) = false ∧ t.stoHigh = none ∧ EntersSafe Cause.sto s t := by
  refine .of_next (t := stoFilter p (s.tick e)) rfl ?_
  unfold stoFilter
  rw [if_neg (by rw [stoWatched_run hp]; decide)]
  extract_lets u
  have hb : ((s.tick e).setBit R.DEV_STO_STAT (stoFld p) false).bit R.DEV_STO_STAT (stoFld p) = false :=
    State.bit_setBit_eq _ (stoFld_ok p)
  have ho : OnlyRegs [R.DEV_STO_STAT] s ((s.tick e).setBit R.DEV_STO_STAT (stoFld p) false) :=
    (OnlyRegs.tick e s).setBit _ _ (by decide)
  have hr : u.regs = ((s.tick e).setBit R.DEV_STO_STAT (stoFld p) false).regs := rfl
  have hh : u.stoHigh = none := by
    unfold u
    rw [stoChanged_high, if_neg (by rw [stoBoth_false p hb]; decide)]
  clear_value u
  have hj := jWrite_only 7 .none u
  have hjh : (jWrite 7 .none u).stoHigh = none := ((alter_jWrite ..).stoHigh rfl).trans hh
  generalize jWrite 7 .none u = v at hj hjh ⊢
  have hv : ∀ i, i ≠ R.DEV_STO_STAT → i ∉ journalRegs → v.reg i = s.reg i := fun i hi hn => by
    rw [hj i hn, Alter.reg_of_regs hr, ho i (by simpa using hi)]
  refine ⟨?_, ((alter_enterSafe ..).stoHigh rfl).trans hjh, (enterSafe_spec _ _ _ ?_).of_regs ?_ ?_⟩
  · rw [State.bit_of_reg (enterSafe_reg _ _ _ (by decide) (by decide)), State.bit_of_reg (hj R.DEV_STO_STAT (by decide)),
      State.bit_of_reg (Alter.reg_of_regs hr _), hb]
  · rwa [State.mode_of_reg (hv R.DEV_MODE (by decide) (by decide))]
  · exact hv R.DEV_MODE (by decide) (by decide)
  · exact hv R.DEV_SAFE_CAUSE (by decide) (by decide)

/-- The bit of the discrepancy, set, is the cause of it taken up. -/
theorem stoDiscrep_cause (s : State) :
    (s.setBit R.DEV_SAFE_CAUSE F.DEV_SAFE_CAUSE.STO_DISCREP true).fld R.DEV_SAFE_CAUSE ⟨11, 0⟩ =
      s.fld R.DEV_SAFE_CAUSE ⟨11, 0⟩ ||| Cause.stoDiscrep := by
  have hr : (s.setBit R.DEV_SAFE_CAUSE F.DEV_SAFE_CAUSE.STO_DISCREP true).reg R.DEV_SAFE_CAUSE =
      F.DEV_SAFE_CAUSE.STO_DISCREP.set (s.reg R.DEV_SAFE_CAUSE) 1 := State.reg_setFld_same ..
  unfold State.fld
  rw [hr]
  apply Nat.eq_of_testBit_eq
  intro b
  have h4 : Nat.testBit Cause.stoDiscrep b = decide (b = 2) := by
    rw [show Cause.stoDiscrep = 2 ^ 2 from rfl, Nat.testBit_two_pow]
    exact decide_eq_decide.mpr eq_comm
  rw [Nat.testBit_or, Fld.get_testBit, Fld.get_testBit, Fld.set_testBit _ _ _ (by decide) (by decide), h4]
  simp only [Fld.width, Nat.sub_zero, Nat.add_zero]
  obtain h | rfl | h : b < 2 ∨ b = 2 ∨ 2 < b := by omega
  · rw [if_pos h, decide_eq_false (by omega : ¬ b = 2), Bool.or_false]
  · simp
  · rw [if_neg (by omega), if_neg (by omega), decide_eq_false (by omega : ¬ b = 2), Bool.or_false]

/-- The discrepancy time expires. -/
theorem stoDiscrepancy_enters (e : Nat) {d : Nat} {s : State} (hp : s.boot.phase = .run) (hm : s.mode ≠ Mode.standby)
    (ht : s.stoTold = false) (hd : s.boot.stoDiff = some d) :
    Answers (.stoDiscrepancy e) s fun t =>
       t.stoTold = true ∧ EntersSafe Cause.stoDiscrep s t ∧
       (s.d0 = true → t.dt = max (s.dt + e) (d + 200000 * s.fld R.DEV_STO_CFG F.DEV_STO_CFG.DISCREP)) ∧ (LogReady s →
         Logs EV.STO_DISCREPANCY 0xFF s t) := by
  refine .of_next (t := stoDiscrepancy (s.tick e)) rfl ?_
  unfold stoDiscrepancy
  rw [State.tick_boot, hd]
  dsimp -zeta only
  rw [if_neg (by rw [stoWatched_run hp, State.tick_stoTold, ht]; decide)]
  extract_lets w x v
  have hw : w.regs = s.regs ∧ w.ev = s.ev ∧ w.boot = s.boot := ⟨rfl, rfl, rfl⟩
  have hwd : s.d0 = true → w.dt = max (s.dt + e) (d + 200000 * s.fld R.DEV_STO_CFG F.DEV_STO_CFG.DISCREP) :=
    fun h => State.until_dt h e _
  clear_value w
  obtain ⟨hwr, hwe, hwb⟩ := hw
  have hv : v.stoTold = true ∧ v.regs = (w.setBit R.DEV_SAFE_CAUSE F.DEV_SAFE_CAUSE.STO_DISCREP true).regs ∧ v.dt = w.dt ∧
      v.ev = w.ev ∧ v.boot = w.boot := ⟨rfl, rfl, rfl, rfl, rfl⟩
  clear_value v x
  obtain ⟨hvt, hvr, hvd, hve, hvb⟩ := hv
  have hev : v.ev = s.ev := hve.trans hwe
  have hcause : v.fld R.DEV_SAFE_CAUSE ⟨11, 0⟩ = s.fld R.DEV_SAFE_CAUSE ⟨11, 0⟩ ||| Cause.stoDiscrep := by
    rw [State.fld_of_reg (Alter.reg_of_regs hvr _), stoDiscrep_cause, State.fld_of_reg (Alter.reg_of_regs hwr _)]
  have hmode : v.reg R.DEV_MODE = s.reg R.DEV_MODE := by
    rw [Alter.reg_of_regs hvr, State.reg_setBit_ne _ _ _ (by decide), Alter.reg_of_regs hwr]
  generalize hvals : [(1, v.fld R.DEV_STO_STAT F.DEV_STO_STAT.STO_A), (1, v.fld R.DEV_STO_STAT F.DEV_STO_STAT.STO_B)] = vals
  have hq := State.raise_reg EV.STO_DISCREPANCY 0xFF vals v
  refine ⟨?_, EntersSafe.of_cause (u := v.raise EV.STO_DISCREPANCY 0xFF vals) (enterSafe_spec _ _ _ ?_) ?_ ?_, fun h => ?_, fun hr => ?_⟩
  · rw [(alter_enterSafe ..).stoTold rfl, (alter_raise ..).stoTold rfl, hvt]
  · rw [State.mode_of_reg (hq R.DEV_MODE (by decide)), State.mode_of_reg hmode]
    exact hm
  · exact (hq R.DEV_MODE (by decide)).trans hmode
  · rw [State.fld_of_reg (hq R.DEV_SAFE_CAUSE (by decide)), hcause, Nat.or_assoc, Nat.or_self]
  · rw [(alter_enterSafe ..).dt rfl, State.raise_dt, hvd, hwd h]
  · exact ((State.raise_logs _ _ _ _ (hr.congr (hvb.trans hwb) hev)).grows ((alter_raise ..).evGrows (by decide))
      (enterSafe_evGrows ..)).of_ev hev

/-- A level that returns is taken back at once. -/
theorem filteredLevelChange_returns (e : Nat) (p : Fin 2) {s : State} (hp : s.boot.phase = .run)
    (hb : s.bit R.DEV_STO_STAT (stoFld p) = false) :
    Answers (.filteredLevelChange e (p.castLE (by decide)) true) s fun t =>
       t.bit R.DEV_STO_STAT (stoFld p) = true ∧
       (stoBoth t = true → (s.stoHigh = none → t.stoHigh = some t.dt) ∧ t.stoTold = false ∧ t.boot.stoDiff = none) ∧
       (s.glove.on = false → OnlyRegs [R.DEV_STO_STAT] s t ∧ t =
       { s with el := t.el, dt := t.dt, regs := t.regs, stoHigh := t.stoHigh, stoTold := t.stoTold, boot := t.boot }) := by
  refine .of_next (t := levelChange p true (s.tick e)) rfl ?_
  unfold levelChange
  rw [if_neg (by rw [stoWatched_run hp]; decide), if_neg (by omega), if_neg (by rw [State.tick_bit, hb]; decide)]
  have hq : ((s.tick e).setBit R.DEV_STO_STAT (stoFld p) true).bit R.DEV_STO_STAT (stoFld p) = true :=
    State.bit_setBit_eq _ (stoFld_ok p)
  have ho : OnlyRegs [R.DEV_STO_STAT] s ((s.tick e).setBit R.DEV_STO_STAT (stoFld p) true) :=
    (OnlyRegs.tick e s).setBit _ _ (by decide)
  have hh : ((s.tick e).setBit R.DEV_STO_STAT (stoFld p) true).stoHigh = s.stoHigh := by
    rw [State.setBit_stoHigh, State.tick_stoHigh]
  have ha : Alter (2 ^ 38 ||| 2 ^ 65 ||| 2 ^ 66 ||| 2 ^ 67) s ((s.tick e).setBit R.DEV_STO_STAT (stoFld p) true) :=
    ((alter_tick ..).mono rfl).step (alter_setBit ..) rfl
  have hg : ((s.tick e).setBit R.DEV_STO_STAT (stoFld p) true).glove = s.glove := by
    rw [State.setBit_glove, State.tick_glove]
  generalize (s.tick e).setBit R.DEV_STO_STAT (stoFld p) true = u at *
  have hv : (stoChanged u).regs = u.regs ∧ (stoChanged u).glove = u.glove ∧ (stoChanged u).dt = u.dt := ⟨rfl, rfl, rfl⟩
  have hav := alter_stoChanged u
  have hvh := stoChanged_high u
  have hvb := stoChanged_both (s := u)
  generalize stoChanged u = v at *
  obtain ⟨hvr, hvg, hvd⟩ := hv
  have hj := alter_jWrite 7 .none v
  have hjr := jWrite_only 7 .none v R.DEV_STO_STAT (by decide)
  have hjoff := jWrite_off 7 .none (s := v)
  generalize jWrite 7 .none v = t at *
  have hst : t.reg R.DEV_STO_STAT = u.reg R.DEV_STO_STAT := hjr.trans (Alter.reg_of_regs hvr _)
  refine ⟨by rw [State.bit_of_reg hst, hq], fun hboth => ?_, fun hoff => ?_⟩
  · have hub : stoBoth u = true := by rwa [← stoBoth_of_reg hst]
    refine ⟨fun hn => ?_, (hj.stoTold rfl).trans (hvb hub).1, by rw [hj.boot rfl, (hvb hub).2]⟩
    rw [hj.stoHigh rfl, hvh, if_pos hub, hh, hn, hj.dt rfl, hvd]
    rfl
  · have et : t = v := hjoff (by rw [hvg, hg, hoff])
    subst et
    exact ⟨ho.congr hvr, Alter.sto_patch ((ha.mono rfl).step hav rfl)⟩

/-- The level of WAKE enters the journal. -/
theorem filteredLevelChange_wake (e : Nat) (level : Bool) {s : State} (hp : s.boot.phase = .run) (hon : s.glove.on = true)
    (hj : jStopped s = false) (hl : s.glove.ents.length < 8192) :
    Answers (.filteredLevelChange e 2 level) s fun t =>
       t.glove.ents.length = s.glove.ents.length + 1 ∧ t.reg R.DEV_STO_STAT = s.reg R.DEV_STO_STAT := by
  refine .of_next (t := levelChange 2 level (s.tick e)) rfl ?_
  unfold levelChange
  rw [if_neg (by rw [stoWatched_run hp]; decide), if_pos rfl]
  exact ⟨jWrite_takes 7 .none hon hj hl, jWrite_only 7 .none _ R.DEV_STO_STAT (by decide)⟩

/-- Settles O11: each row of the STO inputs by what the change of a filtered level, the journal and an entry to SAFE
leave. -/
theorem safeTorqueOff : Obligations.SafeTorqueOff := by
  unfold Obligations.SafeTorqueOff
  exact ⟨fun e p _ hp hm => stoFilterExpiry_enters e p hp hm, fun e _ _ hp hm ht hd => stoDiscrepancy_enters e hp hm ht hd,
    fun e p _ hp hb => filteredLevelChange_returns e p hp hb, fun e l _ hp hon hj hl => filteredLevelChange_wake e l hp hon hj hl⟩

end Sys2Proof.Machine
end

section
/-! SUPPORT. What a cold reset leaves, the first steps of the cold start, and the settling of O1 (R48, R50, R60). -/

namespace Sys2Proof.Machine

set_option Elab.async false

/-- A key that a filter keeps reads as before. -/
theorem AMap.get?_filter_of_kept {α : Type} (f : Nat × α → Bool) (m : AMap α) {i : Nat} (h : ∀ x, f (i, x) = true) :
    AMap.get? (m.filter f) i = AMap.get? m i := by
  induction m with
  | nil => rfl
  | cons p m ih =>
    obtain ⟨k, v⟩ := p
    by_cases hf : f (k, v) = true
    · rw [List.filter_cons_of_pos hf, AMap.get?, AMap.get?, ih]
    · have hk : k ≠ i := fun e => hf (by rw [e, h])
      rw [List.filter_cons_of_neg hf, AMap.get?, if_neg hk, ih]

/-- What every cold reset leaves (R58, R60, R61, R63). -/
structure ColdCleared (s t : State) : Prop where
  mode : t.mode = Mode.boot
  supply : t.reg R.DEV_SUPPLY = s.reg R.DEV_SUPPLY
  nfault : t.nfault = true
  sessions : t.sessions = []
  plant : t.plant = none
  trans : t.trans = none
  ports : t.ports = []
  glove : t.glove = {}
  key : t.key = s.key
  trips : t.trips = s.trips
  el : t.el = s.el

/-- A change of nothing but registers outside the DEV group and island records. -/
theorem ColdCleared.alter {s t u : State} (h : ColdCleared s t) (a : Alter (2 ^ 67 ||| 2 ^ 86) t u) : ColdCleared s u where
  mode := (State.mode_of_reg (a.dev _ (by decide) (by decide))).trans h.mode
  supply := (a.dev _ (by decide) (by decide)).trans h.supply
  nfault := (a.nfault (by decide)).trans h.nfault
  sessions := (a.sessions (by decide)).trans h.sessions
  plant := (a.plant (by decide)).trans h.plant
  trans := (a.trans (by decide)).trans h.trans
  ports := (a.ports (by decide)).trans h.ports
  glove := (a.glove (by decide)).trans h.glove
  key := (a.key (by decide)).trans h.key
  trips := (a.trips (by decide)).trans h.trips
  el := (a.el (by decide)).trans h.el

/-- A change of time and of the boot sequence's record. -/
theorem ColdCleared.of_regs {s t u : State} (h : ColdCleared s t) (hr : u.regs = t.regs)
    (h1 : u.nfault = t.nfault ∧ u.sessions = t.sessions ∧ u.plant = t.plant ∧ u.trans = t.trans ∧ u.ports = t.ports)
    (h2 : u.glove = t.glove ∧ u.key = t.key ∧ u.trips = t.trips ∧ u.el = t.el) : ColdCleared s u := by
  obtain ⟨e1, e2, e3, e4, e5⟩ := h1
  obtain ⟨e6, e7, e8, e9⟩ := h2
  exact {
    mode := (State.mode_of_reg (Alter.reg_of_regs hr _)).trans h.mode
    supply := (Alter.reg_of_regs hr _).trans h.supply
    nfault := e1.trans h.nfault
    sessions := e2.trans h.sessions
    plant := e3.trans h.plant
    trans := e4.trans h.trans
    ports := e5.trans h.ports
    glove := e6.trans h.glove
    key := e7.trans h.key
    trips := e8.trans h.trips
    el := e9.trans h.el }

theorem supply_kept {s t : State} {upd : Bool} (h : t.regs = s.regs.filter fun p => (keptRegs false upd).contains p.1) :
    t.reg R.DEV_SUPPLY = s.reg R.DEV_SUPPLY := by
  have hkept : (keptRegs false upd).contains R.DEV_SUPPLY = true := by cases upd <;> decide
  rw [State.reg, State.reg, AMap.getD, AMap.getD, h, AMap.get?_filter_of_kept _ _ fun _ => hkept]

theorem resetAll_cold (s : State) : ColdCleared s (resetAll false s) := by
  have hk : Alter (2 ^ 67 ||| 2 ^ 76 ||| 2 ^ 105 ||| 2 ^ 74) s (updReset (recEnd 0 s)) :=
    ((alter_recEnd 0 s).mono rfl).step (alter_updReset _) rfl
  have hs : (updReset (recEnd 0 s)).reg R.DEV_SUPPLY = s.reg R.DEV_SUPPLY := hk.low _ (by decide) (by decide)
  unfold resetAll
  extract_lets s1 s2 busy kept e1 e2 e3 t1 t2 t3 t4
  have e : s2 = updReset (recEnd 0 s) := rfl
  have h1 : ColdCleared s2 t1 :=
    ⟨mode_of_kept (s := s2) rfl, supply_kept (s := s2) rfl, rfl, rfl, rfl, rfl, rfl, rfl, rfl, rfl, rfl⟩
  clear_value t1
  have h2 : Alter (2 ^ 67 ||| 2 ^ 86) t1 t2 :=
    ((alter_lvKeep s2 t1).mono rfl).and (alter_forEach _ _ _ fun n x => (alter_islKeep s2 n x).mono rfl)
  clear_value t2
  have h3 : Alter (2 ^ 67 ||| 2 ^ 86) t2 t3 := by
    unfold t3
    split
    · exact (alter_setBit ..).mono (rm_high (by decide) rfl)
    · exact Alter.refl _ _
  clear_value t3
  have h4 : Alter (2 ^ 67 ||| 2 ^ 86) t3 t4 := (alter_setFld ..).mono (rm_high (by decide) rfl)
  have h5 : ColdCleared s2 (t4.setFld R.CMD_AUDIT_STAT F.CMD_AUDIT_STAT.FILL t4.audit.buf.length) := h1.alter (((h2.and h3).and h4).step (alter_setFld ..) (rm_high (by decide) rfl))
  rw [← e] at hk hs
  exact { h5 with
    supply := h5.supply.trans hs
    key := h5.key.trans (hk.key (by decide))
    trips := h5.trips.trans (hk.trips (by decide))
    el := h5.el.trans (hk.el (by decide)) }

/-- A part held in a cold reset at a place of the boot sequence: DT stands at 0. -/
structure ColdHeld (p : Phase) (s t : State) : Prop extends ColdCleared s t where
  dt : t.dt = 0
  kind : t.boot.kind = .cold
  phase : t.boot.phase = p

theorem coldCause_cleared {s t : State} (h : ColdCleared s t) : ColdCleared s (coldCause t) := by
  unfold coldCause
  extract_lets b
  generalize BitVec.ofNat 40 _ = v
  have hr : ∀ i, i ≠ R.DEV_RST_CAUSE → (t.setReg R.DEV_RST_CAUSE v).reg i = t.reg i := fun i hi => State.reg_setReg_ne _ _ hi
  exact { h with
    mode := (State.mode_of_reg (hr _ (by decide))).trans h.mode
    supply := (hr _ (by decide)).trans h.supply }

theorem coldCause_reg (s : State) : (coldCause s).reg R.DEV_RST_CAUSE =
    BitVec.ofNat 40 (if s.boot.powerOn then 1 else 2 * b2n s.boot.vcoreFell + 4 * b2n s.boot.vioFell) :=
  State.reg_setReg_same ..

theorem coldCause_rest (s : State) (i : Nat) (h : i ≠ R.DEV_RST_CAUSE) : (coldCause s).reg i = s.reg i :=
  State.reg_setReg_ne _ _ h

theorem coldCause_boot (s : State) : (coldCause s).boot = s.boot ∧ (coldCause s).dt = s.dt := ⟨rfl, rfl⟩

/-- Device time and the always-on logic begun anew. -/
def coldRestart (s : State) : State :=
  let b := s.boot
  { s with
    dt := 0
    boot := { phase := b.phase, kind := .cold, since := b.since, vcoreFell := b.vcoreFell, vioFell := b.vioFell
              powerOn := b.powerOn, rtcAt := s.el } }

theorem coldHold_eq (s : State) : coldHold s = coldCause (coldRestart (resetAll false s)) := rfl

theorem coldRestart_cleared {s u : State} (h : ColdCleared s u) : ColdCleared s (coldRestart u) :=
  h.of_regs rfl ⟨rfl, rfl, rfl, rfl, rfl⟩ ⟨rfl, rfl, rfl, rfl⟩

theorem coldRestart_dt (s : State) : (coldRestart s).dt = 0 ∧ (coldRestart s).boot.kind = .cold := ⟨rfl, rfl⟩

theorem bootAt_cleared (p : Phase) {s u : State} (h : ColdCleared s u) : ColdCleared s (bootAt p u) :=
  h.of_regs rfl ⟨rfl, rfl, rfl, rfl, rfl⟩ ⟨rfl, rfl, rfl, rfl⟩

theorem bootAt_held (p : Phase) {s u : State} (h : ColdCleared s u) (hd : u.dt = 0 ∧ u.boot.kind = .cold) :
    ColdHeld p s (bootAt p u) :=
  { bootAt_cleared p h with dt := hd.1, kind := hd.2, phase := rfl }

theorem coldHold_held (p : Phase) (s : State) : ColdHeld p s (bootAt p (coldHold s)) := by
  have hc := coldRestart_cleared (resetAll_cold s)
  have hd := coldRestart_dt (resetAll false s)
  rw [coldHold_eq]
  generalize coldRestart (resetAll false s) = w at hc hd ⊢
  have hx := coldCause_cleared hc
  obtain ⟨e1, e2⟩ := coldCause_boot w
  generalize coldCause w = x at *
  exact bootAt_held p hx ⟨e2.trans hd.1, (congrArg Boot.kind e1).trans hd.2⟩

theorem Alter.boot_patch {s t : State} (a : Alter (2 ^ 35 ||| 2 ^ 36 ||| 2 ^ 65 ||| 2 ^ 66 ||| 2 ^ 67 ||| 2 ^ 69) s t)
    (h : t.dt = s.dt) : t = { s with el := t.el, boot := t.boot, regs := t.regs } := by
  have e : t = { s with el := t.el, dt := t.dt, boot := t.boot, regs := t.regs } := a.eq_patch
  rwa [h] at e

/-- A bit cleared where a condition holds. -/
theorem State.bit_clear_if {i : Nat} {f : Fld} (hf : Fld.Ok f) (b : Bool) (s : State) :
    (if b then s.setBit i f false else s).bit i f = (s.bit i f && !b) := by
  cases b
  · exact (Bool.and_true _).symm
  · rw [if_pos rfl, State.bit_setBit_eq _ hf, Bool.not_true, Bool.and_false]

theorem State.bit_clear_if_beside {i : Nat} {f g : Fld} (h : Fld.Beside f g) (b : Bool) (s : State) :
    (if b then s.setBit i g false else s).bit i f = s.bit i f := by
  cases b
  · rfl
  · rw [if_pos rfl, State.bit_setBit_beside _ h]

/-! ### The three rows -/

/-- Both core supplies told good. -/
def suppliesUp (below : Bool) (s : State) : State :=
  let s := { s with boot := { s.boot with powerOn := s.boot.powerOn || below } }
  (s.setBit R.DEV_SUPPLY F.DEV_SUPPLY.VCORE_OK true).setBit R.DEV_SUPPLY F.DEV_SUPPLY.VIO_OK true

theorem supplyGood_eq (below : Bool) {s : State} (h : s.boot.phase = .off) :
    supplyGood below s = bootAt .wait (coldCause (suppliesUp below s)) := by
  unfold supplyGood
  rw [if_neg (by rw [h]; decide)]
  rfl

/-- Both core supplies good start the wait. -/
theorem supplyGood_waits (e : Nat) (below : Bool) {s : State} (h : s.boot.phase = .off) :
    Answers (.supplyGood e below) s fun t =>
       t.boot.phase = .wait ∧ t.boot.since = s.el + e ∧
       t.bit R.DEV_SUPPLY F.DEV_SUPPLY.VCORE_OK = true ∧ t.bit R.DEV_SUPPLY F.DEV_SUPPLY.VIO_OK = true ∧
       t.reg R.DEV_RST_CAUSE = BitVec.ofNat 40 (if s.boot.powerOn || below then 1
       else 2 * b2n s.boot.vcoreFell + 4 * b2n s.boot.vioFell) ∧
       t = { s with el := t.el, boot := t.boot, regs := t.regs } ∧ OnlyRegs [R.DEV_SUPPLY, R.DEV_RST_CAUSE] s t := by
  refine .of_next (t := supplyGood below (s.tick e)) rfl ?_
  rw [supplyGood_eq below (by exact h)]
  have hb : (suppliesUp below (s.tick e)).boot.powerOn = (s.boot.powerOn || below) ∧
      (suppliesUp below (s.tick e)).boot.vcoreFell = s.boot.vcoreFell ∧
      (suppliesUp below (s.tick e)).boot.vioFell = s.boot.vioFell ∧ (suppliesUp below (s.tick e)).el = s.el + e := by
    unfold suppliesUp
    rw [State.setBit_boot, State.setBit_boot, State.setBit_el, State.setBit_el]
    exact ⟨rfl, rfl, rfl, rfl⟩
  have ho : OnlyRegs [R.DEV_SUPPLY] s (suppliesUp below (s.tick e)) := by
    unfold suppliesUp
    extract_lets b u
    have hu : OnlyRegs [R.DEV_SUPPLY] s u := .of_regs rfl
    clear_value u
    exact (hu.setBit _ _ (by decide)).setBit _ _ (by decide)
  have ha : Alter (2 ^ 36 ||| 2 ^ 65 ||| 2 ^ 66 ||| 2 ^ 67 ||| 2 ^ 69) s (suppliesUp below (s.tick e)) := by
    unfold suppliesUp
    exact ((((alter_tick ..).mono rfl).step (alter_boot ..) rfl).step (alter_setBit ..) rfl).step (alter_setBit ..) rfl
  have hd : (suppliesUp below (s.tick e)).dt = s.dt := by
    unfold suppliesUp
    rw [State.setBit_dt, State.setBit_dt]
    unfold State.tick State.d0
    rw [h]
    rfl
  have hq : (suppliesUp below (s.tick e)).bit R.DEV_SUPPLY F.DEV_SUPPLY.VCORE_OK = true ∧
      (suppliesUp below (s.tick e)).bit R.DEV_SUPPLY F.DEV_SUPPLY.VIO_OK = true := by
    unfold suppliesUp
    rw [State.bit_setBit_beside _ (by decide), State.bit_setBit_eq _ (by decide), State.bit_setBit_eq _ (by decide)]
    exact ⟨rfl, rfl⟩
  generalize suppliesUp below (s.tick e) = u at *
  obtain ⟨b1, b2, b3, b4⟩ := hb
  have hc := coldCause_rest u
  have hr := coldCause_reg u
  have hac := alter_coldCause u
  obtain ⟨eb, -⟩ := coldCause_boot u
  generalize coldCause u = v at *
  have hw : ∀ i, (bootAt .wait v).reg i = v.reg i := fun i => rfl
  have hp : (bootAt .wait v).boot.phase = .wait ∧ (bootAt .wait v).boot.since = v.el := ⟨rfl, rfl⟩
  have hab := alter_bootAt .wait v
  generalize bootAt .wait v = t at *
  refine ⟨hp.1, ?_, ?_, ?_, ?_, Alter.boot_patch (((ha.mono rfl).step hac rfl).step hab rfl) ?_, fun i hi => ?_⟩
  · rw [hp.2, hac.el (by decide), b4]
  · rw [State.bit_of_reg (hw _), State.bit_of_reg (hc _ (by decide)), hq.1]
  · rw [State.bit_of_reg (hw _), State.bit_of_reg (hc _ (by decide)), hq.2]
  · rw [hw, hr, b1, b2, b3]
  · rw [hab.dt rfl, hac.dt rfl, hd]
  · rw [hw, hc i (ne_of_mem_of_not_mem (by decide) hi).symm, ho i fun h => hi (List.mem_append_left [R.DEV_RST_CAUSE] h)]

/-- The wait ends. -/
theorem resetRelease_clocks (e : Nat) {s : State} (h : s.boot.phase = .wait) :
    Answers (.resetRelease e) s fun t =>
       t.boot.phase = .clock ∧ t.el = max (s.el + e) (s.boot.since + 388000) ∧ t.dt = 0 ∧ t.mode = Mode.boot ∧
       t.nfault = true ∧ t.key = s.key := by
  refine .of_next (t := resetRelease (s.tick e)) rfl ?_
  unfold resetRelease
  rw [if_neg (by rw [State.tick_boot, h]; decide)]
  have hc := coldHold_held .clock ((s.tick e).tick ((s.tick e).boot.since + 388000 - (s.tick e).el))
  generalize bootAt Phase.clock (coldHold ((s.tick e).tick ((s.tick e).boot.since + 388000 - (s.tick e).el))) = t at hc ⊢
  refine ⟨hc.phase, hc.el.trans ?_, hc.dt, hc.mode, hc.nfault, hc.key⟩
  rw [State.tick_el, State.tick_el, State.tick_boot]
  omega

/-- A core supply falls. -/
theorem supplyFall_holds (e : Nat) (vcore vio : Bool) {s : State} (h : (vcore || vio) = true) :
    Answers (.supplyFall e vcore vio) s fun t =>
       t.boot.phase = .off ∧ t.boot.kind = .cold ∧ t.dt = 0 ∧ t.mode = Mode.boot ∧ t.nfault = true ∧
       t.bit R.DEV_SUPPLY F.DEV_SUPPLY.VCORE_OK = (s.bit R.DEV_SUPPLY F.DEV_SUPPLY.VCORE_OK && !vcore) ∧
       t.bit R.DEV_SUPPLY F.DEV_SUPPLY.VIO_OK = (s.bit R.DEV_SUPPLY F.DEV_SUPPLY.VIO_OK && !vio) ∧
       t.sessions = [] ∧ t.plant = none ∧ t.trans = none ∧ t.ports = [] ∧ t.glove = {} ∧
       t.key = s.key ∧ t.trips = s.trips ∧ t.el = s.el + e := by
  refine .of_next (t := supplyFall vcore vio (s.tick e)) rfl ?_
  unfold supplyFall
  rw [if_neg (by revert h; cases vcore <;> cases vio <;> decide)]
  extract_lets held b y x v w
  have hx : x.regs = s.regs := rfl
  have ax : Alter (2 ^ 36 ||| 2 ^ 65 ||| 2 ^ 66 ||| 2 ^ 67 ||| 2 ^ 69) s x ∧ x.el = s.el + e :=
    ⟨((alter_tick e s).mono rfl).step (alter_boot _ _) rfl, rfl⟩
  clear_value x
  have av : Alter (2 ^ 36 ||| 2 ^ 65 ||| 2 ^ 66 ||| 2 ^ 67 ||| 2 ^ 69) s v := by
    unfold v
    split
    · exact ax.1.step (alter_setBit ..) rfl
    · exact ax.1
  have ev : v.el = s.el + e := by
    unfold v
    split
    · rw [State.setBit_el, ax.2]
    · exact ax.2
  have aw : Alter (2 ^ 36 ||| 2 ^ 65 ||| 2 ^ 66 ||| 2 ^ 67 ||| 2 ^ 69) s w := by
    unfold w
    split
    · exact av.step (alter_setBit ..) rfl
    · exact av
  have ew : w.el = s.el + e := by
    unfold w
    split
    · rw [State.setBit_el, ev]
    · exact ev
  have hcore : w.bit R.DEV_SUPPLY F.DEV_SUPPLY.VCORE_OK = (s.bit R.DEV_SUPPLY F.DEV_SUPPLY.VCORE_OK && !vcore) := by
    unfold w v
    rw [State.bit_clear_if_beside (by decide), State.bit_clear_if (by decide), State.bit_of_reg (Alter.reg_of_regs hx _)]
  have hio : w.bit R.DEV_SUPPLY F.DEV_SUPPLY.VIO_OK = (s.bit R.DEV_SUPPLY F.DEV_SUPPLY.VIO_OK && !vio) := by
    unfold w v
    rw [State.bit_clear_if (by decide), State.bit_clear_if_beside (by decide), State.bit_of_reg (Alter.reg_of_regs hx _)]
  clear_value w
  have hc := coldHold_held .off w
  generalize bootAt Phase.off (coldHold w) = t at hc ⊢
  exact ⟨hc.phase, hc.kind, hc.dt, hc.mode, hc.nfault, by rw [State.bit_of_reg hc.supply, hcore],
    by rw [State.bit_of_reg hc.supply, hio], hc.sessions, hc.plant, hc.trans, hc.ports, hc.glove,
    hc.key.trans (aw.key rfl), hc.trips.trans (aw.trips rfl), hc.el.trans ew⟩

/-- Settles O1: a cold reset by what everything returned to its reset value leaves, and the rows around it. -/
theorem coldStartBegins : Obligations.ColdStartBegins := by
  unfold Obligations.ColdStartBegins
  exact ⟨fun e b _ h => supplyGood_waits e b h, fun e _ h => resetRelease_clocks e h,
    fun e a b _ h => supplyFall_holds e a b h⟩

end Sys2Proof.Machine
end

section
/-! SUPPORT. The mode's word as a mode is put in force, steps 4 and 5 of the cold start, and the settling of O4 (R46, R52, R524,
R530, R651). -/

namespace Sys2Proof.Machine

set_option Elab.async false

/-! ### The mode's word -/

/-- The mode's word with a mode in force: MODE and TARGET name it, no transition shows (R46). -/
def modeWord (new : Nat) (v : Reg) : Reg :=
  F.DEV_MODE.TRANSIT.set (F.DEV_MODE.TARGET.set (F.DEV_MODE.MODE.set v new) new) 0

theorem modeWord_transit (new : Nat) (v : Reg) : F.DEV_MODE.TRANSIT.get (modeWord new v) = 0 :=
  Fld.get_set_same _ _ _ (by decide) (by decide)

theorem modeWord_target (new : Nat) (v : Reg) : F.DEV_MODE.TARGET.get (modeWord new v) = new % 8 :=
  (Fld.get_set_other _ _ _ _ (by decide) (by decide) (by decide) (by decide)).trans
    (Fld.get_set_same _ _ _ (by decide) (by decide))

theorem modeWord_mode (new : Nat) (v : Reg) : F.DEV_MODE.MODE.get (modeWord new v) = new % 8 :=
  (Fld.get_set_other _ _ _ _ (by decide) (by decide) (by decide) (by decide)).trans
    ((Fld.get_set_other _ _ _ _ (by decide) (by decide) (by decide) (by decide)).trans
      (Fld.get_set_same _ _ _ (by decide) (by decide)))

theorem modeWord_bootFail (new : Nat) (v : Reg) :
    F.DEV_MODE.BOOT_FAIL.get (modeWord new v) = F.DEV_MODE.BOOT_FAIL.get v :=
  (Fld.get_set_other _ _ _ _ (by decide) (by decide) (by decide) (by decide)).trans
    ((Fld.get_set_other _ _ _ _ (by decide) (by decide) (by decide) (by decide)).trans
      (Fld.get_set_other _ _ _ _ (by decide) (by decide) (by decide) (by decide)))

/-- The mode's word as a mode is put in force, with no discharge in progress. -/
theorem putMode_word (new : Nat) (forced : Bool) (r : Req) (s : State) (hd : s.discharging = false) :
    (putMode new forced r s).reg R.DEV_MODE = modeWord new (s.reg R.DEV_MODE) := by
  unfold putMode
  extract_lets old s1 s2 s3 s4
  have w1 : s1.reg R.DEV_MODE = modeWord new (s.reg R.DEV_MODE) := by
    unfold s1 State.setBit
    rw [State.reg_setFld_same, State.reg_setFld_same, State.reg_setFld_same]
    rfl
  have d1 : s1.discharging = false := by
    unfold s1
    rw [State.setBit_discharging, State.setFld_discharging, State.setFld_discharging, hd]
  clear_value s1
  have a2 : Alter putM s1 s2 := by
    unfold s2
    exact ((alter_trans ..).mono rfl).step (alter_carriesClear ..) rfl
  clear_value s2
  have a3 : Alter putM s2 s3 := by
    unfold s3
    split
    · exact Alter.refl _ _
    · exact (alter_verdictsEnd ..).mono rfl
  clear_value s3
  have a4 : Alter putM s3 (s4.raise EV.MODE 0xFF [(1, old), (1, new), (1, b2n forced)]) := by
    unfold s4
    exact ((alter_auditAdd ..).mono rfl).step (alter_raise ..) rfl
  clear_value s4
  generalize s4.raise EV.MODE 0xFF [(1, old), (1, new), (1, b2n forced)] = s5 at a4 ⊢
  have a : Alter putM s1 s5 := (a2.and a3).and a4
  rw [(linkEval_dev s5 ((a.discharging rfl).trans d1)).1 _ (by decide), a.dev _ (by decide) (by decide), w1]

/-- The mode's word as SAFE is entered. -/
theorem safeEntry_word (r : Req) (s : State) : (safeEntry r s).reg R.DEV_MODE = modeWord Mode.safe (s.reg R.DEV_MODE) := by
  unfold safeEntry
  extract_lets s1 s2 s3 s4 s5 s6
  have h1 : s1.discharging = false ∧ s1.reg R.DEV_MODE = s.reg R.DEV_MODE := by
    unfold s1
    exact ⟨(alter_gloveResume _).discharging rfl, (alter_gloveResume _).low _ (by decide) (by decide)⟩
  clear_value s1
  have a6 : Alter safeM s1 s6 := by
    unfold s6 s5 s4 s3 s2
    refine Alter.step ?_ (alter_raise ..) rfl
    refine Alter.step ?_ (alter_setBit ..) (rm_high (by decide) rfl)
    refine Alter.step ?_ (alter_lvBrakeAll ..) rfl
    refine Alter.step ?_ (alter_selHold ..) rfl
    refine Alter.step ?_ (alter_selHold ..) rfl
    refine Alter.step ?_ (alter_stagesOff ..) rfl
    exact (alter_forceEnd ..).mono rfl
  clear_value s6
  rw [(alter_dropAll ..).dev _ (by decide) (by decide), putMode_word _ _ _ _ ((a6.discharging rfl).trans h1.1),
    a6.dev _ (by decide) (by decide), h1.2]

/-- An entry to SAFE leaves the report of a boot failure. -/
theorem enterSafe_bootFail (c : Nat) (r : Req) (s : State) :
    (enterSafe c r s).bit R.DEV_MODE F.DEV_MODE.BOOT_FAIL = s.bit R.DEV_MODE F.DEV_MODE.BOOT_FAIL := by
  unfold enterSafe
  split
  · rfl
  · extract_lets s1 s2
    have h1 : s1.reg R.DEV_MODE = s.reg R.DEV_MODE := State.reg_setFld_ne _ _ _ (by decide)
    clear_value s1
    split
    · split
      · have h2 : s2.bit R.DEV_MODE F.DEV_MODE.BOOT_FAIL = s1.bit R.DEV_MODE F.DEV_MODE.BOOT_FAIL := by
          unfold s2
          rw [State.bit_setFld_beside _ (by decide), State.bit_setBit_beside _ (by decide)]
        clear_value s2
        rw [State.bit_of_reg ((alter_dropAll ..).dev _ (by decide) (by decide)), ← State.bit_of_reg h1, ← h2]
        exact State.bit_of_reg (Alter.reg_of_regs rfl _) _
      · exact State.bit_of_reg h1 _
    · split
      · exact State.bit_of_reg h1 _
      · unfold State.bit State.fld
        rw [safeEntry_word, modeWord_bootFail, h1]

/-- During boot an entry to SAFE only records its causes (R41). -/
theorem enterSafe_boot (c : Nat) (r : Req) {s : State} (h : s.mode = Mode.boot) :
    enterSafe c r s = s.setFld R.DEV_SAFE_CAUSE ⟨11, 0⟩ (s.fld R.DEV_SAFE_CAUSE ⟨11, 0⟩ ||| c) := by
  unfold enterSafe
  have hm : (s.setFld R.DEV_SAFE_CAUSE ⟨11, 0⟩ (s.fld R.DEV_SAFE_CAUSE ⟨11, 0⟩ ||| c)).mode = Mode.boot :=
    (State.mode_of_reg (State.reg_setFld_ne _ _ _ (by decide))).trans h
  rw [if_neg (by rw [h]; decide)]
  extract_lets s1 s2
  have hm1 : s1.mode = Mode.boot := hm
  rw [if_neg (by rw [hm1]; decide), if_pos hm1]

/-! ### The rows -/

/-- What step 4 restores from storage whatever the image's checks found. -/
def imageRestores (life : Bool) (s : State) : State :=
  mapReload 1 (mapReload 0 (demagRestore (lifeRestore (s.boot.kind == .warm && life) s)))

theorem imageRestores_keeps (life : Bool) (s : State) :
    (imageRestores life s).boot = s.boot ∧ (imageRestores life s).reg R.DEV_MODE = s.reg R.DEV_MODE := by
  unfold imageRestores
  exact ⟨by rw [(alter_mapReload ..).boot rfl, (alter_mapReload ..).boot rfl, (alter_demagRestore _).boot rfl,
      (alter_lifeRestore ..).boot rfl],
    by rw [(alter_mapReload ..).low _ (by decide) (by decide), (alter_mapReload ..).low _ (by decide) (by decide),
      (alter_demagRestore _).low _ (by decide) (by decide), (alter_lifeRestore ..).low _ (by decide) (by decide)]⟩

/-- The image's release runs, its checks having passed. -/
def imageRuns (s : State) : State := { imageRun s with boot := { s.boot with imageBad := false } }

theorem imageLoad_eq (d0 d1 : Option EmmcInfo) (img life : Bool) (s : State) : imageLoad d0 d1 img life s =
    if s.boot.phase != .image then s
    else bootAt .selftest (imageRestores life (if imageGood (bootDevices d0 d1 s) img then imageRuns (bootDevices d0 d1 s)
      else bootFails (bootDevices d0 d1 s))) := rfl

theorem imageRuns_spec (s : State) : (imageRuns s).boot.imageBad = false ∧ (imageRuns s).reg R.DEV_MODE = s.reg R.DEV_MODE := by
  have hr : (imageRun s).reg R.DEV_MODE = s.reg R.DEV_MODE := (alter_imageRun _).low _ (by decide) (by decide)
  unfold imageRuns
  generalize imageRun s = x at hr ⊢
  exact ⟨rfl, (Alter.reg_of_regs rfl _).trans hr⟩

/-- The report of a boot failure, with its event. -/
def bootFailTold (s : State) : State :=
  let s := s.setBit R.DEV_MODE F.DEV_MODE.BOOT_FAIL true
  { s with boot := { s.boot with imageBad := true } }

theorem bootFails_eq (s : State) : bootFails s =
    enterSafe Cause.bootFail reqInternal ((bootFailTold s).raise EV.BOOT_FAIL 0xFF []) := rfl

/-- The boot failure of R52. -/
theorem bootFails_spec (s : State) : (bootFails s).boot.imageBad = true ∧
    (bootFails s).bit R.DEV_MODE F.DEV_MODE.BOOT_FAIL = true := by
  have hb : (s.setBit R.DEV_MODE F.DEV_MODE.BOOT_FAIL true).bit R.DEV_MODE F.DEV_MODE.BOOT_FAIL = true :=
    State.bit_setBit_eq _ (by decide)
  have ht : (bootFailTold s).boot.imageBad = true ∧ (bootFailTold s).bit R.DEV_MODE F.DEV_MODE.BOOT_FAIL = true := by
    unfold bootFailTold
    generalize s.setBit R.DEV_MODE F.DEV_MODE.BOOT_FAIL true = x at hb ⊢
    exact ⟨rfl, (State.bit_of_reg (Alter.reg_of_regs rfl _) _).trans hb⟩
  rw [bootFails_eq]
  generalize bootFailTold s = x at ht ⊢
  exact ⟨by rw [(alter_enterSafe ..).boot rfl, State.raise_boot, ht.1],
    by rw [enterSafe_bootFail, State.bit_raise _ _ _ (by decide), ht.2]⟩

/-- A state at a place of the boot sequence. -/
theorem bootAt_keeps (p : Phase) (s : State) : (bootAt p s).boot.phase = p ∧ (bootAt p s).boot.imageBad = s.boot.imageBad ∧
    (bootAt p s).regs = s.regs := ⟨rfl, rfl, rfl⟩

/-- The image's checks fail. -/
theorem bootImageLoad_bad (e : Nat) (d0 d1 : Option EmmcInfo) (life : Bool) {s : State} (h : s.boot.phase = .image) :
    Answers (.bootImageLoad e d0 d1 false life) s fun t =>
       t.boot.phase = .selftest ∧ t.boot.imageBad = true ∧ t.bit R.DEV_MODE F.DEV_MODE.BOOT_FAIL = true := by
  refine .of_next (t := imageLoad d0 d1 false life (s.tick e)) rfl ?_
  have hg : imageGood (bootDevices d0 d1 (s.tick e)) false = false := by
    unfold imageGood
    rw [Bool.false_and, Bool.false_and]
  rw [imageLoad_eq, if_neg (by rw [State.tick_boot, h]; decide), if_neg (by rw [hg]; decide)]
  obtain ⟨f1, f2⟩ := bootFails_spec (bootDevices d0 d1 (s.tick e))
  generalize bootFails (bootDevices d0 d1 (s.tick e)) = u at *
  obtain ⟨k1, k2⟩ := imageRestores_keeps life u
  generalize imageRestores life u = v at *
  obtain ⟨b1, b2, b3⟩ := bootAt_keeps .selftest v
  exact ⟨b1, by rw [b2, k1, f1], by rw [State.bit_of_reg (Alter.reg_of_regs b3 _), State.bit_of_reg k2, f2]⟩

/-- The image's checks pass. -/
theorem bootImageLoad_good (e : Nat) (d0 d1 : Option EmmcInfo) (life : Bool) {s : State} (h : s.boot.phase = .image)
    (hg : imageGood (bootDevices d0 d1 (s.tick e)) true = true) :
    Answers (.bootImageLoad e d0 d1 true life) s fun t =>
       t.boot.phase = .selftest ∧ t.boot.imageBad = false ∧ t.reg R.DEV_MODE = s.reg R.DEV_MODE := by
  refine .of_next (t := imageLoad d0 d1 true life (s.tick e)) rfl ?_
  rw [imageLoad_eq, if_neg (by rw [State.tick_boot, h]; decide), if_pos hg]
  have hd : (bootDevices d0 d1 (s.tick e)).reg R.DEV_MODE = s.reg R.DEV_MODE :=
    (alter_bootDevices ..).low _ (by decide) (by decide)
  generalize bootDevices d0 d1 (s.tick e) = x at *
  obtain ⟨f1, f2⟩ := imageRuns_spec x
  generalize imageRuns x = u at *
  obtain ⟨k1, k2⟩ := imageRestores_keeps life u
  generalize imageRestores life u = v at *
  obtain ⟨b1, b2, b3⟩ := bootAt_keeps .selftest v
  exact ⟨b1, by rw [b2, k1, f1], by rw [Alter.reg_of_regs b3, k2, f2, hd]⟩

/-- The glove pair as its cores start with the next whole interval. -/
def gloveStarts (pass : Bool) (s : State) : State :=
  { s with
    glove := { on := true, testBad := !pass, next := s.dt / 10000 + 1, rel := s.dt / 10000 + 1, agreeAt := s.dt }
    boot := { s.boot with phase := .plant, since := s.el } }

theorem gloveTest_eq (pass : Bool) {s : State} (h : s.boot.phase = .selftest) : gloveTest pass s =
    if pass then gloveStarts pass (s.setBit R.GLV_STAT F.GLV_STAT.SELFTEST_OK pass)
    else enterSafe Cause.glove reqInternal
      ((gloveStarts pass (s.setBit R.GLV_STAT F.GLV_STAT.SELFTEST_OK pass)).raise EV.GLOVE_SELFTEST 0xFF []) := by
  unfold gloveTest
  rw [if_neg (by rw [h]; decide)]
  rfl

/-- The cores started. -/
structure GloveStarted (pass : Bool) (t : State) : Prop where
  phase : t.boot.phase = .plant
  on : t.glove.on = true
  testBad : t.glove.testBad = !pass
  next : t.glove.next = t.dt / 10000 + 1

theorem gloveStarts_started (pass : Bool) (s : State) : GloveStarted pass (gloveStarts pass s) := ⟨rfl, rfl, rfl, rfl⟩

theorem gloveStarts_regs (pass : Bool) (s : State) : (gloveStarts pass s).regs = s.regs := rfl

theorem alter_gloveStarts (pass : Bool) (s : State) : Alter (2 ^ 69 ||| 2 ^ 106) s (gloveStarts pass s) := by
  have h : Alter (2 ^ 69 ||| 2 ^ 106) s { s with glove := (gloveStarts pass s).glove } := (alter_glove ..).mono rfl
  exact h.step (alter_boot _ (gloveStarts pass s).boot) rfl

theorem Alter.glove_patch {s t : State} (a : Alter (2 ^ 65 ||| 2 ^ 66 ||| 2 ^ 67 ||| 2 ^ 69 ||| 2 ^ 106) s t) :
    t = { s with el := t.el, dt := t.dt, boot := t.boot, glove := t.glove, regs := t.regs } := a.eq_patch

/-- The self-test passes. -/
theorem gloveSelftest_passes (e : Nat) {s : State} (h : s.boot.phase = .selftest) :
    Answers (.gloveSelftest e true) s fun t =>
       t.boot.phase = .plant ∧ t.bit R.GLV_STAT F.GLV_STAT.SELFTEST_OK = true ∧ t.glove.on = true ∧
       t.glove.testBad = false ∧
       t.glove.next = t.dt / 10000 + 1 ∧
       t = { s with el := t.el, dt := t.dt, boot := t.boot, glove := t.glove, regs := t.regs } ∧
       OnlyRegs [R.GLV_STAT] s t := by
  refine .of_next (t := gloveTest true (s.tick e)) rfl ?_
  rw [gloveTest_eq true (by exact h), if_pos rfl]
  have hb : ((s.tick e).setBit R.GLV_STAT F.GLV_STAT.SELFTEST_OK true).bit R.GLV_STAT F.GLV_STAT.SELFTEST_OK = true :=
    State.bit_setBit_eq _ (by decide)
  have ho : OnlyRegs [R.GLV_STAT] s ((s.tick e).setBit R.GLV_STAT F.GLV_STAT.SELFTEST_OK true) :=
    (OnlyRegs.tick e s).setBit _ _ (by decide)
  have ha : Alter (2 ^ 65 ||| 2 ^ 66 ||| 2 ^ 67) s ((s.tick e).setBit R.GLV_STAT F.GLV_STAT.SELFTEST_OK true) :=
    ((alter_tick ..).mono rfl).step (alter_setBit ..) (rm_high (by decide) rfl)
  generalize (s.tick e).setBit R.GLV_STAT F.GLV_STAT.SELFTEST_OK true = x at *
  have hr := gloveStarts_regs true x
  have hat := alter_gloveStarts true x
  obtain ⟨g1, g2, g3, g4⟩ := gloveStarts_started true x
  generalize gloveStarts true x = t at *
  exact ⟨g1, by rw [State.bit_of_reg (Alter.reg_of_regs hr _), hb], g2, g3, g4, Alter.glove_patch ((ha.mono rfl).step hat rfl), ho.congr hr⟩

/-- The self-test fails. -/
theorem gloveSelftest_fails (e : Nat) {s : State} (h : s.boot.phase = .selftest) (hm : s.mode = Mode.boot) (hl : LogReady s) :
    Answers (.gloveSelftest e false) s fun t =>
       t.boot.phase = .plant ∧ t.glove.on = true ∧ t.glove.testBad = true ∧ t.glove.next = t.dt / 10000 + 1 ∧
       Logs EV.GLOVE_SELFTEST 0xFF s t ∧
       EntersSafe Cause.glove s t := by
  refine .of_next (t := gloveTest false (s.tick e)) rfl ?_
  rw [gloveTest_eq false (by exact h), if_neg (by decide)]
  have ho : OnlyRegs [R.GLV_STAT] s ((s.tick e).setBit R.GLV_STAT F.GLV_STAT.SELFTEST_OK false) :=
    (OnlyRegs.tick e s).setBit _ _ (by decide)
  have he : ((s.tick e).setBit R.GLV_STAT F.GLV_STAT.SELFTEST_OK false).ev = s.ev := by rw [State.setBit_ev, State.tick_ev]
  generalize (s.tick e).setBit R.GLV_STAT F.GLV_STAT.SELFTEST_OK false = x at *
  have hr := gloveStarts_regs false x
  have hae := (alter_gloveStarts false x).ev rfl
  have hg := gloveStarts_started false x
  generalize gloveStarts false x = u at *
  have hs : OnlyRegs [R.GLV_STAT] s u := ho.congr hr
  have hmode : ∀ code subj vals, (u.raise code subj vals).reg R.DEV_MODE = s.reg R.DEV_MODE := fun code subj vals =>
    (State.raise_reg code subj vals u _ (by decide)).trans (hs _ (by decide))
  have hcause : ∀ code subj vals, (u.raise code subj vals).reg R.DEV_SAFE_CAUSE = s.reg R.DEV_SAFE_CAUSE := fun code subj vals =>
    (State.raise_reg code subj vals u _ (by decide)).trans (hs _ (by decide))
  have hready : LogReady u := by
    refine ⟨?_, by rw [hae, he]; exact hl.2⟩
    unfold State.logs State.d0
    rw [hg.phase]
    rfl
  have hbm : (u.raise EV.GLOVE_SELFTEST 0xFF []).mode = Mode.boot := (State.mode_of_reg (hmode _ _ _)).trans hm
  refine ⟨?_, ?_, ?_, ?_, ?_, (enterSafe_spec _ _ _ (by rw [hbm]; decide)).of_regs (hmode _ _ _) (hcause _ _ _)⟩
  · rw [(alter_enterSafe ..).boot rfl, State.raise_boot, hg.phase]
  · rw [enterSafe_boot _ _ hbm, State.setFld_glove, State.raise_glove, hg.on]
  · rw [enterSafe_boot _ _ hbm, State.setFld_glove, State.raise_glove, hg.testBad]
    rfl
  · rw [enterSafe_boot _ _ hbm, State.setFld_glove, State.setFld_dt, State.raise_glove, State.raise_dt, hg.next]
  · exact ((State.raise_logs _ _ _ _ hready).grows ((alter_raise ..).evGrows (by decide))
      (enterSafe_evGrows ..)).of_ev (hae.trans he)

/-- Settles O4: steps 4 and 5 by what the image's checks and the start of the cores leave. -/
theorem imageAndSelftest : Obligations.ImageAndSelftest := by
  unfold Obligations.ImageAndSelftest
  exact ⟨fun e d0 d1 life _ h => bootImageLoad_bad e d0 d1 life h, fun e d0 d1 life _ h hg => bootImageLoad_good e d0 d1 life h hg,
    fun e _ h => gloveSelftest_passes e h, fun e _ h hm hl => gloveSelftest_fails e h hm hl⟩

end Sys2Proof.Machine
end

section
/-! SUPPORT. What a transition's completion leaves, and the settling of O8 (R46, R77, R79). -/

namespace Sys2Proof.Machine

set_option Elab.async false

/-! ### A mode put in force -/

/-- Putting a mode in force logs it (R46). -/
theorem putMode_logs (new : Nat) (forced : Bool) (r : Req) {s : State} (h : LogReady s) :
    Logs EV.MODE 0xFF s (putMode new forced r s) := by
  unfold putMode
  extract_lets old s1 s2 s3 s4
  have h1 : s1.ev = s.ev ∧ s1.boot = s.boot := by
    unfold s1
    rw [State.setBit_ev, State.setFld_ev, State.setFld_ev, State.setBit_boot, State.setFld_boot, State.setFld_boot]
    exact ⟨rfl, rfl⟩
  clear_value s1
  have a2 : Alter (2 ^ 67 ||| 2 ^ 70 ||| 2 ^ 89) s1 s2 := by
    unfold s2
    exact ((alter_trans ..).mono rfl).step (alter_carriesClear ..) rfl
  clear_value s2
  have a3 : Alter (2 ^ 67 ||| 2 ^ 88) s2 s3 := by
    unfold s3
    split
    · exact Alter.refl _ _
    · exact (alter_verdictsEnd ..).mono rfl
  clear_value s3
  have a4 := alter_auditAdd (auditOf r 3 0x0020 0 old new 0) s3
  have he : s4.ev = s.ev := by rw [a4.ev rfl, a3.ev rfl, a2.ev rfl, h1.1]
  have hb : s4.boot = s.boot := by rw [a4.boot rfl, a3.boot rfl, a2.boot rfl, h1.2]
  clear_value s4
  exact ((State.raise_logs _ _ _ _ (h.congr hb he)).grows ((alter_raise ..).evGrows (by decide))
    ((alter_linkEval _).evGrows (by decide))).of_ev he

/-- A mode in force with its word, and no transition (R46). -/
structure InForce (new : Nat) (t : State) : Prop where
  mode : t.mode = new
  trans : t.trans = none
  transit : t.bit R.DEV_MODE F.DEV_MODE.TRANSIT = false
  target : t.fld R.DEV_MODE F.DEV_MODE.TARGET = new

/-- A change of neither the mode's word nor the transition. -/
theorem InForce.congr {new : Nat} {s t : State} (h : InForce new s) (hr : t.reg R.DEV_MODE = s.reg R.DEV_MODE)
    (ht : t.trans = s.trans) : InForce new t where
  mode := (State.mode_of_reg hr).trans h.mode
  trans := ht.trans h.trans
  transit := (State.bit_of_reg hr _).trans h.transit
  target := (State.fld_of_reg hr _).trans h.target

theorem putMode_inForce {new : Nat} (forced : Bool) (r : Req) {s : State} (hn : new < 8) (hd : s.discharging = false) :
    InForce new (putMode new forced r s) := by
  obtain ⟨h1, h2, -, -, -, -, h7⟩ := putMode_spec new forced r s hn hd
  refine ⟨h1, h2, h7, ?_⟩
  unfold State.fld
  rw [putMode_word _ _ _ _ hd, modeWord_target, Nat.mod_eq_of_lt hn]

theorem putMode_discharging (new : Nat) (forced : Bool) (r : Req) {s : State} (hd : s.discharging = false) :
    (putMode new forced r s).discharging = false := by
  unfold putMode
  extract_lets old s1 s2 s3 s4
  have h1 : s1.discharging = false := by
    unfold s1
    rw [State.setBit_discharging, State.setFld_discharging, State.setFld_discharging, hd]
  clear_value s1
  have a2 : Alter putM s1 s2 := by
    unfold s2
    exact ((alter_trans ..).mono rfl).step (alter_carriesClear ..) rfl
  clear_value s2
  have a3 : Alter putM s2 s3 := by
    unfold s3
    split
    · exact Alter.refl _ _
    · exact (alter_verdictsEnd ..).mono rfl
  clear_value s3
  have a4 : Alter putM s3 (s4.raise EV.MODE 0xFF [(1, old), (1, new), (1, b2n forced)]) := by
    unfold s4
    exact ((alter_auditAdd ..).mono rfl).step (alter_raise ..) rfl
  clear_value s4
  generalize s4.raise EV.MODE 0xFF [(1, old), (1, new), (1, b2n forced)] = s5 at a4 ⊢
  have h5 : s5.discharging = false := by rw [a4.discharging rfl, a3.discharging rfl, a2.discharging rfl, h1]
  exact (linkEval_dev s5 h5).2.2.2.2.2.trans h5

/-! ### Nothing held -/

/-- What an evaluation of nothing held leaves. -/
structure HeldIdle (s t : State) : Prop where
  reg : ∀ i, i ≠ R.DEV_QUEUED → t.reg i = s.reg i
  trans : t.trans = s.trans
  nfault : t.nfault = s.nfault
  lvEnd : t.lvEnd = s.lvEnd
  ev : t.ev = s.ev

theorem evalHeld_nothing {s : State} (ht : s.trans.isSome = false) (hm : s.heldMode = none) (hf : s.heldFn = []) :
    evalHeld s = showHeld { s with heldMode := none, heldFn := [] } := by
  unfold evalHeld
  rw [if_neg (by rw [ht]; decide), hm, hf]
  rfl

theorem showHeld_idle (s : State) : HeldIdle s (showHeld { s with heldMode := none, heldFn := [] }) := by
  unfold showHeld
  generalize hu : ({ s with heldMode := none, heldFn := [] } : State) = u
  have h : u.regs = s.regs ∧ u.trans = s.trans ∧ u.nfault = s.nfault ∧ u.lvEnd = s.lvEnd ∧ u.ev = s.ev := by
    subst hu
    exact ⟨rfl, rfl, rfl, rfl, rfl⟩
  obtain ⟨h1, h2, h3, h4, h5⟩ := h
  extract_lets v
  refine ⟨fun i hi => ?_, ?_, ?_, ?_, ?_⟩
  · rw [State.reg_setFld_ne _ _ _ hi, State.reg_setFld_ne _ _ _ hi, Alter.reg_of_regs h1]
  · rw [State.setFld_trans, State.setFld_trans, h2]
  · rw [State.setFld_nfault, State.setFld_nfault, h3]
  · rw [State.setFld_lvEnd, State.setFld_lvEnd, h4]
  · rw [State.setFld_ev, State.setFld_ev, h5]

/-- With nothing held its evaluation shows so and changes nothing else. -/
theorem evalHeldNow_idle {s : State} (hm : s.heldMode = none) (hf : s.heldFn = []) : HeldIdle s (evalHeldNow s) := by
  have hrefl : HeldIdle s s := ⟨fun _ _ => rfl, rfl, rfl, rfl, rfl⟩
  unfold evalHeldNow
  split
  · exact hrefl
  · by_cases ht : s.trans.isSome = true
    · rw [show evalHeld s = s from if_pos ht]
      exact hrefl
    · rw [evalHeld_nothing (by simpa using ht) hm hf]
      exact showHeld_idle s

/-! ### The end of a transition -/

/-- The link's evaluation and that of nothing held, which end a transition. -/
theorem transEnd_inForce {new : Nat} {s : State} (h : InForce new s) (hd : s.discharging = false) (hm : s.heldMode = none)
    (hf : s.heldFn = []) : InForce new (evalHeldNow (linkEval s)) ∧ (evalHeldNow (linkEval s)).nfault = s.nfault ∧
      (evalHeldNow (linkEval s)).lvEnd = s.lvEnd ∧ s.ev.buf <+: (evalHeldNow (linkEval s)).ev.buf := by
  obtain ⟨l1, l2, l3, l4, l5, -⟩ := linkEval_dev s hd
  have le := (alter_linkEval s).lvEnd rfl
  have lg := (alter_linkEval s).evGrows (by decide)
  generalize linkEval s = u at *
  have hi := evalHeldNow_idle (l4.trans hm) (l5.trans hf)
  refine ⟨(h.congr (l1 _ (by decide)) l2).congr (hi.reg _ (by decide)) hi.trans, hi.nfault.trans l3, hi.lvEnd.trans le, ?_⟩
  rw [hi.ev]
  exact lg

/-- What leaving a mode does before the new one is put in force. -/
def leaveMode (old : Nat) (s : State) : State :=
  let s := if old = Mode.service then leaveService s else s
  let s := if old = Mode.safe then leaveSafe s else s
  if old = Mode.charge then leaveCharge s else s

/-- What a mode in force does as it is entered. -/
def arriveMode (old new : Nat) (s : State) : State :=
  let s := if new = Mode.service ∧ s.service = 0 then serviceEnds s else s
  let s := if new = Mode.ready then enterReady (old == Mode.drive || old == Mode.charge) s else s
  if new = Mode.drive ∨ new = Mode.charge then enterRun new s else s

theorem finishTrans_eq (x : Trans) (s : State) : finishTrans x s =
    if s.fld R.DEV_MODE F.DEV_MODE.TARGET = Mode.standby then
      enterStandby (arriveMode s.mode (s.fld R.DEV_MODE F.DEV_MODE.TARGET)
        (putMode (s.fld R.DEV_MODE F.DEV_MODE.TARGET) x.forced (x.req.getD reqInternal) (leaveMode s.mode s)))
    else
      evalHeldNow (linkEval (arriveMode s.mode (s.fld R.DEV_MODE F.DEV_MODE.TARGET)
        (putMode (s.fld R.DEV_MODE F.DEV_MODE.TARGET) x.forced (x.req.getD reqInternal) (leaveMode s.mode s)))) := rfl

theorem leaveMode_ready (s : State) : leaveMode Mode.ready s = s := rfl

theorem leaveMode_safe (s : State) : leaveMode Mode.safe s = leaveSafe s := rfl

/-- A change of neither the mode's word, the transition, the discharge, what is held nor `nFAULT`, over which the log grows. -/
structure KeepsMode (s t : State) : Prop where
  word : t.reg R.DEV_MODE = s.reg R.DEV_MODE
  trans : t.trans = s.trans
  discharging : t.discharging = s.discharging
  heldMode : t.heldMode = s.heldMode
  heldFn : t.heldFn = s.heldFn
  nfault : t.nfault = s.nfault
  lvEnd : t.lvEnd = s.lvEnd
  grows : s.ev.buf <+: t.ev.buf

theorem KeepsMode.refl (s : State) : KeepsMode s s := ⟨rfl, rfl, rfl, rfl, rfl, rfl, rfl, List.prefix_refl _⟩

theorem enterRun_keeps (m : Nat) (s : State) : KeepsMode s (enterRun m s) :=
  ⟨(alter_enterRun ..).low _ (by decide) (by decide), (alter_enterRun ..).trans rfl, (alter_enterRun ..).discharging rfl,
    (alter_enterRun ..).heldMode rfl, (alter_enterRun ..).heldFn rfl, (alter_enterRun ..).nfault rfl,
    (alter_enterRun ..).lvEnd rfl, (alter_enterRun ..).evGrows (by decide)⟩

theorem enterReady_keeps (run : Bool) (s : State) : KeepsMode s (enterReady run s) :=
  ⟨(alter_enterReady ..).low _ (by decide) (by decide), (alter_enterReady ..).trans rfl, (alter_enterReady ..).discharging rfl,
    (alter_enterReady ..).heldMode rfl, (alter_enterReady ..).heldFn rfl, (alter_enterReady ..).nfault rfl,
    (alter_enterReady ..).lvEnd rfl, (alter_enterReady ..).evGrows (by decide)⟩

/-- A mode entered without the end of SERVICE. -/
theorem arriveMode_keeps (old : Nat) {new : Nat} {s : State} (h : ¬ (new = Mode.service ∧ s.service = 0)) :
    KeepsMode s (arriveMode old new s) := by
  unfold arriveMode
  rw [if_neg h]
  extract_lets y x
  by_cases hr : new = Mode.ready
  · have hx : x = enterReady (old == Mode.drive || old == Mode.charge) s := if_pos hr
    rw [if_neg (by rw [hr]; decide), hx]
    exact enterReady_keeps _ _
  · have hx : x = s := if_neg hr
    rw [hx]
    split
    · exact enterRun_keeps _ _
    · exact .refl s

/-- A transition to a mode but STANDBY, once the old mode is left. -/
theorem transEnd_spec (old : Nat) {new : Nat} (forced : Bool) (r : Req) {s : State} (hn : new < 8)
    (hv : new = Mode.service → s.service ≠ 0) (hd : s.discharging = false) (hm : s.heldMode = none) (hf : s.heldFn = []) :
    let t := evalHeldNow (linkEval (arriveMode old new (putMode new forced r s)))
    InForce new t ∧ t.nfault = s.nfault ∧ t.lvEnd = s.lvEnd ∧ (LogReady s → Logs EV.MODE 0xFF s t) := by
  intro t
  have hlog := fun h => putMode_logs new forced r (s := s) h
  have hpg := (alter_putMode new forced r s).evGrows (by decide)
  have hin := putMode_inForce forced r hn hd
  have hpd := putMode_discharging new forced r hd
  obtain ⟨-, -, pn, pm, pf, -, -⟩ := putMode_spec new forced r s hn hd
  have pl := (alter_putMode new forced r s).lvEnd rfl
  have pv := (alter_putMode new forced r s).service rfl
  unfold t
  clear t
  generalize putMode new forced r s = u at *
  have hk := arriveMode_keeps old (new := new) (s := u) fun ⟨h1, h2⟩ => hv h1 (pv.symm.trans h2)
  generalize arriveMode old new u = v at *
  obtain ⟨e1, e2, e3, e4⟩ := transEnd_inForce (hin.congr hk.word hk.trans) (hk.discharging.trans hpd)
    (hk.heldMode.trans (pm.trans hm)) (hk.heldFn.trans (pf.trans hf))
  exact ⟨e1, e2.trans (hk.nfault.trans pn), e3.trans (hk.lvEnd.trans pl),
    fun h => (hlog h).grows hpg (hk.grows.trans e4)⟩

theorem leaveSafe_calm (s : State) : (leaveSafe s).nfault = false ∧ (leaveSafe s).lvEnd = none := by
  unfold leaveSafe
  extract_lets ov1 x y
  have hy : y.nfault = false ∧ y.lvEnd = none := ⟨(alter_gatesOff _ x).nfault rfl, (alter_gatesOff _ x).lvEnd rfl⟩
  clear_value y
  have ha : ∀ a b : State → Nat → State, (∀ z m, Alter (2 ^ 87) z (a z m)) → (∀ z m, Alter (2 ^ 87) z (b z m)) →
      Alter (2 ^ 87) y (forEach [0, 1] (fun m z => if ov1 then a z m else b z m) y) := fun a b h1 h2 =>
    alter_forEach _ _ _ fun m z => by
      split
      · exact h1 z m
      · exact h2 z m
  have hd : ∀ z m, Alter (2 ^ 87) z (selDrop m Why.charge (selDrop m Why.stop (selDrop m Why.safe z))) := fun z m =>
    (((alter_selDrop ..).mono rfl).step (alter_selDrop ..) rfl).step (alter_selDrop ..) rfl
  have hx := ha _ _ hd fun z m => (hd z m).step (alter_selDrop m Why.ov1 _) rfl
  exact ⟨(hx.nfault rfl).trans hy.1, (hx.lvEnd rfl).trans hy.2⟩

/-- What leaving SAFE leaves (R79). -/
theorem leaveSafe_spec (s : State) : (leaveSafe s).nfault = false ∧ (leaveSafe s).lvEnd = none ∧
    (leaveSafe s).discharging = s.discharging ∧ (leaveSafe s).heldMode = s.heldMode ∧ (leaveSafe s).heldFn = s.heldFn ∧
    (leaveSafe s).ev = s.ev ∧ (leaveSafe s).boot = s.boot := by
  have ha := alter_leaveSafe s
  refine ⟨?_, ?_, ha.discharging rfl, ha.heldMode rfl, ha.heldFn rfl, ha.ev rfl, ha.boot rfl⟩
  · exact (leaveSafe_calm s).1
  · exact (leaveSafe_calm s).2

/-- A transition that completes by MODE_TRANSITION_COMPLETE. -/
theorem transComplete_finishes {x : Trans} {s : State} (hx : s.trans = some x) (hs : x.stop = false) (hd : x.disch = false)
    (ht : s.fld R.DEV_MODE F.DEV_MODE.TARGET ≠ Mode.standby) : transComplete s = finishTrans x s := by
  unfold transComplete
  rw [hx]
  dsimp only
  rw [if_neg (by rw [hs, Bool.false_and]; decide), if_neg (by rw [hd]; decide), if_neg ht]

/-- A transition from READY into DRIVE, CHARGE or SERVICE completes. -/
theorem modeTransitionComplete_fromReady (e : Nat) {x : Trans} {m : Nat} {s : State} (hx : s.trans = some x)
    (hs : x.stop = false) (hdi : x.disch = false) (ho : s.mode = Mode.ready) (ht : s.fld R.DEV_MODE F.DEV_MODE.TARGET = m)
    (hmode : m = Mode.drive ∨ m = Mode.charge ∨ m = Mode.service ∧ s.service ≠ 0) (hm : s.heldMode = none)
    (hf : s.heldFn = []) (hd : s.discharging = false) :
    Answers (.modeTransitionComplete e) s fun t =>
       t.mode = m ∧ t.trans = none ∧ t.bit R.DEV_MODE F.DEV_MODE.TRANSIT = false ∧
       t.fld R.DEV_MODE F.DEV_MODE.TARGET = m ∧ (LogReady s → Logs EV.MODE 0xFF s t) := by
  have hlt : m < 8 := by rcases hmode with rfl | rfl | ⟨rfl, -⟩ <;> decide
  have hns : m ≠ Mode.standby := by rcases hmode with rfl | rfl | ⟨rfl, -⟩ <;> decide
  have hsv : m = Mode.service → s.service ≠ 0 := by
    rintro rfl
    rcases hmode with h | h | h
    · exact absurd h (by decide)
    · exact absurd h (by decide)
    · exact h.2
  refine .of_next (t := transComplete (s.tick e)) rfl ?_
  have ht' : (s.tick e).fld R.DEV_MODE F.DEV_MODE.TARGET = m := ht
  rw [transComplete_finishes (x := x) (by exact hx) hs hdi (by rw [ht']; exact hns), finishTrans_eq, ht', if_neg hns, State.tick_mode, ho,
    leaveMode_ready]
  obtain ⟨h1, -, -, h4⟩ := transEnd_spec Mode.ready x.forced (x.req.getD reqInternal) (s := s.tick e) hlt hsv hd hm hf
  exact ⟨h1.mode, h1.trans, h1.transit, h1.target, fun h => (h4 (h.congr rfl rfl)).of_ev rfl⟩

/-- A transition from SAFE to READY completes. -/
theorem modeTransitionComplete_fromSafe (e : Nat) {x : Trans} {s : State} (hx : s.trans = some x)
    (hs : x.stop = false) (hdi : x.disch = false) (ho : s.mode = Mode.safe)
    (ht : s.fld R.DEV_MODE F.DEV_MODE.TARGET = Mode.ready) (hm : s.heldMode = none)
    (hf : s.heldFn = []) (hd : s.discharging = false) :
    Answers (.modeTransitionComplete e) s fun t =>
       t.mode = Mode.ready ∧ t.trans = none ∧ t.bit R.DEV_MODE F.DEV_MODE.TRANSIT = false ∧
       t.fld R.DEV_MODE F.DEV_MODE.TARGET = Mode.ready ∧ t.nfault = false ∧ t.lvEnd = none ∧ (LogReady s →
         Logs EV.MODE 0xFF s t) := by
  refine .of_next (t := transComplete (s.tick e)) rfl ?_
  have ht' : (s.tick e).fld R.DEV_MODE F.DEV_MODE.TARGET = Mode.ready := ht
  rw [transComplete_finishes (x := x) (by exact hx) hs hdi (by rw [ht']; decide), finishTrans_eq, ht', if_neg (by decide),
    State.tick_mode, ho, leaveMode_safe]
  obtain ⟨l1, l2, l3, l4, l5, l6, l7⟩ := leaveSafe_spec (s.tick e)
  generalize leaveSafe (s.tick e) = u at *
  obtain ⟨h1, h2, h3, h4⟩ := transEnd_spec Mode.safe x.forced (x.req.getD reqInternal) (new := Mode.ready) (s := u) (by decide)
    (fun h => absurd h (by decide)) (l3.trans hd) (l4.trans hm) (l5.trans hf)
  exact ⟨h1.mode, h1.trans, h1.transit, h1.target, h2.trans l1, h3.trans l2, fun h => (h4 (h.congr l7 l6)).of_ev l6⟩

/-- Settles O8: what a mode put in force leaves, and what its entry and the evaluations after it keep. -/
theorem transitionsComplete : Obligations.TransitionsComplete := by
  unfold Obligations.TransitionsComplete
  exact ⟨fun e _ _ _ hx hs hdi ho ht hmode hm hf hd => modeTransitionComplete_fromReady e hx hs hdi ho ht hmode hm hf hd,
    fun e _ _ hx hs hdi ho ht hm hf hd => modeTransitionComplete_fromSafe e hx hs hdi ho ht hm hf hd⟩

end Sys2Proof.Machine
end

section
/-! SUPPORT. Which bits of the registers the gates, the selector, the link supervisor and an entry to SAFE may write: a
footprint bit by bit, since a converter's or a unit's number may be any number and so name any register of an array. -/

namespace Sys2Proof.Machine

set_option Elab.async false

/-- Every bit of every register but those that `p` names reads as before. -/
def BitsOnly (p : Nat → Nat → Bool) (s t : State) : Prop :=
  ∀ i b, p i b = false → (t.reg i).toNat.testBit b = (s.reg i).toNat.testBit b

section
variable {p q : Nat → Nat → Bool} {s t u : State} {i : Nat} {f : Fld}

theorem BitsOnly.refl (p : Nat → Nat → Bool) (s : State) : BitsOnly p s s := fun _ _ _ => rfl

theorem BitsOnly.trans (h : BitsOnly p s t) (k : BitsOnly p t u) : BitsOnly p s u :=
  fun i b hb => (k i b hb).trans (h i b hb)

theorem BitsOnly.of_regs (h : t.regs = s.regs) : BitsOnly p s t := fun i b _ => by rw [Alter.reg_of_regs h i]

/-- A change beside the registers. -/
theorem BitsOnly.congr (h : BitsOnly p s t) (hu : u.regs = t.regs) : BitsOnly p s u := h.trans (.of_regs hu)

theorem BitsOnly.mono (h : BitsOnly p s t) (hq : ∀ i b, q i b = false → p i b = false) : BitsOnly q s t :=
  fun i b hb => h i b (hq i b hb)

/-- A field's bits are among those named. -/
abbrev Covers (p : Nat → Nat → Bool) (i : Nat) (f : Fld) : Prop := ∀ b, f.lo ≤ b → b ≤ f.hi → p i b = true

/-- A field's bits are apart from those named. -/
abbrev Apart (p : Nat → Nat → Bool) (i : Nat) (f : Fld) : Prop := ∀ b, f.lo ≤ b → b ≤ f.hi → p i b = false

theorem BitsOnly.setFld (h : BitsOnly p s t) (x : Nat) (hf : Fld.Ok f) (hc : Covers p i f) :
    BitsOnly p s (t.setFld i f x) := by
  refine h.trans fun j b hb => ?_
  by_cases hj : j = i
  · subst hj
    rw [State.reg_setFld_same, Fld.set_testBit f _ _ hf.1 hf.2]
    split
    · rfl
    · split
      · rename_i h1 h2
        exact absurd (hc b (by omega) h2) (by rw [hb]; decide)
      · rfl
  · rw [State.reg_setFld_ne _ _ _ hj]

theorem BitsOnly.setBit (h : BitsOnly p s t) (x : Bool) (hf : Fld.Ok f) (hc : Covers p i f) :
    BitsOnly p s (t.setBit i f x) := h.setFld _ hf hc

theorem BitsOnly.setBitAt (h : BitsOnly p s t) (k : Nat) (x : Bool) (hf : Fld.Ok f) (hc : Covers p i f) :
    BitsOnly p s (t.setBitAt i f k x) := h.setFld _ hf hc

theorem BitsOnly.incFld (h : BitsOnly p s t) (k : Nat) (hf : Fld.Ok f) (hc : Covers p i f) :
    BitsOnly p s (t.incFld i f k) := h.setFld _ hf hc

/-- An event logged where the log's registers are among those named. -/
theorem BitsOnly.raise (h : BitsOnly p s t) (code subj : Nat) (vals : List (Nat × Nat))
    (hl : ∀ i b, p i b = false → i ∉ logRegs) : BitsOnly p s (t.raise code subj vals) :=
  h.trans fun i b hb => by rw [State.raise_reg _ _ _ _ _ (hl i b hb)]

theorem BitsOnly.forEach_mem {α : Type} {g : α → State → State} (h : BitsOnly p s t) (l : List α)
    (hg : ∀ a ∈ l, ∀ x, BitsOnly p x (g a x)) : BitsOnly p s (forEach l g t) := by
  unfold Machine.forEach
  induction l generalizing t with
  | nil => exact h
  | cons a l ih =>
    exact ih (h.trans (hg a (List.mem_cons_self ..) t)) fun b hb => hg b (List.mem_cons_of_mem _ hb)

theorem BitsOnly.forEach {α : Type} {g : α → State → State} (h : BitsOnly p s t) (l : List α)
    (hg : ∀ a x, BitsOnly p x (g a x)) : BitsOnly p s (forEach l g t) := h.forEach_mem l fun a _ => hg a

theorem BitsOnly.ite {c : Prop} [Decidable c] (h : BitsOnly p s t) (k : BitsOnly p s u) :
    BitsOnly p s (if c then t else u) := by
  split
  · exact h
  · exact k

/-- A field apart from the bits named. -/
theorem BitsOnly.fld (h : BitsOnly p s t) (ha : Apart p i f) : t.fld i f = s.fld i f := by
  apply Nat.eq_of_testBit_eq
  intro b
  unfold State.fld
  rw [Fld.get_testBit, Fld.get_testBit]
  by_cases hb : b < f.width
  · have e : b + f.lo ≤ f.hi := by
      unfold Fld.width at hb
      omega
    rw [h i (b + f.lo) (ha _ (by omega) e)]
  · rw [decide_eq_false hb, Bool.false_and, Bool.false_and]

theorem BitsOnly.bit (h : BitsOnly p s t) (ha : Apart p i f) : t.bit i f = s.bit i f := by
  unfold State.bit
  rw [h.fld ha]

/-- A register none of whose bits is named. -/
theorem BitsOnly.reg (h : BitsOnly p s t) (ha : ∀ b, p i b = false) : t.reg i = s.reg i :=
  BitVec.eq_of_toNat_eq (Nat.eq_of_testBit_eq fun b => h i b (ha b))

end

/-! ### The bits -/

/-- Registers that the operations below write whole: the logs', the mode's, those of the interlock, the pre-start run, a forced
output and the chopper. -/
abbrev deepRegs : List Nat :=
  logRegs ++ [R.CMD_AUDIT_NEXT, R.CMD_AUDIT_STAT, R.CMD_FLAGS, R.DEV_MODE, R.DEV_SAFE_CAUSE, R.DEV_QUEUED, R.PROT_IL_COUNT,
    R.PROT_IL_FLAGS, R.PROT_FLAGS, R.PROT_PRE_STAT, R.PWM_FORCE, R.DCL_CHOP_STAT]

/-- A bit of an island's status that a command of its gate or its fallback state writes. A plant may name an island by any
number. -/
def islBit (i b : Nat) : Bool := decide (0x400 ≤ i) && i % 16 == 0 && (b == 7 || (decide (i < 0x800) && decide (5 ≤ b ∧ b ≤ 8)))

/-- A bit of a unit's status or carry: `EN`, `SELECTOR`, the two carries. -/
def unitBit (i b : Nat) : Bool :=
  decide (0xB08 ≤ i) && (i % 16 == 8 && (b == 0 || b == 5) || i % 16 == 10 && decide (b ≤ 25))

/-- A bit of the link's or the low-voltage gates' status. -/
def statBit (i b : Nat) : Bool :=
  i == R.DCL_STAT && decide (20 ≤ b ∧ b ≤ 23) || i == R.DCL_FLAGS && b == 3 || i == R.ACT_LV_STAT && decide (b ≤ 17) ||
    [R.ACT_A_CTRL 0, R.ACT_A_CTRL 1, R.ACT_A_CTRL 2].contains i && b == 0

/-- A machine's channel shows what its selector reads anew in all bits but `APPLIED`. -/
def selBit (i b : Nat) : Bool := [R.PROT_SS_STAT 0, R.PROT_SS_STAT 1].contains i && b != 22

/-- A bit that a command of a gate, the selector's evaluation or the link supervisor may write. -/
def calmBit (i b : Nat) : Bool := deepRegs.contains i || islBit i b || unitBit i b || statBit i b || selBit i b

/-- A bit of the gloves' status that their resumption writes. -/
def haltBit (i b : Nat) : Bool := i == R.GLV_STAT && decide (33 ≤ b ∧ b ≤ 34)

/-- The same with `APPLIED`, which a machine put under the selector writes, and with the halt: what an entry to SAFE writes. -/
def deepBit (i b : Nat) : Bool :=
  calmBit i b || [R.PROT_SS_STAT 0, R.PROT_SS_STAT 1].contains i && b == 22 || haltBit i b

theorem calmBit_log {i b : Nat} (h : calmBit i b = false) : i ∉ logRegs := by
  intro hm
  have : deepRegs.contains i = true := List.contains_iff_mem.mpr (List.mem_append_left _ hm)
  unfold calmBit at h
  rw [this, Bool.true_or, Bool.true_or, Bool.true_or, Bool.true_or] at h
  cases h

theorem covers_whole {i : Nat} (f : Fld) (h : deepRegs.contains i = true) : Covers calmBit i f := fun b _ _ => by
  unfold calmBit
  rw [h]
  rfl

theorem covers_stat {i : Nat} {f : Fld} (h : Covers statBit i f) : Covers calmBit i f := fun b h1 h2 => by
  unfold calmBit
  rw [h b h1 h2, Bool.or_true, Bool.true_or]

theorem covers_isl {n : Nat} {f : Fld} (hn : n < 64) (h : 5 ≤ f.lo ∧ f.hi ≤ 8) : Covers calmBit (R.ISL_STAT n) f := fun b h1 h2 => by
  have : islBit (R.ISL_STAT n) b = true := by
    unfold islBit R.ISL_STAT
    simp
    omega
  unfold calmBit
  rw [this, Bool.or_true, Bool.true_or, Bool.true_or, Bool.true_or]

theorem covers_fbOn (n : Nat) : Covers calmBit (R.ISL_STAT n) F.ISL_STAT.FB_ON := fun b h1 h2 => by
  have hb : b = 7 := Nat.le_antisymm h2 h1
  have : islBit (R.ISL_STAT n) b = true := by
    unfold islBit R.ISL_STAT
    simp [hb]
  unfold calmBit
  rw [this, Bool.or_true, Bool.true_or, Bool.true_or, Bool.true_or]

theorem covers_hbStat (k : Nat) {f : Fld} (h : f = F.PWM_HB_STAT.EN ∨ f = F.PWM_HB_STAT.SELECTOR) :
    Covers calmBit (R.PWM_HB_STAT k) f := fun b h1 h2 => by
  have hb : b = 0 ∨ b = 5 := by
    rcases h with rfl | rfl
    · exact .inl (Nat.le_antisymm h2 h1)
    · exact .inr (Nat.le_antisymm h2 h1)
  have : unitBit (R.PWM_HB_STAT k) b = true := by
    unfold unitBit R.PWM_HB_STAT
    simp
    omega
  unfold calmBit
  rw [this, Bool.or_true, Bool.true_or, Bool.true_or]

theorem covers_carry (k : Nat) {f : Fld} (h : f.hi ≤ 25) : Covers calmBit (R.PWM_HB_CARRY k) f := fun b h1 h2 => by
  have : unitBit (R.PWM_HB_CARRY k) b = true := by
    unfold unitBit R.PWM_HB_CARRY
    simp
    omega
  unfold calmBit
  rw [this, Bool.or_true, Bool.true_or, Bool.true_or]

/-- The operation writes no bit but those that an evaluation may write. -/
abbrev Calm (s t : State) : Prop := BitsOnly calmBit s t

/-- The operation writes no bit but those that an entry to SAFE may write. -/
abbrev Deep (s t : State) : Prop := BitsOnly deepBit s t

theorem BitsOnly.deep {s t : State} (h : Calm s t) : Deep s t := h.mono fun i b hb => by
  unfold deepBit at hb
  exact (Bool.or_eq_false_iff.mp (Bool.or_eq_false_iff.mp hb).1).1

theorem BitsOnly.told {s t : State} (h : Calm s t) (code subj : Nat) (vals : List (Nat × Nat)) :
    Calm s (t.raise code subj vals) := h.raise _ _ _ fun _ _ hb => calmBit_log hb

/-- A register written whole. -/
theorem BitsOnly.whole {s t : State} {i : Nat} {f : Fld} (h : Calm s t) (x : Nat) (hf : Fld.Ok f)
    (hi : deepRegs.contains i = true) : Calm s (t.setFld i f x) := h.setFld x hf (covers_whole f hi)

/-! ### Gates -/

theorem clampShow_calm (n : Nat) (hn : n < 64) (s : State) : Calm s (clampShow n s) :=
  (BitsOnly.refl _ s).setBit _ (by decide) (covers_isl hn (by decide))

theorem setGate_calm (g step : Nat) (on : Bool) (s : State) : Calm s (setGate g step on s) := by
  unfold setGate
  split
  · exact (BitsOnly.refl _ s).setBitAt _ _ (by decide) (covers_stat fun b _ h2 => by
      have : b ≤ 17 := h2
      simp [statBit, this])
  · rename_i hg
    extract_lets x u
    have hu : Calm s u := .of_regs (by unfold u; split <;> rfl)
    clear_value u
    exact (hu.setBit _ (by decide) (covers_isl (by omega) (by decide))).trans (clampShow_calm g (by omega) _)

theorem leaveFallback_calm (g : Nat) (s : State) : Calm s (leaveFallback g s) := by
  unfold leaveFallback
  split
  · exact .refl _ s
  · exact (BitsOnly.refl _ s).setBit _ (by decide) (covers_isl (by omega) (by decide))

theorem startProf_regs (n step : Nat) (on : Bool) (prof : Option Nat) (s : State) : (startProf n step on prof s).regs = s.regs := by
  unfold startProf
  split <;> rfl

theorem gateOffP_calm (prof : Option Nat) (g step : Nat) (s : State) : Calm s (gateOffP prof g step s) := by
  unfold gateOffP
  extract_lets x u v
  have hu : Calm s u := .of_regs rfl
  clear_value u
  split
  · have hv : Calm u v := .of_regs (by
      unfold v
      split
      · exact startProf_regs _ _ _ _ _
      · rfl)
    exact ((hu.trans hv).trans (setGate_calm _ _ _ _)).trans (leaveFallback_calm _ _)
  · exact hu

theorem gatesOff_calm (gs : List Nat) (s : State) : Calm s (gatesOff gs s) :=
  (BitsOnly.refl _ s).forEach gs fun g x => gateOffP_calm none g _ x

theorem shootBlock_calm (k : Nat) (s : State) : Calm s (shootBlock k s) := by
  unfold shootBlock
  extract_lets v w u
  have hv : Calm s v := ((BitsOnly.refl _ s).setFld _ (by decide) (covers_whole _ (by decide))).incFld _ (by decide)
    (covers_whole _ (by decide))
  clear_value v
  have hx : Calm s (v.setBitAt R.PROT_IL_FLAGS F.PROT_IL_FLAGS.UNIT k true) :=
    hv.setBitAt _ _ (by decide) (covers_whole _ (by decide))
  have hw : Calm s w := hx.setBit _ (by decide) (covers_whole _ (by decide))
  clear_value w
  refine .ite (BitsOnly.told ?_ _ _ _) hw
  exact hw.congr (State.setUnit_regs ..)

theorem gateOnP_calm (prof : Option Nat) (g step : Nat) (s : State) : Calm s (gateOnP prof g step s) := by
  unfold gateOnP
  split
  · exact .refl _ s
  · rename_i k _
    extract_lets q x same block u v w
    clear_value q same block
    have hu : Calm s u := by
      unfold u
      split
      · exact (gateOffP_calm none _ _ s).trans (shootBlock_calm _ _)
      · exact .refl _ s
    clear_value u
    split
    · exact .refl _ s
    · split
      · refine BitsOnly.trans ?_ (shootBlock_calm _ _)
        exact hu.congr rfl
      · split
        · refine BitsOnly.trans ?_ (shootBlock_calm _ _)
          exact .of_regs rfl
        · have hw : Calm s w := .of_regs rfl
          clear_value w
          split
          · refine (hw.trans ?_).trans ((setGate_calm _ _ _ _).trans (leaveFallback_calm _ _))
            split
            · exact .refl _ _
            · exact .of_regs (startProf_regs _ _ _ _ _)
          · exact hw

theorem gatesOn_calm (gs : List Nat) (s : State) : Calm s (gatesOn gs s) :=
  (BitsOnly.refl _ s).forEach gs fun g x => gateOnP_calm none g _ x

/-! ### Units and converters -/

theorem unitDark_calm (k : Nat) (s : State) : Calm s (unitDark k s) := by
  unfold unitDark
  extract_lets u v w
  have hv : Calm s v := .of_regs rfl
  clear_value v
  have hw : Calm s w := (hv.setFld _ (by decide) (covers_carry k (by decide))).setFld _ (by decide) (covers_carry k (by decide))
  clear_value w
  exact (hw.setBit _ (by decide) (covers_hbStat k (.inl rfl))).trans (gatesOff_calm _ _)

theorem convDark_calm (c : Nat) (s : State) : Calm s (convDark c s) := (BitsOnly.refl _ s).forEach _ unitDark_calm

theorem carriesClear_calm (s : State) : Calm s (carriesClear s) :=
  (BitsOnly.refl _ s).forEach _ fun k x => by
    extract_lets u v
    have hv : Calm x v := .of_regs rfl
    clear_value v
    exact (hv.setFld _ (by decide) (covers_carry k (by decide))).setFld _ (by decide) (covers_carry k (by decide))

theorem forceEnd_calm (s : State) : Calm s (forceEnd s) := by
  unfold forceEnd
  split
  · exact ((BitsOnly.refl _ s).setBit _ (by decide) (covers_whole _ (by decide))).trans (gatesOff_calm _ _)
  · exact .refl _ s

theorem stagesOff_calm (s : State) : Calm s (stagesOff s) :=
  (BitsOnly.refl _ s).forEach _ fun c x => by
    extract_lets y z
    have hz : Calm x z := .of_regs rfl
    clear_value z
    split
    · exact hz
    · exact hz.trans (convDark_calm _ _)

/-! ### The link supervisor -/

theorem covers_dclStat {f : Fld} (h : 20 ≤ f.lo ∧ f.hi ≤ 23) : Covers calmBit R.DCL_STAT f :=
  covers_stat fun b h1 h2 => by
    have : 20 ≤ b ∧ b ≤ 23 := ⟨h.1.trans h1, h2.trans h.2⟩
    simp [statBit, this]

/-- The word of the link's status as its slots are read anew. -/
theorem dclSlots_word (s : State) : (dclSlots s).reg R.DCL_STAT =
    (s.setFld R.DCL_STAT F.DCL_STAT.DCDC_MODE (dcdcMode s)).reg R.DCL_STAT := by
  unfold dclSlots
  extract_lets vb ib inh mode vref top ich was x1 d x2 x3 x4 x5 x6 x7 x8 x9 x10 iref
  have h2 : x2.regs = x1.regs := by
    unfold x2
    split
    · rfl
    · rfl
  have h3 : x3.regs = x2.regs :=
    (alter_forEach (m := 2 ^ 88) _ _ x2 fun _ _ => (alter_setConv ..).mono rfl).regs rfl
  have h4 : x4.regs = x3.regs := State.setSp_regs ..
  have h5 : x5.regs = x4.regs := State.setSp_regs ..
  have h6 : x6.regs = x5.regs := State.setSp_regs ..
  have h7 : x7.regs = x6.regs := State.setSp_regs ..
  have h8 : x8.regs = x7.regs := State.setSp_regs ..
  have h9 : x9.regs = x8.regs := State.setSp_regs ..
  have h10 : x10.regs = x9.regs := State.setSp_regs ..
  have h1 : x1 = s.setFld R.DCL_STAT F.DCL_STAT.DCDC_MODE (dcdcMode s) := rfl
  clear_value x10 x9 x8 x7 x6 x5 x4 x3 x2 x1
  have h : x10.regs = x1.regs := by rw [h10, h9, h8, h7, h6, h5, h4, h3, h2]
  rw [← h1, ← Alter.reg_of_regs h]
  exact Alter.reg_of_regs (State.setSp_regs ..) _

theorem dclSlots_calm (s : State) : Calm s (dclSlots s) := by
  intro i b hb
  by_cases hi : i = R.DCL_STAT
  · subst hi
    have h : Calm s (s.setFld R.DCL_STAT F.DCL_STAT.DCDC_MODE (dcdcMode s)) :=
      (BitsOnly.refl _ s).setFld _ (by decide) (covers_dclStat (by decide))
    rw [dclSlots_word]
    exact h _ b hb
  · rw [dclSlots_only s i (by simpa using hi)]

theorem regenEnds_calm (s : State) : Calm s (regenEnds s) := by
  unfold regenEnds
  split
  · exact .refl _ s
  · extract_lets u d c v
    have hu : Calm s u := ((BitsOnly.refl _ s).setBit _ (by decide) (covers_dclStat (by decide))).setBit _ (by decide)
      (covers_dclStat (by decide))
    have hv : Calm s v := hu.congr rfl
    clear_value v
    exact (hv.trans (dclSlots_calm _)).told _ _ _

theorem regenBegins_calm (s : State) : Calm s (regenBegins s) := by
  unfold regenBegins
  split
  · exact .refl _ s
  · extract_lets u v
    have hu : Calm s u := ((BitsOnly.refl _ s).setBit _ (by decide) (covers_dclStat (by decide))).setBit _ (by decide)
      (covers_dclStat (by decide))
    clear_value u
    have hv : Calm s v := hu.setBit _ (by decide) (covers_stat fun b h1 h2 => by
      have : b = 3 := Nat.le_antisymm h2 h1
      subst this
      decide)
    clear_value v
    exact (hv.trans (dclSlots_calm _)).told _ _ _

theorem dischargeStops_calm (s : State) : Calm s (dischargeStops s) := by
  unfold dischargeStops
  extract_lets u v w
  have hu : Calm s u := .of_regs rfl
  clear_value u
  have hv : Calm s v := (hu.setBit _ (by decide) (covers_whole _ (by decide))).setFld _ (by decide) (covers_whole _ (by decide))
  clear_value v
  have hw : Calm s w := by
    unfold w
    split
    · refine BitsOnly.trans ?_ (convDark_calm _ _)
      exact hv.congr rfl
    · exact hv
  clear_value w
  exact hw.told _ _ _

theorem linkEval_calm (s : State) : Calm s (linkEval s) := by
  unfold linkEval
  extract_lets inDrive u av v w
  have hu : Calm s u := (BitsOnly.refl _ s).forEach _ fun c x => .of_regs rfl
  clear_value u
  have hv : Calm s v := hu.setBit _ (by decide) (covers_whole _ (by decide))
  clear_value v
  have hw : Calm s w := by
    unfold w
    split
    · exact hv.trans (dischargeStops_calm _)
    · exact hv
  clear_value w
  split
  · exact (hw.trans (regenEnds_calm _)).trans (dclSlots_calm _)
  · split
    · exact (hw.trans (regenBegins_calm _)).trans (dclSlots_calm _)
    · exact hw.trans (dclSlots_calm _)

/-! ### The selector -/

theorem selReload_calm (m : Nat) (s : State) : Calm s (selReload m s) :=
  (BitsOnly.refl _ s).forEach _ fun n x => by
    split
    · exact (BitsOnly.refl _ x).setBit _ (by decide) (covers_fbOn n)
    · exact .refl _ x

theorem selDegraded_calm (m : Nat) (s : State) : Calm s (selDegraded m s) := by
  unfold selDegraded
  extract_lets x d u
  have hu : Calm s u := .of_regs rfl
  clear_value u
  split
  · exact (hu.setBit _ (by decide) (covers_whole _ (by decide))).told _ _ _
  · exact hu

theorem selBuild_calm (m : Nat) (s : State) : Calm s (selBuild m s) := by
  unfold selBuild
  extract_lets side u x v
  have hu : Calm s u := gatesOn_calm _ s
  clear_value u
  have hv : Calm s v := hu.congr rfl
  clear_value v
  exact hv.trans (selDegraded_calm _ _)

theorem selCommand_calm (m : Nat) (s : State) : Calm s (selCommand m s) := by
  unfold selCommand
  split
  · extract_lets side outside u
    split
    · split
      · exact .refl _ s
      · exact selBuild_calm m s
    · have hu : Calm s u := gatesOff_calm _ s
      clear_value u
      exact hu.congr rfl
  · extract_lets u
    have hu : Calm s u := gatesOff_calm _ s
    clear_value u
    exact hu.congr rfl

theorem selRemember_regs (m : Nat) (s : State) : (selRemember m s).regs = s.regs := rfl

/-- A field but `APPLIED` of one of the two machines' channels. -/
theorem covers_ssStat {m : Nat} (hm : m < 2) {f : Fld} (hf : f.hi < 22 ∨ 22 < f.lo) : Covers calmBit (R.PROT_SS_STAT m) f :=
  fun b h1 h2 => by
    have hb : (b != 22) = true := by
      rw [bne_iff_ne]
      omega
    have hs : selBit (R.PROT_SS_STAT m) b = true := by
      unfold selBit
      rw [hb, Bool.and_true]
      obtain rfl | rfl : m = 0 ∨ m = 1 := by omega
      · decide
      · decide
    unfold calmBit
    rw [hs, Bool.or_true]

theorem selEval_calm {m : Nat} (hm : m < 2) (s : State) : Calm s (selEval m s) := by
  unfold selEval
  extract_lets u row short oldShort oldSide i v
  have hv : Calm s v := by
    have hu : Calm s u := .of_regs (selRemember_regs m s)
    clear_value u
    exact ((hu.setFld _ (by decide) (covers_ssStat hm (by decide))).setFld _ (by decide) (covers_ssStat hm (by decide))).setBit _ (by decide)
      (covers_ssStat hm (by decide))
  clear_value v oldShort oldSide
  split
  extract_lets w x y e z applied a e2 b
  have hw : Calm s w := (hv.setFld _ (by decide) (covers_ssStat hm (by decide))).setBit _ (by decide) (covers_ssStat hm (by decide))
  clear_value w
  have hx : Calm s x := (hw.setFld _ (by decide) (covers_ssStat hm (by decide))).setFld _ (by decide) (covers_ssStat hm (by decide))
  clear_value x
  have hy : Calm s y := hx.setBit _ (by decide) (covers_ssStat hm (by decide))
  clear_value y
  have hz : Calm s z := hy.congr (State.setSel_regs ..)
  clear_value z applied
  have ha : Calm s a := .ite ((hz.trans (selCommand_calm _ _)).told _ _ _) (.ite (hz.trans (selCommand_calm _ _)) hz)
  clear_value a
  have hb : Calm s b := .ite (.ite (ha.trans (selDegraded_calm _ _)) ha) (ha.congr (State.setSel_regs ..))
  clear_value b
  exact hb.trans (selReload_calm _ _)

theorem selEvalAll_calm (s : State) : Calm s (selEvalAll s) :=
  (selEval_calm (by decide) s).trans (selEval_calm (by decide) _)

/-- What putting channel m under the selector may write. -/
def heldBit (m i b : Nat) : Bool := calmBit i b || i == R.PROT_SS_STAT m && b == 22

theorem BitsOnly.held {s t : State} (m : Nat) (h : Calm s t) : BitsOnly (heldBit m) s t := h.mono fun i b hb => by
  unfold heldBit at hb
  exact (Bool.or_eq_false_iff.mp hb).1

/-- The units of a machine under the selector. -/
theorem selUnits_calm (us : List Nat) (s : State) : Calm s (forEach us (fun k s =>
    (s.setUnit k { s.unitOf k with edges := [], next := [] }).setBit (R.PWM_HB_STAT k) F.PWM_HB_STAT.SELECTOR true) s) :=
  (BitsOnly.refl _ s).forEach _ fun k y => by
    have hy : Calm y (y.setUnit k { y.unitOf k with edges := [], next := [] }) := .of_regs rfl
    exact hy.setBit _ (by decide) (covers_hbStat k (.inr rfl))

theorem selHold_held {m : Nat} (hm : m < 2) (why : Nat) (s : State) : BitsOnly (heldBit m) s (selHold m why s) := by
  unfold selHold
  extract_lets x u v w us z
  have hu : Calm s u := .of_regs rfl
  clear_value u
  have hv : Calm s v := hu.trans (selEval_calm hm _)
  clear_value v
  have hw : BitsOnly (heldBit m) s w := (hv.held m).setBit _ (by decide) fun b h1 h2 => by
    obtain rfl : b = 22 := Nat.le_antisymm h2 h1
    unfold heldBit
    rw [beq_self_eq_true, beq_self_eq_true, Bool.and_true, Bool.or_true]
  clear_value w
  have hz : Calm w z := selUnits_calm us w
  clear_value z us
  refine .ite (hv.held m) ?_
  exact hw.trans (((hz.trans (.of_regs (selRemember_regs m z))).trans (selCommand_calm m _)).held m)

theorem selHold_deep {m : Nat} (hm : m < 2) (why : Nat) (s : State) : Deep s (selHold m why s) :=
  (selHold_held hm why s).mono fun i b hb => by
    unfold deepBit at hb
    unfold heldBit
    have hb := (Bool.or_eq_false_iff.mp hb).1
    rw [Bool.or_eq_false_iff] at hb ⊢
    refine ⟨hb.1, ?_⟩
    by_contra hc
    rw [Bool.not_eq_false, Bool.and_eq_true, beq_iff_eq] at hc
    rw [hc.1, hc.2, Bool.and_true] at hb
    obtain rfl | rfl : m = 0 ∨ m = 1 := by omega
    · exact absurd hb.2 (by decide)
    · exact absurd hb.2 (by decide)

/-- `APPLIED` is no bit that an evaluation writes. -/
theorem applied_apart {m : Nat} (hm : m < 2) : Apart calmBit (R.PROT_SS_STAT m) F.PROT_SS_STAT.APPLIED := fun b h1 h2 => by
  obtain rfl : b = 22 := Nat.le_antisymm h2 h1
  obtain rfl | rfl : m = 0 ∨ m = 1 := by omega
  · decide
  · decide

/-- The machine is under the selector afterwards. -/
theorem selHold_applied {m : Nat} (hm : m < 2) (why : Nat) (s : State) :
    (selHold m why s).bit (R.PROT_SS_STAT m) F.PROT_SS_STAT.APPLIED = true := by
  unfold selHold
  extract_lets x u v w us z
  clear_value v
  have hw : w.bit (R.PROT_SS_STAT m) F.PROT_SS_STAT.APPLIED = true := by
    unfold w
    rw [State.bit_setBit_eq _ (by decide)]
  clear_value w
  have hz : Calm w z := selUnits_calm us w
  clear_value z us
  split
  · assumption
  · rw [((hz.trans (.of_regs (selRemember_regs m z))).trans (selCommand_calm m _)).bit (applied_apart hm), hw]

/-! ### An entry to SAFE -/

theorem auditAdd_calm (a : AuditEntry) (s : State) : Calm s (s.auditAdd a) := by
  unfold State.auditAdd
  refine .ite ?_ ?_
  · have h : Calm s ((s.incFld R.CMD_AUDIT_STAT F.CMD_AUDIT_STAT.LOST 1).setBit R.CMD_FLAGS F.CMD_FLAGS.AUDIT_LOST true) :=
      ((BitsOnly.refl _ s).incFld _ (by decide) (covers_whole _ (by decide))).setBit _ (by decide) (covers_whole _ (by decide))
    exact h.congr rfl
  · unfold auditPush
    extract_lets n c d u
    have hu : Calm s u := .of_regs rfl
    clear_value u
    exact (hu.setFld _ (by decide) (covers_whole _ (by decide))).setFld _ (by decide) (covers_whole _ (by decide))

theorem verdictsEnd_calm (s : State) : Calm s (verdictsEnd s) := by
  unfold verdictsEnd
  extract_lets u
  have hu : Calm s u := (BitsOnly.refl _ s).forEach _ fun c x => .of_regs rfl
  clear_value u
  exact (hu.setBit _ (by decide) (covers_whole _ (by decide))).setBit _ (by decide) (covers_whole _ (by decide))

theorem putMode_calm (new : Nat) (forced : Bool) (r : Req) (s : State) : Calm s (putMode new forced r s) := by
  unfold putMode
  extract_lets old u v w x
  have hu : Calm s u := ((BitsOnly.refl _ s).setFld _ (by decide) (covers_whole _ (by decide))).setFld _ (by decide)
    (covers_whole _ (by decide)) |>.setBit _ (by decide) (covers_whole _ (by decide))
  clear_value u
  have hv : Calm s v := by
    refine BitsOnly.trans ?_ (carriesClear_calm _)
    exact hu.congr rfl
  clear_value v
  have hw : Calm s w := .ite hv (hv.trans (verdictsEnd_calm _))
  clear_value w
  have hx : Calm s x := hw.trans (auditAdd_calm _ _)
  clear_value x
  exact (hx.told _ _ _).trans (linkEval_calm _)

theorem lvBrakeAll_calm (s : State) : Calm s (lvBrakeAll s) := by
  unfold lvBrakeAll
  extract_lets us u v w x
  have hu : Calm s u := (BitsOnly.refl _ s).forEach _ fun k y => .of_regs rfl
  clear_value u
  have hv : Calm s v := hu.trans (gatesOff_calm _ _)
  clear_value v
  have hw : Calm s w := hv.congr rfl
  clear_value w
  have hx : Calm s x := hw.forEach_mem _ fun a ha y => by
    refine (BitsOnly.refl _ y).setBit _ (by decide) (covers_stat fun b h1 h2 => ?_)
    have hb : b = 0 := Nat.le_antisymm h2 h1
    subst hb
    revert a
    decide
  clear_value x
  exact hx.trans (gatesOn_calm _ _)

/-- The register a resumption writes beside the log's. -/
theorem gloveResume_deep (s : State) : Deep s (gloveResume s) := by
  have hc : ∀ f : Fld, (33 ≤ f.lo ∧ f.hi ≤ 34) → Covers deepBit R.GLV_STAT f := fun f h b h1 h2 => by
    have hb : haltBit R.GLV_STAT b = true := by
      unfold haltBit
      rw [beq_self_eq_true, Bool.true_and]
      exact decide_eq_true ⟨h.1.trans h1, h2.trans h.2⟩
    unfold deepBit
    rw [hb, Bool.or_true]
  unfold gloveResume
  extract_lets g u e v
  refine .ite ?_ ?_
  · have hu : Deep s u := ((BitsOnly.refl _ s).setBit _ (by decide) (hc _ (by decide))).setBit _ (by decide) (hc _ (by decide))
    clear_value u
    have hv : Deep s v := hu.congr rfl
    clear_value v
    exact hv.trans ((BitsOnly.refl _ v).told _ _ _).deep
  · have h : Deep s (s.setBit R.GLV_STAT F.GLV_STAT.HALT_PEND false) := (BitsOnly.refl _ s).setBit _ (by decide) (hc _ (by decide))
    exact h.congr rfl

/-- The cores run again. -/
theorem gloveResume_runs (s : State) : (gloveResume s).bit R.GLV_STAT F.GLV_STAT.HALTED = false := by
  unfold gloveResume
  extract_lets g u e v
  split
  · have hu : u.bit R.GLV_STAT F.GLV_STAT.HALTED = false := by
      unfold u
      rw [State.bit_setBit_beside _ (by decide), State.bit_setBit_eq _ (by decide)]
    have hv : v.regs = u.regs := rfl
    clear_value v
    rw [State.bit_raise _ _ _ (by decide), State.bit_of_reg (Alter.reg_of_regs hv _), hu]
  · rename_i h
    have hb : (s.setBit R.GLV_STAT F.GLV_STAT.HALT_PEND false).bit R.GLV_STAT F.GLV_STAT.HALTED = false := by
      rw [State.bit_setBit_beside _ (by decide)]
      exact Bool.eq_false_iff.mpr h
    have hr : ({ s.setBit R.GLV_STAT F.GLV_STAT.HALT_PEND false with glove := { g with haltPos := none } } : State).regs =
        (s.setBit R.GLV_STAT F.GLV_STAT.HALT_PEND false).regs := rfl
    rw [State.bit_of_reg (Alter.reg_of_regs hr _), hb]

theorem showHeld_calm (s : State) : Calm s (showHeld s) := by
  unfold showHeld
  extract_lets u
  have hu : Calm s u := (BitsOnly.refl _ s).setFld _ (by decide) (covers_whole _ (by decide))
  clear_value u
  exact hu.setFld _ (by decide) (covers_whole _ (by decide))

theorem dropAll_calm (status : Nat) (s : State) : Calm s (dropAll status s) := by
  unfold dropAll
  extract_lets hs u
  have hu : Calm s u := by
    refine BitsOnly.trans ?_ (showHeld_calm _)
    exact .of_regs rfl
  clear_value u hs
  exact hu.forEach _ fun h x => (BitsOnly.refl _ x).told _ _ _

theorem safeEntry_deep (r : Req) (s : State) : Deep s (safeEntry r s) := by
  unfold safeEntry
  extract_lets u v w x y z
  have hu : Deep s u := by
    refine BitsOnly.trans ?_ (gloveResume_deep _)
    exact .of_regs rfl
  clear_value u
  have hv : Deep s v := (hu.trans (forceEnd_calm _).deep).trans (stagesOff_calm _).deep
  clear_value v
  have hw : Deep s w := (hv.trans (selHold_deep (by decide) _ _)).trans (selHold_deep (by decide) _ _)
  clear_value w
  have hx : Deep s x := hw.trans (lvBrakeAll_calm _).deep
  clear_value x
  have hy : Deep s y := hx.trans ((BitsOnly.refl _ x).setBit _ (by decide) (covers_whole _ (by decide))).deep
  clear_value y
  have hz : Deep s z := hy.trans ((BitsOnly.refl _ y).told _ _ _).deep
  clear_value z
  exact (hz.trans (putMode_calm _ _ _ _).deep).trans (dropAll_calm _ _).deep

/-- An entry to SAFE from another mode ends a halt. -/
theorem safeEntry_runs (r : Req) (s : State) : (safeEntry r s).bit R.GLV_STAT F.GLV_STAT.HALTED = false := by
  have hc : Apart calmBit R.GLV_STAT F.GLV_STAT.HALTED := by decide
  have hh : ∀ m : Fin 2, Apart (heldBit m) R.GLV_STAT F.GLV_STAT.HALTED := by decide
  unfold safeEntry
  extract_lets u v w x y z
  have hu : u.bit R.GLV_STAT F.GLV_STAT.HALTED = false := gloveResume_runs _
  clear_value u
  have hv : Calm u v := (forceEnd_calm _).trans (stagesOff_calm _)
  clear_value v
  have hw : w.bit R.GLV_STAT F.GLV_STAT.HALTED = v.bit R.GLV_STAT F.GLV_STAT.HALTED :=
    ((selHold_held (m := 1) (by decide) _ _).bit (hh 1)).trans ((selHold_held (m := 0) (by decide) _ _).bit (hh 0))
  clear_value w
  have hx : Calm w x := lvBrakeAll_calm _
  clear_value x
  have hy : Calm w y := hx.setBit _ (by decide) (covers_whole _ (by decide))
  clear_value y
  have hz : Calm w z := hy.told _ _ _
  clear_value z
  rw [((hz.trans (putMode_calm _ _ _ _)).trans (dropAll_calm _ _)).bit hc, hw, hv.bit hc, hu]

theorem enterSafe_deep (c : Nat) (r : Req) (s : State) : Deep s (enterSafe c r s) := by
  unfold enterSafe
  refine .ite (.refl _ s) ?_
  extract_lets u v
  have hu : Calm s u := (BitsOnly.refl _ s).setFld _ (by decide) (covers_whole _ (by decide))
  clear_value u
  have hv : Calm s v := (hu.setBit _ (by decide) (covers_whole _ (by decide))).setFld _ (by decide) (covers_whole _ (by decide))
  clear_value v
  refine .ite (.ite ?_ hu.deep) (.ite hu.deep (hu.deep.trans (safeEntry_deep _ _)))
  refine BitsOnly.trans ?_ (dropAll_calm _ _).deep
  exact (hv.congr rfl).deep

/-! ### An island by itself -/

theorem applyFallback_calm {n : Nat} (hn : n < 64) (s : State) : Calm s (applyFallback n s) := by
  unfold applyFallback
  extract_lets x on u
  have hu : Calm s u := .ite (.refl _ s) (.of_regs (startProf_regs _ _ _ _ _))
  clear_value u
  exact (hu.setBit _ (by decide) (covers_isl hn (by decide))).trans (setGate_calm _ _ _ _)

end Sys2Proof.Machine
end

section
/-! SUPPORT. A wake from STANDBY, the alarm second, and the settling of O6 (R64, R67). -/

namespace Sys2Proof.Machine

set_option Elab.async false

/-- The registers below the islands', but for those an entry to SAFE writes. -/
def LowKept (s t : State) : Prop := ∀ i, i < 0x400 → deepRegs.contains i = false → t.reg i = s.reg i

theorem LowKept.refl (s : State) : LowKept s s := fun _ _ _ => rfl

theorem LowKept.trans {s t u : State} (h : LowKept s t) (k : LowKept t u) : LowKept s u :=
  fun i hi hd => (k i hi hd).trans (h i hi hd)

theorem LowKept.of_calm {s t : State} (h : Calm s t) : LowKept s t := fun i hi hd => h.reg fun b => by
  have h1 : islBit i b = false := by
    unfold islBit
    rw [decide_eq_false (by omega), Bool.false_and, Bool.false_and]
  have h2 : unitBit i b = false := by
    unfold unitBit
    rw [decide_eq_false (by omega), Bool.false_and]
  have h3 : statBit i b = false := by
    have hne : ∀ k, 0x400 ≤ k → (i == k) = false := fun k hk => by
      rw [beq_eq_false_iff_ne]
      omega
    unfold statBit
    simp only [List.contains_cons, List.contains_nil, hne R.DCL_STAT (by decide), hne R.DCL_FLAGS (by decide),
      hne R.ACT_LV_STAT (by decide), hne (R.ACT_A_CTRL 0) (by decide),
      hne (R.ACT_A_CTRL 1) (by decide), hne (R.ACT_A_CTRL 2) (by decide), Bool.false_and, Bool.or_false]
  have h4 : selBit i b = false := by
    have hne : ∀ k, 0x400 ≤ k → (i == k) = false := fun k hk => by
      rw [beq_eq_false_iff_ne]
      omega
    unfold selBit
    simp only [List.contains_cons, List.contains_nil, hne (R.PROT_SS_STAT 0) (by decide), hne (R.PROT_SS_STAT 1) (by decide),
      Bool.false_and, Bool.or_false]
  unfold calmBit
  rw [hd, h1, h2, h3, h4]
  rfl

theorem LowKept.setReg {s t : State} (h : LowKept s t) {i : Nat} (v : Reg) (hi : 0x400 ≤ i) : LowKept s (t.setReg i v) :=
  fun j hj hd => (State.reg_setReg_ne _ _ (by omega)).trans (h j hj hd)

theorem LowKept.forEach {α : Type} {g : α → State → State} {s t : State} (h : LowKept s t) (l : List α)
    (hg : ∀ a ∈ l, ∀ x, LowKept x (g a x)) : LowKept s (forEach l g t) := by
  unfold Machine.forEach
  induction l generalizing t with
  | nil => exact h
  | cons a l ih =>
    exact ih (h.trans (hg a (List.mem_cons_self ..) t)) fun b hb => hg b (List.mem_cons_of_mem _ hb)

theorem islForget_low (n : Nat) {s t : State} (h : LowKept s t) : LowKept s (islForget n t) := by
  unfold islForget
  extract_lets u
  have hu : LowKept s u := (h.setReg _ (by unfold R.ISL_TEL_VDS; omega)).setReg _ (by unfold R.ISL_TEL_ENV; omega)
  clear_value u
  exact (hu.setReg _ (by unfold R.ISL_STAT; omega)).setReg _ (by unfold R.ISL_STAT; omega)

/-! ### The wake FIFO -/

theorem wakePut_room (c : Nat) {s : State} (h : s.boot.wakes.length < 4) :
    (wakePut c s).boot.wakes = s.boot.wakes ++ [(c, s.rtc)] := by
  have hd : decide (xfDepth 13 ≤ s.boot.wakes.length) = false := decide_eq_false (by
    rw [show xfDepth 13 = 4 from rfl]
    omega)
  unfold wakePut
  extract_lets full u v
  have hf : full = false := hd
  clear_value full
  subst hf
  have hu : u.boot = s.boot := (alter_fifoMet ..).boot rfl
  have hr : u.rtc = s.rtc := by
    unfold State.rtc
    rw [hu, (alter_fifoMet ..).el rfl, State.fld_of_reg ((alter_fifoMet ..).low _ (by decide) (by decide))]
  clear_value u
  rw [if_neg (by decide), ← hr, ← hu]

/-- A discard is shown with its FIFO's number and flagged (R23). -/
theorem xfDiscard_shows (id : Nat) (run : Bool) (s : State) (hid : id < 2 ^ F.FAB_XFIFO_OVF.LAST_ID.width) :
    (xfDiscard id run s).fld R.FAB_XFIFO_OVF F.FAB_XFIFO_OVF.LAST_ID = id ∧
      (xfDiscard id run s).bit R.FAB_FLAGS F.FAB_FLAGS.XFIFO_OVF = true := by
  unfold xfDiscard
  extract_lets u v
  have h1 : v.fld R.FAB_XFIFO_OVF F.FAB_XFIFO_OVF.LAST_ID = id := by
    unfold v u
    rw [State.fld_setBit_ne _ (by decide), State.fld_setFld_eq _ (by decide)]
    exact Nat.mod_eq_of_lt hid
  have h2 : v.bit R.FAB_FLAGS F.FAB_FLAGS.XFIFO_OVF = true := State.bit_setBit_eq _ (by decide)
  clear_value v
  split
  · exact ⟨h1, h2⟩
  · exact ⟨(State.fld_raise _ _ _ (by decide)).trans h1, (State.bit_raise _ _ _ (by decide)).trans h2⟩

theorem wakePut_full (c : Nat) {s : State} (h : 4 ≤ s.boot.wakes.length) :
    (wakePut c s).boot = s.boot ∧ (wakePut c s).fld R.FAB_XFIFO_OVF F.FAB_XFIFO_OVF.LAST_ID = 13 ∧
      (wakePut c s).bit R.FAB_FLAGS F.FAB_FLAGS.XFIFO_OVF = true := by
  have hd : decide (xfDepth 13 ≤ s.boot.wakes.length) = true := decide_eq_true (by
    rw [show xfDepth 13 = 4 from rfl]
    omega)
  have e : wakePut c s = fifoMet (13 * 64) true s := by
    unfold wakePut
    rw [hd]
    rfl
  rw [e]
  refine ⟨(alter_fifoMet ..).boot rfl, ?_⟩
  unfold fifoMet
  rw [if_pos rfl]
  exact xfDiscard_shows _ _ _ (by decide)

/-! ### The wake -/

/-- What a wake leaves once its cause is in the FIFO. -/
structure Wakes (u t : State) : Prop where
  phase : t.boot.phase = .clock
  kind : t.boot.kind = .wake
  wakes : t.boot.wakes = u.boot.wakes
  mode : t.mode = Mode.boot
  nfault : t.nfault = true
  dt : t.dt = u.dt
  low : LowKept u t

/-- The islands' links are down, and each applies its fallback state (R61). -/
def islandsLeft (s : State) : State :=
  forEach (List.range 48) (fun n s =>
    if linkUp s n then applyFallback n (islForget n (s.setBit (R.ISL_STAT n) F.ISL_STAT.LINK_UP false)) else s) s

theorem islandsLeft_low (s : State) : LowKept s (islandsLeft s) :=
  (LowKept.refl s).forEach _ fun n hn x => by
    split
    · have h : LowKept x (x.setBit (R.ISL_STAT n) F.ISL_STAT.LINK_UP false) :=
        (LowKept.refl x).setReg _ (by unfold R.ISL_STAT; omega)
      have hn : n < 64 := by
        rw [List.mem_range] at hn
        omega
      exact (islForget_low n h).trans (.of_calm (applyFallback_calm hn _))
    · exact .refl x

theorem alter_islandsLeft (s : State) : Alter (2 ^ 67 ||| 2 ^ 86) s (islandsLeft s) :=
  alter_forEach _ _ _ fun n x => by
    split
    · exact (((alter_setBit ..).mono (rm_high (by unfold R.ISL_STAT; omega) rfl)).step (alter_islForget ..) rfl).step
        (alter_applyFallback ..) rfl
    · exact Alter.refl _ _

/-- The boot sequence's record as it is entered by a wake. -/
def wakeKind (s : State) : State := { s with boot := { s.boot with kind := .wake, imageBad := false } }

/-- The mode BOOT shown. -/
def bootShown (s : State) : State :=
  (s.setFld R.DEV_MODE F.DEV_MODE.MODE Mode.boot).setFld R.DEV_MODE F.DEV_MODE.TARGET Mode.boot

/-- `nFAULT` driven and the glove pair reset. -/
def interiorReset (s : State) : State := { s with nfault := true, glove := {} }

theorem wake_eq {c : Nat} {s : State} (hp : s.boot.phase = .standby) (hc : (s.reg R.DEV_WAKE_CFG).toNat.testBit c = true) :
    wake c s = bootAt .clock (recArm (interiorReset (bootShown (islandsLeft (wakeKind (wakePut c s)))))) := by
  unfold wake
  rw [if_neg (by rw [hp, bitN, hc]; decide)]
  rfl

theorem wakeKind_spec (s : State) : (wakeKind s).boot.kind = .wake ∧ (wakeKind s).boot.wakes = s.boot.wakes ∧
    (wakeKind s).dt = s.dt ∧ (wakeKind s).regs = s.regs := ⟨rfl, rfl, rfl, rfl⟩

theorem bootShown_spec (s : State) : (bootShown s).mode = Mode.boot ∧ (bootShown s).boot = s.boot ∧ (bootShown s).dt = s.dt ∧
    LowKept s (bootShown s) := by
  refine ⟨?_, ?_, ?_, fun i hi hd => ?_⟩
  · unfold bootShown State.mode
    rw [State.fld_setFld_beside _ (by decide), State.fld_setFld_eq _ (by decide)]
    rfl
  · unfold bootShown
    rw [State.setFld_boot, State.setFld_boot]
  · unfold bootShown
    rw [State.setFld_dt, State.setFld_dt]
  · have hne : i ≠ R.DEV_MODE := by
      rintro rfl
      exact absurd hd (by decide)
    unfold bootShown
    rw [State.reg_setFld_ne _ _ _ hne, State.reg_setFld_ne _ _ _ hne]

theorem interiorReset_spec (s : State) : (interiorReset s).regs = s.regs ∧ (interiorReset s).boot = s.boot ∧
    (interiorReset s).dt = s.dt ∧ (interiorReset s).nfault = true := ⟨rfl, rfl, rfl, rfl⟩

theorem recArm_low (s : State) : LowKept s (recArm s) := by
  unfold recArm
  extract_lets on u v
  have hv : v.regs = s.regs := rfl
  clear_value v
  exact LowKept.setReg (fun i _ _ => Alter.reg_of_regs hv i) _ (by decide)

theorem bootAt_spec (p : Phase) (s : State) : (bootAt p s).boot.phase = p ∧ (bootAt p s).boot.kind = s.boot.kind ∧
    (bootAt p s).boot.wakes = s.boot.wakes ∧ (bootAt p s).regs = s.regs ∧ (bootAt p s).nfault = s.nfault ∧
    (bootAt p s).dt = s.dt := ⟨rfl, rfl, rfl, rfl, rfl, rfl⟩

theorem wake_wakes {c : Nat} {s : State} (hp : s.boot.phase = .standby)
    (hc : (s.reg R.DEV_WAKE_CFG).toNat.testBit c = true) : Wakes (wakePut c s) (wake c s) := by
  rw [wake_eq hp hc]
  generalize wakePut c s = u
  obtain ⟨a1, a2, a3, a4⟩ := wakeKind_spec u
  generalize wakeKind u = a at *
  have hb := islandsLeft_low a
  have hab := alter_islandsLeft a
  generalize islandsLeft a = b at *
  obtain ⟨c1, c2, c3, c4⟩ := bootShown_spec b
  generalize bootShown b = c at *
  obtain ⟨d1, d2, d3, d4⟩ := interiorReset_spec c
  generalize interiorReset c = d at *
  have he := recArm_low d
  have hae := alter_recArm d
  generalize recArm d = e at *
  obtain ⟨f1, f2, f3, f4, f5, f6⟩ := bootAt_spec .clock e
  generalize bootAt .clock e = t at *
  have hboot : e.boot = a.boot := by rw [hae.boot rfl, d2, c2, hab.boot rfl]
  have hlow : LowKept c t := fun i hi hd => by
    rw [Alter.reg_of_regs f4, he i hi hd, Alter.reg_of_regs d1]
  have hmode : t.reg R.DEV_MODE = c.reg R.DEV_MODE := by
    rw [Alter.reg_of_regs f4, hae.low _ (by decide) (by decide), Alter.reg_of_regs d1]
  exact {
    phase := f1
    kind := by rw [f2, hboot, a1]
    wakes := by rw [f3, hboot, a2]
    mode := (State.mode_of_reg hmode).trans c1
    nfault := by rw [f5, hae.nfault rfl, d4]
    dt := by rw [f6, hae.dt rfl, d3, c3, hab.dt rfl, a3]
    low := fun i hi hd => by rw [hlow i hi hd, c4 i hi hd, hb i hi hd, Alter.reg_of_regs a4] }

/-! ### The rows -/

theorem wakePut_dt (c : Nat) (s : State) : (wakePut c s).dt = s.dt := (alter_wakePut ..).dt rfl

/-- A source wakes the part, its cause entering the FIFO. -/
theorem wakeCause_room (e : Nat) (c : Fin 7) {s : State} (hp : s.boot.phase = .standby)
    (hc : (s.reg R.DEV_WAKE_CFG).toNat.testBit c = true) (hr : s.boot.wakes.length < 4) :
    Answers (.wakeCause e c) s fun t =>
       t.boot.phase = .clock ∧ t.boot.kind = .wake ∧ t.boot.wakes = s.boot.wakes ++ [(c.val, (s.tick e).rtc)] ∧
       t.mode = Mode.boot ∧ t.nfault = true ∧ t.dt = s.dt := by
  refine .of_next (t := wake c (s.tick e)) rfl ?_
  have h := wake_wakes (c := c) (s := s.tick e) hp hc
  refine ⟨h.phase, h.kind, h.wakes.trans (wakePut_room c (s := s.tick e) hr), h.mode, h.nfault, h.dt.trans ?_⟩
  rw [wakePut_dt]
  unfold State.tick State.d0
  rw [hp]
  rfl

/-- A source wakes the part, its cause discarded. -/
theorem wakeCause_full (e : Nat) (c : Fin 7) {s : State} (hp : s.boot.phase = .standby)
    (hc : (s.reg R.DEV_WAKE_CFG).toNat.testBit c = true) (hr : 4 ≤ s.boot.wakes.length) :
    Answers (.wakeCause e c) s fun t =>
       t.boot.phase = .clock ∧ t.boot.kind = .wake ∧ t.boot.wakes = s.boot.wakes ∧
       t.fld R.FAB_XFIFO_OVF F.FAB_XFIFO_OVF.LAST_ID = 13 ∧
       t.bit R.FAB_FLAGS F.FAB_FLAGS.XFIFO_OVF = true ∧ t.mode = Mode.boot ∧ t.nfault = true := by
  refine .of_next (t := wake c (s.tick e)) rfl ?_
  have h := wake_wakes (c := c) (s := s.tick e) hp hc
  obtain ⟨w1, w2, w3⟩ := wakePut_full c (s := s.tick e) hr
  refine ⟨h.phase, h.kind, h.wakes.trans (congrArg Boot.wakes w1), ?_, ?_, h.mode, h.nfault⟩
  · rw [State.fld_of_reg (h.low _ (by decide) (by decide)), w2]
  · rw [State.bit_of_reg (h.low _ (by decide) (by decide)), w3]

/-- The alarm second reached: its enable clears. -/
theorem rtcAlarm_eq {s : State} (hen : s.bit R.DEV_RTC_ALARM F.DEV_RTC_ALARM.EN = true)
    (hs : s.boot.rtcSec ≤ s.fld R.DEV_RTC_ALARM F.DEV_RTC_ALARM.SEC) :
    rtcAlarm s = wake 6 ((s.tick (rtcTick s (s.fld R.DEV_RTC_ALARM F.DEV_RTC_ALARM.SEC) - s.el)).setBit R.DEV_RTC_ALARM
      F.DEV_RTC_ALARM.EN false) := by
  unfold rtcAlarm
  rw [if_neg (by rw [hen, decide_eq_false (by omega)]; decide)]

/-- The alarm outside STANDBY. -/
theorem rtcAlarm_clears (e : Nat) {s : State} (hen : s.bit R.DEV_RTC_ALARM F.DEV_RTC_ALARM.EN = true)
    (hs : s.boot.rtcSec ≤ s.fld R.DEV_RTC_ALARM F.DEV_RTC_ALARM.SEC) (hp : s.boot.phase ≠ .standby) :
    Answers (.rtcAlarm e) s fun t =>
       t.bit R.DEV_RTC_ALARM F.DEV_RTC_ALARM.EN = false ∧
       t.el = max (s.el + e) (rtcTick (s.tick e) (s.fld R.DEV_RTC_ALARM F.DEV_RTC_ALARM.SEC)) ∧
       RegsOnly s t ∧ OnlyRegs [R.DEV_RTC_ALARM] s t := by
  refine .of_next (t := rtcAlarm (s.tick e)) rfl ?_
  rw [rtcAlarm_eq (s := s.tick e) hen hs]
  generalize hk : rtcTick (s.tick e) ((s.tick e).fld R.DEV_RTC_ALARM F.DEV_RTC_ALARM.SEC) - (s.tick e).el = k
  have hb : (((s.tick e).tick k).setBit R.DEV_RTC_ALARM F.DEV_RTC_ALARM.EN false).bit R.DEV_RTC_ALARM F.DEV_RTC_ALARM.EN = false :=
    State.bit_setBit_eq _ (by decide)
  have ho : OnlyRegs [R.DEV_RTC_ALARM] s (((s.tick e).tick k).setBit R.DEV_RTC_ALARM F.DEV_RTC_ALARM.EN false) :=
    ((OnlyRegs.tick e s).trans (.tick k _)).setBit _ _ (by decide)
  have hboot : (((s.tick e).tick k).setBit R.DEV_RTC_ALARM F.DEV_RTC_ALARM.EN false).boot = s.boot := by
    rw [State.setBit_boot, State.tick_boot, State.tick_boot]
  have hel : (((s.tick e).tick k).setBit R.DEV_RTC_ALARM F.DEV_RTC_ALARM.EN false).el = s.el + e + k := by
    rw [State.setBit_el, State.tick_el, State.tick_el]
  have ha : Alter (2 ^ 43 ||| 2 ^ 65 ||| 2 ^ 66 ||| 2 ^ 67) s (((s.tick e).tick k).setBit R.DEV_RTC_ALARM F.DEV_RTC_ALARM.EN false) :=
    (((alter_tick ..).mono rfl).step (alter_tick ..) rfl).step (alter_setBit ..) rfl
  generalize ((s.tick e).tick k).setBit R.DEV_RTC_ALARM F.DEV_RTC_ALARM.EN false = u at *
  have hw : wake 6 u = u := by
    unfold wake
    rw [if_pos]
    rw [hboot]
    have : (s.boot.phase != .standby) = true := by simpa using hp
    rw [this, Bool.true_or]
  rw [hw]
  refine ⟨hb, ?_, Alter.eq_patch ha, ho⟩
  rw [hel, ← hk, State.tick_el, State.tick_fld]
  omega

/-- The alarm in STANDBY, where it is an enabled source. -/
theorem rtcAlarm_wakes (e : Nat) {s : State} (hen : s.bit R.DEV_RTC_ALARM F.DEV_RTC_ALARM.EN = true)
    (hs : s.boot.rtcSec ≤ s.fld R.DEV_RTC_ALARM F.DEV_RTC_ALARM.SEC) (hp : s.boot.phase = .standby)
    (hc : (s.reg R.DEV_WAKE_CFG).toNat.testBit 6 = true) :
    Answers (.rtcAlarm e) s fun t =>
       t.boot.phase = .clock ∧ t.boot.kind = .wake ∧ t.mode = Mode.boot ∧
       t.bit R.DEV_RTC_ALARM F.DEV_RTC_ALARM.EN = false := by
  refine .of_next (t := rtcAlarm (s.tick e)) rfl ?_
  rw [rtcAlarm_eq (s := s.tick e) hen hs]
  generalize rtcTick (s.tick e) ((s.tick e).fld R.DEV_RTC_ALARM F.DEV_RTC_ALARM.SEC) - (s.tick e).el = k
  have hb : (((s.tick e).tick k).setBit R.DEV_RTC_ALARM F.DEV_RTC_ALARM.EN false).bit R.DEV_RTC_ALARM F.DEV_RTC_ALARM.EN = false :=
    State.bit_setBit_eq _ (by decide)
  have ho : OnlyRegs [R.DEV_RTC_ALARM] s (((s.tick e).tick k).setBit R.DEV_RTC_ALARM F.DEV_RTC_ALARM.EN false) :=
    ((OnlyRegs.tick e s).trans (.tick k _)).setBit _ _ (by decide)
  have hboot : (((s.tick e).tick k).setBit R.DEV_RTC_ALARM F.DEV_RTC_ALARM.EN false).boot = s.boot := by
    rw [State.setBit_boot, State.tick_boot, State.tick_boot]
  generalize ((s.tick e).tick k).setBit R.DEV_RTC_ALARM F.DEV_RTC_ALARM.EN false = u at *
  have h := wake_wakes (c := 6) (s := u) (by rw [hboot, hp]) (by rw [ho _ (by decide)]; exact hc)
  refine ⟨h.phase, h.kind, h.mode, ?_⟩
  rw [State.bit_of_reg (h.low _ (by decide) (by decide)), State.bit_of_reg ((alter_wakePut 6 u).low _ (by decide) (by decide)), hb]

/-- Settles O6: a wake by what the boot sequence's entry leaves, and the alarm by the clear of its enable before it. -/
theorem wakeAndAlarm : Obligations.WakeAndAlarm := by
  unfold Obligations.WakeAndAlarm
  exact ⟨fun e c _ hp hc hr => wakeCause_room e c hp hc hr, fun e c _ hp hc hr => wakeCause_full e c hp hc hr,
    fun e _ hen hs hp => rtcAlarm_clears e hen hs hp, fun e _ hen hs hp hc => rtcAlarm_wakes e hen hs hp hc⟩

end Sys2Proof.Machine
end

section
/-! SUPPORT. Step 8, which ends the boot sequence, and the settling of O5 (R41, R62, R65). -/

namespace Sys2Proof.Machine

set_option Elab.async false

/-! ### What step 8 leaves on its way -/

/-- The registers of the actuators' status. -/
abbrev actStatRegs : List Nat := [R.ACT_A_STAT 0, R.ACT_A_STAT 1, R.ACT_A_STAT 2]

theorem actMeasure_only {a : Nat} (ha : a ∈ [0, 1, 2]) (s : State) : OnlyRegs actStatRegs s (actMeasure a s) := by
  have hm : R.ACT_A_STAT a ∈ actStatRegs := by
    revert a
    decide
  unfold actMeasure
  extract_lets i
  split
  · refine OnlyRegs.congr ?_ (State.setSp_regs ..)
    exact ((OnlyRegs.refl actStatRegs s).setBit F.ACT_A_STAT.POS_OK true hm).setFld _ _ hm
  · exact (OnlyRegs.refl _ s).setBit _ _ hm

theorem OnlyRegs.forEach_mem {α : Type} {l : List Nat} {g : α → State → State} (s : State) (k : List α)
    (h : ∀ a ∈ k, ∀ x, OnlyRegs l x (g a x)) : OnlyRegs l s (forEach k g s) := by
  unfold forEach
  induction k generalizing s with
  | nil => exact .refl l s
  | cons a k ih =>
    exact (h a List.mem_cons_self s).trans (ih (g a s) fun b hb => h b (List.mem_cons_of_mem _ hb))

theorem actRestore_only (s : State) : OnlyRegs actStatRegs s (actRestore s) :=
  OnlyRegs.forEach_mem s _ fun a ha x => by
    split
    · refine OnlyRegs.trans ?_ (actMeasure_only ha _)
      exact .of_regs rfl
    · exact .refl _ x

/-- An entry to SAFE ends a discharge. -/
theorem safeEntry_discharging (r : Req) (s : State) : (safeEntry r s).discharging = false := by
  unfold safeEntry
  extract_lets s1 s2 s3 s4 s5 s6
  have h1 : s1.discharging = false := (alter_gloveResume _).discharging rfl
  clear_value s1
  have a6 : Alter safeM s1 s6 := by
    unfold s6 s5 s4 s3 s2
    refine Alter.step ?_ (alter_raise ..) rfl
    refine Alter.step ?_ (alter_setBit ..) (rm_high (by decide) rfl)
    refine Alter.step ?_ (alter_lvBrakeAll ..) rfl
    refine Alter.step ?_ (alter_selHold ..) rfl
    refine Alter.step ?_ (alter_selHold ..) rfl
    refine Alter.step ?_ (alter_stagesOff ..) rfl
    exact (alter_forceEnd ..).mono rfl
  clear_value s6
  rw [(alter_dropAll ..).discharging rfl, putMode_discharging _ _ _ ((a6.discharging rfl).trans h1)]

/-- The boot sequence's last place, with the filtered levels as they stand. -/
def bootRuns (a b : Bool) (s : State) : State := trainLinks (bootAt .run (stoLevels a b s))

/-- What stands once step 8 has evaluated what boot left: what the mode is then decided from. -/
def bootJudged (a b : Bool) (s : State) : State :=
  let s := convRehold (actRestore (bootRuns a b s))
  s.setFld R.DEV_SAFE_CAUSE ⟨11, 0⟩ (bootCauses s ||| s.fld R.DEV_SAFE_CAUSE ⟨11, 0⟩)

/-- The state before the mode is decided. -/
def bootReady (a b : Bool) (s : State) : State := canBoot (bootLater (selEvalAll (bootJudged a b s)))

/-- The mode that boot ends in: READY with no cause standing, SAFE otherwise. -/
def bootDecided (causes : Nat) (s : State) : State :=
  if causes = 0 then enterReady false (putMode Mode.ready false reqInternal { s with nfault := false })
  else safeEntry reqInternal s

/-- The causes that stand as boot ends, those recorded with them. -/
def bootStanding (s : State) : Nat := bootCauses s ||| s.fld R.DEV_SAFE_CAUSE ⟨11, 0⟩

theorem bootEnd_eq (a b : Bool) {s : State} (h : s.boot.phase = .links) : bootEnd a b s =
    bootEvents (linkEval (bootDecided (bootStanding (convRehold (actRestore (bootRuns a b s)))) (bootReady a b s))) := by
  unfold bootEnd
  rw [if_neg (by rw [h]; decide)]
  rfl

/-! ### What each part leaves -/

theorem bootLater_phase (s : State) : (bootLater s).boot.phase = s.boot.phase := rfl

theorem bootEvents_phase (s : State) : (bootEvents s).boot.phase = s.boot.phase := by
  unfold bootEvents
  extract_lets u v w
  have hu : u.boot = s.boot := by
    unfold u
    split
    · rfl
    · exact State.raise_boot ..
  clear_value u
  have hv : v.boot = u.boot := (alter_forEach (m := evM) _ _ u fun _ _ => alter_raise ..).boot rfl
  clear_value v
  change v.boot.phase = s.boot.phase
  rw [hv, hu]

theorem trainLinks_boot (s : State) : (trainLinks s).boot = s.boot := (alter_trainLinks s).boot rfl

/-- The boot sequence's last place. -/
structure BootRun (a b : Bool) (s t : State) : Prop where
  phase : t.boot.phase = .run
  kind : t.boot.kind = s.boot.kind
  stoA : t.bit R.DEV_STO_STAT F.DEV_STO_STAT.STO_A = a
  stoB : t.bit R.DEV_STO_STAT F.DEV_STO_STAT.STO_B = b

/-- Since when the filtered levels stand, as boot ends (R65, R82). -/
def stoTimes (a b : Bool) (s : State) : State :=
  { s with stoHigh := if a && b then some s.dt else none, stoTold := false
           boot := { s.boot with stoDiff := if a == b then none else some s.dt } }

theorem stoLevels_eq (a b : Bool) (s : State) : stoLevels a b s =
    stoTimes a b ((s.setBit R.DEV_STO_STAT F.DEV_STO_STAT.STO_A a).setBit R.DEV_STO_STAT F.DEV_STO_STAT.STO_B b) := rfl

theorem stoTimes_keeps (a b : Bool) (s : State) : (stoTimes a b s).regs = s.regs ∧ (stoTimes a b s).boot.kind = s.boot.kind :=
  ⟨rfl, rfl⟩

theorem stoLevels_run (a b : Bool) (s : State) : BootRun a b s (bootAt .run (stoLevels a b s)) ∧
    OnlyRegs [R.DEV_STO_STAT] s (bootAt .run (stoLevels a b s)) := by
  have h1 : ((s.setBit R.DEV_STO_STAT F.DEV_STO_STAT.STO_A a).setBit R.DEV_STO_STAT F.DEV_STO_STAT.STO_B b).bit R.DEV_STO_STAT
      F.DEV_STO_STAT.STO_A = a := by
    rw [State.bit_setBit_beside _ (by decide), State.bit_setBit_eq _ (by decide)]
  have h2 : ((s.setBit R.DEV_STO_STAT F.DEV_STO_STAT.STO_A a).setBit R.DEV_STO_STAT F.DEV_STO_STAT.STO_B b).bit R.DEV_STO_STAT
      F.DEV_STO_STAT.STO_B = b := State.bit_setBit_eq _ (by decide)
  have ho : OnlyRegs [R.DEV_STO_STAT] s ((s.setBit R.DEV_STO_STAT F.DEV_STO_STAT.STO_A a).setBit R.DEV_STO_STAT
      F.DEV_STO_STAT.STO_B b) := ((OnlyRegs.refl _ s).setBit _ _ (by decide)).setBit _ _ (by decide)
  have hb : ((s.setBit R.DEV_STO_STAT F.DEV_STO_STAT.STO_A a).setBit R.DEV_STO_STAT F.DEV_STO_STAT.STO_B b).boot = s.boot := by
    rw [State.setBit_boot, State.setBit_boot]
  rw [stoLevels_eq]
  generalize (s.setBit R.DEV_STO_STAT F.DEV_STO_STAT.STO_A a).setBit R.DEV_STO_STAT F.DEV_STO_STAT.STO_B b = u at *
  obtain ⟨k1, k2⟩ := stoTimes_keeps a b u
  generalize stoTimes a b u = v at *
  obtain ⟨f1, f2, -, f4, -, -⟩ := bootAt_spec .run v
  generalize bootAt .run v = t at *
  have hr : t.regs = u.regs := f4.trans k1
  exact ⟨⟨f1, f2.trans (k2.trans (congrArg Boot.kind hb)), (State.bit_of_reg (Alter.reg_of_regs hr _) _).trans h1,
    (State.bit_of_reg (Alter.reg_of_regs hr _) _).trans h2⟩, ho.congr hr⟩

/-- What no part of step 8 before the mode's decision changes. -/
theorem BootRun.congr {a b : Bool} {s t u : State} (h : BootRun a b s t) (hb : u.boot = t.boot)
    (hr : u.reg R.DEV_STO_STAT = t.reg R.DEV_STO_STAT) : BootRun a b s u where
  phase := (congrArg Boot.phase hb).trans h.phase
  kind := (congrArg Boot.kind hb).trans h.kind
  stoA := (State.bit_of_reg hr _).trans h.stoA
  stoB := (State.bit_of_reg hr _).trans h.stoB

theorem bootRuns_run (a b : Bool) (s : State) : BootRun a b s (bootRuns a b s) :=
  (stoLevels_run a b s).1.congr (trainLinks_boot _) ((alter_trainLinks _).low _ (by decide) (by decide))

/-- The state whose causes decide the mode. -/
theorem bootStands_run (a b : Bool) (s : State) : BootRun a b s (convRehold (actRestore (bootRuns a b s))) := by
  refine (bootRuns_run a b s).congr ?_ ?_
  · rw [(alter_convRehold _).boot rfl, (alter_actRestore _).boot rfl]
  · rw [(alter_convRehold _).low _ (by decide) (by decide), (alter_actRestore _).low _ (by decide) (by decide)]

theorem stoBoth_of_run {a b : Bool} {s t : State} (h : BootRun a b s t) : stoBoth t = (a && b) := by
  unfold stoBoth
  rw [h.stoA, h.stoB]

/-- What follows the causes' decision leaves the place of the sequence and the levels. -/
theorem bootJudged_run (a b : Bool) (s : State) :
    (bootReady a b s).boot.phase = .run ∧
      (bootReady a b s).bit R.DEV_STO_STAT F.DEV_STO_STAT.STO_A = a ∧
      (bootReady a b s).bit R.DEV_STO_STAT F.DEV_STO_STAT.STO_B = b := by
  have h := bootStands_run a b s
  unfold bootReady
  have hj : BootRun a b s (selEvalAll (bootJudged a b s)) := by
    refine h.congr ?_ ?_
    · rw [(alter_selEvalAll _).boot rfl]
      unfold bootJudged
      rw [State.setFld_boot]
    · rw [(alter_selEvalAll _).low _ (by decide) (by decide)]
      unfold bootJudged
      rw [State.reg_setFld_ne _ _ _ (by decide)]
  generalize selEvalAll (bootJudged a b s) = u at hj ⊢
  have hr : (canBoot (bootLater u)).reg R.DEV_STO_STAT = u.reg R.DEV_STO_STAT := by
    rw [(alter_canBoot _).low _ (by decide) (by decide), (alter_bootLater _).low _ (by decide) (by decide)]
  refine ⟨?_, (State.bit_of_reg hr _).trans hj.stoA, (State.bit_of_reg hr _).trans hj.stoB⟩
  rw [(alter_canBoot _).boot rfl, bootLater_phase, hj.phase]

/-- The end of step 8 after the mode's decision. -/
theorem bootDone_keeps {s : State} (hd : s.discharging = false) : (bootEvents (linkEval s)).boot.phase = s.boot.phase ∧
    (∀ i, i < 64 → (bootEvents (linkEval s)).reg i = s.reg i) ∧ (bootEvents (linkEval s)).nfault = s.nfault := by
  obtain ⟨l1, -, l3, -, -, -⟩ := linkEval_dev s hd
  have lb := (alter_linkEval s).boot rfl
  generalize linkEval s = u at *
  refine ⟨by rw [bootEvents_phase, lb], fun i hi => ?_, ((alter_bootEvents u).nfault rfl).trans l3⟩
  exact ((alter_bootEvents u).low i hi (by interval_cases i <;> rfl)).trans (l1 i hi)

/-! ### The rows -/

/-- An STO level that is low is a cause. -/
theorem bootStanding_sto {s : State} (h : stoBoth s = false) : bootStanding s ≠ 0 := by
  unfold bootStanding bootCauses
  rw [h]
  intro h0
  have h1 := (Nat.or_eq_zero_iff.mp h0).1
  have h2 := (Nat.or_eq_zero_iff.mp (Nat.or_eq_zero_iff.mp h1).1).2
  exact absurd h2 (by decide)

/-- With an STO level low boot ends in SAFE. -/
theorem bootEnd_safe (e : Nat) {a b : Bool} {s : State} (hp : s.boot.phase = .links) (hab : (a && b) = false) :
    Answers (.bootEnd e a b) s fun t =>
       t.boot.phase = .run ∧ t.mode = Mode.safe ∧ t.nfault = true ∧
       t.bit R.DEV_STO_STAT F.DEV_STO_STAT.STO_A = a ∧ t.bit R.DEV_STO_STAT F.DEV_STO_STAT.STO_B = b := by
  refine .of_next (t := bootEnd a b (s.tick e)) rfl ?_
  have hj := bootJudged_run a b (s.tick e)
  have hu := stoBoth_of_run (bootStands_run a b (s.tick e))
  rw [bootEnd_eq a b (by exact hp)]
  generalize bootReady a b (s.tick e) = v at hj ⊢
  generalize convRehold (actRestore (bootRuns a b (s.tick e))) = u at hu ⊢
  have hc : bootStanding u ≠ 0 := bootStanding_sto (hu.trans hab)
  rw [show bootDecided (bootStanding u) v = safeEntry reqInternal v from if_neg hc]
  obtain ⟨p1, p2, -, -, -, p6⟩ := safeEntry_spec reqInternal v
  have pb := (alter_safeEntry reqInternal v).boot rfl
  obtain ⟨d1, d2, d3⟩ := bootDone_keeps (safeEntry_discharging reqInternal v)
  refine ⟨by rw [d1, pb, hj.1], (State.mode_of_reg (d2 _ (by decide))).trans p1, d3.trans p2, ?_, ?_⟩
  · rw [State.bit_of_reg (d2 _ (by decide)), State.bit_of_reg (p6 _ (by decide) (by decide) (by decide)), hj.2.1]
  · rw [State.bit_of_reg (d2 _ (by decide)), State.bit_of_reg (p6 _ (by decide) (by decide) (by decide)), hj.2.2]

/-- With no supply of an island told good no link is trained. -/
theorem trainLinks_none {s : State} (h : ∀ n < 48, s.bit (R.ISL_STAT n) F.ISL_STAT.VDD_OK = false) : trainLinks s = s :=
  forEach_idle _ _ _ fun n hn => by
    rw [if_neg]
    rw [h n (List.mem_range.mp hn), Bool.false_and, Bool.false_and, Bool.false_and]
    decide

theorem convRehold_none {s : State} (h : s.plant = none) : convRehold s = s := by
  unfold convRehold convs
  rw [h]
  rfl

/-- A cold start in which nothing stands as step 8 begins. -/
structure NothingStands (s : State) : Prop where
  kind : s.boot.kind = .cold
  plant : s.plant = none
  links : ∀ n : Fin 48, linkUp s n = false
  vana : s.bit R.DEV_SUPPLY F.DEV_SUPPLY.VANA_OK = true
  causes : s.fld R.DEV_SAFE_CAUSE ⟨11, 0⟩ = 0
  discharging : s.discharging = false

theorem islStat_apart (n : Fin 48) : R.ISL_STAT n ∉ R.DEV_STO_STAT :: actStatRegs := by
  revert n
  decide

theorem NothingStands.congr {s t : State} (h : NothingStands s) (hk : t.boot.kind = s.boot.kind) (hp : t.plant = s.plant)
    (hd : t.discharging = s.discharging) (ho : OnlyRegs (R.DEV_STO_STAT :: actStatRegs) s t) : NothingStands t where
  kind := hk.trans h.kind
  plant := hp.trans h.plant
  links n := (State.bit_of_reg (ho _ (islStat_apart n)) _).trans (h.links n)
  vana := (State.bit_of_reg (ho _ (by decide)) _).trans h.vana
  causes := (State.fld_of_reg (ho _ (by decide)) _).trans h.causes
  discharging := hd.trans h.discharging

theorem bootStanding_none {s : State} (h : NothingStands s) (hs : stoBoth s = true) : bootStanding s = 0 := by
  have hl : (List.range 48).any (fun n => linkUp s n && fbOn s n) = false := by
    rw [List.any_eq_false]
    intro n hn
    rw [h.links ⟨n, List.mem_range.mp hn⟩, Bool.false_and]
    decide
  unfold bootStanding bootCauses
  rw [hl, hs, h.kind, h.vana, h.causes]
  decide

theorem bootReady_discharging {a b : Bool} {s : State} (h : (convRehold (actRestore (bootRuns a b s))).discharging = false) :
    (bootReady a b s).discharging = false := by
  unfold bootReady bootJudged
  generalize convRehold (actRestore (bootRuns a b s)) = u at h ⊢
  rw [(alter_canBoot _).discharging rfl, (alter_bootLater _).discharging rfl, (alter_selEvalAll _).discharging rfl,
    State.setFld_discharging, h]

theorem stoLevels_keeps (a b : Bool) (s : State) : (stoLevels a b s).plant = s.plant ∧
    (stoLevels a b s).discharging = s.discharging := ⟨(alter_stoLevels ..).plant rfl, (alter_stoLevels ..).discharging rfl⟩

/-- Nothing stands after step 7 either, where no island has its supplies. -/
theorem bootStands_nothing {s : State} (h : NothingStands s)
    (hvd : ∀ n : Fin 48, s.bit (R.ISL_STAT n) F.ISL_STAT.VDD_OK = false) :
    NothingStands (convRehold (actRestore (bootRuns true true s))) := by
  obtain ⟨hrun, ho⟩ := stoLevels_run true true s
  obtain ⟨kp, kd⟩ := stoLevels_keeps true true s
  have bp : (bootAt .run (stoLevels true true s)).plant = s.plant := kp
  have bd : (bootAt .run (stoLevels true true s)).discharging = s.discharging := kd
  unfold bootRuns
  generalize bootAt .run (stoLevels true true s) = x at *
  rw [trainLinks_none fun n hn => (State.bit_of_reg (ho _ fun hm => islStat_apart ⟨n, hn⟩ (List.mem_append_left actStatRegs hm)) _).trans
    (hvd ⟨n, hn⟩)]
  have ha := alter_actRestore x
  have hoa := actRestore_only x
  generalize actRestore x = y at *
  have hy : NothingStands y := h.congr (by rw [ha.boot rfl, hrun.kind]) (by rw [ha.plant rfl, bp])
    (by rw [ha.discharging rfl, bd]) ((ho.mono (by decide)).trans (hoa.mono (by decide)))
  rw [convRehold_none hy.plant]
  exact hy

/-- READY, with `nFAULT` released, is decided where nothing stands. -/
def readyDecided (s : State) : State := enterReady false (putMode Mode.ready false reqInternal { s with nfault := false })

theorem bootDecided_ready (s : State) : bootDecided 0 s = readyDecided s := if_pos rfl

/-- What READY as boot ends leaves. -/
theorem readyDecided_spec {s : State} (hd : s.discharging = false) : (readyDecided s).boot = s.boot ∧
    (readyDecided s).discharging = false ∧ (readyDecided s).nfault = false ∧ (readyDecided s).mode = Mode.ready ∧
    (readyDecided s).reg R.DEV_STO_STAT = s.reg R.DEV_STO_STAT := by
  unfold readyDecided
  generalize hw : ({ s with nfault := false } : State) = w
  have wf : w.nfault = false ∧ w.discharging = false ∧ w.boot = s.boot ∧ w.regs = s.regs := by
    subst hw
    exact ⟨rfl, hd, rfl, rfl⟩
  obtain ⟨w1, w2, w3, w4⟩ := wf
  obtain ⟨p1, -, p3, -, -, p6, -⟩ := putMode_spec Mode.ready false reqInternal w (by decide) w2
  have pd := putMode_discharging Mode.ready false reqInternal w2
  have pb := (alter_putMode Mode.ready false reqInternal w).boot rfl
  generalize putMode Mode.ready false reqInternal w = x at *
  have ha := alter_enterReady false x
  generalize enterReady false x = y at *
  exact ⟨by rw [ha.boot rfl, pb, w3], by rw [ha.discharging rfl, pd], by rw [ha.nfault rfl, p3, w1],
    (State.mode_of_reg (ha.low _ (by decide) (by decide))).trans p1,
    by rw [ha.low _ (by decide) (by decide), p6 _ (by decide) (by decide), Alter.reg_of_regs w4]⟩

/-- With nothing that stands boot ends in READY. -/
theorem bootEnd_ready (e : Nat) {s : State} (hp : s.boot.phase = .links) (h : NothingStands s)
    (hvd : ∀ n : Fin 48, s.bit (R.ISL_STAT n) F.ISL_STAT.VDD_OK = false) :
    Answers (.bootEnd e true true) s fun t =>
       t.boot.phase = .run ∧ t.mode = Mode.ready ∧ t.nfault = false ∧
       t.bit R.DEV_STO_STAT F.DEV_STO_STAT.STO_A = true ∧ t.bit R.DEV_STO_STAT F.DEV_STO_STAT.STO_B = true := by
  refine .of_next (t := bootEnd true true (s.tick e)) rfl ?_
  have hj := bootJudged_run true true (s.tick e)
  have hu := stoBoth_of_run (bootStands_run true true (s.tick e))
  have hn := bootStands_nothing (s := s.tick e) (h.congr rfl rfl rfl (.tick e s)) hvd
  have hvdis : (bootReady true true (s.tick e)).discharging = false := bootReady_discharging hn.discharging
  rw [bootEnd_eq true true (by exact hp)]
  generalize bootReady true true (s.tick e) = v at hj hvdis ⊢
  generalize convRehold (actRestore (bootRuns true true (s.tick e))) = u at hu hn ⊢
  rw [bootStanding_none hn hu, bootDecided_ready]
  obtain ⟨r1, r2, r3, r4, r5⟩ := readyDecided_spec hvdis
  generalize readyDecided v = y at *
  obtain ⟨d1, d2, d3⟩ := bootDone_keeps r2
  have hsto : (bootEvents (linkEval y)).reg R.DEV_STO_STAT = v.reg R.DEV_STO_STAT := by
    rw [d2 _ (by decide), r5]
  exact ⟨by rw [d1, r1, hj.1], (State.mode_of_reg (d2 _ (by decide))).trans r4, by rw [d3, r3],
    by rw [State.bit_of_reg hsto, hj.2.1], by rw [State.bit_of_reg hsto, hj.2.2]⟩

/-- Settles O5: boot's end by the causes that stand, and the mode each decision puts in force. -/
theorem bootEnds : Obligations.BootEnds := by
  unfold Obligations.BootEnds
  exact ⟨fun e a b _ hp hab => bootEnd_safe e hp hab,
    fun e _ hp hk hpl hl hvd hva hc hd => bootEnd_ready e hp ⟨hk, hpl, hl, hva, hc, hd⟩ hvd⟩

end Sys2Proof.Machine
end

section
/-! SUPPORT. What goes on in STANDBY keeps the mode and holds nothing, and the settling of O9 (R40, R70, R497). -/

namespace Sys2Proof.Machine

set_option Elab.async false

/-! ### Trips in STANDBY -/

/-- All but the mode's word, the transition and what is held. -/
abbrev sleepM : Nat := 2 ^ 128 - 1 - (2 ^ 32 + 2 ^ 70 + 2 ^ 71 + 2 ^ 72)

theorem asleep_of_alter {s t : State} (h : Alter sleepM s t) (hm : s.mode = Mode.standby) : t.mode = Mode.standby :=
  (State.mode_of_reg (h.low _ (by decide) rfl)).trans hm

/-- A loop whose every step leaves a state in STANDBY with its mode. -/
theorem sleep_forEach {α : Type} {f : α → State → State} (l : List α) {s t : State} (h : Alter sleepM s t)
    (hm : s.mode = Mode.standby) (hf : ∀ a x, x.mode = Mode.standby → Alter sleepM x (f a x)) :
    Alter sleepM s (forEach l f t) := by
  unfold forEach
  induction l generalizing t with
  | nil => exact h
  | cons a l ih => exact ih (h.and (hf a t (asleep_of_alter h hm)))

/-- In STANDBY no cause enters SAFE (R77), so protection only puts a machine under its selector. -/
theorem protHold_sleeps (m why : Nat) {s : State} (hm : s.mode = Mode.standby) : Alter sleepM s (protHold m why s) := by
  have h : Alter sleepM s (selHold m why s) := (alter_selHold ..).mono rfl
  unfold protHold escalate
  generalize selHold m why s = u at h ⊢
  dsimp only
  split
  · rw [show enterSafe Cause.prot reqInternal u = u from if_pos (asleep_of_alter h hm)]
    exact h
  · exact h

theorem tripSelect_sleeps (c m stamp : Nat) {s : State} (hm : s.mode = Mode.standby) :
    Alter sleepM s (tripSelect c m stamp s) := by
  unfold tripSelect
  split
  · exact protHold_sleeps _ _ hm
  · have h : Alter sleepM s ((forEach (dueUnits s (unitsOf s c) (stamp + 2)) gateEdge s).until (stamp + 2)) :=
      (alter_forEach _ _ _ fun _ _ => (alter_gateEdge ..).mono rfl).step (alter_until ..) rfl
    exact h.and (protHold_sleeps _ _ (asleep_of_alter h hm))

/-- What a latched trip does to each unit of the converter. -/
theorem unitLatch_sleeps (j : Nat) (u : Unit) (s : State) : Alter sleepM s
    ((carryClear j ((((s.setBitAt R.PWM_LATCH F.PWM_LATCH.UNIT j true).setBit (R.PWM_HB_FLAGS j) F.PWM_HB_FLAGS.LATCH
      true).setBit (R.PWM_HB_STAT j) F.PWM_HB_STAT.LATCHED true).setUnit j u)).setBit (R.PWM_HB_STAT j)
        F.PWM_HB_STAT.EN false) :=
  ((((((alter_setBitAt ..).mono (rm_high (by decide) rfl)).step (alter_setBit ..) (rm_high (by unfold R.PWM_HB_FLAGS; omega)
    rfl)).step (alter_setBit ..) (rm_high (by unfold R.PWM_HB_STAT; omega) rfl)).step (alter_setUnit ..) rfl).step
    (alter_carryClear ..) rfl).step (alter_setBit ..) (rm_high (by unfold R.PWM_HB_STAT; omega) rfl)

theorem tripLatch_sleeps (k stamp : Nat) (fresh : Bool) {s : State} (hm : s.mode = Mode.standby) :
    Alter sleepM s (tripLatch k stamp fresh s) := by
  unfold tripLatch
  split
  · exact Alter.refl _ _
  · extract_lets u v
    have hu : Alter sleepM s u := alter_forEach _ _ _ fun j x => unitLatch_sleeps j _ x
    clear_value u
    have hv : Alter sleepM s v := (hu.step (alter_setBit ..) (rm_high (by decide) rfl)).step (alter_noticeSend ..) rfl
    clear_value v
    split
    · exact hv.and (tripSelect_sleeps _ _ _ (asleep_of_alter hv hm))
    · exact hv

theorem tripUnit_sleeps (fresh : Bool) (k stamp : Nat) {s : State} (hm : s.mode = Mode.standby) :
    Alter sleepM s (tripUnit fresh k stamp s) := by
  unfold tripUnit
  extract_lets u o c w es x y z
  refine alter_ite (fun _ => Alter.refl _ _) fun _ => ?_
  have hx : Alter sleepM s x := (alter_setUnit ..).mono rfl
  clear_value x
  have hy : Alter sleepM s y := (hx.step (alter_setBit ..) (rm_high (by unfold R.PWM_HB_FLAGS; omega) rfl)).step
    (alter_setBit ..) (rm_high (by unfold R.PWM_HB_STAT; omega) rfl)
  clear_value y
  have hz : Alter sleepM s z := (hy.step (alter_setFld ..) (rm_high (by unfold R.PWM_HB_STAT; omega) rfl)).step
    (alter_noticeSend ..) rfl
  clear_value z
  exact alter_ite (fun _ => hz.and (tripLatch_sleeps _ _ _ (asleep_of_alter hz hm))) fun _ => hz

theorem tripAt_sleeps (src : Nat) (on : Bool) (stamp : Nat) {s : State} (hm : s.mode = Mode.standby) :
    Alter sleepM s (tripAt src on stamp s) := by
  unfold tripAt
  extract_lets u
  have hu : Alter sleepM s u := (alter_trips _ _).mono rfl
  clear_value u
  exact alter_ite (fun _ => sleep_forEach _ hu hm fun _ _ hx => tripUnit_sleeps _ _ _ hx) fun _ => hu

/-! ### The reference buffer goes off -/

theorem wcmpEval_sleeps (c : Nat) {s : State} (hm : s.mode = Mode.standby) : Alter sleepM s (wcmpEval c s) := by
  unfold wcmpEval
  extract_lets w i n x y f z
  refine alter_ite (fun _ => Alter.refl _ _) fun _ => ?_
  have hi : 64 ≤ i := by
    unfold i R.ADC_WCMP_STAT
    omega
  have hx : Alter sleepM s x := (alter_setBitAt ..).mono (rm_high hi rfl)
  clear_value x
  have hy : Alter sleepM s y := alter_ite (fun _ => hx.step (alter_setBitAt ..) (rm_high (by unfold R.ADC_WCMP_FLAGS; omega) rfl))
    fun _ => hx
  clear_value y
  have hz : Alter sleepM s z := alter_ite (fun _ => hy) fun _ => hy.step (alter_meas _ _) rfl
  clear_value z
  exact hz.and (tripAt_sleeps _ _ _ (asleep_of_alter hz hm))

theorem refUnsettle_sleeps {s : State} (hm : s.mode = Mode.standby) : Alter sleepM s (refUnsettle s) := by
  unfold refUnsettle wcmpAll
  extract_lets f g u
  have hu : Alter sleepM s (u.setBit R.ADC_REF_CTRL F.ADC_REF_CTRL.SETTLED false) :=
    ((alter_meas _ _).mono rfl).step (alter_setBit ..) (rm_high (by decide) rfl)
  generalize u.setBit R.ADC_REF_CTRL F.ADC_REF_CTRL.SETTLED false = v at hu ⊢
  exact sleep_forEach _ hu hm fun _ _ hx => wcmpEval_sleeps _ hx

theorem refEnable_sleeps (on : Bool) {s : State} (hm : s.mode = Mode.standby) : Alter sleepM s (refEnable on s) := by
  unfold refEnable
  extract_lets w u
  have hu : Alter sleepM s u := (alter_setBit ..).mono (rm_high (by decide) rfl)
  clear_value u
  exact alter_ite (fun _ => hu.step (alter_refStart ..) rfl) fun _ =>
    alter_ite (fun _ => hu.and (refUnsettle_sleeps (asleep_of_alter hu hm))) fun _ => hu

/-! ### STANDBY entered -/

/-- STANDBY with nothing held, its boot phase shown and its clock stopped. -/
structure Asleep (t : State) : Prop where
  mode : t.mode = Mode.standby
  trans : t.trans = none
  heldMode : t.heldMode = none
  heldFn : t.heldFn = []
  phase : t.boot.phase = .standby
  stopAt : t.boot.stopAt = some t.el
  discharging : t.discharging = false

theorem enterStandby_asleep {s : State} (hi : InForce Mode.standby s) : Asleep (enterStandby s) := by
  obtain ⟨d1, d2⟩ := dropAll_spec St.wrongMode s
  have d3 : (dropAll St.wrongMode s).trans = none := ((alter_dropAll St.wrongMode s).trans rfl).trans hi.trans
  have d4 : (dropAll St.wrongMode s).mode = Mode.standby :=
    (State.mode_of_reg ((alter_dropAll St.wrongMode s).low _ (by decide) rfl)).trans hi.mode
  unfold enterStandby
  generalize dropAll St.wrongMode s = u at *
  extract_lets d w v x
  have hv : Alter sleepM u w := refEnable_sleeps _ d4
  clear_value w
  have hx : Alter sleepM u v := alter_ite (fun _ => hv.step (alter_mirrorDone ..) rfl) fun _ => hv
  clear_value v
  have hy : Alter sleepM u x := hx.step (alter_canStandby ..) rfl
  clear_value x
  have hm := asleep_of_alter hy d4
  exact ⟨hm, (hy.trans rfl).trans d3, (hy.heldMode rfl).trans d1, (hy.heldFn rfl).trans d2, rfl, rfl, rfl⟩

/-- A transition from READY to STANDBY completes. -/
theorem finishTrans_asleep (x : Trans) {s : State} (ho : s.mode = Mode.ready)
    (ht : s.fld R.DEV_MODE F.DEV_MODE.TARGET = Mode.standby) (hd : s.discharging = false) : Asleep (finishTrans x s) := by
  rw [finishTrans_eq, ht, if_pos rfl, ho, leaveMode_ready]
  have hin := putMode_inForce x.forced (x.req.getD reqInternal) (new := Mode.standby) (s := s) (by decide) hd
  generalize putMode Mode.standby x.forced (x.req.getD reqInternal) s = u at hin ⊢
  have hk := arriveMode_keeps Mode.ready (new := Mode.standby) (s := u) fun h => absurd h.1 (by decide)
  exact enterStandby_asleep (hin.congr hk.word hk.trans)

theorem transComplete_asleep {x : Trans} {s : State} (hx : s.trans = some x) (hs : x.stop = false) (hi : x.disch = false)
    (ho : s.mode = Mode.ready) (ht : s.fld R.DEV_MODE F.DEV_MODE.TARGET = Mode.standby) (hp : s.life.pend = none)
    (hd : s.discharging = false) : Asleep (transComplete s) := by
  have hb : mirrorBusy s = false := by
    unfold mirrorBusy
    rw [hp]
    rfl
  unfold transComplete
  rw [hx]
  dsimp only
  rw [if_neg (by rw [hs, Bool.false_and]; decide), if_neg (by rw [hi]; decide), if_pos ht, if_neg (by rw [hb]; decide)]
  exact finishTrans_asleep x ho ht hd

/-! ### The discharge's end -/

theorem dischargeOff_discharging (s : State) : (dischargeOff s).discharging = false := by
  unfold dischargeOff
  extract_lets u
  split
  · rw [(alter_convDark ..).discharging rfl, (alter_setConv ..).discharging rfl]
  · rfl

/-- The chopper of a discharge goes off: the mode's word, the transition, the mirror and the link's reading stand. -/
theorem dischargeOff_keeps (s : State) : (dischargeOff s).reg R.DEV_MODE = s.reg R.DEV_MODE ∧
    (dischargeOff s).trans = s.trans ∧ (dischargeOff s).life = s.life ∧ vlink (dischargeOff s) = vlink s := by
  unfold dischargeOff
  extract_lets u
  split
  · rename_i c _
    have hc := alter_convDark c (u.setConv c { u.convOf c with en := false })
    refine ⟨hc.low _ (by decide) rfl, hc.trans rfl, hc.life rfl, ?_⟩
    exact (convDark_calm c (u.setConv c { u.convOf c with en := false })).fld (by decide)
  · exact ⟨rfl, rfl, rfl, rfl⟩

/-- A discharge's end below 60 V. -/
theorem dischargeComplete_eq {x : Trans} {vl : Nat} {s : State} (hx : s.trans = some x) (hd : x.disch = true)
    (hv : vl < 120) : dischargeComplete vl s =
      if mirrorBusy (dischargeOff (setVlink vl s)) then { dischargeOff (setVlink vl s) with trans := some { x with disch := false } }
      else transComplete { dischargeOff (setVlink vl s) with trans := some { x with disch := false } } := by
  have ht : (setVlink vl s).trans = some x := ((alter_setVlink ..).trans rfl).trans hx
  unfold dischargeComplete
  extract_lets u w
  rw [ht]
  dsimp only
  rw [if_neg (by rw [hd, decide_eq_false (by omega)]; decide)]
  rfl

/-- What stands after a discharge's end below 60 V, before the transition goes on. -/
theorem discharged_spec (vl : Nat) (s : State) (hv : vl < 2 ^ 13) :
    let u := dischargeOff (setVlink vl s)
    u.reg R.DEV_MODE = s.reg R.DEV_MODE ∧ u.discharging = false ∧ u.life = s.life ∧ vlink u = vl := by
  intro u
  have ha := alter_setVlink vl s
  obtain ⟨d1, -, d3, d4⟩ := dischargeOff_keeps (setVlink vl s)
  exact ⟨d1.trans (ha.low _ (by decide) rfl), dischargeOff_discharging _, d3.trans (ha.life rfl),
    d4.trans ((setVlink_shows vl s).shown hv)⟩

theorem dischargeComplete_standby (e : Nat) {x : Trans} (vl : BitVec 13) {s : State} (hx : s.trans = some x)
    (hs : x.stop = false) (hd : x.disch = true) (ho : s.mode = Mode.ready)
    (ht : s.fld R.DEV_MODE F.DEV_MODE.TARGET = Mode.standby) (hp : s.life.pend = none) (hv : vl.toNat < 120) :
    Answers (.dischargeComplete e vl) s fun t =>
       t.mode = Mode.standby ∧ t.boot.phase = .standby ∧ t.discharging = false ∧ t.trans = none := by
  refine .of_next (t := dischargeComplete vl.toNat (s.tick e)) rfl ?_
  rw [dischargeComplete_eq (x := x) (by exact hx) hd hv]
  obtain ⟨h1, h2, h3, -⟩ := discharged_spec vl.toNat (s.tick e) vl.isLt
  generalize dischargeOff (setVlink vl.toNat (s.tick e)) = u at *
  have hp' : u.life.pend = none := by
    rw [h3]
    exact hp
  rw [if_neg (by unfold mirrorBusy; rw [hp']; decide)]
  have h := transComplete_asleep (s := { u with trans := some { x with disch := false } }) rfl hs rfl
    ((State.mode_of_reg h1).trans ho) ((State.fld_of_reg h1 _).trans ht) hp' h2
  exact ⟨h.mode, h.phase, h.discharging, h.trans⟩

theorem dischargeComplete_noted (e : Nat) {x : Trans} (vl : BitVec 13) {s : State} (hx : s.trans = some x)
    (hd : x.disch = true) (hp : s.life.pend.isSome = true) (hv : vl.toNat < 120) :
    Answers (.dischargeComplete e vl) s fun t =>
       t.trans = some { x with disch := false } ∧ t.discharging = false ∧ t.reg R.DEV_MODE = s.reg R.DEV_MODE ∧
       vlink t = vl.toNat := by
  refine .of_next (t := dischargeComplete vl.toNat (s.tick e)) rfl ?_
  rw [dischargeComplete_eq (x := x) (by exact hx) hd hv]
  obtain ⟨h1, h2, h3, h4⟩ := discharged_spec vl.toNat (s.tick e) vl.isLt
  generalize dischargeOff (setVlink vl.toNat (s.tick e)) = u at *
  rw [if_pos (by unfold mirrorBusy; rw [h3]; exact hp)]
  exact ⟨rfl, h2, h1, h4⟩

/-- Settles O9: in STANDBY no cause enters SAFE, so nothing that the entry to it sets off leaves it again. -/
theorem standbyIsEntered : Obligations.StandbyIsEntered := by
  unfold Obligations.StandbyIsEntered
  refine ⟨fun e x s hx hs hi ho ht hp hd => ?_,
    fun e x vl s hx hs hd ho ht hp hv => dischargeComplete_standby e vl hx hs hd ho ht hp hv,
    fun e x vl s hx hd hp hv => dischargeComplete_noted e vl hx hd hp hv⟩
  refine .of_next (t := transComplete (s.tick e)) rfl ?_
  have h := transComplete_asleep (s := s.tick e) hx hs hi ho ht hp hd
  exact ⟨h.mode, h.phase, h.stopAt, h.trans, h.heldMode, h.heldFn⟩

end Sys2Proof.Machine
end

section
/-! SUPPORT. What the safe-state selector reads, does and keeps (R148 to R157, R187). -/

namespace Sys2Proof.Machine

set_option Elab.async false

/-! ### Records -/

section
variable {s t : State}

theorem State.selOf_setSel_same (m : Nat) (x : Sel) (s : State) : (s.setSel m x).selOf m = x := AMap.getD_put_same _ _ _ _

theorem State.selOf_setSel_ne {m j : Nat} (x : Sel) (s : State) (h : j ≠ m) : (s.setSel m x).selOf j = s.selOf j :=
  AMap.getD_put_other _ _ _ _ h

theorem State.selOf_of_sel (h : t.sel = s.sel) (m : Nat) : t.selOf m = s.selOf m := by
  unfold State.selOf
  rw [h]

theorem State.islOf_of_isl (h : t.isl = s.isl) (g : Nat) : t.islOf g = s.islOf g := by
  unfold State.islOf
  rw [h]

theorem machConv_of_plant (h : t.plant = s.plant) (m : Nat) : machConv t m = machConv s m := by
  unfold machConv convs
  rw [h]

theorem machIsls_of_plant (h : t.plant = s.plant) (m : Nat) : machIsls t m = machIsls s m := by
  unfold machIsls gatesOfConv gatesOfUnits gatesOf unitsOf
  rw [machConv_of_plant h m, h]

end

/-! ### What the selector reads anew -/

/-- The state once a channel's row, class, side and impairments are read anew from what it remembers (R151, R153). -/
def selShown (m : Nat) (s : State) : State :=
  let row := selRow s m
  let short := selShort row
  let p := selSideNow s m short
  let i := R.PROT_SS_STAT m
  let s := ((s.setFld i F.PROT_SS_STAT.ROW row).setFld i F.PROT_SS_STAT.CLASS (faultClass s m)).setBit i F.PROT_SS_STAT.RESULT short
  let s := (s.setFld i F.PROT_SS_STAT.SIDE p.1).setBit i F.PROT_SS_STAT.SIDE_LOCK p.2
  let s := (s.setFld i F.PROT_SS_STAT.IMP_HS (impHs s m).length).setFld i F.PROT_SS_STAT.IMP_LS (impLs s m).length
  let s := s.setBit i F.PROT_SS_STAT.STALE (speedUnknown s m)
  s.setSel m { s.selOf m with imp := islMask s m (impaired s) }

/-- The islands commanded as a result or a side changes (R154). -/
def selMoves (m : Nat) (short oldShort : Bool) (side oldSide : Nat) (s : State) : State :=
  if s.bit (R.PROT_SS_STAT m) F.PROT_SS_STAT.APPLIED && short && oldShort && side != oldSide then
    (selCommand m s).raise EV.SS_SWAP m []
  else if s.bit (R.PROT_SS_STAT m) F.PROT_SS_STAT.APPLIED && (short != oldShort || !short) then selCommand m s
  else s

/-- The degraded short told while the machine is in its short, and forgotten otherwise. -/
def selTells (m : Nat) (kept : Bool) (s : State) : State :=
  if kept then (if (s.selOf m).swapDue.isNone then selDegraded m s else s)
  else s.setSel m { s.selOf m with degr := false }

theorem selEval_eq (m : Nat) (s : State) :
    let u := selRemember m s
    let short := selShort (selRow u m)
    let v := selShown m u
    selEval m s = selReload m (selTells m (v.bit (R.PROT_SS_STAT m) F.PROT_SS_STAT.APPLIED && short)
      (selMoves m short (u.bit (R.PROT_SS_STAT m) F.PROT_SS_STAT.RESULT) (selSideNow u m short).1
        (u.fld (R.PROT_SS_STAT m) F.PROT_SS_STAT.SIDE) v)) := by
  unfold selEval selShown selTells selMoves
  rfl

theorem selReload_reg (m : Nat) (s : State) {i : Nat} (hi : i % 16 ≠ 0) : (selReload m s).reg i = s.reg i := by
  have h : OnlyRegs ((machIsls s m).map R.ISL_STAT) s (selReload m s) := OnlyRegs.forEach_mem _ _ fun n hn x => by
    split
    · exact (OnlyRegs.refl _ x).setBit _ _ (List.mem_map_of_mem hn)
    · exact .refl _ x
  refine h i fun hm => hi ?_
  obtain ⟨n, -, rfl⟩ := List.mem_map.mp hm
  unfold R.ISL_STAT
  omega

/-- What a channel shows of its row and speed once it is read anew. -/
structure SelReads (m : Nat) (s t : State) : Prop where
  row : t.fld (R.PROT_SS_STAT m) F.PROT_SS_STAT.ROW = selRow s m
  result : t.bit (R.PROT_SS_STAT m) F.PROT_SS_STAT.RESULT = selShort (selRow s m)
  stale : t.bit (R.PROT_SS_STAT m) F.PROT_SS_STAT.STALE = speedUnknown s m
  applied : t.bit (R.PROT_SS_STAT m) F.PROT_SS_STAT.APPLIED = s.bit (R.PROT_SS_STAT m) F.PROT_SS_STAT.APPLIED
  only : OnlyRegs [R.PROT_SS_STAT m] s t
  record : ∃ k, t.selOf m = { s.selOf m with imp := k }

theorem selRow_lt (s : State) (m : Nat) : selRow s m < 16 := by
  unfold selRow
  split
  · decide
  · split
    · decide
    · split
      · decide
      · decide

theorem speedUnknown_congr {s t : State} {m : Nat} (hr : t.reg (R.PROT_SS_SPEED m) = s.reg (R.PROT_SS_SPEED m))
    (hf : (t.selOf m).fresh = (s.selOf m).fresh) (hd : t.dt = s.dt) : speedUnknown t m = speedUnknown s m := by
  unfold speedUnknown
  rw [State.fld_of_reg hr, hf, hd]

theorem selShown_reads (m : Nat) (u : State) : SelReads m u (selShown m u) := by
  have hlt := selRow_lt u m
  unfold selShown
  extract_lets row short p i v w x y
  have hv : OnlyRegs [i] u v ∧ v.sel = u.sel ∧ v.dt = u.dt := ⟨(((OnlyRegs.refl _ u).setFld _ _ (by simp)).setFld _ _
    (by simp)).setBit _ _ (by simp), by unfold v; rw [State.setBit_sel, State.setFld_sel, State.setFld_sel],
    by unfold v; rw [State.setBit_dt, State.setFld_dt, State.setFld_dt]⟩
  have hv1 : v.fld i F.PROT_SS_STAT.ROW = row ∧ v.bit i F.PROT_SS_STAT.RESULT = short ∧
      v.bit i F.PROT_SS_STAT.APPLIED = u.bit i F.PROT_SS_STAT.APPLIED := by
    refine ⟨?_, State.bit_setBit_eq _ (by decide), ?_⟩
    · rw [State.fld_setBit_beside _ (by decide), State.fld_setFld_beside _ (by decide), State.fld_setFld_eq _ (by decide)]
      exact Nat.mod_eq_of_lt hlt
    · rw [State.bit_setBit_beside _ (by decide), State.bit_setFld_beside _ (by decide), State.bit_setFld_beside _ (by decide)]
  clear_value v
  have hw : OnlyRegs [i] v w ∧ w.sel = v.sel ∧ w.dt = v.dt ∧ w.fld i F.PROT_SS_STAT.ROW = v.fld i F.PROT_SS_STAT.ROW ∧
      w.bit i F.PROT_SS_STAT.RESULT = v.bit i F.PROT_SS_STAT.RESULT ∧
      w.bit i F.PROT_SS_STAT.APPLIED = v.bit i F.PROT_SS_STAT.APPLIED := by
    refine ⟨((OnlyRegs.refl _ v).setFld _ _ (by simp)).setBit _ _ (by simp), by unfold w; rw [State.setBit_sel, State.setFld_sel],
      by unfold w; rw [State.setBit_dt, State.setFld_dt], ?_, ?_, ?_⟩
    · rw [State.fld_setBit_beside _ (by decide), State.fld_setFld_beside _ (by decide)]
    · rw [State.bit_setBit_beside _ (by decide), State.bit_setFld_beside _ (by decide)]
    · rw [State.bit_setBit_beside _ (by decide), State.bit_setFld_beside _ (by decide)]
  clear_value w
  have hx : OnlyRegs [i] w x ∧ x.sel = w.sel ∧ x.dt = w.dt ∧ x.fld i F.PROT_SS_STAT.ROW = w.fld i F.PROT_SS_STAT.ROW ∧
      x.bit i F.PROT_SS_STAT.RESULT = w.bit i F.PROT_SS_STAT.RESULT ∧
      x.bit i F.PROT_SS_STAT.APPLIED = w.bit i F.PROT_SS_STAT.APPLIED := by
    refine ⟨((OnlyRegs.refl _ w).setFld _ _ (by simp)).setFld _ _ (by simp), by unfold x; rw [State.setFld_sel, State.setFld_sel],
      by unfold x; rw [State.setFld_dt, State.setFld_dt], ?_, ?_, ?_⟩
    · rw [State.fld_setFld_beside _ (by decide), State.fld_setFld_beside _ (by decide)]
    · rw [State.bit_setFld_beside _ (by decide), State.bit_setFld_beside _ (by decide)]
    · rw [State.bit_setFld_beside _ (by decide), State.bit_setFld_beside _ (by decide)]
  clear_value x
  have hsp : speedUnknown x m = speedUnknown u m := speedUnknown_congr
    (((hx.1 _ (by unfold i; simp)).trans (hw.1 _ (by unfold i; simp))).trans (hv.1 _ (by unfold i; simp)))
    (by rw [State.selOf_of_sel (hx.2.1.trans (hw.2.1.trans hv.2.1))])
    (by rw [hx.2.2.1, hw.2.2.1, hv.2.2])
  have hy : OnlyRegs [i] x y ∧ y.sel = x.sel ∧ y.fld i F.PROT_SS_STAT.ROW = x.fld i F.PROT_SS_STAT.ROW ∧
      y.bit i F.PROT_SS_STAT.RESULT = x.bit i F.PROT_SS_STAT.RESULT ∧
      y.bit i F.PROT_SS_STAT.APPLIED = x.bit i F.PROT_SS_STAT.APPLIED ∧ y.bit i F.PROT_SS_STAT.STALE = speedUnknown u m := by
    refine ⟨(OnlyRegs.refl _ x).setBit _ _ (by simp), State.setBit_sel .., State.fld_setBit_beside _ (by decide),
      State.bit_setBit_beside _ (by decide), State.bit_setBit_beside _ (by decide), ?_⟩
    rw [← hsp]
    exact State.bit_setBit_eq _ (by decide)
  clear_value y
  obtain ⟨v1, v2, -⟩ := hv
  obtain ⟨v4, v5, v6⟩ := hv1
  obtain ⟨w1, w2, -, w4, w5, w6⟩ := hw
  obtain ⟨x1, x2, -, x4, x5, x6⟩ := hx
  obtain ⟨y1, y2, y4, y5, y6, y7⟩ := hy
  have hsel : y.selOf m = u.selOf m := State.selOf_of_sel (by rw [y2, x2, w2, v2]) m
  have hz : ∀ k : Sel, (y.setSel m k).reg i = y.reg i := fun k => Alter.reg_of_regs (State.setSel_regs ..) i
  refine ⟨(State.fld_of_reg (hz _) _).trans ((y4.trans (x4.trans w4)).trans v4),
    (State.bit_of_reg (hz _) _).trans ((y5.trans (x5.trans w5)).trans v5), (State.bit_of_reg (hz _) _).trans y7,
    (State.bit_of_reg (hz _) _).trans ((y6.trans (x6.trans w6)).trans v6),
    ?_, islMask y m (impaired y), ?_⟩
  · exact OnlyRegs.congr (fun j hj => (((y1 j hj).trans (x1 j hj)).trans (w1 j hj)).trans (v1 j hj)) (State.setSel_regs ..)
  · rw [State.selOf_setSel_same, ← hsel]

/-- A channel not applied is read anew and commands nothing. -/
theorem selEval_of_off {m : Nat} {s : State} (h : s.bit (R.PROT_SS_STAT m) F.PROT_SS_STAT.APPLIED = false) :
    selEval m s = selReload m ((selShown m (selRemember m s)).setSel m
      { (selShown m (selRemember m s)).selOf m with degr := false }) := by
  have hu : (selRemember m s).bit (R.PROT_SS_STAT m) F.PROT_SS_STAT.APPLIED = false := h
  have ha := (selShown_reads m (selRemember m s)).applied.trans hu
  rw [selEval_eq]
  unfold selMoves selTells
  simp only [ha, Bool.false_and, Bool.false_eq_true, if_false]

/-- A channel not applied after its evaluation. -/
theorem selEval_reads {m : Nat} (hm : m < 2) {s : State} (h : s.bit (R.PROT_SS_STAT m) F.PROT_SS_STAT.APPLIED = false) :
    let t := selEval m s
    t.fld (R.PROT_SS_STAT m) F.PROT_SS_STAT.ROW = selRow (selRemember m s) m ∧
    t.bit (R.PROT_SS_STAT m) F.PROT_SS_STAT.RESULT = selShort (selRow (selRemember m s) m) ∧
    t.bit (R.PROT_SS_STAT m) F.PROT_SS_STAT.STALE = speedUnknown (selRemember m s) m ∧
    (∀ i, i % 16 ≠ 0 → i ≠ R.PROT_SS_STAT m → t.reg i = s.reg i) ∧
    ∃ k, t.selOf m = { (selRemember m s).selOf m with imp := k, degr := false } := by
  intro t
  have hs : (R.PROT_SS_STAT m) % 16 ≠ 0 := by
    unfold R.PROT_SS_STAT
    omega
  have hr := selShown_reads m (selRemember m s)
  have ht : t = selReload m ((selShown m (selRemember m s)).setSel m
      { (selShown m (selRemember m s)).selOf m with degr := false }) := selEval_of_off h
  have hreg : ∀ i, i % 16 ≠ 0 → t.reg i = (selShown m (selRemember m s)).reg i := fun i hi => by
    rw [ht, selReload_reg m _ hi]
    exact Alter.reg_of_regs (State.setSel_regs ..) i
  have hsel : t.selOf m = { (selShown m (selRemember m s)).selOf m with degr := false } := by
    rw [ht, State.selOf_of_sel ((alter_selReload ..).sel rfl), State.selOf_setSel_same]
  obtain ⟨k, hk⟩ := hr.record
  refine ⟨(State.fld_of_reg (hreg _ hs) _).trans hr.row, (State.bit_of_reg (hreg _ hs) _).trans hr.result,
    (State.bit_of_reg (hreg _ hs) _).trans hr.stale, fun i hi hne => (hreg i hi).trans ?_, k, ?_⟩
  · exact (hr.only i (by simpa using hne)).trans (Alter.reg_of_regs (selRemember_regs m s) i)
  · rw [hsel, hk]

end Sys2Proof.Machine
end

section
/-! SUPPORT. The row a channel's speed decides, and the settling of O16 (R148, R151, R152). -/

namespace Sys2Proof.Machine

set_option Elab.async false

/-! ### The row decided -/

/-- What the hold of R152 becomes. -/
def holdNow (m : Nat) (s : State) : Bool :=
  atOrAboveNas s m || ((s.selOf m).held &&
    match (if !speedUnknown s m && decide (10 * s.fld (R.PROT_SS_SPEED m) F.PROT_SS_SPEED.SPEED <
      9 * s.fld (R.PROT_SS_CFG m) F.PROT_SS_CFG.N_AS) then
        (match (s.selOf m).below with | some t => some t | none => some s.dt) else none) with
    | some t => decide (s.dt < t + 2000000)
    | none => true)

/-- A channel's record once it is brought up to date. -/
theorem selRemember_record (m : Nat) (s : State) :
    ((selRemember m s).selOf m).held = holdNow m s ∧ ((selRemember m s).selOf m).fresh = (s.selOf m).fresh ∧
    ((selRemember m s).selOf m).known = (s.selOf m).known ∧
    ((selRemember m s).selOf m).twoLeg = ((s.selOf m).twoLeg && (machIsls s m).any (faulted s)) := by
  unfold selRemember
  rw [State.selOf_setSel_same]
  exact ⟨rfl, rfl, rfl, rfl⟩

theorem speedUnknown_congr' {s t : State} {m : Nat} (hr : t.regs = s.regs) (hf : (t.selOf m).fresh = (s.selOf m).fresh)
    (hd : t.dt = s.dt) : speedUnknown t m = speedUnknown s m := speedUnknown_congr (Alter.reg_of_regs hr _) hf hd

theorem speedUnknown_remember (m : Nat) (s : State) : speedUnknown (selRemember m s) m = speedUnknown s m :=
  speedUnknown_congr' (selRemember_regs m s) (selRemember_record m s).2.1 rfl

theorem atOrAboveNas_remember (m : Nat) (s : State) : atOrAboveNas (selRemember m s) m = atOrAboveNas s m := by
  unfold atOrAboveNas
  rw [speedUnknown_remember]
  rfl

/-- The islands' faults and impairments, where their words, their records and the plant are the same. -/
structure SameIslands (m : Nat) (s t : State) : Prop where
  isls : machIsls t m = machIsls s m
  stat : ∀ n ∈ machIsls s m, t.reg (R.ISL_STAT n) = s.reg (R.ISL_STAT n)
  ist : ∀ n ∈ machIsls s m, t.reg (R.PROT_IST n) = s.reg (R.PROT_IST n)
  isl : t.isl = s.isl

theorem SameIslands.of_regs {m : Nat} {s t : State} (hp : t.plant = s.plant) (hr : t.regs = s.regs) (hi : t.isl = s.isl) :
    SameIslands m s t :=
  ⟨machIsls_of_plant hp m, fun _ _ => Alter.reg_of_regs hr _, fun _ _ => Alter.reg_of_regs hr _, hi⟩

theorem SameIslands.faulted {m n : Nat} {s t : State} (h : SameIslands m s t) (hn : n ∈ machIsls s m) :
    Machine.faulted t n = Machine.faulted s n := by
  unfold Machine.faulted latched
  rw [State.bit_of_reg (h.ist n hn), State.islOf_of_isl h.isl]

theorem SameIslands.impaired {m n : Nat} {s t : State} (h : SameIslands m s t) (hn : n ∈ machIsls s m) :
    Machine.impaired t n = Machine.impaired s n := by
  unfold Machine.impaired lockedOut linkUp fbOn
  rw [h.faulted hn, State.bit_of_reg (h.stat n hn), State.bit_of_reg (h.stat n hn), State.bit_of_reg (h.stat n hn)]

theorem any_congr_mem {l : List Nat} {p q : Nat → Bool} (h : ∀ n ∈ l, p n = q n) : l.any p = l.any q := by
  rw [Bool.eq_iff_iff, List.any_eq_true, List.any_eq_true]
  exact ⟨fun ⟨n, hn, hp⟩ => ⟨n, hn, (h n hn).symm.trans hp⟩, fun ⟨n, hn, hp⟩ => ⟨n, hn, (h n hn).trans hp⟩⟩

/-- A fault class depends on those alone, and on two legs while an island is faulted (R150). -/
theorem faultClass_congr {m : Nat} {s t : State} (h : SameIslands m s t)
    (h2 : (machIsls s m).any (faulted s) = true → (t.selOf m).twoLeg = (s.selOf m).twoLeg) : faultClass t m = faultClass s m := by
  unfold faultClass
  rw [h.isls, any_congr_mem fun n hn => h.faulted hn, any_congr_mem fun n hn => h.impaired hn]
  by_cases hf : (machIsls s m).any (faulted s) = true
  · rw [if_pos hf, if_pos hf, h2 hf]
  · rw [if_neg hf, if_neg hf]

theorem faultClass_remember (m : Nat) (s : State) : faultClass (selRemember m s) m = faultClass s m :=
  faultClass_congr (.of_regs rfl (selRemember_regs m s) rfl) fun h => by
    rw [(selRemember_record m s).2.2.2, h, Bool.and_true]

theorem selRow_above {m : Nat} {s : State} (h : atOrAboveNas s m = true) : selRow (selRemember m s) m = 1 := by
  unfold selRow
  rw [atOrAboveNas_remember, h, Bool.true_or, if_pos rfl]

/-- The row below the speed, with no hold (R151). -/
def rowBelow (ov1 : Bool) (fc : Nat) : Nat := if ov1 = true ∧ fc ≠ 2 then 2 else if fc = 2 then 3 else 4

theorem rowBelow_short (ov1 : Bool) (fc : Nat) : selShort (rowBelow ov1 fc) = (ov1 && fc != 2) := by
  unfold rowBelow
  cases ov1
  · rw [if_neg fun h => absurd h.1 (by decide)]
    split
    · rfl
    · rfl
  · by_cases hf : fc = 2
    · rw [if_neg (by simp [hf]), if_pos hf, hf]
      rfl
    · rw [if_pos ⟨rfl, hf⟩]
      simp [selShort, hf]

theorem selRow_below {m : Nat} {s : State} (h : atOrAboveNas s m = false) (hh : holdNow m s = false) :
    selRow (selRemember m s) m = rowBelow (s.bit R.DCL_STAT F.DCL_STAT.OV1) (faultClass s m) := by
  unfold selRow rowBelow
  rw [atOrAboveNas_remember, h, (selRemember_record m s).1, hh, faultClass_remember]
  have hov : (selRemember m s).bit R.DCL_STAT F.DCL_STAT.OV1 = s.bit R.DCL_STAT F.DCL_STAT.OV1 := rfl
  rw [hov, if_neg (by decide)]
  refine if_congr ?_ rfl rfl
  rw [Bool.and_eq_true, bne_iff_ne]

/-! ### A speed refreshed -/

/-- A channel's speed and its source shown, before its evaluation. -/
def speedShown (src rpm m : Nat) (s : State) : State :=
  let s := (s.setFld (R.PROT_SS_SPEED m) F.PROT_SS_SPEED.SRC src).setFld (R.PROT_SS_SPEED m) F.PROT_SS_SPEED.SPEED (min rpm 65535)
  s.setSel m { s.selOf m with fresh := some s.dt, known := true }

theorem speedPut_eq {src : Nat} (rpm m : Nat) (s : State) (h : src ≠ 0) :
    speedPut src rpm m s = selEval m (speedShown src rpm m s) := by
  unfold speedPut speedShown
  extract_lets i u
  rw [if_neg h]

/-- What a refresh shows. -/
structure SpeedShown (src rpm m : Nat) (s t : State) : Prop where
  speed : t.fld (R.PROT_SS_SPEED m) F.PROT_SS_SPEED.SPEED = min rpm 65535
  source : t.fld (R.PROT_SS_SPEED m) F.PROT_SS_SPEED.SRC = src
  only : OnlyRegs [R.PROT_SS_SPEED m] s t
  record : t.selOf m = { s.selOf m with fresh := some s.dt, known := true }

theorem speedShown_shows {src : Nat} (rpm m : Nat) (s : State) (h : src < 4) :
    SpeedShown src rpm m s (speedShown src rpm m s) := by
  unfold speedShown
  extract_lets u
  have hs : u.fld (R.PROT_SS_SPEED m) F.PROT_SS_SPEED.SPEED = min rpm 65535 := by
    unfold u
    rw [State.fld_setFld_eq _ (by decide)]
    exact Nat.mod_eq_of_lt (by
      have : min rpm 65535 < 65536 := by omega
      exact this)
  have hc : u.fld (R.PROT_SS_SPEED m) F.PROT_SS_SPEED.SRC = src := by
    unfold u
    rw [State.fld_setFld_beside _ (by decide), State.fld_setFld_eq _ (by decide)]
    exact Nat.mod_eq_of_lt h
  have ho : OnlyRegs [R.PROT_SS_SPEED m] s u := ((OnlyRegs.refl _ s).setFld _ _ (by simp)).setFld _ _ (by simp)
  have hsel : u.selOf m = s.selOf m := State.selOf_of_sel (by unfold u; rw [State.setFld_sel, State.setFld_sel]) m
  have hdt : u.dt = s.dt := by
    unfold u
    rw [State.setFld_dt, State.setFld_dt]
  clear_value u
  have hz : ∀ k i, (u.setSel m k).reg i = u.reg i := fun k => Alter.reg_of_regs (State.setSel_regs ..)
  refine ⟨(State.fld_of_reg (hz _ _) _).trans hs, (State.fld_of_reg (hz _ _) _).trans hc, ho.congr (State.setSel_regs ..), ?_⟩
  rw [State.selOf_setSel_same, ← hsel, ← hdt]

theorem alter_speedShown (src rpm m : Nat) (s : State) : Alter (2 ^ 67 ||| 2 ^ 87) s (speedShown src rpm m s) := by
  unfold speedShown
  extract_lets u
  have hu : Alter (2 ^ 67 ||| 2 ^ 87) s u := ((alter_setFld ..).mono (rm_high (by unfold R.PROT_SS_SPEED; omega) rfl)).step
    (alter_setFld ..) (rm_high (by unfold R.PROT_SS_SPEED; omega) rfl)
  clear_value u
  exact hu.step (alter_setSel ..) rfl

/-- A fresh speed is known. -/
theorem speedShown_known {src : Nat} (rpm m : Nat) (s : State) (h : src < 4) (h0 : src ≠ 0) :
    speedUnknown (speedShown src rpm m s) m = false := by
  have hs := speedShown_shows rpm m s h
  have hd : (speedShown src rpm m s).dt = s.dt := (alter_speedShown ..).dt rfl
  unfold speedUnknown
  rw [hs.source, hs.record, hd]
  have : (src == 0) = false := by simpa using h0
  rw [this, Bool.false_or]
  exact decide_eq_false (by omega)

/-- A channel's speed refreshed from source 3, below or above the threshold (R148, R151). -/
theorem selectorSpeedRefresh_answers (e : Nat) (m : Fin 2) {src : Fin 4} (rpm : BitVec 32) {s : State} (h3 : 3 ≤ src.val)
    {P : State → Prop}
    (hp : P (selEval m (speedShown src rpm.toInt.natAbs m (s.tick e)))) : Answers (.selectorSpeedRefresh e m src rpm) s P := by
  refine .of_next (t := speedRefresh m src rpm.toInt (s.tick e)) rfl ?_
  have : speedRefresh m src rpm.toInt (s.tick e) = speedPut src rpm.toInt.natAbs m (s.tick e) := by
    unfold speedRefresh
    rw [if_neg (by omega), if_neg (by omega)]
  rw [this, speedPut_eq _ _ _ (by omega)]
  exact hp

/-- What a channel's state keeps of the state before its refresh. -/
theorem speedShown_keeps (src rpm : Nat) {m : Nat} (hm : m < 2) {s : State} (h : src < 4)
    (hn : ∀ n ∈ machIsls s m, n < 48) : let t := speedShown src rpm m s
    t.reg (R.PROT_SS_CFG m) = s.reg (R.PROT_SS_CFG m) ∧ t.reg (R.PROT_SS_STAT m) = s.reg (R.PROT_SS_STAT m) ∧
    t.reg R.DCL_STAT = s.reg R.DCL_STAT ∧ faultClass t m = faultClass s m := by
  intro t
  have hs := speedShown_shows rpm m s h
  have ha := alter_speedShown src rpm m s
  refine ⟨hs.only _ ?_, hs.only _ ?_, hs.only _ ?_, ?_⟩
  · simp
  · simp
  · simp only [R.DCL_STAT, R.PROT_SS_SPEED, List.mem_singleton]
    omega
  · refine faultClass_congr ⟨machIsls_of_plant (ha.plant rfl) m, fun n hn' => hs.only _ ?_, fun n hn' => hs.only _ ?_, ha.isl rfl⟩
      fun _ => ?_
    · have := hn n hn'
      simp only [R.ISL_STAT, R.PROT_SS_SPEED, List.mem_singleton]
      omega
    · have := hn n hn'
      simp only [R.PROT_IST, R.PROT_SS_SPEED, List.mem_singleton]
      omega
    · rw [hs.record]

theorem atOrAboveNas_known {m : Nat} {s : State} (h : speedUnknown s m = false) : atOrAboveNas s m =
    decide (s.fld (R.PROT_SS_CFG m) F.PROT_SS_CFG.N_AS ≤ s.fld (R.PROT_SS_SPEED m) F.PROT_SS_SPEED.SPEED) := by
  unfold atOrAboveNas
  rw [h, Bool.false_or]

/-- A hold that has not begun does not begin below the threshold. -/
theorem holdNow_idle {m : Nat} {s : State} (h : atOrAboveNas s m = false) (hh : (s.selOf m).held = false) :
    holdNow m s = false := by
  unfold holdNow
  rw [h, hh]
  rfl

theorem holdNow_above {m : Nat} {s : State} (h : atOrAboveNas s m = true) : holdNow m s = true := by
  unfold holdNow
  rw [h, Bool.true_or]

theorem speedReg_mod (m : Nat) (hm : m < 2) : R.PROT_SS_SPEED m % 16 ≠ 0 ∧ R.PROT_SS_SPEED m ≠ R.PROT_SS_STAT m := by
  unfold R.PROT_SS_SPEED R.PROT_SS_STAT
  omega

theorem refresh_above (e : Nat) (m : Fin 2) (src : Fin 4) (rpm : BitVec 32) (s : State) (h3 : 3 ≤ src.val)
    (hn : ∀ n ∈ machIsls s m, n < 48) (ha : s.bit (R.PROT_SS_STAT m) F.PROT_SS_STAT.APPLIED = false)
    (hi : s.fld (R.PROT_SS_CFG m) F.PROT_SS_CFG.N_AS ≤ min rpm.toInt.natAbs 65535) :
    Answers (.selectorSpeedRefresh e m src rpm) s fun t =>
       t.fld (R.PROT_SS_SPEED m) F.PROT_SS_SPEED.SPEED = min rpm.toInt.natAbs 65535 ∧
       t.fld (R.PROT_SS_SPEED m) F.PROT_SS_SPEED.SRC = src ∧ (t.selOf m).fresh = some t.dt ∧ (t.selOf m).held = true ∧
       t.fld (R.PROT_SS_STAT m) F.PROT_SS_STAT.ROW = 1 ∧ t.bit (R.PROT_SS_STAT m) F.PROT_SS_STAT.RESULT = true ∧
       t.bit (R.PROT_SS_STAT m) F.PROT_SS_STAT.STALE = false := by
  refine selectorSpeedRefresh_answers e m rpm h3 ?_
  have hk := speedShown_keeps src rpm.toInt.natAbs m.isLt (s := s.tick e) src.isLt hn
  have hs := speedShown_shows rpm.toInt.natAbs m (s.tick e) src.isLt
  have hu := speedShown_known rpm.toInt.natAbs m (s.tick e) src.isLt (by omega)
  have hd : (speedShown src rpm.toInt.natAbs m (s.tick e)).dt = (s.tick e).dt := (alter_speedShown ..).dt rfl
  generalize speedShown src rpm.toInt.natAbs m (s.tick e) = u at *
  obtain ⟨k1, k2, -, -⟩ := hk
  have hab : atOrAboveNas u m = true := by
    rw [atOrAboveNas_known hu, State.fld_of_reg k1, hs.speed]
    exact decide_eq_true hi
  obtain ⟨r1, r2, r3, r4, k, r5⟩ := selEval_reads m.isLt (s := u) ((State.bit_of_reg k2 _).trans ha)
  obtain ⟨q1, q2, -, -⟩ := selRemember_record m u
  have hsp := r4 _ (speedReg_mod m m.isLt).1 (speedReg_mod m m.isLt).2
  have ht : (selEval m u).dt = (s.tick e).dt := ((alter_selEval ..).dt rfl).trans hd
  rw [selRow_above hab] at r1 r2
  refine ⟨(State.fld_of_reg hsp _).trans hs.speed, (State.fld_of_reg hsp _).trans hs.source, ?_, ?_, r1, r2, ?_⟩
  · rw [r5, ht]
    exact q2.trans (by rw [hs.record])
  · rw [r5]
    exact q1.trans (holdNow_above hab)
  · rw [r3, speedUnknown_remember, hu]

theorem refresh_below (e : Nat) (m : Fin 2) (src : Fin 4) (rpm : BitVec 32) (s : State) (h3 : 3 ≤ src.val)
    (hn : ∀ n ∈ machIsls s m, n < 48) (ha : s.bit (R.PROT_SS_STAT m) F.PROT_SS_STAT.APPLIED = false)
    (hi : min rpm.toInt.natAbs 65535 < s.fld (R.PROT_SS_CFG m) F.PROT_SS_CFG.N_AS) (hh : (s.selOf m).held = false) :
    Answers (.selectorSpeedRefresh e m src rpm) s fun t =>
       (t.selOf m).held = false ∧
       t.fld (R.PROT_SS_STAT m) F.PROT_SS_STAT.ROW = rowBelow (s.bit R.DCL_STAT F.DCL_STAT.OV1) (faultClass s m) ∧
       t.bit (R.PROT_SS_STAT m) F.PROT_SS_STAT.RESULT = (s.bit R.DCL_STAT F.DCL_STAT.OV1 && faultClass s m != 2) := by
  refine selectorSpeedRefresh_answers e m rpm h3 ?_
  obtain ⟨k1, k2, k3, k4⟩ := speedShown_keeps src rpm.toInt.natAbs m.isLt (s := s.tick e) src.isLt hn
  have hs := speedShown_shows rpm.toInt.natAbs m (s.tick e) src.isLt
  have hu := speedShown_known rpm.toInt.natAbs m (s.tick e) src.isLt (by omega)
  generalize speedShown src rpm.toInt.natAbs m (s.tick e) = u at *
  have hbl : atOrAboveNas u m = false := by
    rw [atOrAboveNas_known hu, State.fld_of_reg k1, hs.speed]
    exact decide_eq_false (Nat.not_le.mpr hi)
  have hho : holdNow m u = false := holdNow_idle hbl (by rw [hs.record]; exact hh)
  obtain ⟨r1, r2, -, -, k, r5⟩ := selEval_reads m.isLt (s := u) ((State.bit_of_reg k2 _).trans ha)
  rw [selRow_below hbl hho, State.bit_of_reg k3, k4] at r1 r2
  refine ⟨?_, r1, r2.trans (rowBelow_short _ _)⟩
  rw [r5]
  exact (selRemember_record m u).1.trans hho

/-! ### A speed gone stale -/

/-- What the loss of a channel's speed leaves. -/
theorem speedLost_spec (m : Nat) (s : State) : (speedLost m s).selOf m = { s.selOf m with known := false } ∧
    (speedLost m s).dt = s.dt ∧ (∀ i, i ∉ R.PROT_FLAGS :: logRegs → (speedLost m s).reg i = s.reg i) ∧
    (machConv s m = none → speedLost m s = s.setSel m { s.selOf m with known := false }) := by
  unfold speedLost
  extract_lets w f u
  have h1 : u.selOf m = { s.selOf m with known := false } := State.selOf_setSel_same ..
  have h2 : u.dt = s.dt ∧ u.regs = s.regs ∧ u.plant = s.plant := ⟨rfl, rfl, rfl⟩
  have h3 : u = s.setSel m { s.selOf m with known := false } := rfl
  clear_value u
  obtain ⟨hd, hr, hp⟩ := h2
  split
  · rename_i hc
    refine ⟨?_, ?_, fun i hi => ?_, fun hn => ?_⟩
    · rw [State.selOf_of_sel (((alter_raise ..).sel rfl).trans (State.setBit_sel ..)), h1]
    · exact (((alter_raise ..).dt rfl).trans (State.setBit_dt ..)).trans hd
    · rw [State.raise_reg _ _ _ _ _ fun h => hi (List.mem_cons_of_mem _ h),
        State.setBit, State.reg_setFld_ne _ _ _ (List.ne_of_not_mem_cons hi), Alter.reg_of_regs hr]
    · rw [machConv_of_plant hp, hn, Option.isSome_none, Bool.and_false] at hc
      exact absurd hc (by decide)
  · exact ⟨h1, hd, fun i _ => Alter.reg_of_regs hr i, fun _ => h3⟩

/-- A channel of no declared machine reads only its own word anew. -/
theorem alter_selShown (m : Nat) (s : State) : Alter (2 ^ 67 ||| 2 ^ 87) s (selShown m s) := by
  have hi : rm (R.PROT_SS_STAT m) ||| (2 ^ 67 ||| 2 ^ 87) = (2 ^ 67 ||| 2 ^ 87) := rm_high (by unfold R.PROT_SS_STAT; omega) rfl
  unfold selShown
  extract_lets row short p i v w x y
  have hv : Alter (2 ^ 67 ||| 2 ^ 87) s v := (((alter_setFld ..).mono hi).step (alter_setFld ..) hi).step (alter_setBit ..) hi
  clear_value v
  have hw : Alter (2 ^ 67 ||| 2 ^ 87) s w := (hv.step (alter_setFld ..) hi).step (alter_setBit ..) hi
  clear_value w
  have hx : Alter (2 ^ 67 ||| 2 ^ 87) s x := (hw.step (alter_setFld ..) hi).step (alter_setFld ..) hi
  clear_value x
  have hy : Alter (2 ^ 67 ||| 2 ^ 87) s y := hx.step (alter_setBit ..) hi
  clear_value y
  exact hy.step (alter_setSel ..) rfl

theorem selEval_bare {m : Nat} {s : State} (h : s.bit (R.PROT_SS_STAT m) F.PROT_SS_STAT.APPLIED = false)
    (hc : machConv s m = none) : Alter (2 ^ 67 ||| 2 ^ 87) s (selEval m s) ∧ OnlyRegs [R.PROT_SS_STAT m] s (selEval m s) := by
  have ha : Alter (2 ^ 67 ||| 2 ^ 87) s (selShown m (selRemember m s)) :=
    ((alter_selRemember ..).mono rfl).and (alter_selShown m _)
  have ho : OnlyRegs [R.PROT_SS_STAT m] s (selShown m (selRemember m s)) :=
    OnlyRegs.trans (.of_regs (selRemember_regs m s)) (selShown_reads m _).only
  rw [selEval_of_off h]
  generalize selShown m (selRemember m s) = u at *
  have hz := ha.step (alter_setSel m { u.selOf m with degr := false } u) rfl
  have hzo := ho.congr (State.setSel_regs m { u.selOf m with degr := false } u)
  generalize u.setSel m { u.selOf m with degr := false } = z at *
  have hu : selReload m z = z := by
    unfold selReload forEach
    rw [machIsls_of_plant (hz.plant rfl) m, machIsls, hc, List.foldl_nil]
  rw [hu]
  exact ⟨hz, hzo⟩

/-- A change of time, registers and channels alone. -/
theorem Alter.selPatch {s t : State} (a : Alter (2 ^ 65 ||| 2 ^ 66 ||| 2 ^ 67 ||| 2 ^ 87) s t) :
    t = { s with el := t.el, dt := t.dt, regs := t.regs, sel := t.sel } := a.eq_patch

theorem ssStat_notLogged (m : Nat) (hm : m < 2) : R.PROT_SS_STAT m ∉ R.PROT_FLAGS :: logRegs := by
  obtain rfl | rfl : m = 0 ∨ m = 1 := by omega
  · decide
  · decide

theorem ssSpeed_notLogged (m : Nat) (hm : m < 2) : R.PROT_SS_SPEED m ∉ R.PROT_FLAGS :: logRegs := by
  obtain rfl | rfl : m = 0 ∨ m = 1 := by omega
  · decide
  · decide

/-- A speed whose last refresh lies more than 1 ms back is unknown (R148). -/
theorem speedUnknown_old {m a : Nat} {s : State} (hf : (s.selOf m).fresh = some a) (hd : a + 200001 ≤ s.dt) :
    speedUnknown s m = true := by
  unfold speedUnknown
  rw [hf]
  simp only [Bool.or_eq_true, decide_eq_true_eq]
  exact .inr (by omega)

theorem stale_answers (e : Nat) (m : Fin 2) (s : State) (hf : (s.selOf m).fresh.isSome = true)
    (hk : (s.selOf m).known = true) (hd0 : s.d0 = true) (ha : s.bit (R.PROT_SS_STAT m) F.PROT_SS_STAT.APPLIED = false) :
    Answers (.speedStale e m) s fun t =>
       (t.selOf m).known = false ∧
       t.bit (R.PROT_SS_STAT m) F.PROT_SS_STAT.STALE = true ∧
       (machConv s m = none → t.fld (R.PROT_SS_STAT m) F.PROT_SS_STAT.ROW = 1 ∧ t.bit (R.PROT_SS_STAT m)
       F.PROT_SS_STAT.RESULT = true ∧ OnlyRegs [R.PROT_SS_STAT m] s t ∧ t =
       { s with el := t.el, dt := t.dt, regs := t.regs, sel := t.sel }) := by
  obtain ⟨a, hf⟩ := Option.isSome_iff_exists.mp hf
  refine .of_next (t := speedStale m (s.tick e)) rfl ?_
  have heq : speedStale m (s.tick e) = selEval m (speedLost m ((s.tick e).until (a + 200001))) := by
    have hf' : ((s.tick e).selOf m).fresh = some a := hf
    have hk' : ((s.tick e).selOf m).known = true := hk
    unfold speedStale
    rw [hf']
    dsimp only
    rw [if_pos hk']
  have hau : Alter (2 ^ 65 ||| 2 ^ 66) s ((s.tick e).until (a + 200001)) := (alter_tick ..).and (alter_until ..)
  have hdt := State.until_dt hd0 e (a + 200001)
  rw [heq]
  generalize (s.tick e).until (a + 200001) = u at *
  have hsel := State.selOf_of_sel (hau.sel rfl) m
  obtain ⟨l1, l2, l3, l4⟩ := speedLost_spec m u
  have hfr : ((speedLost m u).selOf m).fresh = some a := by
    rw [l1, hsel]
    exact hf
  have hun : speedUnknown (speedLost m u) m = true := speedUnknown_old hfr (by rw [l2, hdt]; omega)
  have hoff : (speedLost m u).bit (R.PROT_SS_STAT m) F.PROT_SS_STAT.APPLIED = false :=
    (State.bit_of_reg ((l3 _ (ssStat_notLogged m m.isLt)).trans (Alter.reg_of_regs (hau.regs rfl) _)) _).trans ha
  have hrow : selRow (selRemember m (speedLost m u)) m = 1 := selRow_above (by
    unfold atOrAboveNas
    rw [hun, Bool.true_or])
  have hbare := selEval_bare hoff
  obtain ⟨r1, r2, r3, -, k, r5⟩ := selEval_reads m.isLt hoff
  rw [hrow] at r1 r2
  refine ⟨?_, ?_, fun hc => ⟨r1, r2, ?_⟩⟩
  · rw [r5]
    exact (selRemember_record m _).2.2.1.trans (by rw [l1])
  · rw [r3, speedUnknown_remember, hun]
  · have hcu : machConv u m = none := (machConv_of_plant (hau.plant rfl) m).trans hc
    have hal : Alter (2 ^ 87) u (speedLost m u) := by
      rw [l4 hcu]
      exact (alter_setSel ..).mono rfl
    obtain ⟨b1, b2⟩ := hbare ((machConv_of_plant (hal.plant rfl) m).trans hcu)
    have hst : Alter (2 ^ 65 ||| 2 ^ 66 ||| 2 ^ 67 ||| 2 ^ 87) s (selEval m (speedLost m u)) :=
      ((hau.mono rfl).step hal rfl).step b1 rfl
    exact ⟨OnlyRegs.trans (.of_regs ((hal.regs rfl).trans (hau.regs rfl))) b2, hst.selPatch⟩

/-! ### The end of a hold, and of a swap's dead time -/

theorem holdExpiry_answers (e : Nat) (m : Fin 2) (b : Nat) (s : State) (hb : (s.selOf m).below = some b) (hd0 : s.d0 = true)
    (ha : s.bit (R.PROT_SS_STAT m) F.PROT_SS_STAT.APPLIED = false)
    (hu : speedUnknown (State.until (b + 2000000) (s.tick e)) m = false)
    (hl : 10 * s.fld (R.PROT_SS_SPEED m) F.PROT_SS_SPEED.SPEED < 9 * s.fld (R.PROT_SS_CFG m) F.PROT_SS_CFG.N_AS) :
    Answers (.activeShortHoldExpiry e m) s fun t =>
       t.dt = max (s.dt + e) (b + 2000000) ∧ (t.selOf m).held = false ∧
       t.fld (R.PROT_SS_STAT m) F.PROT_SS_STAT.ROW = rowBelow (s.bit R.DCL_STAT F.DCL_STAT.OV1) (faultClass s m) := by
  refine .of_next (t := holdExpiry m (s.tick e)) rfl ?_
  have heq : holdExpiry m (s.tick e) = selEval m ((s.tick e).until (b + 2000000)) := by
    have hb' : ((s.tick e).selOf m).below = some b := hb
    unfold holdExpiry
    rw [hb']
  have hau : Alter (2 ^ 65 ||| 2 ^ 66) s ((s.tick e).until (b + 2000000)) := (alter_tick ..).and (alter_until ..)
  have hdt := State.until_dt hd0 e (b + 2000000)
  rw [heq]
  generalize (s.tick e).until (b + 2000000) = u at *
  have hsel := State.selOf_of_sel (hau.sel rfl) m
  have hreg := Alter.reg_of_regs (hau.regs rfl)
  have hbl : atOrAboveNas u m = false := by
    rw [atOrAboveNas_known hu, State.fld_of_reg (hreg _), State.fld_of_reg (hreg _)]
    exact decide_eq_false (by omega)
  have hho : holdNow m u = false := by
    unfold holdNow
    rw [hbl, hu, State.fld_of_reg (hreg _), State.fld_of_reg (hreg _), decide_eq_true hl, hsel, hb]
    have : decide (u.dt < b + 2000000) = false := decide_eq_false (by rw [hdt]; omega)
    simp only [Bool.not_false, Bool.and_self, if_true, this, Bool.and_false, Bool.or_false]
  have hfc : faultClass u m = faultClass s m :=
    faultClass_congr (.of_regs (hau.plant rfl) (hau.regs rfl) (hau.isl rfl)) fun _ => by rw [hsel]
  obtain ⟨r1, -, -, -, k, r5⟩ := selEval_reads m.isLt (s := u) ((State.bit_of_reg (hreg _) _).trans ha)
  rw [selRow_below hbl hho, State.bit_of_reg (hreg _), hfc] at r1
  refine ⟨((alter_selEval ..).dt rfl).trans hdt, ?_, r1⟩
  rw [r5]
  exact (selRemember_record m u).1.trans hho

theorem selDegraded_record (m : Nat) (s : State) : ∃ d, (selDegraded m s).selOf m = { s.selOf m with degr := d } := by
  unfold selDegraded
  extract_lets x d u
  refine ⟨d, ?_⟩
  have hu : u.selOf m = { s.selOf m with degr := d } := State.selOf_setSel_same ..
  clear_value u
  split
  · rw [State.selOf_of_sel (((alter_raise ..).sel rfl).trans (State.setBit_sel ..)), hu]
  · exact hu

theorem selBuild_built (m : Nat) (s : State) : ((selBuild m s).selOf m).swapDue = none ∧
    ((selBuild m s).selOf m).shorted = true := by
  unfold selBuild
  extract_lets side u f v
  have hv : (v.selOf m).swapDue = none ∧ (v.selOf m).shorted = true := by
    unfold v
    rw [State.selOf_setSel_same]
    exact ⟨rfl, rfl⟩
  clear_value v
  obtain ⟨d, hd⟩ := selDegraded_record m v
  rw [hd]
  exact hv

theorem swapExpiry_answers (e : Nat) (m : Fin 2) (d : Nat) (s : State) (hd : (s.selOf m).swapDue = some d)
    (hd0 : s.d0 = true) :
    Answers (.swapDtExpiry e m) s fun t =>
       t.dt = max (s.dt + e) d ∧ (t.selOf m).swapDue = none ∧ (t.selOf m).shorted = true := by
  refine .of_next (t := swapExpiry m (s.tick e)) rfl ?_
  have heq : swapExpiry m (s.tick e) = selBuild m ((s.tick e).until d) := by
    have hd' : ((s.tick e).selOf m).swapDue = some d := hd
    unfold swapExpiry
    rw [hd']
  rw [heq]
  exact ⟨((alter_selBuild ..).dt rfl).trans (State.until_dt hd0 e d), selBuild_built m _⟩

/-- Settles O16: a channel not applied is read anew and commands nothing, and what it shows is the row of its speed. -/
theorem selectorDecides : Obligations.SelectorDecides := by
  unfold Obligations.SelectorDecides
  exact ⟨fun e m src rpm s h3 hn ha hi => refresh_above e m src rpm s h3 hn ha hi,
    fun e m src rpm s h3 hn ha hi hh => refresh_below e m src rpm s h3 hn ha hi hh,
    fun e m s hf hk hd0 ha => stale_answers e m s hf hk hd0 ha,
    fun e m b s hb hd0 _ ha hu hl => holdExpiry_answers e m b s hb hd0 ha hu hl,
    fun e m d s hd hd0 => swapExpiry_answers e m d s hd hd0⟩

end Sys2Proof.Machine
end

section
/-! SUPPORT. Why a machine stands under its selector, and the settling of O26 (R419 to R422). -/

namespace Sys2Proof.Machine

set_option Elab.async false

/-! ### The causes of an application -/

/-- Every channel's causes are as before. -/
def WhyKept (s t : State) : Prop := ∀ j, (t.selOf j).why = (s.selOf j).why

theorem WhyKept.refl (s : State) : WhyKept s s := fun _ => rfl

theorem WhyKept.trans {s t u : State} (h : WhyKept s t) (k : WhyKept t u) : WhyKept s u := fun j => (k j).trans (h j)

theorem WhyKept.of_sel {s t : State} (h : t.sel = s.sel) : WhyKept s t := fun j => by rw [State.selOf_of_sel h]

theorem WhyKept.setSel {m : Nat} {x : Sel} (s : State) (h : x.why = (s.selOf m).why) : WhyKept s (s.setSel m x) := fun j => by
  by_cases hj : j = m
  · rw [hj, State.selOf_setSel_same, h]
  · rw [State.selOf_setSel_ne _ _ hj]

theorem selDegraded_why (m : Nat) (s : State) : WhyKept s (selDegraded m s) := by
  unfold selDegraded
  extract_lets x d u
  have hu : WhyKept s u := .setSel s rfl
  clear_value u
  split
  · exact hu.trans (.of_sel (((alter_raise ..).sel rfl).trans (State.setBit_sel ..)))
  · exact hu

theorem selBuild_why (m : Nat) (s : State) : WhyKept s (selBuild m s) := by
  unfold selBuild
  extract_lets side u f v
  have hu : WhyKept s u := .of_sel ((alter_gatesOn ..).sel rfl)
  have hv : WhyKept u v := .setSel u rfl
  clear_value u v
  exact (hu.trans hv).trans (selDegraded_why m v)

theorem selCommand_why (m : Nat) (s : State) : WhyKept s (selCommand m s) := by
  have hoff : ∀ gs, WhyKept s (gatesOff gs s) := fun gs => .of_sel ((alter_gatesOff ..).sel rfl)
  unfold selCommand
  split
  · extract_lets side outside u
    split
    · split
      · exact .refl s
      · exact selBuild_why m s
    · exact (hoff _).trans (.setSel _ rfl)
  · exact (hoff _).trans (.setSel _ rfl)

theorem selRemember_why (m : Nat) (s : State) : WhyKept s (selRemember m s) := .setSel s rfl

theorem selShown_why (m : Nat) (s : State) : WhyKept s (selShown m s) := fun j => by
  by_cases hj : j = m
  · obtain ⟨k, hk⟩ := (selShown_reads m s).record
    rw [hj, hk]
  · unfold selShown
    extract_lets row short p i v w x y
    rw [State.selOf_setSel_ne _ _ hj]
    have hv : v.sel = s.sel := by
      unfold v
      rw [State.setBit_sel, State.setFld_sel, State.setFld_sel]
    clear_value v
    have hw : w.sel = v.sel := by
      unfold w
      rw [State.setBit_sel, State.setFld_sel]
    clear_value w
    have hy : y.sel = w.sel := by
      unfold y x
      rw [State.setBit_sel, State.setFld_sel, State.setFld_sel]
    clear_value y
    rw [State.selOf_of_sel (hy.trans (hw.trans hv))]

theorem selMoves_why (m : Nat) (a b : Bool) (x y : Nat) (s : State) : WhyKept s (selMoves m a b x y s) := by
  unfold selMoves
  split
  · exact (selCommand_why m s).trans (.of_sel ((alter_raise ..).sel rfl))
  · split
    · exact selCommand_why m s
    · exact .refl s

theorem selTells_why (m : Nat) (k : Bool) (s : State) : WhyKept s (selTells m k s) := by
  unfold selTells
  split
  · split
    · exact selDegraded_why m s
    · exact .refl s
  · exact .setSel s rfl

theorem selEval_why (m : Nat) (s : State) : WhyKept s (selEval m s) := by
  rw [selEval_eq]
  exact ((((selRemember_why m s).trans (selShown_why m _)).trans (selMoves_why m _ _ _ _ _)).trans
    (selTells_why m _ _)).trans (.of_sel ((alter_selReload ..).sel rfl))

theorem selEvalAll_why (s : State) : WhyKept s (selEvalAll s) := (selEval_why 0 s).trans (selEval_why 1 _)

/-- The units of a machine put under the selector lose their edges and are shown. -/
def selUnits (us : List Nat) (s : State) : State :=
  forEach us (fun k s => (s.setUnit k { s.unitOf k with edges := [], next := [] }).setBit (R.PWM_HB_STAT k) F.PWM_HB_STAT.SELECTOR true) s

theorem selUnits_sel (us : List Nat) (s : State) : (selUnits us s).sel = s.sel :=
  (alter_forEach (m := 2 ^ 67 ||| 2 ^ 89) _ _ s fun k x => ((alter_setUnit ..).mono rfl).step (alter_setBit ..)
    (rm_high (by unfold R.PWM_HB_STAT; omega) rfl)).sel rfl

/-- A cause joins those of the machine put under the selector; the other machine's stay. -/
theorem selHold_why (m why : Nat) (s : State) :
    WhyKept (s.setSel m { s.selOf m with why := setBitN (s.selOf m).why why, back := false }) (selHold m why s) := by
  unfold selHold
  extract_lets x u v w us z
  have hv : WhyKept u v := selEval_why m u
  clear_value v
  have hz : WhyKept v z := .trans (.of_sel (State.setBit_sel ..)) (.of_sel (selUnits_sel us w))
  clear_value z
  split
  · exact hv
  · exact ((hv.trans hz).trans (selRemember_why m z)).trans (selCommand_why m _)

theorem selHold_cause (m why : Nat) (s : State) : bitN ((selHold m why s).selOf m).why why = true := by
  rw [selHold_why m why s m, State.selOf_setSel_same]
  unfold bitN setBitN
  rw [Nat.testBit_or, Nat.testBit_two_pow_self, Bool.or_true]

theorem selHold_other {m j : Nat} (why : Nat) (s : State) (h : j ≠ m) : ((selHold m why s).selOf j).why = (s.selOf j).why := by
  rw [selHold_why m why s j, State.selOf_setSel_ne _ _ h]

/-! ### Gates commanded off -/

/-- The registers that a gate commanded off may write. -/
def gateRegs : List Nat := R.ACT_LV_STAT :: (List.range 64).map R.ISL_STAT

theorem islStat_mem {n : Nat} (h : n < 64) : R.ISL_STAT n ∈ gateRegs :=
  List.mem_cons_of_mem _ (List.mem_map_of_mem (List.mem_range.mpr h))

theorem setGate_only (g step : Nat) (on : Bool) (s : State) : OnlyRegs gateRegs s (setGate g step on s) := by
  unfold setGate
  split
  · exact (OnlyRegs.refl _ s).setFld _ _ (List.mem_cons_self ..)
  · rename_i hg
    extract_lets x u
    have hu : OnlyRegs gateRegs s u := .of_regs (by unfold u; split <;> rfl)
    clear_value u
    unfold clampShow
    exact (hu.setBit _ _ (islStat_mem (by omega))).setBit _ _ (islStat_mem (by omega))

theorem leaveFallback_only (g : Nat) (s : State) : OnlyRegs gateRegs s (leaveFallback g s) := by
  unfold leaveFallback
  split
  · exact .refl _ s
  · exact (OnlyRegs.refl _ s).setBit _ _ (islStat_mem (by omega))

theorem gateOffP_only (prof : Option Nat) (g step : Nat) (s : State) : OnlyRegs gateRegs s (gateOffP prof g step s) := by
  unfold gateOffP
  extract_lets x u v
  have hu : OnlyRegs gateRegs s u := .of_regs (State.setIsl_regs ..)
  clear_value u
  split
  · have hv : OnlyRegs gateRegs u v := .of_regs (by
      unfold v
      split
      · exact startProf_regs _ _ _ _ _
      · rfl)
    exact ((hu.trans hv).trans (setGate_only _ _ _ _)).trans (leaveFallback_only _ _)
  · exact hu

theorem gatesOff_only (gs : List Nat) (s : State) : OnlyRegs gateRegs s (gatesOff gs s) :=
  OnlyRegs.forEach_mem s gs fun g _ x => gateOffP_only none g _ x

/-- A forced output ends: its gates go off. -/
theorem forceApply_only {old : Reg} {s : State} (h : s.fld R.PWM_FORCE F.PWM_FORCE.EN = 0) :
    OnlyRegs gateRegs s (forceApply old s) ∧ (forceApply old s).ev = s.ev := by
  have he : ¬ F.PWM_FORCE.EN.get (s.reg R.PWM_FORCE) = 1 := by
    have : F.PWM_FORCE.EN.get (s.reg R.PWM_FORCE) = 0 := h
    omega
  unfold forceApply
  extract_lets dark v
  split
  rw [if_neg he]
  unfold dark
  split
  · exact ⟨gatesOff_only _ s, (alter_gatesOff ..).ev rfl⟩
  · exact ⟨.refl _ s, rfl⟩

/-! ### Channels of no declared machine -/

theorem machIsls_none {s : State} (h : s.plant = none) (m : Nat) : machIsls s m = [] := by
  unfold machIsls machConv convs
  rw [h]
  rfl

theorem selDegraded_quiet {m : Nat} {s : State} (h : machIsls s m = []) : (selDegraded m s).ev = s.ev := by
  unfold selDegraded
  extract_lets x d u
  have hd : d = false := by
    unfold d impHs impLs
    rw [h, List.filter_nil, List.isEmpty_nil, Bool.not_true, Bool.and_false]
    rfl
  rw [if_neg (by rw [hd, Bool.false_and]; decide)]
  exact State.setSel_ev ..

theorem selBuild_quiet {m : Nat} {s : State} (h : s.plant = none) : (selBuild m s).ev = s.ev := by
  unfold selBuild
  extract_lets side v f w
  have hv : v.ev = s.ev ∧ v.plant = s.plant := by
    have hs : sideIsls s m side = [] := by
      unfold sideIsls
      rw [machIsls_none h, List.filter_nil]
    unfold v
    rw [hs]
    exact ⟨rfl, rfl⟩
  clear_value v
  have hw : w.ev = v.ev ∧ w.plant = v.plant := ⟨State.setSel_ev .., State.setSel_plant ..⟩
  clear_value w
  rw [selDegraded_quiet (machIsls_none (hw.2.trans (hv.2.trans h)) m), hw.1, hv.1]

theorem selCommand_quiet {m : Nat} {s : State} (h : s.plant = none) : (selCommand m s).ev = s.ev := by
  unfold selCommand
  split
  · extract_lets side outside u
    have ho : outside = [] := by
      unfold outside
      rw [machIsls_none h, List.filter_nil]
    rw [if_pos (by rw [ho]; rfl)]
    split
    · rfl
    · exact selBuild_quiet h
  · rw [State.setSel_ev, (alter_gatesOff ..).ev rfl]

/-- A short in force keeps its side while no island of the machine is impaired or lost (R154). -/
theorem selSideNow_stays {m : Nat} {s : State} (h : s.plant = none) {short : Bool}
    (hb : (s.bit (R.PROT_SS_STAT m) F.PROT_SS_STAT.APPLIED && short && s.bit (R.PROT_SS_STAT m) F.PROT_SS_STAT.RESULT) = true) :
    (selSideNow s m short).1 = s.fld (R.PROT_SS_STAT m) F.PROT_SS_STAT.SIDE := by
  have hs : (selSide s m).2 = false := by
    unfold selSide impHs impLs
    rw [machIsls_none h]
    rfl
  have hf : sideIsls s m (s.fld (R.PROT_SS_STAT m) F.PROT_SS_STAT.SIDE) = [] := by
    unfold sideIsls
    rw [machIsls_none h, List.filter_nil]
  unfold selSideNow
  generalize selSide s m = p at hs ⊢
  obtain ⟨side, lock⟩ := p
  dsimp only at hs ⊢
  rw [hb, hs, hf]
  rfl

theorem selEval_quiet (m : Nat) {s : State} (h : s.plant = none) : (selEval m s).ev = s.ev := by
  have hp : (selRemember m s).plant = none := h
  have hstay := fun b => selSideNow_stays (m := m) hp (short := b)
  have ha := (selShown_reads m (selRemember m s)).applied
  have hv := alter_selShown m (selRemember m s)
  have hev : (selRemember m s).ev = s.ev := rfl
  rw [selEval_eq, (alter_selReload ..).ev rfl]
  generalize selRemember m s = u at *
  have hvp : (selShown m u).plant = none := (hv.plant rfl).trans hp
  have hve : (selShown m u).ev = u.ev := hv.ev rfl
  generalize selShown m u = v at *
  have hm : ∀ short, (selMoves m short (u.bit (R.PROT_SS_STAT m) F.PROT_SS_STAT.RESULT) (selSideNow u m short).1
      (u.fld (R.PROT_SS_STAT m) F.PROT_SS_STAT.SIDE) v).ev = v.ev ∧
      (selMoves m short (u.bit (R.PROT_SS_STAT m) F.PROT_SS_STAT.RESULT) (selSideNow u m short).1
      (u.fld (R.PROT_SS_STAT m) F.PROT_SS_STAT.SIDE) v).plant = none := fun short => by
    unfold selMoves
    split
    · rename_i hc
      rw [ha, Bool.and_eq_true, bne_iff_ne] at hc
      exact absurd (hstay short hc.1) hc.2
    · split
      · exact ⟨selCommand_quiet hvp, ((alter_selCommand ..).plant rfl).trans hvp⟩
      · exact ⟨rfl, hvp⟩
  obtain ⟨m1, m2⟩ := hm (selShort (selRow u m))
  generalize selMoves m (selShort (selRow u m)) _ _ _ v = w at m1 m2 ⊢
  unfold selTells
  split
  · split
    · rw [selDegraded_quiet (machIsls_none m2 m), m1, hve, hev]
    · rw [m1, hve, hev]
  · rw [State.setSel_ev, m1, hve, hev]

theorem selEvalAll_quiet {s : State} (h : s.plant = none) : (selEvalAll s).ev = s.ev :=
  (selEval_quiet 1 (((alter_selEval ..).plant rfl).trans h)).trans (selEval_quiet 0 h)

end Sys2Proof.Machine
end

section
/-! SUPPORT. The overvoltage levels, and the settling of O26 (R419 to R422). -/

namespace Sys2Proof.Machine

set_option Elab.async false

/-! ### The first level -/

/-- The first level shown (R419). -/
def ov1Shown (s : State) : State :=
  let s := { s with dcl := { s.dcl with ov1Due := none } }
  (s.setBit R.DCL_STAT F.DCL_STAT.OV1 true).setBit R.DCL_FLAGS F.DCL_FLAGS.OV1 true

/-- A declared machine not yet in its safe state goes to the selector. -/
def ov1Holds (m : Nat) (s : State) : State :=
  if (machConv s m).isSome && !(s.bit (R.PROT_SS_STAT m) F.PROT_SS_STAT.APPLIED && !(s.selOf m).back) then
    selHold m Why.ov1 s else s

/-- A forced output ends with it. -/
def forceEnds (s : State) : State := forceApply (s.reg R.PWM_FORCE) (s.setFld R.PWM_FORCE F.PWM_FORCE.EN 0)

theorem ov1Rises_eq {s : State} (h : s.mode ≠ Mode.standby) : ov1Rises s =
    (forceEnds (selEvalAll (ov1Holds 1 (ov1Holds 0 (ov1Shown s))))).raise EV.DCL_OV1 0xFF [] := by
  unfold ov1Rises
  rw [if_neg h]
  rfl

/-- What the operations of the selector and of the gates may change beside the log. -/
abbrev selM : Nat := evM ||| 2 ^ 86 ||| 2 ^ 87 ||| 2 ^ 89

theorem alter_ov1Shown (s : State) : Alter (2 ^ 67 ||| 2 ^ 97) s (ov1Shown s) := by
  unfold ov1Shown
  extract_lets f u
  have hu : Alter (2 ^ 67 ||| 2 ^ 97) s u := (alter_dcl _ _).mono rfl
  clear_value u
  exact (hu.step (alter_setBit ..) (rm_high (by decide) rfl)).step (alter_setBit ..) (rm_high (by decide) rfl)

theorem ov1Shown_shows (s : State) : (ov1Shown s).bit R.DCL_STAT F.DCL_STAT.OV1 = true ∧
    (ov1Shown s).bit R.DCL_FLAGS F.DCL_FLAGS.OV1 = true ∧ (ov1Shown s).dcl.ov1Due = none ∧
    OnlyRegs [R.DCL_STAT, R.DCL_FLAGS] s (ov1Shown s) := by
  unfold ov1Shown
  extract_lets f u
  have hu : OnlyRegs [R.DCL_STAT, R.DCL_FLAGS] s u ∧ u.dcl.ov1Due = none := ⟨.of_regs rfl, rfl⟩
  clear_value u
  refine ⟨?_, State.bit_setBit_eq _ (by decide), ?_, (hu.1.setBit _ _ (by simp)).setBit _ _ (by simp)⟩
  · rw [State.bit_setBit_ne _ (by decide), State.bit_setBit_eq _ (by decide)]
  · rw [State.setBit_dcl, State.setBit_dcl]
    exact hu.2

theorem alter_ov1Holds (m : Nat) (s : State) : Alter selM s (ov1Holds m s) := by
  unfold ov1Holds
  split
  · exact (alter_selHold ..).mono rfl
  · exact .refl _ s

theorem ov1Holds_held {m : Nat} (hm : m < 2) (s : State) : BitsOnly (heldBit m) s (ov1Holds m s) := by
  unfold ov1Holds
  exact .ite (selHold_held hm _ s) (.refl _ s)

theorem ov1Holds_deep {m : Nat} (hm : m < 2) (s : State) : Deep s (ov1Holds m s) := by
  unfold ov1Holds
  exact .ite (selHold_deep hm _ s) (.refl _ s)

theorem ov1Holds_other {m j : Nat} (s : State) (h : j ≠ m) : ((ov1Holds m s).selOf j).why = (s.selOf j).why := by
  unfold ov1Holds
  split
  · exact selHold_other _ s h
  · rfl

theorem ov1Holds_undeclared {m : Nat} {s : State} (h : s.plant = none) : ov1Holds m s = s := by
  have : machConv s m = none := by
    unfold machConv convs
    rw [h]
    rfl
  unfold ov1Holds
  rw [this]
  rfl

/-- A declared machine not yet applied is held for it. -/
theorem ov1Holds_holds {m : Nat} (hm : m < 2) {s : State} (hc : (machConv s m).isSome = true)
    (ha : s.bit (R.PROT_SS_STAT m) F.PROT_SS_STAT.APPLIED = false) :
    bitN ((ov1Holds m s).selOf m).why Why.ov1 = true ∧
    (ov1Holds m s).bit (R.PROT_SS_STAT m) F.PROT_SS_STAT.APPLIED = true := by
  have : ov1Holds m s = selHold m Why.ov1 s := if_pos (by rw [hc, ha]; rfl)
  rw [this]
  exact ⟨selHold_cause m _ s, selHold_applied hm _ s⟩

theorem forceEnds_spec (s : State) : (forceEnds s).bit R.PWM_FORCE F.PWM_FORCE.EN = false ∧
    OnlyRegs (R.PWM_FORCE :: gateRegs) s (forceEnds s) ∧ (forceEnds s).ev = s.ev := by
  have he : (s.setFld R.PWM_FORCE F.PWM_FORCE.EN 0).fld R.PWM_FORCE F.PWM_FORCE.EN = 0 := State.fld_setFld_eq _ (by decide)
  obtain ⟨ho, hv⟩ := forceApply_only (old := s.reg R.PWM_FORCE) he
  have hn : R.PWM_FORCE ∉ gateRegs := by decide
  refine ⟨?_, ?_, hv.trans (State.setFld_ev ..)⟩
  · unfold forceEnds State.bit
    rw [State.fld_of_reg (ho _ hn), he]
    rfl
  · exact OnlyRegs.trans ((OnlyRegs.refl _ s).setFld _ _ (List.mem_cons_self ..)) (ho.mono (List.subset_cons_self ..))

/-- What a rise of the first level leaves up to its event. -/
theorem ov1Rise_keeps (s : State) : let u := selEvalAll (ov1Holds 1 (ov1Holds 0 (ov1Shown s)))
    Deep (ov1Shown s) u ∧ Alter selM (ov1Shown s) u ∧ (s.plant = none → u.ev = s.ev) := by
  intro u
  refine ⟨((ov1Holds_deep (by decide) _).trans (ov1Holds_deep (by decide) _)).trans (selEvalAll_calm _).deep,
    (((alter_ov1Holds ..).and (alter_ov1Holds ..)).step (alter_selEvalAll ..) rfl), fun h => ?_⟩
  have hp : (ov1Shown s).plant = none := ((alter_ov1Shown s).plant rfl).trans h
  unfold u
  rw [ov1Holds_undeclared hp, ov1Holds_undeclared hp, selEvalAll_quiet hp]
  exact (alter_ov1Shown s).ev rfl

theorem ov1Assert_answers (x : PinEdge) {s : State} {P : State → Prop}
    (ha : pinAbove s (s.fld R.DCL_THR F.DCL_THR.OV1) x.uv.toNat = true) (hm : s.mode ≠ Mode.standby)
    (hp : P ((forceEnds (selEvalAll (ov1Holds 1 (ov1Holds 0 (ov1Shown (s.tick x.e)))))).raise EV.DCL_OV1 0xFF [])) :
    Answers (.ov1Assert x) s P := by
  refine .of_next (t := ov1Assert x.uv.toNat (s.tick x.e)) rfl ?_
  have heq : ov1Assert x.uv.toNat (s.tick x.e) = ov1Rises (s.tick x.e) := if_pos ha
  rw [heq, ov1Rises_eq (by exact hm)]
  exact hp

theorem alter_forceEnds (s : State) : Alter selM s (forceEnds s) :=
  ((alter_setFld ..).mono (rm_high (by decide) rfl)).step (alter_forceApply ..) rfl

theorem ov1Assert_shown (e : Nat) (uv : BitVec 24) (s : State)
    (ha : pinAbove s (s.fld R.DCL_THR F.DCL_THR.OV1) uv.toNat = true) (hm : s.mode ≠ Mode.standby) :
    Answers (.ov1Assert ⟨e, uv⟩) s fun t =>
       t.bit R.DCL_STAT F.DCL_STAT.OV1 = true ∧
       t.bit R.DCL_FLAGS F.DCL_FLAGS.OV1 = true ∧
       t.bit R.PWM_FORCE F.PWM_FORCE.EN = false ∧
       t.dcl.ov1Due = none ∧
       (s.plant = none → (LogReady s → Logs EV.DCL_OV1 0xFF s t)) := by
  refine ov1Assert_answers ⟨e, uv⟩ ha hm ?_
  obtain ⟨h1, h2, h3, -⟩ := ov1Shown_shows (s.tick e)
  have hs := alter_ov1Shown (s.tick e)
  obtain ⟨k1, k2, k3⟩ := ov1Rise_keeps (s.tick e)
  generalize selEvalAll (ov1Holds 1 (ov1Holds 0 (ov1Shown (s.tick e)))) = u at *
  obtain ⟨f1, f2, f3⟩ := forceEnds_spec u
  have fa := alter_forceEnds u
  generalize forceEnds u = v at *
  have hr : ∀ i ∉ R.PWM_FORCE :: gateRegs, i ∉ logRegs → (v.raise EV.DCL_OV1 0xFF []).reg i = u.reg i := fun i hi hl =>
    (State.raise_reg _ _ _ _ _ hl).trans (f2 i hi)
  refine ⟨?_, ?_, ?_, ?_, fun hp hl => ?_⟩
  · rw [State.bit_of_reg (hr _ (by decide) (by decide)), k1.bit (by decide), h1]
  · rw [State.bit_of_reg (hr _ (by decide) (by decide)), k1.bit (by decide), h2]
  · rw [State.bit_raise _ _ _ (by decide), f1]
  · rw [(alter_raise ..).dcl rfl, fa.dcl rfl, k2.dcl rfl, h3]
  · have he : v.ev = s.ev := f3.trans (k3 hp)
    have hb : v.boot = s.boot := (fa.boot rfl).trans ((k2.boot rfl).trans (hs.boot rfl))
    exact (State.raise_logs _ _ _ _ (hl.congr hb he)).of_ev he

theorem ov1Assert_holds (e c : Nat) (m : Fin 2) (uv : BitVec 24) (s : State)
    (ha : pinAbove s (s.fld R.DCL_THR F.DCL_THR.OV1) uv.toNat = true) (hm : s.mode ≠ Mode.standby)
    (hc : machConv s m = some c) (hoff : s.bit (R.PROT_SS_STAT m) F.PROT_SS_STAT.APPLIED = false) :
    Answers (.ov1Assert ⟨e, uv⟩) s fun t =>
       bitN (t.selOf m).why Why.ov1 = true ∧ t.bit (R.PROT_SS_STAT m) F.PROT_SS_STAT.APPLIED = true := by
  refine ov1Assert_answers ⟨e, uv⟩ ha hm ?_
  have hss : ∀ k : Fin 2, R.PROT_SS_STAT k ∉ [R.DCL_STAT, R.DCL_FLAGS] ∧ R.PROT_SS_STAT k ∉ R.PWM_FORCE :: gateRegs ∧
      R.PROT_SS_STAT k ∉ logRegs := by decide
  have hother : ∀ k : Fin 2, Apart (heldBit (1 - k)) (R.PROT_SS_STAT k) F.PROT_SS_STAT.APPLIED := fun k b h1 h2 => by
    obtain rfl : b = 22 := Nat.le_antisymm h2 h1
    revert k
    decide
  -- the state once the machine itself is held, whichever of the two comes first
  have hw : let w := ov1Holds 1 (ov1Holds 0 (ov1Shown (s.tick e)))
      bitN (w.selOf m).why Why.ov1 = true ∧ w.bit (R.PROT_SS_STAT m) F.PROT_SS_STAT.APPLIED = true := by
    have hs := alter_ov1Shown (s.tick e)
    have hu : (machConv (ov1Shown (s.tick e)) m).isSome = true := by
      rw [machConv_of_plant (hs.plant rfl), machConv_of_plant (State.tick_plant ..), hc]
      rfl
    have hb : (ov1Shown (s.tick e)).bit (R.PROT_SS_STAT m) F.PROT_SS_STAT.APPLIED = false :=
      (State.bit_of_reg ((ov1Shown_shows (s.tick e)).2.2.2 _ (hss m).1) _).trans hoff
    generalize ov1Shown (s.tick e) = u at *
    intro w
    match m with
    | 0 =>
      obtain ⟨k1, k2⟩ := ov1Holds_holds (m := 0) (by decide) hu hb
      refine ⟨?_, ?_⟩
      · exact (congrArg (bitN · Why.ov1) (ov1Holds_other (m := 1) (j := 0) _ (by decide))).trans k1
      · exact ((ov1Holds_held (by decide) _).bit (hother 0)).trans k2
    | 1 =>
      refine ov1Holds_holds (m := 1) (by decide) ?_ ?_
      · rw [machConv_of_plant ((alter_ov1Holds ..).plant rfl)]
        exact hu
      · exact ((ov1Holds_held (by decide) _).bit (hother 1)).trans hb
  generalize ov1Holds 1 (ov1Holds 0 (ov1Shown (s.tick e))) = w at hw ⊢
  obtain ⟨w1, w2⟩ := hw
  have hy := selEvalAll_why w m
  have hc := (selEvalAll_calm w).bit (applied_apart m.isLt)
  generalize selEvalAll w = y at *
  have hf := (forceEnds_spec y).2.1
  have hfa : ∀ j, (forceEnds y).selOf j = y.selOf j := State.selOf_of_sel
    (((alter_forceApply ..).sel rfl).trans (State.setFld_sel ..))
  generalize forceEnds y = z at *
  refine ⟨?_, ?_⟩
  · rw [State.selOf_of_sel ((alter_raise ..).sel rfl), hfa, hy, w1]
  · rw [State.bit_raise _ _ _ (hss m).2.2, State.bit_of_reg (hf _ (hss m).2.1), hc, w2]

theorem ov1Assert_idle (e : Nat) (uv : BitVec 24) (s : State) (h : s.mode = Mode.standby ∨
    pinAbove s (s.fld R.DCL_THR F.DCL_THR.OV1) uv.toNat = false) :
    Answers (.ov1Assert ⟨e, uv⟩) s fun t => t = s.tick e := by
  refine .of_next (t := ov1Assert uv.toNat (s.tick e)) rfl ?_
  unfold ov1Assert
  split
  · rename_i hc
    have hc' : pinAbove s (s.fld R.DCL_THR F.DCL_THR.OV1) uv.toNat = true := hc
    unfold ov1Rises
    rw [if_pos]
    rcases h with h | h
    · exact h
    · rw [h] at hc'
      cases hc'
  · rfl

/-- The hand-back becomes due. -/
def ov1Waits (due : Nat) (d : Dcl) (s : State) : State := { s with dcl := { d with ov1Due := some due } }

/-- The first level released, up to its event (R420). -/
def ov1Falls (s : State) : State := selEvalAll (s.setBit R.DCL_STAT F.DCL_STAT.OV1 false)

theorem ov1Waits_spec (due : Nat) (d : Dcl) (s : State) : (ov1Waits due d s).dcl.ov1Due = some due ∧
    (ov1Waits due d s).dt = s.dt ∧ (ov1Waits due d s).el = s.el ∧ (ov1Waits due d s).regs = s.regs ∧ (ov1Waits due d s).ev = s.ev := ⟨rfl, rfl, rfl, rfl, rfl⟩

theorem ov1Release_eq {uv : Nat} {s : State} (hb : pinBelow s (s.fld R.DCL_THR F.DCL_THR.OV1) uv = true)
    (ho : s.bit R.DCL_STAT F.DCL_STAT.OV1 = true) :
    ov1Release uv s = ov1Waits ((ov1Falls s).dt + 20000000) (ov1Falls s).dcl ((ov1Falls s).raise EV.DCL_OV1_CLEAR 0xFF []) := by
  unfold ov1Release
  rw [if_neg (by rw [hb, ho]; decide)]
  rfl

theorem ov1Falls_spec (s : State) : (ov1Falls s).bit R.DCL_STAT F.DCL_STAT.OV1 = false ∧ Alter selM s (ov1Falls s) ∧
    (s.plant = none → (ov1Falls s).ev = s.ev) := by
  unfold ov1Falls
  refine ⟨?_, ((alter_setBit ..).mono (rm_high (by decide) rfl)).step (alter_selEvalAll ..) rfl, fun hp => ?_⟩
  · rw [(selEvalAll_calm _).bit (by decide), State.bit_setBit_eq _ (by decide)]
  · rw [selEvalAll_quiet (by rw [State.setBit_plant]; exact hp), State.setBit_ev]

theorem ov1Release_shown (e : Nat) (uv : BitVec 24) (s : State)
    (hb : pinBelow s (s.fld R.DCL_THR F.DCL_THR.OV1) uv.toNat = true) (ho : s.bit R.DCL_STAT F.DCL_STAT.OV1 = true) :
    Answers (.ov1Release ⟨e, uv⟩) s fun t =>
       t.bit R.DCL_STAT F.DCL_STAT.OV1 = false ∧
       t.dcl.ov1Due = some (t.dt + 20000000) ∧
       Passes e s t ∧
       (s.plant = none → (LogReady s → Logs EV.DCL_OV1_CLEAR 0xFF s t)) := by
  refine .of_next (t := ov1Release uv.toNat (s.tick e)) rfl ?_
  obtain ⟨hu, ha, hev⟩ := ov1Falls_spec (s.tick e)
  rw [ov1Release_eq (by exact hb) (by exact ho)]
  generalize ov1Falls (s.tick e) = u at *
  have hr := alter_raise EV.DCL_OV1_CLEAR 0xFF [] u
  have hrb : (u.raise EV.DCL_OV1_CLEAR 0xFF []).bit R.DCL_STAT F.DCL_STAT.OV1 = false := by
    rw [State.bit_raise _ _ _ (by decide), hu]
  have hlog : s.plant = none → LogReady s → Logs EV.DCL_OV1_CLEAR 0xFF s (u.raise EV.DCL_OV1_CLEAR 0xFF []) := fun hp hl =>
    (State.raise_logs _ _ _ _ (hl.congr (ha.boot rfl) (hev hp))).of_ev (hev hp)
  generalize u.raise EV.DCL_OV1_CLEAR 0xFF [] = v at *
  obtain ⟨w1, w2, w3, w4, w5⟩ := ov1Waits_spec (u.dt + 20000000) u.dcl v
  refine ⟨(State.bit_of_reg (Alter.reg_of_regs w4 _) _).trans hrb, ?_, passes_of_tick ?_ ?_, fun hp hl => (hlog hp hl).to_ev w5⟩
  · rw [w1, w2, hr.dt rfl]
  · exact w3.trans ((hr.el rfl).trans (ha.el rfl))
  · exact w2.trans ((hr.dt rfl).trans (ha.dt rfl))

/-! ### The machines handed back -/

/-- A machine that the first level took is handed back. -/
def ov1Drops (m : Nat) (s : State) : State := if bitN (s.selOf m).why Why.ov1 then selDrop m Why.ov1 s else s

theorem ov1Drops_drops (m : Nat) (s : State) : bitN ((ov1Drops m s).selOf m).why Why.ov1 = false := by
  unfold ov1Drops
  split
  · unfold selDrop
    extract_lets x w
    rw [State.selOf_setSel_same]
    unfold w
    dsimp only
    rw [bitN, clrBitN_testBit, decide_eq_false (fun h => h rfl), Bool.and_false]
  · rename_i h
    exact Bool.eq_false_iff.mpr h

theorem ov1Drops_other {m j : Nat} (s : State) (h : j ≠ m) : (ov1Drops m s).selOf j = s.selOf j := by
  unfold ov1Drops
  split
  · exact State.selOf_setSel_ne _ _ h
  · rfl

theorem alter_ov1Drops (m : Nat) (s : State) : Alter (2 ^ 87) s (ov1Drops m s) := by
  unfold ov1Drops
  split
  · exact (alter_selDrop ..).mono rfl
  · exact .refl _ s

theorem Alter.handBackPatch {s t : State} (a : Alter (2 ^ 65 ||| 2 ^ 66 ||| 2 ^ 87 ||| 2 ^ 97) s t) :
    t = { s with el := t.el, dt := t.dt, dcl := t.dcl, sel := t.sel } := a.eq_patch

theorem ov1HandBack_answers (e d : Nat) (m : Fin 2) (s : State) (hd : s.dcl.ov1Due = some d) (hm : s.mode ≠ Mode.safe) :
    Answers (.ov1HandBack e) s fun t =>
       t.dcl.ov1Due = none ∧ (s.d0 = true → t.dt = max (s.dt + e) d) ∧ bitN (t.selOf m).why Why.ov1 = false ∧
       t = { s with el := t.el, dt := t.dt, dcl := t.dcl, sel := t.sel } := by
  refine .of_next (t := ov1HandBack (s.tick e)) rfl ?_
  have hd' : (s.tick e).dcl.ov1Due = some d := hd
  unfold ov1HandBack
  rw [hd']
  dsimp -zeta only
  extract_lets u f v
  have ha : Alter (2 ^ 65 ||| 2 ^ 66 ||| 2 ^ 87 ||| 2 ^ 97) s v :=
    (((alter_tick ..).mono rfl).step (alter_until ..) rfl).step (alter_dcl _ _) rfl
  have hdue : v.dcl.ov1Due = none := rfl
  have hdt : s.d0 = true → v.dt = max (s.dt + e) d := fun h => State.until_dt h e d
  have hmv : ¬ v.mode = Mode.safe := hm
  clear_value v
  rw [if_neg hmv]
  have a0 := alter_ov1Drops 0 v
  have a1 := alter_ov1Drops 1 (ov1Drops 0 v)
  have hw : bitN ((ov1Drops 1 (ov1Drops 0 v)).selOf m).why Why.ov1 = false := by
    match m with
    | 0 =>
      rw [show ((0 : Fin 2) : Nat) = 0 from rfl, ov1Drops_other _ (by decide)]
      exact ov1Drops_drops 0 v
    | 1 => exact ov1Drops_drops 1 _
  have hst := (ha.step a0 rfl).step a1 rfl
  have hl : forEach [0, 1] (fun m s => if bitN (s.selOf m).why Why.ov1 then selDrop m Why.ov1 s else s) v =
      ov1Drops 1 (ov1Drops 0 v) := rfl
  rw [hl]
  generalize ov1Drops 1 (ov1Drops 0 v) = w at *
  have a2 : Alter (2 ^ 87) v w := a0.and a1
  refine ⟨?_, fun h => (a2.dt rfl).trans (hdt h), hw, hst.handBackPatch⟩
  rw [a2.dcl rfl, hdue]

/-! ### The second level -/

/-- The second level shown, with the stages that it ends (R421). -/
def ov2Shown (s : State) : State :=
  let s := (s.setBit R.DCL_STAT F.DCL_STAT.OV2 true).setBit R.DCL_FLAGS F.DCL_FLAGS.OV2 true
  forEach (convsKind s 1 ++ convsKind s 3 ++ convsKind s 4) convDark s

theorem ov2Rises_eq (s : State) :
    ov2Rises s = enterSafe Cause.ov2 reqInternal ((ov2Shown s).raise EV.DCL_OV2 0xFF []) := rfl

theorem ov2Shown_shows (s : State) : (ov2Shown s).bit R.DCL_STAT F.DCL_STAT.OV2 = true ∧
    (ov2Shown s).bit R.DCL_FLAGS F.DCL_FLAGS.OV2 = true ∧ Alter (2 ^ 67 ||| 2 ^ 86 ||| 2 ^ 89) s (ov2Shown s) := by
  unfold ov2Shown
  extract_lets u
  have h1 : u.bit R.DCL_STAT F.DCL_STAT.OV2 = true := by
    unfold u
    rw [State.bit_setBit_ne _ (by decide), State.bit_setBit_eq _ (by decide)]
  have h2 : u.bit R.DCL_FLAGS F.DCL_FLAGS.OV2 = true := State.bit_setBit_eq _ (by decide)
  have hu : Alter (2 ^ 67 ||| 2 ^ 86 ||| 2 ^ 89) s u :=
    ((alter_setBit ..).mono (rm_high (by decide) rfl)).step (alter_setBit ..) (rm_high (by decide) rfl)
  clear_value u
  have hc : Calm u (forEach (convsKind u 1 ++ convsKind u 3 ++ convsKind u 4) convDark u) :=
    (BitsOnly.refl _ u).forEach _ convDark_calm
  exact ⟨(hc.bit (by decide)).trans h1, (hc.bit (by decide)).trans h2,
    hu.and (alter_forEach _ _ _ fun _ _ => (alter_convDark ..).mono rfl)⟩

theorem ov2Assert_answers (e : Nat) (uv : BitVec 24) (s : State)
    (ha : pinAbove s (s.fld R.DCL_THR F.DCL_THR.OV2) uv.toNat = true) (hm : s.mode ≠ Mode.standby) :
    Answers (.ov2Assert ⟨e, uv⟩) s fun t =>
       t.bit R.DCL_STAT F.DCL_STAT.OV2 = true ∧
       t.bit R.DCL_FLAGS F.DCL_FLAGS.OV2 = true ∧
       EntersSafe Cause.ov2 s t ∧
       (s.plant = none → (LogReady s → Logs EV.DCL_OV2 0xFF s t)) := by
  refine .of_next (t := ov2Assert uv.toNat (s.tick e)) rfl ?_
  have heq : ov2Assert uv.toNat (s.tick e) = ov2Rises (s.tick e) := if_pos ha
  rw [heq, ov2Rises_eq]
  obtain ⟨h1, h2, hs⟩ := ov2Shown_shows (s.tick e)
  generalize ov2Shown (s.tick e) = u at *
  have hr : ∀ i, i ∉ logRegs → (u.raise EV.DCL_OV2 0xFF []).reg i = u.reg i := fun i hi => State.raise_reg _ _ _ _ _ hi
  have hlog : LogReady s → Logs EV.DCL_OV2 0xFF s (u.raise EV.DCL_OV2 0xFF []) := fun hl =>
    (State.raise_logs _ _ _ _ (hl.congr (hs.boot rfl) (hs.ev rfl))).of_ev (hs.ev rfl)
  have hlow : ∀ i < 64, (u.raise EV.DCL_OV2 0xFF []).reg i = s.reg i := fun i hi =>
    ((alter_raise ..).low i hi (by
      revert i
      decide)).trans (hs.low i hi (by
      revert i
      decide))
  have hrg : s.ev.buf <+: (u.raise EV.DCL_OV2 0xFF []).ev.buf := by
    have := (alter_raise EV.DCL_OV2 0xFF [] u).evGrows (by decide)
    rwa [hs.ev rfl] at this
  have hmode := hlow R.DEV_MODE (by decide)
  have hcause := hlow R.DEV_SAFE_CAUSE (by decide)
  have h1' := (State.bit_of_reg (hr R.DCL_STAT (by decide)) _).trans h1
  have h2' := (State.bit_of_reg (hr R.DCL_FLAGS (by decide)) _).trans h2
  generalize u.raise EV.DCL_OV2 0xFF [] = v at *
  have hd := enterSafe_deep Cause.ov2 reqInternal v
  refine ⟨(hd.bit (by decide)).trans h1', (hd.bit (by decide)).trans h2', ?_, fun _ hl => ?_⟩
  · exact (enterSafe_spec _ _ v (by rw [State.mode_of_reg hmode]; exact hm)).of_regs hmode hcause
  · exact (hlog hl).grows hrg (enterSafe_evGrows ..)

theorem ov2Assert_idle (e : Nat) (uv : BitVec 24) (s : State)
    (h : pinAbove s (s.fld R.DCL_THR F.DCL_THR.OV2) uv.toNat = false) :
    Answers (.ov2Assert ⟨e, uv⟩) s fun t => t = s.tick e := by
  refine .of_next (t := ov2Assert uv.toNat (s.tick e)) rfl (if_neg ?_)
  have h' : pinAbove (s.tick e) ((s.tick e).fld R.DCL_THR F.DCL_THR.OV2) uv.toNat = false := h
  rw [h']
  decide

/-- Settles O26: what each level shows lies beside all that the selector, the gates and an entry to SAFE write. -/
theorem overvoltageActs : Obligations.OvervoltageActs := by
  unfold Obligations.OvervoltageActs
  exact ⟨fun e uv s ha hm => ov1Assert_shown e uv s ha hm,
    fun e c m uv s ha hm hc hoff => ov1Assert_holds e c m uv s ha hm hc hoff,
    fun e uv s h => ov1Assert_idle e uv s h, fun e uv s hb ho => ov1Release_shown e uv s hb ho,
    fun e d m s hd hm => ov1HandBack_answers e d m s hd hm, fun e uv s ha hm => ov2Assert_answers e uv s ha hm,
    fun e uv s h => ov2Assert_idle e uv s h⟩

end Sys2Proof.Machine
end

section
/-! SUPPORT. The journal's entries, the halt, the watchdog and the caches of the glove pair (R510, R524, R529, R533). -/

namespace Sys2Proof.Machine

set_option Elab.async false

/-! ### One entry -/

/-- The entry a write makes now (R510), assigned to an interval. -/
def entryNow (src : Nat) (body : JBody) (s : State) (iv : Nat) : JEnt :=
  { seq := s.fld R.GLV_JSEQ F.GLV_JSEQ.SEQ, stamp := s.dt, iv := iv, src := src, defer := iv != s.dt / 10000, body := body }

/-- The journal with an entry more: its ring, its number and its fill shown. -/
def jAdds (src : Nat) (body : JBody) (iv n : Nat) (s : State) : State :=
  let x := entryNow src body s iv
  let u := { s with glove := { s.glove with ents := s.glove.ents ++ [x], cnt := AMap.ins s.glove.cnt iv n } }
  let v := u.setFld R.GLV_JSEQ F.GLV_JSEQ.SEQ (s.fld R.GLV_JSEQ F.GLV_JSEQ.SEQ + 1)
  jShow (v.setFld R.GLV_JRNL F.GLV_JRNL.MAX (max n (v.fld R.GLV_JRNL F.GLV_JRNL.MAX)))

theorem jPut_eq (src : Nat) (body : JBody) (s : State) :
    let iv := jInterval s 9 (s.dt / 10000)
    let u := jAdds src body iv (AMap.getD s.glove.cnt iv 0 + 1) s
    jPut src body s = if iv = s.dt / 10000 then breakMet (s.fld R.GLV_JSEQ F.GLV_JSEQ.SEQ) u else jDefer (s.dt / 10000) u := by
  unfold jPut jAdds entryNow
  rfl

/-- What an entry more leaves. -/
structure JAdds (x : JEnt) (iv n : Nat) (s t : State) : Prop where
  glove : t.glove = { s.glove with ents := s.glove.ents ++ [x], cnt := AMap.ins s.glove.cnt iv n }
  seq : t.fld R.GLV_JSEQ F.GLV_JSEQ.SEQ = (s.fld R.GLV_JSEQ F.GLV_JSEQ.SEQ + 1) % 2 ^ F.GLV_JSEQ.SEQ.width
  only : OnlyRegs [R.GLV_JSEQ, R.GLV_JRNL] s t
  beside : Alter (2 ^ 67 ||| 2 ^ 106) s t

theorem jAdds_adds (src : Nat) (body : JBody) (iv n : Nat) (s : State) :
    JAdds (entryNow src body s iv) iv n s (jAdds src body iv n s) := by
  unfold jAdds jShow
  extract_lets x f u v
  have hu : u.glove = { s.glove with ents := s.glove.ents ++ [x], cnt := AMap.ins s.glove.cnt iv n } ∧
      Alter (2 ^ 67 ||| 2 ^ 106) s u ∧ OnlyRegs [R.GLV_JSEQ, R.GLV_JRNL] s u := ⟨rfl, (alter_glove _ _).mono rfl, .of_regs rfl⟩
  clear_value u
  obtain ⟨h1, h2, h3⟩ := hu
  have hv : v.fld R.GLV_JSEQ F.GLV_JSEQ.SEQ = (s.fld R.GLV_JSEQ F.GLV_JSEQ.SEQ + 1) % 2 ^ F.GLV_JSEQ.SEQ.width :=
    State.fld_setFld_eq _ (by decide)
  have hvg : v.glove = u.glove := State.setFld_glove ..
  have hva : Alter (2 ^ 67 ||| 2 ^ 106) s v := h2.step (alter_setFld ..) (rm_high (by decide) rfl)
  have hvo : OnlyRegs [R.GLV_JSEQ, R.GLV_JRNL] s v := h3.setFld _ _ (by simp)
  clear_value v
  refine ⟨?_, ?_, (hvo.setFld _ _ (by simp)).setFld _ _ (by simp), ?_⟩
  · rw [State.setFld_glove, State.setFld_glove, hvg, h1]
  · rw [State.fld_setFld_ne _ (by decide), State.fld_setFld_ne _ (by decide), hv]
  · exact (hva.step (alter_setFld ..) (rm_high (by decide) rfl)).step (alter_setFld ..) (rm_high (by decide) rfl)

theorem haltAsk_seq (p why : Nat) (s : State) :
    (haltAsk p why s).reg R.GLV_JSEQ = s.reg R.GLV_JSEQ := by
  have h : OnlyRegs [R.GLV_STAT] s (haltAsk p why s) := by
    unfold haltAsk
    split
    · exact .refl _ s
    · exact ((OnlyRegs.refl _ s).setBit F.GLV_STAT.HALT_PEND true (i := R.GLV_STAT) (by decide)).congr rfl
  exact h _ (by decide)

/-- What GL makes of the entry leaves the ring and the number. -/
theorem breakMet_keeps (seq : Nat) (s : State) :
    (breakMet seq s).glove.ents = s.glove.ents ∧ (breakMet seq s).reg R.GLV_JSEQ = s.reg R.GLV_JSEQ := by
  unfold breakMet
  split
  · exact ⟨haltAsk_ents .., haltAsk_seq ..⟩
  · exact ⟨rfl, rfl⟩

theorem jDefer_keeps (k : Nat) (s : State) :
    (jDefer k s).glove.ents = s.glove.ents ∧ (jDefer k s).reg R.GLV_JSEQ = s.reg R.GLV_JSEQ := by
  unfold jDefer
  extract_lets u run g v
  have hu : u.glove = s.glove ∧ u.reg R.GLV_JSEQ = s.reg R.GLV_JSEQ := by
    unfold u
    refine ⟨by rw [State.setBit_glove, State.incFld_glove], ?_⟩
    rw [State.setBit, State.reg_setFld_ne _ _ _ (by decide), State.reg_incFld_ne _ _ _ (by decide)]
  have hv : v.glove.ents = u.glove.ents ∧ v.regs = u.regs := ⟨rfl, rfl⟩
  clear_value v u
  have hr : v.reg R.GLV_JSEQ = s.reg R.GLV_JSEQ := (Alter.reg_of_regs hv.2 _).trans hu.2
  split
  · exact ⟨by rw [hv.1, hu.1], hr⟩
  · exact ⟨by rw [State.raise_glove, hv.1, hu.1], (State.raise_reg _ _ _ _ _ (by decide)).trans hr⟩

/-- A write appends the entry of its time and number, and the number goes on. -/
theorem jPut_puts (src : Nat) (body : JBody) (s : State) :
    (∃ iv, (jPut src body s).glove.ents = s.glove.ents ++ [entryNow src body s iv]) ∧
    (jPut src body s).fld R.GLV_JSEQ F.GLV_JSEQ.SEQ = (s.fld R.GLV_JSEQ F.GLV_JSEQ.SEQ + 1) % 2 ^ F.GLV_JSEQ.SEQ.width := by
  have ha := jAdds_adds src body (jInterval s 9 (s.dt / 10000)) (AMap.getD s.glove.cnt (jInterval s 9 (s.dt / 10000)) 0 + 1) s
  rw [jPut_eq]
  generalize jAdds src body (jInterval s 9 (s.dt / 10000)) (AMap.getD s.glove.cnt (jInterval s 9 (s.dt / 10000)) 0 + 1) s = u at *
  have hk : ∀ t : State, t.glove.ents = u.glove.ents → t.reg R.GLV_JSEQ = u.reg R.GLV_JSEQ →
      (∃ iv, t.glove.ents = s.glove.ents ++ [entryNow src body s iv]) ∧
      t.fld R.GLV_JSEQ F.GLV_JSEQ.SEQ = (s.fld R.GLV_JSEQ F.GLV_JSEQ.SEQ + 1) % 2 ^ F.GLV_JSEQ.SEQ.width := fun t he hr =>
    ⟨⟨_, by rw [he, ha.glove]⟩, (State.fld_of_reg hr _).trans ha.seq⟩
  split
  · exact hk _ (breakMet_keeps _ u).1 (breakMet_keeps _ u).2
  · exact hk _ (jDefer_keeps _ u).1 (jDefer_keeps _ u).2

theorem journalWrite_answers (e : Nat) (src : Fin 16) (s : State) (hon : s.glove.on = true) (hj : jStopped s = false)
    (hl : s.glove.ents.length < 8192) (h1 : 1 ≤ src.val) (h2 : src.val ≤ 12) :
    Answers (.journalWrite e src) s fun t =>
       t.glove.ents.take s.glove.ents.length = s.glove.ents ∧ t.glove.ents.length = s.glove.ents.length + 1 ∧
       (t.glove.ents.getLast?.map fun x => (x.src, x.stamp, x.seq)) = some (src.val, t.dt,
         s.fld R.GLV_JSEQ F.GLV_JSEQ.SEQ) ∧
       t.fld R.GLV_JSEQ F.GLV_JSEQ.SEQ = (s.fld R.GLV_JSEQ F.GLV_JSEQ.SEQ + 1) % 2 ^ F.GLV_JSEQ.SEQ.width ∧
       Passes e s t := by
  refine .of_next (t := journalWrite src (s.tick e)) rfl ?_
  have heq : journalWrite src (s.tick e) = jPut src .none (s.tick e) := by
    unfold journalWrite jWrite
    rw [if_pos ⟨h1, h2⟩, if_neg (by rw [State.tick_glove, hon]; decide), if_neg (by
      have : jStopped (s.tick e) = jStopped s := rfl
      rw [this, hj]
      decide), if_neg (by rw [State.tick_glove]; omega)]
  obtain ⟨⟨iv, p1⟩, p2⟩ := jPut_puts src .none (s.tick e)
  have ha := alter_jPut src .none (s.tick e)
  have hg : (s.tick e).glove = s.glove := rfl
  rw [heq]
  generalize jPut src .none (s.tick e) = t at *
  rw [hg] at p1
  have hdt := ha.dt rfl
  refine ⟨?_, ?_, ?_, p2, passes_of_tick (ha.el rfl) hdt⟩
  · rw [p1, List.take_left]
  · rw [p1, List.length_append]
    rfl
  · rw [p1, List.getLast?_append, hdt]
    rfl

/-! ### A halt reached -/

/-- Both cores shown standing at a position (R533). -/
def haltShown (p why : Nat) (s : State) : State :=
  let s := (s.setBit R.GLV_STAT F.GLV_STAT.HALT_PEND false).setBit R.GLV_STAT F.GLV_STAT.HALTED true
  let s := (s.setFld R.GLV_DBG_STAT F.GLV_DBG_STAT.POS p).setFld R.GLV_DBG_STAT F.GLV_DBG_STAT.WHY why
  { s with glove := { s.glove with haltPos := none, haltAt := s.dt } }

theorem haltReached_eq (p why : Nat) (s : State) : haltReached p why s =
    link60 (vlink (haltShown p why s)) ((haltShown p why s).raise EV.GLOVE_HALT 0xFF [(4, p)]) := rfl

/-- What that shows. -/
structure HaltShown (p why : Nat) (s t : State) : Prop where
  halted : t.bit R.GLV_STAT F.GLV_STAT.HALTED = true
  pend : t.bit R.GLV_STAT F.GLV_STAT.HALT_PEND = false
  pos : t.fld R.GLV_DBG_STAT F.GLV_DBG_STAT.POS = p % 2 ^ F.GLV_DBG_STAT.POS.width
  why : t.fld R.GLV_DBG_STAT F.GLV_DBG_STAT.WHY = why % 4
  glove : t.glove = { s.glove with haltPos := none, haltAt := s.dt }
  only : OnlyRegs [R.GLV_STAT, R.GLV_DBG_STAT] s t
  beside : Alter (2 ^ 67 ||| 2 ^ 106) s t

theorem haltShown_shows (p why : Nat) (s : State) : HaltShown p why s (haltShown p why s) := by
  unfold haltShown
  extract_lets u v
  have hu : u.bit R.GLV_STAT F.GLV_STAT.HALTED = true ∧ u.bit R.GLV_STAT F.GLV_STAT.HALT_PEND = false ∧
      OnlyRegs [R.GLV_STAT, R.GLV_DBG_STAT] s u ∧ Alter (2 ^ 67 ||| 2 ^ 106) s u := by
    refine ⟨State.bit_setBit_eq _ (by decide), ?_, ((OnlyRegs.refl _ s).setBit _ _ (by simp)).setBit _ _ (by simp), ?_⟩
    · unfold u
      rw [State.bit_setBit_beside _ (by decide), State.bit_setBit_eq _ (by decide)]
    · exact ((alter_setBit ..).mono (rm_high (by decide) rfl)).step (alter_setBit ..) (rm_high (by decide) rfl)
  have hug : u.glove = s.glove := by
    unfold u
    rw [State.setBit_glove, State.setBit_glove]
  clear_value u
  obtain ⟨h1, h2, h3, h4⟩ := hu
  have hv : v.fld R.GLV_DBG_STAT F.GLV_DBG_STAT.POS = p % 2 ^ F.GLV_DBG_STAT.POS.width ∧
      v.fld R.GLV_DBG_STAT F.GLV_DBG_STAT.WHY = why % 4 ∧ v.reg R.GLV_STAT = u.reg R.GLV_STAT := by
    unfold v
    refine ⟨?_, State.fld_setFld_eq _ (by decide), ?_⟩
    · rw [State.fld_setFld_beside _ (by decide), State.fld_setFld_eq _ (by decide)]
    · rw [State.reg_setFld_ne _ _ _ (by decide), State.reg_setFld_ne _ _ _ (by decide)]
  have hvo : OnlyRegs [R.GLV_STAT, R.GLV_DBG_STAT] s v := (h3.setFld _ _ (by simp)).setFld _ _ (by simp)
  have hva : Alter (2 ^ 67 ||| 2 ^ 106) s v :=
    (h4.step (alter_setFld ..) (rm_high (by decide) rfl)).step (alter_setFld ..) (rm_high (by decide) rfl)
  have hvg : v.glove = s.glove := by
    unfold v
    rw [State.setFld_glove, State.setFld_glove, hug]
  have hvd : v.dt = s.dt := hva.dt rfl
  clear_value v
  obtain ⟨v1, v2, v3⟩ := hv
  have hz := alter_glove v { v.glove with haltPos := none, haltAt := v.dt }
  have hr : ∀ i, ({ v with glove := { v.glove with haltPos := none, haltAt := v.dt } } : State).reg i = v.reg i :=
    Alter.reg_of_regs rfl
  refine ⟨(State.bit_of_reg ((hr _).trans v3) _).trans h1, (State.bit_of_reg ((hr _).trans v3) _).trans h2,
    (State.fld_of_reg (hr _) _).trans v1, (State.fld_of_reg (hr _) _).trans v2, ?_, fun i hi => (hr i).trans (hvo i hi),
    hva.step hz rfl⟩
  rw [← hvg, ← hvd]

/-! ### The link's reading shown again -/

/-- A register is its two halves about bit 13. -/
theorem reg_of_halves {v w : Reg} (hl : (⟨12, 0⟩ : Fld).get v = (⟨12, 0⟩ : Fld).get w)
    (hh : (⟨39, 13⟩ : Fld).get v = (⟨39, 13⟩ : Fld).get w) : v = w := by
  have hv := v.isLt
  have hw := w.isLt
  have l1 : v.toNat / 2 ^ 0 % 2 ^ 13 = w.toNat / 2 ^ 0 % 2 ^ 13 := hl
  have h1 : v.toNat / 2 ^ 13 % 2 ^ 27 = w.toNat / 2 ^ 13 % 2 ^ 27 := hh
  apply BitVec.eq_of_toNat_eq
  omega

/-- The reading that stands, shown again, leaves the link's status. -/
theorem setVlink_same (s : State) : (setVlink (vlink s) s).reg R.DCL_STAT = s.reg R.DCL_STAT :=
  have h := setVlink_shows (vlink s) s
  reg_of_halves (h.shown (Fld.get_lt _ _)) (h.stat ⟨39, 13⟩ (by decide))

/-- A halt reached on a link below 60 V, or outside SERVICE, only reads the link. -/
theorem link60_reads {v : Nat} {s : State} (h : s.mode ≠ Mode.service ∨ v < 120) : link60 v s = setVlink v s := by
  have hm : (setVlink v s).mode = s.mode := State.mode_of_reg ((alter_setVlink v s).low _ (by decide) rfl)
  unfold link60
  rw [if_neg]
  rintro ⟨h1, h2, -⟩
  rcases h with h | h
  · exact h (hm ▸ h1)
  · omega

theorem haltReached_low (e p why : Nat) {s : State} (hl : gloveLive s = true) (hp : s.glove.haltPos = some (p, why)) :
    (if gloveLive (s.tick e) then haltReachedNow (s.tick e) else s.tick e) = haltReached p why (s.tick e) := by
  have h1 : gloveLive (s.tick e) = true := hl
  have h2 : (s.tick e).glove.haltPos = some (p, why) := hp
  rw [if_pos h1]
  unfold haltReachedNow
  rw [h2]

theorem vlink_of_reg {s t : State} (h : t.reg R.DCL_STAT = s.reg R.DCL_STAT) : vlink t = vlink s := State.fld_of_reg h _

theorem haltReached_answers (e p why : Nat) (s : State) (hl : gloveLive s = true) (hp : s.glove.haltPos = some (p, why))
    (hm : s.mode ≠ Mode.service ∨ vlink s < 120) :
    Answers (.gloveHaltReached e) s fun t =>
       t.bit R.GLV_STAT F.GLV_STAT.HALTED = true ∧ t.bit R.GLV_STAT F.GLV_STAT.HALT_PEND = false ∧
       t.glove.haltPos = none ∧
       t.fld R.GLV_DBG_STAT F.GLV_DBG_STAT.POS = p % 2 ^ F.GLV_DBG_STAT.POS.width ∧
       t.fld R.GLV_DBG_STAT F.GLV_DBG_STAT.WHY = why % 4 ∧
       t.glove.haltAt = t.dt ∧ (LogReady s → Logs EV.GLOVE_HALT 0xFF s t) ∧ Passes e s t ∧
       OnlyRegs (logRegs ++ [R.GLV_STAT, R.GLV_DBG_STAT, R.CHG_FLAGS, R.CHG_IRQ_STAT]) s t := by
  refine .of_next (t := if gloveLive (s.tick e) then haltReachedNow (s.tick e) else s.tick e) rfl ?_
  rw [haltReached_low e p why hl hp, haltReached_eq]
  have hs := haltShown_shows p why (s.tick e)
  generalize haltShown p why (s.tick e) = u at *
  have hlog : LogReady s → Logs EV.GLOVE_HALT 0xFF s (u.raise EV.GLOVE_HALT 0xFF [(4, p)]) := fun h =>
    (State.raise_logs _ _ _ _ (h.congr (hs.beside.boot rfl) (hs.beside.ev rfl))).of_ev (hs.beside.ev rfl)
  have hr : ∀ i, i ∉ logRegs → (u.raise EV.GLOVE_HALT 0xFF [(4, p)]).reg i = u.reg i := fun i hi => State.raise_reg _ _ _ _ _ hi
  have ha := alter_raise EV.GLOVE_HALT 0xFF [(4, p)] u
  generalize u.raise EV.GLOVE_HALT 0xFF [(4, p)] = v at *
  have hlink : vlink u = vlink s := vlink_of_reg (hs.only _ (by decide))
  have hlv : vlink v = vlink u := vlink_of_reg (hr _ (by decide))
  have hmode : v.mode = s.mode := State.mode_of_reg
    ((ha.low _ (by decide) rfl).trans (hs.beside.low _ (by decide) rfl))
  rw [link60_reads (by rw [hmode, hlink]; exact hm), ← hlv]
  have hsame := setVlink_same v
  have ho := (setVlink_shows (vlink v) v).only
  have hb := alter_setVlink (vlink v) v
  generalize setVlink (vlink v) v = t at *
  have hreg : ∀ i, i ∉ vlinkRegs → i ∉ logRegs → t.reg i = u.reg i := fun i h1 h2 => (ho i h1).trans (hr i h2)
  have hg : t.glove = { s.glove with haltPos := none, haltAt := (s.tick e).dt } :=
    (hb.glove rfl).trans ((ha.glove rfl).trans hs.glove)
  have hdt : t.dt = (s.tick e).dt := (hb.dt rfl).trans ((ha.dt rfl).trans (hs.beside.dt rfl))
  refine ⟨?_, ?_, by rw [hg], ?_, ?_, by rw [hg, hdt], fun h => (hlog h).to_ev (hb.ev rfl),
    passes_of_tick ((hb.el rfl).trans ((ha.el rfl).trans (hs.beside.el rfl))) hdt, fun i hi => ?_⟩
  · exact (State.bit_of_reg (hreg _ (by decide) (by decide)) _).trans hs.halted
  · exact (State.bit_of_reg (hreg _ (by decide) (by decide)) _).trans hs.pend
  · exact (State.fld_of_reg (hreg _ (by decide) (by decide)) _).trans hs.pos
  · exact (State.fld_of_reg (hreg _ (by decide) (by decide)) _).trans hs.why
  · simp only [List.mem_append, List.mem_cons, List.not_mem_nil, or_false, not_or] at hi
    obtain ⟨h1, h2, h3, h4, h5⟩ := hi
    have hu : v.reg i = s.reg i := (hr i h1).trans (hs.only i (by simp [h2, h3]))
    by_cases hd : i = R.DCL_STAT
    · rw [hd] at hu ⊢
      exact hsame.trans hu
    · exact (ho i (by simp [vlinkRegs, hd, h4, h5])).trans hu

/-! ### The gloves over an entry to SAFE -/

/-- What a resumption leaves of the gloves' record beside the halt. -/
structure Resumed (s t : State) : Prop where
  wait : t.glove.wait = s.glove.wait
  wdDue : t.glove.wdDue = s.glove.wdDue
  haltPos : t.glove.haltPos = none

theorem gloveResume_resumed (s : State) : Resumed s (gloveResume s) := by
  unfold gloveResume
  extract_lets g u e v
  split
  · have hv : v.glove.wait = s.glove.wait ∧ v.glove.wdDue = s.glove.wdDue ∧ v.glove.haltPos = none := ⟨rfl, rfl, rfl⟩
    clear_value v
    have hr := (alter_raise EV.GLOVE_RESUME 0xFF [(4, v.fld R.GLV_DBG_STAT F.GLV_DBG_STAT.POS), (4, e)] v).glove rfl
    exact ⟨by rw [hr]; exact hv.1, by rw [hr]; exact hv.2.1, by rw [hr]; exact hv.2.2⟩
  · exact ⟨rfl, rfl, rfl⟩

theorem safeEntry_resumed (r : Req) (s : State) : Resumed s (safeEntry r s) := by
  unfold safeEntry
  extract_lets s1 s2 s3 s4 s5 s6
  have h1 : Resumed s s1 := by
    have h := gloveResume_resumed { s with nfault := true, service := 0, discharging := false }
    exact ⟨h.wait, h.wdDue, h.haltPos⟩
  clear_value s1
  have a6 : Alter safeM s1 s6 := by
    unfold s6 s5 s4 s3 s2
    refine Alter.step ?_ (alter_raise ..) rfl
    refine Alter.step ?_ (alter_setBit ..) (rm_high (by decide) rfl)
    refine Alter.step ?_ (alter_lvBrakeAll ..) rfl
    refine Alter.step ?_ (alter_selHold ..) rfl
    refine Alter.step ?_ (alter_selHold ..) rfl
    refine Alter.step ?_ (alter_stagesOff ..) rfl
    exact (alter_forceEnd ..).mono rfl
  clear_value s6
  have hg : (dropAll St.wrongMode (putMode Mode.safe false r s6)).glove = s1.glove :=
    ((alter_dropAll ..).glove rfl).trans (((alter_putMode ..).glove rfl).trans (a6.glove rfl))
  exact ⟨by rw [hg]; exact h1.wait, by rw [hg]; exact h1.wdDue, by rw [hg]; exact h1.haltPos⟩

/-- An entry to SAFE that begins here. -/
theorem enterSafe_begins (c : Nat) (r : Req) {s : State} (h1 : s.mode ≠ Mode.standby) (h2 : s.mode ≠ Mode.safe)
    (h3 : s.mode ≠ Mode.boot) : enterSafe c r s =
      safeEntry r (s.setFld R.DEV_SAFE_CAUSE ⟨11, 0⟩ (s.fld R.DEV_SAFE_CAUSE ⟨11, 0⟩ ||| c)) := by
  have hm : ∀ x, (s.setFld R.DEV_SAFE_CAUSE ⟨11, 0⟩ x).mode = s.mode := fun x =>
    State.mode_of_reg (State.reg_setFld_ne _ _ _ (by decide))
  unfold enterSafe
  rw [if_neg h1]
  dsimp only
  rw [if_neg (by rw [hm]; exact h2), if_neg (by rw [hm]; exact h3)]

/-- What waits for the journal and the watchdog's reset stand over an entry to SAFE. -/
theorem enterSafe_gloves (c : Nat) (r : Req) (s : State) :
    (enterSafe c r s).glove.wait = s.glove.wait ∧ (enterSafe c r s).glove.wdDue = s.glove.wdDue := by
  unfold enterSafe
  split
  · exact ⟨rfl, rfl⟩
  · extract_lets u v
    have hu : u.glove = s.glove := State.setFld_glove ..
    have hv : v.glove = u.glove := by
      unfold v
      rw [State.setFld_glove, State.setBit_glove]
    clear_value u v
    split
    · split
      · have hd : (dropAll St.wrongMode { v with trans := none }).glove = v.glove := (alter_dropAll ..).glove rfl
        rw [hd, hv, hu]
        exact ⟨rfl, rfl⟩
      · rw [hu]
        exact ⟨rfl, rfl⟩
    · split
      · rw [hu]
        exact ⟨rfl, rfl⟩
      · have h := safeEntry_resumed r u
        rw [h.wait, h.wdDue, hu]
        exact ⟨rfl, rfl⟩

/-- `nFAULT` stays driven over an entry to SAFE. -/
theorem enterSafe_nfault (c : Nat) (r : Req) {s : State} (h : s.nfault = true) : (enterSafe c r s).nfault = true := by
  unfold enterSafe
  split
  · exact h
  · extract_lets u v
    have hu : u.nfault = true := (State.setFld_nfault ..).trans h
    have hv : v.nfault = true := by
      unfold v
      rw [State.setFld_nfault, State.setBit_nfault, hu]
    clear_value u v
    split
    · split
      · have hd : (dropAll St.wrongMode { v with trans := none }).nfault = v.nfault := (alter_dropAll ..).nfault rfl
        rw [hd, hv]
      · exact hu
    · split
      · exact hu
      · exact (safeEntry_spec r u).2.1

theorem haltReached_link60 (e p why : Nat) (s : State) (hl : gloveLive s = true) (hp : s.glove.haltPos = some (p, why))
    (hm : s.mode = Mode.service) (hv : 120 ≤ vlink s) :
    Answers (.gloveHaltReached e) s fun t =>
       EntersSafe Cause.link60 s t ∧
       t.nfault = true ∧
       t.glove.haltPos = none ∧
       t.bit R.GLV_STAT F.GLV_STAT.HALTED = false := by
  refine .of_next (t := if gloveLive (s.tick e) then haltReachedNow (s.tick e) else s.tick e) rfl ?_
  rw [haltReached_low e p why hl hp, haltReached_eq]
  have hs := haltShown_shows p why (s.tick e)
  generalize haltShown p why (s.tick e) = u at *
  have hr : ∀ i, i ∉ logRegs → (u.raise EV.GLOVE_HALT 0xFF [(4, p)]).reg i = u.reg i := fun i hi => State.raise_reg _ _ _ _ _ hi
  have ha := alter_raise EV.GLOVE_HALT 0xFF [(4, p)] u
  generalize u.raise EV.GLOVE_HALT 0xFF [(4, p)] = v at *
  have hlink : vlink u = vlink s := vlink_of_reg (hs.only _ (by decide))
  rw [hlink]
  have hb := alter_setVlink (vlink s) v
  have hh : (setVlink (vlink s) v).bit R.GLV_STAT F.GLV_STAT.HALTED = true :=
    (State.bit_of_reg (((setVlink_shows (vlink s) v).only _ (by decide)).trans (hr _ (by decide))) _).trans hs.halted
  have hlow : ∀ i < 64, (setVlink (vlink s) v).reg i = s.reg i := fun i hi =>
    (hb.low i hi (by revert i; decide)).trans ((ha.low i hi (by revert i; decide)).trans (hs.beside.low i hi (by revert i; decide)))
  unfold link60
  extract_lets w
  have hwm : w.mode = Mode.service := (State.mode_of_reg (hlow R.DEV_MODE (by decide))).trans hm
  rw [if_pos ⟨hwm, hv, .inl hh⟩]
  have hwl : ∀ i < 64, w.reg i = s.reg i := hlow
  clear_value w
  have hl := alter_leaveService w
  have hym : (leaveService w).reg R.DEV_MODE = s.reg R.DEV_MODE := (hl.low _ (by decide) rfl).trans (hwl _ (by decide))
  have hyc : (leaveService w).reg R.DEV_SAFE_CAUSE = s.reg R.DEV_SAFE_CAUSE :=
    (hl.low _ (by decide) rfl).trans (hwl _ (by decide))
  generalize leaveService w = y at hym hyc ⊢
  have hmode : y.mode = Mode.service := (State.mode_of_reg hym).trans hm
  have hes := enterSafe_spec Cause.link60 reqInternal y (by rw [hmode]; decide)
  refine ⟨hes.of_regs hym hyc, hes.driven (by rw [hmode]; decide) (by rw [hmode]; decide), ?_, ?_⟩
  · rw [enterSafe_begins _ _ (by rw [hmode]; decide) (by rw [hmode]; decide) (by rw [hmode]; decide)]
    exact (safeEntry_resumed _ _).haltPos
  · rw [enterSafe_begins _ _ (by rw [hmode]; decide) (by rw [hmode]; decide) (by rw [hmode]; decide)]
    exact safeEntry_runs _ _

/-! ### The watchdog and the caches -/

theorem gloveWatchdog_answers (e : Nat) (s : State) (hl : gloveLive s = true) (hh : s.bit R.GLV_STAT F.GLV_STAT.HALTED = false)
    (hw : s.glove.wdDue = none) (hm : s.mode ≠ Mode.standby) :
    Answers (.gloveWatchdog e) s fun t =>
       EntersSafe Cause.glove s t ∧
       t.nfault = true ∧
       t.glove.wdDue = some (t.dt + 2000) ∧
       t.dt = max (s.dt + e) (s.glove.agreeAt + 400000) := by
  refine .of_next (t := gloveWatchdog (s.tick e)) rfl ?_
  have hd0 : s.d0 = true := by
    unfold gloveLive at hl
    exact (Bool.and_eq_true_iff.mp hl).2
  have hl' : gloveLive (s.tick e) = true := hl
  have hdt := State.until_dt hd0 e (s.glove.agreeAt + 400000)
  unfold gloveWatchdog
  rw [if_neg (by rw [hl', State.tick_bit, hh, State.tick_glove, hw]; decide)]
  extract_lets u f v
  have hu : u.dt = max (s.dt + e) (s.glove.agreeAt + 400000) := hdt
  have hur : ∀ i, u.reg i = s.reg i := fun _ => rfl
  have hv : v.nfault = true ∧ v.glove.wdDue = some (u.dt + 2000) ∧ v.dt = u.dt ∧ v.regs = u.regs := ⟨rfl, rfl, rfl, rfl⟩
  clear_value v
  clear_value u
  obtain ⟨v1, v2, v3, v4⟩ := hv
  have hreg : ∀ i, v.reg i = s.reg i := fun i => (Alter.reg_of_regs v4 i).trans (hur i)
  have hmode : v.mode = s.mode := State.mode_of_reg (hreg _)
  have hes := enterSafe_spec Cause.glove reqInternal v (by rw [hmode]; exact hm)
  have htd : (enterSafe Cause.glove reqInternal v).dt = v.dt := (alter_enterSafe ..).dt rfl
  refine ⟨hes.of_regs (hreg _) (hreg _), ?_, ?_, by rw [htd, v3, hu]⟩
  · exact enterSafe_nfault _ _ v1
  · rw [(enterSafe_gloves _ _ v).2, v2, htd, v3]

end Sys2Proof.Machine
end

section
/-! SUPPORT. The checkpoints of the glove pair, and the settling of O35 (R506, R516 to R521, R529, R533). -/

namespace Sys2Proof.Machine

set_option Elab.async false

/-! ### A cache's error -/

/-- A flag raised with its event where it did not stand. -/
theorem flagRaise_spec (i : Nat) (f : Fld) (code subj : Nat) (vals : List (Nat × Nat)) (s : State) (hf : Fld.Ok f)
    (hi : i ∉ logRegs) :
    (s.flagRaise i f code subj vals).bit i f = true ∧ OnlyRegs (logRegs ++ [i]) s (s.flagRaise i f code subj vals) ∧
    (s.flagRaise i f code subj vals).glove = s.glove ∧ (s.flagRaise i f code subj vals).dt = s.dt ∧
    (s.flagRaise i f code subj vals).el = s.el ∧
    (s.bit i f = false → LogReady s → Logs code subj s (s.flagRaise i f code subj vals)) := by
  unfold State.flagRaise
  split
  · rename_i h
    exact ⟨h, .refl _ s, rfl, rfl, rfl, fun hn => absurd h (by rw [hn]; decide)⟩
  · refine ⟨?_, ?_, ?_, ?_, ?_, fun _ hl => ?_⟩
    · rw [State.bit_raise _ _ _ hi, State.bit_setBit_eq _ hf]
    · exact (((OnlyRegs.refl _ s).setBit f true (by simp))).raise _ _ _ (List.subset_append_left _ _)
    · rw [State.raise_glove, State.setBit_glove]
    · rw [State.raise_dt, State.setBit_dt]
    · rw [State.raise_el, State.setBit_el]
    · exact (State.raise_logs _ _ _ _ (hl.congr (State.setBit_boot ..) (State.setBit_ev ..))).of_ev (State.setBit_ev ..)

/-- An error counted, and nothing else. -/
structure CacheCounted (e : Nat) (s u : State) : Prop where
  only : OnlyRegs [R.GLV_CACHE] (s.tick e) u
  dt : u.dt = (s.tick e).dt
  el : u.el = (s.tick e).el
  ev : u.ev = s.ev
  boot : u.boot = s.boot
  glove : u.glove = s.glove

theorem cacheCounted (e : Nat) (f : Fld) (s : State) : CacheCounted e s ((s.tick e).incFld R.GLV_CACHE f 1) :=
  ⟨(OnlyRegs.refl _ _).incFld _ _ (List.mem_singleton.mpr rfl), State.incFld_dt .., State.incFld_el .., State.incFld_ev ..,
    State.incFld_boot .., State.incFld_glove ..⟩

/-- A cache's error is counted, and an uncorrectable one remembered for the interval (R529). -/
theorem gloveCache_answers (e : Nat) (core : Fin 2) (fatal : Bool) (s : State) (hl : gloveLive s = true) :
    Answers (.gloveCache e core fatal) s fun t =>
       t.bit R.GLV_FLAGS (if fatal then F.GLV_FLAGS.CACHE_FATAL else F.GLV_FLAGS.CACHE_CORR) = true ∧
       t.glove.fatal = (if fatal then setBitN s.glove.fatal core else s.glove.fatal) ∧
       (s.bit R.GLV_FLAGS (if fatal then F.GLV_FLAGS.CACHE_FATAL else F.GLV_FLAGS.CACHE_CORR) = false → LogReady s →
         Logs EV.GLOVE_CACHE 0xFF s t) ∧
       OnlyRegs (logRegs ++ [R.GLV_FLAGS, R.GLV_CACHE]) s t ∧ Passes e s t := by
  have hl' : gloveLive (s.tick e) = true := hl
  refine .of_next (t := gloveCache core fatal (s.tick e)) rfl ?_
  -- what holds of any state with the error counted, and the flag then raised
  have key : ∀ (f : Fld) (w : Nat) (u : State), Fld.Ok f → OnlyRegs [R.GLV_CACHE] (s.tick e) u →
      u.dt = (s.tick e).dt → u.el = (s.tick e).el → u.ev = s.ev → u.boot = s.boot →
      let t := u.flagRaise R.GLV_FLAGS f EV.GLOVE_CACHE 0xFF [(1, w)]
      t.bit R.GLV_FLAGS f = true ∧ t.glove = u.glove ∧
      (s.bit R.GLV_FLAGS f = false → LogReady s → Logs EV.GLOVE_CACHE 0xFF s t) ∧
      OnlyRegs (logRegs ++ [R.GLV_FLAGS, R.GLV_CACHE]) s t ∧ Passes e s t := by
    intro f w u hf ho hd he hv hb t
    obtain ⟨h1, h2, h3, h4, h5, h6⟩ := flagRaise_spec R.GLV_FLAGS f EV.GLOVE_CACHE 0xFF [(1, w)] u hf (by decide)
    refine ⟨h1, h3, fun hn hlr => (h6 ?_ (hlr.congr hb hv)).of_ev hv, ?_, passes_of_tick (h5.trans he) (h4.trans hd)⟩
    · exact (State.bit_of_reg (ho _ (by decide)) _).trans hn
    · exact (ho.mono (by decide)).trans (h2.mono (by decide))
  unfold gloveCache
  rw [if_neg (by rw [hl']; decide)]
  cases fatal with
  | true =>
    rw [if_pos rfl]
    extract_lets u f v
    have hu := cacheCounted e (if (core : Nat) = 0 then F.GLV_CACHE.GL_FATAL else F.GLV_CACHE.GR_FATAL) s
    change CacheCounted e s u at hu
    clear_value u
    obtain ⟨u1, u2, u3, u4, u5, u6⟩ := hu
    have hv : v.glove.fatal = setBitN u.glove.fatal core ∧ v.regs = u.regs ∧ v.dt = u.dt ∧ v.el = u.el ∧ v.ev = u.ev ∧
        v.boot = u.boot := ⟨rfl, rfl, rfl, rfl, rfl, rfl⟩
    clear_value v
    obtain ⟨v1, v2, v3, v4, v5, v6⟩ := hv
    obtain ⟨k1, k2, k3, k4, k5⟩ := key F.GLV_FLAGS.CACHE_FATAL (core + 1) v (by decide) (u1.congr v2) (v3.trans u2)
      (v4.trans u3) (v5.trans u4) (v6.trans u5)
    exact ⟨k1, by rw [k2, v1, u6]; rfl, k3, k4, k5⟩
  | false =>
    rw [if_neg (by decide)]
    extract_lets u
    have hu := cacheCounted e (if (core : Nat) = 0 then F.GLV_CACHE.GL_CORR else F.GLV_CACHE.GR_CORR) s
    change CacheCounted e s u at hu
    clear_value u
    obtain ⟨u1, u2, u3, u4, u5, u6⟩ := hu
    obtain ⟨k1, k2, k3, k4, k5⟩ := key F.GLV_FLAGS.CACHE_CORR (core + 1) u (by decide) u1 u2 u3 u4 u5
    exact ⟨k1, by rw [k2, u6]; rfl, k3, k4, k5⟩

/-! ### A checkpoint met -/

/-- Checkpoint n: its time and the link's reading (R506). -/
def cpRead (n vl : Nat) (s : State) : State :=
  let s := setVlink vl (s.until (n * 10000))
  { s with glove := { s.glove with next := n + 1 } }

/-- The number of the checkpoint met at a time. -/
def cpNum (s : State) : Nat := max s.glove.next (s.dt / 10000)

theorem gloveCheckpoint_eq {vl : Nat} {d : Option Diff} {work : Nat} {s : State} (hl : gloveLive s = true) :
    gloveCheckpoint vl d work s =
      let n := cpNum s
      let s := cpRead n vl s
      if s.bit R.GLV_STAT F.GLV_STAT.HALTED then s
      else if haltDue n s then haltReachedNow s
      else
        let s := s.setFld R.GLV_STAT F.GLV_STAT.WORK_MAX (max work (s.fld R.GLV_STAT F.GLV_STAT.WORK_MAX))
        let s := takeSample n (restartAt n (breakAt n s))
        jDrain 8192 (compareAt stepGo n (pairMsgNow s) d (if jStopped s then s else takeWaiting stepGo s)) := by
  unfold gloveCheckpoint
  rw [if_neg (by rw [hl]; decide)]
  rfl

/-- What a checkpoint's reading leaves. -/
structure CpRead (n vl : Nat) (s t : State) : Prop where
  glove : t.glove = { s.glove with next := n + 1 }
  only : OnlyRegs vlinkRegs s t
  vlink : vl < 2 ^ 13 → vlink t = vl
  beside : Alter (2 ^ 65 ||| 2 ^ 66 ||| 2 ^ 67 ||| 2 ^ 94 ||| 2 ^ 97 ||| 2 ^ 98 ||| 2 ^ 106) s t
  dt : t.dt = (s.until (n * 10000)).dt

theorem cpRead_reads (n vl : Nat) (s : State) : CpRead n vl s (cpRead n vl s) := by
  have hu := alter_until (n * 10000) s
  have huo : (s.until (n * 10000)).regs = s.regs := hu.regs rfl
  unfold cpRead
  generalize hu0 : s.until (n * 10000) = u at *
  extract_lets v
  have hs := setVlink_shows vl u
  have ha := alter_setVlink vl u
  have hv : v.glove = s.glove ∧ OnlyRegs vlinkRegs s v ∧ (vl < 2 ^ 13 → Machine.vlink v = vl) ∧ v.dt = u.dt ∧
      Alter (2 ^ 65 ||| 2 ^ 66 ||| 2 ^ 67 ||| 2 ^ 94 ||| 2 ^ 97 ||| 2 ^ 98 ||| 2 ^ 106) s v :=
    ⟨(ha.glove rfl).trans (hu.glove rfl), OnlyRegs.trans (.of_regs huo) hs.only, hs.shown, ha.dt rfl, (hu.mono rfl).step ha rfl⟩
  clear_value v
  obtain ⟨h1, h2, h3, h4, h5⟩ := hv
  have hz := alter_glove v { v.glove with next := n + 1 }
  refine ⟨by rw [← h1], h2.congr (hz.regs rfl), fun h => ?_, h5.step hz rfl, ?_⟩
  · exact (vlink_of_reg (Alter.reg_of_regs (hz.regs rfl) _)).trans (h3 h)
  · rw [hu0]
    exact (hz.dt rfl).trans h4

/-- The time of a checkpoint is a multiple of 50 µs, or now (R506). -/
theorem cpTime (a b : Nat) : max a (max b (a / 10000) * 10000) / 10000 = max b (a / 10000) := by
  omega

/-! ### The sample and what waits -/

theorem breakAt_none {k : Nat} {s : State} (h : s.glove.ents = []) : breakAt k s = s := by
  unfold breakAt entriesOf
  rw [h]
  rfl

theorem restartAt_none {n : Nat} {s : State} (h : s.glove.restart = none) : restartAt n s = s := by
  unfold restartAt
  rw [h]

theorem breakMet_off {seq : Nat} {s : State} (h : s.bit R.GLV_DBG_BRK F.GLV_DBG_BRK.EN = false) : breakMet seq s = s := by
  unfold breakMet
  rw [if_neg (by rw [h, Bool.false_and, Bool.false_and]; decide)]

/-- The entry of an empty journal goes to the interval in progress. -/
theorem jPut_first (src : Nat) (body : JBody) {s : State} (hc : s.glove.cnt = [])
    (hb : s.bit R.GLV_DBG_BRK F.GLV_DBG_BRK.EN = false) :
    jPut src body s = jAdds src body (s.dt / 10000) 1 s := by
  have hi : jInterval s 9 (s.dt / 10000) = s.dt / 10000 := by
    unfold jInterval
    have hz : AMap.getD ([] : AMap Nat) (s.dt / 10000) 0 = 0 := rfl
    rw [hc, hz, if_pos (by decide)]
  have ha := jAdds_adds src body (s.dt / 10000) 1 s
  rw [jPut_eq, hi, if_pos rfl, hc]
  exact breakMet_off ((State.bit_of_reg (ha.only _ (by decide)) _).trans hb)

/-- The registers of a SAMPLE entry. -/
def sampleRegs : List Nat := actStatRegs ++ [R.GLV_JSEQ, R.GLV_JRNL]

/-- What a SAMPLE entry leaves in an empty journal. -/
structure Sampled (n : Nat) (s t : State) : Prop where
  glove : ∃ sn x, t.glove = { s.glove with snaps := sn, ents := [x], cnt := [(n, 1)] }
  only : OnlyRegs sampleRegs s t
  beside : Alter (2 ^ 67 ||| 2 ^ 94 ||| 2 ^ 106) s t

/-- The snapshot of interval n kept. -/
def snapKept (n : Nat) (sn : Snap) (s : State) : State :=
  { s with glove := { s.glove with snaps := AMap.ins s.glove.snaps n sn } }

theorem snapKept_keeps (n : Nat) (sn : Snap) (s : State) :
    (snapKept n sn s).glove = { s.glove with snaps := AMap.ins s.glove.snaps n sn } ∧ (snapKept n sn s).regs = s.regs ∧
    (snapKept n sn s).dt = s.dt ∧ Alter (2 ^ 106) s (snapKept n sn s) := ⟨rfl, rfl, rfl, alter_glove _ _⟩

/-- What a SAMPLE entry keeps of the state. -/
def snapOf (s : State) : Snap := { regs := s.regs, sp := s.eng.sp, echo := echoBad s }

theorem takeSample_eq (n : Nat) {s : State} (hj : jStopped s = false) : takeSample n s =
    jWrite 12 .none (snapKept n (snapOf (forEach [0, 1, 2] actMeasure s)) (forEach [0, 1, 2] actMeasure s)) := by
  unfold takeSample
  rw [if_neg (by rw [hj]; decide)]
  rfl

theorem takeSample_sampled {n : Nat} {s : State} (hj : jStopped s = false) (hon : s.glove.on = true)
    (he : s.glove.ents = []) (hc : s.glove.cnt = []) (hb : s.bit R.GLV_DBG_BRK F.GLV_DBG_BRK.EN = false)
    (hn : s.dt / 10000 = n) : Sampled n s (takeSample n s) := by
  have hao : OnlyRegs actStatRegs s (forEach [0, 1, 2] actMeasure s) :=
    OnlyRegs.forEach_mem s [0, 1, 2] fun a ha x => actMeasure_only ha x
  have hal : Alter (2 ^ 67 ||| 2 ^ 94) s (forEach [0, 1, 2] actMeasure s) :=
    alter_forEach _ _ _ fun a x => (alter_actMeasure a x).mono rfl
  rw [takeSample_eq n hj]
  generalize forEach [0, 1, 2] actMeasure s = u at *
  generalize snapOf u = sn
  have hug : u.glove = s.glove := hal.glove rfl
  obtain ⟨w1, w2, w3, wa⟩ := snapKept_keeps n sn u
  generalize snapKept n sn u = w at *
  rw [hug] at w1
  have w4 : Alter (2 ^ 67 ||| 2 ^ 94 ||| 2 ^ 106) s w := (hal.mono rfl).step wa rfl
  have hwb : w.bit R.GLV_DBG_BRK F.GLV_DBG_BRK.EN = false :=
    (State.bit_of_reg ((Alter.reg_of_regs w2 _).trans (hao _ (by decide))) _).trans hb
  have hwj : jStopped w = false := by
    have hr : w.reg R.GLV_STAT = s.reg R.GLV_STAT := (Alter.reg_of_regs w2 _).trans (hao _ (by decide))
    unfold jStopped at hj ⊢
    rw [State.bit_of_reg hr, w1]
    exact hj
  have hput : jWrite 12 .none w = jAdds 12 .none n 1 w := by
    have hwd : w.dt / 10000 = n := by rw [w3, hal.dt rfl, hn]
    unfold jWrite
    rw [w1, if_neg (by rw [hon]; decide), if_neg (by rw [hwj]; decide), if_neg (by rw [he]; decide),
      jPut_first 12 .none (by rw [w1]; exact hc) hwb, hwd]
  rw [hput]
  have ha := jAdds_adds 12 .none n 1 w
  refine ⟨⟨AMap.ins s.glove.snaps n sn, entryNow 12 .none w n, ?_⟩, ?_, w4.step ha.beside rfl⟩
  · rw [ha.glove, w1]
    dsimp only
    rw [he, hc]
    rfl
  · exact ((hao.mono (List.subset_append_left _ _)).congr w2).trans (ha.only.mono (List.subset_append_right _ _))

/-- One controller's waiting frames are taken (R534). -/
def waitTaken (go : State → State) (c : Nat) (s : State) : State :=
  forEach (canOf s c).wait (fun p s => takeFrame go c p.1 p.2 s) (setCan c { canOf s c with wait := [] } s)

theorem takeWaiting_eq (go : State → State) (s : State) : takeWaiting go s = forEach [0, 1, 2] (waitTaken go) s := rfl

theorem waitTaken_none (go : State → State) {c : Nat} {s : State} (h : ∀ j, (canOf s j).wait = []) :
    (∀ j, (canOf (waitTaken go c s) j).wait = []) ∧ Alter (2 ^ 107) s (waitTaken go c s) := by
  have he : waitTaken go c s = setCan c { canOf s c with wait := [] } s := by
    unfold waitTaken
    rw [h c]
    rfl
  rw [he]
  refine ⟨fun j => ?_, (alter_setCan ..).mono rfl⟩
  unfold canOf setCan
  by_cases hj : j = c
  · rw [hj, AMap.getD_put_same]
  · rw [AMap.getD_put_other _ _ _ _ hj]
    exact h j

/-- With no controller's frame waiting, none is taken. -/
theorem takeWaiting_none (go : State → State) {s : State} (h : s.can.ctl = []) : Alter (2 ^ 107) s (takeWaiting go s) := by
  have h0 : ∀ c, (canOf s c).wait = [] := fun c => by
    unfold canOf
    rw [h]
    rfl
  obtain ⟨h1, a1⟩ := waitTaken_none go (c := 0) h0
  obtain ⟨h2, a2⟩ := waitTaken_none go (c := 1) h1
  obtain ⟨-, a3⟩ := waitTaken_none go (c := 2) h2
  rw [takeWaiting_eq]
  exact (a1.and a2).and a3

end Sys2Proof.Machine
end

section
/-! SUPPORT. The comparison at a checkpoint, and the settling of O35 (R506, R516 to R521). -/

namespace Sys2Proof.Machine

set_option Elab.async false

/-- The glove pair runs with an empty journal, nothing waiting and no halt on its way. -/
structure CleanRun (s : State) : Prop where
  live : gloveLive s = true
  halted : s.bit R.GLV_STAT F.GLV_STAT.HALTED = false
  ents : s.glove.ents = []
  wait : s.glove.wait = []
  cnt : s.glove.cnt = []
  haltPos : s.glove.haltPos = none
  restart : s.glove.restart = none
  fatal : s.glove.fatal = 0
  brk : s.bit R.GLV_DBG_BRK F.GLV_DBG_BRK.EN = false
  rel : s.glove.rel + 2 ≤ s.glove.next
  cmpFrom : s.glove.cmpFrom ≤ s.dt
  ctl : s.can.ctl = []

/-- The checkpoint that a row after e ticks meets, and its time. -/
def cpNext (e : Nat) (s : State) : Nat := max s.glove.next ((s.dt + e) / 10000)

/-- The state that checkpoint n compares. -/
structure AtCompare (n vl work : Nat) (s u : State) : Prop where
  vlink : vl < 2 ^ 13 → vlink u = vl
  rel : u.glove.rel = s.glove.rel
  next : u.glove.next = n + 1
  fatal : u.glove.fatal = 0
  cmpFrom : u.glove.cmpFrom = s.glove.cmpFrom
  cnt : u.glove.cnt = [(n, 1)]
  wait : u.glove.wait = []
  work : u.fld R.GLV_STAT F.GLV_STAT.WORK_MAX = max work (s.fld R.GLV_STAT F.GLV_STAT.WORK_MAX) % 2 ^ 16
  stat : ∀ f, Fld.Beside f F.GLV_STAT.WORK_MAX → u.fld R.GLV_STAT f = s.fld R.GLV_STAT f
  mode : u.reg R.DEV_MODE = s.reg R.DEV_MODE
  cause : u.reg R.DEV_SAFE_CAUSE = s.reg R.DEV_SAFE_CAUSE
  ev : u.ev = s.ev
  boot : u.boot = s.boot

theorem haltDue_none {n : Nat} {s : State} (h : s.glove.haltPos = none) : haltDue n s = false := by
  unfold haltDue
  rw [h]

theorem jStopped_congr {s t : State} (hr : t.bit R.GLV_STAT F.GLV_STAT.HALTED = s.bit R.GLV_STAT F.GLV_STAT.HALTED)
    (hg : t.glove.restart = s.glove.restart) : jStopped t = jStopped s := by
  unfold jStopped
  rw [hr, hg]

/-- The sample of a clean run, and the frames that wait. -/
theorem sampled_compares {n vl work : Nat} {s r : State} (h : CleanRun s) (hr : CpRead n vl s r)
    (hn : r.dt / 10000 = n) :
    let w := r.setFld R.GLV_STAT F.GLV_STAT.WORK_MAX (max work (r.fld R.GLV_STAT F.GLV_STAT.WORK_MAX))
    let v := takeSample n (restartAt n (breakAt n w))
    let u := if jStopped v then v else takeWaiting stepGo v
    AtCompare n vl work s u ∧ u.dt = r.dt := by
  intro w v u
  have hrs : r.reg R.GLV_STAT = s.reg R.GLV_STAT := hr.only _ (by decide)
  have hww : w.fld R.GLV_STAT F.GLV_STAT.WORK_MAX = max work (s.fld R.GLV_STAT F.GLV_STAT.WORK_MAX) % 2 ^ 16 := by
    unfold w
    rw [State.fld_setFld_eq _ (by decide), State.fld_of_reg hrs]
    rfl
  have hws : ∀ f, Fld.Beside f F.GLV_STAT.WORK_MAX → w.fld R.GLV_STAT f = s.fld R.GLV_STAT f := fun f hf => by
    unfold w
    rw [State.fld_setFld_beside _ hf, State.fld_of_reg hrs]
  have hwo : OnlyRegs [R.GLV_STAT] r w := (OnlyRegs.refl _ r).setFld _ _ (List.mem_singleton.mpr rfl)
  have hwg : w.glove = { s.glove with next := n + 1 } := (State.setFld_glove ..).trans hr.glove
  have hwa : Alter (2 ^ 67) r w := (alter_setFld ..).mono (rm_high (by decide) rfl)
  clear_value w
  have hwh : w.bit R.GLV_STAT F.GLV_STAT.HALTED = s.bit R.GLV_STAT F.GLV_STAT.HALTED := by
    unfold State.bit
    rw [hws _ (by decide)]
  have hwj : jStopped w = false := by
    unfold jStopped
    rw [hwh, h.halted, hwg, h.restart]
    rfl
  have hb : breakAt n w = w := breakAt_none (by rw [hwg]; exact h.ents)
  have hrr : restartAt n w = w := restartAt_none (by rw [hwg]; exact h.restart)
  have hs : Sampled n w v := by
    unfold v
    rw [hb, hrr]
    refine takeSample_sampled hwj ?_ ?_ ?_ ?_ ?_
    · rw [hwg]
      have := h.live
      unfold gloveLive at this
      exact (Bool.and_eq_true_iff.mp this).1
    · rw [hwg]
      exact h.ents
    · rw [hwg]
      exact h.cnt
    · exact (State.bit_of_reg ((hwo _ (by decide)).trans (hr.only _ (by decide))) _).trans h.brk
    · rw [hwa.dt rfl, hn]
  clear_value v
  obtain ⟨⟨sn, x, hg⟩, ho, ha⟩ := hs
  have hvj : jStopped v = false :=
    (jStopped_congr (State.bit_of_reg (ho _ (by decide)) _) (by rw [hg])).trans hwj
  have hu : u = takeWaiting stepGo v := if_neg (by rw [hvj]; decide)
  have hua : Alter (2 ^ 107) v u := by
    rw [hu]
    exact takeWaiting_none stepGo (by rw [ha.can rfl, hwa.can rfl, hr.beside.can rfl]; exact h.ctl)
  clear_value u
  have hug : u.glove = { s.glove with next := n + 1, snaps := sn, ents := [x], cnt := [(n, 1)] } := by
    rw [hua.glove rfl, hg, hwg]
  have hureg : ∀ i, u.reg i = v.reg i := Alter.reg_of_regs (hua.regs rfl)
  have hvs : u.reg R.GLV_STAT = w.reg R.GLV_STAT := (hureg _).trans (ho _ (by decide))
  have hlow : ∀ i < 64, u.reg i = s.reg i := fun i hi => ((hureg i).trans (ha.low i hi (by revert i; decide))).trans
    ((hwa.low i hi (by revert i; decide)).trans (hr.beside.low i hi (by revert i; decide)))
  refine ⟨⟨fun hv => ?_, by rw [hug], by rw [hug], by rw [hug]; exact h.fatal, by rw [hug], by rw [hug],
    by rw [hug]; exact h.wait, (State.fld_of_reg hvs _).trans hww, fun f hf => (State.fld_of_reg hvs _).trans (hws f hf),
    hlow _ (by decide), hlow _ (by decide), ?_, ?_⟩, ?_⟩
  · exact (vlink_of_reg ((hureg _).trans ((ho _ (by decide)).trans (hwo _ (by decide))))).trans (hr.vlink hv)
  · rw [hua.ev rfl, ha.ev rfl, hwa.ev rfl, hr.beside.ev rfl]
  · rw [hua.boot rfl, ha.boot rfl, hwa.boot rfl, hr.beside.boot rfl]
  · rw [hua.dt rfl, ha.dt rfl, hwa.dt rfl]

/-- A checkpoint of a clean run comes to its comparison. -/
theorem checkpoint_compares (e vl : Nat) (d : Option Diff) (work : Nat) {s : State} (h : CleanRun s) :
    ∃ u m, AtCompare (cpNext e s) vl work s u ∧ u.dt = max (s.dt + e) (cpNext e s * 10000) ∧
      gloveCheckpoint vl d work (s.tick e) = jDrain 8192 (compareAt stepGo (cpNext e s) m d u) := by
  have hd0 : s.d0 = true := by
    have := h.live
    unfold gloveLive at this
    exact (Bool.and_eq_true_iff.mp this).2
  have hl' : gloveLive (s.tick e) = true := h.live
  have hn : cpNum (s.tick e) = cpNext e s := by
    have : (s.tick e).dt = s.dt + e := if_pos hd0
    unfold cpNum cpNext
    rw [this, State.tick_glove]
  have hc : CleanRun (s.tick e) := { h with
    cmpFrom := le_trans h.cmpFrom (by rw [show (s.tick e).dt = s.dt + e from if_pos hd0]; omega) }
  have hr := cpRead_reads (cpNext e s) vl (s.tick e)
  have hdt : (cpRead (cpNext e s) vl (s.tick e)).dt = max (s.dt + e) (cpNext e s * 10000) :=
    hr.dt.trans (State.until_dt hd0 e _)
  rw [gloveCheckpoint_eq hl', hn]
  dsimp only
  generalize cpRead (cpNext e s) vl (s.tick e) = r at *
  have hq := sampled_compares (work := work) hc hr (by rw [hdt]; exact cpTime _ _)
  have hh : r.bit R.GLV_STAT F.GLV_STAT.HALTED = false := (State.bit_of_reg (hr.only _ (by decide)) _).trans hc.halted
  rw [if_neg (by rw [hh]; decide), if_neg (by rw [haltDue_none (by rw [hr.glove]; exact hc.haltPos)]; decide)]
  obtain ⟨q1, q2⟩ := hq
  exact ⟨_, _, ⟨q1.vlink, q1.rel, q1.next, q1.fatal, q1.cmpFrom, q1.cnt, q1.wait, q1.work, q1.stat, q1.mode, q1.cause, q1.ev,
    q1.boot⟩, q2.trans hdt, rfl⟩

/-! ### What a comparison leaves -/

theorem jDrain_none (k : Nat) {s : State} (h : s.glove.wait = []) : jDrain k s = s := by
  cases k with
  | zero => rfl
  | succ k =>
    unfold jDrain
    rw [h]

theorem fatal_cleared {u : State} (h : u.glove.fatal = 0) : ({ u with glove := { u.glove with fatal := 0 } } : State) = u :=
  calc ({ u with glove := { u.glove with fatal := 0 } } : State)
    _ = { u with glove := { u.glove with fatal := u.glove.fatal } } := by rw [h]
    _ = u := rfl

/-- The intervals up to n - 1 are released. -/
def relDone (n : Nat) (s : State) : State := { s with glove := { s.glove with rel := n - 1 } }

/-- What a comparison with no interval to release comes to: agreement, a second difference or a first one. -/
def cpOutcome (n : Nat) (m : PairMsg) (u : State) : Option Diff → State
  | none => relDone n (agree stepGo n m [] u)
  | some d => if u.bit R.GLV_STAT F.GLV_STAT.RUN then relDone n (gloveEscalate d (n - 2) [] u) else withhold d (n - 2) u

theorem compareAt_clean {n : Nat} {m : PairMsg} {d : Option Diff} {u : State} (hr : u.glove.rel + 2 ≤ n)
    (hd : u.glove.cmpFrom ≤ u.dt) (hc : u.glove.cnt = [(n, 1)]) (hf : u.glove.fatal = 0) :
    compareAt stepGo n m d u = cpOutcome n m u d := by
  have hks : (sortNat (u.glove.cnt.map (·.1))).filter (fun k => decide (k + 2 ≤ n)) = [] := by
    have hs : sortNat [n] = [n] := rfl
    rw [hc, List.map_cons, List.map_nil, hs, List.filter_cons, if_neg (by simp), List.filter_nil]
  have hcd : checkDiff u d = d := by
    unfold checkDiff
    rw [hf]
    rfl
  unfold compareAt
  rw [if_neg (by omega)]
  dsimp only
  rw [hks, hcd, fatal_cleared hf]
  cases d with
  | none => rfl
  | some d => rfl

/-- What an agreed checkpoint leaves. -/
structure Agreed (n : Nat) (s t : State) : Prop where
  agree : t.fld R.GLV_STAT F.GLV_STAT.AGREE = satInc 16 (s.fld R.GLV_STAT F.GLV_STAT.AGREE) 1
  work : t.fld R.GLV_STAT F.GLV_STAT.WORK_MAX = s.fld R.GLV_STAT F.GLV_STAT.WORK_MAX
  cp : t.fld R.GLV_CP F.GLV_CP.CP = n % 2 ^ F.GLV_CP.CP.width
  glove : t.glove = { s.glove with agreeAt := s.dt }
  only : OnlyRegs [R.GLV_STAT, R.GLV_CP] s t
  dt : t.dt = s.dt

theorem agree_agrees (n : Nat) (m : PairMsg) (s : State) : Agreed n s (agree stepGo n m [] s) := by
  unfold agree
  extract_lets a u v w f x
  have hu : u.fld R.GLV_STAT F.GLV_STAT.AGREE = a ∧ u.fld R.GLV_STAT F.GLV_STAT.WORK_MAX = s.fld R.GLV_STAT F.GLV_STAT.WORK_MAX ∧
      OnlyRegs [R.GLV_STAT, R.GLV_CP] s u := by
    refine ⟨?_, State.fld_setFld_beside _ (by decide), (OnlyRegs.refl _ s).setFld _ _ (by simp)⟩
    unfold u
    rw [State.fld_setFld_eq _ (by decide)]
    refine Nat.mod_eq_of_lt ?_
    have : a ≤ 65535 := by
      unfold a satInc
      omega
    exact lt_of_le_of_lt this (by decide)
  have hug : u.glove = s.glove ∧ u.dt = s.dt := ⟨State.setFld_glove .., State.setFld_dt ..⟩
  clear_value u
  have hv : v.fld R.GLV_STAT F.GLV_STAT.AGREE = u.fld R.GLV_STAT F.GLV_STAT.AGREE ∧
      v.fld R.GLV_STAT F.GLV_STAT.WORK_MAX = u.fld R.GLV_STAT F.GLV_STAT.WORK_MAX ∧
      OnlyRegs [R.GLV_STAT, R.GLV_CP] u v ∧ v.glove = u.glove ∧ v.dt = u.dt := by
    unfold v
    split
    · exact ⟨State.fld_setBit_beside _ (by decide), State.fld_setBit_beside _ (by decide),
        (OnlyRegs.refl _ u).setBit _ _ (by simp), State.setBit_glove .., State.setBit_dt ..⟩
    · exact ⟨rfl, rfl, .refl _ u, rfl, rfl⟩
  clear_value v
  have hw : w.reg R.GLV_STAT = v.reg R.GLV_STAT ∧ w.fld R.GLV_CP F.GLV_CP.CP = n % 2 ^ F.GLV_CP.CP.width ∧
      OnlyRegs [R.GLV_STAT, R.GLV_CP] v w ∧ w.glove = v.glove ∧ w.dt = v.dt :=
    ⟨State.reg_setFld_ne _ _ _ (by decide), State.fld_setFld_eq _ (by decide), (OnlyRegs.refl _ v).setFld _ _ (by simp),
      State.setFld_glove .., State.setFld_dt ..⟩
  clear_value w
  have hx : x.glove = { w.glove with agreeAt := w.dt } ∧ x.regs = w.regs ∧ x.dt = w.dt := ⟨rfl, rfl, rfl⟩
  clear_value x
  obtain ⟨u1, u2, u3⟩ := hu
  obtain ⟨v1, v2, v3, v4, v5⟩ := hv
  obtain ⟨w1, w2, w3, w4, w5⟩ := hw
  obtain ⟨x1, x2, x3⟩ := hx
  have hp : Alter (2 ^ 108) x (pairSend m (forEach [] (release stepGo) x)) := (alter_pairSend m x).mono rfl
  have hreg : ∀ i, (pairSend m (forEach [] (release stepGo) x)).reg i = w.reg i := fun i =>
    (Alter.reg_of_regs (hp.regs rfl) i).trans (Alter.reg_of_regs x2 i)
  refine ⟨?_, ?_, (State.fld_of_reg (hreg _) _).trans w2, ?_, fun i hi => ?_, ?_⟩
  · rw [State.fld_of_reg ((hreg _).trans w1), v1, u1]
  · rw [State.fld_of_reg ((hreg _).trans w1), v2, u2]
  · rw [hp.glove rfl, x1, w4, w5, v4, v5, hug.1, hug.2]
  · exact (((hreg i).trans (w3 i hi)).trans (v3 i hi)).trans (u3 i hi)
  · rw [hp.dt rfl, x3, w5, v5, hug.2]

/-- What a difference noted leaves. -/
structure Noted (d : Diff) (s t : State) : Prop where
  kind : t.fld R.GLV_MISM F.GLV_MISM.LAST_KIND = d.1
  core : t.fld R.GLV_MISM F.GLV_MISM.LAST_CORE = d.2
  agree : t.fld R.GLV_STAT F.GLV_STAT.AGREE = 0
  flag : t.bit R.GLV_FLAGS F.GLV_FLAGS.MISMATCH = true
  only : OnlyRegs [R.GLV_MISM, R.GLV_MISM_CP, R.GLV_STAT, R.GLV_FLAGS] s t
  beside : Alter (2 ^ 67) s t

theorem noteDiff_noted (d : Diff) (k : Nat) (s : State) : Noted d s (noteDiff d k s) := by
  have hm : ∀ {i f x} (u : State), 64 ≤ i → Alter (2 ^ 67) u (u.setFld i f x) := fun u hi => (alter_setFld ..).mono (rm_high hi rfl)
  unfold noteDiff
  extract_lets u v w x
  have hu : OnlyRegs [R.GLV_MISM, R.GLV_MISM_CP, R.GLV_STAT, R.GLV_FLAGS] s u ∧ Alter (2 ^ 67) s u :=
    ⟨(OnlyRegs.refl _ s).incFld _ _ (by simp), (alter_incFld ..).mono (rm_high (by decide) rfl)⟩
  clear_value u
  have hv : v.fld R.GLV_MISM F.GLV_MISM.LAST_KIND = d.1 ∧ v.fld R.GLV_MISM F.GLV_MISM.LAST_CORE = d.2 ∧
      OnlyRegs [R.GLV_MISM, R.GLV_MISM_CP, R.GLV_STAT, R.GLV_FLAGS] s v ∧ Alter (2 ^ 67) s v := by
    refine ⟨?_, ?_, (hu.1.setFld _ _ (by simp)).setFld _ _ (by simp), (hu.2.and (hm _ (by decide))).and (hm _ (by decide))⟩
    · unfold v
      rw [State.fld_setFld_beside _ (by decide), State.fld_setFld_eq _ (by decide)]
      exact Nat.mod_eq_of_lt d.1.isLt
    · unfold v
      rw [State.fld_setFld_eq _ (by decide)]
      exact Nat.mod_eq_of_lt (lt_trans d.2.isLt (by decide))
  clear_value v
  have hw : w.reg R.GLV_MISM = v.reg R.GLV_MISM ∧ w.fld R.GLV_STAT F.GLV_STAT.AGREE = 0 ∧
      OnlyRegs [R.GLV_MISM, R.GLV_MISM_CP, R.GLV_STAT, R.GLV_FLAGS] s w ∧ Alter (2 ^ 67) s w := by
    refine ⟨?_, State.fld_setFld_eq _ (by decide), (hv.2.2.1.setFld _ _ (by simp)).setFld _ _ (by simp),
      (hv.2.2.2.and (hm _ (by decide))).and (hm _ (by decide))⟩
    unfold w
    rw [State.reg_setFld_ne _ _ _ (by decide), State.reg_setFld_ne _ _ _ (by decide)]
  clear_value w
  have hx : x.reg R.GLV_MISM = w.reg R.GLV_MISM ∧ x.reg R.GLV_STAT = w.reg R.GLV_STAT ∧
      x.bit R.GLV_FLAGS F.GLV_FLAGS.MISMATCH = true ∧
      OnlyRegs [R.GLV_MISM, R.GLV_MISM_CP, R.GLV_STAT, R.GLV_FLAGS] s x ∧ Alter (2 ^ 67) s x :=
    ⟨State.reg_setFld_ne _ _ _ (by decide), State.reg_setFld_ne _ _ _ (by decide), State.bit_setBit_eq _ (by decide),
      hw.2.2.1.setBit _ _ (by simp), hw.2.2.2.and (hm _ (by decide))⟩
  clear_value x
  obtain ⟨v1, v2, -, -⟩ := hv
  obtain ⟨w1, w2, -, -⟩ := hw
  obtain ⟨x1, x2, x3, x4, x5⟩ := hx
  have hmism := x1.trans w1
  have hbase : Noted d s x := ⟨(State.fld_of_reg hmism _).trans v1, (State.fld_of_reg hmism _).trans v2,
    (State.fld_of_reg x2 _).trans w2, x3, x4, x5⟩
  split
  · refine ⟨?_, ?_, ?_, ?_, hbase.only.setBit _ _ (by simp), hbase.beside.and (hm _ (by decide))⟩
    · rw [State.fld_setBit_ne _ (by decide), hbase.kind]
    · rw [State.fld_setBit_ne _ (by decide), hbase.core]
    · rw [State.fld_setBit_ne _ (by decide), hbase.agree]
    · rw [State.bit_setBit_beside _ (by decide), hbase.flag]
  · exact hbase

/-! ### The rows -/

theorem cpNext_rel {e : Nat} {s : State} (h : CleanRun s) : s.glove.rel + 2 ≤ cpNext e s := by
  have := h.rel
  unfold cpNext
  omega

/-- A checkpoint of a clean run, by what its comparison comes to. -/
theorem checkpoint_answers (e : Nat) (vl : BitVec 13) (d : Option Diff) (work : BitVec 16) {s : State} (h : CleanRun s)
    {P : State → Prop}
    (hp : ∀ u m, AtCompare (cpNext e s) vl.toNat work.toNat s u → u.dt = max (s.dt + e) (cpNext e s * 10000) →
      P (jDrain 8192 (cpOutcome (cpNext e s) m u d))) : Answers (.gloveCheckpoint e vl d work) s P := by
  refine .of_next (t := gloveCheckpoint vl.toNat d work.toNat (s.tick e)) rfl ?_
  obtain ⟨u, m, hu, hd, heq⟩ := checkpoint_compares e vl.toNat d work.toNat h
  have hrel := cpNext_rel (e := e) h
  rw [heq, compareAt_clean (by rw [hu.rel]; exact hrel) (by
    have := h.cmpFrom
    rw [hu.cmpFrom, hd]
    omega) hu.cnt hu.fatal]
  exact hp u m hu hd

/-- The longer execution of an interval fits its field. -/
theorem workMax_fits (work : BitVec 16) (s : State) : max work.toNat (s.fld R.GLV_STAT F.GLV_STAT.WORK_MAX) % 2 ^ 16 =
    max work.toNat (s.fld R.GLV_STAT F.GLV_STAT.WORK_MAX) := by
  have h1 := work.isLt
  have h2 : s.fld R.GLV_STAT F.GLV_STAT.WORK_MAX < 2 ^ 16 := Fld.get_lt _ _
  exact Nat.mod_eq_of_lt (by omega)

theorem relDone_keeps (n : Nat) (s : State) : (relDone n s).glove = { s.glove with rel := n - 1 } ∧
    (relDone n s).regs = s.regs ∧ (relDone n s).dt = s.dt ∧ (relDone n s).ev = s.ev ∧ (relDone n s).nfault = s.nfault :=
  ⟨rfl, rfl, rfl, rfl, rfl⟩

theorem relDone_wait (n : Nat) (s : State) : (relDone n s).glove.wait = s.glove.wait := rfl

theorem checkpoint_agreed (e : Nat) (vl : BitVec 13) (work : BitVec 16) {s : State} (h : CleanRun s) :
    Answers (.gloveCheckpoint e vl none work) s fun t =>
       t.dt = max (s.dt + e) (cpNext e s * 10000) ∧
       t.glove.next = cpNext e s + 1 ∧
       t.glove.rel = cpNext e s - 1 ∧ t.glove.agreeAt = t.dt ∧
       t.fld R.GLV_CP F.GLV_CP.CP = cpNext e s % 2 ^ F.GLV_CP.CP.width ∧
       vlink t = vl.toNat ∧
       t.fld R.GLV_STAT F.GLV_STAT.AGREE = satInc 16 (s.fld R.GLV_STAT F.GLV_STAT.AGREE) 1 ∧
       t.fld R.GLV_STAT F.GLV_STAT.WORK_MAX = max work.toNat (s.fld R.GLV_STAT F.GLV_STAT.WORK_MAX) := by
  refine checkpoint_answers e vl none work h fun u m hu hd => ?_
  have ha := agree_agrees (cpNext e s) m u
  unfold cpOutcome
  generalize agree stepGo (cpNext e s) m [] u = v at *
  obtain ⟨r1, r2, r3, -, -⟩ := relDone_keeps (cpNext e s) v
  generalize relDone (cpNext e s) v = t at *
  have hreg := Alter.reg_of_regs r2
  rw [jDrain_none _ (by rw [r1, ha.glove]; exact hu.wait)]
  refine ⟨by rw [r3, ha.dt, hd], by rw [r1, ha.glove]; exact hu.next, by rw [r1], ?_, (State.fld_of_reg (hreg _) _).trans ha.cp, ?_,
    ?_, ?_⟩
  · rw [r1, r3, ha.glove, ha.dt]
  · rw [vlink_of_reg ((hreg _).trans (ha.only _ (by decide))), hu.vlink vl.isLt]
  · rw [State.fld_of_reg (hreg _), ha.agree, hu.stat _ (by decide)]
  · rw [State.fld_of_reg (hreg _), ha.work, hu.work, workMax_fits]

/-- A first difference is withheld (R519). -/
theorem withhold_spec (d : Diff) (k : Nat) (u : State) : let t := withhold d k u
    t.bit R.GLV_STAT F.GLV_STAT.RUN = true ∧ t.bit R.GLV_FLAGS F.GLV_FLAGS.MISMATCH = true ∧
    t.fld R.GLV_MISM F.GLV_MISM.LAST_KIND = d.1 ∧ t.fld R.GLV_MISM F.GLV_MISM.LAST_CORE = d.2 ∧
    t.fld R.GLV_STAT F.GLV_STAT.AGREE = 0 ∧ t.glove = u.glove ∧ t.dt = u.dt ∧
    (LogReady u → Logs EV.GLOVE_MISMATCH 0xFF u t) := by
  intro t
  have hn := noteDiff_noted d k u
  have ht : t = ((noteDiff d k u).setBit R.GLV_STAT F.GLV_STAT.RUN true).raise EV.GLOVE_MISMATCH 0xFF
      [(1, d.1), (1, d.2), (5, k)] := rfl
  clear_value t
  generalize noteDiff d k u = v at *
  subst ht
  refine ⟨?_, ?_, ?_, ?_, ?_, ?_, ?_, fun hl => ?_⟩
  · rw [State.bit_raise _ _ _ (by decide), State.bit_setBit_eq _ (by decide)]
  · rw [State.bit_raise _ _ _ (by decide), State.bit_setBit_ne _ (by decide), hn.flag]
  · rw [State.fld_raise _ _ _ (by decide), State.fld_setBit_ne _ (by decide), hn.kind]
  · rw [State.fld_raise _ _ _ (by decide), State.fld_setBit_ne _ (by decide), hn.core]
  · rw [State.fld_raise _ _ _ (by decide), State.fld_setBit_beside _ (by decide), hn.agree]
  · rw [State.raise_glove, State.setBit_glove, hn.beside.glove rfl]
  · rw [State.raise_dt, State.setBit_dt, hn.beside.dt rfl]
  · have he : (v.setBit R.GLV_STAT F.GLV_STAT.RUN true).ev = u.ev := (State.setBit_ev ..).trans (hn.beside.ev rfl)
    exact (State.raise_logs _ _ _ _ (hl.congr ((State.setBit_boot ..).trans (hn.beside.boot rfl)) he)).of_ev he

theorem checkpoint_withheld (e : Nat) (vl : BitVec 13) (d : Diff) (work : BitVec 16) {s : State} (h : CleanRun s)
    (hr : s.bit R.GLV_STAT F.GLV_STAT.RUN = false) :
    Answers (.gloveCheckpoint e vl (some d) work) s fun t =>
       t.dt = max (s.dt + e) (cpNext e s * 10000) ∧
       t.bit R.GLV_STAT F.GLV_STAT.RUN = true ∧ t.bit R.GLV_FLAGS F.GLV_FLAGS.MISMATCH = true ∧
       t.fld R.GLV_MISM F.GLV_MISM.LAST_KIND = d.1 ∧ t.fld R.GLV_MISM F.GLV_MISM.LAST_CORE = d.2 ∧
       t.fld R.GLV_STAT F.GLV_STAT.AGREE = 0 ∧
       t.glove.rel = s.glove.rel ∧ t.glove.next = cpNext e s + 1 ∧ (LogReady s →
         Logs EV.GLOVE_MISMATCH 0xFF s t) := by
  refine checkpoint_answers e vl (some d) work h fun u m hu hd => ?_
  have hur : u.bit R.GLV_STAT F.GLV_STAT.RUN = false := by
    unfold State.bit at hr ⊢
    rw [hu.stat _ (by decide), hr]
  unfold cpOutcome
  dsimp only
  rw [if_neg (by rw [hur]; decide)]
  obtain ⟨w1, w2, w3, w4, w5, w6, w7, w8⟩ := withhold_spec d (cpNext e s - 2) u
  generalize withhold d (cpNext e s - 2) u = t at *
  rw [jDrain_none _ (by rw [w6]; exact hu.wait)]
  exact ⟨w7.trans hd, w1, w2, w3, w4, w5, by rw [w6, hu.rel], by rw [w6, hu.next],
    fun hl => (w8 (hl.congr hu.boot hu.ev)).of_ev hu.ev⟩

/-- A cause taken up stands among the causes. -/
theorem or_glove_and (n : Nat) : ((n ||| Cause.glove) % 4096 &&& Cause.glove) = Cause.glove := by
  have h4096 : 4096 = 2 ^ 12 := rfl
  have hg : Cause.glove = 2 ^ 3 := rfl
  apply Nat.eq_of_testBit_eq
  intro b
  rw [Nat.testBit_and, h4096, Nat.testBit_mod_two_pow, Nat.testBit_or, hg, Nat.testBit_two_pow]
  by_cases hb : 3 = b
  · subst hb
    simp
  · simp [hb]

theorem forEach_nil {α : Type} (f : α → State → State) (s : State) : forEach [] f s = s := rfl

theorem gloveEscalate_nil (d : Diff) (k : Nat) (u : State) : gloveEscalate d k [] u = ((enterSafe Cause.glove reqInternal
    ((noteDiff d k u).setBit R.GLV_STAT F.GLV_STAT.RUN false)).setBit R.GLV_FLAGS F.GLV_FLAGS.ESCALATED true).raise
      EV.GLOVE_ESCALATE 0xFF [] := by
  unfold gloveEscalate
  generalize enterSafe _ _ _ = x
  exact congrArg (fun y => (y.setBit R.GLV_FLAGS F.GLV_FLAGS.ESCALATED true).raise EV.GLOVE_ESCALATE 0xFF []) (forEach_nil discard x)

theorem checkpoint_escalated (e : Nat) (vl : BitVec 13) (d : Diff) (work : BitVec 16) {s : State} (h : CleanRun s)
    (hr : s.bit R.GLV_STAT F.GLV_STAT.RUN = true) (hm : s.mode = Mode.drive) :
    Answers (.gloveCheckpoint e vl (some d) work) s fun t =>
       t.bit R.GLV_STAT F.GLV_STAT.RUN = false ∧
       t.bit R.GLV_FLAGS F.GLV_FLAGS.ESCALATED = true ∧
       t.mode = Mode.safe ∧
       t.nfault = true ∧
       (t.fld R.DEV_SAFE_CAUSE ⟨11, 0⟩ &&& Cause.glove) = Cause.glove := by
  refine checkpoint_answers e vl (some d) work h fun u m hu hd => ?_
  have hur : u.bit R.GLV_STAT F.GLV_STAT.RUN = true := by
    unfold State.bit at hr ⊢
    rw [hu.stat _ (by decide), hr]
  unfold cpOutcome
  dsimp only
  rw [if_pos hur]
  have hn := noteDiff_noted d (cpNext e s - 2) u
  rw [gloveEscalate_nil]
  generalize noteDiff d (cpNext e s - 2) u = v at *
  have hvr : (v.setBit R.GLV_STAT F.GLV_STAT.RUN false).bit R.GLV_STAT F.GLV_STAT.RUN = false := State.bit_setBit_eq _ (by decide)
  have hvg : (v.setBit R.GLV_STAT F.GLV_STAT.RUN false).glove.wait = [] := by
    rw [State.setBit_glove, hn.beside.glove rfl, hu.wait]
  have hvm : (v.setBit R.GLV_STAT F.GLV_STAT.RUN false).mode = Mode.drive :=
    (State.mode_of_reg ((State.reg_setBit_ne _ _ _ (by decide)).trans ((hn.only _ (by decide)).trans hu.mode))).trans hm
  generalize v.setBit R.GLV_STAT F.GLV_STAT.RUN false = w at *
  have hes := enterSafe_spec Cause.glove reqInternal w (by rw [hvm]; decide)
  have hrun := ((enterSafe_deep Cause.glove reqInternal w).bit (i := R.GLV_STAT) (f := F.GLV_STAT.RUN) (by decide)).trans hvr
  have hwait := (enterSafe_gloves Cause.glove reqInternal w).1.trans hvg
  generalize enterSafe Cause.glove reqInternal w = x at *
  have hmode := hes.mode (by rw [hvm]; decide)
  have hnf := hes.driven (by rw [hvm]; decide) (by rw [hvm]; decide)
  have hcause := hes.cause
  have hy : ∀ i, i ∉ logRegs → i ≠ R.GLV_FLAGS →
      ((x.setBit R.GLV_FLAGS F.GLV_FLAGS.ESCALATED true).raise EV.GLOVE_ESCALATE 0xFF []).reg i = x.reg i := fun i h1 h2 =>
    (State.raise_reg _ _ _ _ _ h1).trans (State.reg_setBit_ne _ _ _ h2)
  have hyf : ((x.setBit R.GLV_FLAGS F.GLV_FLAGS.ESCALATED true).raise EV.GLOVE_ESCALATE 0xFF []).bit R.GLV_FLAGS
      F.GLV_FLAGS.ESCALATED = true := by
    rw [State.bit_raise _ _ _ (by decide), State.bit_setBit_eq _ (by decide)]
  have hyg : ((x.setBit R.GLV_FLAGS F.GLV_FLAGS.ESCALATED true).raise EV.GLOVE_ESCALATE 0xFF []).glove = x.glove := by
    rw [State.raise_glove, State.setBit_glove]
  have hyn : ((x.setBit R.GLV_FLAGS F.GLV_FLAGS.ESCALATED true).raise EV.GLOVE_ESCALATE 0xFF []).nfault = x.nfault := by
    rw [(alter_raise ..).nfault rfl, State.setBit_nfault]
  generalize (x.setBit R.GLV_FLAGS F.GLV_FLAGS.ESCALATED true).raise EV.GLOVE_ESCALATE 0xFF [] = y at *
  have hw : y.glove.wait = [] := by rw [hyg, hwait]
  have r1 := relDone_wait (cpNext e s) y
  obtain ⟨-, r2, -, -, r5⟩ := relDone_keeps (cpNext e s) y
  generalize relDone (cpNext e s) y = t at *
  have hreg := Alter.reg_of_regs r2
  rw [jDrain_none _ (r1.trans hw)]
  refine ⟨?_, (State.bit_of_reg (hreg _) _).trans hyf, ?_, by rw [r5, hyn, hnf], ?_⟩
  · exact (State.bit_of_reg ((hreg _).trans (hy _ (by decide) (by decide))) _).trans hrun
  · exact (State.mode_of_reg ((hreg _).trans (hy _ (by decide) (by decide)))).trans hmode
  · rw [State.fld_of_reg ((hreg _).trans (hy _ (by decide) (by decide))), hcause]
    exact or_glove_and _

/-- A halted pair only reads the link (R534). -/
theorem checkpoint_halted (e : Nat) (vl : BitVec 13) (diff : Option Diff) (work : BitVec 16) {s : State}
    (hl : gloveLive s = true) (hh : s.bit R.GLV_STAT F.GLV_STAT.HALTED = true) :
    Answers (.gloveCheckpoint e vl diff work) s fun t =>
       t.dt = max (s.dt + e) (cpNext e s * 10000) ∧ vlink t = vl.toNat ∧
       t.glove = { s.glove with next := cpNext e s + 1 } ∧
       t.reg R.GLV_STAT = s.reg R.GLV_STAT := by
  refine .of_next (t := gloveCheckpoint vl.toNat diff work.toNat (s.tick e)) rfl ?_
  have hd0 : s.d0 = true := by
    unfold gloveLive at hl
    exact (Bool.and_eq_true_iff.mp hl).2
  have hl' : gloveLive (s.tick e) = true := hl
  have hn : cpNum (s.tick e) = cpNext e s := by
    have : (s.tick e).dt = s.dt + e := if_pos hd0
    unfold cpNum cpNext
    rw [this, State.tick_glove]
  have hr := cpRead_reads (cpNext e s) vl.toNat (s.tick e)
  have hdt : (cpRead (cpNext e s) vl.toNat (s.tick e)).dt = max (s.dt + e) (cpNext e s * 10000) :=
    hr.dt.trans (State.until_dt hd0 e _)
  rw [gloveCheckpoint_eq hl', hn]
  dsimp only
  generalize cpRead (cpNext e s) vl.toNat (s.tick e) = r at *
  have hst : r.reg R.GLV_STAT = s.reg R.GLV_STAT := hr.only _ (by decide)
  rw [if_pos ((State.bit_of_reg hst _).trans hh)]
  exact ⟨hdt, hr.vlink vl.isLt, hr.glove, hst⟩

/-- Settles O35: with an empty journal a checkpoint has no interval to release, so agreement and difference show what they say;
an entry to SAFE writes of the gloves' status only the halt. -/
theorem gloveCheckpoints : Obligations.GloveCheckpoints := by
  unfold Obligations.GloveCheckpoints
  refine ⟨fun e vl work s h1 h2 h3 h4 h5 h6 h7 h8 h9 h10 h11 h12 => checkpoint_agreed e vl work
      ⟨h1, h2, h3, h4, h5, h6, h7, h8, h9, h10, h11, h12⟩,
    fun e vl d work s h1 h2 h3 h4 h5 h6 h7 h8 h9 h10 h11 h12 hr => checkpoint_withheld e vl d work
      ⟨h1, h2, h3, h4, h5, h6, h7, h8, h9, h10, h11, h12⟩ hr,
    fun e vl d work s h1 h2 h3 h4 h5 h6 h7 h8 h9 h10 h11 h12 hr hm => checkpoint_escalated e vl d work
      ⟨h1, h2, h3, h4, h5, h6, h7, h8, h9, h10, h11, h12⟩ hr hm,
    fun e vl diff work s hl hh => checkpoint_halted e vl diff work hl hh,
    fun e p why s hl hp hm => haltReached_answers e p why s hl hp hm,
    fun e p why s hl hp hm hv => haltReached_link60 e p why s hl hp hm hv,
    fun e s hl hh hw hm => gloveWatchdog_answers e s hl hh hw hm,
    fun e core fatal s hl => gloveCache_answers e core fatal s hl,
    fun e src s hon hj hl h1 h2 => journalWrite_answers e src s hon hj hl h1 h2⟩

end Sys2Proof.Machine
end

section
/-! SUPPORT. The registers of the lifetime estimator and of the crossing FIFOs, and what the chopper's verdict writes. -/

namespace Sys2Proof.Machine

set_option Elab.async false

/-! ### Registers written by crossing FIFOs and by the lifetime estimator -/

/-- The registers that an element entering a crossing FIFO may write. -/
def fifoRegs : List Nat := logRegs ++ [R.FAB_XFIFO_OVF, R.FAB_FLAGS, R.ADC_FLAGS]

theorem OnlyRegs.ite {l : List Nat} {c : Prop} [Decidable c] {s t u : State} (h : OnlyRegs l s t) (k : OnlyRegs l s u) :
    OnlyRegs l s (if c then t else u) := by
  split
  · exact h
  · exact k

theorem resultFlags_only (x : QEnt) (s : State) : OnlyRegs fifoRegs s (resultFlags x s) := by
  unfold resultFlags
  extract_lets u
  have hu : OnlyRegs fifoRegs s u := ((OnlyRegs.refl _ s).setBit _ _ (by decide)).ite (.refl _ s)
  clear_value u
  exact (hu.setBit _ _ (by decide)).ite hu

theorem xfDiscard_only (id : Nat) (run : Bool) (s : State) : OnlyRegs fifoRegs s (xfDiscard id run s) := by
  unfold xfDiscard
  extract_lets u v
  have hu : OnlyRegs fifoRegs s u := ((OnlyRegs.refl _ s).setFld _ _ (by decide)).setFld _ _ (by decide)
  clear_value u
  have hv : OnlyRegs fifoRegs s v := hu.setBit _ _ (by decide)
  clear_value v
  exact hv.ite (hv.raise _ _ _ (List.subset_append_left ..))

theorem xfPush_only (k : Nat) (el : List (Nat × QEnt)) (s : State) : OnlyRegs fifoRegs s (xfPush k el s) := by
  unfold xfPush
  extract_lets x u v
  have hu : OnlyRegs fifoRegs s u := OnlyRegs.forEach_mem s el fun p _ y => .of_regs rfl
  clear_value u
  have hv : OnlyRegs fifoRegs s v := OnlyRegs.forEach_mem s el fun p _ y => resultFlags_only p.2 y
  clear_value v
  refine .ite ?_ (hv.congr rfl)
  exact (hu.congr (u := u.setXf k { x with run := true }) rfl).trans (xfDiscard_only _ _ _)

/-- The registers that the estimate of island n may write. -/
def lifeRegs (n : Nat) : List Nat := logRegs ++ [R.LIFE_I_TJ n, R.LIFE_I_DMG n, R.LIFE_FLAGS]

theorem logRegs_life (n : Nat) : logRegs ⊆ lifeRegs n := List.subset_append_left ..

theorem lifeFlag_only (n : Nat) (f : Fld) {s t : State} (h : OnlyRegs (lifeRegs n) s t) :
    OnlyRegs (lifeRegs n) s (lifeFlag f t) := h.setBit _ _ (by simp [lifeRegs])

theorem lifeShow_only (n : Nat) (s : State) : OnlyRegs (lifeRegs n) s (lifeShow n s) :=
  ((OnlyRegs.refl _ s).setFld _ _ (by simp [lifeRegs])).setFld _ _ (by simp [lifeRegs])

theorem lifeWarn_only (n : Nat) (s : State) : OnlyRegs (lifeRegs n) s (lifeWarn n s) := by
  unfold lifeWarn
  extract_lets w x
  refine .ite ((lifeFlag_only n _ ?_).raise _ _ _ (logRegs_life n)) (.refl _ s)
  exact .of_regs rfl

theorem lifeCount_only (n : Nat) (p q : Int) (k : Nat) (s : State) : OnlyRegs (lifeRegs n) s (lifeCount n p q k s) := by
  unfold lifeCount
  split
  split
  extract_lets u x cell d mat
  have hu : OnlyRegs (lifeRegs n) s u := (lifeFlag_only n _ (.refl _ s)).ite (.refl _ s)
  clear_value u
  exact (hu.congr (State.setLife_regs ..)).trans (lifeWarn_only n _)

theorem lifeInner_only (n fuel : Nat) (s : State) : OnlyRegs (lifeRegs n) s (lifeInner n fuel s) := by
  induction fuel generalizing s with
  | zero => exact .refl _ s
  | succ fuel ih =>
    unfold lifeInner
    split
    · split
      · exact ((lifeCount_only _ _ _ _ _).congr (State.setLife_regs ..)).trans (ih _)
      · exact .refl _ s
    · exact .refl _ s

theorem lifePush_only (n : Nat) (p : Int) (s : State) : OnlyRegs (lifeRegs n) s (lifePush n p s) := by
  unfold lifePush
  extract_lets u x
  have hu : OnlyRegs (lifeRegs n) s u := by
    unfold u
    split
    · split
      · extract_lets v
        have hv : OnlyRegs (lifeRegs n) s v := lifeFlag_only n _ (lifeCount_only _ _ _ _ _)
        clear_value v
        exact hv.congr (State.setLife_regs ..)
      · exact .refl _ s
    · exact .refl _ s
  clear_value u
  exact (hu.congr (State.setLife_regs ..)).trans (lifeInner_only _ _ _)

theorem lifeFeed_only (n : Nat) (v : Int) (s : State) : OnlyRegs (lifeRegs n) s (lifeFeed n v s) := by
  unfold lifeFeed
  extract_lets h x
  have hs : ∀ y, OnlyRegs (lifeRegs n) s (s.setLife n y) := fun y => .of_regs (State.setLife_regs ..)
  split
  · exact hs _
  · rename_i c _
    extract_lets far
    have hp : ∀ y, OnlyRegs (lifeRegs n) s ((lifePush n c s).setLife n y) := fun y => (lifePush_only n c s).congr (State.setLife_regs ..)
    exact .ite (.ite (hp _) (.refl _ s)) (.ite (hs _) (.ite (hp _) (.refl _ s)))

theorem tjUpdate_only (n : Nat) (raw : Int) (s : State) : OnlyRegs (lifeRegs n) s (tjUpdate n raw s) := by
  unfold tjUpdate
  extract_lets i old tj u x
  have hu : OnlyRegs (lifeRegs n) s u := ((OnlyRegs.refl _ s).setFld _ _ (by simp [lifeRegs, i])).setBit _ _ (by simp [lifeRegs, i])
  clear_value u
  exact ((hu.congr (State.setLife_regs ..)).trans (lifeFeed_only _ _ _)).trans (lifeShow_only _ _)

theorem tjFromNtc_only (n : Nat) (s : State) : OnlyRegs (lifeRegs n) s (tjFromNtc n s) := by
  unfold tjFromNtc
  extract_lets i u
  have hu : OnlyRegs (lifeRegs n) s u := (OnlyRegs.refl _ s).setBit _ _ (by simp [lifeRegs, i])
  clear_value u
  exact .ite (.ite (hu.setBit _ _ (by simp [lifeRegs, i])) (hu.trans (tjUpdate_only _ _ _))) (.refl _ s)

theorem calCap_only (n : Nat) (mv : Int) (at_ : Nat) (s : State) : OnlyRegs [R.LIFE_CAL_CAP] s (calCap n mv at_ s) := by
  unfold calCap
  split
  · extract_lets i u v
    have hi : i ∈ [R.LIFE_CAL_CAP] := List.mem_singleton.mpr rfl
    have hu : OnlyRegs [R.LIFE_CAL_CAP] s u := (OnlyRegs.refl _ s).setFld _ _ hi
    clear_value u
    have hv : OnlyRegs [R.LIFE_CAL_CAP] s v := by
      unfold v
      split
      · exact hu.setFld _ _ hi
      · exact hu
    clear_value v
    exact (hv.setFld _ _ hi).setBit _ _ hi
  · exact .refl _ s

/-! ### The chopper's verdict -/

/-- A bit that an on-state report of the chopper's islands may write. -/
def chopBit (i b : Nat) : Bool := calmBit i b || [R.DCL_CHOP_STAT, R.DCL_FLAGS].contains i

theorem BitsOnly.chop {s t : State} (h : Calm s t) : BitsOnly chopBit s t :=
  h.mono fun _ _ hb => (Bool.or_eq_false_iff.mp hb).1

theorem covers_chop {i : Nat} (f : Fld) (h : [R.DCL_CHOP_STAT, R.DCL_FLAGS].contains i = true) : Covers chopBit i f := fun _ _ _ => by
  unfold chopBit
  rw [h, Bool.or_true]

theorem BitsOnly.chopTold {s t : State} (h : BitsOnly chopBit s t) (code subj : Nat) (vals : List (Nat × Nat)) :
    BitsOnly chopBit s (t.raise code subj vals) := h.raise _ _ _ fun _ _ hb => calmBit_log (Bool.or_eq_false_iff.mp hb).1

theorem chopDeclare_bits (v : Nat) (s : State) : BitsOnly chopBit s (chopDeclare v s) := by
  have hc : ∀ {i f} x {t : State}, Fld.Ok f → [R.DCL_CHOP_STAT, R.DCL_FLAGS].contains i = true → BitsOnly chopBit s t →
      BitsOnly chopBit s (t.setFld i f x) := fun x _ hf hi h => h.setFld x hf (covers_chop _ hi)
  unfold chopDeclare
  extract_lets i u w
  have hu : BitsOnly chopBit s u := hc _ (by decide) (by decide) (hc _ (by decide) (by decide) (.refl _ s))
  clear_value u
  have hw : BitsOnly chopBit s w := by
    unfold w chopStops
    extract_lets ks none_ y
    have hy : BitsOnly chopBit s y := (hc _ (by decide) (by decide) (.refl _ s)).trans
      ((BitsOnly.refl _ _).forEach ks fun k z => .of_regs rfl)
    clear_value y
    exact hy.congr rfl
  clear_value w
  refine .ite ?_ (.ite (.refl _ s) ?_)
  · exact (hc _ (by decide) (by decide) hu).chopTold _ _ _
  · exact ((hc _ (by decide) (by decide) hw).chopTold _ _ _).trans (linkEval_calm _).chop

/-- A state that is s but for the chopper's records, or one that the module has acted on by a declaration. -/
def ChopActs (s t : State) : Prop := ∃ d : Dcl, t = { s with dcl := d } ∨ ∃ v, t = chopDeclare v { s with dcl := d }

theorem ChopActs.refl (s : State) : ChopActs s s := ⟨s.dcl, .inl rfl⟩

theorem ChopActs.of_dcl {s t : State} {d : Dcl} (h : ChopActs { s with dcl := d } t) : ChopActs s t := by
  obtain ⟨d', h | ⟨v, h⟩⟩ := h
  · exact ⟨d', .inl h⟩
  · exact ⟨d', .inr ⟨v, h⟩⟩

theorem chopCount_acts (v : Nat) (s : State) : ChopActs s (chopCount v s) := by
  unfold chopCount
  split
  · exact ⟨_, .inl rfl⟩
  · extract_lets k d u
    clear_value k
    split
    · exact ⟨_, .inr ⟨v, rfl⟩⟩
    · exact ⟨_, .inl rfl⟩

/-- Once an island's current is known, a pulse with both reports is judged. -/
def chopJudge (s : State) : State :=
  match s.dcl.cur, s.dcl.repH, s.dcl.repL with
  | some c, some (vh, okH, rgH), some (vl, okL, rgL) =>
    let s := { s with dcl := { s.dcl with cur := none, repH := none, repL := none } }
    if okH && okL && decide (400 ≤ vlink s) && decide (s.fld R.DCL_CHOP_CFG F.DCL_CHOP_CFG.CMP < 64) then
      chopCount (chopVerdict (dclF s R.DCL_CHOP_CHK F.DCL_CHOP_CHK.VDS_LO) (dclF s R.DCL_CHOP_CHK F.DCL_CHOP_CHK.VDS_HI) c
        (vh, rgH) (vl, rgL)) s
    else s
  | _, _, _ => s

theorem chopJudge_acts (s : State) : ChopActs s (chopJudge s) := by
  unfold chopJudge
  split
  · dsimp only
    split
    · exact .of_dcl (chopCount_acts _ _)
    · exact ⟨_, .inl rfl⟩
  · exact .refl s

theorem chopPulse_acts (s : State) : ChopActs s (chopPulse s) := by
  have hj : ∀ h l, ChopActs s (chopJudge (if s.dcl.cur.isNone && (s.dcl.repH.isSome || s.dcl.repL.isSome) then
      { s with dcl := { s.dcl with cur := some (chopCurrent s h l) } } else s)) := fun h l => by
    split
    · exact .of_dcl (chopJudge_acts _)
    · exact chopJudge_acts _
  unfold chopPulse
  split
  · exact .refl s
  · rename_i h l _
    split
    · exact .refl s
    · exact hj h l

theorem chopReport_acts (n : Nat) (mv : Int) (ok range : Bool) (s : State) : ChopActs s (chopReport n mv ok range s) := by
  unfold chopReport
  split
  · exact .refl s
  · split
    · exact .of_dcl (chopPulse_acts _)
    · split
      · exact .of_dcl (chopPulse_acts _)
      · exact .refl s

theorem chopReport_bits (n : Nat) (mv : Int) (ok range : Bool) (s : State) : BitsOnly chopBit s (chopReport n mv ok range s) := by
  obtain ⟨d, h | ⟨v, h⟩⟩ := chopReport_acts n mv ok range s
  · rw [h]
    exact .of_regs rfl
  · rw [h]
    exact (BitsOnly.of_regs rfl).trans (chopDeclare_bits v { s with dcl := d })

/-- The registers that the link's evaluation writes whole lie beside the islands'. -/
theorem not_contains_island {l : List Nat} {i : Nat} (h : ∀ j ∈ l, j < 0x400 ∨ 0x700 ≤ j) (h1 : 0x400 ≤ i) (h2 : i < 0x700) :
    l.contains i = false := by
  rw [Bool.eq_false_iff]
  intro hc
  have := h i (List.contains_iff_mem.mp hc)
  omega

/-- An island's registers but its status are beside what the evaluations write. -/
theorem calmBit_island {i : Nat} (b : Nat) (h1 : 0x400 ≤ i) (h2 : i < 0x700) (h3 : i % 16 ≠ 0) : calmBit i b = false := by
  have hi : islBit i b = false := by simp [islBit, h3]
  have hu : unitBit i b = false := by
    unfold unitBit
    rw [decide_eq_false (by omega), Bool.false_and]
  have he : ∀ j, 0x700 ≤ j → (i == j) = false := fun j hj => beq_false_of_ne (by omega)
  have hs : statBit i b = false := by
    unfold statBit
    rw [he _ (by decide), he _ (by decide), he _ (by decide), not_contains_island (by decide) h1 h2]
    rfl
  have hl : selBit i b = false := by
    unfold selBit
    rw [not_contains_island (by decide) h1 h2, Bool.false_and]
  unfold calmBit
  rw [hi, hu, hs, hl, not_contains_island (by decide) h1 h2]
  rfl

theorem chopBit_island {i : Nat} (b : Nat) (h1 : 0x400 ≤ i) (h2 : i < 0x700) (h3 : i % 16 ≠ 0) : chopBit i b = false := by
  unfold chopBit
  rw [calmBit_island b h1 h2 h3, not_contains_island (by decide) h1 h2]
  rfl

/-! ### Whether an island's reports stand at their range (R117) -/

/-- No island's record of a report at the end of its range is touched. -/
def VdsKept (s t : State) : Prop := ∀ n, (t.islOf n).vdsRun = (s.islOf n).vdsRun

section
variable {s t u : State}

theorem VdsKept.refl (s : State) : VdsKept s s := fun _ => rfl

theorem VdsKept.trans (h : VdsKept s t) (k : VdsKept t u) : VdsKept s u := fun n => (k n).trans (h n)

theorem VdsKept.of_isl (h : t.isl = s.isl) : VdsKept s t := fun n => congrArg Isl.vdsRun (State.islOf_of_isl h n)

theorem VdsKept.congr (h : VdsKept s t) (hu : u.isl = t.isl) : VdsKept s u := h.trans (.of_isl hu)

theorem VdsKept.ite {c : Prop} [Decidable c] (h : VdsKept s t) (k : VdsKept s u) : VdsKept s (if c then t else u) := by
  split
  · exact h
  · exact k

theorem VdsKept.forEach {α : Type} {g : α → State → State} (s : State) (l : List α) (hg : ∀ a x, VdsKept x (g a x)) :
    VdsKept s (forEach l g s) := by
  unfold Machine.forEach
  induction l generalizing s with
  | nil => exact .refl s
  | cons a l ih => exact (hg a s).trans (ih (g a s))

/-- Writing an island's record with the same mark. -/
theorem VdsKept.setIsl {n : Nat} {x : Isl} (hx : x.vdsRun = (s.islOf n).vdsRun) : VdsKept s (s.setIsl n x) := fun j => by
  by_cases hj : j = n
  · subst hj
    exact (congrArg Isl.vdsRun (AMap.getD_put_same _ _ _ _)).trans hx
  · exact congrArg Isl.vdsRun (AMap.getD_put_other _ _ _ _ hj)

end

theorem setGate_vds (g step : Nat) (on : Bool) (s : State) : VdsKept s (setGate g step on s) := by
  unfold setGate
  split
  · exact .of_isl rfl
  · extract_lets x u
    have hu : VdsKept s u := by
      unfold u
      split
      · exact .refl s
      · exact .setIsl rfl
    clear_value u
    exact hu.congr rfl

theorem startProf_vds (n step : Nat) (on : Bool) (prof : Option Nat) (s : State) : VdsKept s (startProf n step on prof s) := by
  unfold startProf
  split
  · exact .refl s
  · exact .setIsl rfl

theorem gateOffP_vds (prof : Option Nat) (g step : Nat) (s : State) : VdsKept s (gateOffP prof g step s) := by
  unfold gateOffP
  extract_lets x u v
  have hu : VdsKept s u := .setIsl rfl
  clear_value u
  split
  · have hv : VdsKept u v := by
      unfold v
      split
      · exact startProf_vds _ _ _ _ _
      · exact .refl u
    clear_value v
    refine ((hu.trans hv).trans (setGate_vds g step false v)).congr ?_
    unfold leaveFallback
    split <;> rfl
  · exact hu

theorem unitDark_vds (k : Nat) (s : State) : VdsKept s (unitDark k s) := by
  unfold unitDark
  extract_lets u v w
  have hv : VdsKept s v := .of_isl (State.setUnit_isl ..)
  clear_value v
  have hw : VdsKept s w := (hv.congr (State.setFld_isl ..)).congr (State.setFld_isl ..)
  clear_value w
  exact (hw.congr (State.setBit_isl ..)).trans
    (VdsKept.forEach _ _ fun g x => gateOffP_vds none g _ x)

theorem dischargeStops_vds (s : State) : VdsKept s (dischargeStops s) := by
  unfold dischargeStops
  extract_lets u v w
  have hu : VdsKept s u := .of_isl rfl
  clear_value u
  have hv : VdsKept s v := (hu.congr (State.setBit_isl ..)).congr (State.setFld_isl ..)
  clear_value v
  have hw : VdsKept s w := by
    unfold w
    split
    · exact (hv.congr (State.setConv_isl ..)).trans (VdsKept.forEach _ _ unitDark_vds)
    · exact hv
  clear_value w
  exact hw.congr ((alter_raise ..).isl rfl)

theorem linkEval_vds (s : State) : VdsKept s (linkEval s) := by
  unfold linkEval
  extract_lets inDrive u av v w
  have hu : VdsKept s u := VdsKept.forEach _ _ fun c x => .of_isl (State.setConv_isl ..)
  clear_value u
  have hv : VdsKept s v := hu.congr (State.setBit_isl ..)
  clear_value v
  have hw : VdsKept s w := by
    unfold w
    split
    · exact hv.trans (dischargeStops_vds v)
    · exact hv
  clear_value w
  have hd : ∀ x : State, (dclSlots x).isl = x.isl := fun x => (alter_dclSlots x).isl rfl
  refine .ite ?_ (.ite ?_ ?_)
  · exact hw.congr ((hd _).trans ((alter_regenEnds w).isl rfl))
  · exact hw.congr ((hd _).trans ((alter_regenBegins w).isl rfl))
  · exact hw.congr (hd _)

theorem chopDeclare_vds (v : Nat) (s : State) : VdsKept s (chopDeclare v s) := by
  unfold chopDeclare
  extract_lets i u w
  have hu : VdsKept s u := (VdsKept.of_isl (State.setBit_isl ..)).congr (State.setFld_isl ..)
  clear_value u
  have hw : VdsKept s w := (VdsKept.of_isl (State.setFld_isl ..)).congr ((alter_chopStops _).isl rfl)
  clear_value w
  refine .ite ((hu.congr (State.setBit_isl ..)).congr ((alter_raise ..).isl rfl)) (.ite (.refl s) ?_)
  exact ((hw.congr (State.setBit_isl ..)).congr ((alter_raise ..).isl rfl)).trans (linkEval_vds _)

theorem chopReport_vds (n : Nat) (mv : Int) (ok range : Bool) (s : State) : VdsKept s (chopReport n mv ok range s) := by
  obtain ⟨d, h | ⟨v, h⟩⟩ := chopReport_acts n mv ok range s
  · rw [h]
    exact .of_isl rfl
  · rw [h]
    exact (VdsKept.of_isl rfl).trans (chopDeclare_vds v { s with dcl := d })

end Sys2Proof.Machine
end

section
/-! SUPPORT. The settling of O33 (R116 to R121, R489, R496, R497). -/

namespace Sys2Proof.Machine

set_option Elab.async false

/-! ### The junction temperature's source -/

/-- What the row of a silent island leaves. -/
theorem tjInvalid_due (e n : Nat) {s : State} (hv : s.bit (R.LIFE_I_TJ n) F.LIFE_I_TJ.VALID = true)
    (ho : s.bit (R.LIFE_I_CFG n) F.LIFE_I_CFG.EN = false ∨ s.bit (R.LIFE_I_TJ n) F.LIFE_I_TJ.SRC = false) :
    let u := (s.tick e).until ((s.estOf n).lastRaw + 200000000)
    tjInvalid n (s.tick e) =
      if s.bit (R.LIFE_I_CFG n) F.LIFE_I_CFG.EN = true ∧ (s.estOf n).edgeAt + 200000000 ≤ u.dt then
        u.setBit (R.LIFE_I_TJ n) F.LIFE_I_TJ.SRC true else u.setBit (R.LIFE_I_TJ n) F.LIFE_I_TJ.VALID false := by
  intro u
  unfold tjInvalid
  dsimp only
  have hc : ((s.tick e).bit (R.LIFE_I_TJ n) F.LIFE_I_TJ.VALID && (!(s.tick e).bit (R.LIFE_I_CFG n) F.LIFE_I_CFG.EN ||
      !(s.tick e).bit (R.LIFE_I_TJ n) F.LIFE_I_TJ.SRC)) = true := by
    have h1 : (s.tick e).bit (R.LIFE_I_TJ n) F.LIFE_I_TJ.VALID = true := hv
    rw [h1]
    rcases ho with h | h
    · have h2 : (s.tick e).bit (R.LIFE_I_CFG n) F.LIFE_I_CFG.EN = false := h
      rw [h2]
      rfl
    · have h2 : (s.tick e).bit (R.LIFE_I_TJ n) F.LIFE_I_TJ.SRC = false := h
      rw [h2, Bool.not_false, Bool.or_true, Bool.and_true]
  rw [if_pos hc]
  rfl

theorem tjInvalid_shows (e : Nat) (n : Fin 48) (s : State) (hv : s.bit (R.LIFE_I_TJ n) F.LIFE_I_TJ.VALID = true)
    (hs : s.bit (R.LIFE_I_TJ n) F.LIFE_I_TJ.SRC = false) :
    Answers (.tjInvalid e n) s fun t =>
       (s.d0 = true → t.dt = max (s.dt + e) ((s.estOf n).lastRaw + 200000000)) ∧
       (if s.bit (R.LIFE_I_CFG n) F.LIFE_I_CFG.EN = true ∧
         (s.estOf n).edgeAt + 200000000 ≤ t.dt then t.bit (R.LIFE_I_TJ n) F.LIFE_I_TJ.SRC = true ∧
       t.bit (R.LIFE_I_TJ n) F.LIFE_I_TJ.VALID = true
       else t.bit (R.LIFE_I_TJ n) F.LIFE_I_TJ.VALID = false ∧ t.bit (R.LIFE_I_TJ n) F.LIFE_I_TJ.SRC = false) ∧
       OnlyRegs [R.LIFE_I_TJ n] s t ∧ RegsOnly s t := by
  refine .of_next (t := tjInvalid n (s.tick e)) rfl ?_
  have ha : Alter (2 ^ 65 ||| 2 ^ 66 ||| 2 ^ 67) s (tjInvalid n (s.tick e)) :=
    ((alter_tick e s).mono rfl).and ((alter_tjInvalid n _).mono rfl)
  have hdt : s.d0 = true → ((s.tick e).until ((s.estOf n).lastRaw + 200000000)).dt =
    max (s.dt + e) ((s.estOf n).lastRaw + 200000000) := fun hd => State.until_dt hd e _
  have hu : ((s.tick e).until ((s.estOf n).lastRaw + 200000000)).regs = s.regs := rfl
  have hreg := Alter.reg_of_regs hu
  revert ha
  rw [tjInvalid_due e n hv (.inr hs)]
  generalize (s.tick e).until ((s.estOf n).lastRaw + 200000000) = u at *
  have ho : OnlyRegs [R.LIFE_I_TJ n] s u := fun i _ => hreg i
  intro ha
  refine ⟨?_, ?_, ?_, .of_alter ha⟩
  · intro hd
    split
    · rw [State.setBit_dt, hdt hd]
    · rw [State.setBit_dt, hdt hd]
  · by_cases hc : s.bit (R.LIFE_I_CFG n) F.LIFE_I_CFG.EN = true ∧ (s.estOf n).edgeAt + 200000000 ≤ u.dt
    · rw [if_pos hc, if_pos (by rw [State.setBit_dt]; exact hc)]
      exact ⟨State.bit_setBit_eq _ (by decide), (State.bit_setBit_beside _ (by decide)).trans ((State.bit_of_reg (hreg _) _).trans hv)⟩
    · rw [if_neg hc, if_neg (by rw [State.setBit_dt]; exact hc)]
      exact ⟨State.bit_setBit_eq _ (by decide), (State.bit_setBit_beside _ (by decide)).trans ((State.bit_of_reg (hreg _) _).trans hs)⟩
  · exact .ite (ho.setBit _ _ (by simp)) (ho.setBit _ _ (by simp))

theorem tjInvalid_disabled (e : Nat) (n : Fin 48) (s : State) (hn : s.bit (R.LIFE_I_CFG n) F.LIFE_I_CFG.EN = false)
    (hv : s.bit (R.LIFE_I_TJ n) F.LIFE_I_TJ.VALID = true) :
    Answers (.tjInvalid e n) s fun t =>
       t.bit (R.LIFE_I_TJ n) F.LIFE_I_TJ.VALID = false ∧ OnlyRegs [R.LIFE_I_TJ n] s t ∧ RegsOnly s t := by
  refine .of_next (t := tjInvalid n (s.tick e)) rfl ?_
  have ha : Alter (2 ^ 65 ||| 2 ^ 66 ||| 2 ^ 67) s (tjInvalid n (s.tick e)) :=
    ((alter_tick e s).mono rfl).and ((alter_tjInvalid n _).mono rfl)
  have hu : ((s.tick e).until ((s.estOf n).lastRaw + 200000000)).regs = s.regs := rfl
  have hreg := Alter.reg_of_regs hu
  revert ha
  rw [tjInvalid_due e n hv (.inl hn)]
  generalize (s.tick e).until ((s.estOf n).lastRaw + 200000000) = u at *
  rw [if_neg (by rw [hn]; simp)]
  have ho : OnlyRegs [R.LIFE_I_TJ n] s u := fun i _ => hreg i
  exact fun ha => ⟨State.bit_setBit_eq _ (by decide), ho.setBit _ _ (by simp), .of_alter ha⟩

/-! ### The islands' reports -/

theorem telVds_fresh {n : Nat} (hn : n < 48) {l : List Nat} (h : ∀ j ∈ l, j < 0x400 ∨ 0x700 ≤ j) : R.ISL_TEL_VDS n ∉ l :=
  fun hm => by
    have := h _ hm
    unfold R.ISL_TEL_VDS at this
    omega

theorem chopReport_telVds {n : Nat} (hn : n < 48) (k : Nat) (mv : Int) (ok range : Bool) (s : State) :
    (chopReport k mv ok range s).reg (R.ISL_TEL_VDS n) = s.reg (R.ISL_TEL_VDS n) :=
  (chopReport_bits k mv ok range s).reg fun b => chopBit_island b (by unfold R.ISL_TEL_VDS; omega) (by unfold R.ISL_TEL_VDS; omega)
    (by unfold R.ISL_TEL_VDS; omega)

/-- The words of a report's registers, before the range is told. -/
def vdsWords (n : Nat) (mv : Int) (uncal inv range : Bool) (s : State) : State :=
  let i := R.ISL_TEL_VDS n
  let s := (s.setSfld i F.ISL_TEL_VDS.VDS mv).setBit i F.ISL_TEL_VDS.NO_SAMPLE false
  ((s.setBit i F.ISL_TEL_VDS.UNCAL uncal).setBit i F.ISL_TEL_VDS.NTC_INV inv).setBit i F.ISL_TEL_VDS.RANGE range

theorem vdsWords_shows (n : Nat) (mv : Int) (uncal inv range : Bool) (s : State) :
    let t := vdsWords n mv uncal inv range s
    t.fld (R.ISL_TEL_VDS n) F.ISL_TEL_VDS.STAMP = s.fld (R.ISL_TEL_VDS n) F.ISL_TEL_VDS.STAMP ∧
    t.bit (R.ISL_TEL_VDS n) F.ISL_TEL_VDS.NO_SAMPLE = false ∧ t.bit (R.ISL_TEL_VDS n) F.ISL_TEL_VDS.RANGE = range ∧
    t.bit (R.ISL_TEL_VDS n) F.ISL_TEL_VDS.UNCAL = uncal ∧ t.isl = s.isl ∧ t.dt = s.dt := by
  intro t
  unfold t vdsWords State.setSfld
  refine ⟨?_, ?_, State.bit_setBit_eq _ (by decide), ?_, ?_, ?_⟩
  · rw [State.fld_setBit_beside _ (by decide), State.fld_setBit_beside _ (by decide), State.fld_setBit_beside _ (by decide),
      State.fld_setBit_beside _ (by decide), State.fld_setFld_beside _ (by decide)]
  · rw [State.bit_setBit_beside _ (by decide), State.bit_setBit_beside _ (by decide), State.bit_setBit_beside _ (by decide),
      State.bit_setBit_eq _ (by decide)]
  · rw [State.bit_setBit_beside _ (by decide), State.bit_setBit_beside _ (by decide), State.bit_setBit_eq _ (by decide)]
  · rw [State.setBit_isl, State.setBit_isl, State.setBit_isl, State.setBit_isl, State.setFld_isl]
  · rw [State.setBit_dt, State.setBit_dt, State.setBit_dt, State.setBit_dt, State.setFld_dt]

/-- What follows the words of a report: the range told, the records, the entry of its queue, the chopper's pulse. -/
def vdsFollows (n : Nat) (at_ : Nat) (mv : Int) (uncal inv range : Bool) (s : State) : State :=
  let s := if range then
      let s' := s.setBit (R.ISL_FLAGS n) F.ISL_FLAGS.VDS_RANGE true
      if (s.islOf n).vdsRun then s' else s'.raise EV.ISL_VDS_RANGE n []
    else s
  let s := s.setIsl n { s.islOf n with vdsRun := range }
  let s := s.setEst n { s.estOf n with rep := some (mv, at_, uncal || range) }
  let s := calCap n mv at_ s
  let s := match AMap.get? s.meas.islQ n with
    | some q => xfPush (9 * 64 + n) [(q, { stamp := at_, chan := 0x74, sample := unsx 16 mv, seq := n, qual := uncal || inv, range := range })] s
    | none => s
  chopReport n mv (!uncal && !inv) range s

theorem vdsFollows_keeps {n : Nat} (hn : n < 48) (at_ : Nat) (mv : Int) (uncal inv range : Bool) (s : State) :
    let t := vdsFollows n at_ mv uncal inv range s
    t.reg (R.ISL_TEL_VDS n) = s.reg (R.ISL_TEL_VDS n) ∧ (t.islOf n).vdsRun = range ∧ t.dt = s.dt := by
  have hlog : R.ISL_TEL_VDS n ∉ logRegs := telVds_fresh hn (by decide)
  unfold vdsFollows
  extract_lets u0 u1 x2 u2 x3 u3 u4 u5
  have h1 : u1.reg (R.ISL_TEL_VDS n) = s.reg (R.ISL_TEL_VDS n) ∧ u1.dt = s.dt := by
    have hf : R.ISL_TEL_VDS n ≠ R.ISL_FLAGS n := by
      unfold R.ISL_TEL_VDS R.ISL_FLAGS
      omega
    unfold u1 u0
    split
    · split
      · exact ⟨State.reg_setBit_ne _ _ _ hf, State.setBit_dt ..⟩
      · exact ⟨(State.raise_reg _ _ _ _ _ hlog).trans (State.reg_setBit_ne _ _ _ hf), State.raise_dt ..⟩
    · exact ⟨rfl, rfl⟩
  clear_value u1
  have h2 : u2.reg (R.ISL_TEL_VDS n) = u1.reg (R.ISL_TEL_VDS n) ∧ (u2.islOf n).vdsRun = range ∧ u2.dt = u1.dt :=
    ⟨rfl, congrArg Isl.vdsRun (AMap.getD_put_same _ _ _ _), rfl⟩
  clear_value u2
  have h3 : u3.reg (R.ISL_TEL_VDS n) = u2.reg (R.ISL_TEL_VDS n) ∧ u3.isl = u2.isl ∧ u3.dt = u2.dt := ⟨rfl, rfl, rfl⟩
  clear_value u3
  have h4 : u4.reg (R.ISL_TEL_VDS n) = u3.reg (R.ISL_TEL_VDS n) ∧ u4.isl = u3.isl ∧ u4.dt = u3.dt :=
    ⟨calCap_only n mv at_ u3 _ (telVds_fresh hn (by decide)), (alter_calCap ..).isl rfl, (alter_calCap ..).dt rfl⟩
  clear_value u4
  have h5 : u5.reg (R.ISL_TEL_VDS n) = u4.reg (R.ISL_TEL_VDS n) ∧ u5.isl = u4.isl ∧ u5.dt = u4.dt := by
    unfold u5
    split
    · exact ⟨xfPush_only _ _ u4 _ (telVds_fresh hn (by decide)), (alter_xfPush ..).isl rfl, (alter_xfPush ..).dt rfl⟩
    · exact ⟨rfl, rfl, rfl⟩
  clear_value u5
  obtain ⟨r1, d1⟩ := h1
  obtain ⟨r2, v2, d2⟩ := h2
  obtain ⟨r3, i3, d3⟩ := h3
  obtain ⟨r4, i4, d4⟩ := h4
  obtain ⟨r5, i5, d5⟩ := h5
  refine ⟨?_, ?_, ?_⟩
  · rw [chopReport_telVds hn, r5, r4, r3, r2, r1]
  · rw [chopReport_vds, State.islOf_of_isl i5, State.islOf_of_isl i4, State.islOf_of_isl i3, v2]
  · rw [(alter_chopReport ..).dt rfl, d5, d4, d3, d2, d1]

theorem vdsReport_eq (n code : Nat) (s : State) (hl : linkUp s n = true) (hen : s.bit (R.ISL_CFG n) F.ISL_CFG.VDS_EN = true) :
    vdsReport n code s =
      let at_ := sampleInstant s n
      let u := (s.until (at_ + 20)).setFld (R.ISL_TEL_VDS n) F.ISL_TEL_VDS.STAMP at_
      if pulseShort u n at_ then
        chopReport n 0 false false ((u.setBit (R.ISL_TEL_VDS n) F.ISL_TEL_VDS.NO_SAMPLE true).setBit (R.ISL_TEL_VDS n)
          F.ISL_TEL_VDS.NTC_INV (ntcInvalid u n))
      else vdsFollows n at_ (vdsMv u n code) (!u.bit (R.ISL_VDS_CAL n) F.ISL_VDS_CAL.VALID) (ntcInvalid u n) (code == 4095)
        (vdsWords n (vdsMv u n code) (!u.bit (R.ISL_VDS_CAL n) F.ISL_VDS_CAL.VALID) (ntcInvalid u n) (code == 4095) u) := by
  have h1 : linkUp (s.until (sampleInstant s n + 20)) n = true := hl
  have h2 : (s.until (sampleInstant s n + 20)).bit (R.ISL_CFG n) F.ISL_CFG.VDS_EN = true := hen
  unfold vdsReport
  dsimp only
  rw [if_neg (by rw [h1, h2]; decide)]
  rfl

theorem pulseShort_congr {n k : Nat} {s t : State} (hr : t.reg (R.ISL_STAT n) = s.reg (R.ISL_STAT n)) (hi : t.isl = s.isl) (hn : n < 64) :
    pulseShort t n k = pulseShort s n k := by
  unfold pulseShort gateOn
  rw [if_neg (by omega), if_neg (by omega), State.bit_of_reg hr, State.islOf_of_isl hi]

theorem vdsReport_shows (e : Nat) (n : Fin 48) (code : BitVec 12) (s : State) (hl : linkUp s n = true)
    (hen : s.bit (R.ISL_CFG n) F.ISL_CFG.VDS_EN = true) :
     Answers (.islVdsReport e n code) s fun t =>
       t.fld (R.ISL_TEL_VDS n) F.ISL_TEL_VDS.STAMP = sampleInstant s n % 2 ^ F.ISL_TEL_VDS.STAMP.width ∧
       (s.d0 = true → t.dt = max (s.dt + e) (sampleInstant s n + 20)) ∧
       t.bit (R.ISL_TEL_VDS n) F.ISL_TEL_VDS.NO_SAMPLE = pulseShort s n (sampleInstant s n) ∧
       (pulseShort s n (sampleInstant s n) = false → t.bit (R.ISL_TEL_VDS n) F.ISL_TEL_VDS.RANGE = (code ==
       4095#12) ∧ t.bit (R.ISL_TEL_VDS n) F.ISL_TEL_VDS.UNCAL = !s.bit (R.ISL_VDS_CAL n) F.ISL_VDS_CAL.VALID ∧
       (t.islOf n).vdsRun = (code == 4095#12)) := by
  refine .of_next (t := vdsReport n code.toNat (s.tick e)) rfl ?_
  have hi : sampleInstant (s.tick e) n = sampleInstant s n := rfl
  rw [vdsReport_eq n code.toNat (s.tick e) hl hen, hi]
  dsimp only
  generalize hk : sampleInstant s n = k
  have hd : s.d0 = true → ((s.tick e).until (k + 20)).dt = max (s.dt + e) (k + 20) := fun hd => State.until_dt hd e _
  have hr : ((s.tick e).until (k + 20)).regs = s.regs ∧ ((s.tick e).until (k + 20)).isl = s.isl := ⟨rfl, rfl⟩
  generalize (s.tick e).until (k + 20) = u at *
  obtain ⟨hr, hisl⟩ := hr
  have hreg := Alter.reg_of_regs hr
  have hcode : (code.toNat == 4095) = (code == 4095#12) := by
    rw [Bool.eq_iff_iff, beq_iff_eq, beq_iff_eq]
    exact ⟨fun h => BitVec.eq_of_toNat_eq h, fun h => by rw [h]; rfl⟩
  have hv : ∀ i, i ≠ R.ISL_TEL_VDS n → (u.setFld (R.ISL_TEL_VDS n) F.ISL_TEL_VDS.STAMP k).reg i = s.reg i := fun i h =>
    (State.reg_setFld_ne _ _ _ h).trans (hreg i)
  have hst : (u.setFld (R.ISL_TEL_VDS n) F.ISL_TEL_VDS.STAMP k).fld (R.ISL_TEL_VDS n) F.ISL_TEL_VDS.STAMP =
      k % 2 ^ F.ISL_TEL_VDS.STAMP.width := State.fld_setFld_eq _ (by decide)
  have hvi : (u.setFld (R.ISL_TEL_VDS n) F.ISL_TEL_VDS.STAMP k).isl = s.isl := (State.setFld_isl ..).trans hisl
  have hvd : (u.setFld (R.ISL_TEL_VDS n) F.ISL_TEL_VDS.STAMP k).dt = u.dt := State.setFld_dt ..
  generalize u.setFld (R.ISL_TEL_VDS n) F.ISL_TEL_VDS.STAMP k = v at *
  have hne : R.ISL_STAT n ≠ R.ISL_TEL_VDS n ∧ R.ISL_VDS_CAL n ≠ R.ISL_TEL_VDS n := by
    unfold R.ISL_STAT R.ISL_TEL_VDS R.ISL_VDS_CAL
    omega
  rw [pulseShort_congr (hv _ hne.1) hvi (by omega), State.bit_of_reg (hv _ hne.2), hcode]
  by_cases hp : pulseShort s n k = true
  · rw [if_pos hp]
    have hc := chopReport_telVds n.isLt n 0 false false ((v.setBit (R.ISL_TEL_VDS n) F.ISL_TEL_VDS.NO_SAMPLE true).setBit (R.ISL_TEL_VDS n)
      F.ISL_TEL_VDS.NTC_INV (ntcInvalid v n))
    refine ⟨?_, ?_, ?_, fun h => absurd hp (by rw [h]; decide)⟩
    · rw [State.fld_of_reg hc, State.fld_setBit_beside _ (by decide), State.fld_setBit_beside _ (by decide), hst]
    · intro h0
      rw [(alter_chopReport ..).dt rfl, State.setBit_dt, State.setBit_dt, hvd, hd h0]
    · rw [State.bit_of_reg hc, State.bit_setBit_beside _ (by decide), State.bit_setBit_eq _ (by decide), hp]
  · rw [if_neg hp]
    have hw := vdsWords_shows n (vdsMv v n code.toNat) (!s.bit (R.ISL_VDS_CAL n) F.ISL_VDS_CAL.VALID) (ntcInvalid v n) (code == 4095#12) v
    generalize vdsWords n (vdsMv v n code.toNat) (!s.bit (R.ISL_VDS_CAL n) F.ISL_VDS_CAL.VALID) (ntcInvalid v n) (code == 4095#12) v = w at *
    obtain ⟨w1, w2, w3, w4, w5, w6⟩ := hw
    obtain ⟨f1, f2, f3⟩ := vdsFollows_keeps n.isLt k (vdsMv v n code.toNat) (!s.bit (R.ISL_VDS_CAL n) F.ISL_VDS_CAL.VALID) (ntcInvalid v n)
      (code == 4095#12) w
    refine ⟨by rw [State.fld_of_reg f1, w1, hst], fun h0 => by rw [f3, w6, hvd, hd h0], ?_, fun _ => ⟨?_, ?_, f2⟩⟩
    · rw [State.bit_of_reg f1, w2, Bool.eq_false_iff.mpr hp]
    · rw [State.bit_of_reg f1, w3]
    · rw [State.bit_of_reg f1, w4]

/-- The words of an environment report. -/
def envWords (n vdd vee : Nat) (opn sht : Bool) (s : State) : State :=
  let i := R.ISL_TEL_ENV n
  let s := (s.setFld i F.ISL_TEL_ENV.VDD vdd).setFld i F.ISL_TEL_ENV.VEE vee
  (s.setBit i F.ISL_TEL_ENV.NTC_OPEN opn).setBit i F.ISL_TEL_ENV.NTC_SHORT sht

theorem envWords_shows (n vdd vee : Nat) (opn sht : Bool) (s : State) :
    let t := envWords n vdd vee opn sht s
    t.fld (R.ISL_TEL_ENV n) F.ISL_TEL_ENV.VDD = vdd % 2 ^ F.ISL_TEL_ENV.VDD.width ∧
    t.fld (R.ISL_TEL_ENV n) F.ISL_TEL_ENV.VEE = vee % 2 ^ F.ISL_TEL_ENV.VEE.width ∧
    t.bit (R.ISL_TEL_ENV n) F.ISL_TEL_ENV.NTC_OPEN = opn ∧ t.bit (R.ISL_TEL_ENV n) F.ISL_TEL_ENV.NTC_SHORT = sht := by
  intro t
  unfold t envWords
  refine ⟨?_, ?_, ?_, State.bit_setBit_eq _ (by decide)⟩
  · rw [State.fld_setBit_beside _ (by decide), State.fld_setBit_beside _ (by decide), State.fld_setFld_beside _ (by decide),
      State.fld_setFld_eq _ (by decide)]
  · rw [State.fld_setBit_beside _ (by decide), State.fld_setBit_beside _ (by decide), State.fld_setFld_eq _ (by decide)]
  · rw [State.bit_setBit_beside _ (by decide), State.bit_setBit_eq _ (by decide)]

/-- What an environment report leaves of its own words as they stand: all but the temperature. -/
structure EnvKept (n : Nat) (s t : State) : Prop where
  vdd : t.fld (R.ISL_TEL_ENV n) F.ISL_TEL_ENV.VDD = s.fld (R.ISL_TEL_ENV n) F.ISL_TEL_ENV.VDD
  vee : t.fld (R.ISL_TEL_ENV n) F.ISL_TEL_ENV.VEE = s.fld (R.ISL_TEL_ENV n) F.ISL_TEL_ENV.VEE
  opn : t.bit (R.ISL_TEL_ENV n) F.ISL_TEL_ENV.NTC_OPEN = s.bit (R.ISL_TEL_ENV n) F.ISL_TEL_ENV.NTC_OPEN
  sht : t.bit (R.ISL_TEL_ENV n) F.ISL_TEL_ENV.NTC_SHORT = s.bit (R.ISL_TEL_ENV n) F.ISL_TEL_ENV.NTC_SHORT

theorem EnvKept.of_reg {n : Nat} {s t : State} (h : t.reg (R.ISL_TEL_ENV n) = s.reg (R.ISL_TEL_ENV n)) : EnvKept n s t :=
  ⟨State.fld_of_reg h _, State.fld_of_reg h _, State.bit_of_reg h _, State.bit_of_reg h _⟩

theorem EnvKept.trans {n : Nat} {s t u : State} (h : EnvKept n s t) (k : EnvKept n t u) : EnvKept n s u :=
  ⟨k.vdd.trans h.vdd, k.vee.trans h.vee, k.opn.trans h.opn, k.sht.trans h.sht⟩

theorem telEnv_fresh {n : Nat} (hn : n < 48) {l : List Nat} (h : ∀ j ∈ l, j < 0x400 ∨ 0x700 ≤ j) : R.ISL_TEL_ENV n ∉ l :=
  fun hm => by
    have := h _ hm
    unfold R.ISL_TEL_ENV at this
    omega

/-- What follows the words of an environment report. -/
def envFollows (n code vdd vee : Nat) (en opn sht was : Bool) (s : State) : State :=
  let s := if opn || sht then
      let s' := s.setBit (R.ISL_FLAGS n) F.ISL_FLAGS.NTC_FAULT true
      if was then s' else s'.raise EV.ISL_NTC n []
    else if en then s.setSfld (R.ISL_TEL_ENV n) F.ISL_TEL_ENV.NTC_T (envTemp s n code)
    else s
  let x := s.estOf n
  let s := if 8 < (ntcT s n - x.ref).natAbs ∨ ntcInvalid s n then s.setEst n { x with ref := ntcT s n, since := s.dt } else s
  let s := match AMap.get? s.meas.islQ n with
    | some q =>
      let ent := fun (c v : Nat) (ql : Bool) => (q, ({ stamp := s.dt, chan := c, sample := v, seq := n, qual := ql } : QEnt))
      xfPush (9 * 64 + n) [ent 0x75 (unsx 16 (ntcT s n)) (opn || sht), ent 0x76 vdd false, ent 0x77 (unsx 16 (sx 12 vee)) false] s
    | none => s
  tjFromNtc n s

theorem envFollows_keeps {n : Nat} (hn : n < 48) (code vdd vee : Nat) (en opn sht was : Bool) (s : State) :
    EnvKept n s (envFollows n code vdd vee en opn sht was s) := by
  unfold envFollows
  extract_lets u0 u1 x u2 u3
  have h1 : EnvKept n s u1 := by
    have hf : R.ISL_TEL_ENV n ≠ R.ISL_FLAGS n := by
      unfold R.ISL_TEL_ENV R.ISL_FLAGS
      omega
    unfold u1 u0
    split
    · split
      · exact .of_reg (State.reg_setBit_ne _ _ _ hf)
      · exact .of_reg ((State.raise_reg _ _ _ _ _ (telEnv_fresh hn (by decide))).trans (State.reg_setBit_ne _ _ _ hf))
    · split
      · unfold State.setSfld
        exact ⟨State.fld_setFld_beside _ (by decide), State.fld_setFld_beside _ (by decide), State.bit_setFld_beside _ (by decide),
          State.bit_setFld_beside _ (by decide)⟩
      · exact .of_reg rfl
  clear_value u1
  have h2 : u2.reg (R.ISL_TEL_ENV n) = u1.reg (R.ISL_TEL_ENV n) := by
    unfold u2
    split <;> rfl
  clear_value u2
  have h3 : u3.reg (R.ISL_TEL_ENV n) = u2.reg (R.ISL_TEL_ENV n) := by
    unfold u3
    split
    · exact xfPush_only _ _ u2 _ (telEnv_fresh hn (by decide))
    · rfl
  clear_value u3
  have h4 : (tjFromNtc n u3).reg (R.ISL_TEL_ENV n) = u3.reg (R.ISL_TEL_ENV n) := tjFromNtc_only n u3 _ fun hm => by
    unfold lifeRegs at hm
    rcases List.mem_append.mp hm with h | h
    · exact telEnv_fresh hn (by decide) h
    · simp only [List.mem_cons, List.not_mem_nil, or_false, R.ISL_TEL_ENV, R.LIFE_I_TJ, R.LIFE_I_DMG, R.LIFE_FLAGS] at h
      omega
  exact h1.trans (.of_reg ((h4.trans h3).trans h2))

theorem envReport_eq (n code vdd vee : Nat) (s : State) (hl : linkUp s n = true) :
    envReport n code vdd vee s =
      let en := s.bit (R.ISL_CFG n) F.ISL_CFG.NTC_EN
      let opn := en && decide (4080 ≤ code)
      let sht := en && decide (code ≤ 16)
      envFollows n code vdd vee en opn sht
        (s.bit (R.ISL_TEL_ENV n) F.ISL_TEL_ENV.NTC_OPEN || s.bit (R.ISL_TEL_ENV n) F.ISL_TEL_ENV.NTC_SHORT)
        (envWords n vdd vee opn sht s) := by
  unfold envReport
  rw [if_neg (by rw [hl]; decide)]
  rfl

theorem envReport_shows (e : Nat) (n : Fin 48) (code vdd vee : BitVec 12) (s : State) (hl : linkUp s n = true) :
     Answers (.islEnvReport e n code vdd vee) s fun t =>
       t.fld (R.ISL_TEL_ENV n) F.ISL_TEL_ENV.VDD = vdd.toNat ∧ t.fld (R.ISL_TEL_ENV n) F.ISL_TEL_ENV.VEE = vee.toNat ∧
       t.bit (R.ISL_TEL_ENV n) F.ISL_TEL_ENV.NTC_OPEN =
         (s.bit (R.ISL_CFG n) F.ISL_CFG.NTC_EN && decide (4080 ≤ code.toNat)) ∧
       t.bit (R.ISL_TEL_ENV n) F.ISL_TEL_ENV.NTC_SHORT =
         (s.bit (R.ISL_CFG n) F.ISL_CFG.NTC_EN && decide (code.toNat ≤ 16)) ∧ Passes e s t := by
  refine .of_next (t := envReport n code.toNat vdd.toNat vee.toNat (s.tick e)) rfl ?_
  have ha := alter_envReport n code.toNat vdd.toNat vee.toNat (s.tick e)
  revert ha
  rw [envReport_eq n _ _ _ (s.tick e) hl]
  dsimp only
  have hen : (s.tick e).bit (R.ISL_CFG n) F.ISL_CFG.NTC_EN = s.bit (R.ISL_CFG n) F.ISL_CFG.NTC_EN := rfl
  rw [hen]
  intro ha
  obtain ⟨w1, w2, w3, w4⟩ := envWords_shows n vdd.toNat vee.toNat (s.bit (R.ISL_CFG n) F.ISL_CFG.NTC_EN && decide (4080 ≤ code.toNat))
    (s.bit (R.ISL_CFG n) F.ISL_CFG.NTC_EN && decide (code.toNat ≤ 16)) (s.tick e)
  have hk := envFollows_keeps n.isLt code.toNat vdd.toNat vee.toNat (s.bit (R.ISL_CFG n) F.ISL_CFG.NTC_EN)
    (s.bit (R.ISL_CFG n) F.ISL_CFG.NTC_EN && decide (4080 ≤ code.toNat)) (s.bit (R.ISL_CFG n) F.ISL_CFG.NTC_EN && decide (code.toNat ≤ 16))
    ((s.tick e).bit (R.ISL_TEL_ENV n) F.ISL_TEL_ENV.NTC_OPEN || (s.tick e).bit (R.ISL_TEL_ENV n) F.ISL_TEL_ENV.NTC_SHORT)
    (envWords n vdd.toNat vee.toNat (s.bit (R.ISL_CFG n) F.ISL_CFG.NTC_EN && decide (4080 ≤ code.toNat))
      (s.bit (R.ISL_CFG n) F.ISL_CFG.NTC_EN && decide (code.toNat ≤ 16)) (s.tick e))
  refine ⟨?_, ?_, hk.opn.trans w3, hk.sht.trans w4, passes_of_tick (ha.el rfl) (ha.dt rfl)⟩
  · rw [hk.vdd, w1]
    exact Nat.mod_eq_of_lt vdd.isLt
  · rw [hk.vee, w2]
    exact Nat.mod_eq_of_lt vee.isLt

theorem envReport_silent (e : Nat) (n : Fin 48) (code vdd vee : BitVec 12) (s : State) (hl : linkUp s n = false) :
    Answers (.islEnvReport e n code vdd vee) s fun t => t = s.tick e := by
  refine .of_next (t := envReport n code.toNat vdd.toNat vee.toNat (s.tick e)) rfl ?_
  have h : linkUp (s.tick e) n = false := hl
  unfold envReport
  rw [if_pos (by rw [h]; rfl)]

/-! ### The mirror -/

/-- The record that a mirror begun now writes. -/
def mirrorRec (kind : Nat) (s : State) : LifeRec :=
  { gen := s.life.gen + 1, kind := kind, tick := s.dt, rtc := s.rtc, isl := s.life.isl, curve := s.life.curve, weight := s.life.weight }

/-- What a mirror's beginning leaves. -/
structure MirrorBegun (kind : Nat) (s t : State) : Prop where
  busy : t.bit R.LIFE_STAT F.LIFE_STAT.BUSY = true
  life : t.life = { s.life with pend := some (mirrorRec kind s) }
  only : OnlyRegs [R.LIFE_STAT] s t
  beside : Alter (2 ^ 67 ||| 2 ^ 102) s t

theorem mirrorStart_begun (kind : Nat) (s : State) : MirrorBegun kind s (mirrorStart kind s) := by
  have hs : mirrorStart kind s = ({ s with life := { s.life with pend := some (mirrorRec kind s) } } : State).setBit R.LIFE_STAT
      F.LIFE_STAT.BUSY true := rfl
  have ha : Alter (2 ^ 67 ||| 2 ^ 102) s (mirrorStart kind s) := (alter_mirrorStart kind s).mono rfl
  revert ha
  rw [hs]
  generalize hu : ({ s with life := { s.life with pend := some (mirrorRec kind s) } } : State) = u
  intro ha
  have hr : u.regs = s.regs ∧ u.life = { s.life with pend := some (mirrorRec kind s) } := by
    rw [← hu]
    exact ⟨rfl, rfl⟩
  exact ⟨State.bit_setBit_eq _ (by decide), (State.setBit_life ..).trans hr.2,
    (OnlyRegs.of_regs hr.1).setBit _ _ (List.mem_singleton.mpr rfl), ha⟩

theorem Alter.lifePatch {s t : State} (a : Alter (2 ^ 65 ||| 2 ^ 66 ||| 2 ^ 67 ||| 2 ^ 102) s t) :
    t = { s with el := t.el, dt := t.dt, regs := t.regs, life := t.life } := a.eq_patch

/-- The next 10-minute point is one further on. -/
def mirrorNext (s : State) : State := { s with life := { s.life with next := s.life.next + 120000000000 } }

theorem mirrorNext_keeps (s : State) : (mirrorNext s).life = { s.life with next := s.life.next + 120000000000 } ∧
    (mirrorNext s).regs = s.regs ∧ (mirrorNext s).dt = s.dt ∧ (mirrorNext s).rtc = s.rtc := ⟨rfl, rfl, rfl, rfl⟩

theorem lifeMirror_starts (e : Nat) (s : State) (hp : s.life.pend = none) :
     Answers (.lifeMirror e) s fun t =>
       t.bit R.LIFE_STAT F.LIFE_STAT.BUSY = true ∧ t.life.next = s.life.next + 120000000000 ∧
       (s.d0 = true → t.dt = max (s.dt + e) s.life.next) ∧
       t.life.pend = some { gen := s.life.gen + 1, kind := 1, tick := t.dt, rtc := t.rtc, isl := s.life.isl, curve := s.life.curve, weight := s.life.weight } ∧
       OnlyRegs [R.LIFE_STAT] s t ∧ t = { s with el := t.el, dt := t.dt, regs := t.regs, life := t.life } := by
  refine .of_next (t := lifeMirror (s.tick e)) rfl ?_
  have ha : Alter (2 ^ 65 ||| 2 ^ 66 ||| 2 ^ 67 ||| 2 ^ 102) s (lifeMirror (s.tick e)) :=
    ((alter_tick e s).mono rfl).and ((alter_lifeMirror _).mono rfl)
  have heq : lifeMirror (s.tick e) = if mirrorBusy (mirrorNext ((s.tick e).until s.life.next)) then
      mirrorNext ((s.tick e).until s.life.next) else mirrorStart 1 (mirrorNext ((s.tick e).until s.life.next)) := rfl
  revert ha
  rw [heq]
  have hd : s.d0 = true → ((s.tick e).until s.life.next).dt = max (s.dt + e) s.life.next := fun h => State.until_dt h e _
  have hl : ((s.tick e).until s.life.next).life = s.life ∧ ((s.tick e).until s.life.next).regs = s.regs := ⟨rfl, rfl⟩
  generalize (s.tick e).until s.life.next = u at *
  obtain ⟨hl, hr⟩ := hl
  obtain ⟨n1, n2, n3, -⟩ := mirrorNext_keeps u
  generalize mirrorNext u = v at *
  have hb : mirrorBusy v = false := by
    unfold mirrorBusy
    rw [n1, hl, hp]
    rfl
  rw [if_neg (by rw [hb]; decide)]
  have hm := mirrorStart_begun 1 v
  generalize mirrorStart 1 v = t at *
  intro ha
  have htd : t.dt = v.dt := hm.beside.dt rfl
  have htr : t.rtc = v.rtc := by
    unfold State.rtc
    rw [State.fld_of_reg (hm.only R.DEV_RTC (by decide)), hm.beside.el rfl, hm.beside.boot rfl]
  refine ⟨hm.busy, by rw [hm.life, n1, hl], fun h => by rw [htd, n3, hd h], ?_,
    (OnlyRegs.of_regs (n2.trans hr)).trans hm.only, ha.lifePatch⟩
  rw [hm.life, htd, htr]
  unfold mirrorRec
  rw [n1, hl]

/-- The mirror being written is given up. -/
def mirrorFree (s : State) : State := { s with life := { s.life with pend := none } }

/-- The record written stands in its slot. -/
def mirrorKeep (r : LifeRec) (s : State) : State :=
  { s with life := { s.life with gen := r.gen, slots := AMap.ins s.life.slots (r.gen % 16) r, doneAt := some s.el } }

theorem mirrorDone_eq (ok : Bool) {r : LifeRec} {s : State} (h : s.life.pend = some r) :
    mirrorDone ok s =
      let u := (mirrorFree s).setBit R.LIFE_STAT F.LIFE_STAT.BUSY false
      if ok && !(u.bit (R.STO_DEV 0) F.STO_DEV.FAILED && u.bit (R.STO_DEV 1) F.STO_DEV.FAILED) then
        ((mirrorKeep r u).setFld R.LIFE_STAT F.LIFE_STAT.GEN r.gen).setBit R.LIFE_STAT F.LIFE_STAT.STORE_OK true
      else (lifeFlag F.LIFE_FLAGS.MIRROR_FAIL u).raise EV.LIFE_MIRROR_FAIL 0xFF [] := by
  unfold mirrorDone
  rw [h]
  rfl

/-- What a mirror's end leaves before it is judged. -/
theorem mirrorFreed (s : State) : let u := (mirrorFree s).setBit R.LIFE_STAT F.LIFE_STAT.BUSY false
    u.bit R.LIFE_STAT F.LIFE_STAT.BUSY = false ∧ u.life = { s.life with pend := none } ∧ OnlyRegs [R.LIFE_STAT] s u ∧
    u.el = s.el ∧ u.ev = s.ev ∧ u.boot = s.boot := by
  have hf : (mirrorFree s).regs = s.regs ∧ (mirrorFree s).life = { s.life with pend := none } ∧ (mirrorFree s).el = s.el ∧
      (mirrorFree s).ev = s.ev ∧ (mirrorFree s).boot = s.boot := ⟨rfl, rfl, rfl, rfl, rfl⟩
  generalize mirrorFree s = f at *
  obtain ⟨f1, f2, f3, f4, f5⟩ := hf
  exact ⟨State.bit_setBit_eq _ (by decide), (State.setBit_life ..).trans f2,
    (OnlyRegs.of_regs f1).setBit _ _ (List.mem_singleton.mpr rfl), (State.setBit_el ..).trans f3, (State.setBit_ev ..).trans f4,
    (State.setBit_boot ..).trans f5⟩

theorem mirrorKeep_keeps (r : LifeRec) (s : State) : (mirrorKeep r s).regs = s.regs ∧ (mirrorKeep r s).el = s.el ∧
    (mirrorKeep r s).life = { s.life with gen := r.gen, slots := AMap.ins s.life.slots (r.gen % 16) r, doneAt := some s.el } :=
  ⟨rfl, rfl, rfl⟩

theorem mirrorEnd_idle (ok : Bool) {s : State} (h : (mirrorDone ok s).trans = none) : mirrorEnd ok s = mirrorDone ok s := by
  unfold mirrorEnd
  dsimp only
  rw [h]

theorem mirrorDone_trans (ok : Bool) (s : State) : (mirrorDone ok s).trans = s.trans := (alter_mirrorDone ..).trans rfl

theorem mirrorComplete_stores (e : Nat) (r : LifeRec) (s : State) (hp : s.life.pend = some r) (ht : s.trans = none)
    (hw : s.bit (R.STO_DEV 0) F.STO_DEV.FAILED = false ∨ s.bit (R.STO_DEV 1) F.STO_DEV.FAILED = false) :
     Answers (.mirrorComplete e true) s fun t =>
       t.bit R.LIFE_STAT F.LIFE_STAT.BUSY = false ∧ t.bit R.LIFE_STAT F.LIFE_STAT.STORE_OK = true ∧
       t.fld R.LIFE_STAT F.LIFE_STAT.GEN = r.gen % 2 ^ F.LIFE_STAT.GEN.width ∧ t.life.pend = none ∧
       AMap.get? t.life.slots (r.gen % 16) = some r ∧ t.life.doneAt = some t.el ∧ OnlyRegs [R.LIFE_STAT] s t ∧
       t = { s with el := t.el, dt := t.dt, regs := t.regs, life := t.life } := by
  refine .of_next (t := mirrorEnd true (s.tick e)) rfl ?_
  rw [mirrorEnd_idle true (by rw [mirrorDone_trans]; exact ht)]
  obtain ⟨u1, u2, u3, -, -, -⟩ := mirrorFreed (s.tick e)
  have hua : Alter (2 ^ 65 ||| 2 ^ 66 ||| 2 ^ 67 ||| 2 ^ 102) s ((mirrorFree (s.tick e)).setBit R.LIFE_STAT F.LIFE_STAT.BUSY false) := by
    have hm : Alter (2 ^ 102) (s.tick e) (mirrorFree (s.tick e)) := alter_life ..
    exact (((alter_tick e s).mono rfl).and (hm.mono rfl)).and ((alter_setBit ..).mono (rm_high (by decide) rfl))
  rw [mirrorDone_eq true (r := r) (s := s.tick e) hp]
  dsimp only
  generalize (mirrorFree (s.tick e)).setBit R.LIFE_STAT F.LIFE_STAT.BUSY false = u at *
  have hd : ∀ k, (u.reg (R.STO_DEV k)) = s.reg (R.STO_DEV k) := fun k => u3 _ (by
    simp only [List.mem_singleton, R.STO_DEV, R.LIFE_STAT]
    omega)
  rw [if_pos (by
    rw [State.bit_of_reg (hd 0), State.bit_of_reg (hd 1)]
    rcases hw with h | h <;> rw [h] <;> simp)]
  obtain ⟨k1, k2, k3⟩ := mirrorKeep_keeps r u
  have hka : Alter (2 ^ 65 ||| 2 ^ 66 ||| 2 ^ 67 ||| 2 ^ 102) s (mirrorKeep r u) := hua.and ((alter_life ..).mono rfl)
  generalize mirrorKeep r u = v at *
  have hlife : ((v.setFld R.LIFE_STAT F.LIFE_STAT.GEN r.gen).setBit R.LIFE_STAT F.LIFE_STAT.STORE_OK true).life = v.life :=
    (State.setBit_life ..).trans (State.setFld_life ..)
  refine ⟨?_, State.bit_setBit_eq _ (by decide), ?_, ?_, ?_, ?_, ?_, ?_⟩
  · rw [State.bit_setBit_beside _ (by decide), State.bit_setFld_beside _ (by decide), State.bit_of_reg (Alter.reg_of_regs k1 _), u1]
  · rw [State.fld_setBit_beside _ (by decide), State.fld_setFld_eq _ (by decide)]
  · rw [hlife, k3, u2]
  · rw [hlife, k3]
    exact AMap.get?_ins_same _ _ _
  · rw [hlife, k3, State.setBit_el, State.setFld_el, k2]
  · exact (((OnlyRegs.tick e s).trans u3).congr k1 |>.setFld _ _ (by simp)).setBit _ _ (by simp)
  · exact ((hka.and ((alter_setFld ..).mono (rm_high (by decide) rfl))).and ((alter_setBit ..).mono (rm_high (by decide) rfl))).lifePatch

theorem mirrorComplete_fails (e : Nat) (r : LifeRec) (s : State) (hp : s.life.pend = some r) (ht : s.trans = none) :
     Answers (.mirrorComplete e false) s fun t =>
       t.bit R.LIFE_STAT F.LIFE_STAT.BUSY = false ∧ t.bit R.LIFE_FLAGS F.LIFE_FLAGS.MIRROR_FAIL = true ∧
       t.life = { s.life with pend := none } ∧
       (LogReady s → Logs EV.LIFE_MIRROR_FAIL 0xFF s t) := by
  refine .of_next (t := mirrorEnd false (s.tick e)) rfl ?_
  rw [mirrorEnd_idle false (by rw [mirrorDone_trans]; exact ht)]
  obtain ⟨u1, u2, -, -, u5, u6⟩ := mirrorFreed (s.tick e)
  rw [mirrorDone_eq false (r := r) (s := s.tick e) hp]
  dsimp only
  generalize (mirrorFree (s.tick e)).setBit R.LIFE_STAT F.LIFE_STAT.BUSY false = u at *
  rw [if_neg (by simp)]
  unfold lifeFlag
  refine ⟨?_, ?_, ?_, fun hl => ?_⟩
  · rw [State.bit_raise _ _ _ (by decide), State.bit_setBit_ne _ (by decide), u1]
  · rw [State.bit_raise _ _ _ (by decide), State.bit_setBit_eq _ (by decide)]
  · rw [(alter_raise ..).life rfl, State.setBit_life, u2]
    rfl
  · have he : (u.setBit R.LIFE_FLAGS F.LIFE_FLAGS.MIRROR_FAIL true).ev = s.ev := (State.setBit_ev ..).trans u5
    exact (State.raise_logs _ _ _ _ (hl.congr ((State.setBit_boot ..).trans u6) he)).of_ev he

/-- A transition's mirror is asked for. -/
def mirrorAsked (x : Trans) (s : State) : State := { s with trans := some { x with mir := 2 } }

theorem mirrorComplete_asks (e : Nat) (ok : Bool) (r : LifeRec) (x : Trans) (s : State) (_hp : s.life.pend = some r)
    (ht : s.trans = some x) (hm : x.mir = 1) :
     Answers (.mirrorComplete e ok) s fun t =>
       t.trans = some { x with mir := 2 } ∧ t.bit R.LIFE_STAT F.LIFE_STAT.BUSY = true ∧
       t.life.pend.map (·.kind) = some 2 := by
  refine .of_next (t := mirrorEnd ok (s.tick e)) rfl ?_
  have hd : (mirrorDone ok (s.tick e)).trans = some x := (mirrorDone_trans ok _).trans ht
  have heq : mirrorEnd ok (s.tick e) = mirrorStart 2 (mirrorAsked x (mirrorDone ok (s.tick e))) := by
    unfold mirrorEnd
    dsimp only
    rw [hd]
    dsimp only
    rw [if_pos hm]
    rfl
  rw [heq]
  have hk : (mirrorAsked x (mirrorDone ok (s.tick e))).trans = some { x with mir := 2 } := rfl
  generalize mirrorAsked x (mirrorDone ok (s.tick e)) = u at *
  have hb := mirrorStart_begun 2 u
  exact ⟨(hb.beside.trans rfl).trans hk, hb.busy, by rw [hb.life]; rfl⟩

/-- Settles O33: of an island's reports only the words of its own telemetry are judged; a chopper's verdict that may follow writes none
of them and leaves the mark of the range. -/
theorem lifetimeTracked : Obligations.LifetimeTracked := by
  unfold Obligations.LifetimeTracked
  exact ⟨tjInvalid_shows, tjInvalid_disabled, vdsReport_shows, envReport_shows, envReport_silent, lifeMirror_starts,
    mirrorComplete_stores, mirrorComplete_fails, mirrorComplete_asks⟩

end Sys2Proof.Machine
end

section
/-! SUPPORT. The actuators: what entering a state leaves, and a field's bits one by one. -/

namespace Sys2Proof.Machine

set_option Elab.async false

/-! ### Records and bits -/

section
variable {s t : State} {i k j : Nat} {f g : Fld}

theorem State.actOf_setAct (a : Nat) (x : ActSt) (s : State) : (s.setAct a x).actOf a = x := AMap.getD_put_same _ _ _ _

theorem State.actOf_of_act (h : t.act = s.act) (a : Nat) : t.actOf a = s.actOf a := by
  unfold State.actOf
  rw [h]

theorem State.islOf_setIsl (g : Nat) (x : Isl) (s : State) : (s.setIsl g x).islOf g = x := AMap.getD_put_same _ _ _ _

theorem State.islOf_setIsl_ne {g j : Nat} (x : Isl) (s : State) (h : j ≠ g) : (s.setIsl g x).islOf j = s.islOf j :=
  AMap.getD_put_other _ _ _ _ h

theorem testBit_mod_width {n w b : Nat} (h : b < w) : (n % 2 ^ w).testBit b = n.testBit b := by
  rw [Nat.testBit_mod_two_pow, decide_eq_true h, Bool.true_and]

/-- A bit of a field read where it was written. -/
theorem State.bitN_setBitAt (b : Bool) (hf : Fld.Ok f) (hk : k < f.width) : bitN ((s.setBitAt i f k b).fld i f) k = b := by
  unfold State.setBitAt
  rw [State.fld_setFld_eq _ hf]
  unfold bitN
  rw [testBit_mod_width hk]
  cases b with
  | true => simp
  | false => simp [clrBitN_testBit]

/-- Another bit of the field. -/
theorem State.bitN_setBitAt_ne (b : Bool) (hf : Fld.Ok f) (hj : j < f.width) (h : j ≠ k) :
    bitN ((s.setBitAt i f k b).fld i f) j = bitN (s.fld i f) j := by
  unfold State.setBitAt
  rw [State.fld_setFld_eq _ hf]
  unfold bitN
  rw [testBit_mod_width hj]
  cases b with
  | true => simp [Ne.symm h]
  | false => simp [clrBitN_testBit, h]

theorem State.fld_setBitAt_ne (b : Bool) (h : j ≠ i) : (s.setBitAt i f k b).fld j g = s.fld j g := State.fld_setFld_ne _ h

theorem State.fld_setBitAt_beside (b : Bool) (h : Fld.Beside f g) : (s.setBitAt i g k b).fld i f = s.fld i f :=
  State.fld_setFld_beside _ h

theorem State.bit_setBitAt_ne (b : Bool) (h : j ≠ i) : (s.setBitAt i f k b).bit j g = s.bit j g := State.bit_setFld_ne _ h

theorem State.bit_setBitAt_beside (b : Bool) (h : Fld.Beside f g) : (s.setBitAt i g k b).bit i f = s.bit i f :=
  State.bit_setFld_beside _ h

theorem OnlyRegs.setBitAt {l : List Nat} (h : OnlyRegs l s t) (f : Fld) (k : Nat) (b : Bool) (hi : i ∈ l) :
    OnlyRegs l s (t.setBitAt i f k b) := h.setFld _ _ hi

end

/-! ### A state entered (R468 to R474) -/

theorem actSlots_regs (a : Nat) (s : State) : (actSlots a s).regs = s.regs := (alter_actSlots a s).regs rfl

theorem actSlots_act (a : Nat) (s : State) : (actSlots a s).act = s.act := (alter_actSlots a s).act rfl

/-- What an actuator's record keeps as the actuator enters a state. -/
structure ActKept (x y : ActSt) : Prop where
  cnt : y.cnt = x.cnt
  sector : y.sector = x.sector
  errRun : y.errRun = x.errRun
  brakeEnd : y.brakeEnd = x.brakeEnd
  toFault : y.toFault = x.toFault
  phAt : y.phAt = x.phAt
  waitAt : y.waitAt = x.waitAt

theorem ActKept.refl (x : ActSt) : ActKept x x := ⟨rfl, rfl, rfl, rfl, rfl, rfl, rfl⟩

theorem ActKept.trans {x y z : ActSt} (h : ActKept x y) (k : ActKept y z) : ActKept x z :=
  ⟨k.cnt.trans h.cnt, k.sector.trans h.sector, k.errRun.trans h.errRun, k.brakeEnd.trans h.brakeEnd, k.toFault.trans h.toFault,
    k.phAt.trans h.phAt, k.waitAt.trans h.waitAt⟩

/-- What actuator a's entry into the state st leaves. -/
structure ActEntered (a st : Nat) (s t : State) : Prop where
  state : st < 8 → aState t a = st
  phase : t.fld (R.ACT_A_STAT a) F.ACT_A_STAT.START_PH =
    if st = As.moving ∨ st = As.starting then s.fld (R.ACT_A_STAT a) F.ACT_A_STAT.START_PH else 0
  inpos : st ≠ As.moving → st ≠ As.starting → t.bit (R.ACT_A_STAT a) F.ACT_A_STAT.INPOS = s.bit (R.ACT_A_STAT a) F.ACT_A_STAT.INPOS
  attempt : t.fld (R.ACT_A_STAT a) F.ACT_A_STAT.ATTEMPT = s.fld (R.ACT_A_STAT a) F.ACT_A_STAT.ATTEMPT
  why : t.fld (R.ACT_A_STAT a) F.ACT_A_STAT.ABORT_WHY = s.fld (R.ACT_A_STAT a) F.ACT_A_STAT.ABORT_WHY
  record : ActKept (s.actOf a) (t.actOf a)
  since : st ≠ As.moving → (t.actOf a).posSince = (s.actOf a).posSince
  only : OnlyRegs [R.ACT_A_STAT a] s t
  beside : Alter (2 ^ 67 ||| 2 ^ 88 ||| 2 ^ 94 ||| 2 ^ 100) s t

theorem actEnter_enters (a st : Nat) (s : State) : ActEntered a st s (actEnter a st s) := by
  have ha : Alter (2 ^ 67 ||| 2 ^ 88 ||| 2 ^ 94 ||| 2 ^ 100) s (actEnter a st s) := (alter_actEnter a st s).mono rfl
  have hm : R.ACT_A_STAT a ∈ [R.ACT_A_STAT a] := List.mem_singleton.mpr rfl
  revert ha
  unfold actEnter
  extract_lets was u v y w x z q
  intro ha
  have hu : (st < 8 → u.fld (R.ACT_A_STAT a) F.ACT_A_STAT.STATE = st) ∧
      (∀ f, Fld.Beside f F.ACT_A_STAT.STATE → u.fld (R.ACT_A_STAT a) f = s.fld (R.ACT_A_STAT a) f) ∧
      OnlyRegs [R.ACT_A_STAT a] s u ∧ u.act = s.act :=
    ⟨fun h => (State.fld_setFld_eq _ (by decide)).trans (Nat.mod_eq_of_lt h), fun f hf => State.fld_setFld_beside _ hf,
      (OnlyRegs.refl _ s).setFld _ _ hm, State.setFld_act ..⟩
  clear_value u
  have hv : (∀ f, Fld.Beside f F.ACT_A_STAT.INPOS → v.fld (R.ACT_A_STAT a) f = u.fld (R.ACT_A_STAT a) f) ∧
      (st ≠ As.moving → st ≠ As.starting → v = u) ∧ OnlyRegs [R.ACT_A_STAT a] u v ∧ v.act = u.act := by
    unfold v
    split
    · rename_i h
      exact ⟨fun f hf => State.fld_setBit_beside _ hf, fun h1 h2 => absurd h (by simp [h1, h2]),
        (OnlyRegs.refl _ u).setBit _ _ hm, State.setBit_act ..⟩
    · exact ⟨fun _ _ => rfl, fun _ _ => rfl, .refl _ u, rfl⟩
  clear_value v
  have hx : ActKept (s.actOf a) w ∧ w.posSince = (s.actOf a).posSince := by
    have : v.actOf a = s.actOf a := State.actOf_of_act (hv.2.2.2.trans hu.2.2.2) a
    refine ⟨⟨?_, ?_, ?_, ?_, ?_, ?_, ?_⟩, ?_⟩ <;> (unfold w y; rw [this])
  clear_value w
  have hxx : x.regs = v.regs ∧ x.actOf a = w := ⟨State.setAct_regs .., State.actOf_setAct ..⟩
  clear_value x
  have hz : (∀ f, Fld.Beside f F.ACT_A_STAT.START_PH → z.fld (R.ACT_A_STAT a) f = x.fld (R.ACT_A_STAT a) f) ∧
      z.fld (R.ACT_A_STAT a) F.ACT_A_STAT.START_PH =
        (if st = As.moving ∨ st = As.starting then x.fld (R.ACT_A_STAT a) F.ACT_A_STAT.START_PH else 0) ∧
      OnlyRegs [R.ACT_A_STAT a] x z ∧ ActKept w (z.actOf a) ∧ (st ≠ As.moving → (z.actOf a).posSince = w.posSince) := by
    unfold z
    split
    · rename_i h
      rw [if_pos (.inl h)]
      exact ⟨fun f hf => State.fld_of_reg (Alter.reg_of_regs (State.setAct_regs ..) _) _,
        State.fld_of_reg (Alter.reg_of_regs (State.setAct_regs ..) _) _, .of_regs (State.setAct_regs ..), by
          rw [State.actOf_setAct]
          exact ⟨rfl, rfl, rfl, rfl, rfl, rfl, rfl⟩, fun h' => absurd h h'⟩
    · rename_i h
      split
      · rename_i h'
        rw [if_neg (by simp [h, h'])]
        have hk : (x.setFld (R.ACT_A_STAT a) F.ACT_A_STAT.START_PH 0).actOf a = w := (State.actOf_of_act (State.setFld_act ..) a).trans hxx.2
        exact ⟨fun f hf => State.fld_setFld_beside _ hf, State.fld_setFld_eq _ (by decide), (OnlyRegs.refl _ x).setFld _ _ hm,
          by rw [hk]; exact .refl w, fun _ => by rw [hk]⟩
      · rename_i h'
        rw [if_pos (by simp at h'; exact .inr h')]
        exact ⟨fun _ _ => rfl, rfl, .refl _ x, by rw [hxx.2]; exact .refl w, fun _ => by rw [hxx.2]⟩
  clear_value z
  have hq : q.regs = z.regs ∧ ActKept (z.actOf a) (q.actOf a) ∧ (q.actOf a).posSince = (z.actOf a).posSince := by
    unfold q
    split
    · refine ⟨State.setAct_regs .., ?_, ?_⟩
      · unfold actMirror
        dsimp only
        rw [State.actOf_setAct]
        exact ⟨rfl, rfl, rfl, rfl, rfl, rfl, rfl⟩
      · unfold actMirror
        dsimp only
        rw [State.actOf_setAct]
    · exact ⟨rfl, .refl _, rfl⟩
  clear_value q
  obtain ⟨u1, u2, u3, -⟩ := hu
  obtain ⟨v1, v2, v3, -⟩ := hv
  obtain ⟨hxk, hxp⟩ := hx
  obtain ⟨hxr, hxa⟩ := hxx
  obtain ⟨z1, z2, z3, z4, z5⟩ := hz
  obtain ⟨q1, q2, q3⟩ := hq
  have hreg : ∀ i, (actSlots a q).reg i = z.reg i := fun i =>
    (Alter.reg_of_regs (actSlots_regs a q) i).trans (Alter.reg_of_regs q1 i)
  have hact : (actSlots a q).actOf a = q.actOf a := State.actOf_of_act (actSlots_act a q) a
  have hxf : ∀ f, x.fld (R.ACT_A_STAT a) f = v.fld (R.ACT_A_STAT a) f := fun f => State.fld_of_reg (Alter.reg_of_regs hxr _) f
  refine ⟨fun h => ?_, ?_, fun h1 h2 => ?_, ?_, ?_, ?_, fun h => ?_, fun i hi => ?_, ha⟩
  · unfold aState
    rw [State.fld_of_reg (hreg _), z1 _ (by decide), hxf, v1 _ (by decide), u1 h]
  · rw [State.fld_of_reg (hreg _), z2, hxf, v1 _ (by decide), u2 _ (by decide)]
  · unfold State.bit
    rw [State.fld_of_reg (hreg _), z1 _ (by decide), hxf, v2 h1 h2, u2 _ (by decide)]
  · rw [State.fld_of_reg (hreg _), z1 _ (by decide), hxf, v1 _ (by decide), u2 _ (by decide)]
  · rw [State.fld_of_reg (hreg _), z1 _ (by decide), hxf, v1 _ (by decide), u2 _ (by decide)]
  · rw [hact]
    exact (hxk.trans z4).trans q2
  · rw [hact, q3, z5 h, hxp]
  · rw [hreg, z3 i hi, Alter.reg_of_regs hxr, v3 i hi, u3 i hi]

end Sys2Proof.Machine
end

section
/-! SUPPORT. The timers of an actuator's start, move and brake, and the settling of O29 (R468 to R475). -/

namespace Sys2Proof.Machine

set_option Elab.async false

/-- The state at tick d at the earliest, e ticks after s. -/
structure Later (e d : Nat) (s u : State) : Prop where
  regs : u.regs = s.regs
  dt : s.d0 = true → u.dt = max (s.dt + e) d
  beside : Alter (2 ^ 65 ||| 2 ^ 66) s u

theorem until_later (e d : Nat) (s : State) : Later e d s ((s.tick e).until d) :=
  ⟨rfl, fun h => State.until_dt h e d, (alter_tick e s).and (alter_until d _)⟩

theorem Later.act {e d : Nat} {s u : State} (h : Later e d s u) (a : Nat) : u.actOf a = s.actOf a :=
  State.actOf_of_act (h.beside.act rfl) a

theorem Later.fld {e d : Nat} {s u : State} (h : Later e d s u) (i : Nat) (f : Fld) : u.fld i f = s.fld i f :=
  State.fld_of_reg (Alter.reg_of_regs h.regs i) f

theorem Later.logReady {e d : Nat} {s u : State} (h : Later e d s u) (hl : LogReady s) : LogReady u :=
  hl.congr (h.beside.boot rfl) (h.beside.ev rfl)

theorem Alter.actPatch {s t : State} (a : Alter (2 ^ 65 ||| 2 ^ 66 ||| 2 ^ 67 ||| 2 ^ 88 ||| 2 ^ 94 ||| 2 ^ 100) s t) :
    t = { s with el := t.el, dt := t.dt, regs := t.regs, act := t.act, conv := t.conv, eng := t.eng } := a.eq_patch

theorem actStat_free (a : Fin 3) : R.ACT_A_STAT a ∉ logRegs := by revert a; decide

theorem actStat_mem (a : Nat) : R.ACT_A_STAT a ∈ [R.ACT_A_STAT a] := List.mem_singleton.mpr rfl

/-! ### The start (R473, R474) -/

/-- The ramp begins: ALIGN gives way to it. -/
def actRamps (a : Nat) (s : State) : State :=
  actSlots a ((s.setAct a { s.actOf a with phAt := s.dt }).setFld (R.ACT_A_STAT a) F.ACT_A_STAT.START_PH 2)

theorem alignEnd_eq {a : Nat} {s : State} (hm : actMode s = true) (hs : aState s a = As.starting)
    (hp : s.fld (R.ACT_A_STAT a) F.ACT_A_STAT.START_PH = 1) :
    alignEnd a s = actRamps a (s.until ((s.actOf a).phAt + s.fld (R.ACT_A_START a) F.ACT_A_START.TALIGN * 1000000)) :=
  if_pos ⟨hs, hm, hp⟩

theorem actRamps_spec (a : Nat) (s : State) : let t := actRamps a s
    t.fld (R.ACT_A_STAT a) F.ACT_A_STAT.START_PH = 2 ∧ aState t a = aState s a ∧ (t.actOf a).phAt = s.dt ∧ t.dt = s.dt ∧
    OnlyRegs [R.ACT_A_STAT a] s t := by
  intro t
  have hv : (s.setAct a { s.actOf a with phAt := s.dt }).regs = s.regs ∧
      ((s.setAct a { s.actOf a with phAt := s.dt }).actOf a).phAt = s.dt ∧ (s.setAct a { s.actOf a with phAt := s.dt }).dt = s.dt :=
    ⟨State.setAct_regs .., by rw [State.actOf_setAct], State.setAct_dt ..⟩
  unfold t actRamps
  generalize s.setAct a { s.actOf a with phAt := s.dt } = v at *
  obtain ⟨v1, v2, v3⟩ := hv
  have hr := Alter.reg_of_regs (actSlots_regs a (v.setFld (R.ACT_A_STAT a) F.ACT_A_STAT.START_PH 2))
  refine ⟨?_, ?_, ?_, ?_, ?_⟩
  · exact (State.fld_of_reg (hr _) _).trans (State.fld_setFld_eq _ (by decide))
  · unfold aState
    rw [State.fld_of_reg (hr _), State.fld_setFld_beside _ (by decide), State.fld_of_reg (Alter.reg_of_regs v1 _)]
  · rw [State.actOf_of_act (actSlots_act a _), State.actOf_of_act (State.setFld_act ..), v2]
  · rw [(alter_actSlots ..).dt rfl, State.setFld_dt, v3]
  · exact ((OnlyRegs.of_regs v1).setFld _ _ (actStat_mem a)).congr (actSlots_regs a _)

theorem alignEnd_ramps (e : Nat) (a : Fin 3) (s : State) (hm : actMode s = true) (hs : aState s a = As.starting)
    (hp : s.fld (R.ACT_A_STAT a) F.ACT_A_STAT.START_PH = 1) :
     Answers (.alignEnd e a) s fun t =>
       t.fld (R.ACT_A_STAT a) F.ACT_A_STAT.START_PH = 2 ∧ aState t a = As.starting ∧ (t.actOf a).phAt = t.dt ∧
       (s.d0 = true → t.dt =
         max (s.dt + e) ((s.actOf a).phAt + s.fld (R.ACT_A_START a) F.ACT_A_START.TALIGN * 1000000)) ∧
       OnlyRegs [R.ACT_A_STAT a] s t ∧ t =
         { s with el := t.el, dt := t.dt, regs := t.regs, act := t.act, conv := t.conv, eng := t.eng } := by
  refine .of_next (t := alignEnd a (s.tick e)) rfl ?_
  have ha : Alter (2 ^ 65 ||| 2 ^ 66 ||| 2 ^ 67 ||| 2 ^ 88 ||| 2 ^ 94 ||| 2 ^ 100) s (alignEnd a (s.tick e)) :=
    ((alter_tick e s).mono rfl).and ((alter_alignEnd a _).mono rfl)
  revert ha
  rw [alignEnd_eq (s := s.tick e) hm hs hp]
  have hu := until_later e ((s.actOf a).phAt + s.fld (R.ACT_A_START a) F.ACT_A_START.TALIGN * 1000000) s
  have hd : ((s.tick e).actOf a).phAt + (s.tick e).fld (R.ACT_A_START a) F.ACT_A_START.TALIGN * 1000000 =
    (s.actOf a).phAt + s.fld (R.ACT_A_START a) F.ACT_A_START.TALIGN * 1000000 := rfl
  rw [hd]
  generalize (s.tick e).until ((s.actOf a).phAt + s.fld (R.ACT_A_START a) F.ACT_A_START.TALIGN * 1000000) = u at *
  intro ha
  obtain ⟨p1, p2, p3, p4, p5⟩ := actRamps_spec a u
  exact ⟨p1, p2.trans ((hu.fld _ _).trans hs), p3.trans p4.symm, fun h => p4.trans (hu.dt h), (OnlyRegs.of_regs hu.regs).trans p5,
    ha.actPatch⟩

/-- What an attempt given up leaves (R474). -/
theorem actAbort_spec (a why : Nat) (hw : why < 4) (s : State) : let t := actAbort a why s
    t.fld (R.ACT_A_STAT a) F.ACT_A_STAT.ABORT_WHY = why ∧ t.fld (R.ACT_A_STAT a) F.ACT_A_STAT.START_PH = 0 ∧
    aState t a = (if s.fld (R.ACT_A_STAT a) F.ACT_A_STAT.ATTEMPT < 3 then As.wait else As.failed) ∧
    (if s.fld (R.ACT_A_STAT a) F.ACT_A_STAT.ATTEMPT < 3 then (t.actOf a).waitAt = s.dt else (t.actOf a).brakeEnd =
         some (s.dt + 20000000)) ∧ OnlyRegs [R.ACT_A_STAT a] s t ∧ t.dt = s.dt := by
  intro t
  have hu : (s.setFld (R.ACT_A_STAT a) F.ACT_A_STAT.ABORT_WHY why).fld (R.ACT_A_STAT a) F.ACT_A_STAT.ABORT_WHY = why ∧
      (s.setFld (R.ACT_A_STAT a) F.ACT_A_STAT.ABORT_WHY why).fld (R.ACT_A_STAT a) F.ACT_A_STAT.ATTEMPT =
        s.fld (R.ACT_A_STAT a) F.ACT_A_STAT.ATTEMPT ∧
      OnlyRegs [R.ACT_A_STAT a] s (s.setFld (R.ACT_A_STAT a) F.ACT_A_STAT.ABORT_WHY why) ∧
      (s.setFld (R.ACT_A_STAT a) F.ACT_A_STAT.ABORT_WHY why).dt = s.dt :=
    ⟨(State.fld_setFld_eq _ (by decide)).trans (Nat.mod_eq_of_lt hw), State.fld_setFld_beside _ (by decide),
      (OnlyRegs.refl _ s).setFld _ _ (actStat_mem a), State.setFld_dt ..⟩
  unfold t actAbort
  dsimp only
  generalize s.setFld (R.ACT_A_STAT a) F.ACT_A_STAT.ABORT_WHY why = u at *
  obtain ⟨u1, u2, u3, u4⟩ := hu
  rw [u2]
  -- the record stored first touches no register
  have hx : ∀ x : ActSt, (u.setAct a x).regs = u.regs ∧ (u.setAct a x).actOf a = x ∧ (u.setAct a x).dt = u.dt := fun x =>
    ⟨State.setAct_regs .., State.actOf_setAct .., State.setAct_dt ..⟩
  split
  · obtain ⟨x1, x2, x3⟩ := hx { u.actOf a with waitAt := u.dt }
    generalize u.setAct a { u.actOf a with waitAt := u.dt } = v at *
    have hn := actEnter_enters a As.wait v
    have hreg := Alter.reg_of_regs x1
    refine ⟨by rw [hn.why, State.fld_of_reg (hreg _), u1], by rw [hn.phase, if_neg (by decide)], hn.state (by decide), ?_,
      (u3.congr x1).trans hn.only, by rw [hn.beside.dt rfl, x3, u4]⟩
    rw [hn.record.waitAt, x2, u4]
  · obtain ⟨x1, x2, x3⟩ := hx { u.actOf a with brakeEnd := some (u.dt + 20000000), toFault := false }
    generalize u.setAct a { u.actOf a with brakeEnd := some (u.dt + 20000000), toFault := false } = v at *
    have hn := actEnter_enters a As.failed v
    have hreg := Alter.reg_of_regs x1
    refine ⟨by rw [hn.why, State.fld_of_reg (hreg _), u1], by rw [hn.phase, if_neg (by decide)], hn.state (by decide), ?_,
      (u3.congr x1).trans hn.only, by rw [hn.beside.dt rfl, x3, u4]⟩
    rw [hn.record.brakeEnd, x2, u4]

theorem rampTimeout_eq {a : Nat} {s : State} (hm : actMode s = true) (hs : aState s a = As.starting)
    (hp : s.fld (R.ACT_A_STAT a) F.ACT_A_STAT.START_PH = 2) :
    rampTimeout a s = actAbort a 2 (s.until ((s.actOf a).phAt + 200000000)) := if_pos ⟨hs, hm, hp⟩

theorem rampTimeout_aborts (e : Nat) (a : Fin 3) (s : State) (hm : actMode s = true) (hs : aState s a = As.starting)
    (hp : s.fld (R.ACT_A_STAT a) F.ACT_A_STAT.START_PH = 2) :
     Answers (.actRampTimeout e a) s fun t =>
       t.fld (R.ACT_A_STAT a) F.ACT_A_STAT.ABORT_WHY = 2 ∧ t.fld (R.ACT_A_STAT a) F.ACT_A_STAT.START_PH = 0 ∧
       aState t a = (if s.fld (R.ACT_A_STAT a) F.ACT_A_STAT.ATTEMPT < 3 then As.wait else As.failed) ∧
       (if s.fld (R.ACT_A_STAT a) F.ACT_A_STAT.ATTEMPT < 3 then (t.actOf a).waitAt = t.dt else (t.actOf a).brakeEnd =
         some (t.dt + 20000000)) ∧
       (s.d0 = true → t.dt = max (s.dt + e) ((s.actOf a).phAt + 200000000)) ∧
       OnlyRegs [R.ACT_A_STAT a] s t ∧ t =
         { s with el := t.el, dt := t.dt, regs := t.regs, act := t.act, conv := t.conv, eng := t.eng } := by
  refine .of_next (t := rampTimeout a (s.tick e)) rfl ?_
  have ha : Alter (2 ^ 65 ||| 2 ^ 66 ||| 2 ^ 67 ||| 2 ^ 88 ||| 2 ^ 94 ||| 2 ^ 100) s (rampTimeout a (s.tick e)) :=
    ((alter_tick e s).mono rfl).and ((alter_rampTimeout a _).mono rfl)
  revert ha
  rw [rampTimeout_eq (s := s.tick e) hm hs hp]
  have hu := until_later e ((s.actOf a).phAt + 200000000) s
  have hd : ((s.tick e).actOf a).phAt = (s.actOf a).phAt := rfl
  rw [hd]
  generalize (s.tick e).until ((s.actOf a).phAt + 200000000) = u at *
  intro ha
  obtain ⟨p1, p2, p3, p4, p5, p6⟩ := actAbort_spec a 2 (by decide) u
  rw [hu.fld] at p3 p4
  exact ⟨p1, p2, p3, by rw [p6]; exact p4, fun h => p6.trans (hu.dt h), (OnlyRegs.of_regs hu.regs).trans p5, ha.actPatch⟩

/-- What the beginning of an attempt leaves (R473). -/
theorem actStart_spec (a k : Nat) (s : State) : let t := actStart a k s
    aState t a = As.starting ∧ t.fld (R.ACT_A_STAT a) F.ACT_A_STAT.START_PH = 1 ∧
    t.fld (R.ACT_A_STAT a) F.ACT_A_STAT.ATTEMPT = k % 2 ^ F.ACT_A_STAT.ATTEMPT.width ∧ (t.actOf a).phAt = s.dt ∧
    OnlyRegs [R.ACT_A_STAT a] s t ∧ Alter (2 ^ 67 ||| 2 ^ 88 ||| 2 ^ 94 ||| 2 ^ 100) s t := by
  intro t
  have ha : Alter (2 ^ 67 ||| 2 ^ 88 ||| 2 ^ 94 ||| 2 ^ 100) s t := (alter_actStart a k s).mono rfl
  revert ha
  unfold t actStart
  extract_lets pos tgt i x rev th base u v
  intro ha
  have hu : u.regs = s.regs ∧ (u.actOf a).phAt = s.dt :=
    ⟨State.setAct_regs .., (congrArg ActSt.phAt (State.actOf_setAct ..)).trans rfl⟩
  clear_value u
  have hv : v.fld i F.ACT_A_STAT.START_PH = 1 ∧ v.fld i F.ACT_A_STAT.ATTEMPT = k % 2 ^ F.ACT_A_STAT.ATTEMPT.width ∧
      OnlyRegs [R.ACT_A_STAT a] u v ∧ v.act = u.act := by
    refine ⟨State.fld_setFld_eq _ (by decide), ?_, ((OnlyRegs.refl _ u).setFld _ _ (actStat_mem a)).setFld _ _ (actStat_mem a),
      (State.setFld_act ..).trans (State.setFld_act ..)⟩
    unfold v
    rw [State.fld_setFld_beside _ (by decide), State.fld_setFld_eq _ (by decide)]
  clear_value v
  obtain ⟨v1, v2, v3, v4⟩ := hv
  have hn := actEnter_enters a As.starting v
  refine ⟨hn.state (by decide), by rw [hn.phase, if_pos (.inr rfl)]; exact v1, hn.attempt.trans v2, ?_,
    ((OnlyRegs.of_regs hu.1).trans v3).trans hn.only, ha⟩
  rw [hn.record.phAt, State.actOf_of_act v4, hu.2]

theorem actRetry_eq {a : Nat} {s : State} (hm : actMode s = true) (hs : aState s a = As.wait) :
    actRetry a s = (actStart a (s.fld (R.ACT_A_STAT a) F.ACT_A_STAT.ATTEMPT + 1) (s.until ((s.actOf a).waitAt + 20000000))).raise
      EV.ACT_START_RETRY a [] := if_pos ⟨hs, hm⟩

theorem actRetry_starts (e : Nat) (a : Fin 3) (s : State) (hm : actMode s = true) (hs : aState s a = As.wait) :
     Answers (.actStartRetry e a) s fun t =>
       aState t a = As.starting ∧ t.fld (R.ACT_A_STAT a) F.ACT_A_STAT.START_PH = 1 ∧
       t.fld (R.ACT_A_STAT a) F.ACT_A_STAT.ATTEMPT =
         (s.fld (R.ACT_A_STAT a) F.ACT_A_STAT.ATTEMPT + 1) % 2 ^ F.ACT_A_STAT.ATTEMPT.width ∧
       (t.actOf a).phAt = t.dt ∧ (s.d0 = true → t.dt = max (s.dt + e) ((s.actOf a).waitAt + 20000000)) ∧
       (LogReady s → Logs EV.ACT_START_RETRY a s t) ∧ OnlyRegs (logRegs ++ [R.ACT_A_STAT a]) s t := by
  refine .of_next (t := actRetry a (s.tick e)) rfl ?_
  rw [actRetry_eq (s := s.tick e) hm hs]
  have hu := until_later e ((s.actOf a).waitAt + 20000000) s
  have hd : ((s.tick e).actOf a).waitAt = (s.actOf a).waitAt := rfl
  have hk : (s.tick e).fld (R.ACT_A_STAT a) F.ACT_A_STAT.ATTEMPT = s.fld (R.ACT_A_STAT a) F.ACT_A_STAT.ATTEMPT := rfl
  rw [hd, hk]
  generalize (s.tick e).until ((s.actOf a).waitAt + 20000000) = u at *
  obtain ⟨p1, p2, p3, p4, p5, p6⟩ := actStart_spec a (s.fld (R.ACT_A_STAT a) F.ACT_A_STAT.ATTEMPT + 1) u
  generalize actStart a (s.fld (R.ACT_A_STAT a) F.ACT_A_STAT.ATTEMPT + 1) u = v at *
  have hlog : R.ACT_A_STAT a ∉ logRegs := actStat_free a
  have hdt : (v.raise EV.ACT_START_RETRY a []).dt = u.dt := (State.raise_dt ..).trans (p6.dt rfl)
  refine ⟨(State.fld_raise _ _ _ hlog).trans p1, (State.fld_raise _ _ _ hlog).trans p2, (State.fld_raise _ _ _ hlog).trans p3, ?_,
    fun h => hdt.trans (hu.dt h), fun hl => ?_, ?_⟩
  · rw [State.actOf_of_act ((alter_raise ..).act rfl), p4, hdt]
  · have he : v.ev = s.ev := (p6.ev rfl).trans (hu.beside.ev rfl)
    exact (State.raise_logs _ _ _ _ (hl.congr ((p6.boot rfl).trans (hu.beside.boot rfl)) he)).of_ev he
  · exact (((OnlyRegs.of_regs hu.regs).trans p5).mono (List.subset_append_right ..)).raise _ _ _ (List.subset_append_left ..)

/-! ### A mode that is left (R475) -/

theorem alignEnd_left (e : Nat) (a : Fin 3) (s : State) (hm : actMode s = false) :
    Answers (.alignEnd e a) s fun t => t = s.tick e :=
  .of_next (t := alignEnd a (s.tick e)) rfl (if_neg fun h => absurd (h.2.1.symm.trans hm) (by decide))

theorem rampTimeout_left (e : Nat) (a : Fin 3) (s : State) (hm : actMode s = false) :
    Answers (.actRampTimeout e a) s fun t => t = s.tick e :=
  .of_next (t := rampTimeout a (s.tick e)) rfl (if_neg fun h => absurd (h.2.1.symm.trans hm) (by decide))

theorem actRetry_left (e : Nat) (a : Fin 3) (s : State) (hm : actMode s = false) :
    Answers (.actStartRetry e a) s fun t => t = s.tick e :=
  .of_next (t := actRetry a (s.tick e)) rfl (if_neg fun h => absurd (h.2.symm.trans hm) (by decide))

/-! ### Moves (R469, R470) -/

/-- The actuator comes to rest in position. -/
def actRests (a : Nat) (s : State) : State :=
  let s := s.setAct a { s.actOf a with posSince := none }
  let s := actEnter a (if aCfg s a F.ACT_A_CFG.HOLDM = 1 then As.brake else As.hold) (s.setBit (R.ACT_A_STAT a) F.ACT_A_STAT.INPOS true)
  s.setAct a { s.actOf a with held := true }

theorem inPosition_eq {a d : Nat} {s : State} (h : (s.actOf a).posSince = some d) (hs : aState s a = As.moving) :
    inPosition a s = actRests a (s.until (d + 4000000)) := by
  unfold inPosition
  rw [h]
  dsimp only
  rw [if_neg (by rw [hs]; decide)]
  rfl

theorem actRests_spec (a : Nat) (s : State) : let t := actRests a s
    t.bit (R.ACT_A_STAT a) F.ACT_A_STAT.INPOS = true ∧ (t.actOf a).posSince = none ∧
    aState t a = (if s.fld (R.ACT_A_CFG a) F.ACT_A_CFG.HOLDM = 1 then As.brake else As.hold) ∧ t.dt = s.dt ∧
    OnlyRegs [R.ACT_A_STAT a] s t := by
  intro t
  unfold t actRests
  extract_lets x u v y
  have hu : u.regs = s.regs ∧ (u.actOf a).posSince = none ∧ u.dt = s.dt :=
    ⟨State.setAct_regs .., (congrArg ActSt.posSince (State.actOf_setAct ..)).trans rfl, State.setAct_dt ..⟩
  clear_value u
  obtain ⟨u1, u2, u3⟩ := hu
  have hc : aCfg u a F.ACT_A_CFG.HOLDM = s.fld (R.ACT_A_CFG a) F.ACT_A_CFG.HOLDM := State.fld_of_reg (Alter.reg_of_regs u1 _) _
  have hst : ∀ b : Prop, [Decidable b] → (if b then As.brake else As.hold) < 8 ∧ (if b then As.brake else As.hold) ≠ As.moving ∧
      (if b then As.brake else As.hold) ≠ As.starting := fun b _ => by split <;> decide
  have hn := actEnter_enters a (if aCfg u a F.ACT_A_CFG.HOLDM = 1 then As.brake else As.hold)
    (u.setBit (R.ACT_A_STAT a) F.ACT_A_STAT.INPOS true)
  obtain ⟨c1, c2, c3⟩ := hst (aCfg u a F.ACT_A_CFG.HOLDM = 1)
  have hv : v.bit (R.ACT_A_STAT a) F.ACT_A_STAT.INPOS = true ∧ (v.actOf a).posSince = none ∧
      aState v a = (if aCfg u a F.ACT_A_CFG.HOLDM = 1 then As.brake else As.hold) ∧ v.dt = s.dt ∧ OnlyRegs [R.ACT_A_STAT a] s v := by
    refine ⟨(hn.inpos c2 c3).trans (State.bit_setBit_eq _ (by decide)), ?_, hn.state c1, ?_, ?_⟩
    · exact (hn.since c2).trans ((congrArg ActSt.posSince (State.actOf_of_act (State.setBit_act ..) a)).trans u2)
    · exact (hn.beside.dt rfl).trans ((State.setBit_dt ..).trans u3)
    · exact ((OnlyRegs.of_regs u1).setBit _ _ (actStat_mem a)).trans hn.only
  clear_value v
  obtain ⟨v1, v2, v3, v4, v5⟩ := hv
  have hr := Alter.reg_of_regs (State.setAct_regs a y v)
  refine ⟨(State.bit_of_reg (hr _) _).trans v1, ?_, ?_, (State.setAct_dt ..).trans v4, v5.congr (State.setAct_regs ..)⟩
  · rw [State.actOf_setAct]
    exact v2
  · rw [← hc]
    exact (State.fld_of_reg (hr _) _).trans v3

theorem inPosition_rests (e d : Nat) (a : Fin 3) (s : State) (h : (s.actOf a).posSince = some d) (hs : aState s a = As.moving) :
     Answers (.inPosition e a) s fun t =>
       t.bit (R.ACT_A_STAT a) F.ACT_A_STAT.INPOS = true ∧ (t.actOf a).posSince = none ∧
       aState t a = (if s.fld (R.ACT_A_CFG a) F.ACT_A_CFG.HOLDM = 1 then As.brake else As.hold) ∧
       (s.d0 = true → t.dt = max (s.dt + e) (d + 4000000)) ∧ OnlyRegs [R.ACT_A_STAT a] s t := by
  refine .of_next (t := inPosition a (s.tick e)) rfl ?_
  rw [inPosition_eq (s := s.tick e) h hs]
  have hu := until_later e (d + 4000000) s
  generalize (s.tick e).until (d + 4000000) = u at *
  obtain ⟨p1, p2, p3, p4, p5⟩ := actRests_spec a u
  rw [hu.fld] at p3
  exact ⟨p1, p2, p3, fun h => p4.trans (hu.dt h), (OnlyRegs.of_regs hu.regs).trans p5⟩

theorem actTimeout_eq {a : Nat} {s : State} (hs : aState s a = As.moving) :
    actTimeout a s = actEnter a As.brake (((s.until ((s.actOf a).moveAt + aCfg s a F.ACT_A_CFG.TMOVE * 2000000)).setBitAt R.ACT_FLAGS
      F.ACT_FLAGS.TIMEOUT a true).raise EV.ACT_TIMEOUT a []) := if_pos hs

theorem actFlags_ne (a : Nat) : R.ACT_FLAGS ∉ [R.ACT_A_STAT a] := by
  simp only [List.mem_singleton, R.ACT_FLAGS, R.ACT_A_STAT]
  omega

theorem actTimeout_brakes (e : Nat) (a : Fin 3) (s : State) (hs : aState s a = As.moving) :
     Answers (.actTimeout e a) s fun t =>
       aState t a = As.brake ∧ bitN (t.fld R.ACT_FLAGS F.ACT_FLAGS.TIMEOUT) a = true ∧
       (s.d0 = true → t.dt =
         max (s.dt + e) ((s.actOf a).moveAt + s.fld (R.ACT_A_CFG a) F.ACT_A_CFG.TMOVE * 2000000)) ∧
       (LogReady s → Logs EV.ACT_TIMEOUT a s t) ∧ OnlyRegs (logRegs ++ [R.ACT_A_STAT a, R.ACT_FLAGS]) s t := by
  refine .of_next (t := actTimeout a (s.tick e)) rfl ?_
  rw [actTimeout_eq (s := s.tick e) hs]
  have hu := until_later e ((s.actOf a).moveAt + s.fld (R.ACT_A_CFG a) F.ACT_A_CFG.TMOVE * 2000000) s
  have hd : ((s.tick e).actOf a).moveAt + aCfg (s.tick e) a F.ACT_A_CFG.TMOVE * 2000000 =
    (s.actOf a).moveAt + s.fld (R.ACT_A_CFG a) F.ACT_A_CFG.TMOVE * 2000000 := rfl
  rw [hd]
  generalize (s.tick e).until ((s.actOf a).moveAt + s.fld (R.ACT_A_CFG a) F.ACT_A_CFG.TMOVE * 2000000) = u at *
  have hv : bitN ((u.setBitAt R.ACT_FLAGS F.ACT_FLAGS.TIMEOUT a true).fld R.ACT_FLAGS F.ACT_FLAGS.TIMEOUT) a = true ∧
      OnlyRegs [R.ACT_FLAGS] u (u.setBitAt R.ACT_FLAGS F.ACT_FLAGS.TIMEOUT a true) ∧
      (u.setBitAt R.ACT_FLAGS F.ACT_FLAGS.TIMEOUT a true).dt = u.dt ∧ (u.setBitAt R.ACT_FLAGS F.ACT_FLAGS.TIMEOUT a true).ev = u.ev ∧
      (u.setBitAt R.ACT_FLAGS F.ACT_FLAGS.TIMEOUT a true).boot = u.boot :=
    ⟨State.bitN_setBitAt _ (by decide) a.isLt, (OnlyRegs.refl _ u).setBitAt _ _ _ (List.mem_singleton.mpr rfl),
      State.setBitAt_dt .., State.setBitAt_ev .., State.setBitAt_boot ..⟩
  generalize u.setBitAt R.ACT_FLAGS F.ACT_FLAGS.TIMEOUT a true = v at *
  obtain ⟨v1, v2, v3, v4, v5⟩ := hv
  have hn := actEnter_enters a As.brake (v.raise EV.ACT_TIMEOUT a [])
  refine ⟨hn.state (by decide), ?_, fun h => ?_, fun hl => ?_, ?_⟩
  · rw [State.fld_of_reg (hn.only _ (actFlags_ne a)), State.fld_raise _ _ _ (by decide), v1]
  · rw [hn.beside.dt rfl, State.raise_dt, v3, hu.dt h]
  · have he : v.ev = s.ev := v4.trans (hu.beside.ev rfl)
    have := (State.raise_logs EV.ACT_TIMEOUT a [] v (hl.congr (v5.trans (hu.beside.boot rfl)) he)).of_ev he
    exact this.to_ev (hn.beside.ev rfl)
  · have h1 : OnlyRegs (logRegs ++ [R.ACT_A_STAT a, R.ACT_FLAGS]) s v := ((OnlyRegs.of_regs hu.regs).trans v2).mono (by simp)
    exact (h1.raise _ _ _ (List.subset_append_left ..)).trans (hn.only.mono (by simp))

/-! ### The end of a brake (R39, R471, R474) -/

/-- The brake is over: its end is no longer due. -/
def brakeOver (a : Nat) (s : State) : State := s.setAct a { s.actOf a with brakeEnd := none, toFault := false }

theorem brakeOver_keeps (a : Nat) (s : State) : ((brakeOver a s).actOf a).brakeEnd = none ∧ (brakeOver a s).regs = s.regs ∧
    (brakeOver a s).dt = s.dt ∧ (brakeOver a s).ev = s.ev ∧ (brakeOver a s).boot = s.boot :=
  ⟨congrArg ActSt.brakeEnd (State.actOf_setAct ..), State.setAct_regs .., State.setAct_dt .., State.setAct_ev .., State.setAct_boot ..⟩

theorem brakeEnd_eq {a d : Nat} {s : State} (hl : s.lvEnd = none) (hb : (s.actOf a).brakeEnd = some d) :
    brakeEnd a s =
      let u := brakeOver a (s.until d)
      if aState u a = As.failed then
        (actSlots a (u.setBitAt R.ACT_FLAGS F.ACT_FLAGS.START_FAIL a true)).raise EV.ACT_START_FAILED a []
      else if aState u a ≠ As.brake then u
      else if (s.actOf a).toFault then actFault a u
      else if u.bit (R.ACT_A_CTRL a) F.ACT_A_CTRL.BRAKE then u
      else actEnter a As.off u := by
  unfold brakeEnd
  rw [hl]
  dsimp only
  rw [hb]
  rfl

/-- A state that has come to the end of a brake. -/
theorem brakeOver_later (e d a : Nat) (s : State) : let u := brakeOver a ((s.tick e).until d)
    (u.actOf a).brakeEnd = none ∧ u.regs = s.regs ∧ (s.d0 = true → u.dt = max (s.dt + e) d) ∧ u.ev = s.ev ∧ u.boot = s.boot := by
  have hu := until_later e d s
  generalize (s.tick e).until d = v at *
  obtain ⟨b1, b2, b3, b4, b5⟩ := brakeOver_keeps a v
  exact ⟨b1, b2.trans hu.regs, fun h => b3.trans (hu.dt h), b4.trans (hu.beside.ev rfl), b5.trans (hu.beside.boot rfl)⟩

theorem brakeEnd_fails (e d : Nat) (a : Fin 3) (s : State) (hl : s.lvEnd = none) (hb : (s.actOf a).brakeEnd = some d)
    (hs : aState s a = As.failed) :
     Answers (.actBrakeEnd e a) s fun t =>
       bitN (t.fld R.ACT_FLAGS F.ACT_FLAGS.START_FAIL) a = true ∧ (t.actOf a).brakeEnd = none ∧
       aState t a = As.failed ∧
       (s.d0 = true → t.dt = max (s.dt + e) d) ∧ (LogReady s → Logs EV.ACT_START_FAILED a s t) ∧
       OnlyRegs (logRegs ++ [R.ACT_FLAGS]) s t := by
  refine .of_next (t := brakeEnd a (s.tick e)) rfl ?_
  rw [brakeEnd_eq (s := s.tick e) hl hb]
  dsimp only
  obtain ⟨u1, u2, u3, u4, u5⟩ := brakeOver_later e d a s
  generalize brakeOver a ((s.tick e).until d) = u at *
  have hst : aState u a = As.failed := (State.fld_of_reg (Alter.reg_of_regs u2 _) _).trans hs
  rw [if_pos hst]
  have hv : bitN ((u.setBitAt R.ACT_FLAGS F.ACT_FLAGS.START_FAIL a true).fld R.ACT_FLAGS F.ACT_FLAGS.START_FAIL) a = true ∧
      (u.setBitAt R.ACT_FLAGS F.ACT_FLAGS.START_FAIL a true).reg (R.ACT_A_STAT a) = u.reg (R.ACT_A_STAT a) ∧
      OnlyRegs [R.ACT_FLAGS] u (u.setBitAt R.ACT_FLAGS F.ACT_FLAGS.START_FAIL a true) ∧
      (u.setBitAt R.ACT_FLAGS F.ACT_FLAGS.START_FAIL a true).act = u.act ∧
      (u.setBitAt R.ACT_FLAGS F.ACT_FLAGS.START_FAIL a true).dt = u.dt ∧
      (u.setBitAt R.ACT_FLAGS F.ACT_FLAGS.START_FAIL a true).ev = u.ev ∧
      (u.setBitAt R.ACT_FLAGS F.ACT_FLAGS.START_FAIL a true).boot = u.boot :=
    ⟨State.bitN_setBitAt _ (by decide) a.isLt, State.reg_setFld_ne _ _ _ (fun h => actFlags_ne a (by rw [← h]; exact actStat_mem a)),
      (OnlyRegs.refl _ u).setBitAt _ _ _ (List.mem_singleton.mpr rfl), State.setBitAt_act ..,
      State.setBitAt_dt .., State.setBitAt_ev .., State.setBitAt_boot ..⟩
  generalize u.setBitAt R.ACT_FLAGS F.ACT_FLAGS.START_FAIL a true = v at *
  obtain ⟨v1, v2, v3, v4, v5, v6, v7⟩ := hv
  have hw := alter_actSlots a v
  have hwr := actSlots_regs a v
  have hwa := actSlots_act a v
  generalize actSlots a v = w at *
  refine ⟨?_, ?_, ?_, fun h => ?_, fun hl => ?_, ?_⟩
  · rw [State.fld_raise _ _ _ (by decide), State.fld_of_reg (Alter.reg_of_regs hwr _), v1]
  · rw [State.actOf_of_act ((alter_raise ..).act rfl), State.actOf_of_act hwa, State.actOf_of_act v4, u1]
  · refine Eq.trans (State.fld_raise _ _ _ (actStat_free a)) ?_
    exact (State.fld_of_reg ((Alter.reg_of_regs hwr _).trans v2) _).trans hst
  · rw [State.raise_dt, hw.dt rfl, v5, u3 h]
  · have he : w.ev = s.ev := (hw.ev rfl).trans (v6.trans u4)
    exact (State.raise_logs _ _ _ _ (hl.congr ((hw.boot rfl).trans (v7.trans u5)) he)).of_ev he
  · exact ((((OnlyRegs.of_regs u2).trans v3).congr hwr).mono (List.subset_append_right ..)).raise _ _ _ (List.subset_append_left ..)

/-- What a fault of an actuator leaves (R480). -/
theorem actFault_spec (a : Fin 3) (s : State) : let t := actFault a s
    bitN (t.fld R.ACT_FLAGS F.ACT_FLAGS.FAULT) a = true ∧ (t.actOf a).brakeEnd = none ∧ aState t a = As.fault ∧
    (LogReady s → Logs EV.ACT_FAULT a s t) ∧ OnlyRegs (logRegs ++ [R.ACT_FLAGS, R.ACT_A_STAT a]) s t := by
  intro t
  unfold t actFault
  extract_lets u x v
  have hu : bitN (u.fld R.ACT_FLAGS F.ACT_FLAGS.FAULT) a = true ∧ OnlyRegs [R.ACT_FLAGS] s u ∧ u.ev = s.ev ∧ u.boot = s.boot :=
    ⟨State.bitN_setBitAt _ (by decide) a.isLt, (OnlyRegs.refl _ s).setBitAt _ _ _ (List.mem_singleton.mpr rfl),
      State.setBitAt_ev .., State.setBitAt_boot ..⟩
  clear_value u
  have hv : (v.actOf a).brakeEnd = none ∧ v.regs = u.regs ∧ v.ev = u.ev ∧ v.boot = u.boot :=
    ⟨(congrArg ActSt.brakeEnd (State.actOf_setAct ..)).trans rfl, State.setAct_regs .., State.setAct_ev .., State.setAct_boot ..⟩
  clear_value v
  obtain ⟨u1, u2, u3, u4⟩ := hu
  obtain ⟨v1, v2, v3, v4⟩ := hv
  have hn := actEnter_enters a As.fault (v.raise EV.ACT_FAULT a [])
  refine ⟨?_, ?_, hn.state (by decide), fun hl => ?_, ?_⟩
  · rw [State.fld_of_reg (hn.only _ (actFlags_ne a)), State.fld_raise _ _ _ (by decide), State.fld_of_reg (Alter.reg_of_regs v2 _), u1]
  · rw [hn.record.brakeEnd, State.actOf_of_act ((alter_raise ..).act rfl), v1]
  · have he : v.ev = s.ev := v3.trans u3
    exact ((State.raise_logs EV.ACT_FAULT a [] v (hl.congr (v4.trans u4) he)).of_ev he).to_ev (hn.beside.ev rfl)
  · have h1 : OnlyRegs (logRegs ++ [R.ACT_FLAGS, R.ACT_A_STAT a]) s v := (u2.congr v2).mono (by simp)
    exact (h1.raise _ _ _ (List.subset_append_left ..)).trans (hn.only.mono (by simp))

theorem brakeEnd_faults (e d : Nat) (a : Fin 3) (s : State) (hl : s.lvEnd = none) (hb : (s.actOf a).brakeEnd = some d)
    (hs : aState s a = As.brake) (hf : (s.actOf a).toFault = true) :
     Answers (.actBrakeEnd e a) s fun t =>
       bitN (t.fld R.ACT_FLAGS F.ACT_FLAGS.FAULT) a = true ∧ (t.actOf a).brakeEnd = none ∧ aState t a = As.fault ∧
       (LogReady s → Logs EV.ACT_FAULT a s t) ∧ OnlyRegs (logRegs ++ [R.ACT_FLAGS, R.ACT_A_STAT a]) s t := by
  refine .of_next (t := brakeEnd a (s.tick e)) rfl ?_
  have hf' : ((s.tick e).actOf a).toFault = true := hf
  rw [brakeEnd_eq (s := s.tick e) hl hb, hf']
  dsimp only
  obtain ⟨-, u2, -, u4, u5⟩ := brakeOver_later e d a s
  generalize brakeOver a ((s.tick e).until d) = u at *
  have hst : aState u a = As.brake := (State.fld_of_reg (Alter.reg_of_regs u2 _) _).trans hs
  rw [if_neg (by rw [hst]; decide), if_neg (by rw [hst]; decide), if_pos rfl]
  obtain ⟨p1, p2, p3, p4, p5⟩ := actFault_spec a u
  exact ⟨p1, p2, p3, fun hl => (p4 (hl.congr u5 u4)).of_ev u4, (OnlyRegs.of_regs u2).trans p5⟩

theorem brakeEnd_off (e d : Nat) (a : Fin 3) (s : State) (hl : s.lvEnd = none) (hb : (s.actOf a).brakeEnd = some d)
    (hs : aState s a = As.brake) (hf : (s.actOf a).toFault = false) (hc : s.bit (R.ACT_A_CTRL a) F.ACT_A_CTRL.BRAKE = false) :
     Answers (.actBrakeEnd e a) s fun t =>
       (t.actOf a).brakeEnd = none ∧ aState t a = As.off ∧ OnlyRegs [R.ACT_A_STAT a] s t := by
  refine .of_next (t := brakeEnd a (s.tick e)) rfl ?_
  have hf' : ((s.tick e).actOf a).toFault = false := hf
  rw [brakeEnd_eq (s := s.tick e) hl hb, hf']
  dsimp only
  obtain ⟨u1, u2, -, -, -⟩ := brakeOver_later e d a s
  generalize brakeOver a ((s.tick e).until d) = u at *
  have hst : aState u a = As.brake := (State.fld_of_reg (Alter.reg_of_regs u2 _) _).trans hs
  rw [if_neg (by rw [hst]; decide), if_neg (by rw [hst]; decide), if_neg (by decide),
    if_neg (by rw [State.bit_of_reg (Alter.reg_of_regs u2 _), hc]; decide)]
  have hn := actEnter_enters a As.off u
  exact ⟨by rw [hn.record.brakeEnd, u1], hn.state (by decide), (OnlyRegs.of_regs u2).trans hn.only⟩

/-! ### Gates commanded off -/

/-- No gate is commanded on that was not. -/
def CmdFalls (s t : State) : Prop := ∀ g, (s.islOf g).cmdOn = false → (t.islOf g).cmdOn = false

theorem CmdFalls.refl (s : State) : CmdFalls s s := fun _ h => h

theorem CmdFalls.trans {s t u : State} (h : CmdFalls s t) (k : CmdFalls t u) : CmdFalls s u := fun g hg => k g (h g hg)

theorem CmdFalls.of_isl {s t : State} (h : t.isl = s.isl) : CmdFalls s t := fun g hg => by
  rw [State.islOf_of_isl h]
  exact hg

theorem CmdFalls.forEach {α : Type} {f : α → State → State} (s : State) (l : List α) (h : ∀ a x, CmdFalls x (f a x)) :
    CmdFalls s (forEach l f s) := by
  unfold Machine.forEach
  induction l generalizing s with
  | nil => exact .refl s
  | cons a l ih => exact (h a s).trans (ih (f a s))

theorem CmdFalls.setIsl {s : State} {g : Nat} {x : Isl} (h : (s.islOf g).cmdOn = false → x.cmdOn = false) :
    CmdFalls s (s.setIsl g x) := fun j hj => by
  by_cases e : j = g
  · subst e
    rw [State.islOf_setIsl]
    exact h hj
  · rw [State.islOf_setIsl_ne _ _ e]
    exact hj

theorem setGate_cmd (g step : Nat) (on : Bool) (s : State) : CmdFalls s (setGate g step on s) := by
  unfold setGate
  split
  · exact .of_isl (State.setBitAt_isl ..)
  · extract_lets x u
    have hu : CmdFalls s u := by
      unfold u
      split
      · exact .refl s
      · exact .setIsl fun h => h
    clear_value u
    exact (hu.trans (.of_isl (State.setBit_isl ..))).trans (.of_isl (State.setBit_isl ..))

theorem gateOffP_cmd (prof : Option Nat) (g step : Nat) (s : State) : CmdFalls s (gateOffP prof g step s) ∧
    ((gateOffP prof g step s).islOf g).cmdOn = false := by
  unfold gateOffP
  extract_lets x u v
  have hu : CmdFalls s u ∧ (u.islOf g).cmdOn = false :=
    ⟨.setIsl fun _ => rfl, (congrArg Isl.cmdOn (State.islOf_setIsl ..)).trans rfl⟩
  clear_value u
  split
  · have hv : CmdFalls u v := by
      unfold v
      split
      · unfold startProf
        split
        · exact .refl u
        · exact .setIsl fun h => h
      · exact .refl u
    clear_value v
    have hw : CmdFalls u (leaveFallback g (setGate g step false v)) := by
      refine (hv.trans (setGate_cmd g step false v)).trans (.of_isl ?_)
      unfold leaveFallback
      split
      · rfl
      · exact State.setBit_isl ..
    exact ⟨hu.1.trans hw, hw g hu.2⟩
  · exact hu

theorem gatesOff_cmd (gs : List Nat) (s : State) : CmdFalls s (gatesOff gs s) :=
  CmdFalls.forEach s gs fun g x => (gateOffP_cmd none g _ x).1

theorem gatesOff_off {gs : List Nat} {g : Nat} (h : g ∈ gs) (s : State) : ((gatesOff gs s).islOf g).cmdOn = false := by
  unfold gatesOff forEach
  generalize hd : (fun (s : State) (a : Nat) => gateOff a (8 * s.dt) s) = f
  induction gs generalizing s with
  | nil => exact absurd h List.not_mem_nil
  | cons a gs ih =>
    rw [List.foldl_cons]
    rcases List.mem_cons.mp h with rfl | h
    · have h0 : ((f s g).islOf g).cmdOn = false := by
        rw [← hd]
        exact (gateOffP_cmd none g _ s).2
      have := CmdFalls.forEach (f s g) gs (f := fun a x => f x a) fun a x => by
        rw [← hd]
        exact (gateOffP_cmd none a _ x).1
      exact this g h0
    · exact ih h (f s a)

/-- The time of R39 is over. -/
def lvOver (s : State) : State := { s with lvEnd := none }

theorem lvOver_keeps (s : State) : (lvOver s).lvEnd = none ∧ (lvOver s).isl = s.isl ∧ (lvOver s).act = s.act ∧ (lvOver s).dt = s.dt :=
  ⟨rfl, rfl, rfl, rfl⟩

/-- The low-voltage gates go off. -/
def lvDark (s : State) : State := lvOver (gatesOff ((List.range 18).map (· + 64)) s)

theorem lvDark_keeps (s : State) : (lvDark s).lvEnd = none ∧ (lvDark s).isl = (gatesOff ((List.range 18).map (· + 64)) s).isl ∧
    (lvDark s).act = (gatesOff ((List.range 18).map (· + 64)) s).act ∧ (lvDark s).dt = (gatesOff ((List.range 18).map (· + 64)) s).dt :=
  lvOver_keeps _

theorem brakeEnd_lv {a d : Nat} {s : State} (hl : s.lvEnd = some d) (hm : s.mode = Mode.safe)
    (hb : ((lvDark (s.until d)).actOf a).brakeEnd = none) : brakeEnd a s = lvDark (s.until d) := by
  unfold brakeEnd
  extract_lets w
  have hw : w = lvDark (s.until d) := by
    unfold w
    rw [hl]
    exact if_pos hm
  clear_value w
  subst hw
  rw [hb]

theorem brakeEnd_dark (e d : Nat) (a : Fin 3) (s : State) (hl : s.lvEnd = some d) (hm : s.mode = Mode.safe)
    (hb : (s.actOf a).brakeEnd = none) :
     Answers (.actBrakeEnd e a) s fun t =>
       t.lvEnd = none ∧ (∀ g : Fin 18, (t.islOf (64 + g)).cmdOn = false) ∧ (s.d0 = true → t.dt = max (s.dt + e) d) := by
  refine .of_next (t := brakeEnd a (s.tick e)) rfl ?_
  have hu := until_later e d s
  obtain ⟨k1, k2, k3, k4⟩ := lvDark_keeps ((s.tick e).until d)
  rw [brakeEnd_lv (s := s.tick e) hl hm (by
    rw [State.actOf_of_act (k3.trans ((alter_gatesOff ..).act rfl)), hu.act, hb])]
  generalize (s.tick e).until d = u at *
  generalize lvDark u = t at *
  refine ⟨k1, fun g => ?_, fun h => by rw [k4, (alter_gatesOff ..).dt rfl, hu.dt h]⟩
  rw [State.islOf_of_isl k2]
  exact gatesOff_off (List.mem_map.mpr ⟨g.val, List.mem_range.mpr g.isLt, Nat.add_comm g.val 64⟩) u

/-- Settles O29: an actuator's state, its phase and its record are read from what an entry into a state leaves. -/
theorem actuatorStartsAndMoves : Obligations.ActuatorStartsAndMoves := by
  unfold Obligations.ActuatorStartsAndMoves
  exact ⟨alignEnd_ramps, rampTimeout_aborts, actRetry_starts, alignEnd_left, rampTimeout_left, actRetry_left, inPosition_rests,
    actTimeout_brakes, brakeEnd_fails, brakeEnd_faults, brakeEnd_off, brakeEnd_dark⟩

end Sys2Proof.Machine
end

section
/-! SUPPORT. Hall codes, the low-voltage gates' supervision, and the settling of O30 (R124 to R126, R464 to R466, R480). -/

namespace Sys2Proof.Machine

set_option Elab.async false

/-! ### Hall codes (R464, R465) -/

theorem act_mem (a : Fin 3) : (a : Nat) ∈ [0, 1, 2] := by revert a; decide

/-- What a hall error leaves. -/
structure HallErr (a : Nat) (s t : State) : Prop where
  sector : (t.actOf a).sector = (s.actOf a).sector
  cnt : (t.actOf a).cnt = (s.actOf a).cnt
  run : (t.actOf a).errRun = true
  flag : bitN (t.fld R.ACT_FLAGS F.ACT_FLAGS.HALL) a = true
  told : (s.actOf a).errRun = false → LogReady s → Logs EV.ACT_HALL a s t

theorem actLost_keeps (a : Nat) (s : State) : ActKept (s.actOf a) ({ (actLost a s).actOf a with
      brakeEnd := (s.actOf a).brakeEnd, toFault := (s.actOf a).toFault }) ∧
    OnlyRegs [R.ACT_A_STAT a] s (actLost a s) ∧ (actLost a s).ev = s.ev := by
  unfold actLost
  split
  · unfold actBrake100
    have hv : (s.setAct a { s.actOf a with brakeEnd := some (s.dt + 20000000), toFault := true }).actOf a =
        { s.actOf a with brakeEnd := some (s.dt + 20000000), toFault := true } := State.actOf_setAct ..
    have hr : (s.setAct a { s.actOf a with brakeEnd := some (s.dt + 20000000), toFault := true }).regs = s.regs := State.setAct_regs ..
    have he : (s.setAct a { s.actOf a with brakeEnd := some (s.dt + 20000000), toFault := true }).ev = s.ev := State.setAct_ev ..
    generalize s.setAct a { s.actOf a with brakeEnd := some (s.dt + 20000000), toFault := true } = v at *
    have hn := actEnter_enters a As.brake v
    have hk := hn.record
    rw [hv] at hk
    exact ⟨⟨hk.cnt, hk.sector, hk.errRun, rfl, rfl, hk.phAt, hk.waitAt⟩, (OnlyRegs.of_regs hr).trans hn.only, (hn.beside.ev rfl).trans he⟩
  · exact ⟨⟨rfl, rfl, rfl, rfl, rfl, rfl, rfl⟩, .refl _ s, rfl⟩

theorem hallError_spec (a : Fin 3) (s : State) : HallErr a s (hallError a s) := by
  unfold hallError
  extract_lets x errs u v w
  have hu : (u.actOf a).sector = (s.actOf a).sector ∧ (u.actOf a).cnt = (s.actOf a).cnt ∧ (u.actOf a).errRun = true ∧
      u.ev = s.ev ∧ u.boot = s.boot := by
    have : u.actOf a = _ := State.actOf_setAct ..
    rw [this]
    exact ⟨rfl, rfl, rfl, State.setAct_ev .., State.setAct_boot ..⟩
  clear_value u
  have hv : v.act = u.act ∧ bitN (v.fld R.ACT_FLAGS F.ACT_FLAGS.HALL) a = true ∧ v.ev = u.ev ∧ v.boot = u.boot :=
    ⟨(State.setBitAt_act ..).trans (State.incFld_act ..), State.bitN_setBitAt _ (by decide) a.isLt,
      (State.setBitAt_ev ..).trans (State.incFld_ev ..), (State.setBitAt_boot ..).trans (State.incFld_boot ..)⟩
  clear_value v
  obtain ⟨u1, u2, u3, u4, u5⟩ := hu
  obtain ⟨v1, v2, v3, v4⟩ := hv
  have hva := State.actOf_of_act v1 a
  split
  · rename_i hx
    exact ⟨by rw [hva, u1], by rw [hva, u2], by rw [hva, u3], v2, fun h => absurd hx (by unfold x; rw [h]; decide)⟩
  · have hw : HallErr a s w := by
      have hwa : w.actOf a = v.actOf a := State.actOf_of_act ((alter_raise ..).act rfl) a
      refine ⟨by rw [hwa, hva, u1], by rw [hwa, hva, u2], by rw [hwa, hva, u3], (congrArg (bitN · a)
        (State.fld_raise _ _ _ (by decide))).trans v2, fun _ hl => ?_⟩
      have he : v.ev = s.ev := v3.trans u4
      exact (State.raise_logs _ _ _ _ (hl.congr (v4.trans u5) he)).of_ev he
    clear_value w
    split
    · obtain ⟨k, ho, he⟩ := actLost_keeps a w
      exact ⟨k.sector.trans hw.sector, k.cnt.trans hw.cnt, k.errRun.trans hw.run,
        (congrArg (bitN · a) (State.fld_of_reg (ho _ (actFlags_ne a)) _)).trans hw.flag, fun h hl => (hw.told h hl).to_ev he⟩
    · exact hw

/-- What the decoder's outputs leave (R462). -/
theorem actSpots_keeps (a : Fin 3) (s : State) : (actMeasure a (actAngle a s)).act = s.act ∧
    OnlyRegs [R.ACT_A_STAT a] s (actMeasure a (actAngle a s)) ∧ (actMeasure a (actAngle a s)).ev = s.ev ∧
    (actMeasure a (actAngle a s)).dt = s.dt ∧ (actMeasure a (actAngle a s)).el = s.el := by
  have hg : Alter (2 ^ 94) s (actAngle a s) := (alter_actAngle a s).mono rfl
  have hmm := alter_actMeasure a (actAngle a s)
  have ho : OnlyRegs [R.ACT_A_STAT a] (actAngle a s) (actMeasure a (actAngle a s)) := by
    unfold actMeasure
    extract_lets i
    split
    · exact (((OnlyRegs.refl _ _).setBit _ _ (actStat_mem a)).setFld _ _ (actStat_mem a)).congr (State.setSp_regs ..)
    · exact (OnlyRegs.refl _ _).setBit _ _ (actStat_mem a)
  exact ⟨(hmm.act rfl).trans (hg.act rfl), (OnlyRegs.of_regs (hg.regs rfl)).trans ho, (hmm.ev rfl).trans (hg.ev rfl),
    (hmm.dt rfl).trans (hg.dt rfl), (hmm.el rfl).trans (hg.el rfl)⟩

/-- The record of a step by one sector, or of a first code. -/
theorem setAct_keeps (a : Nat) (x : ActSt) (s : State) : (s.setAct a x).actOf a = x ∧ (s.setAct a x).regs = s.regs ∧
    (s.setAct a x).dt = s.dt ∧ (s.setAct a x).el = s.el ∧ (s.setAct a x).ev = s.ev ∧ (s.setAct a x).boot = s.boot :=
  ⟨State.actOf_setAct .., State.setAct_regs .., State.setAct_dt .., State.setAct_el .., State.setAct_ev .., State.setAct_boot ..⟩

theorem hallChange_first (e k : Nat) (a : Fin 3) (code : Fin 8) (s : State) (hk : hallSector code = some k)
    (hn : (s.actOf a).sector = none) :
     Answers (.hallChange e a code) s fun t =>
       (t.actOf a).sector = some k ∧ (t.actOf a).cnt = (s.actOf a).cnt ∧ OnlyRegs [R.ACT_A_STAT a] s t ∧ Passes e s t := by
  refine .of_next (t := hallChange a code (s.tick e)) rfl ?_
  have hn' : ((s.tick e).actOf a).sector = none := hn
  have ht : (s.tick e).actOf a = s.actOf a := rfl
  unfold hallChange
  rw [hk]
  dsimp only
  rw [hn']
  dsimp only
  rw [ht]
  obtain ⟨x1, x2, x3, x4, -, -⟩ := setAct_keeps a { s.actOf a with sector := some k, errRun := false } (s.tick e)
  generalize (s.tick e).setAct a { s.actOf a with sector := some k, errRun := false } = u at *
  obtain ⟨p1, p2, -, p4, p5⟩ := actSpots_keeps a u
  refine ⟨?_, ?_, (OnlyRegs.of_regs x2).trans p2, passes_of_tick (p5.trans x4) (p4.trans x3)⟩
  · rw [State.actOf_of_act p1, x1]
  · rw [State.actOf_of_act p1, x1]

/-- The record after a change of sector, before its distance is judged. -/
def hallMoved (a k : Nat) (s : State) : State := s.setAct a { s.actOf a with sector := some k }

theorem hallMoved_keeps (a k : Nat) (s : State) : (hallMoved a k s).actOf a = { s.actOf a with sector := some k } ∧
    (hallMoved a k s).regs = s.regs ∧ (hallMoved a k s).ev = s.ev ∧ (hallMoved a k s).boot = s.boot :=
  ⟨State.actOf_setAct .., State.setAct_regs .., State.setAct_ev .., State.setAct_boot ..⟩

theorem hallChange_eq {a c k j : Nat} {s : State} (hk : hallSector c = some k) (hj : (s.actOf a).sector = some j) :
    hallChange a c s =
      let d := (k + 6 - j) % 6
      let u := hallMoved a k s
      let v := if d = 1 then u.setAct a { u.actOf a with cnt := (s.actOf a).cnt + 1, errRun := false }
        else if d = 5 then u.setAct a { u.actOf a with cnt := (s.actOf a).cnt - 1, errRun := false }
        else if d = 0 then u else hallError a u
      actMeasure a (actAngle a v) := by
  unfold hallChange
  rw [hk]
  dsimp only
  rw [hj]
  rfl

theorem hallChange_steps (e k j : Nat) (a : Fin 3) (code : Fin 8) (s : State) (hk : hallSector code = some k)
    (hj : (s.actOf a).sector = some j) (_h6 : j < 6) (hd : (k + 6 - j) % 6 = 1 ∨ (k + 6 - j) % 6 = 5) :
     Answers (.hallChange e a code) s fun t =>
       (t.actOf a).sector = some k ∧ (t.actOf a).cnt = (s.actOf a).cnt + (if (k + 6 - j) % 6 = 1 then 1 else -1) ∧
       (t.actOf a).errRun = false ∧ OnlyRegs [R.ACT_A_STAT a] s t := by
  refine .of_next (t := hallChange a code (s.tick e)) rfl ?_
  rw [hallChange_eq (s := s.tick e) hk hj]
  dsimp only
  obtain ⟨m1, m2, -, -⟩ := hallMoved_keeps a k (s.tick e)
  have ht : (s.tick e).actOf a = s.actOf a := rfl
  rw [ht] at m1 ⊢
  generalize hallMoved a k (s.tick e) = u at *
  have hr : u.regs = s.regs := m2
  rw [m1]
  rcases hd with hd | hd
  · rw [if_pos hd, if_pos hd]
    obtain ⟨x1, x2, -, -, -, -⟩ := setAct_keeps a { s.actOf a with sector := some k, cnt := (s.actOf a).cnt + 1, errRun := false } u
    generalize u.setAct a { s.actOf a with sector := some k, cnt := (s.actOf a).cnt + 1, errRun := false } = v at *
    obtain ⟨p1, p2, -, -, -⟩ := actSpots_keeps a v
    rw [State.actOf_of_act p1, x1]
    exact ⟨rfl, rfl, rfl, (OnlyRegs.of_regs (x2.trans hr)).trans p2⟩
  · rw [if_neg (by omega), if_pos hd, if_neg (by omega)]
    obtain ⟨x1, x2, -, -, -, -⟩ := setAct_keeps a { s.actOf a with sector := some k, cnt := (s.actOf a).cnt - 1, errRun := false } u
    generalize u.setAct a { s.actOf a with sector := some k, cnt := (s.actOf a).cnt - 1, errRun := false } = v at *
    obtain ⟨p1, p2, -, -, -⟩ := actSpots_keeps a v
    rw [State.actOf_of_act p1, x1]
    exact ⟨rfl, rfl, rfl, (OnlyRegs.of_regs (x2.trans hr)).trans p2⟩

theorem hallChange_jumps (e k j : Nat) (a : Fin 3) (code : Fin 8) (s : State) (hk : hallSector code = some k)
    (hj : (s.actOf a).sector = some j) (_h6 : j < 6) (h2 : 2 ≤ (k + 6 - j) % 6) (h4 : (k + 6 - j) % 6 ≤ 4) :
     Answers (.hallChange e a code) s fun t =>
       (t.actOf a).sector = some k ∧
       (t.actOf a).cnt = (s.actOf a).cnt ∧
       bitN (t.fld R.ACT_FLAGS F.ACT_FLAGS.HALL) a = true := by
  refine .of_next (t := hallChange a code (s.tick e)) rfl ?_
  rw [hallChange_eq (s := s.tick e) hk hj]
  dsimp only
  rw [if_neg (by omega), if_neg (by omega), if_neg (by omega)]
  obtain ⟨m1, -, -, -⟩ := hallMoved_keeps a k (s.tick e)
  generalize hallMoved a k (s.tick e) = u at *
  have he := hallError_spec a u
  generalize hallError a u = v at *
  obtain ⟨p1, p2, -, -, -⟩ := actSpots_keeps a v
  refine ⟨?_, ?_, ?_⟩
  · rw [State.actOf_of_act p1, he.sector, m1]
  · rw [State.actOf_of_act p1, he.cnt, m1]
    rfl
  · rw [State.fld_of_reg (p2 _ (actFlags_ne a)), he.flag]

theorem hallChange_illegal (e : Nat) (a : Fin 3) (code : Fin 8) (s : State) (hk : hallSector code = none) :
    Answers (.hallChange e a code) s fun t => t = s.tick e := by
  refine .of_next (t := hallChange a code (s.tick e)) rfl ?_
  unfold hallChange
  rw [hk]

theorem hallCodeError_shows (e : Nat) (a : Fin 3) (s : State) :
     Answers (.hallCodeError e a) s fun t =>
       bitN (t.fld R.ACT_FLAGS F.ACT_FLAGS.HALL) a = true ∧
       (t.actOf a).errRun = true ∧
       (s.plant = none → ((s.actOf a).errRun = false → LogReady s → Logs EV.ACT_HALL a s t)) := by
  refine .of_next (t := actMeasure a (hallError a (s.tick e))) rfl ?_
  have he := hallError_spec a (s.tick e)
  generalize hallError a (s.tick e) = v at *
  have hm := alter_actMeasure a v
  have ho := actMeasure_only (act_mem a) v
  refine ⟨?_, ?_, fun _ h hl => ?_⟩
  · rw [State.fld_of_reg (ho _ (by decide)), he.flag]
  · rw [State.actOf_of_act (hm.act rfl), he.run]
  · have hl' : LogReady (s.tick e) := hl
    exact ((he.told h hl').to_ev (hm.ev rfl)).of_ev rfl

/-! ### An actuator that coasts (R480) -/

/-- No low-voltage gate is driven that was not. -/
def LvFalls (s t : State) : Prop :=
  s.fld R.ACT_LV_STAT F.ACT_LV_STAT.GATE = 0 → t.fld R.ACT_LV_STAT F.ACT_LV_STAT.GATE = 0

theorem LvFalls.of_reg {s t : State} (h : t.reg R.ACT_LV_STAT = s.reg R.ACT_LV_STAT) : LvFalls s t :=
  fun h0 => (State.fld_of_reg h _).trans h0

theorem LvFalls.trans {s t u : State} (h : LvFalls s t) (k : LvFalls t u) : LvFalls s u := fun h0 => k (h h0)

theorem LvFalls.forEach {α : Type} {f : α → State → State} (s : State) (l : List α) (h : ∀ a x, LvFalls x (f a x)) :
    LvFalls s (forEach l f s) := by
  unfold Machine.forEach
  induction l generalizing s with
  | nil => exact fun h0 => h0
  | cons a l ih => exact (h a s).trans (ih (f a s))

theorem clrBitN_zero (b : Nat) : clrBitN 0 b = 0 := by
  unfold clrBitN
  rw [Nat.zero_testBit, if_neg (by decide)]

theorem islStat_ne_lv {g : Nat} (h : g < 64) : R.ACT_LV_STAT ≠ R.ISL_STAT g := by
  unfold R.ACT_LV_STAT R.ISL_STAT
  omega

theorem gateOff_lv (prof : Option Nat) (g step : Nat) (s : State) : LvFalls s (gateOffP prof g step s) := by
  unfold gateOffP
  extract_lets x u v
  have hu : LvFalls s u := .of_reg (Alter.reg_of_regs (State.setIsl_regs ..) _)
  clear_value u
  split
  · have hv : LvFalls u v := .of_reg (Alter.reg_of_regs (by
      unfold v
      split
      · exact startProf_regs _ _ _ _ _
      · rfl) _)
    clear_value v
    refine (hu.trans hv).trans ?_
    unfold setGate leaveFallback
    by_cases hg : 64 ≤ g
    · rw [if_pos hg, if_pos hg]
      intro h0
      unfold State.setBitAt
      rw [if_neg (by decide), State.fld_setFld_eq _ (by decide), h0, clrBitN_zero]
      rfl
    · have hne := islStat_ne_lv (g := g) (by omega)
      rw [if_neg hg, if_neg hg]
      extract_lets y w
      have hw : w.reg R.ACT_LV_STAT = v.reg R.ACT_LV_STAT := by
        unfold w
        split <;> rfl
      clear_value w
      refine .of_reg ?_
      unfold clampShow
      rw [State.reg_setBit_ne _ _ _ hne, State.reg_setBit_ne _ _ _ hne, State.reg_setBit_ne _ _ _ hne, hw]
  · exact hu

theorem unitDark_lv (k : Nat) (s : State) : LvFalls s (unitDark k s) := by
  have h1 : R.ACT_LV_STAT ≠ R.PWM_HB_CARRY k := by
    unfold R.ACT_LV_STAT R.PWM_HB_CARRY
    omega
  have h2 : R.ACT_LV_STAT ≠ R.PWM_HB_STAT k := by
    unfold R.ACT_LV_STAT R.PWM_HB_STAT
    omega
  unfold unitDark
  extract_lets u v w
  have hv : v.reg R.ACT_LV_STAT = s.reg R.ACT_LV_STAT := Alter.reg_of_regs (State.setUnit_regs ..) _
  clear_value v
  have hw : w.reg R.ACT_LV_STAT = v.reg R.ACT_LV_STAT := (State.reg_setFld_ne _ _ _ h1).trans (State.reg_setFld_ne _ _ _ h1)
  clear_value w
  exact (LvFalls.of_reg ((State.reg_setBit_ne _ _ _ h2).trans (hw.trans hv))).trans
    (LvFalls.forEach _ _ fun g x => gateOff_lv none g _ x)

theorem unitDark_cmd (k : Nat) (s : State) : CmdFalls s (unitDark k s) := by
  unfold unitDark
  extract_lets u v w
  have hv : CmdFalls s v := .of_isl (State.setUnit_isl ..)
  clear_value v
  have hw : CmdFalls v w := .of_isl ((State.setFld_isl ..).trans (State.setFld_isl ..))
  clear_value w
  exact ((hv.trans hw).trans (.of_isl (State.setBit_isl ..))).trans (gatesOff_cmd _ _)

/-- What an actuator's coasting leaves. -/
structure Coasted (s t : State) : Prop where
  fld : ∀ i f, Apart calmBit i f → i ∉ logRegs ++ [R.ACT_FLAGS, R.ACT_A_STAT 0, R.ACT_A_STAT 1, R.ACT_A_STAT 2] → t.fld i f = s.fld i f
  dark : LvFalls s t
  cmd : CmdFalls s t
  grows : s.ev.buf <+: t.ev.buf

theorem Coasted.refl (s : State) : Coasted s s := ⟨fun _ _ _ _ => rfl, fun h => h, .refl s, List.prefix_refl _⟩

theorem Coasted.trans {s t u : State} (h : Coasted s t) (k : Coasted t u) : Coasted s u :=
  ⟨fun i f h1 h2 => (k.fld i f h1 h2).trans (h.fld i f h1 h2), h.dark.trans k.dark, h.cmd.trans k.cmd, h.grows.trans k.grows⟩

theorem Coasted.bit {s t : State} (h : Coasted s t) (i : Nat) (f : Fld) (h1 : Apart calmBit i f)
    (h2 : i ∉ logRegs ++ [R.ACT_FLAGS, R.ACT_A_STAT 0, R.ACT_A_STAT 1, R.ACT_A_STAT 2]) : t.bit i f = s.bit i f := by
  unfold State.bit
  rw [h.fld i f h1 h2]

theorem faultRegs_mem (a : Fin 3) : logRegs ++ [R.ACT_FLAGS, R.ACT_A_STAT a] ⊆
    logRegs ++ [R.ACT_FLAGS, R.ACT_A_STAT 0, R.ACT_A_STAT 1, R.ACT_A_STAT 2] := by revert a; decide

theorem actCoast_coasts (a : Fin 3) (s : State) : Coasted s (actCoast a s) := by
  unfold actCoast
  split
  · exact .refl s
  · have hf : Coasted s (actFault a s) := by
      obtain ⟨-, -, -, -, ho⟩ := actFault_spec a s
      have ho' := ho.mono (faultRegs_mem a)
      have ha := alter_actFault a s
      exact ⟨fun i f _ h => State.fld_of_reg (ho' i h) f, .of_reg (ho' _ (by decide)), .of_isl (ha.isl rfl), ha.evGrows rfl⟩
    generalize actFault a s = u at *
    dsimp only
    split
    · rename_i c _
      refine hf.trans ⟨fun i f h _ => (convDark_calm c u).fld h, LvFalls.forEach _ _ unitDark_lv, CmdFalls.forEach _ _ unitDark_cmd,
        (alter_convDark c u).evGrows rfl⟩
    · exact hf

theorem actConv_bare {s : State} (h : s.plant = none) (a : Nat) : actConv s a = none := by
  unfold actConv convOfUnit unitRec
  rw [h]
  rfl

theorem actCoast_bare {s : State} (h : s.plant = none) (a : Nat) : actCoast a s = s := by
  unfold actCoast
  rw [if_pos (.inl (by rw [actConv_bare h]; rfl))]

/-! ### Lock-outs (R124, R125) -/

/-- VAUX falls: the low-voltage channels are dark, and told. -/
def vauxFalls (s : State) : State :=
  let s := s.setBit R.ACT_LV_STAT F.ACT_LV_STAT.VAUX_OK false
  let s := (s.setBit R.ACT_LV_FLAGS F.ACT_LV_FLAGS.VAUX_UV true).setBit R.DEV_SUPPLY F.DEV_SUPPLY.VAUX_OK false
  s.setFld R.ACT_LV_STAT F.ACT_LV_STAT.GATE 0

theorem vauxFalls_shows (s : State) : let t := vauxFalls s
    t.bit R.ACT_LV_STAT F.ACT_LV_STAT.VAUX_OK = false ∧ t.bit R.ACT_LV_FLAGS F.ACT_LV_FLAGS.VAUX_UV = true ∧
    t.bit R.DEV_SUPPLY F.DEV_SUPPLY.VAUX_OK = false ∧ t.fld R.ACT_LV_STAT F.ACT_LV_STAT.GATE = 0 ∧
    OnlyRegs [R.ACT_LV_STAT, R.ACT_LV_FLAGS, R.DEV_SUPPLY] s t ∧ Alter (2 ^ 36 ||| 2 ^ 67) s t := by
  intro t
  unfold t vauxFalls
  dsimp only
  refine ⟨?_, ?_, ?_, State.fld_setFld_eq _ (by decide), ?_, ?_⟩
  · rw [State.bit_setFld_beside _ (by decide), State.bit_setBit_ne _ (by decide), State.bit_setBit_ne _ (by decide),
      State.bit_setBit_eq _ (by decide)]
  · rw [State.bit_setFld_ne _ (by decide), State.bit_setBit_ne _ (by decide), State.bit_setBit_eq _ (by decide)]
  · rw [State.bit_setFld_ne _ (by decide), State.bit_setBit_eq _ (by decide)]
  · exact ((((OnlyRegs.refl _ s).setBit _ _ (by decide)).setBit _ _ (by decide)).setBit _ _ (by decide)).setFld _ _ (by decide)
  · exact ((((alter_setBit ..).mono (rm_high (by decide) rfl)).and ((alter_setBit ..).mono (rm_high (by decide) rfl))).and
      ((alter_setBit ..).mono rfl)).and ((alter_setFld ..).mono (rm_high (by decide) rfl))

theorem lvLockout_vaux (s : State) : lvLockout 9 s =
    forEach [0, 1, 2] actCoast (((vauxFalls s).raise EV.SUPPLY_LOW 0xFF []).raise EV.LV_VAUX 0xFF []) := if_pos rfl

theorem coastAll_coasts (s : State) : Coasted s (forEach [0, 1, 2] actCoast s) :=
  ((actCoast_coasts 0 s).trans (actCoast_coasts 1 _)).trans (actCoast_coasts 2 _)

theorem LogsOnly.of_supply {s t : State} (a : Alter (2 ^ 36 ||| 2 ^ 65 ||| 2 ^ 66 ||| evM) s t) : LogsOnly s t := a.eq_patch

theorem lvLockout_darkens (e : Nat) (s : State) :
     Answers (.lvLockout e 9) s fun t =>
       t.bit R.ACT_LV_STAT F.ACT_LV_STAT.VAUX_OK = false ∧
       t.bit R.ACT_LV_FLAGS F.ACT_LV_FLAGS.VAUX_UV = true ∧
       t.bit R.DEV_SUPPLY F.DEV_SUPPLY.VAUX_OK = false ∧
       t.fld R.ACT_LV_STAT F.ACT_LV_STAT.GATE = 0 ∧
       (s.plant = none → (LogReady s → Logs EV.SUPPLY_LOW 0xFF s t) ∧ OnlyRegs (logRegs ++ [R.ACT_LV_STAT,
       R.ACT_LV_FLAGS, R.DEV_SUPPLY]) s t ∧ LogsOnly s t) := by
  refine .of_next (t := lvLockout 9 (s.tick e)) rfl ?_
  rw [lvLockout_vaux]
  obtain ⟨u1, u2, u3, u4, u5, u6⟩ := vauxFalls_shows (s.tick e)
  generalize vauxFalls (s.tick e) = u at *
  have hc := coastAll_coasts ((u.raise EV.SUPPLY_LOW 0xFF []).raise EV.LV_VAUX 0xFF [])
  refine ⟨?_, ?_, ?_, hc.dark ?_, fun hp => ?_⟩
  · rw [hc.bit _ _ (by decide) (by decide), State.bit_raise _ _ _ (by decide), State.bit_raise _ _ _ (by decide), u1]
  · rw [hc.bit _ _ (by decide) (by decide), State.bit_raise _ _ _ (by decide), State.bit_raise _ _ _ (by decide), u2]
  · rw [hc.bit _ _ (by decide) (by decide), State.bit_raise _ _ _ (by decide), State.bit_raise _ _ _ (by decide), u3]
  · rw [State.fld_raise _ _ _ (by decide), State.fld_raise _ _ _ (by decide), u4]
  · have hpu : ((u.raise EV.SUPPLY_LOW 0xFF []).raise EV.LV_VAUX 0xFF []).plant = none := by
      rw [(alter_raise ..).plant rfl, (alter_raise ..).plant rfl, u6.plant rfl]
      exact hp
    have hidle : forEach [0, 1, 2] actCoast ((u.raise EV.SUPPLY_LOW 0xFF []).raise EV.LV_VAUX 0xFF []) =
        (u.raise EV.SUPPLY_LOW 0xFF []).raise EV.LV_VAUX 0xFF [] := forEach_idle _ _ _ fun a _ => actCoast_bare hpu a
    rw [hidle]
    refine ⟨fun hl => ?_, ?_, ?_⟩
    · have he : u.ev = s.ev := u6.ev rfl
      have h1 := (State.raise_logs EV.SUPPLY_LOW 0xFF [] u (hl.congr (u6.boot rfl) he)).of_ev he
      exact h1.grows (by rw [← he]; exact (alter_raise ..).evGrows rfl) ((alter_raise ..).evGrows rfl)
    · exact (((OnlyRegs.tick e s).trans u5).mono (List.subset_append_right ..)).raise _ _ _ (List.subset_append_left ..)
        |>.raise _ _ _ (List.subset_append_left ..)
    · exact LogsOnly.of_supply (((((alter_tick e s).mono rfl).and (u6.mono rfl)).and ((alter_raise ..).mono rfl)).and
        ((alter_raise ..).mono rfl))

theorem lvLockout_boot {w : Nat} (h : w ≠ 9) (s : State) : lvLockout w s =
    (((s.setBitAt R.ACT_LV_STAT F.ACT_LV_STAT.BOOT_OK w false).setBitAt R.ACT_LV_FLAGS F.ACT_LV_FLAGS.BOOT_UV w true).setBitAt
      R.ACT_LV_STAT F.ACT_LV_STAT.GATE (2 * w) false).raise EV.LV_BOOT_UV (2 * w) [] := if_neg h

theorem boot_lt (w : Fin 10) (h : w ≠ 9) : w.val < 9 := by
  have : w.val ≠ 9 := fun hw => h (Fin.ext hw)
  omega

theorem lvLockout_shows (e : Nat) (w : Fin 10) (s : State) (hw : w ≠ 9) :
     Answers (.lvLockout e w) s fun t =>
       bitN (t.fld R.ACT_LV_STAT F.ACT_LV_STAT.BOOT_OK) w = false ∧
       bitN (t.fld R.ACT_LV_FLAGS F.ACT_LV_FLAGS.BOOT_UV) w = true ∧
       bitN (t.fld R.ACT_LV_STAT F.ACT_LV_STAT.GATE) (2 * w) = false ∧ (LogReady s → Logs EV.LV_BOOT_UV (2 * w) s t) ∧
       OnlyRegs (logRegs ++ [R.ACT_LV_STAT, R.ACT_LV_FLAGS]) s t ∧ LogsOnly s t := by
  refine .of_next (t := lvLockout w (s.tick e)) rfl ?_
  have h9 := boot_lt w hw
  rw [lvLockout_boot (by omega)]
  have hu : ∀ {i f b} {u : State} (k : Nat), 64 ≤ i → Alter (2 ^ 67) u (u.setBitAt i f k b) := fun k hi =>
    (alter_setBitAt ..).mono (rm_high hi rfl)
  have ha : Alter (2 ^ 67) (s.tick e) ((((s.tick e).setBitAt R.ACT_LV_STAT F.ACT_LV_STAT.BOOT_OK w false).setBitAt R.ACT_LV_FLAGS
      F.ACT_LV_FLAGS.BOOT_UV w true).setBitAt R.ACT_LV_STAT F.ACT_LV_STAT.GATE (2 * w) false) :=
    ((hu _ (by decide)).and (hu _ (by decide))).and (hu _ (by decide))
  have ho : OnlyRegs [R.ACT_LV_STAT, R.ACT_LV_FLAGS] s ((((s.tick e).setBitAt R.ACT_LV_STAT F.ACT_LV_STAT.BOOT_OK w false).setBitAt
      R.ACT_LV_FLAGS F.ACT_LV_FLAGS.BOOT_UV w true).setBitAt R.ACT_LV_STAT F.ACT_LV_STAT.GATE (2 * w) false) :=
    (((OnlyRegs.tick e s).setBitAt _ _ _ (by decide)).setBitAt _ _ _ (by decide)).setBitAt _ _ _ (by decide)
  refine ⟨?_, ?_, ?_, fun hl => ?_, (ho.mono (List.subset_append_right ..)).raise _ _ _ (List.subset_append_left ..), ?_⟩
  · rw [State.fld_raise _ _ _ (by decide), State.fld_setBitAt_beside _ (by decide), State.fld_setBitAt_ne _ (by decide),
      State.bitN_setBitAt _ (by decide) h9]
  · rw [State.fld_raise _ _ _ (by decide), State.fld_setBitAt_ne _ (by decide), State.bitN_setBitAt _ (by decide) h9]
  · rw [State.fld_raise _ _ _ (by decide), State.bitN_setBitAt _ (by decide) (by rw [show F.ACT_LV_STAT.GATE.width = 18 from rfl]; omega)]
  · have he := ha.ev rfl
    exact (State.raise_logs _ _ _ _ (LogReady.congr (s := s) hl (ha.boot rfl) he)).of_ev he
  · exact LogsOnly.of_alter ((((alter_tick e s).mono rfl).and (ha.mono rfl)).and ((alter_raise ..).mono rfl))

theorem lvRelease_vaux (s : State) (h : ∀ g : Fin 18, (s.islOf (64 + g)).cmdOn = false) : lvRelease 9 s =
    (s.setBit R.ACT_LV_STAT F.ACT_LV_STAT.VAUX_OK true).setBit R.DEV_SUPPLY F.DEV_SUPPLY.VAUX_OK true := by
  have hi : ((s.setBit R.ACT_LV_STAT F.ACT_LV_STAT.VAUX_OK true).setBit R.DEV_SUPPLY F.DEV_SUPPLY.VAUX_OK true).isl = s.isl :=
    (State.setBit_isl ..).trans (State.setBit_isl ..)
  unfold lvRelease
  rw [if_pos rfl]
  dsimp only
  generalize (s.setBit R.ACT_LV_STAT F.ACT_LV_STAT.VAUX_OK true).setBit R.DEV_SUPPLY F.DEV_SUPPLY.VAUX_OK true = u at *
  refine forEach_idle _ _ _ fun g hg => ?_
  obtain ⟨k, hk, rfl⟩ := List.mem_map.mp hg
  have hc : (u.islOf (64 + k)).cmdOn = false := by
    rw [State.islOf_of_isl hi]
    exact h ⟨k, List.mem_range.mp hk⟩
  rw [if_neg (by rw [hc]; simp)]

theorem RegsOnly.of_supply {s t : State} (a : Alter (2 ^ 36 ||| 2 ^ 65 ||| 2 ^ 66 ||| 2 ^ 67) s t) : RegsOnly s t := a.eq_patch

theorem lvRelease_ends (e : Nat) (s : State) (h : ∀ g : Fin 18, (s.islOf (64 + g)).cmdOn = false) :
     Answers (.lvLockoutRelease e 9) s fun t =>
       t.bit R.ACT_LV_STAT F.ACT_LV_STAT.VAUX_OK = true ∧ t.bit R.DEV_SUPPLY F.DEV_SUPPLY.VAUX_OK = true ∧
       OnlyRegs [R.ACT_LV_STAT, R.DEV_SUPPLY] s t ∧ RegsOnly s t := by
  refine .of_next (t := lvRelease 9 (s.tick e)) rfl ?_
  rw [lvRelease_vaux (s.tick e) h]
  refine ⟨?_, State.bit_setBit_eq _ (by decide), ?_, ?_⟩
  · rw [State.bit_setBit_ne _ (by decide), State.bit_setBit_eq _ (by decide)]
  · exact ((OnlyRegs.tick e s).setBit _ _ (by decide)).setBit _ _ (by decide)
  · exact RegsOnly.of_supply ((((alter_tick e s).mono rfl).and ((alter_setBit ..).mono (rm_high (by decide) rfl))).and
      ((alter_setBit ..).mono rfl))

theorem Alter.islPatch {s t : State} (a : Alter (2 ^ 65 ||| 2 ^ 66 ||| 2 ^ 67 ||| 2 ^ 86) s t) :
    t = { s with el := t.el, dt := t.dt, regs := t.regs, isl := t.isl } := a.eq_patch

/-- A bootstrap supply's channel waits for its next turn-on edge. -/
def bootWaits (w : Nat) (s : State) : State :=
  if bitN (s.fld R.ACT_LV_STAT F.ACT_LV_STAT.BOOT_OK) w then s
  else s.setIsl (64 + 2 * w) { s.islOf (64 + 2 * w) with needOff := (s.islOf (64 + 2 * w)).cmdOn }

theorem lvRelease_boot {w : Nat} (h : w ≠ 9) (s : State) : lvRelease w s =
    (bootWaits w s).setBitAt R.ACT_LV_STAT F.ACT_LV_STAT.BOOT_OK w true := if_neg h

theorem bootWaits_keeps (w : Nat) (s : State) : (bootWaits w s).regs = s.regs ∧ Alter (2 ^ 86) s (bootWaits w s) := by
  unfold bootWaits
  split
  · exact ⟨rfl, .refl _ s⟩
  · exact ⟨State.setIsl_regs .., (alter_setIsl ..).mono rfl⟩

theorem lvRelease_shows (e : Nat) (w : Fin 10) (s : State) (hw : w ≠ 9) :
     Answers (.lvLockoutRelease e w) s fun t =>
       bitN (t.fld R.ACT_LV_STAT F.ACT_LV_STAT.BOOT_OK) w = true ∧ OnlyRegs [R.ACT_LV_STAT] s t ∧
       t = { s with el := t.el, dt := t.dt, regs := t.regs, isl := t.isl } := by
  refine .of_next (t := lvRelease w (s.tick e)) rfl ?_
  have h9 := boot_lt w hw
  rw [lvRelease_boot (by omega)]
  obtain ⟨b1, b2⟩ := bootWaits_keeps w (s.tick e)
  have hs : (s.tick e).regs = s.regs := rfl
  have ha : Alter (2 ^ 65 ||| 2 ^ 66 ||| 2 ^ 67 ||| 2 ^ 86) s (bootWaits w (s.tick e)) := ((alter_tick e s).mono rfl).and (b2.mono rfl)
  generalize bootWaits w (s.tick e) = u at *
  exact ⟨State.bitN_setBitAt _ (by decide) h9, (OnlyRegs.of_regs (b1.trans hs)).setBitAt _ _ _ (by decide),
    (ha.and ((alter_setBitAt ..).mono (rm_high (by decide) rfl))).islPatch⟩

/-! ### The gate check (R126) -/

/-- A gate that disagrees: its half-bridge goes dark, and it is told. -/
def gateFails (ch : Nat) (s : State) : State :=
  ((gatesOff [64 + 2 * (ch / 2), 65 + 2 * (ch / 2)] s).setBitAt R.ACT_LV_FLAGS F.ACT_LV_FLAGS.GATE_FB ch true).raise EV.LV_GATE ch []

theorem lvGateCheck_fails {ch mv : Nat} {s : State} (he : s.bit R.ACT_LV_CFG F.ACT_LV_CFG.FB_EN = true)
    (hm : if (s.islOf (64 + ch)).cmdOn then mv < 6000 else 2000 < mv) : lvGateCheck ch mv s =
      if (gateFails ch s).mode = Mode.safe ∨ aBraked (gateFails ch s) (ch / 2 / 3) then gateFails ch s
      else actCoast (ch / 2 / 3) (gateFails ch s) := by
  have hc : (!s.bit R.ACT_LV_CFG F.ACT_LV_CFG.FB_EN || if (s.islOf (64 + ch)).cmdOn then decide (6000 ≤ mv) else decide (mv ≤ 2000)) = false := by
    rw [he, Bool.not_true, Bool.false_or]
    split at hm
    · rename_i h
      rw [if_pos h, decide_eq_false (by omega)]
    · rename_i h
      rw [if_neg h, decide_eq_false (by omega)]
  unfold lvGateCheck
  dsimp only
  rw [if_neg (by rw [hc]; decide)]
  rfl

theorem lvGateCheck_passes {ch mv : Nat} {s : State} (h : s.bit R.ACT_LV_CFG F.ACT_LV_CFG.FB_EN = false ∨
    (if (s.islOf (64 + ch)).cmdOn then 6000 ≤ mv else mv ≤ 2000)) : lvGateCheck ch mv s = s := by
  have hc : (!s.bit R.ACT_LV_CFG F.ACT_LV_CFG.FB_EN || if (s.islOf (64 + ch)).cmdOn then decide (6000 ≤ mv) else decide (mv ≤ 2000)) = true := by
    rcases h with h | h
    · rw [h, Bool.not_false, Bool.true_or]
    · split at h
      · rename_i hc
        rw [if_pos hc, decide_eq_true h, Bool.or_true]
      · rename_i hc
        rw [if_neg hc, decide_eq_true h, Bool.or_true]
  unfold lvGateCheck
  dsimp only
  rw [if_pos hc]

theorem gateFails_spec (ch : Fin 18) (s : State) : let t := gateFails ch s
    bitN (t.fld R.ACT_LV_FLAGS F.ACT_LV_FLAGS.GATE_FB) ch = true ∧ (t.islOf (64 + ch)).cmdOn = false ∧
    (LogReady s → Logs EV.LV_GATE ch s t) ∧ s.ev.buf <+: t.ev.buf := by
  intro t
  have hoff : ((gatesOff [64 + 2 * (ch.val / 2), 65 + 2 * (ch.val / 2)] s).islOf (64 + ch)).cmdOn = false :=
    gatesOff_off (by
      have : ch.val % 2 = 0 ∨ ch.val % 2 = 1 := by omega
      rw [List.mem_cons, List.mem_singleton]
      omega) s
  have ha := alter_gatesOff [64 + 2 * (ch.val / 2), 65 + 2 * (ch.val / 2)] s
  unfold t gateFails
  generalize gatesOff [64 + 2 * (ch.val / 2), 65 + 2 * (ch.val / 2)] s = u at *
  refine ⟨?_, ?_, fun hl => ?_, ?_⟩
  · rw [State.fld_raise _ _ _ (by decide), State.bitN_setBitAt _ (by decide) ch.isLt]
  · rw [State.islOf_of_isl ((alter_raise ..).isl rfl), State.islOf_of_isl (State.setBitAt_isl ..), hoff]
  · have he : (u.setBitAt R.ACT_LV_FLAGS F.ACT_LV_FLAGS.GATE_FB ch true).ev = s.ev := (State.setBitAt_ev ..).trans (ha.ev rfl)
    exact (State.raise_logs _ _ _ _ (hl.congr ((State.setBitAt_boot ..).trans (ha.boot rfl)) he)).of_ev he
  · have he : (u.setBitAt R.ACT_LV_FLAGS F.ACT_LV_FLAGS.GATE_FB ch true).ev = s.ev := (State.setBitAt_ev ..).trans (ha.ev rfl)
    rw [← he]
    exact (alter_raise ..).evGrows rfl

theorem lvGateCheck_flags (e mv : Nat) (ch : Fin 18) (s : State) (hen : s.bit R.ACT_LV_CFG F.ACT_LV_CFG.FB_EN = true)
    (hm : if (s.islOf (64 + ch)).cmdOn then mv < 6000 else 2000 < mv) :
     Answers (.lvGateCheck e ch mv) s fun t =>
       bitN (t.fld R.ACT_LV_FLAGS F.ACT_LV_FLAGS.GATE_FB) ch = true ∧
       (t.islOf (64 + ch)).cmdOn = false ∧
       (s.plant = none → (LogReady s → Logs EV.LV_GATE ch s t)) := by
  refine .of_next (t := lvGateCheck ch mv (s.tick e)) rfl ?_
  rw [lvGateCheck_fails (s := s.tick e) hen hm]
  obtain ⟨u1, u2, u3, hgr⟩ := gateFails_spec ch (s.tick e)
  generalize gateFails ch (s.tick e) = u at *
  have hlog : LogReady s → Logs EV.LV_GATE ch s u := fun hl => (u3 hl).of_ev rfl
  split
  · exact ⟨u1, u2, fun _ => hlog⟩
  · have hc := actCoast_coasts ⟨ch.val / 2 / 3, by omega⟩ u
    dsimp only at hc
    refine ⟨?_, hc.cmd _ u2, fun _ hl => (hlog hl).grows hgr hc.grows⟩
    rw [hc.fld _ _ (by decide) (by decide), u1]

/-- Settles O30: a hall code acts on the actuator's record and its status; the channels' lock-outs and checks act on the bits they name,
which no actuator that coasts writes. -/
theorem hallAndLowVoltageGates : Obligations.HallAndLowVoltageGates := by
  unfold Obligations.HallAndLowVoltageGates
  exact ⟨hallChange_first, hallChange_steps, hallChange_jumps, hallChange_illegal, hallCodeError_shows, lvLockout_darkens,
    lvLockout_shows, lvRelease_ends, lvRelease_shows, lvGateCheck_flags,
    fun e mv ch s h => .of_next (t := lvGateCheck ch mv (s.tick e)) rfl (lvGateCheck_passes (s := s.tick e) h)⟩

end Sys2Proof.Machine
end

section
/-! SUPPORT. The chop comparator, the inhibit of regeneration, the test pulse, and the settling of O25 (R409, R414, R416 to R418). -/

namespace Sys2Proof.Machine

set_option Elab.async false

/-! ### The supervisor's record -/

/-- The test interval's verdict stands, and a permit that is not on its way does not come on its way. -/
structure DclKept (s t : State) : Prop where
  bad : t.dcl.testBad = s.dcl.testBad
  due : s.dcl.regenDue = none → t.dcl.regenDue = none

theorem DclKept.of_dcl {s t : State} (h : t.dcl = s.dcl) : DclKept s t := ⟨by rw [h], fun hd => by rw [h, hd]⟩

theorem DclKept.trans {s t u : State} (h : DclKept s t) (k : DclKept t u) : DclKept s u :=
  ⟨k.bad.trans h.bad, fun hd => k.due (h.due hd)⟩

theorem dclSlots_kept (s : State) : (dclSlots s).dcl.testBad = s.dcl.testBad ∧ (dclSlots s).dcl.regenDue = s.dcl.regenDue := by
  unfold dclSlots
  extract_lets vb ib inh mode vref top ich was x1 d x2 x3 x4 x5 x6 x7 x8 x9 x10 iref
  have h1 : x1.dcl = s.dcl := State.setFld_dcl ..
  have h2 : x2.dcl.testBad = x1.dcl.testBad ∧ x2.dcl.regenDue = x1.dcl.regenDue := by
    unfold x2
    split
    · exact ⟨rfl, rfl⟩
    · exact ⟨rfl, rfl⟩
  have h3 : x3.dcl = x2.dcl := (alter_forEach (m := 2 ^ 88) _ _ x2 fun _ _ => (alter_setConv ..).mono rfl).dcl rfl
  have h4 : x4.dcl = x3.dcl := State.setSp_dcl ..
  have h5 : x5.dcl = x4.dcl := State.setSp_dcl ..
  have h6 : x6.dcl = x5.dcl := State.setSp_dcl ..
  have h7 : x7.dcl = x6.dcl := State.setSp_dcl ..
  have h8 : x8.dcl = x7.dcl := State.setSp_dcl ..
  have h9 : x9.dcl = x8.dcl := State.setSp_dcl ..
  have h10 : x10.dcl = x9.dcl := State.setSp_dcl ..
  clear_value x10 x9 x8 x7 x6 x5 x4 x3 x2 x1
  rw [State.setSp_dcl, h10, h9, h8, h7, h6, h5, h4, h3, h2.1, h2.2, h1]
  exact ⟨rfl, rfl⟩

theorem dclSlots_dclKept (s : State) : DclKept s (dclSlots s) := ⟨(dclSlots_kept s).1, fun h => (dclSlots_kept s).2.trans h⟩

/-- No permit is on its way, and FOLLOW resumes from 0. -/
def permitGone (s : State) : State :=
  { s with dcl := { s.dcl with regenDue := none, sp23 := 0 }, chg := { s.chg with acc := 0 } }

theorem permitGone_keeps (s : State) : (permitGone s).dcl.regenDue = none ∧ (permitGone s).dcl.testBad = s.dcl.testBad ∧
    (permitGone s).regs = s.regs ∧ (permitGone s).ev = s.ev ∧ (permitGone s).boot = s.boot ∧ (permitGone s).dt = s.dt :=
  ⟨rfl, rfl, rfl, rfl, rfl, rfl⟩

/-- The inhibit and the absorption are over, before the slots are read anew. -/
def regenOver (s : State) : State :=
  permitGone ((s.setBit R.DCL_STAT F.DCL_STAT.REGEN_INH false).setBit R.DCL_STAT F.DCL_STAT.ABSORB false)

theorem regenOver_spec (s : State) : let t := regenOver s
    t.bit R.DCL_STAT F.DCL_STAT.REGEN_INH = false ∧ t.bit R.DCL_STAT F.DCL_STAT.ABSORB = false ∧ t.dcl.regenDue = none ∧
    t.dcl.testBad = s.dcl.testBad ∧ OnlyRegs [R.DCL_STAT] s t ∧ t.ev = s.ev ∧ t.boot = s.boot ∧ t.dt = s.dt := by
  intro t
  have hu : let u := (s.setBit R.DCL_STAT F.DCL_STAT.REGEN_INH false).setBit R.DCL_STAT F.DCL_STAT.ABSORB false
      u.bit R.DCL_STAT F.DCL_STAT.REGEN_INH = false ∧ u.bit R.DCL_STAT F.DCL_STAT.ABSORB = false ∧ u.dcl = s.dcl ∧
      OnlyRegs [R.DCL_STAT] s u ∧ u.ev = s.ev ∧ u.boot = s.boot ∧ u.dt = s.dt := by
    refine ⟨?_, State.bit_setBit_eq _ (by decide), (State.setBit_dcl ..).trans (State.setBit_dcl ..),
      ((OnlyRegs.refl _ s).setBit _ _ (by decide)).setBit _ _ (by decide), (State.setBit_ev ..).trans (State.setBit_ev ..),
      (State.setBit_boot ..).trans (State.setBit_boot ..), (State.setBit_dt ..).trans (State.setBit_dt ..)⟩
    rw [State.bit_setBit_beside _ (by decide), State.bit_setBit_eq _ (by decide)]
  unfold t regenOver
  generalize (s.setBit R.DCL_STAT F.DCL_STAT.REGEN_INH false).setBit R.DCL_STAT F.DCL_STAT.ABSORB false = u at *
  obtain ⟨u1, u2, u3, u4, u5, u6, u7⟩ := hu
  obtain ⟨p1, p2, p3, p4, p5, p6⟩ := permitGone_keeps u
  generalize permitGone u = t at *
  exact ⟨(State.bit_of_reg (Alter.reg_of_regs p3 _) _).trans u1, (State.bit_of_reg (Alter.reg_of_regs p3 _) _).trans u2, p1,
    by rw [p2, u3], u4.congr p3, p4.trans u5, p5.trans u6, p6.trans u7⟩

theorem regenEnds_eq {s : State} (h : s.bit R.DCL_STAT F.DCL_STAT.REGEN_INH = true) :
    regenEnds s = (dclSlots (regenOver s)).raise EV.REGEN_PERMIT 0xFF [] := by
  unfold regenEnds
  rw [if_neg (by rw [h]; decide)]
  rfl

theorem regenEnds_dclKept (s : State) : DclKept s (regenEnds s) := by
  by_cases h : s.bit R.DCL_STAT F.DCL_STAT.REGEN_INH = true
  · rw [regenEnds_eq h]
    obtain ⟨-, -, r3, r4, -, -, -, -⟩ := regenOver_spec s
    have ho : DclKept s (regenOver s) := ⟨r4, fun _ => r3⟩
    exact (ho.trans (dclSlots_dclKept _)).trans (.of_dcl ((alter_raise ..).dcl rfl))
  · unfold regenEnds
    rw [if_pos (by simpa using h)]
    exact .of_dcl rfl

/-- The inhibit and the absorption begin, before the slots are read anew. -/
def regenOn (s : State) : State :=
  ((s.setBit R.DCL_STAT F.DCL_STAT.REGEN_INH true).setBit R.DCL_STAT F.DCL_STAT.ABSORB true).setBit R.DCL_FLAGS F.DCL_FLAGS.REGEN_INH true

theorem regenOn_spec (s : State) : let t := regenOn s
    t.bit R.DCL_STAT F.DCL_STAT.REGEN_INH = true ∧ t.bit R.DCL_STAT F.DCL_STAT.ABSORB = true ∧
    t.bit R.DCL_FLAGS F.DCL_FLAGS.REGEN_INH = true ∧ Alter (2 ^ 67) s t := by
  intro t
  unfold t regenOn
  refine ⟨?_, ?_, State.bit_setBit_eq _ (by decide), ((alter_setBit ..).mono (rm_high (by decide) rfl)).and
    ((alter_setBit ..).mono (rm_high (by decide) rfl)) |>.and ((alter_setBit ..).mono (rm_high (by decide) rfl))⟩
  · rw [State.bit_setBit_ne _ (by decide), State.bit_setBit_beside _ (by decide), State.bit_setBit_eq _ (by decide)]
  · rw [State.bit_setBit_ne _ (by decide), State.bit_setBit_eq _ (by decide)]

theorem regenBegins_eq {s : State} (h : s.bit R.DCL_STAT F.DCL_STAT.REGEN_INH = false) :
    regenBegins s = (dclSlots (regenOn s)).raise EV.REGEN_INHIBIT 0xFF [] := by
  unfold regenBegins
  rw [if_neg (by rw [h]; decide)]
  rfl

theorem regenBegins_idle {s : State} (h : s.bit R.DCL_STAT F.DCL_STAT.REGEN_INH = true) : regenBegins s = s := if_pos h

theorem regenBegins_dclKept (s : State) : DclKept s (regenBegins s) := by
  by_cases h : s.bit R.DCL_STAT F.DCL_STAT.REGEN_INH = true
  · rw [regenBegins_idle h]
    exact .of_dcl rfl
  · rw [regenBegins_eq (Bool.eq_false_iff.mpr h)]
    obtain ⟨-, -, -, ha⟩ := regenOn_spec s
    exact ((DclKept.of_dcl (ha.dcl rfl)).trans (dclSlots_dclKept _)).trans (.of_dcl ((alter_raise ..).dcl rfl))

theorem linkEval_dclKept (s : State) : DclKept s (linkEval s) := by
  unfold linkEval
  extract_lets inDrive u av v w
  have hu : u.dcl = s.dcl := (alter_forEach (m := 2 ^ 88) _ _ s fun _ _ => (alter_setConv ..).mono rfl).dcl rfl
  clear_value u
  have hv : v.dcl = s.dcl := (State.setBit_dcl ..).trans hu
  clear_value v
  have hw : DclKept s w := by
    refine .of_dcl (.trans ?_ hv)
    unfold w
    split
    · exact (alter_dischargeStops ..).dcl rfl
    · rfl
  clear_value w
  split
  · exact (hw.trans (regenEnds_dclKept w)).trans (dclSlots_dclKept _)
  · split
    · exact (hw.trans (regenBegins_dclKept w)).trans (dclSlots_dclKept _)
    · exact hw.trans (dclSlots_dclKept _)

/-! ### CHOP asserted (R416, R417) -/

/-- No permit is on its way, and the test interval is spoiled. -/
def permitBarred (s : State) : State := { s with dcl := { s.dcl with regenDue := none, testBad := true } }

theorem permitBarred_keeps (s : State) : (permitBarred s).dcl.regenDue = none ∧ (permitBarred s).dcl.testBad = true ∧
    (permitBarred s).regs = s.regs ∧ Alter (2 ^ 97) s (permitBarred s) := ⟨rfl, rfl, rfl, alter_dcl ..⟩

/-- CHOP stands. -/
def chopStands (s : State) : State := permitBarred (s.setBit R.DCL_STAT F.DCL_STAT.CHOP_CMP true)

theorem chopStands_spec (s : State) : let t := chopStands s
    t.bit R.DCL_STAT F.DCL_STAT.CHOP_CMP = true ∧
    t.bit R.DCL_STAT F.DCL_STAT.REGEN_INH = s.bit R.DCL_STAT F.DCL_STAT.REGEN_INH ∧ t.dcl.regenDue = none ∧ t.dcl.testBad = true ∧
    Alter (2 ^ 67 ||| 2 ^ 97) s t := by
  intro t
  have hu : let u := s.setBit R.DCL_STAT F.DCL_STAT.CHOP_CMP true
      u.bit R.DCL_STAT F.DCL_STAT.CHOP_CMP = true ∧
      u.bit R.DCL_STAT F.DCL_STAT.REGEN_INH = s.bit R.DCL_STAT F.DCL_STAT.REGEN_INH ∧ Alter (2 ^ 67) s u :=
    ⟨State.bit_setBit_eq _ (by decide), State.bit_setBit_beside _ (by decide), (alter_setBit ..).mono (rm_high (by decide) rfl)⟩
  unfold t chopStands
  generalize s.setBit R.DCL_STAT F.DCL_STAT.CHOP_CMP true = u at *
  obtain ⟨u1, u2, u3⟩ := hu
  obtain ⟨p1, p2, p3, p4⟩ := permitBarred_keeps u
  generalize permitBarred u = t at *
  exact ⟨(State.bit_of_reg (Alter.reg_of_regs p3 _) _).trans u1, (State.bit_of_reg (Alter.reg_of_regs p3 _) _).trans u2, p1, p2,
    (u3.mono rfl).and (p4.mono rfl)⟩

theorem chopper_bare {s : State} (h : s.plant = none) : chopper s = none ∧ convsKind s 2 = [] := by
  have : convsKind s 2 = [] := by
    unfold convsKind convs
    rw [h]
    rfl
  unfold chopper
  rw [this]
  exact ⟨rfl, rfl⟩

/-- With no plant, no shared chopper and no discharge, the supervisor inhibits regeneration while CHOP stands. -/
theorem linkEval_inhibits {s : State} (hp : s.plant = none) (hc : s.pairUse.chop = false) (hd : s.discharging = false)
    (hs : s.bit R.DCL_STAT F.DCL_STAT.CHOP_CMP = true) :
    linkEval s = dclSlots (regenBegins (s.setBit R.DCL_CHOP_STAT F.DCL_CHOP_STAT.AVAIL false)) := by
  have hav : chopAvail s = false := by
    unfold chopAvail chopSound
    rw [(chopper_bare hp).1]
    rfl
  unfold linkEval
  extract_lets inDrive s1 av s2 s3
  have h1 : s1 = s := by
    unfold s1
    rw [(chopper_bare hp).2, forEach_nil]
  have h2 : s2 = s.setBit R.DCL_CHOP_STAT F.DCL_CHOP_STAT.AVAIL false := by
    unfold s2 av
    rw [h1, hav]
  have ha : av = false := by
    unfold av
    rw [h1, hav]
  unfold s3
  rw [h2, ha, Bool.false_or]
  clear h1 h2 ha
  clear_value s3 s2 av s1
  have hv : (s.setBit R.DCL_CHOP_STAT F.DCL_CHOP_STAT.AVAIL false).discharging = false ∧
      (s.setBit R.DCL_CHOP_STAT F.DCL_CHOP_STAT.AVAIL false).pairUse.chop = false ∧
      (s.setBit R.DCL_CHOP_STAT F.DCL_CHOP_STAT.AVAIL false).bit R.DCL_STAT F.DCL_STAT.CHOP_CMP = true :=
    ⟨(State.setBit_discharging ..).trans hd, (congrArg PairUse.chop (State.setBit_pairUse ..)).trans hc,
      (State.bit_setBit_ne _ (by decide)).trans hs⟩
  generalize s.setBit R.DCL_CHOP_STAT F.DCL_CHOP_STAT.AVAIL false = v at *
  obtain ⟨v1, v2, v3⟩ := hv
  have he : (if (v.discharging && v.mode == Mode.ready && !chopSound v) = true then dischargeStops v else v) = v :=
    if_neg (by rw [v1]; simp)
  rw [he, if_neg (by rw [v2]; decide), if_pos v3]

theorem dclSlots_bit {f : Fld} (s : State) (hf : Fld.Beside f F.DCL_STAT.DCDC_MODE) :
    (dclSlots s).bit R.DCL_STAT f = s.bit R.DCL_STAT f :=
  (State.bit_of_reg (dclSlots_word s) _).trans (State.bit_setFld_beside _ hf)

theorem dclSlots_flags {f : Fld} (s : State) : (dclSlots s).bit R.DCL_FLAGS f = s.bit R.DCL_FLAGS f :=
  State.bit_of_reg (dclSlots_only s _ (by decide)) _

theorem chopAssert_shows (e : Nat) (uv : BitVec 24) (s : State) (h : pinAbove s (s.fld R.DCL_THR F.DCL_THR.VCHOP) uv.toNat = true) :
     Answers (.chopAssert ⟨e, uv⟩) s fun t =>
       t.bit R.DCL_STAT F.DCL_STAT.CHOP_CMP = true ∧
       t.dcl.regenDue = none ∧
       t.dcl.testBad = true ∧
       (s.plant = none → s.pairUse.chop = false → s.discharging = false → t.bit R.DCL_STAT F.DCL_STAT.REGEN_INH =
       true ∧ (s.bit R.DCL_STAT F.DCL_STAT.REGEN_INH = false → t.bit R.DCL_STAT F.DCL_STAT.ABSORB = true ∧ t.bit
       R.DCL_FLAGS F.DCL_FLAGS.REGEN_INH = true ∧ (LogReady s → Logs EV.REGEN_INHIBIT 0xFF s t))) := by
  refine .of_next (t := chopAssert uv.toNat (s.tick e)) rfl ?_
  have heq : chopAssert uv.toNat (s.tick e) = linkEval (chopStands (s.tick e)) := if_pos h
  rw [heq]
  obtain ⟨u1, u2, u3, u4, u5⟩ := chopStands_spec (s.tick e)
  generalize chopStands (s.tick e) = u at *
  have hk := linkEval_dclKept u
  refine ⟨((linkEval_calm u).bit (by decide)).trans u1, hk.due u3, hk.bad.trans u4, fun hp hc hd => ?_⟩
  rw [linkEval_inhibits ((u5.plant rfl).trans hp) ((congrArg PairUse.chop (u5.pairUse rfl)).trans hc) ((u5.discharging rfl).trans hd) u1]
  have hv : (u.setBit R.DCL_CHOP_STAT F.DCL_CHOP_STAT.AVAIL false).bit R.DCL_STAT F.DCL_STAT.REGEN_INH =
      s.bit R.DCL_STAT F.DCL_STAT.REGEN_INH ∧ Alter (2 ^ 67) u (u.setBit R.DCL_CHOP_STAT F.DCL_CHOP_STAT.AVAIL false) :=
    ⟨(State.bit_setBit_ne _ (by decide)).trans u2, (alter_setBit ..).mono (rm_high (by decide) rfl)⟩
  generalize u.setBit R.DCL_CHOP_STAT F.DCL_CHOP_STAT.AVAIL false = v at *
  obtain ⟨v1, v2⟩ := hv
  by_cases hi : s.bit R.DCL_STAT F.DCL_STAT.REGEN_INH = true
  · rw [regenBegins_idle (v1.trans hi), dclSlots_bit _ (by decide), v1]
    exact ⟨hi, fun hn => absurd hi (by rw [hn]; decide)⟩
  · rw [regenBegins_eq (v1.trans (Bool.eq_false_iff.mpr hi))]
    obtain ⟨w1, w2, w3, w4⟩ := regenOn_spec v
    generalize regenOn v = w at *
    have hr : (dclSlots w).ev = s.ev ∧ (dclSlots w).boot = s.boot := by
      have ha := alter_dclSlots w
      exact ⟨by rw [ha.ev rfl, w4.ev rfl, v2.ev rfl, u5.ev rfl]; rfl, by rw [ha.boot rfl, w4.boot rfl, v2.boot rfl, u5.boot rfl]; rfl⟩
    refine ⟨?_, fun _ => ⟨?_, ?_, fun hl => ?_⟩⟩
    · rw [dclSlots_bit _ (by decide), State.bit_raise _ _ _ (by decide), dclSlots_bit _ (by decide), w1]
    · rw [dclSlots_bit _ (by decide), State.bit_raise _ _ _ (by decide), dclSlots_bit _ (by decide), w2]
    · rw [dclSlots_flags, State.bit_raise _ _ _ (by decide), dclSlots_flags, w3]
    · exact ((State.raise_logs _ _ _ _ (hl.congr hr.2 hr.1)).of_ev hr.1).to_ev ((alter_dclSlots _).ev rfl)

/-! ### CHOP released (R418) -/

/-- The 100 ms toward the permit begin where an inhibit runs. -/
def permitWaits (s : State) : State :=
  { s with dcl := { s.dcl with regenDue := if s.bit R.DCL_STAT F.DCL_STAT.REGEN_INH then some (s.dt + 20000000) else none } }

theorem permitWaits_keeps (s : State) : (permitWaits s).dcl.regenDue =
      (if s.bit R.DCL_STAT F.DCL_STAT.REGEN_INH then some (s.dt + 20000000) else none) ∧ (permitWaits s).regs = s.regs ∧
    (permitWaits s).dt = s.dt ∧ (permitWaits s).el = s.el ∧ Alter (2 ^ 97) s (permitWaits s) := ⟨rfl, rfl, rfl, rfl, alter_dcl ..⟩

theorem Alter.dclPatch {s t : State} (a : Alter (2 ^ 65 ||| 2 ^ 66 ||| 2 ^ 67 ||| 2 ^ 97) s t) :
    t = { s with el := t.el, dt := t.dt, regs := t.regs, dcl := t.dcl } := a.eq_patch

theorem chopRelease_eq {uv : Nat} {s : State} (hb : pinBelow s (s.fld R.DCL_THR F.DCL_THR.VCHOP) uv = true)
    (hc : s.bit R.DCL_STAT F.DCL_STAT.CHOP_CMP = true) :
    chopRelease uv s = permitWaits (s.setBit R.DCL_STAT F.DCL_STAT.CHOP_CMP false) := by
  unfold chopRelease
  rw [if_neg (by rw [hc, hb]; decide)]
  rfl

theorem chopRelease_waits (e : Nat) (uv : BitVec 24) (s : State) (hb : pinBelow s (s.fld R.DCL_THR F.DCL_THR.VCHOP) uv.toNat = true)
    (hc : s.bit R.DCL_STAT F.DCL_STAT.CHOP_CMP = true) :
     Answers (.chopRelease ⟨e, uv⟩) s fun t =>
       t.bit R.DCL_STAT F.DCL_STAT.CHOP_CMP = false ∧
       t.dcl.regenDue = (if s.bit R.DCL_STAT F.DCL_STAT.REGEN_INH then some (t.dt + 20000000) else none) ∧
       Passes e s t ∧
       OnlyRegs [R.DCL_STAT, R.CHG_FLAGS, R.CHG_IRQ_STAT] s t ∧
       t = { s with el := t.el, dt := t.dt, regs := t.regs, dcl := t.dcl } := by
  refine .of_next (t := chopRelease uv.toNat (s.tick e)) rfl ?_
  rw [chopRelease_eq (s := s.tick e) hb hc]
  have hu : ((s.tick e).setBit R.DCL_STAT F.DCL_STAT.CHOP_CMP false).bit R.DCL_STAT F.DCL_STAT.CHOP_CMP = false ∧
      ((s.tick e).setBit R.DCL_STAT F.DCL_STAT.CHOP_CMP false).bit R.DCL_STAT F.DCL_STAT.REGEN_INH =
        s.bit R.DCL_STAT F.DCL_STAT.REGEN_INH ∧
      OnlyRegs [R.DCL_STAT, R.CHG_FLAGS, R.CHG_IRQ_STAT] s ((s.tick e).setBit R.DCL_STAT F.DCL_STAT.CHOP_CMP false) ∧
      ((s.tick e).setBit R.DCL_STAT F.DCL_STAT.CHOP_CMP false).dt = (s.tick e).dt ∧
      ((s.tick e).setBit R.DCL_STAT F.DCL_STAT.CHOP_CMP false).el = (s.tick e).el ∧
      Alter (2 ^ 65 ||| 2 ^ 66 ||| 2 ^ 67 ||| 2 ^ 97) s ((s.tick e).setBit R.DCL_STAT F.DCL_STAT.CHOP_CMP false) :=
    ⟨State.bit_setBit_eq _ (by decide), State.bit_setBit_beside _ (by decide), (OnlyRegs.tick e s).setBit _ _ (by decide),
      State.setBit_dt .., State.setBit_el .., ((alter_tick e s).mono rfl).and ((alter_setBit ..).mono (rm_high (by decide) rfl))⟩
  generalize (s.tick e).setBit R.DCL_STAT F.DCL_STAT.CHOP_CMP false = u at *
  obtain ⟨u1, u2, u3, u4, u5, u6⟩ := hu
  obtain ⟨p1, p2, p3, p4, p5⟩ := permitWaits_keeps u
  generalize permitWaits u = t at *
  refine ⟨(State.bit_of_reg (Alter.reg_of_regs p2 _) _).trans u1, by rw [p1, p3, u2], passes_of_tick (p4.trans u5) (p3.trans u4),
    u3.congr p2, (u6.and (p5.mono rfl)).dclPatch⟩

theorem regenPermit_ends (e d : Nat) (s : State) (hd : s.dcl.regenDue = some d) (hi : s.bit R.DCL_STAT F.DCL_STAT.REGEN_INH = true) :
     Answers (.regenPermit e) s fun t =>
       t.bit R.DCL_STAT F.DCL_STAT.REGEN_INH = false ∧ t.bit R.DCL_STAT F.DCL_STAT.ABSORB = false ∧
       t.dcl.regenDue = none ∧
       (s.d0 = true → t.dt = max (s.dt + e) d) ∧ (LogReady s → Logs EV.REGEN_PERMIT 0xFF s t) ∧
       OnlyRegs (logRegs ++ [R.DCL_STAT, R.CHG_FLAGS, R.CHG_IRQ_STAT]) s t := by
  refine .of_next (t := regenPermit (s.tick e)) rfl ?_
  have hd' : (s.tick e).dcl.regenDue = some d := hd
  unfold regenPermit
  rw [hd']
  dsimp only
  have hu := until_later e d s
  generalize (s.tick e).until d = u at *
  rw [regenEnds_eq ((State.bit_of_reg (Alter.reg_of_regs hu.regs _) _).trans hi)]
  obtain ⟨o1, o2, o3, -, o5, o6, o7, o8⟩ := regenOver_spec u
  generalize regenOver u = v at *
  have ha := alter_dclSlots v
  refine ⟨?_, ?_, ?_, fun h => ?_, fun hl => ?_, ?_⟩
  · rw [State.bit_raise _ _ _ (by decide), dclSlots_bit _ (by decide), o1]
  · rw [State.bit_raise _ _ _ (by decide), dclSlots_bit _ (by decide), o2]
  · rw [(alter_raise ..).dcl rfl, (dclSlots_kept v).2, o3]
  · rw [State.raise_dt, ha.dt rfl, o8, hu.dt h]
  · have he : (dclSlots v).ev = s.ev := (ha.ev rfl).trans (o6.trans (hu.beside.ev rfl))
    exact (State.raise_logs _ _ _ _ (hl.congr ((ha.boot rfl).trans (o7.trans (hu.beside.boot rfl))) he)).of_ev he
  · exact ((((OnlyRegs.of_regs hu.regs).trans o5).trans (dclSlots_only v)).mono (by simp)).raise _ _ _ (List.subset_append_left ..)

/-! ### The test pulse (R414) -/

/-- The test interval begins anew. -/
def testBegins (s : State) : State := { s with dcl := { s.dcl with testAt := s.dt, testBad := s.bit R.DCL_STAT F.DCL_STAT.CHOP_CMP } }

theorem testBegins_keeps (s : State) : (testBegins s).dcl.testAt = s.dt ∧
    (testBegins s).dcl.testBad = s.bit R.DCL_STAT F.DCL_STAT.CHOP_CMP ∧ (testBegins s).dt = s.dt ∧ (testBegins s).regs = s.regs ∧
    Alter (2 ^ 97) s (testBegins s) := ⟨rfl, rfl, rfl, rfl, alter_dcl ..⟩

/-- The four edges of a test pulse of tp ticks of 625 ps from a step. -/
def pulseEdges (on tp : Nat) : List Edge :=
  [⟨on, true, true, none, (on + (on + tp)) / 2⟩, ⟨on, false, true, none, 0⟩, ⟨on + tp, true, false, none, 0⟩,
    ⟨on + tp, false, false, none, 0⟩]

theorem chopTest_none {s : State} (ht : s.bit R.DCL_CHOP_CFG F.DCL_CHOP_CFG.TEST_EN = true) (hu : chopUnit s = none) :
    chopTest s = testBegins (s.until (s.dcl.testAt + s.fld R.DCL_CHOP_CFG F.DCL_CHOP_CFG.TEST_INT * 20000000)) := by
  have hu' : chopUnit (testBegins (s.until (s.dcl.testAt + s.fld R.DCL_CHOP_CFG F.DCL_CHOP_CFG.TEST_INT * 20000000))) = none := hu
  unfold chopTest
  rw [if_neg (by rw [ht]; decide)]
  unfold testBegins at hu' ⊢
  dsimp only at hu' ⊢
  rw [hu']

theorem Alter.dclDtPatch {s t : State} (a : Alter (2 ^ 65 ||| 2 ^ 66 ||| 2 ^ 97) s t) :
    t = { s with el := t.el, dt := t.dt, dcl := t.dcl } := a.eq_patch

theorem chopTest_silent (e : Nat) (s : State) (ht : s.bit R.DCL_CHOP_CFG F.DCL_CHOP_CFG.TEST_EN = true) (hu : chopUnit s = none) :
     Answers (.chopTestPulse e) s fun t =>
       t.dcl.testAt = t.dt ∧ t.dcl.testBad = s.bit R.DCL_STAT F.DCL_STAT.CHOP_CMP ∧
       (s.d0 = true → t.dt =
         max (s.dt + e) (s.dcl.testAt + s.fld R.DCL_CHOP_CFG F.DCL_CHOP_CFG.TEST_INT * 20000000)) ∧
       t = { s with el := t.el, dt := t.dt, dcl := t.dcl } := by
  refine .of_next (t := chopTest (s.tick e)) rfl ?_
  rw [chopTest_none (s := s.tick e) ht hu]
  have hd : (s.tick e).dcl.testAt + (s.tick e).fld R.DCL_CHOP_CFG F.DCL_CHOP_CFG.TEST_INT * 20000000 =
    s.dcl.testAt + s.fld R.DCL_CHOP_CFG F.DCL_CHOP_CFG.TEST_INT * 20000000 := rfl
  rw [hd]
  have hu := until_later e (s.dcl.testAt + s.fld R.DCL_CHOP_CFG F.DCL_CHOP_CFG.TEST_INT * 20000000) s
  generalize (s.tick e).until (s.dcl.testAt + s.fld R.DCL_CHOP_CFG F.DCL_CHOP_CFG.TEST_INT * 20000000) = u at *
  obtain ⟨p1, p2, p3, -, p5⟩ := testBegins_keeps u
  generalize testBegins u = t at *
  exact ⟨p1.trans p3.symm, p2.trans (State.bit_of_reg (Alter.reg_of_regs hu.regs _) _), fun h => p3.trans (hu.dt h),
    ((hu.beside.mono rfl).and (p5.mono rfl)).dclDtPatch⟩

/-- The conditions of a test pulse hold. -/
def testGoes (s : State) : Bool :=
  !s.dcl.testBad && chopAvail s && s.dcl.duty == 0 && decide (s.fld R.DCL_CHOP_CFG F.DCL_CHOP_CFG.CMP < 64)

/-- The unit emits a test pulse at once. -/
def testEmits (k : Nat) (s : State) : State :=
  s.setUnit k { s.unitOf k with edges := pulseEdges (8 * s.dt) (s.fld R.DCL_CHOP_CFG F.DCL_CHOP_CFG.TPULSE * 1600) }

theorem chopTest_some {s : State} {k : Nat} (ht : s.bit R.DCL_CHOP_CFG F.DCL_CHOP_CFG.TEST_EN = true) (hu : chopUnit s = some k)
    (hk : s.bit (R.PWM_HB_STAT k) F.PWM_HB_STAT.EN = true) (hg : testGoes s = true) :
    chopTest s = testEmits k (testBegins (s.until (s.dcl.testAt + s.fld R.DCL_CHOP_CFG F.DCL_CHOP_CFG.TEST_INT * 20000000))) := by
  have hu' : chopUnit (testBegins (s.until (s.dcl.testAt + s.fld R.DCL_CHOP_CFG F.DCL_CHOP_CFG.TEST_INT * 20000000))) = some k := hu
  have hg' : testGoes (s.until (s.dcl.testAt + s.fld R.DCL_CHOP_CFG F.DCL_CHOP_CFG.TEST_INT * 20000000)) = true := hg
  have hk' : (testBegins (s.until (s.dcl.testAt + s.fld R.DCL_CHOP_CFG F.DCL_CHOP_CFG.TEST_INT * 20000000))).bit (R.PWM_HB_STAT k)
    F.PWM_HB_STAT.EN = true := hk
  unfold chopTest
  rw [if_neg (by rw [ht]; decide)]
  extract_lets u go d v on off es
  have hv : v = testBegins (s.until (s.dcl.testAt + s.fld R.DCL_CHOP_CFG F.DCL_CHOP_CFG.TEST_INT * 20000000)) := rfl
  have hgo : go = true := hg'
  clear_value v go
  subst hv
  rw [hu', hgo]
  dsimp only
  rw [if_pos (by rw [hk']; rfl)]
  rfl

theorem Alter.dclUnitPatch {s t : State} (a : Alter (2 ^ 65 ||| 2 ^ 66 ||| 2 ^ 89 ||| 2 ^ 97) s t) :
    t = { s with el := t.el, dt := t.dt, dcl := t.dcl, unit := t.unit } := a.eq_patch

theorem chopTest_pulses (e k : Nat) (s : State) (ht : s.bit R.DCL_CHOP_CFG F.DCL_CHOP_CFG.TEST_EN = true) (hu : chopUnit s = some k)
    (hk : s.bit (R.PWM_HB_STAT k) F.PWM_HB_STAT.EN = true) (hb : s.dcl.testBad = false) (ha : chopAvail s = true)
    (hd : s.dcl.duty = 0) (hc : s.fld R.DCL_CHOP_CFG F.DCL_CHOP_CFG.CMP < 64) :
     Answers (.chopTestPulse e) s fun t =>
       (t.unitOf k).edges = [⟨8 * t.dt, true, true, none,
         (8 * t.dt + (8 * t.dt + s.fld R.DCL_CHOP_CFG F.DCL_CHOP_CFG.TPULSE * 1600)) / 2⟩,
       ⟨8 * t.dt, false, true, none, 0⟩, ⟨8 * t.dt + s.fld R.DCL_CHOP_CFG F.DCL_CHOP_CFG.TPULSE * 1600, true, false,
         none, 0⟩,
       ⟨8 * t.dt + s.fld R.DCL_CHOP_CFG F.DCL_CHOP_CFG.TPULSE * 1600, false, false, none, 0⟩] ∧
       t = { s with el := t.el, dt := t.dt, dcl := t.dcl, unit := t.unit } := by
  refine .of_next (t := chopTest (s.tick e)) rfl ?_
  have hg : testGoes s = true := by
    unfold testGoes
    rw [hb, ha, hd, decide_eq_true hc]
    rfl
  rw [chopTest_some (s := s.tick e) ht hu hk hg]
  have hdue : (s.tick e).dcl.testAt + (s.tick e).fld R.DCL_CHOP_CFG F.DCL_CHOP_CFG.TEST_INT * 20000000 =
    s.dcl.testAt + s.fld R.DCL_CHOP_CFG F.DCL_CHOP_CFG.TEST_INT * 20000000 := rfl
  rw [hdue]
  have hw := until_later e (s.dcl.testAt + s.fld R.DCL_CHOP_CFG F.DCL_CHOP_CFG.TEST_INT * 20000000) s
  generalize (s.tick e).until (s.dcl.testAt + s.fld R.DCL_CHOP_CFG F.DCL_CHOP_CFG.TEST_INT * 20000000) = u at *
  obtain ⟨-, -, p3, p4, p5⟩ := testBegins_keeps u
  have hfld : (testBegins u).fld R.DCL_CHOP_CFG F.DCL_CHOP_CFG.TPULSE = s.fld R.DCL_CHOP_CFG F.DCL_CHOP_CFG.TPULSE :=
    State.fld_of_reg (Alter.reg_of_regs (p4.trans hw.regs) _) _
  have hv : Alter (2 ^ 65 ||| 2 ^ 66 ||| 2 ^ 89 ||| 2 ^ 97) s (testBegins u) := (hw.beside.mono rfl).and (p5.mono rfl)
  generalize testBegins u = v at *
  unfold testEmits
  refine ⟨?_, (hv.and ((alter_setUnit ..).mono rfl)).dclUnitPatch⟩
  rw [State.unitOf_setUnit, State.setUnit_dt, hfld]
  rfl

/-- Settles O25: the comparator's status, the permit's time and the test interval are apart from what the supervisor's evaluation
writes; with no chopper and CHOP asserted that evaluation inhibits regeneration. -/
theorem chopperAndRegeneration : Obligations.ChopperAndRegeneration := by
  unfold Obligations.ChopperAndRegeneration
  exact ⟨chopAssert_shows, fun e uv s h => .of_next (t := chopAssert uv.toNat (s.tick e)) rfl
      (if_neg (show ¬ pinAbove (s.tick e) ((s.tick e).fld R.DCL_THR F.DCL_THR.VCHOP) uv.toNat = true from
        fun hn => absurd (h.symm.trans hn) (by decide))),
    chopRelease_waits, regenPermit_ends, chopTest_silent, chopTest_pulses⟩

end Sys2Proof.Machine
end

section
/-! SUPPORT. The verdicts of a pre-start run, and the settling of O17 (R159 to R165). -/

namespace Sys2Proof.Machine

set_option Elab.async false

/-! ### Verdicts, one by one (R164) -/

/-- The place of unit k's verdict in its register. -/
abbrev verdFld (k : Nat) : Fld := ⟨4 * (k % 8) + 3, 4 * (k % 8)⟩

theorem verdFld_ok (k : Nat) : Fld.Ok (verdFld k) := ⟨Nat.le_add_right .., by dsimp only; omega⟩

theorem verdFld_width (k : Nat) : (verdFld k).width = 4 := by
  unfold Fld.width
  dsimp only
  omega

theorem verdict_setVerdict (k v : Nat) (s : State) : verdict (setVerdict k v s) k = v % 16 := by
  unfold verdict setVerdict
  rw [State.fld_setFld_eq _ (verdFld_ok k), verdFld_width]
  rfl

theorem verdict_setVerdict_ne {j k : Nat} (v : Nat) (s : State) (h : j ≠ k) : verdict (setVerdict k v s) j = verdict s j := by
  unfold verdict setVerdict
  by_cases hr : R.PROT_PRE_VERD (j / 8) = R.PROT_PRE_VERD (k / 8)
  · rw [← hr]
    refine State.fld_setFld_beside _ ?_
    unfold R.PROT_PRE_VERD at hr
    refine ⟨verdFld_ok j, verdFld_ok k, ?_⟩
    change 4 * (j % 8) + 3 < 4 * (k % 8) ∨ 4 * (k % 8) + 3 < 4 * (j % 8)
    omega
  · exact State.fld_setFld_ne _ hr

theorem verdict_of_reg {s t : State} {k : Nat} (h : t.reg (R.PROT_PRE_VERD (k / 8)) = s.reg (R.PROT_PRE_VERD (k / 8))) :
    verdict t k = verdict s k := State.fld_of_reg h _

/-- The verdicts of the units below n that a condition names are stored in their order. -/
theorem verdict_stored (p : Nat → Bool) (f : Nat → Nat) (n : Nat) (s : State) (j : Nat) :
    verdict (forEach (List.range n) (fun k t => if p k then setVerdict k (f k) t else t) s) j =
      if j < n ∧ p j = true then f j % 16 else verdict s j := by
  unfold forEach
  induction n with
  | zero =>
    rw [if_neg (by omega)]
    rfl
  | succ n ih =>
    rw [List.range_succ, List.foldl_append, List.foldl_cons, List.foldl_nil]
    dsimp only at ih ⊢
    by_cases hj : j = n
    · subst hj
      by_cases hp : p j = true
      · rw [if_pos hp, verdict_setVerdict, if_pos ⟨Nat.lt_succ_self j, hp⟩]
      · rw [if_neg hp, ih, if_neg (fun h => hp h.2), if_neg (fun h => hp h.2)]
    · have hne : ∀ t : State, verdict (if p n then setVerdict n (f n) t else t) j = verdict t j := fun t => by
        split
        · exact verdict_setVerdict_ne _ _ hj
        · rfl
      rw [hne, ih]
      have : j < n + 1 ↔ j < n := by omega
      simp only [this]

/-- The registers of the verdicts. -/
abbrev verdRegs : List Nat := [R.PROT_PRE_VERD 0, R.PROT_PRE_VERD 1, R.PROT_PRE_VERD 2]

theorem verdReg_mem {k : Nat} (h : k < 24) : R.PROT_PRE_VERD (k / 8) ∈ verdRegs := by
  have : k / 8 < 3 := by omega
  generalize k / 8 = q at *
  revert q
  decide

theorem stored_only (p : Nat → Bool) (f : Nat → Nat) (s : State) :
    OnlyRegs verdRegs s (forEach (List.range 24) (fun k t => if p k then setVerdict k (f k) t else t) s) :=
  OnlyRegs.forEach_mem s _ fun k hk x => by
    split
    · exact (OnlyRegs.refl _ x).setFld _ _ (verdReg_mem (List.mem_range.mp hk))
    · exact .refl _ x

/-! ### The end of a run (R165) -/

/-- The run is over, before the converters' verdicts are drawn. -/
def runOver (s : State) : State :=
  (s.setBit R.PROT_PRE_STAT F.PROT_PRE_STAT.RUNNING false).setBit R.PROT_PRE_STAT F.PROT_PRE_STAT.RAIL_PENDING false

/-- The run's end is shown and told. -/
def runTold (s : State) : State :=
  ((convVerdicts (runOver s)).setBit R.PROT_PRE_STAT F.PROT_PRE_STAT.DONE true).raise EV.PRESTART_DONE 0xFF []

theorem convVerdicts_regs (s : State) : (convVerdicts s).regs = s.regs := (alter_convVerdicts s).regs rfl

theorem runTold_spec (s : State) : let t := runTold s
    t.bit R.PROT_PRE_STAT F.PROT_PRE_STAT.RUNNING = false ∧ t.bit R.PROT_PRE_STAT F.PROT_PRE_STAT.RAIL_PENDING = false ∧
    t.bit R.PROT_PRE_STAT F.PROT_PRE_STAT.DONE = true ∧
    t.bit R.PROT_PRE_STAT F.PROT_PRE_STAT.FAIL = s.bit R.PROT_PRE_STAT F.PROT_PRE_STAT.FAIL ∧
    OnlyRegs (logRegs ++ [R.PROT_PRE_STAT]) s t ∧ (LogReady s → Logs EV.PRESTART_DONE 0xFF s t) := by
  intro t
  have hu : (runOver s).bit R.PROT_PRE_STAT F.PROT_PRE_STAT.RUNNING = false ∧
      (runOver s).bit R.PROT_PRE_STAT F.PROT_PRE_STAT.RAIL_PENDING = false ∧
      (runOver s).bit R.PROT_PRE_STAT F.PROT_PRE_STAT.FAIL = s.bit R.PROT_PRE_STAT F.PROT_PRE_STAT.FAIL ∧
      OnlyRegs [R.PROT_PRE_STAT] s (runOver s) ∧ (runOver s).ev = s.ev ∧ (runOver s).boot = s.boot := by
    unfold runOver
    refine ⟨?_, State.bit_setBit_eq _ (by decide), ?_, ((OnlyRegs.refl _ s).setBit _ _ (by decide)).setBit _ _ (by decide),
      (State.setBit_ev ..).trans (State.setBit_ev ..), (State.setBit_boot ..).trans (State.setBit_boot ..)⟩
    · rw [State.bit_setBit_beside _ (by decide), State.bit_setBit_eq _ (by decide)]
    · rw [State.bit_setBit_beside _ (by decide), State.bit_setBit_beside _ (by decide)]
  unfold t runTold
  have ha := alter_convVerdicts (runOver s)
  have hr := convVerdicts_regs (runOver s)
  generalize runOver s = u at *
  generalize convVerdicts u = v at *
  obtain ⟨u1, u2, u3, u4, u5, u6⟩ := hu
  have hb : ∀ f, v.bit R.PROT_PRE_STAT f = u.bit R.PROT_PRE_STAT f := fun f => State.bit_of_reg (Alter.reg_of_regs hr _) f
  refine ⟨?_, ?_, ?_, ?_, ?_, fun hl => ?_⟩
  · rw [State.bit_raise _ _ _ (by decide), State.bit_setBit_beside _ (by decide), hb, u1]
  · rw [State.bit_raise _ _ _ (by decide), State.bit_setBit_beside _ (by decide), hb, u2]
  · rw [State.bit_raise _ _ _ (by decide), State.bit_setBit_eq _ (by decide)]
  · rw [State.bit_raise _ _ _ (by decide), State.bit_setBit_beside _ (by decide), hb, u3]
  · exact (((u4.congr hr).setBit _ _ (by decide)).mono (List.subset_append_right ..)).raise _ _ _ (List.subset_append_left ..)
  · have he : (v.setBit R.PROT_PRE_STAT F.PROT_PRE_STAT.DONE true).ev = s.ev := (State.setBit_ev ..).trans ((ha.ev rfl).trans u5)
    exact (State.raise_logs _ _ _ _ (hl.congr ((State.setBit_boot ..).trans ((ha.boot rfl).trans u6)) he)).of_ev he

/-- The failures of a run, where there are any, are shown and told. -/
def runFails (s : State) : List Nat → State
  | [] => s
  | k :: l => ((s.setBit R.PROT_PRE_STAT F.PROT_PRE_STAT.FAIL true).setBit R.PROT_FLAGS F.PROT_FLAGS.PRESTART_FAIL true).raise
      EV.PRESTART_FAIL k [(5, (k :: l).foldl setBitN 0)]

theorem preEnd_eq (s : State) : preEnd s = runFails (runTold s) (failedUnits (runTold s)) := by
  have : ∀ (u : State) (l : List Nat), (match l with
      | [] => u
      | k :: t =>
        let s := (u.setBit R.PROT_PRE_STAT F.PROT_PRE_STAT.FAIL true).setBit R.PROT_FLAGS F.PROT_FLAGS.PRESTART_FAIL true
        s.raise EV.PRESTART_FAIL k [(5, (k :: t).foldl setBitN 0)]) = runFails u l := fun u l => by
    cases l <;> rfl
  exact this _ _

theorem runFails_keeps (s : State) (l : List Nat) :
    (∀ f, Fld.Beside f F.PROT_PRE_STAT.FAIL → (runFails s l).bit R.PROT_PRE_STAT f = s.bit R.PROT_PRE_STAT f) ∧
    OnlyRegs (logRegs ++ [R.PROT_PRE_STAT, R.PROT_FLAGS]) s (runFails s l) := by
  cases l with
  | nil => exact ⟨fun _ _ => rfl, .refl _ s⟩
  | cons k l =>
    refine ⟨fun f hf => ?_, ?_⟩
    · unfold runFails
      rw [State.bit_raise _ _ _ (by decide), State.bit_setBit_ne _ (by decide), State.bit_setBit_beside _ hf]
    · exact (((OnlyRegs.refl _ s).setBit _ _ (by decide)).setBit _ _ (by decide)).raise _ _ _ (List.subset_append_left ..)

/-- What the end of a run leaves. -/
theorem preEnd_spec (s : State) : let t := preEnd s
    t.bit R.PROT_PRE_STAT F.PROT_PRE_STAT.RUNNING = false ∧ t.bit R.PROT_PRE_STAT F.PROT_PRE_STAT.RAIL_PENDING = false ∧
    t.bit R.PROT_PRE_STAT F.PROT_PRE_STAT.DONE = true ∧ ∀ k < 24, verdict t k = verdict s k := by
  intro t
  obtain ⟨r1, r2, r3, -, r5, -⟩ := runTold_spec s
  unfold t
  rw [preEnd_eq]
  obtain ⟨k1, k2⟩ := runFails_keeps (runTold s) (failedUnits (runTold s))
  generalize runTold s = u at *
  refine ⟨(k1 _ (by decide)).trans r1, (k1 _ (by decide)).trans r2, (k1 _ (by decide)).trans r3, fun k hk => ?_⟩
  have hm := verdReg_mem hk
  have hf : ∀ i ∈ verdRegs, i ∉ logRegs ++ [R.PROT_PRE_STAT, R.PROT_FLAGS] ∧ i ∉ logRegs ++ [R.PROT_PRE_STAT] := by decide
  obtain ⟨f1, f2⟩ := hf _ hm
  rw [verdict_of_reg (k2 _ f1), verdict_of_reg (r5 _ f2)]

/-! ### The tests read (R159 to R163) -/

/-- The units declared. -/
def usedUnits (s : State) : List Nat := match s.plant with | some p => p.units.map (fun u => u.hb) | none => []

theorem usedUnits_contains (s : State) (k : Nat) :
    (usedUnits s).contains k = (s.plant.any fun p => p.units.any fun u => u.hb == k) := by
  unfold usedUnits
  split
  · rename_i p h
    rw [h, Option.any_some, List.contains_eq_any_beq, List.any_map]
    congr 1
    funext u
    exact Bool.beq_comm
  · rename_i h
    rw [h]
    rfl

/-- The verdicts of a run's tests. -/
def runVerdicts (gates : List GateTest) (phs : List PhsTest) (s : State) : State :=
  forEach (List.range 24) (fun k t =>
    setVerdict k (if (usedUnits s).contains k then unitVerdict s gates phs k else Verd.notUsed) t) s

theorem runVerdicts_verdict (gates : List GateTest) (phs : List PhsTest) (s : State) {k : Nat} (h : k < 24) :
    verdict (runVerdicts gates phs s) k =
      if (s.plant.any fun p => p.units.any fun u => u.hb == k) = true then unitVerdict s gates phs k % 16 else 2 := by
  have := verdict_stored (fun _ => true)
    (fun k => if (usedUnits s).contains k then unitVerdict s gates phs k else Verd.notUsed) 24 s k
  simp only [if_true, and_true] at this
  unfold runVerdicts
  rw [this, if_pos h, usedUnits_contains]
  split <;> rfl

theorem runVerdicts_only (gates : List GateTest) (phs : List PhsTest) (s : State) :
    OnlyRegs verdRegs s (runVerdicts gates phs s) := by
  have := stored_only (fun _ => true)
    (fun k => if (usedUnits s).contains k then unitVerdict s gates phs k else Verd.notUsed) s
  simp only [if_true] at this
  exact this

/-- Machine units wait for their rail test. -/
def railWaits (s : State) : Bool := !railReady s && (stars s).any (fun st => st.any fun k => verdict s k == Verd.notRun)

/-- The run waits for its rail test. -/
def runWaits (s : State) : State :=
  convVerdicts ((s.setBit R.PROT_PRE_STAT F.PROT_PRE_STAT.RUNNING false).setBit R.PROT_PRE_STAT F.PROT_PRE_STAT.RAIL_PENDING true)

theorem preDone_eq {gates : List GateTest} {phs : List PhsTest} {s : State}
    (h : s.bit R.PROT_PRE_STAT F.PROT_PRE_STAT.RUNNING = true) :
    preDone gates phs s = if railWaits (runVerdicts gates phs s) then runWaits (runVerdicts gates phs s)
      else preEnd (runVerdicts gates phs s) := by
  unfold preDone
  rw [if_neg (by rw [h]; decide)]
  rfl

theorem runWaits_spec (s : State) : (runWaits s).bit R.PROT_PRE_STAT F.PROT_PRE_STAT.RUNNING = false ∧
    ∀ k < 24, verdict (runWaits s) k = verdict s k := by
  have hr := Alter.reg_of_regs (convVerdicts_regs
    ((s.setBit R.PROT_PRE_STAT F.PROT_PRE_STAT.RUNNING false).setBit R.PROT_PRE_STAT F.PROT_PRE_STAT.RAIL_PENDING true))
  unfold runWaits
  refine ⟨?_, fun k hk => ?_⟩
  · rw [State.bit_of_reg (hr _), State.bit_setBit_beside _ (by decide), State.bit_setBit_eq _ (by decide)]
  · have hf : ∀ i ∈ verdRegs, i ≠ R.PROT_PRE_STAT := by decide
    have hne := hf _ (verdReg_mem hk)
    rw [verdict_of_reg (hr _)]
    exact verdict_of_reg ((State.reg_setBit_ne _ _ _ hne).trans (State.reg_setBit_ne _ _ _ hne))

theorem prestartDone_judges (e : Nat) (gates : List GateTest) (phs : List PhsTest) (s : State)
    (h : s.bit R.PROT_PRE_STAT F.PROT_PRE_STAT.RUNNING = true) :
     Answers (.prestartDone e gates phs) s fun t =>
       t.bit R.PROT_PRE_STAT F.PROT_PRE_STAT.RUNNING = false ∧
       ∀ k : Fin 24, verdict t k =
       if (s.plant.any fun p => p.units.any fun u => u.hb == k.val) = true then unitVerdict s gates phs k % 16 else 2 := by
  refine .of_next (t := preDone gates phs (s.tick e)) rfl ?_
  rw [preDone_eq (s := s.tick e) h]
  have hv : ∀ k : Fin 24, verdict (runVerdicts gates phs (s.tick e)) k =
      if (s.plant.any fun p => p.units.any fun u => u.hb == k.val) = true then unitVerdict s gates phs k % 16 else 2 := fun k =>
    runVerdicts_verdict gates phs (s.tick e) k.isLt
  generalize runVerdicts gates phs (s.tick e) = u at *
  split
  · obtain ⟨w1, w2⟩ := runWaits_spec u
    exact ⟨w1, fun k => (w2 k k.isLt).trans (hv k)⟩
  · obtain ⟨p1, -, -, p4⟩ := preEnd_spec u
    exact ⟨p1, fun k => (p4 k k.isLt).trans (hv k)⟩

/-! ### A run with no plant -/

theorem convVerdicts_bare {s : State} (h : s.plant = none) : convVerdicts s = s := by
  unfold convVerdicts convs
  rw [h]
  exact forEach_nil _ s

theorem railWaits_bare {s : State} (h : s.plant = none) : railWaits s = false := by
  unfold railWaits stars convs
  rw [h]
  simp

theorem failedUnits_none {s : State} (h : ∀ k < 24, verdict s k = 2) : failedUnits s = [] := by
  unfold failedUnits
  rw [List.filter_eq_nil_iff]
  intro k hk
  rw [h k (List.mem_range.mp hk)]
  decide

theorem prestartDone_bare (e : Nat) (gates : List GateTest) (phs : List PhsTest) (s : State)
    (h : s.bit R.PROT_PRE_STAT F.PROT_PRE_STAT.RUNNING = true) (hp : s.plant = none) :
     Answers (.prestartDone e gates phs) s fun t =>
       t.bit R.PROT_PRE_STAT F.PROT_PRE_STAT.DONE = true ∧
       t.bit R.PROT_PRE_STAT F.PROT_PRE_STAT.FAIL = s.bit R.PROT_PRE_STAT F.PROT_PRE_STAT.FAIL ∧
       (LogReady s → Logs EV.PRESTART_DONE 0xFF s t) ∧ LogsOnly s t ∧
       OnlyRegs (logRegs ++ [R.PROT_PRE_STAT, R.PROT_PRE_VERD 0, R.PROT_PRE_VERD 1, R.PROT_PRE_VERD 2]) s t := by
  refine .of_next (t := preDone gates phs (s.tick e)) rfl ?_
  rw [preDone_eq (s := s.tick e) h]
  have hv : ∀ k < 24, verdict (runVerdicts gates phs (s.tick e)) k = 2 := fun k hk => by
    have hp' : (s.tick e).plant = none := hp
    rw [runVerdicts_verdict gates phs (s.tick e) hk, hp']
    rfl
  have ho := runVerdicts_only gates phs (s.tick e)
  have ha : Alter (2 ^ 67) (s.tick e) (runVerdicts gates phs (s.tick e)) :=
    alter_forEach _ _ _ fun _ _ => (alter_setVerdict ..).mono rfl
  generalize runVerdicts gates phs (s.tick e) = u at *
  have hpu : u.plant = none := (ha.plant rfl).trans hp
  rw [if_neg (by rw [railWaits_bare hpu]; decide), preEnd_eq]
  obtain ⟨-, -, r3, r4, r5, r6⟩ := runTold_spec u
  have hru : Alter (2 ^ 67) u (runOver u) := ((alter_setBit ..).mono (rm_high (by decide) rfl)).and
    ((alter_setBit ..).mono (rm_high (by decide) rfl))
  have hb : runTold u = ((runOver u).setBit R.PROT_PRE_STAT F.PROT_PRE_STAT.DONE true).raise EV.PRESTART_DONE 0xFF [] := by
    unfold runTold
    rw [convVerdicts_bare ((hru.plant rfl).trans hpu)]
  have hra : Alter evM u (runTold u) := by
    rw [hb]
    exact ((hru.mono rfl).and ((alter_setBit ..).mono (rm_high (by decide) rfl))).and ((alter_raise ..).mono rfl)
  generalize runTold u = t at *
  have hf : failedUnits t = [] := failedUnits_none fun k hk => by
    have hfr : ∀ i ∈ verdRegs, i ∉ logRegs ++ [R.PROT_PRE_STAT] := by decide
    rw [verdict_of_reg (r5 _ (hfr _ (verdReg_mem hk))), hv k hk]
  rw [hf]
  have hl : LogReady s → LogReady u := fun hl => LogReady.congr (s := s) hl (ha.boot rfl) (ha.ev rfl)
  have hou : OnlyRegs verdRegs s u := (OnlyRegs.tick e s).trans ho
  refine ⟨r3, ?_, fun h => (r6 (hl h)).of_ev (ha.ev rfl), ?_, ?_⟩
  · exact r4.trans (State.bit_of_reg (hou _ (by decide)) _)
  · exact LogsOnly.of_alter ((((alter_tick e s).mono rfl).and (ha.mono rfl)).and (hra.mono rfl))
  · exact (hou.mono (by decide)).trans (r5.mono (by decide))

/-! ### The rail test (R162) -/

/-- The verdicts of the units that waited. -/
def railVerdicts (link : Nat) (gates : List GateTest) (phs : List PhsTest) (s : State) : State :=
  forEach (List.range 24) (fun k t =>
    if verdict s k == Verd.notRun && (starOf s k).isSome then setVerdict k (railVerdict s link gates phs k) t else t) s

theorem railTest_eq {link : Nat} {gates : List GateTest} {phs : List PhsTest} {s : State}
    (h : s.bit R.PROT_PRE_STAT F.PROT_PRE_STAT.RAIL_PENDING = true) (hm : s.mode = Mode.ready)
    (hl : 1000 * s.fld R.PROT_PRE_CFG F.PROT_PRE_CFG.VMIN ≤ link) :
    railTest link gates phs s = preEnd (railVerdicts link gates phs s) := by
  unfold railTest
  rw [if_neg (by rw [h, hm, decide_eq_false (by omega)]; decide)]
  rfl

theorem railTest_judges (e link : Nat) (gates : List GateTest) (phs : List PhsTest) (s : State)
    (h : s.bit R.PROT_PRE_STAT F.PROT_PRE_STAT.RAIL_PENDING = true) (hm : s.mode = Mode.ready)
    (hl : 1000 * s.fld R.PROT_PRE_CFG F.PROT_PRE_CFG.VMIN ≤ link) :
     Answers (.railTest e link ⟨gates, phs⟩) s fun t =>
       t.bit R.PROT_PRE_STAT F.PROT_PRE_STAT.RAIL_PENDING = false ∧
       t.bit R.PROT_PRE_STAT F.PROT_PRE_STAT.DONE = true ∧
       ∀ k : Fin 24, verdict t k =
       if verdict s k = 0 ∧ (starOf s k).isSome = true then railVerdict s link gates phs k % 16
       else verdict s k := by
  refine .of_next (t := railTest link gates phs (s.tick e)) rfl ?_
  rw [railTest_eq (s := s.tick e) h hm hl]
  have hv : ∀ k : Fin 24, verdict (railVerdicts link gates phs (s.tick e)) k =
      if verdict s k = 0 ∧ (starOf s k).isSome = true then railVerdict s link gates phs k % 16 else verdict s k := fun k => by
    have hc : (k.val < 24 ∧ (verdict (s.tick e) k == Verd.notRun && (starOf (s.tick e) k).isSome) = true) ↔
        verdict s k = 0 ∧ (starOf s k).isSome = true := by
      have h1 : verdict (s.tick e) k = verdict s k := rfl
      have h2 : starOf (s.tick e) k = starOf s k := rfl
      rw [h1, h2, Bool.and_eq_true, beq_iff_eq]
      exact ⟨fun h => h.2, fun h => ⟨k.isLt, h⟩⟩
    have := verdict_stored (fun k => verdict (s.tick e) k == Verd.notRun && (starOf (s.tick e) k).isSome)
      (fun k => railVerdict (s.tick e) link gates phs k) 24 (s.tick e) k
    simp only [hc] at this
    exact this
  generalize railVerdicts link gates phs (s.tick e) = u at *
  obtain ⟨-, p2, p3, p4⟩ := preEnd_spec u
  exact ⟨p2, p3, fun k => (p4 k k.isLt).trans (hv k)⟩

theorem railTest_waits (e link : Nat) (gates : List GateTest) (phs : List PhsTest) (s : State)
    (hl : link < 1000 * s.fld R.PROT_PRE_CFG F.PROT_PRE_CFG.VMIN) :
    Answers (.railTest e link ⟨gates, phs⟩) s fun t => t = s.tick e := by
  refine .of_next (t := railTest link gates phs (s.tick e)) rfl ?_
  have hl' : link < 1000 * (s.tick e).fld R.PROT_PRE_CFG F.PROT_PRE_CFG.VMIN := hl
  unfold railTest
  rw [if_pos (by rw [decide_eq_true hl', Bool.or_true])]

/-- Settles O17: each unit's verdict is stored in its own place, and the end of a run writes none of them. -/
theorem prestartVerdicts : Obligations.PrestartVerdicts := by
  unfold Obligations.PrestartVerdicts
  exact ⟨prestartDone_judges, prestartDone_bare, railTest_judges, railTest_waits⟩

end Sys2Proof.Machine
end

section
/-! SUPPORT. Conversions: what a result writes on its way into a crossing FIFO with room, and a converter's records. -/

namespace Sys2Proof.Machine

set_option Elab.async false

/-! ### An element enters a crossing FIFO with room (R236) -/

theorem State.adcOf_setAdc (n : Nat) (x : Adc) (s : State) : (s.setAdc n x).adcOf n = x := AMap.getD_put_same _ _ _ _

theorem State.adcOf_of_adc {s t : State} (h : t.meas.adc = s.meas.adc) (n : Nat) : t.adcOf n = s.adcOf n := by
  unfold State.adcOf
  rw [h]

theorem State.xfOf_of_xf {s t : State} (h : t.meas.xf = s.meas.xf) (k : Nat) : t.xfOf k = s.xfOf k := by
  unfold State.xfOf
  rw [h]

theorem resultFlags_flag (x : QEnt) (s : State) : OnlyRegs [R.ADC_FLAGS] s (resultFlags x s) := by
  unfold resultFlags
  extract_lets u
  have hu : OnlyRegs [R.ADC_FLAGS] s u := ((OnlyRegs.refl _ s).setBit _ _ (by decide)).ite (.refl _ s)
  clear_value u
  exact (hu.setBit _ _ (by decide)).ite hu

theorem xfPush_room {k : Nat} {s : State} (q : Nat) (x : QEnt) (h : (s.xfOf k).ents.length < xfDepth (xfId k)) :
    xfPush k [(q, x)] s = (resultFlags x s).setXf k { ents := (s.xfOf k).ents ++ [[(q, x)]], run := false } :=
  if_neg (Nat.not_le.mpr h)

/-- Entry x for queue q has entered crossing FIFO k. -/
structure Entered (k q : Nat) (x : QEnt) (s t : State) : Prop where
  ents : (t.xfOf k).ents = (s.xfOf k).ents ++ [[(q, x)]]
  only : OnlyRegs [R.ADC_FLAGS] s t
  adc : t.meas.adc = s.meas.adc
  dt : t.dt = s.dt

theorem xfPush_enters {k : Nat} {s : State} (q : Nat) (x : QEnt) (h : (s.xfOf k).ents.length < xfDepth (xfId k)) :
    Entered k q x s (xfPush k [(q, x)] s) := by
  rw [xfPush_room q x h]
  have ho := resultFlags_flag x s
  have ha := alter_resultFlags x s
  generalize resultFlags x s = u at *
  exact ⟨by rw [State.xfOf_setXf], ho.congr rfl, (congrArg Meas.adc (ha.meas rfl) : u.meas.adc = s.meas.adc), ha.dt rfl⟩

/-- Only the converters' records and the registers listed differ, and time. -/
structure Converted (l : List Nat) (s u : State) : Prop where
  xf : u.meas.xf = s.meas.xf
  fell : u.meas.refFell = s.meas.refFell
  rose : u.meas.refRose = s.meas.refRose
  only : OnlyRegs l s u

theorem Converted.pushes {l : List Nat} {s u t : State} {k q : Nat} {x : QEnt} {P : QEnt → Prop} (h : Converted l s u)
    (he : Entered k q x u t) (hp : P x) : Pushes k q s t P :=
  ⟨x, by rw [he.ents, State.xfOf_of_xf h.xf], hp⟩

theorem Converted.room {l : List Nat} {s u : State} (h : Converted l s u) {k d : Nat} (hk : (s.xfOf k).ents.length < d) :
    (u.xfOf k).ents.length < d := by rwa [State.xfOf_of_xf h.xf]

theorem Converted.unset {l : List Nat} {s u : State} (h : Converted l s u) (hr : R.ADC_REF_CTRL ∉ l) (a z : Nat) :
    refUnset u a z = refUnset s a z := by
  unfold refUnset refSettled
  rw [h.fell, h.rose, State.bit_of_reg (h.only _ hr)]

theorem Converted.samples {l : List Nat} {s u : State} (h : Converted l s u) (hr : R.ADC_PHS_CFG ∉ l) (chan : Nat) (cal : Reg)
    (codes : List Int) (count : Nat) : samplesResult u chan cal codes count = samplesResult s chan cal codes count := by
  unfold samplesResult
  rw [State.fld_of_reg (h.only _ hr)]

theorem converted_setAdc (l : List Nat) (n : Nat) (x : Adc) (s : State) : Converted l s (s.setAdc n x) :=
  ⟨rfl, rfl, rfl, .of_regs rfl⟩

theorem Later.converted {e d : Nat} {s u : State} (h : Later e d s u) (l : List Nat) : Converted l s u := by
  have hm := h.beside.meas rfl
  exact ⟨congrArg Meas.xf hm, congrArg Meas.refFell hm, congrArg Meas.refRose hm, .of_regs h.regs⟩

theorem Later.adc {e d : Nat} {s u : State} (h : Later e d s u) (n : Nat) : u.adcOf n = s.adcOf n :=
  State.adcOf_of_adc (congrArg Meas.adc (h.beside.meas rfl)) n

theorem Converted.trans {l : List Nat} {s u t : State} (h : Converted l s u) (k : Converted l u t) : Converted l s t :=
  ⟨k.xf.trans h.xf, k.fell.trans h.fell, k.rose.trans h.rose, h.only.trans k.only⟩

theorem State.adcOf_setFld (n i : Nat) (f : Fld) (x : Nat) (s : State) : (s.setFld i f x).adcOf n = s.adcOf n := rfl

theorem State.adcOf_setReg (n i : Nat) (v : Reg) (s : State) : (s.setReg i v).adcOf n = s.adcOf n := rfl

theorem OnlyRegs.setReg {l : List Nat} {s t : State} {i : Nat} (h : OnlyRegs l s t) (v : Reg) (hi : i ∈ l) :
    OnlyRegs l s (t.setReg i v) :=
  fun j hj => (State.reg_setReg_ne v t (ne_of_mem_of_not_mem hi hj).symm).trans (h j hj)

theorem Converted.setReg {l : List Nat} {s u : State} (h : Converted l s u) {i : Nat} (v : Reg) (hi : i ∈ l) :
    Converted l s (u.setReg i v) := ⟨h.xf, h.fell, h.rose, h.only.setReg v hi⟩

theorem Converted.setFld {l : List Nat} {s u : State} (h : Converted l s u) {i : Nat} (f : Fld) (x : Nat) (hi : i ∈ l) :
    Converted l s (u.setFld i f x) := ⟨h.xf, h.fell, h.rose, h.only.setFld f x hi⟩

theorem Converted.mono {l l' : List Nat} {s u : State} (h : Converted l s u) (hl : l ⊆ l') : Converted l' s u :=
  ⟨h.xf, h.fell, h.rose, h.only.mono hl⟩

theorem Converted.ite {l : List Nat} {s t u : State} {c : Prop} [Decidable c] (h : Converted l s t) (k : Converted l s u) :
    Converted l s (if c then t else u) := by
  split
  · exact h
  · exact k

/-! ### A slot's result (R231) -/

/-- Converter n's oldest slot is done, those left stand in its record x. -/
def slotTaken (n : Nat) (x : Adc) (l : List SlotDue) (s : State) : State :=
  let u := s.setAdc n { x with slots := l }
  if u.dt ≥ x.busyTill then u.setBit (R.ADC_AD_STAT n) F.ADC_AD_STAT.BUSY false else u

theorem slotTaken_spec (n : Nat) (x : Adc) (l : List SlotDue) (s : State) :
    ((slotTaken n x l s).adcOf n).slots = l ∧ (slotTaken n x l s).dt = s.dt ∧
    Converted [R.ADC_AD_STAT n] s (slotTaken n x l s) := by
  unfold slotTaken
  extract_lets u
  have ha : (u.adcOf n).slots = l := by rw [State.adcOf_setAdc]
  have hd : u.dt = s.dt := rfl
  have hc : Converted [R.ADC_AD_STAT n] s u := converted_setAdc ..
  clear_value u
  split
  · exact ⟨(congrArg Adc.slots (State.adcOf_of_adc rfl n)).trans ha, hd, hc.setFld _ _ (List.mem_singleton.mpr rfl)⟩
  · exact ⟨ha, hd, hc⟩

/-- The entry of a converter's slot. -/
def slotEnt (codes : List Int) (d : SlotDue) (s : State) : QEnt :=
  { stamp := d.stamp, chan := d.chan, sample := (samplesResult s d.chan d.cal codes (2 ^ d.avg)).1, seq := d.seq,
    range := (samplesResult s d.chan d.cal codes (2 ^ d.avg)).2, unset := refUnset s d.stamp (d.stamp + 2 * (2 ^ d.avg - 1)),
    rep := d.rep }

/-- The entry of a position channel's slot, with its value. -/
def posEnt (d : SlotDue) (v : Nat) (s : State) : QEnt :=
  { stamp := d.stamp, chan := d.chan, sample := v, seq := d.seq, qual := posQual s d.chan, rep := d.rep }

/-- A slot that is done enters the converter's FIFO, or the position input's. -/
def slotEnters (n : Nat) (codes : List Int) (d : SlotDue) (s : State) : State :=
  if 0x60 ≤ d.chan then
    let r := d.chan - 0x60
    let s := if r < 2 then s.setFld (R.ADC_RES_STAT r) F.ADC_RES_STAT.ANGLE (unsx 16 (codes.headD 0)) else s
    let v := if r < 2 then s.fld (R.ADC_RES_STAT r) F.ADC_RES_STAT.ANGLE else s.fld (R.ADC_ENC_STAT (r - 2)) F.ADC_ENC_STAT.COUNT
    xfPush (4 * 64 + r) [(d.queue, posEnt d v s)] s
  else xfPush (3 * 64 + n) [(d.queue, slotEnt codes d s)] s

theorem slotResult_eq {n : Nat} {codes : List Int} {d : SlotDue} {l : List SlotDue} {s : State}
    (hs : (s.adcOf n).slots = d :: l) :
    slotResult n codes s = slotEnters n codes d (slotTaken n (s.adcOf n) l (s.until d.due)) := by
  unfold slotResult
  extract_lets x
  have hx : x = s.adcOf n := rfl
  clear_value x
  subst hx
  rw [hs]
  rfl

theorem slotEnters_channel {n : Nat} {codes : List Int} {d : SlotDue} {s : State} (hc : d.chan < 0x60) :
    slotEnters n codes d s = xfPush (3 * 64 + n) [(d.queue, slotEnt codes d s)] s := if_neg (Nat.not_le.mpr hc)

theorem slotEnters_resolver {n : Nat} {codes : List Int} {d : SlotDue} {s v : State} (hc : d.chan = 0x60)
    (hv : s.setFld (R.ADC_RES_STAT 0) F.ADC_RES_STAT.ANGLE (unsx 16 (codes.headD 0)) = v) :
    slotEnters n codes d s = xfPush (4 * 64) [(d.queue, posEnt d (v.fld (R.ADC_RES_STAT 0) F.ADC_RES_STAT.ANGLE) v)] v := by
  have h0 : d.chan - 0x60 = 0 := by rw [hc]
  unfold slotEnters
  rw [if_pos hc.ge]
  dsimp only
  rw [h0, if_pos Nat.zero_lt_two, if_pos Nat.zero_lt_two, hv]

theorem xfDepth_converter (n : Fin 12) : xfDepth (xfId (3 * 64 + n)) = 128 := by
  have : xfId (3 * 64 + n) = 3 := by unfold xfId; omega
  rw [this]
  rfl

theorem adcStat_apart (n : Fin 12) : R.ADC_REF_CTRL ∉ [R.ADC_AD_STAT n] ∧ R.ADC_PHS_CFG ∉ [R.ADC_AD_STAT n] ∧
    R.ADC_AD_STAT n ∉ logRegs ∧ R.ADC_AD_STAT n ≠ R.ADC_FLAGS := by
  revert n
  decide

theorem adcSlotResult_channel (e : Nat) (n : Fin 12) (codes : List Int) (d : SlotDue) (l : List SlotDue) (s : State)
    (hs : (s.adcOf n).slots = d :: l) (hc : d.chan < 0x60) (hr : (s.xfOf (3 * 64 + n)).ents.length < 128) :
     Answers (.adcSlotResult e n codes) s fun t =>
       (t.adcOf n).slots = l ∧ (s.d0 = true → t.dt = max (s.dt + e) d.due) ∧
       (Pushes (3 * 64 + n) (d.queue) s t fun x => x.stamp = d.stamp ∧ x.chan = d.chan ∧
       x.seq = d.seq ∧ x.rep = d.rep ∧ x.unset = refUnset s d.stamp (d.stamp + 2 * (2 ^ d.avg - 1)) ∧
       (d.chan < 0x40 → (x.sample, x.range) = samplesResult s d.chan d.cal codes (2 ^ d.avg))) ∧
       OnlyRegs [R.ADC_AD_STAT n, R.ADC_FLAGS] s t := by
  refine .of_next (t := slotResult n codes (s.tick e)) rfl ?_
  rw [slotResult_eq (s := s.tick e) hs, slotEnters_channel hc]
  have hu := until_later e d.due s
  generalize (s.tick e).until d.due = u at *
  obtain ⟨h1, h2, h3⟩ := slotTaken_spec n ((s.tick e).adcOf n) l u
  have hv := (hu.converted _).trans h3
  generalize slotTaken n ((s.tick e).adcOf n) l u = v at *
  have he := xfPush_enters d.queue (slotEnt codes d v) (by rw [xfDepth_converter]; exact hv.room hr)
  generalize xfPush (3 * 64 + n) [(d.queue, slotEnt codes d v)] v = t at *
  refine ⟨(congrArg Adc.slots (State.adcOf_of_adc he.adc n)).trans h1, fun h => he.dt.trans (h2.trans (hu.dt h)),
    hv.pushes he ⟨rfl, rfl, rfl, rfl, hv.unset ?_ _ _, fun _ => hv.samples ?_ _ _ _ _⟩,
    (hv.only.mono (by simp)).trans (he.only.mono (by simp))⟩
  · exact (adcStat_apart n).1
  · exact (adcStat_apart n).2.1

theorem unsx_16_lt (z : Int) : unsx 16 z < 65536 := by
  unfold unsx
  omega

theorem adcSlotResult_resolver (e : Nat) (n : Fin 12) (codes : List Int) (d : SlotDue) (l : List SlotDue) (s : State)
    (hs : (s.adcOf n).slots = d :: l) (hc : d.chan = 0x60) (hr : (s.xfOf (4 * 64)).ents.length < 16) :
     Answers (.adcSlotResult e n codes) s fun t =>
       (t.adcOf n).slots = l ∧ t.fld (R.ADC_RES_STAT 0) F.ADC_RES_STAT.ANGLE = unsx 16 (codes.headD 0) ∧
       (Pushes (4 * 64) (d.queue) s t fun x => x.stamp = d.stamp ∧ x.chan = 0x60 ∧
       x.sample = unsx 16 (codes.headD 0)) := by
  refine .of_next (t := slotResult n codes (s.tick e)) rfl ?_
  rw [slotResult_eq (s := s.tick e) hs]
  have hu := until_later e d.due s
  generalize (s.tick e).until d.due = u at *
  obtain ⟨h1, -, h3⟩ := slotTaken_spec n ((s.tick e).adcOf n) l u
  have hw := (hu.converted [R.ADC_AD_STAT n, R.ADC_RES_STAT 0]).trans (h3.mono (by simp))
  generalize slotTaken n ((s.tick e).adcOf n) l u = w at *
  rw [slotEnters_resolver hc rfl]
  have hv := hw.setFld F.ADC_RES_STAT.ANGLE (unsx 16 (codes.headD 0)) (i := R.ADC_RES_STAT 0) (by simp)
  have hf : (w.setFld (R.ADC_RES_STAT 0) F.ADC_RES_STAT.ANGLE (unsx 16 (codes.headD 0))).fld (R.ADC_RES_STAT 0)
      F.ADC_RES_STAT.ANGLE = unsx 16 (codes.headD 0) := by
    rw [State.fld_setFld_eq _ (by decide)]
    exact Nat.mod_eq_of_lt (unsx_16_lt _)
  have ha : ((w.setFld (R.ADC_RES_STAT 0) F.ADC_RES_STAT.ANGLE (unsx 16 (codes.headD 0))).adcOf n).slots = l :=
    (congrArg Adc.slots (State.adcOf_setFld ..)).trans h1
  generalize w.setFld (R.ADC_RES_STAT 0) F.ADC_RES_STAT.ANGLE (unsx 16 (codes.headD 0)) = v at *
  have he := xfPush_enters d.queue (posEnt d (v.fld (R.ADC_RES_STAT 0) F.ADC_RES_STAT.ANGLE) v) (k := 4 * 64) (hv.room hr)
  generalize xfPush (4 * 64) [(d.queue, posEnt d (v.fld (R.ADC_RES_STAT 0) F.ADC_RES_STAT.ANGLE) v)] v = t at *
  exact ⟨(congrArg Adc.slots (State.adcOf_of_adc he.adc n)).trans ha,
    (State.fld_of_reg (he.only _ (by decide)) _).trans hf, hv.pushes he ⟨rfl, hc, hf⟩⟩

/-! ### A window's result (R233, R234) -/

/-- Converter n's oldest window is done, those left stand in its record x: its sum and its count are shown. -/
def windowTaken (n : Nat) (x : Adc) (codes : List Int) (w : IntWin) (l : List IntWin) (s : State) : State :=
  ((s.setAdc n { x with wins := l }).setReg (R.ADC_AD_INTSUM n)
    (BitVec.ofInt 40 (rawSum codes (evenTicks w.b w.len)))).setFld (R.ADC_AD_STAT n) F.ADC_AD_STAT.COUNT (evenTicks w.b w.len)

theorem adcWindow_apart (n : Fin 12) : R.ADC_AD_INTSUM n ≠ R.ADC_AD_STAT n ∧ R.ADC_AD_INTSUM n ≠ R.ADC_FLAGS ∧
    R.ADC_REF_CTRL ∉ [R.ADC_AD_INTSUM n, R.ADC_AD_STAT n] ∧ R.ADC_PHS_CFG ∉ [R.ADC_AD_INTSUM n, R.ADC_AD_STAT n] ∧
    R.ADC_AD_CFG n ∉ [R.ADC_AD_INTSUM n, R.ADC_AD_STAT n] := by
  revert n
  decide

theorem windowTaken_spec (n : Fin 12) (x : Adc) (codes : List Int) (w : IntWin) (l : List IntWin) (s : State) :
    let t := windowTaken n x codes w l s
    (t.adcOf n).wins = l ∧ t.dt = s.dt ∧ t.reg (R.ADC_AD_INTSUM n) = BitVec.ofInt 40 (rawSum codes (evenTicks w.b w.len)) ∧
    t.fld (R.ADC_AD_STAT n) F.ADC_AD_STAT.COUNT = evenTicks w.b w.len % 2 ^ F.ADC_AD_STAT.COUNT.width ∧
    Converted [R.ADC_AD_INTSUM n, R.ADC_AD_STAT n] s t := by
  unfold windowTaken
  have ha : ((s.setAdc n { x with wins := l }).adcOf n).wins = l := by rw [State.adcOf_setAdc]
  have hd : (s.setAdc n { x with wins := l }).dt = s.dt := rfl
  have hc : Converted [R.ADC_AD_INTSUM n, R.ADC_AD_STAT n] s (s.setAdc n { x with wins := l }) := converted_setAdc ..
  generalize s.setAdc n { x with wins := l } = u at *
  refine ⟨?_, ?_, ?_, State.fld_setFld_eq _ (by decide), (hc.setReg _ (by simp)).setFld _ _ (by simp)⟩
  · rw [State.adcOf_setFld, State.adcOf_setReg, ha]
  · rw [State.setFld_dt, State.setReg_dt, hd]
  · rw [State.reg_setFld_ne _ _ _ (adcWindow_apart n).1, State.reg_setReg_same]

/-- The entry of an integrator's window. -/
def windowEnt (n : Nat) (codes : List Int) (w : IntWin) (s : State) : QEnt :=
  { stamp := w.b, chan := s.fld (R.ADC_AD_CFG n) F.ADC_AD_CFG.CHAN,
    sample := (samplesResult s (s.fld (R.ADC_AD_CFG n) F.ADC_AD_CFG.CHAN) w.cal codes (max 1 (evenTicks w.b w.len))).1,
    seq := w.no % 256,
    range := (samplesResult s (s.fld (R.ADC_AD_CFG n) F.ADC_AD_CFG.CHAN) w.cal codes (max 1 (evenTicks w.b w.len))).2,
    unset := refUnset s (w.b + w.b % 2) (w.b + w.len - 1 - (w.b + w.len - 1) % 2), rep := w.rep }

theorem windowEnt_spec (n : Nat) (codes : List Int) (w : IntWin) (s : State) : let x := windowEnt n codes w s
    x.stamp = w.b ∧ x.seq = w.no % 256 ∧ x.rep = w.rep ∧ (x.sample, x.range) =
      samplesResult s (s.fld (R.ADC_AD_CFG n) F.ADC_AD_CFG.CHAN) w.cal codes (max 1 (evenTicks w.b w.len)) :=
  ⟨rfl, rfl, rfl, rfl⟩

/-- A window that is done enters the converter's FIFO. -/
def windowEnters (n : Nat) (codes : List Int) (w : IntWin) (s : State) : State :=
  xfPush (3 * 64 + n) [(s.fld (R.ADC_AD_CFG n) F.ADC_AD_CFG.QUEUE, windowEnt n codes w s)] s

theorem integratorResult_eq {n : Nat} {codes : List Int} {w : IntWin} {l : List IntWin} {s : State}
    (hs : (s.adcOf n).wins = w :: l) :
    integratorResult n codes s = windowEnters n codes w (windowTaken n (s.adcOf n) codes w l (s.until (w.b + w.len + 40))) := by
  unfold integratorResult
  extract_lets x
  have hx : x = s.adcOf n := rfl
  clear_value x
  subst hx
  rw [hs]
  rfl

theorem integratorResult_enters (e : Nat) (n : Fin 12) (first : Int) (codes : List Int) (w : IntWin) (l : List IntWin) (s : State)
    (hs : (s.adcOf n).wins = w :: l) (hr : (s.xfOf (3 * 64 + n)).ents.length < 128) :
     Answers (.integratorResult e n first codes) s fun t =>
       (t.adcOf n).wins = l ∧ t.reg (R.ADC_AD_INTSUM n) =
         BitVec.ofInt 40 (rawSum (first :: codes) (evenTicks w.b w.len)) ∧
       t.fld (R.ADC_AD_STAT n) F.ADC_AD_STAT.COUNT = evenTicks w.b w.len % 2 ^ F.ADC_AD_STAT.COUNT.width ∧
       (s.d0 = true → t.dt = max (s.dt + e) (w.b + w.len + 40)) ∧
       (Pushes (3 * 64 + n) (s.fld (R.ADC_AD_CFG n) F.ADC_AD_CFG.QUEUE) s t fun x => x.stamp = w.b ∧
         x.seq = w.no % 256 ∧ x.rep = w.rep ∧
       (x.sample, x.range) =
         samplesResult s (s.fld (R.ADC_AD_CFG n) F.ADC_AD_CFG.CHAN) w.cal (first :: codes) (max 1 (evenTicks w.b w.len))) ∧
       OnlyRegs [R.ADC_AD_INTSUM n, R.ADC_AD_STAT n, R.ADC_FLAGS] s t := by
  refine .of_next (t := integratorResult n (first :: codes) (s.tick e)) rfl ?_
  rw [integratorResult_eq (s := s.tick e) hs]
  have hu := until_later e (w.b + w.len + 40) s
  generalize (s.tick e).until (w.b + w.len + 40) = u at *
  obtain ⟨h1, h2, h3, h4, h5⟩ := windowTaken_spec n ((s.tick e).adcOf n) (first :: codes) w l u
  have hv := (hu.converted _).trans h5
  generalize windowTaken n ((s.tick e).adcOf n) (first :: codes) w l u = v at *
  unfold windowEnters
  obtain ⟨-, a2, a3, a4, a5⟩ := adcWindow_apart n
  have hcfg := State.fld_of_reg (hv.only _ a5)
  rw [hcfg]
  obtain ⟨x1, x2, x3, x4⟩ := windowEnt_spec n (first :: codes) w v
  rw [hcfg, hv.samples a4] at x4
  generalize windowEnt n (first :: codes) w v = x at *
  have he := xfPush_enters (s.fld (R.ADC_AD_CFG n) F.ADC_AD_CFG.QUEUE) x
    (by rw [xfDepth_converter]; exact hv.room hr)
  generalize xfPush (3 * 64 + n) [(s.fld (R.ADC_AD_CFG n) F.ADC_AD_CFG.QUEUE, x)] v = t at *
  refine ⟨(congrArg Adc.wins (State.adcOf_of_adc he.adc n)).trans h1, (he.only _ (by simp [a2])).trans h3,
    (State.fld_of_reg (he.only _ (by simp [(adcStat_apart n).2.2.2])) _).trans h4, fun h => he.dt.trans (h2.trans (hu.dt h)),
    hv.pushes he ⟨x1, x2, x3, x4⟩, (hv.only.mono (by simp)).trans (he.only.mono (by simp))⟩

end Sys2Proof.Machine
end

section
/-! SUPPORT. Triggers, streams and lanes of the converters. -/

namespace Sys2Proof.Machine

set_option Elab.async false

/-! ### A trigger starts the sequence (R230 to R232) -/

theorem seqSlots_length (s : State) (n seq : Nat) (l : List Nat) (t : Nat) (last : Option Nat) :
    (seqSlots s n seq l t last).1.length = l.length := by
  induction l generalizing t last with
  | nil => rfl
  | cons i l ih =>
    unfold seqSlots
    dsimp only
    split
    · exact congrArg (· + 1) (ih ..)
    · exact congrArg (· + 1) (ih ..)

theorem insSlot_length (x : SlotDue) (l : List SlotDue) : (insSlot x l).length = l.length + 1 := by
  induction l with
  | nil => rfl
  | cons y l ih =>
    unfold insSlot
    split
    · rfl
    · exact congrArg (· + 1) ih

theorem foldl_insSlot_length (l a : List SlotDue) : (l.foldl (fun a d => insSlot d a) a).length = a.length + l.length := by
  induction l generalizing a with
  | nil => rfl
  | cons d l ih => rw [List.foldl_cons, ih, insSlot_length, List.length_cons]; omega

/-- A sequence of converter n, whose record is x, begins with the slots given, the tick of its end and the last channel. -/
def adcSequenced (x : Adc) (r : List SlotDue × Nat × Option Nat) : Adc :=
  { x with busyTill := r.2.1, lastChan := r.2.2, slots := r.1.foldl (fun a d => insSlot d a) x.slots, ovRun := false,
           rep := false }

/-- The sequence that a trigger at a tick starts. -/
def sequenceBegins (n at_ : Nat) (x : Adc) (s : State) : State :=
  let seq := (s.fld (R.ADC_AD_STAT n) F.ADC_AD_STAT.SEQ_NO + 1) % 256
  let s := s.setFld (R.ADC_AD_STAT n) F.ADC_AD_STAT.SEQ_NO seq
  let r := seqSlots s n seq (List.range (s.fld (R.ADC_AD_CFG n) F.ADC_AD_CFG.LEN + 1)) (at_ + at_ % 2) x.lastChan
  (s.setAdc n (adcSequenced x r)).setBit (R.ADC_AD_STAT n) F.ADC_AD_STAT.BUSY true

/-- The tick at which a trigger at position k of the period that timebase record t runs falls. -/
def trigAt (t : Tb) (k : Nat) : Nat := t.b + k * t.len / 2 ^ 31

theorem trigAt_ge (t : Tb) (k : Nat) : t.b ≤ trigAt t k := Nat.le_add_right ..

/-- The tick at which converter n's trigger falls. -/
def adcTrigAt (n : Nat) (s : State) : Nat :=
  trigAt (s.tbOf (s.fld (R.ADC_AD_CFG n) F.ADC_AD_CFG.TB)) (s.fld (R.ADC_AD_TRIG n) F.ADC_AD_TRIG.AT)

/-- A trigger of converter n falls in its timebase's present period and meets no running sequence. -/
structure Triggers (n : Nat) (s : State) : Prop where
  mode : adcMode s n = 1
  act : (s.adcOf n).act = true
  run : (s.tbOf (s.fld (R.ADC_AD_CFG n) F.ADC_AD_CFG.TB)).run = true
  first : (s.tbOf (s.fld (R.ADC_AD_CFG n) F.ADC_AD_CFG.TB)).first = false
  every : (s.tbOf (s.fld (R.ADC_AD_CFG n) F.ADC_AD_CFG.TB)).no % 2 ^ s.fld (R.ADC_AD_TRIG n) F.ADC_AD_TRIG.EVERY = 0
  works : s.bit (R.ADC_AD_STAT n) F.ADC_AD_STAT.FAILED = false
  clear : s.bit R.PROT_PRE_STAT F.PROT_PRE_STAT.RUNNING = false
  free : (s.adcOf n).busyTill ≤ (s.tbOf (s.fld (R.ADC_AD_CFG n) F.ADC_AD_CFG.TB)).b

theorem adcTrigger_eq {n : Nat} {s : State} (h : Triggers n s) :
    adcTrigger n s = sequenceBegins n (adcTrigAt n s) (s.adcOf n) (s.until (adcTrigAt n s)) := by
  obtain ⟨h1, h2, h3, h4, h5, h6, h7, h8⟩ := h
  unfold adcTrigger
  extract_lets x j t every a u seq v w z start len r y
  have hat : a = adcTrigAt n s := rfl
  have ha : ¬ a < x.busyTill := Nat.not_lt.mpr (h8.trans (hat ▸ trigAt_ge ..))
  clear_value a
  subst hat
  have hy : y = v.setAdc n (adcSequenced x r) := rfl
  have hb : (v.setAdc n (adcSequenced x r)).setBit (R.ADC_AD_STAT n) F.ADC_AD_STAT.BUSY true =
    sequenceBegins n (adcTrigAt n s) (s.adcOf n) (s.until (adcTrigAt n s)) := rfl
  rw [if_neg ?_, if_neg ha, hy, hb]
  have hj : j = s.fld (R.ADC_AD_CFG n) F.ADC_AD_CFG.TB := rfl
  have ht : t = s.tbOf j := rfl
  have hx : x = s.adcOf n := rfl
  have he : every = 2 ^ s.fld (R.ADC_AD_TRIG n) F.ADC_AD_TRIG.EVERY := rfl
  rw [ht, hj, hx, he]
  simp [h1, h2, h3, h4, h5, h6, h7]


/-- A converter begins the sequence given, its number being seq. -/
def sequenceStarts (n : Nat) (x : Adc) (r : List SlotDue × Nat × Option Nat) (s : State) : State :=
  (s.setAdc n (adcSequenced x r)).setBit (R.ADC_AD_STAT n) F.ADC_AD_STAT.BUSY true

theorem sequenceStarts_spec (n : Nat) (x : Adc) (r : List SlotDue × Nat × Option Nat) (s : State) :
    let t := sequenceStarts n x r s
    t.fld (R.ADC_AD_STAT n) F.ADC_AD_STAT.SEQ_NO = s.fld (R.ADC_AD_STAT n) F.ADC_AD_STAT.SEQ_NO ∧
    t.bit (R.ADC_AD_STAT n) F.ADC_AD_STAT.BUSY = true ∧ t.adcOf n = adcSequenced x r ∧ Alter (2 ^ 67 ||| 2 ^ 93) s t ∧
    OnlyRegs [R.ADC_AD_STAT n] s t := by
  unfold sequenceStarts
  refine ⟨?_, State.bit_setBit_eq _ (by decide), ?_, ?_, ?_⟩
  · exact (State.fld_setBit_beside _ (by decide)).trans rfl
  · exact (State.adcOf_setFld ..).trans (State.adcOf_setAdc ..)
  · exact ((alter_setAdc ..).mono rfl).and ((alter_setBit ..).mono (rm_high (by unfold R.ADC_AD_STAT; omega) rfl))
  · exact ((OnlyRegs.refl _ s).congr rfl).setBit _ _ (List.mem_singleton.mpr rfl)

theorem sequenceBegins_spec (n : Fin 12) (at_ : Nat) (x : Adc) (s : State) : let t := sequenceBegins n at_ x s
    t.fld (R.ADC_AD_STAT n) F.ADC_AD_STAT.SEQ_NO = (s.fld (R.ADC_AD_STAT n) F.ADC_AD_STAT.SEQ_NO + 1) % 256 ∧
    t.bit (R.ADC_AD_STAT n) F.ADC_AD_STAT.BUSY = true ∧
    (t.adcOf n).slots.length = x.slots.length + s.fld (R.ADC_AD_CFG n) F.ADC_AD_CFG.LEN + 1 ∧
    (t.adcOf n).ovRun = false ∧ Alter (2 ^ 67 ||| 2 ^ 93) s t ∧ OnlyRegs [R.ADC_AD_STAT n] s t := by
  intro t
  have ht : t = sequenceStarts n x (seqSlots (s.setFld (R.ADC_AD_STAT n) F.ADC_AD_STAT.SEQ_NO
      ((s.fld (R.ADC_AD_STAT n) F.ADC_AD_STAT.SEQ_NO + 1) % 256)) n ((s.fld (R.ADC_AD_STAT n) F.ADC_AD_STAT.SEQ_NO + 1) % 256)
      (List.range ((s.setFld (R.ADC_AD_STAT n) F.ADC_AD_STAT.SEQ_NO
        ((s.fld (R.ADC_AD_STAT n) F.ADC_AD_STAT.SEQ_NO + 1) % 256)).fld (R.ADC_AD_CFG n) F.ADC_AD_CFG.LEN + 1)) (at_ + at_ % 2)
      x.lastChan) (s.setFld (R.ADC_AD_STAT n) F.ADC_AD_STAT.SEQ_NO
      ((s.fld (R.ADC_AD_STAT n) F.ADC_AD_STAT.SEQ_NO + 1) % 256)) := rfl
  clear_value t
  have hf : (s.setFld (R.ADC_AD_STAT n) F.ADC_AD_STAT.SEQ_NO ((s.fld (R.ADC_AD_STAT n) F.ADC_AD_STAT.SEQ_NO + 1) % 256)).fld
      (R.ADC_AD_STAT n) F.ADC_AD_STAT.SEQ_NO = (s.fld (R.ADC_AD_STAT n) F.ADC_AD_STAT.SEQ_NO + 1) % 256 :=
    (State.fld_setFld_eq _ (by decide)).trans (Nat.mod_mod ..)
  have ha : Alter (2 ^ 67 ||| 2 ^ 93) s (s.setFld (R.ADC_AD_STAT n) F.ADC_AD_STAT.SEQ_NO
      ((s.fld (R.ADC_AD_STAT n) F.ADC_AD_STAT.SEQ_NO + 1) % 256)) :=
    (alter_setFld ..).mono (rm_high (by unfold R.ADC_AD_STAT; omega) rfl)
  have ho := (OnlyRegs.refl [R.ADC_AD_STAT n] s).setFld F.ADC_AD_STAT.SEQ_NO
    ((s.fld (R.ADC_AD_STAT n) F.ADC_AD_STAT.SEQ_NO + 1) % 256) (List.mem_singleton.mpr rfl)
  have hl := State.fld_of_reg (ho (R.ADC_AD_CFG n) (by simp)) F.ADC_AD_CFG.LEN
  rw [hl] at ht
  generalize s.setFld (R.ADC_AD_STAT n) F.ADC_AD_STAT.SEQ_NO ((s.fld (R.ADC_AD_STAT n) F.ADC_AD_STAT.SEQ_NO + 1) % 256) = u at *
  generalize (s.fld (R.ADC_AD_STAT n) F.ADC_AD_STAT.SEQ_NO + 1) % 256 = q at *
  have hlen := seqSlots_length u n q (List.range (s.fld (R.ADC_AD_CFG n) F.ADC_AD_CFG.LEN + 1)) (at_ + at_ % 2) x.lastChan
  generalize seqSlots u n q (List.range (s.fld (R.ADC_AD_CFG n) F.ADC_AD_CFG.LEN + 1)) (at_ + at_ % 2) x.lastChan = r at *
  obtain ⟨h1, h2, h3, h4, h5⟩ := sequenceStarts_spec n x r u
  rw [ht]
  refine ⟨h1.trans hf, h2, ?_, by rw [h3]; rfl, ha.and h4, ho.trans h5⟩
  rw [h3]
  exact (foldl_insSlot_length ..).trans (by rw [hlen, List.length_range]; rfl)

theorem Alter.regsMeas {s t : State} (a : Alter (2 ^ 65 ||| 2 ^ 66 ||| 2 ^ 67 ||| 2 ^ 93) s t) :
    RegsOnly s { t with meas := s.meas } := by
  have h : t = { s with el := t.el, dt := t.dt, regs := t.regs, meas := t.meas } := a.eq_patch
  unfold RegsOnly
  generalize t.el = a1, t.dt = a2, t.regs = a3, t.meas = a4 at h
  subst h
  rfl

theorem adcTrigger_starts (e : Nat) (n : Fin 12) (s : State) (h : Triggers n s) :
     Answers (.adcTrigger e n) s fun t =>
       t.fld (R.ADC_AD_STAT n) F.ADC_AD_STAT.SEQ_NO = (s.fld (R.ADC_AD_STAT n) F.ADC_AD_STAT.SEQ_NO + 1) % 256 ∧
       t.bit (R.ADC_AD_STAT n) F.ADC_AD_STAT.BUSY = true ∧
       (t.adcOf n).slots.length = (s.adcOf n).slots.length + s.fld (R.ADC_AD_CFG n) F.ADC_AD_CFG.LEN + 1 ∧
       (t.adcOf n).ovRun = false ∧
       RegsOnly s { t with meas := s.meas } ∧ OnlyRegs [R.ADC_AD_STAT n] s t := by
  refine .of_next (t := adcTrigger n (s.tick e)) rfl ?_
  rw [adcTrigger_eq (s := s.tick e) ⟨h.mode, h.act, h.run, h.first, h.every, h.works, h.clear, h.free⟩]
  have hu := until_later e (adcTrigAt n (s.tick e)) s
  generalize adcTrigAt n (s.tick e) = d at *
  generalize (s.tick e).until d = u at *
  obtain ⟨h1, h2, h3, h4, h5, h6⟩ := sequenceBegins_spec n d ((s.tick e).adcOf n) u
  generalize sequenceBegins n d ((s.tick e).adcOf n) u = t at *
  exact ⟨h1.trans (by rw [hu.fld]), h2, h3.trans (by rw [hu.fld]; rfl), h4,
    ((hu.beside.mono rfl).and (h5.mono rfl)).regsMeas, (OnlyRegs.of_regs hu.regs).trans h6⟩

theorem adcTrigger_none (e : Nat) (n : Fin 12) (s : State) (h : adcMode s n ≠ 1) :
     Answers (.adcTrigger e n) s fun t =>
       t = s.tick e := .of_next (t := adcTrigger n (s.tick e)) rfl (if_pos (.inl h))

/-! ### A stream's sample (R235) -/

/-- The entry of a continuous converter's sample. -/
def streamEnt (n : Nat) (x : Adc) (code : Int) (s : State) : QEnt :=
  let chan := s.fld (R.ADC_AD_CFG n) F.ADC_AD_CFG.CHAN
  let v := samplesResult s chan (calNow s n chan) [code] 1
  let stamp := s.dt - s.dt % 2 - 18
  { stamp := stamp, chan := chan, sample := v.1, seq := x.cont / 2 ^ s.fld (R.ADC_AD_CFG n) F.ADC_AD_CFG.DEC % 256,
    range := v.2, unset := refUnset s stamp stamp, rep := x.rep }

/-- A continuous converter, whose record is x, has converted once more. -/
def streamed (n : Nat) (x : Adc) (s : State) : State := s.setAdc n { x with cont := x.cont + 1 }

theorem streamed_spec (n : Nat) (x : Adc) (s : State) : ((streamed n x s).adcOf n).cont = x.cont + 1 ∧
    (streamed n x s).dt = s.dt ∧ (streamed n x s).regs = s.regs ∧ Converted [] s (streamed n x s) := by
  unfold streamed
  exact ⟨by rw [State.adcOf_setAdc], rfl, rfl, converted_setAdc ..⟩

theorem continuousSample_eq {n : Nat} {code : Int} {s : State} (hm : adcMode s n = 3) (ha : (s.adcOf n).act = true)
    (hc : (s.adcOf n).cont % 2 ^ s.fld (R.ADC_AD_CFG n) F.ADC_AD_CFG.DEC = 0) :
    continuousSample n code s = xfPush (3 * 64 + n)
      [((streamed n (s.adcOf n) s).fld (R.ADC_AD_CFG n) F.ADC_AD_CFG.QUEUE,
        streamEnt n (s.adcOf n) code (streamed n (s.adcOf n) s))] (streamed n (s.adcOf n) s) := by
  unfold continuousSample
  extract_lets x dec u
  rw [if_neg (by rw [hm, ha]; decide), if_neg (not_not.mpr hc)]
  rfl

theorem continuousSample_enters (e : Nat) (n : Fin 12) (code : Int) (s : State) (hm : adcMode s n = 3)
    (ha : (s.adcOf n).act = true) (hc : (s.adcOf n).cont % 2 ^ s.fld (R.ADC_AD_CFG n) F.ADC_AD_CFG.DEC = 0)
    (hr : (s.xfOf (3 * 64 + n)).ents.length < 128) :
     Answers (.continuousSample e n code) s fun t =>
       (t.adcOf n).cont = (s.adcOf n).cont + 1 ∧
       (Pushes (3 * 64 + n) (s.fld (R.ADC_AD_CFG n) F.ADC_AD_CFG.QUEUE) s t fun x => x.stamp = t.dt - t.dt % 2 - 18 ∧
         x.seq = (s.adcOf n).cont / 2 ^ s.fld (R.ADC_AD_CFG n) F.ADC_AD_CFG.DEC % 256) ∧
       OnlyRegs [R.ADC_FLAGS] s t := by
  refine .of_next (t := continuousSample n code (s.tick e)) rfl ?_
  rw [continuousSample_eq (s := s.tick e) hm ha hc]
  have hx : (s.tick e).adcOf n = s.adcOf n := rfl
  rw [hx]
  have hu : Converted [] s (s.tick e) := ⟨rfl, rfl, rfl, .of_regs rfl⟩
  generalize s.tick e = u at *
  obtain ⟨h1, h2, h3, h4⟩ := streamed_spec n (s.adcOf n) u
  have hv := hu.trans h4
  generalize streamed n (s.adcOf n) u = v at *
  have hcfg := State.fld_of_reg (hv.only (R.ADC_AD_CFG n) List.not_mem_nil)
  have hseq : (streamEnt n (s.adcOf n) code v).seq =
    (s.adcOf n).cont / 2 ^ v.fld (R.ADC_AD_CFG n) F.ADC_AD_CFG.DEC % 256 := rfl
  have hst : (streamEnt n (s.adcOf n) code v).stamp = v.dt - v.dt % 2 - 18 := rfl
  rw [hcfg] at hseq
  rw [hcfg]
  generalize streamEnt n (s.adcOf n) code v = x at *
  have he := xfPush_enters (s.fld (R.ADC_AD_CFG n) F.ADC_AD_CFG.QUEUE) x (by rw [xfDepth_converter]; exact hv.room hr)
  generalize xfPush (3 * 64 + n) [(s.fld (R.ADC_AD_CFG n) F.ADC_AD_CFG.QUEUE, x)] v = t at *
  exact ⟨(congrArg Adc.cont (State.adcOf_of_adc he.adc n)).trans h1, hv.pushes he ⟨by rw [he.dt, hst], hseq⟩,
    (hv.only.mono (List.nil_subset _)).trans he.only⟩

/-! ### Lanes (R223, R224) -/

/-- Converter n has nothing in progress. -/
def adcCleared (n : Nat) (s : State) : State :=
  s.setAdc n { s.adcOf n with act := false, open_ := false, slots := [], wins := [], busyTill := 0, lanes := 0 }

/-- Converter n is shown failed. -/
def adcShownFailed (n : Nat) (s : State) : State :=
  (((s.setBit (R.ADC_AD_STAT n) F.ADC_AD_STAT.FAILED true).setBit (R.ADC_AD_STAT n) F.ADC_AD_STAT.BUSY false).setBit
    (R.ADC_AD_STAT n) F.ADC_AD_STAT.RUN false).setBit R.ADC_FLAGS F.ADC_FLAGS.LANE true

theorem adcFail_eq (n : Nat) (s : State) : adcFail n s =
    failReport { kind := 4, index := n } ((adcShownFailed n (adcCleared n s)).raise EV.ADC_LANE n []) := rfl

theorem adcCleared_spec (n : Nat) (s : State) : ((adcCleared n s).adcOf n).act = false ∧ (adcCleared n s).regs = s.regs ∧
    Alter (2 ^ 93) s (adcCleared n s) := by
  unfold adcCleared
  exact ⟨by rw [State.adcOf_setAdc], rfl, alter_setAdc ..⟩

theorem adcShownFailed_spec (n : Fin 12) (s : State) : let t := adcShownFailed n s
    t.bit (R.ADC_AD_STAT n) F.ADC_AD_STAT.FAILED = true ∧ t.bit (R.ADC_AD_STAT n) F.ADC_AD_STAT.RUN = false ∧
    t.bit R.ADC_FLAGS F.ADC_FLAGS.LANE = true ∧ OnlyRegs [R.ADC_AD_STAT n, R.ADC_FLAGS] s t ∧ Alter (2 ^ 67) s t := by
  have hn := (adcStat_apart n).2.2.2
  have hr : rm (R.ADC_AD_STAT n) ||| 2 ^ 67 = 2 ^ 67 := rm_high (by unfold R.ADC_AD_STAT; omega) rfl
  unfold adcShownFailed
  refine ⟨?_, ?_, State.bit_setBit_eq _ (by decide), ?_, ?_⟩
  · rw [State.bit_setBit_ne _ hn, State.bit_setBit_beside _ (by decide), State.bit_setBit_beside _ (by decide),
      State.bit_setBit_eq _ (by decide)]
  · rw [State.bit_setBit_ne _ hn, State.bit_setBit_eq _ (by decide)]
  · exact ((((OnlyRegs.refl _ s).setBit _ _ (by simp)).setBit _ _ (by simp)).setBit _ _ (by simp)).setBit _ _ (by simp)
  · exact ((((alter_setBit ..).mono hr).and ((alter_setBit ..).mono hr)).and ((alter_setBit ..).mono hr)).and
      ((alter_setBit ..).mono (rm_high (by decide) rfl))

theorem failReport_spec (f : PFail) (s : State) : (failReport f s).plc.fails = s.plc.fails ++ [{ f with stamp := s.dt }] ∧
    (failReport f s).regs = s.regs ∧ (failReport f s).dt = s.dt ∧ (failReport f s).ev = s.ev ∧ (failReport f s).meas = s.meas :=
  ⟨rfl, rfl, rfl, rfl, rfl⟩

theorem Alter.lanePatch {s t : State} (a : Alter (2 ^ 65 ||| 2 ^ 66 ||| evM ||| 2 ^ 93 ||| 2 ^ 103) s t) :
    t = { s with el := t.el, dt := t.dt, regs := t.regs, ev := t.ev, rcd := t.rcd, meas := t.meas, plc := t.plc } := a.eq_patch

theorem adcLane_fails {n diff : Nat} {s : State} (hf : s.bit (R.ADC_AD_STAT n) F.ADC_AD_STAT.FAILED = false)
    (h : 256 < diff ∨ 32 < diff ∧ 3 ≤ (s.adcOf n).lanes) : adcLane n diff s = adcFail n s := by
  unfold adcLane
  rw [if_neg (by rw [hf]; decide)]
  refine if_pos (h.imp_right fun ⟨h1, h2⟩ => ?_)
  rw [if_pos h1]
  omega

theorem adcLane_shows (e : Nat) (n : Fin 12) (diff : Nat) (s : State) (hf : s.bit (R.ADC_AD_STAT n) F.ADC_AD_STAT.FAILED = false)
    (h : 256 < diff ∨ 32 < diff ∧ 3 ≤ (s.adcOf n).lanes) :
     Answers (.adcLane e n diff) s fun t =>
       t.bit (R.ADC_AD_STAT n) F.ADC_AD_STAT.FAILED = true ∧ t.bit (R.ADC_AD_STAT n) F.ADC_AD_STAT.RUN = false ∧
       t.bit R.ADC_FLAGS F.ADC_FLAGS.LANE = true ∧ (t.adcOf n).act = false ∧ (LogReady s → Logs EV.ADC_LANE n s t) ∧
       t.plc.fails = s.plc.fails ++ [{ kind := 4, index := n, stamp := t.dt }] ∧
       OnlyRegs (logRegs ++ [R.ADC_AD_STAT n, R.ADC_FLAGS]) s t ∧
       t = { s with el := t.el, dt := t.dt, regs := t.regs, ev := t.ev, rcd := t.rcd, meas := t.meas, plc := t.plc } := by
  refine .of_next (t := adcLane n diff (s.tick e)) rfl ?_
  rw [adcLane_fails (s := s.tick e) hf h, adcFail_eq]
  have h0 := alter_tick e s
  have h0r : (s.tick e).regs = s.regs := rfl
  generalize s.tick e = u at *
  obtain ⟨c1, c2, c3⟩ := adcCleared_spec n u
  generalize adcCleared n u = v at *
  obtain ⟨d1, d2, d3, d4, d5⟩ := adcShownFailed_spec n v
  have d6 : (adcShownFailed n v).adcOf n = v.adcOf n := State.adcOf_of_adc (congrArg Meas.adc (d5.meas rfl)) n
  generalize adcShownFailed n v = w at *
  have hw : Alter (2 ^ 65 ||| 2 ^ 66 ||| 2 ^ 67 ||| 2 ^ 93) s w := ((h0.mono rfl).and (c3.mono rfl)).and (d5.mono rfl)
  have hlog := State.raise_logs EV.ADC_LANE n [] w
  have hb := fun f => State.bit_raise (s := w) (f := f) EV.ADC_LANE n [] (adcStat_apart n).2.2.1
  have hl : (w.raise EV.ADC_LANE n []).bit R.ADC_FLAGS F.ADC_FLAGS.LANE = w.bit R.ADC_FLAGS F.ADC_FLAGS.LANE :=
    State.bit_raise _ _ _ (by decide)
  have hr := alter_raise EV.ADC_LANE n [] w
  have ho := ((((OnlyRegs.of_regs (h0r)).congr c2).trans d4).mono (l' := logRegs ++ [R.ADC_AD_STAT n, R.ADC_FLAGS]) (by simp)).raise
    EV.ADC_LANE n [] (List.subset_append_left ..)
  have hm : (w.raise EV.ADC_LANE n []).meas = w.meas := State.raise_meas ..
  generalize w.raise EV.ADC_LANE n [] = x at *
  obtain ⟨f1, f2, f3, f4, f5⟩ := failReport_spec { kind := 4, index := n } x
  have hx := alter_failReport { kind := 4, index := n } x
  generalize failReport { kind := 4, index := n } x = t at *
  have hp : x.plc.fails = s.plc.fails := congrArg Plc.fails ((hr.plc rfl).trans (hw.plc rfl))
  refine ⟨?_, ?_, ?_, ?_, fun hq => ?_, by rw [f1, hp, f3], ho.congr f2,
    (((hw.mono rfl).and (hr.mono rfl)).and (hx.mono rfl)).lanePatch⟩
  · rw [State.bit_of_reg (Alter.reg_of_regs f2 _), hb, d1]
  · rw [State.bit_of_reg (Alter.reg_of_regs f2 _), hb, d2]
  · rw [State.bit_of_reg (Alter.reg_of_regs f2 _), hl, d3]
  · rw [State.adcOf_of_adc (congrArg Meas.adc (f5.trans hm)), d6, c1]
  · exact ((hlog (hq.congr (hw.boot rfl) (hw.ev rfl))).of_ev (hw.ev rfl)).to_ev f4

theorem adcLane_counts (e : Nat) (n : Fin 12) (diff : Nat) (s : State) (hf : s.bit (R.ADC_AD_STAT n) F.ADC_AD_STAT.FAILED = false)
    (h : diff ≤ 256) (hl : diff ≤ 32 ∨ (s.adcOf n).lanes < 3) :
     Answers (.adcLane e n diff) s fun t =>
       (t.adcOf n).lanes = (if 32 < diff then (s.adcOf n).lanes + 1 else 0) ∧ t = { s.tick e with meas := t.meas } := by
  refine .of_next (t := adcLane n diff (s.tick e)) rfl ?_
  have he : adcLane n diff (s.tick e) = (s.tick e).setAdc n
      { (s.tick e).adcOf n with lanes := if 32 < diff then (s.adcOf n).lanes + 1 else 0 } := by
    have hf' : (s.tick e).bit (R.ADC_AD_STAT n) F.ADC_AD_STAT.FAILED = false := hf
    unfold adcLane
    rw [if_neg (by rw [hf']; decide)]
    refine if_neg ?_
    have hx : (s.tick e).adcOf n = s.adcOf n := rfl
    rw [hx]
    split
    · omega
    · omega
  rw [he]
  exact ⟨by rw [State.adcOf_setAdc], rfl⟩

/-- Settles O23: a result finds its FIFO with room and so writes, of the registers, its converter's and ADC_FLAGS. -/
theorem convertersConvert : Obligations.ConvertersConvert := by
  unfold Obligations.ConvertersConvert
  exact ⟨fun e n s h1 h2 h3 h4 h5 h6 h7 h8 => adcTrigger_starts e n s ⟨h1, h2, h3, h4, h5, h6, h7, h8⟩, adcTrigger_none,
    adcSlotResult_channel, adcSlotResult_resolver, integratorResult_enters, continuousSample_enters, adcLane_shows,
    adcLane_counts⟩

end Sys2Proof.Machine
end

section
/-! SUPPORT. A request that its port takes, from its arrival to its reply, whatever its operation: one that needs a decision of the
gloves carries the agreed one with it (R45, R549, R560). -/

namespace Sys2Proof.Machine

set_option Elab.async false

/-! ### The state in which a request is executed -/

/-- What a request's arrival, its audit entry and its answering may change. -/
abbrev requestM : Nat := 2 ^ 65 ||| 2 ^ 66 ||| 2 ^ 67 ||| 2 ^ 75 ||| 2 ^ 77 ||| 2 ^ 79 ||| 2 ^ 80 ||| 2 ^ 107

/-- State u is that in which a request that came e ticks after s is executed: time and its port apart, s. -/
structure Arrived (e : Nat) (s u : State) : Prop where
  beside : Alter (2 ^ 65 ||| 2 ^ 66 ||| 2 ^ 67 ||| 2 ^ 77) s u
  only : OnlyRegs [R.CMD_PORT_STAT 0, R.CMD_PORT_STAT 1] s u
  dt : u.dt = (s.tick e).dt
  el : u.el = s.el + e

theorem alter_countAsk (k : Nat) (s : State) : Alter (2 ^ 67) s (countAsk k s) := by
  unfold countAsk
  split
  · exact Alter.refl _ s
  · exact (alter_setFld ..).mono (rm_high (by unfold R.CMD_PORT_STAT; omega) rfl)

theorem alter_enqueue (k : Nat) (a : Ask) (s : State) : Alter (2 ^ 77) s (enqueue k a s) :=
  (((alter_setPort ..).mono rfl).and ((alter_setPort ..).mono rfl)).and ((alter_setPort ..).mono rfl)

/-! ### A port that takes a request, whether the gloves keep their outputs back or not -/

/-- The port of an origin takes a request: all of `Takes` but the request's session, and that the gloves keep nothing back. -/
structure Admits (r : Req) (s : State) : Prop where
  run : s.boot.phase = .run
  image : s.boot.imageBad = false
  path : 1 ≤ r.origin ∧ r.origin ≤ 5 ∧ r.node < 256
  waiting : (s.portOf (pathKey r)).waiting = []
  held : (s.portOf (pathKey r)).held = false
  room : heldCount s (pathKey r) < 16
  seq : ((AMap.get? s.lastReq (pathKey r)).all fun l => l.seq != r.seq) = true

theorem admits_tick {r : Req} {s : State} (e : Nat) (h : Admits r s) : Admits r (s.tick e) :=
  ⟨h.run, h.image, h.path, h.waiting, h.held, h.room, h.seq⟩

theorem admits_of_takes {r : Req} {s : State} (h : Takes r s) : Admits r s := by
  obtain ⟨h1, h2, h3, h4, h5, h6, h7, -, -⟩ := h
  exact ⟨h1, h2, h3, h4, h5, h6, h7⟩

theorem kept_of_takes {r : Req} {s : State} (h : Takes r s) : outputsKept s = false := by
  obtain ⟨-, -, -, -, -, -, -, hkept, -⟩ := h
  exact hkept

/-- A request that names no session, or a privileged one, is open to its sender. -/
theorem sessionOpenTo_of_priv {r : Req} {s : State} (op : Op) (h : r.session = 0 ∨ privileged s r = true) :
    sessionOpenTo s (askFor r op) = true := by
  unfold sessionOpenTo
  rcases h with h0 | hp
  · simp [askFor, h0]
  · unfold privileged at hp
    cases hg : AMap.get? s.sessions r.session with
    | none => simp [hg] at hp
    | some x =>
      simp only [hg, Bool.and_eq_true] at hp
      obtain ⟨⟨⟨hauth, horig⟩, hnode⟩, -⟩ := hp
      simp [askFor, hg, hauth, horig, hnode]

theorem open_of_takes {r : Req} {s : State} (op : Op) (h : Takes r s) : sessionOpenTo s (askFor r op) = true := by
  obtain ⟨-, -, -, -, -, -, -, -, hsess⟩ := h
  exact sessionOpenTo_of_priv op hsess

section
variable {r : Req} {s : State} (h : Admits r s)
include h

theorem Admits.stands (op : Op) : Stands (askFor r op) s (arrival r op s) := by
  have hcount := countAsk_only (pathKey r) s
  have hu : (arrival r op s).portOf (pathKey r) = _ := enqueue_portOf (pathKey r) (askFor r op) (countAsk (pathKey r) s)
  have hport : (countAsk (pathKey r) s).portOf (pathKey r) = s.portOf (pathKey r) := by
    simp only [State.portOf]
    rw [hcount]
  rw [hport] at hu
  constructor
  case waiting => exact (congrArg Port.waiting hu).trans (by simp [h.waiting])
  case held => exact (congrArg Port.held hu).trans h.held
  case replies => exact (congrArg Port.replies hu :)
  case path => exact (countAsk_answered h.path s).trans (enqueue_answered _ _ _)
  all_goals rw [arrival_only]

theorem Admits.arrived (op : Op) (e : Nat) : Arrived e s (arrival r op (s.tick e)) := by
  have hr : OnlyRegs [R.CMD_PORT_STAT 0, R.CMD_PORT_STAT 1] s (arrival r op (s.tick e)) :=
    fun i hi => (countAsk_reg h.path (s.tick e) hi).trans rfl
  have hb : Alter (2 ^ 67 ||| 2 ^ 77) (s.tick e) (arrival r op (s.tick e)) :=
    ((alter_countAsk ..).mono rfl).and ((alter_enqueue ..).mono rfl)
  exact ⟨((alter_tick e s).mono rfl).and (hb.mono rfl), hr, hb.dt rfl, hb.el rfl⟩

theorem Admits.enters {op : Op} (hsafe : asksSafe (askFor r op) = false) : askEnters (askFor r op) s = (true, arrival r op s) := by
  have hcount := countAsk_only (pathKey r) s
  have hheld : heldCount (countAsk (pathKey r) s) (pathKey r) = heldCount s (pathKey r) :=
    heldCount_congr (by rw [hcount]) (by rw [hcount]) _
  rw [askEnters_of_good (by simp [portsLive, h.run]) hsafe rfl, show (askFor r op).req = r from rfl, hheld,
    if_neg (Nat.not_le.mpr h.room)]
  rfl

theorem Admits.unrepeated {op : Op} {u : State} (hu : Stands (askFor r op) s u) : repeated u (pathKey r) (askFor r op) = none := by
  have hseq := h.seq
  unfold repeated
  rw [hu.lastReq]
  cases hl : AMap.get? s.lastReq (pathKey r) with
  | none => rfl
  | some l =>
    rw [hl] at hseq
    have hne : (l.seq == r.seq) = false := by simpa using hseq
    simp [askFor, hne]

end

section
variable {e : Nat} {s u : State} (h : Arrived e s u)
include h

theorem Arrived.reg {i : Nat} (hi : i ∉ [R.CMD_PORT_STAT 0, R.CMD_PORT_STAT 1]) : u.reg i = s.reg i := h.only i hi

theorem Arrived.fld {i : Nat} (hi : i ∉ [R.CMD_PORT_STAT 0, R.CMD_PORT_STAT 1]) (f : Fld) : u.fld i f = s.fld i f :=
  State.fld_of_reg (h.only i hi) f

theorem Arrived.bit {i : Nat} (hi : i ∉ [R.CMD_PORT_STAT 0, R.CMD_PORT_STAT 1]) (f : Fld) : u.bit i f = s.bit i f :=
  State.bit_of_reg (h.only i hi) f

theorem Arrived.mode : u.mode = s.mode := State.mode_of_reg (h.only _ (by decide))

theorem Arrived.privileged (r : Req) : privileged u r = privileged s r := privileged_congr (h.beside.sessions rfl) r

theorem Arrived.auditFull : u.auditFull = s.auditFull := by
  unfold State.auditFull
  rw [h.beside.audit rfl]

theorem Arrived.logReady (hl : LogReady s) : LogReady u := hl.congr (h.beside.boot rfl) (h.beside.ev rfl)

theorem Arrived.answered : Answered [] s u :=
  ⟨(h.beside.mono (m := requestM) rfl).eq_patch, fun i hi => h.only i fun hm => hi (by revert hm; simp only [portRegs]; aesop)⟩

end

/-! ### Its execution (R549, R560) -/

/-- An operation that asks for no SAFE and has parameters of a length it takes. -/
structure FormedOp (op : Op) : Prop where
  notSafe : op ≠ .safeReq
  notModeSafe : op ≠ .modeReq Mode.safe
  form : opForm op = true

theorem FormedOp.asksSafe {op : Op} (ho : FormedOp op) (r : Req) : asksSafe (askFor r op) = false := by
  simp [Machine.asksSafe, askFor, ho.notSafe, ho.notModeSafe]

/-- A request at the head of its port: a matter for the gloves, or executed at once (R549, R560). -/
theorem Admits.decided {go : State → State} {r : Req} {op : Op} {s u : State} (h : Admits r s)
    (hopen : sessionOpenTo s (askFor r op) = true) (hu : Stands (askFor r op) s u) (ho : FormedOp op) :
    decideAsk go (pathKey r) (askFor r op) u = if needsGlove op then toGlove go (pathKey r) (askFor r op) op u
      else .reply (opRun go r op u).reply (opRun go r op u).exe (opRun go r op u).s := by
  have hnew := h.unrepeated hu
  have hopenU : sessionOpenTo u (askFor r op) = true := by
    unfold sessionOpenTo at hopen ⊢
    rw [hu.sessions]
    exact hopen
  have hboot : u.boot = s.boot := by rw [hu.path.1]
  have hbooting : booting u = false := by simp [booting, hboot, h.run]
  unfold askFor at hnew hopenU ⊢
  simp [decideAsk, hnew, hopenU, hbooting, knownCode_opCode, hboot, h.image, ho.notSafe, ho.notModeSafe, ho.form]

/-- What the checks made at once refuse, the execution of a mode request refuses with the same status. -/
theorem opRun_badRange {go : State → State} {r : Req} {op : Op} {s : State} (h : opRange op = false) :
    opRun go r op s = .refuse St.badParam s := by
  unfold opRun
  rw [if_pos (by simp [h])]

/-- What the checks made before the gloves decide give: for some operations the range of the parameters alone. -/
theorem toGlove_checks (go : State → State) (r : Req) (op : Op) (u : State) : let x : Ran := match op with
    | .modeReq _ | .sessOpen | .sessAuth _ | .sessClose => ⟨⟨if opRange op then St.ok else St.badParam, []⟩, true, u⟩
    | _ => opRun go r op u
    x = opRun go r op u ∨ x = ⟨⟨if opRange op then St.ok else St.badParam, []⟩, true, u⟩ := by
  intro x
  unfold x
  split
  · exact .inr rfl
  · exact .inr rfl
  · exact .inr rfl
  · exact .inr rfl
  · exact .inl rfl

/-- A request that its port takes while the gloves keep nothing back is executed from the state its arrival leaves, and answered
with what that gives: the gloves agree to it. -/
theorem Admits.hostOp_runs {go : State → State} {r : Req} {op : Op} {s : State} (h : Admits r s)
    (hopen : sessionOpenTo s (askFor r op) = true) (ho : FormedOp op) (hkept : outputsKept s = false) :
    ∃ exe, hostOp go r op s = answer (pathKey r) (askFor r op) (opRun go r op (arrival r op s)).reply exe
      (opRun go r op (arrival r op s)).s := by
  have hu := h.stands op
  have hin := h.enters (ho.asksSafe r)
  have hhost : hostOp go r op s = askNow go (pathKey r) (askFor r op) (arrival r op s) := by
    unfold hostOp
    extract_lets a k
    rw [if_neg (by simp [k, h.held, hkept]), show askEnters a s = _ from hin]
    rfl
  have hhalted : (arrival r op s).bit R.GLV_STAT F.GLV_STAT.HALTED = false := by
    rw [hu.path.bit (by decide)]
    simp only [outputsKept, jStopped, Bool.or_eq_false_iff] at hkept
    exact hkept.1.1
  have hdecide := h.decided (go := go) hopen hu ho
  rw [hhost]
  unfold askNow
  rw [hdecide]
  cases needsGlove op with
  | false => exact ⟨_, rfl⟩
  | true =>
    rw [if_pos rfl]
    unfold toGlove
    extract_lets x
    have hx : x = opRun go r op (arrival r op s) ∨
        x = ⟨⟨if opRange op then St.ok else St.badParam, []⟩, true, arrival r op s⟩ := toGlove_checks go r op (arrival r op s)
    clear_value x
    by_cases hrefused : (!x.exe || !doneStatus x.reply.status) = true
    · rw [if_pos hrefused]
      refine ⟨false, ?_⟩
      rcases hx with rfl | rfl
      · rfl
      · cases hr : opRange op with
        | true => rw [hr] at hrefused; exact absurd hrefused (by simp [doneStatus])
        | false => rw [opRun_badRange hr]; rfl
    · rw [if_neg hrefused, hhalted]
      exact ⟨(opRun go r op (arrival r op s)).exe, rfl⟩

/-! ### Its reply (R544 to R547, R552, R567) -/

/-- State t is state w with a request of the sender answered. -/
structure Closed (r : Req) (w t : State) : Prop where
  beside : Alter (2 ^ 77 ||| 2 ^ 79 ||| 2 ^ 80 ||| 2 ^ 107) w t
  can : r.origin ≤ 2 → t.can = w.can
  ctl : ∀ c, ∃ l, canOf t c = { canOf w c with tout := l }
  auth : ∀ n, (AMap.get? t.sessions n).map (·.auth) = (AMap.get? w.sessions n).map (·.auth)
  sessions : AMap.get? w.sessions r.session = none → t.sessions = w.sessions

theorem canOf_setCan_tout (c : Nat) (l : List TunOut) (s : State) (k : Nat) :
    ∃ l', canOf (setCan c { canOf s c with tout := l } s) k = { canOf s k with tout := l' } := by
  by_cases e : k = c
  · subst e
    exact ⟨l, AMap.getD_put_same _ _ _ _⟩
  · exact ⟨(canOf s k).tout, AMap.getD_put_other _ _ _ _ e⟩

/-- The request is taken from its port, and what it leaves for the next one with the same number is kept. -/
def answerNoted (k : Nat) (a : Ask) (p : Reply) (exe : Bool) (s : State) : State :=
  let x := s.portOf k
  let s := s.setPort k { x with waiting := x.waiting.drop 1, held := false }
  if exe && doneStatus p.status then
    let l : LastReq := { session := a.req.session, seq := a.req.seq, code := a.code, crc := a.crc, op := a.op, at_ := s.dt, reply := p }
    let s := { s with lastReq := AMap.ins s.lastReq k l }
    match AMap.get? s.sessions a.req.session with
    | some y => { s with sessions := AMap.ins s.sessions a.req.session { y with last := s.dt } }
    | none => s
  else s

theorem answer_eq (k : Nat) (a : Ask) (p : Reply) (exe : Bool) (s : State) : answer k a p exe s =
    if a.req.quiet && p.status == St.ok then answerNoted k a p exe s
    else putReply k a (replyBytes a p) (answerNoted k a p exe s) := rfl

theorem get?_touched {m : AMap Session} {n : Nat} {y : Session} (h : AMap.get? m n = some y) (d k : Nat) :
    (AMap.get? (AMap.ins m n { y with last := d }) k).map (·.auth) = (AMap.get? m k).map (·.auth) := by
  by_cases e : k = n
  · subst e
    rw [AMap.get?_ins_same, h]
    rfl
  · rw [AMap.get?_ins_other _ _ e]

theorem answerNoted_spec (k : Nat) (a : Ask) (p : Reply) (exe : Bool) (s : State) : let t := answerNoted k a p exe s
    t.can = s.can ∧ (∀ n, (AMap.get? t.sessions n).map (·.auth) = (AMap.get? s.sessions n).map (·.auth)) ∧
    (AMap.get? s.sessions a.req.session = none → t.sessions = s.sessions) := by
  unfold answerNoted
  extract_lets x u l v t
  have hv : v.sessions = s.sessions := rfl
  have hvc : v.can = s.can := rfl
  have huc : u.can = s.can := rfl
  have hu : u.sessions = s.sessions := rfl
  clear_value v u
  unfold t
  split
  · rw [← hv, ← hvc]
    cases hg : AMap.get? v.sessions a.req.session with
    | none => exact ⟨rfl, fun _ => rfl, fun _ => rfl⟩
    | some y => exact ⟨rfl, fun n => get?_touched hg _ n, nofun⟩
  · exact ⟨huc, fun n => by rw [hu], fun _ => hu⟩

theorem putReply_spec (k : Nat) (a : Ask) (b : List Byte) (s : State) : (putReply k a b s).sessions = s.sessions ∧
    (keyCan k = none → (putReply k a b s).can = s.can) ∧
    ∀ c, ∃ l, canOf (putReply k a b s) c = { canOf s c with tout := l } := by
  unfold putReply
  split
  · rename_i c hc
    exact ⟨rfl, fun h => absurd (hc.symm.trans h) nofun, canOf_setCan_tout _ _ s⟩
  · exact ⟨rfl, fun _ => rfl, fun c => ⟨(canOf s c).tout, rfl⟩⟩

theorem answer_closed {r : Req} (hn : r.node < 256) (op : Op) (p : Reply) (exe : Bool) (w : State) :
    Closed r w (answer (pathKey r) (askFor r op) p exe w) := by
  have ha := alter_answer (pathKey r) (askFor r op) p exe w
  obtain ⟨h1, h2, h3⟩ := answerNoted_spec (pathKey r) (askFor r op) p exe w
  obtain ⟨p1, p2, p3⟩ := putReply_spec (pathKey r) (askFor r op) (replyBytes (askFor r op) p)
    (answerNoted (pathKey r) (askFor r op) p exe w)
  have hctl : ∀ c, canOf (answerNoted (pathKey r) (askFor r op) p exe w) c = canOf w c := fun c => by
    unfold canOf
    rw [h1]
  rw [answer_eq] at ha ⊢
  by_cases hq : ((askFor r op).req.quiet && p.status == St.ok) = true
  · rw [if_pos hq] at ha ⊢
    exact ⟨ha.mono rfl, fun _ => h1, fun c => ⟨(canOf w c).tout, hctl c⟩, h2, h3⟩
  · rw [if_neg hq] at ha ⊢
    refine ⟨ha.mono rfl, fun ho => (p2 (keyCan_pathKey ho hn)).trans h1, fun c => ?_, fun n => ?_, fun h => p1.trans (h3 h)⟩
    · rw [← hctl c]
      exact p3 c
    · rw [p1, h2]

section
variable {r : Req} {w t : State} (h : Closed r w t)
include h

theorem Closed.reg (i : Nat) : t.reg i = w.reg i := Alter.reg_of_regs (h.beside.regs rfl) i

theorem Closed.fld (i : Nat) (f : Fld) : t.fld i f = w.fld i f := State.fld_of_reg (h.reg i) f

theorem Closed.bit (i : Nat) (f : Fld) : t.bit i f = w.bit i f := State.bit_of_reg (h.reg i) f

theorem Closed.mode : t.mode = w.mode := State.mode_of_reg (h.reg _)

end

/-! ### From the command to its reply -/

/-- A command that is a request which its port takes: the request is executed in a state that is the one before it but for time and
its port, and is answered with what the execution gives. -/
theorem answers_admitted {c : Instr} {r : Req} {op : Op} {go : State → State} {e code : Nat} {s : State} {P : State → Prop}
    (hexec : exec c s = .next (hostOp go r op (s.tick e))) (hcode : opCode op = code) (h : Admits r s)
    (hopen : sessionOpenTo s (askFor r op) = true) (hkept : outputsKept s = false) (ho : FormedOp op)
    (hrun : ∀ u, Arrived e s u → ∃ st payload exe w, opRun go r op u = ⟨⟨st, payload⟩, exe, w⟩ ∧ w.ports = u.ports ∧
      ∀ t, Replied r code st payload s t → Closed r w t → P t) : Answers c s P := by
  have h' := admits_tick e h
  obtain ⟨st, payload, exe, w, hop, hports, hk⟩ := hrun _ (h.arrived op e)
  obtain ⟨exe', heq⟩ := h'.hostOp_runs (go := go) hopen ho hkept
  have hu := h'.stands op
  obtain ⟨-, -, hnode⟩ := h.path
  refine ⟨_, hexec, ?_⟩
  rw [heq, hop]
  exact hk _ (hcode ▸ replied_of_stands hnode hu hports st payload exe') (answer_closed hnode op _ exe' w)

/-- The same for a request that the port's conditions let through as they stand (`Takes`). -/
theorem answers_served {c : Instr} {r : Req} {op : Op} {go : State → State} {e code : Nat} {s : State} {P : State → Prop}
    (hexec : exec c s = .next (hostOp go r op (s.tick e))) (hcode : opCode op = code) (h : Takes r s) (ho : FormedOp op)
    (hrun : ∀ u, Arrived e s u → ∃ st payload exe w, opRun go r op u = ⟨⟨st, payload⟩, exe, w⟩ ∧ w.ports = u.ports ∧
      ∀ t, Replied r code st payload s t → Closed r w t → P t) : Answers c s P :=
  answers_admitted hexec hcode (admits_of_takes h) (open_of_takes op h) (kept_of_takes h) ho hrun

end Sys2Proof.Machine
end

section
/-! SUPPORT. A packet that writes or reads one register: what it writes, by the register's row, and what its checks make of it
(R549, R551, R554, R555, R578 to R583, R695). -/

namespace Sys2Proof.Machine

set_option Elab.async false

/-! ### Bits of a field -/

theorem Reg.ext_bits {x y : Reg} (h : ∀ b, x.toNat.testBit b = y.toNat.testBit b) : x = y :=
  BitVec.eq_of_toNat_eq (Nat.eq_of_testBit_eq h)

/-- A mask has every bit of a field. -/
abbrev HasField (m : Reg) (f : Fld) : Prop := ∀ b < f.width, m.getLsbD (b + f.lo) = true

theorem Fld.get_eq {f : Fld} {v w : Reg} (h : ∀ b < f.width, v.getLsbD (b + f.lo) = w.getLsbD (b + f.lo)) : f.get v = f.get w := by
  refine Nat.eq_of_testBit_eq fun b => ?_
  rw [Fld.get_testBit, Fld.get_testBit]
  by_cases hb : b < f.width
  · exact congrArg _ (h b hb)
  · simp [hb]

/-- A field that a mask covers reads the same through the mask. -/
theorem Fld.get_and {f : Fld} {m : Reg} (hm : HasField m f) (v : Reg) : f.get (v &&& m) = f.get v :=
  Fld.get_eq fun b hb => by rw [BitVec.getLsbD_and, hm b hb, Bool.and_true]

/-- A field that a mask covers, in a word that another replaces under the mask. -/
theorem Fld.get_replaced {f : Fld} {m : Reg} (hm : HasField m f) (x v : Reg) : f.get ((x &&& ~~~m) ||| (v &&& m)) = f.get v :=
  Fld.get_eq fun b hb => by
    rw [BitVec.getLsbD_or, BitVec.getLsbD_and, BitVec.getLsbD_and, BitVec.getLsbD_not, hm b hb]
    simp

/-! ### The write by its row -/

/-- A write of every bit of a register, with value v. -/
abbrev wholeItem (i : Nat) (v : Reg) : Item := ⟨i, allOnes, v, false⟩

/-- The row of the register at an index. -/
def rowOf (i : Nat) : RegRow := (regRow i).getD ⟨0, 0, 0, 0, 0, []⟩

/-- The bits of a register of the classes listed. -/
def maskOf (i : Nat) (l : List Cls) : Reg := clsMask (rowOf i) l

/-- What the audit entry of a write gives as the value before (R578, R693). -/
def oldAt (r : Req) (i : Nat) (s : State) : Reg := if windowData i then (readItem r i s).2.1 else readReg r s i

/-- A write of the whole register i with value v, as a request of r finds state s. -/
def wrAt (r : Req) (i : Nat) (v : Reg) (s : State) : Wr := wrOf (rowOf i) (wholeItem i v) (oldAt r i s) (s.reg i)

/-- A write of the whole register accesses a field. -/
def touches (i : Nat) (v : Reg) : Bool := (rowOf i).fields.any (wholeItem i v).accesses

/-- A write of the whole register accesses a field that asks for privilege. -/
def audits (i : Nat) (v : Reg) : Bool := (rowOf i).fields.any fun f => f.cls.priv && (wholeItem i v).accesses f

/-- A write that is done is entered in the audit log (R578, R579). -/
def noted (i : Nat) (v : Reg) : Bool := (audits i v && i != R.ENG_GWIN_DATA) || (windowData i && i != R.ENG_GWIN_DATA)

/-- A register that a host may write. -/
abbrev Writable (i : Nat) : Prop :=
  (regRow i).isSome = true ∧ i < 0x3F00 ∧ (rowOf i).fields.any (fun f => f.cls.writable) = true ∧ i ≠ R.ENG_GWIN_CTRL

theorem regRow_rowOf {i : Nat} (h : (regRow i).isSome = true) : regRow i = some (rowOf i) := by
  unfold rowOf
  obtain ⟨row, hrow⟩ := Option.isSome_iff_exists.mp h
  rw [hrow]
  rfl

section
variable (r : Req) (i : Nat) (v : Reg) (s : State)

@[simp] theorem wrAt_idx : (wrAt r i v s).idx = i := rfl

@[simp] theorem wrAt_word : (wrAt r i v s).word = v := by
  simp [wrAt, wrOf]

@[simp] theorem wrAt_trig : (wrAt r i v s).trig = v &&& maskOf i [.wo, .wop] := by
  simp [wrAt, wrOf, maskOf]

@[simp] theorem wrAt_clr : (wrAt r i v s).clr = v &&& maskOf i [.w1c, .w1cp] := by
  simp [wrAt, wrOf, maskOf]

@[simp] theorem wrAt_audited : (wrAt r i v s).audited = audits i v := rfl

@[simp] theorem wrAt_touches : (wrAt r i v s).touches = touches i v := rfl

theorem wrAt_new (h : maskOf i [.w1c, .w1cp] = 0) :
    (wrAt r i v s).new = (s.reg i &&& ~~~(maskOf i [.rw, .rwp])) ||| (v &&& maskOf i [.rw, .rwp]) := by
  have h' : clsMask (rowOf i) [.w1c, .w1cp] = 0 := h
  have hz : ∀ x y : Reg, x &&& ~~~(y &&& 0) = x := fun x y => by rw [show y &&& (0 : Reg) = 0#40 from BitVec.and_zero, BitVec.not_zero, BitVec.and_allOnes]
  have ho : ∀ x y : Reg, (x &&& (0#40)) ||| y = y := fun x y => by rw [BitVec.and_zero, BitVec.zero_or]
  simp only [wrAt, wrOf, maskOf, h', hz, ho, BitVec.and_allOnes, BitVec.not_allOnes]

theorem wrAt_covers (f : Fld) : (wrAt r i v s).covers f = (f.mask != 0) := by
  unfold Wr.covers
  rw [show (wrAt r i v s).cov = allOnes from rfl, BitVec.allOnes_and]

theorem wrAt_fires (f : Fld) : (wrAt r i v s).fires f = (v &&& maskOf i [.wo, .wop] &&& f.mask != 0) := by
  unfold Wr.fires
  rw [wrAt_trig]

theorem wrAt_get (h : maskOf i [.w1c, .w1cp] = 0) {f : Fld} (hf : HasField (maskOf i [.rw, .rwp]) f) :
    (wrAt r i v s).get f = f.get v := by
  unfold Wr.get
  rw [wrAt_new r i v s h, Fld.get_replaced hf]

end

/-- A register with a field that every write accesses (R695). -/
theorem touches_of_field {i : Nat} (h : ((rowOf i).fields.any fun f => (f.cls == .rw || f.cls == .rwp ||
    ((f.cls == .wo || f.cls == .wop) && f.hi != f.lo)) && f.fld.mask != 0) = true) (v : Reg) : touches i v = true := by
  obtain ⟨f, hf, hk⟩ := List.any_eq_true.mp h
  refine List.any_eq_true.mpr ⟨f, hf, ?_⟩
  simp only [Item.accesses, BitVec.and_allOnes]
  cases hc : f.cls <;> simp_all

/-- A register with a privileged field that every write accesses (R7, R695). -/
theorem audits_of_field {i : Nat} (h : ((rowOf i).fields.any fun f => f.cls == .rwp && f.fld.mask != 0) = true) (v : Reg) :
    audits i v = true := by
  obtain ⟨f, hf, hk⟩ := List.any_eq_true.mp h
  refine List.any_eq_true.mpr ⟨f, hf, ?_⟩
  simp only [Item.accesses, BitVec.and_allOnes]
  cases hc : f.cls <;> simp_all [Cls.priv]

/-- A register without a privileged field. -/
theorem audits_of_open {i : Nat} (h : ((rowOf i).fields.any fun f => f.cls.priv) = false) (v : Reg) : audits i v = false := by
  refine List.any_eq_false.mpr fun f hf => ?_
  have := List.any_eq_false.mp h f hf
  simp_all

/-! ### A write that is done -/

/-- The kind of a write's audit entry (R583). -/
def entryKind (i : Nat) (v : Reg) : Nat :=
  if windowData i || (i == R.LIFE_CTRL && (v &&& maskOf i [.wo, .wop] &&& F.LIFE_CTRL.CLEAR.mask != 0)) then 2 else 1

/-- State y is state x with a write of register i by r entered in the audit log, where it is to be. -/
structure Entry (r : Req) (i : Nat) (v : Reg) (x y : State) : Prop where
  beside : Alter (2 ^ 67 ||| 2 ^ 75) x y
  only : OnlyRegs [R.CMD_AUDIT_NEXT, R.CMD_AUDIT_STAT, R.CMD_FLAGS] x y
  made : noted i v = true → x.auditFull = false → ∃ a : AuditEntry, y.audit.buf = x.audit.buf ++ [a] ∧ a.kind = entryKind i v ∧
    a.index = i ∧ a.origin = r.origin ∧ a.node = r.node ∧ a.session = r.session

/-- Whose entry a write's is, and of what kind (R501, R578, R583). -/
theorem writeEntry_fields (r : Req) (w : Wr) (addr : Nat) (new : Reg) (st : Nat) : let a := writeEntry r w addr new st
    a.kind = (if windowData w.idx || (w.idx == R.LIFE_CTRL && w.fires F.LIFE_CTRL.CLEAR) then 2 else 1) ∧ a.index = w.idx ∧
    a.origin = r.origin ∧ a.node = r.node ∧ a.session = r.session := by
  unfold writeEntry
  extract_lets a
  unfold a
  cases (windowData w.idx || (w.idx == R.LIFE_CTRL && w.fires F.LIFE_CTRL.CLEAR)) with
  | true => exact ⟨rfl, rfl, rfl, rfl, rfl⟩
  | false => exact ⟨rfl, rfl, rfl, rfl, rfl⟩

theorem wrAt_kind (r : Req) (i : Nat) (v : Reg) (s : State) : (if windowData (wrAt r i v s).idx ||
    ((wrAt r i v s).idx == R.LIFE_CTRL && (wrAt r i v s).fires F.LIFE_CTRL.CLEAR) then 2 else 1) = entryKind i v := by
  rw [wrAt_fires, wrAt_idx]
  rfl

theorem onlyRegs_auditPush (a : AuditEntry) (s : State) :
    OnlyRegs [R.CMD_AUDIT_NEXT, R.CMD_AUDIT_STAT, R.CMD_FLAGS] s (auditPush a s) := by
  unfold auditPush
  extract_lets n c x u
  have hu : OnlyRegs [R.CMD_AUDIT_NEXT, R.CMD_AUDIT_STAT, R.CMD_FLAGS] s u := .of_regs rfl
  clear_value u
  exact (hu.setFld _ _ (by decide)).setFld _ _ (by decide)

theorem onlyRegs_auditAdd (a : AuditEntry) (s : State) :
    OnlyRegs [R.CMD_AUDIT_NEXT, R.CMD_AUDIT_STAT, R.CMD_FLAGS] s (s.auditAdd a) := by
  unfold State.auditAdd
  split
  · extract_lets u
    have hu : OnlyRegs [R.CMD_AUDIT_NEXT, R.CMD_AUDIT_STAT, R.CMD_FLAGS] s u :=
      ((OnlyRegs.refl _ s).incFld _ _ (by decide)).setBit _ _ (by decide)
    clear_value u
    exact hu.congr rfl
  · exact onlyRegs_auditPush _ s

/-- The item of a write that its register accepts: its effect, with its entry in the audit log where it is to have one. -/
theorem writeItem_accepted {go : State → State} {r : Req} {i st : Nat} {v : Reg} {u x : State} (hW : Writable i)
    (hp : audits i v = true → privileged u r = true) (ht : touches i v = true) (hroom : noted i v = true → u.auditFull = false)
    (hx : regWrite go r (wrAt r i v u) u = ⟨0, st, x⟩) : ∃ a, (writeItem go r true (wholeItem i v) u).o =
      ⟨0, st, if noted i v then x.auditAdd (writeEntry r (wrAt r i v u) (tableAddr u i) a st) else x⟩ := by
  obtain ⟨hrow, hidx, hwrite, -⟩ := hW
  have hpriv : ((wrAt r i v u).audited && !privileged u r) = false := by
    rw [wrAt_audited]
    cases ha : audits i v with
    | false => rfl
    | true => rw [hp ha]; rfl
  have hfull : (noted i v && u.auditFull) = false := by
    cases hn : noted i v with
    | false => rfl
    | true => rw [hroom hn]; rfl
  have hnote : ((wrAt r i v u).audited && i != R.ENG_GWIN_DATA || windowData i && i != R.ENG_GWIN_DATA) = noted i v := rfl
  refine ⟨readReg r x i ||| (wrAt r i v u).trig, ?_⟩
  unfold writeItem
  rw [if_neg (show ¬0x4000 ≤ i by omega), regRow_rowOf hrow]
  simp only [hwrite, Bool.not_true, Bool.false_eq_true, if_false]
  rw [show wrOf (rowOf i) (wholeItem i v) (if windowData i = true then (readItem r i u).2.1 else readReg r u i) (u.reg i) =
    wrAt r i v u from rfl, hpriv, hx]
  simp only [wrAt_touches, ht, Bool.not_true, Bool.and_false, Bool.false_and, Bool.false_eq_true, if_false, hnote, hfull]
  rw [if_neg (by decide), if_neg (by decide)]
  cases noted i v with
  | false =>
    simp only [ne_eq, not_true, Bool.false_eq_true, if_false]
  | true =>
    simp only [ne_eq, not_true, if_false, if_true]

theorem write_done {go : State → State} {r : Req} {i st : Nat} {v : Reg} {u x : State} (hW : Writable i)
    (hp : audits i v = true → privileged u r = true) (ht : touches i v = true) (hroom : noted i v = true → u.auditFull = false)
    (hx : regWrite go r (wrAt r i v u) u = ⟨0, st, x⟩) :
    ∃ y, opRun go r (.regWrite [(i, v)]) u = ⟨⟨st, []⟩, true, y⟩ ∧ Entry r i v x y := by
  obtain ⟨a, ho⟩ := writeItem_accepted hW hp ht hroom hx
  obtain ⟨run, hw⟩ := writePacket_single ho rfl
  refine ⟨_, (opRun_regWrite_single ..).trans hw, ?_⟩
  have hrun : ∀ w : State, Alter (2 ^ 75) w { w with audit := { w.audit with fullRun := run } } := fun w => alter_audit _ _ rfl
  cases hn : noted i v with
  | false => exact ⟨(hrun x).mono rfl, fun _ _ => rfl, fun h => absurd (hn.symm.trans h) nofun⟩
  | true =>
    rw [if_pos rfl]
    refine ⟨(alter_auditAdd _ x).and ((hrun _).mono rfl), onlyRegs_auditAdd _ x, fun _ hfull => ?_⟩
    obtain ⟨b, hbuf, hk, hi, h1, h2, h3⟩ := auditAdd_room (writeEntry r (wrAt r i v u) (tableAddr u i) a st) hfull
    obtain ⟨k1, k2, k3, k4, k5⟩ := writeEntry_fields r (wrAt r i v u) (tableAddr u i) a st
    rw [wrAt_kind] at k1
    exact ⟨b, hbuf, hk.trans k1, hi.trans k2, h1.trans k3, h2.trans k4, h3.trans k5⟩

/-! ### A write that its register refuses -/

/-- A write that its register's mode rule, range or resource refuses (R549 checks 8 to 10) answers its item's place. -/
theorem write_refused {go : State → State} {r : Req} {i lv : Nat} {v : Reg} {u : State} (hW : Writable i)
    (hp : audits i v = true → privileged u r = true) (hlv : lv = 8 ∨ lv = 9 ∨ lv = 10)
    (hx : regWrite go r (wrAt r i v u) u = .refuse lv u) :
    opRun go r (.regWrite [(i, v)]) u = .refuse (WOut.refuse lv u).st u (leBytes 2 0) := by
  obtain ⟨hrow, hidx, hwrite, hgwin⟩ := hW
  have hpriv : ((wrAt r i v u).audited && !privileged u r) = false := by
    rw [wrAt_audited]
    cases ha : audits i v with
    | false => rfl
    | true => rw [hp ha]; rfl
  have h0 : lv ≠ 0 := by omega
  have ho : ∃ old, writeItem go r true (wholeItem i v) u = { o := .refuse lv u, old := old } := by
    refine ⟨oldAt r i u, ?_⟩
    unfold writeItem
    rw [if_neg (show ¬0x4000 ≤ i by omega), regRow_rowOf hrow]
    simp only [hwrite, Bool.not_true, Bool.false_eq_true, if_false]
    rw [show wrOf (rowOf i) (wholeItem i v) (if windowData i = true then (readItem r i u).2.1 else readReg r u i) (u.reg i) =
      wrAt r i v u from rfl, hpriv, hx]
    rw [if_neg (show ¬(false = true) by decide)]
    have hlv0 : (WOut.refuse lv u).lv = lv := rfl
    simp only [hlv0, h0, decide_false, Bool.false_and, Bool.false_eq_true, if_false]
    split
    · rfl
    · rfl
  obtain ⟨old, ho⟩ := ho
  rw [opRun_regWrite_single]
  have hrun : runItems go r true [wholeItem i v] 0 { s := u } = { s := u, bad := [(0, lv, (WOut.refuse lv u).st)] } := by
    simp [runItems, ho, WOut.refuse, h0, hgwin]
  have h11 : lv ≠ 11 := by omega
  have hden : (WOut.refuse lv u).st ≠ St.denied := by
    unfold WOut.refuse
    rcases hlv with rfl | rfl | rfl
    · exact (by decide : St.wrongMode ≠ St.denied)
    · exact (by decide : St.badParam ≠ St.denied)
    · exact (by decide : St.busy ≠ St.denied)
  unfold writePacket
  simp [hrun, leastBad, h11, hden]

end Sys2Proof.Machine
end

section
/-! SUPPORT. A command that writes one register, from its arrival to its reply: what the write leaves is what its register's rule
makes of it, beside its entry in the audit log and its reply (R549, R555, R578). -/

namespace Sys2Proof.Machine

set_option Elab.async false

/-! ### A setting: some fields of a register written, the others as they are -/

theorem Fld.set_getLsbD {f : Fld} (ho : f.lo ≤ f.hi ∧ f.hi < 40) (v : Reg) (x b : Nat) :
    (f.set v x).getLsbD b = if b < f.lo then v.getLsbD b else if b ≤ f.hi then x.testBit (b - f.lo) else v.getLsbD b :=
  Fld.set_testBit f v x ho.1 ho.2 b

/-- A write of one stored field, the other fields written as they are, leaves the register with that field replaced. -/
theorem wrAt_new_setting {r : Req} {i : Nat} {f : Fld} {x : Nat} {s u : State} (hrow : (regRow i).isSome = true)
    (h : maskOf i [.w1c, .w1cp] = 0) (hf : HasField (maskOf i [.rw, .rwp]) f) (ho : f.lo ≤ f.hi ∧ f.hi < 40)
    (hu : u.reg i = s.reg i) : (wrAt r i (settingVal s i [(f, x)]) u).new = f.set (u.reg i) x := by
  have hv : settingVal s i [(f, x)] = f.set (u.reg i &&& maskOf i [.rw, .rwp]) x := by
    unfold settingVal
    rw [regRow_rowOf hrow, hu]
    rfl
  rw [wrAt_new _ _ _ _ h, hv]
  generalize maskOf i [.rw, .rwp] = m at hf
  refine BitVec.eq_of_getLsbD_eq fun b hb40 => ?_
  rw [BitVec.getLsbD_or, BitVec.getLsbD_and, BitVec.getLsbD_and, BitVec.getLsbD_not, Fld.set_getLsbD ho, Fld.set_getLsbD ho,
    BitVec.getLsbD_and, decide_eq_true hb40]
  by_cases hb : f.lo ≤ b ∧ b ≤ f.hi
  · have hm := hf (b - f.lo) (by unfold Fld.width; omega)
    rw [Nat.sub_add_cancel hb.1] at hm
    simp [hm, show ¬b < f.lo by omega, hb.2]
  · have hkeep : ∀ y z : Bool, (if b < f.lo then y else if b ≤ f.hi then z else y) = y := fun y z => by
      by_cases h1 : b < f.lo
      · rw [if_pos h1]
      · rw [if_neg h1, if_neg (by omega)]
    rw [hkeep, hkeep]
    cases m.getLsbD b <;> simp

/-- The value of a setting of a register that stores nothing is that of its fields alone. -/
theorem settingVal_trigger {i : Nat} (hrow : (regRow i).isSome = true) (h : maskOf i [.rw, .rwp] = 0) (s : State)
    (l : List (Fld × Nat)) : settingVal s i l = l.foldl (fun v p => p.1.set v p.2) 0 := by
  have hv : settingVal s i l = l.foldl (fun v p => p.1.set v p.2) (s.reg i &&& maskOf i [.rw, .rwp]) := by
    unfold settingVal
    rw [regRow_rowOf hrow]
    rfl
  rw [hv, h]
  exact congrArg (fun z => List.foldl _ z l) BitVec.and_zero

/-! ### What a plain write stores -/

theorem zeroOn_none (f : Fld) (i : Nat) (g : Fld) (s : State) : zeroOn 0 f i g s = s := by
  unfold zeroOn
  rw [show (0 : Reg) &&& f.mask = 0 from BitVec.zero_and]
  rfl

theorem zeroEach_none (f : Fld) (n : Nat) (i : Nat → Nat) (g : Fld) (s : State) : zeroEach 0 f n i g s = s := by
  have h : bitsOf n (f.get 0) = [] := by
    refine List.filter_eq_nil_iff.mpr fun b _ => ?_
    simp [Fld.get]
  unfold zeroEach
  rw [h]
  rfl

/-- A write that clears no sticky bit has no effect beside its register, where that is not a graph's flags. -/
theorem clearEffects_zero {i : Nat} (hgraph : ¬(R.ENG_G_FLAGS 0 ≤ i ∧ i ≤ R.ENG_G_FLAGS 7 ∧ (i - R.ENG_G_FLAGS 0) % 16 = 0))
    (s : State) : clearEffects i 0 s = s := by
  have hmask : ∀ m : Reg, ((0 : Reg) &&& m != 0) = false := fun m => by
    rw [show (0 : Reg) &&& m = 0 from BitVec.zero_and]
    rfl
  have hlatch : ∀ u, latchRelease (BitVec.toNat (0 : Reg)) u = u := fun _ => rfl
  have hp : ∀ u, clearPower i 0 u = u := fun u => by
    unfold clearPower
    simp only [zeroOn_none, zeroEach_none, hlatch, ite_self]
  have hm : ∀ u, clearMeas i 0 u = u := fun u => by
    unfold clearMeas
    simp only [zeroEach_none, hmask, Bool.false_eq_true, if_false, if_neg hgraph, ite_self]
  have hh : ∀ u, clearHost i 0 u = u := fun u => by
    unfold clearHost
    simp only [zeroOn_none, zeroEach_none, forEach, List.foldl_cons, List.foldl_nil, ite_self]
  unfold clearEffects
  rw [hp, hm, hh]

/-- A register behind the engines' block is none of the graphs' flags. -/
theorem clearEffects_none {i : Nat} (hi : 0x1600 ≤ i) (s : State) : clearEffects i 0 s = s :=
  clearEffects_zero (by unfold R.ENG_G_FLAGS; omega) s

/-- A plain write of one stored field stores that field alone. -/
theorem plain_setting {r : Req} {i : Nat} {f : Fld} {x : Nat} {s u : State} (hi : 0x1600 ≤ i) (hrow : (regRow i).isSome = true)
    (h : maskOf i [.w1c, .w1cp] = 0) (hf : HasField (maskOf i [.rw, .rwp]) f) (ho : f.lo ≤ f.hi ∧ f.hi < 40)
    (hu : u.reg i = s.reg i) : (wrAt r i (settingVal s i [(f, x)]) u).plain u = u.setFld i f x := by
  unfold Wr.plain
  rw [wrAt_new_setting hrow h hf ho hu, wrAt_clr, h, wrAt_idx, show ∀ v : Reg, v &&& 0 = 0 from fun v => BitVec.and_zero,
    clearEffects_none hi]
  rfl

/-- A plain write of a whole value stores its stored bits. -/
theorem plain_value {r : Req} {i : Nat} {v : Reg} {u : State} (hi : 0x1600 ≤ i) (h : maskOf i [.w1c, .w1cp] = 0) :
    (wrAt r i v u).plain u = u.setReg i ((u.reg i &&& ~~~(maskOf i [.rw, .rwp])) ||| (v &&& maskOf i [.rw, .rwp])) := by
  unfold Wr.plain
  rw [wrAt_new _ _ _ _ h, wrAt_clr, h, wrAt_idx, show ∀ v : Reg, v &&& 0 = 0 from fun v => BitVec.and_zero, clearEffects_none hi]

/-! ### From the command to its reply -/

theorem formedOp_write (i : Nat) (v : Reg) : FormedOp (.regWrite [(i, v)]) := ⟨nofun, nofun, rfl⟩

theorem formedOp_read (i : Nat) : FormedOp (.regRead [i]) := ⟨nofun, nofun, rfl⟩

/-- State t is what is left of a write of register i by r whose effect, its entry and its reply apart, is state x. -/
structure Finished (r : Req) (i : Nat) (v : Reg) (x t : State) : Prop where
  beside : Alter (2 ^ 67 ||| 2 ^ 75 ||| 2 ^ 77 ||| 2 ^ 79 ||| 2 ^ 80 ||| 2 ^ 107) x t
  only : OnlyRegs [R.CMD_AUDIT_NEXT, R.CMD_AUDIT_STAT, R.CMD_FLAGS] x t
  can : r.origin ≤ 2 → t.can = x.can
  ctl : ∀ c, ∃ l, canOf t c = { canOf x c with tout := l }
  made : noted i v = true → x.auditFull = false → ∃ a : AuditEntry, t.audit.buf = x.audit.buf ++ [a] ∧ a.kind = entryKind i v ∧
    a.index = i ∧ a.origin = r.origin ∧ a.node = r.node ∧ a.session = r.session

theorem finished_of {r : Req} {i : Nat} {v : Reg} {x y t : State} (he : Entry r i v x y) (hc : Closed r y t) :
    Finished r i v x t := by
  have hcan : y.can = x.can := he.beside.can rfl
  have hctl : ∀ c, canOf y c = canOf x c := fun c => by
    unfold canOf
    rw [hcan]
  refine ⟨(he.beside.mono rfl).and (hc.beside.mono rfl), he.only.congr (hc.beside.regs rfl), fun h => (hc.can h).trans hcan,
    fun c => hctl c ▸ hc.ctl c, fun hn hf => ?_⟩
  rw [hc.beside.audit rfl]
  exact he.made hn hf

/-- A command that writes one register, which the register accepts. -/
theorem answers_write {c : Instr} {r : Req} {go : State → State} {e i : Nat} {v : Reg} {s : State} {P : State → Prop}
    (hexec : exec c s = .next (hostOp go r (.regWrite [(i, v)]) (s.tick e))) (h : Takes r s) (hW : Writable i)
    (ht : touches i v = true) (hp : audits i v = true → privileged s r = true) (hroom : noted i v = true → s.auditFull = false)
    (hrun : ∀ u, Arrived e s u → ∃ st x, regWrite go r (wrAt r i v u) u = ⟨0, st, x⟩ ∧ x.ports = u.ports ∧
      ∀ t, Replied r 0x11 st [] s t → Finished r i v x t → P t) : Answers c s P := by
  refine answers_served hexec rfl h (formedOp_write i v) fun u hu => ?_
  obtain ⟨st, x, hx, hports, hk⟩ := hrun u hu
  obtain ⟨y, hy, he⟩ := write_done hW (fun ha => (hu.privileged r).trans (hp ha)) ht (fun hn => hu.auditFull.trans (hroom hn)) hx
  exact ⟨st, [], true, y, hy, (he.beside.ports rfl).trans hports, fun t hreply hc => hk t hreply (finished_of he hc)⟩

/-- A command that writes one register, which the register's mode rule, range or resource refuses. -/
theorem answers_write_refused {c : Instr} {r : Req} {go : State → State} {e i lv : Nat} {v : Reg} {s : State}
    (hexec : exec c s = .next (hostOp go r (.regWrite [(i, v)]) (s.tick e))) (h : Takes r s) (hW : Writable i)
    (hp : audits i v = true → privileged s r = true) (hlv : lv = 8 ∨ lv = 9 ∨ lv = 10)
    (hrun : ∀ u, Arrived e s u → regWrite go r (wrAt r i v u) u = .refuse lv u) :
    Answers c s fun t => Replied r 0x11 (WOut.refuse lv s).st (leBytes 2 0) s t ∧ Answered [] s t := by
  refine answers_served hexec rfl h (formedOp_write i v) fun u hu => ?_
  have hop := write_refused hW (fun ha => (hu.privileged r).trans (hp ha)) hlv (hrun u hu)
  refine ⟨_, _, false, u, hop, rfl, fun t hreply hc => ⟨hreply, hu.answered.trans ?_⟩⟩
  exact ⟨(hc.beside.mono (m := requestM) rfl).eq_patch, fun j _ => hc.reg j⟩

theorem opRun_regRead_single (go : State → State) (r : Req) (i : Nat) (s : State) :
    opRun go r (.regRead [i]) s = readPacket r [i] s := by
  unfold opRun
  rw [if_neg (by simp [opRange])]

/-- A command that reads one register. -/
theorem answers_read {c : Instr} {r : Req} {go : State → State} {e i : Nat} {s : State} {P : State → Prop}
    (hexec : exec c s = .next (hostOp go r (.regRead [i]) (s.tick e))) (h : Takes r s)
    (hrun : ∀ u, Arrived e s u → ∃ v x, readItem r i u = (St.ok, v, x) ∧ x.ports = u.ports ∧
      ∀ t, Replied r 0x10 St.ok (leBytes 5 v.toNat) s t → Closed r x t → P t) : Answers c s P := by
  refine answers_served hexec rfl h (formedOp_read i) fun u hu => ?_
  obtain ⟨v, x, hx, hports, hk⟩ := hrun u hu
  have hop := opRun_regRead_single go r i u
  exact ⟨St.ok, _, true, x, hop.trans (readPacket_single hx), hports, hk⟩

/-- A read packet of one register whose read is refused. -/
theorem readPacket_refused {r : Req} {i st : Nat} {v : Reg} {s t : State} (h : readItem r i s = (st, v, t)) (hst : st ≠ St.ok) :
    readPacket r [i] s = .refuse st s (leBytes 2 0) := by
  simp [readPacket, readList, h, hst, firstRefusal]

/-- A command that reads one register, whose read is refused. -/
theorem answers_read_refused {c : Instr} {r : Req} {go : State → State} {e i st : Nat} {s : State}
    (hexec : exec c s = .next (hostOp go r (.regRead [i]) (s.tick e))) (h : Takes r s) (hst : st ≠ St.ok)
    (hrun : ∀ u, Arrived e s u → ∃ v x, readItem r i u = (st, v, x)) :
    Answers c s fun t => Replied r 0x10 st (leBytes 2 0) s t ∧ Answered [] s t := by
  refine answers_served hexec rfl h (formedOp_read i) fun u hu => ?_
  obtain ⟨v, x, hx⟩ := hrun u hu
  have hop := opRun_regRead_single go r i u
  refine ⟨st, _, false, u, hop.trans (readPacket_refused hx hst), rfl, fun t hreply hc => ⟨hreply, hu.answered.trans ?_⟩⟩
  exact ⟨(hc.beside.mono (m := requestM) rfl).eq_patch, fun j _ => hc.reg j⟩

section
variable {r : Req} {i : Nat} {v : Reg} {x t : State} (h : Finished r i v x t)
include h

theorem Finished.reg {j : Nat} (hj : j ∉ [R.CMD_AUDIT_NEXT, R.CMD_AUDIT_STAT, R.CMD_FLAGS]) : t.reg j = x.reg j := h.only j hj

theorem Finished.fld {j : Nat} (hj : j ∉ [R.CMD_AUDIT_NEXT, R.CMD_AUDIT_STAT, R.CMD_FLAGS]) (f : Fld) : t.fld j f = x.fld j f :=
  State.fld_of_reg (h.only j hj) f

theorem Finished.bit {j : Nat} (hj : j ∉ [R.CMD_AUDIT_NEXT, R.CMD_AUDIT_STAT, R.CMD_FLAGS]) (f : Fld) : t.bit j f = x.bit j f :=
  State.bit_of_reg (h.only j hj) f

theorem Finished.mode : t.mode = x.mode := State.mode_of_reg (h.only _ (by decide))

/-- The write's entry, made in the audit log as it was before. -/
theorem Finished.audits {s : State} (hn : noted i v = true) (hroom : s.auditFull = false) (hx : x.audit = s.audit) :
    Audits r (entryKind i v) i s t := by
  obtain ⟨a, hbuf, ha⟩ := h.made hn (by unfold State.auditFull; rw [hx]; exact hroom)
  exact ⟨a, by simp [hbuf, hx], ha⟩

/-- A write that changed registers and the controllers alone. -/
theorem Finished.answered {l : List Nat} {e : Nat} {s u : State} (hu : Arrived e s u) (hx : Alter (2 ^ 67 ||| 2 ^ 107) u x)
    (hl : OnlyRegs l u x) : Answered l s t := by
  have ha : Alter (requestM ||| 2 ^ 107) s t := ((hu.beside.mono rfl).and (hx.mono rfl)).and (h.beside.mono rfl)
  refine ⟨ha.eq_patch, fun j hj => ?_⟩
  have hj' : j ∉ l ∧ j ∉ [R.CMD_AUDIT_NEXT, R.CMD_AUDIT_STAT, R.CMD_FLAGS] ∧ j ∉ [R.CMD_PORT_STAT 0, R.CMD_PORT_STAT 1] := by
    simp only [portRegs, List.mem_append, List.mem_cons, List.not_mem_nil, not_or] at hj ⊢
    tauto
  exact (h.only j hj'.2.1).trans ((hl j hj'.1).trans (hu.reg hj'.2.2))

end

end Sys2Proof.Machine
end

section
/-! SUPPORT. Writes of the CAN registers (R592, R595, R597, R598, R601, R602, R606, R618, R621), and the settling of O49. -/

namespace Sys2Proof.Machine

set_option Elab.async false

/-! ### The registers of a controller -/

theorem regWrite_can {go : State → State} {r : Req} {w : Wr} (h : w.idx / 256 = 36) (s : State) :
    regWrite go r w s = canWrite w s := by
  simp [regWrite, h]

/-- A write of the register at offset o of controller c's. -/
theorem regWrite_controller {go : State → State} {r : Req} {w : Wr} {c o : Nat} (hc : c < 3) (ho : o < 64)
    (h : w.idx = R.CAN_C_CFG c + o) (s : State) : regWrite go r w s = canCWrite c o w s := by
  have hidx : w.idx = 0x2410 + 64 * c + o := h
  rw [regWrite_can (by omega)]
  unfold canWrite
  rw [if_neg (by unfold R.CAN_CTRL; omega), if_neg (by unfold R.CAN_FWIN_DATA; omega), if_neg (by unfold R.CAN_HB_CFG; omega),
    if_pos (by unfold R.CAN_C_CFG; omega), show (w.idx - R.CAN_C_CFG 0) / 64 = c by unfold R.CAN_C_CFG; omega,
    show (w.idx - R.CAN_C_CFG 0) % 64 = o by unfold R.CAN_C_CFG; omega]

/-- What a setting of a register that stores nothing triggers. -/
theorem trigger_fires {r : Req} {i : Nat} (hrow : (regRow i).isSome = true) (h : maskOf i [.rw, .rwp] = 0) (s u : State)
    (l : List (Fld × Nat)) (g : Fld) : (wrAt r i (settingVal s i l) u).fires g =
      (l.foldl (fun v p => p.1.set v p.2) 0 &&& maskOf i [.wo, .wop] &&& g.mask != 0) := by
  rw [wrAt_fires, settingVal_trigger hrow h]

theorem touches_setting {i : Nat} (hrow : (regRow i).isSome = true) (h : maskOf i [.rw, .rwp] = 0) (s : State)
    (l : List (Fld × Nat)) (ht : touches i (l.foldl (fun v p => p.1.set v p.2) 0) = true) : touches i (settingVal s i l) = true := by
  rw [settingVal_trigger hrow h]
  exact ht

theorem noted_of_open {i : Nat} (hwin : windowData i = false) {v : Reg} (h : audits i v = false) : noted i v = false := by
  simp [noted, h, hwin]

/-- A command that writes one register without privileged fields and outside the windows, which the register accepts. -/
theorem answers_write_open {c : Instr} {r : Req} {go : State → State} {e i : Nat} {v : Reg} {s : State} {P : State → Prop}
    (hexec : exec c s = .next (hostOp go r (.regWrite [(i, v)]) (s.tick e))) (h : Takes r s) (hW : Writable i)
    (hopen : ((rowOf i).fields.any fun f => f.cls.priv) = false ∧ windowData i = false) (ht : touches i v = true)
    (hrun : ∀ u, Arrived e s u → ∃ st x, regWrite go r (wrAt r i v u) u = ⟨0, st, x⟩ ∧ x.ports = u.ports ∧
      ∀ t, Replied r 0x11 st [] s t → Finished r i v x t → P t) : Answers c s P := by
  have ha := audits_of_open hopen.1 v
  have hn := noted_of_open hopen.2 ha
  exact answers_write hexec h hW ht (fun k => absurd (ha.symm.trans k) nofun) (fun k => absurd (hn.symm.trans k) nofun) hrun

/-- A command that writes one register without privileged fields, which the register refuses. -/
theorem answers_refused_open {c : Instr} {r : Req} {go : State → State} {e i lv : Nat} {v : Reg} {s : State}
    (hexec : exec c s = .next (hostOp go r (.regWrite [(i, v)]) (s.tick e))) (h : Takes r s) (hW : Writable i)
    (hopen : ((rowOf i).fields.any fun f => f.cls.priv) = false) (hlv : lv = 8 ∨ lv = 9 ∨ lv = 10)
    (hrun : ∀ u, Arrived e s u → regWrite go r (wrAt r i v u) u = .refuse lv u) :
    Answers c s fun t => Replied r 0x11 (WOut.refuse lv s).st (leBytes 2 0) s t ∧ Answered [] s t :=
  answers_write_refused hexec h hW (fun k => absurd ((audits_of_open hopen v).symm.trans k) nofun) hlv hrun

/-! ### Registers beyond the first blocks -/

section
variable {e : Nat} {r : Req} {i j : Nat} {v : Reg} {s u x t : State}

theorem Arrived.far (h : Arrived e s u) (hj : 0x200 ≤ j) : u.reg j = s.reg j :=
  h.reg (by simp [R.CMD_PORT_STAT]; omega)

theorem Arrived.farFld (h : Arrived e s u) (hj : 0x200 ≤ j) (f : Fld) : u.fld j f = s.fld j f := State.fld_of_reg (h.far hj) f

theorem Arrived.farBit (h : Arrived e s u) (hj : 0x200 ≤ j) (f : Fld) : u.bit j f = s.bit j f := State.bit_of_reg (h.far hj) f

theorem Finished.far (h : Finished r i v x t) (hj : 0x200 ≤ j) : t.reg j = x.reg j :=
  h.reg (by simp [R.CMD_AUDIT_NEXT, R.CMD_AUDIT_STAT, R.CMD_FLAGS]; omega)

theorem Finished.farFld (h : Finished r i v x t) (hj : 0x200 ≤ j) (f : Fld) : t.fld j f = x.fld j f := State.fld_of_reg (h.far hj) f

theorem Finished.farBit (h : Finished r i v x t) (hj : 0x200 ≤ j) (f : Fld) : t.bit j f = x.bit j f := State.bit_of_reg (h.far hj) f

end

/-! ### The controllers as a request finds them -/

theorem Arrived.canOf {e : Nat} {s u : State} (h : Arrived e s u) (c : Nat) : canOf u c = canOf s c := by
  unfold Machine.canOf
  rw [h.beside.can rfl]

theorem canOf_setCan_same (c : Nat) (x : CanCtl) (s : State) : canOf (setCan c x s) c = x := AMap.getD_put_same _ _ _ _

theorem canOf_setCan_other {c k : Nat} (h : k ≠ c) (x : CanCtl) (s : State) : canOf (setCan c x s) k = canOf s k :=
  AMap.getD_put_other _ _ _ _ h

theorem canOf_congr {s t : State} (h : t.can = s.can) (c : Nat) : canOf t c = canOf s c := by
  unfold canOf
  rw [h]

section
variable {r : Req} {i c : Nat} {v : Reg} {x t : State} (h : Finished r i v x t)
include h

/-- A controller's mailboxes, queue and reception as the write left them: only a tunnel's packets may differ. -/
theorem Finished.canParts : (canOf t c).integ = (canOf x c).integ ∧ (canOf t c).mb = (canOf x c).mb ∧
    (canOf t c).q = (canOf x c).q := by
  obtain ⟨l, hl⟩ := h.ctl c
  rw [hl]
  exact ⟨rfl, rfl, rfl⟩

theorem Finished.canOf (ho : r.origin ≤ 2) : Machine.canOf t c = Machine.canOf x c := canOf_congr (h.can ho) c

end

/-! ### RECOVER and TXQ_FLUSH (R595, R602) -/

theorem ctrl_rows : ∀ c : Fin 3, Writable (R.CAN_C_CTRL c) ∧ maskOf (R.CAN_C_CTRL c) [.rw, .rwp] = 0 ∧
    (((rowOf (R.CAN_C_CTRL c)).fields.any fun f => f.cls.priv) = false ∧ windowData (R.CAN_C_CTRL c) = false) ∧
    touches (R.CAN_C_CTRL c) (F.CAN_C_CTRL.RECOVER.set 0 1) = true ∧ touches (R.CAN_C_CTRL c) (F.CAN_C_CTRL.TXQ_FLUSH.set 0 1) = true ∧
    maskOf (R.CAN_C_CTRL c) [.wo, .wop] = 3 := by
  decide

theorem canRecover_only (c : Nat) (s : State) : OnlyRegs [R.CAN_C_STAT c] s (canRecover c s) :=
  ((OnlyRegs.refl _ s).setBit _ _ (by simp)).ite (OnlyRegs.refl _ s)

theorem canRecover_bit (c : Nat) (s : State) : (canRecover c s).bit (R.CAN_C_STAT c) F.CAN_C_STAT.RECOVERING =
    (s.bit (R.CAN_C_STAT c) F.CAN_C_STAT.RECOVERING || canStat s c F.CAN_C_STAT.STATE == 3) := by
  unfold canRecover
  split
  · rename_i h
    rw [State.bit_setBit_eq _ (by decide), h]
    simp
  · rename_i h
    simp [h]

theorem recover_answers (e : Nat) (r : Req) (c : Fin 3) (s : State) (h : Takes r s) : Answers (.recover e r c) s fun t =>
    t.bit (R.CAN_C_STAT c) F.CAN_C_STAT.RECOVERING =
      (s.bit (R.CAN_C_STAT c) F.CAN_C_STAT.RECOVERING || canStat s c F.CAN_C_STAT.STATE == 3) ∧
    Replied r 0x11 St.ok [] s t ∧ Answered [R.CAN_C_STAT c] s t := by
  obtain ⟨hW, hst, hopen, ht, -, hm⟩ := ctrl_rows c
  refine answers_write_open (go := stepGo) (v := settingVal s (R.CAN_C_CTRL c) [(F.CAN_C_CTRL.RECOVER, 1)]) rfl h hW hopen
    (touches_setting hW.1 hst s _ ht) fun u hu => ?_
  have hreg : 0x200 ≤ R.CAN_C_STAT c := by unfold R.CAN_C_STAT; omega
  refine ⟨St.ok, canRecover c u, ?_, (alter_canRecover c u).ports rfl, fun t hreply hf => ⟨?_, hreply, ?_⟩⟩
  · rw [regWrite_controller c.isLt (by decide : 5 < 64) (by rw [wrAt_idx]; unfold R.CAN_C_CTRL R.CAN_C_CFG; omega)]
    unfold canCWrite canCtrl
    rw [trigger_fires hW.1 hst, trigger_fires hW.1 hst, hm]
    rfl
  · rw [hf.farBit hreg, canRecover_bit, hu.farBit hreg, canStat, hu.farFld hreg]
    rfl
  · exact hf.answered hu ((alter_canRecover c u).mono rfl) (canRecover_only c u)

/-- A controller given another record, and one of its registers another field. -/
theorem setCan_setFld_only (c i : Nat) (x : CanCtl) (f : Fld) (y : Nat) (s : State) :
    OnlyRegs [i] s ((setCan c x s).setFld i f y) :=
  ((OnlyRegs.refl _ s).congr rfl).setFld _ _ (by simp)

theorem canOf_setFld (c i : Nat) (f : Fld) (y : Nat) (s : State) : canOf (s.setFld i f y) c = canOf s c := rfl

theorem canShowQ_canOf (c k : Nat) (s : State) : canOf (canShowQ c s) k = canOf s k := rfl

theorem canFlush_idle {c : Nat} {s : State} (h : (canOf s c).fly ≠ some 32) :
    canFlush c s = (St.ok, canShowQ c (setCan c { canOf s c with q := [] } s)) := by
  unfold canFlush
  rw [if_neg h]

theorem canFlush_flying {c : Nat} {b : CanBox} {s : State} (h : (canOf s c).fly = some 32)
    (hq : (canOf s c).q[(canOf s c).flyQ]? = some b) :
    canFlush c s = (St.inFlight, canShowQ c (setCan c { canOf s c with q := [b], flyQ := 0, cancel := true } s)) := by
  unfold canFlush
  rw [if_pos h, hq]
  rfl

/-- A flush answers the status its rule gives. -/
theorem txqFlush_answers (e : Nat) {r : Req} (c : Fin 3) {st : Nat} {y : CanCtl} {s : State} (h : Takes r s) (ho : r.origin ≤ 2)
    (hflush : ∀ u, canOf u c = canOf s c → canFlush c u = (st, canShowQ c (setCan c y u))) :
    Answers (.txqFlush e r c) s fun t => canOf t c = y ∧ t.fld (R.CAN_C_STAT c) F.CAN_C_STAT.TXQ_FILL =
      y.q.length % 2 ^ F.CAN_C_STAT.TXQ_FILL.width ∧ Replied r 0x11 st [] s t ∧
      (∀ k : Fin 3, k ≠ c → canOf t k = canOf s k) ∧ Answered [R.CAN_C_STAT c] s t := by
  obtain ⟨hW, hst, hopen, -, ht, hm⟩ := ctrl_rows c
  refine answers_write_open (go := stepGo) (v := settingVal s (R.CAN_C_CTRL c) [(F.CAN_C_CTRL.TXQ_FLUSH, 1)]) rfl h hW hopen
    (touches_setting hW.1 hst s _ ht) fun u hu => ?_
  have hreg : 0x200 ≤ R.CAN_C_STAT c := by unfold R.CAN_C_STAT; omega
  have hfl := hflush u (hu.canOf c)
  have halter := alter_canFlush c u
  rw [hfl] at halter
  have hsame : canOf (canShowQ c (setCan c y u)) c = y := canOf_setCan_same c y u
  refine ⟨st, canShowQ c (setCan c y u), ?_, halter.ports rfl, fun t hreply hf => ⟨?_, ?_, hreply, fun k hk => ?_, ?_⟩⟩
  · rw [regWrite_controller c.isLt (by decide : 5 < 64) (by rw [wrAt_idx]; unfold R.CAN_C_CTRL R.CAN_C_CFG; omega)]
    unfold canCWrite canCtrl
    rw [trigger_fires hW.1 hst, trigger_fires hW.1 hst, hm]
    exact congrArg (fun p : Nat × State => (⟨0, p.1, p.2⟩ : WOut)) hfl
  · exact (hf.canOf ho).trans hsame
  · rw [hf.farFld hreg]
    unfold canShowQ
    rw [State.fld_setFld_eq _ (by decide), canOf_setCan_same]
  · rw [hf.canOf ho, canShowQ_canOf, canOf_setCan_other (fun hkc => hk (Fin.ext hkc)), hu.canOf]
  · exact hf.answered hu (halter.mono rfl) (setCan_setFld_only c _ y _ _ u)

end Sys2Proof.Machine
end

section
/-! SUPPORT. Writes of the CAN registers, continued: the mailboxes, the queue, the reception, the enable, the partners and the frame
window (R592, R597, R598, R601, R606, R618, R621), and the settling of O49. -/

namespace Sys2Proof.Machine

set_option Elab.async false

/-! ### CANCEL (R598) -/

theorem cancel_rows : ∀ c : Fin 3, Writable (R.CAN_C_CANCEL c) ∧
    (((rowOf (R.CAN_C_CANCEL c)).fields.any fun f => f.cls.priv) = false ∧ windowData (R.CAN_C_CANCEL c) = false) ∧
    ((rowOf (R.CAN_C_CANCEL c)).fields.any fun f => (f.cls == .rw || f.cls == .rwp ||
      ((f.cls == .wo || f.cls == .wop) && f.hi != f.lo)) && f.fld.mask != 0) = true ∧
    HasField (maskOf (R.CAN_C_CANCEL c) [.wo, .wop]) F.CAN_C_CANCEL.MB := by
  decide

theorem cancel_mb (m : BitVec 5) : F.CAN_C_CANCEL.MB.get (BitVec.ofNat 40 m.toNat) = m.toNat := by
  simp [Fld.get, Fld.width]
  omega

theorem canCancel_waiting {c m : Nat} {b : CanBox} {s : State} (h : AMap.get? (canOf s c).mb m = some b) (hb : b.status = 1) :
    canCancel c m s = (St.ok, canDone c m (setCan c { canOf s c with mb := AMap.ins (canOf s c).mb m { b with status := 5 } } s)) := by
  unfold canCancel
  simp only [h, hb, if_true]

theorem canCancel_flying {c m : Nat} {b : CanBox} {s : State} (h : AMap.get? (canOf s c).mb m = some b) (hb : b.status = 2) :
    canCancel c m s = (St.inFlight, setCan c { canOf s c with cancel := true } s) := by
  unfold canCancel
  simp only [h, hb]
  rfl

theorem canDone_canOf (c m k : Nat) (s : State) : canOf (canDone c m s) k = canOf s k :=
  canOf_congr (State.setBitAt_can _ _ _ _ s) k

theorem canRxAck_canOf (c n k : Nat) (s : State) :
    canOf (canRxAck c n s) k = canOf (setCan c { canOf s c with rx := (canOf s c).rx.drop n } s) k :=
  canOf_congr (State.setFld_can _ _ _ _) k

theorem canRxAck_fill (c n : Nat) (s : State) : (canRxAck c n s).fld (R.CAN_C_RXSTAT c) F.CAN_C_RXSTAT.FILL =
    ((canOf s c).rx.drop n).length % 2 ^ F.CAN_C_RXSTAT.FILL.width := by
  unfold canRxAck canShowRx
  rw [State.fld_setFld_eq _ (by decide), canOf_setCan_same]

/-- CANCEL answers what the cancelling of the mailbox gives. -/
theorem cancel_answers (e : Nat) {r : Req} (c : Fin 3) (m : BitVec 5) {s : State} {P : State → Prop} (h : Takes r s)
    (hrun : ∀ u, Arrived e s u → ∃ st x, canCancel c m.toNat u = (st, x) ∧ ∀ t, Replied r 0x11 st [] s t →
      Finished r (R.CAN_C_CANCEL c) (BitVec.ofNat 40 m.toNat) x t → P t) : Answers (.canCancel e r c m) s P := by
  obtain ⟨hW, hopen, ht, hm⟩ := cancel_rows c
  refine answers_write_open (go := stepGo) (v := BitVec.ofNat 40 m.toNat) rfl h hW hopen (touches_of_field ht _) fun u hu => ?_
  obtain ⟨st, x, hx, hk⟩ := hrun u hu
  have halter := alter_canCancel c m.toNat u
  rw [hx] at halter
  refine ⟨st, x, ?_, halter.ports rfl, hk⟩
  rw [regWrite_controller c.isLt (by decide : 10 < 64) (by rw [wrAt_idx]; unfold R.CAN_C_CANCEL R.CAN_C_CFG; omega)]
  unfold canCWrite
  rw [wrAt_trig, Fld.get_and hm, cancel_mb]
  exact congrArg (fun p : Nat × State => (⟨0, p.1, p.2⟩ : WOut)) hx

theorem cancel_waiting (e : Nat) {r : Req} (c : Fin 3) (m : BitVec 5) {b : CanBox} {s : State} (h : Takes r s)
    (hb : AMap.get? (canOf s c).mb m.toNat = some b) (h1 : b.status = 1) (ho : r.origin ≤ 2) :
    Answers (.canCancel e r c m) s fun t => AMap.get? (canOf t c).mb m.toNat = some { b with status := 5 } ∧
      bitN (t.fld (R.CAN_C_TXDONE c) F.CAN_C_TXDONE.MB) m.toNat = true ∧ Replied r 0x11 St.ok [] s t ∧
      (∀ k : Fin 3, k ≠ c → canOf t k = canOf s k) ∧ Answered [R.CAN_C_TXDONE c] s t := by
  refine cancel_answers e c m h fun u hu => ?_
  have heq := canCancel_waiting ((congrArg (fun x : CanCtl => AMap.get? x.mb m.toNat) (hu.canOf c)).trans hb) h1
  have halter := alter_canCancel c m.toNat u
  rw [heq] at halter
  refine ⟨_, _, heq, fun t hreply hf => ⟨?_, ?_, hreply, fun k hk => ?_, hf.answered hu (halter.mono rfl) ?_⟩⟩
  · rw [hf.canOf ho, canDone_canOf, canOf_setCan_same]
    exact AMap.get?_ins_same _ _ _
  · rw [hf.farFld (by unfold R.CAN_C_TXDONE; omega)]
    exact State.bitN_setBitAt true (by decide) m.isLt
  · rw [hf.canOf ho, canDone_canOf, canOf_setCan_other (fun hkc => hk (Fin.ext hkc)), hu.canOf]
  · exact ((OnlyRegs.refl _ u).congr rfl).setBitAt _ _ _ (by simp)

theorem cancel_flying (e : Nat) {r : Req} (c : Fin 3) (m : BitVec 5) {b : CanBox} {s : State} (h : Takes r s)
    (hb : AMap.get? (canOf s c).mb m.toNat = some b) (h2 : b.status = 2) (ho : r.origin ≤ 2) :
    Answers (.canCancel e r c m) s fun t => canOf t c = { canOf s c with cancel := true } ∧ Replied r 0x11 St.inFlight [] s t ∧
      (∀ k : Fin 3, k ≠ c → canOf t k = canOf s k) ∧ Answered [] s t := by
  refine cancel_answers e c m h fun u hu => ?_
  have heq := canCancel_flying ((congrArg (fun x : CanCtl => AMap.get? x.mb m.toNat) (hu.canOf c)).trans hb) h2
  refine ⟨_, _, heq, fun t hreply hf => ⟨?_, hreply, fun k hk => ?_, hf.answered hu ((alter_setCan ..).mono rfl) (.of_regs rfl)⟩⟩
  · rw [hf.canOf ho, canOf_setCan_same, hu.canOf]
  · rw [hf.canOf ho, canOf_setCan_other (fun hkc => hk (Fin.ext hkc)), hu.canOf]

/-! ### RXACK (R606) -/

theorem rxack_rows : ∀ c : Fin 3, Writable (R.CAN_C_RXACK c) ∧
    (((rowOf (R.CAN_C_RXACK c)).fields.any fun f => f.cls.priv) = false ∧ windowData (R.CAN_C_RXACK c) = false) ∧
    ((rowOf (R.CAN_C_RXACK c)).fields.any fun f => (f.cls == .rw || f.cls == .rwp ||
      ((f.cls == .wo || f.cls == .wop) && f.hi != f.lo)) && f.fld.mask != 0) = true ∧
    HasField (maskOf (R.CAN_C_RXACK c) [.wo, .wop]) F.CAN_C_RXACK.COUNT := by
  decide

theorem rxack_count (n : BitVec 9) : F.CAN_C_RXACK.COUNT.get (BitVec.ofNat 40 n.toNat) = n.toNat := by
  simp [Fld.get, Fld.width]
  omega

theorem regWrite_rxack {go : State → State} {r : Req} (c : Fin 3) (n : BitVec 9) (u : State) :
    regWrite go r (wrAt r (R.CAN_C_RXACK c) (BitVec.ofNat 40 n.toNat) u) u =
      WOut.of false (decide (u.fld (R.CAN_C_RXSTAT c) F.CAN_C_RXSTAT.FILL < n.toNat)) false (canRxAck c n.toNat) u := by
  obtain ⟨-, -, -, hm⟩ := rxack_rows c
  rw [regWrite_controller c.isLt (by decide : 11 < 64) (by rw [wrAt_idx]; unfold R.CAN_C_RXACK R.CAN_C_CFG; omega)]
  unfold canCWrite
  rw [wrAt_trig, Fld.get_and hm, rxack_count]
  rfl

theorem rxack_taken (e : Nat) {r : Req} (c : Fin 3) (n : BitVec 9) {s : State} (h : Takes r s)
    (hn : n.toNat ≤ s.fld (R.CAN_C_RXSTAT c) F.CAN_C_RXSTAT.FILL) (ho : r.origin ≤ 2) :
    Answers (.canRxack e r c n) s fun t => canOf t c = { canOf s c with rx := (canOf s c).rx.drop n.toNat } ∧
      t.fld (R.CAN_C_RXSTAT c) F.CAN_C_RXSTAT.FILL = ((canOf s c).rx.length - n.toNat) % 2 ^ F.CAN_C_RXSTAT.FILL.width ∧
      Replied r 0x11 St.ok [] s t ∧ (∀ k : Fin 3, k ≠ c → canOf t k = canOf s k) ∧ Answered [R.CAN_C_RXSTAT c] s t := by
  obtain ⟨hW, hopen, ht, -⟩ := rxack_rows c
  refine answers_write_open (go := stepGo) (v := BitVec.ofNat 40 n.toNat) rfl h hW hopen (touches_of_field ht _) fun u hu => ?_
  have hreg : 0x200 ≤ R.CAN_C_RXSTAT c := by unfold R.CAN_C_RXSTAT; omega
  have halter := alter_canRxAck c n.toNat u
  refine ⟨St.ok, canRxAck c n.toNat u, ?_, halter.ports rfl, fun t hreply hf => ⟨?_, ?_, hreply, fun k hk => ?_,
    hf.answered hu (halter.mono rfl) (setCan_setFld_only c _ _ _ _ u)⟩⟩
  · rw [regWrite_rxack, hu.farFld hreg, decide_eq_false (Nat.not_lt.mpr hn)]
    rfl
  · rw [hf.canOf ho, canRxAck_canOf, canOf_setCan_same, hu.canOf]
  · rw [hf.farFld hreg, canRxAck_fill, hu.canOf, List.length_drop]
  · rw [hf.canOf ho, canRxAck_canOf, canOf_setCan_other (fun hkc => hk (Fin.ext hkc)), hu.canOf]

theorem rxack_refused (e : Nat) {r : Req} (c : Fin 3) (n : BitVec 9) {s : State} (h : Takes r s)
    (hn : s.fld (R.CAN_C_RXSTAT c) F.CAN_C_RXSTAT.FILL < n.toNat) :
    Answers (.canRxack e r c n) s fun t => Replied r 0x11 St.badParam (leBytes 2 0) s t ∧ Answered [] s t := by
  obtain ⟨hW, hopen, -, -⟩ := rxack_rows c
  refine answers_refused_open (go := stepGo) (lv := 9) rfl h hW hopen.1 (by decide) fun u hu => ?_
  rw [regWrite_rxack, hu.farFld (by unfold R.CAN_C_RXSTAT; omega), decide_eq_true hn]
  rfl

/-! ### LOAD (R597) -/

theorem load_rows : ∀ c : Fin 3, Writable (R.CAN_C_LOAD c) ∧ maskOf (R.CAN_C_LOAD c) [.rw, .rwp] = 0 ∧
    (((rowOf (R.CAN_C_LOAD c)).fields.any fun f => f.cls.priv) = false ∧ windowData (R.CAN_C_LOAD c) = false) ∧
    ((rowOf (R.CAN_C_LOAD c)).fields.any fun f => (f.cls == .rw || f.cls == .rwp ||
      ((f.cls == .wo || f.cls == .wop) && f.hi != f.lo)) && f.fld.mask != 0) = true ∧
    HasField (maskOf (R.CAN_C_LOAD c) [.wo, .wop]) F.CAN_C_LOAD.MB ∧ HasField (maskOf (R.CAN_C_LOAD c) [.wo, .wop]) F.CAN_C_LOAD.REQ := by
  decide

/-- The value that a LOAD of a mailbox writes. -/
abbrev loadVal (s : State) (c m : Nat) (req : Bool) : Reg :=
  settingVal s (R.CAN_C_LOAD c) [(F.CAN_C_LOAD.MB, m), (F.CAN_C_LOAD.REQ, b2n req)]

theorem loadVal_fields (s : State) (c : Fin 3) {m : Nat} (hm : m < 64) (req : Bool) :
    F.CAN_C_LOAD.MB.get (loadVal s c m req) = m ∧ F.CAN_C_LOAD.REQ.get (loadVal s c m req) = b2n req := by
  obtain ⟨hW, hst, -⟩ := load_rows c
  have hv : loadVal s c m req = F.CAN_C_LOAD.REQ.set (F.CAN_C_LOAD.MB.set 0 m) (b2n req) := settingVal_trigger hW.1 hst s _
  rw [hv]
  constructor
  · rw [Fld.get_set_other _ _ _ _ (by decide) (by decide) (by decide) (by decide), Fld.get_set_same _ _ _ (by decide) (by decide)]
    exact Nat.mod_eq_of_lt hm
  · rw [Fld.get_set_same _ _ _ (by decide) (by decide)]
    cases req <;> rfl

theorem Arrived.canBuf {e : Nat} {s u : State} (h : Arrived e s u) (c : Nat) : canBuf u c = canBuf s c :=
  congrArg canFrameOf (funext fun w => h.far (by unfold R.CAN_C_TXBUF; omega))

theorem Arrived.canBufRetry {e : Nat} {s u : State} (h : Arrived e s u) (c : Nat) : canBufRetry u c = canBufRetry s c := by
  unfold Machine.canBufRetry
  rw [h.far (by unfold R.CAN_C_TXBUF; omega)]

/-- Whether a LOAD is taken depends on the mailbox that it names, and is for the state it finds as for the state before it came. -/
theorem Arrived.canLoadStatus {e : Nat} {s u : State} (h : Arrived e s u) (c : Nat) {v w : Reg}
    (hv : F.CAN_C_LOAD.MB.get w = F.CAN_C_LOAD.MB.get v) : canLoadStatus u c w = canLoadStatus s c v := by
  unfold Machine.canLoadStatus
  rw [h.canBuf, h.canBufRetry, h.canOf, hv, h.farBit (by unfold R.CAN_C_CFG; omega)]

theorem regWrite_load {go : State → State} {r : Req} (c : Fin 3) (v : Reg) (u : State) :
    regWrite go r (wrAt r (R.CAN_C_LOAD c) v u) u = WOut.of false (canLoadStatus u c (v &&& maskOf (R.CAN_C_LOAD c) [.wo, .wop]) ==
      St.badParam) (canLoadStatus u c (v &&& maskOf (R.CAN_C_LOAD c) [.wo, .wop]) == St.busy)
      (canLoad c (v &&& maskOf (R.CAN_C_LOAD c) [.wo, .wop])) u := by
  rw [regWrite_controller c.isLt (by decide : 12 < 64) (by rw [wrAt_idx]; unfold R.CAN_C_LOAD R.CAN_C_CFG; omega)]
  unfold canCWrite
  rw [wrAt_trig]
  rfl

theorem canLoad_mailbox {c m : Nat} {v : Reg} {s : State} (h : F.CAN_C_LOAD.MB.get v = m) (hm : m ≠ 32) : canLoad c v s =
    setCan c { canOf s c with mb := AMap.ins (canOf s c).mb m (
      { frame := canBuf s c, retry := canBufRetry s c, status := F.CAN_C_LOAD.REQ.get v } : CanBox) } s := by
  unfold canLoad
  rw [h]
  exact if_neg hm

theorem canLoad_queue {c : Nat} {v : Reg} {s : State} (h : F.CAN_C_LOAD.MB.get v = 32) : canLoad c v s =
    canShowQ c (setCan c { canOf s c with q := (canOf s c).q ++ [{ frame := canBuf s c, retry := canBufRetry s c, status := 1 }] } s) := by
  unfold canLoad
  rw [h]
  exact if_pos rfl

/-- A LOAD whose mailbox can be loaded is carried out. -/
theorem load_answers (e : Nat) {r : Req} (c : Fin 3) (mb : BitVec 6) (req : Bool) {s : State} {P : State → Prop} (h : Takes r s)
    (hok : canLoadStatus s c (loadVal s c mb.toNat req) = St.ok)
    (hrun : ∀ u v, Arrived e s u → F.CAN_C_LOAD.MB.get v = mb.toNat → F.CAN_C_LOAD.REQ.get v = b2n req → ∀ t,
      Replied r 0x11 St.ok [] s t → Finished r (R.CAN_C_LOAD c) (loadVal s c mb.toNat req) (canLoad c v u) t → P t) :
    Answers (.canLoad e r c mb req) s P := by
  obtain ⟨hW, -, hopen, ht, hmb, hreq⟩ := load_rows c
  obtain ⟨h1, h2⟩ := loadVal_fields s c mb.isLt req
  refine answers_write_open (go := stepGo) (v := loadVal s c mb.toNat req) rfl h hW hopen (touches_of_field ht _) fun u hu => ?_
  refine ⟨St.ok, canLoad c (loadVal s c mb.toNat req &&& maskOf (R.CAN_C_LOAD c) [.wo, .wop]) u, ?_, (alter_canLoad c _ u).ports rfl,
    hrun u _ hu ((Fld.get_and hmb _).trans h1) ((Fld.get_and hreq _).trans h2)⟩
  rw [regWrite_load, hu.canLoadStatus c (Fld.get_and hmb _), hok]
  rfl

theorem load_mailbox (e : Nat) {r : Req} (c : Fin 3) (mb : BitVec 6) (req : Bool) {s : State} (h : Takes r s) (hmb : mb.toNat < 32)
    (hok : canLoadStatus s c (loadVal s c mb.toNat req) = St.ok) (ho : r.origin ≤ 2) :
    Answers (.canLoad e r c mb req) s fun t =>
      AMap.get? (canOf t c).mb mb.toNat = some { frame := canBuf s c, retry := canBufRetry s c, status := b2n req } ∧
      (canOf t c).q = (canOf s c).q ∧ Replied r 0x11 St.ok [] s t ∧ (∀ k : Fin 3, k ≠ c → canOf t k = canOf s k) ∧
      Answered [] s t := by
  refine load_answers e c mb req h hok fun u v hu hv hreq t hreply hf => ?_
  have hx := canLoad_mailbox (c := c) (s := u) hv (by omega)
  rw [hreq, hu.canOf, hu.canBuf, hu.canBufRetry] at hx
  rw [hx] at hf
  refine ⟨?_, ?_, hreply, fun k hk => ?_, hf.answered hu ((alter_setCan ..).mono rfl) (.of_regs rfl)⟩
  · rw [hf.canOf ho, canOf_setCan_same]
    exact AMap.get?_ins_same _ _ _
  · rw [hf.canOf ho, canOf_setCan_same]
  · rw [hf.canOf ho, canOf_setCan_other (fun hkc => hk (Fin.ext hkc)), hu.canOf]

theorem load_queue (e : Nat) {r : Req} (c : Fin 3) (req : Bool) {s : State} (h : Takes r s)
    (hok : canLoadStatus s c (loadVal s c 32 req) = St.ok) (ho : r.origin ≤ 2) :
    Answers (.canLoad e r c 32 req) s fun t =>
      (canOf t c).q = (canOf s c).q ++ [{ frame := canBuf s c, retry := canBufRetry s c, status := 1 }] ∧
      (canOf t c).mb = (canOf s c).mb ∧ Replied r 0x11 St.ok [] s t ∧ (∀ k : Fin 3, k ≠ c → canOf t k = canOf s k) ∧
      Answered [R.CAN_C_STAT c] s t := by
  refine load_answers e c 32 req h hok fun u v hu hv hreq t hreply hf => ?_
  have halter := alter_canLoad c v u
  rw [canLoad_queue (c := c) (s := u) hv, hu.canOf, hu.canBuf, hu.canBufRetry] at hf halter
  refine ⟨?_, ?_, hreply, fun k hk => ?_, hf.answered hu (halter.mono rfl) (setCan_setFld_only c _ _ _ _ u)⟩
  · rw [hf.canOf ho, canShowQ_canOf, canOf_setCan_same]
  · rw [hf.canOf ho, canShowQ_canOf, canOf_setCan_same]
  · rw [hf.canOf ho, canShowQ_canOf, canOf_setCan_other (fun hkc => hk (Fin.ext hkc)), hu.canOf]

theorem load_refused (e : Nat) {r : Req} (c : Fin 3) (mb : BitVec 6) (req : Bool) {s : State} (h : Takes r s) (hmb : 32 < mb.toNat) :
    Answers (.canLoad e r c mb req) s fun t => Replied r 0x11 St.badParam (leBytes 2 0) s t ∧ Answered [] s t := by
  obtain ⟨hW, -, hopen, -, hm, -⟩ := load_rows c
  obtain ⟨h1, -⟩ := loadVal_fields s c mb.isLt req
  refine answers_refused_open (go := stepGo) (lv := 9) (v := loadVal s c mb.toNat req) rfl h hW hopen.1 (by decide) fun u hu => ?_
  have hbad : canLoadStatus s c (loadVal s c mb.toNat req) = St.badParam := by
    unfold canLoadStatus
    rw [h1]
    simp [hmb]
  rw [regWrite_load, hu.canLoadStatus c (Fld.get_and hm _), hbad]
  rfl

end Sys2Proof.Machine
end

section
/-! SUPPORT. Writes of the CAN registers, continued: transmit requests, the enable, the partners and the frame window (R592, R598,
R601, R618, R621), and the settling of O49. -/

namespace Sys2Proof.Machine

set_option Elab.async false

/-! ### TXREQ (R598) -/

theorem txreq_rows : ∀ c : Fin 3, Writable (R.CAN_C_TXREQ c) ∧
    (((rowOf (R.CAN_C_TXREQ c)).fields.any fun f => f.cls.priv) = false ∧ windowData (R.CAN_C_TXREQ c) = false) ∧
    ((rowOf (R.CAN_C_TXREQ c)).fields.any fun f => (f.cls == .rw || f.cls == .rwp ||
      ((f.cls == .wo || f.cls == .wop) && f.hi != f.lo)) && f.fld.mask != 0) = true := by
  decide

/-- The value of a request for one mailbox. -/
abbrev oneMailbox (m : Fin 32) : Reg := BitVec.ofNat 40 (BitVec.twoPow 32 m).toNat

theorem bitsOf_oneMailbox : ∀ m : Fin 32, bitsOf 32 (oneMailbox m).toNat = [m.val] := by decide

theorem regWrite_txreq {go : State → State} {r : Req} (c : Fin 3) (v : Reg) (u : State) :
    regWrite go r (wrAt r (R.CAN_C_TXREQ c) v u) u = WOut.of false (canReqBad u c v) false (canReq c v) u := by
  rw [regWrite_controller c.isLt (by decide : 8 < 64) (by rw [wrAt_idx]; unfold R.CAN_C_TXREQ R.CAN_C_CFG; omega)]
  unfold canCWrite
  rw [wrAt_word]
  rfl

theorem txreq_taken (e : Nat) {r : Req} (c : Fin 3) (m : Fin 32) {b : CanBox} {s : State} (h : Takes r s)
    (hb : AMap.get? (canOf s c).mb m = some b) (h1 : b.status ≠ 1) (h2 : b.status ≠ 2) (ho : r.origin ≤ 2) :
    Answers (.canTxreq e r c (BitVec.twoPow 32 m)) s fun t =>
      AMap.get? (canOf t c).mb m = some { b with fails := 0, status := 1 } ∧ Replied r 0x11 St.ok [] s t ∧
      (∀ k : Fin 3, k ≠ c → canOf t k = canOf s k) ∧ Answered [] s t := by
  obtain ⟨hW, hopen, ht⟩ := txreq_rows c
  refine answers_write_open (go := stepGo) (v := oneMailbox m) rfl h hW hopen (touches_of_field ht _) fun u hu => ?_
  have hbu : AMap.get? (canOf u c).mb m = some b := by rw [hu.canOf]; exact hb
  have heq : canReq c (oneMailbox m) u =
      setCan c { canOf u c with mb := AMap.ins (canOf u c).mb m { b with fails := 0, status := 1 } } u := by
    unfold canReq
    rw [bitsOf_oneMailbox, forEach_one]
    simp only [hbu]
  refine ⟨St.ok, _, ?_, (alter_canReq c (oneMailbox m) u).ports rfl, fun t hreply hf => ⟨?_, hreply, fun k hk => ?_, ?_⟩⟩
  · have hgood : canReqBad u c (oneMailbox m) = false := by
      unfold canReqBad
      rw [bitsOf_oneMailbox]
      simp [hbu, h1, h2]
    rw [regWrite_txreq, hgood]
    rfl
  · rw [hf.canOf ho, heq, canOf_setCan_same]
    exact AMap.get?_ins_same _ _ _
  · rw [hf.canOf ho, heq, canOf_setCan_other (fun hkc => hk (Fin.ext hkc)), hu.canOf]
  · rw [heq] at hf
    exact hf.answered hu ((alter_setCan ..).mono rfl) (.of_regs rfl)

theorem txreq_refused (e : Nat) {r : Req} (c : Fin 3) (m : Fin 32) {s : State} (h : Takes r s)
    (hb : AMap.get? (canOf s c).mb m = none) : Answers (.canTxreq e r c (BitVec.twoPow 32 m)) s fun t =>
      Replied r 0x11 St.badParam (leBytes 2 0) s t ∧ Answered [] s t := by
  obtain ⟨hW, hopen, -⟩ := txreq_rows c
  refine answers_refused_open (go := stepGo) (lv := 9) (v := oneMailbox m) rfl h hW hopen.1 (by decide) fun u hu => ?_
  have hbu : AMap.get? (canOf u c).mb m = none := by rw [hu.canOf]; exact hb
  have hbad : canReqBad u c (oneMailbox m) = true := by
    unfold canReqBad
    rw [bitsOf_oneMailbox]
    simp [hbu]
  rw [regWrite_txreq, hbad]
  rfl

/-! ### The enable of a controller (R592) -/

theorem cfg_rows : ∀ c : Fin 3, Writable (R.CAN_C_CFG c) ∧ windowData (R.CAN_C_CFG c) = false ∧
    ((rowOf (R.CAN_C_CFG c)).fields.any fun f => (f.cls == .rw || f.cls == .rwp ||
      ((f.cls == .wo || f.cls == .wop) && f.hi != f.lo)) && f.fld.mask != 0) = true ∧
    ((rowOf (R.CAN_C_CFG c)).fields.any fun f => f.cls == .rwp && f.fld.mask != 0) = true ∧
    maskOf (R.CAN_C_CFG c) [.w1c, .w1cp] = 0 ∧ HasField (maskOf (R.CAN_C_CFG c) [.rw, .rwp]) F.CAN_C_CFG.EN := by
  decide

theorem noted_of_audits {i : Nat} (hg : i ≠ R.ENG_GWIN_DATA) {v : Reg} (h : audits i v = true) : noted i v = true := by
  simp [noted, h, hg]

theorem entryKind_plain {i : Nat} (hwin : windowData i = false) (hl : i ≠ R.LIFE_CTRL) (v : Reg) : entryKind i v = 1 := by
  simp [entryKind, hwin, hl]

/-- A field replaced twice is replaced by the second value. -/
theorem Fld.set_set {f : Fld} (ho : f.lo ≤ f.hi ∧ f.hi < 40) (v : Reg) (x y : Nat) : f.set (f.set v x) y = f.set v y := by
  refine BitVec.eq_of_getLsbD_eq fun b _ => ?_
  rw [Fld.set_getLsbD ho, Fld.set_getLsbD ho, Fld.set_getLsbD ho]
  by_cases h1 : b < f.lo
  · simp [h1]
  · by_cases h2 : b ≤ f.hi
    · simp [h1, h2]
    · simp [h1, h2]

/-- The enable of a controller whose number and mode are good may be written. -/
theorem canCfgStatus_enable {c : Nat} {x : Nat} {u : State} (h1 : 1 ≤ u.fld (R.CAN_C_CFG c) F.CAN_C_CFG.OWN)
    (h2 : u.fld (R.CAN_C_CFG c) F.CAN_C_CFG.OWN ≤ 254)
    (h3 : (u.bit (R.CAN_C_CFG c) F.CAN_C_CFG.RESTRICTED && u.bit (R.CAN_C_CFG c) F.CAN_C_CFG.LISTEN) = false) :
    canCfgStatus u c (F.CAN_C_CFG.EN.set (u.reg (R.CAN_C_CFG c)) x) = St.ok := by
  have hget : ∀ f : Fld, Fld.Beside f F.CAN_C_CFG.EN →
      f.get (F.CAN_C_CFG.EN.set (u.reg (R.CAN_C_CFG c)) x) = u.fld (R.CAN_C_CFG c) f := fun f hf =>
    Fld.get_set_other f _ _ _ hf.2.1.1 hf.2.1.2 hf.1.1 hf.2.2
  unfold canCfgStatus
  rw [Fld.set_set (by decide), hget _ (by decide), hget _ (by decide), hget _ (by decide)]
  have hmode : ¬(u.fld (R.CAN_C_CFG c) F.CAN_C_CFG.RESTRICTED = 1 ∧ u.fld (R.CAN_C_CFG c) F.CAN_C_CFG.LISTEN = 1) := fun hk => by
    simp [State.bit, hk.1, hk.2] at h3
  extract_lets i own same
  have hsame : same = true := decide_eq_true rfl
  rw [hsame, Bool.not_true, Bool.and_false, if_neg (by decide), if_neg]
  rintro (hz | hz | hz)
  · omega
  · omega
  · exact hmode hz

theorem canCWrite_cfg {c : Nat} {w : Wr} {s : State} (h : canCfgStatus s c w.new = St.ok) :
    canCWrite c 0 w s = ⟨0, St.ok, canEnable c (s.bit (R.CAN_C_CFG c) F.CAN_C_CFG.EN) (w.plain s)⟩ := by
  unfold canCWrite
  extract_lets on st
  rw [if_pos rfl, show st = St.ok from h]
  rfl

/-- State u with a controller's enable written. -/
def canEnabled (c x : Nat) (u : State) : State :=
  canEnable c (u.bit (R.CAN_C_CFG c) F.CAN_C_CFG.EN) (u.setFld (R.CAN_C_CFG c) F.CAN_C_CFG.EN x)

theorem alter_canEnabled (c x : Nat) (u : State) : Alter (2 ^ 67 ||| 2 ^ 107) u (canEnabled c x u) :=
  ((alter_setFld ..).mono (rm_high (by unfold R.CAN_C_CFG; omega) rfl)).and ((alter_canEnable ..).mono rfl)

/-- Writing a controller's enable. -/
theorem enable_answers (e : Nat) {r : Req} (c : Fin 3) (on : Bool) {s : State} {P : State → Prop} (h : Takes r s)
    (hp : privileged s r = true) (h1 : 1 ≤ s.fld (R.CAN_C_CFG c) F.CAN_C_CFG.OWN) (h2 : s.fld (R.CAN_C_CFG c) F.CAN_C_CFG.OWN ≤ 254)
    (h3 : (s.bit (R.CAN_C_CFG c) F.CAN_C_CFG.RESTRICTED && s.bit (R.CAN_C_CFG c) F.CAN_C_CFG.LISTEN) = false)
    (hroom : s.auditFull = false)
    (hrun : ∀ u t, Arrived e s u → Replied r 0x11 St.ok [] s t →
      Finished r (R.CAN_C_CFG c) (settingVal s (R.CAN_C_CFG c) [(F.CAN_C_CFG.EN, b2n on)]) (canEnabled c (b2n on) u) t →
        Audits r 1 (R.CAN_C_CFG c) s t → P t) : Answers (.canEnableWrite e r c on) s P := by
  obtain ⟨hW, hwin, ht, ha, hclr, hf⟩ := cfg_rows c
  have hn := noted_of_audits (show R.CAN_C_CFG c ≠ R.ENG_GWIN_DATA by unfold R.CAN_C_CFG R.ENG_GWIN_DATA; omega)
    (audits_of_field ha (settingVal s (R.CAN_C_CFG c) [(F.CAN_C_CFG.EN, b2n on)]))
  refine answers_write (go := stepGo) (v := settingVal s (R.CAN_C_CFG c) [(F.CAN_C_CFG.EN, b2n on)]) rfl h hW
    (touches_of_field ht _) (fun _ => hp) (fun _ => hroom) fun u hu => ?_
  have hreg : 0x200 ≤ R.CAN_C_CFG c := by unfold R.CAN_C_CFG; omega
  have halter := alter_canEnabled c (b2n on) u
  refine ⟨St.ok, _, ?_, halter.ports rfl, fun t hreply hfin => hrun u t hu hreply hfin ?_⟩
  · rw [regWrite_controller (o := 0) c.isLt (by decide) (by rw [wrAt_idx]; rfl)]
    rw [canCWrite_cfg, plain_setting (by unfold R.CAN_C_CFG; omega) hW.1 hclr hf (by decide) (hu.far hreg)]
    · rfl
    · rw [wrAt_new_setting hW.1 hclr hf (by decide) (hu.far hreg)]
      exact canCfgStatus_enable (by rw [hu.farFld hreg]; exact h1) (by rw [hu.farFld hreg]; exact h2)
        (by rw [hu.farBit hreg, hu.farBit hreg]; exact h3)
  · have haud := hfin.audits (s := s) hn hroom ((halter.audit rfl).trans (hu.beside.audit rfl))
    rwa [entryKind_plain hwin (by unfold R.CAN_C_CFG R.LIFE_CTRL; omega)] at haud

theorem enable_joins (e : Nat) {r : Req} (c : Fin 3) {s : State} (h : Takes r s) (hp : privileged s r = true)
    (hoff : s.fld (R.CAN_C_CFG c) F.CAN_C_CFG.EN = 0) (h1 : 1 ≤ s.fld (R.CAN_C_CFG c) F.CAN_C_CFG.OWN)
    (h2 : s.fld (R.CAN_C_CFG c) F.CAN_C_CFG.OWN ≤ 254)
    (h3 : (s.bit (R.CAN_C_CFG c) F.CAN_C_CFG.RESTRICTED && s.bit (R.CAN_C_CFG c) F.CAN_C_CFG.LISTEN) = false)
    (hroom : s.auditFull = false) (hst : canStat s c F.CAN_C_STAT.STATE ≠ 3) :
    Answers (.canEnableWrite e r c true) s fun t => t.bit (R.CAN_C_CFG c) F.CAN_C_CFG.EN = true ∧ (canOf t c).integ = true ∧
      Replied r 0x11 St.ok [] s t ∧ Audits r 1 (R.CAN_C_CFG c) s t ∧ Answered [R.CAN_C_CFG c] s t := by
  refine enable_answers e c true h hp h1 h2 h3 hroom fun u t hu hreply hf haud => ?_
  have hreg : 0x200 ≤ R.CAN_C_CFG c := by unfold R.CAN_C_CFG; omega
  have hwas : u.bit (R.CAN_C_CFG c) F.CAN_C_CFG.EN = false := by
    rw [hu.farBit hreg]
    simp [State.bit, hoff]
  have hstat : canStat (u.setFld (R.CAN_C_CFG c) F.CAN_C_CFG.EN 1) c F.CAN_C_STAT.STATE ≠ 3 := by
    unfold canStat at hst ⊢
    rw [State.fld_setFld_ne _ (by unfold R.CAN_C_STAT R.CAN_C_CFG; omega), hu.farFld (by unfold R.CAN_C_STAT; omega)]
    exact hst
  have hon : (u.setFld (R.CAN_C_CFG c) F.CAN_C_CFG.EN 1).bit (R.CAN_C_CFG c) F.CAN_C_CFG.EN = true :=
    State.bit_setBit_eq (s := u) true (by decide)
  have honly : OnlyRegs [R.CAN_C_CFG c] u (u.setFld (R.CAN_C_CFG c) F.CAN_C_CFG.EN 1) := (OnlyRegs.refl _ u).setFld _ _ (by simp)
  have ha : Alter (2 ^ 67 ||| 2 ^ 107) u (u.setFld (R.CAN_C_CFG c) F.CAN_C_CFG.EN 1) :=
    (alter_setFld ..).mono (rm_high (by unfold R.CAN_C_CFG; omega) rfl)
  have hx : canEnabled c 1 u = setCan c { canOf (u.setFld (R.CAN_C_CFG c) F.CAN_C_CFG.EN 1) c with integ := true }
      (u.setFld (R.CAN_C_CFG c) F.CAN_C_CFG.EN 1) := by
    unfold canEnabled canEnable
    rw [hwas, hon]
    unfold canJoin
    rw [if_pos (by decide), if_neg hstat]
  rw [show b2n true = 1 from rfl, hx] at hf
  generalize u.setFld (R.CAN_C_CFG c) F.CAN_C_CFG.EN 1 = w at *
  refine ⟨?_, ?_, hreply, haud, hf.answered hu (ha.and ((alter_setCan ..).mono rfl)) (honly.congr rfl)⟩
  · exact (hf.farBit hreg _).trans ((State.bit_of_reg (Alter.reg_of_regs rfl _) _).trans hon)
  · rw [(hf.canParts (c := c)).1, canOf_setCan_same]

theorem disable_leaves (e : Nat) {r : Req} (c : Fin 3) {s : State} (h : Takes r s) (hp : privileged s r = true)
    (hon : s.bit (R.CAN_C_CFG c) F.CAN_C_CFG.EN = true) (h1 : 1 ≤ s.fld (R.CAN_C_CFG c) F.CAN_C_CFG.OWN)
    (h2 : s.fld (R.CAN_C_CFG c) F.CAN_C_CFG.OWN ≤ 254)
    (h3 : (s.bit (R.CAN_C_CFG c) F.CAN_C_CFG.RESTRICTED && s.bit (R.CAN_C_CFG c) F.CAN_C_CFG.LISTEN) = false)
    (hroom : s.auditFull = false) (hst : canStat s c F.CAN_C_STAT.STATE ≠ 3) (hfly : (canOf s c).fly = none) :
    Answers (.canEnableWrite e r c false) s fun t => t.bit (R.CAN_C_CFG c) F.CAN_C_CFG.EN = false ∧
      canStat t c F.CAN_C_STAT.STATE = 0 ∧ Replied r 0x11 St.ok [] s t ∧ Answered [R.CAN_C_CFG c, R.CAN_C_STAT c] s t := by
  refine enable_answers e c false h hp h1 h2 h3 hroom fun u t hu hreply hf _ => ?_
  have hreg : 0x200 ≤ R.CAN_C_CFG c := by unfold R.CAN_C_CFG; omega
  have hreg' : 0x200 ≤ R.CAN_C_STAT c := by unfold R.CAN_C_STAT; omega
  have hne : R.CAN_C_CFG c ≠ R.CAN_C_STAT c := by unfold R.CAN_C_STAT R.CAN_C_CFG; omega
  have hwas : u.bit (R.CAN_C_CFG c) F.CAN_C_CFG.EN = true := (hu.farBit hreg _).trans hon
  have hstat : canStat (u.setFld (R.CAN_C_CFG c) F.CAN_C_CFG.EN 0) c F.CAN_C_STAT.STATE ≠ 3 := by
    unfold canStat at hst ⊢
    rw [State.fld_setFld_ne _ hne.symm, hu.farFld hreg']
    exact hst
  have hoff : (u.setFld (R.CAN_C_CFG c) F.CAN_C_CFG.EN 0).bit (R.CAN_C_CFG c) F.CAN_C_CFG.EN = false :=
    State.bit_setBit_eq (s := u) false (by decide)
  have hidle : (canOf (u.setFld (R.CAN_C_CFG c) F.CAN_C_CFG.EN 0) c).fly.isNone = true := by
    rw [canOf_setFld, hu.canOf, hfly]
    rfl
  have honly : OnlyRegs [R.CAN_C_CFG c, R.CAN_C_STAT c] u (u.setFld (R.CAN_C_CFG c) F.CAN_C_CFG.EN 0) :=
    (OnlyRegs.refl _ u).setFld _ _ (by simp)
  have ha : Alter (2 ^ 67 ||| 2 ^ 107) u (u.setFld (R.CAN_C_CFG c) F.CAN_C_CFG.EN 0) :=
    (alter_setFld ..).mono (rm_high (by unfold R.CAN_C_CFG; omega) rfl)
  have hx : canEnabled c 0 u = (setCan c { canOf (u.setFld (R.CAN_C_CFG c) F.CAN_C_CFG.EN 0) c with integ := false }
      (u.setFld (R.CAN_C_CFG c) F.CAN_C_CFG.EN 0)).setFld (R.CAN_C_STAT c) F.CAN_C_STAT.STATE 0 := by
    unfold canEnabled canEnable
    rw [hwas, hoff, hidle]
    unfold canLeave
    exact if_neg hstat
  rw [show b2n false = 0 from rfl, hx] at hf
  generalize u.setFld (R.CAN_C_CFG c) F.CAN_C_CFG.EN 0 = w at *
  have hset : ∀ y : CanCtl, (setCan c y w).regs = w.regs := fun _ => rfl
  refine ⟨?_, ?_, hreply, hf.answered hu (ha.and (((alter_setCan ..).mono rfl).and
    ((alter_setFld ..).mono (rm_high (by unfold R.CAN_C_STAT; omega) rfl)))) ((honly.congr (hset _)).setFld _ _ (by simp))⟩
  · rw [hf.farBit hreg, State.bit_setFld_ne _ hne]
    exact (State.bit_of_reg (Alter.reg_of_regs (hset _) _) _).trans hoff
  · unfold canStat
    rw [hf.farFld hreg', State.fld_setFld_eq _ (by decide)]
    rfl

/-! ### PURGE (R618) -/

theorem purge_row : Writable R.CAN_CTRL ∧ maskOf R.CAN_CTRL [.rw, .rwp] = 0 ∧
    (((rowOf R.CAN_CTRL).fields.any fun f => f.cls.priv) = false ∧ windowData R.CAN_CTRL = false) ∧
    touches R.CAN_CTRL (F.CAN_CTRL.PURGE.set 0 1) = true ∧
    (F.CAN_CTRL.PURGE.set 0 1 &&& maskOf R.CAN_CTRL [.wo, .wop] &&& F.CAN_CTRL.PURGE.mask != 0) = true := by
  decide

theorem ptShow_can (s : State) : (ptShow s).can = s.can := by
  unfold ptShow
  rw [State.setFld_can, State.setFld_can]

theorem ptShow_only (s : State) : OnlyRegs [R.CAN_PT_STAT] s (ptShow s) := by
  unfold ptShow
  exact ((OnlyRegs.refl _ s).setFld _ _ (by decide)).setFld _ _ (by decide)

/-- With every partner up none is shown lost. -/
theorem ptShow_lost {s : State} (h : ∀ p ∈ s.can.parts, p.2.up = true) : (ptShow s).fld R.CAN_PT_STAT F.CAN_PT_STAT.LOST = 0 := by
  have hall : s.can.parts.filter (fun p => p.2.up) = s.can.parts := List.filter_eq_self.mpr h
  unfold ptShow
  rw [State.fld_setFld_eq _ (by decide), hall, Nat.sub_self]
  rfl

/-- The partners that are not up are dropped, and shown so. -/
theorem ptPurge_spec (s : State) : let t := ptPurge s
    t.can.parts = s.can.parts.filter (fun p => p.2.up) ∧ t.can.ctl = s.can.ctl ∧ OnlyRegs [R.CAN_PT_STAT] s t ∧
    t.fld R.CAN_PT_STAT F.CAN_PT_STAT.LOST = 0 := by
  intro t
  unfold t ptPurge
  generalize hx : ({ s with can := { s.can with parts := s.can.parts.filter (fun p => p.2.up) } } : State) = x
  have hparts : x.can.parts = s.can.parts.filter (fun p => p.2.up) := by rw [← hx]
  have hctl : x.can.ctl = s.can.ctl := by rw [← hx]
  have hregs : x.regs = s.regs := by rw [← hx]
  clear hx
  refine ⟨by rw [ptShow_can, hparts], by rw [ptShow_can, hctl], OnlyRegs.trans (.of_regs hregs) (ptShow_only x), ptShow_lost ?_⟩
  rw [hparts]
  exact fun p hp => (List.mem_filter.mp hp).2

theorem purge_answers (e : Nat) {r : Req} {s : State} (h : Takes r s) (ho : r.origin ≤ 2) : Answers (.purge e r) s fun t =>
    t.can.parts = s.can.parts.filter (fun p => p.2.up) ∧ t.fld R.CAN_PT_STAT F.CAN_PT_STAT.LOST = 0 ∧
    t.can.ctl = s.can.ctl ∧ Replied r 0x11 St.ok [] s t ∧ Answered [R.CAN_PT_STAT] s t := by
  obtain ⟨hW, hst, hopen, ht, hfire⟩ := purge_row
  refine answers_write_open (go := stepGo) (v := settingVal s R.CAN_CTRL [(F.CAN_CTRL.PURGE, 1)]) rfl h hW hopen
    (touches_setting hW.1 hst s _ ht) fun u hu => ?_
  have halter := alter_ptPurge u
  have hcan : u.can = s.can := hu.beside.can rfl
  obtain ⟨hparts, hctl, honly, hlost⟩ := ptPurge_spec u
  refine ⟨St.ok, ptPurge u, ?_, halter.ports rfl, fun t hreply hf => ⟨?_, ?_, ?_, hreply, hf.answered hu (halter.mono rfl) honly⟩⟩
  · rw [regWrite_can (show (wrAt r _ _ u).idx / 256 = 36 by rw [wrAt_idx]; decide)]
    unfold canWrite
    rw [if_pos (wrAt_idx ..), trigger_fires hW.1 hst]
    exact congrArg (fun y => (⟨0, St.ok, y⟩ : WOut)) (if_pos hfire)
  · rw [hf.can ho, hparts, hcan]
  · rw [hf.farFld (by decide), hlost]
  · rw [hf.can ho, hctl, hcan]

/-! ### The frame window (R621) -/

theorem fwin_row : Writable R.CAN_FWIN_DATA ∧ ((rowOf R.CAN_FWIN_DATA).fields.any fun f => f.cls.priv) = false ∧
    ((rowOf R.CAN_FWIN_DATA).fields.any fun f => (f.cls == .rw || f.cls == .rwp ||
      ((f.cls == .wo || f.cls == .wop) && f.hi != f.lo)) && f.fld.mask != 0) = true := by
  decide

section
variable {e : Nat} {s u : State} (h : Arrived e s u)
include h

theorem Arrived.fwinAt : fwinAt u = fwinAt s := by
  unfold Machine.fwinAt
  rw [h.farFld (by decide), h.farFld (by decide), h.farFld (by decide)]

theorem Arrived.fwinSize (c area : Nat) : fwinSize u c area = fwinSize s c area := by
  unfold Machine.fwinSize
  rw [h.canOf]

theorem Arrived.fwinBad : fwinBad u = fwinBad s := by
  unfold Machine.fwinBad
  simp only [h.fwinAt, h.fwinSize]

theorem Arrived.fwinWord : fwinWord u = fwinWord s := by
  unfold Machine.fwinWord filtWord
  rw [h.fwinAt, show Machine.canOf u = Machine.canOf s from funext h.canOf, h.beside.can rfl]

end

theorem fwinStep_only (s : State) : OnlyRegs [R.CAN_FWIN_ADDR] s (fwinStep s) := by
  unfold fwinStep
  exact ((OnlyRegs.refl _ s).setFld _ _ (by decide)).ite (OnlyRegs.refl _ s)

theorem fwinStep_can (s : State) : (fwinStep s).can = s.can := by
  unfold fwinStep
  split
  · rfl
  · rfl

theorem readItem_fwin (r : Req) (s : State) : readItem r R.CAN_FWIN_DATA s =
    if fwinBad s then (St.badParam, 0, s) else (St.ok, fwinWord s, fwinStep s) := rfl

theorem fwin_read (e : Nat) {r : Req} (v : Reg) {s : State} (h : Takes r s) (hb : fwinBad s = false) :
    Answers (.fwinDataAccess e r false v) s fun t =>
      Replied r 0x10 St.ok (leBytes 5 (fwinWord s).toNat) s t ∧ Answered [R.CAN_FWIN_ADDR] s t := by
  refine answers_read (go := stepGo) (i := R.CAN_FWIN_DATA) rfl h fun u hu => ?_
  have halter := alter_fwinStep u
  refine ⟨fwinWord s, fwinStep u, ?_, halter.ports rfl, fun t hreply hc => ⟨hreply, ?_⟩⟩
  · rw [readItem_fwin, hu.fwinBad, hb, hu.fwinWord]
    rfl
  · have hall : Alter requestM s t := ((hu.beside.mono rfl).and (halter.mono rfl)).and (hc.beside.mono rfl)
    refine ⟨hall.eq_patch, fun j hj => ?_⟩
    have hj' : j ∉ [R.CAN_FWIN_ADDR] ∧ j ∉ [R.CMD_PORT_STAT 0, R.CMD_PORT_STAT 1] := by
      simp only [portRegs, List.mem_append, List.mem_cons, List.not_mem_nil, not_or] at hj ⊢
      tauto
    exact (hc.reg j).trans ((fwinStep_only u j hj'.1).trans (hu.reg hj'.2))

theorem fwin_read_refused (e : Nat) {r : Req} (v : Reg) {s : State} (h : Takes r s) (hb : fwinBad s = true) :
    Answers (.fwinDataAccess e r false v) s fun t => Replied r 0x10 St.badParam (leBytes 2 0) s t ∧ Answered [] s t := by
  refine answers_read_refused (go := stepGo) (i := R.CAN_FWIN_DATA) rfl h (by decide) fun u hu => ⟨0, u, ?_⟩
  rw [readItem_fwin, hu.fwinBad, hb]
  rfl

theorem regWrite_fwin {go : State → State} {r : Req} (v : Reg) (u : State) :
    regWrite go r (wrAt r R.CAN_FWIN_DATA v u) u = WOut.of false (fwinWriteBad u) false (fwinWrite v) u := by
  rw [regWrite_can (show (wrAt r _ _ u).idx / 256 = 36 by rw [wrAt_idx]; decide)]
  unfold canWrite
  rw [if_neg (show ¬(wrAt r R.CAN_FWIN_DATA v u).idx = R.CAN_CTRL by rw [wrAt_idx]; decide), if_pos (wrAt_idx ..), wrAt_word]

theorem Arrived.fwinWriteBad {e : Nat} {s u : State} (h : Arrived e s u) : fwinWriteBad u = fwinWriteBad s := by
  unfold Machine.fwinWriteBad
  rw [h.fwinBad, h.fwinAt]

/-- The word stored by a write of the window. -/
theorem fwinWrite_spec (v : Reg) (s : State) : ∃ x : CanCtl, fwinWrite v s = fwinStep (setCan (fwinAt s).1 x s) ∧
    AMap.getD x.filt (fwinAt s).2.2 (filtReset (fwinAt s).2.2) =
      v &&& (if (fwinAt s).2.2 % 2 = 0 then 0xE01FFFFFFF#40 else 0x1FFFFFFF#40) := by
  unfold fwinWrite
  obtain ⟨c, a, w⟩ := fwinAt s
  exact ⟨_, rfl, AMap.getD_put_same _ _ _ _⟩

theorem fwinWrite_filt (v : Reg) (s : State) : filtWord (fwinWrite v s) (fwinAt s).1 (fwinAt s).2.2 =
    v &&& (if (fwinAt s).2.2 % 2 = 0 then 0xE01FFFFFFF#40 else 0x1FFFFFFF#40) := by
  obtain ⟨x, hx, hfilt⟩ := fwinWrite_spec v s
  unfold filtWord
  rw [hx, canOf_congr (fwinStep_can _), canOf_setCan_same, hfilt]

theorem fwinWrite_only (v : Reg) (s : State) : OnlyRegs [R.CAN_FWIN_ADDR] s (fwinWrite v s) := by
  obtain ⟨x, hx, -⟩ := fwinWrite_spec v s
  rw [hx]
  exact OnlyRegs.trans (.of_regs rfl) (fwinStep_only _)

theorem fwin_write (e : Nat) {r : Req} (v : Reg) {s : State} (h : Takes r s) (hb : fwinWriteBad s = false) (ho : r.origin ≤ 2)
    (hroom : s.auditFull = false) : Answers (.fwinDataAccess e r true v) s fun t =>
      filtWord t (fwinAt s).1 (fwinAt s).2.2 = v &&& (if (fwinAt s).2.2 % 2 = 0 then 0xE01FFFFFFF#40 else 0x1FFFFFFF#40) ∧
      Replied r 0x11 St.ok [] s t ∧ Answered [R.CAN_FWIN_ADDR] s t := by
  obtain ⟨hW, hopen, ht⟩ := fwin_row
  have ha := audits_of_open hopen v
  refine answers_write (go := stepGo) rfl h hW (touches_of_field ht v) (fun k => absurd (ha.symm.trans k) nofun) (fun _ => hroom)
    fun u hu => ?_
  have halter := alter_fwinWrite v u
  refine ⟨St.ok, fwinWrite v u, ?_, halter.ports rfl, fun t hreply hf => ⟨?_, hreply,
    hf.answered hu (halter.mono rfl) (fwinWrite_only v u)⟩⟩
  · rw [regWrite_fwin, hu.fwinWriteBad, hb]
    rfl
  · have hx := fwinWrite_filt v u
    rw [hu.fwinAt] at hx
    rw [← hx]
    unfold filtWord
    rw [hf.canOf ho]

theorem fwin_write_refused (e : Nat) {r : Req} (v : Reg) {s : State} (h : Takes r s) (hb : fwinWriteBad s = true) :
    Answers (.fwinDataAccess e r true v) s fun t => Replied r 0x11 St.badParam (leBytes 2 0) s t ∧ Answered [] s t := by
  obtain ⟨hW, hopen, -⟩ := fwin_row
  refine answers_refused_open (go := stepGo) (lv := 9) rfl h hW hopen (by decide) fun u hu => ?_
  rw [regWrite_fwin, hu.fwinWriteBad, hb]
  rfl

/-! ### The settling of O49 -/

/-- A flush of a queue whose frame flies, where the fill that it shows is of no matter. -/
theorem txqFlush_shows (e : Nat) {r : Req} (c : Fin 3) {st : Nat} {y : CanCtl} {s : State} (h : Takes r s) (ho : r.origin ≤ 2)
    (hflush : ∀ u, canOf u c = canOf s c → canFlush c u = (st, canShowQ c (setCan c y u))) :
    Answers (.txqFlush e r c) s fun t => canOf t c = y ∧ Replied r 0x11 st [] s t ∧
      (∀ k : Fin 3, k ≠ c → canOf t k = canOf s k) ∧ Answered [R.CAN_C_STAT c] s t := by
  obtain ⟨t, ht, hy, -, hreply, hk, hans⟩ := txqFlush_answers e c h ho hflush
  exact ⟨t, ht, hy, hreply, hk, hans⟩

/-- Settles O49: each write changes its controller's record, the partners or the frame window as its rule says, from the state that
its arrival leaves, and is answered with the rule's status. -/
theorem canWritten : Obligations.CanWritten := by
  unfold Obligations.CanWritten
  refine ⟨fun e r c s h hp hoff h1 h2 h3 hroom hst => enable_joins e c h hp hoff h1 h2 h3 hroom hst,
    fun e r c s h hp hon h1 h2 h3 hroom hst hfly => disable_leaves e c h hp hon h1 h2 h3 hroom hst hfly,
    fun e r c s h => recover_answers e r c s h,
    fun e r c mb req s h hmb hok ho => load_mailbox e c mb req h hmb hok ho,
    fun e r c req s h hok ho => load_queue e c req h hok ho,
    fun e r c mb req s h hmb => load_refused e c mb req h hmb,
    fun e r c m b s h hb h1 h2 ho => txreq_taken e c m h hb h1 h2 ho,
    fun e r c m s h hb => txreq_refused e c m h hb,
    fun e r c m b s h hb h1 ho => cancel_waiting e c m h hb h1 ho,
    fun e r c m b s h hb h2 ho => cancel_flying e c m h hb h2 ho,
    fun e r c s h hfly ho => txqFlush_answers e c h ho fun u hu => ?_,
    fun e r c x s h hfly hq ho => txqFlush_shows e c h ho fun u hu => ?_,
    fun e r c n s h hn ho => rxack_taken e c n h hn ho,
    fun e r c n s h hn => rxack_refused e c n h hn,
    fun e r s h ho => purge_answers e h ho,
    fun e r v s h hb => fwin_read e v h hb,
    fun e r v s h hb => fwin_read_refused e v h hb,
    fun e r v s h hb ho hroom => fwin_write e v h hb ho hroom,
    fun e r v s h hb => fwin_write_refused e v h hb⟩
  · rw [canFlush_idle (by rw [hu]; exact hfly), hu]
  · rw [canFlush_flying (by rw [hu]; exact hfly) (by rw [hu]; exact hq), hu]

end Sys2Proof.Machine
end

section
/-! SUPPORT. Writes of the placer's registers and of the glove pair's debug registers while the pair runs (R332, R333, R532 to
R537). -/

namespace Sys2Proof.Machine

set_option Elab.async false

/-! ### What a write leaves, but for one part -/

/-- The registers that a write's path and its effect leave. -/
theorem Finished.onlyRegs {r : Req} {i : Nat} {v : Reg} {x t : State} (h : Finished r i v x t) {l : List Nat} {e : Nat} {s u : State}
    (hu : Arrived e s u) (hl : OnlyRegs l u x) : OnlyRegs (portRegs ++ l) s t := by
  intro j hj
  have hj' : j ∉ l ∧ j ∉ [R.CMD_AUDIT_NEXT, R.CMD_AUDIT_STAT, R.CMD_FLAGS] ∧ j ∉ [R.CMD_PORT_STAT 0, R.CMD_PORT_STAT 1] := by
    simp only [portRegs, List.mem_append, List.mem_cons, List.not_mem_nil, not_or] at hj ⊢
    tauto
  exact (h.only j hj'.2.1).trans ((hl j hj'.1).trans (hu.reg hj'.2.2))

/-- All that a write's path may change. -/
abbrev writeM : Nat := requestM ||| 2 ^ 107

/-- What a write's path and its effect may change. -/
theorem Finished.alters {r : Req} {i : Nat} {v : Reg} {x t : State} (h : Finished r i v x t) {m : Nat} {e : Nat} {s u : State}
    (hu : Arrived e s u) (hx : Alter m u x) : Alter (writeM ||| m) s t := by
  have h1 : Alter (writeM ||| m) s u := hu.beside.mono (by rw [← Nat.or_assoc]; rfl)
  have h2 : Alter (writeM ||| m) u x := hx.mono (by rw [Nat.or_comm, Nat.or_assoc, Nat.or_self])
  have h3 : Alter (writeM ||| m) x t := h.beside.mono (by rw [← Nat.or_assoc]; rfl)
  exact (h1.and h2).and h3

theorem Alter.patchPlc {s t : State} (a : Alter (writeM ||| (2 ^ 67 ||| 2 ^ 103)) s t) : ({ t with plc := s.plc } : State) =
    { s with el := t.el, dt := t.dt, regs := t.regs, ports := t.ports, lastReq := t.lastReq, sessions := t.sessions
             audit := t.audit, can := t.can } := by
  have h : t = { s with el := t.el, dt := t.dt, regs := t.regs, ports := t.ports, lastReq := t.lastReq, sessions := t.sessions
                        audit := t.audit, can := t.can, plc := t.plc } := a.eq_patch
  generalize t.el = a1, t.dt = a2, t.regs = a3, t.ports = a4, t.lastReq = a5, t.sessions = a6, t.audit = a7, t.can = a8,
    t.plc = a9 at h
  subst h
  rfl

theorem Alter.patchGlove {s t : State} (a : Alter (writeM ||| (2 ^ 67 ||| 2 ^ 106)) s t) : ({ t with glove := s.glove } : State) =
    { s with el := t.el, dt := t.dt, regs := t.regs, ports := t.ports, lastReq := t.lastReq, sessions := t.sessions
             audit := t.audit, can := t.can } := by
  have h : t = { s with el := t.el, dt := t.dt, regs := t.regs, ports := t.ports, lastReq := t.lastReq, sessions := t.sessions
                        audit := t.audit, can := t.can, glove := t.glove } := a.eq_patch
  generalize t.el = a1, t.dt = a2, t.regs = a3, t.ports = a4, t.lastReq = a5, t.sessions = a6, t.audit = a7, t.can = a8,
    t.glove = a9 at h
  subst h
  rfl

/-- A write of registers and of the placer's record alone. -/
theorem Finished.answeredPlc {r : Req} {i : Nat} {v : Reg} {x t : State} (h : Finished r i v x t) {l : List Nat} {e : Nat}
    {s u : State} (hu : Arrived e s u) (hx : Alter (2 ^ 67 ||| 2 ^ 103) u x) (hl : OnlyRegs l u x) :
    Answered l s { t with plc := s.plc } :=
  ⟨(h.alters hu hx).patchPlc, h.onlyRegs hu hl⟩

/-- A write of registers and of the gloves' record alone. -/
theorem Finished.answeredGlove {r : Req} {i : Nat} {v : Reg} {x t : State} (h : Finished r i v x t) {l : List Nat} {e : Nat}
    {s u : State} (hu : Arrived e s u) (hx : Alter (2 ^ 67 ||| 2 ^ 106) u x) (hl : OnlyRegs l u x) :
    Answered l s { t with glove := s.glove } :=
  ⟨(h.alters hu hx).patchGlove, h.onlyRegs hu hl⟩

/-! ### The plant window (R332) -/

theorem regWrite_plc {go : State → State} {r : Req} {w : Wr} (h : w.idx / 256 = 22) (s : State) :
    regWrite go r w s = plcWrite w s := by
  simp [regWrite, h]

theorem pwin_row : Writable R.PLC_PWIN_DATA ∧ R.PLC_PWIN_DATA ≠ R.ENG_GWIN_DATA ∧
    ((rowOf R.PLC_PWIN_DATA).fields.any fun f => (f.cls == .rw || f.cls == .rwp ||
      ((f.cls == .wo || f.cls == .wop) && f.hi != f.lo)) && f.fld.mask != 0) = true ∧
    ((rowOf R.PLC_PWIN_DATA).fields.any fun f => f.cls == .rwp && f.fld.mask != 0) = true := by
  decide

theorem regWrite_pwin {go : State → State} {r : Req} (v : Reg) (u : State) :
    regWrite go r (wrAt r R.PLC_PWIN_DATA v u) u = WOut.of false (pwinBad u) u.plc.proof.isSome (pwinWrite v) u := by
  rw [regWrite_plc (show (wrAt r R.PLC_PWIN_DATA v u).idx / 256 = 22 by rw [wrAt_idx]; decide)]
  unfold plcWrite
  rw [wrAt_idx, if_neg (by decide), if_neg (by decide), if_pos rfl, wrAt_word]

section
variable {e : Nat} {s u : State} (h : Arrived e s u)
include h

theorem Arrived.plc : u.plc = s.plc := h.beside.plc rfl

theorem Arrived.pwinAt : pwinAt u = pwinAt s := h.farFld (by decide) _

theorem Arrived.pwinBad : pwinBad u = pwinBad s := by
  unfold Machine.pwinBad
  rw [h.pwinAt]

end

theorem pwinBad_of_inside {s : State} (h : s.fld R.PLC_PWIN_ADDR F.PLC_PWIN_ADDR.WORD < 104448) : pwinBad s = false :=
  decide_eq_false (Nat.not_le.mpr h)

/-- The window's address moves on by one inside the window. -/
theorem pwin_next {s : State} (h : s.fld R.PLC_PWIN_ADDR F.PLC_PWIN_ADDR.WORD < 104448) :
    (s.fld R.PLC_PWIN_ADDR F.PLC_PWIN_ADDR.WORD + 1) % 2 ^ F.PLC_PWIN_ADDR.WORD.width =
      s.fld R.PLC_PWIN_ADDR F.PLC_PWIN_ADDR.WORD + 1 :=
  Nat.mod_eq_of_lt (Nat.lt_of_le_of_lt h (by decide))

theorem pwinWrite_spec (v : Reg) (s : State) : let t := pwinWrite v s
    AMap.getD t.plc.win (pwinAt s) 0 = v ∧
    t.fld R.PLC_PWIN_ADDR F.PLC_PWIN_ADDR.WORD = (pwinAt s + 1) % 2 ^ F.PLC_PWIN_ADDR.WORD.width ∧
    OnlyRegs [R.PLC_PWIN_ADDR] s t := by
  intro t
  unfold t pwinWrite
  generalize hx : ({ s with plc := { s.plc with win := AMap.put s.plc.win (pwinAt s) 0 v } } : State) = x
  have hwin : x.plc.win = AMap.put s.plc.win (pwinAt s) 0 v := by rw [← hx]
  have hregs : x.regs = s.regs := by rw [← hx]
  have hat : pwinAt x = pwinAt s := State.fld_of_reg (Alter.reg_of_regs hregs _) _
  clear hx
  refine ⟨?_, ?_, OnlyRegs.trans (.of_regs hregs) ((OnlyRegs.refl _ x).setFld _ _ (by decide))⟩
  · rw [State.setFld_plc, hwin]
    exact AMap.getD_put_same _ _ _ _
  · rw [State.fld_setFld_eq _ (by decide), hat]

theorem pwin_write (e : Nat) {r : Req} (v : Reg) {s : State} (h : Takes r s) (hp : privileged s r = true)
    (hidle : s.plc.proof = none) (hin : s.fld R.PLC_PWIN_ADDR F.PLC_PWIN_ADDR.WORD < 104448) (hroom : s.auditFull = false) :
    Answers (.pwinDataWrite e r v) s fun t =>
      AMap.getD t.plc.win (s.fld R.PLC_PWIN_ADDR F.PLC_PWIN_ADDR.WORD) 0 = v ∧
      t.fld R.PLC_PWIN_ADDR F.PLC_PWIN_ADDR.WORD = s.fld R.PLC_PWIN_ADDR F.PLC_PWIN_ADDR.WORD + 1 ∧
      Replied r 0x11 St.ok [] s t ∧ Answered [R.PLC_PWIN_ADDR] s { t with plc := s.plc } := by
  obtain ⟨hW, -, ht, -⟩ := pwin_row
  refine answers_write (go := stepGo) rfl h hW (touches_of_field ht v) (fun _ => hp) (fun _ => hroom) fun u hu => ?_
  have halter := alter_pwinWrite v u
  obtain ⟨hwin, hat, honly⟩ := pwinWrite_spec v u
  refine ⟨St.ok, pwinWrite v u, ?_, halter.ports rfl, fun t hreply hf => ⟨?_, ?_, hreply, hf.answeredPlc hu (halter.mono rfl) honly⟩⟩
  · rw [regWrite_pwin, hu.pwinBad, pwinBad_of_inside hin, hu.plc, hidle]
    rfl
  · rw [hf.beside.plc rfl]
    rw [hu.pwinAt] at hwin
    exact hwin
  · rw [hf.farFld (by decide), hat, hu.pwinAt]
    exact pwin_next hin

theorem pwin_write_busy (e : Nat) {r : Req} (v : Reg) {s : State} (h : Takes r s) (hp : privileged s r = true)
    (hbusy : s.plc.proof.isSome = true) (hin : s.fld R.PLC_PWIN_ADDR F.PLC_PWIN_ADDR.WORD < 104448) :
    Answers (.pwinDataWrite e r v) s fun t => Replied r 0x11 St.busy (leBytes 2 0) s t ∧ Answered [] s t := by
  obtain ⟨hW, -, -, -⟩ := pwin_row
  refine answers_write_refused (go := stepGo) (lv := 10) rfl h hW (fun _ => hp) (by decide) fun u hu => ?_
  rw [regWrite_pwin, hu.pwinBad, pwinBad_of_inside hin, hu.plc, hbusy]
  rfl

theorem readItem_pwin (r : Req) (s : State) : readItem r R.PLC_PWIN_DATA s = pwinRead s := rfl

/-- A register's read that wrote registers alone. -/
theorem Closed.answered {r : Req} {l : List Nat} {e : Nat} {s u x t : State} (h : Closed r x t) (hu : Arrived e s u)
    (hx : Alter (2 ^ 67) u x) (hl : OnlyRegs l u x) : Answered l s t := by
  have hall : Alter requestM s t := ((hu.beside.mono rfl).and (hx.mono rfl)).and (h.beside.mono rfl)
  refine ⟨hall.eq_patch, fun j hj => ?_⟩
  have hj' : j ∉ l ∧ j ∉ [R.CMD_PORT_STAT 0, R.CMD_PORT_STAT 1] := by
    simp only [portRegs, List.mem_append, List.mem_cons, List.not_mem_nil, not_or] at hj ⊢
    tauto
  exact (h.reg j).trans ((hl j hj'.1).trans (hu.reg hj'.2))

theorem pwin_read (e : Nat) {r : Req} {s : State} (h : Takes r s) (hin : s.fld R.PLC_PWIN_ADDR F.PLC_PWIN_ADDR.WORD < 104448) :
    Answers (.pwinDataRead e r) s fun t =>
      Replied r 0x10 St.ok (leBytes 5 (AMap.getD s.plc.win (s.fld R.PLC_PWIN_ADDR F.PLC_PWIN_ADDR.WORD) 0).toNat) s t ∧
      t.fld R.PLC_PWIN_ADDR F.PLC_PWIN_ADDR.WORD = s.fld R.PLC_PWIN_ADDR F.PLC_PWIN_ADDR.WORD + 1 ∧
      Answered [R.PLC_PWIN_ADDR] s t := by
  refine answers_read (go := stepGo) (i := R.PLC_PWIN_DATA) rfl h fun u hu => ?_
  have halter : Alter (2 ^ 67) u (u.setFld R.PLC_PWIN_ADDR F.PLC_PWIN_ADDR.WORD (pwinAt u + 1)) :=
    (alter_setFld ..).mono (rm_high (by decide) rfl)
  refine ⟨_, _, ?_, halter.ports rfl, fun t hreply hc => ⟨hreply, ?_,
    hc.answered hu halter ((OnlyRegs.refl _ u).setFld _ _ (by decide))⟩⟩
  · rw [readItem_pwin]
    unfold pwinRead
    rw [hu.pwinBad, pwinBad_of_inside hin, hu.plc, hu.pwinAt]
    rfl
  · rw [hc.fld, State.fld_setFld_eq _ (by decide), hu.pwinAt]
    exact pwin_next hin

theorem pwin_read_refused (e : Nat) {r : Req} {s : State} (h : Takes r s)
    (hout : 104448 ≤ s.fld R.PLC_PWIN_ADDR F.PLC_PWIN_ADDR.WORD) :
    Answers (.pwinDataRead e r) s fun t => Replied r 0x10 St.badParam (leBytes 2 0) s t ∧ Answered [] s t := by
  refine answers_read_refused (go := stepGo) (i := R.PLC_PWIN_DATA) rfl h (by decide) fun u hu => ⟨0, u, ?_⟩
  rw [readItem_pwin]
  unfold pwinRead
  rw [hu.pwinBad, show pwinBad s = true from decide_eq_true hout]
  rfl

/-! ### PWIN_RESET and SUBMIT (R332, R333) -/

theorem plcCtrl_row : Writable R.PLC_CTRL ∧ maskOf R.PLC_CTRL [.rw, .rwp] = 0 ∧ windowData R.PLC_CTRL = false ∧
    touches R.PLC_CTRL (F.PLC_CTRL.PWIN_RESET.set 0 1) = true ∧ touches R.PLC_CTRL (F.PLC_CTRL.SUBMIT.set 0 1) = true ∧
    audits R.PLC_CTRL (F.PLC_CTRL.PWIN_RESET.set 0 1) = false ∧ maskOf R.PLC_CTRL [.wo, .wop] = 3 := by
  decide

theorem regWrite_plcCtrl {go : State → State} {r : Req} (s u : State) (f : Fld) :
    let v := f.set 0 1 &&& 3
    let o := if (v &&& F.PLC_CTRL.SUBMIT.mask != 0) = true then
        WOut.of (u.mode != Mode.ready && u.mode != Mode.service) false (u.plc.proof.isSome || updBusy u) submit u
      else ⟨0, St.ok, u⟩
    regWrite go r (wrAt r R.PLC_CTRL (settingVal s R.PLC_CTRL [(f, 1)]) u) u =
      if o.lv = 0 ∧ (v &&& F.PLC_CTRL.PWIN_RESET.mask != 0) = true then { o with s := o.s.setReg R.PLC_PWIN_ADDR 0 } else o := by
  intro v o
  obtain ⟨hW, hst, -, -, -, -, hm⟩ := plcCtrl_row
  rw [regWrite_plc (show (wrAt r R.PLC_CTRL _ u).idx / 256 = 22 by rw [wrAt_idx]; decide)]
  unfold plcWrite
  rw [if_pos (wrAt_idx ..), trigger_fires hW.1 hst, trigger_fires hW.1 hst, hm]
  rfl

theorem pwin_reset (e : Nat) {r : Req} {s : State} (h : Takes r s) : Answers (.pwinReset e r) s fun t =>
    t.reg R.PLC_PWIN_ADDR = 0 ∧ Replied r 0x11 St.ok [] s t ∧ Answered [R.PLC_PWIN_ADDR] s t := by
  obtain ⟨hW, hst, hwin, ht, -, ha, -⟩ := plcCtrl_row
  have hv := settingVal_trigger hW.1 hst s [(F.PLC_CTRL.PWIN_RESET, 1)]
  have ha' : audits R.PLC_CTRL (settingVal s R.PLC_CTRL [(F.PLC_CTRL.PWIN_RESET, 1)]) = false := by
    rw [hv]
    exact ha
  have hn := noted_of_open hwin ha'
  refine answers_write (go := stepGo) (v := settingVal s R.PLC_CTRL [(F.PLC_CTRL.PWIN_RESET, 1)]) rfl h hW
    (touches_setting hW.1 hst s _ ht) (fun k => absurd (ha'.symm.trans k) nofun) (fun k => absurd (hn.symm.trans k) nofun)
    fun u hu => ?_
  have halter : Alter (2 ^ 67 ||| 2 ^ 107) u (u.setReg R.PLC_PWIN_ADDR 0) := (alter_setReg ..).mono (rm_high (by decide) rfl)
  refine ⟨St.ok, u.setReg R.PLC_PWIN_ADDR 0, ?_, halter.ports rfl, fun t hreply hf => ⟨?_, hreply,
    hf.answered hu halter ((OnlyRegs.refl _ u).setReg _ (by decide))⟩⟩
  · exact (regWrite_plcCtrl s u _).trans rfl
  · rw [hf.far (by decide), State.reg_setReg_same]

theorem Arrived.updBusy {e : Nat} {s u : State} (h : Arrived e s u) : updBusy u = updBusy s := by
  unfold Machine.updBusy updState
  rw [h.farFld (by decide)]

theorem Arrived.pwinDesc {e : Nat} {s u : State} (h : Arrived e s u) : pwinDesc u = pwinDesc s := by
  unfold Machine.pwinDesc
  rw [h.plc]

theorem submit_spec (s : State) : let t := submit s
    t.plc.proof = some (pwinDesc s, s.dt) ∧ t.fld R.PLC_STAT F.PLC_STAT.STATE = 2 ∧ OnlyRegs [R.PLC_STAT] s t := by
  intro t
  unfold t submit
  generalize hx : ({ s with plc := { s.plc with proof := some (pwinDesc s, s.dt) } } : State) = x
  have hproof : x.plc.proof = some (pwinDesc s, s.dt) := by rw [← hx]
  have hregs : x.regs = s.regs := by rw [← hx]
  clear hx
  refine ⟨?_, ?_, OnlyRegs.trans (.of_regs hregs) ((OnlyRegs.refl _ x).setFld _ _ (by decide))⟩
  · rw [State.setFld_plc, hproof]
  · rw [State.fld_setFld_eq _ (by decide)]
    rfl

theorem submit_taken (e : Nat) {r : Req} {s : State} (h : Takes r s) (hp : privileged s r = true)
    (hmode : s.mode = Mode.ready ∨ s.mode = Mode.service) (hidle : s.plc.proof = none) (hupd : updBusy s = false)
    (hroom : s.auditFull = false) : Answers (.submit e r) s fun t =>
      t.plc.proof = some (pwinDesc s, t.dt) ∧ t.fld R.PLC_STAT F.PLC_STAT.STATE = 2 ∧ Replied r 0x11 St.ok [] s t ∧
      Answered [R.PLC_STAT] s { t with plc := s.plc } := by
  obtain ⟨hW, hst, -, -, ht, -, -⟩ := plcCtrl_row
  refine answers_write (go := stepGo) (v := settingVal s R.PLC_CTRL [(F.PLC_CTRL.SUBMIT, 1)]) rfl h hW
    (touches_setting hW.1 hst s _ ht) (fun _ => hp) (fun _ => hroom) fun u hu => ?_
  have halter := alter_submit u
  obtain ⟨hproof, hstate, honly⟩ := submit_spec u
  refine ⟨St.ok, submit u, ?_, halter.ports rfl, fun t hreply hf => ⟨?_, ?_, hreply, hf.answeredPlc hu (halter.mono rfl) honly⟩⟩
  · have hgood : (u.mode != Mode.ready && u.mode != Mode.service) = false := by
      rw [hu.mode]
      rcases hmode with hm | hm
      · simp [hm]
      · simp [hm]
    rw [regWrite_plcCtrl, hgood, hu.plc, hidle, hu.updBusy, hupd]
    rfl
  · rw [hf.beside.plc rfl, hproof, hu.pwinDesc, hf.beside.dt rfl, halter.dt rfl]
  · rw [hf.farFld (by decide), hstate]

theorem submit_refused (e : Nat) {r : Req} {s : State} (h : Takes r s) (hp : privileged s r = true) (h1 : s.mode ≠ Mode.ready)
    (h2 : s.mode ≠ Mode.service) : Answers (.submit e r) s fun t =>
      Replied r 0x11 St.wrongMode (leBytes 2 0) s t ∧ Answered [] s t := by
  obtain ⟨hW, -⟩ := plcCtrl_row
  refine answers_write_refused (go := stepGo) (lv := 8) (v := settingVal s R.PLC_CTRL [(F.PLC_CTRL.SUBMIT, 1)]) rfl h hW
    (fun _ => hp) (by decide) fun u hu => ?_
  have hbad : (u.mode != Mode.ready && u.mode != Mode.service) = true := by
    rw [hu.mode]
    simp [h1, h2]
  rw [regWrite_plcCtrl, hbad]
  rfl

end Sys2Proof.Machine
end

section
/-! SUPPORT. Writes of the glove pair's debug registers while the pair runs (R532 to R537). -/

namespace Sys2Proof.Machine

set_option Elab.async false

/-! ### The debug registers as a request finds them -/

theorem regWrite_glv {go : State → State} {r : Req} {w : Wr} (h : w.idx / 256 = 34) (s : State) :
    regWrite go r w s = glvWrite go w s := by
  simp [regWrite, h]

theorem dbgCtrl_row : Writable R.GLV_DBG_CTRL ∧ maskOf R.GLV_DBG_CTRL [.rw, .rwp] = 0 ∧
    touches R.GLV_DBG_CTRL (F.GLV_DBG_CTRL.HALT.set 0 1) = true ∧ touches R.GLV_DBG_CTRL (F.GLV_DBG_CTRL.STEP.set 0 1) = true ∧
    touches R.GLV_DBG_CTRL (F.GLV_DBG_CTRL.RESUME.set 0 1) = true ∧ maskOf R.GLV_DBG_CTRL [.wo, .wop] = 7 := by
  decide

/-- What a write of the debug control does, once its checks are met. -/
def debugDone (go : State → State) (v : Reg) (s : State) : State :=
  let s := if v &&& F.GLV_DBG_CTRL.HALT.mask != 0 then haltAsk (haltPoint s) 1 s else s
  let s := if v &&& F.GLV_DBG_CTRL.RESUME.mask != 0 then gloveResume s else s
  if v &&& F.GLV_DBG_CTRL.STEP.mask != 0 then go s else s

theorem regWrite_dbgCtrl {go : State → State} {r : Req} (s u : State) (f : Fld) :
    let v := f.set 0 1 &&& 7
    let ask := v &&& F.GLV_DBG_CTRL.HALT.mask != 0 || v &&& F.GLV_DBG_CTRL.STEP.mask != 0
    regWrite go r (wrAt r R.GLV_DBG_CTRL (settingVal s R.GLV_DBG_CTRL [(f, 1)]) u) u =
      WOut.of (ask && dbgWrong u) false (ask && u.bit R.GLV_STAT F.GLV_STAT.RUN) (debugDone go v) u := by
  intro v ask
  obtain ⟨hW, hst, -, -, -, hm⟩ := dbgCtrl_row
  rw [regWrite_glv (show (wrAt r R.GLV_DBG_CTRL _ u).idx / 256 = 34 by rw [wrAt_idx]; decide)]
  unfold glvWrite
  rw [if_pos (wrAt_idx ..), trigger_fires hW.1 hst, trigger_fires hW.1 hst, trigger_fires hW.1 hst, hm]
  rfl

section
variable {e : Nat} {s u : State} (h : Arrived e s u)
include h

theorem Arrived.dbgWrong : dbgWrong u = dbgWrong s := by
  unfold Machine.dbgWrong vlink
  rw [h.mode, h.farFld (by decide)]

theorem Arrived.glove : u.glove = s.glove := h.beside.glove rfl

theorem Arrived.haltPoint : haltPoint u = haltPoint s := by
  unfold Machine.haltPoint
  rw [h.glove, h.farFld (by decide)]

end

theorem dbgWrong_of_service {s : State} (h1 : s.mode = Mode.service) (h2 : vlink s < 120) : dbgWrong s = false := by
  unfold dbgWrong
  rw [h1, decide_eq_false (Nat.not_le.mpr h2)]
  rfl

theorem dbgWrong_of_not {s : State} (h : s.mode ≠ Mode.service ∨ 120 ≤ vlink s) : dbgWrong s = true := by
  unfold dbgWrong
  rcases h with h | h
  · simp [h]
  · simp [h]

/-- A write of the debug control whose checks are met. -/
theorem debug_answers {c : Instr} {go : State → State} (e : Nat) {r : Req} (f : Fld) {s : State} {P : State → Prop}
    (hexec : exec c s = .next (hostOp go r (setting s R.GLV_DBG_CTRL [(f, 1)]) (s.tick e))) (h : Takes r s)
    (hp : privileged s r = true) (ht : touches R.GLV_DBG_CTRL (f.set 0 1) = true) (hroom : s.auditFull = false)
    (hask : (f.set 0 1 &&& 7 &&& F.GLV_DBG_CTRL.HALT.mask != 0 || f.set 0 1 &&& 7 &&& F.GLV_DBG_CTRL.STEP.mask != 0) = true →
      dbgWrong s = false ∧ s.bit R.GLV_STAT F.GLV_STAT.RUN = false)
    (hrun : ∀ u, Arrived e s u → (debugDone go (f.set 0 1 &&& 7) u).ports = u.ports ∧ ∀ t, Replied r 0x11 St.ok [] s t →
      Finished r R.GLV_DBG_CTRL (settingVal s R.GLV_DBG_CTRL [(f, 1)]) (debugDone go (f.set 0 1 &&& 7) u) t → P t) :
    Answers c s P := by
  obtain ⟨hW, hst, -⟩ := dbgCtrl_row
  refine answers_write (v := settingVal s R.GLV_DBG_CTRL [(f, 1)]) hexec h hW (touches_setting hW.1 hst s _ ht) (fun _ => hp)
    (fun _ => hroom) fun u hu => ?_
  obtain ⟨hports, hk⟩ := hrun u hu
  refine ⟨St.ok, _, ?_, hports, hk⟩
  rw [regWrite_dbgCtrl, hu.dbgWrong, hu.farBit (by decide)]
  cases ha : (f.set 0 1 &&& 7 &&& F.GLV_DBG_CTRL.HALT.mask != 0 || f.set 0 1 &&& 7 &&& F.GLV_DBG_CTRL.STEP.mask != 0) with
  | false => rfl
  | true =>
    obtain ⟨h1, h2⟩ := hask ha
    rw [h1, h2]
    rfl

/-- Takes as it stands: the gloves neither halt nor withhold. -/
theorem not_halted {r : Req} {s : State} (h : Takes r s) : s.bit R.GLV_STAT F.GLV_STAT.HALTED = false := by
  obtain ⟨-, -, -, -, -, -, -, hkept, -⟩ := h
  simp only [outputsKept, jStopped, Bool.or_eq_false_iff] at hkept
  exact hkept.1.1

/-! ### HALT (R532, R533) -/

/-- A halt pending or not, with the gloves' record g. -/
def pendSet (b : Bool) (g : Glove) (s : State) : State := { s.setBit R.GLV_STAT F.GLV_STAT.HALT_PEND b with glove := g }

theorem pendSet_spec (b : Bool) (g : Glove) (s : State) : let t := pendSet b g s
    t.bit R.GLV_STAT F.GLV_STAT.HALT_PEND = b ∧ t.glove = g ∧ OnlyRegs [R.GLV_STAT] s t ∧ Alter (2 ^ 67 ||| 2 ^ 106) s t := by
  unfold pendSet
  have hb : (s.setBit R.GLV_STAT F.GLV_STAT.HALT_PEND b).bit R.GLV_STAT F.GLV_STAT.HALT_PEND = b := State.bit_setBit_eq _ (by decide)
  have ho : OnlyRegs [R.GLV_STAT] s (s.setBit R.GLV_STAT F.GLV_STAT.HALT_PEND b) := (OnlyRegs.refl _ s).setBit _ _ (by decide)
  have ha : Alter (2 ^ 67 ||| 2 ^ 106) s (s.setBit R.GLV_STAT F.GLV_STAT.HALT_PEND b) :=
    (alter_setBit ..).mono (rm_high (by decide) rfl)
  generalize s.setBit R.GLV_STAT F.GLV_STAT.HALT_PEND b = x at hb ho ha
  have hr : ({ x with glove := g } : State).regs = x.regs := rfl
  exact ⟨(State.bit_of_reg (Alter.reg_of_regs hr _) _).trans hb, rfl, ho.congr hr, ha.and ((alter_glove _ _).mono rfl)⟩

theorem haltAsk_taken {p why : Nat} {s : State} (h1 : s.bit R.GLV_STAT F.GLV_STAT.HALTED = false) (h2 : s.glove.haltPos = none)
    (h3 : s.glove.on = true) : haltAsk p why s = pendSet true { s.glove with haltPos := some (p, why) } s := by
  unfold haltAsk
  rw [h1, h2, h3]
  exact if_neg (by decide)

theorem halt_asked (e : Nat) {r : Req} {s : State} (h : Takes r s) (hp : privileged s r = true) (hmode : s.mode = Mode.service)
    (hv : vlink s < 120) (hrun : s.bit R.GLV_STAT F.GLV_STAT.RUN = false) (hon : s.glove.on = true) (hpos : s.glove.haltPos = none)
    (hroom : s.auditFull = false) : Answers (.halt e r) s fun t =>
      t.bit R.GLV_STAT F.GLV_STAT.HALT_PEND = true ∧ t.glove = { s.glove with haltPos := some (haltPoint s, 1) } ∧
      Replied r 0x11 St.ok [] s t ∧ Answered [R.GLV_STAT] s { t with glove := s.glove } := by
  refine debug_answers (go := stepGo) e F.GLV_DBG_CTRL.HALT rfl h hp dbgCtrl_row.2.2.1 hroom
    (fun _ => ⟨dbgWrong_of_service hmode hv, hrun⟩) fun u hu => ?_
  have hx : debugDone stepGo (F.GLV_DBG_CTRL.HALT.set 0 1 &&& 7) u = haltAsk (haltPoint u) 1 u := rfl
  rw [hx]
  rw [haltAsk_taken ((hu.farBit (by decide) _).trans (not_halted h)) (by rw [hu.glove]; exact hpos) (by rw [hu.glove]; exact hon)]
  obtain ⟨hpend, hglove, honly, halter⟩ := pendSet_spec true { u.glove with haltPos := some (haltPoint u, 1) } u
  refine ⟨halter.ports rfl, fun t hreply hf => ⟨?_, ?_, hreply, hf.answeredGlove hu halter honly⟩⟩
  · rw [hf.farBit (by decide), hpend]
  · rw [hf.beside.glove rfl, hglove, hu.glove, hu.haltPoint]

theorem halt_refused (e : Nat) {r : Req} {s : State} (h : Takes r s) (hp : privileged s r = true)
    (hbad : s.mode ≠ Mode.service ∨ 120 ≤ vlink s) : Answers (.halt e r) s fun t =>
      Replied r 0x11 St.wrongMode (leBytes 2 0) s t ∧ Answered [] s t := by
  obtain ⟨hW, -⟩ := dbgCtrl_row
  refine answers_write_refused (go := stepGo) (lv := 8) (v := settingVal s R.GLV_DBG_CTRL [(F.GLV_DBG_CTRL.HALT, 1)]) rfl h hW
    (fun _ => hp) (by decide) fun u hu => ?_
  rw [regWrite_dbgCtrl, hu.dbgWrong, dbgWrong_of_not hbad]
  rfl

/-! ### STEP and RESUME of a pair that runs (R535, R536) -/

theorem gloveStep_running (n : Nat) (d : Option (Fin 4 × Fin 3)) {s : State} (h : s.bit R.GLV_STAT F.GLV_STAT.HALTED = false) :
    gloveStep n d s = s := by
  cases n with
  | zero => rfl
  | succ n =>
    unfold gloveStep
    rw [h]
    rfl

theorem step_running (e : Nat) {r : Req} (diff : Option (Fin 4 × Fin 3)) {s : State} (h : Takes r s) (hp : privileged s r = true)
    (hmode : s.mode = Mode.service) (hv : vlink s < 120) (hrun : s.bit R.GLV_STAT F.GLV_STAT.RUN = false)
    (hroom : s.auditFull = false) : Answers (.step e r diff) s fun t => Replied r 0x11 St.ok [] s t ∧ Answered [] s t := by
  refine debug_answers (go := gloveStep 4 diff) e F.GLV_DBG_CTRL.STEP rfl h hp dbgCtrl_row.2.2.2.1 hroom
    (fun _ => ⟨dbgWrong_of_service hmode hv, hrun⟩) fun u hu => ?_
  have hx : debugDone (gloveStep 4 diff) (F.GLV_DBG_CTRL.STEP.set 0 1 &&& 7) u = u :=
    gloveStep_running 4 diff ((hu.farBit (by decide) _).trans (not_halted h))
  rw [hx]
  exact ⟨rfl, fun t hreply hf => ⟨hreply, hf.answered hu (Alter.refl _ u) (OnlyRegs.refl _ u)⟩⟩

theorem gloveResume_running {s : State} (h : s.bit R.GLV_STAT F.GLV_STAT.HALTED = false) :
    gloveResume s = pendSet false { s.glove with haltPos := none } s := by
  unfold gloveResume
  rw [h]
  exact if_neg (by decide)

theorem resume_running (e : Nat) {r : Req} {s : State} (h : Takes r s) (hp : privileged s r = true) (hroom : s.auditFull = false) :
    Answers (.resume e r) s fun t => Replied r 0x11 St.ok [] s t ∧ t.bit R.GLV_STAT F.GLV_STAT.HALT_PEND = false ∧
      t.glove = { s.glove with haltPos := none } ∧ Answered [R.GLV_STAT] s { t with glove := s.glove } := by
  refine debug_answers (go := stepGo) e F.GLV_DBG_CTRL.RESUME rfl h hp dbgCtrl_row.2.2.2.2.1 hroom (fun k => absurd k (by decide))
    fun u hu => ?_
  have hx : debugDone stepGo (F.GLV_DBG_CTRL.RESUME.set 0 1 &&& 7) u = gloveResume u := rfl
  rw [hx]
  rw [gloveResume_running ((hu.farBit (by decide) _).trans (not_halted h))]
  obtain ⟨hpend, hglove, honly, halter⟩ := pendSet_spec false { u.glove with haltPos := none } u
  refine ⟨halter.ports rfl, fun t hreply hf => ⟨hreply, ?_, ?_, hf.answeredGlove hu halter honly⟩⟩
  · rw [hf.farBit (by decide), hpend]
  · rw [hf.beside.glove rfl, hglove, hu.glove]

/-! ### The breakpoint (R532, R536) -/

theorem brk_row : Writable R.GLV_DBG_BRK ∧ maskOf R.GLV_DBG_BRK [.w1c, .w1cp] = 0 ∧
    ((rowOf R.GLV_DBG_BRK).fields.any fun f => (f.cls == .rw || f.cls == .rwp ||
      ((f.cls == .wo || f.cls == .wop) && f.hi != f.lo)) && f.fld.mask != 0) = true ∧
    HasField (maskOf R.GLV_DBG_BRK [.rw, .rwp]) F.GLV_DBG_BRK.EN ∧ HasField (maskOf R.GLV_DBG_BRK [.rw, .rwp]) F.GLV_DBG_BRK.POS := by
  decide

theorem regWrite_brk {go : State → State} {r : Req} (v : Reg) (u : State) :
    regWrite go r (wrAt r R.GLV_DBG_BRK v u) u = WOut.of (F.GLV_DBG_BRK.EN.get v == 1 && dbgWrong u) false
      (F.GLV_DBG_BRK.EN.get v == 1 && u.bit R.GLV_STAT F.GLV_STAT.RUN) (wrAt r R.GLV_DBG_BRK v u).plain u := by
  obtain ⟨-, hclr, -, hen, -⟩ := brk_row
  rw [regWrite_glv (show (wrAt r R.GLV_DBG_BRK _ u).idx / 256 = 34 by rw [wrAt_idx]; decide)]
  unfold glvWrite
  rw [wrAt_idx, if_neg (by decide), if_pos rfl, wrAt_covers, wrAt_get r _ v u hclr hen]
  rfl

theorem breakpoint_stored (e : Nat) {r : Req} (v : Reg) {s : State} (h : Takes r s) (hp : privileged s r = true)
    (hen : F.GLV_DBG_BRK.EN.get v = 0) (hroom : s.auditFull = false) : Answers (.breakpointWrite e r v) s fun t =>
      t.fld R.GLV_DBG_BRK F.GLV_DBG_BRK.POS = F.GLV_DBG_BRK.POS.get v ∧ t.bit R.GLV_DBG_BRK F.GLV_DBG_BRK.EN = false ∧
      Replied r 0x11 St.ok [] s t ∧ Answered [R.GLV_DBG_BRK] s t := by
  obtain ⟨hW, hclr, ht, hfen, hfpos⟩ := brk_row
  refine answers_write (go := stepGo) rfl h hW (touches_of_field ht v) (fun _ => hp) (fun _ => hroom) fun u hu => ?_
  have hx := plain_value (r := r) (v := v) (u := u) (i := R.GLV_DBG_BRK) (by decide) hclr
  have hget : ∀ f, HasField (maskOf R.GLV_DBG_BRK [.rw, .rwp]) f → ((wrAt r R.GLV_DBG_BRK v u).plain u).fld R.GLV_DBG_BRK f = f.get v := by
    intro f hf
    rw [hx, State.fld, State.reg_setReg_same, Fld.get_replaced hf]
  have halter : Alter (2 ^ 67 ||| 2 ^ 107) u ((wrAt r R.GLV_DBG_BRK v u).plain u) := by
    rw [hx]
    exact (alter_setReg ..).mono (rm_high (by decide) rfl)
  have honly : OnlyRegs [R.GLV_DBG_BRK] u ((wrAt r R.GLV_DBG_BRK v u).plain u) := by
    rw [hx]
    exact (OnlyRegs.refl _ u).setReg _ (by decide)
  refine ⟨St.ok, (wrAt r R.GLV_DBG_BRK v u).plain u, ?_, halter.ports rfl, fun t hreply hf => ⟨?_, ?_, hreply,
    hf.answered hu halter honly⟩⟩
  · rw [regWrite_brk, hen]
    rfl
  · rw [hf.farFld (by decide), hget _ hfpos]
  · rw [hf.farBit (by decide), State.bit, hget _ hfen, hen]
    rfl

theorem breakpoint_refused (e : Nat) {r : Req} (v : Reg) {s : State} (h : Takes r s) (hp : privileged s r = true)
    (hen : F.GLV_DBG_BRK.EN.get v = 1) (hmode : s.mode ≠ Mode.service) : Answers (.breakpointWrite e r v) s fun t =>
      Replied r 0x11 St.wrongMode (leBytes 2 0) s t ∧ Answered [] s t := by
  obtain ⟨hW, -⟩ := brk_row
  refine answers_write_refused (go := stepGo) (lv := 8) rfl h hW (fun _ => hp) (by decide) fun u hu => ?_
  rw [regWrite_brk, hen, hu.dbgWrong, dbgWrong_of_not (.inl hmode)]
  rfl

/-! ### The debug window of a pair that runs (R537) -/

theorem readItem_dwin (r : Req) (s : State) : readItem r R.GLV_DWIN_DATA s =
    if privileged s r then dwinRead s else (St.denied, 0, s) := rfl

theorem dwin_denied (e : Nat) {r : Req} {s : State} (h : Takes r s) (hp : privileged s r = false) :
    Answers (.dwinDataRead e r) s fun t => Replied r 0x10 St.denied (leBytes 2 0) s t ∧ Answered [] s t := by
  refine answers_read_refused (go := stepGo) (i := R.GLV_DWIN_DATA) rfl h (by decide) fun u hu => ⟨0, u, ?_⟩
  rw [readItem_dwin, hu.privileged, hp]
  rfl

theorem dwin_running (e : Nat) {r : Req} {s : State} (h : Takes r s) (hp : privileged s r = true) :
    Answers (.dwinDataRead e r) s fun t => Replied r 0x10 St.wrongMode (leBytes 2 0) s t ∧ Answered [] s t := by
  refine answers_read_refused (go := stepGo) (i := R.GLV_DWIN_DATA) rfl h (by decide) fun u hu => ⟨0, u, ?_⟩
  rw [readItem_dwin, hu.privileged, hp, if_pos rfl]
  unfold dwinRead
  rw [hu.farBit (by decide), not_halted h]
  rfl

end Sys2Proof.Machine
end

section
/-! SUPPORT. A request that comes while the glove pair keeps its outputs back: it enters its port and is decided there (R519, R534,
R545, R549). -/

namespace Sys2Proof.Machine

set_option Elab.async false

/-! ### A request at a port whose outputs are kept back -/

/-- An empty command port that has executed nothing takes a request. -/
theorem admits_of_empty {r : Req} {s : State} (h1 : s.boot.phase = .run) (h2 : s.boot.imageBad = false)
    (h3 : 1 ≤ r.origin ∧ r.origin ≤ 2 ∧ r.node = 0) (h4 : s.portOf (pathKey r) = {})
    (h5 : AMap.get? s.lastReq (pathKey r) = none) : Admits r s where
  run := h1
  image := h2
  path := ⟨h3.1, by omega, by omega⟩
  waiting := by rw [h4]
  held := by rw [h4]
  room := by
    have hk : portHeld s (pathKey r) = 0 := by
      have hp : AMap.getD s.ports (pathKey r) {} = {} := h4
      unfold portHeld
      rw [hp]
      rfl
    unfold heldCount
    rw [keyCan_pathKey h3.2.1 (by omega), hk]
    exact (by decide : 0 < 16)
  seq := by
    rw [h5]
    rfl

/-- A request that comes while outputs are kept back is decided at the head of its port. -/
theorem Admits.pumped {go : State → State} {r : Req} {op : Op} {s : State} (h : Admits r s)
    (hsafe : asksSafe (askFor r op) = false) (hkept : outputsKept s = true) :
    hostOp go r op s = pump go 20 (pathKey r) (arrival r op s) := by
  have hin := h.enters hsafe
  unfold hostOp
  extract_lets a k
  rw [if_pos (by simp [hkept])]
  unfold askArrives
  rw [show askEnters a s = _ from hin]
  rfl

/-- Once it is answered, nothing else waits in its port. -/
theorem pump_reply {go : State → State} {r : Req} {op : Op} {s u : State} (hu : Stands (askFor r op) s u) {x : Reply} {exe : Bool}
    {w : State} (n : Nat)
    (hd : decideAsk go (pathKey r) (askFor r op) u = .reply x exe w) (hports : w.ports = u.ports) :
    pump go (n + 2) (pathKey r) u = answer (pathKey r) (askFor r op) x exe w := by
  obtain ⟨hwait, hheld, -⟩ := answer_portOf (pathKey r) (askFor r op) x exe w
  have hport : w.portOf (pathKey r) = u.portOf (pathKey r) := by simp only [State.portOf, hports]
  have hreq : (askFor r op).req = r := rfl
  have hw := hu.waiting
  have hh := hu.held
  rw [hreq] at hw hh
  rw [hport, hw] at hwait
  unfold pump
  simp only [hh, hw, hd, Bool.false_eq_true, if_false]
  unfold pump
  simp only [hheld, hwait, List.drop_one, List.tail_cons, Bool.false_eq_true, if_false]

/-- A command that is a request which comes while outputs are kept back: what decides it, decides its reply. -/
theorem answers_kept {c : Instr} {r : Req} {op : Op} {go : State → State} {e code : Nat} {s : State} {P : State → Prop}
    (hexec : exec c s = .next (hostOp go r op (s.tick e))) (hcode : opCode op = code) (h : Admits r s)
    (hopen : sessionOpenTo s (askFor r op) = true) (ho : FormedOp op) (hkept : outputsKept s = true)
    (hrun : ∀ u, Arrived e s u → ∃ st payload exe w,
      (if needsGlove op then toGlove go (pathKey r) (askFor r op) op u
        else .reply (opRun go r op u).reply (opRun go r op u).exe (opRun go r op u).s) = .reply ⟨st, payload⟩ exe w ∧
      w.ports = u.ports ∧ ∀ t, Replied r code st payload s t → Closed r w t → P t) : Answers c s P := by
  have h' := admits_tick e h
  obtain ⟨st, payload, exe, w, hd, hports, hk⟩ := hrun _ (h.arrived op e)
  have hu := h'.stands op
  have hpump : hostOp go r op (s.tick e) = answer (pathKey r) (askFor r op) ⟨st, payload⟩ exe w :=
    (h'.pumped (ho.asksSafe r) hkept).trans (pump_reply hu 18 ((h'.decided hopen hu ho).trans hd) hports)
  obtain ⟨-, -, hnode⟩ := h.path
  refine ⟨_, hexec, ?_⟩
  rw [hpump]
  exact hk _ (hcode ▸ replied_of_stands hnode hu hports st payload exe) (answer_closed hnode op _ exe w)

end Sys2Proof.Machine
end

section
/-! SUPPORT. STEP and the debug window of a halted glove pair (R534, R535, R537), and the settling of O46. -/

namespace Sys2Proof.Machine

set_option Elab.async false

/-! ### The halt reached below 60 V (R533, R535) -/

theorem haltShown_run (p why : Nat) (s : State) :
    (haltShown p why s).bit R.GLV_STAT F.GLV_STAT.RUN = s.bit R.GLV_STAT F.GLV_STAT.RUN := by
  unfold haltShown
  extract_lets u v
  have hu : u.bit R.GLV_STAT F.GLV_STAT.RUN = s.bit R.GLV_STAT F.GLV_STAT.RUN := by
    unfold u
    rw [State.bit_setBit_beside _ (by decide), State.bit_setBit_beside _ (by decide)]
  clear_value u
  have hv : v.bit R.GLV_STAT F.GLV_STAT.RUN = u.bit R.GLV_STAT F.GLV_STAT.RUN := by
    unfold v
    rw [State.bit_setFld_ne _ (by decide), State.bit_setFld_ne _ (by decide)]
  clear_value v
  have hr : ∀ g, ({ v with glove := g } : State).regs = v.regs := fun _ => rfl
  exact (State.bit_of_reg (Alter.reg_of_regs (hr _) _) _).trans (hv.trans hu)

/-- What a halt reached below 60 V shows, and what it leaves. -/
structure HaltLow (p why : Nat) (s t : State) : Prop where
  halted : t.bit R.GLV_STAT F.GLV_STAT.HALTED = true
  run : t.bit R.GLV_STAT F.GLV_STAT.RUN = s.bit R.GLV_STAT F.GLV_STAT.RUN
  pos : t.fld R.GLV_DBG_STAT F.GLV_DBG_STAT.POS = p % 2 ^ F.GLV_DBG_STAT.POS.width
  why : t.fld R.GLV_DBG_STAT F.GLV_DBG_STAT.WHY = why % 4
  flags : t.reg R.GLV_FLAGS = s.reg R.GLV_FLAGS
  grows : s.ev.buf <+: t.ev.buf
  audit : t.audit = s.audit
  ports : t.ports = s.ports

theorem haltReached_shows (p why : Nat) {s : State} (hv : vlink s < 120) : HaltLow p why s (haltReached p why s) := by
  have hs := haltShown_shows p why s
  have hrun := haltShown_run p why s
  rw [haltReached_eq]
  generalize haltShown p why s = u at *
  have hlink : vlink u = vlink s := vlink_of_reg (hs.only _ (by decide))
  have ha := alter_raise EV.GLOVE_HALT 0xFF [(4, p)] u
  have hr : ∀ i, i ∉ logRegs → (u.raise EV.GLOVE_HALT 0xFF [(4, p)]).reg i = u.reg i := fun i hi => State.raise_reg _ _ _ _ _ hi
  have hgrow : u.ev.buf <+: (u.raise EV.GLOVE_HALT 0xFF [(4, p)]).ev.buf := ha.evGrows rfl
  generalize u.raise EV.GLOVE_HALT 0xFF [(4, p)] = v at *
  rw [link60_reads (.inr (by rw [hlink]; exact hv))]
  have ho := (setVlink_shows (vlink u) v).only
  have hb := alter_setVlink (vlink u) v
  generalize setVlink (vlink u) v = t at *
  have hreg : ∀ i, i ∉ vlinkRegs → i ∉ logRegs → t.reg i = u.reg i := fun i h1 h2 => (ho i h1).trans (hr i h2)
  constructor
  case halted => exact (State.bit_of_reg (hreg _ (by decide) (by decide)) _).trans hs.halted
  case run => exact (State.bit_of_reg (hreg _ (by decide) (by decide)) _).trans hrun
  case pos => exact (State.fld_of_reg (hreg _ (by decide) (by decide)) _).trans hs.pos
  case why => exact (State.fld_of_reg (hreg _ (by decide) (by decide)) _).trans hs.why
  case flags => exact (hreg _ (by decide) (by decide)).trans (hs.only _ (by decide))
  case grows => rw [hb.ev rfl, ← hs.beside.ev rfl]; exact hgrow
  case audit => exact (hb.audit rfl).trans ((ha.audit rfl).trans (hs.beside.audit rfl))
  case ports => exact (hb.ports rfl).trans ((ha.ports rfl).trans (hs.beside.ports rfl))

/-! ### STEP of an entry that differs (R535) -/

theorem gloveStep_differs (n : Nat) (d : Diff) {x : JEnt} {s : State} (hh : s.bit R.GLV_STAT F.GLV_STAT.HALTED = true)
    (hx : (s.glove.ents.find? fun y => y.seq == s.fld R.GLV_DBG_STAT F.GLV_DBG_STAT.POS) = some x) :
    gloveStep (n + 1) (some d) s = haltReached (s.fld R.GLV_DBG_STAT F.GLV_DBG_STAT.POS + 1) 3 (withhold d x.iv s) := by
  unfold gloveStep
  rw [hh]
  simp only [Bool.not_true, Bool.false_eq_true, if_false, hx]

theorem withhold_reg (d : Diff) (k : Nat) (s : State) {i : Nat}
    (hi : i ∉ logRegs ++ [R.GLV_MISM, R.GLV_MISM_CP, R.GLV_STAT, R.GLV_FLAGS]) : (withhold d k s).reg i = s.reg i := by
  have hn := noteDiff_noted d k s
  have h1 : i ∉ logRegs := fun hm => hi (List.mem_append_left _ hm)
  have h2 : i ∉ [R.GLV_MISM, R.GLV_MISM_CP, R.GLV_STAT, R.GLV_FLAGS] := fun hm => hi (List.mem_append_right _ hm)
  unfold withhold
  rw [State.raise_reg _ _ _ _ _ h1, State.reg_setBit_ne _ _ _ (fun hk => h2 (by rw [hk]; simp)), hn.only i h2]

theorem outputsKept_of_halted {s : State} (h : s.bit R.GLV_STAT F.GLV_STAT.HALTED = true) : outputsKept s = true := by
  unfold outputsKept jStopped
  rw [h]
  rfl

theorem step_differs (e : Nat) {r : Req} (d : Fin 4 × Fin 3) {x : JEnt} {s : State} (h : Admits r s)
    (hp : privileged s r = true) (hmode : s.mode = Mode.service) (hv : vlink s < 120)
    (hrun : s.bit R.GLV_STAT F.GLV_STAT.RUN = false) (hh : s.bit R.GLV_STAT F.GLV_STAT.HALTED = true)
    (hx : (s.glove.ents.find? fun y => y.seq == s.fld R.GLV_DBG_STAT F.GLV_DBG_STAT.POS) = some x) (hroom : s.auditFull = false) :
    Answers (.step e r (some d)) s fun t =>
       t.bit R.GLV_STAT F.GLV_STAT.HALTED = true ∧ t.bit R.GLV_STAT F.GLV_STAT.RUN = true ∧
       t.bit R.GLV_FLAGS F.GLV_FLAGS.MISMATCH = true ∧
       t.fld R.GLV_DBG_STAT F.GLV_DBG_STAT.POS =
         (s.fld R.GLV_DBG_STAT F.GLV_DBG_STAT.POS + 1) % 2 ^ F.GLV_DBG_STAT.POS.width ∧
       t.fld R.GLV_DBG_STAT F.GLV_DBG_STAT.WHY = 3 ∧ (LogReady s → Logs EV.GLOVE_MISMATCH 0xFF s t) ∧
       Replied r 0x11 St.ok [] s t := by
  obtain ⟨hW, hst, -, ht, -, -⟩ := dbgCtrl_row
  have htouch := touches_setting hW.1 hst s [(F.GLV_DBG_CTRL.STEP, 1)] ht
  refine answers_kept (go := gloveStep 4 (some d)) (op := setting s R.GLV_DBG_CTRL [(F.GLV_DBG_CTRL.STEP, 1)]) rfl rfl h
    (sessionOpenTo_of_priv _ (.inr hp)) (formedOp_write _ _) (outputsKept_of_halted hh) fun u hu => ?_
  obtain ⟨w1, w2, -, -, -, -, -, w8⟩ := withhold_spec d x.iv u
  have hwreg : ∀ i, i ∉ logRegs ++ [R.GLV_MISM, R.GLV_MISM_CP, R.GLV_STAT, R.GLV_FLAGS] → (withhold d x.iv u).reg i = u.reg i :=
    fun i hi => withhold_reg d x.iv u hi
  have hwlink : vlink (withhold d x.iv u) = vlink s := (vlink_of_reg (hwreg _ (by decide))).trans (hu.farFld (by decide) _)
  have ha := alter_withhold d x.iv u
  have hpos : u.fld R.GLV_DBG_STAT F.GLV_DBG_STAT.POS = s.fld R.GLV_DBG_STAT F.GLV_DBG_STAT.POS := hu.farFld (by decide) _
  have hstep : gloveStep 4 (some d) u = haltReached (u.fld R.GLV_DBG_STAT F.GLV_DBG_STAT.POS + 1) 3 (withhold d x.iv u) :=
    gloveStep_differs 3 d ((hu.farBit (by decide) _).trans hh) (by rw [hu.glove, hpos]; exact hx)
  have hlow := haltReached_shows (u.fld R.GLV_DBG_STAT F.GLV_DBG_STAT.POS + 1) 3 (s := withhold d x.iv u) (by rw [hwlink]; exact hv)
  rw [← hstep] at hlow
  generalize withhold d x.iv u = w at *
  have hwrite : regWrite (gloveStep 4 (some d)) r (wrAt r R.GLV_DBG_CTRL (settingVal s R.GLV_DBG_CTRL [(F.GLV_DBG_CTRL.STEP, 1)]) u) u =
      ⟨0, St.ok, gloveStep 4 (some d) u⟩ := by
    rw [regWrite_dbgCtrl, hu.dbgWrong, dbgWrong_of_service hmode hv, hu.farBit (by decide), hrun]
    rfl
  obtain ⟨y, hy, he⟩ := write_done hW (fun _ => (hu.privileged r).trans hp) htouch (fun _ => hu.auditFull.trans hroom) hwrite
  refine ⟨St.ok, [], true, y, ?_, (he.beside.ports rfl).trans (hlow.ports.trans (ha.ports rfl)), fun t hreply hc => ?_⟩
  · have hop : opRun (gloveStep 4 (some d)) r (setting s R.GLV_DBG_CTRL [(F.GLV_DBG_CTRL.STEP, 1)]) u = ⟨⟨St.ok, []⟩, true, y⟩ := hy
    have hno : needsGlove (setting s R.GLV_DBG_CTRL [(F.GLV_DBG_CTRL.STEP, 1)]) = false := rfl
    rw [hno, hop]
    rfl
  · have hf := finished_of he hc
    refine ⟨?_, ?_, ?_, ?_, ?_, fun hl => ?_, hreply⟩
    · rw [hf.farBit (by decide), hlow.halted]
    · rw [hf.farBit (by decide), hlow.run, w1]
    · rw [hf.farBit (by decide), State.bit_of_reg hlow.flags, w2]
    · rw [hf.farFld (by decide), hlow.pos, hpos]
    · rw [hf.farFld (by decide), hlow.why]
    · have hl1 : Logs EV.GLOVE_MISMATCH 0xFF s w := (w8 (hu.logReady hl)).of_ev (hu.beside.ev rfl)
      refine ((hl1.grows ?_ hlow.grows).to_ev (hf.beside.ev rfl))
      rw [← hu.beside.ev rfl]
      exact ha.evGrows rfl

/-! ### The debug window of a halted pair (R537) -/

theorem draw_spec (n : Nat) (s : State) : s.draw n = (Config.freeValue s.free % 2 ^ n, { s with free := s.free + 1 }) := rfl

/-- State u with a free value taken. -/
def drawn (s : State) : State := { s with free := s.free + 1 }

theorem drawn_spec (s : State) : (drawn s).free = s.free + 1 ∧ (∀ i, (drawn s).reg i = s.reg i) ∧ Alter (2 ^ 68) s (drawn s) :=
  ⟨rfl, fun _ => rfl, alter_free _ _ (Nat.le_succ _)⟩

theorem dwinRead_halted {s : State} (hh : s.bit R.GLV_STAT F.GLV_STAT.HALTED = true)
    (hin : s.fld R.GLV_DWIN_ADDR F.GLV_DWIN_ADDR.WORD < 393216) : dwinRead s =
      (St.ok, BitVec.ofNat 40 (Config.freeValue s.free % 2 ^ 32), if (drawn s).bit R.GLV_DWIN_ADDR F.GLV_DWIN_ADDR.AUTOINC then
        (drawn s).setFld R.GLV_DWIN_ADDR F.GLV_DWIN_ADDR.WORD ((drawn s).fld R.GLV_DWIN_ADDR F.GLV_DWIN_ADDR.WORD + 1)
      else drawn s) := by
  unfold dwinRead
  rw [hh, draw_spec]
  exact if_neg (Nat.not_lt.mpr (Nat.le_of_lt_succ hin))

theorem Alter.patchFree {s t : State} (a : Alter (requestM ||| 2 ^ 68) s t) : ({ t with free := s.free } : State) =
    { s with el := t.el, dt := t.dt, regs := t.regs, ports := t.ports, lastReq := t.lastReq, sessions := t.sessions
             audit := t.audit, can := t.can } := by
  have h : t = { s with el := t.el, dt := t.dt, regs := t.regs, ports := t.ports, lastReq := t.lastReq, sessions := t.sessions
                        audit := t.audit, can := t.can, free := t.free } := a.eq_patch
  generalize t.el = a1, t.dt = a2, t.regs = a3, t.ports = a4, t.lastReq = a5, t.sessions = a6, t.audit = a7, t.can = a8,
    t.free = a9 at h
  subst h
  rfl

theorem dwin_halted (e : Nat) {r : Req} {s : State} (h : Admits r s) (hp : privileged s r = true)
    (hh : s.bit R.GLV_STAT F.GLV_STAT.HALTED = true) (hin : s.fld R.GLV_DWIN_ADDR F.GLV_DWIN_ADDR.WORD < 393216) :
    Answers (.dwinDataRead e r) s fun t =>
       Replied r 0x10 St.ok (leBytes 5 (Config.freeValue s.free % 2 ^ 32)) s t ∧ t.free = s.free + 1 ∧
       Answered [R.GLV_DWIN_ADDR] s { t with free := s.free } := by
  refine answers_kept (go := stepGo) (op := .regRead [R.GLV_DWIN_DATA]) rfl rfl h (sessionOpenTo_of_priv _ (.inr hp)) (formedOp_read _)
    (outputsKept_of_halted hh) fun u hu => ?_
  have hread := dwinRead_halted (s := u) ((hu.farBit (by decide) _).trans hh) (by rw [hu.farFld (by decide)]; exact hin)
  obtain ⟨d1, d2, d3⟩ := drawn_spec u
  generalize drawn u = v at *
  have hx : ∀ x, x = (if v.bit R.GLV_DWIN_ADDR F.GLV_DWIN_ADDR.AUTOINC then
      v.setFld R.GLV_DWIN_ADDR F.GLV_DWIN_ADDR.WORD (v.fld R.GLV_DWIN_ADDR F.GLV_DWIN_ADDR.WORD + 1) else v) →
      OnlyRegs [R.GLV_DWIN_ADDR] u x ∧ Alter (2 ^ 67 ||| 2 ^ 68) u x ∧ x.free = u.free + 1 := by
    rintro x rfl
    have hv : OnlyRegs [R.GLV_DWIN_ADDR] u v := fun i _ => d2 i
    split
    · exact ⟨hv.setFld _ _ (by decide), (d3.mono rfl).and ((alter_setFld ..).mono (rm_high (by decide) rfl)), by rw [State.setFld_free, d1]⟩
    · exact ⟨hv, d3.mono rfl, d1⟩
  generalize (if v.bit R.GLV_DWIN_ADDR F.GLV_DWIN_ADDR.AUTOINC then
      v.setFld R.GLV_DWIN_ADDR F.GLV_DWIN_ADDR.WORD (v.fld R.GLV_DWIN_ADDR F.GLV_DWIN_ADDR.WORD + 1) else v) = x at *
  obtain ⟨honly, halter, hfree⟩ := hx x rfl
  have hfu : u.free = s.free := hu.beside.free rfl
  have hword : (BitVec.ofNat 40 (Config.freeValue u.free % 2 ^ 32)).toNat = Config.freeValue s.free % 2 ^ 32 := by
    rw [hfu, BitVec.toNat_ofNat]
    exact Nat.mod_eq_of_lt (Nat.lt_trans (Nat.mod_lt _ (by decide)) (by decide))
  have hitem : readItem r R.GLV_DWIN_DATA u = (St.ok, BitVec.ofNat 40 (Config.freeValue u.free % 2 ^ 32), x) := by
    rw [readItem_dwin, hu.privileged, hp, if_pos rfl, hread]
  have hpacket := readPacket_single hitem
  rw [hword] at hpacket
  refine ⟨St.ok, _, true, x, ?_, halter.ports rfl, fun t hreply hc => ⟨hreply, ?_, ?_, fun j hj => ?_⟩⟩
  · have hno : needsGlove (.regRead [R.GLV_DWIN_DATA]) = false := rfl
    rw [hno, opRun_regRead_single, hpacket]
    rfl
  · rw [hc.beside.free rfl, hfree, hfu]
  · exact (((hu.beside.mono (m := requestM ||| 2 ^ 68) rfl).and (halter.mono rfl)).and (hc.beside.mono rfl)).patchFree
  · have hj' : j ∉ [R.GLV_DWIN_ADDR] ∧ j ∉ [R.CMD_PORT_STAT 0, R.CMD_PORT_STAT 1] := by
      simp only [portRegs, List.mem_append, List.mem_cons, List.not_mem_nil, not_or] at hj ⊢
      tauto
    exact (hc.reg j).trans ((honly j hj'.1).trans (hu.reg hj'.2))

/-! ### The settling of O46 -/

/-- Settles O46: a write or a read of the placer's window, of its control, or of the debug registers, by the rule of its register,
from the state that its arrival leaves; in a halt the request is decided at the head of its port. -/
theorem placerAndDebugWritten : Obligations.PlacerAndDebugWritten := by
  unfold Obligations.PlacerAndDebugWritten
  exact ⟨fun e r v s h hp hidle hin hroom => pwin_write e v h hp hidle hin hroom,
    fun e r v s h hp hbusy hin => pwin_write_busy e v h hp hbusy hin,
    fun e r s h hin => pwin_read e h hin,
    fun e r s h hout => pwin_read_refused e h hout,
    fun e r s h => pwin_reset e h,
    fun e r s h hp hmode hidle hupd hroom => submit_taken e h hp hmode hidle hupd hroom,
    fun e r s h hp h1 h2 => submit_refused e h hp h1 h2,
    fun e r s h hp hmode hv hrun hon hpos hroom => halt_asked e h hp hmode hv hrun hon hpos hroom,
    fun e r s h hp hbad => halt_refused e h hp hbad,
    fun e r diff s h hp hmode hv hrun hroom => step_running e diff h hp hmode hv hrun hroom,
    fun e r d x s h1 h2 h3 h4 h5 hp hmode hv hrun hh hx hroom =>
      step_differs e d (admits_of_empty h1 h2 h3 h4 h5) hp hmode hv hrun hh hx hroom,
    fun e r s h hp hroom => resume_running e h hp hroom,
    fun e r v s h hp hen hroom => breakpoint_stored e v h hp hen hroom,
    fun e r v s h hp hen hmode => breakpoint_refused e v h hp hen hmode,
    fun e r s h hp => dwin_denied e h hp,
    fun e r s h hp => dwin_running e h hp,
    fun e r s h1 h2 h3 h4 h5 hp hh hin => dwin_halted e (admits_of_empty h1 h2 h3 h4 h5) hp hh hin⟩

end Sys2Proof.Machine
end

section
/-! SUPPORT. Requests about sessions and the key (R563 to R567, R570), with the length of the answer to a challenge. -/

namespace Sys2Proof.Machine

set_option Elab.async false

/-! ### The length of a hash (R564) -/

theorem leBytes_length (n x : Nat) : (leBytes n x).length = n := by
  induction n generalizing x with
  | zero => rfl
  | succ n ih => exact congrArg (· + 1) (ih _)

/-- A round takes four words and four words to as many. -/
theorem shaRound_lengths (q : List (BitVec 32) × List (BitVec 32)) (kw : BitVec 32) (h : q.1.length = 4 ∧ q.2.length = 4) :
    (shaRound q kw).1.length = 4 ∧ (shaRound q kw).2.length = 4 := by
  unfold shaRound
  split
  · exact ⟨rfl, rfl⟩
  · exact h

theorem shaRounds_lengths (l : List (BitVec 32)) (q : List (BitVec 32) × List (BitVec 32)) (h : q.1.length = 4 ∧ q.2.length = 4) :
    (l.foldl shaRound q).1.length = 4 ∧ (l.foldl shaRound q).2.length = 4 := by
  induction l generalizing q with
  | nil => exact h
  | cons a l ih => exact ih _ (shaRound_lengths q a h)

/-- Whole blocks take eight words to eight. -/
theorem shaBlocks_length (n : Nat) (m : List Byte) (h : List (BitVec 32)) (hh : h.length = 8) : (shaBlocks n m h).length = 8 := by
  induction n generalizing m h with
  | zero => exact hh
  | succ n ih =>
    unfold shaBlocks
    extract_lets ws q
    have hq : q.1.length = 4 ∧ q.2.length = 4 := shaRounds_lengths _ _ (by simp [hh])
    exact ih _ _ (by simp [hh, hq.1, hq.2])

theorem sha256_length (m : List Byte) : (sha256 m).length = 32 := by
  unfold sha256
  extract_lets zeros p
  have h8 := shaBlocks_length (p.length / 64) p ((shaPrimes.take 8).map (rootFrac 2)) (by rw [List.length_map]; rfl)
  have h4 : ∀ w : BitVec 32, (beBytes 4 w.toNat).length = 4 := fun w => (List.length_reverse).trans (leBytes_length 4 _)
  rw [List.length_flatMap, List.map_congr_left (fun w _ => h4 w), List.map_const', List.sum_replicate, h8]
  rfl

theorem authAnswer_length (key nonce n origin : Nat) : (authAnswer key nonce n origin).length = 16 := by
  unfold authAnswer hmac
  rw [List.length_take, sha256_length]
  rfl

/-! ### SESSION_OPEN (R563, R566) -/

theorem formedOp_sessOpen : FormedOp .sessOpen := ⟨nofun, nofun, rfl⟩

/-- The record of a session opened now by r, its challenge a free value. -/
def firstSession (r : Req) (free dt : Nat) : Session :=
  { origin := r.origin, node := r.node, nonce := Config.freeValue free % 2 ^ 128, opened := dt, last := dt }

/-- State u with a free value taken and the first session reserved. -/
def sessionFirst (r : Req) (s : State) : State :=
  { s with free := s.free + 1, sessions := [(1, firstSession r s.free s.dt)] }

theorem sessionFirst_spec (r : Req) (s : State) : let t := sessionFirst r s
    t.sessions = [(1, firstSession r s.free s.dt)] ∧ t.free = s.free + 1 ∧ Alter (2 ^ 68 ||| 2 ^ 80) s t := by
  intro t
  refine ⟨rfl, rfl, ?_⟩
  have h1 : Alter (2 ^ 68 ||| 2 ^ 80) s { s with free := s.free + 1 } := (alter_free _ _ (Nat.le_succ _)).mono rfl
  exact h1.and ((alter_sessions _ _ fun _ => ⟨rfl, by simp⟩).mono rfl)

theorem sessionOpen_first {r : Req} {s : State} (hkey : s.key.isSome = true)
    (hlock : (AMap.getD s.lockouts (pathKey r) {}).until_ = 0) (hs : s.sessions = []) : sessionOpen r s =
      ⟨⟨St.ok, leBytes 1 1 ++ leBytes 16 (Config.freeValue s.free % 2 ^ 128) ++ leBytes 8 Config.uid.toNat⟩, true, sessionFirst r s⟩ := by
  obtain ⟨k, hk⟩ := Option.isSome_iff_exists.mp hkey
  unfold sessionOpen sessionFirst firstSession
  simp only [hk, hlock, hs, Option.isNone_some, bne_self_eq_false, Bool.false_eq_true, if_false, List.length_nil, freeSession, draw_spec]
  rfl

theorem sessionOpen_reserves (e : Nat) {r : Req} {s : State} (h : Takes r s) (hkey : s.key.isSome = true)
    (hlock : (AMap.getD s.lockouts (pathKey r) {}).until_ = 0) (hs : s.sessions = []) (h0 : r.session = 0) :
    Answers (.sessionOpen e r) s fun t =>
       t.sessions = [(1, { origin := r.origin, node := r.node, nonce := Config.freeValue s.free % 2 ^ 128, opened := t.dt, last := t.dt })] ∧
       t.free = s.free + 1 ∧ Replied r 0x30 St.ok (leBytes 1 1 ++ leBytes 16 (Config.freeValue s.free % 2 ^ 128) ++
         leBytes 8 Config.uid.toNat) s t := by
  refine answers_served (go := stepGo) rfl rfl h formedOp_sessOpen fun u hu => ?_
  have hfree : u.free = s.free := hu.beside.free rfl
  have hrun : opRun stepGo r .sessOpen u = sessionOpen r u := rfl
  have hopen := sessionOpen_first (r := r) (s := u) (by rw [hu.beside.key rfl]; exact hkey) (by rw [hu.beside.lockouts rfl]; exact hlock)
    (by rw [hu.beside.sessions rfl]; exact hs)
  obtain ⟨x1, x2, x3⟩ := sessionFirst_spec r u
  rw [hfree] at hopen x1 x2
  generalize sessionFirst r u = x at *
  refine ⟨_, _, _, x, hrun.trans hopen, x3.ports rfl, fun t hreply hc => ⟨?_, (hc.beside.free rfl).trans x2, hreply⟩⟩
  have hnone : AMap.get? x.sessions r.session = none := by
    rw [x1, h0]
    rfl
  have hdt : t.dt = u.dt := (hc.beside.dt rfl).trans (x3.dt rfl)
  rw [hc.sessions hnone, x1, hdt]
  rfl

theorem sessionOpen_keyless (e : Nat) {r : Req} {s : State} (h : Takes r s) (hkey : s.key = none) :
    Answers (.sessionOpen e r) s fun t => Replied r 0x30 St.denied [] s t ∧ Answered [] s t := by
  refine answers_served (go := stepGo) rfl rfl h formedOp_sessOpen fun u hu => ?_
  have hrun : opRun stepGo r .sessOpen u = sessionOpen r u := rfl
  have hopen : sessionOpen r u = .refuse St.denied u := by
    unfold sessionOpen
    rw [hu.beside.key rfl, hkey]
    rfl
  exact ⟨_, _, _, u, hrun.trans hopen, rfl, fun t hreply hc => ⟨hreply, hc.answered hu (Alter.refl _ u) (OnlyRegs.refl _ u)⟩⟩

/-! ### SESSION_AUTH (R564, R565) -/

theorem formedOp_auth {b : List Byte} (h : b.length = 16) : FormedOp (.sessAuth b) :=
  ⟨nofun, nofun, by simp [opForm, h]⟩

/-- The session is open, told and entered in the audit log. -/
def sessionOpened (r : Req) (x : Session) (s : State) : State :=
  (({ s with sessions := AMap.ins s.sessions r.session { x with auth := true, last := s.dt } } : State).raise
    EV.SESSION_OPEN 0xFF []).auditAdd (auditOf r 7 0 0 0 0 St.ok)

theorem sessionOpened_spec (r : Req) (x : Session) (s : State) : let t := sessionOpened r x s
    (AMap.get? t.sessions r.session).map (·.auth) = some true ∧ t.ports = s.ports ∧
    (LogReady s → Logs EV.SESSION_OPEN 0xFF s t) := by
  intro t
  unfold t sessionOpened
  have hx : ∀ m, ({ s with sessions := m } : State).sessions = m ∧ ({ s with sessions := m } : State).ports = s.ports ∧
      ({ s with sessions := m } : State).ev = s.ev ∧ ({ s with sessions := m } : State).boot = s.boot := fun _ => ⟨rfl, rfl, rfl, rfl⟩
  obtain ⟨h1, h2, h3, h4⟩ := hx (AMap.ins s.sessions r.session { x with auth := true, last := s.dt })
  generalize ({ s with sessions := AMap.ins s.sessions r.session { x with auth := true, last := s.dt } } : State) = y at *
  have hr := alter_raise EV.SESSION_OPEN 0xFF [] y
  have ha := alter_auditAdd (auditOf r 7 0 0 0 0 St.ok) (y.raise EV.SESSION_OPEN 0xFF [])
  refine ⟨?_, (ha.ports rfl).trans ((hr.ports rfl).trans h2), fun hl => ?_⟩
  · rw [ha.sessions rfl, hr.sessions rfl, h1, AMap.get?_ins_same]
    rfl
  · exact ((State.raise_logs EV.SESSION_OPEN 0xFF [] y (hl.congr h4 h3)).of_ev h3).to_ev (ha.ev rfl)

theorem sessionAuth_right {r : Req} {k : Nat} {x : Session} {s : State} (hk : s.key = some k)
    (hx : AMap.get? s.sessions r.session = some x) (ha : x.auth = false) (ho : x.origin = r.origin) (hn : x.node = r.node)
    (hdt : s.dt ≤ x.opened + 2000000000) : sessionAuth r (authAnswer k x.nonce r.session r.origin) s =
      ⟨⟨St.ok, []⟩, true, sessionOpened r x s⟩ := by
  have hgood : (!x.auth && x.origin == r.origin && x.node == r.node && decide (s.dt ≤ x.opened + 2000000000) &&
      authAnswer k x.nonce r.session r.origin == authAnswer k x.nonce r.session r.origin) = true := by
    simp [ha, ho, hn, hdt]
  unfold sessionAuth
  extract_lets n good
  have hg : good = true := by
    unfold good
    rw [show AMap.get? s.sessions n = some x from hx, hk]
    exact hgood
  clear_value good
  rw [hg, show AMap.get? s.sessions n = some x from hx]
  rfl

theorem sessionAuth_opens (e : Nat) {k : Nat} {r : Req} {x : Session} {s : State} (h : Takes { r with session := 0 } s)
    (hk : s.key = some k) (hx : AMap.get? s.sessions r.session = some x) (ha : x.auth = false) (ho : x.origin = r.origin)
    (hn : x.node = r.node) (hdt : s.dt + e ≤ x.opened + 2000000000) :
    Answers (.sessionAuth e r (authAnswer k x.nonce r.session r.origin)) s fun t =>
       (AMap.get? t.sessions r.session).map (·.auth) = some true ∧ (LogReady s → Logs EV.SESSION_OPEN 0xFF s t) ∧
       Replied r 0x31 St.ok [] s t := by
  have had := admits_of_takes h
  have hadmit : Admits r s := ⟨had.run, had.image, had.path, had.waiting, had.held, had.room, had.seq⟩
  have hopen : sessionOpenTo s (askFor r (.sessAuth (authAnswer k x.nonce r.session r.origin))) = true := by
    unfold sessionOpenTo
    simp [askFor, hx, ha, opCode]
  refine answers_admitted (go := stepGo) rfl rfl hadmit hopen (kept_of_takes h) (formedOp_auth (authAnswer_length ..)) fun u hu => ?_
  have hdtu : u.dt ≤ x.opened + 2000000000 := by
    have hle : u.dt ≤ s.dt + e := by
      rw [hu.dt]
      unfold State.tick
      split
      · exact Nat.le_refl _
      · exact Nat.le_add_right _ _
    omega
  have hrun : opRun stepGo r (.sessAuth (authAnswer k x.nonce r.session r.origin)) u =
      sessionAuth r (authAnswer k x.nonce r.session r.origin) u := rfl
  have hauth := sessionAuth_right (r := r) (x := x) (s := u) ((hu.beside.key rfl).trans hk) (by rw [hu.beside.sessions rfl]; exact hx)
    ha ho hn hdtu
  obtain ⟨x1, x2, x3⟩ := sessionOpened_spec r x u
  generalize sessionOpened r x u = w at *
  refine ⟨_, _, _, w, hrun.trans hauth, x2, fun t hreply hc => ⟨(hc.auth _).trans x1, fun hl => ?_, hreply⟩⟩
  exact ((x3 (hu.logReady hl)).of_ev (hu.beside.ev rfl)).to_ev (hc.beside.ev rfl)

/-! ### SESSION_CLOSE (R567) -/

theorem formedOp_close : FormedOp .sessClose := ⟨nofun, nofun, rfl⟩

/-- A session that is open ends, and SERVICE goes on where it is another's. -/
theorem sessionEnd_closes {n : Nat} {x : Session} {s : State} (hx : AMap.get? s.sessions n = some x) (ha : x.auth = true)
    (hn : s.service ≠ n) : let t := sessionEnd n 1 s
    AMap.get? t.sessions n = none ∧ t.ports = s.ports ∧ t.service = s.service ∧ (LogReady s → Logs EV.SESSION_END 0xFF s t) := by
  intro t
  unfold t sessionEnd
  rw [hx]
  simp only [ha, Bool.not_true, Bool.false_eq_true, if_false]
  rw [if_neg (show ¬(1 : Nat) = 2 by decide)]
  have hy : ∀ m, ({ s with sessions := m } : State).sessions = m ∧ ({ s with sessions := m } : State).ports = s.ports ∧
      ({ s with sessions := m } : State).ev = s.ev ∧ ({ s with sessions := m } : State).boot = s.boot ∧
      ({ s with sessions := m } : State).service = s.service := fun _ => ⟨rfl, rfl, rfl, rfl, rfl⟩
  obtain ⟨h1, h2, h3, h4, h5⟩ := hy (AMap.del s.sessions n)
  generalize ({ s with sessions := AMap.del s.sessions n } : State) = y at *
  have hr := alter_raise EV.SESSION_END 0xFF [(1, n), (1, 1)] y
  have hau := alter_auditAdd (auditOf { origin := x.origin, node := x.node, session := n } 8 0 0 0 0 St.ok)
    (y.raise EV.SESSION_END 0xFF [(1, n), (1, 1)])
  have hl : LogReady s → Logs EV.SESSION_END 0xFF s (y.raise EV.SESSION_END 0xFF [(1, n), (1, 1)]) := fun hl =>
    (State.raise_logs EV.SESSION_END 0xFF _ y (hl.congr h4 h3)).of_ev h3
  generalize y.raise EV.SESSION_END 0xFF [(1, n), (1, 1)] = v at *
  generalize v.auditAdd (auditOf { origin := x.origin, node := x.node, session := n } 8 0 0 0 0 St.ok) = w at *
  have hserv : w.service = s.service := (hau.service rfl).trans ((hr.service rfl).trans h5)
  rw [if_neg (by rw [hserv]; exact hn)]
  refine ⟨?_, (hau.ports rfl).trans ((hr.ports rfl).trans h2), hserv, fun h => (hl h).to_ev (hau.ev rfl)⟩
  rw [hau.sessions rfl, hr.sessions rfl, h1]
  exact AMap.get?_del_same _ _

theorem sessionClose_ends (e : Nat) {r : Req} {s : State} (h : Takes r s) (hp : privileged s r = true) (hn : s.service ≠ r.session) :
    Answers (.sessionClose e r) s fun t => AMap.get? t.sessions r.session = none ∧ (LogReady s → Logs EV.SESSION_END 0xFF s t) ∧
       Replied r 0x32 St.ok [] s t ∧ t.service = s.service := by
  obtain ⟨x, hx, ha⟩ : ∃ x, AMap.get? s.sessions r.session = some x ∧ x.auth = true := by
    unfold privileged at hp
    cases hg : AMap.get? s.sessions r.session with
    | none => simp [hg] at hp
    | some x =>
      simp only [hg, Bool.and_eq_true] at hp
      exact ⟨x, rfl, hp.1.1.1⟩
  refine answers_served (go := stepGo) rfl rfl h formedOp_close fun u hu => ?_
  have hserv : u.service = s.service := hu.beside.service rfl
  obtain ⟨x1, x2, x3, x4⟩ := sessionEnd_closes (s := u) (n := r.session) (by rw [hu.beside.sessions rfl]; exact hx) ha
    (by rw [hserv]; exact hn)
  have hrun : opRun stepGo r .sessClose u = ⟨⟨St.ok, []⟩, true, sessionEnd r.session 1 u⟩ := rfl
  generalize sessionEnd r.session 1 u = w at *
  refine ⟨_, _, _, w, hrun, x2, fun t hreply hc => ⟨?_, fun hl => ?_, hreply, (hc.beside.service rfl).trans (x3.trans hserv)⟩⟩
  · rw [hc.sessions x1, x1]
  · exact ((x4 (hu.logReady hl)).of_ev (hu.beside.ev rfl)).to_ev (hc.beside.ev rfl)

/-! ### KEY_PROGRAM (R570) -/

theorem formedOp_key {key : List Byte} (h : key.length = 32) (crc : Nat) : FormedOp (.keyProg key crc) :=
  ⟨nofun, nofun, by simp [opForm, h]⟩

theorem crc32c_lt (l : List Byte) : crc32c l < 2 ^ 32 := BitVec.isLt _

theorem Alter.patchKey {s t : State} (a : Alter (requestM ||| 2 ^ 84) s t) : ({ t with key := s.key } : State) =
    { s with el := t.el, dt := t.dt, regs := t.regs, ports := t.ports, lastReq := t.lastReq, sessions := t.sessions
             audit := t.audit, can := t.can } := by
  have h : t = { s with el := t.el, dt := t.dt, regs := t.regs, ports := t.ports, lastReq := t.lastReq, sessions := t.sessions
                        audit := t.audit, can := t.can, key := t.key } := a.eq_patch
  generalize t.el = a1, t.dt = a2, t.regs = a3, t.ports = a4, t.lastReq = a5, t.sessions = a6, t.audit = a7, t.can = a8,
    t.key = a9 at h
  subst h
  rfl

theorem key_programmed (e : Nat) {r : Req} {key : List Byte} {s : State} (h : Takes r s) (hk : s.key = none)
    (hm : s.mode = Mode.ready) (hlen : key.length = 32) :
    Answers (.keyProgram e r key (BitVec.ofNat 32 (crc32c key))) s fun t =>
       t.key = some (ofLe key) ∧ Replied r 0x34 St.ok [] s t ∧ Answered [] s { t with key := s.key } := by
  have hcrc : (BitVec.ofNat 32 (crc32c key)).toNat = crc32c key := by
    rw [BitVec.toNat_ofNat]
    exact Nat.mod_eq_of_lt (crc32c_lt key)
  refine answers_served (go := stepGo) (op := .keyProg key (BitVec.ofNat 32 (crc32c key)).toNat) rfl rfl h (formedOp_key hlen _)
    fun u hu => ?_
  have hrun : opRun stepGo r (.keyProg key (BitVec.ofNat 32 (crc32c key)).toNat) u =
      keyProgram key (BitVec.ofNat 32 (crc32c key)).toNat u := rfl
  have hkey : keyProgram key (BitVec.ofNat 32 (crc32c key)).toNat u = ⟨⟨St.ok, []⟩, true, { u with key := some (ofLe key) }⟩ := by
    unfold keyProgram
    rw [hcrc, if_neg (by rw [hu.beside.key rfl, hk]; decide), if_neg (by rw [hu.mode, hm]; decide), if_neg (by simp)]
  have hx : Alter (2 ^ 84) u { u with key := some (ofLe key) } := alter_key _ _
  have hset : ∀ q, ({ u with key := q } : State).key = q ∧ ({ u with key := q } : State).regs = u.regs := fun _ => ⟨rfl, rfl⟩
  obtain ⟨x1, x2⟩ := hset (some (ofLe key))
  generalize ({ u with key := some (ofLe key) } : State) = w at *
  refine ⟨_, _, _, w, hrun.trans hkey, hx.ports rfl, fun t hreply hc => ⟨(hc.beside.key rfl).trans x1, hreply, ?_, fun j hj => ?_⟩⟩
  · exact (((hu.beside.mono (m := requestM ||| 2 ^ 84) rfl).and (hx.mono rfl)).and (hc.beside.mono rfl)).patchKey
  · have hj' : j ∉ [R.CMD_PORT_STAT 0, R.CMD_PORT_STAT 1] := by
      simp only [portRegs, List.mem_append, List.mem_cons, List.not_mem_nil, not_or] at hj ⊢
      tauto
    exact (hc.reg j).trans ((Alter.reg_of_regs x2 j).trans (hu.reg hj'))

theorem key_refused (e : Nat) {r : Req} {key : List Byte} (crc : BitVec 32) {s : State} (h : Takes r s) (hk : s.key.isSome = true)
    (hlen : key.length = 32) :
    Answers (.keyProgram e r key crc) s fun t => Replied r 0x34 St.denied [] s t ∧ Answered [] s t := by
  refine answers_served (go := stepGo) (op := .keyProg key crc.toNat) rfl rfl h (formedOp_key hlen _) fun u hu => ?_
  have hrun : opRun stepGo r (.keyProg key crc.toNat) u = keyProgram key crc.toNat u := rfl
  have hkey : keyProgram key crc.toNat u = .refuse St.denied u := by
    unfold keyProgram
    rw [if_pos (by rw [hu.beside.key rfl]; exact hk)]
  exact ⟨_, _, _, u, hrun.trans hkey, rfl, fun t hreply hc => ⟨hreply, hc.answered hu (Alter.refl _ u) (OnlyRegs.refl _ u)⟩⟩

end Sys2Proof.Machine
end

section
/-! SUPPORT. Mode requests as a port executes them (R41 to R45, R73, R74), and a request for SAFE (R44). -/

namespace Sys2Proof.Machine

set_option Elab.async false

/-! ### The entry conditions as a request finds them (R41) -/

section
variable {v u : State} (hr : ∀ i, i < 0x100 ∨ 0x200 ≤ i → u.reg i = v.reg i)
include hr

theorem fld_same (i : Nat) (f : Fld) (hi : i < 0x100 ∨ 0x200 ≤ i) : u.fld i f = v.fld i f := State.fld_of_reg (hr i hi) f

theorem bit_same (i : Nat) (f : Fld) (hi : i < 0x100 ∨ 0x200 ≤ i) : u.bit i f = v.bit i f := State.bit_of_reg (hr i hi) f

theorem islUsed_same (n : Nat) : islUsed u n = islUsed v n := bit_same hr _ _ (.inr (by unfold R.ISL_CFG; omega))

theorem lockedOut_same (n : Nat) : lockedOut u n = lockedOut v n := bit_same hr _ _ (.inr (by unfold R.ISL_STAT; omega))

theorem linkUp_same (n : Nat) : linkUp u n = linkUp v n := bit_same hr _ _ (.inr (by unfold R.ISL_STAT; omega))

theorem allCal_same : allCal u = allCal v := by
  unfold allCal
  refine congrArg (List.all _) (funext fun n => ?_)
  rw [islUsed_same hr, linkUp_same hr, bit_same hr _ _ (.inr (by unfold R.ISL_STAT; omega))]

theorem linkOut_same : linkOut u = linkOut v := by
  unfold linkOut
  rw [fld_same hr R.DCL_STAT _ (by decide), fld_same hr R.DCL_HYS _ (by decide), bit_same hr R.DCL_STAT _ (by decide),
    bit_same hr R.DCL_STAT _ (by decide)]

theorem atOrAboveNas_same (hsel : u.sel = v.sel) (hdt : u.dt = v.dt) (m : Nat) : atOrAboveNas u m = atOrAboveNas v m := by
  unfold atOrAboveNas speedUnknown State.selOf
  rw [fld_same hr (R.PROT_SS_SPEED m) _ (.inr (by unfold R.PROT_SS_SPEED; omega)), hsel, hdt,
    fld_same hr (R.PROT_SS_SPEED m) _ (.inr (by unfold R.PROT_SS_SPEED; omega)),
    fld_same hr (R.PROT_SS_CFG m) _ (.inr (by unfold R.PROT_SS_CFG; omega))]

omit hr in
theorem convs_same (hp : u.plant = v.plant) : convs u = convs v := by
  unfold convs
  rw [hp]

omit hr in
theorem preFailed_same (hp : u.plant = v.plant) (hc : u.conv = v.conv) (l : List Nat) : preFailed u l = preFailed v l := by
  unfold preFailed State.convOf
  rw [convs_same hp, hc]

theorem entryBits_same (hp : u.plant = v.plant) (hc : u.conv = v.conv) (hsel : u.sel = v.sel) (hdt : u.dt = v.dt) :
    entryBits u = entryBits v := by
  have hm : u.mode = v.mode := State.mode_of_reg (hr _ (by decide))
  have hcs := convs_same hp
  have h1 : (List.range 48).any (fun n => islUsed u n && lockedOut u n) = (List.range 48).any fun n => islUsed v n && lockedOut v n :=
    congrArg (List.any _) (funext fun n => by rw [islUsed_same hr, lockedOut_same hr])
  have h2 : convsKind u 5 = convsKind v 5 := by
    unfold convsKind
    rw [hcs]
  have h3 : (convs u).any (fun c => (u.convOf c.index).verdict.isNone) = (convs v).any fun c => (v.convOf c.index).verdict.isNone := by
    unfold State.convOf
    rw [hcs, hc]
  have h4 : [0, 1].any (fun m => (machConv u m).isSome && atOrAboveNas u m) =
      [0, 1].any fun m => (machConv v m).isSome && atOrAboveNas v m :=
    congrArg (List.any _) (funext fun m => by
      rw [atOrAboveNas_same hr hsel hdt]
      unfold machConv
      rw [hcs])
  unfold entryBits refSettled stoBoth
  rw [hm, h1, h2, h3, h4, hp, allCal_same hr, linkOut_same hr, preFailed_same hp hc, fld_same hr R.DEV_ENTRY_BLOCK _ (by decide),
    bit_same hr R.ACT_LV_STAT _ (by decide), bit_same hr R.ADC_REF_CTRL _ (by decide), bit_same hr R.PROT_PRE_STAT _ (by decide),
    bit_same hr R.DEV_STO_STAT _ (by decide), bit_same hr R.DEV_STO_STAT _ (by decide), fld_same hr R.DEV_SAFE_CAUSE _ (by decide)]

theorem unmet_same (hp : u.plant = v.plant) (hc : u.conv = v.conv) (hsel : u.sel = v.sel) (hdt : u.dt = v.dt) (m : Nat) :
    unmet u m = unmet v m := by
  have hm : u.mode = v.mode := State.mode_of_reg (hr _ (by decide))
  unfold unmet
  rw [hm, entryBits_same hr hp hc hsel hdt, preFailed_same hp hc]

end

theorem Arrived.unmet {e : Nat} {s u : State} (h : Arrived e s u) (m : Nat) : unmet u m = unmet (s.tick e) m :=
  unmet_same (v := s.tick e) (fun i hi => h.reg (by simp [R.CMD_PORT_STAT]; omega)) (h.beside.plant rfl) (h.beside.conv rfl) (h.beside.sel rfl) h.dt m

/-! ### A mode request executed -/

theorem formedOp_mode {m : Nat} (h : m ≠ 5) : FormedOp (.modeReq m) := ⟨nofun, fun hk => h (Op.modeReq.inj hk), rfl⟩

theorem opRun_mode {go : State → State} {r : Req} {m : Nat} {s : State} (h : m < 5) :
    opRun go r (.modeReq m) s = ⟨⟨(modeRequest r m s).1, []⟩, true, (modeRequest r m s).2⟩ := by
  unfold opRun
  rw [if_neg (by simp [opRange]; omega)]
  exact if_neg (show ¬m = 5 by omega)

/-- A transition begun shows its target. -/
theorem beginTrans_spec (m : Nat) (y : Trans) (s : State) : let t := beginTrans m y s
    t.trans = some y ∧ t.bit R.DEV_MODE F.DEV_MODE.TRANSIT = true ∧
    t.fld R.DEV_MODE F.DEV_MODE.TARGET = m % 2 ^ F.DEV_MODE.TARGET.width ∧ t.mode = s.mode ∧ OnlyRegs [R.DEV_MODE] s t := by
  intro t
  unfold t beginTrans
  have h1 : ((s.setBit R.DEV_MODE F.DEV_MODE.TRANSIT true).setFld R.DEV_MODE F.DEV_MODE.TARGET m).bit R.DEV_MODE F.DEV_MODE.TRANSIT = true := by
    rw [State.bit_setFld_beside _ (by decide), State.bit_setBit_eq _ (by decide)]
  have h2 : ((s.setBit R.DEV_MODE F.DEV_MODE.TRANSIT true).setFld R.DEV_MODE F.DEV_MODE.TARGET m).fld R.DEV_MODE F.DEV_MODE.TARGET =
      m % 2 ^ F.DEV_MODE.TARGET.width := State.fld_setFld_eq _ (by decide)
  have h3 : ((s.setBit R.DEV_MODE F.DEV_MODE.TRANSIT true).setFld R.DEV_MODE F.DEV_MODE.TARGET m).mode = s.mode := by
    unfold State.mode
    rw [State.fld_setFld_beside _ (by decide), State.fld_setBit_beside _ (by decide)]
  have h4 : OnlyRegs [R.DEV_MODE] s ((s.setBit R.DEV_MODE F.DEV_MODE.TRANSIT true).setFld R.DEV_MODE F.DEV_MODE.TARGET m) :=
    ((OnlyRegs.refl _ s).setBit _ _ (by decide)).setFld _ _ (by decide)
  generalize (s.setBit R.DEV_MODE F.DEV_MODE.TRANSIT true).setFld R.DEV_MODE F.DEV_MODE.TARGET m = x at *
  have hr : ({ x with trans := some y } : State).regs = x.regs := rfl
  exact ⟨rfl, (State.bit_of_reg (Alter.reg_of_regs hr _) _).trans h1, (State.fld_of_reg (Alter.reg_of_regs hr _) _).trans h2,
    (State.mode_of_reg (Alter.reg_of_regs hr _)).trans h3, h4.congr hr⟩

theorem Alter.patchTrans {s t : State} (a : Alter (requestM ||| 2 ^ 70 ||| 2 ^ 32) s t) : ({ t with trans := s.trans } : State) =
    { s with el := t.el, dt := t.dt, regs := t.regs, ports := t.ports, lastReq := t.lastReq, sessions := t.sessions
             audit := t.audit, can := t.can } := by
  have h : t = { s with el := t.el, dt := t.dt, regs := t.regs, ports := t.ports, lastReq := t.lastReq, sessions := t.sessions
                        audit := t.audit, can := t.can, trans := t.trans } := a.eq_patch
  generalize t.el = a1, t.dt = a2, t.regs = a3, t.ports = a4, t.lastReq = a5, t.sessions = a6, t.audit = a7, t.can = a8,
    t.trans = a9 at h
  subst h
  rfl

/-- The registers that an answered request and its effect leave. -/
theorem Closed.onlyRegs {r : Req} {l : List Nat} {e : Nat} {s u x t : State} (h : Closed r x t) (hu : Arrived e s u)
    (hl : OnlyRegs l u x) : OnlyRegs (portRegs ++ l) s t := by
  intro j hj
  have hj' : j ∉ l ∧ j ∉ [R.CMD_PORT_STAT 0, R.CMD_PORT_STAT 1] := by
    simp only [portRegs, List.mem_append, List.mem_cons, List.not_mem_nil, not_or] at hj ⊢
    tauto
  exact (h.reg j).trans ((hl j hj'.1).trans (hu.reg hj'.2))

/-- A mode request that begins a transition. -/
theorem mode_begins (e : Nat) {r : Req} {m : Fin 8} {y : Nat → Trans} {s : State} (h : Takes r s) (hm : m.val < 5)
    (hrun : ∀ u, Arrived e s u → modeRequest r m u = (St.ok, beginTrans m (y u.dt) u)) :
    Answers (.modeRequest e r m) s fun t => t.trans = some (y t.dt) ∧ t.bit R.DEV_MODE F.DEV_MODE.TRANSIT = true ∧
      t.fld R.DEV_MODE F.DEV_MODE.TARGET = m ∧ t.mode = s.mode ∧ Replied r 0x20 St.ok [] s t ∧
      Answered [R.DEV_MODE] s { t with trans := s.trans } := by
  refine answers_served (go := stepGo) (op := .modeReq m) rfl rfl h (formedOp_mode (by omega)) fun u hu => ?_
  have hop := opRun_mode (go := stepGo) (r := r) (s := u) hm
  rw [hrun u hu] at hop
  obtain ⟨x1, x2, x3, x4, x5⟩ := beginTrans_spec m (y u.dt) u
  have hx := alter_beginTrans m (y u.dt) u
  generalize beginTrans m (y u.dt) u = x at *
  refine ⟨_, _, _, x, hop, hx.ports rfl, fun t hreply hc => ⟨?_, ?_, ?_, ?_, hreply, ?_, hc.onlyRegs hu x5⟩⟩
  · rw [hc.beside.trans rfl, x1, hc.beside.dt rfl, hx.dt rfl]
  · rw [hc.bit, x2]
  · rw [hc.fld, x3]
    exact Nat.mod_eq_of_lt m.isLt
  · rw [hc.mode, x4, hu.mode]
  · exact (((hu.beside.mono (m := requestM ||| 2 ^ 70 ||| 2 ^ 32) rfl).and (hx.mono rfl)).and (hc.beside.mono rfl)).patchTrans

/-- A mode request that changes nothing. -/
theorem mode_stays (e : Nat) {r : Req} {m : Fin 8} {st : Nat} {s : State} (h : Takes r s) (hm : m.val < 5)
    (hrun : ∀ u, Arrived e s u → modeRequest r m u = (st, u)) :
    Answers (.modeRequest e r m) s fun t => Replied r 0x20 st [] s t ∧ Answered [] s t := by
  refine answers_served (go := stepGo) (op := .modeReq m) rfl rfl h (formedOp_mode (by omega)) fun u hu => ?_
  have hop := opRun_mode (go := stepGo) (r := r) (s := u) hm
  rw [hrun u hu] at hop
  exact ⟨_, _, _, u, hop, rfl, fun t hreply hc => ⟨hreply, hc.answered hu (Alter.refl _ u) (OnlyRegs.refl _ u)⟩⟩

theorem mode_unknown (e : Nat) {r : Req} {m : Fin 8} {s : State} (h : Takes r s) (hm : 5 < m.val) :
    Answers (.modeRequest e r m) s fun t => Replied r 0x20 St.badParam [] s t ∧ Answered [] s t := by
  refine answers_served (go := stepGo) (op := .modeReq m) rfl rfl h (formedOp_mode (by omega)) fun u hu => ?_
  have hop : opRun stepGo r (.modeReq m) u = .refuse St.badParam u := opRun_badRange (by simp [opRange]; omega)
  exact ⟨_, _, _, u, hop, rfl, fun t hreply hc => ⟨hreply, hc.answered hu (Alter.refl _ u) (OnlyRegs.refl _ u)⟩⟩

/-! ### What a mode request gives -/

section
variable {r : Req} {m : Nat} {s : State} (ht : s.trans = none)
include ht

theorem modeRequest_same (hm : m = s.mode) : modeRequest r m s = (St.ok, s) := by
  unfold modeRequest
  rw [ht]
  exact (if_neg (by decide)).trans (if_pos hm)

theorem modeRequest_stop (hm : s.mode = Mode.drive) : modeRequest r Mode.ready s =
    (St.ok, beginTrans Mode.ready { began := s.dt, req := some r, stop := true } s) := by
  unfold modeRequest
  simp [ht, hm]

theorem modeRequest_entry (hm : s.mode = Mode.ready) (hk : m = Mode.drive ∨ m = Mode.charge) : modeRequest r m s =
    if (unmet s m).isEmpty then (St.ok, beginTrans m { began := s.dt, req := some r } s) else (refusal (unmet s m), s) := by
  unfold modeRequest
  rcases hk with rfl | rfl
  · simp [ht, hm]
  · simp [ht, hm]

theorem modeRequest_exit (hm : s.mode = Mode.safe) : modeRequest r Mode.ready s =
    if (unmet s Mode.ready).isEmpty then (St.ok, beginTrans Mode.ready { began := s.dt, req := some r } s)
    else (refusal (unmet s Mode.ready), s) := by
  unfold modeRequest
  simp [ht, hm]

end

/-! ### A request held (R73) -/

theorem holdMode_first {r : Req} {m : Nat} {s : State} (h : s.heldMode = none) :
    holdMode r m s = showHeld { s with heldMode := some ⟨r, m, s.dt⟩ } := by
  unfold holdMode
  rw [h]

theorem showHeld_spec (s : State) : let t := showHeld s
    t.heldMode = s.heldMode ∧ t.trans = s.trans ∧ OnlyRegs [R.DEV_QUEUED] s t ∧
    t.fld R.DEV_QUEUED F.DEV_QUEUED.MODE_REQ = (s.heldMode.elim 0 fun h => 8 + h.what % 8) % 2 ^ F.DEV_QUEUED.MODE_REQ.width := by
  have ha := alter_showHeld s
  refine ⟨ha.heldMode rfl, ha.trans rfl, ?_, ?_⟩
  · unfold showHeld
    exact ((OnlyRegs.refl _ s).setFld _ _ (by decide)).setFld _ _ (by decide)
  · unfold showHeld
    rw [State.fld_setFld_beside _ (by decide), State.fld_setFld_eq _ (by decide)]
    cases s.heldMode with
    | none => rfl
    | some h => rfl

theorem Alter.patchHeld {s t : State} (a : Alter (requestM ||| 2 ^ 71 ||| 2 ^ 41) s t) (hs : s.heldMode = none) :
    ({ t with heldMode := none } : State) =
    { s with el := t.el, dt := t.dt, regs := t.regs, ports := t.ports, lastReq := t.lastReq, sessions := t.sessions
             audit := t.audit, can := t.can } := by
  have h : t = { s with el := t.el, dt := t.dt, regs := t.regs, ports := t.ports, lastReq := t.lastReq, sessions := t.sessions
                        audit := t.audit, can := t.can, heldMode := t.heldMode } := a.eq_patch
  rw [← hs]
  generalize t.el = a1, t.dt = a2, t.regs = a3, t.ports = a4, t.lastReq = a5, t.sessions = a6, t.audit = a7, t.can = a8,
    t.heldMode = a9 at h
  subst h
  rfl

theorem mode_held (e : Nat) {r : Req} {m : Fin 8} {s : State} (h : Takes r s) (ht : s.trans.isSome = true)
    (hh : s.heldMode = none) (hm : m.val < 5) : Answers (.modeRequest e r m) s fun t =>
       t.heldMode = some { req := r, what := m, stamp := t.dt } ∧ t.trans = s.trans ∧
       t.fld R.DEV_QUEUED F.DEV_QUEUED.MODE_REQ = 8 + m ∧
       Replied r 0x20 St.queued [] s t ∧ Answered [R.DEV_QUEUED] s { t with heldMode := none } := by
  refine answers_served (go := stepGo) (op := .modeReq m) rfl rfl h (formedOp_mode (by omega)) fun u hu => ?_
  have hop := opRun_mode (go := stepGo) (r := r) (s := u) hm
  have hreq : modeRequest r m u = (St.queued, holdMode r m u) := by
    unfold modeRequest
    rw [hu.beside.trans rfl, ht]
    exact if_pos rfl
  rw [hreq, holdMode_first ((hu.beside.heldMode rfl).trans hh)] at hop
  have hset : ∀ q, ({ u with heldMode := q } : State).heldMode = q ∧ ({ u with heldMode := q } : State).trans = u.trans ∧
      ({ u with heldMode := q } : State).regs = u.regs := fun _ => ⟨rfl, rfl, rfl⟩
  have hy : ∀ q, Alter (2 ^ 71) u { u with heldMode := q } := fun q => alter_heldMode _ _
  obtain ⟨y1, y2, y3⟩ := hset (some ⟨r, m, u.dt⟩)
  have hyu := hy (some ⟨r, m, u.dt⟩)
  generalize ({ u with heldMode := some ⟨r, m, u.dt⟩ } : State) = y at *
  obtain ⟨x1, x2, x3, x4⟩ := showHeld_spec y
  have hx := alter_showHeld y
  generalize showHeld y = x at *
  have honly : OnlyRegs [R.DEV_QUEUED] u x := OnlyRegs.trans (.of_regs y3) x3
  refine ⟨_, _, _, x, hop, (hx.ports rfl).trans (hyu.ports rfl), fun t hreply hc => ⟨?_, ?_, ?_, hreply, ?_, hc.onlyRegs hu honly⟩⟩
  · rw [hc.beside.heldMode rfl, x1, y1, hc.beside.dt rfl, hx.dt rfl, hyu.dt rfl]
  · rw [hc.beside.trans rfl, x2, y2, hu.beside.trans rfl]
  · rw [hc.fld, x4, y1]
    show (8 + m.val % 8) % 16 = 8 + m.val
    omega
  · exact ((((hu.beside.mono (m := requestM ||| 2 ^ 71 ||| 2 ^ 41) rfl).and (hyu.mono rfl)).and (hx.mono rfl)).and
      (hc.beside.mono rfl)).patchHeld hh

end Sys2Proof.Machine
end

section
/-! SUPPORT. The mode requests of a port that takes them (R41 to R45), and the request for SAFE, which acts at its arrival (R44). -/

namespace Sys2Proof.Machine

set_option Elab.async false

/-! ### Mode requests (R41, R42, R46) -/

theorem modeRequest_stops (e : Nat) {r : Req} {s : State} (h : Takes r s) (ht : s.trans = none) (hm : s.mode = Mode.drive) :
    Answers (.modeRequest e r 1) s fun t =>
       t.trans = some { began := t.dt, req := some r, stop := true } ∧ t.bit R.DEV_MODE F.DEV_MODE.TRANSIT = true ∧
       t.fld R.DEV_MODE F.DEV_MODE.TARGET = 1 ∧
       Replied r 0x20 St.ok [] s t ∧ Answered [R.DEV_MODE] s { t with trans := s.trans } := by
  obtain ⟨t, hstep, h1, h2, h3, -, h5, h6⟩ := mode_begins e (m := 1) (y := fun d => { began := d, req := some r, stop := true }) h (by decide)
    fun u hu => modeRequest_stop ((hu.beside.trans rfl).trans ht) (hu.mode.trans hm)
  exact ⟨t, hstep, h1, h2, h3, h5, h6⟩

theorem modeRequest_inForce (e : Nat) {r : Req} {m : Fin 8} {s : State} (h : Takes r s) (ht : s.trans = none) (hm : m.val = s.mode)
    (h5 : m.val ≠ 5) (h6 : m.val < 6) : Answers (.modeRequest e r m) s fun t => Replied r 0x20 St.ok [] s t ∧ Answered [] s t :=
  mode_stays e h (by omega) fun _ hu => modeRequest_same ((hu.beside.trans rfl).trans ht) (hm.trans hu.mode.symm)

section
variable (e : Nat) {r : Req} {m : Fin 8} {s : State} (h : Takes r s) (ht : s.trans = none)
include h ht

theorem modeRequest_enters (hm : s.mode = Mode.ready) (hk : m.val = Mode.drive ∨ m.val = Mode.charge) (hu : unmet (s.tick e) m = []) :
    Answers (.modeRequest e r m) s fun t =>
       t.trans = some { began := t.dt, req := some r } ∧ t.bit R.DEV_MODE F.DEV_MODE.TRANSIT = true ∧
       t.fld R.DEV_MODE F.DEV_MODE.TARGET = m ∧ t.mode = Mode.ready ∧
       Replied r 0x20 St.ok [] s t ∧ Answered [R.DEV_MODE] s { t with trans := s.trans } := by
  have h5 : m.val < 5 := by unfold Mode.drive Mode.charge at hk; omega
  rw [← hm]
  exact mode_begins e (y := fun d => { began := d, req := some r }) h h5 fun u hu' => by
    rw [modeRequest_entry ((hu'.beside.trans rfl).trans ht) (hu'.mode.trans hm) hk, hu'.unmet, hu]
    rfl

theorem modeRequest_refused (hm : s.mode = Mode.ready) (hk : m.val = Mode.drive ∨ m.val = Mode.charge) (hu : unmet (s.tick e) m ≠ []) :
    Answers (.modeRequest e r m) s fun t => Replied r 0x20 (refusal (unmet (s.tick e) m)) [] s t ∧ Answered [] s t := by
  have h5 : m.val < 5 := by unfold Mode.drive Mode.charge at hk; omega
  exact mode_stays e h h5 fun u hu' => by
    rw [modeRequest_entry ((hu'.beside.trans rfl).trans ht) (hu'.mode.trans hm) hk, hu'.unmet, if_neg (by simp [hu])]

theorem modeRequest_leavesSafe (hm : s.mode = Mode.safe) (hu : unmet (s.tick e) 1 = []) :
    Answers (.modeRequest e r 1) s fun t =>
       t.trans = some { began := t.dt, req := some r } ∧ t.bit R.DEV_MODE F.DEV_MODE.TRANSIT = true ∧
       t.fld R.DEV_MODE F.DEV_MODE.TARGET = 1 ∧ t.mode = Mode.safe ∧
       Replied r 0x20 St.ok [] s t ∧ Answered [R.DEV_MODE] s { t with trans := s.trans } := by
  rw [← hm]
  refine mode_begins e (m := 1) (y := fun d => { began := d, req := some r }) h (by decide) fun u hu' => ?_
  have hmet : unmet u Mode.ready = [] := (hu'.unmet 1).trans hu
  have hex := modeRequest_exit (r := r) ((hu'.beside.trans rfl).trans ht) (hu'.mode.trans hm)
  rw [hmet] at hex
  exact hex

end

/-! ### A request for SAFE (R44) -/

/-- The state in which a request for SAFE joins its port. -/
def safeAsked (r : Req) (s : State) : State :=
  if decide (s.mode = Mode.safe) && s.trans.isNone then countAsk (pathKey r) s else enterSafe Cause.cmd r (countAsk (pathKey r) s)

section
variable {r : Req} {s : State} (h : Admits r s)
include h

theorem countAsk_mode : (countAsk (pathKey r) s).mode = s.mode := State.mode_of_reg (countAsk_reg h.path s (by decide))

omit h in
theorem alter_safeAsked : Alter 84166232945507252418287484534784 s (safeAsked r s) := by
  have hc : Alter (2 ^ 67) s (countAsk (pathKey r) s) := alter_countAsk ..
  unfold safeAsked
  split
  · exact hc.mono rfl
  · exact (hc.mono rfl).and (alter_enterSafe ..)

theorem askEnters_safe : askEnters (askFor r .safeReq) s = (true, enqueue (pathKey r) (askFor r .safeReq) (safeAsked r s)) := by
  have hx := alter_safeAsked (r := r) (s := s)
  have hmode := countAsk_mode h
  have htrans : (countAsk (pathKey r) s).trans = s.trans := (alter_countAsk _ _).trans rfl
  have hroom : heldCount (safeAsked r s) (pathKey r) = heldCount s (pathKey r) := heldCount_congr (hx.ports rfl) (hx.can rfl) _
  have hasks : asksSafe (askFor r .safeReq) = true := by simp [asksSafe, askFor]
  unfold askEnters
  rw [if_neg (by simp [portsLive, h.run])]
  extract_lets k i c x
  have hxe : x = safeAsked r s := by
    have hc : c = countAsk (pathKey r) s := rfl
    unfold x safeAsked
    rw [hasks, hc, hmode, htrans]
    cases decide (s.mode = Mode.safe) && s.trans.isNone <;> rfl
  clear_value x
  subst hxe
  show (if 16 ≤ heldCount (safeAsked r s) (pathKey r) then (false, dropAsk (pathKey r) (safeAsked r s))
    else (true, enqueue (pathKey r) (askFor r .safeReq) (safeAsked r s))) = _
  rw [hroom, if_neg (Nat.not_le.mpr h.room)]

/-- It stands alone at its port, whatever its arrival has done besides. -/
theorem safeAsked_stands : Stands (askFor r .safeReq) (safeAsked r s) (enqueue (pathKey r) (askFor r .safeReq) (safeAsked r s)) := by
  have hx := alter_safeAsked (r := r) (s := s)
  have hport : (safeAsked r s).portOf (pathKey r) = s.portOf (pathKey r) := by
    unfold State.portOf
    rw [hx.ports rfl]
  generalize safeAsked r s = x at *
  have hu : (enqueue (pathKey r) (askFor r .safeReq) x).portOf (pathKey r) = _ := enqueue_portOf (pathKey r) (askFor r .safeReq) x
  constructor
  case waiting => exact (congrArg Port.waiting hu).trans (by simp [hport, h.waiting])
  case held => exact (congrArg Port.held hu).trans (by rw [hport]; exact h.held)
  case replies => exact (congrArg Port.replies hu :)
  case path => exact enqueue_answered _ _ _
  all_goals simp only [enqueue_dt, enqueue_audit, enqueue_lastReq, enqueue_sessions]

omit h in
theorem decideAsk_safe {go : State → State} {u : State} (hu : repeated u (pathKey r) (askFor r .safeReq) = none) :
    decideAsk go (pathKey r) (askFor r .safeReq) u = .reply ⟨St.ok, []⟩ true u := by
  unfold decideAsk
  rw [hu]
  rfl

end

/-- A request for SAFE has its reply, and what its arrival has done stands. -/
theorem safeRequest_answered (e : Nat) {r : Req} {s : State} {P : State → Prop} (h : Takes r s)
    (hP : ∀ t, Replied r 0x21 St.ok [] s t → Closed r (enqueue (pathKey r) (askFor r .safeReq) (safeAsked r (s.tick e))) t → P t) :
    Answers (.safeRequest e r) s P := by
  have ha := admits_tick e (admits_of_takes h)
  have hkept : outputsKept (s.tick e) = false := kept_of_takes h
  have hheld : ((s.tick e).portOf (pathKey r)).held = false := ha.held
  have hin := askEnters_safe ha
  have hst := safeAsked_stands ha
  have hx := alter_safeAsked (r := r) (s := s.tick e)
  obtain ⟨-, -, hnode⟩ := ha.path
  have hlast : (safeAsked r (s.tick e)).lastReq = (s.tick e).lastReq := hx.lastReq rfl
  have hports : (safeAsked r (s.tick e)).ports = s.ports := hx.ports rfl
  have hnew : repeated (enqueue (pathKey r) (askFor r .safeReq) (safeAsked r (s.tick e))) (pathKey r) (askFor r .safeReq) = none := by
    have hseq := ha.seq
    unfold repeated
    rw [hst.lastReq, hlast]
    cases hl : AMap.get? (s.tick e).lastReq (pathKey r) with
    | none => rfl
    | some l =>
      rw [hl] at hseq
      have hne : (l.seq == r.seq) = false := by simpa using hseq
      simp [askFor, hne]
  generalize safeAsked r (s.tick e) = x at *
  generalize hue : enqueue (pathKey r) (askFor r .safeReq) x = u at *
  have hhost : hostOp stepGo r .safeReq (s.tick e) = answer (pathKey r) (askFor r .safeReq) ⟨St.ok, []⟩ true u := by
    unfold hostOp
    extract_lets a k
    rw [if_neg (by simp [k, hheld, hkept]), show askEnters a (s.tick e) = _ from hin]
    show askNow stepGo k a u = _
    unfold askNow
    rw [show decideAsk stepGo k a u = _ from decideAsk_safe hnew]
    rfl
  refine ⟨_, rfl, ?_⟩
  rw [hhost]
  refine hP _ ?_ (answer_closed hnode _ _ _ u)
  obtain ⟨h1, h2, h3⟩ := replied_of_stands hnode hst rfl St.ok [] true
  refine ⟨h1, h2, fun ho => (h3 ho).trans ?_⟩
  unfold State.portOf
  rw [hports]
  rfl

theorem safeRequest_enters (e : Nat) {r : Req} {s : State} (h : Takes r s) (hn : s.mode ≠ Mode.safe ∨ s.trans.isSome = true)
    (hm : s.mode ≠ Mode.standby) : Answers (.safeRequest e r) s fun t => EntersSafe Cause.cmd s t ∧ Replied r 0x21 St.ok [] s t := by
  have ha := admits_tick e (admits_of_takes h)
  refine safeRequest_answered e h fun t hreply hc => ⟨?_, hreply⟩
  have hmode := countAsk_mode ha
  have hcause := countAsk_reg ha.path (s.tick e) (i := R.DEV_SAFE_CAUSE) (by decide)
  have hreg := countAsk_reg ha.path (s.tick e) (i := R.DEV_MODE) (by decide)
  have hx : safeAsked r (s.tick e) = enterSafe Cause.cmd r (countAsk (pathKey r) (s.tick e)) := by
    unfold safeAsked
    refine if_neg fun hb => ?_
    obtain ⟨h1, h2⟩ := (Bool.and_eq_true _ _).mp hb
    have h1' : s.mode = Mode.safe := of_decide_eq_true h1
    have h2' : s.trans.isNone = true := h2
    cases ht : s.trans <;> simp_all
  rw [hx] at hc
  have hsafe := enterSafe_spec Cause.cmd r (countAsk (pathKey r) (s.tick e)) (by rw [hmode]; exact hm)
  generalize countAsk (pathKey r) (s.tick e) = c at *
  generalize enterSafe Cause.cmd r c = x at *
  have he := alter_enqueue (pathKey r) (askFor r .safeReq) x
  generalize enqueue (pathKey r) (askFor r .safeReq) x = u at *
  have hr : ∀ i, t.reg i = x.reg i := fun i => (hc.reg i).trans (Alter.reg_of_regs (he.regs rfl) i)
  have ht : EntersSafe Cause.cmd c t := by
    obtain ⟨h1, h2, h3, h4⟩ := hsafe
    refine ⟨(State.fld_of_reg (hr _) _).trans h1, fun hb => (State.mode_of_reg (hr _)).trans (h2 hb), fun hb hs => ?_, fun hb hs => ?_⟩
    · rw [hc.beside.nfault rfl, he.nfault rfl]
      exact h3 hb hs
    · rw [hc.beside.heldMode rfl, he.heldMode rfl, hc.beside.heldFn rfl, he.heldFn rfl, hc.beside.trans rfl, he.trans rfl]
      exact h4 hb hs
  exact ht.of_regs hreg hcause

theorem safeRequest_stays (e : Nat) {r : Req} {s : State} (h : Takes r s) (hm : s.mode = Mode.safe) (ht : s.trans = none) :
    Answers (.safeRequest e r) s fun t => Replied r 0x21 St.ok [] s t ∧ Answered [] s t := by
  have ha := admits_tick e (admits_of_takes h)
  refine safeRequest_answered e h fun t hreply hc => ⟨hreply, ?_⟩
  have hx : safeAsked r (s.tick e) = countAsk (pathKey r) (s.tick e) := by
    unfold safeAsked
    exact if_pos (by rw [show (s.tick e).mode = Mode.safe from hm, show (s.tick e).trans = none from ht]; rfl)
  rw [hx] at hc
  have hu : Arrived e s (enqueue (pathKey r) (askFor r .safeReq) (countAsk (pathKey r) (s.tick e))) :=
    (admits_of_takes h).arrived .safeReq e
  exact hc.answered hu (Alter.refl _ _) (OnlyRegs.refl _ _)

end Sys2Proof.Machine
end

section
/-! SUPPORT. Writes of the real-time clock, of its alarm and of the SAFE causes, and the pre-start run (R56, R66, R67, R78). -/

namespace Sys2Proof.Machine

set_option Elab.async false

/-! ### The block of the device's registers -/

theorem regWrite_dev {go : State → State} {r : Req} {w : Wr} (h : w.idx / 256 = 0) (s : State) :
    regWrite go r w s = devWrite w s := by
  simp [regWrite, h]

theorem rtc_row : Writable R.DEV_RTC ∧ ((rowOf R.DEV_RTC).fields.any fun f => (f.cls == .rw || f.cls == .rwp ||
    ((f.cls == .wo || f.cls == .wop) && f.hi != f.lo)) && f.fld.mask != 0) = true ∧
    Writable R.DEV_RTC_ALARM ∧ ((rowOf R.DEV_RTC_ALARM).fields.any fun f => (f.cls == .rw || f.cls == .rwp ||
    ((f.cls == .wo || f.cls == .wop) && f.hi != f.lo)) && f.fld.mask != 0) = true ∧
    maskOf R.DEV_RTC_ALARM [.w1c, .w1cp] = 0 ∧ HasField (maskOf R.DEV_RTC_ALARM [.rw, .rwp]) F.DEV_RTC_ALARM.SEC ∧
    HasField (maskOf R.DEV_RTC_ALARM [.rw, .rwp]) F.DEV_RTC_ALARM.EN := by
  decide

/-! ### The clock (R66) -/

theorem Alter.patchBoot {s t : State} (a : Alter (writeM ||| (2 ^ R.DEV_RTC ||| 2 ^ 67 ||| 2 ^ 69)) s t) :
    ({ t with boot := s.boot } : State) =
    { s with el := t.el, dt := t.dt, regs := t.regs, ports := t.ports, lastReq := t.lastReq, sessions := t.sessions
             audit := t.audit, can := t.can } := by
  have h : t = { s with el := t.el, dt := t.dt, regs := t.regs, ports := t.ports, lastReq := t.lastReq, sessions := t.sessions
                        audit := t.audit, can := t.can, boot := t.boot } := a.eq_patch
  generalize t.el = a1, t.dt = a2, t.regs = a3, t.ports = a4, t.lastReq = a5, t.sessions = a6, t.audit = a7, t.can = a8,
    t.boot = a9 at h
  subst h
  rfl

theorem rtcWrite_spec (v : Reg) (s : State) : let t := rtcWrite v s
    t.boot = { s.boot with rtcSec := F.DEV_RTC.SEC.get v, rtcAt := s.el } ∧ t.el = s.el ∧ t.bit R.DEV_RTC F.DEV_RTC.SET = true ∧
    OnlyRegs [R.DEV_RTC] s t ∧ Alter (2 ^ R.DEV_RTC ||| 2 ^ 67 ||| 2 ^ 69) s t := by
  intro t
  unfold t rtcWrite
  have hbit : (s.setBit R.DEV_RTC F.DEV_RTC.SET true).bit R.DEV_RTC F.DEV_RTC.SET = true := State.bit_setBit_eq _ (by decide)
  have honly := (OnlyRegs.refl _ s).setBit (l := [R.DEV_RTC]) F.DEV_RTC.SET true (i := R.DEV_RTC) (by decide)
  have ha : Alter (2 ^ R.DEV_RTC ||| 2 ^ 67 ||| 2 ^ 69) s (s.setBit R.DEV_RTC F.DEV_RTC.SET true) := (alter_setBit ..).mono rfl
  have hel : (s.setBit R.DEV_RTC F.DEV_RTC.SET true).el = s.el := ha.el rfl
  generalize s.setBit R.DEV_RTC F.DEV_RTC.SET true = x at *
  have hx : ∀ b, Alter (2 ^ 69) x { x with boot := b } ∧ ({ x with boot := b } : State).regs = x.regs := fun b =>
    ⟨alter_boot _ _, rfl⟩
  refine ⟨rfl, hel, ?_, honly.congr (hx _).2, ha.and ((hx _).1.mono rfl)⟩
  exact (State.bit_of_reg (Alter.reg_of_regs (hx _).2 _) _).trans hbit

theorem rtc_written (e : Nat) {r : Req} (v : Reg) {s : State} (h : Takes r s) (hp : privileged s r = true)
    (hroom : s.auditFull = false) : Answers (.rtcWrite e r v) s fun t =>
       t.boot = { s.boot with rtcSec := F.DEV_RTC.SEC.get v, rtcAt := t.el } ∧ t.bit R.DEV_RTC F.DEV_RTC.SET = true ∧
       Replied r 0x11 St.ok [] s t ∧
       Answered [R.DEV_RTC] s { t with boot := s.boot } := by
  obtain ⟨hW, ht, -⟩ := rtc_row
  refine answers_write (go := stepGo) rfl h hW (touches_of_field ht v) (fun _ => hp) (fun _ => hroom) fun u hu => ?_
  obtain ⟨x1, x2, x3, x4, x5⟩ := rtcWrite_spec v u
  have hw : regWrite stepGo r (wrAt r R.DEV_RTC v u) u = ⟨0, St.ok, rtcWrite v u⟩ := by
    rw [regWrite_dev (show (wrAt r R.DEV_RTC v u).idx / 256 = 0 by rw [wrAt_idx]; decide)]
    unfold devWrite
    rw [wrAt_idx, if_neg (by decide), if_neg (by decide), if_pos rfl, wrAt_word]
  generalize rtcWrite v u = x at *
  refine ⟨St.ok, x, hw, x5.ports rfl, fun t hreply hf => ⟨?_, ?_, hreply, (hf.alters hu x5).patchBoot, hf.onlyRegs hu x4⟩⟩
  · rw [hf.beside.boot rfl, x1, hf.beside.el rfl, x2, hu.beside.boot rfl]
  · rw [hf.bit (by decide), x3]

/-! ### The alarm (R67) -/

theorem rtcAlarm_written (e : Nat) {r : Req} (v : Reg) {s : State} (h : Takes r s) (hp : privileged s r = true)
    (hen : F.DEV_RTC_ALARM.EN.get v = 0) (hroom : s.auditFull = false) : Answers (.rtcAlarmWrite e r v) s fun t =>
       t.fld R.DEV_RTC_ALARM F.DEV_RTC_ALARM.SEC = F.DEV_RTC_ALARM.SEC.get v ∧ Replied r 0x11 St.ok [] s t ∧
       Answered [R.DEV_RTC_ALARM] s t := by
  obtain ⟨-, -, hW, ht, hclr, hsec, hEn⟩ := rtc_row
  refine answers_write (go := stepGo) rfl h hW (touches_of_field ht v) (fun _ => hp) (fun _ => hroom) fun u hu => ?_
  have hplain : (wrAt r R.DEV_RTC_ALARM v u).plain u = u.setReg R.DEV_RTC_ALARM (wrAt r R.DEV_RTC_ALARM v u).new := by
    unfold Wr.plain
    rw [wrAt_clr, hclr, wrAt_idx, show ∀ v : Reg, v &&& 0 = 0 from fun v => BitVec.and_zero, clearEffects_zero (by decide)]
  have hgood : rtcAlarmBad u (wrAt r R.DEV_RTC_ALARM v u).new = false := by
    have h0 : F.DEV_RTC_ALARM.EN.get (wrAt r R.DEV_RTC_ALARM v u).new = 0 :=
      (wrAt_get r R.DEV_RTC_ALARM v u hclr hEn).trans hen
    unfold rtcAlarmBad
    rw [h0]
    rfl
  have hnew : F.DEV_RTC_ALARM.SEC.get (wrAt r R.DEV_RTC_ALARM v u).new = F.DEV_RTC_ALARM.SEC.get v :=
    wrAt_get r R.DEV_RTC_ALARM v u hclr hsec
  have hw : regWrite stepGo r (wrAt r R.DEV_RTC_ALARM v u) u =
      ⟨0, St.ok, u.setReg R.DEV_RTC_ALARM (wrAt r R.DEV_RTC_ALARM v u).new⟩ := by
    rw [regWrite_dev (show (wrAt r R.DEV_RTC_ALARM v u).idx / 256 = 0 by rw [wrAt_idx]; decide)]
    unfold devWrite
    rw [wrAt_idx, if_neg (by decide), if_neg (by decide), if_neg (by decide), if_pos rfl, hgood, ← hplain]
    rfl
  generalize (wrAt r R.DEV_RTC_ALARM v u).new = n at *
  have ha : Alter (2 ^ R.DEV_RTC_ALARM ||| 2 ^ 67) u (u.setReg R.DEV_RTC_ALARM n) := (alter_setReg ..).mono rfl
  have ho := (OnlyRegs.refl _ u).setReg (l := [R.DEV_RTC_ALARM]) n (i := R.DEV_RTC_ALARM) (by decide)
  refine ⟨St.ok, _, hw, ha.ports rfl, fun t hreply hf => ⟨?_, hreply, ?_, hf.onlyRegs hu ho⟩⟩
  · rw [hf.fld (by decide), State.fld, State.reg_setReg_same]
    exact hnew
  · exact ((hf.alters hu ha).mono (m := writeM ||| 2 ^ R.DEV_RTC_ALARM) rfl).eq_patch

/-! ### The cause CMD (R78) -/

theorem cause_row : Writable R.DEV_SAFE_CAUSE ∧ touches R.DEV_SAFE_CAUSE (BitVec.ofNat 40 Cause.cmd) = true ∧
    noted R.DEV_SAFE_CAUSE (BitVec.ofNat 40 Cause.cmd) = true ∧ entryKind R.DEV_SAFE_CAUSE (BitVec.ofNat 40 Cause.cmd) = 1 ∧
    BitVec.ofNat 40 Cause.cmd &&& maskOf R.DEV_SAFE_CAUSE [.w1c, .w1cp] = 1 ∧ bitsOf 12 (BitVec.toNat (1 : Reg)) = [0] := by
  decide

/-- The cause CMD, written, is cleared. -/
theorem causeClear_cmd (s : State) : causeClear 1 s = s.setBitAt R.DEV_SAFE_CAUSE ⟨11, 0⟩ 0 false := by
  obtain ⟨-, -, -, -, -, hbits⟩ := cause_row
  rw [causeClear_eq, hbits, forEach_one]
  rfl

theorem safeCause_cleared (e : Nat) {r : Req} {s : State} (h : Takes r s) (hp : privileged s r = true) (hm : s.mode = Mode.safe)
    (hc : s.fld R.DEV_SAFE_CAUSE ⟨11, 0⟩ = Cause.cmd) (hroom : s.auditFull = false) :
    Answers (.safeCauseClear e r (BitVec.ofNat 40 Cause.cmd)) s fun t =>
       t.fld R.DEV_SAFE_CAUSE ⟨11, 0⟩ = 0 ∧ t.mode = Mode.safe ∧ Replied r 0x11 St.ok [] s t ∧
       Audits r 1 R.DEV_SAFE_CAUSE s t ∧ Answered [R.DEV_SAFE_CAUSE] s t := by
  obtain ⟨hW, ht, hn, hk, hclr, -⟩ := cause_row
  refine answers_write (go := stepGo) rfl h hW ht (fun _ => hp) (fun _ => hroom) fun u hu => ?_
  have hcu : u.fld R.DEV_SAFE_CAUSE ⟨11, 0⟩ = 1 := (hu.fld (by decide) _).trans hc
  have hw : regWrite stepGo r (wrAt r R.DEV_SAFE_CAUSE (BitVec.ofNat 40 Cause.cmd) u) u =
      ⟨0, St.ok, u.setFld R.DEV_SAFE_CAUSE ⟨11, 0⟩ 0⟩ := by
    rw [regWrite_dev (show (wrAt r R.DEV_SAFE_CAUSE _ u).idx / 256 = 0 by rw [wrAt_idx]; decide)]
    unfold devWrite
    rw [wrAt_idx, if_neg (by decide), if_neg (by decide), if_neg (by decide), if_neg (by decide), if_pos rfl, wrAt_clr, hclr,
      causeClear_cmd]
    unfold State.setBitAt
    rw [hcu]
    rfl
  have ha : Alter (2 ^ R.DEV_SAFE_CAUSE ||| 2 ^ 67) u (u.setFld R.DEV_SAFE_CAUSE ⟨11, 0⟩ 0) := (alter_setFld ..).mono rfl
  have ho := (OnlyRegs.refl _ u).setFld (l := [R.DEV_SAFE_CAUSE]) ⟨11, 0⟩ 0 (i := R.DEV_SAFE_CAUSE) (by decide)
  have hz : (u.setFld R.DEV_SAFE_CAUSE ⟨11, 0⟩ 0).fld R.DEV_SAFE_CAUSE ⟨11, 0⟩ = 0 := State.fld_setFld_eq _ (by decide)
  generalize u.setFld R.DEV_SAFE_CAUSE ⟨11, 0⟩ 0 = x at *
  refine ⟨St.ok, x, hw, ha.ports rfl, fun t hreply hf => ⟨?_, ?_, hreply, ?_, ?_, hf.onlyRegs hu ho⟩⟩
  · rw [hf.fld (by decide), hz]
  · rw [hf.mode, State.mode_of_reg (ho _ (by decide)), hu.mode, hm]
  · exact hk ▸ hf.audits hn hroom ((ha.audit rfl).trans (hu.beside.audit rfl))
  · exact ((hf.alters hu ha).mono (m := writeM ||| 2 ^ R.DEV_SAFE_CAUSE) rfl).eq_patch

/-! ### The pre-start run (R56) -/

theorem preCtrl_row : Writable R.PROT_PRE_CTRL ∧ maskOf R.PROT_PRE_CTRL [.rw, .rwp] = 0 ∧
    (((rowOf R.PROT_PRE_CTRL).fields.any fun f => f.cls.priv) = false ∧ windowData R.PROT_PRE_CTRL = false) ∧
    touches R.PROT_PRE_CTRL (F.PROT_PRE_CTRL.RUN.set 0 1) = true ∧
    (F.PROT_PRE_CTRL.RUN.set 0 1 &&& maskOf R.PROT_PRE_CTRL [.wo, .wop] &&& F.PROT_PRE_CTRL.RUN.mask != 0) = true ∧
    instAt (R.PROT_DSAT 0) 1 48 R.PROT_PRE_CTRL = none ∧ instAt (R.PROT_OC 0) 1 48 R.PROT_PRE_CTRL = none ∧
    instAt (R.PROT_SS_CFG 0) 1 2 R.PROT_PRE_CTRL = none := by
  decide

theorem regWrite_prot {go : State → State} {r : Req} {w : Wr} (h : w.idx / 256 = 8) (s : State) :
    regWrite go r w s = protWrite w s := by
  simp [regWrite, h]

theorem regWrite_preRun {go : State → State} {r : Req} (s u : State) :
    regWrite go r (wrAt r R.PROT_PRE_CTRL (settingVal s R.PROT_PRE_CTRL [(F.PROT_PRE_CTRL.RUN, 1)]) u) u =
      WOut.of (u.mode != Mode.ready) false (u.bit R.PROT_PRE_STAT F.PROT_PRE_STAT.RUNNING) preStart u := by
  obtain ⟨hW, hst, -, -, hfire, h1, h2, h3⟩ := preCtrl_row
  have hw : ∀ w : Wr, w.idx = R.PROT_PRE_CTRL → w.fires F.PROT_PRE_CTRL.RUN = true → regWrite go r w u =
      WOut.of (u.mode != Mode.ready) false (u.bit R.PROT_PRE_STAT F.PROT_PRE_STAT.RUNNING) preStart u := fun w hi hf => by
    rw [regWrite_prot (by rw [hi]; decide)]
    unfold protWrite
    simp only [hi, h1, h2, h3]
    rw [if_neg (by decide), if_pos trivial, if_pos hf]
  exact hw _ (wrAt_idx ..) ((trigger_fires hW.1 hst s u _ _).trans hfire)

/-- A run that begins shows itself. -/
theorem preStart_shows (s : State) : (preStart s).bit R.PROT_PRE_STAT F.PROT_PRE_STAT.RUNNING = true ∧
    (preStart s).bit R.PROT_PRE_STAT F.PROT_PRE_STAT.DONE = false := by
  unfold preStart
  extract_lets a b c d
  have hrun : d.bit R.PROT_PRE_STAT F.PROT_PRE_STAT.RUNNING = true := by
    unfold d
    rw [State.bit_setBit_beside _ (by decide), State.bit_setBit_eq _ (by decide)]
  have hdone : d.bit R.PROT_PRE_STAT F.PROT_PRE_STAT.DONE = false := State.bit_setBit_eq _ (by decide)
  clear_value d
  exact ⟨by rw [State.bit_setBit_beside _ (by decide), State.bit_setBit_beside _ (by decide), hrun],
    by rw [State.bit_setBit_beside _ (by decide), State.bit_setBit_beside _ (by decide), hdone]⟩

theorem prestart_begins (e : Nat) {r : Req} {s : State} (h : Takes r s) (hm : s.mode = Mode.ready)
    (hrun : s.bit R.PROT_PRE_STAT F.PROT_PRE_STAT.RUNNING = false) : Answers (.prestartRun e r) s fun t =>
       t.bit R.PROT_PRE_STAT F.PROT_PRE_STAT.RUNNING = true ∧ t.bit R.PROT_PRE_STAT F.PROT_PRE_STAT.DONE = false ∧
       Replied r 0x11 St.ok [] s t := by
  obtain ⟨hW, hst, hopen, ht, -⟩ := preCtrl_row
  refine answers_write_open (go := stepGo) rfl h hW hopen (touches_setting hW.1 hst s _ ht) fun u hu => ?_
  obtain ⟨h1, h2⟩ := preStart_shows u
  refine ⟨St.ok, preStart u, ?_, (alter_preStart u).ports rfl, fun t hreply hf => ⟨?_, ?_, hreply⟩⟩
  · rw [regWrite_preRun, hu.mode, hm, hu.farBit (by decide), hrun]
    rfl
  · rw [hf.farBit (by decide), h1]
  · rw [hf.farBit (by decide), h2]

theorem prestart_refused (e : Nat) {r : Req} {s : State} (h : Takes r s) (hm : s.mode ≠ Mode.ready) :
    Answers (.prestartRun e r) s fun t => Replied r 0x11 St.wrongMode (leBytes 2 0) s t ∧ Answered [] s t := by
  obtain ⟨hW, -, hopen, -⟩ := preCtrl_row
  refine answers_refused_open (go := stepGo) (lv := 8) (v := settingVal s R.PROT_PRE_CTRL [(F.PROT_PRE_CTRL.RUN, 1)]) rfl h hW
    hopen.1 (by decide) fun u hu => ?_
  rw [regWrite_preRun, hu.mode, show (s.mode != Mode.ready) = true by simp [hm]]
  rfl

end Sys2Proof.Machine
end

section
/-! SUPPORT. Mode requests while the glove pair keeps its outputs back (R519, R534), and the settling of O43. -/

namespace Sys2Proof.Machine

set_option Elab.async false

/-! ### What an order that is met with others leaves of a port's queue (R573 to R576) -/

/-- A port has as many requests, is as much held up and has the same replies. -/
structure SameQueue (k : Nat) (s t : State) : Prop where
  held : (t.portOf k).held = (s.portOf k).held
  waiting : (t.portOf k).waiting.length = (s.portOf k).waiting.length
  replies : (t.portOf k).replies = (s.portOf k).replies

theorem SameQueue.refl (k : Nat) (s : State) : SameQueue k s s := ⟨rfl, rfl, rfl⟩

theorem SameQueue.trans {k : Nat} {s u t : State} (h : SameQueue k s u) (h' : SameQueue k u t) : SameQueue k s t :=
  ⟨h'.held.trans h.held, h'.waiting.trans h.waiting, h'.replies.trans h.replies⟩

theorem SameQueue.of_ports {k : Nat} {s t : State} (h : t.ports = s.ports) : SameQueue k s t := by
  have hp : t.portOf k = s.portOf k := by
    unfold State.portOf
    rw [h]
  exact ⟨by rw [hp], by rw [hp], by rw [hp]⟩

theorem portOf_setPort_other {k j : Nat} (h : k ≠ j) (p : Port) (s : State) : (s.setPort j p).portOf k = s.portOf k :=
  AMap.getD_put_other _ _ _ _ h

theorem markLost_queue (k j : Nat) (s : State) : SameQueue k s (markLost j s) := by
  unfold markLost
  extract_lets p
  cases hw : p.waiting with
  | nil => exact .refl k s
  | cons a l =>
    by_cases e : k = j
    · subst e
      have hp : (s.setPort k { p with waiting := { a with sup := true } :: l }).portOf k =
          { p with waiting := { a with sup := true } :: l } := State.portOf_setPort _ _ _
      have hl : (s.portOf k).waiting = a :: l := hw
      exact ⟨by rw [hp], by rw [hp, hl]; rfl, by rw [hp]⟩
    · have hp := portOf_setPort_other e { p with waiting := { a with sup := true } :: l } s
      exact ⟨by rw [hp], by rw [hp], by rw [hp]⟩

theorem meets_queue (k : Nat) (o : Order) (l : List Order) (s : State) : SameQueue k s (meets o l s).1 := by
  have hg : ∀ (u : State) g, SameQueue k u { u with glove := g } := fun _ _ => .of_ports rfl
  induction l generalizing s with
  | nil => exact .refl k s
  | cons x l ih =>
    unfold meets
    split
    · exact ih s
    · split
      · exact ih s
      · extract_lets earlier idx we wo old c1 p1 g1 held c u lost g
        split
        · exact (markLost_queue k o.key s).trans (hg _ _)
        · have hu : SameQueue k s u := by
            unfold u
            split
            · exact markLost_queue k x.key s
            · exact .refl k s
          clear_value u
          exact (hu.trans (hg u _)).trans (ih _)

theorem orderArrives_queue (k j : Nat) (a : Ask) (op : Op) (s : State) : SameQueue k s (orderArrives j a op s) := by
  have hg : ∀ (u : State) g, SameQueue k u { u with glove := g } := fun _ _ => .of_ports rfl
  unfold orderArrives
  split
  · exact .refl k s
  · extract_lets o old
    have hm := meets_queue k o old { s with glove := { s.glove with orders := old } }
    split
    rename_i u live heq
    have hu : SameQueue k s u := (hg s _).trans (by rw [heq] at hm; exact hm)
    split
    · exact hu.trans (hg u _)
    · exact hu

/-! ### A mode request that waits (R519) -/

/-- A difference withholds the outputs: a matter for the gloves waits at the head of its port. -/
theorem toGlove_waits {go : State → State} {k m : Nat} {a : Ask} {s : State} (hm : m < 5)
    (hh : s.bit R.GLV_STAT F.GLV_STAT.HALTED = false) : toGlove go k a (.modeReq m) s =
      .wait (orderArrives k a (.modeReq m) (jWrite (keySrc k) (.ask k) (s.setPort k { s.portOf k with held := true }))) := by
  have hr : opRange (.modeReq m) = true := decide_eq_true (by omega)
  unfold toGlove
  simp only [hr, if_true]
  rw [if_neg (by decide), if_neg (by simp [hh])]

/-- A halt answers at once. -/
theorem toGlove_halted {go : State → State} {k m : Nat} {a : Ask} {s : State} (hm : m < 5)
    (hh : s.bit R.GLV_STAT F.GLV_STAT.HALTED = true) : toGlove go k a (.modeReq m) s = .reply ⟨St.busy, []⟩ false s := by
  have hr : opRange (.modeReq m) = true := decide_eq_true (by omega)
  unfold toGlove
  simp only [hr, if_true]
  rw [if_neg (by decide), if_pos hh]

theorem needsGlove_mode {m : Nat} (h : m ≠ 5) : needsGlove (.modeReq m) = true := bne_iff_ne.mpr h

/-- A port whose oldest request waits for the gloves goes no further. -/
theorem pump_wait {go : State → State} {k : Nat} {a : Ask} {l : List Ask} {s w : State} (n : Nat) (hh : (s.portOf k).held = false)
    (hw : (s.portOf k).waiting = a :: l) (hd : decideAsk go k a s = .wait w) : pump go (n + 1) k s = w := by
  unfold pump
  simp only [hh, hw, hd, Bool.false_eq_true, if_false]

theorem mode_waits (e : Nat) {r : Req} {m : Fin 8} {s : State} (h : Admits r s) (hsess : r.session = 0 ∨ privileged s r = true)
    (hm : m.val < 5) (hstop : jStopped s = false) (hrun : s.bit R.GLV_STAT F.GLV_STAT.RUN = true)
    (hagree : s.fld R.GLV_STAT F.GLV_STAT.AGREE = 0) : Answers (.modeRequest e r m) s fun t =>
       (t.portOf (pathKey r)).held = true ∧ (t.portOf (pathKey r)).waiting.length = 1 ∧
       (t.portOf (pathKey r)).replies = (s.portOf (pathKey r)).replies ∧
       t.mode = s.mode ∧ t.trans = s.trans ∧ t.heldMode = s.heldMode ∧ t.reg R.DEV_MODE = s.reg R.DEV_MODE := by
  have hkept : outputsKept s = true := by
    unfold outputsKept
    rw [hrun, hagree]
    simp
  have h' := admits_tick e h
  have ho : FormedOp (.modeReq m.val) := formedOp_mode (by omega)
  have hu := h'.stands (.modeReq m.val)
  have harr := h.arrived (.modeReq m.val) e
  have hpumped := h'.pumped (go := stepGo) (ho.asksSafe r) hkept
  have hdec := h'.decided (go := stepGo) (sessionOpenTo_of_priv _ hsess) hu ho
  have hports : (s.tick e).portOf (pathKey r) = s.portOf (pathKey r) := rfl
  generalize arrival r (.modeReq m.val) (s.tick e) = u at *
  have hhalt : u.bit R.GLV_STAT F.GLV_STAT.HALTED = false := by
    rw [harr.farBit (by decide)]
    unfold jStopped at hstop
    exact (Bool.or_eq_false_iff.mp hstop).1
  rw [needsGlove_mode (by omega), if_pos rfl, toGlove_waits hm hhalt] at hdec
  refine ⟨_, rfl, ?_⟩
  rw [hpumped.trans (pump_wait (k := pathKey r) 19 hu.held hu.waiting hdec)]
  have hset : (u.setPort (pathKey r) { u.portOf (pathKey r) with held := true }).portOf (pathKey r) =
      { u.portOf (pathKey r) with held := true } := State.portOf_setPort _ _ _
  have hy := alter_setPort (pathKey r) { u.portOf (pathKey r) with held := true } u
  generalize u.setPort (pathKey r) { u.portOf (pathKey r) with held := true } = y at *
  have hz := alter_jWrite (keySrc (pathKey r)) (.ask (pathKey r)) y
  generalize jWrite (keySrc (pathKey r)) (.ask (pathKey r)) y = z at *
  have hw := alter_orderArrives (pathKey r) (askFor r (.modeReq m.val)) (.modeReq m.val) z
  have hq := (SameQueue.of_ports (k := pathKey r) (hz.ports rfl)).trans
    (orderArrives_queue (pathKey r) (pathKey r) (askFor r (.modeReq m.val)) (.modeReq m.val) z)
  generalize orderArrives (pathKey r) (askFor r (.modeReq m.val)) (.modeReq m.val) z = w at *
  have hreg : w.reg R.DEV_MODE = s.reg R.DEV_MODE :=
    (hw.low _ (by decide) rfl).trans ((hz.low _ (by decide) rfl).trans ((hy.low _ (by decide) rfl).trans (harr.reg (by decide))))
  refine ⟨?_, ?_, ?_, State.mode_of_reg hreg, ?_, ?_, hreg⟩
  · rw [hq.held, hset]
  · rw [hq.waiting, hset]
    exact congrArg List.length hu.waiting
  · rw [hq.replies, hset]
    exact hu.replies.trans (congrArg Port.replies hports)
  · rw [hw.trans rfl, hz.trans rfl, hy.trans rfl, harr.beside.trans rfl]
  · rw [hw.heldMode rfl, hz.heldMode rfl, hy.heldMode rfl, harr.beside.heldMode rfl]

theorem mode_busy (e : Nat) {r : Req} {m : Fin 8} {s : State} (h : Admits r s) (hsess : r.session = 0 ∨ privileged s r = true)
    (hm : m.val < 5) (hhalt : s.bit R.GLV_STAT F.GLV_STAT.HALTED = true) : Answers (.modeRequest e r m) s fun t =>
       Replied r 0x20 St.busy [] s t ∧ Answered [] s t := by
  refine answers_kept (go := stepGo) (op := .modeReq m.val) rfl rfl h (sessionOpenTo_of_priv _ hsess) (formedOp_mode (by omega))
    (outputsKept_of_halted hhalt) fun u hu => ?_
  have hhu : u.bit R.GLV_STAT F.GLV_STAT.HALTED = true := (hu.farBit (by decide) _).trans hhalt
  refine ⟨St.busy, [], false, u, ?_, rfl, fun t hreply hc => ⟨hreply, hc.answered hu (Alter.refl _ u) (OnlyRegs.refl _ u)⟩⟩
  rw [needsGlove_mode (by omega), if_pos rfl, toGlove_halted hm hhu]

/-! ### The obligation -/

/-- Settles O43: each request is executed in the state its arrival leaves and answered with what that gives. -/
theorem sessionsAndModesRequested : Obligations.SessionsAndModesRequested := by
  unfold Obligations.SessionsAndModesRequested
  refine ⟨fun e r s h h1 h2 h3 h4 => sessionOpen_reserves e h h1 h2 h3 h4, fun e r s h h1 => sessionOpen_keyless e h h1,
    fun e k r x s h h1 h2 h3 h4 h5 _ h7 => sessionAuth_opens e h h1 h2 h3 h4 h5 h7, fun e r s h h1 h2 => sessionClose_ends e h h1 h2,
    fun e r key s h h1 h2 h3 => key_programmed e h h1 h2 h3, fun e r key crc s h h1 h2 => key_refused e crc h h1 h2,
    fun e r s h h1 h2 => modeRequest_stops e h h1 h2, fun e r m s h h1 h2 h3 h4 => modeRequest_inForce e h h1 h2 h3 h4,
    fun e r m s h h1 => mode_unknown e h h1, fun e r s h h1 h2 => safeRequest_enters e h h1 h2,
    fun e r s h h1 h2 => safeRequest_stays e h h1 h2, fun e r v s h h1 h2 => rtc_written e v h h1 h2,
    fun e r v s h h1 h2 h3 => rtcAlarm_written e v h h1 h2 h3, fun e r s h h1 h2 h3 h4 => safeCause_cleared e h h1 h2 h3 h4,
    fun e r s h h1 h2 => prestart_begins e h h1 h2, fun e r s h h1 => prestart_refused e h h1,
    fun e r m s h h1 h2 h3 h4 => modeRequest_enters e h h1 h2 h3 h4, fun e r m s h h1 h2 h3 h4 => modeRequest_refused e h h1 h2 h3 h4,
    fun e r s h h1 h2 h3 => modeRequest_leavesSafe e h h1 h2 h3, fun e r m s h h1 h2 h3 => mode_held e h h1 h2 h3,
    fun e r m s h1 h2 h3 h4 h5 h6 h7 h8 h9 _ h11 h12 h13 => mode_waits e ⟨h1, h2, h3, h4, h5, h6, h7⟩ h8 h9 h11 h12 h13,
    fun e r m s h1 h2 h3 h4 h5 h6 h7 h8 h9 h10 => mode_busy e ⟨h1, h2, h3, h4, h5, h6, h7⟩ h8 h9 h10⟩

end Sys2Proof.Machine
end

section
/-! SUPPORT. A direction written as the machine's speed becomes unknown, and the settling of O47. The speed a machine's selector
holds is unknown 1 ms after it was refreshed (R151); a direction may then be written while the gate is closed (R361). The
statement judges the speed before the time that the command brings. -/

namespace Sys2Proof.Machine

set_option Elab.async false

/-- Machine 0 turns at full speed, last told now, its gate closed. -/
def freshSpeed : State :=
  let s := ((W.run Mode.drive).setFld (R.PROT_SS_SPEED 0) F.PROT_SS_SPEED.SRC 1).setFld (R.PROT_SS_SPEED 0) F.PROT_SS_SPEED.SPEED 65535
  s.setSel 0 { s.selOf 0 with fresh := some s.dt }

theorem freshSpeed_takes : Takes W.req freshSpeed := by decide +kernel

/-- The direction may not be written now. -/
theorem freshSpeed_fast : true ≠ freshSpeed.bit (R.TRX_M_CTRL (0 : Fin 2)) F.TRX_M_CTRL.DIR ∧ dirMay freshSpeed (0 : Fin 2) = false := by
  decide +kernel

/-- Written 1 ms later, it is taken. -/
theorem dirChange_freshSpeed :
    (hostOp stepGo W.req (setting freshSpeed (R.TRX_M_CTRL (0 : Fin 2)) [(F.TRX_M_CTRL.DIR, b2n true)]) (freshSpeed.tick 200001)).bit
      (R.TRX_M_CTRL (0 : Fin 2)) F.TRX_M_CTRL.DIR = true := by
  decide +kernel

/-- Refutes O47: the direction is written, not refused, where the speed has become unknown meanwhile. -/
theorem not_tractionAndLinkWritten : ¬ Obligations.TractionAndLinkWritten := by
  rintro ⟨-, -, -, hdir, -⟩
  obtain ⟨hturn, hfast⟩ := freshSpeed_fast
  obtain ⟨t, ht, -, hframe⟩ := hdir 200001 W.req 0 true freshSpeed freshSpeed_takes hturn hfast
  injection ht with ht
  obtain ⟨-, hregs⟩ := hframe
  have hsame : t.reg (R.TRX_M_CTRL (0 : Fin 2)) = freshSpeed.reg (R.TRX_M_CTRL (0 : Fin 2)) := hregs _ (by decide)
  have hset : t.bit (R.TRX_M_CTRL (0 : Fin 2)) F.TRX_M_CTRL.DIR = true := by
    rw [← ht]
    exact dirChange_freshSpeed
  exact hturn (hset.symm.trans (State.bit_of_reg hsame _))

end Sys2Proof.Machine
end

section
/-! SUPPORT. The park actuator's target written as a machine's speed becomes unknown, and the settling of O48. Park is refused where
a machine's speed is unknown (R477), as it is 1 ms after it was refreshed (R151). The statement judges the speed before the time
that the command brings. -/

namespace Sys2Proof.Machine

set_option Elab.async false

/-- Machine 0 stands, its speed last told now. -/
def freshRest : State :=
  let s := (((W.conv Mode.drive 0).setFld (R.PROT_SS_SPEED 0) F.PROT_SS_SPEED.SRC 1).setFld R.ACT_PARK F.ACT_PARK.PARK_W 100).setFld
    (R.ACT_A_CFG 2) F.ACT_A_CFG.IBASE 10
  s.setSel 0 { s.selOf 0 with fresh := some s.dt }

/-- A target outside the window around 0, with a current limit. -/
def parkTarget : Reg := F.ACT_A_TGT.PWIN.set (F.ACT_A_TGT.ILIM.set (F.ACT_A_TGT.TARGET.set 0 200) 1) 10

theorem freshRest_takes : Takes W.req freshRest := by decide +kernel

/-- The target is within its ranges. -/
theorem parkTarget_good : F.ACT_A_TGT.TARGET.get parkTarget ≤ 4096 ∧ 1 ≤ F.ACT_A_TGT.PWIN.get parkTarget ∧
    1 ≤ F.ACT_A_TGT.ILIM.get parkTarget ∧
    F.ACT_A_TGT.ILIM.get parkTarget ≤ 2 * freshRest.fld (R.ACT_A_CFG (2 : Fin 3)) F.ACT_A_CFG.IBASE ∧
    parkTarget &&& 0xFFFFFFF#40 = parkTarget := by
  decide +kernel

/-- Park is not refused now. -/
theorem freshRest_parks : parkRefuses freshRest parkTarget = false := by decide +kernel

/-- Written 1 ms later, the target is not stored. -/
theorem actTarget_freshRest :
    (hostOp stepGo W.req (.regWrite [(R.ACT_A_TGT (2 : Fin 3), parkTarget)]) (freshRest.tick 200001)).reg (R.ACT_A_TGT (2 : Fin 3)) &&&
      0xFFFFFFF#40 ≠ parkTarget := by
  decide +kernel

/-- Refutes O48: the target is refused where the speed has become unknown meanwhile. -/
theorem not_chargeActuatorLifeWritten : ¬ Obligations.ChargeActuatorLifeWritten := by
  rintro ⟨-, -, -, -, -, -, -, -, -, -, -, -, -, htarget, -⟩
  obtain ⟨h1, h2, h3, h4, hwide⟩ := parkTarget_good
  obtain ⟨t, ht, hstored, -⟩ := htarget 200001 W.req 2 parkTarget freshRest freshRest_takes h1 h2 h3 h4 (fun _ => freshRest_parks) hwide
  injection ht with ht
  rw [← ht] at hstored
  exact actTarget_freshRest hstored

end Sys2Proof.Machine
end

section
/-! SUPPORT. What the interior's regions make of an uncorrectable word, and the settling of O7 (R18, R22, R31 to R33, R661). -/

namespace Sys2Proof.Machine

set_option Elab.async false

/-! ### Steps that leave the interior's own registers -/

/-- A register of the interior's block. -/
abbrev FabReg (i : Nat) : Prop := 0x200 ≤ i ∧ i < 0x400

/-- Every register of the interior's block reads as before. -/
def FabKept (s t : State) : Prop := ∀ i, FabReg i → t.reg i = s.reg i

section
variable {s t u : State} {i : Nat}

theorem FabKept.refl (s : State) : FabKept s s := fun _ _ => rfl

theorem FabKept.trans (h : FabKept s t) (k : FabKept t u) : FabKept s u := fun i hi => (k i hi).trans (h i hi)

theorem FabKept.of_regs (h : t.regs = s.regs) : FabKept s t := fun _ _ => Alter.reg_of_regs h _

theorem FabKept.congr (h : FabKept s t) (hu : u.regs = t.regs) : FabKept s u := h.trans (.of_regs hu)

theorem FabKept.of_only {l : List Nat} (h : OnlyRegs l s t) (hl : ∀ j ∈ l, ¬FabReg j) : FabKept s t :=
  fun i hi => h i fun hm => hl i hm hi

theorem FabKept.setReg (h : FabKept s t) (v : Reg) (hi : ¬FabReg i) : FabKept s (t.setReg i v) :=
  h.trans (.of_only ((OnlyRegs.refl [i] t).setReg v (List.mem_cons_self ..)) fun j hj => by rwa [List.mem_singleton.mp hj])

theorem FabKept.setFld (h : FabKept s t) (f : Fld) (x : Nat) (hi : ¬FabReg i) : FabKept s (t.setFld i f x) :=
  h.trans (.of_only ((OnlyRegs.refl [i] t).setFld f x (List.mem_cons_self ..)) fun j hj => by rwa [List.mem_singleton.mp hj])

theorem FabKept.setBit (h : FabKept s t) (f : Fld) (b : Bool) (hi : ¬FabReg i) : FabKept s (t.setBit i f b) :=
  h.trans (.of_only ((OnlyRegs.refl [i] t).setBit f b (List.mem_cons_self ..)) fun j hj => by rwa [List.mem_singleton.mp hj])

theorem FabKept.setBitAt (h : FabKept s t) (f : Fld) (k : Nat) (b : Bool) (hi : ¬FabReg i) : FabKept s (t.setBitAt i f k b) :=
  h.setFld _ _ hi

theorem FabKept.incFld (h : FabKept s t) (f : Fld) (k : Nat) (hi : ¬FabReg i) : FabKept s (t.incFld i f k) :=
  h.trans (.of_only ((OnlyRegs.refl [i] t).incFld f k (List.mem_cons_self ..)) fun j hj => by rwa [List.mem_singleton.mp hj])

theorem FabKept.setFlds (h : FabKept s t) (l : List (Fld × Nat)) (hi : ¬FabReg i) : FabKept s (Machine.setFlds i l t) := by
  unfold Machine.setFlds
  induction l generalizing t with
  | nil => exact h
  | cons p l ih => exact ih (h.setFld p.1 p.2 hi)

theorem FabKept.raise (h : FabKept s t) (code subj : Nat) (vals : List (Nat × Nat)) : FabKept s (t.raise code subj vals) :=
  h.trans (.of_only ((OnlyRegs.refl logRegs t).raise code subj vals (List.Subset.refl _)) (by decide))

theorem FabKept.audit (h : FabKept s t) (a : AuditEntry) : FabKept s (t.auditAdd a) :=
  h.trans (.of_only (onlyRegs_auditAdd a t) (by decide))

theorem FabKept.ite {c : Prop} [Decidable c] (h : FabKept s t) (k : FabKept s u) : FabKept s (if c then t else u) := by
  split
  · exact h
  · exact k

end

theorem not_fab_of_low {i : Nat} (h : i < 0x200) : ¬FabReg i := fun k => absurd k.1 (by omega)

theorem not_fab_of_high {i : Nat} (h : 0x400 ≤ i) : ¬FabReg i := fun k => absurd k.2 (by omega)

/-! ### The reactions of the regions (R33) -/

theorem enterSafe_fab (c : Nat) (r : Req) (s : State) : FabKept s (enterSafe c r s) := fun i hi =>
  (enterSafe_deep c r s).reg fun b => by
    obtain ⟨h1, h2⟩ := hi
    have hlist : ∀ l : List Nat, (∀ j ∈ l, ¬FabReg j) → l.contains i = false := fun l hl =>
      Bool.eq_false_iff.mpr fun hc => hl i (List.contains_iff_mem.mp hc) ⟨h1, h2⟩
    have hne : ∀ j, ¬FabReg j → (i == j) = false := fun j hj => Bool.eq_false_iff.mpr fun he => hj (by rw [← beq_iff_eq.mp he]; exact ⟨h1, h2⟩)
    unfold deepBit calmBit islBit unitBit statBit selBit haltBit
    rw [hlist deepRegs (by decide), hlist [R.ACT_A_CTRL 0, R.ACT_A_CTRL 1, R.ACT_A_CTRL 2] (by decide),
      hlist [R.PROT_SS_STAT 0, R.PROT_SS_STAT 1] (by decide), hne R.DCL_STAT (by decide), hne R.DCL_FLAGS (by decide),
      hne R.ACT_LV_STAT (by decide), hne R.GLV_STAT (by decide), decide_eq_false (by omega : ¬0x400 ≤ i),
      decide_eq_false (by omega : ¬0xB08 ≤ i)]
    rfl

theorem recEnd_fab (st : Nat) (s : State) : FabKept s (recEnd st s) := by
  unfold recEnd
  split
  · exact .refl s
  · extract_lets d rc u v w
    have hu : FabKept s u := .of_regs rfl
    clear_value u
    have hv : FabKept s v := by
      unfold v recArm
      exact (hu.congr rfl).setFld _ _ (by decide)
    clear_value v
    have hw : FabKept s w := .ite (hv.setBit _ _ (by decide)) hv
    clear_value w
    exact .ite hu (hw.raise _ _ _)

theorem failReport_fab (f : PFail) (s : State) : FabKept s (failReport f s) := .of_regs rfl

theorem mapReload_fab (m : Nat) (s : State) : FabKept s (mapReload m s) := by
  unfold mapReload
  split
  · exact .refl s
  · extract_lets tr u v w x
    have hu : FabKept s u := .of_regs rfl
    clear_value u
    have hv : FabKept s v := (hu.setReg _ (not_fab_of_high (by unfold R.TRX_M_AXT; omega))).setReg _
      (not_fab_of_high (by unfold R.TRX_M_AXW; omega))
    clear_value v
    have hw : FabKept s w := (hv.setReg _ (not_fab_of_high (by unfold R.TRX_M_AXV; omega))).setReg _
      (not_fab_of_high (by unfold R.TRX_M_CRC; omega))
    clear_value w
    have hx : FabKept s x := hw.setBit _ _ (by decide)
    clear_value x
    exact .ite ((hx.setBit _ _ (by decide)).raise _ _ _) ((hx.setBit _ _ (by decide)).raise _ _ _)

theorem tablesFail_fab (s : State) : FabKept s (tablesFail s) :=
  ((mapReload_fab 0 s).trans (mapReload_fab 1 _)).trans (failReport_fab _ _)

theorem mirrorDone_fails (s : State) : FabKept s (mirrorDone false s) := by
  unfold mirrorDone
  split
  · exact .refl s
  · extract_lets lf u l
    have hu : FabKept s u := (FabKept.of_regs rfl).setBit _ _ (by decide)
    clear_value u
    rw [if_neg (by simp)]
    exact (hu.setBit _ _ (by decide)).raise _ _ _

theorem transferLost_fab (s : State) : FabKept s (transferLost s) := by
  unfold transferLost
  split
  · exact mirrorDone_fails s
  · exact .of_regs rfl

theorem exchangeFails_fab (s : State) : FabKept s (exchangeFails s) := by
  unfold exchangeFails
  split
  · unfold leapBack putRun updAudit
    extract_lets so x u v
    have hx : FabKept s x := .of_regs rfl
    clear_value x
    have hu : FabKept s u := hx.setFlds _ (by decide)
    clear_value u
    have hv : FabKept s v := hu.setFlds _ (by decide)
    clear_value v
    exact ((hv.setBit _ _ (by decide)).raise _ _ _).audit _
  · unfold updEndActivation updFail updGo
    split
    · exact ((((FabKept.refl s).setFld _ _ (by decide)).setFld _ _ (by decide)).setBit _ _ (by decide)).raise _ _ _
    · exact .refl s

theorem poolFails_fab (b : Nat) (s : State) : FabKept s (poolFails b s) := by
  have hr : FabKept s (poolRetire b s) := by
    unfold poolRetire putPool
    exact (FabKept.of_regs rfl).setFld _ _ (by decide)
  unfold poolFails
  split
  · exact hr
  · extract_lets u
    have hu : FabKept s u := .ite (.refl s) hr
    clear_value u
    exact .ite hu (.ite (hu.trans (failReport_fab _ _)) (.ite (hu.trans (tablesFail_fab _)) (hu.trans (failReport_fab _ _))))

theorem lifeLoad_fab (r : Option LifeRec) (s : State) : FabKept s (lifeLoad r s) := by
  have hshow : ∀ n x, FabKept x (lifeShow n x) := fun n x => by
    unfold lifeShow State.setSfld
    exact ((FabKept.refl x).setFld _ _ (not_fab_of_high (by unfold R.LIFE_I_TJ; omega))).setFld _ _
      (not_fab_of_high (by unfold R.LIFE_I_DMG; omega))
  unfold lifeLoad
  extract_lets x lf u
  have hu : FabKept s u := .of_regs rfl
  clear_value u
  unfold forEach
  refine hu.trans ?_
  generalize List.range 48 = l
  clear hu
  induction l generalizing u with
  | nil => exact .refl u
  | cons n l ih => exact (hshow n u).trans (ih _)

theorem canEnd_fab (c k st : Nat) (s : State) : FabKept s (canEnd c k st s) := by
  unfold canEnd
  extract_lets x y u tout
  have hu : FabKept s u := .ite ((FabKept.refl s).incFld _ _ (not_fab_of_high (by unfold R.CAN_C_STAT; omega))) (.refl s)
  clear_value u
  refine .ite ?_ (.ite ?_ (.ite (.of_regs rfl) (hu.congr rfl)))
  · unfold canDone
    exact (FabKept.of_regs rfl).setBitAt _ _ _ (not_fab_of_high (by unfold R.CAN_C_TXDONE; omega))
  · unfold canShowQ
    exact (FabKept.of_regs rfl).setFld _ _ (not_fab_of_high (by unfold R.CAN_C_STAT; omega))

theorem bufferDrops_fab (b : Buf) (s : State) : FabKept s (bufferDrops b s) := by
  cases b with
  | ask k => exact .of_regs rfl
  | reply k => exact .of_regs rfl
  | rx c =>
    unfold bufferDrops canShowRx
    exact (FabKept.of_regs rfl).setFld _ _ (not_fab_of_high (by unfold R.CAN_C_RXSTAT; omega))
  | tx c k q =>
    show FabKept s (txLost c k q s)
    unfold txLost canFlag
    extract_lets x v y w
    have hset : ∀ z, FabKept s (setCan c z s) := fun _ => .of_regs rfl
    have hv : FabKept s v := (hset _).trans (canEnd_fab c k 4 _)
    clear_value v
    have hw : FabKept s w := hv.congr rfl
    clear_value w
    exact .ite ((hw.setBitAt _ _ _ (by decide)).raise _ _ _) hw
  | part c i => exact .of_regs rfl
  | pair => exact .of_regs rfl

theorem bufferLost_fab (s : State) : FabKept s (bufferLost s) := by
  unfold bufferLost
  extract_lets l
  refine .ite (.refl s) ?_
  rw [draw_spec]
  exact (FabKept.of_regs rfl).trans (bufferDrops_fab _ _)

/-- No region's reaction writes a register of the interior's block. -/
theorem regionReact_fab (off : Nat) (s : State) : FabKept s (regionReact off s) := by
  have hsafe := enterSafe_fab Cause.glove reqInternal s
  unfold regionReact
  extract_lets g
  refine .ite (recEnd_fab 3 s) (.ite hsafe (.ite ?_ (.ite (transferLost_fab s) (.ite (exchangeFails_fab s) (.ite ?_ (.ite ?_
    (.ite (.of_regs rfl) (.ite (.of_regs rfl) (.ite (failReport_fab _ s) (.ite (bufferLost_fab s) (.ite hsafe
    (.ite (lifeLoad_fab _ s) (poolFails_fab _ s)))))))))))))
  · split
    · exact failReport_fab _ s
    · exact .refl s
  · exact .ite (.refl s) (tablesFail_fab s)
  · exact .ite (.refl s) (failReport_fab _ s)

end Sys2Proof.Machine
end

section
/-! SUPPORT. The interior's readings, and the settling of O7 (R18, R22, R31 to R33, R661). -/

namespace Sys2Proof.Machine

set_option Elab.async false

theorem State.logs_tick (e : Nat) (s : State) : (s.tick e).logs = s.logs := rfl

/-! ### The pace (R18) -/

/-- The pace shown, and whether a run below 256 goes on. -/
def paceShown (pace : Nat) (s : State) : State :=
  { s.setFld R.FAB_PACE F.FAB_PACE.PACE pace with boot := { s.boot with paceRun := decide (pace < 256) } }

theorem paceShown_spec (pace : Nat) (s : State) : let t := paceShown pace s
    t.fld R.FAB_PACE F.FAB_PACE.PACE = pace % 2 ^ F.FAB_PACE.PACE.width ∧ t.boot.paceRun = decide (pace < 256) ∧
    OnlyRegs [R.FAB_PACE] s t ∧ Alter (2 ^ 67 ||| 2 ^ 69) s t ∧ t.logs = s.logs := by
  intro t
  unfold t paceShown
  have hfld : (s.setFld R.FAB_PACE F.FAB_PACE.PACE pace).fld R.FAB_PACE F.FAB_PACE.PACE = pace % 2 ^ F.FAB_PACE.PACE.width :=
    State.fld_setFld_eq _ (by decide)
  have honly := (OnlyRegs.refl [R.FAB_PACE] s).setFld F.FAB_PACE.PACE pace (List.mem_cons_self ..)
  have ha : Alter (2 ^ 67 ||| 2 ^ 69) s (s.setFld R.FAB_PACE F.FAB_PACE.PACE pace) := (alter_setFld ..).mono rfl
  have hlogs : (s.setFld R.FAB_PACE F.FAB_PACE.PACE pace).logs = s.logs := rfl
  have hboot : s.boot = (s.setFld R.FAB_PACE F.FAB_PACE.PACE pace).boot := rfl
  rw [hboot]
  generalize s.setFld R.FAB_PACE F.FAB_PACE.PACE pace = x at *
  have hx : ∀ b, Alter (2 ^ 69) x { x with boot := b } ∧ ({ x with boot := b } : State).regs = x.regs := fun b => ⟨alter_boot _ _, rfl⟩
  have hl : ({ x with boot := { x.boot with paceRun := decide (pace < 256) } } : State).logs = x.logs := rfl
  exact ⟨(State.fld_of_reg (Alter.reg_of_regs (hx _).2 _) _).trans hfld, rfl, honly.congr (hx _).2, ha.and ((hx _).1.mono rfl),
    hl.trans hlogs⟩

theorem paceMeasured_low {pace : Nat} {s : State} (hl : s.logs = true) (hp : pace < 256) : paceMeasured pace s =
    if s.boot.paceRun then (paceShown pace s).setBit R.FAB_FLAGS F.FAB_FLAGS.PACE_LOW true
    else ((paceShown pace s).setBit R.FAB_FLAGS F.FAB_FLAGS.PACE_LOW true).raise EV.PACE_LOW 0xFF [] := by
  unfold paceMeasured
  rw [hl]
  exact (if_neg (by decide)).trans (if_neg (by omega))

theorem paceMeasured_good {pace : Nat} {s : State} (hl : s.logs = true) (hp : 256 ≤ pace) : paceMeasured pace s = paceShown pace s := by
  unfold paceMeasured
  rw [hl]
  exact (if_neg (by decide)).trans (if_pos hp)

theorem Alter.patchPace {s t : State} (a : Alter (2 ^ 65 ||| 2 ^ 66 ||| 2 ^ 67 ||| 2 ^ 69) s t) :
    t = { s with el := t.el, dt := t.dt, boot := t.boot, regs := t.regs } :=
  a.eq_patch

theorem Alter.patchPaceTold {s t : State} (a : Alter (2 ^ 65 ||| 2 ^ 66 ||| 2 ^ 67 ||| 2 ^ 69 ||| 2 ^ 74 ||| 2 ^ 76) s t) :
    t = { s with el := t.el, dt := t.dt, boot := t.boot, regs := t.regs, ev := t.ev, rcd := t.rcd } :=
  a.eq_patch

theorem pace_low (e : Nat) {p : BitVec 16} {s : State} (hl : s.logs = true) (hp : p.toNat < 256) :
    Answers (.paceMeasurement e p) s fun t =>
       t.fld R.FAB_PACE F.FAB_PACE.PACE = p.toNat ∧ t.bit R.FAB_FLAGS F.FAB_FLAGS.PACE_LOW = true ∧
       t.boot.paceRun = true ∧
       OnlyRegs (logRegs ++ [R.FAB_PACE, R.FAB_FLAGS]) s t ∧
       t = { s with el := t.el, dt := t.dt, boot := t.boot, regs := t.regs, ev := t.ev, rcd := t.rcd } ∧
       (s.boot.paceRun = false → LogReady s → Logs EV.PACE_LOW 0xFF s t) ∧ (s.boot.paceRun = true → t.ev = s.ev) := by
  refine .of_next rfl ?_
  rw [paceMeasured_low (s := s.tick e) hl hp]
  obtain ⟨x1, x2, x3, x4, x5⟩ := paceShown_spec p.toNat (s.tick e)
  have htick := alter_tick e s
  have hlogs : (s.tick e).logs = s.logs := State.logs_tick e s
  have hrun : (s.tick e).boot = s.boot := htick.boot rfl
  have hev : (s.tick e).ev = s.ev := htick.ev rfl
  have hregs : OnlyRegs (logRegs ++ [R.FAB_PACE, R.FAB_FLAGS]) s (s.tick e) := OnlyRegs.tick e s
  generalize s.tick e = v at *
  generalize paceShown p.toNat v = x at *
  have hy := alter_setBit R.FAB_FLAGS F.FAB_FLAGS.PACE_LOW true x
  have hbit : (x.setBit R.FAB_FLAGS F.FAB_FLAGS.PACE_LOW true).bit R.FAB_FLAGS F.FAB_FLAGS.PACE_LOW = true :=
    State.bit_setBit_eq _ (by decide)
  have hfld : (x.setBit R.FAB_FLAGS F.FAB_FLAGS.PACE_LOW true).fld R.FAB_PACE F.FAB_PACE.PACE = x.fld R.FAB_PACE F.FAB_PACE.PACE :=
    State.fld_of_reg (State.reg_setBit_ne _ _ _ (by decide)) _
  have hylogs : (x.setBit R.FAB_FLAGS F.FAB_FLAGS.PACE_LOW true).logs = x.logs := rfl
  have honly : OnlyRegs (logRegs ++ [R.FAB_PACE, R.FAB_FLAGS]) v (x.setBit R.FAB_FLAGS F.FAB_FLAGS.PACE_LOW true) :=
    (x3.mono (by decide)).setBit _ _ (by decide)
  generalize x.setBit R.FAB_FLAGS F.FAB_FLAGS.PACE_LOW true = y at *
  have hy' : Alter (2 ^ 67) x y := hy.mono (rm_high (by decide) rfl)
  have hvy : Alter (2 ^ 67 ||| 2 ^ 69) v y := x4.and (hy'.mono rfl)
  have hpace : y.fld R.FAB_PACE F.FAB_PACE.PACE = p.toNat := by
    rw [hfld, x1]
    exact Nat.mod_eq_of_lt p.isLt
  have hlow : y.boot.paceRun = true := by
    rw [hy'.boot rfl, x2]
    exact decide_eq_true hp
  rw [hrun]
  split
  · rename_i hgo
    have hall : Alter (2 ^ 65 ||| 2 ^ 66 ||| 2 ^ 67 ||| 2 ^ 69 ||| 2 ^ 74 ||| 2 ^ 76) s y := (htick.mono rfl).and (hvy.mono rfl)
    exact ⟨hpace, hbit, hlow, hregs.trans honly, hall.patchPaceTold, fun h => absurd (h.symm.trans hgo) (by decide),
      fun _ => (hvy.ev rfl).trans hev⟩
  · rename_i hgo
    have hr := alter_raise EV.PACE_LOW 0xFF [] y
    have hreg : ∀ i, i ∉ logRegs → (y.raise EV.PACE_LOW 0xFF []).reg i = y.reg i := fun i => State.raise_reg _ _ _ _ i
    have hlog : LogReady y → Logs EV.PACE_LOW 0xFF y (y.raise EV.PACE_LOW 0xFF []) := State.raise_logs _ _ _ y
    have hro : OnlyRegs (logRegs ++ [R.FAB_PACE, R.FAB_FLAGS]) v (y.raise EV.PACE_LOW 0xFF []) :=
      honly.raise _ _ _ (List.subset_append_left ..)
    generalize y.raise EV.PACE_LOW 0xFF [] = z at *
    have hall : Alter (2 ^ 65 ||| 2 ^ 66 ||| 2 ^ 67 ||| 2 ^ 69 ||| 2 ^ 74 ||| 2 ^ 76) s z :=
      ((htick.mono rfl).and (hvy.mono rfl)).and (hr.mono rfl)
    refine ⟨(State.fld_of_reg (hreg _ (by decide)) _).trans hpace, (State.bit_of_reg (hreg _ (by decide)) _).trans hbit, ?_,
      hregs.trans hro, hall.patchPaceTold, fun _ hready => ?_, fun h => absurd h hgo⟩
    · rw [hr.boot rfl]
      exact hlow
    · have hev' : y.ev = s.ev := (hvy.ev rfl).trans hev
      have hready' : LogReady y := ⟨(hylogs.trans x5).trans (hlogs.trans hready.1), by rw [hev']; exact hready.2⟩
      exact (hlog hready').of_ev hev'

theorem pace_good (e : Nat) {p : BitVec 16} {s : State} (hl : s.logs = true) (hp : 256 ≤ p.toNat) :
    Answers (.paceMeasurement e p) s fun t =>
       t.fld R.FAB_PACE F.FAB_PACE.PACE = p.toNat ∧ t.boot.paceRun = false ∧ OnlyRegs [R.FAB_PACE] s t ∧
       t = { s with el := t.el, dt := t.dt, boot := t.boot, regs := t.regs } := by
  refine .of_next rfl ?_
  rw [paceMeasured_good (s := s.tick e) hl hp]
  obtain ⟨x1, x2, x3, x4, -⟩ := paceShown_spec p.toNat (s.tick e)
  have htick := alter_tick e s
  have hregs : OnlyRegs [R.FAB_PACE] s (s.tick e) := OnlyRegs.tick e s
  generalize paceShown p.toNat (s.tick e) = x at *
  have hall : Alter (2 ^ 65 ||| 2 ^ 66 ||| 2 ^ 67 ||| 2 ^ 69) s x := (htick.mono rfl).and (x4.mono rfl)
  exact ⟨x1.trans (Nat.mod_eq_of_lt p.isLt), x2.trans (decide_eq_false (by omega)), hregs.trans x3, hall.patchPace⟩

/-! ### The longest waits (R22) -/

theorem handshake_ends (e : Nat) (l : Fin 5) (n : Nat) (s : State) : Answers (.handshakeWaitEnd e l n) s fun t =>
       t.fld (R.FAB_BLOCK_MAX l) F.FAB_BLOCK_MAX.MAX =
         max (s.fld (R.FAB_BLOCK_MAX l) F.FAB_BLOCK_MAX.MAX) (min n (2 ^ 32 - 1)) ∧
       RegsOnly s t ∧ OnlyRegs [R.FAB_BLOCK_MAX l] s t := by
  refine .of_next (t := handshakeEnds l n (s.tick e)) rfl ?_
  have htick := alter_tick e s
  have hregs : OnlyRegs [R.FAB_BLOCK_MAX l] s (s.tick e) := OnlyRegs.tick e s
  have hold : (s.tick e).fld (R.FAB_BLOCK_MAX l) F.FAB_BLOCK_MAX.MAX = s.fld (R.FAB_BLOCK_MAX l) F.FAB_BLOCK_MAX.MAX :=
    State.fld_of_reg rfl _
  have hlt : s.fld (R.FAB_BLOCK_MAX l) F.FAB_BLOCK_MAX.MAX < 2 ^ 32 := Fld.get_lt _ _
  generalize s.tick e = v at *
  have heq : handshakeEnds l n v = v.setFld (R.FAB_BLOCK_MAX l) F.FAB_BLOCK_MAX.MAX
      (max (v.fld (R.FAB_BLOCK_MAX l) F.FAB_BLOCK_MAX.MAX) (min (2 ^ 32 - 1) n)) := rfl
  rw [heq, hold]
  generalize s.fld (R.FAB_BLOCK_MAX l) F.FAB_BLOCK_MAX.MAX = k at *
  have ha : Alter (2 ^ 65 ||| 2 ^ 66 ||| 2 ^ 67) s (v.setFld (R.FAB_BLOCK_MAX l) F.FAB_BLOCK_MAX.MAX (max k (min (2 ^ 32 - 1) n))) :=
    (htick.mono rfl).and ((alter_setFld ..).mono (rm_high (by unfold R.FAB_BLOCK_MAX; omega) rfl))
  refine ⟨(State.fld_setFld_eq _ (by decide)).trans ?_, .of_alter ha, hregs.trans ((OnlyRegs.refl _ v).setFld _ _ (List.mem_cons_self ..))⟩
  show max k (min (2 ^ 32 - 1) n) % 2 ^ 32 = max k (min n (2 ^ 32 - 1))
  rw [Nat.min_comm, Nat.mod_eq_of_lt (by omega)]

/-! ### Words of the interior's memories (R32, R33) -/

/-- A word that was not good is shown. -/
def scrubNoted (word : Nat) (fatal : Bool) (s : State) : State :=
  (s.setFld R.FAB_ECC F.FAB_ECC.LAST_WORD word).setBit R.FAB_ECC F.FAB_ECC.LAST_FATAL fatal

theorem scrubNoted_spec {word : Nat} (hw : word < 2 ^ 22) (fatal : Bool) (s : State) : let t := scrubNoted word fatal s
    t.fld R.FAB_ECC F.FAB_ECC.LAST_WORD = word ∧ t.bit R.FAB_ECC F.FAB_ECC.LAST_FATAL = fatal ∧
    t.fld R.FAB_ECC F.FAB_ECC.CORR_COUNT = s.fld R.FAB_ECC F.FAB_ECC.CORR_COUNT ∧ OnlyRegs [R.FAB_ECC] s t ∧ Alter (2 ^ 67) s t := by
  intro t
  unfold t scrubNoted
  refine ⟨?_, State.bit_setBit_eq _ (by decide), ?_, ((OnlyRegs.refl _ s).setFld _ _ (by decide)).setBit _ _ (by decide),
    ((alter_setFld ..).mono (rm_high (by decide) rfl)).and ((alter_setBit ..).mono (rm_high (by decide) rfl))⟩
  · rw [State.fld_setBit_beside _ (by decide), State.fld_setFld_eq _ (by decide)]
    exact Nat.mod_eq_of_lt hw
  · rw [State.fld_setBit_beside _ (by decide), State.fld_setFld_beside _ (by decide)]

/-- A word corrected is counted and flagged. -/
def scrubCorrected (word : Nat) (s : State) : State :=
  ((scrubNoted word false s).incFld R.FAB_ECC F.FAB_ECC.CORR_COUNT 1).setBit R.FAB_FLAGS F.FAB_FLAGS.ECC_CORR true

theorem sramScrub_corrected {word : Nat} {s : State} (hl : s.logs = true) : sramScrub word 1 s = scrubCorrected word s := by
  unfold sramScrub
  rw [hl]
  rfl

/-- A word beyond correction is flagged and told, before its region reacts. -/
def scrubFatal (word : Nat) (s : State) : State :=
  ((scrubNoted word true s).setBit R.FAB_FLAGS F.FAB_FLAGS.ECC_FATAL true).raise EV.ECC_FATAL 0xFF
    (eccNames word (scrubNoted word true s))

theorem sramScrub_fatal {word : Nat} {s : State} (hl : s.logs = true) :
    sramScrub word 2 s = regionReact (8 * word) (scrubFatal word s) := by
  unfold sramScrub
  rw [hl]
  rfl

theorem scrubFatal_spec {word : Nat} (hw : word < 2 ^ 22) (s : State) : let t := scrubFatal word s
    t.fld R.FAB_ECC F.FAB_ECC.LAST_WORD = word ∧ t.bit R.FAB_ECC F.FAB_ECC.LAST_FATAL = true ∧
    t.bit R.FAB_FLAGS F.FAB_FLAGS.ECC_FATAL = true ∧ t.fld R.FAB_ECC F.FAB_ECC.CORR_COUNT = s.fld R.FAB_ECC F.FAB_ECC.CORR_COUNT ∧
    (LogReady s → Logs EV.ECC_FATAL 0xFF s t) ∧ OnlyRegs (logRegs ++ [R.FAB_ECC, R.FAB_FLAGS]) s t ∧
    Alter (2 ^ 67 ||| 2 ^ 74 ||| 2 ^ 76) s t := by
  intro t
  unfold t scrubFatal
  obtain ⟨x1, x2, x3, x4, x5⟩ := scrubNoted_spec hw true s
  generalize scrubNoted word true s = x at *
  generalize eccNames word x = names
  have hbit : (x.setBit R.FAB_FLAGS F.FAB_FLAGS.ECC_FATAL true).bit R.FAB_FLAGS F.FAB_FLAGS.ECC_FATAL = true :=
    State.bit_setBit_eq _ (by decide)
  have hreg : (x.setBit R.FAB_FLAGS F.FAB_FLAGS.ECC_FATAL true).reg R.FAB_ECC = x.reg R.FAB_ECC := State.reg_setBit_ne _ _ _ (by decide)
  have hy : Alter (2 ^ 67) x (x.setBit R.FAB_FLAGS F.FAB_FLAGS.ECC_FATAL true) := (alter_setBit ..).mono (rm_high (by decide) rfl)
  have ho : OnlyRegs (logRegs ++ [R.FAB_ECC, R.FAB_FLAGS]) s (x.setBit R.FAB_FLAGS F.FAB_FLAGS.ECC_FATAL true) :=
    (x4.mono (by decide)).setBit _ _ (by decide)
  generalize x.setBit R.FAB_FLAGS F.FAB_FLAGS.ECC_FATAL true = y at *
  have hsy : Alter (2 ^ 67) s y := x5.and hy
  have hecc : (y.raise EV.ECC_FATAL 0xFF names).reg R.FAB_ECC = x.reg R.FAB_ECC := (State.raise_reg _ _ _ y _ (by decide)).trans hreg
  refine ⟨(State.fld_of_reg hecc _).trans x1, (State.bit_of_reg hecc _).trans x2,
    (State.bit_of_reg (State.raise_reg _ _ _ y _ (by decide)) _).trans hbit, (State.fld_of_reg hecc _).trans x3, fun hl => ?_,
    ho.raise _ _ _ (List.subset_append_left ..), (hsy.mono rfl).and ((alter_raise ..).mono rfl)⟩
  exact (State.raise_logs _ _ _ y (hl.congr (hsy.boot rfl) (hsy.ev rfl))).of_ev (hsy.ev rfl)

theorem scrubCorrected_spec {word : Nat} (hw : word < 2 ^ 22) (s : State) : let t := scrubCorrected word s
    t.fld R.FAB_ECC F.FAB_ECC.LAST_WORD = word ∧ t.bit R.FAB_ECC F.FAB_ECC.LAST_FATAL = false ∧
    t.fld R.FAB_ECC F.FAB_ECC.CORR_COUNT = satInc F.FAB_ECC.CORR_COUNT.width (s.fld R.FAB_ECC F.FAB_ECC.CORR_COUNT) 1 ∧
    t.bit R.FAB_FLAGS F.FAB_FLAGS.ECC_CORR = true ∧ OnlyRegs [R.FAB_ECC, R.FAB_FLAGS] s t ∧ Alter (2 ^ 67) s t := by
  intro t
  obtain ⟨x1, x2, x3, x4, x5⟩ := scrubNoted_spec hw false s
  unfold t scrubCorrected State.incFld
  generalize scrubNoted word false s = x at *
  have hn : satInc F.FAB_ECC.CORR_COUNT.width (x.fld R.FAB_ECC F.FAB_ECC.CORR_COUNT) 1 < 2 ^ F.FAB_ECC.CORR_COUNT.width :=
    Nat.lt_of_le_of_lt (Nat.min_le_right ..) (by decide)
  rw [x3] at hn ⊢
  generalize satInc F.FAB_ECC.CORR_COUNT.width (s.fld R.FAB_ECC F.FAB_ECC.CORR_COUNT) 1 = n at *
  have hy : Alter (2 ^ 67) x (x.setFld R.FAB_ECC F.FAB_ECC.CORR_COUNT n) := (alter_setFld ..).mono (rm_high (by decide) rfl)
  have h1 : (x.setFld R.FAB_ECC F.FAB_ECC.CORR_COUNT n).fld R.FAB_ECC F.FAB_ECC.LAST_WORD = x.fld R.FAB_ECC F.FAB_ECC.LAST_WORD :=
    State.fld_setFld_beside _ (by decide)
  have h2 : (x.setFld R.FAB_ECC F.FAB_ECC.CORR_COUNT n).bit R.FAB_ECC F.FAB_ECC.LAST_FATAL = x.bit R.FAB_ECC F.FAB_ECC.LAST_FATAL :=
    State.bit_setFld_beside _ (by decide)
  have h3 : (x.setFld R.FAB_ECC F.FAB_ECC.CORR_COUNT n).fld R.FAB_ECC F.FAB_ECC.CORR_COUNT = n :=
    (State.fld_setFld_eq _ (by decide)).trans (Nat.mod_eq_of_lt hn)
  have ho : OnlyRegs [R.FAB_ECC, R.FAB_FLAGS] s (x.setFld R.FAB_ECC F.FAB_ECC.CORR_COUNT n) :=
    (x4.mono (by decide)).setFld _ _ (by decide)
  generalize x.setFld R.FAB_ECC F.FAB_ECC.CORR_COUNT n = y at *
  have hz : Alter (2 ^ 67) y (y.setBit R.FAB_FLAGS F.FAB_FLAGS.ECC_CORR true) := (alter_setBit ..).mono (rm_high (by decide) rfl)
  have hreg : (y.setBit R.FAB_FLAGS F.FAB_FLAGS.ECC_CORR true).reg R.FAB_ECC = y.reg R.FAB_ECC := State.reg_setBit_ne _ _ _ (by decide)
  exact ⟨(State.fld_of_reg hreg _).trans (h1.trans x1), (State.bit_of_reg hreg _).trans (h2.trans x2), (State.fld_of_reg hreg _).trans h3,
    State.bit_setBit_eq _ (by decide), ho.setBit _ _ (by decide), (x5.and hy).and hz⟩

theorem scrub_corrects (e : Nat) (w : BitVec 22) {s : State} (hl : s.logs = true) : Answers (.sramScrub e w 1) s fun t =>
       t.fld R.FAB_ECC F.FAB_ECC.LAST_WORD = w.toNat ∧ t.bit R.FAB_ECC F.FAB_ECC.LAST_FATAL = false ∧
       t.fld R.FAB_ECC F.FAB_ECC.CORR_COUNT =
         satInc F.FAB_ECC.CORR_COUNT.width (s.fld R.FAB_ECC F.FAB_ECC.CORR_COUNT) 1 ∧
       t.bit R.FAB_FLAGS F.FAB_FLAGS.ECC_CORR = true ∧ RegsOnly s t ∧ OnlyRegs [R.FAB_ECC, R.FAB_FLAGS] s t := by
  refine .of_next (t := sramScrub w.toNat 1 (s.tick e)) rfl ?_
  rw [sramScrub_corrected (s := s.tick e) hl]
  have hregs : OnlyRegs [R.FAB_ECC, R.FAB_FLAGS] s (s.tick e) := OnlyRegs.tick e s
  obtain ⟨x1, x2, x3, x4, x5, x6⟩ := scrubCorrected_spec w.isLt (s.tick e)
  generalize scrubCorrected w.toNat (s.tick e) = x at *
  have hall : Alter (2 ^ 65 ||| 2 ^ 66 ||| 2 ^ 67) s x := ((alter_tick e s).mono rfl).and (x6.mono rfl)
  exact ⟨x1, x2, x3, x4, .of_alter hall, hregs.trans x5⟩

theorem scrub_flags (e : Nat) (w : BitVec 22) {s : State} (hl : s.logs = true) : Answers (.sramScrub e w 2) s fun t =>
       t.fld R.FAB_ECC F.FAB_ECC.LAST_WORD = w.toNat ∧ t.bit R.FAB_ECC F.FAB_ECC.LAST_FATAL = true ∧
       t.bit R.FAB_FLAGS F.FAB_FLAGS.ECC_FATAL = true ∧ t.fld R.FAB_ECC F.FAB_ECC.CORR_COUNT =
         s.fld R.FAB_ECC F.FAB_ECC.CORR_COUNT := by
  refine .of_next (t := sramScrub w.toNat 2 (s.tick e)) rfl ?_
  rw [sramScrub_fatal (s := s.tick e) hl]
  have hold : (s.tick e).fld R.FAB_ECC F.FAB_ECC.CORR_COUNT = s.fld R.FAB_ECC F.FAB_ECC.CORR_COUNT := State.fld_of_reg rfl _
  obtain ⟨x1, x2, x3, x4, -⟩ := scrubFatal_spec w.isLt (s.tick e)
  generalize scrubFatal w.toNat (s.tick e) = x at *
  have hr := regionReact_fab (8 * w.toNat) x
  have hecc : (regionReact (8 * w.toNat) x).reg R.FAB_ECC = x.reg R.FAB_ECC := hr _ (by decide)
  have hflags : (regionReact (8 * w.toNat) x).reg R.FAB_FLAGS = x.reg R.FAB_FLAGS := hr _ (by decide)
  exact ⟨(State.fld_of_reg hecc _).trans x1, (State.bit_of_reg hecc _).trans x2, (State.bit_of_reg hflags _).trans x3,
    (State.fld_of_reg hecc _).trans (x4.trans hold)⟩

/-- The storage manager's buffers with no mirror in progress lose the description being stored. -/
theorem regionReact_storage {off : Nat} {s : State} (h1 : 0x1200000 ≤ off) (h2 : off < 0x1400000) (hp : s.life.pend = none) :
    regionReact off s = { s with plc := { s.plc with storing := false } } := by
  have hb : mirrorBusy s = false := by
    unfold mirrorBusy
    rw [hp]
    rfl
  unfold regionReact transferLost
  rw [if_neg (by omega), if_neg (by omega), if_neg (by omega), if_pos h2, hb]
  rfl

/-- The gloves' store enters SAFE. -/
theorem regionReact_glove {off : Nat} {s : State} (h1 : 0xC00000 ≤ off) (h2 : off < 0x1000000) :
    regionReact off s = enterSafe Cause.glove reqInternal s := by
  unfold regionReact
  rw [if_neg (by omega), if_pos h2]

theorem Alter.patchStored {s t : State} (a : Alter (2 ^ 65 ||| 2 ^ 66 ||| 2 ^ 67 ||| 2 ^ 74 ||| 2 ^ 76) s t) :
    t = { s with el := t.el, dt := t.dt, regs := t.regs, ev := t.ev, rcd := t.rcd } :=
  a.eq_patch

theorem scrub_storage (e : Nat) {w : BitVec 22} {s : State} (hl : s.logs = true) (hp : s.life.pend = none)
    (h1 : 0x1200000 ≤ 8 * w.toNat) (h2 : 8 * w.toNat < 0x1400000) : Answers (.sramScrub e w 2) s fun t =>
       (LogReady s → Logs EV.ECC_FATAL 0xFF s t) ∧ t.plc = { s.plc with storing := false } ∧
       LogsOnly s { t with plc := s.plc } ∧
       OnlyRegs (logRegs ++ [R.FAB_ECC, R.FAB_FLAGS]) s t := by
  refine .of_next (t := sramScrub w.toNat 2 (s.tick e)) rfl ?_
  rw [sramScrub_fatal (s := s.tick e) hl]
  have htick := alter_tick e s
  have hregs : OnlyRegs (logRegs ++ [R.FAB_ECC, R.FAB_FLAGS]) s (s.tick e) := OnlyRegs.tick e s
  obtain ⟨-, -, -, -, x5, x6, x7⟩ := scrubFatal_spec w.isLt (s.tick e)
  generalize scrubFatal w.toNat (s.tick e) = x at *
  have hlife : x.life.pend = none := by
    rw [x7.life rfl, htick.life rfl]
    exact hp
  have hplc : x.plc = s.plc := (x7.plc rfl).trans (htick.plc rfl)
  have hall : Alter (2 ^ 65 ||| 2 ^ 66 ||| 2 ^ 67 ||| 2 ^ 74 ||| 2 ^ 76) s x := (htick.mono rfl).and (x7.mono rfl)
  rw [regionReact_storage h1 h2 hlife]
  have hset : ∀ q, ({ x with plc := q } : State).ev = x.ev ∧ ({ x with plc := q } : State).plc = q ∧
      ({ x with plc := q } : State).regs = x.regs ∧ ({ ({ x with plc := q } : State) with plc := x.plc } : State) = x :=
    fun _ => ⟨rfl, rfl, rfl, rfl⟩
  obtain ⟨y1, y2, y3, y4⟩ := hset { x.plc with storing := false }
  generalize ({ x with plc := { x.plc with storing := false } } : State) = y at *
  refine ⟨fun hready => ?_, by rw [y2, hplc], ?_, (hregs.trans x6).congr y3⟩
  · exact ((x5 (hready.congr (htick.boot rfl) (htick.ev rfl))).of_ev (htick.ev rfl)).to_ev y1
  · rw [← hplc, y4]
    exact hall.patchStored

theorem scrub_glove (e : Nat) {w : BitVec 22} {s : State} (hl : s.logs = true) (hm : s.mode ≠ Mode.standby)
    (h1 : 0xC00000 ≤ 8 * w.toNat) (h2 : 8 * w.toNat < 0x1000000) :
    Answers (.sramScrub e w 2) s fun t => EntersSafe Cause.glove s t := by
  refine .of_next (t := sramScrub w.toNat 2 (s.tick e)) rfl ?_
  rw [sramScrub_fatal (s := s.tick e) hl, regionReact_glove h1 h2]
  have hregs : OnlyRegs (logRegs ++ [R.FAB_ECC, R.FAB_FLAGS]) s (s.tick e) := OnlyRegs.tick e s
  obtain ⟨-, -, -, -, -, x6, -⟩ := scrubFatal_spec w.isLt (s.tick e)
  have ho := hregs.trans x6
  generalize scrubFatal w.toNat (s.tick e) = x at *
  have hmode : x.reg R.DEV_MODE = s.reg R.DEV_MODE := ho _ (by decide)
  exact (enterSafe_spec Cause.glove reqInternal x (by rw [State.mode_of_reg hmode]; exact hm)).of_regs hmode (ho _ (by decide))

/-! ### Boundary scan (R661) -/

theorem extest_entered (e : Nat) (s : State) : Answers (.boundaryScanExtest e true) s fun t =>
       t.extest = true ∧ t.fld R.ACT_LV_STAT F.ACT_LV_STAT.GATE = 0 ∧ OnlyRegs [R.ACT_LV_STAT] s t ∧
       t = { s with el := t.el, dt := t.dt, extest := true, regs := t.regs } := by
  refine .of_next (t := bscanExtest true (s.tick e)) rfl ?_
  unfold bscanExtest
  rw [if_pos rfl]
  exact ⟨rfl, State.fld_setFld_eq _ (by decide), OnlyRegs.setFld (.of_regs rfl) _ _ (by decide), rfl⟩

theorem extest_left (e : Nat) (s : State) : Answers (.boundaryScanExtest e false) s fun t => t = { s.tick e with extest := false } :=
  .of_next rfl rfl

/-! ### The obligation -/

/-- Settles O7: each reading by what it shows, and an uncorrectable word by what its region makes of it. -/
theorem interiorReports : Obligations.InteriorReports := by
  unfold Obligations.InteriorReports
  exact ⟨fun e p s hl hp => pace_low e hl hp, fun e p s hl hp => pace_good e hl hp, handshake_ends, fun e w s hl => scrub_corrects e w hl,
    fun e w s hl => scrub_flags e w hl, fun e w s hl hp h1 h2 => scrub_storage e hl hp h1 h2,
    fun e w s hl hm h1 h2 => scrub_glove e hl hm h1 h2, fun e w s => .of_next rfl (if_pos (by simp)), extest_entered, extest_left⟩

end Sys2Proof.Machine
end
